-- ==== Sys2Proof/Word.lean ====
section
/-!
DEFINITION. The words of the Portik and their plainest arithmetic.
A register is one 32-bit DWORD (R475); HBM and message content is bytes; ashlar records are 64-bit words.
-/
namespace Sys2Proof

/-- One register DWORD (R475). -/
abbrev Word := BitVec 32

/-- One byte of HBM, of a message or of a line character. -/
abbrev Byte := BitVec 8

/-- One 64-bit word: an ashlar record, an output record word or one SRAM block's data (R323). -/
abbrev DWord := BitVec 64

/-- A sparse table: keys strictly rising. An absent key stands for the table's default. -/
abbrev SMap (α : Type) := List (Nat × α)

end Sys2Proof
end

