-- ==== Sys2Proof/Syntax.lean ====
section
/-!
DEFINITION. The commands of the Portik: one constructor of Instr for each row of spec/opcode_table.json, with the facts
from outside the block that the row needs (a written value, a received message, a measured quantity, which of several it names).
-/
namespace Sys2Proof

/-- A moment of absolute time (R34): 64-bit seconds, 32-bit nanoseconds, 16-bit fraction of 2⁻¹⁶ ns. -/
structure AbsTime where
  sec : BitVec 64
  ns : BitVec 32
  frac : BitVec 16
  deriving DecidableEq, Repr, Inhabited

/-- What a course tick finds outside the block: absolute time at the tick, whether a QUO_XO signal is present and how far it
lies within its limits (R45), whether each domain's phase error is within ±20 ps (R36), and the differences of absolute time
between the domains and from the local time, in 2⁻¹⁶ ns (R50, R51, QUO_DIFF). -/
structure TickObs where
  time : AbsTime
  xoPresent : Bool
  xoWithin100ppm : Bool
  xoWithin5pct : Bool
  phaseOkA : Bool
  phaseOkB : Bool
  aMinusB : Int
  aMinusLocal : Int
  bMinusLocal : Int
  deriving DecidableEq, Repr

/-- A Sync as received (R33, R34). -/
structure PtpSync where
  domainNumber : BitVec 8
  sequenceId : BitVec 16
  twoStep : Bool
  origin : AbsTime
  /-- correctionField, signed, 2⁻¹⁶ ns. -/
  correction : BitVec 64
  /-- Receive time stamp at the point of R33. -/
  received : AbsTime
  deriving DecidableEq, Repr

/-- A Follow_Up as received (R34). -/
structure PtpFollowUp where
  domainNumber : BitVec 8
  sequenceId : BitVec 16
  origin : AbsTime
  correction : BitVec 64
  deriving DecidableEq, Repr

/-- A Delay_Resp as received (R34). `ours`: its requestingPortIdentity is the Portik's own. -/
structure PtpDelayResp where
  domainNumber : BitVec 8
  sequenceId : BitVec 16
  ours : Bool
  received : AbsTime
  correction : BitVec 64
  deriving DecidableEq, Repr

/-- An Announce as received (R34). -/
structure PtpAnnounce where
  domainNumber : BitVec 8
  ptpTimescale : Bool
  /-- logMessageInterval, signed. -/
  logInterval : BitVec 8
  deriving DecidableEq, Repr

/-- Two bits of a ring block have been inverted when a reader comes to it (R155): the BT of the bucket, the place of the entry in the bucket, and
whether the block is the link of its page instead. -/
structure RingFault where
  bt : Fin 64
  entry : Nat
  link : Bool
  deriving DecidableEq, Repr

/-- An uncorrectable error that a unit's ring reader meets (R155, R212): course, table group and place. -/
structure ExtractFault where
  course : Nat
  group : Fin 32
  fault : RingFault
  deriving DecidableEq, Repr

/-- The severity that an HBM read reports (R332): none, one of the correctable severities with its code, uncorrectable. -/
inductive HbmSeverity where
  | none
  | corrected (code : BitVec 2)
  | uncorrectable
  deriving DecidableEq, Repr

/-- Where an HBM read lies (R332): the row as RETIRE_ADD names it, and the column. -/
structure HbmLoc where
  row : BitVec 32
  col : BitVec 8
  deriving DecidableEq, Repr

/-- What a read of a protected SRAM block finds (R324, R325): a corrected error with its syndrome, an uncorrectable one, or a failure of
the state parity. -/
inductive SramError where
  | corrected (syndrome : BitVec 16)
  | uncorrectable
  | stateParity
  deriving DecidableEq, Repr

/-- A Burir frame as a lane receives it (R67, R93): its characters, and whether a code error stood in it. -/
structure RxFrame where
  chars : List Byte
  codeError : Bool
  deriving DecidableEq, Repr

/-- The read of an archive granule that a restore makes (R330, R332): what the memory reports of it, and where. -/
structure RestoreRead where
  severity : HbmSeverity
  loc : HbmLoc
  deriving DecidableEq, Repr

/-- A BAR0 or BAR2 access that no register or window takes (R345): the port, whether it reaches BAR2, its offset there, whether it writes, and how many
DWORDs it has. -/
structure BarAccess where
  port : Fin 2
  bits : Bool
  offset : BitVec 24
  write : Bool
  dwords : BitVec 11
  deriving DecidableEq, Repr

/-- A reset of a host port's link (R344): PERST_N, or a hot reset, which leaves PERST_N as it is. -/
structure PortReset where
  port : Fin 2
  hot : Bool
  deriving DecidableEq, Repr

/-- A correctable error that a port's AER reports (R362), with its bits of the correctable error status. -/
structure AerReport where
  port : Fin 2
  status : Word
  deriving DecidableEq, Repr

/-- The two control bits of MSI-X (R342, R346): its Enable and the Function Mask. -/
structure MsixControl where
  enable : Bool
  mask : Bool
  deriving DecidableEq, Repr

/-- What a converter's integrator reports at the end of an integration (R392, R395, R401). -/
structure GauReading where
  /-- The differential input voltage, integrated over the unblanked time and divided by the whole period, in 2⁻⁴⁸ V. -/
  input : Int
  /-- The excitation voltage of the channel before it, in 2⁻⁴⁸ V, which is V_REF for BRIDGE_SENSE. -/
  excitation : Nat
  /-- Cycles of the period's clock that were not blanked. -/
  unblanked : Nat
  /-- The integrator saturated in the analogue domain: true above, false below. -/
  saturated : Option Bool
  deriving DecidableEq, Repr

/-- What self-calibration integrates on one converter at one gain (R402): its internal zero and its 2.000 V reference, three times each,
in units of v. -/
structure GauCalReading where
  zero0 : Int
  zero1 : Int
  zero2 : Int
  ref0 : Int
  ref1 : Int
  ref2 : Int
  deriving DecidableEq, Repr

/-- What is read back of an output's period (R408): the time at the high level and the period, in cycles of one clock, and the edges met. -/
structure GauReadback where
  high : Nat
  period : Nat
  edges : Nat
  deriving DecidableEq, Repr

/-- The moment at which a foundation reset would complete (R428): FOUND_RST_N is low; the copies of the Cornerstone's control area whose CRC is good
(R447). -/
structure ResetEnd where
  low : Bool
  control : BitVec 3
  deriving DecidableEq, Repr

/-- The instructions of the JTAG port (R465). -/
inductive JtagInstr where
  | bypass | samplePreload | extest | clamp | highz | extestPulse | extestTrain
  deriving DecidableEq, Repr

/-- What happens at the JTAG port: a TAP reset, or an instruction with the bits shifted into the register that it selects. -/
inductive JtagOp where
  | tapReset
  | load (i : JtagInstr) (data : List Bool)
  | trst (low : Bool)
  | shift (on : Bool)
  deriving DecidableEq, Repr

/-- Why a protective trip occurred (R423). -/
inductive TripCause where
  | underVoltage | dieTemperature | stageTemperature
  deriving DecidableEq, Repr

/-- The snapshot banks of a port (R357), of a bed group by its number. -/
inductive BankId where
  | quo | plb | gau | crs | qry | mrt | flt
  | bed (g : Fin 32)
  deriving DecidableEq, Repr


/-- The commands, in the order of the table. -/
inductive Instr where
  /-- R9. Every 1,536 core cycles a course tick starts course C and applies the ordered tick actions in all planes. `obs`: what the tick finds outside
  the block. -/
  | courseTick (obs : TickObs)
  /-- R26. The orbit counter increments at the first BT of each orbit, and a new orbit length takes effect. -/
  | orbitStart
  /-- R48. A received ORBIT_START aligns the local orbit, or raises TIME_ORBIT_MISMATCH. -/
  | orbitStartRx (d : Fin 2)
  /-- R35. Signal detected on a quoin link takes its domain to ALIGNING. -/
  | quoSignalDetect (d : Fin 2)
  /-- R35. 1,024 consecutive valid BT frames take the domain from ALIGNING to TRACKING. -/
  | quoAlignCountDone (d : Fin 2)
  /-- R37. Loss of signal or CDR lock on a quoin link takes a tracked domain to LOST with cause 1. -/
  | quoLossOfSignal (d : Fin 2)
  /-- R37. 8 consecutive BT frames without a valid K28.5 take the domain to LOST with cause 2. -/
  | quoFramingLoss (d : Fin 2)
  /-- R37. No Sync for 4 intervals takes the domain to LOST with cause 3. -/
  | syncTimeout (d : Fin 2)
  /-- R37. No Announce for 3 intervals takes the domain to LOST with cause 4. -/
  | announceTimeout (d : Fin 2)
  /-- R37. A recovered frequency beyond ±200 ppm takes the domain to LOST with cause 6. -/
  | timeFreqRange (d : Fin 2)
  /-- R37. No type 0x02 message for 4,096 BT takes the domain to LOST with cause 8. -/
  | domainBtCountTimeout (d : Fin 2)
  /-- R34. A received Sync message updates the domain's offset, and 3 offsets out of range give LOST cause 5. -/
  | ieee1588Sync (d : Fin 2) (msg : PtpSync)
  /-- R34. A Follow_Up is paired with its two-step Sync by sequenceId. -/
  | ieee1588FollowUp (d : Fin 2) (msg : PtpFollowUp)
  /-- R34. A Delay_Resp is matched to the Portik's Delay_Req and completes a delay exchange. -/
  | ieee1588DelayResp (d : Fin 2) (msg : PtpDelayResp)
  /-- R34. A received Announce sets the timescale and restarts the receipt timeout. -/
  | ieee1588Announce (d : Fin 2) (msg : PtpAnnounce)
  /-- R46. A type 0x02 message is checked against the BT offset, and a mismatch gives LOST cause 7. `n`: the count it carries; `edges`: the BT edges
  counted since the last one. -/
  | domainBtCount (d : Fin 2) (n : BitVec 64) (edges : Nat)
  /-- R32. A quoin message of unknown type, bad CRC or excess length is discarded and counted. -/
  | timeMsgBad (d : Fin 2)
  /-- R34. At the LOG_DREQ interval the Quoin sends a Delay_Req and optionally queues its time stamp. `sent`: its transmit time. -/
  | delayReqSend (d : Fin 2) (sent : AbsTime)
  /-- R40. The phase pull onto the active domain completes, and the servo becomes LOCKED. -/
  | acquireComplete
  /-- R43. Holdover exceeding QUO_HOLD_LIMIT courses raises the fault and quality counts as FREE. -/
  | timeHoldExpired
  /-- R49. The switch-over difference has been slewed out at 1 fu per course and SLEWING clears. -/
  | slewComplete
  /-- R55. A write of QUO_TX_CTL with SEND queues the message in QUO_TX_BUF for transmission. -/
  | quoTxSend (p : Fin 2) (value : Word)
  /-- R55. The last byte of the host message is sent, TX_BUSY clears and a stamp is queued if requested. `sent`: the transmit time. -/
  | quoTxDone (sent : AbsTime)
  /-- R53. A write moves the oldest transmit time stamp into the snapshot with selector 6. -/
  | quoTxqPop (p : Fin 2) (value : Word)
  /-- R59. A downlink clock advance reaches its new value and SLEWING clears. -/
  | dlAdvanceSlewDone (p : Fin 64)
  /-- R68. Every 5 BT a downlink sends a frame carrying its frame mark, a fast command, a block field and any marker. -/
  | downlinkFrame (d : Fin 64)
  /-- R77. Every 256 BT a restart request falls due for each bound lane in TRAIN, LOCK or EXCHANGE. -/
  | restartRequestDue (d : Fin 64)
  /-- R107. A write with SEND queues a host fast command unless BUSY. -/
  | bedDlFcSend (p : Fin 2) (d : Fin 64) (value : Word)
  /-- R87. A downlink transmit PLL loses lock and the downlink squelches to electrical idle. -/
  | dlPllUnlock (d : Fin 64)
  /-- R87. The PLL relocks and the downlink resumes at the next frame mark. -/
  | dlPllRelock (d : Fin 64)
  /-- R75. Setting or clearing ENABLE takes a lane to DETECT or to DOWN with cause 4. -/
  | laneEnableWrite (p : Fin 2) (l : Fin 256) (value : Word)
  /-- R75. Signal above threshold for 40 BT takes a lane from DETECT to TRAIN. -/
  | laneSignalDetect (l : Fin 256)
  /-- R75. Clock recovery locked and DFE taps settled take a lane from TRAIN to LOCK. -/
  | laneTrainDone (l : Fin 256)
  /-- R75. 1,250 courses in TRAIN or 64 in LOCK return a lane to DETECT with TRAIN_FAIL. -/
  | laneTrainTimeout (l : Fin 256)
  /-- R75. 2,048 courses in EXCHANGE without a valid record return a lane to DETECT. -/
  | laneExchangeTimeout (l : Fin 256)
  /-- R75. Clause 36 synchronisation acquired takes a lane from LOCK to EXCHANGE. -/
  | laneSyncAcquired (l : Fin 256)
  /-- R78. A received capability record is checked, and a valid record activates, waits for binding or quarantines the lane. `crc`: the
  CRC-32C received with it. -/
  | exchangeBlockRx (l : Fin 256) (record : BitVec 128) (crc : BitVec 32)
  /-- R80. Loss of signal for 2 BT takes a lane out of its state (cause 1 if ACTIVE). -/
  | laneLossOfSignal (l : Fin 256)
  /-- R80. Loss of clock-recovery lock takes an ACTIVE lane to TRAIN or DOWN with cause 2. -/
  | laneCdrUnlock (l : Fin 256)
  /-- R80. Loss of Clause 36 synchronisation takes an ACTIVE lane to TRAIN or DOWN with cause 3. -/
  | laneSyncLoss (l : Fin 256)
  /-- R81. RETRAINS resets at every course tick whose number is a multiple of 65,536. -/
  | retrainCountReset
  /-- R67. An invalid code group or disparity error is counted and may raise BED_CODE_ERR. -/
  | laneCodeError (l : Fin 256)
  /-- R57. A partner's K28.1 echo is time-stamped for delay measurement. `round`: the round it answers; `trip`: the round trip in fu. -/
  | echoReceived (l : Fin 256) (round : Nat) (trip : Nat)
  /-- R93. A delimited data frame is parsed, checked, policed and its hits passed to the crossbar. `closed`: it ended by K29.7; `lag`: the BT by
  which its header word arrived before its end. -/
  | burirDataFrame (l : Fin 256) (frame : RxFrame) (closed : Bool) (lag : Nat)
  /-- R114. A span start more than 120 BT behind with no frame is declared missing. -/
  | spanTimeout (l : Fin 256)
  /-- R109. A configuration response frame completes the outstanding PARTNER_CONFIG transaction. -/
  | configResponseFrame (l : Fin 256) (frame : RxFrame)
  /-- R109. No response within 4,096 BT ends the transaction with a timeout. -/
  | partnerCfgTimeout (p : Fin 64)
  /-- R124. An engine corrects a hit word or waveform group and writes the resulting record to the course ring. `residueGood`: the residue check of
  the arithmetic passes. -/
  | ashlarHit (e : Fin 9) (residueGood : Bool)
  /-- R138. Two ticks after entering SYNC an engine becomes ACTIVE or SPARE. -/
  | engineSyncDone (e : Fin 9)
  /-- R141. At the tick of K+1 duplication ends, stragglers are discarded and the former engine goes to SYNC. -/
  | migrationDrainEnd (slot : Fin 8)
  /-- R130. Two ticks after a swap the former bank's PREV_BUSY clears. -/
  | prevBusyEnd (g : Fin 32)
  /-- R167. A coder starts a course when it closes or when the previous course is finished. -/
  | molusCourseStart (m : Fin 4)
  /-- R165. A block is coded, verified or copied raw and handed to the quarry controllers. `errs`: the upsets its ring reads meet;
  `diff`: the first differing entry where verification failed. -/
  | molusBlockDone (m : Fin 4) (errs : List RingFault) (diff : Option Nat)
  /-- R167. At the tick of N+4 unstarted blocks of course N are copied raw and STAGE_OVERRUN is raised. -/
  | molusDeadline (m : Fin 4)
  /-- R176. A full or closed stone is written to HBM, moving the history start and breaking pins as needed. -/
  | stoneWriteDone
  /-- R177. At core cycle 1,024 of course N+5 an open stone holding course N is padded and closed. -/
  | stoneClose
  /-- R181. Once all blocks of a course are in HBM its quarry index entry is written. -/
  | indexPublish
  /-- R181. Accounts reaching a published course are merged by rewriting its entry, at most once per tick. -/
  | indexRewrite (course : BitVec 56)
  /-- R185. A pinned quarry read for a late accept, fall-back, recall or job completes with CRC checks. `burst`: the stones in which the read meets an
  uncorrectable burst. -/
  | quarryRead (burst : List Nat)
  /-- R186. A request waiting for pin space pins its stones once enough are unpinned. -/
  | pinSpaceFreed
  /-- R196. A BAR4 read returns HBM contents, zero or all ones by region and state. `errs`: 32-byte bursts, by QA div 32, that HBM reports
  uncorrectable, with their places. -/
  | hostWindowRead (p : Fin 2) (offset : Word) (length : Nat) (errs : List (Nat × HbmLoc))
  /-- R196. A BAR4 write is performed in image or scratch areas, or refused. `data`: its bytes, none where the byte enable is off. -/
  | hostWindowWrite (p : Fin 2) (offset : Word) (data : List (Option Byte))
  /-- R200. A write to QRY_FIND[2] starts a search of the index for a time. -/
  | qryFind (p : Fin 2) (value : Word)
  /-- R200. The time search completes and its capture appears with selector 2. -/
  | qryFindDone (p : Fin 2)
  /-- R333. The Repointer reads and checks one HBM granule and acts by region. `khz`: the bunch clock. -/
  | hbmScrubGranule (sev : HbmSeverity) (burst : Fin 128) (loc : HbmLoc) (khz : BitVec 16)
  /-- R328. Every SRAM_INTERVAL cycles one table block per group is scrubbed and corrected or queued for restore. -/
  | sramScrubBlock (g : Fin 32)
  /-- R330. The Repointer restores a DAMAGED table block from its archive granule. -/
  | tableRestore (read : RestoreRead)
  /-- R324. A protected SRAM read finds a correctable or uncorrectable block. `number`: which one of the memory; `block`: the block. -/
  | sramReadError (memory : Fin 11) (number : Nat) (block : Nat) (err : SramError) (master : Fin 14)
  /-- R332. An HBM read burst reports a corrected or uncorrectable on-die ECC severity. -/
  | hbmReadError (qa : BitVec 36) (sev : HbmSeverity) (loc : HbmLoc) (master : Fin 14)
  /-- R339. A write arming MEM_INJECT inverts bits in the next block written to the named memory. -/
  | memInjectArm (p : Fin 2) (value : Word)
  /-- R339. A write arming BTR_INJECT inverts one bit of one copy after step 1 of the next tick. -/
  | btrInjectArm (p : Fin 2) (value : Word)
  /-- R204. An accept message is checked, numbered and entered prompt or late, or given gap records. -/
  | accept (d : Fin 2) (body : List Byte)
  /-- R204. A recall message is checked and entered, then served from the quarry in pieces. -/
  | recallMessage (d : Fin 2) (body : List Byte)
  /-- R213. The next recall piece of up to 16 courses is submitted when the previous piece's reads finish. -/
  | recallPieceSubmit (u : Fin 4)
  /-- R211. A unit's ring reader finishes extracting an accept's needed buckets. `id`: the table entry; `faults`: the uncorrectable errors met. -/
  | extractionDone (u : Fin 4) (id : Nat) (faults : List ExtractFault)
  /-- R217. A fragment becomes complete once its records and the accounts of its window courses are written. -/
  | fragmentComplete (t : Fin 48) (id : Nat)
  /-- R217. A stream releases its complete list head when credit covers it and assigns its sequence number. `khz`: the bunch clock. -/
  | recordRelease (t : Fin 48) (khz : BitVec 16)
  /-- R220. A fragment waiting for a free cell takes one when it frees. -/
  | cellWait (t : Fin 48) (id : Nat)
  /-- R220. A list head that waited HEAD_WAIT courses for a cell is truncated. -/
  | headWaitExpiry (t : Fin 48)
  /-- R221. An uncorrectable cell error turns an unreleased record into a gap record or inverts a sent CRC. `key`: the table entry before release, the
  sequence number after it. -/
  | mrtCellUncorr (u : Fin 4) (cell : BitVec 16) (t : Fin 48) (key : Nat) (released : Bool)
  /-- R227. Writing FLUSH turns every unreleased fragment of the stream into a flushed record. -/
  | flush (p : Fin 2) (t : Fin 48)
  /-- R204. Writing RESYNC marks the expected trigger number not valid. -/
  | resync (p : Fin 2) (value : Word)
  /-- R228. A unit leaving service turns its unreleased records into gap records with reason UNIT_OUT. -/
  | mrtUnitOut (u : Fin 4)
  /-- R236. At LNT_LATENCY-48 cycles an arrival group closes and its coincidences and counts are formed. `err`: the stage at which a residue or
  history check fails. -/
  | lintelGroupClose (err : Option Nat)
  /-- R235. At LNT_LATENCY cycles the primitive frame of a group leaves every enabled Lintel lane. -/
  | lintelFrameSend
  /-- R263. A CREDIT message replaces GRANTED for its uplink or is discarded as backward. -/
  | credit (r : Fin 16) (message : BitVec 64)
  /-- R263. An INIT message sets GRANTED and CONSUMED and takes an IDLE uplink to ACTIVE. -/
  | init (r : Fin 16) (message : BitVec 64)
  /-- R262. A credit message with a bad CRC, type or reserved bits is discarded and counted. -/
  | uplCreditBad (r : Fin 16) (message : BitVec 64)
  /-- R261. A return lane loses synchronisation and raises UPL_RL_LOST. -/
  | rlSyncLost (r : Fin 16)
  /-- R261. A return lane regains synchronisation and takes credit messages again. -/
  | rlSyncGained (r : Fin 16)
  /-- R259. Every 256 characters an IDLE uplink sends an init request. -/
  | initRequestSend (u : Fin 64)
  /-- R264. A record block finishes on an uplink, consuming its credits. -/
  | recordBlockSent (u : Fin 64)
  /-- R265. An uplink group's PLL unlocks, its uplinks go DOWN and blocks in transmission are cut. -/
  | uplPllUnlock (h : Fin 8)
  /-- R257. QUO_XO disappears and the uplink PLL holds its last control word. -/
  | uplRefHold (h : Fin 8)
  /-- R265. Writing an uplink's ENABLE takes it to DOWN or brings it up. -/
  | uplLinkEnableWrite (p : Fin 2) (u : Fin 64) (value : Word)
  /-- R268. A write to UPL_STREAM_MAP is taken only for an idle disabled stream, else MAP_REFUSED. -/
  | streamMapWrite (p : Fin 2) (t : Fin 48) (value : Word)
  /-- R301. A detector's report reaches the fault collector. `index`: which of the reports under way. -/
  | faultReport (index : Nat)
  /-- R301. After a 64-cycle hold a report is logged, classified and given its reaction level. -/
  | faultLog
  /-- R314. A reaction shadow closes and still-holding conditions resurface as primary entries. -/
  | shadowClose
  /-- R317. A source with no primary report for 2^QUIET courses returns to IDLE. -/
  | quietRecovery (source : BitVec 12)
  /-- R319. A write acknowledges one log entry. -/
  | fltAck (p : Fin 2) (value : Word)
  /-- R319. A write acknowledges a source's entries up to a sequence number. -/
  | fltAckUpto (p : Fin 2) (value : Word)
  /-- R308. A write of the newest level-4 entry number requests a data-plane restart or is refused. -/
  | fltDpCtl (p : Fin 2) (value : Word)
  /-- R321. A write loads a log entry into the fault snapshot. -/
  | fltSnapSeq (p : Fin 2) (value : Word)
  /-- R318. A write loads a source's first-error capture into the fault snapshot. -/
  | fltSnapSrc (p : Fin 2) (value : Word)
  /-- R357. A write to a snapshot selector clears VALID and starts a capture. -/
  | snapshotSelect (p : Fin 2) (bank : BankId) (value : Word)
  /-- R357. The capture is taken, the data words replaced and VALID set. -/
  | snapshotCapture (p : Fin 2) (bank : BankId)
  /-- R355. A write of the current SEQ to an event register clears its event bits. -/
  | sqcClearWrite (p : Fin 2) (offset : BitVec 24) (value : Word)
  /-- R352. A write of a CNT_CLR or CLR bit clears the counters of its block. -/
  | cntClr (p : Fin 2) (offset : BitVec 24) (value : Word)
  /-- R352. A write to a register without its own row takes effect in its block or becomes pending. -/
  | registerWrite (p : Fin 2) (offset : BitVec 24) (value : Word)
  /-- R345. A BAR0 or BAR2 access of wrong length or byte enables completes without effect. -/
  | badAccess (access : BarAccess)
  /-- R348. A write to HST_OWNER changes the owning port when permitted. -/
  | hstOwnerWrite (p : Fin 2) (value : Word)
  /-- R359. The first write to DEVICE_ID or INSTALL_POSITION is taken and journalled; later writes raise LOCK_WRITE. `position`: INSTALL_POSITION,
  else DEVICE_ID. -/
  | onceWrite (p : Fin 2) (position : Bool) (value : Word)
  /-- R361. A BAR2 write changes one register bit only. -/
  | bitAliasWrite (p : Fin 2) (offset : BitVec 23) (value : Word)
  /-- R351. A vector's event sends an MSI-X message or sets its pending bit. -/
  | msixMessage (p : Fin 2) (vector : Fin 32)
  /-- R351. After HOLDOFF cycles merged events of a vector send one message. -/
  | irqHoldoffExpiry (p : Fin 2) (vector : Fin 32)
  /-- R344. PERST_N or hot reset returns a port's link and configuration space to defaults. -/
  | perstAssert (reset : PortReset)
  /-- R344. Release of PERST_N lets the port's link train. -/
  | perstRelease (p : Fin 2)
  /-- R344. A function-level reset returns the port's configuration space to defaults. -/
  | hstFlr (p : Fin 2)
  /-- R344. A host port's link leaves L0 without reset. `training`: the training state. -/
  | hstLinkDown (p : Fin 2) (training : Word)
  /-- R344. A host port's link reaches L0. -/
  | hstLinkUp (p : Fin 2) (width : Fin 5) (speed : Fin 5)
  /-- R344. An uncorrectable error reported through AER raises the fault. -/
  | hstAerUncorr (p : Fin 2) (status : Word) (header : BitVec 128)
  /-- R362. A correctable error reported through AER is counted. -/
  | aerCorr (report : AerReport)
  /-- R365. Writing SUBMIT copies the descriptor and assigns the command a sequence number. -/
  | ldgMbSubmit (p : Fin 2) (m : Fin 8) (value : Word)
  /-- R369. Writing the held response's sequence number releases it. -/
  | ldgMbAck (p : Fin 2) (m : Fin 8) (value : Word)
  /-- R368. A completed response enters the free response buffer and sets VALID. -/
  | responsePlaced (m : Fin 8)
  /-- R374. A command passing its maximum time raises LDG_OVERTIME once. `cycles`: its running time in core cycles. -/
  | ldgOvertime (m : Fin 8) (cycles : Word)
  /-- R372. A command with an opcode not in the set completes with UNKNOWN. -/
  | unknownOpcode (m : Fin 8)
  /-- R380. The command changes named domains one at a time to OFF, HOLD or ON. -/
  | powerSet (m : Fin 8)
  /-- R378. The command returns the state of every domain. -/
  | powerQuery (m : Fin 8)
  /-- R110. The command binds or unbinds a partner's lanes in the partner map. -/
  | partnerBind (m : Fin 8)
  /-- R108. The command forwards one register transaction to a partner and awaits its response. -/
  | partnerConfig (m : Fin 8)
  /-- R83. The command retrains or releases the masked lanes. -/
  | laneTrain (m : Fin 8)
  /-- R57. The command measures the downlink flight time of each masked partner. -/
  | delayMeasure (m : Fin 8)
  /-- R128. The command writes an offset image range into the archive and one offset bank. -/
  | calLoad (m : Fin 8)
  /-- R128. The command writes walk regions into the archive and one walk bank. -/
  | walkLoad (m : Fin 8)
  /-- R130. The command switches offset and walk banks of masked groups at one tick. -/
  | calSwap (m : Fin 8)
  /-- R51. The command requests a switch of the active timing domain at the tick. -/
  | timeDomainSelect (m : Fin 8)
  /-- R140. The command moves a slot to the spare engine with an ownership boundary K. -/
  | engineMigrate (m : Fin 8)
  /-- R270. The command moves a stream role to a target uplink at boundary K. -/
  | streamMove (m : Fin 8)
  /-- R382. The job copies stored blocks or stones of a course range to host memory. `burst`: the stones in which a read meets an uncorrectable burst.
  -/
  | quarryExport (m : Fin 8) (burst : List Nat)
  /-- R383. The job writes a recall fragment of decoded records to host memory. `burst`: as for QUARRY_READ. -/
  | recallHost (m : Fin 8) (burst : List Nat)
  /-- R383. The job decodes blocks of a course range and reports failures. `burst`: as for QUARRY_READ. -/
  | decompressCheck (m : Fin 8) (burst : List Nat)
  /-- R194. The command copies an HBM row to a spare and retires it. -/
  | retireAdd (m : Fin 8)
  /-- R194. The command returns entries of the retirement map. -/
  | retireList (m : Fin 8)
  /-- R340. The command sets the scrub rates and period. -/
  | scrubSet (m : Fin 8)
  /-- R402. The command calibrates the masked Gauge converters. `readings`: what each converter integrates, by gain. -/
  | gaugeSelfcal (m : Fin 8) (readings : List (List GauCalReading))
  /-- R444. The command writes the Plumb capture image to host memory. -/
  | plbRead (m : Fin 8)
  /-- R450. The command writes the Cornerstone journal to host memory and sets CLEAR_CODE. -/
  | cnsRead (m : Fin 8)
  /-- R384. The command clears the journal when CODE matches CLEAR_CODE. -/
  | cnsClear (m : Fin 8)
  /-- R385. The command acknowledges many log entries at once. -/
  | faultAckBulk (m : Fin 8)
  /-- R378. The command loops descriptor words, tests a scratch granule or writes host memory. `wrong`: words of the granule that read back wrong. -/
  | diagLoop (m : Fin 8) (wrong : Nat)
  /-- R392. A Gauge integration period ends and its result is published. -/
  | conversionEnd (k : Fin 21) (reading : GauReading)
  /-- R394. A class B converter's discharge step ends and it moves to the next scanned channel. -/
  | multiplexerStep (k : Fin 21)
  /-- R400. A 1 µA burnout check in the dead time finds a voltage-sensed input open or closed. `isOpen`: the pair exceeds 2.0 V. -/
  | burnoutCheck (k : Fin 21) (isOpen : Bool)
  /-- R393. With ALIGN set, converters begin their first integration at the next whole second. -/
  | gauAlignStart
  /-- R391. A current source reaches compliance and the channel is flagged OPEN. -/
  | gauOpen (c : Fin 64)
  /-- R399. After 10 ms with the monitor clear, OPEN clears. -/
  | gauOpenClear (c : Fin 64)
  /-- R391. A voltage source reaches its current limit and folds back. -/
  | gauExcFault (c : Fin 64)
  /-- R391. Once a second a folded-back voltage source retries. `within`: the load is within the limit. -/
  | excRetry (c : Fin 64) (within : Bool)
  /-- R401. An edge of a selected BLANK_N pin starts or ends blanking. -/
  | blankEdge (pin : Fin 2) (asserted : Bool)
  /-- R406. An interlock output starts a new period with its new value or fault duty. `readback`: of the period that ends. -/
  | gauOutputPeriod (o : Fin 16) (readback : GauReadback)
  /-- R397. A change of excitation or mode discards the conversion in progress and marks the next results SETTLE. -/
  | gauChannelConfigWrite (p : Fin 2) (c : Fin 72) (value : Word)
  /-- R419. A commanded domain change completes and the block starts or stops. -/
  | domainChangeDone (n : Fin 80)
  /-- R420. A domain that does not reach its state within its time is failed and forced OFF. `opened`: its switches opened; else `rail` and its
  measured value. -/
  | pwrDomainFail (n : Fin 80) (opened : Bool) (rail : Fin 11) (measured : Word)
  /-- R415. An input excursion outside 36 V to 75 V raises the fault once. -/
  | pwrInputRange (mv : BitVec 17)
  /-- R430. A sensor reaching WARN raises the fault. -/
  | pwrTempHigh (sensor : Fin 17) (temp : BitVec 16)
  /-- R422. A required rail out of regulation for 10 µs raises a critical fault. -/
  | pwrRailFault (rail : Fin 11) (measured : Word)
  /-- R431. Every 1 ms input, temperature and rail measurements are updated. Input in mV and mA, power in 0.1 W, temperatures in 0.125 °C, the
  rails in mV, signed, the negative side of VANA last. -/
  | pwrMeasureUpdate (mv : BitVec 17) (ma : BitVec 14) (dw : BitVec 12) (temps rails : List (BitVec 16))
  /-- R423. Under-voltage or over-temperature removes all domain power, journals and seals the Cornerstone. The input in
  mV, the 16 sensors of the die and that of the power stage in 0.125 °C. -/
  | protectiveTrip (cause : TripCause) (mv : BitVec 17) (dies : List (BitVec 16)) (stage : BitVec 16)
  /-- R425. The trip latch clears on input return or reset, and the module starts as from cold: the input has risen, or FOUND_RST_N has been low for
  10 ms. -/
  | tripLatchClear
  /-- R426. Input rises above the rising lockout, which R413 puts at 33.5 V to 34.5 V, and foundation reset begins. -/
  | inputValid
  /-- R426. FOUND_RST_N held low for 1 µs resets the foundation and turns every domain OFF. -/
  | foundRstAssert
  /-- R428. Reset completes, domains 50 and 51 are ON and course 0 begins. -/
  | foundationResetDone (reset : ResetEnd)
  /-- R434. A watched signal or value changes and a record is queued. `level`: what a pin of class 1 that other devices drive is sampled at. -/
  | plbChange (slot : Fin 64) (level : Bool)
  /-- R437. A write of ARM arms the Plumb and writes INITIAL records. -/
  | arm (p : Fin 2)
  /-- R437. A write of DISARM takes the Plumb to IDLE. -/
  | disarm (p : Fin 2)
  /-- R439. A write of FIRE fires the Plumb with origin 0. -/
  | fire (p : Fin 2)
  /-- R441. A rising edge on PLB_ARM arms a non-master device. -/
  | plbArmEdge
  /-- R442. A falling edge on PLB_FIRE fires the device with origin 1. -/
  | plbFireEdge
  /-- R442. After 960 core cycles a driving device releases PLB_FIRE. -/
  | plbFireRelease
  /-- R437. POST records or POST_COURSES ticks after the fire take the capture to HELD. -/
  | plbPostDone
  /-- R445. A Cornerstone event is written, verified and the control area updated. `good`: verification passes. -/
  | cnsEventWrite (good : Bool)
  /-- R465. A JTAG instruction acts on the balls through the boundary scan. -/
  | jtagInstruction (op : JtagOp)
  /-- R265. An uplink group's transmit PLL locks to QUO_XO, clearing REF_HOLD, and its enabled uplinks leave DOWN for IDLE or ACTIVE. -/
  | uplPllLock (h : Fin 8)
  /-- R343. A configuration-space write on a host port changes Bus Master Enable, MSI-X Enable or the D-state, which commands and interrupts depend
  on. `d3`: D3hot, else D0. -/
  | pcieConfigWrite (p : Fin 2) (bme : Bool) (msix : MsixControl) (d3 : Bool)
  /-- R393. A Gauge converter's dead time ends and its next integration begins, applying pending gain, NPLC, excitation or mode changes and clearing
  EXC_PENDING. -/
  | integrationStart (k : Fin 21)
  /-- R259. A return lane receives an invalid code group or an unlisted control character, which is counted in UPL_RL_ERR.CODE_ERR. -/
  | rlCodeError (r : Fin 16)
  deriving DecidableEq, Repr

end Sys2Proof
end

