-- ==== Sys2Proof/Config.lean ====
section
/-!
DEFINITION. What the spec leaves open and every Portik fixes in its own way: free values, constants without a body, so that no
proof can see what they are; each has its entry in the assumption log.
-/
namespace Sys2Proof

/-- Absolute time at a moment inside a course, from the absolute time at its tick and the core cycle within it: the spec bounds
how the servo steers it and gives no value (R34 to R44). -/
opaque Config.absTimeWithin : AbsTime → Nat → AbsTime

/-- The course that a QRY_FIND search reports when the time lies before H (1) or after P (2): the spec gives only the result code
(R200). -/
opaque Config.findMiss : Nat → Nat

/-- The cause that LNT_FRAME_SKIP captures for a fall of LNT_LATENCY (0) and for a data-plane stop (1): the spec names the field and
gives it no code (R253, R480). -/
opaque Config.skipCause : Nat → BitVec 32

/-- Words that had left when a block was cut on an uplink in a core cycle of a course, before the limit of the block's length: the
spec gives the line rate and no length of a core cycle (R266, R284). -/
opaque Config.wordsSent : Nat → Nat → Nat → Nat

/-- Absolute time of a course, in 2⁻¹⁶ ns, that R190 would interpolate and that has no readable entry on one side: the spec gives no
value there. -/
opaque Config.stubTime : Nat → Nat

/-- The trigger number that a refusal summary names when only recalls were refused: the spec names the field and no value (R207, R279). -/
opaque Config.noTrigger : Nat

/-- The failed-slot map that the Cornerstone holds after it has rebuilt its control area from the journal, by the number of the next event: the
spec rebuilds the event number, the start count, SEALED and CNS_LOST and says nothing of the map (R447). -/
opaque Config.rebuiltSlots : Nat → List Nat

/-- The link training state that HST_LINK_DOWN captures when a port takes its own link down: the spec gives its states no codes (R311, R344). -/
opaque Config.trainingState : Nat → BitVec 32

/-- Codes by which the adaptation would move a tap of a lane's decision-feedback equaliser in a course, by lane, course and tap: what it reaches is
a matter of the line; R70 bounds each move. -/
opaque Config.dfeStep : Nat → Nat → Nat → Int

/-- The code of a trip's cause in the TRIP event, for under-voltage (0), a die temperature (1) and the power stage's temperature (2): the spec
names the field and gives no code (R446). -/
opaque Config.tripCause : Nat → Nat

/-- Bytes by which the sizing pass of a RECALL_HOST, which reads only the index and the block headers, exceeds the record that it writes, by
first BT, length and partner mask: the spec says that the output fits the size found and gives no formula for it (R197). -/
opaque Config.recallSlack : Nat → Nat → BitVec 64 → Nat

/-- Whether a block that the index already marks as damaged failed its stone check (true) or its block CRC (false), by course and group, as
QUARRY_EXPORT's marker says it: the index keeps no cause (R189, R382). -/
opaque Config.damagedByStone : Nat → Nat → Bool

/-- The stage that LNT_PIPE_ERR captures for an error of the Lintel's history: the spec names the field and gives the stages no numbers (R253). -/
opaque Config.historyStage : BitVec 32

/-- The result of a QRY_FIND search while the index is unreadable, by the time searched for: the spec gives the field three codes and says nothing of
that case (R191, R200). -/
opaque Config.findDark : Nat → Fin 3

/-- The value v of a BRIDGE_SENSE conversion whose excitation voltage is zero, from the input: the spec divides by it and states no result (R395). -/
opaque Config.noReference : Int → Int

/-- The falling under-voltage lockout above the least that R413 allows, in mV. -/
opaque Config.lockoutFalling : Fin 1001

/-- The PCI Express Device Serial Number: unique per module (R342). -/
opaque Config.serialNumber : BitVec 64

end Sys2Proof
end

