-- ==== Sys2Proof/Machine/Bits.lean ====
section
/-!
DEFINITION. Bit fields, saturation, half-range comparison, byte order: the small helpers every block uses.
Bit ranges are written [hi:lo] with the most significant bit first (00, Conventions).
-/
namespace Sys2Proof.Machine

/-- The field [hi:lo] of a register word, as a number. -/
def fld (w : Word) (hi lo : Nat) : Nat := (w.toNat / 2 ^ lo) % 2 ^ (hi + 1 - lo)

/-- Bit `b` of a register word. -/
def bit (w : Word) (b : Nat) : Bool := w.getLsbD b

/-- `v` in the field [hi:lo] of an otherwise zero word; bits above the field are dropped. -/
def mkFld (hi lo v : Nat) : Word := BitVec.ofNat 32 ((v % 2 ^ (hi + 1 - lo)) * 2 ^ lo)

/-- The mask of the field [hi:lo]. -/
def fldMask (hi lo : Nat) : Word := mkFld hi lo (2 ^ 32 - 1)

/-- `w` with the field [hi:lo] replaced by `v`. -/
def setFld (w : Word) (hi lo v : Nat) : Word := (w &&& ~~~ fldMask hi lo) ||| mkFld hi lo v

/-- `w` with bit `b` set to `x`. -/
def setBit (w : Word) (b : Nat) (x : Bool) : Word := setFld w b b x.toNat

/-- `old` with the bits of `mask` taken from `new`. -/
def mergeMask (mask old new : Word) : Word := (old &&& ~~~ mask) ||| (new &&& mask)

/-- The field [hi:lo] read as a two's complement number. -/
def sfld (w : Word) (hi lo : Nat) : Int :=
  let n := hi + 1 - lo
  let v := fld w hi lo
  if v < 2 ^ (n - 1) then (v : Int) else (v : Int) - (2 ^ n : Nat)

/-- `v` read as an `n`-bit two's complement number. -/
def signed (n v : Nat) : Int :=
  let u := v % 2 ^ n
  if u < 2 ^ (n - 1) then (u : Int) else (u : Int) - (2 ^ n : Nat)

/-- `x` written as an `n`-bit two's complement number. -/
def unsigned (n : Nat) (x : Int) : Nat := (x % (2 ^ n : Nat)).toNat

/-- `v` if it fits in `n` bits, else the largest `n`-bit value. -/
def satTo (n v : Nat) : Nat := if v < 2 ^ n then v else 2 ^ n - 1

/-- `x` limited to the range of an `n`-bit two's complement number. -/
def satSigned (n : Nat) (x : Int) : Int :=
  let hi : Int := (2 ^ (n - 1) : Nat) - 1
  if x > hi then hi else if x < - hi - 1 then - hi - 1 else x

/-- Saturating increment of a counter that fills the field [hi:lo]. -/
def incSat (w : Word) (hi lo : Nat) (by_ : Nat := 1) : Word :=
  setFld w hi lo (satTo (hi + 1 - lo) (fld w hi lo + by_))

/-- Wrapping increment of a counter that fills the field [hi:lo]. -/
def incWrap (w : Word) (hi lo : Nat) : Word := setFld w hi lo (fld w hi lo + 1)

/-- R478: `x` is behind `y`, for `n`-bit values. -/
def behind (n x y : Nat) : Bool :=
  let d := (y + 2 ^ n - x % 2 ^ n) % 2 ^ n
  decide (1 ≤ d) && decide (d ≤ 2 ^ (n - 1))

/-- R478: `x` is ahead of `y`, for `n`-bit values. -/
def ahead (n x y : Nat) : Bool :=
  let d := (x + 2 ^ n - y % 2 ^ n) % 2 ^ n
  decide (1 ≤ d) && decide (d ≤ 2 ^ (n - 1) - 1)

/-- R478: `x` is equal to `y` or behind it, for `n`-bit values. -/
def notAfter (n x y : Nat) : Bool := decide (x % 2 ^ n = y % 2 ^ n) || behind n x y

/-- The number that a list of bytes spells, first byte most significant. -/
def beNat (bs : List Byte) : Nat := bs.foldl (fun a b => a * 256 + b.toNat) 0

/-- The number that a list of bytes spells, first byte least significant. -/
def leNat (bs : List Byte) : Nat := bs.foldr (fun b a => a * 256 + b.toNat) 0

/-- `n` bytes of `v`, first byte most significant. -/
def beBytes : Nat → Nat → List Byte
  | 0, _ => []
  | n + 1, v => BitVec.ofNat 8 (v / 256 ^ n) :: beBytes n v

/-- `n` bytes of `v`, first byte least significant. -/
def leBytes : Nat → Nat → List Byte
  | 0, _ => []
  | n + 1, v => BitVec.ofNat 8 v :: leBytes n (v / 256)

/-- A number as a register word. -/
def w32 (n : Nat) : Word := BitVec.ofNat 32 n

/-- A Boolean as 0 or 1. -/
def b2n (b : Bool) : Nat := b.toNat

/-- The exclusive OR of the low `n` bits of `v`. -/
def parityN : Nat → Nat → Bool
  | 0, _ => false
  | n + 1, v => xor (v % 2 == 1) (parityN n (v / 2))

/-- How many of the low `n` bits of `v` are set. -/
def popCount : Nat → Nat → Nat
  | 0, _ => 0
  | n + 1, v => v % 2 + popCount n (v / 2)

/-- The number of the lowest set bit among the low `n` bits of `v`, counted from 0. -/
def lowestBit : Nat → Nat → Option Nat
  | 0, _ => none
  | n + 1, v => if v % 2 = 1 then some 0 else (lowestBit n (v / 2)).map (· + 1)

/-- The number with the bits of a list set. -/
def maskBits (l : List Nat) : Nat := l.foldl (fun m p => m ||| 2 ^ p) 0

/-- `a` rounded down to a multiple of `m`. -/
def alignDown (m a : Nat) : Nat := a / m * m

/-- `a` rounded up to a multiple of `m`. -/
def alignUp (m a : Nat) : Nat := (a + m - 1) / m * m

/-- Integer division rounded to nearest, ties away from zero. -/
def divRound (a : Int) (b : Nat) : Int :=
  if a < 0 then - (((- a).toNat * 2 + b) / (2 * b) : Nat) else ((a.toNat * 2 + b) / (2 * b) : Nat)

/-- Apply a state change once for each number below `n`, in rising order. -/
def forN {σ : Type} (n : Nat) (f : Nat → σ → σ) (s : σ) : σ := (List.range n).foldl (fun t i => f i t) s

/-- Apply a state change once for each element of a list, in order. -/
def forL {σ α : Type} (l : List α) (f : α → σ → σ) (s : σ) : σ := l.foldl (fun t i => f i t) s

/-- An element put into an ordered list, before the first element that it does not follow. -/
def insertBy {α : Type} (le : α → α → Bool) (a : α) : List α → List α
  | [] => [a]
  | b :: t => if le a b then a :: b :: t else b :: insertBy le a t

/-- The list in order; elements that stand equal keep their order. -/
def sortBy {α : Type} (le : α → α → Bool) (l : List α) : List α := l.foldr (insertBy le) []

/-- Numbers in rising order. -/
def sortNat (l : List Nat) : List Nat := sortBy (fun a b => decide (a ≤ b)) l

end Sys2Proof.Machine
end

