-- ==== Sys2Proof/Machine/Codes.lean ====
section
/-!
DEFINITION. The check codes: CRC-8 (R105), CRC-32C, nibble parity (R98) and the row-and-column parity of table blocks (R323).
-/
namespace Sys2Proof.Machine

/-- One bit step of the CRC-8, polynomial 0x07, most significant bit first (R105). -/
def crc8Step (c : BitVec 8) : BitVec 8 := if c.msb then (c <<< 1) ^^^ 0x07 else c <<< 1

/-- Apply a function `n` times. -/
def times {α : Type} (f : α → α) : Nat → α → α
  | 0, a => a
  | n + 1, a => times f n (f a)

/-- R105: CRC-8 over bytes, initial value 0, nothing reflected, no final exclusive OR. -/
def crc8 (bs : List Byte) : BitVec 8 := bs.foldl (fun c b => times crc8Step 8 (c ^^^ b)) 0

/-- One bit step of the CRC-32C in reflected form. -/
def crc32cStep (c : BitVec 32) : BitVec 32 := if c.getLsbD 0 then (c >>> 1) ^^^ 0x82F63B78 else c >>> 1

/-- CRC-32C over bytes: the code the name stands for (polynomial 0x1EDC6F41, reflected, initial value and final exclusive OR all
ones), PRESUMED, since the spec gives only its name. -/
def crc32c (bs : List Byte) : BitVec 32 :=
  ~~~ (bs.foldl (fun c b => times crc32cStep 8 (c ^^^ b.setWidth 32)) (BitVec.allOnes 32))

/-- A CRC-32C as four bytes, most significant first. -/
def crcBytes (bs : List Byte) : List Byte := beBytes 4 (crc32c bs).toNat

/-- R98: the exclusive OR of the twelve nibbles of a 48-bit word. -/
def nibbleXor : Nat → Nat → Nat
  | 0, _ => 0
  | n + 1, w => Nat.xor (w % 16) (nibbleXor n (w / 16))

/-- R98: the parity of a hit word or waveform header holds. -/
def parityGood (w : Nat) : Bool := nibbleXor 12 w == 0

end Sys2Proof.Machine
end

