-- ==== Sys2Proof/Machine/RegMap.lean ====
section
/-!
DEFINITION. The register map: every register of the Portik, its place in BAR0 and the access code and reset value of each field.
Places follow R475 and the index of chapter 21 (FLT_STAT, which the index leaves out, follows R320); fields follow the register
tables of the chapters, read with the access codes of R2. A dash as reset value (QUO_TX_BUF, R4) stands as 0, a DESIGN CHOICE.
-/
namespace Sys2Proof.Machine

/-- The access codes of R2. -/
inductive Acc where
  | rw | ro | wo | sqc | once | cb | keep | lk
  deriving DecidableEq, Repr

/-- One field of a register table: bits [hi:lo], access code, reset value, name. -/
structure Field where
  hi : Nat
  lo : Nat
  acc : Acc
  reset : Nat
  name : String
  deriving DecidableEq, Repr

/-- Where a register array lies: entry `i`, `j` stands at
`base + (i / per) * blk + (i % per) * stride + j * stride2`. -/
structure Place where
  base : Nat
  per : Nat
  blk : Nat
  stride : Nat
  count : Nat
  stride2 : Nat
  count2 : Nat
  deriving DecidableEq, Repr

/-- The registers, in BAR0 order of their first entries. -/
inductive Reg where
  | hstId | hstDeviceId | hstInstallPos | hstWho | hstOwner | hstLock | hstCb | hstStat | hstEvt | hstRefused
  | hstTick | hstPortStat | hstPortCnt | hstIrqEn | hstIrqHoldoff | ldgStat | ldgEvt | ldgCnt | ldgOvertime | ldgCmd
  | ldgRsp | ldgMbSubmit | ldgMbStat | ldgMbAck | fltCtl | fltStat | fltEvt | fltAck | fltAckSrc | fltAckUpto
  | fltLogNewest | fltLogOldest | fltLogLost | fltDpCtl | fltSnapSeq | fltSnapSrc | fltSnapStat | fltSnapData
  | fltSrcCfg | fltSrcStat | btrCtl | btrEvt | btrOutvotes | btrLast | btrLastCourse | btrInject | pwrStat | pwrEvt
  | pwrVin | pwrIin | pwrPin | pwrTempCfg | pwrTempMax | pwrCnt | pwrRailStat | pwrDomStat | pwrDomFail | pwrTemp
  | quoCtl | quoNominal | quoDomainSel | quoStat | quoEvt | quoSwitchMax | quoHoldLimit | quoDiff | quoOrbit
  | quoTxqStat | quoTxqPop | quoSnapSel | quoSnapStat | quoTxqOvf | quoSnapData | quoDomCfg | quoDomStat | quoDomAsym
  | quoTxBuf | quoTxCtl | quoDlPhase | quoPdelay | quoPasym | quoPtrim | quoPrtt | plbCtl | plbCfg | plbPre | plbPost
  | plbStat | plbEvt | plbMissed | plbPostCourses | plbLost | plbSnapSel | plbSnapStat | plbSnapData | plbSig
  | plbDelta | plbThr | plbThrLevel | cnsStat | cnsEvt | cnsLost | cnsStart | cnsLast | cnsClearCode | gauCtl
  | gauStat | gauEvt | gauBlank | gauSnapSel | gauSnapStat | gauSnapData | gauConvCfg | gauConvStat | gauChCfg
  | gauChStat | gauRes | gauCalOfs | gauCalGain | gauOutCfg | gauOutLo | gauOutHi | gauOutFreq | gauOutAux
  | gauOutStat | bedGrpCfg | bedGrpStat | bedGrpCtl | bedSnapSel | bedSnapStat | bedSnapData | bedAcctStat | bedPclr
  | bedLaneCfg | bedLaneStat | bedLaneEvt | bedLaneErr | bedLaneEq | bedLaneCnt | bedDlCfg | bedDlStat | bedDlEvt
  | bedDlFc | bedDlFcArg | bedPmap | bedPchan | bedPid | bedPstat | bedPcntFrame | bedPcntCap | bedPcntSpan | bedPevt
  | bedPpol | ashTgCfg | ashTgStat | ashCalSel | ashEngCtl | ashEngStat | ashEngEvt | ashInDrop | ashCntUncal
  | ashCntShift | ashStraggle | ashCntWave | ashCheckErr | ashSlotMap | ashSpare | ashWaveCfg | ashOrphanDrop
  | ashPregion | ashPtab | crsCtl | crsStat | crsEvt | crsEarlyRel | crsSnapSel | crsSnapStat | crsSnapData | crsFree
  | crsCapDrop | crsOosDrop | crsMemErr | crsLateRec | molCtl | molStat | molEvt | molOverrun | molMismatch
  | molNoshrink | molBigSlot | molBlocks | molRatio | qryCtl | qryStat | qryEvt | qryDepth | qryDepthMin | qryPins
  | qryPinBreaks | qryDamaged | qryReadCrc | qryRetire | qryHwinPage | qryHwinStat | qryHwinAddr | qryFindHi
  | qryFindLo | qryFindNs | qrySnapSel | qrySnapStat | qrySnapData | memCtl | memStat | memEvt | memLastRead
  | memLastAddr | memScrubCfg | memScrubStat | memScrubPos | memRestoreCnt | memHbmCnt | memInject | memCntCorr
  | memCntUncorr | mrtUnitStat | mrtUnitEvt | mrtUnitCnt | mrtUnitTrunc | mrtUnitLatepath | mrtUnitCellerr
  | mrtAccCtl | mrtAccStat | mrtAccEvt | mrtCntAccept | mrtCntRecall | mrtCntLost | mrtCntRefused | mrtCntGap
  | mrtCntDisc | mrtCntIgnored | mrtThrotPool | mrtThrotTable | mrtThrotSelLo | mrtThrotSelHi | mrtThrotStat
  | mrtPoolStat | mrtPoolCfg | mrtSnapSel | mrtSnapStat | mrtSnapData | mrtWindow | mrtClassMapLo | mrtClassMapHi
  | mrtStreamCfg | mrtStreamPmaskLo | mrtStreamPmaskHi | mrtStreamWm | mrtStreamCtl | mrtStreamStat | mrtStreamFrags
  | mrtStreamLate | uplGrpStat | uplLinkCfg | uplLinkStat | uplLinkEvt | uplLinkBal | uplLinkCells | uplLinkCnt
  | uplRlCfg | uplRlStat | uplRlEvt | uplRlErr | uplStreamMap | uplStreamStat | uplStreamCtl | uplStreamCnt | uplEvt
  | lntCtl | lntLatency | lntStat | lntEvt | lntCntAdmit | lntCntOver | lntCntLateTap | lntCntSat | lntCntSkip
  | lntCntFrames | lntPlossLo | lntPlossHi | lntPend | lntLane | lntRegion | lntRegOfs | lntPair | lntCountLo
  | lntCountHi
  deriving DecidableEq, Repr

/-- The place of each register (R475, chapter 21). -/
def Reg.place : Reg → Place
  | .hstId => ⟨0x0, 1, 0x0, 0x0, 1, 0, 1⟩
  | .hstDeviceId => ⟨0x4, 1, 0x0, 0x0, 1, 0, 1⟩
  | .hstInstallPos => ⟨0x8, 1, 0x0, 0x0, 1, 0, 1⟩
  | .hstWho => ⟨0xC, 1, 0x0, 0x0, 1, 0, 1⟩
  | .hstOwner => ⟨0x10, 1, 0x0, 0x0, 1, 0, 1⟩
  | .hstLock => ⟨0x14, 1, 0x0, 0x0, 1, 0, 1⟩
  | .hstCb => ⟨0x18, 1, 0x0, 0x0, 1, 0, 1⟩
  | .hstStat => ⟨0x1C, 1, 0x0, 0x0, 1, 0, 1⟩
  | .hstEvt => ⟨0x20, 1, 0x0, 0x0, 1, 0, 1⟩
  | .hstRefused => ⟨0x24, 1, 0x0, 0x0, 1, 0, 1⟩
  | .hstTick => ⟨0x28, 1, 0x0, 0x0, 1, 0, 1⟩
  | .hstPortStat => ⟨0x100, 2, 0x0, 0x20, 2, 0, 1⟩
  | .hstPortCnt => ⟨0x104, 2, 0x0, 0x20, 2, 0, 1⟩
  | .hstIrqEn => ⟨0x108, 2, 0x0, 0x20, 2, 0, 1⟩
  | .hstIrqHoldoff => ⟨0x10C, 2, 0x0, 0x20, 2, 0, 1⟩
  | .ldgStat => ⟨0x10000, 1, 0x0, 0x0, 1, 0, 1⟩
  | .ldgEvt => ⟨0x10004, 1, 0x0, 0x0, 1, 0, 1⟩
  | .ldgCnt => ⟨0x10008, 1, 0x0, 0x0, 1, 0, 1⟩
  | .ldgOvertime => ⟨0x1000C, 1, 0x0, 0x0, 1, 0, 1⟩
  | .ldgCmd => ⟨0x10100, 8, 0x0, 0x100, 8, 4, 16⟩
  | .ldgRsp => ⟨0x10140, 8, 0x0, 0x100, 8, 4, 16⟩
  | .ldgMbSubmit => ⟨0x10180, 8, 0x0, 0x100, 8, 0, 1⟩
  | .ldgMbStat => ⟨0x10184, 8, 0x0, 0x100, 8, 0, 1⟩
  | .ldgMbAck => ⟨0x10188, 8, 0x0, 0x100, 8, 0, 1⟩
  | .fltCtl => ⟨0x20000, 1, 0x0, 0x0, 1, 0, 1⟩
  | .fltStat => ⟨0x20004, 1, 0x0, 0x0, 1, 0, 1⟩
  | .fltEvt => ⟨0x20008, 1, 0x0, 0x0, 1, 0, 1⟩
  | .fltAck => ⟨0x2000C, 1, 0x0, 0x0, 1, 0, 1⟩
  | .fltAckSrc => ⟨0x20010, 1, 0x0, 0x0, 1, 0, 1⟩
  | .fltAckUpto => ⟨0x20014, 1, 0x0, 0x0, 1, 0, 1⟩
  | .fltLogNewest => ⟨0x20018, 1, 0x0, 0x0, 1, 0, 1⟩
  | .fltLogOldest => ⟨0x2001C, 1, 0x0, 0x0, 1, 0, 1⟩
  | .fltLogLost => ⟨0x20020, 1, 0x0, 0x0, 1, 0, 1⟩
  | .fltDpCtl => ⟨0x20024, 1, 0x0, 0x0, 1, 0, 1⟩
  | .fltSnapSeq => ⟨0x20028, 1, 0x0, 0x0, 1, 0, 1⟩
  | .fltSnapSrc => ⟨0x2002C, 1, 0x0, 0x0, 1, 0, 1⟩
  | .fltSnapStat => ⟨0x20030, 1, 0x0, 0x0, 1, 0, 1⟩
  | .fltSnapData => ⟨0x20040, 16, 0x0, 0x4, 16, 0, 1⟩
  | .fltSrcCfg => ⟨0x21000, 612, 0x0, 0x8, 612, 0, 1⟩
  | .fltSrcStat => ⟨0x21004, 612, 0x0, 0x8, 612, 0, 1⟩
  | .btrCtl => ⟨0x30000, 1, 0x0, 0x0, 1, 0, 1⟩
  | .btrEvt => ⟨0x30008, 1, 0x0, 0x0, 1, 0, 1⟩
  | .btrOutvotes => ⟨0x3000C, 3, 0x0, 0x4, 3, 0, 1⟩
  | .btrLast => ⟨0x30018, 1, 0x0, 0x0, 1, 0, 1⟩
  | .btrLastCourse => ⟨0x3001C, 1, 0x0, 0x0, 1, 0, 1⟩
  | .btrInject => ⟨0x30020, 1, 0x0, 0x0, 1, 0, 1⟩
  | .pwrStat => ⟨0x40000, 1, 0x0, 0x0, 1, 0, 1⟩
  | .pwrEvt => ⟨0x40004, 1, 0x0, 0x0, 1, 0, 1⟩
  | .pwrVin => ⟨0x40008, 1, 0x0, 0x0, 1, 0, 1⟩
  | .pwrIin => ⟨0x4000C, 1, 0x0, 0x0, 1, 0, 1⟩
  | .pwrPin => ⟨0x40010, 1, 0x0, 0x0, 1, 0, 1⟩
  | .pwrTempCfg => ⟨0x40014, 1, 0x0, 0x0, 1, 0, 1⟩
  | .pwrTempMax => ⟨0x40018, 1, 0x0, 0x0, 1, 0, 1⟩
  | .pwrCnt => ⟨0x4001C, 1, 0x0, 0x0, 1, 0, 1⟩
  | .pwrRailStat => ⟨0x40020, 1, 0x0, 0x0, 1, 0, 1⟩
  | .pwrDomStat => ⟨0x40040, 5, 0x0, 0x4, 5, 0, 1⟩
  | .pwrDomFail => ⟨0x40060, 3, 0x0, 0x4, 3, 0, 1⟩
  | .pwrTemp => ⟨0x40080, 17, 0x0, 0x4, 17, 0, 1⟩
  | .quoCtl => ⟨0x50000, 1, 0x0, 0x0, 1, 0, 1⟩
  | .quoNominal => ⟨0x50004, 1, 0x0, 0x0, 1, 0, 1⟩
  | .quoDomainSel => ⟨0x50008, 1, 0x0, 0x0, 1, 0, 1⟩
  | .quoStat => ⟨0x5000C, 1, 0x0, 0x0, 1, 0, 1⟩
  | .quoEvt => ⟨0x50010, 1, 0x0, 0x0, 1, 0, 1⟩
  | .quoSwitchMax => ⟨0x50014, 1, 0x0, 0x0, 1, 0, 1⟩
  | .quoHoldLimit => ⟨0x50018, 1, 0x0, 0x0, 1, 0, 1⟩
  | .quoDiff => ⟨0x5001C, 1, 0x0, 0x0, 1, 0, 1⟩
  | .quoOrbit => ⟨0x50020, 1, 0x0, 0x0, 1, 0, 1⟩
  | .quoTxqStat => ⟨0x50024, 1, 0x0, 0x0, 1, 0, 1⟩
  | .quoTxqPop => ⟨0x50028, 1, 0x0, 0x0, 1, 0, 1⟩
  | .quoSnapSel => ⟨0x5002C, 1, 0x0, 0x0, 1, 0, 1⟩
  | .quoSnapStat => ⟨0x50030, 1, 0x0, 0x0, 1, 0, 1⟩
  | .quoTxqOvf => ⟨0x50034, 1, 0x0, 0x0, 1, 0, 1⟩
  | .quoSnapData => ⟨0x50040, 5, 0x0, 0x4, 5, 0, 1⟩
  | .quoDomCfg => ⟨0x50060, 2, 0x0, 0x20, 2, 0, 1⟩
  | .quoDomStat => ⟨0x50064, 2, 0x0, 0x20, 2, 0, 1⟩
  | .quoDomAsym => ⟨0x50068, 2, 0x0, 0x20, 2, 0, 1⟩
  | .quoTxBuf => ⟨0x50100, 16, 0x0, 0x4, 16, 0, 1⟩
  | .quoTxCtl => ⟨0x50140, 1, 0x0, 0x0, 1, 0, 1⟩
  | .quoDlPhase => ⟨0x51000, 64, 0x0, 0x4, 64, 0, 1⟩
  | .quoPdelay => ⟨0x51100, 64, 0x0, 0x4, 64, 0, 1⟩
  | .quoPasym => ⟨0x51200, 64, 0x0, 0x4, 64, 0, 1⟩
  | .quoPtrim => ⟨0x51300, 64, 0x0, 0x4, 64, 0, 1⟩
  | .quoPrtt => ⟨0x51400, 64, 0x0, 0x4, 64, 0, 1⟩
  | .plbCtl => ⟨0x60000, 1, 0x0, 0x0, 1, 0, 1⟩
  | .plbCfg => ⟨0x60004, 1, 0x0, 0x0, 1, 0, 1⟩
  | .plbPre => ⟨0x60008, 1, 0x0, 0x0, 1, 0, 1⟩
  | .plbPost => ⟨0x6000C, 1, 0x0, 0x0, 1, 0, 1⟩
  | .plbStat => ⟨0x60010, 1, 0x0, 0x0, 1, 0, 1⟩
  | .plbEvt => ⟨0x60014, 1, 0x0, 0x0, 1, 0, 1⟩
  | .plbMissed => ⟨0x60018, 1, 0x0, 0x0, 1, 0, 1⟩
  | .plbPostCourses => ⟨0x6001C, 1, 0x0, 0x0, 1, 0, 1⟩
  | .plbLost => ⟨0x60020, 1, 0x0, 0x0, 1, 0, 1⟩
  | .plbSnapSel => ⟨0x60024, 1, 0x0, 0x0, 1, 0, 1⟩
  | .plbSnapStat => ⟨0x60028, 1, 0x0, 0x0, 1, 0, 1⟩
  | .plbSnapData => ⟨0x6002C, 4, 0x0, 0x4, 4, 0, 1⟩
  | .plbSig => ⟨0x60100, 64, 0x0, 0x4, 64, 0, 1⟩
  | .plbDelta => ⟨0x60200, 64, 0x0, 0x4, 64, 0, 1⟩
  | .plbThr => ⟨0x60300, 8, 0x0, 0x8, 8, 0, 1⟩
  | .plbThrLevel => ⟨0x60304, 8, 0x0, 0x8, 8, 0, 1⟩
  | .cnsStat => ⟨0x70000, 1, 0x0, 0x0, 1, 0, 1⟩
  | .cnsEvt => ⟨0x70004, 1, 0x0, 0x0, 1, 0, 1⟩
  | .cnsLost => ⟨0x70008, 1, 0x0, 0x0, 1, 0, 1⟩
  | .cnsStart => ⟨0x7000C, 1, 0x0, 0x0, 1, 0, 1⟩
  | .cnsLast => ⟨0x70010, 1, 0x0, 0x0, 1, 0, 1⟩
  | .cnsClearCode => ⟨0x70014, 1, 0x0, 0x0, 1, 0, 1⟩
  | .gauCtl => ⟨0x80000, 1, 0x0, 0x0, 1, 0, 1⟩
  | .gauStat => ⟨0x80004, 1, 0x0, 0x0, 1, 0, 1⟩
  | .gauEvt => ⟨0x80008, 1, 0x0, 0x0, 1, 0, 1⟩
  | .gauBlank => ⟨0x8000C, 1, 0x0, 0x0, 1, 0, 1⟩
  | .gauSnapSel => ⟨0x80010, 1, 0x0, 0x0, 1, 0, 1⟩
  | .gauSnapStat => ⟨0x80014, 1, 0x0, 0x0, 1, 0, 1⟩
  | .gauSnapData => ⟨0x80018, 6, 0x0, 0x4, 6, 0, 1⟩
  | .gauConvCfg => ⟨0x80040, 21, 0x0, 0x4, 21, 0, 1⟩
  | .gauConvStat => ⟨0x800C0, 21, 0x0, 0x4, 21, 0, 1⟩
  | .gauChCfg => ⟨0x80200, 72, 0x0, 0x4, 72, 0, 1⟩
  | .gauChStat => ⟨0x80400, 72, 0x0, 0x4, 72, 0, 1⟩
  | .gauRes => ⟨0x80600, 72, 0x0, 0x4, 72, 0, 1⟩
  | .gauCalOfs => ⟨0x80800, 21, 0x0, 0x20, 21, 8, 4⟩
  | .gauCalGain => ⟨0x80804, 21, 0x0, 0x20, 21, 8, 4⟩
  | .gauOutCfg => ⟨0x80C00, 16, 0x0, 0x20, 16, 0, 1⟩
  | .gauOutLo => ⟨0x80C04, 16, 0x0, 0x20, 16, 0, 1⟩
  | .gauOutHi => ⟨0x80C08, 16, 0x0, 0x20, 16, 0, 1⟩
  | .gauOutFreq => ⟨0x80C0C, 16, 0x0, 0x20, 16, 0, 1⟩
  | .gauOutAux => ⟨0x80C10, 16, 0x0, 0x20, 16, 0, 1⟩
  | .gauOutStat => ⟨0x80C14, 16, 0x0, 0x20, 16, 0, 1⟩
  | .bedGrpCfg => ⟨0x100000, 1, 0x10000, 0x0, 32, 0, 1⟩
  | .bedGrpStat => ⟨0x100004, 1, 0x10000, 0x0, 32, 0, 1⟩
  | .bedGrpCtl => ⟨0x100008, 1, 0x10000, 0x0, 32, 0, 1⟩
  | .bedSnapSel => ⟨0x100010, 1, 0x10000, 0x0, 32, 0, 1⟩
  | .bedSnapStat => ⟨0x100014, 1, 0x10000, 0x0, 32, 0, 1⟩
  | .bedSnapData => ⟨0x100020, 1, 0x10000, 0x0, 32, 4, 5⟩
  | .bedAcctStat => ⟨0x100040, 1, 0x10000, 0x0, 32, 0, 1⟩
  | .bedPclr => ⟨0x100044, 1, 0x10000, 0x0, 8, 0, 1⟩
  | .bedLaneCfg => ⟨0x101000, 8, 0x10000, 0x40, 256, 0, 1⟩
  | .bedLaneStat => ⟨0x101004, 8, 0x10000, 0x40, 256, 0, 1⟩
  | .bedLaneEvt => ⟨0x101008, 8, 0x10000, 0x40, 256, 0, 1⟩
  | .bedLaneErr => ⟨0x10100C, 8, 0x10000, 0x40, 256, 0, 1⟩
  | .bedLaneEq => ⟨0x101010, 8, 0x10000, 0x40, 256, 0, 1⟩
  | .bedLaneCnt => ⟨0x101014, 8, 0x10000, 0x40, 256, 0, 1⟩
  | .bedDlCfg => ⟨0x102000, 8, 0x10000, 0x20, 64, 0, 1⟩
  | .bedDlStat => ⟨0x102004, 8, 0x10000, 0x20, 64, 0, 1⟩
  | .bedDlEvt => ⟨0x102008, 8, 0x10000, 0x20, 64, 0, 1⟩
  | .bedDlFc => ⟨0x10200C, 8, 0x10000, 0x20, 64, 0, 1⟩
  | .bedDlFcArg => ⟨0x102010, 8, 0x10000, 0x20, 64, 0, 1⟩
  | .bedPmap => ⟨0x103000, 8, 0x10000, 0x40, 64, 0, 1⟩
  | .bedPchan => ⟨0x103004, 8, 0x10000, 0x40, 64, 0, 1⟩
  | .bedPid => ⟨0x103008, 8, 0x10000, 0x40, 64, 0, 1⟩
  | .bedPstat => ⟨0x103010, 8, 0x10000, 0x40, 64, 0, 1⟩
  | .bedPcntFrame => ⟨0x103014, 8, 0x10000, 0x40, 64, 0, 1⟩
  | .bedPcntCap => ⟨0x103018, 8, 0x10000, 0x40, 64, 0, 1⟩
  | .bedPcntSpan => ⟨0x10301C, 8, 0x10000, 0x40, 64, 0, 1⟩
  | .bedPevt => ⟨0x103020, 8, 0x10000, 0x40, 64, 0, 1⟩
  | .bedPpol => ⟨0x103024, 8, 0x10000, 0x40, 64, 0, 1⟩
  | .ashTgCfg => ⟨0x104000, 1, 0x10000, 0x0, 32, 0, 1⟩
  | .ashTgStat => ⟨0x104004, 1, 0x10000, 0x0, 32, 0, 1⟩
  | .ashCalSel => ⟨0x104008, 1, 0x10000, 0x0, 32, 0, 1⟩
  | .ashEngCtl => ⟨0x300000, 1, 0x10000, 0x0, 9, 0, 1⟩
  | .ashEngStat => ⟨0x300004, 1, 0x10000, 0x0, 9, 0, 1⟩
  | .ashEngEvt => ⟨0x300008, 1, 0x10000, 0x0, 9, 0, 1⟩
  | .ashInDrop => ⟨0x30000C, 1, 0x10000, 0x0, 9, 0, 1⟩
  | .ashCntUncal => ⟨0x300010, 1, 0x10000, 0x0, 9, 0, 1⟩
  | .ashCntShift => ⟨0x300014, 1, 0x10000, 0x0, 9, 0, 1⟩
  | .ashStraggle => ⟨0x300018, 1, 0x10000, 0x0, 9, 0, 1⟩
  | .ashCntWave => ⟨0x30001C, 1, 0x10000, 0x0, 9, 0, 1⟩
  | .ashCheckErr => ⟨0x300020, 1, 0x10000, 0x0, 9, 0, 1⟩
  | .ashSlotMap => ⟨0x308000, 1, 0x0, 0x0, 1, 0, 1⟩
  | .ashSpare => ⟨0x308004, 1, 0x0, 0x0, 1, 0, 1⟩
  | .ashWaveCfg => ⟨0x308008, 1, 0x0, 0x0, 1, 0, 1⟩
  | .ashOrphanDrop => ⟨0x30800C, 1, 0x0, 0x0, 1, 0, 1⟩
  | .ashPregion => ⟨0x308100, 64, 0x0, 0x4, 64, 0, 1⟩
  | .ashPtab => ⟨0x308200, 64, 0x0, 0x4, 64, 0, 1⟩
  | .crsCtl => ⟨0x400000, 1, 0x0, 0x0, 1, 0, 1⟩
  | .crsStat => ⟨0x400004, 1, 0x0, 0x0, 1, 0, 1⟩
  | .crsEvt => ⟨0x400008, 1, 0x0, 0x0, 1, 0, 1⟩
  | .crsEarlyRel => ⟨0x40000C, 1, 0x0, 0x0, 1, 0, 1⟩
  | .crsSnapSel => ⟨0x400010, 1, 0x0, 0x0, 1, 0, 1⟩
  | .crsSnapStat => ⟨0x400014, 1, 0x0, 0x0, 1, 0, 1⟩
  | .crsSnapData => ⟨0x400018, 4, 0x0, 0x4, 4, 0, 1⟩
  | .crsFree => ⟨0x400040, 4, 0x0, 0x4, 4, 0, 1⟩
  | .crsCapDrop => ⟨0x400050, 4, 0x0, 0x4, 4, 0, 1⟩
  | .crsOosDrop => ⟨0x400060, 4, 0x0, 0x4, 4, 0, 1⟩
  | .crsMemErr => ⟨0x400070, 4, 0x0, 0x4, 4, 0, 1⟩
  | .crsLateRec => ⟨0x400100, 32, 0x0, 0x4, 32, 0, 1⟩
  | .molCtl => ⟨0x440000, 1, 0x10000, 0x0, 4, 0, 1⟩
  | .molStat => ⟨0x440004, 1, 0x10000, 0x0, 4, 0, 1⟩
  | .molEvt => ⟨0x440008, 1, 0x10000, 0x0, 4, 0, 1⟩
  | .molOverrun => ⟨0x44000C, 1, 0x10000, 0x0, 4, 0, 1⟩
  | .molMismatch => ⟨0x440010, 1, 0x10000, 0x0, 4, 0, 1⟩
  | .molNoshrink => ⟨0x440014, 1, 0x10000, 0x0, 4, 0, 1⟩
  | .molBigSlot => ⟨0x440018, 1, 0x10000, 0x0, 4, 0, 1⟩
  | .molBlocks => ⟨0x44001C, 1, 0x10000, 0x0, 4, 0, 1⟩
  | .molRatio => ⟨0x440020, 1, 0x10000, 0x0, 4, 0, 1⟩
  | .qryCtl => ⟨0x500000, 1, 0x0, 0x0, 1, 0, 1⟩
  | .qryStat => ⟨0x500004, 1, 0x0, 0x0, 1, 0, 1⟩
  | .qryEvt => ⟨0x500008, 1, 0x0, 0x0, 1, 0, 1⟩
  | .qryDepth => ⟨0x50000C, 1, 0x0, 0x0, 1, 0, 1⟩
  | .qryDepthMin => ⟨0x500010, 1, 0x0, 0x0, 1, 0, 1⟩
  | .qryPins => ⟨0x500014, 1, 0x0, 0x0, 1, 0, 1⟩
  | .qryPinBreaks => ⟨0x500018, 1, 0x0, 0x0, 1, 0, 1⟩
  | .qryDamaged => ⟨0x50001C, 1, 0x0, 0x0, 1, 0, 1⟩
  | .qryReadCrc => ⟨0x500020, 1, 0x0, 0x0, 1, 0, 1⟩
  | .qryRetire => ⟨0x500024, 1, 0x0, 0x0, 1, 0, 1⟩
  | .qryHwinPage => ⟨0x500030, 1, 0x0, 0x0, 1, 0, 1⟩
  | .qryHwinStat => ⟨0x500034, 1, 0x0, 0x0, 1, 0, 1⟩
  | .qryHwinAddr => ⟨0x500038, 1, 0x0, 0x0, 1, 0, 1⟩
  | .qryFindHi => ⟨0x500040, 1, 0x0, 0x0, 1, 0, 1⟩
  | .qryFindLo => ⟨0x500044, 1, 0x0, 0x0, 1, 0, 1⟩
  | .qryFindNs => ⟨0x500048, 1, 0x0, 0x0, 1, 0, 1⟩
  | .qrySnapSel => ⟨0x500050, 1, 0x0, 0x0, 1, 0, 1⟩
  | .qrySnapStat => ⟨0x500054, 1, 0x0, 0x0, 1, 0, 1⟩
  | .qrySnapData => ⟨0x500060, 4, 0x0, 0x4, 4, 0, 1⟩
  | .memCtl => ⟨0x580000, 1, 0x0, 0x0, 1, 0, 1⟩
  | .memStat => ⟨0x580004, 1, 0x0, 0x0, 1, 0, 1⟩
  | .memEvt => ⟨0x580008, 1, 0x0, 0x0, 1, 0, 1⟩
  | .memLastRead => ⟨0x58000C, 1, 0x0, 0x0, 1, 0, 1⟩
  | .memLastAddr => ⟨0x580010, 1, 0x0, 0x0, 1, 0, 1⟩
  | .memScrubCfg => ⟨0x580014, 1, 0x0, 0x0, 1, 0, 1⟩
  | .memScrubStat => ⟨0x580018, 1, 0x0, 0x0, 1, 0, 1⟩
  | .memScrubPos => ⟨0x58001C, 1, 0x0, 0x0, 1, 0, 1⟩
  | .memRestoreCnt => ⟨0x580020, 1, 0x0, 0x0, 1, 0, 1⟩
  | .memHbmCnt => ⟨0x580024, 1, 0x0, 0x0, 1, 0, 1⟩
  | .memInject => ⟨0x580028, 1, 0x0, 0x0, 1, 0, 1⟩
  | .memCntCorr => ⟨0x580100, 11, 0x0, 0x4, 11, 0, 1⟩
  | .memCntUncorr => ⟨0x580140, 11, 0x0, 0x4, 11, 0, 1⟩
  | .mrtUnitStat => ⟨0x600000, 1, 0x10000, 0x0, 4, 0, 1⟩
  | .mrtUnitEvt => ⟨0x600004, 1, 0x10000, 0x0, 4, 0, 1⟩
  | .mrtUnitCnt => ⟨0x600008, 1, 0x10000, 0x0, 4, 0, 1⟩
  | .mrtUnitTrunc => ⟨0x60000C, 1, 0x10000, 0x0, 4, 0, 1⟩
  | .mrtUnitLatepath => ⟨0x600010, 1, 0x10000, 0x0, 4, 0, 1⟩
  | .mrtUnitCellerr => ⟨0x600014, 1, 0x10000, 0x0, 4, 0, 1⟩
  | .mrtAccCtl => ⟨0x608000, 1, 0x0, 0x0, 1, 0, 1⟩
  | .mrtAccStat => ⟨0x608004, 1, 0x0, 0x0, 1, 0, 1⟩
  | .mrtAccEvt => ⟨0x608008, 1, 0x0, 0x0, 1, 0, 1⟩
  | .mrtCntAccept => ⟨0x60800C, 1, 0x0, 0x0, 1, 0, 1⟩
  | .mrtCntRecall => ⟨0x608010, 1, 0x0, 0x0, 1, 0, 1⟩
  | .mrtCntLost => ⟨0x608014, 1, 0x0, 0x0, 1, 0, 1⟩
  | .mrtCntRefused => ⟨0x608018, 1, 0x0, 0x0, 1, 0, 1⟩
  | .mrtCntGap => ⟨0x60801C, 1, 0x0, 0x0, 1, 0, 1⟩
  | .mrtCntDisc => ⟨0x608020, 1, 0x0, 0x0, 1, 0, 1⟩
  | .mrtCntIgnored => ⟨0x608024, 1, 0x0, 0x0, 1, 0, 1⟩
  | .mrtThrotPool => ⟨0x608030, 1, 0x0, 0x0, 1, 0, 1⟩
  | .mrtThrotTable => ⟨0x608034, 1, 0x0, 0x0, 1, 0, 1⟩
  | .mrtThrotSelLo => ⟨0x608038, 1, 0x0, 0x0, 1, 0, 1⟩
  | .mrtThrotSelHi => ⟨0x60803C, 1, 0x0, 0x0, 1, 0, 1⟩
  | .mrtThrotStat => ⟨0x608040, 1, 0x0, 0x0, 1, 0, 1⟩
  | .mrtPoolStat => ⟨0x608044, 1, 0x0, 0x0, 1, 0, 1⟩
  | .mrtPoolCfg => ⟨0x608048, 1, 0x0, 0x0, 1, 0, 1⟩
  | .mrtSnapSel => ⟨0x608050, 1, 0x0, 0x0, 1, 0, 1⟩
  | .mrtSnapStat => ⟨0x608054, 1, 0x0, 0x0, 1, 0, 1⟩
  | .mrtSnapData => ⟨0x608058, 4, 0x0, 0x4, 4, 0, 1⟩
  | .mrtWindow => ⟨0x608100, 8, 0x0, 0x4, 8, 0, 1⟩
  | .mrtClassMapLo => ⟨0x608140, 8, 0x0, 0x8, 8, 0, 1⟩
  | .mrtClassMapHi => ⟨0x608144, 8, 0x0, 0x8, 8, 0, 1⟩
  | .mrtStreamCfg => ⟨0x609000, 48, 0x0, 0x20, 48, 0, 1⟩
  | .mrtStreamPmaskLo => ⟨0x609004, 48, 0x0, 0x20, 48, 0, 1⟩
  | .mrtStreamPmaskHi => ⟨0x609008, 48, 0x0, 0x20, 48, 0, 1⟩
  | .mrtStreamWm => ⟨0x60900C, 48, 0x0, 0x20, 48, 0, 1⟩
  | .mrtStreamCtl => ⟨0x609010, 48, 0x0, 0x20, 48, 0, 1⟩
  | .mrtStreamStat => ⟨0x609014, 48, 0x0, 0x20, 48, 0, 1⟩
  | .mrtStreamFrags => ⟨0x609018, 48, 0x0, 0x20, 48, 0, 1⟩
  | .mrtStreamLate => ⟨0x60901C, 48, 0x0, 0x20, 48, 0, 1⟩
  | .uplGrpStat => ⟨0x680000, 1, 0x10000, 0x0, 8, 0, 1⟩
  | .uplLinkCfg => ⟨0x681000, 8, 0x10000, 0x20, 64, 0, 1⟩
  | .uplLinkStat => ⟨0x681004, 8, 0x10000, 0x20, 64, 0, 1⟩
  | .uplLinkEvt => ⟨0x681008, 8, 0x10000, 0x20, 64, 0, 1⟩
  | .uplLinkBal => ⟨0x68100C, 8, 0x10000, 0x20, 64, 0, 1⟩
  | .uplLinkCells => ⟨0x681010, 8, 0x10000, 0x20, 64, 0, 1⟩
  | .uplLinkCnt => ⟨0x681014, 8, 0x10000, 0x20, 64, 0, 1⟩
  | .uplRlCfg => ⟨0x682000, 2, 0x10000, 0x20, 16, 0, 1⟩
  | .uplRlStat => ⟨0x682004, 2, 0x10000, 0x20, 16, 0, 1⟩
  | .uplRlEvt => ⟨0x682008, 2, 0x10000, 0x20, 16, 0, 1⟩
  | .uplRlErr => ⟨0x68200C, 2, 0x10000, 0x20, 16, 0, 1⟩
  | .uplStreamMap => ⟨0x688000, 48, 0x0, 0x10, 48, 0, 1⟩
  | .uplStreamStat => ⟨0x688004, 48, 0x0, 0x10, 48, 0, 1⟩
  | .uplStreamCtl => ⟨0x688008, 48, 0x0, 0x10, 48, 0, 1⟩
  | .uplStreamCnt => ⟨0x68800C, 48, 0x0, 0x10, 48, 0, 1⟩
  | .uplEvt => ⟨0x688400, 1, 0x0, 0x0, 1, 0, 1⟩
  | .lntCtl => ⟨0x700000, 1, 0x0, 0x0, 1, 0, 1⟩
  | .lntLatency => ⟨0x700004, 1, 0x0, 0x0, 1, 0, 1⟩
  | .lntStat => ⟨0x700008, 1, 0x0, 0x0, 1, 0, 1⟩
  | .lntEvt => ⟨0x70000C, 1, 0x0, 0x0, 1, 0, 1⟩
  | .lntCntAdmit => ⟨0x700010, 1, 0x0, 0x0, 1, 0, 1⟩
  | .lntCntOver => ⟨0x700014, 1, 0x0, 0x0, 1, 0, 1⟩
  | .lntCntLateTap => ⟨0x700018, 1, 0x0, 0x0, 1, 0, 1⟩
  | .lntCntSat => ⟨0x70001C, 1, 0x0, 0x0, 1, 0, 1⟩
  | .lntCntSkip => ⟨0x700020, 1, 0x0, 0x0, 1, 0, 1⟩
  | .lntCntFrames => ⟨0x700024, 1, 0x0, 0x0, 1, 0, 1⟩
  | .lntPlossLo => ⟨0x700028, 1, 0x0, 0x0, 1, 0, 1⟩
  | .lntPlossHi => ⟨0x70002C, 1, 0x0, 0x0, 1, 0, 1⟩
  | .lntPend => ⟨0x700030, 1, 0x0, 0x0, 1, 0, 1⟩
  | .lntLane => ⟨0x700040, 8, 0x0, 0x4, 8, 0, 1⟩
  | .lntRegion => ⟨0x700100, 64, 0x0, 0x4, 64, 0, 1⟩
  | .lntRegOfs => ⟨0x700200, 64, 0x0, 0x4, 64, 0, 1⟩
  | .lntPair => ⟨0x700300, 32, 0x0, 0x4, 32, 0, 1⟩
  | .lntCountLo => ⟨0x700380, 12, 0x0, 0x8, 12, 0, 1⟩
  | .lntCountHi => ⟨0x700384, 12, 0x0, 0x8, 12, 0, 1⟩

/-- The fields of each register, most significant first. -/
def Reg.fields : Reg → List Field
  | .hstId => [⟨31, 16, .ro, 0x4160, "PART"⟩, ⟨15, 0, .ro, 0x11, "STEPPING"⟩]
  | .hstDeviceId => [⟨31, 16, .keep, 0, ""⟩, ⟨15, 0, .once, 0, "DEVICE_ID"⟩]
  | .hstInstallPos => [⟨31, 0, .once, 0, "POSITION"⟩]
  | .hstWho => [⟨31, 1, .keep, 0, ""⟩, ⟨0, 0, .ro, 0, "PORT"⟩]
  | .hstOwner => [⟨31, 2, .keep, 0, ""⟩, ⟨1, 0, .rw, 0, "OWNER"⟩]
  | .hstLock => [⟨31, 1, .keep, 0, ""⟩, ⟨0, 0, .rw, 0, "GAUGE_OUT"⟩]
  | .hstCb => [⟨31, 31, .ro, 0, "PENDING_ANY"⟩, ⟨30, 1, .keep, 0, ""⟩, ⟨0, 0, .rw, 0, "HOLD"⟩]
  | .hstStat => [⟨31, 4, .keep, 0, ""⟩, ⟨3, 3, .ro, 0, "POS_WRITTEN"⟩, ⟨2, 2, .ro, 0, "DEVID_WRITTEN"⟩, ⟨1, 1, .ro, 0, "L0_1"⟩,
      ⟨0, 0, .ro, 0, "L0_0"⟩]
  | .hstEvt => [⟨31, 24, .keep, 0, ""⟩, ⟨23, 23, .sqc, 0, "OWNER_CHANGED"⟩, ⟨22, 22, .sqc, 0, "LOCK_WRITE"⟩,
      ⟨21, 21, .sqc, 0, "BAD_ACCESS"⟩, ⟨20, 20, .sqc, 0, "WRITE_REFUSED"⟩, ⟨19, 19, .sqc, 0, "FLR"⟩, ⟨18, 18, .sqc, 0, "LINK_DOWN"⟩,
      ⟨17, 17, .sqc, 0, "AER_UNCORR"⟩, ⟨16, 16, .sqc, 0, "AER_CORR"⟩, ⟨15, 0, .sqc, 0, "SEQ"⟩]
  | .hstRefused => [⟨31, 16, .ro, 0, "REFUSED"⟩, ⟨15, 0, .ro, 0, "BAD"⟩]
  | .hstTick => [⟨31, 5, .keep, 0, ""⟩, ⟨4, 0, .rw, 0, "DIV"⟩]
  | .hstPortStat => [⟨31, 16, .keep, 0, ""⟩, ⟨15, 15, .ro, 0, "MSIX_EN"⟩, ⟨14, 14, .ro, 0, "BME"⟩, ⟨13, 12, .ro, 0, "DSTATE"⟩,
      ⟨11, 8, .ro, 0, "WIDTH"⟩, ⟨7, 4, .ro, 0, "SPEED"⟩, ⟨3, 3, .ro, 0, "PERST"⟩, ⟨2, 2, .ro, 0, "L0"⟩, ⟨1, 0, .keep, 0, ""⟩]
  | .hstPortCnt => [⟨31, 16, .ro, 0, "CORR"⟩, ⟨15, 0, .ro, 0, "LINK_DOWNS"⟩]
  | .hstIrqEn => [⟨31, 0, .rw, 0, "VECTORS"⟩]
  | .hstIrqHoldoff => [⟨31, 16, .keep, 0, ""⟩, ⟨15, 0, .rw, 0x60, "CYCLES"⟩]
  | .ldgStat => [⟨31, 20, .keep, 0, ""⟩, ⟨19, 16, .ro, 0, "RUNNING"⟩, ⟨15, 8, .ro, 0, "JOB_QUEUE"⟩, ⟨7, 0, .keep, 0, ""⟩]
  | .ldgEvt => [⟨31, 20, .keep, 0, ""⟩, ⟨19, 19, .sqc, 0, "OVERTIME"⟩, ⟨18, 18, .sqc, 0, "CMD_ERROR"⟩, ⟨17, 17, .sqc, 0, "ACK_MISMATCH"⟩,
      ⟨16, 16, .sqc, 0, "SUBMIT_REFUSED"⟩, ⟨15, 0, .sqc, 0, "SEQ"⟩]
  | .ldgCnt => [⟨31, 16, .ro, 0, "COMMANDS"⟩, ⟨15, 0, .ro, 0, "ERRORS"⟩]
  | .ldgOvertime => [⟨31, 0, .ro, 0, "COUNT"⟩]
  | .ldgCmd => [⟨31, 0, .rw, 0, "DATA"⟩]
  | .ldgRsp => [⟨31, 0, .ro, 0, "DATA"⟩]
  | .ldgMbSubmit => [⟨31, 1, .keep, 0, ""⟩, ⟨0, 0, .wo, 0, "SUBMIT"⟩]
  | .ldgMbStat => [⟨31, 16, .ro, 0, "LAST_SEQ"⟩, ⟨15, 10, .keep, 0, ""⟩, ⟨9, 9, .ro, 0, "VALID"⟩, ⟨8, 8, .ro, 0, "RUNNING"⟩,
      ⟨7, 5, .ro, 0, "IN_FLIGHT"⟩, ⟨4, 0, .keep, 0, ""⟩]
  | .ldgMbAck => [⟨31, 16, .keep, 0, ""⟩, ⟨15, 0, .wo, 0, "SEQ"⟩]
  | .fltCtl => [⟨31, 31, .wo, 0, "CNT_CLR"⟩, ⟨30, 25, .keep, 0, ""⟩, ⟨24, 24, .rw, 0, "CFG_LOCK"⟩, ⟨23, 11, .keep, 0, ""⟩,
      ⟨10, 8, .rw, 1, "IRQ_LEVEL"⟩, ⟨7, 7, .keep, 0, ""⟩, ⟨6, 4, .rw, 4, "ALARM_LEVEL"⟩, ⟨3, 3, .keep, 0, ""⟩,
      ⟨2, 0, .rw, 1, "FAULT_LEVEL"⟩]
  | .fltStat => [⟨31, 23, .keep, 0, ""⟩, ⟨22, 12, .ro, 0, "UNACKED"⟩, ⟨11, 7, .ro, 0, "SHADOWS"⟩, ⟨6, 4, .ro, 0, "WORST"⟩,
      ⟨3, 3, .ro, 0, "DEGRADED"⟩, ⟨2, 2, .ro, 0, "DP_STOPPED"⟩, ⟨1, 1, .ro, 0, "ALARM"⟩, ⟨0, 0, .ro, 0, "FAULT"⟩]
  | .fltEvt => [⟨31, 22, .keep, 0, ""⟩, ⟨21, 21, .sqc, 0, "RESTART_REFUSED"⟩, ⟨20, 20, .sqc, 0, "RESTARTED"⟩,
      ⟨19, 19, .sqc, 0, "DP_STOPPED"⟩, ⟨18, 18, .sqc, 0, "LOG_FULL"⟩, ⟨17, 17, .sqc, 0, "RECOVERED"⟩, ⟨16, 16, .sqc, 0, "ESCALATION"⟩,
      ⟨15, 0, .sqc, 0, "SEQ"⟩]
  | .fltAck => [⟨31, 0, .wo, 0, "SEQ"⟩]
  | .fltAckSrc => [⟨31, 12, .keep, 0, ""⟩, ⟨11, 0, .rw, 0, "SOURCE"⟩]
  | .fltAckUpto => [⟨31, 0, .wo, 0, "SEQ"⟩]
  | .fltLogNewest => [⟨31, 0, .ro, 0, "SEQ"⟩]
  | .fltLogOldest => [⟨31, 0, .ro, 0, "SEQ"⟩]
  | .fltLogLost => [⟨31, 0, .ro, 0, "COUNT"⟩]
  | .fltDpCtl => [⟨31, 0, .wo, 0, "RESTART"⟩]
  | .fltSnapSeq => [⟨31, 0, .wo, 0, "SEQ"⟩]
  | .fltSnapSrc => [⟨31, 12, .keep, 0, ""⟩, ⟨11, 0, .wo, 0, "SOURCE"⟩]
  | .fltSnapStat => [⟨31, 16, .ro, 0, "SNAP_SEQ"⟩, ⟨15, 2, .keep, 0, ""⟩, ⟨1, 1, .ro, 0, "KIND"⟩, ⟨0, 0, .ro, 0, "VALID"⟩]
  | .fltSnapData => [⟨31, 0, .ro, 0, "DATA"⟩]
  | .fltSrcCfg => [⟨31, 13, .keep, 0, ""⟩, ⟨12, 8, .lk, 0x10, "QUIET"⟩, ⟨7, 7, .keep, 0, ""⟩, ⟨6, 4, .lk, 3, "ESC_LIMIT"⟩,
      ⟨3, 3, .keep, 0, ""⟩, ⟨2, 0, .lk, 0, "SEVERITY"⟩]
  | .fltSrcStat => [⟨31, 16, .ro, 0, "RECOVERED"⟩, ⟨15, 8, .ro, 0, "CONSEQ"⟩, ⟨7, 4, .keep, 0, ""⟩, ⟨3, 3, .ro, 0, "FIRST_HELD"⟩,
      ⟨2, 2, .ro, 0, "IN_SHADOW"⟩, ⟨1, 0, .ro, 0, "STATE"⟩]
  | .btrCtl => [⟨31, 31, .wo, 0, "CNT_CLR"⟩, ⟨30, 1, .keep, 0, ""⟩, ⟨0, 0, .rw, 0, "INJECT_EN"⟩]
  | .btrEvt => [⟨31, 18, .keep, 0, ""⟩, ⟨17, 17, .sqc, 0, "NO_MAJORITY"⟩, ⟨16, 16, .sqc, 0, "OUTVOTE"⟩, ⟨15, 0, .sqc, 0, "SEQ"⟩]
  | .btrOutvotes => [⟨31, 0, .ro, 0, "COUNT"⟩]
  | .btrLast => [⟨31, 16, .ro, 0, "ITEM"⟩, ⟨15, 2, .keep, 0, ""⟩, ⟨1, 0, .ro, 0, "COPY"⟩]
  | .btrLastCourse => [⟨31, 0, .ro, 0, "COURSE"⟩]
  | .btrInject => [⟨31, 16, .wo, 0, "ITEM"⟩, ⟨15, 15, .wo, 0, "ARM"⟩, ⟨14, 14, .ro, 0, "ARMED"⟩, ⟨13, 8, .keep, 0, ""⟩,
      ⟨7, 6, .wo, 0, "COPY"⟩, ⟨5, 0, .wo, 0, "BIT"⟩]
  | .pwrStat => [⟨31, 10, .keep, 0, ""⟩, ⟨9, 8, .ro, 0, "RESET_CAUSE"⟩, ⟨7, 4, .keep, 0, ""⟩, ⟨3, 3, .ro, 1, "RAIL_OK"⟩,
      ⟨2, 2, .ro, 0, "TEMP_WARN"⟩, ⟨1, 1, .ro, 1, "IN_RANGE"⟩, ⟨0, 0, .ro, 0, "CHANGING"⟩]
  | .pwrEvt => [⟨31, 21, .keep, 0, ""⟩, ⟨20, 20, .sqc, 0, "RAIL_FAULT"⟩, ⟨19, 19, .sqc, 0, "DOMAIN_FAIL"⟩,
      ⟨18, 18, .sqc, 0, "DOMAIN_CHANGED"⟩, ⟨17, 17, .sqc, 0, "TEMP_HIGH"⟩, ⟨16, 16, .sqc, 0, "INPUT_RANGE"⟩, ⟨15, 0, .sqc, 0, "SEQ"⟩]
  | .pwrVin => [⟨31, 17, .keep, 0, ""⟩, ⟨16, 0, .ro, 0, "MV"⟩]
  | .pwrIin => [⟨31, 14, .keep, 0, ""⟩, ⟨13, 0, .ro, 0, "MA"⟩]
  | .pwrPin => [⟨31, 12, .keep, 0, ""⟩, ⟨11, 0, .ro, 0, "DW"⟩]
  | .pwrTempCfg => [⟨31, 16, .keep, 0, ""⟩, ⟨15, 8, .rw, 5, "HYST"⟩, ⟨7, 0, .rw, 0x5F, "WARN"⟩]
  | .pwrTempMax => [⟨31, 21, .keep, 0, ""⟩, ⟨20, 16, .ro, 0, "SENSOR"⟩, ⟨15, 0, .ro, 0, "TEMP"⟩]
  | .pwrCnt => [⟨31, 16, .ro, 0, "RAIL_FAULTS"⟩, ⟨15, 0, .ro, 0, "DOMAIN_FAILS"⟩]
  | .pwrRailStat => [⟨31, 11, .keep, 0, ""⟩, ⟨10, 0, .ro, 0x7FF, "IN_REG"⟩]
  | .pwrDomStat => [⟨31, 0, .ro, 0, "STATE"⟩]
  | .pwrDomFail => [⟨31, 0, .ro, 0, "FAILED"⟩]
  | .pwrTemp => [⟨31, 16, .keep, 0, ""⟩, ⟨15, 0, .ro, 0, "TEMP"⟩]
  | .quoCtl => [⟨31, 4, .keep, 0, ""⟩, ⟨3, 3, .rw, 0, "TXQ_DREQ"⟩, ⟨2, 2, .rw, 1, "ORBIT_SYNC"⟩, ⟨1, 1, .rw, 0, "REVERT"⟩,
      ⟨0, 0, .rw, 1, "AUTO_SWITCH"⟩]
  | .quoNominal => [⟨31, 16, .keep, 0, ""⟩, ⟨15, 0, .rw, 0x9C40, "FREQ_KHZ"⟩]
  | .quoDomainSel => [⟨31, 31, .ro, 0, "PENDING"⟩, ⟨30, 2, .keep, 0, ""⟩, ⟨1, 1, .cb, 0, "FORCE"⟩, ⟨0, 0, .cb, 0, "DOMAIN"⟩]
  | .quoStat => [⟨31, 15, .keep, 0, ""⟩, ⟨14, 14, .ro, 0, "TX_BUSY"⟩, ⟨13, 13, .ro, 0, "XO_OK"⟩, ⟨12, 10, .ro, 0, "STATE_B"⟩,
      ⟨9, 7, .ro, 0, "STATE_A"⟩, ⟨6, 5, .ro, 2, "QUALITY"⟩, ⟨4, 4, .ro, 0, "SLEWING"⟩, ⟨3, 3, .ro, 0, "ACTIVE"⟩, ⟨2, 2, .keep, 0, ""⟩,
      ⟨1, 0, .ro, 0, "SERVO"⟩]
  | .quoEvt => [⟨31, 25, .keep, 0, ""⟩, ⟨24, 24, .sqc, 0, "ORBIT_MISMATCH"⟩, ⟨23, 23, .sqc, 0, "TXQ_OVF"⟩,
      ⟨22, 22, .sqc, 0, "HOLD_EXPIRED"⟩, ⟨21, 21, .sqc, 0, "SEL_REFUSED"⟩, ⟨20, 20, .sqc, 0, "SWITCHED"⟩, ⟨19, 19, .sqc, 0, "LOST_B"⟩,
      ⟨18, 18, .sqc, 0, "LOST_A"⟩, ⟨17, 17, .sqc, 0, "LOCK_B"⟩, ⟨16, 16, .sqc, 0, "LOCK_A"⟩, ⟨15, 0, .sqc, 0, "SEQ"⟩]
  | .quoSwitchMax => [⟨31, 0, .rw, 0x10000, "MAX"⟩]
  | .quoHoldLimit => [⟨31, 24, .keep, 0, ""⟩, ⟨23, 0, .rw, 0xF424, "COURSES"⟩]
  | .quoDiff => [⟨31, 0, .ro, 0x80000000, "A_MINUS_B"⟩]
  | .quoOrbit => [⟨31, 16, .keep, 0, ""⟩, ⟨15, 0, .rw, 0x400, "LENGTH"⟩]
  | .quoTxqStat => [⟨31, 5, .keep, 0, ""⟩, ⟨4, 0, .ro, 0, "COUNT"⟩]
  | .quoTxqPop => [⟨31, 1, .keep, 0, ""⟩, ⟨0, 0, .wo, 0, "POP"⟩]
  | .quoSnapSel => [⟨31, 3, .keep, 0, ""⟩, ⟨2, 0, .wo, 0, "SEL"⟩]
  | .quoSnapStat => [⟨31, 16, .ro, 0, "SNAP_SEQ"⟩, ⟨15, 4, .keep, 0, ""⟩, ⟨3, 1, .ro, 0, "SEL"⟩, ⟨0, 0, .ro, 0, "VALID"⟩]
  | .quoTxqOvf => [⟨31, 0, .ro, 0, "COUNT"⟩]
  | .quoSnapData => [⟨31, 0, .ro, 0, "DATA"⟩]
  | .quoDomCfg => [⟨31, 18, .keep, 0, ""⟩, ⟨17, 17, .rw, 0, "ARB_OK"⟩, ⟨16, 16, .keep, 0, ""⟩, ⟨15, 12, .rw, 0, "LOG_DREQ"⟩,
      ⟨11, 8, .rw, 0xC, "LOG_SYNC"⟩, ⟨7, 0, .rw, 0, "PTP_DOMAIN"⟩]
  | .quoDomStat => [⟨31, 16, .ro, 0, "SYNC_COUNT"⟩, ⟨15, 8, .ro, 0, "LOST_CAUSE"⟩, ⟨7, 4, .ro, 0, "BAD_MSG"⟩, ⟨3, 3, .ro, 0, "TWO_STEP"⟩,
      ⟨2, 0, .ro, 0, "STATE"⟩]
  | .quoDomAsym => [⟨31, 0, .rw, 0, "ASYM"⟩]
  | .quoTxBuf => [⟨31, 0, .rw, 0, "DATA"⟩]
  | .quoTxCtl => [⟨31, 31, .wo, 0, "SEND"⟩, ⟨30, 9, .keep, 0, ""⟩, ⟨8, 8, .wo, 0, "STAMP"⟩, ⟨7, 7, .wo, 0, "DOMAIN"⟩,
      ⟨6, 0, .wo, 0, "LENGTH"⟩]
  | .quoDlPhase => [⟨31, 22, .keep, 0, ""⟩, ⟨21, 21, .ro, 0, "SLEWING"⟩, ⟨20, 20, .rw, 0, "MODE"⟩, ⟨19, 14, .rw, 0, "WHOLE_BT"⟩,
      ⟨13, 0, .rw, 0, "PHASE"⟩]
  | .quoPdelay => [⟨31, 31, .ro, 0, "MEASURED"⟩, ⟨30, 20, .keep, 0, ""⟩, ⟨19, 0, .rw, 0, "DELAY"⟩]
  | .quoPasym => [⟨31, 20, .keep, 0, ""⟩, ⟨19, 0, .rw, 0, "ASYM"⟩]
  | .quoPtrim => [⟨31, 16, .keep, 0, ""⟩, ⟨15, 0, .rw, 0, "TRIM"⟩]
  | .quoPrtt => [⟨31, 24, .keep, 0, ""⟩, ⟨23, 0, .ro, 0, "RTT"⟩]
  | .plbCtl => [⟨31, 31, .wo, 0, "CNT_CLR"⟩, ⟨30, 3, .keep, 0, ""⟩, ⟨2, 2, .wo, 0, "FIRE"⟩, ⟨1, 1, .wo, 0, "DISARM"⟩, ⟨0, 0, .wo, 0, "ARM"⟩]
  | .plbCfg => [⟨31, 11, .keep, 0, ""⟩, ⟨10, 8, .rw, 7, "FIRE_LEVEL"⟩, ⟨7, 6, .keep, 0, ""⟩, ⟨5, 5, .rw, 1, "FIRE_STOP"⟩,
      ⟨4, 4, .rw, 0, "DRIVE_FIRE"⟩, ⟨3, 3, .rw, 0, "FIRE_PIN"⟩, ⟨2, 2, .rw, 0, "ARM_PIN"⟩, ⟨1, 1, .rw, 0, "MASTER"⟩, ⟨0, 0, .rw, 0, "MODE"⟩]
  | .plbPre => [⟨31, 17, .keep, 0, ""⟩, ⟨16, 0, .rw, 0x1000, "RECORDS"⟩]
  | .plbPost => [⟨31, 17, .keep, 0, ""⟩, ⟨16, 0, .rw, 0x1000, "RECORDS"⟩]
  | .plbStat => [⟨31, 14, .ro, 0, "RECORDS"⟩, ⟨13, 6, .keep, 0, ""⟩, ⟨5, 5, .ro, 0, "READ"⟩, ⟨4, 4, .ro, 0, "OVERFLOW"⟩,
      ⟨3, 3, .ro, 0, "PRE_SHORT"⟩, ⟨2, 0, .ro, 0, "STATE"⟩]
  | .plbEvt => [⟨31, 22, .keep, 0, ""⟩, ⟨21, 21, .sqc, 0, "ARM_IGNORED"⟩, ⟨20, 20, .sqc, 0, "HELD"⟩, ⟨19, 19, .sqc, 0, "FIRED"⟩,
      ⟨18, 18, .sqc, 0, "MISSED"⟩, ⟨17, 17, .sqc, 0, "OVERFLOW"⟩, ⟨16, 16, .sqc, 0, "QUEUE_LOSS"⟩, ⟨15, 0, .sqc, 0, "SEQ"⟩]
  | .plbMissed => [⟨31, 0, .ro, 0, "COUNT"⟩]
  | .plbPostCourses => [⟨31, 24, .keep, 0, ""⟩, ⟨23, 0, .rw, 0xF424, "COURSES"⟩]
  | .plbLost => [⟨31, 0, .ro, 0, "COUNT"⟩]
  | .plbSnapSel => [⟨31, 1, .keep, 0, ""⟩, ⟨0, 0, .wo, 0, "SEL"⟩]
  | .plbSnapStat => [⟨31, 16, .ro, 0, "SNAP_SEQ"⟩, ⟨15, 2, .keep, 0, ""⟩, ⟨1, 1, .ro, 0, "SEL"⟩, ⟨0, 0, .ro, 0, "VALID"⟩]
  | .plbSnapData => [⟨31, 0, .ro, 0, "DATA"⟩]
  | .plbSig => [⟨31, 31, .rw, 0, "ENABLE"⟩, ⟨30, 12, .keep, 0, ""⟩, ⟨11, 8, .rw, 0, "CLASS"⟩, ⟨7, 0, .rw, 0, "INDEX"⟩]
  | .plbDelta => [⟨31, 24, .keep, 0, ""⟩, ⟨23, 0, .rw, 0, "DELTA"⟩]
  | .plbThr => [⟨31, 31, .rw, 0, "ENABLE"⟩, ⟨30, 29, .rw, 0, "DIR"⟩, ⟨28, 6, .keep, 0, ""⟩, ⟨5, 0, .rw, 0, "SLOT"⟩]
  | .plbThrLevel => [⟨31, 0, .rw, 0, "LEVEL"⟩]
  | .cnsStat => [⟨31, 31, .ro, 0, "SEALING"⟩, ⟨30, 21, .keep, 0, ""⟩, ⟨20, 8, .ro, 0, "EVENTS"⟩, ⟨7, 1, .ro, 0, "BAD_SLOTS"⟩,
      ⟨0, 0, .ro, 0, "SEALED"⟩]
  | .cnsEvt => [⟨31, 20, .keep, 0, ""⟩, ⟨19, 19, .sqc, 0, "MEM_FAIL"⟩, ⟨18, 18, .sqc, 0, "CLEARED"⟩, ⟨17, 17, .sqc, 0, "FULL"⟩,
      ⟨16, 16, .sqc, 0, "SEALED"⟩, ⟨15, 0, .sqc, 0, "SEQ"⟩]
  | .cnsLost => [⟨31, 0, .ro, 0, "COUNT"⟩]
  | .cnsStart => [⟨31, 0, .ro, 0, "COUNT"⟩]
  | .cnsLast => [⟨31, 0, .ro, 0, "EVENT"⟩]
  | .cnsClearCode => [⟨31, 0, .ro, 0, "CODE"⟩]
  | .gauCtl => [⟨31, 4, .keep, 0, ""⟩, ⟨3, 3, .rw, 0, "ALIGN"⟩, ⟨2, 2, .lk, 0, "MAINS"⟩, ⟨1, 1, .keep, 0, ""⟩, ⟨0, 0, .rw, 0, "ENABLE"⟩]
  | .gauStat => [⟨31, 8, .keep, 0, ""⟩, ⟨7, 7, .ro, 0, "BLANK1"⟩, ⟨6, 6, .ro, 0, "BLANK0"⟩, ⟨5, 5, .ro, 0, "BLANKING"⟩,
      ⟨4, 4, .ro, 0, "TIMEBASE"⟩, ⟨3, 2, .keep, 0, ""⟩, ⟨1, 0, .ro, 0, "STATE"⟩]
  | .gauEvt => [⟨31, 22, .keep, 0, ""⟩, ⟨21, 21, .sqc, 0, "OUT_SWITCH"⟩, ⟨20, 20, .sqc, 0, "SELFCAL_FAIL"⟩,
      ⟨19, 19, .sqc, 0, "SELFCAL_DONE"⟩, ⟨18, 18, .sqc, 0, "EXC_FAULT"⟩, ⟨17, 17, .sqc, 0, "OPEN"⟩, ⟨16, 16, .sqc, 0, "OVR"⟩,
      ⟨15, 0, .sqc, 0, "SEQ"⟩]
  | .gauBlank => [⟨31, 2, .keep, 0, ""⟩, ⟨1, 0, .rw, 3, "SRC"⟩]
  | .gauSnapSel => [⟨31, 7, .keep, 0, ""⟩, ⟨6, 0, .wo, 0, "CHANNEL"⟩]
  | .gauSnapStat => [⟨31, 16, .ro, 0, "SNAP_SEQ"⟩, ⟨15, 8, .keep, 0, ""⟩, ⟨7, 1, .ro, 0, "CHANNEL"⟩, ⟨0, 0, .ro, 0, "VALID"⟩]
  | .gauSnapData => [⟨31, 0, .ro, 0, "DATA"⟩]
  | .gauConvCfg => [⟨31, 9, .keep, 0, ""⟩, ⟨8, 8, .rw, 1, "BLANK_EN"⟩, ⟨7, 2, .keep, 0, ""⟩, ⟨1, 0, .lk, 0, "NPLC"⟩]
  | .gauConvStat => [⟨31, 24, .keep, 0, ""⟩, ⟨23, 16, .ro, 0xFF, "CHANNEL"⟩, ⟨15, 12, .keep, 0, ""⟩, ⟨11, 8, .ro, 0, "CAL_VALID"⟩,
      ⟨7, 3, .keep, 0, ""⟩, ⟨2, 2, .ro, 0, "SELFCAL"⟩, ⟨1, 1, .ro, 0, "SELFCAL_FAIL"⟩, ⟨0, 0, .ro, 0, "BUSY"⟩]
  | .gauChCfg => [⟨31, 24, .keep, 0, ""⟩, ⟨23, 20, .lk, 2, "DWELL"⟩, ⟨19, 19, .lk, 0, "SCAN"⟩, ⟨18, 18, .lk, 1, "SIGNED"⟩,
      ⟨17, 16, .lk, 0, "GAIN"⟩, ⟨15, 12, .keep, 0, ""⟩, ⟨11, 8, .lk, 0, "EXC"⟩, ⟨7, 3, .keep, 0, ""⟩, ⟨2, 0, .lk, 0, "MODE"⟩]
  | .gauChStat => [⟨31, 24, .ro, 0, "COUNT"⟩, ⟨23, 16, .keep, 0, ""⟩, ⟨15, 15, .ro, 0, "EXC_PENDING"⟩, ⟨14, 14, .ro, 0, "CONFIG_ERR"⟩,
      ⟨13, 13, .ro, 0, "OPEN"⟩, ⟨12, 12, .ro, 0, "EXC_FAULT"⟩, ⟨11, 11, .ro, 0, "BURNOUT_EVERY"⟩, ⟨10, 10, .keep, 0, ""⟩,
      ⟨9, 8, .ro, 0, "SETTLE_LEFT"⟩, ⟨7, 0, .keep, 0, ""⟩]
  | .gauRes => [⟨31, 8, .ro, 0, "CODE"⟩, ⟨7, 0, .ro, 2, "FLAGS"⟩]
  | .gauCalOfs => [⟨31, 24, .keep, 0, ""⟩, ⟨23, 0, .rw, 0, "OFFSET"⟩]
  | .gauCalGain => [⟨31, 0, .rw, 0x40000000, "GAIN"⟩]
  | .gauOutCfg => [⟨31, 31, .lk, 0, "ENABLE"⟩, ⟨30, 30, .lk, 0, "MODE"⟩, ⟨29, 29, .lk, 0, "FAULT_DUTY"⟩, ⟨28, 28, .lk, 1, "UNCAL_FAULT"⟩,
      ⟨27, 23, .keep, 0, ""⟩, ⟨22, 16, .lk, 0, "SOURCE"⟩, ⟨15, 0, .lk, 0x64, "PERIOD"⟩]
  | .gauOutLo => [⟨31, 24, .keep, 0, ""⟩, ⟨23, 0, .lk, 0, "CODE"⟩]
  | .gauOutHi => [⟨31, 24, .keep, 0, ""⟩, ⟨23, 0, .lk, 0, "CODE"⟩]
  | .gauOutFreq => [⟨31, 16, .lk, 0x3E8, "F_HI"⟩, ⟨15, 0, .lk, 0x64, "F_LO"⟩]
  | .gauOutAux => [⟨31, 16, .lk, 0x3E8, "STALE_MS"⟩, ⟨15, 0, .keep, 0, ""⟩]
  | .gauOutStat => [⟨31, 31, .ro, 0, "GEN"⟩, ⟨30, 30, .ro, 1, "HIGH_Z"⟩, ⟨29, 29, .ro, 0, "FAULT"⟩, ⟨28, 26, .ro, 0, "CAUSE"⟩,
      ⟨25, 16, .ro, 0, "DUTY"⟩, ⟨15, 0, .ro, 0, "FREQ"⟩]
  | .bedGrpCfg => [⟨31, 24, .keep, 0, ""⟩, ⟨23, 8, .rw, 0x10, "CODE_ERR_THR"⟩, ⟨7, 0, .rw, 8, "RETRAIN_MAX"⟩]
  | .bedGrpStat => [⟨31, 16, .keep, 0, ""⟩, ⟨15, 8, .ro, 0, "QUAR_MASK"⟩, ⟨7, 0, .ro, 0, "ACTIVE_MASK"⟩]
  | .bedGrpCtl => [⟨31, 1, .keep, 0, ""⟩, ⟨0, 0, .wo, 0, "CLR_CNT"⟩]
  | .bedSnapSel => [⟨31, 4, .keep, 0, ""⟩, ⟨3, 0, .wo, 0, "SEL"⟩]
  | .bedSnapStat => [⟨31, 16, .ro, 0, "SNAP_SEQ"⟩, ⟨15, 5, .keep, 0, ""⟩, ⟨4, 1, .ro, 0, "SEL"⟩, ⟨0, 0, .ro, 0, "VALID"⟩]
  | .bedSnapData => [⟨31, 0, .ro, 0, "DATA"⟩]
  | .bedAcctStat => [⟨31, 16, .ro, 0, "OVF_COURSES"⟩, ⟨15, 9, .keep, 0, ""⟩, ⟨8, 0, .ro, 0, "PEAK"⟩]
  | .bedPclr => [⟨31, 1, .keep, 0, ""⟩, ⟨0, 0, .wo, 0, "CLR"⟩]
  | .bedLaneCfg => [⟨31, 16, .keep, 0, ""⟩, ⟨15, 12, .rw, 0, "PE_REQ"⟩, ⟨11, 8, .rw, 8, "CTLE"⟩, ⟨7, 4, .keep, 0, ""⟩,
      ⟨3, 3, .rw, 0, "DFE_FREEZE"⟩, ⟨2, 2, .rw, 0, "RX_INVERT"⟩, ⟨1, 1, .rw, 1, "AUTO_RETRAIN"⟩, ⟨0, 0, .rw, 1, "ENABLE"⟩]
  | .bedLaneStat => [⟨31, 26, .keep, 0, ""⟩, ⟨25, 25, .ro, 0, "BOUND"⟩, ⟨24, 22, .ro, 0, "LANE_INDEX"⟩, ⟨21, 16, .ro, 0, "PARTNER"⟩,
      ⟨15, 14, .keep, 0, ""⟩, ⟨13, 13, .ro, 0, "WARM"⟩, ⟨12, 12, .ro, 0, "PE_UNMET"⟩, ⟨11, 11, .ro, 0, "WAIT_BIND"⟩,
      ⟨10, 10, .ro, 0, "SYNC"⟩, ⟨9, 9, .ro, 0, "CDR_LOCK"⟩, ⟨8, 8, .ro, 0, "SIGNAL"⟩, ⟨7, 4, .ro, 0, "LOST_CAUSE"⟩, ⟨3, 3, .keep, 0, ""⟩,
      ⟨2, 0, .ro, 0, "STATE"⟩]
  | .bedLaneEvt => [⟨31, 22, .keep, 0, ""⟩, ⟨21, 21, .sqc, 0, "CODE_ERR_THR"⟩, ⟨20, 20, .sqc, 0, "QUARANTINE"⟩,
      ⟨19, 19, .sqc, 0, "EXCH_MISMATCH"⟩, ⟨18, 18, .sqc, 0, "TRAIN_FAIL"⟩, ⟨17, 17, .sqc, 0, "ACTIVE_LEAVE"⟩,
      ⟨16, 16, .sqc, 0, "ACTIVE_ENTER"⟩, ⟨15, 0, .sqc, 0, "SEQ"⟩]
  | .bedLaneErr => [⟨31, 16, .ro, 0, "CODE_ERR"⟩, ⟨15, 8, .ro, 0, "REALIGN"⟩, ⟨7, 0, .ro, 0, "QUAR_DISC"⟩]
  | .bedLaneEq => [⟨31, 24, .ro, 0, "TAP1"⟩, ⟨23, 18, .ro, 0, "TAP2"⟩, ⟨17, 12, .ro, 0, "TAP3"⟩, ⟨11, 6, .ro, 0, "TAP4"⟩,
      ⟨5, 0, .ro, 0, "TAP5"⟩]
  | .bedLaneCnt => [⟨31, 24, .ro, 0, "RETRAINS"⟩, ⟨23, 16, .ro, 0, "TRAIN_FAIL"⟩, ⟨15, 0, .ro, 0, "ACTIVE_ENTRIES"⟩]
  | .bedDlCfg => [⟨31, 17, .keep, 0, ""⟩, ⟨16, 16, .rw, 0, "EQ_END"⟩, ⟨15, 14, .rw, 2, "SWING"⟩, ⟨13, 12, .keep, 0, ""⟩,
      ⟨11, 8, .rw, 4, "POST"⟩, ⟨7, 7, .keep, 0, ""⟩, ⟨6, 4, .rw, 0, "PRE"⟩, ⟨3, 1, .keep, 0, ""⟩, ⟨0, 0, .rw, 1, "ENABLE"⟩]
  | .bedDlStat => [⟨31, 16, .keep, 0, ""⟩, ⟨15, 8, .ro, 0, "SQUELCH_COUNT"⟩, ⟨7, 4, .keep, 0, ""⟩, ⟨3, 3, .ro, 0, "MARKER_BUSY"⟩,
      ⟨2, 2, .ro, 0, "EQ_FALLBACK"⟩, ⟨1, 1, .ro, 0, "PLL_LOCK"⟩, ⟨0, 0, .ro, 0, "SENDING"⟩]
  | .bedDlEvt => [⟨31, 19, .keep, 0, ""⟩, ⟨18, 18, .sqc, 0, "PLL_UNLOCK"⟩, ⟨17, 17, .sqc, 0, "FALLBACK"⟩, ⟨16, 16, .sqc, 0, "RESUMED"⟩,
      ⟨15, 0, .sqc, 0, "SEQ"⟩]
  | .bedDlFc => [⟨31, 31, .wo, 0, "SEND"⟩, ⟨30, 30, .ro, 0, "BUSY"⟩, ⟨29, 8, .keep, 0, ""⟩, ⟨7, 0, .wo, 0, "CODE"⟩]
  | .bedDlFcArg => [⟨31, 0, .rw, 0, "ARG"⟩]
  | .bedPmap => [⟨31, 31, .ro, 0, "PENDING"⟩, ⟨30, 30, .ro, 0, "BOUND"⟩, ⟨29, 24, .keep, 0, ""⟩, ⟨23, 16, .ro, 0, "FIRST_LANE"⟩,
      ⟨15, 13, .ro, 0, "LANE_COUNT_M1"⟩, ⟨12, 8, .keep, 0, ""⟩, ⟨7, 0, .ro, 0, "HIT_FORMAT"⟩]
  | .bedPchan => [⟨31, 19, .keep, 0, ""⟩, ⟨18, 0, .ro, 0, "CHANNEL_COUNT"⟩]
  | .bedPid => [⟨31, 0, .ro, 0, "PARTNER_ID"⟩]
  | .bedPstat => [⟨31, 24, .keep, 0, ""⟩, ⟨23, 16, .ro, 0, "NO_DATA"⟩, ⟨15, 9, .keep, 0, ""⟩, ⟨8, 8, .ro, 0, "CFG_BUSY"⟩,
      ⟨7, 7, .keep, 0, ""⟩, ⟨6, 0, .ro, 0, "OFFENCES"⟩]
  | .bedPcntFrame => [⟨31, 16, .ro, 0, "MALFORMED"⟩, ⟨15, 0, .ro, 0, "WORD_ERR"⟩]
  | .bedPcntCap => [⟨31, 0, .ro, 0, "CAP_DROP"⟩]
  | .bedPcntSpan => [⟨31, 16, .ro, 0, "MISSING_SPAN"⟩, ⟨15, 0, .ro, 0, "PARTNER_LOSS"⟩]
  | .bedPevt => [⟨31, 21, .keep, 0, ""⟩, ⟨20, 20, .sqc, 0, "QUARANTINED"⟩, ⟨19, 19, .sqc, 0, "CFG_TIMEOUT"⟩, ⟨18, 18, .sqc, 0, "CAP_HIT"⟩,
      ⟨17, 17, .sqc, 0, "MISSING_SPAN"⟩, ⟨16, 16, .sqc, 0, "MALFORMED"⟩, ⟨15, 0, .sqc, 0, "SEQ"⟩]
  | .bedPpol => [⟨31, 31, .ro, 0, "PENDING"⟩, ⟨30, 28, .keep, 0, ""⟩, ⟨27, 16, .cb, 0, "HIT_CAP"⟩, ⟨15, 7, .keep, 0, ""⟩,
      ⟨6, 0, .cb, 0x10, "QUAR_THR"⟩]
  | .ashTgCfg => [⟨31, 31, .ro, 0, "PENDING"⟩, ⟨30, 1, .keep, 0, ""⟩, ⟨0, 0, .cb, 0, "DUAL"⟩]
  | .ashTgStat => [⟨31, 6, .keep, 0, ""⟩, ⟨5, 5, .ro, 0, "RESTORING"⟩, ⟨4, 4, .ro, 0, "LOADING"⟩, ⟨3, 3, .ro, 0, "WALK_PREV_BUSY"⟩,
      ⟨2, 2, .ro, 0, "OFS_PREV_BUSY"⟩, ⟨1, 0, .keep, 0, ""⟩]
  | .ashCalSel => [⟨31, 31, .ro, 0, "PENDING"⟩, ⟨30, 2, .keep, 0, ""⟩, ⟨1, 1, .cb, 0, "WALK_BANK"⟩, ⟨0, 0, .cb, 0, "OFS_BANK"⟩]
  | .ashEngCtl => [⟨31, 1, .keep, 0, ""⟩, ⟨0, 0, .wo, 0, "CNT_CLR"⟩]
  | .ashEngStat => [⟨31, 19, .keep, 0, ""⟩, ⟨18, 16, .ro, 0, "STATE"⟩, ⟨15, 12, .ro, 0, "SLOT"⟩, ⟨11, 0, .ro, 0, "QUEUE"⟩]
  | .ashEngEvt => [⟨31, 20, .keep, 0, ""⟩, ⟨19, 19, .sqc, 0, "STRAGGLER"⟩, ⟨18, 18, .sqc, 0, "CHECK_ERR"⟩,
      ⟨17, 17, .sqc, 0, "LEFT_ACTIVE"⟩, ⟨16, 16, .sqc, 0, "ENTERED_ACTIVE"⟩, ⟨15, 0, .sqc, 0, "SEQ"⟩]
  | .ashInDrop => [⟨31, 0, .ro, 0, "COUNT"⟩]
  | .ashCntUncal => [⟨31, 0, .ro, 0, "COUNT"⟩]
  | .ashCntShift => [⟨31, 16, .ro, 0, "EARLIER"⟩, ⟨15, 0, .ro, 0, "LATER"⟩]
  | .ashStraggle => [⟨31, 0, .ro, 0, "COUNT"⟩]
  | .ashCntWave => [⟨31, 16, .ro, 0, "NO_PULSE"⟩, ⟨15, 0, .ro, 0, "EDGE_MISSED"⟩]
  | .ashCheckErr => [⟨31, 0, .ro, 0, "COUNT"⟩]
  | .ashSlotMap => [⟨31, 0, .ro, 0x76543210, "ENGINE"⟩]
  | .ashSpare => [⟨31, 4, .keep, 0, ""⟩, ⟨3, 0, .ro, 8, "ENGINE"⟩]
  | .ashWaveCfg => [⟨31, 14, .keep, 0, ""⟩, ⟨13, 13, .rw, 0, "KEEP_RAW"⟩, ⟨12, 12, .rw, 0, "BASE_SRC"⟩, ⟨11, 4, .rw, 8, "MIN_AMP"⟩,
      ⟨3, 0, .rw, 8, "FRACTION"⟩]
  | .ashOrphanDrop => [⟨31, 0, .ro, 0, "COUNT"⟩]
  | .ashPregion => [⟨31, 14, .keep, 0, ""⟩, ⟨13, 8, .rw, 0, "BASE"⟩, ⟨7, 5, .keep, 0, ""⟩, ⟨4, 0, .rw, 0x12, "SHIFT"⟩]
  | .ashPtab => [⟨31, 31, .ro, 0, "DELAY_CAL"⟩, ⟨30, 30, .ro, 0, "FIT"⟩, ⟨29, 19, .keep, 0, ""⟩, ⟨18, 0, .ro, 0, "BASE"⟩]
  | .crsCtl => [⟨31, 31, .wo, 0, "CNT_CLR"⟩, ⟨30, 16, .keep, 0, ""⟩, ⟨15, 0, .rw, 0x1000, "RESERVE"⟩]
  | .crsStat => [⟨31, 9, .keep, 0, ""⟩, ⟨8, 4, .ro, 0, "DEPTH"⟩, ⟨3, 0, .ro, 0xF, "OOS"⟩]
  | .crsEvt => [⟨31, 21, .keep, 0, ""⟩, ⟨20, 20, .sqc, 0, "MEM_ERR"⟩, ⟨19, 19, .sqc, 0, "OUT_OF_SERVICE"⟩, ⟨18, 18, .sqc, 0, "CAP_DROP"⟩,
      ⟨17, 17, .sqc, 0, "EARLY_RELEASE"⟩, ⟨16, 16, .sqc, 0, "LATE_REC"⟩, ⟨15, 0, .sqc, 0, "SEQ"⟩]
  | .crsEarlyRel => [⟨31, 0, .ro, 0, "COUNT"⟩]
  | .crsSnapSel => [⟨31, 2, .keep, 0, ""⟩, ⟨1, 0, .wo, 0, "SEL"⟩]
  | .crsSnapStat => [⟨31, 16, .ro, 0, "SNAP_SEQ"⟩, ⟨15, 3, .keep, 0, ""⟩, ⟨2, 1, .ro, 0, "SEL"⟩, ⟨0, 0, .ro, 0, "VALID"⟩]
  | .crsSnapData => [⟨31, 0, .ro, 0, "DATA"⟩]
  | .crsFree => [⟨31, 16, .ro, 0xF000, "MIN_FREE"⟩, ⟨15, 0, .ro, 0xF000, "FREE"⟩]
  | .crsCapDrop => [⟨31, 0, .ro, 0, "COUNT"⟩]
  | .crsOosDrop => [⟨31, 0, .ro, 0, "COUNT"⟩]
  | .crsMemErr => [⟨31, 0, .ro, 0, "COUNT"⟩]
  | .crsLateRec => [⟨31, 0, .ro, 0, "COUNT"⟩]
  | .molCtl => [⟨31, 2, .keep, 0, ""⟩, ⟨1, 1, .rw, 0, "FORCE_RAW"⟩, ⟨0, 0, .wo, 0, "CNT_CLR"⟩]
  | .molStat => [⟨31, 9, .keep, 0, ""⟩, ⟨8, 8, .ro, 0, "RAW_COPY"⟩, ⟨7, 4, .ro, 0, "BACKLOG"⟩, ⟨3, 3, .keep, 0, ""⟩,
      ⟨2, 0, .ro, 0, "STATE"⟩]
  | .molEvt => [⟨31, 20, .keep, 0, ""⟩, ⟨19, 19, .sqc, 0, "BIG_SLOT"⟩, ⟨18, 18, .sqc, 0, "MISMATCH"⟩, ⟨17, 17, .sqc, 0, "OVERRUN"⟩,
      ⟨16, 16, .sqc, 0, "ISOLATED"⟩, ⟨15, 0, .sqc, 0, "SEQ"⟩]
  | .molOverrun => [⟨31, 0, .ro, 0, "COUNT"⟩]
  | .molMismatch => [⟨31, 0, .ro, 0, "COUNT"⟩]
  | .molNoshrink => [⟨31, 0, .ro, 0, "COUNT"⟩]
  | .molBigSlot => [⟨31, 0, .ro, 0, "COUNT"⟩]
  | .molBlocks => [⟨31, 0, .ro, 0, "COUNT"⟩]
  | .molRatio => [⟨31, 16, .keep, 0, ""⟩, ⟨15, 0, .ro, 0x100, "RATIO"⟩]
  | .qryCtl => [⟨31, 31, .wo, 0, "CNT_CLR"⟩, ⟨30, 8, .keep, 0, ""⟩, ⟨7, 0, .rw, 0x64, "RECALL_BUDGET"⟩]
  | .qryStat => [⟨31, 14, .keep, 0, ""⟩, ⟨13, 8, .ro, 0x3F, "ABSENT"⟩, ⟨7, 7, .ro, 0, "FLOOR_REACHED"⟩, ⟨6, 6, .ro, 0, "FLOOR_OK"⟩,
      ⟨5, 2, .keep, 0, ""⟩, ⟨1, 0, .ro, 0, "STATE"⟩]
  | .qryEvt => [⟨31, 22, .keep, 0, ""⟩, ⟨21, 21, .sqc, 0, "RETIRE_NEAR_FULL"⟩, ⟨20, 20, .sqc, 0, "READ_CRC"⟩, ⟨19, 19, .sqc, 0, "DAMAGED"⟩,
      ⟨18, 18, .sqc, 0, "PIN_BREAK"⟩, ⟨17, 17, .sqc, 0, "FLOOR_BREACH"⟩, ⟨16, 16, .sqc, 0, "HALTED"⟩, ⟨15, 0, .sqc, 0, "SEQ"⟩]
  | .qryDepth => [⟨31, 22, .keep, 0, ""⟩, ⟨21, 0, .ro, 0, "COURSES"⟩]
  | .qryDepthMin => [⟨31, 22, .keep, 0, ""⟩, ⟨21, 0, .ro, 0, "COURSES"⟩]
  | .qryPins => [⟨31, 24, .ro, 0, "WAITING"⟩, ⟨23, 21, .keep, 0, ""⟩, ⟨20, 0, .ro, 0, "PINNED"⟩]
  | .qryPinBreaks => [⟨31, 0, .ro, 0, "COUNT"⟩]
  | .qryDamaged => [⟨31, 0, .ro, 0, "COUNT"⟩]
  | .qryReadCrc => [⟨31, 0, .ro, 0, "COUNT"⟩]
  | .qryRetire => [⟨31, 13, .keep, 0, ""⟩, ⟨12, 0, .ro, 0, "ENTRIES"⟩]
  | .qryHwinPage => [⟨31, 4, .keep, 0, ""⟩, ⟨3, 0, .rw, 0, "PAGE"⟩]
  | .qryHwinStat => [⟨31, 19, .keep, 0, ""⟩, ⟨18, 18, .sqc, 0, "HWIN_ABSENT"⟩, ⟨17, 17, .sqc, 0, "HWIN_REFUSED"⟩,
      ⟨16, 16, .sqc, 0, "HWIN_UNWRITTEN"⟩, ⟨15, 0, .sqc, 0, "SEQ"⟩]
  | .qryHwinAddr => [⟨31, 24, .keep, 0, ""⟩, ⟨23, 0, .ro, 0, "GRANULE"⟩]
  | .qryFindHi => [⟨31, 0, .rw, 0, "SEC_HI"⟩]
  | .qryFindLo => [⟨31, 0, .rw, 0, "SEC_LO"⟩]
  | .qryFindNs => [⟨31, 0, .wo, 0, "NS"⟩]
  | .qrySnapSel => [⟨31, 2, .keep, 0, ""⟩, ⟨1, 0, .wo, 0, "SEL"⟩]
  | .qrySnapStat => [⟨31, 16, .ro, 0, "SNAP_SEQ"⟩, ⟨15, 3, .keep, 0, ""⟩, ⟨2, 1, .ro, 0, "SEL"⟩, ⟨0, 0, .ro, 0, "VALID"⟩]
  | .qrySnapData => [⟨31, 0, .ro, 0, "DATA"⟩]
  | .memCtl => [⟨31, 31, .wo, 0, "CNT_CLR"⟩, ⟨30, 1, .keep, 0, ""⟩, ⟨0, 0, .rw, 0, "INJECT_EN"⟩]
  | .memStat => [⟨31, 24, .keep, 0, ""⟩, ⟨23, 16, .ro, 0, "RESTORE_QUEUE"⟩, ⟨15, 2, .keep, 0, ""⟩, ⟨1, 0, .ro, 0, "STATE"⟩]
  | .memEvt => [⟨31, 22, .keep, 0, ""⟩, ⟨21, 21, .sqc, 0, "SCRUB_SLOW"⟩, ⟨20, 20, .sqc, 0, "RESTORE_FAIL"⟩, ⟨19, 19, .sqc, 0, "RESTORED"⟩,
      ⟨18, 18, .sqc, 0, "HBM_UNCORR"⟩, ⟨17, 17, .sqc, 0, "SRAM_UNCORR"⟩, ⟨16, 16, .sqc, 0, "RETIRED"⟩, ⟨15, 0, .sqc, 0, "SEQ"⟩]
  | .memLastRead => [⟨31, 31, .sqc, 0, "NEVER_WRITTEN"⟩, ⟨30, 30, .sqc, 0, "DAMAGED_READ"⟩, ⟨29, 24, .ro, 0, "MEMORY"⟩,
      ⟨23, 16, .ro, 0, "INSTANCE"⟩, ⟨15, 0, .sqc, 0, "SEQ"⟩]
  | .memLastAddr => [⟨31, 0, .ro, 0, "BLOCK"⟩]
  | .memScrubCfg => [⟨31, 24, .ro, 0x64, "HBM_RATE"⟩, ⟨23, 16, .ro, 0x10, "PERIOD"⟩, ⟨15, 11, .keep, 0, ""⟩,
      ⟨10, 0, .ro, 0x40, "SRAM_INTERVAL"⟩]
  | .memScrubStat => [⟨31, 16, .ro, 0, "HBM_PASSES"⟩, ⟨15, 0, .ro, 0, "SRAM_PASSES"⟩]
  | .memScrubPos => [⟨31, 24, .keep, 0, ""⟩, ⟨23, 0, .ro, 0, "GRANULE"⟩]
  | .memRestoreCnt => [⟨31, 16, .ro, 0, "RESTORED"⟩, ⟨15, 0, .ro, 0, "FAILED"⟩]
  | .memHbmCnt => [⟨31, 16, .ro, 0, "UNCORR"⟩, ⟨15, 0, .ro, 0, "CORR"⟩]
  | .memInject => [⟨31, 26, .wo, 0, "MEMORY"⟩, ⟨25, 20, .wo, 0, "INSTANCE"⟩, ⟨19, 19, .wo, 0, "ARM"⟩, ⟨18, 18, .wo, 0, "DOUBLE"⟩,
      ⟨17, 17, .ro, 0, "ARMED"⟩, ⟨16, 15, .keep, 0, ""⟩, ⟨14, 8, .wo, 0, "BIT_B"⟩, ⟨7, 7, .keep, 0, ""⟩, ⟨6, 0, .wo, 0, "BIT_A"⟩]
  | .memCntCorr => [⟨31, 0, .ro, 0, "COUNT"⟩]
  | .memCntUncorr => [⟨31, 0, .ro, 0, "COUNT"⟩]
  | .mrtUnitStat => [⟨31, 16, .ro, 0, "WORK"⟩, ⟨15, 8, .ro, 0, "QREQ"⟩, ⟨7, 3, .keep, 0, ""⟩, ⟨2, 0, .ro, 0, "STATE"⟩]
  | .mrtUnitEvt => [⟨31, 20, .keep, 0, ""⟩, ⟨19, 19, .sqc, 0, "CELL_UNCORR"⟩, ⟨18, 18, .sqc, 0, "TRUNC"⟩, ⟨17, 17, .sqc, 0, "LATE_PATH"⟩,
      ⟨16, 16, .sqc, 0, "OUT"⟩, ⟨15, 0, .sqc, 0, "SEQ"⟩]
  | .mrtUnitCnt => [⟨31, 0, .ro, 0, "FRAGMENTS"⟩]
  | .mrtUnitTrunc => [⟨31, 16, .ro, 0, "HEAD_WAIT"⟩, ⟨15, 0, .ro, 0, "MAX_CELLS"⟩]
  | .mrtUnitLatepath => [⟨31, 0, .ro, 0, "COUNT"⟩]
  | .mrtUnitCellerr => [⟨31, 0, .ro, 0, "COUNT"⟩]
  | .mrtAccCtl => [⟨31, 4, .keep, 0, ""⟩, ⟨3, 3, .wo, 0, "RESYNC"⟩, ⟨2, 2, .wo, 0, "CNT_CLR"⟩, ⟨1, 1, .rw, 0, "RECALL_EN"⟩,
      ⟨0, 0, .rw, 0, "ENABLE"⟩]
  | .mrtAccStat => [⟨31, 15, .keep, 0, ""⟩, ⟨14, 14, .ro, 0, "E_VALID"⟩, ⟨13, 13, .ro, 0, "REFUSING"⟩, ⟨12, 0, .ro, 0, "ENTRIES"⟩]
  | .mrtAccEvt => [⟨31, 24, .keep, 0, ""⟩, ⟨23, 23, .sqc, 0, "NO_TIME"⟩, ⟨22, 22, .sqc, 0, "FUTURE"⟩, ⟨21, 21, .sqc, 0, "SPACING"⟩,
      ⟨20, 20, .sqc, 0, "REFUSED"⟩, ⟨19, 19, .sqc, 0, "LOST"⟩, ⟨18, 18, .sqc, 0, "DUP"⟩, ⟨17, 17, .sqc, 0, "MALFORMED"⟩,
      ⟨16, 16, .sqc, 0, "THROTTLE"⟩, ⟨15, 0, .sqc, 0, "SEQ"⟩]
  | .mrtCntAccept => [⟨31, 0, .ro, 0, "COUNT"⟩]
  | .mrtCntRecall => [⟨31, 0, .ro, 0, "COUNT"⟩]
  | .mrtCntLost => [⟨31, 0, .ro, 0, "COUNT"⟩]
  | .mrtCntRefused => [⟨31, 0, .ro, 0, "COUNT"⟩]
  | .mrtCntGap => [⟨31, 0, .ro, 0, "COUNT"⟩]
  | .mrtCntDisc => [⟨31, 16, .ro, 0, "DUP"⟩, ⟨15, 0, .ro, 0, "MALFORMED"⟩]
  | .mrtCntIgnored => [⟨31, 0, .ro, 0, "COUNT"⟩]
  | .mrtThrotPool => [⟨31, 16, .rw, 0x6000, "HIGH"⟩, ⟨15, 0, .rw, 0x4000, "LOW"⟩]
  | .mrtThrotTable => [⟨31, 29, .keep, 0, ""⟩, ⟨28, 16, .rw, 0xC00, "HIGH"⟩, ⟨15, 13, .keep, 0, ""⟩, ⟨12, 0, .rw, 0x800, "LOW"⟩]
  | .mrtThrotSelLo => [⟨31, 0, .rw, 0xFFFFFFFF, "STREAMS"⟩]
  | .mrtThrotSelHi => [⟨31, 16, .keep, 0, ""⟩, ⟨15, 0, .rw, 0xFFFF, "STREAMS"⟩]
  | .mrtThrotStat => [⟨31, 5, .keep, 0, ""⟩, ⟨4, 4, .ro, 1, "ASSERTED"⟩, ⟨3, 3, .ro, 1, "CAUSE_OFF"⟩, ⟨2, 2, .ro, 0, "CAUSE_TABLE"⟩,
      ⟨1, 1, .ro, 0, "CAUSE_POOL"⟩, ⟨0, 0, .ro, 0, "CAUSE_STREAM"⟩]
  | .mrtPoolStat => [⟨31, 16, .ro, 0, "MIN_FREE"⟩, ⟨15, 0, .ro, 0, "FREE"⟩]
  | .mrtPoolCfg => [⟨31, 8, .keep, 0, ""⟩, ⟨7, 0, .rw, 4, "HEAD_WAIT"⟩]
  | .mrtSnapSel => [⟨31, 14, .keep, 0, ""⟩, ⟨13, 8, .wo, 0, "STREAM"⟩, ⟨7, 2, .keep, 0, ""⟩, ⟨1, 0, .wo, 0, "SEL"⟩]
  | .mrtSnapStat => [⟨31, 16, .ro, 0, "SNAP_SEQ"⟩, ⟨15, 3, .keep, 0, ""⟩, ⟨2, 1, .ro, 0, "SEL"⟩, ⟨0, 0, .ro, 0, "VALID"⟩]
  | .mrtSnapData => [⟨31, 0, .ro, 0, "DATA"⟩]
  | .mrtWindow => [⟨31, 31, .ro, 0, "PENDING"⟩, ⟨30, 30, .cb, 0, "ENABLE"⟩, ⟨29, 14, .keep, 0, ""⟩, ⟨13, 8, .cb, 0x1F, "WEND"⟩,
      ⟨7, 6, .keep, 0, ""⟩, ⟨5, 0, .cb, 0x20, "WSTART"⟩]
  | .mrtClassMapLo => [⟨31, 0, .cb, 0, "STREAMS"⟩]
  | .mrtClassMapHi => [⟨31, 31, .ro, 0, "PENDING"⟩, ⟨30, 16, .keep, 0, ""⟩, ⟨15, 0, .cb, 0, "STREAMS"⟩]
  | .mrtStreamCfg => [⟨31, 31, .ro, 0, "PENDING"⟩, ⟨30, 30, .cb, 0, "ENABLE"⟩, ⟨29, 28, .cb, 0, "UNIT"⟩, ⟨27, 27, .cb, 1, "LOSS_SUMMARY"⟩,
      ⟨26, 15, .keep, 0, ""⟩, ⟨14, 0, .cb, 0x1000, "MAX_CELLS"⟩]
  | .mrtStreamPmaskLo => [⟨31, 0, .cb, 0xFFFFFFFF, "PARTNERS"⟩]
  | .mrtStreamPmaskHi => [⟨31, 0, .cb, 0xFFFFFFFF, "PARTNERS"⟩]
  | .mrtStreamWm => [⟨31, 16, .rw, 0x400, "HIGH"⟩, ⟨15, 0, .rw, 0x200, "LOW"⟩]
  | .mrtStreamCtl => [⟨31, 1, .keep, 0, ""⟩, ⟨0, 0, .wo, 0, "FLUSH"⟩]
  | .mrtStreamStat => [⟨31, 31, .ro, 0, "ABOVE"⟩, ⟨30, 30, .ro, 0, "FLUSHING"⟩, ⟨29, 29, .ro, 0, "STARVED"⟩, ⟨28, 16, .keep, 0, ""⟩,
      ⟨15, 0, .ro, 0, "CELLS"⟩]
  | .mrtStreamFrags => [⟨31, 16, .ro, 0, "BUILDING"⟩, ⟨15, 0, .ro, 0, "WAITING"⟩]
  | .mrtStreamLate => [⟨31, 16, .ro, 0, "FLUSHED"⟩, ⟨15, 0, .ro, 0, "LATE"⟩]
  | .uplGrpStat => [⟨31, 10, .keep, 0, ""⟩, ⟨9, 8, .ro, 0, "RL_SYNC"⟩, ⟨7, 0, .ro, 0, "ACTIVE_MASK"⟩]
  | .uplLinkCfg => [⟨31, 17, .keep, 0, ""⟩, ⟨16, 16, .rw, 0, "EQ_END"⟩, ⟨15, 14, .rw, 2, "SWING"⟩, ⟨13, 12, .keep, 0, ""⟩,
      ⟨11, 8, .rw, 4, "POST"⟩, ⟨7, 7, .keep, 0, ""⟩, ⟨6, 4, .rw, 0, "PRE"⟩, ⟨3, 1, .keep, 0, ""⟩, ⟨0, 0, .rw, 1, "ENABLE"⟩]
  | .uplLinkStat => [⟨31, 24, .keep, 0, ""⟩, ⟨23, 18, .ro, 0, "STREAM"⟩, ⟨17, 16, .ro, 0, "ROLE"⟩, ⟨15, 6, .keep, 0, ""⟩,
      ⟨5, 5, .ro, 0, "REF_HOLD"⟩, ⟨4, 4, .ro, 0, "PLL_LOCK"⟩, ⟨3, 3, .ro, 0, "IN_BLOCK"⟩, ⟨2, 2, .keep, 0, ""⟩, ⟨1, 0, .ro, 0, "STATE"⟩]
  | .uplLinkEvt => [⟨31, 21, .keep, 0, ""⟩, ⟨20, 20, .sqc, 0, "REF_HOLD"⟩, ⟨19, 19, .sqc, 0, "PLL_UNLOCK"⟩, ⟨18, 18, .sqc, 0, "CUT"⟩,
      ⟨17, 17, .sqc, 0, "LEFT_ACTIVE"⟩, ⟨16, 16, .sqc, 0, "ENTERED_ACTIVE"⟩, ⟨15, 0, .sqc, 0, "SEQ"⟩]
  | .uplLinkBal => [⟨31, 31, .keep, 0, ""⟩, ⟨30, 0, .ro, 0, "BALANCE"⟩]
  | .uplLinkCells => [⟨31, 0, .ro, 0, "CONSUMED"⟩]
  | .uplLinkCnt => [⟨31, 16, .ro, 0, "INITS"⟩, ⟨15, 0, .ro, 0, "CUTS"⟩]
  | .uplRlCfg => [⟨31, 12, .keep, 0, ""⟩, ⟨11, 8, .rw, 8, "CTLE"⟩, ⟨7, 4, .keep, 0, ""⟩, ⟨3, 3, .rw, 0, "DFE_FREEZE"⟩,
      ⟨2, 2, .rw, 0, "RX_INVERT"⟩, ⟨1, 1, .keep, 0, ""⟩, ⟨0, 0, .rw, 1, "ENABLE"⟩]
  | .uplRlStat => [⟨31, 11, .keep, 0, ""⟩, ⟨10, 10, .ro, 0, "SYNC"⟩, ⟨9, 9, .ro, 0, "CDR_LOCK"⟩, ⟨8, 8, .ro, 0, "SIGNAL"⟩,
      ⟨7, 0, .keep, 0, ""⟩]
  | .uplRlEvt => [⟨31, 19, .keep, 0, ""⟩, ⟨18, 18, .sqc, 0, "BAD_MSG"⟩, ⟨17, 17, .sqc, 0, "SYNC_LOST"⟩, ⟨16, 16, .sqc, 0, "SYNC_GAINED"⟩,
      ⟨15, 0, .sqc, 0, "SEQ"⟩]
  | .uplRlErr => [⟨31, 16, .ro, 0, "CODE_ERR"⟩, ⟨15, 8, .ro, 0, "BAD_MSG"⟩, ⟨7, 0, .ro, 0, "BACKWARD"⟩]
  | .uplStreamMap => [⟨31, 31, .ro, 0, "PENDING"⟩, ⟨30, 15, .keep, 0, ""⟩, ⟨14, 14, .cb, 0, "MIRROR_EN"⟩, ⟨13, 8, .cb, 0, "MIRROR"⟩,
      ⟨7, 6, .keep, 0, ""⟩, ⟨5, 0, .cb, 0, "PRIMARY"⟩]
  | .uplStreamStat => [⟨31, 8, .keep, 0, ""⟩, ⟨7, 7, .ro, 0, "MOVING"⟩, ⟨6, 6, .ro, 0, "MIRROR_CONFLICT"⟩,
      ⟨5, 5, .ro, 0, "PRIMARY_CONFLICT"⟩, ⟨4, 4, .ro, 0, "MIRROR_CARRIES"⟩, ⟨3, 3, .ro, 0, "PRIMARY_CARRIES"⟩, ⟨2, 0, .keep, 0, ""⟩]
  | .uplStreamCtl => [⟨31, 13, .keep, 0, ""⟩, ⟨12, 8, .rw, 0, "SUMMARY"⟩, ⟨7, 5, .keep, 0, ""⟩, ⟨4, 0, .rw, 0xB, "BEACON"⟩]
  | .uplStreamCnt => [⟨31, 16, .ro, 0, "RESENT"⟩, ⟨15, 0, .ro, 0, "REPLACED"⟩]
  | .uplEvt => [⟨31, 20, .keep, 0, ""⟩, ⟨19, 19, .sqc, 0, "MAP_REFUSED"⟩, ⟨18, 18, .sqc, 0, "MAP_CONFLICT"⟩, ⟨17, 17, .sqc, 0, "MOVED"⟩,
      ⟨16, 16, .sqc, 0, "RESENT"⟩, ⟨15, 0, .sqc, 0, "SEQ"⟩]
  | .lntCtl => [⟨31, 31, .wo, 0, "CNT_CLR"⟩, ⟨30, 2, .keep, 0, ""⟩, ⟨1, 1, .rw, 1, "WAVE_EN"⟩, ⟨0, 0, .rw, 0, "ENABLE"⟩]
  | .lntLatency => [⟨31, 31, .ro, 0, "PENDING"⟩, ⟨30, 8, .keep, 0, ""⟩, ⟨7, 0, .cb, 0xC0, "CYCLES"⟩]
  | .lntStat => [⟨31, 11, .keep, 0, ""⟩, ⟨10, 9, .ro, 0, "STATE"⟩, ⟨8, 8, .ro, 0, "WARMING"⟩, ⟨7, 0, .ro, 0, "SENDING"⟩]
  | .lntEvt => [⟨31, 22, .keep, 0, ""⟩, ⟨21, 21, .sqc, 0, "PIPE_ERR"⟩, ⟨20, 20, .sqc, 0, "CONFLICT"⟩, ⟨19, 19, .sqc, 0, "SKIPPED"⟩,
      ⟨18, 18, .sqc, 0, "LATE_TAP"⟩, ⟨17, 17, .sqc, 0, "OVERFLOW"⟩, ⟨16, 16, .sqc, 0, "SAT"⟩, ⟨15, 0, .sqc, 0, "SEQ"⟩]
  | .lntCntAdmit => [⟨31, 0, .ro, 0, "COUNT"⟩]
  | .lntCntOver => [⟨31, 0, .ro, 0, "COUNT"⟩]
  | .lntCntLateTap => [⟨31, 0, .ro, 0, "COUNT"⟩]
  | .lntCntSat => [⟨31, 0, .ro, 0, "COUNT"⟩]
  | .lntCntSkip => [⟨31, 0, .ro, 0, "COUNT"⟩]
  | .lntCntFrames => [⟨31, 0, .ro, 0, "COUNT"⟩]
  | .lntPlossLo => [⟨31, 0, .ro, 0, "PARTNERS"⟩]
  | .lntPlossHi => [⟨31, 0, .ro, 0, "PARTNERS"⟩]
  | .lntPend => [⟨31, 1, .keep, 0, ""⟩, ⟨0, 0, .ro, 0, "PENDING"⟩]
  | .lntLane => [⟨31, 31, .cb, 0, "ENABLE"⟩, ⟨30, 30, .ro, 0, "CONFLICT"⟩, ⟨29, 29, .ro, 0, "SENDING"⟩, ⟨28, 6, .keep, 0, ""⟩,
      ⟨5, 0, .cb, 0, "UPLINK"⟩]
  | .lntRegion => [⟨31, 31, .cb, 0, "ENABLE"⟩, ⟨30, 30, .keep, 0, ""⟩, ⟨29, 24, .cb, 0, "PARTNER"⟩, ⟨23, 12, .cb, 0, "FIRST_BLK"⟩,
      ⟨11, 0, .cb, 0xFFF, "LAST_BLK"⟩]
  | .lntRegOfs => [⟨31, 31, .ro, 0, "VALID"⟩, ⟨30, 16, .keep, 0, ""⟩, ⟨15, 0, .cb, 0, "OFFSET"⟩]
  | .lntPair => [⟨31, 31, .cb, 0, "ENABLE"⟩, ⟨30, 30, .keep, 0, ""⟩, ⟨29, 24, .cb, 0, "REG_A"⟩, ⟨23, 22, .keep, 0, ""⟩,
      ⟨21, 16, .cb, 0, "REG_B"⟩, ⟨15, 12, .cb, 0, "MIN"⟩, ⟨11, 0, .cb, 0, "WINDOW"⟩]
  | .lntCountLo => [⟨31, 0, .cb, 0, "REGIONS"⟩]
  | .lntCountHi => [⟨31, 0, .cb, 0, "REGIONS"⟩]

/-- The registers that have an entry in 64 KiB block number `b` of BAR0. -/
def blockRegs (b : Nat) : List Reg :=
  if b = 0x0 then [.hstId, .hstDeviceId, .hstInstallPos, .hstWho, .hstOwner, .hstLock, .hstCb, .hstStat, .hstEvt,
      .hstRefused, .hstTick, .hstPortStat, .hstPortCnt, .hstIrqEn, .hstIrqHoldoff]
  else if b = 0x1 then [.ldgStat, .ldgEvt, .ldgCnt, .ldgOvertime, .ldgCmd, .ldgRsp, .ldgMbSubmit, .ldgMbStat,
      .ldgMbAck]
  else if b = 0x2 then [.fltCtl, .fltStat, .fltEvt, .fltAck, .fltAckSrc, .fltAckUpto, .fltLogNewest, .fltLogOldest,
      .fltLogLost, .fltDpCtl, .fltSnapSeq, .fltSnapSrc, .fltSnapStat, .fltSnapData, .fltSrcCfg, .fltSrcStat]
  else if b = 0x3 then [.btrCtl, .btrEvt, .btrOutvotes, .btrLast, .btrLastCourse, .btrInject]
  else if b = 0x4 then [.pwrStat, .pwrEvt, .pwrVin, .pwrIin, .pwrPin, .pwrTempCfg, .pwrTempMax, .pwrCnt,
      .pwrRailStat, .pwrDomStat, .pwrDomFail, .pwrTemp]
  else if b = 0x5 then [.quoCtl, .quoNominal, .quoDomainSel, .quoStat, .quoEvt, .quoSwitchMax, .quoHoldLimit,
      .quoDiff, .quoOrbit, .quoTxqStat, .quoTxqPop, .quoSnapSel, .quoSnapStat, .quoTxqOvf, .quoSnapData, .quoDomCfg,
      .quoDomStat, .quoDomAsym, .quoTxBuf, .quoTxCtl, .quoDlPhase, .quoPdelay, .quoPasym, .quoPtrim, .quoPrtt]
  else if b = 0x6 then [.plbCtl, .plbCfg, .plbPre, .plbPost, .plbStat, .plbEvt, .plbMissed, .plbPostCourses,
      .plbLost, .plbSnapSel, .plbSnapStat, .plbSnapData, .plbSig, .plbDelta, .plbThr, .plbThrLevel]
  else if b = 0x7 then [.cnsStat, .cnsEvt, .cnsLost, .cnsStart, .cnsLast, .cnsClearCode]
  else if b = 0x8 then [.gauCtl, .gauStat, .gauEvt, .gauBlank, .gauSnapSel, .gauSnapStat, .gauSnapData, .gauConvCfg,
      .gauConvStat, .gauChCfg, .gauChStat, .gauRes, .gauCalOfs, .gauCalGain, .gauOutCfg, .gauOutLo, .gauOutHi,
      .gauOutFreq, .gauOutAux, .gauOutStat]
  else if 0x10 ≤ b ∧ b ≤ 0x2F then [.bedDlCfg, .bedDlStat, .bedDlEvt, .bedDlFc, .bedDlFcArg, .bedPmap, .bedPchan,
      .bedPid, .bedPstat, .bedPcntFrame, .bedPcntCap, .bedPcntSpan, .bedPevt, .bedPpol, .bedGrpCfg, .bedGrpStat,
      .bedGrpCtl, .bedSnapSel, .bedSnapStat, .bedSnapData, .bedAcctStat, .bedPclr, .bedLaneCfg, .bedLaneStat,
      .bedLaneEvt, .bedLaneErr, .bedLaneEq, .bedLaneCnt, .ashTgCfg, .ashTgStat, .ashCalSel]
  else if 0x30 ≤ b ∧ b ≤ 0x38 then [.ashSlotMap, .ashSpare, .ashWaveCfg, .ashOrphanDrop, .ashPregion, .ashPtab,
      .ashEngCtl, .ashEngStat, .ashEngEvt, .ashInDrop, .ashCntUncal, .ashCntShift, .ashStraggle, .ashCntWave,
      .ashCheckErr]
  else if b = 0x40 then [.crsCtl, .crsStat, .crsEvt, .crsEarlyRel, .crsSnapSel, .crsSnapStat, .crsSnapData, .crsFree,
      .crsCapDrop, .crsOosDrop, .crsMemErr, .crsLateRec]
  else if 0x44 ≤ b ∧ b ≤ 0x47 then [.molCtl, .molStat, .molEvt, .molOverrun, .molMismatch, .molNoshrink, .molBigSlot,
      .molBlocks, .molRatio]
  else if b = 0x50 then [.qryCtl, .qryStat, .qryEvt, .qryDepth, .qryDepthMin, .qryPins, .qryPinBreaks, .qryDamaged,
      .qryReadCrc, .qryRetire, .qryHwinPage, .qryHwinStat, .qryHwinAddr, .qryFindHi, .qryFindLo, .qryFindNs,
      .qrySnapSel, .qrySnapStat, .qrySnapData]
  else if b = 0x58 then [.memCtl, .memStat, .memEvt, .memLastRead, .memLastAddr, .memScrubCfg, .memScrubStat,
      .memScrubPos, .memRestoreCnt, .memHbmCnt, .memInject, .memCntCorr, .memCntUncorr]
  else if 0x60 ≤ b ∧ b ≤ 0x63 then [.mrtAccCtl, .mrtAccStat, .mrtAccEvt, .mrtCntAccept, .mrtCntRecall, .mrtCntLost,
      .mrtCntRefused, .mrtCntGap, .mrtCntDisc, .mrtCntIgnored, .mrtThrotPool, .mrtThrotTable, .mrtThrotSelLo,
      .mrtThrotSelHi, .mrtThrotStat, .mrtPoolStat, .mrtPoolCfg, .mrtSnapSel, .mrtSnapStat, .mrtSnapData, .mrtWindow,
      .mrtClassMapLo, .mrtClassMapHi, .mrtStreamCfg, .mrtStreamPmaskLo, .mrtStreamPmaskHi, .mrtStreamWm,
      .mrtStreamCtl, .mrtStreamStat, .mrtStreamFrags, .mrtStreamLate, .mrtUnitStat, .mrtUnitEvt, .mrtUnitCnt,
      .mrtUnitTrunc, .mrtUnitLatepath, .mrtUnitCellerr]
  else if 0x68 ≤ b ∧ b ≤ 0x6F then [.uplStreamMap, .uplStreamStat, .uplStreamCtl, .uplStreamCnt, .uplEvt,
      .uplGrpStat, .uplLinkCfg, .uplLinkStat, .uplLinkEvt, .uplLinkBal, .uplLinkCells, .uplLinkCnt, .uplRlCfg,
      .uplRlStat, .uplRlEvt, .uplRlErr]
  else if b = 0x70 then [.lntCtl, .lntLatency, .lntStat, .lntEvt, .lntCntAdmit, .lntCntOver, .lntCntLateTap,
      .lntCntSat, .lntCntSkip, .lntCntFrames, .lntPlossLo, .lntPlossHi, .lntPend, .lntLane, .lntRegion, .lntRegOfs,
      .lntPair, .lntCountLo, .lntCountHi]
  else []

/-- BAR0 offset of an entry of a register (R475). -/
def regOff (r : Reg) (i : Nat := 0) (j : Nat := 0) : Nat :=
  let p := r.place
  p.base + i / p.per * p.blk + i % p.per * p.stride + j * p.stride2

/-- R311, R310 and the block chapters: whether a fault source has this identifier. -/
def srcAssigned (n : Nat) : Bool :=
  n == 0x001 || (0x010 ≤ n && n ≤ 0x013) || n == 0x020 || n == 0x021 || (0x050 ≤ n && n ≤ 0x059) || (0x080 ≤ n && n ≤ 0x088)
    || (0x0A0 ≤ n && n ≤ 0x0A5) || (0x120 ≤ n && n ≤ 0x127) || (0x140 ≤ n && n ≤ 0x147) || (0x160 ≤ n && n ≤ 0x16B)
    || (0x180 ≤ n && n ≤ 0x184) || (0x1A0 ≤ n && n ≤ 0x1A7) || (0x200 ≤ n && n ≤ 0x207) || n == 0x210 || n == 0x211
    || (0x220 ≤ n && n ≤ 0x223) || (0x240 ≤ n && n ≤ 0x244) || (0x260 ≤ n && n ≤ 0x263)

/-- Whether entry `i`, `j` of a register exists (R320 for the per-source registers). -/
def regExists (r : Reg) (i j : Nat) : Bool :=
  decide (i < r.place.count) && decide (j < r.place.count2) &&
    (match r with | .fltSrcCfg | .fltSrcStat => srcAssigned i | _ => true)

/-- The entry of register `r` that could lie at offset `off`. -/
def regGuess (r : Reg) (off : Nat) : Nat × Nat :=
  let p := r.place
  let d := off - p.base
  let q := if p.blk = 0 then 0 else d / p.blk
  let rem := d - q * p.blk
  let i := if p.stride = 0 then 0 else rem / p.stride
  let rem2 := rem - i * p.stride
  (q * p.per + i, if p.stride2 = 0 then 0 else rem2 / p.stride2)

/-- The register entry at a BAR0 offset, if any (R475, R476). -/
def regAt (off : Nat) : Option (Reg × Nat × Nat) :=
  (blockRegs (off / 0x10000)).findSome? fun r =>
    let g := regGuess r off
    if decide (r.place.base ≤ off) && decide (regOff r g.1 g.2 = off) && regExists r g.1 g.2 then some (r, g.1, g.2) else none

/-- The bits of a register that carry access code `a`. -/
def regMask (r : Reg) (a : Acc) : Word :=
  r.fields.foldl (fun m f => if f.acc = a then m ||| fldMask f.hi f.lo else m) 0

/-- The part of the reset value that a register table gives as a plain number. -/
def regResetStatic (r : Reg) : Word := r.fields.foldl (fun m f => m ||| mkFld f.hi f.lo f.reset) 0

end Sys2Proof.Machine
end

