-- ==== Sys2Proof/Machine/Sources.lean ====
section
/-!
DEFINITION. The fault sources: identifiers, default severities and which are condition sources (R310, R311, R316 and the source
tables of the block chapters).
-/
namespace Sys2Proof.Machine

/-- FLT_LOG_FULL. -/
abbrev Src.fltLogFull : Nat := 0x001
/-- LOCK_WRITE. -/
abbrev Src.lockWrite : Nat := 0x010
/-- HST_LINK_DOWN. -/
abbrev Src.hstLinkDown : Nat := 0x011
/-- HST_AER_UNCORR. -/
abbrev Src.hstAerUncorr : Nat := 0x012
/-- HST_FLR. -/
abbrev Src.hstFlr : Nat := 0x013
/-- LDG_CMD_ERROR. -/
abbrev Src.ldgCmdError : Nat := 0x020
/-- LDG_OVERTIME. -/
abbrev Src.ldgOvertime : Nat := 0x021
/-- TIME_DOMAIN_LOST. -/
abbrev Src.timeDomainLost : Nat := 0x050
/-- TIME_HOLDOVER. -/
abbrev Src.timeHoldover : Nat := 0x051
/-- TIME_HOLD_EXPIRED. -/
abbrev Src.timeHoldExpired : Nat := 0x052
/-- TIME_DOMAIN_DISAGREE. -/
abbrev Src.timeDomainDisagree : Nat := 0x053
/-- TIME_SWITCH. -/
abbrev Src.timeSwitch : Nat := 0x054
/-- TIME_TXQ_OVERFLOW. -/
abbrev Src.timeTxqOverflow : Nat := 0x055
/-- TIME_ORBIT_MISMATCH. -/
abbrev Src.timeOrbitMismatch : Nat := 0x056
/-- TIME_FREQ_RANGE. -/
abbrev Src.timeFreqRange : Nat := 0x057
/-- TIME_MSG_BAD. -/
abbrev Src.timeMsgBad : Nat := 0x058
/-- TIME_XO_FAIL. -/
abbrev Src.timeXoFail : Nat := 0x059
/-- BED_LANE_LOST. -/
abbrev Src.bedLaneLost : Nat := 0x080
/-- BED_TRAIN_FAIL. -/
abbrev Src.bedTrainFail : Nat := 0x081
/-- BED_EXCH_MISMATCH. -/
abbrev Src.bedExchMismatch : Nat := 0x082
/-- BED_QUARANTINE. -/
abbrev Src.bedQuarantine : Nat := 0x083
/-- BED_CODE_ERR. -/
abbrev Src.bedCodeErr : Nat := 0x084
/-- BED_PARTNER_OFFENCE. -/
abbrev Src.bedPartnerOffence : Nat := 0x085
/-- BED_ACCT_OVERFLOW. -/
abbrev Src.bedAcctOverflow : Nat := 0x086
/-- PARTNER_CFG_TIMEOUT. -/
abbrev Src.partnerCfgTimeout : Nat := 0x087
/-- DL_PLL_UNLOCK. -/
abbrev Src.dlPllUnlock : Nat := 0x088
/-- ASH_ENGINE_ERR. -/
abbrev Src.ashEngineErr : Nat := 0x0A0
/-- ASH_SLOT_ORPHAN. -/
abbrev Src.ashSlotOrphan : Nat := 0x0A1
/-- ASH_MIGRATED. -/
abbrev Src.ashMigrated : Nat := 0x0A2
/-- ASH_STRAGGLER. -/
abbrev Src.ashStraggler : Nat := 0x0A3
/-- ASH_TABLE_UNCAL. -/
abbrev Src.ashTableUncal : Nat := 0x0A4
/-- ASH_TABLE_FRAG. -/
abbrev Src.ashTableFrag : Nat := 0x0A5
/-- COURSE_LATE_REC. -/
abbrev Src.courseLateRec : Nat := 0x120
/-- STAGE_OVERRUN. -/
abbrev Src.stageOverrun : Nat := 0x121
/-- CRS_EARLY_RELEASE. -/
abbrev Src.crsEarlyRelease : Nat := 0x122
/-- CRS_CAP_DROP. -/
abbrev Src.crsCapDrop : Nat := 0x123
/-- CRS_OUT_OF_SERVICE. -/
abbrev Src.crsOutOfService : Nat := 0x124
/-- CRS_MEM_UNCORR. -/
abbrev Src.crsMemUncorr : Nat := 0x125
/-- MOL_VERIFY_MISMATCH. -/
abbrev Src.molVerifyMismatch : Nat := 0x126
/-- MOL_BIG_SLOT. -/
abbrev Src.molBigSlot : Nat := 0x127
/-- QRY_HALTED. -/
abbrev Src.qryHalted : Nat := 0x140
/-- QRY_STONE_UNCORR. -/
abbrev Src.qryStoneUncorr : Nat := 0x141
/-- QRY_INDEX_UNCORR. -/
abbrev Src.qryIndexUncorr : Nat := 0x142
/-- QRY_FLOOR_BREACH. -/
abbrev Src.qryFloorBreach : Nat := 0x143
/-- QRY_PIN_BREAK. -/
abbrev Src.qryPinBreak : Nat := 0x144
/-- QRY_READ_CRC. -/
abbrev Src.qryReadCrc : Nat := 0x145
/-- QRY_HWIN_REFUSED. -/
abbrev Src.qryHwinRefused : Nat := 0x146
/-- QRY_RETIRE_NEAR_FULL. -/
abbrev Src.qryRetireNearFull : Nat := 0x147
/-- MRT_ACC_MALFORMED. -/
abbrev Src.mrtAccMalformed : Nat := 0x160
/-- MRT_ACC_LOST. -/
abbrev Src.mrtAccLost : Nat := 0x161
/-- MRT_ACC_DUP. -/
abbrev Src.mrtAccDup : Nat := 0x162
/-- MRT_ACC_SPACING. -/
abbrev Src.mrtAccSpacing : Nat := 0x163
/-- MRT_ACC_TABLE_FULL. -/
abbrev Src.mrtAccTableFull : Nat := 0x164
/-- MRT_ACC_FUTURE. -/
abbrev Src.mrtAccFuture : Nat := 0x165
/-- MRT_NO_TIME. -/
abbrev Src.mrtNoTime : Nat := 0x166
/-- MRT_THROTTLE. -/
abbrev Src.mrtThrottle : Nat := 0x167
/-- MRT_TRUNC. -/
abbrev Src.mrtTrunc : Nat := 0x168
/-- MRT_CELL_UNCORR. -/
abbrev Src.mrtCellUncorr : Nat := 0x169
/-- MRT_UNIT_OUT. -/
abbrev Src.mrtUnitOut : Nat := 0x16A
/-- MRT_LATE. -/
abbrev Src.mrtLate : Nat := 0x16B
/-- LNT_TAP_OVERFLOW. -/
abbrev Src.lntTapOverflow : Nat := 0x180
/-- LNT_LATE_TAP. -/
abbrev Src.lntLateTap : Nat := 0x181
/-- LNT_LANE_CONFLICT. -/
abbrev Src.lntLaneConflict : Nat := 0x182
/-- LNT_PIPE_ERR. -/
abbrev Src.lntPipeErr : Nat := 0x183
/-- LNT_FRAME_SKIP. -/
abbrev Src.lntFrameSkip : Nat := 0x184
/-- UPL_LINK_DOWN. -/
abbrev Src.uplLinkDown : Nat := 0x1A0
/-- UPL_RECORD_CUT. -/
abbrev Src.uplRecordCut : Nat := 0x1A1
/-- UPL_RL_LOST. -/
abbrev Src.uplRlLost : Nat := 0x1A2
/-- UPL_CREDIT_BAD. -/
abbrev Src.uplCreditBad : Nat := 0x1A3
/-- UPL_MAP_CONFLICT. -/
abbrev Src.uplMapConflict : Nat := 0x1A4
/-- UPL_STREAM_MOVED. -/
abbrev Src.uplStreamMoved : Nat := 0x1A5
/-- UPL_PLL_UNLOCK. -/
abbrev Src.uplPllUnlock : Nat := 0x1A6
/-- UPL_REF_HOLD. -/
abbrev Src.uplRefHold : Nat := 0x1A7
/-- MEM_SRAM_CORR. -/
abbrev Src.memSramCorr : Nat := 0x200
/-- MEM_SRAM_UNCORR. -/
abbrev Src.memSramUncorr : Nat := 0x201
/-- MEM_HBM_CORR. -/
abbrev Src.memHbmCorr : Nat := 0x202
/-- MEM_HBM_UNCORR. -/
abbrev Src.memHbmUncorr : Nat := 0x203
/-- MEM_TABLE_RESTORED. -/
abbrev Src.memTableRestored : Nat := 0x204
/-- MEM_RESTORE_FAIL. -/
abbrev Src.memRestoreFail : Nat := 0x205
/-- MEM_SCRUB_SLOW. -/
abbrev Src.memScrubSlow : Nat := 0x206
/-- MEM_ROW_RETIRED. -/
abbrev Src.memRowRetired : Nat := 0x207
/-- BTR_OUTVOTE. -/
abbrev Src.btrOutvote : Nat := 0x210
/-- BTR_NO_MAJORITY. -/
abbrev Src.btrNoMajority : Nat := 0x211
/-- PWR_INPUT_RANGE. -/
abbrev Src.pwrInputRange : Nat := 0x220
/-- PWR_TEMP_HIGH. -/
abbrev Src.pwrTempHigh : Nat := 0x221
/-- PWR_RAIL_FAULT. -/
abbrev Src.pwrRailFault : Nat := 0x222
/-- PWR_DOMAIN_FAIL. -/
abbrev Src.pwrDomainFail : Nat := 0x223
/-- GAU_OVERRANGE. -/
abbrev Src.gauOverrange : Nat := 0x240
/-- GAU_OPEN. -/
abbrev Src.gauOpen : Nat := 0x241
/-- GAU_SELFCAL_FAIL. -/
abbrev Src.gauSelfcalFail : Nat := 0x242
/-- GAU_OUT_SWITCH. -/
abbrev Src.gauOutSwitch : Nat := 0x243
/-- GAU_EXC_FAULT. -/
abbrev Src.gauExcFault : Nat := 0x244
/-- PLB_OVERFLOW. -/
abbrev Src.plbOverflow : Nat := 0x260
/-- PLB_MISSED. -/
abbrev Src.plbMissed : Nat := 0x261
/-- CNS_SEALED. -/
abbrev Src.cnsSealed : Nat := 0x262
/-- CNS_MEM_FAIL. -/
abbrev Src.cnsMemFail : Nat := 0x263

/-- One source: identifier, default severity, whether it is a condition source. -/
structure SrcRow where
  id : Nat
  severity : Nat
  condition : Bool
  deriving DecidableEq, Repr

/-- Every source, in rising identifier. -/
def srcTable : List SrcRow := [
  ⟨Src.fltLogFull, 1, false⟩,
  ⟨Src.lockWrite, 0, false⟩,
  ⟨Src.hstLinkDown, 1, true⟩,
  ⟨Src.hstAerUncorr, 1, false⟩,
  ⟨Src.hstFlr, 0, false⟩,
  ⟨Src.ldgCmdError, 0, false⟩,
  ⟨Src.ldgOvertime, 2, false⟩,
  ⟨Src.timeDomainLost, 1, true⟩,
  ⟨Src.timeHoldover, 1, true⟩,
  ⟨Src.timeHoldExpired, 2, false⟩,
  ⟨Src.timeDomainDisagree, 1, false⟩,
  ⟨Src.timeSwitch, 0, false⟩,
  ⟨Src.timeTxqOverflow, 0, false⟩,
  ⟨Src.timeOrbitMismatch, 1, false⟩,
  ⟨Src.timeFreqRange, 1, false⟩,
  ⟨Src.timeMsgBad, 0, false⟩,
  ⟨Src.timeXoFail, 2, false⟩,
  ⟨Src.bedLaneLost, 1, true⟩,
  ⟨Src.bedTrainFail, 0, false⟩,
  ⟨Src.bedExchMismatch, 1, false⟩,
  ⟨Src.bedQuarantine, 2, true⟩,
  ⟨Src.bedCodeErr, 0, false⟩,
  ⟨Src.bedPartnerOffence, 0, false⟩,
  ⟨Src.bedAcctOverflow, 1, false⟩,
  ⟨Src.partnerCfgTimeout, 0, false⟩,
  ⟨Src.dlPllUnlock, 1, true⟩,
  ⟨Src.ashEngineErr, 3, false⟩,
  ⟨Src.ashSlotOrphan, 2, true⟩,
  ⟨Src.ashMigrated, 0, false⟩,
  ⟨Src.ashStraggler, 1, false⟩,
  ⟨Src.ashTableUncal, 0, false⟩,
  ⟨Src.ashTableFrag, 1, false⟩,
  ⟨Src.courseLateRec, 1, false⟩,
  ⟨Src.stageOverrun, 0, false⟩,
  ⟨Src.crsEarlyRelease, 0, false⟩,
  ⟨Src.crsCapDrop, 1, false⟩,
  ⟨Src.crsOutOfService, 2, true⟩,
  ⟨Src.crsMemUncorr, 1, false⟩,
  ⟨Src.molVerifyMismatch, 1, false⟩,
  ⟨Src.molBigSlot, 0, false⟩,
  ⟨Src.qryHalted, 2, true⟩,
  ⟨Src.qryStoneUncorr, 1, false⟩,
  ⟨Src.qryIndexUncorr, 1, false⟩,
  ⟨Src.qryFloorBreach, 1, false⟩,
  ⟨Src.qryPinBreak, 0, false⟩,
  ⟨Src.qryReadCrc, 1, false⟩,
  ⟨Src.qryHwinRefused, 0, false⟩,
  ⟨Src.qryRetireNearFull, 1, false⟩,
  ⟨Src.mrtAccMalformed, 0, false⟩,
  ⟨Src.mrtAccLost, 1, false⟩,
  ⟨Src.mrtAccDup, 0, false⟩,
  ⟨Src.mrtAccSpacing, 1, false⟩,
  ⟨Src.mrtAccTableFull, 2, true⟩,
  ⟨Src.mrtAccFuture, 1, false⟩,
  ⟨Src.mrtNoTime, 1, false⟩,
  ⟨Src.mrtThrottle, 0, true⟩,
  ⟨Src.mrtTrunc, 1, false⟩,
  ⟨Src.mrtCellUncorr, 1, false⟩,
  ⟨Src.mrtUnitOut, 2, true⟩,
  ⟨Src.mrtLate, 0, false⟩,
  ⟨Src.lntTapOverflow, 0, false⟩,
  ⟨Src.lntLateTap, 1, false⟩,
  ⟨Src.lntLaneConflict, 1, false⟩,
  ⟨Src.lntPipeErr, 3, false⟩,
  ⟨Src.lntFrameSkip, 0, false⟩,
  ⟨Src.uplLinkDown, 1, true⟩,
  ⟨Src.uplRecordCut, 1, false⟩,
  ⟨Src.uplRlLost, 1, true⟩,
  ⟨Src.uplCreditBad, 0, false⟩,
  ⟨Src.uplMapConflict, 1, false⟩,
  ⟨Src.uplStreamMoved, 0, false⟩,
  ⟨Src.uplPllUnlock, 1, true⟩,
  ⟨Src.uplRefHold, 1, true⟩,
  ⟨Src.memSramCorr, 0, false⟩,
  ⟨Src.memSramUncorr, 1, false⟩,
  ⟨Src.memHbmCorr, 0, false⟩,
  ⟨Src.memHbmUncorr, 1, false⟩,
  ⟨Src.memTableRestored, 0, false⟩,
  ⟨Src.memRestoreFail, 1, false⟩,
  ⟨Src.memScrubSlow, 0, false⟩,
  ⟨Src.memRowRetired, 0, false⟩,
  ⟨Src.btrOutvote, 0, false⟩,
  ⟨Src.btrNoMajority, 4, false⟩,
  ⟨Src.pwrInputRange, 1, false⟩,
  ⟨Src.pwrTempHigh, 2, false⟩,
  ⟨Src.pwrRailFault, 4, false⟩,
  ⟨Src.pwrDomainFail, 1, false⟩,
  ⟨Src.gauOverrange, 0, false⟩,
  ⟨Src.gauOpen, 1, false⟩,
  ⟨Src.gauSelfcalFail, 1, false⟩,
  ⟨Src.gauOutSwitch, 1, false⟩,
  ⟨Src.gauExcFault, 1, false⟩,
  ⟨Src.plbOverflow, 0, false⟩,
  ⟨Src.plbMissed, 0, false⟩,
  ⟨Src.cnsSealed, 1, false⟩,
  ⟨Src.cnsMemFail, 1, false⟩]

/-- The row of a source. -/
def srcRow (n : Nat) : Option SrcRow := srcTable.find? (fun r => r.id == n)

/-- Default severity of a source. -/
def srcSeverity (n : Nat) : Nat := ((srcRow n).map (·.severity)).getD 0

/-- Whether a source is a condition source (R316). -/
def srcIsCondition (n : Nat) : Bool := ((srcRow n).map (·.condition)).getD false

end Sys2Proof.Machine
end

