-- ==== Sys2Proof/Machine/Sparse.lean ====
section
/-!
DEFINITION. Sparse tables: lists of keys and values, keys strictly rising, an absent key standing for a default.
A write of the default removes the entry, so that equal tables are equal lists.
-/
namespace Sys2Proof.Machine

/-- The entry at a key, if the table lists one. -/
def smFind {α : Type} : SMap α → Nat → Option α
  | [], _ => none
  | (k, v) :: t, q => if q = k then some v else smFind t q

/-- The value at a key, `d` where the table lists none. -/
def smGet {α : Type} (d : α) (m : SMap α) (q : Nat) : α := (smFind m q).getD d

/-- The table without the key. -/
def smErase {α : Type} : SMap α → Nat → SMap α
  | [], _ => []
  | (k, v) :: t, q => if q = k then t else if q < k then (k, v) :: t else (k, v) :: smErase t q

/-- The table with the key holding the value. -/
def smInsert {α : Type} : SMap α → Nat → α → SMap α
  | [], q, x => [(q, x)]
  | (k, v) :: t, q, x =>
    if q = k then (q, x) :: t else if q < k then (q, x) :: (k, v) :: t else (k, v) :: smInsert t q x

/-- The table with the key holding the value; the default is held by having no entry. -/
def smPut {α : Type} [DecidableEq α] (d : α) (m : SMap α) (q : Nat) (x : α) : SMap α :=
  if x = d then smErase m q else smInsert m q x

/-- Change the value at one key. -/
def smUpd {α : Type} [DecidableEq α] (d : α) (m : SMap α) (q : Nat) (f : α → α) : SMap α :=
  smPut d m q (f (smGet d m q))

/-- The keys rise strictly from above `lo`. -/
def smRisesFrom {α : Type} : Option Nat → SMap α → Bool
  | _, [] => true
  | none, (k, _) :: t => smRisesFrom (some k) t
  | some l, (k, _) :: t => decide (l < k) && smRisesFrom (some k) t

/-- Canonical form: keys strictly rising and no entry equal to the default. -/
def smWf {α : Type} [DecidableEq α] (d : α) (m : SMap α) : Bool :=
  smRisesFrom none m && m.all (fun e => !decide (e.2 = d))

end Sys2Proof.Machine
end

