-- ==== Sys2Proof/Machine/State.lean ====
section
/-!
DEFINITION. The state of the Portik as a block: every register, queue, store, counter, mode and pin the spec gives it, as plain
data, the queue of waiting commands, the reasons a command can stop, and the state right after foundation reset.
-/
namespace Sys2Proof.Machine

/-! ### Moments and voted items -/

/-- A moment on the grid of 02: course number and core cycle within the course (BT in course × 24 + core cycle in BT). -/
structure Stamp where
  course : Nat
  cycle : Nat
  deriving DecidableEq, Repr

/-- Three copies of one voted item (R336). -/
structure Tri (n : Nat) where
  c0 : BitVec n
  c1 : BitVec n
  c2 : BitVec n
  deriving DecidableEq, Repr

/-- Three equal copies. -/
def Tri.of {n : Nat} (v : BitVec n) : Tri n := ⟨v, v, v⟩

/-- A course-buffered register: three copies of its pending value [63:32] and value in force [31:0], and whether the
pending value waits for a course tick (R336, R353). -/
structure CbReg where
  copies : Tri 64
  waiting : Bool
  deriving DecidableEq, Repr

/-- An armed Buttress injection (R339). -/
structure BtrInjection where
  item : Nat
  copy : Nat
  bit : Nat
  deriving DecidableEq, Repr

/-- The Buttress (R336 to R339). -/
structure Buttress where
  /-- Item 0x0000: BT in course [10:5] and core cycle in BT [4:0]. -/
  pos : Tri 11
  /-- Item 0x0001: course counter. -/
  course : Tri 56
  /-- Item 0x0002: orbit counter [63:16] and BT in orbit [15:0]. -/
  orbit : Tri 64
  /-- Item 0x0003: expected trigger number E [48:1] and its valid bit [0]. -/
  expected : Tri 49
  /-- Items 0x0100 to 0x0103 (R358). -/
  devIdWritten : Tri 1
  posWritten : Tri 1
  cfgLock : Tri 1
  gaugeOut : Tri 1
  /-- Items 0x1000 upward: every course-buffered register by BAR0 offset; one not listed stands at its reset value. -/
  cb : SMap CbReg
  inject : Option BtrInjection
  deriving DecidableEq, Repr

/-- The Buttress after foundation reset: copies equal, counters at zero, nothing armed (R22, R341). -/
def Buttress.reset : Buttress :=
  ⟨.of 0, .of 0, .of 0, .of 0, .of 0, .of 0, .of 0, .of 0, [], none⟩

/-! ### The Quoin (03) -/

/-- The tracking states of a timing domain (R35). -/
inductive DomPhase where
  | off | aligning | tracking | locked | lost
  deriving DecidableEq, Repr

/-- The servo's states (R38). -/
inductive Servo where
  | free | acquire | locked | holdover
  deriving DecidableEq, Repr

/-- A Sync whose offset has been taken, or a two-step Sync that waits for its Follow_Up (R34); times in 2⁻¹⁶ ns. -/
structure SyncRec where
  sequenceId : Nat
  received : Int
  origin : Int
  correction : Int
  deriving DecidableEq, Repr

/-- What the Quoin keeps of one timing domain (R32 to R37, R46, R48). -/
structure QDomain where
  phase : DomPhase
  /-- The receiver holds BT-frame alignment (R32). -/
  aligned : Bool
  lostCause : Nat
  lostCourse : Nat
  lockCourse : Nat
  /-- BT offset and whether it is set (R46). -/
  offset : BitVec 64
  offsetValid : Bool
  /-- The last type 0x02 message accepted: its count, and the local global BT at its BT edge. -/
  lastCount : Option (Nat × Nat)
  /-- Consecutive courses with phase error within ±20 ps (R36). -/
  phaseRun : Nat
  goodSyncs : Nat
  badSyncs : Nat
  exchangeDone : Bool
  /-- Mean path delay, 2⁻¹⁶ ns. -/
  pathDelay : Int
  lastSync : Option SyncRec
  twoStepWait : Option SyncRec
  twoStep : Bool
  /-- Next sequenceId of a Delay_Req, and the last one sent with its transmit time, until its response. -/
  dreqNext : Nat
  dreqSent : Option (Nat × Int)
  announced : Bool
  announceLog : Int
  syncCount : Nat
  badMsg : Nat
  /-- An ORBIT_START has been received from the domain as active domain since it became LOCKED (R48). -/
  orbitSeen : Bool
  deriving DecidableEq, Repr

/-- A domain at foundation reset: OFF, nothing received (R64). -/
def QDomain.reset : QDomain :=
  ⟨.off, false, 0, 0, 0, 0, false, none, 0, 0, 0, false, 0, none, none, false, 0, none, false, 0, 0, 0, false⟩

/-- One entry of the transmit time-stamp queue (R53). -/
structure TxStamp where
  domain : Nat
  messageType : Nat
  sequenceId : Nat
  time : AbsTime
  deriving DecidableEq, Repr

/-- A host message being sent from QUO_TX_BUF (R55). -/
structure TxJob where
  domain : Nat
  stamp : Bool
  bytes : List Byte
  deriving DecidableEq, Repr

/-- One stretch of the PHASE part of a downlink's advance (R56, R59): from the BT `start` it moves from `from_` toward `target` at 1 fu per BT. -/
structure AdvSeg where
  start : Nat
  from_ : Nat
  target : Nat
  deriving DecidableEq, Repr

/-- A DELAY value that takes effect at the next course tick, with the advance for which it holds (R58, R59). -/
structure DelayPending where
  delay : Int
  measured : Bool
  advance : Nat
  deriving DecidableEq, Repr

/-- A DELAY in force from a BT on, with the advance for which it holds (R58, R59, R123). -/
structure DelaySet where
  start : Nat
  delay : Int
  advance : Nat
  deriving DecidableEq, Repr

/-- One partner's clock (R56 to R59). -/
structure PartnerClock where
  /-- Stretches of the PHASE part of the advance, newest first, reaching back 256 BT. -/
  segs : List AdvSeg
  /-- The whole-BT part of the target advance, as QUO_DL_PHASE holds it (R56). -/
  whole : Nat
  /-- Whole-BT parts that SYNC has loaded into the partner's BT count, newest first: the partner's BT number from which each holds, and the part
  (R56, R106). -/
  wholes : List (Nat × Nat)
  slewing : Bool
  /-- DELAY values, newest first, reaching back 256 BT; 0 before the first. -/
  delays : List DelaySet
  measured : Bool
  pending : Option DelayPending
  deriving DecidableEq, Repr

/-- A partner clock at foundation reset: no advance, DELAY 0 (R64). -/
def PartnerClock.reset : PartnerClock := ⟨[], 0, [], false, [], false, none⟩

/-- What the Quoin keeps of one course: absolute time at its tick and its time quality (R41). -/
structure CourseTime where
  course : Nat
  time : AbsTime
  quality : Nat
  deriving DecidableEq, Repr

/-- The Quoin's time-base core (03). -/
structure Quoin where
  domA : QDomain
  domB : QDomain
  servo : Servo
  active : Fin 2
  holdStart : Nat
  /-- The BT offset that the active domain held before the loss that began the HOLDOVER (R38). -/
  holdOffset : BitVec 64
  holdExpired : Bool
  slewing : Bool
  /-- Worst quality of the course so far: 0 LOCKED, 1 HOLDOVER, 2 FREE (R41). -/
  worst : Nat
  xoOk : Bool
  xoChecked : Bool
  /-- QUO_XO was found absent, and no tick has found it present since (R257). -/
  xoGone : Bool
  /-- BT in kHz in force while FREE, and a written value held for a tick at which the servo is FREE (R39). -/
  nominal : Nat
  nominalHeld : Option Nat
  /-- Both domains went to LOST in one course, and none has become active since (R52). -/
  bothLost : Bool
  /-- The domain an automatic switch left (R50). -/
  former : Option (Fin 2)
  /-- Absolute time of A minus B at the last tick, 2⁻¹⁶ ns. -/
  aMinusB : Int
  tickTime : AbsTime
  tickQuality : Nat
  /-- The newest courses, newest first: the course under way has its quality so far in `worst`. -/
  courses : List CourseTime
  txq : List TxStamp
  txqLosing : Bool
  tx : Option TxJob
  /-- Orbit length in force (R26). -/
  orbitLen : Nat
  clocks : SMap PartnerClock
  /-- Round trips taken so far for each partner under measurement (R57). -/
  rounds : SMap (List Nat)
  /-- Partners whose measurement has ended: 0 for a result taken, else the reason of refusal (R58, R85). -/
  measured : SMap Nat
  deriving DecidableEq, Repr

/-- The Quoin after foundation reset: servo FREE at 40,000 kHz, domains OFF (R64). Absolute time at the start of course 0 is
taken as 0, a DESIGN CHOICE. -/
def Quoin.reset : Quoin where
  domA := .reset
  domB := .reset
  servo := .free
  active := 0
  holdStart := 0
  holdOffset := 0
  holdExpired := false
  slewing := false
  worst := 2
  xoOk := false
  xoChecked := false
  xoGone := false
  nominal := 40000
  nominalHeld := none
  bothLost := false
  former := none
  aMinusB := 0
  tickTime := ⟨0, 0, 0⟩
  tickQuality := 2
  courses := [⟨0, ⟨0, 0, 0⟩, 2⟩]
  txq := []
  txqLosing := false
  tx := none
  orbitLen := 1024
  clocks := []
  rounds := []
  measured := []

/-! ### Bed lanes and downlinks (04) -/

/-- The states of a bed lane (R74). -/
inductive LanePhase where
  | down | detect | train | lock | exchange | active | quarantine
  deriving DecidableEq, Repr

/-- What a lane that leaves ACTIVE was, until its core cycle ends (R82): that moment, the rank of the cause, and as they were before it: BED_LANE_EVT,
RETRAINS, ENABLE, and whether its restart request was due. -/
structure LaneLeft where
  stamp : Stamp
  rank : Nat
  evt : Word
  retrains : Nat
  enable : Bool
  due : Bool
  deriving DecidableEq, Repr

/-- One bed lane (R74 to R86, R114). -/
structure Lane where
  phase : LanePhase
  signal : Bool
  cdr : Bool
  sync : Bool
  warm : Bool
  /-- The DFE taps have reached LOCK since the group's domain last was OFF (R76). -/
  tapsHeld : Bool
  waitBind : Bool
  peUnmet : Bool
  lostCause : Nat
  /-- The partner the map in force binds the lane to. -/
  partner : Option Nat
  /-- Last valid capability record and the course in which it became valid (R90). -/
  record : Option (BitVec 128 × Nat)
  /-- The last record received with a good CRC, and how many equal ones in a row (R78). -/
  lastRecord : Option (BitVec 128)
  run : Nat
  /-- BED_EXCH_MISMATCH has been raised since entry to EXCHANGE. -/
  mismatchRaised : Bool
  /-- The next training failure is the first since ACTIVE or enabling (R75). -/
  failArmed : Bool
  /-- The lane left ACTIVE with a BED_LANE_LOST report and has not re-entered it (R316). -/
  lostReported : Bool
  /-- Code errors in the course under way. -/
  codeErrs : Nat
  /-- ACTIVE without a data frame yet (R114). -/
  noData : Bool
  /-- Span start of the last accepted data frame (R96). -/
  lastSpan : Option Nat
  /-- While the missing-span check runs: start of the first span not yet seen or declared missing (R114). -/
  checkFrom : Option Nat
  /-- Spans declared missing that a 16-bit stamp can still name. -/
  missing : List Nat
  /-- BED_CODE_ERR has been raised in the course under way. -/
  codeRaised : Bool
  /-- The equaliser adapts: the receiver has been on since an entry to TRAIN (R70). -/
  adapting : Bool
  /-- The five taps of the decision-feedback equaliser, TAP1 first (R70). -/
  taps : List Int
  /-- The last time that the lane left ACTIVE (R82). -/
  left : Option LaneLeft
  deriving DecidableEq, Repr

/-- A lane at foundation reset: DOWN, nothing received (R91). -/
def Lane.reset : Lane :=
  ⟨.down, false, false, false, false, false, false, false, 0, none, none, none, 0, false, true, false, 0, false, none, none, [], false,
    false, [0, 0, 0, 0, 0], none⟩

/-- The content of a downlink frame's block field (R104). -/
inductive DlBlock where
  | empty
  | exchange (bytes : List Byte)
  | config (bytes : List Byte)
  deriving DecidableEq, Repr

/-- A downlink frame as sent (R68, R104): the BT its frame mark precedes, the fast command field, the block field, the marker. -/
structure DlFrame where
  mark : Nat
  fast : Option (List Byte)
  block : DlBlock
  marker : Option Nat
  deriving DecidableEq, Repr

/-- One downlink (R68, R71 to R73, R87, R105 to R108). -/
structure Downlink where
  pll : Bool
  /-- The next frame is the first since sending began (R106). -/
  fresh : Bool
  /-- Sending stopped at a PLL squelch and has not resumed (R87). -/
  squelched : Bool
  eqFallback : Bool
  /-- EQ_END as of the last capability exchange (R73). -/
  eqEnd : Bool
  /-- BED_DL_CFG as the transmitter applied it at the last frame mark (R73). -/
  applied : Word
  /-- LANE_INDEX of RESTART commands due, and of LANE_ACTIVE commands due, rising (R107). -/
  restarts : List Nat
  actives : List Nat
  /-- Pending host command: code and argument (R107). -/
  host : Option (Nat × Word)
  /-- Next marker of a delay measurement (R57). -/
  marker : Option Nat
  /-- The last frame sent. -/
  last : Option DlFrame
  deriving DecidableEq, Repr

/-- A downlink at foundation reset: electrical idle (R91). -/
def Downlink.reset : Downlink := ⟨false, true, false, false, false, 0x8401, [], [], none, none, none⟩

/-! ### Partners, accounts and table groups (05, 06) -/

/-- A partner's entry in the partner map (R110, R125). -/
structure Binding where
  firstLane : Nat
  lanesM1 : Nat
  record : BitVec 128
  base : Nat
  fit : Bool
  deriving DecidableEq, Repr

/-- A configuration transaction under way (R108, R109): the block field is awaited until `sent` holds the frame mark's BT. -/
structure CfgTx where
  op : Nat
  tag : Nat
  addr : Word
  data : Word
  mask : Word
  sent : Option Nat
  deriving DecidableEq, Repr

/-- One partner (R110 to R115). -/
structure Partner where
  binding : Option Binding
  delayCal : Bool
  /-- Completed courses that offended, as bits: bit k is the course k + 1 before the one under way (R115). -/
  history : BitVec 64
  /-- The course under way has offended. -/
  offended : Bool
  /-- OFFENCES as of the last tick. -/
  offences : Nat
  /-- Hits passed on per named course (R113). -/
  capCounts : SMap Nat
  cfg : Option CfgTx
  /-- Whether the last transaction ended: its status and data, or a timeout (R109). -/
  cfgDone : Option (Option (Nat × Word))
  nextTag : Nat
  deriving DecidableEq, Repr

/-- A partner at foundation reset (R120). -/
def Partner.reset : Partner := ⟨none, false, 0, false, 0, [], none, none, 0⟩

/-- A binding change that waits for the course tick, in the order in which the Lodge accepted it (R110 to R112). -/
structure BindPending where
  partner : Nat
  mailbox : Nat
  /-- The new entry, or none to unbind. -/
  entry : Option Binding
  deriving DecidableEq, Repr

/-- One gap account entry (R116, R117). `lane` is named for causes 1 and 2; count 0xFFFF is unknown. -/
structure Account where
  partner : Nat
  cause : Nat
  lane : Nat
  lossCause : Nat
  first : Nat
  last : Nat
  count : Nat
  /-- The span of R84 is still open: no re-entry yet. -/
  open_ : Bool
  /-- Course of detection. -/
  detected : Nat
  /-- An ACCOUNT_OVERFLOW entry marks every partner of the group. -/
  allPartners : Bool
  deriving DecidableEq, Repr

/-- The banks that a course's tick put in force (R130). -/
structure BankSel where
  course : Nat
  ofsBank : Nat
  walkBank : Nat
  deriving DecidableEq, Repr

/-- One table group: accounts, bank selections, loads (R116, R126 to R131). -/
structure TableGroup where
  accounts : List Account
  /-- Entries made in the course under way. -/
  entriesNow : Nat
  /-- Bank selections, newest first. -/
  sels : List BankSel
  ofsPrevBusy : Option Nat
  walkPrevBusy : Option Nat
  /-- The last course with an UNCAL record. -/
  uncalCourse : Option Nat
  /-- Intervals of BT in which the group was not ON or was isolated, newest first: first BT, and last when it has ended (R289). -/
  offSpans : List (Nat × Option Nat)
  /-- Courses, first and last, whose account entries the group held when it went OFF (R120). -/
  lost : List (Nat × Nat)
  /-- Entries that the group held when it went OFF, each with the first course that was not published by then: records of them stand in the index
  entries of the courses before it (R120). -/
  dropped : List (Account × Nat)
  /-- The bank was loaded since power-up: offset 0, offset 1, walk 0, walk 1 (R144, R331). -/
  loaded : List Nat
  /-- Next block of the scrub (R328). -/
  scrubPos : Nat
  deriving DecidableEq, Repr

/-- A table group at foundation reset (R144). -/
def TableGroup.reset : TableGroup := ⟨[], 0, [], none, none, none, [(0, none)], [], [], [], 0⟩

/-- The states of a protected SRAM block (R325). -/
inductive BlockPhase where
  | empty | good | damaged | writing
  deriving DecidableEq, Repr

/-- One protected block: state, 64 data bits, 16 check bits (R323, R325). -/
structure SramBlock where
  phase : BlockPhase
  data : DWord
  check : BitVec 16
  deriving DecidableEq, Repr

/-- A block never written. -/
def SramBlock.blank : SramBlock := ⟨.empty, 0, 0⟩

/-! ### Ashlar engines (06) -/

/-- One hit word or waveform group on its way to an engine (R97, R99, R100). -/
structure HitItem where
  partner : Nat
  group : Nat
  lane : Nat
  channel : Nat
  namedBt : Nat
  fine : Nat
  charge : Nat
  pileup : Bool
  sat : Bool
  /-- A waveform group: PHASE, BASELINE and samples. -/
  wave : Option (Nat × Nat × List Nat)
  /-- The crossbar sent it to one engine only (R140). -/
  single : Bool
  /-- The new engine's copy of a double-sent item: the course from which the ring takes its record (R140). -/
  boundary : Option Nat
  /-- Moment of arrival (R234). -/
  arrived : Stamp
  /-- Its first position in the engine's input queue (R137). -/
  slot : Nat
  deriving DecidableEq, Repr

/-- The states of an ashlar engine (R138). -/
inductive EnginePhase where
  | off | hold | sync | spare | active | draining | isolated
  deriving DecidableEq, Repr

/-- One ashlar engine (R137, R138). -/
structure Engine where
  phase : EnginePhase
  queue : List HitItem
  /-- Course at whose tick SYNC ends. -/
  syncUntil : Nat
  deriving DecidableEq, Repr

/-- An engine at foundation reset (R144). -/
def Engine.reset : Engine := ⟨.off, [], 0⟩

/-- A migration of a slot (R140): accepted, then taken at the tick of `boundary` − 1, ended at the tick of `boundary` + 1. -/
structure Migration where
  slot : Nat
  former : Nat
  to_ : Nat
  boundary : Nat
  taken : Bool
  /-- Hit words go to both engines, and the ring takes the former engine's for courses before the boundary. -/
  doubled : Bool
  mailbox : Nat
  deriving DecidableEq, Repr

/-- The engines, the slot map and migrations (R136, R140). -/
structure Ashlar where
  engines : SMap Engine
  /-- Engine of slots 0 to 7. -/
  slots : List Nat
  /-- The unmapped engine is reserved by an accepted ENGINE_MIGRATE. -/
  reserved : Bool
  migrations : List Migration
  /-- Slots whose run of orphaned hits has been reported. -/
  orphanRaised : List Nat
  deriving DecidableEq, Repr

/-- The engines at foundation reset: slot s belongs to engine s, engine 8 is the spare (R136). -/
def Ashlar.reset : Ashlar := ⟨[], [0, 1, 2, 3, 4, 5, 6, 7], false, [], []⟩

/-! ### The course ring and the Molus coders (07) -/

/-- One ashlar record with its kept samples: 0, 2 or 4 words (R146). -/
structure RingEntry where
  record : DWord
  samples : List DWord
  deriving DecidableEq, Repr

/-- A bucket: its entries in ring order, and its pages in the order of their links (R145, R147). Its descriptor is the first and the last page, and
the counts of entries and records. -/
structure Bucket where
  entries : List RingEntry
  pages : List Nat
  deriving DecidableEq, Repr

/-- A bucket without entries. -/
def Bucket.blank : Bucket := ⟨[], []⟩

/-- What holds at the tick of N + 2, the close of course N (R178, R181, R211). -/
structure CloseRec where
  course : Nat
  /-- Bound partners with their table groups, rising. -/
  partners : List (Nat × Nat)
  /-- Quarters in service. -/
  quarters : List Nat
  /-- The quarry was RUNNING. -/
  running : Bool
  deriving DecidableEq, Repr

/-- One ring quarter (R145 to R155). -/
structure Quarter where
  inService : Bool
  /-- First course that it accepts (R154). -/
  since : Nat
  /-- Entries not stored under the cap, per course (R152). -/
  drops : SMap Nat
  /-- The free list of the 61,440 pages (R147): the pages from `fresh` on, rising, then those released, oldest first. -/
  fresh : Nat
  freed : List Nat
  deriving DecidableEq, Repr

/-- A quarter at foundation reset: out of service (R171). -/
def Quarter.reset : Quarter := ⟨false, 0, [], 0, []⟩

/-- A Molus block: the words of R157. -/
structure MolBlock where
  course : Nat
  group : Nat
  raw : Bool
  records : Nat
  words : List DWord
  deriving DecidableEq, Repr

/-- One Molus coder (R165 to R168). -/
structure Coder where
  /-- The next closed course to start. -/
  next : Nat
  /-- The course under way, and the groups still without a block, each with the RAW_CAUSE that is already settled: 3 for
  the deadline, 1 for an error in the block buffer (R327), 0 for none. -/
  cur : Option (Nat × List (Nat × Nat))
  /-- Raw and stored words of each course coded, newest first, at most 1,024. -/
  sizes : List (Nat × Nat)
  /-- Words of the course under way. -/
  sum : Nat × Nat
  /-- FORCE_RAW was 1 when the block under way was started (R166). -/
  forced : Bool
  deriving DecidableEq, Repr

/-- A coder at foundation reset. -/
def Coder.reset : Coder := ⟨0, none, [], (0, 0), false⟩

/-- The course ring (R145 to R155). -/
structure Ring where
  /-- Bucket of course c, group g and BT b at key c × 2,048 + g × 64 + b. -/
  buckets : SMap Bucket
  quarters : SMap Quarter
  coders : SMap Coder
  /-- Closes of the newest 64 courses, newest first. -/
  closes : List CloseRec
  /-- Courses up to this one have been released early. -/
  releasedTo : Option Nat
  /-- The last course released early, and the course in which it was. -/
  lastEarly : Option (Nat × Nat)
  /-- Course and table group of the buckets whose entries went with their quarter when it left service (R154, R179). -/
  heldLost : List (Nat × Nat)
  deriving DecidableEq, Repr

/-- The ring at foundation reset: empty (R171). -/
def Ring.reset : Ring := ⟨[], [], [], [], none, none, []⟩

/-! ### The quarry (08) and HBM -/

/-- The states of the quarry (R191). -/
inductive QryPhase where
  | stopped | starting | running | halted
  deriving DecidableEq, Repr

/-- The stone being filled (R176): its payload words so far, the first block that begins in it, and the block of its header. -/
structure OpenStone where
  payload : List DWord
  firstOffset : Option Nat
  course : Nat
  group : Nat
  raw : Bool
  /-- An uncorrectable SRAM error was found in it: it is written with its CRC inverted (R327). -/
  bad : Bool
  deriving DecidableEq, Repr

/-- Where a block lies (R179). -/
structure BlockLoc where
  group : Nat
  stone : Nat
  offset : Nat
  words : Nat
  raw : Bool
  records : Nat
  deriving DecidableEq, Repr

/-- An indexed course that is not published yet (R181). -/
structure IndexJob where
  course : Nat
  /-- Blocks delivered so far. -/
  blocks : List BlockLoc
  deriving DecidableEq, Repr

/-- One request to the quarry reader (R185, R186, R213): for a mortar unit's table entry, or for a Lodge job. -/
structure QReq where
  /-- Accept table entry, or mailbox of a job. -/
  owner : Nat
  job : Bool
  unit : Nat
  partners : BitVec 64
  /-- Courses still to read, oldest first. -/
  courses : List Nat
  /-- Groups to read, where the request names them (a pair of a prompt accept); empty for every needed group. -/
  groups : List Nat
  /-- Pinned stones, first and last in write order. -/
  pin : Option (Nat × Nat)
  /-- The pin broke (R187). -/
  broken : Bool
  deriving DecidableEq, Repr

/-- The quarry controllers (08). -/
structure Quarry where
  phase : QryPhase
  /-- Number of the open stone. -/
  writer : Nat
  openStone : Option OpenStone
  /-- Full or closed stones that wait to be written, with their words. -/
  full : List (Nat × List DWord)
  /-- Course in which the quarry entered service: H while nothing is published (R184). -/
  entered : Nat
  /-- Indexed courses that are not published, rising. -/
  jobs : List IndexJob
  /-- Published courses from H to P, rising. -/
  published : List Nat
  /-- Courses that have left the history while their slots still hold their entries, rising (R182). -/
  left : List Nat
  /-- P, once a course has been published since the history began. -/
  newest : Option Nat
  floorReached : Bool
  /-- QRY_DEPTH_MIN has been cleared, so it follows the depth (R199). -/
  minCleared : Bool
  /-- Requests in arrival order; the front is read. -/
  reads : List QReq
  /-- Published courses whose entries later accounts mark anew, and the course in which an entry was last rewritten (R181). -/
  rewritten : SMap Nat
  /-- A refused window write run of each host port (R196). -/
  refusedRun : List Nat
  /-- H, once a course has been published (R182). -/
  hist : Nat
  /-- Courses of the history whose FIRST_STONE has been overwritten while an older course still stood before them (R182). -/
  passed : List Nat
  deriving DecidableEq, Repr

/-- The quarry at foundation reset (R201). -/
def Quarry.reset : Quarry := ⟨.stopped, 0, none, [], 0, [], [], [], none, false, false, [], [], [], 0, []⟩

/-- HBM: its bytes by QA (R172), the written-bitmap (R174), the retirement map in order of addition (R194), the archive granules
with a bad mark, as group × 272 + granule (R329). -/
structure Hbm where
  /-- Address and byte, addresses strictly rising; an unlisted address reads 0. -/
  bytes : List Host.Cell
  written : SMap Bool
  retired : List Word
  badMarks : SMap Bool
  deriving DecidableEq, Repr

/-- HBM at foundation reset: nothing written, nothing retired (R201, R341). -/
def Hbm.reset : Hbm := ⟨[], [], [], []⟩

/-! ### The accept decoder and the mortar (09) -/

/-- What an accept table entry is for (R205 to R207). -/
inductive EntryKind where
  | accept | recall | lossSummary | refusalSummary
  deriving DecidableEq, Repr

/-- The cells of a record by number, in the order of their chain: the link of each is the next, and the last has the end mark (R219). -/
abbrev CellUse := List Nat

/-- What an entry's record on one stream is (R217, R219, R227, R228). -/
inductive RecPhase where
  /-- Its data is being gathered. -/
  | building
  /-- It waits for cells since a course (R220). -/
  | waiting (since : Nat)
  /-- Complete: a fragment with its cells. -/
  | complete
  /-- A gap record with a reason of R230. -/
  | gap (reason : Nat)
  /-- A flushed record (R227). -/
  | flushed
  deriving DecidableEq, Repr

/-- An entry's record on one mapped stream. -/
structure StreamRec where
  stream : Nat
  unit : Nat
  /-- The fragment mask (R209). -/
  mask : BitVec 64
  maxCells : Nat
  phase : RecPhase
  /-- The record's words from word 2 to the word before the trailer, once formed. -/
  body : List DWord
  cells : CellUse
  deriving DecidableEq, Repr

/-- What a unit has gathered for one course and table group (R212, R213); group 32 is the whole course. -/
inductive PartData where
  /-- Records from the ring. -/
  | ring (entries : List RingEntry)
  /-- Records from a quarry block. -/
  | quarry (entries : List RingEntry)
  | absent (cause : Nat)
  | damaged
  | overwritten
  /-- The course lay before H at arrival. -/
  | beforeHistory
  deriving DecidableEq, Repr

/-- One part of a fragment. -/
structure Part where
  course : Nat
  group : Nat
  data : PartData
  deriving DecidableEq, Repr

/-- What one mortar unit gathers for an entry (R211 to R213). -/
structure Gather where
  unit : Nat
  /-- The ring reader has served it, or it is late or a recall. -/
  extracted : Bool
  /-- A prompt accept with a part from the quarry (R212). -/
  latePath : Bool
  /-- The pairs of course and table group that a prompt accept takes from the quarry; group 32 for all of a course (R212). -/
  fromQuarry : List (Nat × Nat)
  /-- Courses of a recall not yet submitted, oldest first (R213). -/
  toSubmit : List Nat
  parts : List Part
  /-- Partners bound at the close of a ring course, with their table groups. -/
  bounds : List (Nat × List (Nat × Nat))
  /-- Index entries of the courses read from the quarry, as read. -/
  entries : List (Nat × List DWord)
  deriving DecidableEq, Repr

/-- One entry of the accept table (R205). -/
structure AccEntry where
  id : Nat
  kind : EntryKind
  /-- Trigger or recall number; first number of a summary. -/
  number : Nat
  /-- Last number and refused recalls of a summary. -/
  last : Nat
  refusedRecalls : Nat
  cls : Nat
  /-- Local trigger BT or first BT; 0 for a summary or without time. -/
  bt : Int
  domainBt : BitVec 64
  wstart : Int
  wend : Int
  /-- Window length in BT. -/
  length : Nat
  arrival : Stamp
  /-- Served on the late path as decoded, or a recall. -/
  late : Bool
  /-- H at arrival (R213). -/
  hist : Nat
  gathers : List Gather
  recs : List StreamRec
  deriving DecidableEq, Repr

/-- An open refusal run (R207): first and last trigger number, refused recalls, and its first refusal's moment. -/
structure RefusalRun where
  numbers : Option (Nat × Nat)
  recalls : Nat
  opened : Stamp
  deriving DecidableEq, Repr

/-- The accept decoder, the table and the throttle (09). -/
structure Mortar where
  /-- In arrival order, at most 4,096 entries. -/
  table : List AccEntry
  nextId : Nat
  refusal : Option RefusalRun
  /-- Trigger BT of the last accept that passed check 8, in the domain's count. -/
  lastTrigger : Option (BitVec 64)
  lastEntered : Option Nat
  lastMissing : Option (Nat × Nat)
  tableAbove : Bool
  poolAbove : Bool
  /-- THROT_N is asserted. -/
  asserted : Bool
  /-- Units that are in service as of the last look (R228). -/
  unitsIn : List Nat
  deriving DecidableEq, Repr

/-- The decoder at foundation reset (R233). -/
def Mortar.reset : Mortar := ⟨[], 0, none, none, none, none, false, false, true, []⟩

/-! ### The Lintel (10) -/

/-- The states of the Lintel (LNT_STAT.STATE), with the time from ON to the next tick (R246). -/
inductive LntPhase where
  | off | hold | running | isolated
  deriving DecidableEq, Repr

/-- A record in the Lintel's history: its Lintel time in each region that it belongs to, and in which it is kept for pairing. -/
structure LntRec where
  times : List (Nat × Int)
  paired : List Nat
  uncal : Bool
  deriving DecidableEq, Repr

/-- One arrival group (R236, R239): the records admitted, the number dropped, and whether a region held more than 32. -/
structure LntGroup where
  recs : List LntRec
  dropped : Nat
  sat : Bool
  deriving DecidableEq, Repr

/-- A group with nothing in it. -/
def LntGroup.blank : LntGroup := ⟨[], 0, false⟩

/-- A matched record that reached the tap in the core cycle under way: its ring quarter, arrival BT, and itself (R239). -/
structure TapRec where
  quarter : Nat
  bt : Nat
  record : LntRec
  deriving DecidableEq, Repr

/-- The course-buffered tables of the Lintel, as words (R248). -/
structure LntTables where
  regions : List Word
  offsets : List Word
  valid : BitVec 64
  pairs : List Word
  countLo : List Word
  countHi : List Word
  latency : Nat
  deriving DecidableEq, Repr

/-- A primitive frame that is formed or sent: arrival BT, the four words for lane 0, and the lanes that sent it. -/
structure LntFrame where
  bt : Nat
  words : List DWord
  lanes : List Nat
  deriving DecidableEq, Repr

/-- The Lintel (10). -/
structure Lintel where
  phase : LntPhase
  /-- Arrival BT of the oldest open group, while RUNNING. -/
  nextClose : Nat
  /-- Open groups and the 8 closed last, by arrival BT. -/
  groups : SMap LntGroup
  /-- The core cycle in which the tap admitted last, the records that it has admitted in it by ring quarter and write position, and the groups without
  them (R239). -/
  tapCycle : Stamp
  tapNow : List TapRec
  tapBase : SMap LntGroup
  /-- Arrival BT of the first group after the last entry to RUNNING (R246). -/
  entered : Nat
  /-- Groups before this arrival BT carry START, if their frames leave after the last entry or return (R246). -/
  startUntil : Nat
  /-- A record has been late to the tap since the previous frame closed; the last frame carried LATE_TAP. -/
  lateTap : Bool
  lastLate : Bool
  tablesNew : Bool
  /-- The tables of groups before the named BT, from the last change of the tables on (R248). -/
  former : Option (Nat × LntTables)
  ofsValid : BitVec 64
  /-- The frames that a fall of LNT_LATENCY keeps from leaving: first and last BT (R249). -/
  fallSkip : Option (Nat × Nat)
  formed : List LntFrame
  sent : Option LntFrame
  /-- Lanes in conflict as of the last tick (R250). -/
  conflicts : BitVec 8
  /-- The run of skipped frames under way: first BT, last BT, and whether the data-plane stop is the cause. -/
  skipRun : Option (Nat × Nat × Bool)
  /-- Partners with a loss condition of R247, by BT, newest first, at most 16 BT. -/
  losses : List (Nat × BitVec 64)
  deriving DecidableEq, Repr

/-- The Lintel at foundation reset (R255). -/
def Lintel.reset : Lintel := ⟨.off, 0, [], ⟨0, 0⟩, [], [], 0, 0, false, false, false, none, 0, none, [], none, 0, none, []⟩
/-! ### Uplinks (11) -/

/-- The states of an uplink (R265). -/
inductive UplPhase where
  | down | idle | active
  deriving DecidableEq, Repr

/-- One uplink (R263, R265). -/
structure Uplink where
  phase : UplPhase
  granted : BitVec 32
  consumed : BitVec 32
  /-- An INIT that waits for the block boundary (R263). -/
  initWait : Option (BitVec 32)
  /-- Init requests sent (R259). -/
  requests : Nat
  /-- It left ACTIVE with a UPL_LINK_DOWN report and has not re-entered it (R316). -/
  lostReported : Bool
  deriving DecidableEq, Repr

/-- An uplink at foundation reset (R286). -/
def Uplink.reset : Uplink := ⟨.down, 0, 0, none, 0, false⟩

/-- One uplink group's transmit PLL (R257, R265). -/
structure UplGroup where
  pll : Bool
  refHold : Bool
  deriving DecidableEq, Repr

/-- A group at foundation reset. -/
def UplGroup.reset : UplGroup := ⟨false, false⟩

/-- One return lane (R261, R262). -/
structure RetLane where
  sync : Bool
  /-- UPL_CREDIT_BAD was raised in this course. -/
  badRaised : Bool
  /-- Synchronisation was lost with a UPL_RL_LOST report and has not been regained (R316). -/
  lostReported : Bool
  deriving DecidableEq, Repr

/-- A return lane at foundation reset. -/
def RetLane.reset : RetLane := ⟨false, false, false⟩

/-- A released record that has not left whole (R266), or an unsequenced record: its words, cells and pool cells. -/
structure OutRec where
  seq : Nat
  kind : Nat
  words : List DWord
  credits : Nat
  cells : CellUse
  late : Bool
  lateness : Nat
  /-- What a flush needs to form the flushed record (R298): number, class, course and BT, domain BT. -/
  head : List DWord
  /-- A re-send is pending (R266). -/
  resend : Bool
  /-- An uncorrectable cell error was found: it is sent with the CRC inverted (R278). -/
  badCrc : Bool
  deriving DecidableEq, Repr

/-- A block on the line (R266, R269): the record and the uplinks that still carry it. -/
structure TxBlock where
  out : OutRec
  carriers : List Nat
  /-- A whole copy has left (R266). -/
  whole : Bool
  deriving DecidableEq, Repr

/-- A move of a stream role (R270). -/
structure MovePending where
  mirror : Bool
  target : Nat
  boundary : Nat
  mailbox : Nat
  deriving DecidableEq, Repr

/-- One output stream (R217, R218, R267 to R270, R282). -/
structure Stream where
  nextSeq : Nat
  above : Bool
  /-- Released records that have not started, oldest first. -/
  out : List OutRec
  block : Option TxBlock
  summary : Option OutRec
  beacon : Option OutRec
  /-- The last record released carried LATE. -/
  lastLate : Bool
  primConflict : Bool
  mirConflict : Bool
  move : Option MovePending
  /-- The last block that left whole: its words and the uplinks that carried it. -/
  sent : Option (List DWord × List Nat)
  deriving DecidableEq, Repr

/-- A stream at foundation reset (R233, R286). -/
def Stream.reset : Stream := ⟨0, false, [], none, none, none, false, false, false, none, none⟩

/-! ### Fault collection (13) -/

/-- The block that a reaction isolates (R306, R310, R312). -/
inductive Target where
  | none
  | hostPort (p : Nat)
  | bedGroup (g : Nat)
  | engine (e : Nat)
  | quarter (m : Nat)
  | quarryCtl (c : Nat)
  | mortar (u : Nat)
  | lintel
  | uplinkGroup (g : Nat)
  | gauge
  | plumb
  | repointer
  deriving DecidableEq, Repr

/-- One report of a detector (R301): source, index, capture words 7 to 15, accessing unit, moment, time, quality, target; and whether it states a
condition that stood when a shadow closed (R316). -/
structure Report where
  source : Nat
  index : Nat
  capture : List Word
  master : Nat
  access : Nat
  stamp : Stamp
  time : AbsTime
  quality : Nat
  target : Target
  resurfaced : Bool
  deriving DecidableEq, Repr

/-- One entry of the fault log (R303). -/
structure LogEntry where
  seq : Nat
  report : Report
  level : Nat
  consequential : Bool
  escalated : Bool
  resurfaced : Bool
  acked : Bool
  first : Bool
  dropped : Nat
  /-- Words that an uncorrectable error has damaged: they read as all ones (R327). -/
  bad : List Nat
  deriving DecidableEq, Repr

/-- The states of a fault source (R313). -/
inductive SrcPhase where
  | idle | raised | escalated
  deriving DecidableEq, Repr

/-- What the collector keeps for one source (R305, R313, R317, R318). -/
structure SrcState where
  phase : SrcPhase
  /-- LEVEL of the newest primary report acted on. -/
  newest : Nat
  /-- Course in which the last primary report was detected. -/
  lastPrimary : Nat
  recovered : Nat
  conseq : Nat
  /-- The first-error capture: the 16 words of the entry. -/
  firstHeld : Option (List Word)
  deriving DecidableEq, Repr

/-- A source at reset. -/
def SrcState.reset : SrcState := ⟨.idle, 0, 0, 0, 0, none⟩

/-- What a reaction shadow covers: a target's consequence list, or the data-plane list (R312, R314). -/
inductive ShadowKind where
  | target (t : Target)
  | dataPlane
  deriving DecidableEq, Repr

/-- An open reaction shadow (R314): the detection moment of the opening report, and the course at whose tick it closes, when known. -/
structure Shadow where
  kind : ShadowKind
  opened : Stamp
  closeAt : Option Nat
  deriving DecidableEq, Repr

/-- An isolation that takes effect at step 5 of the next course tick (R305). -/
structure IsoPending where
  target : Target
  source : Nat
  deriving DecidableEq, Repr

/-- The fault collector (13). -/
structure Faults where
  /-- Reports on their way to the collector (R301). -/
  flying : List Report
  /-- Reports the collector holds for 64 core cycles (R301). -/
  held : List Report
  /-- The log, oldest entry first, at most 1,024 entries (R302). -/
  log : List LogEntry
  /-- Number of the newest entry logged; 0 when none. -/
  newestSeq : Nat
  /-- Reports not logged since the last entry. -/
  droppedRun : Nat
  /-- A FLT_LOG_FULL report that waits for space (R302). -/
  fullWaiting : Option Report
  srcs : SMap SrcState
  /-- Every pair of source and index reported since foundation reset (R316). -/
  reported : List (Nat × Nat)
  shadows : List Shadow
  isoPending : List IsoPending
  /-- Isolated targets, with the source of the report whose reaction isolated each. -/
  isolated : List IsoPending
  /-- A level-4 reaction logged, its stop due at the next course tick: its source. -/
  stopPending : Option Nat
  /-- The data plane is stopped, by a reaction to this source (R307). -/
  stopped : Option Nat
  /-- A restart taken, due at the next course tick (R308). -/
  restartPending : Bool
  /-- The sequence number written with it (R446). -/
  restartSeq : Nat
  /-- Number of the newest level-4 entry and its acknowledgement (R308). -/
  newestL4 : Option (Nat × Bool)
  deriving DecidableEq, Repr

/-- The collector after foundation reset (R322). -/
def Faults.reset : Faults := ⟨[], [], [], 0, 0, none, [], [], [], [], [], none, none, false, 0, none⟩

/-! ### Memory protection (14) -/

/-- An armed MEM_INJECT (R339). -/
structure MemInjection where
  memory : Nat
  inst : Nat
  bitA : Nat
  bitB : Option Nat
  deriving DecidableEq, Repr

/-- One protected block of memories 2 to 10 (R323, R325, R327): its state, and the bits in which the 80 stored bits, data [63:0] and check bits
[79:64], differ from what its content gives. -/
structure EccBlock where
  phase : BlockPhase
  flips : BitVec 80
  deriving DecidableEq, Repr

/-- A block that stands as its content gives it. -/
def EccBlock.blank : EccBlock := ⟨.good, 0⟩

/-- The Repointer and the memory protection (14). -/
structure MemProt where
  /-- Restore queue: group and block, oldest first, at most 128 (R330). -/
  restore : List (Nat × Nat)
  /-- Blocks whose restore failed and whose granule no load has rewritten, as group × 139,264 + block (R331). -/
  restoreFailed : SMap Bool
  /-- Memories and instances with MEM_SRAM_CORR raised in this course (R327). -/
  corrRaised : List (Nat × Nat)
  /-- Granules with MEM_HBM_CORR raised in this scrub pass (R332). -/
  hbmCorr : SMap Bool
  /-- When the HBM pass began (R333). -/
  passStart : Stamp
  inject : Option MemInjection
  /-- Blocks of memories 2 to 10 that are DAMAGED or hold inverted bits, at key (memory × 64 + instance) × 2²⁰ + block. -/
  ecc : SMap EccBlock
  /-- The keys of the blocks of memories 2 to 10 that have been written since their memory was powered, as rising ranges [first, end): the others are
  EMPTY (R325). -/
  written : List (Nat × Nat)
  deriving DecidableEq, Repr

/-- At foundation reset (R341). -/
def MemProt.reset : MemProt := ⟨[], [], [], [], ⟨0, 0⟩, none, [], []⟩

/-! ### Host ports (15) -/

/-- The interrupt state of one MSI-X vector of one port (R351): a message due, the merge time running, and the pending bit. -/
structure VecState where
  due : Bool
  holdoff : Bool
  pba : Bool
  deriving DecidableEq, Repr

/-- A vector with nothing due. -/
def VecState.idle : VecState := ⟨false, false, false⟩

/-- A capture under way (R357): the selector that it shows, the value written, and the data words where they were settled by the
write (a popped time stamp, a search). -/
structure SnapWait where
  sel : Nat
  word : Word
  data : Option (List Word)
  deriving DecidableEq, Repr

/-- A snapshot bank (R357): SNAP_SEQ, the captured selector, VALID, the data words, and the capture under way. -/
structure SnapBank where
  seq : Nat
  sel : Nat
  valid : Bool
  data : List Word
  waiting : Option SnapWait
  deriving DecidableEq, Repr

/-- A bank after foundation reset (R357). -/
def SnapBank.reset : SnapBank := ⟨0, 0, false, [], none⟩

/-- One message that a port has written to host memory: address and data (R343). -/
structure HostMsg where
  addr : Nat
  data : List Word
  deriving DecidableEq, Repr

/-- One PCI Express endpoint (R342 to R346, R354). -/
structure HostPort where
  /-- PERST_N[p] asserted. -/
  perst : Bool
  /-- Link in L0. -/
  l0 : Bool
  width : Nat
  speed : Nat
  dstate : Nat
  bme : Bool
  msixEn : Bool
  /-- MSI-X Function Mask: every vector is masked (R346). -/
  fnMask : Bool
  /-- Advanced Error Reporting: uncorrectable and correctable status, and of the first uncorrectable error its status bits and the header log (R342). -/
  aerUncorr : Word
  aerCorr : Word
  aerLog : Option (Word × BitVec 128)
  /-- MSI-X table words other than the reset contents, by byte offset in the table (R346). -/
  msixTable : SMap Word
  vectors : SMap VecState
  /-- Messages sent, newest first. -/
  msgs : List HostMsg
  /-- Snapshot banks by number: 0 QUO, 1 PLB, 2 GAU, 3 CRS, 4 QRY, 5 MRT, 6 FLT, 8 + g BED[g] (R354). -/
  banks : SMap SnapBank
  findHi : Word
  findLo : Word
  hwinPage : Word
  /-- What the last read through BAR4 returned (R196). -/
  windowData : List Byte
  /-- What the last BAR0 or BAR2 read of a wrong form returned (R345). -/
  badData : List Word
  deriving DecidableEq, Repr

/-- A port after foundation reset: PERST 0, link not in L0 (R362, R363). -/
def HostPort.reset : HostPort := ⟨false, false, 0, 0, 0, false, false, false, 0, 0, none, [], [], [], [], 0, 0, 0, [], []⟩

/-! ### The Gauge (17) -/

/-- A conversion in progress: what it took at its start (R392 to R397, R403). -/
structure GauRun where
  channel : Nat
  /-- GAU_CH_CFG at the start. -/
  cfg : Word
  /-- NPLC code and MAINS at the start. -/
  nplc : Nat
  mains : Bool
  blankEn : Bool
  /-- Factors of the gain at the start, and whether they were valid. -/
  offset : Int
  gain : Nat
  valid : Bool
  /-- OPEN was set on the channel during the conversion (R399). -/
  wasOpen : Bool
  /-- The Gauge was blanking, and was not blanking, at some time of the conversion (R401). -/
  wasBlank : Bool
  wasClear : Bool
  deriving DecidableEq, Repr

/-- One converter (R388, R392 to R403). -/
structure GauConv where
  connected : Option Nat
  run : Option GauRun
  /-- Conversions of the visit so far (R394). -/
  visit : Nat
  /-- It has not begun an integration since ENABLE went to 1 or domain 76 came ON (R393). -/
  fresh : Bool
  /-- Every channel's next two results carry SETTLE from the next integration on (R397). -/
  settleAll : Bool
  /-- The next multiplexer step discharges for 3 ms (R398, R399). -/
  longStep : Bool
  /-- NPLC and MAINS of the last integration. -/
  lastPeriod : Option (Nat × Bool)
  selfcal : Bool
  calFail : Bool
  /-- Bit g: factors of gain g valid. -/
  calValid : BitVec 4
  deriving DecidableEq, Repr

/-- A converter at foundation reset (R412). -/
def GauConv.reset : GauConv := ⟨none, none, 0, true, true, false, none, false, false, 0⟩

/-- One channel (R389 to R400). -/
structure GauChan where
  count : Nat
  time : AbsTime
  course : Nat
  settleLeft : Nat
  excPending : Bool
  /-- GAU_CH_CFG as its MODE and EXC are in force (R397). -/
  act : Word
  /-- The channel's own source is at its compliance limit (GAU_CH_STAT.OPEN). -/
  open_ : Bool
  /-- The results of the channel that the source serves carry OPEN (R399). -/
  held : Bool
  excFault : Bool
  /-- The last burnout check found the pair open, so that the check runs after every conversion (R400). -/
  burnout : Bool
  /-- Conversions since the last burnout check. -/
  sinceCheck : Nat
  lastOvr : Bool
  /-- Gain code and validity of its factors at the channel's last integration. -/
  lastGain : Option (Nat × Bool)
  /-- Newest result without SETTLE, with its time (R406). -/
  clean : Option (Word × AbsTime)
  /-- Time tag of the core cycle in which the newest result was published (R433). -/
  tag : Nat
  deriving DecidableEq, Repr

/-- A channel at foundation reset (R412). -/
def GauChan.reset : GauChan := ⟨0, ⟨0, 0, 0⟩, 0, 0, false, 0, false, false, false, false, 0, false, none, none, 0⟩

/-- One interlock output (R406 to R408). -/
structure GauOut where
  /-- Generator: standby. -/
  standby : Bool
  /-- The standby has failed. -/
  failed : Bool
  highZ : Bool
  fault : Bool
  cause : Nat
  /-- Duty in permille, and frequency in Hz, now driven. -/
  duty : Nat
  freq : Nat
  deriving DecidableEq, Repr

/-- An output at foundation reset: high impedance (R412). -/
def GauOut.reset : GauOut := ⟨false, false, true, false, 0, 0, 0⟩

/-- The Gauge (17): converters, channels, outputs, and which BLANK_N pins are asserted. -/
structure Gauge where
  convs : SMap GauConv
  chans : SMap GauChan
  outs : SMap GauOut
  blank0 : Bool
  blank1 : Bool
  deriving DecidableEq, Repr

/-- The Gauge at foundation reset. -/
def Gauge.reset : Gauge := ⟨[], [], [], false, false⟩

/-! ### Power (18) -/

/-- The states of a power domain (R418, R419). -/
inductive PowerPhase where
  | off | hold | on
  deriving DecidableEq, Repr

/-- One of the 80 power domains: its state, the state a change in progress leads to (R420), and, for an HBM stack in HOLD, whether
that HOLD was entered from OFF and is not yet initialised (R419). -/
structure PowerDomain where
  phase : PowerPhase
  goal : Option PowerPhase
  bare : Bool
  deriving DecidableEq, Repr

/-- A domain that is OFF. -/
def PowerDomain.off : PowerDomain := ⟨.off, none, false⟩

/-- The power controller and the power stage (18). -/
structure Power where
  /-- Domains by number; one not listed is OFF. -/
  domains : SMap PowerDomain
  /-- PWR_STAT.RESET_CAUSE (R428). -/
  resetCause : Nat
  /-- An excursion of the input is open (R415). -/
  excursion : Bool
  inRange : Bool
  /-- PWR_TEMP_HIGH may be raised again (R430). -/
  tempArmed : Bool
  /-- Rails whose fault has been raised and that have not returned to regulation (R422). -/
  faulty : List Nat
  /-- Every rail is in regulation, at the last update (PWR_RAIL_STAT). -/
  railsOk : Word
  /-- The latched trip, if the module is off (R425). -/
  trip : Option TripCause
  /-- The cause the power stage keeps for the next start (R425). -/
  lastTrip : Option TripCause
  /-- Foundation reset is asserted and not complete (R426). -/
  inReset : Bool
  /-- The reset under way came from FOUND_RST_N (R428). -/
  resetByPin : Bool
  /-- Input is valid (R414). -/
  input : Bool
  /-- FOUND_RST_N was low when it was last met (R426, R428). -/
  resetPin : Bool
  /-- What the power stage's sensor last read, in 0.125 °C (R425). -/
  stage : BitVec 16
  deriving DecidableEq, Repr

/-- After foundation reset: domains 50 and 51 ON, every other OFF (R428). RESET_CAUSE 0 is a DESIGN CHOICE. -/
def Power.reset : Power :=
  ⟨[(50, ⟨.on, none, false⟩), (51, ⟨.on, none, false⟩)], 0, false, true, true, [], 0x7FF, none, none, false, false, true, false, 0⟩

/-! ### The Lodge (16) -/

/-- One submitted command (R365): its sequence number, its place in Lodge order, the 16 descriptor words. -/
structure LdgCmd where
  seq : Nat
  order : Nat
  words : List Word
  deriving DecidableEq, Repr

/-- A job whose sizing pass is done (R197, R382, R383): bytes needed, H at sizing, what it has written to its host buffer so far, the courses of later
pieces, marker items, the stones sized in stone mode (the first, and for each course the number up to its LAST_STONE) and those given, blocks checked and failing with the first failing course, group and reason, and what a RECALL_HOST has
gathered. -/
structure LdgJob where
  need : Nat
  hist : Nat
  out : List DWord
  todo : List Nat
  markers : Nat
  stones : Nat × List (Nat × Nat)
  given : Nat
  checked : Nat
  failing : Nat
  firstFail : Option (Nat × Nat × Nat)
  gather : Gather
  /-- Bytes of stored blocks that the job has read (R377). -/
  read : Nat
  deriving DecidableEq, Repr

/-- A CAL_LOAD or WALK_LOAD that writes its group's SRAM (R128, R129): the entries from entry number `first` of the group on, and where they stand. -/
structure LoadRun where
  group : Nat
  first : Nat
  entries : List (BitVec 16)
  /-- Aligned pieces of 2,048 entries that remain, the one under way first. -/
  todo : List Nat
  /-- The blocks of the piece under way, with what they were before its write. -/
  kept : List (Nat × BlockPhase)
  /-- Archive granules that the load wrote. -/
  granules : Nat
  deriving DecidableEq, Repr

/-- What a command still has to write to its host buffer (R376): the address of the next word, the words, the bytes written; the words of its response
before and after the bytes written, and the number of the journal's next event when the image was formed (R384). -/
structure ImageRun where
  addr : Nat
  todo : List DWord
  sent : Nat
  head : List Word
  after : List Word
  next : Nat
  deriving DecidableEq, Repr

/-- What a running command waits for (R380, R381, R108, R57, R402). -/
inductive LdgWait where
  /-- A table load, piece by piece. -/
  | load (l : LoadRun)
  /-- Domains still to change, the one under way first, toward a state; those that failed; all that were named; those that were not in the state at
  the command's start (R377). -/
  | power (target : PowerPhase) (todo failed named changed : List Nat)
  | bind (p : Nat)
  | config (p : Nat)
  /-- Partners under measurement. -/
  | measure (named : List Nat)
  | calSwap (groups : List Nat)
  | domainSelect
  | migrate (slot : Nat)
  | streamMove (stream : Nat)
  /-- Converters in self-calibration. -/
  | selfcal (mask : Nat)
  /-- A job: before its sizing pass, which waits for the range's courses to be published, or after it. -/
  | job (j : Option LdgJob)
  /-- Words still to write to host memory. -/
  | image (w : ImageRun)
  deriving DecidableEq, Repr

/-- A running command (R374): the core cycle of its start, and whether LDG_OVERTIME has been raised. -/
structure LdgRun where
  cmd : LdgCmd
  started : Stamp
  wait : LdgWait
  overtime : Bool
  deriving DecidableEq, Repr

/-- One mailbox (R364 to R370). -/
structure Mailbox where
  lastSeq : Nat
  /-- Submitted and not started, oldest first. -/
  queue : List LdgCmd
  run : Option LdgRun
  /-- Completed responses that wait for the buffer: sequence number and the 16 words. -/
  done : List (Nat × List Word)
  /-- Sequence number of the response that the buffer holds. -/
  held : Option Nat
  deriving DecidableEq, Repr

/-- A mailbox at foundation reset (R387). -/
def Mailbox.reset : Mailbox := ⟨0, [], none, [], none⟩

/-- The Lodge: mailboxes 0 to 7, and the place in Lodge order of the last submission with its core cycle (R367): submissions of one core cycle share a
rank, within which the mailbox decides. -/
structure Lodge where
  boxes : SMap Mailbox
  rank : Nat
  rankAt : Option Stamp
  deriving DecidableEq, Repr

/-- The Lodge at foundation reset (R387). -/
def Lodge.reset : Lodge := ⟨[], 0, none⟩

/-! ### The Plumb and the Cornerstone (19) -/

/-- The Plumb's states (R437). -/
inductive PlbPhase where
  | idle | armed | triggered | held
  deriving DecidableEq, Repr

/-- A record of the Plumb (R435): the tag, word 1, and whether its store block is damaged (R444). -/
structure PlbRec where
  tag : Nat
  word : DWord
  damaged : Bool
  deriving DecidableEq, Repr

/-- What the Plumb keeps of a slot: the value last recorded, and the last value seen with its tag, for the thresholds (R434, R440). -/
structure PlbSlot where
  last : Option Nat
  seen : Option (Int × Nat)
  deriving DecidableEq, Repr

/-- A slot with nothing recorded. -/
def PlbSlot.reset : PlbSlot := ⟨none, none⟩

/-- A fire that was taken (R439): its moment, its origin, its tag and its BACK. -/
structure PlbFire where
  stamp : Stamp
  origin : Nat
  tag : Nat
  back : Nat
  deriving DecidableEq, Repr

/-- The Plumb (R433 to R444). -/
structure Plumb where
  phase : PlbPhase
  /-- Records in the store, oldest first. -/
  store : List PlbRec
  /-- Changes that wait for the store, oldest first, at most 256 (R436). -/
  queue : List PlbRec
  /-- Changes that found the queue full and are not yet marked. -/
  lossDue : Nat
  /-- Records written since the arm. -/
  written : Nat
  /-- MODE, PRE, POST and POST_COURSES of the capture (R437). -/
  fill : Bool
  pre : Nat
  post : Nat
  postCourses : Nat
  /-- Records still to write after the FIRE record. -/
  postLeft : Nat
  preShort : Bool
  overflow : Bool
  /-- A PLB_READ has completed while HELD. -/
  read : Bool
  /-- Tag, absolute time and quality of the arm. -/
  arm : Option (Nat × AbsTime × Nat)
  /-- The newest fire that was taken, and the pre-trigger count. -/
  fire : Option PlbFire
  preCount : Nat
  /-- Tag of the first missed fire. -/
  missed : Option Nat
  /-- Tag of the newest missed fire: a device fires once per core cycle (R439). -/
  lastMiss : Option Nat
  /-- The device drives PLB_FIRE low. -/
  driving : Bool
  /-- Level of PLB_ARM and of PLB_FIRE as last sampled. -/
  armPin : Bool
  firePin : Bool
  slots : SMap PlbSlot
  /-- A fire of this core cycle that an arm in the same core cycle would take (R439). -/
  waiting : Option PlbFire
  deriving DecidableEq, Repr

/-- The Plumb at foundation reset (R454). -/
def Plumb.reset : Plumb :=
  ⟨.idle, [], [], 0, 0, false, 0, 0, 0, 0, false, false, false, none, none, 0, none, none, false, false, true, [], none⟩

/-- An event of the journal, with its slot (R445). -/
structure CnsEvent where
  slot : Nat
  words : List DWord
  deriving DecidableEq, Repr

/-- An event that is due to be written (R446): type, DEVICE_ID, tag, time, quality, the two words of DATA. -/
structure CnsDue where
  type : Nat
  deviceId : Nat
  tag : Nat
  time : AbsTime
  quality : Nat
  data5 : DWord
  data6 : DWord
  deriving DecidableEq, Repr

/-- A switch-over that was logged (R446): its course, its source and its capture words 7 and 8. -/
structure CnsSwitch where
  course : Nat
  due : CnsDue
  deriving DecidableEq, Repr

/-- A copy of the Cornerstone's control area (R447): what it holds, slot of the oldest event and events held among it. -/
structure CnsControl where
  next : Nat
  startCount : Nat
  head : Nat
  count : Nat
  sealed : Bool
  lost : Nat
  failed : List Nat
  clearing : Bool
  deriving DecidableEq, Repr

/-- The Cornerstone (R445 to R451). What its control area holds survives resets and trips. -/
structure Cornerstone where
  /-- Events, oldest first. -/
  events : List CnsEvent
  /-- Number of the next event. -/
  next : Nat
  startCount : Nat
  sealed : Bool
  lost : Nat
  /-- Slots that failed verification, in order. -/
  failed : List Nat
  /-- Between an accepted CNS_CLEAR and its CLEAR event. -/
  clearing : Bool
  /-- Events due, oldest first. -/
  due : List CnsDue
  /-- Course of the last CRITICAL event. -/
  critical : Option Nat
  /-- Switch-overs of the newest courses. -/
  switches : List CnsSwitch
  /-- CLEAR_CODE, and whether no read has set it or the journal has taken an event since (R384). -/
  clearCode : Word
  moved : Bool
  /-- The three copies of the control area, each with a CRC of its own (R447). -/
  control0 : CnsControl
  control1 : CnsControl
  control2 : CnsControl
  deriving DecidableEq, Repr

/-- The control area of a journal without events. -/
def CnsControl.reset : CnsControl := ⟨0, 0, 0, 0, false, 0, [], false⟩

/-- A journal without events: what the model starts from, a DESIGN CHOICE (R454 gives "stored"). -/
def Cornerstone.reset : Cornerstone := ⟨[], 0, 0, false, 0, [], false, [], none, [], 0, true, .reset, .reset, .reset⟩

/-! ### The JTAG port (20) -/

/-- What a ball shows: high impedance, electrical idle, its active or its inactive level, an input, a signal of its own, or a cell of the boundary
register. -/
inductive BallLevel where
  | highZ | idle | asserted | released | input | driven | boundary
  deriving DecidableEq, Repr

/-- The signals of R458; `neg` is the N ball of a pair. -/
inductive BallSignal where
  | vin | vrtn | doNotConnect | ground
  | uplTx (u : Nat) (neg : Bool) | rlRx (r : Nat) (neg : Bool) | peTx (p i : Nat) (neg : Bool) | peRx (p i : Nat) (neg : Bool)
  | quoRx (k : Nat) (neg : Bool) | quoTx (k : Nat) (neg : Bool) | peRefclk (p : Nat) (neg : Bool) | quoXo (neg : Bool)
  | foundRstN | faultN | alarmN (i : Nat) | throtN (i : Nat) | blankN (i : Nat) | plbArm | plbFire
  | tck | tms | tdi | tdo | trstN | test (i : Nat) | perstN (p : Nat) | clkreqN (p : Nat) | actN (p : Nat)
  | gauOut (o : Nat) | gauA (c : Nat) | gauB (c : Nat) | dlTx (d : Nat) (neg : Bool) | bedRx (l : Nat) (neg : Bool)
  deriving DecidableEq, Repr

/-- The JTAG port's TAP: the instruction in force, what was last shifted into the boundary register, what it captured at the balls before that, whether
TRST_N is low, and whether a register is being shifted (R464, R465). -/
structure Jtag where
  instr : JtagInstr
  boundary : List Bool
  captured : List (BallSignal × BallLevel)
  trst : Bool
  shifting : Bool
  deriving DecidableEq, Repr

/-- After a TAP reset BYPASS is selected (R465). -/
def Jtag.reset : Jtag := ⟨.bypass, [], [], false, false⟩

/-! ### The whole -/

/-- The Portik: every piece of state the spec gives it, and the commands that wait, first in, first out. -/
structure State where
  /-- Commands that wait, first in, first out. -/
  pending : List Instr
  btr : Buttress
  /-- Stored register words by BAR0 offset; one not listed stands at its reset value. -/
  regs : SMap Word
  flt : Faults
  port0 : HostPort
  port1 : HostPort
  quo : Quoin
  pwr : Power
  /-- Bed lanes 0 to 255. -/
  lanes : SMap Lane
  /-- Downlinks 0 to 63. -/
  downlinks : SMap Downlink
  /-- Partners 0 to 63. -/
  partners : SMap Partner
  bindPending : List BindPending
  /-- Table groups 0 to 31. -/
  groups : SMap TableGroup
  /-- Table SRAM: block b of group g at key g × 139,264 + b; offset store first, then walk store. -/
  sram : SMap SramBlock
  ash : Ashlar
  ring : Ring
  qry : Quarry
  hbm : Hbm
  mem : MemProt
  mrt : Mortar
  /-- Streams 0 to 47. -/
  streams : SMap Stream
  /-- Uplinks 0 to 63. -/
  uplinks : SMap Uplink
  /-- Uplink groups 0 to 7. -/
  uplGroups : SMap UplGroup
  /-- Return lanes 0 to 15. -/
  retLanes : SMap RetLane
  lnt : Lintel
  ldg : Lodge
  gau : Gauge
  plb : Plumb
  cns : Cornerstone
  jtag : Jtag
  deriving DecidableEq, Repr

/-- Why the Portik stops with a fault. No rule of the spec stops the machine, and no meaning raises one. -/
inductive Fault where
  /-- Raised by no meaning: the type stands for the interface's second outcome. Safe. -/
  | never
  deriving DecidableEq, Repr

/-- Why a command is refused. -/
inductive Refusal where
  /-- exec: a row that has no meaning yet, by its mnemonic. Safe. -/
  | notModelled (mnemonic : String)
  /-- A register write that changes a KEEP bit: R3 gives it no described behaviour. Raised by every register write. Safe. -/
  | keepFieldChanged
  deriving DecidableEq, Repr

/-- The Portik right after foundation reset: the Cornerstone's first start is due to be written (R446). -/
def State.reset : State where
  pending := []
  btr := .reset
  regs := []
  flt := .reset
  port0 := .reset
  port1 := .reset
  quo := .reset
  pwr := .reset
  lanes := []
  downlinks := []
  partners := []
  bindPending := []
  groups := []
  sram := []
  ash := .reset
  ring := .reset
  qry := .reset
  hbm := .reset
  mem := .reset
  mrt := .reset
  streams := []
  uplinks := []
  uplGroups := []
  retLanes := []
  lnt := .reset
  ldg := .reset
  gau := .reset
  plb := .reset
  cns := { Cornerstone.reset with startCount := 1, due := [⟨1, 0, 0, ⟨0, 0, 0⟩, 2, 0, 0x41600011⟩] }
  jtag := .reset

end Sys2Proof.Machine
end

