-- ==== Sys2Proof/Machine/Ops.lean ====
section
/-!
DEFINITION. The operations every block shares: voted items, the moment, registers, event registers and interrupts, counters,
and the raising of a fault report.
-/
namespace Sys2Proof.Machine

/-! ### Voted items (R337) -/

/-- Bitwise majority of the three copies: what every consumer uses (R337). -/
def Tri.val {n : Nat} (t : Tri n) : BitVec n := (t.c0 &&& t.c1) ||| (t.c0 &&& t.c2) ||| (t.c1 &&& t.c2)

/-- The item with each copy changed in the same way. -/
def Tri.map {n : Nat} (f : BitVec n → BitVec n) (t : Tri n) : Tri n := ⟨f t.c0, f t.c1, f t.c2⟩

/-- Move an item from its voted value to `v`: a copy that agreed takes `v`; one that disagreed keeps its difference. -/
def Tri.move {n : Nat} (v : BitVec n) (t : Tri n) : Tri n :=
  let m := t.val
  t.map (fun c => v ^^^ (c ^^^ m))

/-! ### The moment -/

/-- BT in course (R336, item 0x0000). -/
def nowBt (s : State) : Nat := s.btr.pos.val.toNat / 32

/-- Core cycle within the course, 0 to 1,535. -/
def nowCycle (s : State) : Nat := nowBt s * 24 + s.btr.pos.val.toNat % 32

/-- The voted course counter (R22). -/
def nowCourse (s : State) : Nat := s.btr.course.val.toNat

/-- Global BT number: course × 64 + BT in course (02, Naming a moment). -/
def nowGbt (s : State) : Nat := nowCourse s * 64 + nowBt s

/-- R433: the time tag of this core cycle. -/
def timeTag (s : State) : Nat := nowGbt s % 2 ^ 59 * 32 + s.btr.pos.val.toNat % 32

/-- The moment. -/
def nowStamp (s : State) : Stamp := ⟨nowCourse s, nowCycle s⟩

/-- `a` lies in an earlier core cycle than `b`. -/
def Stamp.before (a b : Stamp) : Bool := decide (a.course < b.course) || (a.course == b.course && decide (a.cycle < b.cycle))

/-- Absolute time now: the tick's own at core cycle 0, else a free value of the tick's time and the cycle. -/
def nowTime (s : State) : AbsTime :=
  if nowCycle s = 0 then s.quo.tickTime else Config.absTimeWithin s.quo.tickTime (nowCycle s)

/-- Orbit counter and BT in orbit (R26). -/
def nowOrbit (s : State) : Nat := s.btr.orbit.val.toNat / 65536
/-- BT in orbit (R26). -/
def nowBtInOrbit (s : State) : Nat := s.btr.orbit.val.toNat % 65536

/-! ### State updates by part -/

def State.modBtr (f : Buttress → Buttress) (s : State) : State := { s with btr := f s.btr }
def State.modFlt (f : Faults → Faults) (s : State) : State := { s with flt := f s.flt }
def State.modQuo (f : Quoin → Quoin) (s : State) : State := { s with quo := f s.quo }

/-- A host port by number. -/
def hostPort (s : State) (p : Nat) : HostPort := if p = 0 then s.port0 else s.port1

/-- Change one host port. -/
def State.modPort (p : Nat) (f : HostPort → HostPort) (s : State) : State :=
  if p = 0 then { s with port0 := f s.port0 } else { s with port1 := f s.port1 }

/-- A power domain by number (R418). -/
def powerDom (s : State) (n : Nat) : PowerDomain := smGet .off s.pwr.domains n

/-- A domain is ON and no change of it is in progress (R420). -/
def domOn (s : State) (n : Nat) : Bool := powerDom s n == ⟨.on, none, false⟩

/-- Whether a target is isolated (R306). -/
def isIsolated (s : State) (t : Target) : Bool := s.flt.isolated.any (fun x => x.target == t)

/-- The data plane is stopped (R307). -/
def dpStopped (s : State) : Bool := s.flt.stopped.isSome

/-! ### Registers -/

/-- Reset value of a register entry: the table's numbers, and the reset values that depend on the entry's number. -/
def regReset (r : Reg) (i : Nat) : Word :=
  regResetStatic r |||
    (match r with
      | .mrtStreamCfg => mkFld 29 28 (i % 4)
      | .lntLane => mkFld 5 0 (56 + i)
      | .uplStreamMap => mkFld 5 0 i
      | .fltSrcCfg => mkFld 2 0 (srcSeverity i)
      | _ => 0)

/-- The stored word of a register entry that is not course-buffered. -/
def cell (s : State) (r : Reg) (i : Nat := 0) (j : Nat := 0) : Word := smGet (regReset r i) s.regs (regOff r i j)

/-- Store the word of a register entry that is not course-buffered. -/
def setCell (r : Reg) (i j : Nat) (w : Word) (s : State) : State :=
  { s with regs := smPut (regReset r i) s.regs (regOff r i j) w }

/-- Change the stored word of a register entry. -/
def modCell (r : Reg) (i j : Nat) (f : Word → Word) (s : State) : State := setCell r i j (f (cell s r i j)) s

/-- A course-buffered register at its reset value: equal copies, nothing waiting (R341). -/
def CbReg.atReset (w : Word) : CbReg := ⟨.of (w ++ w), false⟩

/-- A course-buffered register entry (R336). -/
def cbReg (s : State) (r : Reg) (i : Nat) : CbReg := smGet (.atReset (regReset r i)) s.btr.cb (regOff r i)

/-- Store a course-buffered register entry. -/
def setCb (r : Reg) (i : Nat) (x : CbReg) (s : State) : State :=
  s.modBtr fun b => { b with cb := smPut (.atReset (regReset r i)) b.cb (regOff r i) x }

/-- The value in force of a course-buffered register: low half of the voted item. -/
def CbReg.force (x : CbReg) : Word := x.copies.val.setWidth 32

/-- The pending value of a course-buffered register: high half of the voted item; what a read returns (R353). -/
def CbReg.pend (x : CbReg) : Word := (x.copies.val >>> 32).setWidth 32

/-- The value in force of a course-buffered register entry. -/
def inForce (s : State) (r : Reg) (i : Nat := 0) : Word := (cbReg s r i).force

/-- R353: a write of `w` sets the three pending copies and the PENDING bit. -/
def CbReg.write (w : Word) (x : CbReg) : CbReg := ⟨x.copies.map (fun c => w ++ c.setWidth 32), true⟩

/-- R353: the pending value becomes the value in force and PENDING clears, in each copy. -/
def CbReg.apply (x : CbReg) : CbReg :=
  if x.waiting then ⟨x.copies.map (fun c => (c >>> 32).setWidth 32 ++ (c >>> 32).setWidth 32), false⟩ else x

/-- A change that the block itself makes at a tick: the value in force and the pending value take it, in every copy. -/
def CbReg.setBoth (w : Word) (x : CbReg) : CbReg := ⟨.of (w ++ w), x.waiting⟩

/-! ### Interrupts (R350, R351) -/

/-- The MSI-X vector that an event register signals (R350). -/
def vectorOf : Reg → Option Nat
  | .fltEvt => some 0
  | .quoEvt => some 5
  | .bedLaneEvt | .bedDlEvt | .bedPevt => some 6
  | .ashEngEvt => some 7
  | .crsEvt | .molEvt => some 8
  | .qryEvt | .qryHwinStat => some 9
  | .mrtAccEvt | .mrtUnitEvt => some 10
  | .lntEvt => some 11
  | .uplLinkEvt | .uplRlEvt | .uplEvt => some 12
  | .memEvt | .memLastRead | .btrEvt => some 13
  | .pwrEvt => some 14
  | .gauEvt => some 15
  | .plbEvt | .cnsEvt => some 16
  | .hstEvt => some 17
  | _ => none

/-- A vector of a port is masked: by its mask bit in the MSI-X table, which is set at reset, or by the Function Mask (R344, R346). -/
def vecMasked (hp : HostPort) (v : Nat) : Bool := hp.fnMask || bit (smGet 1 hp.msixTable (16 * v + 12)) 0

/-- R351: an event of a vector at one port: with the vector enabled and MSI-X Enable set, a masked vector sets its pending
bit and an unmasked one has a message due; else the event is not remembered. -/
def signalPort (p v : Nat) (s : State) : State :=
  let hp := hostPort s p
  if bit (cell s .hstIrqEn p) v && hp.msixEn then
    s.modPort p fun h => { h with vectors := smUpd .idle h.vectors v (fun x => if vecMasked h v then { x with pba := true } else { x with due := true }) }
  else s

/-- R350: an event of a vector that both ports carry. -/
def signal (v : Nat) (s : State) : State := signalPort 1 v (signalPort 0 v s)

/-! ### Event registers and counters (R355) -/

/-- R355: the next event sequence number. -/
def nextSqc (n : Nat) : Nat := if n = 0xFFFF then 1 else n + 1

/-- R355: an event sets its bit and advances SEQ, and signals the register's vector (R350). -/
def event (r : Reg) (i : Nat) (b : Nat) (s : State) : State :=
  let s1 := modCell r i 0 (fun w => setFld (setBit w b true) 15 0 (nextSqc (fld w 15 0))) s
  match vectorOf r with
  | some v => signal v s1
  | none => s1

/-- A saturating counter in the field [hi:lo] of a register advances by `n`. -/
def count (r : Reg) (i hi lo : Nat) (n : Nat := 1) (s : State) : State := modCell r i 0 (fun w => incSat w hi lo n) s

/-- A wrapping counter in the field [hi:lo] of a register advances by one. -/
def countWrap (r : Reg) (i hi lo : Nat) (s : State) : State := modCell r i 0 (fun w => incWrap w hi lo) s

/-- Clear the field [hi:lo] of a register. -/
def clearFld (r : Reg) (i hi lo : Nat) (s : State) : State := modCell r i 0 (fun w => setFld w hi lo 0) s

/-! ### Raising a report (R301) -/

/-- The block that a report names by its source and index, for the sources whose index decides it (R310). -/
def targetOf (src idx : Nat) : Target :=
  if 0x011 ≤ src ∧ src ≤ 0x013 then .hostPort idx
  else if 0x080 ≤ src ∧ src ≤ 0x084 then .bedGroup (idx / 8)
  else if src = 0x086 ∨ src = 0x0A4 ∨ src = 0x0A5 then .bedGroup idx
  else if src = 0x0A0 then .engine idx
  else if src = 0x120 then .quarter (idx / 8)
  else if 0x121 ≤ src ∧ src ≤ 0x127 then .quarter idx
  else if src = 0x169 ∨ src = 0x16A then .mortar idx
  else if 0x180 ≤ src ∧ src ≤ 0x184 then .lintel
  else if src = 0x1A0 ∨ src = 0x1A1 then .uplinkGroup (idx / 8)
  else if src = 0x1A2 ∨ src = 0x1A3 then .uplinkGroup (idx / 2)
  else if src = 0x1A6 ∨ src = 0x1A7 then .uplinkGroup idx
  else if src = 0x205 ∨ src = 0x206 then .repointer
  else if 0x240 ≤ src ∧ src ≤ 0x244 then .gauge
  else if 0x260 ≤ src ∧ src ≤ 0x263 then .plumb
  else .none

/-- A 56-bit course number as capture words, high word first (R303). -/
def capCourse (c : Nat) : List Word := [w32 (c / 2 ^ 32), w32 c]

/-- A 64-bit value as capture words, high word first (R303). -/
def cap64 (v : Nat) : List Word := [w32 (v / 2 ^ 32), w32 v]

/-- R301: a detector's report sets out toward the collector, stamped with the moment and the index. -/
def raise (src idx : Nat) (cap : List Word) (s : State) (tgt : Target := targetOf src idx) (master : Nat := 0) (access : Nat := 0) : State :=
  let r : Report := ⟨src, idx, cap, master, access, nowStamp s, nowTime s, s.quo.worst, tgt, false⟩
  s.modFlt fun f =>
    { f with
      flying := f.flying ++ [r]
      reported := if f.reported.contains (src, idx) then f.reported else f.reported ++ [(src, idx)] }

end Sys2Proof.Machine
end

