-- ==== Sys2Proof/Machine/Groups.lean ====
section
/-!
DEFINITION. Access to lanes, downlinks, partners, table groups and engines by number, and the gap accounts (R116, R117).
-/
namespace Sys2Proof.Machine

/-! ### Access by number -/

def lane (s : State) (l : Nat) : Lane := smGet .reset s.lanes l
def modLane (l : Nat) (f : Lane → Lane) (s : State) : State := { s with lanes := smUpd .reset s.lanes l f }
def downlink (s : State) (d : Nat) : Downlink := smGet .reset s.downlinks d
def modDl (d : Nat) (f : Downlink → Downlink) (s : State) : State := { s with downlinks := smUpd .reset s.downlinks d f }
def partner (s : State) (p : Nat) : Partner := smGet .reset s.partners p
def modPartner (p : Nat) (f : Partner → Partner) (s : State) : State := { s with partners := smUpd .reset s.partners p f }
def tgroup (s : State) (g : Nat) : TableGroup := smGet .reset s.groups g
def modGroup (g : Nat) (f : TableGroup → TableGroup) (s : State) : State := { s with groups := smUpd .reset s.groups g f }
def engine (s : State) (e : Nat) : Engine := smGet .reset s.ash.engines e
def State.modAsh (f : Ashlar → Ashlar) (s : State) : State := { s with ash := f s.ash }
def modEngine (e : Nat) (f : Engine → Engine) (s : State) : State :=
  s.modAsh fun a => { a with engines := smUpd .reset a.engines e f }

/-- R111: the table group of a bound partner is the bed group of its FIRST_LANE. -/
def partnerGroup (s : State) (p : Nat) : Option Nat := (partner s p).binding.map (fun b => b.firstLane / 8)

/-- The lanes the map in force binds to a partner. -/
def partnerLanes (s : State) (p : Nat) : List Nat :=
  match (partner s p).binding with
  | some b => (List.range (b.lanesM1 + 1)).map (b.firstLane + ·)
  | none => []

/-- LANE_INDEX of a lane within its partner's binding (R110). -/
def laneIndex (s : State) (l : Nat) : Nat :=
  match (lane s l).partner.bind (fun p => (partner s p).binding) with
  | some b => l - b.firstLane
  | none => 0

/-- The target of a report about a partner: its table group's bed group (R310). -/
def partnerTarget (s : State) (p : Nat) : Target :=
  match partnerGroup s p with
  | some g => .bedGroup g
  | none => .none

/-! ### Capability records (R78) -/

/-- The field [hi:lo] of a capability record. -/
def recFld (r : BitVec 128) (hi lo : Nat) : Nat := (r.toNat / 2 ^ lo) % 2 ^ (hi + 1 - lo)
def recPartnerId (r : BitVec 128) : Nat := recFld r 127 96
def recLaneIndex (r : BitVec 128) : Nat := recFld r 87 85
def recLanesM1 (r : BitVec 128) : Nat := recFld r 82 80
def recChannels (r : BitVec 128) : Nat := recFld r 79 56
def recHitFormat (r : BitVec 128) : Nat := recFld r 55 48
def recTTurn (r : BitVec 128) : Nat := recFld r 47 24

/-- R78: the value checks of a record. LANE_COUNT_M1 is three bits, so LANE_COUNT − 1 is 0 to 7. -/
def recordGood (r : BitVec 128) : Bool :=
  recFld r 95 92 == 1 && decide (recFld r 91 88 ≤ 2) && decide (recLaneIndex r ≤ recLanesM1 r) &&
  decide (1 ≤ recChannels r) && decide (recChannels r ≤ 262144) && decide (1 ≤ recHitFormat r) && decide (recHitFormat r ≤ 3)

/-- R79: the record matches a binding for the lane with LANE_INDEX `i`. -/
def recordMatches (b : Binding) (i : Nat) (r : BitVec 128) : Bool :=
  recPartnerId r == recPartnerId b.record && recFld r 95 88 == recFld b.record 95 88 && recLaneIndex r == i &&
  recLanesM1 r == b.lanesM1 && recChannels r == recChannels b.record && recHitFormat r == recHitFormat b.record &&
  recTTurn r == recTTurn b.record

/-! ### Gap accounts (R116, R117) -/

/-- The count that stands for unknown. -/
def cntUnknown : Nat := 0xFFFF

/-- R117: counts of merged entries add and saturate at 0xFFFE; a merge with unknown is unknown. -/
def cntAdd (a b : Nat) : Nat := if a = cntUnknown ∨ b = cntUnknown then cntUnknown else min 0xFFFE (a + b)

/-- R117: whether two entries merge: same partner, cause and named course, the same lane for causes 1 and 2, neither open. -/
def acctMerges (a b : Account) : Bool :=
  a.partner == b.partner && a.cause == b.cause && a.first / 64 == b.first / 64 && (decide (3 ≤ a.cause) || a.lane == b.lane) &&
  !a.open_ && !b.open_ && !a.allPartners && !b.allPartners

/-- Two entries joined: counts added, the smallest range that covers both. -/
def acctJoin (a b : Account) : Account :=
  { a with first := min a.first b.first, last := max a.last b.last, count := cntAdd a.count b.count }

/-- Merge an entry into the first entry of a list that it merges with. -/
def acctMergeInto (x : Account) : List Account → Option (List Account)
  | [] => none
  | a :: t => if acctMerges a x then some (acctJoin a x :: t) else (acctMergeInto x t).map (a :: ·)

/-- R117: the entry that stands for all that find the store full in course `c`. -/
def overflowEntry (x : Account) (c : Nat) : Account :=
  { x with cause := 10, lane := 0, lossCause := 0, first := c * 64, last := c * 64 + 63, count := cntUnknown, open_ := false, detected := c, allPartners := true }

/-- R116, R117: a table group records an entry. A group whose domain is OFF holds no store. -/
def addAccount (g : Nat) (x : Account) (s : State) : State :=
  if (powerDom s g).phase == .off then s
  else
    let c := nowCourse s
    let t := tgroup s g
    match acctMergeInto x t.accounts with
    | some l => modGroup g (fun t => { t with accounts := l }) s
    | none =>
      if t.entriesNow < 256 then
        let n := t.entriesNow + 1
        let s1 := modGroup g (fun t => { t with accounts := t.accounts ++ [x], entriesNow := n }) s
        modCell .bedAcctStat g 0 (fun w => setFld w 8 0 (max (fld w 8 0) n)) s1
      else if t.accounts.any (fun a => a.allPartners && a.detected == c) then s
      else
        let s1 := modGroup g (fun t => { t with accounts := t.accounts ++ [overflowEntry x c] }) s
        raise Src.bedAcctOverflow g (w32 g :: capCourse c) (count .bedAcctStat g 31 16 1 s1)

/-- R116: an entry of a bound partner, in its table group. -/
def account (p cause first last cnt : Nat) (s : State) : State :=
  match partnerGroup s p with
  | some g => addAccount g ⟨p, cause, 0, 0, first, last, cnt, false, nowCourse s, false⟩ s
  | none => s

/-- The open entry of a lane's loss (R84). -/
def lossEntry (l : Nat) (a : Account) : Bool := a.open_ && a.lane == l && decide (a.cause ≤ 2)

/-- R84: a lane leaves ACTIVE: an open entry from the leave BT, cause LINK_LOSS, or QUARANTINE for loss causes 7, 8 and 9; where its loss of this core
cycle has opened one, that takes the cause (R82). -/
def openLossAccount (l lossCause : Nat) (s : State) : State :=
  match (lane s l).partner with
  | some p =>
    match partnerGroup s p with
    | some g =>
      let b := nowGbt s
      let cause := if 7 ≤ lossCause ∧ lossCause ≤ 9 then 2 else 1
      if (tgroup s g).accounts.any (lossEntry l) then
        modGroup g (fun t => { t with
          accounts := t.accounts.map (fun a => if lossEntry l a then { a with cause := cause, lossCause := lossCause } else a) }) s
      else addAccount g ⟨p, cause, l, lossCause, b, b, cntUnknown, true, nowCourse s, false⟩ s
    | none => s
  | none => s

/-- R84: the lane has re-entered ACTIVE at BT `b`: its open entry closes and may then merge (R117). -/
def closeLossAccount (l b : Nat) (s : State) : State :=
  match (lane s l).partner.bind (partnerGroup s) with
  | some g =>
    modGroup g (fun t =>
      match t.accounts.find? (lossEntry l) with
      | some a =>
        let x := { a with last := b, open_ := false }
        let rest := t.accounts.filter (fun y => !(y == a))
        { t with accounts := (acctMergeInto x rest).getD (t.accounts.map (fun y => if y == a then x else y)) }
      | none => t) s
  | none => s

/-- R84, R117: the entry marks course `c` possibly incomplete for partner `p`. -/
def acctMarks (a : Account) (p c : Nat) : Bool :=
  if a.allPartners then decide (a.detected ≤ c + 1) && decide (c ≤ a.detected + 1)
  else a.partner == p && decide (a.first ≤ c * 64 + 63 + 64) && (a.open_ || decide (c * 64 ≤ a.last + 64))

/-- R289: table group `g` is ON and not isolated: its partners form records. -/
def groupServes (s : State) (g : Nat) : Bool := domOn s g && !isIsolated s (.bedGroup g)

/-- R289: the interval without table group `g` begins or ends, as its domain and isolation say. -/
def groupAvail (g : Nat) (s : State) : State :=
  let ok := groupServes s g
  modGroup g (fun t =>
    match t.offSpans with
    | (a, none) :: rest => if ok then { t with offSpans := (a, some (nowGbt s)) :: rest } else t
    | l => if ok then t else { t with offSpans := (nowGbt s, none) :: l }) s

/-- R120: the courses that an account entry marks, as first and last. -/
def acctCourses (s : State) (a : Account) : Nat × Nat :=
  if a.allPartners then (a.detected - 1, a.detected + 1) else ((a.first - 64) / 64, ((if a.open_ then nowGbt s else a.last) + 64) / 64)

/-- R120: table group `g` goes OFF: it discards every entry that it holds; records of them in published index entries stay. -/
def dropAccounts (g : Nat) (s : State) : State :=
  let first := match s.qry.newest with | some p => p + 1 | none => 0
  modGroup g (fun t => { t with
    lost := t.accounts.map (acctCourses s) ++ t.lost
    dropped := t.dropped.filter (fun x => decide (nowCourse s < x.2 + 64)) ++ t.accounts.map (fun a => (a, first))
    accounts := [] }) s

end Sys2Proof.Machine
end

