-- ==== Sys2Proof/Machine/Lanes.lean ====
section
/-!
DEFINITION. Bed lanes: bring-up, capability exchange, loss, retrain and quarantine (chapter 04).
-/
namespace Sys2Proof.Machine

/-- R75: the lane's group domain is ON, the group is not isolated and the lane is enabled. -/
def laneEnabled (s : State) (l : Nat) : Bool :=
  domOn s (l / 8) && !isIsolated s (.bedGroup (l / 8)) && bit (cell s .bedLaneCfg l) 0

/-- R77, R107: the lane's restart request falls due on its partner's downlink. -/
def restartDue (l : Nat) (s : State) : State :=
  match (lane s l).partner with
  | some p => modDl p (fun d => { d with restarts := sortNat ((laneIndex s l) :: d.restarts.filter (· != laneIndex s l)) }) s
  | none => s

/-- R77, R107: the lane-active notice falls due on the partner's downlink. -/
def activeDue (l : Nat) (s : State) : State :=
  match (lane s l).partner with
  | some p => modDl p (fun d => { d with actives := sortNat ((laneIndex s l) :: d.actives.filter (· != laneIndex s l)) }) s
  | none => s

/-- R76: entry to TRAIN, warm when the taps have reached LOCK since the domain last came ON from OFF. -/
def enterTrain (l : Nat) (s : State) : State :=
  restartDue l (modLane l (fun x => { x with
    phase := .train, warm := x.tapsHeld, cdr := false, sync := false, waitBind := false, run := 0, adapting := true }) s)

/-- R75: entry to DETECT. -/
def enterDetect (l : Nat) (s : State) : State :=
  modLane l (fun x => { x with phase := .detect, cdr := false, sync := false, waitBind := false, run := 0 }) s

/-- R75: entry to DOWN: the receiver is off. -/
def enterDown (l : Nat) (s : State) : State :=
  modLane l (fun x => { x with phase := .down, signal := false, cdr := false, sync := false, waitBind := false, run := 0, adapting := false }) s

/-! ### The decision-feedback equaliser (R70) -/

/-- Codes that a tap can move in course `c`: 1 per 1,024 characters, and a course has 1,638.4 of them (R65). -/
def tapLimit (c : Nat) : Int := ((8 * c / 5 : Nat) : Int) - ((8 * (c - 1) / 5 : Nat) : Int)

/-- A tap of `bits` bits after course `c`: a free step, within the limit and the code's range. -/
def tapMoved (l c k bits : Nat) (v : Int) : Int :=
  satSigned bits (v + max (-tapLimit c) (min (tapLimit c) (Config.dfeStep l c k)))

/-- R70: a lane's taps at the tick that ends course `c`, unless DFE_FREEZE holds them. -/
def tapsMoved (s : State) (l c : Nat) (x : Lane) : Lane :=
  if x.adapting && !bit (cell s .bedLaneCfg l) 3 then
    { x with taps := (List.range 5).map (fun k => tapMoved l c k (if k = 0 then 8 else 6) (x.taps.getD k 0)) }
  else x

/-- R75, R84, R114: entry to ACTIVE: the account closes, the notice falls due, and the missing-span check waits for a data frame. -/
def enterActive (l : Nat) (s : State) : State :=
  let s := modLane l (fun x => { x with
    phase := .active, waitBind := false, lostReported := false, failArmed := true, noData := true, checkFrom := none }) s
  let s := countWrap .bedLaneCnt l 15 0 (event .bedLaneEvt l 16 s)
  activeDue l (closeLossAccount l (nowGbt s) s)

/-- R85: the partner's lane with LANE_INDEX 0 left ACTIVE during its delay measurement: the result is refused. -/
def delayMeasureLost (l : Nat) (s : State) : State :=
  match (lane s l).partner with
  | some p =>
    if laneIndex s l = 0 && (smFind s.quo.rounds p).isSome then
      modDl p (fun d => { d with marker := none })
        (s.modQuo fun q => { q with rounds := smErase q.rounds p, measured := smInsert q.measured p 2 })
    else s
  | none => s

/-- The lane's partner as a capture word. -/
def capPartner (s : State) (l : Nat) : Word := w32 ((lane s l).partner.getD 0)

/-- R80, R84: the lane leaves ACTIVE for a cause: event, account, report for causes 1, 2, 3 and 5 (R88). The state it goes to
follows. -/
def leaveActive (l cause : Nat) (s : State) : State :=
  let s := delayMeasureLost l s
  let s := modLane l (fun x => { x with lostCause := cause, noData := false, checkFrom := none }) s
  let s := openLossAccount l cause (event .bedLaneEvt l 17 s)
  if cause = 1 ∨ cause = 2 ∨ cause = 3 ∨ cause = 5 then
    raise Src.bedLaneLost l (w32 l :: capPartner s l :: w32 cause :: cap64 (nowGbt s)) (modLane l (fun x => { x with lostReported := true }) s)
  else s

/-! R82: several causes of one core cycle. -/

/-- R82: the rank of a cause, the least the first: DOWN causes (`down`: 4 is ENABLE cleared), QUARANTINE causes, retrain causes, each by code. -/
def causeRank (cause : Nat) (down : Bool) : Nat :=
  if cause = 5 ∨ cause = 6 ∨ (cause = 4 ∧ down) then cause else if 7 ≤ cause then 16 + cause else 32 + cause

/-- R82: the lane's leaving ACTIVE in this core cycle, if it has left it. -/
def leftNow (s : State) (l : Nat) : Option LaneLeft :=
  match (lane s l).left with
  | some m => if m.stamp = nowStamp s then some m else none
  | none => none

/-- R82: a cause of a rank makes the lane leave ACTIVE: it is ACTIVE, or has left it in this core cycle for a cause that ranks after. -/
def leavesFor (s : State) (l rank : Nat) : Bool :=
  (lane s l).phase == .active || (match leftNow s l with | some m => decide (rank < m.rank) | none => false)

/-- The lane's restart request is due on its partner's downlink. -/
def restartIsDue (s : State) (l : Nat) : Bool :=
  match (lane s l).partner with
  | some p => (downlink s p).restarts.contains (laneIndex s l)
  | none => false

/-- R82: what a cause that is outranked did to the lane in this core cycle is undone; `host`: ENABLE is as the host has written it. -/
def unleave (l : Nat) (m : LaneLeft) (host : Bool) (s : State) : State :=
  let s := setCell .bedLaneEvt l 0 m.evt (modCell .bedLaneCnt l 0 (fun w => setFld w 31 24 m.retrains) s)
  let s := if host then s else modCell .bedLaneCfg l 0 (fun w => setBit w 0 m.enable) s
  let s := match (lane s l).partner with
    | some p => if m.due then s else modDl p (fun d => { d with restarts := d.restarts.filter (· != laneIndex s l) }) s
    | none => s
  let mine := fun (r : Report) => (r.source == Src.bedLaneLost || r.source == Src.bedQuarantine) && r.index == l && r.stamp == m.stamp
  modLane l (fun x => { x with phase := .active, lostReported := false }) (s.modFlt fun f => { f with flying := f.flying.filter (fun r => !mine r) })

/-- R82: a lane about to leave ACTIVE for a cause of a rank: as it was before any cause of this core cycle, which is noted. -/
def beforeLeave (l rank : Nat) (host : Bool) (s : State) : State :=
  match leftNow s l with
  | some m => modLane l (fun x => { x with left := some { m with rank := rank } }) (unleave l m host s)
  | none =>
    modLane l (fun x => { x with
      left := some ⟨nowStamp s, rank, cell s .bedLaneEvt l, fld (cell s .bedLaneCnt l) 31 24, bit (cell s .bedLaneCfg l) 0, restartIsDue s l⟩ }) s

/-- R80, R88: entry to QUARANTINE; from ACTIVE the lane leaves it first. -/
def enterQuarantine (l cause : Nat) (s : State) : State :=
  let s := if leavesFor s l (causeRank cause false) then leaveActive l cause (beforeLeave l (causeRank cause false) false s) else s
  let s := modLane l (fun x => { x with phase := .quarantine, lostCause := cause, waitBind := false }) s
  raise Src.bedQuarantine l [w32 l, capPartner s l, w32 cause] (event .bedLaneEvt l 20 s)

/-- R75: any state but DOWN goes to DOWN; ACTIVE leaves with the cause. Cause 5 is recorded for every lane that goes (R86). -/
def forceDown (l cause : Nat) (s : State) : State :=
  if leavesFor s l (causeRank cause true) then enterDown l (leaveActive l cause (beforeLeave l (causeRank cause true) (cause == 4) s))
  else if (lane s l).phase == .down then s
  else enterDown l (if cause = 5 then modLane l (fun x => { x with lostCause := 5 }) s else s)

/-- R75: a DOWN lane that may run enters DETECT. -/
def tryDetect (l : Nat) (s : State) : State :=
  if (lane s l).phase == .down && laneEnabled s l then enterDetect l s else s

/-- R75: a training attempt failed: counted, and the first since ACTIVE or enabling is reported. -/
def trainFail (l : Nat) (code : Nat) (s : State) : State :=
  let s1 := count .bedLaneCnt l 23 16 1 (event .bedLaneEvt l 18 s)
  let s2 := if (lane s l).failArmed then raise Src.bedTrainFail l [w32 l, w32 code] s1 else s1
  enterDetect l (modLane l (fun x => { x with failArmed := false }) s2)

/-- R81: an automatic retrain of the lane would exceed RETRAIN_MAX. -/
def retrainExceeds (s : State) (l : Nat) : Bool :=
  let limit := fld (cell s .bedGrpCfg (l / 8)) 7 0
  let n := match leftNow s l with | some m => m.retrains | none => fld (cell s .bedLaneCnt l) 31 24
  bit (cell s .bedLaneCfg l) 1 && limit != 0 && decide (limit < n + 1)

/-- R82: the rank of a loss cause 1 to 3 for the lane. -/
def lossRank (s : State) (l cause : Nat) : Nat := if retrainExceeds s l then causeRank 9 false else causeRank cause false

/-- R75, R80, R81: a lane leaves ACTIVE for a loss cause 1 to 3. -/
def autoLoss (l cause : Nat) (s : State) : State :=
  if retrainExceeds s l then enterQuarantine l 9 s
  else
    let s := beforeLeave l (causeRank cause false) false s
    if bit (cell s .bedLaneCfg l) 1 then
      let s := leaveActive l cause (count .bedLaneCnt l 31 24 1 s)
      if cause = 1 then enterDetect l s else enterTrain l s
    else enterDown l (leaveActive l cause (clearFld .bedLaneCfg l 0 0 s))

/-! ### Events -/

/-- R75: signal above threshold for 40 consecutive BT. -/
def laneSignalDetect (l : Nat) (s : State) : State :=
  match (lane s l).phase with
  | .detect => enterTrain l (modLane l (fun x => { x with signal := true }) s)
  | .down => s
  | _ => modLane l (fun x => { x with signal := true }) s

/-- R75: clock recovery locked and the taps settled. -/
def laneTrainDone (l : Nat) (s : State) : State :=
  if (lane s l).phase == .train then modLane l (fun x => { x with phase := .lock, cdr := true, tapsHeld := true }) s else s

/-- R75: 1,250 courses in TRAIN, or 64 in LOCK. -/
def laneTrainTimeout (l : Nat) (s : State) : State :=
  match (lane s l).phase with
  | .train => trainFail l 2 s
  | .lock => trainFail l 3 s
  | _ => s

/-- R75: 2,048 courses in EXCHANGE without a valid record, not while WAIT_BIND is 1. -/
def laneExchangeTimeout (l : Nat) (s : State) : State :=
  if (lane s l).phase == .exchange && !(lane s l).waitBind then trainFail l 4 s else s

/-- R75, R67: Clause 36 synchronisation acquired in LOCK. DEDUCED (log entry 177): a lane that has lost it in EXCHANGE or QUARANTINE acquires none there,
since R67 lets a receiver acquire alignment only in LOCK; SYNC stays 0. -/
def laneSyncAcquired (l : Nat) (s : State) : State :=
  if (lane s l).phase == .lock then
    count .bedLaneErr l 15 8 1
      (modLane l (fun x => { x with phase := .exchange, sync := true, run := 0, lastRecord := none, mismatchRaised := false }) s)
  else s

/-- R75, R80: loss of signal. -/
def laneLossOfSignal (l : Nat) (s : State) : State :=
  let s := modLane l (fun x => { x with signal := false, cdr := false, sync := false }) s
  if leavesFor s l (lossRank s l 1) then autoLoss l 1 s
  else
    match (lane s l).phase with
    | .train | .lock | .exchange => enterDetect l s
    | _ => s

/-- R75, R80: loss of clock-recovery lock; in TRAIN it only delays the end of TRAIN. -/
def laneCdrUnlock (l : Nat) (s : State) : State :=
  let s := modLane l (fun x => { x with cdr := false, sync := false }) s
  if leavesFor s l (lossRank s l 2) then autoLoss l 2 s
  else
    match (lane s l).phase with
    | .lock | .exchange => enterDetect l s
    | _ => s

/-- R80: loss of Clause 36 synchronisation, cause 3. -/
def laneSyncLoss (l : Nat) (s : State) : State :=
  let s := modLane l (fun x => { x with sync := false }) s
  if leavesFor s l (lossRank s l 3) then autoLoss l 3 s else s

/-- R88: code errors of the course under way beyond CODE_ERR_THR raise BED_CODE_ERR, once in the course. -/
def codeErrCheck (l : Nat) (s : State) : State :=
  let n := (lane s l).codeErrs
  if fld (cell s .bedGrpCfg (l / 8)) 23 8 < n && !(lane s l).codeRaised then
    raise Src.bedCodeErr l ([w32 l, w32 n] ++ capCourse (nowCourse s)) (event .bedLaneEvt l 21 (modLane l (fun x => { x with codeRaised := true }) s))
  else s

/-- R67, R88: a code error, counted. -/
def laneCodeError (l : Nat) (s : State) : State :=
  if (lane s l).phase == .down then s
  else codeErrCheck l (modLane l (fun x => { x with codeErrs := x.codeErrs + 1 }) (count .bedLaneErr l 31 16 1 s))

/-- R88: a write of BED_GRP_CFG: the threshold in force from now on. -/
def grpCfgWritten (g : Nat) (s : State) : State := forN 8 (fun j => codeErrCheck (8 * g + j)) s

/-- R81: the count of automatic retrains of every lane returns to zero, at a course tick whose course number is a multiple of 65,536. -/
def retrainCountReset (s : State) : State :=
  if nowCourse s % 65536 = 0 ∧ nowCycle s = 0 then forN 256 (fun l => clearFld .bedLaneCnt l 31 24) s else s

/-! ### The capability exchange (R78, R79) -/

/-- R79: a mismatch on a bound lane quarantines it, and with another PARTNER_ID every other ACTIVE or EXCHANGE lane of the partner. -/
def bindMismatch (l p : Nat) (b : Binding) (r : BitVec 128) (s : State) : State :=
  let s := raise Src.bedExchMismatch l [w32 l, w32 (recFld r 127 96), w32 (recFld r 95 64)] (event .bedLaneEvt l 19 s)
  let s := enterQuarantine l 7 s
  if recPartnerId r = recPartnerId b.record then s
  else forL (partnerLanes s p) (fun k t =>
    if k ≠ l && ((lane t k).phase == .active || (lane t k).phase == .exchange) then enterQuarantine k 7 t else t) s

/-- R72, R73: what a valid exchange settles on a bound lane's downlink: EQ_END taken, fall-back when the partner cannot equalise. -/
def exchangeSettles (p : Nat) (r : BitVec 128) (s : State) : State :=
  let e := bit (cell s .bedDlCfg p) 16
  let fb := e && recFld r 17 17 == 0
  let s1 := modDl p (fun d => { d with eqEnd := e, eqFallback := fb }) s
  if fb then event .bedDlEvt p 17 s1 else s1

/-- R75, R78: a valid record. -/
def validRecord (l : Nat) (r : BitVec 128) (s : State) : State :=
  let unmet := decide (fld (cell s .bedLaneCfg l) 15 12 ≠ 0) && recFld r 16 16 == 0
  let s := modLane l (fun x => { x with record := some (r, nowCourse s), peUnmet := unmet }) s
  match (lane s l).partner with
  | none => modLane l (fun x => { x with waitBind := true }) s
  | some p =>
    match (partner s p).binding with
    | none => s
    | some b => if recordMatches b (laneIndex s l) r then enterActive l (exchangeSettles p r s) else bindMismatch l p b r s

/-- R78: one received record with its CRC-32C: a bad one breaks the run of three; the third equal good one is judged. -/
def exchangeBlockRx (l : Nat) (r : BitVec 128) (crc : BitVec 32) (s : State) : State :=
  if (lane s l).phase == .exchange then
    if crc32c (beBytes 16 r.toNat) ≠ crc then count .bedLaneErr l 31 16 1 (modLane l (fun x => { x with run := 0, lastRecord := none }) s)
    else
      let n := if (lane s l).lastRecord = some r then (lane s l).run + 1 else 1
      let s := modLane l (fun x => { x with run := n, lastRecord := some r }) s
      if n ≠ 3 then s
      else if recordGood r then validRecord l r s
      else if (lane s l).mismatchRaised then s
      else
        raise Src.bedExchMismatch l [w32 l, w32 (recFld r 127 96), w32 (recFld r 95 64)]
          (event .bedLaneEvt l 19 (modLane l (fun x => { x with mismatchRaised := true }) s))
  else s

/-! ### Host and power -/

/-- R75, R80: what a write of BED_LANE_CFG does to the lane's state: ENABLE cleared or set. `old` is the word before. -/
def laneCfgWritten (l : Nat) (old : Word) (s : State) : State :=
  let en := bit (cell s .bedLaneCfg l) 0
  if !en then forceDown l 4 s
  else if !bit old 0 then tryDetect l (modLane l (fun x => { x with failArmed := true }) s)
  else s

/-- R83, R381: LANE_TRAIN with the retrain action acts on the lane; also whether it did. -/
def laneRetrain (l : Nat) (s : State) : State × Bool :=
  if !domOn s (l / 8) || isIsolated s (.bedGroup (l / 8)) then (s, false)
  else
    match (lane s l).phase with
    | .train | .lock | .exchange => (enterTrain l s, true)
    | .active => (enterTrain l (leaveActive l 4 (beforeLeave l (causeRank 4 false) false s)), true)
    | .down =>
      (tryDetect l (modLane l (fun x => { x with failArmed := true }) (modCell .bedLaneCfg l 0 (fun w => setBit w 0 true) s)), true)
    | _ => (s, false)

/-- R75, R83: LANE_TRAIN with the release action. -/
def laneRelease (l : Nat) (s : State) : State × Bool :=
  if (lane s l).phase == .quarantine && domOn s (l / 8) then (enterTrain l s, true) else (s, false)

/-- R86, R312: every lane of a bed group goes to DOWN with a cause (5 domain, 6 isolation). -/
def groupDown (g cause : Nat) (s : State) : State := forN 8 (fun j => forceDown (8 * g + j) cause) s

/-- R76, R86: a bed group's domain has reached OFF: the taps of its lanes restart from zero. -/
def groupTapsLost (g : Nat) (s : State) : State :=
  forN 8 (fun j => modLane (8 * g + j) (fun x => { x with tapsHeld := false, warm := false, taps := [0, 0, 0, 0, 0] })) s

/-- R86: a bed group's domain has reached ON, from HOLD without OFF in between (WARM 1) or from OFF. -/
def groupUp (g : Nat) (fromHold : Bool) (s : State) : State :=
  forN 8 (fun j t =>
    let l := 8 * g + j
    tryDetect l (modLane l (fun x => { x with warm := fromHold }) t)) s

end Sys2Proof.Machine
end

