-- ==== Sys2Proof/Machine/Quoin.lean ====
section
/-!
DEFINITION. The Quoin: timing domains, servo, IEEE 1588 messages, orbit, transmit time stamps, partner clocks, and what the
Quoin does at a course tick (chapter 03).
-/
namespace Sys2Proof.Machine

/-! ### Domains -/

/-- A timing domain by number: 0 A, 1 B. -/
def qdom (s : State) (d : Fin 2) : QDomain := if d = 0 then s.quo.domA else s.quo.domB

/-- Change one timing domain. -/
def modDom (d : Fin 2) (f : QDomain → QDomain) (s : State) : State :=
  s.modQuo fun q => if d = 0 then { q with domA := f q.domA } else { q with domB := f q.domB }

/-- The other domain. -/
def otherDom (d : Fin 2) : Fin 2 := if d = 0 then 1 else 0

/-- R32: the link's power domain is ON and its receiver holds BT-frame alignment. -/
def linkReceives (s : State) (d : Fin 2) : Bool := domOn s (48 + d.val) && (qdom s d).aligned

/-- A domain that R37 can take to LOST. -/
def domTracked (s : State) (d : Fin 2) : Bool := (qdom s d).phase == .tracking || (qdom s d).phase == .locked

/-- Absolute time in 2⁻¹⁶ ns. -/
def timeUnits (t : AbsTime) : Int := ((t.sec.toNat * 1000000000 + t.ns.toNat) * 65536 + t.frac.toNat : Nat)

/-! ### Servo and time quality (R38, R41) -/

/-- R41: the quality of the servo's state: 0 LOCKED, 1 HOLDOVER, 2 FREE; a holdover past QUO_HOLD_LIMIT counts as FREE. DEDUCED: its
length in courses is the difference of the course numbers, so that a part course does not count. -/
def servoQuality (s : State) : Nat :=
  match s.quo.servo with
  | .locked => 0
  | .holdover => if nowCourse s - s.quo.holdStart > fld (cell s .quoHoldLimit) 23 0 then 2 else 1
  | _ => 2

/-- The servo takes a state; the course's worst quality so far follows (R41). -/
def setServo (v : Servo) (s : State) : State :=
  let s1 := s.modQuo fun q => { q with servo := v }
  s1.modQuo fun q => { q with worst := max q.worst (servoQuality s1) }

/-- R38, R43: entry to HOLDOVER. -/
def enterHoldover (s : State) : State :=
  raise Src.timeHoldover 0 []
    (setServo .holdover (s.modQuo fun q => { q with holdStart := nowCourse s, holdOffset := (qdom s q.active).offset, holdExpired := false }))

/-- R38, R45: what the loss of the active domain does to the servo. -/
def servoOnActiveLoss (s : State) : State :=
  match s.quo.servo with
  | .acquire => setServo .free s
  | .locked =>
    if !s.quo.xoOk && !((qdom s (otherDom s.quo.active)).phase == .locked) then setServo .free s else enterHoldover s
  | _ => s

/-- R45: without a good oscillator a holdover in which no domain is LOCKED any more ends FREE. -/
def holdoverLost (s : State) : State :=
  if s.quo.servo == .holdover && !s.quo.xoOk && !((qdom s 0).phase == .locked) && !((qdom s 1).phase == .locked) then setServo .free s else s

/-- R37, R38, R52: a LOCKED or TRACKING domain goes to LOST with a cause; both have been lost in this course where the other one was, whatever it does
by now. -/
def loseDomain (d : Fin 2) (cause : Nat) (s : State) : State :=
  if domTracked s d then
    let c := nowCourse s
    let s := modDom d (fun q => { q with phase := .lost, lostCause := cause, lostCourse := c, phaseRun := 0 }) s
    let s := event .quoEvt 0 (18 + d.val) s
    let s := raise Src.timeDomainLost d.val [w32 d.val, w32 cause] s
    let s := if cause = 6 then raise Src.timeFreqRange 0 [] s else s
    let o := qdom s (otherDom d)
    let s := if o.lostCause ≠ 0 ∧ o.lostCourse = c then s.modQuo fun q => { q with bothLost := true } else s
    holdoverLost (if d = s.quo.active then servoOnActiveLoss s else s)
  else s

/-- R35: a domain enters ALIGNING. -/
def enterAligning (d : Fin 2) (signal : Bool) (s : State) : State :=
  modDom d (fun q => { q with phase := .aligning, aligned := signal, announced := false, phaseRun := 0 }) s

/-! ### Events of a link -/

/-- R35: signal detected. The receiver is taken to hold BT-frame alignment from here until signal or framing is lost. A domain that is in ALIGNING
stays in it: only the count of valid frames begins anew. -/
def signalDetect (d : Fin 2) (s : State) : State :=
  if domOn s (48 + d.val) then
    match (qdom s d).phase with
    | .lost => enterAligning d true s
    | .aligning => modDom d (fun q => { q with aligned := true }) s
    | _ => s
  else s

/-- R35: 1,024 consecutive valid BT frames counted. -/
def alignCountDone (d : Fin 2) (s : State) : State :=
  if linkReceives s d && (qdom s d).phase == .aligning then modDom d (fun q => { q with phase := .tracking, phaseRun := 0 }) s else s

/-- R37 cause 1; in ALIGNING the count restarts (R35). -/
def lossOfSignal (d : Fin 2) (s : State) : State := modDom d (fun q => { q with aligned := false }) (loseDomain d 1 s)

/-- R37 cause 2: alignment is no longer held (R32). -/
def framingLoss (d : Fin 2) (s : State) : State := modDom d (fun q => { q with aligned := false }) (loseDomain d 2 s)

/-- R37 cause 3: no Sync for the time that LOG_SYNC sets. -/
def syncTimeout (d : Fin 2) (s : State) : State := loseDomain d 3 s

/-- R37 cause 6: the recovered frequency lies outside its range. In ALIGNING it restarts the count, which the block does not hold (R35). -/
def freqRange (d : Fin 2) (s : State) : State := loseDomain d 6 s

/-- R37 cause 4: only an Announce accepted since ALIGNING starts the timer. -/
def announceTimeout (d : Fin 2) (s : State) : State := if (qdom s d).announced then loseDomain d 4 s else s

/-- R37 cause 8: more than 4,096 BT since the last type 0x02 message accepted. -/
def btCountTimeout (d : Fin 2) (s : State) : State :=
  match (qdom s d).lastCount with
  | some (_, g) => if nowGbt s - g > 4096 then loseDomain d 8 s else s
  | none => s

/-- R46, R37 cause 7: a domain BT count, checked against the BT edges counted since the last one, and in LOCKED against the offset. -/
def domainBtCount (d : Fin 2) (n edges : Nat) (s : State) : State :=
  if linkReceives s d then
    let q := qdom s d
    let edgesOk := match q.lastCount with
      | some (c, _) => (c + edges) % 2 ^ 64 == n % 2 ^ 64
      | none => true
    let offsetOk := !(q.phase == .locked && q.offsetValid) || BitVec.ofNat 64 n - BitVec.ofNat 64 (nowGbt s) == q.offset
    let s1 := modDom d (fun q => { q with lastCount := some (n % 2 ^ 64, nowGbt s) }) s
    if edgesOk && offsetOk then s1 else loseDomain d 7 s1
  else s

/-- R32: a discarded message is counted and raises TIME_MSG_BAD. -/
def msgBad (d : Fin 2) (s : State) : State :=
  if linkReceives s d then raise Src.timeMsgBad 0 [] (modDom d (fun q => { q with badMsg := min 15 (q.badMsg + 1) }) s) else s

/-! ### IEEE 1588 (R33, R34). The arithmetic of offset and mean path delay is the standard's end-to-end mechanism. -/

/-- A message of the domain number that QUO_DOM_CFG accepts. -/
def ptpForUs (s : State) (d : Fin 2) (n : BitVec 8) : Bool :=
  linkReceives s d && decide (n.toNat = fld (cell s .quoDomCfg d.val) 7 0)

/-- delayAsymmetry of a domain, 2⁻¹⁶ ns (R34). -/
def domAsym (s : State) (d : Fin 2) : Int := signed 32 (cell s .quoDomAsym d.val).toNat

/-- The offset of a Sync after delay compensation. -/
def syncOffset (s : State) (d : Fin 2) (r : SyncRec) : Int :=
  r.received - r.origin - r.correction - (qdom s d).pathDelay - domAsym s d

/-- A completed Sync: its offset is judged against ±1 ns (R36) and against ±QUO_SWITCH_MAX × 100 (R37 cause 5). -/
def takeSync (d : Fin 2) (r : SyncRec) (s : State) : State :=
  let off := syncOffset s d r
  let good := (qdom s d).exchangeDone && decide (off.natAbs ≤ 65536)
  let bad := (qdom s d).exchangeDone && decide (off.natAbs > (cell s .quoSwitchMax).toNat * 100)
  let s1 := modDom d (fun q => { q with
    lastSync := some r, twoStepWait := none
    goodSyncs := if good then q.goodSyncs + 1 else 0
    badSyncs := if bad then q.badSyncs + 1 else 0 }) s
  if (qdom s1 d).badSyncs ≥ 3 then loseDomain d 5 s1 else s1

/-- R34: a Sync; a two-step one waits for its Follow_Up. -/
def ptpSync (d : Fin 2) (m : PtpSync) (s : State) : State :=
  if ptpForUs s d m.domainNumber then
    let r : SyncRec := ⟨m.sequenceId.toNat, timeUnits m.received, timeUnits m.origin, m.correction.toInt⟩
    let s1 := modDom d (fun q => { q with syncCount := (q.syncCount + 1) % 65536, twoStep := m.twoStep }) s
    if m.twoStep then modDom d (fun q => { q with twoStepWait := some r }) s1 else takeSync d r s1
  else s

/-- R34: a Follow_Up, paired by sequenceId. -/
def ptpFollowUp (d : Fin 2) (m : PtpFollowUp) (s : State) : State :=
  if ptpForUs s d m.domainNumber then
    match (qdom s d).twoStepWait with
    | some r =>
      if r.sequenceId = m.sequenceId.toNat then
        takeSync d { r with origin := timeUnits m.origin, correction := r.correction + m.correction.toInt } s
      else s
    | none => s
  else s

/-- R34: a Delay_Resp, matched to the Portik's Delay_Req, completes an exchange. DESIGN CHOICE: the half of an odd sum is rounded down. -/
def ptpDelayResp (d : Fin 2) (m : PtpDelayResp) (s : State) : State :=
  if ptpForUs s d m.domainNumber && m.ours then
    match (qdom s d).dreqSent with
    | some (n, t3) =>
      if n = m.sequenceId.toNat then
        modDom d (fun q => { q with
          dreqSent := none, exchangeDone := true
          pathDelay := match q.lastSync with
            | some r => ((r.received - t3) + (timeUnits m.received - r.origin) - (r.correction + domAsym s d) - m.correction.toInt) / 2
            | none => q.pathDelay }) s
      else s
    | none => s
  else s

/-- R34: an Announce, accepted in the PTP timescale, or in ARB when ARB_OK is 1. -/
def ptpAnnounce (d : Fin 2) (m : PtpAnnounce) (s : State) : State :=
  if ptpForUs s d m.domainNumber && (m.ptpTimescale || bit (cell s .quoDomCfg d.val) 17) then
    modDom d (fun q => { q with announced := true, announceLog := m.logInterval.toInt }) s
  else s

/-! ### Transmit time stamps (R53 to R55) -/

/-- R53, R54: a time stamp joins the queue of 16, or is lost. -/
def pushStamp (t : TxStamp) (s : State) : State :=
  if s.quo.txq.length < 16 then s.modQuo fun q => { q with txq := q.txq ++ [t], txqLosing := false }
  else
    let s1 := event .quoEvt 0 23 (count .quoTxqOvf 0 31 0 1 s)
    if s.quo.txqLosing then s1 else raise Src.timeTxqOverflow 0 [] (s1.modQuo fun q => { q with txqLosing := true })

/-- R34, R53: the Portik sends a Delay_Req at the LOG_DREQ interval. -/
def delayReqSend (d : Fin 2) (t : AbsTime) (s : State) : State :=
  if linkReceives s d then
    let n := (qdom s d).dreqNext
    let s1 := modDom d (fun q => { q with dreqNext := (n + 1) % 65536, dreqSent := some (n, timeUnits t) }) s
    if bit (cell s .quoCtl) 3 then pushStamp ⟨d.val, 1, n, t⟩ s1 else s1
  else s

/-- The 64 bytes of QUO_TX_BUF, first byte in [31:24] of word 0. -/
def txBufBytes (s : State) : List Byte := (List.range 16).flatMap fun i => beBytes 4 (cell s .quoTxBuf i).toNat

/-- R55: a write of QUO_TX_CTL. DESIGN CHOICE: the bytes sent are those of QUO_TX_BUF at the write of SEND. -/
def quoTxCtlWrite (w : Word) (s : State) : State :=
  let len := fld w 6 0
  if bit w 31 && s.quo.tx.isNone && decide (34 ≤ len) && decide (len ≤ 64) then
    s.modQuo fun q => { q with tx := some ⟨fld w 7 7, bit w 8, (txBufBytes s).take len⟩ }
  else s

/-- R53, R55: the last byte of a host message has been sent; messageType and sequenceId are those of its IEEE 1588 header.
DESIGN CHOICE: the message ends so whatever the power of its lane has become meanwhile. -/
def txDone (t : AbsTime) (s : State) : State :=
  match s.quo.tx with
  | some j =>
    let s1 := s.modQuo fun q => { q with tx := none }
    if j.stamp then pushStamp ⟨j.domain, (j.bytes.getD 0 0).toNat % 16, beNat ((j.bytes.drop 30).take 2), t⟩ s1 else s1
  | none => s

/-! ### The orbit (R26, R48) -/

/-- R26: an orbit begins whose first BT lies `k` BT back: the counter advances and the written length comes into force. -/
def beginOrbit (k : Nat) (s : State) : State :=
  let n := (nowOrbit s + 1) % 2 ^ 48
  (s.modBtr fun b => { b with orbit := b.orbit.move (BitVec.ofNat 64 (n * 65536 + k)) }).modQuo
    fun q => { q with orbitLen := fld (cell s .quoOrbit) 15 0 }

/-- R26: an orbit starts at the BT that completes the one before it, never inside it. -/
def orbitStart (s : State) : State := if s.quo.orbitLen ≤ nowBtInOrbit s then beginOrbit (nowBtInOrbit s - s.quo.orbitLen) s else s

/-- R26: a local orbit starts in the BT under way: it has begun, or the one before it is complete. -/
def atOrbitStart (s : State) : Bool := nowBtInOrbit s == 0 || nowBtInOrbit s == s.quo.orbitLen

/-- R48: ORBIT_START received from a domain. DEDUCED: "the first after it becomes LOCKED" holds for each domain and each lock, so that the first one of a
domain that a switch made active starts a local orbit too. -/
def orbitStartRx (d : Fin 2) (s : State) : State :=
  if bit (cell s .quoCtl) 2 && decide (d = s.quo.active) && (qdom s d).phase == .locked && linkReceives s d then
    if (qdom s d).orbitSeen then
      if atOrbitStart s then s else raise Src.timeOrbitMismatch 0 [] (event .quoEvt 0 24 s)
    else beginOrbit 0 (modDom d (fun q => { q with orbitSeen := true }) s)
  else s

/-! ### Partner clocks (R56 to R59) -/

/-- A partner's clock. -/
def partnerClock (s : State) (p : Nat) : PartnerClock := smGet .reset s.quo.clocks p

/-- Change a partner's clock. -/
def modClock (p : Nat) (f : PartnerClock → PartnerClock) (s : State) : State :=
  s.modQuo fun q => { q with clocks := smUpd .reset q.clocks p f }

/-- R59: the PHASE part of a stretch at BT `b`: 1 fu per BT from where it began toward its target. -/
def AdvSeg.at (g : AdvSeg) (b : Nat) : Nat :=
  if g.from_ ≤ g.target then min g.target (g.from_ + (b - g.start)) else max g.target (g.from_ - (b - g.start))

/-- R56, R59: the PHASE part of the advance that the transmitter applies to the edge of local BT `b`. -/
def PartnerClock.phaseAt (k : PartnerClock) (b : Nat) : Nat :=
  match k.segs.find? (fun g => decide (g.start ≤ b)) with
  | some g => g.at b
  | none => 0

/-- The PHASE part that the transmitter applies or moves toward. -/
def PartnerClock.phase (k : PartnerClock) : Nat :=
  match k.segs with
  | g :: _ => g.target
  | [] => 0

/-- The target advance in force (R56). -/
def PartnerClock.target (k : PartnerClock) : Nat := k.whole * 16384 + k.phase

/-- R56, R106: the whole-BT part of the advance in the partner's count of BT `b`. -/
def PartnerClock.wholeAt (k : PartnerClock) (b : Nat) : Nat := ((k.wholes.find? (fun x => decide (x.1 ≤ b))).getD (0, 0)).2

/-- R56, R59: the advance A(b) applied to the edge of BT `b`, which is the local BT `b` less the whole part. DEDUCED: the whole part is the one that the last
SYNC loaded. -/
def PartnerClock.advanceAt (k : PartnerClock) (b : Nat) : Nat := k.wholeAt b * 16384 + k.phaseAt (b - k.wholeAt b)

/-- The stretches that BT no older than `b` can need. -/
def keepSegs (b : Nat) : List AdvSeg → List AdvSeg
  | [] => []
  | g :: t => if g.start ≤ b then [g] else g :: keepSegs b t

/-- R56, R59: a change of advance: the clock moves from where it stands toward the new PHASE; the whole part waits for the next SYNC. -/
def setAdvance (p target : Nat) (s : State) : State :=
  let g := nowGbt s
  modClock p (fun k =>
    let k := { k with whole := target / 16384 }
    if target % 16384 = k.phase then k
    else
      let here := k.phaseAt g
      { k with segs := ⟨g, here, target % 16384⟩ :: keepSegs (g - 512) k.segs, slewing := decide (here ≠ target % 16384) }) s

/-- The whole parts that BT no older than `b` can need. -/
def keepWholes (b : Nat) : List (Nat × Nat) → List (Nat × Nat)
  | [] => []
  | x :: t => if x.1 ≤ b then [x] else x :: keepWholes b t

/-- R56, R106: SYNC has loaded `whole` with the frame mark of local BT `m`: the partner counts m + whole there. -/
def syncLoaded (p m whole : Nat) (s : State) : State :=
  modClock p (fun k =>
    if k.wholes.head?.map (·.2) = some whole then k
    else { k with wholes := (m + whole, whole) :: keepWholes (nowGbt s - 256) k.wholes }) s

/-- R56: the advance that QUO_DL_PHASE names. -/
def dlPhaseAdvance (w : Word) : Nat := fld w 19 14 * 16384 + fld w 13 0

/-- R59: a host write of DELAY takes effect at the next course tick and holds for the target advance in force. DEDUCED: it replaces a measured DELAY
that still waits for that tick, and MEASURED stays as it was. -/
def pdelayWrite (p : Nat) (s : State) : State :=
  modClock p (fun k => { k with pending := some ⟨sfld (cell s .quoPdelay p) 19 0, false, k.target⟩ }) s

/-- R59: the transmitted clock has reached its new PHASE. -/
def dlSlewDone (p : Nat) (s : State) : State :=
  modClock p (fun k => if k.phaseAt (nowGbt s) = k.phase then { k with slewing := false } else k) s

/-- R59: the delay term for a hit of partner `p` named in global BT `b`, limited to the signed 20-bit range, and whether it was. -/
def delayTerm (s : State) (p b : Nat) : Int × Bool :=
  let k := partnerClock s p
  let d := (k.delays.find? (fun g => decide (g.start ≤ b))).getD ⟨0, 0, 0⟩
  let t := d.delay + (k.advanceAt b : Int) - (d.advance : Int)
  (satSigned 20 t, decide (satSigned 20 t ≠ t))

/-! ### At a course tick -/

/-- R41: the course before `c` latches its quality, and course `c` its absolute time; the newest 64 courses are kept. -/
def quoTickLatch (c : Nat) (o : TickObs) (s : State) : State :=
  s.modQuo fun q =>
    let past := match q.courses with
      | h :: t => { h with quality := q.worst } :: t
      | [] => []
    { q with
      tickTime := o.time, tickQuality := q.worst, aMinusB := o.aMinusB
      courses := (⟨c, o.time, 2⟩ :: past).take 64 }

/-- R36: the criteria of LOCKED at a course tick. -/
def lockReady (s : State) (d : Fin 2) : Bool :=
  let q := qdom s d
  q.phase == .tracking && decide (q.phaseRun ≥ 64) && decide (q.goodSyncs ≥ 4) && q.exchangeDone && q.announced &&
    (match q.lastCount with
      | some (_, g) => decide (nowGbt s - g ≤ 4096)
      | none => false)

/-- R36, R46, R47: one domain at a course tick: its run of good phase, and LOCKED with its BT offset set. DEDUCED: the offset is held against that of the
other domain where that one is LOCKED or is the active domain. -/
def quoTickLock (d : Fin 2) (phaseOk : Bool) (s : State) : State :=
  let s := if domTracked s d then modDom d (fun q => { q with phaseRun := if phaseOk then q.phaseRun + 1 else 0 }) s else s
  if lockReady s d then
    let q := qdom s d
    let off : BitVec 64 := match q.lastCount with
      | some (n, g) => BitVec.ofNat 64 n - BitVec.ofNat 64 g
      | none => 0
    let c := nowCourse s
    let s := modDom d (fun q => { q with
      phase := .locked, lockCourse := c, offset := off, offsetValid := true, orbitSeen := false }) s
    let s := event .quoEvt 0 (16 + d.val) s
    let o := qdom s (otherDom d)
    let compared := o.phase == .locked || (s.quo.servo != .free && decide (s.quo.active = otherDom d) && o.offsetValid)
    if compared && o.offset != off then raise Src.timeDomainDisagree 0 [] s else s
  else s

/-- R45: the check of QUO_XO; a fall of XO_OK, or 0 at the first check, raises TIME_XO_FAIL and ends a holdover. -/
def quoTickXo (o : TickObs) (s : State) : State :=
  let anyLocked := (qdom s 0).phase == .locked || (qdom s 1).phase == .locked
  let ok := o.xoPresent && (if anyLocked then o.xoWithin100ppm else o.xoWithin5pct)
  let fails := !ok && (s.quo.xoOk || !s.quo.xoChecked)
  let s1 := s.modQuo fun q => { q with xoOk := ok, xoChecked := true }
  let s2 := if fails then raise Src.timeXoFail 0 [] s1 else s1
  if fails && s2.quo.servo == .holdover then setServo .free s2 else s2

/-- R39: a held QUO_NOMINAL is applied at a tick at whose start the servo is FREE. -/
def quoTickNominal (startFree : Bool) (s : State) : State :=
  match startFree, s.quo.nominalHeld with
  | true, some n => s.modQuo fun q => { q with nominal := n, nominalHeld := none }
  | _, _ => s

/-- A domain's absolute time minus the local time at the tick. -/
def obsDiff (o : TickObs) (d : Fin 2) : Int := if d = 0 then o.aMinusLocal else o.bMinusLocal

/-- R47: the domain's BT offset equals the active domain's. -/
def offsetAgrees (s : State) (d : Fin 2) : Bool := (qdom s d).offset == (qdom s s.quo.active).offset

/-- R50, R51: LOCKED, equal offset, and within QUO_SWITCH_MAX. DEDUCED: what is held against QUO_SWITCH_MAX is the candidate's absolute time minus the
local one. -/
def switchEligible (o : TickObs) (s : State) (d : Fin 2) : Bool :=
  (qdom s d).phase == .locked && offsetAgrees s d && decide ((obsDiff o d).natAbs ≤ (cell s .quoSwitchMax).toNat)

/-- R49: a switch of the active domain: no step, the difference slewed out. -/
def switchTo (d : Fin 2) (auto : Bool) (s : State) : State :=
  let old := s.quo.active
  let s := s.modQuo fun q => { q with active := d, former := if auto then some old else none, bothLost := false, slewing := true }
  let s := raise Src.timeSwitch 0 [] (event .quoEvt 0 20 s)
  match s.quo.servo with
  | .locked | .holdover => setServo .locked s
  | _ => s

/-- R38: the active domain returns from HOLDOVER: the difference is slewed out and TIME_SWITCH raised as for a switch-over. -/
def holdoverReturn (s : State) : State :=
  raise Src.timeSwitch 0 [] (setServo .locked (s.modQuo fun q => { q with slewing := true, bothLost := false }))

/-- R38: while FREE the first LOCKED domain, A before B, becomes active and the servo enters ACQUIRE. DEDUCED: a change of the active domain so made sets
SWITCHED and is no switch of R49, so that TIME_SWITCH is not raised. -/
def servoFreeAcquire (s : State) : State :=
  let take (d : Fin 2) (s : State) : State :=
    let s1 := if d = s.quo.active then s else event .quoEvt 0 20 s
    setServo .acquire (s1.modQuo fun q => { q with active := d, former := none, bothLost := false })
  if (qdom s 0).phase == .locked then take 0 s else if (qdom s 1).phase == .locked then take 1 s else s

/-- The domain of R52: of the domains that have returned to LOCKED, the one that did first, A before B. -/
def firstReturned (s : State) : Option (Fin 2) :=
  match (qdom s 0).phase == .locked, (qdom s 1).phase == .locked with
  | true, true => if (qdom s 0).lockCourse ≤ (qdom s 1).lockCourse then some 0 else some 1
  | true, false => some 0
  | false, true => some 1
  | false, false => none

/-- R38: the active domain, LOCKED since before this tick with the BT offset that it held before the loss, lets the servo return from HOLDOVER. -/
def activeReturns (c : Nat) (s : State) : Bool :=
  let q := qdom s s.quo.active
  s.quo.servo == .holdover && q.phase == .locked && decide (q.lockCourse < c) && q.offset == s.quo.holdOffset

/-- R50, R52, R38: automatic switch, switch after a double loss, switch back, and return from HOLDOVER, in that order of precedence. After a double
loss the domain that returned first is the active one, so that no automatic switch leaves it. DEDUCED: a switch back needs a former automatic switch, and
not AUTO_SWITCH. -/
def servoAutomatic (c : Nat) (o : TickObs) (s : State) : State :=
  let a := s.quo.active
  let b := otherDom a
  let returns := activeReturns c s
  let kept := s.quo.bothLost && firstReturned s == some a
  if s.quo.servo == .holdover && s.quo.bothLost && firstReturned s == some b && offsetAgrees s b then switchTo b true s
  else if s.quo.servo == .holdover && bit (cell s .quoCtl) 0 && !kept && switchEligible o s b then switchTo b true s
  else if bit (cell s .quoCtl) 1 && s.quo.former == some b && decide (c - (qdom s b).lockCourse ≥ 64) && switchEligible o s b then switchTo b false s
  else if returns then holdoverReturn s
  else s

/-- R51: a domain selection that falls due at the tick that starts course `c`; one that is applied decides the tick, also where it names the active
domain. -/
def domainRequest (c : Nat) (o : TickObs) (d : Fin 2) (force : Bool) (s : State) : State × Bool :=
  let ok := (qdom s d).phase == .locked && (force || d == s.quo.active || switchEligible o s d)
  if !ok then (event .quoEvt 0 21 s, false)
  else if d ≠ s.quo.active then (switchTo d false s, true)
  else if activeReturns c s || (force && s.quo.servo == .holdover) then (holdoverReturn s, true)
  else (s, true)

/-- Step 4 of R9 for the Quoin (R38, R49 to R52). `req`: the selection whose course-buffered value took effect at step 3. -/
def quoTickSwitch (c : Nat) (o : TickObs) (req : Option (Fin 2 × Bool)) (s : State) : State :=
  if s.quo.servo == .free then
    let s1 := servoFreeAcquire s
    match req with
    | some (d, _) => if (qdom s1 d).phase == .locked && decide (d = s1.quo.active) then s1 else event .quoEvt 0 21 s1
    | none => s1
  else
    match req with
    | some (d, force) =>
      let r := domainRequest c o d force s
      if r.2 then r.1 else servoAutomatic c o r.1
    | none => servoAutomatic c o s

/-- The DELAY values that BT no older than `b` can need. -/
def keepDelays (b : Nat) : List DelaySet → List DelaySet
  | [] => []
  | g :: t => if g.start ≤ b then [g] else g :: keepDelays b t

/-- R58, R59: a DELAY that waited for the tick takes effect. -/
def quoTickDelay (p : Nat) (s : State) : State :=
  match (partnerClock s p).pending with
  | some d =>
    let s1 := modClock p (fun k => { k with
      delays := ⟨nowGbt s, d.delay, d.advance⟩ :: keepDelays (nowGbt s - 256) k.delays
      measured := k.measured || d.measured, pending := none }) s
    modCell .quoPdelay p 0 (fun w => setFld w 19 0 (unsigned 20 d.delay)) s1
  | none => s

/-- The partners whose DELAY takes effect at this tick. -/
def delayDue (s : State) : List Nat := (s.quo.clocks.filter (fun e => e.2.pending.isSome)).map (·.1)

/-- R41: the course that begins starts from the servo's quality at the end of the tick's steps. -/
def quoTickWorst (s : State) : State := s.modQuo fun q => { q with worst := servoQuality s }

/-- R43: the holdover has lasted longer than QUO_HOLD_LIMIT courses. -/
def holdExpired (s : State) : State :=
  if s.quo.servo == .holdover && !s.quo.holdExpired && decide (nowCourse s - s.quo.holdStart > fld (cell s .quoHoldLimit) 23 0) then
    raise Src.timeHoldExpired 0 [] (event .quoEvt 0 22 (s.modQuo fun q => { q with holdExpired := true, worst := max q.worst 2 }))
  else s

/-- R40: the pull onto the active domain is complete. -/
def acquireComplete (s : State) : State :=
  if s.quo.servo == .acquire && (qdom s s.quo.active).phase == .locked then setServo .locked s else s

/-- R49: the difference of a switch has been slewed out. -/
def slewComplete (s : State) : State := s.modQuo fun q => { q with slewing := false }

/-! ### Power of a quoin link (R35) -/

/-- The link's power domain begins to leave ON. -/
def quoLinkLeaving (d : Fin 2) (s : State) : State := lossOfSignal d s

/-- The link's power domain has reached OFF or HOLD. -/
def quoLinkOff (d : Fin 2) (s : State) : State := modDom d (fun q => { q with phase := .off, aligned := false }) s

/-- The link's power domain has reached ON. -/
def quoLinkOn (d : Fin 2) (s : State) : State := enterAligning d false s

end Sys2Proof.Machine
end

