-- ==== Sys2Proof/Machine/Downlinks.lean ====
section
/-!
DEFINITION. Downlinks: frames and their fast command, block field and marker; equalisation settings; PLL squelch (chapters 04, 05).
-/
namespace Sys2Proof.Machine

/-- The power domain of a downlink's group (R65, R418). -/
def dlDomain (d : Nat) : Nat := 32 + d / 8

/-- R87: the downlink sends frames. -/
def dlSending (s : State) (d : Nat) : Bool :=
  domOn s (dlDomain d) && bit (cell s .bedDlCfg d) 0 && (downlink s d).pll

/-- The global BT whose edge the next frame mark to leave precedes: the first multiple of 5 whose edge, moved earlier by the
PHASE part of the advance, which is what the transmitter applies, lies at or after the start of this BT (R56, R68). -/
def nextMark (s : State) (d : Nat) : Nat :=
  alignUp 5 (nowGbt s + ((partnerClock s d).phaseAt (nowGbt s) + 16383) / 16384)

/-- R105: a fast command's six characters. -/
def fastBytes (code arg : Nat) : List Byte :=
  let b := BitVec.ofNat 8 code :: beBytes 4 arg
  b ++ [crc8 b]

/-- WHOLE_BT of a downlink's partner (R56). -/
def wholeBt (s : State) (d : Nat) : Nat := fld (cell s .quoDlPhase d) 19 14

/-- R106: the argument of SYNC for the frame mark of BT `m`. -/
def syncArg (s : State) (d m : Nat) : Nat := (m + wholeBt s d) % 2 ^ 32

/-- R106: the frame for mark `m` carries SYNC: the first after the downlink begins sending, and every 64th. -/
def syncDue (s : State) (d m : Nat) : Bool := (downlink s d).fresh || decide (m % 320 = 0)

/-- R106, R107: the fast command of the frame for mark `m`, and the downlink without the command taken. -/
def takeFast (s : State) (d m : Nat) : Option (List Byte) × Downlink :=
  let k := downlink s d
  if syncDue s d m then (some (fastBytes 1 (syncArg s d m)), k)
  else
    match k.restarts, k.actives, k.host with
    | i :: t, _, _ => (some (fastBytes 2 i), { k with restarts := t })
    | [], i :: t, _ => (some (fastBytes 3 i), { k with actives := t })
    | [], [], some (c, a) => (some (fastBytes c a.toNat), { k with host := none })
    | [], [], none => (none, k)

/-- The lane of a bound partner with LANE_INDEX 0. -/
def firstLane (s : State) (p : Nat) : Option Nat := (partner s p).binding.map (·.firstLane)

/-- R78: the Portik's capability record on downlink `d`. -/
def ownRecord (s : State) (d : Nat) : List Byte :=
  let pe := match firstLane s d with
    | some l => fld (cell s .bedLaneCfg l) 15 12
    | none => 0
  beBytes 2 (fld (cell s .hstDeviceId) 15 0) ++ [0x12, BitVec.ofNat 8 d] ++ [BitVec.ofNat 8 pe, BitVec.ofNat 8 (fld (cell s .bedDlCfg d) 16 16)]
    ++ beBytes 10 0

/-- R78: the exchange block. -/
def ownExchange (s : State) (d : Nat) : List Byte := ownRecord s d ++ crcBytes (ownRecord s d)

/-- R108: a configuration block. -/
def cfgBlock (x : CfgTx) : List Byte :=
  let b := [BitVec.ofNat 8 (x.op * 16 + x.tag), 0] ++ beBytes 4 x.addr.toNat ++ beBytes 4 x.data.toNat ++ beBytes 4 x.mask.toNat ++ beBytes 4 0
  b ++ crcBytes b

/-- R108: the block field carries the exchange block while any of the partner's lanes is in EXCHANGE. -/
def blockBusy (s : State) (p : Nat) : Bool := (partnerLanes s p).any (fun l => (lane s l).phase == .exchange)

/-- R104, R108: the block field of a frame, and a transaction marked sent at mark `m`. -/
def takeBlock (d m : Nat) (s : State) : DlBlock × State :=
  if blockBusy s d then (.exchange (ownExchange s d), s)
  else
    match (partner s d).cfg with
    | some x =>
      if x.sent.isNone then (.config (cfgBlock x), modPartner d (fun p => { p with cfg := some { x with sent := some m } }) s)
      else (.empty, s)
    | none => (.empty, s)

/-- R57: the marker of a frame, and the next one due; 64 markers are sent. -/
def takeMarker (k : Downlink) : Option Nat × Downlink :=
  match k.marker with
  | some n => (some n, { k with marker := if n + 1 < 64 then some (n + 1) else none })
  | none => (none, k)

/-- R71 to R73: the transmitter settings that apply from a frame mark on: PRE and POST are 0 while the partner equalises. -/
def dlApplied (s : State) (d : Nat) : Word :=
  let w := cell s .bedDlCfg d
  if (downlink s d).eqEnd && !(downlink s d).eqFallback then setFld (setFld w 11 8 0) 6 4 0 else w

/-- R68, R104: one downlink frame; a downlink that does not send forms none. -/
def downlinkFrame (d : Nat) (s : State) : State :=
  if dlSending s d then
    let m := nextMark s d
    let (fast, k) := takeFast s d m
    let (blk, s1) := takeBlock d m s
    let (mk, k) := takeMarker k
    let s2 := modDl d (fun _ => { k with fresh := false, squelched := false, applied := dlApplied s d, last := some ⟨m, fast, blk, mk⟩ }) s1
    let s3 := if k.squelched then event .bedDlEvt d 16 s2 else s2
    if syncDue s d m then syncLoaded d m (wholeBt s d) s3 else s3
  else s

/-- R77: restart requests fall due for each of the partner's lanes in TRAIN, LOCK or EXCHANGE. -/
def restartRequests (d : Nat) (s : State) : State :=
  forL (partnerLanes s d) (fun l t =>
    match (lane t l).phase with
    | .train | .lock | .exchange => restartDue l t
    | _ => t) s

/-- R107: a write of BED_DL_FC. DEDUCED (log entry 178): the pending command keeps the argument that BED_DL_FC_ARG holds at the write. -/
def dlFcWrite (d : Nat) (w : Word) (s : State) : State :=
  if bit w 31 && (downlink s d).host.isNone && decide (0x10 ≤ fld w 7 0) && decide (fld w 7 0 ≤ 0x1F) then
    modDl d (fun k => { k with host := some (fld w 7 0, cell s .bedDlFcArg d) }) s
  else s

/-- R71: the stored BED_DL_CFG: POST limited so that PRE + POST does not exceed 16. R106: sending that stops begins afresh. -/
def dlCfgWritten (d : Nat) (s : State) : State :=
  let w := cell s .bedDlCfg d
  let s1 := if fld w 6 4 + fld w 11 8 > 16 then setCell .bedDlCfg d 0 (setFld w 11 8 (16 - fld w 6 4)) s else s
  if bit w 0 then s1 else modDl d (fun k => { k with fresh := true }) s1

/-- R87: the transmit PLL unlocks. -/
def dlPllUnlock (d : Nat) (s : State) : State :=
  if domOn s (dlDomain d) && (downlink s d).pll then
    let s := modDl d (fun k => { k with pll := false, fresh := true, squelched := true }) s
    let s := event .bedDlEvt d 18 (count .bedDlStat d 15 8 1 s)
    raise Src.dlPllUnlock d [w32 d] s
  else s

/-- R87: the transmit PLL locks again: sending resumes at the next frame mark. -/
def dlPllRelock (d : Nat) (s : State) : State :=
  if domOn s (dlDomain d) then modDl d (fun k => { k with pll := true }) s else s

/-- R418: a downlink group has come ON: its PLLs lock and frames start, opening with SYNC. -/
def dlGroupUp (h : Nat) (s : State) : State := forN 8 (fun k => modDl (8 * h + k) (fun x => { x with pll := true, fresh := true })) s

/-- A downlink group leaves ON: electrical idle (R87). -/
def dlGroupDown (h : Nat) (s : State) : State := forN 8 (fun k => modDl (8 * h + k) (fun x => { x with pll := false, fresh := true, squelched := false })) s

/-! ### Delay measurement (R57, R58) -/

/-- Sum of a list. -/
def sumL (l : List Nat) : Nat := l.foldl (· + ·) 0

/-- R58: the 64 round trips spread by more than 16 fu rms about their mean: 64 Σx² − (Σx)² > 16² × 64². -/
def spreadBad (l : List Nat) : Bool :=
  decide (64 * sumL (l.map (fun x => x * x)) > sumL l * sumL l + 256 * 4096)

/-- R57: F in fu from the sum of 64 round trips, rounded to the nearest, ties away from zero. -/
def flight (sum tTurn : Nat) (asym : Int) : Int := divRound ((sum : Int) - 64 * ((tTurn : Int) + asym)) 128

/-- R58: the end of a partner's 64 rounds: its result, or the reason of refusal (3 spread, 4 flight out of range, 5 DELAY out of
range). A negative F has no advance and is out of range. DESIGN CHOICE (log entry 160): the mean that QUO_PRTT takes is rounded to the nearest, as R57
states for F only. -/
def finishMeasure (p : Nat) (l : List Nat) (s : State) : State :=
  let s := s.modQuo fun q => { q with rounds := smErase q.rounds p }
  let refuse := fun (r : Nat) => s.modQuo fun q => { q with measured := smInsert q.measured p r }
  let tTurn := match (partner s p).binding with
    | some b => recTTurn b.record
    | none => 0
  let f := flight (sumL l) tTurn (sfld (cell s .quoPasym p) 19 0)
  let align := !bit (cell s .quoDlPhase p) 20
  let a : Int := if align then f else ((partnerClock s p).target : Int)
  let d := a - f + sfld (cell s .quoPtrim p) 15 0
  if spreadBad l then refuse 3
  else if f < 0 ∨ f > 63 * 16384 + 16383 then refuse 4
  else if satSigned 20 d ≠ d then refuse 5
  else
    let s := modCell .quoPrtt p 0 (fun w => setFld w 23 0 (divRound (sumL l : Nat) 64).toNat) (refuse 0)
    let s := if align then
        setAdvance p f.toNat (modCell .quoDlPhase p 0 (fun w => setFld (setFld w 19 14 (f.toNat / 16384)) 13 0 (f.toNat % 16384)) s)
      else s
    modClock p (fun k => { k with pending := some ⟨d, true, k.target⟩ }) s

/-- R57: an echo of marker `n` on the partner's lane with LANE_INDEX 0: its round trip is taken in order; the 64th ends the
measurement. -/
def echoReceived (l n trip : Nat) (s : State) : State :=
  match (lane s l).partner with
  | some p =>
    match smFind s.quo.rounds p with
    | some r =>
      if (lane s l).phase == .active && laneIndex s l = 0 && r.length = n then
        let r' := r ++ [trip]
        if r'.length = 64 then finishMeasure p r' s
        else s.modQuo fun q => { q with rounds := smInsert q.rounds p r' }
      else s
    | none => s
  | none => s

/-- R57, R85: a measurement of partner `p` begins; one not bound, or whose first lane is not ACTIVE, is refused with reason 1. -/
def startMeasure (p : Nat) (s : State) : State :=
  match firstLane s p with
  | some l =>
    if (lane s l).phase == .active then
      modDl p (fun k => { k with marker := some 0 })
        (s.modQuo fun q => { q with rounds := smInsert q.rounds p [], measured := smErase q.measured p })
    else s.modQuo fun q => { q with measured := smInsert q.measured p 1 }
  | none => s.modQuo fun q => { q with measured := smInsert q.measured p 1 }

/-- A measurement whose echoes are missing ends with reason 6. -/
def abandonMeasure (p : Nat) (s : State) : State :=
  if (smFind s.quo.rounds p).isSome then
    modDl p (fun k => { k with marker := none })
      (s.modQuo fun q => { q with rounds := smErase q.rounds p, measured := smInsert q.measured p 6 })
  else s

end Sys2Proof.Machine
end

