-- ==== Sys2Proof/Machine/Tables.lean ====
section
/-!
DEFINITION. Protected SRAM blocks (R323 to R327), the table banks of a group and their lookups (R125 to R131), bank changes at a
course tick (R126, R130), the restore queue (R330).
-/
namespace Sys2Proof.Machine

/-! ### The parity block (R323, R324) -/

/-- Byte `r` of a block. -/
def rowByte (d : DWord) (r : Nat) : Byte := (d >>> (8 * r)).setWidth 8

/-- R323: the column parities, the exclusive OR of the eight bytes. -/
def columnParity (d : DWord) : Byte := (List.range 8).foldl (fun x r => x ^^^ rowByte d r) 0

/-- R323: the row parities, bit r the exclusive OR of the bits of byte r. -/
def rowParity (d : DWord) : Byte :=
  BitVec.ofNat 8 ((List.range 8).foldl (fun x r => x + if parityN 8 (rowByte d r).toNat then 2 ^ r else 0) 0)

/-- R323: the 16 check bits: row parities above column parities. -/
def checkBits (d : DWord) : BitVec 16 := rowParity d ++ columnParity d

/-- What a read of a stored block finds (R324), with the syndrome of a correction: rows [15:8], columns [7:0]. -/
inductive BlockOutcome where
  | clean (d : DWord)
  | corrected (d : DWord) (syndrome : Nat)
  | uncorrectable
  deriving DecidableEq, Repr

/-- R324: the outcome of a read. -/
def readOutcome (d : DWord) (c : BitVec 16) : BlockOutcome :=
  let syn := c ^^^ checkBits d
  let rs := syn.toNat / 256
  let cs := syn.toNat % 256
  match popCount 8 rs, popCount 8 cs with
  | 0, 0 => .clean d
  | 1, 1 =>
    let b := 8 * (lowestBit 8 rs).getD 0 + (lowestBit 8 cs).getD 0
    .corrected (d ^^^ (1 <<< b)) syn.toNat
  | 1, 0 => .corrected d syn.toNat
  | 0, 1 => .corrected d syn.toNat
  | _, _ => .uncorrectable

/-! ### Memories and their reports (R327) -/

/-- R310, R327: the block whose SRAM a memory and its number name. -/
def memTarget (mem inst : Nat) : Target :=
  if mem = 0 ∨ mem = 1 then .bedGroup inst
  else if mem = 2 ∨ mem = 4 then .quarter inst
  else if mem = 3 then .mortar inst
  else if mem = 5 then .engine inst
  else if mem = 7 then .quarryCtl inst
  else if mem = 8 then .lintel
  else if mem = 9 then .plumb
  else .none

/-- R327: a correction is counted, and raises MEM_SRAM_CORR once per memory and number in a course. -/
def sramCorrected (mem inst blk syn master access : Nat) (s : State) : State :=
  let s := count .memCntCorr mem 31 0 1 s
  if s.mem.corrRaised.contains (mem, inst) then s
  else
    raise Src.memSramCorr inst [w32 mem, w32 inst, w32 blk, w32 syn]
      { s with mem := { s.mem with corrRaised := (mem, inst) :: s.mem.corrRaised } } (memTarget mem inst) master access

/-- R327: an uncorrectable block is counted, and raises MEM_SRAM_UNCORR except in the memories that have a source of their own. -/
def sramUncorrected (mem inst blk master access : Nat) (s : State) : State :=
  let s := count .memCntUncorr mem 31 0 1 s
  if mem = 2 ∨ mem = 3 ∨ mem = 8 then s
  else raise Src.memSramUncorr inst [w32 mem, w32 inst, w32 blk] (event .memEvt 0 17 s) (memTarget mem inst) master access

/-- R326: a read of an EMPTY block (bit 31) or of a DAMAGED one (bit 30) is recorded. -/
def recordBadRead (b mem inst blk : Nat) (s : State) : State :=
  let s := modCell .memLastRead 0 0 (fun w => setFld (setFld w 29 24 mem) 23 16 inst) s
  event .memLastRead 0 b (setCell .memLastAddr 0 0 (w32 blk) s)

/-- R325, R326: a read of a block in some state: `good` where it is GOOD; that of an EMPTY or DAMAGED block is recorded, that of a WRITING one is not. -/
def badReadOr (ph : BlockPhase) (mem inst blk : Nat) (good : State → State) (s : State) : State :=
  match ph with
  | .empty => recordBadRead 31 mem inst blk s
  | .damaged => recordBadRead 30 mem inst blk s
  | .writing => s
  | .good => good s

/-! ### Blocks of memories 2 to 10 (R323 to R327, R339) -/

/-- Key of a block. -/
def eccKey (mem inst blk : Nat) : Nat := (mem * 64 + inst) * 1048576 + blk

/-- A block's state and inverted bits. -/
def eccBlock (s : State) (mem inst blk : Nat) : EccBlock := smGet .blank s.mem.ecc (eccKey mem inst blk)

/-- Store a block's state and inverted bits. -/
def setEcc (mem inst blk : Nat) (x : EccBlock) (s : State) : State :=
  { s with mem := { s.mem with ecc := smPut .blank s.mem.ecc (eccKey mem inst blk) x } }

/-- The range [a, b) joins a rising list of ranges that neither meet nor touch. -/
def addSpan (a b : Nat) : List (Nat × Nat) → List (Nat × Nat)
  | [] => [(a, b)]
  | (x, y) :: t => if b < x then (a, b) :: (x, y) :: t else if y < a then (x, y) :: addSpan a b t else addSpan (min a x) (max b y) t

/-- A list of ranges without [a, b). -/
def cutSpan (a b : Nat) (l : List (Nat × Nat)) : List (Nat × Nat) :=
  l.flatMap fun e => (if e.1 < min e.2 a then [(e.1, min e.2 a)] else []) ++ (if max e.1 b < e.2 then [(max e.1 b, e.2)] else [])

/-- R325: the block has been written since its memory was powered. -/
def eccWritten (s : State) (mem inst blk : Nat) : Bool :=
  s.mem.written.any (fun e => decide (e.1 ≤ eccKey mem inst blk) && decide (eccKey mem inst blk < e.2))

/-- R339: the bits that an armed injection inverts in the next block written to a memory. -/
def eccInjected (s : State) (mem inst : Nat) : Option (BitVec 80) :=
  match s.mem.inject with
  | some i =>
    if i.memory = mem ∧ i.inst = inst ∧ bit (cell s .memCtl) 0 then
      some ((1 <<< i.bitA) ^^^ (match i.bitB with | some k => 1 <<< k | none => 0))
    else none
  | none => none

/-- R324: what a read of a block delivers differs from the data written by these bits: an error that is corrected wrongly, or not told from one in a check
bit. -/
def eccDelta (s : State) (mem inst blk : Nat) : DWord :=
  let x := eccBlock s mem inst blk
  match readOutcome (x.flips.setWidth 64) ((x.flips >>> 64).setWidth 16) with
  | .clean d => d
  | .corrected d _ => d
  | .uncorrectable => 0

/-- The words of a list, from place `i` on, as reads of their blocks deliver them. -/
def skewWords (delta : Nat → DWord) : Nat → List DWord → List DWord
  | _, [] => []
  | i, w :: l => (w ^^^ delta i) :: skewWords delta (i + 1) l

/-- R325, R339: `n` whole blocks from block `blk` on are written and become GOOD; an injection armed for their memory inverts bits of the first. -/
def eccWrites (mem inst blk n : Nat) (s : State) : State :=
  if n = 0 then s
  else
    let k := eccKey mem inst blk
    let f := eccInjected s mem inst
    setEcc mem inst blk ⟨.good, f.getD 0⟩ { s with mem := { s.mem with
      inject := if f.isSome then none else s.mem.inject
      written := addSpan k (k + n) s.mem.written
      ecc := s.mem.ecc.filter (fun e => !(decide (k < e.1) && decide (e.1 < k + n))) } }

/-- R325, R339: one block is written. -/
def eccWrite (mem inst blk : Nat) (s : State) : State := eccWrites mem inst blk 1 s

/-- R325: a block becomes DAMAGED, one that was EMPTY too. -/
def eccDamage (mem inst blk : Nat) (s : State) : State :=
  let k := eccKey mem inst blk
  setEcc mem inst blk ⟨.damaged, 0⟩ { s with mem := { s.mem with written := addSpan k (k + 1) s.mem.written } }

/-- R324 to R326: a read of a block: whether its content is delivered; `eccDelta` gives the bits in which it then differs. -/
def eccRead (mem inst blk master access : Nat) (s : State) : Bool × State :=
  let x := eccBlock s mem inst blk
  match x.phase with
  | .empty => (false, recordBadRead 31 mem inst blk s)
  | .damaged => (false, recordBadRead 30 mem inst blk s)
  | .writing => (false, s)
  | .good =>
    match readOutcome (x.flips.setWidth 64) ((x.flips >>> 64).setWidth 16) with
    | .clean _ => (true, s)
    | .corrected _ syn => (true, sramCorrected mem inst blk syn master access s)
    | .uncorrectable => (false, sramUncorrected mem inst blk master access (eccDamage mem inst blk s))

/-- Read blocks in order; whether all of them are delivered. -/
def eccReads (mem inst master access : Nat) : List Nat → State → Bool × State
  | [], s => (true, s)
  | b :: l, s =>
    let r := eccRead mem inst b master access s
    let t := eccReads mem inst master access l r.2
    (r.1 && t.1, t.2)

/-- The blocks of a memory that are not as written, of those that hold something now: the only ones whose read does more than deliver. -/
def eccMarked (s : State) (mem inst : Nat) (held : Nat → Bool) : List Nat :=
  (s.mem.ecc.filter (fun e => decide (e.1 / 1048576 = mem * 64 + inst) && held (e.1 % 1048576))).map (fun e => e.1 % 1048576)

/-- R324 to R326: the reader of a memory meets those of the blocks it takes that are not as written; `act`: what it does with one not delivered. -/
def eccVisit (mem inst master access : Nat) (held : Nat → Bool) (act : Nat → State → State) (s : State) : State :=
  forL (eccMarked s mem inst held) (fun b t =>
    let r := eccRead mem inst b master access t
    if r.1 then r.2 else act b r.2) s

/-- Two bits of a block have been inverted by an upset; a block that is not GOOD stays as it is. -/
def eccUpset (mem inst blk : Nat) (s : State) : State :=
  if (eccBlock s mem inst blk).phase == .good then setEcc mem inst blk ⟨.good, 3⟩ s else s

/-- R325: a state parity failure: the 32 blocks around `blk` become DAMAGED. -/
def eccParity (mem inst blk : Nat) (s : State) : State := forN 32 (fun i => eccDamage mem inst (blk / 32 * 32 + i)) s

/-- R325: a memory has been without power: its blocks are EMPTY. -/
def eccEmptied (mem inst : Nat) (s : State) : State :=
  { s with mem := { s.mem with
    ecc := s.mem.ecc.filter (fun e => decide (e.1 / 1048576 ≠ mem * 64 + inst))
    written := cutSpan (eccKey mem inst 0) (eccKey mem inst 1048576) s.mem.written } }

/-! ### Table banks -/

/-- Blocks of one group's table SRAM: 131,072 of the offset store, then 8,192 of the walk store. -/
abbrev groupBlocks : Nat := 139264
/-- Blocks of the offset store. -/
abbrev ofsBlocks : Nat := 131072

/-- The stored block `b` of group `g`. -/
def tblock (s : State) (g b : Nat) : SramBlock := smGet .blank s.sram (g * groupBlocks + b)

/-- Store a block. -/
def setTblock (g b : Nat) (x : SramBlock) (s : State) : State := { s with sram := smPut .blank s.sram (g * groupBlocks + b) x }

/-- The memory and the block index within it of block `b` of a group (R327). -/
def blockMemory (b : Nat) : Nat × Nat := if b < ofsBlocks then (0, b) else (1, b - ofsBlocks)

/-- R339: the stored bits of a block written while an injection is armed for its memory, and the injection used up. -/
def injectInto (mem inst : Nat) (x : SramBlock) (s : State) : SramBlock × State :=
  match s.mem.inject with
  | some i =>
    if i.memory = mem ∧ i.inst = inst ∧ bit (cell s .memCtl) 0 then
      let flip := fun (n : Nat) (y : SramBlock) =>
        if n < 64 then { y with data := y.data ^^^ (1 <<< n) } else { y with check := y.check ^^^ (1 <<< (n - 64)) }
      let y := flip i.bitA x
      (match i.bitB with | some b => flip b y | none => y, { s with mem := { s.mem with inject := none } })
    else (x, s)
  | none => (x, s)

/-- R325: a whole block is written and becomes GOOD. -/
def writeTblock (g b : Nat) (d : DWord) (s : State) : State :=
  let r := injectInto (blockMemory b).1 g ⟨.good, d, checkBits d⟩ s
  setTblock g b r.1 r.2

/-- The archive granule of block `b`, of the group's 272 (R329). -/
def blockGranule (b : Nat) : Nat := b / 512

/-- R330, R331: a DAMAGED block joins the restore queue unless it stands there, the queue is full, or its restore has failed. -/
def queueRestore (g b : Nat) (s : State) : State :=
  if s.mem.restore.contains (g, b) || decide (128 ≤ s.mem.restore.length) || smGet false s.mem.restoreFailed (g * groupBlocks + b) then s
  else { s with mem := { s.mem with restore := s.mem.restore ++ [(g, b)] } }

/-- R325, R327, R330: block `b` of group `g` is found uncorrectable. -/
def damageTblock (g b master access : Nat) (s : State) : State :=
  let m := blockMemory b
  queueRestore g b (sramUncorrected m.1 g m.2 master access (setTblock g b { tblock s g b with phase := .damaged } s))

/-- R324 to R326: a read of a table block: its data, or none where the reader is told that it is invalid. A DAMAGED block that found the restore
queue full is queued again by the scrub (R330). -/
def readTblock (g b master access : Nat) (s : State) : Option DWord × State :=
  let x := tblock s g b
  let m := blockMemory b
  match x.phase with
  | .empty => (none, recordBadRead 31 m.1 g m.2 s)
  | .damaged =>
    let s := recordBadRead 30 m.1 g m.2 s
    (none, if master = 4 then queueRestore g b s else s)
  | .writing => (none, s)
  | .good =>
    match readOutcome x.data x.check with
    | .clean d => (some d, s)
    | .corrected d syn => (some d, sramCorrected m.1 g m.2 syn master access s)
    | .uncorrectable => (none, damageTblock g b master access s)

/-- Entry `i` of a store of 16-bit entries that begins at block `base`: least significant byte first. -/
def readEntry (g base i : Nat) (s : State) : Option Int × State :=
  let r := readTblock g (base + i / 4) 5 1 s
  (r.1.map (fun (d : DWord) => signed 16 (d.toNat / 2 ^ (16 * (i % 4)))), r.2)

/-- The group is in dual mode (R126). -/
def dualMode (s : State) (g : Nat) : Bool := bit (inForce s .ashTgCfg g) 0

/-- R130: the banks in force at the tick that began course `c`. -/
def banksAt (s : State) (g c : Nat) : BankSel :=
  (((tgroup s g).sels.find? (fun b => decide (b.course ≤ c)))).getD ⟨0, 0, 0⟩

/-- R126: the offset store address of a table index, if it has one, in the mode in force. -/
def ofsAddress (s : State) (g c idx : Nat) : Option Nat :=
  if dualMode s g then (if idx < 262144 then some ((banksAt s g c).ofsBank * 262144 + idx) else none)
  else if idx < 524288 then some idx else none

/-- R127: the walk store entry number of a region and charge code, for a named course. -/
def walkAddress (s : State) (g c region q : Nat) : Nat := (banksAt s g c).walkBank * 16384 + region * 256 + q

/-- Invalidate the offset blocks from `a` up to the end of the store (R126): they become EMPTY. -/
def emptyOffsets (g a : Nat) (s : State) : State :=
  { s with
    sram := s.sram.filter (fun e => !(decide (g * groupBlocks + a ≤ e.1) && decide (e.1 < g * groupBlocks + ofsBlocks)))
    mem := { s.mem with restore := s.mem.restore.filter (fun r => !(r.1 == g && decide (a ≤ r.2) && decide (r.2 < ofsBlocks))) } }

/-- R126, R130: the banks of group `g` at the tick of course `c`, after the course-buffered writes: `dual` and `ofs` are the mode
and offset bank in force before. DESIGN CHOICE (log entry 181): a mode change that sets OFS_BANK from 1 to 0 is a change of the bank, and sets PREV_BUSY as
a swap does. -/
def bankTick (g c : Nat) (dual : Bool) (ofs : Nat) (s : State) : State :=
  let now := dualMode s g
  let s := if !dual && now then emptyOffsets g (ofsBlocks / 2) s
    else if dual && !now then emptyOffsets g (if ofs = 0 then ofsBlocks / 2 else 0) s
    else s
  let s := if (!dual && now) || (dual && !now && decide (ofs = 1)) then
      setCb .ashCalSel g ((cbReg s .ashCalSel g).setBoth (setFld (inForce s .ashCalSel g) 0 0 0)) s
    else s
  let w := inForce s .ashCalSel g
  let new : BankSel := ⟨c, if now then fld w 0 0 else 0, fld w 1 1⟩
  let old := banksAt s g c
  if old.ofsBank = new.ofsBank ∧ old.walkBank = new.walkBank then s
  else modGroup g (fun t =>
    { t with
      sels := (new :: t.sels).take 8
      ofsPrevBusy := if old.ofsBank = new.ofsBank then t.ofsPrevBusy else some c
      walkPrevBusy := if old.walkBank = new.walkBank then t.walkPrevBusy else some c }) s

/-- R130: PREV_BUSY of a group's former banks ends at the tick of the change's course plus 2. -/
def prevBusyEnd (g : Nat) (s : State) : State :=
  let ends := fun (x : Option Nat) => match x with
    | some c => if c + 2 ≤ nowCourse s then none else some c
    | none => none
  modGroup g (fun t => { t with ofsPrevBusy := ends t.ofsPrevBusy, walkPrevBusy := ends t.walkPrevBusy }) s

end Sys2Proof.Machine
end

