-- ==== Sys2Proof/Machine/Burir.lean ====
section
/-!
DEFINITION. What partners send: Burir frames, their checks, policing, missing spans, the crossbar; configuration responses; the
partner map at a course tick (chapters 05 and 06).
-/
namespace Sys2Proof.Machine

/-- The field [hi:lo] of a number. -/
def nfld (w hi lo : Nat) : Nat := w / 2 ^ lo % 2 ^ (hi + 1 - lo)

/-- Bit `b` of a number. -/
def nbit (w b : Nat) : Bool := nfld w b b == 1

/-- The binding of a partner, with lanes and record; a partner not bound reads as zeros. -/
def bindingOf (s : State) (p : Nat) : Binding := ((partner s p).binding).getD ⟨0, 0, 0, 0, false⟩

/-! ### Policing (R113, R115) -/

/-- R480: of several offences in one core cycle the lowest code is given: a report of this core cycle on its way takes it. -/
def lowestKind (p kind : Nat) (now : Stamp) (r : Report) : Report :=
  if r.source = Src.bedPartnerOffence ∧ r.index = p ∧ r.stamp = now ∧ kind < ((r.capture.getD 1 0).toNat) then
    { r with capture := r.capture.set 1 (w32 kind) }
  else r

/-- R115, R118: an offence of partner `p`; the first of a course that follows a tick with OFFENCES 0 raises
BED_PARTNER_OFFENCE. Kinds by R480: 1 malformed, 2 word error, 3 hit-cap discard, 4 missing span. -/
def offence (p kind : Nat) (s : State) : State :=
  let x := partner s p
  if x.offended then
    let f := lowestKind p kind (nowStamp s)
    s.modFlt fun x => { x with flying := x.flying.map f, held := x.held.map f }
  else
    let s1 := modPartner p (fun x => { x with offended := true }) s
    if x.offences = 0 then
      raise Src.bedPartnerOffence p ([w32 p, w32 kind] ++ capCourse (nowCourse s)) s1 (partnerTarget s p)
    else s1

/-- R101, R116: items of partner `p` discarded as word errors, with the named range. -/
def wordError (p first last n : Nat) (s : State) : State :=
  offence p 2 (account p 4 first last n (count .bedPcntFrame p 15 0 n s))

/-- R102: a malformed frame is counted and is an offence; its account follows unless it has none. -/
def malformed (p : Nat) (acct : Option (Nat × Nat × Nat)) (s : State) : State :=
  let s := event .bedPevt p 16 (count .bedPcntFrame p 31 16 1 s)
  let s := match acct with
    | some (first, last, n) => account p 3 first last n s
    | none => s
  offence p 1 s

/-- R102: a configuration response frame malformed with reason RESPONSE is counted only. -/
def malformedResponse (p : Nat) (s : State) : State := event .bedPevt p 16 (count .bedPcntFrame p 31 16 1 s)

/-- R102: the range of a malformed frame whose span cannot be trusted. -/
def untrustedRange (s : State) (n : Nat) : Nat × Nat × Nat := (nowGbt s - 120, nowGbt s + 47, n)

/-- R114: span `x` of lane `l` is declared missing. -/
def declareMissing (l p x : Nat) (s : State) : State :=
  let s := modLane l (fun y => { y with missing := x :: y.missing.filter (fun z => decide (x < z + 32768)) }) s
  let s := event .bedPevt p 17 (count .bedPcntSpan p 31 16 1 s)
  offence p 4 (account p 6 x (x + 15) cntUnknown s)

/-- R114: an accepted data frame for span `x` starts the check, or declares the unseen spans before it missing. -/
def spanSeen (l p x : Nat) (s : State) : State :=
  let s1 := match (lane s l).checkFrom with
    | some c => forN ((x - c) / 16) (fun i t => declareMissing l p (c + 16 * i) t) s
    | none => s
  modLane l (fun y => { y with
    noData := false, lastSpan := some x
    checkFrom := match y.checkFrom with
      | some c => some (max c (x + 16))
      | none => some (x + 16) }) s1

/-- R114: the oldest unseen span of the lane lies more than 120 BT behind: declared missing. -/
def spanTimeout (l : Nat) (s : State) : State :=
  if (lane s l).phase == .active && !dpStopped s then
    match (lane s l).checkFrom, (lane s l).partner with
    | some c, some p =>
      if c + 120 < nowGbt s then modLane l (fun y => { y with checkFrom := some (c + 16) }) (declareMissing l p c s) else s
    | _, _ => s
  else s

/-! ### The crossbar (R28, R136, R140) -/

/-- The positions of an engine's queue that an item takes: 1 for a hit word, 4 or 8 for a waveform group (R137). -/
def itemWeight (x : HitItem) : Nat :=
  match x.wave with
  | some (_, _, l) => if l.length > 16 then 8 else 4
  | none => 1

/-- Hit words in an engine's input queue. -/
def queueFill (e : Engine) : Nat := sumL (e.queue.map itemWeight)

/-- The position of the queue that the next item takes. -/
def nextSlot (e : Engine) : Nat := match e.queue.getLast? with | some x => (x.slot + itemWeight x) % 2048 | none => 0

/-- Position `b` of the queue holds a part of an item. -/
def HitItem.covers (x : HitItem) (b : Nat) : Bool := decide (b < 2048) && decide ((b + 2048 - x.slot) % 2048 < itemWeight x)

/-- R28: an item joins the queue of engine `e`, or finds it full. Each position is a protected block of memory 5 (R327). -/
def toEngine (e : Nat) (x : HitItem) (s : State) : State :=
  if queueFill (engine s e) + itemWeight x ≤ 2048 then
    let k := nextSlot (engine s e)
    modEngine e (fun y => { y with queue := y.queue ++ [{ x with slot := k }] })
      (forN (itemWeight x) (fun i t => eccWrite 5 e ((k + i) % 2048) t) s)
  else account x.partner 9 x.namedBt x.namedBt 1 (count .ashInDrop e 31 0 1 s)

/-- The number that ASH_ENG_STAT.STATE shows (R138). -/
def EnginePhase.code : EnginePhase → Nat
  | .off => 0 | .hold => 1 | .sync => 2 | .spare => 3 | .active => 4 | .draining => 5 | .isolated => 6

/-- The engine that ASH_SLOT_MAP names for a slot. -/
def slotEngine (s : State) (sl : Nat) : Nat := s.ash.slots.getD sl 8

/-- The migration of a slot that has been taken and not ended. -/
def slotMigration (s : State) (sl : Nat) : Option Migration := s.ash.migrations.find? (fun m => m.slot == sl && m.taken)

/-- R136: an item for an orphaned slot is discarded, counted and accounted; the first of a run raises ASH_SLOT_ORPHAN. -/
def orphan (sl : Nat) (x : HitItem) (s : State) : State :=
  let s := account x.partner 9 x.namedBt x.namedBt 1 (count .ashOrphanDrop 0 31 0 1 s)
  if s.ash.orphanRaised.contains sl then s
  else
    raise Src.ashSlotOrphan sl ([w32 sl, w32 (engine s (slotEngine s sl)).phase.code] ++ capCourse (nowCourse s))
      (s.modAsh fun a => { a with orphanRaised := sl :: a.orphanRaised })

/-- R136, R140: the crossbar sends an item to its slot's engine, and to the former engine too during a migration. It discards an item of a partner
whose table group does not serve (R289). -/
def crossbar (x : HitItem) (s : State) : State :=
  let sl := x.group / 4
  let e := slotEngine s sl
  if !groupServes s x.group then s
  else if (engine s e).phase == .active then
    match slotMigration s sl with
    | some m =>
      if m.doubled then
        toEngine m.former { x with single := false } (toEngine e { x with single := false, boundary := some m.boundary } s)
      else toEngine e x s
    | none => toEngine e x s
  else orphan sl x s

/-- R113: the bed group passes an item on, or discards it beyond HIT_CAP for its named course. -/
def passHit (x : HitItem) (s : State) : State :=
  let p := x.partner
  let c := x.namedBt / 64
  let n := smGet 0 (partner s p).capCounts c
  let cap := fld (inForce s .bedPpol p) 27 16
  if cap ≠ 0 ∧ n ≥ cap then
    let s := event .bedPevt p 18 (count .bedPcntCap p 31 0 1 s)
    offence p 3 (account p 5 x.namedBt x.namedBt 1 s)
  else crossbar x (modPartner p (fun y => { y with capCounts := smPut 0 y.capCounts c (n + 1) }) s)

/-! ### Data words (R97 to R101) -/

/-- What stands in the data words of a frame. -/
inductive WordItem where
  | hit (w : Nat)
  | wave (hdr : Nat) (samples : List Nat)
  | badHit
  | badRest (n : Nat)
  | cut (hdr : Nat)
  deriving DecidableEq, Repr

/-- The six samples of a sample word, earliest first (R100). -/
def sixSamples (w : Nat) : List Nat := (beBytes 6 w).map (·.toNat)

/-- R97 to R101: the items of the data words; a group under way holds its header, the words still due and its samples so far. -/
def parseWords : List Nat → Option (Nat × Nat × List Nat) → List WordItem
  | [], none => []
  | [], some (h, _, _) => [.cut h]
  | w :: t, some (h, n, acc) =>
    let acc := acc ++ sixSamples w
    if n ≤ 1 then .wave h (acc.take (if nbit h 21 then 32 else 16)) :: parseWords t none
    else parseWords t (some (h, n - 1, acc))
  | w :: t, none =>
    if !parityGood w then (if nbit w 7 then [.badRest (1 + t.length)] else .badHit :: parseWords t none)
    else if nbit w 7 then parseWords t (some (w, if nbit w 21 then 6 else 3, []))
    else .hit w :: parseWords t none

/-- The item that a hit word or waveform header starts, for the span from `x` on lane `l`. -/
def mkHit (s : State) (l p x w : Nat) (wave : Option (Nat × Nat × List Nat)) : HitItem where
  partner := p
  group := (bindingOf s p).firstLane / 8
  lane := l
  channel := nfld w 47 30
  namedBt := x + nfld w 29 26
  fine := nfld w 25 16
  charge := nfld w 15 8
  pileup := nbit w 6
  sat := nbit w 5
  wave := wave
  single := true
  boundary := none
  arrived := nowStamp s
  slot := 0

/-- R101: one item of a frame is checked and passed on, or discarded as a word error. -/
def takeItem (l p x : Nat) (i : WordItem) (s : State) : State :=
  let r := (bindingOf s p).record
  match i with
  | .badHit => wordError p x (x + 15) 1 s
  | .badRest n => wordError p x (x + 15) n s
  | .cut h => wordError p (x + nfld h 29 26) (x + nfld h 29 26) 1 s
  | .hit w =>
    if nfld w 47 30 < recChannels r then passHit (mkHit s l p x w none) s
    else wordError p (x + nfld w 29 26) (x + nfld w 29 26) 1 s
  | .wave h samples =>
    if nfld h 47 30 < recChannels r ∧ 2 ≤ recHitFormat r ∧ (nbit h 21 = false ∨ recHitFormat r ≠ 2) then
      passHit (mkHit s l p x h (some (nfld h 25 22, nfld h 15 8, samples))) s
    else wordError p (x + nfld h 29 26) (x + nfld h 29 26) 1 s

/-! ### Frames (R92 to R96, R102, R109) -/

/-- R96: the signed distance of a stamp from the arrival BT. -/
def stampDistance (now stamp : Nat) : Int := signed 16 ((now + 65536 - stamp % 65536) % 65536)

/-- R96: the span start that a stamp names. -/
def spanStart (now stamp : Nat) : Nat := ((now : Int) - stampDistance now stamp).toNat

/-- The data words of a frame, from its characters after the header. -/
def frameWords : Nat → List Byte → List Nat
  | 0, _ => []
  | n + 1, bs => beNat (bs.take 6) :: frameWords n (bs.drop 6)

/-- R96 to R102: a data frame whose length, type, lane and CRC are good. -/
def dataFrame (l p now stamp loss k : Nat) (words : List Nat) (s : State) : State :=
  let d := stampDistance now stamp
  let x := spanStart now stamp
  let known := (lane s l).missing.contains x
  if stamp % 16 ≠ 0 ∨ d < -32 ∨ d > 120 then malformed p (if known then none else some (untrustedRange s k)) s
  else if (match (lane s l).lastSpan with | some y => decide (x < y) | none => false) || known then
    malformed p (if known then none else some (x, x + 15, k)) s
  else
    let s := spanSeen l p x s
    let s := if loss ≠ 0 then account p 7 x (x + 15) loss (count .bedPcntSpan p 15 0 loss s) else s
    forL (parseWords words none) (takeItem l p x) s

/-- R109: a transaction sent more than 4,096 BT ago ends with a timeout. -/
def cfgTimeout (p : Nat) (s : State) : State :=
  match (partner s p).cfg with
  | some c =>
    match c.sent with
    | some m =>
      if m + 4096 < nowGbt s then
        let s := modPartner p (fun x => { x with cfg := none, cfgDone := some none }) s
        let s := event .bedPevt p 19 s
        raise Src.partnerCfgTimeout p [w32 p, w32 c.op, w32 c.tag, c.addr] s (partnerTarget s p)
      else s
    | none => s
  | none => s

/-- R102, R109: a configuration response frame. A late one finds its transaction timed out. -/
def responseFrame (p idx k : Nat) (words : List Nat) (s : State) : State :=
  let w := words.headD 0
  let s := cfgTimeout p s
  match (partner s p).cfg with
  | some c =>
    if k = 1 ∧ idx = 0 ∧ c.sent.isSome ∧ nfld w 47 44 = c.tag then
      modPartner p (fun x => { x with cfg := none, cfgDone := some (some (nfld w 43 40, w32 (nfld w 31 0))) }) s
    else malformedResponse p s
  | none => malformedResponse p s

/-- R92 to R109: a delimited block on an ACTIVE lane of partner `p`, whose header word arrived `lag` BT before now. A code error inside a Burir frame
makes it malformed (R67); DESIGN CHOICE: its account is that of reason CRC.
DESIGN CHOICE (log entry 180): where several reasons apply, the first of LENGTH, CRC, TYPE, LANE and then RESPONSE or STAMP, ORDER decides. -/
def activeBlock (l p : Nat) (chars : List Byte) (closed codeError : Bool) (lag : Nat) (s : State) : State :=
  let n := chars.length
  if closed ∧ n = 20 then s
  else if closed = false ∨ codeError ∨ n < 10 ∨ n > 406 ∨ (n - 10) % 6 ≠ 0 then malformed p (some (untrustedRange s cntUnknown)) s
  else
    let k := (n - 10) / 6
    if crc32c (chars.take (n - 4)) ≠ BitVec.ofNat 32 (beNat (chars.drop (n - 4))) then malformed p (some (untrustedRange s cntUnknown)) s
    else
      let h := beNat (chars.take 6)
      let now := nowGbt s - lag
      let x := spanStart now (nfld h 31 16)
      let known := (lane s l).missing.contains x
      let words := frameWords k (chars.drop 6)
      let idx := laneIndex s l
      if nfld h 47 44 ≠ 1 ∧ nfld h 47 44 ≠ 2 then malformed p (if known then none else some (x, x + 15, k)) s
      else if nfld h 43 41 ≠ idx then
        malformed p (if known then none else some (x, x + 15, k)) s
      else if nfld h 47 44 = 2 then responseFrame p idx k words s
      else dataFrame l p now (nfld h 31 16) (nfld h 15 8) k words s

/-- R74, R92, R307: a delimited block on a lane, by the lane's state. -/
def blockRx (l : Nat) (chars : List Byte) (closed codeError : Bool) (lag : Nat) (s : State) : State :=
  match (lane s l).phase with
  | .quarantine => if closed ∧ chars.length = 20 then s else count .bedLaneErr l 7 0 1 s
  | .active =>
    match (lane s l).partner with
    | some p => if dpStopped s then s else activeBlock l p chars closed codeError lag s
    | none => s
  | _ => s

/-! ### At a course tick -/

/-- R115: the offences of partner `p` are counted, and its lanes quarantined at QUAR_THR. -/
def offenceTick (p : Nat) (s : State) : State :=
  let s := modPartner p (fun x =>
    let h := (x.history <<< 1) ||| BitVec.ofNat 64 x.offended.toNat
    { x with history := h, offended := false, offences := popCount 64 h.toNat
             capCounts := x.capCounts.filter (fun e => decide (nowCourse s ≤ e.1 + 3)) }) s
  let thr := min 64 (fld (inForce s .bedPpol p) 6 0)
  if thr ≠ 0 ∧ (partner s p).offences ≥ thr then
    let s := modPartner p (fun x => { x with history := 0, offences := 0 }) s
    let s := event .bedPevt p 20 s
    forL (partnerLanes s p) (fun l t =>
      if leavesFor t l (causeRank 8 false) || (lane t l).phase == .exchange then enterQuarantine l 8 t else t) s
  else s

/-- The index ranges that the partners of table group `g` other than `p` hold. -/
def groupRanges (s : State) (g p : Nat) : List (Nat × Nat) :=
  s.partners.filterMap fun e =>
    match e.2.binding with
    | some b => if e.1 ≠ p ∧ b.firstLane / 8 = g then some (b.base, b.base + recChannels b.record) else none
    | none => none

/-- R125: the lowest index from which `n` consecutive entries are free. -/
def lowestFree (rs : List (Nat × Nat)) (n : Nat) : Nat :=
  let free := (0 :: rs.map (·.2)).filter (fun a => rs.all (fun r => decide (a + n ≤ r.1) || decide (r.2 ≤ a)))
  match free with
  | [] => 0
  | a :: t => t.foldl min a

/-- R110, R125: a binding enters the partner map; the lanes that wait with WAIT_BIND enter ACTIVE. DESIGN CHOICE (log entry 183): FIT is judged once, at
the binding, against the 524,288 indices of the store, in dual mode too. -/
def bindPartner (p : Nat) (b : Binding) (s : State) : State :=
  let g := b.firstLane / 8
  let n := recChannels b.record
  let base := lowestFree (groupRanges s g p) n
  let fit := decide (base + n ≤ 524288)
  let s := modPartner p (fun x => { x with binding := some { b with base := base, fit := fit } }) s
  let s := if fit then s else raise Src.ashTableFrag g [w32 g, w32 p, w32 base] s
  forL (partnerLanes s p) (fun l t =>
    let t := modLane l (fun x => { x with partner := some p }) t
    match (lane t l).phase with
    | .exchange =>
      if (lane t l).waitBind then
        enterActive l (match (lane t l).record with | some (r, _) => exchangeSettles p r t | none => t)
      else restartDue l t
    | .train | .lock => restartDue l t
    | _ => t) s

/-- R112: a partner leaves the map. -/
def unbindPartner (p : Nat) (s : State) : State :=
  let s := forL (partnerLanes s p) (fun l t => modLane l (fun x => { x with partner := none }) t) s
  modDl p (fun d => { d with restarts := [], actives := [] }) (modPartner p (fun x => { x with binding := none }) s)

/-- R110 to R112: the binding changes that wait take effect, in the order in which the Lodge accepted them. -/
def bindTick (s : State) : State :=
  let l := s.bindPending
  forL l (fun x t =>
    match x.entry with
    | some b => bindPartner x.partner b t
    | none => unbindPartner x.partner t) { s with bindPending := [] }

/-- R88, R70: at a course tick: the code errors of each lane are counted per course, and its taps have moved. -/
def codeErrTick (s : State) : State :=
  let f := fun (l : Nat) (x : Lane) => { (tapsMoved s l (nowCourse s) x) with codeErrs := 0, codeRaised := false }
  { s with lanes := (s.lanes.map (fun e => (e.1, f e.1 e.2))).filter (fun e => decide (e.2 ≠ Lane.reset)) }

/-- R114: at a data-plane restart the check of each ACTIVE lane starts again as on entry to ACTIVE. -/
def spanRestart (s : State) : State :=
  { s with lanes := s.lanes.map (fun e => if e.2.phase == .active then (e.1, { e.2 with noData := true, checkFrom := none }) else e) }

end Sys2Proof.Machine
end

