-- ==== Sys2Proof/Machine/Lines.lean ====
section
/-!
DEFINITION. Uplinks, return lanes and streams by number; what each uplink carries (R267, R269, R270); the Lintel's lanes (R250); BT in the
active domain's count (R46).
-/
namespace Sys2Proof.Machine

def uplink (s : State) (u : Nat) : Uplink := smGet .reset s.uplinks u
def modUplink (u : Nat) (f : Uplink → Uplink) (s : State) : State := { s with uplinks := smUpd .reset s.uplinks u f }
def uplGroup (s : State) (h : Nat) : UplGroup := smGet .reset s.uplGroups h
def modUplGroup (h : Nat) (f : UplGroup → UplGroup) (s : State) : State := { s with uplGroups := smUpd .reset s.uplGroups h f }
def retLane (s : State) (r : Nat) : RetLane := smGet .reset s.retLanes r
def modRetLane (r : Nat) (f : RetLane → RetLane) (s : State) : State := { s with retLanes := smUpd .reset s.retLanes r f }
def stream (s : State) (t : Nat) : Stream := smGet .reset s.streams t
def modStream (t : Nat) (f : Stream → Stream) (s : State) : State := { s with streams := smUpd .reset s.streams t f }
def State.modLnt (f : Lintel → Lintel) (s : State) : State := { s with lnt := f s.lnt }

/-- A stream's map in force (R267). -/
def streamMap (s : State) (t : Nat) : Word := inForce s .uplStreamMap t
/-- The primary uplink that a stream's map names. -/
def mapPrimary (w : Word) : Nat := fld w 5 0
/-- The mirror uplink that a stream's map names, if it is mirrored. -/
def mapMirror (w : Word) : Option Nat := if bit w 14 then some (fld w 13 8) else none

/-- The stream role that uplink `u` carries: stream, and whether it is the mirror. -/
def uplRole (s : State) (u : Nat) : Option (Nat × Bool) :=
  (List.range 48).findSome? fun t =>
    let w := streamMap s t
    let x := stream s t
    if mapPrimary w = u && !x.primConflict then some (t, false)
    else if mapMirror w == some u && !x.mirConflict then some (t, true) else none

/-- The stream whose pending move has reserved uplink `u` (R270). -/
def moveTarget (s : State) (u : Nat) : Option Nat :=
  (List.range 48).find? fun t => match (stream s t).move with | some m => m.target == u | none => false

/-- LNT_LANE in force: the uplink of an enabled lane. -/
def lntLaneUplink (s : State) (i : Nat) : Option Nat :=
  let w := inForce s .lntLane i
  if bit w 31 then some (fld w 5 0) else none

/-- The Lintel lane that uplink `u` carries: enabled and not in conflict (R250). -/
def uplLintelLane (s : State) (u : Nat) : Option Nat :=
  (List.range 8).find? fun i => lntLaneUplink s i == some u && !s.lnt.conflicts.getLsbD i

/-- R269: the carriers of a stream: those of its uplinks that are ACTIVE and not in conflict, primary first. -/
def carriers (s : State) (t : Nat) : List Nat :=
  let w := streamMap s t
  let x := stream s t
  let act := fun (u : Nat) => (uplink s u).phase == .active
  (if !x.primConflict && act (mapPrimary w) then [mapPrimary w] else []) ++
    (match mapMirror w with | some u => if !x.mirConflict && act u then [u] else [] | none => [])

/-- R263: the balance of an uplink. -/
def linkBalance (s : State) (u : Nat) : Nat := ((uplink s u).granted - (uplink s u).consumed).toNat

/-- R269, R222: the balance of a stream: the smallest of its carriers', 0 without one. -/
def streamBalance (s : State) (t : Nat) : Nat :=
  match (carriers s t).map (linkBalance s) with
  | [] => 0
  | a :: l => l.foldl min a

/-- DEVICE_ID as records and frames carry it: 0 if it has not been written. -/
def deviceId (s : State) : Nat := if s.btr.devIdWritten.val = 1 then fld (cell s .hstDeviceId) 15 0 else 0

/-- A domain has set its BT offset (R46). -/
def anyOffset (s : State) : Bool := s.quo.domA.offsetValid || s.quo.domB.offsetValid

/-- The active domain's BT offset; 0 while it has none. -/
def activeOffset (s : State) : BitVec 64 :=
  let d := if s.quo.active = 0 then s.quo.domA else s.quo.domB
  if d.offsetValid then d.offset else 0

/-- A local BT in the active domain's count (R46). -/
def toDomainBt (s : State) (b : Nat) : BitVec 64 := BitVec.ofNat 64 b + activeOffset s

end Sys2Proof.Machine
end

