-- ==== Sys2Proof/Machine/Molus.lean ====
section
/-!
DEFINITION. The Molus block: its layout, the coding of a slot and its decoding (R157 to R164).
-/
namespace Sys2Proof.Machine

/-! ### Record fields (R121) -/

/-- The field [hi:lo] of a 64-bit word. -/
def dfld (w : DWord) (hi lo : Nat) : Nat := w.toNat / 2 ^ lo % 2 ^ (hi + 1 - lo)

def recChannel (w : DWord) : Nat := dfld w 63 40
def recTime (w : DWord) : Nat := dfld w 39 20
def recCharge (w : DWord) : Nat := dfld w 19 12
def recFlags (w : DWord) : Nat := dfld w 11 8
def recLane (w : DWord) : Nat := dfld w 7 0
/-- WAVE, bit 10 of a record. -/
def recWave (w : DWord) : Bool := w.getLsbD 10
/-- UNCAL, bit 11 of a record. -/
def recUncal (w : DWord) : Bool := w.getLsbD 11
/-- The partner of a record. -/
def recPartner (w : DWord) : Nat := recChannel w / 2 ^ 18

/-- An ashlar record from its fields. -/
def mkRecord (channel time charge flags lane_ : Nat) : DWord :=
  BitVec.ofNat 64 (channel % 2 ^ 24 * 2 ^ 40 + time % 2 ^ 20 * 2 ^ 20 + charge % 256 * 4096 + flags % 16 * 256 + lane_ % 256)

/-- Ring entries that a record takes: itself and its sample words (R146). -/
def entrySize (e : RingEntry) : Nat := 1 + e.samples.length

/-- Entries of a list of records. -/
def entriesSize (l : List RingEntry) : Nat := l.foldl (fun n e => n + entrySize e) 0

/-! ### Bits and words -/

/-- `n` bits of `v`, most significant first. -/
def bitsOf : Nat → Nat → List Bool
  | 0, _ => []
  | n + 1, v => (v / 2 ^ n % 2 == 1) :: bitsOf n v

/-- The number that bits spell, most significant first. -/
def ofBits (l : List Bool) : Nat := l.foldl (fun a b => 2 * a + b.toNat) 0

/-- Bits packed into `n` words, bit 63 first; missing bits are 0. -/
def packWords : Nat → List Bool → List DWord
  | 0, _ => []
  | n + 1, l => BitVec.ofNat 64 (ofBits (l.take 64) * 2 ^ (64 - (l.take 64).length)) :: packWords n (l.drop 64)

/-- Words that bits take. -/
def wordsFor (l : List Bool) : Nat := (l.length + 63) / 64

/-- The bits of words, bit 63 of the first word first. -/
def unpackWords (ws : List DWord) : List Bool := ws.flatMap (fun w => bitsOf 64 w.toNat)

/-! ### Golomb-Rice coding (R162) -/

/-- The code classes CH, T and Q of R162. -/
inductive GrClass where
  | ch | t | q
  deriving DecidableEq, Repr

/-- KMAX of a class. -/
def GrClass.kmax : GrClass → Nat
  | .ch => 23 | .t => 14 | .q => 8

/-- Escape width of a class. -/
def GrClass.width : GrClass → Nat
  | .ch => 24 | .t => 15 | .q => 9

/-- The adaptive state of one class: A and N. -/
structure GrState where
  a : Nat
  n : Nat
  deriving DecidableEq, Repr

/-- The states of the three classes, and the predictors of a slot (R161). -/
structure SlotState where
  ch : GrState
  t : GrState
  q : GrState
  channel : Nat
  fine : Nat
  charge : Nat
  lane : Nat
  first : Bool
  deriving DecidableEq, Repr

/-- Slot start (R161, R162). -/
def SlotState.start : SlotState := ⟨⟨16384, 1⟩, ⟨8192, 1⟩, ⟨64, 1⟩, 0, 0, 0, 0, true⟩

/-- R162: the least k up to KMAX with N << k at least A. -/
def kOf (c : GrClass) (g : GrState) : Nat :=
  ((List.range c.kmax).find? (fun k => decide (g.n * 2 ^ k ≥ g.a))).getD c.kmax

/-- R162: the state after a value. -/
def GrState.next (g : GrState) (v : Nat) : GrState :=
  if g.n + 1 = 64 then ⟨(g.a + v + 1) / 2, 32⟩ else ⟨g.a + v, g.n + 1⟩

/-- R162: the bits of a value. -/
def putGr (c : GrClass) (g : GrState) (v : Nat) : List Bool :=
  let k := kOf c g
  let q := v / 2 ^ k
  if q < 20 then List.replicate q true ++ false :: bitsOf k v else List.replicate 20 true ++ bitsOf c.width v

/-- R161: z(d). -/
def zigzag (d : Int) : Nat := if d ≥ 0 then (2 * d).toNat else (-2 * d - 1).toNat

/-- The inverse of z. -/
def unzigzag (v : Nat) : Int := if v % 2 = 0 then ((v / 2 : Nat) : Int) else -(((v + 1) / 2 : Nat) : Int)

/-- R161, R162: the bits of one record of a slot, and the state after it. -/
def encodeRecord (e : RingEntry) (s : SlotState) : List Bool × SlotState :=
  let r := e.record
  let f := recTime r % 16384
  let dc := recChannel r - s.channel
  let zf := zigzag ((f : Int) - s.fine)
  let zq := zigzag ((recCharge r : Int) - s.charge)
  let b1 := if s.first then bitsOf 24 (recChannel r) else putGr .ch s.ch dc
  let b2 := putGr .t s.t zf
  let b3 := putGr .q s.q zq
  let b4 := bitsOf 4 (recFlags r)
  let b5 := if recLane r = s.lane then [false] else true :: bitsOf 8 (recLane r)
  let b6 := if recWave r then bitsOf 2 (e.samples.length / 2) ++ unpackWords e.samples else []
  (b1 ++ b2 ++ b3 ++ b4 ++ b5 ++ b6,
   ⟨if s.first then s.ch else s.ch.next dc, s.t.next zf, s.q.next zq, recChannel r, f, recCharge r, recLane r, false⟩)

/-- The bits of a slot's records, sorted under R159. -/
def encodeSlot : List RingEntry → SlotState → List Bool
  | [], _ => []
  | e :: t, s => let r := encodeRecord e s; r.1 ++ encodeSlot t r.2

/-! ### Decoding (R163, R164) -/

/-- Take `n` bits. -/
def getBits (n : Nat) (l : List Bool) : Option (Nat × List Bool) :=
  if l.length < n then none else some (ofBits (l.take n), l.drop n)

/-- Count ones, up to `n`, and what follows. -/
def getOnes : Nat → List Bool → Nat × List Bool
  | 0, l => (0, l)
  | n + 1, true :: l => let r := getOnes n l; (r.1 + 1, r.2)
  | _, l => (0, l)

/-- R163: one Golomb-Rice value. -/
def getGr (c : GrClass) (g : GrState) (l : List Bool) : Option (Nat × List Bool) :=
  let r := getOnes 20 l
  if r.1 = 20 then getBits c.width r.2
  else
    match r.2 with
    | false :: l2 =>
      let k := kOf c g
      (getBits k l2).map (fun x => (r.1 * 2 ^ k + x.1, x.2))
    | _ => none

/-- R163, R164: one record of slot `b`. -/
def decodeRecord (b : Nat) (s : SlotState) (l : List Bool) : Option (RingEntry × SlotState × List Bool) := do
  let (cv, l) ← if s.first then getBits 24 l else getGr .ch s.ch l
  let (tv, l) ← getGr .t s.t l
  let (qv, l) ← getGr .q s.q l
  let (fl, l) ← getBits 4 l
  let (same, l) ← getBits 1 l
  let (ln, l) ← if same = 1 then getBits 8 l else some (s.lane, l)
  let (ns, l) ← if fl / 4 % 2 = 1 then getBits 2 l else some (0, l)
  if ns = 3 then none
  else if l.length < 128 * ns then none
  else
    let ch := if s.first then cv else s.channel + cv
    let f := (s.fine : Int) + unzigzag tv
    let q := (s.charge : Int) + unzigzag qv
    if ch ≥ 2 ^ 24 ∨ f < 0 ∨ f > 16383 ∨ q < 0 ∨ q > 255 then none
    else
      some (⟨mkRecord ch (b * 16384 + f.toNat) q.toNat fl ln, packWords (2 * ns) (l.take (128 * ns))⟩,
        ⟨if s.first then s.ch else s.ch.next cv, s.t.next tv, s.q.next qv, ch, f.toNat, q.toNat, ln, false⟩, l.drop (128 * ns))

/-- R163, R164: the `n` records of slot `b` in the bits up to the next slot: records in order, padding zero. -/
def decodeSlot (b : Nat) : Nat → Nat → SlotState → List Bool → Option (List RingEntry)
  | 0, _, _, l => if l.any id then none else some []
  | n + 1, prev, s, l =>
    match decodeRecord b s l with
    | some (e, s', l') =>
      if e.record.toNat < prev then none else (decodeSlot b n e.record.toNat s' l').map (e :: ·)
    | none => none

/-! ### The block (R157 to R160) -/

/-- Sort key of R159: the record's 64-bit value. -/
def sortSlot (l : List RingEntry) : List RingEntry := sortBy (fun a b => decide (a.record.toNat ≤ b.record.toNat)) l

/-- R157: the two header words. -/
def blockHeader (course group : Nat) (raw : Bool) (cause : Nat) (sorted samples : Bool) (mapWords bodyWords records : Nat) : List DWord :=
  [BitVec.ofNat 64 (course * 256 + group),
   BitVec.ofNat 64 (2 ^ 60 + raw.toNat * 2 ^ 59 + cause * 2 ^ 56 + sorted.toNat * 2 ^ 55 + samples.toNat * 2 ^ 54 + mapWords * 2 ^ 32 +
     bodyWords % 65536 * 2 ^ 16 + records % 65536)]

/-- R160: the words with their trailer. -/
def withTrailer (ws : List DWord) : List DWord :=
  ws ++ [BitVec.ofNat 64 ((ws.length + 1) * 2 ^ 32 + (crc32c (ws.flatMap (fun w => beBytes 8 w.toNat))).toNat)]

/-- R159: the sample map of a list of records: 2 bits for each with WAVE. -/
def sampleMap (l : List RingEntry) : List DWord :=
  let bits := (l.filter (fun e => recWave e.record)).flatMap (fun e => bitsOf 2 (e.samples.length / 2))
  packWords (wordsFor bits) bits

/-- R157, R159: a raw block of the records in the order given. -/
def rawBlock (course group cause : Nat) (sorted : Bool) (l : List RingEntry) : List DWord :=
  let body := l.flatMap (fun e => e.record :: e.samples)
  let map := sampleMap l
  withTrailer (blockHeader course group true cause sorted (l.any (fun e => !e.samples.isEmpty)) map.length body.length l.length ++ body ++ map)

/-- R158, R161: the body words of coded slots, and the slot table entries as (offset, count). -/
def codedSlots : List (List RingEntry) → Nat → List DWord × List (Nat × Nat)
  | [], _ => ([], [])
  | l :: t, off =>
    let bits := encodeSlot (sortSlot l) .start
    let ws := packWords (wordsFor bits) bits
    let r := codedSlots t (off + ws.length)
    (ws ++ r.1, (off, l.length) :: r.2)

/-- R158: slot table words from its entries. -/
def slotTable : List (Nat × Nat) → List DWord
  | a :: b :: t => BitVec.ofNat 64 ((a.1 * 65536 + a.2) * 2 ^ 32 + (b.1 * 65536 + b.2)) :: slotTable t
  | _ => []

/-- R157: a coded block of the 64 slots. -/
def codedBlock (course group : Nat) (slots : List (List RingEntry)) : List DWord :=
  let r := codedSlots slots 0
  let all := slots.flatten
  withTrailer (blockHeader course group false 0 true (all.any (fun e => !e.samples.isEmpty)) 0 r.1.length all.length ++ slotTable r.2 ++ r.1)

/-- The codes of a sample map, in order. -/
def mapCodes : List Bool → List Nat
  | a :: b :: t => (2 * a.toNat + b.toNat) :: mapCodes t
  | _ => []

/-- R159: the entries of a raw body, by the sample codes of its records with WAVE; `n` records are due. -/
def rawEntries : Nat → List DWord → List Nat → Option (List RingEntry)
  | 0, _, _ => some []
  | n + 1, w :: t, codes =>
    if recWave w then
      match codes with
      | c :: cs =>
        if c = 3 ∨ t.length < 2 * c then none else (rawEntries n (t.drop (2 * c)) cs).map (⟨w, t.take (2 * c)⟩ :: ·)
      | [] => none
    else (rawEntries n t codes).map (⟨w, []⟩ :: ·)
  | _, [], _ => none

/-- The slot table entries of 32 words. -/
def tableEntries (ws : List DWord) : List (Nat × Nat) :=
  ws.flatMap (fun w => [(dfld w 63 48, dfld w 47 32), (dfld w 31 16, dfld w 15 0)])

/-- The offset at which a slot's bits end: that of the next non-empty slot, else the body's end. -/
def slotEnd (body : Nat) : List (Nat × Nat) → Nat
  | [] => body
  | (o, n) :: t => if n = 0 then slotEnd body t else o

/-- R163: every slot of a coded block, from slot `b` on. -/
def decodeSlots (body : List DWord) : Nat → List (Nat × Nat) → Option (List RingEntry)
  | _, [] => some []
  | b, (o, n) :: t =>
    let e := slotEnd body.length t
    if n = 0 then decodeSlots body (b + 1) t
    else if e < o then none
    else
      match decodeSlot b n 0 .start (unpackWords ((body.drop o).take (e - o))) with
      | some l => (decodeSlots body (b + 1) t).map (l ++ ·)
      | none => none

/-- R160: the trailer of a block holds its word count and CRC-32C. -/
def trailerGood (ws : List DWord) : Bool :=
  match ws.getLast? with
  | some t =>
    dfld t 63 32 == ws.length && dfld t 31 0 == (crc32c (ws.dropLast.flatMap (fun w => beBytes 8 w.toNat))).toNat
  | none => false

/-- R160, R163, R164: the records of a block, or none where a check fails. -/
def decodeBlock (ws : List DWord) : Option (List RingEntry) :=
  if !trailerGood ws || decide (ws.length < 3) then none
  else
    let h := ws.getD 1 0
    let n := dfld h 15 0
    let bodyN := dfld h 31 16
    if dfld h 59 59 = 1 then
      let rest := (ws.drop 2).dropLast
      rawEntries n (rest.take bodyN) (mapCodes (unpackWords (rest.drop bodyN)))
    else
      let body := (ws.drop 34).dropLast
      match decodeSlots body 0 (tableEntries ((ws.drop 2).take 32)) with
      | some l => if l.length = n ∧ body.length = bodyN then some l else none
      | none => none

end Sys2Proof.Machine
end

