-- ==== Sys2Proof/Machine/Lintel.lean ====
section
/-!
DEFINITION. The Lintel: the tap, arrival groups, coincidences and counts, the primitive frame, lanes (chapter 10).
-/
namespace Sys2Proof.Machine

/-! ### Tables (R248) -/

/-- The tables in force. -/
def lntTables (s : State) : LntTables where
  regions := (List.range 64).map (fun i => inForce s .lntRegion i)
  offsets := (List.range 64).map (fun i => inForce s .lntRegOfs i)
  valid := s.lnt.ofsValid
  pairs := (List.range 32).map (fun i => inForce s .lntPair i)
  countLo := (List.range 12).map (fun i => inForce s .lntCountLo i)
  countHi := (List.range 12).map (fun i => inForce s .lntCountHi i)
  latency := fld (inForce s .lntLatency) 7 0

/-- R248: the tables that apply to arrival group `a`. -/
def tablesFor (s : State) (a : Nat) : LntTables :=
  match s.lnt.former with
  | some (b, t) => if a < b then t else lntTables s
  | none => lntTables s

/-- R235: LNT_LATENCY as it acts: 169 to 240 core cycles. -/
def LntTables.cycles (t : LntTables) : Nat := max 169 (min 240 t.latency)

/-- The close of arrival group `a`, in core cycles since reset (R236). -/
def closeMoment (s : State) (a : Nat) : Nat := a * 24 + (tablesFor s a).cycles - 48

/-- Core cycles since reset. -/
def nowAbs (s : State) : Nat := nowCourse s * 1536 + nowCycle s

/-- R238: region `r` of the tables covers the channel of a record. -/
def LntTables.covers (t : LntTables) (r : Nat) (w : DWord) : Bool :=
  let x := t.regions.getD r 0
  let blk := recChannel w % 2 ^ 18 / 64
  bit x 31 && fld x 29 24 == recPartner w && decide (fld x 23 12 ≤ blk) && decide (blk ≤ fld x 11 0)

/-- R237: Lintel time of a record of course `c` in region `r`. -/
def LntTables.time (t : LntTables) (r c : Nat) (w : DWord) : Int := (c * 2 ^ 20 + recTime w : Nat) - sfld (t.offsets.getD r 0) 15 0

/-! ### The tap (R236, R237, R239) -/

/-- Change an arrival group. -/
def modLntGroup (a : Nat) (f : LntGroup → LntGroup) (s : State) : State := s.modLnt fun x => { x with groups := smUpd .blank x.groups a f }

/-- Records that region `r` keeps of a group. -/
def LntGroup.keeps (g : LntGroup) (r : Nat) : Nat := (g.recs.filter (fun x => x.paired.contains r)).length

/-- R239: the regions of a record in which it is kept for pairing: those that hold fewer than 32 of the group. -/
def keptRegions (g : LntGroup) (regions : List Nat) : List Nat :=
  regions.filter fun r => decide (g.keeps r < 32)

/-- R236: a record late to the tap. -/
def lateAtTap (p l a late : Nat) (s : State) : State :=
  let first := !s.lnt.lateTap && !s.lnt.lastLate
  let s := count .lntCntLateTap 0 31 0 1 (event .lntEvt 0 18 (s.modLnt fun x => { x with lateTap := true }))
  if first then raise Src.lntLateTap p ([w32 p, w32 l] ++ cap64 a ++ [w32 late]) s else s

/-- Group `a` of the groups of the Lintel has had a drop. -/
def hasDrop (s : State) (a : Nat) : Bool := (smGet .blank s.lnt.groups a).dropped != 0

/-- R239, R253: a record beyond 16 in one core cycle. It begins a run of groups with drops unless its group or one beside it has had a drop. -/
def tapOverflow (a : Nat) (s : State) : State :=
  let first := !hasDrop s a && !hasDrop s (a + 1) && (a == 0 || !hasDrop s (a - 1))
  let drop := fun (g : LntGroup) => { g with dropped := g.dropped + 1 }
  let s := modLntGroup a drop (s.modLnt fun x => { x with tapBase := smUpd .blank x.tapBase a drop })
  let s := count .lntCntOver 0 31 0 1 (event .lntEvt 0 17 s)
  if first then raise Src.lntTapOverflow 0 (cap64 a ++ [w32 1] ++ capCourse (nowCourse s)) s else s

/-- Place of the `n`th record that region `r` keeps of arrival group `a` in the Lintel's history (memory 8). DESIGN CHOICE: the spec numbers no
blocks there. -/
def historyBlock (a r n : Nat) : Nat := ((a % 32) * 64 + r) * 32 + n

/-- R327: the blocks of the history that a record takes when it joins group `a`. -/
def historyWrite (a : Nat) (kept : List Nat) (s : State) : State :=
  forL kept (fun r t => eccWrite 8 0 (historyBlock a r ((smGet .blank s.lnt.groups a).keeps r)) t) s

/-- R239: a record joins its group; each region keeps at most 32 of a group. -/
def joinGroup (gs : SMap LntGroup) (x : TapRec) : SMap LntGroup :=
  smUpd .blank gs x.bt fun g =>
    let kept := keptRegions g (x.record.times.map (·.1))
    { g with recs := g.recs ++ [{ x.record with paired := kept }], sat := g.sat || decide (kept.length < x.record.times.length) }

/-- A record that some region did not keep for pairing. -/
def LntRec.isSat (x : LntRec) : Bool := decide (x.paired.length < x.times.length)

/-- The records of some groups that a region did not keep. -/
def satRecs (gs : SMap LntGroup) : Nat := sumL (gs.map (fun e => (e.2.recs.filter (·.isSat)).length))

/-- R239: the matched records of the core cycle under way with `x` among them, in increasing order of ring quarter and then of write position: that of
the row within its quarter. -/
def tapOrder (l : List TapRec) (x : TapRec) : List TapRec :=
  l.filter (fun y => decide (y.quarter ≤ x.quarter)) ++ x :: l.filter (fun y => decide (x.quarter < y.quarter))

/-- R239: a matched record of the core cycle under way: the first 16 in their order are admitted. -/
def tapAdmit (x : TapRec) (s : State) : State :=
  let same := decide (s.lnt.tapCycle = nowStamp s)
  let base := if same then s.lnt.tapBase else s.lnt.groups
  let all := tapOrder (if same then s.lnt.tapNow else []) x
  let gs := (all.take 16).foldl joinGroup base
  let more := satRecs gs - satRecs s.lnt.groups
  let g := smGet .blank s.lnt.groups x.bt
  let s := if (all.take 16).contains x then historyWrite x.bt (keptRegions g (x.record.times.map (·.1))) s else s
  let s := s.modLnt fun y => { y with tapCycle := nowStamp s, tapNow := all.take 16, tapBase := base, groups := gs }
  let s := if more = 0 then s else count .lntCntSat 0 31 0 more (event .lntEvt 0 16 s)
  match all.drop 16 with
  | v :: _ => tapOverflow v.bt s
  | [] => countWrap .lntCntAdmit 0 31 0 s

/-- R236: a record of group `a` is late to the tap: the group's close lies behind, or its frame has been formed. -/
def lateToTap (s : State) (a : Nat) : Bool :=
  decide (closeMoment s a < nowAbs s) || (decide (s.lnt.entered ≤ a) && decide (a < s.lnt.nextClose))

/-- R236 to R239: a record of course `c` reaches the tap on the write side of ring quarter `m`; its hit arrived at `arr` on lane `l`. -/
def lintelTap (m c : Nat) (w : DWord) (l : Nat) (arr : Stamp) (s : State) : State :=
  let a := arr.course * 64 + arr.cycle / 24
  let t := tablesFor s a
  let regions := (List.range 64).filter (fun r => t.covers r w)
  if !(s.lnt.phase == .running) || dpStopped s || regions.isEmpty || (recWave w && !bit (cell s .lntCtl) 1) then s
  else if lateToTap s a then lateAtTap (recPartner w) l a (nowAbs s - closeMoment s a) s
  else
    tapAdmit ⟨m, a, ⟨regions.map (fun r => (r, t.time r c w)), [], recUncal w || regions.any (fun r => !t.valid.getLsbD r)⟩⟩ s

/-! ### Coincidences and counts (R240 to R242) -/

/-- Lintel time of a record in a region in which it is kept for pairing. -/
def LntRec.pairTime (x : LntRec) (r : Nat) : Option Int :=
  if x.paired.contains r then (x.times.find? (fun e => e.1 == r)).map (·.2) else none

/-- R240: two records form a couple through regions `a` and `b` within `w` fu. -/
def couple (a b w : Nat) (x y : LntRec) : Bool :=
  let near := fun (p q : Option Int) => match p, q with
    | some u, some v => decide ((u - v).natAbs ≤ w)
    | _, _ => false
  near (x.pairTime a) (y.pairTime b) || near (x.pairTime b) (y.pairTime a)

/-- R240: couples of the records of a group among themselves and with the records of the seven groups before. -/
def couples (a b w : Nat) (past : List LntRec) : List LntRec → Nat
  | [] => 0
  | x :: t => (past.filter (couple a b w x)).length + (t.filter (couple a b w x)).length + couples a b w past t

/-- R240: count of pair `k` in a group; 0 while the pair is not enabled. -/
def pairCount (t : LntTables) (k : Nat) (past now : List LntRec) : Nat :=
  let w := t.pairs.getD k 0
  if bit w 31 then min 15 (couples (fld w 29 24) (fld w 21 16) (fld w 11 0 * 16) past now) else 0

/-- R240: pair `k` fires. -/
def pairFires (t : LntTables) (k n : Nat) : Bool :=
  let w := t.pairs.getD k 0
  bit w 31 && decide (max 1 (fld w 15 12) ≤ n)

/-- R242: the count of count group `j`. -/
def groupCount (t : LntTables) (j : Nat) (now : List LntRec) : Nat :=
  let mask := (t.countHi.getD j 0) ++ (t.countLo.getD j 0)
  min 255 (now.filter (fun x => x.times.any (fun e => mask.getLsbD e.1))).length

/-! ### Partner loss (R247) -/

/-- R247: the condition holds now for partner `p`; no slot counts as orphaned while the data plane is stopped (R307). -/
def partnerLoss (s : State) (p : Nat) : Bool :=
  match partnerGroup s p with
  | none => true
  | some g =>
    (partnerLanes s p).any (fun l => !((lane s l).phase == .active)) ||
      (!dpStopped s && !((engine s (slotEngine s (g / 4))).phase == .active))

/-- The partners that an enabled region names, and for which the condition holds. -/
def lossMask (s : State) : BitVec 64 :=
  BitVec.ofNat 64 (maskBits ((List.range 64).filterMap fun r =>
    let w := inForce s .lntRegion r
    if bit w 31 && partnerLoss s (fld w 29 24) then some (fld w 29 24) else none))

/-- R247: the condition is noted for every BT from `a` to `b`, of which the newest 16 are kept. -/
def lossSample (a b : Nat) (s : State) : State :=
  if s.lnt.phase == .running then
    let m := lossMask s
    s.modLnt fun x => { x with losses := ((List.range (b + 1 - a)).foldl (fun (l : List (Nat × BitVec 64)) i =>
      match l with
      | (c, v) :: t => if c = a + i then (c, v ||| m) :: t else (a + i, m) :: l
      | [] => [(a + i, m)]) x.losses).take 16 }
  else s

/-! ### Close and frame (R236, R243, R245 to R247) -/

/-- The frame words of a group, for lane 0 (R243). -/
def frameWords4 (s : State) (a : Nat) (t : LntTables) (g : LntGroup) (past : List LntRec) : List DWord :=
  let counts := (List.range 32).map (fun k => pairCount t k past g.recs)
  let fired := (List.range 32).foldl (fun n k => if pairFires t k (counts.getD k 0) then n + 2 ^ k else n) 0
  let cs := (List.range 12).map (fun j => groupCount t j g.recs)
  let loss := ((s.lnt.losses.find? (fun e => e.1 == a)).map (·.2)).getD 0
  let tnew := s.lnt.tablesNew && (match s.lnt.former with | some (b, _) => decide (b ≤ a) | none => true)
  let w0 := deviceId s * 2 ^ 48 + (!anyOffset s).toNat * 2 ^ 41 + (decide (a < s.lnt.startUntil)).toNat * 2 ^ 40 + s.quo.worst % 4 * 2 ^ 38 +
    (g.recs.any (·.uncal)).toNat * 2 ^ 37 + (decide (0 < g.dropped)).toNat * 2 ^ 36 + g.sat.toNat * 2 ^ 35 + s.lnt.lateTap.toNat * 2 ^ 34 +
    (loss != 0).toNat * 2 ^ 33 + tnew.toNat * 2 ^ 32 + (toDomainBt s a).toNat % 2 ^ 32
  let w1 := fired * 2 ^ 32 + satTo 16 (sumL counts) * 2 ^ 16 + satTo 16 g.recs.length
  let bytes := fun (l : List Nat) => l.foldl (fun n x => n * 256 + x) 0
  [BitVec.ofNat 64 w0, BitVec.ofNat 64 w1, BitVec.ofNat 64 (bytes (cs.take 8)), BitVec.ofNat 64 (bytes (cs.drop 8) * 2 ^ 32)]

/-- The frame as lane `i` sends it: LANE and the CRC-32C over data bytes 0 to 27 (R243). -/
def laneFrame (ws : List DWord) (i : Nat) : List DWord :=
  let ws := ws.set 0 (ws.getD 0 0 ||| BitVec.ofNat 64 (i * 2 ^ 45))
  let c := (crc32c ((ws.flatMap (fun w => beBytes 8 w.toNat)).take 28)).toNat
  ws.set 3 (ws.getD 3 0 ||| BitVec.ofNat 64 c)

/-- R252: a residue or history error at a stage. -/
def lintelError (a : Nat) (stage : Word) (master access : Nat) (s : State) : State :=
  raise Src.lntPipeErr 0 (stage :: cap64 a) (event .lntEvt 0 21 s) .lintel master access

/-- Block `b` of the history holds a record of group `a` or of one of the seven before it. -/
def historyHolds (s : State) (a b : Nat) : Bool :=
  s.lnt.groups.any fun e =>
    decide (e.1 ≤ a) && decide (a ≤ e.1 + 7) && decide (e.1 % 32 = b / 2048) && decide (b % 32 < e.2.keeps (b / 32 % 64))

/-- R252, R327: the coincidence search of group `a` reads the history. -/
def historyRead (a : Nat) (s : State) : State :=
  let r := eccReads 8 0 10 1 (eccMarked s 8 0 (historyHolds s a)) s
  if r.1 then r.2 else lintelError a Config.historyStage 10 1 r.2

/-- R236: the oldest open group closes, once its close has come: its frame is formed. -/
def lintelGroupClose (err : Option Nat) (s : State) : State :=
  let a := s.lnt.nextClose
  if s.lnt.phase == .running && decide (closeMoment s a ≤ nowAbs s) then
    let s := historyRead a (match err with | some st => lintelError a (w32 st) 0 0 s | none => s)
    let t := tablesFor s a
    let g := smGet .blank s.lnt.groups a
    let past := (s.lnt.groups.filter (fun e => decide (e.1 < a) && decide (a ≤ e.1 + 7))).flatMap (fun e => e.2.recs)
    let ws := frameWords4 s a t g past
    let loss := ((s.lnt.losses.find? (fun e => e.1 == a)).map (·.2)).getD 0
    let s := setCell .lntPlossHi 0 0 (loss.extractLsb' 32 32) (setCell .lntPlossLo 0 0 (loss.setWidth 32) s)
    let s := countWrap .lntCntFrames 0 31 0 s
    s.modLnt fun x => { x with
      nextClose := a + 1
      groups := x.groups.filter (fun e => decide (a ≤ e.1 + 7))
      tapBase := x.tapBase.filter (fun e => decide (a ≤ e.1 + 7))
      lateTap := false, lastLate := x.lateTap
      tablesNew := x.tablesNew && !(match x.former with | some (b, _) => decide (b ≤ a) | none => true)
      formed := x.formed ++ [⟨a, ws, []⟩] }
  else s

/-! ### Sending (R235, R244, R249 to R251) -/

/-- The Lintel lanes that send: enabled, without conflict, on an ACTIVE uplink. -/
def sendingLanes (s : State) : List Nat :=
  (List.range 8).filter fun i =>
    match lntLaneUplink s i with
    | some u => !s.lnt.conflicts.getLsbD i && (uplink s u).phase == .active
    | none => false

/-- The Lintel sends frames. -/
def lintelSends (s : State) : Bool := s.lnt.phase == .running && bit (cell s .lntCtl) 0 && !dpStopped s

/-- R253: the run of skipped frames ends: its report. -/
def skipRunEnds (s : State) : State :=
  match s.lnt.skipRun with
  | some (a, b, stop) =>
    raise Src.lntFrameSkip 0 (cap64 a ++ cap64 b ++ [Config.skipCause stop.toNat]) (s.modLnt fun x => { x with skipRun := none })
  | none => s

/-- R249, R251: a frame that does not leave. -/
def skipFrame (a : Nat) (stop : Bool) (s : State) : State :=
  let s := match s.lnt.skipRun with | some (_, _, c) => if c = stop then s else skipRunEnds s | none => s
  count .lntCntSkip 0 31 0 1 (event .lntEvt 0 19 (s.modLnt fun x => { x with
    skipRun := match x.skipRun with | some (f, _, c) => some (f, a, c) | none => some (a, a, stop) }))

/-- R235, R244: the oldest formed frame leaves every enabled lane, or is skipped. -/
def lintelFrameSend (s : State) : State :=
  match s.lnt.formed with
  | f :: t =>
    let s := s.modLnt fun x => { x with formed := t }
    if dpStopped s then skipFrame f.bt true s
    else if (match s.lnt.fallSkip with | some (a, b) => decide (a ≤ f.bt) && decide (f.bt ≤ b) | none => false) then skipFrame f.bt false s
    else
      let s := skipRunEnds s
      if lintelSends s then s.modLnt fun x => { x with sent := some { f with lanes := sendingLanes s } } else s
  | [] => s

/-! ### The course tick (R246, R248 to R250) -/

/-- R248: the Lintel registers whose pending value the next apply puts in force: any of them, and the regions whose offset is one. -/
def lntWaiting (s : State) : Bool :=
  (List.range 64).any (fun r => (cbReg s .lntRegion r).waiting || (cbReg s .lntRegOfs r).waiting) ||
  (List.range 32).any (fun k => (cbReg s .lntPair k).waiting) ||
  (List.range 12).any (fun j => (cbReg s .lntCountLo j).waiting || (cbReg s .lntCountHi j).waiting) || (cbReg s .lntLatency 0).waiting

/-- The regions whose offset waits for the tick (R245). -/
def ofsWaiting (s : State) : BitVec 64 :=
  BitVec.ofNat 64 (maskBits ((List.range 64).filter (fun r => (cbReg s .lntRegOfs r).waiting)))

/-- R248, R249: the tables of groups from the tick of course `c` on: `old` the tables before, `ofs` the regions written. A Lintel that is not RUNNING
has no frame of the former tables on the line. -/
def lintelTablesTick (c : Nat) (old : LntTables) (changed : Bool) (ofs : BitVec 64) (s : State) : State :=
  let s := s.modLnt fun x => { x with ofsValid := x.ofsValid ||| ofs }
  if changed then
    let lo := old.cycles
    let ln := (lntTables s).cycles
    let late := (List.range 64).filter (fun i => s.lnt.phase == .running && decide (c * 1536 + ln < (c * 64 - 64 + i) * 24 + lo + 13))
    s.modLnt fun x => { x with
      former := some (c * 64, old), tablesNew := true
      fallSkip := match late with | i :: _ => some (c * 64 - 64 + i, c * 64 - 1) | [] => none }
  else s

/-- The Lintel lanes whose setting takes effect at the next apply (R250). -/
def lanesDue (s : State) : List Nat := (List.range 8).filter (fun i => (cbReg s .lntLane i).waiting)

/-- R250: the uplink of lane `i` carries a stream or a mirror, or a lower-numbered enabled lane names it. -/
def laneBad (s : State) (i u : Nat) : Bool :=
  (uplRole s u).isSome || (moveTarget s u).isSome || (List.range i).any (fun j => lntLaneUplink s j == some u)

/-- R250, R253: lane `i` at a tick; `due`: its setting takes effect there. It is judged then, and when a stream or a lower-numbered lane takes its
uplink; a conflict stays until its lane is set again. -/
def lintelConflict (due : List Nat) (i : Nat) (s : State) : State :=
  let mark := fun (on : Bool) (t : State) => t.modLnt fun x =>
    { x with conflicts := if on then x.conflicts ||| ((1 : BitVec 8) <<< i) else x.conflicts &&& ~~~ ((1 : BitVec 8) <<< i) }
  match lntLaneUplink s i with
  | some u =>
    let bad := laneBad s i u
    let was := s.lnt.conflicts.getLsbD i
    let now := bad || (was && !due.contains i)
    let s := mark now s
    if bad && (due.contains i || !was) then raise Src.lntLaneConflict i ([w32 i, w32 u] ++ capCourse (nowCourse s)) (event .lntEvt 0 20 s) else s
  | none => mark false s

/-- R250: every lane's conflict at a tick. -/
def lintelConflicts (due : List Nat) (s : State) : State := forN 8 (lintelConflict due) s

/-- R246: at the tick that starts course `c` a Lintel whose domain is ON enters RUNNING with an empty history. -/
def lintelTick (c : Nat) (s : State) : State :=
  if (s.lnt.phase == .off || s.lnt.phase == .hold) && domOn s 75 && !isIsolated s .lintel then
    s.modLnt fun x => { x with
      phase := .running, nextClose := c * 64, entered := c * 64, groups := [], startUntil := c * 64 + 8, lateTap := false, lastLate := false
      fallSkip := none, formed := [], losses := [] }
  else if s.lnt.phase == .running then s
  else s.modLnt fun x => { x with tablesNew := false }

/-- R252, R306: isolation takes effect. -/
def lintelIsolate (s : State) : State := skipRunEnds (s.modLnt fun x => { x with phase := .isolated, groups := [], formed := [] })

/-- Domain 75 leaves ON: STATE shows the state that the domain goes to. -/
def lintelOff (hold : Bool) (s : State) : State :=
  skipRunEnds (s.modLnt fun x => { x with phase := if hold then .hold else .off, groups := [], formed := [] })

/-- R251: the data plane stops: no record reaches the tap, the history empties. -/
def lintelStop (s : State) : State := s.modLnt fun x => { x with groups := x.groups.map (fun e => (e.1, { e.2 with recs := [] })) |>.filter (fun e => decide (e.2 ≠ .blank)) }

/-- R246: a formed frame as it leaves after a return: with START. -/
def LntFrame.start (f : LntFrame) : LntFrame := { f with words := f.words.set 0 (f.words.getD 0 0 ||| BitVec.ofNat 64 (2 ^ 40)) }

/-- R246, R251: the uplinks return after a stop: the frames that were formed before and leave from now on, and those of the 8 groups that
arrive next, carry START. -/
def lintelRestart (s : State) : State :=
  skipRunEnds (s.modLnt fun x => { x with startUntil := nowGbt s + 8, formed := x.formed.map LntFrame.start })

/-! ### What the registers show -/

/-- LNT_STAT. -/
def lntStatRead (s : State) : Word :=
  let st := match s.lnt.phase with | .off => 0 | .hold => 1 | .running => 2 | .isolated => 3
  let snd := if lintelSends s then (sendingLanes s).foldl (fun n i => n + 2 ^ i) 0 else 0
  mkFld 10 9 st ||| mkFld 8 8 (s.lnt.phase == .running && decide (s.lnt.nextClose < s.lnt.startUntil)).toNat ||| mkFld 7 0 snd

end Sys2Proof.Machine
end

