-- ==== Sys2Proof/Machine/LodgeCore.lean ====
section
/-!
DEFINITION. The Lodge's mailboxes: submission, order and resources, completion, responses, acknowledgement (R364 to R376).
-/
namespace Sys2Proof.Machine

def State.modLdg (f : Lodge → Lodge) (s : State) : State := { s with ldg := f s.ldg }
def mailbox (s : State) (m : Nat) : Mailbox := smGet .reset s.ldg.boxes m
def modBox (m : Nat) (f : Mailbox → Mailbox) (s : State) : State := s.modLdg fun x => { x with boxes := smUpd .reset x.boxes m f }

/-- Word `i` of a descriptor. -/
def LdgCmd.w (x : LdgCmd) (i : Nat) : Word := x.words.getD i 0
/-- OPCODE (R371). -/
def LdgCmd.opcode (x : LdgCmd) : Nat := fld (x.w 0) 31 24

/-! ### Submission and acknowledgement (R365, R366, R369) -/

/-- R366: commands of a mailbox in flight: waiting, running, completed and not acknowledged. -/
def inFlight (s : State) (m : Nat) : Nat :=
  let b := mailbox s m
  b.queue.length + (if b.run.isSome then 1 else 0) + b.done.length + (if b.held.isSome then 1 else 0)

/-- R367: the rank of a submission in Lodge order: that of the last one where it arrives in the same core cycle, else the next. -/
def nextRank (s : State) : Nat := if s.ldg.rankAt = some (nowStamp s) then s.ldg.rank else s.ldg.rank + 1

/-- R365 to R367: a write of SUBMIT. The place in Lodge order is the rank, then the mailbox number. -/
def ldgSubmit (m : Nat) (s : State) : State :=
  if 4 ≤ inFlight s m then event .ldgEvt 0 16 s
  else
    let words := (List.range 16).map (fun i => cell s .ldgCmd m i)
    let n := nextSqc (mailbox s m).lastSeq
    let o := nextRank s
    (modBox m (fun b => { b with lastSeq := n, queue := b.queue ++ [⟨n, 8 * o + m, words⟩] }) s).modLdg fun x =>
      { x with rank := o, rankAt := some (nowStamp s) }

/-- R369: a write of LDG_MB_ACK. -/
def ldgAck (m seq : Nat) (s : State) : State :=
  if (mailbox s m).held = some seq then modBox m (fun b => { b with held := none }) s else event .ldgEvt 0 17 s

/-! ### Resources and start (R367, R373) -/

/-- The resources of R373. -/
inductive LdgRes where
  | power | quoin | job | retire | scrub | gauge | recorder
  | partner (p : Nat)
  | table (g : Nat)
  deriving DecidableEq, Repr

/-- The set bits of a word, as numbers from `base`. -/
def wordBits (w : Word) (base : Nat) : List Nat := ((List.range 32).filter (fun b => bit w b)).map (base + ·)

/-- R377: the resources of a command. -/
def LdgCmd.resources (x : LdgCmd) : List LdgRes :=
  match x.opcode with
  | 0x01 => [.power]
  | 0x10 | 0x11 => [.partner (fld (x.w 1) 21 16)]
  | 0x13 => (wordBits (x.w 1) 0 ++ wordBits (x.w 2) 32).map .partner
  | 0x20 | 0x22 => [.table (fld (x.w 1) 4 0)]
  | 0x21 => (wordBits (x.w 1) 0).map .table
  | 0x30 => [.quoin]
  | 0x40 | 0x41 | 0x42 => [.job]
  | 0x50 | 0x51 => [.retire]
  | 0x52 => [.scrub]
  | 0x60 => [.gauge]
  | 0x70 | 0x71 | 0x72 => [.recorder]
  | _ => []

/-- Commands that hold their resources. -/
def runningCmds (s : State) : List LdgCmd := s.ldg.boxes.filterMap (fun e => e.2.run.map (·.cmd))

/-- Commands that wait. -/
def waitingCmds (s : State) : List LdgCmd := s.ldg.boxes.flatMap (fun e => e.2.queue)

/-- R367, R373: the mailbox's next command, if it can start now: no command before it in the mailbox runs, and no running command
and no earlier waiting command needs one of its resources. -/
def startable (s : State) (m : Nat) : Option LdgCmd :=
  let b := mailbox s m
  match b.run, b.queue with
  | none, x :: _ =>
    let taken := (runningCmds s ++ (waitingCmds s).filter (fun y => decide (y.order < x.order))).flatMap (·.resources)
    if x.resources.any (fun r => taken.contains r) then none else some x
  | _, _ => none

/-- The port of a mailbox (R364). -/
def boxPort (m : Nat) : Nat := m / 4

/-! ### Completion (R371, R372, R374) -/

/-- A command starts and goes on waiting (R374). -/
def ldgRun (m : Nat) (x : LdgCmd) (w : LdgWait) (s : State) : State :=
  modBox m (fun b => { b with queue := b.queue.tail, run := some ⟨x, nowStamp s, w, false⟩ }) s

/-- Core cycles from one moment to a later one. -/
def cyclesSince (a b : Stamp) : Nat := b.course * 1536 + b.cycle - (a.course * 1536 + a.cycle)

/-- R371, R372: a command that started at `t` completes: its response joins the mailbox's queue. -/
def ldgFinish (m : Nat) (x : LdgCmd) (t : Stamp) (status detail : Nat) (res : List Word) (s : State) : State :=
  let r0 := (x.w 0 &&& 0xFF00FFFF) ||| mkFld 23 16 status
  let r1 := mkFld 31 16 x.seq ||| mkFld 15 0 detail
  let body := (res ++ List.replicate 13 0).take 13
  let words := [r0, r1, w32 ((cyclesSince t (nowStamp s) + 1023) / 1024)] ++ body
  let s := modBox m (fun b => { b with done := b.done ++ [(x.seq, words)] }) s
  let s := countWrap .ldgCnt 0 31 16 s
  if status = 0 then s
  else
    raise Src.ldgCmdError m [w32 m, w32 x.opcode, w32 status] (event .ldgEvt 0 18 (count .ldgCnt 0 15 0 1 s))

/-- A running command waits for something else from here on. -/
def setWait (m : Nat) (w : LdgWait) (s : State) : State := modBox m (fun b => { b with run := b.run.map (fun r => { r with wait := w }) }) s

/-- A command that starts and completes in one step. -/
def ldgAtOnce (m : Nat) (x : LdgCmd) (status detail : Nat) (res : List Word) (s : State) : State :=
  ldgFinish m x (nowStamp s) status detail res (modBox m (fun b => { b with queue := b.queue.tail }) s)

/-- The running command of a mailbox completes. -/
def ldgComplete (m : Nat) (status detail : Nat) (res : List Word) (s : State) : State :=
  match (mailbox s m).run with
  | some r => ldgFinish m r.cmd r.started status detail res (modBox m (fun b => { b with run := none }) s)
  | none => s

/-- R368: a completed response enters the free buffer; VALID is set and the response vector signalled. A POWER_SET that turned its
own port off is held until the port returns (R380). -/
def responsePlaced (m : Nat) (s : State) : State :=
  let b := mailbox s m
  match b.held, b.done with
  | none, (n, ws) :: t =>
    if fld (ws.getD 0 0) 31 24 = 1 ∧ !domOn s (50 + boxPort m) then s
    else
      let s := modBox m (fun b => { b with done := t, held := some n }) s
      signalPort (boxPort m) (1 + m % 4) (forN 16 (fun i t => setCell .ldgRsp m i (ws.getD i 0) t) s)
  | _, _ => s

/-- Core cycles of a time per unit of 1,024 or 2^20 bytes, for a number of bytes, rounded up. -/
def perBytes (cycles unit bytes : Nat) : Nat := (cycles * bytes + unit - 1) / unit

/-- Core cycles of one integration period of converter `k` (R392), 9.6 for each cycle of QUO_XO. -/
def periodCore (s : State) (k : Nat) : Nat :=
  let n := match fld (cell s .gauConvCfg k) 1 0 with | 0 => 1 | 1 => 2 | 2 => 5 | _ => 10
  n * (if bit (cell s .gauCtl) 2 then 1666667 else 2000000) * 96 / 10

/-- R377: the maximum execution time of a running command, in core cycles at 40.000 MHz (960 in 1 µs). -/
def ldgMaximum (s : State) (r : LdgRun) : Nat :=
  let us := 960
  let ms := 960000
  match r.cmd.opcode, r.wait with
  | 0x01, .power to_ _ _ _ changed =>
    200 * us * changed.length + (if to_ = .on then 5 * ms * (changed.filter (fun n => n == 69 || n == 70)).length else 0)
  | 0x10, _ | 0x21, _ | 0x30, _ | 0x31, _ => 2 * 1536
  | 0x32, _ => 3 * 1536
  | 0x11, _ => 5200 * 24
  | 0x13, _ => 1024 * 24 + 2 * 1536
  | 0x20, .load l | 0x22, .load l => 200 * us + perBytes (2 * us) 1024 (2 * l.entries.length)
  | 0x40, .job (some j) => 10 * ms + perBytes ms (2 ^ 20) (8 * j.out.length)
  | 0x41, .job (some j) | 0x42, .job (some j) => 10 * ms + perBytes ms (2 ^ 20) j.read
  | 0x60, .selfcal mask =>
    24 * ((List.range 21).filter (fun k => mask.testBit k)).foldl (fun a k => max a (periodCore s k)) 0 + 20 * ms
  | 0x02, _ | 0x12, _ | 0x51, _ | 0x52, _ => 10 * us
  | 0x50, _ | 0xF0, _ => 100 * us
  | 0x80, _ => 50 * us
  | 0x70, _ => ms
  | 0x72, _ => 20 * ms
  | _, _ => 10 * ms

/-- LDG_OVERTIME (R374): the running command of a mailbox has run for `cycles`, counted without the times that R374 excludes; once that is above its
maximum, it is raised once. -/
def ldgOvertime (m cycles : Nat) (s : State) : State :=
  match (mailbox s m).run with
  | some r =>
    if r.overtime || decide (cycles ≤ ldgMaximum s r) then s
    else
      let s := modBox m (fun b => { b with run := some { r with overtime := true } }) s
      raise Src.ldgOvertime m [w32 m, w32 r.cmd.opcode, w32 cycles] (event .ldgEvt 0 19 (count .ldgOvertime 0 31 0 1 s))
  | none => s

/-! ### The common checks (R371, R372) -/

/-- The bits of descriptor words 1 to 15 that a command uses (R378). -/
def usedBits (x : LdgCmd) : List Word :=
  let all : Word := BitVec.allOnes 32
  let buf := fun (l : List Word) => l ++ List.replicate (11 - l.length) 0 ++ [all, all, all, all]
  match x.opcode with
  | 0x01 => [3, all, all, 0xFFFF]
  | 0x10 => [if bit (x.w 1) 31 then 0x803F0000 else 0x803FFF07]
  | 0x11 => if fld (x.w 1) 7 4 = 2 then [0x003F00F0, all] else [0x003F00F0, all, all, all]
  | 0x12 => [1, all, all, all, all, all, all, all, all]
  | 0x13 => [all, all]
  | 0x20 => if bit (x.w 1) 31 then [0x8001001F, 0x7FFFF, 0xFFFFF] else [0x8001001F, 0x7FFFF, 0xFFFFF, 0xF, all]
  | 0x22 => if bit (x.w 1) 31 then [0x8001001F, 0x3F3F] else [0x8001001F, 0x3F3F, 0, 0xF, all]
  | 0x21 => [all, 0x303]
  | 0x30 => [3]
  | 0x31 => [7]
  | 0x32 => [0x003F013F]
  | 0x40 => buf [1, 0x00FFFFFF, all, 0x003FFFFF, all]
  | 0x41 => buf [0, all, all, 0x007FFFFF, all, all]
  | 0x42 => [0, 0x00FFFFFF, all, 0x003FFFFF, all]
  | 0x50 => [0xFFF3FFFF]
  | 0x51 => [0xFFF]
  | 0x52 => [0xFFFF07FF]
  | 0x60 => [all]
  | 0x70 | 0x71 => buf []
  | 0x72 => [all]
  | 0x80 => if bit (x.w 1) 31 then [0x80017FFF, all, all] else 0x80017FFF :: List.replicate 14 all
  | 0xF0 =>
    match fld (x.w 1) 1 0 with
    | 0 => 3 :: List.replicate 13 all
    | 1 => [3, 0xF, all, all]
    | 2 => [3, 0, 0, all, all, all, all, all, all, all, all, all, all]
    | _ => [3]
  | _ => []

/-- R371: bits that a command does not use are 0. -/
def unusedZero (x : LdgCmd) : Bool :=
  fld (x.w 0) 23 16 == 0 && (List.range 15).all (fun i => x.w (i + 1) &&& ~~~ ((usedBits x).getD i 0) == 0)

/-- R378: buffer address and length are multiples of 8. -/
def bufferGood (x : LdgCmd) : Bool := (x.w 13).toNat % 8 == 0 && (x.w 15).toNat % 8 == 0

/-- R377: the commands that only the owner may give. -/
def ownerOnly (op : Nat) : Bool :=
  [0x01, 0x10, 0x11, 0x12, 0x13, 0x20, 0x21, 0x22, 0x30, 0x31, 0x32, 0x50, 0x52, 0x60, 0x72].contains op

/-- R372, R348: HST_OWNER names the other port. -/
def notOwner (s : State) (m op : Nat) : Bool :=
  let o := fld (cell s .hstOwner) 1 0
  ownerOnly op && !(o == 0 || o == boxPort m + 1)

/-! ### What the registers show (R386) -/

/-- LDG_STAT. -/
def ldgStatRead (s : State) : Word :=
  mkFld 19 16 (runningCmds s).length ||| mkFld 15 8 ((waitingCmds s).filter (fun x => x.resources.contains .job)).length

/-- LDG_MB_STAT. -/
def ldgMbStatRead (s : State) (m : Nat) : Word :=
  let b := mailbox s m
  mkFld 31 16 b.lastSeq ||| mkFld 9 9 b.held.isSome.toNat ||| mkFld 8 8 b.run.isSome.toNat ||| mkFld 7 5 (inFlight s m)

end Sys2Proof.Machine
end

