-- ==== Sys2Proof/Machine/Hbm.lean ====
section
/-!
DEFINITION. HBM: the quarry address space (R172 to R174), its bytes in canonical form, the written-bitmap, what it takes to serve
an access, and row addresses.
-/
namespace Sys2Proof.Machine

/-- What an unlisted address of HBM reads as, a DESIGN CHOICE: the spec gives HBM no content before its first write. -/
abbrev hbmBlank : Byte := 0

/-- The byte at a QA. -/
def hbmByte (m : List Host.Cell) (a : Nat) : Byte := smGet hbmBlank m a

/-- `n` bytes from a QA on. -/
def hbmRead (m : List Host.Cell) (a n : Nat) : List Byte := (List.range n).map (fun i => hbmByte m (a + i))

/-- Write bytes from a QA on. -/
def hbmWrite : List Host.Cell → Nat → List Byte → List Host.Cell
  | m, _, [] => m
  | m, a, b :: t => hbmWrite (smPut hbmBlank m a b) (a + 1) t

/-- The canonical form of memory: addresses strictly rising, no entry equal to what an unlisted address reads as. -/
abbrev Memory.wf (m : List Host.Cell) : Bool := smWf hbmBlank m

/-- The 64-bit words of a byte list, most significant byte first (R157, R175). -/
def toWords : Nat → List Byte → List DWord
  | 0, _ => []
  | n + 1, bs => BitVec.ofNat 64 (beNat (bs.take 8)) :: toWords n (bs.drop 8)

/-- The bytes of 64-bit words, most significant byte first. -/
def wordBytes (ws : List DWord) : List Byte := ws.flatMap (fun w => beBytes 8 w.toNat)

/-- `n` words from a QA on. -/
def hbmWords (s : State) (a n : Nat) : List DWord := toWords n (hbmRead s.hbm.bytes a (8 * n))

/-- R174: mark the granules of `n` bytes from `a` as written. -/
def markWritten (a n : Nat) (m : SMap Bool) : SMap Bool :=
  (List.range ((a + n - 1) / 4096 + 1 - a / 4096)).foldl (fun t i => smPut false t (a / 4096 + i) true) m

/-- A write to HBM: the bytes and the written-bitmap (R174). -/
def State.hbmStore (a : Nat) (bs : List Byte) (s : State) : State :=
  if bs.isEmpty then s
  else { s with hbm := { s.hbm with bytes := hbmWrite s.hbm.bytes a bs, written := markWritten a bs.length s.hbm.written } }

/-! ### Regions (R172) -/

/-- Number of stones. -/
abbrev stoneCount : Nat := 11534336
/-- First QA of the index. -/
abbrev qaIndex : Nat := 0x0B00000000
/-- First QA of the archive copies. -/
abbrev qaArchive : Nat := 0x0B40000000
/-- First QA of the image area. -/
abbrev qaImage : Nat := 0x0B44000000
/-- First QA of host scratch. -/
abbrev qaScratch : Nat := 0x0B80000000
/-- First QA of the retirement reserve. -/
abbrev qaReserve : Nat := 0x0BC0000000
/-- The end of the quarry address space. -/
abbrev qaEnd : Nat := 0x0C00000000

/-- R173: the controller of a QA. -/
def qaController (a : Nat) : Nat := a / 4096 % 4

/-- R173: the stack of a controller. -/
def ctlStack (c : Nat) : Nat := c / 2

/-- R173: the stack of a QA. -/
def qaStack (a : Nat) : Nat := ctlStack (qaController a)

/-- R173: the pseudo-channel of a QA in its stack: its controller spreads a granule over its 16 in pieces of 256 bytes. DEDUCED: in rising order, the
even controller's first. -/
def qaPseudo (a : Nat) : Nat := 16 * (qaController a % 2) + a / 256 % 16

/-- A controller serves accesses: its domain ON, not isolated (R196). -/
def ctlServes (s : State) (c : Nat) : Bool := domOn s (65 + c) && !isIsolated s (.quarryCtl c)

/-- QRY_STAT.ABSENT (R199): bits 0 to 3 a controller not ON or isolated, bits 4 and 5 a stack not ON. -/
def qryAbsent (s : State) : Nat :=
  (List.range 4).foldl (fun t c => t + if ctlServes s c then 0 else 2 ^ c) 0 +
    (if domOn s 69 then 0 else 16) + (if domOn s 70 then 0 else 32)

/-- A domain that keeps contents: ON or HOLD. -/
def domKeeps (s : State) (n : Nat) : Bool := (powerDom s n).phase != .off && (powerDom s n).goal != some .off

/-- R193: a stack keeps its contents. -/
def stackKeeps (s : State) (k : Nat) : Bool := domKeeps s (69 + k) && domKeeps s (65 + 2 * k) && domKeeps s (66 + 2 * k)

/-- R196: a granule is reachable: its controller serves and its stack is ON with contents. -/
def qaReachable (s : State) (a : Nat) : Bool :=
  ctlServes s (qaController a) && domOn s (69 + ctlStack (qaController a)) && stackKeeps s (ctlStack (qaController a))

/-- Every domain that the quarry needs is ON: 65 to 70 (R421). -/
def quarryDomainsOn (s : State) : Bool := (List.range 6).all (fun i => domOn s (65 + i))

/-! ### Row addresses. The spec names rows by stack, pseudo-channel, bank, row and column. R173 gives stack and pseudo-channel of a QA; bank, row and
column, for which it gives no map, come with the event. -/

/-- A row as CMD[1] of RETIRE_ADD names it (R378), with the column beside it in captures. -/
def rowCapture (loc : Word) (col : Nat) : List Word :=
  [w32 (fld loc 31 31), w32 (fld loc 30 26), w32 (fld loc 25 20), w32 (fld loc 17 0), w32 col]

/-- The place of an error at a QA as captures give it (R332): stack and pseudo-channel of the QA, bank, row and column of the event. -/
def locCapture (qa : Nat) (x : HbmLoc) : List Word :=
  [w32 (qaStack qa), w32 (qaPseudo qa), w32 (fld x.row 25 20), w32 (fld x.row 17 0), w32 x.col.toNat]

end Sys2Proof.Machine
end

