-- ==== Sys2Proof/Machine/Quarry.lean ====
section
/-!
DEFINITION. The quarry: the writer and its stones, the index, history, service and halt, the reading of blocks, damage marks, the
search by time (chapter 08).
-/
namespace Sys2Proof.Machine

def State.modQry (f : Quarry → Quarry) (s : State) : State := { s with qry := f s.qry }
def State.modRing (f : Ring → Ring) (s : State) : State := { s with ring := f s.ring }

def quarter (s : State) (m : Nat) : Quarter := smGet .reset s.ring.quarters m
def modQuarter (m : Nat) (f : Quarter → Quarter) (s : State) : State := s.modRing fun r => { r with quarters := smUpd .reset r.quarters m f }
def coder (s : State) (m : Nat) : Coder := smGet .reset s.ring.coders m
def modCoder (m : Nat) (f : Coder → Coder) (s : State) : State := s.modRing fun r => { r with coders := smUpd .reset r.coders m f }

/-- What held at the close of course `c`, if it is one of the newest 64. -/
def closeRec (s : State) (c : Nat) : Option CloseRec := s.ring.closes.find? (fun r => r.course == c)

/-! ### History (R182 to R184) -/

/-- H; past P when every published course has left; the course in which the quarry entered service while none has been published (R182, R184). -/
def historyStart (s : State) : Nat :=
  match s.qry.newest with
  | some _ => s.qry.hist
  | none => s.qry.entered

/-- The depth P − H + 1; 0 while nothing is published. -/
def qryDepth (s : State) : Nat :=
  match s.qry.newest with
  | some p => p + 1 - historyStart s
  | none => 0

/-- R183, R199: the depth register, its minimum, and the floor, after P or H has moved. -/
def depthMoved (s : State) : State :=
  let d := qryDepth s
  let wasOk := decide (fld (cell s .qryDepth) 21 0 ≥ 80000)
  let s := modCell .qryDepth 0 0 (fun w => setFld w 21 0 d) s
  let s := if s.qry.floorReached || s.qry.minCleared then modCell .qryDepthMin 0 0 (fun w => setFld w 21 0 (min d (fld w 21 0))) s else s
  if d ≥ 80000 then
    if s.qry.floorReached then s else modCell .qryDepthMin 0 0 (fun w => setFld w 21 0 d) (s.modQry fun q => { q with floorReached := true })
  else if s.qry.floorReached && wasOk then
    raise Src.qryFloorBreach 0 (w32 d :: capCourse (nowCourse s)) (event .qryEvt 0 17 s)
  else s

/-! ### The index entry (R178 to R180) -/

/-- QA of the entry of course `c`. -/
def entryQa (c : Nat) : Nat := qaIndex + 512 * (c % 2097152)

/-- The CRC-32C of an entry's words 0 to 62, with word 0 bit 7 taken as 0. -/
def entryCrc (ws : List DWord) : Nat :=
  match ws.take 63 with
  | w :: t => (crc32c (wordBytes ((w &&& ~~~ (BitVec.ofNat 64 128)) :: t))).toNat
  | [] => 0

/-- An entry with its CRC in word 63. -/
def sealEntry (ws : List DWord) : List DWord := ws.take 63 ++ [BitVec.ofNat 64 (entryCrc ws)]

/-- Store an entry. -/
def storeEntry (c : Nat) (ws : List DWord) (s : State) : State := s.hbmStore (entryQa c) (wordBytes (sealEntry ws))

/-- A signed 32-bit BT relative to BT 0 of course `c`, limited to the range. -/
def relBt (c b : Nat) : Nat := unsigned 32 (satSigned 32 ((b : Int) - (c * 64 : Nat)))

/-- R180: the two words of an account record. -/
def accountWords (c : Nat) (a : Account) : List DWord :=
  [BitVec.ofNat 64 (a.partner * 2 ^ 58 + a.cause * 2 ^ 54 + a.count * 2 ^ 38 + relBt c a.first),
   BitVec.ofNat 64 ((if a.open_ then 0x7FFFFFFF else relBt c a.last) * 2 ^ 32 + (if a.cause ≤ 2 then a.lane else 255))]

/-- The accounts of every table group that mark course `c` for some partner, by partner and then cause (R180); for a published course also those that
a group dropped when it went OFF later (R120). -/
def markingAccounts (s : State) (c : Nat) : List Account :=
  sortBy (fun a b => decide (a.partner < b.partner) || (a.partner == b.partner && decide (a.cause ≤ b.cause)))
    ((s.groups.flatMap (fun e => e.2.accounts ++ (e.2.dropped.filter (fun x => decide (c < x.2))).map (·.1))).filter (fun a => acctMarks a a.partner c))

/-- R289, R120: the table group was unavailable in a span that, widened by 64 BT, overlaps course `c`, or lost its accounts of it. -/
def groupMarks (s : State) (g c : Nat) : Bool :=
  (tgroup s g).offSpans.any (fun x => decide (x.1 ≤ c * 64 + 63 + 64) &&
    (match x.2 with | some l => decide (c * 64 ≤ l + 64) | none => true)) ||
  (tgroup s g).lost.any (fun x => decide (x.1 ≤ c) && decide (c ≤ x.2))

/-- R84, R117, R289: partner `p` of table group `g` is marked possibly incomplete in course `c`. -/
def incomplete (s : State) (p g c : Nat) : Bool :=
  (tgroup s g).accounts.any (fun a => acctMarks a p c) || groupMarks s g c

/-- R178, R84, R117: the INCOMPLETE word of a course: its bound partners that are marked, and partners no longer bound with an account of their own. -/
def incompleteMask (s : State) (cr : CloseRec) : Nat :=
  let accts := markingAccounts s cr.course
  maskBits ((List.range 64).filter (fun p =>
    cr.partners.any (fun x => x.1 == p && incomplete s p x.2 cr.course) || accts.any (fun a => a.partner == p && !a.allPartners)))

/-- R179: the group descriptor of a stored block, or of an absent one. Cause 1: a partner was bound, or the quarter that went held entries. -/
def groupDesc (cr : CloseRec) (lost : List (Nat × Nat)) (blocks : List BlockLoc) (g : Nat) : DWord :=
  match blocks.find? (fun b => b.group == g) with
  | some b => BitVec.ofNat 64 (b.stone * 2 ^ 40 + b.offset * 2 ^ 31 + b.words * 2 ^ 15 + 128 + b.raw.toNat * 64)
  | none => BitVec.ofNat 64 (if cr.partners.any (fun x => x.2 == g) || lost.contains (cr.course, g) then 1 else 0)

/-- R178: the six TGROUP words. -/
def tgroupWords (cr : CloseRec) : List DWord :=
  (List.range 6).map fun w =>
    BitVec.ofNat 64 ((cr.partners.filter (fun x => x.1 / 12 == w)).foldl (fun m x => m + x.2 * 2 ^ (5 * (x.1 % 12))) 0)

/-- The 18 account words of an entry, zero where there is no record. -/
def accountArea (c : Nat) (l : List Account) : List DWord :=
  let ws := (l.take 9).flatMap (accountWords c)
  ws ++ List.replicate (18 - ws.length) 0

/-- Absolute time and quality that the Quoin latched for course `c` (R41). -/
def courseTime (s : State) (c : Nat) : CourseTime := ((s.quo.courses.find? (fun t => t.course == c))).getD ⟨c, ⟨0, 0, 0⟩, 2⟩

/-- Absolute time as words 1 and 2 of an entry. -/
def timeWords (t : AbsTime) (low : Nat) : List DWord :=
  [t.sec, BitVec.ofNat 64 (t.ns.toNat * 2 ^ 32 + t.frac.toNat * 65536 + low)]

/-- The stone written last, before those that wait and the open one: a course without blocks names it as its first and last. DESIGN CHOICE. -/
def lastWritten (s : State) : Nat := (s.qry.writer + stoneCount - s.qry.full.length - 1) % stoneCount

/-- R178: the words 0 to 62 of the entry of a course. -/
def entryWords (s : State) (cr : CloseRec) (blocks : List BlockLoc) : List DWord :=
  let c := cr.course
  let t := courseTime s c
  let accts := markingAccounts s c
  let descs := (List.range 32).map (groupDesc cr s.ring.heldLost blocks)
  let inc := incompleteMask s cr
  let partial_ := descs.any (fun d => dfld d 7 7 == 0 && dfld d 3 0 != 0)
  let stones := blocks.map (fun b => (b.stone, (b.stone + (b.offset + b.words - 1) / 509) % stoneCount))
  let first := (stones.head?.map (·.1)).getD (lastWritten s)
  let last := (stones.getLast?.map (·.2)).getD (lastWritten s)
  [BitVec.ofNat 64 (c * 256 + (if accts.length > 9 then 32 else 0) + partial_.toNat * 16 + t.quality)] ++ timeWords t.time 0 ++
    [BitVec.ofNat 64 inc, 0, BitVec.ofNat 64 (maskBits (cr.partners.map (·.1)))] ++ descs ++ tgroupWords cr ++
    accountArea c accts ++ [BitVec.ofNat 64 (min 9 accts.length * 2 ^ 56 + last * 2 ^ 24 + first)]

/-- What a reader finds in the slot of course `c`: a good entry, or a failing one (R190). -/
def readIndex (s : State) (c : Nat) : Option (List DWord) :=
  let ws := hbmWords s (entryQa c) 64
  if dfld (ws.getD 63 0) 31 0 = entryCrc ws ∧ dfld (ws.getD 0 0) 63 8 = c then some ws else none

/-- Absolute time in an entry, in 2⁻¹⁶ ns. -/
def entryTime (ws : List DWord) : Nat :=
  ((ws.getD 1 0).toNat * 1000000000 + dfld (ws.getD 2 0) 63 32) * 65536 + dfld (ws.getD 2 0) 31 16

/-- R191: the index is readable: neither stack is absent, as QRY_STAT.ABSENT shows it. -/
def indexReadable (s : State) : Bool := qryAbsent s == 0

/-- R190: absolute time of a course in 2⁻¹⁶ ns, interpolated at equal courses from the nearest readable entries before and after it. -/
def interpTime (s : State) (c : Nat) : Nat :=
  let near := fun (l : List Nat) => if indexReadable s then l.findSome? (fun k => (readIndex s k).map (fun w => (k, entryTime w))) else none
  match near ((s.qry.published.filter (fun k => decide (k < c))).reverse), near (s.qry.published.filter (fun k => decide (c < k))) with
  | some (a, ta), some (b, tb) => ta + (tb - ta) * (c - a) / (b - a)
  | _, _ => Config.stubTime c

/-- Words 1 and 2 of an entry for a time in 2⁻¹⁶ ns. -/
def unitWords (t : Nat) : List DWord :=
  [BitVec.ofNat 64 (t / 65536 / 1000000000), BitVec.ofNat 64 (t / 65536 % 1000000000 * 2 ^ 32 + t % 65536 * 65536)]

/-- R190: the stub of a course: every group descriptor that the failing entry shows present is DAMAGED. -/
def stubWords (s : State) (c : Nat) : List DWord :=
  let old := hbmWords s (entryQa c) 64
  let one : DWord := BitVec.allOnes 64
  [BitVec.ofNat 64 (c * 256 + (if s.qry.left.contains c then 128 else 0) + 64 + 2)] ++ unitWords (interpTime s c) ++ [0, one, one] ++
    ((old.drop 6).take 32).map (fun d => if dfld d 7 7 = 1 then d ||| 32 else d) ++ List.replicate 24 0 ++ [(old.getD 62 0) &&& 0xFFFFFFFFFFFF]

/-- R190: the entry of a published course as its readers take it. -/
def entryOf (s : State) (c : Nat) : List DWord := (readIndex s c).getD (stubWords s c)

/-- The entry of a course as a read takes it that meets uncorrectable bursts: element stoneCount + k stands for one in index slot k (R190). -/
def entryMet (s : State) (burst : List Nat) (c : Nat) : List DWord :=
  if burst.contains (stoneCount + c % 2097152) then stubWords s c else entryOf s c

/-- An entry that is a stub (R190). -/
def isStub (ws : List DWord) : Bool :=
  ws.getD 4 0 == BitVec.allOnes 64 && ws.getD 5 0 == BitVec.allOnes 64 && ((ws.drop 38).take 6).all (· == 0)

/-- The entry of a course that a slot still holds, be the course in the history or past it, as a read takes it that meets uncorrectable bursts. -/
def entryHeldMet (s : State) (burst : List Nat) (c : Nat) : Option (List DWord) :=
  if s.qry.phase == .running && (s.qry.published.contains c || s.qry.left.contains c) then some (entryMet s burst c) else none

/-- The entry of a course that a slot still holds. -/
def entryHeld (s : State) (c : Nat) : Option (List DWord) := entryHeldMet s [] c

/-- FIRST_STONE of an entry. -/
def firstStone (ws : List DWord) : Nat := dfld (ws.getD 62 0) 23 0
/-- LAST_STONE of an entry. -/
def lastStone (ws : List DWord) : Nat := dfld (ws.getD 62 0) 47 24

/-- The table group of partner `p` in an entry, if it was bound. -/
def entryGroup (ws : List DWord) (p : Nat) : Option Nat :=
  if (ws.getD 5 0).getLsbD p then some (dfld (ws.getD (38 + p / 12) 0) (5 * (p % 12) + 4) (5 * (p % 12))) else none

/-- R189: mark the block of group `g` in course `c` as damaged; a mark already made changes nothing. -/
def markDamaged (c g : Nat) (s : State) : State :=
  let ws := entryOf s c
  let d := ws.getD (6 + g) 0
  if dfld d 7 7 = 0 ∨ dfld d 5 5 = 1 then s
  else
    let ps := maskBits ((List.range 64).filter (fun p => entryGroup ws p == some g))
    let ws := ws.set (6 + g) (d ||| 32)
    let ws := ws.set 0 (ws.getD 0 0 ||| 64)
    let ws := ws.set 4 (ws.getD 4 0 ||| BitVec.ofNat 64 ps)
    count .qryDamaged 0 31 0 1 (event .qryEvt 0 19 (storeEntry c ws s))

/-! ### The writer (R175 to R177) -/

/-- The words of a stone from its payload. -/
def stoneWords (n : Nat) (o : OpenStone) : List DWord :=
  let head : List DWord :=
    [BitVec.ofNat 64 (o.course * 256 + o.group),
     BitVec.ofNat 64 (2 ^ 60 + (if o.raw then 2 else 1) * 2 ^ 58 + (o.firstOffset.getD 0x1FF) * 2 ^ 32 + o.payload.length)]
  let ws := head ++ o.payload ++ List.replicate (509 - o.payload.length) 0
  let top := n * 2 ^ 32
  let crc := crc32c (wordBytes ws ++ beBytes 4 n)
  ws ++ [BitVec.ofNat 64 (top + (if o.bad then ~~~ crc else crc).toNat)]

/-- Block of word `w` of stone `n` in its controller's buffer (memory 7). DESIGN CHOICE: the spec numbers no blocks there. -/
def stoneBlock (n w : Nat) : Nat := n / 4 % 8 * 512 + w

/-- The stone as it is written after an uncorrectable word has been found in its buffer: its CRC inverted (R327). -/
def stoneSpoilt (n : Nat) (ws : List DWord) : List DWord :=
  ws.set 511 (BitVec.ofNat 64 (n * 2 ^ 32 + (~~~ (crc32c (wordBytes (ws.take 511) ++ beBytes 4 n))).toNat))

/-- R327: memory 7: the stone at a block of the buffer of controller `c`, filled or waiting, is written with its CRC inverted. -/
def openStoneError (c b : Nat) (s : State) : State :=
  let here := fun (n : Nat) => n % 4 == c && n / 4 % 8 == b / 512
  s.modQry fun q => { q with
    openStone := if here q.writer then q.openStone.map (fun o => { o with bad := true }) else q.openStone
    full := q.full.map (fun x => if here x.1 then (x.1, stoneSpoilt x.1 x.2) else x) }

/-- R176, R177: the open stone is closed: it waits to be written, and the writer moves on. Its header, padding and CRC fill its buffer. -/
def closeStone (s : State) : State :=
  match s.qry.openStone with
  | some o =>
    let n := s.qry.writer
    let s := eccWrites 7 (n % 4) (stoneBlock n (2 + o.payload.length)) (510 - o.payload.length) (eccWrites 7 (n % 4) (stoneBlock n 0) 2 s)
    s.modQry fun q => { q with full := q.full ++ [(q.writer, stoneWords q.writer o)], writer := (q.writer + 1) % stoneCount, openStone := none }
  | none => s

/-- Put words of a block into the open stone and the stones after it; `begins` while its first word is still to come. -/
def appendWords : Nat → List DWord → Bool → MolBlock → State → State
  | 0, _, _, _, s => s
  | _, [], _, _, s => s
  | n + 1, ws, begins, b, s =>
    let o := s.qry.openStone.getD ⟨[], none, b.course, b.group, b.raw, false⟩
    let o := if begins && o.firstOffset.isNone then { o with firstOffset := some o.payload.length, course := b.course, group := b.group, raw := b.raw } else o
    let room := 509 - o.payload.length
    let w := s.qry.writer
    let s := eccWrites 7 (w % 4) (stoneBlock w (2 + o.payload.length)) (min room ws.length)
      (s.modQry fun q => { q with openStone := some { o with payload := o.payload ++ ws.take room } })
    let s := if room ≤ ws.length then closeStone s else s
    appendWords n (ws.drop room) false b s

/-- R176, R191: a block from a coder is appended, for an indexed course while the quarry is RUNNING; else it is discarded. -/
def appendBlock (b : MolBlock) (s : State) : State :=
  if s.qry.phase == .running && s.qry.jobs.any (fun j => j.course == b.course) then
    let loc : BlockLoc := ⟨b.group, s.qry.writer, (s.qry.openStone.map (·.payload.length)).getD 0, b.words.length, b.raw, b.records⟩
    let s := appendWords (b.words.length + 1) b.words true b s
    s.modQry fun q => { q with jobs := q.jobs.map (fun j => if j.course = b.course then { j with blocks := j.blocks ++ [loc] } else j) }
  else s

/-! ### Pins (R186, R187) -/

/-- Stones from `a` to `b` in write order. -/
def stoneSpan (a b : Nat) : Nat := (b + stoneCount - a) % stoneCount + 1

/-- Stones that a request pins. -/
def QReq.pinned (r : QReq) : Nat := match r.pin with | some (a, b) => stoneSpan a b | none => 0

/-- Stones that all requests pin together. -/
def pinnedStones (s : State) : Nat := s.qry.reads.foldl (fun n r => n + r.pinned) 0

/-- R186: the pin that the published courses of a request need. -/
def pinFor (s : State) (r : QReq) : Option (Nat × Nat) :=
  let cs := r.courses.filter (fun c => s.qry.published.contains c)
  match cs.head?, cs.getLast? with
  | some a, some b => some (firstStone (entryOf s a), lastStone (entryOf s b))
  | _, _ => none

/-- The pin of a request covers the stones from `a` to `b`. -/
def QReq.covers (r : QReq) (a b : Nat) : Bool :=
  match r.pin with
  | some (x, y) => decide (stoneSpan x a ≤ stoneSpan x b) && decide (stoneSpan x b ≤ stoneSpan x y)
  | none => false

/-- R186: a request waits for pin space: its published courses are not all pinned. -/
def pinWaits (s : State) (r : QReq) : Bool :=
  match pinFor s r with
  | some (a, b) => !r.broken && !r.covers a b
  | none => false

/-- R186: the request at place `i` of the list, `r`, pins its stones when the limit of 1,048,576 allows and no earlier request waits. A pin reaches on to
LAST_STONE as its courses are published. -/
def pinRequest (s : State) (i : Nat) (r : QReq) : QReq :=
  match pinFor s r with
  | some (a, b) =>
    if pinWaits s r && !(s.qry.reads.take i).any (pinWaits s) && decide (pinnedStones s - r.pinned + stoneSpan a b ≤ 1048576) then { r with pin := some (a, b) } else r
  | none => r

/-- R186: the request at place `i` pins what it can. -/
def pinAt (i : Nat) (s : State) : State := s.modQry fun q => { q with reads := q.reads.modify i (pinRequest s i) }

/-- R186: every request, in arrival order, pins what it can. -/
def pinAll (s : State) : State := forN s.qry.reads.length pinAt s

/-- The requester word of R480. -/
def requesterWord (r : QReq) : Word := if r.job then w32 (r.owner * 256 + 3) else w32 (r.unit * 256 + 9)

/-- R187: the writer is about to write stone `n`: each request whose pin holds it breaks. -/
def breakPins (n : Nat) (s : State) : State :=
  let hit := fun (r : QReq) => match r.pin with
    | some (a, b) => !r.broken && decide (stoneSpan a n ≤ stoneSpan a b)
    | none => false
  let s1 := s.modQry fun q => { q with reads := q.reads.map (fun r => if hit r then { r with broken := true, pin := none } else r) }
  forL (s.qry.reads.filter hit) (fun r t =>
    raise Src.qryPinBreak (fld (requesterWord r) 15 8) (requesterWord r :: capCourse (r.courses.headD 0) ++ [w32 n] ++ capCourse (nowCourse t))
      (count .qryPinBreaks 0 31 0 1 (event .qryEvt 0 18 t))) s1

/-- R182: the writer is about to write stone `n`: the courses of the history whose FIRST_STONE it is will not be whole any more. -/
def stonePassed (n : Nat) (s : State) : State :=
  s.modQry fun q => { q with passed := q.passed ++ q.published.filter (fun c => !q.passed.contains c && firstStone (entryOf s c) == n) }

/-- R182: while the writer has reached FIRST_STONE of the oldest course of the history, that course leaves it, and H moves to the next indexed course. At
most `k` courses leave. -/
def leaveHistory : Nat → State → State
  | 0, s => s
  | k + 1, s =>
    match s.qry.published with
    | h :: t =>
      if s.qry.passed.contains h then
        let ws := entryOf s h
        let s := s.hbmStore (entryQa h) (wordBytes (ws.set 0 (ws.getD 0 0 ||| 128)))
        leaveHistory k (s.modQry fun q => { q with
          published := t, left := q.left ++ [h], passed := q.passed.filter (fun c => c != h), hist := t.headD ((q.newest.getD h) + 1) })
      else s
    | [] => s

/-- R327: the quarry writer reads the oldest full stone from its buffer. -/
def stoneRead (s : State) : State :=
  match s.qry.full with
  | (n, _) :: _ => eccVisit 7 (n % 4) 7 1 (fun b => b / 512 == n / 4 % 8) (openStoneError (n % 4)) s
  | [] => s

/-- R176, R182, R187: the oldest full stone is written to HBM. -/
def stoneWriteDone (s : State) : State :=
  if s.qry.phase == .running then
    match (stoneRead s).qry.full with
    | (n, ws) :: t =>
      let s := stoneRead s
      let s := leaveHistory s.qry.published.length (stonePassed n (breakPins n s))
      let ws := skewWords (fun i => eccDelta s 7 (n % 4) (stoneBlock n i)) 0 ws
      depthMoved ((s.modQry fun q => { q with full := t }).hbmStore (4096 * n) (wordBytes ws))
    | [] => s
  else s

/-! ### Publication (R181) -/

/-- R181: every quarter that was in service at the close and still is has delivered its blocks of course `c`. -/
def delivered (s : State) (cr : CloseRec) : Bool :=
  cr.quarters.all (fun m => !(quarter s m).inService ||
    (decide (cr.course < (coder s m).next) && (match (coder s m).cur with | some (c, _) => c != cr.course | none => true)))

/-- A block lies in the open stone: it ends there. -/
def inOpenStone (s : State) (b : BlockLoc) : Bool :=
  s.qry.openStone.isSome && (b.stone + (b.offset + b.words - 1) / 509) % stoneCount == s.qry.writer

/-- R177: a course whose last block has reached the writer has a block in the open stone at or after core cycle 1,024 of the fifth course after it. -/
def closeDue (s : State) : Bool :=
  s.qry.jobs.any (fun j => j.blocks.any (inOpenStone s) &&
    (decide (j.course + 5 < nowCourse s) || (j.course + 5 == nowCourse s && decide (1024 ≤ nowCycle s))) &&
    (match closeRec s j.course with | some cr => delivered s cr | none => false))

/-- R177: the open stone is padded and closed, when that is due. -/
def stoneClose (s : State) : State := if s.qry.phase == .running && closeDue s then closeStone s else s

/-- R181: every stone of a course's blocks is in HBM. -/
def stonesWritten (s : State) (j : IndexJob) : Bool :=
  let waiting := s.qry.writer :: s.qry.full.map (·.1)
  j.blocks.all (fun b => (List.range ((b.offset + b.words - 1) / 509 + 1)).all (fun i => !waiting.contains ((b.stone + i) % stoneCount)))

/-- R181: the next indexed course's entry may be written. -/
def publishReady (s : State) : Option (IndexJob × CloseRec) :=
  if s.qry.phase == .running then
    match s.qry.jobs with
    | j :: _ =>
      match closeRec s j.course with
      | some cr => if delivered s cr && stonesWritten s j then some (j, cr) else none
      | none => none
    | [] => none
  else none

/-- R181, R182: the entry is written: P moves, and H to P − 2,097,151 where the slot of an older H is reused; the first course of a history is H. -/
def publish (j : IndexJob) (cr : CloseRec) (s : State) : State :=
  let s := storeEntry j.course (entryWords s cr j.blocks) s
  let c := j.course
  pinAll (depthMoved (s.modQry fun q => { q with
    jobs := q.jobs.tail
    published := (q.published ++ [c]).filter (fun k => decide (c < k + 2097152))
    left := q.left.filter (fun k => decide (c < k + 2097152))
    passed := q.passed.filter (fun k => decide (c < k + 2097152))
    hist := if q.published.isEmpty then c else max q.hist (c - 2097151)
    newest := some c }))

/-- R181: accounts that came later are merged into a published entry, no more than once per course tick. -/
def indexRewrite (c : Nat) (s : State) : State :=
  if s.qry.phase == .running && s.qry.published.contains c && smGet 0 s.qry.rewritten c != nowCourse s + 1 then
    match closeRec s c, readIndex s c with
    | some cr, some ws =>
      let accts := markingAccounts s c
      let inc := incompleteMask s cr
      let w0 := (ws.getD 0 0 &&& ~~~ (BitVec.ofNat 64 32)) ||| BitVec.ofNat 64 (if accts.length > 9 then 32 else 0)
      let ws := (ws.set 0 w0).set 3 (ws.getD 3 0 ||| BitVec.ofNat 64 inc)
      let ws := ws.take 44 ++ accountArea c accts ++
        [((ws.getD 62 0) &&& 0x00FFFFFFFFFFFFFF) ||| BitVec.ofNat 64 (min 9 accts.length * 2 ^ 56)]
      (storeEntry c ws s).modQry fun q => { q with rewritten := smPut 0 (q.rewritten.filter (fun e => decide (c ≤ e.1 + 64))) c (nowCourse s + 1) }
    | _, _ => s
  else s

/-! ### Reading (R184 to R188) -/

/-- The words of a stone in HBM. -/
def stoneAt (s : State) (n : Nat) : List DWord := hbmWords s (4096 * n) 512

/-- R175: a stone's STONE and CRC hold. -/
def stoneGood (s : State) (n : Nat) : Bool :=
  let bs := hbmRead s.hbm.bytes (4096 * n) 4096
  beNat ((bs.drop 4088).take 4) == n && beNat (bs.drop 4092) == (crc32c (bs.take 4092)).toNat

/-- The stones of a block from its descriptor. -/
def descStones (d : DWord) : List Nat :=
  (List.range ((dfld d 39 31 + dfld d 30 15 + 508) / 509)).map (fun i => (dfld d 63 40 + i) % stoneCount)

/-- The words of a block, taken from its stones' payloads. -/
def blockWords (s : State) (d : DWord) : List DWord :=
  (((descStones d).flatMap (fun n => ((stoneAt s n).drop 2).take 509)).drop (dfld d 39 31)).take (dfld d 30 15)

/-- R188: the first stone of a block that fails its check, or meets an uncorrectable burst. -/
def badStone (s : State) (d : DWord) (burst : List Nat) : Option Nat :=
  (descStones d).find? (fun n => burst.contains n || !stoneGood s n)

/-- R189: the courses and groups with a block that overlaps stone `n`. -/
def overlapping (s : State) (n : Nat) : List (Nat × Nat) :=
  s.qry.published.flatMap (fun c =>
    let ws := entryOf s c
    ((List.range 32).filter (fun g => dfld (ws.getD (6 + g) 0) 7 7 == 1 && (descStones (ws.getD (6 + g) 0)).contains n)).map (fun g => (c, g)))

/-- R188: a stone or block failed its check in a read of course `c` and group `g`: counted, raised; `marks`: the blocks that the index marks, all that
overlap a failing stone (R189), or the one block. The instance is the table group, the first block that the capture names (R301). -/
def readFailed (marks : List (Nat × Nat)) (c g n : Nat) (who : Word) (s : State) : State :=
  forL marks (fun x t => markDamaged x.1 x.2 t) (raise Src.qryReadCrc g (w32 n :: capCourse c ++ [w32 g, who])
    (count .qryReadCrc 0 31 0 1 (event .qryEvt 0 20 s)) (.quarryCtl (n % 4)) (who.toNat % 256) 1)

/-- R184, R185: the part of group `g` of a stored course, read and checked. -/
def readBlock (c g : Nat) (ws : List DWord) (burst : List Nat) (who : Word) (s : State) : PartData × State :=
  let d := ws.getD (6 + g) 0
  if dfld d 7 7 = 0 then (if dfld d 3 0 = 0 then .quarry [] else .absent 1, s)
  else if dfld d 5 5 = 1 then (.damaged, s)
  else
    match badStone s d burst with
    | some n => (.damaged, readFailed (overlapping s n) c g n who s)
    | none =>
      match decodeBlock (blockWords s d) with
      | some l => (.quarry l, s)
      | none => (.damaged, readFailed [(c, g)] c g (dfld d 63 40) who s)

/-- The groups of a stored course that hold a requested partner (R185). -/
def neededGroups (ws : List DWord) (partners : BitVec 64) : List Nat :=
  (List.range 32).filter (fun g => (List.range 64).any (fun p => partners.getLsbD p && entryGroup ws p == some g))

/-- R184: the outcome of a request for course `c`, as parts by group, once it can be given; `held` when the course was held at the
request's arrival (R213). None while the course is NOT_PUBLISHED. A course with a stub is damaged for every partner (R190). -/
def readCourse (c : Nat) (partners : BitVec 64) (groups : List Nat) (held : Bool) (burst : List Nat) (who : Word) (s : State) :
    Option (List Part × State) :=
  if !(s.qry.phase == .running) then some ([⟨c, 32, .absent 2⟩], s)
  else if c < historyStart s then some ([⟨c, 32, if held then .overwritten else .beforeHistory⟩], s)
  else
    match s.qry.newest with
    | none => none
    | some p =>
      if p < c then none
      else if s.qry.published.contains c then
        let ws := entryMet s burst c
        let gs := if groups.isEmpty then neededGroups ws partners else groups
        if isStub ws then some ([⟨c, 32, .damaged⟩], s)
        else some (gs.foldl (fun (acc : List Part × State) g =>
          let r := readBlock c g ws burst who acc.2
          (acc.1 ++ [⟨c, g, r.1⟩], r.2)) ([], s))
      else some ([⟨c, 32, .absent 2⟩], s)

/-! ### Service (R191 to R193) -/

/-- The number that QRY_STAT.STATE shows. -/
def QryPhase.code : QryPhase → Nat
  | .stopped => 0 | .starting => 1 | .running => 2 | .halted => 3

/-- POWER_QUERY's code of a domain (R378). -/
def domCode (s : State) (n : Nat) : Nat :=
  let d := powerDom s n
  if d.goal.isSome then 3 else match d.phase with | .off => 0 | .hold => 1 | .on => 2

/-- R480: the cause word of a block that went out of service, from the domains that it needs and its targets. -/
def causeWord (s : State) (doms : List Nat) (tgts : List Target) : Word :=
  match doms.find? (fun d => !domOn s d) with
  | some d => w32 (d * 256 + domCode s d)
  | none =>
    match s.flt.isolated.find? (fun x => tgts.contains x.target) with
    | some x => w32 (2 ^ 28 + x.source * 65536)
    | none =>
      match s.flt.stopped with
      | some src => w32 (2 * 2 ^ 28 + src * 65536)
      | none => 0

/-- The quarry controllers as targets. -/
def quarryTargets : List Target := (List.range 4).map Target.quarryCtl

/-- R191, R307: the quarry may serve. -/
def quarryAvailable (s : State) : Bool := quarryDomainsOn s && !quarryTargets.any (isIsolated s) && !dpStopped s

/-- R193: stack `k` loses its contents: its bytes and written bits clear, and every archive copy is invalid. -/
def stackLost (k : Nat) (s : State) : State :=
  let mine := fun (a : Nat) => decide (ctlStack (qaController a) = k)
  { s with
    hbm := { s.hbm with bytes := s.hbm.bytes.filter (fun e => !mine e.1), written := s.hbm.written.filter (fun e => !mine (e.1 * 4096)) }
    groups := (s.groups.map (fun e => (e.1, { e.2 with loaded := [] }))).filter (fun e => decide (e.2 ≠ TableGroup.reset)) }

/-- R191: the quarry leaves RUNNING: no request waits, unpublished courses are dropped. -/
def quarryLeaves (p : QryPhase) (s : State) : State :=
  let off := (List.range 6).foldl (fun m i => m + if domOn s (65 + i) then 0 else 2 ^ i) 0
  let cw := causeWord s [65, 66, 67, 68, 69, 70] quarryTargets
  let s := s.modQry fun q => { q with phase := p, jobs := [] }
  raise Src.qryHalted 0 ([w32 p.code, w32 off, cw] ++ capCourse (nowCourse s)) (event .qryEvt 0 16 s)

/-- R192, R193: the history is gone: the next course indexed will be H. DESIGN CHOICE (log entry 187): the writer starts again at stone 0. -/
def quarryForgets (s : State) : State :=
  depthMoved (s.modQry fun q => { q with
    phase := .stopped, writer := 0, openStone := none, full := [], jobs := [], published := [], left := [], newest := none, floorReached := false
    rewritten := [], hist := 0, passed := [] })

/-- R191: the quarry's state follows its domains, isolation and the data-plane stop. DESIGN CHOICE (log entry 186): a quarry that can no longer serve while
STARTING goes to HALTED, or to STOPPED where contents are lost, as from RUNNING. -/
def quarryCheck (s : State) : State :=
  let lost := !stackKeeps s 0 || !stackKeeps s 1
  let avail := quarryAvailable s
  match s.qry.phase with
  | .running | .starting =>
    if avail then s
    else
      let s1 := if s.qry.phase == .running then quarryLeaves (if lost then .stopped else .halted) s
        else s.modQry fun q => { q with phase := .halted }
      if lost then quarryForgets s1 else s1
  | .halted =>
    if lost then quarryForgets s
    else if avail then s.modQry fun q => { q with phase := .starting } else s
  | .stopped => if avail then s.modQry fun q => { q with phase := .starting } else s

/-- R191: a STARTING quarry becomes RUNNING at the course tick; R184: without a published course, H is the course of entry. -/
def quarryTick (c : Nat) (s : State) : State :=
  if s.qry.phase == .starting && quarryAvailable s then
    s.modQry fun q => { q with phase := .running, entered := if q.published.isEmpty then c else q.entered }
  else s

/-! ### The search by time (R200) -/

/-- R200: the course found and the result: 0 found, 1 before H, 2 after P. The search covers the successor's start, so a time at or
after P's own start lies after P unless the next course is known. DESIGN CHOICE (log entry 188): 2 while nothing is published. While the index is
unreadable (R191) course and result are free. -/
def findCourse (s : State) (t : Nat) : Nat × Nat :=
  if !indexReadable s then (Config.findMiss t, (Config.findDark t).val)
  else
  let l := s.qry.published.map (fun c => (c, entryTime (entryOf s c)))
  match l.head?, l.getLast? with
  | some (h, th), some (p, tp) =>
    if t < th then (Config.findMiss h, 1)
    else if t ≥ tp then (Config.findMiss p, 2)
    else (((l.filter (fun x => decide (x.2 ≤ t))).getLast?.map (·.1)).getD 0, 0)
  | _, _ => (Config.findMiss 0, 2)

end Sys2Proof.Machine
end

