-- ==== Sys2Proof/Machine/Ring.lean ====
section
/-!
DEFINITION. The course ring and the Molus coders: record writes, release, close, service, the coding of blocks (chapter 07).
-/
namespace Sys2Proof.Machine

/-! ### Buckets (R146, R147) -/

/-- Key of a bucket. -/
def bucketKey (c g b : Nat) : Nat := c * 2048 + g * 64 + b

/-- The bucket of course `c`, group `g`, BT `b`. -/
def bucketAt (s : State) (c g b : Nat) : Bucket := smGet .blank s.ring.buckets (bucketKey c g b)

/-- Its entries. -/
def bucket (s : State) (c g b : Nat) : List RingEntry := (bucketAt s c g b).entries

/-- Pages that a bucket takes: eight entries each (R145). -/
def bucketPages (l : List RingEntry) : Nat := (entriesSize l + 7) / 8

/-- Quarter of a bucket key. -/
def keyQuarter (k : Nat) : Nat := k / 512 % 4

/-- Free pages of a quarter, of 61,440 (R145). -/
def freePages (s : State) (m : Nat) : Nat := 61440 - (quarter s m).fresh + (quarter s m).freed.length

/-- R147: the next `n` pages of the free list, and the quarter without them. -/
def Quarter.take : Nat → Quarter → List Nat × Quarter
  | 0, q => ([], q)
  | n + 1, q =>
    if q.fresh < 61440 then
      let r := Quarter.take n { q with fresh := q.fresh + 1 }
      (q.fresh :: r.1, r.2)
    else
      match q.freed with
      | a :: t =>
        let r := Quarter.take n { q with freed := t }
        (a :: r.1, r.2)
      | [] => ([], q)

/-- Block of entry `i` of a page. -/
def entryBlock (page i : Nat) : Nat := 8 * page + i

/-- Block of a page's link, in the index area behind the bucket descriptors (R145). -/
def linkBlock (page : Nat) : Nat := 491520 + 16384 + page / 4

/-- Entries that a quarter holds for one course. -/
def courseEntries (s : State) (m c : Nat) : Nat :=
  s.ring.buckets.foldl (fun n e => if keyQuarter e.1 = m ∧ e.1 / 2048 = c then n + entriesSize e.2.entries else n) 0

/-- CRS_FREE follows the pages (R170). -/
def freeMoved (m : Nat) (s : State) : State :=
  let f := freePages s m
  modCell .crsFree m 0 (fun w => setFld (setFld w 15 0 f) 31 16 (min f (fld w 31 16))) s

/-- The quarters in service. -/
def quartersIn (s : State) : List Nat := (List.range 4).filter (fun m => (quarter s m).inService)

/-- The oldest course that the ring holds (R149, R153, R154), if a quarter is in service. -/
def oldestHeld (s : State) : Option Nat :=
  match (quartersIn s).map (fun m => (quarter s m).since) with
  | [] => none
  | a :: t =>
    let first := max (nowCourse s - 23) (t.foldl min a)
    some (match s.ring.releasedTo with | some k => max first (k + 1) | none => first)

/-- The ring holds course `c` of table group `g`. -/
def ringHolds (s : State) (c g : Nat) : Bool :=
  let q := quarter s (g / 8)
  q.inService && decide (q.since ≤ c) && decide (nowCourse s ≤ c + 23) && (match s.ring.releasedTo with | some k => decide (k < c) | none => true)

/-! ### Release (R149, R153) -/

/-- Release every course before `c`: its pages return to the free lists. -/
def releaseBefore (c : Nat) (s : State) : State :=
  let gone := s.ring.buckets.filter (fun e => decide (e.1 < c * 2048))
  let s := forL gone (fun e t => modQuarter (keyQuarter e.1) (fun q => { q with freed := q.freed ++ e.2.pages }) t) s
  forN 4 freeMoved (s.modRing fun r => { r with buckets := r.buckets.filter (fun e => decide (c * 2048 ≤ e.1)) })

/-- R149: the release at the tick that starts course `c`. -/
def ringRelease (c : Nat) (s : State) : State :=
  let s := s.modRing fun r => { r with quarters := (r.quarters.map (fun e => (e.1, { e.2 with drops := e.2.drops.filter (fun x => decide (c ≤ x.1 + 24)) }))) }
  releaseBefore (c - 23) s

/-- R153: while quarter `m` is short of pages, the oldest course is released if it is published; at most `k` courses. -/
def earlyRelease (m : Nat) : Nat → State → State
  | 0, s => s
  | k + 1, s =>
    let f := freePages s m
    if f < fld (cell s .crsCtl) 15 0 then
      match oldestHeld s with
      | some c =>
        if c + 2 ≤ nowCourse s && s.qry.published.contains c then
          let s := s.modRing fun r => { r with releasedTo := some c, lastEarly := some (c, nowCourse s) }
          let s := count .crsEarlyRel 0 31 0 1 (event .crsEvt 0 17 s)
          earlyRelease m k (releaseBefore (c + 1) (raise Src.crsEarlyRelease m (capCourse c ++ [w32 m, w32 f]) s))
        else s
      | none => s
    else s

/-! ### Record writes (R23, R148, R152 to R154) -/

/-- R152: a record beyond the cap, or for which no page is free: its entries are counted, and accounted for its partner. -/
def capDrop (m c p namedBt n : Nat) (s : State) : State :=
  let d := smGet 0 (quarter s m).drops c + n
  let first := d == n
  let s := modQuarter m (fun q => { q with drops := smPut 0 q.drops c d }) (count .crsCapDrop m 31 0 n s)
  let s := account p 9 namedBt namedBt 1 s
  if first then raise Src.crsCapDrop m (w32 m :: capCourse c ++ [w32 d]) (event .crsEvt 0 18 s) else s

/-- R147: entries `from` to `to_` − 1 of a bucket are written to their pages, and the links of pages that got a successor. -/
def writeEntries (m : Nat) (pages : List Nat) (from_ to_ had : Nat) (s : State) : State :=
  let s := forN (to_ - from_) (fun i => eccWrite 2 m (entryBlock (pages.getD ((from_ + i) / 8) 0) ((from_ + i) % 8))) s
  forN (pages.length - max 1 had) (fun i => eccWrite 2 m (linkBlock (pages.getD (max 1 had - 1 + i) 0))) s

/-- R147: a record is appended to its bucket, with `k` new pages. -/
def appendEntry (m key k : Nat) (old : Bucket) (e : RingEntry) (s : State) : State :=
  let r := (quarter s m).take k
  let x : Bucket := ⟨old.entries ++ [e], old.pages ++ r.1⟩
  let s := modQuarter m (fun _ => r.2) s
  let s := s.modRing fun y => { y with buckets := smPut .blank y.buckets key x }
  writeEntries m x.pages (entriesSize old.entries) (entriesSize x.entries) old.pages.length s

/-- R148: a record of partner `p` and table group `g` reaches the ring for course `c`; its hit named BT `namedBt`. A late record's account names the
record's own course (R23). -/
def ringWrite (c g p namedBt : Nat) (e : RingEntry) (s : State) : State :=
  let m := g / 8
  let q := quarter s m
  if !q.inService || decide (c < q.since) then account p 9 namedBt namedBt 1 (count .crsOosDrop m 31 0 1 s)
  else if c + 1 < nowCourse s then
    let b := c * 64 + recTime e.record / 16384
    raise Src.courseLateRec 0 [] (account p 8 b b 1 (event .crsEvt 0 16 (count .crsLateRec g 31 0 1 s))) (.quarter m)
  else
    let n := entrySize e
    let old := bucketAt s c g (recTime e.record / 16384)
    let k := bucketPages (old.entries ++ [e]) - old.pages.length
    if 24576 < courseEntries s m c + n then capDrop m c p namedBt n s
    else
      let s := if freePages s m < k then earlyRelease m 24 s else s
      if freePages s m < k then capDrop m c p namedBt n s
      else earlyRelease m 24 (freeMoved m (appendEntry m (bucketKey c g (recTime e.record / 16384)) k old e s))

/-! ### Close (R23, R156, R181) -/

/-- At the tick that starts course `c`, course c − 2 closes: what later steps need of that moment is recorded; the course is indexed
when the quarry is RUNNING and a quarter is in service (R178, R181). -/
def closeCourse (c : Nat) (s : State) : State :=
  if c < 2 then s
  else
    let bound := (List.range 64).filterMap (fun p => (partnerGroup s p).map (fun g => (p, g)))
    let qs := quartersIn s
    let run := s.qry.phase == .running && !qs.isEmpty
    let s := s.modRing fun r => { r with closes := (⟨c - 2, bound, qs, run⟩ :: r.closes).take 64 }
    if run then s.modQry fun y => { y with jobs := y.jobs ++ [⟨c - 2, []⟩] } else s

/-! ### Service (R154, R168, R171) -/

/-- What keeps quarter `m` out of service: its domain, isolation, the data-plane stop. -/
def quarterAble (s : State) (m : Nat) : Bool := domOn s (61 + m) && !isIsolated s (.quarter m) && !dpStopped s

/-- R154: a quarter leaves service: its contents are released, its coder writes nothing more. -/
def quarterCheck (m : Nat) (s : State) : State :=
  if (quarter s m).inService && !quarterAble s m then
    let cw := causeWord s [61 + m] [.quarter m]
    let s := modCoder m (fun k => { k with cur := none }) (modQuarter m (fun q => { q with inService := false, drops := [], fresh := 0, freed := [] }) s)
    let gone := ((s.ring.buckets.filter (fun e => keyQuarter e.1 == m)).map (fun e => (e.1 / 2048, e.1 / 64 % 32))).eraseDups
    let s := freeMoved m (s.modRing fun r => { r with
      buckets := r.buckets.filter (fun e => !(keyQuarter e.1 == m))
      heldLost := r.heldLost.filter (fun x => decide (nowCourse s < x.1 + 64)) ++ gone })
    raise Src.crsOutOfService m ([w32 m, cw] ++ capCourse (nowCourse s)) (event .crsEvt 0 19 s)
  else s

/-- R171, R154, R168: at the tick that starts course `c` a quarter that can serve enters service, empty, from course `c` on. -/
def quarterTick (m c : Nat) (s : State) : State :=
  if !(quarter s m).inService && quarterAble s m then
    setCell .molRatio m 0 0x0100 (modCoder m (fun _ => ⟨c, none, [], (0, 0), false⟩) (modQuarter m (fun _ => ⟨true, c, [], 0, []⟩) s))
  else s

/-! ### Coding (R155 to R167) -/

/-- R156: the groups of quarter `m` that get a block in course `c`. -/
def blockGroups (s : State) (m c : Nat) : List Nat :=
  let bound := ((closeRec s c).map (·.partners)).getD []
  ((List.range 8).map (8 * m + ·)).filter (fun g => bound.any (fun x => x.2 == g) || (List.range 64).any (fun b => !(bucket s c g b).isEmpty))

/-- R167, R170: a course is coded: the sizes of the newest 1,024 courses and their ratio, unsigned 8.8, the fraction cut off. -/
def courseCoded (m : Nat) (s : State) : State :=
  let k := coder s m
  let sizes := (k.sum :: k.sizes).take 1024
  let raw := sizes.foldl (fun n x => n + x.1) 0
  let stored := sizes.foldl (fun n x => n + x.2) 0
  let s := modCoder m (fun k => { k with cur := none, sizes := sizes, sum := (0, 0) }) s
  if stored = 0 then s else modCell .molRatio m 0 (fun w => setFld w 15 0 (satTo 16 (raw * 256 / stored))) s

/-- R167, R29: the coder takes its next closed course; past the deadline every block is to be copied raw. -/
def courseStart (m : Nat) (s : State) : State :=
  let k := coder s m
  if (quarter s m).inService && k.cur.isNone && decide (k.next + 2 ≤ nowCourse s) then
    let gs := (blockGroups s m k.next).map (fun g => (g, if k.next + 4 ≤ nowCourse s then 3 else 0))
    let force := bit (cell s .molCtl m) 1
    let s := modCoder m (fun k => { k with cur := some (k.next, gs), next := k.next + 1, forced := force }) s
    if gs.isEmpty then courseCoded m s else s
  else s

/-- R167: the deadline of course N at the tick of N + 4: blocks not started go raw; the first raises STAGE_OVERRUN. -/
def courseDeadline (m : Nat) (s : State) : State :=
  let n := nowCourse s - 4
  let late := fun (t : State) => raise Src.stageOverrun 0 [] (event .molEvt m 17 t) (.quarter m)
  if !(quarter s m).inService || decide (nowCourse s < 4) then s
  else
    match (coder s m).cur with
    | some (c, h :: t) =>
      if c = n ∧ t ≠ [] then late (modCoder m (fun k => { k with cur := some (c, h :: t.map (fun x => (x.1, 3))) }) s)
      else if (coder s m).next ≤ n ∧ blockGroups s m n ≠ [] then late s else s
    | _ => if (coder s m).next ≤ n ∧ blockGroups s m n ≠ [] then late s else s

/-! #### Reads of the ring (R150, R155) -/

/-- The upset of an operand: it lies in the block of the entry, or in the link of its page. -/
def ringUpset (c g : Nat) (x : RingFault) (s : State) : State :=
  let k := bucketAt s c g x.bt.val
  if x.entry < entriesSize k.entries then
    let page := k.pages.getD (x.entry / 8) 0
    eccUpset 2 (g / 8) (if x.link then linkBlock page else entryBlock page (x.entry % 8)) s
  else s

/-- A reader takes a block of course `c` and group `g`; an uncorrectable error that it finds is counted and raised. -/
def ringBlockRead (c g master blk page i : Nat) (s : State) : Bool × State :=
  let m := g / 8
  let r := eccRead 2 m blk master 1 s
  if !r.1 && (eccBlock s 2 m blk).phase == .good then
    (false, raise Src.crsMemUncorr m ([w32 m, w32 page, w32 i] ++ capCourse c ++ [w32 g]) (event .crsEvt 0 20 (count .crsMemErr m 31 0 1 r.2))
      (.quarter m) master 1)
  else r

/-- The `n` entries from place `off` of a bucket with these pages; whether each is delivered. -/
def entryRead (c g master : Nat) (pages : List Nat) : Nat → Nat → State → Bool × State
  | 0, _, s => (true, s)
  | n + 1, off, s =>
    let page := pages.getD (off / 8) 0
    let r := ringBlockRead c g master (entryBlock page (off % 8)) page (off % 8) s
    let t := entryRead c g master pages n (off + 1) r.2
    (r.1 && t.1, t.2)

/-- R324: the record whose entries stand from place `off` of a bucket in quarter `m`, as reads of its blocks deliver it. -/
def deliveredEntry (s : State) (m : Nat) (pages : List Nat) (off : Nat) (e : RingEntry) : RingEntry :=
  let delta := fun i => eccDelta s 2 m (entryBlock (pages.getD (i / 8) 0) (i % 8))
  ⟨e.record ^^^ delta off, skewWords delta (off + 1) e.samples⟩

/-- R155: the records of a bucket that a reader gets, and whether an error was met: a record with a damaged entry is discarded, and behind a damaged
link the rest of the bucket. `off`: entries read so far. -/
def bucketRead (c g master : Nat) (pages : List Nat) : Nat → List RingEntry → State → List RingEntry × Bool × State
  | _, [], s => ([], false, s)
  | off, e :: t, s =>
    let k := (off + entrySize e - 1) / 8
    let page := pages.getD (k - 1) 0
    let l := if (off - 1) / 8 < k then ringBlockRead c g master (linkBlock page) page 0 s else (true, s)
    if l.1 then
      let r := entryRead c g master pages (entrySize e) off l.2
      let x := bucketRead c g master pages (off + entrySize e) t r.2
      (if r.1 then deliveredEntry s (g / 8) pages off e :: x.1 else x.1, !r.1 || x.2.1, x.2.2)
    else ([], true, l.2)

/-- The buckets of some BT of a course and group, as a reader gets them, and whether an error was met. -/
def slotsRead (c g master : Nat) : List Nat → State → List (List RingEntry) × Bool × State
  | [], s => ([], false, s)
  | b :: t, s =>
    let k := bucketAt s c g b
    let r := bucketRead c g master k.pages 0 k.entries s
    let x := slotsRead c g master t r.2.2
    (r.1 :: x.1, r.2.1 || x.2.1, x.2.2)

/-- R155: the account of an error that a coder meets: the course, count unknown, for every partner bound to the group. -/
def ringErrorAccounts (c g : Nat) (s : State) : State :=
  forN 64 (fun p t => if partnerGroup t p = some g then account p 9 (c * 64) (c * 64 + 63) cntUnknown t else t) s

/-- R157, R165, R166: the block of a group's 64 slots, and its RAW_CAUSE; `sorted`: the sorted block as the block buffer delivers it. -/
def formBlock (c g : Nat) (forced : Bool) (settled : Nat) (verified : Bool) (slots : List (List RingEntry)) (sorted : List RingEntry) : List DWord × Nat :=
  let big := slots.any (fun l => decide (1024 < l.length))
  if forced then (rawBlock c g 5 false slots.flatten, 5)
  else if big then (rawBlock c g 4 false slots.flatten, 4)
  else if settled = 3 then (rawBlock c g 3 false slots.flatten, 3)
  else if settled = 1 then (rawBlock c g 1 false slots.flatten, 1)
  else if !verified then (rawBlock c g 1 true sorted, 1)
  else
    let coded := codedBlock c g slots
    let raw := rawBlock c g 2 true sorted
    if coded.length < raw.length then (coded, 0) else (raw, 2)

/-- R165, R166: the block is counted by its cause. -/
def countBlock (m cause : Nat) (s : State) : State :=
  let s := countWrap .molBlocks m 31 0 s
  match cause with
  | 1 => count .molMismatch m 31 0 1 s
  | 2 => count .molNoshrink m 31 0 1 s
  | 3 => count .molOverrun m 31 0 1 s
  | 4 => count .molBigSlot m 31 0 1 s
  | _ => s

/-- R165, R327: the sorted block of `n` words passes through the coder's block buffer, unless it is copied raw from the ring; whether it is delivered. -/
def bufferPass (m n : Nat) (copied : Bool) (s : State) : Bool × State :=
  if copied then (true, s) else eccReads 4 m 6 1 (List.range n) (eccWrites 4 m 0 n s)

/-- R324: records whose words stand in the block buffer of coder `m` from block `i` on, as reads deliver them. -/
def bufferDelivered (s : State) (m : Nat) : Nat → List RingEntry → List RingEntry
  | _, [] => []
  | i, e :: l => ⟨e.record ^^^ eccDelta s 4 m i, skewWords (eccDelta s 4 m) (i + 1) e.samples⟩ :: bufferDelivered s m (i + entrySize e) l

/-- R155, R165, R166, R176: the coder's block is formed and handed to the quarry controllers. `errs`: upsets in the ring that its reads meet; `diff`:
where verification failed, the index of the first differing entry; it also fails where the block buffer delivers a word wrongly (R324). -/
def blockDone (m : Nat) (errs : List RingFault) (diff : Option Nat) (s : State) : State :=
  match (coder s m).cur with
  | some (c, (g, settled) :: rest) =>
    if (quarter s m).inService then
      let rd := slotsRead c g 6 (List.range 64) (forL errs (ringUpset c g) s)
      let s := if rd.2.1 then ringErrorAccounts c g rd.2.2 else rd.2.2
      let slots := rd.1
      let forced := (coder s m).forced
      let big := slots.any (fun l => decide (1024 < l.length))
      let bf := bufferPass m (entriesSize slots.flatten) (forced || big || settled == 3) s
      let s := bf.2
      let sorted := (slots.map sortSlot).flatten
      let kept := bufferDelivered s m 0 sorted
      let diff := if kept = sorted then diff else kept.zip sorted |>.findIdx? (fun x => x.1 != x.2)
      let r := formBlock c g forced (if bf.1 then settled else 1) diff.isNone slots kept
      let s := match slots.findIdx? (fun l => decide (1024 < l.length)) with
        | some b => raise Src.molBigSlot m (w32 m :: capCourse c ++ [w32 g, w32 b, w32 (slots.getD b []).length]) (event .molEvt m 19 s)
        | none => s
      let s := if r.2 = 1 ∧ diff.isSome then raise Src.molVerifyMismatch m (w32 m :: capCourse c ++ [w32 g, w32 (diff.getD 0)]) (event .molEvt m 18 s) else s
      let s := countBlock m r.2 s
      let s := appendBlock ⟨c, g, r.2 != 0, slots.flatten.length, r.1⟩ s
      let force := bit (cell s .molCtl m) 1
      let s := modCoder m (fun k => { k with
        cur := some (c, rest), sum := (k.sum.1 + entriesSize slots.flatten + 3, k.sum.2 + r.1.length), forced := force }) s
      if rest.isEmpty then courseCoded m s else s
    else s
  | _ => s

/-! ### What the registers show (R170) -/

/-- CRS_STAT. -/
def crsStatRead (s : State) : Word :=
  let depth := match oldestHeld s with | some c => nowCourse s + 1 - c | none => 0
  mkFld 8 4 depth ||| mkFld 3 0 (maskBits ((List.range 4).filter (fun m => !(quarter s m).inService)))

/-- MOL_STAT. DESIGN CHOICE (log entry 185): STATE reads 0 while the domain is ON, not isolated and its quarter is not in service. -/
def molStatRead (s : State) (m : Nat) : Word :=
  let k := coder s m
  let st := if isIsolated s (.quarter m) then 3
    else if (powerDom s (61 + m)).phase == .hold then 1 else if (quarter s m).inService then 2 else 0
  let backlog := if (quarter s m).inService then (nowCourse s - 1 - k.next) + (if k.cur.isSome then 1 else 0) else 0
  let rawCopy := match k.cur with | some (_, l) => l.any (fun x => x.2 == 3) | none => false
  setBit (mkFld 7 4 (min 15 backlog) ||| mkFld 2 0 st) 8 rawCopy

/-- CRS_SNAP_DATA: two courses, or zero words where there is none. -/
def crsSnapData (s : State) (sel : Nat) : List Word :=
  let cap := fun (c : Option Nat) => match c with | some k => capCourse k | none => [0, 0]
  if sel = 0 then cap (oldestHeld s) ++ (if nowCourse s < 2 then [0, 0] else capCourse (nowCourse s - 2))
  else cap (s.ring.lastEarly.map (·.1)) ++ cap (s.ring.lastEarly.map (·.2))

end Sys2Proof.Machine
end

