-- ==== Sys2Proof/Machine/Ashlar.lean ====
section
/-!
DEFINITION. The ashlar engines: the correction of a hit, waveform timing, calibration marks, engine states and migration (chapter 06).
-/
namespace Sys2Proof.Machine

/-! ### Waveform timing (R132 to R135) -/

/-- What constant-fraction timing finds in a waveform group. -/
structure WaveTiming where
  amplitude : Int
  crossing : Nat
  missed : Bool
  deriving DecidableEq, Repr

/-- The first index at which a list of samples reaches its largest value. -/
def peakIndex (l : List Int) : Nat :=
  let a := l.foldl max (l.headD 0)
  (l.findIdx? (fun y => decide (y = a))).getD 0

/-- R132, R134: baseline, amplitude and crossing of a group of samples. -/
def waveTiming (cfg : Word) (baseline : Nat) (samples : List Nat) : WaveTiming :=
  let b := if bit cfg 12 then sumL (samples.take 4) / 4 else baseline
  let y : List Int := samples.map (fun (v : Nat) => (v : Int) - (b : Int))
  let k := peakIndex y
  let a := y.getD k 0
  let f := if fld cfg 3 0 = 0 then 8 else fld cfg 3 0
  let thr : Int := f * a
  if 16 * y.getD 0 0 ≥ thr then ⟨a, 0, true⟩
  else
    let j := ((List.range (k + 1)).find? (fun j => decide (1 ≤ j) && decide (16 * y.getD j 0 ≥ thr))).getD k
    let num := (thr - 16 * y.getD (j - 1) 0).toNat * 1024
    let den := (16 * (y.getD j 0 - y.getD (j - 1) 0)).toNat
    ⟨a, (j - 1) * 1024 + num / den, false⟩

/-- R133: the least amplitude of a pulse. -/
def minAmp (cfg : Word) : Int := ((max 1 (fld cfg 11 4) : Nat) : Int)

/-- R135: samples as words of eight, the earliest in [63:56]. -/
def sampleWords : Nat → List Nat → List DWord
  | 0, _ => []
  | n + 1, l => if l.isEmpty then [] else BitVec.ofNat 64 ((l.take 8).foldl (fun a v => a * 256 + v % 256) 0) :: sampleWords n (l.drop 8)

/-! ### What the engine takes from an item before its tables (R122, R123, R132 to R134) -/

/-- An item's raw time, charge code, PILEUP, samples kept, and whether a leading edge was missed or no pulse found. -/
structure RawHit where
  raw : Nat
  charge : Nat
  pileup : Bool
  samples : List DWord
  missed : Bool
  noPulse : Bool
  deriving DecidableEq, Repr

/-- R122, R123, R132 to R135. -/
def rawHit (cfg : Word) (x : HitItem) : RawHit :=
  let base := x.namedBt % 64 * 16384
  match x.wave with
  | none => ⟨base + x.fine * 16, if x.sat then 255 else min 254 x.charge, x.pileup, [], false, false⟩
  | some (phase, baseline, l) =>
    let t := waveTiming cfg baseline l
    let keep := if bit cfg 13 then sampleWords 4 l else []
    if t.amplitude < minAmp cfg then ⟨base + phase * 1024, 0, x.pileup, keep, false, true⟩
    else ⟨base + phase * 1024 + t.crossing, if x.sat then 255 else min 254 t.amplitude.toNat, x.pileup || t.missed, keep, t.missed, false⟩

/-! ### Correction (R123 to R131) -/

/-- What the table lookups give: the sum of the three terms, and the lowest cause of R131 that applies, 0 for none. -/
structure Terms where
  sum : Int
  cause : Nat
  deriving DecidableEq, Repr

/-- The walk region of a local channel (R127). -/
def walkRegion (s : State) (p channel : Nat) : Nat :=
  let w := cell s .ashPregion p
  min 63 (fld w 13 8 + channel / 2 ^ min 18 (fld w 4 0))

/-- R123, R131: offset, walk and delay of a hit; a bank whose group is not ON answers no lookup. -/
def hitTerms (x : HitItem) (q : Nat) (s : State) : Terms × State :=
  let p := x.partner
  let g := x.group
  let c := x.namedBt / 64
  let idx := ((partner s p).binding.map (·.base)).getD 0 + x.channel
  let on := domOn s g
  let o := match ofsAddress s g c idx with
    | some a => if on then readEntry g 0 a s else (none, s)
    | none => (some 0, s)
  let noEntry := (ofsAddress s g c idx).isNone
  let w := if on then readEntry g ofsBlocks (walkAddress o.2 g c (walkRegion s p x.channel) q) o.2 else (none, o.2)
  let d := if (partner s p).delayCal then delayTerm s p x.namedBt else (0, true)
  let cause := if o.1.isNone then 1 else if w.1.isNone then 2 else if noEntry then 3
    else if d.2 then 4 else 0
  (⟨o.1.getD 0 + w.1.getD 0 + d.1, cause⟩, w.2)

/-- A corrected record: its course, itself, and whether it moved to an earlier or a later course (R124). -/
structure Corrected where
  course : Nat
  entry : RingEntry
  earlier : Bool
  later : Bool
  deriving DecidableEq, Repr

/-- R123, R124, R121: the record of an item from its raw hit and its terms. -/
def corrected (x : HitItem) (r : RawHit) (k : Terms) : Corrected :=
  let c := x.namedBt / 64
  let t : Int := (r.raw : Int) - k.sum
  let flags := (decide (k.cause ≠ 0)).toNat * 8 + x.wave.isSome.toNat * 4 + x.sat.toNat * 2 + r.pileup.toNat
  let mk := fun (u : Int) => (⟨mkRecord (x.partner * 2 ^ 18 + x.channel) u.toNat r.charge flags x.lane, r.samples⟩ : RingEntry)
  if t < 0 then ⟨c - 1, mk (t + 2 ^ 20), true, false⟩
  else if t ≥ 2 ^ 20 then ⟨c + 1, mk (t - 2 ^ 20), false, true⟩
  else ⟨c, mk t, false, false⟩

/-! ### Ownership (R140) -/

/-- R140: the ring takes the record of course `c` that engine `e` makes of an item: the new engine's copy of a double-sent item from the boundary on,
also after the duplication has ended. -/
def ringTakes (s : State) (e c : Nat) (x : HitItem) : Bool :=
  match x.boundary, slotMigration s (x.group / 4) with
  | some k, _ => decide (k ≤ c)
  | none, some m => !(m.doubled && e == m.former) || decide (c < m.boundary) || x.single
  | none, none => true

/-- R140: the former engine of a migration has stopped: the ring takes the new engine's records for every course. -/
def ownsAll (e : Nat) (s : State) : State :=
  let l := s.ash.migrations.filter (fun m => m.taken && m.former == e && m.doubled)
  forL l (fun m t => modEngine m.to_ (fun y => { y with queue := y.queue.map (fun x => { x with boundary := none }) }) t)
    (s.modAsh fun a => { a with migrations := a.migrations.map (fun m => if m.taken ∧ m.former = e then { m with doubled := false } else m) })

/-! ### A hit (R121 to R135, R139) -/

/-- R139: a record whose residue check fails. -/
def residueFailed (e : Nat) (x : HitItem) (s : State) : State :=
  let s := account x.partner 9 x.namedBt x.namedBt 1 (event .ashEngEvt e 18 (count .ashCheckErr e 31 0 1 s))
  raise Src.ashEngineErr e ([w32 e, w32 (x.group / 4), w32 x.partner] ++ cap64 x.namedBt) s

/-- R131, R142: a record with UNCAL: counted; the first of a table group after a course without any is raised. -/
def uncalRecord (e g cause : Nat) (s : State) : State :=
  let s := count .ashCntUncal e 31 0 1 s
  let c := nowCourse s
  let fresh := match (tgroup s g).uncalCourse with | some k => decide (k + 1 < c) | none => true
  let s := modGroup g (fun t => { t with uncalCourse := some c }) s
  if fresh then raise Src.ashTableUncal g ([w32 g, w32 cause] ++ capCourse c) s else s

/-- R124, R140, R148, R237: what an engine makes of an item whose table group serves. -/
def refineServed (e : Nat) (x : HitItem) (s : State) : State :=
  let cfg := cell s .ashWaveCfg
  let r := rawHit cfg x
  let s := if r.noPulse then count .ashCntWave e 31 16 1 s else s
  let s := if r.missed then count .ashCntWave e 15 0 1 s else s
  if r.noPulse && !bit cfg 13 then s
  else
    let k := hitTerms x r.charge s
    let y := corrected x r k.1
    let s := k.2
    let s := if y.earlier then count .ashCntShift e 31 16 1 s else if y.later then count .ashCntShift e 15 0 1 s else s
    let s := if k.1.cause ≠ 0 then uncalRecord e x.group k.1.cause s else s
    if ringTakes s e y.course x then
      ringWrite y.course x.group x.partner x.namedBt y.entry (lintelTap (x.group / 8) y.course y.entry.record x.lane x.arrived s)
    else s

/-- R124, R140, R148, R237: an item that engine `e` has taken from its queue is corrected; its record passes the ownership filter,
the tap and the ring. A partner whose table group does not serve forms no record (R289); during a stop hit words are discarded (R307). -/
def refineHit (e : Nat) (x : HitItem) (s : State) : State :=
  if dpStopped s || !groupServes s x.group then s
  else refineServed e x s

/-- The engine produces records: ACTIVE or DRAINING (R138). -/
def engineRuns (s : State) (e : Nat) : Bool := (engine s e).phase == .active || (engine s e).phase == .draining

/-- R327: memory 5: the item at position `b` of an engine's queue is discarded, counted and accounted. -/
def engineQueueError (e b : Nat) (s : State) : State :=
  match (engine s e).queue.find? (fun x => x.covers b) with
  | some x =>
    account x.partner 9 x.namedBt x.namedBt 1
      (count .ashInDrop e 31 0 1 (modEngine e (fun y => { y with queue := y.queue.erase x }) s))
  | none => s

/-- R121 to R139: the engine reads the item at the head of its queue, and completes it unless a position of it is uncorrectable (R327). -/
def ashlarHit (e : Nat) (residueGood : Bool) (s : State) : State :=
  match (engine s e).queue with
  | x :: t =>
    if engineRuns s e then
      let s := eccVisit 5 e 5 1 x.covers (engineQueueError e) s
      if (engine s e).queue = x :: t then
        let s := modEngine e (fun y => { y with queue := t }) s
        if residueGood then refineHit e x s else residueFailed e x s
      else s
    else s
  | [] => s

/-! ### Engine states (R138) -/

/-- The slot that the map gives an engine. -/
def engineSlot (s : State) (e : Nat) : Option Nat := (List.range 8).find? (fun sl => slotEngine s sl == e)

/-- The engine that the map does not name (R140). -/
def unmappedEngine (s : State) : Nat := ((List.range 9).find? (fun e => (engineSlot s e).isNone)).getD 8

/-- The slot whose items an engine's queue holds: its own, or that of the migration from it. -/
def queueSlot (s : State) (e : Nat) : Option Nat :=
  match engineSlot s e with
  | some sl => some sl
  | none => (s.ash.migrations.find? (fun m => m.taken && m.former == e)).map (·.slot)

/-- R138: an ACTIVE or DRAINING engine stops producing: what it held is lost and accounted for the courses C − 1 to C + 2. -/
def engineStop (e : Nat) (s : State) : State :=
  if engineRuns s e then
    let c := nowCourse s
    let s := match queueSlot s e with
      | some sl =>
        forN 64 (fun p t =>
          match partnerGroup t p with
          | some g =>
            if g / 4 = sl then
              forL ((List.range 4).filter (fun i => decide (1 ≤ c + i))) (fun i u => account p 9 ((c + i - 1) * 64) ((c + i - 1) * 64 + 63) cntUnknown u) t
            else t
          | none => t) s
      | none => s
    let s := if (engine s e).phase == .active then event .ashEngEvt e 17 s else s
    ownsAll e (modEngine e (fun y => { y with queue := [] }) s)
  else s

/-- R138: a change of the engine's domain away from ON begins. -/
def engineOff (e : Nat) (hold : Bool) (s : State) : State :=
  modEngine e (fun y => { y with phase := if hold then .hold else .off, queue := [] }) (engineStop e s)

/-- R138: the engine enters SYNC. -/
def engineSync (e : Nat) (s : State) : State := modEngine e (fun y => { y with phase := .sync, queue := [], syncUntil := nowCourse s + 2 }) s

/-- R138, R306: isolation takes effect. -/
def engineIsolate (e : Nat) (s : State) : State := modEngine e (fun y => { y with phase := .isolated, queue := [] }) (engineStop e s)

/-- An engine becomes ACTIVE: its slot is no longer orphaned, and a run of orphaned courses ends (R136). -/
def engineActive (e : Nat) (s : State) : State :=
  let sl := engineSlot s e
  let s := event .ashEngEvt e 16 (modEngine e (fun y => { y with phase := .active }) s)
  s.modAsh fun a => { a with orphanRaised := a.orphanRaised.filter (fun x => sl != some x) }

/-- R138: two course ticks after its start SYNC ends: ACTIVE with a slot, else SPARE. -/
def engineSyncDone (e : Nat) (s : State) : State :=
  if (engine s e).phase == .sync && decide ((engine s e).syncUntil ≤ nowCourse s) then
    if (engineSlot s e).isSome then engineActive e s else modEngine e (fun y => { y with phase := .spare }) s
  else s

/-! ### Migration (R140, R141) -/

/-- R140: an accepted ENGINE_MIGRATE at the tick of C + 1: it takes place, or not. -/
def migrationTake (m : Migration) (s : State) : State :=
  let s := s.modAsh fun a => { a with reserved := false }
  if (engine s m.to_).phase == .spare then
    let fa := (engine s m.former).phase == .active
    let s := s.modAsh fun a => { a with
      slots := a.slots.set m.slot m.to_
      migrations := a.migrations.map (fun y => if y.slot = m.slot then { y with taken := true, doubled := fa } else y) }
    let s := if fa then
        event .ashEngEvt m.former 17 (modEngine m.former (fun y => { y with phase := .draining, queue := y.queue.map (fun x => { x with single := true }) }) s)
      else s
    let s := raise Src.ashMigrated m.slot [w32 m.slot, w32 m.former, w32 m.to_, w32 (m.boundary / 2 ^ 32), w32 m.boundary] (engineActive m.to_ s)
    ldgComplete m.mailbox 0 0 ([w32 (m.former * 16 + m.to_)] ++ capCourse m.boundary) s
  else
    let s := s.modAsh fun a => { a with migrations := a.migrations.filter (fun y => y.slot != m.slot) }
    if (engine s m.to_).phase == .isolated then ldgComplete m.mailbox 5 3 [] s else ldgComplete m.mailbox 4 0 [] s

/-- Step 4 of R9 for the slot map, at the tick that starts course `c`. -/
def migrationTick (c : Nat) (s : State) : State :=
  forL (s.ash.migrations.filter (fun m => !m.taken && decide (m.boundary = c + 1))) migrationTake s

/-- R141: an item that the former engine still holds is a straggler. -/
def straggler (s : State) (m : Migration) (x : HitItem) : Bool :=
  let cfg := cell s .ashWaveCfg
  let r := rawHit cfg x
  if (r.noPulse && !bit cfg 13) || !groupServes s x.group then false
  else x.single || decide ((corrected x r (hitTerms x r.charge s).1).course < m.boundary)

/-- R141: the end of a migration's duplication, at the tick of K + 1. -/
def migrationDrainEnd (sl : Nat) (s : State) : State :=
  match s.ash.migrations.find? (fun m => m.slot == sl && m.taken && decide (m.boundary + 1 ≤ nowCourse s)) with
  | some m =>
    let e := m.former
    let drains := (engine s e).phase == .draining
    let lost := if drains then (engine s e).queue.filter (straggler s m) else []
    let s := forL lost (fun x t => account x.partner 9 x.namedBt x.namedBt 1 t) s
    let s := if lost.isEmpty then s else
      raise Src.ashStraggler sl ([w32 sl, w32 e, w32 lost.length] ++ capCourse m.boundary)
        (event .ashEngEvt e 19 (count .ashStraggle e 31 0 lost.length s)) (.engine e)
    let s := s.modAsh fun a => { a with migrations := a.migrations.filter (fun y => y.slot != sl) }
    if drains then engineSync e s else s
  | none => s

/-- R140: the Lodge's ENGINE_MIGRATE, after its common checks: 0 when accepted, else the refusal's DETAIL. -/
def migrateAccept (m sl : Nat) (s : State) : State × Nat :=
  let e := unmappedEngine s
  if !((engine s e).phase == .spare) || s.ash.reserved then (s, 1)
  else if s.ash.migrations.any (fun y => y.slot == sl) then (s, 2)
  else
    (s.modAsh fun a => { a with
      reserved := true
      migrations := a.migrations ++ [⟨sl, slotEngine s sl, e, nowCourse s + 2, false, false, m⟩] }, 0)

/-! ### What the registers show (R143) -/

/-- ASH_ENG_STAT. -/
def ashEngStatRead (s : State) (e : Nat) : Word :=
  mkFld 18 16 (engine s e).phase.code ||| mkFld 15 12 ((engineSlot s e).getD 15) ||| mkFld 11 0 (queueFill (engine s e))

/-- ASH_SLOT_MAP. -/
def ashSlotMapRead (s : State) : Word := w32 ((List.range 8).foldl (fun n sl => n + slotEngine s sl * 16 ^ sl) 0)

/-- ASH_SPARE. -/
def ashSpareRead (s : State) : Word :=
  let e := unmappedEngine s
  if s.ash.reserved || (engine s e).phase == .isolated then 15 else w32 e

/-- ASH_PTAB. DESIGN CHOICE (log entry 182): BASE and FIT of a partner that is not bound read 0, and BASE shows the low 19 bits of the index. -/
def ashPtabRead (s : State) (p : Nat) : Word :=
  match (partner s p).binding with
  | some b => mkFld 31 31 (partner s p).delayCal.toNat ||| mkFld 30 30 b.fit.toNat ||| mkFld 18 0 b.base
  | none => mkFld 31 31 (partner s p).delayCal.toNat

end Sys2Proof.Machine
end

