-- ==== Sys2Proof/Machine/Cornerstone.lean ====
section
/-!
DEFINITION. The Cornerstone journal (R445 to R451): events due and written, sealing, clearing, the image that CNS_READ writes.
-/
namespace Sys2Proof.Machine

def State.modCns (f : Cornerstone → Cornerstone) (s : State) : State := { s with cns := f s.cns }

/-! ### Events (R445, R446) -/

/-- R445: words 3 and 4, absolute time with its quality. -/
def stampWords (t : AbsTime) (q : Nat) : List DWord := [t.sec, BitVec.ofNat 64 (t.ns.toNat * 2 ^ 32 + t.frac.toNat * 65536 + q % 4)]

/-- An event of this moment. -/
def cnsDueNow (s : State) (type : Nat) (d5 d6 : Nat) : CnsDue :=
  ⟨type, deviceId s, timeTag s, nowTime s, s.quo.worst, BitVec.ofNat 64 d5, BitVec.ofNat 64 d6⟩

/-- The event moved to this moment. -/
def CnsDue.restamp (s : State) (d : CnsDue) : CnsDue := { d with tag := timeTag s, time := nowTime s, quality := s.quo.worst }

/-- An event joins those that are due. -/
def cnsPost (d : CnsDue) (s : State) : State := s.modCns fun c => { c with due := c.due ++ [d] }

/-- R445: the eight words of an event; a SEAL says how many events it covers (R446). -/
def cnsWords (c : Cornerstone) (d : CnsDue) : List DWord :=
  let ws : List DWord := [BitVec.ofNat 64 (d.type * 2 ^ 56 + c.next % 2 ^ 48), BitVec.ofNat 64 (c.startCount * 2 ^ 32 + d.deviceId * 65536),
    BitVec.ofNat 64 d.tag] ++ stampWords d.time d.quality ++ [d.data5, if d.type = 6 then BitVec.ofNat 64 c.events.length else d.data6]
  ws ++ [BitVec.ofNat 64 (crc32c (ws.flatMap (fun (w : DWord) => beBytes 8 w.toNat) ++ beBytes 4 0)).toNat]

/-- R449: slots that events may use. -/
def Cornerstone.capacity (c : Cornerstone) : Nat := 4096 - c.failed.length

/-- R445, R449: the slot of the next write: the one after the newest event's, failed slots passed over. -/
def Cornerstone.nextSlot (c : Cornerstone) : Nat :=
  let q := match c.events.getLast? with | some e => e.slot + 1 | none => 0
  (((List.range 4096).map (fun i => (q + i) % 4096)).find? (fun x => !c.failed.contains x)).getD 0

/-- What an event does when it has been written: SEAL seals (R448), CLEAR ends the clear (R451). -/
def cnsWritten (d : CnsDue) (s : State) : State :=
  if d.type = 6 then
    raise Src.cnsSealed 0 [w32 d.data5.toNat, w32 s.cns.events.length] (event .cnsEvt 0 16 (s.modCns fun c => { c with sealed := true }))
  else if d.type = 10 then event .cnsEvt 0 18 (s.modCns fun c => { c with clearing := false })
  else s

/-- R447: the record of the control area as it stands. -/
def Cornerstone.control (c : Cornerstone) : CnsControl :=
  ⟨c.next, c.startCount, match c.events with | e :: _ => e.slot | [] => 0, c.events.length, c.sealed, c.lost, c.failed, c.clearing⟩

/-- R447: an update of the control area: its copies one after another. -/
def Cornerstone.update (c : Cornerstone) : Cornerstone :=
  let c := { c with control0 := c.control }
  let c := { c with control1 := c.control }
  { c with control2 := c.control }

/-- R445, R449: the oldest event due is written and verified, or lost. -/
def cnsWriteNext (good : Bool) (s : State) : State :=
  match s.cns.due with
  | [] => s
  | d :: rest =>
    let c := s.cns
    if c.sealed && decide (c.capacity ≤ c.events.length) then
      event .cnsEvt 0 17 (s.modCns fun c => { c with due := rest, lost := satTo 32 (c.lost + 1) })
    else
      let kept := if c.capacity ≤ c.events.length then c.events.drop 1 else c.events
      let q := c.nextSlot
      if good then
        cnsWritten d (s.modCns fun c => { c with
          due := rest, events := kept ++ [⟨q, cnsWords { c with events := kept } d⟩], next := (c.next + 1) % 2 ^ 48, moved := true })
      else
        raise Src.cnsMemFail 0 [w32 (64 * q)] (event .cnsEvt 0 19
          (s.modCns fun c => { c with events := kept, failed := if c.failed.length < 64 then c.failed ++ [q] else c.failed }))
          (master := 13) (access := 2)

/-- CNS_EVENT_WRITE (R445, R447, R449): the oldest event due is written and verified, and the control area updated. -/
def cnsEventWrite (good : Bool) (s : State) : State :=
  if s.cns.due.isEmpty then s else (cnsWriteNext good s).modCns Cornerstone.update

/-- R424, R446: everything due is written at once, with good verification: what the hold-up store and a reset leave time for. -/
def cnsFlush (s : State) : State := times (cnsEventWrite true) s.cns.due.length s

/-! ### Seals (R446, R448) -/

/-- The sources of the switch-overs of R18. -/
def switchSources : List Nat :=
  [Src.timeSwitch, Src.btrOutvote, Src.ashMigrated, Src.uplStreamMoved, Src.memTableRestored, Src.memRowRetired, Src.gauOutSwitch]

/-- R446: a SWITCH event of a report. -/
def switchEvent (s : State) (r : Report) : CnsDue :=
  cnsDueNow s 8 r.source ((r.capture.getD 0 0).toNat * 2 ^ 32 + (r.capture.getD 1 0).toNat)

/-- R424, R448: an event that joins a seal under way: it goes before the SEAL that is due, and what follows it moves to this moment. -/
def beforeSeal (s : State) (d : CnsDue) (l : List CnsDue) : List CnsDue :=
  let i := l.findIdx (fun x => x.type == 6)
  l.take i ++ [d] ++ (l.drop i).map (·.restamp s)

/-- R446: a switch-over has been logged: due at once within 2 courses after a CRITICAL event, before a SEAL that is due (R448), else kept for one that may follow. -/
def cnsSwitchLogged (r : Report) (s : State) : State :=
  if switchSources.contains r.source then
    let near := match s.cns.critical with | some c => decide (nowCourse s ≤ c + 2) | none => false
    if near then s.modCns fun c => { c with due := beforeSeal s (switchEvent s r) c.due }
    else s.modCns fun c => { c with
      switches := c.switches.filter (fun x => decide (nowCourse s ≤ x.course + 2)) ++ [⟨nowCourse s, switchEvent s r⟩] }
  else s

/-- R448: a level-4 entry has been logged: CRITICAL, the switch-overs of the last 2 courses, SEAL with cause 0, or 2 during a stop. -/
def cnsCritical (r : Report) (seq : Nat) (s : State) : State :=
  let crit := cnsDueNow s 4 (r.source * 2 ^ 48 + r.index % 65536 * 2 ^ 32 + seq)
    ((r.capture.getD 0 0).toNat * 2 ^ 32 + (r.capture.getD 1 0).toNat)
  let near := (s.cns.switches.filter (fun x => decide (nowCourse s ≤ x.course + 2))).map (fun x => x.due.restamp s)
  let last := cnsDueNow s 6 (if dpStopped s then 2 else 0) 0
  s.modCns fun c => { c with due := c.due ++ [crit] ++ near ++ [last], critical := some (nowCourse s), switches := [] }

/-- R445: an event of a trip: in foundation reset, where no course runs, its tag stays at the newest event's of the same start. -/
def tripEvent (s : State) (type : Nat) (d5 d6 : Nat) : CnsDue :=
  let last := match s.cns.events.getLast? with
    | some e => if (e.words.getD 1 0).toNat / 2 ^ 32 = s.cns.startCount then (e.words.getD 2 0).toNat else 0
    | none => 0
  let d := cnsDueNow s type d5 d6
  if s.pwr.inReset then { d with tag := max d.tag last } else d

/-- R424, R448: a trip: TRIP, then SEAL with cause 1; a seal under way takes the TRIP and one SEAL follows both. -/
def cnsTrip (cause mv temp sensor : Nat) (s : State) : State :=
  let trip := tripEvent s 5 (cause * 2 ^ 32 + mv) (temp * 2 ^ 32 + sensor)
  cnsFlush (s.modCns fun c => { c with
    due := if c.due.any (fun d => d.type == 6) then beforeSeal s trip c.due else c.due ++ [trip, tripEvent s 6 1 0] })

/-! ### Reading and clearing (R450, R451) -/

/-- The trailer of R444: words before it, and the CRC-32C over their bytes. -/
def imageTrailer (ws : List DWord) : DWord :=
  BitVec.ofNat 64 (ws.length * 2 ^ 32 + (crc32c (ws.flatMap (fun w => beBytes 8 w.toNat))).toNat)

/-- R450: the journal image. -/
def cnsImage (s : State) : List DWord :=
  let c := s.cns
  let oldest := match c.events with | e :: _ => (e.words.getD 0 0).toNat % 2 ^ 48 | [] => 0
  let ws : List DWord := [BitVec.ofNat 64 (deviceId s * 2 ^ 48 + 2 ^ 40 + c.sealed.toNat * 2 ^ 32 + c.events.length),
    BitVec.ofNat 64 ((cell s .hstInstallPos).toNat * 2 ^ 32 + c.startCount), BitVec.ofNat 64 oldest, BitVec.ofNat 64 c.lost, 0, 0, 0, 0] ++
    c.events.flatMap (·.words)
  ws ++ [imageTrailer ws]

/-- R444, R450: the CRC-32C in an image's trailer. -/
def imageCode (ws : List DWord) : Word := (ws.getLast?.getD 0).setWidth 32

/-- R384: a CNS_READ has completed whose image, of trailer CRC `code`, was formed when the next event was number `next`: it is CLEAR_CODE, and the journal
has moved if it has taken an event since. -/
def cnsReadDone (code : Word) (next : Nat) (s : State) : State :=
  s.modCns fun c => { c with clearCode := code, moved := c.next != next }

/-- R384: CNS_CLEAR may clear. -/
def clearGood (s : State) (code : Word) : Bool := code == s.cns.clearCode && !s.cns.moved

/-- R451: the journal is emptied and unsealed, and a CLEAR event is due before all others; those move to this moment, so that the journal keeps the
order of tags (R294, R445). -/
def cnsClear (s : State) : State :=
  let n := s.cns.events.length
  s.modCns fun c => Cornerstone.update { c with
    events := [], sealed := false, lost := 0, clearing := true, due := cnsDueNow s 10 n 0 :: c.due.map (·.restamp s), clearCode := 0, moved := true }

/-! ### Starts (R445, R447, R454) -/

/-- Whether an event's CRC is good. -/
def cnsEventGood (e : CnsEvent) : Bool :=
  (e.words.getD 7 0) == BitVec.ofNat 64 (crc32c ((e.words.take 7).flatMap (fun (w : DWord) => beBytes 8 w.toNat) ++ beBytes 4 0)).toNat

/-- R447: no copy of the control area is good: it is rebuilt from the journal. -/
def cnsRebuild (s : State) : State :=
  let good := s.cns.events.filter cnsEventGood
  let ty := fun (e : CnsEvent) => (e.words.getD 0 0).toNat / 2 ^ 56
  let newest := good.getLast?
  let marks := (good.map ty).filter (fun t => t == 6 || t == 10)
  let next := match newest with | some e => ((e.words.getD 0 0).toNat + 1) % 2 ^ 48 | none => 0
  raise Src.cnsMemFail 0 [0] (event .cnsEvt 0 19 (s.modCns fun c => { c with
    next := next
    startCount := match newest with | some e => (e.words.getD 1 0).toNat / 2 ^ 32 | none => 0
    sealed := marks.getLast? == some 6
    lost := 0xFFFFFFFF
    clearing := false
    failed := ((Config.rebuiltSlots next).filter (fun q => decide (q < 4096))).take 64 })) (master := 13) (access := 1)

/-- What of the Cornerstone outlives a foundation reset or a trip (R447, R454). -/
def Cornerstone.afterReset (c : Cornerstone) : Cornerstone :=
  { c with due := [], critical := none, switches := [], clearCode := 0, moved := true }

/-- R447: of the copies of the control area with a good CRC, the one with the highest event number, the first of equal ones. -/
def Cornerstone.newest (c : Cornerstone) (good : BitVec 3) : Option CnsControl :=
  let l := (if good.getLsbD 0 then [c.control0] else []) ++ (if good.getLsbD 1 then [c.control1] else []) ++
    (if good.getLsbD 2 then [c.control2] else [])
  l.foldl (fun m x => match m with | some y => if y.next < x.next then some x else m | none => some x) none

/-- R447: the Cornerstone works on with a copy of its control area: the events that it counts from its head. -/
def Cornerstone.take (c : Cornerstone) (x : CnsControl) : Cornerstone :=
  { c with
    events := (c.events.dropWhile (fun e => e.slot != x.head)).take x.count
    next := x.next, startCount := x.startCount, sealed := x.sealed, lost := x.lost, failed := x.failed, clearing := x.clearing }

/-- R445 to R447: a foundation reset has completed: the control area is read, or rebuilt; the start count rises and START is due. `good`: the copies
with a good CRC. -/
def cnsStart (good : BitVec 3) (s : State) : State :=
  let s := match s.cns.newest good with
    | some x => s.modCns fun c => c.take x
    | none => (cnsRebuild s).modCns Cornerstone.update
  let s := s.modCns fun c => { c with startCount := (c.startCount + 1) % 2 ^ 32 }
  s.modCns fun c => { c with due := cnsDueNow s 1 s.pwr.resetCause (cell s .hstId).toNat :: c.due }

/-! ### What the registers show (R453) -/

/-- CNS_STAT. -/
def cnsStatRead (s : State) : Word :=
  let c := s.cns
  mkFld 31 31 (c.due.any (fun d => d.type == 6)).toNat ||| mkFld 20 8 c.events.length ||| mkFld 7 1 c.failed.length ||| mkFld 0 0 c.sealed.toNat

/-- CNS_LAST: the low 32 bits of the newest event number. -/
def cnsLastRead (s : State) : Word := if s.cns.events.isEmpty && s.cns.next == 0 then 0 else w32 (s.cns.next + 2 ^ 48 - 1)

end Sys2Proof.Machine
end

