-- ==== Sys2Proof/Machine/Gauge.lean ====
section
/-!
DEFINITION. The Gauge (17): channel modes, conversions and results, open inputs, blanking, self-calibration, interlock outputs.
-/
namespace Sys2Proof.Machine

def State.modGau (f : Gauge → Gauge) (s : State) : State := { s with gau := f s.gau }
def gauConv (s : State) (k : Nat) : GauConv := smGet .reset s.gau.convs k
def modConv (k : Nat) (f : GauConv → GauConv) (s : State) : State := s.modGau fun g => { g with convs := smUpd .reset g.convs k f }
def gauChan (s : State) (c : Nat) : GauChan := smGet .reset s.gau.chans c
def modChan (c : Nat) (f : GauChan → GauChan) (s : State) : State := s.modGau fun g => { g with chans := smUpd .reset g.chans c f }
def gauOut (s : State) (o : Nat) : GauOut := smGet .reset s.gau.outs o
def modOut (o : Nat) (f : GauOut → GauOut) (s : State) : State := s.modGau fun g => { g with outs := smUpd .reset g.outs o f }

/-! ### Channels and modes (R388 to R390) -/

/-- R388: the converter of a channel. -/
def chanConv (c : Nat) : Nat := if c < 16 then c else if c < 64 then 16 + (c - 16) / 12 else 20

/-- R388: the channels of a converter, rising. -/
def convChans (k : Nat) : List Nat :=
  if k < 16 then [k] else if k < 20 then (List.range 12).map (16 + 12 * (k - 16) + ·) else (List.range 8).map (64 + ·)

/-- GAU_CH_CFG. -/
def chCfg (s : State) (c : Nat) : Word := cell s .gauChCfg c

/-- MODE of a configuration: codes 6 and 7 act as 0 (R389). -/
def cfgMode (w : Word) : Nat := if fld w 2 0 < 6 then fld w 2 0 else 0

/-- EXC of a configuration: codes 7 to 15 act as 0 (R390). -/
def cfgExc (w : Word) : Nat := if fld w 11 8 < 7 then fld w 11 8 else 0

/-- A current source (R390). -/
def isCurrent (e : Nat) : Bool := decide (1 ≤ e) && decide (e ≤ 3)
/-- A voltage source (R390). -/
def isVoltage (e : Nat) : Bool := decide (4 ≤ e) && decide (e ≤ 6)

/-- R389: the channel is misconfigured. -/
def misconfigured (s : State) (c : Nat) : Bool :=
  let w := chCfg s c
  let p := chCfg s (c - 1)
  if 64 ≤ c then false
  else
    match cfgMode w with
    | 2 => !isCurrent (cfgExc w)
    | 3 => cfgExc w != 0 || c % 2 == 0 || cfgMode p != 5 || !isCurrent (cfgExc p)
    | 4 => cfgExc w != 0 || c % 2 == 0 || cfgMode p != 5 || !isVoltage (cfgExc p)
    | 5 => cfgExc w == 0
    | _ => cfgExc w != 0

/-- R389, R394: the channel is converted when its turn comes. -/
def convertible (s : State) (c : Nat) : Bool :=
  if 64 ≤ c then true
  else decide (1 ≤ cfgMode (chCfg s c)) && decide (cfgMode (chCfg s c) ≤ 4) && !misconfigured s c

/-- R394: the channel is in its converter's scan list. -/
def inScan (s : State) (c : Nat) : Bool := bit (chCfg s c) 19 && convertible s c

/-- MODE of a channel in force (R397). -/
def actMode (s : State) (c : Nat) : Nat := cfgMode (gauChan s c).act

/-- The source that a configuration drives, 0 for none (R389, R390). -/
def cfgSource (w : Word) : Nat := if cfgMode w = 5 ∨ (cfgMode w = 2 ∧ isCurrent (cfgExc w)) then cfgExc w else 0

/-- R390, R389: the source that a channel drives by its configuration in force, 0 for none. -/
def sourceOf (s : State) (c : Nat) : Nat := if 64 ≤ c then 0 else cfgSource (gauChan s c).act

/-- A mode that senses the source of the channel before it (R389). -/
def isSense (m : Nat) : Bool := m == 3 || m == 4

/-- A channel senses the source of the channel before it, by its configuration in force (R389). -/
def sensesPartner (s : State) (c : Nat) : Bool := c % 2 == 1 && isSense (actMode s c)

/-- R399: the channel that a source's monitor affects. -/
def affectedChan (s : State) (c : Nat) : Nat := if actMode s c = 5 ∧ sensesPartner s (c + 1) then c + 1 else c

/-! ### The Gauge's state (17, opening) -/

/-- RUNNING: domains 76 and 77 ON and not isolated. -/
def gaugeRunning (s : State) : Bool := domOn s 76 && domOn s 77 && !isIsolated s .gauge

/-- GAU_STAT.STATE. -/
def gaugeState (s : State) : Nat :=
  if (powerDom s 76).phase = .off ∨ (powerDom s 77).phase = .off then 0
  else if !(domOn s 76 && domOn s 77) then 1 else if isIsolated s .gauge then 3 else 2

/-- R401: the Gauge is blanking. -/
def blanking (s : State) : Bool :=
  let w := cell s .gauBlank
  (bit w 0 && s.gau.blank0) || (bit w 1 && s.gau.blank1)

/-- R390, R405: sources drive: off with domain 76, in isolation, and with domain 77. -/
def sourcesOn (s : State) : Bool := gaugeRunning s

/-! ### Conversions (R392 to R401) -/

/-- R392: cycles of the period's clock in an integration period. -/
def periodCycles (nplc : Nat) (mains : Bool) : Nat :=
  (match nplc with | 0 => 1 | 1 => 2 | 2 => 5 | _ => 10) * (if mains then 1666667 else 2000000)

/-- Gain of a gain code. -/
def gainOf (g : Nat) : Nat := 4 ^ g

/-- Gain code of a channel under a configuration: internal channels at gain 1 (R404). -/
def chGain (c : Nat) (w : Word) : Nat := if 64 ≤ c then 0 else fld w 17 16

/-- Signed format of a channel under a configuration (R395, R404). -/
def chSigned (c : Nat) (w : Word) : Bool := decide (64 ≤ c) || bit w 18

/-- R394: conversions per visit. -/
def chDwell (s : State) (c : Nat) : Nat := max 2 (fld (chCfg s c) 23 20)

/-- The next two results of a channel carry SETTLE (R397). -/
def settleTwo (c : Nat) (s : State) : State := modChan c (fun x => { x with settleLeft := 2 }) s

/-- Conversions may run (R393). -/
def conversionsOn (s : State) (k : Nat) : Bool := gaugeRunning s && bit (cell s .gauCtl) 0 && !(gauConv s k).selfcal

/-- R394: a class B converter is to step before its next integration. -/
def stepDue (s : State) (k : Nat) : Bool :=
  match (gauConv s k).connected with
  | none => true
  | some c => decide (chDwell s c ≤ (gauConv s k).visit) || !convertible s c

/-- R394: the channel after one in the scan list, wrapping. -/
def nextChan (s : State) (k : Nat) (after : Option Nat) : Option Nat :=
  let l := (convChans k).filter (inScan s)
  match after with
  | none => l.head?
  | some c => match l.find? (fun x => decide (c < x)) with | some x => some x | none => l.head?

/-- MULTIPLEXER_STEP (R394): the converter opens its channel and connects the next; that channel's first result carries SETTLE. -/
def muxStep (k : Nat) (s : State) : State :=
  if decide (16 ≤ k) && conversionsOn s k && (gauConv s k).run.isNone && stepDue s k then
    let n := nextChan s k (gauConv s k).connected
    let s := modConv k (fun v => { v with connected := n, visit := 0, longStep := false }) s
    match n with
    | some c => modChan c (fun x => { x with settleLeft := max 1 x.settleLeft }) s
    | none => s
  else s

/-- The factors of a converter at a gain: OFFSET and GAIN (R403). -/
def calFactors (s : State) (k g : Nat) : Int × Nat := (sfld (cell s .gauCalOfs k g) 23 0, (cell s .gauCalGain k g).toNat)

/-- R397: the written MODE and EXC of a channel come into force: what its former source or mode had found falls away, and its next two results carry
SETTLE. -/
def GauChan.apply (w : Word) (x : GauChan) : GauChan :=
  { x with
    act := w, settleLeft := 2, excPending := false
    open_ := x.open_ && isCurrent (cfgSource w)
    excFault := x.excFault && isVoltage (cfgSource w)
    held := x.held && decide (cfgSource w ≠ 0)
    burnout := x.burnout && decide (cfgMode x.act = cfgMode w) }

/-- R397: a change of excitation or mode that waits comes into force. -/
def excApply (c : Nat) (s : State) : State := if (gauChan s c).excPending then modChan c (GauChan.apply (chCfg s c)) s else s

/-- R397: a channel's own change, and that of the EXC partner that it senses, come into force at the start of an integration of its converter. -/
def excApplies (c : Nat) (s : State) : State :=
  excApply c (if c % 2 = 1 ∧ isSense (cfgMode (chCfg s c)) = true then excApply (c - 1) s else s)

/-- R397: what takes effect at the start of an integration of channel `c` on converter `k`. -/
def settleAtStart (k c : Nat) (s : State) : State :=
  let v := gauConv s k
  let per := (fld (cell s .gauConvCfg k) 1 0, bit (cell s .gauCtl) 2)
  let moved := match v.lastPeriod with | some p => p != per | none => false
  let s := forL (convChans k) (fun d t =>
    let t := excApplies d t
    if v.settleAll || moved then settleTwo d t else t) s
  let g := chGain c (chCfg s c)
  let ok := v.calValid.getLsbD g
  let s := match (gauChan s c).lastGain with
    | some (g0, ok0) => if g0 ≠ g ∨ (!ok0 && ok) then settleTwo c s else s
    | none => s
  modChan c (fun x => { x with lastGain := some (g, ok) })
    (modConv k (fun y => { y with lastPeriod := some per, settleAll := false, fresh := false }) s)

/-- An integration of channel `c` begins on converter `k` (R392, R397, R403). -/
def beginRun (k c : Nat) (s : State) : State :=
  let s := settleAtStart k c s
  let w := chCfg s c
  let f := calFactors s k (chGain c w)
  modConv k (fun v => { v with
    connected := some c
    run := some { channel := c, cfg := w, nplc := fld (cell s .gauConvCfg k) 1 0, mains := bit (cell s .gauCtl) 2,
                  blankEn := bit (cell s .gauConvCfg k) 8, offset := f.1, gain := f.2, valid := v.calValid.getLsbD (chGain c w)
                  wasOpen := false, wasBlank := blanking s, wasClear := !blanking s } }) s

/-- A conversion in progress changes. -/
def modRun (k : Nat) (f : GauRun → GauRun) (s : State) : State := modConv k (fun v => { v with run := v.run.map f }) s

/-- R401: every conversion in progress sees whether the Gauge is blanking. -/
def blankSeen (s : State) : State :=
  forN 21 (fun k => modRun k (fun x => { x with wasBlank := x.wasBlank || blanking s, wasClear := x.wasClear || !blanking s })) s

/-- R399: OPEN is set on a channel: its conversion in progress carries it. -/
def openSeen (c : Nat) (s : State) : State := modRun (chanConv c) (fun x => { x with wasOpen := x.wasOpen || x.channel == c }) s

/-- The channel that the next integration of a converter takes, if one may begin (R393, R394). -/
def startChan (s : State) (k : Nat) : Option Nat :=
  if conversionsOn s k && (gauConv s k).run.isNone then
    if k < 16 then (if inScan s k then some k else none)
    else if stepDue s k then none else (gauConv s k).connected
  else none

/-- INTEGRATION_START (R393): a converter that starts afresh with ALIGN = 1 waits for the whole second instead. -/
def integrationStart (k : Nat) (s : State) : State :=
  if (gauConv s k).fresh && bit (cell s .gauCtl) 3 then s
  else match startChan s k with | some c => beginRun k c s | none => s

/-- GAU_ALIGN_START (R393): at the whole second, every converter that waits for it begins its first integration. -/
def alignStart (s : State) : State :=
  if bit (cell s .gauCtl) 3 then
    forN 21 (fun k t =>
      if (gauConv t k).fresh then
        let t := if 16 ≤ k then muxStep k t else t
        match startChan t k with | some c => beginRun k c t | none => t
      else t) s
  else s

/-- R395: V_REF of a conversion in a mode, in 2⁻⁴⁸ V: 2.500 V, or the partner's excitation voltage for BRIDGE_SENSE. -/
def vRef (mode : Nat) (r : GauReading) : Nat := if mode = 4 then r.excitation else 5 * 2 ^ 47

/-- MODE of a conversion; that of an internal channel is ignored (R404). -/
def GauRun.mode (x : GauRun) : Nat := if 64 ≤ x.channel then 0 else cfgMode x.cfg

/-- R395: v = round(2²⁴ × V_in × G ÷ V_REF), before calibration: the reading scaled to the full period (R401). -/
def rawValue (g mode : Nat) (r : GauReading) (full unblanked : Nat) : Int :=
  if vRef mode r = 0 then Config.noReference r.input
  else divRound (2 ^ 24 * r.input * (gainOf g : Nat) * (full : Nat)) (vRef mode r * unblanked)

/-- R395: v′ = round((v − OFFSET) × GAIN ÷ 2³⁰). -/
def calibrated (v offset : Int) (gain : Nat) : Int := divRound ((v - offset) * (gain : Nat)) (2 ^ 30)

/-- R395: the code of v′ and whether it is overranged; `sat` is the direction in which the integrator saturated. -/
def codeOf (isSigned : Bool) (v : Int) (sat : Option Bool) : Nat × Bool :=
  if isSigned then
    let x := divRound v 2
    if sat = some true ∨ x > 0x7FFFFF then (0x7FFFFF, true)
    else if sat = some false ∨ x < -0x800000 then (0x800000, true)
    else (unsigned 24 x, false)
  else if sat.isSome ∨ v < 0 ∨ v > 0xFFFFFF then (0xFFFFFF, true)
  else (v.toNat, false)

/-- R399, R400: results of a channel carry OPEN. -/
def resultOpen (s : State) (c : Nat) : Bool :=
  (gauChan s c).burnout ||
    (if sensesPartner s c then (gauChan s (c - 1)).held else decide (c < 64) && actMode s c == 2 && (gauChan s c).held)

/-- The positive clamp of a format (R399). -/
def openCode (isSigned : Bool) : Nat := if isSigned then 0x7FFFFF else 0xFFFFFF

/-- R395, R396, R401, R405: the code of a conversion with its flags OVR, OPEN, BLANKED and NODATA. -/
def convert (s : State) (x : GauRun) (r : GauReading) : Nat × Bool × Bool × Bool × Bool :=
  let full := periodCycles x.nplc x.mains
  let un := if x.blankEn && x.wasBlank then (if x.wasClear then min full r.unblanked else 0) else full
  let sg := chSigned x.channel x.cfg
  let blanked := decide (full < 10 * (full - un))
  let nodata := decide (10 * un < full)
  if x.wasOpen || resultOpen s x.channel then (openCode sg, false, true, blanked, false)
  else if nodata then (0, false, false, true, true)
  else
    let k := codeOf sg (calibrated (rawValue (chGain x.channel x.cfg) x.mode r full un) x.offset x.gain) r.saturated
    (k.1, k.2, false, blanked, false)

/-- The word of GAU_RES (R396). -/
def resultWord (code : Nat) (settle ovr open_ blanked uncal free nodata timebase : Bool) : Word :=
  mkFld 31 8 code ||| mkFld 7 7 settle.toNat ||| mkFld 6 6 ovr.toNat ||| mkFld 5 5 open_.toNat ||| mkFld 4 4 blanked.toNat |||
    mkFld 3 3 uncal.toNat ||| mkFld 2 2 free.toNat ||| mkFld 1 1 nodata.toNat ||| mkFld 0 0 timebase.toNat

/-- R396: a channel's result is published. -/
def publishResult (c : Nat) (w : Word) (settle : Bool) (s : State) : State :=
  let t := nowTime s
  modChan c (fun x => { x with
      count := (x.count + 1) % 256, time := t, tag := timeTag s, course := nowCourse s, settleLeft := x.settleLeft - 1
      clean := if settle then x.clean else some (w, t) }) (setCell .gauRes c 0 w s)

/-- CONVERSION_END (R392, R395 to R401): the result of the conversion in progress is published. -/
def conversionEnd (k : Nat) (r : GauReading) (s : State) : State :=
  match (gauConv s k).run with
  | some x =>
    let c := x.channel
    let res := convert s x r
    let ovr := res.2.1
    let open_ := res.2.2.1
    let settle := decide (0 < (gauChan s c).settleLeft)
    let w := resultWord res.1 settle ovr open_ res.2.2.2.1 (!x.valid) (s.quo.worst == 2) res.2.2.2.2 (!s.quo.xoOk)
    let first := ovr && !(gauChan s c).lastOvr
    let s := modChan c (fun y => { y with lastOvr := ovr, sinceCheck := y.sinceCheck + 1 }) (publishResult c w settle s)
    let s := modConv k (fun v => { v with run := none, visit := v.visit + 1, longStep := ovr || open_ }) s
    if first then raise Src.gauOverrange c [w32 c, w32 res.1] (event .gauEvt 0 16 s) else s
  | none => s

/-! ### Open inputs (R391, R399, R400) -/

/-- R399, R400: OPEN first sets on a channel. -/
def openRaised (c : Nat) (s : State) : State :=
  raise Src.gauOpen c [w32 c, w32 (openCode (chSigned c (chCfg s c)))] (event .gauEvt 0 17 s)

/-- GAU_OPEN (R391, R399): the compliance monitor of a current source finds its limit. -/
def gauOpenSet (c : Nat) (s : State) : State :=
  if sourcesOn s && isCurrent (sourceOf s c) then
    let was := (gauChan s c).held
    let s := openSeen (affectedChan s c) (modChan c (fun x => { x with open_ := true, held := true }) s)
    if was then s else openRaised (affectedChan s c) s
  else s

/-- GAU_OPEN_CLEAR (R399): the monitor has been clear for 10 ms; the next two results of the affected channel carry SETTLE. -/
def gauOpenClear (c : Nat) (s : State) : State :=
  if (gauChan s c).held && !(gauChan s c).excFault then
    settleTwo (affectedChan s c) (modChan c (fun x => { x with open_ := false, held := false }) s)
  else s

/-- GAU_EXC_FAULT (R391): a voltage source folds back. -/
def gauExcFault (c : Nat) (s : State) : State :=
  if sourcesOn s && isVoltage (sourceOf s c) && !(gauChan s c).excFault then
    raise Src.gauExcFault c [w32 c, w32 (affectedChan s c)]
      (event .gauEvt 0 18 (openSeen (affectedChan s c) (modChan c (fun x => { x with excFault := true, held := true }) s)))
  else s

/-- EXC_RETRY (R391): a folded-back source tries again. -/
def excRetry (c : Nat) (within : Bool) (s : State) : State :=
  if (gauChan s c).excFault && within then modChan c (fun x => { x with excFault := false }) s else s

/-- BURNOUT_CHECK (R400): the check in the dead time of a voltage-sensed channel, where it is due and the Gauge is not blanking. -/
def burnoutCheck (k : Nat) (isOpen : Bool) (s : State) : State :=
  match (gauConv s k).connected with
  | some c =>
    let m := actMode s c
    let x := gauChan s c
    if conversionsOn s k && (gauConv s k).run.isNone && decide (c < 64) && (m == 1 || m == 3 || m == 4) && !blanking s &&
        (decide (16 ≤ x.sinceCheck) || (x.burnout && decide (1 ≤ x.sinceCheck))) then
      let s := modChan c (fun y => { y with sinceCheck := 0, burnout := isOpen }) s
      if isOpen && !x.burnout then openRaised c s
      else if !isOpen && x.burnout then settleTwo c s
      else s
    else s
  | none => s

/-- BLANK_EDGE (R401): a BLANK_N pin changes. -/
def blankEdge (p : Nat) (asserted : Bool) (s : State) : State :=
  blankSeen (s.modGau fun g => if p = 0 then { g with blank0 := asserted } else { g with blank1 := asserted })

/-! ### Changes (R397, R405) -/

/-- A change of a channel's excitation, or of its EXC partner's (R397): its conversion is discarded at once. -/
def excChanged (c : Nat) (s : State) : State :=
  let k := chanConv c
  let s := modChan c (fun x => { x with excPending := true }) s
  match (gauConv s k).run with
  | some r => if r.channel = c then modConv k (fun v => { v with run := none }) s else s
  | none => s

/-- GAU_CH_CFG[c] has been written; `old` is its word before (R397, R405). The source and the mode in force stay until the change takes effect. -/
def chCfgWritten (c : Nat) (old : Word) (s : State) : State :=
  let new := chCfg s c
  if 64 ≤ c ∨ (cfgMode old = cfgMode new ∧ cfgExc old = cfgExc new) then s
  else
    let s := excChanged c s
    if c % 2 = 0 ∧ isSense (cfgMode (chCfg s (c + 1))) = true then excChanged (c + 1) s else s

/-- R405: isolation, or domain 76 or 77 leaving ON: conversions are discarded, the sources are off, results stay. -/
def gaugeStop (s : State) : State :=
  let s := forN 21 (fun k => modConv k (fun v => { v with run := none, connected := none, visit := 0, longStep := false, selfcal := false })) s
  if sourcesOn s then s
  else forN 64 (fun c => modChan c (fun x => { x with open_ := false, held := false, excFault := false })) s

/-- R397: domain 76 has returned to ON. -/
def gaugeAnalogueOn (s : State) : State := forN 21 (fun k => modConv k (fun v => { v with settleAll := true, fresh := true })) s

/-- R408: domain 77 leaves ON: outputs are high impedance. -/
def gaugeOutputsOff (s : State) : State :=
  forN 16 (fun o => modOut o (fun x => { x with highZ := true, fault := false, cause := 0, duty := 0, freq := 0 })) s

/-- R408: domain 77 has come back to ON from OFF or HOLD: outputs stand on their primary generators. -/
def gaugeOutputsOn (s : State) : State := forN 16 (fun o => modOut o (fun x => { x with standby := false, failed := false })) s

/-- GAU_CTL has been written; `old` is its word before (R393). -/
def gauCtlWritten (old : Word) (s : State) : State :=
  let on := bit (cell s .gauCtl) 0
  if on = bit old 0 then s
  else forN 21 (fun k => modConv k (fun v => { v with run := none, connected := if on then v.connected else none, visit := 0, fresh := true })) s

/-- GAU_CAL_GAIN[k][g] has been written (R403). -/
def gauGainWritten (k g : Nat) (s : State) : State := modConv k (fun v => { v with calValid := v.calValid ||| (1 <<< g) }) s

/-! ### Self-calibration (R402) -/

/-- The middle of three. -/
def median (a b c : Int) : Int := max (min a b) (min (max a b) c)

/-- R402: OFFSET and GAIN from the medians, so that zero gives 0 and 2.000 V gives 2²⁴ × 0.8 × G. -/
def calFrom (g : Nat) (r : GauCalReading) : Int × Int :=
  let z := median r.zero0 r.zero1 r.zero2
  let d := median r.ref0 r.ref1 r.ref2 - z
  let num : Int := (2 ^ 30 * 2 ^ 24 * 4 * gainOf g : Nat)
  (z, if d > 0 then divRound num (5 * d.toNat) else 0)

/-- R402: the first factor of a converter outside its limits: 2 × g for OFFSET, 2 × g + 1 for GAIN. -/
def firstFailing (l : List (Int × Int)) : Option Nat :=
  (List.range 8).find? fun i =>
    let f := l.getD (i / 2) (0, 0)
    if i % 2 = 0 then decide (f.1 > 2 ^ 18) || decide (f.1 < - 2 ^ 18)
    else decide (100 * f.2 < 98 * 2 ^ 30) || decide (100 * f.2 > 102 * 2 ^ 30)

/-- R402: self-calibration begins on the converters of a mask. -/
def selfcalBegin (mask : Nat) (s : State) : State :=
  forN 21 (fun k t => if mask.testBit k then
      modConv k (fun v => { v with selfcal := true, run := none, connected := none, visit := 0 }) t else t) s

/-- R402: self-calibration ends on one converter, with what it read at each gain; the failing factor if there is one. -/
def selfcalConv (k : Nat) (rs : List GauCalReading) (s : State) : State × Bool :=
  let f := (List.range 4).map (fun g => calFrom g (rs.getD g ⟨0, 0, 0, 0, 0, 0⟩))
  let s := modConv k (fun v => { v with selfcal := false, settleAll := true, calFail := (firstFailing f).isSome }) s
  match firstFailing f with
  | some i => (raise Src.gauSelfcalFail k [w32 k, w32 i] (event .gauEvt 0 20 s), false)
  | none =>
    (modConv k (fun v => { v with calValid := 15 })
      (forN 4 (fun g t =>
        let x := f.getD g (0, 0)
        setCell .gauCalGain k g (w32 x.2.toNat) (setCell .gauCalOfs k g (mkFld 23 0 (unsigned 24 x.1)) t)) s), true)

/-- R402: self-calibration ends on the converters of a mask: those within limits and those outside. -/
def selfcalEnd (mask : Nat) (rs : Nat → List GauCalReading) (s : State) : State × Nat × Nat :=
  let r := (List.range 21).foldl (fun (a : State × Nat × Nat) k =>
    if mask.testBit k then
      let x := selfcalConv k (rs k) a.1
      (x.1, if x.2 then (a.2.1 + 2 ^ k, a.2.2) else (a.2.1, a.2.2 + 2 ^ k))
    else a) (s, 0, 0)
  (event .gauEvt 0 19 r.1, r.2)

/-! ### Interlock outputs (R406 to R408) -/

/-- A 24-bit code in a format. -/
def codeValue (isSigned : Bool) (x : Nat) : Int := if isSigned then signed 24 x else (x : Int)

/-- R407: no result without SETTLE for STALE_MS ms; 0 disables the time test. -/
def staleTime (s : State) (c ms : Nat) : Bool :=
  match (gauChan s c).clean with
  | none => true
  | some r =>
    let ns := fun (t : AbsTime) => t.sec.toNat * 1000000000 + t.ns.toNat
    decide (ms ≠ 0) && decide (ns r.2 + ms * 1000000 ≤ ns (nowTime s))

/-- R407: the first cause that holds. -/
def outCause (s : State) (o : Nat) : Nat :=
  let w := cell s .gauOutCfg o
  let c := fld w 22 16
  let r := cell s .gauRes c
  if !gaugeRunning s || !bit (cell s .gauCtl) 0 then 5
  else if decide (72 ≤ c) || !inScan s c || cell s .gauOutHi o == cell s .gauOutLo o then 6
  else if bit r 5 then 1
  else if bit r 6 then 2
  else if bit r 1 || staleTime s c (fld (cell s .gauOutAux o) 31 16) then 3
  else if bit r 3 && bit w 28 then 4
  else 0

/-- A frequency outside 10 to 10,000 acts as the nearer limit. -/
def freqLimit (f : Nat) : Nat := min 10000 (max 10 f)

/-- R406: floor(span × f), f = (x − LO) ÷ (HI − LO) limited to 0 to 1. -/
def scaled (span x lo hi : Int) : Int :=
  let d := hi - lo
  let n := x - lo
  let (n, d) := if d < 0 then (-n, -d) else (n, d)
  span * (max 0 (min n d)) / d

/-- R406, R407: duty in permille and frequency in Hz of an output, with its cause. -/
def outDrive (s : State) (o cause : Nat) : Nat × Nat :=
  let w := cell s .gauOutCfg o
  let fw := cell s .gauOutFreq o
  let flo := freqLimit (fld fw 15 0)
  let fhi := freqLimit (fld fw 31 16)
  if cause ≠ 0 then (if bit w 29 then 980 else 20, if bit w 30 then flo else 0)
  else
    let c := fld w 22 16
    let sg := chSigned c (chCfg s c)
    let x := codeValue sg (match (gauChan s c).clean with | some r => fld r.1 31 8 | none => 0)
    let lo := codeValue sg (fld (cell s .gauOutLo o) 23 0)
    let hi := codeValue sg (fld (cell s .gauOutHi o) 23 0)
    if bit w 30 then (500, ((flo : Int) + scaled ((fhi : Int) - flo) x lo hi).toNat)
    else (100 + (scaled 800 x lo hi).toNat, 0)

/-- R408: the read-back of a period agrees with the generator's command: no edge is missing, and the duty differs by at most 1% of the period. -/
def readsBack (x : GauOut) (r : GauReadback) : Bool :=
  decide (2 ≤ r.edges) && decide (((1000 * r.high : Nat) - (x.duty * r.period : Nat) : Int).natAbs ≤ 10 * r.period)

/-- R408: the read-back of the period that ends did not agree with the generator's command. -/
def outMismatch (o : Nat) (s : State) : State :=
  let x := gauOut s o
  if x.highZ then s
  else
    let s := if x.standby then modOut o (fun y => { y with failed := true }) s else modOut o (fun y => { y with standby := true }) s
    raise Src.gauOutSwitch o [w32 o, w32 (1 + x.standby.toNat)] (event .gauEvt 0 21 s)

/-- GAU_OUTPUT_PERIOD (R406 to R408): an output starts a new period; `r` is the read-back of the period that ends. -/
def outputPeriod (o : Nat) (r : GauReadback) (s : State) : State :=
  let s := if readsBack (gauOut s o) r then s else outMismatch o s
  if !bit (cell s .gauOutCfg o) 31 || (gauOut s o).failed || !domOn s 77 then
    modOut o (fun x => { x with highZ := true, fault := false, cause := 0, duty := 0, freq := 0 }) s
  else
    let k := outCause s o
    let d := outDrive s o k
    modOut o (fun x => { x with highZ := false, fault := decide (k ≠ 0), cause := k, duty := d.1, freq := d.2 }) s

/-- GAU_OUT_CFG[o] has been written (R408): an output whose ENABLE is 0 is high impedance. -/
def outCfgWritten (o : Nat) (s : State) : State :=
  if bit (cell s .gauOutCfg o) 31 then s
  else modOut o (fun x => { x with highZ := true, fault := false, cause := 0, duty := 0, freq := 0 }) s

/-! ### Locks and what the registers show (R409, R411) -/

/-- R409: the channel is the source of an enabled output. -/
def outputSource (s : State) (c : Nat) : Bool :=
  (List.range 16).any (fun o => bit (cell s .gauOutCfg o) 31 && fld (cell s .gauOutCfg o) 22 16 == c)

/-- R409: whether the LK fields of a register entry are locked while HST_LOCK.GAUGE_OUT is 1. -/
def gauLocked (s : State) (r : Reg) (i : Nat) : Bool :=
  match r with
  | .gauCtl | .gauOutCfg | .gauOutLo | .gauOutHi | .gauOutFreq | .gauOutAux => true
  | .gauChCfg => outputSource s i
  | .gauConvCfg => (convChans i).any (outputSource s)
  | _ => false

/-- R392: periods are counted on the internal oscillator: the Gauge counts them while it is RUNNING. -/
def ownTimebase (s : State) : Bool := gaugeRunning s && !s.quo.xoOk

/-- GAU_STAT. -/
def gauStatRead (s : State) : Word :=
  mkFld 7 7 s.gau.blank1.toNat ||| mkFld 6 6 s.gau.blank0.toNat ||| mkFld 5 5 (blanking s).toNat ||| mkFld 4 4 (ownTimebase s).toNat |||
    mkFld 1 0 (gaugeState s)

/-- GAU_CONV_STAT. -/
def gauConvStatRead (s : State) (k : Nat) : Word :=
  let v := gauConv s k
  mkFld 23 16 (v.connected.getD 0xFF) ||| mkFld 11 8 v.calValid.toNat ||| mkFld 2 2 v.selfcal.toNat ||| mkFld 1 1 v.calFail.toNat |||
    mkFld 0 0 v.run.isSome.toNat

/-- GAU_CH_STAT. -/
def gauChStatRead (s : State) (c : Nat) : Word :=
  let x := gauChan s c
  mkFld 31 24 x.count ||| mkFld 15 15 x.excPending.toNat ||| mkFld 14 14 (misconfigured s c).toNat ||| mkFld 13 13 (x.open_ || x.burnout).toNat |||
    mkFld 12 12 x.excFault.toNat ||| mkFld 11 11 x.burnout.toNat ||| mkFld 9 8 x.settleLeft

/-- GAU_OUT_STAT. -/
def gauOutStatRead (s : State) (o : Nat) : Word :=
  let x := gauOut s o
  mkFld 31 31 x.standby.toNat ||| mkFld 30 30 x.highZ.toNat ||| mkFld 29 29 x.fault.toNat ||| mkFld 28 26 x.cause ||| mkFld 25 16 x.duty |||
    mkFld 15 0 x.freq

/-- The snapshot of a channel (R396, R411). -/
def gauSnapData (s : State) (c : Nat) : List Word :=
  let x := gauChan s c
  [cell s .gauRes c, w32 (x.time.sec.toNat / 2 ^ 32), w32 x.time.sec.toNat, x.time.ns,
   mkFld 31 16 x.time.frac.toNat ||| mkFld 7 0 x.count, w32 x.course]

end Sys2Proof.Machine
end

