-- ==== Sys2Proof/Machine/Shows.lean ====
section
/-!
DEFINITION. Codes that registers, the Plumb and the Lodge show: states of lanes, uplinks, domains, the servo, and the fault
collector's pins (R309, R317).
-/
namespace Sys2Proof.Machine

/-- BED_LANE_STAT.STATE (R74). -/
def LanePhase.code : LanePhase → Nat
  | .down => 0 | .detect => 1 | .train => 2 | .lock => 3 | .exchange => 4 | .active => 5 | .quarantine => 6

/-- State of a timing domain (R35). -/
def DomPhase.code : DomPhase → Nat
  | .off => 0 | .aligning => 1 | .tracking => 2 | .locked => 3 | .lost => 4

/-- QUO_STAT.SERVO (R38). -/
def Servo.code : Servo → Nat
  | .free => 0 | .acquire => 1 | .locked => 2 | .holdover => 3

/-- UPL_LINK_STAT.STATE (R265). -/
def UplPhase.code : UplPhase → Nat
  | .down => 0 | .idle => 1 | .active => 2

/-- FLT_SRC_STAT.STATE (R313). -/
def SrcPhase.code : SrcPhase → Nat
  | .idle => 0 | .raised => 1 | .escalated => 2

/-- PLB_STAT.STATE (R437). -/
def PlbPhase.code : PlbPhase → Nat
  | .idle => 0 | .armed => 1 | .triggered => 2 | .held => 3

/-- FLT_STAT.WORST: the highest newest-primary LEVEL among sources that are not IDLE. -/
def worstLevel (s : State) : Nat := s.flt.srcs.foldl (fun m e => if e.2.phase = .idle then m else max m e.2.newest) 0

/-- A source that is not IDLE has a newest primary entry at a level or above it. -/
def anyAtLevel (s : State) (l : Nat) : Bool := s.flt.srcs.any (fun e => e.2.phase != .idle && decide (l ≤ e.2.newest))

/-- R309: FAULT_N is asserted. -/
def faultAsserted (s : State) : Bool := dpStopped s || anyAtLevel s (fld (cell s .fltCtl) 2 0)

/-- R309: ALARM_N is asserted. -/
def alarmAsserted (s : State) : Bool := dpStopped s || anyAtLevel s (max 2 (fld (cell s .fltCtl) 6 4))

/-- FLT_STAT. -/
def fltStatRead (s : State) : Word :=
  mkFld 22 12 ((s.flt.log.filter (fun e => !e.acked)).length) ||| mkFld 11 7 (satTo 5 s.flt.shadows.length) ||| mkFld 6 4 (worstLevel s) |||
    mkFld 3 3 (anyAtLevel s 2).toNat ||| mkFld 2 2 (dpStopped s).toNat ||| mkFld 1 1 (alarmAsserted s).toNat ||| mkFld 0 0 (faultAsserted s).toNat

/-- QUO_STAT. -/
def quoStatRead (s : State) : Word :=
  let q := s.quo
  mkFld 14 14 q.tx.isSome.toNat ||| mkFld 13 13 q.xoOk.toNat ||| mkFld 12 10 q.domB.phase.code ||| mkFld 9 7 q.domA.phase.code |||
    mkFld 6 5 q.worst ||| mkFld 4 4 q.slewing.toNat ||| mkFld 3 3 q.active.val ||| mkFld 1 0 q.servo.code

/-- QUO_DOM_STAT. -/
def quoDomStatRead (s : State) (d : Nat) : Word :=
  let q := if d = 0 then s.quo.domA else s.quo.domB
  mkFld 31 16 q.syncCount ||| mkFld 15 8 q.lostCause ||| mkFld 7 4 q.badMsg ||| mkFld 3 3 q.twoStep.toNat ||| mkFld 2 0 q.phase.code

end Sys2Proof.Machine
end

