-- ==== Sys2Proof/Machine/Records.lean ====
section
/-!
DEFINITION. The words of output records (R272 to R279), the cell pool (R219) and the throttle (R226).
-/
namespace Sys2Proof.Machine

def State.modMrt (f : Mortar → Mortar) (s : State) : State := { s with mrt := f s.mrt }

/-! ### Record words -/

/-- R272: the mason's mark. -/
def markWord (s : State) (t kind len : Nat) : DWord := BitVec.ofNat 64 (deviceId s * 2 ^ 48 + t * 2 ^ 40 + kind * 2 ^ 32 + len)

/-- R264, R219: credits, and cells, of a record of `n` words. -/
def cellsOf (n : Nat) : Nat := max 1 ((8 * n + 255) / 256)

/-- R272, R278: a whole record from the words between word 1 and the trailer. -/
def wholeRecord (s : State) (t kind seq : Nat) (body : List DWord) : List DWord :=
  withTrailer (markWord s t kind (body.length + 3) :: BitVec.ofNat 64 seq :: body)

/-- R278: the record with its CRC bitwise inverted. -/
def invertCrc (ws : List DWord) : List DWord :=
  match ws.getLast? with
  | some t => ws.dropLast ++ [t ^^^ 0xFFFFFFFF]
  | none => ws

/-- COURSE [63:8] and BT [5:0] of a local BT (R274). -/
def courseBtWord (b : Int) : DWord := BitVec.ofNat 64 (unsigned 56 (b / 64) * 256 + (b % 64).toNat)

/-- FLAGS [63:56] and LATENESS [55:40], in the record word that holds them (R274, R279). -/
def lateBits (late : Bool) (lateness : Nat) : DWord := if late then BitVec.ofNat 64 (0x20 * 2 ^ 56 + satTo 16 lateness * 2 ^ 40) else 0

/-- An entry that is a summary (R206, R207). -/
def AccEntry.summary (e : AccEntry) : Bool := e.kind == .lossSummary || e.kind == .refusalSummary

/-- Word 2 of the records of an entry (R274, R279). -/
def AccEntry.numberWord (e : AccEntry) : DWord :=
  BitVec.ofNat 64 (e.number % 2 ^ 48 * 65536 + (if e.summary then 0xFF else e.cls) * 256 + 1)

/-- R279: words 2 to 6 of a gap record, or of a flushed record with reason 0, without LATE. -/
def gapBody (e : AccEntry) (reason : Nat) : List DWord :=
  let none_ := e.summary || reason == 3
  [e.numberWord, if none_ then 0 else courseBtWord e.bt, if e.summary then 0 else e.domainBt,
   BitVec.ofNat 64 (reason * 2 ^ 56 + (if e.summary then 0 else if e.kind = .recall then 2 else 1) * 2 ^ 48 + (if e.summary then e.last % 2 ^ 48 else 0)),
   BitVec.ofNat 64 (if reason = 8 then e.refusedRecalls % 2 ^ 32 else 0)]

/-! ### The cell pool (R219) -/

/-- No cells. -/
def CellUse.zero : CellUse := []
/-- Cells in all banks. -/
def CellUse.total (c : CellUse) : Nat := c.length
/-- Cells in one bank: bank b holds cells 8,192 × b on. -/
def CellUse.bank (c : CellUse) (b : Nat) : Nat := (c.filter (fun k => k / 8192 == b)).length

/-- The cells that a stream's released records hold. -/
def Stream.cells (x : Stream) : List CellUse := x.out.map (·.cells) ++ (match x.block with | some b => [b.out.cells] | none => [])

/-- Every holding of cells. -/
def allCells (s : State) : List CellUse :=
  s.mrt.table.flatMap (fun e => e.recs.map (·.cells)) ++ s.streams.flatMap (fun e => e.2.cells)

/-- Used cells of a bank. -/
def bankUsed (s : State) (b : Nat) : Nat := (allCells s).foldl (fun n c => n + c.bank b) 0

/-- Free cells of a bank: none while its domain is not ON (R219). -/
def bankFree (s : State) (b : Nat) : Nat := if domOn s (71 + b) then 8192 - bankUsed s b else 0

/-- Free cells in banks that are ON (R231). -/
def freeCells (s : State) : Nat := (List.range 4).foldl (fun n b => n + bankFree s b) 0

/-- Used cells of the pool. -/
def usedCells (s : State) : Nat := (allCells s).foldl (fun n c => n + c.total) 0

/-- The first `n` free cells from cell `c` on, of the `k` there; `on`: the banks whose domains are ON, `used`: the cells that records hold. -/
def pickCells (on : List Nat) (used : List Nat) : Nat → Nat → Nat → CellUse
  | 0, _, _ => []
  | k + 1, c, n =>
    if n = 0 then []
    else if on.contains (c / 8192) && !used.contains c then c :: pickCells on used k (c + 1) (n - 1)
    else pickCells on used k (c + 1) n

/-- R219: the first `n` cells of the free list. DESIGN CHOICE: the list stands in rising cell number. -/
def nextCells (s : State) (n : Nat) : CellUse :=
  pickCells ((List.range 4).filter (fun b => domOn s (71 + b))) (allCells s).flatten 32768 0 n

/-- R219: the chain of a record of `n` cells that holds `held`: it takes what it lacks from the free list, if there are as many, and gives back what it
does not need. -/
def takeCells (s : State) (held : CellUse) (n : Nat) : Option CellUse :=
  if n ≤ held.length + freeCells s then some (held.take n ++ nextCells s (n - held.length)) else none

/-- R219, R220: the cells of a record that would hold `n` of them and holds `held`: it takes what is free. -/
def growCells (s : State) (held : CellUse) (n : Nat) : CellUse := held ++ nextCells s (min (n - held.length) (freeCells s))

/-! The words of a record stand in its cells, 32 in each; a word is a protected block of memory 3, its bank the instance (R219, R327). -/

/-- Bank and block of word `i` of a record in cells `c`. -/
def cellBlock (c : CellUse) (i : Nat) : Nat × Nat :=
  let k := c.getD (i / 32) 0
  (k / 8192, 32 * (k % 8192) + i % 32)

/-- R219, R339: a record's words are written to its cells. -/
def cellsWrite (c : CellUse) (n : Nat) (s : State) : State :=
  forN (min n (32 * c.length)) (fun i t => eccWrite 3 (cellBlock c i).1 (cellBlock c i).2 t) s

/-- R221, R324: a record's words are read from its cells: the first cell that does not deliver one, if any. -/
def cellsRead (c : CellUse) : Nat → Nat → State → Option Nat × State
  | 0, _, s => (none, s)
  | n + 1, i, s =>
    if i < 32 * c.length then
      let r := eccRead 3 (cellBlock c i).1 (cellBlock c i).2 9 1 s
      if r.1 then cellsRead c n (i + 1) r.2 else (some (c.getD (i / 32) 0), r.2)
    else (none, s)

/-- R324: a record's words as reads of its cells deliver them. -/
def cellsDelivered (s : State) (c : CellUse) (ws : List DWord) : List DWord :=
  skewWords (fun i => if i < 32 * c.length then eccDelta s 3 (cellBlock c i).1 (cellBlock c i).2 else 0) 0 ws

/-- MRT_POOL_STAT.MIN_FREE follows the free count (R231). -/
def poolMoved (s : State) : State :=
  modCell .mrtPoolStat 0 0 (fun w => setFld w 31 16 (min (fld w 31 16) (freeCells s))) s

/-! ### The throttle (R226) -/

/-- CELLS of a stream: cells of its records in build and waiting. -/
def streamCells (s : State) (t : Nat) : Nat :=
  s.mrt.table.foldl (fun n e => e.recs.foldl (fun k r => if r.stream = t then k + r.cells.total else k) n) 0

/-- A quantity becomes above when it exceeds HIGH, until it falls below LOW. -/
def aboveNow (was : Bool) (v high low : Nat) : Bool := if v > high then true else if v < low then false else was

/-- MRT_THROT_STAT's causes: stream, pool, table, off. -/
def throttleCause (s : State) : Nat :=
  let sel := (cell s .mrtThrotSelHi) ++ (cell s .mrtThrotSelLo)
  ((List.range 48).any (fun t => sel.getLsbD t && (stream s t).above)).toNat + s.mrt.poolAbove.toNat * 2 + s.mrt.tableAbove.toNat * 4 +
    (!bit (cell s .mrtAccCtl) 0 || dpStopped s).toNat * 8

/-- R226: the watermarks and THROT_N after a change of what they watch. -/
def throttle (s : State) : State :=
  let s := poolMoved s
  let s := forN 48 (fun t x =>
    let w := cell x .mrtStreamWm t
    let a := aboveNow (stream x t).above (streamCells x t) (fld w 31 16) (fld w 15 0)
    if a = (stream x t).above then x else modStream t (fun y => { y with above := a }) x) s
  let wp := cell s .mrtThrotPool
  let wt := cell s .mrtThrotTable
  let s := s.modMrt fun m => { m with
    poolAbove := aboveNow m.poolAbove (usedCells s) (fld wp 31 16) (fld wp 15 0)
    tableAbove := aboveNow m.tableAbove m.table.length (fld wt 28 16) (fld wt 12 0) }
  let c := throttleCause s
  let on := decide (c ≠ 0)
  let was := s.mrt.asserted
  let s := s.modMrt fun m => { m with asserted := on }
  if on && !was then raise Src.mrtThrottle 0 (w32 c :: capCourse (nowCourse s)) (event .mrtAccEvt 0 16 s) else s

/-- MRT_THROT_STAT. -/
def mrtThrotStatRead (s : State) : Word := mkFld 4 4 s.mrt.asserted.toNat ||| mkFld 3 0 (throttleCause s)

end Sys2Proof.Machine
end

