-- ==== Sys2Proof/Machine/Accepts.lean ====
section
/-!
DEFINITION. The accept decoder: messages, the expected trigger number, the accept table, loss and refusal summaries (R202 to R210).
-/
namespace Sys2Proof.Machine

/-! ### Messages (R202, R203) -/

/-- What a well-formed accept or recall carries. -/
structure AccMsg where
  isRecall : Bool
  number : Nat
  cls : Nat
  domainBt : BitVec 64
  length : Nat
  mask : BitVec 64
  deriving DecidableEq, Repr

/-- The number that bytes `a` to `a + n − 1` of a body spell. -/
def bodyNat (b : List Byte) (a n : Nat) : Nat := beNat ((b.drop a).take n)

/-- R202: the fields of a body, or none where it is malformed. -/
def parseAccept (isRecall : Bool) (b : List Byte) : Option AccMsg :=
  let c := bodyNat b 6 1
  let len := bodyNat b 16 4
  if c ≥ 8 ∨ bodyNat b 7 1 ≠ 0 then none
  else if isRecall then
    if b.length ≠ 32 ∨ bodyNat b 20 4 ≠ 0 ∨ len = 0 ∨ len > 1048576 then none
    else some ⟨true, bodyNat b 0 6, c, BitVec.ofNat 64 (bodyNat b 8 8), len, BitVec.ofNat 64 (bodyNat b 24 8)⟩
  else if b.length ≠ 24 then none
  else some ⟨false, bodyNat b 0 6, c, BitVec.ofNat 64 (bodyNat b 8 8), 0, BitVec.ofNat 64 (bodyNat b 16 8)⟩

/-! ### Streams, units, windows (R208, R209, R228) -/

/-- MRT_STREAM_CFG in force. -/
def streamCfg (s : State) (t : Nat) : Word := inForce s .mrtStreamCfg t

/-- A mortar unit is in service (R228). -/
def unitIn (s : State) (u : Nat) : Bool := domOn s (71 + u) && !isIsolated s (.mortar u)

/-- R208: the streams that a class maps to. -/
def classStreams (s : State) (c : Nat) : List Nat :=
  let m := (inForce s .mrtClassMapHi c) ++ (inForce s .mrtClassMapLo c)
  (List.range 48).filter (fun t => m.getLsbD t && bit (streamCfg s t) 30)

/-- R206, R207: the streams that carry summaries. -/
def summaryStreams (s : State) : List Nat := (List.range 48).filter (fun t => bit (streamCfg s t) 30 && bit (streamCfg s t) 27)

/-- R219: MAX_CELLS as it acts. -/
def maxCells (w : Word) : Nat := max 16 (min 16384 (fld w 14 0))

/-- The stream's partner mask in force (R209). -/
def streamPmask (s : State) (t : Nat) : BitVec 64 := (inForce s .mrtStreamPmaskHi t) ++ (inForce s .mrtStreamPmaskLo t)

/-- R205, R209, R228: an entry's record on a stream at decode; `reason` is the gap reason of checks 6 to 9, 0 for none. -/
def newRec (s : State) (mask : BitVec 64) (reason t : Nat) : StreamRec :=
  let w := streamCfg s t
  let u := fld w 29 28
  ⟨t, u, mask &&& streamPmask s t, maxCells w,
   if reason ≠ 0 then .gap reason else if dpStopped s then .gap 6 else if unitIn s u then .building else .gap 5, [], .zero⟩

/-- The courses of a window that have numbers. -/
def windowCourses (lo hi : Int) : List Nat := if hi < 0 then [] else (List.range ((hi / 64).toNat + 1 - (lo / 64).toNat)).map ((lo / 64).toNat + ·)

/-- First window BT. -/
def AccEntry.lo (e : AccEntry) : Int := if e.kind = .recall then e.bt else e.bt + e.wstart
/-- Last window BT. -/
def AccEntry.hi (e : AccEntry) : Int := if e.kind = .recall then e.bt + e.length - 1 else e.bt + e.wend
/-- The window's courses. -/
def AccEntry.courses (e : AccEntry) : List Nat := windowCourses e.lo e.hi

/-- A fragment in build: its data is being gathered, or it waits for cells (R219, R220). -/
def StreamRec.inBuild (r : StreamRec) : Bool := match r.phase with | .building | .waiting _ => true | _ => false

/-- The partners that a unit needs for an entry: the union of its masks (R211). -/
def unitNeed (recs : List StreamRec) (u : Nat) : BitVec 64 :=
  recs.foldl (fun m r => if r.unit = u && r.inBuild then m ||| r.mask else m) 0

/-! ### Quarry requests (R186, R213) -/

/-- R186: a request joins the quarry's; it pins at once unless an earlier one still waits for pin space. -/
def enqueueRead (r : QReq) (s : State) : State := pinAt s.qry.reads.length (s.modQry fun q => { q with reads := q.reads ++ [r] })

/-- R213: the next piece of a recall, at most 16 courses, is submitted for a unit when its previous piece is done. -/
def submitPiece (id u : Nat) (s : State) : State :=
  match s.mrt.table.find? (fun e => e.id == id) with
  | some e =>
    match e.gathers.find? (fun g => g.unit == u) with
    | some g =>
      if g.toSubmit.isEmpty || s.qry.reads.any (fun r => !r.job && r.owner == id && r.unit == u) then s
      else
        let piece := g.toSubmit.take 16
        let s := s.modMrt fun m => { m with table := m.table.map (fun x => if x.id = id then
          { x with gathers := x.gathers.map (fun y => if y.unit = u then { y with toSubmit := y.toSubmit.drop 16 } else y) } else x) }
        enqueueRead ⟨id, false, u, unitNeed e.recs u, piece, [], none, false⟩ s
    | none => s
  | none => s

/-! ### The table (R205 to R207) -/

/-- The accept table is full. -/
def tableFull (s : State) : Bool := decide (4096 ≤ s.mrt.table.length)

/-- Block of an entry in the accept table (memory 6). DESIGN CHOICE: the spec numbers no blocks there. -/
def entrySlot (id : Nat) : Nat := id % 1048576

/-- R205: an entry takes its place, unless it has no record on any stream. -/
def putEntry (e : AccEntry) (s : State) : State :=
  (if e.recs.isEmpty then s else eccWrite 6 0 (entrySlot e.id) s).modMrt fun m => { m with nextId := m.nextId + 1, table := if e.recs.isEmpty then m.table else m.table ++ [e] }

/-- A summary entry (R206, R207). -/
def summaryEntry (s : State) (kind : EntryKind) (first last recalls reason : Nat) : AccEntry where
  id := s.mrt.nextId
  kind := kind
  number := first
  last := last
  refusedRecalls := recalls
  cls := 0xFF
  bt := 0
  domainBt := 0
  wstart := 0
  wend := 0
  length := 0
  arrival := nowStamp s
  late := false
  hist := 0
  gathers := []
  recs := (summaryStreams s).map (newRec s 0 reason)

/-- R207: an accept, a loss summary or a recall is refused and joins the refusal run. -/
def refuse (numbers : Option (Nat × Nat)) (isRecall : Bool) (number : Nat) (s : State) : State :=
  let s := count .mrtCntRefused 0 31 0 1 s
  match s.mrt.refusal with
  | some r =>
    s.modMrt fun m => { m with refusal := some { r with
      numbers := match r.numbers, numbers with | some (a, _), some (_, d) => some (a, d) | none, n => n | n, none => n
      recalls := r.recalls + isRecall.toNat } }
  | none =>
    let s := s.modMrt fun m => { m with refusal := some ⟨numbers, isRecall.toNat, nowStamp s⟩ }
    raise Src.mrtAccTableFull 0 (cap64 number ++ [w32 s.mrt.asserted.toNat] ++ capCourse (nowCourse s)) (event .mrtAccEvt 0 20 s)

/-- R207: an entry is free: an open refusal run closes and takes it. -/
def refusalCloses (s : State) : State :=
  match s.mrt.refusal with
  | some r =>
    if tableFull s then s
    else
      let n := r.numbers.getD (Config.noTrigger, Config.noTrigger)
      putEntry (summaryEntry s .refusalSummary n.1 n.2 r.recalls 8) (s.modMrt fun m => { m with refusal := none })
  | none => s

/-- R206: numbers `a` to `b` are missing. -/
def lossSummary (a b : Nat) (s : State) : State :=
  let n := (b + 2 ^ 48 - a) % 2 ^ 48 + 1
  let s := s.modMrt fun m => { m with lastMissing := some (a, b) }
  let s := raise Src.mrtAccLost 0 (cap64 a ++ cap64 b) (event .mrtAccEvt 0 19 (count .mrtCntLost 0 31 0 n s))
  if tableFull s then refuse (some (a, b)) false a s else putEntry (summaryEntry s .lossSummary a b 0 7) s

/-! ### Checks 5 to 10 (R204) -/

/-- The gap reason of checks 6 to 9, 0 for none; `b` is the local BT of the message (R204, R208). -/
def gapReason (s : State) (m : AccMsg) (b : Int) : Nat :=
  let w := inForce s .mrtWindow m.cls
  let last := if m.isRecall then b + m.length - 1 else b
  if !anyOffset s then 3
  else if !m.isRecall && (!bit w 30 || decide (sfld w 5 0 > sfld w 13 8)) then 4
  else if !m.isRecall && (match s.mrt.lastTrigger with | some t => decide ((m.domainBt - t).toInt < 4) | none => false) then 1
  else if last > (nowGbt s : Int) + 64 then 2
  else 0

/-- R204, R229: the event, the count and the report of a message given gap records. -/
def gapReport (m : AccMsg) (reason : Nat) (s : State) : State :=
  let s := count .mrtCntGap 0 31 0 1 s
  match reason with
  | 1 =>
    raise Src.mrtAccSpacing 0 (cap64 m.number ++ cap64 m.domainBt.toNat ++ cap64 (s.mrt.lastTrigger.getD 0).toNat ++ capCourse (nowCourse s))
      (event .mrtAccEvt 0 21 s)
  | 2 => raise Src.mrtAccFuture 0 (cap64 m.number ++ cap64 m.domainBt.toNat ++ cap64 (nowGbt s)) (event .mrtAccEvt 0 22 s)
  | 3 => raise Src.mrtNoTime 0 (cap64 m.number) (event .mrtAccEvt 0 23 s)
  | _ => s

/-- R205, R210: the entry of a message that reaches check 6 or later. -/
def messageEntry (s : State) (m : AccMsg) (b : Int) (reason : Nat) : AccEntry :=
  let w := inForce s .mrtWindow m.cls
  let late := m.isRecall || decide ((nowCourse s : Int) > b / 64 + 16)
  let recs := (classStreams s m.cls).map (newRec s m.mask reason)
  let units := ((recs.filter (fun r => r.phase == .building)).map (·.unit)).eraseDups
  let hi := if m.isRecall then b + m.length - 1 else b + sfld w 13 8
  let lo := if m.isRecall then b else b + sfld w 5 0
  { id := s.mrt.nextId
    kind := if m.isRecall then .recall else .accept
    number := m.number
    last := 0
    refusedRecalls := 0
    cls := m.cls
    bt := b
    domainBt := m.domainBt
    wstart := if m.isRecall then 0 else sfld w 5 0
    wend := if m.isRecall then 0 else sfld w 13 8
    length := (hi - lo + 1).toNat
    arrival := nowStamp s
    late := late
    hist := historyStart s
    gathers := units.map (fun u => ⟨u, late, late && !m.isRecall, [], if m.isRecall then windowCourses lo hi else [], [], [], []⟩)
    recs := recs }

/-- R204: checks 5 to 10. -/
def enterMessage (m : AccMsg) (s : State) : State :=
  if tableFull s then refuse (if m.isRecall then none else some (m.number, m.number)) m.isRecall m.number s
  else
    let b : Int := (m.domainBt - activeOffset s).toInt
    let reason := gapReason s m b
    let s1 := if reason ≠ 0 then gapReport m reason s else countWrap (if m.isRecall then .mrtCntRecall else .mrtCntAccept) 0 31 0 s
    let passed8 := !m.isRecall && (reason == 0 || reason == 2)
    let s2 := s1.modMrt fun y => { y with
      lastTrigger := if passed8 then some m.domainBt else y.lastTrigger
      lastEntered := if reason == 0 && !m.isRecall then some m.number else y.lastEntered }
    let e := messageEntry s m b reason
    let s3 := putEntry e s2
    forL e.gathers (fun g t =>
      if m.isRecall then submitPiece e.id g.unit t
      else if e.late then enqueueRead ⟨e.id, false, g.unit, unitNeed e.recs g.unit, e.courses, [], none, false⟩ t else t) s3

/-- E, while it is valid (R204, item 0x0003). -/
def expectedNumber (s : State) : Option Nat :=
  let v := s.btr.expected.val.toNat
  if v % 2 = 1 then some (v / 2) else none

/-- E takes a number and is valid. -/
def setExpected (n : Nat) (s : State) : State :=
  s.modBtr fun b => { b with expected := b.expected.move (BitVec.ofNat 49 (n % 2 ^ 48 * 2 + 1)) }

/-- R204: checks 3 and 4, for an accept. -/
def checkNumber (m : AccMsg) (s : State) : State :=
  let next := (m.number + 1) % 2 ^ 48
  match expectedNumber s with
  | none => enterMessage m (setExpected next s)
  | some e =>
    if behind 48 m.number e then
      raise Src.mrtAccDup 0 (cap64 m.number ++ cap64 e) (event .mrtAccEvt 0 18 (count .mrtCntDisc 0 31 16 1 s))
    else
      let s := if m.number = e then s else lossSummary e ((m.number + 2 ^ 48 - 1) % 2 ^ 48) s
      enterMessage m (setExpected next s)

/-- R203, R204: an accept or a recall arrives on the quoin link of domain `d`; its body has as many bytes as its length byte says. -/
def messageRx (isRecall : Bool) (d : Fin 2) (body : List Byte) (s : State) : State :=
  if !linkReceives s d then s
  else if s.quo.active ≠ d then count .mrtCntIgnored 0 31 0 1 s
  else if !bit (cell s .mrtAccCtl) (if isRecall then 1 else 0) then count .mrtCntIgnored 0 31 0 1 s
  else
    throttle (match parseAccept isRecall body with
      | none =>
        raise Src.mrtAccMalformed 0 ([if isRecall then 0x11 else 0x10, w32 body.length] ++ cap64 (bodyNat body 0 8 * 256 ^ (8 - min 8 body.length)))
          (event .mrtAccEvt 0 17 (count .mrtCntDisc 0 15 0 1 s))
      | some m => if isRecall then enterMessage m s else checkNumber m s)

/-- R204: E is marked not valid, so that the next accept sets it. -/
def accResync (s : State) : State := s.modBtr fun b => { b with expected := b.expected.move (b.expected.val &&& ~~~ 1) }

/-- MRT_ACC_STAT. -/
def mrtAccStatRead (s : State) : Word :=
  mkFld 14 14 (expectedNumber s).isSome.toNat ||| mkFld 13 13 s.mrt.refusal.isSome.toNat ||| mkFld 12 0 s.mrt.table.length

end Sys2Proof.Machine
end

