-- ==== Sys2Proof/Machine/Fragments.lean ====
section
/-!
DEFINITION. Fragments: extraction from the ring, reads of the quarry, what a fragment reports, its words, cells and truncation
(R210 to R220, R274 to R277).
-/
namespace Sys2Proof.Machine

/-! ### Entries and gathers by number -/

/-- The table entry with an identifier. -/
def entryById (s : State) (id : Nat) : Option AccEntry := s.mrt.table.find? (fun e => e.id == id)

/-- Change one table entry. -/
def modEntry (id : Nat) (f : AccEntry → AccEntry) (s : State) : State :=
  s.modMrt fun m => { m with table := m.table.map (fun e => if e.id = id then f e else e) }

/-- Change what one unit gathers for an entry. -/
def modGather (id u : Nat) (f : Gather → Gather) (s : State) : State :=
  modEntry id (fun e => { e with gathers := e.gathers.map (fun g => if g.unit = u then f g else g) }) s

/-- Change an entry's record on one stream. -/
def modRec (id t : Nat) (f : StreamRec → StreamRec) (s : State) : State :=
  modEntry id (fun e => { e with recs := e.recs.map (fun r => if r.stream = t then f r else r) }) s

/-- What unit `u` gathers for an entry. -/
def AccEntry.gather (e : AccEntry) (u : Nat) : Option Gather := e.gathers.find? (fun g => g.unit == u)

/-- The value that a list of pairs holds for a key. -/
def assocGet {α : Type} (l : List (Nat × α)) (k : Nat) : Option α := (l.find? (fun x => x.1 == k)).map (·.2)

/-- The window's last course; 0 for a window before course 0. -/
def AccEntry.lastCourse (e : AccEntry) : Nat := (e.hi / 64).toNat

/-! ### Extraction from the ring (R210 to R212) -/

/-- The table groups that hold, at a course's close, a partner of the mask. -/
def pairGroups (cr : CloseRec) (need : BitVec 64) : List Nat :=
  (List.range 32).filter (fun g => cr.partners.any (fun x => need.getLsbD x.1 && x.2 == g))

/-- The window's buckets of course `c`: first and last BT. -/
def AccEntry.bucketSpan (e : AccEntry) (c : Nat) : Nat × Nat :=
  ((max (e.lo - (c * 64 : Nat)) 0).toNat, (min (e.hi - (c * 64 : Nat)) 63).toNat)

/-- R150, R155: the ring reader takes the window's buckets of some pairs: the parts, the pairs that met an error, and the state after the reads. -/
def ringParts (e : AccEntry) : List (Nat × Nat) → State → List Part × List (Nat × Nat) × State
  | [], s => ([], [], s)
  | (c, g) :: t, s =>
    let sp := e.bucketSpan c
    let r := slotsRead c g 9 ((List.range (sp.2 + 1 - sp.1)).map (sp.1 + ·)) s
    let x := ringParts e t r.2.2
    if r.2.1 then (x.1, (c, g) :: x.2.1, x.2.2) else (⟨c, g, .ring r.1.flatten⟩ :: x.1, x.2.1, x.2.2)

/-- R211: whether the ring reader of unit `u` may serve entry `id` now: its courses are closed and no prompt accept of the unit
stands before it. -/
def extractable (s : State) (e : AccEntry) (u : Nat) : Bool :=
  (match e.gather u with | some g => !g.extracted | none => false) && decide (e.lastCourse + 2 ≤ nowCourse s) && unitIn s u && !dpStopped s &&
  ((s.mrt.table.find? (fun x => match x.gather u with | some g => !g.extracted | none => false)).map (·.id)) == some e.id

/-! ### Conditions (R215, R276, R290, R299) -/

/-- A condition record (R276), its range relative to BT 0 of COURSE, as 32-bit numbers. -/
structure Cond where
  kind : Nat
  cause : Nat
  count : Nat
  lane : Nat
  first : Nat
  last : Nat
  deriving DecidableEq, Repr

/-- BT `b` relative to BT `base`. -/
def condBt (base b : Int) : Nat := unsigned 32 (satSigned 32 (b - base))

/-- A condition over the whole of course `c`. -/
def wholeCond (base : Int) (c kind cause : Nat) : Cond :=
  ⟨kind, cause, cntUnknown, 0xFF, condBt base (c * 64 : Nat), condBt base (c * 64 + 63 : Nat)⟩

/-- An INCOMPLETE condition from a gap account in a table group. -/
def acctCond (base : Int) (a : Account) : Cond :=
  ⟨2, a.cause, a.count, if a.cause ≤ 2 then a.lane else 0xFF, condBt base a.first, if a.open_ then 0x7FFFFFFF else condBt base a.last⟩

/-- An INCOMPLETE condition from the account record at words `a` and `b` of the entry of course `c` (R180). -/
def recordCond (base : Int) (c : Nat) (a b : DWord) : Cond :=
  let f := dfld a 31 0
  let l := dfld b 63 32
  let off : Int := (c * 64 : Nat)
  ⟨2, dfld a 57 54, dfld a 53 38, dfld b 7 0, if f = 0x80000000 then f else condBt base (off + signed 32 f),
   if l = 0x7FFFFFFF then l else condBt base (off + signed 32 l)⟩

/-- The account records of an entry: partner and condition. -/
def entryAccounts (base : Int) (c : Nat) (ws : List DWord) : List (Nat × Cond) :=
  (List.range (dfld (ws.getD 62 0) 63 56)).map (fun i =>
    let a := ws.getD (44 + 2 * i) 0
    (dfld a 63 58, recordCond base c a (ws.getD (45 + 2 * i) 0)))

/-- R290: the accounts of a partner, or one of cause 10 over the whole course where it is marked without any. -/
def incompleteConds (base : Int) (c : Nat) (own : List Cond) (marked : Bool) : List Cond :=
  if own.isEmpty && marked then [wholeCond base c 2 10] else own

/-- The condition of a part (R213, R215), and whether it lay before the history. -/
def partCond (base : Int) (c : Nat) (d : Option Part) : List Cond × Bool :=
  match d.map (fun (x : Part) => x.data) with
  | some (PartData.absent k) => ([wholeCond base c 3 k], false)
  | some .damaged => ([wholeCond base c 4 0], false)
  | some .overwritten => ([wholeCond base c 5 0], false)
  | some .beforeHistory => ([], true)
  | _ => ([], false)

/-- The part that holds group `gr` in course `c`. -/
def Gather.part (g : Gather) (c gr : Nat) : Option Part :=
  match g.parts.find? (fun p => p.course == c && p.group == gr) with
  | some p => some p
  | none => g.parts.find? (fun p => p.course == c && p.group == 32)

/-- The conditions of partner `p` in course `c`, and whether the course lay before the history (R213, R215). A partner that was not bound at the close
carries its own accounts too (R299). -/
def courseConds (s : State) (g : Gather) (base : Int) (p c : Nat) : List Cond × Bool :=
  match assocGet g.bounds c, assocGet g.entries c with
  | some l, _ =>
    match assocGet l p with
    | none => (wholeCond base c 1 0 :: ((markingAccounts s c).filter (fun a => a.partner == p && !a.allPartners)).map (acctCond base), false)
    | some gr =>
      let r := partCond base c (g.part c gr)
      if r.2 then r
      else
        let own := ((tgroup s gr).accounts.filter (fun a => a.partner == p && acctMarks a p c)).map (acctCond base)
        (r.1 ++ incompleteConds base c own (incomplete s p gr c), false)
  | none, some ws0 =>
    let ws := if isStub ws0 then ws0 else (entryHeld s c).getD ws0
    let own := ((entryAccounts base c ws).filter (fun x => x.1 == p)).map (·.2)
    match entryGroup ws p with
    | none => (wholeCond base c 1 0 :: incompleteConds base c own ((ws.getD 3 0).getLsbD p), false)
    | some gr =>
      let r := partCond base c (g.part c gr)
      let dam := if (ws.getD 4 0).getLsbD p && r.1.isEmpty then [wholeCond base c 4 0] else r.1
      (dam ++ incompleteConds base c own ((ws.getD 3 0).getLsbD p), r.2)
  | none, none => partCond base c (g.part c 32)

/-- R276: adjacent damaged courses make one record. -/
def mergeDamaged (l : List Cond) : List Cond :=
  l.foldr (fun (a : Cond) (acc : List Cond) =>
    match acc with
    | b :: t => if a.kind = 4 ∧ b.kind = 4 ∧ (a.last + 1) % 2 ^ 32 = b.first then { a with last := b.last } :: t else a :: acc
    | [] => [a]) []

/-- R276: increasing KIND, then increasing FIRST. -/
def sortConds (l : List Cond) : List Cond :=
  l |> sortBy (fun a b => decide (a.kind < b.kind) || (a.kind == b.kind && decide (signed 32 a.first ≤ signed 32 b.first)))

/-- BT 0 of COURSE. -/
def AccEntry.base (e : AccEntry) : Int := e.bt / 64 * 64

/-- FIRST_HELD of a fragment with HISTORY_SHORT (R213): H at arrival; course 0 where only courses before it are missing. -/
def firstHeld (e : AccEntry) (g : Gather) : Nat := if g.parts.any (fun p => p.data == .beforeHistory) then e.hist else 0

/-- The conditions of partner `p`, without TRUNCATED. -/
def partnerConds (s : State) (e : AccEntry) (g : Gather) (p : Nat) : List Cond :=
  let l := e.courses.map (courseConds s g e.base p)
  let short := decide (e.lo < 0) || l.any (·.2)
  let hs := if short then [⟨6, 0, cntUnknown, 0xFF, condBt e.base e.lo, condBt e.base ((firstHeld e g * 64 : Nat) - 1)⟩] else []
  mergeDamaged (sortConds ((l.flatMap (·.1)).eraseDups ++ hs))

/-! ### Records and words (R214, R274 to R277) -/

/-- A record with its course. -/
structure CourseRec where
  course : Nat
  entry : RingEntry
  deriving DecidableEq, Repr

/-- The window BT of a record. -/
def CourseRec.bt (r : CourseRec) : Nat := r.course * 64 + recTime r.entry.record / 16384

/-- R214: the key (course, TIME, CHANNEL, low 20 bits) as one number. -/
def CourseRec.key (r : CourseRec) : Nat :=
  ((r.course * 2 ^ 20 + recTime r.entry.record) * 2 ^ 24 + recChannel r.entry.record) * 2 ^ 20 + dfld r.entry.record 19 0

/-- The entries of a part. -/
def PartData.list : PartData → List RingEntry
  | .ring l => l
  | .quarry l => l
  | _ => []

/-- R209, R214: the records of a fragment's mask in its window, in order. -/
def fragRecords (e : AccEntry) (g : Gather) (mask : BitVec 64) : List CourseRec :=
  let all := g.parts.flatMap (fun p => p.data.list.map (fun x => (⟨p.course, x⟩ : CourseRec)))
  sortBy (fun a b => decide (a.key ≤ b.key))
    (all.filter (fun r => mask.getLsbD (recPartner r.entry.record) && decide (e.lo ≤ (r.bt : Int)) && decide ((r.bt : Int) ≤ e.hi)))

/-- Time and quality of a course (R274): the Quoin's latch, else its readable index entry, else interpolated with QUALITY FREE. -/
def courseMoment (s : State) (c : Int) : List DWord × Nat :=
  if c < 0 then (unitWords (Config.stubTime 0), 2)
  else
    match s.quo.courses.find? (fun t => t.course == c.toNat) with
    | some t => (timeWords t.time 0, if c.toNat = nowCourse s then s.quo.worst else t.quality)
    | none =>
      match if indexReadable s && (s.qry.published.contains c.toNat || s.qry.left.contains c.toNat) then readIndex s c.toNat else none with
      | some ws => ([ws.getD 1 0, ws.getD 2 0 &&& 0xFFFFFFFFFFFF0000], dfld (ws.getD 0 0) 1 0)
      | none => (unitWords (interpTime s c.toNat), 2)

/-- The two words of a condition record. -/
def condWords (c : Cond) : List DWord :=
  [BitVec.ofNat 64 (c.kind * 2 ^ 60 + c.cause * 2 ^ 56 + c.count * 2 ^ 40 + c.lane * 2 ^ 32), BitVec.ofNat 64 (c.first * 2 ^ 32 + c.last)]

/-- R276: a per-partner header and its condition records. -/
def partnerHeader (p records : Nat) (cs : List Cond) : List DWord :=
  let flags := (List.range 7).foldl (fun m n => m + if cs.any (fun c => c.kind == n + 1) then 2 ^ (n + 9) else 0) 0
  BitVec.ofNat 64 (p * 2 ^ 58 + records * 2 ^ 32 + cs.length * 2 ^ 16 + flags) :: cs.flatMap condWords

/-- R277: the course sections. -/
def courseSections (base : Int) (recs : List CourseRec) : List DWord :=
  ((recs.map (·.course)).eraseDups).flatMap (fun (c : Nat) =>
    let l := recs.filter (fun r => r.course == c)
    BitVec.ofNat 64 (l.length * 2 ^ 32 + unsigned 32 ((c : Int) - base / 64)) :: l.map (·.entry.record))

/-- R277: the waveform section, for a fragment with kept samples. -/
def waveSection (recs : List CourseRec) : List DWord :=
  if recs.any (fun r => !r.entry.samples.isEmpty) then
    let map := sampleMap (recs.map (·.entry))
    let samples := recs.flatMap (·.entry.samples)
    let n := (recs.filter (fun r => recWave r.entry.record)).length
    BitVec.ofNat 64 (n * 2 ^ 32 + (map.length + samples.length)) :: map ++ samples
  else []

/-- The partners of a mask, rising. -/
def maskPartners (m : BitVec 64) : List Nat := (List.range 64).filter (fun p => m.getLsbD p)

/-- R212, R216: whether a part of an accept's fragment with this mask is served from the quarry: all of a late accept's, and of a prompt one's what lies in
a pair of course and table group that the quarry gave and that held a partner of the mask. -/
def fragLatePath (e : AccEntry) (g : Gather) (mask : BitVec 64) : Bool :=
  e.kind == .accept && g.latePath && (e.late || g.fromQuarry.any (fun x =>
    if x.2 = 32 then mask != 0 else ((assocGet g.bounds x.1).getD []).any (fun b => b.2 == x.2 && mask.getLsbD b.1)))

/-- R216: FLAGS, without LATE. -/
def fragFlags (s : State) (e : AccEntry) (g : Gather) (mask : BitVec 64) (conds : List (Nat × List Cond)) (recs : List CourseRec) (trunc : Bool) : Nat :=
  let has := fun k => conds.any (fun x => x.2.any (fun c => c.kind == k))
  (has 6).toNat * 128 + (has 4).toNat * 64 + (fragLatePath e g mask).toNat * 16 +
    (recs.any (fun r => recUncal r.entry.record)).toNat * 8 + (e.courses.any (fun c => (courseMoment s c).2 == 2)).toNat * 4 +
    trunc.toNat * 2 + (recs.any (fun r => !r.entry.samples.isEmpty)).toNat

/-- R274: words 2 to LENGTH − 2 of a fragment. -/
def fragBody (s : State) (e : AccEntry) (g : Gather) (mask : BitVec 64) (conds : List (Nat × List Cond)) (recs : List CourseRec) (trunc : Bool) :
    List DWord :=
  let t := courseMoment s (e.bt / 64)
  let flags := fragFlags s e g mask conds recs trunc
  let headers := conds.flatMap (fun x => partnerHeader x.1 (recs.filter (fun r => recPartner r.entry.record == x.1)).length x.2)
  let sections := courseSections e.base recs
  let count := ((recs.map (·.course)).eraseDups).length
  [e.numberWord, courseBtWord e.bt, e.domainBt, t.1.getD 0 0, t.1.getD 1 0 ||| BitVec.ofNat 64 t.2,
   BitVec.ofNat 64 (e.length * 2 ^ 40 + unsigned 8 e.wstart * 2 ^ 32 + unsigned 8 e.wend * 2 ^ 24 + conds.length * 2 ^ 16 + count % 65536),
   mask, BitVec.ofNat 64 (flags * 2 ^ 56), BitVec.ofNat 64 (if 128 ≤ flags then firstHeld e g * 256 else 0)] ++
    (headers ++ (sections ++ waveSection recs))

/-- R210: a window course whose records or accounts are not all gathered yet. -/
def courseOpen (s : State) (e : AccEntry) (g : Gather) (c : Nat) : Bool :=
  !g.extracted || g.toSubmit.contains c || s.qry.reads.any (fun r => !r.job && r.owner == e.id && r.unit == g.unit && r.courses.contains c) ||
    decide (nowCourse s < c + 6)

/-- The first window BT of what is not gathered yet; none where all is. -/
def openFrom (s : State) (e : AccEntry) (g : Gather) : Option Nat :=
  (e.courses.find? (courseOpen s e g)).map (fun c => max (c * 64) e.lo.toNat)

/-- A fragment cut before its window BT `b` (R219): TRUNCATED for the partners with records from there on, and for all where `all` says that what
lies there has not been gathered. -/
def cutBody (s : State) (e : AccEntry) (g : Gather) (mask : BitVec 64) (conds : List (Nat × List Cond)) (all : Bool) (recs : List CourseRec) (b : Nat) :
    List DWord :=
  let lost := recs.filter (fun r => decide (b ≤ r.bt))
  let tr : Cond := ⟨7, 0, cntUnknown, 0xFF, condBt e.base b, condBt e.base e.hi⟩
  let cs := conds.map (fun x => (x.1, if all || lost.any (fun r => recPartner r.entry.record == x.1) then x.2 ++ [tr] else x.2))
  fragBody s e g mask cs (recs.filter (fun r => decide (r.bt < b))) true

/-- R219: the words of a fragment within `limit` cells, and the first BT not delivered if it was cut: the last BT after which all records fit, or the
first one of all; a fragment whose data is not all gathered is cut at the first BT that is missing at the latest. DESIGN CHOICE: where the headers and the
condition records alone exceed the limit they are carried all the same, since no condition may be left out (R287, R299). -/
def formFragment (s : State) (e : AccEntry) (g : Gather) (mask : BitVec 64) (limit : Nat) : List DWord × Option Nat :=
  let missing := openFrom s e g
  let recs := fragRecords e g mask
  let conds := (maskPartners mask).map (fun p => (p, partnerConds s e g p))
  let full := fragBody s e g mask conds recs false
  if missing.isNone && decide (cellsOf (full.length + 3) ≤ limit) then (full, none)
  else
    let bts := missing.toList ++ (((recs.map (·.bt)).eraseDups).reverse).filter (fun b => decide (b < missing.getD (b + 1)))
    let cut := cutBody s e g mask conds missing.isSome recs
    let b := ((bts.find? (fun b => decide (cellsOf ((cut b).length + 3) ≤ limit))).or bts.getLast?).getD (e.hi + 1).toNat
    (cut b, some b)

/-! ### The ring reader at work (R211, R212, R219, R220) -/

/-- Words of the course and waveform sections of what has been gathered for a fragment. -/
def gatheredWords (e : AccEntry) (g : Gather) (mask : BitVec 64) : Nat :=
  let recs := fragRecords e g mask
  (courseSections e.base recs).length + (waveSection recs).length

/-- The course since which a record waits for cells. -/
def StreamRec.waitsSince (r : StreamRec) : Option Nat := match r.phase with | .waiting c => some c | _ => none

/-- A record that waits for cells. -/
def StreamRec.isWaiting (r : StreamRec) : Bool := r.waitsSince.isSome

/-- R219, R220: a record in build holds cells `use` where it needs `n`: it is in build while they suffice, and waits for more since the course in which
it began to wait. -/
def StreamRec.holding (r : StreamRec) (use : CellUse) (n now : Nat) : StreamRec :=
  { r with cells := use, phase := if n ≤ use.length then .building else .waiting (r.waitsSince.getD now) }

/-- R219, R220: the records of entry `id` in build on unit `u` take cells for what has been gathered, as far as cells are free; one that lacks a cell
waits. -/
def buildGrows (id u : Nat) (s : State) : State :=
  match entryById s id with
  | some e =>
    match e.gather u with
    | some g =>
      throttle (forL (e.recs.filter (fun r => r.unit == u && r.inBuild)) (fun r t =>
        let n := min r.maxCells ((8 * gatheredWords e g r.mask + 255) / 256)
        modRec id r.stream (fun x => x.holding (growCells t x.cells n) n (nowCourse t)) t) s)
    | none => s
  | none => s

/-- R220: the records of entry `id` in build on unit `u` wait for a cell. -/
def buildWaits (id u : Nat) (s : State) : State :=
  modEntry id (fun e => { e with recs := e.recs.map (fun r => if r.unit = u ∧ r.phase = .building then { r with phase := .waiting (nowCourse s) } else r) }) s

/-- R211, R212, R220: the ring reader of unit `u` has served entry `id`; while no cell is free the extraction waits. `faults`: upsets in the ring that its
reads meet. Pairs that the ring does not hold, or that met an error, are requested from the quarry. -/
def extractionDone (u id : Nat) (faults : List ExtractFault) (s : State) : State :=
  match entryById s id with
  | some e =>
    if !extractable s e u then s
    else if freeCells s = 0 ∧ unitNeed e.recs u ≠ 0 then buildWaits id u s
    else
      let need := unitNeed e.recs u
      let s := forL faults (fun x t => ringUpset x.course x.group.val x.fault t) s
      let closed := e.courses.filterMap (fun c => closeRec s c)
      let pairs := closed.flatMap (fun cr => (pairGroups cr need).map (fun g => (cr.course, g)))
      let rd := ringParts e (pairs.filter (fun x => ringHolds s x.1 x.2)) s
      let missed := pairs.filter (fun x => !ringHolds s x.1 x.2 || rd.2.1.contains x)
      let s := rd.2.2
      let old := e.courses.filter (fun c => (closeRec s c).isNone && need != 0)
      let courses := e.courses.filter (fun c => old.contains c || missed.any (fun x => x.1 == c))
      let s := buildGrows id u (modGather id u (fun g => { g with
        extracted := true, parts := rd.1, latePath := !courses.isEmpty,
        fromQuarry := missed ++ old.map (fun c => (c, 32)),
        bounds := closed.map (fun cr => (cr.course, cr.partners)) }) s)
      if courses.isEmpty then s
      else
        enqueueRead ⟨id, false, u, need, courses, if old.isEmpty then (missed.map (·.2)).eraseDups else [], none, false⟩
          (event .mrtUnitEvt u 17 s)
  | none => s

/-! ### Reads of the quarry (R184 to R187, R213) -/

/-- Parts of a request join what its unit gathers; a pair already gathered stays as it is. -/
def deliverParts (r : QReq) (parts : List Part) (words : List (Nat × List DWord)) (s : State) : State :=
  buildGrows r.owner r.unit (modGather r.owner r.unit (fun g => { g with
    parts := g.parts ++ parts.filter (fun p => !g.parts.any (fun q => q.course == p.course && q.group == p.group))
    entries := g.entries ++ words }) s)

/-- A request of the list is replaced, or leaves it. -/
def replaceRead (p : QReq → Bool) (new : Option QReq) (s : State) : State :=
  s.modQry fun q =>
    match q.reads.findIdx? p with
    | some i => { q with reads := q.reads.take i ++ new.toList ++ q.reads.drop (i + 1) }
    | none => q

/-- What stays of a request after a course: its remaining courses, its pin front advanced (R186), with no pin left when no published course remains;
none when it is done. -/
def restOf (s : State) (r : QReq) (rest : List Nat) : Option QReq :=
  if rest.isEmpty then none
  else
    let n := { r with courses := rest }
    some { n with pin := match r.pin, pinFor s n with
                         | some (_, b), some (a, _) => some (a, b)
                         | _, _ => none }

/-- R187, R213, R299: the part of a course that a broken request has not read: overwritten if the history held it at the request's arrival. -/
def brokenPart (hist c : Nat) : Part := ⟨c, 32, if hist ≤ c then .overwritten else .beforeHistory⟩

/-- The index entries of courses, where their slots still hold them, for the conditions of a fragment (R190, R299). -/
def heldEntries (s : State) (burst cs : List Nat) : List (Nat × List DWord) := cs.filterMap (fun c => (entryHeldMet s burst c).map (fun w => (c, w)))

/-- R185, R213: one course of the oldest request of a mortar unit is read. `burst`: stones in which the read meets an uncorrectable burst. -/
def quarryRead (burst : List Nat) (s : State) : State :=
  let front := fun (r : QReq) => !r.job
  match s.qry.reads.find? front with
  | some r0 =>
    let hist := ((entryById s r0.owner).map (·.hist)).getD 0
    if r0.broken then
      replaceRead front none (deliverParts r0 (r0.courses.map (brokenPart hist)) (heldEntries s [] (r0.courses.filter (fun c => decide (hist ≤ c)))) s)
    else
      let r := pinRequest s (s.qry.reads.findIdx front) r0
      match r.courses with
      | c :: rest =>
        if s.qry.phase == .running && pinWaits s r then s
        else
          match readCourse c r.partners r.groups (decide (hist ≤ c)) burst (requesterWord r) s with
          | some (parts, t) =>
            let t := deliverParts r parts (if hist ≤ c then heldEntries t burst [c] else []) t
            replaceRead front (restOf t r rest) t
          | none => s
      | [] => replaceRead front none s
  | none => s

/-- R186: enough stones are unpinned: the first request that waits for pin space pins. -/
def pinSpaceFreed (s : State) : State :=
  match s.qry.reads.findIdx? (pinWaits s) with
  | some i => pinAt i s
  | none => s

/-- R213: the oldest recall of unit `u` whose last piece is done submits its next. -/
def recallPiece (u : Nat) (s : State) : State :=
  match s.mrt.table.find? (fun e => e.kind == .recall && (match e.gather u with | some g => !g.toSubmit.isEmpty | none => false) &&
      !s.qry.reads.any (fun r => !r.job && r.owner == e.id && r.unit == u)) with
  | some e => submitPiece e.id u s
  | none => s

/-! ### Completion and cells (R210, R217, R219, R220) -/

/-- MRT_TRUNC: a fragment was cut. -/
def truncReport (e : AccEntry) (r : StreamRec) (cause b : Nat) (s : State) : State :=
  raise Src.mrtTrunc r.stream (w32 r.stream :: cap64 (e.number % 2 ^ 48) ++ [w32 cause] ++ cap64 b) (event .mrtUnitEvt r.unit 18 s) (.mortar r.unit)

/-- A fragment is written to its cells and is complete. -/
def fragComplete (e : AccEntry) (r : StreamRec) (body : List DWord) (use : CellUse) (s : State) : State :=
  let s := cellsWrite use (body.length + 3) s
  let s := modRec e.id r.stream (fun x => { x with phase := .complete, body := body, cells := use }) s
  let s := countWrap .mrtUnitCnt r.unit 31 0 s
  let late : Bool := match e.gather r.unit with | some g => fragLatePath e g r.mask | none => false
  throttle (if late then count .mrtUnitLatepath r.unit 31 0 1 s else s)

/-- What unit `u` gathers for an entry is all there (R210). -/
def gathered (s : State) (e : AccEntry) (g : Gather) : Bool :=
  g.extracted && g.toSubmit.isEmpty && !s.qry.reads.any (fun r => !r.job && r.owner == e.id && r.unit == g.unit) &&
  decide (e.lastCourse + 6 ≤ nowCourse s)

/-- R219, R220: a fragment of a record in build that is all gathered takes the cells that it lacks and is complete; else it takes those that are free and
waits for more, since a course. -/
def fragTry (e : AccEntry) (r : StreamRec) (g : Gather) (since : Nat) (s : State) : State :=
  let f := formFragment s e g r.mask r.maxCells
  match takeCells s r.cells (cellsOf (f.1.length + 3)) with
  | some use =>
    fragComplete e r f.1 use (match f.2 with
      | some b => truncReport e r 1 b (count .mrtUnitTrunc r.unit 15 0 1 s)
      | none => s)
  | none =>
    throttle (modRec e.id r.stream (fun x => { x with phase := .waiting since, cells := growCells s x.cells (cellsOf (f.1.length + 3)) }) s)

/-- R210, R217, R219: the fragment of entry `id` on stream `t` is formed; it takes its cells, or waits for them. -/
def fragmentComplete (t id : Nat) (s : State) : State :=
  match entryById s id with
  | some e =>
    match e.recs.find? (fun r => r.stream == t && r.phase == .building) with
    | some r =>
      match e.gather r.unit with
      | some g => if gathered s e g then fragTry e r g (nowCourse s) s else s
      | none => s
    | none => s
  | none => s

/-- R220: a waiting fragment finds cells free: one that is gathered takes what it lacks, another what it has gathered for. -/
def cellWait (t id : Nat) (s : State) : State :=
  match entryById s id with
  | some e =>
    match e.recs.find? (fun r => r.stream == t && r.isWaiting) with
    | some r =>
      match e.gather r.unit with
      | some g =>
        if gathered s e g then fragTry e r g ((r.waitsSince).getD 0) s
        else if freeCells s = 0 then s
        else buildGrows id r.unit s
      | none => s
    | none => s
  | none => s

/-- R217: the entries with a record on stream `t`, in the order of the P-list, or of the R-list. -/
def listOf (s : State) (t : Nat) (recalls : Bool) : List AccEntry :=
  s.mrt.table.filter (fun e => (e.kind == .recall) == recalls && e.recs.any (fun r => r.stream == t))

/-- An entry's record on stream `t`. -/
def AccEntry.onStream (e : AccEntry) (t : Nat) : Option StreamRec := e.recs.find? (fun r => r.stream == t)

/-- R220: the heads of a stream's lists that have waited HEAD_WAIT courses; 0 acts as 1. -/
def waitedHead (s : State) (t : Nat) : Option (AccEntry × StreamRec) :=
  let limit := max 1 (fld (cell s .mrtPoolCfg) 7 0)
  [false, true].findSome? (fun k =>
    match (listOf s t k).head? with
    | some e => (e.onStream t).bind (fun r => match r.waitsSince with | some c => if c + limit ≤ nowCourse s then some (e, r) else none | none => none)
    | none => none)

/-- R220: a list head that has waited HEAD_WAIT courses is ended at once under R219, with the cells that it holds and those that are free. DESIGN CHOICE:
where they do not hold its headers it is complete all the same, its headers formed without cells, so that it blocks nothing. -/
def headWaitExpiry (t : Nat) (s : State) : State :=
  match waitedHead s t with
  | some (e, r) =>
    match e.gather r.unit with
    | some g =>
      let limit := min r.maxCells (r.cells.length + freeCells s)
      let f := formFragment s e g r.mask limit
      let use := (r.cells.take (cellsOf (f.1.length + 3))) ++ nextCells s (min (cellsOf (f.1.length + 3) - r.cells.length) (freeCells s))
      match f.2 with
      | some b => truncReport e r 2 b (count .mrtUnitTrunc r.unit 31 16 1 (fragComplete e r f.1 use s))
      | none => fragComplete e r f.1 use s
    | none => s
  | none => s

end Sys2Proof.Machine
end

