-- ==== Sys2Proof/Machine/Uplinks.lean ====
section
/-!
DEFINITION. The uplinks: their states, credits, record blocks, re-sends, stream maps and moves, return lanes, summaries and beacons
(chapter 11).
-/
namespace Sys2Proof.Machine

/-! ### Release heads (R217, R222) -/

/-- A record that is complete: a fragment with its cells, a gap or a flushed record (R217). -/
def StreamRec.isComplete (r : StreamRec) : Bool :=
  match r.phase with
  | .complete | .gap _ | .flushed => true
  | _ => false

/-- Credits of a record (R264). -/
def StreamRec.credits (r : StreamRec) : Nat := match r.phase with | .complete => cellsOf (r.body.length + 3) | _ => 1

/-- R217: the record that stream `t` releases next: its P-list head if complete, else its R-list head if that is. -/
def nextRelease (s : State) (t : Nat) : Option (AccEntry × StreamRec) :=
  [false, true].findSome? fun k =>
    match (listOf s t k).head? with
    | some e => (e.onStream t).bind (fun r => if r.isComplete then some (e, r) else none)
    | none => none

/-- Credits of a stream's released records that have not started. -/
def owedCredits (s : State) (t : Nat) : Nat := (stream s t).out.foldl (fun n o => n + o.credits) 0

/-- R222: the balance covers the next record beside the released ones. -/
def releaseCovered (s : State) (t : Nat) (r : StreamRec) : Bool := decide (owedCredits s t + r.credits ≤ streamBalance s t)

/-- MRT_STREAM_STAT.STARVED (R222). -/
def starved (s : State) (t : Nat) : Bool :=
  match nextRelease s t with
  | some (_, r) => !releaseCovered s t r
  | none => false

/-- The records of a stream in the table. -/
def streamRecs (s : State) (t : Nat) : List StreamRec := s.mrt.table.filterMap (fun e => e.onStream t)

/-- MRT_STREAM_FRAGS.WAITING: complete and not yet released. -/
def streamWaiting (s : State) (t : Nat) : Nat := ((streamRecs s t).filter (·.isComplete)).length

/-- MRT_STREAM_STAT.FLUSHING. -/
def flushing (s : State) (t : Nat) : Bool := (streamRecs s t).any (fun r => r.phase == .flushed)

/-! ### States (R257, R265) -/

/-- The role that UPL_LINK_STAT.ROLE shows, and the stream. -/
def linkRole (s : State) (u : Nat) : Nat × Nat :=
  match uplRole s u with
  | some (t, false) => (1, t)
  | some (t, true) => (2, t)
  | none => if (uplLintelLane s u).isSome then (3, 0) else (0, 0)

/-- R265, R480: why uplink `u` must be DOWN: the lowest code that applies, 0 for none. -/
def downCause (s : State) (u : Nat) : Nat :=
  if !domOn s (40 + u / 8) then 1
  else if !bit (cell s .uplLinkCfg u) 0 then 2
  else if isIsolated s (.uplinkGroup (u / 8)) then 3
  else if !(uplGroup s (u / 8)).pll then 4
  else 0

/-- A stream's cut record is to be sent again as its next block (R266). -/
def requeue (t : Nat) (o : OutRec) (s : State) : State :=
  modStream t (fun x => { x with block := none, out := { o with resend := true } :: x.out }) s

/-- R263: an INIT that waited for the block boundary takes effect. -/
def initBoundary (u : Nat) (s : State) : State :=
  match (uplink s u).initWait with
  | some g => modUplink u (fun x => { x with granted := g, consumed := 0, initWait := none }) s
  | none => s

/-- R266: the block of stream `t` is cut on uplink `u`; the cut is a block boundary (R263). -/
def cutBlock (u t : Nat) (s : State) : State :=
  match (stream s t).block with
  | some b =>
    if b.carriers.contains u then
      let n := min b.out.words.length (Config.wordsSent u (nowCourse s) (nowCycle s))
      let s := raise Src.uplRecordCut u ([w32 u, w32 t] ++ cap64 b.out.seq ++ [w32 n]) (event .uplLinkEvt u 18 (count .uplLinkCnt u 15 0 1 s))
      let s := initBoundary u s
      let left := b.carriers.filter (fun v => !(v == u))
      if !left.isEmpty then modStream t (fun x => { x with block := some { b with carriers := left } }) s
      else if b.whole then throttle (modStream t (fun x => { x with block := none }) s)
      else requeue t b.out s
    else s
  | none => s

/-- The stream whose block is on uplink `u`. -/
def blockOn (s : State) (u : Nat) : Option Nat :=
  (List.range 48).find? fun t => match (stream s t).block with | some b => b.carriers.contains u | none => false

/-- R266: whatever block is on uplink `u` is cut. -/
def cutUplink (u : Nat) (s : State) : State :=
  match blockOn s u with
  | some t => cutBlock u t s
  | none => s

/-! ### Blocks (R222, R264, R266, R269, R282) -/

/-- A block starts on its carriers: each consumes its credits, in the same core cycle (R264, R269). -/
def putBlock (t : Nat) (o : OutRec) (cs : List Nat) (s : State) : State :=
  let s := modStream t (fun x => { x with block := some ⟨o, cs, false⟩ }) s
  forL cs (fun u => modUplink u (fun x => { x with consumed := x.consumed + BitVec.ofNat 32 o.credits })) s

/-- R266, R269, R282: with the lines of its carriers free, the stream's next block starts: a re-send, the summary, the beacon, the next released record. -/
def startBlock (t : Nat) (s : State) : State :=
  let x := stream s t
  let cs := carriers s t
  if x.block.isSome || cs.isEmpty || dpStopped s || cs.any (fun u => (blockOn s u).isSome) then s
  else
    let covers := fun (o : OutRec) => decide (o.credits ≤ streamBalance s t)
    match x.out, x.summary, x.beacon with
    | o :: rest, sm, bc =>
      if o.resend then
        let able := cs.filter (fun u => decide (o.credits ≤ linkBalance s u))
        if able.isEmpty then s
        else
          putBlock t { o with resend := false } able
            (event .uplEvt 0 16 (count .uplStreamCnt t 31 16 1 (modStream t (fun y => { y with out := rest }) s)))
      else
        match sm, bc with
        | some m, _ => if covers m then putBlock t m cs (modStream t (fun y => { y with summary := none }) s) else s
        | none, some b => if covers b then putBlock t b cs (modStream t (fun y => { y with beacon := none }) s) else s
        | none, none => if covers o then putBlock t o cs (modStream t (fun y => { y with out := rest }) s) else s
    | [], some m, _ => if covers m then putBlock t m cs (modStream t (fun y => { y with summary := none }) s) else s
    | [], none, some b => if covers b then putBlock t b cs (modStream t (fun y => { y with beacon := none }) s) else s
    | [], none, none => s

/-- Every stream starts what it can. -/
def startBlocks (s : State) : State := forN 48 startBlock s

/-- R221: the count and the report of an uncorrectable cell error. -/
def cellError (u cell t : Nat) (released : Bool) (s : State) : State :=
  raise Src.mrtCellUncorr u [w32 u, w32 cell, w32 t, w32 released.toNat] (event .mrtUnitEvt u 19 (count .mrtUnitCellerr u 31 0 1 s)) (master := 9) (access := 1)

/-- R221, R278: a released record with an uncorrectable cell error is sent with its CRC inverted. -/
def spoil (o : OutRec) : OutRec := { o with badCrc := true }

/-- R221, R278: the words of a block are read from its cells as it is sent; a block that meets an uncorrectable error is spoilt. -/
def readOut (t : Nat) (o : OutRec) (s : State) : OutRec × State :=
  let r := cellsRead o.cells o.words.length 0 s
  match r.1 with
  | some c => (spoil o, if o.badCrc then r.2 else cellError (fld (streamCfg r.2 t) 29 28) c t true r.2)
  | none => (o, r.2)

/-- R223, R266, R278: the block on uplink `u` has left with its trailer. With the last carrier the record's cells are free. -/
def recordBlockSent (u : Nat) (s : State) : State :=
  match blockOn s u with
  | some t =>
    match (stream s t).block with
    | some b =>
      let rd := readOut t b.out s
      let ws := cellsDelivered s b.out.cells b.out.words
      let words := if rd.1.badCrc then invertCrc ws else ws
      let left := b.carriers.filter (fun v => !(v == u))
      let s := modStream t (fun x => { x with
        block := if left.isEmpty then none else some { b with out := rd.1, carriers := left, whole := true }
        sent := some (words, (if b.whole then ((x.sent.map (·.2)).getD []) else []) ++ [u]) }) rd.2
      let s := startBlock t (initBoundary u (if left.isEmpty then throttle s else s))
      match uplRole s u with
      | some (k, _) => if k = t then s else startBlock k s
      | none => s
    | none => s
  | none => s

/-! ### Entering and leaving states (R265) -/

/-- R265: an uplink goes DOWN with a cause of R480. -/
def uplinkDown (u cause : Nat) (s : State) : State :=
  let x := uplink s u
  if x.phase == .down then s
  else
    let role := linkRole s u
    let active := x.phase == .active
    let s := cutUplink u s
    let s := modUplink u (fun y => { y with phase := .down, granted := 0, consumed := 0, initWait := none }) s
    let s := if active then event .uplLinkEvt u 17 s else s
    if active && role.1 != 0 then raise Src.uplLinkDown u [w32 u, w32 role.2, w32 role.1, w32 cause] (modUplink u (fun y => { y with lostReported := true }) s) else s

/-- R265: an uplink becomes ACTIVE. -/
def uplinkActive (u : Nat) (granted : BitVec 32) (s : State) : State :=
  event .uplLinkEvt u 16 (modUplink u (fun y => { y with phase := .active, granted := granted, consumed := 0, initWait := none, lostReported := false }) s)

/-- R265: an uplink's state follows its conditions. -/
def uplCheck (u : Nat) (s : State) : State :=
  let c := downCause s u
  if c ≠ 0 then uplinkDown u c s
  else
    match (uplink s u).phase with
    | .down => if (uplLintelLane s u).isSome then uplinkActive u 0 s else modUplink u (fun y => { y with phase := .idle }) s
    | .idle => if (uplLintelLane s u).isSome then uplinkActive u 0 s else s
    | .active => s

/-- Every uplink of a group follows its conditions. -/
def uplGroupCheck (h : Nat) (s : State) : State := startBlocks (forN 8 (fun k => uplCheck (8 * h + k)) s)

/-- Every uplink follows its conditions. -/
def uplCheckAll (s : State) : State := startBlocks (forN 64 uplCheck s)

/-- R257, R265: a group's transmit PLL locks; without QUO_XO it cannot. -/
def uplPllLock (h : Nat) (s : State) : State :=
  if domOn s (40 + h) && !s.quo.xoGone then uplGroupCheck h (modUplGroup h (fun x => { x with pll := true }) s) else s

/-- R265: a group's transmit PLL unlocks: its uplinks go DOWN. -/
def uplPllUnlock (h : Nat) (s : State) : State :=
  if (uplGroup s h).pll then
    let s := modUplGroup h (fun x => { x with pll := false }) s
    let s := forN 8 (fun k => event .uplLinkEvt (8 * h + k) 19) s
    uplGroupCheck h (raise Src.uplPllUnlock h [w32 h] s)
  else s

/-- R257: QUO_XO has disappeared while the group is ON: its PLL holds its control word. -/
def uplRefHold (h : Nat) (s : State) : State :=
  let s := s.modQuo fun q => { q with xoGone := true }
  if domOn s (40 + h) && (uplGroup s h).pll && !(uplGroup s h).refHold then
    let s := modUplGroup h (fun x => { x with refHold := true }) s
    let s := forN 8 (fun k => event .uplLinkEvt (8 * h + k) 20) s
    raise Src.uplRefHold h [w32 h] s
  else s

/-- R257: at a tick with QUO_XO present, no group's PLL holds. -/
def uplRefBack (s : State) : State :=
  (forN 8 (fun h => modUplGroup h (fun x => { x with refHold := false })) s).modQuo fun q => { q with xoGone := false }

/-- R259, R265, R271: an init request leaves on an IDLE uplink; while the data plane is stopped the uplinks send grout only. -/
def initRequestSend (u : Nat) (s : State) : State :=
  if (uplink s u).phase == .idle && !dpStopped s then modUplink u (fun x => { x with requests := x.requests + 1 }) s else s

/-! ### Return lanes and credits (R261 to R263) -/

/-- R261: a return lane receives. -/
def retAble (s : State) (r : Nat) : Bool :=
  domOn s (40 + r / 2) && bit (cell s .uplRlCfg r) 0 && !isIsolated s (.uplinkGroup (r / 2))

/-- A return lane that stops receiving holds no synchronisation. -/
def retCheck (r : Nat) (s : State) : State :=
  if retAble s r then s else modRetLane r (fun x => { x with sync := false }) s

/-- R261: synchronisation acquired. -/
def rlSyncGained (r : Nat) (s : State) : State :=
  if retAble s r && !(retLane s r).sync then event .uplRlEvt r 16 (modRetLane r (fun x => { x with sync := true, lostReported := false }) s) else s

/-- R261: synchronisation lost; credits stay valid. -/
def rlSyncLost (r : Nat) (s : State) : State :=
  if (retLane s r).sync then raise Src.uplRlLost r [w32 r] (event .uplRlEvt r 17 (modRetLane r (fun x => { x with sync := false, lostReported := true }) s)) else s

/-- R259: a code error on a return lane. -/
def rlCodeError (r : Nat) (s : State) : State := if retAble s r then count .uplRlErr r 31 16 1 s else s

/-- The eight bytes of a credit message, first byte most significant. -/
def creditBytes (m : BitVec 64) : List Byte := beBytes 8 m.toNat

/-- R262: a credit message is good: its CRC, its TYPE, its reserved bits. -/
def creditGood (m : BitVec 64) : Bool :=
  crc8 ((creditBytes m).take 7) == BitVec.ofNat 8 m.toNat && (dfld m 63 60 == 1 || dfld m 63 60 == 2) && dfld m 59 58 == 0 && dfld m 23 8 == 0

/-- R262: a discarded message: counted, raised once per course. -/
def creditBad (r : Nat) (m : BitVec 64) (s : State) : State :=
  let s := event .uplRlEvt r 18 (count .uplRlErr r 15 8 1 s)
  if (retLane s r).badRaised then s
  else
    raise Src.uplCreditBad r (w32 r :: cap64 m.toNat ++ capCourse (nowCourse s)) (modRetLane r (fun x => { x with badRaised := true }) s)

/-- R263: an INIT for uplink `u`. A DOWN uplink and one that carries a Lintel lane take none. -/
def initFor (u : Nat) (g : BitVec 32) (s : State) : State :=
  if (uplLintelLane s u).isSome then s
  else
    match (uplink s u).phase with
    | .down => s
    | .idle => startBlocks (count .uplLinkCnt u 31 16 1 (uplinkActive u g s))
    | .active =>
      let s := count .uplLinkCnt u 31 16 1 s
      if (blockOn s u).isSome then modUplink u (fun x => { x with initWait := some g }) s
      else startBlocks (modUplink u (fun x => { x with granted := g, consumed := 0, initWait := none }) s)

/-- R263: a CREDIT for uplink `u`, on return lane `r`. -/
def creditFor (r u : Nat) (g : BitVec 32) (s : State) : State :=
  let x := uplink s u
  if !(x.phase == .active) || (uplLintelLane s u).isSome then s
  else if behind 32 g.toNat x.granted.toNat || behind 32 g.toNat x.consumed.toNat then event .uplRlEvt r 18 (count .uplRlErr r 7 0 1 s)
  else startBlocks (modUplink u (fun x => { x with granted := g }) s)

/-- R261 to R263: a credit message arrives on return lane `r`. -/
def creditMessage (r : Nat) (m : BitVec 64) (s : State) : State :=
  if !retAble s r || !(retLane s r).sync then s
  else if !creditGood m then creditBad r m s
  else
    let u := 4 * r + dfld m 57 56
    let g := BitVec.ofNat 32 (dfld m 55 24)
    if dfld m 63 60 = 2 then initFor u g s else creditFor r u g s

/-! ### Stream maps and moves (R267, R268, R270) -/

/-- The uplinks that a stream names. -/
def namedUplinks (s : State) (t : Nat) : List Nat := mapPrimary (streamMap s t) :: (mapMirror (streamMap s t)).toList

/-- R267, R270: stream `t` loses uplink `u`: to a stream of lower number, or to another stream's pending move. -/
def losesUplink (s : State) (t u : Nat) : Bool :=
  (List.range t).any (fun k => (namedUplinks s k).contains u) || (match moveTarget s u with | some k => k != t | none => false)

/-- R267: a role newly in conflict, or whose map has just taken effect, is raised. -/
def mapConflict (t role u : Nat) (s : State) : State :=
  raise Src.uplMapConflict t ([w32 t, w32 role, w32 u] ++ capCourse (nowCourse s)) (event .uplEvt 0 18 s)

/-- R267: conflicts are resolved at a tick at which the maps of the streams `applied` took effect or a role moved. -/
def resolveMap (applied : List Nat) (t : Nat) (s : State) : State :=
  let w := streamMap s t
  let x := stream s t
  let pc := losesUplink s t (mapPrimary w)
  let mc := match mapMirror w with | some u => u == mapPrimary w || losesUplink s t u | none => false
  let s := if pc == x.primConflict && mc == x.mirConflict then s else modStream t (fun y => { y with primConflict := pc, mirConflict := mc }) s
  let s := if pc && (!x.primConflict || applied.contains t) then mapConflict t 1 (mapPrimary w) s else s
  if mc && (!x.mirConflict || applied.contains t) then mapConflict t 2 ((mapMirror w).getD 0) s else s

/-- R267: every stream's conflicts. -/
def resolveMaps (applied : List Nat) (s : State) : State := forN 48 (resolveMap applied) s

/-- R270: the uplink of a role. -/
def roleUplink (w : Word) (mirror : Bool) : Nat := if mirror then fld w 13 8 else fld w 5 0

/-- R270: the checks of STREAM_MOVE: 0, or the reason of refusal: 1 the target is taken, 2 a move is pending, 3 no mirror. -/
def moveRefusal (s : State) (t : Nat) (mirror : Bool) (target : Nat) : Nat :=
  if (uplRole s target).isSome || (moveTarget s target).isSome || (List.range 8).any (fun i => lntLaneUplink s i == some target) then 1
  else if (stream s t).move.isSome then 2
  else if mirror && !bit (streamMap s t) 14 then 3
  else 0

/-- R270: the role passes to the target: in the map in force, and in the pending value unless a written one waits. -/
def passRole (t : Nat) (m : MovePending) (s : State) : State :=
  let old := roleUplink (streamMap s t) m.mirror
  let put := fun (w : Word) => if m.mirror then setFld w 13 8 m.target else setFld w 5 0 m.target
  let x := cbReg s .uplStreamMap t
  let s := setCb .uplStreamMap t ⟨.of ((if x.waiting then x.pend else put x.pend) ++ put x.force), x.waiting⟩ s
  let s := modStream t (fun y => if m.mirror then { y with move := none, mirConflict := false } else { y with move := none, primConflict := false }) s
  raise Src.uplStreamMoved t ([w32 t, if m.mirror then 2 else 1, w32 old, w32 m.target] ++ capCourse m.boundary) (event .uplEvt 0 17 s)

/-- R270: the moves whose boundary is course `c`: their streams and mailboxes. -/
def movesDue (s : State) (c : Nat) : List (Nat × Nat) :=
  (List.range 48).filterMap (fun t => match (stream s t).move with | some m => if m.boundary = c then some (t, m.mailbox) else none | none => none)

/-- R270: the moves due at the tick that starts course `c` take place. -/
def moveStreams (c : Nat) (s : State) : State :=
  forL (movesDue s c) (fun x t => match (stream t x.1).move with | some m => passRole x.1 m t | none => t) s

/-- R268: stream `t` may take a write of its map. -/
def mapWritable (s : State) (t : Nat) : Bool :=
  !bit (streamCfg s t) 30 && (streamRecs s t).isEmpty && (stream s t).out.isEmpty && (stream s t).block.isNone && (stream s t).summary.isNone &&
  (stream s t).beacon.isNone

/-! ### Summaries and beacons (R280 to R282) -/

/-- R282: an unsequenced record falls due; a newer one replaces the older. -/
def dueSummary (t : Nat) (o : OutRec) (s : State) : State :=
  let s := if (stream s t).summary.isSome then count .uplStreamCnt t 15 0 1 s else s
  startBlock t (modStream t (fun x => { x with summary := some o }) s)

/-- R282: a beacon falls due. -/
def dueBeacon (t : Nat) (o : OutRec) (s : State) : State :=
  let s := if (stream s t).beacon.isSome then count .uplStreamCnt t 15 0 1 s else s
  startBlock t (modStream t (fun x => { x with beacon := some o }) s)

/-- An unsequenced record of stream `t` (R273). -/
def unsequenced (s : State) (t kind : Nat) (body : List DWord) : OutRec :=
  let n := (stream s t).nextSeq
  ⟨n, kind, wholeRecord s t kind n body, 1, .zero, false, 0, [], false, false⟩

/-- R280, R281: course `c` is due for period field `n`: 2ⁿ⁻¹ divides it; above 16 acts as 16. -/
def periodDue (n c : Nat) : Bool := decide (1 ≤ n) && c % 2 ^ (min n 16 - 1) == 0

/-- R280: the course summaries of course `c`, whose entry was just published with blocks of `records` records. -/
def courseSummaries (c records : Nat) (s : State) : State :=
  let ws := hbmWords s (entryQa c) 64
  let body := [BitVec.ofNat 64 (c * 256) ||| (ws.getD 0 0 &&& 3), ws.getD 1 0, ws.getD 2 0 &&& 0xFFFFFFFFFFFF0000, ws.getD 3 0, ws.getD 4 0, ws.getD 5 0,
    BitVec.ofNat 64 (records % 2 ^ 32 * 2 ^ 32 + qryDepth s % 2 ^ 22)]
  forN 48 (fun t x => if periodDue (fld (cell x .uplStreamCtl t) 12 8) c then dueSummary t (unsequenced x t 5 body) x else x) s

/-- Quality so far of the course under way. -/
def qualityNow (s : State) : Nat := s.quo.worst

/-- R281: the status beacons at the tick that starts course `c`. -/
def statusBeacons (c : Nat) (s : State) : State :=
  forN 48 (fun t x =>
    if periodDue (fld (cell x .uplStreamCtl t) 4 0) c then
      let mir := match mapMirror (streamMap x t) with | some u => (carriers x t).contains u && !(stream x t).mirConflict | none => false
      let flags := x.mrt.asserted.toNat * 128 + (starved x t).toNat * 64 + (flushing x t).toNat * 32 + mir.toNat * 16 +
        (x.qry.phase == .running).toNat * 8
      let body := [BitVec.ofNat 64 (c * 256 + qualityNow x), x.quo.tickTime.sec,
        BitVec.ofNat 64 (x.quo.tickTime.ns.toNat * 2 ^ 32 + x.quo.tickTime.frac.toNat * 65536),
        BitVec.ofNat 64 (flags * 2 ^ 56 + satTo 16 (streamCells x t) * 65536 + satTo 16 (streamWaiting x t)),
        BitVec.ofNat 64 (streamBalance x t * 2 ^ 32 + qryDepth x % 2 ^ 22)]
      dueBeacon t (unsequenced x t 6 body) x
    else x) s

/-- R153: a publication lets quarters that are short of pages release the ring's oldest course. -/
def releaseShort (s : State) : State := forN 4 (fun m t => if (quarter t m).inService then earlyRelease m 24 t else t) s

/-- R181, R280, R153: the next indexed course's entry is written, its summaries are formed, and the ring may release what it waited for. -/
def indexPublish (s : State) : State :=
  match publishReady s with
  | some (j, cr) => releaseShort (courseSummaries j.course (j.blocks.foldl (fun n b => n + b.records) 0) (publish j cr s))
  | none => s

/-! ### The data-plane stop (R271) -/

/-- R271: blocks in transmission are cut on every carrier. -/
def uplStop (s : State) : State := forN 64 cutUplink s

/-! ### What the registers show (R285) -/

/-- UPL_GRP_STAT. -/
def uplGrpStatRead (s : State) (h : Nat) : Word :=
  mkFld 9 8 ((retLane s (2 * h)).sync.toNat + 2 * (retLane s (2 * h + 1)).sync.toNat) |||
    mkFld 7 0 (maskBits ((List.range 8).filter (fun k => (uplink s (8 * h + k)).phase == .active)))

/-- UPL_LINK_STAT. A DOWN uplink carries nothing (R285, R286). -/
def uplLinkStatRead (s : State) (u : Nat) : Word :=
  let role := if (uplink s u).phase == .down then (0, 0) else linkRole s u
  let st := match (uplink s u).phase with | .down => 0 | .idle => 1 | .active => 2
  mkFld 23 18 role.2 ||| mkFld 17 16 role.1 ||| mkFld 5 5 (uplGroup s (u / 8)).refHold.toNat ||| mkFld 4 4 (uplGroup s (u / 8)).pll.toNat |||
    mkFld 3 3 (blockOn s u).isSome.toNat ||| mkFld 1 0 st

/-- UPL_LINK_BAL. -/
def uplLinkBalRead (s : State) (u : Nat) : Word := mkFld 30 0 (linkBalance s u)
/-- UPL_LINK_CELLS. -/
def uplLinkCellsRead (s : State) (u : Nat) : Word := (uplink s u).consumed

/-- UPL_RL_STAT. CDR_LOCK and SIGNAL show what synchronisation rests on. -/
def uplRlStatRead (s : State) (r : Nat) : Word := if (retLane s r).sync then 0x700 else 0

/-- UPL_STREAM_STAT. -/
def uplStreamStatRead (s : State) (t : Nat) : Word :=
  let x := stream s t
  let w := streamMap s t
  let act := fun (u : Nat) => (uplink s u).phase == .active
  let mc := match mapMirror w with | some u => !x.mirConflict && act u | none => false
  mkFld 7 7 x.move.isSome.toNat ||| mkFld 6 6 x.mirConflict.toNat ||| mkFld 5 5 x.primConflict.toNat ||| mkFld 4 4 mc.toNat |||
    mkFld 3 3 (!x.primConflict && act (mapPrimary w)).toNat

end Sys2Proof.Machine
end

