-- ==== Sys2Proof/Machine/Plumb.lean ====
section
/-!
DEFINITION. The Plumb recorder (R433 to R444): slots and their sources, the queue and the store, arming and firing, thresholds, the image
that PLB_READ writes.
-/
namespace Sys2Proof.Machine

def State.modPlb (f : Plumb → Plumb) (s : State) : State := { s with plb := f s.plb }
def plbSlot (s : State) (n : Nat) : PlbSlot := smGet .reset s.plb.slots n
def modSlot (n : Nat) (f : PlbSlot → PlbSlot) (s : State) : State := s.modPlb fun p => { p with slots := smUpd .reset p.slots n f }

/-- The Plumb works: domain 78 ON and not isolated (R437, R443). -/
def plbAlive (s : State) : Bool := domOn s 78 && !isIsolated s .plumb

/-- Records of the store. -/
abbrev plbSize : Nat := 131072

/-! ### Sources (R434) -/

/-- A sample of a slot's source: a value source or a state, its DATA (R435), its number, its flags, and whether a threshold may use it. -/
structure PlbSample where
  value : Bool
  data : Nat
  number : Int
  flags : Nat
  usable : Bool
  deriving DecidableEq, Repr

/-- A state source. -/
def stateSample (n : Nat) : PlbSample := ⟨false, n % 65536, n, 0, false⟩

/-- R434: level of a pin of class 1: high is 1. -/
def plbPin (s : State) (i : Nat) : Option Nat :=
  match i with
  | 0 => some (!faultAsserted s).toNat
  | 1 => some (!alarmAsserted s).toNat
  | 2 => some (!s.mrt.asserted).toNat
  | 3 => some (!s.gau.blank0).toNat
  | 4 => some (!s.gau.blank1).toNat
  | 5 => some (if bit (cell s .plbCfg) 1 then s.plb.phase == .armed || s.plb.phase == .triggered else s.plb.armPin).toNat
  | 6 => some (!s.plb.driving && s.plb.firePin).toNat
  | 7 => some (!s.port0.l0).toNat
  | 8 => some (!s.port1.l0).toNat
  | _ => none

/-- R434: the source of a class and index; none outside the table. -/
def plbSource (s : State) (cls i : Nat) : Option PlbSample :=
  match cls with
  | 1 => (plbPin s i).map stateSample
  | 2 =>
    if i < 72 then
      let w := cell s .gauRes i
      some ⟨true, w.toNat, codeValue (chSigned i (chCfg s i)) (fld w 31 8), fld w 7 0, !(bit w 7 || bit w 6 || bit w 5 || bit w 1)⟩
    else none
  | 3 => if i < 16 then let x := gauOut s i; some (stateSample (x.standby.toNat * 16 + x.fault.toNat * 8 + x.cause)) else none
  | 4 => some (stateSample (smGet .reset s.lanes i).phase.code)
  | 5 => if i < 64 then some (stateSample (uplink s i).phase.code) else none
  | 6 => if i < 80 then some (stateSample (domCode s i)) else none
  | 7 =>
    match i with
    | 0 => some (stateSample s.quo.servo.code)
    | 1 => some (stateSample s.quo.active.val)
    | 2 => some (stateSample s.quo.domA.phase.code)
    | 3 => some (stateSample s.quo.domB.phase.code)
    | 4 => some (stateSample s.quo.worst)
    | _ => none
  | 8 => match i with | 0 => some (stateSample (worstLevel s)) | 1 => some (stateSample (dpStopped s).toNat) | _ => none
  | 9 => if i < 8 then some (stateSample (slotEngine s i)) else none
  | 10 => if i < 48 then some (stateSample (fld (uplStreamStatRead s i) 4 3)) else none
  | 11 =>
    let num := fun (w : Word) (v : Int) => some (PlbSample.mk true w.toNat v 0 true)
    match i with
    | 0 => let w := cell s .pwrVin; num w w.toNat
    | 1 => let w := cell s .pwrPin; num w w.toNat
    | _ => if i < 19 then let w := cell s .pwrTemp (i - 2); num w (sfld w 15 0) else none
  | _ => none

/-- The sample of a slot, while its ENABLE is 1. -/
def slotSample (s : State) (n : Nat) : Option PlbSample :=
  let w := cell s .plbSig n
  if bit w 31 then plbSource s (fld w 11 8) (fld w 7 0) else none

/-! ### The store and the queue (R435 to R438) -/

/-- R435: word 1 of a record. -/
def plbWord (kind slot info data : Nat) : DWord := BitVec.ofNat 64 (kind * 2 ^ 56 + slot * 2 ^ 48 + info * 2 ^ 40 + data % 2 ^ 40)

/-- The kind of a record, and its slot. -/
def PlbRec.kind (r : PlbRec) : Nat := r.word.toNat / 2 ^ 56
def PlbRec.slot (r : PlbRec) : Nat := r.word.toNat / 2 ^ 48 % 256

/-- R435: changes that a record stands for, if it is not recorded. -/
def PlbRec.changes (r : PlbRec) : Nat := if r.kind ≤ 2 then 1 else if r.kind = 5 then r.word.toNat % 2 ^ 40 else 0

/-- R433: tags never decrease: a record keeps its tag, but takes no place before a FIRE or a MARK, and a MARK none before any record. -/
def plbTagged (r : PlbRec) (l : List PlbRec) : PlbRec :=
  { r with tag := max r.tag (((l.filter (fun y => r.kind == 5 || decide (2 < y.kind))).getLast?.map (·.tag)).getD 0) }

/-- R433: the changes at the end of a list that a record goes before: those of later tags, and for a change those of its tag in later slots. -/
def plbPassed (r : PlbRec) (l : List PlbRec) : List PlbRec :=
  (l.reverse.takeWhile fun y =>
    decide (y.kind ≤ 2) && (decide (r.tag < y.tag) || (y.tag == r.tag && decide (r.kind ≤ 2) && decide (r.slot < y.slot)))).reverse

/-- R433: a record takes its place among those before it. -/
def plbInsert (r : PlbRec) (l : List PlbRec) : List PlbRec :=
  let r := plbTagged r l
  let back := plbPassed r l
  l.take (l.length - back.length) ++ r :: back

/-- R327, R437: a record goes into the store; the two protected blocks of its place and of those after it are written. -/
def plbStore (r : PlbRec) (s : State) : State :=
  let n := (plbPassed (plbTagged r s.plb.store) s.plb.store).length
  (eccWrites 9 0 (2 * ((s.plb.written + (131072 - n)) % 131072)) (2 * n + 2) s).modPlb fun p => { p with
    store := plbInsert r p.store, written := p.written + 1 }

/-- The place in the store of the record at a block of memory 9, if one stands there. -/
def plbPlace (p : Plumb) (b : Nat) : Option Nat :=
  let i := (b / 2 + 131072 - (p.written - p.store.length) % 131072) % 131072
  if b < 262144 ∧ i < p.store.length then some i else none

/-- R327: memory 9: the record at a block of the store is damaged (R444). -/
def plbStoreError (b : Nat) (s : State) : State :=
  match plbPlace s.plb b with
  | some i => s.modPlb fun p => { p with store := p.store.modify i (fun r => { r with damaged := true }) }
  | none => s

/-- R327: the records of the store are read. -/
def plbStoreRead (s : State) : State := eccVisit 9 0 13 1 (fun b => (plbPlace s.plb b).isSome) plbStoreError s

/-- The capture is complete (R437). -/
def plbHold (s : State) : State :=
  event .plbEvt 0 20 (s.modPlb fun p => { p with phase := .held, queue := [], lossDue := 0, read := false })

/-- R435, R437: in MODE 1 the last position takes a MARK with store full and the changes not recorded, and the capture is HELD with OVERFLOW. -/
def plbFull (tag lost : Nat) (s : State) : State :=
  let s := (plbStore ⟨tag, plbWord 5 0xFF 1 (satTo 40 lost), false⟩ s).modPlb fun p => { p with overflow := true }
  plbHold (raise Src.plbOverflow 0 (w32 plbSize :: capCourse (nowCourse s)) (event .plbEvt 0 17 s))

/-- One record goes into the store (R437). -/
def plbPut (r : PlbRec) (s : State) : State :=
  let p := s.plb
  match p.phase with
  | .armed =>
    if p.fill then
      if plbSize ≤ p.store.length + 1 then plbFull r.tag (r.changes + p.queue.length + p.lossDue) s else plbStore r s
    else (plbStore r s).modPlb fun p => { p with store := p.store.drop (p.store.length - p.pre) }
  | .triggered =>
    if p.postLeft = 0 then s
    else (plbStore r s).modPlb fun p => { p with postLeft := p.postLeft - 1 }
  | _ => s

/-- R436: one record passes from the queue to the store; a MARK for changes that found the queue full goes first. -/
def plbDrainOne (s : State) : State :=
  let p := s.plb
  if p.lossDue ≠ 0 then
    let tag := match p.queue with | r :: _ => r.tag | [] => timeTag s
    plbPut ⟨tag, plbWord 5 0xFF 2 (satTo 40 p.lossDue), false⟩ (s.modPlb fun p => { p with lossDue := 0 })
  else
    match p.queue with
    | r :: t => plbPut r (s.modPlb fun p => { p with queue := t })
    | [] => s

/-- R436: `n` records pass to the store, while the Plumb works. -/
def plbDrain (n : Nat) (s : State) : State := if plbAlive s then times plbDrainOne n s else s

/-- The whole queue passes to the store. -/
def plbDrainAll (s : State) : State := plbDrain (s.plb.queue.length + 1) s

/-- Changes are recorded in this state (R437). -/
def plbRecording (s : State) : Bool :=
  plbAlive s && (s.plb.phase == .armed || (s.plb.phase == .triggered && decide (s.plb.queue.length < s.plb.postLeft)))

/-- R436: a record joins the queue of 256, or is lost and counted. -/
def plbEnqueue (r : PlbRec) (s : State) : State :=
  if plbRecording s then
    if s.plb.queue.length < 256 then s.modPlb fun p => { p with queue := plbInsert r p.queue }
    else count .plbLost 0 31 0 1 (event .plbEvt 0 16 (s.modPlb fun p => { p with lossDue := p.lossDue + 1 }))
  else s

/-- R433: the tag of a slot's sample: this core cycle, or for a Gauge result the one of its publication. -/
def sampleTag (s : State) (n : Nat) : Nat :=
  let w := cell s .plbSig n
  if fld w 11 8 = 2 then (gauChan s (fld w 7 0)).tag else timeTag s

/-- R435: the record of a slot's sample. -/
def slotRecord (s : State) (n : Nat) (x : PlbSample) (initial : Bool) : PlbRec :=
  ⟨if initial then timeTag s else sampleTag s n, plbWord (if x.value then 2 else 1) n (if initial then 0x80 else 0) x.data, false⟩

/-- R434, R436: a slot's sample is recorded, and is the slot's last recorded value unless the queue is full. -/
def plbRecord (n : Nat) (x : PlbSample) (initial : Bool) (s : State) : State :=
  let r := slotRecord s n x initial
  plbEnqueue r (if plbRecording s && decide (s.plb.queue.length < 256) then modSlot n (fun y => { y with last := some x.data }) s else s)

/-- R436: a slot writes one record of its current value with INITIAL. -/
def plbInitial (n : Nat) (s : State) : State :=
  match slotSample s n with
  | some x => plbRecord n x true s
  | none => s

/-! ### Firing (R439, R442) -/

/-- R435: the FIRE record. -/
def fireRecord (tag origin back : Nat) (drove : Bool) : PlbRec := ⟨tag, plbWord 3 origin drove.toNat back, false⟩

/-- R442: a fire that is taken drives the line. -/
def fireDrives (s : State) (origin : Nat) : Bool := bit (cell s .plbCfg) 4 && decide (origin ≠ 1)

/-- R439: a fire in TRIGGERED or HELD is missed; origins of one core cycle are one fire. -/
def plbMiss (tag : Nat) (s : State) : State :=
  if s.plb.lastMiss = some tag then s
  else
    let s := count .plbMissed 0 31 0 1 (event .plbEvt 0 18 (s.modPlb fun p => { p with lastMiss := some tag }))
    if s.plb.missed.isSome then s
    else raise Src.plbMissed 0 (cap64 tag) (s.modPlb fun p => { p with missed := some tag })

/-- R438, R439: a fire is taken in ARMED; the changes that wait go into the store before it, but those of later tags than its own stand after it. -/
def plbTake (origin back tag : Nat) (s : State) : State :=
  let s := plbDrainAll s
  if s.plb.phase ≠ .armed then plbMiss tag s
  else
    let drove := fireDrives s origin
    let r := plbTagged (fireRecord tag origin back drove) s.plb.store
    let f : PlbFire := ⟨nowStamp s, origin, r.tag, back⟩
    let s := event .plbEvt 0 19 (s.modPlb fun p => { p with fire := some f, driving := p.driving || drove })
    if s.plb.fill then plbPut r s
    else
      let n := (plbPassed r s.plb.store).length
      let before := s.plb.written - n
      (plbStore r s).modPlb fun p => { p with
        phase := .triggered, preShort := decide (before < p.pre), preCount := min s.plb.written p.pre - n, postLeft := p.post - n }

/-- R439: a second origin in the core cycle of a fire that was taken is part of it; the lowest code stands in its record. -/
def plbJoin (f : PlbFire) (origin back : Nat) (s : State) : State :=
  if origin < f.origin then
    let drove := fireDrives s origin || fireDrives s f.origin
    s.modPlb fun p => { p with
      driving := p.driving || drove
      fire := some { f with origin := origin, back := back }
      store := p.store.map (fun r => if r.tag = f.tag ∧ r.kind = 3 then fireRecord f.tag origin back drove else r) }
  else s

/-- R439: a fire that finds no capture to take it, where one may still be armed in this core cycle: the lowest code of the core cycle is kept. -/
def plbWait (origin back tag : Nat) (s : State) : State :=
  s.modPlb fun p => { p with waiting := some (match p.waiting with
    | some f => if f.tag = tag ∧ f.origin ≤ origin then f else ⟨nowStamp s, origin, tag, back⟩
    | none => ⟨nowStamp s, origin, tag, back⟩) }

/-- R439: a fire of an origin, with its BACK and its tag. -/
def plbFire (origin back tag : Nat) (s : State) : State :=
  if !plbAlive s then s
  else if s.plb.phase == .idle then plbWait origin back tag s
  else
    match s.plb.fire with
    | some f =>
      if f.tag = tag then plbJoin f origin back s
      else if s.plb.phase = .armed then plbTake origin back tag s
      else if s.plb.phase = .held ∧ s.plb.read = true then plbWait origin back tag s
      else plbMiss tag s
    | none =>
      if s.plb.phase = .armed then plbTake origin back tag s
      else if s.plb.phase = .held ∧ s.plb.read = true then plbWait origin back tag s
      else plbMiss tag s

/-- R439: a core cycle ends: a fire that no arm has taken in it is ignored in IDLE and missed in HELD. -/
def plbCycleEnd (s : State) : State :=
  match s.plb.waiting with
  | some f =>
    let s := s.modPlb fun p => { p with waiting := none }
    if plbAlive s && s.plb.phase == .held then plbMiss f.tag s else s
  | none => s

/-! ### Arming (R437, R441) -/

/-- R437, R439, R441: an arm, from the register or the pin; it goes before a fire of the same core cycle. -/
def plbArm (s : State) : State :=
  let p := s.plb
  if !plbAlive s then s
  else if p.phase = .held ∧ p.read = false then event .plbEvt 0 21 s
  else if p.phase = .armed ∨ p.phase = .triggered then s
  else
    let pre := fld (cell s .plbPre) 16 0
    let s := s.modPlb fun p => { p with
      phase := .armed, store := [], queue := [], lossDue := 0, written := 0, fill := bit (cell s .plbCfg) 0, pre := pre
      post := min (fld (cell s .plbPost) 16 0) (131071 - pre), postCourses := fld (cell s .plbPostCourses) 23 0, postLeft := 0
      preShort := false, overflow := false, read := false, arm := some (timeTag s, nowTime s, s.quo.worst), fire := none
      preCount := 0, missed := none, lastMiss := none, slots := p.slots.map (fun e => (e.1, { e.2 with last := none })), waiting := none }
    let s := forN 64 plbInitial s
    match p.waiting with
    | some f => if f.tag = timeTag s then plbTake f.origin f.back f.tag s else s
    | none => s

/-- DISARM (R437). -/
def plbDisarm (s : State) : State := s.modPlb fun p => { p with phase := .idle, queue := [], lossDue := 0 }

/-- PLB_FIRE_EDGE (R442): a device counts its own edge as part of the fire it drove. -/
def plbFireEdge (s : State) : State :=
  let s := s.modPlb fun p => { p with firePin := false }
  if bit (cell s .plbCfg) 3 && !s.plb.driving then plbFire 1 0 (timeTag s) s else s

/-- PLB_FIRE_RELEASE (R442): 960 core cycles of driving have passed. -/
def plbFireRelease (s : State) : State := s.modPlb fun p => { p with driving := false, firePin := true }

/-- PLB_ARM_EDGE (R441). -/
def plbArmEdge (s : State) : State :=
  let s := s.modPlb fun p => { p with armPin := true }
  if bit (cell s .plbCfg) 2 && !bit (cell s .plbCfg) 1 then plbArm s else s

/-- PLB_POST_DONE (R437): POST records written, or POST_COURSES course ticks after the fire. -/
def plbPostDone (s : State) : State :=
  match s.plb.phase, s.plb.fire with
  | .triggered, some f =>
    let s := plbDrainAll s
    if plbAlive s && (s.plb.postLeft == 0 || decide (f.stamp.course + s.plb.postCourses ≤ nowCourse s)) then plbHold s else s
  | _, _ => s

/-- A write of PLB_CTL (R437, R439): an arm goes before a fire of the same core cycle. -/
def plbCtlWrite (w : Word) (s : State) : State :=
  let s := if bit w 31 then setCell .plbLost 0 0 0 (setCell .plbMissed 0 0 0 s) else s
  let s := if bit w 1 then plbDisarm s else s
  let s := if bit w 0 then plbArm s else s
  if bit w 2 then plbFire 0 0 (timeTag s) s else s

/-! ### Changes and thresholds (R434, R440) -/

/-- Core cycles from the origin of the tags to a tag. -/
def tagCycles (t : Nat) : Nat := t / 32 * 24 + t % 32
/-- The tag of a count of core cycles. -/
def cyclesTag (n : Nat) : Nat := n / 24 * 32 + n % 24

/-- R440: L in the source's format. -/
def thrLevel (s : State) (n t : Nat) : Int :=
  let w := cell s .plbSig n
  let l := cell s .plbThrLevel t
  let i := fld w 7 0
  if fld w 11 8 = 2 then (if chSigned i (chCfg s i) then sfld l 23 0 else (l.toNat : Int))
  else if fld w 11 8 = 11 ∧ 2 ≤ i then sfld l 15 0
  else (l.toNat : Int)

/-- R440: a crossing of L from v₀ to v₁ under a DIR. -/
def crosses (dir : Nat) (v0 v1 l : Int) : Bool :=
  (dir != 1 && decide (v0 < l) && decide (l ≤ v1)) || (dir != 0 && decide (v0 > l) && decide (l ≥ v1))

/-- R440: BACK, truncating. -/
def backOf (t0 t1 : Nat) (v0 v1 l : Int) : Nat :=
  let span : Int := ((tagCycles t1 - tagCycles t0 : Nat) : Int)
  (span - (span * (l - v0)).tdiv (v1 - v0)).toNat

/-- R440: the thresholds of slot `n` on a new value; the lowest that crosses fires. -/
def plbThresholds (n : Nat) (x : PlbSample) (s : State) : State :=
  if x.value && x.usable then
    let t1 := sampleTag s n
    let old := (plbSlot s n).seen
    let s := modSlot n (fun y => { y with seen := some (x.number, t1) }) s
    match old with
    | some (v0, t0) =>
      match (List.range 8).find? (fun t =>
          let w := cell s .plbThr t
          bit w 31 && fld w 5 0 == n && crosses (fld w 30 29) v0 x.number (thrLevel s n t)) with
      | some t => plbFire (0x10 + t) (backOf t0 t1 v0 x.number (thrLevel s n t)) t1 s
      | none => s
    | none => s
  else s

/-- R434: whether a sample is recorded: a state that differs; a value beyond PLB_DELTA or with other flags. -/
def plbDiffers (s : State) (n : Nat) (x : PlbSample) : Bool :=
  match (plbSlot s n).last with
  | none => true
  | some d =>
    if x.value then
      let w := cell s .plbSig n
      let i := fld w 7 0
      let v : Int := if fld w 11 8 = 2 then codeValue (chSigned i (chCfg s i)) (d / 256)
        else if 2 ≤ i then signed 16 d else (d : Int)
      let fl := if fld w 11 8 = 2 then d % 256 else 0
      decide ((fld (cell s .plbDelta n) 23 0 : Int) < (x.number - v).natAbs) || decide (fl ≠ x.flags)
    else decide (d ≠ x.data)

/-- PLB_CHANGE (R434 to R436, R440): the Plumb samples a slot whose source has changed or has a new value; `level` is what a pin of class 1
that other devices drive is sampled at. -/
def plbChange (n : Nat) (level : Bool) (s : State) : State :=
  let w := cell s .plbSig n
  let s := if fld w 11 8 = 1 ∧ fld w 7 0 = 5 then s.modPlb (fun p => { p with armPin := level })
    else if fld w 11 8 = 1 ∧ fld w 7 0 = 6 then s.modPlb (fun p => { p with firePin := level }) else s
  if !plbAlive s then s
  else
    match slotSample s n with
    | some x =>
      let s := if plbRecording s && plbDiffers s n x then plbRecord n x false s else s
      plbThresholds n x s
    | none => s

/-- PLB_SIG[n] has been written; `old` is its word before (R434, R436). -/
def plbSigWritten (n : Nat) (old : Word) (s : State) : State :=
  if cell s .plbSig n = old then s
  else
    let s := modSlot n (fun _ => .reset) s
    if plbRecording s && !bit old 31 then plbInitial n s else s

/-! ### Power and isolation (R437, R443) -/

/-- R443: domain 78 is OFF: IDLE, store EMPTY. -/
def plbOff (s : State) : State := s.modPlb fun p => { Plumb.reset with armPin := p.armPin, firePin := p.firePin }

/-- R437: isolation: IDLE. -/
def plbIsolated (s : State) : State := s.modPlb fun p => { p with phase := .idle, queue := [], lossDue := 0, driving := false, waiting := none }

/-- R443: return from HOLD: a MARK with an unknown count, after the changes that waited before. -/
def plbReturn (s : State) : State :=
  let s := s.modPlb fun p => { p with slots := p.slots.map (fun e => (e.1, { e.2 with seen := none })), waiting := none }
  let s := plbDrainAll s
  plbPut ⟨timeTag s, plbWord 5 0xFF 4 0xFFFFFFFFFF, false⟩ s

/-! ### Reading (R444, R453) -/

/-- R324: the records of the store as reads of their blocks deliver them, from place `i` on. -/
def plbDelivered (s : State) : Nat → List PlbRec → List PlbRec
  | _, [] => []
  | i, r :: l =>
    let b := 2 * ((s.plb.written - s.plb.store.length + i) % 131072)
    { r with tag := (BitVec.ofNat 64 r.tag ^^^ eccDelta s 9 0 b).toNat, word := r.word ^^^ eccDelta s 9 0 (b + 1) } :: plbDelivered s (i + 1) l

/-- R444: the records of the image: a damaged one carries the tag of the record before it. -/
def plbImageRecs : Nat → List PlbRec → List DWord
  | _, [] => []
  | t, r :: l =>
    let tag := if r.damaged then t else r.tag
    BitVec.ofNat 64 tag :: (if r.damaged then plbWord 6 0xFF 0 0 else r.word) :: plbImageRecs tag l

/-- R444: the image that PLB_READ writes. -/
def plbImage (s : State) : List DWord :=
  let p := s.plb
  let fireTag := match p.fire with | some f => f.tag | none => 0
  let arm := match p.arm with | some a => a | none => (0, ⟨0, 0, 0⟩, 0)
  let ws : List DWord := [BitVec.ofNat 64 (deviceId s * 2 ^ 48 + 2 ^ 40 + p.phase.code * 2 ^ 32 + p.store.length), BitVec.ofNat 64 arm.1,
      BitVec.ofNat 64 fireTag, BitVec.ofNat 64 (p.preShort.toNat * 2 ^ 63 + p.fire.isSome.toNat * 2 ^ 62 + p.overflow.toNat * 2 ^ 61)] ++
    stampWords arm.2.1 arm.2.2 ++ [BitVec.ofNat 64 ((cell s .plbMissed).toNat * 2 ^ 32 + p.preCount), BitVec.ofNat 64 (p.missed.getD 0)] ++
    plbImageRecs 0 (plbDelivered s 0 p.store)
  ws ++ [imageTrailer ws]

/-- R444: a PLB_READ has completed. -/
def plbReadDone (s : State) : State := s.modPlb fun p => { p with read := p.read || p.phase == .held }

/-- PLB_STAT. -/
def plbStatRead (s : State) : Word :=
  let p := s.plb
  mkFld 31 14 p.store.length ||| mkFld 5 5 p.read.toNat ||| mkFld 4 4 p.overflow.toNat ||| mkFld 3 3 p.preShort.toNat ||| mkFld 2 0 p.phase.code

/-- The snapshot data of a selector (R453). -/
def plbSnapData (s : State) (sel : Nat) : List Word :=
  let p := s.plb
  let fire := match p.fire with | some f => f.tag | none => 0
  let cross := match p.fire with | some f => cyclesTag (tagCycles f.tag - f.back) | none => 0
  if sel = 0 then cap64 (match p.arm with | some a => a.1 | none => 0) ++ cap64 fire else cap64 (p.missed.getD 0) ++ cap64 cross

end Sys2Proof.Machine
end

