-- ==== Sys2Proof/Machine/Faults.lean ====
section
/-!
DEFINITION. The fault collector (13): reports held and logged, levels, escalation, shadows, resurfacing, quiet recovery, acknowledgement,
restart of the data plane.
-/
namespace Sys2Proof.Machine

def srcState (s : State) (n : Nat) : SrcState := smGet .reset s.flt.srcs n
def modSrc (n : Nat) (f : SrcState → SrcState) (s : State) : State := s.modFlt fun x => { x with srcs := smUpd .reset x.srcs n f }

/-! ### Targets (R306, R312) -/

/-- The power domains of a target. -/
def targetDomains : Target → List Nat
  | .none => []
  | .hostPort p => [50 + p]
  | .bedGroup g => [g]
  | .engine e => [52 + e]
  | .quarter m => [61 + m]
  | .quarryCtl c => [65 + c]
  | .mortar u => [71 + u]
  | .lintel => [75]
  | .uplinkGroup g => [40 + g]
  | .gauge => [76, 77]
  | .plumb => [78]
  | .repointer => [79]

/-- R312: settle time in courses. -/
def settleTime : Target → Nat
  | .quarryCtl _ => 4
  | .uplinkGroup _ => 8
  | _ => 2

/-- R312: the consequence list of a target. -/
def consequences : Target → List Nat
  | .bedGroup _ => [0x080, 0x081, 0x084, 0x085, 0x086, 0x087, 0x0A4, 0x120]
  | .engine _ => [0x0A1, 0x0A3, 0x120, 0x121, 0x181]
  | .quarter _ => [0x121, 0x122, 0x124, 0x168, 0x16B]
  | .quarryCtl _ => [0x122, 0x140, 0x143, 0x144, 0x145, 0x16B]
  | .mortar _ => [0x164, 0x167, 0x168, 0x16A, 0x16B]
  | .uplinkGroup _ => [0x167, 0x16B, 0x184, 0x1A0, 0x1A1, 0x1A2]
  | .lintel => [0x184]
  | .hostPort _ => [0x011, 0x013]
  | .gauge => [0x241, 0x242, 0x243, 0x244]
  | .plumb => [0x260, 0x261]
  | .repointer => [0x205, 0x206]
  | .none => []

/-- R312, R314: whether a shadow's list holds a source. -/
def ShadowKind.lists (k : ShadowKind) (n : Nat) : Bool :=
  match k with
  | .target t => (consequences t).contains n
  | .dataPlane => (decide (0x080 ≤ n) && decide (n ≤ 0x1A7) && n != 0x0A0 && n != 0x183) || n == 0x206

/-- R315, R316: a report is consequential; one that states a condition anew is always primary. -/
def isConsequential (s : State) (r : Report) : Bool :=
  !r.resurfaced && s.flt.shadows.any (fun h => h.kind.lists r.source && h.opened.before r.stamp)

/-- R306: the four cases in which level 3 acts as level 2. -/
def actsAsTwo (s : State) (t : Target) : Bool :=
  match t with
  | .none => true
  | _ =>
    (match t with | .hostPort p => !domOn s (51 - p) | _ => false) || isIsolated s t ||
      (targetDomains t).any (fun d => (powerDom s d).phase != .on && (powerDom s d).goal.isNone) || s.flt.isoPending.any (fun x => x.target == t)

/-! ### The log (R302, R303) -/

/-- R303: the 16 words of an entry. -/
def logWords (e : LogEntry) : List Word :=
  let r := e.report
  let w1 := mkFld 31 20 r.source ||| mkFld 19 12 r.index ||| mkFld 11 9 e.level ||| mkFld 8 8 e.consequential.toNat ||| mkFld 7 7 e.escalated.toNat |||
    mkFld 6 6 e.resurfaced.toNat ||| mkFld 5 5 e.acked.toNat ||| mkFld 4 4 e.first.toNat ||| mkFld 3 3 (srcIsCondition r.source).toNat
  let ws := [w32 e.seq, w1, mkFld 31 24 r.master ||| mkFld 23 20 r.access ||| mkFld 15 0 (satTo 16 e.dropped), w32 (r.time.sec.toNat / 2 ^ 32),
    w32 r.time.sec.toNat, r.time.ns, mkFld 31 16 r.time.frac.toNat ||| mkFld 1 0 r.quality] ++ (r.capture ++ List.replicate 9 0).take 9
  (List.range 16).map (fun i => if e.bad.contains i then 0xFFFFFFFF else ws.getD i 0)

/-- R302: the number after one. -/
def nextSeqNo (n : Nat) : Nat := if n = 2 ^ 32 - 1 then 1 else n + 1

/-- Remove the first element that satisfies a test; the element and the rest. -/
def removeFirst {α : Type} (p : α → Bool) : List α → Option (α × List α)
  | [] => none
  | a :: t => if p a then some (a, t) else (removeFirst p t).map (fun r => (r.1, a :: r.2))

/-- R302: room for a new entry: the log without the entry that it replaces, and that entry; none where nothing can be replaced. -/
def logRoom (log : List LogEntry) : Option (Option LogEntry × List LogEntry) :=
  if log.length < 1024 then some (none, log)
  else
    match removeFirst (fun e => e.acked) log with
    | some (e, l) => some (some e, l)
    | none => (removeFirst (fun e => e.level == 0) log).map (fun r => (some r.1, r.2))

/-- R319: a source with no unacknowledged primary entry in the log is IDLE, its first-error capture re-armed (R318). -/
def settleSource (n : Nat) (s : State) : State :=
  if (srcState s n).phase ≠ .idle ∧ !(s.flt.log.any (fun e => e.report.source == n && !e.consequential && !e.acked)) then
    modSrc n (fun x => { x with phase := .idle, firstHeld := none }) s
  else s

/-- First of the eight blocks of the entry with a log sequence number (memory 10). DESIGN CHOICE: the spec numbers no blocks there. -/
def logBlock (seq : Nat) : Nat := 8 * (seq % 131072)

/-- R327: memory 10: the two words of a log entry that stand in a block read as all ones. -/
def logError (b : Nat) (s : State) : State :=
  s.modFlt fun f => { f with log := f.log.map (fun e =>
    if logBlock e.seq = b / 8 * 8 then { e with bad := (2 * (b % 8)) :: (2 * (b % 8) + 1) :: e.bad } else e) }

/-- R327: port `p` reads the log entry with a number. -/
def logRead (p seq : Nat) (s : State) : State := eccVisit 10 0 (1 + p) 1 (fun b => b / 8 * 8 == logBlock seq) logError s

/-- R324: the words of a log entry as reads of its blocks deliver them, the even word of a block in its low half. -/
def logDelivered (s : State) (e : LogEntry) : List Word :=
  (List.range 16).map (fun i =>
    let d := eccDelta s 10 0 (logBlock e.seq + i / 2)
    (logWords e).getD i 0 ^^^ (if e.bad.contains i then 0 else if i % 2 = 0 then d.setWidth 32 else (d >>> 32).setWidth 32))

/-- R302: put an entry into the log; answers whether it found room. -/
def logPut (e : LogEntry) (s : State) : State × Bool :=
  match logRoom s.flt.log with
  | some (out, l) =>
    let s := (eccWrites 10 0 (logBlock e.seq) 8 s).modFlt fun f => { f with log := l ++ [{ e with dropped := f.droppedRun }], newestSeq := e.seq, droppedRun := 0 }
    (match out with | some o => if o.consequential then s else settleSource o.report.source s | none => s, true)
  | none => (s, false)

/-- R302: a report that is not logged is counted; the first of a run raises FLT_LOG_FULL, which waits for space. -/
def logLost (s : State) : State :=
  let first := s.flt.droppedRun == 0
  let s := count .fltLogLost 0 31 0 1 (s.modFlt fun f => { f with droppedRun := f.droppedRun + 1 })
  if first then
    let r : Report := ⟨Src.fltLogFull, 0, w32 1 :: capCourse (nowCourse s), 0, 0, nowStamp s, nowTime s, s.quo.worst, .none, false⟩
    event .fltEvt 0 18 (s.modFlt fun f => { f with fullWaiting := some r })
  else s

/-! ### Acting on a report (R305, R306, R313 to R315) -/

/-- SEVERITY of a source: 5 to 7 act as 4. -/
def severityOf (s : State) (n : Nat) : Nat := min 4 (fld (cell s .fltSrcCfg n) 2 0)

/-- R313: the level that a primary report is acted on at, before R306. -/
def actedLevel (s : State) (n : Nat) : Nat :=
  let sev := severityOf s n
  if (srcState s n).phase = .idle then sev else min 4 (min (sev + 1) (max sev (fld (cell s .fltSrcCfg n) 6 4)))

/-- R314: a shadow opens over a target's list; it closes the longer of 2 courses and the settle time after the next course tick. -/
def openShadow (t : Target) (r : Report) (s : State) : State :=
  s.modFlt fun f => { f with
    shadows := f.shadows ++ [⟨.target t, r.stamp, some (nowCourse s + 1 + max 2 (settleTime t))⟩]
    isoPending := f.isoPending ++ [⟨t, r.source⟩] }

/-- R305, R307: a level-4 entry requests the seal and the stop; during a stop only the seal. -/
def actCritical (r : Report) (seq : Nat) (logged : Bool) (s : State) : State :=
  let s := cnsCritical r seq s
  let s := if logged then s.modFlt (fun f => { f with newestL4 := some (seq, false) }) else s
  if dpStopped s then s
  else s.modFlt fun f => { f with
    shadows := f.shadows ++ [⟨.dataPlane, r.stamp, none⟩]
    stopPending := if f.stopPending.isSome then f.stopPending else some r.source }

/-- R315: a consequential report: an entry and a count. -/
def logConsequential (r : Report) (s : State) : State :=
  let s := modSrc r.source (fun x => { x with conseq := satTo 8 (x.conseq + 1) }) s
  let e : LogEntry := ⟨nextSeqNo s.flt.newestSeq, r, severityOf s r.source, true, false, false, false, false, 0, []⟩
  let p := logPut e s
  if p.2 then cnsSwitchLogged r p.1 else logLost p.1

/-- R313 to R315, R318: a primary report is logged and acted on. -/
def logPrimary (r : Report) (s : State) : State :=
  let n := r.source
  let sev := severityOf s n
  let act := actedLevel s n
  let esc := decide (sev < act)
  let level := if act = 3 ∧ actsAsTwo s r.target then 2 else act
  let first := (srcState s n).firstHeld.isNone
  let seq := nextSeqNo s.flt.newestSeq
  let p := logPut ⟨seq, r, level, false, esc, r.resurfaced, false, first, 0, []⟩ s
  let s := if p.2 then cnsSwitchLogged r p.1 else logLost p.1
  let held := if p.2 && first then (s.flt.log.getLast?).map logWords else none
  let s := modSrc n (fun x => { x with
    phase := if x.phase = .idle then .raised else .escalated, newest := level, lastPrimary := r.stamp.course
    firstHeld := if held.isSome then held else x.firstHeld }) s
  let s := if esc then event .fltEvt 0 16 s else s
  let s := if p.2 && decide (fld (cell s .fltCtl) 10 8 ≤ level) then signal 0 s else s
  let s := if level = 3 then openShadow r.target r s else if level = 4 then actCritical r seq p.2 s else s
  if p.2 && decide (fld (cell s .plbCfg) 10 8 ≤ level) then plbFire 2 0 (timeTag s) s else s

/-- A report is logged (R315). -/
def logReport (r : Report) (s : State) : State := if isConsequential s r then logConsequential r s else logPrimary r s

/-- R302: FLT_LOG_FULL is logged as soon as space exists. -/
def logWaiting (s : State) : State :=
  match s.flt.fullWaiting with
  | some r => if (logRoom s.flt.log).isSome then logReport r (s.modFlt fun f => { f with fullWaiting := none }) else s
  | none => s

/-- R301, R13: the order of logging: detection cycle, then source, then instance. -/
def reportBefore (a b : Report) : Bool :=
  if a.stamp = b.stamp then decide (a.source < b.source) || (a.source == b.source && decide (a.index ≤ b.index)) else a.stamp.before b.stamp

/-- The report that is logged next. -/
def firstReport : List Report → Option Report
  | [] => none
  | r :: t => match firstReport t with | some x => if reportBefore r x then some r else some x | none => some r

/-- FAULT_REPORT (R301): a report reaches the collector. -/
def faultReport (i : Nat) (s : State) : State :=
  match s.flt.flying[i]? with
  | some r => s.modFlt fun f => { f with flying := f.flying.eraseIdx i, held := f.held ++ [r] }
  | none => s

/-- FAULT_LOG (R301, R302): a report has been held for 64 core cycles: of the reports that the collector holds, and of those detected no later, which
have reached it within that time, the first is logged and acted on (R13); a waiting FLT_LOG_FULL goes before it. -/
def faultLog (s : State) : State :=
  let s := logWaiting s
  match s.flt.held, firstReport (s.flt.held ++ s.flt.flying) with
  | _ :: _, some r =>
    logReport r (s.modFlt fun f => if f.held.contains r then { f with held := f.held.erase r } else { f with flying := f.flying.erase r })
  | _, _ => s

/-! ### Conditions (R316, R317) -/

/-- R316: whether a condition source's condition holds for an instance, from the machine alone. -/
def conditionTrue (s : State) (n i : Nat) : Bool :=
  if n = Src.bedLaneLost then (lane s i).lostReported && (lane s i).phase != .active && bit (cell s .bedLaneCfg i) 0
  else if n = Src.bedQuarantine then (lane s i).phase == .quarantine
  else if n = Src.ashSlotOrphan then (engine s (slotEngine s i)).phase != .active && !dpStopped s
  else if n = Src.crsOutOfService then !(smGet .reset s.ring.quarters i).inService
  else if n = Src.qryHalted then s.qry.phase != .running
  else if n = Src.mrtAccTableFull then s.mrt.refusal.isSome
  else if n = Src.mrtThrottle then s.mrt.asserted
  else if n = Src.mrtUnitOut then !unitIn s i
  else if n = Src.uplLinkDown then (uplink s i).lostReported && (uplink s i).phase != .active && bit (cell s .uplLinkCfg i) 0
  else if n = Src.uplRlLost then (retLane s i).lostReported && !(retLane s i).sync
  else if n = Src.uplPllUnlock then !(uplGroup s i).pll
  else if n = Src.uplRefHold then (uplGroup s i).refHold
  else if n = Src.timeDomainLost then (if i = 0 then s.quo.domA else s.quo.domB).phase != .locked
  else if n = Src.timeHoldover then s.quo.servo == .holdover
  else if n = Src.dlPllUnlock then !(downlink s i).pll
  else if n = Src.hstLinkDown then !(hostPort s i).l0
  else false

/-- R316: instances of a source for which the condition holds, rising: only instances that the source has reported. -/
def heldInstances (s : State) (n : Nat) : List Nat :=
  sortNat ((s.flt.reported.filter (fun x => x.1 == n && conditionTrue s n x.2)).map (·.2))

/-- R316: the report of a condition that stands when a shadow closes. -/
def resurfaceReport (s : State) (n i : Nat) : Report :=
  ⟨n, i, [], 0, 0, ⟨nowCourse s, 0⟩, s.quo.tickTime, s.quo.worst,
    if n = Src.bedLaneLost ∨ n = Src.bedQuarantine then .bedGroup (i / 8) else targetOf n i, true⟩

/-- SHADOW_CLOSE (R314, R316): the shadows due close, and the conditions on their lists that stand are reported anew. Their reports are held with those
detected before and are logged in the order of detection, that of the closing tick (R294). -/
def shadowClose (s : State) : State :=
  let due := fun (h : Shadow) => match h.closeAt with | some c => decide (c ≤ nowCourse s) | none => false
  let gone := s.flt.shadows.filter due
  let s := s.modFlt fun f => { f with shadows := f.shadows.filter (fun h => !due h) }
  let srcs := ((srcTable.filter (fun r => r.condition)).map (·.id)).filter (fun n =>
    gone.any (fun h => h.kind.lists n) && !(s.flt.shadows.any (fun h => h.kind.lists n)))
  s.modFlt fun f => { f with held := f.held ++ srcs.flatMap (fun n => (heldInstances s n).map (resurfaceReport s n)) }

/-- QUIET_RECOVERY (R317). -/
def quietRecovery (n : Nat) (s : State) : State :=
  let x := srcState s n
  let q := fld (cell s .fltSrcCfg n) 12 8
  if x.phase ≠ .idle ∧ q ≠ 0 ∧ x.lastPrimary + 2 ^ (min 24 q) ≤ nowCourse s ∧ (heldInstances s n).isEmpty then
    event .fltEvt 0 17 (modSrc n (fun y => { y with phase := .idle, recovered := satTo 16 (y.recovered + 1) }) s)
  else s

/-! ### Acknowledgement and restart (R308, R319, R385) -/

/-- R319: every entry that satisfies a test is acknowledged; a CONSEQUENTIAL one changes no state. -/
def ackWhere (p : LogEntry → Bool) (s : State) : State :=
  let hit := s.flt.log.filter p
  let s := s.modFlt fun f => { f with
    log := f.log.map (fun e => if p e then { e with acked := true } else e)
    newestL4 := f.newestL4.map (fun x => (x.1, x.2 || hit.any (fun e => e.seq == x.1))) }
  let s := forL ((hit.filter (fun e => !e.consequential)).map (fun e => e.report.source)) settleSource s
  logWaiting s

/-- A number that has been issued (R319). -/
def seqIssued (s : State) (n : Nat) : Bool := s.flt.newestSeq != 0 && n != 0 && !ahead 32 n s.flt.newestSeq

/-- A write of FLT_ACK (R319). -/
def fltAckWrite (w : Word) (s : State) : State := ackWhere (fun e => e.seq == w.toNat) s

/-- A write of FLT_ACK_UPTO (R319). -/
def fltAckUptoWrite (w : Word) (s : State) : State :=
  if seqIssued s w.toNat then
    let n := fld (cell s .fltAckSrc) 11 0
    ackWhere (fun e => e.report.source == n && notAfter 32 e.seq w.toNat) s
  else s

/-- A write of FLT_DP_CTL (R308). -/
def fltDpCtlWrite (w : Word) (s : State) : State :=
  let good := match s.flt.newestL4 with
    | some (n, a) => a && n == w.toNat
    | none => false
  let busy := s.flt.log.any (fun e => e.level == 4 && !e.consequential && (srcState s e.report.source).phase != .idle)
  if dpStopped s && good && !busy then s.modFlt fun f => { f with restartPending := true, restartSeq := w.toNat }
  else event .fltEvt 0 21 s

/-! ### What the registers show (R320, R321) -/

/-- FLT_SRC_STAT. -/
def fltSrcStatRead (s : State) (n : Nat) : Word :=
  let x := srcState s n
  mkFld 31 16 x.recovered ||| mkFld 15 8 x.conseq ||| mkFld 3 3 x.firstHeld.isSome.toNat |||
    mkFld 2 2 (s.flt.shadows.any (fun h => h.kind.lists n)).toNat ||| mkFld 1 0 x.phase.code

/-- FLT_LOG_OLDEST. -/
def fltLogOldestRead (s : State) : Word := match s.flt.log with | e :: _ => w32 e.seq | [] => 0

/-- R321: the snapshot of a log entry, zero where the log does not hold it. -/
def fltSnapSeq (s : State) (n : Nat) : List Word :=
  match s.flt.log.find? (fun e => e.seq == n) with | some e => logDelivered s e | none => List.replicate 16 0

/-- R321: the snapshot of a source's first-error capture, zero where none is held. -/
def fltSnapSrc (s : State) (n : Nat) : List Word := ((srcState s n).firstHeld).getD (List.replicate 16 0)

end Sys2Proof.Machine
end

