-- ==== Sys2Proof/Machine/Release.lean ====
section
/-!
DEFINITION. The release of records, flushes, cell errors, units out of service and the data-plane stop (R217, R218, R221 to R228, R297, R298).
-/
namespace Sys2Proof.Machine

/-! ### Release (R217, R218, R222, R224) -/

/-- R224: the bound of an entry's record, in courses. -/
def recordBound (e : AccEntry) (r : StreamRec) : Nat :=
  if e.summary then 25
  else if e.kind = .recall || e.late || (match e.gather r.unit with | some g => fragLatePath e g r.mask | none => false) then 3125 else 25

/-- R224, R300: LATE, and the lateness in courses, of a record of `n` cells with bound `bound` that arrived at `a` and is released at
`now`, while the bunch clock runs at `khz`. A cell takes 100 ns: 96 core cycles at 40,000 kHz (R223). -/
def lateness (a now : Stamp) (bound n khz : Nat) : Nat :=
  let x : Int := ((cyclesSince a now : Int) - ((bound - 1) * 1536 : Nat)) * 10000 + (n * 24 * khz : Nat)
  if x ≤ 0 then 0 else (x.toNat + 15359999) / 15360000

/-- The words of a record with FLAGS.LATE and LATENESS set in its word 9 of a fragment or word 6 of a gap or flushed record. -/
def withLate (body : List DWord) (i late : Nat) : List DWord :=
  if late = 0 then body else body.set i ((body.getD i 0) ||| lateBits true late)

/-- R272 to R279: a record as released on stream `t` with sequence number `n` and lateness `late`. -/
def releasedRecord (s : State) (t n late : Nat) (e : AccEntry) (r : StreamRec) : OutRec :=
  let flushed := withLate (gapBody e 0) 4 late
  match r.phase with
  | .complete =>
    let kind := if e.kind = .recall then 2 else 1
    ⟨n, kind, wholeRecord s t kind n (withLate r.body 7 late), r.credits, r.cells, decide (late ≠ 0), late, flushed, false, false⟩
  | .gap k => ⟨n, 3, wholeRecord s t 3 n (withLate (gapBody e k) 4 late), 1, .zero, decide (late ≠ 0), late, [], false, false⟩
  | _ => ⟨n, 4, wholeRecord s t 4 n flushed, 1, .zero, decide (late ≠ 0), late, [], false, false⟩

/-- R205, R217: an entry's record on stream `t` has been released; an entry without records is free. -/
def dropRec (id t : Nat) (s : State) : State :=
  let s := modEntry id (fun e => { e with recs := e.recs.filter (fun r => !(r.stream == t)) }) s
  let free := s.mrt.table.any (fun e => e.id == id && e.recs.isEmpty)
  if free then refusalCloses (s.modMrt fun m => { m with table := m.table.filter (fun e => !(e.id == id)) }) else s

/-! ### Gap and flushed records (R221, R227, R228, R297) -/

/-- A record that can still become a gap or flushed record: not one already. -/
def StreamRec.isOpen (r : StreamRec) : Bool := match r.phase with | .gap _ | .flushed => false | _ => true

/-- A record loses its cells and its content. -/
def StreamRec.empty (p : RecPhase) (r : StreamRec) : StreamRec := { r with phase := p, body := [], cells := .zero }

/-- R227, R228: quarry requests and pieces of units that build nothing more for an entry are withdrawn. -/
def withdraw (s : State) : State :=
  let idle := fun (e : AccEntry) (u : Nat) => !e.recs.any (fun r => r.unit == u && r.inBuild)
  let s := s.modMrt fun m => { m with table := m.table.map (fun e =>
    { e with gathers := e.gathers.map (fun g => if idle e g.unit then { g with extracted := true, toSubmit := [] } else g) }) }
  s.modQry fun q => { q with reads := q.reads.filter (fun r => r.job ||
    (match s.mrt.table.find? (fun e => e.id == r.owner) with | some e => !idle e r.unit | none => false)) }

/-- Every record that `which` picks and that is still open changes its phase; requests that serve nothing are withdrawn. -/
def closeRecs (which : StreamRec → Bool) (p : RecPhase) (s : State) : State :=
  let s := s.modMrt fun m => { m with table := m.table.map (fun e =>
    { e with recs := e.recs.map (fun r => if which r && r.isOpen then r.empty p else r) }) }
  throttle (withdraw s)

/-- R327: memory 6: the unreleased records of the accept table's entries at a block become gap records with reason CELL_ERROR. -/
def tableEntryError (b : Nat) (s : State) : State :=
  let s := s.modMrt fun m => { m with table := m.table.map (fun e =>
    if entrySlot e.id = b then { e with recs := e.recs.map (fun r => if r.isOpen then r.empty (.gap 9) else r) } else e) }
  throttle (withdraw s)

/-- R327: a mortar unit reads an entry of the accept table. -/
def tableRead (id : Nat) (s : State) : State := eccVisit 6 0 9 1 (fun b => b == entrySlot id) tableEntryError s

/-! ### A release -/

/-- R327: the mortar unit reads the accept table's entry of the record that stream `t` releases next. -/
def releaseRead (t : Nat) (s : State) : State := match nextRelease s t with | some (e, _) => tableRead e.id s | none => s

/-- R217, R218, R222, R224: stream `t` releases its next record if its balance covers it. `khz`: the bunch clock's rate. -/
def recordRelease (t khz : Nat) (s : State) : State :=
  let s := releaseRead t s
  match nextRelease s t with
  | some (e, r) =>
    if dpStopped s || !releaseCovered s t r then s
    else
      let n := (stream s t).nextSeq
      let late := satTo 16 (lateness e.arrival (nowStamp s) (recordBound e r) r.credits khz)
      let o := releasedRecord s t n late e r
      let first := o.late && !(stream s t).lastLate
      let s := if o.late then count .mrtStreamLate t 15 0 1 s else s
      let s := if first then raise Src.mrtLate t (w32 t :: cap64 n ++ [w32 late]) s (.mortar r.unit) else s
      let s := modStream t (fun x => { x with nextSeq := n + 1, lastLate := o.late, out := x.out ++ [o] }) s
      startBlock t (throttle (dropRec e.id t s))
  | none => s

/-! ### Flushes and cell errors (R221, R227, R298) -/

/-- R298: a released record whose re-send is pending is then sent as a flushed record. -/
def flushOut (s : State) (t : Nat) (o : OutRec) : OutRec :=
  if o.resend && decide (o.kind ≤ 2) then
    { o with kind := 4, words := wholeRecord s t 4 o.seq o.head, credits := 1, cells := .zero, badCrc := false }
  else o

/-- R227, R298: stream `t` is flushed. -/
def flushStream (t : Nat) (s : State) : State :=
  let n := ((streamRecs s t).filter (·.isOpen)).length
  let m := ((stream s t).out.filter (fun o => o.resend && decide (o.kind ≤ 2))).length
  let s := count .mrtStreamLate t 31 16 (n + m) s
  let s := modStream t (fun x => { x with out := x.out.map (flushOut s t) }) s
  startBlock t (closeRecs (fun r => r.stream == t) .flushed s)

/-- R221: the record of table entry `id` on stream `t` is spoilt before its release: a gap record with reason CELL_ERROR, without cells. -/
def cellGap (u cell t id : Nat) (s : State) : State := throttle (withdraw (modRec id t (fun x => x.empty (.gap 9)) (cellError u cell t false s)))

/-- R221: an uncorrectable error in a cell of a record on stream `t`, built by unit `u`: of table entry `key` before release, of the
released record with sequence number `key` after it. -/
def cellUncorr (u cell t key : Nat) (released : Bool) (s : State) : State :=
  if released then
    let x := stream s t
    let here := fun (o : OutRec) => o.seq == key && o.cells.contains cell
    if x.out.any here || (match x.block with | some b => here b.out | none => false) then
      cellError u cell t true (modStream t (fun y => { y with
        out := y.out.map (fun o => if here o then spoil o else o)
        block := y.block.map (fun b => if here b.out then { b with out := spoil b.out } else b) }) s)
    else s
  else
    match (entryById s key).bind (fun e => e.onStream t) with
    | some r =>
      if r.isOpen && r.cells.contains cell then cellGap u cell t key s else s
    | none => s

/-- MRT_CELL_UNCORR (R221, R340): the error is counted for memory 3 too. -/
def cellUncorrRow (u cell t key : Nat) (released : Bool) (s : State) : State :=
  let holds := if released then ((stream s t).out ++ (match (stream s t).block with | some b => [b.out] | none => [])).any (fun o => o.seq == key && o.cells.contains cell)
    else match (entryById s key).bind (fun e => e.onStream t) with | some r => r.isOpen && r.cells.contains cell | none => false
  if holds then cellUncorr u cell t key released (count .memCntUncorr 3 31 0 1 s) else s

/-- The records that hold a cell that `bad` picks, before their release: unit, the first such cell, stream, table entry. -/
def cellRecs (s : State) (bad : Nat → Bool) : List (Nat × Nat × Nat × Nat) :=
  s.mrt.table.flatMap (fun e => e.recs.filterMap (fun r => (r.cells.find? bad).map (fun c => (r.unit, c, r.stream, e.id))))

/-- The released records that hold a cell that `bad` picks: the first such cell, stream, sequence number. -/
def cellOuts (s : State) (bad : Nat → Bool) : List (Nat × Nat × Nat) :=
  (List.range 48).flatMap (fun t => ((stream s t).out ++ (match (stream s t).block with | some k => [k.out] | none => [])).filterMap
    (fun o => (o.cells.find? bad).map (fun c => (c, t, o.seq))))

/-- R221: what cells held is lost: every record with one of them. -/
def cellsLost (bad : Nat → Bool) (s : State) : State :=
  let held := cellRecs s bad
  let out := cellOuts s bad
  let s := forL held (fun x => cellUncorr x.1 x.2.1 x.2.2.1 x.2.2.2 false) s
  forL out (fun x t => cellUncorr (fld (streamCfg t x.2.1) 29 28) x.1 x.2.1 x.2.2 true t) s

/-- A bank of the cell pool has left ON: what its cells held is lost (R219, R221). -/
def bankLost (b : Nat) (s : State) : State := poolMoved (cellsLost (fun c => c / 8192 == b) s)

/-! ### Units and the data-plane stop (R228) -/

/-- R228: a unit goes out of service, or comes back. -/
def unitCheck (u : Nat) (s : State) : State :=
  let was := s.mrt.unitsIn.contains u
  if unitIn s u then
    if was then s else poolMoved (s.modMrt fun m => { m with unitsIn := m.unitsIn ++ [u] })
  else if was then
    let s := s.modMrt fun m => { m with unitsIn := m.unitsIn.filter (fun x => !(x == u)) }
    let s := closeRecs (fun r => r.unit == u) (.gap 5) s
    raise Src.mrtUnitOut u ([w32 u, causeWord s [71 + u] [.mortar u]] ++ capCourse (nowCourse s)) (event .mrtUnitEvt u 16 s)
  else s

/-- R228: a stopped data plane turns every record that is not released into a gap record. -/
def mortarStop (s : State) : State := closeRecs (fun _ => true) (.gap 6) s

/-! ### What the registers show (R231, R232) -/

/-- Entries of a window BT in the needed buckets of a course. -/
def btEntries (s : State) (need : BitVec 64) (cr : CloseRec) (b : Nat) : Nat :=
  (pairGroups cr need).foldl (fun n g => n + entriesSize (bucket s cr.course g b)) 0

/-- R211: the cycles that the further passes of a window BT's sort cost: one pass for each further 8,192 entries or part of them. -/
def passCycles (n : Nat) : Nat := ((n + 8191) / 8192 - 1) * ((n + 7) / 8)

/-- The extraction work of an entry on unit `u` in core cycles (R211). -/
def extractionWork (s : State) (e : AccEntry) (u : Nat) : Nat :=
  let bts := (e.courses.filterMap (fun c => closeRec s c)).flatMap (fun cr =>
    let sp := e.bucketSpan cr.course
    (List.range (sp.2 + 1 - sp.1)).map (fun i => btEntries s (unitNeed e.recs u) cr (sp.1 + i)))
  (bts.foldl (· + ·) 0 + 7) / 8 + 256 + (bts.map passCycles).foldl (· + ·) 0

/-- MRT_UNIT_STAT. -/
def mrtUnitStatRead (s : State) (u : Nat) : Word :=
  let queued := s.mrt.table.filter (fun e => match e.gather u with | some g => !g.extracted | none => false)
  let work := queued.foldl (fun n e => n + extractionWork s e u) 0
  let reqs := (s.qry.reads.filter (fun r => !r.job && r.unit == u)).length
  let st := if isIsolated s (.mortar u) then 3 else if domOn s (71 + u) then 2 else if (powerDom s (71 + u)).phase == .hold then 1 else 0
  mkFld 31 16 (satTo 16 work) ||| mkFld 15 8 (satTo 8 reqs) ||| mkFld 2 0 st

/-- MRT_STREAM_STAT. -/
def mrtStreamStatRead (s : State) (t : Nat) : Word :=
  mkFld 31 31 (stream s t).above.toNat ||| mkFld 30 30 (flushing s t).toNat ||| mkFld 29 29 (starved s t).toNat ||| mkFld 15 0 (satTo 16 (streamCells s t))

/-- MRT_STREAM_FRAGS. -/
def mrtStreamFragsRead (s : State) (t : Nat) : Word :=
  let building := ((streamRecs s t).filter (fun r => !r.isComplete)).length
  mkFld 31 16 (satTo 16 building) ||| mkFld 15 0 (satTo 16 (streamWaiting s t))

/-- MRT_POOL_STAT: FREE beside the stored MIN_FREE. -/
def mrtPoolStatRead (s : State) : Word := setFld (cell s .mrtPoolStat) 15 0 (freeCells s)

/-- R232: MRT_SNAP_DATA of a selector; a value that does not exist reads as zero. -/
def mrtSnapData (s : State) (sel t : Nat) : List Word :=
  let n48 := fun (v : Option Nat) => match v with | some x => [w32 (x / 2 ^ 32 % 65536), w32 x] | none => [0, 0]
  match sel with
  | 0 => cap64 (stream s t).nextSeq ++ [w32 t, 0]
  | 1 => n48 (expectedNumber s) ++ n48 s.mrt.lastEntered
  | _ => n48 (s.mrt.lastMissing.map (·.1)) ++ n48 (s.mrt.lastMissing.map (·.2))

end Sys2Proof.Machine
end

