-- ==== Sys2Proof/Machine/Mem.lean ====
section
/-!
DEFINITION. The calibration archive and loads (R128, R172, R329), the Repointer: table scrub, restore, HBM scrub (R328 to R335), errors
that readers of SRAM and HBM meet (R327, R332), the arming of an injection (R339).
-/
namespace Sys2Proof.Machine

def State.modMem (f : MemProt → MemProt) (s : State) : State := { s with mem := f s.mem }

/-- Domain 79 is ON and the Repointer is not isolated (R335). -/
def repointerRuns (s : State) : Bool := domOn s 79 && !isIsolated s .repointer

/-! ### The archive (R172, R329) -/

/-- QA of the archive of table group `g`. -/
def archiveQa (g : Nat) : Nat := qaArchive + 0x200000 * g
/-- QA of the CRC word of archive granule `k`. -/
def archiveCrcQa (g k : Nat) : Nat := archiveQa g + 0x110000 + 4 * k
/-- The bytes of archive granule `k`. -/
def archiveGranule (s : State) (g k : Nat) : List Byte := hbmRead s.hbm.bytes (archiveQa g + 4096 * k) 4096

/-- R329: the granule's CRC matches. The word stands least significant byte first, as R128 stores an image's. -/
def archiveCrcHolds (s : State) (g k : Nat) : Bool :=
  leNat (hbmRead s.hbm.bytes (archiveCrcQa g k) 4) == (crc32c (archiveGranule s g k)).toNat

/-- The bank of a block as TableGroup.loaded numbers it: 0, 1 offset banks, 2, 3 walk banks. -/
def blockBank (b : Nat) : Nat := if b < ofsBlocks then b / 65536 else 2 + (b - ofsBlocks) / 4096

/-! ### Loads (R128, R129) -/

/-- The 16-bit entries of an image's bytes. -/
def imageEntries : Nat → List Byte → List (BitVec 16)
  | n + 1, a :: b :: t => (b ++ a) :: imageEntries n t
  | _, _ => []

/-- The data of block `b` with the entries of a load that begins at entry number `i0` of the group's SRAM. -/
def loadedData (i0 : Nat) (es : List (BitVec 16)) (b : Nat) (old : DWord) : DWord :=
  (List.range 4).foldl (fun (w : DWord) k =>
    let n := 4 * b + k
    if i0 ≤ n ∧ n < i0 + es.length then
      (w &&& ~~~ ((0xFFFF : DWord) <<< (16 * k))) ||| (((es.getD (n - i0) 0).setWidth 64) <<< (16 * k))
    else w) old

/-- The load covers the four entries of block `b`. -/
def loadCovers (i0 : Nat) (es : List (BitVec 16)) (b : Nat) : Bool := decide (i0 ≤ 4 * b) && decide (4 * b + 4 ≤ i0 + es.length)

/-- R128, R325, R331: a load writes block `b` of group `g`, which then is GOOD and no longer waits for its restore. A block that the load covers only in
part keeps its other entries, so it is read first. DEDUCED (log entry 184): where those entries cannot be read, the write of the whole block that makes it
GOOD is not made: an EMPTY or DAMAGED block stays so, and one found uncorrectable becomes DAMAGED. -/
def loadBlock (g i0 : Nat) (es : List (BitVec 16)) (b : Nat) (s : State) : State :=
  let write := fun (old : DWord) (t : State) =>
    (writeTblock g b (loadedData i0 es b old) t).modMem fun m => { m with restore := m.restore.filter (fun r => !(r == (g, b))) }
  if loadCovers i0 es b then write 0 s
  else if (tblock s g b).phase == .good then
    let r := readTblock g b 3 3 s
    match r.1 with
    | some old => write old r.2
    | none => r.2
  else s

/-- A granule's CRC follows its bytes; its bad mark and its failed restores are cleared (R329, R331). -/
def sealGranule (g k : Nat) (s : State) : State :=
  let s := s.hbmStore (archiveCrcQa g k) (leBytes 4 (crc32c (archiveGranule s g k)).toNat)
  let s := { s with hbm := { s.hbm with badMarks := smPut false s.hbm.badMarks (g * 272 + k) false } }
  s.modMem fun m => { m with restoreFailed := m.restoreFailed.filter (fun e => decide (e.1 / 512 ≠ g * 272 + k)) }

/-- R128: entries from entry number `i0` of group `g` are written to the archive. -/
def loadArchive (g i0 : Nat) (es : List (BitVec 16)) (s : State) : State :=
  if es.isEmpty then s
  else
    let last := i0 + es.length - 1
    let s := s.hbmStore (archiveQa g + 2 * i0) (es.flatMap (fun e => leBytes 2 e.toNat))
    let s := forL ((List.range (last / 2048 + 1 - i0 / 2048)).map (i0 / 2048 + ·)) (sealGranule g) s
    let banks := ((List.range (last / 4 + 1 - i0 / 4)).map (fun k => blockBank (i0 / 4 + k))).eraseDups
    modGroup g (fun t => { t with loaded := t.loaded ++ banks.filter (fun b => !t.loaded.contains b) }) s

/-- The 8-byte blocks of the aligned piece `k` of 2,048 entries (R129). -/
def pieceBlocks (k : Nat) : List Nat := (List.range 512).map (512 * k + ·)

/-- R129, R325: the write of the next piece begins: its blocks are WRITING, and what they were is kept. -/
def pieceBegin (l : LoadRun) (s : State) : LoadRun × State :=
  match l.todo with
  | k :: _ =>
    ({ l with kept := (pieceBlocks k).map (fun b => (b, (tblock s l.group b).phase)) },
     forL (pieceBlocks k) (fun b t => setTblock l.group b { tblock t l.group b with phase := .writing } t) s)
  | [] => (l, s)

/-- A block of the piece is what it was, unless something else has changed it meanwhile. -/
def pieceKept (g : Nat) (x : Nat × BlockPhase) (s : State) : State :=
  if (tblock s g x.1).phase == .writing then setTblock g x.1 { tblock s g x.1 with phase := x.2 } s else s

/-- The blocks of piece `k` that hold an entry of the load. -/
def LoadRun.blocks (l : LoadRun) (k : Nat) : List Nat :=
  (pieceBlocks k).filter (fun b => decide (l.first / 4 ≤ b) && decide (4 * b < l.first + l.entries.length))

/-- R128, R129: the write of the piece ends: its blocks are what they were, and those of the range hold the entries. -/
def pieceEnd (l : LoadRun) (s : State) : LoadRun × State :=
  match l.todo with
  | k :: t =>
    ({ l with todo := t, kept := [] }, forL (l.blocks k) (loadBlock l.group l.first l.entries) (forL l.kept (pieceKept l.group) s))
  | [] => (l, s)

/-- R375: the write of a piece is broken off: no block of the range that it wrote is valid. DESIGN CHOICE: they are EMPTY. -/
def pieceBreak (l : LoadRun) (s : State) : State :=
  match l.todo with
  | k :: _ => forL l.kept (pieceKept l.group) (forL (l.blocks k) (fun b t => if (tblock t l.group b).phase == .writing then setTblock l.group b .blank t else t) s)
  | [] => s

/-- Entries of the load that lie in pieces already written. -/
def LoadRun.written (l : LoadRun) : Nat :=
  l.entries.length - sumL (l.todo.map (fun k => min (2048 * k + 2048) (l.first + l.entries.length) - max (2048 * k) l.first))

/-! ### What HBM reports (R332) -/

/-- R332: a corrected read at a QA: counted, raised once per granule and scrub pass. -/
def hbmCorrected (qa code : Nat) (loc : HbmLoc) (master access : Nat) (s : State) : State :=
  let s := count .memHbmCnt 0 15 0 1 s
  let n := qa / 4096
  if smGet false s.mem.hbmCorr n then s
  else
    raise Src.memHbmCorr (qaStack qa) (locCapture qa loc ++ [w32 code]) (s.modMem fun m => { m with hbmCorr := smPut false m.hbmCorr n true })
      (.quarryCtl (qaController qa)) master access

/-- R333, R334: MEM_HBM_UNCORR at a QA. -/
def hbmUncorrectable (qa : Nat) (loc : HbmLoc) (master access : Nat) (s : State) : State :=
  raise Src.memHbmUncorr (qaStack qa) (locCapture qa loc ++ cap64 qa) (event .memEvt 0 18 s) (.quarryCtl (qaController qa)) master access

/-- R332: the severity of a read at a QA: a corrected one is counted and raised, an uncorrectable one counted. -/
def hbmSeen (qa : Nat) (sev : HbmSeverity) (loc : HbmLoc) (master access : Nat) (s : State) : State :=
  match sev with
  | .none => s
  | .corrected c => hbmCorrected qa c.toNat loc master access s
  | .uncorrectable => count .memHbmCnt 0 31 16 1 s

/-! ### Restores (R330, R331) -/

/-- R331: a block can be restored: its bank was loaded, its granule is not marked bad, readable and good. -/
def restorable (s : State) (g b : Nat) : Bool :=
  (tgroup s g).loaded.contains (blockBank b) && !smGet false s.hbm.badMarks (g * 272 + blockGranule b) &&
  qaReachable s (archiveQa g + 8 * b) && archiveCrcHolds s g (blockGranule b)

/-- A table block as captures name it: group, bank of its store, block of the group's SRAM. -/
def blockCapture (g b : Nat) : List Word := [w32 g, w32 (blockBank b % 2), w32 b]

/-- R330, R331: the block at the head of the restore queue is restored, or its restore fails. -/
def tableRestore (sev : HbmSeverity) (loc : HbmLoc) (s : State) : State :=
  match s.mem.restore with
  | (g, b) :: rest =>
    if !repointerRuns s then s
    else
      let s := s.modMem fun m => { m with restore := rest }
      if !((tblock s g b).phase == .damaged && domOn s g) then s
      else
      let s := if qaReachable s (archiveQa g + 8 * b) then hbmSeen (archiveQa g + 8 * b) sev loc 4 1 s else s
      if sev != .uncorrectable && restorable s g b then
        let d := BitVec.ofNat 64 (leNat (hbmRead s.hbm.bytes (archiveQa g + 8 * b) 8))
        raise Src.memTableRestored g (blockCapture g b) (event .memEvt 0 19 (count .memRestoreCnt 0 31 16 1 (writeTblock g b d s))) .none 4 5
      else
        let s := s.modMem fun m => { m with restoreFailed := smPut false m.restoreFailed (g * groupBlocks + b) true }
        raise Src.memRestoreFail g (blockCapture g b) (event .memEvt 0 20 (count .memRestoreCnt 0 15 0 1 s)) .repointer 4 5
  | [] => s

/-! ### The table scrub (R328, R335) -/

/-- The lowest-numbered table group whose domain is ON: its passes are the ones that MEM_SCRUB_STAT counts. -/
def firstGroupOn (s : State) : Option Nat := (List.range 32).find? (fun g => domOn s g)

/-- R328: the next block of group `g` is read, and rewritten where its error is correctable. -/
def scrubTable (g : Nat) (s : State) : State :=
  if repointerRuns s && domOn s g then
    let b := (tgroup s g).scrubPos
    let was := tblock s g b
    let r := readTblock g b 4 4 s
    let s := match was.phase, readOutcome was.data was.check, r.1 with
      | .good, .corrected _ _, some d => writeTblock g b d r.2
      | _, _, _ => r.2
    let next := if b + 1 = groupBlocks then 0 else b + 1
    let s := modGroup g (fun t => { t with scrubPos := next }) s
    if next = 0 ∧ firstGroupOn s = some g then countWrap .memScrubStat 0 15 0 s else s
  else s

/-! ### HBM errors and the HBM scrub (R332 to R335) -/

/-- The region of a granule that the scrub tells apart (R333). -/
inductive GranuleKind where
  | stone (n : Nat)
  | index (slot : Nat)
  | archive (g k : Nat)
  | other
  deriving DecidableEq, Repr

/-- R172, R333: what granule `n` of the quarry address space is. -/
def granuleKind (n : Nat) : GranuleKind :=
  let a := n * 4096
  if n < stoneCount then .stone n
  else if a < qaArchive then .index ((a - qaIndex) / 512)
  else if a < qaImage then
    let o := (a - qaArchive) % 0x200000
    if o < 0x110000 then .archive ((a - qaArchive) / 0x200000) (o / 4096) else .other
  else .other

/-- A stone or an index slot. -/
def GranuleKind.isQuarry : GranuleKind → Bool
  | .stone _ => true
  | .index _ => true
  | _ => false

/-- R332: a read of HBM reports an error; stones and index slots are dealt with by the rules of their readers. -/
def hbmReadError (qa : Nat) (sev : HbmSeverity) (loc : HbmLoc) (master : Nat) (s : State) : State :=
  let t := hbmSeen qa sev loc master 1 s
  if sev == .uncorrectable && !(granuleKind (qa / 4096)).isQuarry then hbmUncorrectable qa loc master 1 t else t

/-- R189: the padding of a stone: the 32-byte burst `k` holds neither header, payload nor trailer. -/
def inPadding (s : State) (n k : Nat) : Bool :=
  let len := dfld ((stoneAt s n).getD 1 0) 31 0
  decide (8 * (2 + len) ≤ 32 * k) && decide (k < 127)

/-- R189: an uncorrectable error in a stone, or a failing check: the blocks that overlap it are marked. -/
def stoneDamaged (n : Nat) (burst : Option Nat) (loc : HbmLoc) (s : State) : State :=
  let qa := 4096 * n + 32 * burst.getD 0
  let s := raise Src.qryStoneUncorr (qaStack qa) (locCapture qa loc ++ [w32 n]) s (.quarryCtl (n % 4)) 4 4
  if (match burst with | some k => inPadding s n k | none => false) then s
  else forL (overlapping s n) (fun x t => markDamaged x.1 x.2 t) s

/-- R190: a failing index entry is replaced by a stub. -/
def indexStub (c : Nat) (s : State) : State :=
  let s := storeEntry c (stubWords s c) s
  raise Src.qryIndexUncorr 0 (w32 (c % 2097152) :: capCourse c) (count .qryDamaged 0 31 0 1 (event .qryEvt 0 19 s)) .none 4 4

/-- R190, R333: the eight slots of an index granule; `burst`: the burst that is uncorrectable. -/
def indexScrub (slot : Nat) (burst : Option Nat) (s : State) : State :=
  forL ((s.qry.left ++ s.qry.published).filter (fun c => decide (slot ≤ c % 2097152) && decide (c % 2097152 < slot + 8))) (fun c t =>
    let hit := match burst with | some k => k / 16 == c % 2097152 - slot | none => false
    if hit || (readIndex t c).isNone then indexStub c t else t) s

/-- R333: granule `n` is checked by its region. -/
def scrubGranule (n : Nat) (sev : HbmSeverity) (burst : Nat) (loc : HbmLoc) (s : State) : State :=
  let bad := sev == .uncorrectable
  let s := hbmSeen (4096 * n + 32 * burst) sev loc 4 4 s
  match granuleKind n with
  | .stone k => if bad then stoneDamaged k (some burst) loc s else if stoneGood s k then s else stoneDamaged k none loc s
  | .index slot => indexScrub slot (if bad then some burst else none) s
  | .archive g k =>
    if bad || !archiveCrcHolds s g k then
      hbmUncorrectable (4096 * n + 32 * burst) loc 4 4 { s with hbm := { s.hbm with badMarks := smPut false s.hbm.badMarks (g * 272 + k) true } }
    else s
  | .other => if bad then hbmUncorrectable (4096 * n + 32 * burst) loc 4 4 s else s

/-- R333: granule `n` is not skipped. -/
def scrubbable (s : State) (n : Nat) : Bool :=
  let k := ctlStack (n % 4)
  domOn s (65 + 2 * k) && domOn s (66 + 2 * k) && domOn s (69 + k)

/-- The next granule to scrub from `n` on: written, and on a stack that serves. -/
def nextGranule (s : State) (n : Nat) : Option Nat := (s.hbm.written.find? (fun e => decide (n ≤ e.1) && scrubbable s e.1)).map (·.1)

/-- R333: the HBM pass is complete: counted, and slow if it lasted longer than PERIOD seconds while the bunch clock runs at `khz`. -/
def passEnd (khz : Nat) (s : State) : State :=
  let cycles := cyclesSince s.mem.passStart (nowStamp s)
  let secs := cycles / (24000 * khz)
  let slow := decide (fld (cell s .memScrubCfg) 23 16 * (24000 * khz) < cycles)
  let s := s.modMem fun m => { m with hbmCorr := [], passStart := nowStamp s }
  let s := setCell .memScrubPos 0 0 0 (countWrap .memScrubStat 0 31 16 s)
  if slow then raise Src.memScrubSlow 0 (w32 secs :: capCourse (nowCourse s)) (event .memEvt 0 21 s) else s

/-- R333: the Repointer reads the next HBM granule: the severity reported, the burst it names, its place; `khz`: the bunch clock. -/
def hbmScrub (sev : HbmSeverity) (burst : Nat) (loc : HbmLoc) (khz : Nat) (s : State) : State :=
  if !repointerRuns s then s
  else
    match nextGranule s (fld (cell s .memScrubPos) 23 0) with
    | none => passEnd khz s
    | some n =>
      let s := scrubGranule n sev burst loc s
      match nextGranule s (n + 1) with
      | none => passEnd khz s
      | some _ => setCell .memScrubPos 0 0 (mkFld 23 0 (n + 1)) s

/-- R335: the Repointer starts: its first pass begins at QA 0 and at block 0 of every group. -/
def repointerStart (s : State) : State :=
  let s := forN 32 (fun g t => modGroup g (fun x => { x with scrubPos := 0 }) t) s
  setCell .memScrubPos 0 0 0 (s.modMem fun m => { m with hbmCorr := [], passStart := nowStamp s })

/-! ### Errors that readers of SRAM meet (R324 to R327) -/

/-- R325: a state parity failure: the 32 blocks around `b` become DAMAGED. -/
def stateParity (g b : Nat) (s : State) : State :=
  forN 32 (fun i t => setTblock g (b / 32 * 32 + i) { tblock t g (b / 32 * 32 + i) with phase := .damaged } t) s

/-- R327: memory 4: the coder's block is copied raw from the ring. -/
def coderBuffer (m : Nat) (s : State) : State :=
  modCoder m (fun k => { k with cur := match k.cur with | some (c, (g, n) :: t) => some (c, (g, if n = 3 then 3 else 1) :: t) | x => x }) s

/-- The power domain that a memory of R327 lies in; none for those of the foundation and for the accept table. -/
def memDomain (mem inst : Nat) : Option Nat :=
  match mem with
  | 0 | 1 => some inst
  | 2 | 4 => some (61 + inst)
  | 3 => some (71 + inst)
  | 5 => some (52 + inst)
  | 7 => some (65 + inst)
  | 8 => some 75
  | 9 => some 78
  | _ => none

/-- Numbers of a memory of R327. -/
def memCount (mem : Nat) : Nat :=
  if mem = 0 ∨ mem = 1 then 32 else if mem = 2 ∨ mem = 3 ∨ mem = 4 ∨ mem = 7 then 4 else if mem = 5 then 9 else 1

/-- R325, R330: an uncorrectable table block, or a failure of its state parity, which damages the 32 blocks around it. -/
def tableReadError (mem inst blk master : Nat) (parity : Bool) (s : State) : State :=
  let b := if mem = 0 then blk else ofsBlocks + blk
  let s := if parity then stateParity inst b s else s
  let s := damageTblock inst b master 1 s
  if parity then forN 32 (fun i t => queueRestore inst (b / 32 * 32 + i) t) s else s

/-- Blocks of a memory of R327; those of the accept table and of the fault log go by the numbers of their entries. -/
def memBlocks (mem : Nat) : Nat :=
  match mem with
  | 0 => ofsBlocks
  | 1 => 8192
  | 2 => linkBlock 61440
  | 3 | 9 => 262144
  | 4 => 32768
  | 5 => 2048
  | 7 => 4096
  | 8 => 65536
  | _ => 1048576

/-- What a block of the course ring holds (memory 2): course, group, page and entry of an entry, a link or a descriptor. -/
def ringBlockAt (s : State) (m b : Nat) : Option (Nat × Nat × Nat × Nat) :=
  (s.ring.buckets.filter (fun e => keyQuarter e.1 == m)).findSome? fun e =>
    let c := e.1 / 2048
    let g := e.1 / 64 % 32
    let k := e.2
    if b < 491520 then
      match k.pages.findIdx? (fun x => x == b / 8) with
      | some i => if 8 * i + b % 8 < entriesSize k.entries then some (c, g, b / 8, b % 8) else none
      | none => none
    else if b < linkBlock 0 then
      if b = 491520 + c % 32 * 512 + g % 8 * 64 + e.1 % 64 then some (c, g, k.pages.headD 0, 0) else none
    else (k.pages.dropLast.find? (fun x => linkBlock x == b)).map (fun x => (c, g, x, 0))

/-- R155, R327: memory 2: an uncorrectable block of the ring is counted and raised; a reader that takes it finds it DAMAGED. -/
def ringBlockError (m b master : Nat) (s : State) : State :=
  match ringBlockAt s m b with
  | some (c, g, page, i) =>
    raise Src.crsMemUncorr m ([w32 m, w32 page, w32 i] ++ capCourse c ++ [w32 g]) (event .crsEvt 0 20 (count .crsMemErr m 31 0 1 s))
      (.quarter m) master 1
  | none => s

/-- A block of memories 2 to 10 holds something that a reader can take. -/
def sramHeld (s : State) (mem inst b : Nat) : Bool :=
  match mem with
  | 2 => (ringBlockAt s inst b).isSome
  | 3 => decide (b < 262144) && (allCells s).flatten.contains (8192 * inst + b / 32)
  | 4 => (coder s inst).cur.isSome
  | 5 => (engine s inst).queue.any (fun x => x.covers b)
  | 6 => s.mrt.table.any (fun e => entrySlot e.id == b)
  | 7 => (s.qry.full.any (fun x => x.1 % 4 == inst && x.1 / 4 % 8 == b / 512)) ||
      (s.qry.openStone.isSome && s.qry.writer % 4 == inst && s.qry.writer / 4 % 8 == b / 512)
  | 8 => s.lnt.phase == .running && historyHolds s s.lnt.nextClose b
  | 9 => (plbPlace s.plb b).isSome
  | 10 => s.flt.log.any (fun e => logBlock e.seq == b / 8 * 8)
  | _ => false

/-- R327: what an uncorrectable block does in memories 2 to 10. -/
def sramAction (mem inst b master : Nat) (s : State) : State :=
  match mem with
  | 2 => ringBlockError inst b master s
  | 3 => cellsLost (fun c => c == 8192 * inst + b / 32) s
  | 4 => coderBuffer inst s
  | 5 => engineQueueError inst b s
  | 6 => tableEntryError b s
  | 7 => openStoneError inst b s
  | 8 => lintelError s.lnt.nextClose Config.historyStage master 1 s
  | 9 => plbStoreError b s
  | 10 => logError b s
  | _ => s

/-- R325, R327: an uncorrectable block of memories 2 to 10, or a failure of its state parity, which damages the 32 blocks around it. -/
def memoryReadError (mem inst b master : Nat) (parity : Bool) (s : State) : State :=
  let s := if parity then eccParity mem inst b s else eccDamage mem inst b s
  sramAction mem inst b master (sramUncorrected mem inst b master 1 s)

/-- R326: the reader's own counts or descriptors gate every read of a memory: the course ring, the cell pool and the quarry. -/
def gatedMemory (mem : Nat) : Bool := mem == 2 || mem == 3 || mem == 7

/-- R324 to R327: a read of a block of memories 2 to 10 finds an error; that of an EMPTY or a DAMAGED one is only recorded. -/
def memoryRead (mem inst b : Nat) (e : SramError) (master : Nat) (s : State) : State :=
  let ph := if sramHeld s mem inst b || eccWritten s mem inst b then (eccBlock s mem inst b).phase else .empty
  match e with
  | .stateParity => memoryReadError mem inst b master true s
  | .corrected syn => badReadOr ph mem inst b (sramCorrected mem inst b syn.toNat master 1) s
  | .uncorrectable => badReadOr ph mem inst b (memoryReadError mem inst b master false) s

/-- SRAM_READ_ERROR (R324 to R327): a read of block `blk` of number `inst` of a memory finds an error. A block that is not GOOD has none that counts: a read
of an EMPTY or DAMAGED one is recorded. No reader of a gated memory takes a block that holds nothing. -/
def sramReadError (mem inst blk : Nat) (e : SramError) (master : Nat) (s : State) : State :=
  let on := match memDomain mem inst with | some d => domOn s d | none => true
  if !on || decide (memCount mem ≤ inst) || decide (memBlocks mem ≤ blk) then s
  else if mem = 0 ∨ mem = 1 then
    let b := if mem = 0 then blk else ofsBlocks + blk
    match e with
    | .stateParity => tableReadError mem inst blk master true s
    | .corrected syn => badReadOr (tblock s inst b).phase mem inst blk (sramCorrected mem inst blk syn.toNat master 1) s
    | .uncorrectable => badReadOr (tblock s inst b).phase mem inst blk (tableReadError mem inst blk master false) s
  else if gatedMemory mem && !sramHeld s mem inst blk then s
  else memoryRead mem inst blk e master s

end Sys2Proof.Machine
end

