-- ==== Sys2Proof/Machine/Ports.lean ====
section
/-!
DEFINITION. The PCI Express endpoints: resets, links and errors (R344), configuration, the MSI-X table and messages (R346, R350, R351),
and the window onto HBM (R196, R334).
-/
namespace Sys2Proof.Machine

/-! ### Resets and links (R344) -/

/-- A vector without a due message or a pending bit; the merge time runs on. -/
def VecState.quiet (v : VecState) : VecState := { v with due := false, pba := false }

/-- R344: a port's configuration space returns to defaults: Bus Master Enable and MSI-X Enable 0, D0, the MSI-X table masked. -/
def configDefaults (p : Nat) (s : State) : State :=
  s.modPort p fun h => { h with
    bme := false, msixEn := false, fnMask := false, dstate := 0, msixTable := [], aerUncorr := 0, aerCorr := 0, aerLog := none
    vectors := (h.vectors.map (fun e => (e.1, e.2.quiet))).filter (fun e => decide (e.2 ≠ .idle)) }

/-- The link leaves L0. -/
def linkOff (p : Nat) (s : State) : State := s.modPort p fun h => { h with l0 := false, width := 0, speed := 0 }

/-- R344: PERST_N of a port is asserted: link and configuration space return to defaults. -/
def perstAssert (p : Nat) (s : State) : State := configDefaults p (linkOff p (s.modPort p fun h => { h with perst := true }))

/-- R344: a hot reset of a port in L0: link and configuration space return to defaults, and PERST_N stays as it is. -/
def hotReset (p : Nat) (s : State) : State := if (hostPort s p).l0 then configDefaults p (linkOff p s) else s

/-- R344: PERST_N of a port is released. -/
def perstRelease (p : Nat) (s : State) : State := s.modPort p fun h => { h with perst := false }

/-- R344: a function-level reset. -/
def functionReset (p : Nat) (s : State) : State := raise Src.hstFlr p [w32 p] (event .hstEvt 0 19 (configDefaults p s))

/-- R344, R362: a link in L0 leaves it without a reset. -/
def linkDown (p : Nat) (training : Word) (s : State) : State :=
  if (hostPort s p).l0 then
    raise Src.hstLinkDown p [w32 p, training] (event .hstEvt 0 18 (count .hstPortCnt p 15 0 1 (linkOff p s)))
  else s

/-- The port itself takes its link down: its domain leaves ON (R344), or isolation takes effect (R312). -/
def portOff (p : Nat) (s : State) : State := linkDown p (Config.trainingState p) s

/-- A port's link may train: domain ON, PERST_N released, not isolated (R312, R344). -/
def linkAble (s : State) (p : Nat) : Bool := domOn s (50 + p) && !(hostPort s p).perst && !isIsolated s (.hostPort p)

/-- R342, R344: a link has trained. -/
def linkUp (p width speed : Nat) (s : State) : State :=
  if linkAble s p && !(hostPort s p).l0 then s.modPort p fun h => { h with l0 := true, width := width, speed := speed } else s

/-- The address in the header of a request, its first DWORD in the highest bits. PRESUMED: four DWORDs with bit 29 of the first, the address then in the
last two, else in the third, from the PCI Express Base Specification that R342 names. -/
def headerAddress (header : BitVec 128) : Nat :=
  if header.getLsbD 125 then (header.extractLsb' 0 64).toNat else (header.extractLsb' 32 32).toNat

/-- R344: an uncorrectable error reported through AER; its header is logged unless one is held. -/
def aerUncorr (p : Nat) (status : Word) (header : BitVec 128) (s : State) : State :=
  raise Src.hstAerUncorr p ([w32 p, status] ++ cap64 (headerAddress header)) (event .hstEvt 0 17 (s.modPort p fun h => { h with
    aerUncorr := h.aerUncorr ||| status, aerLog := h.aerLog <|> some (status, header) }))

/-- R362: a correctable error reported through AER. -/
def aerCorr (p : Nat) (status : Word) (s : State) : State :=
  event .hstEvt 0 16 (count .hstPortCnt p 31 16 1 (s.modPort p fun h => { h with aerCorr := h.aerCorr ||| status }))

/-! ### Configuration space (R342 to R344) -/

/-- R1, R342: a word of a port's configuration header, where the spec gives its content. PRESUMED: the offsets, from the PCI Express Base
Specification that R342 names: identifiers, command and status, class and revision, subsystem, interrupt pin. -/
def configHeader (s : State) (p o : Nat) : Option Word :=
  match o with
  | 0x00 => some (mkFld 31 16 0x4160 ||| mkFld 15 0 0x1DAF)
  | 0x04 => some (mkFld 20 20 1 ||| mkFld 2 2 (hostPort s p).bme.toNat)
  | 0x08 => some (mkFld 31 8 0x118000 ||| mkFld 7 0 0x11)
  | 0x2C => some (mkFld 31 16 p ||| mkFld 15 0 0x1DAF)
  | 0x3C => some 0
  | _ => none

/-- The Advanced Error Reporting capability (R342): the fields that the PCI Express Base Specification requires, ECRC and the header log. -/
structure AerCapability where
  uncorrStatus : Word
  uncorrMask : Word
  uncorrSeverity : Word
  corrStatus : Word
  corrMask : Word
  /-- The number of the lowest status bit of the error whose header is logged. -/
  firstError : Nat
  ecrcGenerate : Bool
  ecrcCheck : Bool
  /-- The four DWORDs of the header log. -/
  headerLog : List Word
  deriving DecidableEq, Repr

/-- R342: a port's error reporting. PRESUMED: masks and severities at the defaults of the PCI Express Base Specification, since no row writes them. -/
def aerCapability (h : HostPort) : AerCapability where
  uncorrStatus := h.aerUncorr
  uncorrMask := 0x00400000
  uncorrSeverity := 0x00462030
  corrStatus := h.aerCorr
  corrMask := 0x0000E000
  firstError := match h.aerLog with | some (w, _) => ((List.range 32).find? (bit w)).getD 0 | none => 0
  ecrcGenerate := true
  ecrcCheck := true
  headerLog := (List.range 4).map (fun i => match h.aerLog with | some (_, x) => x.extractLsb' (96 - 32 * i) 32 | none => 0)

/-- What R342 says of a port's capabilities. -/
structure Capabilities where
  /-- The power states of Power Management, and whether it signals PME. -/
  powerStates : List Nat
  pme : Bool
  powerState : Nat
  msixVectors : Nat
  msixTable : Nat
  msixPba : Nat
  aer : AerCapability
  serial : BitVec 64
  secondaryPcie : Bool
  physicalLayer16 : Bool
  laneMargining : Bool
  maxPayload : Nat
  maxWidth : Nat
  maxSpeed : Nat
  functionReset : Bool
  deriving DecidableEq, Repr

/-- R342, R346: a port's capabilities, and no others: D0 and D3hot without PME; 32 MSI-X vectors with their table and array in BAR0; the errors that it has
logged; one Device Serial Number on both ports; Secondary PCI Express, Physical Layer 16.0 GT/s and Lane Margining at the Receiver; 512 bytes of payload;
four lanes at 16.0 GT/s (SPEED 4); function-level reset. -/
def capabilities (s : State) (p : Nat) : Capabilities where
  powerStates := [0, 3]
  pme := false
  powerState := (hostPort s p).dstate
  msixVectors := 32
  msixTable := 0x8000
  msixPba := 0x9000
  aer := aerCapability (hostPort s p)
  serial := Config.serialNumber
  secondaryPcie := true
  physicalLayer16 := true
  laneMargining := true
  maxPayload := 512
  maxWidth := 4
  maxSpeed := 4
  functionReset := true

/-- A vector that becomes masked keeps a due message as its pending bit; one that becomes unmasked has its pending message due (R351). -/
def VecState.settle (masked : Bool) (x : VecState) : VecState :=
  if masked then { x with pba := x.pba || x.due, due := false } else { x with due := x.due || x.pba, pba := false }

/-- A port's vectors follow their masks. -/
def HostPort.settle (h : HostPort) : HostPort := { h with vectors := h.vectors.map (fun e => (e.1, e.2.settle (vecMasked h e.1))) }

/-- R343, R344, R346: a configuration write of Bus Master Enable, MSI-X Enable and Function Mask and the power state reaches a port over its link. -/
def pcieConfigWrite (p : Nat) (bme msix mask : Bool) (d3 : Bool) (s : State) : State :=
  if (hostPort s p).l0 then
    s.modPort p fun h => HostPort.settle { h with bme := bme, msixEn := msix, fnMask := mask, dstate := if d3 then 3 else 0 }
  else s

/-! ### MSI-X (R346, R351) -/

/-- Reset contents of a word of the MSI-X table: vector control masked, the rest zero. -/
def msixBlank (o : Nat) : Word := if o % 16 = 12 then 1 else 0

/-- A word of a port's MSI-X table. -/
def msixWord (hp : HostPort) (o : Nat) : Word := smGet (msixBlank o) hp.msixTable o

/-- A write to a port's MSI-X table: of a vector control only the mask bit; a mask turns a due message into a pending one, an unmask
a pending one into a due one (R351). -/
def msixTableWrite (p o : Nat) (w : Word) (s : State) : State :=
  if o % 16 = 12 then
    let v := o / 16
    s.modPort p fun h => { h with
      msixTable := smPut 1 h.msixTable o (w &&& 1)
      vectors := smUpd .idle h.vectors v (VecState.settle (h.fnMask || bit w 0)) }
  else s.modPort p fun h => { h with msixTable := smPut 0 h.msixTable o w }

/-- The port can send a message of vector `v` now (R343, R351). -/
def messageDue (hp : HostPort) (v : Nat) : Bool :=
  let x := smGet .idle hp.vectors v
  x.due && !x.holdoff && hp.msixEn && hp.bme && hp.l0 && !vecMasked hp v

/-- R351: the message of a vector is written to host memory; the merge time begins. -/
def msixMessage (p v : Nat) (s : State) : State :=
  if messageDue (hostPort s p) v then
    let hold := fld (cell s .hstIrqHoldoff p) 15 0 != 0
    s.modPort p fun h => { h with
      vectors := smUpd .idle h.vectors v (fun x => { x with due := false, holdoff := hold })
      msgs := ⟨(msixWord h (16 * v + 4)).toNat * 2 ^ 32 + (msixWord h (16 * v)).toNat, [msixWord h (16 * v + 8)]⟩ :: h.msgs }
  else s

/-- R351: the merge time after a message has passed: the events merged in it send one message. -/
def holdoffExpiry (p v : Nat) (s : State) : State :=
  msixMessage p v (s.modPort p fun h => { h with vectors := smUpd .idle h.vectors v (fun x => { x with holdoff := false }) })

/-! ### The window onto HBM (R196, R334) -/

/-- QA of a byte of a port's BAR4. -/
def windowQa (s : State) (p o : Nat) : Nat := fld (hostPort s p).hwinPage 3 0 * 2 ^ 32 + o

/-- R196: a region in which window writes are performed: the image area and host scratch. -/
def windowWritable (a : Nat) : Bool := decide (qaImage ≤ a) && decide (a < qaReserve)

/-- The granules that `n` bytes from QA `a` touch. -/
def granulesOf (a n : Nat) : List Nat := (List.range ((a + n - 1) / 4096 + 1 - a / 4096)).map (a / 4096 + ·)

/-- R196: what a window read of a byte returns. -/
def windowByte (s : State) (a : Nat) : Byte :=
  if !qaReachable s a then 0xFF
  else if qaReserve ≤ a ∨ !smGet false s.hbm.written (a / 4096) then 0
  else hbmByte s.hbm.bytes a

/-- R196: what a window read of a granule sets in QRY_HWIN_STAT. -/
def windowSeen (g : Nat) (s : State) : State :=
  if !qaReachable s (4096 * g) then event .qryHwinStat 0 18 s
  else if smGet false s.hbm.written g then s
  else
    let s := if bit (cell s .qryHwinStat) 16 then s else setCell .qryHwinAddr 0 0 (w32 g) s
    event .qryHwinStat 0 16 s

/-- R196, R334: a read of `n` bytes at BAR4 offset `o`. `errs`: the 32-byte bursts, by QA div 32, that HBM reports uncorrectable, with
their places. -/
def windowRead (p o n : Nat) (errs : List (Nat × HbmLoc)) (s : State) : State :=
  let a := windowQa s p o
  let hit := errs.filter (fun e => decide (a / 32 ≤ e.1) && decide (e.1 < (a + n + 31) / 32) && qaReachable s (32 * e.1) &&
    smGet false s.hbm.written (e.1 / 128))
  let data := (List.range n).map (fun i => if hit.any (fun e => e.1 == (a + i) / 32) then 0xFF else windowByte s (a + i))
  let s := forL (granulesOf a n) windowSeen s
  let s := forL hit (fun e t => hbmUncorrectable (32 * e.1) e.2 (1 + p) 1 (hbmSeen (32 * e.1) .uncorrectable e.2 (1 + p) 1 t)) s
  s.modPort p fun h => { h with windowData := data }

/-- The bytes of a write that a byte enable lets through, by QA. -/
def enabledBytes (a : Nat) : List (Option Byte) → List (Nat × Byte)
  | [] => []
  | none :: t => enabledBytes (a + 1) t
  | some b :: t => (a, b) :: enabledBytes (a + 1) t

/-- R196: the part of a window write that falls into one granule. -/
def windowWritePart (p g : Nat) (bs : List (Nat × Byte)) (first : Nat) (s : State) : State :=
  if !qaReachable s (4096 * g) then event .qryHwinStat 0 18 s
  else if windowWritable (4096 * g) then
    let s := forL bs (fun e t => t.hbmStore e.1 [e.2]) s
    s.modQry fun q => { q with refusedRun := q.refusedRun.filter (· ≠ p) }
  else
    let s := event .qryHwinStat 0 17 s
    if s.qry.refusedRun.contains p then s
    else raise Src.qryHwinRefused p (w32 p :: cap64 first) (s.modQry fun q => { q with refusedRun := p :: q.refusedRun }) .none (1 + p) 2

/-- R196: a write at BAR4 offset `o`: its bytes, none where the byte enable is off. -/
def windowWrite (p o : Nat) (data : List (Option Byte)) (s : State) : State :=
  let a := windowQa s p o
  let bs := enabledBytes a data
  forL (granulesOf a data.length) (fun g t =>
    windowWritePart p g (bs.filter (fun e => e.1 / 4096 == g)) (max a (4096 * g)) t) s

/-! ### What the registers show (R362) -/

/-- HST_STAT. -/
def hstStatRead (s : State) : Word :=
  mkFld 3 3 s.btr.posWritten.val.toNat ||| mkFld 2 2 s.btr.devIdWritten.val.toNat ||| mkFld 1 1 s.port1.l0.toNat ||| mkFld 0 0 s.port0.l0.toNat

/-- HST_PORT_STAT. -/
def hstPortStatRead (s : State) (p : Nat) : Word :=
  let h := hostPort s p
  mkFld 15 15 h.msixEn.toNat ||| mkFld 14 14 h.bme.toNat ||| mkFld 13 12 h.dstate ||| mkFld 11 8 h.width ||| mkFld 7 4 h.speed |||
    mkFld 3 3 h.perst.toNat ||| mkFld 2 2 h.l0.toNat

/-- HST_CB: HOLD, and PENDING_ANY while any course-buffered value or binding waits (R353). -/
def hstCbRead (s : State) : Word :=
  (cell s .hstCb) ||| mkFld 31 31 (s.btr.cb.any (fun e => e.2.waiting) || !s.bindPending.isEmpty).toNat

/-- The low word of the pending bit array (R346). -/
def pbaWord (hp : HostPort) : Word := w32 ((hp.vectors.filter (fun e => e.2.pba)).foldl (fun n e => n + 2 ^ e.1) 0)

end Sys2Proof.Machine
end

