-- ==== Sys2Proof/Machine/Voting.lean ====
section
/-!
DEFINITION. The Buttress (R336 to R339): items and their numbers, the vote at a course tick, injection.
-/
namespace Sys2Proof.Machine

/-- The course-buffered registers in increasing BAR0 offset (R336): item 0x1000 + k is entry k. -/
def cbOrder : List (Reg × Nat) :=
  [(.quoDomainSel, 0)] ++
  (List.range 32).flatMap (fun b =>
    (if b < 8 then (List.range 8).map (fun j => (Reg.bedPpol, 8 * b + j)) else []) ++ [(.ashTgCfg, b), (.ashCalSel, b)]) ++
  (List.range 8).map (fun i => (Reg.mrtWindow, i)) ++
  (List.range 8).flatMap (fun i => [(Reg.mrtClassMapLo, i), (.mrtClassMapHi, i)]) ++
  (List.range 48).flatMap (fun t => [(Reg.mrtStreamCfg, t), (.mrtStreamPmaskLo, t), (.mrtStreamPmaskHi, t)]) ++
  (List.range 48).map (fun t => (Reg.uplStreamMap, t)) ++ [(.lntLatency, 0)] ++
  (List.range 8).map (fun i => (Reg.lntLane, i)) ++ (List.range 64).map (fun i => (Reg.lntRegion, i)) ++
  (List.range 64).map (fun i => (Reg.lntRegOfs, i)) ++ (List.range 32).map (fun i => (Reg.lntPair, i)) ++
  (List.range 12).flatMap (fun i => [(Reg.lntCountLo, i), (.lntCountHi, i)])

/-- R337, R338: the vote of one item: its copies after it, and the copy that was outvoted, 3 for no majority. `largest`: where no two
copies are equal the item takes the largest of the three. -/
def voteItem {n : Nat} (largest : Bool) (t : Tri n) : Tri n × Option Nat :=
  if t.c0 = t.c1 then (if t.c0 = t.c2 then (t, none) else (.of t.c0, some 2))
  else if t.c0 = t.c2 then (.of t.c0, some 1)
  else if t.c1 = t.c2 then (.of t.c1, some 0)
  else (.of (if largest then BitVec.ofNat n (max t.c0.toNat (max t.c1.toNat t.c2.toNat)) else t.val), some 3)

/-- R337, R338: what a vote's result leaves: counts, BTR_LAST and reports; the first outvote of a tick raises. -/
def voteResult (item c : Nat) (r : Option Nat) (a : State × Bool) : State × Bool :=
  match r with
  | none => a
  | some k =>
    let s := setCell .btrLastCourse 0 0 (w32 c) (setCell .btrLast 0 0 (mkFld 31 16 item ||| mkFld 1 0 k) a.1)
    if k = 3 then (raise Src.btrNoMajority 0 (w32 item :: capCourse c) (event .btrEvt 0 17 s), a.2)
    else
      let s := count .btrOutvotes k 31 0 1 s
      if a.2 then (s, true)
      else (raise Src.btrOutvote 0 ([w32 item, w32 k] ++ capCourse c) (event .btrEvt 0 16 s), true)

/-- Step 1 of R9: the Buttress votes every item: the machine with the copies that the vote leaves, and each item's result. -/
def btrVote (s : State) : State × List (Nat × Option Nat) :=
  let b := s.btr
  let v0 := voteItem true b.pos
  let v1 := voteItem true b.course
  let v2 := voteItem true b.orbit
  let v3 := voteItem true b.expected
  let l0 := voteItem false b.devIdWritten
  let l1 := voteItem false b.posWritten
  let l2 := voteItem false b.cfgLock
  let l3 := voteItem false b.gaugeOut
  let cb := b.cb.map (fun e => (e.1, voteItem false e.2.copies, e.2.waiting))
  let odd := cb.filter (fun e => e.2.1.2.isSome)
  let named := if odd.isEmpty then [] else
    (cbOrder.zipIdx.filterMap (fun (x : (Reg × Nat) × Nat) =>
      (odd.find? (fun e => e.1 == regOff x.1.1 x.1.2)).map (fun e => (0x1000 + x.2, e.2.1.2))))
  (s.modBtr fun b => { b with
    pos := v0.1, course := v1.1, orbit := v2.1, expected := v3.1, devIdWritten := l0.1, posWritten := l1.1, cfgLock := l2.1, gaugeOut := l3.1
    cb := cb.map (fun e => (e.1, ⟨e.2.1.1, e.2.2⟩)) },
   [(0, v0.2), (1, v1.2), (2, v2.2), (3, v3.2), (0x100, l0.2), (0x101, l1.2), (0x102, l2.2), (0x103, l3.2)] ++ named)

/-- R337, R338: the vote's counts and reports, at the tick that starts course `c`. -/
def btrReports (c : Nat) (results : List (Nat × Option Nat)) (s : State) : State :=
  (results.foldl (fun a x => voteResult x.1 c x.2 a) (s, false)).1

/-- Invert one bit of one copy. -/
def flipCopy {n : Nat} (copy b : Nat) (t : Tri n) : Tri n :=
  let m : BitVec n := 1 <<< b
  if copy = 0 then { t with c0 := t.c0 ^^^ m } else if copy = 1 then { t with c1 := t.c1 ^^^ m } else { t with c2 := t.c2 ^^^ m }

/-- R339: an armed injection inverts its bit immediately after step 1. -/
def btrInject (s : State) : State :=
  match s.btr.inject with
  | none => s
  | some j =>
    if !bit (cell s .btrCtl) 0 then s else
    let s := s.modBtr fun b => { b with inject := none }
    match j.item with
    | 0 => s.modBtr fun b => { b with pos := flipCopy j.copy j.bit b.pos }
    | 1 => s.modBtr fun b => { b with course := flipCopy j.copy j.bit b.course }
    | 2 => s.modBtr fun b => { b with orbit := flipCopy j.copy j.bit b.orbit }
    | 3 => s.modBtr fun b => { b with expected := flipCopy j.copy j.bit b.expected }
    | 0x100 => s.modBtr fun b => { b with devIdWritten := flipCopy j.copy j.bit b.devIdWritten }
    | 0x101 => s.modBtr fun b => { b with posWritten := flipCopy j.copy j.bit b.posWritten }
    | 0x102 => s.modBtr fun b => { b with cfgLock := flipCopy j.copy j.bit b.cfgLock }
    | 0x103 => s.modBtr fun b => { b with gaugeOut := flipCopy j.copy j.bit b.gaugeOut }
    | n =>
      match cbOrder[n - 0x1000]? with
      | some x => if n < 0x1000 then s else
          let r := cbReg s x.1 x.2
          setCb x.1 x.2 { r with copies := flipCopy j.copy j.bit r.copies } s
      | none => s

/-- A write of BTR_INJECT (R339). -/
def btrInjectWrite (w : Word) (s : State) : State :=
  if bit (cell s .btrCtl) 0 && bit w 15 && decide (fld w 7 6 < 3) then
    s.modBtr fun b => { b with inject := some ⟨fld w 31 16, fld w 7 6, fld w 5 0⟩ }
  else s

/-- A write of MEM_INJECT (R339). -/
def memInjectWrite (w : Word) (s : State) : State :=
  if bit (cell s .memCtl) 0 && bit w 19 then
    { s with mem := { s.mem with inject := some ⟨fld w 31 26, fld w 25 20, fld w 6 0, if bit w 18 then some (fld w 14 8) else none⟩ } }
  else s

end Sys2Proof.Machine
end

