-- ==== Sys2Proof/Machine/Regs.lean ====
section
/-!
DEFINITION. The register file: ownership (R347, R348), what a write does (R2, R352 to R361), snapshots (R354, R357), counters cleared, and
each register's own effect.
-/
namespace Sys2Proof.Machine

/-! ### Snapshots (R357) -/

/-- A snapshot bank of a port. -/
def snapBank (s : State) (p b : Nat) : SnapBank := smGet .reset (hostPort s p).banks b

/-- Change a snapshot bank of a port. -/
def modBank (p b : Nat) (f : SnapBank → SnapBank) (s : State) : State :=
  s.modPort p fun h => { h with banks := smUpd .reset h.banks b f }

/-- R357: a selector write starts a capture: VALID clears, and a capture under way is abandoned. -/
def snapBegin (p b : Nat) (w : SnapWait) (s : State) : State := modBank p b (fun k => { k with valid := false, waiting := some w }) s

/-- R357: data words, SEL, SNAP_SEQ and VALID take a capture. -/
def snapTake (p b sel : Nat) (data : List Word) (s : State) : State :=
  modBank p b (fun k => ⟨(k.seq + 1) % 65536, sel, true, data, none⟩) s

/-- The selector that a value written to a bank's selector register names, none where the bank's table marks it as ignored. -/
def snapSelector (b : Nat) (w : Word) : Option Nat :=
  match b with
  | 0 => if fld w 2 0 ≤ 5 then some (fld w 2 0) else none
  | 1 => some (fld w 0 0)
  | 2 => if fld w 6 0 ≤ 71 then some (fld w 6 0) else none
  | 3 => if fld w 1 0 ≤ 1 then some (fld w 1 0) else none
  | 4 => if fld w 1 0 ≤ 1 then some (fld w 1 0) else none
  | 5 => if fld w 1 0 = 3 ∨ (fld w 1 0 = 0 ∧ 48 ≤ fld w 13 8) then none else some (fld w 1 0)
  | 6 => some 0
  | _ => if fld w 3 0 ≤ 7 then some (fld w 3 0) else none

/-- R357: a write of a bank's selector register; FLT_SNAP_SEQ for the collector's. -/
def snapSelect (p b : Nat) (w : Word) (s : State) : State :=
  match snapSelector b w with
  | some sel => snapBegin p b ⟨sel, w, none⟩ s
  | none => s

/-- Absolute time with its quality as R63 packs it. -/
def timeCapture (t : AbsTime) (q : Nat) (low : Word) : List Word :=
  [w32 (t.sec.toNat / 2 ^ 32), w32 t.sec.toNat, t.ns, mkFld 31 16 t.frac.toNat ||| mkFld 15 14 q, low]

/-- A course number as a snapshot's words: [55:32], [31:0]. -/
def courseCapture (c : Nat) : List Word := [mkFld 23 0 (c / 2 ^ 32), w32 c]

/-- R63. DESIGN CHOICE (log entry 162): the quality of selector 0 is that of the servo's state at the capture, not the worst of the course so far, which
QUO_STAT.QUALITY shows. -/
def quoSnapData (s : State) (sel : Nat) : List Word :=
  match sel with
  | 0 => timeCapture (nowTime s) (servoQuality s) 0
  | 1 => courseCapture (nowCourse s) ++ [w32 (nowBt s), 0, 0]
  | 2 => [mkFld 15 0 (nowOrbit s / 2 ^ 32), w32 (nowOrbit s), w32 (nowBtInOrbit s), 0, 0]
  | 3 => cap64 (s.quo.domA.offset.toNat) ++ [w32 s.quo.domA.offsetValid.toNat, 0, 0]
  | 4 => cap64 (s.quo.domB.offset.toNat) ++ [w32 s.quo.domB.offsetValid.toNat, 0, 0]
  | _ => timeCapture s.quo.tickTime s.quo.tickQuality (w32 (nowCourse s))

/-- R63, selector 6: a time stamp, or ID_VALID 0 from an empty queue (R53). -/
def stampCapture : Option TxStamp → List Word
  | some t => [mkFld 31 31 1 ||| mkFld 28 28 t.domain ||| mkFld 19 16 t.messageType ||| mkFld 15 0 t.sequenceId,
      w32 (t.time.sec.toNat / 2 ^ 32), w32 t.time.sec.toNat, t.time.ns, mkFld 31 16 t.time.frac.toNat]
  | none => [0, 0, 0, 0, 0]

/-- R200. -/
def qrySnapData (s : State) (sel : Nat) : List Word :=
  if sel = 0 then
    match s.qry.newest with
    | some p => courseCapture (historyStart s) ++ courseCapture p
    | none => [0, 0, 0, 0]
  else [w32 s.qry.writer, w32 (match s.qry.published with | c :: _ => firstStone (entryOf s c) | [] => 0), 0, 0]

/-- R90. -/
def bedSnapData (s : State) (g sel : Nat) : List Word :=
  match (lane s (8 * g + sel)).record with
  | some (r, c) => [w32 (recFld r 127 96), w32 (recFld r 95 64), w32 (recFld r 63 32), w32 (recFld r 31 0), w32 c]
  | none => [0, 0, 0, 0, 0]

/-- The data words of a capture, all taken in one core cycle. -/
def snapData (s : State) (b : Nat) (w : SnapWait) : List Word :=
  match w.data with
  | some d => d
  | none =>
    match b with
    | 0 => quoSnapData s w.sel
    | 1 => plbSnapData s w.sel
    | 2 => gauSnapData s w.sel
    | 3 => crsSnapData s w.sel
    | 4 => qrySnapData s w.sel
    | 5 => mrtSnapData s w.sel (fld w.word 13 8)
    | 6 => if w.sel = 0 then fltSnapSeq s w.word.toNat else fltSnapSrc s (fld w.word 11 0)
    | _ => bedSnapData s (b - 8) w.sel

/-- SNAPSHOT_CAPTURE (R357): the capture under way is taken; a search answers by QRY_FIND_DONE. -/
def snapCapture (p b : Nat) (s : State) : State :=
  match (snapBank s p b).waiting with
  | some w =>
    if b = 4 ∧ w.sel = 2 then s
    else
      let s := if b = 6 ∧ w.sel = 0 then logRead p w.word.toNat s else s
      snapTake p b w.sel (snapData s b w) s
  | none => s

/-- R53: QUO_TXQ_POP removes the oldest time stamp, which the popping port's bank captures with selector 6. -/
def txqPop (p : Nat) (s : State) : State :=
  let t := s.quo.txq.head?
  snapBegin p 0 ⟨6, 0, some (stampCapture t)⟩ (s.modQuo fun q => { q with txq := q.txq.tail })

/-- R200: a search: over the entries as they stand when it begins. -/
def findBegin (p : Nat) (ns : Word) (s : State) : State :=
  let h := hostPort s p
  let t := ((h.findHi.toNat * 2 ^ 32 + h.findLo.toNat) * 1000000000 + ns.toNat) * 65536
  let r := findCourse s t
  snapBegin p 4 ⟨2, ns, some (courseCapture r.1 ++ [w32 r.2, 0])⟩ s

/-- QRY_FIND_DONE (R200): the search's capture appears with selector 2. -/
def findDone (p : Nat) (s : State) : State :=
  match (snapBank s p 4).waiting with
  | some w => if w.sel = 2 then snapTake p 4 2 (snapData s 4 w) s else s
  | none => s

/-! ### Ownership (R347, R348) -/

/-- HST_OWNER.OWNER. -/
def owner (s : State) : Nat := fld (cell s .hstOwner) 1 0

/-- R354: the banked registers. -/
def isBanked : Reg → Bool
  | .quoSnapSel | .quoSnapStat | .quoSnapData | .plbSnapSel | .plbSnapStat | .plbSnapData | .gauSnapSel | .gauSnapStat | .gauSnapData
  | .bedSnapSel | .bedSnapStat | .bedSnapData | .crsSnapSel | .crsSnapStat | .crsSnapData | .qrySnapSel | .qrySnapStat | .qrySnapData
  | .mrtSnapSel | .mrtSnapStat | .mrtSnapData | .fltSnapSeq | .fltSnapSrc | .fltSnapStat | .fltSnapData
  | .qryFindHi | .qryFindLo | .qryFindNs | .qryHwinPage | .hstWho => true
  | _ => false

/-- BAR0 offset of a port's MSI-X table or pending bit array (R346). -/
def isMsix (off : Nat) : Bool := (decide (0x8000 ≤ off) && decide (off < 0x8200)) || (decide (0x9000 ≤ off) && decide (off < 0x9008))

/-- R347: the open set of port `p`. -/
def openSet (p off : Nat) : Bool :=
  isMsix off ||
    match regAt off with
    | some (r, i, _) =>
      isBanked r ||
        (match r with
          | .hstOwner | .fltAck | .fltAckSrc | .fltAckUpto => true
          | .hstIrqEn | .hstIrqHoldoff => i == p
          | .ldgCmd | .ldgRsp | .ldgMbSubmit | .ldgMbStat | .ldgMbAck => i / 4 == p
          | _ => false)
    | none => false

/-- R364: a BAR0 offset belongs to a mailbox of the other port, which alone may write there, whatever HST_OWNER holds. -/
def otherBox (p off : Nat) : Bool :=
  match regAt off with
  | some (.ldgCmd, i, _) | some (.ldgRsp, i, _) | some (.ldgMbSubmit, i, _) | some (.ldgMbStat, i, _) | some (.ldgMbAck, i, _) => i / 4 != p
  | _ => false

/-- R347, R364: port `p` may write at a BAR0 offset. -/
def mayWrite (s : State) (p off : Nat) : Bool := (owner s == 0 || owner s == p + 1 || openSet p off) && !otherBox p off

/-- R347, R348: a write that is refused. -/
def writeRefused (s : State) : State := event .hstEvt 0 20 (count .hstRefused 0 31 16 1 s)

/-- R345, R361: a bad access. -/
def badAccess (s : State) : State := event .hstEvt 0 21 (count .hstRefused 0 15 0 1 s)

/-- BAR0 offset of the register that an access addresses at offset `a` of BAR0, or of BAR2, whose DWORDs stand for single bits (R361). -/
def accessOff (bits : Bool) (a : Nat) : Nat := if bits then 4 * (a / 128) else a

/-- R345: a BAR0 or BAR2 request of a wrong length or byte-enable pattern: a read returns all ones in each of its DWORDs, a write is discarded. Its
ownership is checked before that (R347). -/
def badRequest (x : BarAccess) (s : State) : State :=
  if x.write then
    if mayWrite s x.port (accessOff x.bits x.offset.toNat) then badAccess s else writeRefused s
  else (badAccess s).modPort x.port fun h => { h with badData := List.replicate x.dwords.toNat 0xFFFFFFFF }

/-- R348: a port is absent: its domain not ON, or its link not in L0. -/
def portAbsent (s : State) (p : Nat) : Bool := !domOn s (50 + p) || !(hostPort s p).l0

/-- R348: a write of HST_OWNER. -/
def ownerWrite (p : Nat) (w : Word) (s : State) : State :=
  let o := owner s
  if o = 0 ∨ o = p + 1 ∨ portAbsent s (o - 1) then
    let n := fld w 1 0
    if n = 3 ∨ n = o then s else event .hstEvt 0 23 (setCell .hstOwner 0 0 (mkFld 1 0 n) s)
  else writeRefused s

/-! ### Locks and write-once fields (R358 to R360) -/

/-- R359: a write that leaves a locked value unchanged raises LOCK_WRITE: address, port, attempted value. -/
def lockWrite (p off : Nat) (w : Word) (s : State) : State :=
  raise Src.lockWrite p [w32 off, w32 p, w] (event .hstEvt 0 22 s) .none (1 + p) 2

/-- The lock bit that holds the LK fields of a register entry is set (R358). -/
def lockSet (s : State) (r : Reg) (i : Nat) : Bool :=
  match r with
  | .fltSrcCfg => s.btr.cfgLock.val == 1
  | _ => s.btr.gaugeOut.val == 1 && gauLocked s r i

/-- R360, R446: DEVICE_ID or INSTALL_POSITION has been written: an IDENT event is due. -/
def identWritten (s : State) : State := cnsPost (cnsDueNow s 2 (deviceId s) (cell s .hstInstallPos).toNat) s

/-- R359: a write of a ONCE register. -/
def onceWrite (p : Nat) (r : Reg) (w : Word) (s : State) : State :=
  let done := if r = .hstDeviceId then s.btr.devIdWritten.val == 1 else s.btr.posWritten.val == 1
  if done then lockWrite p (regOff r) w s
  else
    let s := setCell r 0 0 w s
    identWritten (s.modBtr fun b =>
      if r = .hstDeviceId then { b with devIdWritten := b.devIdWritten.move 1 } else { b with posWritten := b.posWritten.move 1 })

/-- R359: the lock bit in bit `b` of a register takes a write: 1 sets it, 0 to a set one raises LOCK_WRITE. -/
def lockBitWrite (p off b : Nat) (w : Word) (isSet : Bool) (set : State → State) (s : State) : State :=
  if bit w b then set s else if isSet then lockWrite p off w s else s

/-! ### Counters cleared -/

/-- Clear entries 0 to `n` − 1 of a register. -/
def clearRegs (r : Reg) (n : Nat) (s : State) : State := forN n (fun i => setCell r i 0 0) s

/-- R143. -/
def engClear (e : Nat) (s : State) : State :=
  forL [Reg.ashInDrop, .ashCntUncal, .ashCntShift, .ashStraggle, .ashCntWave, .ashCheckErr] (fun r => setCell r e 0 0) s

/-- R170: the coder's counters. -/
def molClear (m : Nat) (s : State) : State :=
  forL [Reg.molOverrun, .molMismatch, .molNoshrink, .molBigSlot, .molBlocks] (fun r => setCell r m 0 0) s

/-- R170: MIN_FREE starts anew from the present free count. -/
def crsClear (s : State) : State :=
  let s := setCell .crsEarlyRel 0 0 0 (clearRegs .crsLateRec 32 (clearRegs .crsMemErr 4 (clearRegs .crsOosDrop 4 (clearRegs .crsCapDrop 4 s))))
  forN 4 (fun m t => modCell .crsFree m 0 (fun w => setFld w 31 16 (fld w 15 0)) t) s

/-- R199: QRY_DEPTH_MIN starts anew from the present depth. -/
def qryClear (s : State) : State :=
  let s := forL [Reg.qryPinBreaks, .qryDamaged, .qryReadCrc] (fun r => setCell r 0 0 0) s
  (setCell .qryDepthMin 0 0 (w32 (qryDepth s)) s).modQry fun q => { q with minCleared := true }

/-- R231: MIN_FREE starts anew from the present free count. -/
def mrtClear (s : State) : State :=
  let s := forL [Reg.mrtCntAccept, .mrtCntRecall, .mrtCntLost, .mrtCntRefused, .mrtCntGap, .mrtCntDisc, .mrtCntIgnored] (fun r => setCell r 0 0 0) s
  let s := forL [Reg.mrtUnitCnt, .mrtUnitTrunc, .mrtUnitLatepath, .mrtUnitCellerr] (fun r => clearRegs r 4) s
  let s := clearRegs .mrtStreamLate 48 s
  setCell .mrtPoolStat 0 0 (mkFld 31 16 (freeCells s)) s

/-- R254. -/
def lntClear (s : State) : State :=
  forL [Reg.lntCntAdmit, .lntCntOver, .lntCntLateTap, .lntCntSat, .lntCntSkip, .lntCntFrames] (fun r => setCell r 0 0 0) s

/-- R320. -/
def fltClear (s : State) : State :=
  (setCell .fltLogLost 0 0 0 s).modFlt fun f => { f with
    srcs := (f.srcs.map (fun e => (e.1, { e.2 with recovered := 0, conseq := 0 }))).filter (fun e => decide (e.2 ≠ .reset)) }

/-- R340. -/
def memClear (s : State) : State :=
  let s := clearRegs .memCntUncorr 11 (clearRegs .memCntCorr 11 s)
  forL [Reg.memRestoreCnt, .memHbmCnt, .memScrubStat] (fun r => setCell r 0 0 0) s

/-- R89: BED_LANE_ERR and BED_LANE_CNT of a group. -/
def grpClear (g : Nat) (s : State) : State := forN 8 (fun j t => setCell .bedLaneCnt (8 * g + j) 0 0 (setCell .bedLaneErr (8 * g + j) 0 0 t)) s

/-- R119, R120: the counters, events and offence count of partners 8g to 8g + 7. -/
def partnersClear (g : Nat) (s : State) : State :=
  forN 8 (fun k t =>
    let p := 8 * g + k
    modPartner p (fun x => { x with history := 0, offences := 0 })
      (clearFld .bedPevt p 20 16 (forL [Reg.bedPcntFrame, .bedPcntCap, .bedPcntSpan] (fun r => setCell r p 0 0) t))) s

/-! ### The effect of a write -/

/-- The bits of a register that an RW or LK field holds. -/
def storeMask (r : Reg) : Word := regMask r .rw ||| regMask r .lk

/-- What a register's fields do once written: `w` as written, `old` the stored word before. RW fields hold their new value already. -/
def writeEffect (p : Nat) (r : Reg) (i j : Nat) (old w : Word) (s : State) : State :=
  match r with
  | .ldgMbSubmit => if bit w 0 then ldgSubmit i s else s
  | .ldgMbAck => ldgAck i (fld w 15 0) s
  | .fltCtl =>
    let s := if bit w 31 then fltClear s else s
    lockBitWrite p (regOff r) 24 w (s.btr.cfgLock.val == 1) (fun t => t.modBtr fun b => { b with cfgLock := b.cfgLock.move 1 }) s
  | .hstLock => lockBitWrite p (regOff r) 0 w (s.btr.gaugeOut.val == 1) (fun t => t.modBtr fun b => { b with gaugeOut := b.gaugeOut.move 1 }) s
  | .fltAck => fltAckWrite w s
  | .fltAckUpto => fltAckUptoWrite w s
  | .fltDpCtl => fltDpCtlWrite w s
  | .fltSnapSeq => snapBegin p 6 ⟨0, w, none⟩ s
  | .fltSnapSrc => snapBegin p 6 ⟨1, w, none⟩ s
  | .btrCtl => if bit w 31 then clearRegs .btrOutvotes 3 s else s
  | .btrInject => btrInjectWrite w s
  | .quoNominal =>
    let n := fld w 15 0
    if 30000 ≤ n ∧ n ≤ 50000 then s.modQuo (fun q => { q with nominalHeld := some n }) else setCell r 0 0 old s
  | .quoOrbit => if fld w 15 0 = 0 then setCell r 0 0 old s else s
  | .quoTxqPop => if bit w 0 then txqPop p s else s
  | .quoSnapSel => snapSelect p 0 w s
  | .quoTxCtl => quoTxCtlWrite w s
  | .quoDlPhase => setAdvance i (dlPhaseAdvance w) s
  | .quoPdelay => pdelayWrite i s
  | .plbCtl => plbCtlWrite w s
  | .plbSnapSel => snapSelect p 1 w s
  | .plbSig => plbSigWritten i old s
  | .gauCtl => gauCtlWritten old s
  | .gauBlank => blankSeen s
  | .gauSnapSel => snapSelect p 2 w s
  | .gauChCfg => chCfgWritten i old s
  | .gauCalGain => gauGainWritten i j s
  | .gauOutCfg => outCfgWritten i s
  | .bedGrpCfg => grpCfgWritten i s
  | .bedGrpCtl => if bit w 0 then grpClear i s else s
  | .bedSnapSel => snapSelect p (8 + i) w s
  | .bedPclr => if bit w 0 then partnersClear i s else s
  | .bedLaneCfg => laneCfgWritten i old s
  | .bedDlCfg => dlCfgWritten i s
  | .bedDlFc => dlFcWrite i w s
  | .ashEngCtl => if bit w 0 then engClear i s else s
  | .crsCtl => if bit w 31 then crsClear s else s
  | .crsSnapSel => snapSelect p 3 w s
  | .molCtl => if bit w 0 then molClear i s else s
  | .qryCtl => if bit w 31 then qryClear s else s
  | .qryHwinPage => if fld w 3 0 ≤ 11 then s.modPort p (fun h => { h with hwinPage := mkFld 3 0 (fld w 3 0) }) else s
  | .qryFindHi => s.modPort p (fun h => { h with findHi := w })
  | .qryFindLo => s.modPort p (fun h => { h with findLo := w })
  | .qryFindNs => findBegin p w s
  | .qrySnapSel => snapSelect p 4 w s
  | .memCtl => if bit w 31 then memClear s else s
  | .memInject => memInjectWrite w s
  | .mrtAccCtl =>
    let s := if bit w 3 || (bit w 0 && !bit old 0) then accResync s else s
    throttle (if bit w 2 then mrtClear s else s)
  | .mrtThrotPool | .mrtThrotTable | .mrtThrotSelLo | .mrtThrotSelHi | .mrtStreamWm => throttle s
  | .mrtSnapSel => snapSelect p 5 w s
  | .mrtStreamCtl => if bit w 0 then throttle (flushStream i s) else s
  | .uplLinkCfg =>
    let s := if fld w 6 4 + fld w 11 8 > 16 then modCell r i 0 (fun x => setFld x 11 8 (16 - fld w 6 4)) s else s
    startBlocks (uplCheck i s)
  | .uplRlCfg => retCheck i s
  | .lntCtl => if bit w 31 then lntClear s else s
  | _ => s

/-- Registers whose RW fields have a home of their own. -/
def ownHome : Reg → Bool
  | .hstOwner | .hstLock | .qryHwinPage | .qryFindHi | .qryFindLo => true
  | _ => false

/-- R353, R268: a write of a course-buffered register; a stream map that may not change refuses it. -/
def cbWrite (r : Reg) (i : Nat) (w : Word) (s : State) : State :=
  if r = .uplStreamMap ∧ !mapWritable s i then event .uplEvt 0 19 s
  else setCb r i ((cbReg s r i).write (w &&& regMask r .cb)) s

/-- R355: a write of an SQC register: with the current SEQ it clears every event bit. -/
def sqcWrite (r : Reg) (i : Nat) (w : Word) (s : State) : State :=
  modCell r i 0 (fun c => if fld w 15 0 = fld c 15 0 then c &&& ~~~ (regMask r .sqc &&& 0xFFFF0000) else c) s

/-- A write taken by a register entry (R2, R352, R353, R355, R359). -/
def writeReg (p : Nat) (r : Reg) (i j : Nat) (w : Word) (s : State) : State :=
  if regMask r .sqc ≠ 0 then sqcWrite r i w s
  else if regMask r .once ≠ 0 then onceWrite p r w s
  else if regMask r .cb ≠ 0 then cbWrite r i w s
  else if r = .hstOwner then ownerWrite p w s
  else
    let locked := regMask r .lk ≠ 0 ∧ lockSet s r i = true
    let s := if locked then lockWrite p (regOff r i j) w s else s
    let mask := if locked then regMask r .rw else storeMask r
    let mask := if r = .fltCtl then mask &&& ~~~ fldMask 24 24 else mask
    let old := cell s r i j
    let s := if ownHome r then s else setCell r i j (mergeMask mask old w) s
    writeEffect p r i j old (if locked then mergeMask (~~~ regMask r .lk) old w else w) s

/-! ### Writes through BAR0 and BAR2 -/

/-- The KEEP bits of entry `i` of a register: PWR_DOM_FAIL[2] has 16 domains (R431). -/
def keepMask (r : Reg) (i : Nat) : Word := if r = .pwrDomFail ∧ i = 2 then 0xFFFF0000 else regMask r .keep

/-- R3: a write of `w` changes a KEEP bit. An SQC register ignores its other bits (R355). -/
def keepChanged (r : Reg) (i : Nat) (w : Word) : Bool := regMask r .sqc == 0 && decide (w &&& keepMask r i ≠ 0)

/-- A BAR0 write of one DWORD (R345 to R359), its ownership checked before every other rule. -/
def hostWrite (p off : Nat) (w : Word) (s : State) : Host.Outcome State Fault Refusal :=
  if !mayWrite s p off then .next (writeRefused s)
  else if isMsix off then .next (if off < 0x9000 then msixTableWrite p (off - 0x8000) w s else s)
  else
    match regAt off with
    | none => .next s
    | some (r, i, j) => if keepChanged r i w then .refused .keepFieldChanged else .next (writeReg p r i j w s)

/-- The access code of bit `b` of a register. -/
def bitAccess (r : Reg) (b : Nat) : Acc := ((r.fields.find? (fun f => decide (f.lo ≤ b) && decide (b ≤ f.hi))).map (·.acc)).getD .keep

/-- What the writable bits of a register hold, for a write that changes one of them. -/
def writableBits (s : State) (r : Reg) (i j : Nat) : Word :=
  match r with
  | .hstLock => 0
  | .qryHwinPage | .qryFindHi | .qryFindLo => 0
  | .fltCtl => cell s r i j &&& storeMask r ||| mkFld 24 24 s.btr.cfgLock.val.toNat
  | _ => cell s r i j &&& storeMask r

/-- R361, R477: a write through the bit-alias window at BAR2 offset `a`. -/
def aliasWrite (p a : Nat) (w : Word) (s : State) : State :=
  let off := accessOff true a
  let b := a % 128 / 4
  if isMsix off then s
  else if !mayWrite s p off then writeRefused s
  else
    match regAt off with
    | none => s
    | some (r, i, j) =>
      match bitAccess r b with
      | .rw | .lk => writeReg p r i j (setBit (writableBits s r i j) b (bit w 0)) s
      | .cb => writeReg p r i j (setBit (cbReg s r i).pend b (bit w 0)) s
      | .wo => if bit w 0 then writeReg p r i j (setBit (writableBits s r i j) b true) s else s
      | .once => badAccess s
      | .ro | .keep | .sqc => s

end Sys2Proof.Machine
end

