-- ==== Sys2Proof/Machine/Power.lean ====
section
/-!
DEFINITION. Power domains, measurements, the protective trip and foundation reset (18).
-/
namespace Sys2Proof.Machine

/-- Change the power controller's state. -/
def State.modPwr (f : Power → Power) (s : State) : State := { s with pwr := f s.pwr }

/-- Change one power domain. -/
def modDomain (n : Nat) (f : PowerDomain → PowerDomain) (s : State) : State :=
  s.modPwr fun p => { p with domains := smUpd .off p.domains n f }

/-- The block has power and is out of reset: it acts on commands (R424, R426). -/
def isUp (s : State) : Bool := s.pwr.trip.isNone && !s.pwr.inReset

/-- A command has no effect on a Portik that is off or in foundation reset. -/
def whenUp (f : State → State) (s : State) : State := if isUp s then f s else s

/-- The number of a domain state (PWR_DOM_STAT). -/
def PowerPhase.code : PowerPhase → Nat
  | .off => 0
  | .hold => 1
  | .on => 2

/-! ### A change of a domain (R418 to R421) -/

/-- What a domain's block does when the domain begins to leave ON; `hold`: for HOLD. -/
def domainLeave (n : Nat) (hold : Bool) (s : State) : State :=
  if n < 32 then groupAvail n (groupDown n 5 s)
  else if n < 40 then dlGroupDown (n - 32) s
  else if n < 48 then
    retCheck (2 * (n - 40) + 1) (retCheck (2 * (n - 40)) (uplGroupCheck (n - 40) (modUplGroup (n - 40) (fun x => { x with pll := false, refHold := false }) s)))
  else if n < 50 then quoLinkLeaving (if n = 48 then 0 else 1) s
  else if n < 52 then portOff (n - 50) s
  else if n < 61 then engineOff (n - 52) hold s
  else if n < 65 then quarterCheck (n - 61) s
  else if n < 71 then s
  else if n < 75 then throttle (bankLost (n - 71) (unitCheck (n - 71) s))
  else if n = 75 then lintelOff hold s
  else if n = 76 then gaugeStop s
  else if n = 77 then gaugeOutputsOff (gaugeStop s)
  else s

/-- R193: HBM stacks whose contents a change has lost lose them, and the quarry's state follows. -/
def stacksFollow (keeps0 keeps1 : Bool) (s : State) : State :=
  let s := if keeps0 && !stackKeeps s 0 then stackLost 0 s else s
  let s := if keeps1 && !stackKeeps s 1 then stackLost 1 s else s
  quarryCheck s

/-- R380, R419: a change of a domain toward a state begins; a domain that stands there has nothing to do. -/
def domainStart (n : Nat) (to_ : PowerPhase) (s : State) : State :=
  let d := powerDom s n
  if d.goal.isNone && d.phase == to_ then s
  else
    let k0 := stackKeeps s 0
    let k1 := stackKeeps s 1
    let s := modDomain n (fun x => { x with goal := some to_ }) s
    stacksFollow k0 k1 (if d.phase == .on && d.goal.isNone then domainLeave n (to_ == .hold) s else s)

/-- R306: isolation of the block of domain `n` ends; the Gauge's by its analogue domain (76). -/
def isolationEnds (n : Nat) (s : State) : State :=
  s.modFlt fun f => { f with isolated := f.isolated.filter (fun x => (targetDomains x.target).head? != some n) }

/-- R120, R144, R325: the table SRAM of a bed group has been without power: its blocks are EMPTY, its accounts gone. -/
def groupEmptied (g : Nat) (s : State) : State :=
  dropAccounts g { s with
    sram := s.sram.filter (fun e => decide (e.1 / groupBlocks ≠ g))
    mem := { s.mem with restore := s.mem.restore.filter (fun x => decide (x.1 ≠ g)) } }

/-- R325: the SRAM of memories 2 to 9 that lies in a domain without power: its blocks are EMPTY. -/
def sramEmptied (n : Nat) (s : State) : State :=
  if 52 ≤ n ∧ n < 61 then eccEmptied 5 (n - 52) s
  else if 61 ≤ n ∧ n < 65 then eccEmptied 4 (n - 61) (eccEmptied 2 (n - 61) s)
  else if 65 ≤ n ∧ n < 69 then eccEmptied 7 (n - 65) s
  else if 71 ≤ n ∧ n < 75 then eccEmptied 3 (n - 71) s
  else if n = 75 then eccEmptied 8 0 s
  else if n = 78 then eccEmptied 9 0 s
  else s

/-- What a domain's block does when the domain has reached OFF or HOLD. -/
def domainDown (n : Nat) (hold : Bool) (s : State) : State :=
  let s := if hold then isolationEnds n s else sramEmptied n (isolationEnds n s)
  if n < 32 then if hold then s else groupTapsLost n (groupEmptied n s)
  else if n < 48 then s
  else if n < 50 then quoLinkOff (if n = 48 then 0 else 1) s
  else if n < 52 then configDefaults (n - 50) s
  else if n < 61 then engineOff (n - 52) hold s
  else if n < 75 then s
  else if n = 75 then lintelOff hold s
  else if n = 78 then if hold then s else plbOff s
  else s

/-- What a domain's block does when the domain has reached ON. -/
def domainUp (n : Nat) (fromHold : Bool) (s : State) : State :=
  if n < 32 then groupUp n fromHold (groupAvail n s)
  else if n < 40 then dlGroupUp (n - 32) s
  else if n < 48 then uplGroupCheck (n - 40) s
  else if n < 50 then quoLinkOn (if n = 48 then 0 else 1) s
  else if n < 52 then s
  else if n < 61 then if isIsolated s (.engine (n - 52)) then s else engineSync (n - 52) s
  else if n < 71 then quarryCheck s
  else if n < 75 then throttle (unitCheck (n - 71) (poolMoved s))
  else if n = 76 then gaugeAnalogueOn s
  else if n = 77 then gaugeOutputsOn s
  else if n = 78 then if fromHold && !isIsolated s .plumb then plbReturn s else s
  else if n = 79 then if isIsolated s .repointer then s else repointerStart s
  else s

/-- The bit of a domain in PWR_DOM_FAIL. -/
def domFailBit (n : Nat) (x : Bool) (s : State) : State := modCell .pwrDomFail (n / 32) 0 (fun w => setBit w (n % 32) x) s

/-- DOMAIN_CHANGE_DONE (R419): the change in progress of a domain is complete. -/
def domainSettled (n : Nat) (s : State) : State :=
  let d := powerDom s n
  match d.goal with
  | none => s
  | some g =>
    let k0 := stackKeeps s 0
    let k1 := stackKeeps s 1
    let bare := g == .hold && (d.phase == .off || d.bare)
    let s := domFailBit n false (event .pwrEvt 0 18 (modDomain n (fun _ => ⟨g, none, bare⟩) s))
    let s := match g with
      | .on => domainUp n (d.phase == .hold && !d.bare) s
      | .hold => domainDown n true s
      | .off => domainDown n false s
    stacksFollow k0 k1 s

/-! ### Failures (R420, R422) -/

/-- R422, R420: a rail fault is counted and raised. -/
def railFault (rail measured : Nat) (s : State) : State :=
  raise Src.pwrRailFault rail [w32 rail, w32 measured] (event .pwrEvt 0 20 (count .pwrCnt 0 31 16 1 s))

/-- PWR_DOMAIN_FAIL (R420): a domain does not reach its commanded state in its time: it is left OFF; `opened`: its switches opened, else a rail
fault is raised too. -/
def domainFails (n : Nat) (opened : Bool) (rail measured : Nat) (s : State) : State :=
  match (powerDom s n).goal with
  | none => s
  | some g =>
    let k0 := stackKeeps s 0
    let k1 := stackKeeps s 1
    let s := modDomain n (fun _ => .off) s
    let s := stacksFollow k0 k1 (domainDown n false s)
    let s := domFailBit n true (event .pwrEvt 0 19 (count .pwrCnt 0 15 0 1 s))
    let s := raise Src.pwrDomainFail n [w32 n, w32 g.code] s
    if opened then s else railFault rail measured s

/-- R479: the domain rails' domains. -/
def railFeeds (rail n : Nat) : Bool :=
  if rail = 1 then decide (n < 69) || (decide (71 ≤ n) && decide (n ≤ 75)) || decide (77 ≤ n)
  else if rail = 2 then decide (n < 32) || (decide (52 ≤ n) && decide (n ≤ 68)) || (decide (71 ≤ n) && decide (n ≤ 75)) || n == 78
  else if rail = 3 then decide (n < 52)
  else if rail = 4 then decide (n < 52)
  else if rail = 5 then decide (65 ≤ n) && decide (n ≤ 70)
  else if rail = 6 then n == 69 || n == 70
  else if rail = 8 || rail = 9 then n == 76
  else if rail = 10 then n == 77
  else false

/-- R479: a rail is required: a foundation rail, or one with a domain that is ON or HOLD. -/
def railRequired (s : State) (rail : Nat) : Bool :=
  rail == 0 || rail == 2 || rail == 6 || rail == 7 || (List.range 80).any (fun n => railFeeds rail n && (powerDom s n).phase != .off)

/-! ### The lockouts and the temperatures (R413, R423, R430) -/

/-- The falling under-voltage lockout, in mV: every module has its own within the limits of R413. -/
def lockoutFalling : Nat := 31500 + Config.lockoutFalling.val

/-- The warning threshold in °C: above 110 acts as 110. -/
def tempWarn (s : State) : Nat := min 110 (fld (cell s .pwrTempCfg) 7 0)

/-- A sensor's temperature, in 0.125 °C. -/
def sensorTemp (s : State) (n : Nat) : Int := sfld (cell s .pwrTemp n) 15 0

/-- Of 17 sensors the one that reads highest, the lowest-numbered of equal ones. -/
def hottestOf (temp : Nat → Int) : Nat := (List.range 17).foldl (fun m n => if temp m < temp n then n else m) 0

/-- The sensor that reads highest. -/
def hottest (s : State) : Nat := hottestOf (sensorTemp s)

/-- One of a row's 17 readings. -/
def reading (temps : List (BitVec 16)) (n : Nat) : BitVec 16 := temps.getD n 0

/-- The 17 readings from those of the die and of the power stage. -/
def allSensors (dies : List (BitVec 16)) (stage : BitVec 16) : List (BitVec 16) := (List.range 16).map (reading dies) ++ [stage]

/-- R423: the condition of a trip: the input below the falling lockout, a die sensor at 115 °C, the power stage's sensor at 125 °C. -/
def tripMet (cause : TripCause) (mv : Nat) (temps : List (BitVec 16)) : Bool :=
  match cause with
  | .underVoltage => decide (mv < lockoutFalling)
  | .dieTemperature => (List.range 16).any (fun n => decide (115 * 8 ≤ (reading temps n).toInt))
  | .stageTemperature => decide (125 * 8 ≤ (reading temps 16).toInt)

/-! ### Trips and resets (R423 to R428) -/

/-- The machine without power or in reset: every volatile store lost, every domain OFF; the Cornerstone's memory, the pins and the waiting
commands stay. -/
def volatileLost (p : Power) (s : State) : State :=
  { State.reset with
    pending := s.pending
    cns := s.cns.afterReset
    pwr := { Power.reset with
      domains := [], trip := p.trip, lastTrip := p.lastTrip, inReset := p.inReset, resetByPin := p.resetByPin, input := p.input, resetPin := p.resetPin, stage := p.stage }
    port0 := { HostPort.reset with perst := s.port0.perst }
    port1 := { HostPort.reset with perst := s.port1.perst }
    gau := { Gauge.reset with blank0 := s.gau.blank0, blank1 := s.gau.blank1 }
    plb := { Plumb.reset with armPin := s.plb.armPin, firePin := s.plb.firePin }
    jtag := s.jtag }

/-- The cause that the TRIP event holds: the spec names the field and gives the causes no codes (R446), so the codes are free. -/
def tripCode : TripCause → Nat
  | .underVoltage => Config.tripCause 0 % 2 ^ 32
  | .dieTemperature => Config.tripCause 1 % 2 ^ 32
  | .stageTemperature => Config.tripCause 2 % 2 ^ 32

/-- The JTAG port after a change of power: its TAP is reset; TRST_N keeps its level. -/
def tapLost (s : State) : Jtag := { Jtag.reset with trst := s.jtag.trst }

/-- The power stage's sensor is read. It goes on while the module is off (R425). -/
def stageRead (temp : BitVec 16) (s : State) : State := s.modPwr fun p => { p with stage := temp }

/-- The module loses its power (R424): a trip is latched. Input is valid on while the lockout is not what tripped it (R414). -/
def tripPower (cause : TripCause) (stage : BitVec 16) (p : Power) : Power :=
  { p with
    trip := some cause, lastTrip := some cause, inReset := false, resetByPin := false, input := p.input && cause != .underVoltage, stage := stage }

/-- PROTECTIVE_TRIP (R423, R424): a condition of R423 is met: the Cornerstone journals the trip and seals, then all power is lost. In a module that has
tripped, a fall of the input ends its validity (R414, R425). -/
def protectiveTrip (cause : TripCause) (mv : Nat) (temps : List (BitVec 16)) (s : State) : State :=
  if !tripMet cause mv temps then s
  else if s.pwr.trip.isSome then s.modPwr fun p => { p with input := p.input && cause != .underVoltage }
  else
    let hot := hottestOf (fun n => (reading temps n).toInt)
    let s := cnsTrip (tripCode cause) mv (reading temps hot).toNat hot s
    { volatileLost (tripPower cause (reading temps 16) s.pwr) s with jtag := tapLost s }

/-- INPUT_VALID (R414, R426): the input has risen above the rising lockout: a cold start. It clears a latched trip (R425). Input that is valid
stays so. -/
def inputValid (s : State) : State :=
  if s.pwr.input then s
  else { volatileLost { s.pwr with trip := none, inReset := true, resetByPin := false, input := true } s with jtag := tapLost s }

/-- TRIP_LATCH_CLEAR (R425): the input has risen above the rising lockout, which clears every latch; or, while the input is valid, FOUND_RST_N has been
low for 10 ms, which clears that of an over-temperature trip while the power stage's sensor reads below 85 °C. The module starts as from cold. -/
def tripLatchClear (s : State) : State :=
  if s.pwr.trip.isNone then s
  else if !s.pwr.input then inputValid s
  else if s.pwr.trip != some .underVoltage && s.pwr.resetPin && decide (s.pwr.stage.toInt < 85 * 8) then
    s.modPwr fun p => { p with trip := none, inReset := true, resetByPin := false }
  else s

/-- FOUND_RST_ASSERT (R426, R427): the reset is journalled, then everything volatile is lost. -/
def foundRstAssert (s : State) : State :=
  let s := s.modPwr fun p => { p with resetPin := true }
  if isUp s then
    let s := cnsFlush (cnsPost (cnsDueNow s 3 0 0) s)
    volatileLost { s.pwr with inReset := true, resetByPin := true } s
  else s

/-- PWR_STAT.RESET_CAUSE of a reset that completes (R431). -/
def resetCauseOf (p : Power) : Nat :=
  if p.resetByPin then 1
  else match p.lastTrip with
    | none => 0
    | some .underVoltage => 2
    | some _ => 3

/-- FOUNDATION_RESET_DONE (R428): the machine right after reset, with a start in the journal; while FOUND_RST_N is low the reset waits. `control`:
which copies of the Cornerstone's control area have a good CRC (R447). -/
def foundationResetDone (low : Bool) (control : BitVec 3) (s : State) : State :=
  if s.pwr.inReset then
    if low then s.modPwr fun p => { p with resetPin := true }
    else
      let k := volatileLost s.pwr s
      cnsStart control { k with pwr := { Power.reset with resetCause := resetCauseOf s.pwr } }
  else s

/-! ### Measurements (R415, R416, R422, R430, R431) -/

/-- R416: the nominal voltage of a rail, in mV; VANA is ±6.0 V and has its negative side as number 11. -/
def railNominal (n : Nat) : Int := ([800, 750, 850, 900, 1200, 1100, 1800, 1800, 6000, 8000, 3300, -6000] : List Int).getD n 0

/-- R416: within ±5% of nominal. -/
def nearNominal (n : Nat) (mv : Int) : Bool := decide ((mv - railNominal n).natAbs * 20 ≤ (railNominal n).natAbs)

/-- R416: of 12 voltages, those of a rail are in regulation: VANA on both its sides. -/
def railInReg (rails : List (BitVec 16)) (n : Nat) : Bool :=
  nearNominal n (reading rails n).toInt && (n != 8 || nearNominal 11 (reading rails 11).toInt)

/-- The measurements of an update go into their registers; what follows from them for the input's excursion, the warning and the rails. -/
def measuresTaken (mv ma dw : Nat) (temps rails : List (BitVec 16)) (s : State) : State :=
  let s := setCell .pwrPin 0 0 (mkFld 11 0 dw) (setCell .pwrIin 0 0 (mkFld 13 0 ma) (setCell .pwrVin 0 0 (mkFld 16 0 mv) s))
  let s := forN 17 (fun n t => setCell .pwrTemp n 0 ((reading temps n).setWidth 32) t) s
  let hot := hottest s
  let s := setCell .pwrTempMax 0 0 (mkFld 20 16 hot ||| mkFld 15 0 (cell s .pwrTemp hot).toNat) s
  let cool := ((tempWarn s : Int) - (fld (cell s .pwrTempCfg) 15 8 : Nat)) * 8
  let allCool := (List.range 17).all (fun n => decide (sensorTemp s n < cool))
  let ok := maskBits ((List.range 11).filter (fun n => railInReg rails n || !railRequired s n))
  s.modPwr fun p => { p with
    railsOk := w32 ok
    faulty := p.faulty.filter (fun n => !railInReg rails n && railRequired s n)
    tempArmed := p.tempArmed || allCool
    inRange := decide (36000 ≤ mv) && decide (mv ≤ 75000)
    excursion := p.excursion && !(decide (36500 ≤ mv) && decide (mv ≤ 74500))
    stage := reading temps 16 }

/-- PWR_MEASURE_UPDATE (R431): the 1 ms update of input voltage in mV, current in mA, power in 0.1 W, the 17 temperatures and the rails in mV. A
temperature of R423 trips. -/
def measureUpdate (mv ma dw : Nat) (temps rails : List (BitVec 16)) (s : State) : State :=
  let s := measuresTaken mv ma dw temps rails s
  if tripMet .dieTemperature mv temps then protectiveTrip .dieTemperature mv temps s
  else if tripMet .stageTemperature mv temps then protectiveTrip .stageTemperature mv temps s
  else s

/-- PWR_RAIL_FAULT (R422): a required rail has been out of regulation for more than 10 µs: once until it returns. The voltage in mV, signed. -/
def railFails (rail : Nat) (measured : Word) (s : State) : State :=
  let fine := nearNominal rail measured.toInt || (rail == 8 && nearNominal 11 measured.toInt)
  if railRequired s rail && !fine && !s.pwr.faulty.contains rail then
    railFault rail measured.toNat (s.modPwr fun p => { p with faulty := p.faulty ++ [rail] })
  else s

/-- PWR_INPUT_RANGE (R415): valid input lies outside 36 V to 75 V: once per excursion. Below the falling lockout it is no excursion. -/
def inputRange (mv : Nat) (s : State) : State :=
  if s.pwr.input && !s.pwr.excursion && decide (lockoutFalling ≤ mv) && (decide (mv < 36000) || decide (75000 < mv)) then
    raise Src.pwrInputRange 0 (w32 mv :: capCourse (nowCourse s)) (event .pwrEvt 0 16 (s.modPwr fun p => { p with excursion := true }))
  else s

/-- PWR_TEMP_HIGH (R430): a sensor reaches WARN. -/
def tempHigh (sensor : Nat) (temp : BitVec 16) (s : State) : State :=
  if s.pwr.tempArmed && decide ((tempWarn s : Int) * 8 ≤ temp.toInt) then
    raise Src.pwrTempHigh sensor [w32 sensor, temp.setWidth 32] (event .pwrEvt 0 17 (s.modPwr fun p => { p with tempArmed := false }))
  else s

/-! ### What the registers show (R431) -/

/-- PWR_STAT. -/
def pwrStatRead (s : State) : Word :=
  let warm := (List.range 17).any (fun n => decide ((tempWarn s : Int) * 8 ≤ sensorTemp s n))
  mkFld 9 8 s.pwr.resetCause ||| mkFld 3 3 (b2n (s.pwr.railsOk == 0x7FF)) ||| mkFld 2 2 (b2n warm) ||| mkFld 1 1 (b2n s.pwr.inRange)
    ||| mkFld 0 0 (b2n (s.pwr.domains.any (fun e => e.2.goal.isSome)))

/-- PWR_DOM_STAT. -/
def pwrDomStatRead (s : State) (i : Nat) : Word :=
  w32 ((List.range 16).foldl (fun n k => n + domCode s (16 * i + k) * 4 ^ k) 0)

end Sys2Proof.Machine
end

