-- ==== Sys2Proof/Machine/Reads.lean ====
section
/-!
DEFINITION. What a host read of a register returns (R2, R345, R346, R353 to R357, R361): stored words, and what status registers show of the
state. A read changes nothing.
-/
namespace Sys2Proof.Machine

/-- BED_GRP_STAT. -/
def bedGrpStatRead (s : State) (g : Nat) : Word :=
  let m := fun (ph : LanePhase) => maskBits ((List.range 8).filter (fun j => (lane s (8 * g + j)).phase == ph))
  mkFld 15 8 (m .quarantine) ||| mkFld 7 0 (m .active)

/-- BED_LANE_STAT. -/
def bedLaneStatRead (s : State) (l : Nat) : Word :=
  let x := lane s l
  let idx := match x.record with | some (r, _) => recLaneIndex r | none => 0
  mkFld 25 25 x.partner.isSome.toNat ||| mkFld 24 22 idx ||| mkFld 21 16 (x.partner.getD 0) ||| mkFld 13 13 x.warm.toNat ||| mkFld 12 12 x.peUnmet.toNat
    ||| mkFld 11 11 x.waitBind.toNat ||| mkFld 10 10 x.sync.toNat ||| mkFld 9 9 x.cdr.toNat ||| mkFld 8 8 x.signal.toNat ||| mkFld 7 4 x.lostCause
    ||| mkFld 2 0 x.phase.code

/-- BED_LANE_EQ: the taps (R70). -/
def bedLaneEqRead (s : State) (l : Nat) : Word :=
  let t := fun (k bits : Nat) => unsigned bits ((lane s l).taps.getD k 0)
  mkFld 31 24 (t 0 8) ||| mkFld 23 18 (t 1 6) ||| mkFld 17 12 (t 2 6) ||| mkFld 11 6 (t 3 6) ||| mkFld 5 0 (t 4 6)

/-- BED_DL_STAT; SQUELCH_COUNT is stored. After a squelch SENDING is 0 until the first frame mark (R87). -/
def bedDlStatRead (s : State) (d : Nat) : Word :=
  let k := downlink s d
  setFld (cell s .bedDlStat d) 7 0
    (8 * (smFind s.quo.rounds d).isSome.toNat + 4 * k.eqFallback.toNat + 2 * k.pll.toNat + (dlSending s d && !k.squelched).toNat)

/-- BED_PMAP. -/
def bedPmapRead (s : State) (p : Nat) : Word :=
  let b := bindingOf s p
  mkFld 31 31 (b2n (s.bindPending.any (fun x => x.partner == p))) ||| mkFld 30 30 (partner s p).binding.isSome.toNat ||| mkFld 23 16 b.firstLane
    ||| mkFld 15 13 b.lanesM1 ||| mkFld 7 0 (recHitFormat b.record)

/-- BED_PSTAT. -/
def bedPstatRead (s : State) (p : Nat) : Word :=
  let b := bindingOf s p
  let nd := (partnerLanes s p).filter (fun l => (lane s l).phase == .active && (lane s l).noData)
  mkFld 23 16 (maskBits (nd.map (fun l => l - b.firstLane))) ||| mkFld 8 8 (partner s p).cfg.isSome.toNat ||| mkFld 6 0 (partner s p).offences

/-- A CAL_LOAD or WALK_LOAD writes table group `g`. -/
def groupLoading (s : State) (g : Nat) : Bool :=
  s.ldg.boxes.any (fun e => match e.2.run with | some ⟨_, _, .load l, _⟩ => l.group == g | _ => false)

/-- ASH_TG_STAT. -/
def ashTgStatRead (s : State) (g : Nat) : Word :=
  let t := tgroup s g
  let r := repointerRuns s && (s.mem.restore.head?.map (·.1) == some g)
  mkFld 5 5 r.toNat ||| mkFld 4 4 (groupLoading s g).toNat ||| mkFld 3 3 t.walkPrevBusy.isSome.toNat ||| mkFld 2 2 t.ofsPrevBusy.isSome.toNat

/-- QRY_STAT. -/
def qryStatRead (s : State) : Word :=
  mkFld 13 8 (qryAbsent s) ||| mkFld 7 7 s.qry.floorReached.toNat ||| mkFld 6 6 (decide (80000 ≤ qryDepth s)).toNat ||| mkFld 1 0 s.qry.phase.code

/-- QRY_PINS. -/
def qryPinsRead (s : State) : Word :=
  mkFld 31 24 (satTo 8 (s.qry.reads.filter (pinWaits s)).length) ||| mkFld 20 0 (pinnedStones s)

/-- MEM_STAT. -/
def memStatRead (s : State) : Word :=
  mkFld 23 16 s.mem.restore.length ||| mkFld 1 0 (if isIsolated s .repointer then 3 else (powerDom s 79).phase.code)

/-- QUO_DIFF: 0x8000_0000 while the domains are not both LOCKED. -/
def quoDiffRead (s : State) : Word :=
  if s.quo.domA.phase == .locked && s.quo.domB.phase == .locked then
    BitVec.ofInt 32 (max (-2147483647) (min 2147483647 s.quo.aMinusB))
  else 0x80000000

/-- A snapshot status register: SNAP_SEQ, SEL or KIND, VALID. -/
def snapStatRead (s : State) (p b hi : Nat) : Word :=
  let k := snapBank s p b
  mkFld 31 16 k.seq ||| mkFld hi 1 k.sel ||| mkFld 0 0 k.valid.toNat

/-- Word `i` of a snapshot. -/
def snapDataRead (s : State) (p b i : Nat) : Word := (snapBank s p b).data.getD i 0

/-- R353: the course-buffered registers whose PENDING bit a register shows: its own, and those of the map and mask words beside it. -/
def pendingShown (s : State) (r : Reg) (i : Nat) : Bool :=
  (cbReg s r i).waiting ||
    (match r with
      | .mrtClassMapHi => (cbReg s .mrtClassMapLo i).waiting
      | .mrtStreamCfg => (cbReg s .mrtStreamPmaskLo i).waiting || (cbReg s .mrtStreamPmaskHi i).waiting
      | _ => false)

/-- The read-only bits of a course-buffered register. -/
def cbStatus (s : State) (r : Reg) (i : Nat) : Word :=
  match r with
  | .lntLane => mkFld 30 30 (b2n (s.lnt.conflicts.getLsbD i)) ||| mkFld 29 29 (b2n (lintelSends s && (sendingLanes s).contains i))
  | .lntRegOfs => mkFld 31 31 (b2n (s.lnt.ofsValid.getLsbD i))
  | _ => if regMask r .ro = 0 then 0 else mkFld 31 31 (pendingShown s r i).toNat

/-- What port `p` reads in entry `i`, `j` of a register. -/
def readReg (s : State) (p : Nat) (r : Reg) (i j : Nat) : Word :=
  if regMask r .cb ≠ 0 then (cbReg s r i).pend &&& regMask r .cb ||| cbStatus s r i
  else
    match r with
    | .hstWho => w32 p
    | .hstLock => mkFld 0 0 s.btr.gaugeOut.val.toNat
    | .hstCb => hstCbRead s
    | .hstStat => hstStatRead s
    | .hstPortStat => hstPortStatRead s i
    | .ldgStat => ldgStatRead s
    | .ldgMbStat => ldgMbStatRead s i
    | .fltCtl => setFld (cell s .fltCtl) 24 24 s.btr.cfgLock.val.toNat
    | .fltStat => fltStatRead s
    | .fltLogNewest => w32 s.flt.newestSeq
    | .fltLogOldest => fltLogOldestRead s
    | .fltSnapStat => snapStatRead s p 6 1
    | .fltSnapData => snapDataRead s p 6 i
    | .fltSrcStat => fltSrcStatRead s i
    | .btrInject => mkFld 14 14 s.btr.inject.isSome.toNat
    | .pwrStat => pwrStatRead s
    | .pwrRailStat => s.pwr.railsOk
    | .pwrDomStat => pwrDomStatRead s i
    | .quoStat => quoStatRead s
    | .quoDiff => quoDiffRead s
    | .quoTxqStat => w32 s.quo.txq.length
    | .quoSnapStat => snapStatRead s p 0 3
    | .quoSnapData => snapDataRead s p 0 i
    | .quoDomStat => quoDomStatRead s i
    | .quoDlPhase => setBit (cell s .quoDlPhase i) 21 (partnerClock s i).slewing
    | .quoPdelay => setBit (cell s .quoPdelay i) 31 (partnerClock s i).measured
    | .plbStat => plbStatRead s
    | .plbSnapStat => snapStatRead s p 1 1
    | .plbSnapData => snapDataRead s p 1 i
    | .cnsStat => cnsStatRead s
    | .cnsLost => w32 s.cns.lost
    | .cnsStart => w32 s.cns.startCount
    | .cnsLast => cnsLastRead s
    | .cnsClearCode => s.cns.clearCode
    | .gauStat => gauStatRead s
    | .gauSnapStat => snapStatRead s p 2 7
    | .gauSnapData => snapDataRead s p 2 i
    | .gauConvStat => gauConvStatRead s i
    | .gauChStat => gauChStatRead s i
    | .gauOutStat => gauOutStatRead s i
    | .bedGrpStat => bedGrpStatRead s i
    | .bedSnapStat => snapStatRead s p (8 + i) 4
    | .bedSnapData => snapDataRead s p (8 + i) j
    | .bedLaneStat => bedLaneStatRead s i
    | .bedLaneEq => bedLaneEqRead s i
    | .bedDlStat => bedDlStatRead s i
    | .bedDlFc => mkFld 30 30 (downlink s i).host.isSome.toNat
    | .bedPmap => bedPmapRead s i
    | .bedPchan => mkFld 18 0 (recChannels (bindingOf s i).record)
    | .bedPid => w32 (recPartnerId (bindingOf s i).record)
    | .bedPstat => bedPstatRead s i
    | .ashTgStat => ashTgStatRead s i
    | .ashEngStat => ashEngStatRead s i
    | .ashSlotMap => ashSlotMapRead s
    | .ashSpare => ashSpareRead s
    | .ashPtab => ashPtabRead s i
    | .crsStat => crsStatRead s
    | .crsSnapStat => snapStatRead s p 3 2
    | .crsSnapData => snapDataRead s p 3 i
    | .molStat => molStatRead s i
    | .qryStat => qryStatRead s
    | .qryPins => qryPinsRead s
    | .qryRetire => w32 s.hbm.retired.length
    | .qryHwinPage => (hostPort s p).hwinPage
    | .qryFindHi => (hostPort s p).findHi
    | .qryFindLo => (hostPort s p).findLo
    | .qrySnapStat => snapStatRead s p 4 2
    | .qrySnapData => snapDataRead s p 4 i
    | .memStat => memStatRead s
    | .memInject => mkFld 17 17 s.mem.inject.isSome.toNat
    | .mrtUnitStat => mrtUnitStatRead s i
    | .mrtAccStat => mrtAccStatRead s
    | .mrtThrotStat => mrtThrotStatRead s
    | .mrtPoolStat => mrtPoolStatRead s
    | .mrtSnapStat => snapStatRead s p 5 2
    | .mrtSnapData => snapDataRead s p 5 i
    | .mrtStreamStat => mrtStreamStatRead s i
    | .mrtStreamFrags => mrtStreamFragsRead s i
    | .uplGrpStat => uplGrpStatRead s i
    | .uplLinkStat => uplLinkStatRead s i
    | .uplLinkBal => uplLinkBalRead s i
    | .uplLinkCells => uplLinkCellsRead s i
    | .uplRlStat => uplRlStatRead s i
    | .uplStreamStat => uplStreamStatRead s i
    | .lntStat => lntStatRead s
    | .lntPend => mkFld 0 0 (lntWaiting s).toNat
    | _ => cell s r i j

/-- What port `p` reads of BAR0 at a DWORD offset (R345, R346): its own MSI-X table and pending bits, a register, or zero. -/
def bar0Read (s : State) (p off : Nat) : Word :=
  if decide (0x8000 ≤ off) && decide (off < 0x8200) then msixWord (hostPort s p) (off - 0x8000)
  else if off = 0x9000 then pbaWord (hostPort s p)
  else
    match regAt off with
    | some (r, i, j) => readReg s p r i j
    | none => 0

/-- What port `p` reads of BAR2 at a DWORD offset (R361, R477). -/
def aliasRead (s : State) (p a : Nat) : Word :=
  if isMsix (4 * (a / 128)) then 0 else mkFld 0 0 (bit (bar0Read s p (4 * (a / 128))) (a % 128 / 4)).toNat

end Sys2Proof.Machine
end

