-- ==== Sys2Proof/Machine/Jobs.lean ====
section
/-!
DEFINITION. Host memory as the Lodge writes it (R376), and the job commands QUARRY_EXPORT, RECALL_HOST and DECOMPRESS_CHECK (R197, R382, R383).
-/
namespace Sys2Proof.Machine

/-! ### Host memory (R376, R378) -/

/-- R376: a mailbox's port can write host memory. -/
def hostReady (s : State) (p : Nat) : Bool := (hostPort s p).l0 && (hostPort s p).bme && domOn s (50 + p)

/-- R343: 64-bit memory writes of consecutive words. -/
def hostStore (p addr : Nat) (ws : List DWord) (s : State) : State :=
  if ws.isEmpty then s
  else s.modPort p fun h => { h with msgs := ⟨addr, ws.flatMap (fun (w : DWord) => [w.setWidth 32, (w >>> 32).setWidth 32])⟩ :: h.msgs }

/-- Address of a command's host buffer. -/
def LdgCmd.bufAddr (x : LdgCmd) : Nat := (x.w 12).toNat * 2 ^ 32 + (x.w 13).toNat
/-- Length of a command's host buffer in bytes. -/
def LdgCmd.bufLen (x : LdgCmd) : Nat := (x.w 14).toNat * 2 ^ 32 + (x.w 15).toNat

/-- Two words of a result, high word first. -/
def two (n : Nat) : List Word := [w32 (n / 2 ^ 32), w32 n]

/-- Words of one memory write: a payload of 512 bytes. DESIGN CHOICE (log entry 190): between two of them a command that writes host memory meets what
has become of its port. -/
abbrev writeWords : Nat := 64

/-- R375, R376: a command writes the next words of an image to host memory: it ends with HOST_LINK where its port cannot write any more, with DOMAIN_OFF
where a domain that it reads has gone (`off`), and with OK after the last word. -/
def imageGoes (m : Nat) (w : ImageRun) (off : Bool) (done : State → State) (s : State) : State :=
  if !hostReady s (boxPort m) then ldgComplete m 9 0 (w.head ++ two w.sent) s
  else if off then ldgComplete m 4 0 (w.head ++ two w.sent) s
  else
    let ws := w.todo.take writeWords
    let t := hostStore (boxPort m) w.addr ws s
    let n := w.sent + 8 * ws.length
    if w.todo.length ≤ writeWords then ldgComplete m 0 0 (w.head ++ two n ++ w.after) (done t)
    else setWait m (.image { w with addr := w.addr + 8 * ws.length, todo := w.todo.drop writeWords, sent := n }) t

/-! ### What a job names (R378) -/

/-- The first and last course of a job. -/
def LdgCmd.jobRange (x : LdgCmd) : Nat × Nat :=
  if x.opcode = 0x41 then
    let b := (x.w 2).toNat * 2 ^ 32 + (x.w 3).toNat
    (b / 64, (b + fld (x.w 4) 22 0 - 1) / 64)
  else
    let c := fld (x.w 2) 23 0 * 2 ^ 32 + (x.w 3).toNat
    (c, c + fld (x.w 4) 21 0 - 1)

/-- R378: a job's parameters are out of range. -/
def LdgCmd.jobBad (x : LdgCmd) : Bool :=
  if x.opcode = 0x41 then fld (x.w 4) 22 0 == 0 || decide (4194176 < fld (x.w 4) 22 0) || !bufferGood x
  else fld (x.w 4) 21 0 == 0 || decide (2097152 < fld (x.w 4) 21 0) || (x.opcode == 0x40 && !bufferGood x)

/-- The groups of an export's or a check's mask: 0 stands for all. -/
def LdgCmd.jobGroups (x : LdgCmd) : List Nat := if x.w 5 = 0 then List.range 32 else wordBits (x.w 5) 0

/-- The partners of a RECALL_HOST. -/
def LdgCmd.jobPartners (x : LdgCmd) : BitVec 64 := x.w 5 ++ x.w 6

/-- The courses of a job. -/
def LdgCmd.jobCourses (x : LdgCmd) : List Nat := (List.range (x.jobRange.2 + 1 - x.jobRange.1)).map (x.jobRange.1 + ·)

/-- R184: what a request finds for the course does not depend on a publication to come. -/
def courseSettled (s : State) (c : Nat) : Bool :=
  !(s.qry.phase == .running) || decide (c < historyStart s) || (match s.qry.newest with | some p => decide (c ≤ p) | none => false)

/-- R186: at most 1 GiB of stones is pinned at once: the courses of the next piece, and those after it. -/
def jobPiece (s : State) : Option Nat → List Nat → List Nat × List Nat
  | _, [] => ([], [])
  | start, c :: rest =>
    if s.qry.phase == .running && s.qry.published.contains c then
      let ws := entryOf s c
      let a := start.getD (firstStone ws)
      if start.isSome && decide (262144 < stoneSpan a (lastStone ws)) then ([], c :: rest)
      else
        let r := jobPiece s (some a) rest
        (c :: r.1, r.2)
    else
      let r := jobPiece s start rest
      (c :: r.1, r.2)

/-! ### Export items (R382) -/

/-- An item word. -/
def itemWord (type cause n : Nat) : DWord := BitVec.ofNat 64 (type * 2 ^ 56 + cause * 2 ^ 48 + n)

/-- A marker for group `g` of course `c`; group 31 stands for the whole course in a whole-course marker. -/
def marker (type cause c g : Nat) : List DWord := [itemWord type cause 1, BitVec.ofNat 64 (c * 256 + g)]

/-- Words that the items of one course take at sizing, in block mode. -/
def courseSize (s : State) (gs : List Nat) (c : Nat) : Nat :=
  if s.qry.phase == .running && decide (historyStart s ≤ c) && s.qry.published.contains c then
    let ws := entryOf s c
    65 + sumL (gs.map (fun g =>
      let d := ws.getD (6 + g) 0
      if dfld d 7 7 = 1 ∧ dfld d 5 5 = 0 then 1 + dfld d 30 15 else 2))
  else 2

/-- The item of group `g` of a stored course: the block, or its marker; also whether it is a marker. -/
def exportGroup (c g : Nat) (ws : List DWord) (burst : List Nat) (who : Word) (s : State) : List DWord × Bool × State :=
  let d := ws.getD (6 + g) 0
  if dfld d 7 7 = 0 then (marker 0x13 (dfld d 3 0) c g, true, s)
  else if dfld d 5 5 = 1 then (marker 0x12 (if isStub ws then 3 else if Config.damagedByStone c g then 1 else 2) c g, true, s)
  else
    match badStone s d burst with
    | some n => (marker 0x12 1 c g, true, readFailed (overlapping s n) c g n who s)
    | none =>
      let b := blockWords s d
      if trailerGood b then (itemWord 2 0 b.length :: b, false, s) else (marker 0x12 2 c g, true, readFailed [(c, g)] c g (dfld d 63 40) who s)

/-- The items of one course in block mode, with the number of markers. -/
def exportCourse (c hist : Nat) (gs : List Nat) (broken : Bool) (burst : List Nat) (who : Word) (s : State) : List DWord × Nat × State :=
  if broken then (marker 0x11 0 c 31, 1, s)
  else if !(s.qry.phase == .running) then (marker 0x13 2 c 31, 1, s)
  else if c < historyStart s then (marker (if hist ≤ c then 0x11 else 0x10) 0 c 31, 1, s)
  else if s.qry.published.contains c then
    let ws := entryMet s burst c
    gs.foldl (fun (a : List DWord × Nat × State) g =>
      let r := exportGroup c g ws burst who a.2.2
      (a.1 ++ r.1, a.2.1 + r.2.1.toNat, r.2.2)) (itemWord 1 0 64 :: ws, 0, s)
  else (marker 0x13 2 c 31, 1, s)

/-- The sizing of an export in stone mode: the courses of the range that the index holds, each with the number of stones from FIRST_STONE of the first
course on up to its LAST_STONE (R382). -/
def stoneEnds (s : State) (cs : List Nat) : Nat × List (Nat × Nat) :=
  match cs.filter (fun c => s.qry.phase == .running && s.qry.published.contains c) with
  | a :: t =>
    let first := firstStone (entryOf s a)
    (first, (a :: t).map (fun c => (c, stoneSpan first (lastStone (entryOf s c)))))
  | [] => (0, [])

/-- The stones that course `c` adds to an export in stone mode, in write order: those up to its LAST_STONE as the sizing pass found it that have not been
given yet, whatever has become of the course since. -/
def courseStones (j : LdgJob) (c : Nat) : List Nat :=
  match assocGet j.stones.2 c with
  | some k => (List.range (k - j.given)).map (fun i => (j.stones.1 + j.given + i) % stoneCount)
  | none => []

/-- A marker for stone `n` in stone mode (R382). -/
def stoneMarker (type cause n : Nat) : List DWord := [itemWord type cause 1, BitVec.ofNat 64 (n * 256)]

/-- The item of a stone that course `c` adds: the stone, or its marker: overwritten where the pin broke or the course has left the history, not stored in
a halt; a stone that fails its check is marked in the index (R188), and names the block of its header where no published block overlaps it. -/
def exportStone (c n : Nat) (broken : Bool) (burst : List Nat) (who : Word) (s : State) : List DWord × Bool × State :=
  if broken then (stoneMarker 0x11 0 n, true, s)
  else if !(s.qry.phase == .running) then (stoneMarker 0x13 2 n, true, s)
  else if c < historyStart s then (stoneMarker 0x11 0 n, true, s)
  else if burst.contains n || !stoneGood s n then
    let head := (stoneAt s n).getD 0 0
    let at_ := (overlapping s n).headD (dfld head 63 8, dfld head 4 0)
    (stoneMarker 0x12 1 n, true, readFailed (overlapping s n) at_.1 at_.2 n who s)
  else (itemWord 3 0 512 :: stoneAt s n, false, s)

/-- The end item. -/
def endItem (out : List DWord) : List DWord :=
  [itemWord 0xFF 0 2, BitVec.ofNat 64 out.length, BitVec.ofNat 64 (crc32c (wordBytes out)).toNat]

/-! ### RECALL_HOST (R383) -/

/-- The recall that a RECALL_HOST stands for. -/
def recallEntry (s : State) (x : LdgCmd) (hist : Nat) : AccEntry where
  id := 0
  kind := .recall
  number := 0
  last := 0
  refusedRecalls := 0
  cls := 0
  bt := (((x.w 2).toNat * 2 ^ 32 + (x.w 3).toNat : Nat) : Int)
  domainBt := toDomainBt s ((x.w 2).toNat * 2 ^ 32 + (x.w 3).toNat)
  wstart := 0
  wend := 0
  length := fld (x.w 4) 22 0
  arrival := nowStamp s
  late := true
  hist := hist
  gathers := []
  recs := []

/-- The record of a RECALL_HOST from what has been gathered, and its FLAGS. -/
def recallRecord (s : State) (x : LdgCmd) (hist : Nat) (g : Gather) : List DWord × Nat :=
  let body := (formFragment s (recallEntry s x hist) g x.jobPartners (2 ^ 40)).1
  (wholeRecord s 0xFF 2 0 body, dfld (body.getD 7 0) 63 56)

/-- One course joins what a RECALL_HOST gathers. -/
def recallCourse (c hist : Nat) (mask : BitVec 64) (broken : Bool) (burst : List Nat) (who : Word) (g : Gather) (s : State) : Gather × State :=
  if broken then ({ g with parts := g.parts ++ [brokenPart hist c], entries := g.entries ++ (if hist ≤ c then heldEntries s burst [c] else []) }, s)
  else
    match readCourse c mask [] (decide (hist ≤ c)) burst who s with
    | some (parts, t) =>
      ({ g with
        parts := g.parts ++ parts
        entries := g.entries ++ (if hist ≤ c then heldEntries t burst [c] else []) }, t)
    | none => (g, s)

/-- A gather with nothing in it. -/
def Gather.blank : Gather := ⟨0, true, true, [], [], [], [], []⟩

/-! ### DECOMPRESS_CHECK (R383) -/

/-- The outcome of one block: none where there is no block to read, else the reason of failure, 0 for none. -/
def checkGroup (c g : Nat) (ws : List DWord) (burst : List Nat) (who : Word) (s : State) : Option Nat × State :=
  let d := ws.getD (6 + g) 0
  if dfld d 7 7 = 0 ∨ dfld d 5 5 = 1 then (none, s)
  else
    match badStone s d burst with
    | some n => (some 1, readFailed (overlapping s n) c g n who s)
    | none =>
      let b := blockWords s d
      if !trailerGood b then (some 2, readFailed [(c, g)] c g (dfld d 63 40) who s)
      else if (decodeBlock b).isNone then (some 3, readFailed [(c, g)] c g (dfld d 63 40) who s)
      else (some 0, s)

/-- One course of a check. -/
def checkCourse (c : Nat) (gs : List Nat) (broken : Bool) (burst : List Nat) (who : Word) (j : LdgJob) (s : State) : LdgJob × State :=
  if broken || !(s.qry.phase == .running && decide (historyStart s ≤ c) && s.qry.published.contains c) then (j, s)
  else
    let ws := entryMet s burst c
    gs.foldl (fun (a : LdgJob × State) g =>
      match checkGroup c g ws burst who a.2 with
      | (none, t) => (a.1, t)
      | (some 0, t) => ({ a.1 with checked := a.1.checked + 1 }, t)
      | (some r, t) => ({ a.1 with
          checked := a.1.checked + 1, failing := a.1.failing + 1, firstFail := some (a.1.firstFail.getD (c, g, r)) }, t)) (j, s)

/-! ### A job from its sizing to its end -/

/-- R197: the sizing pass: bytes needed. -/
def jobNeed (s : State) (x : LdgCmd) : Nat :=
  match x.opcode with
  | 0x40 =>
    if bit (x.w 1) 0 then
      8 * (513 * (stoneEnds s x.jobCourses).2.foldl (fun n e => max n e.2) 0 + 3)
    else 8 * (sumL (x.jobCourses.map (courseSize s x.jobGroups)) + 3)
  | 0x41 =>
    let h := historyStart s
    let r := x.jobCourses.foldl (fun (a : Gather × State) c => recallCourse c h x.jobPartners false [] 0 a.1 a.2) (Gather.blank, s)
    8 * (recallRecord r.2 x h r.1).1.length + Config.recallSlack ((x.w 2).toNat * 2 ^ 32 + (x.w 3).toNat) (fld (x.w 4) 22 0) x.jobPartners
  | _ => 0

/-- RSP[3] onward of a job. -/
def jobResults (x : LdgCmd) (j : LdgJob) (written flags : Nat) : List Word :=
  match x.opcode with
  | 0x40 => two j.need ++ two written ++ [w32 j.markers] ++ courseCapture j.hist
  | 0x41 => two j.need ++ two written ++ [w32 flags]
  | _ =>
    let f := j.firstFail.getD (0, 0, 0)
    [w32 j.checked, w32 j.failing] ++ courseCapture f.1 ++ [mkFld 12 8 f.2.1 ||| mkFld 1 0 f.2.2]

/-- The request of the job of mailbox `m`. -/
def isJobOf (m : Nat) (r : QReq) : Bool := r.job && r.owner == m

/-- A job ends: its request leaves. -/
def jobEnd (m status : Nat) (res : List Word) (s : State) : State := ldgComplete m status 0 res (replaceRead (isJobOf m) none s)

/-- A running job's state changes. -/
def jobPut (m : Nat) (j : LdgJob) (s : State) : State := modBox m (fun b => { b with run := b.run.map (fun r => { r with wait := .job (some j) }) }) s

/-- R186: the next piece of a job asks for its pin. -/
def jobAsk (m : Nat) (x : LdgCmd) (j : LdgJob) (s : State) : State :=
  let p := jobPiece s none j.todo
  jobPut m { j with todo := p.2 } (if p.1.isEmpty then s else enqueueRead ⟨m, true, 0, x.jobPartners, p.1, [], none, false⟩ s)

/-- R197, R376: once every course of the range is settled, the sizing pass; then the job ends with HOST_LINK or NO_SPACE, or asks for its pin. -/
def jobSize (m : Nat) (x : LdgCmd) (s : State) : State :=
  if !courseSettled s x.jobRange.2 then s
  else
    let h := historyStart s
    let j : LdgJob := ⟨jobNeed s x, h, [], x.jobCourses, 0, stoneEnds s x.jobCourses, 0, 0, 0, none, Gather.blank, 0⟩
    if x.opcode != 0x42 && decide (x.bufLen < j.need) then
      ldgComplete m 8 0 (if x.opcode = 0x40 then two j.need ++ [0, 0, 0] ++ courseCapture h else two j.need) s
    else jobAsk m x j s

/-- The job has read its last course: what is left is written, and it completes; the record of a RECALL_HOST in its first memory write (R376). -/
def jobDone (m : Nat) (x : LdgCmd) (j : LdgJob) (s : State) : State :=
  let p := boxPort m
  match x.opcode with
  | 0x40 =>
    let e := endItem j.out
    jobEnd m 0 (jobResults x j (8 * (j.out.length + 3)) 0) (hostStore p (x.bufAddr + 8 * j.out.length) e s)
  | 0x41 =>
    let r := recallRecord s x j.hist j.gather
    let w : ImageRun := ⟨x.bufAddr, r.1, 0, two j.need, [w32 r.2], 0⟩
    imageGoes m w false id (setWait m (.image w) (replaceRead (isJobOf m) none s))
  | _ => jobEnd m 0 (jobResults x j 0 0) s

/-- Bytes of the stored blocks that a job reads of a course (R377). -/
def courseBytes (s : State) (x : LdgCmd) (c : Nat) : Nat :=
  if s.qry.phase == .running && decide (historyStart s ≤ c) && s.qry.published.contains c then
    let ws := entryOf s c
    sumL ((if x.opcode = 0x41 then neededGroups ws x.jobPartners else x.jobGroups).map (fun g =>
      let d := ws.getD (6 + g) 0
      if dfld d 7 7 = 1 ∧ dfld d 5 5 = 0 then 8 * dfld d 30 15 else 0))
  else 0

/-- One course of a job is read; an export writes its items at once. -/
def jobCourse (m : Nat) (x : LdgCmd) (c : Nat) (r : QReq) (burst : List Nat) (j : LdgJob) (s : State) : LdgJob × State :=
  let who := requesterWord r
  let j := { j with read := j.read + (if r.broken then 0 else courseBytes s x c) }
  match x.opcode with
  | 0x40 =>
    let a : List DWord × Nat × State :=
      if bit (x.w 1) 0 then
        (courseStones j c).foldl (fun (a : List DWord × Nat × State) n =>
          let y := exportStone c n r.broken burst who a.2.2
          (a.1 ++ y.1, a.2.1 + y.2.1.toNat, y.2.2)) ([], 0, s)
      else exportCourse c j.hist x.jobGroups r.broken burst who s
    ({ j with out := j.out ++ a.1, markers := j.markers + a.2.1, given := j.given + (courseStones j c).length },
     hostStore (boxPort m) (x.bufAddr + 8 * j.out.length) a.1 a.2.2)
  | 0x41 =>
    let y := recallCourse c j.hist x.jobPartners r.broken burst who j.gather s
    ({ j with gather := y.1 }, y.2)
  | _ => checkCourse c x.jobGroups r.broken burst who j s

/-- A running job goes on: it sizes, asks for its pin again, or reads one course; with the last it completes. -/
def jobStep (m : Nat) (x : LdgCmd) (jo : Option LdgJob) (burst : List Nat) (s : State) : State :=
  match jo with
  | none =>
    if !quarryDomainsOn s then ldgComplete m 4 0 [] s
    else jobSize m x s
  | some j =>
    let written := if x.opcode = 0x40 then 8 * j.out.length else 0
    if !quarryDomainsOn s then jobEnd m 4 (jobResults x j written 0) s
    else if x.opcode != 0x42 && !hostReady s (boxPort m) then jobEnd m 9 (jobResults x j written 0) s
    else
      match s.qry.reads.find? (isJobOf m) with
      | none => if j.todo.isEmpty then jobDone m x j s else jobAsk m x j s
      | some r0 =>
        let r := if r0.broken then r0 else pinRequest s (s.qry.reads.findIdx (isJobOf m)) r0
        match r.courses with
        | [] => replaceRead (isJobOf m) none s
        | c :: rest =>
          if s.qry.phase == .running && pinWaits s r then s
          else
            let y := jobCourse m x c r burst j s
            let s := jobPut m y.1 (replaceRead (isJobOf m) (if r.broken && !rest.isEmpty then some { r with courses := rest } else restOf y.2 r rest) y.2)
            if rest.isEmpty && y.1.todo.isEmpty then jobDone m x y.1 s else s

end Sys2Proof.Machine
end

