-- ==== Sys2Proof/Machine/Lodge.lean ====
section
/-!
DEFINITION. The Lodge's commands one by one (R51, R57, R108 to R112, R128 to R130, R140, R194, R270, R340, R377 to R385, R402, R444, R450).
A command row names a mailbox: it starts the mailbox's next command when that has the row's opcode and holds its resources, or takes the running
command of that opcode further.
-/
namespace Sys2Proof.Machine

/-! ### A command row (R367, R372) -/

/-- A command row: the running command of this opcode goes on, or the next command starts if it has this opcode and can start. -/
def lodgeRow (op m : Nat) (start : LdgCmd → State → State) (goOn : LdgRun → State → State) (s : State) : State :=
  match (mailbox s m).run with
  | some r => if r.cmd.opcode = op then goOn r s else s
  | none =>
    match startable s m with
    | some x => if x.opcode = op then start x s else s
    | none => s

/-- R372: the common checks in their order; `bad`: a value out of range, `off`: a domain that the command needs is not ON. -/
def ldgChecks (m : Nat) (x : LdgCmd) (bad off : Bool) (own : State → State) (s : State) : State :=
  if !unusedZero x || bad then ldgAtOnce m x 2 0 [] s
  else if notOwner s m x.opcode then ldgAtOnce m x 3 0 [] s
  else if off then ldgAtOnce m x 4 0 [] s
  else own s

/-- Some domain of a list is not ON. -/
def anyOff (s : State) (l : List Nat) : Bool := l.any (fun n => !domOn s n)

/-- The domains of the quarry controllers and the HBM stacks. -/
def quarryDomains : List Nat := [65, 66, 67, 68, 69, 70]

/-- The opcodes of R377. -/
def knownOpcodes : List Nat :=
  [0x01, 0x02, 0x10, 0x11, 0x12, 0x13, 0x20, 0x21, 0x22, 0x30, 0x31, 0x32, 0x40, 0x41, 0x42, 0x50, 0x51, 0x52, 0x60, 0x70, 0x71, 0x72, 0x80, 0xF0]

/-- UNKNOWN_OPCODE (R372): a command with an opcode outside R377 ends at its start. -/
def unknownOpcode (m : Nat) (s : State) : State :=
  match startable s m with
  | some x => if knownOpcodes.contains x.opcode then s else ldgAtOnce m x 1 0 [] s
  | none => s

/-- `n` words with a bit for each number of a list. -/
def bitWords (n : Nat) (l : List Nat) : List Word :=
  (List.range n).map (fun i => w32 (maskBits ((l.filter (fun k => k / 32 == i)).map (· % 32))))

/-! ### POWER_SET and POWER_QUERY (R380) -/

/-- The domains that a POWER_SET names. -/
def LdgCmd.powerNamed (x : LdgCmd) : List Nat := wordBits (x.w 2) 0 ++ wordBits (x.w 3) 32 ++ wordBits (x.w 4) 64

/-- A domain stands in a state. -/
def domStands (s : State) (n : Nat) (p : PowerPhase) : Bool := (powerDom s n).goal.isNone && (powerDom s n).phase == p

/-- R380: the next named domain that is not in STATE begins its change; after the last the command completes. -/
def powerNext (m : Nat) (to_ : PowerPhase) (failed named changed : List Nat) : List Nat → State → State
  | [], s =>
    ldgComplete m (if failed.isEmpty then 0 else 0x0C) failed.length (bitWords 3 (named.filter (fun n => domStands s n to_)) ++ bitWords 3 failed) s
  | n :: t, s =>
    if domStands s n to_ then powerNext m to_ failed named changed t s
    else setWait m (.power to_ (n :: t) failed named changed) (domainStart n to_ s)

/-- The POWER_SET that changes domain `n` goes on: the domain reached its state, or failed. -/
def powerGoesOn (n : Nat) (fails : Bool) (s : State) : State :=
  (List.range 8).foldl (fun t m =>
    match (mailbox t m).run with
    | some ⟨_, _, .power to_ (k :: rest) failed named changed, _⟩ =>
      if k = n then powerNext m to_ (if fails then failed ++ [n] else failed) named changed rest t else t
    | _ => t) s

/-- POWER_SET at its start (R379, R380). -/
def powerSetStart (m : Nat) (x : LdgCmd) (s : State) : State :=
  let st := fld (x.w 1) 1 0
  let to_ : PowerPhase := if st = 0 then .off else if st = 1 then .hold else .on
  let named := x.powerNamed
  let stays := [50, 51].any (fun n => if named.contains n then to_ == .on else domOn s n)
  ldgChecks m x (st == 3) false (fun s =>
    if !stays then ldgAtOnce m x 5 1 [] s
    else
      let changed := named.filter (fun n => !domStands s n to_)
      powerNext m to_ [] named changed named (ldgRun m x (.power to_ named [] named changed) s)) s

/-- DOMAIN_CHANGE_DONE (R419, R380): the change completes, and the POWER_SET goes on. -/
def domainChangeDone (n : Nat) (s : State) : State :=
  if (powerDom s n).goal.isSome then powerGoesOn n false (domainSettled n s) else s

/-- PWR_DOMAIN_FAIL (R420, R380): the change fails, and the POWER_SET goes on. -/
def pwrDomainFail (n : Nat) (opened : Bool) (rail measured : Nat) (s : State) : State :=
  if (powerDom s n).goal.isSome then powerGoesOn n true (domainFails n opened rail measured s) else s

/-- POWER_QUERY. -/
def powerQueryStart (m : Nat) (x : LdgCmd) (s : State) : State :=
  ldgChecks m x false false (fun s => ldgAtOnce m x 0 0 ((List.range 5).map (pwrDomStatRead s)) s) s

/-! ### PARTNER_BIND (R110 to R112) -/

/-- The partner map as the changes that wait will leave it. -/
def laterBinding (s : State) (p : Nat) : Option Binding :=
  s.bindPending.foldl (fun b x => if x.partner = p then x.entry else b) (partner s p).binding

/-- R110, R111: the refusal of a binding, 0 for none. -/
def bindRefusal (s : State) (p first lanesM1 : Nat) : Nat :=
  let others := (List.range 64).filterMap (laterBinding s)
  let x := lane s first
  let r := (x.record.map (·.1)).getD 0
  let used := sumL ((others.filter (fun b => b.firstLane / 8 == first / 8)).map (fun b => recChannels b.record))
  if (laterBinding s p).isSome then 1
  else if others.any (fun b => decide (b.firstLane ≤ first + lanesM1) && decide (first ≤ b.firstLane + b.lanesM1)) then 2
  else if 255 < first + lanesM1 then 3
  else if !(x.phase == .exchange && x.waitBind && x.record.isSome && recLaneIndex r == 0) then 6
  else if recLanesM1 r ≠ lanesM1 then 4
  else if 524288 < used + recChannels r then 5
  else 0

/-- R112: an unbind is refused while a lane of the partner is ACTIVE or waits in EXCHANGE. -/
def unbindRefused (s : State) (p : Nat) : Bool :=
  (partnerLanes s p).any (fun l => (lane s l).phase == .active || ((lane s l).phase == .exchange && (lane s l).waitBind))

/-- PARTNER_BIND at its start. -/
def partnerBindStart (m : Nat) (x : LdgCmd) (s : State) : State :=
  let w := x.w 1
  let p := fld w 21 16
  ldgChecks m x false false (fun s =>
    if bit w 31 then
      if unbindRefused s p then ldgAtOnce m x 5 7 [] s
      else ldgRun m x (.bind p) { s with bindPending := s.bindPending ++ [⟨p, m, none⟩] }
    else
      let r := bindRefusal s p (fld w 15 8) (fld w 2 0)
      if r ≠ 0 then ldgAtOnce m x 5 r [] s
      else
        let rec_ := ((lane s (fld w 15 8)).record.map (·.1)).getD 0
        ldgRun m x (.bind p) { s with bindPending := s.bindPending ++ [⟨p, m, some ⟨fld w 15 8, fld w 2 0, rec_, 0, false⟩⟩] }) s

/-- R381: a PARTNER_BIND completes at the tick of course `c` at which the map changed. -/
def bindComplete (c m p : Nat) (s : State) : State :=
  let b := match (partner s p).binding with | some b => mkFld 31 31 b.fit.toNat ||| mkFld 18 0 b.base | none => 0
  ldgComplete m 0 0 (b :: capCourse c) s

/-! ### PARTNER_CONFIG (R108, R109) -/

/-- PARTNER_CONFIG at its start. DESIGN CHOICE (log entry 179): a partner's transactions take TAG 0, 1, … modulo 16 in turn. -/
def partnerConfigStart (m : Nat) (x : LdgCmd) (s : State) : State :=
  let p := fld (x.w 1) 21 16
  let op := fld (x.w 1) 7 4
  ldgChecks m x (op != 1 && op != 2) (!domOn s (dlDomain p)) (fun s =>
    match firstLane s p with
    | some l =>
      if (lane s l).phase == .active then
        let k := (partner s p).nextTag
        let tx : CfgTx := if op = 1 then ⟨1, k, x.w 2, x.w 3, x.w 4, none⟩ else ⟨2, k, x.w 2, 0, 0, none⟩
        ldgRun m x (.config p) (modPartner p (fun y => { y with cfg := some tx, cfgDone := none, nextTag := (k + 1) % 16 }) s)
      else ldgAtOnce m x 5 1 [] s
    | none => ldgAtOnce m x 5 1 [] s) s

/-- R108, R375: a transaction that has not been sent ends with DOMAIN_OFF, or with BUSY after 1,024 BT. -/
def partnerConfigGoes (m : Nat) (r : LdgRun) (s : State) : State :=
  match r.wait with
  | .config p =>
    match (partner s p).cfg with
    | some t =>
      if t.sent.isSome then s
      else
        let s' := modPartner p (fun y => { y with cfg := none }) s
        if !domOn s (dlDomain p) then ldgComplete m 4 0 [] s'
        else if 1024 * 24 < cyclesSince r.started (nowStamp s) then ldgComplete m 6 1 [] s'
        else s
    | none => s
  | _ => s

/-- R109: transactions that have ended complete their commands. -/
def configAnswered (s : State) : State :=
  (List.range 8).foldl (fun t m =>
    match (mailbox t m).run with
    | some ⟨_, _, .config p, _⟩ =>
      let tag := ((partner t p).nextTag + 15) % 16
      let u := modPartner p (fun y => { y with cfgDone := none }) t
      match (partner t p).cfgDone with
      | some (some (status, data)) => ldgComplete m 0 0 [mkFld 7 4 tag ||| mkFld 3 0 status, data] u
      | some none => ldgComplete m 0x0A tag [mkFld 7 4 tag] u
      | none => t
    | _ => t) s

/-- BURIR_DATA_FRAME (R92 to R102): a block that the bed has delimited. -/
def burirFrame (l : Nat) (chars : List Byte) (closed codeError : Bool) (lag : Nat) (s : State) : State :=
  configAnswered (blockRx l chars closed codeError lag s)

/-- PARTNER_CFG_TIMEOUT (R109). -/
def partnerCfgTimeout (p : Nat) (s : State) : State := configAnswered (cfgTimeout p s)

/-! ### LANE_TRAIN (R83, R381) -/

/-- LANE_TRAIN: the lanes of the mask, and those acted on. -/
def laneTrainStart (m : Nat) (x : LdgCmd) (s : State) : State :=
  let lanes := (List.range 8).flatMap (fun i => wordBits (x.w (2 + i)) (32 * i))
  ldgChecks m x false false (fun s =>
    let r := lanes.foldl (fun (a : State × List Nat) l =>
      let y := if bit (x.w 1) 0 then laneRelease l a.1 else laneRetrain l a.1
      (y.1, if y.2 then a.2 ++ [l] else a.2)) (s, [])
    ldgAtOnce m x 0 0 (bitWords 8 r.2) r.1) s

/-! ### DELAY_MEASURE (R57, R58, R85) -/

/-- The partners of a DELAY_MEASURE. -/
def LdgCmd.measured (x : LdgCmd) : List Nat := wordBits (x.w 1) 0 ++ wordBits (x.w 2) 32

/-- R58: the measurement of a partner has ended, and a DELAY that it gave has taken effect. -/
def measureEnded (s : State) (p : Nat) : Bool :=
  match smFind s.quo.measured p with
  | some 0 => (partnerClock s p).pending.isNone
  | some _ => true
  | none => false

/-- The reason of a partner's measurement (R379), 0 for a result. -/
def measureReason (s : State) (p : Nat) : Nat := (smFind s.quo.measured p).getD 0

/-- R378: the results of a DELAY_MEASURE: the partners whose result took effect, and the reasons of the others. -/
def measureResults (s : State) (named : List Nat) : List Word :=
  let good := named.filter (fun p => measureReason s p == 0 && (partnerClock s p).pending.isNone)
  bitWords 2 good ++ (List.range 8).map (fun i => w32 (sumL ((named.filter (fun p => p / 8 == i)).map (fun p => measureReason s p * 16 ^ (p % 8)))))

/-- What the measurements of a DELAY_MEASURE left is dropped as it ends. -/
def measureDrop (named : List Nat) (s : State) : State := s.modQuo fun q => { q with measured := q.measured.filter (fun e => !named.contains e.1) }

/-- R378, R379: a DELAY_MEASURE whose measurements have all ended completes. -/
def measureCheck (m : Nat) (s : State) : State :=
  match (mailbox s m).run with
  | some ⟨_, _, .measure named, _⟩ =>
    if named.all (measureEnded s) then
      let bad := named.filter (fun p => measureReason s p != 0)
      ldgComplete m (if bad.isEmpty then 0 else if bad.length = named.length then 5 else 0x0B) bad.length (measureResults s named) (measureDrop named s)
    else s
  | _ => s

/-- Every DELAY_MEASURE that can complete does. -/
def measureChecks (s : State) : State := forN 8 measureCheck s

/-- DELAY_MEASURE at its start. -/
def delayMeasureStart (m : Nat) (x : LdgCmd) (s : State) : State :=
  let named := x.measured
  ldgChecks m x false (anyOff s (named.map dlDomain)) (fun s =>
    measureCheck m (forL named startMeasure (ldgRun m x (.measure named) s))) s

/-- R375: a measurement has markers to send and its downlink group is not ON. -/
def measureOff (s : State) (p : Nat) : Bool := (smFind s.quo.rounds p).isSome && (downlink s p).marker.isSome && !domOn s (dlDomain p)

/-- R57, R375: a DELAY_MEASURE that has a marker to send on a downlink whose group has left ON ends with DOMAIN_OFF, with the results that took effect;
after 1,024 BT the missing echoes are given up. -/
def delayMeasureGoes (m : Nat) (r : LdgRun) (s : State) : State :=
  match r.wait with
  | .measure named =>
    if named.any (measureOff s) then
      let s := forL named abandonMeasure s
      ldgComplete m 4 0 (measureResults s named) (measureDrop named s)
    else if 1024 * 24 < cyclesSince r.started (nowStamp s) then measureCheck m (forL named abandonMeasure s) else measureCheck m s
  | _ => s

/-- ECHO_RECEIVED (R57): an echo, and the command whose last it was. -/
def echoRow (l n trip : Nat) (s : State) : State := measureChecks (echoReceived l n trip s)

/-! ### CAL_LOAD, WALK_LOAD and CAL_SWAP (R128 to R130) -/

/-- Where a load goes: first entry number of the group's SRAM, and number of entries. -/
def LdgCmd.loadRange (x : LdgCmd) (dual : Bool) : Nat × Nat :=
  let bank := fld (x.w 1) 16 16
  if x.opcode = 0x22 then
    (524288 + bank * 16384 + fld (x.w 2) 13 8 * 256, (fld (x.w 2) 5 0 + 1 - fld (x.w 2) 13 8) * 256)
  else ((if dual then bank * 262144 else 0) + fld (x.w 2) 18 0, fld (x.w 3) 19 0)

/-- QA of a load's image. -/
def LdgCmd.imageQa (x : LdgCmd) : Nat := fld (x.w 4) 3 0 * 2 ^ 32 + (x.w 5).toNat

/-- R129: a load's bank is in force or about to be (1), or shows PREV_BUSY (2). -/
def loadBusy (s : State) (g : Nat) (walk : Bool) (bank : Nat) : Nat :=
  let b := if walk then 1 else 0
  let x := cbReg s .ashCalSel g
  let prev := if walk then (tgroup s g).walkPrevBusy else (tgroup s g).ofsPrevBusy
  if fld x.force b b = bank ∨ (x.waiting ∧ fld x.pend b b = bank) then 1 else if prev.isSome then 2 else 0

/-- The archive granules of a load. -/
def loadGranules (i0 n : Nat) : List Nat := (List.range ((i0 + n - 1) / 2048 + 1 - i0 / 2048)).map (i0 / 2048 + ·)

/-- R329, R193: an archive granule is good: its copy is valid, it bears no bad mark and its CRC matches. -/
def granuleGood (s : State) (g k : Nat) : Bool :=
  (tgroup s g).loaded.contains (blockBank (512 * k)) && !smGet false s.hbm.badMarks (g * 272 + k) && archiveCrcHolds s g k

/-- The running load of mailbox `m`. -/
def setLoad (m : Nat) (x : LoadRun × State) : State := setWait m (.load x.1) x.2

/-- A load writes its group's SRAM from here on: `granules` of the archive have been written. -/
def loadRun (m : Nat) (x : LdgCmd) (g i0 granules : Nat) (es : List (BitVec 16)) (s : State) : State :=
  let l : LoadRun := ⟨g, i0, es, loadGranules i0 es.length, [], granules⟩
  setLoad m (pieceBegin l (ldgRun m x (.load l) s))

/-- R128, R129, R375: the write of a piece ends and the next begins; the load completes after its last, or with DOMAIN_OFF where the group's domain has
left ON. -/
def loadGoes (m : Nat) (r : LdgRun) (s : State) : State :=
  match r.wait with
  | .load l =>
    if !domOn s l.group then ldgComplete m 4 0 [w32 l.written, w32 l.granules] (pieceBreak l s)
    else
      let y := pieceEnd l s
      if y.1.todo.isEmpty then ldgComplete m 0 0 [w32 l.entries.length, w32 l.granules] y.2
      else setLoad m (pieceBegin y.1 y.2)
  | _ => s

/-- CAL_LOAD and WALK_LOAD at their start: the checks, the archive, the first piece. -/
def loadStart (m : Nat) (x : LdgCmd) (s : State) : State :=
  let w := x.w 1
  let g := fld w 4 0
  let walk := x.opcode == 0x22
  let n0 := fld (x.w 3) 19 0
  ldgChecks m x (!walk && (n0 == 0 || decide (524288 < n0))) (anyOff s (g :: quarryDomains)) (fun s =>
    let dual := dualMode s g
    let r := x.loadRange dual
    let i0 := r.1
    let n := r.2
    let arch := bit w 31
    let past := if walk then decide (fld (x.w 2) 5 0 < fld (x.w 2) 13 8)
      else decide ((if dual then 262144 else 524288) < fld (x.w 2) 18 0 + n)
    let outside := !arch && !(decide (qaImage ≤ x.imageQa) && decide (x.imageQa + 2 * n + 4 ≤ qaScratch))
    let busy := if walk || dual then loadBusy s g walk (fld w 16 16) else 0
    if past || outside then ldgAtOnce m x 2 1 [] s
    else if busy ≠ 0 then ldgAtOnce m x 6 busy [] s
    else if arch then
      match (loadGranules i0 n).find? (fun k => !granuleGood s g k) with
      | some k => ldgAtOnce m x 7 k [] s
      | none => loadRun m x g i0 0 (imageEntries n (hbmRead s.hbm.bytes (archiveQa g + 2 * i0) (2 * n))) s
    else
      let bs := hbmRead s.hbm.bytes x.imageQa (2 * n)
      if leNat (hbmRead s.hbm.bytes (x.imageQa + 2 * n) 4) ≠ (crc32c bs).toNat then ldgAtOnce m x 7 1 [] s
      else loadRun m x g i0 (loadGranules i0 n).length (imageEntries n bs) (loadArchive g i0 (imageEntries n bs) s)) s

/-- R130: CAL_SWAP with SET_OFS is refused for a group in single mode, or with a pending DUAL value of 0. -/
def swapRefused (s : State) (g : Nat) : Bool :=
  let x := cbReg s .ashTgCfg g
  !dualMode s g || (x.waiting && !bit x.pend 0)

/-- The selection that a CAL_SWAP makes pending. -/
def swapWord (w2 old : Word) : Word :=
  let a := if bit w2 8 then setFld old 0 0 (fld w2 0 0) else old
  if bit w2 9 then setFld a 1 1 (fld w2 1 1) else a

/-- CAL_SWAP at its start: ASH_CAL_SEL becomes pending for every group of the mask. -/
def calSwapStart (m : Nat) (x : LdgCmd) (s : State) : State :=
  let gs := wordBits (x.w 1) 0
  let w2 := x.w 2
  ldgChecks m x false false (fun s =>
    if gs.isEmpty || !(bit w2 8 || bit w2 9) then ldgAtOnce m x 2 1 [] s
    else
      match if bit w2 8 then gs.find? (swapRefused s) else none with
      | some g => ldgAtOnce m x 5 (g + 1) [] s
      | none =>
        ldgRun m x (.calSwap gs) (forL gs (fun g t =>
          let r := cbReg t .ashCalSel g
          setCb .ashCalSel g (r.write (swapWord w2 r.pend)) t) s)) s

/-! ### TIME_DOMAIN_SELECT, ENGINE_MIGRATE, STREAM_MOVE (R51, R140, R270) -/

/-- TIME_DOMAIN_SELECT at its start: QUO_DOMAIN_SEL becomes pending. -/
def domainSelectStart (m : Nat) (x : LdgCmd) (s : State) : State :=
  ldgChecks m x false false (fun s =>
    ldgRun m x .domainSelect (setCb .quoDomainSel 0 ((cbReg s .quoDomainSel 0).write (x.w 1)) s)) s

/-- ENGINE_MIGRATE at its start. -/
def engineMigrateStart (m : Nat) (x : LdgCmd) (s : State) : State :=
  let sl := fld (x.w 1) 2 0
  ldgChecks m x false (anyOff s [52 + unmappedEngine s]) (fun s =>
    let r := migrateAccept m sl s
    if r.2 ≠ 0 then ldgAtOnce m x 5 r.2 [] s else ldgRun m x (.migrate sl) r.1) s

/-- STREAM_MOVE at its start. -/
def streamMoveStart (m : Nat) (x : LdgCmd) (s : State) : State :=
  let t := fld (x.w 1) 21 16
  let mirror := bit (x.w 1) 8
  let target := fld (x.w 1) 5 0
  ldgChecks m x (decide (48 ≤ t)) false (fun s =>
    let r := moveRefusal s t mirror target
    if r ≠ 0 then ldgAtOnce m x 5 r [] s
    else ldgRun m x (.streamMove t) (modStream t (fun y => { y with move := some ⟨mirror, target, nowCourse s + 2, m⟩ }) s)) s

/-! ### Jobs at their start (R197, R376, R379) -/

/-- QUARRY_EXPORT, RECALL_HOST and DECOMPRESS_CHECK at their start. -/
def jobStart (m : Nat) (x : LdgCmd) (s : State) : State :=
  ldgChecks m x x.jobBad (anyOff s quarryDomains) (fun s =>
    if nowCourse s + 64 < x.jobRange.2 then ldgAtOnce m x 2 1 [] s
    else if x.opcode != 0x42 && !hostReady s (boxPort m) then ldgAtOnce m x 9 0 [] s
    else jobSize m x (ldgRun m x (.job none) s)) s

/-- A job goes on. -/
def jobGoes (burst : List Nat) (m : Nat) (r : LdgRun) (s : State) : State :=
  match r.wait with
  | .job j => jobStep m r.cmd j burst s
  | .image w => imageGoes m w false id s
  | _ => s

/-! ### RETIRE_ADD, RETIRE_LIST, SCRUB_SET (R194, R195, R340) -/

/-- R194, R195, R334: a row joins the retirement map. -/
def retireRow (row : Word) (s : State) : State :=
  let s := { s with hbm := { s.hbm with retired := s.hbm.retired ++ [row] } }
  let n := s.hbm.retired.length
  let s := cnsPost (cnsDueNow s 7 row.toNat n) s
  let s := raise Src.memRowRetired (fld row 31 31) ((rowCapture row 0).take 4 ++ [w32 n]) (event .memEvt 0 16 s)
  if n = 4032 then raise Src.qryRetireNearFull 0 [w32 n] (event .qryEvt 0 21 s) else s

/-- RETIRE_ADD. -/
def retireAddStart (m : Nat) (x : LdgCmd) (s : State) : State :=
  ldgChecks m x false (anyOff s quarryDomains) (fun s =>
    if 4096 ≤ s.hbm.retired.length then ldgAtOnce m x 0x0D 0 [] s
    else if s.hbm.retired.contains (x.w 1) then ldgAtOnce m x 5 1 [] s
    else ldgAtOnce m x 0 0 [w32 (s.hbm.retired.length + 1)] (retireRow (x.w 1) s)) s

/-- RETIRE_LIST. -/
def retireListStart (m : Nat) (x : LdgCmd) (s : State) : State :=
  ldgChecks m x false false (fun s =>
    let l := (s.hbm.retired.drop (fld (x.w 1) 11 0)).take 12
    ldgAtOnce m x 0 0 ((mkFld 28 16 l.length ||| mkFld 12 0 s.hbm.retired.length) :: l) s) s

/-- SCRUB_SET. -/
def scrubSetStart (m : Nat) (x : LdgCmd) (s : State) : State :=
  let w := x.w 1
  let inRange := decide (1 ≤ fld w 31 24) && decide (fld w 31 24 ≤ 100) && decide (1 ≤ fld w 23 16) && decide (16 ≤ fld w 10 0) && decide (fld w 10 0 ≤ 1024)
  ldgChecks m x (!inRange) (!domOn s 79) (fun s => ldgAtOnce m x 0 0 [w] (setCell .memScrubCfg 0 0 w s)) s

/-! ### GAUGE_SELFCAL (R402) -/

/-- GAUGE_SELFCAL at its start. -/
def gaugeSelfcalStart (m : Nat) (x : LdgCmd) (s : State) : State :=
  ldgChecks m x (decide (2 ^ 21 ≤ (x.w 1).toNat)) (!gaugeRunning s) (fun s =>
    ldgRun m x (.selfcal (x.w 1).toNat) (selfcalBegin (x.w 1).toNat s)) s

/-- GAUGE_SELFCAL at its end, with what the converters integrated; DOMAIN_OFF where the Gauge stopped meanwhile (R375, R405). -/
def gaugeSelfcalGoes (readings : List (List GauCalReading)) (m : Nat) (r : LdgRun) (s : State) : State :=
  match r.wait with
  | .selfcal mask =>
    if !gaugeRunning s || (List.range 21).any (fun k => mask.testBit k && !(gauConv s k).selfcal) then
      ldgComplete m 4 0 [] (forN 21 (fun k t => if mask.testBit k then modConv k (fun v => { v with selfcal := false, settleAll := true }) t else t) s)
    else
      let y := selfcalEnd mask (fun k => readings.getD k []) s
      ldgComplete m 0 0 [w32 y.2.1, w32 y.2.2] y.1
  | _ => s

/-! ### PLB_READ, CNS_READ, CNS_CLEAR (R384, R444, R450, R451) -/

/-- An image goes to the host buffer, if the port can write and the buffer holds it. -/
def imageToHost (m : Nat) (x : LdgCmd) (image : List DWord) (after : List Word) (done : State → State) (s : State) : State :=
  let need := 8 * image.length
  if !hostReady s (boxPort m) then ldgAtOnce m x 9 0 [] s
  else if x.bufLen < need then ldgAtOnce m x 8 0 (two need) s
  else
    let w : ImageRun := ⟨x.bufAddr, image, 0, two need, after, s.cns.next⟩
    imageGoes m w (!domOn s 78) done (ldgRun m x (.image w) s)

/-- A PLB_READ or CNS_READ writes on. -/
def imageOn (m : Nat) (done : ImageRun → State → State) (r : LdgRun) (s : State) : State :=
  match r.wait with
  | .image w => imageGoes m w (!domOn s 78) (done w) s
  | _ => s

/-- PLB_READ. -/
def plbReadStart (m : Nat) (x : LdgCmd) (s : State) : State :=
  ldgChecks m x (!bufferGood x) (!domOn s 78) (fun s => imageToHost m x (plbImage (plbStoreRead s)) [] plbReadDone (plbStoreRead s)) s

/-- PLB_READ goes on. -/
def plbReadGoes (m : Nat) (r : LdgRun) (s : State) : State := imageOn m (fun _ => plbReadDone) r s

/-- CNS_READ. -/
def cnsReadStart (m : Nat) (x : LdgCmd) (s : State) : State :=
  ldgChecks m x (!bufferGood x) (!domOn s 78) (fun s =>
    imageToHost m x (cnsImage s) [imageCode (cnsImage s)] (cnsReadDone (imageCode (cnsImage s)) s.cns.next) s) s

/-- CNS_READ goes on. -/
def cnsReadGoes (m : Nat) (r : LdgRun) (s : State) : State := imageOn m (fun w => cnsReadDone (w.after.headD 0) w.next) r s

/-- CNS_CLEAR. -/
def cnsClearStart (m : Nat) (x : LdgCmd) (s : State) : State :=
  ldgChecks m x false false (fun s =>
    if clearGood s (x.w 1) then ldgAtOnce m x 0 0 [w32 s.cns.events.length] (cnsClear s) else ldgAtOnce m x 0x0E 0 [] s) s

/-! ### FAULT_ACK_BULK and DIAG_LOOP (R378, R385) -/

/-- R385: an entry is named by a FAULT_ACK_BULK. -/
def ackNames (x : LdgCmd) (e : LogEntry) : Bool :=
  let w := x.w 1
  let level := decide (e.level ≤ fld w 14 12)
  let source := !bit w 16 || e.report.source == fld w 11 0
  let number := if bit w 31 then !behind 32 e.seq (x.w 2).toNat && notAfter 32 e.seq (x.w 3).toNat
    else (List.range 14).any (fun i => x.w (i + 2) != 0 && (x.w (i + 2)).toNat == e.seq)
  level && source && number

/-- FAULT_ACK_BULK. -/
def faultAckBulkStart (m : Nat) (x : LdgCmd) (s : State) : State :=
  ldgChecks m x false false (fun s =>
    if bit (x.w 1) 31 && !seqIssued s (x.w 3).toNat then ldgAtOnce m x 5 1 [] s
    else
      let n := (s.flt.log.filter (fun e => ackNames x e && !e.acked)).length
      ldgAtOnce m x 0 0 [w32 n] (ackWhere (ackNames x) s)) s

/-- A 4 KiB granule of a 32-bit pattern, least significant byte first. -/
def patternGranule (w : Word) : List Byte := (List.range 1024).flatMap (fun _ => leBytes 4 w.toNat)

/-- DIAG_LOOP; `wrong`: the words of the granule that read back wrong. -/
def diagLoopStart (wrong m : Nat) (x : LdgCmd) (s : State) : State :=
  let mode := fld (x.w 1) 1 0
  let qa := fld (x.w 2) 3 0 * 2 ^ 32 + (x.w 3).toNat
  let badQa := !(qa % 4096 == 0 && decide (qaScratch ≤ qa) && decide (qa < qaReserve))
  let bad := mode == 3 || (mode == 1 && badQa) || (mode == 2 && (x.w 13).toNat % 8 != 0)
  ldgChecks m x bad (mode == 1 && anyOff s quarryDomains) (fun s =>
    match mode with
    | 0 => ldgAtOnce m x 0 0 ((List.range 13).map (fun i => x.w (i + 2))) s
    | 1 => ldgAtOnce m x 0 0 [w32 wrong] (s.hbmStore qa (patternGranule (x.w 4)))
    | _ =>
      if !hostReady s (boxPort m) then ldgAtOnce m x 9 0 [] s
      else ldgAtOnce m x 0 0 [] (hostStore (boxPort m) x.bufAddr ((List.range 4).map (fun i => x.w (5 + 2 * i) ++ x.w (4 + 2 * i))) s)) s

end Sys2Proof.Machine
end

