-- ==== Sys2Proof/Machine/Tick.lean ====
section
/-!
DEFINITION. The course tick: the ordered actions of R9 and every action that other rules place at a tick; and the core cycle that passes while no
command waits.
-/
namespace Sys2Proof.Machine

/-! ### Steps 1 and 2: the counters (R22, R26, R336) -/

/-- R247: the loss condition of the BT under way is noted. -/
def noteLoss (s : State) : State := lossSample (nowGbt s) (nowGbt s) s

/-- R26: the orbit item after `n` BT more in the orbit under way. Its 16 bits stop at 65,535, which no orbit's length exceeds. -/
def orbitAfter (n : Nat) (s : State) : Nat := nowOrbit s * 65536 + min 65535 (nowBtInOrbit s + n)

/-- R19: every course has 64 BT and 1,536 core cycles: what is left of the course passes before its tick. DESIGN CHOICE: a COURSE_TICK that is commanded
before core cycle 1,535 lets the cycles up to it pass. -/
def courseRest (s : State) : State :=
  let s := lossSample (nowGbt s) (nowCourse s * 64 + 63) (plbDrain (min (2 * (1535 - nowCycle s)) (s.plb.queue.length + 1)) (plbCycleEnd s))
  s.modBtr fun b => { b with
    pos := b.pos.move (BitVec.ofNat 11 (63 * 32 + 23)), orbit := b.orbit.move (BitVec.ofNat 64 (orbitAfter (63 - nowBt s) s)) }

/-- R22, R26: the counters at the tick that starts course `c`: core cycle 0 of BT 0. -/
def countersTick (c : Nat) (s : State) : State :=
  let orbit := orbitAfter (64 - nowBt s) s
  s.modBtr fun b => { b with
    pos := b.pos.move 0, course := b.course.move (BitVec.ofNat 56 c), orbit := b.orbit.move (BitVec.ofNat 64 orbit) }

/-- What is counted per course begins anew (R81, R88, R117, R262, R327). -/
def perCourse (s : State) : State :=
  let s := retrainCountReset (codeErrTick s)
  { s with
    groups := (s.groups.map (fun e => (e.1, { e.2 with entriesNow := 0 }))).filter (fun e => decide (e.2 ≠ TableGroup.reset))
    retLanes := (s.retLanes.map (fun e => (e.1, { e.2 with badRaised := false }))).filter (fun e => decide (e.2 ≠ RetLane.reset))
    mem := { s.mem with corrRaised := [] } }

/-! ### Step 3: course-buffered values (R9, R353) -/

/-- Every pending value becomes the value in force. -/
def cbApply (s : State) : State :=
  forL (cbOrder.filter (fun x => (cbReg s x.1 x.2).waiting)) (fun x t => setCb x.1 x.2 (cbReg t x.1 x.2).apply t) s

/-- R353, R51: the Quoin's domain selection that takes effect at this tick. -/
def selectionDue (s : State) : Option (Fin 2 × Bool) :=
  let x := cbReg s .quoDomainSel 0
  if x.waiting then some (if bit x.pend 0 then 1 else 0, bit x.pend 1) else none

/-- R267: the streams whose map takes effect at this tick. -/
def mapsDue (s : State) : List Nat := (List.range 48).filter (fun t => (cbReg s .uplStreamMap t).waiting)

/-- Course-buffered values take effect at the tick that starts course `c`, and what follows in the tables and the Lintel (R126, R130, R248). -/
def applyTick (c : Nat) (s : State) : State :=
  if s.btr.cb.any (fun e => e.2.waiting) then
    let old := lntTables s
    let changed := lntWaiting s
    let ofs := ofsWaiting s
    let groups := ((List.range 32).filter (fun g => (cbReg s .ashTgCfg g).waiting || (cbReg s .ashCalSel g).waiting)).map
      (fun g => (g, dualMode s g, fld (inForce s .ashCalSel g) 0 0))
    lintelTablesTick c old changed ofs (forL groups (fun x t => bankTick x.1 c x.2.1 x.2.2 t) (cbApply s))
  else s

/-- R110, R381: bindings take effect and their commands complete. -/
def bindingsTick (c : Nat) (s : State) : State :=
  let l := s.bindPending
  forL l (fun x t => bindComplete c x.mailbox x.partner t) (bindTick s)

/-- R381: the CAL_SWAP commands whose selections have taken effect complete. -/
def swapsTick (c : Nat) (s : State) : State :=
  forN 8 (fun m t =>
    match (mailbox t m).run with
    | some ⟨_, _, .calSwap _, _⟩ => ldgComplete m 0 0 (capCourse c) t
    | _ => t) s

/-- Step 3 of R9, unless HST_CB.HOLD is 1. -/
def stepThree (c : Nat) (s : State) : State :=
  if bit (cell s .hstCb) 0 then s else swapsTick c (bindingsTick c (applyTick c s))

/-! ### Step 4: ownership, and the Quoin (R36 to R52, R58, R140, R270) -/

/-- R270, R381: stream roles pass at the tick of their boundary, and their commands complete. -/
def movesTick (c : Nat) (s : State) : State :=
  let due := (movesDue s c).filterMap (fun x => (stream s x.1).move.map (fun m => (x.2, roleUplink (streamMap s x.1) m.mirror, m.target)))
  forL due (fun x t => ldgComplete x.1 0 0 ((mkFld 13 8 x.2.1 ||| mkFld 5 0 x.2.2) :: capCourse c) t) (moveStreams c s)

/-- R379: why a selection is not applied: 1 not LOCKED, 2 offsets unequal, 3 beyond QUO_SWITCH_MAX; 0 where it is applied. -/
def selectReason (free : Bool) (o : TickObs) (d : Fin 2) (force : Bool) (s : State) : Nat :=
  if !((qdom s d).phase == .locked) then 1
  else if d = s.quo.active then 0
  else if force && !free then 0
  else if !offsetAgrees s d then 2
  else if free || decide ((cell s .quoSwitchMax).toNat < (obsDiff o d).natAbs) then 3
  else 0

/-- R51, R381: a TIME_DOMAIN_SELECT completes at the tick of course `c`, with the reason of a refusal. -/
def selectsTick (c reason : Nat) (s : State) : State :=
  forN 8 (fun m t =>
    match (mailbox t m).run with
    | some ⟨_, _, .domainSelect, _⟩ =>
      if reason = 0 then ldgComplete m 0 0 (w32 t.quo.active.val :: capCourse c) t else ldgComplete m 5 reason [] t
    | _ => t) s

/-- Step 4 of R9 for the Quoin: lock, the oscillator, QUO_NOMINAL, the active domain, DELAY values. -/
def quoinTick (c : Nat) (o : TickObs) (startFree : Bool) (req : Option (Fin 2 × Bool)) (s : State) : State :=
  let s := quoTickLock 1 o.phaseOkB (quoTickLock 0 o.phaseOkA s)
  let s := quoTickNominal startFree (quoTickXo o s)
  let s := if o.xoPresent then uplRefBack s else s.modQuo fun q => { q with xoGone := true }
  let free := s.quo.servo == .free
  let judged := if free then servoFreeAcquire s else s
  let reason := match req with | some (d, force) => selectReason free o d force judged | none => 0
  let s := quoTickSwitch c o req s
  let s := if req.isSome then selectsTick c reason s else s
  measureChecks (forL (delayDue s) (fun p t => quoTickDelay p (modPartner p (fun x => { x with delayCal := true }) t)) s)

/-! ### Step 5: fault reactions and the data plane (R305 to R308, R312) -/

/-- R306, R312: isolation of a target takes effect; a target that has left ON meanwhile is not isolated. -/
def isolate (x : IsoPending) (s : State) : State :=
  if isIsolated s x.target || (targetDomains x.target).any (fun d => (powerDom s d).phase != .on && (powerDom s d).goal.isNone) then s
  else
    let s := s.modFlt fun f => { f with isolated := f.isolated ++ [x] }
    match x.target with
    | .none => s
    | .hostPort p => portOff p s
    | .bedGroup g => groupAvail g (groupDown g 6 s)
    | .engine e => engineIsolate e s
    | .quarter m => quarterCheck m (event .molEvt m 16 s)
    | .quarryCtl _ => quarryCheck s
    | .mortar u => throttle (unitCheck u s)
    | .lintel => lintelIsolate s
    | .uplinkGroup h => retCheck (2 * h + 1) (retCheck (2 * h) (uplGroupCheck h s))
    | .gauge => gaugeStop s
    | .plumb => plbIsolated s
    | .repointer => s

/-- R307: the engines discard the hit words that they hold. -/
def enginesDiscard (s : State) : State := forN 9 (fun e t => if (engine t e).queue.isEmpty then t else modEngine e (fun y => { y with queue := [] }) t) s

/-- R307, R271, R228, R251: the data plane stops. -/
def dataPlaneStop (source : Nat) (s : State) : State :=
  let s := enginesDiscard (event .fltEvt 0 19 (s.modFlt fun f => { f with stopped := some source, stopPending := none }))
  let s := quarryCheck (forN 4 quarterCheck s)
  let s := throttle (lintelStop (uplStop (mortarStop s)))
  if bit (cell s .plbCfg) 5 then plbFire 3 0 (timeTag s) s else s

/-- R308: the data plane restarts at the tick that starts course `c`. -/
def dataPlaneRestart (c : Nat) (s : State) : State :=
  let seq := s.flt.restartSeq
  let s := s.modFlt fun f => { f with
    stopped := none, restartPending := false, restartSeq := 0
    shadows := f.shadows.map (fun x => if x.kind = .dataPlane ∧ x.closeAt.isNone then { x with closeAt := some (c + 4) } else x) }
  let s := cnsPost (cnsDueNow s 9 seq 0) (event .fltEvt 0 20 s)
  throttle (startBlocks (lintelRestart (spanRestart (quarryCheck s))))

/-- Step 5 of R9. Of the events of one core cycle that reach a record, the stop decides before an isolated unit (R297). -/
def stepFive (c : Nat) (s : State) : State :=
  let s := if s.flt.restartPending && dpStopped s then dataPlaneRestart c s else s
  let s := if s.flt.stopPending.isSome then mortarStop s else s
  let l := s.flt.isoPending
  let s := forL l isolate (s.modFlt fun f => { f with isoPending := [] })
  match s.flt.stopPending with
  | some n => dataPlaneStop n s
  | none => s

/-! ### The tick -/

/-- Steps 1 and 2 of R9, at the tick that starts course `c`: what the vote has corrected is reported, the counters take their values, course `c` − 2
closes. `v`: the state after the vote, and the elements that it found. -/
def stepTwo (c : Nat) (o : TickObs) (v : State × List (Nat × Option Nat)) : State :=
  let s := quoTickLatch c o (countersTick c (btrInject v.1))
  ringRelease c (closeCourse c (perCourse (btrReports c v.2 s)))

/-- What takes effect at step 3 and matters to a later step: the domain selection, the stream maps, the lanes that become Lintel lanes. -/
structure TickDue where
  selection : Option (Fin 2 × Bool)
  maps : List Nat
  lanes : List Nat
  deriving DecidableEq, Repr

/-- R353: what is due at a tick, unless HST_CB.HOLD is 1. -/
def tickDue (s : State) : TickDue := if bit (cell s .hstCb) 0 then ⟨none, [], []⟩ else ⟨selectionDue s, mapsDue s, lanesDue s⟩

/-- Step 4 of R9 at the tick that starts course `c`; `d`: what took effect at step 3, whose map conflicts are settled first; `startFree`: the servo was FREE
at the start of the tick. -/
def stepFour (c : Nat) (o : TickObs) (startFree : Bool) (d : TickDue) (s : State) : State :=
  let s := if d.maps.isEmpty then s else resolveMaps d.maps s
  let s := quoinTick c o startFree d.selection (movesTick c (migrationTick c s))
  uplCheckAll (lintelConflicts d.lanes s)

/-- Blocks that enter service at a tick (R154, R171, R246), after step 5. -/
def serviceTick (c : Nat) (s : State) : State := lintelTick c (forN 4 (fun m t => quarterTick m c t) s)

/-- What falls due at a tick after the five steps of R9: offences, blocks that enter service, the course's quality, beacons. -/
def stepLast (c : Nat) (s : State) : State := statusBeacons c (quoTickWorst (serviceTick c (forN 64 offenceTick s)))

/-- R350: vector 18. -/
def tickSignal (c : Nat) (s : State) : State := if periodDue (fld (cell s .hstTick) 4 0) c then signal 18 s else s

/-- COURSE_TICK (R9): the tick that starts the next course. -/
def courseTick (o : TickObs) (s : State) : State :=
  let v := btrVote (courseRest s)
  let c := nowCourse v.1 + 1
  let u := stepTwo c o v
  tickSignal c (stepLast c (stepFive c (quarryTick c (stepFour c o (s.quo.servo == .free) (tickDue u) (stepThree c u)))))

/-! ### A core cycle without a command -/

/-- What passes while no command waits: one core cycle, up to the last of the course, whose end is COURSE_TICK; a fire of the Plumb that no
arm has taken is decided (R439), and its store takes two of the records that wait (R436). -/
def idleCycle (s : State) : State :=
  let s := plbDrain 2 (plbCycleEnd s)
  let k := nowCycle s
  if k = 1535 then noteLoss s
  else if (k + 1) % 24 ≠ 0 then s.modBtr fun b => { b with pos := b.pos.move (BitVec.ofNat 11 (nowBt s * 32 + k % 24 + 1)) }
  else
    let s := noteLoss s
    s.modBtr fun b => { b with
      pos := b.pos.move (BitVec.ofNat 11 ((nowBt s + 1) * 32))
      orbit := b.orbit.move (BitVec.ofNat 64 (orbitAfter 1 s)) }

end Sys2Proof.Machine
end

