-- ==== Sys2Proof/Machine/Rows.lean ====
section
/-!
DEFINITION. What the rows share: a command acts only on a block that has power and is out of reset (R424, R426), and a host access reaches it
only over a port whose link is in L0 (R344, DEDUCED: an endpoint without a link receives no requests).
-/
namespace Sys2Proof.Machine

/-- A command with one effect. -/
def upNext (f : State → State) (s : State) : Host.Outcome State Fault Refusal := .next (whenUp f s)

/-- Requests of port `p` arrive. -/
def linked (p : Nat) (s : State) : Bool := (hostPort s p).l0

/-- A BAR0 write of one DWORD by a host. -/
def hostRow (p off : Nat) (w : Word) (s : State) : Host.Outcome State Fault Refusal :=
  if isUp s && linked p s then hostWrite p off w s else .next s

/-- The number of a snapshot bank. -/
def bankNumber : BankId → Nat
  | .quo => 0
  | .plb => 1
  | .gau => 2
  | .crs => 3
  | .qry => 4
  | .mrt => 5
  | .flt => 6
  | .bed g => 8 + g

/-- BAR0 offset of a snapshot bank's selector register; the collector's bank has two, of which FLT_SNAP_SRC has a row of its own. -/
def bankSelector : BankId → Nat
  | .quo => regOff .quoSnapSel
  | .plb => regOff .plbSnapSel
  | .gau => regOff .gauSnapSel
  | .crs => regOff .crsSnapSel
  | .qry => regOff .qrySnapSel
  | .mrt => regOff .mrtSnapSel
  | .flt => regOff .fltSnapSeq
  | .bed g => regOff .bedSnapSel g

end Sys2Proof.Machine
end

