-- ==== Sys2Proof/Machine/RowsBed.lean ====
section
/-!
DEFINITION. The rows of chapters 04 and 05: downlinks, lanes, frames, partners: one meaning for each row.
-/
namespace Sys2Proof.Machine

/-- DOWNLINK_FRAME (R68). -/
def execDownlinkFrame (d : Fin 64) (s : State) : Host.Outcome State Fault Refusal := upNext (downlinkFrame d) s

/-- RESTART_REQUEST_DUE (R77). -/
def execRestartRequestDue (d : Fin 64) (s : State) : Host.Outcome State Fault Refusal := upNext (restartRequests d) s

/-- BED_DL_FC_SEND (R107). -/
def execBedDlFcSend (p : Fin 2) (d : Fin 64) (value : Word) (s : State) : Host.Outcome State Fault Refusal := hostRow p (regOff .bedDlFc d) value s

/-- DL_PLL_UNLOCK (R87). -/
def execDlPllUnlock (d : Fin 64) (s : State) : Host.Outcome State Fault Refusal := upNext (dlPllUnlock d) s

/-- DL_PLL_RELOCK (R87). -/
def execDlPllRelock (d : Fin 64) (s : State) : Host.Outcome State Fault Refusal := upNext (dlPllRelock d) s

/-- LANE_ENABLE_WRITE (R75). -/
def execLaneEnableWrite (p : Fin 2) (l : Fin 256) (value : Word) (s : State) : Host.Outcome State Fault Refusal :=
  hostRow p (regOff .bedLaneCfg l) value s

/-- LANE_SIGNAL_DETECT (R75). -/
def execLaneSignalDetect (l : Fin 256) (s : State) : Host.Outcome State Fault Refusal := upNext (laneSignalDetect l) s

/-- LANE_TRAIN_DONE (R75). -/
def execLaneTrainDone (l : Fin 256) (s : State) : Host.Outcome State Fault Refusal := upNext (laneTrainDone l) s

/-- LANE_TRAIN_TIMEOUT (R75). -/
def execLaneTrainTimeout (l : Fin 256) (s : State) : Host.Outcome State Fault Refusal := upNext (laneTrainTimeout l) s

/-- LANE_EXCHANGE_TIMEOUT (R75). -/
def execLaneExchangeTimeout (l : Fin 256) (s : State) : Host.Outcome State Fault Refusal := upNext (laneExchangeTimeout l) s

/-- LANE_SYNC_ACQUIRED (R75). -/
def execLaneSyncAcquired (l : Fin 256) (s : State) : Host.Outcome State Fault Refusal := upNext (laneSyncAcquired l) s

/-- EXCHANGE_BLOCK_RX (R78). -/
def execExchangeBlockRx (l : Fin 256) (record : BitVec 128) (crc : BitVec 32) (s : State) : Host.Outcome State Fault Refusal :=
  upNext (fun t => exchangeBlockRx l record crc (noteLoss t)) s

/-- LANE_LOSS_OF_SIGNAL (R80). -/
def execLaneLossOfSignal (l : Fin 256) (s : State) : Host.Outcome State Fault Refusal := upNext (laneLossOfSignal l) s

/-- LANE_CDR_UNLOCK (R80). -/
def execLaneCdrUnlock (l : Fin 256) (s : State) : Host.Outcome State Fault Refusal := upNext (laneCdrUnlock l) s

/-- LANE_SYNC_LOSS (R80). -/
def execLaneSyncLoss (l : Fin 256) (s : State) : Host.Outcome State Fault Refusal := upNext (laneSyncLoss l) s

/-- RETRAIN_COUNT_RESET (R81). -/
def execRetrainCountReset (s : State) : Host.Outcome State Fault Refusal := upNext retrainCountReset s

/-- LANE_CODE_ERROR (R67). -/
def execLaneCodeError (l : Fin 256) (s : State) : Host.Outcome State Fault Refusal := upNext (laneCodeError l) s

/-- ECHO_RECEIVED (R57). -/
def execEchoReceived (l : Fin 256) (round : Nat) (trip : Nat) (s : State) : Host.Outcome State Fault Refusal := upNext (echoRow l round trip) s

/-- BURIR_DATA_FRAME (R93). -/
def execBurirDataFrame (l : Fin 256) (frame : RxFrame) (closed : Bool) (lag : Nat) (s : State) : Host.Outcome State Fault Refusal :=
  upNext (burirFrame l frame.chars closed frame.codeError lag) s

/-- SPAN_TIMEOUT (R114). -/
def execSpanTimeout (l : Fin 256) (s : State) : Host.Outcome State Fault Refusal := upNext (spanTimeout l) s

/-- CONFIG_RESPONSE_FRAME (R109). -/
def execConfigResponseFrame (l : Fin 256) (frame : RxFrame) (s : State) : Host.Outcome State Fault Refusal :=
  upNext (burirFrame l frame.chars true frame.codeError 0) s

/-- PARTNER_CFG_TIMEOUT (R109). -/
def execPartnerCfgTimeout (p : Fin 64) (s : State) : Host.Outcome State Fault Refusal := upNext (partnerCfgTimeout p) s

end Sys2Proof.Machine
end

