-- ==== Sys2Proof/Machine/RowsFaults.lean ====
section
/-!
DEFINITION. The rows of chapter 13: fault collector: one meaning for each row.
-/
namespace Sys2Proof.Machine

/-- FAULT_REPORT (R301). -/
def execFaultReport (index : Nat) (s : State) : Host.Outcome State Fault Refusal := upNext (faultReport index) s

/-- FAULT_LOG (R301). -/
def execFaultLog (s : State) : Host.Outcome State Fault Refusal := upNext faultLog s

/-- SHADOW_CLOSE (R314). -/
def execShadowClose (s : State) : Host.Outcome State Fault Refusal := upNext shadowClose s

/-- QUIET_RECOVERY (R317). -/
def execQuietRecovery (source : BitVec 12) (s : State) : Host.Outcome State Fault Refusal := upNext (quietRecovery source.toNat) s

/-- FLT_ACK (R319). -/
def execFltAck (p : Fin 2) (value : Word) (s : State) : Host.Outcome State Fault Refusal := hostRow p (regOff .fltAck) value s

/-- FLT_ACK_UPTO (R319). -/
def execFltAckUpto (p : Fin 2) (value : Word) (s : State) : Host.Outcome State Fault Refusal := hostRow p (regOff .fltAckUpto) value s

/-- FLT_DP_CTL (R308). -/
def execFltDpCtl (p : Fin 2) (value : Word) (s : State) : Host.Outcome State Fault Refusal := hostRow p (regOff .fltDpCtl) value s

/-- FLT_SNAP_SEQ (R321). -/
def execFltSnapSeq (p : Fin 2) (value : Word) (s : State) : Host.Outcome State Fault Refusal := hostRow p (regOff .fltSnapSeq) value s

/-- FLT_SNAP_SRC (R318). -/
def execFltSnapSrc (p : Fin 2) (value : Word) (s : State) : Host.Outcome State Fault Refusal := hostRow p (regOff .fltSnapSrc) value s

end Sys2Proof.Machine
end

