-- ==== Sys2Proof/Machine/RowsGauge.lean ====
section
/-!
DEFINITION. The rows of chapter 17: the Gauge: one meaning for each row.
-/
namespace Sys2Proof.Machine

/-- CONVERSION_END (R392). -/
def execConversionEnd (k : Fin 21) (reading : GauReading) (s : State) : Host.Outcome State Fault Refusal := upNext (conversionEnd k reading) s

/-- MULTIPLEXER_STEP (R394). -/
def execMultiplexerStep (k : Fin 21) (s : State) : Host.Outcome State Fault Refusal := upNext (muxStep k) s

/-- BURNOUT_CHECK (R400). -/
def execBurnoutCheck (k : Fin 21) (isOpen : Bool) (s : State) : Host.Outcome State Fault Refusal := upNext (burnoutCheck k isOpen) s

/-- GAU_ALIGN_START (R393). -/
def execGauAlignStart (s : State) : Host.Outcome State Fault Refusal := upNext alignStart s

/-- GAU_OPEN (R391). -/
def execGauOpen (c : Fin 64) (s : State) : Host.Outcome State Fault Refusal := upNext (gauOpenSet c) s

/-- GAU_OPEN_CLEAR (R399). -/
def execGauOpenClear (c : Fin 64) (s : State) : Host.Outcome State Fault Refusal := upNext (gauOpenClear c) s

/-- GAU_EXC_FAULT (R391). -/
def execGauExcFault (c : Fin 64) (s : State) : Host.Outcome State Fault Refusal := upNext (gauExcFault c) s

/-- EXC_RETRY (R391). -/
def execExcRetry (c : Fin 64) (within : Bool) (s : State) : Host.Outcome State Fault Refusal := upNext (excRetry c within) s

/-- BLANK_EDGE (R401). -/
def execBlankEdge (pin : Fin 2) (asserted : Bool) (s : State) : Host.Outcome State Fault Refusal := .next (blankEdge pin asserted s)

/-- GAU_OUTPUT_PERIOD (R406). -/
def execGauOutputPeriod (o : Fin 16) (readback : GauReadback) (s : State) : Host.Outcome State Fault Refusal :=
  upNext (outputPeriod o readback) s

/-- GAU_CHANNEL_CONFIG_WRITE (R397). -/
def execGauChannelConfigWrite (p : Fin 2) (c : Fin 72) (value : Word) (s : State) : Host.Outcome State Fault Refusal :=
  hostRow p (regOff .gauChCfg c) value s

/-- INTEGRATION_START (R393). -/
def execIntegrationStart (k : Fin 21) (s : State) : Host.Outcome State Fault Refusal := upNext (integrationStart k) s

end Sys2Proof.Machine
end

