-- ==== Sys2Proof/Machine/RowsHost.lean ====
section
/-!
DEFINITION. The rows of chapter 15: registers, snapshots, PCI Express endpoints: one meaning for each row.
-/
namespace Sys2Proof.Machine

/-- SNAPSHOT_SELECT (R357). -/
def execSnapshotSelect (p : Fin 2) (bank : BankId) (value : Word) (s : State) : Host.Outcome State Fault Refusal :=
  hostRow p (bankSelector bank) value s

/-- SNAPSHOT_CAPTURE (R357). -/
def execSnapshotCapture (p : Fin 2) (bank : BankId) (s : State) : Host.Outcome State Fault Refusal := upNext (snapCapture p (bankNumber bank)) s

/-- SQC_CLEAR_WRITE (R355). -/
def execSqcClearWrite (p : Fin 2) (offset : BitVec 24) (value : Word) (s : State) : Host.Outcome State Fault Refusal :=
  hostRow p (offset.toNat) value s

/-- CNT_CLR (R352). -/
def execCntClr (p : Fin 2) (offset : BitVec 24) (value : Word) (s : State) : Host.Outcome State Fault Refusal := hostRow p (offset.toNat) value s

/-- REGISTER_WRITE (R352). -/
def execRegisterWrite (p : Fin 2) (offset : BitVec 24) (value : Word) (s : State) : Host.Outcome State Fault Refusal :=
  hostRow p (offset.toNat) value s

/-- BAD_ACCESS (R345). -/
def execBadAccess (access : BarAccess) (s : State) : Host.Outcome State Fault Refusal :=
  upNext (fun t => if linked access.port t then badRequest access t else t) s

/-- HST_OWNER_WRITE (R348). -/
def execHstOwnerWrite (p : Fin 2) (value : Word) (s : State) : Host.Outcome State Fault Refusal := hostRow p (regOff .hstOwner) value s

/-- ONCE_WRITE (R359). -/
def execOnceWrite (p : Fin 2) (position : Bool) (value : Word) (s : State) : Host.Outcome State Fault Refusal :=
  hostRow p (if position then regOff .hstInstallPos else regOff .hstDeviceId) value s

/-- BIT_ALIAS_WRITE (R361). -/
def execBitAliasWrite (p : Fin 2) (offset : BitVec 23) (value : Word) (s : State) : Host.Outcome State Fault Refusal :=
  upNext (fun t => if linked p t then aliasWrite p offset.toNat value t else t) s

/-- MSIX_MESSAGE (R351). -/
def execMsixMessage (p : Fin 2) (vector : Fin 32) (s : State) : Host.Outcome State Fault Refusal := upNext (msixMessage p vector) s

/-- IRQ_HOLDOFF_EXPIRY (R351). -/
def execIrqHoldoffExpiry (p : Fin 2) (vector : Fin 32) (s : State) : Host.Outcome State Fault Refusal := upNext (holdoffExpiry p vector) s

/-- PERST_ASSERT (R344). -/
def execPerstAssert (reset : PortReset) (s : State) : Host.Outcome State Fault Refusal :=
  .next (if reset.hot then hotReset reset.port s else perstAssert reset.port s)

/-- PERST_RELEASE (R344). -/
def execPerstRelease (p : Fin 2) (s : State) : Host.Outcome State Fault Refusal := .next (perstRelease p s)

/-- HST_FLR (R344). -/
def execHstFlr (p : Fin 2) (s : State) : Host.Outcome State Fault Refusal := upNext (fun t => if linked p t then functionReset p t else t) s

/-- HST_LINK_DOWN (R344). -/
def execHstLinkDown (p : Fin 2) (training : Word) (s : State) : Host.Outcome State Fault Refusal := upNext (linkDown p training) s

/-- HST_LINK_UP (R344). -/
def execHstLinkUp (p : Fin 2) (width : Fin 5) (speed : Fin 5) (s : State) : Host.Outcome State Fault Refusal := upNext (linkUp p width speed) s

/-- HST_AER_UNCORR (R344). -/
def execHstAerUncorr (p : Fin 2) (status : Word) (header : BitVec 128) (s : State) : Host.Outcome State Fault Refusal :=
  upNext (fun t => if domOn t (50 + p) then aerUncorr p status header t else t) s

/-- AER_CORR (R362). -/
def execAerCorr (report : AerReport) (s : State) : Host.Outcome State Fault Refusal :=
  upNext (fun t => if domOn t (50 + report.port) then aerCorr report.port report.status t else t) s

/-- PCIE_CONFIG_WRITE (R343). -/
def execPcieConfigWrite (p : Fin 2) (bme : Bool) (msix : MsixControl) (d3 : Bool) (s : State) : Host.Outcome State Fault Refusal :=
  upNext (pcieConfigWrite p bme msix.enable msix.mask d3) s

end Sys2Proof.Machine
end

