-- ==== Sys2Proof/Machine/RowsLinks.lean ====
section
/-!
DEFINITION. The rows of chapters 10 to 12: Lintel, uplinks, return lanes, streams: one meaning for each row.
-/
namespace Sys2Proof.Machine

/-- LINTEL_GROUP_CLOSE (R236). -/
def execLintelGroupClose (err : Option Nat) (s : State) : Host.Outcome State Fault Refusal := upNext (lintelGroupClose err) s

/-- LINTEL_FRAME_SEND (R235). -/
def execLintelFrameSend (s : State) : Host.Outcome State Fault Refusal := upNext lintelFrameSend s

/-- CREDIT (R263). -/
def execCredit (r : Fin 16) (message : BitVec 64) (s : State) : Host.Outcome State Fault Refusal := upNext (creditMessage r message) s

/-- INIT (R263). -/
def execInit (r : Fin 16) (message : BitVec 64) (s : State) : Host.Outcome State Fault Refusal := upNext (creditMessage r message) s

/-- UPL_CREDIT_BAD (R262). -/
def execUplCreditBad (r : Fin 16) (message : BitVec 64) (s : State) : Host.Outcome State Fault Refusal :=
  upNext (fun t => if retAble t r && (retLane t r).sync then creditBad r message t else t) s

/-- RL_SYNC_LOST (R261). -/
def execRlSyncLost (r : Fin 16) (s : State) : Host.Outcome State Fault Refusal := upNext (rlSyncLost r) s

/-- RL_SYNC_GAINED (R261). -/
def execRlSyncGained (r : Fin 16) (s : State) : Host.Outcome State Fault Refusal := upNext (rlSyncGained r) s

/-- RL_CODE_ERROR (R259). -/
def execRlCodeError (r : Fin 16) (s : State) : Host.Outcome State Fault Refusal := upNext (rlCodeError r) s

/-- INIT_REQUEST_SEND (R259). -/
def execInitRequestSend (u : Fin 64) (s : State) : Host.Outcome State Fault Refusal := upNext (initRequestSend u) s

/-- RECORD_BLOCK_SENT (R264). -/
def execRecordBlockSent (u : Fin 64) (s : State) : Host.Outcome State Fault Refusal := upNext (recordBlockSent u) s

/-- UPL_PLL_UNLOCK (R265). -/
def execUplPllUnlock (h : Fin 8) (s : State) : Host.Outcome State Fault Refusal := upNext (uplPllUnlock h) s

/-- UPL_REF_HOLD (R257). -/
def execUplRefHold (h : Fin 8) (s : State) : Host.Outcome State Fault Refusal := upNext (uplRefHold h) s

/-- UPL_PLL_LOCK (R265). -/
def execUplPllLock (h : Fin 8) (s : State) : Host.Outcome State Fault Refusal := upNext (uplPllLock h) s

/-- UPL_LINK_ENABLE_WRITE (R265). -/
def execUplLinkEnableWrite (p : Fin 2) (u : Fin 64) (value : Word) (s : State) : Host.Outcome State Fault Refusal :=
  hostRow p (regOff .uplLinkCfg u) value s

/-- STREAM_MAP_WRITE (R268). -/
def execStreamMapWrite (p : Fin 2) (t : Fin 48) (value : Word) (s : State) : Host.Outcome State Fault Refusal :=
  hostRow p (regOff .uplStreamMap t) value s

end Sys2Proof.Machine
end

