-- ==== Sys2Proof/Machine/RowsLodge.lean ====
section
/-!
DEFINITION. The rows of chapter 16: mailboxes and the command set: one meaning for each row.
-/
namespace Sys2Proof.Machine

/-- LDG_MB_SUBMIT (R365). -/
def execLdgMbSubmit (p : Fin 2) (m : Fin 8) (value : Word) (s : State) : Host.Outcome State Fault Refusal :=
  hostRow p (regOff .ldgMbSubmit m) value s

/-- LDG_MB_ACK (R369). -/
def execLdgMbAck (p : Fin 2) (m : Fin 8) (value : Word) (s : State) : Host.Outcome State Fault Refusal := hostRow p (regOff .ldgMbAck m) value s

/-- RESPONSE_PLACED (R368). -/
def execResponsePlaced (m : Fin 8) (s : State) : Host.Outcome State Fault Refusal := upNext (responsePlaced m) s

/-- LDG_OVERTIME (R374). -/
def execLdgOvertime (m : Fin 8) (cycles : Word) (s : State) : Host.Outcome State Fault Refusal := upNext (ldgOvertime m cycles.toNat) s

/-- UNKNOWN_OPCODE (R372). -/
def execUnknownOpcode (m : Fin 8) (s : State) : Host.Outcome State Fault Refusal := upNext (unknownOpcode m) s

/-- POWER_SET (R380). -/
def execPowerSet (m : Fin 8) (s : State) : Host.Outcome State Fault Refusal := upNext (lodgeRow 0x01 m (powerSetStart m) (fun _ t => t)) s

/-- POWER_QUERY (R378). -/
def execPowerQuery (m : Fin 8) (s : State) : Host.Outcome State Fault Refusal := upNext (lodgeRow 0x02 m (powerQueryStart m) (fun _ t => t)) s

/-- PARTNER_BIND (R110). -/
def execPartnerBind (m : Fin 8) (s : State) : Host.Outcome State Fault Refusal := upNext (lodgeRow 0x10 m (partnerBindStart m) (fun _ t => t)) s

/-- PARTNER_CONFIG (R108). -/
def execPartnerConfig (m : Fin 8) (s : State) : Host.Outcome State Fault Refusal :=
  upNext (lodgeRow 0x11 m (partnerConfigStart m) (partnerConfigGoes m)) s

/-- LANE_TRAIN (R83). -/
def execLaneTrain (m : Fin 8) (s : State) : Host.Outcome State Fault Refusal := upNext (lodgeRow 0x12 m (laneTrainStart m) (fun _ t => t)) s

/-- DELAY_MEASURE (R57). -/
def execDelayMeasure (m : Fin 8) (s : State) : Host.Outcome State Fault Refusal :=
  upNext (lodgeRow 0x13 m (delayMeasureStart m) (delayMeasureGoes m)) s

/-- CAL_LOAD (R128). -/
def execCalLoad (m : Fin 8) (s : State) : Host.Outcome State Fault Refusal := upNext (lodgeRow 0x20 m (loadStart m) (loadGoes m)) s

/-- CAL_SWAP (R130). -/
def execCalSwap (m : Fin 8) (s : State) : Host.Outcome State Fault Refusal := upNext (lodgeRow 0x21 m (calSwapStart m) (fun _ t => t)) s

/-- WALK_LOAD (R128). -/
def execWalkLoad (m : Fin 8) (s : State) : Host.Outcome State Fault Refusal := upNext (lodgeRow 0x22 m (loadStart m) (loadGoes m)) s

/-- TIME_DOMAIN_SELECT (R51). -/
def execTimeDomainSelect (m : Fin 8) (s : State) : Host.Outcome State Fault Refusal :=
  upNext (lodgeRow 0x30 m (domainSelectStart m) (fun _ t => t)) s

/-- ENGINE_MIGRATE (R140). -/
def execEngineMigrate (m : Fin 8) (s : State) : Host.Outcome State Fault Refusal := upNext (lodgeRow 0x31 m (engineMigrateStart m) (fun _ t => t)) s

/-- STREAM_MOVE (R270). -/
def execStreamMove (m : Fin 8) (s : State) : Host.Outcome State Fault Refusal := upNext (lodgeRow 0x32 m (streamMoveStart m) (fun _ t => t)) s

/-- QUARRY_EXPORT (R382). -/
def execQuarryExport (m : Fin 8) (burst : List Nat) (s : State) : Host.Outcome State Fault Refusal :=
  upNext (lodgeRow 0x40 m (jobStart m) (jobGoes burst m)) s

/-- RECALL_HOST (R383). -/
def execRecallHost (m : Fin 8) (burst : List Nat) (s : State) : Host.Outcome State Fault Refusal :=
  upNext (lodgeRow 0x41 m (jobStart m) (jobGoes burst m)) s

/-- DECOMPRESS_CHECK (R383). -/
def execDecompressCheck (m : Fin 8) (burst : List Nat) (s : State) : Host.Outcome State Fault Refusal :=
  upNext (lodgeRow 0x42 m (jobStart m) (jobGoes burst m)) s

/-- RETIRE_ADD (R194). -/
def execRetireAdd (m : Fin 8) (s : State) : Host.Outcome State Fault Refusal := upNext (lodgeRow 0x50 m (retireAddStart m) (fun _ t => t)) s

/-- RETIRE_LIST (R194). -/
def execRetireList (m : Fin 8) (s : State) : Host.Outcome State Fault Refusal := upNext (lodgeRow 0x51 m (retireListStart m) (fun _ t => t)) s

/-- SCRUB_SET (R340). -/
def execScrubSet (m : Fin 8) (s : State) : Host.Outcome State Fault Refusal := upNext (lodgeRow 0x52 m (scrubSetStart m) (fun _ t => t)) s

/-- GAUGE_SELFCAL (R402). -/
def execGaugeSelfcal (m : Fin 8) (readings : List (List GauCalReading)) (s : State) : Host.Outcome State Fault Refusal :=
  upNext (lodgeRow 0x60 m (gaugeSelfcalStart m) (gaugeSelfcalGoes readings m)) s

/-- PLB_READ (R444). -/
def execPlbRead (m : Fin 8) (s : State) : Host.Outcome State Fault Refusal := upNext (lodgeRow 0x70 m (plbReadStart m) (plbReadGoes m)) s

/-- CNS_READ (R450). -/
def execCnsRead (m : Fin 8) (s : State) : Host.Outcome State Fault Refusal := upNext (lodgeRow 0x71 m (cnsReadStart m) (cnsReadGoes m)) s

/-- CNS_CLEAR (R384). -/
def execCnsClear (m : Fin 8) (s : State) : Host.Outcome State Fault Refusal := upNext (lodgeRow 0x72 m (cnsClearStart m) (fun _ t => t)) s

/-- FAULT_ACK_BULK (R385). -/
def execFaultAckBulk (m : Fin 8) (s : State) : Host.Outcome State Fault Refusal := upNext (lodgeRow 0x80 m (faultAckBulkStart m) (fun _ t => t)) s

/-- DIAG_LOOP (R378). -/
def execDiagLoop (m : Fin 8) (wrong : Nat) (s : State) : Host.Outcome State Fault Refusal :=
  upNext (lodgeRow 0xF0 m (diagLoopStart wrong m) (fun _ t => t)) s

end Sys2Proof.Machine
end

