-- ==== Sys2Proof/Machine/RowsMortar.lean ====
section
/-!
DEFINITION. The rows of chapter 09: accepts, recalls, fragments, mortar units: one meaning for each row.
-/
namespace Sys2Proof.Machine

/-- ACCEPT (R204). -/
def execAccept (d : Fin 2) (body : List Byte) (s : State) : Host.Outcome State Fault Refusal := upNext (messageRx false d body) s

/-- RECALL (R204). -/
def execRecallMessage (d : Fin 2) (body : List Byte) (s : State) : Host.Outcome State Fault Refusal := upNext (messageRx true d body) s

/-- RECALL_PIECE_SUBMIT (R213). -/
def execRecallPieceSubmit (u : Fin 4) (s : State) : Host.Outcome State Fault Refusal := upNext (recallPiece u) s

/-- EXTRACTION_DONE (R211). -/
def execExtractionDone (u : Fin 4) (id : Nat) (faults : List ExtractFault) (s : State) : Host.Outcome State Fault Refusal :=
  upNext (extractionDone u id faults) s

/-- FRAGMENT_COMPLETE (R217). -/
def execFragmentComplete (t : Fin 48) (id : Nat) (s : State) : Host.Outcome State Fault Refusal := upNext (fragmentComplete t id) s

/-- RECORD_RELEASE (R217). -/
def execRecordRelease (t : Fin 48) (khz : BitVec 16) (s : State) : Host.Outcome State Fault Refusal := upNext (recordRelease t khz.toNat) s

/-- CELL_WAIT (R220). -/
def execCellWait (t : Fin 48) (id : Nat) (s : State) : Host.Outcome State Fault Refusal := upNext (cellWait t id) s

/-- HEAD_WAIT_EXPIRY (R220). -/
def execHeadWaitExpiry (t : Fin 48) (s : State) : Host.Outcome State Fault Refusal := upNext (headWaitExpiry t) s

/-- MRT_CELL_UNCORR (R221). -/
def execMrtCellUncorr (u : Fin 4) (cell : BitVec 16) (t : Fin 48) (key : Nat) (released : Bool) (s : State) : Host.Outcome State Fault Refusal :=
  upNext (cellUncorrRow u cell.toNat t key released) s

/-- FLUSH (R227). -/
def execFlush (p : Fin 2) (t : Fin 48) (s : State) : Host.Outcome State Fault Refusal := hostRow p (regOff .mrtStreamCtl t) 1 s

/-- RESYNC (R204). -/
def execResync (p : Fin 2) (value : Word) (s : State) : Host.Outcome State Fault Refusal := hostRow p (regOff .mrtAccCtl) (value ||| 8) s

/-- MRT_UNIT_OUT (R228). -/
def execMrtUnitOut (u : Fin 4) (s : State) : Host.Outcome State Fault Refusal := upNext (fun t => throttle (unitCheck u t)) s

end Sys2Proof.Machine
end

