-- ==== Sys2Proof/Machine/Pins.lean ====
section
/-!
DEFINITION. What the balls show (R226, R309, R343, R390, R408, R441, R442, R465, R467), where they lie (R456 to R458), and the clock domains (R473).
-/
namespace Sys2Proof.Machine

/-- R465, R467: a ball without input or after a trip, under a JTAG instruction, during foundation reset, and else as its rules say. -/
def ballLevel (s : State) (reset rules : BallLevel) : BallLevel :=
  if s.pwr.trip.isSome then .highZ
  else
    match s.jtag.instr with
    | .highz => .highZ
    | .extest | .extestPulse | .extestTrain | .clamp => .boundary
    | .bypass | .samplePreload => if s.pwr.inReset then reset else rules

/-- An active-low output that follows a condition. -/
def lineLevel (on : Bool) : BallLevel := if on then .asserted else .released

/-- R309: FAULT_N. -/
def faultBall (s : State) : BallLevel := ballLevel s .asserted (lineLevel (faultAsserted s))

/-- R309: ALARM_N, the same on both balls. -/
def alarmBall (s : State) : BallLevel := ballLevel s .asserted (lineLevel (alarmAsserted s))

/-- R226, R426: THROT_N, the same on both balls. -/
def throttleBall (s : State) : BallLevel := ballLevel s .asserted (lineLevel s.mrt.asserted)

/-- R343: CLKREQ_N[p], low whenever input power is valid. -/
def clkreqBall (s : State) : BallLevel := ballLevel s .asserted .asserted

/-- R343: ACT_N[p], asserted while the port's link is in L0. -/
def actBall (s : State) (p : Nat) : BallLevel := ballLevel s .released (lineLevel (hostPort s p).l0)

/-- R441: PLB_ARM, driven only with MASTER = 1: high while the device is ARMED or TRIGGERED. -/
def plbArmBall (s : State) : BallLevel :=
  ballLevel s .input (if bit (cell s .plbCfg) 1 then lineLevel (s.plb.phase == .armed || s.plb.phase == .triggered) else .input)

/-- R442: PLB_FIRE, pulled low while the device drives it. -/
def plbFireBall (s : State) : BallLevel := ballLevel s .released (lineLevel s.plb.driving)

/-- R408: GAU_OUT[o]. -/
def gauOutBall (s : State) (o : Nat) : BallLevel := ballLevel s .highZ (if (smGet .reset s.gau.outs o).highZ then .highZ else .driven)

/-- R465, R467: a serial transmitter: electrical idle without input, after a trip, during foundation reset and until its domain is ON. -/
def serialBall (s : State) (n : Nat) (sends : Bool) : BallLevel :=
  if s.pwr.trip.isSome then .idle else ballLevel s .idle (if domOn s n && sends then .driven else .idle)

/-- R87, R104: DL_TX[d]: after a squelch electrical idle until the first frame mark. -/
def dlTxBall (s : State) (d : Nat) : BallLevel := serialBall s (dlDomain d) (dlSending s d && !(downlink s d).squelched)

/-- R265, R467: UPL_TX[u]: grout and blocks in every state but DOWN. -/
def uplTxBall (s : State) (u : Nat) : BallLevel := serialBall s (40 + u / 8) ((smGet .reset s.uplinks u).phase != .down)

/-- R31, R467: QUO_TX of domain A (0) or B (1). -/
def quoTxBall (s : State) (k : Nat) : BallLevel := serialBall s (48 + k) true

/-- R363, R467: PE_TX of port `p`: it trains once PERST_N is released. -/
def peTxBall (s : State) (p : Nat) : BallLevel := serialBall s (50 + p) (!(hostPort s p).perst)

/-- R390, R465, R467: the GAU_A and GAU_B pair of channel `c`: high impedance, or its source; one that has folded back drives 0 V (R391). -/
def gauBall (s : State) (c : Nat) : BallLevel :=
  ballLevel s .highZ (if sourcesOn s && sourceOf s c != 0 then .driven else .highZ)

/-- R464: TDO: high impedance except while a register is shifted. -/
def tdoBall (s : State) : BallLevel := if s.pwr.trip.isNone && s.jtag.shifting then .driven else .highZ

/-! ### The ball field (R456 to R458) -/

/-- The pair of a row whose pairs stand every four columns: its place in the row, and whether the column is its N ball. -/
def pairAt (col : Nat) : Option (Nat × Bool) :=
  match (col - 1) % 4 with
  | 0 => some ((col - 1) / 4, false)
  | 1 => some ((col - 1) / 4, true)
  | _ => none

/-- Row 17: quoin links, reference clocks, QUO_XO. -/
def row17 (k : Nat) (neg : Bool) : BallSignal :=
  match k with
  | 0 => .quoRx 0 neg | 1 => .quoTx 0 neg | 2 => .quoRx 1 neg | 3 => .quoTx 1 neg
  | 4 => .peRefclk 0 neg | 5 => .peRefclk 1 neg | 6 => .quoXo neg
  | _ => .ground

/-- Row 19: control balls and the Gauge outputs. -/
def row19 (col : Nat) : BallSignal :=
  match col with
  | 1 => .foundRstN | 2 => .faultN | 3 => .alarmN 0 | 4 => .alarmN 1 | 5 => .throtN 0 | 6 => .throtN 1 | 7 => .blankN 0 | 8 => .blankN 1
  | 9 => .plbArm | 10 => .plbFire | 11 => .tck | 12 => .tms | 13 => .tdi | 14 => .tdo | 15 => .trstN
  | 24 => .perstN 0 | 25 => .clkreqN 0 | 26 => .actN 0 | 27 => .perstN 1 | 28 => .clkreqN 1 | 29 => .actN 1
  | _ =>
    if 16 ≤ col ∧ col ≤ 23 then .test (col - 16)
    else if 33 ≤ col ∧ col ≤ 48 then .gauOut (col - 33)
    else .ground

/-- R456 to R458: the signal at a ball, by its row (1 to 65) and column (1 to 64). -/
def ballSignal (row col : Nat) : BallSignal :=
  let pair := fun (f : Nat → Bool → BallSignal) => match pairAt col with | some (k, neg) => f k neg | none => .ground
  if row ≤ 2 then
    if 9 ≤ col ∧ col ≤ 24 then .vin else if 25 ≤ col ∧ col ≤ 32 then .doNotConnect else if 33 ≤ col ∧ col ≤ 48 then .vrtn else .ground
  else if row % 2 = 0 ∨ row = 3 ∨ row = 33 then .ground
  else if row ≤ 11 then pair (fun k neg => .uplTx (16 * ((row - 5) / 2) + k) neg)
  else if row = 13 then pair .rlRx
  else if row = 15 then
    pair (fun h neg => if h % 2 = 0 then .peTx (h / 8) (h / 2 % 4) neg else .peRx (h / 8) (h / 2 % 4) neg)
  else if row = 17 then pair row17
  else if row = 19 then row19 col
  else if row ≤ 23 then
    let c := 32 * ((row - 21) / 2) + (col - 1) / 2
    if col % 2 = 1 then .gauA c else .gauB c
  else if row ≤ 31 then pair (fun k neg => .dlTx (16 * ((row - 25) / 2) + k) neg)
  else pair (fun k neg => .bedRx (16 * ((row - 35) / 2) + k) neg)

/-! ### The JTAG port (R464, R465) -/

/-- What each ball with a signal shows; receivers and input pins are inputs. None for supplies, grounds and balls that are not connected. -/
def signalLevel (s : State) : BallSignal → Option BallLevel
  | .vin | .vrtn | .doNotConnect | .ground | .test _ => none
  | .uplTx u _ => some (uplTxBall s u)
  | .peTx p _ _ => some (peTxBall s p)
  | .quoTx k _ => some (quoTxBall s k)
  | .dlTx d _ => some (dlTxBall s d)
  | .rlRx .. | .peRx .. | .quoRx .. | .peRefclk .. | .quoXo _ | .bedRx .. => some .input
  | .foundRstN | .blankN _ | .tck | .tms | .tdi | .trstN | .perstN _ => some .input
  | .faultN => some (faultBall s)
  | .alarmN _ => some (alarmBall s)
  | .throtN _ => some (throttleBall s)
  | .plbArm => some (plbArmBall s)
  | .plbFire => some (plbFireBall s)
  | .tdo => some (tdoBall s)
  | .clkreqN _ => some (clkreqBall s)
  | .actN p => some (actBall s p)
  | .gauOut o => some (gauOutBall s o)
  | .gauA c | .gauB c => some (gauBall s c)

/-- The port's own balls have no cell in the boundary register. -/
def tapBall : BallSignal → Bool
  | .tck | .tms | .tdi | .tdo | .trstN => true
  | _ => false

/-- R465: what SAMPLE captures: every ball with a cell, with its level, in the order of rows and columns. -/
def ballSample (s : State) : List (BallSignal × BallLevel) :=
  (List.range 65).flatMap fun r => (List.range 64).filterMap fun c =>
    let x := ballSignal (r + 1) (c + 1)
    if tapBall x then none else (signalLevel s x).map fun l => (x, l)

/-- An instruction selects the boundary register. -/
def drivesBoundary : JtagInstr → Bool
  | .samplePreload | .extest | .extestPulse | .extestTrain => true
  | .bypass | .clamp | .highz => false

/-- JTAG_INSTRUCTION (R464, R465): a TAP reset selects BYPASS, and TRST_N held low keeps the TAP reset; an instruction comes into force, and those of
the boundary scan capture the balls and take what is shifted in; TDO drives while a register is shifted. The port has no way into the device beyond
the balls; without power it does nothing. -/
def jtagInstruction (op : JtagOp) (s : State) : State :=
  let j := s.jtag
  let off := s.pwr.trip.isSome || j.trst
  match op with
  | .trst low => { s with jtag := if low then { j with instr := .bypass, trst := true, shifting := false } else { j with trst := false } }
  | .tapReset => if off then s else { s with jtag := { j with instr := .bypass, shifting := false } }
  | .shift on => if off then s else { s with jtag := { j with shifting := on } }
  | .load i data =>
    if off then s
    else if drivesBoundary i then { s with jtag := { j with instr := i, boundary := data, captured := ballSample s } }
    else { s with jtag := { j with instr := i } }

/-! ### Clock domains (R473) -/

/-- The classes of clock domains with their numbers. -/
def clockClasses : List (String × Nat) :=
  [("bed lane recovered", 256), ("return lane recovered", 16), ("quoin link recovered", 2), ("PCI Express receive lane", 8),
   ("downlink transmit", 64), ("uplink group transmit", 8), ("quoin link transmit", 2), ("PCI Express port transmit and core", 2),
   ("HBM read capture", 64), ("core clock", 1), ("foundation reference", 1), ("internal oscillator", 1), ("power stage controller", 1),
   ("JTAG", 1)]

end Sys2Proof.Machine
end

