-- ==== Sys2Proof/Machine/RowsPower.lean ====
section
/-!
DEFINITION. The rows of chapters 18 to 20: power, Plumb, Cornerstone, JTAG: one meaning for each row.
-/
namespace Sys2Proof.Machine

/-- DOMAIN_CHANGE_DONE (R419). -/
def execDomainChangeDone (n : Fin 80) (s : State) : Host.Outcome State Fault Refusal := upNext (domainChangeDone n) s

/-- PWR_DOMAIN_FAIL (R420). -/
def execPwrDomainFail (n : Fin 80) (opened : Bool) (rail : Fin 11) (measured : Word) (s : State) : Host.Outcome State Fault Refusal :=
  upNext (pwrDomainFail n opened rail measured.toNat) s

/-- PWR_INPUT_RANGE (R415). -/
def execPwrInputRange (mv : BitVec 17) (s : State) : Host.Outcome State Fault Refusal := upNext (inputRange mv.toNat) s

/-- PWR_TEMP_HIGH (R430). -/
def execPwrTempHigh (sensor : Fin 17) (temp : BitVec 16) (s : State) : Host.Outcome State Fault Refusal := upNext (tempHigh sensor temp) s

/-- PWR_RAIL_FAULT (R422). -/
def execPwrRailFault (rail : Fin 11) (measured : Word) (s : State) : Host.Outcome State Fault Refusal := upNext (railFails rail measured) s

/-- PWR_MEASURE_UPDATE (R431). -/
def execPwrMeasureUpdate (mv : BitVec 17) (ma : BitVec 14) (dw : BitVec 12) (temps rails : List (BitVec 16)) (s : State) : Host.Outcome State Fault Refusal :=
  .next (if isUp s then measureUpdate mv.toNat ma.toNat dw.toNat temps rails s else stageRead (reading temps 16) s)

/-- PROTECTIVE_TRIP (R423). -/
def execProtectiveTrip (cause : TripCause) (mv : BitVec 17) (dies : List (BitVec 16)) (stage : BitVec 16) (s : State) : Host.Outcome State Fault Refusal :=
  .next (protectiveTrip cause mv.toNat (allSensors dies stage) s)

/-- TRIP_LATCH_CLEAR (R425). -/
def execTripLatchClear (s : State) : Host.Outcome State Fault Refusal := .next (tripLatchClear s)

/-- INPUT_VALID (R426). -/
def execInputValid (s : State) : Host.Outcome State Fault Refusal := .next (inputValid s)

/-- FOUND_RST_ASSERT (R426). -/
def execFoundRstAssert (s : State) : Host.Outcome State Fault Refusal := .next (foundRstAssert s)

/-- FOUNDATION_RESET_DONE (R428). -/
def execFoundationResetDone (reset : ResetEnd) (s : State) : Host.Outcome State Fault Refusal := .next (foundationResetDone reset.low reset.control s)

/-- PLB_CHANGE (R434). -/
def execPlbChange (slot : Fin 64) (level : Bool) (s : State) : Host.Outcome State Fault Refusal := upNext (plbChange slot level) s

/-- ARM (R437). -/
def execArm (p : Fin 2) (s : State) : Host.Outcome State Fault Refusal := hostRow p (regOff .plbCtl) 1 s

/-- DISARM (R437). -/
def execDisarm (p : Fin 2) (s : State) : Host.Outcome State Fault Refusal := hostRow p (regOff .plbCtl) 2 s

/-- FIRE (R439). -/
def execFire (p : Fin 2) (s : State) : Host.Outcome State Fault Refusal := hostRow p (regOff .plbCtl) 4 s

/-- PLB_ARM_EDGE (R441). -/
def execPlbArmEdge (s : State) : Host.Outcome State Fault Refusal := upNext plbArmEdge s

/-- PLB_FIRE_EDGE (R442). -/
def execPlbFireEdge (s : State) : Host.Outcome State Fault Refusal := upNext plbFireEdge s

/-- PLB_FIRE_RELEASE (R442). -/
def execPlbFireRelease (s : State) : Host.Outcome State Fault Refusal := upNext plbFireRelease s

/-- PLB_POST_DONE (R437). -/
def execPlbPostDone (s : State) : Host.Outcome State Fault Refusal := upNext plbPostDone s

/-- CNS_EVENT_WRITE (R445). -/
def execCnsEventWrite (good : Bool) (s : State) : Host.Outcome State Fault Refusal := upNext (cnsEventWrite good) s

/-- JTAG_INSTRUCTION (R465). -/
def execJtagInstruction (op : JtagOp) (s : State) : Host.Outcome State Fault Refusal := .next (jtagInstruction op s)

end Sys2Proof.Machine
end

