-- ==== Sys2Proof/Machine/RowsStore.lean ====
section
/-!
DEFINITION. The rows of chapters 06 to 08 and 14: ashlar engines, tables, course ring, Molus, quarry, memories: one meaning for each row.
-/
namespace Sys2Proof.Machine

/-- ASHLAR_HIT (R124). -/
def execAshlarHit (e : Fin 9) (residueGood : Bool) (s : State) : Host.Outcome State Fault Refusal := upNext (ashlarHit e residueGood) s

/-- ENGINE_SYNC_DONE (R138). -/
def execEngineSyncDone (e : Fin 9) (s : State) : Host.Outcome State Fault Refusal := upNext (fun t => engineSyncDone e (noteLoss t)) s

/-- MIGRATION_DRAIN_END (R141). -/
def execMigrationDrainEnd (slot : Fin 8) (s : State) : Host.Outcome State Fault Refusal := upNext (migrationDrainEnd slot) s

/-- PREV_BUSY_END (R130). -/
def execPrevBusyEnd (g : Fin 32) (s : State) : Host.Outcome State Fault Refusal := upNext (prevBusyEnd g) s

/-- MOLUS_COURSE_START (R167). -/
def execMolusCourseStart (m : Fin 4) (s : State) : Host.Outcome State Fault Refusal := upNext (courseStart m) s

/-- MOLUS_BLOCK_DONE (R165). -/
def execMolusBlockDone (m : Fin 4) (errs : List RingFault) (diff : Option Nat) (s : State) : Host.Outcome State Fault Refusal :=
  upNext (blockDone m errs diff) s

/-- MOLUS_DEADLINE (R167). -/
def execMolusDeadline (m : Fin 4) (s : State) : Host.Outcome State Fault Refusal := upNext (courseDeadline m) s

/-- STONE_WRITE_DONE (R176). -/
def execStoneWriteDone (s : State) : Host.Outcome State Fault Refusal := upNext stoneWriteDone s

/-- STONE_CLOSE (R177). -/
def execStoneClose (s : State) : Host.Outcome State Fault Refusal := upNext stoneClose s

/-- INDEX_PUBLISH (R181). -/
def execIndexPublish (s : State) : Host.Outcome State Fault Refusal := upNext indexPublish s

/-- INDEX_REWRITE (R181). -/
def execIndexRewrite (course : BitVec 56) (s : State) : Host.Outcome State Fault Refusal := upNext (indexRewrite course.toNat) s

/-- QUARRY_READ (R185). -/
def execQuarryRead (burst : List Nat) (s : State) : Host.Outcome State Fault Refusal := upNext (quarryRead burst) s

/-- PIN_SPACE_FREED (R186). -/
def execPinSpaceFreed (s : State) : Host.Outcome State Fault Refusal := upNext pinSpaceFreed s

/-- HOST_WINDOW_READ (R196). -/
def execHostWindowRead (p : Fin 2) (offset : Word) (length : Nat) (errs : List (Nat × HbmLoc)) (s : State) : Host.Outcome State Fault Refusal :=
  upNext (fun t => if linked p t then windowRead p offset.toNat length errs t else t) s

/-- HOST_WINDOW_WRITE (R196). -/
def execHostWindowWrite (p : Fin 2) (offset : Word) (data : List (Option Byte)) (s : State) : Host.Outcome State Fault Refusal :=
  upNext (fun t => if linked p t then windowWrite p offset.toNat data t else t) s

/-- QRY_FIND (R200). -/
def execQryFind (p : Fin 2) (value : Word) (s : State) : Host.Outcome State Fault Refusal := hostRow p (regOff .qryFindNs) value s

/-- QRY_FIND_DONE (R200). -/
def execQryFindDone (p : Fin 2) (s : State) : Host.Outcome State Fault Refusal := upNext (findDone p) s

/-- HBM_SCRUB_GRANULE (R333). -/
def execHbmScrubGranule (sev : HbmSeverity) (burst : Fin 128) (loc : HbmLoc) (khz : BitVec 16) (s : State) : Host.Outcome State Fault Refusal :=
  upNext (hbmScrub sev burst loc khz.toNat) s

/-- SRAM_SCRUB_BLOCK (R328). -/
def execSramScrubBlock (g : Fin 32) (s : State) : Host.Outcome State Fault Refusal := upNext (scrubTable g) s

/-- TABLE_RESTORE (R330). -/
def execTableRestore (read : RestoreRead) (s : State) : Host.Outcome State Fault Refusal := upNext (tableRestore read.severity read.loc) s

/-- SRAM_READ_ERROR (R324). -/
def execSramReadError (memory : Fin 11) (number : Nat) (block : Nat) (err : SramError) (master : Fin 14) (s : State) : Host.Outcome State Fault Refusal :=
  upNext (sramReadError memory number block err master) s

/-- HBM_READ_ERROR (R332). -/
def execHbmReadError (qa : BitVec 36) (sev : HbmSeverity) (loc : HbmLoc) (master : Fin 14) (s : State) : Host.Outcome State Fault Refusal :=
  upNext (hbmReadError qa.toNat sev loc master) s

/-- MEM_INJECT_ARM (R339). -/
def execMemInjectArm (p : Fin 2) (value : Word) (s : State) : Host.Outcome State Fault Refusal := hostRow p (regOff .memInject) value s

/-- BTR_INJECT_ARM (R339). -/
def execBtrInjectArm (p : Fin 2) (value : Word) (s : State) : Host.Outcome State Fault Refusal := hostRow p (regOff .btrInject) value s

end Sys2Proof.Machine
end

