-- ==== Sys2Proof/Machine/RowsTime.lean ====
section
/-!
DEFINITION. The rows of chapters 02 and 03: course tick, orbits, domains, time messages: one meaning for each row.
-/
namespace Sys2Proof.Machine

/-- COURSE_TICK (R9). -/
def execCourseTick (obs : TickObs) (s : State) : Host.Outcome State Fault Refusal := upNext (courseTick obs) s

/-- ORBIT_START (R26). -/
def execOrbitStart (s : State) : Host.Outcome State Fault Refusal := upNext orbitStart s

/-- ORBIT_START_RX (R48). -/
def execOrbitStartRx (d : Fin 2) (s : State) : Host.Outcome State Fault Refusal := upNext (orbitStartRx d) s

/-- QUO_SIGNAL_DETECT (R35). -/
def execQuoSignalDetect (d : Fin 2) (s : State) : Host.Outcome State Fault Refusal := upNext (signalDetect d) s

/-- QUO_ALIGN_COUNT_DONE (R35). -/
def execQuoAlignCountDone (d : Fin 2) (s : State) : Host.Outcome State Fault Refusal := upNext (alignCountDone d) s

/-- QUO_LOSS_OF_SIGNAL (R37). -/
def execQuoLossOfSignal (d : Fin 2) (s : State) : Host.Outcome State Fault Refusal := upNext (lossOfSignal d) s

/-- QUO_FRAMING_LOSS (R37). -/
def execQuoFramingLoss (d : Fin 2) (s : State) : Host.Outcome State Fault Refusal := upNext (framingLoss d) s

/-- SYNC_TIMEOUT (R37). -/
def execSyncTimeout (d : Fin 2) (s : State) : Host.Outcome State Fault Refusal := upNext (syncTimeout d) s

/-- ANNOUNCE_TIMEOUT (R37). -/
def execAnnounceTimeout (d : Fin 2) (s : State) : Host.Outcome State Fault Refusal := upNext (announceTimeout d) s

/-- TIME_FREQ_RANGE (R37). -/
def execTimeFreqRange (d : Fin 2) (s : State) : Host.Outcome State Fault Refusal := upNext (freqRange d) s

/-- DOMAIN_BT_COUNT_TIMEOUT (R37). -/
def execDomainBtCountTimeout (d : Fin 2) (s : State) : Host.Outcome State Fault Refusal := upNext (btCountTimeout d) s

/-- IEEE1588_SYNC (R34). -/
def execIeee1588Sync (d : Fin 2) (msg : PtpSync) (s : State) : Host.Outcome State Fault Refusal := upNext (ptpSync d msg) s

/-- IEEE1588_FOLLOW_UP (R34). -/
def execIeee1588FollowUp (d : Fin 2) (msg : PtpFollowUp) (s : State) : Host.Outcome State Fault Refusal := upNext (ptpFollowUp d msg) s

/-- IEEE1588_DELAY_RESP (R34). -/
def execIeee1588DelayResp (d : Fin 2) (msg : PtpDelayResp) (s : State) : Host.Outcome State Fault Refusal := upNext (ptpDelayResp d msg) s

/-- IEEE1588_ANNOUNCE (R34). -/
def execIeee1588Announce (d : Fin 2) (msg : PtpAnnounce) (s : State) : Host.Outcome State Fault Refusal := upNext (ptpAnnounce d msg) s

/-- DOMAIN_BT_COUNT (R46). -/
def execDomainBtCount (d : Fin 2) (n : BitVec 64) (edges : Nat) (s : State) : Host.Outcome State Fault Refusal :=
  upNext (domainBtCount d n.toNat edges) s

/-- TIME_MSG_BAD (R32). -/
def execTimeMsgBad (d : Fin 2) (s : State) : Host.Outcome State Fault Refusal := upNext (msgBad d) s

/-- DELAY_REQ_SEND (R34). -/
def execDelayReqSend (d : Fin 2) (sent : AbsTime) (s : State) : Host.Outcome State Fault Refusal := upNext (delayReqSend d sent) s

/-- ACQUIRE_COMPLETE (R40). -/
def execAcquireComplete (s : State) : Host.Outcome State Fault Refusal := upNext acquireComplete s

/-- TIME_HOLD_EXPIRED (R43). -/
def execTimeHoldExpired (s : State) : Host.Outcome State Fault Refusal := upNext holdExpired s

/-- SLEW_COMPLETE (R49). -/
def execSlewComplete (s : State) : Host.Outcome State Fault Refusal := upNext slewComplete s

/-- QUO_TX_SEND (R55). -/
def execQuoTxSend (p : Fin 2) (value : Word) (s : State) : Host.Outcome State Fault Refusal := hostRow p (regOff .quoTxCtl) value s

/-- QUO_TX_DONE (R55). -/
def execQuoTxDone (sent : AbsTime) (s : State) : Host.Outcome State Fault Refusal := upNext (txDone sent) s

/-- QUO_TXQ_POP (R53). -/
def execQuoTxqPop (p : Fin 2) (value : Word) (s : State) : Host.Outcome State Fault Refusal := hostRow p (regOff .quoTxqPop) value s

/-- DL_ADVANCE_SLEW_DONE (R59). -/
def execDlAdvanceSlewDone (p : Fin 64) (s : State) : Host.Outcome State Fault Refusal := upNext (dlSlewDone p) s

end Sys2Proof.Machine
end

