-- ==== Sys2Proof/Machine/Dispatch.lean ====
section
/-!
DEFINITION. Which meaning each command has.
-/
namespace Sys2Proof.Machine

/-- The effect of a command on everything but the queue. -/
def exec (i : Instr) (s : State) : Host.Outcome State Fault Refusal :=
  match i with
  | .courseTick obs => Sys2Proof.Machine.execCourseTick obs s
  | .orbitStart => Sys2Proof.Machine.execOrbitStart s
  | .orbitStartRx d => Sys2Proof.Machine.execOrbitStartRx d s
  | .quoSignalDetect d => Sys2Proof.Machine.execQuoSignalDetect d s
  | .quoAlignCountDone d => Sys2Proof.Machine.execQuoAlignCountDone d s
  | .quoLossOfSignal d => Sys2Proof.Machine.execQuoLossOfSignal d s
  | .quoFramingLoss d => Sys2Proof.Machine.execQuoFramingLoss d s
  | .syncTimeout d => Sys2Proof.Machine.execSyncTimeout d s
  | .announceTimeout d => Sys2Proof.Machine.execAnnounceTimeout d s
  | .timeFreqRange d => Sys2Proof.Machine.execTimeFreqRange d s
  | .domainBtCountTimeout d => Sys2Proof.Machine.execDomainBtCountTimeout d s
  | .ieee1588Sync d msg => Sys2Proof.Machine.execIeee1588Sync d msg s
  | .ieee1588FollowUp d msg => Sys2Proof.Machine.execIeee1588FollowUp d msg s
  | .ieee1588DelayResp d msg => Sys2Proof.Machine.execIeee1588DelayResp d msg s
  | .ieee1588Announce d msg => Sys2Proof.Machine.execIeee1588Announce d msg s
  | .domainBtCount d n edges => Sys2Proof.Machine.execDomainBtCount d n edges s
  | .timeMsgBad d => Sys2Proof.Machine.execTimeMsgBad d s
  | .delayReqSend d sent => Sys2Proof.Machine.execDelayReqSend d sent s
  | .acquireComplete => Sys2Proof.Machine.execAcquireComplete s
  | .timeHoldExpired => Sys2Proof.Machine.execTimeHoldExpired s
  | .slewComplete => Sys2Proof.Machine.execSlewComplete s
  | .quoTxSend p value => Sys2Proof.Machine.execQuoTxSend p value s
  | .quoTxDone sent => Sys2Proof.Machine.execQuoTxDone sent s
  | .quoTxqPop p value => Sys2Proof.Machine.execQuoTxqPop p value s
  | .dlAdvanceSlewDone p => Sys2Proof.Machine.execDlAdvanceSlewDone p s
  | .downlinkFrame d => Sys2Proof.Machine.execDownlinkFrame d s
  | .restartRequestDue d => Sys2Proof.Machine.execRestartRequestDue d s
  | .bedDlFcSend p d value => Sys2Proof.Machine.execBedDlFcSend p d value s
  | .dlPllUnlock d => Sys2Proof.Machine.execDlPllUnlock d s
  | .dlPllRelock d => Sys2Proof.Machine.execDlPllRelock d s
  | .laneEnableWrite p l value => Sys2Proof.Machine.execLaneEnableWrite p l value s
  | .laneSignalDetect l => Sys2Proof.Machine.execLaneSignalDetect l s
  | .laneTrainDone l => Sys2Proof.Machine.execLaneTrainDone l s
  | .laneTrainTimeout l => Sys2Proof.Machine.execLaneTrainTimeout l s
  | .laneExchangeTimeout l => Sys2Proof.Machine.execLaneExchangeTimeout l s
  | .laneSyncAcquired l => Sys2Proof.Machine.execLaneSyncAcquired l s
  | .exchangeBlockRx l record crc => Sys2Proof.Machine.execExchangeBlockRx l record crc s
  | .laneLossOfSignal l => Sys2Proof.Machine.execLaneLossOfSignal l s
  | .laneCdrUnlock l => Sys2Proof.Machine.execLaneCdrUnlock l s
  | .laneSyncLoss l => Sys2Proof.Machine.execLaneSyncLoss l s
  | .retrainCountReset => Sys2Proof.Machine.execRetrainCountReset s
  | .laneCodeError l => Sys2Proof.Machine.execLaneCodeError l s
  | .echoReceived l round trip => Sys2Proof.Machine.execEchoReceived l round trip s
  | .burirDataFrame l frame closed lag => Sys2Proof.Machine.execBurirDataFrame l frame closed lag s
  | .spanTimeout l => Sys2Proof.Machine.execSpanTimeout l s
  | .configResponseFrame l frame => Sys2Proof.Machine.execConfigResponseFrame l frame s
  | .partnerCfgTimeout p => Sys2Proof.Machine.execPartnerCfgTimeout p s
  | .ashlarHit e residueGood => Sys2Proof.Machine.execAshlarHit e residueGood s
  | .engineSyncDone e => Sys2Proof.Machine.execEngineSyncDone e s
  | .migrationDrainEnd slot => Sys2Proof.Machine.execMigrationDrainEnd slot s
  | .prevBusyEnd g => Sys2Proof.Machine.execPrevBusyEnd g s
  | .molusCourseStart m => Sys2Proof.Machine.execMolusCourseStart m s
  | .molusBlockDone m errs diff => Sys2Proof.Machine.execMolusBlockDone m errs diff s
  | .molusDeadline m => Sys2Proof.Machine.execMolusDeadline m s
  | .stoneWriteDone => Sys2Proof.Machine.execStoneWriteDone s
  | .stoneClose => Sys2Proof.Machine.execStoneClose s
  | .indexPublish => Sys2Proof.Machine.execIndexPublish s
  | .indexRewrite course => Sys2Proof.Machine.execIndexRewrite course s
  | .quarryRead burst => Sys2Proof.Machine.execQuarryRead burst s
  | .pinSpaceFreed => Sys2Proof.Machine.execPinSpaceFreed s
  | .hostWindowRead p offset length errs => Sys2Proof.Machine.execHostWindowRead p offset length errs s
  | .hostWindowWrite p offset data => Sys2Proof.Machine.execHostWindowWrite p offset data s
  | .qryFind p value => Sys2Proof.Machine.execQryFind p value s
  | .qryFindDone p => Sys2Proof.Machine.execQryFindDone p s
  | .hbmScrubGranule sev burst loc khz => Sys2Proof.Machine.execHbmScrubGranule sev burst loc khz s
  | .sramScrubBlock g => Sys2Proof.Machine.execSramScrubBlock g s
  | .tableRestore read => Sys2Proof.Machine.execTableRestore read s
  | .sramReadError memory number block err master => Sys2Proof.Machine.execSramReadError memory number block err master s
  | .hbmReadError qa sev loc master => Sys2Proof.Machine.execHbmReadError qa sev loc master s
  | .memInjectArm p value => Sys2Proof.Machine.execMemInjectArm p value s
  | .btrInjectArm p value => Sys2Proof.Machine.execBtrInjectArm p value s
  | .accept d body => Sys2Proof.Machine.execAccept d body s
  | .recallMessage d body => Sys2Proof.Machine.execRecallMessage d body s
  | .recallPieceSubmit u => Sys2Proof.Machine.execRecallPieceSubmit u s
  | .extractionDone u id faults => Sys2Proof.Machine.execExtractionDone u id faults s
  | .fragmentComplete t id => Sys2Proof.Machine.execFragmentComplete t id s
  | .recordRelease t khz => Sys2Proof.Machine.execRecordRelease t khz s
  | .cellWait t id => Sys2Proof.Machine.execCellWait t id s
  | .headWaitExpiry t => Sys2Proof.Machine.execHeadWaitExpiry t s
  | .mrtCellUncorr u cell t key released => Sys2Proof.Machine.execMrtCellUncorr u cell t key released s
  | .flush p t => Sys2Proof.Machine.execFlush p t s
  | .resync p value => Sys2Proof.Machine.execResync p value s
  | .mrtUnitOut u => Sys2Proof.Machine.execMrtUnitOut u s
  | .lintelGroupClose err => Sys2Proof.Machine.execLintelGroupClose err s
  | .lintelFrameSend => Sys2Proof.Machine.execLintelFrameSend s
  | .credit r message => Sys2Proof.Machine.execCredit r message s
  | .init r message => Sys2Proof.Machine.execInit r message s
  | .uplCreditBad r message => Sys2Proof.Machine.execUplCreditBad r message s
  | .rlSyncLost r => Sys2Proof.Machine.execRlSyncLost r s
  | .rlSyncGained r => Sys2Proof.Machine.execRlSyncGained r s
  | .initRequestSend u => Sys2Proof.Machine.execInitRequestSend u s
  | .recordBlockSent u => Sys2Proof.Machine.execRecordBlockSent u s
  | .uplPllUnlock h => Sys2Proof.Machine.execUplPllUnlock h s
  | .uplRefHold h => Sys2Proof.Machine.execUplRefHold h s
  | .uplLinkEnableWrite p u value => Sys2Proof.Machine.execUplLinkEnableWrite p u value s
  | .streamMapWrite p t value => Sys2Proof.Machine.execStreamMapWrite p t value s
  | .faultReport index => Sys2Proof.Machine.execFaultReport index s
  | .faultLog => Sys2Proof.Machine.execFaultLog s
  | .shadowClose => Sys2Proof.Machine.execShadowClose s
  | .quietRecovery source => Sys2Proof.Machine.execQuietRecovery source s
  | .fltAck p value => Sys2Proof.Machine.execFltAck p value s
  | .fltAckUpto p value => Sys2Proof.Machine.execFltAckUpto p value s
  | .fltDpCtl p value => Sys2Proof.Machine.execFltDpCtl p value s
  | .fltSnapSeq p value => Sys2Proof.Machine.execFltSnapSeq p value s
  | .fltSnapSrc p value => Sys2Proof.Machine.execFltSnapSrc p value s
  | .snapshotSelect p bank value => Sys2Proof.Machine.execSnapshotSelect p bank value s
  | .snapshotCapture p bank => Sys2Proof.Machine.execSnapshotCapture p bank s
  | .sqcClearWrite p offset value => Sys2Proof.Machine.execSqcClearWrite p offset value s
  | .cntClr p offset value => Sys2Proof.Machine.execCntClr p offset value s
  | .registerWrite p offset value => Sys2Proof.Machine.execRegisterWrite p offset value s
  | .badAccess access => Sys2Proof.Machine.execBadAccess access s
  | .hstOwnerWrite p value => Sys2Proof.Machine.execHstOwnerWrite p value s
  | .onceWrite p position value => Sys2Proof.Machine.execOnceWrite p position value s
  | .bitAliasWrite p offset value => Sys2Proof.Machine.execBitAliasWrite p offset value s
  | .msixMessage p vector => Sys2Proof.Machine.execMsixMessage p vector s
  | .irqHoldoffExpiry p vector => Sys2Proof.Machine.execIrqHoldoffExpiry p vector s
  | .perstAssert reset => Sys2Proof.Machine.execPerstAssert reset s
  | .perstRelease p => Sys2Proof.Machine.execPerstRelease p s
  | .hstFlr p => Sys2Proof.Machine.execHstFlr p s
  | .hstLinkDown p training => Sys2Proof.Machine.execHstLinkDown p training s
  | .hstLinkUp p width speed => Sys2Proof.Machine.execHstLinkUp p width speed s
  | .hstAerUncorr p status header => Sys2Proof.Machine.execHstAerUncorr p status header s
  | .aerCorr report => Sys2Proof.Machine.execAerCorr report s
  | .ldgMbSubmit p m value => Sys2Proof.Machine.execLdgMbSubmit p m value s
  | .ldgMbAck p m value => Sys2Proof.Machine.execLdgMbAck p m value s
  | .responsePlaced m => Sys2Proof.Machine.execResponsePlaced m s
  | .ldgOvertime m cycles => Sys2Proof.Machine.execLdgOvertime m cycles s
  | .unknownOpcode m => Sys2Proof.Machine.execUnknownOpcode m s
  | .powerSet m => Sys2Proof.Machine.execPowerSet m s
  | .powerQuery m => Sys2Proof.Machine.execPowerQuery m s
  | .partnerBind m => Sys2Proof.Machine.execPartnerBind m s
  | .partnerConfig m => Sys2Proof.Machine.execPartnerConfig m s
  | .laneTrain m => Sys2Proof.Machine.execLaneTrain m s
  | .delayMeasure m => Sys2Proof.Machine.execDelayMeasure m s
  | .calLoad m => Sys2Proof.Machine.execCalLoad m s
  | .walkLoad m => Sys2Proof.Machine.execWalkLoad m s
  | .calSwap m => Sys2Proof.Machine.execCalSwap m s
  | .timeDomainSelect m => Sys2Proof.Machine.execTimeDomainSelect m s
  | .engineMigrate m => Sys2Proof.Machine.execEngineMigrate m s
  | .streamMove m => Sys2Proof.Machine.execStreamMove m s
  | .quarryExport m burst => Sys2Proof.Machine.execQuarryExport m burst s
  | .recallHost m burst => Sys2Proof.Machine.execRecallHost m burst s
  | .decompressCheck m burst => Sys2Proof.Machine.execDecompressCheck m burst s
  | .retireAdd m => Sys2Proof.Machine.execRetireAdd m s
  | .retireList m => Sys2Proof.Machine.execRetireList m s
  | .scrubSet m => Sys2Proof.Machine.execScrubSet m s
  | .gaugeSelfcal m readings => Sys2Proof.Machine.execGaugeSelfcal m readings s
  | .plbRead m => Sys2Proof.Machine.execPlbRead m s
  | .cnsRead m => Sys2Proof.Machine.execCnsRead m s
  | .cnsClear m => Sys2Proof.Machine.execCnsClear m s
  | .faultAckBulk m => Sys2Proof.Machine.execFaultAckBulk m s
  | .diagLoop m wrong => Sys2Proof.Machine.execDiagLoop m wrong s
  | .conversionEnd k reading => Sys2Proof.Machine.execConversionEnd k reading s
  | .multiplexerStep k => Sys2Proof.Machine.execMultiplexerStep k s
  | .burnoutCheck k isOpen => Sys2Proof.Machine.execBurnoutCheck k isOpen s
  | .gauAlignStart => Sys2Proof.Machine.execGauAlignStart s
  | .gauOpen c => Sys2Proof.Machine.execGauOpen c s
  | .gauOpenClear c => Sys2Proof.Machine.execGauOpenClear c s
  | .gauExcFault c => Sys2Proof.Machine.execGauExcFault c s
  | .excRetry c within => Sys2Proof.Machine.execExcRetry c within s
  | .blankEdge pin asserted => Sys2Proof.Machine.execBlankEdge pin asserted s
  | .gauOutputPeriod o readback => Sys2Proof.Machine.execGauOutputPeriod o readback s
  | .gauChannelConfigWrite p c value => Sys2Proof.Machine.execGauChannelConfigWrite p c value s
  | .domainChangeDone n => Sys2Proof.Machine.execDomainChangeDone n s
  | .pwrDomainFail n opened rail measured => Sys2Proof.Machine.execPwrDomainFail n opened rail measured s
  | .pwrInputRange mv => Sys2Proof.Machine.execPwrInputRange mv s
  | .pwrTempHigh sensor temp => Sys2Proof.Machine.execPwrTempHigh sensor temp s
  | .pwrRailFault rail measured => Sys2Proof.Machine.execPwrRailFault rail measured s
  | .pwrMeasureUpdate mv ma dw temps rails => Sys2Proof.Machine.execPwrMeasureUpdate mv ma dw temps rails s
  | .protectiveTrip cause mv dies stage => Sys2Proof.Machine.execProtectiveTrip cause mv dies stage s
  | .tripLatchClear => Sys2Proof.Machine.execTripLatchClear s
  | .inputValid => Sys2Proof.Machine.execInputValid s
  | .foundRstAssert => Sys2Proof.Machine.execFoundRstAssert s
  | .foundationResetDone reset => Sys2Proof.Machine.execFoundationResetDone reset s
  | .plbChange slot level => Sys2Proof.Machine.execPlbChange slot level s
  | .arm p => Sys2Proof.Machine.execArm p s
  | .disarm p => Sys2Proof.Machine.execDisarm p s
  | .fire p => Sys2Proof.Machine.execFire p s
  | .plbArmEdge => Sys2Proof.Machine.execPlbArmEdge s
  | .plbFireEdge => Sys2Proof.Machine.execPlbFireEdge s
  | .plbFireRelease => Sys2Proof.Machine.execPlbFireRelease s
  | .plbPostDone => Sys2Proof.Machine.execPlbPostDone s
  | .cnsEventWrite good => Sys2Proof.Machine.execCnsEventWrite good s
  | .jtagInstruction op => Sys2Proof.Machine.execJtagInstruction op s
  | .uplPllLock h => Sys2Proof.Machine.execUplPllLock h s
  | .pcieConfigWrite p bme msix d3 => Sys2Proof.Machine.execPcieConfigWrite p bme msix d3 s
  | .integrationStart k => Sys2Proof.Machine.execIntegrationStart k s
  | .rlCodeError r => Sys2Proof.Machine.execRlCodeError r s

end Sys2Proof.Machine
end

