-- ==== Sys2Proof/Safety.lean ====
section
/-!
DEFINITION. The words of the claims: which parts of the state a step leaves alone, what a step always keeps, what a machine without power holds.
-/
namespace Sys2Proof.Machine

/-! ### Frames -/

/-- The parts of the state: one for each field, and one for what decides whether the block has power and is out of reset. -/
inductive Zone where
  | pending | btr | regs | flt | port0 | port1 | quo | pwr | lanes | downlinks | partners | bindPending | groups | sram | ash | ring | qry | hbm
  | mem | mrt | streams | uplinks | uplGroups | retLanes | lnt | ldg | gau | plb | cns | jtag | life
  deriving DecidableEq, Repr

/-- Two states agree in a part. -/
def Zone.same (s t : State) : Zone → Prop
  | .pending => t.pending = s.pending
  | .btr => t.btr = s.btr
  | .regs => t.regs = s.regs
  | .flt => t.flt = s.flt
  | .port0 => t.port0 = s.port0
  | .port1 => t.port1 = s.port1
  | .quo => t.quo = s.quo
  | .pwr => t.pwr = s.pwr
  | .lanes => t.lanes = s.lanes
  | .downlinks => t.downlinks = s.downlinks
  | .partners => t.partners = s.partners
  | .bindPending => t.bindPending = s.bindPending
  | .groups => t.groups = s.groups
  | .sram => t.sram = s.sram
  | .ash => t.ash = s.ash
  | .ring => t.ring = s.ring
  | .qry => t.qry = s.qry
  | .hbm => t.hbm = s.hbm
  | .mem => t.mem = s.mem
  | .mrt => t.mrt = s.mrt
  | .streams => t.streams = s.streams
  | .uplinks => t.uplinks = s.uplinks
  | .uplGroups => t.uplGroups = s.uplGroups
  | .retLanes => t.retLanes = s.retLanes
  | .lnt => t.lnt = s.lnt
  | .ldg => t.ldg = s.ldg
  | .gau => t.gau = s.gau
  | .plb => t.plb = s.plb
  | .cns => t.cns = s.cns
  | .jtag => t.jtag = s.jtag
  | .life => t.pwr.trip = s.pwr.trip ∧ t.pwr.inReset = s.pwr.inReset

/-- Going from `s` to `t`, nothing changes outside the named parts. -/
structure Only (zs : List Zone) (s t : State) : Prop where
  same : ∀ z, z ∉ zs → z.same s t

/-- What an event register, a counter, a report and an interrupt of either port can change. -/
abbrev reportZones : List Zone := [.regs, .flt, .port0, .port1]

/-- The parts of the state that each command can change. -/
def touches : Instr → List Zone
  | .courseTick .. =>
    reportZones ++ [.btr, .quo, .lanes, .downlinks, .partners, .bindPending, .groups, .sram, .ash, .ring, .qry, .mem, .mrt, .streams,
      .uplinks, .uplGroups, .retLanes, .lnt, .ldg, .gau, .plb, .cns]
  | .orbitStart .. => [.btr, .quo]
  | .orbitStartRx .. => reportZones ++ [.btr, .quo]
  | .quoSignalDetect .. | .quoAlignCountDone .. | .ieee1588DelayResp .. | .ieee1588Announce .. | .acquireComplete .. | .slewComplete ..
  | .dlAdvanceSlewDone .. => [.quo]
  | .quoLossOfSignal .. | .quoFramingLoss .. | .syncTimeout .. | .announceTimeout .. | .timeFreqRange .. | .domainBtCountTimeout ..
  | .ieee1588Sync .. | .ieee1588FollowUp .. | .domainBtCount .. | .delayReqSend .. | .timeHoldExpired .. | .quoTxSend .. | .quoTxDone ..
  | .quoTxqPop .. => reportZones ++ [.quo]
  | .timeMsgBad .. => [.flt, .quo]
  | .downlinkFrame .. => [.regs, .port0, .port1, .quo, .downlinks, .partners]
  | .restartRequestDue .. | .dlPllRelock .. => [.downlinks]
  | .bedDlFcSend .. | .dlPllUnlock .. => reportZones ++ [.downlinks]
  | .laneEnableWrite .. | .laneLossOfSignal .. | .laneCdrUnlock .. | .laneSyncLoss .. => reportZones ++ [.quo, .lanes, .downlinks, .groups]
  | .laneSignalDetect .. => [.lanes, .downlinks]
  | .laneTrainDone .. => [.lanes]
  | .laneTrainTimeout .. | .laneExchangeTimeout .. | .laneCodeError .. => reportZones ++ [.lanes]
  | .laneSyncAcquired .. => [.regs, .lanes]
  | .exchangeBlockRx .. => reportZones ++ [.quo, .lanes, .downlinks, .groups, .lnt]
  | .retrainCountReset .. | .rlCodeError .. => [.regs]
  | .echoReceived .. => reportZones ++ [.quo, .ldg]
  | .burirDataFrame .. | .configResponseFrame .. => reportZones ++ [.lanes, .partners, .groups, .ash, .mem, .ldg]
  | .spanTimeout .. => reportZones ++ [.lanes, .partners, .groups]
  | .partnerCfgTimeout .. | .partnerConfig .. => reportZones ++ [.partners, .ldg]
  | .ashlarHit .. => reportZones ++ [.groups, .sram, .ash, .ring, .mem, .lnt]
  | .engineSyncDone .. => [.regs, .port0, .port1, .ash, .lnt]
  | .migrationDrainEnd .. => reportZones ++ [.groups, .sram, .ash, .mem]
  | .prevBusyEnd .. => [.groups]
  | .molusCourseStart .. => [.regs, .ring]
  | .molusBlockDone .. => reportZones ++ [.groups, .ring, .qry, .mem]
  | .molusDeadline .. => reportZones ++ [.ring]
  | .stoneWriteDone .. => reportZones ++ [.qry, .hbm, .mem]
  | .stoneClose .. => [.qry, .mem]
  | .indexPublish .. => reportZones ++ [.ring, .qry, .hbm, .streams, .uplinks]
  | .indexRewrite .. => [.qry, .hbm]
  | .quarryRead .. => reportZones ++ [.qry, .hbm, .mrt, .streams]
  | .pinSpaceFreed .. => [.qry]
  | .hostWindowRead .. | .hbmReadError .. | .memInjectArm .. | .snapshotCapture .. => reportZones ++ [.mem]
  | .hostWindowWrite .. => reportZones ++ [.qry, .hbm]
  | .qryFind .. | .quietRecovery .. | .fltDpCtl .. | .fltSnapSeq .. | .fltSnapSrc .. | .hstOwnerWrite .. | .hstFlr .. | .hstLinkDown ..
  | .hstAerUncorr .. => reportZones
  | .qryFindDone .. | .msixMessage .. | .irqHoldoffExpiry .. | .perstAssert .. | .perstRelease .. | .hstLinkUp .. | .pcieConfigWrite .. => [.port0, .port1]
  | .hbmScrubGranule .. => reportZones ++ [.hbm, .mem]
  | .sramScrubBlock .. => reportZones ++ [.groups, .sram, .mem]
  | .tableRestore .. => reportZones ++ [.sram, .mem]
  | .sramReadError .. => reportZones ++ [.groups, .sram, .ash, .ring, .qry, .mem, .mrt, .streams, .plb]
  | .btrInjectArm .. | .streamMapWrite .. => reportZones ++ [.btr]
  | .accept .. | .recallMessage .. => reportZones ++ [.btr, .qry, .mem, .mrt, .streams]
  | .recallPieceSubmit .. => [.qry, .mrt]
  | .extractionDone .. => reportZones ++ [.qry, .mem, .mrt, .streams]
  | .fragmentComplete .. | .cellWait .. | .headWaitExpiry .. => reportZones ++ [.mem, .mrt, .streams]
  | .recordRelease .. => reportZones ++ [.qry, .mem, .mrt, .streams, .uplinks]
  | .mrtCellUncorr .. | .mrtUnitOut .. => reportZones ++ [.qry, .mrt, .streams]
  | .flush .. => reportZones ++ [.qry, .mrt, .streams, .uplinks]
  | .resync .. => reportZones ++ [.btr, .mrt, .streams]
  | .lintelGroupClose .. => reportZones ++ [.mem, .lnt]
  | .lintelFrameSend .. => reportZones ++ [.lnt]
  | .credit .. | .init .. => reportZones ++ [.streams, .uplinks, .retLanes]
  | .uplCreditBad .. | .rlSyncLost .. => reportZones ++ [.retLanes]
  | .rlSyncGained .. => [.regs, .port0, .port1, .retLanes]
  | .initRequestSend .. => [.uplinks]
  | .recordBlockSent .. => reportZones ++ [.mem, .mrt, .streams, .uplinks]
  | .uplPllUnlock .. | .uplPllLock .. => reportZones ++ [.mrt, .streams, .uplinks, .uplGroups]
  | .uplRefHold .. => reportZones ++ [.quo, .uplGroups]
  | .uplLinkEnableWrite .. => reportZones ++ [.mrt, .streams, .uplinks]
  | .faultReport .. => [.flt]
  | .faultLog .. | .shadowClose .. | .fltAck .. | .fltAckUpto .. => reportZones ++ [.mem, .plb, .cns]
  | .snapshotSelect .. | .sqcClearWrite .. | .cntClr .. | .registerWrite .. | .onceWrite .. | .bitAliasWrite .. =>
    reportZones ++ [.btr, .quo, .lanes, .downlinks, .partners, .groups, .qry, .mem, .mrt, .streams, .uplinks, .retLanes, .ldg, .gau, .plb,
      .cns]
  | .badAccess .. | .aerCorr .. => [.regs, .port0, .port1]
  | .ldgMbSubmit .. | .ldgMbAck .. | .ldgOvertime .. | .unknownOpcode .. | .powerQuery .. | .retireList .. | .scrubSet .. => reportZones ++ [.ldg]
  | .responsePlaced .. => [.regs, .port0, .port1, .ldg]
  | .powerSet .. =>
    reportZones ++ [.quo, .pwr, .lanes, .downlinks, .groups, .ash, .ring, .qry, .hbm, .mrt, .streams, .uplinks, .uplGroups, .retLanes, .lnt,
      .ldg, .gau]
  | .partnerBind .. => reportZones ++ [.bindPending, .ldg]
  | .laneTrain .. => reportZones ++ [.quo, .lanes, .downlinks, .groups, .ldg]
  | .delayMeasure .. => reportZones ++ [.quo, .downlinks, .ldg]
  | .calLoad .. | .walkLoad .. => reportZones ++ [.groups, .sram, .hbm, .mem, .ldg]
  | .calSwap .. | .timeDomainSelect .. => reportZones ++ [.btr, .ldg]
  | .engineMigrate .. => reportZones ++ [.ash, .ldg]
  | .streamMove .. => reportZones ++ [.streams, .ldg]
  | .quarryExport .. | .recallHost .. | .decompressCheck .. => reportZones ++ [.qry, .hbm, .ldg]
  | .retireAdd .. => reportZones ++ [.hbm, .ldg, .cns]
  | .gaugeSelfcal .. => reportZones ++ [.ldg, .gau]
  | .plbRead .. => reportZones ++ [.mem, .ldg, .plb]
  | .cnsRead .. | .cnsClear .. => reportZones ++ [.ldg, .cns]
  | .faultAckBulk .. => reportZones ++ [.mem, .ldg, .plb, .cns]
  | .diagLoop .. => reportZones ++ [.hbm, .ldg]
  | .conversionEnd .. | .burnoutCheck .. | .gauOpen .. | .gauExcFault .. | .gauOutputPeriod .. | .gauChannelConfigWrite .. => reportZones ++ [.gau]
  | .multiplexerStep .. | .gauAlignStart .. | .gauOpenClear .. | .excRetry .. | .blankEdge .. | .integrationStart .. => [.gau]
  | .domainChangeDone .. | .pwrDomainFail .. =>
    reportZones ++ [.quo, .pwr, .lanes, .downlinks, .groups, .sram, .ash, .ring, .qry, .hbm, .mem, .mrt, .streams, .uplinks, .uplGroups,
      .retLanes, .lnt, .ldg, .gau, .plb]
  | .pwrInputRange .. | .pwrTempHigh .. | .pwrRailFault .. => reportZones ++ [.pwr]
  | .pwrMeasureUpdate .. | .protectiveTrip .. | .tripLatchClear .. | .inputValid .. =>
    reportZones ++ [.btr, .quo, .pwr, .lanes, .downlinks, .partners, .bindPending, .groups, .sram, .ash, .ring, .qry, .hbm, .mem, .mrt,
      .streams, .uplinks, .uplGroups, .retLanes, .lnt, .ldg, .gau, .plb, .cns, .jtag, .life]
  | .foundRstAssert .. | .foundationResetDone .. =>
    reportZones ++ [.btr, .quo, .pwr, .lanes, .downlinks, .partners, .bindPending, .groups, .sram, .ash, .ring, .qry, .hbm, .mem, .mrt,
      .streams, .uplinks, .uplGroups, .retLanes, .lnt, .ldg, .gau, .plb, .cns, .life]
  | .plbChange .. | .arm .. | .disarm .. | .fire .. | .plbArmEdge .. | .plbFireEdge .. | .plbPostDone .. => reportZones ++ [.mem, .plb]
  | .plbFireRelease .. => [.plb]
  | .cnsEventWrite .. => reportZones ++ [.cns]
  | .jtagInstruction .. => [.jtag]

/-! ### What every step keeps -/

/-- The addressed memories stand in canonical form: HBM's bytes, the marks of its written granules (R174) and the table blocks (R325). -/
structure MemoryWf (s : State) : Prop where
  bytes : Memory.wf s.hbm.bytes = true
  written : smWf false s.hbm.written = true
  sram : smWf SramBlock.blank s.sram = true

/-- The Cornerstone's map of failed slots and those of its control area's copies have 64 entries at most (R447, R449). -/
abbrev Cornerstone.FailedFit (c : Cornerstone) : Prop :=
  c.failed.length ≤ 64 ∧ c.control0.failed.length ≤ 64 ∧ c.control1.failed.length ≤ 64 ∧ c.control2.failed.length ≤ 64

/-- The stores of a fixed size hold no more than it: the fault log (R301), the transmit stamp queue (R53), the restore queue (R330), the Plumb's queue
(R436), the Cornerstone's map of failed slots (R447) and the retirement map (R194). -/
structure Capacities (s : State) : Prop where
  log : s.flt.log.length ≤ 1024
  txq : s.quo.txq.length ≤ 16
  restore : s.mem.restore.length ≤ 128
  queue : s.plb.queue.length ≤ 256
  failed : s.cns.FailedFit
  retired : s.hbm.retired.length ≤ 4096

/-- The keys of a sparse table rise strictly. -/
abbrev Rises {α : Type} (m : SMap α) : Prop := smRisesFrom none m = true

/-- The tables of a host port. -/
abbrev HostPort.TablesRise (h : HostPort) : Prop := Rises h.msixTable ∧ Rises h.vectors ∧ Rises h.banks

/-- The tables of the ring buffers, the quarters and the Molus's coders. -/
abbrev Ring.TablesRise (r : Ring) : Prop := Rises r.buckets ∧ Rises r.quarters ∧ Rises r.coders

/-- The tables of the protection of stored state. -/
abbrev MemProt.TablesRise (m : MemProt) : Prop := Rises m.restoreFailed ∧ Rises m.hbmCorr ∧ Rises m.ecc

/-- The Lintel's arrival groups, and what they were before the core cycle under way. -/
abbrev Lintel.TablesRise (l : Lintel) : Prop := Rises l.groups ∧ Rises l.tapBase

/-- The Gauge's tables. -/
abbrev Gauge.TablesRise (g : Gauge) : Prop := Rises g.convs ∧ Rises g.chans ∧ Rises g.outs

/-- Every sparse table lists its keys once, in rising order: what a read after a write rests on. -/
structure TablesRise (s : State) : Prop where
  cb : Rises s.btr.cb
  regs : Rises s.regs
  srcs : Rises s.flt.srcs
  port0 : s.port0.TablesRise
  port1 : s.port1.TablesRise
  domains : Rises s.pwr.domains
  lanes : Rises s.lanes
  downlinks : Rises s.downlinks
  partners : Rises s.partners
  groups : Rises s.groups
  engines : Rises s.ash.engines
  ring : s.ring.TablesRise
  rewritten : Rises s.qry.rewritten
  badMarks : Rises s.hbm.badMarks
  mem : s.mem.TablesRise
  streams : Rises s.streams
  uplinks : Rises s.uplinks
  uplGroups : Rises s.uplGroups
  retLanes : Rises s.retLanes
  lntGroups : s.lnt.TablesRise
  boxes : Rises s.ldg.boxes
  gau : s.gau.TablesRise
  slots : Rises s.plb.slots

/-- Every name that the state holds of an element lies in that element's range: partners 0 to 63 and lanes 0 to 255 in the partner map, in what waits
for it and on the lanes themselves (R110), engines 0 to 8 in the slot map and the migrations (R136, R140); an entry of the accept table has an identifier
that has been given out; a Gauge converter is connected to a channel of its own and converts one (R388). -/
structure NamesInRange (s : State) : Prop where
  bound : ∀ p b, (partner s p).binding = some b → p < 64 ∧ b.firstLane + b.lanesM1 < 256
  pending : ∀ x ∈ s.bindPending, x.partner < 64 ∧ ∀ b, x.entry = some b → b.firstLane + b.lanesM1 < 256
  lanes : ∀ l p, (lane s l).partner = some p → l < 256 ∧ p < 64
  slots : ∀ e ∈ s.ash.slots, e < 9
  migrations : ∀ m ∈ s.ash.migrations, m.former < 9 ∧ m.to_ < 9
  ids : ∀ e ∈ s.mrt.table, e.id < s.mrt.nextId
  gauge : ∀ k, (∀ c, (gauConv s k).connected = some c → c ∈ convChans k) ∧ ∀ x, (gauConv s k).run = some x → x.channel ∈ convChans k

/-- R424, R426: a machine without power or in reset holds nothing of its volatile stores. -/
def OffIsLost (s : State) : Prop := isUp s = false → volatileLost s.pwr s = s

/-- The commands that reach a block without power or in reset: pins, the power's own events, and the JTAG port (R424 to R428, R465). -/
def actsWithoutPower : Instr → Bool
  | .perstAssert .. | .perstRelease .. | .blankEdge .. | .pwrMeasureUpdate .. | .protectiveTrip .. | .tripLatchClear .. | .inputValid .. | .foundRstAssert
  | .foundationResetDone .. | .jtagInstruction .. => true
  | _ => false

/-- The commands that are a host's write of one register, with its BAR0 offset and the value (R345). -/
def hostWriteOf : Instr → Option (Nat × Word)
  | .flush _ t => some (regOff .mrtStreamCtl t, 1)
  | .resync _ value => some (regOff .mrtAccCtl, (value ||| 8))
  | .qryFind _ value => some (regOff .qryFindNs, value)
  | .memInjectArm _ value => some (regOff .memInject, value)
  | .btrInjectArm _ value => some (regOff .btrInject, value)
  | .bedDlFcSend _ d value => some (regOff .bedDlFc d, value)
  | .laneEnableWrite _ l value => some (regOff .bedLaneCfg l, value)
  | .gauChannelConfigWrite _ c value => some (regOff .gauChCfg c, value)
  | .fltAck _ value => some (regOff .fltAck, value)
  | .fltAckUpto _ value => some (regOff .fltAckUpto, value)
  | .fltDpCtl _ value => some (regOff .fltDpCtl, value)
  | .fltSnapSeq _ value => some (regOff .fltSnapSeq, value)
  | .fltSnapSrc _ value => some (regOff .fltSnapSrc, value)
  | .ldgMbSubmit _ m value => some (regOff .ldgMbSubmit m, value)
  | .ldgMbAck _ m value => some (regOff .ldgMbAck m, value)
  | .hstOwnerWrite _ value => some (regOff .hstOwner, value)
  | .arm _ => some (regOff .plbCtl, 1)
  | .disarm _ => some (regOff .plbCtl, 2)
  | .fire _ => some (regOff .plbCtl, 4)
  | .quoTxSend _ value => some (regOff .quoTxCtl, value)
  | .quoTxqPop _ value => some (regOff .quoTxqPop, value)
  | .uplLinkEnableWrite _ u value => some (regOff .uplLinkCfg u, value)
  | .streamMapWrite _ t value => some (regOff .uplStreamMap t, value)
  | .sqcClearWrite _ offset value | .cntClr _ offset value | .registerWrite _ offset value => some (offset.toNat, value)
  | .snapshotSelect _ bank value => some (bankSelector bank, value)
  | .onceWrite _ position value => some (if position then regOff .hstInstallPos else regOff .hstDeviceId, value)
  | _ => none

/-- R3: a command changes no KEEP bit: it is no host write, or one that leaves the KEEP bits of its register 0. -/
def LeavesKeep (c : Instr) : Prop :=
  ∀ (off : Nat) (w : Word) (r : Reg) (i j : Nat), hostWriteOf c = some (off, w) → regAt off = some (r, i, j) → keepChanged r i w = false

/-- R324, R325: every block of a memory of R327 beyond the tables reads as it was written: none is DAMAGED, and no bit of one is inverted. -/
def AsWritten (mem inst : Nat) (s : State) : Prop := ∀ blk, eccBlock s mem inst blk = .blank

/-! ### What a command leaves behind -/

/-- R301: a report of source `src`, index `idx` and capture `cap` has set out toward the collector, stamped with the moment of the command. -/
def Reported (src idx : Nat) (cap : List Word) (s t : State) : Prop :=
  ∃ r ∈ t.flt.flying, r.source = src ∧ r.index = idx ∧ r.capture = cap ∧ r.stamp = nowStamp s

/-- R355: one event: its bit is set in its register, whose sequence number has advanced by one, and no other bit there has changed. -/
def Evented (r : Reg) (i b : Nat) (s t : State) : Prop :=
  cell t r i = setFld (setBit (cell s r i) b true) 15 0 (nextSqc (fld (cell s r i) 15 0))

/-- R351: what an event of vector `v` does at port `q`: with the vector enabled and MSI-X Enable set a message is due, or is pending where the vector is
masked; else the event is not remembered. -/
def VectorTold (q v : Nat) (s t : State) : Prop :=
  (bit (cell s .hstIrqEn q) v = true → (hostPort s q).msixEn = true →
    (vecMasked (hostPort s q) v = false → (smGet .idle (hostPort t q).vectors v).due = true) ∧
    (vecMasked (hostPort s q) v = true → (smGet .idle (hostPort t q).vectors v).pba = true)) ∧
  (¬ (bit (cell s .hstIrqEn q) v = true ∧ (hostPort s q).msixEn = true) →
    smGet .idle (hostPort t q).vectors v = smGet .idle (hostPort s q).vectors v)

/-- R350: the vector of each register with event bits. -/
abbrev vectorTable : List (Reg × Nat) :=
  [(.fltEvt, 0), (.quoEvt, 5), (.bedLaneEvt, 6), (.bedDlEvt, 6), (.bedPevt, 6), (.ashEngEvt, 7), (.crsEvt, 8), (.molEvt, 8), (.qryEvt, 9), (.qryHwinStat, 9),
    (.mrtAccEvt, 10), (.mrtUnitEvt, 10), (.lntEvt, 11), (.uplLinkEvt, 12), (.uplRlEvt, 12), (.uplEvt, 12), (.memEvt, 13), (.memLastRead, 13), (.btrEvt, 13),
    (.pwrEvt, 14), (.gauEvt, 15), (.plbEvt, 16), (.cnsEvt, 16), (.hstEvt, 17)]

/-- Going from `s` to `t`, no register entry but the named ones has changed. -/
def RegsKept (xs : List (Reg × Nat × Nat)) (s t : State) : Prop :=
  ∀ r i j, (∀ x ∈ xs, regOff r i j ≠ regOff x.1 x.2.1 x.2.2) → cell t r i j = cell s r i j

/-- The entries of the table groups' account counts: what an account that a command opens can change (R117). -/
abbrev acctCells : List (Reg × Nat × Nat) := (List.range 32).map fun g => (Reg.bedAcctStat, g, 0)

/-- A host write of `w` at a register entry takes effect: the block is up, the port's link is in L0, the port may write there (R347), and no KEEP bit
changes (R3). -/
def HostMay (p : Nat) (r : Reg) (i j : Nat) (w : Word) (s : State) : Prop :=
  isUp s = true ∧ linked p s = true ∧ mayWrite s p (regOff r i j) = true ∧ keepChanged r i w = false

/-! ### Lodge commands -/

/-- R377: the mailbox and the opcode of a command row. -/
def commandRow : Instr → Option (Fin 8 × Nat)
  | .powerSet m => some (m, 0x01)
  | .powerQuery m => some (m, 0x02)
  | .partnerBind m => some (m, 0x10)
  | .partnerConfig m => some (m, 0x11)
  | .laneTrain m => some (m, 0x12)
  | .delayMeasure m => some (m, 0x13)
  | .calLoad m => some (m, 0x20)
  | .calSwap m => some (m, 0x21)
  | .walkLoad m => some (m, 0x22)
  | .timeDomainSelect m => some (m, 0x30)
  | .engineMigrate m => some (m, 0x31)
  | .streamMove m => some (m, 0x32)
  | .quarryExport m _ => some (m, 0x40)
  | .recallHost m _ => some (m, 0x41)
  | .decompressCheck m _ => some (m, 0x42)
  | .retireAdd m => some (m, 0x50)
  | .retireList m => some (m, 0x51)
  | .scrubSet m => some (m, 0x52)
  | .gaugeSelfcal m _ => some (m, 0x60)
  | .plbRead m => some (m, 0x70)
  | .cnsRead m => some (m, 0x71)
  | .cnsClear m => some (m, 0x72)
  | .faultAckBulk m => some (m, 0x80)
  | .diagLoop m _ => some (m, 0xF0)
  | _ => none

/-- R371: the words of a response: status, sequence number with detail, time in units of 1,024 core cycles, and the results with zeros after them. -/
def response (x : LdgCmd) (status detail time : Nat) (res : List Word) : List Word :=
  [(x.w 0 &&& 0xFF00FFFF) ||| mkFld 23 16 status, mkFld 31 16 x.seq ||| mkFld 15 0 detail, w32 time] ++ (res ++ List.replicate 13 0).take 13

/-- R367, R371, R372: the next command of mailbox `m` may start: it holds its resources, its opcode is `op`, its unused bits are 0 and its port may
give it. -/
structure Ready (m op : Nat) (x : LdgCmd) (s : State) : Prop where
  up : isUp s = true
  run : (mailbox s m).run = none
  start : startable s m = some x
  opcode : x.opcode = op
  unused : unusedZero x = true
  owner : notOwner s m op = false
  tables : TablesRise s

/-- R368, R371, R372: a command that starts and ends at once has left the queue, and its response has joined those that wait; a status other than 0
raises LDG_CMD_ERROR with mailbox, opcode and status. -/
def Answered (m : Nat) (x : LdgCmd) (status detail : Nat) (res : List Word) (s t : State) : Prop :=
  (mailbox t m).done = (mailbox s m).done ++ [(x.seq, response x status detail 0 res)] ∧ (mailbox t m).queue = (mailbox s m).queue.tail ∧
    (mailbox t m).run = none ∧ (status ≠ 0 → Reported Src.ldgCmdError m [w32 m, w32 x.opcode, w32 status] s t)

/-- R374: a command has left the queue and runs. -/
def Started (m : Nat) (x : LdgCmd) (wait : LdgWait) (s t : State) : Prop :=
  (mailbox t m).run = some ⟨x, nowStamp s, wait, false⟩ ∧ (mailbox t m).queue = (mailbox s m).queue.tail ∧ (mailbox t m).done = (mailbox s m).done

/-- R371, R374: the running command of mailbox `m` has ended, and its response has joined those that wait. -/
def Completed (m : Nat) (r : LdgRun) (status detail : Nat) (res : List Word) (s t : State) : Prop :=
  (mailbox t m).done = (mailbox s m).done ++
      [(r.cmd.seq, response r.cmd status detail ((cyclesSince r.started (nowStamp s) + 1023) / 1024) res)] ∧
    (mailbox t m).run = none ∧ (mailbox t m).queue = (mailbox s m).queue ∧
    (status ≠ 0 → Reported Src.ldgCmdError m [w32 m, w32 r.cmd.opcode, w32 status] s t)

/-- R343: what a memory write of 64-bit words carries, the low half of each first. -/
abbrev hostWords (ws : List DWord) : List Word := ws.flatMap (fun (w : DWord) => [w.setWidth 32, (w >>> 32).setWidth 32])

/-- R375, R376: the next write of an image to the host buffer, at most 64 words: HOST_LINK where the port cannot write, DOMAIN_OFF where what it reads has
gone (`off`), each with the bytes written; OK after the last word. -/
def ImageWritten (m : Nat) (r : LdgRun) (w : ImageRun) (off : Bool) (s t : State) : Prop :=
  (hostReady s (boxPort m) = false → Completed m r 9 0 (w.head ++ two w.sent) s t) ∧
  (hostReady s (boxPort m) = true → off = true → Completed m r 4 0 (w.head ++ two w.sent) s t) ∧
  (hostReady s (boxPort m) = true → off = false →
    (w.todo ≠ [] → (hostPort t (boxPort m)).msgs = ⟨w.addr, hostWords (w.todo.take 64)⟩ :: (hostPort s (boxPort m)).msgs) ∧
    (w.todo.length ≤ 64 → Completed m r 0 0 (w.head ++ two (w.sent + 8 * w.todo.length) ++ w.after) s t) ∧
    (64 < w.todo.length →
      (mailbox t m).run = some { r with wait := .image { w with addr := w.addr + 512, todo := w.todo.drop 64, sent := w.sent + 512 } }))

/-- R319: the entries of the log that satisfy a test are acknowledged, and no others. A source of a primary one that is left without an unacknowledged
primary entry is IDLE; acknowledging consequential entries only changes no source, and no source without a primary entry among them changes. -/
def AckedBy (p : LogEntry → Bool) (s t : State) : Prop :=
  t.flt.log = s.flt.log.map (fun e => if p e = true then { e with acked := true } else e) ∧
  ((∀ e ∈ s.flt.log, p e = true → e.consequential = true) → t.flt.srcs = s.flt.srcs) ∧
  (∀ e ∈ s.flt.log, p e = true → e.consequential = false → (∀ x ∈ t.flt.log, x.report.source = e.report.source → x.consequential = true ∨ x.acked = true) →
    (srcState t e.report.source).phase = .idle) ∧
  ∀ n : Nat, (∀ e ∈ s.flt.log, p e = true → e.consequential = false → e.report.source ≠ n) → srcState t n = srcState s n

/-- The lanes of a LANE_TRAIN (R378). -/
def LdgCmd.lanesNamed (x : LdgCmd) : List Nat := (List.range 8).flatMap (fun i => wordBits (x.w (2 + i)) (32 * i))

/-- R37: domain `d` has gone to LOST with a cause: its state, cause and course, TIME_DOMAIN_LOST with domain and cause, the other domain as it was; the
servo follows only where `d` is the active domain: to FREE from ACQUIRE, to HOLDOVER from LOCKED with TIME_HOLDOVER (R38, R43); without a good
oscillator and with no other domain LOCKED a servo in LOCKED or HOLDOVER goes to FREE (R45). -/
def LostBy (d : Fin 2) (cause : Nat) (s t : State) : Prop :=
  (qdom t d).phase = .lost ∧ (qdom t d).lostCause = cause ∧ (qdom t d).lostCourse = nowCourse s ∧ qdom t (otherDom d) = qdom s (otherDom d) ∧
    Evented .quoEvt 0 (18 + d) s t ∧ RegsKept [(.quoEvt, 0, 0)] s t ∧ Reported Src.timeDomainLost d [w32 d, w32 cause] s t ∧
    (s.quo.servo = .free ∨ (s.quo.servo ≠ .holdover ∧ s.quo.active ≠ d) → t.quo.servo = s.quo.servo) ∧
    (s.quo.servo = .holdover →
      t.quo.servo = if s.quo.xoOk = true ∨ (qdom s (otherDom d)).phase = .locked then .holdover else .free) ∧
    (s.quo.active = d → s.quo.servo = .acquire → t.quo.servo = .free) ∧
    (s.quo.active = d → s.quo.servo = .locked →
      (s.quo.xoOk = true ∨ (qdom s (otherDom d)).phase = .locked → t.quo.servo = .holdover ∧ Reported Src.timeHoldover 0 [] s t) ∧
      (s.quo.xoOk = false → (qdom s (otherDom d)).phase ≠ .locked → t.quo.servo = .free))

/-- R337, R338: what a vote makes of a counter's three copies: the value that two of them hold, or the largest where no two are equal. -/
def counterVote {n : Nat} (x : Tri n) : Nat :=
  if x.c0 = x.c1 ∨ x.c0 = x.c2 then x.c0.toNat else if x.c1 = x.c2 then x.c1.toNat else max x.c0.toNat (max x.c1.toNat x.c2.toNat)

/-- R344: a port's configuration space at its defaults: Bus Master Enable, MSI-X Enable and Function Mask 0, power state D0, no error status, every
vector masked, no message due and none pending. -/
def HostPort.AtDefaults (h : HostPort) : Prop :=
  h.bme = false ∧ h.msixEn = false ∧ h.fnMask = false ∧ h.dstate = 0 ∧ h.aerUncorr = 0 ∧ h.aerCorr = 0 ∧ h.aerLog = none ∧ (∀ v, vecMasked h v = true) ∧
    ∀ v, (smGet .idle h.vectors v).due = false ∧ (smGet .idle h.vectors v).pba = false

/-- The registers whose write has an effect of its own besides what its RW fields store. -/
def hasEffect : Reg → Bool
  | .ldgMbSubmit | .ldgMbAck | .fltCtl | .hstLock | .hstOwner | .fltAck | .fltAckUpto | .fltDpCtl | .fltSnapSeq | .fltSnapSrc | .btrCtl | .btrInject
  | .quoNominal | .quoOrbit | .quoTxqPop | .quoSnapSel | .quoTxCtl | .quoDlPhase | .quoPdelay | .plbCtl | .plbSnapSel | .plbSig | .gauCtl
  | .gauBlank | .gauSnapSel | .gauChCfg | .gauCalGain | .gauOutCfg | .bedGrpCfg | .bedGrpCtl | .bedSnapSel | .bedPclr | .bedLaneCfg | .bedDlCfg | .bedDlFc | .ashEngCtl
  | .crsCtl | .crsSnapSel | .molCtl | .qryCtl | .qryHwinPage | .qryFindHi | .qryFindLo | .qryFindNs | .qrySnapSel | .memCtl | .memInject
  | .mrtAccCtl | .mrtThrotPool | .mrtThrotTable | .mrtThrotSelLo | .mrtThrotSelHi | .mrtStreamWm | .mrtSnapSel | .mrtStreamCtl | .uplLinkCfg
  | .uplRlCfg | .lntCtl => true
  | _ => false

/-- A register that only holds what is written to its RW fields: not an event register, not write-once, not course-buffered, not under a lock. -/
def plainReg (r : Reg) : Bool :=
  regMask r .sqc == 0 && regMask r .once == 0 && regMask r .cb == 0 && regMask r .lk == 0 && !hasEffect r

/-- The bit that clears the counters of a block, for the registers that have one; PLB_CTL's, whose other bits may count anew, has a claim of its own. -/
def clearBit : Reg → Option Nat
  | .btrCtl | .crsCtl | .qryCtl | .memCtl | .lntCtl | .fltCtl => some 31
  | .bedGrpCtl | .bedPclr | .ashEngCtl | .molCtl => some 0
  | .mrtAccCtl => some 2
  | _ => none

/-- The counters that a clear bit sets to 0: BTR (R340), bed groups (R89), partners (R119), engines (R143), the ring and the coders (R170), the quarry
(R199), the memories (R340), the Lintel (R254), the collector (R320), the mortar (R231). -/
def clearedBy (r : Reg) (i : Nat) : List (Reg × Nat) :=
  match r with
  | .btrCtl => (List.range 3).map (fun k => (.btrOutvotes, k))
  | .bedGrpCtl => (List.range 8).flatMap fun k => [(.bedLaneErr, 8 * i + k), (.bedLaneCnt, 8 * i + k)]
  | .bedPclr => (List.range 8).flatMap fun k => [(.bedPcntFrame, 8 * i + k), (.bedPcntCap, 8 * i + k), (.bedPcntSpan, 8 * i + k)]
  | .ashEngCtl => [Reg.ashInDrop, .ashCntUncal, .ashCntShift, .ashStraggle, .ashCntWave, .ashCheckErr].map (fun q => (q, i))
  | .crsCtl => (.crsEarlyRel, 0) :: (List.range 32).map (fun g => (.crsLateRec, g)) ++
      (List.range 4).flatMap fun k => [(.crsMemErr, k), (.crsOosDrop, k), (.crsCapDrop, k)]
  | .molCtl => [Reg.molOverrun, .molMismatch, .molNoshrink, .molBigSlot, .molBlocks].map (fun q => (q, i))
  | .qryCtl => [(.qryPinBreaks, 0), (.qryDamaged, 0), (.qryReadCrc, 0)]
  | .memCtl => [(.memRestoreCnt, 0), (.memHbmCnt, 0), (.memScrubStat, 0)] ++ (List.range 11).flatMap fun k => [(.memCntUncorr, k), (.memCntCorr, k)]
  | .lntCtl => [Reg.lntCntAdmit, .lntCntOver, .lntCntLateTap, .lntCntSat, .lntCntSkip, .lntCntFrames].map (fun q => (q, 0))
  | .fltCtl => [(.fltLogLost, 0)]
  | .mrtAccCtl => [Reg.mrtCntAccept, .mrtCntRecall, .mrtCntLost, .mrtCntRefused, .mrtCntGap, .mrtCntDisc, .mrtCntIgnored].map (fun q => (q, 0)) ++
      ((List.range 4).flatMap fun u => [(.mrtUnitCnt, u), (.mrtUnitTrunc, u), (.mrtUnitLatepath, u), (.mrtUnitCellerr, u)]) ++
      (List.range 48).map (fun k => (.mrtStreamLate, k))
  | _ => []

end Sys2Proof.Machine
end

