-- ==== Sys2Proof/Certificates/Slice0/Obligations.lean ====
section
/-!
DEFINITION. The statements about the Portik, for the provers.
-/
open Sys2Proof Sys2Proof.Machine

/-! ### The machine as a whole -/

/-- A step runs the command at the front of the queue on the state with the queue's rest. -/
def Obligations.StepRunsFront : Prop :=
  ∀ (c : Instr) (rest : List Instr) (s : State), s.pending = c :: rest → step s = exec c { s with pending := rest }

/-- On an empty queue a block that is up lets one core cycle of its course pass, up to the last one, and one that is not stays as it is.
DESIGN CHOICE of the model (log entry 1): the table has no row for the clock. -/
def Obligations.EmptyQueueIdles : Prop :=
  ∀ s : State, s.pending = [] →
    (isUp s = false → step s = .next s) ∧
    (isUp s = true → nowCycle s < 1535 → s.btr.pos.val.toNat % 32 < 24 →
      ∃ t : State, step s = .next t ∧ nowCycle t = nowCycle s + 1 ∧ nowCourse t = nowCourse s ∧ Only [.btr, .regs, .flt, .port0, .port1, .lnt, .plb] s t)

/-- Every store is empty or at its reset value and every table in order right after reset, nothing of a machine without power is kept, and
every name lies in its range.
The model’s choices that it rests on: log entries 15 to 17, 101 and 154. -/
def Obligations.ResetIsSound : Prop :=
  MemoryWf State.reset ∧ TablesRise State.reset ∧ Capacities State.reset ∧ OffIsLost State.reset ∧ NamesInRange State.reset

/-- Memory keeps its canonical form and every sparse table its order, whatever a step does. -/
def Obligations.StoresStayCanonical : Prop :=
  ∀ s t : State, MemoryWf s → TablesRise s → step s = .next t → MemoryWf t ∧ TablesRise t

/-- No step makes a store outgrow its size: the fault log, the transmit stamp queue, the restore queue, the Plumb's queue, the Cornerstone's failed
slots (R449), the retirement map of 4,096 rows (R194). -/
def Obligations.CapacitiesHold : Prop :=
  ∀ s t : State, Capacities s → step s = .next t → Capacities t

/-- A machine that loses its power or enters foundation reset keeps nothing of its volatile stores, and gets nothing back before it is up. -/
def Obligations.OffMachineIsLost : Prop :=
  ∀ s t : State, OffIsLost s → step s = .next t → OffIsLost t

/-- Whatever a step does, the partner map, the lanes, the slot map and the migrations name only partners, lanes and engines that exist,
and the accept table only identifiers given out. -/
def Obligations.NamesStayInRange : Prop :=
  ∀ s t : State, TablesRise s → NamesInRange s → step s = .next t → NamesInRange t

/-- The frame of every command: nothing changes outside the parts that the command touches; the queue of the commands that wait is
no part of any. -/
def Obligations.CommandFrames : Prop :=
  ∀ (c : Instr) (s t : State), exec c s = .next t → Only (touches c) s t

/-- A block without power or in reset does nothing on a command, but for pins, the power's own events and the JTAG port.
The model’s choices that it rests on: log entry 120. -/
def Obligations.OffMachineIsInert : Prop :=
  ∀ (c : Instr) (s : State), isUp s = false → actsWithoutPower c = false → exec c s = .next s

/-- Every command of every kind completes, in every state: it answers a next state, unless it is a host's write of a register that changes a KEEP bit
(R3). No command faults, and one stops only where such a write does.
The model’s choices that it rests on: log entry 19. -/
def Obligations.OnlyKeepStops : Prop :=
  (∀ (c : Instr) (s : State), LeavesKeep c → ∃ t : State, exec c s = .next t) ∧
  ∀ (c : Instr) (s : State), (∀ f : Fault, exec c s ≠ .fault f) ∧ ∀ r : Refusal, exec c s = .refused r → r = .keepFieldChanged ∧
    ∃ (p off : Nat) (w : Word) (reg : Reg) (i j : Nat), regAt off = some (reg, i, j) ∧ exec c s = hostRow p off w s ∧ keepChanged reg i w = true

/-! ### Registers and ports -/

/-- Every register entry that exists is the one that the map answers at its offset: no two entries share an offset.
The model’s choices that it rests on: log entry 18. -/
def Obligations.RegisterMapExact : Prop :=
  ∀ (r : Reg) (i j : Nat), regExists r i j = true → regAt (regOff r i j) = some (r, i, j)

/-- A host write by REGISTER_WRITE of a register without an effect of its own stores the bits of its RW fields, leaves its other bits, and changes
nothing else.
The model’s choices that it rests on: log entries 19 and 155. -/
def Obligations.PlainRegisterWrite : Prop :=
  ∀ (p : Fin 2) (off : BitVec 24) (w : Word) (r : Reg) (i j : Nat) (s : State),
    off.toNat = regOff r i j → regAt (regOff r i j) = some (r, i, j) → isMsix (regOff r i j) = false → HostMay p r i j w s → plainReg r = true →
    ∃ t : State, exec (.registerWrite p off w) s = .next t ∧ t = setCell r i j (mergeMask (storeMask r) (cell s r i j) w) s ∧
      (TablesRise s → cell t r i j = (cell s r i j &&& ~~~ storeMask r) ||| (w &&& storeMask r)) ∧
      (TablesRise s → ∀ (r' : Reg) (i' j' : Nat), regOff r' i' j' ≠ regOff r i j → cell t r' i' j' = cell s r' i' j') ∧ Only [.regs] s t

/-- R347: a write by the port that does not own the registers, outside its open set, is not performed: the register file stays but for REFUSED_WRITES,
which advances in HST_REFUSED, and REFUSED_WRITE in HST_EVT.
R348: while HST_OWNER is 0, names the writing port or names a port that is absent, a write of HST_OWNER takes a new OWNER other than 3 and is an
OWNER_CHANGED event; while it names the other port, present, the write is refused.
The model’s choices that it rests on: log entry 146. -/
def Obligations.RegisterOwnership : Prop :=
  (∀ (p : Fin 2) (off : BitVec 24) (w : Word) (s : State),
    isUp s = true → linked p s = true → mayWrite s p off.toNat = false → TablesRise s →
    ∃ t : State, exec (.registerWrite p off w) s = .next t ∧ Evented .hstEvt 0 20 s t ∧
      cell t .hstRefused = incSat (cell s .hstRefused) 31 16 1 ∧
      (∀ (r : Reg) (i j : Nat), regOff r i j ≠ regOff .hstEvt → regOff r i j ≠ regOff .hstRefused → cell t r i j = cell s r i j) ∧
      Only [.regs, .port0, .port1] s t) ∧
  (∀ (p : Fin 2) (w : Word) (s : State), HostMay p .hstOwner 0 0 w s → TablesRise s →
    ∃ t : State, exec (.hstOwnerWrite p w) s = .next t ∧ Only [.regs, .port0, .port1] s t ∧
      (owner s = 0 ∨ owner s = p + 1 ∨ portAbsent s (owner s - 1) = true →
        (fld w 1 0 ≠ 3 → fld w 1 0 ≠ owner s → owner t = fld w 1 0 ∧ Evented .hstEvt 0 23 s t) ∧ (fld w 1 0 = 3 ∨ fld w 1 0 = owner s → t = s)) ∧
      (¬ (owner s = 0 ∨ owner s = p + 1 ∨ portAbsent s (owner s - 1) = true) →
        owner t = owner s ∧ Evented .hstEvt 0 20 s t ∧ cell t .hstRefused = incSat (cell s .hstRefused) 31 16 1))

/-- R353: a write of a course-buffered register sets its pending value, whatever it was; the value in force stays until a course tick. For a stream map
as long as it may change (R268); else the map stays and the write is an event.
The model’s choices that it rests on: log entry 4. -/
def Obligations.CourseBufferedWrite : Prop :=
  (∀ (p : Fin 2) (off : BitVec 24) (w : Word) (r : Reg) (i j : Nat) (s : State),
    off.toNat = regOff r i j → regAt (regOff r i j) = some (r, i, j) → isMsix (regOff r i j) = false → HostMay p r i j w s → TablesRise s →
    regMask r .sqc = 0 → regMask r .once = 0 → regMask r .cb ≠ 0 → r ≠ .uplStreamMap →
    ∃ t : State, exec (.registerWrite p off w) s = .next t ∧ (cbReg t r i).waiting = true ∧ (cbReg t r i).pend = w &&& regMask r .cb ∧
      inForce t r i = inForce s r i ∧ (∀ (r' : Reg) (i' : Nat), regOff r' i' ≠ regOff r i → cbReg t r' i' = cbReg s r' i') ∧ Only [.btr] s t) ∧
  (∀ (p : Fin 2) (x : Fin 48) (w : Word) (s : State), HostMay p .uplStreamMap x 0 w s → TablesRise s →
    ∃ t : State, exec (.streamMapWrite p x w) s = .next t ∧ inForce t .uplStreamMap x = inForce s .uplStreamMap x ∧
      (mapWritable s x = true → (cbReg t .uplStreamMap x).waiting = true ∧ (cbReg t .uplStreamMap x).pend = w &&& regMask .uplStreamMap .cb ∧
        Only [.btr] s t) ∧
      (mapWritable s x = false → Evented .uplEvt 0 19 s t ∧ Only [.regs, .port0, .port1] s t))

/-- R355: a write to an event register whose [15:0] equals its current sequence number clears all its event bits, and one with any other value changes
nothing; the sequence number stays. A clear bit written as 1 sets the counters of its block to 0, those too that share a register with other
fields or that no register holds: the events and the offence count of a partner (R119, R120), RECOVERED and CONSEQ of every source (R320), and
the smallest counts of the ring, the quarry and the pool, which start anew from the present count (R170, R199, R231).
The model’s choices that it rests on: log entries 110 and 111. -/
def Obligations.ClearingWrites : Prop :=
  (∀ (p : Fin 2) (off : BitVec 24) (w : Word) (r : Reg) (i : Nat) (s : State),
    off.toNat = regOff r i → regAt (regOff r i) = some (r, i, 0) → isMsix (regOff r i) = false → HostMay p r i 0 w s → TablesRise s →
    regMask r .sqc ≠ 0 →
    ∃ t : State, exec (.sqcClearWrite p off w) s = .next t ∧ Only [.regs] s t ∧
      cell t r i = (if fld w 15 0 = fld (cell s r i) 15 0 then cell s r i &&& ~~~ (regMask r .sqc &&& 0xFFFF0000) else cell s r i) ∧
      (∀ (r' : Reg) (i' j' : Nat), regOff r' i' j' ≠ regOff r i → cell t r' i' j' = cell s r' i' j')) ∧
  (∀ (p : Fin 2) (off : BitVec 24) (w : Word) (r : Reg) (i b : Nat) (s : State),
    off.toNat = regOff r i → regAt (regOff r i) = some (r, i, 0) → isMsix (regOff r i) = false → HostMay p r i 0 w s → TablesRise s →
    clearBit r = some b → bit w b = true →
    ∃ t : State, exec (.cntClr p off w) s = .next t ∧ (∀ x ∈ clearedBy r i, cell t x.1 x.2 = 0) ∧
      (r = .bedPclr → ∀ k : Nat, 8 * i ≤ k → k < 8 * i + 8 → cell t .bedPevt k = setFld (cell s .bedPevt k) 20 16 0 ∧
        partner t k = { partner s k with history := 0, offences := 0 }) ∧
      (r = .fltCtl → ∀ n : Nat, srcState t n = { srcState s n with recovered := 0, conseq := 0 }) ∧
      (r = .crsCtl → ∀ k < 4, cell t .crsFree k = setFld (cell s .crsFree k) 31 16 (fld (cell s .crsFree k) 15 0)) ∧
      (r = .qryCtl → cell t .qryDepthMin = w32 (qryDepth s) ∧ t.qry.minCleared = true) ∧
      (r = .mrtAccCtl → fld (cell t .mrtPoolStat) 31 16 = freeCells s % 65536)) ∧
  (∀ (p : Fin 2) (s : State), HostMay p .plbCtl 0 0 0x80000000 s → TablesRise s →
    ∃ t : State, exec (.cntClr p (BitVec.ofNat 24 (regOff .plbCtl)) 0x80000000) s = .next t ∧ cell t .plbMissed = 0 ∧ cell t .plbLost = 0 ∧
      RegsKept [(.plbMissed, 0, 0), (.plbLost, 0, 0)] s t ∧ Only [.regs] s t)

/-- R359, R360: the first write of DEVICE_ID or INSTALL_POSITION takes the value, locks it and is due to be journalled as an IDENT event; a later one
leaves it and raises LOCK_WRITE with the address, the port and the attempted value.
R361: a write through the bit-alias window sets the named bit of an RW field to bit 0 of the value written and no other bit of the register.
The model’s choices that it rests on: log entry 104. -/
def Obligations.WriteOnceAndAlias : Prop :=
  (∀ (p : Fin 2) (position : Bool) (w : Word) (s : State),
    HostMay p (if position then .hstInstallPos else .hstDeviceId) 0 0 w s → TablesRise s →
    ∃ t : State, exec (.onceWrite p position w) s = .next t ∧
      ((if position then s.btr.posWritten.val else s.btr.devIdWritten.val) = 0 →
        cell t (if position then .hstInstallPos else .hstDeviceId) = w ∧
        (if position then t.btr.posWritten.val else t.btr.devIdWritten.val) = 1 ∧
        (∃ d : CnsDue, t.cns.due = s.cns.due ++ [d] ∧ d.type = 2) ∧ Only [.regs, .btr, .cns] s t) ∧
      ((if position then s.btr.posWritten.val else s.btr.devIdWritten.val) = 1 →
        cell t (if position then .hstInstallPos else .hstDeviceId) = cell s (if position then .hstInstallPos else .hstDeviceId) ∧
        Reported Src.lockWrite p [w32 (regOff (if position then .hstInstallPos else .hstDeviceId)), w32 p, w] s t ∧
        Evented .hstEvt 0 22 s t ∧ Only [.regs, .flt, .port0, .port1] s t)) ∧
  (∀ (p : Fin 2) (off : BitVec 23) (w : Word) (r : Reg) (i j : Nat) (s : State),
    4 * (off.toNat / 128) = regOff r i j → regAt (regOff r i j) = some (r, i, j) → isMsix (regOff r i j) = false →
    isUp s = true → linked p s = true → mayWrite s p (regOff r i j) = true → TablesRise s → plainReg r = true →
    bitAccess r (off.toNat % 128 / 4) = .rw →
    ∃ t : State, exec (.bitAliasWrite p off w) s = .next t ∧
      cell t r i j = setBit (cell s r i j) (off.toNat % 128 / 4) (bit w 0) ∧
      (∀ (r' : Reg) (i' j' : Nat), regOff r' i' j' ≠ regOff r i j → cell t r' i' j' = cell s r' i' j') ∧ Only [.regs] s t)

/-- R354, R357: a write of a bank's selector register clears VALID of the writing port's bank and starts a capture that abandons the one under way; the
capture sets the data words, the selector, VALID and the next sequence number; the port's other banks stay.
The model’s choices that it rests on: log entries 112 and 113. -/
def Obligations.SnapshotBanks : Prop :=
  (∀ (p : Fin 2) (bank : BankId) (w : Word) (r : Reg) (i j sel : Nat) (s : State),
    regAt (bankSelector bank) = some (r, i, j) → HostMay p r i j w s → TablesRise s → snapSelector (bankNumber bank) w = some sel →
    ∃ t : State, exec (.snapshotSelect p bank w) s = .next t ∧ Only [.regs, .port0, .port1] s t ∧
      snapBank t p (bankNumber bank) = { snapBank s p (bankNumber bank) with valid := false, waiting := some ⟨sel, w, none⟩ } ∧
      ∀ (p' : Fin 2) (b' : Nat), (p' ≠ p ∨ b' ≠ bankNumber bank) → snapBank t p' b' = snapBank s p' b') ∧
  (∀ (p : Fin 2) (w : Word) (s : State), TablesRise s →
    (HostMay p .fltSnapSeq 0 0 w s → ∃ t : State, exec (.fltSnapSeq p w) s = .next t ∧ (snapBank t p 6).valid = false ∧
      (snapBank t p 6).waiting = some ⟨0, w, none⟩) ∧
    (HostMay p .fltSnapSrc 0 0 w s → ∃ t : State, exec (.fltSnapSrc p w) s = .next t ∧ (snapBank t p 6).valid = false ∧
      (snapBank t p 6).waiting = some ⟨1, w, none⟩) ∧
    (HostMay p .qryFindNs 0 0 w s → ∃ (t : State) (d : List Word), exec (.qryFind p w) s = .next t ∧ (snapBank t p 4).valid = false ∧
      (snapBank t p 4).waiting = some ⟨2, w, some d⟩)) ∧
  (∀ (p : Fin 2) (bank : BankId) (x : SnapWait) (s : State),
    isUp s = true → TablesRise s → (snapBank s p (bankNumber bank)).waiting = some x → ¬ (bank = .qry ∧ x.sel = 2) →
    ∃ t : State, exec (.snapshotCapture p bank) s = .next t ∧ Only [.port0, .port1] s t ∧
      snapBank t p (bankNumber bank) =
        ⟨((snapBank s p (bankNumber bank)).seq + 1) % 65536, x.sel, true, snapData s (bankNumber bank) x, none⟩ ∧
      ∀ (p' : Fin 2) (b' : Nat), (p' ≠ p ∨ b' ≠ bankNumber bank) → snapBank t p' b' = snapBank s p' b') ∧
  (∀ (p : Fin 2) (w : Word) (d : List Word) (s : State),
    isUp s = true → TablesRise s → (snapBank s p 4).waiting = some ⟨2, w, some d⟩ →
    ∃ t : State, exec (.qryFindDone p) s = .next t ∧ Only [.port0, .port1] s t ∧ snapBank t p 4 = ⟨((snapBank s p 4).seq + 1) % 65536, 2, true, d, none⟩)

/-- R344: what each event of an endpoint does. PERST_N, a hot reset and a function-level reset return its configuration space to defaults; the first two
also take the link down, and a hot reset leaves PERST_N. A function-level reset, a lost link and an uncorrectable error raise their sources and their
event bits; a link in L0 that is lost counts; a bad access (R345) and a correctable error (R362) are counted, a bad read answers all ones, and a bad
write of a port that may not write there is refused (R347); a configuration write sets the enables, the function mask and the power state, and the
vectors follow their masks (R343, R346); a trained link of a port that may train comes into L0. The model’s choices that it rests on: log entries 106,
115, 147, 173 and 193. -/
def Obligations.PortLinks : Prop :=
  ∀ (p : Fin 2) (s : State), TablesRise s →
    (∃ t : State, exec (.perstAssert ⟨p, false⟩) s = .next t ∧ Only [.port0, .port1] s t ∧ (hostPort t p).perst = true ∧ (hostPort t p).l0 = false ∧
      (hostPort t p).AtDefaults ∧ hostPort t (1 - p) = hostPort s (1 - p)) ∧
    ((hostPort s p).l0 = true → ∃ t : State, exec (.perstAssert ⟨p, true⟩) s = .next t ∧ Only [.port0, .port1] s t ∧
      (hostPort t p).perst = (hostPort s p).perst ∧ (hostPort t p).l0 = false ∧ (hostPort t p).AtDefaults ∧
      hostPort t (1 - p) = hostPort s (1 - p)) ∧
    (∃ t : State, exec (.perstRelease p) s = .next t ∧ Only [.port0, .port1] s t ∧ hostPort t p = { hostPort s p with perst := false } ∧
      hostPort t (1 - p) = hostPort s (1 - p)) ∧
    (isUp s = true → linked p s = true →
      (∃ t : State, exec (.hstFlr p) s = .next t ∧ Only reportZones s t ∧ (hostPort t p).AtDefaults ∧ (hostPort t p).l0 = true ∧
        Evented .hstEvt 0 19 s t ∧ Reported Src.hstFlr p [w32 p] s t) ∧
      (∀ training : Word, ∃ t : State, exec (.hstLinkDown p training) s = .next t ∧ Only reportZones s t ∧ (hostPort t p).l0 = false ∧
        Evented .hstEvt 0 18 s t ∧ cell t .hstPortCnt p = incSat (cell s .hstPortCnt p) 15 0 1 ∧
        Reported Src.hstLinkDown p [w32 p, training] s t) ∧
      (∀ (bar2 write : Bool) (a : BitVec 24) (n : BitVec 11), ∃ t : State, exec (.badAccess ⟨p, bar2, a, write, n⟩) s = .next t ∧
        Only [.regs, .port0, .port1] s t ∧
        (write = true → mayWrite s p (if bar2 then 4 * (a.toNat / 128) else a.toNat) = false →
          Evented .hstEvt 0 20 s t ∧ cell t .hstRefused = incSat (cell s .hstRefused) 31 16 1) ∧
        (write = false ∨ mayWrite s p (if bar2 then 4 * (a.toNat / 128) else a.toNat) = true →
          Evented .hstEvt 0 21 s t ∧ cell t .hstRefused = incSat (cell s .hstRefused) 15 0 1) ∧
        (write = false → (hostPort t p).badData = List.replicate n.toNat 0xFFFFFFFF) ∧
        ∀ (r : Reg) (i j : Nat), regOff r i j ≠ regOff .hstEvt → regOff r i j ≠ regOff .hstRefused → cell t r i j = cell s r i j) ∧
      (∀ bme enable mask d3 : Bool, ∃ t : State, exec (.pcieConfigWrite p bme ⟨enable, mask⟩ d3) s = .next t ∧ Only [.port0, .port1] s t ∧
        { hostPort t p with vectors := (hostPort s p).vectors } =
          { hostPort s p with bme := bme, msixEn := enable, fnMask := mask, dstate := if d3 then 3 else 0 } ∧
        (∀ v : Fin 32, smGet .idle (hostPort t p).vectors v =
          (smGet .idle (hostPort s p).vectors v).settle (mask || bit (msixWord (hostPort s p) (16 * v + 12)) 0)) ∧
        hostPort t (1 - p) = hostPort s (1 - p))) ∧
    (isUp s = true → linkAble s p = true → linked p s = false → ∀ (width speed : Fin 5),
      ∃ t : State, exec (.hstLinkUp p width speed) s = .next t ∧ Only [.port0, .port1] s t ∧
        hostPort t p = { hostPort s p with l0 := true, width := width, speed := speed } ∧ hostPort t (1 - p) = hostPort s (1 - p)) ∧
    (isUp s = true → domOn s (50 + p) = true →
      (∀ (status : Word) (header : BitVec 128) (address : Nat), address = headerAddress header →
        ∃ t : State, exec (.hstAerUncorr p status header) s = .next t ∧ Only reportZones s t ∧
        Evented .hstEvt 0 17 s t ∧ Reported Src.hstAerUncorr p [w32 p, status, w32 (address / 2 ^ 32), w32 address] s t ∧
        (hostPort t p).aerUncorr = (hostPort s p).aerUncorr ||| status ∧
        (hostPort t p).aerLog = (if (hostPort s p).aerLog = none then some (status, header) else (hostPort s p).aerLog)) ∧
      (∀ status : Word, ∃ t : State, exec (.aerCorr ⟨p, status⟩) s = .next t ∧ Only [.regs, .port0, .port1] s t ∧ Evented .hstEvt 0 16 s t ∧
        cell t .hstPortCnt p = incSat (cell s .hstPortCnt p) 31 16 1 ∧ (hostPort t p).aerCorr = (hostPort s p).aerCorr ||| status))

/-- R350: each register with event bits has its vector, and none but LDG_EVT has none. R351: an event of an enabled vector, with MSI-X Enable set, has a
message due at its port, or sets the pending bit while the vector is masked; with the vector or MSI-X Enable off it is not remembered. So does a setting
of an event bit, set before or not, at both ports; so do a host access that is turned away (vector 17), the placing of a response, at the port of its
mailbox alone (1 to 4), a primary log entry at or above IRQ_LEVEL (0), and the course tick every 2^(DIV − 1) courses (18).
A due message is sent to the address and with the data of its table entry, and the merge time runs if it is not zero; one that is not due is not sent.
When the merge time has passed, the events merged in it send one message.
The model’s choices that it rests on: log entries 21, 22, 23 and 106. -/
def Obligations.InterruptMessages : Prop :=
  (∀ r : Reg, (∀ v : Nat, vectorOf r = some v ↔ (r, v) ∈ vectorTable) ∧ (regMask r .sqc ≠ 0 → r ≠ .ldgEvt → ∃ v ≤ 17, vectorOf r = some v)) ∧
  (∀ (q : Fin 2) (v : Nat) (s : State), TablesRise s →
    VectorTold q v s (signal v s) ∧ (¬ (bit (cell s .hstIrqEn q) v = true ∧ (hostPort s q).msixEn = true) → hostPort (signal v s) q = hostPort s q) ∧
    ∀ (r : Reg) (i b : Nat), regExists r i 0 = true → vectorOf r = some v → VectorTold q v s (event r i b s)) ∧
  (∀ (p q : Fin 2) (bar2 : Bool) (a : BitVec 24) (n : BitVec 11) (s : State), isUp s = true → linked p s = true → TablesRise s →
    ∃ t : State, exec (.badAccess ⟨p, bar2, a, true, n⟩) s = .next t ∧ VectorTold q 17 s t ∧
      (¬ (bit (cell s .hstIrqEn q) 17 = true ∧ (hostPort s q).msixEn = true) → hostPort t q = hostPort s q)) ∧
  (∀ (m : Fin 8) (n : Nat) (ws : List Word) (rest : List (Nat × List Word)) (s : State), isUp s = true → TablesRise s →
    (mailbox s m).held = none → (mailbox s m).done = (n, ws) :: rest → ¬ (fld (ws.getD 0 0) 31 24 = 1 ∧ domOn s (50 + boxPort m) = false) →
    ∃ t : State, exec (.responsePlaced m) s = .next t ∧ VectorTold (boxPort m) (1 + m.val % 4) s t ∧
      hostPort t (1 - boxPort m) = hostPort s (1 - boxPort m)) ∧
  (∀ (r : Report) (q : Fin 2) (s : State), isUp s = true → TablesRise s → s.flt.fullWaiting = none → s.flt.held ≠ [] →
    firstReport (s.flt.held ++ s.flt.flying) = some r → isConsequential s r = false → s.flt.log.length < 1024 →
    fld (cell s .fltCtl) 10 8 ≤ (if actedLevel s r.source = 3 ∧ actsAsTwo s r.target then 2 else actedLevel s r.source) →
    ∃ t : State, exec .faultLog s = .next t ∧ VectorTold q 0 s t) ∧
  (∀ (obs : TickObs) (s : State), isUp s = true →
    ∃ (t u : State) (c : Nat), exec (.courseTick obs) s = .next t ∧ c % 2 ^ 56 = (counterVote s.btr.course + 1) % 2 ^ 56 ∧
      (periodDue (fld (cell u .hstTick) 4 0) c = false → t = u) ∧ (periodDue (fld (cell u .hstTick) 4 0) c = true → t = signal 18 u)) ∧
  (∀ (p : Fin 2) (v : Fin 32) (s : State), isUp s = true → TablesRise s →
    (messageDue (hostPort s p) v = false → exec (.msixMessage p v) s = .next s) ∧
    (messageDue (hostPort s p) v = true →
      ∃ t : State, exec (.msixMessage p v) s = .next t ∧ Only [.port0, .port1] s t ∧
        (hostPort t p).msgs = ⟨(msixWord (hostPort s p) (16 * v + 4)).toNat * 2 ^ 32 + (msixWord (hostPort s p) (16 * v)).toNat,
          [msixWord (hostPort s p) (16 * v + 8)]⟩ :: (hostPort s p).msgs ∧
        (smGet .idle (hostPort t p).vectors v).due = false ∧
        (smGet .idle (hostPort t p).vectors v).holdoff = decide (fld (cell s .hstIrqHoldoff p) 15 0 ≠ 0)) ∧
    (∃ t : State, exec (.irqHoldoffExpiry p v) s = .next t ∧ Only [.port0, .port1] s t ∧
      let h := hostPort s p
      let x := smGet .idle h.vectors v
      let sends := x.due && h.msixEn && h.bme && h.l0 && !vecMasked h v
      (sends = true → (smGet .idle (hostPort t p).vectors v).due = false ∧
        (smGet .idle (hostPort t p).vectors v).holdoff = decide (fld (cell s .hstIrqHoldoff p) 15 0 ≠ 0) ∧
        (hostPort t p).msgs = ⟨(msixWord h (16 * v + 4)).toNat * 2 ^ 32 + (msixWord h (16 * v)).toNat, [msixWord h (16 * v + 8)]⟩ :: h.msgs) ∧
      (sends = false → smGet .idle (hostPort t p).vectors v = { x with holdoff := false } ∧ (hostPort t p).msgs = h.msgs)))

/-! ### Time -/

/-- R9, R22: a course tick takes the voted course counter to the next course, at core cycle 0 of BT 0, and latches the absolute time it is given; with
HST_CB.HOLD at 0 every course-buffered value that waits is in force and no longer waits, and with HOLD at 1 none is (R353). Two kinds of them the tick
itself changes: OFS_BANK is 0 after a group enters dual mode, and after it leaves it with bank 1 (R126), and a stream's map has the target of the move
that is due (R270). The tick does its steps in the order of R9. 2: course C − 2 closes with the partners bound and the quarters in service, and joins
those to be published where the quarry runs. 3: with HOLD at 0 every binding that waits takes effect, and with HOLD at 1 none (R110, R112). 4: a
migration that is due gives its slot to the spare engine, or ends where that is not SPARE (R140); a domain in TRACKING becomes LOCKED exactly when it
meets the criteria (R36); a servo in FREE takes the first LOCKED domain, A before B, and enters ACQUIRE (R38); a selection of an eligible domain, or
one forced, switches to it, and one of a domain that is not LOCKED is refused (R51). 5: a restart, the isolation of every target that is still ON, and
a stop take effect (R306 to R308). The model’s choices that it rests on: log entries 14, 32, 145, 148, 149, 157 and 181. -/
def Obligations.CourseTickAdvances : Prop :=
  (∀ (obs : TickObs) (s : State), isUp s = true → TablesRise s →
    ∃ t : State, exec (.courseTick obs) s = .next t ∧ nowCourse t = (counterVote s.btr.course + 1) % 2 ^ 56 ∧ nowCycle t = 0 ∧ t.quo.tickTime = obs.time ∧
      (∀ x ∈ cbOrder, x.1 ≠ .ashCalSel → x.1 ≠ .uplStreamMap →
        (bit (cell s .hstCb) 0 = false → inForce t x.1 x.2 = (if (cbReg s x.1 x.2).waiting then (cbReg s x.1 x.2).pend else inForce s x.1 x.2) ∧
          (cbReg t x.1 x.2).waiting = false) ∧
        (bit (cell s .hstCb) 0 = true → inForce t x.1 x.2 = inForce s x.1 x.2 ∧ (cbReg t x.1 x.2).waiting = (cbReg s x.1 x.2).waiting ∧
          (cbReg t x.1 x.2).pend = (cbReg s x.1 x.2).pend)) ∧
      (∀ (g : Nat) (w : Word), g < 32 →
        w = (if bit (cell s .hstCb) 0 = false ∧ (cbReg s .ashCalSel g).waiting = true then (cbReg s .ashCalSel g).pend else inForce s .ashCalSel g) →
        (cbReg t .ashCalSel g).waiting = (bit (cell s .hstCb) 0 && (cbReg s .ashCalSel g).waiting) ∧
        inForce t .ashCalSel g = (if (dualMode s g = false ∧ dualMode t g = true) ∨
            (dualMode s g = true ∧ dualMode t g = false ∧ fld (inForce s .ashCalSel g) 0 0 = 1) then setFld w 0 0 0 else w)) ∧
      (∀ (k : Nat) (w : Word), k < 48 →
        w = (if bit (cell s .hstCb) 0 = false ∧ (cbReg s .uplStreamMap k).waiting = true then (cbReg s .uplStreamMap k).pend else inForce s .uplStreamMap k) →
        (cbReg t .uplStreamMap k).waiting = (bit (cell s .hstCb) 0 && (cbReg s .uplStreamMap k).waiting) ∧
        ((∀ m : MovePending, (stream s k).move = some m → m.boundary ≠ counterVote s.btr.course + 1) → inForce t .uplStreamMap k = w ∧
          (stream t k).move = (stream s k).move) ∧
        ∀ m : MovePending, (stream s k).move = some m → m.boundary = counterVote s.btr.course + 1 →
          inForce t .uplStreamMap k = (if m.mirror then setFld w 13 8 m.target else setFld w 5 0 m.target) ∧ (stream t k).move = none)) ∧
  (∀ (obs : TickObs) (s : State), isUp s = true → ∃ (c : Nat) (v : State × List (Nat × Option Nat)) (u : State),
    c = counterVote s.btr.course + 1 ∧ v = btrVote (courseRest s) ∧ u = stepTwo c obs v ∧
    exec (.courseTick obs) s =
      .next (tickSignal c (stepLast c (stepFive c (quarryTick c (stepFour c obs (decide (s.quo.servo = .free)) (tickDue u) (stepThree c u))))))) ∧
  (∀ (c : Nat) (obs : TickObs) (v : State × List (Nat × Option Nat)) (run : Bool), 2 ≤ c →
    run = (decide (v.1.qry.phase = .running) && (List.range 4).any (fun m => (quarter v.1 m).inService)) →
    (stepTwo c obs v).ring.closes = (⟨c - 2, (List.range 64).filterMap (fun p => (partnerGroup v.1 p).map (fun g => (p, g))),
      (List.range 4).filter (fun m => (quarter v.1 m).inService), run⟩ :: v.1.ring.closes).take 64 ∧
    (stepTwo c obs v).qry.jobs = v.1.qry.jobs ++ (if run then [⟨c - 2, []⟩] else [])) ∧
  (∀ (c : Nat) (s : State), TablesRise s → NamesInRange s →
    (bit (cell s .hstCb) 0 = true → stepThree c s = s) ∧
    (bit (cell s .hstCb) 0 = false → (stepThree c s).bindPending = [] ∧
      ∀ x ∈ s.bindPending, (∀ y ∈ s.bindPending, y.partner = x.partner → y = x) →
        (x.entry = none → (partner (stepThree c s) x.partner).binding = none) ∧
        (∀ b : Binding, x.entry = some b → ∃ b' : Binding, (partner (stepThree c s) x.partner).binding = some b' ∧ b'.record = b.record ∧
          b'.firstLane = b.firstLane ∧ b'.lanesM1 = b.lanesM1))) ∧
  (∀ (c : Nat) (obs : TickObs) (free : Bool) (d : TickDue) (s u : State), TablesRise s → NamesInRange s → u = stepFour c obs free d s →
    (s.ash.migrations.filter (fun y => !y.taken && decide (y.boundary = c + 1)) = [] → u.ash.slots = s.ash.slots) ∧
    (∀ m : Migration, s.ash.migrations.filter (fun y => !y.taken && decide (y.boundary = c + 1)) = [m] → m.slot < s.ash.slots.length →
      u.ash.reserved = false ∧
      ((engine s m.to_).phase = .spare → slotEngine u m.slot = m.to_ ∧ (engine u m.to_).phase = .active ∧
        ((engine s m.former).phase = .active → (engine u m.former).phase = .draining)) ∧
      ((engine s m.to_).phase ≠ .spare → u.ash.slots = s.ash.slots ∧ ∀ y ∈ u.ash.migrations, y.slot ≠ m.slot)) ∧
    (∀ (i : Fin 2) (ok : Bool), ok = (if i = 0 then obs.phaseOkA else obs.phaseOkB) →
      ((qdom s i).phase ≠ .tracking → (qdom u i).phase = (qdom s i).phase) ∧
      ((qdom s i).phase = .tracking →
        (∀ n g : Nat, ok = true → 63 ≤ (qdom s i).phaseRun → 4 ≤ (qdom s i).goodSyncs → (qdom s i).exchangeDone = true → (qdom s i).announced = true →
          (qdom s i).lastCount = some (n, g) → nowGbt s - g ≤ 4096 →
          (qdom u i).phase = .locked ∧ (qdom u i).lockCourse = nowCourse s ∧ (qdom u i).offset = BitVec.ofNat 64 n - BitVec.ofNat 64 g ∧
            bit (cell u .quoEvt) (16 + i) = true) ∧
        (ok = false ∨ (qdom s i).phaseRun < 63 ∨ (qdom s i).goodSyncs < 4 ∨ (qdom s i).exchangeDone = false ∨ (qdom s i).announced = false ∨
          (∀ n g : Nat, (qdom s i).lastCount = some (n, g) → 4096 < nowGbt s - g) → (qdom u i).phase = .tracking))) ∧
    (s.quo.servo = .free →
      ((qdom u 0).phase = .locked → u.quo.active = 0 ∧ u.quo.servo = .acquire) ∧
      ((qdom u 0).phase ≠ .locked → (qdom u 1).phase = .locked → u.quo.active = 1 ∧ u.quo.servo = .acquire) ∧
      ((qdom u 0).phase ≠ .locked → (qdom u 1).phase ≠ .locked → u.quo.active = s.quo.active ∧ u.quo.servo = .free)) ∧
    (∀ (i : Fin 2) (force : Bool), d.selection = some (i, force) →
      ((qdom u i).phase ≠ .locked → bit (cell u .quoEvt) 21 = true) ∧
      (s.quo.servo ≠ .free → obs.xoPresent = true → obs.xoWithin100ppm = true → obs.xoWithin5pct = true → i ≠ s.quo.active → (qdom s i).phase = .locked →
        force = true ∨ ((qdom s s.quo.active).phase = .locked ∧ (qdom s i).offset = (qdom s s.quo.active).offset ∧
          (obsDiff obs i).natAbs ≤ (cell s .quoSwitchMax).toNat) →
        u.quo.active = i ∧ u.quo.slewing = true ∧ bit (cell u .quoEvt) 20 = true ∧ Reported Src.timeSwitch 0 [] s u))) ∧
  (∀ (c : Nat) (s u : State), TablesRise s → u = stepFive c s →
    u.flt.stopPending = none ∧ u.flt.isoPending = [] ∧ (∀ x ∈ s.flt.isolated, x ∈ u.flt.isolated) ∧
    (∀ x ∈ s.flt.isoPending, (∀ n ∈ targetDomains x.target, (powerDom s n).phase = .on ∨ (powerDom s n).goal ≠ none) → isIsolated u x.target = true) ∧
    (∀ n : Nat, s.flt.stopPending = some n → u.flt.stopped = some n ∧ bit (cell u .fltEvt) 19 = true ∧ ∀ e < 9, (engine u e).queue = []) ∧
    (s.flt.stopPending = none → ¬ (s.flt.restartPending = true ∧ dpStopped s = true) → u.flt.stopped = s.flt.stopped) ∧
    (s.flt.stopPending = none → s.flt.restartPending = true → dpStopped s = true → dpStopped u = false ∧ u.flt.restartPending = false ∧
      bit (cell u .fltEvt) 20 = true ∧ ∃ x ∈ u.cns.due, x.type = 9 ∧ x.data5 = BitVec.ofNat 64 s.flt.restartSeq))

/-- R26: at the BT that completes the orbit in force an orbit start advances the orbit counter, sets the BT in orbit to 0 and brings the written length
into force; inside an orbit none starts. R48: with ORBIT_SYNC, the first
ORBIT_START from the active domain since it locked does the same; a later one off an orbit start raises TIME_ORBIT_MISMATCH and moves nothing.
The model’s choices that it rests on: log entries 9, 20 and 164. -/
def Obligations.OrbitStarts : Prop :=
  ∀ s : State, isUp s = true → TablesRise s →
    (nowBtInOrbit s = s.quo.orbitLen → ∃ t : State, exec .orbitStart s = .next t ∧ Only [.btr, .quo] s t ∧
      nowOrbit t = (nowOrbit s + 1) % 2 ^ 48 ∧ nowBtInOrbit t = 0 ∧
      t.quo = { s.quo with orbitLen := fld (cell s .quoOrbit) 15 0 } ∧ t.btr = { s.btr with orbit := t.btr.orbit }) ∧
    (nowBtInOrbit s < s.quo.orbitLen → exec .orbitStart s = .next s) ∧
    ∀ d : Fin 2, bit (cell s .quoCtl) 2 = true → s.quo.active = d → (qdom s d).phase = .locked → linkReceives s d = true →
      ∃ t : State, exec (.orbitStartRx d) s = .next t ∧
        ((qdom s d).orbitSeen = false → nowOrbit t = (nowOrbit s + 1) % 2 ^ 48 ∧ nowBtInOrbit t = 0 ∧ (qdom t d).orbitSeen = true ∧
          Only [.btr, .quo] s t) ∧
        ((qdom s d).orbitSeen = true → atOrbitStart s = false → Reported Src.timeOrbitMismatch 0 [] s t ∧ Evented .quoEvt 0 24 s t ∧ RegsKept [(.quoEvt, 0, 0)] s t ∧
          Only reportZones s t) ∧
        ((qdom s d).orbitSeen = true → atOrbitStart s = true → t = s)

/-- R35, R37: signal takes a LOST or ALIGNING domain to ALIGNING, 1,024 good frames take it to TRACKING, and each loss criterion takes a TRACKING or
LOCKED domain to LOST with its own cause; one that is neither is not lost again.
The model’s choices that it rests on: log entries 7 and 9. -/
def Obligations.DomainsTrack : Prop :=
  ∀ (d : Fin 2) (s : State), isUp s = true → TablesRise s →
    (domOn s (48 + d) = true → (qdom s d).phase = .lost ∨ (qdom s d).phase = .aligning →
      ∃ t : State, exec (.quoSignalDetect d) s = .next t ∧ Only [.quo] s t ∧ (qdom t d).phase = .aligning ∧ (qdom t d).aligned = true ∧
        (qdom t d).announced = ((qdom s d).announced && (qdom s d).phase == .aligning) ∧ qdom t (otherDom d) = qdom s (otherDom d)) ∧
    (linkReceives s d = true → (qdom s d).phase = .aligning →
      ∃ t : State, exec (.quoAlignCountDone d) s = .next t ∧ Only [.quo] s t ∧ (qdom t d).phase = .tracking ∧ qdom t (otherDom d) = qdom s (otherDom d)) ∧
    (domTracked s d = true →
      (∃ t : State, exec (.quoLossOfSignal d) s = .next t ∧ LostBy d 1 s t ∧ (qdom t d).aligned = false) ∧
      (∃ t : State, exec (.quoFramingLoss d) s = .next t ∧ LostBy d 2 s t ∧ (qdom t d).aligned = false) ∧
      (∃ t : State, exec (.syncTimeout d) s = .next t ∧ LostBy d 3 s t) ∧
      ((qdom s d).announced = true → ∃ t : State, exec (.announceTimeout d) s = .next t ∧ LostBy d 4 s t) ∧
      (∃ t : State, exec (.timeFreqRange d) s = .next t ∧ LostBy d 6 s t ∧ Reported Src.timeFreqRange 0 [] s t) ∧
      (∀ c g : Nat, (qdom s d).lastCount = some (c, g) → nowGbt s - g > 4096 → ∃ t : State, exec (.domainBtCountTimeout d) s = .next t ∧ LostBy d 8 s t) ∧
      (∀ (n : BitVec 64) (edges c g : Nat), linkReceives s d = true → (qdom s d).lastCount = some (c, g) → (c + edges) % 2 ^ 64 ≠ n.toNat →
        ∃ t : State, exec (.domainBtCount d n edges) s = .next t ∧ LostBy d 7 s t)) ∧
    (domTracked s d = false →
      exec (.syncTimeout d) s = .next s ∧ exec (.announceTimeout d) s = .next s ∧ exec (.timeFreqRange d) s = .next s ∧
        exec (.domainBtCountTimeout d) s = .next s)

/-- R32 to R34, R36, R37 and R46: what a message of a receiving link does, where its domain number is the one that QUO_DOM_CFG holds; a Sync judged
outside the switch limit for the third time running is a loss with cause 5; messages of another domain number change nothing.
R53 to R55: a message is taken from QUO_TX_BUF while none is being sent; its end frees the sender and queues its stamp, which is lost, counted and
marked once a run, where the queue of 16 is full; a pop removes the oldest stamp and shows it by selector 6 of the popping port's bank.
The model’s choices that it rests on: log entries 6, 8, 9, 160 and 163. -/
def Obligations.TimeMessages : Prop :=
  (∀ (d : Fin 2) (s : State), isUp s = true → TablesRise s → linkReceives s d = true →
    (∀ m : PtpSync, ptpForUs s d m.domainNumber = true → m.twoStep = true →
      ∃ t : State, exec (.ieee1588Sync d m) s = .next t ∧ Only [.quo] s t ∧ (qdom t d).goodSyncs = (qdom s d).goodSyncs ∧
        (qdom t d).twoStepWait = some ⟨m.sequenceId.toNat, timeUnits m.received, timeUnits m.origin, m.correction.toInt⟩) ∧
    (∀ m : PtpSync, ptpForUs s d m.domainNumber = true → m.twoStep = false → (qdom s d).exchangeDone = true →
      ∃ (t : State) (off : Int), exec (.ieee1588Sync d m) s = .next t ∧
        off = timeUnits m.received - timeUnits m.origin - m.correction.toInt - (qdom s d).pathDelay - domAsym s d ∧
        (qdom t d).lastSync = some ⟨m.sequenceId.toNat, timeUnits m.received, timeUnits m.origin, m.correction.toInt⟩ ∧
        (qdom t d).goodSyncs = (if off.natAbs ≤ 65536 then (qdom s d).goodSyncs + 1 else 0) ∧
        (qdom t d).badSyncs = (if off.natAbs > (cell s .quoSwitchMax).toNat * 100 then (qdom s d).badSyncs + 1 else 0) ∧
        ((qdom t d).badSyncs < 3 → Only [.quo] s t ∧ (qdom t d).phase = (qdom s d).phase) ∧
        ((qdom t d).badSyncs ≥ 3 → domTracked s d = true → LostBy d 5 s t)) ∧
    (∀ (m : PtpFollowUp) (r : SyncRec), ptpForUs s d m.domainNumber = true → (qdom s d).twoStepWait = some r → r.sequenceId = m.sequenceId.toNat →
      ∃ t : State, exec (.ieee1588FollowUp d m) s = .next t ∧ (qdom t d).twoStepWait = none ∧
        (qdom t d).lastSync = some { r with origin := timeUnits m.origin, correction := r.correction + m.correction.toInt }) ∧
    (∀ (m : PtpDelayResp) (t3 : Int) (r : SyncRec), ptpForUs s d m.domainNumber = true → m.ours = true →
      (qdom s d).dreqSent = some (m.sequenceId.toNat, t3) → (qdom s d).lastSync = some r →
      ∃ t : State, exec (.ieee1588DelayResp d m) s = .next t ∧ Only [.quo] s t ∧ (qdom t d).exchangeDone = true ∧ (qdom t d).dreqSent = none ∧
        (qdom t d).pathDelay = ((r.received - t3) + (timeUnits m.received - r.origin) - (r.correction + domAsym s d) - m.correction.toInt) / 2) ∧
    (∀ m : PtpAnnounce, ptpForUs s d m.domainNumber = true → m.ptpTimescale = true ∨ bit (cell s .quoDomCfg d) 17 = true →
      ∃ t : State, exec (.ieee1588Announce d m) s = .next t ∧ Only [.quo] s t ∧ (qdom t d).announced = true ∧ (qdom t d).announceLog = m.logInterval.toInt) ∧
    (∀ (m : PtpSync) (f : PtpFollowUp) (r : PtpDelayResp) (a : PtpAnnounce), ptpForUs s d m.domainNumber = false →
      ptpForUs s d f.domainNumber = false → ptpForUs s d r.domainNumber = false → ptpForUs s d a.domainNumber = false →
      exec (.ieee1588Sync d m) s = .next s ∧ exec (.ieee1588FollowUp d f) s = .next s ∧ exec (.ieee1588DelayResp d r) s = .next s ∧
        exec (.ieee1588Announce d a) s = .next s) ∧
    (∀ (n : BitVec 64) (edges : Nat), (∀ c g : Nat, (qdom s d).lastCount = some (c, g) → (c + edges) % 2 ^ 64 = n.toNat) →
      ((qdom s d).phase = .locked → (qdom s d).offsetValid = true → n - BitVec.ofNat 64 (nowGbt s) = (qdom s d).offset) →
      ∃ t : State, exec (.domainBtCount d n edges) s = .next t ∧ Only [.quo] s t ∧ qdom t d = { qdom s d with lastCount := some (n.toNat, nowGbt s) }) ∧
    (∃ t : State, exec (.timeMsgBad d) s = .next t ∧ Only [.flt, .quo] s t ∧ (qdom t d).badMsg = min 15 ((qdom s d).badMsg + 1) ∧
      Reported Src.timeMsgBad 0 [] s t) ∧
    (∀ sent : AbsTime, ∃ t : State, exec (.delayReqSend d sent) s = .next t ∧ (qdom t d).dreqSent = some ((qdom s d).dreqNext, timeUnits sent) ∧
      (qdom t d).dreqNext = ((qdom s d).dreqNext + 1) % 65536 ∧
      (bit (cell s .quoCtl) 3 = true → s.quo.txq.length < 16 → t.quo.txq = s.quo.txq ++ [⟨d, 1, (qdom s d).dreqNext, sent⟩]) ∧
      (bit (cell s .quoCtl) 3 = false → t.quo.txq = s.quo.txq))) ∧
  (∀ s : State, isUp s = true → TablesRise s →
    (∀ (p : Fin 2) (w : Word), HostMay p .quoTxCtl 0 0 w s → bit w 31 = true → 34 ≤ fld w 6 0 → fld w 6 0 ≤ 64 →
      ∃ t : State, exec (.quoTxSend p w) s = .next t ∧
        t.quo = { s.quo with tx := if s.quo.tx.isNone then some ⟨fld w 7 7, bit w 8, (txBufBytes s).take (fld w 6 0)⟩ else s.quo.tx }) ∧
    (∀ (sent : AbsTime) (j : TxJob), s.quo.tx = some j →
      ∃ t : State, exec (.quoTxDone sent) s = .next t ∧ t.quo.tx = none ∧
        (j.stamp = false → t.quo.txq = s.quo.txq ∧ Only [.quo] s t) ∧
        (j.stamp = true → s.quo.txq.length < 16 → Only [.quo] s t ∧
          t.quo.txq = s.quo.txq ++ [⟨j.domain, (j.bytes.getD 0 0).toNat % 16, beNat ((j.bytes.drop 30).take 2), sent⟩]) ∧
        (j.stamp = true → ¬ s.quo.txq.length < 16 → t.quo.txq = s.quo.txq ∧ cell t .quoTxqOvf = incSat (cell s .quoTxqOvf) 31 0 1 ∧
          Evented .quoEvt 0 23 s t ∧ RegsKept [(.quoEvt, 0, 0), (.quoTxqOvf, 0, 0)] s t ∧ (s.quo.txqLosing = false → Reported Src.timeTxqOverflow 0 [] s t))) ∧
    (∀ (p : Fin 2) (w : Word), HostMay p .quoTxqPop 0 0 w s → bit w 0 = true →
      ∃ t : State, exec (.quoTxqPop p w) s = .next t ∧ t.quo = { s.quo with txq := s.quo.txq.tail } ∧ (snapBank t p 0).valid = false ∧
        (snapBank t p 0).waiting = some ⟨6, 0, some (stampCapture s.quo.txq.head?)⟩))

/-- R38, R40, R43, R49, R59: the pull's end makes the servo LOCKED on a LOCKED active domain; a holdover past its limit is marked once, counts as FREE
and raises TIME_HOLD_EXPIRED; the end of a slew clears its bit.
The model’s choices that it rests on: log entries 9 and 159. -/
def Obligations.ServoMoves : Prop :=
  ∀ s : State, isUp s = true → TablesRise s →
    (s.quo.servo = .acquire → (qdom s s.quo.active).phase = .locked →
      ∃ t : State, exec .acquireComplete s = .next t ∧ Only [.quo] s t ∧ t.quo.servo = .locked) ∧
    (s.quo.servo = .holdover → s.quo.holdExpired = false → nowCourse s - s.quo.holdStart > fld (cell s .quoHoldLimit) 23 0 →
      ∃ t : State, exec .timeHoldExpired s = .next t ∧ Only ([.quo] ++ reportZones) s t ∧ t.quo = { s.quo with holdExpired := true, worst := max s.quo.worst 2 } ∧
        Evented .quoEvt 0 22 s t ∧ RegsKept [(.quoEvt, 0, 0)] s t ∧ Reported Src.timeHoldExpired 0 [] s t) ∧
    (∃ t : State, exec .slewComplete s = .next t ∧ Only [.quo] s t ∧ t.quo = { s.quo with slewing := false }) ∧
    (∀ p : Fin 64, (partnerClock s p).phaseAt (nowGbt s) = (partnerClock s p).phase → Rises s.quo.clocks →
      ∃ t : State, exec (.dlAdvanceSlewDone p) s = .next t ∧ Only [.quo] s t ∧ partnerClock t p = { partnerClock s p with slewing := false })

/-! ### Faults -/

/-- R301, R302, R303, R313 to R315, R13: a report that arrives is held; where one is held, the first of those held and still on their way is logged, with
the next number. A primary one takes its source from IDLE to RAISED, or else to ESCALATED, and reacts at its level: 3 has its target isolated, 4 has
the data plane stopped and is the newest of level 4; a consequential one is counted and reacts to nothing. In a full log the oldest acknowledged entry
gives way, or else the oldest of level 0; where there is none the report is lost and counted, and has its reaction all the same; the first of a run
raises FLT_LOG_FULL, which is logged as soon as there is room. The model’s choices that it rests on: log entries 22, 23, 103 and 172. -/
def Obligations.FaultsAreLogged : Prop :=
  (∀ (i : Nat) (r : Report) (s : State), isUp s = true → s.flt.flying[i]? = some r →
    ∃ t : State, exec (.faultReport i) s = .next t ∧ t = { s with flt := { s.flt with flying := s.flt.flying.eraseIdx i, held := s.flt.held ++ [r] } }) ∧
  (∀ (r : Report) (s : State), isUp s = true → TablesRise s → s.flt.fullWaiting = none → s.flt.held ≠ [] →
    firstReport (s.flt.held ++ s.flt.flying) = some r →
    ∃ t : State, exec .faultLog s = .next t ∧ Only (reportZones ++ [.mem, .plb, .cns]) s t ∧
      t.flt.held = (if r ∈ s.flt.held then s.flt.held.erase r else s.flt.held) ∧
      (s.flt.log.length < 1024 → isConsequential s r = true →
        (∃ e : LogEntry, t.flt.log = s.flt.log ++ [e] ∧ e.seq = nextSeqNo s.flt.newestSeq ∧ e.report = r ∧ e.consequential = true ∧ e.level = severityOf s r.source ∧
          e.acked = false ∧ e.dropped = s.flt.droppedRun) ∧
        (srcState t r.source).phase = (srcState s r.source).phase ∧ (srcState t r.source).conseq = satTo 8 ((srcState s r.source).conseq + 1) ∧
        t.flt.isoPending = s.flt.isoPending ∧ t.flt.stopPending = s.flt.stopPending ∧ t.flt.shadows = s.flt.shadows) ∧
      (∀ level : Nat, s.flt.log.length < 1024 → isConsequential s r = false →
        level = (if actedLevel s r.source = 3 ∧ actsAsTwo s r.target then 2 else actedLevel s r.source) →
        (∃ e : LogEntry, t.flt.log = s.flt.log ++ [e] ∧ e.seq = nextSeqNo s.flt.newestSeq ∧ e.report = r ∧ e.consequential = false ∧ e.level = level ∧
          e.escalated = decide (severityOf s r.source < actedLevel s r.source) ∧ e.acked = false ∧ e.dropped = s.flt.droppedRun) ∧
        (srcState t r.source).phase = (if (srcState s r.source).phase = .idle then .raised else .escalated) ∧
        (srcState t r.source).newest = level ∧ (srcState t r.source).lastPrimary = r.stamp.course ∧
        (level < 3 → t.flt.isoPending = s.flt.isoPending ∧ t.flt.stopPending = s.flt.stopPending) ∧
        (level = 3 → t.flt.isoPending = s.flt.isoPending ++ [⟨r.target, r.source⟩] ∧ t.flt.stopPending = s.flt.stopPending) ∧
        (level = 4 → t.flt.isoPending = s.flt.isoPending ∧ t.flt.newestL4 = some (nextSeqNo s.flt.newestSeq, false) ∧
          (dpStopped s = false → t.flt.stopPending.isSome = true))) ∧
      (∀ (pre post : List LogEntry) (o : LogEntry), s.flt.log.length = 1024 → s.flt.log = pre ++ o :: post →
        (o.acked = true ∧ ∀ e ∈ pre, e.acked = false) ∨ (o.level = 0 ∧ (∀ e ∈ s.flt.log, e.acked = false) ∧ ∀ e ∈ pre, e.level ≠ 0) →
        ∃ e : LogEntry, t.flt.log = pre ++ post ++ [e] ∧ e.seq = nextSeqNo s.flt.newestSeq ∧ e.report = r ∧ e.acked = false ∧ e.dropped = s.flt.droppedRun ∧
          t.flt.newestSeq = e.seq ∧ t.flt.droppedRun = 0 ∧ t.flt.fullWaiting = none) ∧
      (s.flt.log.length = 1024 → (∀ e ∈ s.flt.log, e.acked = false ∧ e.level ≠ 0) →
        t.flt.log = s.flt.log ∧ t.flt.newestSeq = s.flt.newestSeq ∧ t.flt.droppedRun = s.flt.droppedRun + 1 ∧
          cell t .fltLogLost = incSat (cell s .fltLogLost) 31 0 1 ∧ t.flt.newestL4 = s.flt.newestL4 ∧
          (s.flt.droppedRun = 0 → bit (cell t .fltEvt) 18 = true ∧ ∃ f : Report, t.flt.fullWaiting = some f ∧ f.source = Src.fltLogFull ∧
            f.capture = w32 1 :: capCourse (nowCourse s) ∧ f.stamp = nowStamp s) ∧
          (s.flt.droppedRun ≠ 0 → t.flt.fullWaiting = none) ∧
          (isConsequential s r = true → (srcState t r.source).conseq = satTo 8 ((srcState s r.source).conseq + 1)) ∧
          ∀ level : Nat, isConsequential s r = false →
            level = (if actedLevel s r.source = 3 ∧ actsAsTwo s r.target then 2 else actedLevel s r.source) →
            (srcState t r.source).phase = (if (srcState s r.source).phase = .idle then .raised else .escalated) ∧
            t.flt.isoPending = s.flt.isoPending ++ (if level = 3 then [⟨r.target, r.source⟩] else []) ∧
            (level ≠ 4 → t.flt.stopPending = s.flt.stopPending) ∧ (level = 4 → dpStopped s = false → t.flt.stopPending.isSome = true))) ∧
  (∀ (f : Report) (s : State), isUp s = true → TablesRise s → s.flt.fullWaiting = some f → s.flt.held = [] → (logRoom s.flt.log).isSome = true →
    ∃ (t : State) (e : LogEntry), exec .faultLog s = .next t ∧ t.flt.fullWaiting = none ∧ t.flt.log.getLast? = some e ∧ e.report = f ∧
      e.seq = nextSeqNo s.flt.newestSeq ∧ e.dropped = s.flt.droppedRun ∧ t.flt.droppedRun = 0)

/-- R319: a write of FLT_ACK acknowledges the entry of its number, and a write of FLT_ACK_UPTO every entry of the source in FLT_ACK_SRC up to a number
that has been issued; a source of an acknowledged primary entry that is left without an unacknowledged one becomes IDLE, and the acknowledgement of a
consequential one changes no state. FAULT_ACK_BULK does the same for the entries that it names. A number never issued acknowledges nothing. -/
def Obligations.FaultsAreAcknowledged : Prop :=
  ∀ (p : Fin 2) (w : Word) (s : State), TablesRise s → s.flt.fullWaiting = none →
    (HostMay p .fltAck 0 0 w s →
      ∃ t : State, exec (.fltAck p w) s = .next t ∧ Only (reportZones ++ [.mem, .plb, .cns]) s t ∧
        AckedBy (fun e => decide (e.seq = w.toNat)) s t) ∧
    (HostMay p .fltAckUpto 0 0 w s →
      ∃ t : State, exec (.fltAckUpto p w) s = .next t ∧ Only (reportZones ++ [.mem, .plb, .cns]) s t ∧
        (seqIssued s w.toNat = true → AckedBy (fun e => decide (e.report.source = fld (cell s .fltAckSrc) 11 0) && notAfter 32 e.seq w.toNat) s t) ∧
        (seqIssued s w.toNat = false → t.flt = s.flt)) ∧
    (∀ (m : Fin 8) (x : LdgCmd), Ready m 0x80 x s → ∃ t : State, exec (.faultAckBulk m) s = .next t ∧
      (bit (x.w 1) 31 = false ∨ seqIssued s (x.w 3).toNat = true → AckedBy (ackNames x) s t) ∧
      (bit (x.w 1) 31 = true → seqIssued s (x.w 3).toNat = false → t.flt.log = s.flt.log ∧ t.flt.srcs = s.flt.srcs))

/-- R308, R314, R317: a shadow closes when its course has come, and none that is not due does; a source whose condition does not stand and that has been
quiet for its time is IDLE again and counts a recovery, its entries and its first-error capture as they were, and else nothing happens; a restart of a stopped data plane is taken with the acknowledged number of the newest level-4
entry, once no source of such an entry is raised, and refused otherwise. -/
def Obligations.RecoveryAndRestart : Prop :=
  ∀ s : State, isUp s = true → TablesRise s →
    (∃ t : State, exec .shadowClose s = .next t ∧ Only (reportZones ++ [.mem, .plb, .cns]) s t ∧
      (∀ h ∈ t.flt.shadows, ∀ c : Nat, h.closeAt = some c → nowCourse s < c) ∧
      ∀ h ∈ s.flt.shadows, (∀ c : Nat, h.closeAt = some c → nowCourse s < c) → h ∈ t.flt.shadows) ∧
    (∀ n : BitVec 12, (srcState s n.toNat).phase ≠ .idle → fld (cell s .fltSrcCfg n.toNat) 12 8 ≠ 0 →
      (srcState s n.toNat).lastPrimary + 2 ^ min 24 (fld (cell s .fltSrcCfg n.toNat) 12 8) ≤ nowCourse s → heldInstances s n.toNat = [] →
      ∃ t : State, exec (.quietRecovery n) s = .next t ∧ Only reportZones s t ∧ (srcState t n.toNat).phase = .idle ∧
        (srcState t n.toNat).recovered = satTo 16 ((srcState s n.toNat).recovered + 1) ∧ Evented .fltEvt 0 17 s t ∧ t.flt.log = s.flt.log ∧
        (srcState t n.toNat).firstHeld = (srcState s n.toNat).firstHeld ∧ ∀ k : Nat, k ≠ n.toNat → srcState t k = srcState s k) ∧
    (∀ n : BitVec 12, (srcState s n.toNat).phase = .idle ∨ fld (cell s .fltSrcCfg n.toNat) 12 8 = 0 ∨
        nowCourse s < (srcState s n.toNat).lastPrimary + 2 ^ min 24 (fld (cell s .fltSrcCfg n.toNat) 12 8) ∨ heldInstances s n.toNat ≠ [] →
      exec (.quietRecovery n) s = .next s) ∧
    (∀ (p : Fin 2) (w : Word), HostMay p .fltDpCtl 0 0 w s →
      ∃ t : State, exec (.fltDpCtl p w) s = .next t ∧ Only reportZones s t ∧
        (dpStopped s = true → s.flt.newestL4 = some (w.toNat, true) →
          (∀ e ∈ s.flt.log, e.level = 4 → e.consequential = false → (srcState s e.report.source).phase = .idle) →
          t.flt = { s.flt with restartPending := true, restartSeq := w.toNat }) ∧
        (dpStopped s = false ∨ s.flt.newestL4 ≠ some (w.toNat, true) ∨
            (∃ e ∈ s.flt.log, e.level = 4 ∧ e.consequential = false ∧ (srcState s e.report.source).phase ≠ .idle) →
          t.flt = s.flt ∧ Evented .fltEvt 0 21 s t))

/-! ### The Lodge -/

/-- R365, R366, R368, R369, R372, R374: a submitted descriptor joins its mailbox's queue with the next sequence number, or is refused with 4 commands in
flight, which LDG_MB_STAT shows; its place in the Lodge order is that of its core cycle, and within one that of its mailbox (R367); a completed response
enters the free buffer; its acknowledgement by its own number releases it; a command past its maximum time (R377) is reported once; a command of an
unknown opcode ends with status 1.
R367, R371 to R373: a command row does nothing while another command of its mailbox runs, or while the next one has another opcode or waits for a
resource; a command with a bit set that it does not use ends with BAD_PARAM and has no other effect.
The model’s choices that it rests on: log entries 61, 140 and 175. -/
def Obligations.MailboxProtocol : Prop :=
  (∀ (m : Fin 8) (s : State), isUp s = true → TablesRise s →
    (∀ (p : Fin 2) (w : Word), HostMay p .ldgMbSubmit m 0 w s → bit w 0 = true →
      ∃ t : State, exec (.ldgMbSubmit p m w) s = .next t ∧
        (inFlight s m < 4 → (mailbox t m).lastSeq = nextSqc (mailbox s m).lastSeq ∧
          t.ldg.rank = (if s.ldg.rankAt = some (nowStamp s) then s.ldg.rank else s.ldg.rank + 1) ∧ t.ldg.rankAt = some (nowStamp s) ∧
          (mailbox t m).queue = (mailbox s m).queue ++
            [⟨nextSqc (mailbox s m).lastSeq, 8 * t.ldg.rank + m, (List.range 16).map (fun i => cell s .ldgCmd m i)⟩] ∧
          inFlight t m = inFlight s m + 1) ∧
        (4 ≤ inFlight s m → t.ldg = s.ldg ∧ Evented .ldgEvt 0 16 s t)) ∧
    (inFlight s m ≤ 4 → fld (ldgMbStatRead s m) 7 5 = inFlight s m) ∧
    (∀ (p : Fin 2) (w : Word), HostMay p .ldgMbAck m 0 w s →
      ∃ t : State, exec (.ldgMbAck p m w) s = .next t ∧
        ((mailbox s m).held = some (fld w 15 0) → mailbox t m = { mailbox s m with held := none } ∧ inFlight t m + 1 = inFlight s m) ∧
        ((mailbox s m).held ≠ some (fld w 15 0) → t.ldg = s.ldg ∧ Evented .ldgEvt 0 17 s t)) ∧
    (∀ (n : Nat) (ws : List Word) (rest : List (Nat × List Word)), (mailbox s m).held = none → (mailbox s m).done = (n, ws) :: rest →
      ¬ (fld (ws.getD 0 0) 31 24 = 1 ∧ domOn s (50 + boxPort m) = false) →
      ∃ t : State, exec (.responsePlaced m) s = .next t ∧ Only [.regs, .port0, .port1, .ldg] s t ∧
        RegsKept ((List.range 16).map fun i => (Reg.ldgRsp, m, i)) s t ∧
        mailbox t m = { mailbox s m with held := some n, done := rest } ∧ ∀ i < 16, cell t .ldgRsp m i = ws.getD i 0) ∧
    (∀ (r : LdgRun) (cycles : Word), (mailbox s m).run = some r → cycles.toNat ≤ ldgMaximum s r → exec (.ldgOvertime m cycles) s = .next s) ∧
    (∀ (r : LdgRun) (cycles : Word), (mailbox s m).run = some r → ldgMaximum s r < cycles.toNat →
      ∃ t : State, exec (.ldgOvertime m cycles) s = .next t ∧ (mailbox t m).run = some { r with overtime := true } ∧
        (r.overtime = true → t = s) ∧
        (r.overtime = false → Reported Src.ldgOvertime m [w32 m, w32 r.cmd.opcode, cycles] s t ∧ Evented .ldgEvt 0 19 s t ∧
          cell t .ldgOvertime = incSat (cell s .ldgOvertime) 31 0 1 ∧ RegsKept [(.ldgEvt, 0, 0), (.ldgOvertime, 0, 0)] s t)) ∧
    (∀ x : LdgCmd, startable s m = some x → x.opcode ∉ knownOpcodes →
      ∃ t : State, exec (.unknownOpcode m) s = .next t ∧ Only (reportZones ++ [.ldg]) s t ∧ RegsKept [(.ldgCnt, 0, 0), (.ldgEvt, 0, 0)] s t ∧ Answered m x 1 0 [] s t)) ∧
  (∀ (c : Instr) (m : Fin 8) (op : Nat) (s : State), commandRow c = some (m, op) → isUp s = true →
    ((mailbox s m).run = none → (∀ x : LdgCmd, startable s m = some x → x.opcode ≠ op) → exec c s = .next s) ∧
    (∀ r : LdgRun, (mailbox s m).run = some r → r.cmd.opcode ≠ op → exec c s = .next s) ∧
    (∀ x : LdgCmd, TablesRise s → (mailbox s m).run = none → startable s m = some x → x.opcode = op → unusedZero x = false →
      ∃ t : State, exec c s = .next t ∧ Answered m x 2 0 [] s t ∧ Only (reportZones ++ [.ldg]) s t))

/-- R378 to R380: POWER_QUERY answers with the five status registers. POWER_SET that would leave no host port ON is refused; else it begins with the
first domain it names that is not in STATE, and ends at once where all stand there.
R108, R110 to R112, R379, R381: what a binding, a configuration transaction, a lane training and a delay measurement begin, and when they are
refused. R58, R378, R379: a delay measurement whose partners have all ended completes: OK, REFUSED where all were refused, else PARTIAL.
The model’s choices that it rests on: log entries 30, 61, 62, 128, 136 and 139. -/
def Obligations.PowerAndBedCommands : Prop :=
  ((∀ (m : Fin 8) (x : LdgCmd) (s : State), Ready m 0x02 x s →
    ∃ t : State, exec (.powerQuery m) s = .next t ∧ Answered m x 0 0 ((List.range 5).map (pwrDomStatRead s)) s t ∧
      RegsKept [(.ldgCnt, 0, 0), (.ldgEvt, 0, 0)] s t ∧ Only (reportZones ++ [.ldg]) s t) ∧
  (∀ (m : Fin 8) (x : LdgCmd) (to_ : PowerPhase) (s : State), Ready m 0x01 x s → fld (x.w 1) 1 0 = to_.code →
    (([50, 51].any (fun n => if x.powerNamed.contains n then to_ == .on else domOn s n)) = false →
      ∃ t : State, exec (.powerSet m) s = .next t ∧ Answered m x 5 1 [] s t ∧ Only (reportZones ++ [.ldg]) s t) ∧
    (([50, 51].any (fun n => if x.powerNamed.contains n then to_ == .on else domOn s n)) = true →
      ((∀ n ∈ x.powerNamed, domStands s n to_ = true) →
        ∃ t : State, exec (.powerSet m) s = .next t ∧ Answered m x 0 0 (bitWords 3 x.powerNamed) s t) ∧
      (∀ (pre : List Nat) (n : Nat) (rest : List Nat), x.powerNamed = pre ++ n :: rest → (∀ k ∈ pre, domStands s k to_ = true) → domStands s n to_ = false →
        ∃ t : State, exec (.powerSet m) s = .next t ∧ Started m x (.power to_ (n :: rest) [] x.powerNamed (x.powerNamed.filter (fun k => !domStands s k to_))) s t ∧ (powerDom t n).goal = some to_)))) ∧
  (∀ (m : Fin 8) (x : LdgCmd) (s : State),
    (Ready m 0x10 x s → ∀ p : Nat, p = fld (x.w 1) 21 16 →
      (bit (x.w 1) 31 = true → unbindRefused s p = true → ∃ t : State, exec (.partnerBind m) s = .next t ∧ Answered m x 5 7 [] s t) ∧
      (bit (x.w 1) 31 = true → unbindRefused s p = false →
        ∃ t : State, exec (.partnerBind m) s = .next t ∧ Started m x (.bind p) s t ∧ t.bindPending = s.bindPending ++ [⟨p, m, none⟩]) ∧
      (bit (x.w 1) 31 = false → ∀ r : Nat, bindRefusal s p (fld (x.w 1) 15 8) (fld (x.w 1) 2 0) = r → r ≠ 0 →
        ∃ t : State, exec (.partnerBind m) s = .next t ∧ Answered m x 5 r [] s t) ∧
      (bit (x.w 1) 31 = false → bindRefusal s p (fld (x.w 1) 15 8) (fld (x.w 1) 2 0) = 0 →
        ∃ (t : State) (b : Binding), exec (.partnerBind m) s = .next t ∧ Started m x (.bind p) s t ∧ t.bindPending = s.bindPending ++ [⟨p, m, some b⟩] ∧
          b.firstLane = fld (x.w 1) 15 8 ∧ b.lanesM1 = fld (x.w 1) 2 0 ∧ (lane s b.firstLane).record.map (·.1) = some b.record)) ∧
    (Ready m 0x11 x s → ∀ p op : Nat, p = fld (x.w 1) 21 16 → op = fld (x.w 1) 7 4 → op = 1 ∨ op = 2 → domOn s (dlDomain p) = true →
      (∀ l : Nat, firstLane s p = some l → (lane s l).phase = .active →
        ∃ t : State, exec (.partnerConfig m) s = .next t ∧ Started m x (.config p) s t ∧ (partner t p).nextTag = ((partner s p).nextTag + 1) % 16 ∧
          (partner t p).cfg = some ⟨op, (partner s p).nextTag, x.w 2, if op = 1 then x.w 3 else 0, if op = 1 then x.w 4 else 0, none⟩) ∧
      ((∀ l : Nat, firstLane s p = some l → (lane s l).phase ≠ .active) → ∃ t : State, exec (.partnerConfig m) s = .next t ∧ Answered m x 5 1 [] s t)) ∧
    (Ready m 0x12 x s → ∀ l : Nat, x.lanesNamed = [l] → bit (x.w 1) 0 = false → domOn s (l / 8) = true → isIsolated s (.bedGroup (l / 8)) = false →
      ((lane s l).phase = .active → leftNow s l = none →
        ∃ t : State, exec (.laneTrain m) s = .next t ∧ Answered m x 0 0 (bitWords 8 [l]) s t ∧ (lane t l).phase = .train ∧ (lane t l).lostCause = 4 ∧
          Evented .bedLaneEvt l 17 s t) ∧
      ((lane s l).phase = .detect ∨ (lane s l).phase = .quarantine →
        ∃ t : State, exec (.laneTrain m) s = .next t ∧ Answered m x 0 0 (bitWords 8 []) s t ∧ lane t l = lane s l)) ∧
    (Ready m 0x12 x s → ∀ l : Nat, x.lanesNamed = [l] → bit (x.w 1) 0 = true → domOn s (l / 8) = true → (lane s l).phase = .quarantine →
      ∃ t : State, exec (.laneTrain m) s = .next t ∧ Answered m x 0 0 (bitWords 8 [l]) s t ∧ (lane t l).phase = .train) ∧
    (Ready m 0x13 x s → (∀ p ∈ x.measured, domOn s (dlDomain p) = true) →
      ∀ p l : Nat, x.measured = [p] → firstLane s p = some l → (lane s l).phase = .active → Rises s.quo.rounds → Rises s.quo.measured →
      ∃ t : State, exec (.delayMeasure m) s = .next t ∧ Started m x (.measure [p]) s t ∧ smFind t.quo.rounds p = some [] ∧ (downlink t p).marker = some 0)) ∧
  (∀ (m : Fin 8) (r : LdgRun) (named bad : List Nat) (s : State), isUp s = true → TablesRise s → (mailbox s m).run = some r → r.wait = .measure named →
    r.cmd.opcode = 0x13 → (∀ p ∈ named, measureEnded s p = true ∧ smFind s.quo.rounds p = none) → bad = named.filter (fun p => measureReason s p != 0) →
    ∃ t : State, exec (.delayMeasure m) s = .next t ∧ (∀ p ∈ named, p ∉ t.quo.measured.map (·.1)) ∧
      (bad = [] → Completed m r 0 0 (measureResults s named) s t) ∧
      (bad ≠ [] → bad = named → Completed m r 5 bad.length (measureResults s named) s t) ∧
      (bad ≠ [] → bad ≠ named → Completed m r 0x0B bad.length (measureResults s named) s t))

/-- R51, R128 to R130, R140, R270, R325, R375, R379, R381: a load whose image is good writes the archive and begins the first of its pieces of 2,048
entries, whose blocks are WRITING; each further row of its command ends a piece, and the load completes after its last, or with DOMAIN_OFF where its
group's domain has left ON; and the changes that a swap, a domain selection, a migration and a move of a stream role leave to the course tick. The
model’s choices that it rests on: log entries 61, 88, 130, 131, 134 and 184. -/
def Obligations.TableAndMoveCommands : Prop :=
  ∀ (m : Fin 8) (x : LdgCmd) (s : State),
    (∀ (op n i0 : Nat) (walk : Bool), Ready m op x s → op = (if walk then 0x22 else 0x20) → anyOff s (fld (x.w 1) 4 0 :: quarryDomains) = false →
      x.loadRange (dualMode s (fld (x.w 1) 4 0)) = (i0, n) → 0 < n → bit (x.w 1) 31 = false →
      (walk = true → fld (x.w 2) 13 8 ≤ fld (x.w 2) 5 0) →
      (walk = false → n ≤ 524288 ∧ fld (x.w 2) 18 0 + n ≤ (if dualMode s (fld (x.w 1) 4 0) then 262144 else 524288)) →
      qaImage ≤ x.imageQa → x.imageQa + 2 * n + 4 ≤ qaScratch →
      (walk = true ∨ dualMode s (fld (x.w 1) 4 0) = true → loadBusy s (fld (x.w 1) 4 0) walk (fld (x.w 1) 16 16) = 0) →
      ∃ t : State, exec (if walk then .walkLoad m else .calLoad m) s = .next t ∧
        (leNat (hbmRead s.hbm.bytes (x.imageQa + 2 * n) 4) ≠ (crc32c (hbmRead s.hbm.bytes x.imageQa (2 * n))).toNat →
          Answered m x 7 1 [] s t ∧ Only (reportZones ++ [.ldg]) s t) ∧
        (leNat (hbmRead s.hbm.bytes (x.imageQa + 2 * n) 4) = (crc32c (hbmRead s.hbm.bytes x.imageQa (2 * n))).toNat →
          ∃ l : LoadRun, Started m x (.load l) s t ∧ l.group = fld (x.w 1) 4 0 ∧ l.first = i0 ∧ l.todo = loadGranules i0 n ∧
            l.entries = imageEntries n (hbmRead s.hbm.bytes x.imageQa (2 * n)) ∧ l.granules = (loadGranules i0 n).length ∧
            (MemoryWf s → ∀ b ∈ pieceBlocks (i0 / 2048), (tblock t l.group b).phase = .writing))) ∧
    (∀ (op : Nat) (walk : Bool) (r : LdgRun) (l : LoadRun) (k : Nat), op = (if walk then 0x22 else 0x20) → isUp s = true → TablesRise s →
      (mailbox s m).run = some r → r.cmd.opcode = op → r.wait = .load l →
      (domOn s l.group = true → l.todo = [k] →
        ∃ t : State, exec (if walk then .walkLoad m else .calLoad m) s = .next t ∧
          Completed m r 0 0 [w32 l.entries.length, w32 l.granules] s t ∧
          (MemoryWf s → ∀ b ∈ l.blocks k, (loadCovers l.first l.entries b = true → (tblock t l.group b).phase = .good) ∧
            ∀ ph : BlockPhase, loadCovers l.first l.entries b = false →
              ph = (if (tblock s l.group b).phase = .writing then ((l.kept.find? (fun e => e.1 == b)).map (·.2)).getD .writing
                else (tblock s l.group b).phase) → ph ≠ .good → ph ≠ .writing → (tblock t l.group b).phase = ph)) ∧
      (∀ (k' : Nat) (rest : List Nat), domOn s l.group = true → l.todo = k :: k' :: rest →
        ∃ (t : State) (l' : LoadRun), exec (if walk then .walkLoad m else .calLoad m) s = .next t ∧
          (mailbox t m).run = some { r with wait := .load l' } ∧ l'.todo = k' :: rest ∧ l'.entries = l.entries ∧
          (MemoryWf s → ∀ b ∈ pieceBlocks k', (tblock t l.group b).phase = .writing)) ∧
      (domOn s l.group = false →
        ∃ t : State, exec (if walk then .walkLoad m else .calLoad m) s = .next t ∧ Completed m r 4 0 [w32 l.written, w32 l.granules] s t)) ∧
    (Ready m 0x21 x s → wordBits (x.w 1) 0 ≠ [] → bit (x.w 2) 8 = true ∨ bit (x.w 2) 9 = true →
      (∀ g : Nat, (wordBits (x.w 1) 0).find? (swapRefused s) = some g → bit (x.w 2) 8 = true →
        ∃ t : State, exec (.calSwap m) s = .next t ∧ Answered m x 5 (g + 1) [] s t ∧ Only (reportZones ++ [.ldg]) s t) ∧
      ((bit (x.w 2) 8 = true → ∀ g ∈ wordBits (x.w 1) 0, swapRefused s g = false) →
        ∃ t : State, exec (.calSwap m) s = .next t ∧ Started m x (.calSwap (wordBits (x.w 1) 0)) s t ∧
          ∀ g : Nat, (g ∈ wordBits (x.w 1) 0 → (cbReg t .ashCalSel g).waiting = true ∧
              (cbReg t .ashCalSel g).pend = swapWord (x.w 2) (cbReg s .ashCalSel g).pend ∧ inForce t .ashCalSel g = inForce s .ashCalSel g) ∧
            (g < 32 → g ∉ wordBits (x.w 1) 0 → cbReg t .ashCalSel g = cbReg s .ashCalSel g))) ∧
    (Ready m 0x30 x s → ∃ t : State, exec (.timeDomainSelect m) s = .next t ∧ Started m x .domainSelect s t ∧
      (cbReg t .quoDomainSel 0).waiting = true ∧ (cbReg t .quoDomainSel 0).pend = x.w 1 ∧ inForce t .quoDomainSel = inForce s .quoDomainSel) ∧
    (Ready m 0x31 x s → domOn s (52 + unmappedEngine s) = true →
      ((engine s (unmappedEngine s)).phase = .spare → s.ash.reserved = false → (∀ y ∈ s.ash.migrations, y.slot ≠ fld (x.w 1) 2 0) →
        ∃ t : State, exec (.engineMigrate m) s = .next t ∧ Started m x (.migrate (fld (x.w 1) 2 0)) s t ∧ t.ash.reserved = true ∧
          t.ash.migrations = s.ash.migrations ++
            [⟨fld (x.w 1) 2 0, slotEngine s (fld (x.w 1) 2 0), unmappedEngine s, nowCourse s + 2, false, false, m⟩]) ∧
      ((engine s (unmappedEngine s)).phase ≠ .spare ∨ s.ash.reserved = true →
        ∃ t : State, exec (.engineMigrate m) s = .next t ∧ Answered m x 5 1 [] s t)) ∧
    (Ready m 0x32 x s → fld (x.w 1) 21 16 < 48 →
      (∀ r : Nat, moveRefusal s (fld (x.w 1) 21 16) (bit (x.w 1) 8) (fld (x.w 1) 5 0) = r →
        (r ≠ 0 → ∃ t : State, exec (.streamMove m) s = .next t ∧ Answered m x 5 r [] s t) ∧
        (r = 0 → ∃ t : State, exec (.streamMove m) s = .next t ∧ Started m x (.streamMove (fld (x.w 1) 21 16)) s t ∧
          (stream t (fld (x.w 1) 21 16)).move = some ⟨bit (x.w 1) 8, fld (x.w 1) 5 0, nowCourse s + 2, m⟩)))

/-- R197, R376, R379, R382, R383: a job whose port cannot write ends with HOST_LINK, one whose buffer is too small ends with NO_SPACE and the bytes that
it needs, and any other asks for the stones of its courses; with nothing left to read it completes: an export after its end item, a recall with its
record, in writes of at most 64 words between which its port may go, a check with its counts.
The model’s choices that it rests on: log entries 61, 122, 125, 127 and 190. -/
def Obligations.JobCommands : Prop :=
  ∀ (m : Fin 8) (x : LdgCmd) (burst : List Nat) (s : State),
    (Ready m x.opcode x s → x.opcode ∈ [0x40, 0x41, 0x42] → x.jobBad = false → anyOff s quarryDomains = false → x.jobRange.2 ≤ nowCourse s + 64 →
      courseSettled s x.jobRange.2 = true → ∀ row : Instr, row = (if x.opcode = 0x40 then Instr.quarryExport m burst else
        if x.opcode = 0x41 then .recallHost m burst else .decompressCheck m burst) →
      (x.opcode ≠ 0x42 → hostReady s (boxPort m) = false → ∃ t : State, exec row s = .next t ∧ Answered m x 9 0 [] s t) ∧
      ∀ u : State, u = ldgRun m x (.job none) s →
        (x.opcode = 0x41 → hostReady s (boxPort m) = true → x.bufLen < jobNeed u x →
          ∃ t : State, exec row s = .next t ∧ Answered m x 8 0 (two (jobNeed u x)) s t) ∧
        (x.opcode = 0x42 ∨ (hostReady s (boxPort m) = true ∧ jobNeed u x ≤ x.bufLen) →
          ∃ (t : State) (j : LdgJob), exec row s = .next t ∧ Started m x (.job (some j)) s t ∧ j.need = jobNeed u x ∧ j.hist = historyStart s ∧
            j.out = [] ∧ j.checked = 0 ∧ j.failing = 0)) ∧
    (∀ (r : LdgRun) (j : LdgJob), isUp s = true → TablesRise s → (mailbox s m).run = some r → r.wait = .job (some j) → r.cmd = x → j.todo = [] →
      quarryDomainsOn s = true → s.qry.reads.find? (isJobOf m) = none →
      (x.opcode = 0x42 → ∃ t : State, exec (.decompressCheck m burst) s = .next t ∧ Completed m r 0 0 (jobResults x j 0 0) s t) ∧
      (x.opcode = 0x41 → hostReady s (boxPort m) = true → ∃ (t : State) (rec_ : List DWord × Nat), exec (.recallHost m burst) s = .next t ∧ rec_ = recallRecord s x j.hist j.gather ∧
        ImageWritten m r ⟨x.bufAddr, rec_.1, 0, two j.need, [w32 rec_.2], 0⟩ false s t ∧
        (rec_.1.length ≤ 64 → Completed m r 0 0 (jobResults x j (8 * rec_.1.length) rec_.2) s t ∧
          (hostPort t (boxPort m)).msgs = ⟨x.bufAddr, hostWords rec_.1⟩ :: (hostPort s (boxPort m)).msgs)) ∧
      (x.opcode = 0x40 → hostReady s (boxPort m) = true → ∃ t : State, exec (.quarryExport m burst) s = .next t ∧
        Completed m r 0 0 (jobResults x j (8 * (j.out.length + 3)) 0) s t ∧
        (hostPort t (boxPort m)).msgs = ⟨x.bufAddr + 8 * j.out.length,
          (endItem j.out).flatMap (fun (w : DWord) => [w.setWidth 32, (w >>> 32).setWidth 32])⟩ :: (hostPort s (boxPort m)).msgs)) ∧
    (∀ (r : LdgRun) (w : ImageRun), isUp s = true → TablesRise s → (mailbox s m).run = some r → r.wait = .image w → r.cmd.opcode = 0x41 →
      ∃ t : State, exec (.recallHost m burst) s = .next t ∧ ImageWritten m r w false s t)

/-- R194, R340, R378, R384, R385, R402, R444, R450: what the commands over the retirement map, the scrub, the Gauge's calibration, the recorders, the
fault log and the host's own loop do.
A PLB_READ or CNS_READ writes its image in writes of at most 64 words, between which its port or its domain may go; at its end it has read the capture that
is HELD, or CLEAR_CODE is its own.
The model’s choices that it rests on: log entries 36, 61, 100, 127, 132, 133, 139 and 190. -/
def Obligations.ListCommands : Prop :=
  ∀ (m : Fin 8) (x : LdgCmd) (s : State),
    (Ready m 0x50 x s → anyOff s quarryDomains = false → s.hbm.retired.length < 4096 →
      (x.w 1 ∈ s.hbm.retired → ∃ t : State, exec (.retireAdd m) s = .next t ∧ Answered m x 5 1 [] s t ∧ t.hbm = s.hbm) ∧
      (x.w 1 ∉ s.hbm.retired → ∃ t : State, exec (.retireAdd m) s = .next t ∧ Answered m x 0 0 [w32 (s.hbm.retired.length + 1)] s t ∧
        t.hbm = { s.hbm with retired := s.hbm.retired ++ [x.w 1] } ∧ Evented .memEvt 0 16 s t)) ∧
    (Ready m 0x51 x s → ∃ (t : State) (l : List Word), exec (.retireList m) s = .next t ∧ l = (s.hbm.retired.drop (fld (x.w 1) 11 0)).take 12 ∧
      Answered m x 0 0 ((mkFld 28 16 l.length ||| mkFld 12 0 s.hbm.retired.length) :: l) s t) ∧
    (Ready m 0x52 x s → domOn s 79 = true → 1 ≤ fld (x.w 1) 31 24 → fld (x.w 1) 31 24 ≤ 100 → 1 ≤ fld (x.w 1) 23 16 → 16 ≤ fld (x.w 1) 10 0 →
      fld (x.w 1) 10 0 ≤ 1024 →
      ∃ t : State, exec (.scrubSet m) s = .next t ∧ Answered m x 0 0 [x.w 1] s t ∧ cell t .memScrubCfg = x.w 1) ∧
    (∀ readings : List (List GauCalReading), Ready m 0x60 x s → (x.w 1).toNat < 2 ^ 21 → gaugeRunning s = true →
      ∃ t : State, exec (.gaugeSelfcal m readings) s = .next t ∧ Started m x (.selfcal (x.w 1).toNat) s t ∧
        ∀ k < 21, (gauConv t k).selfcal = ((gauConv s k).selfcal || (x.w 1).toNat.testBit k)) ∧
    (Ready m 0x70 x s → bufferGood x = true → domOn s 78 = true → hostReady s (boxPort m) = true → 8 * (plbImage (plbStoreRead s)).length ≤ x.bufLen →
      ∃ (t u : State) (w : ImageRun), exec (.plbRead m) s = .next t ∧ u = plbStoreRead s ∧
        w = ⟨x.bufAddr, plbImage u, 0, two (8 * (plbImage u).length), [], u.cns.next⟩ ∧
        ImageWritten m ⟨x, nowStamp s, .image w, false⟩ w false (ldgRun m x (.image w) u) t ∧
        ((plbImage u).length ≤ 64 → Answered m x 0 0 (two (8 * (plbImage u).length) ++ two (8 * (plbImage u).length)) s t ∧
          t.plb.read = (u.plb.read || decide (u.plb.phase = .held)) ∧
          ∃ old : List HostMsg, (hostPort t (boxPort m)).msgs = ⟨x.bufAddr, hostWords (plbImage u)⟩ :: old)) ∧
    (Ready m 0x71 x s → bufferGood x = true → domOn s 78 = true → hostReady s (boxPort m) = true → 8 * (cnsImage s).length ≤ x.bufLen →
      ∃ (t : State) (w : ImageRun), exec (.cnsRead m) s = .next t ∧
        w = ⟨x.bufAddr, cnsImage s, 0, two (8 * (cnsImage s).length), [((cnsImage s).getLast?.getD 0).setWidth 32], s.cns.next⟩ ∧
        ImageWritten m ⟨x, nowStamp s, .image w, false⟩ w false (ldgRun m x (.image w) s) t ∧
        ((cnsImage s).length ≤ 64 → t.cns.clearCode = ((cnsImage s).getLast?.getD 0).setWidth 32 ∧ t.cns.moved = false ∧
          Answered m x 0 0 (two (8 * (cnsImage s).length) ++ two (8 * (cnsImage s).length) ++ [t.cns.clearCode]) s t) ∧
        (64 < (cnsImage s).length → t.cns = s.cns)) ∧
    (∀ (r : LdgRun) (w : ImageRun), isUp s = true → TablesRise s → (mailbox s m).run = some r → r.wait = .image w →
      (r.cmd.opcode = 0x70 → ∃ t : State, exec (.plbRead m) s = .next t ∧ ImageWritten m r w (!domOn s 78) s t ∧
        (hostReady s (boxPort m) = true → domOn s 78 = true → w.todo.length ≤ 64 → t.plb.read = (s.plb.read || decide (s.plb.phase = .held)))) ∧
      (r.cmd.opcode = 0x71 → ∃ t : State, exec (.cnsRead m) s = .next t ∧ ImageWritten m r w (!domOn s 78) s t ∧
        (hostReady s (boxPort m) = true → domOn s 78 = true → w.todo.length ≤ 64 →
          t.cns.clearCode = w.after.headD 0 ∧ t.cns.moved = decide (s.cns.next ≠ w.next)))) ∧
    (Ready m 0x72 x s →
      (x.w 1 = s.cns.clearCode → s.cns.moved = false → ∃ t : State, exec (.cnsClear m) s = .next t ∧ Answered m x 0 0 [w32 s.cns.events.length] s t ∧
        t.cns.events = [] ∧ t.cns.sealed = false ∧ t.cns.lost = 0 ∧ t.cns.clearCode = 0) ∧
      (¬ (x.w 1 = s.cns.clearCode ∧ s.cns.moved = false) → ∃ t : State, exec (.cnsClear m) s = .next t ∧ Answered m x 0x0E 0 [] s t ∧ t.cns = s.cns)) ∧
    (Ready m 0x80 x s → s.flt.fullWaiting = none →
      (bit (x.w 1) 31 = true → seqIssued s (x.w 3).toNat = false → ∃ t : State, exec (.faultAckBulk m) s = .next t ∧ Answered m x 5 1 [] s t) ∧
      (bit (x.w 1) 31 = false ∨ seqIssued s (x.w 3).toNat = true →
        ∃ t : State, exec (.faultAckBulk m) s = .next t ∧ t.flt.log = s.flt.log.map (fun e => if ackNames x e then { e with acked := true } else e) ∧
          Answered m x 0 0 [w32 (s.flt.log.filter (fun e => ackNames x e && !e.acked)).length] s t)) ∧
    (∀ wrong : Nat, Ready m 0xF0 x s →
      (fld (x.w 1) 1 0 = 0 → ∃ t : State, exec (.diagLoop m wrong) s = .next t ∧ Answered m x 0 0 ((List.range 13).map (fun i => x.w (i + 2))) s t ∧
        Only (reportZones ++ [.ldg]) s t) ∧
      (∀ qa : Nat, fld (x.w 1) 1 0 = 1 → qa = fld (x.w 2) 3 0 * 2 ^ 32 + (x.w 3).toNat → qa % 4096 = 0 → qaScratch ≤ qa → qa < qaReserve →
        anyOff s quarryDomains = false → MemoryWf s →
        ∃ t : State, exec (.diagLoop m wrong) s = .next t ∧ Answered m x 0 0 [w32 wrong] s t ∧
          (∀ i < 4096, hbmByte t.hbm.bytes (qa + i) = (patternGranule (x.w 4)).getD i 0) ∧
          ∀ a : Nat, a < qa ∨ qa + 4096 ≤ a → hbmByte t.hbm.bytes a = hbmByte s.hbm.bytes a))

/-! ### Bed lanes and downlinks -/

/-- R75 to R77: signal takes a lane from DETECT to TRAIN, warm where its taps are held, with a restart request due on its partner's downlink; a settled
receiver takes it to LOCK, synchronisation to EXCHANGE; a time-out takes it back to DETECT, counted, and reported where it is the first since ACTIVE
or enabling. No other lane changes. The model’s choices that it rests on: log entry 177. -/
def Obligations.LaneBringUp : Prop :=
  ∀ (l : Fin 256) (s : State), isUp s = true → TablesRise s →
    (∃ t : State, exec (.laneSignalDetect l) s = .next t ∧ Only [.lanes, .downlinks] s t ∧ (∀ k : Nat, k ≠ l.val → lane t k = lane s k) ∧
      ((lane s l).phase = .detect → (lane t l).phase = .train ∧ (lane t l).signal = true ∧ (lane t l).warm = (lane s l).tapsHeld ∧
        ∀ p : Nat, (lane s l).partner = some p → laneIndex s l ∈ (downlink t p).restarts) ∧
      ((lane s l).phase = .down → t = s) ∧
      ((lane s l).phase ≠ .detect → (lane s l).phase ≠ .down → lane t l = { lane s l with signal := true } ∧ t.downlinks = s.downlinks)) ∧
    (∃ t : State, exec (.laneTrainDone l) s = .next t ∧ Only [.lanes] s t ∧ (∀ k : Nat, k ≠ l.val → lane t k = lane s k) ∧
      ((lane s l).phase = .train → lane t l = { lane s l with phase := .lock, cdr := true, tapsHeld := true }) ∧
      ((lane s l).phase ≠ .train → t = s)) ∧
    (∃ t : State, exec (.laneSyncAcquired l) s = .next t ∧ Only [.regs, .lanes] s t ∧ (∀ k : Nat, k ≠ l.val → lane t k = lane s k) ∧
      ((lane s l).phase = .lock → (lane t l).phase = .exchange ∧ (lane t l).sync = true ∧ (lane t l).run = 0 ∧
        cell t .bedLaneErr l = incSat (cell s .bedLaneErr l) 15 8 1 ∧ RegsKept [(.bedLaneErr, l, 0)] s t) ∧
      ((lane s l).phase ≠ .lock → t = s)) ∧
    (∀ (row : Instr) (code : Nat), (row = .laneTrainTimeout l ∧ ((lane s l).phase = .train ∧ code = 2 ∨ (lane s l).phase = .lock ∧ code = 3)) ∨
        (row = .laneExchangeTimeout l ∧ (lane s l).phase = .exchange ∧ (lane s l).waitBind = false ∧ code = 4) →
      ∃ t : State, exec row s = .next t ∧ Only (reportZones ++ [.lanes]) s t ∧ (∀ k : Nat, k ≠ l.val → lane t k = lane s k) ∧ (lane t l).phase = .detect ∧
        (lane t l).failArmed = false ∧ Evented .bedLaneEvt l 18 s t ∧ cell t .bedLaneCnt l = incSat (cell s .bedLaneCnt l) 23 16 1 ∧
        RegsKept [(.bedLaneEvt, l, 0), (.bedLaneCnt, l, 0)] s t ∧
        ((lane s l).failArmed = true → Reported Src.bedTrainFail l [w32 l, w32 code] s t) ∧ ((lane s l).failArmed = false → t.flt = s.flt)) ∧
    ((lane s l).phase = .exchange → (lane s l).waitBind = true → exec (.laneExchangeTimeout l) s = .next s)

/-- LANE_LOSS_OF_SIGNAL, LANE_CDR_UNLOCK, LANE_SYNC_LOSS, LANE_CODE_ERROR, RETRAIN_COUNT_RESET and LANE_ENABLE_WRITE complete for every lane, in every
state of it, with what the rules give them. R67, R80 to R82, R84, R88: an ACTIVE lane that loses signal, clock or synchronisation leaves with cause 1,
2 or 3, an event and a report: with AUTO_RETRAIN to DETECT (cause 1) or TRAIN, counted, or to QUARANTINE with cause 9 past the limit; without it to
DOWN, its ENABLE cleared. Of several causes in one core cycle the one with the least rank holds (R82): one that ranks after the first changes no
cause, count or report, one that ranks before it leaves the lane as if it alone had come. A lane on its way up returns to DETECT. Code errors are
counted, and reported once where a course has more than the threshold. The count of retrains returns to 0 at a course tick whose course number is a
multiple of 65,536, and in no other course. R75, R80: a write of BED_LANE_CFG with ENABLE 0 takes the lane to DOWN, with cause 4 and no report where
it was ACTIVE; one that sets ENABLE takes a DOWN lane to DETECT where its domain is ON and its group is not isolated; one that leaves ENABLE at 1
leaves the lane as it is. The model’s choices that it rests on: log entries 166 and 208. -/
def Obligations.LaneLoss : Prop :=
  (∀ (l : Fin 256) (s : State), isUp s = true → TablesRise s → NamesInRange s →
    (∀ (row : Instr) (cause : Nat), (row, cause) ∈ [(Instr.laneLossOfSignal l, 1), (.laneCdrUnlock l, 2), (.laneSyncLoss l, 3)] →
      ∃ t : State, exec row s = .next t ∧ Only (reportZones ++ [.quo, .lanes, .downlinks, .groups]) s t ∧ (∀ k : Nat, k ≠ l.val → lane t k = lane s k) ∧
        RegsKept ([(Reg.bedLaneEvt, l.val, 0), (Reg.bedLaneCnt, l.val, 0), (Reg.bedLaneCfg, l.val, 0)] ++ acctCells) s t ∧
        (lane t l).sync = false ∧ (cause = 1 → (lane t l).signal = false) ∧ (cause = 1 ∨ cause = 2 → (lane t l).cdr = false) ∧
        (∀ m : LaneLeft, leftNow s l = some m →
          (m.rank ≤ lossRank s l cause → (lane s l).phase ≠ .active →
            (lane t l).lostCause = (lane s l).lostCause ∧ t.flt = s.flt ∧ cell t .bedLaneCnt l = cell s .bedLaneCnt l) ∧
          (lossRank s l cause < m.rank → m.retrains < 256 →
            (lane t l).lostCause = (if retrainExceeds s l then 9 else cause) ∧
            fld (cell t .bedLaneCnt l) 31 24 =
              (if retrainExceeds s l = true ∨ bit (cell s .bedLaneCfg l) 1 = false then m.retrains else min 255 (m.retrains + 1)) ∧
            ∀ r ∈ t.flt.flying, r.source = Src.bedLaneLost ∨ r.source = Src.bedQuarantine → r.index = l → r.stamp = nowStamp s →
              r.capture.getD 2 0 = w32 (lane t l).lostCause)) ∧
        ((lane s l).phase = .active → leftNow s l = none →
          (∀ limit : Nat, limit = fld (cell s .bedGrpCfg (l.val / 8)) 7 0 →
            (bit (cell s .bedLaneCfg l) 1 = false → (lane t l).phase = .down ∧ (lane t l).lostCause = cause ∧ Evented .bedLaneEvt l 17 s t ∧
              cell t .bedLaneCfg l = setFld (cell s .bedLaneCfg l) 0 0 0 ∧
              Reported Src.bedLaneLost l (w32 l :: capPartner s l :: w32 cause :: cap64 (nowGbt s)) s t) ∧
            (bit (cell s .bedLaneCfg l) 1 = true → limit = 0 ∨ fld (cell s .bedLaneCnt l) 31 24 + 1 ≤ limit →
              (lane t l).phase = (if cause = 1 then .detect else .train) ∧ (lane t l).lostCause = cause ∧ Evented .bedLaneEvt l 17 s t ∧
              cell t .bedLaneCnt l = incSat (cell s .bedLaneCnt l) 31 24 1 ∧
              Reported Src.bedLaneLost l (w32 l :: capPartner s l :: w32 cause :: cap64 (nowGbt s)) s t) ∧
            (bit (cell s .bedLaneCfg l) 1 = true → limit ≠ 0 → limit < fld (cell s .bedLaneCnt l) 31 24 + 1 →
              (lane t l).phase = .quarantine ∧ (lane t l).lostCause = 9 ∧
              Reported Src.bedQuarantine l [w32 l, capPartner s l, w32 9] s t ∧ cell t .bedLaneCnt l = cell s .bedLaneCnt l))) ∧
        (leavesFor s l (lossRank s l cause) = false →
          ((lane s l).phase = .lock ∨ (lane s l).phase = .exchange → (lane t l).phase = (if cause = 3 then (lane s l).phase else .detect)) ∧
          ((lane s l).phase = .train → (lane t l).phase = (if cause = 1 then .detect else .train)) ∧
          ((lane s l).phase = .down ∨ (lane s l).phase = .detect ∨ (lane s l).phase = .quarantine → (lane t l).phase = (lane s l).phase))) ∧
    (∃ t : State, exec (.laneCodeError l) s = .next t ∧ Only (reportZones ++ [.lanes]) s t ∧
      RegsKept [(.bedLaneErr, l, 0), (.bedLaneEvt, l, 0)] s t ∧
      ((lane s l).phase = .down → t = s) ∧
      ((lane s l).phase ≠ .down → (lane t l).codeErrs = (lane s l).codeErrs + 1 ∧
        cell t .bedLaneErr l = incSat (cell s .bedLaneErr l) 31 16 1 ∧
        (fld (cell s .bedGrpCfg (l.val / 8)) 23 8 < (lane s l).codeErrs + 1 → (lane s l).codeRaised = false →
          Reported Src.bedCodeErr l ([w32 l, w32 ((lane s l).codeErrs + 1)] ++ capCourse (nowCourse s)) s t ∧ Evented .bedLaneEvt l 21 s t ∧
            (lane t l).codeRaised = true) ∧
        ((lane s l).codeErrs + 1 ≤ fld (cell s .bedGrpCfg (l.val / 8)) 23 8 ∨ (lane s l).codeRaised = true → t.flt = s.flt))) ∧
    (¬ (nowCourse s % 65536 = 0 ∧ nowCycle s = 0) → exec .retrainCountReset s = .next s) ∧
    (nowCourse s % 65536 = 0 → nowCycle s = 0 → ∃ t : State, exec .retrainCountReset s = .next t ∧ Only [.regs] s t ∧
      RegsKept ((List.range 256).map fun k => (Reg.bedLaneCnt, k, 0)) s t ∧ cell t .bedLaneCnt l = setFld (cell s .bedLaneCnt l) 31 24 0)) ∧
  (∀ (p : Fin 2) (l : Fin 256) (w : Word) (s : State), TablesRise s → NamesInRange s → HostMay p .bedLaneCfg l 0 w s →
    ∃ t : State, exec (.laneEnableWrite p l w) s = .next t ∧ cell t .bedLaneCfg l = mergeMask (storeMask .bedLaneCfg) (cell s .bedLaneCfg l) w ∧
      (∀ k : Nat, k ≠ l.val → lane t k = lane s k) ∧
      (bit w 0 = false → (lane t l).phase = .down ∧
        ((lane s l).phase = .active → leftNow s l = none → (lane t l).lostCause = 4 ∧ Evented .bedLaneEvt l 17 s t) ∧
        (∀ m : LaneLeft, leftNow s l = some m → 4 < m.rank → m.retrains < 256 → (lane t l).lostCause = 4 ∧
          fld (cell t .bedLaneCnt l) 31 24 = m.retrains ∧
          ∀ r ∈ t.flt.flying, r.source = Src.bedLaneLost ∨ r.source = Src.bedQuarantine → r.index = l → r.stamp ≠ nowStamp s) ∧
        ((lane s l).phase ≠ .active → (∀ m : LaneLeft, leftNow s l = some m → m.rank ≤ 4) → t.flt = s.flt ∧ t.groups = s.groups)) ∧
      (bit w 0 = true → bit (cell s .bedLaneCfg l) 0 = false → (lane s l).phase = .down →
        (lane t l).phase = (if domOn s (l.val / 8) && !isIsolated s (.bedGroup (l.val / 8)) then .detect else .down) ∧ (lane t l).failArmed = true) ∧
      (bit w 0 = true → bit (cell s .bedLaneCfg l) 0 = true → t.lanes = s.lanes))

/-- R75, R78, R79: three equal records in a row whose CRC-32C is good are judged. A good record of an unbound lane waits; one that matches its binding
takes the lane to ACTIVE, with an event and its count; one that does not quarantines the lane with cause 7. A record with values out of range is
reported once. A bad CRC is a code error and breaks the run. R68, R77, R87, R104 to R107: a downlink that sends puts into the frame of its next mark
the fast command that is first in order (SYNC, RESTART, ACTIVE, the host's), the block field and the marker; SYNC loads the whole part of the advance
into the partner's count (R56), and nothing else does; one that does not send sends none. Restart requests fall due for the partner's lanes that come
up, the host's command waits for its turn, and a PLL that unlocks stops the frames until it locks again. The model’s choices that it rests on: log
entries 25 and 178. -/
def Obligations.ExchangeAndDownlinks : Prop :=
  (∀ (l : Fin 256) (r : BitVec 128) (s : State), isUp s = true → TablesRise s → NamesInRange s →
    ((lane s l).phase ≠ .exchange → ∀ crc : BitVec 32, ∃ t : State, exec (.exchangeBlockRx l r crc) s = .next t ∧ Only [.lnt] s t) ∧
    ((lane s l).phase = .exchange →
      (∀ crc : BitVec 32, crc ≠ crc32c (beBytes 16 r.toNat) → ∃ t : State, exec (.exchangeBlockRx l r crc) s = .next t ∧ Only [.regs, .lanes, .lnt] s t ∧
        lane t l = { lane s l with run := 0, lastRecord := none } ∧ cell t .bedLaneErr l = incSat (cell s .bedLaneErr l) 31 16 1 ∧
        RegsKept [(.bedLaneErr, l, 0)] s t) ∧
      (¬ ((lane s l).lastRecord = some r ∧ (lane s l).run = 2) →
        ∃ t : State, exec (.exchangeBlockRx l r (crc32c (beBytes 16 r.toNat))) s = .next t ∧ Only [.lanes, .lnt] s t ∧
        lane t l = { lane s l with run := if (lane s l).lastRecord = some r then (lane s l).run + 1 else 1, lastRecord := some r }) ∧
      ((lane s l).lastRecord = some r → (lane s l).run = 2 →
        ∃ t : State, exec (.exchangeBlockRx l r (crc32c (beBytes 16 r.toNat))) s = .next t ∧
          (recordGood r = true → (lane t l).record = some (r, nowCourse s) ∧
            ((lane s l).partner = none → (lane t l).phase = .exchange ∧ (lane t l).waitBind = true) ∧
            ∀ (p : Nat) (b : Binding), (lane s l).partner = some p → (partner s p).binding = some b →
              (recordMatches b (laneIndex s l) r = true → (lane t l).phase = .active ∧ Evented .bedLaneEvt l 16 s t ∧
                cell t .bedLaneCnt l = incWrap (cell s .bedLaneCnt l) 15 0 ∧ laneIndex s l ∈ (downlink t p).actives ∧
                (downlink t p).eqEnd = bit (cell s .bedDlCfg p) 16) ∧
              (recordMatches b (laneIndex s l) r = false → (lane t l).phase = .quarantine ∧ (lane t l).lostCause = 7 ∧
                Reported Src.bedExchMismatch l [w32 l, w32 (recFld r 127 96), w32 (recFld r 95 64)] s t ∧
                Reported Src.bedQuarantine l [w32 l, capPartner s l, w32 7] s t ∧
                (recPartnerId r ≠ recPartnerId b.record → ∀ k ∈ partnerLanes s p, (lane s k).phase = .active ∨ (lane s k).phase = .exchange →
                  (lane t k).phase = .quarantine ∧ (lane t k).lostCause = 7))) ∧
          (recordGood r = false → Only (reportZones ++ [.lanes, .lnt]) s t ∧ (lane t l).phase = .exchange ∧ (lane t l).mismatchRaised = true ∧
            ((lane s l).mismatchRaised = true → t.flt = s.flt) ∧
            ((lane s l).mismatchRaised = false →
              Reported Src.bedExchMismatch l [w32 l, w32 (recFld r 127 96), w32 (recFld r 95 64)] s t ∧ Evented .bedLaneEvt l 19 s t ∧
                RegsKept [(.bedLaneEvt, l, 0)] s t))))) ∧
  (∀ (d : Fin 64) (s : State), isUp s = true → TablesRise s →
    (∃ t : State, exec (.downlinkFrame d) s = .next t ∧ (dlSending s d = false → t = s) ∧
      (dlSending s d = true → Only [.regs, .port0, .port1, .quo, .downlinks, .partners] s t ∧
        (syncDue s d (nextMark s d) = false → t.quo = s.quo) ∧
        (syncDue s d (nextMark s d) = true → Rises s.quo.clocks → (partnerClock t d).wholes.head?.map (·.2) = some (wholeBt s d) ∧
          (partnerClock t d).segs = (partnerClock s d).segs ∧ (partnerClock t d).delays = (partnerClock s d).delays) ∧ (∀ k : Nat, k ≠ d.val → downlink t k = downlink s k) ∧
        (downlink t d).fresh = false ∧ (downlink t d).applied = dlApplied s d ∧ RegsKept [(.bedDlEvt, d, 0)] s t ∧
        ((downlink s d).squelched = true → Evented .bedDlEvt d 16 s t) ∧
        ∃ (fast : Option (List Byte)) (blk : DlBlock) (mk : Option Nat), (downlink t d).last = some ⟨nextMark s d, fast, blk, mk⟩ ∧ mk = (downlink s d).marker ∧
          ((downlink s d).fresh = true ∨ nextMark s d % 320 = 0 → fast = some (fastBytes 1 (syncArg s d (nextMark s d))) ∧
            (downlink t d).restarts = (downlink s d).restarts ∧ (downlink t d).host = (downlink s d).host) ∧
          ((downlink s d).fresh = false → nextMark s d % 320 ≠ 0 →
            (∀ (i : Nat) (rest : List Nat), (downlink s d).restarts = i :: rest → fast = some (fastBytes 2 i) ∧ (downlink t d).restarts = rest) ∧
            (∀ (i : Nat) (rest : List Nat), (downlink s d).restarts = [] → (downlink s d).actives = i :: rest → fast = some (fastBytes 3 i) ∧ (downlink t d).actives = rest) ∧
            (∀ (c : Nat) (a : Word), (downlink s d).restarts = [] → (downlink s d).actives = [] → (downlink s d).host = some (c, a) →
              fast = some (fastBytes c a.toNat) ∧ (downlink t d).host = none) ∧
            ((downlink s d).restarts = [] → (downlink s d).actives = [] → (downlink s d).host = none → fast = none)) ∧
          (blockBusy s d = true → blk = .exchange (ownExchange s d) ∧ t.partners = s.partners) ∧
          (∀ x : CfgTx, blockBusy s d = false → (partner s d).cfg = some x → x.sent = none →
            blk = .config (cfgBlock x) ∧ (partner t d).cfg = some { x with sent := some (nextMark s d) }))) ∧
    (∃ t : State, exec (.restartRequestDue d) s = .next t ∧ Only [.downlinks] s t ∧
      ∀ l ∈ partnerLanes s d, (lane s l).partner = some d.val → (lane s l).phase = .train ∨ (lane s l).phase = .lock ∨ (lane s l).phase = .exchange →
        laneIndex s l ∈ (downlink t d).restarts) ∧
    (∀ (p : Fin 2) (w : Word), HostMay p .bedDlFc d 0 w s →
      ∃ t : State, exec (.bedDlFcSend p d w) s = .next t ∧
        (downlink t d).host = (if bit w 31 = true ∧ (downlink s d).host = none ∧ 0x10 ≤ fld w 7 0 ∧ fld w 7 0 ≤ 0x1F then
          some (fld w 7 0, cell s .bedDlFcArg d) else (downlink s d).host)) ∧
    (∃ t : State, exec (.dlPllUnlock d) s = .next t ∧ Only (reportZones ++ [.downlinks]) s t ∧
      (domOn s (32 + d.val / 8) = true → (downlink s d).pll = true →
        downlink t d = { downlink s d with pll := false, fresh := true, squelched := true } ∧ dlSending t d = false ∧
        Reported Src.dlPllUnlock d [w32 d] s t ∧ Evented .bedDlEvt d 18 s t ∧
        RegsKept [(.bedDlEvt, d, 0), (.bedDlStat, d, 0)] s t) ∧
      (domOn s (32 + d.val / 8) = false ∨ (downlink s d).pll = false → t = s)) ∧
    (∃ t : State, exec (.dlPllRelock d) s = .next t ∧ Only [.downlinks] s t ∧
      (downlink t d).pll = (domOn s (32 + d.val / 8) || (downlink s d).pll)))

/-- R57, R58: an echo of the marker that is due, on the partner's ACTIVE lane with LANE_INDEX 0, adds its round trip; the 64th ends the measurement: a
spread, a flight or a delay out of range refuses it with reason 3, 4 or 5, and else the mean round trip is shown and the new delay waits, with the
advance moved to the measured flight while the downlink follows it. An echo out of order, or on another lane, changes nothing of the measurement.
R378, R379: an echo that ends the last measurement of a DELAY_MEASURE with a refusal completes the command: REFUSED where every partner was refused,
else PARTIAL, with the results and reasons. The model’s choices that it rests on: log entries 30, 61 and 160. -/
def Obligations.EchoesMeasureDelay : Prop :=
  (∀ (l : Fin 256) (n trip : Nat) (s : State) (p : Nat) (r : List Nat), isUp s = true → TablesRise s → NamesInRange s → Rises s.quo.rounds → Rises s.quo.measured →
    Rises s.quo.clocks → (lane s l).partner = some p → smFind s.quo.rounds p = some r → 
    (∀ (m : Nat) (x : LdgRun) (named : List Nat), (mailbox s m).run = some x → x.wait = .measure named → ∃ q ∈ named, q ≠ p ∧ smFind s.quo.measured q = none) →
    ∃ t : State, exec (.echoReceived l n trip) s = .next t ∧
      ((lane s l).phase ≠ .active ∨ laneIndex s l ≠ 0 ∨ r.length ≠ n → t = s) ∧
      ((lane s l).phase = .active → laneIndex s l = 0 → r.length = n → n < 63 →
        Only [.quo] s t ∧ smFind t.quo.rounds p = some (r ++ [trip]) ∧ t.quo.measured = s.quo.measured) ∧
      ((lane s l).phase = .active → laneIndex s l = 0 → r.length = n → n = 63 →
        smFind t.quo.rounds p = none ∧
        ∀ (b : Binding) (f a : Int), (partner s p).binding = some b → f = flight (sumL (r ++ [trip])) (recTTurn b.record) (sfld (cell s .quoPasym p) 19 0) →
          a = (if bit (cell s .quoDlPhase p) 20 = true then ((partnerClock s p).target : Int) else f) - f + sfld (cell s .quoPtrim p) 15 0 →
          (spreadBad (r ++ [trip]) = true → smFind t.quo.measured p = some 3) ∧
          (spreadBad (r ++ [trip]) = false → f < 0 ∨ 63 * 16384 + 16383 < f → smFind t.quo.measured p = some 4) ∧
          (spreadBad (r ++ [trip]) = false → 0 ≤ f → f ≤ 63 * 16384 + 16383 → a < -524288 ∨ 524287 < a → smFind t.quo.measured p = some 5) ∧
          (spreadBad (r ++ [trip]) = false → 0 ≤ f → f ≤ 63 * 16384 + 16383 → -524288 ≤ a → a ≤ 524287 →
            smFind t.quo.measured p = some 0 ∧ fld (cell t .quoPrtt p) 23 0 = (divRound (sumL (r ++ [trip]) : Nat) 64).toNat % 2 ^ 24 ∧
            (partnerClock t p).pending.map (·.delay) = some a ∧
            (bit (cell s .quoDlPhase p) 20 = false →
              fld (cell t .quoDlPhase p) 19 14 = f.toNat / 16384 ∧ fld (cell t .quoDlPhase p) 13 0 = f.toNat % 16384)))) ∧
  (∀ (l : Fin 256) (trip : Nat) (s u : State) (p : Nat) (r : List Nat) (m : Fin 8) (x : LdgRun) (named bad : List Nat), isUp s = true → TablesRise s →
    NamesInRange s → Rises s.quo.rounds → Rises s.quo.measured → (lane s l).partner = some p → smFind s.quo.rounds p = some r → (lane s l).phase = .active →
    laneIndex s l = 0 → r.length = 63 → spreadBad (r ++ [trip]) = true → (mailbox s m).run = some x → x.wait = .measure named → p ∈ named →
    (∀ q ∈ named, q ≠ p → measureEnded s q = true) →
    (∀ (k : Nat) (y : LdgRun) (other : List Nat), k ≠ m.val → (mailbox s k).run = some y → y.wait ≠ .measure other) →
    u = finishMeasure p (r ++ [trip]) s → bad = named.filter (fun q => measureReason u q != 0) →
    ∃ t : State, exec (.echoReceived l 63 trip) s = .next t ∧ p ∈ bad ∧ measureReason u p = 3 ∧
      (bad = named → Completed m x 5 bad.length (measureResults u named) s t) ∧
      (bad ≠ named → Completed m x 0x0B bad.length (measureResults u named) s t))

/-! ### Frames from partners -/

/-- R67, R74, R92, R93, R102, R109, R115, R118, R307: a block on an ACTIVE lane whose length or CRC is wrong, or in which a code error stood, is a
malformed frame: an event, a count and an offence of its partner, the first of a course raised where no offence is on record. A block of 20 characters
is an exchange block and no frame. On a lane in QUARANTINE a block is only counted; in any other state, or with the data plane stopped, nothing
happens. R28, R94 to R101, R113, R114, R136: a good data frame in its span starts or moves the missing-span check; its hit word, with the channel in
range and below the hit cap, joins the input queue of the engine that the slot map names for the partner's table group, is discarded and counted where
2,048 positions are taken, or is discarded where that group does not serve (R289). A span more than 120 BT behind is declared missing: an event, a
count, an offence. The model’s choices that it rests on: log entries 26, 27, 58, 168 and 180. -/
def Obligations.BurirFrames : Prop :=
  (∀ (l : Fin 256) (chars : List Byte) (bad closed : Bool) (lag : Nat) (s : State), isUp s = true → TablesRise s → NamesInRange s →
    (∀ q : Nat, (partner s q).cfgDone = none) →
    ((lane s l).phase ≠ .active → (lane s l).phase ≠ .quarantine → exec (.burirDataFrame l ⟨chars, bad⟩ closed lag) s = .next s) ∧
    (dpStopped s = true → (lane s l).phase = .active → exec (.burirDataFrame l ⟨chars, bad⟩ closed lag) s = .next s) ∧
    ((lane s l).phase = .active → chars.length = 20 → exec (.burirDataFrame l ⟨chars, bad⟩ true lag) s = .next s) ∧
    ((lane s l).phase = .quarantine → ¬ (closed = true ∧ chars.length = 20) →
      ∃ t : State, exec (.burirDataFrame l ⟨chars, bad⟩ closed lag) s = .next t ∧ Only [.regs] s t ∧
        cell t .bedLaneErr l = incSat (cell s .bedLaneErr l) 7 0 1 ∧ RegsKept [(.bedLaneErr, l, 0)] s t) ∧
    (∀ p : Nat, (lane s l).phase = .active → (lane s l).partner = some p → dpStopped s = false → ¬ (closed = true ∧ chars.length = 20) →
      (closed = false ∨ bad = true ∨ chars.length < 10 ∨ 406 < chars.length ∨ (chars.length - 10) % 6 ≠ 0 ∨
        crc32c (chars.take (chars.length - 4)) ≠ BitVec.ofNat 32 (beNat (chars.drop (chars.length - 4)))) →
      ∃ t : State, exec (.burirDataFrame l ⟨chars, bad⟩ closed lag) s = .next t ∧ Only (reportZones ++ [.lanes, .partners, .groups]) s t ∧ t.lanes = s.lanes ∧
        Evented .bedPevt p 16 s t ∧ cell t .bedPcntFrame p = incSat (cell s .bedPcntFrame p) 31 16 1 ∧
        RegsKept ([(Reg.bedPevt, p, 0), (Reg.bedPcntFrame, p, 0)] ++ acctCells) s t ∧ (partner t p).offended = true ∧ (∀ q : Nat, q ≠ p → partner t q = partner s q) ∧
        ((partner s p).offended = false → (partner s p).offences = 0 →
          Reported Src.bedPartnerOffence p ([w32 p, w32 1] ++ capCourse (nowCourse s)) s t))) ∧
  (∀ (l : Fin 256) (s : State) (p : Nat) (b : Binding), isUp s = true → TablesRise s → NamesInRange s → (∀ q : Nat, (partner s q).cfgDone = none) →
    (lane s l).phase = .active → (lane s l).partner = some p → (partner s p).binding = some b →
    (∀ (chars : List Byte) (lag k h x : Nat), dpStopped s = false → chars.length = 10 + 6 * k → k ≤ 66 → chars.length ≠ 20 →
      crc32c (chars.take (6 + 6 * k)) = BitVec.ofNat 32 (beNat (chars.drop (6 + 6 * k))) → h = beNat (chars.take 6) →
      nfld h 47 44 = 1 → nfld h 43 41 = laneIndex s l → nfld h 31 16 % 16 = 0 → nfld h 15 8 = 0 →
      -32 ≤ stampDistance (nowGbt s - lag) (nfld h 31 16) → stampDistance (nowGbt s - lag) (nfld h 31 16) ≤ 120 →
      x = spanStart (nowGbt s - lag) (nfld h 31 16) → x ∉ (lane s l).missing → (∀ y : Nat, (lane s l).lastSpan = some y → y ≤ x) →
      (∀ c : Nat, (lane s l).checkFrom = some c → x < c + 16) →
      (k = 0 → ∃ t : State, exec (.burirDataFrame l ⟨chars, false⟩ true lag) s = .next t ∧ Only [.lanes] s t ∧ (lane t l).noData = false ∧
        (lane t l).lastSpan = some x ∧ (lane t l).checkFrom = some (match (lane s l).checkFrom with | some c => max c (x + 16) | none => x + 16)) ∧
      (∀ w e c cap : Nat, k = 1 → w = beNat ((chars.drop 6).take 6) → parityGood w = true → nbit w 7 = false → nfld w 47 30 < recChannels b.record →
        c = (x + nfld w 29 26) / 64 → cap = fld (inForce s .bedPpol p) 27 16 → (cap = 0 ∨ smGet 0 (partner s p).capCounts c < cap) →
        e = slotEngine s (b.firstLane / 8 / 4) → (engine s e).phase = .active → slotMigration s (b.firstLane / 8 / 4) = none →
        ∃ t : State, exec (.burirDataFrame l ⟨chars, false⟩ true lag) s = .next t ∧
          (groupServes s (b.firstLane / 8) = false → Only [.lanes, .partners] s t) ∧
          (groupServes s (b.firstLane / 8) = true → queueFill (engine s e) + 1 ≤ 2048 → Only [.lanes, .partners, .ash, .mem] s t ∧
            (engine t e).queue = (engine s e).queue ++ [{ mkHit s l p x w none with slot := nextSlot (engine s e) }] ∧
            ∀ e' : Nat, e' ≠ e → engine t e' = engine s e') ∧
          (groupServes s (b.firstLane / 8) = true → 2048 < queueFill (engine s e) + 1 → t.ash = s.ash ∧ cell t .ashInDrop e = incSat (cell s .ashInDrop e) 31 0 1))) ∧
    (∀ c : Nat, (lane s l).checkFrom = some c → dpStopped s = false →
      (c + 120 < nowGbt s → ∃ t : State, exec (.spanTimeout l) s = .next t ∧ Only (reportZones ++ [.lanes, .partners, .groups]) s t ∧
        (lane t l).checkFrom = some (c + 16) ∧ c ∈ (lane t l).missing ∧ Evented .bedPevt p 17 s t ∧
        cell t .bedPcntSpan p = incSat (cell s .bedPcntSpan p) 31 16 1 ∧
        RegsKept ([(Reg.bedPevt, p, 0), (Reg.bedPcntSpan, p, 0)] ++ acctCells) s t ∧ (partner t p).offended = true ∧
        ((partner s p).offended = false → (partner s p).offences = 0 →
          Reported Src.bedPartnerOffence p ([w32 p, w32 4] ++ capCourse (nowCourse s)) s t)) ∧
      (nowGbt s ≤ c + 120 → exec (.spanTimeout l) s = .next s)) ∧
    ((lane s l).checkFrom = none ∨ dpStopped s = true → exec (.spanTimeout l) s = .next s))

/-- R108, R109: the response to the transaction under way, on the partner's lane with LANE_INDEX 0 and with its TAG, ends it and completes its command
with tag, status and data; any other is malformed and changes nothing of it; a later one than 4,096 BT finds it timed out. 4,096 BT after a
transaction was sent without a response it ends with a report, and its command with TIMEOUT. The model’s choices that it rests on: log entries 129 and
179. -/
def Obligations.PartnerTransactions : Prop :=
  ∀ (m : Fin 8) (p : Fin 64) (r : LdgRun) (c : CfgTx) (sent tag : Nat) (s : State), isUp s = true → TablesRise s →
    (∀ q : Nat, (partner s q).cfgDone = none) → (mailbox s m).run = some r → r.wait = .config p →
    (∀ (n : Nat) (r' : LdgRun), n ≠ m.val → (mailbox s n).run = some r' → r'.wait ≠ .config p) → (partner s p).cfg = some c → c.sent = some sent →
    tag = ((partner s p).nextTag + 15) % 16 →
    (∀ (l : Fin 256) (chars : List Byte) (h w : Nat), (lane s l).phase = .active → (lane s l).partner = some p.val → dpStopped s = false →
      chars.length = 16 → crc32c (chars.take 12) = BitVec.ofNat 32 (beNat (chars.drop 12)) → h = beNat (chars.take 6) → nfld h 47 44 = 2 →
      nfld h 43 41 = laneIndex s l → w = beNat ((chars.drop 6).take 6) →
      ∃ t : State, exec (.configResponseFrame l ⟨chars, false⟩) s = .next t ∧
        (sent + 4096 < nowGbt s → (partner t p).cfg = none ∧ Evented .bedPevt p 16 (event .bedPevt p 19 s) t ∧
          Reported Src.partnerCfgTimeout p [w32 p, w32 c.op, w32 c.tag, c.addr] s t ∧ Completed m r 0x0A tag [mkFld 7 4 tag] s t) ∧
        (nowGbt s ≤ sent + 4096 → laneIndex s l = 0 → nfld w 47 44 = c.tag → (partner t p).cfg = none ∧ (partner t p).cfgDone = none ∧
          Completed m r 0 0 [mkFld 7 4 tag ||| mkFld 3 0 (nfld w 43 40), w32 (nfld w 31 0)] s t) ∧
        (nowGbt s ≤ sent + 4096 → laneIndex s l ≠ 0 ∨ nfld w 47 44 ≠ c.tag → t.partners = s.partners ∧ t.ldg = s.ldg ∧ Evented .bedPevt p 16 s t ∧
          cell t .bedPcntFrame p = incSat (cell s .bedPcntFrame p) 31 16 1)) ∧
    (nowGbt s ≤ sent + 4096 → exec (.partnerCfgTimeout p) s = .next s) ∧
    (sent + 4096 < nowGbt s → ∃ t : State, exec (.partnerCfgTimeout p) s = .next t ∧ Only (reportZones ++ [.partners, .ldg]) s t ∧
      (partner t p).cfg = none ∧ Evented .bedPevt p 19 s t ∧ RegsKept [(.bedPevt, p, 0), (.ldgCnt, 0, 0), (.ldgEvt, 0, 0)] s t ∧ Reported Src.partnerCfgTimeout p [w32 p, w32 c.op, w32 c.tag, c.addr] s t ∧
      Completed m r 0x0A tag [mkFld 7 4 tag] s t)

/-! ### Ashlar engines -/

/-- R121 to R124, R131, R148: the hit word at the head of an engine's queue becomes a record whose time is the raw time less offset, walk and delay, moved
to the course before or after where it leaves the course, with the UNCAL flag where a term is missing; the record enters its bucket of the ring. A
residue that does not check discards the hit, counted and raised. A hit whose table group does not serve, or during a stop, forms no record (R289,
R307). R23, R132 to R135, R140, R152: a waveform group is timed by its crossing, with its samples kept where the configuration says so, and forms no
record where it has no pulse; of a slot in migration the ring takes the former engine's records of the courses before the boundary and the new
engine's from it on; a record of a closed course is late, counted and raised, and one beyond the ring's cap is dropped, counted, the first of its
course raised. An engine that does not run, or whose queue is empty, does nothing. The model’s choices that it rests on: log entries 9, 25, 28, 45,
57, 58 and 59. -/
def Obligations.HitsAreCorrected : Prop :=
  ∀ (e : Fin 9) (s : State), isUp s = true → TablesRise s → NamesInRange s →
    ((engine s e).queue = [] ∨ engineRuns s e = false → ∀ good : Bool, exec (.ashlarHit e good) s = .next s) ∧
    (∀ (x : HitItem) (rest : List HitItem), (engine s e).queue = x :: rest → engineRuns s e = true → x.wave = none → AsWritten 5 e s →
      (dpStopped s = true ∨ groupServes s x.group = false →
        ∃ t : State, exec (.ashlarHit e true) s = .next t ∧ Only [.ash] s t ∧ (engine t e).queue = rest) ∧
      (∃ t : State, exec (.ashlarHit e false) s = .next t ∧ (engine t e).queue = rest ∧ Evented .ashEngEvt e 18 s t ∧ t.ring = s.ring ∧
        RegsKept ([(Reg.ashEngEvt, e.val, 0), (Reg.ashCheckErr, e.val, 0)] ++ acctCells) s t ∧
        cell t .ashCheckErr e = incSat (cell s .ashCheckErr e) 31 0 1 ∧
        Reported Src.ashEngineErr e ([w32 e, w32 (x.group / 4), w32 x.partner] ++ cap64 x.namedBt) s t) ∧
      (∀ (q : Nat) (terms : Terms) (tm : Int) (c : Nat), dpStopped s = false → groupServes s x.group = true →
        slotMigration s (x.group / 4) = none → (∀ k : Nat, x.boundary = some k → k ≤ c) → q = (if x.sat then 255 else min 254 x.charge) →
        terms = (hitTerms x q s).1 → tm = ((x.namedBt % 64 * 16384 + x.fine * 16 : Nat) : Int) - terms.sum →
        (tm < 0 ∧ c + 1 = x.namedBt / 64 ∨ 0 ≤ tm ∧ tm < 2 ^ 20 ∧ c = x.namedBt / 64 ∨ (2 : Int) ^ 20 ≤ tm ∧ c = x.namedBt / 64 + 1) →
        (quarter s (x.group / 8)).inService = true → (quarter s (x.group / 8)).since ≤ c → nowCourse s ≤ c + 1 →
        courseEntries s (x.group / 8) c + 1 ≤ 24576 →
        (entriesSize (bucket s c x.group ((tm % 2 ^ 20).toNat / 16384)) + 8) / 8 ≤
          (bucketAt s c x.group ((tm % 2 ^ 20).toNat / 16384)).pages.length + freePages s (x.group / 8) →
        ∃ (t : State) (rec_ : DWord), exec (.ashlarHit e true) s = .next t ∧ (engine t e).queue = rest ∧
          bucket t c x.group ((tm % 2 ^ 20).toNat / 16384) = bucket s c x.group ((tm % 2 ^ 20).toNat / 16384) ++ [⟨rec_, []⟩] ∧
          recTime rec_ = (tm % 2 ^ 20).toNat ∧ recChannel rec_ = (x.partner * 2 ^ 18 + x.channel) % 2 ^ 24 ∧ recCharge rec_ = q % 256 ∧
          recLane rec_ = x.lane % 256 ∧
          recFlags rec_ = (decide (terms.cause ≠ 0)).toNat * 8 + x.sat.toNat * 2 + x.pileup.toNat)) ∧
    (∀ (x : HitItem) (rest : List HitItem) (k : Nat) (r : RawHit) (y : Corrected), (engine s e).queue = x :: rest → engineRuns s e = true → AsWritten 5 e s →
      dpStopped s = false → groupServes s x.group = true → k = x.group / 8 → r = rawHit (cell s .ashWaveCfg) x → y = corrected x r (hitTerms x r.charge s).1 →
      ∃ t : State, exec (.ashlarHit e true) s = .next t ∧ (engine t e).queue = rest ∧
        (r.noPulse = true → bit (cell s .ashWaveCfg) 13 = false →
          t.ring = s.ring ∧ t.lnt = s.lnt ∧ cell t .ashCntWave e = incSat (cell s .ashCntWave e) 31 16 1) ∧
        (∀ b : Nat, x.boundary = some b → y.course < b → t.ring = s.ring ∧ t.lnt = s.lnt) ∧
        (∀ mg : Migration, x.boundary = none → slotMigration s (x.group / 4) = some mg → mg.doubled = true → mg.former = e.val → x.single = false →
          mg.boundary ≤ y.course → t.ring = s.ring ∧ t.lnt = s.lnt) ∧
        (r.noPulse = false ∨ bit (cell s .ashWaveCfg) 13 = true → ringTakes s e y.course x = true → (quarter s k).inService = true →
          (quarter s k).since ≤ y.course →
          (y.course + 1 < nowCourse s → t.ring = s.ring ∧ Evented .crsEvt 0 16 s t ∧ cell t .crsLateRec x.group = incSat (cell s .crsLateRec x.group) 31 0 1 ∧
            Reported Src.courseLateRec 0 [] s t) ∧
          (nowCourse s ≤ y.course + 1 → 24576 < courseEntries s k y.course + entrySize y.entry → t.ring.buckets = s.ring.buckets ∧
            cell t .crsCapDrop k = incSat (cell s .crsCapDrop k) 31 0 (entrySize y.entry) ∧
            (smGet 0 (quarter s k).drops y.course = 0 →
              Reported Src.crsCapDrop k (w32 k :: capCourse y.course ++ [w32 (entrySize y.entry)]) s t ∧ Evented .crsEvt 0 18 s t)) ∧
          (∀ old : Bucket, nowCourse s ≤ y.course + 1 → courseEntries s k y.course + entrySize y.entry ≤ 24576 →
            old = bucketAt s y.course x.group (recTime y.entry.record / 16384) →
            bucketPages (old.entries ++ [y.entry]) ≤ old.pages.length + freePages s k →
            bucket t y.course x.group (recTime y.entry.record / 16384) = old.entries ++ [y.entry] ∧
            ∀ (phase baseline : Nat) (l : List Nat) (w : WaveTiming), x.wave = some (phase, baseline, l) →
              w = waveTiming (cell s .ashWaveCfg) baseline l → minAmp (cell s .ashWaveCfg) ≤ w.amplitude →
              recWave y.entry.record = true ∧ recCharge y.entry.record = (if x.sat then 255 else min 254 w.amplitude.toNat) ∧
              y.entry.samples = (if bit (cell s .ashWaveCfg) 13 then sampleWords 4 l else []) ∧
              (recTime y.entry.record : Int) =
                (((x.namedBt % 64 * 16384 + phase * 1024 + w.crossing : Nat) : Int) - (hitTerms x r.charge s).1.sum) % 2 ^ 20)))

/-- R130, R138, R140, R141: two course ticks after it entered SYNC an engine is ACTIVE, with an event, if the map gives it a slot, else SPARE. At the tick
after a migration's boundary the former engine, if DRAINING, enters SYNC; hits of earlier courses that it still holds are stragglers, counted and raised.
PREV_BUSY of a group's former banks ends two courses after their change. -/
def Obligations.EnginesChangeState : Prop :=
  ∀ s : State, isUp s = true → TablesRise s → NamesInRange s →
    (∀ e : Fin 9, ∃ t : State, exec (.engineSyncDone e) s = .next t ∧ Only [.regs, .port0, .port1, .ash, .lnt] s t ∧
      (∀ k : Nat, k ≠ e.val → engine t k = engine s k) ∧
      ((engine s e).phase = .sync → (engine s e).syncUntil ≤ nowCourse s → engineSlot s e = none → (engine t e).phase = .spare ∧ t.regs = s.regs) ∧
      (∀ sl : Nat, (engine s e).phase = .sync → (engine s e).syncUntil ≤ nowCourse s → engineSlot s e = some sl →
        (engine t e).phase = .active ∧ Evented .ashEngEvt e 16 s t ∧ RegsKept [(.ashEngEvt, e, 0)] s t ∧ sl ∉ t.ash.orphanRaised) ∧
      ((engine s e).phase ≠ .sync ∨ nowCourse s < (engine s e).syncUntil → t.ash = s.ash)) ∧
    (∀ (sl : Fin 8) (m : Migration), s.ash.migrations.find? (fun y => y.slot == sl.val && y.taken && decide (y.boundary + 1 ≤ nowCourse s)) = some m →
      ∃ t : State, exec (.migrationDrainEnd sl) s = .next t ∧ Only (reportZones ++ [.groups, .sram, .ash, .mem]) s t ∧
        (∀ y ∈ t.ash.migrations, y.slot ≠ sl.val) ∧
        ((engine s m.former).phase = .draining → (engine t m.former).phase = .sync ∧ (engine t m.former).queue = [] ∧
          (engine t m.former).syncUntil = nowCourse s + 2) ∧
        ((engine s m.former).phase ≠ .draining → t.ash.engines = s.ash.engines) ∧
        (∀ lost : List HitItem, lost = (engine s m.former).queue.filter (straggler s m) → (engine s m.former).phase = .draining →
          (lost ≠ [] → Evented .ashEngEvt m.former 19 s t ∧ cell t .ashStraggle m.former = incSat (cell s .ashStraggle m.former) 31 0 lost.length ∧
            Reported Src.ashStraggler sl ([w32 sl, w32 m.former, w32 lost.length] ++ capCourse m.boundary) s t) ∧
          (lost = [] → t.flt = s.flt))) ∧
    (∀ sl : Fin 8, s.ash.migrations.find? (fun y => y.slot == sl.val && y.taken && decide (y.boundary + 1 ≤ nowCourse s)) = none →
      exec (.migrationDrainEnd sl) s = .next s) ∧
    (∀ g : Fin 32, ∃ t : State, exec (.prevBusyEnd g) s = .next t ∧ Only [.groups] s t ∧
      (tgroup t g).ofsPrevBusy = (tgroup s g).ofsPrevBusy.filter (fun c => decide (nowCourse s < c + 2)) ∧
      (tgroup t g).walkPrevBusy = (tgroup s g).walkPrevBusy.filter (fun c => decide (nowCourse s < c + 2)) ∧
      ∀ k : Nat, k ≠ g.val → tgroup t k = tgroup s k)

/-! ### The Molus coders -/

/-- R156, R165 to R167, R176: a coder in service takes its next closed course, every block to go raw from the deadline on; at the deadline the blocks not
started go raw, and STAGE_OVERRUN is raised. A block that is done is counted, by its RAW_CAUSE too: 5 forced, 4 a slot beyond 1,024 entries, 3 past the
deadline, 1 failed verification; it joins the blocks of its course while the quarry runs, and the coder goes on with the next group.
The model’s choices that it rests on: log entries 9, 46 and 48. -/
def Obligations.CodersWork : Prop :=
  ∀ (m : Fin 4) (s : State), isUp s = true → TablesRise s →
    (∃ t : State, exec (.molusCourseStart m) s = .next t ∧ Only [.regs, .ring] s t ∧
      ((quarter s m).inService = true → (coder s m).cur = none → (coder s m).next + 2 ≤ nowCourse s →
        (coder t m).next = (coder s m).next + 1 ∧
        (blockGroups s m (coder s m).next = [] → (coder t m).cur = none) ∧
        (blockGroups s m (coder s m).next ≠ [] → (coder t m).cur = some ((coder s m).next,
          (blockGroups s m (coder s m).next).map (fun g => (g, if (coder s m).next + 4 ≤ nowCourse s then 3 else 0))))) ∧
      ((quarter s m).inService = false ∨ (coder s m).cur ≠ none ∨ nowCourse s < (coder s m).next + 2 → t = s)) ∧
    (∃ t : State, exec (.molusDeadline m) s = .next t ∧ Only (reportZones ++ [.ring]) s t ∧
      ((quarter s m).inService = false ∨ nowCourse s < 4 → t = s) ∧
      (∀ (h : Nat × Nat) (rest : List (Nat × Nat)), (quarter s m).inService = true → 4 ≤ nowCourse s → (coder s m).cur = some (nowCourse s - 4, h :: rest) → rest ≠ [] →
        (coder t m).cur = some (nowCourse s - 4, h :: rest.map (fun x => (x.1, 3))) ∧ Reported Src.stageOverrun 0 [] s t ∧ Evented .molEvt m 17 s t ∧
        RegsKept [(.molEvt, m, 0)] s t) ∧
      ((coder s m).cur = none → nowCourse s < (coder s m).next + 4 → t = s)) ∧
    ((quarter s m).inService = false ∨ (coder s m).cur = none → ∀ (errs : List RingFault) (diff : Option Nat), exec (.molusBlockDone m errs diff) s = .next s) ∧
    (∀ (diff : Option Nat) (c g settled : Nat) (rest : List (Nat × Nat)) (slots : List (List RingEntry)) (ws : List DWord) (cause : Nat),
      (quarter s m).inService = true → (coder s m).cur = some (c, (g, settled) :: rest) → s.mem.inject = none → AsWritten 2 (g / 8) s → slots = (List.range 64).map (fun b => bucket s c g b) →
      (ws, cause) = formBlock c g (coder s m).forced settled diff.isNone slots (slots.map sortSlot).flatten →
      ∃ t : State, exec (.molusBlockDone m [] diff) s = .next t ∧ Only (reportZones ++ [.ring, .qry, .mem]) s t ∧ t.ring.buckets = s.ring.buckets ∧
        cell t .molBlocks m = incWrap (cell s .molBlocks m) 31 0 ∧ (coder t m).cur = (if rest = [] then none else some (c, rest)) ∧
        ((coder s m).forced = true → cause = 5) ∧ (rest ≠ [] → (coder t m).forced = bit (cell s .molCtl m) 1) ∧
        ((coder s m).forced = false → (∃ l ∈ slots, 1024 < l.length) → cause = 4 ∧ cell t .molBigSlot m = incSat (cell s .molBigSlot m) 31 0 1) ∧
        ((coder s m).forced = false → (∀ l ∈ slots, l.length ≤ 1024) →
          (settled = 3 → cause = 3 ∧ cell t .molOverrun m = incSat (cell s .molOverrun m) 31 0 1) ∧
          (settled ≠ 3 → settled = 1 ∨ diff ≠ none → cause = 1 ∧ cell t .molMismatch m = incSat (cell s .molMismatch m) 31 0 1 ∧
            ∀ i : Nat, diff = some i → Reported Src.molVerifyMismatch m (w32 m :: capCourse c ++ [w32 g, w32 i]) s t)) ∧
        (s.qry.phase = .running → ∀ j ∈ s.qry.jobs, j.course = c → ∃ j' ∈ t.qry.jobs, j'.course = c ∧
          j'.blocks = j.blocks ++ [⟨g, s.qry.writer, (s.qry.openStone.map (·.payload.length)).getD 0, ws.length, cause != 0, slots.flatten.length⟩]) ∧
        (s.qry.phase ≠ .running ∨ (∀ j ∈ s.qry.jobs, j.course ≠ c) → t.qry = s.qry))

/-! ### The quarry -/

/-- R176, R177, R181, R182, R187: the oldest full stone is written to its granule, breaking the pins that hold it; a course whose first stone it was
leaves the history once it is the oldest there, and H moves to the next; the open stone is closed when a course in it is due, and joins those to
write. The entry of the next course whose blocks are all written is published: P moves, H with it where its slot is used again, and a reader finds the
entry. A later merge of accounts rewrites one entry once per course. The model’s choices that it rests on: log entries 9, 37, 39 and 205. -/
def Obligations.StonesAndIndex : Prop :=
  ∀ s : State, isUp s = true → TablesRise s → MemoryWf s →
    (∃ t : State, exec .stoneClose s = .next t ∧ Only [.qry, .mem] s t ∧ (s.qry.phase ≠ .running ∨ closeDue s = false → t = s) ∧
      ∀ o : OpenStone, s.qry.phase = .running → closeDue s = true → s.qry.openStone = some o → t.qry = { s.qry with
        full := s.qry.full ++ [(s.qry.writer, stoneWords s.qry.writer o)], writer := (s.qry.writer + 1) % stoneCount, openStone := none }) ∧
    (s.qry.phase ≠ .running ∨ s.qry.full = [] → exec .stoneWriteDone s = .next s) ∧
    (∀ (n : Nat) (ws : List DWord) (rest : List (Nat × List DWord)), s.qry.phase = .running → s.qry.full = (n, ws) :: rest → ws.length = 512 → AsWritten 7 (n % 4) s →
      ∃ t : State, exec .stoneWriteDone s = .next t ∧ Only (reportZones ++ [.qry, .hbm]) s t ∧
        RegsKept [(.qryDepth, 0, 0), (.qryDepthMin, 0, 0), (.qryEvt, 0, 0), (.qryPinBreaks, 0, 0)] s t ∧ t.qry.full = rest ∧
        (∀ i < 4096, hbmByte t.hbm.bytes (4096 * n + i) = (wordBytes ws).getD i 0) ∧
        (∃ left : List Nat, s.qry.published = left ++ t.qry.published) ∧
        (∀ (h : Nat) (l : List Nat), s.qry.published = h :: l → firstStone (entryOf s h) ≠ n → h ∉ s.qry.passed → t.qry.published = s.qry.published ∧
          t.qry.hist = s.qry.hist ∧ ∀ a : Nat, (a < 4096 * n ∨ 4096 * n + 4096 ≤ a) → hbmByte t.hbm.bytes a = hbmByte s.hbm.bytes a) ∧
        (∀ (h : Nat) (l : List Nat), s.qry.published = h :: l → firstStone (entryOf s h) = n → t.qry.published.length < s.qry.published.length) ∧
        (∀ gone : List Nat, gone = s.qry.passed ++ s.qry.published.filter (fun c => firstStone (entryOf s c) == n) → s.qry.published.Nodup →
          t.qry.published = s.qry.published.dropWhile (fun c => gone.contains c) ∧
          (t.qry.published ≠ s.qry.published → ∀ p : Nat, s.qry.newest = some p → t.qry.hist = t.qry.published.headD (p + 1))) ∧
        ∀ r ∈ s.qry.reads, ∀ a b : Nat, r.pin = some (a, b) → r.broken = false → stoneSpan a n ≤ stoneSpan a b →
          { r with broken := true, pin := none } ∈ t.qry.reads ∧
          Reported Src.qryPinBreak (if r.job then r.owner % 256 else r.unit % 256) (requesterWord r :: capCourse (r.courses.headD 0) ++ [w32 n] ++ capCourse (nowCourse s)) s t) ∧
    (publishReady s = none → exec .indexPublish s = .next s) ∧
    (∀ (j : IndexJob) (cr : CloseRec), publishReady s = some (j, cr) →
      ∃ t : State, exec .indexPublish s = .next t ∧ Only (reportZones ++ [.ring, .qry, .hbm, .streams, .uplinks]) s t ∧ t.qry.jobs = s.qry.jobs.tail ∧
        t.qry.newest = some j.course ∧ t.qry.published = (s.qry.published ++ [j.course]).filter (fun k => decide (j.course < k + 2097152)) ∧
        t.qry.hist = (if s.qry.published = [] then j.course else max s.qry.hist (j.course - 2097151)) ∧
        (j.course < 2 ^ 56 → cr.course = j.course → (courseTime s j.course).quality ≤ 2 →
          readIndex t j.course = some (sealEntry (entryWords s cr j.blocks)))) ∧
    (∀ c : BitVec 56, ∃ t : State, exec (.indexRewrite c) s = .next t ∧ Only [.qry, .hbm] s t ∧ t.qry.published = s.qry.published ∧
      (∀ a : Nat, (a < entryQa c.toNat ∨ entryQa c.toNat + 512 ≤ a) → hbmByte t.hbm.bytes a = hbmByte s.hbm.bytes a) ∧
      (s.qry.phase ≠ .running ∨ c.toNat ∉ s.qry.published ∨ smGet 0 s.qry.rewritten c.toNat = nowCourse s + 1 → t = s) ∧
      (∀ (cr : CloseRec) (ws : List DWord), s.qry.phase = .running → c.toNat ∈ s.qry.published → smGet 0 s.qry.rewritten c.toNat ≠ nowCourse s + 1 →
        closeRec s c.toNat = some cr → readIndex s c.toNat = some ws →
        smGet 0 t.qry.rewritten c.toNat = nowCourse s + 1 ∧ (readIndex t c.toNat).isSome = true))

/-- R184 to R189, R213: the oldest request of a mortar unit whose stones are pinned reads one stored course: the part of a group is empty, absent, damaged
or the records that its block decodes to, and a block that fails a check is marked and raised; a course whose entry is a stub is damaged for every
group (R190), and one that is asked of a quarry out of service is not stored, at once (R191). A broken request gives up its courses, and a course not
yet published is waited for. The first request that waits for pin space pins where the limit allows, and the pins stay within it. R196: a read through
a port's window returns the bytes of HBM, all ones where the controller does not serve, and zeros where nothing has been written or in the retirement
reserve; a burst with an uncorrectable error reads as all ones and is raised. A write into the image area or host scratch stores the bytes that its
enables let through and no others; elsewhere it stores nothing, and the first of a run is raised. The model’s choices that it rests on: log entries
35, 40, 71, 109, 169 and 210. -/
def Obligations.QuarryIsRead : Prop :=
  (∀ (burst : List Nat) (s : State), isUp s = true → TablesRise s →
    ((∀ r ∈ s.qry.reads, r.job = true) → exec (.quarryRead burst) s = .next s) ∧
    (∀ (r : QReq) (e : AccEntry) (x : Gather), s.qry.reads.find? (fun q => !q.job) = some r → entryById s r.owner = some e →
      e.gather r.unit = some x →
      (r.broken = true → ∃ t : State, exec (.quarryRead burst) s = .next t ∧ Only (reportZones ++ [.qry, .mrt, .streams]) s t ∧ t.qry.reads = s.qry.reads.erase r ∧
        ∃ (e' : AccEntry) (x' : Gather), entryById t r.owner = some e' ∧ e'.gather r.unit = some x' ∧
          ∀ c ∈ r.courses, (∃ p ∈ x'.parts, p.course = c ∧ p.group = 32) ∧
            ((∀ y ∈ x.parts, ¬ (y.course = c ∧ y.group = 32)) → ⟨c, 32, if e.hist ≤ c then .overwritten else .beforeHistory⟩ ∈ x'.parts)) ∧
      (∀ (c : Nat) (rest : List Nat), r.broken = false → r.courses = c :: rest →
        s.qry.phase = .running → pinWaits s (pinRequest s (s.qry.reads.findIdx (fun q => !q.job)) r) = true → exec (.quarryRead burst) s = .next s) ∧
      (∀ (c : Nat) (rest : List Nat), r.broken = false → r.courses = c :: rest → s.qry.phase ≠ .running → (∀ y ∈ x.parts, ¬ (y.course = c ∧ y.group = 32)) →
        ∃ (t : State) (e' : AccEntry) (x' : Gather), exec (.quarryRead burst) s = .next t ∧ entryById t r.owner = some e' ∧ e'.gather r.unit = some x' ∧
          ⟨c, 32, .absent 2⟩ ∈ x'.parts) ∧
      (∀ (c : Nat) (rest : List Nat), r.broken = false → pinWaits s (pinRequest s (s.qry.reads.findIdx (fun q => !q.job)) r) = false →
        r.courses = c :: rest → s.qry.phase = .running →
        (∀ p : Nat, historyStart s ≤ c → s.qry.newest = some p → p < c → exec (.quarryRead burst) s = .next s) ∧
        (c < historyStart s → (∀ y ∈ x.parts, ¬ (y.course = c ∧ y.group = 32)) →
          ∃ t : State, exec (.quarryRead burst) s = .next t ∧
          ∃ (e' : AccEntry) (x' : Gather), entryById t r.owner = some e' ∧ e'.gather r.unit = some x' ∧
            ⟨c, 32, if e.hist ≤ c then .overwritten else .beforeHistory⟩ ∈ x'.parts) ∧
        (∀ (p g : Nat) (d : DWord), historyStart s ≤ c → s.qry.newest = some p → c ≤ p → c ∈ s.qry.published → r.groups = [g] →
          (∀ y ∈ x.parts, ¬ (y.course = c ∧ y.group = g)) → d = (entryMet s burst c).getD (6 + g) 0 → isStub (entryMet s burst c) = false →
          ∃ (t : State) (e' : AccEntry) (x' : Gather) (part : PartData), exec (.quarryRead burst) s = .next t ∧ entryById t r.owner = some e' ∧ e'.gather r.unit = some x' ∧ ⟨c, g, part⟩ ∈ x'.parts ∧
            (dfld d 7 7 = 0 → part = (if dfld d 3 0 = 0 then .quarry [] else .absent 1)) ∧
            (dfld d 7 7 = 1 → dfld d 5 5 = 1 → part = .damaged) ∧
            (dfld d 7 7 = 1 → dfld d 5 5 = 0 → ∀ n : Nat, badStone s d burst = some n → part = .damaged ∧
              cell t .qryReadCrc = incSat (cell s .qryReadCrc) 31 0 1 ∧
              Reported Src.qryReadCrc g (w32 n :: capCourse c ++ [w32 g, requesterWord r]) s t) ∧
            (dfld d 7 7 = 1 → dfld d 5 5 = 0 → badStone s d burst = none → ∀ l : List RingEntry, decodeBlock (blockWords s d) = some l → part = .quarry l)) ∧
        (∀ p : Nat, historyStart s ≤ c → s.qry.newest = some p → c ≤ p → c ∈ s.qry.published → (∀ y ∈ x.parts, ¬ (y.course = c ∧ y.group = 32)) →
          isStub (entryMet s burst c) = true →
          ∃ (t : State) (e' : AccEntry) (x' : Gather), exec (.quarryRead burst) s = .next t ∧ entryById t r.owner = some e' ∧ e'.gather r.unit = some x' ∧
            ⟨c, 32, .damaged⟩ ∈ x'.parts))) ∧
    (∃ t : State, exec .pinSpaceFreed s = .next t ∧ Only [.qry] s t ∧
      (∀ i : Nat, s.qry.reads.findIdx? (pinWaits s) = some i → t.qry.reads = s.qry.reads.modify i (pinRequest s i)) ∧
      (s.qry.reads.findIdx? (pinWaits s) = none → t = s) ∧
      (pinnedStones s ≤ 1048576 → pinnedStones t ≤ 1048576))) ∧
  (∀ (p : Fin 2) (off : Word) (s : State), isUp s = true → TablesRise s → MemoryWf s → linked p s = true →
    (∀ (n : Nat) (errs : List (Nat × HbmLoc)) (a : Nat), 0 < n → a = windowQa s p off.toNat →
      ∃ t : State, exec (.hostWindowRead p off n errs) s = .next t ∧ Only reportZones s t ∧ RegsKept [(.qryHwinAddr, 0, 0), (.qryHwinStat, 0, 0), (.memEvt, 0, 0), (.memHbmCnt, 0, 0)] s t ∧
        (hostPort t p).windowData.length = n ∧
        ∀ i < n,
          (qaReachable s (a + i) = false → (hostPort t p).windowData.getD i 0 = 0xFF) ∧
          (qaReachable s (a + i) = true → qaReserve ≤ a + i ∨ smGet false s.hbm.written ((a + i) / 4096) = false → (∀ e ∈ errs, e.1 ≠ (a + i) / 32) →
            (hostPort t p).windowData.getD i 0 = 0) ∧
          (qaReachable s (a + i) = true → a + i < qaReserve → smGet false s.hbm.written ((a + i) / 4096) = true →
            ((∀ e ∈ errs, e.1 ≠ (a + i) / 32) → (hostPort t p).windowData.getD i 0 = hbmByte s.hbm.bytes (a + i)) ∧
            (∀ e ∈ errs, e.1 = (a + i) / 32 → qaReachable s (32 * e.1) = true → (hostPort t p).windowData.getD i 0 = 0xFF ∧
              Reported Src.memHbmUncorr (qaStack (32 * e.1)) (locCapture (32 * e.1) e.2 ++ cap64 (32 * e.1)) s t))) ∧
    (∀ (data : List (Option Byte)) (a : Nat), data ≠ [] → a = windowQa s p off.toNat → a / 4096 = (a + data.length - 1) / 4096 →
      ∃ t : State, exec (.hostWindowWrite p off data) s = .next t ∧ Only (reportZones ++ [.qry, .hbm]) s t ∧ RegsKept [(.qryHwinStat, 0, 0)] s t ∧
        (qaReachable s (4096 * (a / 4096)) = true → windowWritable (4096 * (a / 4096)) = true →
          (∀ (i : Nat) (b : Byte), data[i]? = some (some b) → hbmByte t.hbm.bytes (a + i) = b) ∧
          (∀ x : Nat, (∀ (i : Nat) (b : Byte), data[i]? = some (some b) → x ≠ a + i) → hbmByte t.hbm.bytes x = hbmByte s.hbm.bytes x) ∧
          p.val ∉ t.qry.refusedRun) ∧
        (qaReachable s (4096 * (a / 4096)) = false → t.hbm = s.hbm ∧ t.qry = s.qry ∧ Evented .qryHwinStat 0 18 s t) ∧
        (qaReachable s (4096 * (a / 4096)) = true → windowWritable (4096 * (a / 4096)) = false → t.hbm = s.hbm ∧ Evented .qryHwinStat 0 17 s t ∧
          p.val ∈ t.qry.refusedRun ∧ (p.val ∉ s.qry.refusedRun → Reported Src.qryHwinRefused p (w32 p :: cap64 (max a (4096 * (a / 4096)))) s t))))

/-! ### Protected memories -/

/-- R324 to R328, R330, R331: the scrub reads one block of a group's tables after the other: a correctable error is corrected, counted and rewritten, an
uncorrectable one makes the block DAMAGED, counted, raised and queued, and one that is DAMAGED is queued again. A restore takes the block at the head of
the queue from its archive granule, or marks its restore as failed; a corrected error of its read is counted.
The model’s choices that it rests on: log entries 33, 83, 85, 86 and 142. -/
def Obligations.TablesAreScrubbedAndRestored : Prop :=
  ∀ (g : Fin 32) (s : State), isUp s = true → TablesRise s → MemoryWf s →
    (repointerRuns s = false ∨ domOn s g = false → exec (.sramScrubBlock g) s = .next s) ∧
    (∀ (b : Nat) (x : SramBlock), repointerRuns s = true → domOn s g = true → b = (tgroup s g).scrubPos → b < groupBlocks → x = tblock s g b →
      ∃ t : State, exec (.sramScrubBlock g) s = .next t ∧ Only (reportZones ++ [.groups, .sram, .mem]) s t ∧
        RegsKept [(.memCntCorr, (blockMemory b).1, 0), (.memCntUncorr, (blockMemory b).1, 0), (.memEvt, 0, 0), (.memLastRead, 0, 0),
          (.memLastAddr, 0, 0), (.memScrubStat, 0, 0)] s t ∧
        (tgroup t g).scrubPos = (if b + 1 = groupBlocks then 0 else b + 1) ∧
        (∀ h k : Nat, h * groupBlocks + k ≠ g.val * groupBlocks + b → tblock t h k = tblock s h k) ∧
        (∀ d : DWord, x.phase = .good → readOutcome x.data x.check = .clean d → t.sram = s.sram ∧ t.flt = s.flt) ∧
        (∀ (d : DWord) (syn : Nat), x.phase = .good → readOutcome x.data x.check = .corrected d syn → s.mem.inject = none →
          tblock t g b = ⟨.good, d, checkBits d⟩ ∧
          cell t .memCntCorr (blockMemory b).1 = incSat (cell s .memCntCorr (blockMemory b).1) 31 0 1 ∧
          (((blockMemory b).1, g.val) ∉ s.mem.corrRaised →
            Reported Src.memSramCorr g [w32 (blockMemory b).1, w32 g, w32 (blockMemory b).2, w32 syn] s t)) ∧
        (x.phase = .good → readOutcome x.data x.check = .uncorrectable →
          (tblock t g b).phase = .damaged ∧ cell t .memCntUncorr (blockMemory b).1 = incSat (cell s .memCntUncorr (blockMemory b).1) 31 0 1 ∧
          Reported Src.memSramUncorr g [w32 (blockMemory b).1, w32 g, w32 (blockMemory b).2] s t ∧
          (s.mem.restore.length < 128 → smGet false s.mem.restoreFailed (g.val * groupBlocks + b) = false → (g.val, b) ∈ t.mem.restore)) ∧
        (x.phase = .damaged → s.mem.restore.length < 128 → smGet false s.mem.restoreFailed (g.val * groupBlocks + b) = false →
          (g.val, b) ∈ t.mem.restore)) ∧
    (∀ read : RestoreRead, s.mem.restore = [] ∨ repointerRuns s = false → exec (.tableRestore read) s = .next s) ∧
    (∀ (sev : HbmSeverity) (loc : HbmLoc) (b : Nat) (rest : List (Nat × Nat)), s.mem.restore = (g.val, b) :: rest → repointerRuns s = true → b < groupBlocks →
      ∃ t : State, exec (.tableRestore ⟨sev, loc⟩) s = .next t ∧ Only (reportZones ++ [.sram, .mem]) s t ∧
        RegsKept [(.memEvt, 0, 0), (.memRestoreCnt, 0, 0), (.memHbmCnt, 0, 0)] s t ∧ t.mem.restore = rest ∧
        (∀ code : BitVec 2, (tblock s g b).phase = .damaged → domOn s g = true → qaReachable s (archiveQa g + 8 * b) = true → sev = .corrected code →
          cell t .memHbmCnt = incSat (cell s .memHbmCnt) 15 0 1) ∧
        ((tblock s g b).phase ≠ .damaged ∨ domOn s g = false → t.sram = s.sram ∧ t.flt = s.flt) ∧
        ((tblock s g b).phase = .damaged → domOn s g = true → sev ≠ .uncorrectable → restorable s g b = true → s.mem.inject = none →
          (tblock t g b).phase = .good ∧
          (tblock t g b).data = BitVec.ofNat 64 (leNat (hbmRead s.hbm.bytes (archiveQa g + 8 * b) 8)) ∧
          Reported Src.memTableRestored g (blockCapture g b) s t ∧ Evented .memEvt 0 19 s t ∧
          cell t .memRestoreCnt = incSat (cell s .memRestoreCnt) 31 16 1) ∧
        ((tblock s g b).phase = .damaged → domOn s g = true → sev = .uncorrectable ∨ restorable s g b = false →
          t.sram = s.sram ∧ smGet false t.mem.restoreFailed (g.val * groupBlocks + b) = true ∧
          Reported Src.memRestoreFail g (blockCapture g b) s t ∧ Evented .memEvt 0 20 s t ∧
          cell t .memRestoreCnt = incSat (cell s .memRestoreCnt) 15 0 1))

/-- R324 to R327, R332 to R334: an error that a reader of SRAM or HBM meets is counted, and raised as its memory's rule says: a corrected one once per
memory and course, or granule and pass; the HBM scrub checks each written granule by its region, moves on, and ends its pass behind the last. A read
of a block that is EMPTY or DAMAGED is only recorded (R326). R339: an injection is armed by a write of its register while the block's enable bit is
set; a write without the enable, without ARM or of a copy that does not exist arms none. The model’s choices that it rests on: log entries 33, 34, 85,
87, 89, 142 and 169. -/
def Obligations.MemoryErrorsAreCaught : Prop :=
  (∀ (s : State) (master : Fin 14), isUp s = true → TablesRise s → MemoryWf s → NamesInRange s →
    (∀ (mem : Fin 11) (n blk : Nat), n < memCount mem → (∀ d : Nat, memDomain mem n = some d → domOn s d = true) →
      (mem.val = 0 → blk < ofsBlocks) → (mem.val = 1 → blk < 8192) →
      ((mem.val = 0 ∨ mem.val = 1 → (tblock s n (if mem.val = 0 then blk else ofsBlocks + blk)).phase = .good) →
        (2 ≤ mem.val → blk < memBlocks mem ∧ sramHeld s mem n blk = true ∧ (eccBlock s mem n blk).phase = .good) →
        (∀ syn : BitVec 16, ∃ t : State, exec (.sramReadError mem n blk (.corrected syn) master) s = .next t ∧ Only (reportZones ++ [.mem]) s t ∧
          RegsKept [(.memCntCorr, mem, 0)] s t ∧
          cell t .memCntCorr mem = incSat (cell s .memCntCorr mem) 31 0 1 ∧
          ((mem.val, n) ∉ s.mem.corrRaised → Reported Src.memSramCorr n [w32 mem, w32 n, w32 blk, w32 syn.toNat] s t ∧
            (mem.val, n) ∈ t.mem.corrRaised) ∧
          ((mem.val, n) ∈ s.mem.corrRaised → t.flt = s.flt)) ∧
        (∃ t : State, exec (.sramReadError mem n blk .uncorrectable master) s = .next t ∧
          cell t .memCntUncorr mem = incSat (cell s .memCntUncorr mem) 31 0 1 ∧
          (mem.val ≠ 2 → mem.val ≠ 3 → mem.val ≠ 8 → Reported Src.memSramUncorr n [w32 mem, w32 n, w32 blk] s t) ∧
          (mem.val = 0 ∨ mem.val = 1 → (tblock t n (if mem.val = 0 then blk else ofsBlocks + blk)).phase = .damaged) ∧
          (2 ≤ mem.val → (eccBlock t mem n blk).phase = .damaged) ∧
          (mem.val = 2 → ∀ c g page i : Nat, ringBlockAt s n blk = some (c, g, page, i) →
            Reported Src.crsMemUncorr n ([w32 n, w32 page, w32 i] ++ capCourse c ++ [w32 g]) s t) ∧
          (mem.val = 5 → ∀ h : HitItem, (engine s n).queue.find? (fun y => y.covers blk) = some h →
            (engine t n).queue = (engine s n).queue.erase h) ∧
          (mem.val = 9 → ∀ i : Nat, plbPlace s.plb blk = some i → t.plb.store = s.plb.store.modify i (fun r => { r with damaged := true })))) ∧
      (∀ (e : SramError) (b : Nat), e ≠ .stateParity →
        (mem.val = 0 ∨ mem.val = 1 → (tblock s n (if mem.val = 0 then blk else ofsBlocks + blk)).phase = (if b = 31 then .empty else .damaged)) →
        (2 ≤ mem.val → blk < memBlocks mem ∧ (gatedMemory mem = true → sramHeld s mem n blk = true)) →
        (2 ≤ mem.val → b = 31 → sramHeld s mem n blk = false ∧ eccWritten s mem n blk = false) →
        (2 ≤ mem.val → b = 30 → sramHeld s mem n blk = true ∧ (eccBlock s mem n blk).phase = .damaged) → b = 30 ∨ b = 31 →
        ∃ t : State, exec (.sramReadError mem n blk e master) s = .next t ∧ Only [.regs, .port0, .port1] s t ∧
          RegsKept [(.memLastRead, 0, 0), (.memLastAddr, 0, 0)] s t ∧ cell t .memLastAddr = w32 blk ∧ bit (cell t .memLastRead) b = true ∧
          fld (cell t .memLastRead) 29 24 = mem.val ∧ fld (cell t .memLastRead) 23 16 = n % 256 ∧
          fld (cell t .memLastRead) 15 0 = nextSqc (fld (cell s .memLastRead) 15 0)) ∧
      (mem.val = 0 → ∃ t : State, exec (.sramReadError mem n blk .stateParity master) s = .next t ∧
        ∀ i < 32, (tblock t n (blk / 32 * 32 + i)).phase = .damaged)) ∧
    (∀ (qa : BitVec 36) (loc : HbmLoc),
      exec (.hbmReadError qa .none loc master) s = .next s ∧
      (∀ code : BitVec 2, ∃ t : State, exec (.hbmReadError qa (.corrected code) loc master) s = .next t ∧ Only (reportZones ++ [.mem]) s t ∧ RegsKept [(.memHbmCnt, 0, 0)] s t ∧
        cell t .memHbmCnt = incSat (cell s .memHbmCnt) 15 0 1 ∧ smGet false t.mem.hbmCorr (qa.toNat / 4096) = true ∧
        (smGet false s.mem.hbmCorr (qa.toNat / 4096) = false → Reported Src.memHbmCorr (qaStack qa.toNat) (locCapture qa.toNat loc ++ [w32 code.toNat]) s t) ∧
        (smGet false s.mem.hbmCorr (qa.toNat / 4096) = true → t.flt = s.flt)) ∧
      (∃ t : State, exec (.hbmReadError qa .uncorrectable loc master) s = .next t ∧ Only reportZones s t ∧ RegsKept [(.memHbmCnt, 0, 0), (.memEvt, 0, 0)] s t ∧
        cell t .memHbmCnt = incSat (cell s .memHbmCnt) 31 16 1 ∧
        ((granuleKind (qa.toNat / 4096)).isQuarry = true → t.flt = s.flt) ∧
        ((granuleKind (qa.toNat / 4096)).isQuarry = false →
          Reported Src.memHbmUncorr (qaStack qa.toNat) (locCapture qa.toNat loc ++ cap64 qa.toNat) s t ∧ Evented .memEvt 0 18 s t))) ∧
    (∀ (sev : HbmSeverity) (burst : Fin 128) (loc : HbmLoc) (khz : BitVec 16),
      (repointerRuns s = false → exec (.hbmScrubGranule sev burst loc khz) s = .next s) ∧
      (repointerRuns s = true → nextGranule s (fld (cell s .memScrubPos) 23 0) = none →
        ∃ t : State, exec (.hbmScrubGranule sev burst loc khz) s = .next t ∧ Only (reportZones ++ [.mem]) s t ∧ cell t .memScrubPos = 0 ∧
          RegsKept [(.memScrubPos, 0, 0), (.memScrubStat, 0, 0), (.memEvt, 0, 0)] s t ∧
          t.mem.hbmCorr = [] ∧ t.mem.passStart = nowStamp s ∧ cell t .memScrubStat = incWrap (cell s .memScrubStat) 31 16) ∧
      (∀ n n' : Nat, repointerRuns s = true → nextGranule s (fld (cell s .memScrubPos) 23 0) = some n → nextGranule s (n + 1) = some n' →
        granuleKind n = .other →
        ∃ t : State, exec (.hbmScrubGranule sev burst loc khz) s = .next t ∧ Only (reportZones ++ [.mem]) s t ∧ cell t .memScrubPos = mkFld 23 0 (n + 1) ∧
          RegsKept [(.memScrubPos, 0, 0), (.memHbmCnt, 0, 0), (.memEvt, 0, 0)] s t ∧
          (sev = .none → t.flt = s.flt) ∧
          (∀ qa : Nat, qa = 4096 * n + 32 * burst → sev = .uncorrectable → cell t .memHbmCnt = incSat (cell s .memHbmCnt) 31 16 1 ∧
            Reported Src.memHbmUncorr (qaStack qa) (locCapture qa loc ++ cap64 qa) s t)) ∧
      (∀ n n' g k : Nat, repointerRuns s = true → nextGranule s (fld (cell s .memScrubPos) 23 0) = some n → nextGranule s (n + 1) = some n' →
        granuleKind n = .archive g k →
        ∃ t : State, exec (.hbmScrubGranule sev burst loc khz) s = .next t ∧
          (sev = .none → archiveCrcHolds s g k = true → t.hbm = s.hbm ∧ t.flt = s.flt) ∧
          (∀ qa : Nat, qa = 4096 * n + 32 * burst → sev = .uncorrectable ∨ archiveCrcHolds s g k = false →
            smGet false t.hbm.badMarks (g * 272 + k) = true ∧ Reported Src.memHbmUncorr (qaStack qa) (locCapture qa loc ++ cap64 qa) s t)) ∧
      (∀ n n' k : Nat, repointerRuns s = true → nextGranule s (fld (cell s .memScrubPos) 23 0) = some n → nextGranule s (n + 1) = some n' →
        granuleKind n = .stone k → ∃ t : State, exec (.hbmScrubGranule sev burst loc khz) s = .next t ∧
          (sev = .none → stoneGood s k = true → t.hbm = s.hbm ∧ t.flt = s.flt) ∧
          (∀ qa : Nat, qa = 4096 * k + (if sev = .uncorrectable then 32 * burst.val else 0) → sev = .uncorrectable ∨ stoneGood s k = false →
            Reported Src.qryStoneUncorr (qaStack qa) (locCapture qa loc ++ [w32 k]) s t)) ∧
      (∀ n n' slot : Nat, repointerRuns s = true → nextGranule s (fld (cell s .memScrubPos) 23 0) = some n → nextGranule s (n + 1) = some n' →
        granuleKind n = .index slot → sev = .none → (∀ c ∈ s.qry.left ++ s.qry.published, c < 2 ^ 56) →
        ∃ t : State, exec (.hbmScrubGranule sev burst loc khz) s = .next t ∧
          ((∀ c ∈ s.qry.left ++ s.qry.published, slot ≤ c % 2097152 → c % 2097152 < slot + 8 → (readIndex s c).isSome = true) → t.hbm = s.hbm ∧ t.flt = s.flt) ∧
          ∀ c ∈ s.qry.left ++ s.qry.published, slot ≤ c % 2097152 → c % 2097152 < slot + 8 → readIndex s c = none →
            Reported Src.qryIndexUncorr 0 (w32 (c % 2097152) :: capCourse c) s t))) ∧
  (∀ (p : Fin 2) (w : Word) (s : State), TablesRise s →
    (HostMay p .memInject 0 0 w s → ∃ t : State, exec (.memInjectArm p w) s = .next t ∧ Only [.regs, .mem] s t ∧
      (bit (cell s .memCtl) 0 = true → bit w 19 = true →
        t.mem = { s.mem with inject := some ⟨fld w 31 26, fld w 25 20, fld w 6 0, if bit w 18 then some (fld w 14 8) else none⟩ }) ∧
      (bit (cell s .memCtl) 0 = false ∨ bit w 19 = false → t.mem = s.mem)) ∧
    (HostMay p .btrInject 0 0 w s → ∃ t : State, exec (.btrInjectArm p w) s = .next t ∧ Only [.regs, .btr] s t ∧
      (bit (cell s .btrCtl) 0 = true → bit w 15 = true → fld w 7 6 < 3 →
        t.btr = { s.btr with inject := some ⟨fld w 31 16, fld w 7 6, fld w 5 0⟩ }) ∧
      (bit (cell s .btrCtl) 0 = false ∨ bit w 15 = false ∨ 3 ≤ fld w 7 6 → t.btr = s.btr)))

/-! ### Accepts and recalls -/

/-- R202 to R207: a message of the domain that is not active, or of a kind that is not enabled, is ignored and counted; a malformed one and a duplicate
are discarded and raised. An accept with the number expected, or the first, enters the table with the streams of its class and moves the expected
number; one that is ahead leaves a loss summary of the numbers missing; with the table full it is refused. A message that a check turns away enters with
gap records of that reason.
R186, R210 to R213, R220: the ring reader takes the records of an entry's window from the ring, and what the ring does not hold is asked of the quarry;
while no cell is free it waits, and a record that lacks a cell for what has been gathered waits; a recall asks for its courses in pieces of at most 16.
The model’s choices that it rests on: log entries 66, 69, 73 and 81. -/
def Obligations.AcceptsEnterTheTable : Prop :=
  (∀ (d : Fin 2) (body : List Byte) (s : State), isUp s = true → TablesRise s → NamesInRange s →
    (linkReceives s d = false → exec (.accept d body) s = .next s ∧ exec (.recallMessage d body) s = .next s) ∧
    (∀ (row : Instr) (b : Nat), (row, b) ∈ [(Instr.accept d body, 0), (.recallMessage d body, 1)] → linkReceives s d = true →
      (s.quo.active ≠ d ∨ bit (cell s .mrtAccCtl) b = false → ∃ t : State, exec row s = .next t ∧ Only [.regs] s t ∧
        cell t .mrtCntIgnored = incSat (cell s .mrtCntIgnored) 31 0 1) ∧
      (s.quo.active = d → bit (cell s .mrtAccCtl) b = true → parseAccept (b == 1) body = none →
        ∃ t : State, exec row s = .next t ∧ t.mrt.table = s.mrt.table ∧ cell t .mrtCntDisc = incSat (cell s .mrtCntDisc) 15 0 1 ∧
          Reported Src.mrtAccMalformed 0
            ([if b = 1 then 0x11 else 0x10, w32 body.length] ++ cap64 (bodyNat body 0 8 * 256 ^ (8 - min 8 body.length))) s t)) ∧
    (∀ (x : AccMsg) (off : Int) (reason : Nat), linkReceives s d = true → s.quo.active = d → off = (x.domainBt - activeOffset s).toInt →
      reason = gapReason s x off →
      (bit (cell s .mrtAccCtl) 0 = true → parseAccept false body = some x →
        (∀ e : Nat, expectedNumber s = some e → behind 48 x.number e = true → ∃ t : State, exec (.accept d body) s = .next t ∧ t.mrt.table = s.mrt.table ∧
          t.btr = s.btr ∧ Reported Src.mrtAccDup 0 (cap64 x.number ++ cap64 e) s t) ∧
        (∀ e : Nat, expectedNumber s = some e → behind 48 x.number e = false → x.number ≠ e → ∃ t : State, exec (.accept d body) s = .next t ∧
          expectedNumber t = some ((x.number + 1) % 2 ^ 48) ∧ t.mrt.lastMissing = some (e, (x.number + 2 ^ 48 - 1) % 2 ^ 48) ∧
          Reported Src.mrtAccLost 0 (cap64 e ++ cap64 ((x.number + 2 ^ 48 - 1) % 2 ^ 48)) s t) ∧
        ((expectedNumber s = none ∨ (expectedNumber s = some x.number ∧ behind 48 x.number x.number = false)) → ∃ t : State, exec (.accept d body) s = .next t ∧
          expectedNumber t = some ((x.number + 1) % 2 ^ 48) ∧
          (tableFull s = true → t.mrt.table = s.mrt.table ∧ t.mrt.refusal.isSome = true ∧
            cell t .mrtCntRefused = incSat (cell s .mrtCntRefused) 31 0 1) ∧
          (tableFull s = false → t.mrt.table = s.mrt.table ++ (if classStreams s x.cls = [] then [] else [messageEntry s x off reason]) ∧
            (reason = 0 → cell t .mrtCntAccept = incWrap (cell s .mrtCntAccept) 31 0 ∧ t.mrt.lastTrigger = some x.domainBt) ∧
            (reason ≠ 0 → cell t .mrtCntGap = incSat (cell s .mrtCntGap) 31 0 1 ∧
              ∀ r ∈ (messageEntry s x off reason).recs, r.phase = .gap reason)))) ∧
      (bit (cell s .mrtAccCtl) 1 = true → parseAccept true body = some x → tableFull s = false →
        ∃ t : State, exec (.recallMessage d body) s = .next t ∧
          (classStreams s x.cls ≠ [] → ∃ e : AccEntry, t.mrt.table = s.mrt.table ++ [e] ∧ e.kind = .recall ∧ e.number = x.number ∧ e.bt = off ∧
            e.length = x.length ∧ e.recs.map (·.stream) = classStreams s x.cls) ∧
          (reason = 0 → cell t .mrtCntRecall = incWrap (cell s .mrtCntRecall) 31 0)))) ∧
  (∀ (u : Fin 4) (s : State), isUp s = true → TablesRise s →
    (∀ (id : Nat) (e : AccEntry), entryById s id = some e →
      (∀ errs : List ExtractFault, extractable s e u = false → exec (.extractionDone u id errs) s = .next s) ∧
      (∀ errs : List ExtractFault, extractable s e u = true → freeCells s = 0 → unitNeed e.recs u ≠ 0 → ∃ t : State, exec (.extractionDone u id errs) s = .next t ∧
        Only [.mrt] s t ∧ ∀ e' ∈ t.mrt.table, e'.id = id → ∀ r ∈ e'.recs, r.unit = u.val → r.phase ≠ .building) ∧
      (extractable s e u = true → (0 < freeCells s ∨ unitNeed e.recs u = 0) → (∀ c ∈ e.courses, (closeRec s c).isSome = true) → (∀ m < 4, AsWritten 2 m s) →
        ∀ pairs : List (Nat × Nat), pairs = (e.courses.filterMap (fun c => closeRec s c)).flatMap
            (fun cr => (pairGroups cr (unitNeed e.recs u)).map (fun g => (cr.course, g))) →
        ∃ (t : State) (e' : AccEntry) (g' : Gather), exec (.extractionDone u id []) s = .next t ∧ entryById t id = some e' ∧ e'.gather u = some g' ∧ g'.extracted = true ∧
          g'.parts = (pairs.filter (fun x => ringHolds s x.1 x.2)).map (fun x => ⟨x.1, x.2, .ring ((List.range ((e.bucketSpan x.1).2 + 1 - (e.bucketSpan x.1).1)).flatMap
            (fun b => bucket s x.1 x.2 ((e.bucketSpan x.1).1 + b)))⟩) ∧
          g'.fromQuarry = pairs.filter (fun x => !ringHolds s x.1 x.2) ∧
          ((e.recs.map (·.stream)).Nodup → ∀ r' ∈ e'.recs, r'.unit = u.val → r'.phase = .building →
            min r'.maxCells ((8 * gatheredWords e' g' r'.mask + 255) / 256) ≤ r'.cells.length) ∧
          ((∀ x ∈ pairs, ringHolds s x.1 x.2 = true) → g'.latePath = false ∧ t.qry = s.qry) ∧
          (∀ x ∈ pairs, ringHolds s x.1 x.2 = false → g'.latePath = true ∧ Evented .mrtUnitEvt u 17 s t ∧
            ∃ r : QReq, t.qry.reads = s.qry.reads ++ [r] ∧ r.owner = id ∧ r.unit = u.val ∧ x.1 ∈ r.courses))) ∧
    (∀ due : Option AccEntry, due = s.mrt.table.find? (fun e => e.kind == .recall && (match e.gather u with | some g => !g.toSubmit.isEmpty | none => false) &&
        !s.qry.reads.any (fun r => !r.job && r.owner == e.id && r.unit == u.val)) →
      (due = none → exec (.recallPieceSubmit u) s = .next s) ∧
      (∀ (e : AccEntry) (g : Gather), due = some e → entryById s e.id = some e → e.gather u = some g →
        ∃ (t : State) (r : QReq) (e' : AccEntry) (g' : Gather), exec (.recallPieceSubmit u) s = .next t ∧ Only [.qry, .mrt] s t ∧ t.qry.reads = s.qry.reads ++ [r] ∧ r.owner = e.id ∧
          r.unit = u.val ∧ r.courses = g.toSubmit.take 16 ∧ r.partners = unitNeed e.recs u ∧
          entryById t e.id = some e' ∧ e'.gather u = some g' ∧ g'.toSubmit = g.toSubmit.drop 16)))

/-- R217, R219 to R221: a record whose data is all gathered is formed and takes the cells that it lacks, or those that are free and waits for the rest; a
waiting one takes them when they are free, or goes on in build once what it holds suffices for what has been gathered, and a list head that has waited its
time is ended at what it holds and what is free. A fragment that is cut carries every condition of its partners (R287, R299). An uncorrectable error in a cell of a record makes it a gap record, or spoils the CRC of one that has been released.
The model’s choices that it rests on: log entries 43, 66 and 67. -/
def Obligations.FragmentsTakeCells : Prop :=
  ∀ (k : Fin 48) (id : Nat) (s : State) (e : AccEntry) (r : StreamRec), isUp s = true → TablesRise s → entryById s id = some e →
    (∀ (g : Gather) (f : List DWord × Option Nat) (n : Nat), e.recs.find? (fun x => x.stream == k.val && x.phase == .building) = some r →
      e.gather r.unit = some g → f = formFragment s e g r.mask r.maxCells → n = cellsOf (f.1.length + 3) →
      (gathered s e g = false → exec (.fragmentComplete k id) s = .next s) ∧
      (gathered s e g = true → ∃ (t : State) (e' : AccEntry) (r' : StreamRec), exec (.fragmentComplete k id) s = .next t ∧ entryById t id = some e' ∧ r' ∈ e'.recs ∧ r'.stream = k ∧
        (n ≤ r.cells.length + freeCells s → r'.phase = .complete ∧ r'.body = f.1 ∧ r'.cells = r.cells.take n ++ nextCells s (n - r.cells.length) ∧
          ∀ b : Nat, f.2 = some b → Reported Src.mrtTrunc k (w32 k :: cap64 (e.number % 2 ^ 48) ++ [w32 1] ++ cap64 b) s t) ∧
        (r.cells.length + freeCells s < n → r'.phase = .waiting (nowCourse s) ∧ r'.cells = r.cells ++ nextCells s (freeCells s)))) ∧
    (∀ (g : Gather) (f : List DWord × Option Nat) (n : Nat), e.recs.find? (fun x => x.stream == k.val && x.isWaiting) = some r → e.gather r.unit = some g →
      f = formFragment s e g r.mask r.maxCells → n = cellsOf (f.1.length + 3) →
      (gathered s e g = false → freeCells s = 0 → exec (.cellWait k id) s = .next s) ∧
      (gathered s e g = true ∨ 0 < freeCells s →
        ∃ (t : State) (e' : AccEntry) (r' : StreamRec), exec (.cellWait k id) s = .next t ∧ entryById t id = some e' ∧ r' ∈ e'.recs ∧ r'.stream = k ∧
        (∀ need : Nat, gathered s e g = false → (e.recs.map (·.stream)).Nodup → need = min r.maxCells ((8 * gatheredWords e g r.mask + 255) / 256) →
          r.cells <+: r'.cells ∧ r'.phase = (if need ≤ r'.cells.length then .building else r.phase) ∧
          ((∀ y ∈ e.recs, y.unit = r.unit → y.inBuild = true → y = r) → r'.cells = growCells s r.cells need)) ∧
        (gathered s e g = true → n ≤ r.cells.length + freeCells s → r'.phase = .complete ∧ r'.body = f.1 ∧ r'.cells = r.cells.take n ++ nextCells s (n - r.cells.length)) ∧
        (gathered s e g = true → r.cells.length + freeCells s < n → r'.phase = r.phase ∧ r'.cells = r.cells ++ nextCells s (freeCells s)))) ∧
    (∀ (g : Gather) (limit b : Nat), (formFragment s e g r.mask limit).2 = some b → (formFragment s e g r.mask limit).1 =
      cutBody s e g r.mask ((maskPartners r.mask).map (fun p => (p, partnerConds s e g p))) (openFrom s e g).isSome (fragRecords e g r.mask) b) ∧
    (waitedHead s k = none → exec (.headWaitExpiry k) s = .next s) ∧
    (∀ (g : Gather) (f : List DWord × Option Nat) (n : Nat), waitedHead s k = some (e, r) → e.id = id → e.gather r.unit = some g →
      f = formFragment s e g r.mask (min r.maxCells (r.cells.length + freeCells s)) → n = cellsOf (f.1.length + 3) →
      ∃ (t : State) (e' : AccEntry) (r' : StreamRec), exec (.headWaitExpiry k) s = .next t ∧ entryById t id = some e' ∧ r' ∈ e'.recs ∧ r'.stream = k ∧ r'.phase = .complete ∧
        r'.body = f.1 ∧ r'.cells = r.cells.take n ++ nextCells s (min (n - r.cells.length) (freeCells s)) ∧
        ∀ b : Nat, f.2 = some b → Reported Src.mrtTrunc r.stream (w32 r.stream :: cap64 (e.number % 2 ^ 48) ++ [w32 2] ++ cap64 b) s t) ∧
    (∀ (u : Fin 4) (c : BitVec 16),
      (e.onStream k = some r → r.isOpen = true → c.toNat ∈ r.cells → ∃ (t : State) (e' : AccEntry) (r' : StreamRec), exec (.mrtCellUncorr u c k id false) s = .next t ∧
        entryById t id = some e' ∧ r' ∈ e'.recs ∧ r'.stream = k ∧ r'.phase = .gap 9 ∧ r'.cells = [] ∧
        cell t .memCntUncorr 3 = incSat (cell s .memCntUncorr 3) 31 0 1 ∧ Reported Src.mrtCellUncorr u [w32 u, w32 c.toNat, w32 k, 0] s t) ∧
      (∀ o ∈ (stream s k).out, c.toNat ∈ o.cells → ∃ t : State, exec (.mrtCellUncorr u c k o.seq true) s = .next t ∧
        (∀ q ∈ (stream t k).out, q.seq = o.seq → c.toNat ∈ q.cells → q.badCrc = true) ∧ { o with badCrc := true } ∈ (stream t k).out ∧
        Reported Src.mrtCellUncorr u [w32 u, w32 c.toNat, w32 k, 1] s t ∧ Evented .mrtUnitEvt u 19 s t))

/-- R204, R217, R218, R222, R227, R228: the next record of a stream is released with the next sequence number when the stream's balance covers it, and
leaves the table; else nothing happens. A block that starts advances CONSUMED of each uplink that carries it by its credits (R263, R264). A flush
closes every record of its stream that is still open, a unit that goes out of service makes its open records gap records with reason 5, and a
resynchronisation forgets the expected number. The model’s choices that it rests on: log entries 44 and 75. -/
def Obligations.RecordsAreReleased : Prop :=
  ∀ s : State, isUp s = true → TablesRise s →
    (∀ (k : Fin 48) (khz : BitVec 16),
      (nextRelease s k = none → exec (.recordRelease k khz) s = .next s) ∧
      ∀ (e : AccEntry) (r : StreamRec), nextRelease s k = some (e, r) →
        AsWritten 6 0 s → (dpStopped s = true ∨ releaseCovered s k r = false → exec (.recordRelease k khz) s = .next s) ∧
        (dpStopped s = false → releaseCovered s k r = true →
          ∃ (t : State) (o : OutRec), exec (.recordRelease k khz) s = .next t ∧ (stream t k).nextSeq = (stream s k).nextSeq + 1 ∧ o.seq = (stream s k).nextSeq ∧
            ((stream s k).block ≠ none ∨ (stream t k).block = none → t.uplinks = s.uplinks) ∧
            (∀ b : TxBlock, (stream s k).block = none → (stream t k).block = some b → ∀ u : Nat,
              (uplink t u).consumed = (uplink s u).consumed + BitVec.ofNat 32 (b.carriers.count u * b.out.credits)) ∧
            (r.phase = .complete → o.kind = (if e.kind = .recall then 2 else 1) ∧ o.credits = r.credits ∧ o.cells = r.cells) ∧
            (∀ reason : Nat, r.phase = .gap reason → o.kind = 3 ∧ o.credits = 1) ∧ (r.phase = .flushed → o.kind = 4 ∧ o.credits = 1) ∧
            (stream t k).out.getLast?.or ((stream t k).block.map (·.out)) = some o ∧
            (s.mrt.refusal = none → ∀ e' ∈ t.mrt.table, e'.id = e.id → ∀ r' ∈ e'.recs, r'.stream ≠ k.val))) ∧
    (∀ (p : Fin 2) (k : Fin 48), HostMay p .mrtStreamCtl k 0 1 s → ∃ t : State, exec (.flush p k) s = .next t ∧
      (∀ e ∈ t.mrt.table, ∀ r ∈ e.recs, r.stream = k.val → r.isOpen = false) ∧
      (∀ e ∈ s.mrt.table, ∀ r ∈ e.recs, r.stream = k.val → r.isOpen = true → ∃ e' ∈ t.mrt.table, e'.id = e.id ∧
        ⟨r.stream, r.unit, r.mask, r.maxCells, .flushed, [], []⟩ ∈ e'.recs)) ∧
    (∀ (p : Fin 2) (w : Word), HostMay p .mrtAccCtl 0 0 (w ||| 8) s → ∃ t : State, exec (.resync p w) s = .next t ∧ expectedNumber t = none ∧
      t.mrt.table = s.mrt.table) ∧
    (∀ u : Fin 4, ∃ t : State, exec (.mrtUnitOut u) s = .next t ∧
      (unitIn s u = true → u.val ∈ t.mrt.unitsIn ∧ t.mrt.table = s.mrt.table) ∧
      (unitIn s u = false → u.val ∉ s.mrt.unitsIn → t.mrt.table = s.mrt.table) ∧
      (unitIn s u = false → u.val ∈ s.mrt.unitsIn → u.val ∉ t.mrt.unitsIn ∧ (∀ e ∈ t.mrt.table, ∀ r ∈ e.recs, r.unit = u.val → r.isOpen = false) ∧
        (∀ e ∈ s.mrt.table, ∀ r ∈ e.recs, r.unit = u.val → r.isOpen = true → ∃ e' ∈ t.mrt.table, e'.id = e.id ∧
          ⟨r.stream, r.unit, r.mask, r.maxCells, .gap 5, [], []⟩ ∈ e'.recs) ∧
        Reported Src.mrtUnitOut u ([w32 u, causeWord s [71 + u] [.mortar u]] ++ capCourse (nowCourse s)) s t))

/-! ### The Lintel -/

/-- R235, R236, R240 to R244, R246, R247, R249, R251 to R253: the oldest arrival group closes once its time has come: its frame is formed, with the pairs
that fire, the group counts and the flags, and counted; a pipeline error and a block of the history that is not delivered are raised. The oldest
formed frame leaves every lane that sends; while the data plane is stopped, or its bank has fallen away, it is skipped and counted, and the run of
skips is raised at its end. The model’s choices that it rests on: log entries 49, 50, 52, 54, 170 and 206. -/
def Obligations.LintelFrames : Prop :=
  ∀ s : State, isUp s = true → TablesRise s →
    (∀ (err : Option Nat) (a : Nat), a = s.lnt.nextClose →
      (s.lnt.phase ≠ .running ∨ nowAbs s < closeMoment s a → exec (.lintelGroupClose err) s = .next s) ∧
      (s.lnt.phase = .running → closeMoment s a ≤ nowAbs s → ∀ (tb : LntTables) (g : LntGroup) (past : List LntRec), tb = tablesFor s a → g = smGet .blank s.lnt.groups a →
        past = (s.lnt.groups.filter (fun e => decide (e.1 < a) && decide (a ≤ e.1 + 7))).flatMap (fun e => e.2.recs) →
        ∃ (t : State) (f : LntFrame), exec (.lintelGroupClose err) s = .next t ∧ Only (reportZones ++ [.mem, .lnt]) s t ∧
          (AsWritten 8 0 s → t.mem = s.mem ∧
            RegsKept [(.lntCntFrames, 0, 0), (.lntEvt, 0, 0), (.lntPlossHi, 0, 0), (.lntPlossLo, 0, 0)] s t ∧ (err = none → t.flt = s.flt)) ∧
          (∀ b < 65536, historyHolds s a b = true → (eccBlock s 8 0 b).phase = .damaged →
            Reported Src.lntPipeErr 0 (Config.historyStage :: cap64 a) s t ∧ bit (cell t .lntEvt) 21 = true) ∧ t.lnt.nextClose = a + 1 ∧
          t.lnt.formed = s.lnt.formed ++ [f] ∧ f.bt = a ∧ f.words.length = 4 ∧ cell t .lntCntFrames = incWrap (cell s .lntCntFrames) 31 0 ∧
          (∀ k < 32, (f.words.getD 1 0).getLsbD (32 + k) = pairFires tb k (pairCount tb k past g.recs)) ∧
          dfld (f.words.getD 0 0) 31 0 = (toDomainBt s a).toNat % 2 ^ 32 ∧
          (∀ j < 8, dfld (f.words.getD 2 0) (63 - 8 * j) (56 - 8 * j) = groupCount tb j g.recs) ∧
          (f.words.getD 0 0).getLsbD 37 = g.recs.any (·.uncal) ∧ (f.words.getD 0 0).getLsbD 36 = decide (0 < g.dropped) ∧
          (f.words.getD 0 0).getLsbD 35 = g.sat ∧ (f.words.getD 0 0).getLsbD 34 = s.lnt.lateTap ∧
          (f.words.getD 0 0).getLsbD 40 = decide (a < s.lnt.startUntil) ∧
          (f.words.getD 0 0).getLsbD 33 = (((s.lnt.losses.find? (fun e => e.1 == a)).map (·.2)).getD 0 != 0) ∧
          (∀ st : Nat, err = some st → Reported Src.lntPipeErr 0 (w32 st :: cap64 a) s t ∧ bit (cell t .lntEvt) 21 = true ∧
            (AsWritten 8 0 s → Evented .lntEvt 0 21 s t)))) ∧
    (s.lnt.formed = [] → exec .lintelFrameSend s = .next s) ∧
    (∀ (f : LntFrame) (rest : List LntFrame) (skip : Bool), s.lnt.formed = f :: rest →
      skip = (dpStopped s || (match s.lnt.fallSkip with | some (a, b) => decide (a ≤ f.bt) && decide (f.bt ≤ b) | none => false)) →
      ∃ t : State, exec .lintelFrameSend s = .next t ∧ Only (reportZones ++ [.lnt]) s t ∧ t.lnt.formed = rest ∧
        (skip = true → t.lnt.sent = s.lnt.sent ∧ cell t .lntCntSkip = incSat (cell s .lntCntSkip) 31 0 1 ∧ Evented .lntEvt 0 19 s t ∧
          RegsKept [(.lntCntSkip, 0, 0), (.lntEvt, 0, 0)] s t) ∧
        (skip = false → t.regs = s.regs ∧
          (s.lnt.phase = .running → bit (cell s .lntCtl) 0 = true → t.lnt.sent = some { f with lanes := sendingLanes s }) ∧
          (s.lnt.phase ≠ .running ∨ bit (cell s .lntCtl) 0 = false → t.lnt.sent = s.lnt.sent) ∧
          ∀ (a b : Nat) (stop : Bool), s.lnt.skipRun = some (a, b, stop) → t.lnt.skipRun = none ∧
            Reported Src.lntFrameSkip 0 (cap64 a ++ cap64 b ++ [Config.skipCause stop.toNat]) s t))

/-! ### Uplinks and return lanes -/

/-- R259, R261 to R263: a good CREDIT moves an ACTIVE uplink's grant, one that lies behind is refused and counted; an INIT starts an IDLE uplink and
resets an ACTIVE one, at once or at its block boundary, its CONSUMED from 0 on; a bad message is discarded, counted, and raised once per course. A
lane without synchronisation takes none. Gain and loss of synchronisation, code errors and init requests are recorded as they come. The model’s
choices that it rests on: log entries 44 and 78. -/
def Obligations.CreditsMoveGrants : Prop :=
  ∀ (r : Fin 16) (s : State), isUp s = true → TablesRise s →
    (∀ m : BitVec 64, retAble s r = false ∨ (retLane s r).sync = false →
      exec (.credit r m) s = .next s ∧ exec (.init r m) s = .next s ∧ exec (.uplCreditBad r m) s = .next s) ∧
    (∀ (m : BitVec 64) (u : Nat) (g : BitVec 32), retAble s r = true → (retLane s r).sync = true → creditGood m = true → u = 4 * r.val + dfld m 57 56 →
      g = BitVec.ofNat 32 (dfld m 55 24) →
      (dfld m 63 60 = 1 →
        ((uplink s u).phase ≠ .active ∨ (uplLintelLane s u).isSome = true → exec (.credit r m) s = .next s) ∧
        ((uplink s u).phase = .active → uplLintelLane s u = none →
          ∃ t : State, exec (.credit r m) s = .next t ∧ (uplink t u).phase = .active ∧
            (behind 32 g.toNat (uplink s u).granted.toNat = false → behind 32 g.toNat (uplink s u).consumed.toNat = false → (uplink t u).granted = g) ∧
            (behind 32 g.toNat (uplink s u).granted.toNat = true ∨ behind 32 g.toNat (uplink s u).consumed.toNat = true →
              t.uplinks = s.uplinks ∧ Evented .uplRlEvt r 18 s t ∧ cell t .uplRlErr r = incSat (cell s .uplRlErr r) 7 0 1))) ∧
      (dfld m 63 60 = 2 →
        ((uplink s u).phase = .down ∨ (uplLintelLane s u).isSome = true → exec (.init r m) s = .next s) ∧
        ((uplink s u).phase ≠ .down → uplLintelLane s u = none →
          ∃ t : State, exec (.init r m) s = .next t ∧ (uplink t u).phase = .active ∧ cell t .uplLinkCnt u = incSat (cell s .uplLinkCnt u) 31 16 1 ∧
            ((uplink s u).phase = .idle → (uplink t u).granted = g ∧ Evented .uplLinkEvt u 16 s t) ∧
            ((uplink s u).phase = .active → (blockOn s u).isSome = true → (uplink t u).initWait = some g ∧ (uplink t u).granted = (uplink s u).granted) ∧
            ((uplink s u).phase = .active → blockOn s u = none → (uplink t u).granted = g) ∧
            (blockOn s u = none → (blockOn t u = none → (uplink t u).consumed = 0) ∧
              ∀ (k : Nat) (b : TxBlock), blockOn t u = some k → (stream t k).block = some b →
                (uplink t u).consumed = BitVec.ofNat 32 (b.carriers.count u * b.out.credits))))) ∧
    (∀ m : BitVec 64, retAble s r = true → (retLane s r).sync = true →
      ∃ t : State, exec (.uplCreditBad r m) s = .next t ∧ Only (reportZones ++ [.retLanes]) s t ∧ RegsKept [(.uplRlErr, r, 0), (.uplRlEvt, r, 0)] s t ∧ Evented .uplRlEvt r 18 s t ∧
        cell t .uplRlErr r = incSat (cell s .uplRlErr r) 15 8 1 ∧ (retLane t r).badRaised = true ∧
        ((retLane s r).badRaised = false → Reported Src.uplCreditBad r (w32 r :: cap64 m.toNat ++ capCourse (nowCourse s)) s t) ∧
        ((retLane s r).badRaised = true → t.flt = s.flt)) ∧
    (∃ t : State, exec (.rlSyncGained r) s = .next t ∧ Only [.regs, .port0, .port1, .retLanes] s t ∧ RegsKept [(.uplRlEvt, r, 0)] s t ∧
      (retAble s r = true → (retLane s r).sync = false → (retLane t r).sync = true ∧ Evented .uplRlEvt r 16 s t) ∧
      (retAble s r = false ∨ (retLane s r).sync = true → t = s)) ∧
    (∃ t : State, exec (.rlSyncLost r) s = .next t ∧ Only (reportZones ++ [.retLanes]) s t ∧ RegsKept [(.uplRlEvt, r, 0)] s t ∧ ((retLane s r).sync = false → t = s) ∧
      ((retLane s r).sync = true → (retLane t r).sync = false ∧ Evented .uplRlEvt r 17 s t ∧ Reported Src.uplRlLost r [w32 r] s t)) ∧
    (∃ t : State, exec (.rlCodeError r) s = .next t ∧ Only [.regs] s t ∧ RegsKept [(.uplRlErr, r, 0)] s t ∧
      cell t .uplRlErr r = (if retAble s r = true then incSat (cell s .uplRlErr r) 31 16 1 else cell s .uplRlErr r)) ∧
    (∀ u : Fin 64, ∃ t : State, exec (.initRequestSend u) s = .next t ∧ Only [.uplinks] s t ∧
      uplink t u = (if (uplink s u).phase = .idle ∧ dpStopped s = false then { uplink s u with requests := (uplink s u).requests + 1 } else uplink s u))

/-- R221, R223, R257, R264 to R266, R278, R285: a block that has left whole is shown with its carriers, spoiled where its record or one of its cells is, and
stays until its last carrier is done; an INIT that waited then takes effect, and the next block that starts advances CONSUMED. A PLL that unlocks takes its group's uplinks DOWN, raised, and they return to
IDLE when it locks, which it does only with its reference; ENABLE does the same for one uplink. A DOWN uplink shows no role. A reference that is lost is
noted once.
The model’s choices that it rests on: log entries 44, 63 and 121. -/
def Obligations.UplinksFollow : Prop :=
  ∀ s : State, isUp s = true → TablesRise s →
    (∀ u : Fin 64, (blockOn s u = none → exec (.recordBlockSent u) s = .next s) ∧
      ∀ (k : Nat) (b : TxBlock) (left : List Nat), blockOn s u = some k → (stream s k).block = some b → left = b.carriers.filter (fun v => !(v == u.val)) →
        (∀ m < 4, AsWritten 3 m s) →
        ∃ t : State, exec (.recordBlockSent u) s = .next t ∧
          (stream t k).sent.map (·.1) = some (if b.out.badCrc then invertCrc b.out.words else b.out.words) ∧
          (left ≠ [] → (stream t k).block = some { b with carriers := left, whole := true } ∧ (stream t k).out = (stream s k).out) ∧
          (left = [] → (stream s k).out = [] → (stream s k).summary = none → (stream s k).beacon = none → (stream t k).block = none) ∧
          (∀ g : BitVec 32, (uplink s u).initWait = some g → (uplink t u).granted = g ∧ (uplink t u).initWait = none) ∧
          (∀ base : BitVec 32, base = (if (uplink s u).initWait.isSome then 0 else (uplink s u).consumed) →
            (∀ (k' : Nat) (b' : TxBlock), k' ≠ k → (stream s k').block = some b' → u.val ∉ b'.carriers) →
            (blockOn t u = none → (uplink t u).consumed = base) ∧
            ∀ (k' : Nat) (b' : TxBlock), blockOn t u = some k' → (stream t k').block = some b' →
              (uplink t u).consumed = base + BitVec.ofNat 32 (b'.carriers.count u.val * b'.out.credits))) ∧
    (∀ h : Fin 8,
      ((uplGroup s h).pll = false → exec (.uplPllUnlock h) s = .next s) ∧
      ((uplGroup s h).pll = true → ∃ t : State, exec (.uplPllUnlock h) s = .next t ∧ (uplGroup t h).pll = false ∧
        Reported Src.uplPllUnlock h [w32 h] s t ∧ ∀ k < 8, (uplink t (8 * h.val + k)).phase = .down ∧
          bit (cell t .uplLinkEvt (8 * h.val + k)) 19 = true) ∧
      (domOn s (40 + h.val) = false ∨ s.quo.xoGone = true → exec (.uplPllLock h) s = .next s) ∧
      (domOn s (40 + h.val) = true → s.quo.xoGone = false → isIsolated s (.uplinkGroup h) = false →
        ∃ t : State, exec (.uplPllLock h) s = .next t ∧ (uplGroup t h).pll = true ∧ ∀ k < 8, bit (cell s .uplLinkCfg (8 * h.val + k)) 0 = true →
          (uplink s (8 * h.val + k)).phase = .down →
          (uplink t (8 * h.val + k)).phase = (if (uplLintelLane s (8 * h.val + k)).isSome then .active else .idle)) ∧
      (∃ t : State, exec (.uplRefHold h) s = .next t ∧ Only (reportZones ++ [.quo, .uplGroups]) s t ∧ t.quo = { s.quo with xoGone := true } ∧
        RegsKept ((List.range 8).map fun k => (Reg.uplLinkEvt, 8 * h.val + k, 0)) s t ∧
        (domOn s (40 + h.val) = true → (uplGroup s h).pll = true → (uplGroup s h).refHold = false →
          (uplGroup t h).refHold = true ∧ Reported Src.uplRefHold h [w32 h] s t ∧ ∀ k < 8, Evented .uplLinkEvt (8 * h.val + k) 20 s t) ∧
        (domOn s (40 + h.val) = false ∨ (uplGroup s h).pll = false ∨ (uplGroup s h).refHold = true → t.uplGroups = s.uplGroups ∧ t.flt = s.flt ∧ t.regs = s.regs))) ∧
    (∀ u : Fin 64, (uplink s u).phase = .down → fld (uplLinkStatRead s u) 17 16 = 0 ∧ fld (uplLinkStatRead s u) 23 18 = 0 ∧ fld (uplLinkStatRead s u) 1 0 = 0) ∧
    (∀ (p : Fin 2) (u : Fin 64) (w : Word), HostMay p .uplLinkCfg u 0 w s →
      ∃ t : State, exec (.uplLinkEnableWrite p u w) s = .next t ∧
        (bit w 0 = false → (uplink t u).phase = .down ∧
          ((uplink s u).phase = .active → (linkRole s u).1 ≠ 0 → domOn s (40 + u.val / 8) = true →
            Reported Src.uplLinkDown u [w32 u, w32 (linkRole s u).2, w32 (linkRole s u).1, w32 2] s t)) ∧
        (bit w 0 = true → domOn s (40 + u.val / 8) = true → isIsolated s (.uplinkGroup (u.val / 8)) = false → (uplGroup s (u.val / 8)).pll = true →
          ((uplink s u).phase = .down → (uplink t u).phase = (if (uplLintelLane s u).isSome then .active else .idle)) ∧
          ((uplink s u).phase = .active → (uplink t u).phase = .active)))

/-! ### The Gauge -/

/-- R388, R392 to R397, R400, R401, R403: a conversion that ends publishes its result: the positive clamp with OPEN, 0 with NODATA, or the calibrated code
of the input over the reference, 2.500 V or for BRIDGE_SENSE the excitation of its partner (R395); its other flags, its time and its course; the first
OVR after a result without is raised. A multiplexer steps to the next channel of its scan list, in rising order and around, whose first result carries
SETTLE. An integration starts with the factors and the configuration of that moment, and a change of source or mode that waits on one of its
converter's channels, or on the one whose source such a channel senses, comes into force; with ALIGN the first one waits for the whole second. A
conversion carries what blanking and what open input it met while it ran. A burnout check that is due sets or clears OPEN. The model’s choices that it
rests on: log entries 91, 96, 194 and 195. -/
def Obligations.GaugeConverts : Prop :=
  ∀ (k : Fin 21) (s : State), isUp s = true → TablesRise s →
    (∀ rd : GauReading,
      ((gauConv s k).run = none → exec (.conversionEnd k rd) s = .next s) ∧
      (∀ (x : GauRun) (full un : Nat) (sg : Bool), (gauConv s k).run = some x → x.channel ∈ convChans k → full = periodCycles x.nplc x.mains →
        un = (if x.blankEn = true ∧ x.wasBlank = true then (if x.wasClear = true then min full rd.unblanked else 0) else full) →
        sg = chSigned x.channel x.cfg → ∀ (opened : Bool) (v : Nat), opened = (x.wasOpen || resultOpen s x.channel) →
        v = (if x.channel < 64 ∧ cfgMode x.cfg = 4 then rd.excitation else 5 * 2 ^ 47) →
        ∃ (t : State) (w : Word), exec (.conversionEnd k rd) s = .next t ∧ Only (reportZones ++ [.gau]) s t ∧ w = cell t .gauRes x.channel ∧
          (opened = true → fld w 31 8 = openCode sg ∧ bit w 6 = false ∧ bit w 5 = true) ∧
          (opened = false → bit w 5 = false) ∧
          (opened = false → 10 * un < full → fld w 31 8 = 0 ∧ bit w 6 = false ∧ bit w 4 = true ∧ bit w 1 = true) ∧
          (opened = false → full ≤ 10 * un → bit w 1 = false ∧
            ∃ raw : Int, (v ≠ 0 → raw = divRound (2 ^ 24 * rd.input * (gainOf (chGain x.channel x.cfg) : Nat) * (full : Nat)) (v * un)) ∧
              (fld w 31 8, bit w 6) = codeOf sg (divRound ((raw - x.offset) * (x.gain : Nat)) (2 ^ 30)) rd.saturated) ∧
          bit w 7 = decide (0 < (gauChan s x.channel).settleLeft) ∧ bit w 4 = decide (full < 10 * (full - un)) ∧ bit w 3 = !x.valid ∧
          bit w 2 = (s.quo.worst == 2) ∧ bit w 0 = !s.quo.xoOk ∧
          (gauChan t x.channel).count = ((gauChan s x.channel).count + 1) % 256 ∧ (gauChan t x.channel).time = nowTime s ∧
          (gauChan t x.channel).course = nowCourse s ∧ (gauChan t x.channel).settleLeft = (gauChan s x.channel).settleLeft - 1 ∧
          (gauChan t x.channel).clean = (if bit w 7 = true then (gauChan s x.channel).clean else some (w, nowTime s)) ∧
          gauConv t k = { gauConv s k with run := none, visit := (gauConv s k).visit + 1, longStep := bit w 6 || bit w 5 } ∧
          (bit w 6 = true → (gauChan s x.channel).lastOvr = false →
            Reported Src.gauOverrange x.channel [w32 x.channel, w32 (fld w 31 8)] s t ∧ Evented .gauEvt 0 16 s t) ∧
          (bit w 6 = false ∨ (gauChan s x.channel).lastOvr = true → t.flt = s.flt ∧ cell t .gauEvt = cell s .gauEvt) ∧
          (∀ (r : Reg) (i j : Nat), regOff r i j ≠ regOff .gauRes x.channel → regOff r i j ≠ regOff .gauEvt → cell t r i j = cell s r i j) ∧
          (∀ c : Nat, c ≠ x.channel → gauChan t c = gauChan s c) ∧ ∀ k' : Nat, k' ≠ k.val → gauConv t k' = gauConv s k')) ∧
    (k.val < 16 ∨ conversionsOn s k = false ∨ (gauConv s k).run ≠ none ∨ stepDue s k = false → exec (.multiplexerStep k) s = .next s) ∧
    (16 ≤ k.val → conversionsOn s k = true → (gauConv s k).run = none → stepDue s k = true →
      ∃ (t : State) (n : Option Nat), exec (.multiplexerStep k) s = .next t ∧ Only [.gau] s t ∧
        gauConv t k = { gauConv s k with connected := n, visit := 0, longStep := false } ∧
        (n = none → (∀ d ∈ convChans k, inScan s d = false) ∧ ∀ c : Nat, gauChan t c = gauChan s c) ∧
        (∀ c : Nat, n = some c → c ∈ convChans k ∧ inScan s c = true ∧
          (∀ d ∈ convChans k, inScan s d = true → (d < c → ∃ a : Nat, (gauConv s k).connected = some a ∧ d ≤ a ∧ a < c) ∧
            ∀ a : Nat, (gauConv s k).connected = some a → c ≤ a → d ≤ a) ∧
          gauChan t c = { gauChan s c with settleLeft := max 1 (gauChan s c).settleLeft } ∧ ∀ c' : Nat, c' ≠ c → gauChan t c' = gauChan s c') ∧
        ∀ k' : Nat, k' ≠ k.val → gauConv t k' = gauConv s k') ∧
    ((gauConv s k).fresh = true ∧ bit (cell s .gauCtl) 3 = true ∨ startChan s k = none → exec (.integrationStart k) s = .next s) ∧
    (∀ (c g : Nat) (per : Nat × Bool), (gauConv s k).fresh = false ∨ bit (cell s .gauCtl) 3 = false → startChan s k = some c → c ∈ convChans k → g = chGain c (chCfg s c) →
      per = (fld (cell s .gauConvCfg k) 1 0, bit (cell s .gauCtl) 2) →
      ∃ (t : State) (x : GauRun), exec (.integrationStart k) s = .next t ∧ Only [.gau] s t ∧ (gauConv t k).connected = some c ∧ (gauConv t k).run = some x ∧
        (gauConv t k).fresh = false ∧ (gauConv t k).settleAll = false ∧ (gauConv t k).lastPeriod = some per ∧
        x = ⟨c, chCfg s c, per.1, per.2, bit (cell s .gauConvCfg k) 8, sfld (cell s .gauCalOfs k g) 23 0, (cell s .gauCalGain k g).toNat,
          (gauConv s k).calValid.getLsbD g, false, blanking s, !blanking s⟩ ∧
        (gauChan t c).excPending = false ∧ (gauChan t c).lastGain = some (g, x.valid) ∧
        ((gauConv s k).settleAll = true ∨ (∃ old : Nat × Bool, (gauConv s k).lastPeriod = some old ∧ old ≠ per) ∨ (gauChan s c).excPending = true ∨
            (∃ (g0 : Nat) (ok0 : Bool), (gauChan s c).lastGain = some (g0, ok0) ∧ (g0 ≠ g ∨ ok0 = false ∧ x.valid = true)) → (gauChan t c).settleLeft = 2) ∧
        ((gauConv s k).settleAll = false → ((gauConv s k).lastPeriod = none ∨ (gauConv s k).lastPeriod = some per) →
          (gauChan s c).excPending = false → ((gauChan s c).lastGain = none ∨ (gauChan s c).lastGain = some (g, x.valid)) →
          (gauChan t c).settleLeft = (gauChan s c).settleLeft) ∧
        (∀ d : Nat, d ∈ convChans k ∨ (d % 2 = 0 ∧ d + 1 ∈ convChans k ∧ isSense (cfgMode (chCfg s (d + 1))) = true) → (gauChan t d).excPending = false ∧
          (gauChan t d).act = (if (gauChan s d).excPending = true then chCfg s d else (gauChan s d).act)) ∧
        (∀ d : Nat, d ∉ convChans k → (d % 2 = 1 ∨ d + 1 ∉ convChans k ∨ isSense (cfgMode (chCfg s (d + 1))) = false ∨ (gauChan s d).excPending = false) →
          gauChan t d = gauChan s d) ∧ ∀ k' : Nat, k' ≠ k.val → gauConv t k' = gauConv s k') ∧
    (bit (cell s .gauCtl) 3 = false → exec .gauAlignStart s = .next s) ∧
    (bit (cell s .gauCtl) 3 = true → ∃ t : State, exec .gauAlignStart s = .next t ∧ Only [.gau] s t ∧
      ((gauConv s k).fresh = false → gauConv t k = gauConv s k) ∧
      (∀ c : Nat, (gauConv s k).fresh = true → k.val < 16 → startChan s k = some c →
        (gauConv t k).connected = some c ∧ (gauConv t k).run.map (·.channel) = some c ∧ (gauConv t k).fresh = false) ∧
      (∀ c : Nat, (gauConv s k).fresh = true → 16 ≤ k.val → conversionsOn s k = true → (gauConv s k).run = none → stepDue s k = true →
        nextChan s k (gauConv s k).connected = some c →
        (gauConv t k).connected = some c ∧ (gauConv t k).run.map (·.channel) = some c ∧ (gauConv t k).fresh = false)) ∧
    (∀ isOpen : Bool,
      ((gauConv s k).connected = none → exec (.burnoutCheck k isOpen) s = .next s) ∧
      (∀ c (due : Bool), (gauConv s k).connected = some c →
        due = (conversionsOn s k && (gauConv s k).run.isNone && decide (c < 64) && [1, 3, 4].contains (actMode s c) && !blanking s &&
          (decide (16 ≤ (gauChan s c).sinceCheck) || ((gauChan s c).burnout && decide (1 ≤ (gauChan s c).sinceCheck)))) →
        (due = false → exec (.burnoutCheck k isOpen) s = .next s) ∧
        (due = true → ∃ t : State, exec (.burnoutCheck k isOpen) s = .next t ∧ Only (reportZones ++ [.gau]) s t ∧ RegsKept [(.gauEvt, 0, 0)] s t ∧
          (gauChan t c).burnout = isOpen ∧ (gauChan t c).sinceCheck = 0 ∧
          (isOpen = true → (gauChan s c).burnout = false →
            Reported Src.gauOpen c [w32 c, w32 (openCode (chSigned c (chCfg s c)))] s t ∧ Evented .gauEvt 0 17 s t) ∧
          (isOpen = false → (gauChan s c).burnout = true → (gauChan t c).settleLeft = 2 ∧ t.flt = s.flt ∧ t.regs = s.regs) ∧
          (isOpen = (gauChan s c).burnout → (gauChan t c).settleLeft = (gauChan s c).settleLeft ∧ t.flt = s.flt ∧ t.regs = s.regs))))

/-- R390, R391, R399, R401: the monitor of a current source that drives flags its channel OPEN, raised once on the channel it affects, until it has been
clear; a voltage source that folds back is flagged and raised, and a retry within its limit clears it. A BLANK_N pin is seen as it stands. A write of
a channel's configuration (R397, R409) stores it unless it is locked; a change of mode or excitation discards the conversion in progress, of the
channel that senses the source too, and waits for the next integration: source, mode and flags stay. The model’s choices that it rests on: log entries
92, 93 and 195. -/
def Obligations.GaugeSources : Prop :=
  (∀ (c : Fin 64) (a : Nat) (s : State), isUp s = true → TablesRise s → a = affectedChan s c →
    (sourcesOn s = false ∨ isCurrent (sourceOf s c) = false → exec (.gauOpen c) s = .next s) ∧
    (sourcesOn s = true → isCurrent (sourceOf s c) = true → ∃ t : State, exec (.gauOpen c) s = .next t ∧ Only (reportZones ++ [.gau]) s t ∧
      RegsKept [(.gauEvt, 0, 0)] s t ∧
      gauChan t c = { gauChan s c with open_ := true, held := true } ∧
      (∀ x : GauRun, (gauConv s (chanConv a)).run = some x → (gauConv t (chanConv a)).run = some { x with wasOpen := x.wasOpen || x.channel == a }) ∧ (∀ c' : Nat, c' ≠ c.val → gauChan t c' = gauChan s c') ∧
      ((gauChan s c).held = false → Reported Src.gauOpen a [w32 a, w32 (openCode (chSigned a (chCfg s a)))] s t ∧ Evented .gauEvt 0 17 s t) ∧
      ((gauChan s c).held = true → t.flt = s.flt ∧ t.regs = s.regs)) ∧
    ((gauChan s c).held = false ∨ (gauChan s c).excFault = true → exec (.gauOpenClear c) s = .next s) ∧
    ((gauChan s c).held = true → (gauChan s c).excFault = false → ∃ t : State, exec (.gauOpenClear c) s = .next t ∧ Only [.gau] s t ∧
      (gauChan t c).held = false ∧ (gauChan t c).open_ = false ∧ (gauChan t a).settleLeft = 2 ∧
      ∀ c' : Nat, c' ≠ c.val → c' ≠ a → gauChan t c' = gauChan s c') ∧
    (sourcesOn s = false ∨ isVoltage (sourceOf s c) = false ∨ (gauChan s c).excFault = true → exec (.gauExcFault c) s = .next s) ∧
    (sourcesOn s = true → isVoltage (sourceOf s c) = true → (gauChan s c).excFault = false →
      ∃ t : State, exec (.gauExcFault c) s = .next t ∧ Only (reportZones ++ [.gau]) s t ∧ RegsKept [(.gauEvt, 0, 0)] s t ∧
        gauChan t c = { gauChan s c with excFault := true, held := true } ∧ (∀ c' : Nat, c' ≠ c.val → gauChan t c' = gauChan s c') ∧
        Reported Src.gauExcFault c [w32 c, w32 a] s t ∧ Evented .gauEvt 0 18 s t) ∧
    (∀ within : Bool, ∃ t : State, exec (.excRetry c within) s = .next t ∧ Only [.gau] s t ∧
      gauChan t c = { gauChan s c with excFault := (gauChan s c).excFault && !within } ∧ ∀ c' : Nat, c' ≠ c.val → gauChan t c' = gauChan s c')) ∧
  (∀ (pin : Fin 2) (asserted : Bool) (s : State), ∃ t : State, exec (.blankEdge pin asserted) s = .next t ∧ Only [.gau] s t ∧
    (t.gau.blank0, t.gau.blank1) = (if pin.val = 0 then (asserted, s.gau.blank1) else (s.gau.blank0, asserted)) ∧ t.gau.chans = s.gau.chans ∧
    t.gau.outs = s.gau.outs ∧ ∀ k < 21, gauConv t k = { gauConv s k with
      run := (gauConv s k).run.map (fun x => { x with wasBlank := x.wasBlank || blanking t, wasClear := x.wasClear || !blanking t }) }) ∧
  (∀ (p : Fin 2) (c : Fin 72) (w old : Word) (moved : Bool) (s : State), HostMay p .gauChCfg c 0 w s → TablesRise s → old = cell s .gauChCfg c →
    moved = (decide (c.val < 64) && (cfgMode old != cfgMode w || cfgExc old != cfgExc w)) →
    ∃ t : State, exec (.gauChannelConfigWrite p c w) s = .next t ∧ Only (reportZones ++ [.gau]) s t ∧
      (lockSet s .gauChCfg c = true → cell t .gauChCfg c = old ∧ t.gau = s.gau ∧ Evented .hstEvt 0 22 s t ∧
        RegsKept [(.hstEvt, 0, 0)] s t ∧ Reported Src.lockWrite p [w32 (regOff .gauChCfg c), w32 p, w] s t) ∧
      (lockSet s .gauChCfg c = false → cell t .gauChCfg c = mergeMask (regMask .gauChCfg .lk) old w ∧ t.flt = s.flt ∧
        (∀ (r : Reg) (i j : Nat), regOff r i j ≠ regOff .gauChCfg c → cell t r i j = cell s r i j) ∧ (moved = false → t.gau = s.gau) ∧
        (moved = true → gauChan t c = { gauChan s c with excPending := true } ∧
          gauChan t (c.val + 1) = (if c.val % 2 = 0 ∧ isSense (cfgMode (chCfg s (c.val + 1))) = true then { gauChan s (c.val + 1) with excPending := true }
            else gauChan s (c.val + 1)) ∧
          (c.val % 2 = 0 → isSense (cfgMode (chCfg s (c.val + 1))) = true → ∀ x : GauRun, (gauConv t (chanConv (c.val + 1))).run = some x →
            x.channel ≠ c.val + 1) ∧ (∀ x : GauRun, (gauConv t (chanConv c)).run = some x → x.channel ≠ c.val) ∧
          (∀ x : GauRun, (gauConv s (chanConv c)).run = some x → x.channel ≠ c.val → x.channel ≠ c.val + 1 → (gauConv t (chanConv c)).run = some x) ∧
          ∀ d : Nat, d ≠ c.val → d ≠ c.val + 1 → gauChan t d = gauChan s d)))

/-- R406 to R408: a period of an interlock output: it is high impedance while it is not enabled, has failed or domain 77 is not ON; else it drives its
fault duty with the first cause that holds, or its scaled value. A read-back without both edges, or with a duty that differs from the command by more
than 1% of the period, switches it to its standby, or fails that, and is raised.
The model’s choices that it rests on: log entry 95. -/
def Obligations.InterlockOutputs : Prop :=
  ∀ (o : Fin 16) (r : GauReadback) (bad : Bool) (w : Word) (s : State), isUp s = true → TablesRise s → w = cell s .gauOutCfg o →
    bad = (!(gauOut s o).highZ && (decide (r.edges < 2) ||
      decide (10 * r.period < ((1000 * r.high : Nat) - ((gauOut s o).duty * r.period : Nat) : Int).natAbs))) →
    ∃ t : State, exec (.gauOutputPeriod o r) s = .next t ∧ Only (reportZones ++ [.gau]) s t ∧ RegsKept [(.gauEvt, 0, 0)] s t ∧
      (bad = false → t.flt = s.flt ∧ t.regs = s.regs ∧ (gauOut t o).standby = (gauOut s o).standby ∧ (gauOut t o).failed = (gauOut s o).failed) ∧
      (bad = true → Evented .gauEvt 0 21 s t ∧
        ((gauOut s o).standby = false → (gauOut t o).standby = true ∧ (gauOut t o).failed = (gauOut s o).failed ∧
          Reported Src.gauOutSwitch o [w32 o, 1] s t) ∧
        ((gauOut s o).standby = true → (gauOut t o).standby = true ∧ (gauOut t o).failed = true ∧ Reported Src.gauOutSwitch o [w32 o, 2] s t)) ∧
      (bit w 31 = false ∨ (gauOut t o).failed = true ∨ domOn s 77 = false →
        (gauOut t o).highZ = true ∧ (gauOut t o).fault = false ∧ (gauOut t o).cause = 0 ∧ (gauOut t o).duty = 0 ∧ (gauOut t o).freq = 0) ∧
      (bit w 31 = true → (gauOut t o).failed = false → domOn s 77 = true →
        (gauOut t o).highZ = false ∧ (gauOut t o).cause = outCause s o ∧ (gauOut t o).fault = decide (outCause s o ≠ 0) ∧
        (outCause s o ≠ 0 → (gauOut t o).duty = (if bit w 29 = true then 980 else 20)) ∧
        (outCause s o ≠ 0 → (gauOut t o).freq = (if bit w 30 = true then freqLimit (fld (cell s .gauOutFreq o) 15 0) else 0)) ∧
        (outCause s o = 0 → ((gauOut t o).duty, (gauOut t o).freq) = outDrive s o 0)) ∧
      (∀ o' : Nat, o' ≠ o.val → gauOut t o' = gauOut s o')

/-! ### Power, trips and resets -/

/-- R306, R325, R419, R420, R422: a change of a domain that completes leaves it in the commanded state, ends the isolation of its block where that is
not ON, and empties the table blocks of a bed group that goes OFF; one that fails leaves it OFF, counted, marked and raised with the state that was
commanded, and with the rail where its switches did not open.
The model’s choices that it rests on: log entry 119. -/
def Obligations.DomainsChange : Prop :=
  ∀ (n : Fin 80) (s : State), isUp s = true → TablesRise s →
    ((powerDom s n).goal = none → exec (.domainChangeDone n) s = .next s ∧
      ∀ (opened : Bool) (rail : Fin 11) (measured : Word), exec (.pwrDomainFail n opened rail measured) s = .next s) ∧
    (∀ g : PowerPhase, (powerDom s n).goal = some g →
      (∀ (m : Nat) x at_ to_ rest failed named order k, (mailbox s m).run = some ⟨x, at_, .power to_ (n :: rest) failed named order, k⟩ → n.val ∉ rest) →
      (∃ t : State, exec (.domainChangeDone n) s = .next t ∧
        powerDom t n = ⟨g, none, (n.val == 69 || n.val == 70) && g == .hold && ((powerDom s n).phase == .off || (powerDom s n).bare)⟩ ∧
        Evented .pwrEvt 0 18 s t ∧ bit (cell t .pwrDomFail (n.val / 32)) (n.val % 32) = false ∧
        (g ≠ .on → ∀ x ∈ t.flt.isolated, (targetDomains x.target).head? ≠ some n.val) ∧
        (g = .off → n.val < 32 → ∀ b < groupBlocks, tblock t n b = .blank)) ∧
      (∀ (opened : Bool) (rail : Fin 11) (measured : Word), ∃ t : State, exec (.pwrDomainFail n opened rail measured) s = .next t ∧ powerDom t n = .off ∧
        bit (cell t .pwrDomFail (n.val / 32)) (n.val % 32) = true ∧ Reported Src.pwrDomainFail n [w32 n, w32 g.code] s t ∧
        (∀ x ∈ t.flt.isolated, (targetDomains x.target).head? ≠ some n.val) ∧
        (n.val < 32 → ∀ b < groupBlocks, tblock t n b = .blank) ∧
        (opened = true → Evented .pwrEvt 0 19 s t ∧ cell t .pwrCnt = incSat (cell s .pwrCnt) 15 0 1) ∧
        (opened = false → bit (cell t .pwrEvt) 19 = true ∧ bit (cell t .pwrEvt) 20 = true ∧ Reported Src.pwrRailFault rail [w32 rail, measured] s t ∧
          cell t .pwrCnt = incSat (incSat (cell s .pwrCnt) 15 0 1) 31 16 1)))

/-- R415, R416, R422, R423, R430, R431: a valid input outside its range is raised once for each excursion, a sensor that reaches WARN once until all have
cooled, a required rail beyond 5% of its nominal voltage once until it returns; the update of every millisecond stores the measurements and ends what
they end, and a temperature of R423 in it trips. The model’s choices that it rests on: log entries 119, 137, 196, 197 and 198. -/
def Obligations.PowerIsMeasured : Prop :=
  ∀ (nominal : List Int) (s : State), nominal = [800, 750, 850, 900, 1200, 1100, 1800, 1800, 6000, 8000, 3300] → isUp s = true → TablesRise s →
    (∀ mv : BitVec 17,
      (s.pwr.input = false ∨ mv.toNat < lockoutFalling ∨ s.pwr.excursion = true ∨ (36000 ≤ mv.toNat ∧ mv.toNat ≤ 75000) →
        exec (.pwrInputRange mv) s = .next s) ∧
      (s.pwr.input = true → lockoutFalling ≤ mv.toNat → s.pwr.excursion = false → (mv.toNat < 36000 ∨ 75000 < mv.toNat) → ∃ t : State, exec (.pwrInputRange mv) s = .next t ∧ Only (reportZones ++ [.pwr]) s t ∧
        t.pwr = { s.pwr with excursion := true } ∧ Evented .pwrEvt 0 16 s t ∧ RegsKept [(.pwrEvt, 0, 0)] s t ∧
        Reported Src.pwrInputRange 0 (w32 mv.toNat :: capCourse (nowCourse s)) s t)) ∧
    (∀ (n : Fin 17) (v : BitVec 16),
      (s.pwr.tempArmed = false ∨ v.toInt < (tempWarn s : Int) * 8 → exec (.pwrTempHigh n v) s = .next s) ∧
      (s.pwr.tempArmed = true → (tempWarn s : Int) * 8 ≤ v.toInt → ∃ t : State, exec (.pwrTempHigh n v) s = .next t ∧ Only (reportZones ++ [.pwr]) s t ∧
        t.pwr = { s.pwr with tempArmed := false } ∧ Evented .pwrEvt 0 17 s t ∧ RegsKept [(.pwrEvt, 0, 0)] s t ∧ Reported Src.pwrTempHigh n [w32 n, v.setWidth 32] s t)) ∧
    (∀ (rail : Fin 11) (measured : Word) (fine : Bool),
      fine = (decide (20 * (measured.toInt - nominal.getD rail 0).natAbs ≤ (nominal.getD rail 0).natAbs) ||
        (decide (rail.val = 8) && decide (20 * (measured.toInt + 6000).natAbs ≤ 6000))) →
      (fine = true ∨ railRequired s rail = false ∨ rail.val ∈ s.pwr.faulty → exec (.pwrRailFault rail measured) s = .next s) ∧
      (fine = false → railRequired s rail = true → rail.val ∉ s.pwr.faulty → ∃ t : State, exec (.pwrRailFault rail measured) s = .next t ∧
        Only (reportZones ++ [.pwr]) s t ∧ t.pwr = { s.pwr with faulty := s.pwr.faulty ++ [rail.val] } ∧ Evented .pwrEvt 0 20 s t ∧
        cell t .pwrCnt = incSat (cell s .pwrCnt) 31 16 1 ∧ RegsKept [(.pwrEvt, 0, 0), (.pwrCnt, 0, 0)] s t ∧
        Reported Src.pwrRailFault rail [w32 rail, measured] s t)) ∧
    (∀ (mv : BitVec 17) (ma : BitVec 14) (dw : BitVec 12) (temps rails : List (BitVec 16)) (hot reg : Nat → Bool),
      hot = (fun n => decide ((if n < 16 then 920 else 1000) ≤ (temps.getD n 0).toInt)) →
      reg = (fun n => (decide (20 * ((rails.getD n 0).toInt - nominal.getD n 0).natAbs ≤ (nominal.getD n 0).natAbs) &&
        (decide (n ≠ 8) || decide (20 * ((rails.getD 11 0).toInt + 6000).natAbs ≤ 6000)))) →
      ((List.range 17).any hot = true → ∃ t : State, exec (.pwrMeasureUpdate mv ma dw temps rails) s = .next t ∧ isUp t = false ∧
        t.pwr.trip = some (if (List.range 16).any (fun n => decide (920 ≤ (temps.getD n 0).toInt)) then .dieTemperature else .stageTemperature)) ∧
      ((List.range 17).any hot = false → ∃ (t : State) (h : Nat), exec (.pwrMeasureUpdate mv ma dw temps rails) s = .next t ∧ Only [.regs, .pwr] s t ∧
        RegsKept ([(Reg.pwrVin, 0, 0), (Reg.pwrIin, 0, 0), (Reg.pwrPin, 0, 0), (Reg.pwrTempMax, 0, 0)] ++ (List.range 17).map fun n => (Reg.pwrTemp, n, 0)) s t ∧ cell t .pwrVin = mv.setWidth 32 ∧
        cell t .pwrIin = ma.setWidth 32 ∧ cell t .pwrPin = dw.setWidth 32 ∧ (∀ n < 17, cell t .pwrTemp n = (temps.getD n 0).setWidth 32) ∧
        h < 17 ∧ fld (cell t .pwrTempMax) 20 16 = h ∧ fld (cell t .pwrTempMax) 15 0 = (temps.getD h 0).toNat ∧
        (∀ n < 17, (temps.getD n 0).toInt ≤ (temps.getD h 0).toInt ∧ (n < h → (temps.getD n 0).toInt < (temps.getD h 0).toInt)) ∧
        (∀ n < 11, t.pwr.railsOk.getLsbD n = (reg n || !railRequired s n)) ∧
        (∀ n < 11, n ∈ t.pwr.faulty ↔ n ∈ s.pwr.faulty ∧ reg n = false ∧ railRequired s n = true) ∧
        t.pwr.stage = temps.getD 16 0 ∧ t.pwr.inRange = decide (36000 ≤ mv.toNat ∧ mv.toNat ≤ 75000) ∧
        t.pwr.excursion = (s.pwr.excursion && !decide (36500 ≤ mv.toNat ∧ mv.toNat ≤ 74500)) ∧
        t.pwr.tempArmed = (s.pwr.tempArmed ||
          decide (∀ n ∈ List.range 17, (temps.getD n 0).toInt < ((tempWarn s : Int) - (fld (cell s .pwrTempCfg) 15 8 : Nat)) * 8)) ∧
        t.pwr.domains = s.pwr.domains ∧ t.pwr.trip = s.pwr.trip))

/-- R423 to R428, R446, R447, R465: a protective trip, where its condition holds, journals TRIP and SEAL and loses all power, in foundation reset too; in
a module that has tripped a fall of the input ends its validity. The latch clears into foundation reset as R425 says: by a rise of the input, or by
FOUND_RST_N low, after an over-temperature trip, with the power stage's sensor below 85 °C, which is read on. An input that becomes valid, and
FOUND_RST_N, begin foundation reset; FOUND_RST_N is journalled. R309, R467: FAULT_N and ALARM_N are high impedance after a trip, and asserted from the
moment the input is valid until foundation reset is done. A reset is not done while FOUND_RST_N is low. When it is done, the machine stands as R428
says with the cause and a START due, and the Cornerstone as the newest good copy of its control area has it, or as its journal where none is good. The
JTAG port moves nothing but itself, and TRST_N low keeps it reset. The model’s choices that it rests on: log entries 98, 99, 102, 116, 117, 118, 138,
151, 196, 197, 198 and 201. -/
def Obligations.TripsAndResets : Prop :=
  (∀ (cause : TripCause) (mv : BitVec 17) (dies temps : List (BitVec 16)) (stage : BitVec 16) (met : Bool) (s : State),
    temps = (List.range 16).map (fun n => dies.getD n 0) ++ [stage] →
    met = (match cause with
      | .underVoltage => decide (mv.toNat < lockoutFalling)
      | .dieTemperature => (List.range 16).any (fun n => decide (920 ≤ (temps.getD n 0).toInt))
      | .stageTemperature => decide (1000 ≤ (temps.getD 16 0).toInt)) →
    (met = false → exec (.protectiveTrip cause mv dies stage) s = .next s) ∧
    (met = true → s.pwr.trip.isSome = true → exec (.protectiveTrip cause mv dies stage) s =
      .next { s with pwr := { s.pwr with input := s.pwr.input && decide (cause ≠ .underVoltage) } }) ∧
    (met = true → s.pwr.trip = none → ∃ (t : State) (h : Nat), exec (.protectiveTrip cause mv dies stage) s = .next t ∧ t.pwr.trip = some cause ∧
      t.pwr.lastTrip = some cause ∧ t.pwr.input = (s.pwr.input && decide (cause ≠ .underVoltage)) ∧ t.pwr.stage = stage ∧
      isUp t = false ∧ volatileLost t.pwr t = t ∧ t.pending = s.pending ∧ t.pwr.domains = [] ∧ t.jtag = { Jtag.reset with trst := s.jtag.trst } ∧
      faultBall t = .highZ ∧ alarmBall t = .highZ ∧
      h < 17 ∧ (∀ n < 17, (temps.getD n 0).toInt ≤ (temps.getD h 0).toInt) ∧
      (s.cns.sealed = false → s.cns.due = [] → 2 ≤ s.cns.capacity →
        t.cns.sealed = true ∧ ∃ (l : List CnsEvent) (a b : CnsEvent), t.cns.events = l ++ [a, b] ∧ dfld (a.words.getD 0 0) 63 56 = 5 ∧ dfld (b.words.getD 0 0) 63 56 = 6 ∧
          dfld (a.words.getD 5 0) 63 32 = tripCode cause ∧ dfld (a.words.getD 5 0) 31 0 = mv.toNat ∧
          a.words.getD 6 0 = BitVec.ofNat 64 ((temps.getD h 0).toNat * 2 ^ 32 + h) ∧ b.words.getD 5 0 = 1))) ∧
  (∀ s : State, (s.pwr.trip = none → exec .tripLatchClear s = .next s) ∧
    ((s.pwr.trip.isSome = true → s.pwr.input = false → exec .tripLatchClear s = exec .inputValid s) ∧
      (s.pwr.input = true → exec .inputValid s = .next s) ∧
      (s.pwr.input = false → ∃ t : State, exec .inputValid s = .next t ∧ isUp t = false ∧ t.pwr.trip = none ∧
        t.pwr.inReset = true ∧ t.pwr.resetByPin = false ∧ t.pwr.input = true ∧
        t.pwr.lastTrip = s.pwr.lastTrip ∧ volatileLost t.pwr t = t ∧ t.pending = s.pending ∧ t.jtag = { Jtag.reset with trst := s.jtag.trst } ∧
        t.cns = s.cns.afterReset ∧ faultBall t = .asserted ∧ alarmBall t = .asserted)) ∧
    (∀ clears : Bool, clears = ((s.pwr.trip == some .dieTemperature || s.pwr.trip == some .stageTemperature) && s.pwr.resetPin && decide (s.pwr.stage.toInt < 680)) →
      s.pwr.input = true → (clears = false → exec .tripLatchClear s = .next s) ∧
      (clears = true → exec .tripLatchClear s = .next { s with pwr := { s.pwr with trip := none, inReset := true, resetByPin := false } })) ∧
    (∀ (mv : BitVec 17) (ma : BitVec 14) (dw : BitVec 12) (temps rails : List (BitVec 16)), isUp s = false →
      exec (.pwrMeasureUpdate mv ma dw temps rails) s = .next { s with pwr := { s.pwr with stage := temps.getD 16 0 } }) ∧
    (isUp s = false → exec .foundRstAssert s = .next { s with pwr := { s.pwr with resetPin := true } }) ∧
    (isUp s = true → ∃ t : State, exec .foundRstAssert s = .next t ∧ isUp t = false ∧ t.pwr.trip = none ∧ t.pwr.inReset = true ∧ t.pwr.resetByPin = true ∧
      t.pwr.resetPin = true ∧ volatileLost t.pwr t = t ∧ t.pending = s.pending ∧ t.jtag = s.jtag ∧
      (s.cns.sealed = false → s.cns.due = [] → ∃ (l : List CnsEvent) (a : CnsEvent), t.cns.events = l ++ [a] ∧ dfld (a.words.getD 0 0) 63 56 = 3)) ∧
    (∀ (low : Bool) (control : BitVec 3), s.pwr.inReset = false → exec (.foundationResetDone ⟨low, control⟩) s = .next s) ∧
    (∀ control : BitVec 3, s.pwr.inReset = true →
      exec (.foundationResetDone ⟨true, control⟩) s = .next { s with pwr := { s.pwr with resetPin := true } }) ∧
    (∀ (control : BitVec 3) (copies : Nat → CnsControl) (i : Nat), s.pwr.inReset = true →
      copies = (fun j => [s.cns.control0, s.cns.control1, s.cns.control2].getD j s.cns.control0) → i < 3 → control.getLsbD i = true →
      (∀ j < 3, control.getLsbD j = true → (copies j).next ≤ (copies i).next ∧ (j < i → (copies j).next < (copies i).next)) →
      ∃ (t : State) (d : CnsDue), exec (.foundationResetDone ⟨false, control⟩) s = .next t ∧ isUp t = true ∧
      t = { State.reset with
        pending := s.pending, pwr := { Power.reset with resetCause := resetCauseOf s.pwr }, cns := t.cns, jtag := s.jtag,
        port0 := { HostPort.reset with perst := s.port0.perst }, port1 := { HostPort.reset with perst := s.port1.perst },
        gau := { Gauge.reset with blank0 := s.gau.blank0, blank1 := s.gau.blank1 },
        plb := { Plumb.reset with armPin := s.plb.armPin, firePin := s.plb.firePin } } ∧
      (∀ k : Nat, powerDom t k = ⟨if k = 50 ∨ k = 51 then .on else .off, none, false⟩) ∧
      t.cns.events = (s.cns.events.dropWhile (fun e => e.slot != (copies i).head)).take (copies i).count ∧ t.cns.sealed = (copies i).sealed ∧
      t.cns.next = (copies i).next ∧ t.cns.lost = (copies i).lost ∧ t.cns.failed = (copies i).failed ∧ t.cns.clearing = (copies i).clearing ∧
      t.cns.startCount = ((copies i).startCount + 1) % 2 ^ 32 ∧ t.cns.due = [d] ∧ d.type = 1 ∧ d.data5 = BitVec.ofNat 64 (resetCauseOf s.pwr)) ∧
    (s.pwr.inReset = true → ∃ (t : State) (r : Report), exec (.foundationResetDone ⟨false, 0⟩) s = .next t ∧ isUp t = true ∧ t.cns.events = s.cns.events ∧
      t.cns.lost = 0xFFFFFFFF ∧ r ∈ t.flt.flying ∧ r.source = Src.cnsMemFail) ∧
    (∀ low : Bool, exec (.jtagInstruction (.trst low)) s = .next { s with jtag := if low = true then { s.jtag with instr := .bypass, trst := true, shifting := false }
      else { s.jtag with trst := false } }) ∧
    (∀ (i : JtagInstr) (data : List Bool) (on : Bool), s.pwr.trip.isSome = true ∨ s.jtag.trst = true →
      exec (.jtagInstruction .tapReset) s = .next s ∧ exec (.jtagInstruction (.shift on)) s = .next s ∧ exec (.jtagInstruction (.load i data)) s = .next s) ∧
    (∀ (i : JtagInstr) (data : List Bool) (on : Bool), s.pwr.trip = none → s.jtag.trst = false →
      exec (.jtagInstruction .tapReset) s = .next { s with jtag := { s.jtag with instr := .bypass, shifting := false } } ∧
      exec (.jtagInstruction (.shift on)) s = .next { s with jtag := { s.jtag with shifting := on } } ∧
      exec (.jtagInstruction (.load i data)) s = .next { s with jtag := if i = .bypass ∨ i = .clamp ∨ i = .highz then { s.jtag with instr := i }
        else { s.jtag with instr := i, boundary := data, captured := ballSample s } }))

/-! ### Plumb and Cornerstone -/

/-- R436 to R439, R441, R442: an arm, from PLB_CTL or from the pin, starts an empty capture with the settings of that moment and one INITIAL record for
each slot that has a source, and takes a fire of its own core cycle that came before it; a capture that is HELD and not read refuses it, as an event.
DISARM goes to IDLE. A fire, from PLB_CTL or from the pin, is taken in ARMED, after the changes that wait, and missed in TRIGGERED and HELD, counted,
the first one raised; where an arm may still come in its core cycle it is kept. The capture is HELD once POST records are written or POST_COURSES have
passed. The line is released after its time. The model’s choices that it rests on: log entries 90, 97, 103, 199 and 200. -/
def Obligations.PlumbArmsAndFires : Prop :=
  (∀ (c : Instr) (s : State), TablesRise s →
    ((∃ p : Fin 2, c = .arm p ∧ HostMay p .plbCtl 0 0 1 s) ∨
      (c = .plbArmEdge ∧ isUp s = true ∧ bit (cell s .plbCfg) 2 = true ∧ bit (cell s .plbCfg) 1 = false)) →
    ∃ t : State, exec c s = .next t ∧ Only (reportZones ++ [.mem, .plb]) s t ∧ RegsKept [(.plbEvt, 0, 0)] s t ∧ (c = .plbArmEdge → t.plb.armPin = true) ∧
      ((∀ f : PlbFire, s.plb.waiting = some f → f.tag ≠ timeTag s) → t.flt = s.flt ∧ t.mem = s.mem) ∧
      (plbAlive s = false ∨ s.plb.phase = .armed ∨ s.plb.phase = .triggered →
        t.plb.phase = s.plb.phase ∧ t.plb.store = s.plb.store ∧ t.plb.queue = s.plb.queue ∧ cell t .plbEvt = cell s .plbEvt) ∧
      (plbAlive s = true → s.plb.phase = .held → s.plb.read = false →
        t.plb.phase = .held ∧ t.plb.store = s.plb.store ∧ Evented .plbEvt 0 21 s t) ∧
      (plbAlive s = true → s.plb.phase = .idle ∨ (s.plb.phase = .held ∧ s.plb.read = true) → ∀ f : PlbFire, s.plb.waiting = some f → f.tag = timeTag s →
        t.plb.phase = (if bit (cell s .plbCfg) 0 = true then .armed else .triggered) ∧ t.plb.fire = some ⟨nowStamp s, f.origin, f.tag, f.back⟩ ∧
        t.plb.waiting = none ∧ t.plb.queue = [] ∧ t.plb.pre = fld (cell s .plbPre) 16 0 ∧ Evented .plbEvt 0 19 s t ∧
        ∃ l : List PlbRec, t.plb.store = l ++ [fireRecord f.tag f.origin f.back (fireDrives s f.origin)] ∧ ∀ y ∈ l, y.kind ≤ 2 ∧ y.tag = timeTag s) ∧
      (plbAlive s = true → s.plb.phase = .idle ∨ (s.plb.phase = .held ∧ s.plb.read = true) →
        (∀ f : PlbFire, s.plb.waiting = some f → f.tag ≠ timeTag s) →
        t.plb.phase = .armed ∧ t.plb.store = [] ∧ t.plb.fill = bit (cell s .plbCfg) 0 ∧ t.plb.pre = fld (cell s .plbPre) 16 0 ∧
        t.plb.post = min (fld (cell s .plbPost) 16 0) (131071 - fld (cell s .plbPre) 16 0) ∧
        t.plb.postCourses = fld (cell s .plbPostCourses) 23 0 ∧ t.plb.arm = some (timeTag s, nowTime s, s.quo.worst) ∧ t.plb.fire = none ∧
        t.plb.missed = none ∧ t.plb.overflow = false ∧ t.plb.written = 0 ∧ t.plb.waiting = none ∧ cell t .plbEvt = cell s .plbEvt ∧
        t.plb.queue = (List.range 64).filterMap (fun n => (slotSample t n).map (fun x => slotRecord s n x true)))) ∧
  (∀ (p : Fin 2) (s : State), HostMay p .plbCtl 0 0 2 s → ∃ t : State, exec (.disarm p) s = .next t ∧ Only [.regs, .plb] s t ∧
    t.plb = { s.plb with phase := .idle, queue := [], lossDue := 0 } ∧ (TablesRise s → ∀ (r : Reg) (i j : Nat), cell t r i j = cell s r i j)) ∧
  (∀ (c : Instr) (origin : Nat) (s u d : State), TablesRise s →
    ((∃ p : Fin 2, c = .fire p ∧ HostMay p .plbCtl 0 0 4 s ∧ origin = 0 ∧ u = s) ∨
      (c = .plbFireEdge ∧ isUp s = true ∧ bit (cell s .plbCfg) 3 = true ∧ s.plb.driving = false ∧ origin = 1 ∧
        u = { s with plb := { s.plb with firePin := false } })) →
    d = plbDrainAll u →
    ∃ t : State, exec c s = .next t ∧ Only (reportZones ++ [.mem, .plb]) s t ∧ RegsKept [(.plbEvt, 0, 0), (.plbMissed, 0, 0)] s t ∧
      (plbAlive s = false → t.plb = u.plb ∧ t.flt = s.flt) ∧
      (plbAlive s = true → s.plb.phase = .idle ∨ (s.plb.phase = .held ∧ s.plb.read = true ∧ ∀ f : PlbFire, s.plb.fire = some f → f.tag ≠ timeTag s) →
        t.plb = { u.plb with waiting := t.plb.waiting } ∧ t.flt = s.flt ∧ t.regs = s.regs ∧
        ((∀ f : PlbFire, s.plb.waiting = some f → f.tag = timeTag s → origin < f.origin) → t.plb.waiting = some ⟨nowStamp s, origin, timeTag s, 0⟩) ∧
        (∀ f : PlbFire, s.plb.waiting = some f → f.tag = timeTag s → f.origin ≤ origin → t.plb.waiting = s.plb.waiting)) ∧
      (plbAlive s = true → s.plb.phase = .triggered ∨ (s.plb.phase = .held ∧ s.plb.read = false) →
        (∀ f : PlbFire, s.plb.fire = some f → f.tag ≠ timeTag s) →
        s.plb.lastMiss = some (timeTag s) → t.plb = u.plb ∧ t.flt = s.flt ∧ t.regs = s.regs) ∧
      (plbAlive s = true → s.plb.phase = .triggered ∨ (s.plb.phase = .held ∧ s.plb.read = false) →
        (∀ f : PlbFire, s.plb.fire = some f → f.tag ≠ timeTag s) →
        s.plb.lastMiss ≠ some (timeTag s) → t.plb.lastMiss = some (timeTag s) ∧ Evented .plbEvt 0 18 s t ∧ cell t .plbMissed = incSat (cell s .plbMissed) 31 0 1 ∧ t.plb.store = s.plb.store ∧ t.plb.phase = s.plb.phase ∧
        (s.plb.missed = none → t.plb.missed = some (timeTag s) ∧ Reported Src.plbMissed 0 (cap64 (timeTag s)) s t) ∧
        (s.plb.missed.isSome = true → t.plb = { u.plb with lastMiss := some (timeTag s) } ∧ t.flt = s.flt)) ∧
      (plbAlive s = true → s.plb.phase = .armed → d.plb.phase = .armed → (∀ f : PlbFire, s.plb.fire = some f → f.tag ≠ timeTag s) →
        ∀ (r : PlbRec) (n : Nat), r = fireRecord (timeTag s) origin 0 (bit (cell s .plbCfg) 4 && origin == 0) →
        n = (plbPassed (plbTagged r d.plb.store) d.plb.store).length →
        t.plb.fire = some ⟨nowStamp s, origin, (plbTagged r d.plb.store).tag, 0⟩ ∧
        t.plb.driving = (s.plb.driving || (bit (cell s .plbCfg) 4 && origin == 0)) ∧ t.plb.queue = d.plb.queue ∧
        ((∀ y ∈ d.plb.store, y.tag ≤ timeTag s) → t.plb.fire = some ⟨nowStamp s, origin, timeTag s, 0⟩ ∧ n = 0 ∧
          plbInsert r d.plb.store = d.plb.store ++ [r]) ∧
        (s.plb.fill = false → Evented .plbEvt 0 19 s t ∧ t.plb.phase = .triggered ∧ t.plb.postLeft = s.plb.post - n ∧
          t.plb.store = plbInsert r d.plb.store ∧
          t.plb.preShort = decide (d.plb.written - n < s.plb.pre) ∧ t.plb.preCount = min d.plb.written s.plb.pre - n) ∧
        (s.plb.fill = true → d.plb.store.length + 1 < plbSize → Evented .plbEvt 0 19 s t ∧ t.plb.phase = .armed ∧
          t.plb.store = plbInsert r d.plb.store))) ∧
  (∀ s : State, isUp s = true → TablesRise s →
    (bit (cell s .plbCfg) 2 = false ∨ bit (cell s .plbCfg) 1 = true → exec .plbArmEdge s = .next { s with plb := { s.plb with armPin := true } }) ∧
    (bit (cell s .plbCfg) 3 = false ∨ s.plb.driving = true → exec .plbFireEdge s = .next { s with plb := { s.plb with firePin := false } }) ∧
    exec .plbFireRelease s = .next { s with plb := { s.plb with driving := false, firePin := true } } ∧
    (s.plb.phase ≠ .triggered ∨ s.plb.fire = none → exec .plbPostDone s = .next s) ∧
    (∀ (f : PlbFire) (d : State), s.plb.phase = .triggered → s.plb.fire = some f → d = plbDrainAll s → ∃ t : State, exec .plbPostDone s = .next t ∧ Only (reportZones ++ [.mem, .plb]) s t ∧
      RegsKept [(.plbEvt, 0, 0)] s t ∧
      t.plb.store = d.plb.store ∧
      (plbAlive s = false → t = s) ∧
      (plbAlive s = true → d.plb.postLeft = 0 ∨ f.stamp.course + s.plb.postCourses ≤ nowCourse s →
        t.plb.phase = .held ∧ t.plb.queue = [] ∧ t.plb.read = false ∧ Evented .plbEvt 0 20 s t) ∧
      (d.plb.postLeft ≠ 0 → nowCourse s < f.stamp.course + s.plb.postCourses → t = d)))

/-- R433 to R436, R440: a slot whose value differs from what was last recorded has its record join the queue, in the order of tags and among those of its
core cycle by slot, and is then what was last recorded; or it is lost and counted where the queue is full. A usable value that crosses a threshold of
its slot fires with the lowest such threshold and its BACK, at the moment of the sample. The model’s choices that it rests on: log entries 90 and 199. -/
def Obligations.PlumbRecordsChanges : Prop :=
  ∀ (n : Fin 64) (level : Bool) (w : Word) (s u : State), isUp s = true → TablesRise s → w = cell s .plbSig n →
    u = (if fld w 11 8 = 1 ∧ fld w 7 0 = 5 then { s with plb := { s.plb with armPin := level } }
      else if fld w 11 8 = 1 ∧ fld w 7 0 = 6 then { s with plb := { s.plb with firePin := level } } else s) →
    (plbAlive s = false ∨ slotSample u n = none → exec (.plbChange n level) s = .next u) ∧
    (∀ x : PlbSample, plbAlive s = true → slotSample u n = some x → ∃ t : State, exec (.plbChange n level) s = .next t ∧ Only (reportZones ++ [.mem, .plb]) s t ∧
      RegsKept [(.plbEvt, 0, 0), (.plbLost, 0, 0), (.plbMissed, 0, 0)] s t ∧
      (x.value = true → x.usable = true → (plbSlot t n).seen = some (x.number, sampleTag s n)) ∧
      (∀ n' : Nat, n' ≠ n.val → plbSlot t n' = plbSlot s n') ∧
      ((∀ k : Fin 8, bit (cell s .plbThr k) 31 = false ∨ fld (cell s .plbThr k) 5 0 ≠ n.val) →
        t.plb.store = s.plb.store ∧ t.plb.phase = s.plb.phase ∧ t.flt = s.flt ∧
        (plbRecording u = false ∨ plbDiffers u n x = false → t.plb.queue = s.plb.queue ∧ t.regs = s.regs) ∧
        (plbRecording u = true → plbDiffers u n x = true →
          (s.plb.queue.length < 256 → (plbSlot t n).last = some x.data ∧ t.plb.queue = plbInsert ⟨sampleTag s n, plbWord (if x.value = true then 2 else 1) n 0 x.data, false⟩ s.plb.queue ∧
            t.regs = s.regs) ∧
          (256 ≤ s.plb.queue.length → (plbSlot t n).last = (plbSlot s n).last ∧ t.plb.queue = s.plb.queue ∧ t.plb.lossDue = s.plb.lossDue + 1 ∧ Evented .plbEvt 0 16 s t ∧
            cell t .plbLost = incSat (cell s .plbLost) 31 0 1))) ∧
      (∀ (k : Fin 8) v0 t0, x.value = true → x.usable = true → (plbSlot s n).seen = some (v0, t0) →
        (∀ k' : Fin 8, k' ≤ k → ((bit (cell s .plbThr k') 31 = true ∧ fld (cell s .plbThr k') 5 0 = n.val ∧
          crosses (fld (cell s .plbThr k') 30 29) v0 x.number (thrLevel s n k') = true) ↔ k' = k)) →
        s.plb.phase = .armed → s.plb.fill = false → (∀ f : PlbFire, s.plb.fire = some f → f.tag ≠ sampleTag s n) →
        t.plb.phase = .triggered ∧ ∃ tag : Nat,
          t.plb.fire = some ⟨nowStamp s, 0x10 + k.val, tag, backOf t0 (sampleTag s n) v0 x.number (thrLevel s n k)⟩ ∧ sampleTag s n ≤ tag ∧
          (s.plb.lossDue = 0 → s.plb.queue.length < 256 → (∀ y ∈ s.plb.queue, y.kind ≤ 2) → (∀ y ∈ s.plb.store, 2 < y.kind → y.tag ≤ sampleTag s n) →
            tag = sampleTag s n)))

/-- R445, R446, R448, R449, R451: the oldest event due is written after the newest, in place of the oldest where the journal is full, with its number and
its CRC, and the copies of the control area are updated; a SEAL seals and is raised, a CLEAR ends the clear. A slot that fails verification joins the
list and the event stays due. A full journal that is sealed takes none: the event is lost and counted. The model’s choices that it rests on: log
entries 98, 100 and 201. -/
def Obligations.CornerstoneWrites : Prop :=
  ∀ (good : Bool) (s : State), isUp s = true → TablesRise s →
    (s.cns.due = [] → exec (.cnsEventWrite good) s = .next s) ∧
    (∀ (d : CnsDue) (rest : List CnsDue) (kept : List CnsEvent), s.cns.due = d :: rest → kept = (if s.cns.capacity ≤ s.cns.events.length then s.cns.events.tail else s.cns.events) →
      ∃ t : State, exec (.cnsEventWrite good) s = .next t ∧ Only (reportZones ++ [.cns]) s t ∧ RegsKept [(.cnsEvt, 0, 0)] s t ∧
        (∀ r ∈ [t.cns.control0, t.cns.control1, t.cns.control2], r = ⟨t.cns.next, t.cns.startCount, (t.cns.events.head?.map (·.slot)).getD 0,
          t.cns.events.length, t.cns.sealed, t.cns.lost, t.cns.failed, t.cns.clearing⟩) ∧
        (s.cns.sealed = true → s.cns.capacity ≤ s.cns.events.length →
          t.cns = { s.cns with due := rest, lost := satTo 32 (s.cns.lost + 1), control0 := t.cns.control0, control1 := t.cns.control1, control2 := t.cns.control2 } ∧ Evented .cnsEvt 0 17 s t ∧ t.flt = s.flt) ∧
        (s.cns.sealed = false ∨ s.cns.events.length < s.cns.capacity →
          (good = true → ∃ e : CnsEvent, t.cns.events = kept ++ [e] ∧ e.slot = s.cns.nextSlot ∧ e.words.length = 8 ∧ t.cns.due = rest ∧
            t.cns.next = (s.cns.next + 1) % 2 ^ 48 ∧ t.cns.failed = s.cns.failed ∧
            (d.type < 256 → dfld (e.words.getD 0 0) 63 56 = d.type) ∧ dfld (e.words.getD 0 0) 47 0 = s.cns.next % 2 ^ 48 ∧
            (d.deviceId < 2 ^ 16 → dfld (e.words.getD 1 0) 63 32 = s.cns.startCount % 2 ^ 32) ∧ e.words.getD 2 0 = BitVec.ofNat 64 d.tag ∧ e.words.getD 3 0 = d.time.sec ∧
            e.words.getD 5 0 = d.data5 ∧ e.words.getD 6 0 = (if d.type = 6 then BitVec.ofNat 64 kept.length else d.data6) ∧
            e.words.getD 7 0 = (crc32c ((e.words.take 7).flatMap (fun x => beBytes 8 x.toNat) ++ beBytes 4 0)).setWidth 64 ∧
            (d.type = 6 → t.cns.sealed = true ∧ Evented .cnsEvt 0 16 s t ∧ ∃ l : Word, Reported Src.cnsSealed 0 [w32 d.data5.toNat, l] s t) ∧
            (d.type = 10 → t.cns.clearing = false ∧ t.cns.sealed = s.cns.sealed ∧ Evented .cnsEvt 0 18 s t) ∧
            (d.type ≠ 6 → d.type ≠ 10 → t.cns.sealed = s.cns.sealed ∧ t.cns.clearing = s.cns.clearing ∧ t.regs = s.regs ∧ t.flt = s.flt)) ∧
          (good = false → t.cns = { s.cns with
              control0 := t.cns.control0, control1 := t.cns.control1, control2 := t.cns.control2, events := kept, failed := if s.cns.failed.length < 64 then s.cns.failed ++ [s.cns.nextSlot] else s.cns.failed } ∧
            Evented .cnsEvt 0 19 s t ∧ Reported Src.cnsMemFail 0 [w32 (64 * s.cns.nextSlot)] s t)))
end

