-- ==== Sys2Proof/Laws/Sparse.lean ====
section
/-!
SUPPORT. The laws of sparse tables: a read after a write, and that every operation keeps the canonical form.
-/
namespace Sys2Proof.Machine
set_option Elab.async false

variable {α : Type}

theorem smRisesFrom_cons (lo : Option Nat) (k : Nat) (v : α) (t : SMap α) :
    smRisesFrom lo ((k, v) :: t) = true ↔ (∀ l, lo = some l → l < k) ∧ smRisesFrom (some k) t = true := by
  cases lo <;> simp [smRisesFrom]

/-- A bound below may be lowered. -/
theorem smRisesFrom_lower {a b : Option Nat} {m : SMap α} (h : ∀ l, b = some l → ∃ k, a = some k ∧ l ≤ k) (hm : smRisesFrom a m = true) :
    smRisesFrom b m = true := by
  cases m with
  | nil => cases b <;> rfl
  | cons e t =>
    obtain ⟨k, v⟩ := e
    rw [smRisesFrom_cons] at hm ⊢
    refine ⟨fun l hl => ?_, hm.2⟩
    obtain ⟨x, hx, hlx⟩ := h l hl
    exact Nat.lt_of_le_of_lt hlx (hm.1 x hx)

/-- Below the first key nothing is listed. -/
theorem smFind_below {k q : Nat} {m : SMap α} (hm : smRisesFrom (some k) m = true) (hq : q ≤ k) : smFind m q = none := by
  induction m generalizing k with
  | nil => rfl
  | cons e t ih =>
    obtain ⟨a, v⟩ := e
    rw [smRisesFrom_cons] at hm
    have := hm.1 k rfl
    rw [smFind, if_neg (by omega)]
    exact ih hm.2 (by omega)

theorem smFind_insert (m : SMap α) (q : Nat) (x : α) (p : Nat) : smFind (smInsert m q x) p = if p = q then some x else smFind m p := by
  induction m with
  | nil => simp [smInsert, smFind]
  | cons e t ih =>
    obtain ⟨a, v⟩ := e
    rw [smInsert]
    split
    · rename_i h; subst h; simp only [smFind]; split <;> rfl
    · split
      · simp only [smFind]
      · simp only [smFind, ih]; split <;> split <;> first | rfl | omega

theorem smFind_erase {lo : Option Nat} {m : SMap α} (hm : smRisesFrom lo m = true) (q p : Nat) :
    smFind (smErase m q) p = if p = q then none else smFind m p := by
  induction m generalizing lo with
  | nil => simp [smErase, smFind]
  | cons e t ih =>
    obtain ⟨a, v⟩ := e
    rw [smRisesFrom_cons] at hm
    rw [smErase]
    split
    · rename_i h; subst h; simp only [smFind]
      split
      · rename_i h; subst h; exact smFind_below hm.2 (Nat.le_refl _)
      · rfl
    · split
      · rename_i hqa
        have hb := smFind_below hm.2 (Nat.le_of_lt hqa)
        simp only [smFind]
        by_cases hp : p = q
        · subst hp; rw [if_pos rfl, if_neg (by omega)]; exact hb
        · rw [if_neg hp]
      · simp only [smFind, ih hm.2]; split <;> split <;> first | rfl | omega

/-- A read after a write: the value written there, the old value elsewhere. -/
theorem smGet_put [DecidableEq α] (d : α) {m : SMap α} (hm : smWf d m = true) (q : Nat) (x : α) (p : Nat) :
    smGet d (smPut d m q x) p = if p = q then x else smGet d m p := by
  have hr : smRisesFrom none m = true := (Bool.and_eq_true _ _ ▸ hm).1
  unfold smGet smPut
  split
  · rename_i h; subst h; rw [smFind_erase hr]; split <;> rfl
  · rw [smFind_insert]; split <;> rfl

theorem smRisesFrom_insert {lo : Option Nat} {m : SMap α} (q : Nat) (x : α) (hq : ∀ l, lo = some l → l < q) (hm : smRisesFrom lo m = true) :
    smRisesFrom lo (smInsert m q x) = true := by
  induction m generalizing lo with
  | nil => rw [smInsert, smRisesFrom_cons]; exact ⟨hq, rfl⟩
  | cons e t ih =>
    obtain ⟨a, v⟩ := e
    have hm' := (smRisesFrom_cons ..).1 hm
    rw [smInsert]
    split
    · rename_i h; subst h; rw [smRisesFrom_cons]; exact hm'
    · split
      · rename_i h; rw [smRisesFrom_cons, smRisesFrom_cons]
        exact ⟨hq, fun l hl => by cases hl; exact h, hm'.2⟩
      · rw [smRisesFrom_cons]
        exact ⟨hm'.1, ih (fun l hl => by cases hl; omega) hm'.2⟩

theorem smRisesFrom_erase {lo : Option Nat} {m : SMap α} (q : Nat) (hm : smRisesFrom lo m = true) : smRisesFrom lo (smErase m q) = true := by
  induction m generalizing lo with
  | nil => exact hm
  | cons e t ih =>
    obtain ⟨a, v⟩ := e
    have hm' := (smRisesFrom_cons ..).1 hm
    rw [smErase]
    split
    · exact smRisesFrom_lower (fun l hl => ⟨a, rfl, Nat.le_of_lt (hm'.1 l hl)⟩) hm'.2
    · split
      · exact hm
      · rw [smRisesFrom_cons]; exact ⟨hm'.1, ih hm'.2⟩

theorem smRisesFrom_filter {lo : Option Nat} {m : SMap α} (p : Nat × α → Bool) (hm : smRisesFrom lo m = true) : smRisesFrom lo (m.filter p) = true := by
  induction m generalizing lo with
  | nil => exact hm
  | cons e t ih =>
    obtain ⟨a, v⟩ := e
    have hm' := (smRisesFrom_cons ..).1 hm
    rw [List.filter_cons]
    split
    · rw [smRisesFrom_cons]; exact ⟨hm'.1, ih hm'.2⟩
    · exact ih (smRisesFrom_lower (fun l hl => ⟨a, rfl, Nat.le_of_lt (hm'.1 l hl)⟩) hm'.2)

theorem smMem_insert {m : SMap α} {q : Nat} {x : α} {e : Nat × α} (h : e ∈ smInsert m q x) : e = (q, x) ∨ e ∈ m := by
  induction m with
  | nil => rw [smInsert] at h; exact .inl (List.mem_singleton.1 h)
  | cons b t ih =>
    obtain ⟨a, v⟩ := b
    rw [smInsert] at h
    split at h
    · rcases List.mem_cons.1 h with h | h
      · exact .inl h
      · exact .inr (List.mem_cons_of_mem _ h)
    · split at h
      · rcases List.mem_cons.1 h with h | h
        · exact .inl h
        · exact .inr h
      · rcases List.mem_cons.1 h with h | h
        · exact .inr (h ▸ List.mem_cons_self ..)
        · rcases ih h with h | h
          · exact .inl h
          · exact .inr (List.mem_cons_of_mem _ h)

theorem smMem_erase {m : SMap α} {q : Nat} {e : Nat × α} (h : e ∈ smErase m q) : e ∈ m := by
  induction m with
  | nil => exact h
  | cons b t ih =>
    obtain ⟨a, v⟩ := b
    rw [smErase] at h
    split at h
    · exact List.mem_cons_of_mem _ h
    · split at h
      · exact h
      · rcases List.mem_cons.1 h with h | h
        · exact h ▸ List.mem_cons_self ..
        · exact List.mem_cons_of_mem _ (ih h)

theorem smWf_iff [DecidableEq α] (d : α) (m : SMap α) : smWf d m = true ↔ smRisesFrom none m = true ∧ ∀ e ∈ m, e.2 ≠ d := by
  simp [smWf, List.all_eq_true]

theorem smWf_nil [DecidableEq α] (d : α) : smWf d ([] : SMap α) = true := rfl

/-- A write keeps the canonical form. -/
theorem smWf_put [DecidableEq α] {d : α} {m : SMap α} (q : Nat) (x : α) (hm : smWf d m = true) : smWf d (smPut d m q x) = true := by
  rw [smWf_iff] at hm ⊢
  unfold smPut
  split
  · exact ⟨smRisesFrom_erase q hm.1, fun e he => hm.2 e (smMem_erase he)⟩
  · rename_i h
    refine ⟨smRisesFrom_insert q x (fun l hl => by cases hl) hm.1, fun e he => ?_⟩
    rcases smMem_insert he with h' | h'
    · rw [h']; exact h
    · exact hm.2 e h'

/-- Leaving entries out keeps the canonical form. -/
theorem smWf_filter [DecidableEq α] {d : α} {m : SMap α} (p : Nat × α → Bool) (hm : smWf d m = true) : smWf d (m.filter p) = true := by
  rw [smWf_iff] at hm ⊢
  exact ⟨smRisesFrom_filter p hm.1, fun e he => hm.2 e (List.mem_filter.1 he).1⟩

/-! ### Rising keys alone -/

theorem rises_put [DecidableEq α] {d : α} {m : SMap α} {q : Nat} {x : α} (hm : smRisesFrom none m = true) :
    smRisesFrom none (smPut d m q x) = true := by
  unfold smPut
  split
  · exact smRisesFrom_erase q hm
  · exact smRisesFrom_insert q x (fun l hl => by cases hl) hm

theorem rises_upd [DecidableEq α] {d : α} {m : SMap α} {q : Nat} {f : α → α} (hm : smRisesFrom none m = true) :
    smRisesFrom none (smUpd d m q f) = true := rises_put hm

theorem rises_filter {m : SMap α} {p : Nat × α → Bool} (hm : smRisesFrom none m = true) : smRisesFrom none (m.filter p) = true :=
  smRisesFrom_filter p hm

theorem smRisesFrom_map {β : Type} (f : Nat × α → Nat × β) (hf : ∀ e, (f e).1 = e.1) (lo : Option Nat) (m : SMap α) :
    smRisesFrom lo (m.map f) = smRisesFrom lo m := by
  induction m generalizing lo with
  | nil => cases lo <;> rfl
  | cons e t ih =>
    rw [List.map_cons]
    have he := hf e
    obtain ⟨k, v⟩ := e
    cases hfe : f (k, v) with
    | mk k' v' =>
      rw [hfe] at he
      cases he
      cases lo <;> simp only [smRisesFrom, ih]

theorem rises_map {β : Type} {m : SMap α} {f : Nat × α → Nat × β} (hf : ∀ e, (f e).1 = e.1) (hm : smRisesFrom none m = true) :
    smRisesFrom none (m.map f) = true := by
  rw [smRisesFrom_map f hf]; exact hm

/-- With rising keys a read after a write gives the value written there, the old value elsewhere. -/
theorem smGet_put_rises [DecidableEq α] {d : α} {m : SMap α} (hm : smRisesFrom none m = true) (q : Nat) (x : α) (p : Nat) (e : α) (he : p = q → e = d) :
    smGet e (smPut d m q x) p = if p = q then x else smGet e m p := by
  unfold smGet smPut
  split
  · rename_i h; subst h; rw [smFind_erase hm]; split
    · rename_i h; rw [he h]; rfl
    · rfl
  · rw [smFind_insert]; split <;> rfl

/-- A table read after a change at one key. -/
theorem smGet_upd_rises {α : Type} [DecidableEq α] {m : SMap α} (hs : smRisesFrom none m = true) (d : α) (k : Nat) (f : α → α) :
    smGet d (smUpd d m k f) k = f (smGet d m k) := by
  unfold smUpd
  rw [smGet_put_rises hs _ _ _ _ (fun _ => rfl), if_pos rfl]

theorem smGet_upd_other {α : Type} [DecidableEq α] {m : SMap α} (hs : smRisesFrom none m = true) (d d' : α) (k q : Nat) (f : α → α) (h : q ≠ k) :
    smGet d' (smUpd d m k f) q = smGet d' m q := by
  unfold smUpd
  rw [smGet_put_rises hs _ _ _ _ (fun e => absurd e h), if_neg h]

end Sys2Proof.Machine
end

