-- ==== Sys2Proof/Laws/Memory.lean ====
section
/-!
SUPPORT. The laws of HBM: reads after writes, and that every write keeps the canonical form.
-/
namespace Sys2Proof.Machine
set_option Elab.async false

theorem hbmWrite_wf {m : List Host.Cell} (a : Nat) (bs : List Byte) (hm : Memory.wf m = true) : Memory.wf (hbmWrite m a bs) = true := by
  induction bs generalizing m a with
  | nil => exact hm
  | cons b t ih => exact ih (a + 1) (smWf_put a b hm)

/-- A byte read after a write: the byte written there, the old byte outside the written bytes. -/
theorem hbmByte_write {m : List Host.Cell} (a : Nat) (bs : List Byte) (hm : Memory.wf m = true) (q : Nat) :
    hbmByte (hbmWrite m a bs) q = if a ≤ q ∧ q < a + bs.length then bs.getD (q - a) 0 else hbmByte m q := by
  induction bs generalizing m a with
  | nil => rw [hbmWrite, if_neg (by simp only [List.length_nil]; omega)]
  | cons b t ih =>
    rw [hbmWrite, ih (a + 1) (smWf_put a b hm), List.length_cons]
    by_cases h1 : a + 1 ≤ q ∧ q < a + 1 + t.length
    · rw [if_pos h1, if_pos (by omega)]
      obtain ⟨n, hn⟩ : ∃ n, q - a = n + 1 := ⟨q - a - 1, by omega⟩
      rw [hn, show q - (a + 1) = n by omega]; rfl
    · rw [if_neg h1, hbmByte, smGet_put hbmBlank hm]
      by_cases h2 : q = a
      · subst h2; rw [if_pos rfl, if_pos (by omega), Nat.sub_self]; rfl
      · rw [if_neg h2, if_neg (by omega)]; rfl

theorem markWritten_wf (a n : Nat) {m : SMap Bool} (hm : smWf false m = true) : smWf false (markWritten a n m) = true := by
  unfold markWritten
  generalize List.range ((a + n - 1) / 4096 + 1 - a / 4096) = l
  induction l generalizing m with
  | nil => exact hm
  | cons i t ih => exact ih (smWf_put (a / 4096 + i) true hm)

end Sys2Proof.Machine
end

