-- ==== Sys2Proof/Laws/DoesOps.lean ====
section
/-!
SUPPORT. What each operation can do: which parts of the state it can change, and that memory keeps its form and the stores their capacities: Ops, Groups, Lanes, Quoin.
-/
namespace Sys2Proof.Machine
set_option Elab.async false

theorem Zone.same_refl (s : State) (z : Zone) : z.same s s := by cases z <;> first | rfl | exact ⟨rfl, rfl⟩

theorem Zone.same_trans {s t u : State} {z : Zone} (h : z.same s t) (k : z.same t u) : z.same s u := by
  cases z <;> first | exact Eq.trans k h | exact ⟨k.1.trans h.1, k.2.trans h.2⟩

/-- Going from `s` to `t` nothing changes outside the named parts, memory keeps its canonical form, the sparse tables keep their order, and no store
outgrows its capacity. -/
structure Does (zs : List Zone) (s t : State) : Prop where
  only : Only zs s t
  mem : MemoryWf s → MemoryWf t
  caps : Capacities s → Capacities t
  tables : TablesRise s → TablesRise t

theorem Does.refl (L : List Zone) (s : State) : Does L s s := ⟨⟨fun z _ => z.same_refl s⟩, id, id, id⟩

theorem Only.widen {L M : List Zone} {s t : State} (k : Only M s t) (hs : (M.all fun z => L.contains z) = true) : Only L s t := by
  refine ⟨fun z hz => k.same z fun hm => hz ?_⟩
  have := List.all_eq_true.1 hs z hm
  simpa using this

theorem Only.trans {L : List Zone} {s t u : State} (h : Only L s t) (k : Only L t u) : Only L s u :=
  ⟨fun z hz => Zone.same_trans (h.same z hz) (k.same z hz)⟩

theorem Does.step {L M : List Zone} {s x u : State} (k : Does M x u) (hs : (M.all fun z => L.contains z) = true) (h : Does L s x) : Does L s u :=
  ⟨h.only.trans (k.only.widen hs), fun m => k.mem (h.mem m), fun c => k.caps (h.caps c), fun r => k.tables (h.tables r)⟩

theorem Does.upd {L : List Zone} {s x u : State} (k : ∀ z, z ∉ L → z.same x u) (hm : MemoryWf x → MemoryWf u) (hc : Capacities x → Capacities u)
    (hr : TablesRise x → TablesRise u) (h : Does L s x) : Does L s u :=
  ⟨h.only.trans ⟨k⟩, fun m => hm (h.mem m), fun c => hc (h.caps c), fun r => hr (h.tables r)⟩

theorem Does.ite {L : List Zone} {c : Prop} {_ : Decidable c} {s a b : State} (ha : Does L s a) (hb : Does L s b) : Does L s (if c then a else b) := by
  split <;> assumption

theorem Zone.contains_of {L : List Zone} {z : Zone} (hz : L.contains z = true) : z ∈ L := by simpa using hz

/-- Nothing of memory changes. -/
theorem MemoryWf.keep {s t : State} (h : t.hbm = s.hbm) (k : t.sram = s.sram) (m : MemoryWf s) : MemoryWf t := ⟨h ▸ m.bytes, h ▸ m.written, k ▸ m.sram⟩

theorem Does.put_pending {L : List Zone} {s x : State} {v} (hz0 : L.contains .pending = true)
    (h : Does L s x) : Does L s { x with pending := v } :=
  Does.upd (x := x) (fun z hz => by cases z <;> first | rfl | exact ⟨rfl, rfl⟩ | exact absurd (Zone.contains_of hz0) hz) (fun m => ⟨m.bytes, m.written, m.sram⟩)
    (fun c => ⟨c.log, c.txq, c.restore, c.queue, c.failed, c.retired⟩)
    (fun r => ⟨r.cb, r.regs, r.srcs, r.port0, r.port1, r.domains, r.lanes, r.downlinks, r.partners, r.groups, r.engines, r.ring, r.rewritten, r.badMarks, r.mem, r.streams, r.uplinks, r.uplGroups, r.retLanes, r.lntGroups, r.boxes, r.gau, r.slots⟩) h

theorem Does.put_btr {L : List Zone} {s x : State} {v} (hz0 : L.contains .btr = true) (hr : Rises x.btr.cb → Rises v.cb)
    (h : Does L s x) : Does L s { x with btr := v } :=
  Does.upd (x := x) (fun z hz => by cases z <;> first | rfl | exact ⟨rfl, rfl⟩ | exact absurd (Zone.contains_of hz0) hz) (fun m => ⟨m.bytes, m.written, m.sram⟩)
    (fun c => ⟨c.log, c.txq, c.restore, c.queue, c.failed, c.retired⟩)
    (fun r => ⟨hr r.cb, r.regs, r.srcs, r.port0, r.port1, r.domains, r.lanes, r.downlinks, r.partners, r.groups, r.engines, r.ring, r.rewritten, r.badMarks, r.mem, r.streams, r.uplinks, r.uplGroups, r.retLanes, r.lntGroups, r.boxes, r.gau, r.slots⟩) h

theorem Does.put_regs {L : List Zone} {s x : State} {v} (hz0 : L.contains .regs = true) (hr : Rises x.regs → Rises v)
    (h : Does L s x) : Does L s { x with regs := v } :=
  Does.upd (x := x) (fun z hz => by cases z <;> first | rfl | exact ⟨rfl, rfl⟩ | exact absurd (Zone.contains_of hz0) hz) (fun m => ⟨m.bytes, m.written, m.sram⟩)
    (fun c => ⟨c.log, c.txq, c.restore, c.queue, c.failed, c.retired⟩)
    (fun r => ⟨r.cb, hr r.regs, r.srcs, r.port0, r.port1, r.domains, r.lanes, r.downlinks, r.partners, r.groups, r.engines, r.ring, r.rewritten, r.badMarks, r.mem, r.streams, r.uplinks, r.uplGroups, r.retLanes, r.lntGroups, r.boxes, r.gau, r.slots⟩) h

theorem Does.put_flt {L : List Zone} {s x : State} {v} (hz0 : L.contains .flt = true) (hv : x.flt.log.length ≤ 1024 → v.log.length ≤ 1024) (hr : Rises x.flt.srcs → Rises v.srcs)
    (h : Does L s x) : Does L s { x with flt := v } :=
  Does.upd (x := x) (fun z hz => by cases z <;> first | rfl | exact ⟨rfl, rfl⟩ | exact absurd (Zone.contains_of hz0) hz) (fun m => ⟨m.bytes, m.written, m.sram⟩)
    (fun c => ⟨hv c.log, c.txq, c.restore, c.queue, c.failed, c.retired⟩)
    (fun r => ⟨r.cb, r.regs, hr r.srcs, r.port0, r.port1, r.domains, r.lanes, r.downlinks, r.partners, r.groups, r.engines, r.ring, r.rewritten, r.badMarks, r.mem, r.streams, r.uplinks, r.uplGroups, r.retLanes, r.lntGroups, r.boxes, r.gau, r.slots⟩) h

theorem Does.put_port0 {L : List Zone} {s x : State} {v} (hz0 : L.contains .port0 = true) (hr : x.port0.TablesRise → v.TablesRise)
    (h : Does L s x) : Does L s { x with port0 := v } :=
  Does.upd (x := x) (fun z hz => by cases z <;> first | rfl | exact ⟨rfl, rfl⟩ | exact absurd (Zone.contains_of hz0) hz) (fun m => ⟨m.bytes, m.written, m.sram⟩)
    (fun c => ⟨c.log, c.txq, c.restore, c.queue, c.failed, c.retired⟩)
    (fun r => ⟨r.cb, r.regs, r.srcs, hr r.port0, r.port1, r.domains, r.lanes, r.downlinks, r.partners, r.groups, r.engines, r.ring, r.rewritten, r.badMarks, r.mem, r.streams, r.uplinks, r.uplGroups, r.retLanes, r.lntGroups, r.boxes, r.gau, r.slots⟩) h

theorem Does.put_port1 {L : List Zone} {s x : State} {v} (hz0 : L.contains .port1 = true) (hr : x.port1.TablesRise → v.TablesRise)
    (h : Does L s x) : Does L s { x with port1 := v } :=
  Does.upd (x := x) (fun z hz => by cases z <;> first | rfl | exact ⟨rfl, rfl⟩ | exact absurd (Zone.contains_of hz0) hz) (fun m => ⟨m.bytes, m.written, m.sram⟩)
    (fun c => ⟨c.log, c.txq, c.restore, c.queue, c.failed, c.retired⟩)
    (fun r => ⟨r.cb, r.regs, r.srcs, r.port0, hr r.port1, r.domains, r.lanes, r.downlinks, r.partners, r.groups, r.engines, r.ring, r.rewritten, r.badMarks, r.mem, r.streams, r.uplinks, r.uplGroups, r.retLanes, r.lntGroups, r.boxes, r.gau, r.slots⟩) h

theorem Does.put_quo {L : List Zone} {s x : State} {v} (hz0 : L.contains .quo = true) (hv : x.quo.txq.length ≤ 16 → v.txq.length ≤ 16)
    (h : Does L s x) : Does L s { x with quo := v } :=
  Does.upd (x := x) (fun z hz => by cases z <;> first | rfl | exact ⟨rfl, rfl⟩ | exact absurd (Zone.contains_of hz0) hz) (fun m => ⟨m.bytes, m.written, m.sram⟩)
    (fun c => ⟨c.log, hv c.txq, c.restore, c.queue, c.failed, c.retired⟩)
    (fun r => ⟨r.cb, r.regs, r.srcs, r.port0, r.port1, r.domains, r.lanes, r.downlinks, r.partners, r.groups, r.engines, r.ring, r.rewritten, r.badMarks, r.mem, r.streams, r.uplinks, r.uplGroups, r.retLanes, r.lntGroups, r.boxes, r.gau, r.slots⟩) h

theorem Does.put_pwr {L : List Zone} {s x : State} {v} (hz0 : L.contains .pwr = true) (hv : v.trip = x.pwr.trip ∧ v.inReset = x.pwr.inReset) (hr : Rises x.pwr.domains → Rises v.domains)
    (h : Does L s x) : Does L s { x with pwr := v } :=
  Does.upd (x := x) (fun z hz => by cases z <;> first | rfl | exact hv | exact absurd (Zone.contains_of hz0) hz) (fun m => ⟨m.bytes, m.written, m.sram⟩)
    (fun c => ⟨c.log, c.txq, c.restore, c.queue, c.failed, c.retired⟩)
    (fun r => ⟨r.cb, r.regs, r.srcs, r.port0, r.port1, hr r.domains, r.lanes, r.downlinks, r.partners, r.groups, r.engines, r.ring, r.rewritten, r.badMarks, r.mem, r.streams, r.uplinks, r.uplGroups, r.retLanes, r.lntGroups, r.boxes, r.gau, r.slots⟩) h

theorem Does.put_lanes {L : List Zone} {s x : State} {v} (hz0 : L.contains .lanes = true) (hr : Rises x.lanes → Rises v)
    (h : Does L s x) : Does L s { x with lanes := v } :=
  Does.upd (x := x) (fun z hz => by cases z <;> first | rfl | exact ⟨rfl, rfl⟩ | exact absurd (Zone.contains_of hz0) hz) (fun m => ⟨m.bytes, m.written, m.sram⟩)
    (fun c => ⟨c.log, c.txq, c.restore, c.queue, c.failed, c.retired⟩)
    (fun r => ⟨r.cb, r.regs, r.srcs, r.port0, r.port1, r.domains, hr r.lanes, r.downlinks, r.partners, r.groups, r.engines, r.ring, r.rewritten, r.badMarks, r.mem, r.streams, r.uplinks, r.uplGroups, r.retLanes, r.lntGroups, r.boxes, r.gau, r.slots⟩) h

theorem Does.put_downlinks {L : List Zone} {s x : State} {v} (hz0 : L.contains .downlinks = true) (hr : Rises x.downlinks → Rises v)
    (h : Does L s x) : Does L s { x with downlinks := v } :=
  Does.upd (x := x) (fun z hz => by cases z <;> first | rfl | exact ⟨rfl, rfl⟩ | exact absurd (Zone.contains_of hz0) hz) (fun m => ⟨m.bytes, m.written, m.sram⟩)
    (fun c => ⟨c.log, c.txq, c.restore, c.queue, c.failed, c.retired⟩)
    (fun r => ⟨r.cb, r.regs, r.srcs, r.port0, r.port1, r.domains, r.lanes, hr r.downlinks, r.partners, r.groups, r.engines, r.ring, r.rewritten, r.badMarks, r.mem, r.streams, r.uplinks, r.uplGroups, r.retLanes, r.lntGroups, r.boxes, r.gau, r.slots⟩) h

theorem Does.put_partners {L : List Zone} {s x : State} {v} (hz0 : L.contains .partners = true) (hr : Rises x.partners → Rises v)
    (h : Does L s x) : Does L s { x with partners := v } :=
  Does.upd (x := x) (fun z hz => by cases z <;> first | rfl | exact ⟨rfl, rfl⟩ | exact absurd (Zone.contains_of hz0) hz) (fun m => ⟨m.bytes, m.written, m.sram⟩)
    (fun c => ⟨c.log, c.txq, c.restore, c.queue, c.failed, c.retired⟩)
    (fun r => ⟨r.cb, r.regs, r.srcs, r.port0, r.port1, r.domains, r.lanes, r.downlinks, hr r.partners, r.groups, r.engines, r.ring, r.rewritten, r.badMarks, r.mem, r.streams, r.uplinks, r.uplGroups, r.retLanes, r.lntGroups, r.boxes, r.gau, r.slots⟩) h

theorem Does.put_bindPending {L : List Zone} {s x : State} {v} (hz0 : L.contains .bindPending = true)
    (h : Does L s x) : Does L s { x with bindPending := v } :=
  Does.upd (x := x) (fun z hz => by cases z <;> first | rfl | exact ⟨rfl, rfl⟩ | exact absurd (Zone.contains_of hz0) hz) (fun m => ⟨m.bytes, m.written, m.sram⟩)
    (fun c => ⟨c.log, c.txq, c.restore, c.queue, c.failed, c.retired⟩)
    (fun r => ⟨r.cb, r.regs, r.srcs, r.port0, r.port1, r.domains, r.lanes, r.downlinks, r.partners, r.groups, r.engines, r.ring, r.rewritten, r.badMarks, r.mem, r.streams, r.uplinks, r.uplGroups, r.retLanes, r.lntGroups, r.boxes, r.gau, r.slots⟩) h

theorem Does.put_groups {L : List Zone} {s x : State} {v} (hz0 : L.contains .groups = true) (hr : Rises x.groups → Rises v)
    (h : Does L s x) : Does L s { x with groups := v } :=
  Does.upd (x := x) (fun z hz => by cases z <;> first | rfl | exact ⟨rfl, rfl⟩ | exact absurd (Zone.contains_of hz0) hz) (fun m => ⟨m.bytes, m.written, m.sram⟩)
    (fun c => ⟨c.log, c.txq, c.restore, c.queue, c.failed, c.retired⟩)
    (fun r => ⟨r.cb, r.regs, r.srcs, r.port0, r.port1, r.domains, r.lanes, r.downlinks, r.partners, hr r.groups, r.engines, r.ring, r.rewritten, r.badMarks, r.mem, r.streams, r.uplinks, r.uplGroups, r.retLanes, r.lntGroups, r.boxes, r.gau, r.slots⟩) h

theorem Does.put_sram {L : List Zone} {s x : State} {v} (hz0 : L.contains .sram = true) (hv : smWf SramBlock.blank x.sram = true → smWf SramBlock.blank v = true)
    (h : Does L s x) : Does L s { x with sram := v } :=
  Does.upd (x := x) (fun z hz => by cases z <;> first | rfl | exact ⟨rfl, rfl⟩ | exact absurd (Zone.contains_of hz0) hz) (fun m => ⟨m.bytes, m.written, hv m.sram⟩)
    (fun c => ⟨c.log, c.txq, c.restore, c.queue, c.failed, c.retired⟩)
    (fun r => ⟨r.cb, r.regs, r.srcs, r.port0, r.port1, r.domains, r.lanes, r.downlinks, r.partners, r.groups, r.engines, r.ring, r.rewritten, r.badMarks, r.mem, r.streams, r.uplinks, r.uplGroups, r.retLanes, r.lntGroups, r.boxes, r.gau, r.slots⟩) h

theorem Does.put_ash {L : List Zone} {s x : State} {v} (hz0 : L.contains .ash = true) (hr : Rises x.ash.engines → Rises v.engines)
    (h : Does L s x) : Does L s { x with ash := v } :=
  Does.upd (x := x) (fun z hz => by cases z <;> first | rfl | exact ⟨rfl, rfl⟩ | exact absurd (Zone.contains_of hz0) hz) (fun m => ⟨m.bytes, m.written, m.sram⟩)
    (fun c => ⟨c.log, c.txq, c.restore, c.queue, c.failed, c.retired⟩)
    (fun r => ⟨r.cb, r.regs, r.srcs, r.port0, r.port1, r.domains, r.lanes, r.downlinks, r.partners, r.groups, hr r.engines, r.ring, r.rewritten, r.badMarks, r.mem, r.streams, r.uplinks, r.uplGroups, r.retLanes, r.lntGroups, r.boxes, r.gau, r.slots⟩) h

theorem Does.put_ring {L : List Zone} {s x : State} {v} (hz0 : L.contains .ring = true) (hr : x.ring.TablesRise → v.TablesRise)
    (h : Does L s x) : Does L s { x with ring := v } :=
  Does.upd (x := x) (fun z hz => by cases z <;> first | rfl | exact ⟨rfl, rfl⟩ | exact absurd (Zone.contains_of hz0) hz) (fun m => ⟨m.bytes, m.written, m.sram⟩)
    (fun c => ⟨c.log, c.txq, c.restore, c.queue, c.failed, c.retired⟩)
    (fun r => ⟨r.cb, r.regs, r.srcs, r.port0, r.port1, r.domains, r.lanes, r.downlinks, r.partners, r.groups, r.engines, hr r.ring, r.rewritten, r.badMarks, r.mem, r.streams, r.uplinks, r.uplGroups, r.retLanes, r.lntGroups, r.boxes, r.gau, r.slots⟩) h

theorem Does.put_qry {L : List Zone} {s x : State} {v} (hz0 : L.contains .qry = true) (hr : Rises x.qry.rewritten → Rises v.rewritten)
    (h : Does L s x) : Does L s { x with qry := v } :=
  Does.upd (x := x) (fun z hz => by cases z <;> first | rfl | exact ⟨rfl, rfl⟩ | exact absurd (Zone.contains_of hz0) hz) (fun m => ⟨m.bytes, m.written, m.sram⟩)
    (fun c => ⟨c.log, c.txq, c.restore, c.queue, c.failed, c.retired⟩)
    (fun r => ⟨r.cb, r.regs, r.srcs, r.port0, r.port1, r.domains, r.lanes, r.downlinks, r.partners, r.groups, r.engines, r.ring, hr r.rewritten, r.badMarks, r.mem, r.streams, r.uplinks, r.uplGroups, r.retLanes, r.lntGroups, r.boxes, r.gau, r.slots⟩) h

theorem Does.put_hbm {L : List Zone} {s x : State} {v} (hz0 : L.contains .hbm = true) (hb : Memory.wf x.hbm.bytes = true → Memory.wf v.bytes = true) (hw : smWf false x.hbm.written = true → smWf false v.written = true)
    (hn : x.hbm.retired.length ≤ 4096 → v.retired.length ≤ 4096) (hr : Rises x.hbm.badMarks → Rises v.badMarks)
    (h : Does L s x) : Does L s { x with hbm := v } :=
  Does.upd (x := x) (fun z hz => by cases z <;> first | rfl | exact ⟨rfl, rfl⟩ | exact absurd (Zone.contains_of hz0) hz) (fun m => ⟨hb m.bytes, hw m.written, m.sram⟩)
    (fun c => ⟨c.log, c.txq, c.restore, c.queue, c.failed, hn c.retired⟩)
    (fun r => ⟨r.cb, r.regs, r.srcs, r.port0, r.port1, r.domains, r.lanes, r.downlinks, r.partners, r.groups, r.engines, r.ring, r.rewritten, hr r.badMarks, r.mem, r.streams, r.uplinks, r.uplGroups, r.retLanes, r.lntGroups, r.boxes, r.gau, r.slots⟩) h

theorem Does.put_mem {L : List Zone} {s x : State} {v} (hz0 : L.contains .mem = true) (hv : x.mem.restore.length ≤ 128 → v.restore.length ≤ 128) (hr : x.mem.TablesRise → v.TablesRise)
    (h : Does L s x) : Does L s { x with mem := v } :=
  Does.upd (x := x) (fun z hz => by cases z <;> first | rfl | exact ⟨rfl, rfl⟩ | exact absurd (Zone.contains_of hz0) hz) (fun m => ⟨m.bytes, m.written, m.sram⟩)
    (fun c => ⟨c.log, c.txq, hv c.restore, c.queue, c.failed, c.retired⟩)
    (fun r => ⟨r.cb, r.regs, r.srcs, r.port0, r.port1, r.domains, r.lanes, r.downlinks, r.partners, r.groups, r.engines, r.ring, r.rewritten, r.badMarks, hr r.mem, r.streams, r.uplinks, r.uplGroups, r.retLanes, r.lntGroups, r.boxes, r.gau, r.slots⟩) h

theorem Does.put_mrt {L : List Zone} {s x : State} {v} (hz0 : L.contains .mrt = true)
    (h : Does L s x) : Does L s { x with mrt := v } :=
  Does.upd (x := x) (fun z hz => by cases z <;> first | rfl | exact ⟨rfl, rfl⟩ | exact absurd (Zone.contains_of hz0) hz) (fun m => ⟨m.bytes, m.written, m.sram⟩)
    (fun c => ⟨c.log, c.txq, c.restore, c.queue, c.failed, c.retired⟩)
    (fun r => ⟨r.cb, r.regs, r.srcs, r.port0, r.port1, r.domains, r.lanes, r.downlinks, r.partners, r.groups, r.engines, r.ring, r.rewritten, r.badMarks, r.mem, r.streams, r.uplinks, r.uplGroups, r.retLanes, r.lntGroups, r.boxes, r.gau, r.slots⟩) h

theorem Does.put_streams {L : List Zone} {s x : State} {v} (hz0 : L.contains .streams = true) (hr : Rises x.streams → Rises v)
    (h : Does L s x) : Does L s { x with streams := v } :=
  Does.upd (x := x) (fun z hz => by cases z <;> first | rfl | exact ⟨rfl, rfl⟩ | exact absurd (Zone.contains_of hz0) hz) (fun m => ⟨m.bytes, m.written, m.sram⟩)
    (fun c => ⟨c.log, c.txq, c.restore, c.queue, c.failed, c.retired⟩)
    (fun r => ⟨r.cb, r.regs, r.srcs, r.port0, r.port1, r.domains, r.lanes, r.downlinks, r.partners, r.groups, r.engines, r.ring, r.rewritten, r.badMarks, r.mem, hr r.streams, r.uplinks, r.uplGroups, r.retLanes, r.lntGroups, r.boxes, r.gau, r.slots⟩) h

theorem Does.put_uplinks {L : List Zone} {s x : State} {v} (hz0 : L.contains .uplinks = true) (hr : Rises x.uplinks → Rises v)
    (h : Does L s x) : Does L s { x with uplinks := v } :=
  Does.upd (x := x) (fun z hz => by cases z <;> first | rfl | exact ⟨rfl, rfl⟩ | exact absurd (Zone.contains_of hz0) hz) (fun m => ⟨m.bytes, m.written, m.sram⟩)
    (fun c => ⟨c.log, c.txq, c.restore, c.queue, c.failed, c.retired⟩)
    (fun r => ⟨r.cb, r.regs, r.srcs, r.port0, r.port1, r.domains, r.lanes, r.downlinks, r.partners, r.groups, r.engines, r.ring, r.rewritten, r.badMarks, r.mem, r.streams, hr r.uplinks, r.uplGroups, r.retLanes, r.lntGroups, r.boxes, r.gau, r.slots⟩) h

theorem Does.put_uplGroups {L : List Zone} {s x : State} {v} (hz0 : L.contains .uplGroups = true) (hr : Rises x.uplGroups → Rises v)
    (h : Does L s x) : Does L s { x with uplGroups := v } :=
  Does.upd (x := x) (fun z hz => by cases z <;> first | rfl | exact ⟨rfl, rfl⟩ | exact absurd (Zone.contains_of hz0) hz) (fun m => ⟨m.bytes, m.written, m.sram⟩)
    (fun c => ⟨c.log, c.txq, c.restore, c.queue, c.failed, c.retired⟩)
    (fun r => ⟨r.cb, r.regs, r.srcs, r.port0, r.port1, r.domains, r.lanes, r.downlinks, r.partners, r.groups, r.engines, r.ring, r.rewritten, r.badMarks, r.mem, r.streams, r.uplinks, hr r.uplGroups, r.retLanes, r.lntGroups, r.boxes, r.gau, r.slots⟩) h

theorem Does.put_retLanes {L : List Zone} {s x : State} {v} (hz0 : L.contains .retLanes = true) (hr : Rises x.retLanes → Rises v)
    (h : Does L s x) : Does L s { x with retLanes := v } :=
  Does.upd (x := x) (fun z hz => by cases z <;> first | rfl | exact ⟨rfl, rfl⟩ | exact absurd (Zone.contains_of hz0) hz) (fun m => ⟨m.bytes, m.written, m.sram⟩)
    (fun c => ⟨c.log, c.txq, c.restore, c.queue, c.failed, c.retired⟩)
    (fun r => ⟨r.cb, r.regs, r.srcs, r.port0, r.port1, r.domains, r.lanes, r.downlinks, r.partners, r.groups, r.engines, r.ring, r.rewritten, r.badMarks, r.mem, r.streams, r.uplinks, r.uplGroups, hr r.retLanes, r.lntGroups, r.boxes, r.gau, r.slots⟩) h

theorem Does.put_lnt {L : List Zone} {s x : State} {v} (hz0 : L.contains .lnt = true) (hr : x.lnt.TablesRise → v.TablesRise)
    (h : Does L s x) : Does L s { x with lnt := v } :=
  Does.upd (x := x) (fun z hz => by cases z <;> first | rfl | exact ⟨rfl, rfl⟩ | exact absurd (Zone.contains_of hz0) hz) (fun m => ⟨m.bytes, m.written, m.sram⟩)
    (fun c => ⟨c.log, c.txq, c.restore, c.queue, c.failed, c.retired⟩)
    (fun r => ⟨r.cb, r.regs, r.srcs, r.port0, r.port1, r.domains, r.lanes, r.downlinks, r.partners, r.groups, r.engines, r.ring, r.rewritten, r.badMarks, r.mem, r.streams, r.uplinks, r.uplGroups, r.retLanes, hr r.lntGroups, r.boxes, r.gau, r.slots⟩) h

theorem Does.put_ldg {L : List Zone} {s x : State} {v} (hz0 : L.contains .ldg = true) (hr : Rises x.ldg.boxes → Rises v.boxes)
    (h : Does L s x) : Does L s { x with ldg := v } :=
  Does.upd (x := x) (fun z hz => by cases z <;> first | rfl | exact ⟨rfl, rfl⟩ | exact absurd (Zone.contains_of hz0) hz) (fun m => ⟨m.bytes, m.written, m.sram⟩)
    (fun c => ⟨c.log, c.txq, c.restore, c.queue, c.failed, c.retired⟩)
    (fun r => ⟨r.cb, r.regs, r.srcs, r.port0, r.port1, r.domains, r.lanes, r.downlinks, r.partners, r.groups, r.engines, r.ring, r.rewritten, r.badMarks, r.mem, r.streams, r.uplinks, r.uplGroups, r.retLanes, r.lntGroups, hr r.boxes, r.gau, r.slots⟩) h

theorem Does.put_gau {L : List Zone} {s x : State} {v} (hz0 : L.contains .gau = true) (hr : x.gau.TablesRise → v.TablesRise)
    (h : Does L s x) : Does L s { x with gau := v } :=
  Does.upd (x := x) (fun z hz => by cases z <;> first | rfl | exact ⟨rfl, rfl⟩ | exact absurd (Zone.contains_of hz0) hz) (fun m => ⟨m.bytes, m.written, m.sram⟩)
    (fun c => ⟨c.log, c.txq, c.restore, c.queue, c.failed, c.retired⟩)
    (fun r => ⟨r.cb, r.regs, r.srcs, r.port0, r.port1, r.domains, r.lanes, r.downlinks, r.partners, r.groups, r.engines, r.ring, r.rewritten, r.badMarks, r.mem, r.streams, r.uplinks, r.uplGroups, r.retLanes, r.lntGroups, r.boxes, hr r.gau, r.slots⟩) h

theorem Does.put_plb {L : List Zone} {s x : State} {v} (hz0 : L.contains .plb = true) (hv : x.plb.queue.length ≤ 256 → v.queue.length ≤ 256) (hr : Rises x.plb.slots → Rises v.slots)
    (h : Does L s x) : Does L s { x with plb := v } :=
  Does.upd (x := x) (fun z hz => by cases z <;> first | rfl | exact ⟨rfl, rfl⟩ | exact absurd (Zone.contains_of hz0) hz) (fun m => ⟨m.bytes, m.written, m.sram⟩)
    (fun c => ⟨c.log, c.txq, c.restore, hv c.queue, c.failed, c.retired⟩)
    (fun r => ⟨r.cb, r.regs, r.srcs, r.port0, r.port1, r.domains, r.lanes, r.downlinks, r.partners, r.groups, r.engines, r.ring, r.rewritten, r.badMarks, r.mem, r.streams, r.uplinks, r.uplGroups, r.retLanes, r.lntGroups, r.boxes, r.gau, hr r.slots⟩) h

theorem Does.put_cns {L : List Zone} {s x : State} {v} (hz0 : L.contains .cns = true) (hv : x.cns.FailedFit → v.FailedFit)
    (h : Does L s x) : Does L s { x with cns := v } :=
  Does.upd (x := x) (fun z hz => by cases z <;> first | rfl | exact ⟨rfl, rfl⟩ | exact absurd (Zone.contains_of hz0) hz) (fun m => ⟨m.bytes, m.written, m.sram⟩)
    (fun c => ⟨c.log, c.txq, c.restore, c.queue, hv c.failed, c.retired⟩)
    (fun r => ⟨r.cb, r.regs, r.srcs, r.port0, r.port1, r.domains, r.lanes, r.downlinks, r.partners, r.groups, r.engines, r.ring, r.rewritten, r.badMarks, r.mem, r.streams, r.uplinks, r.uplGroups, r.retLanes, r.lntGroups, r.boxes, r.gau, r.slots⟩) h

theorem Does.put_jtag {L : List Zone} {s x : State} {v} (hz0 : L.contains .jtag = true)
    (h : Does L s x) : Does L s { x with jtag := v } :=
  Does.upd (x := x) (fun z hz => by cases z <;> first | rfl | exact ⟨rfl, rfl⟩ | exact absurd (Zone.contains_of hz0) hz) (fun m => ⟨m.bytes, m.written, m.sram⟩)
    (fun c => ⟨c.log, c.txq, c.restore, c.queue, c.failed, c.retired⟩)
    (fun r => ⟨r.cb, r.regs, r.srcs, r.port0, r.port1, r.domains, r.lanes, r.downlinks, r.partners, r.groups, r.engines, r.ring, r.rewritten, r.badMarks, r.mem, r.streams, r.uplinks, r.uplGroups, r.retLanes, r.lntGroups, r.boxes, r.gau, r.slots⟩) h

theorem Does.foldl {α : Type} {L : List Zone} {s x : State} {l : List α} {f : State → α → State} (hf : ∀ t i, Does L s t → Does L s (f t i))
    (h : Does L s x) : Does L s (l.foldl f x) := by
  induction l generalizing x with
  | nil => exact h
  | cons a t ih => exact ih (hf _ _ h)
theorem Does.forL {α : Type} {L : List Zone} {s x : State} {l : List α} {f : α → State → State} (hf : ∀ i t, Does L s t → Does L s (f i t))
    (h : Does L s x) : Does L s (forL l f x) := Does.foldl (fun t i k => hf i t k) h
theorem Does.forN {L : List Zone} {s x : State} {n : Nat} {f : Nat → State → State} (hf : ∀ i t, Does L s t → Does L s (f i t))
    (h : Does L s x) : Does L s (forN n f x) := Does.foldl (fun t i k => hf i t k) h

theorem Does.times {L : List Zone} {s x : State} {n : Nat} {f : State → State} (hf : ∀ t, Does L s t → Does L s (f t)) (h : Does L s x) :
    Does L s (times f n x) := by
  induction n generalizing x with
  | zero => exact h
  | succ n ih => exact ih (hf _ h)
theorem Does.foldl1 {α β : Type} {L : List Zone} {s : State} {x : State × β} {l : List α} {f : State × β → α → State × β}
    (hf : ∀ a i, Does L s a.1 → Does L s (f a i).1) (h : Does L s x.1) : Does L s (l.foldl f x).1 := by
  induction l generalizing x with
  | nil => exact h
  | cons a t ih => exact ih (hf _ _ h)
theorem Does.foldl2 {α β : Type} {L : List Zone} {s : State} {x : β × State} {l : List α} {f : β × State → α → β × State}
    (hf : ∀ a i, Does L s a.2 → Does L s (f a i).2) (h : Does L s x.2) : Does L s (l.foldl f x).2 := by
  induction l generalizing x with
  | nil => exact h
  | cons a t ih => exact ih (hf _ _ h)
theorem Does.foldl22 {α β γ : Type} {L : List Zone} {s : State} {x : β × γ × State} {l : List α} {f : β × γ × State → α → β × γ × State}
    (hf : ∀ a i, Does L s a.2.2 → Does L s (f a i).2.2) (h : Does L s x.2.2) : Does L s (l.foldl f x).2.2 := by
  induction l generalizing x with
  | nil => exact h
  | cons a t ih => exact ih (hf _ _ h)

/-! ### Ops -/

theorem State.modBtr_does (f : Buttress → Buttress) (s : State) (hr : ∀ y, Rises y.cb → Rises (f y).cb) : Does [.btr] s (s.modBtr f) :=
  Does.put_btr (by decide) (hr _) (Does.refl _ _)

theorem State.modFlt_does (f : Faults → Faults) (s : State) (hf : ∀ y, y.log.length ≤ 1024 → (f y).log.length ≤ 1024)
    (hr : ∀ y, Rises y.srcs → Rises (f y).srcs) : Does [.flt] s (s.modFlt f) :=
  Does.put_flt (by decide) (hf _) (hr _) (Does.refl _ _)

theorem State.modQuo_does (f : Quoin → Quoin) (s : State) (hf : ∀ y, y.txq.length ≤ 16 → (f y).txq.length ≤ 16) : Does [.quo] s (s.modQuo f) :=
  Does.put_quo (by decide) (hf _) (Does.refl _ _)

theorem State.modPort_does (p : Nat) (f : HostPort → HostPort) (s : State) (hr : ∀ y, y.TablesRise → (f y).TablesRise) : Does [.port0, .port1] s (s.modPort p f) := by
  unfold State.modPort
  split
  · exact Does.put_port0 (by decide) (hr _) (Does.refl _ _)
  · exact Does.put_port1 (by decide) (hr _) (Does.refl _ _)

theorem setCell_does (r : Reg) (i j : Nat) (w : Word) (s : State) : Does [.regs] s (setCell r i j w s) := by
  unfold setCell
  repeat' (first
    | with_reducible (first
        | exact Does.refl _ _ | assumption | apply Does.ite | apply Does.put_regs)
    | exact fun _ h => h | exact fun h => h | exact fun _ => ⟨rfl, rfl⟩ | exact ⟨rfl, rfl⟩ | (intro h; repeat' (first | assumption | exact h.1 | exact h.2 | exact h.2.1 | exact h.2.2 | with_reducible apply rises_put | with_reducible apply rises_upd | apply rises_filter | apply rises_map | exact fun _ => rfl | (intro _; split <;> rfl) | constructor)) | decide | intro _ _ _ | intro _ _ | split | dsimp only)

theorem modCell_does (r : Reg) (i j : Nat) (f : Word → Word) (s : State) : Does [.regs] s (modCell r i j f s) := by
  unfold modCell
  repeat' (first
    | with_reducible (first
        | exact Does.refl _ _ | assumption | apply Does.ite | apply Does.step (setCell_does ..))
    | exact fun _ h => h | exact fun h => h | exact fun _ => ⟨rfl, rfl⟩ | exact ⟨rfl, rfl⟩ | decide | intro _ _ _ | intro _ _ | split | dsimp only)

theorem setCb_does (r : Reg) (i : Nat) (x : CbReg) (s : State) : Does [.btr] s (setCb r i x s) := by
  unfold setCb
  repeat' (first
    | with_reducible (first
        | exact Does.refl _ _ | assumption | apply Does.ite | apply Does.step (State.modBtr_does ..))
    | exact fun _ h => h | exact fun h => h | exact fun _ => ⟨rfl, rfl⟩ | exact ⟨rfl, rfl⟩ | (intro _ h; repeat' (first | assumption | exact h.1 | exact h.2 | exact h.2.1 | exact h.2.2 | with_reducible apply rises_put | with_reducible apply rises_upd | apply rises_filter | apply rises_map | exact fun _ => rfl | (intro _; split <;> rfl) | constructor)) | decide | intro _ _ _ | intro _ _ | split | dsimp only)

theorem signalPort_does (p v : Nat) (s : State) : Does [.port0, .port1] s (signalPort p v s) := by
  unfold signalPort
  repeat' (first
    | with_reducible (first
        | exact Does.refl _ _ | assumption | apply Does.ite | apply Does.step (State.modPort_does ..))
    | exact fun _ h => h | exact fun h => h | exact fun _ => ⟨rfl, rfl⟩ | exact ⟨rfl, rfl⟩ | (intro _ h; repeat' (first | assumption | exact h.1 | exact h.2 | exact h.2.1 | exact h.2.2 | with_reducible apply rises_put | with_reducible apply rises_upd | apply rises_filter | apply rises_map | exact fun _ => rfl | (intro _; split <;> rfl) | constructor)) | decide | intro _ _ _ | intro _ _ | split | dsimp only)

theorem signal_does (v : Nat) (s : State) : Does [.port0, .port1] s (signal v s) := by
  unfold signal
  repeat' (first
    | with_reducible (first
        | exact Does.refl _ _ | assumption | apply Does.ite | apply Does.step (signalPort_does ..))
    | exact fun _ h => h | exact fun h => h | exact fun _ => ⟨rfl, rfl⟩ | exact ⟨rfl, rfl⟩ | decide | intro _ _ _ | intro _ _ | split | dsimp only)

theorem event_does (r : Reg) (i : Nat) (b : Nat) (s : State) : Does [.regs, .port0, .port1] s (event r i b s) := by
  unfold event
  repeat' (first
    | with_reducible (first
        | exact Does.refl _ _ | assumption | apply Does.ite | apply Does.step (modCell_does ..) | apply Does.step (signal_does ..))
    | exact fun _ h => h | exact fun h => h | exact fun _ => ⟨rfl, rfl⟩ | exact ⟨rfl, rfl⟩ | decide | intro _ _ _ | intro _ _ | split | dsimp only)

theorem count_does (r : Reg) (i hi lo : Nat) (n : Nat) (s : State) : Does [.regs] s (count r i hi lo n s) := by
  unfold count
  repeat' (first
    | with_reducible (first
        | exact Does.refl _ _ | assumption | apply Does.ite | apply Does.step (modCell_does ..))
    | exact fun _ h => h | exact fun h => h | exact fun _ => ⟨rfl, rfl⟩ | exact ⟨rfl, rfl⟩ | decide | intro _ _ _ | intro _ _ | split | dsimp only)

theorem countWrap_does (r : Reg) (i hi lo : Nat) (s : State) : Does [.regs] s (countWrap r i hi lo s) := by
  unfold countWrap
  repeat' (first
    | with_reducible (first
        | exact Does.refl _ _ | assumption | apply Does.ite | apply Does.step (modCell_does ..))
    | exact fun _ h => h | exact fun h => h | exact fun _ => ⟨rfl, rfl⟩ | exact ⟨rfl, rfl⟩ | decide | intro _ _ _ | intro _ _ | split | dsimp only)

theorem clearFld_does (r : Reg) (i hi lo : Nat) (s : State) : Does [.regs] s (clearFld r i hi lo s) := by
  unfold clearFld
  repeat' (first
    | with_reducible (first
        | exact Does.refl _ _ | assumption | apply Does.ite | apply Does.step (modCell_does ..))
    | exact fun _ h => h | exact fun h => h | exact fun _ => ⟨rfl, rfl⟩ | exact ⟨rfl, rfl⟩ | decide | intro _ _ _ | intro _ _ | split | dsimp only)

theorem raise_does (src idx : Nat) (cap : List Word) (s : State) (tgt : Target) (master : Nat) (access : Nat) : Does [.flt] s (raise src idx cap s tgt master access) := by
  unfold raise
  repeat' (first
    | with_reducible (first
        | exact Does.refl _ _ | assumption | apply Does.ite | apply Does.step (State.modFlt_does ..))
    | exact fun _ h => h | exact fun h => h | exact fun _ => ⟨rfl, rfl⟩ | exact ⟨rfl, rfl⟩ | decide | intro _ _ _ | intro _ _ | split | dsimp only)

/-! ### Groups -/

theorem modLane_does (l : Nat) (f : Lane → Lane) (s : State) : Does [.lanes] s (modLane l f s) := by
  unfold modLane
  repeat' (first
    | with_reducible (first
        | exact Does.refl _ _ | assumption | apply Does.ite | apply Does.put_lanes)
    | exact fun _ h => h | exact fun h => h | exact fun _ => ⟨rfl, rfl⟩ | exact ⟨rfl, rfl⟩ | (intro h; repeat' (first | assumption | exact h.1 | exact h.2 | exact h.2.1 | exact h.2.2 | with_reducible apply rises_put | with_reducible apply rises_upd | apply rises_filter | apply rises_map | exact fun _ => rfl | (intro _; split <;> rfl) | constructor)) | decide | intro _ _ _ | intro _ _ | split | dsimp only)

theorem modDl_does (d : Nat) (f : Downlink → Downlink) (s : State) : Does [.downlinks] s (modDl d f s) := by
  unfold modDl
  repeat' (first
    | with_reducible (first
        | exact Does.refl _ _ | assumption | apply Does.ite | apply Does.put_downlinks)
    | exact fun _ h => h | exact fun h => h | exact fun _ => ⟨rfl, rfl⟩ | exact ⟨rfl, rfl⟩ | (intro h; repeat' (first | assumption | exact h.1 | exact h.2 | exact h.2.1 | exact h.2.2 | with_reducible apply rises_put | with_reducible apply rises_upd | apply rises_filter | apply rises_map | exact fun _ => rfl | (intro _; split <;> rfl) | constructor)) | decide | intro _ _ _ | intro _ _ | split | dsimp only)

theorem modPartner_does (p : Nat) (f : Partner → Partner) (s : State) : Does [.partners] s (modPartner p f s) := by
  unfold modPartner
  repeat' (first
    | with_reducible (first
        | exact Does.refl _ _ | assumption | apply Does.ite | apply Does.put_partners)
    | exact fun _ h => h | exact fun h => h | exact fun _ => ⟨rfl, rfl⟩ | exact ⟨rfl, rfl⟩ | (intro h; repeat' (first | assumption | exact h.1 | exact h.2 | exact h.2.1 | exact h.2.2 | with_reducible apply rises_put | with_reducible apply rises_upd | apply rises_filter | apply rises_map | exact fun _ => rfl | (intro _; split <;> rfl) | constructor)) | decide | intro _ _ _ | intro _ _ | split | dsimp only)

theorem modGroup_does (g : Nat) (f : TableGroup → TableGroup) (s : State) : Does [.groups] s (modGroup g f s) := by
  unfold modGroup
  repeat' (first
    | with_reducible (first
        | exact Does.refl _ _ | assumption | apply Does.ite | apply Does.put_groups)
    | exact fun _ h => h | exact fun h => h | exact fun _ => ⟨rfl, rfl⟩ | exact ⟨rfl, rfl⟩ | (intro h; repeat' (first | assumption | exact h.1 | exact h.2 | exact h.2.1 | exact h.2.2 | with_reducible apply rises_put | with_reducible apply rises_upd | apply rises_filter | apply rises_map | exact fun _ => rfl | (intro _; split <;> rfl) | constructor)) | decide | intro _ _ _ | intro _ _ | split | dsimp only)

theorem State.modAsh_does (f : Ashlar → Ashlar) (s : State) (hr : ∀ y, Rises y.engines → Rises (f y).engines) : Does [.ash] s (s.modAsh f) :=
  Does.put_ash (by decide) (hr _) (Does.refl _ _)

theorem modEngine_does (e : Nat) (f : Engine → Engine) (s : State) : Does [.ash] s (modEngine e f s) := by
  unfold modEngine
  repeat' (first
    | with_reducible (first
        | exact Does.refl _ _ | assumption | apply Does.ite | apply Does.step (State.modAsh_does ..))
    | exact fun _ h => h | exact fun h => h | exact fun _ => ⟨rfl, rfl⟩ | exact ⟨rfl, rfl⟩ | (intro _ h; repeat' (first | assumption | exact h.1 | exact h.2 | exact h.2.1 | exact h.2.2 | with_reducible apply rises_put | with_reducible apply rises_upd | apply rises_filter | apply rises_map | exact fun _ => rfl | (intro _; split <;> rfl) | constructor)) | decide | intro _ _ _ | intro _ _ | split | dsimp only)

theorem addAccount_does (g : Nat) (x : Account) (s : State) : Does [.regs, .flt, .groups] s (addAccount g x s) := by
  unfold addAccount
  repeat' (first
    | with_reducible (first
        | exact Does.refl _ _ | assumption | apply Does.ite | apply Does.step (count_does ..) | apply Does.step (modCell_does ..)
        | apply Does.step (modGroup_does ..) | apply Does.step (raise_does ..))
    | exact fun _ h => h | exact fun h => h | exact fun _ => ⟨rfl, rfl⟩ | exact ⟨rfl, rfl⟩ | decide | intro _ _ _ | intro _ _ | split | dsimp only)

theorem account_does (p cause first last cnt : Nat) (s : State) : Does [.regs, .flt, .groups] s (account p cause first last cnt s) := by
  unfold account
  repeat' (first
    | with_reducible (first
        | exact Does.refl _ _ | assumption | apply Does.ite | apply Does.step (addAccount_does ..))
    | exact fun _ h => h | exact fun h => h | exact fun _ => ⟨rfl, rfl⟩ | exact ⟨rfl, rfl⟩ | decide | intro _ _ _ | intro _ _ | split | dsimp only)

theorem openLossAccount_does (l lossCause : Nat) (s : State) : Does [.regs, .flt, .groups] s (openLossAccount l lossCause s) := by
  unfold openLossAccount
  repeat' (first
    | with_reducible (first
        | exact Does.refl _ _ | assumption | apply Does.ite | apply Does.step (modGroup_does ..) | apply Does.step (addAccount_does ..))
    | exact fun _ h => h | exact fun h => h | exact fun _ => ⟨rfl, rfl⟩ | exact ⟨rfl, rfl⟩ | decide | intro _ _ _ | intro _ _ | split | dsimp only)

theorem closeLossAccount_does (l b : Nat) (s : State) : Does [.groups] s (closeLossAccount l b s) := by
  unfold closeLossAccount
  repeat' (first
    | with_reducible (first
        | exact Does.refl _ _ | assumption | apply Does.ite | apply Does.step (modGroup_does ..))
    | exact fun _ h => h | exact fun h => h | exact fun _ => ⟨rfl, rfl⟩ | exact ⟨rfl, rfl⟩ | decide | intro _ _ _ | intro _ _ | split | dsimp only)

theorem groupAvail_does (g : Nat) (s : State) : Does [.groups] s (groupAvail g s) := by
  unfold groupAvail
  repeat' (first
    | with_reducible (first
        | exact Does.refl _ _ | assumption | apply Does.ite | apply Does.step (modGroup_does ..))
    | exact fun _ h => h | exact fun h => h | exact fun _ => ⟨rfl, rfl⟩ | exact ⟨rfl, rfl⟩ | decide | intro _ _ _ | intro _ _ | split | dsimp only)

theorem dropAccounts_does (g : Nat) (s : State) : Does [.groups] s (dropAccounts g s) := by
  unfold dropAccounts
  repeat' (first
    | with_reducible (first
        | exact Does.refl _ _ | assumption | apply Does.ite | apply Does.step (modGroup_does ..))
    | exact fun _ h => h | exact fun h => h | exact fun _ => ⟨rfl, rfl⟩ | exact ⟨rfl, rfl⟩ | decide | intro _ _ _ | intro _ _ | split | dsimp only)

/-! ### Lanes -/

theorem restartDue_does (l : Nat) (s : State) : Does [.downlinks] s (restartDue l s) := by
  unfold restartDue
  repeat' (first
    | with_reducible (first
        | exact Does.refl _ _ | assumption | apply Does.ite | apply Does.step (modDl_does ..))
    | exact fun _ h => h | exact fun h => h | exact fun _ => ⟨rfl, rfl⟩ | exact ⟨rfl, rfl⟩ | decide | intro _ _ _ | intro _ _ | split | dsimp only)

theorem activeDue_does (l : Nat) (s : State) : Does [.downlinks] s (activeDue l s) := by
  unfold activeDue
  repeat' (first
    | with_reducible (first
        | exact Does.refl _ _ | assumption | apply Does.ite | apply Does.step (modDl_does ..))
    | exact fun _ h => h | exact fun h => h | exact fun _ => ⟨rfl, rfl⟩ | exact ⟨rfl, rfl⟩ | decide | intro _ _ _ | intro _ _ | split | dsimp only)

theorem enterTrain_does (l : Nat) (s : State) : Does [.lanes, .downlinks] s (enterTrain l s) := by
  unfold enterTrain
  repeat' (first
    | with_reducible (first
        | exact Does.refl _ _ | assumption | apply Does.ite | apply Does.step (modLane_does ..) | apply Does.step (restartDue_does ..))
    | exact fun _ h => h | exact fun h => h | exact fun _ => ⟨rfl, rfl⟩ | exact ⟨rfl, rfl⟩ | decide | intro _ _ _ | intro _ _ | split | dsimp only)

theorem enterDetect_does (l : Nat) (s : State) : Does [.lanes] s (enterDetect l s) := by
  unfold enterDetect
  repeat' (first
    | with_reducible (first
        | exact Does.refl _ _ | assumption | apply Does.ite | apply Does.step (modLane_does ..))
    | exact fun _ h => h | exact fun h => h | exact fun _ => ⟨rfl, rfl⟩ | exact ⟨rfl, rfl⟩ | decide | intro _ _ _ | intro _ _ | split | dsimp only)

theorem enterDown_does (l : Nat) (s : State) : Does [.lanes] s (enterDown l s) := by
  unfold enterDown
  repeat' (first
    | with_reducible (first
        | exact Does.refl _ _ | assumption | apply Does.ite | apply Does.step (modLane_does ..))
    | exact fun _ h => h | exact fun h => h | exact fun _ => ⟨rfl, rfl⟩ | exact ⟨rfl, rfl⟩ | decide | intro _ _ _ | intro _ _ | split | dsimp only)

theorem enterActive_does (l : Nat) (s : State) : Does [.regs, .port0, .port1, .lanes, .downlinks, .groups] s (enterActive l s) := by
  unfold enterActive
  repeat' (first
    | with_reducible (first
        | exact Does.refl _ _ | assumption | apply Does.ite | apply Does.step (activeDue_does ..) | apply Does.step (closeLossAccount_does ..)
        | apply Does.step (countWrap_does ..) | apply Does.step (event_does ..) | apply Does.step (modLane_does ..))
    | exact fun _ h => h | exact fun h => h | exact fun _ => ⟨rfl, rfl⟩ | exact ⟨rfl, rfl⟩ | decide | intro _ _ _ | intro _ _ | split | dsimp only)

theorem delayMeasureLost_does (l : Nat) (s : State) : Does [.quo, .downlinks] s (delayMeasureLost l s) := by
  unfold delayMeasureLost
  repeat' (first
    | with_reducible (first
        | exact Does.refl _ _ | assumption | apply Does.ite | apply Does.step (State.modQuo_does ..) | apply Does.step (modDl_does ..))
    | exact fun _ h => h | exact fun h => h | exact fun _ => ⟨rfl, rfl⟩ | exact ⟨rfl, rfl⟩ | decide | intro _ _ _ | intro _ _ | split | dsimp only)

theorem leaveActive_does (l cause : Nat) (s : State) : Does [.regs, .flt, .port0, .port1, .quo, .lanes, .downlinks, .groups] s (leaveActive l cause s) := by
  unfold leaveActive
  repeat' (first
    | with_reducible (first
        | exact Does.refl _ _ | assumption | apply Does.ite | apply Does.step (delayMeasureLost_does ..) | apply Does.step (event_does ..)
        | apply Does.step (modLane_does ..) | apply Does.step (openLossAccount_does ..) | apply Does.step (raise_does ..))
    | exact fun _ h => h | exact fun h => h | exact fun _ => ⟨rfl, rfl⟩ | exact ⟨rfl, rfl⟩ | decide | intro _ _ _ | intro _ _ | split | dsimp only)

theorem unleave_does (l : Nat) (m : LaneLeft) (host : Bool) (s : State) : Does [.regs, .flt, .lanes, .downlinks] s (unleave l m host s) := by
  unfold unleave
  repeat' (first
    | with_reducible (first
        | exact Does.refl _ _ | assumption | apply Does.ite | apply Does.step (setCell_does ..) | apply Does.step (modCell_does ..)
        | apply Does.step (modDl_does ..) | apply Does.step (modLane_does ..) | apply Does.step (State.modFlt_does ..))
    | exact fun _ h => h | exact fun h => h | exact fun _ => ⟨rfl, rfl⟩ | exact ⟨rfl, rfl⟩ | decide | intro _ _ _ | intro _ _ | split | dsimp only)

theorem beforeLeave_does (l rank : Nat) (host : Bool) (s : State) : Does [.regs, .flt, .lanes, .downlinks] s (beforeLeave l rank host s) := by
  unfold beforeLeave
  repeat' (first
    | with_reducible (first
        | exact Does.refl _ _ | assumption | apply Does.ite | apply Does.step (modLane_does ..) | apply Does.step (unleave_does ..))
    | exact fun _ h => h | exact fun h => h | exact fun _ => ⟨rfl, rfl⟩ | exact ⟨rfl, rfl⟩ | decide | intro _ _ _ | intro _ _ | split | dsimp only)

theorem enterQuarantine_does (l cause : Nat) (s : State) : Does [.regs, .flt, .port0, .port1, .quo, .lanes, .downlinks, .groups] s (enterQuarantine l cause s) := by
  unfold enterQuarantine
  repeat' (first
    | with_reducible (first
        | exact Does.refl _ _ | assumption | apply Does.ite | apply Does.step (leaveActive_does ..)
        | apply Does.step (beforeLeave_does ..) | apply Does.step (modLane_does ..) | apply Does.step (raise_does ..)
        | apply Does.step (event_does ..))
    | exact fun _ h => h | exact fun h => h | exact fun _ => ⟨rfl, rfl⟩ | exact ⟨rfl, rfl⟩ | decide | intro _ _ _ | intro _ _ | split | dsimp only)

theorem forceDown_does (l cause : Nat) (s : State) : Does [.regs, .flt, .port0, .port1, .quo, .lanes, .downlinks, .groups] s (forceDown l cause s) := by
  unfold forceDown
  repeat' (first
    | with_reducible (first
        | exact Does.refl _ _ | assumption | apply Does.ite | apply Does.step (enterDown_does ..)
        | apply Does.step (leaveActive_does ..) | apply Does.step (beforeLeave_does ..) | apply Does.step (modLane_does ..))
    | exact fun _ h => h | exact fun h => h | exact fun _ => ⟨rfl, rfl⟩ | exact ⟨rfl, rfl⟩ | decide | intro _ _ _ | intro _ _ | split | dsimp only)

theorem tryDetect_does (l : Nat) (s : State) : Does [.lanes] s (tryDetect l s) := by
  unfold tryDetect
  repeat' (first
    | with_reducible (first
        | exact Does.refl _ _ | assumption | apply Does.ite | apply Does.step (enterDetect_does ..))
    | exact fun _ h => h | exact fun h => h | exact fun _ => ⟨rfl, rfl⟩ | exact ⟨rfl, rfl⟩ | decide | intro _ _ _ | intro _ _ | split | dsimp only)

theorem trainFail_does (l : Nat) (code : Nat) (s : State) : Does [.regs, .flt, .port0, .port1, .lanes] s (trainFail l code s) := by
  unfold trainFail
  repeat' (first
    | with_reducible (first
        | exact Does.refl _ _ | assumption | apply Does.ite | apply Does.step (count_does ..) | apply Does.step (enterDetect_does ..)
        | apply Does.step (event_does ..) | apply Does.step (modLane_does ..) | apply Does.step (raise_does ..))
    | exact fun _ h => h | exact fun h => h | exact fun _ => ⟨rfl, rfl⟩ | exact ⟨rfl, rfl⟩ | decide | intro _ _ _ | intro _ _ | split | dsimp only)

theorem autoLoss_does (l cause : Nat) (s : State) : Does [.regs, .flt, .port0, .port1, .quo, .lanes, .downlinks, .groups] s (autoLoss l cause s) := by
  unfold autoLoss
  repeat' (first
    | with_reducible (first
        | exact Does.refl _ _ | assumption | apply Does.ite | apply Does.step (enterQuarantine_does ..)
        | apply Does.step (beforeLeave_does ..) | apply Does.step (leaveActive_does ..) | apply Does.step (count_does ..)
        | apply Does.step (enterDetect_does ..) | apply Does.step (enterTrain_does ..) | apply Does.step (enterDown_does ..)
        | apply Does.step (clearFld_does ..))
    | exact fun _ h => h | exact fun h => h | exact fun _ => ⟨rfl, rfl⟩ | exact ⟨rfl, rfl⟩ | decide | intro _ _ _ | intro _ _ | split | dsimp only)

theorem laneSignalDetect_does (l : Nat) (s : State) : Does [.lanes, .downlinks] s (laneSignalDetect l s) := by
  unfold laneSignalDetect
  repeat' (first
    | with_reducible (first
        | exact Does.refl _ _ | assumption | apply Does.ite | apply Does.step (enterTrain_does ..) | apply Does.step (modLane_does ..))
    | exact fun _ h => h | exact fun h => h | exact fun _ => ⟨rfl, rfl⟩ | exact ⟨rfl, rfl⟩ | decide | intro _ _ _ | intro _ _ | split | dsimp only)

theorem laneTrainDone_does (l : Nat) (s : State) : Does [.lanes] s (laneTrainDone l s) := by
  unfold laneTrainDone
  repeat' (first
    | with_reducible (first
        | exact Does.refl _ _ | assumption | apply Does.ite | apply Does.step (modLane_does ..))
    | exact fun _ h => h | exact fun h => h | exact fun _ => ⟨rfl, rfl⟩ | exact ⟨rfl, rfl⟩ | decide | intro _ _ _ | intro _ _ | split | dsimp only)

theorem laneTrainTimeout_does (l : Nat) (s : State) : Does [.regs, .flt, .port0, .port1, .lanes] s (laneTrainTimeout l s) := by
  unfold laneTrainTimeout
  repeat' (first
    | with_reducible (first
        | exact Does.refl _ _ | assumption | apply Does.ite | apply Does.step (trainFail_does ..))
    | exact fun _ h => h | exact fun h => h | exact fun _ => ⟨rfl, rfl⟩ | exact ⟨rfl, rfl⟩ | decide | intro _ _ _ | intro _ _ | split | dsimp only)

theorem laneExchangeTimeout_does (l : Nat) (s : State) : Does [.regs, .flt, .port0, .port1, .lanes] s (laneExchangeTimeout l s) := by
  unfold laneExchangeTimeout
  repeat' (first
    | with_reducible (first
        | exact Does.refl _ _ | assumption | apply Does.ite | apply Does.step (trainFail_does ..))
    | exact fun _ h => h | exact fun h => h | exact fun _ => ⟨rfl, rfl⟩ | exact ⟨rfl, rfl⟩ | decide | intro _ _ _ | intro _ _ | split | dsimp only)

theorem laneSyncAcquired_does (l : Nat) (s : State) : Does [.regs, .lanes] s (laneSyncAcquired l s) := by
  unfold laneSyncAcquired
  repeat' (first
    | with_reducible (first
        | exact Does.refl _ _ | assumption | apply Does.ite | apply Does.step (count_does ..) | apply Does.step (modLane_does ..))
    | exact fun _ h => h | exact fun h => h | exact fun _ => ⟨rfl, rfl⟩ | exact ⟨rfl, rfl⟩ | decide | intro _ _ _ | intro _ _ | split | dsimp only)

theorem laneLossOfSignal_does (l : Nat) (s : State) : Does [.regs, .flt, .port0, .port1, .quo, .lanes, .downlinks, .groups] s (laneLossOfSignal l s) := by
  unfold laneLossOfSignal
  repeat' (first
    | with_reducible (first
        | exact Does.refl _ _ | assumption | apply Does.ite | apply Does.step (modLane_does ..) | apply Does.step (signal_does ..)
        | apply Does.step (autoLoss_does ..) | apply Does.step (enterDetect_does ..))
    | exact fun _ h => h | exact fun h => h | exact fun _ => ⟨rfl, rfl⟩ | exact ⟨rfl, rfl⟩ | decide | intro _ _ _ | intro _ _ | split | dsimp only)

theorem laneCdrUnlock_does (l : Nat) (s : State) : Does [.regs, .flt, .port0, .port1, .quo, .lanes, .downlinks, .groups] s (laneCdrUnlock l s) := by
  unfold laneCdrUnlock
  repeat' (first
    | with_reducible (first
        | exact Does.refl _ _ | assumption | apply Does.ite | apply Does.step (modLane_does ..) | apply Does.step (autoLoss_does ..)
        | apply Does.step (enterDetect_does ..))
    | exact fun _ h => h | exact fun h => h | exact fun _ => ⟨rfl, rfl⟩ | exact ⟨rfl, rfl⟩ | decide | intro _ _ _ | intro _ _ | split | dsimp only)

theorem laneSyncLoss_does (l : Nat) (s : State) : Does [.regs, .flt, .port0, .port1, .quo, .lanes, .downlinks, .groups] s (laneSyncLoss l s) := by
  unfold laneSyncLoss
  repeat' (first
    | with_reducible (first
        | exact Does.refl _ _ | assumption | apply Does.ite | apply Does.step (modLane_does ..) | apply Does.step (autoLoss_does ..))
    | exact fun _ h => h | exact fun h => h | exact fun _ => ⟨rfl, rfl⟩ | exact ⟨rfl, rfl⟩ | decide | intro _ _ _ | intro _ _ | split | dsimp only)

theorem codeErrCheck_does (l : Nat) (s : State) : Does [.regs, .flt, .port0, .port1, .lanes] s (codeErrCheck l s) := by
  unfold codeErrCheck
  repeat' (first
    | with_reducible (first
        | exact Does.refl _ _ | assumption | apply Does.ite | apply Does.step (event_does ..) | apply Does.step (modLane_does ..)
        | apply Does.step (raise_does ..))
    | exact fun _ h => h | exact fun h => h | exact fun _ => ⟨rfl, rfl⟩ | exact ⟨rfl, rfl⟩ | decide | intro _ _ _ | intro _ _ | split | dsimp only)

theorem laneCodeError_does (l : Nat) (s : State) : Does [.regs, .flt, .port0, .port1, .lanes] s (laneCodeError l s) := by
  unfold laneCodeError
  repeat' (first
    | with_reducible (first
        | exact Does.refl _ _ | assumption | apply Does.ite | apply Does.step (codeErrCheck_does ..) | apply Does.step (count_does ..)
        | apply Does.step (modLane_does ..))
    | exact fun _ h => h | exact fun h => h | exact fun _ => ⟨rfl, rfl⟩ | exact ⟨rfl, rfl⟩ | decide | intro _ _ _ | intro _ _ | split | dsimp only)

theorem grpCfgWritten_does (g : Nat) (s : State) : Does [.regs, .flt, .port0, .port1, .lanes] s (grpCfgWritten g s) := by
  unfold grpCfgWritten
  repeat' (first
    | with_reducible (first
        | exact Does.refl _ _ | assumption | apply Does.ite | apply Does.forN | apply Does.step (codeErrCheck_does ..))
    | exact fun _ h => h | exact fun h => h | exact fun _ => ⟨rfl, rfl⟩ | exact ⟨rfl, rfl⟩ | decide | intro _ _ _ | intro _ _ | split | dsimp only)

theorem retrainCountReset_does (s : State) : Does [.regs] s (retrainCountReset s) := by
  unfold retrainCountReset
  repeat' (first
    | with_reducible (first
        | exact Does.refl _ _ | assumption | apply Does.ite | apply Does.forN | apply Does.step (clearFld_does ..))
    | exact fun _ h => h | exact fun h => h | exact fun _ => ⟨rfl, rfl⟩ | exact ⟨rfl, rfl⟩ | decide | intro _ _ _ | intro _ _ | split | dsimp only)

theorem bindMismatch_does (l p : Nat) (b : Binding) (r : BitVec 128) (s : State) : Does [.regs, .flt, .port0, .port1, .quo, .lanes, .downlinks, .groups] s (bindMismatch l p b r s) := by
  unfold bindMismatch
  repeat' (first
    | with_reducible (first
        | exact Does.refl _ _ | assumption | apply Does.ite | apply Does.forL | apply Does.step (enterQuarantine_does ..)
        | apply Does.step (event_does ..) | apply Does.step (raise_does ..))
    | exact fun _ h => h | exact fun h => h | exact fun _ => ⟨rfl, rfl⟩ | exact ⟨rfl, rfl⟩ | decide | intro _ _ _ | intro _ _ | split | dsimp only)

theorem exchangeSettles_does (p : Nat) (r : BitVec 128) (s : State) : Does [.regs, .port0, .port1, .downlinks] s (exchangeSettles p r s) := by
  unfold exchangeSettles
  repeat' (first
    | with_reducible (first
        | exact Does.refl _ _ | assumption | apply Does.ite | apply Does.step (event_does ..) | apply Does.step (modDl_does ..))
    | exact fun _ h => h | exact fun h => h | exact fun _ => ⟨rfl, rfl⟩ | exact ⟨rfl, rfl⟩ | decide | intro _ _ _ | intro _ _ | split | dsimp only)

theorem validRecord_does (l : Nat) (r : BitVec 128) (s : State) : Does [.regs, .flt, .port0, .port1, .quo, .lanes, .downlinks, .groups] s (validRecord l r s) := by
  unfold validRecord
  repeat' (first
    | with_reducible (first
        | exact Does.refl _ _ | assumption | apply Does.ite | apply Does.step (bindMismatch_does ..) | apply Does.step (enterActive_does ..)
        | apply Does.step (exchangeSettles_does ..) | apply Does.step (modLane_does ..))
    | exact fun _ h => h | exact fun h => h | exact fun _ => ⟨rfl, rfl⟩ | exact ⟨rfl, rfl⟩ | decide | intro _ _ _ | intro _ _ | split | dsimp only)

theorem exchangeBlockRx_does (l : Nat) (r : BitVec 128) (crc : BitVec 32) (s : State) : Does [.regs, .flt, .port0, .port1, .quo, .lanes, .downlinks, .groups] s (exchangeBlockRx l r crc s) := by
  unfold exchangeBlockRx
  repeat' (first
    | with_reducible (first
        | exact Does.refl _ _ | assumption | apply Does.ite | apply Does.step (count_does ..) | apply Does.step (event_does ..)
        | apply Does.step (modLane_does ..) | apply Does.step (raise_does ..) | apply Does.step (validRecord_does ..))
    | exact fun _ h => h | exact fun h => h | exact fun _ => ⟨rfl, rfl⟩ | exact ⟨rfl, rfl⟩ | decide | intro _ _ _ | intro _ _ | split | dsimp only)

theorem laneCfgWritten_does (l : Nat) (old : Word) (s : State) : Does [.regs, .flt, .port0, .port1, .quo, .lanes, .downlinks, .groups] s (laneCfgWritten l old s) := by
  unfold laneCfgWritten
  repeat' (first
    | with_reducible (first
        | exact Does.refl _ _ | assumption | apply Does.ite | apply Does.step (forceDown_does ..) | apply Does.step (modLane_does ..)
        | apply Does.step (tryDetect_does ..))
    | exact fun _ h => h | exact fun h => h | exact fun _ => ⟨rfl, rfl⟩ | exact ⟨rfl, rfl⟩ | decide | intro _ _ _ | intro _ _ | split | dsimp only)

theorem laneRetrain_does (l : Nat) (s : State) : Does [.regs, .flt, .port0, .port1, .quo, .lanes, .downlinks, .groups] s (laneRetrain l s).1 := by
  unfold laneRetrain
  repeat' (first
    | with_reducible (first
        | exact Does.refl _ _ | assumption | apply Does.ite | apply Does.step (enterTrain_does ..)
        | apply Does.step (leaveActive_does ..) | apply Does.step (beforeLeave_does ..) | apply Does.step (tryDetect_does ..)
        | apply Does.step (modLane_does ..) | apply Does.step (modCell_does ..))
    | exact fun _ h => h | exact fun h => h | exact fun _ => ⟨rfl, rfl⟩ | exact ⟨rfl, rfl⟩ | decide | intro _ _ _ | intro _ _ | split | dsimp only)

theorem laneRelease_does (l : Nat) (s : State) : Does [.lanes, .downlinks] s (laneRelease l s).1 := by
  unfold laneRelease
  repeat' (first
    | with_reducible (first
        | exact Does.refl _ _ | assumption | apply Does.ite | apply Does.step (enterTrain_does ..))
    | exact fun _ h => h | exact fun h => h | exact fun _ => ⟨rfl, rfl⟩ | exact ⟨rfl, rfl⟩ | decide | intro _ _ _ | intro _ _ | split | dsimp only)

theorem groupDown_does (g cause : Nat) (s : State) : Does [.regs, .flt, .port0, .port1, .quo, .lanes, .downlinks, .groups] s (groupDown g cause s) := by
  unfold groupDown
  repeat' (first
    | with_reducible (first
        | exact Does.refl _ _ | assumption | apply Does.ite | apply Does.forN | apply Does.step (forceDown_does ..))
    | exact fun _ h => h | exact fun h => h | exact fun _ => ⟨rfl, rfl⟩ | exact ⟨rfl, rfl⟩ | decide | intro _ _ _ | intro _ _ | split | dsimp only)

theorem groupTapsLost_does (g : Nat) (s : State) : Does [.lanes] s (groupTapsLost g s) := by
  unfold groupTapsLost
  repeat' (first
    | with_reducible (first
        | exact Does.refl _ _ | assumption | apply Does.ite | apply Does.forN | apply Does.step (modLane_does ..))
    | exact fun _ h => h | exact fun h => h | exact fun _ => ⟨rfl, rfl⟩ | exact ⟨rfl, rfl⟩ | decide | intro _ _ _ | intro _ _ | split | dsimp only)

theorem groupUp_does (g : Nat) (fromHold : Bool) (s : State) : Does [.lanes] s (groupUp g fromHold s) := by
  unfold groupUp
  repeat' (first
    | with_reducible (first
        | exact Does.refl _ _ | assumption | apply Does.ite | apply Does.forN | apply Does.step (modLane_does ..)
        | apply Does.step (tryDetect_does ..))
    | exact fun _ h => h | exact fun h => h | exact fun _ => ⟨rfl, rfl⟩ | exact ⟨rfl, rfl⟩ | decide | intro _ _ _ | intro _ _ | split | dsimp only)

/-! ### Quoin -/

theorem modDom_does (d : Fin 2) (f : QDomain → QDomain) (s : State) : Does [.quo] s (modDom d f s) := by
  unfold modDom
  repeat' (first
    | with_reducible (first
        | exact Does.refl _ _ | assumption | apply Does.ite | apply Does.step (State.modQuo_does ..))
    | exact fun _ h => h | exact fun h => h | exact fun _ => ⟨rfl, rfl⟩ | exact ⟨rfl, rfl⟩ | decide | intro _ _ _ | intro _ _ | split | dsimp only)

theorem setServo_does (v : Servo) (s : State) : Does [.quo] s (setServo v s) := by
  unfold setServo
  repeat' (first
    | with_reducible (first
        | exact Does.refl _ _ | assumption | apply Does.ite | apply Does.step (State.modQuo_does ..))
    | exact fun _ h => h | exact fun h => h | exact fun _ => ⟨rfl, rfl⟩ | exact ⟨rfl, rfl⟩ | decide | intro _ _ _ | intro _ _ | split | dsimp only)

theorem enterHoldover_does (s : State) : Does [.flt, .quo] s (enterHoldover s) := by
  unfold enterHoldover
  repeat' (first
    | with_reducible (first
        | exact Does.refl _ _ | assumption | apply Does.ite | apply Does.step (State.modQuo_does ..) | apply Does.step (raise_does ..)
        | apply Does.step (setServo_does ..))
    | exact fun _ h => h | exact fun h => h | exact fun _ => ⟨rfl, rfl⟩ | exact ⟨rfl, rfl⟩ | decide | intro _ _ _ | intro _ _ | split | dsimp only)

theorem servoOnActiveLoss_does (s : State) : Does [.flt, .quo] s (servoOnActiveLoss s) := by
  unfold servoOnActiveLoss
  repeat' (first
    | with_reducible (first
        | exact Does.refl _ _ | assumption | apply Does.ite | apply Does.step (enterHoldover_does ..) | apply Does.step (setServo_does ..))
    | exact fun _ h => h | exact fun h => h | exact fun _ => ⟨rfl, rfl⟩ | exact ⟨rfl, rfl⟩ | decide | intro _ _ _ | intro _ _ | split | dsimp only)

theorem holdoverLost_does (s : State) : Does [.quo] s (holdoverLost s) := by
  unfold holdoverLost
  repeat' (first
    | with_reducible (first
        | exact Does.refl _ _ | assumption | apply Does.ite | apply Does.step (setServo_does ..))
    | exact fun _ h => h | exact fun h => h | exact fun _ => ⟨rfl, rfl⟩ | exact ⟨rfl, rfl⟩ | decide | intro _ _ _ | intro _ _ | split | dsimp only)

theorem loseDomain_does (d : Fin 2) (cause : Nat) (s : State) : Does [.regs, .flt, .port0, .port1, .quo] s (loseDomain d cause s) := by
  unfold loseDomain
  repeat' (first
    | with_reducible (first
        | exact Does.refl _ _ | assumption | apply Does.ite | apply Does.step (modDom_does ..) | apply Does.step (event_does ..)
        | apply Does.step (raise_does ..) | apply Does.step (State.modQuo_does ..) | apply Does.step (holdoverLost_does ..)
        | apply Does.step (servoOnActiveLoss_does ..))
    | exact fun _ h => h | exact fun h => h | exact fun _ => ⟨rfl, rfl⟩ | exact ⟨rfl, rfl⟩ | decide | intro _ _ _ | intro _ _ | split | dsimp only)

theorem enterAligning_does (d : Fin 2) (signal : Bool) (s : State) : Does [.quo] s (enterAligning d signal s) := by
  unfold enterAligning
  repeat' (first
    | with_reducible (first
        | exact Does.refl _ _ | assumption | apply Does.ite | apply Does.step (modDom_does ..))
    | exact fun _ h => h | exact fun h => h | exact fun _ => ⟨rfl, rfl⟩ | exact ⟨rfl, rfl⟩ | decide | intro _ _ _ | intro _ _ | split | dsimp only)

theorem signalDetect_does (d : Fin 2) (s : State) : Does [.quo] s (signalDetect d s) := by
  unfold signalDetect
  repeat' (first
    | with_reducible (first
        | exact Does.refl _ _ | assumption | apply Does.ite | apply Does.step (enterAligning_does ..) | apply Does.step (modDom_does ..))
    | exact fun _ h => h | exact fun h => h | exact fun _ => ⟨rfl, rfl⟩ | exact ⟨rfl, rfl⟩ | decide | intro _ _ _ | intro _ _ | split | dsimp only)

theorem alignCountDone_does (d : Fin 2) (s : State) : Does [.quo] s (alignCountDone d s) := by
  unfold alignCountDone
  repeat' (first
    | with_reducible (first
        | exact Does.refl _ _ | assumption | apply Does.ite | apply Does.step (modDom_does ..))
    | exact fun _ h => h | exact fun h => h | exact fun _ => ⟨rfl, rfl⟩ | exact ⟨rfl, rfl⟩ | decide | intro _ _ _ | intro _ _ | split | dsimp only)

theorem lossOfSignal_does (d : Fin 2) (s : State) : Does [.regs, .flt, .port0, .port1, .quo] s (lossOfSignal d s) := by
  unfold lossOfSignal
  repeat' (first
    | with_reducible (first
        | exact Does.refl _ _ | assumption | apply Does.ite | apply Does.step (loseDomain_does ..) | apply Does.step (modDom_does ..))
    | exact fun _ h => h | exact fun h => h | exact fun _ => ⟨rfl, rfl⟩ | exact ⟨rfl, rfl⟩ | decide | intro _ _ _ | intro _ _ | split | dsimp only)

theorem framingLoss_does (d : Fin 2) (s : State) : Does [.regs, .flt, .port0, .port1, .quo] s (framingLoss d s) := by
  unfold framingLoss
  repeat' (first
    | with_reducible (first
        | exact Does.refl _ _ | assumption | apply Does.ite | apply Does.step (loseDomain_does ..) | apply Does.step (modDom_does ..))
    | exact fun _ h => h | exact fun h => h | exact fun _ => ⟨rfl, rfl⟩ | exact ⟨rfl, rfl⟩ | decide | intro _ _ _ | intro _ _ | split | dsimp only)

theorem syncTimeout_does (d : Fin 2) (s : State) : Does [.regs, .flt, .port0, .port1, .quo] s (syncTimeout d s) := by
  unfold syncTimeout
  repeat' (first
    | with_reducible (first
        | exact Does.refl _ _ | assumption | apply Does.ite | apply Does.step (loseDomain_does ..))
    | exact fun _ h => h | exact fun h => h | exact fun _ => ⟨rfl, rfl⟩ | exact ⟨rfl, rfl⟩ | decide | intro _ _ _ | intro _ _ | split | dsimp only)

theorem freqRange_does (d : Fin 2) (s : State) : Does [.regs, .flt, .port0, .port1, .quo] s (freqRange d s) := by
  unfold freqRange
  repeat' (first
    | with_reducible (first
        | exact Does.refl _ _ | assumption | apply Does.ite | apply Does.step (loseDomain_does ..))
    | exact fun _ h => h | exact fun h => h | exact fun _ => ⟨rfl, rfl⟩ | exact ⟨rfl, rfl⟩ | decide | intro _ _ _ | intro _ _ | split | dsimp only)

theorem announceTimeout_does (d : Fin 2) (s : State) : Does [.regs, .flt, .port0, .port1, .quo] s (announceTimeout d s) := by
  unfold announceTimeout
  repeat' (first
    | with_reducible (first
        | exact Does.refl _ _ | assumption | apply Does.ite | apply Does.step (loseDomain_does ..))
    | exact fun _ h => h | exact fun h => h | exact fun _ => ⟨rfl, rfl⟩ | exact ⟨rfl, rfl⟩ | decide | intro _ _ _ | intro _ _ | split | dsimp only)

theorem btCountTimeout_does (d : Fin 2) (s : State) : Does [.regs, .flt, .port0, .port1, .quo] s (btCountTimeout d s) := by
  unfold btCountTimeout
  repeat' (first
    | with_reducible (first
        | exact Does.refl _ _ | assumption | apply Does.ite | apply Does.step (loseDomain_does ..))
    | exact fun _ h => h | exact fun h => h | exact fun _ => ⟨rfl, rfl⟩ | exact ⟨rfl, rfl⟩ | decide | intro _ _ _ | intro _ _ | split | dsimp only)

theorem domainBtCount_does (d : Fin 2) (n edges : Nat) (s : State) : Does [.regs, .flt, .port0, .port1, .quo] s (domainBtCount d n edges s) := by
  unfold domainBtCount
  repeat' (first
    | with_reducible (first
        | exact Does.refl _ _ | assumption | apply Does.ite | apply Does.step (loseDomain_does ..) | apply Does.step (modDom_does ..))
    | exact fun _ h => h | exact fun h => h | exact fun _ => ⟨rfl, rfl⟩ | exact ⟨rfl, rfl⟩ | decide | intro _ _ _ | intro _ _ | split | dsimp only)

theorem msgBad_does (d : Fin 2) (s : State) : Does [.flt, .quo] s (msgBad d s) := by
  unfold msgBad
  repeat' (first
    | with_reducible (first
        | exact Does.refl _ _ | assumption | apply Does.ite | apply Does.step (modDom_does ..) | apply Does.step (raise_does ..))
    | exact fun _ h => h | exact fun h => h | exact fun _ => ⟨rfl, rfl⟩ | exact ⟨rfl, rfl⟩ | decide | intro _ _ _ | intro _ _ | split | dsimp only)

theorem takeSync_does (d : Fin 2) (r : SyncRec) (s : State) : Does [.regs, .flt, .port0, .port1, .quo] s (takeSync d r s) := by
  unfold takeSync
  repeat' (first
    | with_reducible (first
        | exact Does.refl _ _ | assumption | apply Does.ite | apply Does.step (loseDomain_does ..) | apply Does.step (modDom_does ..))
    | exact fun _ h => h | exact fun h => h | exact fun _ => ⟨rfl, rfl⟩ | exact ⟨rfl, rfl⟩ | decide | intro _ _ _ | intro _ _ | split | dsimp only)

theorem ptpSync_does (d : Fin 2) (m : PtpSync) (s : State) : Does [.regs, .flt, .port0, .port1, .quo] s (ptpSync d m s) := by
  unfold ptpSync
  repeat' (first
    | with_reducible (first
        | exact Does.refl _ _ | assumption | apply Does.ite | apply Does.step (modDom_does ..) | apply Does.step (takeSync_does ..))
    | exact fun _ h => h | exact fun h => h | exact fun _ => ⟨rfl, rfl⟩ | exact ⟨rfl, rfl⟩ | decide | intro _ _ _ | intro _ _ | split | dsimp only)

theorem ptpFollowUp_does (d : Fin 2) (m : PtpFollowUp) (s : State) : Does [.regs, .flt, .port0, .port1, .quo] s (ptpFollowUp d m s) := by
  unfold ptpFollowUp
  repeat' (first
    | with_reducible (first
        | exact Does.refl _ _ | assumption | apply Does.ite | apply Does.step (takeSync_does ..))
    | exact fun _ h => h | exact fun h => h | exact fun _ => ⟨rfl, rfl⟩ | exact ⟨rfl, rfl⟩ | decide | intro _ _ _ | intro _ _ | split | dsimp only)

theorem ptpDelayResp_does (d : Fin 2) (m : PtpDelayResp) (s : State) : Does [.quo] s (ptpDelayResp d m s) := by
  unfold ptpDelayResp
  repeat' (first
    | with_reducible (first
        | exact Does.refl _ _ | assumption | apply Does.ite | apply Does.step (modDom_does ..))
    | exact fun _ h => h | exact fun h => h | exact fun _ => ⟨rfl, rfl⟩ | exact ⟨rfl, rfl⟩ | decide | intro _ _ _ | intro _ _ | split | dsimp only)

theorem ptpAnnounce_does (d : Fin 2) (m : PtpAnnounce) (s : State) : Does [.quo] s (ptpAnnounce d m s) := by
  unfold ptpAnnounce
  repeat' (first
    | with_reducible (first
        | exact Does.refl _ _ | assumption | apply Does.ite | apply Does.step (modDom_does ..))
    | exact fun _ h => h | exact fun h => h | exact fun _ => ⟨rfl, rfl⟩ | exact ⟨rfl, rfl⟩ | decide | intro _ _ _ | intro _ _ | split | dsimp only)

theorem pushStamp_does (t : TxStamp) (s : State) : Does [.regs, .flt, .port0, .port1, .quo] s (pushStamp t s) := by
  unfold pushStamp
  split
  · exact Does.put_quo (by decide) (fun _ => by simp only [List.length_append, List.length_cons, List.length_nil]; omega) (Does.refl _ _)
  repeat' (first
        | with_reducible (first
            | exact Does.refl _ _ | assumption | apply Does.ite | apply Does.step (State.modQuo_does ..) | apply Does.step (count_does ..)
            | apply Does.step (event_does ..) | apply Does.step (raise_does ..))
        | exact fun _ h => h | exact fun h => h | exact fun _ => ⟨rfl, rfl⟩ | exact ⟨rfl, rfl⟩ | decide | intro _ _ _ | intro _ _ | split | dsimp only)

theorem delayReqSend_does (d : Fin 2) (t : AbsTime) (s : State) : Does [.regs, .flt, .port0, .port1, .quo] s (delayReqSend d t s) := by
  unfold delayReqSend
  repeat' (first
    | with_reducible (first
        | exact Does.refl _ _ | assumption | apply Does.ite | apply Does.step (modDom_does ..) | apply Does.step (pushStamp_does ..))
    | exact fun _ h => h | exact fun h => h | exact fun _ => ⟨rfl, rfl⟩ | exact ⟨rfl, rfl⟩ | decide | intro _ _ _ | intro _ _ | split | dsimp only)

theorem quoTxCtlWrite_does (w : Word) (s : State) : Does [.quo] s (quoTxCtlWrite w s) := by
  unfold quoTxCtlWrite
  repeat' (first
    | with_reducible (first
        | exact Does.refl _ _ | assumption | apply Does.ite | apply Does.step (State.modQuo_does ..))
    | exact fun _ h => h | exact fun h => h | exact fun _ => ⟨rfl, rfl⟩ | exact ⟨rfl, rfl⟩ | decide | intro _ _ _ | intro _ _ | split | dsimp only)

theorem txDone_does (t : AbsTime) (s : State) : Does [.regs, .flt, .port0, .port1, .quo] s (txDone t s) := by
  unfold txDone
  repeat' (first
    | with_reducible (first
        | exact Does.refl _ _ | assumption | apply Does.ite | apply Does.step (State.modQuo_does ..) | apply Does.step (pushStamp_does ..))
    | exact fun _ h => h | exact fun h => h | exact fun _ => ⟨rfl, rfl⟩ | exact ⟨rfl, rfl⟩ | decide | intro _ _ _ | intro _ _ | split | dsimp only)

theorem beginOrbit_does (k : Nat) (s : State) : Does [.btr, .quo] s (beginOrbit k s) := by
  unfold beginOrbit
  repeat' (first
    | with_reducible (first
        | exact Does.refl _ _ | assumption | apply Does.ite | apply Does.step (State.modBtr_does ..) | apply Does.step (State.modQuo_does ..))
    | exact fun _ h => h | exact fun h => h | exact fun _ => ⟨rfl, rfl⟩ | exact ⟨rfl, rfl⟩ | decide | intro _ _ _ | intro _ _ | split | dsimp only)

theorem orbitStart_does (s : State) : Does [.btr, .quo] s (orbitStart s) := by
  unfold orbitStart
  repeat' (first
    | with_reducible (first
        | exact Does.refl _ _ | assumption | apply Does.ite | apply Does.step (beginOrbit_does ..))
    | exact fun _ h => h | exact fun h => h | exact fun _ => ⟨rfl, rfl⟩ | exact ⟨rfl, rfl⟩ | decide | intro _ _ _ | intro _ _ | split | dsimp only)

theorem orbitStartRx_does (d : Fin 2) (s : State) : Does [.btr, .regs, .flt, .port0, .port1, .quo] s (orbitStartRx d s) := by
  unfold orbitStartRx
  repeat' (first
    | with_reducible (first
        | exact Does.refl _ _ | assumption | apply Does.ite | apply Does.step (beginOrbit_does ..) | apply Does.step (event_does ..)
        | apply Does.step (modDom_does ..) | apply Does.step (raise_does ..))
    | exact fun _ h => h | exact fun h => h | exact fun _ => ⟨rfl, rfl⟩ | exact ⟨rfl, rfl⟩ | decide | intro _ _ _ | intro _ _ | split | dsimp only)

theorem modClock_does (p : Nat) (f : PartnerClock → PartnerClock) (s : State) : Does [.quo] s (modClock p f s) := by
  unfold modClock
  repeat' (first
    | with_reducible (first
        | exact Does.refl _ _ | assumption | apply Does.ite | apply Does.step (State.modQuo_does ..))
    | exact fun _ h => h | exact fun h => h | exact fun _ => ⟨rfl, rfl⟩ | exact ⟨rfl, rfl⟩ | decide | intro _ _ _ | intro _ _ | split | dsimp only)

theorem setAdvance_does (p target : Nat) (s : State) : Does [.quo] s (setAdvance p target s) := by
  unfold setAdvance
  repeat' (first
    | with_reducible (first
        | exact Does.refl _ _ | assumption | apply Does.ite | apply Does.step (modClock_does ..))
    | exact fun _ h => h | exact fun h => h | exact fun _ => ⟨rfl, rfl⟩ | exact ⟨rfl, rfl⟩ | decide | intro _ _ _ | intro _ _ | split | dsimp only)

theorem pdelayWrite_does (p : Nat) (s : State) : Does [.quo] s (pdelayWrite p s) := by
  unfold pdelayWrite
  repeat' (first
    | with_reducible (first
        | exact Does.refl _ _ | assumption | apply Does.ite | apply Does.step (modClock_does ..))
    | exact fun _ h => h | exact fun h => h | exact fun _ => ⟨rfl, rfl⟩ | exact ⟨rfl, rfl⟩ | decide | intro _ _ _ | intro _ _ | split | dsimp only)

theorem dlSlewDone_does (p : Nat) (s : State) : Does [.quo] s (dlSlewDone p s) := by
  unfold dlSlewDone
  repeat' (first
    | with_reducible (first
        | exact Does.refl _ _ | assumption | apply Does.ite | apply Does.step (modClock_does ..))
    | exact fun _ h => h | exact fun h => h | exact fun _ => ⟨rfl, rfl⟩ | exact ⟨rfl, rfl⟩ | decide | intro _ _ _ | intro _ _ | split | dsimp only)

theorem quoTickLatch_does (c : Nat) (o : TickObs) (s : State) : Does [.quo] s (quoTickLatch c o s) := by
  unfold quoTickLatch
  repeat' (first
    | with_reducible (first
        | exact Does.refl _ _ | assumption | apply Does.ite | apply Does.step (State.modQuo_does ..))
    | exact fun _ h => h | exact fun h => h | exact fun _ => ⟨rfl, rfl⟩ | exact ⟨rfl, rfl⟩ | decide | intro _ _ _ | intro _ _ | split | dsimp only)

theorem quoTickLock_does (d : Fin 2) (phaseOk : Bool) (s : State) : Does [.regs, .flt, .port0, .port1, .quo] s (quoTickLock d phaseOk s) := by
  unfold quoTickLock
  repeat' (first
    | with_reducible (first
        | exact Does.refl _ _ | assumption | apply Does.ite | apply Does.step (event_does ..) | apply Does.step (modDom_does ..)
        | apply Does.step (raise_does ..))
    | exact fun _ h => h | exact fun h => h | exact fun _ => ⟨rfl, rfl⟩ | exact ⟨rfl, rfl⟩ | decide | intro _ _ _ | intro _ _ | split | dsimp only)

theorem quoTickXo_does (o : TickObs) (s : State) : Does [.flt, .quo] s (quoTickXo o s) := by
  unfold quoTickXo
  repeat' (first
    | with_reducible (first
        | exact Does.refl _ _ | assumption | apply Does.ite | apply Does.step (State.modQuo_does ..) | apply Does.step (raise_does ..)
        | apply Does.step (setServo_does ..))
    | exact fun _ h => h | exact fun h => h | exact fun _ => ⟨rfl, rfl⟩ | exact ⟨rfl, rfl⟩ | decide | intro _ _ _ | intro _ _ | split | dsimp only)

theorem quoTickNominal_does (startFree : Bool) (s : State) : Does [.quo] s (quoTickNominal startFree s) := by
  unfold quoTickNominal
  repeat' (first
    | with_reducible (first
        | exact Does.refl _ _ | assumption | apply Does.ite | apply Does.step (State.modQuo_does ..))
    | exact fun _ h => h | exact fun h => h | exact fun _ => ⟨rfl, rfl⟩ | exact ⟨rfl, rfl⟩ | decide | intro _ _ _ | intro _ _ | split | dsimp only)

theorem switchTo_does (d : Fin 2) (auto : Bool) (s : State) : Does [.regs, .flt, .port0, .port1, .quo] s (switchTo d auto s) := by
  unfold switchTo
  repeat' (first
    | with_reducible (first
        | exact Does.refl _ _ | assumption | apply Does.ite | apply Does.step (State.modQuo_does ..) | apply Does.step (event_does ..)
        | apply Does.step (raise_does ..) | apply Does.step (setServo_does ..))
    | exact fun _ h => h | exact fun h => h | exact fun _ => ⟨rfl, rfl⟩ | exact ⟨rfl, rfl⟩ | decide | intro _ _ _ | intro _ _ | split | dsimp only)

theorem holdoverReturn_does (s : State) : Does [.flt, .quo] s (holdoverReturn s) := by
  unfold holdoverReturn
  repeat' (first
    | with_reducible (first
        | exact Does.refl _ _ | assumption | apply Does.ite | apply Does.step (State.modQuo_does ..) | apply Does.step (raise_does ..)
        | apply Does.step (setServo_does ..))
    | exact fun _ h => h | exact fun h => h | exact fun _ => ⟨rfl, rfl⟩ | exact ⟨rfl, rfl⟩ | decide | intro _ _ _ | intro _ _ | split | dsimp only)

theorem servoFreeAcquire_does (s : State) : Does [.regs, .port0, .port1, .quo] s (servoFreeAcquire s) := by
  unfold servoFreeAcquire
  repeat' (first
    | with_reducible (first
        | exact Does.refl _ _ | assumption | apply Does.ite | apply Does.step (State.modQuo_does ..) | apply Does.step (event_does ..)
        | apply Does.step (setServo_does ..))
    | exact fun _ h => h | exact fun h => h | exact fun _ => ⟨rfl, rfl⟩ | exact ⟨rfl, rfl⟩ | decide | intro _ _ _ | intro _ _ | split | dsimp only)

theorem servoAutomatic_does (c : Nat) (o : TickObs) (s : State) : Does [.regs, .flt, .port0, .port1, .quo] s (servoAutomatic c o s) := by
  unfold servoAutomatic
  repeat' (first
    | with_reducible (first
        | exact Does.refl _ _ | assumption | apply Does.ite | apply Does.step (holdoverReturn_does ..) | apply Does.step (switchTo_does ..))
    | exact fun _ h => h | exact fun h => h | exact fun _ => ⟨rfl, rfl⟩ | exact ⟨rfl, rfl⟩ | decide | intro _ _ _ | intro _ _ | split | dsimp only)

theorem domainRequest_does (c : Nat) (o : TickObs) (d : Fin 2) (force : Bool) (s : State) : Does [.regs, .flt, .port0, .port1, .quo] s (domainRequest c o d force s).1 := by
  unfold domainRequest
  repeat' (first
    | with_reducible (first
        | exact Does.refl _ _ | assumption | apply Does.ite | apply Does.step (event_does ..) | apply Does.step (holdoverReturn_does ..)
        | apply Does.step (switchTo_does ..))
    | exact fun _ h => h | exact fun h => h | exact fun _ => ⟨rfl, rfl⟩ | exact ⟨rfl, rfl⟩ | decide | intro _ _ _ | intro _ _ | split | dsimp only)

theorem quoTickSwitch_does (c : Nat) (o : TickObs) (req : Option (Fin 2 × Bool)) (s : State) : Does [.regs, .flt, .port0, .port1, .quo] s (quoTickSwitch c o req s) := by
  unfold quoTickSwitch
  repeat' (first
    | with_reducible (first
        | exact Does.refl _ _ | assumption | apply Does.ite | apply Does.step (domainRequest_does ..) | apply Does.step (event_does ..)
        | apply Does.step (servoAutomatic_does ..) | apply Does.step (servoFreeAcquire_does ..))
    | exact fun _ h => h | exact fun h => h | exact fun _ => ⟨rfl, rfl⟩ | exact ⟨rfl, rfl⟩ | decide | intro _ _ _ | intro _ _ | split | dsimp only)

theorem quoTickDelay_does (p : Nat) (s : State) : Does [.regs, .quo] s (quoTickDelay p s) := by
  unfold quoTickDelay
  repeat' (first
    | with_reducible (first
        | exact Does.refl _ _ | assumption | apply Does.ite | apply Does.step (modCell_does ..) | apply Does.step (modClock_does ..))
    | exact fun _ h => h | exact fun h => h | exact fun _ => ⟨rfl, rfl⟩ | exact ⟨rfl, rfl⟩ | decide | intro _ _ _ | intro _ _ | split | dsimp only)

theorem quoTickWorst_does (s : State) : Does [.quo] s (quoTickWorst s) := by
  unfold quoTickWorst
  repeat' (first
    | with_reducible (first
        | exact Does.refl _ _ | assumption | apply Does.ite | apply Does.step (State.modQuo_does ..))
    | exact fun _ h => h | exact fun h => h | exact fun _ => ⟨rfl, rfl⟩ | exact ⟨rfl, rfl⟩ | decide | intro _ _ _ | intro _ _ | split | dsimp only)

theorem holdExpired_does (s : State) : Does [.regs, .flt, .port0, .port1, .quo] s (holdExpired s) := by
  unfold holdExpired
  repeat' (first
    | with_reducible (first
        | exact Does.refl _ _ | assumption | apply Does.ite | apply Does.step (State.modQuo_does ..) | apply Does.step (event_does ..)
        | apply Does.step (raise_does ..))
    | exact fun _ h => h | exact fun h => h | exact fun _ => ⟨rfl, rfl⟩ | exact ⟨rfl, rfl⟩ | decide | intro _ _ _ | intro _ _ | split | dsimp only)

theorem acquireComplete_does (s : State) : Does [.quo] s (acquireComplete s) := by
  unfold acquireComplete
  repeat' (first
    | with_reducible (first
        | exact Does.refl _ _ | assumption | apply Does.ite | apply Does.step (setServo_does ..))
    | exact fun _ h => h | exact fun h => h | exact fun _ => ⟨rfl, rfl⟩ | exact ⟨rfl, rfl⟩ | decide | intro _ _ _ | intro _ _ | split | dsimp only)

theorem slewComplete_does (s : State) : Does [.quo] s (slewComplete s) := by
  unfold slewComplete
  repeat' (first
    | with_reducible (first
        | exact Does.refl _ _ | assumption | apply Does.ite | apply Does.step (State.modQuo_does ..))
    | exact fun _ h => h | exact fun h => h | exact fun _ => ⟨rfl, rfl⟩ | exact ⟨rfl, rfl⟩ | decide | intro _ _ _ | intro _ _ | split | dsimp only)

theorem quoLinkLeaving_does (d : Fin 2) (s : State) : Does [.regs, .flt, .port0, .port1, .quo] s (quoLinkLeaving d s) := by
  unfold quoLinkLeaving
  repeat' (first
    | with_reducible (first
        | exact Does.refl _ _ | assumption | apply Does.ite | apply Does.step (lossOfSignal_does ..))
    | exact fun _ h => h | exact fun h => h | exact fun _ => ⟨rfl, rfl⟩ | exact ⟨rfl, rfl⟩ | decide | intro _ _ _ | intro _ _ | split | dsimp only)

theorem quoLinkOff_does (d : Fin 2) (s : State) : Does [.quo] s (quoLinkOff d s) := by
  unfold quoLinkOff
  repeat' (first
    | with_reducible (first
        | exact Does.refl _ _ | assumption | apply Does.ite | apply Does.step (modDom_does ..))
    | exact fun _ h => h | exact fun h => h | exact fun _ => ⟨rfl, rfl⟩ | exact ⟨rfl, rfl⟩ | decide | intro _ _ _ | intro _ _ | split | dsimp only)

theorem quoLinkOn_does (d : Fin 2) (s : State) : Does [.quo] s (quoLinkOn d s) := by
  unfold quoLinkOn
  repeat' (first
    | with_reducible (first
        | exact Does.refl _ _ | assumption | apply Does.ite | apply Does.step (enterAligning_does ..))
    | exact fun _ h => h | exact fun h => h | exact fun _ => ⟨rfl, rfl⟩ | exact ⟨rfl, rfl⟩ | decide | intro _ _ _ | intro _ _ | split | dsimp only)

end Sys2Proof.Machine
end

