-- ==== Sys2Proof/Laws/DoesBed.lean ====
section
/-!
SUPPORT. What each operation can do: which parts of the state it can change, and that memory keeps its form and the stores their capacities: Downlinks, Tables, Burir, Lines, Lintel, LodgeCore, Hbm, Quarry.
-/
namespace Sys2Proof.Machine
set_option Elab.async false

/-! ### Downlinks -/

theorem takeBlock_does (d m : Nat) (s : State) : Does [.partners] s (takeBlock d m s).2 := by
  unfold takeBlock
  repeat' (first
    | with_reducible (first
        | exact Does.refl _ _ | assumption | apply Does.ite | apply Does.step (modPartner_does ..))
    | exact fun _ h => h | exact fun h => h | exact fun _ => ⟨rfl, rfl⟩ | exact ⟨rfl, rfl⟩ | decide | intro _ _ _ | intro _ _ | split | dsimp only)

theorem syncLoaded_does (p m whole : Nat) (s : State) : Does [.quo] s (syncLoaded p m whole s) := by
  unfold syncLoaded
  repeat' (first
    | with_reducible (first
        | exact Does.refl _ _ | assumption | apply Does.ite | apply Does.step (modClock_does ..))
    | exact fun _ h => h | exact fun h => h | exact fun _ => ⟨rfl, rfl⟩ | exact ⟨rfl, rfl⟩ | decide | intro _ _ _ | intro _ _ | split | dsimp only)

theorem downlinkFrame_does (d : Nat) (s : State) : Does [.regs, .port0, .port1, .quo, .downlinks, .partners] s (downlinkFrame d s) := by
  unfold downlinkFrame
  repeat' (first
    | with_reducible (first
        | exact Does.refl _ _ | assumption | apply Does.ite | apply Does.step (takeBlock_does ..) | apply Does.step (modDl_does ..)
        | apply Does.step (event_does ..) | apply Does.step (syncLoaded_does ..))
    | exact fun _ h => h | exact fun h => h | exact fun _ => ⟨rfl, rfl⟩ | exact ⟨rfl, rfl⟩ | decide | intro _ _ _ | intro _ _ | split | dsimp only)

theorem restartRequests_does (d : Nat) (s : State) : Does [.downlinks] s (restartRequests d s) := by
  unfold restartRequests
  repeat' (first
    | with_reducible (first
        | exact Does.refl _ _ | assumption | apply Does.ite | apply Does.forL | apply Does.step (restartDue_does ..))
    | exact fun _ h => h | exact fun h => h | exact fun _ => ⟨rfl, rfl⟩ | exact ⟨rfl, rfl⟩ | decide | intro _ _ _ | intro _ _ | split | dsimp only)

theorem dlFcWrite_does (d : Nat) (w : Word) (s : State) : Does [.downlinks] s (dlFcWrite d w s) := by
  unfold dlFcWrite
  repeat' (first
    | with_reducible (first
        | exact Does.refl _ _ | assumption | apply Does.ite | apply Does.step (modDl_does ..))
    | exact fun _ h => h | exact fun h => h | exact fun _ => ⟨rfl, rfl⟩ | exact ⟨rfl, rfl⟩ | decide | intro _ _ _ | intro _ _ | split | dsimp only)

theorem dlCfgWritten_does (d : Nat) (s : State) : Does [.regs, .downlinks] s (dlCfgWritten d s) := by
  unfold dlCfgWritten
  repeat' (first
    | with_reducible (first
        | exact Does.refl _ _ | assumption | apply Does.ite | apply Does.step (modDl_does ..) | apply Does.step (setCell_does ..))
    | exact fun _ h => h | exact fun h => h | exact fun _ => ⟨rfl, rfl⟩ | exact ⟨rfl, rfl⟩ | decide | intro _ _ _ | intro _ _ | split | dsimp only)

theorem dlPllUnlock_does (d : Nat) (s : State) : Does [.regs, .flt, .port0, .port1, .downlinks] s (dlPllUnlock d s) := by
  unfold dlPllUnlock
  repeat' (first
    | with_reducible (first
        | exact Does.refl _ _ | assumption | apply Does.ite | apply Does.step (count_does ..) | apply Does.step (event_does ..)
        | apply Does.step (modDl_does ..) | apply Does.step (raise_does ..))
    | exact fun _ h => h | exact fun h => h | exact fun _ => ⟨rfl, rfl⟩ | exact ⟨rfl, rfl⟩ | decide | intro _ _ _ | intro _ _ | split | dsimp only)

theorem dlPllRelock_does (d : Nat) (s : State) : Does [.downlinks] s (dlPllRelock d s) := by
  unfold dlPllRelock
  repeat' (first
    | with_reducible (first
        | exact Does.refl _ _ | assumption | apply Does.ite | apply Does.step (modDl_does ..))
    | exact fun _ h => h | exact fun h => h | exact fun _ => ⟨rfl, rfl⟩ | exact ⟨rfl, rfl⟩ | decide | intro _ _ _ | intro _ _ | split | dsimp only)

theorem dlGroupUp_does (h : Nat) (s : State) : Does [.downlinks] s (dlGroupUp h s) := by
  unfold dlGroupUp
  repeat' (first
    | with_reducible (first
        | exact Does.refl _ _ | assumption | apply Does.ite | apply Does.forN | apply Does.step (modDl_does ..))
    | exact fun _ h => h | exact fun h => h | exact fun _ => ⟨rfl, rfl⟩ | exact ⟨rfl, rfl⟩ | decide | intro _ _ _ | intro _ _ | split | dsimp only)

theorem dlGroupDown_does (h : Nat) (s : State) : Does [.downlinks] s (dlGroupDown h s) := by
  unfold dlGroupDown
  repeat' (first
    | with_reducible (first
        | exact Does.refl _ _ | assumption | apply Does.ite | apply Does.forN | apply Does.step (modDl_does ..))
    | exact fun _ h => h | exact fun h => h | exact fun _ => ⟨rfl, rfl⟩ | exact ⟨rfl, rfl⟩ | decide | intro _ _ _ | intro _ _ | split | dsimp only)

theorem finishMeasure_does (p : Nat) (l : List Nat) (s : State) : Does [.regs, .quo] s (finishMeasure p l s) := by
  unfold finishMeasure
  repeat' (first
    | with_reducible (first
        | exact Does.refl _ _ | assumption | apply Does.ite | apply Does.step (State.modQuo_does ..) | apply Does.step (modCell_does ..)
        | apply Does.step (modClock_does ..) | apply Does.step (setAdvance_does ..))
    | exact fun _ h => h | exact fun h => h | exact fun _ => ⟨rfl, rfl⟩ | exact ⟨rfl, rfl⟩ | decide | intro _ _ _ | intro _ _ | split | dsimp only)

theorem echoReceived_does (l n trip : Nat) (s : State) : Does [.regs, .quo] s (echoReceived l n trip s) := by
  unfold echoReceived
  repeat' (first
    | with_reducible (first
        | exact Does.refl _ _ | assumption | apply Does.ite | apply Does.step (State.modQuo_does ..) | apply Does.step (finishMeasure_does ..))
    | exact fun _ h => h | exact fun h => h | exact fun _ => ⟨rfl, rfl⟩ | exact ⟨rfl, rfl⟩ | decide | intro _ _ _ | intro _ _ | split | dsimp only)

theorem startMeasure_does (p : Nat) (s : State) : Does [.quo, .downlinks] s (startMeasure p s) := by
  unfold startMeasure
  repeat' (first
    | with_reducible (first
        | exact Does.refl _ _ | assumption | apply Does.ite | apply Does.step (State.modQuo_does ..) | apply Does.step (modDl_does ..))
    | exact fun _ h => h | exact fun h => h | exact fun _ => ⟨rfl, rfl⟩ | exact ⟨rfl, rfl⟩ | decide | intro _ _ _ | intro _ _ | split | dsimp only)

theorem abandonMeasure_does (p : Nat) (s : State) : Does [.quo, .downlinks] s (abandonMeasure p s) := by
  unfold abandonMeasure
  repeat' (first
    | with_reducible (first
        | exact Does.refl _ _ | assumption | apply Does.ite | apply Does.step (State.modQuo_does ..) | apply Does.step (modDl_does ..))
    | exact fun _ h => h | exact fun h => h | exact fun _ => ⟨rfl, rfl⟩ | exact ⟨rfl, rfl⟩ | decide | intro _ _ _ | intro _ _ | split | dsimp only)

/-! ### Tables -/

theorem sramCorrected_does (mem inst blk syn master access : Nat) (s : State) : Does [.regs, .flt, .mem] s (sramCorrected mem inst blk syn master access s) := by
  unfold sramCorrected
  repeat' (first
    | with_reducible (first
        | exact Does.refl _ _ | assumption | apply Does.ite | apply Does.step (count_does ..) | apply Does.step (raise_does ..) | apply Does.put_mem)
    | exact fun _ h => h | exact fun h => h | exact fun _ => ⟨rfl, rfl⟩ | exact ⟨rfl, rfl⟩ | decide | intro _ _ _ | intro _ _ | split | dsimp only)

theorem sramUncorrected_does (mem inst blk master access : Nat) (s : State) : Does [.regs, .flt, .port0, .port1] s (sramUncorrected mem inst blk master access s) := by
  unfold sramUncorrected
  repeat' (first
    | with_reducible (first
        | exact Does.refl _ _ | assumption | apply Does.ite | apply Does.step (count_does ..) | apply Does.step (event_does ..)
        | apply Does.step (raise_does ..))
    | exact fun _ h => h | exact fun h => h | exact fun _ => ⟨rfl, rfl⟩ | exact ⟨rfl, rfl⟩ | decide | intro _ _ _ | intro _ _ | split | dsimp only)

theorem recordBadRead_does (b mem inst blk : Nat) (s : State) : Does [.regs, .port0, .port1] s (recordBadRead b mem inst blk s) := by
  unfold recordBadRead
  repeat' (first
    | with_reducible (first
        | exact Does.refl _ _ | assumption | apply Does.ite | apply Does.step (event_does ..) | apply Does.step (modCell_does ..)
        | apply Does.step (setCell_does ..))
    | exact fun _ h => h | exact fun h => h | exact fun _ => ⟨rfl, rfl⟩ | exact ⟨rfl, rfl⟩ | decide | intro _ _ _ | intro _ _ | split | dsimp only)

/-- A read in some state of its block does what a good one does, or records it. -/
theorem Does.badReadOr {L : List Zone} {ph : BlockPhase} {mem inst blk : Nat} {good : State → State} {s x : State}
    (hL : (([.regs, .port0, .port1] : List Zone).all fun z => L.contains z) = true) (hg : Does L s (good x)) (h : Does L s x) :
    Does L s (badReadOr ph mem inst blk good x) := by
  unfold Machine.badReadOr
  split
  · exact Does.step (recordBadRead_does ..) hL h
  · exact Does.step (recordBadRead_does ..) hL h
  · exact h
  · exact hg

theorem setEcc_does (mem inst blk : Nat) (x : EccBlock) (s : State) : Does [.mem] s (setEcc mem inst blk x s) := by
  unfold setEcc
  repeat' (first
    | with_reducible (first
        | exact Does.refl _ _ | assumption | apply Does.ite | apply Does.put_mem)
    | exact fun _ h => h | exact fun h => h | exact fun _ => ⟨rfl, rfl⟩ | exact ⟨rfl, rfl⟩ | (intro (h : MemProt.TablesRise _); repeat' (first | assumption | exact h.1 | exact h.2 | exact h.2.1 | exact h.2.2 | with_reducible apply rises_put | with_reducible apply rises_upd | apply rises_filter | apply rises_map | exact fun _ => rfl | rfl | (intro _; split <;> rfl) | constructor)) | decide | intro _ _ _ | intro _ _ | split | dsimp only)

theorem eccWrites_does (mem inst blk n : Nat) (s : State) : Does [.mem] s (eccWrites mem inst blk n s) := by
  unfold eccWrites
  repeat' (first
    | with_reducible (first
        | exact Does.refl _ _ | assumption | apply Does.ite | apply Does.step (setEcc_does ..) | apply Does.put_mem)
    | exact fun _ h => h | exact fun h => h | exact fun _ => ⟨rfl, rfl⟩ | exact ⟨rfl, rfl⟩ | (intro (h : MemProt.TablesRise _); repeat' (first | assumption | exact h.1 | exact h.2 | exact h.2.1 | exact h.2.2 | with_reducible apply rises_put | with_reducible apply rises_upd | apply rises_filter | apply rises_map | exact fun _ => rfl | rfl | (intro _; split <;> rfl) | constructor)) | decide | intro _ _ _ | intro _ _ | split | dsimp only)

theorem eccWrite_does (mem inst blk : Nat) (s : State) : Does [.mem] s (eccWrite mem inst blk s) := eccWrites_does ..

theorem eccDamage_does (mem inst blk : Nat) (s : State) : Does [.mem] s (eccDamage mem inst blk s) := by
  unfold eccDamage
  repeat' (first
    | with_reducible (first
        | exact Does.refl _ _ | assumption | apply Does.ite | apply Does.step (setEcc_does ..) | apply Does.put_mem)
    | exact fun _ h => h | exact fun h => h | exact fun _ => ⟨rfl, rfl⟩ | exact ⟨rfl, rfl⟩ | decide | intro _ _ _ | intro _ _ | split | dsimp only)

theorem eccRead_does (mem inst blk master access : Nat) (s : State) : Does [.regs, .flt, .port0, .port1, .mem] s (eccRead mem inst blk master access s).2 := by
  unfold eccRead
  repeat' (first
    | with_reducible (first
        | exact Does.refl _ _ | assumption | apply Does.ite | apply Does.step (recordBadRead_does ..)
        | apply Does.step (sramCorrected_does ..) | apply Does.step (sramUncorrected_does ..) | apply Does.step (eccDamage_does ..))
    | exact fun _ h => h | exact fun h => h | exact fun _ => ⟨rfl, rfl⟩ | exact ⟨rfl, rfl⟩ | decide | intro _ _ _ | intro _ _ | split | dsimp only)

theorem eccReads_does (mem inst master access : Nat) (l : List Nat) (s : State) : Does [.regs, .flt, .port0, .port1, .mem] s (eccReads mem inst master access l s).2 := by
  induction l generalizing s with
  | nil => exact Does.refl _ _
  | cons b l ih => exact Does.step (ih _) (by decide) (eccRead_does ..)

theorem Does.eccVisit {L : List Zone} {mem inst master access : Nat} {held : Nat → Bool} {act : Nat → State → State} {s x : State}
    (hz : ([.regs, .flt, .port0, .port1, .mem].all fun z => L.contains z) = true) (ha : ∀ b t, Does L s t → Does L s (act b t)) (h : Does L s x) :
    Does L s (eccVisit mem inst master access held act x) := by
  unfold Machine.eccVisit
  apply Does.forL
  · intro b t ht
    dsimp only
    split
    · exact Does.step (eccRead_does ..) hz ht
    · exact ha _ _ (Does.step (eccRead_does ..) hz ht)
  · exact h

theorem eccUpset_does (mem inst blk : Nat) (s : State) : Does [.mem] s (eccUpset mem inst blk s) := by
  unfold eccUpset
  repeat' (first
    | with_reducible (first
        | exact Does.refl _ _ | assumption | apply Does.ite | apply Does.step (setEcc_does ..))
    | exact fun _ h => h | exact fun h => h | exact fun _ => ⟨rfl, rfl⟩ | exact ⟨rfl, rfl⟩ | decide | intro _ _ _ | intro _ _ | split | dsimp only)

theorem eccParity_does (mem inst blk : Nat) (s : State) : Does [.mem] s (eccParity mem inst blk s) := by
  unfold eccParity
  repeat' (first
    | with_reducible (first
        | exact Does.refl _ _ | assumption | apply Does.ite | apply Does.forN | apply Does.step (eccDamage_does ..))
    | exact fun _ h => h | exact fun h => h | exact fun _ => ⟨rfl, rfl⟩ | exact ⟨rfl, rfl⟩ | decide | intro _ _ _ | intro _ _ | split | dsimp only)

theorem eccEmptied_does (mem inst : Nat) (s : State) : Does [.mem] s (eccEmptied mem inst s) := by
  unfold eccEmptied
  repeat' (first
    | with_reducible (first
        | exact Does.refl _ _ | assumption | apply Does.ite | apply Does.put_mem)
    | exact fun _ h => h | exact fun h => h | exact fun _ => ⟨rfl, rfl⟩ | exact ⟨rfl, rfl⟩ | (intro (h : MemProt.TablesRise _); repeat' (first | assumption | exact h.1 | exact h.2 | exact h.2.1 | exact h.2.2 | with_reducible apply rises_put | with_reducible apply rises_upd | apply rises_filter | apply rises_map | exact fun _ => rfl | rfl | (intro _; split <;> rfl) | constructor)) | decide | intro _ _ _ | intro _ _ | split | dsimp only)

theorem setTblock_does (g b : Nat) (x : SramBlock) (s : State) : Does [.sram] s (setTblock g b x s) :=
  Does.put_sram (L := [.sram]) (by decide) (smWf_put _ _) (Does.refl _ _)

theorem injectInto_does (mem inst : Nat) (x : SramBlock) (s : State) : Does [.mem] s (injectInto mem inst x s).2 := by
  have put : Does [.mem] s { s with mem := { s.mem with inject := none } } := Does.put_mem (L := [.mem]) (by decide) (fun h => h) (fun h => h) (Does.refl _ _)
  unfold injectInto
  split
  · split
    · exact put
    · exact Does.refl _ _
  · exact Does.refl _ _

theorem writeTblock_does (g b : Nat) (d : DWord) (s : State) : Does [.sram, .mem] s (writeTblock g b d s) := by
  unfold writeTblock
  repeat' (first
    | with_reducible (first
        | exact Does.refl _ _ | assumption | apply Does.ite | apply Does.step (injectInto_does ..) | apply Does.step (setTblock_does ..))
    | exact fun _ h => h | exact fun h => h | exact fun _ => ⟨rfl, rfl⟩ | exact ⟨rfl, rfl⟩ | decide | intro _ _ _ | intro _ _ | split | dsimp only)

theorem queueRestore_does (g b : Nat) (s : State) : Does [.mem] s (queueRestore g b s) := by
  unfold queueRestore
  split
  · exact Does.refl _ _
  · rename_i h
    refine Does.put_mem (L := [.mem]) (by decide) (fun _ => ?_) (fun h => h) (Does.refl _ _)
    simp only [Bool.or_eq_true, decide_eq_true_eq, not_or] at h
    simp only [List.length_append, List.length_cons, List.length_nil]; omega

theorem damageTblock_does (g b master access : Nat) (s : State) : Does [.regs, .flt, .port0, .port1, .sram, .mem] s (damageTblock g b master access s) := by
  unfold damageTblock
  repeat' (first
    | with_reducible (first
        | exact Does.refl _ _ | assumption | apply Does.ite | apply Does.step (queueRestore_does ..) | apply Does.step (setTblock_does ..)
        | apply Does.step (sramUncorrected_does ..))
    | exact fun _ h => h | exact fun h => h | exact fun _ => ⟨rfl, rfl⟩ | exact ⟨rfl, rfl⟩ | decide | intro _ _ _ | intro _ _ | split | dsimp only)

theorem readTblock_does (g b master access : Nat) (s : State) : Does [.regs, .flt, .port0, .port1, .sram, .mem] s (readTblock g b master access s).2 := by
  unfold readTblock
  repeat' (first
    | with_reducible (first
        | exact Does.refl _ _ | assumption | apply Does.ite | apply Does.step (damageTblock_does ..) | apply Does.step (queueRestore_does ..)
        | apply Does.step (recordBadRead_does ..) | apply Does.step (sramCorrected_does ..))
    | exact fun _ h => h | exact fun h => h | exact fun _ => ⟨rfl, rfl⟩ | exact ⟨rfl, rfl⟩ | decide | intro _ _ _ | intro _ _ | split | dsimp only)

theorem readEntry_does (g base i : Nat) (s : State) : Does [.regs, .flt, .port0, .port1, .sram, .mem] s (readEntry g base i s).2 := by
  unfold readEntry
  repeat' (first
    | with_reducible (first
        | exact Does.refl _ _ | assumption | apply Does.ite | apply Does.step (readTblock_does ..))
    | exact fun _ h => h | exact fun h => h | exact fun _ => ⟨rfl, rfl⟩ | exact ⟨rfl, rfl⟩ | decide | intro _ _ _ | intro _ _ | split | dsimp only)

theorem emptyOffsets_does (g a : Nat) (s : State) : Does [.sram, .mem] s (emptyOffsets g a s) := by
  unfold emptyOffsets
  exact Does.upd (L := [.sram, .mem]) (x := s) (fun z hz => by cases z <;> first | rfl | exact ⟨rfl, rfl⟩ | exact absurd (by decide) hz)
    (fun m => ⟨m.bytes, m.written, smWf_filter _ m.sram⟩)
    (fun c => ⟨c.log, c.txq, Nat.le_trans (List.length_filter_le ..) c.restore, c.queue, c.failed, c.retired⟩)
    (fun r => ⟨r.cb, r.regs, r.srcs, r.port0, r.port1, r.domains, r.lanes, r.downlinks, r.partners, r.groups, r.engines, r.ring, r.rewritten, r.badMarks, r.mem, r.streams, r.uplinks, r.uplGroups, r.retLanes, r.lntGroups, r.boxes, r.gau, r.slots⟩) (Does.refl _ _)

theorem bankTick_does (g c : Nat) (dual : Bool) (ofs : Nat) (s : State) : Does [.btr, .groups, .sram, .mem] s (bankTick g c dual ofs s) := by
  unfold bankTick
  repeat' (first
    | with_reducible (first
        | exact Does.refl _ _ | assumption | apply Does.ite | apply Does.step (emptyOffsets_does ..) | apply Does.step (modGroup_does ..)
        | apply Does.step (setCb_does ..))
    | exact fun _ h => h | exact fun h => h | exact fun _ => ⟨rfl, rfl⟩ | exact ⟨rfl, rfl⟩ | decide | intro _ _ _ | intro _ _ | split | dsimp only)

theorem prevBusyEnd_does (g : Nat) (s : State) : Does [.groups] s (prevBusyEnd g s) := by
  unfold prevBusyEnd
  repeat' (first
    | with_reducible (first
        | exact Does.refl _ _ | assumption | apply Does.ite | apply Does.step (modGroup_does ..))
    | exact fun _ h => h | exact fun h => h | exact fun _ => ⟨rfl, rfl⟩ | exact ⟨rfl, rfl⟩ | decide | intro _ _ _ | intro _ _ | split | dsimp only)

/-! ### Burir -/

theorem offence_does (p kind : Nat) (s : State) : Does [.flt, .partners] s (offence p kind s) := by
  unfold offence
  repeat' (first
    | with_reducible (first
        | exact Does.refl _ _ | assumption | apply Does.ite | apply Does.step (State.modFlt_does ..) | apply Does.step (modPartner_does ..)
        | apply Does.step (raise_does ..))
    | exact fun _ h => h | exact fun h => h | exact fun _ => ⟨rfl, rfl⟩ | exact ⟨rfl, rfl⟩ | decide | intro _ _ _ | intro _ _ | split | dsimp only)

theorem wordError_does (p first last n : Nat) (s : State) : Does [.regs, .flt, .partners, .groups] s (wordError p first last n s) := by
  unfold wordError
  repeat' (first
    | with_reducible (first
        | exact Does.refl _ _ | assumption | apply Does.ite | apply Does.step (account_does ..) | apply Does.step (count_does ..)
        | apply Does.step (offence_does ..))
    | exact fun _ h => h | exact fun h => h | exact fun _ => ⟨rfl, rfl⟩ | exact ⟨rfl, rfl⟩ | decide | intro _ _ _ | intro _ _ | split | dsimp only)

theorem malformed_does (p : Nat) (acct : Option (Nat × Nat × Nat)) (s : State) : Does [.regs, .flt, .port0, .port1, .partners, .groups] s (malformed p acct s) := by
  unfold malformed
  repeat' (first
    | with_reducible (first
        | exact Does.refl _ _ | assumption | apply Does.ite | apply Does.step (account_does ..) | apply Does.step (count_does ..)
        | apply Does.step (event_does ..) | apply Does.step (offence_does ..))
    | exact fun _ h => h | exact fun h => h | exact fun _ => ⟨rfl, rfl⟩ | exact ⟨rfl, rfl⟩ | decide | intro _ _ _ | intro _ _ | split | dsimp only)

theorem malformedResponse_does (p : Nat) (s : State) : Does [.regs, .port0, .port1] s (malformedResponse p s) := by
  unfold malformedResponse
  repeat' (first
    | with_reducible (first
        | exact Does.refl _ _ | assumption | apply Does.ite | apply Does.step (count_does ..) | apply Does.step (event_does ..))
    | exact fun _ h => h | exact fun h => h | exact fun _ => ⟨rfl, rfl⟩ | exact ⟨rfl, rfl⟩ | decide | intro _ _ _ | intro _ _ | split | dsimp only)

theorem declareMissing_does (l p x : Nat) (s : State) : Does [.regs, .flt, .port0, .port1, .lanes, .partners, .groups] s (declareMissing l p x s) := by
  unfold declareMissing
  repeat' (first
    | with_reducible (first
        | exact Does.refl _ _ | assumption | apply Does.ite | apply Does.step (account_does ..) | apply Does.step (count_does ..)
        | apply Does.step (event_does ..) | apply Does.step (modLane_does ..) | apply Does.step (offence_does ..))
    | exact fun _ h => h | exact fun h => h | exact fun _ => ⟨rfl, rfl⟩ | exact ⟨rfl, rfl⟩ | decide | intro _ _ _ | intro _ _ | split | dsimp only)

theorem spanSeen_does (l p x : Nat) (s : State) : Does [.regs, .flt, .port0, .port1, .lanes, .partners, .groups] s (spanSeen l p x s) := by
  unfold spanSeen
  repeat' (first
    | with_reducible (first
        | exact Does.refl _ _ | assumption | apply Does.ite | apply Does.forN | apply Does.step (declareMissing_does ..)
        | apply Does.step (modLane_does ..))
    | exact fun _ h => h | exact fun h => h | exact fun _ => ⟨rfl, rfl⟩ | exact ⟨rfl, rfl⟩ | decide | intro _ _ _ | intro _ _ | split | dsimp only)

theorem spanTimeout_does (l : Nat) (s : State) : Does [.regs, .flt, .port0, .port1, .lanes, .partners, .groups] s (spanTimeout l s) := by
  unfold spanTimeout
  repeat' (first
    | with_reducible (first
        | exact Does.refl _ _ | assumption | apply Does.ite | apply Does.step (declareMissing_does ..) | apply Does.step (modLane_does ..))
    | exact fun _ h => h | exact fun h => h | exact fun _ => ⟨rfl, rfl⟩ | exact ⟨rfl, rfl⟩ | decide | intro _ _ _ | intro _ _ | split | dsimp only)

theorem toEngine_does (e : Nat) (x : HitItem) (s : State) : Does [.regs, .flt, .groups, .ash, .mem] s (toEngine e x s) := by
  unfold toEngine
  repeat' (first
    | with_reducible (first
        | exact Does.refl _ _ | assumption | apply Does.ite | apply Does.forN | apply Does.step (account_does ..) | apply Does.step (count_does ..)
        | apply Does.step (eccWrite_does ..) | apply Does.step (modEngine_does ..))
    | exact fun _ h => h | exact fun h => h | exact fun _ => ⟨rfl, rfl⟩ | exact ⟨rfl, rfl⟩ | decide | intro _ _ _ | intro _ _ | split | dsimp only)

theorem orphan_does (sl : Nat) (x : HitItem) (s : State) : Does [.regs, .flt, .groups, .ash] s (orphan sl x s) := by
  unfold orphan
  repeat' (first
    | with_reducible (first
        | exact Does.refl _ _ | assumption | apply Does.ite | apply Does.step (State.modAsh_does ..) | apply Does.step (account_does ..)
        | apply Does.step (count_does ..) | apply Does.step (raise_does ..))
    | exact fun _ h => h | exact fun h => h | exact fun _ => ⟨rfl, rfl⟩ | exact ⟨rfl, rfl⟩ | decide | intro _ _ _ | intro _ _ | split | dsimp only)

theorem crossbar_does (x : HitItem) (s : State) : Does [.regs, .flt, .groups, .ash, .mem] s (crossbar x s) := by
  unfold crossbar
  repeat' (first
    | with_reducible (first
        | exact Does.refl _ _ | assumption | apply Does.ite | apply Does.step (orphan_does ..) | apply Does.step (toEngine_does ..))
    | exact fun _ h => h | exact fun h => h | exact fun _ => ⟨rfl, rfl⟩ | exact ⟨rfl, rfl⟩ | decide | intro _ _ _ | intro _ _ | split | dsimp only)

theorem passHit_does (x : HitItem) (s : State) : Does [.regs, .flt, .port0, .port1, .partners, .groups, .ash, .mem] s (passHit x s) := by
  unfold passHit
  repeat' (first
    | with_reducible (first
        | exact Does.refl _ _ | assumption | apply Does.ite | apply Does.step (account_does ..) | apply Does.step (count_does ..)
        | apply Does.step (crossbar_does ..) | apply Does.step (event_does ..) | apply Does.step (modPartner_does ..)
        | apply Does.step (offence_does ..))
    | exact fun _ h => h | exact fun h => h | exact fun _ => ⟨rfl, rfl⟩ | exact ⟨rfl, rfl⟩ | decide | intro _ _ _ | intro _ _ | split | dsimp only)

theorem takeItem_does (l p x : Nat) (i : WordItem) (s : State) : Does [.regs, .flt, .port0, .port1, .partners, .groups, .ash, .mem] s (takeItem l p x i s) := by
  unfold takeItem
  repeat' (first
    | with_reducible (first
        | exact Does.refl _ _ | assumption | apply Does.ite | apply Does.step (passHit_does ..) | apply Does.step (wordError_does ..))
    | exact fun _ h => h | exact fun h => h | exact fun _ => ⟨rfl, rfl⟩ | exact ⟨rfl, rfl⟩ | decide | intro _ _ _ | intro _ _ | split | dsimp only)

theorem dataFrame_does (l p now stamp loss k : Nat) (words : List Nat) (s : State) : Does [.regs, .flt, .port0, .port1, .lanes, .partners, .groups, .ash, .mem] s (dataFrame l p now stamp loss k words s) := by
  unfold dataFrame
  repeat' (first
    | with_reducible (first
        | exact Does.refl _ _ | assumption | apply Does.ite | apply Does.forL | apply Does.step (account_does ..) | apply Does.step (count_does ..)
        | apply Does.step (malformed_does ..) | apply Does.step (spanSeen_does ..) | apply Does.step (takeItem_does ..))
    | exact fun _ h => h | exact fun h => h | exact fun _ => ⟨rfl, rfl⟩ | exact ⟨rfl, rfl⟩ | decide | intro _ _ _ | intro _ _ | split | dsimp only)

theorem cfgTimeout_does (p : Nat) (s : State) : Does [.regs, .flt, .port0, .port1, .partners] s (cfgTimeout p s) := by
  unfold cfgTimeout
  repeat' (first
    | with_reducible (first
        | exact Does.refl _ _ | assumption | apply Does.ite | apply Does.step (event_does ..) | apply Does.step (modPartner_does ..)
        | apply Does.step (raise_does ..))
    | exact fun _ h => h | exact fun h => h | exact fun _ => ⟨rfl, rfl⟩ | exact ⟨rfl, rfl⟩ | decide | intro _ _ _ | intro _ _ | split | dsimp only)

theorem responseFrame_does (p idx k : Nat) (words : List Nat) (s : State) : Does [.regs, .flt, .port0, .port1, .partners] s (responseFrame p idx k words s) := by
  unfold responseFrame
  repeat' (first
    | with_reducible (first
        | exact Does.refl _ _ | assumption | apply Does.ite | apply Does.step (cfgTimeout_does ..) | apply Does.step (malformedResponse_does ..)
        | apply Does.step (modPartner_does ..))
    | exact fun _ h => h | exact fun h => h | exact fun _ => ⟨rfl, rfl⟩ | exact ⟨rfl, rfl⟩ | decide | intro _ _ _ | intro _ _ | split | dsimp only)

theorem activeBlock_does (l p : Nat) (chars : List Byte) (closed codeError : Bool) (lag : Nat) (s : State) : Does [.regs, .flt, .port0, .port1, .lanes, .partners, .groups, .ash, .mem] s (activeBlock l p chars closed codeError lag s) := by
  unfold activeBlock
  repeat' (first
    | with_reducible (first
        | exact Does.refl _ _ | assumption | apply Does.ite | apply Does.step (dataFrame_does ..) | apply Does.step (malformed_does ..)
        | apply Does.step (responseFrame_does ..))
    | exact fun _ h => h | exact fun h => h | exact fun _ => ⟨rfl, rfl⟩ | exact ⟨rfl, rfl⟩ | decide | intro _ _ _ | intro _ _ | split | dsimp only)

theorem blockRx_does (l : Nat) (chars : List Byte) (closed codeError : Bool) (lag : Nat) (s : State) : Does [.regs, .flt, .port0, .port1, .lanes, .partners, .groups, .ash, .mem] s (blockRx l chars closed codeError lag s) := by
  unfold blockRx
  repeat' (first
    | with_reducible (first
        | exact Does.refl _ _ | assumption | apply Does.ite | apply Does.step (activeBlock_does ..) | apply Does.step (count_does ..))
    | exact fun _ h => h | exact fun h => h | exact fun _ => ⟨rfl, rfl⟩ | exact ⟨rfl, rfl⟩ | decide | intro _ _ _ | intro _ _ | split | dsimp only)

theorem offenceTick_does (p : Nat) (s : State) : Does [.regs, .flt, .port0, .port1, .quo, .lanes, .downlinks, .partners, .groups] s (offenceTick p s) := by
  unfold offenceTick
  repeat' (first
    | with_reducible (first
        | exact Does.refl _ _ | assumption | apply Does.ite | apply Does.forL | apply Does.step (modPartner_does ..)
        | apply Does.step (event_does ..) | apply Does.step (enterQuarantine_does ..))
    | exact fun _ h => h | exact fun h => h | exact fun _ => ⟨rfl, rfl⟩ | exact ⟨rfl, rfl⟩ | decide | intro _ _ _ | intro _ _ | split | dsimp only)

theorem bindPartner_does (p : Nat) (b : Binding) (s : State) : Does [.regs, .flt, .port0, .port1, .lanes, .downlinks, .partners, .groups] s (bindPartner p b s) := by
  unfold bindPartner
  repeat' (first
    | with_reducible (first
        | exact Does.refl _ _ | assumption | apply Does.ite | apply Does.forL | apply Does.step (enterActive_does ..)
        | apply Does.step (exchangeSettles_does ..) | apply Does.step (modLane_does ..) | apply Does.step (modPartner_does ..)
        | apply Does.step (raise_does ..) | apply Does.step (restartDue_does ..))
    | exact fun _ h => h | exact fun h => h | exact fun _ => ⟨rfl, rfl⟩ | exact ⟨rfl, rfl⟩ | decide | intro _ _ _ | intro _ _ | split | dsimp only)

theorem unbindPartner_does (p : Nat) (s : State) : Does [.lanes, .downlinks, .partners] s (unbindPartner p s) := by
  unfold unbindPartner
  repeat' (first
    | with_reducible (first
        | exact Does.refl _ _ | assumption | apply Does.ite | apply Does.forL | apply Does.step (modDl_does ..) | apply Does.step (modLane_does ..)
        | apply Does.step (modPartner_does ..))
    | exact fun _ h => h | exact fun h => h | exact fun _ => ⟨rfl, rfl⟩ | exact ⟨rfl, rfl⟩ | decide | intro _ _ _ | intro _ _ | split | dsimp only)

theorem bindTick_does (s : State) : Does [.regs, .flt, .port0, .port1, .lanes, .downlinks, .partners, .bindPending, .groups] s (bindTick s) := by
  unfold bindTick
  dsimp only
  apply Does.forL
  · intro x t ht
    split
    · exact Does.step (bindPartner_does ..) (by decide) ht
    · exact Does.step (unbindPartner_does ..) (by decide) ht
  · exact Does.put_bindPending (by decide) (Does.refl _ _)

theorem codeErrTick_does (s : State) : Does [.lanes] s (codeErrTick s) := by
  unfold codeErrTick
  repeat' (first
    | with_reducible (first
        | exact Does.refl _ _ | assumption | apply Does.ite | apply Does.put_lanes)
    | exact fun _ h => h | exact fun h => h | exact fun _ => ⟨rfl, rfl⟩ | exact ⟨rfl, rfl⟩ | (intro h; repeat' (first | assumption | exact h.1 | exact h.2 | exact h.2.1 | exact h.2.2 | with_reducible apply rises_put | with_reducible apply rises_upd | apply rises_filter | apply rises_map | exact fun _ => rfl | (intro _; split <;> rfl) | constructor)) | decide | intro _ _ _ | intro _ _ | split | dsimp only)

theorem spanRestart_does (s : State) : Does [.lanes] s (spanRestart s) := by
  unfold spanRestart
  repeat' (first
    | with_reducible (first
        | exact Does.refl _ _ | assumption | apply Does.ite | apply Does.put_lanes)
    | exact fun _ h => h | exact fun h => h | exact fun _ => ⟨rfl, rfl⟩ | exact ⟨rfl, rfl⟩ | (intro h; repeat' (first | assumption | exact h.1 | exact h.2 | exact h.2.1 | exact h.2.2 | with_reducible apply rises_put | with_reducible apply rises_upd | apply rises_filter | apply rises_map | exact fun _ => rfl | (intro _; split <;> rfl) | constructor)) | decide | intro _ _ _ | intro _ _ | split | dsimp only)

/-! ### Lines -/

theorem modUplink_does (u : Nat) (f : Uplink → Uplink) (s : State) : Does [.uplinks] s (modUplink u f s) := by
  unfold modUplink
  repeat' (first
    | with_reducible (first
        | exact Does.refl _ _ | assumption | apply Does.ite | apply Does.put_uplinks)
    | exact fun _ h => h | exact fun h => h | exact fun _ => ⟨rfl, rfl⟩ | exact ⟨rfl, rfl⟩ | (intro h; repeat' (first | assumption | exact h.1 | exact h.2 | exact h.2.1 | exact h.2.2 | with_reducible apply rises_put | with_reducible apply rises_upd | apply rises_filter | apply rises_map | exact fun _ => rfl | (intro _; split <;> rfl) | constructor)) | decide | intro _ _ _ | intro _ _ | split | dsimp only)

theorem modUplGroup_does (h : Nat) (f : UplGroup → UplGroup) (s : State) : Does [.uplGroups] s (modUplGroup h f s) := by
  unfold modUplGroup
  repeat' (first
    | with_reducible (first
        | exact Does.refl _ _ | assumption | apply Does.ite | apply Does.put_uplGroups)
    | exact fun _ h => h | exact fun h => h | exact fun _ => ⟨rfl, rfl⟩ | exact ⟨rfl, rfl⟩ | (intro h; repeat' (first | assumption | exact h.1 | exact h.2 | exact h.2.1 | exact h.2.2 | with_reducible apply rises_put | with_reducible apply rises_upd | apply rises_filter | apply rises_map | exact fun _ => rfl | (intro _; split <;> rfl) | constructor)) | decide | intro _ _ _ | intro _ _ | split | dsimp only)

theorem modRetLane_does (r : Nat) (f : RetLane → RetLane) (s : State) : Does [.retLanes] s (modRetLane r f s) := by
  unfold modRetLane
  repeat' (first
    | with_reducible (first
        | exact Does.refl _ _ | assumption | apply Does.ite | apply Does.put_retLanes)
    | exact fun _ h => h | exact fun h => h | exact fun _ => ⟨rfl, rfl⟩ | exact ⟨rfl, rfl⟩ | (intro h; repeat' (first | assumption | exact h.1 | exact h.2 | exact h.2.1 | exact h.2.2 | with_reducible apply rises_put | with_reducible apply rises_upd | apply rises_filter | apply rises_map | exact fun _ => rfl | (intro _; split <;> rfl) | constructor)) | decide | intro _ _ _ | intro _ _ | split | dsimp only)

theorem modStream_does (t : Nat) (f : Stream → Stream) (s : State) : Does [.streams] s (modStream t f s) := by
  unfold modStream
  repeat' (first
    | with_reducible (first
        | exact Does.refl _ _ | assumption | apply Does.ite | apply Does.put_streams)
    | exact fun _ h => h | exact fun h => h | exact fun _ => ⟨rfl, rfl⟩ | exact ⟨rfl, rfl⟩ | (intro h; repeat' (first | assumption | exact h.1 | exact h.2 | exact h.2.1 | exact h.2.2 | with_reducible apply rises_put | with_reducible apply rises_upd | apply rises_filter | apply rises_map | exact fun _ => rfl | (intro _; split <;> rfl) | constructor)) | decide | intro _ _ _ | intro _ _ | split | dsimp only)

theorem State.modLnt_does (f : Lintel → Lintel) (s : State) (hr : ∀ y, y.TablesRise → (f y).TablesRise) : Does [.lnt] s (s.modLnt f) :=
  Does.put_lnt (by decide) (hr _) (Does.refl _ _)

/-! ### Lintel -/

theorem modLntGroup_does (a : Nat) (f : LntGroup → LntGroup) (s : State) : Does [.lnt] s (modLntGroup a f s) := by
  unfold modLntGroup
  repeat' (first
    | with_reducible (first
        | exact Does.refl _ _ | assumption | apply Does.ite | apply Does.step (State.modLnt_does ..))
    | exact fun _ h => h | exact fun h => h | exact fun _ => ⟨rfl, rfl⟩ | exact ⟨rfl, rfl⟩ | (intro _ h; repeat' (first | assumption | exact h.1 | exact h.2 | exact h.2.1 | exact h.2.2 | with_reducible apply rises_put | with_reducible apply rises_upd | apply rises_filter | apply rises_map | exact fun _ => rfl | (intro _; split <;> rfl) | constructor)) | decide | intro _ _ _ | intro _ _ | split | dsimp only)

theorem lateAtTap_does (p l a late : Nat) (s : State) : Does [.regs, .flt, .port0, .port1, .lnt] s (lateAtTap p l a late s) := by
  unfold lateAtTap
  repeat' (first
    | with_reducible (first
        | exact Does.refl _ _ | assumption | apply Does.ite | apply Does.step (State.modLnt_does ..) | apply Does.step (count_does ..)
        | apply Does.step (event_does ..) | apply Does.step (raise_does ..))
    | exact fun _ h => h | exact fun h => h | exact fun _ => ⟨rfl, rfl⟩ | exact ⟨rfl, rfl⟩ | decide | intro _ _ _ | intro _ _ | split | dsimp only)

theorem tapOverflow_does (a : Nat) (s : State) : Does [.regs, .flt, .port0, .port1, .lnt] s (tapOverflow a s) := by
  unfold tapOverflow
  repeat' (first
    | with_reducible (first
        | exact Does.refl _ _ | assumption | apply Does.ite | apply Does.step (modLntGroup_does ..)
        | apply Does.step (State.modLnt_does ..) | apply Does.step (count_does ..) | apply Does.step (event_does ..)
        | apply Does.step (raise_does ..))
    | exact fun _ h => h | exact fun h => h | exact fun _ => ⟨rfl, rfl⟩ | exact ⟨rfl, rfl⟩ | (intro _ h; repeat' (first | assumption | exact h.1 | exact h.2 | exact h.2.1 | exact h.2.2 | with_reducible apply rises_put | with_reducible apply rises_upd | apply rises_filter | apply rises_map | exact fun _ => rfl | rfl | (intro _; split <;> rfl) | constructor)) | decide | intro _ _ _ | intro _ _ | split | dsimp only)

theorem historyWrite_does (a : Nat) (kept : List Nat) (s : State) : Does [.mem] s (historyWrite a kept s) := by
  unfold historyWrite
  repeat' (first
    | with_reducible (first
        | exact Does.refl _ _ | assumption | apply Does.ite | apply Does.forL | apply Does.step (eccWrite_does ..))
    | exact fun _ h => h | exact fun h => h | exact fun _ => ⟨rfl, rfl⟩ | exact ⟨rfl, rfl⟩ | decide | intro _ _ _ | intro _ _ | split | dsimp only)

theorem joins_rise (l : List TapRec) {gs : SMap LntGroup} (h : Rises gs) : Rises (l.foldl joinGroup gs) := by
  induction l generalizing gs with
  | nil => exact h
  | cons x l ih => exact ih (rises_upd h)

theorem tapAdmit_does (x : TapRec) (s : State) : Does [.regs, .flt, .port0, .port1, .mem, .lnt] s (tapAdmit x s) := by
  unfold tapAdmit
  extract_lets same base all gs more g u v w
  have hu : Does [.mem] s u := by
    show Does [.mem] s (if _ then _ else _)
    split
    · exact historyWrite_does ..
    · exact Does.refl _ _
  have hl : u.lnt = s.lnt := hu.only.same .lnt (by decide)
  have hv : Does [.regs, .flt, .port0, .port1, .mem, .lnt] s v := by
    refine Does.put_lnt (by decide) (fun h => ?_) (Does.step hu (by decide) (Does.refl _ _))
    rw [hl] at h
    have hb : Rises base := by
      show Rises (if _ then _ else _)
      split
      · exact h.2
      · exact h.1
    exact ⟨joins_rise _ hb, hb⟩
  have hw : Does [.regs, .flt, .port0, .port1, .mem, .lnt] s w := by
    show Does _ s (if _ then _ else _)
    split
    · exact hv
    · exact Does.step (count_does ..) (by decide) (Does.step (event_does ..) (by decide) hv)
  split
  · exact Does.step (tapOverflow_does ..) (by decide) hw
  · exact Does.step (countWrap_does ..) (by decide) hw

theorem lintelTap_does (m c : Nat) (w : DWord) (l : Nat) (arr : Stamp) (s : State) : Does [.regs, .flt, .port0, .port1, .mem, .lnt] s (lintelTap m c w l arr s) := by
  unfold lintelTap
  repeat' (first
    | with_reducible (first
        | exact Does.refl _ _ | assumption | apply Does.ite | apply Does.step (lateAtTap_does ..) | apply Does.step (tapAdmit_does ..))
    | exact fun _ h => h | exact fun h => h | exact fun _ => ⟨rfl, rfl⟩ | exact ⟨rfl, rfl⟩ | decide | intro _ _ _ | intro _ _ | split | dsimp only)

theorem lossSample_does (a b : Nat) (s : State) : Does [.lnt] s (lossSample a b s) := by
  unfold lossSample
  repeat' (first
    | with_reducible (first
        | exact Does.refl _ _ | assumption | apply Does.ite | apply Does.foldl | apply Does.foldl1 | apply Does.foldl2 | apply Does.foldl22
        | apply Does.step (State.modLnt_does ..))
    | exact fun _ h => h | exact fun h => h | exact fun _ => ⟨rfl, rfl⟩ | exact ⟨rfl, rfl⟩ | decide | intro _ _ _ | intro _ _ | split | dsimp only)

theorem lintelError_does (a : Nat) (stage : Word) (master access : Nat) (s : State) : Does [.regs, .flt, .port0, .port1] s (lintelError a stage master access s) := by
  unfold lintelError
  repeat' (first
    | with_reducible (first
        | exact Does.refl _ _ | assumption | apply Does.ite | apply Does.step (event_does ..) | apply Does.step (raise_does ..))
    | exact fun _ h => h | exact fun h => h | exact fun _ => ⟨rfl, rfl⟩ | exact ⟨rfl, rfl⟩ | decide | intro _ _ _ | intro _ _ | split | dsimp only)

theorem historyRead_does (a : Nat) (s : State) : Does [.regs, .flt, .port0, .port1, .mem] s (historyRead a s) := by
  unfold historyRead
  repeat' (first
    | with_reducible (first
        | exact Does.refl _ _ | assumption | apply Does.ite | apply Does.step (eccReads_does ..) | apply Does.step (lintelError_does ..))
    | exact fun _ h => h | exact fun h => h | exact fun _ => ⟨rfl, rfl⟩ | exact ⟨rfl, rfl⟩ | decide | intro _ _ _ | intro _ _ | split | dsimp only)

theorem lintelGroupClose_does (err : Option Nat) (s : State) : Does [.regs, .flt, .port0, .port1, .mem, .lnt] s (lintelGroupClose err s) := by
  unfold lintelGroupClose
  repeat' (first
    | with_reducible (first
        | exact Does.refl _ _ | assumption | apply Does.ite | apply Does.step (historyRead_does ..)
        | apply Does.step (lintelError_does ..) | apply Does.step (setCell_does ..) | apply Does.step (countWrap_does ..)
        | apply Does.step (State.modLnt_does ..))
    | exact fun _ h => h | exact fun h => h | exact fun _ => ⟨rfl, rfl⟩ | exact ⟨rfl, rfl⟩ | (intro _ h; repeat' (first | assumption | exact h.1 | exact h.2 | exact h.2.1 | exact h.2.2 | with_reducible apply rises_put | with_reducible apply rises_upd | apply rises_filter | apply rises_map | exact fun _ => rfl | rfl | (intro _; split <;> rfl) | constructor)) | decide | intro _ _ _ | intro _ _ | split | dsimp only)

theorem skipRunEnds_does (s : State) : Does [.flt, .lnt] s (skipRunEnds s) := by
  unfold skipRunEnds
  repeat' (first
    | with_reducible (first
        | exact Does.refl _ _ | assumption | apply Does.ite | apply Does.step (State.modLnt_does ..) | apply Does.step (raise_does ..))
    | exact fun _ h => h | exact fun h => h | exact fun _ => ⟨rfl, rfl⟩ | exact ⟨rfl, rfl⟩ | decide | intro _ _ _ | intro _ _ | split | dsimp only)

theorem skipFrame_does (a : Nat) (stop : Bool) (s : State) : Does [.regs, .flt, .port0, .port1, .lnt] s (skipFrame a stop s) := by
  unfold skipFrame
  repeat' (first
    | with_reducible (first
        | exact Does.refl _ _ | assumption | apply Does.ite | apply Does.step (State.modLnt_does ..) | apply Does.step (count_does ..)
        | apply Does.step (event_does ..) | apply Does.step (skipRunEnds_does ..))
    | exact fun _ h => h | exact fun h => h | exact fun _ => ⟨rfl, rfl⟩ | exact ⟨rfl, rfl⟩ | decide | intro _ _ _ | intro _ _ | split | dsimp only)

theorem lintelFrameSend_does (s : State) : Does [.regs, .flt, .port0, .port1, .lnt] s (lintelFrameSend s) := by
  unfold lintelFrameSend
  repeat' (first
    | with_reducible (first
        | exact Does.refl _ _ | assumption | apply Does.ite | apply Does.step (State.modLnt_does ..) | apply Does.step (skipFrame_does ..)
        | apply Does.step (skipRunEnds_does ..))
    | exact fun _ h => h | exact fun h => h | exact fun _ => ⟨rfl, rfl⟩ | exact ⟨rfl, rfl⟩ | decide | intro _ _ _ | intro _ _ | split | dsimp only)

theorem lintelTablesTick_does (c : Nat) (old : LntTables) (changed : Bool) (ofs : BitVec 64) (s : State) : Does [.lnt] s (lintelTablesTick c old changed ofs s) := by
  unfold lintelTablesTick
  repeat' (first
    | with_reducible (first
        | exact Does.refl _ _ | assumption | apply Does.ite | apply Does.step (State.modLnt_does ..))
    | exact fun _ h => h | exact fun h => h | exact fun _ => ⟨rfl, rfl⟩ | exact ⟨rfl, rfl⟩ | decide | intro _ _ _ | intro _ _ | split | dsimp only)

theorem lintelConflict_does (due : List Nat) (i : Nat) (s : State) : Does [.regs, .flt, .port0, .port1, .lnt] s (lintelConflict due i s) := by
  unfold lintelConflict
  repeat' (first
    | with_reducible (first
        | exact Does.refl _ _ | assumption | apply Does.ite | apply Does.step (State.modLnt_does ..) | apply Does.step (event_does ..)
        | apply Does.step (raise_does ..))
    | exact fun _ h => h | exact fun h => h | exact fun _ => ⟨rfl, rfl⟩ | exact ⟨rfl, rfl⟩ | decide | intro _ _ _ | intro _ _ | split | dsimp only)

theorem lintelConflicts_does (due : List Nat) (s : State) : Does [.regs, .flt, .port0, .port1, .lnt] s (lintelConflicts due s) := by
  unfold lintelConflicts
  repeat' (first
    | with_reducible (first
        | exact Does.refl _ _ | assumption | apply Does.ite | apply Does.forN | apply Does.step (lintelConflict_does ..))
    | exact fun _ h => h | exact fun h => h | exact fun _ => ⟨rfl, rfl⟩ | exact ⟨rfl, rfl⟩ | decide | intro _ _ _ | intro _ _ | split | dsimp only)

theorem lintelTick_does (c : Nat) (s : State) : Does [.lnt] s (lintelTick c s) := by
  unfold lintelTick
  repeat' (first
    | with_reducible (first
        | exact Does.refl _ _ | assumption | apply Does.ite | apply Does.step (State.modLnt_does ..))
    | exact fun _ h => h | exact fun h => h | exact fun _ => ⟨rfl, rfl⟩ | exact ⟨rfl, rfl⟩ | (intro _ h; repeat' (first | assumption | exact h.1 | exact h.2 | exact h.2.1 | exact h.2.2 | with_reducible apply rises_put | with_reducible apply rises_upd | apply rises_filter | apply rises_map | exact fun _ => rfl | rfl | (intro _; split <;> rfl) | constructor)) | decide | intro _ _ _ | intro _ _ | split | dsimp only)

theorem lintelIsolate_does (s : State) : Does [.flt, .lnt] s (lintelIsolate s) := by
  unfold lintelIsolate
  repeat' (first
    | with_reducible (first
        | exact Does.refl _ _ | assumption | apply Does.ite | apply Does.step (State.modLnt_does ..) | apply Does.step (skipRunEnds_does ..))
    | exact fun _ h => h | exact fun h => h | exact fun _ => ⟨rfl, rfl⟩ | exact ⟨rfl, rfl⟩ | (intro _ h; repeat' (first | assumption | exact h.1 | exact h.2 | exact h.2.1 | exact h.2.2 | with_reducible apply rises_put | with_reducible apply rises_upd | apply rises_filter | apply rises_map | exact fun _ => rfl | rfl | (intro _; split <;> rfl) | constructor)) | decide | intro _ _ _ | intro _ _ | split | dsimp only)

theorem lintelOff_does (hold : Bool) (s : State) : Does [.flt, .lnt] s (lintelOff hold s) := by
  unfold lintelOff
  repeat' (first
    | with_reducible (first
        | exact Does.refl _ _ | assumption | apply Does.ite | apply Does.step (State.modLnt_does ..) | apply Does.step (skipRunEnds_does ..))
    | exact fun _ h => h | exact fun h => h | exact fun _ => ⟨rfl, rfl⟩ | exact ⟨rfl, rfl⟩ | (intro _ h; repeat' (first | assumption | exact h.1 | exact h.2 | exact h.2.1 | exact h.2.2 | with_reducible apply rises_put | with_reducible apply rises_upd | apply rises_filter | apply rises_map | exact fun _ => rfl | rfl | (intro _; split <;> rfl) | constructor)) | decide | intro _ _ _ | intro _ _ | split | dsimp only)

theorem lintelStop_does (s : State) : Does [.lnt] s (lintelStop s) := by
  unfold lintelStop
  repeat' (first
    | with_reducible (first
        | exact Does.refl _ _ | assumption | apply Does.ite | apply Does.step (State.modLnt_does ..))
    | exact fun _ h => h | exact fun h => h | exact fun _ => ⟨rfl, rfl⟩ | exact ⟨rfl, rfl⟩ | (intro _ h; repeat' (first | assumption | exact h.1 | exact h.2 | exact h.2.1 | exact h.2.2 | with_reducible apply rises_put | with_reducible apply rises_upd | apply rises_filter | apply rises_map | exact fun _ => rfl | rfl | (intro _; split <;> rfl) | constructor)) | decide | intro _ _ _ | intro _ _ | split | dsimp only)

theorem lintelRestart_does (s : State) : Does [.flt, .lnt] s (lintelRestart s) := by
  unfold lintelRestart
  repeat' (first
    | with_reducible (first
        | exact Does.refl _ _ | assumption | apply Does.ite | apply Does.step (State.modLnt_does ..) | apply Does.step (skipRunEnds_does ..))
    | exact fun _ h => h | exact fun h => h | exact fun _ => ⟨rfl, rfl⟩ | exact ⟨rfl, rfl⟩ | decide | intro _ _ _ | intro _ _ | split | dsimp only)

/-! ### LodgeCore -/

theorem State.modLdg_does (f : Lodge → Lodge) (s : State) (hr : ∀ y, Rises y.boxes → Rises (f y).boxes) : Does [.ldg] s (s.modLdg f) :=
  Does.put_ldg (by decide) (hr _) (Does.refl _ _)

theorem modBox_does (m : Nat) (f : Mailbox → Mailbox) (s : State) : Does [.ldg] s (modBox m f s) := by
  unfold modBox
  repeat' (first
    | with_reducible (first
        | exact Does.refl _ _ | assumption | apply Does.ite | apply Does.step (State.modLdg_does ..))
    | exact fun _ h => h | exact fun h => h | exact fun _ => ⟨rfl, rfl⟩ | exact ⟨rfl, rfl⟩ | (intro _ h; repeat' (first | assumption | exact h.1 | exact h.2 | exact h.2.1 | exact h.2.2 | with_reducible apply rises_put | with_reducible apply rises_upd | apply rises_filter | apply rises_map | exact fun _ => rfl | (intro _; split <;> rfl) | constructor)) | decide | intro _ _ _ | intro _ _ | split | dsimp only)

theorem ldgSubmit_does (m : Nat) (s : State) : Does [.regs, .port0, .port1, .ldg] s (ldgSubmit m s) := by
  unfold ldgSubmit
  repeat' (first
    | with_reducible (first
        | exact Does.refl _ _ | assumption | apply Does.ite | apply Does.step (State.modLdg_does ..) | apply Does.step (event_does ..)
        | apply Does.step (modBox_does ..))
    | exact fun _ h => h | exact fun h => h | exact fun _ => ⟨rfl, rfl⟩ | exact ⟨rfl, rfl⟩ | decide | intro _ _ _ | intro _ _ | split | dsimp only)

theorem ldgAck_does (m seq : Nat) (s : State) : Does [.regs, .port0, .port1, .ldg] s (ldgAck m seq s) := by
  unfold ldgAck
  repeat' (first
    | with_reducible (first
        | exact Does.refl _ _ | assumption | apply Does.ite | apply Does.step (event_does ..) | apply Does.step (modBox_does ..))
    | exact fun _ h => h | exact fun h => h | exact fun _ => ⟨rfl, rfl⟩ | exact ⟨rfl, rfl⟩ | decide | intro _ _ _ | intro _ _ | split | dsimp only)

theorem ldgRun_does (m : Nat) (x : LdgCmd) (w : LdgWait) (s : State) : Does [.ldg] s (ldgRun m x w s) := by
  unfold ldgRun
  repeat' (first
    | with_reducible (first
        | exact Does.refl _ _ | assumption | apply Does.ite | apply Does.step (modBox_does ..))
    | exact fun _ h => h | exact fun h => h | exact fun _ => ⟨rfl, rfl⟩ | exact ⟨rfl, rfl⟩ | decide | intro _ _ _ | intro _ _ | split | dsimp only)

theorem ldgFinish_does (m : Nat) (x : LdgCmd) (t : Stamp) (status detail : Nat) (res : List Word) (s : State) : Does [.regs, .flt, .port0, .port1, .ldg] s (ldgFinish m x t status detail res s) := by
  unfold ldgFinish
  repeat' (first
    | with_reducible (first
        | exact Does.refl _ _ | assumption | apply Does.ite | apply Does.step (count_does ..) | apply Does.step (countWrap_does ..)
        | apply Does.step (event_does ..) | apply Does.step (modBox_does ..) | apply Does.step (raise_does ..))
    | exact fun _ h => h | exact fun h => h | exact fun _ => ⟨rfl, rfl⟩ | exact ⟨rfl, rfl⟩ | decide | intro _ _ _ | intro _ _ | split | dsimp only)

theorem ldgAtOnce_does (m : Nat) (x : LdgCmd) (status detail : Nat) (res : List Word) (s : State) : Does [.regs, .flt, .port0, .port1, .ldg] s (ldgAtOnce m x status detail res s) := by
  unfold ldgAtOnce
  repeat' (first
    | with_reducible (first
        | exact Does.refl _ _ | assumption | apply Does.ite | apply Does.step (ldgFinish_does ..) | apply Does.step (modBox_does ..))
    | exact fun _ h => h | exact fun h => h | exact fun _ => ⟨rfl, rfl⟩ | exact ⟨rfl, rfl⟩ | decide | intro _ _ _ | intro _ _ | split | dsimp only)

theorem ldgComplete_does (m : Nat) (status detail : Nat) (res : List Word) (s : State) : Does [.regs, .flt, .port0, .port1, .ldg] s (ldgComplete m status detail res s) := by
  unfold ldgComplete
  repeat' (first
    | with_reducible (first
        | exact Does.refl _ _ | assumption | apply Does.ite | apply Does.step (ldgFinish_does ..) | apply Does.step (modBox_does ..))
    | exact fun _ h => h | exact fun h => h | exact fun _ => ⟨rfl, rfl⟩ | exact ⟨rfl, rfl⟩ | decide | intro _ _ _ | intro _ _ | split | dsimp only)

theorem responsePlaced_does (m : Nat) (s : State) : Does [.regs, .port0, .port1, .ldg] s (responsePlaced m s) := by
  unfold responsePlaced
  repeat' (first
    | with_reducible (first
        | exact Does.refl _ _ | assumption | apply Does.ite | apply Does.forN | apply Does.step (modBox_does ..) | apply Does.step (setCell_does ..)
        | apply Does.step (signalPort_does ..))
    | exact fun _ h => h | exact fun h => h | exact fun _ => ⟨rfl, rfl⟩ | exact ⟨rfl, rfl⟩ | decide | intro _ _ _ | intro _ _ | split | dsimp only)

theorem ldgOvertime_does (m cycles : Nat) (s : State) : Does [.regs, .flt, .port0, .port1, .ldg] s (ldgOvertime m cycles s) := by
  unfold ldgOvertime
  repeat' (first
    | with_reducible (first
        | exact Does.refl _ _ | assumption | apply Does.ite | apply Does.step (count_does ..) | apply Does.step (event_does ..)
        | apply Does.step (modBox_does ..) | apply Does.step (raise_does ..))
    | exact fun _ h => h | exact fun h => h | exact fun _ => ⟨rfl, rfl⟩ | exact ⟨rfl, rfl⟩ | decide | intro _ _ _ | intro _ _ | split | dsimp only)

/-! ### Hbm -/

theorem State.hbmStore_does (a : Nat) (bs : List Byte) (s : State) : Does [.hbm] s (s.hbmStore a bs) := by
  unfold State.hbmStore
  split
  · exact Does.refl _ _
  · exact Does.put_hbm (by decide) (hbmWrite_wf a bs) (markWritten_wf a _) (fun h => h) (fun h => h) (Does.refl _ _)

/-! ### Quarry -/

theorem State.modQry_does (f : Quarry → Quarry) (s : State) (hr : ∀ y, Rises y.rewritten → Rises (f y).rewritten) : Does [.qry] s (s.modQry f) :=
  Does.put_qry (by decide) (hr _) (Does.refl _ _)

theorem State.modRing_does (f : Ring → Ring) (s : State) (hr : ∀ y, y.TablesRise → (f y).TablesRise) : Does [.ring] s (s.modRing f) :=
  Does.put_ring (by decide) (hr _) (Does.refl _ _)

theorem modQuarter_does (m : Nat) (f : Quarter → Quarter) (s : State) : Does [.ring] s (modQuarter m f s) := by
  unfold modQuarter
  repeat' (first
    | with_reducible (first
        | exact Does.refl _ _ | assumption | apply Does.ite | apply Does.step (State.modRing_does ..))
    | exact fun _ h => h | exact fun h => h | exact fun _ => ⟨rfl, rfl⟩ | exact ⟨rfl, rfl⟩ | (intro _ h; repeat' (first | assumption | exact h.1 | exact h.2 | exact h.2.1 | exact h.2.2 | with_reducible apply rises_put | with_reducible apply rises_upd | apply rises_filter | apply rises_map | exact fun _ => rfl | (intro _; split <;> rfl) | constructor)) | decide | intro _ _ _ | intro _ _ | split | dsimp only)

theorem modCoder_does (m : Nat) (f : Coder → Coder) (s : State) : Does [.ring] s (modCoder m f s) := by
  unfold modCoder
  repeat' (first
    | with_reducible (first
        | exact Does.refl _ _ | assumption | apply Does.ite | apply Does.step (State.modRing_does ..))
    | exact fun _ h => h | exact fun h => h | exact fun _ => ⟨rfl, rfl⟩ | exact ⟨rfl, rfl⟩ | (intro _ h; repeat' (first | assumption | exact h.1 | exact h.2 | exact h.2.1 | exact h.2.2 | with_reducible apply rises_put | with_reducible apply rises_upd | apply rises_filter | apply rises_map | exact fun _ => rfl | (intro _; split <;> rfl) | constructor)) | decide | intro _ _ _ | intro _ _ | split | dsimp only)

theorem depthMoved_does (s : State) : Does [.regs, .flt, .port0, .port1, .qry] s (depthMoved s) := by
  unfold depthMoved
  repeat' (first
    | with_reducible (first
        | exact Does.refl _ _ | assumption | apply Does.ite | apply Does.step (State.modQry_does ..) | apply Does.step (event_does ..)
        | apply Does.step (modCell_does ..) | apply Does.step (raise_does ..))
    | exact fun _ h => h | exact fun h => h | exact fun _ => ⟨rfl, rfl⟩ | exact ⟨rfl, rfl⟩ | decide | intro _ _ _ | intro _ _ | split | dsimp only)

theorem storeEntry_does (c : Nat) (ws : List DWord) (s : State) : Does [.hbm] s (storeEntry c ws s) := by
  unfold storeEntry
  repeat' (first
    | with_reducible (first
        | exact Does.refl _ _ | assumption | apply Does.ite | apply Does.step (State.hbmStore_does ..))
    | exact fun _ h => h | exact fun h => h | exact fun _ => ⟨rfl, rfl⟩ | exact ⟨rfl, rfl⟩ | decide | intro _ _ _ | intro _ _ | split | dsimp only)

theorem markDamaged_does (c g : Nat) (s : State) : Does [.regs, .port0, .port1, .hbm] s (markDamaged c g s) := by
  unfold markDamaged
  repeat' (first
    | with_reducible (first
        | exact Does.refl _ _ | assumption | apply Does.ite | apply Does.step (count_does ..) | apply Does.step (event_does ..)
        | apply Does.step (storeEntry_does ..))
    | exact fun _ h => h | exact fun h => h | exact fun _ => ⟨rfl, rfl⟩ | exact ⟨rfl, rfl⟩ | decide | intro _ _ _ | intro _ _ | split | dsimp only)

theorem openStoneError_does (c b : Nat) (s : State) : Does [.qry] s (openStoneError c b s) := by
  unfold openStoneError
  repeat' (first
    | with_reducible (first
        | exact Does.refl _ _ | assumption | apply Does.ite | apply Does.step (State.modQry_does ..))
    | exact fun _ h => h | exact fun h => h | exact fun _ => ⟨rfl, rfl⟩ | exact ⟨rfl, rfl⟩ | decide | intro _ _ _ | intro _ _ | split | dsimp only)

theorem closeStone_does (s : State) : Does [.qry, .mem] s (closeStone s) := by
  unfold closeStone
  repeat' (first
    | with_reducible (first
        | exact Does.refl _ _ | assumption | apply Does.ite | apply Does.step (State.modQry_does ..) | apply Does.step (eccWrites_does ..))
    | exact fun _ h => h | exact fun h => h | exact fun _ => ⟨rfl, rfl⟩ | exact ⟨rfl, rfl⟩ | decide | intro _ _ _ | intro _ _ | split | dsimp only)

theorem appendWords_does (n : Nat) (ws : List DWord) (begins : Bool) (b : MolBlock) (s : State) : Does [.qry, .mem] s (appendWords n ws begins b s) := by
  induction n generalizing ws begins s with
  | zero => unfold appendWords; exact Does.refl _ _
  | succ n ih =>
    unfold appendWords
    split
    · exact Does.refl _ _
    · exact Does.refl _ _
    · rename_i heq hne
      obtain rfl : n = _ := Nat.succ.inj heq
      dsimp only
      repeat' (first
      | with_reducible apply Does.step (ih ..)
        | with_reducible (first
            | exact Does.refl _ _ | assumption | apply Does.ite | apply Does.step (State.modQry_does ..) | apply Does.step (closeStone_does ..)
            | apply Does.step (eccWrites_does ..))
        | exact fun _ h => h | exact fun h => h | exact fun _ => ⟨rfl, rfl⟩ | exact ⟨rfl, rfl⟩ | decide | intro _ _ _ | intro _ _ | split | dsimp only)

theorem appendBlock_does (b : MolBlock) (s : State) : Does [.qry, .mem] s (appendBlock b s) := by
  unfold appendBlock
  repeat' (first
    | with_reducible (first
        | exact Does.refl _ _ | assumption | apply Does.ite | apply Does.step (State.modQry_does ..) | apply Does.step (appendWords_does ..))
    | exact fun _ h => h | exact fun h => h | exact fun _ => ⟨rfl, rfl⟩ | exact ⟨rfl, rfl⟩ | decide | intro _ _ _ | intro _ _ | split | dsimp only)

theorem pinAt_does (i : Nat) (s : State) : Does [.qry] s (pinAt i s) := by
  unfold pinAt
  repeat' (first
    | with_reducible (first
        | exact Does.refl _ _ | assumption | apply Does.ite | apply Does.step (State.modQry_does ..))
    | exact fun _ h => h | exact fun h => h | exact fun _ => ⟨rfl, rfl⟩ | exact ⟨rfl, rfl⟩ | decide | intro _ _ _ | intro _ _ | split | dsimp only)

theorem pinAll_does (s : State) : Does [.qry] s (pinAll s) := by
  unfold pinAll
  repeat' (first
    | with_reducible (first
        | exact Does.refl _ _ | assumption | apply Does.ite | apply Does.forN | apply Does.step (pinAt_does ..))
    | exact fun _ h => h | exact fun h => h | exact fun _ => ⟨rfl, rfl⟩ | exact ⟨rfl, rfl⟩ | decide | intro _ _ _ | intro _ _ | split | dsimp only)

theorem breakPins_does (n : Nat) (s : State) : Does [.regs, .flt, .port0, .port1, .qry] s (breakPins n s) := by
  unfold breakPins
  repeat' (first
    | with_reducible (first
        | exact Does.refl _ _ | assumption | apply Does.ite | apply Does.forL | apply Does.step (State.modQry_does ..)
        | apply Does.step (count_does ..) | apply Does.step (event_does ..) | apply Does.step (raise_does ..))
    | exact fun _ h => h | exact fun h => h | exact fun _ => ⟨rfl, rfl⟩ | exact ⟨rfl, rfl⟩ | decide | intro _ _ _ | intro _ _ | split | dsimp only)

theorem leaveHistory_does (k : Nat) (s : State) : Does [.qry, .hbm] s (leaveHistory k s) := by
  induction k generalizing s with
  | zero => unfold leaveHistory; exact Does.refl _ _
  | succ k ih =>
    unfold leaveHistory
    repeat' (first
      | with_reducible apply Does.step (ih ..)
        | with_reducible (first
            | exact Does.refl _ _ | assumption | apply Does.ite | apply Does.step (State.hbmStore_does ..) | apply Does.step (State.modQry_does ..))
        | exact fun _ h => h | exact fun h => h | exact fun _ => ⟨rfl, rfl⟩ | exact ⟨rfl, rfl⟩ | decide | intro _ _ _ | intro _ _ | split | dsimp only)

theorem stoneRead_does (s : State) : Does [.regs, .flt, .port0, .port1, .qry, .mem] s (stoneRead s) := by
  unfold stoneRead
  repeat' (first
    | with_reducible (first
        | exact Does.refl _ _ | assumption | apply Does.ite | apply Does.eccVisit (by decide) | apply Does.step (openStoneError_does ..))
    | exact fun _ h => h | exact fun h => h | exact fun _ => ⟨rfl, rfl⟩ | exact ⟨rfl, rfl⟩ | decide | intro _ _ _ | intro _ _ | split | dsimp only)

theorem stonePassed_does (n : Nat) (s : State) : Does [.qry] s (stonePassed n s) := by
  unfold stonePassed
  repeat' (first
    | with_reducible (first
        | exact Does.refl _ _ | assumption | apply Does.ite | apply Does.step (State.modQry_does ..))
    | exact fun _ h => h | exact fun h => h | exact fun _ => ⟨rfl, rfl⟩ | exact ⟨rfl, rfl⟩ | decide | intro _ _ _ | intro _ _ | split | dsimp only)

theorem stoneWriteDone_does (s : State) : Does [.regs, .flt, .port0, .port1, .qry, .hbm, .mem] s (stoneWriteDone s) := by
  unfold stoneWriteDone
  repeat' (first
    | with_reducible (first
        | exact Does.refl _ _ | assumption | apply Does.ite | apply Does.step (State.hbmStore_does ..) | apply Does.step (stoneRead_does ..)
        | apply Does.step (leaveHistory_does ..) | apply Does.step (stonePassed_does ..) | apply Does.step (breakPins_does ..)
        | apply Does.step (depthMoved_does ..) | apply Does.step (State.modQry_does ..))
    | exact fun _ h => h | exact fun h => h | exact fun _ => ⟨rfl, rfl⟩ | exact ⟨rfl, rfl⟩ | decide | intro _ _ _ | intro _ _ | split | dsimp only)

theorem stoneClose_does (s : State) : Does [.qry, .mem] s (stoneClose s) := by
  unfold stoneClose
  repeat' (first
    | with_reducible (first
        | exact Does.refl _ _ | assumption | apply Does.ite | apply Does.step (closeStone_does ..))
    | exact fun _ h => h | exact fun h => h | exact fun _ => ⟨rfl, rfl⟩ | exact ⟨rfl, rfl⟩ | decide | intro _ _ _ | intro _ _ | split | dsimp only)

theorem publish_does (j : IndexJob) (cr : CloseRec) (s : State) : Does [.regs, .flt, .port0, .port1, .qry, .hbm] s (publish j cr s) := by
  unfold publish
  repeat' (first
    | with_reducible (first
        | exact Does.refl _ _ | assumption | apply Does.ite | apply Does.step (storeEntry_does ..) | apply Does.step (pinAll_does ..)
        | apply Does.step (depthMoved_does ..) | apply Does.step (State.modQry_does ..))
    | exact fun _ h => h | exact fun h => h | exact fun _ => ⟨rfl, rfl⟩ | exact ⟨rfl, rfl⟩ | decide | intro _ _ _ | intro _ _ | split | dsimp only)

theorem indexRewrite_does (c : Nat) (s : State) : Does [.qry, .hbm] s (indexRewrite c s) := by
  unfold indexRewrite
  repeat' (first
    | with_reducible (first
        | exact Does.refl _ _ | assumption | apply Does.ite | apply Does.step (State.modQry_does ..) | apply Does.step (storeEntry_does ..))
    | exact fun _ h => h | exact fun h => h | exact fun _ => ⟨rfl, rfl⟩ | exact ⟨rfl, rfl⟩ | (intro _ (h : Rises _); repeat' (first | assumption | exact h.1 | exact h.2 | exact h.2.1 | exact h.2.2 | with_reducible apply rises_put | with_reducible apply rises_upd | apply rises_filter | apply rises_map | exact fun _ => rfl | (intro _; split <;> rfl) | constructor)) | decide | intro _ _ _ | intro _ _ | split | dsimp only)

theorem readFailed_does (marks : List (Nat × Nat)) (c g n : Nat) (who : Word) (s : State) : Does [.regs, .flt, .port0, .port1, .hbm] s (readFailed marks c g n who s) := by
  unfold readFailed
  repeat' (first
    | with_reducible (first
        | exact Does.refl _ _ | assumption | apply Does.ite | apply Does.forL | apply Does.step (markDamaged_does ..)
        | apply Does.step (raise_does ..) | apply Does.step (count_does ..) | apply Does.step (event_does ..))
    | exact fun _ h => h | exact fun h => h | exact fun _ => ⟨rfl, rfl⟩ | exact ⟨rfl, rfl⟩ | decide | intro _ _ _ | intro _ _ | split | dsimp only)

theorem readBlock_does (c g : Nat) (ws : List DWord) (burst : List Nat) (who : Word) (s : State) : Does [.regs, .flt, .port0, .port1, .hbm] s (readBlock c g ws burst who s).2 := by
  unfold readBlock
  repeat' (first
    | with_reducible (first
        | exact Does.refl _ _ | assumption | apply Does.ite | apply Does.step (readFailed_does ..))
    | exact fun _ h => h | exact fun h => h | exact fun _ => ⟨rfl, rfl⟩ | exact ⟨rfl, rfl⟩ | decide | intro _ _ _ | intro _ _ | split | dsimp only)

theorem readCourse_does {c : Nat} {partners : BitVec 64} {groups : List Nat} {held : Bool} {burst : List Nat} {who : Word} {s : State}
    {ps : List Part} {t : State} (h : readCourse c partners groups held burst who s = some (ps, t)) : Does [.regs, .flt, .port0, .port1, .hbm] s t := by
  unfold readCourse at h
  have key : ∀ (l : List Nat) (ws : List DWord) (a : List Part × State), Does [.regs, .flt, .port0, .port1, .hbm] s a.2 →
      Does [.regs, .flt, .port0, .port1, .hbm] s (l.foldl (fun (acc : List Part × State) g => (acc.1 ++ [⟨c, g, (readBlock c g ws burst who acc.2).1⟩], (readBlock c g ws burst who acc.2).2)) a).2 := by
    intro l ws
    induction l with
    | nil => intro a ha; exact ha
    | cons g t ih => intro a ha; exact ih _ (Does.step (readBlock_does ..) (by decide) ha)
  split at h
  · cases h; exact Does.refl _ _
  · split at h
    · cases h; exact Does.refl _ _
    · split at h
      · cases h
      · split at h
        · cases h
        · split at h
          · by_cases hs : isStub (entryMet s burst c) = true
            · rw [if_pos hs] at h
              cases h; exact Does.refl _ _
            · rw [if_neg hs] at h
              have e := congrArg Prod.snd (Option.some.inj h)
              dsimp only at e
              rw [← e]; exact key _ _ ([], s) (Does.refl _ _)
          · cases h; exact Does.refl _ _

theorem stackLost_does (k : Nat) (s : State) : Does [.groups, .hbm] s (stackLost k s) := by
  unfold stackLost
  exact Does.upd (L := [.groups, .hbm]) (x := s) (fun z hz => by cases z <;> first | rfl | exact ⟨rfl, rfl⟩ | exact absurd (by decide) hz)
    (fun m => ⟨smWf_filter _ m.bytes, smWf_filter _ m.written, m.sram⟩) (fun c => ⟨c.log, c.txq, c.restore, c.queue, c.failed, c.retired⟩) (fun r => ⟨r.cb, r.regs, r.srcs, r.port0, r.port1, r.domains, r.lanes, r.downlinks, r.partners, rises_filter (rises_map (fun _ => rfl) r.groups), r.engines, r.ring, r.rewritten, r.badMarks, r.mem, r.streams, r.uplinks, r.uplGroups, r.retLanes, r.lntGroups, r.boxes, r.gau, r.slots⟩) (Does.refl _ _)

theorem quarryLeaves_does (p : QryPhase) (s : State) : Does [.regs, .flt, .port0, .port1, .qry] s (quarryLeaves p s) := by
  unfold quarryLeaves
  repeat' (first
    | with_reducible (first
        | exact Does.refl _ _ | assumption | apply Does.ite | apply Does.foldl | apply Does.foldl1 | apply Does.foldl2 | apply Does.foldl22
        | apply Does.step (State.modQry_does ..) | apply Does.step (event_does ..) | apply Does.step (raise_does ..))
    | exact fun _ h => h | exact fun h => h | exact fun _ => ⟨rfl, rfl⟩ | exact ⟨rfl, rfl⟩ | decide | intro _ _ _ | intro _ _ | split | dsimp only)

theorem quarryForgets_does (s : State) : Does [.regs, .flt, .port0, .port1, .qry] s (quarryForgets s) := by
  unfold quarryForgets
  repeat' (first
    | with_reducible (first
        | exact Does.refl _ _ | assumption | apply Does.ite | apply Does.step (depthMoved_does ..)
        | apply Does.step (State.modQry_does ..))
    | exact fun _ h => h | exact fun h => h | exact fun _ => ⟨rfl, rfl⟩ | exact ⟨rfl, rfl⟩ | decide | intro _ _ _ | intro _ _ | split | dsimp only)

theorem quarryCheck_does (s : State) : Does [.regs, .flt, .port0, .port1, .qry] s (quarryCheck s) := by
  unfold quarryCheck
  repeat' (first
    | with_reducible (first
        | exact Does.refl _ _ | assumption | apply Does.ite | apply Does.step (State.modQry_does ..) | apply Does.step (quarryForgets_does ..)
        | apply Does.step (quarryLeaves_does ..))
    | exact fun _ h => h | exact fun h => h | exact fun _ => ⟨rfl, rfl⟩ | exact ⟨rfl, rfl⟩ | decide | intro _ _ _ | intro _ _ | split | dsimp only)

theorem quarryTick_does (c : Nat) (s : State) : Does [.qry] s (quarryTick c s) := by
  unfold quarryTick
  repeat' (first
    | with_reducible (first
        | exact Does.refl _ _ | assumption | apply Does.ite | apply Does.step (State.modQry_does ..))
    | exact fun _ h => h | exact fun h => h | exact fun _ => ⟨rfl, rfl⟩ | exact ⟨rfl, rfl⟩ | decide | intro _ _ _ | intro _ _ | split | dsimp only)

end Sys2Proof.Machine
end

