-- ==== Sys2Proof/Laws/DoesTables.lean ====
section
/-!
SUPPORT. What each operation can do: which parts of the state it can change, and that memory keeps its form and the stores their capacities: Ring, Ashlar, Cornerstone, Gauge, Records, Accepts, Fragments.
-/
namespace Sys2Proof.Machine
set_option Elab.async false

/-! ### Ring -/

theorem freeMoved_does (m : Nat) (s : State) : Does [.regs] s (freeMoved m s) := by
  unfold freeMoved
  repeat' (first
    | with_reducible (first
        | exact Does.refl _ _ | assumption | apply Does.ite | apply Does.step (modCell_does ..))
    | exact fun _ h => h | exact fun h => h | exact fun _ => ⟨rfl, rfl⟩ | exact ⟨rfl, rfl⟩ | decide | intro _ _ _ | intro _ _ | split | dsimp only)

theorem releaseBefore_does (c : Nat) (s : State) : Does [.regs, .ring] s (releaseBefore c s) := by
  unfold releaseBefore
  repeat' (first
    | with_reducible (first
        | exact Does.refl _ _ | assumption | apply Does.ite | apply Does.forN | apply Does.forL | apply Does.step (State.modRing_does ..)
        | apply Does.step (freeMoved_does ..) | apply Does.step (modQuarter_does ..))
    | exact fun _ h => h | exact fun h => h | exact fun _ => ⟨rfl, rfl⟩ | exact ⟨rfl, rfl⟩ | (intro _ (h : Ring.TablesRise _); repeat' (first | assumption | exact h.1 | exact h.2 | exact h.2.1 | exact h.2.2 | with_reducible apply rises_put | with_reducible apply rises_upd | apply rises_filter | apply rises_map | exact fun _ => rfl | rfl | (intro _; split <;> rfl) | constructor)) | decide | intro _ _ _ | intro _ _ | split | dsimp only)

theorem ringRelease_does (c : Nat) (s : State) : Does [.regs, .ring] s (ringRelease c s) := by
  unfold ringRelease
  repeat' (first
    | with_reducible (first
        | exact Does.refl _ _ | assumption | apply Does.ite | apply Does.step (State.modRing_does ..) | apply Does.step (releaseBefore_does ..))
    | exact fun _ h => h | exact fun h => h | exact fun _ => ⟨rfl, rfl⟩ | exact ⟨rfl, rfl⟩ | (intro _ (h : Ring.TablesRise _); repeat' (first | assumption | exact h.1 | exact h.2 | exact h.2.1 | exact h.2.2 | with_reducible apply rises_put | with_reducible apply rises_upd | apply rises_filter | apply rises_map | exact fun _ => rfl | (intro _; split <;> rfl) | constructor)) | decide | intro _ _ _ | intro _ _ | split | dsimp only)

theorem earlyRelease_does (m k : Nat) (s : State) : Does [.regs, .flt, .port0, .port1, .ring] s (earlyRelease m k s) := by
  induction k generalizing s with
  | zero => unfold earlyRelease; exact Does.refl _ _
  | succ k ih =>
    unfold earlyRelease
    repeat' (first
      | with_reducible apply Does.step (ih ..)
        | with_reducible (first
            | exact Does.refl _ _ | assumption | apply Does.ite | apply Does.step (State.modRing_does ..) | apply Does.step (count_does ..)
            | apply Does.step (event_does ..) | apply Does.step (raise_does ..) | apply Does.step (releaseBefore_does ..))
        | exact fun _ h => h | exact fun h => h | exact fun _ => ⟨rfl, rfl⟩ | exact ⟨rfl, rfl⟩ | decide | intro _ _ _ | intro _ _ | split | dsimp only)

theorem capDrop_does (m c p namedBt n : Nat) (s : State) : Does [.regs, .flt, .port0, .port1, .groups, .ring] s (capDrop m c p namedBt n s) := by
  unfold capDrop
  repeat' (first
    | with_reducible (first
        | exact Does.refl _ _ | assumption | apply Does.ite | apply Does.step (account_does ..) | apply Does.step (count_does ..)
        | apply Does.step (event_does ..) | apply Does.step (modQuarter_does ..) | apply Does.step (raise_does ..))
    | exact fun _ h => h | exact fun h => h | exact fun _ => ⟨rfl, rfl⟩ | exact ⟨rfl, rfl⟩ | decide | intro _ _ _ | intro _ _ | split | dsimp only)

theorem writeEntries_does (m : Nat) (pages : List Nat) (from_ to_ had : Nat) (s : State) : Does [.mem] s (writeEntries m pages from_ to_ had s) := by
  unfold writeEntries
  repeat' (first
    | with_reducible (first
        | exact Does.refl _ _ | assumption | apply Does.ite | apply Does.forN | apply Does.step (eccWrite_does ..))
    | exact fun _ h => h | exact fun h => h | exact fun _ => ⟨rfl, rfl⟩ | exact ⟨rfl, rfl⟩ | (intro _ (h : Ring.TablesRise _); repeat' (first | assumption | exact h.1 | exact h.2 | exact h.2.1 | exact h.2.2 | with_reducible apply rises_put | with_reducible apply rises_upd | apply rises_filter | apply rises_map | exact fun _ => rfl | rfl | (intro _; split <;> rfl) | constructor)) | decide | intro _ _ _ | intro _ _ | split | dsimp only)

theorem appendEntry_does (m key k : Nat) (old : Bucket) (e : RingEntry) (s : State) : Does [.ring, .mem] s (appendEntry m key k old e s) := by
  unfold appendEntry
  repeat' (first
    | with_reducible (first
        | exact Does.refl _ _ | assumption | apply Does.ite | apply Does.step (State.modRing_does ..) | apply Does.step (modQuarter_does ..)
        | apply Does.step (writeEntries_does ..))
    | exact fun _ h => h | exact fun h => h | exact fun _ => ⟨rfl, rfl⟩ | exact ⟨rfl, rfl⟩ | (intro _ (h : Ring.TablesRise _); repeat' (first | assumption | exact h.1 | exact h.2 | exact h.2.1 | exact h.2.2 | with_reducible apply rises_put | with_reducible apply rises_upd | apply rises_filter | apply rises_map | exact fun _ => rfl | rfl | (intro _; split <;> rfl) | constructor)) | decide | intro _ _ _ | intro _ _ | split | dsimp only)

theorem ringWrite_does (c g p namedBt : Nat) (e : RingEntry) (s : State) : Does [.regs, .flt, .port0, .port1, .groups, .ring, .mem] s (ringWrite c g p namedBt e s) := by
  unfold ringWrite
  repeat' (first
    | with_reducible (first
        | exact Does.refl _ _ | assumption | apply Does.ite | apply Does.step (account_does ..) | apply Does.step (appendEntry_does ..)
        | apply Does.step (capDrop_does ..) | apply Does.step (count_does ..) | apply Does.step (earlyRelease_does ..)
        | apply Does.step (event_does ..) | apply Does.step (freeMoved_does ..) | apply Does.step (raise_does ..))
    | exact fun _ h => h | exact fun h => h | exact fun _ => ⟨rfl, rfl⟩ | exact ⟨rfl, rfl⟩ | (intro _ (h : Ring.TablesRise _); repeat' (first | assumption | exact h.1 | exact h.2 | exact h.2.1 | exact h.2.2 | with_reducible apply rises_put | with_reducible apply rises_upd | apply rises_filter | apply rises_map | exact fun _ => rfl | (intro _; split <;> rfl) | constructor)) | decide | intro _ _ _ | intro _ _ | split | dsimp only)

theorem closeCourse_does (c : Nat) (s : State) : Does [.ring, .qry] s (closeCourse c s) := by
  unfold closeCourse
  repeat' (first
    | with_reducible (first
        | exact Does.refl _ _ | assumption | apply Does.ite | apply Does.step (State.modQry_does ..) | apply Does.step (State.modRing_does ..))
    | exact fun _ h => h | exact fun h => h | exact fun _ => ⟨rfl, rfl⟩ | exact ⟨rfl, rfl⟩ | decide | intro _ _ _ | intro _ _ | split | dsimp only)

theorem quarterCheck_does (m : Nat) (s : State) : Does [.regs, .flt, .port0, .port1, .ring] s (quarterCheck m s) := by
  unfold quarterCheck
  repeat' (first
    | with_reducible (first
        | exact Does.refl _ _ | assumption | apply Does.ite | apply Does.step (State.modRing_does ..) | apply Does.step (event_does ..)
        | apply Does.step (freeMoved_does ..) | apply Does.step (modCoder_does ..) | apply Does.step (modQuarter_does ..)
        | apply Does.step (raise_does ..))
    | exact fun _ h => h | exact fun h => h | exact fun _ => ⟨rfl, rfl⟩ | exact ⟨rfl, rfl⟩ | (intro _ (h : Ring.TablesRise _); repeat' (first | assumption | exact h.1 | exact h.2 | exact h.2.1 | exact h.2.2 | with_reducible apply rises_put | with_reducible apply rises_upd | apply rises_filter | apply rises_map | exact fun _ => rfl | rfl | (intro _; split <;> rfl) | constructor)) | decide | intro _ _ _ | intro _ _ | split | dsimp only)

theorem quarterTick_does (m c : Nat) (s : State) : Does [.regs, .ring] s (quarterTick m c s) := by
  unfold quarterTick
  repeat' (first
    | with_reducible (first
        | exact Does.refl _ _ | assumption | apply Does.ite | apply Does.step (modCoder_does ..) | apply Does.step (modQuarter_does ..)
        | apply Does.step (setCell_does ..))
    | exact fun _ h => h | exact fun h => h | exact fun _ => ⟨rfl, rfl⟩ | exact ⟨rfl, rfl⟩ | decide | intro _ _ _ | intro _ _ | split | dsimp only)

theorem courseCoded_does (m : Nat) (s : State) : Does [.regs, .ring] s (courseCoded m s) := by
  unfold courseCoded
  repeat' (first
    | with_reducible (first
        | exact Does.refl _ _ | assumption | apply Does.ite | apply Does.foldl | apply Does.foldl1 | apply Does.foldl2 | apply Does.foldl22
        | apply Does.step (modCell_does ..) | apply Does.step (modCoder_does ..))
    | exact fun _ h => h | exact fun h => h | exact fun _ => ⟨rfl, rfl⟩ | exact ⟨rfl, rfl⟩ | decide | intro _ _ _ | intro _ _ | split | dsimp only)

theorem courseStart_does (m : Nat) (s : State) : Does [.regs, .ring] s (courseStart m s) := by
  unfold courseStart
  repeat' (first
    | with_reducible (first
        | exact Does.refl _ _ | assumption | apply Does.ite | apply Does.step (courseCoded_does ..) | apply Does.step (modCoder_does ..))
    | exact fun _ h => h | exact fun h => h | exact fun _ => ⟨rfl, rfl⟩ | exact ⟨rfl, rfl⟩ | decide | intro _ _ _ | intro _ _ | split | dsimp only)

theorem courseDeadline_does (m : Nat) (s : State) : Does [.regs, .flt, .port0, .port1, .ring] s (courseDeadline m s) := by
  unfold courseDeadline
  repeat' (first
    | with_reducible (first
        | exact Does.refl _ _ | assumption | apply Does.ite | apply Does.step (event_does ..) | apply Does.step (modCoder_does ..)
        | apply Does.step (raise_does ..))
    | exact fun _ h => h | exact fun h => h | exact fun _ => ⟨rfl, rfl⟩ | exact ⟨rfl, rfl⟩ | decide | intro _ _ _ | intro _ _ | split | dsimp only)

theorem ringUpset_does (c g : Nat) (x : RingFault) (s : State) : Does [.mem] s (ringUpset c g x s) := by
  unfold ringUpset
  repeat' (first
    | with_reducible (first
        | exact Does.refl _ _ | assumption | apply Does.ite | apply Does.step (eccUpset_does ..))
    | exact fun _ h => h | exact fun h => h | exact fun _ => ⟨rfl, rfl⟩ | exact ⟨rfl, rfl⟩ | (intro _ (h : Ring.TablesRise _); repeat' (first | assumption | exact h.1 | exact h.2 | exact h.2.1 | exact h.2.2 | with_reducible apply rises_put | with_reducible apply rises_upd | apply rises_filter | apply rises_map | exact fun _ => rfl | rfl | (intro _; split <;> rfl) | constructor)) | decide | intro _ _ _ | intro _ _ | split | dsimp only)

theorem ringBlockRead_does (c g master blk page i : Nat) (s : State) : Does [.regs, .flt, .port0, .port1, .mem] s (ringBlockRead c g master blk page i s).2 := by
  unfold ringBlockRead
  repeat' (first
    | with_reducible (first
        | exact Does.refl _ _ | assumption | apply Does.ite | apply Does.step (count_does ..) | apply Does.step (eccRead_does ..)
        | apply Does.step (event_does ..) | apply Does.step (raise_does ..))
    | exact fun _ h => h | exact fun h => h | exact fun _ => ⟨rfl, rfl⟩ | exact ⟨rfl, rfl⟩ | (intro _ (h : Ring.TablesRise _); repeat' (first | assumption | exact h.1 | exact h.2 | exact h.2.1 | exact h.2.2 | with_reducible apply rises_put | with_reducible apply rises_upd | apply rises_filter | apply rises_map | exact fun _ => rfl | rfl | (intro _; split <;> rfl) | constructor)) | decide | intro _ _ _ | intro _ _ | split | dsimp only)

theorem entryRead_does (c g master : Nat) (pages : List Nat) (n off : Nat) (s : State) : Does [.regs, .flt, .port0, .port1, .mem] s (entryRead c g master pages n off s).2 := by
  induction n generalizing off s with
  | zero => exact Does.refl _ _
  | succ n ih => exact Does.step (ih _ _) (by decide) (ringBlockRead_does ..)

theorem bucketRead_does (c g master : Nat) (pages : List Nat) (off : Nat) (l : List RingEntry) (s : State) :
    Does [.regs, .flt, .port0, .port1, .mem] s (bucketRead c g master pages off l s).2.2 := by
  induction l generalizing off s with
  | nil => exact Does.refl _ _
  | cons e t ih =>
    unfold bucketRead
    dsimp only
    have hl : ∀ (p : Prop) [Decidable p] (b page i : Nat), Does [.regs, .flt, .port0, .port1, .mem] s (if p then ringBlockRead c g master b page i s else (true, s)).2 := by
      intro p _ b page i
      split
      · exact ringBlockRead_does ..
      · exact Does.refl _ _
    replace hl := hl ((off - 1) / 8 < (off + entrySize e - 1) / 8) (linkBlock (pages.getD ((off + entrySize e - 1) / 8 - 1) 0))
      (pages.getD ((off + entrySize e - 1) / 8 - 1) 0) 0
    generalize (if (off - 1) / 8 < (off + entrySize e - 1) / 8 then _ else (true, s)) = q at hl ⊢
    split
    · exact Does.step (ih _ _) (by decide) (Does.step (entryRead_does ..) (by decide) hl)
    · exact hl

theorem slotsRead_does (c g master : Nat) (l : List Nat) (s : State) : Does [.regs, .flt, .port0, .port1, .mem] s (slotsRead c g master l s).2.2 := by
  induction l generalizing s with
  | nil => exact Does.refl _ _
  | cons b t ih => exact Does.step (ih _) (by decide) (bucketRead_does ..)

theorem ringErrorAccounts_does (c g : Nat) (s : State) : Does [.regs, .flt, .groups] s (ringErrorAccounts c g s) := by
  unfold ringErrorAccounts
  repeat' (first
    | with_reducible (first
        | exact Does.refl _ _ | assumption | apply Does.ite | apply Does.forN | apply Does.step (account_does ..))
    | exact fun _ h => h | exact fun h => h | exact fun _ => ⟨rfl, rfl⟩ | exact ⟨rfl, rfl⟩ | decide | intro _ _ _ | intro _ _ | split | dsimp only)

theorem countBlock_does (m cause : Nat) (s : State) : Does [.regs] s (countBlock m cause s) := by
  unfold countBlock
  repeat' (first
    | with_reducible (first
        | exact Does.refl _ _ | assumption | apply Does.ite | apply Does.step (count_does ..) | apply Does.step (countWrap_does ..))
    | exact fun _ h => h | exact fun h => h | exact fun _ => ⟨rfl, rfl⟩ | exact ⟨rfl, rfl⟩ | decide | intro _ _ _ | intro _ _ | split | dsimp only)

theorem bufferPass_does (m n : Nat) (copied : Bool) (s : State) : Does [.regs, .flt, .port0, .port1, .mem] s (bufferPass m n copied s).2 := by
  unfold bufferPass
  repeat' (first
    | with_reducible (first
        | exact Does.refl _ _ | assumption | apply Does.ite | apply Does.step (eccReads_does ..) | apply Does.step (eccWrites_does ..))
    | exact fun _ h => h | exact fun h => h | exact fun _ => ⟨rfl, rfl⟩ | exact ⟨rfl, rfl⟩ | (intro _ (h : Ring.TablesRise _); repeat' (first | assumption | exact h.1 | exact h.2 | exact h.2.1 | exact h.2.2 | with_reducible apply rises_put | with_reducible apply rises_upd | apply rises_filter | apply rises_map | exact fun _ => rfl | rfl | (intro _; split <;> rfl) | constructor)) | decide | intro _ _ _ | intro _ _ | split | dsimp only)

theorem blockDone_does (m : Nat) (errs : List RingFault) (diff : Option Nat) (s : State) : Does [.regs, .flt, .port0, .port1, .groups, .ring, .qry, .mem] s (blockDone m errs diff s) := by
  unfold blockDone
  repeat' (first
    | with_reducible (first
        | exact Does.refl _ _ | assumption | apply Does.ite | apply Does.forL | apply Does.step (slotsRead_does ..)
        | apply Does.step (ringUpset_does ..) | apply Does.step (ringErrorAccounts_does ..) | apply Does.step (bufferPass_does ..)
        | apply Does.step (raise_does ..) | apply Does.step (event_does ..) | apply Does.step (countBlock_does ..)
        | apply Does.step (appendBlock_does ..) | apply Does.step (modCoder_does ..) | apply Does.step (courseCoded_does ..))
    | exact fun _ h => h | exact fun h => h | exact fun _ => ⟨rfl, rfl⟩ | exact ⟨rfl, rfl⟩ | (intro _ (h : Ring.TablesRise _); repeat' (first | assumption | exact h.1 | exact h.2 | exact h.2.1 | exact h.2.2 | with_reducible apply rises_put | with_reducible apply rises_upd | apply rises_filter | apply rises_map | exact fun _ => rfl | rfl | (intro _; split <;> rfl) | constructor)) | decide | intro _ _ _ | intro _ _ | split | dsimp only)

/-! ### Ashlar -/

theorem hitTerms_does (x : HitItem) (q : Nat) (s : State) : Does [.regs, .flt, .port0, .port1, .sram, .mem] s (hitTerms x q s).2 := by
  unfold hitTerms
  repeat' (first
    | with_reducible (first
        | exact Does.refl _ _ | assumption | apply Does.ite | apply Does.step (readEntry_does ..))
    | exact fun _ h => h | exact fun h => h | exact fun _ => ⟨rfl, rfl⟩ | exact ⟨rfl, rfl⟩ | decide | intro _ _ _ | intro _ _ | split | dsimp only)

theorem ownsAll_does (e : Nat) (s : State) : Does [.ash] s (ownsAll e s) := by
  unfold ownsAll
  repeat' (first
    | with_reducible (first
        | exact Does.refl _ _ | assumption | apply Does.ite | apply Does.forL | apply Does.step (State.modAsh_does ..)
        | apply Does.step (modEngine_does ..))
    | exact fun _ h => h | exact fun h => h | exact fun _ => ⟨rfl, rfl⟩ | exact ⟨rfl, rfl⟩ | decide | intro _ _ _ | intro _ _ | split | dsimp only)

theorem residueFailed_does (e : Nat) (x : HitItem) (s : State) : Does [.regs, .flt, .port0, .port1, .groups] s (residueFailed e x s) := by
  unfold residueFailed
  repeat' (first
    | with_reducible (first
        | exact Does.refl _ _ | assumption | apply Does.ite | apply Does.step (account_does ..) | apply Does.step (count_does ..)
        | apply Does.step (event_does ..) | apply Does.step (raise_does ..))
    | exact fun _ h => h | exact fun h => h | exact fun _ => ⟨rfl, rfl⟩ | exact ⟨rfl, rfl⟩ | decide | intro _ _ _ | intro _ _ | split | dsimp only)

theorem uncalRecord_does (e g cause : Nat) (s : State) : Does [.regs, .flt, .groups] s (uncalRecord e g cause s) := by
  unfold uncalRecord
  repeat' (first
    | with_reducible (first
        | exact Does.refl _ _ | assumption | apply Does.ite | apply Does.step (count_does ..) | apply Does.step (modGroup_does ..)
        | apply Does.step (raise_does ..))
    | exact fun _ h => h | exact fun h => h | exact fun _ => ⟨rfl, rfl⟩ | exact ⟨rfl, rfl⟩ | decide | intro _ _ _ | intro _ _ | split | dsimp only)

theorem refineServed_does (e : Nat) (x : HitItem) (s : State) : Does [.regs, .flt, .port0, .port1, .groups, .sram, .ring, .mem, .lnt] s (refineServed e x s) := by
  unfold refineServed
  repeat' (first
    | with_reducible (first
        | exact Does.refl _ _ | assumption | apply Does.ite | apply Does.step (count_does ..) | apply Does.step (hitTerms_does ..)
        | apply Does.step (uncalRecord_does ..) | apply Does.step (ringWrite_does ..) | apply Does.step (lintelTap_does ..))
    | exact fun _ h => h | exact fun h => h | exact fun _ => ⟨rfl, rfl⟩ | exact ⟨rfl, rfl⟩ | decide | intro _ _ _ | intro _ _ | split | dsimp only)

theorem refineHit_does (e : Nat) (x : HitItem) (s : State) : Does [.regs, .flt, .port0, .port1, .groups, .sram, .ring, .mem, .lnt] s (refineHit e x s) := by
  unfold refineHit
  repeat' (first
    | with_reducible (first
        | exact Does.refl _ _ | assumption | apply Does.ite | apply Does.step (refineServed_does ..))
    | exact fun _ h => h | exact fun h => h | exact fun _ => ⟨rfl, rfl⟩ | exact ⟨rfl, rfl⟩ | decide | intro _ _ _ | intro _ _ | split | dsimp only)

theorem engineQueueError_does (e b : Nat) (s : State) : Does [.regs, .flt, .groups, .ash] s (engineQueueError e b s) := by
  unfold engineQueueError
  repeat' (first
    | with_reducible (first
        | exact Does.refl _ _ | assumption | apply Does.ite | apply Does.step (account_does ..) | apply Does.step (count_does ..)
        | apply Does.step (modEngine_does ..))
    | exact fun _ h => h | exact fun h => h | exact fun _ => ⟨rfl, rfl⟩ | exact ⟨rfl, rfl⟩ | decide | intro _ _ _ | intro _ _ | split | dsimp only)

theorem ashlarHit_does (e : Nat) (residueGood : Bool) (s : State) : Does [.regs, .flt, .port0, .port1, .groups, .sram, .ash, .ring, .mem, .lnt] s (ashlarHit e residueGood s) := by
  unfold ashlarHit
  repeat' (first
    | with_reducible (first
        | exact Does.refl _ _ | assumption | apply Does.ite | apply Does.eccVisit (by decide) | apply Does.step (engineQueueError_does ..)
        | apply Does.step (modEngine_does ..) | apply Does.step (refineHit_does ..) | apply Does.step (residueFailed_does ..))
    | exact fun _ h => h | exact fun h => h | exact fun _ => ⟨rfl, rfl⟩ | exact ⟨rfl, rfl⟩ | decide | intro _ _ _ | intro _ _ | split | dsimp only)

theorem engineStop_does (e : Nat) (s : State) : Does [.regs, .flt, .port0, .port1, .groups, .ash] s (engineStop e s) := by
  unfold engineStop
  repeat' (first
    | with_reducible (first
        | exact Does.refl _ _ | assumption | apply Does.ite | apply Does.forN | apply Does.forL | apply Does.step (account_does ..)
        | apply Does.step (event_does ..) | apply Does.step (modEngine_does ..) | apply Does.step (ownsAll_does ..))
    | exact fun _ h => h | exact fun h => h | exact fun _ => ⟨rfl, rfl⟩ | exact ⟨rfl, rfl⟩ | decide | intro _ _ _ | intro _ _ | split | dsimp only)

theorem engineOff_does (e : Nat) (hold : Bool) (s : State) : Does [.regs, .flt, .port0, .port1, .groups, .ash] s (engineOff e hold s) := by
  unfold engineOff
  repeat' (first
    | with_reducible (first
        | exact Does.refl _ _ | assumption | apply Does.ite | apply Does.step (engineStop_does ..) | apply Does.step (modEngine_does ..))
    | exact fun _ h => h | exact fun h => h | exact fun _ => ⟨rfl, rfl⟩ | exact ⟨rfl, rfl⟩ | decide | intro _ _ _ | intro _ _ | split | dsimp only)

theorem engineSync_does (e : Nat) (s : State) : Does [.ash] s (engineSync e s) := by
  unfold engineSync
  repeat' (first
    | with_reducible (first
        | exact Does.refl _ _ | assumption | apply Does.ite | apply Does.step (modEngine_does ..))
    | exact fun _ h => h | exact fun h => h | exact fun _ => ⟨rfl, rfl⟩ | exact ⟨rfl, rfl⟩ | decide | intro _ _ _ | intro _ _ | split | dsimp only)

theorem engineIsolate_does (e : Nat) (s : State) : Does [.regs, .flt, .port0, .port1, .groups, .ash] s (engineIsolate e s) := by
  unfold engineIsolate
  repeat' (first
    | with_reducible (first
        | exact Does.refl _ _ | assumption | apply Does.ite | apply Does.step (engineStop_does ..) | apply Does.step (modEngine_does ..))
    | exact fun _ h => h | exact fun h => h | exact fun _ => ⟨rfl, rfl⟩ | exact ⟨rfl, rfl⟩ | decide | intro _ _ _ | intro _ _ | split | dsimp only)

theorem engineActive_does (e : Nat) (s : State) : Does [.regs, .port0, .port1, .ash] s (engineActive e s) := by
  unfold engineActive
  repeat' (first
    | with_reducible (first
        | exact Does.refl _ _ | assumption | apply Does.ite | apply Does.step (State.modAsh_does ..) | apply Does.step (event_does ..)
        | apply Does.step (modEngine_does ..))
    | exact fun _ h => h | exact fun h => h | exact fun _ => ⟨rfl, rfl⟩ | exact ⟨rfl, rfl⟩ | decide | intro _ _ _ | intro _ _ | split | dsimp only)

theorem engineSyncDone_does (e : Nat) (s : State) : Does [.regs, .port0, .port1, .ash] s (engineSyncDone e s) := by
  unfold engineSyncDone
  repeat' (first
    | with_reducible (first
        | exact Does.refl _ _ | assumption | apply Does.ite | apply Does.step (engineActive_does ..) | apply Does.step (modEngine_does ..))
    | exact fun _ h => h | exact fun h => h | exact fun _ => ⟨rfl, rfl⟩ | exact ⟨rfl, rfl⟩ | decide | intro _ _ _ | intro _ _ | split | dsimp only)

theorem migrationTake_does (m : Migration) (s : State) : Does [.regs, .flt, .port0, .port1, .ash, .ldg] s (migrationTake m s) := by
  unfold migrationTake
  repeat' (first
    | with_reducible (first
        | exact Does.refl _ _ | assumption | apply Does.ite | apply Does.step (State.modAsh_does ..) | apply Does.step (engineActive_does ..)
        | apply Does.step (event_does ..) | apply Does.step (ldgComplete_does ..) | apply Does.step (modEngine_does ..)
        | apply Does.step (raise_does ..))
    | exact fun _ h => h | exact fun h => h | exact fun _ => ⟨rfl, rfl⟩ | exact ⟨rfl, rfl⟩ | decide | intro _ _ _ | intro _ _ | split | dsimp only)

theorem migrationTick_does (c : Nat) (s : State) : Does [.regs, .flt, .port0, .port1, .ash, .ldg] s (migrationTick c s) := by
  unfold migrationTick
  repeat' (first
    | with_reducible (first
        | exact Does.refl _ _ | assumption | apply Does.ite | apply Does.forL | apply Does.step (migrationTake_does ..))
    | exact fun _ h => h | exact fun h => h | exact fun _ => ⟨rfl, rfl⟩ | exact ⟨rfl, rfl⟩ | decide | intro _ _ _ | intro _ _ | split | dsimp only)

theorem migrationDrainEnd_does (sl : Nat) (s : State) : Does [.regs, .flt, .port0, .port1, .groups, .sram, .ash, .mem] s (migrationDrainEnd sl s) := by
  unfold migrationDrainEnd
  repeat' (first
    | with_reducible (first
        | exact Does.refl _ _ | assumption | apply Does.ite | apply Does.forL | apply Does.step (State.modAsh_does ..)
        | apply Does.step (account_does ..) | apply Does.step (count_does ..) | apply Does.step (engineSync_does ..) | apply Does.step (event_does ..)
        | apply Does.step (raise_does ..))
    | exact fun _ h => h | exact fun h => h | exact fun _ => ⟨rfl, rfl⟩ | exact ⟨rfl, rfl⟩ | decide | intro _ _ _ | intro _ _ | split | dsimp only)

theorem migrateAccept_does (m sl : Nat) (s : State) : Does [.ash] s (migrateAccept m sl s).1 := by
  unfold migrateAccept
  repeat' (first
    | with_reducible (first
        | exact Does.refl _ _ | assumption | apply Does.ite | apply Does.step (State.modAsh_does ..))
    | exact fun _ h => h | exact fun h => h | exact fun _ => ⟨rfl, rfl⟩ | exact ⟨rfl, rfl⟩ | decide | intro _ _ _ | intro _ _ | split | dsimp only)

/-! ### Cornerstone -/

theorem State.modCns_does (f : Cornerstone → Cornerstone) (s : State) (hf : ∀ y, y.FailedFit → (f y).FailedFit) : Does [.cns] s (s.modCns f) :=
  Does.put_cns (by decide) (hf _) (Does.refl _ _)

theorem cnsPost_does (d : CnsDue) (s : State) : Does [.cns] s (cnsPost d s) := by
  unfold cnsPost
  repeat' (first
    | with_reducible (first
        | exact Does.refl _ _ | assumption | apply Does.ite | apply Does.step (State.modCns_does ..))
    | exact fun _ h => h | exact fun h => h | exact fun _ => ⟨rfl, rfl⟩ | exact ⟨rfl, rfl⟩ | decide | intro _ _ _ | intro _ _ | split | dsimp only)

theorem cnsWritten_does (d : CnsDue) (s : State) : Does [.regs, .flt, .port0, .port1, .cns] s (cnsWritten d s) := by
  unfold cnsWritten
  repeat' (first
    | with_reducible (first
        | exact Does.refl _ _ | assumption | apply Does.ite | apply Does.step (State.modCns_does ..) | apply Does.step (event_does ..)
        | apply Does.step (raise_does ..))
    | exact fun _ h => h | exact fun h => h | exact fun _ => ⟨rfl, rfl⟩ | exact ⟨rfl, rfl⟩ | decide | intro _ _ _ | intro _ _ | split | dsimp only)

theorem cnsWriteNext_does (good : Bool) (s : State) : Does [.regs, .flt, .port0, .port1, .cns] s (cnsWriteNext good s) := by
  unfold cnsWriteNext
  repeat' (first
    | with_reducible (first
        | exact Does.refl _ _ | assumption | apply Does.ite | apply Does.step (event_does ..) | apply Does.step (State.modCns_does ..)
        | apply Does.step (cnsWritten_does ..) | apply Does.step (raise_does ..))
    | exact fun _ h => h | exact fun h => h | exact fun _ => ⟨rfl, rfl⟩ | exact ⟨rfl, rfl⟩ | (intro _ h; refine ⟨?_, h.2⟩; have := h.1; dsimp only; (try split) <;> (try simp only [List.length_append, List.length_cons, List.length_nil]) <;> omega) | decide | intro _ _ _ | intro _ _ | split | dsimp only)

theorem cnsUpdate_fits {c : Cornerstone} (h : c.FailedFit) : c.update.FailedFit := ⟨h.1, h.1, h.1, h.1⟩

theorem cnsEventWrite_does (good : Bool) (s : State) : Does [.regs, .flt, .port0, .port1, .cns] s (cnsEventWrite good s) := by
  unfold cnsEventWrite
  split
  · exact Does.refl _ _
  · exact Does.step (State.modCns_does _ _ fun _ h => cnsUpdate_fits h) (by decide) (cnsWriteNext_does ..)

theorem cnsFlush_does (s : State) : Does [.regs, .flt, .port0, .port1, .cns] s (cnsFlush s) := by
  unfold cnsFlush
  repeat' (first
    | with_reducible (first
        | exact Does.refl _ _ | assumption | apply Does.ite | apply Does.times | apply Does.step (cnsEventWrite_does ..))
    | exact fun _ h => h | exact fun h => h | exact fun _ => ⟨rfl, rfl⟩ | exact ⟨rfl, rfl⟩ | decide | intro _ _ _ | intro _ _ | split | dsimp only)

theorem cnsSwitchLogged_does (r : Report) (s : State) : Does [.cns] s (cnsSwitchLogged r s) := by
  unfold cnsSwitchLogged
  repeat' (first
    | with_reducible (first
        | exact Does.refl _ _ | assumption | apply Does.ite | apply Does.step (State.modCns_does ..))
    | exact fun _ h => h | exact fun h => h | exact fun _ => ⟨rfl, rfl⟩ | exact ⟨rfl, rfl⟩ | decide | intro _ _ _ | intro _ _ | split | dsimp only)

theorem cnsCritical_does (r : Report) (seq : Nat) (s : State) : Does [.cns] s (cnsCritical r seq s) := by
  unfold cnsCritical
  repeat' (first
    | with_reducible (first
        | exact Does.refl _ _ | assumption | apply Does.ite | apply Does.step (State.modCns_does ..))
    | exact fun _ h => h | exact fun h => h | exact fun _ => ⟨rfl, rfl⟩ | exact ⟨rfl, rfl⟩ | decide | intro _ _ _ | intro _ _ | split | dsimp only)

theorem cnsTrip_does (cause mv temp sensor : Nat) (s : State) : Does [.regs, .flt, .port0, .port1, .cns] s (cnsTrip cause mv temp sensor s) := by
  unfold cnsTrip
  repeat' (first
    | with_reducible (first
        | exact Does.refl _ _ | assumption | apply Does.ite | apply Does.step (cnsFlush_does ..)
        | apply Does.step (State.modCns_does ..))
    | exact fun _ h => h | exact fun h => h | exact fun _ => ⟨rfl, rfl⟩ | exact ⟨rfl, rfl⟩ | decide | intro _ _ _ | intro _ _ | split | dsimp only)

theorem cnsReadDone_does (code : Word) (next : Nat) (s : State) : Does [.cns] s (cnsReadDone code next s) := by
  unfold cnsReadDone
  repeat' (first
    | with_reducible (first
        | exact Does.refl _ _ | assumption | apply Does.ite | apply Does.step (State.modCns_does ..))
    | exact fun _ h => h | exact fun h => h | exact fun _ => ⟨rfl, rfl⟩ | exact ⟨rfl, rfl⟩ | decide | intro _ _ _ | intro _ _ | split | dsimp only)

theorem cnsClear_does (s : State) : Does [.cns] s (cnsClear s) := by
  unfold cnsClear
  exact State.modCns_does _ _ fun _ h => cnsUpdate_fits h

theorem cnsRebuild_does (s : State) : Does [.regs, .flt, .port0, .port1, .cns] s (cnsRebuild s) := by
  unfold cnsRebuild
  repeat' (first
    | with_reducible (first
        | exact Does.refl _ _ | assumption | apply Does.ite | apply Does.step (State.modCns_does ..) | apply Does.step (event_does ..)
        | apply Does.step (raise_does ..))
    | exact fun _ h => h | exact fun h => h | exact fun _ => ⟨rfl, rfl⟩ | exact ⟨rfl, rfl⟩ | (intro _ h; refine ⟨?_, h.2⟩; simp only [List.length_take]; omega) | exact List.length_take_le .. | decide | intro _ _ _ | intro _ _ | split | dsimp only)

theorem cnsNewest_fits {c : Cornerstone} {good : BitVec 3} {x : CnsControl} (h : c.FailedFit) (hx : c.newest good = some x) :
    x.failed.length ≤ 64 := by
  unfold Cornerstone.newest at hx
  have key : ∀ (l : List CnsControl) (m : Option CnsControl), (∀ y ∈ l, y.failed.length ≤ 64) → (∀ y, m = some y → y.failed.length ≤ 64) →
      ∀ y, l.foldl (fun m x => match m with | some y => if y.next < x.next then some x else m | none => some x) m = some y → y.failed.length ≤ 64 := by
    intro l
    induction l with
    | nil => exact fun _ _ hm => hm
    | cons a l ih =>
      intro m hl hm
      refine ih _ (fun y hy => hl y (List.mem_cons_of_mem _ hy)) fun y hy => ?_
      have ha := hl a List.mem_cons_self
      cases m with
      | none => cases hy; exact ha
      | some b =>
        dsimp only at hy
        split at hy
        · cases hy; exact ha
        · exact hm y hy
  refine key _ none (fun y hy => ?_) (fun _ hm => nomatch hm) x hx
  obtain ⟨_, h0, h1, h2⟩ := h
  simp only [List.mem_append] at hy
  rcases hy with (hy | hy) | hy <;> split at hy <;> first | (rw [List.mem_singleton.1 hy]; assumption) | exact absurd hy List.not_mem_nil

theorem cnsStart_does (good : BitVec 3) (s : State) : Does [.regs, .flt, .port0, .port1, .cns] s (cnsStart good s) := by
  unfold cnsStart
  dsimp only
  refine Does.step (State.modCns_does _ _ fun _ h => h) (by decide) (Does.step (State.modCns_does _ _ fun _ h => h) (by decide) ?_)
  split
  · rename_i x hx
    exact Does.put_cns (by decide) (fun h => ⟨cnsNewest_fits h hx, h.2⟩) (Does.refl _ _)
  · exact Does.step (State.modCns_does _ _ fun _ h => cnsUpdate_fits h) (by decide) (Does.step (cnsRebuild_does ..) (by decide) (Does.refl _ _))

/-! ### Gauge -/

theorem State.modGau_does (f : Gauge → Gauge) (s : State) (hr : ∀ y, y.TablesRise → (f y).TablesRise) : Does [.gau] s (s.modGau f) :=
  Does.put_gau (by decide) (hr _) (Does.refl _ _)

theorem modConv_does (k : Nat) (f : GauConv → GauConv) (s : State) : Does [.gau] s (modConv k f s) := by
  unfold modConv
  repeat' (first
    | with_reducible (first
        | exact Does.refl _ _ | assumption | apply Does.ite | apply Does.step (State.modGau_does ..))
    | exact fun _ h => h | exact fun h => h | exact fun _ => ⟨rfl, rfl⟩ | exact ⟨rfl, rfl⟩ | (intro _ h; repeat' (first | assumption | exact h.1 | exact h.2 | exact h.2.1 | exact h.2.2 | with_reducible apply rises_put | with_reducible apply rises_upd | apply rises_filter | apply rises_map | exact fun _ => rfl | (intro _; split <;> rfl) | constructor)) | decide | intro _ _ _ | intro _ _ | split | dsimp only)

theorem modChan_does (c : Nat) (f : GauChan → GauChan) (s : State) : Does [.gau] s (modChan c f s) := by
  unfold modChan
  repeat' (first
    | with_reducible (first
        | exact Does.refl _ _ | assumption | apply Does.ite | apply Does.step (State.modGau_does ..))
    | exact fun _ h => h | exact fun h => h | exact fun _ => ⟨rfl, rfl⟩ | exact ⟨rfl, rfl⟩ | (intro _ h; repeat' (first | assumption | exact h.1 | exact h.2 | exact h.2.1 | exact h.2.2 | with_reducible apply rises_put | with_reducible apply rises_upd | apply rises_filter | apply rises_map | exact fun _ => rfl | (intro _; split <;> rfl) | constructor)) | decide | intro _ _ _ | intro _ _ | split | dsimp only)

theorem modOut_does (o : Nat) (f : GauOut → GauOut) (s : State) : Does [.gau] s (modOut o f s) := by
  unfold modOut
  repeat' (first
    | with_reducible (first
        | exact Does.refl _ _ | assumption | apply Does.ite | apply Does.step (State.modGau_does ..))
    | exact fun _ h => h | exact fun h => h | exact fun _ => ⟨rfl, rfl⟩ | exact ⟨rfl, rfl⟩ | (intro _ h; repeat' (first | assumption | exact h.1 | exact h.2 | exact h.2.1 | exact h.2.2 | with_reducible apply rises_put | with_reducible apply rises_upd | apply rises_filter | apply rises_map | exact fun _ => rfl | (intro _; split <;> rfl) | constructor)) | decide | intro _ _ _ | intro _ _ | split | dsimp only)

theorem settleTwo_does (c : Nat) (s : State) : Does [.gau] s (settleTwo c s) := by
  unfold settleTwo
  repeat' (first
    | with_reducible (first
        | exact Does.refl _ _ | assumption | apply Does.ite | apply Does.step (modChan_does ..))
    | exact fun _ h => h | exact fun h => h | exact fun _ => ⟨rfl, rfl⟩ | exact ⟨rfl, rfl⟩ | decide | intro _ _ _ | intro _ _ | split | dsimp only)

theorem muxStep_does (k : Nat) (s : State) : Does [.gau] s (muxStep k s) := by
  unfold muxStep
  repeat' (first
    | with_reducible (first
        | exact Does.refl _ _ | assumption | apply Does.ite | apply Does.step (modChan_does ..) | apply Does.step (modConv_does ..))
    | exact fun _ h => h | exact fun h => h | exact fun _ => ⟨rfl, rfl⟩ | exact ⟨rfl, rfl⟩ | decide | intro _ _ _ | intro _ _ | split | dsimp only)

theorem excApply_does (c : Nat) (s : State) : Does [.gau] s (excApply c s) := by
  unfold excApply
  repeat' (first
    | with_reducible (first
        | exact Does.refl _ _ | assumption | apply Does.ite | apply Does.step (modChan_does ..))
    | exact fun _ h => h | exact fun h => h | exact fun _ => ⟨rfl, rfl⟩ | exact ⟨rfl, rfl⟩ | decide | intro _ _ _ | intro _ _ | split | dsimp only)

theorem excApplies_does (c : Nat) (s : State) : Does [.gau] s (excApplies c s) := by
  unfold excApplies
  repeat' (first
    | with_reducible (first
        | exact Does.refl _ _ | assumption | apply Does.ite | apply Does.step (excApply_does ..))
    | exact fun _ h => h | exact fun h => h | exact fun _ => ⟨rfl, rfl⟩ | exact ⟨rfl, rfl⟩ | decide | intro _ _ _ | intro _ _ | split | dsimp only)

theorem settleAtStart_does (k c : Nat) (s : State) : Does [.gau] s (settleAtStart k c s) := by
  unfold settleAtStart
  repeat' (first
    | with_reducible (first
        | exact Does.refl _ _ | assumption | apply Does.ite | apply Does.forL | apply Does.step (excApplies_does ..)
        | apply Does.step (settleTwo_does ..) | apply Does.step (modChan_does ..) | apply Does.step (modConv_does ..))
    | exact fun _ h => h | exact fun h => h | exact fun _ => ⟨rfl, rfl⟩ | exact ⟨rfl, rfl⟩ | decide | intro _ _ _ | intro _ _ | split | dsimp only)

theorem beginRun_does (k c : Nat) (s : State) : Does [.gau] s (beginRun k c s) := by
  unfold beginRun
  repeat' (first
    | with_reducible (first
        | exact Does.refl _ _ | assumption | apply Does.ite | apply Does.step (modConv_does ..) | apply Does.step (settleAtStart_does ..))
    | exact fun _ h => h | exact fun h => h | exact fun _ => ⟨rfl, rfl⟩ | exact ⟨rfl, rfl⟩ | decide | intro _ _ _ | intro _ _ | split | dsimp only)

theorem modRun_does (k : Nat) (f : GauRun → GauRun) (s : State) : Does [.gau] s (modRun k f s) := by
  unfold modRun
  repeat' (first
    | with_reducible (first
        | exact Does.refl _ _ | assumption | apply Does.ite | apply Does.step (modConv_does ..))
    | exact fun _ h => h | exact fun h => h | exact fun _ => ⟨rfl, rfl⟩ | exact ⟨rfl, rfl⟩ | decide | intro _ _ _ | intro _ _ | split | dsimp only)

theorem blankSeen_does (s : State) : Does [.gau] s (blankSeen s) := by
  unfold blankSeen
  repeat' (first
    | with_reducible (first
        | exact Does.refl _ _ | assumption | apply Does.ite | apply Does.forN | apply Does.step (modRun_does ..))
    | exact fun _ h => h | exact fun h => h | exact fun _ => ⟨rfl, rfl⟩ | exact ⟨rfl, rfl⟩ | decide | intro _ _ _ | intro _ _ | split | dsimp only)

theorem openSeen_does (c : Nat) (s : State) : Does [.gau] s (openSeen c s) := by
  unfold openSeen
  repeat' (first
    | with_reducible (first
        | exact Does.refl _ _ | assumption | apply Does.ite | apply Does.step (modRun_does ..))
    | exact fun _ h => h | exact fun h => h | exact fun _ => ⟨rfl, rfl⟩ | exact ⟨rfl, rfl⟩ | decide | intro _ _ _ | intro _ _ | split | dsimp only)

theorem integrationStart_does (k : Nat) (s : State) : Does [.gau] s (integrationStart k s) := by
  unfold integrationStart
  repeat' (first
    | with_reducible (first
        | exact Does.refl _ _ | assumption | apply Does.ite | apply Does.step (beginRun_does ..))
    | exact fun _ h => h | exact fun h => h | exact fun _ => ⟨rfl, rfl⟩ | exact ⟨rfl, rfl⟩ | decide | intro _ _ _ | intro _ _ | split | dsimp only)

theorem alignStart_does (s : State) : Does [.gau] s (alignStart s) := by
  unfold alignStart
  repeat' (first
    | with_reducible (first
        | exact Does.refl _ _ | assumption | apply Does.ite | apply Does.forN | apply Does.step (beginRun_does ..) | apply Does.step (muxStep_does ..))
    | exact fun _ h => h | exact fun h => h | exact fun _ => ⟨rfl, rfl⟩ | exact ⟨rfl, rfl⟩ | decide | intro _ _ _ | intro _ _ | split | dsimp only)

theorem publishResult_does (c : Nat) (w : Word) (settle : Bool) (s : State) : Does [.regs, .gau] s (publishResult c w settle s) := by
  unfold publishResult
  repeat' (first
    | with_reducible (first
        | exact Does.refl _ _ | assumption | apply Does.ite | apply Does.step (modChan_does ..) | apply Does.step (setCell_does ..))
    | exact fun _ h => h | exact fun h => h | exact fun _ => ⟨rfl, rfl⟩ | exact ⟨rfl, rfl⟩ | decide | intro _ _ _ | intro _ _ | split | dsimp only)

theorem conversionEnd_does (k : Nat) (r : GauReading) (s : State) : Does [.regs, .flt, .port0, .port1, .gau] s (conversionEnd k r s) := by
  unfold conversionEnd
  repeat' (first
    | with_reducible (first
        | exact Does.refl _ _ | assumption | apply Does.ite | apply Does.step (event_does ..) | apply Does.step (modChan_does ..)
        | apply Does.step (modConv_does ..) | apply Does.step (publishResult_does ..) | apply Does.step (raise_does ..))
    | exact fun _ h => h | exact fun h => h | exact fun _ => ⟨rfl, rfl⟩ | exact ⟨rfl, rfl⟩ | decide | intro _ _ _ | intro _ _ | split | dsimp only)

theorem openRaised_does (c : Nat) (s : State) : Does [.regs, .flt, .port0, .port1] s (openRaised c s) := by
  unfold openRaised
  repeat' (first
    | with_reducible (first
        | exact Does.refl _ _ | assumption | apply Does.ite | apply Does.step (event_does ..) | apply Does.step (raise_does ..))
    | exact fun _ h => h | exact fun h => h | exact fun _ => ⟨rfl, rfl⟩ | exact ⟨rfl, rfl⟩ | decide | intro _ _ _ | intro _ _ | split | dsimp only)

theorem gauOpenSet_does (c : Nat) (s : State) : Does [.regs, .flt, .port0, .port1, .gau] s (gauOpenSet c s) := by
  unfold gauOpenSet
  repeat' (first
    | with_reducible (first
        | exact Does.refl _ _ | assumption | apply Does.ite | apply Does.step (modChan_does ..) | apply Does.step (openRaised_does ..)
        | apply Does.step (openSeen_does ..))
    | exact fun _ h => h | exact fun h => h | exact fun _ => ⟨rfl, rfl⟩ | exact ⟨rfl, rfl⟩ | decide | intro _ _ _ | intro _ _ | split | dsimp only)

theorem gauOpenClear_does (c : Nat) (s : State) : Does [.gau] s (gauOpenClear c s) := by
  unfold gauOpenClear
  repeat' (first
    | with_reducible (first
        | exact Does.refl _ _ | assumption | apply Does.ite | apply Does.step (modChan_does ..) | apply Does.step (settleTwo_does ..))
    | exact fun _ h => h | exact fun h => h | exact fun _ => ⟨rfl, rfl⟩ | exact ⟨rfl, rfl⟩ | decide | intro _ _ _ | intro _ _ | split | dsimp only)

theorem gauExcFault_does (c : Nat) (s : State) : Does [.regs, .flt, .port0, .port1, .gau] s (gauExcFault c s) := by
  unfold gauExcFault
  repeat' (first
    | with_reducible (first
        | exact Does.refl _ _ | assumption | apply Does.ite | apply Does.step (event_does ..) | apply Does.step (modChan_does ..)
        | apply Does.step (openSeen_does ..) | apply Does.step (raise_does ..))
    | exact fun _ h => h | exact fun h => h | exact fun _ => ⟨rfl, rfl⟩ | exact ⟨rfl, rfl⟩ | decide | intro _ _ _ | intro _ _ | split | dsimp only)

theorem excRetry_does (c : Nat) (within : Bool) (s : State) : Does [.gau] s (excRetry c within s) := by
  unfold excRetry
  repeat' (first
    | with_reducible (first
        | exact Does.refl _ _ | assumption | apply Does.ite | apply Does.step (modChan_does ..))
    | exact fun _ h => h | exact fun h => h | exact fun _ => ⟨rfl, rfl⟩ | exact ⟨rfl, rfl⟩ | decide | intro _ _ _ | intro _ _ | split | dsimp only)

theorem burnoutCheck_does (k : Nat) (isOpen : Bool) (s : State) : Does [.regs, .flt, .port0, .port1, .gau] s (burnoutCheck k isOpen s) := by
  unfold burnoutCheck
  repeat' (first
    | with_reducible (first
        | exact Does.refl _ _ | assumption | apply Does.ite | apply Does.step (modChan_does ..) | apply Does.step (openRaised_does ..)
        | apply Does.step (settleTwo_does ..))
    | exact fun _ h => h | exact fun h => h | exact fun _ => ⟨rfl, rfl⟩ | exact ⟨rfl, rfl⟩ | decide | intro _ _ _ | intro _ _ | split | dsimp only)

theorem blankEdge_does (p : Nat) (asserted : Bool) (s : State) : Does [.gau] s (blankEdge p asserted s) := by
  unfold blankEdge
  repeat' (first
    | with_reducible (first
        | exact Does.refl _ _ | assumption | apply Does.ite | apply Does.step (State.modGau_does ..) | apply Does.step (blankSeen_does ..))
    | exact fun _ h => h | exact fun h => h | exact fun _ => ⟨rfl, rfl⟩ | exact ⟨rfl, rfl⟩ | decide | intro _ _ _ | intro _ _ | split | dsimp only)

theorem excChanged_does (c : Nat) (s : State) : Does [.gau] s (excChanged c s) := by
  unfold excChanged
  repeat' (first
    | with_reducible (first
        | exact Does.refl _ _ | assumption | apply Does.ite | apply Does.step (modChan_does ..) | apply Does.step (modConv_does ..))
    | exact fun _ h => h | exact fun h => h | exact fun _ => ⟨rfl, rfl⟩ | exact ⟨rfl, rfl⟩ | decide | intro _ _ _ | intro _ _ | split | dsimp only)

theorem chCfgWritten_does (c : Nat) (old : Word) (s : State) : Does [.gau] s (chCfgWritten c old s) := by
  unfold chCfgWritten
  repeat' (first
    | with_reducible (first
        | exact Does.refl _ _ | assumption | apply Does.ite | apply Does.step (excChanged_does ..))
    | exact fun _ h => h | exact fun h => h | exact fun _ => ⟨rfl, rfl⟩ | exact ⟨rfl, rfl⟩ | decide | intro _ _ _ | intro _ _ | split | dsimp only)

theorem gaugeStop_does (s : State) : Does [.gau] s (gaugeStop s) := by
  unfold gaugeStop
  repeat' (first
    | with_reducible (first
        | exact Does.refl _ _ | assumption | apply Does.ite | apply Does.forN | apply Does.step (modChan_does ..) | apply Does.step (modConv_does ..))
    | exact fun _ h => h | exact fun h => h | exact fun _ => ⟨rfl, rfl⟩ | exact ⟨rfl, rfl⟩ | decide | intro _ _ _ | intro _ _ | split | dsimp only)

theorem gaugeAnalogueOn_does (s : State) : Does [.gau] s (gaugeAnalogueOn s) := by
  unfold gaugeAnalogueOn
  repeat' (first
    | with_reducible (first
        | exact Does.refl _ _ | assumption | apply Does.ite | apply Does.forN | apply Does.step (modConv_does ..))
    | exact fun _ h => h | exact fun h => h | exact fun _ => ⟨rfl, rfl⟩ | exact ⟨rfl, rfl⟩ | decide | intro _ _ _ | intro _ _ | split | dsimp only)

theorem gaugeOutputsOff_does (s : State) : Does [.gau] s (gaugeOutputsOff s) := by
  unfold gaugeOutputsOff
  repeat' (first
    | with_reducible (first
        | exact Does.refl _ _ | assumption | apply Does.ite | apply Does.forN | apply Does.step (modOut_does ..))
    | exact fun _ h => h | exact fun h => h | exact fun _ => ⟨rfl, rfl⟩ | exact ⟨rfl, rfl⟩ | decide | intro _ _ _ | intro _ _ | split | dsimp only)

theorem gaugeOutputsOn_does (s : State) : Does [.gau] s (gaugeOutputsOn s) := by
  unfold gaugeOutputsOn
  repeat' (first
    | with_reducible (first
        | exact Does.refl _ _ | assumption | apply Does.ite | apply Does.forN | apply Does.step (modOut_does ..))
    | exact fun _ h => h | exact fun h => h | exact fun _ => ⟨rfl, rfl⟩ | exact ⟨rfl, rfl⟩ | decide | intro _ _ _ | intro _ _ | split | dsimp only)

theorem gauCtlWritten_does (old : Word) (s : State) : Does [.gau] s (gauCtlWritten old s) := by
  unfold gauCtlWritten
  repeat' (first
    | with_reducible (first
        | exact Does.refl _ _ | assumption | apply Does.ite | apply Does.forN | apply Does.step (modConv_does ..))
    | exact fun _ h => h | exact fun h => h | exact fun _ => ⟨rfl, rfl⟩ | exact ⟨rfl, rfl⟩ | decide | intro _ _ _ | intro _ _ | split | dsimp only)

theorem gauGainWritten_does (k g : Nat) (s : State) : Does [.gau] s (gauGainWritten k g s) := by
  unfold gauGainWritten
  repeat' (first
    | with_reducible (first
        | exact Does.refl _ _ | assumption | apply Does.ite | apply Does.step (modConv_does ..))
    | exact fun _ h => h | exact fun h => h | exact fun _ => ⟨rfl, rfl⟩ | exact ⟨rfl, rfl⟩ | decide | intro _ _ _ | intro _ _ | split | dsimp only)

theorem selfcalBegin_does (mask : Nat) (s : State) : Does [.gau] s (selfcalBegin mask s) := by
  unfold selfcalBegin
  repeat' (first
    | with_reducible (first
        | exact Does.refl _ _ | assumption | apply Does.ite | apply Does.forN | apply Does.step (modConv_does ..))
    | exact fun _ h => h | exact fun h => h | exact fun _ => ⟨rfl, rfl⟩ | exact ⟨rfl, rfl⟩ | decide | intro _ _ _ | intro _ _ | split | dsimp only)

theorem selfcalConv_does (k : Nat) (rs : List GauCalReading) (s : State) : Does [.regs, .flt, .port0, .port1, .gau] s (selfcalConv k rs s).1 := by
  unfold selfcalConv
  repeat' (first
    | with_reducible (first
        | exact Does.refl _ _ | assumption | apply Does.ite | apply Does.forN | apply Does.step (event_does ..) | apply Does.step (modConv_does ..)
        | apply Does.step (raise_does ..) | apply Does.step (setCell_does ..))
    | exact fun _ h => h | exact fun h => h | exact fun _ => ⟨rfl, rfl⟩ | exact ⟨rfl, rfl⟩ | decide | intro _ _ _ | intro _ _ | split | dsimp only)

theorem selfcalEnd_does (mask : Nat) (rs : Nat → List GauCalReading) (s : State) : Does [.regs, .flt, .port0, .port1, .gau] s (selfcalEnd mask rs s).1 := by
  unfold selfcalEnd
  dsimp only
  apply Does.step (event_does ..) (by decide)
  have key : ∀ (l : List Nat) (a : State × Nat × Nat), Does [.regs, .flt, .port0, .port1, .gau] s a.1 →
      Does [.regs, .flt, .port0, .port1, .gau] s (l.foldl (fun (a : State × Nat × Nat) k =>
        if mask.testBit k then
          ((selfcalConv k (rs k) a.1).1, if (selfcalConv k (rs k) a.1).2 then (a.2.1 + 2 ^ k, a.2.2) else (a.2.1, a.2.2 + 2 ^ k))
        else a) a).1 := by
    intro l
    induction l with
    | nil => intro a h; exact h
    | cons k t ih =>
      intro a h
      refine ih _ ?_
      dsimp only
      split
      · exact Does.step (selfcalConv_does ..) (by decide) h
      · exact h
  exact key _ (s, 0, 0) (Does.refl _ _)

theorem outMismatch_does (o : Nat) (s : State) : Does [.regs, .flt, .port0, .port1, .gau] s (outMismatch o s) := by
  unfold outMismatch
  repeat' (first
    | with_reducible (first
        | exact Does.refl _ _ | assumption | apply Does.ite | apply Does.step (event_does ..) | apply Does.step (modOut_does ..)
        | apply Does.step (raise_does ..))
    | exact fun _ h => h | exact fun h => h | exact fun _ => ⟨rfl, rfl⟩ | exact ⟨rfl, rfl⟩ | decide | intro _ _ _ | intro _ _ | split | dsimp only)

theorem outputPeriod_does (o : Nat) (r : GauReadback) (s : State) : Does [.regs, .flt, .port0, .port1, .gau] s (outputPeriod o r s) := by
  unfold outputPeriod
  repeat' (first
    | with_reducible (first
        | exact Does.refl _ _ | assumption | apply Does.ite | apply Does.step (outMismatch_does ..) | apply Does.step (modOut_does ..))
    | exact fun _ h => h | exact fun h => h | exact fun _ => ⟨rfl, rfl⟩ | exact ⟨rfl, rfl⟩ | decide | intro _ _ _ | intro _ _ | split | dsimp only)

theorem outCfgWritten_does (o : Nat) (s : State) : Does [.gau] s (outCfgWritten o s) := by
  unfold outCfgWritten
  repeat' (first
    | with_reducible (first
        | exact Does.refl _ _ | assumption | apply Does.ite | apply Does.step (modOut_does ..))
    | exact fun _ h => h | exact fun h => h | exact fun _ => ⟨rfl, rfl⟩ | exact ⟨rfl, rfl⟩ | decide | intro _ _ _ | intro _ _ | split | dsimp only)

/-! ### Records -/

theorem State.modMrt_does (f : Mortar → Mortar) (s : State) : Does [.mrt] s (State.modMrt f s) := by
  unfold State.modMrt
  repeat' (first
    | with_reducible (first
        | exact Does.refl _ _ | assumption | apply Does.ite | apply Does.put_mrt)
    | exact fun _ h => h | exact fun h => h | exact fun _ => ⟨rfl, rfl⟩ | exact ⟨rfl, rfl⟩ | decide | intro _ _ _ | intro _ _ | split | dsimp only)

theorem cellsWrite_does (c : CellUse) (n : Nat) (s : State) : Does [.mem] s (cellsWrite c n s) := by
  unfold cellsWrite
  repeat' (first
    | with_reducible (first
        | exact Does.refl _ _ | assumption | apply Does.ite | apply Does.forN | apply Does.step (eccWrite_does ..))
    | exact fun _ h => h | exact fun h => h | exact fun _ => ⟨rfl, rfl⟩ | exact ⟨rfl, rfl⟩ | decide | intro _ _ _ | intro _ _ | split | dsimp only)

theorem cellsRead_does (c : CellUse) (n i : Nat) (s : State) : Does [.regs, .flt, .port0, .port1, .mem] s (cellsRead c n i s).2 := by
  induction n generalizing i s with
  | zero => exact Does.refl _ _
  | succ n ih =>
    unfold cellsRead
    dsimp only
    split
    · split
      · exact Does.step (ih _ _) (by decide) (eccRead_does ..)
      · exact eccRead_does ..
    · exact Does.refl _ _

theorem poolMoved_does (s : State) : Does [.regs] s (poolMoved s) := by
  unfold poolMoved
  repeat' (first
    | with_reducible (first
        | exact Does.refl _ _ | assumption | apply Does.ite | apply Does.step (modCell_does ..))
    | exact fun _ h => h | exact fun h => h | exact fun _ => ⟨rfl, rfl⟩ | exact ⟨rfl, rfl⟩ | decide | intro _ _ _ | intro _ _ | split | dsimp only)

theorem throttle_does (s : State) : Does [.regs, .flt, .port0, .port1, .mrt, .streams] s (throttle s) := by
  unfold throttle
  repeat' (first
    | with_reducible (first
        | exact Does.refl _ _ | assumption | apply Does.ite | apply Does.forN | apply Does.step (State.modMrt_does ..)
        | apply Does.step (event_does ..) | apply Does.step (modStream_does ..) | apply Does.step (poolMoved_does ..)
        | apply Does.step (raise_does ..))
    | exact fun _ h => h | exact fun h => h | exact fun _ => ⟨rfl, rfl⟩ | exact ⟨rfl, rfl⟩ | decide | intro _ _ _ | intro _ _ | split | dsimp only)

/-! ### Accepts -/

theorem enqueueRead_does (r : QReq) (s : State) : Does [.qry] s (enqueueRead r s) := by
  unfold enqueueRead
  repeat' (first
    | with_reducible (first
        | exact Does.refl _ _ | assumption | apply Does.ite | apply Does.step (State.modQry_does ..) | apply Does.step (pinAt_does ..))
    | exact fun _ h => h | exact fun h => h | exact fun _ => ⟨rfl, rfl⟩ | exact ⟨rfl, rfl⟩ | decide | intro _ _ _ | intro _ _ | split | dsimp only)

theorem submitPiece_does (id u : Nat) (s : State) : Does [.qry, .mrt] s (submitPiece id u s) := by
  unfold submitPiece
  repeat' (first
    | with_reducible (first
        | exact Does.refl _ _ | assumption | apply Does.ite | apply Does.step (State.modMrt_does ..) | apply Does.step (enqueueRead_does ..))
    | exact fun _ h => h | exact fun h => h | exact fun _ => ⟨rfl, rfl⟩ | exact ⟨rfl, rfl⟩ | decide | intro _ _ _ | intro _ _ | split | dsimp only)

theorem putEntry_does (e : AccEntry) (s : State) : Does [.mem, .mrt] s (putEntry e s) := by
  unfold putEntry
  repeat' (first
    | with_reducible (first
        | exact Does.refl _ _ | assumption | apply Does.ite | apply Does.step (State.modMrt_does ..) | apply Does.step (eccWrite_does ..))
    | exact fun _ h => h | exact fun h => h | exact fun _ => ⟨rfl, rfl⟩ | exact ⟨rfl, rfl⟩ | decide | intro _ _ _ | intro _ _ | split | dsimp only)

theorem refuse_does (numbers : Option (Nat × Nat)) (isRecall : Bool) (number : Nat) (s : State) : Does [.regs, .flt, .port0, .port1, .mrt] s (refuse numbers isRecall number s) := by
  unfold refuse
  repeat' (first
    | with_reducible (first
        | exact Does.refl _ _ | assumption | apply Does.ite | apply Does.step (State.modMrt_does ..) | apply Does.step (count_does ..)
        | apply Does.step (event_does ..) | apply Does.step (raise_does ..))
    | exact fun _ h => h | exact fun h => h | exact fun _ => ⟨rfl, rfl⟩ | exact ⟨rfl, rfl⟩ | decide | intro _ _ _ | intro _ _ | split | dsimp only)

theorem refusalCloses_does (s : State) : Does [.mem, .mrt] s (refusalCloses s) := by
  unfold refusalCloses
  repeat' (first
    | with_reducible (first
        | exact Does.refl _ _ | assumption | apply Does.ite | apply Does.step (State.modMrt_does ..) | apply Does.step (putEntry_does ..))
    | exact fun _ h => h | exact fun h => h | exact fun _ => ⟨rfl, rfl⟩ | exact ⟨rfl, rfl⟩ | decide | intro _ _ _ | intro _ _ | split | dsimp only)

theorem lossSummary_does (a b : Nat) (s : State) : Does [.regs, .flt, .port0, .port1, .mem, .mrt] s (lossSummary a b s) := by
  unfold lossSummary
  repeat' (first
    | with_reducible (first
        | exact Does.refl _ _ | assumption | apply Does.ite | apply Does.step (State.modMrt_does ..) | apply Does.step (count_does ..)
        | apply Does.step (event_does ..) | apply Does.step (putEntry_does ..) | apply Does.step (raise_does ..) | apply Does.step (refuse_does ..))
    | exact fun _ h => h | exact fun h => h | exact fun _ => ⟨rfl, rfl⟩ | exact ⟨rfl, rfl⟩ | decide | intro _ _ _ | intro _ _ | split | dsimp only)

theorem gapReport_does (m : AccMsg) (reason : Nat) (s : State) : Does [.regs, .flt, .port0, .port1] s (gapReport m reason s) := by
  unfold gapReport
  repeat' (first
    | with_reducible (first
        | exact Does.refl _ _ | assumption | apply Does.ite | apply Does.step (count_does ..) | apply Does.step (event_does ..)
        | apply Does.step (raise_does ..))
    | exact fun _ h => h | exact fun h => h | exact fun _ => ⟨rfl, rfl⟩ | exact ⟨rfl, rfl⟩ | decide | intro _ _ _ | intro _ _ | split | dsimp only)

theorem enterMessage_does (m : AccMsg) (s : State) : Does [.regs, .flt, .port0, .port1, .qry, .mem, .mrt] s (enterMessage m s) := by
  unfold enterMessage
  repeat' (first
    | with_reducible (first
        | exact Does.refl _ _ | assumption | apply Does.ite | apply Does.forL | apply Does.step (State.modMrt_does ..)
        | apply Does.step (countWrap_does ..) | apply Does.step (enqueueRead_does ..) | apply Does.step (gapReport_does ..)
        | apply Does.step (putEntry_does ..) | apply Does.step (refuse_does ..) | apply Does.step (submitPiece_does ..))
    | exact fun _ h => h | exact fun h => h | exact fun _ => ⟨rfl, rfl⟩ | exact ⟨rfl, rfl⟩ | decide | intro _ _ _ | intro _ _ | split | dsimp only)

theorem setExpected_does (n : Nat) (s : State) : Does [.btr] s (setExpected n s) := by
  unfold setExpected
  repeat' (first
    | with_reducible (first
        | exact Does.refl _ _ | assumption | apply Does.ite | apply Does.step (State.modBtr_does ..))
    | exact fun _ h => h | exact fun h => h | exact fun _ => ⟨rfl, rfl⟩ | exact ⟨rfl, rfl⟩ | decide | intro _ _ _ | intro _ _ | split | dsimp only)

theorem checkNumber_does (m : AccMsg) (s : State) : Does [.btr, .regs, .flt, .port0, .port1, .qry, .mem, .mrt] s (checkNumber m s) := by
  unfold checkNumber
  repeat' (first
    | with_reducible (first
        | exact Does.refl _ _ | assumption | apply Does.ite | apply Does.step (count_does ..) | apply Does.step (enterMessage_does ..)
        | apply Does.step (event_does ..) | apply Does.step (lossSummary_does ..) | apply Does.step (raise_does ..)
        | apply Does.step (setExpected_does ..))
    | exact fun _ h => h | exact fun h => h | exact fun _ => ⟨rfl, rfl⟩ | exact ⟨rfl, rfl⟩ | decide | intro _ _ _ | intro _ _ | split | dsimp only)

theorem messageRx_does (isRecall : Bool) (d : Fin 2) (body : List Byte) (s : State) : Does [.btr, .regs, .flt, .port0, .port1, .qry, .mem, .mrt, .streams] s (messageRx isRecall d body s) := by
  unfold messageRx
  repeat' (first
    | with_reducible (first
        | exact Does.refl _ _ | assumption | apply Does.ite | apply Does.step (checkNumber_does ..) | apply Does.step (count_does ..)
        | apply Does.step (enterMessage_does ..) | apply Does.step (event_does ..) | apply Does.step (raise_does ..)
        | apply Does.step (throttle_does ..))
    | exact fun _ h => h | exact fun h => h | exact fun _ => ⟨rfl, rfl⟩ | exact ⟨rfl, rfl⟩ | decide | intro _ _ _ | intro _ _ | split | dsimp only)

theorem accResync_does (s : State) : Does [.btr] s (accResync s) := by
  unfold accResync
  repeat' (first
    | with_reducible (first
        | exact Does.refl _ _ | assumption | apply Does.ite | apply Does.step (State.modBtr_does ..))
    | exact fun _ h => h | exact fun h => h | exact fun _ => ⟨rfl, rfl⟩ | exact ⟨rfl, rfl⟩ | decide | intro _ _ _ | intro _ _ | split | dsimp only)

/-! ### Fragments -/

theorem modEntry_does (id : Nat) (f : AccEntry → AccEntry) (s : State) : Does [.mrt] s (modEntry id f s) := by
  unfold modEntry
  repeat' (first
    | with_reducible (first
        | exact Does.refl _ _ | assumption | apply Does.ite | apply Does.step (State.modMrt_does ..))
    | exact fun _ h => h | exact fun h => h | exact fun _ => ⟨rfl, rfl⟩ | exact ⟨rfl, rfl⟩ | decide | intro _ _ _ | intro _ _ | split | dsimp only)

theorem modGather_does (id u : Nat) (f : Gather → Gather) (s : State) : Does [.mrt] s (modGather id u f s) := by
  unfold modGather
  repeat' (first
    | with_reducible (first
        | exact Does.refl _ _ | assumption | apply Does.ite | apply Does.step (modEntry_does ..))
    | exact fun _ h => h | exact fun h => h | exact fun _ => ⟨rfl, rfl⟩ | exact ⟨rfl, rfl⟩ | decide | intro _ _ _ | intro _ _ | split | dsimp only)

theorem modRec_does (id t : Nat) (f : StreamRec → StreamRec) (s : State) : Does [.mrt] s (modRec id t f s) := by
  unfold modRec
  repeat' (first
    | with_reducible (first
        | exact Does.refl _ _ | assumption | apply Does.ite | apply Does.step (modEntry_does ..))
    | exact fun _ h => h | exact fun h => h | exact fun _ => ⟨rfl, rfl⟩ | exact ⟨rfl, rfl⟩ | decide | intro _ _ _ | intro _ _ | split | dsimp only)

theorem ringParts_does (e : AccEntry) (l : List (Nat × Nat)) (s : State) : Does [.regs, .flt, .port0, .port1, .mem] s (ringParts e l s).2.2 := by
  induction l generalizing s with
  | nil => exact Does.refl _ _
  | cons x t ih =>
    obtain ⟨c, g⟩ := x
    unfold ringParts
    dsimp only
    split
    all_goals exact Does.step (ih _) (by decide) (slotsRead_does ..)

theorem buildGrows_does (id u : Nat) (s : State) : Does [.regs, .flt, .port0, .port1, .mrt, .streams] s (buildGrows id u s) := by
  unfold buildGrows
  repeat' (first
    | with_reducible (first
        | exact Does.refl _ _ | assumption | apply Does.ite | apply Does.forL | apply Does.step (throttle_does ..)
        | apply Does.step (modRec_does ..))
    | exact fun _ h => h | exact fun h => h | exact fun _ => ⟨rfl, rfl⟩ | exact ⟨rfl, rfl⟩ | decide | intro _ _ _ | intro _ _ | split | dsimp only)

theorem buildWaits_does (id u : Nat) (s : State) : Does [.mrt] s (buildWaits id u s) := by
  unfold buildWaits
  repeat' (first
    | with_reducible (first
        | exact Does.refl _ _ | assumption | apply Does.ite | apply Does.step (modEntry_does ..))
    | exact fun _ h => h | exact fun h => h | exact fun _ => ⟨rfl, rfl⟩ | exact ⟨rfl, rfl⟩ | decide | intro _ _ _ | intro _ _ | split | dsimp only)

theorem extractionDone_does (u id : Nat) (faults : List ExtractFault) (s : State) : Does [.regs, .flt, .port0, .port1, .qry, .mem, .mrt, .streams] s (extractionDone u id faults s) := by
  unfold extractionDone
  repeat' (first
    | with_reducible (first
        | exact Does.refl _ _ | assumption | apply Does.ite | apply Does.forL | apply Does.step (buildWaits_does ..)
        | apply Does.step (ringUpset_does ..) | apply Does.step (ringParts_does ..) | apply Does.step (buildGrows_does ..)
        | apply Does.step (modGather_does ..) | apply Does.step (enqueueRead_does ..) | apply Does.step (event_does ..))
    | exact fun _ h => h | exact fun h => h | exact fun _ => ⟨rfl, rfl⟩ | exact ⟨rfl, rfl⟩ | decide | intro _ _ _ | intro _ _ | split | dsimp only)

theorem deliverParts_does (r : QReq) (parts : List Part) (words : List (Nat × List DWord)) (s : State) : Does [.regs, .flt, .port0, .port1, .mrt, .streams] s (deliverParts r parts words s) := by
  unfold deliverParts
  repeat' (first
    | with_reducible (first
        | exact Does.refl _ _ | assumption | apply Does.ite | apply Does.step (buildGrows_does ..) | apply Does.step (modGather_does ..))
    | exact fun _ h => h | exact fun h => h | exact fun _ => ⟨rfl, rfl⟩ | exact ⟨rfl, rfl⟩ | decide | intro _ _ _ | intro _ _ | split | dsimp only)

theorem replaceRead_does (p : QReq → Bool) (new : Option QReq) (s : State) : Does [.qry] s (replaceRead p new s) := by
  unfold replaceRead
  repeat' (first
    | with_reducible (first
        | exact Does.refl _ _ | assumption | apply Does.ite | apply Does.step (State.modQry_does ..))
    | exact fun _ h => h | exact fun h => h | exact fun _ => ⟨rfl, rfl⟩ | exact ⟨rfl, rfl⟩ | decide | intro _ _ _ | intro _ _ | split | dsimp only)

theorem quarryRead_does (burst : List Nat) (s : State) : Does [.regs, .flt, .port0, .port1, .qry, .hbm, .mrt, .streams] s (quarryRead burst s) := by
  unfold quarryRead
  repeat' (first
    | with_reducible (first
        | exact Does.refl _ _ | assumption | apply Does.ite | apply Does.step (replaceRead_does ..)
        | apply Does.step (deliverParts_does ..) | apply Does.step (readCourse_does (by assumption)))
    | exact fun _ h => h | exact fun h => h | exact fun _ => ⟨rfl, rfl⟩ | exact ⟨rfl, rfl⟩ | decide | intro _ _ _ | intro _ _ | split | dsimp only)

theorem pinSpaceFreed_does (s : State) : Does [.qry] s (pinSpaceFreed s) := by
  unfold pinSpaceFreed
  repeat' (first
    | with_reducible (first
        | exact Does.refl _ _ | assumption | apply Does.ite | apply Does.step (pinAt_does ..))
    | exact fun _ h => h | exact fun h => h | exact fun _ => ⟨rfl, rfl⟩ | exact ⟨rfl, rfl⟩ | decide | intro _ _ _ | intro _ _ | split | dsimp only)

theorem recallPiece_does (u : Nat) (s : State) : Does [.qry, .mrt] s (recallPiece u s) := by
  unfold recallPiece
  repeat' (first
    | with_reducible (first
        | exact Does.refl _ _ | assumption | apply Does.ite | apply Does.step (submitPiece_does ..))
    | exact fun _ h => h | exact fun h => h | exact fun _ => ⟨rfl, rfl⟩ | exact ⟨rfl, rfl⟩ | decide | intro _ _ _ | intro _ _ | split | dsimp only)

theorem truncReport_does (e : AccEntry) (r : StreamRec) (cause b : Nat) (s : State) : Does [.regs, .flt, .port0, .port1] s (truncReport e r cause b s) := by
  unfold truncReport
  repeat' (first
    | with_reducible (first
        | exact Does.refl _ _ | assumption | apply Does.ite | apply Does.step (event_does ..) | apply Does.step (raise_does ..))
    | exact fun _ h => h | exact fun h => h | exact fun _ => ⟨rfl, rfl⟩ | exact ⟨rfl, rfl⟩ | decide | intro _ _ _ | intro _ _ | split | dsimp only)

theorem fragComplete_does (e : AccEntry) (r : StreamRec) (body : List DWord) (use : CellUse) (s : State) : Does [.regs, .flt, .port0, .port1, .mem, .mrt, .streams] s (fragComplete e r body use s) := by
  unfold fragComplete
  repeat' (first
    | with_reducible (first
        | exact Does.refl _ _ | assumption | apply Does.ite | apply Does.step (cellsWrite_does ..) | apply Does.step (modRec_does ..)
        | apply Does.step (countWrap_does ..) | apply Does.step (throttle_does ..) | apply Does.step (count_does ..))
    | exact fun _ h => h | exact fun h => h | exact fun _ => ⟨rfl, rfl⟩ | exact ⟨rfl, rfl⟩ | decide | intro _ _ _ | intro _ _ | split | dsimp only)

theorem fragTry_does (e : AccEntry) (r : StreamRec) (g : Gather) (since : Nat) (s : State) : Does [.regs, .flt, .port0, .port1, .mem, .mrt, .streams] s (fragTry e r g since s) := by
  unfold fragTry
  repeat' (first
    | with_reducible (first
        | exact Does.refl _ _ | assumption | apply Does.ite | apply Does.step (count_does ..) | apply Does.step (fragComplete_does ..)
        | apply Does.step (modRec_does ..) | apply Does.step (throttle_does ..) | apply Does.step (truncReport_does ..))
    | exact fun _ h => h | exact fun h => h | exact fun _ => ⟨rfl, rfl⟩ | exact ⟨rfl, rfl⟩ | decide | intro _ _ _ | intro _ _ | split | dsimp only)

theorem fragmentComplete_does (t id : Nat) (s : State) : Does [.regs, .flt, .port0, .port1, .mem, .mrt, .streams] s (fragmentComplete t id s) := by
  unfold fragmentComplete
  repeat' (first
    | with_reducible (first
        | exact Does.refl _ _ | assumption | apply Does.ite | apply Does.step (fragTry_does ..))
    | exact fun _ h => h | exact fun h => h | exact fun _ => ⟨rfl, rfl⟩ | exact ⟨rfl, rfl⟩ | decide | intro _ _ _ | intro _ _ | split | dsimp only)

theorem cellWait_does (t id : Nat) (s : State) : Does [.regs, .flt, .port0, .port1, .mem, .mrt, .streams] s (cellWait t id s) := by
  unfold cellWait
  repeat' (first
    | with_reducible (first
        | exact Does.refl _ _ | assumption | apply Does.ite | apply Does.step (fragTry_does ..) | apply Does.step (buildGrows_does ..))
    | exact fun _ h => h | exact fun h => h | exact fun _ => ⟨rfl, rfl⟩ | exact ⟨rfl, rfl⟩ | decide | intro _ _ _ | intro _ _ | split | dsimp only)

theorem headWaitExpiry_does (t : Nat) (s : State) : Does [.regs, .flt, .port0, .port1, .mem, .mrt, .streams] s (headWaitExpiry t s) := by
  unfold headWaitExpiry
  repeat' (first
    | with_reducible (first
        | exact Does.refl _ _ | assumption | apply Does.ite | apply Does.step (count_does ..) | apply Does.step (fragComplete_does ..)
        | apply Does.step (truncReport_does ..))
    | exact fun _ h => h | exact fun h => h | exact fun _ => ⟨rfl, rfl⟩ | exact ⟨rfl, rfl⟩ | decide | intro _ _ _ | intro _ _ | split | dsimp only)

end Sys2Proof.Machine
end

