-- ==== Sys2Proof/Laws/DoesLines.lean ====
section
/-!
SUPPORT. What each operation can do: which parts of the state it can change, and that memory keeps its form and the stores their capacities: Uplinks, Plumb, Faults, Release, Mem.
-/
namespace Sys2Proof.Machine
set_option Elab.async false

/-! ### Uplinks -/

theorem requeue_does (t : Nat) (o : OutRec) (s : State) : Does [.streams] s (requeue t o s) := by
  unfold requeue
  repeat' (first
    | with_reducible (first
        | exact Does.refl _ _ | assumption | apply Does.ite | apply Does.step (modStream_does ..))
    | exact fun _ h => h | exact fun h => h | exact fun _ => ⟨rfl, rfl⟩ | exact ⟨rfl, rfl⟩ | decide | intro _ _ _ | intro _ _ | split | dsimp only)

theorem initBoundary_does (u : Nat) (s : State) : Does [.uplinks] s (initBoundary u s) := by
  unfold initBoundary
  repeat' (first
    | with_reducible (first
        | exact Does.refl _ _ | assumption | apply Does.ite | apply Does.step (modUplink_does ..))
    | exact fun _ h => h | exact fun h => h | exact fun _ => ⟨rfl, rfl⟩ | exact ⟨rfl, rfl⟩ | decide | intro _ _ _ | intro _ _ | split | dsimp only)

theorem cutBlock_does (u t : Nat) (s : State) : Does [.regs, .flt, .port0, .port1, .mrt, .streams, .uplinks] s (cutBlock u t s) := by
  unfold cutBlock
  repeat' (first
    | with_reducible (first
        | exact Does.refl _ _ | assumption | apply Does.ite | apply Does.step (count_does ..) | apply Does.step (event_does ..)
        | apply Does.step (initBoundary_does ..) | apply Does.step (modStream_does ..) | apply Does.step (raise_does ..)
        | apply Does.step (requeue_does ..) | apply Does.step (throttle_does ..))
    | exact fun _ h => h | exact fun h => h | exact fun _ => ⟨rfl, rfl⟩ | exact ⟨rfl, rfl⟩ | decide | intro _ _ _ | intro _ _ | split | dsimp only)

theorem cutUplink_does (u : Nat) (s : State) : Does [.regs, .flt, .port0, .port1, .mrt, .streams, .uplinks] s (cutUplink u s) := by
  unfold cutUplink
  repeat' (first
    | with_reducible (first
        | exact Does.refl _ _ | assumption | apply Does.ite | apply Does.step (cutBlock_does ..))
    | exact fun _ h => h | exact fun h => h | exact fun _ => ⟨rfl, rfl⟩ | exact ⟨rfl, rfl⟩ | decide | intro _ _ _ | intro _ _ | split | dsimp only)

theorem putBlock_does (t : Nat) (o : OutRec) (cs : List Nat) (s : State) : Does [.streams, .uplinks] s (putBlock t o cs s) := by
  unfold putBlock
  repeat' (first
    | with_reducible (first
        | exact Does.refl _ _ | assumption | apply Does.ite | apply Does.forL | apply Does.step (modStream_does ..)
        | apply Does.step (modUplink_does ..))
    | exact fun _ h => h | exact fun h => h | exact fun _ => ⟨rfl, rfl⟩ | exact ⟨rfl, rfl⟩ | decide | intro _ _ _ | intro _ _ | split | dsimp only)

theorem startBlock_does (t : Nat) (s : State) : Does [.regs, .port0, .port1, .streams, .uplinks] s (startBlock t s) := by
  unfold startBlock
  repeat' (first
    | with_reducible (first
        | exact Does.refl _ _ | assumption | apply Does.ite | apply Does.step (count_does ..) | apply Does.step (event_does ..)
        | apply Does.step (modStream_does ..) | apply Does.step (putBlock_does ..))
    | exact fun _ h => h | exact fun h => h | exact fun _ => ⟨rfl, rfl⟩ | exact ⟨rfl, rfl⟩ | decide | intro _ _ _ | intro _ _ | split | dsimp only)

theorem startBlocks_does (s : State) : Does [.regs, .port0, .port1, .streams, .uplinks] s (startBlocks s) := by
  unfold startBlocks
  repeat' (first
    | with_reducible (first
        | exact Does.refl _ _ | assumption | apply Does.ite | apply Does.forN | apply Does.step (startBlock_does ..))
    | exact fun _ h => h | exact fun h => h | exact fun _ => ⟨rfl, rfl⟩ | exact ⟨rfl, rfl⟩ | decide | intro _ _ _ | intro _ _ | split | dsimp only)

theorem cellError_does (u cell t : Nat) (released : Bool) (s : State) : Does [.regs, .flt, .port0, .port1] s (cellError u cell t released s) := by
  unfold cellError
  repeat' (first
    | with_reducible (first
        | exact Does.refl _ _ | assumption | apply Does.ite | apply Does.step (count_does ..) | apply Does.step (event_does ..)
        | apply Does.step (raise_does ..))
    | exact fun _ h => h | exact fun h => h | exact fun _ => ⟨rfl, rfl⟩ | exact ⟨rfl, rfl⟩ | decide | intro _ _ _ | intro _ _ | split | dsimp only)

theorem readOut_does (t : Nat) (o : OutRec) (s : State) : Does [.regs, .flt, .port0, .port1, .mem] s (readOut t o s).2 := by
  unfold readOut
  repeat' (first
    | with_reducible (first
        | exact Does.refl _ _ | assumption | apply Does.ite | apply Does.step (cellError_does ..) | apply Does.step (cellsRead_does ..))
    | exact fun _ h => h | exact fun h => h | exact fun _ => ⟨rfl, rfl⟩ | exact ⟨rfl, rfl⟩ | decide | intro _ _ _ | intro _ _ | split | dsimp only)

theorem recordBlockSent_does (u : Nat) (s : State) : Does [.regs, .flt, .port0, .port1, .mem, .mrt, .streams, .uplinks] s (recordBlockSent u s) := by
  unfold recordBlockSent
  repeat' (first
    | with_reducible (first
        | exact Does.refl _ _ | assumption | apply Does.ite | apply Does.step (readOut_does ..) | apply Does.step (modStream_does ..)
        | apply Does.step (startBlock_does ..) | apply Does.step (initBoundary_does ..) | apply Does.step (throttle_does ..))
    | exact fun _ h => h | exact fun h => h | exact fun _ => ⟨rfl, rfl⟩ | exact ⟨rfl, rfl⟩ | decide | intro _ _ _ | intro _ _ | split | dsimp only)

theorem uplinkDown_does (u cause : Nat) (s : State) : Does [.regs, .flt, .port0, .port1, .mrt, .streams, .uplinks] s (uplinkDown u cause s) := by
  unfold uplinkDown
  repeat' (first
    | with_reducible (first
        | exact Does.refl _ _ | assumption | apply Does.ite | apply Does.step (cutUplink_does ..) | apply Does.step (event_does ..)
        | apply Does.step (modUplink_does ..) | apply Does.step (raise_does ..))
    | exact fun _ h => h | exact fun h => h | exact fun _ => ⟨rfl, rfl⟩ | exact ⟨rfl, rfl⟩ | decide | intro _ _ _ | intro _ _ | split | dsimp only)

theorem uplinkActive_does (u : Nat) (granted : BitVec 32) (s : State) : Does [.regs, .port0, .port1, .uplinks] s (uplinkActive u granted s) := by
  unfold uplinkActive
  repeat' (first
    | with_reducible (first
        | exact Does.refl _ _ | assumption | apply Does.ite | apply Does.step (event_does ..) | apply Does.step (modUplink_does ..))
    | exact fun _ h => h | exact fun h => h | exact fun _ => ⟨rfl, rfl⟩ | exact ⟨rfl, rfl⟩ | decide | intro _ _ _ | intro _ _ | split | dsimp only)

theorem uplCheck_does (u : Nat) (s : State) : Does [.regs, .flt, .port0, .port1, .mrt, .streams, .uplinks] s (uplCheck u s) := by
  unfold uplCheck
  repeat' (first
    | with_reducible (first
        | exact Does.refl _ _ | assumption | apply Does.ite | apply Does.step (modUplink_does ..) | apply Does.step (uplinkActive_does ..)
        | apply Does.step (uplinkDown_does ..))
    | exact fun _ h => h | exact fun h => h | exact fun _ => ⟨rfl, rfl⟩ | exact ⟨rfl, rfl⟩ | decide | intro _ _ _ | intro _ _ | split | dsimp only)

theorem uplGroupCheck_does (h : Nat) (s : State) : Does [.regs, .flt, .port0, .port1, .mrt, .streams, .uplinks] s (uplGroupCheck h s) := by
  unfold uplGroupCheck
  repeat' (first
    | with_reducible (first
        | exact Does.refl _ _ | assumption | apply Does.ite | apply Does.forN | apply Does.step (startBlocks_does ..)
        | apply Does.step (uplCheck_does ..))
    | exact fun _ h => h | exact fun h => h | exact fun _ => ⟨rfl, rfl⟩ | exact ⟨rfl, rfl⟩ | decide | intro _ _ _ | intro _ _ | split | dsimp only)

theorem uplCheckAll_does (s : State) : Does [.regs, .flt, .port0, .port1, .mrt, .streams, .uplinks] s (uplCheckAll s) := by
  unfold uplCheckAll
  repeat' (first
    | with_reducible (first
        | exact Does.refl _ _ | assumption | apply Does.ite | apply Does.forN | apply Does.step (startBlocks_does ..)
        | apply Does.step (uplCheck_does ..))
    | exact fun _ h => h | exact fun h => h | exact fun _ => ⟨rfl, rfl⟩ | exact ⟨rfl, rfl⟩ | decide | intro _ _ _ | intro _ _ | split | dsimp only)

theorem uplPllLock_does (h : Nat) (s : State) : Does [.regs, .flt, .port0, .port1, .mrt, .streams, .uplinks, .uplGroups] s (uplPllLock h s) := by
  unfold uplPllLock
  repeat' (first
    | with_reducible (first
        | exact Does.refl _ _ | assumption | apply Does.ite | apply Does.step (modUplGroup_does ..) | apply Does.step (uplGroupCheck_does ..))
    | exact fun _ h => h | exact fun h => h | exact fun _ => ⟨rfl, rfl⟩ | exact ⟨rfl, rfl⟩ | decide | intro _ _ _ | intro _ _ | split | dsimp only)

theorem uplPllUnlock_does (h : Nat) (s : State) : Does [.regs, .flt, .port0, .port1, .mrt, .streams, .uplinks, .uplGroups] s (uplPllUnlock h s) := by
  unfold uplPllUnlock
  repeat' (first
    | with_reducible (first
        | exact Does.refl _ _ | assumption | apply Does.ite | apply Does.forN | apply Does.step (event_does ..)
        | apply Does.step (modUplGroup_does ..) | apply Does.step (raise_does ..) | apply Does.step (uplGroupCheck_does ..))
    | exact fun _ h => h | exact fun h => h | exact fun _ => ⟨rfl, rfl⟩ | exact ⟨rfl, rfl⟩ | decide | intro _ _ _ | intro _ _ | split | dsimp only)

theorem uplRefHold_does (h : Nat) (s : State) : Does [.regs, .flt, .port0, .port1, .quo, .uplGroups] s (uplRefHold h s) := by
  unfold uplRefHold
  repeat' (first
    | with_reducible (first
        | exact Does.refl _ _ | assumption | apply Does.ite | apply Does.forN | apply Does.step (State.modQuo_does ..)
        | apply Does.step (event_does ..) | apply Does.step (modUplGroup_does ..) | apply Does.step (raise_does ..))
    | exact fun _ h => h | exact fun h => h | exact fun _ => ⟨rfl, rfl⟩ | exact ⟨rfl, rfl⟩ | decide | intro _ _ _ | intro _ _ | split | dsimp only)

theorem uplRefBack_does (s : State) : Does [.quo, .uplGroups] s (uplRefBack s) := by
  unfold uplRefBack
  repeat' (first
    | with_reducible (first
        | exact Does.refl _ _ | assumption | apply Does.ite | apply Does.forN | apply Does.step (State.modQuo_does ..)
        | apply Does.step (modUplGroup_does ..))
    | exact fun _ h => h | exact fun h => h | exact fun _ => ⟨rfl, rfl⟩ | exact ⟨rfl, rfl⟩ | decide | intro _ _ _ | intro _ _ | split | dsimp only)

theorem initRequestSend_does (u : Nat) (s : State) : Does [.uplinks] s (initRequestSend u s) := by
  unfold initRequestSend
  repeat' (first
    | with_reducible (first
        | exact Does.refl _ _ | assumption | apply Does.ite | apply Does.step (modUplink_does ..))
    | exact fun _ h => h | exact fun h => h | exact fun _ => ⟨rfl, rfl⟩ | exact ⟨rfl, rfl⟩ | decide | intro _ _ _ | intro _ _ | split | dsimp only)

theorem retCheck_does (r : Nat) (s : State) : Does [.retLanes] s (retCheck r s) := by
  unfold retCheck
  repeat' (first
    | with_reducible (first
        | exact Does.refl _ _ | assumption | apply Does.ite | apply Does.step (modRetLane_does ..))
    | exact fun _ h => h | exact fun h => h | exact fun _ => ⟨rfl, rfl⟩ | exact ⟨rfl, rfl⟩ | decide | intro _ _ _ | intro _ _ | split | dsimp only)

theorem rlSyncGained_does (r : Nat) (s : State) : Does [.regs, .port0, .port1, .retLanes] s (rlSyncGained r s) := by
  unfold rlSyncGained
  repeat' (first
    | with_reducible (first
        | exact Does.refl _ _ | assumption | apply Does.ite | apply Does.step (event_does ..) | apply Does.step (modRetLane_does ..))
    | exact fun _ h => h | exact fun h => h | exact fun _ => ⟨rfl, rfl⟩ | exact ⟨rfl, rfl⟩ | decide | intro _ _ _ | intro _ _ | split | dsimp only)

theorem rlSyncLost_does (r : Nat) (s : State) : Does [.regs, .flt, .port0, .port1, .retLanes] s (rlSyncLost r s) := by
  unfold rlSyncLost
  repeat' (first
    | with_reducible (first
        | exact Does.refl _ _ | assumption | apply Does.ite | apply Does.step (event_does ..) | apply Does.step (modRetLane_does ..)
        | apply Does.step (raise_does ..))
    | exact fun _ h => h | exact fun h => h | exact fun _ => ⟨rfl, rfl⟩ | exact ⟨rfl, rfl⟩ | decide | intro _ _ _ | intro _ _ | split | dsimp only)

theorem rlCodeError_does (r : Nat) (s : State) : Does [.regs] s (rlCodeError r s) := by
  unfold rlCodeError
  repeat' (first
    | with_reducible (first
        | exact Does.refl _ _ | assumption | apply Does.ite | apply Does.step (count_does ..))
    | exact fun _ h => h | exact fun h => h | exact fun _ => ⟨rfl, rfl⟩ | exact ⟨rfl, rfl⟩ | decide | intro _ _ _ | intro _ _ | split | dsimp only)

theorem creditBad_does (r : Nat) (m : BitVec 64) (s : State) : Does [.regs, .flt, .port0, .port1, .retLanes] s (creditBad r m s) := by
  unfold creditBad
  repeat' (first
    | with_reducible (first
        | exact Does.refl _ _ | assumption | apply Does.ite | apply Does.step (count_does ..) | apply Does.step (event_does ..)
        | apply Does.step (modRetLane_does ..) | apply Does.step (raise_does ..))
    | exact fun _ h => h | exact fun h => h | exact fun _ => ⟨rfl, rfl⟩ | exact ⟨rfl, rfl⟩ | decide | intro _ _ _ | intro _ _ | split | dsimp only)

theorem initFor_does (u : Nat) (g : BitVec 32) (s : State) : Does [.regs, .port0, .port1, .streams, .uplinks] s (initFor u g s) := by
  unfold initFor
  repeat' (first
    | with_reducible (first
        | exact Does.refl _ _ | assumption | apply Does.ite | apply Does.step (count_does ..) | apply Does.step (modUplink_does ..)
        | apply Does.step (startBlocks_does ..) | apply Does.step (uplinkActive_does ..))
    | exact fun _ h => h | exact fun h => h | exact fun _ => ⟨rfl, rfl⟩ | exact ⟨rfl, rfl⟩ | decide | intro _ _ _ | intro _ _ | split | dsimp only)

theorem creditFor_does (r u : Nat) (g : BitVec 32) (s : State) : Does [.regs, .port0, .port1, .streams, .uplinks] s (creditFor r u g s) := by
  unfold creditFor
  repeat' (first
    | with_reducible (first
        | exact Does.refl _ _ | assumption | apply Does.ite | apply Does.step (count_does ..) | apply Does.step (event_does ..)
        | apply Does.step (modUplink_does ..) | apply Does.step (startBlocks_does ..))
    | exact fun _ h => h | exact fun h => h | exact fun _ => ⟨rfl, rfl⟩ | exact ⟨rfl, rfl⟩ | decide | intro _ _ _ | intro _ _ | split | dsimp only)

theorem creditMessage_does (r : Nat) (m : BitVec 64) (s : State) : Does [.regs, .flt, .port0, .port1, .streams, .uplinks, .retLanes] s (creditMessage r m s) := by
  unfold creditMessage
  repeat' (first
    | with_reducible (first
        | exact Does.refl _ _ | assumption | apply Does.ite | apply Does.step (creditBad_does ..) | apply Does.step (creditFor_does ..)
        | apply Does.step (initFor_does ..))
    | exact fun _ h => h | exact fun h => h | exact fun _ => ⟨rfl, rfl⟩ | exact ⟨rfl, rfl⟩ | decide | intro _ _ _ | intro _ _ | split | dsimp only)

theorem mapConflict_does (t role u : Nat) (s : State) : Does [.regs, .flt, .port0, .port1] s (mapConflict t role u s) := by
  unfold mapConflict
  repeat' (first
    | with_reducible (first
        | exact Does.refl _ _ | assumption | apply Does.ite | apply Does.step (event_does ..) | apply Does.step (raise_does ..))
    | exact fun _ h => h | exact fun h => h | exact fun _ => ⟨rfl, rfl⟩ | exact ⟨rfl, rfl⟩ | decide | intro _ _ _ | intro _ _ | split | dsimp only)

theorem resolveMap_does (applied : List Nat) (t : Nat) (s : State) : Does [.regs, .flt, .port0, .port1, .streams] s (resolveMap applied t s) := by
  unfold resolveMap
  repeat' (first
    | with_reducible (first
        | exact Does.refl _ _ | assumption | apply Does.ite | apply Does.step (mapConflict_does ..) | apply Does.step (modStream_does ..))
    | exact fun _ h => h | exact fun h => h | exact fun _ => ⟨rfl, rfl⟩ | exact ⟨rfl, rfl⟩ | decide | intro _ _ _ | intro _ _ | split | dsimp only)

theorem resolveMaps_does (applied : List Nat) (s : State) : Does [.regs, .flt, .port0, .port1, .streams] s (resolveMaps applied s) := by
  unfold resolveMaps
  repeat' (first
    | with_reducible (first
        | exact Does.refl _ _ | assumption | apply Does.ite | apply Does.forN | apply Does.step (resolveMap_does ..))
    | exact fun _ h => h | exact fun h => h | exact fun _ => ⟨rfl, rfl⟩ | exact ⟨rfl, rfl⟩ | decide | intro _ _ _ | intro _ _ | split | dsimp only)

theorem passRole_does (t : Nat) (m : MovePending) (s : State) : Does [.btr, .regs, .flt, .port0, .port1, .streams] s (passRole t m s) := by
  unfold passRole
  repeat' (first
    | with_reducible (first
        | exact Does.refl _ _ | assumption | apply Does.ite | apply Does.step (event_does ..) | apply Does.step (modStream_does ..)
        | apply Does.step (raise_does ..) | apply Does.step (setCb_does ..))
    | exact fun _ h => h | exact fun h => h | exact fun _ => ⟨rfl, rfl⟩ | exact ⟨rfl, rfl⟩ | decide | intro _ _ _ | intro _ _ | split | dsimp only)

theorem moveStreams_does (c : Nat) (s : State) : Does [.btr, .regs, .flt, .port0, .port1, .streams] s (moveStreams c s) := by
  unfold moveStreams
  repeat' (first
    | with_reducible (first
        | exact Does.refl _ _ | assumption | apply Does.ite | apply Does.forL | apply Does.step (passRole_does ..))
    | exact fun _ h => h | exact fun h => h | exact fun _ => ⟨rfl, rfl⟩ | exact ⟨rfl, rfl⟩ | decide | intro _ _ _ | intro _ _ | split | dsimp only)

theorem dueSummary_does (t : Nat) (o : OutRec) (s : State) : Does [.regs, .port0, .port1, .streams, .uplinks] s (dueSummary t o s) := by
  unfold dueSummary
  repeat' (first
    | with_reducible (first
        | exact Does.refl _ _ | assumption | apply Does.ite | apply Does.step (count_does ..) | apply Does.step (modStream_does ..)
        | apply Does.step (startBlock_does ..))
    | exact fun _ h => h | exact fun h => h | exact fun _ => ⟨rfl, rfl⟩ | exact ⟨rfl, rfl⟩ | decide | intro _ _ _ | intro _ _ | split | dsimp only)

theorem dueBeacon_does (t : Nat) (o : OutRec) (s : State) : Does [.regs, .port0, .port1, .streams, .uplinks] s (dueBeacon t o s) := by
  unfold dueBeacon
  repeat' (first
    | with_reducible (first
        | exact Does.refl _ _ | assumption | apply Does.ite | apply Does.step (count_does ..) | apply Does.step (modStream_does ..)
        | apply Does.step (startBlock_does ..))
    | exact fun _ h => h | exact fun h => h | exact fun _ => ⟨rfl, rfl⟩ | exact ⟨rfl, rfl⟩ | decide | intro _ _ _ | intro _ _ | split | dsimp only)

theorem courseSummaries_does (c records : Nat) (s : State) : Does [.regs, .port0, .port1, .streams, .uplinks] s (courseSummaries c records s) := by
  unfold courseSummaries
  repeat' (first
    | with_reducible (first
        | exact Does.refl _ _ | assumption | apply Does.ite | apply Does.forN | apply Does.step (dueSummary_does ..))
    | exact fun _ h => h | exact fun h => h | exact fun _ => ⟨rfl, rfl⟩ | exact ⟨rfl, rfl⟩ | decide | intro _ _ _ | intro _ _ | split | dsimp only)

theorem statusBeacons_does (c : Nat) (s : State) : Does [.regs, .port0, .port1, .streams, .uplinks] s (statusBeacons c s) := by
  unfold statusBeacons
  repeat' (first
    | with_reducible (first
        | exact Does.refl _ _ | assumption | apply Does.ite | apply Does.forN | apply Does.step (dueBeacon_does ..))
    | exact fun _ h => h | exact fun h => h | exact fun _ => ⟨rfl, rfl⟩ | exact ⟨rfl, rfl⟩ | decide | intro _ _ _ | intro _ _ | split | dsimp only)

theorem releaseShort_does (s : State) : Does [.regs, .flt, .port0, .port1, .ring] s (releaseShort s) := by
  unfold releaseShort
  repeat' (first
    | with_reducible (first
        | exact Does.refl _ _ | assumption | apply Does.ite | apply Does.forN | apply Does.step (earlyRelease_does ..))
    | exact fun _ h => h | exact fun h => h | exact fun _ => ⟨rfl, rfl⟩ | exact ⟨rfl, rfl⟩ | decide | intro _ _ _ | intro _ _ | split | dsimp only)

theorem indexPublish_does (s : State) : Does [.regs, .flt, .port0, .port1, .ring, .qry, .hbm, .streams, .uplinks] s (indexPublish s) := by
  unfold indexPublish
  repeat' (first
    | with_reducible (first
        | exact Does.refl _ _ | assumption | apply Does.ite | apply Does.foldl | apply Does.foldl1 | apply Does.foldl2 | apply Does.foldl22
        | apply Does.step (courseSummaries_does ..) | apply Does.step (publish_does ..) | apply Does.step (releaseShort_does ..))
    | exact fun _ h => h | exact fun h => h | exact fun _ => ⟨rfl, rfl⟩ | exact ⟨rfl, rfl⟩ | decide | intro _ _ _ | intro _ _ | split | dsimp only)

theorem uplStop_does (s : State) : Does [.regs, .flt, .port0, .port1, .mrt, .streams, .uplinks] s (uplStop s) := by
  unfold uplStop
  repeat' (first
    | with_reducible (first
        | exact Does.refl _ _ | assumption | apply Does.ite | apply Does.forN | apply Does.step (cutUplink_does ..))
    | exact fun _ h => h | exact fun h => h | exact fun _ => ⟨rfl, rfl⟩ | exact ⟨rfl, rfl⟩ | decide | intro _ _ _ | intro _ _ | split | dsimp only)

/-! ### Plumb -/

theorem State.modPlb_does (f : Plumb → Plumb) (s : State) (hf : ∀ y, y.queue.length ≤ 256 → (f y).queue.length ≤ 256)
    (hr : ∀ y, Rises y.slots → Rises (f y).slots) : Does [.plb] s (s.modPlb f) :=
  Does.put_plb (by decide) (hf _) (hr _) (Does.refl _ _)

theorem modSlot_does (n : Nat) (f : PlbSlot → PlbSlot) (s : State) : Does [.plb] s (modSlot n f s) := by
  unfold modSlot
  repeat' (first
    | with_reducible (first
        | exact Does.refl _ _ | assumption | apply Does.ite | apply Does.step (State.modPlb_does ..))
    | exact fun _ h => h | exact fun h => h | exact fun _ => ⟨rfl, rfl⟩ | exact ⟨rfl, rfl⟩ | (intro _ h; repeat' (first | assumption | exact h.1 | exact h.2 | exact h.2.1 | exact h.2.2 | with_reducible apply rises_put | with_reducible apply rises_upd | apply rises_filter | apply rises_map | exact fun _ => rfl | (intro _; split <;> rfl) | constructor)) | decide | intro _ _ _ | intro _ _ | split | dsimp only)

theorem plbStoreError_does (b : Nat) (s : State) : Does [.plb] s (plbStoreError b s) := by
  unfold plbStoreError
  repeat' (first
    | with_reducible (first
        | exact Does.refl _ _ | assumption | apply Does.ite | apply Does.step (State.modPlb_does ..))
    | exact fun _ h => h | exact fun h => h | exact fun _ => ⟨rfl, rfl⟩ | exact ⟨rfl, rfl⟩ | decide | intro _ _ _ | intro _ _ | split | dsimp only)

theorem plbStoreRead_does (s : State) : Does [.regs, .flt, .port0, .port1, .mem, .plb] s (plbStoreRead s) := by
  unfold plbStoreRead
  repeat' (first
    | with_reducible (first
        | exact Does.refl _ _ | assumption | apply Does.ite | apply Does.eccVisit (by decide) | apply Does.step (plbStoreError_does ..))
    | exact fun _ h => h | exact fun h => h | exact fun _ => ⟨rfl, rfl⟩ | exact ⟨rfl, rfl⟩ | decide | intro _ _ _ | intro _ _ | split | dsimp only)

theorem plbHold_does (s : State) : Does [.regs, .port0, .port1, .plb] s (plbHold s) := by
  unfold plbHold
  repeat' (first
    | with_reducible (first
        | exact Does.refl _ _ | assumption | apply Does.ite | apply Does.step (State.modPlb_does ..) | apply Does.step (event_does ..))
    | exact fun _ h => h | exact fun h => h | exact fun _ => ⟨rfl, rfl⟩ | exact ⟨rfl, rfl⟩ | decide | intro _ _ _ | intro _ _ | split | dsimp only)

theorem plbStore_does (r : PlbRec) (s : State) : Does [.mem, .plb] s (plbStore r s) := by
  unfold plbStore
  repeat' (first
    | with_reducible (first
        | exact Does.refl _ _ | assumption | apply Does.ite | apply Does.step (eccWrites_does ..)
        | apply Does.step (State.modPlb_does ..))
    | exact fun _ h => h | exact fun h => h | exact fun _ => ⟨rfl, rfl⟩ | exact ⟨rfl, rfl⟩ | decide | intro _ _ _ | intro _ _ | split | dsimp only)

theorem plbFull_does (tag lost : Nat) (s : State) : Does [.regs, .flt, .port0, .port1, .mem, .plb] s (plbFull tag lost s) := by
  unfold plbFull
  repeat' (first
    | with_reducible (first
        | exact Does.refl _ _ | assumption | apply Does.ite | apply Does.step (plbStore_does ..) | apply Does.step (plbHold_does ..)
        | apply Does.step (raise_does ..) | apply Does.step (event_does ..) | apply Does.step (State.modPlb_does ..))
    | exact fun _ h => h | exact fun h => h | exact fun _ => ⟨rfl, rfl⟩ | exact ⟨rfl, rfl⟩ | decide | intro _ _ _ | intro _ _ | split | dsimp only)

theorem plbPut_does (r : PlbRec) (s : State) : Does [.regs, .flt, .port0, .port1, .mem, .plb] s (plbPut r s) := by
  unfold plbPut
  repeat' (first
    | with_reducible (first
        | exact Does.refl _ _ | assumption | apply Does.ite | apply Does.step (plbFull_does ..) | apply Does.step (plbStore_does ..)
        | apply Does.step (State.modPlb_does ..))
    | exact fun _ h => h | exact fun h => h | exact fun _ => ⟨rfl, rfl⟩ | exact ⟨rfl, rfl⟩ | decide | intro _ _ _ | intro _ _ | split | dsimp only)

theorem plbDrainOne_does (s : State) : Does [.regs, .flt, .port0, .port1, .mem, .plb] s (plbDrainOne s) := by
  unfold plbDrainOne
  dsimp only
  split
  · exact Does.step (plbPut_does ..) (by decide) (Does.step (State.modPlb_does _ s (fun _ h => h) (fun _ h => h)) (by decide) (Does.refl _ _))
  · split
    · rename_i h
      refine Does.step (plbPut_does ..) (by decide) (Does.put_plb (x := s) (by decide) (fun k => ?_) (fun h => h) (Does.refl _ _))
      rw [h, List.length_cons] at k
      exact Nat.le_of_succ_le k
    · exact Does.refl _ _

theorem plbDrain_does (n : Nat) (s : State) : Does [.regs, .flt, .port0, .port1, .mem, .plb] s (plbDrain n s) := by
  unfold plbDrain
  repeat' (first
    | with_reducible (first
        | exact Does.refl _ _ | assumption | apply Does.ite | apply Does.times | apply Does.step (plbDrainOne_does ..))
    | exact fun _ h => h | exact fun h => h | exact fun _ => ⟨rfl, rfl⟩ | exact ⟨rfl, rfl⟩ | decide | intro _ _ _ | intro _ _ | split | dsimp only)

theorem plbDrainAll_does (s : State) : Does [.regs, .flt, .port0, .port1, .mem, .plb] s (plbDrainAll s) := by
  unfold plbDrainAll
  repeat' (first
    | with_reducible (first
        | exact Does.refl _ _ | assumption | apply Does.ite | apply Does.step (plbDrain_does ..))
    | exact fun _ h => h | exact fun h => h | exact fun _ => ⟨rfl, rfl⟩ | exact ⟨rfl, rfl⟩ | decide | intro _ _ _ | intro _ _ | split | dsimp only)

theorem plbInsert_length (r : PlbRec) (l : List PlbRec) : (plbInsert r l).length = l.length + 1 := by
  unfold plbInsert
  dsimp only
  have : (plbPassed (plbTagged r l) l).length ≤ l.length := by
    unfold plbPassed
    rw [List.length_reverse, ← List.length_reverse (as := l)]; exact (List.takeWhile_prefix _).length_le
  rw [List.length_append, List.length_cons, List.length_take]
  omega

theorem plbEnqueue_does (r : PlbRec) (s : State) : Does [.regs, .port0, .port1, .plb] s (plbEnqueue r s) := by
  unfold plbEnqueue
  split
  · split
    · refine Does.put_plb (x := s) (by decide) (fun _ => ?_) (fun h => h) (Does.refl _ _)
      rw [plbInsert_length]; omega
    · exact Does.step (count_does ..) (by decide) (Does.step (event_does ..) (by decide)
        (Does.step (State.modPlb_does _ s (fun _ h => h) (fun _ h => h)) (by decide) (Does.refl _ _)))
  · exact Does.refl _ _

theorem plbRecord_does (n : Nat) (x : PlbSample) (initial : Bool) (s : State) : Does [.regs, .port0, .port1, .plb] s (plbRecord n x initial s) := by
  unfold plbRecord
  repeat' (first
    | with_reducible (first
        | exact Does.refl _ _ | assumption | apply Does.ite | apply Does.step (plbEnqueue_does ..) | apply Does.step (modSlot_does ..))
    | exact fun _ h => h | exact fun h => h | exact fun _ => ⟨rfl, rfl⟩ | exact ⟨rfl, rfl⟩ | decide | intro _ _ _ | intro _ _ | split | dsimp only)

theorem plbInitial_does (n : Nat) (s : State) : Does [.regs, .port0, .port1, .plb] s (plbInitial n s) := by
  unfold plbInitial
  repeat' (first
    | with_reducible (first
        | exact Does.refl _ _ | assumption | apply Does.ite | apply Does.step (plbRecord_does ..))
    | exact fun _ h => h | exact fun h => h | exact fun _ => ⟨rfl, rfl⟩ | exact ⟨rfl, rfl⟩ | decide | intro _ _ _ | intro _ _ | split | dsimp only)

theorem plbDisarm_does (s : State) : Does [.plb] s (plbDisarm s) := by
  unfold plbDisarm
  repeat' (first
    | with_reducible (first
        | exact Does.refl _ _ | assumption | apply Does.ite | apply Does.step (State.modPlb_does ..))
    | exact fun _ h => h | exact fun h => h | exact fun _ => ⟨rfl, rfl⟩ | exact ⟨rfl, rfl⟩ | decide | intro _ _ _ | intro _ _ | split | dsimp only)

theorem plbMiss_does (tag : Nat) (s : State) : Does [.regs, .flt, .port0, .port1, .plb] s (plbMiss tag s) := by
  unfold plbMiss
  repeat' (first
    | with_reducible (first
        | exact Does.refl _ _ | assumption | apply Does.ite | apply Does.step (count_does ..) | apply Does.step (event_does ..)
        | apply Does.step (State.modPlb_does ..) | apply Does.step (raise_does ..))
    | exact fun _ h => h | exact fun h => h | exact fun _ => ⟨rfl, rfl⟩ | exact ⟨rfl, rfl⟩ | decide | intro _ _ _ | intro _ _ | split | dsimp only)

theorem plbTake_does (origin back tag : Nat) (s : State) : Does [.regs, .flt, .port0, .port1, .mem, .plb] s (plbTake origin back tag s) := by
  unfold plbTake
  repeat' (first
    | with_reducible (first
        | exact Does.refl _ _ | assumption | apply Does.ite | apply Does.step (plbDrainAll_does ..) | apply Does.step (plbMiss_does ..)
        | apply Does.step (event_does ..) | apply Does.step (State.modPlb_does ..) | apply Does.step (plbPut_does ..)
        | apply Does.step (plbStore_does ..))
    | exact fun _ h => h | exact fun h => h | exact fun _ => ⟨rfl, rfl⟩ | exact ⟨rfl, rfl⟩ | decide | intro _ _ _ | intro _ _ | split | dsimp only)

theorem plbArm_does (s : State) : Does [.regs, .flt, .port0, .port1, .mem, .plb] s (plbArm s) := by
  unfold plbArm
  repeat' (first
    | with_reducible (first
        | exact Does.refl _ _ | assumption | apply Does.ite | apply Does.forN | apply Does.step (event_does ..)
        | apply Does.step (State.modPlb_does ..) | apply Does.step (plbInitial_does ..) | apply Does.step (plbTake_does ..))
    | exact fun _ h => h | exact fun h => h | exact fun _ => ⟨rfl, rfl⟩ | exact ⟨rfl, rfl⟩ | (intro _ (h : Rises _); repeat' (first | assumption | exact h.1 | exact h.2 | exact h.2.1 | exact h.2.2 | with_reducible apply rises_put | with_reducible apply rises_upd | apply rises_filter | apply rises_map | exact fun _ => rfl | rfl | (intro _; split <;> rfl) | constructor)) | decide | intro _ _ _ | intro _ _ | split | dsimp only)

theorem plbJoin_does (f : PlbFire) (origin back : Nat) (s : State) : Does [.plb] s (plbJoin f origin back s) := by
  unfold plbJoin
  repeat' (first
    | with_reducible (first
        | exact Does.refl _ _ | assumption | apply Does.ite | apply Does.step (State.modPlb_does ..))
    | exact fun _ h => h | exact fun h => h | exact fun _ => ⟨rfl, rfl⟩ | exact ⟨rfl, rfl⟩ | decide | intro _ _ _ | intro _ _ | split | dsimp only)

theorem plbWait_does (origin back tag : Nat) (s : State) : Does [.plb] s (plbWait origin back tag s) := by
  unfold plbWait
  repeat' (first
    | with_reducible (first
        | exact Does.refl _ _ | assumption | apply Does.ite | apply Does.step (State.modPlb_does ..))
    | exact fun _ h => h | exact fun h => h | exact fun _ => ⟨rfl, rfl⟩ | exact ⟨rfl, rfl⟩ | decide | intro _ _ _ | intro _ _ | split | dsimp only)

theorem plbFire_does (origin back tag : Nat) (s : State) : Does [.regs, .flt, .port0, .port1, .mem, .plb] s (plbFire origin back tag s) := by
  unfold plbFire
  repeat' (first
    | with_reducible (first
        | exact Does.refl _ _ | assumption | apply Does.ite | apply Does.step (plbWait_does ..) | apply Does.step (plbJoin_does ..)
        | apply Does.step (plbTake_does ..) | apply Does.step (plbMiss_does ..))
    | exact fun _ h => h | exact fun h => h | exact fun _ => ⟨rfl, rfl⟩ | exact ⟨rfl, rfl⟩ | decide | intro _ _ _ | intro _ _ | split | dsimp only)

theorem plbFireEdge_does (s : State) : Does [.regs, .flt, .port0, .port1, .mem, .plb] s (plbFireEdge s) := by
  unfold plbFireEdge
  repeat' (first
    | with_reducible (first
        | exact Does.refl _ _ | assumption | apply Does.ite | apply Does.step (State.modPlb_does ..) | apply Does.step (plbFire_does ..))
    | exact fun _ h => h | exact fun h => h | exact fun _ => ⟨rfl, rfl⟩ | exact ⟨rfl, rfl⟩ | decide | intro _ _ _ | intro _ _ | split | dsimp only)

theorem plbFireRelease_does (s : State) : Does [.plb] s (plbFireRelease s) := by
  unfold plbFireRelease
  repeat' (first
    | with_reducible (first
        | exact Does.refl _ _ | assumption | apply Does.ite | apply Does.step (State.modPlb_does ..))
    | exact fun _ h => h | exact fun h => h | exact fun _ => ⟨rfl, rfl⟩ | exact ⟨rfl, rfl⟩ | decide | intro _ _ _ | intro _ _ | split | dsimp only)

theorem plbArmEdge_does (s : State) : Does [.regs, .flt, .port0, .port1, .mem, .plb] s (plbArmEdge s) := by
  unfold plbArmEdge
  repeat' (first
    | with_reducible (first
        | exact Does.refl _ _ | assumption | apply Does.ite | apply Does.step (State.modPlb_does ..) | apply Does.step (plbArm_does ..))
    | exact fun _ h => h | exact fun h => h | exact fun _ => ⟨rfl, rfl⟩ | exact ⟨rfl, rfl⟩ | decide | intro _ _ _ | intro _ _ | split | dsimp only)

theorem plbPostDone_does (s : State) : Does [.regs, .flt, .port0, .port1, .mem, .plb] s (plbPostDone s) := by
  unfold plbPostDone
  repeat' (first
    | with_reducible (first
        | exact Does.refl _ _ | assumption | apply Does.ite | apply Does.step (plbDrainAll_does ..) | apply Does.step (plbHold_does ..))
    | exact fun _ h => h | exact fun h => h | exact fun _ => ⟨rfl, rfl⟩ | exact ⟨rfl, rfl⟩ | decide | intro _ _ _ | intro _ _ | split | dsimp only)

theorem plbCtlWrite_does (w : Word) (s : State) : Does [.regs, .flt, .port0, .port1, .mem, .plb] s (plbCtlWrite w s) := by
  unfold plbCtlWrite
  repeat' (first
    | with_reducible (first
        | exact Does.refl _ _ | assumption | apply Does.ite | apply Does.step (setCell_does ..) | apply Does.step (plbDisarm_does ..)
        | apply Does.step (plbArm_does ..) | apply Does.step (plbFire_does ..))
    | exact fun _ h => h | exact fun h => h | exact fun _ => ⟨rfl, rfl⟩ | exact ⟨rfl, rfl⟩ | decide | intro _ _ _ | intro _ _ | split | dsimp only)

theorem plbThresholds_does (n : Nat) (x : PlbSample) (s : State) : Does [.regs, .flt, .port0, .port1, .mem, .plb] s (plbThresholds n x s) := by
  unfold plbThresholds
  repeat' (first
    | with_reducible (first
        | exact Does.refl _ _ | assumption | apply Does.ite | apply Does.step (modSlot_does ..) | apply Does.step (plbFire_does ..))
    | exact fun _ h => h | exact fun h => h | exact fun _ => ⟨rfl, rfl⟩ | exact ⟨rfl, rfl⟩ | decide | intro _ _ _ | intro _ _ | split | dsimp only)

theorem plbChange_does (n : Nat) (level : Bool) (s : State) : Does [.regs, .flt, .port0, .port1, .mem, .plb] s (plbChange n level s) := by
  unfold plbChange
  repeat' (first
    | with_reducible (first
        | exact Does.refl _ _ | assumption | apply Does.ite | apply Does.step (State.modPlb_does ..)
        | apply Does.step (plbRecord_does ..) | apply Does.step (plbThresholds_does ..))
    | exact fun _ h => h | exact fun h => h | exact fun _ => ⟨rfl, rfl⟩ | exact ⟨rfl, rfl⟩ | decide | intro _ _ _ | intro _ _ | split | dsimp only)

theorem plbSigWritten_does (n : Nat) (old : Word) (s : State) : Does [.regs, .port0, .port1, .plb] s (plbSigWritten n old s) := by
  unfold plbSigWritten
  repeat' (first
    | with_reducible (first
        | exact Does.refl _ _ | assumption | apply Does.ite | apply Does.step (modSlot_does ..) | apply Does.step (plbInitial_does ..))
    | exact fun _ h => h | exact fun h => h | exact fun _ => ⟨rfl, rfl⟩ | exact ⟨rfl, rfl⟩ | decide | intro _ _ _ | intro _ _ | split | dsimp only)

theorem plbOff_does (s : State) : Does [.plb] s (plbOff s) := by
  unfold plbOff
  repeat' (first
    | with_reducible (first
        | exact Does.refl _ _ | assumption | apply Does.ite | apply Does.step (State.modPlb_does ..))
    | exact fun _ h => h | exact fun h => h | exact fun _ => ⟨rfl, rfl⟩ | exact ⟨rfl, rfl⟩ | decide | intro _ _ _ | intro _ _ | split | dsimp only)

theorem plbIsolated_does (s : State) : Does [.plb] s (plbIsolated s) := by
  unfold plbIsolated
  repeat' (first
    | with_reducible (first
        | exact Does.refl _ _ | assumption | apply Does.ite | apply Does.step (State.modPlb_does ..))
    | exact fun _ h => h | exact fun h => h | exact fun _ => ⟨rfl, rfl⟩ | exact ⟨rfl, rfl⟩ | decide | intro _ _ _ | intro _ _ | split | dsimp only)

theorem plbReturn_does (s : State) : Does [.regs, .flt, .port0, .port1, .mem, .plb] s (plbReturn s) := by
  unfold plbReturn
  repeat' (first
    | with_reducible (first
        | exact Does.refl _ _ | assumption | apply Does.ite | apply Does.step (State.modPlb_does ..)
        | apply Does.step (plbDrainAll_does ..) | apply Does.step (plbPut_does ..))
    | exact fun _ h => h | exact fun h => h | exact fun _ => ⟨rfl, rfl⟩ | exact ⟨rfl, rfl⟩ | (intro _ (h : Rises _); repeat' (first | assumption | exact h.1 | exact h.2 | exact h.2.1 | exact h.2.2 | with_reducible apply rises_put | with_reducible apply rises_upd | apply rises_filter | apply rises_map | exact fun _ => rfl | rfl | (intro _; split <;> rfl) | constructor)) | decide | intro _ _ _ | intro _ _ | split | dsimp only)

theorem plbReadDone_does (s : State) : Does [.plb] s (plbReadDone s) := by
  unfold plbReadDone
  repeat' (first
    | with_reducible (first
        | exact Does.refl _ _ | assumption | apply Does.ite | apply Does.step (State.modPlb_does ..))
    | exact fun _ h => h | exact fun h => h | exact fun _ => ⟨rfl, rfl⟩ | exact ⟨rfl, rfl⟩ | decide | intro _ _ _ | intro _ _ | split | dsimp only)

/-! ### Faults -/

theorem modSrc_does (n : Nat) (f : SrcState → SrcState) (s : State) : Does [.flt] s (modSrc n f s) := by
  unfold modSrc
  repeat' (first
    | with_reducible (first
        | exact Does.refl _ _ | assumption | apply Does.ite | apply Does.step (State.modFlt_does ..))
    | exact fun _ h => h | exact fun h => h | exact fun _ => ⟨rfl, rfl⟩ | exact ⟨rfl, rfl⟩ | (intro _ h; repeat' (first | assumption | exact h.1 | exact h.2 | exact h.2.1 | exact h.2.2 | with_reducible apply rises_put | with_reducible apply rises_upd | apply rises_filter | apply rises_map | exact fun _ => rfl | (intro _; split <;> rfl) | constructor)) | decide | intro _ _ _ | intro _ _ | split | dsimp only)

theorem settleSource_does (n : Nat) (s : State) : Does [.flt] s (settleSource n s) := by
  unfold settleSource
  repeat' (first
    | with_reducible (first
        | exact Does.refl _ _ | assumption | apply Does.ite | apply Does.step (modSrc_does ..))
    | exact fun _ h => h | exact fun h => h | exact fun _ => ⟨rfl, rfl⟩ | exact ⟨rfl, rfl⟩ | decide | intro _ _ _ | intro _ _ | split | dsimp only)

theorem logError_does (b : Nat) (s : State) : Does [.flt] s (logError b s) := by
  unfold logError
  repeat' (first
    | with_reducible (first
        | exact Does.refl _ _ | assumption | apply Does.ite | apply Does.step (State.modFlt_does ..))
    | exact fun _ h => h | exact fun h => h | exact fun _ => ⟨rfl, rfl⟩ | exact ⟨rfl, rfl⟩ | (rw [List.length_map]; assumption) | decide | intro _ _ _ | intro _ _ | split | dsimp only)

theorem logRead_does (p seq : Nat) (s : State) : Does [.regs, .flt, .port0, .port1, .mem] s (logRead p seq s) := by
  unfold logRead
  repeat' (first
    | with_reducible (first
        | exact Does.refl _ _ | assumption | apply Does.ite | apply Does.eccVisit (by decide) | apply Does.step (logError_does ..))
    | exact fun _ h => h | exact fun h => h | exact fun _ => ⟨rfl, rfl⟩ | exact ⟨rfl, rfl⟩ | decide | intro _ _ _ | intro _ _ | split | dsimp only)

theorem removeFirst_length {α : Type} {p : α → Bool} {l : List α} {x : α} {r : List α} (h : removeFirst p l = some (x, r)) :
    l.length = r.length + 1 := by
  induction l generalizing x r with
  | nil => cases h
  | cons a t ih =>
    rw [removeFirst] at h
    split at h
    · cases h; rfl
    · cases ht : removeFirst p t with
      | none => rw [ht] at h; cases h
      | some y =>
        rw [ht] at h
        cases h
        rw [List.length_cons, List.length_cons, ih ht]

theorem logRoom_length {l r : List LogEntry} {o : Option LogEntry} (hl : l.length ≤ 1024) (h : logRoom l = some (o, r)) : r.length < 1024 := by
  unfold logRoom at h
  split at h
  · cases h; assumption
  · split at h
    · rename_i e; cases h; have := removeFirst_length e; omega
    · cases hr : removeFirst (fun e => e.level == 0) l with
      | none => rw [hr] at h; cases h
      | some y => rw [hr] at h; cases h; have := removeFirst_length hr; omega

theorem logPut_does (e : LogEntry) (s : State) : Does [.flt, .mem] s (logPut e s).1 := by
  unfold logPut
  split
  · rename_i out l h
    have hf : (eccWrites 10 0 (logBlock e.seq) 8 s).flt = s.flt := (eccWrites_does ..).only.same .flt (by decide)
    have k : Does [.flt, .mem] s ((eccWrites 10 0 (logBlock e.seq) 8 s).modFlt fun f =>
        { f with log := l ++ [{ e with dropped := f.droppedRun }], newestSeq := e.seq, droppedRun := 0 }) :=
      Does.put_flt (by decide) (fun hl => by rw [hf] at hl; rw [List.length_append]; exact logRoom_length hl h) (fun r => r)
        (Does.step (eccWrites_does ..) (by decide) (Does.refl _ _))
    dsimp only
    generalize ((eccWrites 10 0 (logBlock e.seq) 8 s).modFlt _) = t at k ⊢
    split
    · split
      · exact k
      · exact Does.step (settleSource_does ..) (by decide) k
    · exact k
  · exact Does.refl _ _

theorem logLost_does (s : State) : Does [.regs, .flt, .port0, .port1] s (logLost s) := by
  unfold logLost
  repeat' (first
    | with_reducible (first
        | exact Does.refl _ _ | assumption | apply Does.ite | apply Does.step (count_does ..) | apply Does.step (State.modFlt_does ..)
        | apply Does.step (event_does ..))
    | exact fun _ h => h | exact fun h => h | exact fun _ => ⟨rfl, rfl⟩ | exact ⟨rfl, rfl⟩ | decide | intro _ _ _ | intro _ _ | split | dsimp only)

theorem openShadow_does (t : Target) (r : Report) (s : State) : Does [.flt] s (openShadow t r s) := by
  unfold openShadow
  repeat' (first
    | with_reducible (first
        | exact Does.refl _ _ | assumption | apply Does.ite | apply Does.step (State.modFlt_does ..))
    | exact fun _ h => h | exact fun h => h | exact fun _ => ⟨rfl, rfl⟩ | exact ⟨rfl, rfl⟩ | decide | intro _ _ _ | intro _ _ | split | dsimp only)

theorem actCritical_does (r : Report) (seq : Nat) (logged : Bool) (s : State) : Does [.flt, .cns] s (actCritical r seq logged s) := by
  unfold actCritical
  repeat' (first
    | with_reducible (first
        | exact Does.refl _ _ | assumption | apply Does.ite | apply Does.step (State.modFlt_does ..) | apply Does.step (cnsCritical_does ..))
    | exact fun _ h => h | exact fun h => h | exact fun _ => ⟨rfl, rfl⟩ | exact ⟨rfl, rfl⟩ | decide | intro _ _ _ | intro _ _ | split | dsimp only)

theorem logConsequential_does (r : Report) (s : State) : Does [.regs, .flt, .port0, .port1, .mem, .cns] s (logConsequential r s) := by
  unfold logConsequential
  repeat' (first
    | with_reducible (first
        | exact Does.refl _ _ | assumption | apply Does.ite | apply Does.step (cnsSwitchLogged_does ..) | apply Does.step (logLost_does ..)
        | apply Does.step (logPut_does ..) | apply Does.step (modSrc_does ..))
    | exact fun _ h => h | exact fun h => h | exact fun _ => ⟨rfl, rfl⟩ | exact ⟨rfl, rfl⟩ | decide | intro _ _ _ | intro _ _ | split | dsimp only)

theorem logPrimary_does (r : Report) (s : State) : Does [.regs, .flt, .port0, .port1, .mem, .plb, .cns] s (logPrimary r s) := by
  unfold logPrimary
  repeat' (first
    | with_reducible (first
        | exact Does.refl _ _ | assumption | apply Does.ite | apply Does.step (logPut_does ..)
        | apply Does.step (cnsSwitchLogged_does ..) | apply Does.step (logLost_does ..) | apply Does.step (modSrc_does ..)
        | apply Does.step (event_does ..) | apply Does.step (signal_does ..) | apply Does.step (openShadow_does ..)
        | apply Does.step (actCritical_does ..) | apply Does.step (plbFire_does ..))
    | exact fun _ h => h | exact fun h => h | exact fun _ => ⟨rfl, rfl⟩ | exact ⟨rfl, rfl⟩ | decide | intro _ _ _ | intro _ _ | split | dsimp only)

theorem logReport_does (r : Report) (s : State) : Does [.regs, .flt, .port0, .port1, .mem, .plb, .cns] s (logReport r s) := by
  unfold logReport
  repeat' (first
    | with_reducible (first
        | exact Does.refl _ _ | assumption | apply Does.ite | apply Does.step (logConsequential_does ..)
        | apply Does.step (logPrimary_does ..))
    | exact fun _ h => h | exact fun h => h | exact fun _ => ⟨rfl, rfl⟩ | exact ⟨rfl, rfl⟩ | decide | intro _ _ _ | intro _ _ | split | dsimp only)

theorem logWaiting_does (s : State) : Does [.regs, .flt, .port0, .port1, .mem, .plb, .cns] s (logWaiting s) := by
  unfold logWaiting
  repeat' (first
    | with_reducible (first
        | exact Does.refl _ _ | assumption | apply Does.ite | apply Does.step (State.modFlt_does ..) | apply Does.step (logReport_does ..))
    | exact fun _ h => h | exact fun h => h | exact fun _ => ⟨rfl, rfl⟩ | exact ⟨rfl, rfl⟩ | decide | intro _ _ _ | intro _ _ | split | dsimp only)

theorem faultReport_does (i : Nat) (s : State) : Does [.flt] s (faultReport i s) := by
  unfold faultReport
  repeat' (first
    | with_reducible (first
        | exact Does.refl _ _ | assumption | apply Does.ite | apply Does.step (State.modFlt_does ..))
    | exact fun _ h => h | exact fun h => h | exact fun _ => ⟨rfl, rfl⟩ | exact ⟨rfl, rfl⟩ | decide | intro _ _ _ | intro _ _ | split | dsimp only)

theorem faultLog_does (s : State) : Does [.regs, .flt, .port0, .port1, .mem, .plb, .cns] s (faultLog s) := by
  unfold faultLog
  repeat' (first
    | with_reducible (first
        | exact Does.refl _ _ | assumption | apply Does.ite | apply Does.step (State.modFlt_does ..) | apply Does.step (logReport_does ..)
        | apply Does.step (logWaiting_does ..))
    | exact fun _ h => h | exact fun h => h | exact fun _ => ⟨rfl, rfl⟩ | exact ⟨rfl, rfl⟩ | decide | intro _ _ _ | intro _ _ | split | dsimp only)

theorem shadowClose_does (s : State) : Does [.regs, .flt, .port0, .port1, .mem, .plb, .cns] s (shadowClose s) := by
  unfold shadowClose
  repeat' (first
    | with_reducible (first
        | exact Does.refl _ _ | assumption | apply Does.ite | apply Does.step (State.modFlt_does ..))
    | exact fun _ h => h | exact fun h => h | exact fun _ => ⟨rfl, rfl⟩ | exact ⟨rfl, rfl⟩ | decide | intro _ _ _ | intro _ _ | split | dsimp only)

theorem quietRecovery_does (n : Nat) (s : State) : Does [.regs, .flt, .port0, .port1] s (quietRecovery n s) := by
  unfold quietRecovery
  repeat' (first
    | with_reducible (first
        | exact Does.refl _ _ | assumption | apply Does.ite | apply Does.step (event_does ..) | apply Does.step (modSrc_does ..))
    | exact fun _ h => h | exact fun h => h | exact fun _ => ⟨rfl, rfl⟩ | exact ⟨rfl, rfl⟩ | decide | intro _ _ _ | intro _ _ | split | dsimp only)

theorem ackWhere_does (p : LogEntry → Bool) (s : State) : Does [.regs, .flt, .port0, .port1, .mem, .plb, .cns] s (ackWhere p s) := by
  unfold ackWhere
  repeat' (first
    | with_reducible (first
        | exact Does.refl _ _ | assumption | apply Does.ite | apply Does.forL | apply Does.step (State.modFlt_does ..)
        | apply Does.step (logWaiting_does ..) | apply Does.step (settleSource_does ..))
    | exact fun _ h => h | exact fun h => h | exact fun _ => ⟨rfl, rfl⟩ | exact ⟨rfl, rfl⟩ | (rw [List.length_map]; assumption) | decide | intro _ _ _ | intro _ _ | split | dsimp only)

theorem fltAckWrite_does (w : Word) (s : State) : Does [.regs, .flt, .port0, .port1, .mem, .plb, .cns] s (fltAckWrite w s) := by
  unfold fltAckWrite
  repeat' (first
    | with_reducible (first
        | exact Does.refl _ _ | assumption | apply Does.ite | apply Does.step (ackWhere_does ..))
    | exact fun _ h => h | exact fun h => h | exact fun _ => ⟨rfl, rfl⟩ | exact ⟨rfl, rfl⟩ | decide | intro _ _ _ | intro _ _ | split | dsimp only)

theorem fltAckUptoWrite_does (w : Word) (s : State) : Does [.regs, .flt, .port0, .port1, .mem, .plb, .cns] s (fltAckUptoWrite w s) := by
  unfold fltAckUptoWrite
  repeat' (first
    | with_reducible (first
        | exact Does.refl _ _ | assumption | apply Does.ite | apply Does.step (ackWhere_does ..))
    | exact fun _ h => h | exact fun h => h | exact fun _ => ⟨rfl, rfl⟩ | exact ⟨rfl, rfl⟩ | decide | intro _ _ _ | intro _ _ | split | dsimp only)

theorem fltDpCtlWrite_does (w : Word) (s : State) : Does [.regs, .flt, .port0, .port1] s (fltDpCtlWrite w s) := by
  unfold fltDpCtlWrite
  repeat' (first
    | with_reducible (first
        | exact Does.refl _ _ | assumption | apply Does.ite | apply Does.step (State.modFlt_does ..) | apply Does.step (event_does ..))
    | exact fun _ h => h | exact fun h => h | exact fun _ => ⟨rfl, rfl⟩ | exact ⟨rfl, rfl⟩ | decide | intro _ _ _ | intro _ _ | split | dsimp only)

/-! ### Release -/

theorem dropRec_does (id t : Nat) (s : State) : Does [.mem, .mrt] s (dropRec id t s) := by
  unfold dropRec
  repeat' (first
    | with_reducible (first
        | exact Does.refl _ _ | assumption | apply Does.ite | apply Does.step (State.modMrt_does ..) | apply Does.step (modEntry_does ..)
        | apply Does.step (refusalCloses_does ..))
    | exact fun _ h => h | exact fun h => h | exact fun _ => ⟨rfl, rfl⟩ | exact ⟨rfl, rfl⟩ | decide | intro _ _ _ | intro _ _ | split | dsimp only)

theorem withdraw_does (s : State) : Does [.qry, .mrt] s (withdraw s) := by
  unfold withdraw
  repeat' (first
    | with_reducible (first
        | exact Does.refl _ _ | assumption | apply Does.ite | apply Does.step (State.modMrt_does ..) | apply Does.step (State.modQry_does ..))
    | exact fun _ h => h | exact fun h => h | exact fun _ => ⟨rfl, rfl⟩ | exact ⟨rfl, rfl⟩ | decide | intro _ _ _ | intro _ _ | split | dsimp only)

theorem closeRecs_does (which : StreamRec → Bool) (p : RecPhase) (s : State) : Does [.regs, .flt, .port0, .port1, .qry, .mrt, .streams] s (closeRecs which p s) := by
  unfold closeRecs
  repeat' (first
    | with_reducible (first
        | exact Does.refl _ _ | assumption | apply Does.ite | apply Does.step (State.modMrt_does ..) | apply Does.step (throttle_does ..)
        | apply Does.step (withdraw_does ..))
    | exact fun _ h => h | exact fun h => h | exact fun _ => ⟨rfl, rfl⟩ | exact ⟨rfl, rfl⟩ | decide | intro _ _ _ | intro _ _ | split | dsimp only)

theorem tableEntryError_does (b : Nat) (s : State) : Does [.regs, .flt, .port0, .port1, .qry, .mrt, .streams] s (tableEntryError b s) := by
  unfold tableEntryError
  repeat' (first
    | with_reducible (first
        | exact Does.refl _ _ | assumption | apply Does.ite | apply Does.step (State.modMrt_does ..) | apply Does.step (throttle_does ..)
        | apply Does.step (withdraw_does ..))
    | exact fun _ h => h | exact fun h => h | exact fun _ => ⟨rfl, rfl⟩ | exact ⟨rfl, rfl⟩ | decide | intro _ _ _ | intro _ _ | split | dsimp only)

theorem tableRead_does (id : Nat) (s : State) : Does [.regs, .flt, .port0, .port1, .qry, .mem, .mrt, .streams] s (tableRead id s) := by
  unfold tableRead
  repeat' (first
    | with_reducible (first
        | exact Does.refl _ _ | assumption | apply Does.ite | apply Does.eccVisit (by decide) | apply Does.step (tableEntryError_does ..))
    | exact fun _ h => h | exact fun h => h | exact fun _ => ⟨rfl, rfl⟩ | exact ⟨rfl, rfl⟩ | decide | intro _ _ _ | intro _ _ | split | dsimp only)

theorem releaseRead_does (t : Nat) (s : State) : Does [.regs, .flt, .port0, .port1, .qry, .mem, .mrt, .streams] s (releaseRead t s) := by
  unfold releaseRead
  repeat' (first
    | with_reducible (first
        | exact Does.refl _ _ | assumption | apply Does.ite | apply Does.step (tableRead_does ..))
    | exact fun _ h => h | exact fun h => h | exact fun _ => ⟨rfl, rfl⟩ | exact ⟨rfl, rfl⟩ | decide | intro _ _ _ | intro _ _ | split | dsimp only)

theorem recordRelease_does (t khz : Nat) (s : State) : Does [.regs, .flt, .port0, .port1, .qry, .mem, .mrt, .streams, .uplinks] s (recordRelease t khz s) := by
  unfold recordRelease
  repeat' (first
    | with_reducible (first
        | exact Does.refl _ _ | assumption | apply Does.ite | apply Does.step (releaseRead_does ..) | apply Does.step (count_does ..)
        | apply Does.step (raise_does ..) | apply Does.step (modStream_does ..) | apply Does.step (startBlock_does ..)
        | apply Does.step (throttle_does ..) | apply Does.step (dropRec_does ..))
    | exact fun _ h => h | exact fun h => h | exact fun _ => ⟨rfl, rfl⟩ | exact ⟨rfl, rfl⟩ | decide | intro _ _ _ | intro _ _ | split | dsimp only)

theorem flushStream_does (t : Nat) (s : State) : Does [.regs, .flt, .port0, .port1, .qry, .mrt, .streams, .uplinks] s (flushStream t s) := by
  unfold flushStream
  repeat' (first
    | with_reducible (first
        | exact Does.refl _ _ | assumption | apply Does.ite | apply Does.step (closeRecs_does ..) | apply Does.step (count_does ..)
        | apply Does.step (modStream_does ..) | apply Does.step (startBlock_does ..))
    | exact fun _ h => h | exact fun h => h | exact fun _ => ⟨rfl, rfl⟩ | exact ⟨rfl, rfl⟩ | decide | intro _ _ _ | intro _ _ | split | dsimp only)

theorem cellGap_does (u cell t id : Nat) (s : State) : Does [.regs, .flt, .port0, .port1, .qry, .mrt, .streams] s (cellGap u cell t id s) := by
  unfold cellGap
  repeat' (first
    | with_reducible (first
        | exact Does.refl _ _ | assumption | apply Does.ite | apply Does.step (cellError_does ..) | apply Does.step (modRec_does ..)
        | apply Does.step (throttle_does ..) | apply Does.step (withdraw_does ..))
    | exact fun _ h => h | exact fun h => h | exact fun _ => ⟨rfl, rfl⟩ | exact ⟨rfl, rfl⟩ | decide | intro _ _ _ | intro _ _ | split | dsimp only)

theorem cellUncorr_does (u cell t key : Nat) (released : Bool) (s : State) : Does [.regs, .flt, .port0, .port1, .qry, .mrt, .streams] s (cellUncorr u cell t key released s) := by
  unfold cellUncorr
  repeat' (first
    | with_reducible (first
        | exact Does.refl _ _ | assumption | apply Does.ite | apply Does.step (cellError_does ..) | apply Does.step (cellGap_does ..)
        | apply Does.step (modStream_does ..))
    | exact fun _ h => h | exact fun h => h | exact fun _ => ⟨rfl, rfl⟩ | exact ⟨rfl, rfl⟩ | decide | intro _ _ _ | intro _ _ | split | dsimp only)

theorem cellUncorrRow_does (u cell t key : Nat) (released : Bool) (s : State) : Does [.regs, .flt, .port0, .port1, .qry, .mrt, .streams] s (cellUncorrRow u cell t key released s) := by
  unfold cellUncorrRow
  repeat' (first
    | with_reducible (first
        | exact Does.refl _ _ | assumption | apply Does.ite | apply Does.step (cellUncorr_does ..) | apply Does.step (count_does ..))
    | exact fun _ h => h | exact fun h => h | exact fun _ => ⟨rfl, rfl⟩ | exact ⟨rfl, rfl⟩ | decide | intro _ _ _ | intro _ _ | split | dsimp only)

theorem cellsLost_does (bad : Nat → Bool) (s : State) : Does [.regs, .flt, .port0, .port1, .qry, .mrt, .streams] s (cellsLost bad s) := by
  unfold cellsLost
  repeat' (first
    | with_reducible (first
        | exact Does.refl _ _ | assumption | apply Does.ite | apply Does.forL | apply Does.step (cellUncorr_does ..))
    | exact fun _ h => h | exact fun h => h | exact fun _ => ⟨rfl, rfl⟩ | exact ⟨rfl, rfl⟩ | decide | intro _ _ _ | intro _ _ | split | dsimp only)

theorem bankLost_does (b : Nat) (s : State) : Does [.regs, .flt, .port0, .port1, .qry, .mrt, .streams] s (bankLost b s) := by
  unfold bankLost
  repeat' (first
    | with_reducible (first
        | exact Does.refl _ _ | assumption | apply Does.ite | apply Does.step (cellsLost_does ..) | apply Does.step (poolMoved_does ..))
    | exact fun _ h => h | exact fun h => h | exact fun _ => ⟨rfl, rfl⟩ | exact ⟨rfl, rfl⟩ | decide | intro _ _ _ | intro _ _ | split | dsimp only)

theorem unitCheck_does (u : Nat) (s : State) : Does [.regs, .flt, .port0, .port1, .qry, .mrt, .streams] s (unitCheck u s) := by
  unfold unitCheck
  repeat' (first
    | with_reducible (first
        | exact Does.refl _ _ | assumption | apply Does.ite | apply Does.step (State.modMrt_does ..) | apply Does.step (closeRecs_does ..)
        | apply Does.step (event_does ..) | apply Does.step (poolMoved_does ..) | apply Does.step (raise_does ..))
    | exact fun _ h => h | exact fun h => h | exact fun _ => ⟨rfl, rfl⟩ | exact ⟨rfl, rfl⟩ | decide | intro _ _ _ | intro _ _ | split | dsimp only)

theorem mortarStop_does (s : State) : Does [.regs, .flt, .port0, .port1, .qry, .mrt, .streams] s (mortarStop s) := by
  unfold mortarStop
  repeat' (first
    | with_reducible (first
        | exact Does.refl _ _ | assumption | apply Does.ite | apply Does.step (closeRecs_does ..))
    | exact fun _ h => h | exact fun h => h | exact fun _ => ⟨rfl, rfl⟩ | exact ⟨rfl, rfl⟩ | decide | intro _ _ _ | intro _ _ | split | dsimp only)

/-! ### Mem -/

theorem State.modMem_does (f : MemProt → MemProt) (s : State) (hf : ∀ y, y.restore.length ≤ 128 → (f y).restore.length ≤ 128)
    (hr : ∀ y, y.TablesRise → (f y).TablesRise) : Does [.mem] s (s.modMem f) :=
  Does.put_mem (by decide) (hf _) (hr _) (Does.refl _ _)

theorem loadBlock_does (g i0 : Nat) (es : List (BitVec 16)) (b : Nat) (s : State) : Does [.regs, .flt, .port0, .port1, .sram, .mem] s (loadBlock g i0 es b s) := by
  unfold loadBlock
  repeat' (first
    | with_reducible (first
        | exact Does.refl _ _ | assumption | apply Does.ite | apply Does.step (writeTblock_does ..)
        | apply Does.step (readTblock_does ..) | apply Does.step (State.modMem_does ..))
    | exact fun _ h => h | exact fun h => h | exact fun _ => ⟨rfl, rfl⟩ | exact ⟨rfl, rfl⟩ | exact Nat.le_trans (List.length_filter_le ..) (by assumption) | decide | intro _ _ _ | intro _ _ | split | dsimp only)

theorem sealGranule_does (g k : Nat) (s : State) : Does [.hbm, .mem] s (sealGranule g k s) := by
  unfold sealGranule
  repeat' (first
    | with_reducible (first
        | exact Does.refl _ _ | assumption | apply Does.ite | apply Does.step (State.hbmStore_does ..) | apply Does.step (State.modMem_does ..)
        | apply Does.put_hbm)
    | exact fun _ h => h | exact fun h => h | exact fun _ => ⟨rfl, rfl⟩ | exact ⟨rfl, rfl⟩ | (intro (h : Rises _); repeat' (first | assumption | exact h.1 | exact h.2 | exact h.2.1 | exact h.2.2 | with_reducible apply rises_put | with_reducible apply rises_upd | apply rises_filter | apply rises_map | exact fun _ => rfl | rfl | (intro _; split <;> rfl) | constructor)) | (intro _ (h : MemProt.TablesRise _); repeat' (first | assumption | exact h.1 | exact h.2 | exact h.2.1 | exact h.2.2 | with_reducible apply rises_put | with_reducible apply rises_upd | apply rises_filter | apply rises_map | exact fun _ => rfl | rfl | (intro _; split <;> rfl) | constructor)) | decide | intro _ _ _ | intro _ _ | split | dsimp only)

theorem loadArchive_does (g i0 : Nat) (es : List (BitVec 16)) (s : State) : Does [.groups, .hbm, .mem] s (loadArchive g i0 es s) := by
  unfold loadArchive
  repeat' (first
    | with_reducible (first
        | exact Does.refl _ _ | assumption | apply Does.ite | apply Does.forL | apply Does.step (State.hbmStore_does ..)
        | apply Does.step (modGroup_does ..) | apply Does.step (sealGranule_does ..))
    | exact fun _ h => h | exact fun h => h | exact fun _ => ⟨rfl, rfl⟩ | exact ⟨rfl, rfl⟩ | decide | intro _ _ _ | intro _ _ | split | dsimp only)

theorem pieceBegin_does (l : LoadRun) (s : State) : Does [.sram] s (pieceBegin l s).2 := by
  unfold pieceBegin
  repeat' (first
    | with_reducible (first
        | exact Does.refl _ _ | assumption | apply Does.ite | apply Does.forL | apply Does.step (setTblock_does ..))
    | exact fun _ h => h | exact fun h => h | exact fun _ => ⟨rfl, rfl⟩ | exact ⟨rfl, rfl⟩ | decide | intro _ _ _ | intro _ _ | split | dsimp only)

theorem pieceKept_does (g : Nat) (x : Nat × BlockPhase) (s : State) : Does [.sram] s (pieceKept g x s) := by
  unfold pieceKept
  repeat' (first
    | with_reducible (first
        | exact Does.refl _ _ | assumption | apply Does.ite | apply Does.step (setTblock_does ..))
    | exact fun _ h => h | exact fun h => h | exact fun _ => ⟨rfl, rfl⟩ | exact ⟨rfl, rfl⟩ | decide | intro _ _ _ | intro _ _ | split | dsimp only)

theorem pieceEnd_does (l : LoadRun) (s : State) : Does [.regs, .flt, .port0, .port1, .sram, .mem] s (pieceEnd l s).2 := by
  unfold pieceEnd
  repeat' (first
    | with_reducible (first
        | exact Does.refl _ _ | assumption | apply Does.ite | apply Does.forL | apply Does.step (loadBlock_does ..)
        | apply Does.step (pieceKept_does ..))
    | exact fun _ h => h | exact fun h => h | exact fun _ => ⟨rfl, rfl⟩ | exact ⟨rfl, rfl⟩ | decide | intro _ _ _ | intro _ _ | split | dsimp only)

theorem pieceBreak_does (l : LoadRun) (s : State) : Does [.sram] s (pieceBreak l s) := by
  unfold pieceBreak
  repeat' (first
    | with_reducible (first
        | exact Does.refl _ _ | assumption | apply Does.ite | apply Does.forL | apply Does.step (pieceKept_does ..)
        | apply Does.step (setTblock_does ..))
    | exact fun _ h => h | exact fun h => h | exact fun _ => ⟨rfl, rfl⟩ | exact ⟨rfl, rfl⟩ | decide | intro _ _ _ | intro _ _ | split | dsimp only)

theorem hbmCorrected_does (qa code : Nat) (loc : HbmLoc) (master access : Nat) (s : State) : Does [.regs, .flt, .mem] s (hbmCorrected qa code loc master access s) := by
  unfold hbmCorrected
  repeat' (first
    | with_reducible (first
        | exact Does.refl _ _ | assumption | apply Does.ite | apply Does.step (State.modMem_does ..) | apply Does.step (count_does ..)
        | apply Does.step (raise_does ..))
    | exact fun _ h => h | exact fun h => h | exact fun _ => ⟨rfl, rfl⟩ | exact ⟨rfl, rfl⟩ | (intro _ (h : MemProt.TablesRise _); repeat' (first | assumption | exact h.1 | exact h.2 | exact h.2.1 | exact h.2.2 | with_reducible apply rises_put | with_reducible apply rises_upd | apply rises_filter | apply rises_map | exact fun _ => rfl | rfl | (intro _; split <;> rfl) | constructor)) | decide | intro _ _ _ | intro _ _ | split | dsimp only)

theorem hbmUncorrectable_does (qa : Nat) (loc : HbmLoc) (master access : Nat) (s : State) : Does [.regs, .flt, .port0, .port1] s (hbmUncorrectable qa loc master access s) := by
  unfold hbmUncorrectable
  repeat' (first
    | with_reducible (first
        | exact Does.refl _ _ | assumption | apply Does.ite | apply Does.step (event_does ..) | apply Does.step (raise_does ..))
    | exact fun _ h => h | exact fun h => h | exact fun _ => ⟨rfl, rfl⟩ | exact ⟨rfl, rfl⟩ | decide | intro _ _ _ | intro _ _ | split | dsimp only)

theorem hbmSeen_does (qa : Nat) (sev : HbmSeverity) (loc : HbmLoc) (master access : Nat) (s : State) : Does [.regs, .flt, .mem] s (hbmSeen qa sev loc master access s) := by
  unfold hbmSeen
  repeat' (first
    | with_reducible (first
        | exact Does.refl _ _ | assumption | apply Does.ite | apply Does.step (count_does ..) | apply Does.step (hbmCorrected_does ..))
    | exact fun _ h => h | exact fun h => h | exact fun _ => ⟨rfl, rfl⟩ | exact ⟨rfl, rfl⟩ | decide | intro _ _ _ | intro _ _ | split | dsimp only)

theorem tableRestore_does (sev : HbmSeverity) (loc : HbmLoc) (s : State) : Does [.regs, .flt, .port0, .port1, .sram, .mem] s (tableRestore sev loc s) := by
  unfold tableRestore
  split
  · rename_i g b rest h
    have k : Does [.regs, .flt, .port0, .port1, .sram, .mem] s (s.modMem fun m => { m with restore := rest }) := Does.put_mem (by decide) (fun c => by
      rw [h, List.length_cons] at c; exact Nat.le_of_succ_le c) (fun h => h) (Does.refl _ _)
    dsimp only
    generalize (s.modMem fun m => { m with restore := rest }) = t at k ⊢
    repeat' (first
        | with_reducible (first
            | exact Does.refl _ _ | assumption | apply Does.ite | apply Does.step (State.modMem_does ..) | apply Does.step (count_does ..)
            | apply Does.step (event_does ..) | apply Does.step (hbmSeen_does ..) | apply Does.step (raise_does ..)
            | apply Does.step (writeTblock_does ..))
        | exact fun _ h => h | exact fun h => h | exact fun _ => ⟨rfl, rfl⟩ | exact ⟨rfl, rfl⟩ | (intro _ (h : MemProt.TablesRise _); repeat' (first | assumption | exact h.1 | exact h.2 | exact h.2.1 | exact h.2.2 | with_reducible apply rises_put | with_reducible apply rises_upd | apply rises_filter | apply rises_map | exact fun _ => rfl | rfl | (intro _; split <;> rfl) | constructor)) | decide | intro _ _ _ | intro _ _ | split | dsimp only)
  · exact Does.refl _ _

theorem scrubTable_does (g : Nat) (s : State) : Does [.regs, .flt, .port0, .port1, .groups, .sram, .mem] s (scrubTable g s) := by
  unfold scrubTable
  repeat' (first
    | with_reducible (first
        | exact Does.refl _ _ | assumption | apply Does.ite | apply Does.step (countWrap_does ..) | apply Does.step (modGroup_does ..)
        | apply Does.step (readTblock_does ..) | apply Does.step (writeTblock_does ..))
    | exact fun _ h => h | exact fun h => h | exact fun _ => ⟨rfl, rfl⟩ | exact ⟨rfl, rfl⟩ | decide | intro _ _ _ | intro _ _ | split | dsimp only)

theorem hbmReadError_does (qa : Nat) (sev : HbmSeverity) (loc : HbmLoc) (master : Nat) (s : State) : Does [.regs, .flt, .port0, .port1, .mem] s (hbmReadError qa sev loc master s) := by
  unfold hbmReadError
  repeat' (first
    | with_reducible (first
        | exact Does.refl _ _ | assumption | apply Does.ite | apply Does.step (hbmSeen_does ..) | apply Does.step (hbmUncorrectable_does ..))
    | exact fun _ h => h | exact fun h => h | exact fun _ => ⟨rfl, rfl⟩ | exact ⟨rfl, rfl⟩ | decide | intro _ _ _ | intro _ _ | split | dsimp only)

theorem stoneDamaged_does (n : Nat) (burst : Option Nat) (loc : HbmLoc) (s : State) : Does [.regs, .flt, .port0, .port1, .hbm] s (stoneDamaged n burst loc s) := by
  unfold stoneDamaged
  repeat' (first
    | with_reducible (first
        | exact Does.refl _ _ | assumption | apply Does.ite | apply Does.forL | apply Does.step (markDamaged_does ..)
        | apply Does.step (raise_does ..))
    | exact fun _ h => h | exact fun h => h | exact fun _ => ⟨rfl, rfl⟩ | exact ⟨rfl, rfl⟩ | decide | intro _ _ _ | intro _ _ | split | dsimp only)

theorem indexStub_does (c : Nat) (s : State) : Does [.regs, .flt, .port0, .port1, .hbm] s (indexStub c s) := by
  unfold indexStub
  repeat' (first
    | with_reducible (first
        | exact Does.refl _ _ | assumption | apply Does.ite | apply Does.step (count_does ..) | apply Does.step (event_does ..)
        | apply Does.step (raise_does ..) | apply Does.step (storeEntry_does ..))
    | exact fun _ h => h | exact fun h => h | exact fun _ => ⟨rfl, rfl⟩ | exact ⟨rfl, rfl⟩ | decide | intro _ _ _ | intro _ _ | split | dsimp only)

theorem indexScrub_does (slot : Nat) (burst : Option Nat) (s : State) : Does [.regs, .flt, .port0, .port1, .hbm] s (indexScrub slot burst s) := by
  unfold indexScrub
  repeat' (first
    | with_reducible (first
        | exact Does.refl _ _ | assumption | apply Does.ite | apply Does.forL | apply Does.step (indexStub_does ..))
    | exact fun _ h => h | exact fun h => h | exact fun _ => ⟨rfl, rfl⟩ | exact ⟨rfl, rfl⟩ | decide | intro _ _ _ | intro _ _ | split | dsimp only)

theorem scrubGranule_does (n : Nat) (sev : HbmSeverity) (burst : Nat) (loc : HbmLoc) (s : State) : Does [.regs, .flt, .port0, .port1, .hbm, .mem] s (scrubGranule n sev burst loc s) := by
  unfold scrubGranule
  cases sev <;> dsimp only <;> split
  all_goals repeat' (first
        | with_reducible (first
            | exact Does.refl _ _ | assumption | apply Does.ite | apply Does.step (hbmSeen_does ..) | apply Does.step (hbmUncorrectable_does ..)
            | apply Does.step (indexScrub_does ..) | apply Does.step (stoneDamaged_does ..) | apply Does.put_hbm)
        | exact fun _ h => h | exact fun h => h | exact fun _ => ⟨rfl, rfl⟩ | exact ⟨rfl, rfl⟩ | (intro (h : Rises _); repeat' (first | assumption | exact h.1 | exact h.2 | exact h.2.1 | exact h.2.2 | with_reducible apply rises_put | with_reducible apply rises_upd | apply rises_filter | apply rises_map | exact fun _ => rfl | rfl | (intro _; split <;> rfl) | constructor)) | decide | intro _ _ _ | intro _ _ | split | dsimp only)

theorem passEnd_does (khz : Nat) (s : State) : Does [.regs, .flt, .port0, .port1, .mem] s (passEnd khz s) := by
  unfold passEnd
  repeat' (first
    | with_reducible (first
        | exact Does.refl _ _ | assumption | apply Does.ite | apply Does.step (State.modMem_does ..) | apply Does.step (countWrap_does ..)
        | apply Does.step (event_does ..) | apply Does.step (raise_does ..) | apply Does.step (setCell_does ..))
    | exact fun _ h => h | exact fun h => h | exact fun _ => ⟨rfl, rfl⟩ | exact ⟨rfl, rfl⟩ | (intro _ (h : MemProt.TablesRise _); repeat' (first | assumption | exact h.1 | exact h.2 | exact h.2.1 | exact h.2.2 | with_reducible apply rises_put | with_reducible apply rises_upd | apply rises_filter | apply rises_map | exact fun _ => rfl | rfl | (intro _; split <;> rfl) | constructor)) | decide | intro _ _ _ | intro _ _ | split | dsimp only)

theorem hbmScrub_does (sev : HbmSeverity) (burst : Nat) (loc : HbmLoc) (khz : Nat) (s : State) : Does [.regs, .flt, .port0, .port1, .hbm, .mem] s (hbmScrub sev burst loc khz s) := by
  unfold hbmScrub
  repeat' (first
    | with_reducible (first
        | exact Does.refl _ _ | assumption | apply Does.ite | apply Does.step (passEnd_does ..) | apply Does.step (scrubGranule_does ..)
        | apply Does.step (setCell_does ..))
    | exact fun _ h => h | exact fun h => h | exact fun _ => ⟨rfl, rfl⟩ | exact ⟨rfl, rfl⟩ | decide | intro _ _ _ | intro _ _ | split | dsimp only)

theorem repointerStart_does (s : State) : Does [.regs, .groups, .mem] s (repointerStart s) := by
  unfold repointerStart
  repeat' (first
    | with_reducible (first
        | exact Does.refl _ _ | assumption | apply Does.ite | apply Does.forN | apply Does.step (State.modMem_does ..)
        | apply Does.step (modGroup_does ..) | apply Does.step (setCell_does ..))
    | exact fun _ h => h | exact fun h => h | exact fun _ => ⟨rfl, rfl⟩ | exact ⟨rfl, rfl⟩ | (intro _ (h : MemProt.TablesRise _); repeat' (first | assumption | exact h.1 | exact h.2 | exact h.2.1 | exact h.2.2 | with_reducible apply rises_put | with_reducible apply rises_upd | apply rises_filter | apply rises_map | exact fun _ => rfl | rfl | (intro _; split <;> rfl) | constructor)) | decide | intro _ _ _ | intro _ _ | split | dsimp only)

theorem stateParity_does (g b : Nat) (s : State) : Does [.sram] s (stateParity g b s) := by
  unfold stateParity
  repeat' (first
    | with_reducible (first
        | exact Does.refl _ _ | assumption | apply Does.ite | apply Does.forN | apply Does.step (setTblock_does ..))
    | exact fun _ h => h | exact fun h => h | exact fun _ => ⟨rfl, rfl⟩ | exact ⟨rfl, rfl⟩ | decide | intro _ _ _ | intro _ _ | split | dsimp only)

theorem coderBuffer_does (m : Nat) (s : State) : Does [.ring] s (coderBuffer m s) := by
  unfold coderBuffer
  repeat' (first
    | with_reducible (first
        | exact Does.refl _ _ | assumption | apply Does.ite | apply Does.step (modCoder_does ..))
    | exact fun _ h => h | exact fun h => h | exact fun _ => ⟨rfl, rfl⟩ | exact ⟨rfl, rfl⟩ | decide | intro _ _ _ | intro _ _ | split | dsimp only)

theorem tableReadError_does (mem inst blk master : Nat) (parity : Bool) (s : State) : Does [.regs, .flt, .port0, .port1, .sram, .mem] s (tableReadError mem inst blk master parity s) := by
  unfold tableReadError
  repeat' (first
    | with_reducible (first
        | exact Does.refl _ _ | assumption | apply Does.ite | apply Does.forN | apply Does.step (damageTblock_does ..)
        | apply Does.step (queueRestore_does ..) | apply Does.step (stateParity_does ..))
    | exact fun _ h => h | exact fun h => h | exact fun _ => ⟨rfl, rfl⟩ | exact ⟨rfl, rfl⟩ | decide | intro _ _ _ | intro _ _ | split | dsimp only)

theorem ringBlockError_does (m b master : Nat) (s : State) : Does [.regs, .flt, .port0, .port1] s (ringBlockError m b master s) := by
  unfold ringBlockError
  repeat' (first
    | with_reducible (first
        | exact Does.refl _ _ | assumption | apply Does.ite | apply Does.step (count_does ..) | apply Does.step (event_does ..)
        | apply Does.step (raise_does ..))
    | exact fun _ h => h | exact fun h => h | exact fun _ => ⟨rfl, rfl⟩ | exact ⟨rfl, rfl⟩ | decide | intro _ _ _ | intro _ _ | split | dsimp only)

theorem sramAction_does (mem inst b master : Nat) (s : State) : Does [.regs, .flt, .port0, .port1, .groups, .ash, .ring, .qry, .mrt, .streams, .plb] s (sramAction mem inst b master s) := by
  unfold sramAction
  repeat' (first
    | with_reducible (first
        | exact Does.refl _ _ | assumption | apply Does.ite | apply Does.step (cellsLost_does ..) | apply Does.step (coderBuffer_does ..)
        | apply Does.step (engineQueueError_does ..) | apply Does.step (lintelError_does ..) | apply Does.step (logError_does ..)
        | apply Does.step (openStoneError_does ..) | apply Does.step (plbStoreError_does ..) | apply Does.step (ringBlockError_does ..)
        | apply Does.step (tableEntryError_does ..))
    | exact fun _ h => h | exact fun h => h | exact fun _ => ⟨rfl, rfl⟩ | exact ⟨rfl, rfl⟩ | decide | intro _ _ _ | intro _ _ | split | dsimp only)

theorem memoryReadError_does (mem inst b master : Nat) (parity : Bool) (s : State) : Does [.regs, .flt, .port0, .port1, .groups, .ash, .ring, .qry, .mem, .mrt, .streams, .plb] s (memoryReadError mem inst b master parity s) := by
  unfold memoryReadError
  repeat' (first
    | with_reducible (first
        | exact Does.refl _ _ | assumption | apply Does.ite | apply Does.step (eccParity_does ..) | apply Does.step (eccDamage_does ..)
        | apply Does.step (sramAction_does ..) | apply Does.step (sramUncorrected_does ..))
    | exact fun _ h => h | exact fun h => h | exact fun _ => ⟨rfl, rfl⟩ | exact ⟨rfl, rfl⟩ | decide | intro _ _ _ | intro _ _ | split | dsimp only)

theorem memoryRead_does (mem inst b : Nat) (e : SramError) (master : Nat) (s : State) : Does [.regs, .flt, .port0, .port1, .groups, .sram, .ash, .ring, .qry, .mem, .mrt, .streams, .plb] s (memoryRead mem inst b e master s) := by
  unfold memoryRead
  repeat' (first
    | with_reducible (first
        | exact Does.refl _ _ | assumption | apply Does.ite | apply Does.badReadOr | apply Does.step (stateParity_does ..)
        | apply Does.step (memoryReadError_does ..) | apply Does.step (sramCorrected_does ..))
    | exact fun _ h => h | exact fun h => h | exact fun _ => ⟨rfl, rfl⟩ | exact ⟨rfl, rfl⟩ | decide | intro _ _ _ | intro _ _ | split | dsimp only)

theorem sramReadError_does (mem inst blk : Nat) (e : SramError) (master : Nat) (s : State) : Does [.regs, .flt, .port0, .port1, .groups, .sram, .ash, .ring, .qry, .mem, .mrt, .streams, .plb] s (sramReadError mem inst blk e master s) := by
  unfold sramReadError
  repeat' (first
    | with_reducible (first
        | exact Does.refl _ _ | assumption | apply Does.ite | apply Does.badReadOr | apply Does.step (stateParity_does ..)
        | apply Does.step (tableReadError_does ..) | apply Does.step (sramCorrected_does ..) | apply Does.step (memoryRead_does ..))
    | exact fun _ h => h | exact fun h => h | exact fun _ => ⟨rfl, rfl⟩ | exact ⟨rfl, rfl⟩ | decide | intro _ _ _ | intro _ _ | split | dsimp only)

end Sys2Proof.Machine
end

