-- ==== Sys2Proof/Laws/DoesHost.lean ====
section
/-!
SUPPORT. What each operation can do: which parts of the state it can change, and that memory keeps its form and the stores their capacities: Ports, Voting, Regs, Power, Jobs, Lodge.
-/
namespace Sys2Proof.Machine
set_option Elab.async false

/-! ### Ports -/

theorem configDefaults_does (p : Nat) (s : State) : Does [.port0, .port1] s (configDefaults p s) := by
  unfold configDefaults
  repeat' (first
    | with_reducible (first
        | exact Does.refl _ _ | assumption | apply Does.ite | apply Does.step (State.modPort_does ..))
    | exact fun _ h => h | exact fun h => h | exact fun _ => ⟨rfl, rfl⟩ | exact ⟨rfl, rfl⟩ | (intro _ (h : HostPort.TablesRise _); repeat' (first | assumption | exact h.1 | exact h.2 | exact h.2.1 | exact h.2.2 | with_reducible apply rises_put | with_reducible apply rises_upd | apply rises_filter | apply rises_map | exact fun _ => rfl | rfl | (intro _; split <;> rfl) | constructor)) | decide | intro _ _ _ | intro _ _ | split | dsimp only)

theorem linkOff_does (p : Nat) (s : State) : Does [.port0, .port1] s (linkOff p s) := by
  unfold linkOff
  repeat' (first
    | with_reducible (first
        | exact Does.refl _ _ | assumption | apply Does.ite | apply Does.step (State.modPort_does ..))
    | exact fun _ h => h | exact fun h => h | exact fun _ => ⟨rfl, rfl⟩ | exact ⟨rfl, rfl⟩ | decide | intro _ _ _ | intro _ _ | split | dsimp only)

theorem perstAssert_does (p : Nat) (s : State) : Does [.port0, .port1] s (perstAssert p s) := by
  unfold perstAssert
  repeat' (first
    | with_reducible (first
        | exact Does.refl _ _ | assumption | apply Does.ite | apply Does.step (State.modPort_does ..) | apply Does.step (configDefaults_does ..)
        | apply Does.step (linkOff_does ..))
    | exact fun _ h => h | exact fun h => h | exact fun _ => ⟨rfl, rfl⟩ | exact ⟨rfl, rfl⟩ | decide | intro _ _ _ | intro _ _ | split | dsimp only)

theorem hotReset_does (p : Nat) (s : State) : Does [.port0, .port1] s (hotReset p s) := by
  unfold hotReset
  repeat' (first
    | with_reducible (first
        | exact Does.refl _ _ | assumption | apply Does.ite | apply Does.step (configDefaults_does ..) | apply Does.step (linkOff_does ..))
    | exact fun _ h => h | exact fun h => h | exact fun _ => ⟨rfl, rfl⟩ | exact ⟨rfl, rfl⟩ | decide | intro _ _ _ | intro _ _ | split | dsimp only)

theorem perstRelease_does (p : Nat) (s : State) : Does [.port0, .port1] s (perstRelease p s) := by
  unfold perstRelease
  repeat' (first
    | with_reducible (first
        | exact Does.refl _ _ | assumption | apply Does.ite | apply Does.step (State.modPort_does ..))
    | exact fun _ h => h | exact fun h => h | exact fun _ => ⟨rfl, rfl⟩ | exact ⟨rfl, rfl⟩ | decide | intro _ _ _ | intro _ _ | split | dsimp only)

theorem functionReset_does (p : Nat) (s : State) : Does [.regs, .flt, .port0, .port1] s (functionReset p s) := by
  unfold functionReset
  repeat' (first
    | with_reducible (first
        | exact Does.refl _ _ | assumption | apply Does.ite | apply Does.step (configDefaults_does ..) | apply Does.step (event_does ..)
        | apply Does.step (raise_does ..))
    | exact fun _ h => h | exact fun h => h | exact fun _ => ⟨rfl, rfl⟩ | exact ⟨rfl, rfl⟩ | decide | intro _ _ _ | intro _ _ | split | dsimp only)

theorem linkDown_does (p : Nat) (training : Word) (s : State) : Does [.regs, .flt, .port0, .port1] s (linkDown p training s) := by
  unfold linkDown
  repeat' (first
    | with_reducible (first
        | exact Does.refl _ _ | assumption | apply Does.ite | apply Does.step (count_does ..) | apply Does.step (event_does ..)
        | apply Does.step (linkOff_does ..) | apply Does.step (raise_does ..))
    | exact fun _ h => h | exact fun h => h | exact fun _ => ⟨rfl, rfl⟩ | exact ⟨rfl, rfl⟩ | decide | intro _ _ _ | intro _ _ | split | dsimp only)

theorem portOff_does (p : Nat) (s : State) : Does [.regs, .flt, .port0, .port1] s (portOff p s) := by
  unfold portOff
  repeat' (first
    | with_reducible (first
        | exact Does.refl _ _ | assumption | apply Does.ite | apply Does.step (linkDown_does ..))
    | exact fun _ h => h | exact fun h => h | exact fun _ => ⟨rfl, rfl⟩ | exact ⟨rfl, rfl⟩ | decide | intro _ _ _ | intro _ _ | split | dsimp only)

theorem linkUp_does (p width speed : Nat) (s : State) : Does [.port0, .port1] s (linkUp p width speed s) := by
  unfold linkUp
  repeat' (first
    | with_reducible (first
        | exact Does.refl _ _ | assumption | apply Does.ite | apply Does.step (State.modPort_does ..))
    | exact fun _ h => h | exact fun h => h | exact fun _ => ⟨rfl, rfl⟩ | exact ⟨rfl, rfl⟩ | decide | intro _ _ _ | intro _ _ | split | dsimp only)

theorem aerUncorr_does (p : Nat) (status : Word) (header : BitVec 128) (s : State) : Does [.regs, .flt, .port0, .port1] s (aerUncorr p status header s) := by
  unfold aerUncorr
  repeat' (first
    | with_reducible (first
        | exact Does.refl _ _ | assumption | apply Does.ite | apply Does.step (raise_does ..) | apply Does.step (event_does ..)
        | apply Does.step (State.modPort_does ..))
    | exact fun _ h => h | exact fun h => h | exact fun _ => ⟨rfl, rfl⟩ | exact ⟨rfl, rfl⟩ | decide | intro _ _ _ | intro _ _ | split | dsimp only)

theorem aerCorr_does (p : Nat) (status : Word) (s : State) : Does [.regs, .port0, .port1] s (aerCorr p status s) := by
  unfold aerCorr
  repeat' (first
    | with_reducible (first
        | exact Does.refl _ _ | assumption | apply Does.ite | apply Does.step (State.modPort_does ..) | apply Does.step (count_does ..)
        | apply Does.step (event_does ..))
    | exact fun _ h => h | exact fun h => h | exact fun _ => ⟨rfl, rfl⟩ | exact ⟨rfl, rfl⟩ | decide | intro _ _ _ | intro _ _ | split | dsimp only)

theorem HostPort.settle_rises {h : HostPort} (k : h.TablesRise) : h.settle.TablesRise := ⟨k.1, rises_map (fun _ => rfl) k.2.1, k.2.2⟩

theorem pcieConfigWrite_does (p : Nat) (bme msix mask d3 : Bool) (s : State) : Does [.port0, .port1] s (pcieConfigWrite p bme msix mask d3 s) := by
  unfold pcieConfigWrite
  split
  · exact Does.step (State.modPort_does _ _ _ fun _ h => HostPort.settle_rises h) (by decide) (Does.refl _ _)
  · exact Does.refl _ _

theorem msixTableWrite_does (p o : Nat) (w : Word) (s : State) : Does [.port0, .port1] s (msixTableWrite p o w s) := by
  unfold msixTableWrite
  repeat' (first
    | with_reducible (first
        | exact Does.refl _ _ | assumption | apply Does.ite | apply Does.step (State.modPort_does ..))
    | exact fun _ h => h | exact fun h => h | exact fun _ => ⟨rfl, rfl⟩ | exact ⟨rfl, rfl⟩ | (intro _ (h : HostPort.TablesRise _); repeat' (first | assumption | exact h.1 | exact h.2 | exact h.2.1 | exact h.2.2 | with_reducible apply rises_put | with_reducible apply rises_upd | apply rises_filter | apply rises_map | exact fun _ => rfl | rfl | (intro _; split <;> rfl) | constructor)) | decide | intro _ _ _ | intro _ _ | split | dsimp only)

theorem msixMessage_does (p v : Nat) (s : State) : Does [.port0, .port1] s (msixMessage p v s) := by
  unfold msixMessage
  repeat' (first
    | with_reducible (first
        | exact Does.refl _ _ | assumption | apply Does.ite | apply Does.step (State.modPort_does ..))
    | exact fun _ h => h | exact fun h => h | exact fun _ => ⟨rfl, rfl⟩ | exact ⟨rfl, rfl⟩ | (intro _ (h : HostPort.TablesRise _); repeat' (first | assumption | exact h.1 | exact h.2 | exact h.2.1 | exact h.2.2 | with_reducible apply rises_put | with_reducible apply rises_upd | apply rises_filter | apply rises_map | exact fun _ => rfl | rfl | (intro _; split <;> rfl) | constructor)) | decide | intro _ _ _ | intro _ _ | split | dsimp only)

theorem holdoffExpiry_does (p v : Nat) (s : State) : Does [.port0, .port1] s (holdoffExpiry p v s) := by
  unfold holdoffExpiry
  repeat' (first
    | with_reducible (first
        | exact Does.refl _ _ | assumption | apply Does.ite | apply Does.step (State.modPort_does ..) | apply Does.step (msixMessage_does ..))
    | exact fun _ h => h | exact fun h => h | exact fun _ => ⟨rfl, rfl⟩ | exact ⟨rfl, rfl⟩ | (intro _ (h : HostPort.TablesRise _); repeat' (first | assumption | exact h.1 | exact h.2 | exact h.2.1 | exact h.2.2 | with_reducible apply rises_put | with_reducible apply rises_upd | apply rises_filter | apply rises_map | exact fun _ => rfl | rfl | (intro _; split <;> rfl) | constructor)) | decide | intro _ _ _ | intro _ _ | split | dsimp only)

theorem windowSeen_does (g : Nat) (s : State) : Does [.regs, .port0, .port1] s (windowSeen g s) := by
  unfold windowSeen
  repeat' (first
    | with_reducible (first
        | exact Does.refl _ _ | assumption | apply Does.ite | apply Does.step (event_does ..) | apply Does.step (setCell_does ..))
    | exact fun _ h => h | exact fun h => h | exact fun _ => ⟨rfl, rfl⟩ | exact ⟨rfl, rfl⟩ | decide | intro _ _ _ | intro _ _ | split | dsimp only)

theorem windowRead_does (p o n : Nat) (errs : List (Nat × HbmLoc)) (s : State) : Does [.regs, .flt, .port0, .port1, .mem] s (windowRead p o n errs s) := by
  unfold windowRead
  repeat' (first
    | with_reducible (first
        | exact Does.refl _ _ | assumption | apply Does.ite | apply Does.forL | apply Does.step (State.modPort_does ..)
        | apply Does.step (hbmSeen_does ..) | apply Does.step (hbmUncorrectable_does ..) | apply Does.step (windowSeen_does ..))
    | exact fun _ h => h | exact fun h => h | exact fun _ => ⟨rfl, rfl⟩ | exact ⟨rfl, rfl⟩ | decide | intro _ _ _ | intro _ _ | split | dsimp only)

theorem windowWritePart_does (p g : Nat) (bs : List (Nat × Byte)) (first : Nat) (s : State) : Does [.regs, .flt, .port0, .port1, .qry, .hbm] s (windowWritePart p g bs first s) := by
  unfold windowWritePart
  repeat' (first
    | with_reducible (first
        | exact Does.refl _ _ | assumption | apply Does.ite | apply Does.forL | apply Does.step (State.hbmStore_does ..)
        | apply Does.step (State.modQry_does ..) | apply Does.step (event_does ..) | apply Does.step (raise_does ..))
    | exact fun _ h => h | exact fun h => h | exact fun _ => ⟨rfl, rfl⟩ | exact ⟨rfl, rfl⟩ | decide | intro _ _ _ | intro _ _ | split | dsimp only)

theorem windowWrite_does (p o : Nat) (data : List (Option Byte)) (s : State) : Does [.regs, .flt, .port0, .port1, .qry, .hbm] s (windowWrite p o data s) := by
  unfold windowWrite
  repeat' (first
    | with_reducible (first
        | exact Does.refl _ _ | assumption | apply Does.ite | apply Does.forL | apply Does.step (windowWritePart_does ..))
    | exact fun _ h => h | exact fun h => h | exact fun _ => ⟨rfl, rfl⟩ | exact ⟨rfl, rfl⟩ | decide | intro _ _ _ | intro _ _ | split | dsimp only)

/-! ### Voting -/

theorem btrVote_does (s : State) : Does [.btr] s (btrVote s).1 := by
  unfold btrVote
  exact Does.put_btr (by decide) (fun h => rises_map (fun _ => rfl) (rises_map (fun _ => rfl) h)) (Does.refl _ _)

theorem voteResult_does (item c : Nat) (r : Option Nat) (a : State × Bool) : Does [.regs, .flt, .port0, .port1] a.1 (voteResult item c r a).1 := by
  unfold voteResult
  repeat' (first
    | with_reducible exact Does.refl _ _
    | with_reducible apply Does.ite
    | with_reducible apply Does.step (raise_does ..)
    | with_reducible apply Does.step (event_does ..)
    | with_reducible apply Does.step (count_does ..)
    | with_reducible apply Does.step (setCell_does ..)
    | decide
    | split
    | dsimp only)

theorem btrReports_does (c : Nat) (results : List (Nat × Option Nat)) (s : State) : Does [.regs, .flt, .port0, .port1] s (btrReports c results s) := by
  unfold btrReports
  exact Does.foldl1 (fun a x h => Does.step (voteResult_does ..) (by decide) h) (Does.refl _ _)

theorem btrInject_does (s : State) : Does [.btr] s (btrInject s) := by
  unfold btrInject
  repeat' (first
    | with_reducible (first
        | exact Does.refl _ _ | assumption | apply Does.ite | apply Does.step (State.modBtr_does ..) | apply Does.step (setCb_does ..))
    | exact fun _ h => h | exact fun h => h | exact fun _ => ⟨rfl, rfl⟩ | exact ⟨rfl, rfl⟩ | decide | intro _ _ _ | intro _ _ | split | dsimp only)

theorem btrInjectWrite_does (w : Word) (s : State) : Does [.btr] s (btrInjectWrite w s) := by
  unfold btrInjectWrite
  repeat' (first
    | with_reducible (first
        | exact Does.refl _ _ | assumption | apply Does.ite | apply Does.step (State.modBtr_does ..))
    | exact fun _ h => h | exact fun h => h | exact fun _ => ⟨rfl, rfl⟩ | exact ⟨rfl, rfl⟩ | decide | intro _ _ _ | intro _ _ | split | dsimp only)

theorem memInjectWrite_does (w : Word) (s : State) : Does [.mem] s (memInjectWrite w s) := by
  unfold memInjectWrite
  repeat' (first
    | with_reducible (first
        | exact Does.refl _ _ | assumption | apply Does.ite | apply Does.put_mem)
    | exact fun _ h => h | exact fun h => h | exact fun _ => ⟨rfl, rfl⟩ | exact ⟨rfl, rfl⟩ | decide | intro _ _ _ | intro _ _ | split | dsimp only)

/-! ### Regs -/

theorem modBank_does (p b : Nat) (f : SnapBank → SnapBank) (s : State) : Does [.port0, .port1] s (modBank p b f s) := by
  unfold modBank
  repeat' (first
    | with_reducible (first
        | exact Does.refl _ _ | assumption | apply Does.ite | apply Does.step (State.modPort_does ..))
    | exact fun _ h => h | exact fun h => h | exact fun _ => ⟨rfl, rfl⟩ | exact ⟨rfl, rfl⟩ | (intro _ (h : HostPort.TablesRise _); repeat' (first | assumption | exact h.1 | exact h.2 | exact h.2.1 | exact h.2.2 | with_reducible apply rises_put | with_reducible apply rises_upd | apply rises_filter | apply rises_map | exact fun _ => rfl | rfl | (intro _; split <;> rfl) | constructor)) | decide | intro _ _ _ | intro _ _ | split | dsimp only)

theorem snapBegin_does (p b : Nat) (w : SnapWait) (s : State) : Does [.port0, .port1] s (snapBegin p b w s) := by
  unfold snapBegin
  repeat' (first
    | with_reducible (first
        | exact Does.refl _ _ | assumption | apply Does.ite | apply Does.step (modBank_does ..))
    | exact fun _ h => h | exact fun h => h | exact fun _ => ⟨rfl, rfl⟩ | exact ⟨rfl, rfl⟩ | decide | intro _ _ _ | intro _ _ | split | dsimp only)

theorem snapTake_does (p b sel : Nat) (data : List Word) (s : State) : Does [.port0, .port1] s (snapTake p b sel data s) := by
  unfold snapTake
  repeat' (first
    | with_reducible (first
        | exact Does.refl _ _ | assumption | apply Does.ite | apply Does.step (modBank_does ..))
    | exact fun _ h => h | exact fun h => h | exact fun _ => ⟨rfl, rfl⟩ | exact ⟨rfl, rfl⟩ | decide | intro _ _ _ | intro _ _ | split | dsimp only)

theorem snapSelect_does (p b : Nat) (w : Word) (s : State) : Does [.port0, .port1] s (snapSelect p b w s) := by
  unfold snapSelect
  repeat' (first
    | with_reducible (first
        | exact Does.refl _ _ | assumption | apply Does.ite | apply Does.step (snapBegin_does ..))
    | exact fun _ h => h | exact fun h => h | exact fun _ => ⟨rfl, rfl⟩ | exact ⟨rfl, rfl⟩ | decide | intro _ _ _ | intro _ _ | split | dsimp only)

theorem snapCapture_does (p b : Nat) (s : State) : Does [.regs, .flt, .port0, .port1, .mem] s (snapCapture p b s) := by
  unfold snapCapture
  repeat' (first
    | with_reducible (first
        | exact Does.refl _ _ | assumption | apply Does.ite | apply Does.step (logRead_does ..) | apply Does.step (snapTake_does ..))
    | exact fun _ h => h | exact fun h => h | exact fun _ => ⟨rfl, rfl⟩ | exact ⟨rfl, rfl⟩ | decide | intro _ _ _ | intro _ _ | split | dsimp only)

/-- A list stays within a bound without its head. -/
theorem tail_within {α : Type} {l : List α} {n : Nat} (h : l.length ≤ n) : l.tail.length ≤ n := by
  rw [List.length_tail]
  exact Nat.le_trans (Nat.sub_le ..) h

theorem txqPop_does (p : Nat) (s : State) : Does [.port0, .port1, .quo] s (txqPop p s) := by
  unfold txqPop
  repeat' (first
    | with_reducible (first
        | exact Does.refl _ _ | assumption | apply Does.ite | apply Does.step (State.modQuo_does ..) | apply Does.step (snapBegin_does ..))
    | exact fun _ h => h | exact fun h => h | exact fun _ => ⟨rfl, rfl⟩ | exact ⟨rfl, rfl⟩ | exact tail_within (by assumption) | decide | intro _ _ _ | intro _ _ | split | dsimp only)

theorem findBegin_does (p : Nat) (ns : Word) (s : State) : Does [.port0, .port1] s (findBegin p ns s) := by
  unfold findBegin
  repeat' (first
    | with_reducible (first
        | exact Does.refl _ _ | assumption | apply Does.ite | apply Does.step (snapBegin_does ..))
    | exact fun _ h => h | exact fun h => h | exact fun _ => ⟨rfl, rfl⟩ | exact ⟨rfl, rfl⟩ | decide | intro _ _ _ | intro _ _ | split | dsimp only)

theorem findDone_does (p : Nat) (s : State) : Does [.port0, .port1] s (findDone p s) := by
  unfold findDone
  repeat' (first
    | with_reducible (first
        | exact Does.refl _ _ | assumption | apply Does.ite | apply Does.step (snapTake_does ..))
    | exact fun _ h => h | exact fun h => h | exact fun _ => ⟨rfl, rfl⟩ | exact ⟨rfl, rfl⟩ | decide | intro _ _ _ | intro _ _ | split | dsimp only)

theorem writeRefused_does (s : State) : Does [.regs, .port0, .port1] s (writeRefused s) := by
  unfold writeRefused
  repeat' (first
    | with_reducible (first
        | exact Does.refl _ _ | assumption | apply Does.ite | apply Does.step (count_does ..) | apply Does.step (event_does ..))
    | exact fun _ h => h | exact fun h => h | exact fun _ => ⟨rfl, rfl⟩ | exact ⟨rfl, rfl⟩ | decide | intro _ _ _ | intro _ _ | split | dsimp only)

theorem badAccess_does (s : State) : Does [.regs, .port0, .port1] s (badAccess s) := by
  unfold badAccess
  repeat' (first
    | with_reducible (first
        | exact Does.refl _ _ | assumption | apply Does.ite | apply Does.step (count_does ..) | apply Does.step (event_does ..))
    | exact fun _ h => h | exact fun h => h | exact fun _ => ⟨rfl, rfl⟩ | exact ⟨rfl, rfl⟩ | decide | intro _ _ _ | intro _ _ | split | dsimp only)

theorem badRequest_does (x : BarAccess) (s : State) : Does [.regs, .port0, .port1] s (badRequest x s) := by
  unfold badRequest
  repeat' (first
    | with_reducible (first
        | exact Does.refl _ _ | assumption | apply Does.ite | apply Does.step (badAccess_does ..)
        | apply Does.step (writeRefused_does ..) | apply Does.step (State.modPort_does ..))
    | exact fun _ h => h | exact fun h => h | exact fun _ => ⟨rfl, rfl⟩ | exact ⟨rfl, rfl⟩ | decide | intro _ _ _ | intro _ _ | split | dsimp only)

theorem ownerWrite_does (p : Nat) (w : Word) (s : State) : Does [.regs, .port0, .port1] s (ownerWrite p w s) := by
  unfold ownerWrite
  repeat' (first
    | with_reducible (first
        | exact Does.refl _ _ | assumption | apply Does.ite | apply Does.step (event_does ..) | apply Does.step (setCell_does ..)
        | apply Does.step (writeRefused_does ..))
    | exact fun _ h => h | exact fun h => h | exact fun _ => ⟨rfl, rfl⟩ | exact ⟨rfl, rfl⟩ | decide | intro _ _ _ | intro _ _ | split | dsimp only)

theorem lockWrite_does (p off : Nat) (w : Word) (s : State) : Does [.regs, .flt, .port0, .port1] s (lockWrite p off w s) := by
  unfold lockWrite
  repeat' (first
    | with_reducible (first
        | exact Does.refl _ _ | assumption | apply Does.ite | apply Does.step (event_does ..) | apply Does.step (raise_does ..))
    | exact fun _ h => h | exact fun h => h | exact fun _ => ⟨rfl, rfl⟩ | exact ⟨rfl, rfl⟩ | decide | intro _ _ _ | intro _ _ | split | dsimp only)

theorem identWritten_does (s : State) : Does [.cns] s (identWritten s) := by
  unfold identWritten
  repeat' (first
    | with_reducible (first
        | exact Does.refl _ _ | assumption | apply Does.ite | apply Does.step (cnsPost_does ..))
    | exact fun _ h => h | exact fun h => h | exact fun _ => ⟨rfl, rfl⟩ | exact ⟨rfl, rfl⟩ | decide | intro _ _ _ | intro _ _ | split | dsimp only)

theorem onceWrite_does (p : Nat) (r : Reg) (w : Word) (s : State) : Does [.btr, .regs, .flt, .port0, .port1, .cns] s (onceWrite p r w s) := by
  unfold onceWrite
  repeat' (first
    | with_reducible (first
        | exact Does.refl _ _ | assumption | apply Does.ite | apply Does.step (State.modBtr_does ..) | apply Does.step (identWritten_does ..)
        | apply Does.step (lockWrite_does ..) | apply Does.step (setCell_does ..))
    | exact fun _ h => h | exact fun h => h | exact fun _ => ⟨rfl, rfl⟩ | exact ⟨rfl, rfl⟩ | decide | intro _ _ _ | intro _ _ | split | dsimp only)

theorem Does.lockBitWrite {L : List Zone} {p off b : Nat} {w : Word} {isSet : Bool} {set : State → State} {s x : State}
    (hz : ([.regs, .flt, .port0, .port1].all fun z => L.contains z) = true) (hf : ∀ t, Does L s t → Does L s (set t)) (h : Does L s x) :
    Does L s (lockBitWrite p off b w isSet set x) := by
  unfold Machine.lockBitWrite
  split
  · exact hf _ h
  · split
    · exact Does.step (lockWrite_does ..) hz h
    · exact h

theorem clearRegs_does (r : Reg) (n : Nat) (s : State) : Does [.regs] s (clearRegs r n s) := by
  unfold clearRegs
  repeat' (first
    | with_reducible (first
        | exact Does.refl _ _ | assumption | apply Does.ite | apply Does.forN | apply Does.step (setCell_does ..))
    | exact fun _ h => h | exact fun h => h | exact fun _ => ⟨rfl, rfl⟩ | exact ⟨rfl, rfl⟩ | decide | intro _ _ _ | intro _ _ | split | dsimp only)

theorem engClear_does (e : Nat) (s : State) : Does [.regs] s (engClear e s) := by
  unfold engClear
  repeat' (first
    | with_reducible (first
        | exact Does.refl _ _ | assumption | apply Does.ite | apply Does.forL | apply Does.step (setCell_does ..))
    | exact fun _ h => h | exact fun h => h | exact fun _ => ⟨rfl, rfl⟩ | exact ⟨rfl, rfl⟩ | decide | intro _ _ _ | intro _ _ | split | dsimp only)

theorem molClear_does (m : Nat) (s : State) : Does [.regs] s (molClear m s) := by
  unfold molClear
  repeat' (first
    | with_reducible (first
        | exact Does.refl _ _ | assumption | apply Does.ite | apply Does.forL | apply Does.step (setCell_does ..))
    | exact fun _ h => h | exact fun h => h | exact fun _ => ⟨rfl, rfl⟩ | exact ⟨rfl, rfl⟩ | decide | intro _ _ _ | intro _ _ | split | dsimp only)

theorem crsClear_does (s : State) : Does [.regs] s (crsClear s) := by
  unfold crsClear
  repeat' (first
    | with_reducible (first
        | exact Does.refl _ _ | assumption | apply Does.ite | apply Does.forN | apply Does.step (clearRegs_does ..)
        | apply Does.step (modCell_does ..) | apply Does.step (setCell_does ..))
    | exact fun _ h => h | exact fun h => h | exact fun _ => ⟨rfl, rfl⟩ | exact ⟨rfl, rfl⟩ | decide | intro _ _ _ | intro _ _ | split | dsimp only)

theorem qryClear_does (s : State) : Does [.regs, .qry] s (qryClear s) := by
  unfold qryClear
  repeat' (first
    | with_reducible (first
        | exact Does.refl _ _ | assumption | apply Does.ite | apply Does.forL | apply Does.step (State.modQry_does ..)
        | apply Does.step (setCell_does ..))
    | exact fun _ h => h | exact fun h => h | exact fun _ => ⟨rfl, rfl⟩ | exact ⟨rfl, rfl⟩ | decide | intro _ _ _ | intro _ _ | split | dsimp only)

theorem mrtClear_does (s : State) : Does [.regs] s (mrtClear s) := by
  unfold mrtClear
  repeat' (first
    | with_reducible (first
        | exact Does.refl _ _ | assumption | apply Does.ite | apply Does.forL | apply Does.step (clearRegs_does ..)
        | apply Does.step (setCell_does ..))
    | exact fun _ h => h | exact fun h => h | exact fun _ => ⟨rfl, rfl⟩ | exact ⟨rfl, rfl⟩ | decide | intro _ _ _ | intro _ _ | split | dsimp only)

theorem lntClear_does (s : State) : Does [.regs] s (lntClear s) := by
  unfold lntClear
  repeat' (first
    | with_reducible (first
        | exact Does.refl _ _ | assumption | apply Does.ite | apply Does.forL | apply Does.step (setCell_does ..))
    | exact fun _ h => h | exact fun h => h | exact fun _ => ⟨rfl, rfl⟩ | exact ⟨rfl, rfl⟩ | decide | intro _ _ _ | intro _ _ | split | dsimp only)

theorem fltClear_does (s : State) : Does [.regs, .flt] s (fltClear s) := by
  unfold fltClear
  repeat' (first
    | with_reducible (first
        | exact Does.refl _ _ | assumption | apply Does.ite | apply Does.step (State.modFlt_does ..) | apply Does.step (setCell_does ..))
    | exact fun _ h => h | exact fun h => h | exact fun _ => ⟨rfl, rfl⟩ | exact ⟨rfl, rfl⟩ | (intro _ (h : Rises _); repeat' (first | assumption | exact h.1 | exact h.2 | exact h.2.1 | exact h.2.2 | with_reducible apply rises_put | with_reducible apply rises_upd | apply rises_filter | apply rises_map | exact fun _ => rfl | rfl | (intro _; split <;> rfl) | constructor)) | decide | intro _ _ _ | intro _ _ | split | dsimp only)

theorem memClear_does (s : State) : Does [.regs] s (memClear s) := by
  unfold memClear
  repeat' (first
    | with_reducible (first
        | exact Does.refl _ _ | assumption | apply Does.ite | apply Does.forL | apply Does.step (clearRegs_does ..)
        | apply Does.step (setCell_does ..))
    | exact fun _ h => h | exact fun h => h | exact fun _ => ⟨rfl, rfl⟩ | exact ⟨rfl, rfl⟩ | decide | intro _ _ _ | intro _ _ | split | dsimp only)

theorem grpClear_does (g : Nat) (s : State) : Does [.regs] s (grpClear g s) := by
  unfold grpClear
  repeat' (first
    | with_reducible (first
        | exact Does.refl _ _ | assumption | apply Does.ite | apply Does.forN | apply Does.step (setCell_does ..))
    | exact fun _ h => h | exact fun h => h | exact fun _ => ⟨rfl, rfl⟩ | exact ⟨rfl, rfl⟩ | decide | intro _ _ _ | intro _ _ | split | dsimp only)

theorem partnersClear_does (g : Nat) (s : State) : Does [.regs, .partners] s (partnersClear g s) := by
  unfold partnersClear
  repeat' (first
    | with_reducible (first
        | exact Does.refl _ _ | assumption | apply Does.ite | apply Does.forN | apply Does.forL | apply Does.step (clearFld_does ..)
        | apply Does.step (modPartner_does ..) | apply Does.step (setCell_does ..))
    | exact fun _ h => h | exact fun h => h | exact fun _ => ⟨rfl, rfl⟩ | exact ⟨rfl, rfl⟩ | decide | intro _ _ _ | intro _ _ | split | dsimp only)

theorem writeEffect_does (p : Nat) (r : Reg) (i j : Nat) (old w : Word) (s : State) : Does [.btr, .regs, .flt, .port0, .port1, .quo, .lanes, .downlinks, .partners, .groups, .qry, .mem, .mrt, .streams, .uplinks, .retLanes, .ldg, .gau, .plb, .cns] s (writeEffect p r i j old w s) := by
  unfold writeEffect
  repeat' (first
    | with_reducible (first
        | exact Does.refl _ _ | assumption | apply Does.ite | apply Does.step (State.modBtr_does ..) | apply Does.step (State.modPort_does ..)
        | apply Does.step (State.modQuo_does ..) | apply Does.step (accResync_does ..) | apply Does.step (blankSeen_does ..)
        | apply Does.step (btrInjectWrite_does ..) | apply Does.step (chCfgWritten_does ..) | apply Does.step (clearRegs_does ..)
        | apply Does.step (crsClear_does ..) | apply Does.step (dlCfgWritten_does ..) | apply Does.step (dlFcWrite_does ..)
        | apply Does.step (engClear_does ..) | apply Does.step (findBegin_does ..) | apply Does.step (fltAckUptoWrite_does ..)
        | apply Does.step (fltAckWrite_does ..) | apply Does.step (fltClear_does ..) | apply Does.step (fltDpCtlWrite_does ..)
        | apply Does.step (flushStream_does ..) | apply Does.step (gauCtlWritten_does ..) | apply Does.step (gauGainWritten_does ..)
        | apply Does.step (grpCfgWritten_does ..) | apply Does.step (grpClear_does ..) | apply Does.step (laneCfgWritten_does ..)
        | apply Does.step (ldgAck_does ..) | apply Does.step (ldgSubmit_does ..) | apply Does.step (lntClear_does ..) | apply Does.lockBitWrite
        | apply Does.step (memClear_does ..) | apply Does.step (memInjectWrite_does ..) | apply Does.step (modCell_does ..)
        | apply Does.step (molClear_does ..) | apply Does.step (mrtClear_does ..) | apply Does.step (outCfgWritten_does ..)
        | apply Does.step (partnersClear_does ..) | apply Does.step (pdelayWrite_does ..) | apply Does.step (plbCtlWrite_does ..)
        | apply Does.step (plbSigWritten_does ..) | apply Does.step (qryClear_does ..) | apply Does.step (quoTxCtlWrite_does ..)
        | apply Does.step (retCheck_does ..) | apply Does.step (setAdvance_does ..) | apply Does.step (setCell_does ..)
        | apply Does.step (snapBegin_does ..) | apply Does.step (snapSelect_does ..) | apply Does.step (startBlocks_does ..)
        | apply Does.step (throttle_does ..) | apply Does.step (txqPop_does ..) | apply Does.step (uplCheck_does ..))
    | exact fun _ h => h | exact fun h => h | exact fun _ => ⟨rfl, rfl⟩ | exact ⟨rfl, rfl⟩ | decide | intro _ _ _ | intro _ _ | split | dsimp only)

theorem cbWrite_does (r : Reg) (i : Nat) (w : Word) (s : State) : Does [.btr, .regs, .port0, .port1] s (cbWrite r i w s) := by
  unfold cbWrite
  repeat' (first
    | with_reducible (first
        | exact Does.refl _ _ | assumption | apply Does.ite | apply Does.step (event_does ..) | apply Does.step (setCb_does ..))
    | exact fun _ h => h | exact fun h => h | exact fun _ => ⟨rfl, rfl⟩ | exact ⟨rfl, rfl⟩ | decide | intro _ _ _ | intro _ _ | split | dsimp only)

theorem sqcWrite_does (r : Reg) (i : Nat) (w : Word) (s : State) : Does [.regs] s (sqcWrite r i w s) := by
  unfold sqcWrite
  repeat' (first
    | with_reducible (first
        | exact Does.refl _ _ | assumption | apply Does.ite | apply Does.step (modCell_does ..))
    | exact fun _ h => h | exact fun h => h | exact fun _ => ⟨rfl, rfl⟩ | exact ⟨rfl, rfl⟩ | decide | intro _ _ _ | intro _ _ | split | dsimp only)

theorem writeReg_does (p : Nat) (r : Reg) (i j : Nat) (w : Word) (s : State) : Does [.btr, .regs, .flt, .port0, .port1, .quo, .lanes, .downlinks, .partners, .groups, .qry, .mem, .mrt, .streams, .uplinks, .retLanes, .ldg, .gau, .plb, .cns] s (writeReg p r i j w s) := by
  unfold writeReg
  repeat' (first
    | with_reducible (first
        | exact Does.refl _ _ | assumption | apply Does.ite | apply Does.step (cbWrite_does ..) | apply Does.step (lockWrite_does ..)
        | apply Does.step (onceWrite_does ..) | apply Does.step (ownerWrite_does ..) | apply Does.step (setCell_does ..)
        | apply Does.step (sqcWrite_does ..) | apply Does.step (writeEffect_does ..))
    | exact fun _ h => h | exact fun h => h | exact fun _ => ⟨rfl, rfl⟩ | exact ⟨rfl, rfl⟩ | decide | intro _ _ _ | intro _ _ | split | dsimp only)

theorem aliasWrite_does (p a : Nat) (w : Word) (s : State) : Does [.btr, .regs, .flt, .port0, .port1, .quo, .lanes, .downlinks, .partners, .groups, .qry, .mem, .mrt, .streams, .uplinks, .retLanes, .ldg, .gau, .plb, .cns] s (aliasWrite p a w s) := by
  unfold aliasWrite
  repeat' (first
    | with_reducible (first
        | exact Does.refl _ _ | assumption | apply Does.ite | apply Does.step (writeRefused_does ..)
        | apply Does.step (writeReg_does ..) | apply Does.step (badAccess_does ..))
    | exact fun _ h => h | exact fun h => h | exact fun _ => ⟨rfl, rfl⟩ | exact ⟨rfl, rfl⟩ | decide | intro _ _ _ | intro _ _ | split | dsimp only)

/-! ### Power -/

theorem State.modPwr_does (f : Power → Power) (s : State) (hf : ∀ y, (f y).trip = y.trip ∧ (f y).inReset = y.inReset)
    (hr : ∀ y, Rises y.domains → Rises (f y).domains) : Does [.pwr] s (s.modPwr f) :=
  Does.put_pwr (by decide) (hf _) (hr _) (Does.refl _ _)

theorem modDomain_does (n : Nat) (f : PowerDomain → PowerDomain) (s : State) : Does [.pwr] s (modDomain n f s) := by
  unfold modDomain
  repeat' (first
    | with_reducible (first
        | exact Does.refl _ _ | assumption | apply Does.ite | apply Does.step (State.modPwr_does ..))
    | exact fun _ h => h | exact fun h => h | exact fun _ => ⟨rfl, rfl⟩ | exact ⟨rfl, rfl⟩ | (intro _ h; repeat' (first | assumption | exact h.1 | exact h.2 | exact h.2.1 | exact h.2.2 | with_reducible apply rises_put | with_reducible apply rises_upd | apply rises_filter | apply rises_map | exact fun _ => rfl | (intro _; split <;> rfl) | constructor)) | decide | intro _ _ _ | intro _ _ | split | dsimp only)

theorem Does.whenUp {L : List Zone} {s x : State} {f : State → State} (hf : ∀ t, Does L s t → Does L s (f t)) (h : Does L s x) :
    Does L s (whenUp f x) := by
  unfold Machine.whenUp; split
  · exact hf _ h
  · exact h

theorem domainLeave_does (n : Nat) (hold : Bool) (s : State) : Does [.regs, .flt, .port0, .port1, .quo, .lanes, .downlinks, .groups, .ash, .ring, .qry, .mrt, .streams, .uplinks, .uplGroups, .retLanes, .lnt, .gau] s (domainLeave n hold s) := by
  unfold domainLeave
  repeat' (first
    | with_reducible (first
        | exact Does.refl _ _ | assumption | apply Does.ite | apply Does.step (bankLost_does ..) | apply Does.step (dlGroupDown_does ..)
        | apply Does.step (engineOff_does ..) | apply Does.step (gaugeOutputsOff_does ..) | apply Does.step (gaugeStop_does ..)
        | apply Does.step (groupAvail_does ..) | apply Does.step (groupDown_does ..) | apply Does.step (lintelOff_does ..)
        | apply Does.step (modUplGroup_does ..) | apply Does.step (portOff_does ..) | apply Does.step (quarterCheck_does ..)
        | apply Does.step (quoLinkLeaving_does ..) | apply Does.step (retCheck_does ..) | apply Does.step (throttle_does ..)
        | apply Does.step (unitCheck_does ..) | apply Does.step (uplGroupCheck_does ..))
    | exact fun _ h => h | exact fun h => h | exact fun _ => ⟨rfl, rfl⟩ | exact ⟨rfl, rfl⟩ | decide | intro _ _ _ | intro _ _ | split | dsimp only)

theorem stacksFollow_does (keeps0 keeps1 : Bool) (s : State) : Does [.regs, .flt, .port0, .port1, .groups, .qry, .hbm] s (stacksFollow keeps0 keeps1 s) := by
  unfold stacksFollow
  repeat' (first
    | with_reducible (first
        | exact Does.refl _ _ | assumption | apply Does.ite | apply Does.step (quarryCheck_does ..) | apply Does.step (stackLost_does ..))
    | exact fun _ h => h | exact fun h => h | exact fun _ => ⟨rfl, rfl⟩ | exact ⟨rfl, rfl⟩ | decide | intro _ _ _ | intro _ _ | split | dsimp only)

theorem domainStart_does (n : Nat) (to_ : PowerPhase) (s : State) : Does [.regs, .flt, .port0, .port1, .quo, .pwr, .lanes, .downlinks, .groups, .ash, .ring, .qry, .hbm, .mrt, .streams, .uplinks, .uplGroups, .retLanes, .lnt, .gau] s (domainStart n to_ s) := by
  unfold domainStart
  repeat' (first
    | with_reducible (first
        | exact Does.refl _ _ | assumption | apply Does.ite | apply Does.step (domainLeave_does ..) | apply Does.step (modDomain_does ..)
        | apply Does.step (stacksFollow_does ..))
    | exact fun _ h => h | exact fun h => h | exact fun _ => ⟨rfl, rfl⟩ | exact ⟨rfl, rfl⟩ | decide | intro _ _ _ | intro _ _ | split | dsimp only)

theorem isolationEnds_does (n : Nat) (s : State) : Does [.flt] s (isolationEnds n s) := by
  unfold isolationEnds
  repeat' (first
    | with_reducible (first
        | exact Does.refl _ _ | assumption | apply Does.ite | apply Does.step (State.modFlt_does ..))
    | exact fun _ h => h | exact fun h => h | exact fun _ => ⟨rfl, rfl⟩ | exact ⟨rfl, rfl⟩ | decide | intro _ _ _ | intro _ _ | split | dsimp only)

theorem groupEmptied_does (g : Nat) (s : State) : Does [.groups, .sram, .mem] s (groupEmptied g s) := by
  unfold groupEmptied
  exact Does.step (dropAccounts_does ..) (by decide)
    (Does.upd (L := [.groups, .sram, .mem]) (x := s) (fun z hz => by cases z <;> first | rfl | exact ⟨rfl, rfl⟩ | exact absurd (by decide) hz)
    (fun m => ⟨m.bytes, m.written, smWf_filter _ m.sram⟩)
    (fun c => ⟨c.log, c.txq, Nat.le_trans (List.length_filter_le ..) c.restore, c.queue, c.failed, c.retired⟩)
    (fun r => ⟨r.cb, r.regs, r.srcs, r.port0, r.port1, r.domains, r.lanes, r.downlinks, r.partners, r.groups, r.engines, r.ring, r.rewritten, r.badMarks, r.mem, r.streams, r.uplinks, r.uplGroups, r.retLanes, r.lntGroups, r.boxes, r.gau, r.slots⟩) (Does.refl _ _))

theorem sramEmptied_does (n : Nat) (s : State) : Does [.mem] s (sramEmptied n s) := by
  unfold sramEmptied
  repeat' (first
    | with_reducible (first
        | exact Does.refl _ _ | assumption | apply Does.ite | apply Does.step (eccEmptied_does ..))
    | exact fun _ h => h | exact fun h => h | exact fun _ => ⟨rfl, rfl⟩ | exact ⟨rfl, rfl⟩ | decide | intro _ _ _ | intro _ _ | split | dsimp only)

theorem domainDown_does (n : Nat) (hold : Bool) (s : State) : Does [.regs, .flt, .port0, .port1, .quo, .lanes, .groups, .sram, .ash, .mem, .lnt, .plb] s (domainDown n hold s) := by
  unfold domainDown
  repeat' (first
    | with_reducible (first
        | exact Does.refl _ _ | assumption | apply Does.ite | apply Does.step (configDefaults_does ..) | apply Does.step (engineOff_does ..)
        | apply Does.step (groupEmptied_does ..) | apply Does.step (groupTapsLost_does ..) | apply Does.step (isolationEnds_does ..)
        | apply Does.step (lintelOff_does ..) | apply Does.step (plbOff_does ..) | apply Does.step (quoLinkOff_does ..)
        | apply Does.step (sramEmptied_does ..))
    | exact fun _ h => h | exact fun h => h | exact fun _ => ⟨rfl, rfl⟩ | exact ⟨rfl, rfl⟩ | decide | intro _ _ _ | intro _ _ | split | dsimp only)

theorem domainUp_does (n : Nat) (fromHold : Bool) (s : State) : Does [.regs, .flt, .port0, .port1, .quo, .lanes, .downlinks, .groups, .ash, .qry, .mem, .mrt, .streams, .uplinks, .gau, .plb] s (domainUp n fromHold s) := by
  unfold domainUp
  repeat' (first
    | with_reducible (first
        | exact Does.refl _ _ | assumption | apply Does.ite | apply Does.step (dlGroupUp_does ..) | apply Does.step (engineSync_does ..)
        | apply Does.step (gaugeAnalogueOn_does ..) | apply Does.step (gaugeOutputsOn_does ..) | apply Does.step (groupAvail_does ..)
        | apply Does.step (groupUp_does ..) | apply Does.step (plbReturn_does ..) | apply Does.step (poolMoved_does ..)
        | apply Does.step (quarryCheck_does ..) | apply Does.step (quoLinkOn_does ..) | apply Does.step (repointerStart_does ..)
        | apply Does.step (throttle_does ..) | apply Does.step (unitCheck_does ..) | apply Does.step (uplGroupCheck_does ..))
    | exact fun _ h => h | exact fun h => h | exact fun _ => ⟨rfl, rfl⟩ | exact ⟨rfl, rfl⟩ | decide | intro _ _ _ | intro _ _ | split | dsimp only)

theorem domFailBit_does (n : Nat) (x : Bool) (s : State) : Does [.regs] s (domFailBit n x s) := by
  unfold domFailBit
  repeat' (first
    | with_reducible (first
        | exact Does.refl _ _ | assumption | apply Does.ite | apply Does.step (modCell_does ..))
    | exact fun _ h => h | exact fun h => h | exact fun _ => ⟨rfl, rfl⟩ | exact ⟨rfl, rfl⟩ | decide | intro _ _ _ | intro _ _ | split | dsimp only)

theorem domainSettled_does (n : Nat) (s : State) : Does [.regs, .flt, .port0, .port1, .quo, .pwr, .lanes, .downlinks, .groups, .sram, .ash, .qry, .hbm, .mem, .mrt, .streams, .uplinks, .lnt, .gau, .plb] s (domainSettled n s) := by
  unfold domainSettled
  repeat' (first
    | with_reducible (first
        | exact Does.refl _ _ | assumption | apply Does.ite | apply Does.step (domFailBit_does ..) | apply Does.step (domainDown_does ..)
        | apply Does.step (domainUp_does ..) | apply Does.step (event_does ..) | apply Does.step (modDomain_does ..)
        | apply Does.step (stacksFollow_does ..))
    | exact fun _ h => h | exact fun h => h | exact fun _ => ⟨rfl, rfl⟩ | exact ⟨rfl, rfl⟩ | decide | intro _ _ _ | intro _ _ | split | dsimp only)

theorem railFault_does (rail measured : Nat) (s : State) : Does [.regs, .flt, .port0, .port1] s (railFault rail measured s) := by
  unfold railFault
  repeat' (first
    | with_reducible (first
        | exact Does.refl _ _ | assumption | apply Does.ite | apply Does.step (count_does ..) | apply Does.step (event_does ..)
        | apply Does.step (raise_does ..))
    | exact fun _ h => h | exact fun h => h | exact fun _ => ⟨rfl, rfl⟩ | exact ⟨rfl, rfl⟩ | decide | intro _ _ _ | intro _ _ | split | dsimp only)

theorem domainFails_does (n : Nat) (opened : Bool) (rail measured : Nat) (s : State) : Does [.regs, .flt, .port0, .port1, .quo, .pwr, .lanes, .groups, .sram, .ash, .qry, .hbm, .mem, .lnt, .plb] s (domainFails n opened rail measured s) := by
  unfold domainFails
  repeat' (first
    | with_reducible (first
        | exact Does.refl _ _ | assumption | apply Does.ite | apply Does.step (count_does ..) | apply Does.step (domFailBit_does ..)
        | apply Does.step (domainDown_does ..) | apply Does.step (event_does ..) | apply Does.step (modDomain_does ..)
        | apply Does.step (railFault_does ..) | apply Does.step (raise_does ..) | apply Does.step (stacksFollow_does ..))
    | exact fun _ h => h | exact fun h => h | exact fun _ => ⟨rfl, rfl⟩ | exact ⟨rfl, rfl⟩ | decide | intro _ _ _ | intro _ _ | split | dsimp only)

theorem railFails_does (rail : Nat) (measured : Word) (s : State) : Does [.regs, .flt, .port0, .port1, .pwr] s (railFails rail measured s) := by
  unfold railFails
  repeat' (first
    | with_reducible (first
        | exact Does.refl _ _ | assumption | apply Does.ite | apply Does.step (railFault_does ..)
        | apply Does.step (State.modPwr_does ..))
    | exact fun _ h => h | exact fun h => h | exact fun _ => ⟨rfl, rfl⟩ | exact ⟨rfl, rfl⟩ | decide | intro _ _ _ | intro _ _ | split | dsimp only)

theorem inputRange_does (mv : Nat) (s : State) : Does [.regs, .flt, .port0, .port1, .pwr] s (inputRange mv s) := by
  unfold inputRange
  repeat' (first
    | with_reducible (first
        | exact Does.refl _ _ | assumption | apply Does.ite | apply Does.step (raise_does ..) | apply Does.step (event_does ..)
        | apply Does.step (State.modPwr_does ..))
    | exact fun _ h => h | exact fun h => h | exact fun _ => ⟨rfl, rfl⟩ | exact ⟨rfl, rfl⟩ | decide | intro _ _ _ | intro _ _ | split | dsimp only)

theorem tempHigh_does (sensor : Nat) (temp : BitVec 16) (s : State) : Does [.regs, .flt, .port0, .port1, .pwr] s (tempHigh sensor temp s) := by
  unfold tempHigh
  repeat' (first
    | with_reducible (first
        | exact Does.refl _ _ | assumption | apply Does.ite | apply Does.step (State.modPwr_does ..) | apply Does.step (event_does ..)
        | apply Does.step (raise_does ..))
    | exact fun _ h => h | exact fun h => h | exact fun _ => ⟨rfl, rfl⟩ | exact ⟨rfl, rfl⟩ | decide | intro _ _ _ | intro _ _ | split | dsimp only)

theorem volatileLost_does (p : Power) (s : State) : Does [.btr, .regs, .flt, .port0, .port1, .quo, .pwr, .lanes, .downlinks, .partners, .bindPending, .groups, .sram, .ash, .ring, .qry, .hbm, .mem, .mrt, .streams, .uplinks, .uplGroups, .retLanes, .lnt, .ldg, .gau, .plb, .cns, .life] s (volatileLost p s) := by
  unfold volatileLost
  exact Does.upd (L := [.btr, .regs, .flt, .port0, .port1, .quo, .pwr, .lanes, .downlinks, .partners, .bindPending, .groups, .sram, .ash, .ring, .qry, .hbm, .mem, .mrt, .streams, .uplinks, .uplGroups, .retLanes, .lnt, .ldg, .gau, .plb, .cns, .life]) (x := s) (fun z hz => by cases z <;> first | rfl | exact ⟨rfl, rfl⟩ | exact absurd (by decide) hz)
    (fun _ => ⟨rfl, rfl, rfl⟩) (fun c => ⟨Nat.zero_le _, Nat.zero_le _, Nat.zero_le _, Nat.zero_le _, c.failed, Nat.zero_le _⟩)
    (fun _ => ⟨rfl, rfl, rfl, ⟨rfl, rfl, rfl⟩, ⟨rfl, rfl, rfl⟩, rfl, rfl, rfl, rfl, rfl, rfl, ⟨rfl, rfl, rfl⟩, rfl, rfl, ⟨rfl, rfl, rfl⟩, rfl, rfl, rfl, rfl, ⟨rfl, rfl⟩, rfl,
      ⟨rfl, rfl, rfl⟩, rfl⟩) (Does.refl _ _)

theorem protectiveTrip_does (cause : TripCause) (mv : Nat) (temps : List (BitVec 16)) (s : State) : Does [.btr, .regs, .flt, .port0, .port1, .quo, .pwr, .lanes, .downlinks, .partners, .bindPending, .groups, .sram, .ash, .ring, .qry, .hbm, .mem, .mrt, .streams, .uplinks, .uplGroups, .retLanes, .lnt, .ldg, .gau, .plb, .cns, .jtag, .life] s (protectiveTrip cause mv temps s) := by
  unfold protectiveTrip
  repeat' (first
    | with_reducible (first
        | exact Does.refl _ _ | assumption | apply Does.ite | apply Does.step (State.modPwr_does ..) | apply Does.step (cnsTrip_does ..)
        | apply Does.step (volatileLost_does ..)
        | apply Does.put_jtag)
    | exact fun _ h => h | exact fun h => h | exact fun _ => ⟨rfl, rfl⟩ | exact ⟨rfl, rfl⟩ | decide | intro _ _ _ | intro _ _ | split | dsimp only)

theorem measuresTaken_does (mv ma dw : Nat) (temps rails : List (BitVec 16)) (s : State) : Does [.regs, .pwr] s (measuresTaken mv ma dw temps rails s) := by
  unfold measuresTaken
  repeat' (first
    | with_reducible (first
        | exact Does.refl _ _ | assumption | apply Does.ite | apply Does.forN | apply Does.step (setCell_does ..)
        | apply Does.step (State.modPwr_does ..))
    | exact fun _ h => h | exact fun h => h | exact fun _ => ⟨rfl, rfl⟩ | exact ⟨rfl, rfl⟩ | decide | intro _ _ _ | intro _ _ | split | dsimp only)

theorem stageRead_does (temp : BitVec 16) (s : State) : Does [.pwr] s (stageRead temp s) :=
  State.modPwr_does _ _ (fun _ => ⟨rfl, rfl⟩) fun _ h => h

theorem measureUpdate_does (mv ma dw : Nat) (temps rails : List (BitVec 16)) (s : State) : Does [.btr, .regs, .flt, .port0, .port1, .quo, .pwr, .lanes, .downlinks, .partners, .bindPending, .groups, .sram, .ash, .ring, .qry, .hbm, .mem, .mrt, .streams, .uplinks, .uplGroups, .retLanes, .lnt, .ldg, .gau, .plb, .cns, .jtag, .life] s (measureUpdate mv ma dw temps rails s) := by
  unfold measureUpdate
  repeat' (first
    | with_reducible (first
        | exact Does.refl _ _ | assumption | apply Does.ite | apply Does.step (measuresTaken_does ..)
        | apply Does.step (protectiveTrip_does ..))
    | exact fun _ h => h | exact fun h => h | exact fun _ => ⟨rfl, rfl⟩ | exact ⟨rfl, rfl⟩ | decide | intro _ _ _ | intro _ _ | split | dsimp only)

theorem inputValid_does (s : State) : Does [.btr, .regs, .flt, .port0, .port1, .quo, .pwr, .lanes, .downlinks, .partners, .bindPending, .groups, .sram, .ash, .ring, .qry, .hbm, .mem, .mrt, .streams, .uplinks, .uplGroups, .retLanes, .lnt, .ldg, .gau, .plb, .cns, .jtag, .life] s (inputValid s) := by
  unfold inputValid
  repeat' (first
    | with_reducible (first
        | exact Does.refl _ _ | assumption | apply Does.ite | apply Does.step (volatileLost_does ..)
        | apply Does.put_jtag)
    | exact fun _ h => h | exact fun h => h | exact fun _ => ⟨rfl, rfl⟩ | exact ⟨rfl, rfl⟩ | decide | intro _ _ _ | intro _ _ | split | dsimp only)

theorem tripLatchClear_does (s : State) : Does [.btr, .regs, .flt, .port0, .port1, .quo, .pwr, .lanes, .downlinks, .partners, .bindPending, .groups, .sram, .ash, .ring, .qry, .hbm, .mem, .mrt, .streams, .uplinks, .uplGroups, .retLanes, .lnt, .ldg, .gau, .plb, .cns, .jtag, .life] s (tripLatchClear s) := by
  unfold tripLatchClear
  split
  · exact Does.refl _ _
  · split
    · exact inputValid_does ..
    split
    · exact Does.upd (x := s) (fun z hz => by cases z <;> first | rfl | exact ⟨rfl, rfl⟩ | exact absurd (by decide) hz)
        (fun m => ⟨m.bytes, m.written, m.sram⟩) (fun c => ⟨c.log, c.txq, c.restore, c.queue, c.failed, c.retired⟩)
        (fun r => ⟨r.cb, r.regs, r.srcs, r.port0, r.port1, r.domains, r.lanes, r.downlinks, r.partners, r.groups, r.engines, r.ring, r.rewritten, r.badMarks, r.mem, r.streams, r.uplinks, r.uplGroups, r.retLanes, r.lntGroups, r.boxes, r.gau, r.slots⟩) (Does.refl _ _)
    · exact Does.refl _ _

theorem foundRstAssert_does (s : State) : Does [.btr, .regs, .flt, .port0, .port1, .quo, .pwr, .lanes, .downlinks, .partners, .bindPending, .groups, .sram, .ash, .ring, .qry, .hbm, .mem, .mrt, .streams, .uplinks, .uplGroups, .retLanes, .lnt, .ldg, .gau, .plb, .cns, .life] s (foundRstAssert s) := by
  unfold foundRstAssert
  repeat' (first
    | with_reducible (first
        | exact Does.refl _ _ | assumption | apply Does.ite | apply Does.step (State.modPwr_does ..)
        | apply Does.step (cnsFlush_does ..) | apply Does.step (cnsPost_does ..) | apply Does.step (volatileLost_does ..))
    | exact fun _ h => h | exact fun h => h | exact fun _ => ⟨rfl, rfl⟩ | exact ⟨rfl, rfl⟩ | decide | intro _ _ _ | intro _ _ | split | dsimp only)

theorem foundationResetDone_does (low : Bool) (control : BitVec 3) (s : State) : Does [.btr, .regs, .flt, .port0, .port1, .quo, .pwr, .lanes, .downlinks, .partners, .bindPending, .groups, .sram, .ash, .ring, .qry, .hbm, .mem, .mrt, .streams, .uplinks, .uplGroups, .retLanes, .lnt, .ldg, .gau, .plb, .cns, .life] s (foundationResetDone low control s) := by
  unfold foundationResetDone
  split
  · split
    · exact Does.step (State.modPwr_does _ _ (fun _ => ⟨rfl, rfl⟩) fun _ h => h) (by decide) (Does.refl _ _)
    · exact Does.step (cnsStart_does ..) (by decide) (Does.upd (L := [.btr, .regs, .flt, .port0, .port1, .quo, .pwr, .lanes, .downlinks, .partners, .bindPending, .groups, .sram, .ash, .ring, .qry, .hbm, .mem, .mrt, .streams, .uplinks, .uplGroups, .retLanes, .lnt, .ldg, .gau, .plb, .cns, .life]) (x := volatileLost s.pwr s) (fun z hz => by cases z <;> first | rfl | exact ⟨rfl, rfl⟩ | exact absurd (by decide) hz)
        (fun m => ⟨m.bytes, m.written, m.sram⟩) (fun c => ⟨c.log, c.txq, c.restore, c.queue, c.failed, c.retired⟩)
        (fun r => ⟨r.cb, r.regs, r.srcs, r.port0, r.port1, rfl, r.lanes, r.downlinks, r.partners, r.groups, r.engines, r.ring, r.rewritten, r.badMarks, r.mem, r.streams, r.uplinks, r.uplGroups, r.retLanes, r.lntGroups, r.boxes, r.gau, r.slots⟩) (Does.step (volatileLost_does ..) (by decide) (Does.refl _ _)))
  · exact Does.refl _ _

theorem jtagInstruction_does (op : JtagOp) (s : State) : Does [.jtag] s (jtagInstruction op s) := by
  have put : ∀ v, Does [.jtag] s { s with jtag := v } := fun v => Does.put_jtag (by decide) (Does.refl _ _)
  unfold jtagInstruction
  dsimp only
  repeat' (first | exact Does.refl _ _ | exact put _ | split)

/-! ### Jobs -/

theorem hostStore_does (p addr : Nat) (ws : List DWord) (s : State) : Does [.port0, .port1] s (hostStore p addr ws s) := by
  unfold hostStore
  repeat' (first
    | with_reducible (first
        | exact Does.refl _ _ | assumption | apply Does.ite | apply Does.step (State.modPort_does ..))
    | exact fun _ h => h | exact fun h => h | exact fun _ => ⟨rfl, rfl⟩ | exact ⟨rfl, rfl⟩ | decide | intro _ _ _ | intro _ _ | split | dsimp only)

theorem setWait_does (m : Nat) (w : LdgWait) (s : State) : Does [.ldg] s (setWait m w s) := by
  unfold setWait
  exact Does.step (modBox_does ..) (by decide) (Does.refl _ _)

/-- A command that writes an image ends, or writes the next words; `done` is what its end does besides. -/
theorem Does.imageGoes {L : List Zone} {m : Nat} {w : ImageRun} {off : Bool} {done : State → State} {s x : State}
    (hz : ([.regs, .flt, .port0, .port1, .ldg].all fun z => L.contains z) = true) (hd : ∀ t, Does L s t → Does L s (done t)) (h : Does L s x) :
    Does L s (imageGoes m w off done x) := by
  have sub : ∀ {M : List Zone}, (M.all fun z => ([.regs, .flt, .port0, .port1, .ldg] : List Zone).contains z) = true → (M.all fun z => L.contains z) = true := by
    intro M hM
    refine List.all_eq_true.2 fun z hm => List.all_eq_true.1 hz z ?_
    have := List.all_eq_true.1 hM z hm
    simpa using this
  have hs := Does.step (hostStore_does (boxPort m) w.addr (w.todo.take writeWords) x) (sub (by decide)) h
  unfold Machine.imageGoes
  dsimp only
  split
  · exact Does.step (ldgComplete_does ..) (sub (by decide)) h
  · split
    · exact Does.step (ldgComplete_does ..) (sub (by decide)) h
    · split
      · exact Does.step (ldgComplete_does ..) (sub (by decide)) (hd _ hs)
      · exact Does.step (setWait_does ..) (sub (by decide)) hs

theorem exportGroup_does (c g : Nat) (ws : List DWord) (burst : List Nat) (who : Word) (s : State) : Does [.regs, .flt, .port0, .port1, .hbm] s (exportGroup c g ws burst who s).2.2 := by
  unfold exportGroup
  repeat' (first
    | with_reducible (first
        | exact Does.refl _ _ | assumption | apply Does.ite | apply Does.step (readFailed_does ..))
    | exact fun _ h => h | exact fun h => h | exact fun _ => ⟨rfl, rfl⟩ | exact ⟨rfl, rfl⟩ | decide | intro _ _ _ | intro _ _ | split | dsimp only)

theorem exportCourse_does (c hist : Nat) (gs : List Nat) (broken : Bool) (burst : List Nat) (who : Word) (s : State) : Does [.regs, .flt, .port0, .port1, .hbm] s (exportCourse c hist gs broken burst who s).2.2 := by
  unfold exportCourse
  repeat' (first
    | with_reducible (first
        | exact Does.refl _ _ | assumption | apply Does.ite | apply Does.foldl | apply Does.foldl1 | apply Does.foldl2 | apply Does.foldl22
        | apply Does.step (exportGroup_does ..))
    | exact fun _ h => h | exact fun h => h | exact fun _ => ⟨rfl, rfl⟩ | exact ⟨rfl, rfl⟩ | decide | intro _ _ _ | intro _ _ | split | dsimp only)

theorem exportStone_does (c n : Nat) (broken : Bool) (burst : List Nat) (who : Word) (s : State) : Does [.regs, .flt, .port0, .port1, .hbm] s (exportStone c n broken burst who s).2.2 := by
  unfold exportStone
  repeat' (first
    | with_reducible (first
        | exact Does.refl _ _ | assumption | apply Does.ite | apply Does.step (readFailed_does ..))
    | exact fun _ h => h | exact fun h => h | exact fun _ => ⟨rfl, rfl⟩ | exact ⟨rfl, rfl⟩ | decide | intro _ _ _ | intro _ _ | split | dsimp only)

theorem recallCourse_does (c hist : Nat) (mask : BitVec 64) (broken : Bool) (burst : List Nat) (who : Word) (g : Gather) (s : State) : Does [.regs, .flt, .port0, .port1, .hbm] s (recallCourse c hist mask broken burst who g s).2 := by
  unfold recallCourse
  repeat' (first
    | with_reducible (first
        | exact Does.refl _ _ | assumption | apply Does.ite | apply Does.step (readCourse_does (by assumption)))
    | exact fun _ h => h | exact fun h => h | exact fun _ => ⟨rfl, rfl⟩ | exact ⟨rfl, rfl⟩ | decide | intro _ _ _ | intro _ _ | split | dsimp only)

theorem checkGroup_does (c g : Nat) (ws : List DWord) (burst : List Nat) (who : Word) (s : State) : Does [.regs, .flt, .port0, .port1, .hbm] s (checkGroup c g ws burst who s).2 := by
  unfold checkGroup
  repeat' (first
    | with_reducible (first
        | exact Does.refl _ _ | assumption | apply Does.ite | apply Does.step (readFailed_does ..))
    | exact fun _ h => h | exact fun h => h | exact fun _ => ⟨rfl, rfl⟩ | exact ⟨rfl, rfl⟩ | decide | intro _ _ _ | intro _ _ | split | dsimp only)

theorem checkCourse_does (c : Nat) (gs : List Nat) (broken : Bool) (burst : List Nat) (who : Word) (j : LdgJob) (s : State) :
    Does [.regs, .flt, .port0, .port1, .hbm] s (checkCourse c gs broken burst who j s).2 := by
  unfold checkCourse
  split
  · exact Does.refl _ _
  · dsimp only
    apply Does.foldl2
    · intro a g h
      have k := Does.step (checkGroup_does c g (entryMet s burst c) burst who a.2) (by decide) h
      split
      · rename_i e; rw [e] at k; exact k
      · rename_i e; rw [e] at k; exact k
      · rename_i e; rw [e] at k; exact k
    · exact Does.refl _ _

theorem jobEnd_does (m status : Nat) (res : List Word) (s : State) : Does [.regs, .flt, .port0, .port1, .qry, .ldg] s (jobEnd m status res s) := by
  unfold jobEnd
  repeat' (first
    | with_reducible (first
        | exact Does.refl _ _ | assumption | apply Does.ite | apply Does.step (ldgComplete_does ..) | apply Does.step (replaceRead_does ..))
    | exact fun _ h => h | exact fun h => h | exact fun _ => ⟨rfl, rfl⟩ | exact ⟨rfl, rfl⟩ | decide | intro _ _ _ | intro _ _ | split | dsimp only)

theorem jobPut_does (m : Nat) (j : LdgJob) (s : State) : Does [.ldg] s (jobPut m j s) := by
  unfold jobPut
  repeat' (first
    | with_reducible (first
        | exact Does.refl _ _ | assumption | apply Does.ite | apply Does.step (modBox_does ..))
    | exact fun _ h => h | exact fun h => h | exact fun _ => ⟨rfl, rfl⟩ | exact ⟨rfl, rfl⟩ | decide | intro _ _ _ | intro _ _ | split | dsimp only)

theorem jobAsk_does (m : Nat) (x : LdgCmd) (j : LdgJob) (s : State) : Does [.qry, .ldg] s (jobAsk m x j s) := by
  unfold jobAsk
  repeat' (first
    | with_reducible (first
        | exact Does.refl _ _ | assumption | apply Does.ite | apply Does.step (enqueueRead_does ..) | apply Does.step (jobPut_does ..))
    | exact fun _ h => h | exact fun h => h | exact fun _ => ⟨rfl, rfl⟩ | exact ⟨rfl, rfl⟩ | decide | intro _ _ _ | intro _ _ | split | dsimp only)

theorem jobSize_does (m : Nat) (x : LdgCmd) (s : State) : Does [.regs, .flt, .port0, .port1, .qry, .hbm, .ldg] s (jobSize m x s) := by
  unfold jobSize
  repeat' (first
    | with_reducible (first
        | exact Does.refl _ _ | assumption | apply Does.ite | apply Does.step (ldgComplete_does ..) | apply Does.step (jobAsk_does ..))
    | exact fun _ h => h | exact fun h => h | exact fun _ => ⟨rfl, rfl⟩ | exact ⟨rfl, rfl⟩ | decide | intro _ _ _ | intro _ _ | split | dsimp only)

theorem jobDone_does (m : Nat) (x : LdgCmd) (j : LdgJob) (s : State) : Does [.regs, .flt, .port0, .port1, .qry, .ldg] s (jobDone m x j s) := by
  unfold jobDone
  repeat' (first
    | with_reducible (first
        | exact Does.refl _ _ | assumption | apply Does.ite | apply Does.imageGoes | apply Does.step (jobEnd_does ..)
        | apply Does.step (hostStore_does ..) | apply Does.step (setWait_does ..) | apply Does.step (replaceRead_does ..))
    | exact fun _ h => h | exact fun h => h | exact fun _ => ⟨rfl, rfl⟩ | exact ⟨rfl, rfl⟩ | decide | intro _ _ _ | intro _ _ | split | dsimp only)

theorem jobCourse_does (m : Nat) (x : LdgCmd) (c : Nat) (r : QReq) (burst : List Nat) (j : LdgJob) (s : State) : Does [.regs, .flt, .port0, .port1, .hbm] s (jobCourse m x c r burst j s).2 := by
  unfold jobCourse
  repeat' (first
    | with_reducible (first
        | exact Does.refl _ _ | assumption | apply Does.ite | apply Does.foldl | apply Does.foldl1 | apply Does.foldl2 | apply Does.foldl22 | apply Does.step (exportStone_does ..)
        | apply Does.step (exportCourse_does ..) | apply Does.step (hostStore_does ..) | apply Does.step (recallCourse_does ..)
        | apply Does.step (checkCourse_does ..))
    | exact fun _ h => h | exact fun h => h | exact fun _ => ⟨rfl, rfl⟩ | exact ⟨rfl, rfl⟩ | decide | intro _ _ _ | intro _ _ | split | dsimp only)

theorem jobStep_does (m : Nat) (x : LdgCmd) (jo : Option LdgJob) (burst : List Nat) (s : State) : Does [.regs, .flt, .port0, .port1, .qry, .hbm, .ldg] s (jobStep m x jo burst s) := by
  unfold jobStep
  repeat' (first
    | with_reducible (first
        | exact Does.refl _ _ | assumption | apply Does.ite | apply Does.step (ldgComplete_does ..) | apply Does.step (jobSize_does ..)
        | apply Does.step (jobEnd_does ..) | apply Does.step (jobDone_does ..) | apply Does.step (jobAsk_does ..)
        | apply Does.step (replaceRead_does ..) | apply Does.step (jobCourse_does ..) | apply Does.step (jobPut_does ..))
    | exact fun _ h => h | exact fun h => h | exact fun _ => ⟨rfl, rfl⟩ | exact ⟨rfl, rfl⟩ | decide | intro _ _ _ | intro _ _ | split | dsimp only)

/-! ### Lodge -/

theorem Does.lodgeRow {L : List Zone} {op m : Nat} {start : LdgCmd → State → State} {goOn : LdgRun → State → State} {s x : State}
    (hs : ∀ c t, Does L s t → Does L s (start c t)) (hg : ∀ r t, Does L s t → Does L s (goOn r t)) (h : Does L s x) :
    Does L s (lodgeRow op m start goOn x) := by
  unfold Machine.lodgeRow
  split
  · split
    · exact hg _ _ h
    · exact h
  · split
    · split
      · exact hs _ _ h
      · exact h
    · exact h

theorem Does.ldgChecks {L : List Zone} {m : Nat} {c : LdgCmd} {bad off : Bool} {own : State → State} {s x : State}
    (hz : ([.regs, .flt, .port0, .port1, .ldg].all fun z => L.contains z) = true) (ho : ∀ t, Does L s t → Does L s (own t)) (h : Does L s x) :
    Does L s (ldgChecks m c bad off own x) := by
  unfold Machine.ldgChecks
  split
  · exact Does.step (ldgAtOnce_does ..) hz h
  · split
    · exact Does.step (ldgAtOnce_does ..) hz h
    · split
      · exact Does.step (ldgAtOnce_does ..) hz h
      · exact ho _ h

theorem unknownOpcode_does (m : Nat) (s : State) : Does [.regs, .flt, .port0, .port1, .ldg] s (unknownOpcode m s) := by
  unfold unknownOpcode
  repeat' (first
    | with_reducible (first
        | exact Does.refl _ _ | assumption | apply Does.ite | apply Does.step (ldgAtOnce_does ..))
    | exact fun _ h => h | exact fun h => h | exact fun _ => ⟨rfl, rfl⟩ | exact ⟨rfl, rfl⟩ | decide | intro _ _ _ | intro _ _ | split | dsimp only)

theorem Does.setLoad {L : List Zone} {m : Nat} {y : LoadRun × State} {s : State} (hz : ([.ldg].all fun z => L.contains z) = true) (h : Does L s y.2) :
    Does L s (setLoad m y) := Does.step (setWait_does ..) hz h

theorem powerNext_does (m : Nat) (to_ : PowerPhase) (failed named changed l : List Nat) (s : State) : Does [.regs, .flt, .port0, .port1, .quo, .pwr, .lanes, .downlinks, .groups, .ash, .ring, .qry, .hbm, .mrt, .streams, .uplinks, .uplGroups, .retLanes, .lnt, .ldg, .gau] s (powerNext m to_ failed named changed l s) := by
  induction l generalizing s with
  | nil => unfold powerNext; exact Does.step (ldgComplete_does ..) (by decide) (Does.refl _ _)
  | cons a t ih =>
    unfold powerNext
    repeat' (first
      | with_reducible apply Does.step (ih ..)
        | with_reducible (first
            | exact Does.refl _ _ | assumption | apply Does.ite | apply Does.step (domainStart_does ..) | apply Does.step (ldgComplete_does ..)
            | apply Does.step (setWait_does ..))
        | exact fun _ h => h | exact fun h => h | exact fun _ => ⟨rfl, rfl⟩ | exact ⟨rfl, rfl⟩ | decide | intro _ _ _ | intro _ _ | split | dsimp only)

theorem powerGoesOn_does (n : Nat) (fails : Bool) (s : State) : Does [.regs, .flt, .port0, .port1, .quo, .pwr, .lanes, .downlinks, .groups, .ash, .ring, .qry, .hbm, .mrt, .streams, .uplinks, .uplGroups, .retLanes, .lnt, .ldg, .gau] s (powerGoesOn n fails s) := by
  unfold powerGoesOn
  repeat' (first
    | with_reducible (first
        | exact Does.refl _ _ | assumption | apply Does.ite | apply Does.foldl | apply Does.foldl1 | apply Does.foldl2 | apply Does.foldl22
        | apply Does.step (powerNext_does ..))
    | exact fun _ h => h | exact fun h => h | exact fun _ => ⟨rfl, rfl⟩ | exact ⟨rfl, rfl⟩ | decide | intro _ _ _ | intro _ _ | split | dsimp only)

theorem powerSetStart_does (m : Nat) (x : LdgCmd) (s : State) : Does [.regs, .flt, .port0, .port1, .quo, .pwr, .lanes, .downlinks, .groups, .ash, .ring, .qry, .hbm, .mrt, .streams, .uplinks, .uplGroups, .retLanes, .lnt, .ldg, .gau] s (powerSetStart m x s) := by
  unfold powerSetStart
  repeat' (first
    | with_reducible (first
        | exact Does.refl _ _ | assumption | apply Does.ite | apply Does.step (ldgAtOnce_does ..) | apply Does.ldgChecks
        | apply Does.step (ldgRun_does ..) | apply Does.step (powerNext_does ..))
    | exact fun _ h => h | exact fun h => h | exact fun _ => ⟨rfl, rfl⟩ | exact ⟨rfl, rfl⟩ | decide | intro _ _ _ | intro _ _ | split | dsimp only)

theorem domainChangeDone_does (n : Nat) (s : State) : Does [.regs, .flt, .port0, .port1, .quo, .pwr, .lanes, .downlinks, .groups, .sram, .ash, .ring, .qry, .hbm, .mem, .mrt, .streams, .uplinks, .uplGroups, .retLanes, .lnt, .ldg, .gau, .plb] s (domainChangeDone n s) := by
  unfold domainChangeDone
  repeat' (first
    | with_reducible (first
        | exact Does.refl _ _ | assumption | apply Does.ite | apply Does.step (domainSettled_does ..) | apply Does.step (powerGoesOn_does ..))
    | exact fun _ h => h | exact fun h => h | exact fun _ => ⟨rfl, rfl⟩ | exact ⟨rfl, rfl⟩ | decide | intro _ _ _ | intro _ _ | split | dsimp only)

theorem pwrDomainFail_does (n : Nat) (opened : Bool) (rail measured : Nat) (s : State) : Does [.regs, .flt, .port0, .port1, .quo, .pwr, .lanes, .downlinks, .groups, .sram, .ash, .ring, .qry, .hbm, .mem, .mrt, .streams, .uplinks, .uplGroups, .retLanes, .lnt, .ldg, .gau, .plb] s (pwrDomainFail n opened rail measured s) := by
  unfold pwrDomainFail
  repeat' (first
    | with_reducible (first
        | exact Does.refl _ _ | assumption | apply Does.ite | apply Does.step (domainFails_does ..) | apply Does.step (powerGoesOn_does ..))
    | exact fun _ h => h | exact fun h => h | exact fun _ => ⟨rfl, rfl⟩ | exact ⟨rfl, rfl⟩ | decide | intro _ _ _ | intro _ _ | split | dsimp only)

theorem powerQueryStart_does (m : Nat) (x : LdgCmd) (s : State) : Does [.regs, .flt, .port0, .port1, .ldg] s (powerQueryStart m x s) := by
  unfold powerQueryStart
  repeat' (first
    | with_reducible (first
        | exact Does.refl _ _ | assumption | apply Does.ite | apply Does.step (ldgAtOnce_does ..) | apply Does.ldgChecks)
    | exact fun _ h => h | exact fun h => h | exact fun _ => ⟨rfl, rfl⟩ | exact ⟨rfl, rfl⟩ | decide | intro _ _ _ | intro _ _ | split | dsimp only)

theorem partnerBindStart_does (m : Nat) (x : LdgCmd) (s : State) : Does [.regs, .flt, .port0, .port1, .bindPending, .ldg] s (partnerBindStart m x s) := by
  unfold partnerBindStart
  repeat' (first
    | with_reducible (first
        | exact Does.refl _ _ | assumption | apply Does.ite | apply Does.step (ldgAtOnce_does ..) | apply Does.ldgChecks
        | apply Does.step (ldgRun_does ..) | apply Does.put_bindPending)
    | exact fun _ h => h | exact fun h => h | exact fun _ => ⟨rfl, rfl⟩ | exact ⟨rfl, rfl⟩ | decide | intro _ _ _ | intro _ _ | split | dsimp only)

theorem bindComplete_does (c m p : Nat) (s : State) : Does [.regs, .flt, .port0, .port1, .ldg] s (bindComplete c m p s) := by
  unfold bindComplete
  repeat' (first
    | with_reducible (first
        | exact Does.refl _ _ | assumption | apply Does.ite | apply Does.step (ldgComplete_does ..))
    | exact fun _ h => h | exact fun h => h | exact fun _ => ⟨rfl, rfl⟩ | exact ⟨rfl, rfl⟩ | decide | intro _ _ _ | intro _ _ | split | dsimp only)

theorem partnerConfigStart_does (m : Nat) (x : LdgCmd) (s : State) : Does [.regs, .flt, .port0, .port1, .partners, .ldg] s (partnerConfigStart m x s) := by
  unfold partnerConfigStart
  repeat' (first
    | with_reducible (first
        | exact Does.refl _ _ | assumption | apply Does.ite | apply Does.step (ldgAtOnce_does ..) | apply Does.ldgChecks
        | apply Does.step (ldgRun_does ..) | apply Does.step (modPartner_does ..))
    | exact fun _ h => h | exact fun h => h | exact fun _ => ⟨rfl, rfl⟩ | exact ⟨rfl, rfl⟩ | decide | intro _ _ _ | intro _ _ | split | dsimp only)

theorem partnerConfigGoes_does (m : Nat) (r : LdgRun) (s : State) : Does [.regs, .flt, .port0, .port1, .partners, .ldg] s (partnerConfigGoes m r s) := by
  unfold partnerConfigGoes
  repeat' (first
    | with_reducible (first
        | exact Does.refl _ _ | assumption | apply Does.ite | apply Does.step (ldgComplete_does ..) | apply Does.step (modPartner_does ..))
    | exact fun _ h => h | exact fun h => h | exact fun _ => ⟨rfl, rfl⟩ | exact ⟨rfl, rfl⟩ | decide | intro _ _ _ | intro _ _ | split | dsimp only)

theorem configAnswered_does (s : State) : Does [.regs, .flt, .port0, .port1, .partners, .ldg] s (configAnswered s) := by
  unfold configAnswered
  repeat' (first
    | with_reducible (first
        | exact Does.refl _ _ | assumption | apply Does.ite | apply Does.foldl | apply Does.foldl1 | apply Does.foldl2 | apply Does.foldl22
        | apply Does.step (ldgComplete_does ..) | apply Does.step (modPartner_does ..))
    | exact fun _ h => h | exact fun h => h | exact fun _ => ⟨rfl, rfl⟩ | exact ⟨rfl, rfl⟩ | decide | intro _ _ _ | intro _ _ | split | dsimp only)

theorem burirFrame_does (l : Nat) (chars : List Byte) (closed codeError : Bool) (lag : Nat) (s : State) : Does [.regs, .flt, .port0, .port1, .lanes, .partners, .groups, .ash, .mem, .ldg] s (burirFrame l chars closed codeError lag s) := by
  unfold burirFrame
  repeat' (first
    | with_reducible (first
        | exact Does.refl _ _ | assumption | apply Does.ite | apply Does.step (blockRx_does ..) | apply Does.step (configAnswered_does ..))
    | exact fun _ h => h | exact fun h => h | exact fun _ => ⟨rfl, rfl⟩ | exact ⟨rfl, rfl⟩ | decide | intro _ _ _ | intro _ _ | split | dsimp only)

theorem partnerCfgTimeout_does (p : Nat) (s : State) : Does [.regs, .flt, .port0, .port1, .partners, .ldg] s (partnerCfgTimeout p s) := by
  unfold partnerCfgTimeout
  repeat' (first
    | with_reducible (first
        | exact Does.refl _ _ | assumption | apply Does.ite | apply Does.step (cfgTimeout_does ..) | apply Does.step (configAnswered_does ..))
    | exact fun _ h => h | exact fun h => h | exact fun _ => ⟨rfl, rfl⟩ | exact ⟨rfl, rfl⟩ | decide | intro _ _ _ | intro _ _ | split | dsimp only)

theorem laneTrainStart_does (m : Nat) (x : LdgCmd) (s : State) : Does [.regs, .flt, .port0, .port1, .quo, .lanes, .downlinks, .groups, .ldg] s (laneTrainStart m x s) := by
  unfold laneTrainStart
  repeat' (first
    | with_reducible (first
        | exact Does.refl _ _ | assumption | apply Does.ite | apply Does.foldl | apply Does.foldl1 | apply Does.foldl2 | apply Does.foldl22
        | apply Does.step (laneRelease_does ..) | apply Does.step (laneRetrain_does ..) | apply Does.step (ldgAtOnce_does ..) | apply Does.ldgChecks)
    | exact fun _ h => h | exact fun h => h | exact fun _ => ⟨rfl, rfl⟩ | exact ⟨rfl, rfl⟩ | decide | intro _ _ _ | intro _ _ | split | dsimp only)

theorem measureDrop_does (named : List Nat) (s : State) : Does [.quo] s (measureDrop named s) := by
  unfold measureDrop
  repeat' (first
    | with_reducible (first
        | exact Does.refl _ _ | assumption | apply Does.ite | apply Does.step (State.modQuo_does ..))
    | exact fun _ h => h | exact fun h => h | exact fun _ => ⟨rfl, rfl⟩ | exact ⟨rfl, rfl⟩ | decide | intro _ _ _ | intro _ _ | split | dsimp only)

theorem measureCheck_does (m : Nat) (s : State) : Does [.regs, .flt, .port0, .port1, .quo, .ldg] s (measureCheck m s) := by
  unfold measureCheck
  repeat' (first
    | with_reducible (first
        | exact Does.refl _ _ | assumption | apply Does.ite | apply Does.step (ldgComplete_does ..) | apply Does.step (measureDrop_does ..))
    | exact fun _ h => h | exact fun h => h | exact fun _ => ⟨rfl, rfl⟩ | exact ⟨rfl, rfl⟩ | decide | intro _ _ _ | intro _ _ | split | dsimp only)

theorem measureChecks_does (s : State) : Does [.regs, .flt, .port0, .port1, .quo, .ldg] s (measureChecks s) := by
  unfold measureChecks
  repeat' (first
    | with_reducible (first
        | exact Does.refl _ _ | assumption | apply Does.ite | apply Does.forN | apply Does.step (measureCheck_does ..))
    | exact fun _ h => h | exact fun h => h | exact fun _ => ⟨rfl, rfl⟩ | exact ⟨rfl, rfl⟩ | decide | intro _ _ _ | intro _ _ | split | dsimp only)

theorem delayMeasureStart_does (m : Nat) (x : LdgCmd) (s : State) : Does [.regs, .flt, .port0, .port1, .quo, .downlinks, .ldg] s (delayMeasureStart m x s) := by
  unfold delayMeasureStart
  repeat' (first
    | with_reducible (first
        | exact Does.refl _ _ | assumption | apply Does.ite | apply Does.forL | apply Does.ldgChecks | apply Does.step (ldgRun_does ..)
        | apply Does.step (measureCheck_does ..) | apply Does.step (startMeasure_does ..))
    | exact fun _ h => h | exact fun h => h | exact fun _ => ⟨rfl, rfl⟩ | exact ⟨rfl, rfl⟩ | decide | intro _ _ _ | intro _ _ | split | dsimp only)

theorem delayMeasureGoes_does (m : Nat) (r : LdgRun) (s : State) : Does [.regs, .flt, .port0, .port1, .quo, .downlinks, .ldg] s (delayMeasureGoes m r s) := by
  unfold delayMeasureGoes
  repeat' (first
    | with_reducible (first
        | exact Does.refl _ _ | assumption | apply Does.ite | apply Does.forL | apply Does.step (abandonMeasure_does ..)
        | apply Does.step (ldgComplete_does ..) | apply Does.step (measureCheck_does ..) | apply Does.step (measureDrop_does ..))
    | exact fun _ h => h | exact fun h => h | exact fun _ => ⟨rfl, rfl⟩ | exact ⟨rfl, rfl⟩ | decide | intro _ _ _ | intro _ _ | split | dsimp only)

theorem echoRow_does (l n trip : Nat) (s : State) : Does [.regs, .flt, .port0, .port1, .quo, .ldg] s (echoRow l n trip s) := by
  unfold echoRow
  repeat' (first
    | with_reducible (first
        | exact Does.refl _ _ | assumption | apply Does.ite | apply Does.step (echoReceived_does ..) | apply Does.step (measureChecks_does ..))
    | exact fun _ h => h | exact fun h => h | exact fun _ => ⟨rfl, rfl⟩ | exact ⟨rfl, rfl⟩ | decide | intro _ _ _ | intro _ _ | split | dsimp only)

theorem loadRun_does (m : Nat) (x : LdgCmd) (g i0 granules : Nat) (es : List (BitVec 16)) (s : State) : Does [.sram, .ldg] s (loadRun m x g i0 granules es s) := by
  unfold loadRun
  repeat' (first
    | with_reducible (first
        | exact Does.refl _ _ | assumption | apply Does.ite | apply Does.step (ldgRun_does ..) | apply Does.step (pieceBegin_does ..))
    | exact fun _ h => h | exact fun h => h | exact fun _ => ⟨rfl, rfl⟩ | exact ⟨rfl, rfl⟩ | apply Does.setLoad (by decide) | decide | intro _ _ _ | intro _ _ | split | dsimp only)

theorem loadGoes_does (m : Nat) (r : LdgRun) (s : State) : Does [.regs, .flt, .port0, .port1, .sram, .mem, .ldg] s (loadGoes m r s) := by
  unfold loadGoes
  repeat' (first
    | with_reducible (first
        | exact Does.refl _ _ | assumption | apply Does.ite | apply Does.step (ldgComplete_does ..) | apply Does.step (pieceBegin_does ..)
        | apply Does.step (pieceBreak_does ..) | apply Does.step (pieceEnd_does ..))
    | exact fun _ h => h | exact fun h => h | exact fun _ => ⟨rfl, rfl⟩ | exact ⟨rfl, rfl⟩ | apply Does.setLoad (by decide) | decide | intro _ _ _ | intro _ _ | split | dsimp only)

theorem loadStart_does (m : Nat) (x : LdgCmd) (s : State) : Does [.regs, .flt, .port0, .port1, .groups, .sram, .hbm, .mem, .ldg] s (loadStart m x s) := by
  unfold loadStart
  repeat' (first
    | with_reducible (first
        | exact Does.refl _ _ | assumption | apply Does.ite | apply Does.step (ldgAtOnce_does ..) | apply Does.ldgChecks
        | apply Does.step (loadArchive_does ..) | apply Does.step (loadRun_does ..))
    | exact fun _ h => h | exact fun h => h | exact fun _ => ⟨rfl, rfl⟩ | exact ⟨rfl, rfl⟩ | decide | intro _ _ _ | intro _ _ | split | dsimp only)

theorem calSwapStart_does (m : Nat) (x : LdgCmd) (s : State) : Does [.btr, .regs, .flt, .port0, .port1, .ldg] s (calSwapStart m x s) := by
  unfold calSwapStart
  repeat' (first
    | with_reducible (first
        | exact Does.refl _ _ | assumption | apply Does.ite | apply Does.forL | apply Does.step (ldgAtOnce_does ..) | apply Does.ldgChecks
        | apply Does.step (ldgRun_does ..) | apply Does.step (setCb_does ..))
    | exact fun _ h => h | exact fun h => h | exact fun _ => ⟨rfl, rfl⟩ | exact ⟨rfl, rfl⟩ | decide | intro _ _ _ | intro _ _ | split | dsimp only)

theorem domainSelectStart_does (m : Nat) (x : LdgCmd) (s : State) : Does [.btr, .regs, .flt, .port0, .port1, .ldg] s (domainSelectStart m x s) := by
  unfold domainSelectStart
  repeat' (first
    | with_reducible (first
        | exact Does.refl _ _ | assumption | apply Does.ite | apply Does.ldgChecks | apply Does.step (ldgRun_does ..)
        | apply Does.step (setCb_does ..))
    | exact fun _ h => h | exact fun h => h | exact fun _ => ⟨rfl, rfl⟩ | exact ⟨rfl, rfl⟩ | decide | intro _ _ _ | intro _ _ | split | dsimp only)

theorem engineMigrateStart_does (m : Nat) (x : LdgCmd) (s : State) : Does [.regs, .flt, .port0, .port1, .ash, .ldg] s (engineMigrateStart m x s) := by
  unfold engineMigrateStart
  repeat' (first
    | with_reducible (first
        | exact Does.refl _ _ | assumption | apply Does.ite | apply Does.step (ldgAtOnce_does ..) | apply Does.ldgChecks
        | apply Does.step (ldgRun_does ..) | apply Does.step (migrateAccept_does ..))
    | exact fun _ h => h | exact fun h => h | exact fun _ => ⟨rfl, rfl⟩ | exact ⟨rfl, rfl⟩ | decide | intro _ _ _ | intro _ _ | split | dsimp only)

theorem streamMoveStart_does (m : Nat) (x : LdgCmd) (s : State) : Does [.regs, .flt, .port0, .port1, .streams, .ldg] s (streamMoveStart m x s) := by
  unfold streamMoveStart
  repeat' (first
    | with_reducible (first
        | exact Does.refl _ _ | assumption | apply Does.ite | apply Does.step (ldgAtOnce_does ..) | apply Does.ldgChecks
        | apply Does.step (ldgRun_does ..) | apply Does.step (modStream_does ..))
    | exact fun _ h => h | exact fun h => h | exact fun _ => ⟨rfl, rfl⟩ | exact ⟨rfl, rfl⟩ | decide | intro _ _ _ | intro _ _ | split | dsimp only)

theorem jobStart_does (m : Nat) (x : LdgCmd) (s : State) : Does [.regs, .flt, .port0, .port1, .qry, .hbm, .ldg] s (jobStart m x s) := by
  unfold jobStart
  repeat' (first
    | with_reducible (first
        | exact Does.refl _ _ | assumption | apply Does.ite | apply Does.step (jobSize_does ..) | apply Does.step (ldgAtOnce_does ..)
        | apply Does.ldgChecks | apply Does.step (ldgRun_does ..))
    | exact fun _ h => h | exact fun h => h | exact fun _ => ⟨rfl, rfl⟩ | exact ⟨rfl, rfl⟩ | decide | intro _ _ _ | intro _ _ | split | dsimp only)

theorem jobGoes_does (burst : List Nat) (m : Nat) (r : LdgRun) (s : State) : Does [.regs, .flt, .port0, .port1, .qry, .hbm, .ldg] s (jobGoes burst m r s) := by
  unfold jobGoes
  repeat' (first
    | with_reducible (first
        | exact Does.refl _ _ | assumption | apply Does.ite | apply Does.imageGoes | apply Does.step (jobStep_does ..))
    | exact fun _ h => h | exact fun h => h | exact fun _ => ⟨rfl, rfl⟩ | exact ⟨rfl, rfl⟩ | decide | intro _ _ _ | intro _ _ | split | dsimp only)

theorem retireRow_does (row : Word) (s : State) (hr : s.hbm.retired.length < 4096) : Does [.regs, .flt, .port0, .port1, .hbm, .cns] s (retireRow row s) := by
  unfold retireRow
  repeat' (first
        | with_reducible (first
            | exact Does.refl _ _ | assumption | apply Does.ite | apply Does.step (cnsPost_does ..) | apply Does.step (event_does ..)
            | apply Does.step (raise_does ..) | apply Does.put_hbm)
        | exact fun _ h => h | exact fun h => h | exact fun _ => ⟨rfl, rfl⟩ | exact ⟨rfl, rfl⟩ | (intro _; rw [List.length_append]; exact hr) | decide | intro _ _ _ | intro _ _ | split | dsimp only)

theorem retireAddStart_does (m : Nat) (x : LdgCmd) (s : State) : Does [.regs, .flt, .port0, .port1, .hbm, .ldg, .cns] s (retireAddStart m x s) := by
  unfold retireAddStart
  apply Does.ldgChecks (by decide)
  · intro t h
    split
    · exact Does.step (ldgAtOnce_does ..) (by decide) h
    · split
      · exact Does.step (ldgAtOnce_does ..) (by decide) h
      · exact Does.step (ldgAtOnce_does ..) (by decide) (Does.step (retireRow_does _ _ (by omega)) (by decide) h)
  · exact Does.refl _ _

theorem retireListStart_does (m : Nat) (x : LdgCmd) (s : State) : Does [.regs, .flt, .port0, .port1, .ldg] s (retireListStart m x s) := by
  unfold retireListStart
  repeat' (first
    | with_reducible (first
        | exact Does.refl _ _ | assumption | apply Does.ite | apply Does.step (ldgAtOnce_does ..) | apply Does.ldgChecks)
    | exact fun _ h => h | exact fun h => h | exact fun _ => ⟨rfl, rfl⟩ | exact ⟨rfl, rfl⟩ | decide | intro _ _ _ | intro _ _ | split | dsimp only)

theorem scrubSetStart_does (m : Nat) (x : LdgCmd) (s : State) : Does [.regs, .flt, .port0, .port1, .ldg] s (scrubSetStart m x s) := by
  unfold scrubSetStart
  repeat' (first
    | with_reducible (first
        | exact Does.refl _ _ | assumption | apply Does.ite | apply Does.step (ldgAtOnce_does ..) | apply Does.ldgChecks
        | apply Does.step (setCell_does ..))
    | exact fun _ h => h | exact fun h => h | exact fun _ => ⟨rfl, rfl⟩ | exact ⟨rfl, rfl⟩ | decide | intro _ _ _ | intro _ _ | split | dsimp only)

theorem gaugeSelfcalStart_does (m : Nat) (x : LdgCmd) (s : State) : Does [.regs, .flt, .port0, .port1, .ldg, .gau] s (gaugeSelfcalStart m x s) := by
  unfold gaugeSelfcalStart
  repeat' (first
    | with_reducible (first
        | exact Does.refl _ _ | assumption | apply Does.ite | apply Does.ldgChecks | apply Does.step (ldgRun_does ..)
        | apply Does.step (selfcalBegin_does ..))
    | exact fun _ h => h | exact fun h => h | exact fun _ => ⟨rfl, rfl⟩ | exact ⟨rfl, rfl⟩ | decide | intro _ _ _ | intro _ _ | split | dsimp only)

theorem gaugeSelfcalGoes_does (readings : List (List GauCalReading)) (m : Nat) (r : LdgRun) (s : State) : Does [.regs, .flt, .port0, .port1, .ldg, .gau] s (gaugeSelfcalGoes readings m r s) := by
  unfold gaugeSelfcalGoes
  repeat' (first
    | with_reducible (first
        | exact Does.refl _ _ | assumption | apply Does.ite | apply Does.forN | apply Does.step (ldgComplete_does ..)
        | apply Does.step (modConv_does ..) | apply Does.step (selfcalEnd_does ..))
    | exact fun _ h => h | exact fun h => h | exact fun _ => ⟨rfl, rfl⟩ | exact ⟨rfl, rfl⟩ | decide | intro _ _ _ | intro _ _ | split | dsimp only)

theorem Does.imageToHost {L : List Zone} {m : Nat} {c : LdgCmd} {image : List DWord} {after : List Word} {done : State → State} {s x : State}
    (hz : ([.regs, .flt, .port0, .port1, .ldg].all fun z => L.contains z) = true) (hd : ∀ t, Does L s t → Does L s (done t)) (h : Does L s x) :
    Does L s (imageToHost m c image after done x) := by
  have sub : ∀ {M : List Zone}, (M.all fun z => ([.regs, .flt, .port0, .port1, .ldg] : List Zone).contains z) = true → (M.all fun z => L.contains z) = true := by
    intro M hM
    refine List.all_eq_true.2 fun z hm => List.all_eq_true.1 hz z ?_
    have := List.all_eq_true.1 hM z hm
    simpa using this
  unfold Machine.imageToHost
  dsimp only
  split
  · exact Does.step (ldgAtOnce_does ..) (sub (by decide)) h
  · split
    · exact Does.step (ldgAtOnce_does ..) (sub (by decide)) h
    · exact Does.imageGoes hz hd (Does.step (ldgRun_does ..) (sub (by decide)) h)

theorem Does.imageOn {L : List Zone} {m : Nat} {done : ImageRun → State → State} {r : LdgRun} {s x : State}
    (hz : ([.regs, .flt, .port0, .port1, .ldg].all fun z => L.contains z) = true) (hd : ∀ w t, Does L s t → Does L s (done w t)) (h : Does L s x) :
    Does L s (imageOn m done r x) := by
  unfold Machine.imageOn
  split
  · exact Does.imageGoes hz (hd _) h
  · exact h

theorem plbReadGoes_does (m : Nat) (r : LdgRun) (s : State) : Does [.regs, .flt, .port0, .port1, .ldg, .plb] s (plbReadGoes m r s) :=
  Does.imageOn (by decide) (fun _ _ h => Does.step (plbReadDone_does _) (by decide) h) (Does.refl _ _)

theorem cnsReadGoes_does (m : Nat) (r : LdgRun) (s : State) : Does [.regs, .flt, .port0, .port1, .ldg, .cns] s (cnsReadGoes m r s) :=
  Does.imageOn (by decide) (fun _ _ h => Does.step (cnsReadDone_does ..) (by decide) h) (Does.refl _ _)

theorem plbReadStart_does (m : Nat) (x : LdgCmd) (s : State) : Does [.regs, .flt, .port0, .port1, .mem, .ldg, .plb] s (plbReadStart m x s) := by
  unfold plbReadStart
  repeat' (first
    | with_reducible (first
        | exact Does.refl _ _ | assumption | apply Does.ite | apply Does.imageToHost | apply Does.ldgChecks | apply Does.step (plbReadDone_does ..)
        | apply Does.step (plbStoreRead_does ..))
    | exact fun _ h => h | exact fun h => h | exact fun _ => ⟨rfl, rfl⟩ | exact ⟨rfl, rfl⟩ | decide | intro _ _ _ | intro _ _ | split | dsimp only)

theorem cnsReadStart_does (m : Nat) (x : LdgCmd) (s : State) : Does [.regs, .flt, .port0, .port1, .ldg, .cns] s (cnsReadStart m x s) := by
  unfold cnsReadStart
  repeat' (first
    | with_reducible (first
        | exact Does.refl _ _ | assumption | apply Does.ite | apply Does.ldgChecks | apply Does.imageToHost
        | apply Does.step (cnsReadDone_does ..))
    | exact fun _ h => h | exact fun h => h | exact fun _ => ⟨rfl, rfl⟩ | exact ⟨rfl, rfl⟩ | decide | intro _ _ _ | intro _ _ | split | dsimp only)

theorem cnsClearStart_does (m : Nat) (x : LdgCmd) (s : State) : Does [.regs, .flt, .port0, .port1, .ldg, .cns] s (cnsClearStart m x s) := by
  unfold cnsClearStart
  repeat' (first
    | with_reducible (first
        | exact Does.refl _ _ | assumption | apply Does.ite | apply Does.step (cnsClear_does ..) | apply Does.step (ldgAtOnce_does ..)
        | apply Does.ldgChecks)
    | exact fun _ h => h | exact fun h => h | exact fun _ => ⟨rfl, rfl⟩ | exact ⟨rfl, rfl⟩ | decide | intro _ _ _ | intro _ _ | split | dsimp only)

theorem faultAckBulkStart_does (m : Nat) (x : LdgCmd) (s : State) : Does [.regs, .flt, .port0, .port1, .mem, .ldg, .plb, .cns] s (faultAckBulkStart m x s) := by
  unfold faultAckBulkStart
  repeat' (first
    | with_reducible (first
        | exact Does.refl _ _ | assumption | apply Does.ite | apply Does.step (ackWhere_does ..) | apply Does.step (ldgAtOnce_does ..)
        | apply Does.ldgChecks)
    | exact fun _ h => h | exact fun h => h | exact fun _ => ⟨rfl, rfl⟩ | exact ⟨rfl, rfl⟩ | decide | intro _ _ _ | intro _ _ | split | dsimp only)

theorem diagLoopStart_does (wrong m : Nat) (x : LdgCmd) (s : State) : Does [.regs, .flt, .port0, .port1, .hbm, .ldg] s (diagLoopStart wrong m x s) := by
  unfold diagLoopStart
  repeat' (first
    | with_reducible (first
        | exact Does.refl _ _ | assumption | apply Does.ite | apply Does.step (State.hbmStore_does ..) | apply Does.step (hostStore_does ..)
        | apply Does.step (ldgAtOnce_does ..) | apply Does.ldgChecks)
    | exact fun _ h => h | exact fun h => h | exact fun _ => ⟨rfl, rfl⟩ | exact ⟨rfl, rfl⟩ | decide | intro _ _ _ | intro _ _ | split | dsimp only)

end Sys2Proof.Machine
end

