-- ==== Sys2Proof/Laws/DoesTick.lean ====
section
/-!
SUPPORT. What each operation can do: which parts of the state it can change, and that memory keeps its form and the stores their capacities: Tick.
-/
namespace Sys2Proof.Machine
set_option Elab.async false

/-! ### Tick -/

theorem noteLoss_does (s : State) : Does [.lnt] s (noteLoss s) := by
  unfold noteLoss
  repeat' (first
    | with_reducible (first
        | exact Does.refl _ _ | assumption | apply Does.ite | apply Does.step (lossSample_does ..))
    | exact fun _ h => h | exact fun h => h | exact fun _ => ⟨rfl, rfl⟩ | exact ⟨rfl, rfl⟩ | decide | intro _ _ _ | intro _ _ | split | dsimp only)

theorem plbCycleEnd_does (s : State) : Does [.regs, .flt, .port0, .port1, .plb] s (plbCycleEnd s) := by
  unfold plbCycleEnd
  repeat' (first
    | with_reducible (first
        | exact Does.refl _ _ | assumption | apply Does.ite | apply Does.step (State.modPlb_does ..) | apply Does.step (plbMiss_does ..))
    | exact fun _ h => h | exact fun h => h | exact fun _ => ⟨rfl, rfl⟩ | exact ⟨rfl, rfl⟩ | decide | intro _ _ _ | intro _ _ | split | dsimp only)

theorem courseRest_does (s : State) : Does [.btr, .regs, .flt, .port0, .port1, .mem, .lnt, .plb] s (courseRest s) := by
  unfold courseRest
  repeat' (first
    | with_reducible (first
        | exact Does.refl _ _ | assumption | apply Does.ite | apply Does.step (lossSample_does ..) | apply Does.step (plbDrain_does ..)
        | apply Does.step (plbCycleEnd_does ..) | apply Does.step (State.modBtr_does ..))
    | exact fun _ h => h | exact fun h => h | exact fun _ => ⟨rfl, rfl⟩ | exact ⟨rfl, rfl⟩ | decide | intro _ _ _ | intro _ _ | split | dsimp only)

theorem countersTick_does (c : Nat) (s : State) : Does [.btr] s (countersTick c s) := by
  unfold countersTick
  repeat' (first
    | with_reducible (first
        | exact Does.refl _ _ | assumption | apply Does.ite | apply Does.step (State.modBtr_does ..))
    | exact fun _ h => h | exact fun h => h | exact fun _ => ⟨rfl, rfl⟩ | exact ⟨rfl, rfl⟩ | decide | intro _ _ _ | intro _ _ | split | dsimp only)

theorem perCourse_does (s : State) : Does [.regs, .lanes, .groups, .mem, .retLanes] s (perCourse s) := by
  unfold perCourse
  exact Does.upd (L := [.regs, .lanes, .groups, .mem, .retLanes]) (x := retrainCountReset (codeErrTick s)) (fun z hz => by cases z <;> first | rfl | exact ⟨rfl, rfl⟩ | exact absurd (by decide) hz)
    (fun m => ⟨m.bytes, m.written, m.sram⟩) (fun c => ⟨c.log, c.txq, c.restore, c.queue, c.failed, c.retired⟩)
    (fun r => ⟨r.cb, r.regs, r.srcs, r.port0, r.port1, r.domains, r.lanes, r.downlinks, r.partners, rises_filter (rises_map (fun _ => rfl) r.groups), r.engines, r.ring, r.rewritten, r.badMarks, r.mem, r.streams, r.uplinks, r.uplGroups, rises_filter (rises_map (fun _ => rfl) r.retLanes), r.lntGroups, r.boxes, r.gau, r.slots⟩) (Does.step (retrainCountReset_does ..) (by decide) (Does.step (codeErrTick_does ..) (by decide) (Does.refl _ _)))

theorem cbApply_does (s : State) : Does [.btr] s (cbApply s) := by
  unfold cbApply
  repeat' (first
    | with_reducible (first
        | exact Does.refl _ _ | assumption | apply Does.ite | apply Does.forL | apply Does.step (setCb_does ..))
    | exact fun _ h => h | exact fun h => h | exact fun _ => ⟨rfl, rfl⟩ | exact ⟨rfl, rfl⟩ | decide | intro _ _ _ | intro _ _ | split | dsimp only)

theorem applyTick_does (c : Nat) (s : State) : Does [.btr, .groups, .sram, .mem, .lnt] s (applyTick c s) := by
  unfold applyTick
  repeat' (first
    | with_reducible (first
        | exact Does.refl _ _ | assumption | apply Does.ite | apply Does.forL | apply Does.step (bankTick_does ..) | apply Does.step (cbApply_does ..)
        | apply Does.step (lintelTablesTick_does ..))
    | exact fun _ h => h | exact fun h => h | exact fun _ => ⟨rfl, rfl⟩ | exact ⟨rfl, rfl⟩ | decide | intro _ _ _ | intro _ _ | split | dsimp only)

theorem bindingsTick_does (c : Nat) (s : State) : Does [.regs, .flt, .port0, .port1, .lanes, .downlinks, .partners, .bindPending, .groups, .ldg] s (bindingsTick c s) := by
  unfold bindingsTick
  repeat' (first
    | with_reducible (first
        | exact Does.refl _ _ | assumption | apply Does.ite | apply Does.forL | apply Does.step (bindComplete_does ..)
        | apply Does.step (bindTick_does ..))
    | exact fun _ h => h | exact fun h => h | exact fun _ => ⟨rfl, rfl⟩ | exact ⟨rfl, rfl⟩ | decide | intro _ _ _ | intro _ _ | split | dsimp only)

theorem swapsTick_does (c : Nat) (s : State) : Does [.regs, .flt, .port0, .port1, .ldg] s (swapsTick c s) := by
  unfold swapsTick
  repeat' (first
    | with_reducible (first
        | exact Does.refl _ _ | assumption | apply Does.ite | apply Does.forN | apply Does.step (ldgComplete_does ..))
    | exact fun _ h => h | exact fun h => h | exact fun _ => ⟨rfl, rfl⟩ | exact ⟨rfl, rfl⟩ | decide | intro _ _ _ | intro _ _ | split | dsimp only)

theorem stepThree_does (c : Nat) (s : State) : Does [.btr, .regs, .flt, .port0, .port1, .lanes, .downlinks, .partners, .bindPending, .groups, .sram, .mem, .lnt, .ldg] s (stepThree c s) := by
  unfold stepThree
  repeat' (first
    | with_reducible (first
        | exact Does.refl _ _ | assumption | apply Does.ite | apply Does.step (applyTick_does ..) | apply Does.step (bindingsTick_does ..)
        | apply Does.step (swapsTick_does ..))
    | exact fun _ h => h | exact fun h => h | exact fun _ => ⟨rfl, rfl⟩ | exact ⟨rfl, rfl⟩ | decide | intro _ _ _ | intro _ _ | split | dsimp only)

theorem movesTick_does (c : Nat) (s : State) : Does [.btr, .regs, .flt, .port0, .port1, .streams, .ldg] s (movesTick c s) := by
  unfold movesTick
  repeat' (first
    | with_reducible (first
        | exact Does.refl _ _ | assumption | apply Does.ite | apply Does.forL | apply Does.step (ldgComplete_does ..)
        | apply Does.step (moveStreams_does ..))
    | exact fun _ h => h | exact fun h => h | exact fun _ => ⟨rfl, rfl⟩ | exact ⟨rfl, rfl⟩ | decide | intro _ _ _ | intro _ _ | split | dsimp only)

theorem selectsTick_does (c reason : Nat) (s : State) : Does [.regs, .flt, .port0, .port1, .ldg] s (selectsTick c reason s) := by
  unfold selectsTick
  repeat' (first
    | with_reducible (first
        | exact Does.refl _ _ | assumption | apply Does.ite | apply Does.forN | apply Does.step (ldgComplete_does ..))
    | exact fun _ h => h | exact fun h => h | exact fun _ => ⟨rfl, rfl⟩ | exact ⟨rfl, rfl⟩ | decide | intro _ _ _ | intro _ _ | split | dsimp only)

theorem quoinTick_does (c : Nat) (o : TickObs) (startFree : Bool) (req : Option (Fin 2 × Bool)) (s : State) : Does [.regs, .flt, .port0, .port1, .quo, .partners, .uplGroups, .ldg] s (quoinTick c o startFree req s) := by
  unfold quoinTick
  repeat' (first
    | with_reducible (first
        | exact Does.refl _ _ | assumption | apply Does.ite | apply Does.forL | apply Does.step (State.modQuo_does ..)
        | apply Does.step (measureChecks_does ..) | apply Does.step (modPartner_does ..) | apply Does.step (quoTickDelay_does ..)
        | apply Does.step (quoTickLock_does ..) | apply Does.step (quoTickNominal_does ..) | apply Does.step (quoTickSwitch_does ..)
        | apply Does.step (quoTickXo_does ..) | apply Does.step (selectsTick_does ..) | apply Does.step (servoFreeAcquire_does ..)
        | apply Does.step (uplRefBack_does ..))
    | exact fun _ h => h | exact fun h => h | exact fun _ => ⟨rfl, rfl⟩ | exact ⟨rfl, rfl⟩ | decide | intro _ _ _ | intro _ _ | split | dsimp only)

theorem isolate_does (x : IsoPending) (s : State) : Does [.regs, .flt, .port0, .port1, .quo, .lanes, .downlinks, .groups, .ash, .ring, .qry, .mrt, .streams, .uplinks, .retLanes, .lnt, .gau, .plb] s (isolate x s) := by
  unfold isolate
  repeat' (first
    | with_reducible (first
        | exact Does.refl _ _ | assumption | apply Does.ite | apply Does.step (State.modFlt_does ..) | apply Does.step (engineIsolate_does ..)
        | apply Does.step (event_does ..) | apply Does.step (gaugeStop_does ..) | apply Does.step (groupAvail_does ..)
        | apply Does.step (groupDown_does ..) | apply Does.step (lintelIsolate_does ..) | apply Does.step (plbIsolated_does ..)
        | apply Does.step (portOff_does ..) | apply Does.step (quarryCheck_does ..) | apply Does.step (quarterCheck_does ..)
        | apply Does.step (retCheck_does ..) | apply Does.step (throttle_does ..) | apply Does.step (unitCheck_does ..)
        | apply Does.step (uplGroupCheck_does ..))
    | exact fun _ h => h | exact fun h => h | exact fun _ => ⟨rfl, rfl⟩ | exact ⟨rfl, rfl⟩ | decide | intro _ _ _ | intro _ _ | split | dsimp only)

theorem enginesDiscard_does (s : State) : Does [.ash] s (enginesDiscard s) := by
  unfold enginesDiscard
  repeat' (first
    | with_reducible (first
        | exact Does.refl _ _ | assumption | apply Does.ite | apply Does.forN | apply Does.step (modEngine_does ..))
    | exact fun _ h => h | exact fun h => h | exact fun _ => ⟨rfl, rfl⟩ | exact ⟨rfl, rfl⟩ | decide | intro _ _ _ | intro _ _ | split | dsimp only)

theorem dataPlaneStop_does (source : Nat) (s : State) : Does [.regs, .flt, .port0, .port1, .ash, .ring, .qry, .mem, .mrt, .streams, .uplinks, .lnt, .plb] s (dataPlaneStop source s) := by
  unfold dataPlaneStop
  repeat' (first
    | with_reducible (first
        | exact Does.refl _ _ | assumption | apply Does.ite | apply Does.forN | apply Does.step (enginesDiscard_does ..)
        | apply Does.step (event_does ..) | apply Does.step (State.modFlt_does ..) | apply Does.step (quarryCheck_does ..)
        | apply Does.step (quarterCheck_does ..) | apply Does.step (throttle_does ..) | apply Does.step (lintelStop_does ..)
        | apply Does.step (uplStop_does ..) | apply Does.step (mortarStop_does ..) | apply Does.step (plbFire_does ..))
    | exact fun _ h => h | exact fun h => h | exact fun _ => ⟨rfl, rfl⟩ | exact ⟨rfl, rfl⟩ | decide | intro _ _ _ | intro _ _ | split | dsimp only)

theorem dataPlaneRestart_does (c : Nat) (s : State) : Does [.regs, .flt, .port0, .port1, .lanes, .qry, .mrt, .streams, .uplinks, .lnt, .cns] s (dataPlaneRestart c s) := by
  unfold dataPlaneRestart
  repeat' (first
    | with_reducible (first
        | exact Does.refl _ _ | assumption | apply Does.ite | apply Does.step (State.modFlt_does ..) | apply Does.step (cnsPost_does ..)
        | apply Does.step (event_does ..) | apply Does.step (throttle_does ..) | apply Does.step (startBlocks_does ..)
        | apply Does.step (lintelRestart_does ..) | apply Does.step (spanRestart_does ..) | apply Does.step (quarryCheck_does ..))
    | exact fun _ h => h | exact fun h => h | exact fun _ => ⟨rfl, rfl⟩ | exact ⟨rfl, rfl⟩ | decide | intro _ _ _ | intro _ _ | split | dsimp only)

theorem stepFive_does (c : Nat) (s : State) : Does [.regs, .flt, .port0, .port1, .quo, .lanes, .downlinks, .groups, .ash, .ring, .qry, .mem, .mrt, .streams, .uplinks, .retLanes, .lnt, .gau, .plb, .cns] s (stepFive c s) := by
  unfold stepFive
  repeat' (first
    | with_reducible (first
        | exact Does.refl _ _ | assumption | apply Does.ite | apply Does.forL | apply Does.step (State.modFlt_does ..)
        | apply Does.step (dataPlaneRestart_does ..) | apply Does.step (dataPlaneStop_does ..) | apply Does.step (isolate_does ..)
        | apply Does.step (mortarStop_does ..))
    | exact fun _ h => h | exact fun h => h | exact fun _ => ⟨rfl, rfl⟩ | exact ⟨rfl, rfl⟩ | decide | intro _ _ _ | intro _ _ | split | dsimp only)

theorem tickSignal_does (c : Nat) (s : State) : Does [.port0, .port1] s (tickSignal c s) := by
  unfold tickSignal
  repeat' (first
    | with_reducible (first
        | exact Does.refl _ _ | assumption | apply Does.ite | apply Does.step (signal_does ..))
    | exact fun _ h => h | exact fun h => h | exact fun _ => ⟨rfl, rfl⟩ | exact ⟨rfl, rfl⟩ | decide | intro _ _ _ | intro _ _ | split | dsimp only)

theorem serviceTick_does (c : Nat) (s : State) : Does [.regs, .ring, .lnt] s (serviceTick c s) := by
  unfold serviceTick
  repeat' (first
    | with_reducible (first
        | exact Does.refl _ _ | assumption | apply Does.ite | apply Does.forN | apply Does.step (lintelTick_does ..)
        | apply Does.step (quarterTick_does ..))
    | exact fun _ h => h | exact fun h => h | exact fun _ => ⟨rfl, rfl⟩ | exact ⟨rfl, rfl⟩ | decide | intro _ _ _ | intro _ _ | split | dsimp only)

theorem stepTwo_does (c : Nat) (o : TickObs) (s : State) (v : State × List (Nat × Option Nat)) (h : Does [.btr, .regs, .flt, .port0, .port1, .quo, .lanes, .downlinks, .partners, .bindPending, .groups, .sram, .ash, .ring, .qry, .mem, .mrt, .streams, .uplinks, .uplGroups, .retLanes, .lnt, .ldg, .gau, .plb, .cns] s v.1) : Does [.btr, .regs, .flt, .port0, .port1, .quo, .lanes, .downlinks, .partners, .bindPending, .groups, .sram, .ash, .ring, .qry, .mem, .mrt, .streams, .uplinks, .uplGroups, .retLanes, .lnt, .ldg, .gau, .plb, .cns] s (stepTwo c o v) := by
  unfold stepTwo
  repeat' (first
    | with_reducible (first
        | assumption | apply Does.ite | apply Does.step (quoTickLatch_does ..) | apply Does.step (countersTick_does ..)
        | apply Does.step (btrInject_does ..) | apply Does.step (perCourse_does ..) | apply Does.step (btrReports_does ..)
        | apply Does.step (ringRelease_does ..) | apply Does.step (closeCourse_does ..))
    | exact fun _ h => h | exact fun h => h | exact fun _ => ⟨rfl, rfl⟩ | exact ⟨rfl, rfl⟩ | decide | intro _ _ _ | intro _ _ | split | dsimp only)

theorem stepFour_does (c : Nat) (o : TickObs) (startFree : Bool) (d : TickDue) (s : State) : Does [.btr, .regs, .flt, .port0, .port1, .quo, .lanes, .downlinks, .partners, .bindPending, .groups, .sram, .ash, .ring, .qry, .mem, .mrt, .streams, .uplinks, .uplGroups, .retLanes, .lnt, .ldg, .gau, .plb, .cns] s (stepFour c o startFree d s) := by
  unfold stepFour
  repeat' (first
    | with_reducible (first
        | exact Does.refl _ _ | assumption | apply Does.ite | apply Does.forN
        | apply Does.step (resolveMaps_does ..)
        | apply Does.step (movesTick_does ..)
        | apply Does.step (migrationTick_does ..)
        | apply Does.step (quoinTick_does ..)
        | apply Does.step (uplCheckAll_does ..)
        | apply Does.step (lintelConflicts_does ..))
    | exact fun _ h => h | exact fun h => h | exact fun _ => ⟨rfl, rfl⟩ | exact ⟨rfl, rfl⟩ | decide | intro _ _ _ | intro _ _ | split | dsimp only)

theorem stepLast_does (c : Nat) (s : State) : Does [.btr, .regs, .flt, .port0, .port1, .quo, .lanes, .downlinks, .partners, .bindPending, .groups, .sram, .ash, .ring, .qry, .mem, .mrt, .streams, .uplinks, .uplGroups, .retLanes, .lnt, .ldg, .gau, .plb, .cns] s (stepLast c s) := by
  unfold stepLast
  repeat' (first
    | with_reducible (first
        | exact Does.refl _ _ | assumption | apply Does.ite | apply Does.forN
        | apply Does.step (offenceTick_does ..)
        | apply Does.step (statusBeacons_does ..)
        | apply Does.step (quoTickWorst_does ..)
        | apply Does.step (serviceTick_does ..))
    | exact fun _ h => h | exact fun h => h | exact fun _ => ⟨rfl, rfl⟩ | exact ⟨rfl, rfl⟩ | decide | intro _ _ _ | intro _ _ | split | dsimp only)

theorem courseTick_does (o : TickObs) (s : State) : Does [.btr, .regs, .flt, .port0, .port1, .quo, .lanes, .downlinks, .partners, .bindPending, .groups, .sram, .ash, .ring, .qry, .mem, .mrt, .streams, .uplinks, .uplGroups, .retLanes, .lnt, .ldg, .gau, .plb, .cns] s (courseTick o s) := by
  unfold courseTick
  repeat' (first
    | with_reducible (first
        | exact Does.refl _ _ | assumption | apply Does.ite | apply stepTwo_does | apply Does.step (btrVote_does ..) | apply Does.step (courseRest_does ..)
        | apply Does.step (tickSignal_does ..)
        | apply Does.step (stepLast_does ..)
        | apply Does.step (stepFive_does ..)
        | apply Does.step (quarryTick_does ..)
        | apply Does.step (stepFour_does ..)
        | apply Does.step (stepThree_does ..))
    | exact fun _ h => h | exact fun h => h | exact fun _ => ⟨rfl, rfl⟩ | exact ⟨rfl, rfl⟩ | decide | intro _ _ _ | intro _ _ | split | dsimp only)

theorem idleCycle_does (s : State) : Does [.btr, .regs, .flt, .port0, .port1, .mem, .lnt, .plb] s (idleCycle s) := by
  unfold idleCycle
  repeat' (first
    | with_reducible (first
        | exact Does.refl _ _ | assumption | apply Does.ite | apply Does.step (plbDrain_does ..) | apply Does.step (plbCycleEnd_does ..)
        | apply Does.step (noteLoss_does ..) | apply Does.step (State.modBtr_does ..))
    | exact fun _ h => h | exact fun h => h | exact fun _ => ⟨rfl, rfl⟩ | exact ⟨rfl, rfl⟩ | decide | intro _ _ _ | intro _ _ | split | dsimp only)

end Sys2Proof.Machine
end

