-- ==== Sys2Proof/Laws/State.lean ====
section
/-!
SUPPORT. What each update of one part of the state leaves in every field.
-/
namespace Sys2Proof.Machine
set_option Elab.async false

/-! ### State.modBtr -/

@[simp] theorem State.modBtr_pending (f : Buttress → Buttress) (s : State) : (s.modBtr f).pending = s.pending := rfl
@[simp] theorem State.modBtr_btr (f : Buttress → Buttress) (s : State) : (s.modBtr f).btr = f s.btr := rfl
@[simp] theorem State.modBtr_regs (f : Buttress → Buttress) (s : State) : (s.modBtr f).regs = s.regs := rfl
@[simp] theorem State.modBtr_flt (f : Buttress → Buttress) (s : State) : (s.modBtr f).flt = s.flt := rfl
@[simp] theorem State.modBtr_port0 (f : Buttress → Buttress) (s : State) : (s.modBtr f).port0 = s.port0 := rfl
@[simp] theorem State.modBtr_port1 (f : Buttress → Buttress) (s : State) : (s.modBtr f).port1 = s.port1 := rfl
@[simp] theorem State.modBtr_quo (f : Buttress → Buttress) (s : State) : (s.modBtr f).quo = s.quo := rfl
@[simp] theorem State.modBtr_pwr (f : Buttress → Buttress) (s : State) : (s.modBtr f).pwr = s.pwr := rfl
@[simp] theorem State.modBtr_lanes (f : Buttress → Buttress) (s : State) : (s.modBtr f).lanes = s.lanes := rfl
@[simp] theorem State.modBtr_downlinks (f : Buttress → Buttress) (s : State) : (s.modBtr f).downlinks = s.downlinks := rfl
@[simp] theorem State.modBtr_partners (f : Buttress → Buttress) (s : State) : (s.modBtr f).partners = s.partners := rfl
@[simp] theorem State.modBtr_bindPending (f : Buttress → Buttress) (s : State) : (s.modBtr f).bindPending = s.bindPending := rfl
@[simp] theorem State.modBtr_groups (f : Buttress → Buttress) (s : State) : (s.modBtr f).groups = s.groups := rfl
@[simp] theorem State.modBtr_sram (f : Buttress → Buttress) (s : State) : (s.modBtr f).sram = s.sram := rfl
@[simp] theorem State.modBtr_ash (f : Buttress → Buttress) (s : State) : (s.modBtr f).ash = s.ash := rfl
@[simp] theorem State.modBtr_ring (f : Buttress → Buttress) (s : State) : (s.modBtr f).ring = s.ring := rfl
@[simp] theorem State.modBtr_qry (f : Buttress → Buttress) (s : State) : (s.modBtr f).qry = s.qry := rfl
@[simp] theorem State.modBtr_hbm (f : Buttress → Buttress) (s : State) : (s.modBtr f).hbm = s.hbm := rfl
@[simp] theorem State.modBtr_mem (f : Buttress → Buttress) (s : State) : (s.modBtr f).mem = s.mem := rfl
@[simp] theorem State.modBtr_mrt (f : Buttress → Buttress) (s : State) : (s.modBtr f).mrt = s.mrt := rfl
@[simp] theorem State.modBtr_streams (f : Buttress → Buttress) (s : State) : (s.modBtr f).streams = s.streams := rfl
@[simp] theorem State.modBtr_uplinks (f : Buttress → Buttress) (s : State) : (s.modBtr f).uplinks = s.uplinks := rfl
@[simp] theorem State.modBtr_uplGroups (f : Buttress → Buttress) (s : State) : (s.modBtr f).uplGroups = s.uplGroups := rfl
@[simp] theorem State.modBtr_retLanes (f : Buttress → Buttress) (s : State) : (s.modBtr f).retLanes = s.retLanes := rfl
@[simp] theorem State.modBtr_lnt (f : Buttress → Buttress) (s : State) : (s.modBtr f).lnt = s.lnt := rfl
@[simp] theorem State.modBtr_ldg (f : Buttress → Buttress) (s : State) : (s.modBtr f).ldg = s.ldg := rfl
@[simp] theorem State.modBtr_gau (f : Buttress → Buttress) (s : State) : (s.modBtr f).gau = s.gau := rfl
@[simp] theorem State.modBtr_plb (f : Buttress → Buttress) (s : State) : (s.modBtr f).plb = s.plb := rfl
@[simp] theorem State.modBtr_cns (f : Buttress → Buttress) (s : State) : (s.modBtr f).cns = s.cns := rfl
@[simp] theorem State.modBtr_jtag (f : Buttress → Buttress) (s : State) : (s.modBtr f).jtag = s.jtag := rfl

/-! ### State.modFlt -/

@[simp] theorem State.modFlt_pending (f : Faults → Faults) (s : State) : (s.modFlt f).pending = s.pending := rfl
@[simp] theorem State.modFlt_btr (f : Faults → Faults) (s : State) : (s.modFlt f).btr = s.btr := rfl
@[simp] theorem State.modFlt_regs (f : Faults → Faults) (s : State) : (s.modFlt f).regs = s.regs := rfl
@[simp] theorem State.modFlt_flt (f : Faults → Faults) (s : State) : (s.modFlt f).flt = f s.flt := rfl
@[simp] theorem State.modFlt_port0 (f : Faults → Faults) (s : State) : (s.modFlt f).port0 = s.port0 := rfl
@[simp] theorem State.modFlt_port1 (f : Faults → Faults) (s : State) : (s.modFlt f).port1 = s.port1 := rfl
@[simp] theorem State.modFlt_quo (f : Faults → Faults) (s : State) : (s.modFlt f).quo = s.quo := rfl
@[simp] theorem State.modFlt_pwr (f : Faults → Faults) (s : State) : (s.modFlt f).pwr = s.pwr := rfl
@[simp] theorem State.modFlt_lanes (f : Faults → Faults) (s : State) : (s.modFlt f).lanes = s.lanes := rfl
@[simp] theorem State.modFlt_downlinks (f : Faults → Faults) (s : State) : (s.modFlt f).downlinks = s.downlinks := rfl
@[simp] theorem State.modFlt_partners (f : Faults → Faults) (s : State) : (s.modFlt f).partners = s.partners := rfl
@[simp] theorem State.modFlt_bindPending (f : Faults → Faults) (s : State) : (s.modFlt f).bindPending = s.bindPending := rfl
@[simp] theorem State.modFlt_groups (f : Faults → Faults) (s : State) : (s.modFlt f).groups = s.groups := rfl
@[simp] theorem State.modFlt_sram (f : Faults → Faults) (s : State) : (s.modFlt f).sram = s.sram := rfl
@[simp] theorem State.modFlt_ash (f : Faults → Faults) (s : State) : (s.modFlt f).ash = s.ash := rfl
@[simp] theorem State.modFlt_ring (f : Faults → Faults) (s : State) : (s.modFlt f).ring = s.ring := rfl
@[simp] theorem State.modFlt_qry (f : Faults → Faults) (s : State) : (s.modFlt f).qry = s.qry := rfl
@[simp] theorem State.modFlt_hbm (f : Faults → Faults) (s : State) : (s.modFlt f).hbm = s.hbm := rfl
@[simp] theorem State.modFlt_mem (f : Faults → Faults) (s : State) : (s.modFlt f).mem = s.mem := rfl
@[simp] theorem State.modFlt_mrt (f : Faults → Faults) (s : State) : (s.modFlt f).mrt = s.mrt := rfl
@[simp] theorem State.modFlt_streams (f : Faults → Faults) (s : State) : (s.modFlt f).streams = s.streams := rfl
@[simp] theorem State.modFlt_uplinks (f : Faults → Faults) (s : State) : (s.modFlt f).uplinks = s.uplinks := rfl
@[simp] theorem State.modFlt_uplGroups (f : Faults → Faults) (s : State) : (s.modFlt f).uplGroups = s.uplGroups := rfl
@[simp] theorem State.modFlt_retLanes (f : Faults → Faults) (s : State) : (s.modFlt f).retLanes = s.retLanes := rfl
@[simp] theorem State.modFlt_lnt (f : Faults → Faults) (s : State) : (s.modFlt f).lnt = s.lnt := rfl
@[simp] theorem State.modFlt_ldg (f : Faults → Faults) (s : State) : (s.modFlt f).ldg = s.ldg := rfl
@[simp] theorem State.modFlt_gau (f : Faults → Faults) (s : State) : (s.modFlt f).gau = s.gau := rfl
@[simp] theorem State.modFlt_plb (f : Faults → Faults) (s : State) : (s.modFlt f).plb = s.plb := rfl
@[simp] theorem State.modFlt_cns (f : Faults → Faults) (s : State) : (s.modFlt f).cns = s.cns := rfl
@[simp] theorem State.modFlt_jtag (f : Faults → Faults) (s : State) : (s.modFlt f).jtag = s.jtag := rfl

/-! ### State.modQuo -/

@[simp] theorem State.modQuo_pending (f : Quoin → Quoin) (s : State) : (s.modQuo f).pending = s.pending := rfl
@[simp] theorem State.modQuo_btr (f : Quoin → Quoin) (s : State) : (s.modQuo f).btr = s.btr := rfl
@[simp] theorem State.modQuo_regs (f : Quoin → Quoin) (s : State) : (s.modQuo f).regs = s.regs := rfl
@[simp] theorem State.modQuo_flt (f : Quoin → Quoin) (s : State) : (s.modQuo f).flt = s.flt := rfl
@[simp] theorem State.modQuo_port0 (f : Quoin → Quoin) (s : State) : (s.modQuo f).port0 = s.port0 := rfl
@[simp] theorem State.modQuo_port1 (f : Quoin → Quoin) (s : State) : (s.modQuo f).port1 = s.port1 := rfl
@[simp] theorem State.modQuo_quo (f : Quoin → Quoin) (s : State) : (s.modQuo f).quo = f s.quo := rfl
@[simp] theorem State.modQuo_pwr (f : Quoin → Quoin) (s : State) : (s.modQuo f).pwr = s.pwr := rfl
@[simp] theorem State.modQuo_lanes (f : Quoin → Quoin) (s : State) : (s.modQuo f).lanes = s.lanes := rfl
@[simp] theorem State.modQuo_downlinks (f : Quoin → Quoin) (s : State) : (s.modQuo f).downlinks = s.downlinks := rfl
@[simp] theorem State.modQuo_partners (f : Quoin → Quoin) (s : State) : (s.modQuo f).partners = s.partners := rfl
@[simp] theorem State.modQuo_bindPending (f : Quoin → Quoin) (s : State) : (s.modQuo f).bindPending = s.bindPending := rfl
@[simp] theorem State.modQuo_groups (f : Quoin → Quoin) (s : State) : (s.modQuo f).groups = s.groups := rfl
@[simp] theorem State.modQuo_sram (f : Quoin → Quoin) (s : State) : (s.modQuo f).sram = s.sram := rfl
@[simp] theorem State.modQuo_ash (f : Quoin → Quoin) (s : State) : (s.modQuo f).ash = s.ash := rfl
@[simp] theorem State.modQuo_ring (f : Quoin → Quoin) (s : State) : (s.modQuo f).ring = s.ring := rfl
@[simp] theorem State.modQuo_qry (f : Quoin → Quoin) (s : State) : (s.modQuo f).qry = s.qry := rfl
@[simp] theorem State.modQuo_hbm (f : Quoin → Quoin) (s : State) : (s.modQuo f).hbm = s.hbm := rfl
@[simp] theorem State.modQuo_mem (f : Quoin → Quoin) (s : State) : (s.modQuo f).mem = s.mem := rfl
@[simp] theorem State.modQuo_mrt (f : Quoin → Quoin) (s : State) : (s.modQuo f).mrt = s.mrt := rfl
@[simp] theorem State.modQuo_streams (f : Quoin → Quoin) (s : State) : (s.modQuo f).streams = s.streams := rfl
@[simp] theorem State.modQuo_uplinks (f : Quoin → Quoin) (s : State) : (s.modQuo f).uplinks = s.uplinks := rfl
@[simp] theorem State.modQuo_uplGroups (f : Quoin → Quoin) (s : State) : (s.modQuo f).uplGroups = s.uplGroups := rfl
@[simp] theorem State.modQuo_retLanes (f : Quoin → Quoin) (s : State) : (s.modQuo f).retLanes = s.retLanes := rfl
@[simp] theorem State.modQuo_lnt (f : Quoin → Quoin) (s : State) : (s.modQuo f).lnt = s.lnt := rfl
@[simp] theorem State.modQuo_ldg (f : Quoin → Quoin) (s : State) : (s.modQuo f).ldg = s.ldg := rfl
@[simp] theorem State.modQuo_gau (f : Quoin → Quoin) (s : State) : (s.modQuo f).gau = s.gau := rfl
@[simp] theorem State.modQuo_plb (f : Quoin → Quoin) (s : State) : (s.modQuo f).plb = s.plb := rfl
@[simp] theorem State.modQuo_cns (f : Quoin → Quoin) (s : State) : (s.modQuo f).cns = s.cns := rfl
@[simp] theorem State.modQuo_jtag (f : Quoin → Quoin) (s : State) : (s.modQuo f).jtag = s.jtag := rfl

/-! ### State.modQry -/

@[simp] theorem State.modQry_pending (f : Quarry → Quarry) (s : State) : (s.modQry f).pending = s.pending := rfl
@[simp] theorem State.modQry_btr (f : Quarry → Quarry) (s : State) : (s.modQry f).btr = s.btr := rfl
@[simp] theorem State.modQry_regs (f : Quarry → Quarry) (s : State) : (s.modQry f).regs = s.regs := rfl
@[simp] theorem State.modQry_flt (f : Quarry → Quarry) (s : State) : (s.modQry f).flt = s.flt := rfl
@[simp] theorem State.modQry_port0 (f : Quarry → Quarry) (s : State) : (s.modQry f).port0 = s.port0 := rfl
@[simp] theorem State.modQry_port1 (f : Quarry → Quarry) (s : State) : (s.modQry f).port1 = s.port1 := rfl
@[simp] theorem State.modQry_quo (f : Quarry → Quarry) (s : State) : (s.modQry f).quo = s.quo := rfl
@[simp] theorem State.modQry_pwr (f : Quarry → Quarry) (s : State) : (s.modQry f).pwr = s.pwr := rfl
@[simp] theorem State.modQry_lanes (f : Quarry → Quarry) (s : State) : (s.modQry f).lanes = s.lanes := rfl
@[simp] theorem State.modQry_downlinks (f : Quarry → Quarry) (s : State) : (s.modQry f).downlinks = s.downlinks := rfl
@[simp] theorem State.modQry_partners (f : Quarry → Quarry) (s : State) : (s.modQry f).partners = s.partners := rfl
@[simp] theorem State.modQry_bindPending (f : Quarry → Quarry) (s : State) : (s.modQry f).bindPending = s.bindPending := rfl
@[simp] theorem State.modQry_groups (f : Quarry → Quarry) (s : State) : (s.modQry f).groups = s.groups := rfl
@[simp] theorem State.modQry_sram (f : Quarry → Quarry) (s : State) : (s.modQry f).sram = s.sram := rfl
@[simp] theorem State.modQry_ash (f : Quarry → Quarry) (s : State) : (s.modQry f).ash = s.ash := rfl
@[simp] theorem State.modQry_ring (f : Quarry → Quarry) (s : State) : (s.modQry f).ring = s.ring := rfl
@[simp] theorem State.modQry_qry (f : Quarry → Quarry) (s : State) : (s.modQry f).qry = f s.qry := rfl
@[simp] theorem State.modQry_hbm (f : Quarry → Quarry) (s : State) : (s.modQry f).hbm = s.hbm := rfl
@[simp] theorem State.modQry_mem (f : Quarry → Quarry) (s : State) : (s.modQry f).mem = s.mem := rfl
@[simp] theorem State.modQry_mrt (f : Quarry → Quarry) (s : State) : (s.modQry f).mrt = s.mrt := rfl
@[simp] theorem State.modQry_streams (f : Quarry → Quarry) (s : State) : (s.modQry f).streams = s.streams := rfl
@[simp] theorem State.modQry_uplinks (f : Quarry → Quarry) (s : State) : (s.modQry f).uplinks = s.uplinks := rfl
@[simp] theorem State.modQry_uplGroups (f : Quarry → Quarry) (s : State) : (s.modQry f).uplGroups = s.uplGroups := rfl
@[simp] theorem State.modQry_retLanes (f : Quarry → Quarry) (s : State) : (s.modQry f).retLanes = s.retLanes := rfl
@[simp] theorem State.modQry_lnt (f : Quarry → Quarry) (s : State) : (s.modQry f).lnt = s.lnt := rfl
@[simp] theorem State.modQry_ldg (f : Quarry → Quarry) (s : State) : (s.modQry f).ldg = s.ldg := rfl
@[simp] theorem State.modQry_gau (f : Quarry → Quarry) (s : State) : (s.modQry f).gau = s.gau := rfl
@[simp] theorem State.modQry_plb (f : Quarry → Quarry) (s : State) : (s.modQry f).plb = s.plb := rfl
@[simp] theorem State.modQry_cns (f : Quarry → Quarry) (s : State) : (s.modQry f).cns = s.cns := rfl
@[simp] theorem State.modQry_jtag (f : Quarry → Quarry) (s : State) : (s.modQry f).jtag = s.jtag := rfl

/-! ### State.modRing -/

@[simp] theorem State.modRing_pending (f : Ring → Ring) (s : State) : (s.modRing f).pending = s.pending := rfl
@[simp] theorem State.modRing_btr (f : Ring → Ring) (s : State) : (s.modRing f).btr = s.btr := rfl
@[simp] theorem State.modRing_regs (f : Ring → Ring) (s : State) : (s.modRing f).regs = s.regs := rfl
@[simp] theorem State.modRing_flt (f : Ring → Ring) (s : State) : (s.modRing f).flt = s.flt := rfl
@[simp] theorem State.modRing_port0 (f : Ring → Ring) (s : State) : (s.modRing f).port0 = s.port0 := rfl
@[simp] theorem State.modRing_port1 (f : Ring → Ring) (s : State) : (s.modRing f).port1 = s.port1 := rfl
@[simp] theorem State.modRing_quo (f : Ring → Ring) (s : State) : (s.modRing f).quo = s.quo := rfl
@[simp] theorem State.modRing_pwr (f : Ring → Ring) (s : State) : (s.modRing f).pwr = s.pwr := rfl
@[simp] theorem State.modRing_lanes (f : Ring → Ring) (s : State) : (s.modRing f).lanes = s.lanes := rfl
@[simp] theorem State.modRing_downlinks (f : Ring → Ring) (s : State) : (s.modRing f).downlinks = s.downlinks := rfl
@[simp] theorem State.modRing_partners (f : Ring → Ring) (s : State) : (s.modRing f).partners = s.partners := rfl
@[simp] theorem State.modRing_bindPending (f : Ring → Ring) (s : State) : (s.modRing f).bindPending = s.bindPending := rfl
@[simp] theorem State.modRing_groups (f : Ring → Ring) (s : State) : (s.modRing f).groups = s.groups := rfl
@[simp] theorem State.modRing_sram (f : Ring → Ring) (s : State) : (s.modRing f).sram = s.sram := rfl
@[simp] theorem State.modRing_ash (f : Ring → Ring) (s : State) : (s.modRing f).ash = s.ash := rfl
@[simp] theorem State.modRing_ring (f : Ring → Ring) (s : State) : (s.modRing f).ring = f s.ring := rfl
@[simp] theorem State.modRing_qry (f : Ring → Ring) (s : State) : (s.modRing f).qry = s.qry := rfl
@[simp] theorem State.modRing_hbm (f : Ring → Ring) (s : State) : (s.modRing f).hbm = s.hbm := rfl
@[simp] theorem State.modRing_mem (f : Ring → Ring) (s : State) : (s.modRing f).mem = s.mem := rfl
@[simp] theorem State.modRing_mrt (f : Ring → Ring) (s : State) : (s.modRing f).mrt = s.mrt := rfl
@[simp] theorem State.modRing_streams (f : Ring → Ring) (s : State) : (s.modRing f).streams = s.streams := rfl
@[simp] theorem State.modRing_uplinks (f : Ring → Ring) (s : State) : (s.modRing f).uplinks = s.uplinks := rfl
@[simp] theorem State.modRing_uplGroups (f : Ring → Ring) (s : State) : (s.modRing f).uplGroups = s.uplGroups := rfl
@[simp] theorem State.modRing_retLanes (f : Ring → Ring) (s : State) : (s.modRing f).retLanes = s.retLanes := rfl
@[simp] theorem State.modRing_lnt (f : Ring → Ring) (s : State) : (s.modRing f).lnt = s.lnt := rfl
@[simp] theorem State.modRing_ldg (f : Ring → Ring) (s : State) : (s.modRing f).ldg = s.ldg := rfl
@[simp] theorem State.modRing_gau (f : Ring → Ring) (s : State) : (s.modRing f).gau = s.gau := rfl
@[simp] theorem State.modRing_plb (f : Ring → Ring) (s : State) : (s.modRing f).plb = s.plb := rfl
@[simp] theorem State.modRing_cns (f : Ring → Ring) (s : State) : (s.modRing f).cns = s.cns := rfl
@[simp] theorem State.modRing_jtag (f : Ring → Ring) (s : State) : (s.modRing f).jtag = s.jtag := rfl

/-! ### State.modAsh -/

@[simp] theorem State.modAsh_pending (f : Ashlar → Ashlar) (s : State) : (s.modAsh f).pending = s.pending := rfl
@[simp] theorem State.modAsh_btr (f : Ashlar → Ashlar) (s : State) : (s.modAsh f).btr = s.btr := rfl
@[simp] theorem State.modAsh_regs (f : Ashlar → Ashlar) (s : State) : (s.modAsh f).regs = s.regs := rfl
@[simp] theorem State.modAsh_flt (f : Ashlar → Ashlar) (s : State) : (s.modAsh f).flt = s.flt := rfl
@[simp] theorem State.modAsh_port0 (f : Ashlar → Ashlar) (s : State) : (s.modAsh f).port0 = s.port0 := rfl
@[simp] theorem State.modAsh_port1 (f : Ashlar → Ashlar) (s : State) : (s.modAsh f).port1 = s.port1 := rfl
@[simp] theorem State.modAsh_quo (f : Ashlar → Ashlar) (s : State) : (s.modAsh f).quo = s.quo := rfl
@[simp] theorem State.modAsh_pwr (f : Ashlar → Ashlar) (s : State) : (s.modAsh f).pwr = s.pwr := rfl
@[simp] theorem State.modAsh_lanes (f : Ashlar → Ashlar) (s : State) : (s.modAsh f).lanes = s.lanes := rfl
@[simp] theorem State.modAsh_downlinks (f : Ashlar → Ashlar) (s : State) : (s.modAsh f).downlinks = s.downlinks := rfl
@[simp] theorem State.modAsh_partners (f : Ashlar → Ashlar) (s : State) : (s.modAsh f).partners = s.partners := rfl
@[simp] theorem State.modAsh_bindPending (f : Ashlar → Ashlar) (s : State) : (s.modAsh f).bindPending = s.bindPending := rfl
@[simp] theorem State.modAsh_groups (f : Ashlar → Ashlar) (s : State) : (s.modAsh f).groups = s.groups := rfl
@[simp] theorem State.modAsh_sram (f : Ashlar → Ashlar) (s : State) : (s.modAsh f).sram = s.sram := rfl
@[simp] theorem State.modAsh_ash (f : Ashlar → Ashlar) (s : State) : (s.modAsh f).ash = f s.ash := rfl
@[simp] theorem State.modAsh_ring (f : Ashlar → Ashlar) (s : State) : (s.modAsh f).ring = s.ring := rfl
@[simp] theorem State.modAsh_qry (f : Ashlar → Ashlar) (s : State) : (s.modAsh f).qry = s.qry := rfl
@[simp] theorem State.modAsh_hbm (f : Ashlar → Ashlar) (s : State) : (s.modAsh f).hbm = s.hbm := rfl
@[simp] theorem State.modAsh_mem (f : Ashlar → Ashlar) (s : State) : (s.modAsh f).mem = s.mem := rfl
@[simp] theorem State.modAsh_mrt (f : Ashlar → Ashlar) (s : State) : (s.modAsh f).mrt = s.mrt := rfl
@[simp] theorem State.modAsh_streams (f : Ashlar → Ashlar) (s : State) : (s.modAsh f).streams = s.streams := rfl
@[simp] theorem State.modAsh_uplinks (f : Ashlar → Ashlar) (s : State) : (s.modAsh f).uplinks = s.uplinks := rfl
@[simp] theorem State.modAsh_uplGroups (f : Ashlar → Ashlar) (s : State) : (s.modAsh f).uplGroups = s.uplGroups := rfl
@[simp] theorem State.modAsh_retLanes (f : Ashlar → Ashlar) (s : State) : (s.modAsh f).retLanes = s.retLanes := rfl
@[simp] theorem State.modAsh_lnt (f : Ashlar → Ashlar) (s : State) : (s.modAsh f).lnt = s.lnt := rfl
@[simp] theorem State.modAsh_ldg (f : Ashlar → Ashlar) (s : State) : (s.modAsh f).ldg = s.ldg := rfl
@[simp] theorem State.modAsh_gau (f : Ashlar → Ashlar) (s : State) : (s.modAsh f).gau = s.gau := rfl
@[simp] theorem State.modAsh_plb (f : Ashlar → Ashlar) (s : State) : (s.modAsh f).plb = s.plb := rfl
@[simp] theorem State.modAsh_cns (f : Ashlar → Ashlar) (s : State) : (s.modAsh f).cns = s.cns := rfl
@[simp] theorem State.modAsh_jtag (f : Ashlar → Ashlar) (s : State) : (s.modAsh f).jtag = s.jtag := rfl

/-! ### State.modMem -/

@[simp] theorem State.modMem_pending (f : MemProt → MemProt) (s : State) : (s.modMem f).pending = s.pending := rfl
@[simp] theorem State.modMem_btr (f : MemProt → MemProt) (s : State) : (s.modMem f).btr = s.btr := rfl
@[simp] theorem State.modMem_regs (f : MemProt → MemProt) (s : State) : (s.modMem f).regs = s.regs := rfl
@[simp] theorem State.modMem_flt (f : MemProt → MemProt) (s : State) : (s.modMem f).flt = s.flt := rfl
@[simp] theorem State.modMem_port0 (f : MemProt → MemProt) (s : State) : (s.modMem f).port0 = s.port0 := rfl
@[simp] theorem State.modMem_port1 (f : MemProt → MemProt) (s : State) : (s.modMem f).port1 = s.port1 := rfl
@[simp] theorem State.modMem_quo (f : MemProt → MemProt) (s : State) : (s.modMem f).quo = s.quo := rfl
@[simp] theorem State.modMem_pwr (f : MemProt → MemProt) (s : State) : (s.modMem f).pwr = s.pwr := rfl
@[simp] theorem State.modMem_lanes (f : MemProt → MemProt) (s : State) : (s.modMem f).lanes = s.lanes := rfl
@[simp] theorem State.modMem_downlinks (f : MemProt → MemProt) (s : State) : (s.modMem f).downlinks = s.downlinks := rfl
@[simp] theorem State.modMem_partners (f : MemProt → MemProt) (s : State) : (s.modMem f).partners = s.partners := rfl
@[simp] theorem State.modMem_bindPending (f : MemProt → MemProt) (s : State) : (s.modMem f).bindPending = s.bindPending := rfl
@[simp] theorem State.modMem_groups (f : MemProt → MemProt) (s : State) : (s.modMem f).groups = s.groups := rfl
@[simp] theorem State.modMem_sram (f : MemProt → MemProt) (s : State) : (s.modMem f).sram = s.sram := rfl
@[simp] theorem State.modMem_ash (f : MemProt → MemProt) (s : State) : (s.modMem f).ash = s.ash := rfl
@[simp] theorem State.modMem_ring (f : MemProt → MemProt) (s : State) : (s.modMem f).ring = s.ring := rfl
@[simp] theorem State.modMem_qry (f : MemProt → MemProt) (s : State) : (s.modMem f).qry = s.qry := rfl
@[simp] theorem State.modMem_hbm (f : MemProt → MemProt) (s : State) : (s.modMem f).hbm = s.hbm := rfl
@[simp] theorem State.modMem_mem (f : MemProt → MemProt) (s : State) : (s.modMem f).mem = f s.mem := rfl
@[simp] theorem State.modMem_mrt (f : MemProt → MemProt) (s : State) : (s.modMem f).mrt = s.mrt := rfl
@[simp] theorem State.modMem_streams (f : MemProt → MemProt) (s : State) : (s.modMem f).streams = s.streams := rfl
@[simp] theorem State.modMem_uplinks (f : MemProt → MemProt) (s : State) : (s.modMem f).uplinks = s.uplinks := rfl
@[simp] theorem State.modMem_uplGroups (f : MemProt → MemProt) (s : State) : (s.modMem f).uplGroups = s.uplGroups := rfl
@[simp] theorem State.modMem_retLanes (f : MemProt → MemProt) (s : State) : (s.modMem f).retLanes = s.retLanes := rfl
@[simp] theorem State.modMem_lnt (f : MemProt → MemProt) (s : State) : (s.modMem f).lnt = s.lnt := rfl
@[simp] theorem State.modMem_ldg (f : MemProt → MemProt) (s : State) : (s.modMem f).ldg = s.ldg := rfl
@[simp] theorem State.modMem_gau (f : MemProt → MemProt) (s : State) : (s.modMem f).gau = s.gau := rfl
@[simp] theorem State.modMem_plb (f : MemProt → MemProt) (s : State) : (s.modMem f).plb = s.plb := rfl
@[simp] theorem State.modMem_cns (f : MemProt → MemProt) (s : State) : (s.modMem f).cns = s.cns := rfl
@[simp] theorem State.modMem_jtag (f : MemProt → MemProt) (s : State) : (s.modMem f).jtag = s.jtag := rfl

/-! ### State.modMrt -/

@[simp] theorem State.modMrt_pending (f : Mortar → Mortar) (s : State) : (s.modMrt f).pending = s.pending := rfl
@[simp] theorem State.modMrt_btr (f : Mortar → Mortar) (s : State) : (s.modMrt f).btr = s.btr := rfl
@[simp] theorem State.modMrt_regs (f : Mortar → Mortar) (s : State) : (s.modMrt f).regs = s.regs := rfl
@[simp] theorem State.modMrt_flt (f : Mortar → Mortar) (s : State) : (s.modMrt f).flt = s.flt := rfl
@[simp] theorem State.modMrt_port0 (f : Mortar → Mortar) (s : State) : (s.modMrt f).port0 = s.port0 := rfl
@[simp] theorem State.modMrt_port1 (f : Mortar → Mortar) (s : State) : (s.modMrt f).port1 = s.port1 := rfl
@[simp] theorem State.modMrt_quo (f : Mortar → Mortar) (s : State) : (s.modMrt f).quo = s.quo := rfl
@[simp] theorem State.modMrt_pwr (f : Mortar → Mortar) (s : State) : (s.modMrt f).pwr = s.pwr := rfl
@[simp] theorem State.modMrt_lanes (f : Mortar → Mortar) (s : State) : (s.modMrt f).lanes = s.lanes := rfl
@[simp] theorem State.modMrt_downlinks (f : Mortar → Mortar) (s : State) : (s.modMrt f).downlinks = s.downlinks := rfl
@[simp] theorem State.modMrt_partners (f : Mortar → Mortar) (s : State) : (s.modMrt f).partners = s.partners := rfl
@[simp] theorem State.modMrt_bindPending (f : Mortar → Mortar) (s : State) : (s.modMrt f).bindPending = s.bindPending := rfl
@[simp] theorem State.modMrt_groups (f : Mortar → Mortar) (s : State) : (s.modMrt f).groups = s.groups := rfl
@[simp] theorem State.modMrt_sram (f : Mortar → Mortar) (s : State) : (s.modMrt f).sram = s.sram := rfl
@[simp] theorem State.modMrt_ash (f : Mortar → Mortar) (s : State) : (s.modMrt f).ash = s.ash := rfl
@[simp] theorem State.modMrt_ring (f : Mortar → Mortar) (s : State) : (s.modMrt f).ring = s.ring := rfl
@[simp] theorem State.modMrt_qry (f : Mortar → Mortar) (s : State) : (s.modMrt f).qry = s.qry := rfl
@[simp] theorem State.modMrt_hbm (f : Mortar → Mortar) (s : State) : (s.modMrt f).hbm = s.hbm := rfl
@[simp] theorem State.modMrt_mem (f : Mortar → Mortar) (s : State) : (s.modMrt f).mem = s.mem := rfl
@[simp] theorem State.modMrt_mrt (f : Mortar → Mortar) (s : State) : (s.modMrt f).mrt = f s.mrt := rfl
@[simp] theorem State.modMrt_streams (f : Mortar → Mortar) (s : State) : (s.modMrt f).streams = s.streams := rfl
@[simp] theorem State.modMrt_uplinks (f : Mortar → Mortar) (s : State) : (s.modMrt f).uplinks = s.uplinks := rfl
@[simp] theorem State.modMrt_uplGroups (f : Mortar → Mortar) (s : State) : (s.modMrt f).uplGroups = s.uplGroups := rfl
@[simp] theorem State.modMrt_retLanes (f : Mortar → Mortar) (s : State) : (s.modMrt f).retLanes = s.retLanes := rfl
@[simp] theorem State.modMrt_lnt (f : Mortar → Mortar) (s : State) : (s.modMrt f).lnt = s.lnt := rfl
@[simp] theorem State.modMrt_ldg (f : Mortar → Mortar) (s : State) : (s.modMrt f).ldg = s.ldg := rfl
@[simp] theorem State.modMrt_gau (f : Mortar → Mortar) (s : State) : (s.modMrt f).gau = s.gau := rfl
@[simp] theorem State.modMrt_plb (f : Mortar → Mortar) (s : State) : (s.modMrt f).plb = s.plb := rfl
@[simp] theorem State.modMrt_cns (f : Mortar → Mortar) (s : State) : (s.modMrt f).cns = s.cns := rfl
@[simp] theorem State.modMrt_jtag (f : Mortar → Mortar) (s : State) : (s.modMrt f).jtag = s.jtag := rfl

/-! ### State.modLnt -/

@[simp] theorem State.modLnt_pending (f : Lintel → Lintel) (s : State) : (s.modLnt f).pending = s.pending := rfl
@[simp] theorem State.modLnt_btr (f : Lintel → Lintel) (s : State) : (s.modLnt f).btr = s.btr := rfl
@[simp] theorem State.modLnt_regs (f : Lintel → Lintel) (s : State) : (s.modLnt f).regs = s.regs := rfl
@[simp] theorem State.modLnt_flt (f : Lintel → Lintel) (s : State) : (s.modLnt f).flt = s.flt := rfl
@[simp] theorem State.modLnt_port0 (f : Lintel → Lintel) (s : State) : (s.modLnt f).port0 = s.port0 := rfl
@[simp] theorem State.modLnt_port1 (f : Lintel → Lintel) (s : State) : (s.modLnt f).port1 = s.port1 := rfl
@[simp] theorem State.modLnt_quo (f : Lintel → Lintel) (s : State) : (s.modLnt f).quo = s.quo := rfl
@[simp] theorem State.modLnt_pwr (f : Lintel → Lintel) (s : State) : (s.modLnt f).pwr = s.pwr := rfl
@[simp] theorem State.modLnt_lanes (f : Lintel → Lintel) (s : State) : (s.modLnt f).lanes = s.lanes := rfl
@[simp] theorem State.modLnt_downlinks (f : Lintel → Lintel) (s : State) : (s.modLnt f).downlinks = s.downlinks := rfl
@[simp] theorem State.modLnt_partners (f : Lintel → Lintel) (s : State) : (s.modLnt f).partners = s.partners := rfl
@[simp] theorem State.modLnt_bindPending (f : Lintel → Lintel) (s : State) : (s.modLnt f).bindPending = s.bindPending := rfl
@[simp] theorem State.modLnt_groups (f : Lintel → Lintel) (s : State) : (s.modLnt f).groups = s.groups := rfl
@[simp] theorem State.modLnt_sram (f : Lintel → Lintel) (s : State) : (s.modLnt f).sram = s.sram := rfl
@[simp] theorem State.modLnt_ash (f : Lintel → Lintel) (s : State) : (s.modLnt f).ash = s.ash := rfl
@[simp] theorem State.modLnt_ring (f : Lintel → Lintel) (s : State) : (s.modLnt f).ring = s.ring := rfl
@[simp] theorem State.modLnt_qry (f : Lintel → Lintel) (s : State) : (s.modLnt f).qry = s.qry := rfl
@[simp] theorem State.modLnt_hbm (f : Lintel → Lintel) (s : State) : (s.modLnt f).hbm = s.hbm := rfl
@[simp] theorem State.modLnt_mem (f : Lintel → Lintel) (s : State) : (s.modLnt f).mem = s.mem := rfl
@[simp] theorem State.modLnt_mrt (f : Lintel → Lintel) (s : State) : (s.modLnt f).mrt = s.mrt := rfl
@[simp] theorem State.modLnt_streams (f : Lintel → Lintel) (s : State) : (s.modLnt f).streams = s.streams := rfl
@[simp] theorem State.modLnt_uplinks (f : Lintel → Lintel) (s : State) : (s.modLnt f).uplinks = s.uplinks := rfl
@[simp] theorem State.modLnt_uplGroups (f : Lintel → Lintel) (s : State) : (s.modLnt f).uplGroups = s.uplGroups := rfl
@[simp] theorem State.modLnt_retLanes (f : Lintel → Lintel) (s : State) : (s.modLnt f).retLanes = s.retLanes := rfl
@[simp] theorem State.modLnt_lnt (f : Lintel → Lintel) (s : State) : (s.modLnt f).lnt = f s.lnt := rfl
@[simp] theorem State.modLnt_ldg (f : Lintel → Lintel) (s : State) : (s.modLnt f).ldg = s.ldg := rfl
@[simp] theorem State.modLnt_gau (f : Lintel → Lintel) (s : State) : (s.modLnt f).gau = s.gau := rfl
@[simp] theorem State.modLnt_plb (f : Lintel → Lintel) (s : State) : (s.modLnt f).plb = s.plb := rfl
@[simp] theorem State.modLnt_cns (f : Lintel → Lintel) (s : State) : (s.modLnt f).cns = s.cns := rfl
@[simp] theorem State.modLnt_jtag (f : Lintel → Lintel) (s : State) : (s.modLnt f).jtag = s.jtag := rfl

/-! ### State.modLdg -/

@[simp] theorem State.modLdg_pending (f : Lodge → Lodge) (s : State) : (s.modLdg f).pending = s.pending := rfl
@[simp] theorem State.modLdg_btr (f : Lodge → Lodge) (s : State) : (s.modLdg f).btr = s.btr := rfl
@[simp] theorem State.modLdg_regs (f : Lodge → Lodge) (s : State) : (s.modLdg f).regs = s.regs := rfl
@[simp] theorem State.modLdg_flt (f : Lodge → Lodge) (s : State) : (s.modLdg f).flt = s.flt := rfl
@[simp] theorem State.modLdg_port0 (f : Lodge → Lodge) (s : State) : (s.modLdg f).port0 = s.port0 := rfl
@[simp] theorem State.modLdg_port1 (f : Lodge → Lodge) (s : State) : (s.modLdg f).port1 = s.port1 := rfl
@[simp] theorem State.modLdg_quo (f : Lodge → Lodge) (s : State) : (s.modLdg f).quo = s.quo := rfl
@[simp] theorem State.modLdg_pwr (f : Lodge → Lodge) (s : State) : (s.modLdg f).pwr = s.pwr := rfl
@[simp] theorem State.modLdg_lanes (f : Lodge → Lodge) (s : State) : (s.modLdg f).lanes = s.lanes := rfl
@[simp] theorem State.modLdg_downlinks (f : Lodge → Lodge) (s : State) : (s.modLdg f).downlinks = s.downlinks := rfl
@[simp] theorem State.modLdg_partners (f : Lodge → Lodge) (s : State) : (s.modLdg f).partners = s.partners := rfl
@[simp] theorem State.modLdg_bindPending (f : Lodge → Lodge) (s : State) : (s.modLdg f).bindPending = s.bindPending := rfl
@[simp] theorem State.modLdg_groups (f : Lodge → Lodge) (s : State) : (s.modLdg f).groups = s.groups := rfl
@[simp] theorem State.modLdg_sram (f : Lodge → Lodge) (s : State) : (s.modLdg f).sram = s.sram := rfl
@[simp] theorem State.modLdg_ash (f : Lodge → Lodge) (s : State) : (s.modLdg f).ash = s.ash := rfl
@[simp] theorem State.modLdg_ring (f : Lodge → Lodge) (s : State) : (s.modLdg f).ring = s.ring := rfl
@[simp] theorem State.modLdg_qry (f : Lodge → Lodge) (s : State) : (s.modLdg f).qry = s.qry := rfl
@[simp] theorem State.modLdg_hbm (f : Lodge → Lodge) (s : State) : (s.modLdg f).hbm = s.hbm := rfl
@[simp] theorem State.modLdg_mem (f : Lodge → Lodge) (s : State) : (s.modLdg f).mem = s.mem := rfl
@[simp] theorem State.modLdg_mrt (f : Lodge → Lodge) (s : State) : (s.modLdg f).mrt = s.mrt := rfl
@[simp] theorem State.modLdg_streams (f : Lodge → Lodge) (s : State) : (s.modLdg f).streams = s.streams := rfl
@[simp] theorem State.modLdg_uplinks (f : Lodge → Lodge) (s : State) : (s.modLdg f).uplinks = s.uplinks := rfl
@[simp] theorem State.modLdg_uplGroups (f : Lodge → Lodge) (s : State) : (s.modLdg f).uplGroups = s.uplGroups := rfl
@[simp] theorem State.modLdg_retLanes (f : Lodge → Lodge) (s : State) : (s.modLdg f).retLanes = s.retLanes := rfl
@[simp] theorem State.modLdg_lnt (f : Lodge → Lodge) (s : State) : (s.modLdg f).lnt = s.lnt := rfl
@[simp] theorem State.modLdg_ldg (f : Lodge → Lodge) (s : State) : (s.modLdg f).ldg = f s.ldg := rfl
@[simp] theorem State.modLdg_gau (f : Lodge → Lodge) (s : State) : (s.modLdg f).gau = s.gau := rfl
@[simp] theorem State.modLdg_plb (f : Lodge → Lodge) (s : State) : (s.modLdg f).plb = s.plb := rfl
@[simp] theorem State.modLdg_cns (f : Lodge → Lodge) (s : State) : (s.modLdg f).cns = s.cns := rfl
@[simp] theorem State.modLdg_jtag (f : Lodge → Lodge) (s : State) : (s.modLdg f).jtag = s.jtag := rfl

/-! ### State.modGau -/

@[simp] theorem State.modGau_pending (f : Gauge → Gauge) (s : State) : (s.modGau f).pending = s.pending := rfl
@[simp] theorem State.modGau_btr (f : Gauge → Gauge) (s : State) : (s.modGau f).btr = s.btr := rfl
@[simp] theorem State.modGau_regs (f : Gauge → Gauge) (s : State) : (s.modGau f).regs = s.regs := rfl
@[simp] theorem State.modGau_flt (f : Gauge → Gauge) (s : State) : (s.modGau f).flt = s.flt := rfl
@[simp] theorem State.modGau_port0 (f : Gauge → Gauge) (s : State) : (s.modGau f).port0 = s.port0 := rfl
@[simp] theorem State.modGau_port1 (f : Gauge → Gauge) (s : State) : (s.modGau f).port1 = s.port1 := rfl
@[simp] theorem State.modGau_quo (f : Gauge → Gauge) (s : State) : (s.modGau f).quo = s.quo := rfl
@[simp] theorem State.modGau_pwr (f : Gauge → Gauge) (s : State) : (s.modGau f).pwr = s.pwr := rfl
@[simp] theorem State.modGau_lanes (f : Gauge → Gauge) (s : State) : (s.modGau f).lanes = s.lanes := rfl
@[simp] theorem State.modGau_downlinks (f : Gauge → Gauge) (s : State) : (s.modGau f).downlinks = s.downlinks := rfl
@[simp] theorem State.modGau_partners (f : Gauge → Gauge) (s : State) : (s.modGau f).partners = s.partners := rfl
@[simp] theorem State.modGau_bindPending (f : Gauge → Gauge) (s : State) : (s.modGau f).bindPending = s.bindPending := rfl
@[simp] theorem State.modGau_groups (f : Gauge → Gauge) (s : State) : (s.modGau f).groups = s.groups := rfl
@[simp] theorem State.modGau_sram (f : Gauge → Gauge) (s : State) : (s.modGau f).sram = s.sram := rfl
@[simp] theorem State.modGau_ash (f : Gauge → Gauge) (s : State) : (s.modGau f).ash = s.ash := rfl
@[simp] theorem State.modGau_ring (f : Gauge → Gauge) (s : State) : (s.modGau f).ring = s.ring := rfl
@[simp] theorem State.modGau_qry (f : Gauge → Gauge) (s : State) : (s.modGau f).qry = s.qry := rfl
@[simp] theorem State.modGau_hbm (f : Gauge → Gauge) (s : State) : (s.modGau f).hbm = s.hbm := rfl
@[simp] theorem State.modGau_mem (f : Gauge → Gauge) (s : State) : (s.modGau f).mem = s.mem := rfl
@[simp] theorem State.modGau_mrt (f : Gauge → Gauge) (s : State) : (s.modGau f).mrt = s.mrt := rfl
@[simp] theorem State.modGau_streams (f : Gauge → Gauge) (s : State) : (s.modGau f).streams = s.streams := rfl
@[simp] theorem State.modGau_uplinks (f : Gauge → Gauge) (s : State) : (s.modGau f).uplinks = s.uplinks := rfl
@[simp] theorem State.modGau_uplGroups (f : Gauge → Gauge) (s : State) : (s.modGau f).uplGroups = s.uplGroups := rfl
@[simp] theorem State.modGau_retLanes (f : Gauge → Gauge) (s : State) : (s.modGau f).retLanes = s.retLanes := rfl
@[simp] theorem State.modGau_lnt (f : Gauge → Gauge) (s : State) : (s.modGau f).lnt = s.lnt := rfl
@[simp] theorem State.modGau_ldg (f : Gauge → Gauge) (s : State) : (s.modGau f).ldg = s.ldg := rfl
@[simp] theorem State.modGau_gau (f : Gauge → Gauge) (s : State) : (s.modGau f).gau = f s.gau := rfl
@[simp] theorem State.modGau_plb (f : Gauge → Gauge) (s : State) : (s.modGau f).plb = s.plb := rfl
@[simp] theorem State.modGau_cns (f : Gauge → Gauge) (s : State) : (s.modGau f).cns = s.cns := rfl
@[simp] theorem State.modGau_jtag (f : Gauge → Gauge) (s : State) : (s.modGau f).jtag = s.jtag := rfl

/-! ### State.modPlb -/

@[simp] theorem State.modPlb_pending (f : Plumb → Plumb) (s : State) : (s.modPlb f).pending = s.pending := rfl
@[simp] theorem State.modPlb_btr (f : Plumb → Plumb) (s : State) : (s.modPlb f).btr = s.btr := rfl
@[simp] theorem State.modPlb_regs (f : Plumb → Plumb) (s : State) : (s.modPlb f).regs = s.regs := rfl
@[simp] theorem State.modPlb_flt (f : Plumb → Plumb) (s : State) : (s.modPlb f).flt = s.flt := rfl
@[simp] theorem State.modPlb_port0 (f : Plumb → Plumb) (s : State) : (s.modPlb f).port0 = s.port0 := rfl
@[simp] theorem State.modPlb_port1 (f : Plumb → Plumb) (s : State) : (s.modPlb f).port1 = s.port1 := rfl
@[simp] theorem State.modPlb_quo (f : Plumb → Plumb) (s : State) : (s.modPlb f).quo = s.quo := rfl
@[simp] theorem State.modPlb_pwr (f : Plumb → Plumb) (s : State) : (s.modPlb f).pwr = s.pwr := rfl
@[simp] theorem State.modPlb_lanes (f : Plumb → Plumb) (s : State) : (s.modPlb f).lanes = s.lanes := rfl
@[simp] theorem State.modPlb_downlinks (f : Plumb → Plumb) (s : State) : (s.modPlb f).downlinks = s.downlinks := rfl
@[simp] theorem State.modPlb_partners (f : Plumb → Plumb) (s : State) : (s.modPlb f).partners = s.partners := rfl
@[simp] theorem State.modPlb_bindPending (f : Plumb → Plumb) (s : State) : (s.modPlb f).bindPending = s.bindPending := rfl
@[simp] theorem State.modPlb_groups (f : Plumb → Plumb) (s : State) : (s.modPlb f).groups = s.groups := rfl
@[simp] theorem State.modPlb_sram (f : Plumb → Plumb) (s : State) : (s.modPlb f).sram = s.sram := rfl
@[simp] theorem State.modPlb_ash (f : Plumb → Plumb) (s : State) : (s.modPlb f).ash = s.ash := rfl
@[simp] theorem State.modPlb_ring (f : Plumb → Plumb) (s : State) : (s.modPlb f).ring = s.ring := rfl
@[simp] theorem State.modPlb_qry (f : Plumb → Plumb) (s : State) : (s.modPlb f).qry = s.qry := rfl
@[simp] theorem State.modPlb_hbm (f : Plumb → Plumb) (s : State) : (s.modPlb f).hbm = s.hbm := rfl
@[simp] theorem State.modPlb_mem (f : Plumb → Plumb) (s : State) : (s.modPlb f).mem = s.mem := rfl
@[simp] theorem State.modPlb_mrt (f : Plumb → Plumb) (s : State) : (s.modPlb f).mrt = s.mrt := rfl
@[simp] theorem State.modPlb_streams (f : Plumb → Plumb) (s : State) : (s.modPlb f).streams = s.streams := rfl
@[simp] theorem State.modPlb_uplinks (f : Plumb → Plumb) (s : State) : (s.modPlb f).uplinks = s.uplinks := rfl
@[simp] theorem State.modPlb_uplGroups (f : Plumb → Plumb) (s : State) : (s.modPlb f).uplGroups = s.uplGroups := rfl
@[simp] theorem State.modPlb_retLanes (f : Plumb → Plumb) (s : State) : (s.modPlb f).retLanes = s.retLanes := rfl
@[simp] theorem State.modPlb_lnt (f : Plumb → Plumb) (s : State) : (s.modPlb f).lnt = s.lnt := rfl
@[simp] theorem State.modPlb_ldg (f : Plumb → Plumb) (s : State) : (s.modPlb f).ldg = s.ldg := rfl
@[simp] theorem State.modPlb_gau (f : Plumb → Plumb) (s : State) : (s.modPlb f).gau = s.gau := rfl
@[simp] theorem State.modPlb_plb (f : Plumb → Plumb) (s : State) : (s.modPlb f).plb = f s.plb := rfl
@[simp] theorem State.modPlb_cns (f : Plumb → Plumb) (s : State) : (s.modPlb f).cns = s.cns := rfl
@[simp] theorem State.modPlb_jtag (f : Plumb → Plumb) (s : State) : (s.modPlb f).jtag = s.jtag := rfl

/-! ### State.modCns -/

@[simp] theorem State.modCns_pending (f : Cornerstone → Cornerstone) (s : State) : (s.modCns f).pending = s.pending := rfl
@[simp] theorem State.modCns_btr (f : Cornerstone → Cornerstone) (s : State) : (s.modCns f).btr = s.btr := rfl
@[simp] theorem State.modCns_regs (f : Cornerstone → Cornerstone) (s : State) : (s.modCns f).regs = s.regs := rfl
@[simp] theorem State.modCns_flt (f : Cornerstone → Cornerstone) (s : State) : (s.modCns f).flt = s.flt := rfl
@[simp] theorem State.modCns_port0 (f : Cornerstone → Cornerstone) (s : State) : (s.modCns f).port0 = s.port0 := rfl
@[simp] theorem State.modCns_port1 (f : Cornerstone → Cornerstone) (s : State) : (s.modCns f).port1 = s.port1 := rfl
@[simp] theorem State.modCns_quo (f : Cornerstone → Cornerstone) (s : State) : (s.modCns f).quo = s.quo := rfl
@[simp] theorem State.modCns_pwr (f : Cornerstone → Cornerstone) (s : State) : (s.modCns f).pwr = s.pwr := rfl
@[simp] theorem State.modCns_lanes (f : Cornerstone → Cornerstone) (s : State) : (s.modCns f).lanes = s.lanes := rfl
@[simp] theorem State.modCns_downlinks (f : Cornerstone → Cornerstone) (s : State) : (s.modCns f).downlinks = s.downlinks := rfl
@[simp] theorem State.modCns_partners (f : Cornerstone → Cornerstone) (s : State) : (s.modCns f).partners = s.partners := rfl
@[simp] theorem State.modCns_bindPending (f : Cornerstone → Cornerstone) (s : State) : (s.modCns f).bindPending = s.bindPending := rfl
@[simp] theorem State.modCns_groups (f : Cornerstone → Cornerstone) (s : State) : (s.modCns f).groups = s.groups := rfl
@[simp] theorem State.modCns_sram (f : Cornerstone → Cornerstone) (s : State) : (s.modCns f).sram = s.sram := rfl
@[simp] theorem State.modCns_ash (f : Cornerstone → Cornerstone) (s : State) : (s.modCns f).ash = s.ash := rfl
@[simp] theorem State.modCns_ring (f : Cornerstone → Cornerstone) (s : State) : (s.modCns f).ring = s.ring := rfl
@[simp] theorem State.modCns_qry (f : Cornerstone → Cornerstone) (s : State) : (s.modCns f).qry = s.qry := rfl
@[simp] theorem State.modCns_hbm (f : Cornerstone → Cornerstone) (s : State) : (s.modCns f).hbm = s.hbm := rfl
@[simp] theorem State.modCns_mem (f : Cornerstone → Cornerstone) (s : State) : (s.modCns f).mem = s.mem := rfl
@[simp] theorem State.modCns_mrt (f : Cornerstone → Cornerstone) (s : State) : (s.modCns f).mrt = s.mrt := rfl
@[simp] theorem State.modCns_streams (f : Cornerstone → Cornerstone) (s : State) : (s.modCns f).streams = s.streams := rfl
@[simp] theorem State.modCns_uplinks (f : Cornerstone → Cornerstone) (s : State) : (s.modCns f).uplinks = s.uplinks := rfl
@[simp] theorem State.modCns_uplGroups (f : Cornerstone → Cornerstone) (s : State) : (s.modCns f).uplGroups = s.uplGroups := rfl
@[simp] theorem State.modCns_retLanes (f : Cornerstone → Cornerstone) (s : State) : (s.modCns f).retLanes = s.retLanes := rfl
@[simp] theorem State.modCns_lnt (f : Cornerstone → Cornerstone) (s : State) : (s.modCns f).lnt = s.lnt := rfl
@[simp] theorem State.modCns_ldg (f : Cornerstone → Cornerstone) (s : State) : (s.modCns f).ldg = s.ldg := rfl
@[simp] theorem State.modCns_gau (f : Cornerstone → Cornerstone) (s : State) : (s.modCns f).gau = s.gau := rfl
@[simp] theorem State.modCns_plb (f : Cornerstone → Cornerstone) (s : State) : (s.modCns f).plb = s.plb := rfl
@[simp] theorem State.modCns_cns (f : Cornerstone → Cornerstone) (s : State) : (s.modCns f).cns = f s.cns := rfl
@[simp] theorem State.modCns_jtag (f : Cornerstone → Cornerstone) (s : State) : (s.modCns f).jtag = s.jtag := rfl

/-! ### State.modPwr -/

@[simp] theorem State.modPwr_pending (f : Power → Power) (s : State) : (s.modPwr f).pending = s.pending := rfl
@[simp] theorem State.modPwr_btr (f : Power → Power) (s : State) : (s.modPwr f).btr = s.btr := rfl
@[simp] theorem State.modPwr_regs (f : Power → Power) (s : State) : (s.modPwr f).regs = s.regs := rfl
@[simp] theorem State.modPwr_flt (f : Power → Power) (s : State) : (s.modPwr f).flt = s.flt := rfl
@[simp] theorem State.modPwr_port0 (f : Power → Power) (s : State) : (s.modPwr f).port0 = s.port0 := rfl
@[simp] theorem State.modPwr_port1 (f : Power → Power) (s : State) : (s.modPwr f).port1 = s.port1 := rfl
@[simp] theorem State.modPwr_quo (f : Power → Power) (s : State) : (s.modPwr f).quo = s.quo := rfl
@[simp] theorem State.modPwr_pwr (f : Power → Power) (s : State) : (s.modPwr f).pwr = f s.pwr := rfl
@[simp] theorem State.modPwr_lanes (f : Power → Power) (s : State) : (s.modPwr f).lanes = s.lanes := rfl
@[simp] theorem State.modPwr_downlinks (f : Power → Power) (s : State) : (s.modPwr f).downlinks = s.downlinks := rfl
@[simp] theorem State.modPwr_partners (f : Power → Power) (s : State) : (s.modPwr f).partners = s.partners := rfl
@[simp] theorem State.modPwr_bindPending (f : Power → Power) (s : State) : (s.modPwr f).bindPending = s.bindPending := rfl
@[simp] theorem State.modPwr_groups (f : Power → Power) (s : State) : (s.modPwr f).groups = s.groups := rfl
@[simp] theorem State.modPwr_sram (f : Power → Power) (s : State) : (s.modPwr f).sram = s.sram := rfl
@[simp] theorem State.modPwr_ash (f : Power → Power) (s : State) : (s.modPwr f).ash = s.ash := rfl
@[simp] theorem State.modPwr_ring (f : Power → Power) (s : State) : (s.modPwr f).ring = s.ring := rfl
@[simp] theorem State.modPwr_qry (f : Power → Power) (s : State) : (s.modPwr f).qry = s.qry := rfl
@[simp] theorem State.modPwr_hbm (f : Power → Power) (s : State) : (s.modPwr f).hbm = s.hbm := rfl
@[simp] theorem State.modPwr_mem (f : Power → Power) (s : State) : (s.modPwr f).mem = s.mem := rfl
@[simp] theorem State.modPwr_mrt (f : Power → Power) (s : State) : (s.modPwr f).mrt = s.mrt := rfl
@[simp] theorem State.modPwr_streams (f : Power → Power) (s : State) : (s.modPwr f).streams = s.streams := rfl
@[simp] theorem State.modPwr_uplinks (f : Power → Power) (s : State) : (s.modPwr f).uplinks = s.uplinks := rfl
@[simp] theorem State.modPwr_uplGroups (f : Power → Power) (s : State) : (s.modPwr f).uplGroups = s.uplGroups := rfl
@[simp] theorem State.modPwr_retLanes (f : Power → Power) (s : State) : (s.modPwr f).retLanes = s.retLanes := rfl
@[simp] theorem State.modPwr_lnt (f : Power → Power) (s : State) : (s.modPwr f).lnt = s.lnt := rfl
@[simp] theorem State.modPwr_ldg (f : Power → Power) (s : State) : (s.modPwr f).ldg = s.ldg := rfl
@[simp] theorem State.modPwr_gau (f : Power → Power) (s : State) : (s.modPwr f).gau = s.gau := rfl
@[simp] theorem State.modPwr_plb (f : Power → Power) (s : State) : (s.modPwr f).plb = s.plb := rfl
@[simp] theorem State.modPwr_cns (f : Power → Power) (s : State) : (s.modPwr f).cns = s.cns := rfl
@[simp] theorem State.modPwr_jtag (f : Power → Power) (s : State) : (s.modPwr f).jtag = s.jtag := rfl

/-! ### setCell: the register file -/

@[simp] theorem setCell_pending (r : Reg) (i j : Nat) (w : Word) (s : State) : (setCell r i j w s).pending = s.pending := rfl
@[simp] theorem setCell_btr (r : Reg) (i j : Nat) (w : Word) (s : State) : (setCell r i j w s).btr = s.btr := rfl
@[simp] theorem setCell_regs (r : Reg) (i j : Nat) (w : Word) (s : State) : (setCell r i j w s).regs = smPut (regReset r i) s.regs (regOff r i j) w := rfl
@[simp] theorem setCell_flt (r : Reg) (i j : Nat) (w : Word) (s : State) : (setCell r i j w s).flt = s.flt := rfl
@[simp] theorem setCell_port0 (r : Reg) (i j : Nat) (w : Word) (s : State) : (setCell r i j w s).port0 = s.port0 := rfl
@[simp] theorem setCell_port1 (r : Reg) (i j : Nat) (w : Word) (s : State) : (setCell r i j w s).port1 = s.port1 := rfl
@[simp] theorem setCell_quo (r : Reg) (i j : Nat) (w : Word) (s : State) : (setCell r i j w s).quo = s.quo := rfl
@[simp] theorem setCell_pwr (r : Reg) (i j : Nat) (w : Word) (s : State) : (setCell r i j w s).pwr = s.pwr := rfl
@[simp] theorem setCell_lanes (r : Reg) (i j : Nat) (w : Word) (s : State) : (setCell r i j w s).lanes = s.lanes := rfl
@[simp] theorem setCell_downlinks (r : Reg) (i j : Nat) (w : Word) (s : State) : (setCell r i j w s).downlinks = s.downlinks := rfl
@[simp] theorem setCell_partners (r : Reg) (i j : Nat) (w : Word) (s : State) : (setCell r i j w s).partners = s.partners := rfl
@[simp] theorem setCell_bindPending (r : Reg) (i j : Nat) (w : Word) (s : State) : (setCell r i j w s).bindPending = s.bindPending := rfl
@[simp] theorem setCell_groups (r : Reg) (i j : Nat) (w : Word) (s : State) : (setCell r i j w s).groups = s.groups := rfl
@[simp] theorem setCell_sram (r : Reg) (i j : Nat) (w : Word) (s : State) : (setCell r i j w s).sram = s.sram := rfl
@[simp] theorem setCell_ash (r : Reg) (i j : Nat) (w : Word) (s : State) : (setCell r i j w s).ash = s.ash := rfl
@[simp] theorem setCell_ring (r : Reg) (i j : Nat) (w : Word) (s : State) : (setCell r i j w s).ring = s.ring := rfl
@[simp] theorem setCell_qry (r : Reg) (i j : Nat) (w : Word) (s : State) : (setCell r i j w s).qry = s.qry := rfl
@[simp] theorem setCell_hbm (r : Reg) (i j : Nat) (w : Word) (s : State) : (setCell r i j w s).hbm = s.hbm := rfl
@[simp] theorem setCell_mem (r : Reg) (i j : Nat) (w : Word) (s : State) : (setCell r i j w s).mem = s.mem := rfl
@[simp] theorem setCell_mrt (r : Reg) (i j : Nat) (w : Word) (s : State) : (setCell r i j w s).mrt = s.mrt := rfl
@[simp] theorem setCell_streams (r : Reg) (i j : Nat) (w : Word) (s : State) : (setCell r i j w s).streams = s.streams := rfl
@[simp] theorem setCell_uplinks (r : Reg) (i j : Nat) (w : Word) (s : State) : (setCell r i j w s).uplinks = s.uplinks := rfl
@[simp] theorem setCell_uplGroups (r : Reg) (i j : Nat) (w : Word) (s : State) : (setCell r i j w s).uplGroups = s.uplGroups := rfl
@[simp] theorem setCell_retLanes (r : Reg) (i j : Nat) (w : Word) (s : State) : (setCell r i j w s).retLanes = s.retLanes := rfl
@[simp] theorem setCell_lnt (r : Reg) (i j : Nat) (w : Word) (s : State) : (setCell r i j w s).lnt = s.lnt := rfl
@[simp] theorem setCell_ldg (r : Reg) (i j : Nat) (w : Word) (s : State) : (setCell r i j w s).ldg = s.ldg := rfl
@[simp] theorem setCell_gau (r : Reg) (i j : Nat) (w : Word) (s : State) : (setCell r i j w s).gau = s.gau := rfl
@[simp] theorem setCell_plb (r : Reg) (i j : Nat) (w : Word) (s : State) : (setCell r i j w s).plb = s.plb := rfl
@[simp] theorem setCell_cns (r : Reg) (i j : Nat) (w : Word) (s : State) : (setCell r i j w s).cns = s.cns := rfl
@[simp] theorem setCell_jtag (r : Reg) (i j : Nat) (w : Word) (s : State) : (setCell r i j w s).jtag = s.jtag := rfl

/-! ### State.modPort: one host port -/

@[simp] theorem State.modPort_pending (p : Nat) (f : HostPort → HostPort) (s : State) : (s.modPort p f).pending = s.pending := by
  unfold State.modPort; split <;> rfl
@[simp] theorem State.modPort_btr (p : Nat) (f : HostPort → HostPort) (s : State) : (s.modPort p f).btr = s.btr := by
  unfold State.modPort; split <;> rfl
@[simp] theorem State.modPort_regs (p : Nat) (f : HostPort → HostPort) (s : State) : (s.modPort p f).regs = s.regs := by
  unfold State.modPort; split <;> rfl
@[simp] theorem State.modPort_flt (p : Nat) (f : HostPort → HostPort) (s : State) : (s.modPort p f).flt = s.flt := by
  unfold State.modPort; split <;> rfl
@[simp] theorem State.modPort_port0 (p : Nat) (f : HostPort → HostPort) (s : State) : (s.modPort p f).port0 = if p = 0 then f s.port0 else s.port0 := by
  unfold State.modPort; split <;> rfl
@[simp] theorem State.modPort_port1 (p : Nat) (f : HostPort → HostPort) (s : State) : (s.modPort p f).port1 = if p = 0 then s.port1 else f s.port1 := by
  unfold State.modPort; split <;> rfl
@[simp] theorem State.modPort_quo (p : Nat) (f : HostPort → HostPort) (s : State) : (s.modPort p f).quo = s.quo := by
  unfold State.modPort; split <;> rfl
@[simp] theorem State.modPort_pwr (p : Nat) (f : HostPort → HostPort) (s : State) : (s.modPort p f).pwr = s.pwr := by
  unfold State.modPort; split <;> rfl
@[simp] theorem State.modPort_lanes (p : Nat) (f : HostPort → HostPort) (s : State) : (s.modPort p f).lanes = s.lanes := by
  unfold State.modPort; split <;> rfl
@[simp] theorem State.modPort_downlinks (p : Nat) (f : HostPort → HostPort) (s : State) : (s.modPort p f).downlinks = s.downlinks := by
  unfold State.modPort; split <;> rfl
@[simp] theorem State.modPort_partners (p : Nat) (f : HostPort → HostPort) (s : State) : (s.modPort p f).partners = s.partners := by
  unfold State.modPort; split <;> rfl
@[simp] theorem State.modPort_bindPending (p : Nat) (f : HostPort → HostPort) (s : State) : (s.modPort p f).bindPending = s.bindPending := by
  unfold State.modPort; split <;> rfl
@[simp] theorem State.modPort_groups (p : Nat) (f : HostPort → HostPort) (s : State) : (s.modPort p f).groups = s.groups := by
  unfold State.modPort; split <;> rfl
@[simp] theorem State.modPort_sram (p : Nat) (f : HostPort → HostPort) (s : State) : (s.modPort p f).sram = s.sram := by
  unfold State.modPort; split <;> rfl
@[simp] theorem State.modPort_ash (p : Nat) (f : HostPort → HostPort) (s : State) : (s.modPort p f).ash = s.ash := by
  unfold State.modPort; split <;> rfl
@[simp] theorem State.modPort_ring (p : Nat) (f : HostPort → HostPort) (s : State) : (s.modPort p f).ring = s.ring := by
  unfold State.modPort; split <;> rfl
@[simp] theorem State.modPort_qry (p : Nat) (f : HostPort → HostPort) (s : State) : (s.modPort p f).qry = s.qry := by
  unfold State.modPort; split <;> rfl
@[simp] theorem State.modPort_hbm (p : Nat) (f : HostPort → HostPort) (s : State) : (s.modPort p f).hbm = s.hbm := by
  unfold State.modPort; split <;> rfl
@[simp] theorem State.modPort_mem (p : Nat) (f : HostPort → HostPort) (s : State) : (s.modPort p f).mem = s.mem := by
  unfold State.modPort; split <;> rfl
@[simp] theorem State.modPort_mrt (p : Nat) (f : HostPort → HostPort) (s : State) : (s.modPort p f).mrt = s.mrt := by
  unfold State.modPort; split <;> rfl
@[simp] theorem State.modPort_streams (p : Nat) (f : HostPort → HostPort) (s : State) : (s.modPort p f).streams = s.streams := by
  unfold State.modPort; split <;> rfl
@[simp] theorem State.modPort_uplinks (p : Nat) (f : HostPort → HostPort) (s : State) : (s.modPort p f).uplinks = s.uplinks := by
  unfold State.modPort; split <;> rfl
@[simp] theorem State.modPort_uplGroups (p : Nat) (f : HostPort → HostPort) (s : State) : (s.modPort p f).uplGroups = s.uplGroups := by
  unfold State.modPort; split <;> rfl
@[simp] theorem State.modPort_retLanes (p : Nat) (f : HostPort → HostPort) (s : State) : (s.modPort p f).retLanes = s.retLanes := by
  unfold State.modPort; split <;> rfl
@[simp] theorem State.modPort_lnt (p : Nat) (f : HostPort → HostPort) (s : State) : (s.modPort p f).lnt = s.lnt := by
  unfold State.modPort; split <;> rfl
@[simp] theorem State.modPort_ldg (p : Nat) (f : HostPort → HostPort) (s : State) : (s.modPort p f).ldg = s.ldg := by
  unfold State.modPort; split <;> rfl
@[simp] theorem State.modPort_gau (p : Nat) (f : HostPort → HostPort) (s : State) : (s.modPort p f).gau = s.gau := by
  unfold State.modPort; split <;> rfl
@[simp] theorem State.modPort_plb (p : Nat) (f : HostPort → HostPort) (s : State) : (s.modPort p f).plb = s.plb := by
  unfold State.modPort; split <;> rfl
@[simp] theorem State.modPort_cns (p : Nat) (f : HostPort → HostPort) (s : State) : (s.modPort p f).cns = s.cns := by
  unfold State.modPort; split <;> rfl
@[simp] theorem State.modPort_jtag (p : Nat) (f : HostPort → HostPort) (s : State) : (s.modPort p f).jtag = s.jtag := by
  unfold State.modPort; split <;> rfl

end Sys2Proof.Machine
end

