-- ==== Sys2Proof/Laws/Ops.lean ====
section
/-!
SUPPORT. What the shared operations leave behind: register entries, course-buffered registers, event registers, counters, reports.
-/
namespace Sys2Proof.Machine
set_option Elab.async false

/-! ### Register entries -/

/-- An entry read after a write: the word written there, the old word elsewhere. -/
theorem smGet_setCell {s : State} (hs : smRisesFrom none s.regs = true) (r : Reg) (i j : Nat) (w : Word) (q : Nat) (d : Word)
    (hd : q = regOff r i j → d = regReset r i) :
    smGet d (setCell r i j w s).regs q = if q = regOff r i j then w else smGet d s.regs q :=
  smGet_put_rises hs _ _ _ _ hd

theorem cell_setCell {s : State} (hs : smRisesFrom none s.regs = true) (r : Reg) (i j : Nat) (w : Word) : cell (setCell r i j w s) r i j = w := by
  unfold cell
  rw [smGet_setCell hs r i j w _ _ (fun _ => rfl), if_pos rfl]

theorem cell_setCell_other {s : State} (hs : smRisesFrom none s.regs = true) {r r' : Reg} {i i' j j' : Nat} (w : Word)
    (h : regOff r' i' j' ≠ regOff r i j) : cell (setCell r i j w s) r' i' j' = cell s r' i' j' := by
  unfold cell
  rw [smGet_setCell hs r i j w _ _ (fun e => absurd e h), if_neg h]

/-- An entry is read from the register file alone. -/
theorem cell_regs {s t : State} (h : t.regs = s.regs) (r : Reg) (i j : Nat) : cell t r i j = cell s r i j := by unfold cell; rw [h]

theorem rises_setCell {s : State} (hs : Rises s.regs) (r : Reg) (i j : Nat) (w : Word) : Rises (setCell r i j w s).regs := rises_put hs ..

theorem rises_count {s : State} (hs : Rises s.regs) (r : Reg) (i hi lo n : Nat) : Rises (count r i hi lo n s).regs := rises_setCell hs ..

/-! ### Course-buffered registers -/

theorem cbReg_setCb {s : State} (hs : Rises s.btr.cb) (r : Reg) (i : Nat) (x : CbReg) : cbReg (setCb r i x s) r i = x := by
  unfold cbReg setCb; simp only [State.modBtr]
  rw [smGet_put_rises hs _ _ _ _ (fun _ => rfl), if_pos rfl]

theorem cbReg_setCb_other {s : State} (hs : Rises s.btr.cb) (r : Reg) (i : Nat) (x : CbReg) {r' : Reg} {i' : Nat} (h : regOff r' i' ≠ regOff r i) :
    cbReg (setCb r i x s) r' i' = cbReg s r' i' := by
  unfold cbReg setCb; simp only [State.modBtr]
  rw [smGet_put_rises hs _ _ _ _ (fun e => absurd e h), if_neg h]

/-- R353: a write sets the pending value; the value in force stays. -/
theorem CbReg.force_write (w : Word) (x : CbReg) : (x.write w).force = x.force := by
  obtain ⟨⟨a, b, c⟩, p⟩ := x
  simp only [CbReg.force, CbReg.write, Tri.map, Tri.val]
  ext k hk
  simp only [BitVec.getElem_setWidth, BitVec.getLsbD_or, BitVec.getLsbD_and]
  rw [BitVec.getLsbD_append, BitVec.getLsbD_append, BitVec.getLsbD_append]
  simp [hk]

theorem CbReg.pend_write (w : Word) (x : CbReg) : (x.write w).pend = w := by
  obtain ⟨⟨a, b, c⟩, p⟩ := x
  simp only [CbReg.pend, CbReg.write, Tri.map, Tri.val]
  ext k hk
  simp only [BitVec.getElem_setWidth, BitVec.getLsbD_or, BitVec.getLsbD_and, BitVec.getLsbD_ushiftRight]
  rw [BitVec.getLsbD_append, BitVec.getLsbD_append, BitVec.getLsbD_append]
  simp [hk]

/-! ### What an operation leaves alone, by field -/

@[simp] theorem raise_regs (src idx : Nat) (cap : List Word) (s : State) (tgt : Target) (m a : Nat) : (raise src idx cap s tgt m a).regs = s.regs := rfl

/-- R301: a report sets out: it is the newest under way, and nothing else of the state changes but what the collector has seen reported. -/
theorem raise_flying (src idx : Nat) (cap : List Word) (s : State) (tgt : Target) (m a : Nat) :
    (raise src idx cap s tgt m a).flt.flying = s.flt.flying ++ [⟨src, idx, cap, m, a, nowStamp s, nowTime s, s.quo.worst, tgt, false⟩] := rfl

theorem signalPort_regs (p v : Nat) (s : State) : (signalPort p v s).regs = s.regs := by
  unfold signalPort
  dsimp only
  split
  · exact State.modPort_regs ..
  · rfl

theorem signal_regs (v : Nat) (s : State) : (signal v s).regs = s.regs := by
  unfold signal
  rw [signalPort_regs, signalPort_regs]

/-- An event changes the register file in its own register only. -/
theorem event_regs (r : Reg) (i b : Nat) (s : State) :
    (event r i b s).regs = (modCell r i 0 (fun w => setFld (setBit w b true) 15 0 (nextSqc (fld w 15 0))) s).regs := by
  unfold event
  dsimp only
  split
  · exact signal_regs ..
  · rfl

theorem rises_event {s : State} (hs : Rises s.regs) (r : Reg) (i b : Nat) : Rises (event r i b s).regs := by
  rw [event_regs]
  exact rises_setCell hs ..

/-- R355: an event sets its bit in its register and advances the sequence number there. -/
theorem cell_event {s : State} (hs : Rises s.regs) (r : Reg) (i b : Nat) :
    cell (event r i b s) r i = setFld (setBit (cell s r i) b true) 15 0 (nextSqc (fld (cell s r i) 15 0)) := by
  rw [cell_regs (event_regs r i b s)]
  exact cell_setCell hs ..

theorem cell_event_other {s : State} (hs : Rises s.regs) (r : Reg) (i b : Nat) {r' : Reg} {i' j' : Nat} (h : regOff r' i' j' ≠ regOff r i) :
    cell (event r i b s) r' i' j' = cell s r' i' j' := by
  rw [cell_regs (event_regs r i b s)]
  exact cell_setCell_other hs _ h

theorem evented_event {s : State} (hs : Rises s.regs) (r : Reg) (i b : Nat) : Evented r i b s (event r i b s) := cell_event hs r i b

/-- What an event leaves behind, seen from before steps that leave its register alone. -/
theorem evented_of {r : Reg} {i b : Nat} {s u t : State} (h : Evented r i b u t) (hu : cell u r i = cell s r i) : Evented r i b s t := by
  unfold Evented at *
  rw [h, hu]

/-- A counter advances and saturates in its field. -/
theorem cell_count {s : State} (hs : smRisesFrom none s.regs = true) (r : Reg) (i hi lo n : Nat) :
    cell (count r i hi lo n s) r i = incSat (cell s r i) hi lo n := cell_setCell hs ..

theorem cell_count_other {s : State} (hs : Rises s.regs) (r : Reg) (i hi lo n : Nat) {r' : Reg} {i' j' : Nat} (h : regOff r' i' j' ≠ regOff r i) :
    cell (count r i hi lo n s) r' i' j' = cell s r' i' j' := cell_setCell_other hs _ h

/-! ### Host ports -/

theorem hostPort_modPort (p : Fin 2) (f : HostPort → HostPort) (s : State) : hostPort (s.modPort p f) p = f (hostPort s p) := by
  unfold hostPort State.modPort
  split <;> rfl

theorem hostPort_modPort_other (p q : Fin 2) (h : q ≠ p) (f : HostPort → HostPort) (s : State) : hostPort (s.modPort p f) q = hostPort s q :=
  match p, q, h with
  | 0, 0, h => absurd rfl h
  | 0, 1, _ => rfl
  | 1, 0, _ => rfl
  | 1, 1, h => absurd rfl h

theorem rises_banks {s : State} (h : TablesRise s) (p : Nat) : Rises (hostPort s p).banks := by
  unfold hostPort
  split
  · exact h.port0.2.2
  · exact h.port1.2.2

theorem rises_vectors {s : State} (h : TablesRise s) (p : Nat) : Rises (hostPort s p).vectors := by
  unfold hostPort
  split
  · exact h.port0.2.1
  · exact h.port1.2.1

theorem snapBank_modBank {s : State} (h : TablesRise s) (p : Fin 2) (b : Nat) (f : SnapBank → SnapBank) :
    snapBank (modBank p b f s) p b = f (snapBank s p b) := by
  unfold snapBank modBank
  rw [hostPort_modPort]
  exact smGet_upd_rises (rises_banks h p) ..

theorem snapBank_modBank_other {s : State} (h : TablesRise s) (p : Fin 2) (b : Nat) (f : SnapBank → SnapBank) (p' : Fin 2) (b' : Nat)
    (hn : p' ≠ p ∨ b' ≠ b) : snapBank (modBank p b f s) p' b' = snapBank s p' b' := by
  unfold snapBank modBank
  by_cases e : p' = p
  · subst e
    rw [hostPort_modPort]
    exact smGet_upd_other (rises_banks h _) _ _ _ _ _ (by simpa using hn)
  · rw [hostPort_modPort_other _ _ e]

end Sys2Proof.Machine
end

