-- ==== Sys2Proof/Laws/Fields.lean ====
section
/-!
SUPPORT. The fields that events, counters, reports and register writes leave alone, and what stays of an event and of a report.
-/
namespace Sys2Proof.Machine
set_option Elab.async false

/-! ### event -/

@[simp] theorem event_pending (r : Reg) (i b : Nat) (s : State) : (event r i b s).pending = s.pending := (event_does r i b s).only.same .pending (by decide)
@[simp] theorem event_btr (r : Reg) (i b : Nat) (s : State) : (event r i b s).btr = s.btr := (event_does r i b s).only.same .btr (by decide)
@[simp] theorem event_flt (r : Reg) (i b : Nat) (s : State) : (event r i b s).flt = s.flt := (event_does r i b s).only.same .flt (by decide)
@[simp] theorem event_quo (r : Reg) (i b : Nat) (s : State) : (event r i b s).quo = s.quo := (event_does r i b s).only.same .quo (by decide)
@[simp] theorem event_pwr (r : Reg) (i b : Nat) (s : State) : (event r i b s).pwr = s.pwr := (event_does r i b s).only.same .pwr (by decide)
@[simp] theorem event_lanes (r : Reg) (i b : Nat) (s : State) : (event r i b s).lanes = s.lanes := (event_does r i b s).only.same .lanes (by decide)
@[simp] theorem event_downlinks (r : Reg) (i b : Nat) (s : State) : (event r i b s).downlinks = s.downlinks := (event_does r i b s).only.same .downlinks (by decide)
@[simp] theorem event_partners (r : Reg) (i b : Nat) (s : State) : (event r i b s).partners = s.partners := (event_does r i b s).only.same .partners (by decide)
@[simp] theorem event_bindPending (r : Reg) (i b : Nat) (s : State) : (event r i b s).bindPending = s.bindPending := (event_does r i b s).only.same .bindPending (by decide)
@[simp] theorem event_groups (r : Reg) (i b : Nat) (s : State) : (event r i b s).groups = s.groups := (event_does r i b s).only.same .groups (by decide)
@[simp] theorem event_sram (r : Reg) (i b : Nat) (s : State) : (event r i b s).sram = s.sram := (event_does r i b s).only.same .sram (by decide)
@[simp] theorem event_ash (r : Reg) (i b : Nat) (s : State) : (event r i b s).ash = s.ash := (event_does r i b s).only.same .ash (by decide)
@[simp] theorem event_ring (r : Reg) (i b : Nat) (s : State) : (event r i b s).ring = s.ring := (event_does r i b s).only.same .ring (by decide)
@[simp] theorem event_qry (r : Reg) (i b : Nat) (s : State) : (event r i b s).qry = s.qry := (event_does r i b s).only.same .qry (by decide)
@[simp] theorem event_hbm (r : Reg) (i b : Nat) (s : State) : (event r i b s).hbm = s.hbm := (event_does r i b s).only.same .hbm (by decide)
@[simp] theorem event_mem (r : Reg) (i b : Nat) (s : State) : (event r i b s).mem = s.mem := (event_does r i b s).only.same .mem (by decide)
@[simp] theorem event_mrt (r : Reg) (i b : Nat) (s : State) : (event r i b s).mrt = s.mrt := (event_does r i b s).only.same .mrt (by decide)
@[simp] theorem event_streams (r : Reg) (i b : Nat) (s : State) : (event r i b s).streams = s.streams := (event_does r i b s).only.same .streams (by decide)
@[simp] theorem event_uplinks (r : Reg) (i b : Nat) (s : State) : (event r i b s).uplinks = s.uplinks := (event_does r i b s).only.same .uplinks (by decide)
@[simp] theorem event_uplGroups (r : Reg) (i b : Nat) (s : State) : (event r i b s).uplGroups = s.uplGroups := (event_does r i b s).only.same .uplGroups (by decide)
@[simp] theorem event_retLanes (r : Reg) (i b : Nat) (s : State) : (event r i b s).retLanes = s.retLanes := (event_does r i b s).only.same .retLanes (by decide)
@[simp] theorem event_lnt (r : Reg) (i b : Nat) (s : State) : (event r i b s).lnt = s.lnt := (event_does r i b s).only.same .lnt (by decide)
@[simp] theorem event_ldg (r : Reg) (i b : Nat) (s : State) : (event r i b s).ldg = s.ldg := (event_does r i b s).only.same .ldg (by decide)
@[simp] theorem event_gau (r : Reg) (i b : Nat) (s : State) : (event r i b s).gau = s.gau := (event_does r i b s).only.same .gau (by decide)
@[simp] theorem event_plb (r : Reg) (i b : Nat) (s : State) : (event r i b s).plb = s.plb := (event_does r i b s).only.same .plb (by decide)
@[simp] theorem event_cns (r : Reg) (i b : Nat) (s : State) : (event r i b s).cns = s.cns := (event_does r i b s).only.same .cns (by decide)
@[simp] theorem event_jtag (r : Reg) (i b : Nat) (s : State) : (event r i b s).jtag = s.jtag := (event_does r i b s).only.same .jtag (by decide)

/-! ### raise -/

@[simp] theorem raise_pending (src idx : Nat) (cap : List Word) (s : State) (tgt : Target) (m a : Nat) : (raise src idx cap s tgt m a).pending = s.pending := rfl
@[simp] theorem raise_btr (src idx : Nat) (cap : List Word) (s : State) (tgt : Target) (m a : Nat) : (raise src idx cap s tgt m a).btr = s.btr := rfl
@[simp] theorem raise_port0 (src idx : Nat) (cap : List Word) (s : State) (tgt : Target) (m a : Nat) : (raise src idx cap s tgt m a).port0 = s.port0 := rfl
@[simp] theorem raise_port1 (src idx : Nat) (cap : List Word) (s : State) (tgt : Target) (m a : Nat) : (raise src idx cap s tgt m a).port1 = s.port1 := rfl
@[simp] theorem raise_quo (src idx : Nat) (cap : List Word) (s : State) (tgt : Target) (m a : Nat) : (raise src idx cap s tgt m a).quo = s.quo := rfl
@[simp] theorem raise_pwr (src idx : Nat) (cap : List Word) (s : State) (tgt : Target) (m a : Nat) : (raise src idx cap s tgt m a).pwr = s.pwr := rfl
@[simp] theorem raise_lanes (src idx : Nat) (cap : List Word) (s : State) (tgt : Target) (m a : Nat) : (raise src idx cap s tgt m a).lanes = s.lanes := rfl
@[simp] theorem raise_downlinks (src idx : Nat) (cap : List Word) (s : State) (tgt : Target) (m a : Nat) : (raise src idx cap s tgt m a).downlinks = s.downlinks := rfl
@[simp] theorem raise_partners (src idx : Nat) (cap : List Word) (s : State) (tgt : Target) (m a : Nat) : (raise src idx cap s tgt m a).partners = s.partners := rfl
@[simp] theorem raise_bindPending (src idx : Nat) (cap : List Word) (s : State) (tgt : Target) (m a : Nat) : (raise src idx cap s tgt m a).bindPending = s.bindPending := rfl
@[simp] theorem raise_groups (src idx : Nat) (cap : List Word) (s : State) (tgt : Target) (m a : Nat) : (raise src idx cap s tgt m a).groups = s.groups := rfl
@[simp] theorem raise_sram (src idx : Nat) (cap : List Word) (s : State) (tgt : Target) (m a : Nat) : (raise src idx cap s tgt m a).sram = s.sram := rfl
@[simp] theorem raise_ash (src idx : Nat) (cap : List Word) (s : State) (tgt : Target) (m a : Nat) : (raise src idx cap s tgt m a).ash = s.ash := rfl
@[simp] theorem raise_ring (src idx : Nat) (cap : List Word) (s : State) (tgt : Target) (m a : Nat) : (raise src idx cap s tgt m a).ring = s.ring := rfl
@[simp] theorem raise_qry (src idx : Nat) (cap : List Word) (s : State) (tgt : Target) (m a : Nat) : (raise src idx cap s tgt m a).qry = s.qry := rfl
@[simp] theorem raise_hbm (src idx : Nat) (cap : List Word) (s : State) (tgt : Target) (m a : Nat) : (raise src idx cap s tgt m a).hbm = s.hbm := rfl
@[simp] theorem raise_mem (src idx : Nat) (cap : List Word) (s : State) (tgt : Target) (m a : Nat) : (raise src idx cap s tgt m a).mem = s.mem := rfl
@[simp] theorem raise_mrt (src idx : Nat) (cap : List Word) (s : State) (tgt : Target) (m a : Nat) : (raise src idx cap s tgt m a).mrt = s.mrt := rfl
@[simp] theorem raise_streams (src idx : Nat) (cap : List Word) (s : State) (tgt : Target) (m a : Nat) : (raise src idx cap s tgt m a).streams = s.streams := rfl
@[simp] theorem raise_uplinks (src idx : Nat) (cap : List Word) (s : State) (tgt : Target) (m a : Nat) : (raise src idx cap s tgt m a).uplinks = s.uplinks := rfl
@[simp] theorem raise_uplGroups (src idx : Nat) (cap : List Word) (s : State) (tgt : Target) (m a : Nat) : (raise src idx cap s tgt m a).uplGroups = s.uplGroups := rfl
@[simp] theorem raise_retLanes (src idx : Nat) (cap : List Word) (s : State) (tgt : Target) (m a : Nat) : (raise src idx cap s tgt m a).retLanes = s.retLanes := rfl
@[simp] theorem raise_lnt (src idx : Nat) (cap : List Word) (s : State) (tgt : Target) (m a : Nat) : (raise src idx cap s tgt m a).lnt = s.lnt := rfl
@[simp] theorem raise_ldg (src idx : Nat) (cap : List Word) (s : State) (tgt : Target) (m a : Nat) : (raise src idx cap s tgt m a).ldg = s.ldg := rfl
@[simp] theorem raise_gau (src idx : Nat) (cap : List Word) (s : State) (tgt : Target) (m a : Nat) : (raise src idx cap s tgt m a).gau = s.gau := rfl
@[simp] theorem raise_plb (src idx : Nat) (cap : List Word) (s : State) (tgt : Target) (m a : Nat) : (raise src idx cap s tgt m a).plb = s.plb := rfl
@[simp] theorem raise_cns (src idx : Nat) (cap : List Word) (s : State) (tgt : Target) (m a : Nat) : (raise src idx cap s tgt m a).cns = s.cns := rfl
@[simp] theorem raise_jtag (src idx : Nat) (cap : List Word) (s : State) (tgt : Target) (m a : Nat) : (raise src idx cap s tgt m a).jtag = s.jtag := rfl

/-! ### modCell and the counters -/

@[simp] theorem modCell_pending (r : Reg) (i j : Nat) (g : Word → Word) (s : State) : (modCell r i j g s).pending = s.pending := rfl
@[simp] theorem modCell_btr (r : Reg) (i j : Nat) (g : Word → Word) (s : State) : (modCell r i j g s).btr = s.btr := rfl
@[simp] theorem modCell_flt (r : Reg) (i j : Nat) (g : Word → Word) (s : State) : (modCell r i j g s).flt = s.flt := rfl
@[simp] theorem modCell_port0 (r : Reg) (i j : Nat) (g : Word → Word) (s : State) : (modCell r i j g s).port0 = s.port0 := rfl
@[simp] theorem modCell_port1 (r : Reg) (i j : Nat) (g : Word → Word) (s : State) : (modCell r i j g s).port1 = s.port1 := rfl
@[simp] theorem modCell_quo (r : Reg) (i j : Nat) (g : Word → Word) (s : State) : (modCell r i j g s).quo = s.quo := rfl
@[simp] theorem modCell_pwr (r : Reg) (i j : Nat) (g : Word → Word) (s : State) : (modCell r i j g s).pwr = s.pwr := rfl
@[simp] theorem modCell_lanes (r : Reg) (i j : Nat) (g : Word → Word) (s : State) : (modCell r i j g s).lanes = s.lanes := rfl
@[simp] theorem modCell_downlinks (r : Reg) (i j : Nat) (g : Word → Word) (s : State) : (modCell r i j g s).downlinks = s.downlinks := rfl
@[simp] theorem modCell_partners (r : Reg) (i j : Nat) (g : Word → Word) (s : State) : (modCell r i j g s).partners = s.partners := rfl
@[simp] theorem modCell_bindPending (r : Reg) (i j : Nat) (g : Word → Word) (s : State) : (modCell r i j g s).bindPending = s.bindPending := rfl
@[simp] theorem modCell_groups (r : Reg) (i j : Nat) (g : Word → Word) (s : State) : (modCell r i j g s).groups = s.groups := rfl
@[simp] theorem modCell_sram (r : Reg) (i j : Nat) (g : Word → Word) (s : State) : (modCell r i j g s).sram = s.sram := rfl
@[simp] theorem modCell_ash (r : Reg) (i j : Nat) (g : Word → Word) (s : State) : (modCell r i j g s).ash = s.ash := rfl
@[simp] theorem modCell_ring (r : Reg) (i j : Nat) (g : Word → Word) (s : State) : (modCell r i j g s).ring = s.ring := rfl
@[simp] theorem modCell_qry (r : Reg) (i j : Nat) (g : Word → Word) (s : State) : (modCell r i j g s).qry = s.qry := rfl
@[simp] theorem modCell_hbm (r : Reg) (i j : Nat) (g : Word → Word) (s : State) : (modCell r i j g s).hbm = s.hbm := rfl
@[simp] theorem modCell_mem (r : Reg) (i j : Nat) (g : Word → Word) (s : State) : (modCell r i j g s).mem = s.mem := rfl
@[simp] theorem modCell_mrt (r : Reg) (i j : Nat) (g : Word → Word) (s : State) : (modCell r i j g s).mrt = s.mrt := rfl
@[simp] theorem modCell_streams (r : Reg) (i j : Nat) (g : Word → Word) (s : State) : (modCell r i j g s).streams = s.streams := rfl
@[simp] theorem modCell_uplinks (r : Reg) (i j : Nat) (g : Word → Word) (s : State) : (modCell r i j g s).uplinks = s.uplinks := rfl
@[simp] theorem modCell_uplGroups (r : Reg) (i j : Nat) (g : Word → Word) (s : State) : (modCell r i j g s).uplGroups = s.uplGroups := rfl
@[simp] theorem modCell_retLanes (r : Reg) (i j : Nat) (g : Word → Word) (s : State) : (modCell r i j g s).retLanes = s.retLanes := rfl
@[simp] theorem modCell_lnt (r : Reg) (i j : Nat) (g : Word → Word) (s : State) : (modCell r i j g s).lnt = s.lnt := rfl
@[simp] theorem modCell_ldg (r : Reg) (i j : Nat) (g : Word → Word) (s : State) : (modCell r i j g s).ldg = s.ldg := rfl
@[simp] theorem modCell_gau (r : Reg) (i j : Nat) (g : Word → Word) (s : State) : (modCell r i j g s).gau = s.gau := rfl
@[simp] theorem modCell_plb (r : Reg) (i j : Nat) (g : Word → Word) (s : State) : (modCell r i j g s).plb = s.plb := rfl
@[simp] theorem modCell_cns (r : Reg) (i j : Nat) (g : Word → Word) (s : State) : (modCell r i j g s).cns = s.cns := rfl
@[simp] theorem modCell_jtag (r : Reg) (i j : Nat) (g : Word → Word) (s : State) : (modCell r i j g s).jtag = s.jtag := rfl
@[simp] theorem count_pending (r : Reg) (i hi lo n : Nat) (s : State) : (count r i hi lo n s).pending = s.pending := rfl
@[simp] theorem count_btr (r : Reg) (i hi lo n : Nat) (s : State) : (count r i hi lo n s).btr = s.btr := rfl
@[simp] theorem count_flt (r : Reg) (i hi lo n : Nat) (s : State) : (count r i hi lo n s).flt = s.flt := rfl
@[simp] theorem count_port0 (r : Reg) (i hi lo n : Nat) (s : State) : (count r i hi lo n s).port0 = s.port0 := rfl
@[simp] theorem count_port1 (r : Reg) (i hi lo n : Nat) (s : State) : (count r i hi lo n s).port1 = s.port1 := rfl
@[simp] theorem count_quo (r : Reg) (i hi lo n : Nat) (s : State) : (count r i hi lo n s).quo = s.quo := rfl
@[simp] theorem count_pwr (r : Reg) (i hi lo n : Nat) (s : State) : (count r i hi lo n s).pwr = s.pwr := rfl
@[simp] theorem count_lanes (r : Reg) (i hi lo n : Nat) (s : State) : (count r i hi lo n s).lanes = s.lanes := rfl
@[simp] theorem count_downlinks (r : Reg) (i hi lo n : Nat) (s : State) : (count r i hi lo n s).downlinks = s.downlinks := rfl
@[simp] theorem count_partners (r : Reg) (i hi lo n : Nat) (s : State) : (count r i hi lo n s).partners = s.partners := rfl
@[simp] theorem count_bindPending (r : Reg) (i hi lo n : Nat) (s : State) : (count r i hi lo n s).bindPending = s.bindPending := rfl
@[simp] theorem count_groups (r : Reg) (i hi lo n : Nat) (s : State) : (count r i hi lo n s).groups = s.groups := rfl
@[simp] theorem count_sram (r : Reg) (i hi lo n : Nat) (s : State) : (count r i hi lo n s).sram = s.sram := rfl
@[simp] theorem count_ash (r : Reg) (i hi lo n : Nat) (s : State) : (count r i hi lo n s).ash = s.ash := rfl
@[simp] theorem count_ring (r : Reg) (i hi lo n : Nat) (s : State) : (count r i hi lo n s).ring = s.ring := rfl
@[simp] theorem count_qry (r : Reg) (i hi lo n : Nat) (s : State) : (count r i hi lo n s).qry = s.qry := rfl
@[simp] theorem count_hbm (r : Reg) (i hi lo n : Nat) (s : State) : (count r i hi lo n s).hbm = s.hbm := rfl
@[simp] theorem count_mem (r : Reg) (i hi lo n : Nat) (s : State) : (count r i hi lo n s).mem = s.mem := rfl
@[simp] theorem count_mrt (r : Reg) (i hi lo n : Nat) (s : State) : (count r i hi lo n s).mrt = s.mrt := rfl
@[simp] theorem count_streams (r : Reg) (i hi lo n : Nat) (s : State) : (count r i hi lo n s).streams = s.streams := rfl
@[simp] theorem count_uplinks (r : Reg) (i hi lo n : Nat) (s : State) : (count r i hi lo n s).uplinks = s.uplinks := rfl
@[simp] theorem count_uplGroups (r : Reg) (i hi lo n : Nat) (s : State) : (count r i hi lo n s).uplGroups = s.uplGroups := rfl
@[simp] theorem count_retLanes (r : Reg) (i hi lo n : Nat) (s : State) : (count r i hi lo n s).retLanes = s.retLanes := rfl
@[simp] theorem count_lnt (r : Reg) (i hi lo n : Nat) (s : State) : (count r i hi lo n s).lnt = s.lnt := rfl
@[simp] theorem count_ldg (r : Reg) (i hi lo n : Nat) (s : State) : (count r i hi lo n s).ldg = s.ldg := rfl
@[simp] theorem count_gau (r : Reg) (i hi lo n : Nat) (s : State) : (count r i hi lo n s).gau = s.gau := rfl
@[simp] theorem count_plb (r : Reg) (i hi lo n : Nat) (s : State) : (count r i hi lo n s).plb = s.plb := rfl
@[simp] theorem count_cns (r : Reg) (i hi lo n : Nat) (s : State) : (count r i hi lo n s).cns = s.cns := rfl
@[simp] theorem count_jtag (r : Reg) (i hi lo n : Nat) (s : State) : (count r i hi lo n s).jtag = s.jtag := rfl

/-! ### The moment, reports and events -/

/-- The moment is read from the Buttress alone. -/
theorem nowStamp_btr {s t : State} (h : t.btr = s.btr) : nowStamp t = nowStamp s := by
  unfold nowStamp nowCourse nowCycle nowBt
  rw [h]

theorem reported_raise {src idx : Nat} {cap : List Word} {s u : State} {tgt : Target} {m a : Nat} (h : u.btr = s.btr) :
    Reported src idx cap s (raise src idx cap u tgt m a) :=
  ⟨_, by rw [raise_flying]; exact List.mem_append.2 (.inr (List.mem_singleton.2 rfl)), rfl, rfl, rfl, nowStamp_btr h⟩

/-- A report stays under way whatever changes outside the collector. -/
theorem Reported.keep {src idx : Nat} {cap : List Word} {s u t : State} (h : Reported src idx cap s u) (k : t.flt = u.flt) : Reported src idx cap s t := by
  obtain ⟨r, hr, e⟩ := h
  exact ⟨r, by rw [k]; exact hr, e⟩

theorem Reported.raise {src idx : Nat} {cap : List Word} {s u : State} (h : Reported src idx cap s u) (src' idx' : Nat) (cap' : List Word)
    (tgt : Target) (m a : Nat) : Reported src idx cap s (raise src' idx' cap' u tgt m a) := by
  obtain ⟨r, hr, e⟩ := h
  exact ⟨r, by rw [raise_flying]; exact List.mem_append.2 (.inl hr), e⟩

theorem Evented.keep {r : Reg} {i b : Nat} {s u t : State} (h : Evented r i b s u) (k : t.regs = u.regs) : Evented r i b s t := by
  unfold Evented at *
  rw [cell_regs k, h]

end Sys2Proof.Machine
end

