-- ==== Sys2Proof/Laws/RegMap.lean ====
section
/-!
SUPPORT. Where the registers that the host rows write lie: what the register map answers at their offsets.
-/
namespace Sys2Proof.Machine
set_option Elab.async false

/-- The map answers a register entry at its offset, outside the MSI-X table. -/
abbrev RegIsAt (r : Reg) (i j : Nat) : Prop := regAt (regOff r i j) = some (r, i, j) ∧ isMsix (regOff r i j) = false

theorem at_quoTxCtl : RegIsAt .quoTxCtl 0 0 := by decide +kernel
theorem at_quoTxqPop : RegIsAt .quoTxqPop 0 0 := by decide +kernel
theorem at_bedDlFc : ∀ i : Fin 64, RegIsAt .bedDlFc i 0 := by decide +kernel
theorem at_bedLaneCfg : ∀ i : Fin 256, RegIsAt .bedLaneCfg i 0 := by decide +kernel
theorem at_qryFindNs : RegIsAt .qryFindNs 0 0 := by decide +kernel
theorem at_memInject : RegIsAt .memInject 0 0 := by decide +kernel
theorem at_btrInject : RegIsAt .btrInject 0 0 := by decide +kernel
theorem at_mrtStreamCtl : ∀ i : Fin 48, RegIsAt .mrtStreamCtl i 0 := by decide +kernel
theorem at_mrtAccCtl : RegIsAt .mrtAccCtl 0 0 := by decide +kernel
theorem at_uplLinkCfg : ∀ i : Fin 64, RegIsAt .uplLinkCfg i 0 := by decide +kernel
theorem at_uplStreamMap : ∀ i : Fin 48, RegIsAt .uplStreamMap i 0 := by decide +kernel
theorem at_fltAck : RegIsAt .fltAck 0 0 := by decide +kernel
theorem at_fltAckUpto : RegIsAt .fltAckUpto 0 0 := by decide +kernel
theorem at_fltDpCtl : RegIsAt .fltDpCtl 0 0 := by decide +kernel
theorem at_fltSnapSeq : RegIsAt .fltSnapSeq 0 0 := by decide +kernel
theorem at_fltSnapSrc : RegIsAt .fltSnapSrc 0 0 := by decide +kernel
theorem at_hstOwner : RegIsAt .hstOwner 0 0 := by decide +kernel
theorem at_ldgMbSubmit : ∀ i : Fin 8, RegIsAt .ldgMbSubmit i 0 := by decide +kernel
theorem at_ldgMbAck : ∀ i : Fin 8, RegIsAt .ldgMbAck i 0 := by decide +kernel
theorem at_gauChCfg : ∀ i : Fin 72, RegIsAt .gauChCfg i 0 := by decide +kernel
theorem at_plbCtl : RegIsAt .plbCtl 0 0 := by decide +kernel
theorem at_hstDeviceId : RegIsAt .hstDeviceId 0 0 := by decide +kernel
theorem at_hstInstallPos : RegIsAt .hstInstallPos 0 0 := by decide +kernel
theorem at_quoSnapSel : RegIsAt .quoSnapSel 0 0 := by decide +kernel
theorem at_plbSnapSel : RegIsAt .plbSnapSel 0 0 := by decide +kernel
theorem at_gauSnapSel : RegIsAt .gauSnapSel 0 0 := by decide +kernel
theorem at_crsSnapSel : RegIsAt .crsSnapSel 0 0 := by decide +kernel
theorem at_qrySnapSel : RegIsAt .qrySnapSel 0 0 := by decide +kernel
theorem at_mrtSnapSel : RegIsAt .mrtSnapSel 0 0 := by decide +kernel
theorem at_bedSnapSel : ∀ i : Fin 32, RegIsAt .bedSnapSel i 0 := by decide +kernel

/-- A write at the offset of a register entry: refused, stopped on a KEEP bit, or taken by the entry. -/
theorem hostWrite_at {p : Nat} {w : Word} {r : Reg} {i j : Nat} (h : RegIsAt r i j) (s : State) :
    hostWrite p (regOff r i j) w s =
      if !mayWrite s p (regOff r i j) then .next (writeRefused s) else if keepChanged r i w then .refused .keepFieldChanged else .next (writeReg p r i j w s) := by
  unfold hostWrite
  split
  · rfl
  · rw [h.2, h.1]; rfl

/-- What a write of a register of kind RW without locks does: its RW fields take the written bits, and then the register's own effect. -/
theorem writeReg_plain {p : Nat} {r : Reg} {i j : Nat} {w : Word} {s : State} (h : regMask r .sqc = 0 ∧ regMask r .once = 0 ∧ regMask r .cb = 0 ∧
    regMask r .lk = 0) (ho : ownHome r = false) (hf : r ≠ .fltCtl) :
    writeReg p r i j w s = writeEffect p r i j (cell s r i j) w (setCell r i j (mergeMask (storeMask r) (cell s r i j) w) s) := by
  obtain ⟨h1, h2, h3, h4⟩ := h
  have hw : r ≠ .hstOwner := by rintro rfl; cases ho
  unfold writeReg
  rw [if_neg (by simp [h1]), if_neg (by simp [h2]), if_neg (by simp [h3]), if_neg hw]
  simp [h4, ho, hf]

theorem writeReg_owner (p i j : Nat) (w : Word) (s : State) : writeReg p .hstOwner i j w s = ownerWrite p w s := by
  unfold writeReg
  rw [if_neg (by decide), if_neg (by decide), if_neg (by decide), if_pos rfl]

theorem writeReg_once {p : Nat} {r : Reg} {i j : Nat} {w : Word} {s : State} (h : regMask r .sqc = 0) (ho : regMask r .once ≠ 0) :
    writeReg p r i j w s = onceWrite p r w s := by
  unfold writeReg
  rw [if_neg (by simp [h]), if_pos ho]

theorem writeReg_cb {p : Nat} {r : Reg} {i j : Nat} {w : Word} {s : State} (h : regMask r .sqc = 0 ∧ regMask r .once = 0) (ho : regMask r .cb ≠ 0) :
    writeReg p r i j w s = cbWrite r i w s := by
  unfold writeReg
  rw [if_neg (by simp [h.1]), if_neg (by simp [h.2]), if_pos ho]

theorem writeReg_sqc {p : Nat} {r : Reg} {i j : Nat} {w : Word} {s : State} (h : regMask r .sqc ≠ 0) :
    writeReg p r i j w s = sqcWrite r i w s := by
  unfold writeReg
  rw [if_pos h]

/-! ### Writes that take effect -/

theorem upNext_up {f : State → State} {s : State} (h : isUp s = true) : upNext f s = .next (f s) := by
  unfold upNext whenUp
  rw [if_pos h]

/-- A host row whose write takes effect. -/
theorem hostRow_may {p : Nat} {r : Reg} {i j : Nat} {w : Word} {s : State} (h : HostMay p r i j w s) (ha : RegIsAt r i j) :
    hostRow p (regOff r i j) w s = .next (writeReg p r i j w s) := by
  obtain ⟨h1, h2, h3, h4⟩ := h
  unfold hostRow
  rw [h1, h2, if_pos (by rfl), hostWrite_at ha, h3, h4]
  rfl

set_option maxRecDepth 20000 in
theorem ownHome_of {r : Reg} (h : hasEffect r = false) : ownHome r = false := by
  revert h
  cases r <;> decide

set_option maxRecDepth 20000 in
/-- A register without an effect of its own has none. -/
theorem writeEffect_of {r : Reg} (h : hasEffect r = false) (p i j : Nat) (old w : Word) (s : State) : writeEffect p r i j old w s = s := by
  unfold writeEffect
  split
  rotate_right
  · rfl
  all_goals exact absurd h (by decide)

end Sys2Proof.Machine
end

