-- ==== Sys2Proof/Laws/Rows.lean ====
section
/-!
SUPPORT. What each row of the table can do: the parts of the state that its meaning can change, memory's form and the capacities kept.
-/
namespace Sys2Proof.Machine
set_option Elab.async false

theorem upNext_does {L : List Zone} {f : State → State} {s t : State} (hf : Does L s (f s)) (h : upNext f s = .next t) : Does L s t := by
  unfold upNext whenUp at h
  cases h
  split
  · exact hf
  · exact Does.refl _ _

theorem next_does {L : List Zone} {s t u : State} (hf : Does L s u) (h : (.next u : Host.Outcome State Fault Refusal) = .next t) : Does L s t := by
  cases h; exact hf

theorem hostWrite_does {p off : Nat} {w : Word} {s t : State} (h : hostWrite p off w s = .next t) :
    Does [.regs, .flt, .port0, .port1, .btr, .quo, .lanes, .downlinks, .partners, .groups, .qry, .mem, .mrt, .streams, .uplinks, .retLanes, .ldg, .gau, .plb, .cns] s t := by
  unfold hostWrite at h
  split at h
  · exact next_does (Does.step (writeRefused_does ..) (by decide) (Does.refl _ _)) h
  · split at h
    · refine next_does ?_ h
      split
      · exact Does.step (msixTableWrite_does ..) (by decide) (Does.refl _ _)
      · exact Does.refl _ _
    · split at h
      · exact next_does (Does.refl _ _) h
      · split at h
        · cases h
        · exact next_does (Does.step (writeReg_does ..) (by decide) (Does.refl _ _)) h

theorem hostRow_does {p off : Nat} {w : Word} {s t : State} (h : hostRow p off w s = .next t) :
    Does [.regs, .flt, .port0, .port1, .btr, .quo, .lanes, .downlinks, .partners, .groups, .qry, .mem, .mrt, .streams, .uplinks, .retLanes, .ldg, .gau, .plb, .cns] s t := by
  unfold hostRow at h
  split at h
  · exact hostWrite_does h
  · exact next_does (Does.refl _ _) h

theorem hostRow_at_does {L : List Zone} {p : Nat} {w : Word} {r : Reg} {i j : Nat} {s t : State} (ha : RegIsAt r i j)
    (hz : (reportZones.all fun z => L.contains z) = true) (hw : Does L s (writeReg p r i j w s)) (h : hostRow p (regOff r i j) w s = .next t) : Does L s t := by
  unfold hostRow at h
  split at h
  · rw [hostWrite_at ha] at h
    split at h
    · exact next_does (Does.step (writeRefused_does ..) (by
        refine List.all_eq_true.2 fun z hm => List.all_eq_true.1 hz z ?_
        revert hm; revert z; decide) (Does.refl _ _)) h
    · split at h
      · cases h
      · exact next_does hw h
  · exact next_does (Does.refl _ _) h

/-! ### RowsTime -/

theorem execCourseTick_does {obs : TickObs} {s y : State} (hx : execCourseTick obs s = .next y) :
    Does [.regs, .flt, .port0, .port1, .btr, .quo, .lanes, .downlinks, .partners, .bindPending, .groups, .sram, .ash, .ring, .qry, .mem, .mrt, .streams, .uplinks, .uplGroups, .retLanes, .lnt, .ldg, .gau, .plb, .cns] s y := by
  refine upNext_does ?_ hx
  repeat' (first
    | with_reducible (first
        | exact Does.refl _ _ | assumption | apply Does.ite | apply Does.step (courseTick_does ..))
    | decide | intro _ _ _ | intro _ _ | split | dsimp only)

theorem execOrbitStart_does {s y : State} (hx : execOrbitStart s = .next y) :
    Does [.btr, .quo] s y := by
  refine upNext_does ?_ hx
  repeat' (first
    | with_reducible (first
        | exact Does.refl _ _ | assumption | apply Does.ite | apply Does.step (orbitStart_does ..))
    | decide | intro _ _ _ | intro _ _ | split | dsimp only)

theorem execOrbitStartRx_does {d : Fin 2} {s y : State} (hx : execOrbitStartRx d s = .next y) :
    Does [.regs, .flt, .port0, .port1, .btr, .quo] s y := by
  refine upNext_does ?_ hx
  repeat' (first
    | with_reducible (first
        | exact Does.refl _ _ | assumption | apply Does.ite | apply Does.step (orbitStartRx_does ..))
    | decide | intro _ _ _ | intro _ _ | split | dsimp only)

theorem execQuoSignalDetect_does {d : Fin 2} {s y : State} (hx : execQuoSignalDetect d s = .next y) :
    Does [.quo] s y := by
  refine upNext_does ?_ hx
  repeat' (first
    | with_reducible (first
        | exact Does.refl _ _ | assumption | apply Does.ite | apply Does.step (signalDetect_does ..))
    | decide | intro _ _ _ | intro _ _ | split | dsimp only)

theorem execQuoAlignCountDone_does {d : Fin 2} {s y : State} (hx : execQuoAlignCountDone d s = .next y) :
    Does [.quo] s y := by
  refine upNext_does ?_ hx
  repeat' (first
    | with_reducible (first
        | exact Does.refl _ _ | assumption | apply Does.ite | apply Does.step (alignCountDone_does ..))
    | decide | intro _ _ _ | intro _ _ | split | dsimp only)

theorem execQuoLossOfSignal_does {d : Fin 2} {s y : State} (hx : execQuoLossOfSignal d s = .next y) :
    Does [.regs, .flt, .port0, .port1, .quo] s y := by
  refine upNext_does ?_ hx
  repeat' (first
    | with_reducible (first
        | exact Does.refl _ _ | assumption | apply Does.ite | apply Does.step (lossOfSignal_does ..))
    | decide | intro _ _ _ | intro _ _ | split | dsimp only)

theorem execQuoFramingLoss_does {d : Fin 2} {s y : State} (hx : execQuoFramingLoss d s = .next y) :
    Does [.regs, .flt, .port0, .port1, .quo] s y := by
  refine upNext_does ?_ hx
  repeat' (first
    | with_reducible (first
        | exact Does.refl _ _ | assumption | apply Does.ite | apply Does.step (framingLoss_does ..))
    | decide | intro _ _ _ | intro _ _ | split | dsimp only)

theorem execSyncTimeout_does {d : Fin 2} {s y : State} (hx : execSyncTimeout d s = .next y) :
    Does [.regs, .flt, .port0, .port1, .quo] s y := by
  refine upNext_does ?_ hx
  repeat' (first
    | with_reducible (first
        | exact Does.refl _ _ | assumption | apply Does.ite | apply Does.step (syncTimeout_does ..))
    | decide | intro _ _ _ | intro _ _ | split | dsimp only)

theorem execAnnounceTimeout_does {d : Fin 2} {s y : State} (hx : execAnnounceTimeout d s = .next y) :
    Does [.regs, .flt, .port0, .port1, .quo] s y := by
  refine upNext_does ?_ hx
  repeat' (first
    | with_reducible (first
        | exact Does.refl _ _ | assumption | apply Does.ite | apply Does.step (announceTimeout_does ..))
    | decide | intro _ _ _ | intro _ _ | split | dsimp only)

theorem execTimeFreqRange_does {d : Fin 2} {s y : State} (hx : execTimeFreqRange d s = .next y) :
    Does [.regs, .flt, .port0, .port1, .quo] s y := by
  refine upNext_does ?_ hx
  repeat' (first
    | with_reducible (first
        | exact Does.refl _ _ | assumption | apply Does.ite | apply Does.step (freqRange_does ..))
    | decide | intro _ _ _ | intro _ _ | split | dsimp only)

theorem execDomainBtCountTimeout_does {d : Fin 2} {s y : State} (hx : execDomainBtCountTimeout d s = .next y) :
    Does [.regs, .flt, .port0, .port1, .quo] s y := by
  refine upNext_does ?_ hx
  repeat' (first
    | with_reducible (first
        | exact Does.refl _ _ | assumption | apply Does.ite | apply Does.step (btCountTimeout_does ..))
    | decide | intro _ _ _ | intro _ _ | split | dsimp only)

theorem execIeee1588Sync_does {d : Fin 2} {msg : PtpSync} {s y : State} (hx : execIeee1588Sync d msg s = .next y) :
    Does [.regs, .flt, .port0, .port1, .quo] s y := by
  refine upNext_does ?_ hx
  repeat' (first
    | with_reducible (first
        | exact Does.refl _ _ | assumption | apply Does.ite | apply Does.step (ptpSync_does ..))
    | decide | intro _ _ _ | intro _ _ | split | dsimp only)

theorem execIeee1588FollowUp_does {d : Fin 2} {msg : PtpFollowUp} {s y : State} (hx : execIeee1588FollowUp d msg s = .next y) :
    Does [.regs, .flt, .port0, .port1, .quo] s y := by
  refine upNext_does ?_ hx
  repeat' (first
    | with_reducible (first
        | exact Does.refl _ _ | assumption | apply Does.ite | apply Does.step (ptpFollowUp_does ..))
    | decide | intro _ _ _ | intro _ _ | split | dsimp only)

theorem execIeee1588DelayResp_does {d : Fin 2} {msg : PtpDelayResp} {s y : State} (hx : execIeee1588DelayResp d msg s = .next y) :
    Does [.quo] s y := by
  refine upNext_does ?_ hx
  repeat' (first
    | with_reducible (first
        | exact Does.refl _ _ | assumption | apply Does.ite | apply Does.step (ptpDelayResp_does ..))
    | decide | intro _ _ _ | intro _ _ | split | dsimp only)

theorem execIeee1588Announce_does {d : Fin 2} {msg : PtpAnnounce} {s y : State} (hx : execIeee1588Announce d msg s = .next y) :
    Does [.quo] s y := by
  refine upNext_does ?_ hx
  repeat' (first
    | with_reducible (first
        | exact Does.refl _ _ | assumption | apply Does.ite | apply Does.step (ptpAnnounce_does ..))
    | decide | intro _ _ _ | intro _ _ | split | dsimp only)

theorem execDomainBtCount_does {d : Fin 2} {n : BitVec 64} {edges : Nat} {s y : State} (hx : execDomainBtCount d n edges s = .next y) :
    Does [.regs, .flt, .port0, .port1, .quo] s y := by
  refine upNext_does ?_ hx
  repeat' (first
    | with_reducible (first
        | exact Does.refl _ _ | assumption | apply Does.ite | apply Does.step (domainBtCount_does ..))
    | decide | intro _ _ _ | intro _ _ | split | dsimp only)

theorem execTimeMsgBad_does {d : Fin 2} {s y : State} (hx : execTimeMsgBad d s = .next y) :
    Does [.flt, .quo] s y := by
  refine upNext_does ?_ hx
  repeat' (first
    | with_reducible (first
        | exact Does.refl _ _ | assumption | apply Does.ite | apply Does.step (msgBad_does ..))
    | decide | intro _ _ _ | intro _ _ | split | dsimp only)

theorem execDelayReqSend_does {d : Fin 2} {sent : AbsTime} {s y : State} (hx : execDelayReqSend d sent s = .next y) :
    Does [.regs, .flt, .port0, .port1, .quo] s y := by
  refine upNext_does ?_ hx
  repeat' (first
    | with_reducible (first
        | exact Does.refl _ _ | assumption | apply Does.ite | apply Does.step (delayReqSend_does ..))
    | decide | intro _ _ _ | intro _ _ | split | dsimp only)

theorem execAcquireComplete_does {s y : State} (hx : execAcquireComplete s = .next y) :
    Does [.quo] s y := by
  refine upNext_does ?_ hx
  repeat' (first
    | with_reducible (first
        | exact Does.refl _ _ | assumption | apply Does.ite | apply Does.step (acquireComplete_does ..))
    | decide | intro _ _ _ | intro _ _ | split | dsimp only)

theorem execTimeHoldExpired_does {s y : State} (hx : execTimeHoldExpired s = .next y) :
    Does [.regs, .flt, .port0, .port1, .quo] s y := by
  refine upNext_does ?_ hx
  repeat' (first
    | with_reducible (first
        | exact Does.refl _ _ | assumption | apply Does.ite | apply Does.step (holdExpired_does ..))
    | decide | intro _ _ _ | intro _ _ | split | dsimp only)

theorem execSlewComplete_does {s y : State} (hx : execSlewComplete s = .next y) :
    Does [.quo] s y := by
  refine upNext_does ?_ hx
  repeat' (first
    | with_reducible (first
        | exact Does.refl _ _ | assumption | apply Does.ite | apply Does.step (slewComplete_does ..))
    | decide | intro _ _ _ | intro _ _ | split | dsimp only)

theorem execQuoTxSend_does {p : Fin 2} {value : Word} {s y : State} (hx : execQuoTxSend p value s = .next y) :
    Does [.regs, .flt, .port0, .port1, .quo] s y := by
  refine hostRow_at_does (at_quoTxCtl) (by decide) ?_ hx
  rw [writeReg_plain (by decide) rfl (by decide)]
  unfold writeEffect
  repeat' (first
    | with_reducible (first
        | exact Does.refl _ _ | assumption | apply Does.ite | apply Does.step (setCell_does ..) | apply Does.step (lockWrite_does ..)
        | apply Does.step (modCell_does ..) | apply Does.step (quoTxCtlWrite_does ..))
    | decide | split | dsimp only)

theorem execQuoTxDone_does {sent : AbsTime} {s y : State} (hx : execQuoTxDone sent s = .next y) :
    Does [.regs, .flt, .port0, .port1, .quo] s y := by
  refine upNext_does ?_ hx
  repeat' (first
    | with_reducible (first
        | exact Does.refl _ _ | assumption | apply Does.ite | apply Does.step (txDone_does ..))
    | decide | intro _ _ _ | intro _ _ | split | dsimp only)

theorem execQuoTxqPop_does {p : Fin 2} {value : Word} {s y : State} (hx : execQuoTxqPop p value s = .next y) :
    Does [.regs, .flt, .port0, .port1, .quo] s y := by
  refine hostRow_at_does (at_quoTxqPop) (by decide) ?_ hx
  rw [writeReg_plain (by decide) rfl (by decide)]
  unfold writeEffect
  repeat' (first
    | with_reducible (first
        | exact Does.refl _ _ | assumption | apply Does.ite | apply Does.step (setCell_does ..) | apply Does.step (lockWrite_does ..)
        | apply Does.step (modCell_does ..) | apply Does.step (txqPop_does ..))
    | decide | split | dsimp only)

theorem execDlAdvanceSlewDone_does {p : Fin 64} {s y : State} (hx : execDlAdvanceSlewDone p s = .next y) :
    Does [.quo] s y := by
  refine upNext_does ?_ hx
  repeat' (first
    | with_reducible (first
        | exact Does.refl _ _ | assumption | apply Does.ite | apply Does.step (dlSlewDone_does ..))
    | decide | intro _ _ _ | intro _ _ | split | dsimp only)

/-! ### RowsBed -/

theorem execDownlinkFrame_does {d : Fin 64} {s y : State} (hx : execDownlinkFrame d s = .next y) :
    Does [.regs, .port0, .port1, .quo, .downlinks, .partners] s y := by
  refine upNext_does ?_ hx
  repeat' (first
    | with_reducible (first
        | exact Does.refl _ _ | assumption | apply Does.ite | apply Does.step (downlinkFrame_does ..))
    | decide | intro _ _ _ | intro _ _ | split | dsimp only)

theorem execRestartRequestDue_does {d : Fin 64} {s y : State} (hx : execRestartRequestDue d s = .next y) :
    Does [.downlinks] s y := by
  refine upNext_does ?_ hx
  repeat' (first
    | with_reducible (first
        | exact Does.refl _ _ | assumption | apply Does.ite | apply Does.step (restartRequests_does ..))
    | decide | intro _ _ _ | intro _ _ | split | dsimp only)

theorem execBedDlFcSend_does {p : Fin 2} {d : Fin 64} {value : Word} {s y : State} (hx : execBedDlFcSend p d value s = .next y) :
    Does [.regs, .flt, .port0, .port1, .downlinks] s y := by
  refine hostRow_at_does (at_bedDlFc d) (by decide) ?_ hx
  rw [writeReg_plain (by decide) rfl (by decide)]
  unfold writeEffect
  repeat' (first
    | with_reducible (first
        | exact Does.refl _ _ | assumption | apply Does.ite | apply Does.step (setCell_does ..) | apply Does.step (lockWrite_does ..)
        | apply Does.step (modCell_does ..) | apply Does.step (dlFcWrite_does ..))
    | decide | split | dsimp only)

theorem execDlPllUnlock_does {d : Fin 64} {s y : State} (hx : execDlPllUnlock d s = .next y) :
    Does [.regs, .flt, .port0, .port1, .downlinks] s y := by
  refine upNext_does ?_ hx
  repeat' (first
    | with_reducible (first
        | exact Does.refl _ _ | assumption | apply Does.ite | apply Does.step (dlPllUnlock_does ..))
    | decide | intro _ _ _ | intro _ _ | split | dsimp only)

theorem execDlPllRelock_does {d : Fin 64} {s y : State} (hx : execDlPllRelock d s = .next y) :
    Does [.downlinks] s y := by
  refine upNext_does ?_ hx
  repeat' (first
    | with_reducible (first
        | exact Does.refl _ _ | assumption | apply Does.ite | apply Does.step (dlPllRelock_does ..))
    | decide | intro _ _ _ | intro _ _ | split | dsimp only)

theorem execLaneEnableWrite_does {p : Fin 2} {l : Fin 256} {value : Word} {s y : State} (hx : execLaneEnableWrite p l value s = .next y) :
    Does [.regs, .flt, .port0, .port1, .quo, .lanes, .downlinks, .groups] s y := by
  refine hostRow_at_does (at_bedLaneCfg l) (by decide) ?_ hx
  rw [writeReg_plain (by decide) rfl (by decide)]
  unfold writeEffect
  repeat' (first
    | with_reducible (first
        | exact Does.refl _ _ | assumption | apply Does.ite | apply Does.step (setCell_does ..) | apply Does.step (lockWrite_does ..)
        | apply Does.step (modCell_does ..) | apply Does.step (laneCfgWritten_does ..))
    | decide | split | dsimp only)

theorem execLaneSignalDetect_does {l : Fin 256} {s y : State} (hx : execLaneSignalDetect l s = .next y) :
    Does [.lanes, .downlinks] s y := by
  refine upNext_does ?_ hx
  repeat' (first
    | with_reducible (first
        | exact Does.refl _ _ | assumption | apply Does.ite | apply Does.step (laneSignalDetect_does ..))
    | decide | intro _ _ _ | intro _ _ | split | dsimp only)

theorem execLaneTrainDone_does {l : Fin 256} {s y : State} (hx : execLaneTrainDone l s = .next y) :
    Does [.lanes] s y := by
  refine upNext_does ?_ hx
  repeat' (first
    | with_reducible (first
        | exact Does.refl _ _ | assumption | apply Does.ite | apply Does.step (laneTrainDone_does ..))
    | decide | intro _ _ _ | intro _ _ | split | dsimp only)

theorem execLaneTrainTimeout_does {l : Fin 256} {s y : State} (hx : execLaneTrainTimeout l s = .next y) :
    Does [.regs, .flt, .port0, .port1, .lanes] s y := by
  refine upNext_does ?_ hx
  repeat' (first
    | with_reducible (first
        | exact Does.refl _ _ | assumption | apply Does.ite | apply Does.step (laneTrainTimeout_does ..))
    | decide | intro _ _ _ | intro _ _ | split | dsimp only)

theorem execLaneExchangeTimeout_does {l : Fin 256} {s y : State} (hx : execLaneExchangeTimeout l s = .next y) :
    Does [.regs, .flt, .port0, .port1, .lanes] s y := by
  refine upNext_does ?_ hx
  repeat' (first
    | with_reducible (first
        | exact Does.refl _ _ | assumption | apply Does.ite | apply Does.step (laneExchangeTimeout_does ..))
    | decide | intro _ _ _ | intro _ _ | split | dsimp only)

theorem execLaneSyncAcquired_does {l : Fin 256} {s y : State} (hx : execLaneSyncAcquired l s = .next y) :
    Does [.regs, .lanes] s y := by
  refine upNext_does ?_ hx
  repeat' (first
    | with_reducible (first
        | exact Does.refl _ _ | assumption | apply Does.ite | apply Does.step (laneSyncAcquired_does ..))
    | decide | intro _ _ _ | intro _ _ | split | dsimp only)

theorem execExchangeBlockRx_does {l : Fin 256} {record : BitVec 128} {crc : BitVec 32} {s y : State} (hx : execExchangeBlockRx l record crc s = .next y) :
    Does [.regs, .flt, .port0, .port1, .quo, .lanes, .downlinks, .groups, .lnt] s y := by
  refine upNext_does ?_ hx
  repeat' (first
    | with_reducible (first
        | exact Does.refl _ _ | assumption | apply Does.ite | apply Does.step (exchangeBlockRx_does ..) | apply Does.step (noteLoss_does ..))
    | decide | intro _ _ _ | intro _ _ | split | dsimp only)

theorem execLaneLossOfSignal_does {l : Fin 256} {s y : State} (hx : execLaneLossOfSignal l s = .next y) :
    Does [.regs, .flt, .port0, .port1, .quo, .lanes, .downlinks, .groups] s y := by
  refine upNext_does ?_ hx
  repeat' (first
    | with_reducible (first
        | exact Does.refl _ _ | assumption | apply Does.ite | apply Does.step (laneLossOfSignal_does ..))
    | decide | intro _ _ _ | intro _ _ | split | dsimp only)

theorem execLaneCdrUnlock_does {l : Fin 256} {s y : State} (hx : execLaneCdrUnlock l s = .next y) :
    Does [.regs, .flt, .port0, .port1, .quo, .lanes, .downlinks, .groups] s y := by
  refine upNext_does ?_ hx
  repeat' (first
    | with_reducible (first
        | exact Does.refl _ _ | assumption | apply Does.ite | apply Does.step (laneCdrUnlock_does ..))
    | decide | intro _ _ _ | intro _ _ | split | dsimp only)

theorem execLaneSyncLoss_does {l : Fin 256} {s y : State} (hx : execLaneSyncLoss l s = .next y) :
    Does [.regs, .flt, .port0, .port1, .quo, .lanes, .downlinks, .groups] s y := by
  refine upNext_does ?_ hx
  repeat' (first
    | with_reducible (first
        | exact Does.refl _ _ | assumption | apply Does.ite | apply Does.step (laneSyncLoss_does ..))
    | decide | intro _ _ _ | intro _ _ | split | dsimp only)

theorem execRetrainCountReset_does {s y : State} (hx : execRetrainCountReset s = .next y) :
    Does [.regs] s y := by
  refine upNext_does ?_ hx
  repeat' (first
    | with_reducible (first
        | exact Does.refl _ _ | assumption | apply Does.ite | apply Does.step (retrainCountReset_does ..))
    | decide | intro _ _ _ | intro _ _ | split | dsimp only)

theorem execLaneCodeError_does {l : Fin 256} {s y : State} (hx : execLaneCodeError l s = .next y) :
    Does [.regs, .flt, .port0, .port1, .lanes] s y := by
  refine upNext_does ?_ hx
  repeat' (first
    | with_reducible (first
        | exact Does.refl _ _ | assumption | apply Does.ite | apply Does.step (laneCodeError_does ..))
    | decide | intro _ _ _ | intro _ _ | split | dsimp only)

theorem execEchoReceived_does {l : Fin 256} {round : Nat} {trip : Nat} {s y : State} (hx : execEchoReceived l round trip s = .next y) :
    Does [.regs, .flt, .port0, .port1, .quo, .ldg] s y := by
  refine upNext_does ?_ hx
  repeat' (first
    | with_reducible (first
        | exact Does.refl _ _ | assumption | apply Does.ite | apply Does.step (echoRow_does ..))
    | decide | intro _ _ _ | intro _ _ | split | dsimp only)

theorem execBurirDataFrame_does {l : Fin 256} {frame : RxFrame} {closed : Bool} {lag : Nat} {s y : State} (hx : execBurirDataFrame l frame closed lag s = .next y) :
    Does [.regs, .flt, .port0, .port1, .lanes, .partners, .groups, .ash, .mem, .ldg] s y := by
  refine upNext_does ?_ hx
  repeat' (first
    | with_reducible (first
        | exact Does.refl _ _ | assumption | apply Does.ite | apply Does.step (burirFrame_does ..))
    | decide | intro _ _ _ | intro _ _ | split | dsimp only)

theorem execSpanTimeout_does {l : Fin 256} {s y : State} (hx : execSpanTimeout l s = .next y) :
    Does [.regs, .flt, .port0, .port1, .lanes, .partners, .groups] s y := by
  refine upNext_does ?_ hx
  repeat' (first
    | with_reducible (first
        | exact Does.refl _ _ | assumption | apply Does.ite | apply Does.step (spanTimeout_does ..))
    | decide | intro _ _ _ | intro _ _ | split | dsimp only)

theorem execConfigResponseFrame_does {l : Fin 256} {frame : RxFrame} {s y : State} (hx : execConfigResponseFrame l frame s = .next y) :
    Does [.regs, .flt, .port0, .port1, .lanes, .partners, .groups, .ash, .mem, .ldg] s y := by
  refine upNext_does ?_ hx
  repeat' (first
    | with_reducible (first
        | exact Does.refl _ _ | assumption | apply Does.ite | apply Does.step (burirFrame_does ..))
    | decide | intro _ _ _ | intro _ _ | split | dsimp only)

theorem execPartnerCfgTimeout_does {p : Fin 64} {s y : State} (hx : execPartnerCfgTimeout p s = .next y) :
    Does [.regs, .flt, .port0, .port1, .partners, .ldg] s y := by
  refine upNext_does ?_ hx
  repeat' (first
    | with_reducible (first
        | exact Does.refl _ _ | assumption | apply Does.ite | apply Does.step (partnerCfgTimeout_does ..))
    | decide | intro _ _ _ | intro _ _ | split | dsimp only)

/-! ### RowsStore -/

theorem execAshlarHit_does {e : Fin 9} {residueGood : Bool} {s y : State} (hx : execAshlarHit e residueGood s = .next y) :
    Does [.regs, .flt, .port0, .port1, .groups, .sram, .ash, .ring, .mem, .lnt] s y := by
  refine upNext_does ?_ hx
  repeat' (first
    | with_reducible (first
        | exact Does.refl _ _ | assumption | apply Does.ite | apply Does.step (ashlarHit_does ..))
    | decide | intro _ _ _ | intro _ _ | split | dsimp only)

theorem execEngineSyncDone_does {e : Fin 9} {s y : State} (hx : execEngineSyncDone e s = .next y) :
    Does [.regs, .port0, .port1, .ash, .lnt] s y := by
  refine upNext_does ?_ hx
  repeat' (first
    | with_reducible (first
        | exact Does.refl _ _ | assumption | apply Does.ite | apply Does.step (engineSyncDone_does ..) | apply Does.step (noteLoss_does ..))
    | decide | intro _ _ _ | intro _ _ | split | dsimp only)

theorem execMigrationDrainEnd_does {slot : Fin 8} {s y : State} (hx : execMigrationDrainEnd slot s = .next y) :
    Does [.regs, .flt, .port0, .port1, .groups, .sram, .ash, .mem] s y := by
  refine upNext_does ?_ hx
  repeat' (first
    | with_reducible (first
        | exact Does.refl _ _ | assumption | apply Does.ite | apply Does.step (migrationDrainEnd_does ..))
    | decide | intro _ _ _ | intro _ _ | split | dsimp only)

theorem execPrevBusyEnd_does {g : Fin 32} {s y : State} (hx : execPrevBusyEnd g s = .next y) :
    Does [.groups] s y := by
  refine upNext_does ?_ hx
  repeat' (first
    | with_reducible (first
        | exact Does.refl _ _ | assumption | apply Does.ite | apply Does.step (prevBusyEnd_does ..))
    | decide | intro _ _ _ | intro _ _ | split | dsimp only)

theorem execMolusCourseStart_does {m : Fin 4} {s y : State} (hx : execMolusCourseStart m s = .next y) :
    Does [.regs, .ring] s y := by
  refine upNext_does ?_ hx
  repeat' (first
    | with_reducible (first
        | exact Does.refl _ _ | assumption | apply Does.ite | apply Does.step (courseStart_does ..))
    | decide | intro _ _ _ | intro _ _ | split | dsimp only)

theorem execMolusBlockDone_does {m : Fin 4} {errs : List RingFault} {diff : Option Nat} {s y : State} (hx : execMolusBlockDone m errs diff s = .next y) :
    Does [.regs, .flt, .port0, .port1, .groups, .ring, .qry, .mem] s y := by
  refine upNext_does ?_ hx
  repeat' (first
    | with_reducible (first
        | exact Does.refl _ _ | assumption | apply Does.ite | apply Does.step (blockDone_does ..))
    | decide | intro _ _ _ | intro _ _ | split | dsimp only)

theorem execMolusDeadline_does {m : Fin 4} {s y : State} (hx : execMolusDeadline m s = .next y) :
    Does [.regs, .flt, .port0, .port1, .ring] s y := by
  refine upNext_does ?_ hx
  repeat' (first
    | with_reducible (first
        | exact Does.refl _ _ | assumption | apply Does.ite | apply Does.step (courseDeadline_does ..))
    | decide | intro _ _ _ | intro _ _ | split | dsimp only)

theorem execStoneWriteDone_does {s y : State} (hx : execStoneWriteDone s = .next y) :
    Does [.regs, .flt, .port0, .port1, .qry, .hbm, .mem] s y := by
  refine upNext_does ?_ hx
  repeat' (first
    | with_reducible (first
        | exact Does.refl _ _ | assumption | apply Does.ite | apply Does.step (stoneWriteDone_does ..))
    | decide | intro _ _ _ | intro _ _ | split | dsimp only)

theorem execStoneClose_does {s y : State} (hx : execStoneClose s = .next y) :
    Does [.qry, .mem] s y := by
  refine upNext_does ?_ hx
  repeat' (first
    | with_reducible (first
        | exact Does.refl _ _ | assumption | apply Does.ite | apply Does.step (stoneClose_does ..))
    | decide | intro _ _ _ | intro _ _ | split | dsimp only)

theorem execIndexPublish_does {s y : State} (hx : execIndexPublish s = .next y) :
    Does [.regs, .flt, .port0, .port1, .ring, .qry, .hbm, .streams, .uplinks] s y := by
  refine upNext_does ?_ hx
  repeat' (first
    | with_reducible (first
        | exact Does.refl _ _ | assumption | apply Does.ite | apply Does.step (indexPublish_does ..))
    | decide | intro _ _ _ | intro _ _ | split | dsimp only)

theorem execIndexRewrite_does {course : BitVec 56} {s y : State} (hx : execIndexRewrite course s = .next y) :
    Does [.qry, .hbm] s y := by
  refine upNext_does ?_ hx
  repeat' (first
    | with_reducible (first
        | exact Does.refl _ _ | assumption | apply Does.ite | apply Does.step (indexRewrite_does ..))
    | decide | intro _ _ _ | intro _ _ | split | dsimp only)

theorem execQuarryRead_does {burst : List Nat} {s y : State} (hx : execQuarryRead burst s = .next y) :
    Does [.regs, .flt, .port0, .port1, .qry, .hbm, .mrt, .streams] s y := by
  refine upNext_does ?_ hx
  repeat' (first
    | with_reducible (first
        | exact Does.refl _ _ | assumption | apply Does.ite | apply Does.step (quarryRead_does ..))
    | decide | intro _ _ _ | intro _ _ | split | dsimp only)

theorem execPinSpaceFreed_does {s y : State} (hx : execPinSpaceFreed s = .next y) :
    Does [.qry] s y := by
  refine upNext_does ?_ hx
  repeat' (first
    | with_reducible (first
        | exact Does.refl _ _ | assumption | apply Does.ite | apply Does.step (pinSpaceFreed_does ..))
    | decide | intro _ _ _ | intro _ _ | split | dsimp only)

theorem execHostWindowRead_does {p : Fin 2} {offset : Word} {length : Nat} {errs : List (Nat × HbmLoc)} {s y : State} (hx : execHostWindowRead p offset length errs s = .next y) :
    Does [.regs, .flt, .port0, .port1, .mem] s y := by
  refine upNext_does ?_ hx
  repeat' (first
    | with_reducible (first
        | exact Does.refl _ _ | assumption | apply Does.ite | apply Does.step (windowRead_does ..))
    | decide | intro _ _ _ | intro _ _ | split | dsimp only)

theorem execHostWindowWrite_does {p : Fin 2} {offset : Word} {data : List (Option Byte)} {s y : State} (hx : execHostWindowWrite p offset data s = .next y) :
    Does [.regs, .flt, .port0, .port1, .qry, .hbm] s y := by
  refine upNext_does ?_ hx
  repeat' (first
    | with_reducible (first
        | exact Does.refl _ _ | assumption | apply Does.ite | apply Does.step (windowWrite_does ..))
    | decide | intro _ _ _ | intro _ _ | split | dsimp only)

theorem execQryFind_does {p : Fin 2} {value : Word} {s y : State} (hx : execQryFind p value s = .next y) :
    Does [.regs, .flt, .port0, .port1] s y := by
  refine hostRow_at_does (at_qryFindNs) (by decide) ?_ hx
  rw [writeReg_plain (by decide) rfl (by decide)]
  unfold writeEffect
  repeat' (first
    | with_reducible (first
        | exact Does.refl _ _ | assumption | apply Does.ite | apply Does.step (setCell_does ..) | apply Does.step (lockWrite_does ..)
        | apply Does.step (modCell_does ..) | apply Does.step (findBegin_does ..))
    | decide | split | dsimp only)

theorem execQryFindDone_does {p : Fin 2} {s y : State} (hx : execQryFindDone p s = .next y) :
    Does [.port0, .port1] s y := by
  refine upNext_does ?_ hx
  repeat' (first
    | with_reducible (first
        | exact Does.refl _ _ | assumption | apply Does.ite | apply Does.step (findDone_does ..))
    | decide | intro _ _ _ | intro _ _ | split | dsimp only)

theorem execHbmScrubGranule_does {sev : HbmSeverity} {burst : Fin 128} {loc : HbmLoc} {khz : BitVec 16} {s y : State} (hx : execHbmScrubGranule sev burst loc khz s = .next y) :
    Does [.regs, .flt, .port0, .port1, .hbm, .mem] s y := by
  refine upNext_does ?_ hx
  repeat' (first
    | with_reducible (first
        | exact Does.refl _ _ | assumption | apply Does.ite | apply Does.step (hbmScrub_does ..))
    | decide | intro _ _ _ | intro _ _ | split | dsimp only)

theorem execSramScrubBlock_does {g : Fin 32} {s y : State} (hx : execSramScrubBlock g s = .next y) :
    Does [.regs, .flt, .port0, .port1, .groups, .sram, .mem] s y := by
  refine upNext_does ?_ hx
  repeat' (first
    | with_reducible (first
        | exact Does.refl _ _ | assumption | apply Does.ite | apply Does.step (scrubTable_does ..))
    | decide | intro _ _ _ | intro _ _ | split | dsimp only)

theorem execTableRestore_does {read : RestoreRead} {s y : State} (hx : execTableRestore read s = .next y) :
    Does [.regs, .flt, .port0, .port1, .sram, .mem] s y := by
  refine upNext_does ?_ hx
  repeat' (first
    | with_reducible (first
        | exact Does.refl _ _ | assumption | apply Does.ite | apply Does.step (tableRestore_does ..))
    | decide | intro _ _ _ | intro _ _ | split | dsimp only)

theorem execSramReadError_does {memory : Fin 11} {number : Nat} {block : Nat} {err : SramError} {master : Fin 14} {s y : State} (hx : execSramReadError memory number block err master s = .next y) :
    Does [.regs, .flt, .port0, .port1, .groups, .sram, .ash, .ring, .qry, .mem, .mrt, .streams, .plb] s y := by
  refine upNext_does ?_ hx
  repeat' (first
    | with_reducible (first
        | exact Does.refl _ _ | assumption | apply Does.ite | apply Does.step (sramReadError_does ..))
    | decide | intro _ _ _ | intro _ _ | split | dsimp only)

theorem execHbmReadError_does {qa : BitVec 36} {sev : HbmSeverity} {loc : HbmLoc} {master : Fin 14} {s y : State} (hx : execHbmReadError qa sev loc master s = .next y) :
    Does [.regs, .flt, .port0, .port1, .mem] s y := by
  refine upNext_does ?_ hx
  repeat' (first
    | with_reducible (first
        | exact Does.refl _ _ | assumption | apply Does.ite | apply Does.step (hbmReadError_does ..))
    | decide | intro _ _ _ | intro _ _ | split | dsimp only)

theorem execMemInjectArm_does {p : Fin 2} {value : Word} {s y : State} (hx : execMemInjectArm p value s = .next y) :
    Does [.regs, .flt, .port0, .port1, .mem] s y := by
  refine hostRow_at_does (at_memInject) (by decide) ?_ hx
  rw [writeReg_plain (by decide) rfl (by decide)]
  unfold writeEffect
  repeat' (first
    | with_reducible (first
        | exact Does.refl _ _ | assumption | apply Does.ite | apply Does.step (setCell_does ..) | apply Does.step (lockWrite_does ..)
        | apply Does.step (modCell_does ..) | apply Does.step (memInjectWrite_does ..))
    | decide | split | dsimp only)

theorem execBtrInjectArm_does {p : Fin 2} {value : Word} {s y : State} (hx : execBtrInjectArm p value s = .next y) :
    Does [.regs, .flt, .port0, .port1, .btr] s y := by
  refine hostRow_at_does (at_btrInject) (by decide) ?_ hx
  rw [writeReg_plain (by decide) rfl (by decide)]
  unfold writeEffect
  repeat' (first
    | with_reducible (first
        | exact Does.refl _ _ | assumption | apply Does.ite | apply Does.step (setCell_does ..) | apply Does.step (lockWrite_does ..)
        | apply Does.step (modCell_does ..) | apply Does.step (btrInjectWrite_does ..))
    | decide | split | dsimp only)

/-! ### RowsMortar -/

theorem execAccept_does {d : Fin 2} {body : List Byte} {s y : State} (hx : execAccept d body s = .next y) :
    Does [.regs, .flt, .port0, .port1, .btr, .qry, .mem, .mrt, .streams] s y := by
  refine upNext_does ?_ hx
  repeat' (first
    | with_reducible (first
        | exact Does.refl _ _ | assumption | apply Does.ite | apply Does.step (messageRx_does ..))
    | decide | intro _ _ _ | intro _ _ | split | dsimp only)

theorem execRecallMessage_does {d : Fin 2} {body : List Byte} {s y : State} (hx : execRecallMessage d body s = .next y) :
    Does [.regs, .flt, .port0, .port1, .btr, .qry, .mem, .mrt, .streams] s y := by
  refine upNext_does ?_ hx
  repeat' (first
    | with_reducible (first
        | exact Does.refl _ _ | assumption | apply Does.ite | apply Does.step (messageRx_does ..))
    | decide | intro _ _ _ | intro _ _ | split | dsimp only)

theorem execRecallPieceSubmit_does {u : Fin 4} {s y : State} (hx : execRecallPieceSubmit u s = .next y) :
    Does [.qry, .mrt] s y := by
  refine upNext_does ?_ hx
  repeat' (first
    | with_reducible (first
        | exact Does.refl _ _ | assumption | apply Does.ite | apply Does.step (recallPiece_does ..))
    | decide | intro _ _ _ | intro _ _ | split | dsimp only)

theorem execExtractionDone_does {u : Fin 4} {id : Nat} {faults : List ExtractFault} {s y : State} (hx : execExtractionDone u id faults s = .next y) :
    Does [.regs, .flt, .port0, .port1, .qry, .mem, .mrt, .streams] s y := by
  refine upNext_does ?_ hx
  repeat' (first
    | with_reducible (first
        | exact Does.refl _ _ | assumption | apply Does.ite | apply Does.step (extractionDone_does ..))
    | decide | intro _ _ _ | intro _ _ | split | dsimp only)

theorem execFragmentComplete_does {t : Fin 48} {id : Nat} {s y : State} (hx : execFragmentComplete t id s = .next y) :
    Does [.regs, .flt, .port0, .port1, .mem, .mrt, .streams] s y := by
  refine upNext_does ?_ hx
  repeat' (first
    | with_reducible (first
        | exact Does.refl _ _ | assumption | apply Does.ite | apply Does.step (fragmentComplete_does ..))
    | decide | intro _ _ _ | intro _ _ | split | dsimp only)

theorem execRecordRelease_does {t : Fin 48} {khz : BitVec 16} {s y : State} (hx : execRecordRelease t khz s = .next y) :
    Does [.regs, .flt, .port0, .port1, .qry, .mem, .mrt, .streams, .uplinks] s y := by
  refine upNext_does ?_ hx
  repeat' (first
    | with_reducible (first
        | exact Does.refl _ _ | assumption | apply Does.ite | apply Does.step (recordRelease_does ..))
    | decide | intro _ _ _ | intro _ _ | split | dsimp only)

theorem execCellWait_does {t : Fin 48} {id : Nat} {s y : State} (hx : execCellWait t id s = .next y) :
    Does [.regs, .flt, .port0, .port1, .mem, .mrt, .streams] s y := by
  refine upNext_does ?_ hx
  repeat' (first
    | with_reducible (first
        | exact Does.refl _ _ | assumption | apply Does.ite | apply Does.step (cellWait_does ..))
    | decide | intro _ _ _ | intro _ _ | split | dsimp only)

theorem execHeadWaitExpiry_does {t : Fin 48} {s y : State} (hx : execHeadWaitExpiry t s = .next y) :
    Does [.regs, .flt, .port0, .port1, .mem, .mrt, .streams] s y := by
  refine upNext_does ?_ hx
  repeat' (first
    | with_reducible (first
        | exact Does.refl _ _ | assumption | apply Does.ite | apply Does.step (headWaitExpiry_does ..))
    | decide | intro _ _ _ | intro _ _ | split | dsimp only)

theorem execMrtCellUncorr_does {u : Fin 4} {cell : BitVec 16} {t : Fin 48} {key : Nat} {released : Bool} {s y : State} (hx : execMrtCellUncorr u cell t key released s = .next y) :
    Does [.regs, .flt, .port0, .port1, .qry, .mrt, .streams] s y := by
  refine upNext_does ?_ hx
  repeat' (first
    | with_reducible (first
        | exact Does.refl _ _ | assumption | apply Does.ite | apply Does.step (cellUncorrRow_does ..))
    | decide | intro _ _ _ | intro _ _ | split | dsimp only)

theorem execFlush_does {p : Fin 2} {t : Fin 48} {s y : State} (hx : execFlush p t s = .next y) :
    Does [.regs, .flt, .port0, .port1, .qry, .mrt, .streams, .uplinks] s y := by
  refine hostRow_at_does (at_mrtStreamCtl t) (by decide) ?_ hx
  rw [writeReg_plain (by decide) rfl (by decide)]
  unfold writeEffect
  repeat' (first
    | with_reducible (first
        | exact Does.refl _ _ | assumption | apply Does.ite | apply Does.step (setCell_does ..) | apply Does.step (lockWrite_does ..)
        | apply Does.step (modCell_does ..) | apply Does.step (flushStream_does ..) | apply Does.step (throttle_does ..))
    | decide | split | dsimp only)

theorem execResync_does {p : Fin 2} {value : Word} {s y : State} (hx : execResync p value s = .next y) :
    Does [.regs, .flt, .port0, .port1, .btr, .mrt, .streams] s y := by
  refine hostRow_at_does (at_mrtAccCtl) (by decide) ?_ hx
  rw [writeReg_plain (by decide) rfl (by decide)]
  unfold writeEffect
  repeat' (first
    | with_reducible (first
        | exact Does.refl _ _ | assumption | apply Does.ite | apply Does.step (setCell_does ..) | apply Does.step (lockWrite_does ..)
        | apply Does.step (modCell_does ..) | apply Does.step (accResync_does ..) | apply Does.step (throttle_does ..)
        | apply Does.step (mrtClear_does ..))
    | decide | split | dsimp only)

theorem execMrtUnitOut_does {u : Fin 4} {s y : State} (hx : execMrtUnitOut u s = .next y) :
    Does [.regs, .flt, .port0, .port1, .qry, .mrt, .streams] s y := by
  refine upNext_does ?_ hx
  repeat' (first
    | with_reducible (first
        | exact Does.refl _ _ | assumption | apply Does.ite | apply Does.step (throttle_does ..) | apply Does.step (unitCheck_does ..))
    | decide | intro _ _ _ | intro _ _ | split | dsimp only)

/-! ### RowsLinks -/

theorem execLintelGroupClose_does {err : Option Nat} {s y : State} (hx : execLintelGroupClose err s = .next y) :
    Does [.regs, .flt, .port0, .port1, .mem, .lnt] s y := by
  refine upNext_does ?_ hx
  repeat' (first
    | with_reducible (first
        | exact Does.refl _ _ | assumption | apply Does.ite | apply Does.step (lintelGroupClose_does ..))
    | decide | intro _ _ _ | intro _ _ | split | dsimp only)

theorem execLintelFrameSend_does {s y : State} (hx : execLintelFrameSend s = .next y) :
    Does [.regs, .flt, .port0, .port1, .lnt] s y := by
  refine upNext_does ?_ hx
  repeat' (first
    | with_reducible (first
        | exact Does.refl _ _ | assumption | apply Does.ite | apply Does.step (lintelFrameSend_does ..))
    | decide | intro _ _ _ | intro _ _ | split | dsimp only)

theorem execCredit_does {r : Fin 16} {message : BitVec 64} {s y : State} (hx : execCredit r message s = .next y) :
    Does [.regs, .flt, .port0, .port1, .streams, .uplinks, .retLanes] s y := by
  refine upNext_does ?_ hx
  repeat' (first
    | with_reducible (first
        | exact Does.refl _ _ | assumption | apply Does.ite | apply Does.step (creditMessage_does ..))
    | decide | intro _ _ _ | intro _ _ | split | dsimp only)

theorem execInit_does {r : Fin 16} {message : BitVec 64} {s y : State} (hx : execInit r message s = .next y) :
    Does [.regs, .flt, .port0, .port1, .streams, .uplinks, .retLanes] s y := by
  refine upNext_does ?_ hx
  repeat' (first
    | with_reducible (first
        | exact Does.refl _ _ | assumption | apply Does.ite | apply Does.step (creditMessage_does ..))
    | decide | intro _ _ _ | intro _ _ | split | dsimp only)

theorem execUplCreditBad_does {r : Fin 16} {message : BitVec 64} {s y : State} (hx : execUplCreditBad r message s = .next y) :
    Does [.regs, .flt, .port0, .port1, .retLanes] s y := by
  refine upNext_does ?_ hx
  repeat' (first
    | with_reducible (first
        | exact Does.refl _ _ | assumption | apply Does.ite | apply Does.step (creditBad_does ..))
    | decide | intro _ _ _ | intro _ _ | split | dsimp only)

theorem execRlSyncLost_does {r : Fin 16} {s y : State} (hx : execRlSyncLost r s = .next y) :
    Does [.regs, .flt, .port0, .port1, .retLanes] s y := by
  refine upNext_does ?_ hx
  repeat' (first
    | with_reducible (first
        | exact Does.refl _ _ | assumption | apply Does.ite | apply Does.step (rlSyncLost_does ..))
    | decide | intro _ _ _ | intro _ _ | split | dsimp only)

theorem execRlSyncGained_does {r : Fin 16} {s y : State} (hx : execRlSyncGained r s = .next y) :
    Does [.regs, .port0, .port1, .retLanes] s y := by
  refine upNext_does ?_ hx
  repeat' (first
    | with_reducible (first
        | exact Does.refl _ _ | assumption | apply Does.ite | apply Does.step (rlSyncGained_does ..))
    | decide | intro _ _ _ | intro _ _ | split | dsimp only)

theorem execRlCodeError_does {r : Fin 16} {s y : State} (hx : execRlCodeError r s = .next y) :
    Does [.regs] s y := by
  refine upNext_does ?_ hx
  repeat' (first
    | with_reducible (first
        | exact Does.refl _ _ | assumption | apply Does.ite | apply Does.step (rlCodeError_does ..))
    | decide | intro _ _ _ | intro _ _ | split | dsimp only)

theorem execInitRequestSend_does {u : Fin 64} {s y : State} (hx : execInitRequestSend u s = .next y) :
    Does [.uplinks] s y := by
  refine upNext_does ?_ hx
  repeat' (first
    | with_reducible (first
        | exact Does.refl _ _ | assumption | apply Does.ite | apply Does.step (initRequestSend_does ..))
    | decide | intro _ _ _ | intro _ _ | split | dsimp only)

theorem execRecordBlockSent_does {u : Fin 64} {s y : State} (hx : execRecordBlockSent u s = .next y) :
    Does [.regs, .flt, .port0, .port1, .mem, .mrt, .streams, .uplinks] s y := by
  refine upNext_does ?_ hx
  repeat' (first
    | with_reducible (first
        | exact Does.refl _ _ | assumption | apply Does.ite | apply Does.step (recordBlockSent_does ..))
    | decide | intro _ _ _ | intro _ _ | split | dsimp only)

theorem execUplPllUnlock_does {h : Fin 8} {s y : State} (hx : execUplPllUnlock h s = .next y) :
    Does [.regs, .flt, .port0, .port1, .mrt, .streams, .uplinks, .uplGroups] s y := by
  refine upNext_does ?_ hx
  repeat' (first
    | with_reducible (first
        | exact Does.refl _ _ | assumption | apply Does.ite | apply Does.step (uplPllUnlock_does ..))
    | decide | intro _ _ _ | intro _ _ | split | dsimp only)

theorem execUplRefHold_does {h : Fin 8} {s y : State} (hx : execUplRefHold h s = .next y) :
    Does [.regs, .flt, .port0, .port1, .quo, .uplGroups] s y := by
  refine upNext_does ?_ hx
  repeat' (first
    | with_reducible (first
        | exact Does.refl _ _ | assumption | apply Does.ite | apply Does.step (uplRefHold_does ..))
    | decide | intro _ _ _ | intro _ _ | split | dsimp only)

theorem execUplPllLock_does {h : Fin 8} {s y : State} (hx : execUplPllLock h s = .next y) :
    Does [.regs, .flt, .port0, .port1, .mrt, .streams, .uplinks, .uplGroups] s y := by
  refine upNext_does ?_ hx
  repeat' (first
    | with_reducible (first
        | exact Does.refl _ _ | assumption | apply Does.ite | apply Does.step (uplPllLock_does ..))
    | decide | intro _ _ _ | intro _ _ | split | dsimp only)

theorem execUplLinkEnableWrite_does {p : Fin 2} {u : Fin 64} {value : Word} {s y : State} (hx : execUplLinkEnableWrite p u value s = .next y) :
    Does [.regs, .flt, .port0, .port1, .mrt, .streams, .uplinks] s y := by
  refine hostRow_at_does (at_uplLinkCfg u) (by decide) ?_ hx
  rw [writeReg_plain (by decide) rfl (by decide)]
  unfold writeEffect
  repeat' (first
    | with_reducible (first
        | exact Does.refl _ _ | assumption | apply Does.ite | apply Does.step (setCell_does ..) | apply Does.step (lockWrite_does ..)
        | apply Does.step (modCell_does ..) | apply Does.step (startBlocks_does ..) | apply Does.step (uplCheck_does ..))
    | decide | split | dsimp only)

theorem execStreamMapWrite_does {p : Fin 2} {t : Fin 48} {value : Word} {s y : State} (hx : execStreamMapWrite p t value s = .next y) :
    Does [.regs, .flt, .port0, .port1, .btr] s y := by
  refine hostRow_at_does (at_uplStreamMap t) (by decide) ?_ hx
  rw [writeReg_cb (by decide) (by decide)]
  exact Does.step (cbWrite_does ..) (by decide) (Does.refl _ _)

/-! ### RowsFaults -/

theorem execFaultReport_does {index : Nat} {s y : State} (hx : execFaultReport index s = .next y) :
    Does [.flt] s y := by
  refine upNext_does ?_ hx
  repeat' (first
    | with_reducible (first
        | exact Does.refl _ _ | assumption | apply Does.ite | apply Does.step (faultReport_does ..))
    | decide | intro _ _ _ | intro _ _ | split | dsimp only)

theorem execFaultLog_does {s y : State} (hx : execFaultLog s = .next y) :
    Does [.regs, .flt, .port0, .port1, .mem, .plb, .cns] s y := by
  refine upNext_does ?_ hx
  repeat' (first
    | with_reducible (first
        | exact Does.refl _ _ | assumption | apply Does.ite | apply Does.step (faultLog_does ..))
    | decide | intro _ _ _ | intro _ _ | split | dsimp only)

theorem execShadowClose_does {s y : State} (hx : execShadowClose s = .next y) :
    Does [.regs, .flt, .port0, .port1, .mem, .plb, .cns] s y := by
  refine upNext_does ?_ hx
  repeat' (first
    | with_reducible (first
        | exact Does.refl _ _ | assumption | apply Does.ite | apply Does.step (shadowClose_does ..))
    | decide | intro _ _ _ | intro _ _ | split | dsimp only)

theorem execQuietRecovery_does {source : BitVec 12} {s y : State} (hx : execQuietRecovery source s = .next y) :
    Does [.regs, .flt, .port0, .port1] s y := by
  refine upNext_does ?_ hx
  repeat' (first
    | with_reducible (first
        | exact Does.refl _ _ | assumption | apply Does.ite | apply Does.step (quietRecovery_does ..))
    | decide | intro _ _ _ | intro _ _ | split | dsimp only)

theorem execFltAck_does {p : Fin 2} {value : Word} {s y : State} (hx : execFltAck p value s = .next y) :
    Does [.regs, .flt, .port0, .port1, .mem, .plb, .cns] s y := by
  refine hostRow_at_does (at_fltAck) (by decide) ?_ hx
  rw [writeReg_plain (by decide) rfl (by decide)]
  unfold writeEffect
  repeat' (first
    | with_reducible (first
        | exact Does.refl _ _ | assumption | apply Does.ite | apply Does.step (setCell_does ..) | apply Does.step (lockWrite_does ..)
        | apply Does.step (modCell_does ..) | apply Does.step (fltAckWrite_does ..))
    | decide | split | dsimp only)

theorem execFltAckUpto_does {p : Fin 2} {value : Word} {s y : State} (hx : execFltAckUpto p value s = .next y) :
    Does [.regs, .flt, .port0, .port1, .mem, .plb, .cns] s y := by
  refine hostRow_at_does (at_fltAckUpto) (by decide) ?_ hx
  rw [writeReg_plain (by decide) rfl (by decide)]
  unfold writeEffect
  repeat' (first
    | with_reducible (first
        | exact Does.refl _ _ | assumption | apply Does.ite | apply Does.step (setCell_does ..) | apply Does.step (lockWrite_does ..)
        | apply Does.step (modCell_does ..) | apply Does.step (fltAckUptoWrite_does ..))
    | decide | split | dsimp only)

theorem execFltDpCtl_does {p : Fin 2} {value : Word} {s y : State} (hx : execFltDpCtl p value s = .next y) :
    Does [.regs, .flt, .port0, .port1] s y := by
  refine hostRow_at_does (at_fltDpCtl) (by decide) ?_ hx
  rw [writeReg_plain (by decide) rfl (by decide)]
  unfold writeEffect
  repeat' (first
    | with_reducible (first
        | exact Does.refl _ _ | assumption | apply Does.ite | apply Does.step (setCell_does ..) | apply Does.step (lockWrite_does ..)
        | apply Does.step (modCell_does ..) | apply Does.step (fltDpCtlWrite_does ..))
    | decide | split | dsimp only)

theorem execFltSnapSeq_does {p : Fin 2} {value : Word} {s y : State} (hx : execFltSnapSeq p value s = .next y) :
    Does [.regs, .flt, .port0, .port1] s y := by
  refine hostRow_at_does (at_fltSnapSeq) (by decide) ?_ hx
  rw [writeReg_plain (by decide) rfl (by decide)]
  unfold writeEffect
  repeat' (first
    | with_reducible (first
        | exact Does.refl _ _ | assumption | apply Does.ite | apply Does.step (setCell_does ..) | apply Does.step (lockWrite_does ..)
        | apply Does.step (modCell_does ..) | apply Does.step (snapBegin_does ..))
    | decide | split | dsimp only)

theorem execFltSnapSrc_does {p : Fin 2} {value : Word} {s y : State} (hx : execFltSnapSrc p value s = .next y) :
    Does [.regs, .flt, .port0, .port1] s y := by
  refine hostRow_at_does (at_fltSnapSrc) (by decide) ?_ hx
  rw [writeReg_plain (by decide) rfl (by decide)]
  unfold writeEffect
  repeat' (first
    | with_reducible (first
        | exact Does.refl _ _ | assumption | apply Does.ite | apply Does.step (setCell_does ..) | apply Does.step (lockWrite_does ..)
        | apply Does.step (modCell_does ..) | apply Does.step (snapBegin_does ..))
    | decide | split | dsimp only)

/-! ### RowsHost -/

theorem execSnapshotSelect_does {p : Fin 2} {bank : BankId} {value : Word} {s y : State} (hx : execSnapshotSelect p bank value s = .next y) :
    Does [.regs, .flt, .port0, .port1, .btr, .quo, .lanes, .downlinks, .partners, .groups, .qry, .mem, .mrt, .streams, .uplinks, .retLanes, .ldg, .gau, .plb, .cns] s y := hostRow_does hx

theorem execSnapshotCapture_does {p : Fin 2} {bank : BankId} {s y : State} (hx : execSnapshotCapture p bank s = .next y) :
    Does [.regs, .flt, .port0, .port1, .mem] s y := by
  refine upNext_does ?_ hx
  repeat' (first
    | with_reducible (first
        | exact Does.refl _ _ | assumption | apply Does.ite | apply Does.step (snapCapture_does ..))
    | decide | intro _ _ _ | intro _ _ | split | dsimp only)

theorem execSqcClearWrite_does {p : Fin 2} {offset : BitVec 24} {value : Word} {s y : State} (hx : execSqcClearWrite p offset value s = .next y) :
    Does [.regs, .flt, .port0, .port1, .btr, .quo, .lanes, .downlinks, .partners, .groups, .qry, .mem, .mrt, .streams, .uplinks, .retLanes, .ldg, .gau, .plb, .cns] s y := hostRow_does hx

theorem execCntClr_does {p : Fin 2} {offset : BitVec 24} {value : Word} {s y : State} (hx : execCntClr p offset value s = .next y) :
    Does [.regs, .flt, .port0, .port1, .btr, .quo, .lanes, .downlinks, .partners, .groups, .qry, .mem, .mrt, .streams, .uplinks, .retLanes, .ldg, .gau, .plb, .cns] s y := hostRow_does hx

theorem execRegisterWrite_does {p : Fin 2} {offset : BitVec 24} {value : Word} {s y : State} (hx : execRegisterWrite p offset value s = .next y) :
    Does [.regs, .flt, .port0, .port1, .btr, .quo, .lanes, .downlinks, .partners, .groups, .qry, .mem, .mrt, .streams, .uplinks, .retLanes, .ldg, .gau, .plb, .cns] s y := hostRow_does hx

theorem execBadAccess_does {access : BarAccess} {s y : State} (hx : execBadAccess access s = .next y) :
    Does [.regs, .port0, .port1] s y := by
  refine upNext_does ?_ hx
  repeat' (first
    | with_reducible (first
        | exact Does.refl _ _ | assumption | apply Does.ite | apply Does.step (badRequest_does ..))
    | decide | intro _ _ _ | intro _ _ | split | dsimp only)

theorem execHstOwnerWrite_does {p : Fin 2} {value : Word} {s y : State} (hx : execHstOwnerWrite p value s = .next y) :
    Does [.regs, .flt, .port0, .port1] s y := by
  refine hostRow_at_does (at_hstOwner) (by decide) ?_ hx
  rw [writeReg_owner]
  exact Does.step (ownerWrite_does ..) (by decide) (Does.refl _ _)

theorem execOnceWrite_does {p : Fin 2} {position : Bool} {value : Word} {s y : State} (hx : execOnceWrite p position value s = .next y) :
    Does [.regs, .flt, .port0, .port1, .btr, .quo, .lanes, .downlinks, .partners, .groups, .qry, .mem, .mrt, .streams, .uplinks, .retLanes, .ldg, .gau, .plb, .cns] s y := hostRow_does hx

theorem execBitAliasWrite_does {p : Fin 2} {offset : BitVec 23} {value : Word} {s y : State} (hx : execBitAliasWrite p offset value s = .next y) :
    Does [.regs, .flt, .port0, .port1, .btr, .quo, .lanes, .downlinks, .partners, .groups, .qry, .mem, .mrt, .streams, .uplinks, .retLanes, .ldg, .gau, .plb, .cns] s y := by
  refine upNext_does ?_ hx
  repeat' (first
    | with_reducible (first
        | exact Does.refl _ _ | assumption | apply Does.ite | apply Does.step (aliasWrite_does ..))
    | decide | intro _ _ _ | intro _ _ | split | dsimp only)

theorem execMsixMessage_does {p : Fin 2} {vector : Fin 32} {s y : State} (hx : execMsixMessage p vector s = .next y) :
    Does [.port0, .port1] s y := by
  refine upNext_does ?_ hx
  repeat' (first
    | with_reducible (first
        | exact Does.refl _ _ | assumption | apply Does.ite | apply Does.step (msixMessage_does ..))
    | decide | intro _ _ _ | intro _ _ | split | dsimp only)

theorem execIrqHoldoffExpiry_does {p : Fin 2} {vector : Fin 32} {s y : State} (hx : execIrqHoldoffExpiry p vector s = .next y) :
    Does [.port0, .port1] s y := by
  refine upNext_does ?_ hx
  repeat' (first
    | with_reducible (first
        | exact Does.refl _ _ | assumption | apply Does.ite | apply Does.step (holdoffExpiry_does ..))
    | decide | intro _ _ _ | intro _ _ | split | dsimp only)

theorem execPerstAssert_does {reset : PortReset} {s y : State} (hx : execPerstAssert reset s = .next y) :
    Does [.port0, .port1] s y := by
  refine next_does ?_ hx
  repeat' (first
    | with_reducible (first
        | exact Does.refl _ _ | assumption | apply Does.ite | apply Does.step (hotReset_does ..) | apply Does.step (perstAssert_does ..))
    | decide | intro _ _ _ | intro _ _ | split | dsimp only)

theorem execPerstRelease_does {p : Fin 2} {s y : State} (hx : execPerstRelease p s = .next y) :
    Does [.port0, .port1] s y := by
  refine next_does ?_ hx
  repeat' (first
    | with_reducible (first
        | exact Does.refl _ _ | assumption | apply Does.ite | apply Does.step (perstRelease_does ..))
    | decide | intro _ _ _ | intro _ _ | split | dsimp only)

theorem execHstFlr_does {p : Fin 2} {s y : State} (hx : execHstFlr p s = .next y) :
    Does [.regs, .flt, .port0, .port1] s y := by
  refine upNext_does ?_ hx
  repeat' (first
    | with_reducible (first
        | exact Does.refl _ _ | assumption | apply Does.ite | apply Does.step (functionReset_does ..))
    | decide | intro _ _ _ | intro _ _ | split | dsimp only)

theorem execHstLinkDown_does {p : Fin 2} {training : Word} {s y : State} (hx : execHstLinkDown p training s = .next y) :
    Does [.regs, .flt, .port0, .port1] s y := by
  refine upNext_does ?_ hx
  repeat' (first
    | with_reducible (first
        | exact Does.refl _ _ | assumption | apply Does.ite | apply Does.step (linkDown_does ..))
    | decide | intro _ _ _ | intro _ _ | split | dsimp only)

theorem execHstLinkUp_does {p : Fin 2} {width : Fin 5} {speed : Fin 5} {s y : State} (hx : execHstLinkUp p width speed s = .next y) :
    Does [.port0, .port1] s y := by
  refine upNext_does ?_ hx
  repeat' (first
    | with_reducible (first
        | exact Does.refl _ _ | assumption | apply Does.ite | apply Does.step (linkUp_does ..))
    | decide | intro _ _ _ | intro _ _ | split | dsimp only)

theorem execHstAerUncorr_does {p : Fin 2} {status : Word} {header : BitVec 128} {s y : State} (hx : execHstAerUncorr p status header s = .next y) :
    Does [.regs, .flt, .port0, .port1] s y := by
  refine upNext_does ?_ hx
  repeat' (first
    | with_reducible (first
        | exact Does.refl _ _ | assumption | apply Does.ite | apply Does.step (aerUncorr_does ..))
    | decide | intro _ _ _ | intro _ _ | split | dsimp only)

theorem execAerCorr_does {report : AerReport} {s y : State} (hx : execAerCorr report s = .next y) :
    Does [.regs, .port0, .port1] s y := by
  refine upNext_does ?_ hx
  repeat' (first
    | with_reducible (first
        | exact Does.refl _ _ | assumption | apply Does.ite | apply Does.step (aerCorr_does ..))
    | decide | intro _ _ _ | intro _ _ | split | dsimp only)

theorem execPcieConfigWrite_does {p : Fin 2} {bme : Bool} {msix : MsixControl} {d3 : Bool} {s y : State} (hx : execPcieConfigWrite p bme msix d3 s = .next y) :
    Does [.port0, .port1] s y := by
  refine upNext_does ?_ hx
  repeat' (first
    | with_reducible (first
        | exact Does.refl _ _ | assumption | apply Does.ite | apply Does.step (pcieConfigWrite_does ..))
    | decide | intro _ _ _ | intro _ _ | split | dsimp only)

/-! ### RowsLodge -/

theorem execLdgMbSubmit_does {p : Fin 2} {m : Fin 8} {value : Word} {s y : State} (hx : execLdgMbSubmit p m value s = .next y) :
    Does [.regs, .flt, .port0, .port1, .ldg] s y := by
  refine hostRow_at_does (at_ldgMbSubmit m) (by decide) ?_ hx
  rw [writeReg_plain (by decide) rfl (by decide)]
  unfold writeEffect
  repeat' (first
    | with_reducible (first
        | exact Does.refl _ _ | assumption | apply Does.ite | apply Does.step (setCell_does ..) | apply Does.step (lockWrite_does ..)
        | apply Does.step (modCell_does ..) | apply Does.step (ldgSubmit_does ..))
    | decide | split | dsimp only)

theorem execLdgMbAck_does {p : Fin 2} {m : Fin 8} {value : Word} {s y : State} (hx : execLdgMbAck p m value s = .next y) :
    Does [.regs, .flt, .port0, .port1, .ldg] s y := by
  refine hostRow_at_does (at_ldgMbAck m) (by decide) ?_ hx
  rw [writeReg_plain (by decide) rfl (by decide)]
  unfold writeEffect
  repeat' (first
    | with_reducible (first
        | exact Does.refl _ _ | assumption | apply Does.ite | apply Does.step (setCell_does ..) | apply Does.step (lockWrite_does ..)
        | apply Does.step (modCell_does ..) | apply Does.step (ldgAck_does ..))
    | decide | split | dsimp only)

theorem execResponsePlaced_does {m : Fin 8} {s y : State} (hx : execResponsePlaced m s = .next y) :
    Does [.regs, .port0, .port1, .ldg] s y := by
  refine upNext_does ?_ hx
  repeat' (first
    | with_reducible (first
        | exact Does.refl _ _ | assumption | apply Does.ite | apply Does.step (responsePlaced_does ..))
    | decide | intro _ _ _ | intro _ _ | split | dsimp only)

theorem execLdgOvertime_does {m : Fin 8} {cycles : Word} {s y : State} (hx : execLdgOvertime m cycles s = .next y) :
    Does [.regs, .flt, .port0, .port1, .ldg] s y := by
  refine upNext_does ?_ hx
  repeat' (first
    | with_reducible (first
        | exact Does.refl _ _ | assumption | apply Does.ite | apply Does.step (ldgOvertime_does ..))
    | decide | intro _ _ _ | intro _ _ | split | dsimp only)

theorem execUnknownOpcode_does {m : Fin 8} {s y : State} (hx : execUnknownOpcode m s = .next y) :
    Does [.regs, .flt, .port0, .port1, .ldg] s y := by
  refine upNext_does ?_ hx
  repeat' (first
    | with_reducible (first
        | exact Does.refl _ _ | assumption | apply Does.ite | apply Does.step (unknownOpcode_does ..))
    | decide | intro _ _ _ | intro _ _ | split | dsimp only)

theorem execPowerSet_does {m : Fin 8} {s y : State} (hx : execPowerSet m s = .next y) :
    Does [.regs, .flt, .port0, .port1, .quo, .pwr, .lanes, .downlinks, .groups, .ash, .ring, .qry, .hbm, .mrt, .streams, .uplinks, .uplGroups, .retLanes, .lnt, .ldg, .gau] s y := by
  refine upNext_does ?_ hx
  repeat' (first
    | with_reducible (first
        | exact Does.refl _ _ | assumption | apply Does.ite | apply Does.lodgeRow | apply Does.step (powerSetStart_does ..))
    | decide | intro _ _ _ | intro _ _ | split | dsimp only)

theorem execPowerQuery_does {m : Fin 8} {s y : State} (hx : execPowerQuery m s = .next y) :
    Does [.regs, .flt, .port0, .port1, .ldg] s y := by
  refine upNext_does ?_ hx
  repeat' (first
    | with_reducible (first
        | exact Does.refl _ _ | assumption | apply Does.ite | apply Does.lodgeRow | apply Does.step (powerQueryStart_does ..))
    | decide | intro _ _ _ | intro _ _ | split | dsimp only)

theorem execPartnerBind_does {m : Fin 8} {s y : State} (hx : execPartnerBind m s = .next y) :
    Does [.regs, .flt, .port0, .port1, .bindPending, .ldg] s y := by
  refine upNext_does ?_ hx
  repeat' (first
    | with_reducible (first
        | exact Does.refl _ _ | assumption | apply Does.ite | apply Does.lodgeRow | apply Does.step (partnerBindStart_does ..))
    | decide | intro _ _ _ | intro _ _ | split | dsimp only)

theorem execPartnerConfig_does {m : Fin 8} {s y : State} (hx : execPartnerConfig m s = .next y) :
    Does [.regs, .flt, .port0, .port1, .partners, .ldg] s y := by
  refine upNext_does ?_ hx
  repeat' (first
    | with_reducible (first
        | exact Does.refl _ _ | assumption | apply Does.ite | apply Does.lodgeRow | apply Does.step (partnerConfigGoes_does ..)
        | apply Does.step (partnerConfigStart_does ..))
    | decide | intro _ _ _ | intro _ _ | split | dsimp only)

theorem execLaneTrain_does {m : Fin 8} {s y : State} (hx : execLaneTrain m s = .next y) :
    Does [.regs, .flt, .port0, .port1, .quo, .lanes, .downlinks, .groups, .ldg] s y := by
  refine upNext_does ?_ hx
  repeat' (first
    | with_reducible (first
        | exact Does.refl _ _ | assumption | apply Does.ite | apply Does.step (laneTrainStart_does ..) | apply Does.lodgeRow)
    | decide | intro _ _ _ | intro _ _ | split | dsimp only)

theorem execDelayMeasure_does {m : Fin 8} {s y : State} (hx : execDelayMeasure m s = .next y) :
    Does [.regs, .flt, .port0, .port1, .quo, .downlinks, .ldg] s y := by
  refine upNext_does ?_ hx
  repeat' (first
    | with_reducible (first
        | exact Does.refl _ _ | assumption | apply Does.ite | apply Does.step (delayMeasureGoes_does ..) | apply Does.step (delayMeasureStart_does ..)
        | apply Does.lodgeRow)
    | decide | intro _ _ _ | intro _ _ | split | dsimp only)

theorem execCalLoad_does {m : Fin 8} {s y : State} (hx : execCalLoad m s = .next y) :
    Does [.regs, .flt, .port0, .port1, .groups, .sram, .hbm, .mem, .ldg] s y := by
  refine upNext_does ?_ hx
  repeat' (first
    | with_reducible (first
        | exact Does.refl _ _ | assumption | apply Does.ite | apply Does.step (loadGoes_does ..) | apply Does.step (loadStart_does ..)
        | apply Does.lodgeRow)
    | decide | intro _ _ _ | intro _ _ | split | dsimp only)

theorem execCalSwap_does {m : Fin 8} {s y : State} (hx : execCalSwap m s = .next y) :
    Does [.regs, .flt, .port0, .port1, .btr, .ldg] s y := by
  refine upNext_does ?_ hx
  repeat' (first
    | with_reducible (first
        | exact Does.refl _ _ | assumption | apply Does.ite | apply Does.step (calSwapStart_does ..) | apply Does.lodgeRow)
    | decide | intro _ _ _ | intro _ _ | split | dsimp only)

theorem execWalkLoad_does {m : Fin 8} {s y : State} (hx : execWalkLoad m s = .next y) :
    Does [.regs, .flt, .port0, .port1, .groups, .sram, .hbm, .mem, .ldg] s y := by
  refine upNext_does ?_ hx
  repeat' (first
    | with_reducible (first
        | exact Does.refl _ _ | assumption | apply Does.ite | apply Does.step (loadGoes_does ..) | apply Does.step (loadStart_does ..)
        | apply Does.lodgeRow)
    | decide | intro _ _ _ | intro _ _ | split | dsimp only)

theorem execTimeDomainSelect_does {m : Fin 8} {s y : State} (hx : execTimeDomainSelect m s = .next y) :
    Does [.regs, .flt, .port0, .port1, .btr, .ldg] s y := by
  refine upNext_does ?_ hx
  repeat' (first
    | with_reducible (first
        | exact Does.refl _ _ | assumption | apply Does.ite | apply Does.step (domainSelectStart_does ..) | apply Does.lodgeRow)
    | decide | intro _ _ _ | intro _ _ | split | dsimp only)

theorem execEngineMigrate_does {m : Fin 8} {s y : State} (hx : execEngineMigrate m s = .next y) :
    Does [.regs, .flt, .port0, .port1, .ash, .ldg] s y := by
  refine upNext_does ?_ hx
  repeat' (first
    | with_reducible (first
        | exact Does.refl _ _ | assumption | apply Does.ite | apply Does.step (engineMigrateStart_does ..) | apply Does.lodgeRow)
    | decide | intro _ _ _ | intro _ _ | split | dsimp only)

theorem execStreamMove_does {m : Fin 8} {s y : State} (hx : execStreamMove m s = .next y) :
    Does [.regs, .flt, .port0, .port1, .streams, .ldg] s y := by
  refine upNext_does ?_ hx
  repeat' (first
    | with_reducible (first
        | exact Does.refl _ _ | assumption | apply Does.ite | apply Does.lodgeRow | apply Does.step (streamMoveStart_does ..))
    | decide | intro _ _ _ | intro _ _ | split | dsimp only)

theorem execQuarryExport_does {m : Fin 8} {burst : List Nat} {s y : State} (hx : execQuarryExport m burst s = .next y) :
    Does [.regs, .flt, .port0, .port1, .qry, .hbm, .ldg] s y := by
  refine upNext_does ?_ hx
  repeat' (first
    | with_reducible (first
        | exact Does.refl _ _ | assumption | apply Does.ite | apply Does.step (jobGoes_does ..) | apply Does.step (jobStart_does ..)
        | apply Does.lodgeRow)
    | decide | intro _ _ _ | intro _ _ | split | dsimp only)

theorem execRecallHost_does {m : Fin 8} {burst : List Nat} {s y : State} (hx : execRecallHost m burst s = .next y) :
    Does [.regs, .flt, .port0, .port1, .qry, .hbm, .ldg] s y := by
  refine upNext_does ?_ hx
  repeat' (first
    | with_reducible (first
        | exact Does.refl _ _ | assumption | apply Does.ite | apply Does.step (jobGoes_does ..) | apply Does.step (jobStart_does ..)
        | apply Does.lodgeRow)
    | decide | intro _ _ _ | intro _ _ | split | dsimp only)

theorem execDecompressCheck_does {m : Fin 8} {burst : List Nat} {s y : State} (hx : execDecompressCheck m burst s = .next y) :
    Does [.regs, .flt, .port0, .port1, .qry, .hbm, .ldg] s y := by
  refine upNext_does ?_ hx
  repeat' (first
    | with_reducible (first
        | exact Does.refl _ _ | assumption | apply Does.ite | apply Does.step (jobGoes_does ..) | apply Does.step (jobStart_does ..)
        | apply Does.lodgeRow)
    | decide | intro _ _ _ | intro _ _ | split | dsimp only)

theorem execRetireAdd_does {m : Fin 8} {s y : State} (hx : execRetireAdd m s = .next y) :
    Does [.regs, .flt, .port0, .port1, .hbm, .ldg, .cns] s y := by
  refine upNext_does ?_ hx
  repeat' (first
    | with_reducible (first
        | exact Does.refl _ _ | assumption | apply Does.ite | apply Does.lodgeRow | apply Does.step (retireAddStart_does ..))
    | decide | intro _ _ _ | intro _ _ | split | dsimp only)

theorem execRetireList_does {m : Fin 8} {s y : State} (hx : execRetireList m s = .next y) :
    Does [.regs, .flt, .port0, .port1, .ldg] s y := by
  refine upNext_does ?_ hx
  repeat' (first
    | with_reducible (first
        | exact Does.refl _ _ | assumption | apply Does.ite | apply Does.lodgeRow | apply Does.step (retireListStart_does ..))
    | decide | intro _ _ _ | intro _ _ | split | dsimp only)

theorem execScrubSet_does {m : Fin 8} {s y : State} (hx : execScrubSet m s = .next y) :
    Does [.regs, .flt, .port0, .port1, .ldg] s y := by
  refine upNext_does ?_ hx
  repeat' (first
    | with_reducible (first
        | exact Does.refl _ _ | assumption | apply Does.ite | apply Does.lodgeRow | apply Does.step (scrubSetStart_does ..))
    | decide | intro _ _ _ | intro _ _ | split | dsimp only)

theorem execGaugeSelfcal_does {m : Fin 8} {readings : List (List GauCalReading)} {s y : State} (hx : execGaugeSelfcal m readings s = .next y) :
    Does [.regs, .flt, .port0, .port1, .ldg, .gau] s y := by
  refine upNext_does ?_ hx
  repeat' (first
    | with_reducible (first
        | exact Does.refl _ _ | assumption | apply Does.ite | apply Does.step (gaugeSelfcalGoes_does ..) | apply Does.step (gaugeSelfcalStart_does ..)
        | apply Does.lodgeRow)
    | decide | intro _ _ _ | intro _ _ | split | dsimp only)

theorem execPlbRead_does {m : Fin 8} {s y : State} (hx : execPlbRead m s = .next y) :
    Does [.regs, .flt, .port0, .port1, .mem, .ldg, .plb] s y := by
  refine upNext_does ?_ hx
  repeat' (first
    | with_reducible (first
        | exact Does.refl _ _ | assumption | apply Does.ite | apply Does.lodgeRow | apply Does.step (plbReadStart_does ..)
        | apply Does.step (plbReadGoes_does ..))
    | decide | intro _ _ _ | intro _ _ | split | dsimp only)

theorem execCnsRead_does {m : Fin 8} {s y : State} (hx : execCnsRead m s = .next y) :
    Does [.regs, .flt, .port0, .port1, .ldg, .cns] s y := by
  refine upNext_does ?_ hx
  repeat' (first
    | with_reducible (first
        | exact Does.refl _ _ | assumption | apply Does.ite | apply Does.step (cnsReadStart_does ..)
        | apply Does.step (cnsReadGoes_does ..) | apply Does.lodgeRow)
    | decide | intro _ _ _ | intro _ _ | split | dsimp only)

theorem execCnsClear_does {m : Fin 8} {s y : State} (hx : execCnsClear m s = .next y) :
    Does [.regs, .flt, .port0, .port1, .ldg, .cns] s y := by
  refine upNext_does ?_ hx
  repeat' (first
    | with_reducible (first
        | exact Does.refl _ _ | assumption | apply Does.ite | apply Does.step (cnsClearStart_does ..) | apply Does.lodgeRow)
    | decide | intro _ _ _ | intro _ _ | split | dsimp only)

theorem execFaultAckBulk_does {m : Fin 8} {s y : State} (hx : execFaultAckBulk m s = .next y) :
    Does [.regs, .flt, .port0, .port1, .mem, .ldg, .plb, .cns] s y := by
  refine upNext_does ?_ hx
  repeat' (first
    | with_reducible (first
        | exact Does.refl _ _ | assumption | apply Does.ite | apply Does.step (faultAckBulkStart_does ..) | apply Does.lodgeRow)
    | decide | intro _ _ _ | intro _ _ | split | dsimp only)

theorem execDiagLoop_does {m : Fin 8} {wrong : Nat} {s y : State} (hx : execDiagLoop m wrong s = .next y) :
    Does [.regs, .flt, .port0, .port1, .hbm, .ldg] s y := by
  refine upNext_does ?_ hx
  repeat' (first
    | with_reducible (first
        | exact Does.refl _ _ | assumption | apply Does.ite | apply Does.step (diagLoopStart_does ..) | apply Does.lodgeRow)
    | decide | intro _ _ _ | intro _ _ | split | dsimp only)

/-! ### RowsGauge -/

theorem execConversionEnd_does {k : Fin 21} {reading : GauReading} {s y : State} (hx : execConversionEnd k reading s = .next y) :
    Does [.regs, .flt, .port0, .port1, .gau] s y := by
  refine upNext_does ?_ hx
  repeat' (first
    | with_reducible (first
        | exact Does.refl _ _ | assumption | apply Does.ite | apply Does.step (conversionEnd_does ..))
    | decide | intro _ _ _ | intro _ _ | split | dsimp only)

theorem execMultiplexerStep_does {k : Fin 21} {s y : State} (hx : execMultiplexerStep k s = .next y) :
    Does [.gau] s y := by
  refine upNext_does ?_ hx
  repeat' (first
    | with_reducible (first
        | exact Does.refl _ _ | assumption | apply Does.ite | apply Does.step (muxStep_does ..))
    | decide | intro _ _ _ | intro _ _ | split | dsimp only)

theorem execBurnoutCheck_does {k : Fin 21} {isOpen : Bool} {s y : State} (hx : execBurnoutCheck k isOpen s = .next y) :
    Does [.regs, .flt, .port0, .port1, .gau] s y := by
  refine upNext_does ?_ hx
  repeat' (first
    | with_reducible (first
        | exact Does.refl _ _ | assumption | apply Does.ite | apply Does.step (burnoutCheck_does ..))
    | decide | intro _ _ _ | intro _ _ | split | dsimp only)

theorem execGauAlignStart_does {s y : State} (hx : execGauAlignStart s = .next y) :
    Does [.gau] s y := by
  refine upNext_does ?_ hx
  repeat' (first
    | with_reducible (first
        | exact Does.refl _ _ | assumption | apply Does.ite | apply Does.step (alignStart_does ..))
    | decide | intro _ _ _ | intro _ _ | split | dsimp only)

theorem execGauOpen_does {c : Fin 64} {s y : State} (hx : execGauOpen c s = .next y) :
    Does [.regs, .flt, .port0, .port1, .gau] s y := by
  refine upNext_does ?_ hx
  repeat' (first
    | with_reducible (first
        | exact Does.refl _ _ | assumption | apply Does.ite | apply Does.step (gauOpenSet_does ..))
    | decide | intro _ _ _ | intro _ _ | split | dsimp only)

theorem execGauOpenClear_does {c : Fin 64} {s y : State} (hx : execGauOpenClear c s = .next y) :
    Does [.gau] s y := by
  refine upNext_does ?_ hx
  repeat' (first
    | with_reducible (first
        | exact Does.refl _ _ | assumption | apply Does.ite | apply Does.step (gauOpenClear_does ..))
    | decide | intro _ _ _ | intro _ _ | split | dsimp only)

theorem execGauExcFault_does {c : Fin 64} {s y : State} (hx : execGauExcFault c s = .next y) :
    Does [.regs, .flt, .port0, .port1, .gau] s y := by
  refine upNext_does ?_ hx
  repeat' (first
    | with_reducible (first
        | exact Does.refl _ _ | assumption | apply Does.ite | apply Does.step (gauExcFault_does ..))
    | decide | intro _ _ _ | intro _ _ | split | dsimp only)

theorem execExcRetry_does {c : Fin 64} {within : Bool} {s y : State} (hx : execExcRetry c within s = .next y) :
    Does [.gau] s y := by
  refine upNext_does ?_ hx
  repeat' (first
    | with_reducible (first
        | exact Does.refl _ _ | assumption | apply Does.ite | apply Does.step (excRetry_does ..))
    | decide | intro _ _ _ | intro _ _ | split | dsimp only)

theorem execBlankEdge_does {pin : Fin 2} {asserted : Bool} {s y : State} (hx : execBlankEdge pin asserted s = .next y) :
    Does [.gau] s y := by
  refine next_does ?_ hx
  repeat' (first
    | with_reducible (first
        | exact Does.refl _ _ | assumption | apply Does.ite | apply Does.step (blankEdge_does ..))
    | decide | intro _ _ _ | intro _ _ | split | dsimp only)

theorem execGauOutputPeriod_does {o : Fin 16} {readback : GauReadback} {s y : State} (hx : execGauOutputPeriod o readback s = .next y) :
    Does [.regs, .flt, .port0, .port1, .gau] s y := by
  refine upNext_does ?_ hx
  repeat' (first
    | with_reducible (first
        | exact Does.refl _ _ | assumption | apply Does.ite | apply Does.step (outputPeriod_does ..))
    | decide | intro _ _ _ | intro _ _ | split | dsimp only)

theorem execGauChannelConfigWrite_does {p : Fin 2} {c : Fin 72} {value : Word} {s y : State} (hx : execGauChannelConfigWrite p c value s = .next y) :
    Does [.regs, .flt, .port0, .port1, .gau] s y := by
  refine hostRow_at_does (at_gauChCfg c) (by decide) ?_ hx
  unfold writeReg
  rw [if_neg (by decide), if_neg (by decide), if_neg (by decide), if_neg (by decide)]
  unfold writeEffect
  repeat' (first
    | with_reducible (first
        | exact Does.refl _ _ | assumption | apply Does.ite | apply Does.step (setCell_does ..) | apply Does.step (lockWrite_does ..)
        | apply Does.step (modCell_does ..) | apply Does.step (chCfgWritten_does ..))
    | decide | split | dsimp only)

theorem execIntegrationStart_does {k : Fin 21} {s y : State} (hx : execIntegrationStart k s = .next y) :
    Does [.gau] s y := by
  refine upNext_does ?_ hx
  repeat' (first
    | with_reducible (first
        | exact Does.refl _ _ | assumption | apply Does.ite | apply Does.step (integrationStart_does ..))
    | decide | intro _ _ _ | intro _ _ | split | dsimp only)

/-! ### RowsPower -/

theorem execDomainChangeDone_does {n : Fin 80} {s y : State} (hx : execDomainChangeDone n s = .next y) :
    Does [.regs, .flt, .port0, .port1, .quo, .pwr, .lanes, .downlinks, .groups, .sram, .ash, .ring, .qry, .hbm, .mem, .mrt, .streams, .uplinks, .uplGroups, .retLanes, .lnt, .ldg, .gau, .plb] s y := by
  refine upNext_does ?_ hx
  repeat' (first
    | with_reducible (first
        | exact Does.refl _ _ | assumption | apply Does.ite | apply Does.step (domainChangeDone_does ..))
    | decide | intro _ _ _ | intro _ _ | split | dsimp only)

theorem execPwrDomainFail_does {n : Fin 80} {opened : Bool} {rail : Fin 11} {measured : Word} {s y : State} (hx : execPwrDomainFail n opened rail measured s = .next y) :
    Does [.regs, .flt, .port0, .port1, .quo, .pwr, .lanes, .downlinks, .groups, .sram, .ash, .ring, .qry, .hbm, .mem, .mrt, .streams, .uplinks, .uplGroups, .retLanes, .lnt, .ldg, .gau, .plb] s y := by
  refine upNext_does ?_ hx
  repeat' (first
    | with_reducible (first
        | exact Does.refl _ _ | assumption | apply Does.ite | apply Does.step (pwrDomainFail_does ..))
    | decide | intro _ _ _ | intro _ _ | split | dsimp only)

theorem execPwrInputRange_does {mv : BitVec 17} {s y : State} (hx : execPwrInputRange mv s = .next y) :
    Does [.regs, .flt, .port0, .port1, .pwr] s y := by
  refine upNext_does ?_ hx
  repeat' (first
    | with_reducible (first
        | exact Does.refl _ _ | assumption | apply Does.ite | apply Does.step (inputRange_does ..))
    | decide | intro _ _ _ | intro _ _ | split | dsimp only)

theorem execPwrTempHigh_does {sensor : Fin 17} {temp : BitVec 16} {s y : State} (hx : execPwrTempHigh sensor temp s = .next y) :
    Does [.regs, .flt, .port0, .port1, .pwr] s y := by
  refine upNext_does ?_ hx
  repeat' (first
    | with_reducible (first
        | exact Does.refl _ _ | assumption | apply Does.ite | apply Does.step (tempHigh_does ..))
    | decide | intro _ _ _ | intro _ _ | split | dsimp only)

theorem execPwrRailFault_does {rail : Fin 11} {measured : Word} {s y : State} (hx : execPwrRailFault rail measured s = .next y) :
    Does [.regs, .flt, .port0, .port1, .pwr] s y := by
  refine upNext_does ?_ hx
  repeat' (first
    | with_reducible (first
        | exact Does.refl _ _ | assumption | apply Does.ite | apply Does.step (railFails_does ..))
    | decide | intro _ _ _ | intro _ _ | split | dsimp only)

theorem execPwrMeasureUpdate_does {mv : BitVec 17} {ma : BitVec 14} {dw : BitVec 12} {temps rails : List (BitVec 16)} {s y : State} (hx : execPwrMeasureUpdate mv ma dw temps rails s = .next y) :
    Does [.btr, .regs, .flt, .port0, .port1, .quo, .pwr, .lanes, .downlinks, .partners, .bindPending, .groups, .sram, .ash, .ring, .qry, .hbm, .mem, .mrt, .streams, .uplinks, .uplGroups, .retLanes, .lnt, .ldg, .gau, .plb, .cns, .jtag, .life] s y := by
  refine next_does ?_ hx
  repeat' (first
    | with_reducible (first
        | exact Does.refl _ _ | assumption | apply Does.ite | apply Does.step (measureUpdate_does ..) | apply Does.step (stageRead_does ..))
    | decide | intro _ _ _ | intro _ _ | split | dsimp only)

theorem execProtectiveTrip_does {cause : TripCause} {mv : BitVec 17} {dies : List (BitVec 16)} {stage : BitVec 16} {s y : State} (hx : execProtectiveTrip cause mv dies stage s = .next y) :
    Does [.regs, .flt, .port0, .port1, .btr, .quo, .pwr, .lanes, .downlinks, .partners, .bindPending, .groups, .sram, .ash, .ring, .qry, .hbm, .mem, .mrt, .streams, .uplinks, .uplGroups, .retLanes, .lnt, .ldg, .gau, .plb, .cns, .jtag, .life] s y := by
  refine next_does ?_ hx
  repeat' (first
    | with_reducible (first
        | exact Does.refl _ _ | assumption | apply Does.ite | apply Does.step (protectiveTrip_does ..))
    | decide | intro _ _ _ | intro _ _ | split | dsimp only)

theorem execTripLatchClear_does {s y : State} (hx : execTripLatchClear s = .next y) :
    Does [.btr, .regs, .flt, .port0, .port1, .quo, .pwr, .lanes, .downlinks, .partners, .bindPending, .groups, .sram, .ash, .ring, .qry, .hbm, .mem, .mrt, .streams, .uplinks, .uplGroups, .retLanes, .lnt, .ldg, .gau, .plb, .cns, .jtag, .life] s y := by
  refine next_does ?_ hx
  repeat' (first
    | with_reducible (first
        | exact Does.refl _ _ | assumption | apply Does.ite | apply Does.step (tripLatchClear_does ..))
    | decide | intro _ _ _ | intro _ _ | split | dsimp only)

theorem execInputValid_does {s y : State} (hx : execInputValid s = .next y) :
    Does [.regs, .flt, .port0, .port1, .btr, .quo, .pwr, .lanes, .downlinks, .partners, .bindPending, .groups, .sram, .ash, .ring, .qry, .hbm, .mem, .mrt, .streams, .uplinks, .uplGroups, .retLanes, .lnt, .ldg, .gau, .plb, .cns, .jtag, .life] s y := by
  refine next_does ?_ hx
  repeat' (first
    | with_reducible (first
        | exact Does.refl _ _ | assumption | apply Does.ite | apply Does.step (inputValid_does ..))
    | decide | intro _ _ _ | intro _ _ | split | dsimp only)

theorem execFoundRstAssert_does {s y : State} (hx : execFoundRstAssert s = .next y) :
    Does [.regs, .flt, .port0, .port1, .btr, .quo, .pwr, .lanes, .downlinks, .partners, .bindPending, .groups, .sram, .ash, .ring, .qry, .hbm, .mem, .mrt, .streams, .uplinks, .uplGroups, .retLanes, .lnt, .ldg, .gau, .plb, .cns, .life] s y := by
  refine next_does ?_ hx
  repeat' (first
    | with_reducible (first
        | exact Does.refl _ _ | assumption | apply Does.ite | apply Does.step (foundRstAssert_does ..))
    | decide | intro _ _ _ | intro _ _ | split | dsimp only)

theorem execFoundationResetDone_does {reset : ResetEnd} {s y : State} (hx : execFoundationResetDone reset s = .next y) :
    Does [.regs, .flt, .port0, .port1, .btr, .quo, .pwr, .lanes, .downlinks, .partners, .bindPending, .groups, .sram, .ash, .ring, .qry, .hbm, .mem, .mrt, .streams, .uplinks, .uplGroups, .retLanes, .lnt, .ldg, .gau, .plb, .cns, .life] s y := by
  refine next_does ?_ hx
  repeat' (first
    | with_reducible (first
        | exact Does.refl _ _ | assumption | apply Does.ite | apply Does.step (foundationResetDone_does ..))
    | decide | intro _ _ _ | intro _ _ | split | dsimp only)

theorem execPlbChange_does {slot : Fin 64} {level : Bool} {s y : State} (hx : execPlbChange slot level s = .next y) :
    Does [.regs, .flt, .port0, .port1, .mem, .plb] s y := by
  refine upNext_does ?_ hx
  repeat' (first
    | with_reducible (first
        | exact Does.refl _ _ | assumption | apply Does.ite | apply Does.step (plbChange_does ..))
    | decide | intro _ _ _ | intro _ _ | split | dsimp only)

theorem execArm_does {p : Fin 2} {s y : State} (hx : execArm p s = .next y) :
    Does [.regs, .flt, .port0, .port1, .mem, .plb] s y := by
  refine hostRow_at_does (at_plbCtl) (by decide) ?_ hx
  rw [writeReg_plain (by decide) rfl (by decide)]
  unfold writeEffect
  repeat' (first
    | with_reducible (first
        | exact Does.refl _ _ | assumption | apply Does.ite | apply Does.step (setCell_does ..) | apply Does.step (lockWrite_does ..)
        | apply Does.step (modCell_does ..) | apply Does.step (plbCtlWrite_does ..))
    | decide | split | dsimp only)

theorem execDisarm_does {p : Fin 2} {s y : State} (hx : execDisarm p s = .next y) :
    Does [.regs, .flt, .port0, .port1, .mem, .plb] s y := by
  refine hostRow_at_does (at_plbCtl) (by decide) ?_ hx
  rw [writeReg_plain (by decide) rfl (by decide)]
  unfold writeEffect
  repeat' (first
    | with_reducible (first
        | exact Does.refl _ _ | assumption | apply Does.ite | apply Does.step (setCell_does ..) | apply Does.step (lockWrite_does ..)
        | apply Does.step (modCell_does ..) | apply Does.step (plbCtlWrite_does ..))
    | decide | split | dsimp only)

theorem execFire_does {p : Fin 2} {s y : State} (hx : execFire p s = .next y) :
    Does [.regs, .flt, .port0, .port1, .mem, .plb] s y := by
  refine hostRow_at_does (at_plbCtl) (by decide) ?_ hx
  rw [writeReg_plain (by decide) rfl (by decide)]
  unfold writeEffect
  repeat' (first
    | with_reducible (first
        | exact Does.refl _ _ | assumption | apply Does.ite | apply Does.step (setCell_does ..) | apply Does.step (lockWrite_does ..)
        | apply Does.step (modCell_does ..) | apply Does.step (plbCtlWrite_does ..))
    | decide | split | dsimp only)

theorem execPlbArmEdge_does {s y : State} (hx : execPlbArmEdge s = .next y) :
    Does [.regs, .flt, .port0, .port1, .mem, .plb] s y := by
  refine upNext_does ?_ hx
  repeat' (first
    | with_reducible (first
        | exact Does.refl _ _ | assumption | apply Does.ite | apply Does.step (plbArmEdge_does ..))
    | decide | intro _ _ _ | intro _ _ | split | dsimp only)

theorem execPlbFireEdge_does {s y : State} (hx : execPlbFireEdge s = .next y) :
    Does [.regs, .flt, .port0, .port1, .mem, .plb] s y := by
  refine upNext_does ?_ hx
  repeat' (first
    | with_reducible (first
        | exact Does.refl _ _ | assumption | apply Does.ite | apply Does.step (plbFireEdge_does ..))
    | decide | intro _ _ _ | intro _ _ | split | dsimp only)

theorem execPlbFireRelease_does {s y : State} (hx : execPlbFireRelease s = .next y) :
    Does [.plb] s y := by
  refine upNext_does ?_ hx
  repeat' (first
    | with_reducible (first
        | exact Does.refl _ _ | assumption | apply Does.ite | apply Does.step (plbFireRelease_does ..))
    | decide | intro _ _ _ | intro _ _ | split | dsimp only)

theorem execPlbPostDone_does {s y : State} (hx : execPlbPostDone s = .next y) :
    Does [.regs, .flt, .port0, .port1, .mem, .plb] s y := by
  refine upNext_does ?_ hx
  repeat' (first
    | with_reducible (first
        | exact Does.refl _ _ | assumption | apply Does.ite | apply Does.step (plbPostDone_does ..))
    | decide | intro _ _ _ | intro _ _ | split | dsimp only)

theorem execCnsEventWrite_does {good : Bool} {s y : State} (hx : execCnsEventWrite good s = .next y) :
    Does [.regs, .flt, .port0, .port1, .cns] s y := by
  refine upNext_does ?_ hx
  repeat' (first
    | with_reducible (first
        | exact Does.refl _ _ | assumption | apply Does.ite | apply Does.step (cnsEventWrite_does ..))
    | decide | intro _ _ _ | intro _ _ | split | dsimp only)

theorem execJtagInstruction_does {op : JtagOp} {s y : State} (hx : execJtagInstruction op s = .next y) :
    Does [.jtag] s y := by
  refine next_does ?_ hx
  repeat' (first
    | with_reducible (first
        | exact Does.refl _ _ | assumption | apply Does.ite | apply Does.step (jtagInstruction_does ..))
    | decide | intro _ _ _ | intro _ _ | split | dsimp only)

end Sys2Proof.Machine
end

