-- ==== Sys2Proof/WellFormed.lean ====
section
/-!
DEFINITION. Which commands the outside can send: sizes that a bus request or a message can have (R32, R196, R262, R345), and registers that have
what the row is about. The machine has a meaning for ill-formed commands too.
-/
namespace Sys2Proof
open Sys2Proof.Machine

/-- A register stands at a BAR0 offset and has a field of some kind. -/
def hasField (off : Nat) (p : Field → Bool) : Bool :=
  match regAt off with
  | some (r, _, _) => r.fields.any p
  | none => false

/-- A command that the outside can send. -/
def Instr.wellFormed : Instr → Bool
  | .courseTick _ => true
  | .orbitStart => true
  | .orbitStartRx _ => true
  | .quoSignalDetect _ => true
  | .quoAlignCountDone _ => true
  | .quoLossOfSignal _ => true
  | .quoFramingLoss _ => true
  | .syncTimeout _ => true
  | .announceTimeout _ => true
  | .timeFreqRange _ => true
  | .domainBtCountTimeout _ => true
  | .ieee1588Sync _ msg => decide (msg.origin.ns.toNat < 1000000000)
  | .ieee1588FollowUp _ msg => decide (msg.origin.ns.toNat < 1000000000)
  | .ieee1588DelayResp _ msg => decide (msg.received.ns.toNat < 1000000000)
  | .ieee1588Announce _ _ => true
  | .domainBtCount _ _ _ => true
  | .timeMsgBad _ => true
  | .delayReqSend _ _ => true
  | .acquireComplete => true
  | .timeHoldExpired => true
  | .slewComplete => true
  | .quoTxSend _ _ => true
  | .quoTxDone _ => true
  | .quoTxqPop _ _ => true
  | .dlAdvanceSlewDone _ => true
  | .downlinkFrame _ => true
  | .restartRequestDue _ => true
  | .bedDlFcSend _ _ _ => true
  | .dlPllUnlock _ => true
  | .dlPllRelock _ => true
  | .laneEnableWrite _ _ _ => true
  | .laneSignalDetect _ => true
  | .laneTrainDone _ => true
  | .laneTrainTimeout _ => true
  | .laneExchangeTimeout _ => true
  | .laneSyncAcquired _ => true
  | .exchangeBlockRx _ _ _ => true
  | .laneLossOfSignal _ => true
  | .laneCdrUnlock _ => true
  | .laneSyncLoss _ => true
  | .retrainCountReset => true
  | .laneCodeError _ => true
  | .echoReceived _ round _ => decide (round < 64)
  | .burirDataFrame _ _ _ _ => true
  | .spanTimeout _ => true
  | .configResponseFrame _ _ => true
  | .partnerCfgTimeout _ => true
  | .ashlarHit _ _ => true
  | .engineSyncDone _ => true
  | .migrationDrainEnd _ => true
  | .prevBusyEnd _ => true
  | .molusCourseStart _ => true
  | .molusBlockDone _ _ _ => true
  | .molusDeadline _ => true
  | .stoneWriteDone => true
  | .stoneClose => true
  | .indexPublish => true
  | .indexRewrite _ => true
  | .quarryRead _ => true
  | .pinSpaceFreed => true
  | .hostWindowRead _ offset length _ => decide (0 < length ∧ length ≤ 4096 ∧ offset.toNat + length ≤ 2 ^ 32)
  | .hostWindowWrite _ offset data => decide (data ≠ [] ∧ data.length ≤ 512 ∧ offset.toNat + data.length ≤ 2 ^ 32)
  | .qryFind _ _ => true
  | .qryFindDone _ => true
  | .hbmScrubGranule _ _ _ _ => true
  | .sramScrubBlock _ => true
  | .tableRestore _ => true
  | .sramReadError _ _ _ _ _ => true
  | .hbmReadError _ _ _ _ => true
  | .memInjectArm _ _ => true
  | .btrInjectArm _ _ => true
  | .accept _ body => decide (body.length ≤ 250)
  | .recallMessage _ body => decide (body.length ≤ 250)
  | .recallPieceSubmit _ => true
  | .extractionDone _ _ _ => true
  | .fragmentComplete _ _ => true
  | .recordRelease _ _ => true
  | .cellWait _ _ => true
  | .headWaitExpiry _ => true
  | .mrtCellUncorr _ _ _ _ _ => true
  | .flush _ _ => true
  | .resync _ _ => true
  | .mrtUnitOut _ => true
  | .lintelGroupClose _ => true
  | .lintelFrameSend => true
  | .credit _ message => decide (dfld message 63 60 = 1)
  | .init _ message => decide (dfld message 63 60 = 2)
  | .uplCreditBad _ message => decide (creditGood message = false)
  | .rlSyncLost _ => true
  | .rlSyncGained _ => true
  | .initRequestSend _ => true
  | .recordBlockSent _ => true
  | .uplPllUnlock _ => true
  | .uplRefHold _ => true
  | .uplLinkEnableWrite _ _ _ => true
  | .streamMapWrite _ _ _ => true
  | .faultReport _ => true
  | .faultLog => true
  | .shadowClose => true
  | .quietRecovery _ => true
  | .fltAck _ _ => true
  | .fltAckUpto _ _ => true
  | .fltDpCtl _ _ => true
  | .fltSnapSeq _ _ => true
  | .fltSnapSrc _ _ => true
  | .snapshotSelect _ bank _ => decide (bank ≠ .flt)
  | .snapshotCapture _ _ => true
  | .sqcClearWrite _ offset _ => decide (hasField offset.toNat (fun f => f.acc == .sqc) = true)
  | .cntClr _ offset _ => decide (hasField offset.toNat (fun f => f.name == "CNT_CLR" || f.name == "CLR") = true)
  | .registerWrite _ offset _ => decide (offset.toNat % 4 = 0)
  | .badAccess access => decide (access.dwords.toNat ≤ 1024 ∧ (access.bits = true → access.offset.toNat < 0x800000))
  | .hstOwnerWrite _ _ => true
  | .onceWrite _ _ _ => true
  | .bitAliasWrite _ offset _ => decide (offset.toNat % 4 = 0)
  | .msixMessage _ _ => true
  | .irqHoldoffExpiry _ _ => true
  | .perstAssert _ => true
  | .perstRelease _ => true
  | .hstFlr _ => true
  | .hstLinkDown _ _ => true
  | .hstLinkUp _ width speed => decide (((width : Nat) = 1 ∨ (width : Nat) = 2 ∨ (width : Nat) = 4) ∧ 1 ≤ (speed : Nat))
  | .hstAerUncorr _ _ _ => true
  | .aerCorr _ => true
  | .ldgMbSubmit _ _ _ => true
  | .ldgMbAck _ _ _ => true
  | .responsePlaced _ => true
  | .ldgOvertime _ _ => true
  | .unknownOpcode _ => true
  | .powerSet _ => true
  | .powerQuery _ => true
  | .partnerBind _ => true
  | .partnerConfig _ => true
  | .laneTrain _ => true
  | .delayMeasure _ => true
  | .calLoad _ => true
  | .walkLoad _ => true
  | .calSwap _ => true
  | .timeDomainSelect _ => true
  | .engineMigrate _ => true
  | .streamMove _ => true
  | .quarryExport _ _ => true
  | .recallHost _ _ => true
  | .decompressCheck _ _ => true
  | .retireAdd _ => true
  | .retireList _ => true
  | .scrubSet _ => true
  | .gaugeSelfcal _ readings => decide (readings.length = 21 ∧ readings.all (fun r => r.length == 4) = true)
  | .plbRead _ => true
  | .cnsRead _ => true
  | .cnsClear _ => true
  | .faultAckBulk _ => true
  | .diagLoop _ _ => true
  | .conversionEnd _ _ => true
  | .multiplexerStep _ => true
  | .burnoutCheck _ _ => true
  | .gauAlignStart => true
  | .gauOpen _ => true
  | .gauOpenClear _ => true
  | .gauExcFault _ => true
  | .excRetry _ _ => true
  | .blankEdge _ _ => true
  | .gauOutputPeriod _ readback => decide (readback.high ≤ readback.period)
  | .gauChannelConfigWrite _ _ _ => true
  | .domainChangeDone _ => true
  | .pwrDomainFail _ _ _ _ => true
  | .pwrInputRange _ => true
  | .pwrTempHigh _ _ => true
  | .pwrRailFault _ _ => true
  | .pwrMeasureUpdate _ _ _ temps rails => decide (temps.length = 17 ∧ rails.length = 12)
  | .protectiveTrip _ _ dies _ => decide (dies.length = 16)
  | .tripLatchClear => true
  | .inputValid => true
  | .foundRstAssert => true
  | .foundationResetDone _ => true
  | .plbChange _ _ => true
  | .arm _ => true
  | .disarm _ => true
  | .fire _ => true
  | .plbArmEdge => true
  | .plbFireEdge => true
  | .plbFireRelease => true
  | .plbPostDone => true
  | .cnsEventWrite _ => true
  | .jtagInstruction _ => true
  | .uplPllLock _ => true
  | .pcieConfigWrite _ _ _ _ => true
  | .integrationStart _ => true
  | .rlCodeError _ => true

end Sys2Proof
end

