-- ==== Sys2Proof/Tests/Slice0.lean ====
section
/-!
SUPPORT. Tests on worked cases of the spec, terms that the checks of WellFormed refuse, and states that meet the hypotheses of the statements.
-/
namespace Sys2Proof.Tests
set_option Elab.async false
open Sys2Proof Sys2Proof.Machine

/-! ### Small states -/

/-- Course, BT and core cycle of a state. -/
def at_ (course bt cycle : Nat) (s : State) : State :=
  { s with btr := { s.btr with course := .of (BitVec.ofNat 56 course), pos := .of (BitVec.ofNat 11 (bt * 32 + cycle)) } }

/-- Domains that are ON besides the host ports. -/
def withOn (ds : List Nat) (s : State) : State :=
  { s with pwr := { s.pwr with domains := ds.foldl (fun m n => smInsert m n ⟨.on, none, false⟩) s.pwr.domains } }

/-- The state that a command leaves. -/
def after (c : Instr) (s : State) : State := match exec c s with | .next t => t | _ => s

/-- A command answers a next state. -/
def answers (c : Instr) (s : State) : Bool := match exec c s with | .next _ => true | _ => false

/-- Both links in L0. -/
def linkedUp : State := { State.reset with port0 := { HostPort.reset with l0 := true }, port1 := { HostPort.reset with l0 := true } }

/-! ### Terms that are not well formed -/

theorem test_wf_sync : Instr.wellFormed (.ieee1588Sync 0 ⟨0, 0, false, ⟨0, 1000000000, 0⟩, 0, ⟨0, 0, 0⟩⟩) = false := by decide +kernel
theorem test_wf_followup : Instr.wellFormed (.ieee1588FollowUp 0 ⟨0, 0, ⟨0, 1000000000, 0⟩, 0⟩) = false := by decide +kernel
theorem test_wf_delay_resp : Instr.wellFormed (.ieee1588DelayResp 0 ⟨0, 0, true, ⟨0, 1000000000, 0⟩, 0⟩) = false := by decide +kernel
theorem test_wf_echo : Instr.wellFormed (.echoReceived 0 64 0) = false := by decide +kernel
theorem test_wf_window_read : Instr.wellFormed (.hostWindowRead 0 0xFFFFFFFF 2 []) = false := by decide +kernel
theorem test_wf_window_write : Instr.wellFormed (.hostWindowWrite 0 0 []) = false := by decide +kernel
theorem test_wf_accept : Instr.wellFormed (.accept 0 (List.replicate 251 0)) = false := by decide +kernel
theorem test_wf_recall : Instr.wellFormed (.recallMessage 0 (List.replicate 251 0)) = false := by decide +kernel
theorem test_wf_credit : Instr.wellFormed (.credit 0 0x2000000000000000) = false := by decide +kernel
theorem test_wf_init : Instr.wellFormed (.init 0 0x1000000000000000) = false := by decide +kernel
theorem test_wf_snapshot : Instr.wellFormed (.snapshotSelect 0 .flt 0) = false := by decide +kernel
theorem test_wf_sqc : Instr.wellFormed (.sqcClearWrite 0 0x10000 0) = false := by decide +kernel
theorem test_wf_cnt_clr : Instr.wellFormed (.cntClr 0 0x10000 0) = false := by decide +kernel
theorem test_wf_write : Instr.wellFormed (.registerWrite 0 2 0) = false := by decide +kernel
theorem test_wf_alias : Instr.wellFormed (.bitAliasWrite 0 2 0) = false := by decide +kernel
theorem test_wf_link_up : Instr.wellFormed (.hstLinkUp 0 3 1) = false := by decide +kernel
theorem test_wf_measure : Instr.wellFormed (.pwrMeasureUpdate 0 0 0 (List.replicate 17 0) []) = false := by decide +kernel
theorem test_wf_trip : Instr.wellFormed (.protectiveTrip .dieTemperature 0 [] 0) = false := by decide +kernel
theorem test_wf_readback : Instr.wellFormed (.gauOutputPeriod 0 ⟨2, 1, 2⟩) = false := by decide +kernel
theorem test_wf_bad_access : Instr.wellFormed (.badAccess ⟨0, true, 0x800000, true, 1⟩) = false := by decide +kernel
theorem test_wf_selfcal : Instr.wellFormed (.gaugeSelfcal 0 []) = false := by decide +kernel

/-! ### Worked cases of the spec -/

/-- R105: the CRC-8 over the ASCII digits 1 to 9. -/
theorem test_crc8 : crc8 [0x31, 0x32, 0x33, 0x34, 0x35, 0x36, 0x37, 0x38, 0x39] = 0xF4 := by decide +kernel

/-- "Decoding a one-hit frame": the parity of data 0, and a word with one bit of it changed. -/
theorem test_hit_parity : parityGood 0x48D166A75C04 = true ∧ parityGood 0x48D166A75C05 = false := by decide +kernel

/-- "Decoding a one-hit frame": the span start. -/
theorem test_span_start : stampDistance 576032820 0x9010 = 36 ∧ spanStart 576032820 0x9010 = 576032784 := by decide +kernel

/-- "Decoding a one-hit frame": the fields of the hit. -/
theorem test_hit_fields : mkHit { State.reset with partners := [(11, { Partner.reset with binding := some ⟨42, 1, 0, 0, true⟩ })] }
      42 11 576032784 0x48D166A75C04 none =
    ⟨11, 5, 42, 74565, 576032793, 679, 92, false, false, none, true, none, ⟨0, 0⟩, 0⟩ := by decide +kernel

/-- "One flip and two flips in a table block". -/
theorem test_check_bits : checkBits 0x2D2345664635C02A = 0x69B4 := by decide +kernel
theorem test_one_flip : readOutcome (0x2D2345664635C02A ^^^ (1 <<< 21)) 0x69B4 = .corrected 0x2D2345664635C02A 0x0420 := by decide +kernel
theorem test_two_flips : readOutcome (0x2D2345664635C02A ^^^ (1 <<< 21) ^^^ (1 <<< 18)) 0x69B4 = .uncorrectable := by decide +kernel

/-- The machine of "Three hits of partner 11", at BT 52 of course N, with one hit in the queue of slot 1's engine. -/
def threeHits (x : HitItem) : State :=
  let s := at_ 9000512 52 0 (withOn [5] State.reset)
  let s := setCell .ashPregion 11 0 (mkFld 13 8 4 ||| mkFld 4 0 14) s
  let s := writeTblock 5 (74565 / 4) (BitVec.ofNat 64 (1234 * 2 ^ 16 + 65036 * 2 ^ 32)) s
  let s := writeTblock 5 (ofsBlocks + (8 * 256 + 92) / 4) 312 s
  let s := writeTblock 5 (ofsBlocks + (8 * 256 + 32) / 4) 1020 s
  let s := writeTblock 5 (ofsBlocks + (8 * 256 + 162) / 4) (BitVec.ofNat 64 (40 * 2 ^ 32)) s
  let s := setCell .ashWaveCfg 0 0 (mkFld 11 4 8 ||| mkFld 3 0 8) s
  { s with
    partners := [(11, { Partner.reset with binding := some ⟨42, 1, 0, 0, true⟩, delayCal := true })]
    quo := { s.quo with clocks := [(11, { PartnerClock.reset with delays := [⟨0, 3, 0⟩] })] }
    ash := { s.ash with engines := [(1, ⟨.active, [x], 0⟩)] }
    ring := { s.ring with quarters := [(0, ⟨true, 0, [], 0, []⟩)] } }

/-- Its first hit, its second and the waveform group. -/
def hit1 : HitItem := ⟨11, 5, 42, 74565, 576032793, 679, 92, false, false, none, true, none, ⟨9000512, 1248⟩, 1⟩
def hit2 : HitItem := ⟨11, 5, 42, 74565, 576032832, 40, 32, false, false, none, true, none, ⟨9000512, 1248⟩, 1⟩
def hit3 : HitItem := ⟨11, 5, 42, 74566, 576032780, 0, 0, false, false,
  some (3, 10, [10, 10, 11, 10, 14, 40, 96, 150, 172, 160, 140, 120, 100, 80, 50, 26]), true, none, ⟨9000512, 1248⟩, 1⟩

/-- "Three hits of partner 11": the records, in slots 25, 63 and 12 of course N; the move is counted. -/
theorem test_hit_record : bucket (after (.ashlarHit 1 true) (threeHits hit1)) 9000512 5 25 = [⟨0x2D2345664635C02A, []⟩] := by decide +kernel
theorem test_hit_moves_back : bucket (after (.ashlarHit 1 true) (threeHits hit2)) 9000512 5 63 = [⟨0x2D2345FF9AF2002A, []⟩] ∧
    fld (cell (after (.ashlarHit 1 true) (threeHits hit2)) .ashCntShift 1) 31 16 = 1 := by decide +kernel
theorem test_wave_record : bucket (after (.ashlarHit 1 true) (threeHits hit3)) 9000512 5 12 = [⟨0x2D23463256DA242A, []⟩] := by decide +kernel

/-- The five records of "A sparse block stays raw", by slot. -/
def sparseSlots : List (List RingEntry) :=
  (List.range 64).map fun b =>
    if b = 12 then [⟨0x2D23463256DA242A, []⟩]
    else if b = 25 then [⟨0x2D2349664725802B, []⟩, ⟨0x2D235A664555A02A, []⟩, ⟨0x2D2345664635C02A, []⟩]
    else if b = 63 then [⟨0x2D2345FF9AF2002A, []⟩] else []

/-- Its raw form. -/
def sparseBlock : List DWord := rawBlock 9000512 5 2 true (sparseSlots.map sortSlot).flatten

/-- "A sparse block stays raw": 9 words, RAW_CAUSE 2, the header words, the body in block order, the length in the trailer. -/
theorem test_raw_block : sparseBlock.take 8 = [0x0000000089564005, 0x1A80000100050005, 0x2D23463256DA242A, 0x2D2345664635C02A,
      0x2D2349664725802B, 0x2D235A664555A02A, 0x2D2345FF9AF2002A, 0] ∧
    sparseBlock.length = 9 ∧
    (sparseBlock.getD 8 0).toNat / 2 ^ 32 = 9 := by decide +kernel
/-- "A sparse block stays raw": the coded slot 25 has 164 bits and this first word. -/
theorem test_coded_slot : (encodeSlot (sortSlot (sparseSlots.getD 25 [])) .start).length = 164 ∧
    (packWords 3 (encodeSlot (sortSlot (sparseSlots.getD 25 [])) .start)).headD 0 = 0x2D2345C8C6DC04A8 := by decide +kernel
/-- R162, R163: what the coder codes the decoder reads, in slot 25. -/
theorem test_coded_decodes : decodeSlot 25 3 0 .start (encodeSlot (sortSlot (sparseSlots.getD 25 [])) .start) =
    some (sortSlot (sparseSlots.getD 25 [])) := by decide +kernel
/-- R164: a raw block decodes to its records. -/
theorem test_raw_decodes : (decodeBlock sparseBlock).map (·.map (·.record)) =
    some [0x2D23463256DA242A, 0x2D2345664635C02A, 0x2D2349664725802B, 0x2D235A664555A02A, 0x2D2345FF9AF2002A] := by decide +kernel
/-- "Locating a block and keeping it readable": the entry's address and GROUP[5]. -/
theorem test_entry_address : entryQa 9000512 = 0x0B12AC8000 := by decide +kernel
theorem test_group_word : groupDesc ⟨9000512, [(11, 5)], [0], true⟩ [] [⟨5, 3210997, 505, 9, true, 5⟩] 5 = 0x30FEF5FC800480C0 := by decide +kernel

/-- "One partner in each mode": F. -/
theorem test_flight : flight (64 * 461786) 65536 1200 = 197525 := by decide +kernel

/-- "Decoding two addresses". -/
theorem test_address_link_event : regAt 0x691068 = some (.uplLinkEvt, 11, 0) := by decide +kernel
theorem test_address_submit : regAt (4 * (0x20D000 / 128)) = some (.ldgMbSubmit, 5, 0) := by decide +kernel
/-- "An atomic window change shared by two hosts": CFG_LOCK through the alias window sets the lock and leaves the rest of FLT_CTL. -/
theorem test_alias_cfg_lock : (after (.bitAliasWrite 0 0x400060 1) linkedUp).btr.cfgLock.val = 1 ∧
    (after (.bitAliasWrite 0 0x400060 1) linkedUp).regs = linkedUp.regs := by decide +kernel
/-- The same case: a clear with an old sequence number clears nothing, one with the current number clears all. -/
theorem test_sqc_old : cell (after (.sqcClearWrite 0 0x20 0x42) (setCell .hstEvt 0 0 0x00300043 linkedUp)) .hstEvt = 0x00300043 ∧
    regOff .hstEvt = 0x20 := by decide +kernel
theorem test_sqc_current : cell (after (.sqcClearWrite 0 0x20 0x43) (setCell .hstEvt 0 0 0x00300043 linkedUp)) .hstEvt = 0x00000043 := by decide +kernel

/-- "A 4-wire sensor loses a lead": converter 16 on channel 17, RES4_SENSE at gain 16, unsigned. -/
def fourWire (held : Bool) (settle : Nat) : State :=
  let s := withOn [76, 77] State.reset
  let s := setCell .gauCtl 0 0 1 s
  let s := setCell .gauChCfg 17 0 (mkFld 2 0 3 ||| mkFld 17 16 2 ||| mkFld 19 19 1 ||| mkFld 23 20 2) s
  let s := setCell .gauChCfg 16 0 (mkFld 2 0 5 ||| mkFld 11 8 3) s
  let s := setCell .gauOutCfg 3 0 (mkFld 31 31 1 ||| mkFld 29 29 1 ||| mkFld 22 16 17) s
  let s := setCell .gauOutLo 3 0 0xA3D70A (setCell .gauOutHi 3 0 0xE2EB1C s)
  { s with
    quo := { s.quo with xoOk := true, worst := 0 }
    gau := { s.gau with
      convs := [(16, { GauConv.reset with connected := some 17, run := some ⟨17, chCfg s 17, 0, false, true, 0, 2 ^ 30, true, false, false, true⟩ })]
      chans := [(16, { GauChan.reset with held := held, act := chCfg s 16 }), (17, { GauChan.reset with settleLeft := settle, act := chCfg s 17 })] } }

/-- The reading of 109.73 mV over 2.5 V, in 2⁻⁴⁸ V. -/
def fourWireReading : GauReading := ⟨30886249194460, 0, 2000000, none⟩

/-- A read-back that agrees with 30.2% of the period, and one with a missing edge. -/
def reads302 : GauReadback := ⟨302, 1000, 2⟩
def noEdge : GauReadback := ⟨302, 1000, 1⟩

/-- The result 0xB3C8_1900, and with the lead broken OPEN on the positive clamp, with SETTLE after a step. -/
theorem test_gauge_result : cell (after (.conversionEnd 16 fourWireReading) (fourWire false 0)) .gauRes 17 = 0xB3C81900 := by decide +kernel
theorem test_gauge_open : cell (after (.conversionEnd 16 fourWireReading) (fourWire true 1)) .gauRes 17 = 0xFFFFFFA0 ∧
    cell (after (.conversionEnd 16 fourWireReading) (fourWire true 0)) .gauRes 17 = 0xFFFFFF20 := by decide +kernel
/-- The output: 302 permille with the result, 980 with OPEN. -/
theorem test_output_scaled : (gauOut (after (.gauOutputPeriod 3 reads302) (after (.conversionEnd 16 fourWireReading) (fourWire false 0))) 3).duty = 302 := by
  decide +kernel
theorem test_output_open : gauOut (after (.gauOutputPeriod 3 reads302) (after (.conversionEnd 16 fourWireReading) (fourWire true 0))) 3 =
    ⟨false, false, false, true, 1, 980, 0⟩ := by decide +kernel

/-- "Two devices and one crossing": BACK and word 1 of the FIRE record. -/
theorem test_back : backOf 0 (cyclesTag 20160000) 0xB3C819 0xB42148 0xB40000 = 7523245 := by decide +kernel
theorem test_fire_word : (fireRecord 0 0x10 7523245 true).word = 0x031001000072CBAD := by decide +kernel

/-- "An engine fault, a cascade and an unrelated escalation": word 1 of the entries 501 to 505. -/
theorem test_fault_words : ([(0x0A0, 3, 3, false, false, false, true), (0x0A1, 3, 2, true, false, false, false), (0x080, 42, 1, false, false, false, true),
      (0x080, 100, 2, false, true, false, false), (0x0A1, 3, 2, false, false, true, true)] : List (Nat × Nat × Nat × Bool × Bool × Bool × Bool)).map
      (fun (n, i, level, conseq, esc, res, first) =>
        (logWords ⟨0, ⟨n, i, [], 0, 0, ⟨0, 0⟩, ⟨0, 0, 0⟩, 0, .none, false⟩, level, conseq, esc, res, false, first, 0, []⟩).getD 1 0) =
    [0x0A003610, 0x0A103508, 0x0802A218, 0x08064488, 0x0A103458] := by decide +kernel

/-- A ball of R458 by its rules, and the number of clock domains that R473 gives. -/
theorem test_ball : ballSignal 39 41 = .bedRx 42 false ∧ ballSignal 39 42 = .bedRx 42 true ∧ ballSignal 19 30 = .ground := by decide +kernel
theorem test_clock_domains : (clockClasses.map (·.2)).sum = 427 := by decide +kernel

/-! ### Meeting the hypotheses: what a check of a concrete state says of it -/

/-- What holds of the default and of every listed value holds of every read. -/
theorem smGet_all {α : Type} {P : Nat → α → Prop} {d : α} (hd : ∀ k, P k d) :
    ∀ (m : SMap α), (∀ e ∈ m, P e.1 e.2) → ∀ k, P k (smGet d m k) := by
  intro m
  induction m with
  | nil => intro _ k; exact hd k
  | cons e t ih =>
    intro h k
    have h1 := h e List.mem_cons_self
    have h2 := ih (fun x hx => h x (List.mem_cons_of_mem e hx)) k
    simp only [smGet, smFind] at h2 ⊢
    split
    · rename_i hk; subst hk; exact h1
    · exact h2

/-- Every sparse table of a state in order. -/
def risesAll (s : State) : Bool :=
  [smRisesFrom none s.btr.cb, smRisesFrom none s.regs, smRisesFrom none s.flt.srcs,
    smRisesFrom none s.port0.msixTable, smRisesFrom none s.port0.vectors, smRisesFrom none s.port0.banks,
    smRisesFrom none s.port1.msixTable, smRisesFrom none s.port1.vectors, smRisesFrom none s.port1.banks,
    smRisesFrom none s.pwr.domains, smRisesFrom none s.lanes, smRisesFrom none s.downlinks, smRisesFrom none s.partners,
    smRisesFrom none s.groups, smRisesFrom none s.ash.engines, smRisesFrom none s.ring.buckets, smRisesFrom none s.ring.quarters,
    smRisesFrom none s.ring.coders, smRisesFrom none s.qry.rewritten, smRisesFrom none s.hbm.badMarks, smRisesFrom none s.mem.restoreFailed,
    smRisesFrom none s.mem.hbmCorr, smRisesFrom none s.mem.ecc, smRisesFrom none s.streams, smRisesFrom none s.uplinks, smRisesFrom none s.uplGroups,
    smRisesFrom none s.retLanes, smRisesFrom none s.lnt.groups, smRisesFrom none s.lnt.tapBase, smRisesFrom none s.ldg.boxes, smRisesFrom none s.gau.convs,
    smRisesFrom none s.gau.chans, smRisesFrom none s.gau.outs, smRisesFrom none s.plb.slots].all id

theorem rises_ok {s : State} (h : risesAll s = true) : TablesRise s := by
  simp only [risesAll, List.all_cons, List.all_nil, Bool.and_true, Bool.and_eq_true, id] at h
  obtain ⟨h1, h2, h3, h4, h5, h6, h7, h8, h9, h10, h11, h12, h13, h14, h15, h16, h17, h18, h19, h20, h21, h22, h23, h24, h25, h26, h27, h28, h29,
    h30, h31, h32, h33, h34⟩ := h
  exact ⟨h1, h2, h3, ⟨h4, h5, h6⟩, ⟨h7, h8, h9⟩, h10, h11, h12, h13, h14, h15, ⟨h16, h17, h18⟩, h19, h20, ⟨h21, h22, h23⟩, h24, h25, h26, h27, ⟨h28, h29⟩, h30,
    ⟨h31, h32, h33⟩, h34⟩

/-- Every name of a state in its range. -/
def namesAll (s : State) : Bool :=
  s.partners.all (fun e => match e.2.binding with | some b => decide (e.1 < 64 ∧ b.firstLane + b.lanesM1 < 256) | none => true) &&
  s.bindPending.all (fun x => decide (x.partner < 64) && (match x.entry with | some b => decide (b.firstLane + b.lanesM1 < 256) | none => true)) &&
  s.lanes.all (fun e => match e.2.partner with | some p => decide (e.1 < 256 ∧ p < 64) | none => true) &&
  s.ash.slots.all (fun e => decide (e < 9)) && s.ash.migrations.all (fun m => decide (m.former < 9 ∧ m.to_ < 9)) &&
  s.mrt.table.all (fun e => decide (e.id < s.mrt.nextId)) &&
  s.gau.convs.all (fun e => (match e.2.connected with | some c => decide (c ∈ convChans e.1) | none => true) &&
    (match e.2.run with | some x => decide (x.channel ∈ convChans e.1) | none => true))

theorem names_ok {s : State} (h : namesAll s = true) : NamesInRange s := by
  simp only [namesAll, Bool.and_eq_true, List.all_eq_true, decide_eq_true_eq] at h
  obtain ⟨⟨⟨⟨⟨⟨h1, h2⟩, h3⟩, h4⟩, h5⟩, h6⟩, h7⟩ := h
  refine ⟨?_, ?_, ?_, h4, h5, h6, ?_⟩
  · refine smGet_all (P := fun p x => ∀ b, x.binding = some b → p < 64 ∧ b.firstLane + b.lanesM1 < 256) ?_ s.partners ?_
    · intro k b hb; simp [Partner.reset] at hb
    · intro e he b hb; have := h1 e he; rw [hb] at this; simpa using this
  · intro x hx
    refine ⟨(h2 x hx).1, fun b hb => ?_⟩
    have := (h2 x hx).2; rw [hb] at this; simpa using this
  · refine smGet_all (P := fun l x => ∀ p, x.partner = some p → l < 256 ∧ p < 64) ?_ s.lanes ?_
    · intro k b hb; simp [Lane.reset] at hb
    · intro e he b hb; have := h3 e he; rw [hb] at this; simpa using this
  · refine smGet_all (P := fun k x => (∀ c, x.connected = some c → c ∈ convChans k) ∧ ∀ y, x.run = some y → y.channel ∈ convChans k) ?_ s.gau.convs ?_
    · intro k; simp [GauConv.reset]
    · intro e he
      refine ⟨fun c hc => ?_, fun y hy => ?_⟩
      · have := (h7 e he).1; rw [hc] at this; simpa using this
      · have := (h7 e he).2; rw [hy] at this; simpa using this

theorem wf_ok {s : State} (h : (Memory.wf s.hbm.bytes && smWf false s.hbm.written && smWf SramBlock.blank s.sram) = true) : MemoryWf s := by
  simp only [Bool.and_eq_true] at h; exact ⟨h.1.1, h.1.2, h.2⟩

theorem may_ok {p : Nat} {r : Reg} {i j : Nat} {w : Word} {s : State}
    (h : (isUp s && linked p s && mayWrite s p (regOff r i j) && !keepChanged r i w) = true) : HostMay p r i j w s := by
  simp only [Bool.and_eq_true, Bool.not_eq_true'] at h; exact ⟨h.1.1.1, h.1.1.2, h.1.2, h.2⟩

theorem ready_ok {m op : Nat} {x : LdgCmd} {s : State}
    (h : decide (isUp s = true ∧ (mailbox s m).run = none ∧ startable s m = some x ∧ x.opcode = op ∧ unusedZero x = true ∧ notOwner s m op = false ∧
      risesAll s = true) = true) : Ready m op x s := by
  obtain ⟨h1, h2, h3, h4, h5, h6, h7⟩ := of_decide_eq_true h
  exact ⟨h1, h2, h3, h4, h5, h6, rises_ok h7⟩

theorem caps_ok {s : State} (h : decide (s.flt.log.length ≤ 1024 ∧ s.quo.txq.length ≤ 16 ∧ s.mem.restore.length ≤ 128 ∧ s.plb.queue.length ≤ 256 ∧
    s.cns.FailedFit ∧ s.hbm.retired.length ≤ 4096) = true) : Capacities s := by
  obtain ⟨h1, h2, h3, h4, h5, h6⟩ := of_decide_eq_true h
  exact ⟨h1, h2, h3, h4, h5, h6⟩

/-- Where no block of a memory has been damaged, every block is as its last write left it. -/
theorem asWritten_ok {m i : Nat} {s : State} (h : s.mem.ecc = []) : AsWritten m i s := fun _ => by rw [eccBlock, h]; rfl

theorem asWritten_all {m : Nat} {s : State} (h : s.mem.ecc = []) : ∀ i < 4, AsWritten m i s := fun _ _ => asWritten_ok h

/-- Both ports in L0, every power domain ON, in BT 5 of course 100. -/
def full : State :=
  at_ 100 5 3 { linkedUp with pwr := { linkedUp.pwr with domains := (List.range 80).map (fun n => (n, ⟨.on, none, false⟩)) } }

/-- The other port owns the registers. -/
def owned (p : Nat) (s : State) : State := setCell .hstOwner 0 0 (w32 (2 - p)) s
/-! ### States that meet the hypotheses of the statements, clause by clause -/

/-- A machine that has no power after a trip. -/
def tripped : State := { State.reset with pwr := { Power.reset with trip := some .underVoltage } }

/-- No domain LOCKED, signals present: domain `d` in a phase, its receiver aligned. -/
def domIs (d : Fin 2) (ph : DomPhase) (s : State) : State := modDom d (fun x => { x with phase := ph, aligned := true }) s

/-- Vectors 17 and 31 of port 0 with a mask bit, enabled, with MSI-X Enable; a message due. -/
def msix (mask : Word) (_ : Bool) : State :=
  let h := { HostPort.reset with
    l0 := true, bme := true, msixEn := true, msixTable := [(16 * 17 + 12, mask), (16 * 31 + 12, mask)]
    vectors := [(17, ⟨true, false, false⟩), (31, ⟨true, false, false⟩)] }
  setCell .hstIrqEn 0 0 0x80020000 { State.reset with port0 := h, port1 := h }

/-- Domain 1 active and LOCKED with ORBIT_SYNC, `n` BT into the orbit. -/
def orbitSync (seen : Bool) (n : Nat) : State :=
  let s := modDom 1 (fun x => { x with orbitSeen := seen }) (domIs 1 .locked full)
  let s := setCell .quoCtl 0 0 4 { s with quo := { s.quo with active := 1 } }
  { s with btr := { s.btr with orbit := .of (BitVec.ofNat 64 n) } }

/-- Holdover since a course, with a limit of one course. -/
def holding (since : Nat) : State :=
  setCell .quoHoldLimit 0 0 0 { full with quo := { full.quo with servo := .holdover, holdStart := since, holdExpired := false } }
/-- A queue with a command, and one behind it. -/
theorem witness_StepRunsFront :
    (({ State.reset with pending := [.slewComplete, .orbitStart] }).pending = .slewComplete :: [.orbitStart]) := by
  repeat' (with_reducible apply And.intro)
  all_goals (first | exact rises_ok (by decide +kernel) | exact may_ok (by decide +kernel) | exact names_ok (by decide +kernel) | exact wf_ok (by decide +kernel) | exact ready_ok (by decide +kernel) | exact smGet_all (P := fun _ (x : Partner) => x.cfgDone = none) (fun _ => rfl) _ (by decide +kernel) | decide +kernel)


/-- An empty queue with the block off, and with it up at the first core cycle of a course and at the last but one. -/
theorem witness_EmptyQueueIdles :
    (tripped.pending = [] ∧ isUp tripped = false) ∧
    (full.pending = [] ∧ isUp full = true ∧ nowCycle full < 1535 ∧ full.btr.pos.val.toNat % 32 < 24) ∧
    (nowCycle (at_ 0 0 0 linkedUp) = 0 ∧ isUp (at_ 0 0 0 linkedUp) = true ∧ (at_ 0 0 0 linkedUp).btr.pos.val.toNat % 32 < 24) ∧
    (nowCycle (at_ 0 63 22 linkedUp) = 1534 ∧ isUp (at_ 0 63 22 linkedUp) = true ∧ (at_ 0 63 22 linkedUp).btr.pos.val.toNat % 32 < 24) := by
  repeat' (with_reducible apply And.intro)
  all_goals (first | exact rises_ok (by decide +kernel) | exact may_ok (by decide +kernel) | exact names_ok (by decide +kernel) | exact wf_ok (by decide +kernel) | exact ready_ok (by decide +kernel) | exact smGet_all (P := fun _ (x : Partner) => x.cfgDone = none) (fun _ => rfl) _ (by decide +kernel) | decide +kernel)


/-- A machine without power, and a command that needs it. -/
theorem witness_OffMachineIsInert :
    (isUp tripped = false) ∧
    (actsWithoutPower .orbitStart = false) := by
  repeat' (with_reducible apply And.intro)
  all_goals (first | exact rises_ok (by decide +kernel) | exact may_ok (by decide +kernel) | exact names_ok (by decide +kernel) | exact wf_ok (by decide +kernel) | exact ready_ok (by decide +kernel) | exact smGet_all (P := fun _ (x : Partner) => x.cfgDone = none) (fun _ => rfl) _ (by decide +kernel) | decide +kernel)


/-- The first and the last entry of an array. -/
theorem witness_RegisterMapExact :
    (regExists .bedLaneCfg 0 0 = true) ∧
    (regExists .bedLaneCfg 255 0 = true) ∧
    (regExists .ldgCmd 7 15 = true) := by
  repeat' (with_reducible apply And.intro)
  all_goals (first | exact rises_ok (by decide +kernel) | exact may_ok (by decide +kernel) | exact names_ok (by decide +kernel) | exact wf_ok (by decide +kernel) | exact ready_ok (by decide +kernel) | exact smGet_all (P := fun _ (x : Partner) => x.cfgDone = none) (fun _ => rfl) _ (by decide +kernel) | decide +kernel)


/-- A write of QUO_SWITCH_MAX by port 0, and of the last entry of an array by port 1. -/
theorem witness_PlainRegisterWrite :
    (regAt (regOff .quoSwitchMax) = some (.quoSwitchMax, 0, 0)) ∧
    (isMsix (regOff .quoSwitchMax) = false) ∧
    (HostMay 0 .quoSwitchMax 0 0 5 linkedUp) ∧
    (plainReg .quoSwitchMax = true) ∧
    (TablesRise linkedUp) ∧
    ((BitVec.ofNat 24 (regOff .quoSwitchMax)).toNat = regOff .quoSwitchMax) ∧
    (regAt (regOff .plbThr 7) = some (.plbThr, 7, 0) ∧ isMsix (regOff .plbThr 7) = false ∧ plainReg .plbThr = true) ∧
    (HostMay 1 .plbThr 7 0 5 linkedUp) := by
  repeat' (with_reducible apply And.intro)
  all_goals (first | exact rises_ok (by decide +kernel) | exact may_ok (by decide +kernel) | exact names_ok (by decide +kernel) | exact wf_ok (by decide +kernel) | exact ready_ok (by decide +kernel) | exact smGet_all (P := fun _ (x : Partner) => x.cfgDone = none) (fun _ => rfl) _ (by decide +kernel) | decide +kernel)


/-- A write by port 0 of a register that port 1 owns; HST_OWNER free, owned by the writer, owned by an absent port and by a present one. -/
theorem witness_RegisterOwnership :
    (isUp (owned 0 linkedUp) = true ∧ linked 0 (owned 0 linkedUp) = true ∧ mayWrite (owned 0 linkedUp) 0 (regOff .quoSwitchMax) = false) ∧
    (TablesRise (owned 0 linkedUp)) ∧
    (HostMay 0 .hstOwner 0 0 1 linkedUp) ∧
    (owner linkedUp = 0 ∧ fld 1 1 0 ≠ 3 ∧ fld 1 1 0 ≠ owner linkedUp) ∧
    (HostMay 0 .hstOwner 0 0 3 linkedUp) ∧
    (HostMay 1 .hstOwner 0 0 0 (owned 0 linkedUp)) ∧
    (owner (owned 0 linkedUp) = 2 ∧ fld 0 1 0 ≠ 3 ∧ fld 0 1 0 ≠ owner (owned 0 linkedUp)) ∧
    (HostMay 0 .hstOwner 0 0 1 (modDomain 51 (fun x => { x with phase := .off }) (owned 0 linkedUp))) ∧
    (portAbsent (modDomain 51 (fun x => { x with phase := .off }) (owned 0 linkedUp)) 1 = true) ∧
    (HostMay 0 .hstOwner 0 0 1 (owned 0 full)) ∧
    (¬ (owner (owned 0 full) = 0 ∨ owner (owned 0 full) = 0 + 1 ∨ portAbsent (owned 0 full) (owner (owned 0 full) - 1) = true)) := by
  repeat' (with_reducible apply And.intro)
  all_goals (first | exact rises_ok (by decide +kernel) | exact may_ok (by decide +kernel) | exact names_ok (by decide +kernel) | exact wf_ok (by decide +kernel) | exact ready_ok (by decide +kernel) | exact smGet_all (P := fun _ (x : Partner) => x.cfgDone = none) (fun _ => rfl) _ (by decide +kernel) | decide +kernel)


/-- QUO_DOMAIN_SEL, the last Lintel region, and stream maps that may and may not change. -/
theorem witness_CourseBufferedWrite :
    (regAt (regOff .quoDomainSel) = some (.quoDomainSel, 0, 0) ∧ isMsix (regOff .quoDomainSel) = false ∧ regMask .quoDomainSel .sqc = 0) ∧
    (regMask .quoDomainSel .once = 0 ∧ regMask .quoDomainSel .cb ≠ 0 ∧ Reg.quoDomainSel ≠ .uplStreamMap) ∧
    (HostMay 0 .quoDomainSel 0 0 1 linkedUp) ∧
    (regAt (regOff .lntRegion 63) = some (.lntRegion, 63, 0) ∧ isMsix (regOff .lntRegion 63) = false ∧ regMask .lntRegion .cb ≠ 0) ∧
    (HostMay 1 .lntRegion 63 0 0xFFFF linkedUp) ∧
    (TablesRise linkedUp) ∧
    (HostMay 0 .uplStreamMap 47 0 5 linkedUp) ∧
    (mapWritable linkedUp 47 = true) ∧
    (HostMay 0 .uplStreamMap 47 0 5 (modStream 47 (fun x => { x with out := [⟨0, 1, [], 1, .zero, false, 0, [], false, false⟩] }) linkedUp)) ∧
    (mapWritable (modStream 47 (fun x => { x with out := [⟨0, 1, [], 1, .zero, false, 0, [], false, false⟩] }) linkedUp) 47 = false) := by
  repeat' (with_reducible apply And.intro)
  all_goals (first | exact rises_ok (by decide +kernel) | exact may_ok (by decide +kernel) | exact names_ok (by decide +kernel) | exact wf_ok (by decide +kernel) | exact ready_ok (by decide +kernel) | exact smGet_all (P := fun _ (x : Partner) => x.cfgDone = none) (fun _ => rfl) _ (by decide +kernel) | decide +kernel)


/-- An event register with the sequence number that matches and one that does not, and the clear bit of a block. -/
theorem witness_ClearingWrites :
    (regAt (regOff .quoEvt) = some (.quoEvt, 0, 0) ∧ isMsix (regOff .quoEvt) = false ∧ regMask .quoEvt .sqc ≠ 0) ∧
    (HostMay 0 .quoEvt 0 0 0xFFFF linkedUp) ∧
    (HostMay 0 .quoEvt 0 0 0 linkedUp) ∧
    (TablesRise linkedUp) ∧
    (fld (0 : Word) 15 0 = fld (cell linkedUp .quoEvt) 15 0) ∧
    (fld (0xFFFF : Word) 15 0 ≠ fld (cell linkedUp .quoEvt) 15 0) ∧
    (regAt (regOff .bedGrpCtl 31) = some (.bedGrpCtl, 31, 0) ∧ isMsix (regOff .bedGrpCtl 31) = false ∧ clearBit .bedGrpCtl = some 0 ∧ bit 1 0 = true) ∧
    (HostMay 1 .bedGrpCtl 31 0 1 linkedUp) ∧
    (regAt (regOff .memCtl) = some (.memCtl, 0, 0) ∧ isMsix (regOff .memCtl) = false ∧ clearBit .memCtl = some 31 ∧ bit 0x80000000 31 = true) ∧
    (HostMay 1 .memCtl 0 0 0x80000000 linkedUp) := by
  repeat' (with_reducible apply And.intro)
  all_goals (first | exact rises_ok (by decide +kernel) | exact may_ok (by decide +kernel) | exact names_ok (by decide +kernel) | exact wf_ok (by decide +kernel) | exact ready_ok (by decide +kernel) | exact smGet_all (P := fun _ (x : Partner) => x.cfgDone = none) (fun _ => rfl) _ (by decide +kernel) | decide +kernel)


/-- DEVICE_ID and INSTALL_POSITION before and after their first write, and an RW bit of FLT_ACK_SRC. -/
theorem witness_WriteOnceAndAlias :
    (HostMay 0 .hstDeviceId 0 0 0x1234 linkedUp) ∧
    (HostMay 0 .hstInstallPos 0 0 0xFFFFFFFF linkedUp) ∧
    (linkedUp.btr.devIdWritten.val = 0 ∧ linkedUp.btr.posWritten.val = 0) ∧
    (HostMay 1 .hstDeviceId 0 0 0x1234 (after (.onceWrite 0 false 7) linkedUp)) ∧
    ((after (.onceWrite 0 false 7) linkedUp).btr.devIdWritten.val = 1) ∧
    (TablesRise (after (.onceWrite 0 false 7) linkedUp)) ∧
    (HostMay 1 .hstInstallPos 0 0 0 (after (.onceWrite 0 true 7) linkedUp)) ∧
    ((after (.onceWrite 0 true 7) linkedUp).btr.posWritten.val = 1) ∧
    (regAt (regOff .fltAckSrc) = some (.fltAckSrc, 0, 0) ∧ isMsix (regOff .fltAckSrc) = false ∧ plainReg .fltAckSrc = true) ∧
    (bitAccess .fltAckSrc 11 = .rw) ∧
    (isUp linkedUp = true ∧ linked 0 linkedUp = true ∧ mayWrite linkedUp 0 (regOff .fltAckSrc) = true) ∧
    (TablesRise linkedUp) ∧
    (4 * (BitVec.toNat (BitVec.ofNat 23 (32 * regOff .fltAckSrc + 44)) / 128) = regOff .fltAckSrc) := by
  repeat' (with_reducible apply And.intro)
  all_goals (first | exact rises_ok (by decide +kernel) | exact may_ok (by decide +kernel) | exact names_ok (by decide +kernel) | exact wf_ok (by decide +kernel) | exact ready_ok (by decide +kernel) | exact smGet_all (P := fun _ (x : Partner) => x.cfgDone = none) (fun _ => rfl) _ (by decide +kernel) | decide +kernel)


/-- The first and the last bank with a selector, the collector's and the search, and captures under way. -/
theorem witness_SnapshotBanks :
    (regAt (bankSelector .quo) = some (.quoSnapSel, 0, 0) ∧ snapSelector (bankNumber .quo) 5 = some 5) ∧
    (HostMay 0 .quoSnapSel 0 0 5 linkedUp) ∧
    (regAt (bankSelector (.bed 31)) = some (.bedSnapSel, 31, 0) ∧ snapSelector (bankNumber (.bed 31)) 7 = some 7) ∧
    (HostMay 1 .bedSnapSel 31 0 7 linkedUp) ∧
    (HostMay 0 .fltSnapSeq 0 0 1 linkedUp) ∧
    (HostMay 0 .fltSnapSrc 0 0 1 linkedUp) ∧
    (HostMay 0 .qryFindNs 0 0 0 linkedUp) ∧
    (TablesRise (after (.snapshotSelect 0 .quo 5) linkedUp)) ∧
    (isUp (after (.snapshotSelect 0 .quo 5) linkedUp) = true) ∧
    ((snapBank (after (.snapshotSelect 0 .quo 5) linkedUp) 0 (bankNumber .quo)).waiting = some ⟨5, 5, none⟩ ∧ ¬ (BankId.quo = .qry ∧ 5 = 2)) ∧
    (isUp (after (.qryFind 0 0) linkedUp) = true) ∧
    (TablesRise (after (.qryFind 0 0) linkedUp)) ∧
    (((snapBank (after (.qryFind 0 0) linkedUp) 0 4).waiting.map (·.sel)) = some 2) ∧
    (((snapBank (after (.qryFind 0 0) linkedUp) 0 4).waiting.bind (·.data)).isSome = true) := by
  repeat' (with_reducible apply And.intro)
  all_goals (first | exact rises_ok (by decide +kernel) | exact may_ok (by decide +kernel) | exact names_ok (by decide +kernel) | exact wf_ok (by decide +kernel) | exact ready_ok (by decide +kernel) | exact smGet_all (P := fun _ (x : Partner) => x.cfgDone = none) (fun _ => rfl) _ (by decide +kernel) | decide +kernel)


/-- A link in L0, one that may train, and one that is absent but powered. -/
theorem witness_PortLinks :
    (TablesRise full) ∧
    (isUp full = true ∧ linked 0 full = true ∧ linked 1 full = true ∧ domOn full 50 = true ∧ domOn full 51 = true) ∧
    (TablesRise (after (.perstRelease 1) State.reset)) ∧
    (isUp (after (.perstRelease 1) State.reset) = true ∧ linkAble (after (.perstRelease 1) State.reset) 1 = true ∧
      linked 1 (after (.perstRelease 1) State.reset) = false) := by
  repeat' (with_reducible apply And.intro)
  all_goals (first | exact rises_ok (by decide +kernel) | exact may_ok (by decide +kernel) | exact names_ok (by decide +kernel) | exact wf_ok (by decide +kernel) | exact ready_ok (by decide +kernel) | exact smGet_all (P := fun _ (x : Partner) => x.cfgDone = none) (fun _ => rfl) _ (by decide +kernel) | decide +kernel)


/-- Vector 17 enabled with MSI-X Enable set, masked and not masked, and disabled; a message due; a merge time. -/
theorem witness_InterruptMessages :
    (TablesRise (msix 1 true)) ∧
    (TablesRise (msix 0 true)) ∧
    (isUp (msix 1 true) = true ∧ linked 0 (msix 1 true) = true ∧ bit (cell (msix 1 true) .hstIrqEn 0) 17 = true ∧ (hostPort (msix 1 true) 0).msixEn = true) ∧
    (vecMasked (hostPort (msix 1 true) 0) 17 = true ∧ vecMasked (hostPort (msix 0 true) 0) 17 = false) ∧
    (¬ (bit (cell linkedUp .hstIrqEn 0) 17 = true ∧ (hostPort linkedUp 0).msixEn = true)) ∧
    (messageDue (hostPort (msix 0 true) 0) 17 = true) ∧
    (messageDue (hostPort (msix 0 false) 0) 31 = true ∧ isUp (msix 0 false) = true) := by
  repeat' (with_reducible apply And.intro)
  all_goals (first | exact rises_ok (by decide +kernel) | exact may_ok (by decide +kernel) | exact names_ok (by decide +kernel) | exact wf_ok (by decide +kernel) | exact ready_ok (by decide +kernel) | exact smGet_all (P := fun _ (x : Partner) => x.cfgDone = none) (fun _ => rfl) _ (by decide +kernel) | decide +kernel)


/-- A machine at its last core cycle, with HST_CB.HOLD at 0 and at 1; a value that waits and one that does not. -/
theorem witness_CourseTickAdvances :
    (TablesRise full) ∧
    (isUp full = true ∧ bit (cell full .hstCb) 0 = false ∧ (cbReg full .mrtWindow 7).waiting = false) ∧
    (isUp (setCell .hstCb 0 0 1 full) = true ∧ bit (cell (setCell .hstCb 0 0 1 full) .hstCb) 0 = true) ∧
    ((Reg.mrtWindow, 7) ∈ cbOrder ∧ Reg.mrtWindow ≠ .ashCalSel ∧ Reg.mrtWindow ≠ .uplStreamMap) ∧
    ((cbReg (after (.registerWrite 0 (BitVec.ofNat 24 (regOff .mrtWindow 7)) 9) full) .mrtWindow 7).waiting = true) := by
  repeat' (with_reducible apply And.intro)
  all_goals (first | exact rises_ok (by decide +kernel) | exact may_ok (by decide +kernel) | exact names_ok (by decide +kernel) | exact wf_ok (by decide +kernel) | exact ready_ok (by decide +kernel) | exact smGet_all (P := fun _ (x : Partner) => x.cfgDone = none) (fun _ => rfl) _ (by decide +kernel) | decide +kernel)


/-- ORBIT_SYNC with domain 1 active and LOCKED: the first ORBIT_START, a later one, and a later one at an orbit start. -/
theorem witness_OrbitStarts :
    (TablesRise (orbitSync false 7)) ∧
    (isUp (orbitSync false 7) = true ∧ bit (cell (orbitSync false 7) .quoCtl) 2 = true ∧ (orbitSync false 7).quo.active = 1) ∧
    ((qdom (orbitSync false 7) 1).phase = .locked ∧ linkReceives (orbitSync false 7) 1 = true) ∧
    ((qdom (orbitSync false 7) 1).orbitSeen = false ∧ (qdom (orbitSync true 7) 1).orbitSeen = true ∧ nowBtInOrbit (orbitSync true 7) ≠ 0) ∧
    ((qdom (orbitSync true 0) 1).orbitSeen = true ∧ nowBtInOrbit (orbitSync true 0) = 0) ∧
    (nowBtInOrbit (orbitSync true 1024) = (orbitSync true 1024).quo.orbitLen ∧ nowBtInOrbit (orbitSync true 7) < (orbitSync true 7).quo.orbitLen) ∧
    (atOrbitStart (orbitSync true 7) = false ∧ atOrbitStart (orbitSync true 0) = true ∧ atOrbitStart (orbitSync true 1024) = true) ∧
    (TablesRise (orbitSync true 1024)) := by
  repeat' (with_reducible apply And.intro)
  all_goals (first | exact rises_ok (by decide +kernel) | exact may_ok (by decide +kernel) | exact names_ok (by decide +kernel) | exact wf_ok (by decide +kernel) | exact ready_ok (by decide +kernel) | exact smGet_all (P := fun _ (x : Partner) => x.cfgDone = none) (fun _ => rfl) _ (by decide +kernel) | decide +kernel)


/-- Domain 1 in each phase, with the count that is expected and with another, 4,097 BT later. -/
theorem witness_DomainsTrack :
    (TablesRise (domIs 1 .locked full)) ∧
    (isUp full = true ∧ domOn full 49 = true ∧ (qdom (domIs 1 .lost full) 1).phase = .lost ∧ (qdom (domIs 1 .aligning full) 1).phase = .aligning) ∧
    (linkReceives (domIs 1 .aligning full) 1 = true) ∧
    (domTracked (domIs 1 .locked full) 1 = true ∧ domTracked (domIs 0 .tracking full) 0 = true ∧ domTracked (domIs 1 .lost full) 1 = false) ∧
    ((qdom (modDom 1 (fun x => { x with announced := true }) (domIs 1 .locked full)) 1).announced = true) ∧
    ((qdom (modDom 1 (fun x => { x with lastCount := some (2 ^ 64 - 1, 2308) }) (domIs 1 .locked full)) 1).lastCount = some (2 ^ 64 - 1, 2308)) ∧
    (nowGbt full - 2308 = 4097) ∧
    ((2 ^ 64 - 1 + 1) % 2 ^ 64 ≠ (1#64).toNat ∧ linkReceives (domIs 1 .locked full) 1 = true) := by
  repeat' (with_reducible apply And.intro)
  all_goals (first | exact rises_ok (by decide +kernel) | exact may_ok (by decide +kernel) | exact names_ok (by decide +kernel) | exact wf_ok (by decide +kernel) | exact ready_ok (by decide +kernel) | exact smGet_all (P := fun _ (x : Partner) => x.cfgDone = none) (fun _ => rfl) _ (by decide +kernel) | decide +kernel)


/-- A pull on a LOCKED domain, a holdover past its limit, and a partner's clock at its target. -/
theorem witness_ServoMoves :
    (TablesRise full) ∧
    (isUp full = true) ∧
    (({ domIs 0 .locked full with quo := { (domIs 0 .locked full).quo with servo := .acquire } }).quo.servo = .acquire) ∧
    ((qdom { domIs 0 .locked full with quo := { (domIs 0 .locked full).quo with servo := .acquire } } 0).phase = .locked ∧ (domIs 0 .locked full).quo.active = 0) ∧
    ((holding 99).quo.servo = .holdover ∧ (holding 99).quo.holdExpired = false) ∧
    (nowCourse (holding 99) - (holding 99).quo.holdStart > fld (cell (holding 99) .quoHoldLimit) 23 0) ∧
    (TablesRise (holding 99)) ∧
    ((partnerClock full 63).advanceAt (nowGbt full) = (partnerClock full 63).target ∧ smRisesFrom none full.quo.clocks = true) := by
  repeat' (with_reducible apply And.intro)
  all_goals (first | exact rises_ok (by decide +kernel) | exact may_ok (by decide +kernel) | exact names_ok (by decide +kernel) | exact wf_ok (by decide +kernel) | exact ready_ok (by decide +kernel) | exact smGet_all (P := fun _ (x : Partner) => x.cfgDone = none) (fun _ => rfl) _ (by decide +kernel) | decide +kernel)


/-- A capability record with values in range: one lane, 1,000 channels. -/
def goodRecord : BitVec 128 := 0x0000000710000003E80100000A000000

/-- Partner `p` bound to lane `l`, which stands in a phase. -/
def boundTo (p l : Nat) (ph : LanePhase) (s : State) : State :=
  modLane l (fun x => { x with phase := ph, partner := some p, signal := true, cdr := true, sync := true })
    (modPartner p (fun x => { x with binding := some ⟨l, 0, goodRecord, 0, true⟩ }) s)

/-- A state with its Quoin changed. -/
def quo (f : Quoin → Quoin) (s : State) : State := { s with quo := f s.quo }

/-- Domain 1 active, its link receiving, its exchange done, with a Sync that waits for its Follow_Up and a Delay_Req sent. -/
def timed : State :=
  quo (fun q => { q with active := 1 }) (modDom 1 (fun x => { x with
    exchangeDone := true, badSyncs := 2, lastSync := some ⟨1, 0, 0, 0⟩, twoStepWait := some ⟨9, 0, 0, 0⟩, dreqSent := some (8, 0),
    lastCount := some (2405, nowGbt full), offsetValid := true, offset := 0 }) (domIs 1 .locked full))
/-- Messages of the domain number in QUO_DOM_CFG and of another; a third Sync outside the limit; the stamp queue empty and full. -/
theorem witness_TimeMessages :
    (TablesRise timed) ∧
    (isUp timed = true ∧ linkReceives timed 1 = true ∧ ptpForUs timed 1 0 = true ∧ ptpForUs timed 1 0xFF = false ∧ (qdom timed 1).exchangeDone = true) ∧
    ((qdom timed 1).twoStepWait = some ⟨9, 0, 0, 0⟩ ∧ (qdom timed 1).dreqSent = some ((8#16).toNat, 0) ∧ (qdom timed 1).lastSync = some ⟨1, 0, 0, 0⟩) ∧
    ((qdom (after (.ieee1588Sync 1 ⟨0, 1, false, ⟨0, 0, 0⟩, 0, ⟨1000, 0, 0⟩⟩) timed) 1).badSyncs ≥ 3 ∧ domTracked timed 1 = true) ∧
    ((qdom (after (.ieee1588Sync 1 ⟨0, 1, false, ⟨0, 0, 0⟩, 0, ⟨0, 0, 0⟩⟩) timed) 1).badSyncs < 3) ∧
    ((qdom timed 1).lastCount = some (2405, 6405) ∧ (2405 + 4000) % 2 ^ 64 = (6405#64).toNat ∧ (qdom timed 1).phase = .locked ∧ (qdom timed 1).offsetValid = true) ∧
    (6405#64 - BitVec.ofNat 64 (nowGbt timed) = (qdom timed 1).offset) ∧
    (HostMay 0 .quoTxCtl 0 0 0x80000022 timed) ∧
    (bit 0x80000022 31 = true ∧ 34 ≤ fld 0x80000022 6 0 ∧ fld 0x80000022 6 0 ≤ 64) ∧
    (HostMay 1 .quoTxCtl 0 0 0x80000140 timed) ∧
    (bit 0x80000140 31 = true ∧ 34 ≤ fld 0x80000140 6 0 ∧ fld 0x80000140 6 0 ≤ 64) ∧
    ((quo (fun q => { q with tx := some ⟨1, true, []⟩ }) timed).quo.tx = some ⟨1, true, []⟩) ∧
    (timed.quo.txq.length < 16 ∧ bit (cell timed .quoCtl) 3 = false ∧ bit (cell (setCell .quoCtl 0 0 8 timed) .quoCtl) 3 = true) ∧
    (¬ (quo (fun q => { q with txq := List.replicate 16 ⟨0, 0, 0, ⟨0, 0, 0⟩⟩ }) timed).quo.txq.length < 16) ∧
    (HostMay 0 .quoTxqPop 0 0 1 timed) := by
  repeat' (with_reducible apply And.intro)
  all_goals (first | exact rises_ok (by decide +kernel) | exact may_ok (by decide +kernel) | exact names_ok (by decide +kernel) | exact wf_ok (by decide +kernel) | exact ready_ok (by decide +kernel) | exact smGet_all (P := fun _ (x : Partner) => x.cfgDone = none) (fun _ => rfl) _ (by decide +kernel) | decide +kernel)

/-- A report of a source with its own index, at the start of course 100. -/
def report (n i : Nat) (t : Target) : Report := ⟨n, i, [], 0, 0, ⟨100, 0⟩, ⟨0, 0, 0⟩, 0, t, false⟩

/-- A log entry of a source: number, level, acknowledged. -/
def entry (seq n level : Nat) (acked : Bool) : LogEntry := ⟨seq, report n 0 .none, level, false, false, false, acked, false, 0, []⟩

/-- A state with its collector changed. -/
def flt (f : Faults → Faults) (s : State) : State := { s with flt := f s.flt }

/-- A held report of a source of severity `sev`. -/
def heldOf (sev : Nat) : State :=
  flt (fun f => { f with flying := [report 0x080 42 (.bedGroup 5)], held := [report 0x0A0 3 (.engine 3)] }) (setCell .fltSrcCfg 0x0A0 0 (w32 sev) full)

/-- A held report of the list that a shadow over its target covers. -/
def shadowed : State := flt (fun f => { f with held := [report 0x0A1 3 (.engine 3)], shadows := [⟨.target (.engine 3), ⟨99, 0⟩, none⟩] }) full
/-- Only the held report. -/
def heldOnly (sev : Nat) : State := flt (fun f => { f with flying := [] }) (heldOf sev)
/-- A report on its way; the first held report primary at every level, consequential, and with the log full. -/
theorem witness_FaultsAreLogged :
    (isUp (heldOf 3) = true ∧ (heldOf 3).flt.flying[0]? = some (report 0x080 42 (.bedGroup 5))) ∧
    (TablesRise (heldOf 0)) ∧
    (TablesRise (heldOf 4)) ∧
    ((heldOf 3).flt.fullWaiting = none ∧ firstReport (heldOf 3).flt.held = some (report 0x0A0 3 (.engine 3)) ∧ (heldOf 3).flt.log.length < 1024) ∧
    (isConsequential (heldOf 3) (report 0x0A0 3 (.engine 3)) = false) ∧
    (firstReport shadowed.flt.held = some (report 0x0A1 3 (.engine 3)) ∧ isConsequential shadowed (report 0x0A1 3 (.engine 3)) = true) ∧
    (TablesRise shadowed) ∧
    ((List.range 5).map (fun v => actedLevel (heldOf v) 0x0A0) = [0, 1, 2, 3, 4] ∧ actsAsTwo (heldOf 3) (.engine 3) = false) ∧
    ((flt (fun f => { f with log := List.replicate 1024 (entry 1 0x0A0 2 false) }) (heldOf 3)).flt.log.length = 1024) ∧
    (∀ e ∈ (flt (fun f => { f with log := List.replicate 1024 (entry 1 0x0A0 2 false) }) (heldOf 3)).flt.log, e.acked = false ∧ e.level ≠ 0) ∧
    (firstReport ((heldOf 3).flt.held ++ (heldOf 3).flt.flying) = some (report 0x080 42 (.bedGroup 5)) ∧ report 0x080 42 (.bedGroup 5) ∉ (heldOf 3).flt.held) ∧
    (firstReport ((heldOnly 3).flt.held ++ (heldOnly 3).flt.flying) = some (report 0x0A0 3 (.engine 3)) ∧ report 0x0A0 3 (.engine 3) ∈ (heldOnly 3).flt.held) ∧
    (firstReport (shadowed.flt.held ++ shadowed.flt.flying) = some (report 0x0A1 3 (.engine 3))) ∧
    ((List.range 5).map (fun v => actedLevel (heldOnly v) 0x0A0) = [0, 1, 2, 3, 4] ∧ isConsequential (heldOnly 3) (report 0x0A0 3 (.engine 3)) = false) ∧
    (TablesRise (heldOnly 0)) ∧
    (TablesRise (heldOnly 2)) ∧
    (TablesRise (heldOnly 3)) ∧
    (TablesRise (heldOnly 4)) ∧
    (TablesRise (flt (fun f => { f with newestL4 := some (7, true) }) (heldOnly 4))) := by
  repeat' (with_reducible apply And.intro)
  all_goals (first | exact rises_ok (by decide +kernel) | exact may_ok (by decide +kernel) | exact names_ok (by decide +kernel) | exact wf_ok (by decide +kernel) | exact ready_ok (by decide +kernel) | exact smGet_all (P := fun _ (x : Partner) => x.cfgDone = none) (fun _ => rfl) _ (by decide +kernel) | decide +kernel)

/-- Two entries of one source. -/
def logged : State :=
  flt (fun f => { f with log := [entry 1 0x0A0 2 true, entry 2 0x0A0 2 false], newestSeq := 2, srcs := [(0x0A0, ⟨.raised, 2, 98, 0, 0, none⟩)] }) full
/-- A consequential entry of a source that an unlogged report raised. -/
def consequence : State := flt (fun f => { f with log := [{ entry 2 0x0A0 2 false with consequential := true }] }) logged
/-- The number of an entry, the newest number and one never issued. -/
theorem witness_FaultsAreAcknowledged :
    (TablesRise logged) ∧
    (logged.flt.fullWaiting = none) ∧
    (HostMay 0 .fltAck 0 0 2 logged) ∧
    (entry 2 0x0A0 2 false ∈ logged.flt.log ∧ (entry 2 0x0A0 2 false).seq = (2#32).toNat) ∧
    (∀ x ∈ (after (.fltAck 0 2) logged).flt.log, x.report.source = 0x0A0 → x.consequential = true ∨ x.acked = true) ∧
    (HostMay 1 .fltAckUpto 0 0 2 logged) ∧
    (seqIssued logged (2#32).toNat = true ∧ seqIssued logged (3#32).toNat = false ∧ seqIssued logged (1#32).toNat = true) ∧
    (HostMay 1 .fltAckUpto 0 0 3 logged) ∧
    (HostMay 0 .fltAck 0 0 2 consequence) ∧
    (TablesRise consequence) ∧
    (∀ e ∈ consequence.flt.log, e.seq = (2#32).toNat → e.consequential = true) := by
  repeat' (with_reducible apply And.intro)
  all_goals (first | exact rises_ok (by decide +kernel) | exact may_ok (by decide +kernel) | exact names_ok (by decide +kernel) | exact wf_ok (by decide +kernel) | exact ready_ok (by decide +kernel) | exact smGet_all (P := fun _ (x : Partner) => x.cfgDone = none) (fun _ => rfl) _ (by decide +kernel) | decide +kernel)

/-- The data plane stopped by level-4 entry 7, acknowledged. -/
def stopped : State := flt (fun f => { f with stopped := some 90, newestL4 := some (7, true), log := [entry 7 0x0A0 4 true] }) full
/-- A shadow that is due; a source whose quiet time ends with this course; a restart that is taken and one that is not. -/
theorem witness_RecoveryAndRestart :
    (isUp (flt (fun f => { f with shadows := [⟨.target (.engine 3), ⟨90, 0⟩, some 100⟩, ⟨.dataPlane, ⟨90, 0⟩, some 101⟩] }) full) = true) ∧
    (TablesRise (setCell .fltSrcCfg 0x0A0 0 0x103 logged)) ∧
    ((srcState (setCell .fltSrcCfg 0x0A0 0 0x103 logged) (0x0A0#12).toNat).phase ≠ .idle ∧
      fld (cell (setCell .fltSrcCfg 0x0A0 0 0x103 logged) .fltSrcCfg (0x0A0#12).toNat) 12 8 ≠ 0) ∧
    ((srcState logged 0x0A0).lastPrimary + 2 ^ min 24 (fld (cell (setCell .fltSrcCfg 0x0A0 0 0x103 logged) .fltSrcCfg 0x0A0) 12 8) ≤ nowCourse logged) ∧
    (heldInstances (setCell .fltSrcCfg 0x0A0 0 0x103 logged) (0x0A0#12).toNat = []) ∧
    (HostMay 0 .fltDpCtl 0 0 7 stopped) ∧
    (dpStopped stopped = true ∧ stopped.flt.newestL4 = some ((7#32).toNat, true)) ∧
    (∀ e ∈ stopped.flt.log, e.level = 4 → e.consequential = false → (srcState stopped e.report.source).phase = .idle) ∧
    (HostMay 0 .fltDpCtl 0 0 8 full) ∧
    (dpStopped full = false ∧ stopped.flt.newestL4 ≠ some ((8#32).toNat, true)) := by
  repeat' (with_reducible apply And.intro)
  all_goals (first | exact rises_ok (by decide +kernel) | exact may_ok (by decide +kernel) | exact names_ok (by decide +kernel) | exact wf_ok (by decide +kernel) | exact ready_ok (by decide +kernel) | exact smGet_all (P := fun _ (x : Partner) => x.cfgDone = none) (fun _ => rfl) _ (by decide +kernel) | decide +kernel)

/-- A descriptor: opcode, sequence number and parameters. -/
def cmd (op : Nat) (ps : List Word) : LdgCmd := ⟨1, 0, mkFld 31 24 op :: ps⟩

/-- Mailbox `m` with a command at its head. -/
def posted (m : Nat) (x : LdgCmd) (s : State) : State := modBox m (fun b => { b with queue := [x] }) s

/-- Mailbox `m` with a command that runs. -/
def runs (m : Nat) (x : LdgCmd) (w : LdgWait) (s : State) : State := modBox m (fun b => { b with run := some ⟨x, ⟨99, 0⟩, w, false⟩ }) s
/-- Mailboxes 0 and 7: empty, full, holding a response, running, with an unknown opcode, with another opcode and with an unused bit set. -/
theorem witness_MailboxProtocol :
    (TablesRise full) ∧
    (isUp full = true ∧ inFlight full 7 < 4 ∧ bit 1 0 = true) ∧
    (HostMay 1 .ldgMbSubmit 7 0 1 full) ∧
    (HostMay 1 .ldgMbSubmit 7 0 1 (modBox 7 (fun b => { b with done := List.replicate 4 (1, []) }) full)) ∧
    (4 ≤ inFlight (modBox 7 (fun b => { b with done := List.replicate 4 (1, []) }) full) 7) ∧
    (HostMay 0 .ldgMbAck 0 0 0xFFFF (modBox 0 (fun b => { b with held := some 0xFFFF }) full)) ∧
    ((mailbox (modBox 0 (fun b => { b with held := some 0xFFFF }) full) 0).held = some (fld 0xFFFF 15 0) ∧ (mailbox full 0).held ≠ some (fld 0xFFFF 15 0)) ∧
    ((mailbox (modBox 0 (fun b => { b with done := [(1, [0x02000000])] }) full) 0).held = none ∧
      (mailbox (modBox 0 (fun b => { b with done := [(1, [0x02000000])] }) full) 0).done = [(1, [0x02000000])] ∧
      ¬ (fld (([0x02000000] : List Word).getD 0 0) 31 24 = 1 ∧ domOn full (50 + boxPort 0) = false)) ∧
    ((mailbox (runs 7 (cmd 1 []) (.bind 0) full) 7).run = some ⟨cmd 1 [], ⟨99, 0⟩, .bind 0, false⟩) ∧
    (startable (posted 7 (cmd 0xFF []) full) 7 = some (cmd 0xFF []) ∧ (cmd 0xFF []).opcode ∉ knownOpcodes) ∧
    (commandRow (.powerSet 7) = some (7, 0x01) ∧ (cmd 0xFF []).opcode ≠ 0x01 ∧ (mailbox (posted 7 (cmd 0xFF []) full) 7).run = none) ∧
    ((cmd 2 []).opcode ≠ 0x01 ∧ (mailbox (runs 7 (cmd 2 []) (.bind 0) full) 7).run = some ⟨cmd 2 [], ⟨99, 0⟩, .bind 0, false⟩) ∧
    (TablesRise (posted 7 (cmd 1 [4]) full)) ∧
    (startable (posted 7 (cmd 1 [4]) full) 7 = some (cmd 1 [4]) ∧ (cmd 1 [4]).opcode = 1 ∧ unusedZero (cmd 1 [4]) = false) ∧
    ((mailbox (runs 7 (cmd 0x10 []) (.bind 0) full) 7).run = some ⟨cmd 0x10 [], ⟨99, 0⟩, .bind 0, false⟩) ∧
    ((3072#32).toNat ≤ ldgMaximum full ⟨cmd 0x10 [], ⟨99, 0⟩, .bind 0, false⟩ ∧ ldgMaximum full ⟨cmd 0x10 [], ⟨99, 0⟩, .bind 0, false⟩ < (3073#32).toNat) ∧
    ((modBox 7 (fun b => b) full).ldg.rankAt ≠ some (nowStamp full)) := by
  repeat' (with_reducible apply And.intro)
  all_goals (first | exact rises_ok (by decide +kernel) | exact may_ok (by decide +kernel) | exact names_ok (by decide +kernel) | exact wf_ok (by decide +kernel) | exact ready_ok (by decide +kernel) | exact smGet_all (P := fun _ (x : Partner) => x.cfgDone = none) (fun _ => rfl) _ (by decide +kernel) | decide +kernel)

/-- A lane that waits in EXCHANGE for a binding, with its record. -/
def waiting (l : Nat) (s : State) : State :=
  modLane l (fun x => { x with phase := .exchange, waitBind := true, record := some (goodRecord, 99) }) s
/-- POWER_SET that would leave no port, that finds all in STATE and that begins with the first that is not; bindings, unbindings, transactions, trainings and measurements that begin and that are refused. -/
theorem witness_PowerAndBedCommands :
    (Ready 0 0x02 (cmd 2 []) (posted 0 (cmd 2 []) full)) ∧
    (Ready 7 0x01 (cmd 1 [0, 0, 0x000C0000]) (posted 7 (cmd 1 [0, 0, 0x000C0000]) full)) ∧
    ((cmd 1 [0, 0, 0x000C0000]).powerNamed = [50, 51] ∧ fld ((cmd 1 [0, 0, 0x000C0000]).w 1) 1 0 = PowerPhase.off.code) ∧
    (Ready 7 0x01 (cmd 1 [0, 1, 0x00040000]) (posted 7 (cmd 1 [0, 1, 0x00040000]) full)) ∧
    ((cmd 1 [0, 1, 0x00040000]).powerNamed = [] ++ 0 :: [50] ∧ domStands full 0 .off = false ∧ domOn full 51 = true) ∧
    (Ready 7 0x01 (cmd 1 [2, 0, 0, 0x8000]) (posted 7 (cmd 1 [2, 0, 0, 0x8000]) full)) ∧
    ((cmd 1 [2, 0, 0, 0x8000]).powerNamed = [79] ∧ fld ((cmd 1 [2, 0, 0, 0x8000]).w 1) 1 0 = PowerPhase.on.code ∧ domStands full 79 .on = true) ∧
    (Ready 0 0x10 (cmd 0x10 [0x803F0000]) (posted 0 (cmd 0x10 [0x803F0000]) (boundTo 63 255 .active full))) ∧
    (unbindRefused (boundTo 63 255 .active full) 63 = true ∧ unbindRefused (boundTo 63 255 .down full) 63 = false) ∧
    (Ready 0 0x10 (cmd 0x10 [0x003FFF00]) (posted 0 (cmd 0x10 [0x003FFF00]) (waiting 255 full))) ∧
    (bindRefusal (waiting 255 full) 63 255 0 = 0) ∧
    (Ready 0 0x10 (cmd 0x10 [0x003FFF01]) (posted 0 (cmd 0x10 [0x003FFF01]) (waiting 255 full))) ∧
    (bindRefusal (waiting 255 full) 63 255 1 = 3) ∧
    (Ready 0 0x11 (cmd 0x11 [0x003F0010, 1, 2, 3]) (posted 0 (cmd 0x11 [0x003F0010, 1, 2, 3]) (boundTo 63 255 .active full))) ∧
    (Ready 0 0x11 (cmd 0x11 [0x003F0020, 1]) (posted 0 (cmd 0x11 [0x003F0020, 1]) (boundTo 63 255 .down full))) ∧
    (fld ((cmd 0x11 [0x003F0010, 1, 2, 3]).w 1) 21 16 = 63 ∧ fld ((cmd 0x11 [0x003F0010, 1, 2, 3]).w 1) 7 4 = 1 ∧ domOn full (dlDomain 63) = true) ∧
    (firstLane (boundTo 63 255 .active full) 63 = some 255 ∧ (lane (boundTo 63 255 .active full) 255).phase = .active ∧
      (lane (boundTo 63 255 .down full) 255).phase ≠ .active) ∧
    (Ready 0 0x12 (cmd 0x12 [0, 0, 0, 0, 0, 0, 0, 0, 0x80000000]) (posted 0 (cmd 0x12 [0, 0, 0, 0, 0, 0, 0, 0, 0x80000000]) (boundTo 63 255 .active full))) ∧
    (Ready 0 0x12 (cmd 0x12 [1, 1]) (posted 0 (cmd 0x12 [1, 1]) (modLane 0 (fun x => { x with phase := .quarantine }) full))) ∧
    ((cmd 0x12 [0, 0, 0, 0, 0, 0, 0, 0, 0x80000000]).lanesNamed = [255] ∧ (cmd 0x12 [1, 1]).lanesNamed = [0] ∧ domOn full (255 / 8) = true ∧
      isIsolated full (.bedGroup 31) = false) ∧
    (Ready 0 0x12 (cmd 0x12 [0, 1]) (posted 0 (cmd 0x12 [0, 1]) (modLane 0 (fun x => { x with phase := .detect }) full))) ∧
    (Ready 0 0x13 (cmd 0x13 [0, 0x80000000]) (posted 0 (cmd 0x13 [0, 0x80000000]) (boundTo 63 255 .active full))) ∧
    ((cmd 0x13 [0, 0x80000000]).measured = [63] ∧ smRisesFrom none full.quo.rounds = true ∧ smRisesFrom none full.quo.measured = true) := by
  repeat' (with_reducible apply And.intro)
  all_goals (first | exact rises_ok (by decide +kernel) | exact may_ok (by decide +kernel) | exact names_ok (by decide +kernel) | exact wf_ok (by decide +kernel) | exact ready_ok (by decide +kernel) | exact smGet_all (P := fun _ (x : Partner) => x.cfgDone = none) (fun _ => rfl) _ (by decide +kernel) | decide +kernel)


/-- Mailbox 0 with a command posted, on a state. -/
def p0 (op : Nat) (ps : List Word) (s : State) : State := posted 0 (cmd op ps) s

/-- Zeros and their CRC at the start of the image area. -/
def image (n : Nat) (crc : List Byte) (s : State) : State := { s with hbm := { s.hbm with bytes := hbmWrite s.hbm.bytes (qaImage + 2 * n) crc } }

/-- Group 31 in dual mode. -/
def dual : State := setCb .ashTgCfg 31 ⟨.of 1, false⟩ full
/-- A load of group 31 by mailbox 0, with pieces to write. -/
def loading (op : Nat) (ks : List Nat) : State := runs 0 (cmd op [0x1F]) (.load ⟨31, 2048 * ks.headD 0, [0, 0], ks, [], 1⟩) full
/-- A load of one whole block and of part of the next, which was DAMAGED and is being written. -/
def loadingWhole : State :=
  setTblock 31 1 { tblock full 31 0 with phase := .writing } (setTblock 31 0 { tblock full 31 0 with phase := .writing }
    (runs 0 (cmd 0x20 [0x1F]) (.load ⟨31, 0, [1, 2, 3, 4, 5], [0], [(0, .empty), (1, .damaged)], 1⟩) full))
/-- Its blocks: block 0 is covered whole, block 1 in part, and was DAMAGED before the write. -/
theorem witness_TableAndMoveCommands_whole :
    MemoryWf loadingWhole ∧ TablesRise loadingWhole ∧
    ((mailbox loadingWhole 0).run = some ⟨cmd 0x20 [0x1F], ⟨99, 0⟩, .load ⟨31, 0, [1, 2, 3, 4, 5], [0], [(0, .empty), (1, .damaged)], 1⟩, false⟩) ∧
    ((LoadRun.mk 31 0 [1, 2, 3, 4, 5] [0] [(0, .empty), (1, .damaged)] 1).blocks 0 = [0, 1] ∧
      loadCovers 0 [1, 2, 3, 4, 5] 0 = true ∧ loadCovers 0 [1, 2, 3, 4, 5] 1 = false ∧ (tblock loadingWhole 31 1).phase = .writing) := by
  repeat' (with_reducible apply And.intro)
  all_goals (first | exact rises_ok (by decide +kernel) | exact wf_ok (by decide +kernel) | decide +kernel)

/-- Loads with a CRC that holds and one that does not; swaps, a domain selection, migrations and moves that begin and that are refused. -/
theorem witness_TableAndMoveCommands :
    (Ready 0 0x20 (cmd 0x20 [0x1F, 0x7FFFF, 1, 0xB, 0x44000000]) (p0 0x20 [0x1F, 0x7FFFF, 1, 0xB, 0x44000000] full)) ∧
    (anyOff full (fld ((cmd 0x20 [0x1F, 0x7FFFF, 1, 0xB, 0x44000000]).w 1) 4 0 :: quarryDomains) = false) ∧
    ((cmd 0x20 [0x1F, 0x7FFFF, 1, 0xB, 0x44000000]).loadRange false = (0x7FFFF, 1) ∧ dualMode full 31 = false ∧ 0x7FFFF + 1 ≤ 524288) ∧
    ((cmd 0x20 [0x1F, 0x7FFFF, 1, 0xB, 0x44000000]).imageQa = qaImage ∧ qaImage + 2 * 1 + 4 ≤ qaScratch) ∧
    (leNat (hbmRead full.hbm.bytes (qaImage + 2) 4) ≠ (crc32c (hbmRead full.hbm.bytes qaImage 2)).toNat) ∧
    (leNat (hbmRead (image 1 [0xD2, 0x77, 0x61, 0xF1] full).hbm.bytes (qaImage + 2) 4) = (crc32c (hbmRead (image 1 [0xD2, 0x77, 0x61, 0xF1] full).hbm.bytes qaImage 2)).toNat) ∧
    (Ready 0 0x22 (cmd 0x22 [0x1001F, 0x3F3F, 0, 0xB, 0x44000000]) (p0 0x22 [0x1001F, 0x3F3F, 0, 0xB, 0x44000000] full)) ∧
    ((cmd 0x22 [0x1001F, 0x3F3F, 0, 0xB, 0x44000000]).loadRange false = (524288 + 16384 + 63 * 256, 256) ∧ loadBusy full 31 true 1 = 0) ∧
    (Ready 0 0x20 (cmd 0x20 [0x1001F, 0x3FFFF, 1, 0xB, 0x44000000]) (p0 0x20 [0x1001F, 0x3FFFF, 1, 0xB, 0x44000000] dual)) ∧
    (dualMode dual 31 = true ∧ loadBusy dual 31 false 1 = 0 ∧ (cmd 0x20 [0x1001F, 0x3FFFF, 1, 0xB, 0x44000000]).loadRange true = (0x7FFFF, 1)) ∧
    (Ready 0 0x21 (cmd 0x21 [0x80000000, 0x101]) (p0 0x21 [0x80000000, 0x101] dual)) ∧
    (wordBits 0x80000000 0 = [31] ∧ bit 0x101 8 = true ∧ swapRefused dual 31 = false ∧ swapRefused full 31 = true) ∧
    (Ready 0 0x21 (cmd 0x21 [0x80000000, 0x101]) (p0 0x21 [0x80000000, 0x101] full)) ∧
    ((wordBits 0x80000000 0).find? (swapRefused full) = some 31) ∧
    (Ready 0 0x21 (cmd 0x21 [1, 0x200]) (p0 0x21 [1, 0x200] full)) ∧
    (Ready 0 0x30 (cmd 0x30 [3]) (p0 0x30 [3] full)) ∧
    (Ready 0 0x31 (cmd 0x31 [7]) (p0 0x31 [7] (modEngine 8 (fun y => { y with phase := .spare }) full))) ∧
    (unmappedEngine full = 8 ∧ domOn full 60 = true ∧ (engine (modEngine 8 (fun y => { y with phase := .spare }) full) 8).phase = .spare ∧ full.ash.reserved = false) ∧
    (∀ y ∈ full.ash.migrations, y.slot ≠ 7) ∧
    (Ready 0 0x31 (cmd 0x31 [0]) (p0 0x31 [0] full)) ∧
    ((engine full (unmappedEngine full)).phase ≠ .spare) ∧
    (Ready 0 0x32 (cmd 0x32 [0x002F0037]) (p0 0x32 [0x002F0037] full)) ∧
    (moveRefusal full 47 false 0x37 = 0 ∧ moveRefusal full 47 false 0 = 1 ∧ moveRefusal full 47 true 0x37 = 3 ∧ fld 0x002F0037 21 16 = 47 ∧ fld 0x002F0037 5 0 = 0x37) ∧
    (Ready 0 0x32 (cmd 0x32 [0x002F0000]) (p0 0x32 [0x002F0000] full)) ∧
    (Ready 0 0x20 (cmd 0x20 [0x1F, 0x7FFFF, 1, 0xB, 0x44000000]) (p0 0x20 [0x1F, 0x7FFFF, 1, 0xB, 0x44000000] (image 1 [0xD2, 0x77, 0x61, 0xF1] full))) ∧
    (MemoryWf (loading 0x20 [255])) ∧
    (TablesRise (loading 0x20 [255])) ∧
    ((mailbox (loading 0x20 [255]) 0).run = some ⟨cmd 0x20 [0x1F], ⟨99, 0⟩, .load ⟨31, 2048 * 255, [0, 0], [255], [], 1⟩, false⟩ ∧ (cmd 0x20 [0x1F]).opcode = 0x20) ∧
    (TablesRise (loading 0x22 [256, 257])) ∧
    ((mailbox (loading 0x22 [256, 257]) 0).run = some ⟨cmd 0x22 [0x1F], ⟨99, 0⟩, .load ⟨31, 2048 * 256, [0, 0], [256, 257], [], 1⟩, false⟩ ∧ (cmd 0x22 [0x1F]).opcode = 0x22) ∧
    (domOn (loading 0x20 [255]) 31 = true ∧ domOn (modDomain 31 (fun x => { x with phase := .off }) (loading 0x20 [255])) 31 = false) := by
  repeat' (with_reducible apply And.intro)
  all_goals (first | exact rises_ok (by decide +kernel) | exact may_ok (by decide +kernel) | exact names_ok (by decide +kernel) | exact wf_ok (by decide +kernel) | exact ready_ok (by decide +kernel) | exact smGet_all (P := fun _ (x : Partner) => x.cfgDone = none) (fun _ => rfl) _ (by decide +kernel) | decide +kernel)

/-- Both ports may write host memory. -/
def busMaster : State := { full with port0 := { full.port0 with bme := true }, port1 := { full.port1 with bme := true } }

/-- A job that has gathered nothing. -/
def job : LdgJob := ⟨24, 0, [], [], 0, (0, []), 0, 0, 0, none, .blank, 0⟩

/-- An export, a recall and a check of course 0 of group 0. -/
def exportCmd : LdgCmd := cmd 0x40 [0, 0, 0, 1, 1, 0, 0, 0, 0, 0, 0, 0, 0, 0, 0x10000]
def recallCmd : LdgCmd := cmd 0x41 [0, 0, 0, 1, 0, 1, 0, 0, 0, 0, 0, 0, 0, 0, 0]
def checkCmd : LdgCmd := cmd 0x42 [0, 0, 0, 1, 1]
/-- Jobs of one course on a quarry that has not started: without a host link, with too small a buffer, begun, and at their end. -/
theorem witness_JobCommands :
    (Ready 0 exportCmd.opcode exportCmd (posted 0 exportCmd full)) ∧
    (Ready 0 recallCmd.opcode recallCmd (posted 0 recallCmd busMaster)) ∧
    (Ready 7 checkCmd.opcode checkCmd (posted 7 checkCmd full)) ∧
    (exportCmd.opcode = 0x40 ∧ recallCmd.opcode = 0x41 ∧ checkCmd.opcode = 0x42 ∧ anyOff full quarryDomains = false) ∧
    (exportCmd.jobBad = false ∧ recallCmd.jobBad = false ∧ checkCmd.jobBad = false) ∧
    (exportCmd.jobRange.2 ≤ nowCourse full + 64 ∧ courseSettled full exportCmd.jobRange.2 = true ∧ courseSettled full recallCmd.jobRange.2 = true) ∧
    (hostReady full (boxPort 0) = false ∧ hostReady busMaster (boxPort 0) = true) ∧
    (jobNeed (ldgRun 0 exportCmd (.job none) (posted 0 exportCmd busMaster)) exportCmd ≤ exportCmd.bufLen) ∧
    (Ready 0 exportCmd.opcode exportCmd (posted 0 exportCmd busMaster)) ∧
    ((mailbox (runs 0 exportCmd (.job (some job)) busMaster) 0).run = some ⟨exportCmd, ⟨99, 0⟩, .job (some job), false⟩ ∧ job.todo = []) ∧
    ((mailbox (runs 7 checkCmd (.job (some job)) busMaster) 7).run = some ⟨checkCmd, ⟨99, 0⟩, .job (some job), false⟩) ∧
    ((mailbox (runs 0 recallCmd (.job (some job)) busMaster) 0).run = some ⟨recallCmd, ⟨99, 0⟩, .job (some job), false⟩) ∧
    (quarryDomainsOn busMaster = true ∧ busMaster.qry.reads.find? (isJobOf 0) = none) ∧
    (TablesRise (runs 0 exportCmd (.job (some job)) busMaster)) := by
  repeat' (with_reducible apply And.intro)
  all_goals (first | exact rises_ok (by decide +kernel) | exact may_ok (by decide +kernel) | exact names_ok (by decide +kernel) | exact wf_ok (by decide +kernel) | exact ready_ok (by decide +kernel) | exact smGet_all (P := fun _ (x : Partner) => x.cfgDone = none) (fun _ => rfl) _ (by decide +kernel) | decide +kernel)

/-- The buffer of `recallCmd` is empty, and every record has its head words. -/
theorem witness_JobCommands_small :
    recallCmd.bufLen < jobNeed (ldgRun 0 recallCmd (.job none) (posted 0 recallCmd busMaster)) recallCmd :=
  Nat.lt_of_lt_of_le (m := 8 * (recallRecord (ldgRun 0 recallCmd (.job none) (posted 0 recallCmd busMaster)) recallCmd
      (historyStart (ldgRun 0 recallCmd (.job none) (posted 0 recallCmd busMaster)))
      ((recallCmd.jobCourses.foldl (fun (a : Gather × State) c => recallCourse c
        (historyStart (ldgRun 0 recallCmd (.job none) (posted 0 recallCmd busMaster))) recallCmd.jobPartners false [] 0 a.1 a.2)
        (Gather.blank, ldgRun 0 recallCmd (.job none) (posted 0 recallCmd busMaster))).1)).1.length)
    (by decide +kernel) (Nat.le_add_right _ _)
/-- Bulk acknowledgements of numbers issued and not issued. -/
theorem witness_FaultsAreAcknowledged_bulk :
    (Ready 0 0x80 (cmd 0x80 [0x80010000, 0, 3]) (p0 0x80 [0x80010000, 0, 3] logged)) ∧
    (Ready 0 0x80 (cmd 0x80 [0x80010000, 0, 2]) (p0 0x80 [0x80010000, 0, 2] logged)) ∧
    ((p0 0x80 [0x80010000, 0, 3] logged).flt.fullWaiting = none ∧ TablesRise (p0 0x80 [0x80010000, 0, 3] logged)) ∧
    (bit 0x80010000 31 = true ∧ seqIssued logged 3 = false ∧ seqIssued logged 2 = true) := by
  repeat' (with_reducible apply And.intro)
  all_goals (first | exact rises_ok (by decide +kernel) | exact ready_ok (by decide +kernel) | decide +kernel)
/-- Sources that do not recover: IDLE, with QUIET 0, reported too lately. -/
theorem witness_RecoveryAndRestart_none :
    (isUp logged = true ∧ TablesRise logged ∧ (srcState full 5).phase = .idle) ∧
    (fld (cell (setCell .fltSrcCfg 0x0A0 0 0x3 logged) .fltSrcCfg 0x0A0) 12 8 = 0) ∧
    (nowCourse logged < (srcState logged 0x0A0).lastPrimary + 2 ^ min 24 (fld (cell (setCell .fltSrcCfg 0x0A0 0 0x1F03 logged) .fltSrcCfg 0x0A0) 12 8)) := by
  repeat' (with_reducible apply And.intro)
  all_goals (first | exact rises_ok (by decide +kernel) | decide +kernel)
/-- Rows new and retired, a list from its last index, a scrub setting at its limits, readings for a calibration, buffers, codes and acknowledgements that hold and that do not, and both loops. -/
theorem witness_ListCommands :
    (Ready 0 0x50 (cmd 0x50 [0xFFF3FFFF]) (p0 0x50 [0xFFF3FFFF] full)) ∧
    (full.hbm.retired.length < 4096 ∧ (cmd 0x50 [0xFFF3FFFF]).w 1 ∉ full.hbm.retired ∧ anyOff full quarryDomains = false) ∧
    (Ready 0 0x50 (cmd 0x50 [5]) (p0 0x50 [5] { full with hbm := { full.hbm with retired := [5] } })) ∧
    ((cmd 0x50 [5]).w 1 ∈ ({ full with hbm := { full.hbm with retired := [5] } } : State).hbm.retired) ∧
    (Ready 0 0x51 (cmd 0x51 [0xFFF]) (p0 0x51 [0xFFF] full)) ∧
    (Ready 0 0x52 (cmd 0x52 [0x64010010]) (p0 0x52 [0x64010010] full)) ∧
    (domOn full 79 = true ∧ fld 0x64010010 31 24 = 100 ∧ fld 0x64010010 23 16 = 1 ∧ fld 0x64010010 10 0 = 16) ∧
    (Ready 0 0x52 (cmd 0x52 [0x01FF0400]) (p0 0x52 [0x01FF0400] full)) ∧
    (fld 0x01FF0400 31 24 = 1 ∧ fld 0x01FF0400 10 0 = 1024) ∧
    (Ready 0 0x60 (cmd 0x60 [0x1FFFFF]) (p0 0x60 [0x1FFFFF] (quo (fun q => { q with xoOk := true, worst := 0 }) full))) ∧
    ((0x1FFFFF#32).toNat < 2 ^ 21 ∧ gaugeRunning (quo (fun q => { q with xoOk := true, worst := 0 }) full) = true) ∧
    (Ready 0 0x70 (cmd 0x70 (List.replicate 14 0 ++ [0x1000])) (p0 0x70 (List.replicate 14 0 ++ [0x1000]) busMaster)) ∧
    (bufferGood (cmd 0x70 (List.replicate 14 0 ++ [0x1000])) = true ∧ domOn full 78 = true ∧ 8 * (plbImage (plbStoreRead busMaster)).length ≤ 0x1000) ∧
    ((cmd 0x70 (List.replicate 14 0 ++ [0x1000])).bufLen = 0x1000 ∧ hostReady busMaster (boxPort 0) = true) ∧
    (Ready 0 0x71 (cmd 0x71 (List.replicate 14 0 ++ [0x1000])) (p0 0x71 (List.replicate 14 0 ++ [0x1000]) busMaster)) ∧
    (8 * (cnsImage busMaster).length ≤ 0x1000) ∧
    (Ready 0 0x72 (cmd 0x72 [0]) (p0 0x72 [0] { full with cns := { full.cns with moved := false } })) ∧
    ((cmd 0x72 [0]).w 1 = full.cns.clearCode ∧ ({ full with cns := { full.cns with moved := false } } : State).cns.moved = false) ∧
    (Ready 0 0x72 (cmd 0x72 [1]) (p0 0x72 [1] full)) ∧
    (¬ ((cmd 0x72 [1]).w 1 = full.cns.clearCode ∧ full.cns.moved = false)) ∧
    (Ready 0 0x80 (cmd 0x80 [0x80010000, 0, 3]) (p0 0x80 [0x80010000, 0, 3] logged)) ∧
    (bit 0x80010000 31 = true ∧ seqIssued logged 3 = false ∧ seqIssued logged 2 = true ∧ logged.flt.fullWaiting = none) ∧
    (Ready 0 0x80 (cmd 0x80 [0x80010000, 0, 2]) (p0 0x80 [0x80010000, 0, 2] logged)) ∧
    (Ready 0 0x80 (cmd 0x80 [0x00010000, 2]) (p0 0x80 [0x00010000, 2] logged)) ∧
    (Ready 0 0xF0 (cmd 0xF0 [0, 1]) (p0 0xF0 [0, 1] full)) ∧
    (Ready 0 0xF0 (cmd 0xF0 [1, 0xB, 0x80000000, 0xA5]) (p0 0xF0 [1, 0xB, 0x80000000, 0xA5] full)) ∧
    ((0xB * 2 ^ 32 + 0x80000000) % 4096 = 0 ∧ qaScratch = 0xB * 2 ^ 32 + 0x80000000 ∧ qaScratch < qaReserve) ∧
    (MemoryWf (p0 0xF0 [1, 0xB, 0x80000000, 0xA5] full)) := by
  repeat' (with_reducible apply And.intro)
  all_goals (first | exact rises_ok (by decide +kernel) | exact may_ok (by decide +kernel) | exact names_ok (by decide +kernel) | exact wf_ok (by decide +kernel) | exact ready_ok (by decide +kernel) | exact smGet_all (P := fun _ (x : Partner) => x.cfgDone = none) (fun _ => rfl) _ (by decide +kernel) | decide +kernel)


/-- Lane 255 in a phase. -/
def lane255 (ph : LanePhase) : State := modLane 255 (fun x => { x with phase := ph, failArmed := true }) full
/-- Lane 255 in each phase on the way up, and waiting for a binding. -/
theorem witness_LaneBringUp :
    (isUp full = true) ∧
    (TablesRise (lane255 .lock)) ∧
    ((lane (lane255 .detect) 255).phase = .detect ∧ (lane full 255).phase = .down ∧ (lane (lane255 .train) 255).phase = .train ∧ (lane (lane255 .lock) 255).phase = .lock) ∧
    ((lane (lane255 .exchange) 255).phase = .exchange ∧ (lane (lane255 .exchange) 255).waitBind = false ∧ (lane (lane255 .exchange) 255).failArmed = true) ∧
    ((lane (waiting 255 full) 255).phase = .exchange ∧ (lane (waiting 255 full) 255).waitBind = true ∧ (lane (modLane 255 (fun x => { x with failArmed := false }) (lane255 .train)) 255).failArmed = false) := by
  repeat' (with_reducible apply And.intro)
  all_goals (first | exact rises_ok (by decide +kernel) | exact may_ok (by decide +kernel) | exact names_ok (by decide +kernel) | exact wf_ok (by decide +kernel) | exact ready_ok (by decide +kernel) | exact smGet_all (P := fun _ (x : Partner) => x.cfgDone = none) (fun _ => rfl) _ (by decide +kernel) | decide +kernel)

/-- Partner 63 on ACTIVE lane 255, with AUTO_RETRAIN or without and a retrain count and limit. -/
def active255 (retrain : Word) (counted limit : Nat) : State :=
  setCell .bedGrpCfg 31 0 (w32 limit) (setCell .bedLaneCnt 255 0 (mkFld 31 24 counted) (setCell .bedLaneCfg 255 0 (1 ||| retrain) (boundTo 63 255 .active full)))
/-- An ACTIVE lane without AUTO_RETRAIN, with it below its limit, at its limit and past it; code errors at the threshold; enabling and disabling. -/
theorem witness_LaneLoss :
    (isUp (active255 0 0 0) = true) ∧
    (TablesRise (active255 2 3 3)) ∧
    (NamesInRange (active255 2 3 3)) ∧
    ((lane (active255 2 3 3) 255).phase = .active ∧ (Instr.laneCdrUnlock 255, 2) ∈ [(Instr.laneLossOfSignal 255, 1), (.laneCdrUnlock 255, 2), (.laneSyncLoss 255, 3)]) ∧
    (bit (cell (active255 0 0 0) .bedLaneCfg 255) 1 = false ∧ bit (cell (active255 2 3 3) .bedLaneCfg 255) 1 = true) ∧
    (fld (cell (active255 2 3 3) .bedGrpCfg (255 / 8)) 7 0 ≠ 0 ∧ fld (cell (active255 2 3 3) .bedGrpCfg (255 / 8)) 7 0 < fld (cell (active255 2 3 3) .bedLaneCnt 255) 31 24 + 1) ∧
    (fld (cell (active255 2 2 3) .bedLaneCnt 255) 31 24 + 1 ≤ fld (cell (active255 2 2 3) .bedGrpCfg (255 / 8)) 7 0) ∧
    ((lane (modLane 255 (fun x => { x with codeErrs := 0 }) (active255 0 0 0)) 255).codeErrs = fld (cell (active255 0 0 0) .bedGrpCfg (255 / 8)) 23 8) ∧
    (HostMay 0 .bedLaneCfg 255 0 0 (active255 0 0 0)) ∧
    (HostMay 1 .bedLaneCfg 0 0 1 (setCell .bedLaneCfg 0 0 0 full)) ∧
    (bit (cell (setCell .bedLaneCfg 0 0 0 full) .bedLaneCfg 0) 0 = false ∧ (lane full 0).phase = .down ∧ bit (cell (active255 0 0 0) .bedLaneCfg 255) 0 = true ∧ bit 1 0 = true) ∧
    (HostMay 1 .bedLaneCfg 255 0 1 (active255 0 0 0)) ∧
    ((lane (active255 0 0 0) 255).codeRaised = false ∧ fld (cell (active255 0 0 0) .bedGrpCfg (255 / 8)) 23 8 < (lane (active255 0 0 0) 255).codeErrs + 1) ∧
    ((lane (modLane 255 (fun x => { x with codeRaised := true }) (active255 0 0 0)) 255).codeRaised = true) ∧
    ((lane (active255 0 0 0) 255).codeErrs + 1 ≤ fld (cell (setCell .bedGrpCfg 31 0 0x100 (active255 0 0 0)) .bedGrpCfg (255 / 8)) 23 8) ∧
    (nowCourse (at_ 65536 0 0 (active255 2 3 3)) % 65536 = 0 ∧ nowCycle (at_ 65536 0 0 (active255 2 3 3)) = 0 ∧ isUp (at_ 65536 0 0 (active255 2 3 3)) = true) ∧
    (¬ (nowCourse full % 65536 = 0 ∧ nowCycle full = 0)) := by
  repeat' (with_reducible apply And.intro)
  all_goals (first | exact rises_ok (by decide +kernel) | exact may_ok (by decide +kernel) | exact names_ok (by decide +kernel) | exact wf_ok (by decide +kernel) | exact ready_ok (by decide +kernel) | exact smGet_all (P := fun _ (x : Partner) => x.cfgDone = none) (fun _ => rfl) _ (by decide +kernel) | decide +kernel)

/-- Lane 255 in EXCHANGE, bound, with a record that came twice. -/
def twice (r : BitVec 128) : State := modLane 255 (fun x => { x with lastRecord := some r, run := 2 }) (boundTo 63 255 .exchange full)

/-- Downlink 63 that sends. -/
def sending (f : Downlink → Downlink) : State :=
  modDl 63 (fun x => f { x with pll := true, fresh := false }) (setCell .bedDlCfg 63 0 (cell full .bedDlCfg 63 ||| 1) full)
/-- A record with values in range, of another partner. -/
def otherRecord : BitVec 128 := goodRecord + 0x1000000000000000000000000
/-- A third record that matches, that differs, and with values out of range; frames with each fast command, a block under way and a request; the host's command. -/
theorem witness_ExchangeAndDownlinks :
    (isUp (twice goodRecord) = true) ∧
    (TablesRise (twice goodRecord)) ∧
    (NamesInRange (twice goodRecord)) ∧
    ((lane (twice goodRecord) 255).phase = .exchange ∧ (lane (twice goodRecord) 255).lastRecord = some goodRecord ∧ 2 ≤ (lane (twice goodRecord) 255).run) ∧
    (¬ ((lane (twice goodRecord) 255).lastRecord = some 0 ∧ 2 ≤ (lane (twice goodRecord) 255).run) ∧ (lane full 255).phase ≠ .exchange) ∧
    (recordGood goodRecord = true ∧ recordGood 0 = false ∧ (lane (twice goodRecord) 255).partner = some 63) ∧
    ((partner (twice goodRecord) 63).binding = some ⟨255, 0, goodRecord, 0, true⟩ ∧ recordMatches ⟨255, 0, goodRecord, 0, true⟩ (laneIndex (twice goodRecord) 255) goodRecord = true) ∧
    (recordMatches ⟨255, 0, goodRecord, 0, true⟩ 0 otherRecord = false ∧ recordGood otherRecord = true) ∧
    (recPartnerId otherRecord ≠ recPartnerId goodRecord) ∧
    ((lane (modLane 255 (fun x => { x with lastRecord := some 0, run := 2, mismatchRaised := true }) (boundTo 63 255 .exchange full)) 255).mismatchRaised = true) ∧
    (TablesRise (sending id)) ∧
    (dlSending (sending id) 63 = true ∧ dlSending full 63 = false ∧ (downlink (sending id) 63).fresh = false ∧ nextMark (sending id) 63 % 320 ≠ 0) ∧
    ((downlink (sending (fun x => { x with fresh := true, squelched := true })) 63).fresh = true) ∧
    (nextMark (modDl 63 (fun x => { x with pll := true }) (at_ 100 0 0 full)) 63 % 320 = 0) ∧
    ((downlink (sending (fun x => { x with restarts := [7] })) 63).restarts = 7 :: [] ∧ (downlink (sending (fun x => { x with actives := [0] })) 63).actives = 0 :: []) ∧
    ((downlink (sending (fun x => { x with host := some (0x1F, 5) })) 63).host = some (0x1F, 5) ∧ (downlink (sending id) 63).host = none) ∧
    (blockBusy (boundTo 63 255 .exchange (sending id)) 63 = true ∧ blockBusy (sending id) 63 = false) ∧
    ((partner (modPartner 63 (fun x => { x with cfg := some ⟨1, 15, 0, 0, 0, none⟩ }) (sending id)) 63).cfg = some ⟨1, 15, 0, 0, 0, none⟩) ∧
    (255 ∈ partnerLanes (boundTo 63 255 .lock full) 63 ∧ (lane (boundTo 63 255 .lock full) 255).partner = some 63) ∧
    (HostMay 0 .bedDlFc 63 0 0x8000001F full) ∧
    (bit 0x8000001F 31 = true ∧ (downlink full 63).host = none ∧ 0x10 ≤ fld 0x8000001F 7 0 ∧ fld 0x8000001F 7 0 ≤ 0x1F) ∧
    (domOn full (32 + 63 / 8) = true ∧ (downlink (sending id) 63).pll = true ∧ (downlink full 63).pll = false) ∧
    ((lane (twice goodRecord) 255).run = 2 ∧ ¬ ((lane (twice goodRecord) 255).lastRecord = some 0 ∧ (lane (twice goodRecord) 255).run = 2)) ∧
    ((0#32) ≠ crc32c (beBytes 16 goodRecord.toNat)) ∧
    (TablesRise (twice otherRecord)) ∧
    (NamesInRange (twice otherRecord)) ∧
    (TablesRise (twice 0)) ∧
    (NamesInRange (twice 0)) := by
  repeat' (with_reducible apply And.intro)
  all_goals (first | exact rises_ok (by decide +kernel) | exact may_ok (by decide +kernel) | exact names_ok (by decide +kernel) | exact wf_ok (by decide +kernel) | exact ready_ok (by decide +kernel) | exact smGet_all (P := fun _ (x : Partner) => x.cfgDone = none) (fun _ => rfl) _ (by decide +kernel) | decide +kernel)

/-- A measurement of partner 63 with some echoes received. -/
def echoes (r : List Nat) (a : Nat) : State :=
  quo (fun q => { q with rounds := [(63, r)], clocks := [(63, ⟨[⟨0, a, a⟩], 0, [], false, [], false, none⟩)] }) (boundTo 63 255 .active full)
/-- The first echo, one out of order, and the 64th with each result. -/
theorem witness_EchoesMeasureDelay :
    (isUp (echoes [] 0) = true) ∧
    (TablesRise (echoes [] 0)) ∧
    (NamesInRange (echoes [] 0)) ∧
    (smRisesFrom none (echoes [] 0).quo.rounds = true ∧ smRisesFrom none (echoes [] 0).quo.measured = true ∧ smRisesFrom none (echoes [] 0).quo.clocks = true) ∧
    ((lane (echoes [] 0) 255).partner = some 63 ∧ smFind (echoes [] 0).quo.rounds 63 = some [] ∧ (lane (echoes [] 0) 255).phase = .active ∧ laneIndex (echoes [] 0) 255 = 0) ∧
    (([] : List Nat).length ≠ 1 ∧ ([] : List Nat).length = 0 ∧ (List.replicate 63 461786 : List Nat).length = 63) ∧
    ((partner (echoes [] 0) 63).binding = some ⟨255, 0, goodRecord, 0, true⟩) ∧
    (spreadBad (List.replicate 63 461786 ++ [461786]) = false ∧ spreadBad (List.replicate 63 461786 ++ [0]) = true) ∧
    (0 ≤ flight (sumL (List.replicate 63 461786 ++ [461786])) (recTTurn goodRecord) 0 ∧ flight (sumL (List.replicate 63 461786 ++ [461786])) (recTTurn goodRecord) 0 ≤ 63 * 16384 + 16383) ∧
    (flight (sumL (List.replicate 64 0)) (recTTurn goodRecord) 0 < 0) ∧
    (bit (cell (setCell .quoDlPhase 63 0 0x100000 (echoes [] 1040000)) .quoDlPhase 63) 20 = true ∧
      524287 < ((partnerClock (echoes [] 1040000) 63).target : Int) - flight (sumL (List.replicate 64 461786)) (recTTurn goodRecord) 0 + sfld (cell (echoes [] 1040000) .quoPtrim 63) 15 0) ∧
    (sfld (cell (echoes [] 0) .quoPtrim 63) 15 0 = 0 ∧ bit (cell (echoes [] 0) .quoDlPhase 63) 20 = false) := by
  repeat' (with_reducible apply And.intro)
  all_goals (first | exact rises_ok (by decide +kernel) | exact may_ok (by decide +kernel) | exact names_ok (by decide +kernel) | exact wf_ok (by decide +kernel) | exact ready_ok (by decide +kernel) | exact smGet_all (P := fun _ (x : Partner) => x.cfgDone = none) (fun _ => rfl) _ (by decide +kernel) | decide +kernel)

/-- No mailbox of those states runs a command. -/
theorem witness_EchoesMeasureDelay_boxes : ∀ m x named, (mailbox (echoes [] 0) m).run = some x → x.wait = .measure named →
    ∃ q ∈ named, q ≠ 63 ∧ smFind (echoes [] 0).quo.measured q = none := by
  intro m x named h
  have : (mailbox (echoes [] 0) m).run = none := smGet_all (P := fun _ (b : Mailbox) => b.run = none) (fun _ => rfl) _ (by decide +kernel) m
  rw [this] at h; cases h

/-- A frame: its words and its CRC. -/
def framed (body : List Byte) : List Byte := body ++ beBytes 4 (crc32c body).toNat

/-- The header of a data frame of lane 0, whose span starts at BT 6,400. -/
def dataHead : List Byte := [0x10, 0, 0x19, 0, 0, 0]

/-- Partner 63 on lane 255, with engine 7 ACTIVE and holding some hits. -/
def hitting (n : Nat) : State := modEngine 7 (fun y => { y with phase := .active, queue := List.replicate n hit1 }) (boundTo 63 255 .active full)
/-- Blocks on lane 255 in other phases, malformed at the limits of length, good without hits and with one hit, for an empty and a full queue; a span that is overdue and one that is not. -/
theorem witness_BurirFrames :
    (isUp (hitting 0) = true) ∧
    (TablesRise (hitting 0)) ∧
    (NamesInRange (hitting 0)) ∧
    (∀ q, (partner (hitting 0) q).cfgDone = none) ∧
    ((lane (hitting 0) 255).phase = .active ∧ (lane (hitting 0) 255).partner = some 63 ∧ dpStopped (hitting 0) = false ∧ dpStopped (boundTo 63 255 .active stopped) = true) ∧
    ((lane full 255).phase ≠ .active ∧ (lane full 255).phase ≠ .quarantine ∧ (lane (lane255 .quarantine) 255).phase = .quarantine) ∧
    ((List.replicate 20 0 : List Byte).length = 20 ∧ ¬ (true = true ∧ (List.replicate 9 0 : List Byte).length = 20)) ∧
    ((List.replicate 9 0 : List Byte).length < 10 ∧ 406 < (List.replicate 407 0 : List Byte).length ∧ ((List.replicate 11 0 : List Byte).length - 10) % 6 ≠ 0) ∧
    (crc32c ((List.replicate 10 0 : List Byte).take 6) ≠ BitVec.ofNat 32 (beNat ((List.replicate 10 0 : List Byte).drop 6))) ∧
    ((partner (hitting 0) 63).offended = false ∧ (partner (hitting 0) 63).offences = 0 ∧ (partner (hitting 0) 63).binding = some ⟨255, 0, goodRecord, 0, true⟩) ∧
    ((framed dataHead).length = 10 + 6 * 0 ∧ crc32c ((framed dataHead).take 6) = BitVec.ofNat 32 (beNat ((framed dataHead).drop 6))) ∧
    (nfld (beNat ((framed dataHead).take 6)) 47 44 = 1 ∧ nfld (beNat ((framed dataHead).take 6)) 43 41 = laneIndex (hitting 0) 255) ∧
    (nfld (beNat dataHead) 31 16 % 16 = 0 ∧ nfld (beNat dataHead) 15 8 = 0) ∧
    (-32 ≤ stampDistance (nowGbt (hitting 0)) (nfld (beNat dataHead) 31 16) ∧ stampDistance (nowGbt (hitting 0)) (nfld (beNat dataHead) 31 16) ≤ 120) ∧
    (spanStart (nowGbt (hitting 0)) (nfld (beNat dataHead) 31 16) = 6400 ∧ 6400 ∉ (lane (hitting 0) 255).missing ∧ (lane (hitting 0) 255).lastSpan = none) ∧
    ((lane (hitting 0) 255).checkFrom = none) ∧
    ((framed (dataHead ++ List.replicate 6 0)).length = 10 + 6 * 1 ∧
      crc32c ((framed (dataHead ++ List.replicate 6 0)).take 12) = BitVec.ofNat 32 (beNat ((framed (dataHead ++ List.replicate 6 0)).drop 12))) ∧
    (parityGood 0 = true ∧ nbit 0 7 = false ∧ nfld 0 47 30 < recChannels goodRecord ∧ (6400 + nfld 0 29 26) / 64 = 100) ∧
    (fld (inForce (hitting 0) .bedPpol 63) 27 16 = 0 ∨ smGet 0 (partner (hitting 0) 63).capCounts 100 < fld (inForce (hitting 0) .bedPpol 63) 27 16) ∧
    (slotEngine (hitting 0) (255 / 8 / 4) = 7 ∧ (engine (hitting 0) 7).phase = .active ∧ slotMigration (hitting 0) (255 / 8 / 4) = none) ∧
    (queueFill (engine (hitting 2047) 7) + 1 ≤ 2048 ∧ 2048 < queueFill (engine (hitting 2048) 7) + 1) ∧
    ((lane (modLane 255 (fun x => { x with checkFrom := some 6284 }) (hitting 0)) 255).checkFrom = some 6284 ∧ 6284 + 120 < nowGbt (hitting 0) ∧ nowGbt (hitting 0) ≤ 6285 + 120) ∧
    (groupServes (hitting 0) (255 / 8) = true ∧ groupServes (modDomain 31 (fun x => { x with phase := .hold }) (hitting 0)) (255 / 8) = false) ∧
    (crc32c ((framed dataHead).take 6) = BitVec.ofNat 32 (beNat ((framed dataHead).drop 6)) ∧ (⟨framed dataHead, true⟩ : RxFrame).codeError = true) := by
  repeat' (with_reducible apply And.intro)
  all_goals (first | exact rises_ok (by decide +kernel) | exact may_ok (by decide +kernel) | exact names_ok (by decide +kernel) | exact wf_ok (by decide +kernel) | exact ready_ok (by decide +kernel) | exact smGet_all (P := fun _ (x : Partner) => x.cfgDone = none) (fun _ => rfl) _ (by decide +kernel) | decide +kernel)

/-- A transaction of partner 63 under way for the command of mailbox 7, sent at a BT. -/
def sentAt (bt : Nat) : State :=
  runs 7 (cmd 0x11 [0x003F0010]) (.config 63) (modPartner 63 (fun x => { x with nextTag := 0, cfg := some ⟨1, 15, 5, 0, 0, some bt⟩ }) (boundTo 63 255 .active full))

/-- Its time has passed by one BT. -/
def transacting : State := sentAt 2308

/-- A response with status 0 to TAG 15. -/
def answer : List Byte := framed [0x20, 0, 0, 0, 0, 0, 0xF0, 0, 0, 0, 0, 0]
/-- A response that answers and one that does not; a transaction at its time limit and past it. -/
theorem witness_PartnerTransactions :
    (isUp transacting = true) ∧
    (TablesRise transacting) ∧
    (∀ q, (partner transacting q).cfgDone = none) ∧
    ((mailbox transacting 7).run = some ⟨cmd 0x11 [0x003F0010], ⟨99, 0⟩, .config 63, false⟩ ∧ (partner transacting 63).cfg = some ⟨1, 15, 5, 0, 0, some 2308⟩) ∧
    (15 = ((partner transacting 63).nextTag + 15) % 16 ∧ (lane transacting 255).phase = .active ∧ (lane transacting 255).partner = some 63 ∧ dpStopped transacting = false) ∧
    (answer.length = 16 ∧ crc32c (answer.take 12) = BitVec.ofNat 32 (beNat (answer.drop 12)) ∧ nfld (beNat (answer.take 6)) 47 44 = 2) ∧
    (nfld (beNat (answer.take 6)) 43 41 = laneIndex transacting 255 ∧ laneIndex transacting 255 = 0 ∧ nfld (beNat ((answer.drop 6).take 6)) 47 44 = 15) ∧
    (2308 + 4096 < nowGbt transacting ∧ nowGbt transacting ≤ 2309 + 4096) ∧
    (TablesRise (sentAt 2309)) ∧
    ((mailbox (sentAt 2309) 7).run = some ⟨cmd 0x11 [0x003F0010], ⟨99, 0⟩, .config 63, false⟩ ∧ (partner (sentAt 2309) 63).cfg = some ⟨1, 15, 5, 0, 0, some 2309⟩) ∧
    (nowGbt (sentAt 2309) ≤ 2309 + 4096 ∧ (lane (sentAt 2309) 255).phase = .active ∧ (lane (sentAt 2309) 255).partner = some 63) ∧
    (∀ q, (partner (sentAt 2309) q).cfgDone = none) := by
  repeat' (with_reducible apply And.intro)
  all_goals (first | exact rises_ok (by decide +kernel) | exact may_ok (by decide +kernel) | exact names_ok (by decide +kernel) | exact wf_ok (by decide +kernel) | exact ready_ok (by decide +kernel) | exact smGet_all (P := fun _ (x : Partner) => x.cfgDone = none) (fun _ => rfl) _ (by decide +kernel) | decide +kernel)

/-- No other mailbox runs a transaction of partner 63. -/
theorem witness_PartnerTransactions_boxes :
    ∀ n r', n ≠ 7 → (mailbox transacting n).run = some r' → r'.wait ≠ .config 63 := by
  intro n r' hn h
  have : ∀ n, n ≠ 7 → (mailbox transacting n).run = none :=
    smGet_all (P := fun k (b : Mailbox) => k ≠ 7 → b.run = none) (fun _ _ => rfl) _ (by decide +kernel)
  rw [this n hn] at h; cases h

/-- Channel 74,566 at the end of course N: its terms are negative. -/
def hit4 : HitItem := ⟨11, 5, 42, 74566, 576032831, 1023, 162, false, false, none, true, none, ⟨9000512, 1248⟩, 1⟩
/-- The hits of the worked case, in their own course, in the course before and in the course after; an engine that does not run. -/
theorem witness_HitsAreCorrected :
    (isUp (threeHits hit1) = true) ∧
    (TablesRise (threeHits hit1)) ∧
    (NamesInRange (threeHits hit1)) ∧
    ((engine (threeHits hit1) 0).queue = [] ∧ engineRuns (threeHits hit1) 0 = false) ∧
    ((engine (threeHits hit1) 1).queue = [hit1] ∧ engineRuns (threeHits hit1) 1 = true ∧ hit1.wave = none ∧ slotMigration (threeHits hit1) (hit1.group / 4) = none) ∧
    ((hit1.namedBt % 64 * 16384 + hit1.fine * 16 : Nat) - (hitTerms hit1 92 (threeHits hit1)).1.sum ≥ (0 : Int)) ∧
    ((hit1.namedBt % 64 * 16384 + hit1.fine * 16 : Nat) - (hitTerms hit1 92 (threeHits hit1)).1.sum < (2 : Int) ^ 20 ∧ 9000512 = hit1.namedBt / 64) ∧
    ((hit2.namedBt % 64 * 16384 + hit2.fine * 16 : Nat) - (hitTerms hit2 32 (threeHits hit2)).1.sum < (0 : Int) ∧ 9000512 + 1 = hit2.namedBt / 64) ∧
    ((2 : Int) ^ 20 ≤ (hit4.namedBt % 64 * 16384 + hit4.fine * 16 : Nat) - (hitTerms hit4 162 (threeHits hit4)).1.sum ∧ 9000513 = hit4.namedBt / 64 + 1) ∧
    ((quarter (threeHits hit1) 0).inService = true ∧ (quarter (threeHits hit1) 0).since ≤ 9000512 ∧ nowCourse (threeHits hit1) ≤ 9000512 + 1) ∧
    (courseEntries (threeHits hit1) 0 9000512 + 1 ≤ 24576 ∧ 0 < freePages (threeHits hit1) 0) ∧
    (TablesRise (threeHits hit4)) ∧
    (AsWritten 5 1 (threeHits hit1)) ∧
    (groupServes (threeHits hit1) hit1.group = true ∧ dpStopped (threeHits hit1) = false ∧ groupServes (threeHits { hit1 with group := 6 }) 6 = false) ∧
    (hit1.boundary = none ∧ (threeHits { hit1 with boundary := some 9000512 }).mem.ecc = []) ∧
    ((entriesSize (bucket (threeHits hit1) 9000512 5 25) + 8) / 8 ≤ (bucketAt (threeHits hit1) 9000512 5 25).pages.length + freePages (threeHits hit1) 0) ∧
    (TablesRise (threeHits hit2)) := by
  repeat' (with_reducible apply And.intro)
  all_goals (first | exact rises_ok (by decide +kernel) | exact may_ok (by decide +kernel) | exact names_ok (by decide +kernel) | exact wf_ok (by decide +kernel) | exact ready_ok (by decide +kernel) | exact smGet_all (P := fun _ (x : Partner) => x.cfgDone = none) (fun _ => rfl) _ (by decide +kernel) | exact asWritten_ok (by decide +kernel) | decide +kernel)

/-- A migration of slot 7 from its engine to engine 8, its boundary passed, with one hit of an earlier course. -/
def draining (x : HitItem) : State :=
  let s := threeHits hit1
  let s := { s with btr := { s.btr with course := .of 9000514 } }
  { s with ash := { s.ash with
      slots := [0, 8, 2, 3, 4, 5, 6, 7], engines := [(1, ⟨.draining, [x], 0⟩), (8, ⟨.active, [], 0⟩)]
      migrations := [⟨1, 1, 8, 9000513, true, true, 0⟩] } }
/-- An engine in SYNC with a slot, without one, and before its tick; a migration with a straggler and without; busy banks. -/
theorem witness_EnginesChangeState :
    (isUp (draining hit1) = true) ∧
    (TablesRise (draining hit1)) ∧
    (NamesInRange (draining hit1)) ∧
    ((engine (modEngine 8 (fun y => { y with phase := .sync, syncUntil := 100 }) full) 8).phase = .sync ∧ 100 ≤ nowCourse full ∧
      engineSlot (modEngine 8 (fun y => { y with phase := .sync, syncUntil := 100 }) full) 8 = none) ∧
    ((engine (modEngine 7 (fun y => { y with phase := .sync, syncUntil := 100 }) full) 7).syncUntil ≤ nowCourse full ∧
      engineSlot (modEngine 7 (fun y => { y with phase := .sync, syncUntil := 100 }) full) 7 = some 7) ∧
    (nowCourse full < (engine (modEngine 7 (fun y => { y with phase := .sync, syncUntil := 101 }) full) 7).syncUntil) ∧
    ((draining hit1).ash.migrations.find? (fun y => y.slot == 1 && y.taken && decide (y.boundary + 1 ≤ nowCourse (draining hit1))) = some ⟨1, 1, 8, 9000513, true, true, 0⟩) ∧
    ((engine (draining hit1) 1).phase = .draining ∧ (engine (draining hit1) 1).queue.filter (straggler (draining hit1) ⟨1, 1, 8, 9000513, true, true, 0⟩) ≠ []) ∧
    ((engine (modEngine 1 (fun y => { y with queue := [] }) (draining hit1)) 1).queue.filter (straggler (draining hit1) ⟨1, 1, 8, 9000513, true, true, 0⟩) = []) ∧
    (full.ash.migrations.find? (fun y => y.slot == 7 && y.taken && decide (y.boundary + 1 ≤ nowCourse full)) = none) ∧
    ((tgroup (modGroup 31 (fun y => { y with ofsPrevBusy := some 98, walkPrevBusy := some 99 }) full) 31).ofsPrevBusy.filter (fun c => decide (nowCourse full < c + 2)) = none) := by
  repeat' (with_reducible apply And.intro)
  all_goals (first | exact rises_ok (by decide +kernel) | exact may_ok (by decide +kernel) | exact names_ok (by decide +kernel) | exact wf_ok (by decide +kernel) | exact ready_ok (by decide +kernel) | exact smGet_all (P := fun _ (x : Partner) => x.cfgDone = none) (fun _ => rfl) _ (by decide +kernel) | decide +kernel)



/-! ### CRCs over long stretches: the same code, on numbers -/

/-- A function of a number that is evaluated first. -/
def evaluated {α : Type} (f : Nat → α) : Nat → α
  | 0 => f 0
  | n + 1 => f (n + 1)

theorem evaluated_eq {α : Type} (f : Nat → α) (n : Nat) : evaluated f n = f n := by cases n <;> rfl

/-- Some bit steps of the CRC-32C. -/
def crcBits : Nat → Nat → Nat
  | 0, c => c
  | n + 1, c => evaluated (crcBits n) (Nat.xor (c / 2) (c % 2 * 0x82F63B78))

theorem crcBit_eq (c : BitVec 32) : Nat.xor (c.toNat / 2) (c.toNat % 2 * 0x82F63B78) = (crc32cStep c).toNat := by
  have h : c.getLsbD 0 = decide (c.toNat % 2 = 1) := by simp [BitVec.getLsbD, Nat.testBit_zero]
  unfold crc32cStep
  rw [h]
  rcases Nat.mod_two_eq_zero_or_one c.toNat with e | e
  · simp [e, BitVec.toNat_ushiftRight, Nat.shiftRight_eq_div_pow]
  · simp [e, BitVec.toNat_ushiftRight, Nat.shiftRight_eq_div_pow, BitVec.toNat_xor]

theorem crcBits_eq (n : Nat) (c : BitVec 32) : crcBits n c.toNat = (times crc32cStep n c).toNat := by
  induction n generalizing c with
  | zero => rfl
  | succ n ih => rw [crcBits, evaluated_eq, crcBit_eq, ih]; rfl

/-- The CRC register after some bytes. -/
def crcRun : List Byte → Nat → Nat
  | [], c => c
  | b :: t, c => evaluated (crcRun t) (crcBits 8 (Nat.xor c b.toNat))

theorem crcRun_eq (bs : List Byte) (c : BitVec 32) :
    BitVec.ofNat 32 (crcRun bs c.toNat) = bs.foldl (fun c b => times crc32cStep 8 (c ^^^ b.setWidth 32)) c := by
  induction bs generalizing c with
  | nil => simp [crcRun]
  | cons b t ih =>
    have h : Nat.xor c.toNat b.toNat = (c ^^^ b.setWidth 32).toNat := by
      rw [BitVec.toNat_xor, BitVec.toNat_setWidth, Nat.mod_eq_of_lt (Nat.lt_of_lt_of_le b.isLt (by decide))]; rfl
    rw [crcRun, evaluated_eq, h, crcBits_eq, ih]; rfl

theorem crc32c_run (bs : List Byte) : crc32c bs = ~~~ BitVec.ofNat 32 (crcRun bs 0xFFFFFFFF) := by
  have := crcRun_eq bs (BitVec.allOnes 32)
  rw [crc32c, ← this]; rfl

theorem archiveCrc_ok {s : State} {g k : Nat} (h : (leNat (hbmRead s.hbm.bytes (archiveCrcQa g k) 4) ==
    (~~~ BitVec.ofNat 32 (crcRun (archiveGranule s g k) 0xFFFFFFFF)).toNat) = true) : archiveCrcHolds s g k = true := by
  rw [archiveCrcHolds, crc32c_run]; exact h

/-! ### Reads of stretches that hold nothing -/

theorem read_append (m : List Host.Cell) (a i j : Nat) : hbmRead m a (i + j) = hbmRead m a i ++ hbmRead m (a + i) j := by
  simp [hbmRead, List.range_add, Function.comp_def, Nat.add_assoc]

theorem byte_blank (m : List Host.Cell) (q : Nat) (h : ∀ c ∈ m, c.1 ≠ q) : hbmByte m q = 0 := by
  unfold hbmByte smGet
  induction m with
  | nil => rfl
  | cons c t ih =>
    have hc : q ≠ c.1 := fun e => h c (List.mem_cons_self ..) e.symm
    simp only [smFind, if_neg hc]
    exact ih (fun x hx => h x (List.mem_cons_of_mem _ hx))

theorem read_blank (m : List Host.Cell) (a n : Nat) (h : m.all (fun c => decide (c.1 < a ∨ a + n ≤ c.1)) = true) :
    hbmRead m a n = List.replicate n 0 := by
  refine List.ext_getElem (by simp [hbmRead]) fun i h1 h2 => ?_
  simp only [hbmRead, List.getElem_map, List.getElem_range, List.getElem_replicate]
  have hi : i < n := by simpa [hbmRead] using h1
  refine byte_blank m _ fun c hc e => ?_
  have := of_decide_eq_true (List.all_eq_true.mp h c hc)
  omega
/-- A coder in service with blocks of course 96 to make; the bucket of the first block holds `n` records. -/
def coding (blocks : List (Nat × Nat)) (n : Nat) : State :=
  let e : RingEntry := ⟨0, []⟩
  { full with
    ring := { full.ring with
      quarters := [(3, ⟨true, 0, [], 0, []⟩)], coders := [(3, ⟨96, some (96, blocks), [], (0, 0), false⟩)]
      buckets := [(96 * 2048 + 31 * 64 + 63, ⟨List.replicate n e, List.range ((n + 7) / 8)⟩)], closes := [⟨96, [(63, 31)], [3], true⟩] } }

/-- The coder of quarter 3 with nothing to do. -/
def uncoded (next : Nat) : State :=
  { full with ring := { full.ring with quarters := [(3, ⟨true, 0, [], 0, []⟩)], coders := [(3, ⟨next, none, [], (0, 0), false⟩)], closes := [⟨next, [(63, 31)], [3], true⟩] } }
/-- The block under way was started with FORCE_RAW. -/
def forcing : State := modCoder 3 (fun x => { x with forced := true }) (coding [(24, 0), (31, 0)] 0)
/-- Coder 3 in service: at the start of a course in time and past its deadline, with and without groups, at the deadline, and a block for each RAW_CAUSE. -/
theorem witness_CodersWork :
    (isUp (coding [(31, 0)] 0) = true) ∧
    (TablesRise (coding [(31, 0)] 1)) ∧
    ((quarter (uncoded 98) 3).inService = true ∧ (coder (uncoded 98) 3).cur = none ∧ (coder (uncoded 98) 3).next + 2 ≤ nowCourse (uncoded 98) ∧ nowCourse (uncoded 98) < 98 + 4) ∧
    (blockGroups (uncoded 98) 3 98 = [31] ∧ blockGroups (uncoded 96) 3 96 ≠ [] ∧ 96 + 4 ≤ nowCourse (uncoded 96)) ∧
    (blockGroups { uncoded 98 with ring := { (uncoded 98).ring with closes := [] } } 3 98 = []) ∧
    ((quarter full 3).inService = false ∧ nowCourse (uncoded 99) < (coder (uncoded 99) 3).next + 2 ∧ nowCourse (uncoded 97) < (coder (uncoded 97) 3).next + 4) ∧
    (nowCourse (at_ 3 0 0 full) < 4 ∧ 4 ≤ nowCourse full) ∧
    ((coder (coding [(24, 0), (31, 0)] 0) 3).cur = some (nowCourse full - 4, (24, 0) :: [(31, 0)]) ∧ (quarter (coding [(24, 0), (31, 0)] 0) 3).inService = true) ∧
    (bit (cell (setCell .molCtl 3 0 2 (coding [(31, 0)] 0)) .molCtl 3) 1 = true ∧ bit (cell (coding [(31, 0)] 0) .molCtl 3) 1 = false) ∧
    (1024 < (bucket (coding [(31, 0)] 1025) 96 31 63).length ∧ (bucket (coding [(31, 0)] 1024) 96 31 63).length ≤ 1024) ∧
    (∀ l ∈ (List.range 64).map (fun b => bucket (coding [(31, 3)] 1) 96 31 b), l.length ≤ 1024) ∧
    (({ coding [(31, 0)] 0 with qry := { Quarry.reset with phase := .running, jobs := [⟨96, []⟩] } } : State).qry.jobs = [⟨96, []⟩]) ∧
    (AsWritten 2 3 (coding [(31, 0)] 1)) ∧
    ((coding [(31, 0)] 1).mem.inject = none ∧ (coder (coding [(31, 0)] 1) 3).forced = false ∧ (coder forcing 3).forced = true) ∧
    ((coder forcing 3).cur = some (96, (24, 0) :: [(31, 0)]) ∧ (quarter forcing 3).inService = true ∧ [((31 : Nat), (0 : Nat))] ≠ []) ∧
    (TablesRise forcing) := by
  repeat' (with_reducible apply And.intro)
  all_goals (first | exact rises_ok (by decide +kernel) | exact may_ok (by decide +kernel) | exact names_ok (by decide +kernel) | exact wf_ok (by decide +kernel) | exact ready_ok (by decide +kernel) | exact smGet_all (P := fun _ (x : Partner) => x.cfgDone = none) (fun _ => rfl) _ (by decide +kernel) | exact asWritten_ok (by decide +kernel) | decide +kernel)

/-- Stone 0 with the raw block of course 1 and group 31, and the entry of course 1. -/
def storedBytes : List Host.Cell :=
  [(6, 0x01), (7, 0x1F), (8, 0x18), (15, 0x03), (22, 0x01), (23, 0x1F), (24, 0x1A), (25, 0x80), (35, 0x03), (36, 0x22), (37, 0x65), (38, 0xB7), (39, 0xC9),
    (4092, 0x2F), (4093, 0x9B), (4094, 0xBD), (4095, 0x84)] ++
  [(entryQa 1 + 6, 0x01), (entryQa 1 + 301, 0x01), (entryQa 1 + 302, 0x80), (entryQa 1 + 303, 0x80), (entryQa 1 + 508, 0xA4), (entryQa 1 + 509, 0x1A),
    (entryQa 1 + 510, 0xFC), (entryQa 1 + 511, 0x30)]

/-- A running quarry that holds course 1; a request of unit 0 for some courses; two of its stones wait to be written. -/
def stored (courses : List Nat) (broken : Bool) : State :=
  { full with
    hbm := { full.hbm with bytes := storedBytes, written := [(0, true), (entryQa 1 / 4096, true), (qaImage / 4096, true), (qaImage / 4096 + 1, true)] }
    qry := { full.qry with
      phase := .running, writer := 5, openStone := some ⟨[], none, 98, 31, true, false⟩, full := [(0, List.replicate 512 0), (4, List.replicate 512 0)]
      published := [1], newest := some 1, hist := 1, reads := [⟨0, false, 0, 1, courses, [31], some (0, 0), broken⟩] }
    mrt := { full.mrt with
      nextId := 1
      table := [⟨0, .recall, 1, 0, 0, 0, 0, 0, 0, 0, 64, ⟨99, 0⟩, true, 0, [⟨0, true, true, [], [], [], [], []⟩], [⟨0, 0, 1, 16, .building, [], .zero⟩]⟩] } }

/-- Course 2 waits for its entry: nothing of it waits in a stone. -/
def publishable : State :=
  { stored [] false with
    qry := { (stored [] false).qry with jobs := [⟨2, []⟩], reads := [] }, ring := { full.ring with closes := [⟨2, [(63, 31)], [], true⟩] }
    quo := { full.quo with courses := [⟨2, ⟨0, 0, 0⟩, 2⟩] } }

/-- The words of course 1's entry. -/
def entry1 : List DWord := hbmWords (stored [1] false) (entryQa 1) 64

/-- Its CRC holds. -/
theorem entry1_read : readIndex (stored [1] false) 1 = some entry1 := by
  have h : dfld ((hbmWords (stored [1] false) (entryQa 1) 64).getD 63 0) 31 0 = entryCrc (hbmWords (stored [1] false) (entryQa 1) 64) ∧
      dfld ((hbmWords (stored [1] false) (entryQa 1) 64).getD 0 0) 63 8 = 1 := by
    constructor
    · simp only [entryCrc, crc32c_run]; decide +kernel
    · decide +kernel
  unfold readIndex; exact if_pos h
/-- Course 90 has a block in the open stone, and five courses and more have passed since. -/
def closing (course : Nat) : State :=
  let s := stored [1] false
  { s with
    qry := { s.qry with jobs := [⟨course, [⟨31, 5, 0, 3, true, 0⟩]⟩], openStone := some ⟨[1, 2, 3], none, course, 31, true, false⟩ }
    ring := { full.ring with closes := [⟨course, [(63, 31)], [], true⟩] } }
/-- An open stone; full stones, the first with course H's first block and the second without; an entry that is due and one that is not; an entry rewritten. -/
theorem witness_StonesAndIndex :
    (isUp (stored [1] false) = true) ∧
    (TablesRise (stored [1] false)) ∧
    (MemoryWf (stored [1] false)) ∧
    ((stored [1] false).qry.phase = .running ∧ (stored [1] false).qry.openStone = some ⟨[], none, 98, 31, true, false⟩ ∧ full.qry.phase ≠ .running) ∧
    ((stored [1] false).qry.full = (0, List.replicate 512 0) :: [(4, List.replicate 512 0)] ∧ (List.replicate 512 0 : List DWord).length = 512) ∧
    ((stored [1] false).qry.published = 1 :: [] ∧ firstStone entry1 = 0 ∧ (0 : Nat) ≠ 4) ∧
    ((⟨0, false, 0, 1, [1], [31], some (0, 0), false⟩ : QReq) ∈ (stored [1] false).qry.reads ∧ stoneSpan 0 0 ≤ stoneSpan 0 0) ∧
    (publishReady full = none ∧ publishReady publishable = some (⟨2, []⟩, ⟨2, [(63, 31)], [], true⟩)) ∧
    (TablesRise publishable) ∧
    (MemoryWf publishable) ∧
    ((2 : Nat) < 2 ^ 56 ∧ (courseTime publishable 2).quality ≤ 2 ∧ isUp publishable = true) ∧
    ((1#56).toNat ∈ (stored [1] false).qry.published ∧ smGet 0 (stored [1] false).qry.rewritten 1 ≠ nowCourse (stored [1] false) + 1) ∧
    (closeRec { stored [1] false with ring := { full.ring with closes := [⟨1, [(63, 31)], [], true⟩] } } (1#56).toNat = some ⟨1, [(63, 31)], [], true⟩) ∧
    (closeDue (closing 90) = true ∧ closeDue (closing 95) = false ∧ (closing 90).qry.phase = .running) ∧
    (closeDue (at_ 100 42 16 (closing 95)) = true ∧ closeDue (at_ 100 42 15 (closing 95)) = false) ∧
    (TablesRise (closing 90)) ∧
    (MemoryWf (closing 90)) ∧
    (AsWritten 7 0 (stored [1] false)) := by
  repeat' (with_reducible apply And.intro)
  all_goals (first | exact rises_ok (by decide +kernel) | exact may_ok (by decide +kernel) | exact names_ok (by decide +kernel) | exact wf_ok (by decide +kernel) | exact ready_ok (by decide +kernel) | exact smGet_all (P := fun _ (x : Partner) => x.cfgDone = none) (fun _ => rfl) _ (by decide +kernel) | exact asWritten_ok (by decide +kernel) | decide +kernel)

/-- The entry of a published course is the one that is read. -/
theorem witness_StonesAndIndex_entry : firstStone (entryOf (stored [1] false) 1) = 0 := by
  rw [entryOf, entry1_read]; decide +kernel

/-- Stone 0 is good. -/
theorem stone0_good : stoneGood (stored [1] false) 0 = true := by
  have h : hbmRead (stored [1] false).hbm.bytes (4096 * 0) 4096 = hbmRead storedBytes 0 40 ++ (List.replicate 4052 0 ++ hbmRead storedBytes 4092 4) := by
    rw [← read_blank storedBytes 40 4052 (by decide +kernel), show (4092 : Nat) = 40 + 4052 from rfl, ← read_append, ← Nat.zero_add 40, ← read_append]
    rfl
  simp only [stoneGood, crc32c_run, h]; decide +kernel

/-- The descriptor of its one block, which is in stone 0. -/
theorem witness_QuarryIsRead_desc : (entryOf (stored [1] false) 1).getD (6 + 31) 0 = 0x18080 ∧ descStones 0x18080 = [0] := by
  constructor
  · rw [entryOf, entry1_read]; decide +kernel
  · decide +kernel

theorem badStone_none {s : State} {d : DWord} {n : Nat} (h : descStones d = [n]) (hg : stoneGood s n = true) : badStone s d [] = none := by
  simp [badStone, h, hg]

theorem desc_stone0 : descStones (0x18080 : DWord) = [0] := by decide +kernel

/-- No stone of the block is bad, and the block decodes to no records. -/
theorem witness_QuarryIsRead_block : badStone (stored [1] false) 0x18080 [] = none ∧ decodeBlock (blockWords (stored [1] false) 0x18080) = some [] :=
  ⟨badStone_none desc_stone0 stone0_good, by decide +kernel⟩

/-- The same course without a readable entry: its descriptor comes damaged from the stub. -/
def stubbed : State := { stored [1] false with hbm := { full.hbm with bytes := [(entryQa 1 + 303, 0x80)], written := [(entryQa 1 / 4096, true)] } }

theorem witness_QuarryIsRead_damaged : dfld ((entryOf stubbed 1).getD (6 + 31) 0) 7 7 = 1 ∧ dfld ((entryOf stubbed 1).getD (6 + 31) 0) 5 5 = 1 := by
  have h : readIndex stubbed 1 = none := by
    unfold readIndex; exact if_neg (fun h => absurd h.2 (by decide +kernel))
  rw [entryOf, h]; exact ⟨by decide +kernel, by decide +kernel⟩

/-- A pin that fits in what the limit leaves. -/
def unpinned : State := { stubbed with qry := { stubbed.qry with reads := [⟨0, false, 0, 1, [1], [31], none, false⟩] } }
/-- Another request pins all but nothing of the limit. -/
def crowded : State := { stubbed with qry := { stubbed.qry with reads := [⟨1, true, 0, 1, [1], [31], some (0, 1048575), false⟩, ⟨0, false, 0, 1, [1], [31], none, false⟩] } }

/-- A request for group 30, of which course 1 has no block. -/
def blockless : State := { stored [1] false with qry := { (stored [1] false).qry with reads := [⟨0, false, 0, 1, [1], [30], some (0, 0), false⟩] } }
/-- Requests that are broken, that wait, that lie before H and that read a block, with a bad stone and a good one; windows reached and not, written and not, with and without an error. -/
theorem witness_QuarryIsRead :
    (isUp (stored [1] false) = true) ∧
    (TablesRise (stored [1] true)) ∧
    ((stored [1] false).qry.reads.find? (fun q => !q.job) = some ⟨0, false, 0, 1, [1], [31], some (0, 0), false⟩) ∧
    ((entryById (stored [1] false) 0).map (·.id) = some 0 ∧ ((entryById (stored [1] false) 0).bind (fun e => e.gather 0)).map (·.parts) = some []) ∧
    ((∀ r ∈ full.qry.reads, r.job = true) ∧ (stored [1] true).qry.reads.map (·.broken) = [true]) ∧
    (historyStart (stored [1] false) = 1 ∧ (stored [1] false).qry.newest = some 1 ∧ 1 ∈ (stored [1] false).qry.published ∧ 0 < 1 ∧ 1 < 2) ∧
    ((stored [2] false).qry.reads.map (·.courses) = [[2]] ∧ (stored [0] false).qry.reads.map (·.courses) = [[0]]) ∧
    (badStone (stored [1] false) 0x18080 [0] = some 0 ∧ dfld (0x18080 : DWord) 7 7 = 1 ∧ dfld (0x18080 : DWord) 5 5 = 0 ∧ dfld (0 : DWord) 7 7 = 0) ∧
    (pinnedStones (stored [1] false) ≤ 1048576 ∧ full.qry.reads.findIdx? (fun x => x.pin.isNone && !x.broken && (pinFor full x).isSome) = none) ∧
    (MemoryWf (stored [1] false)) ∧
    (linked 1 full = true ∧ qaReachable full 0 = true ∧ qaReachable State.reset 0 = false ∧ windowQa full 1 0 = 0) ∧
    (smGet false (stored [1] false).hbm.written 0 = true ∧ smGet false full.hbm.written 0 = false ∧ (∀ e ∈ [((1 : Nat), HbmLoc.mk 0 0)], e.1 ≠ 0 / 32)) ∧
    ((1, HbmLoc.mk 0 0) ∈ [((1 : Nat), HbmLoc.mk 0 0)] ∧ (32 : Nat) / 32 = 1 ∧ qaReachable full (32 * 1) = true) ∧
    (qaReserve ≤ windowQa (full.modPort 1 fun h => { h with hwinPage := 0xB }) 1 0xC0000000 ∧ qaReachable full qaReserve = true) ∧
    (windowWritable (4096 * (qaImage / 4096)) = true ∧ windowQa (full.modPort 0 fun h => { h with hwinPage := 0xB }) 0 0x44000000 = qaImage) ∧
    (([none, some 5] : List (Option Byte)) ≠ [] ∧ qaImage / 4096 = (qaImage + ([none, some 5] : List (Option Byte)).length - 1) / 4096) ∧
    (windowWritable 0 = false ∧ (0 : Nat) ∉ full.qry.refusedRun) ∧
    (TablesRise blockless) ∧
    (MemoryWf blockless) ∧
    (TablesRise stubbed) ∧
    (MemoryWf stubbed) ∧
    (TablesRise crowded) ∧
    (MemoryWf crowded) ∧
    (TablesRise unpinned) ∧
    (linked 1 (stored [1] false) = true ∧ windowQa (full.modPort 1 fun h => { h with hwinPage := 0xF }) 1 0 = 0xF00000000 ∧ qaReachable (modDomain 69 (fun x => { x with phase := .off }) full) 0 = false) ∧
    ((0 : Nat) ∈ ({ full with qry := { full.qry with refusedRun := [0] } } : State).qry.refusedRun) := by
  repeat' (with_reducible apply And.intro)
  all_goals (first | exact rises_ok (by decide +kernel) | exact may_ok (by decide +kernel) | exact names_ok (by decide +kernel) | exact wf_ok (by decide +kernel) | exact ready_ok (by decide +kernel) | exact smGet_all (P := fun _ (x : Partner) => x.cfgDone = none) (fun _ => rfl) _ (by decide +kernel) | decide +kernel)

/-- The request that waits for pin space is the one that pins. -/
theorem witness_QuarryIsRead_pin : unpinned.qry.reads.findIdx? (fun x => x.pin.isNone && !x.broken && (pinFor unpinned x).isSome) = some 0 := by
  have h : (pinFor unpinned ⟨0, false, 0, 1, [1], [31], none, false⟩).isSome = true := by decide +kernel
  have h' : unpinned.qry.reads = [⟨0, false, 0, 1, [1], [31], none, false⟩] := rfl
  rw [h', List.findIdx?_cons]; simp only [h]; rfl
/-- Block 0 of group 31 in a state. -/
def block (ph : BlockPhase) (d : DWord) : State := setTblock 31 0 ⟨ph, d, 0x69B4⟩ full

/-- The archive granule of that block: zeros, with their CRC; the bank has been loaded, the block is DAMAGED and queued. -/
def archived : State :=
  let s := modGroup 31 (fun y => { y with loaded := [0] }) (block .damaged 0)
  { s with
    hbm := { s.hbm with
      bytes := [(archiveCrcQa 31 0, 0x89), (archiveCrcQa 31 0 + 1, 0x41), (archiveCrcQa 31 0 + 2, 0xF9), (archiveCrcQa 31 0 + 3, 0x98)]
      written := [(archiveQa 31 / 4096, true), (qaImage / 4096, true)] }
    mem := { s.mem with restore := [(31, 0)] } }

theorem archived_holds : archiveCrcHolds archived 31 0 = true := by
  have h : archiveGranule archived 31 0 = List.replicate 4096 0 := read_blank _ _ _ (by decide +kernel)
  refine archiveCrc_ok ?_
  rw [h]; decide +kernel
/-- The request that waits for pin space. -/
def wanting : QReq := ⟨0, false, 0, 1, [1], [31], none, false⟩

theorem pinFor_crowded : pinFor crowded wanting = some (0, 0) := by
  have h : readIndex crowded 1 = none := by unfold readIndex; exact if_neg (fun h => absurd h.2 (by decide +kernel))
  have h' : pinFor crowded wanting = some (firstStone (entryOf crowded 1), lastStone (entryOf crowded 1)) := rfl
  rw [h', entryOf, h]; decide +kernel
theorem pinFor_unpinned : pinFor unpinned wanting = some (0, 0) := by
  have h : readIndex unpinned 1 = none := by unfold readIndex; exact if_neg (fun h => absurd h.2 (by decide +kernel))
  have h' : pinFor unpinned wanting = some (firstStone (entryOf unpinned 1), lastStone (entryOf unpinned 1)) := rfl
  rw [h', entryOf, h]; decide +kernel

/-- The request of a crowded quarry still waits; the one that finds room does not. -/
theorem witness_QuarryIsRead_waits : pinWaits crowded (pinRequest crowded 1 wanting) = true ∧ crowded.qry.reads.findIdx (fun q => !q.job) = 1 ∧
    pinWaits unpinned (pinRequest unpinned 0 wanting) = false := by
  have h : ∀ p, pinFor unpinned { wanting with pin := p } = some (0, 0) := fun _ => pinFor_unpinned
  have h0 : pinWaits unpinned wanting = true := by decide +kernel
  have h1 : pinnedStones unpinned = 0 := by decide +kernel
  have h2 : pinnedStones crowded = 1048576 := by decide +kernel
  refine ⟨?_, by decide +kernel, ?_⟩
  · have : pinRequest crowded 1 wanting = wanting := by
      unfold pinRequest; rw [pinFor_crowded]; simp [h2, wanting, QReq.pinned, stoneSpan, stoneCount]
    rw [this]; decide +kernel
  · have : pinRequest unpinned 0 wanting = { wanting with pin := some (0, 0) } := by
      unfold pinRequest; rw [pinFor_unpinned]; simp only [h0, h1]; simp [wanting, QReq.pinned, stoneSpan, stoneCount]
    rw [this]; unfold pinWaits; rw [h]; simp [QReq.covers, stoneSpan, stoneCount]

/-- The first block of the last group clean, with one flip, with two flips and with its restore already failed; a block at the head of the queue that can be restored and one that cannot. -/
theorem witness_TablesAreScrubbedAndRestored :
    (isUp full = true) ∧
    (TablesRise (block .good 0x2D2345664635C02A)) ∧
    (MemoryWf (block .good 0x2D2345664635C02A)) ∧
    (repointerRuns full = true ∧ domOn full 31 = true ∧ 0 = (tgroup full 31).scrubPos ∧ 0 < groupBlocks ∧ repointerRuns State.reset = false) ∧
    ((tblock (block .good 0x2D2345664635C02A) 31 0).phase = .good ∧ readOutcome 0x2D2345664635C02A 0x69B4 = .clean 0x2D2345664635C02A) ∧
    (readOutcome 0x2D2345664615C02A 0x69B4 = .corrected 0x2D2345664635C02A 0x0420 ∧ full.mem.inject = none ∧ ((blockMemory 0).1, 31) ∉ full.mem.corrRaised) ∧
    (readOutcome 0x2D2345664611C02A 0x69B4 = .uncorrectable ∧ full.mem.restore.length < 128 ∧ smGet false full.mem.restoreFailed (31 * groupBlocks + 0) = false) ∧
    (full.mem.restore = [] ∧ archived.mem.restore = (31, 0) :: [] ∧ (tblock archived 31 0).phase = .damaged ∧ domOn archived 31 = true ∧ archived.mem.inject = none) ∧
    (restorable (block .damaged 0) 31 0 = false ∧ HbmSeverity.none ≠ .uncorrectable) ∧
    (TablesRise archived) ∧
    (MemoryWf archived) ∧
    ((tblock (block .damaged 0) 31 0).phase = .damaged ∧ (block .damaged 0).mem.restore.length < 128 ∧ smGet false (block .damaged 0).mem.restoreFailed (31 * groupBlocks + 0) = false) ∧
    (TablesRise (block .damaged 0)) ∧
    (TablesRise (block .good 0x2D2345664615C02A)) ∧
    (TablesRise (block .good 0x2D2345664611C02A)) ∧
    (MemoryWf (block .damaged 0)) ∧
    (MemoryWf (block .good 0x2D2345664615C02A)) ∧
    (MemoryWf (block .good 0x2D2345664611C02A)) ∧
    (qaReachable archived (archiveQa 31 + 8 * 0) = true ∧ HbmSeverity.corrected 1 = .corrected 1) ∧
    (smGet false (setCell .memCtl 0 0 0 { full with mem := { full.mem with restoreFailed := [(31 * 139264 + 1, true)] } }).mem.restoreFailed (31 * 139264 + 1) = true) := by
  repeat' (with_reducible apply And.intro)
  all_goals (first | exact rises_ok (by decide +kernel) | exact may_ok (by decide +kernel) | exact names_ok (by decide +kernel) | exact wf_ok (by decide +kernel) | exact ready_ok (by decide +kernel) | exact smGet_all (P := fun _ (x : Partner) => x.cfgDone = none) (fun _ => rfl) _ (by decide +kernel) | decide +kernel)

theorem restorable_ok {s : State} {g b : Nat} (h : ((tgroup s g).loaded.contains (blockBank b) && !smGet false s.hbm.badMarks (g * 272 + blockGranule b) &&
    qaReachable s (archiveQa g + 8 * b)) = true) (hc : archiveCrcHolds s g (blockGranule b) = true) : restorable s g b = true := by
  simp only [restorable, h, hc, Bool.true_and]

/-- The block can be restored. -/
theorem witness_TablesAreScrubbedAndRestored_ok : restorable archived 31 0 = true := restorable_ok (by decide +kernel) archived_holds
/-- A hit in the queue of engine 8, a record in the Plumb's store and one in a bucket of the ring. -/
def holdingSram : State :=
  let s := modEngine 8 (fun y => { y with queue := [hit1] }) (coding [(31, 0)] 9)
  { s with plb := { s.plb with store := [⟨0, 0, false⟩], written := 1 } }

/-- Course 1 has left the history; its slot still holds its entry, which does not read well. -/
def leftOver : State := { stubbed with qry := { stubbed.qry with published := [], left := [1], reads := [] } }
/-- The first and the last copy of memories, counted before in the course and not; HBM regions of each kind, with the pass under way and at its end; injections enabled and not. -/
theorem witness_MemoryErrorsAreCaught :
    (isUp full = true) ∧
    (NamesInRange full) ∧
    (TablesRise full) ∧
    (MemoryWf full) ∧
    (31 < memCount 0 ∧ memDomain 0 31 = some 31 ∧ domOn full 31 = true ∧ 131071 < ofsBlocks) ∧
    ((tblock (setTblock 31 131071 ⟨.good, 0, checkBits 0⟩ full) 31 131071).phase = .good ∧ (tblock (setTblock 31 (ofsBlocks + 8191) ⟨.good, 0, checkBits 0⟩ full) 31 (ofsBlocks + 8191)).phase = .good) ∧
    ((0, 31) ∉ full.mem.corrRaised ∧ 8 < memCount 5 ∧ memDomain 5 8 = some 60 ∧ domOn full 60 = true ∧ 0 < memCount 9 ∧ memDomain 10 0 = none) ∧
    ((engine (modEngine 8 (fun y => { y with queue := [hit1] }) full) 8).queue[0]? = some hit1) ∧
    (({ full with plb := { full.plb with store := [⟨0, 0, false⟩] } } : State).plb.store[1 / 2]? = some ⟨0, 0, false⟩) ∧
    (smGet false full.mem.hbmCorr 0 = false ∧ (granuleKind (0xFFFFFFFFF / 4096)).isQuarry = false ∧ (granuleKind 0).isQuarry = true) ∧
    (repointerRuns full = true ∧ nextGranule full (fld (cell full .memScrubPos) 23 0) = none ∧ repointerRuns State.reset = false) ∧
    (nextGranule (stored [1] false) 0 = some 0 ∧ granuleKind 0 = .stone 0 ∧ nextGranule (stored [1] false) 1 = some (entryQa 1 / 4096)) ∧
    (granuleKind (entryQa 1 / 4096) = .index 0 ∧ nextGranule (stored [1] false) (entryQa 1 / 4096 + 1) = some (qaImage / 4096) ∧ 0 ≤ 1 % 2097152 ∧ 1 % 2097152 < 0 + 8) ∧
    (granuleKind (qaImage / 4096) = .other ∧ nextGranule (stored [1] false) (qaImage / 4096 + 1) = some (qaImage / 4096 + 1)) ∧
    (fld (cell (setCell .memScrubPos 0 0 (w32 (qaImage / 4096)) (stored [1] false)) .memScrubPos) 23 0 = qaImage / 4096) ∧
    (nextGranule archived (archiveQa 31 / 4096) = some (archiveQa 31 / 4096) ∧ granuleKind (archiveQa 31 / 4096) = .archive 31 0 ∧ repointerRuns archived = true) ∧
    (nextGranule archived (archiveQa 31 / 4096 + 1) = some (qaImage / 4096)) ∧
    (∀ c ∈ (stored [1] false).qry.published, c < 2 ^ 56) ∧
    (HostMay 0 .memInject 0 0 0x80000 (setCell .memCtl 0 0 1 full)) ∧
    (bit (cell (setCell .memCtl 0 0 1 full) .memCtl) 0 = true ∧ bit 0x80000 19 = true ∧ bit (cell full .memCtl) 0 = false) ∧
    (HostMay 1 .btrInject 0 0 0x80BF (setCell .btrCtl 0 0 1 full)) ∧
    (bit (cell (setCell .btrCtl 0 0 1 full) .btrCtl) 0 = true ∧ bit 0x80BF 15 = true ∧ fld 0x80BF 7 6 = 2 ∧ fld 0x80FF 7 6 = 3) ∧
    (sramHeld holdingSram 5 8 1 = true ∧ (eccBlock holdingSram 5 8 1).phase = .good ∧ (engine holdingSram 8).queue.find? (fun y => y.covers 1) = some hit1) ∧
    (sramHeld holdingSram 9 0 0 = true ∧ plbPlace holdingSram.plb 0 = some 0 ∧ (eccBlock holdingSram 9 0 0).phase = .good ∧ 0 < memCount 9) ∧
    (sramHeld holdingSram 2 3 8 = true ∧ ringBlockAt holdingSram 3 8 = some (96, 31, 1, 0) ∧ (eccBlock holdingSram 2 3 8).phase = .good ∧ memDomain 2 3 = some 64) ∧
    (TablesRise holdingSram) ∧
    (MemoryWf holdingSram) ∧
    (NamesInRange holdingSram) ∧
    ((0, 31) ∈ ({ full with mem := { full.mem with corrRaised := [(0, 31)] } } : State).mem.corrRaised) ∧
    (MemoryWf stubbed) ∧
    (MemoryWf leftOver) ∧
    (TablesRise leftOver) ∧
    (∀ c ∈ leftOver.qry.left ++ leftOver.qry.published, c < 2 ^ 56) ∧
    (nextGranule leftOver 0 = some (entryQa 1 / 4096) ∧ granuleKind (entryQa 1 / 4096) = .index 0 ∧ repointerRuns leftOver = true) := by
  repeat' (with_reducible apply And.intro)
  all_goals (first | exact rises_ok (by decide +kernel) | exact may_ok (by decide +kernel) | exact names_ok (by decide +kernel) | exact wf_ok (by decide +kernel) | exact ready_ok (by decide +kernel) | exact smGet_all (P := fun _ (x : Partner) => x.cfgDone = none) (fun _ => rfl) _ (by decide +kernel) | decide +kernel)

/-- Entries of the index that read well and that do not; an archive granule without its CRC. -/
theorem witness_MemoryErrorsAreCaught_read : (readIndex (stored [1] false) 1).isSome = true ∧ readIndex stubbed 1 = none ∧
    stoneGood (stored [1] false) 0 = true ∧ archiveCrcHolds archived 31 0 = true := by
  refine ⟨by rw [entry1_read]; rfl, ?_, stone0_good, archived_holds⟩
  unfold readIndex; exact if_neg (fun h => absurd h.2 (by decide +kernel))

/-- Accepts and recalls enabled on active domain 1; class 7 on stream 47; the next number expected. -/
def accepting (n : Option Nat) : State :=
  let s := setCell .mrtAccCtl 0 0 3 timed
  let s := setCb .mrtClassMapHi 7 ⟨.of 0x8000, false⟩ (setCb .mrtStreamCfg 47 ⟨.of 0x40000010, false⟩ s)
  { s with btr := { s.btr with expected := .of (match n with | some k => BitVec.ofNat 49 (2 * k + 1) | none => 0) } }

/-- The body of an accept of class 7 with a number, at BT 6,400. -/
def acceptBody (n : Nat) : List Byte := beBytes 6 n ++ [7, 0] ++ beBytes 8 6400 ++ beBytes 8 0
/-- The body of a recall of class 7 with a number, of 64 BT from BT 6,400. -/
def recallBody (n : Nat) : List Byte := beBytes 6 n ++ [7, 0] ++ beBytes 8 6400 ++ beBytes 4 64 ++ beBytes 4 0 ++ beBytes 8 0

/-- An entry of the table with one gather and one record. -/
def tabled (kind : EntryKind) (bt : Int) (g : Gather) (r : StreamRec) : AccEntry := ⟨0, kind, 1, 0, 0, 7, bt, 0, 0, 63, 64, ⟨99, 0⟩, false, 0, [g], [r]⟩

/-- A state whose table holds it. -/
def withEntry (e : AccEntry) (s : State) : State := { s with mrt := { s.mrt with nextId := 1, table := [e], unitsIn := [0, 1, 2, 3] } }

/-- A record on stream 47 by unit 3, of partner 63. -/
def recOn (ph : RecPhase) (cells : CellUse) : StreamRec := ⟨47, 3, 0x8000000000000000, 16, ph, [], cells⟩

/-- A prompt accept of course 98, which the ring may hold. -/
def extracting (inRing : Bool) : State :=
  withEntry (tabled .accept 6272 ⟨3, false, false, [], [], [], [], []⟩ (recOn .building .zero))
    { full with ring := { full.ring with quarters := if inRing then [(3, ⟨true, 98, [], 0, []⟩)] else [], closes := [⟨98, [(63, 31)], [3], true⟩] } }

/-- A recall with 17 courses to ask for. -/
def recalling : AccEntry := tabled .recall 640 ⟨3, true, true, [], List.range 17, [], [], []⟩ (recOn .building .zero)
/-- The same while a record on stream 0 holds every cell of bank 3, the only bank that is ON. -/
def noneFree (inRing : Bool) : State :=
  let s := extracting inRing
  let s := modStream 0 (fun x => { x with out := [⟨0, 1, [], 0, (List.range 8192).map (24576 + ·), false, 0, [], false, false⟩] }) s
  { s with pwr := { s.pwr with domains := s.pwr.domains.filter (fun d => decide (d.1 < 71 ∨ 73 < d.1)) } }
/-- Messages not for us, not enabled, malformed, a duplicate, ahead, in order and first; the table full; a ring that holds a window and one that does not; a recall with more than 16 courses. -/
theorem witness_AcceptsEnterTheTable :
    (isUp (accepting none) = true) ∧
    (TablesRise (accepting none)) ∧
    (NamesInRange (accepting none)) ∧
    (linkReceives (accepting none) 0 = false ∧ linkReceives (accepting none) 1 = true ∧ (accepting none).quo.active = 1) ∧
    ((Instr.recallMessage 1 [], 1) ∈ [(Instr.accept 1 [], 0), (.recallMessage 1 [], 1)] ∧ bit (cell timed .mrtAccCtl) 1 = false ∧ bit (cell (accepting none) .mrtAccCtl) 1 = true) ∧
    (parseAccept (1 == 1) [] = none ∧ parseAccept false (acceptBody 5) = some ⟨false, 5, 7, 6400, 0, 0⟩ ∧ parseAccept true (recallBody 5) = some ⟨true, 5, 7, 6400, 64, 0⟩) ∧
    (expectedNumber (accepting (some 6)) = some 6 ∧ behind 48 5 6 = true ∧ behind 48 7 6 = false ∧ (7 : Nat) ≠ 6) ∧
    (expectedNumber (accepting none) = none ∧ expectedNumber (accepting (some 5)) = some 5 ∧ behind 48 5 5 = false) ∧
    (tableFull (accepting none) = false ∧ classStreams (accepting none) 7 = [47] ∧ classStreams (accepting none) 0 = []) ∧
    (tableFull { accepting none with mrt := { Mortar.reset with table := List.replicate 4096 recalling } } = true) ∧
    (gapReason (accepting none) ⟨false, 5, 7, 6400, 0, 0⟩ 6400 ≠ 0 ∧ gapReason (setCb .mrtWindow 7 ⟨.of 0x40000000, false⟩ (accepting none)) ⟨false, 5, 7, 6400, 0, 0⟩ 6400 = 0) ∧
    (TablesRise (extracting true)) ∧
    (entryById (extracting true) 0 = some (tabled .accept 6272 ⟨3, false, false, [], [], [], [], []⟩ (recOn .building .zero))) ∧
    (extractable (extracting true) (tabled .accept 6272 ⟨3, false, false, [], [], [], [], []⟩ (recOn .building .zero)) 3 = true) ∧
    (extractable (extracting true) (tabled .accept 6272 ⟨3, false, false, [], [], [], [], []⟩ (recOn .building .zero)) 0 = false) ∧
    ((tabled .accept 6272 ⟨3, false, false, [], [], [], [], []⟩ (recOn .building .zero)).courses = [98] ∧ (closeRec (extracting true) 98).isSome = true) ∧
    (pairGroups ⟨98, [(63, 31)], [3], true⟩ (unitNeed [recOn .building .zero] 3) = [31]) ∧
    (ringHolds (extracting true) 98 31 = true ∧ ringHolds (extracting false) 98 31 = false) ∧
    ((withEntry recalling full).mrt.table.find? (fun e => e.kind == .recall && (match e.gather 3 with | some g => !g.toSubmit.isEmpty | none => false) &&
      !(withEntry recalling full).qry.reads.any (fun r => !r.job && r.owner == e.id && r.unit == 3)) = some recalling) ∧
    (entryById (withEntry recalling full) recalling.id = some recalling ∧ recalling.gather 3 = some ⟨3, true, true, [], List.range 17, [], [], []⟩) ∧
    (extractable (noneFree true) (tabled .accept 6272 ⟨3, false, false, [], [], [], [], []⟩ (recOn .building .zero)) 3 = true ∧ freeCells (noneFree true) = 0) ∧
    (unitNeed (tabled .accept 6272 ⟨3, false, false, [], [], [], [], []⟩ (recOn .building .zero)).recs 3 ≠ 0 ∧ 0 < freeCells (extracting true)) ∧
    (TablesRise (noneFree true)) ∧
    (∀ m < 4, AsWritten 2 m (extracting true)) ∧
    (TablesRise (extracting false)) ∧
    (TablesRise (accepting (some 5))) ∧
    (NamesInRange (accepting (some 5))) ∧
    (TablesRise (accepting (some 4))) ∧
    (NamesInRange (accepting (some 4))) ∧
    (TablesRise (accepting (some 6))) ∧
    (NamesInRange (accepting (some 6))) := by
  repeat' (with_reducible apply And.intro)
  all_goals (first | exact rises_ok (by decide +kernel) | exact may_ok (by decide +kernel) | exact names_ok (by decide +kernel) | exact wf_ok (by decide +kernel) | exact ready_ok (by decide +kernel) | exact smGet_all (P := fun _ (x : Partner) => x.cfgDone = none) (fun _ => rfl) _ (by decide +kernel) | exact asWritten_all (by decide +kernel) | decide +kernel)

/-- A record of partner 63 in BT 0. -/
def record63 : DWord := BitVec.ofNat 64 (63 * 2 ^ 58)

/-- What unit 3 gathered of course 94. -/
def gather94 : Gather := ⟨3, true, false, [], [], [⟨94, 31, .ring [⟨record63, []⟩]⟩], [(94, [(63, 31)])], []⟩

/-- An accept of course 94 with a record on stream 47. -/
def entry94 (r : StreamRec) : AccEntry := tabled .accept 6016 gather94 r

/-- No mortar domain is ON. -/
def noCells (s : State) : State := { s with pwr := { s.pwr with domains := s.pwr.domains.filter (fun d => decide (d.1 < 71)) } }
/-- A record whose data is gathered and one whose is not, whole and cut, with cells and without; one that waits, one at the head past its time; cells that fail before and after release. -/
theorem witness_FragmentsTakeCells :
    (isUp (withEntry (entry94 (recOn .building .zero)) full) = true) ∧
    (TablesRise (withEntry (entry94 (recOn .building .zero)) full)) ∧
    (entryById (withEntry (entry94 (recOn .building .zero)) full) 0 = some (entry94 (recOn .building .zero))) ∧
    ((entry94 (recOn .building .zero)).recs.find? (fun x => x.stream == 47 && x.phase == .building) = some (recOn .building .zero)) ∧
    ((entry94 (recOn .building .zero)).gather 3 = some gather94 ∧ gathered full (entry94 (recOn .building .zero)) gather94 = true) ∧
    (gathered full (tabled .accept 6080 gather94 (recOn .building .zero)) gather94 = false) ∧
    (takeCells full [] 1 = some [0] ∧ takeCells (noCells full) [] 1 = none ∧ freeCells (noCells full) = 0 ∧ 0 < freeCells full) ∧
    ((entry94 (recOn (.waiting 0) .zero)).recs.find? (fun x => x.stream == 47 && x.isWaiting) = some (recOn (.waiting 0) .zero)) ∧
    ((entry94 (recOn (.waiting 0) .zero)).gather 3 = some gather94 ∧ gathered full (entry94 (recOn (.waiting 0) .zero)) gather94 = true) ∧
    (waitedHead full 47 = none ∧ waitedHead (withEntry (entry94 (recOn (.waiting 96) .zero)) full) 47 = some (entry94 (recOn (.waiting 96) .zero), recOn (.waiting 96) .zero)) ∧
    (TablesRise (withEntry (entry94 (recOn (.waiting 96) .zero)) full)) ∧
    ((entry94 (recOn .complete [0])).onStream 47 = some (recOn .complete [0]) ∧ (0#16).toNat ∈ [0]) ∧
    ((stream (modStream 47 (fun x => { x with out := [⟨0, 1, [0, 0, 0], 1, [0], false, 0, [], false, false⟩] }) full) 47).out = [⟨0, 1, [0, 0, 0], 1, [0], false, 0, [], false, false⟩]) ∧
    (cellsOf 3 = 1 ∧ (recOn .building .zero).cells.length + freeCells (noCells full) < 1 ∧ 1 ≤ (recOn .building .zero).cells.length + freeCells full) ∧
    (TablesRise (noCells (withEntry (entry94 (recOn .building .zero)) full))) ∧
    (TablesRise (noCells (withEntry (entry94 (recOn (.waiting 96) .zero)) full))) ∧
    (TablesRise (withEntry (tabled .accept 6080 gather94 (recOn (.waiting 96) .zero)) full)) ∧
    (TablesRise (withEntry (tabled .accept 6080 gather94 (recOn .building .zero)) full)) ∧
    (gathered full (tabled .accept 6080 gather94 (recOn (.waiting 96) .zero)) gather94 = false ∧ 0 < freeCells (withEntry (tabled .accept 6080 gather94 (recOn (.waiting 96) .zero)) full)) ∧
    ((recOn .complete [0]).isOpen = true ∧ (recOn (.waiting 96) [5]).isOpen = true ∧ (5#16).toNat ∈ (recOn (.waiting 96) [5]).cells) ∧
    (TablesRise (withEntry (entry94 (recOn .complete [0])) full)) ∧
    (TablesRise (withEntry (entry94 { recOn .building .zero with maxCells := 0 }) full)) ∧
    (TablesRise (modStream 47 (fun x => { x with out := [⟨0, 1, [0, 0, 0], 1, [0], false, 0, [], false, false⟩] }) (withEntry (entry94 (recOn .building .zero)) full))) := by
  repeat' (with_reducible apply And.intro)
  all_goals (first | exact rises_ok (by decide +kernel) | exact may_ok (by decide +kernel) | exact names_ok (by decide +kernel) | exact wf_ok (by decide +kernel) | exact ready_ok (by decide +kernel) | exact smGet_all (P := fun _ (x : Partner) => x.cfgDone = none) (fun _ => rfl) _ (by decide +kernel) | decide +kernel)

/-- The fragment of that record, cut where it may have no cells. -/
theorem witness_FragmentsTakeCells_cut :
    (formFragment full (entry94 { recOn .building .zero with maxCells := 0 }) gather94 0x8000000000000000 0).2 = some 6016 ∧
    (formFragment full (entry94 (recOn .building .zero)) gather94 0x8000000000000000 16).2 = none ∧
    cellsOf ((formFragment full (entry94 (recOn .building .zero)) gather94 0x8000000000000000 16).1.length + 3) = 1 := by
  decide +kernel

/-- A record ready on stream 47, with a balance. -/
def ready47 (ph : RecPhase) (cells : CellUse) (balance : BitVec 32) : State :=
  modUplink 47 (fun x => { x with phase := .active, granted := balance }) (withEntry (entry94 (recOn ph cells)) full)
/-- The next record of stream 47: complete, a gap and flushed; with its balance and one credit short; the data plane stopped; a unit that goes out. -/
theorem witness_RecordsAreReleased :
    (isUp (ready47 .complete [0] 1) = true) ∧
    (TablesRise (ready47 .complete [0] 1)) ∧
    (nextRelease full 47 = none ∧ nextRelease (ready47 .complete [0] 1) 47 = some (entry94 (recOn .complete [0]), recOn .complete [0])) ∧
    (releaseCovered (ready47 .complete [0] 1) 47 (recOn .complete [0]) = true ∧ releaseCovered (ready47 .complete [0] 0) 47 (recOn .complete [0]) = false) ∧
    (dpStopped (ready47 .complete [0] 1) = false ∧ (ready47 .complete [0] 1).mrt.refusal = none ∧ dpStopped stopped = true) ∧
    (nextRelease (ready47 (.gap 5) .zero 1) 47 = some (entry94 (recOn (.gap 5) .zero), recOn (.gap 5) .zero) ∧ releaseCovered (ready47 (.gap 5) .zero 1) 47 (recOn (.gap 5) .zero) = true) ∧
    (nextRelease (ready47 .flushed .zero 1) 47 = some (entry94 (recOn .flushed .zero), recOn .flushed .zero)) ∧
    (HostMay 0 .mrtStreamCtl 47 0 1 (ready47 .building .zero 0)) ∧
    ((recOn .building .zero).isOpen = true ∧ (recOn .building .zero).stream = 47) ∧
    (HostMay 1 .mrtAccCtl 0 0 (3 ||| 8) (accepting (some 5))) ∧
    (unitIn full 3 = true ∧ unitIn (noCells full) 3 = false ∧ 3 ∉ full.mrt.unitsIn ∧ 3 ∈ (noCells (ready47 .building .zero 0)).mrt.unitsIn) ∧
    (TablesRise (noCells (ready47 .building .zero 0))) ∧
    (AsWritten 6 0 (ready47 .complete [0] 1)) := by
  repeat' (with_reducible apply And.intro)
  all_goals (first | exact rises_ok (by decide +kernel) | exact may_ok (by decide +kernel) | exact names_ok (by decide +kernel) | exact wf_ok (by decide +kernel) | exact ready_ok (by decide +kernel) | exact smGet_all (P := fun _ (x : Partner) => x.cfgDone = none) (fun _ => rfl) _ (by decide +kernel) | exact asWritten_ok (by decide +kernel) | decide +kernel)

/-- The Lintel running, with groups to close and frames to send. -/
def lintel (f : Lintel → Lintel) : State := { full with lnt := f { full.lnt with phase := .running, formed := [⟨6400, [0, 0, 0, 0], []⟩], skipRun := some (6390, 6399, false) } }
/-- Group 0 keeps two records in region 5; the block of the first is DAMAGED. -/
def blotted : State :=
  setEcc 8 0 (5 * 32) ⟨.damaged, 0⟩ (lintel fun x => { x with groups := [(0, ⟨[⟨[(5, 7)], [5], false⟩, ⟨[(5, 9)], [5], true⟩], 0, false⟩)] })
/-- A group whose time has come and one whose has not; a frame that is sent, and one that is skipped by a stop and by a fall of the latency. -/
theorem witness_LintelFrames :
    (isUp (lintel id) = true) ∧
    (TablesRise (lintel id)) ∧
    ((lintel id).lnt.phase = .running ∧ closeMoment (lintel id) 0 ≤ nowAbs (lintel id) ∧ (lintel id).lnt.nextClose = 0 ∧ full.lnt.phase ≠ .running) ∧
    (nowAbs (lintel id) < closeMoment (lintel id) 6405 ∧ full.lnt.formed = []) ∧
    ((lintel id).lnt.formed = ⟨6400, [0, 0, 0, 0], []⟩ :: [] ∧ dpStopped (lintel id) = false ∧ (lintel id).lnt.fallSkip = none ∧ (lintel id).lnt.skipRun = some (6390, 6399, false)) ∧
    ((lintel (fun x => { x with fallSkip := some (6400, 6400) })).lnt.fallSkip = some (6400, 6400)) ∧
    (bit (cell (setCell .lntCtl 0 0 1 (lintel id)) .lntCtl) 0 = true ∧ bit (cell (setCell .lntCtl 0 0 2 (lintel id)) .lntCtl) 0 = false) ∧
    (AsWritten 8 0 (lintel id)) ∧
    (historyHolds blotted blotted.lnt.nextClose (5 * 32) = true ∧ (eccBlock blotted 8 0 (5 * 32)).phase = .damaged ∧ closeMoment blotted 0 ≤ nowAbs blotted) ∧
    (TablesRise blotted) := by
  repeat' (with_reducible apply And.intro)
  all_goals (first | exact rises_ok (by decide +kernel) | exact may_ok (by decide +kernel) | exact names_ok (by decide +kernel) | exact wf_ok (by decide +kernel) | exact ready_ok (by decide +kernel) | exact smGet_all (P := fun _ (x : Partner) => x.cfgDone = none) (fun _ => rfl) _ (by decide +kernel) | exact asWritten_ok (by decide +kernel) | decide +kernel)

/-- A credit message with its CRC. -/
def creditMsg (type lane granted : Nat) : BitVec 64 :=
  let m : BitVec 64 := BitVec.ofNat 64 (type * 2 ^ 60 + lane * 2 ^ 56 + granted * 2 ^ 24)
  m ||| (crc8 ((creditBytes m).take 7)).setWidth 64

/-- Return lane 11 with synchronisation, its uplink 47 in a phase with a grant. -/
def credited (ph : UplPhase) (granted : BitVec 32) : State :=
  modRetLane 11 (fun x => { x with sync := true }) (modUplink 47 (fun x => { x with phase := ph, granted := granted }) full)
/-- A CREDIT that moves, that lies behind and that names a DOWN uplink; an INIT of an IDLE and of an ACTIVE uplink; a lane without synchronisation. -/
theorem witness_CreditsMoveGrants :
    (isUp (credited .active 10) = true) ∧
    (TablesRise (credited .active 10)) ∧
    (retAble (credited .active 10) 11 = true ∧ (retLane (credited .active 10) 11).sync = true ∧ (retLane full 11).sync = false) ∧
    (creditGood (creditMsg 1 3 12) = true ∧ dfld (creditMsg 1 3 12) 63 60 = 1 ∧ 4 * 11 + dfld (creditMsg 1 3 12) 57 56 = 47 ∧ BitVec.ofNat 32 (dfld (creditMsg 1 3 12) 55 24) = 12) ∧
    (creditGood (creditMsg 2 3 0xFFFFFFFF) = true ∧ dfld (creditMsg 2 3 0xFFFFFFFF) 63 60 = 2) ∧
    ((uplink (credited .active 10) 47).phase = .active ∧ uplLintelLane (credited .active 10) 47 = none ∧ (uplink (credited .down 10) 47).phase = .down ∧ (uplink (credited .idle 10) 47).phase = .idle) ∧
    (behind 32 12 10 = false ∧ behind 32 12 0 = false ∧ behind 32 9 10 = true) ∧
    (blockOn (credited .active 10) 47 = none) ∧
    ((blockOn (modStream 47 (fun x => { x with block := some ⟨⟨0, 1, [], 1, .zero, false, 0, [], false, false⟩, [47], false⟩ }) (credited .active 10)) 47).isSome = true) ∧
    ((retLane (credited .active 10) 11).badRaised = false ∧ (retLane (modRetLane 11 (fun x => { x with badRaised := true }) (credited .active 10)) 11).badRaised = true) ∧
    (retAble State.reset 15 = false) := by
  repeat' (with_reducible apply And.intro)
  all_goals (first | exact rises_ok (by decide +kernel) | exact may_ok (by decide +kernel) | exact names_ok (by decide +kernel) | exact wf_ok (by decide +kernel) | exact ready_ok (by decide +kernel) | exact smGet_all (P := fun _ (x : Partner) => x.cfgDone = none) (fun _ => rfl) _ (by decide +kernel) | decide +kernel)

/-- A block of stream 47 on uplinks 47 and 55. -/
def onLinks (l : List Nat) : State := modStream 47 (fun x => { x with block := some ⟨⟨0, 1, [1, 2, 3], 1, .zero, false, 0, [], false, true⟩, l, false⟩ }) (credited .active 10)
/-- A block on its last carrier and with one to come; PLLs that unlock and lock; ENABLE of an ACTIVE and of a DOWN uplink. -/
theorem witness_UplinksFollow :
    (isUp (onLinks [47]) = true) ∧
    (TablesRise (onLinks [47, 55])) ∧
    (blockOn full 47 = none ∧ blockOn (onLinks [47]) 47 = some 47 ∧ [47].filter (fun v => !(v == 47)) = [] ∧ [47, 55].filter (fun v => !(v == 47)) ≠ []) ∧
    (((stream (onLinks [47]) 47).block.map (·.carriers)) = some [47] ∧ (stream (onLinks [47]) 47).out = [] ∧ (stream (onLinks [47]) 47).summary = none ∧ (stream (onLinks [47]) 47).beacon = none) ∧
    ((uplink (modUplink 47 (fun x => { x with initWait := some 5 }) (onLinks [47])) 47).initWait = some 5) ∧
    ((uplGroup full 7).pll = false ∧ (uplGroup (modUplGroup 7 (fun x => { x with pll := true }) full) 7).pll = true ∧ (uplGroup full 7).refHold = false) ∧
    (domOn full (40 + 7) = true ∧ isIsolated full (.uplinkGroup 7) = false ∧ bit (cell full .uplLinkCfg 63) 0 = true ∧ (uplink full 63).phase = .down ∧ domOn State.reset 40 = false) ∧
    (HostMay 0 .uplLinkCfg 47 0 0x8400 (credited .active 10)) ∧
    ((linkRole (credited .active 10) 47).1 ≠ 0 ∧ bit 0x8400 0 = false) ∧
    (HostMay 1 .uplLinkCfg 63 0 0x8401 (modUplGroup 7 (fun x => { x with pll := true }) full)) ∧
    (bit 0x8401 0 = true) ∧
    (∀ m < 4, AsWritten 3 m (onLinks [47])) ∧
    (full.quo.xoGone = false ∧ ({ full with quo := { full.quo with xoGone := true } } : State).quo.xoGone = true) ∧
    (TablesRise { full with quo := { full.quo with xoGone := true } }) := by
  repeat' (with_reducible apply And.intro)
  all_goals (first | exact rises_ok (by decide +kernel) | exact may_ok (by decide +kernel) | exact names_ok (by decide +kernel) | exact wf_ok (by decide +kernel) | exact ready_ok (by decide +kernel) | exact smGet_all (P := fun _ (x : Partner) => x.cfgDone = none) (fun _ => rfl) _ (by decide +kernel) | exact asWritten_all (by decide +kernel) | decide +kernel)


/-- Converter 16 between two conversions, connected to a channel or not. -/
def idleConv (c : Option Nat) (fresh : Bool) : State :=
  modConv 16 (fun x => { x with connected := c, run := none, visit := 0, fresh := fresh, settleAll := false }) (fourWire false 0)

/-- The same with ALIGN, and channel 0 to convert on converter 0. -/
def aligned : State := setCell .gauChCfg 0 0 0x80001 (setCell .gauCtl 0 0 9 (idleConv none true))
/-- The conversion of channel 17, with blanking enabled, that met blanking or an open input. -/
def metWhileRun (blank clear open_ : Bool) : State :=
  modConv 16 (fun x => { x with run := x.run.map fun r => { r with blankEn := true, wasBlank := blank, wasClear := clear, wasOpen := open_ } }) (fourWire false 0)
/-- Conversions with a result, OPEN, and too little that is not blanked, at the limit; steps, starts, the whole second and burnout checks that are due and that are not. -/
theorem witness_GaugeConverts :
    (isUp (fourWire true 1) = true) ∧
    (TablesRise (fourWire true 1)) ∧
    (((gauConv (fourWire false 0) 16).run.map (·.channel)) = some 17 ∧ 17 ∈ convChans 16 ∧ (gauConv full 16).run = none ∧ periodCycles 0 false = 2000000) ∧
    (resultOpen (fourWire true 1) 17 = true ∧ resultOpen (fourWire false 0) 17 = false ∧ 10 * 199999 < 2000000 ∧ 2000000 ≤ 10 * 200000) ∧
    ((gauChan (fourWire false 0) 17).lastOvr = false) ∧
    (conversionsOn (idleConv none false) 16 = true ∧ (gauConv (idleConv none false) 16).run = none ∧ stepDue (idleConv none false) 16 = true ∧ 16 ≤ 16 ∧ conversionsOn full 16 = false) ∧
    (startChan full 16 = none ∧ (gauConv (idleConv (some 17) false) 16).fresh = false ∧ startChan (idleConv (some 17) false) 16 = some 17) ∧
    ((gauConv aligned 16).fresh = true ∧ bit (cell aligned .gauCtl) 3 = true ∧ bit (cell full .gauCtl) 3 = false ∧ stepDue aligned 16 = true ∧ nextChan aligned 16 none = some 17) ∧
    (startChan aligned 0 = some 0 ∧ (gauConv aligned 0).fresh = true) ∧
    (TablesRise aligned) ∧
    ((gauConv (idleConv (some 17) false) 16).connected = some 17 ∧ (gauConv full 16).connected = none) ∧
    ((conversionsOn (idleConv (some 17) false) 16 && (gauConv (idleConv (some 17) false) 16).run.isNone && decide (17 < 64) &&
      [1, 3, 4].contains (cfgMode (chCfg (idleConv (some 17) false) 17)) && !blanking (idleConv (some 17) false)) = true) ∧
    (16 ≤ (gauChan (modChan 17 (fun x => { x with sinceCheck := 16 }) (idleConv (some 17) false)) 17).sinceCheck ∧ (gauChan (idleConv (some 17) false) 17).sinceCheck < 16) ∧
    ((gauConv (metWhileRun true false false) 16).run.map (fun x => (x.wasBlank, x.wasClear, x.wasOpen)) = some (true, false, false)) ∧
    ((gauConv (metWhileRun true true true) 16).run.map (fun x => (x.wasBlank, x.wasClear, x.wasOpen)) = some (true, true, true)) ∧
    (TablesRise (metWhileRun true false false)) ∧
    (TablesRise (metWhileRun true true false)) ∧
    (TablesRise (metWhileRun false true true)) := by
  repeat' (with_reducible apply And.intro)
  all_goals (first | exact rises_ok (by decide +kernel) | exact may_ok (by decide +kernel) | exact names_ok (by decide +kernel) | exact wf_ok (by decide +kernel) | exact ready_ok (by decide +kernel) | exact smGet_all (P := fun _ (x : Partner) => x.cfgDone = none) (fun _ => rfl) _ (by decide +kernel) | decide +kernel)

/-- Channel 16 drives a voltage. -/
def driving (held fault : Bool) : State :=
  modChan 16 (fun x => { x with held := held, excFault := fault, act := mkFld 2 0 5 ||| mkFld 11 8 4 })
    (setCell .gauChCfg 16 0 (mkFld 2 0 5 ||| mkFld 11 8 4) (fourWire false 0))
/-- A current source and a voltage source on channel 16 with their flags set and not; configurations that are locked, that move a source and that do not. -/
theorem witness_GaugeSources :
    (isUp (fourWire false 0) = true) ∧
    (TablesRise (driving true true)) ∧
    (sourcesOn (fourWire false 0) = true ∧ isCurrent (sourceOf (fourWire false 0) 16) = true ∧ (gauChan (fourWire false 0) 16).held = false ∧ (gauChan (fourWire true 0) 16).held = true) ∧
    ((gauChan (fourWire true 0) 16).excFault = false ∧ sourcesOn State.reset = false ∧ affectedChan (fourWire false 0) 16 = 17) ∧
    (sourcesOn (driving false false) = true ∧ isVoltage (sourceOf (driving false false) 16) = true ∧ (gauChan (driving true true) 16).excFault = true) ∧
    (HostMay 0 .gauChCfg 17 0 0 { fourWire false 0 with port0 := { HostPort.reset with l0 := true }, btr := { State.reset.btr with gaugeOut := .of 1 } }) ∧
    (lockSet { fourWire false 0 with btr := { State.reset.btr with gaugeOut := .of 1 } } .gauChCfg 17 = true) ∧
    (HostMay 1 .gauChCfg 71 0 0x40000 full) ∧
    (lockSet full .gauChCfg 71 = false ∧ (decide (71 < 64) && (cfgMode 0 != cfgMode 0x40000 || cfgExc 0 != cfgExc 0x40000)) = false) ∧
    (HostMay 1 .gauChCfg 0 0 1 full) ∧
    ((decide (0 < 64) && (cfgMode (cell full .gauChCfg 0) != cfgMode 1 || cfgExc (cell full .gauChCfg 0) != cfgExc 1)) = true) := by
  repeat' (with_reducible apply And.intro)
  all_goals (first | exact rises_ok (by decide +kernel) | exact may_ok (by decide +kernel) | exact names_ok (by decide +kernel) | exact wf_ok (by decide +kernel) | exact ready_ok (by decide +kernel) | exact smGet_all (P := fun _ (x : Partner) => x.cfgDone = none) (fun _ => rfl) _ (by decide +kernel) | decide +kernel)


/-- Output 3 with its result, with OPEN, not enabled, on its standby and failed. -/
theorem witness_InterlockOutputs :
    (isUp (fourWire false 0) = true) ∧
    (TablesRise (after (.gauOutputPeriod 3 reads302) (fourWire false 0))) ∧
    (bit (cell (fourWire false 0) .gauOutCfg 3) 31 = true ∧ domOn (fourWire false 0) 77 = true ∧ bit (cell full .gauOutCfg 15) 31 = false ∧ (gauOut (fourWire false 0) 3).highZ = true) ∧
    ((gauOut (after (.gauOutputPeriod 3 reads302) (fourWire false 0)) 3).highZ = false ∧ (gauOut (after (.gauOutputPeriod 3 reads302) (fourWire false 0)) 3).failed = false) ∧
    (outCause (after (.conversionEnd 16 fourWireReading) (fourWire false 0)) 3 = 0 ∧ outCause (after (.conversionEnd 16 fourWireReading) (fourWire true 0)) 3 = 1) ∧
    ((gauOut (after (.gauOutputPeriod 3 noEdge) (after (.gauOutputPeriod 3 reads302) (fourWire false 0))) 3).standby = true) := by
  repeat' (with_reducible apply And.intro)
  all_goals (first | exact rises_ok (by decide +kernel) | exact may_ok (by decide +kernel) | exact names_ok (by decide +kernel) | exact wf_ok (by decide +kernel) | exact ready_ok (by decide +kernel) | exact smGet_all (P := fun _ (x : Partner) => x.cfgDone = none) (fun _ => rfl) _ (by decide +kernel) | decide +kernel)

/-- Domain `n` on its way to a state. -/
def changing (n : Nat) (g : PowerPhase) : State := modDomain n (fun x => { x with phase := .hold, goal := some g }) full
/-- The first and the last domain on their way to each state, and one that is settled. -/
theorem witness_DomainsChange :
    (isUp (changing 0 .off) = true) ∧
    (TablesRise (changing 79 .on)) ∧
    ((powerDom (changing 0 .off) 0).goal = some .off ∧ (powerDom (changing 79 .on) 79).goal = some .on ∧ (powerDom (changing 69 .hold) 69).goal = some .hold ∧ (powerDom full 5).goal = none) := by
  repeat' (with_reducible apply And.intro)
  all_goals (first | exact rises_ok (by decide +kernel) | exact may_ok (by decide +kernel) | exact names_ok (by decide +kernel) | exact wf_ok (by decide +kernel) | exact ready_ok (by decide +kernel) | exact smGet_all (P := fun _ (x : Partner) => x.cfgDone = none) (fun _ => rfl) _ (by decide +kernel) | decide +kernel)

/-- No mailbox of those states runs a command. -/
theorem witness_DomainsChange_boxes : ∀ (m : Nat) x at_ to_ rest failed named order k,
    (mailbox (changing 0 .off) m).run = some ⟨x, at_, .power to_ (0 :: rest) failed named order, k⟩ → 0 ∉ rest := by
  intro m x at_ to_ rest failed named order k h
  have : (mailbox (changing 0 .off) m).run = none := smGet_all (P := fun _ (b : Mailbox) => b.run = none) (fun _ => rfl) _ (by decide +kernel) m
  rw [this] at h; cases h
/-- Inputs one step inside and outside the range, a sensor at WARN and one step below, rails that are required, that are not and that are already reported. -/
theorem witness_PowerIsMeasured :
    (isUp full = true) ∧
    (TablesRise full) ∧
    (full.pwr.excursion = false ∧ (35999#17).toNat < 36000 ∧ 75000 < (75001#17).toNat ∧ (36000#17).toNat = 36000 ∧ (75000#17).toNat = 75000) ∧
    (full.pwr.tempArmed = true ∧ (tempWarn full : Int) * 8 ≤ (BitVec.ofNat 16 (tempWarn full * 8)).toInt ∧ (BitVec.ofNat 16 (tempWarn full * 8 - 1)).toInt < (tempWarn full : Int) * 8) ∧
    (({ full with pwr := { full.pwr with tempArmed := false, excursion := true, faulty := [10] } } : State).pwr.excursion = true) ∧
    (railRequired full 0 = true ∧ railRequired full 10 = true ∧ 0 ∉ full.pwr.faulty ∧ railRequired State.reset 10 = false) ∧
    ((List.replicate 17 (0 : BitVec 16)).length = 17) := by
  repeat' (with_reducible apply And.intro)
  all_goals (first | exact rises_ok (by decide +kernel) | exact may_ok (by decide +kernel) | exact names_ok (by decide +kernel) | exact wf_ok (by decide +kernel) | exact ready_ok (by decide +kernel) | exact smGet_all (P := fun _ (x : Partner) => x.cfgDone = none) (fun _ => rfl) _ (by decide +kernel) | decide +kernel)

/-- Nothing is due in its journal. -/
def openJournal : State := { full with cns := { full.cns with due := [] } }

/-- A machine in foundation reset. -/
def inReset : State := { full with pwr := { full.pwr with inReset := true } }
/-- A machine that is up, one that has tripped, one in reset; its journal open, with nothing due. -/
theorem witness_TripsAndResets :
    (tripped.pwr.trip.isSome = true ∧ full.pwr.trip = none ∧ inReset.pwr.inReset = true ∧ full.pwr.inReset = false) ∧
    (openJournal.cns.due = [] ∧ openJournal.cns.sealed = false ∧ 2 ≤ openJournal.cns.capacity) ∧
    (isUp full = true ∧ isUp tripped = false) := by
  repeat' (with_reducible apply And.intro)
  all_goals (first | exact rises_ok (by decide +kernel) | exact may_ok (by decide +kernel) | exact names_ok (by decide +kernel) | exact wf_ok (by decide +kernel) | exact ready_ok (by decide +kernel) | exact smGet_all (P := fun _ (x : Partner) => x.cfgDone = none) (fun _ => rfl) _ (by decide +kernel) | decide +kernel)

/-- The Plumb in a phase, ON, with an edge in each pin's mode. -/
def plumb (ph : PlbPhase) (f : Plumb → Plumb) : State := setCell .plbCfg 0 0 0xC { full with plb := f { full.plb with phase := ph } }
/-- Arms and fires from PLB_CTL and from the pins in each phase, refused and missed; both modes of the store; a capture that is complete by records, by courses and not. -/
theorem witness_PlumbArmsAndFires :
    (TablesRise (plumb .idle id)) ∧
    (HostMay 0 .plbCtl 0 0 1 (plumb .idle id)) ∧
    (HostMay 1 .plbCtl 0 0 2 (plumb .armed id)) ∧
    (HostMay 0 .plbCtl 0 0 4 (plumb .armed id)) ∧
    (isUp (plumb .idle id) = true ∧ bit (cell (plumb .idle id) .plbCfg) 2 = true ∧ bit (cell (plumb .idle id) .plbCfg) 1 = false ∧ bit (cell (plumb .idle id) .plbCfg) 3 = true) ∧
    (plbAlive (plumb .idle id) = true ∧ plbAlive State.reset = false ∧ (plumb .idle id).plb.phase = .idle ∧ (plumb .held id).plb.phase = .held ∧ (plumb .held (fun x => { x with read := true })).plb.read = true) ∧
    ((plumb .held id).plb.read = false ∧ (plumb .triggered id).plb.phase = .triggered ∧ (plumb .armed id).plb.driving = false ∧ (plumb .triggered id).plb.fire = none) ∧
    ((plumb .triggered id).plb.missed = none ∧ (plumb .triggered (fun x => { x with missed := some 5 })).plb.missed.isSome = true) ∧
    ((plbDrainAll (plumb .armed id)).plb.phase = .armed ∧ (plumb .armed id).plb.fire = none ∧ (plumb .armed id).plb.fill = false ∧ (plumb .armed (fun x => { x with fill := true })).plb.fill = true) ∧
    ((plbDrainAll (plumb .armed (fun x => { x with fill := true }))).plb.store.length + 1 < plbSize) ∧
    (bit (cell full .plbCfg) 2 = false ∧ bit (cell full .plbCfg) 3 = false) ∧
    ((plumb .triggered (fun x => { x with fire := some ⟨⟨99, 0⟩, 0, 0, 0⟩, postLeft := 0 })).plb.fire = some ⟨⟨99, 0⟩, 0, 0, 0⟩) ∧
    ((plbDrainAll (plumb .triggered (fun x => { x with fire := some ⟨⟨99, 0⟩, 0, 0, 0⟩, postLeft := 0 }))).plb.postLeft = 0) ∧
    (99 + (plumb .triggered (fun x => { x with postCourses := 1 })).plb.postCourses ≤ nowCourse full ∧ nowCourse full < 99 + (plumb .triggered (fun x => { x with postCourses := 2 })).plb.postCourses) ∧
    ((plbDrainAll (plumb .triggered (fun x => { x with fire := some ⟨⟨99, 0⟩, 0, 0, 0⟩, postLeft := 5 }))).plb.postLeft ≠ 0) ∧
    ((plumb .triggered id).plb.lastMiss ≠ some (timeTag (plumb .triggered id)) ∧ (plumb .triggered (fun x => { x with lastMiss := some (timeTag full) })).plb.lastMiss = some (timeTag (plumb .triggered id))) ∧
    (TablesRise (plumb .triggered (fun x => { x with lastMiss := some (timeTag full) }))) := by
  repeat' (with_reducible apply And.intro)
  all_goals (first | exact rises_ok (by decide +kernel) | exact may_ok (by decide +kernel) | exact names_ok (by decide +kernel) | exact wf_ok (by decide +kernel) | exact ready_ok (by decide +kernel) | exact smGet_all (P := fun _ (x : Partner) => x.cfgDone = none) (fun _ => rfl) _ (by decide +kernel) | decide +kernel)

/-- Slot 63 shows the result of channel 17, which threshold 7 watches. -/
def slotted (f : Plumb → Plumb) : State :=
  let s := after (.conversionEnd 16 fourWireReading) (fourWire false 0)
  let s := setCell .plbSig 63 0 0x80000211 (setCell .plbThr 7 0 0x8000003F (setCell .plbThrLevel 7 0 0xB40000 (withOn [76, 77, 78] s)))
  { s with plb := f { s.plb with phase := .armed, slots := [(63, ⟨some 0, some (0xB42148, 0)⟩)] } }

/-- The same below the threshold before, rising. -/
def rising : State := setCell .plbThrLevel 7 0 0xB10000 (slotted (fun x => { x with slots := [(63, ⟨some 0, some (0xB00000, 0)⟩)] }))
/-- The same without a threshold on the slot. -/
def plain (f : Plumb → Plumb) : State := setCell .plbThr 7 0 0 (slotted f)
/-- A slot whose value differs, with room in the queue and with it full; a threshold that crosses; slots of the two pins and without a source. -/
theorem witness_PlumbRecordsChanges :
    (isUp (slotted id) = true) ∧
    (TablesRise (slotted id)) ∧
    ((slotSample (slotted id) 63).map (·.value) = some true ∧ (slotSample (slotted id) 63).map (·.usable) = some true ∧ plbAlive (slotted id) = true ∧ slotSample full 63 = none) ∧
    (¬ (fld (cell (slotted id) .plbSig 63) 11 8 = 1 ∧ fld (cell (slotted id) .plbSig 63) 7 0 = 5) ∧ fld (0x80000105 : Word) 11 8 = 1 ∧ fld (0x80000106 : Word) 7 0 = 6) ∧
    (plbRecording (slotted id) = true ∧ (slotSample (slotted id) 63).map (plbDiffers (slotted id) 63) = some true ∧ plbRecording full = false) ∧
    ((slotted id).plb.queue.length < 256 ∧ 256 ≤ (slotted (fun x => { x with queue := List.replicate 256 ⟨0, 0, false⟩ })).plb.queue.length) ∧
    (∀ k : Fin 8, bit (cell full .plbThr k) 31 = false ∨ fld (cell full .plbThr k) 5 0 ≠ 63) ∧
    ((plbSlot (slotted id) 63).seen = some (0xB42148, 0) ∧ (slotted id).plb.phase = .armed ∧ (slotted id).plb.fill = false ∧ (slotted id).plb.fire = none) ∧
    (∀ k' : Fin 8, k' ≤ 7 → ((bit (cell rising .plbThr k') 31 = true ∧ fld (cell rising .plbThr k') 5 0 = 63 ∧
      crosses (fld (cell rising .plbThr k') 30 29) 0xB00000 0xB3C819 (thrLevel rising 63 k') = true) ↔ k' = 7)) ∧
    ((slotSample rising 63).map (·.number) = some 0xB3C819 ∧ (plbSlot rising 63).seen = some (0xB00000, 0)) ∧
    (TablesRise (plain id)) ∧
    (TablesRise (plain (fun x => { x with queue := List.replicate 256 ⟨0, 0, false⟩ }))) ∧
    (TablesRise rising) ∧
    (∀ k : Fin 8, bit (cell (plain id) .plbThr k) 31 = false ∨ fld (cell (plain id) .plbThr k) 5 0 ≠ 63) := by
  repeat' (with_reducible apply And.intro)
  all_goals (first | exact rises_ok (by decide +kernel) | exact may_ok (by decide +kernel) | exact names_ok (by decide +kernel) | exact wf_ok (by decide +kernel) | exact ready_ok (by decide +kernel) | exact smGet_all (P := fun _ (x : Partner) => x.cfgDone = none) (fun _ => rfl) _ (by decide +kernel) | decide +kernel)

/-- One event due, with some events and failed slots. -/
def journal (type n : Nat) (sealed_ : Bool) : State :=
  { full with cns := { full.cns with
      due := [⟨type, 0, 0, ⟨0, 0, 0⟩, 0, 0, 0⟩], events := (List.range n).map (fun i => ⟨i, []⟩), sealed := sealed_ } }
/-- An event due in an open journal, in a full one, in a sealed and full one; a SEAL and a CLEAR. -/
theorem witness_CornerstoneWrites :
    (isUp (journal 1 0 false) = true) ∧
    (TablesRise (journal 1 0 false)) ∧
    ((journal 6 0 false).cns.due = ⟨6, 0, 0, ⟨0, 0, 0⟩, 0, 0, 0⟩ :: [] ∧ (journal 10 0 true).cns.due = ⟨10, 0, 0, ⟨0, 0, 0⟩, 0, 0, 0⟩ :: [] ∧ ({ full with cns := { full.cns with due := [] } } : State).cns.due = []) ∧
    ((journal 1 4096 true).cns.sealed = true ∧ (journal 1 4096 true).cns.capacity ≤ (journal 1 4096 true).cns.events.length) ∧
    ((journal 1 4095 true).cns.events.length < (journal 1 4095 true).cns.capacity ∧ (journal 1 4096 false).cns.sealed = false) := by
  repeat' (with_reducible apply And.intro)
  all_goals (first | exact rises_ok (by decide +kernel) | exact may_ok (by decide +kernel) | exact names_ok (by decide +kernel) | exact wf_ok (by decide +kernel) | exact ready_ok (by decide +kernel) | exact smGet_all (P := fun _ (x : Partner) => x.cfgDone = none) (fun _ => rfl) _ (by decide +kernel) | decide +kernel)

/-! ### States for the clauses that the first witnesses do not reach -/

/-- Each clear bit of a block with counters that share a register or that no register holds, and that of the Plumb. -/
theorem witness_ClearingWrites_shared :
    (regAt (regOff .bedPclr 7) = some (.bedPclr, 7, 0) ∧ isMsix (regOff .bedPclr 7) = false ∧ clearBit .bedPclr = some 0 ∧ bit 1 0 = true) ∧
    (HostMay 0 .bedPclr 7 0 1 full) ∧
    (HostMay 0 .fltCtl 0 0 0x80000000 full ∧ clearBit .fltCtl = some 31) ∧
    (HostMay 0 .crsCtl 0 0 0x80000000 full ∧ clearBit .crsCtl = some 31) ∧
    (HostMay 0 .qryCtl 0 0 0x80000000 full ∧ clearBit .qryCtl = some 31) ∧
    (HostMay 0 .mrtAccCtl 0 0 4 full ∧ clearBit .mrtAccCtl = some 2) ∧
    (HostMay 1 .plbCtl 0 0 0x80000000 full) ∧
    (TablesRise full) := by
  repeat' (with_reducible apply And.intro)
  all_goals (first | exact rises_ok (by decide +kernel) | exact may_ok (by decide +kernel) | decide +kernel)

/-- A response that waits for its buffer; the tick of a period of HST_TICK and one between. -/
theorem witness_InterruptMessages_others :
    (messageDue (hostPort linkedUp 0) 17 = false) ∧
    ((mailbox (modBox 7 (fun b => { b with done := [(1, [0x02000000])] }) full) 7).held = none ∧
      (mailbox (modBox 7 (fun b => { b with done := [(1, [0x02000000])] }) full) 7).done = [(1, [0x02000000])] ∧
      ¬ (fld (([0x02000000] : List Word).getD 0 0) 31 24 = 1 ∧ domOn full (50 + boxPort 7) = false)) ∧
    ((heldOnly 3).flt.held ≠ [] ∧ fld (cell (heldOnly 3) .fltCtl) 10 8 ≤ 3 ∧ actsAsTwo (heldOnly 3) (.engine 3) = false ∧ (heldOnly 3).flt.log.length < 1024) ∧
    (periodDue 0 100 = false ∧ periodDue 3 100 = true ∧ periodDue 4 100 = false) ∧
    (regExists .cnsEvt 0 0 = true ∧ vectorOf .cnsEvt = some 16) := by
  repeat' (with_reducible apply And.intro)
  all_goals decide +kernel

/-- Values of both kinds wait, domain 1 tracks, a binding and an unbinding wait, an isolation waits. -/
def ticking : State :=
  let s := after (.streamMapWrite 0 47 5) (setCb .ashCalSel 31 ⟨.of 1, true⟩ full)
  let s := modDom 1 (fun x => { x with phaseRun := 63, goodSyncs := 4, exchangeDone := true, announced := true, lastCount := some (7, 6400) }) (domIs 1 .tracking s)
  flt (fun f => { f with isoPending := [⟨.engine 3, 0x0A0⟩] }) { s with bindPending := [⟨63, 0, some ⟨255, 0, goodRecord, 0, true⟩⟩, ⟨62, 1, none⟩] }

/-- Stream 47 moves at the next tick, its mirror too or not. -/
def moving (mirror : Bool) (boundary : Nat) : State := modStream 47 (fun x => { x with move := some ⟨mirror, 9, boundary, 0⟩ }) full

/-- A migration of slot 1 to engine 8 that is due at the tick of course 100. -/
def migrating (ph : EnginePhase) : State :=
  let s := modEngine 8 (fun y => { y with phase := ph }) (modEngine 1 (fun y => { y with phase := .active }) full)
  { s with ash := { s.ash with migrations := [⟨1, 1, 8, 101, false, true, 0⟩], reserved := true } }

/-- Both domains LOCKED on one offset, the servo LOCKED on domain 0. -/
def bothLocked : State := quo (fun q => { q with servo := .locked }) (domIs 0 .locked (domIs 1 .locked full))

/-- What a tick observes of a good oscillator. -/
def goodObs : TickObs := ⟨⟨0, 0, 0⟩, true, true, true, true, true, 0, 0, 0⟩

/-- Course-buffered values of both kinds and moves that are due and not; the closing course with the quarry in service and not; bindings, migrations,
lock criteria met and one missed, a free servo, a selection; an isolation, a stop and a restart. -/
theorem witness_CourseTickAdvances_steps :
    (TablesRise ticking) ∧
    (NamesInRange ticking) ∧
    ((cbReg ticking .uplStreamMap 47).waiting = true ∧ (cbReg ticking .ashCalSel 31).waiting = true ∧ dualMode full 31 = false ∧ dualMode dual 31 = true) ∧
    (counterVote (moving true 101).btr.course + 1 = 101 ∧ (stream (moving true 101) 47).move = some ⟨true, 9, 101, 0⟩ ∧
      (stream (moving false 102) 47).move = some ⟨false, 9, 102, 0⟩ ∧ (102 : Nat) ≠ 101) ∧
    ((decide ((stored [] false).qry.phase = .running) && (List.range 4).any (fun m => (quarter (uncoded 98) m).inService)) = true) ∧
    (full.qry.phase ≠ .running ∧ bit (cell ticking .hstCb) 0 = false ∧ bit (cell (setCell .hstCb 0 0 1 ticking) .hstCb) 0 = true) ∧
    (∀ x ∈ ticking.bindPending, ∀ y ∈ ticking.bindPending, y.partner = x.partner → y = x) ∧
    (TablesRise (migrating .spare)) ∧
    (NamesInRange (migrating .spare)) ∧
    ((migrating .spare).ash.migrations.filter (fun y => !y.taken && decide (y.boundary = 100 + 1)) = [⟨1, 1, 8, 101, false, true, 0⟩] ∧
      1 < (migrating .spare).ash.slots.length ∧ (migrating .spare).ash.migrations.filter (fun y => !y.taken && decide (y.boundary = 99 + 1)) = []) ∧
    ((engine (migrating .spare) 8).phase = .spare ∧ (engine (migrating .spare) 1).phase = .active ∧ (engine (migrating .off) 8).phase ≠ .spare) ∧
    ((qdom ticking 1).phase = .tracking ∧ (qdom ticking 1).lastCount = some (7, 6400) ∧ nowGbt ticking - 6400 ≤ 4096 ∧ 63 ≤ (qdom ticking 1).phaseRun ∧
      4 ≤ (qdom ticking 1).goodSyncs ∧ (qdom ticking 1).exchangeDone = true ∧ (qdom ticking 1).announced = true) ∧
    ((qdom (domIs 0 .tracking full) 0).phaseRun < 63 ∧ (qdom full 0).phase ≠ .tracking ∧ full.quo.servo = .free) ∧
    (bothLocked.quo.servo ≠ .free ∧ (qdom bothLocked 1).phase = .locked ∧ (1 : Fin 2) ≠ bothLocked.quo.active ∧ (qdom bothLocked 0).phase = .locked ∧
      (qdom bothLocked 1).offset = (qdom bothLocked 0).offset ∧ (obsDiff goodObs 1).natAbs ≤ (cell bothLocked .quoSwitchMax).toNat) ∧
    (TablesRise bothLocked) ∧
    (NamesInRange bothLocked) ∧
    (∀ n ∈ targetDomains (.engine 3), (powerDom ticking n).phase = .on ∨ (powerDom ticking n).goal ≠ none) ∧
    ((flt (fun f => { f with stopPending := some 0x0A0 }) full).flt.stopPending = some 0x0A0 ∧ full.flt.stopPending = none) ∧
    ((flt (fun f => { f with restartPending := true }) stopped).flt.restartPending = true ∧ dpStopped (flt (fun f => { f with restartPending := true }) stopped) = true ∧
      full.flt.restartPending = false) := by
  repeat' (with_reducible apply And.intro)
  all_goals (first | exact rises_ok (by decide +kernel) | exact names_ok (by decide +kernel) | decide +kernel)

/-- A full log whose second entry is acknowledged, or whose third has level 0. -/
def fullLog (acked low : Bool) : State :=
  flt (fun f => { f with
    log := [entry 1 0x0A0 2 false, entry 2 0x0A0 2 acked, entry 3 0x0A0 (if low then 0 else 2) false] ++ List.replicate 1021 (entry 4 0x0A0 2 false)
    droppedRun := 3 }) (heldOnly 3)

/-- The report of a full log that has room again. -/
def logAgain : State := flt (fun f => { f with held := [], flying := [], fullWaiting := some (report Src.fltLogFull 0 .none) }) full

/-- A full log with an entry that gives way, acknowledged or of level 0, and without one; the report of the full log. -/
theorem witness_FaultsAreLogged_full :
    ((fullLog true false).flt.log = [entry 1 0x0A0 2 false] ++ entry 2 0x0A0 2 true :: (entry 3 0x0A0 2 false :: List.replicate 1021 (entry 4 0x0A0 2 false))) ∧
    ((entry 2 0x0A0 2 true).acked = true ∧ ∀ e ∈ [entry 1 0x0A0 2 false], e.acked = false) ∧
    ((fullLog false true).flt.log = [entry 1 0x0A0 2 false, entry 2 0x0A0 2 false] ++ entry 3 0x0A0 0 false :: List.replicate 1021 (entry 4 0x0A0 2 false)) ∧
    ((∀ e ∈ (fullLog false true).flt.log, e.acked = false) ∧ ∀ e ∈ [entry 1 0x0A0 2 false, entry 2 0x0A0 2 false], e.level ≠ 0) ∧
    ((fullLog true false).flt.log.length = 1024 ∧ (fullLog false true).flt.log.length = 1024 ∧ (fullLog true false).flt.fullWaiting = none) ∧
    (firstReport ((fullLog true false).flt.held ++ (fullLog true false).flt.flying) = some (report 0x0A0 3 (.engine 3)) ∧ (fullLog false false).flt.droppedRun ≠ 0 ∧
      (heldOnly 3).flt.droppedRun = 0) ∧
    (TablesRise (fullLog true false)) ∧
    (logAgain.flt.fullWaiting = some (report Src.fltLogFull 0 .none) ∧ logAgain.flt.held = [] ∧ (logRoom logAgain.flt.log).isSome = true) ∧
    (TablesRise logAgain) := by
  repeat' (with_reducible apply And.intro)
  all_goals (first | exact rises_ok (by decide +kernel) | decide +kernel)

/-- DELAY_MEASURE of partners 62 and 63, whose measurements have ended. -/
def measured (a b : Nat) : State :=
  runs 7 (cmd 0x13 [0, 0xC0000000]) (.measure [62, 63]) (quo (fun q => { q with measured := [(62, a), (63, b)] }) full)

/-- Measurements with results only, with reasons only, and with both. -/
theorem witness_PowerAndBedCommands_measured :
    (isUp (measured 0 3) = true) ∧
    (TablesRise (measured 0 3)) ∧
    ((mailbox (measured 0 3) 7).run = some ⟨cmd 0x13 [0, 0xC0000000], ⟨99, 0⟩, .measure [62, 63], false⟩ ∧ (cmd 0x13 [0, 0xC0000000]).opcode = 0x13) ∧
    (∀ p ∈ [62, 63], measureEnded (measured 0 3) p = true ∧ smFind (measured 0 3).quo.rounds p = none) ∧
    (∀ p ∈ [62, 63], measureEnded (measured 0 0) p = true ∧ measureEnded (measured 3 3) p = true) ∧
    ([62, 63].filter (fun p => measureReason (measured 0 3) p != 0) = [63] ∧ [62, 63].filter (fun p => measureReason (measured 0 0) p != 0) = [] ∧
      [62, 63].filter (fun p => measureReason (measured 3 3) p != 0) = [62, 63]) := by
  repeat' (with_reducible apply And.intro)
  all_goals (first | exact rises_ok (by decide +kernel) | decide +kernel)

/-- An image run of mailbox 0 with some words left, for an opcode. -/
def imaging (op n : Nat) (s : State) : State := runs 0 (cmd op []) (.image ⟨0x1000, List.replicate n 0, 0, two 0, [], 0⟩) s

/-- Images with more than one write left and with the last; with and without the link, and without the domain that is read. -/
theorem witness_JobCommands_image :
    (isUp (imaging 0x41 65 busMaster) = true) ∧
    (TablesRise (imaging 0x41 65 busMaster)) ∧
    ((mailbox (imaging 0x41 65 busMaster) 0).run = some ⟨cmd 0x41 [], ⟨99, 0⟩, .image ⟨0x1000, List.replicate 65 0, 0, two 0, [], 0⟩, false⟩) ∧
    ((mailbox (imaging 0x70 64 busMaster) 0).run = some ⟨cmd 0x70 [], ⟨99, 0⟩, .image ⟨0x1000, List.replicate 64 0, 0, two 0, [], 0⟩, false⟩) ∧
    ((mailbox (imaging 0x71 64 full) 0).run = some ⟨cmd 0x71 [], ⟨99, 0⟩, .image ⟨0x1000, List.replicate 64 0, 0, two 0, [], 0⟩, false⟩) ∧
    (hostReady (imaging 0x41 65 busMaster) (boxPort 0) = true ∧ hostReady (imaging 0x71 64 full) (boxPort 0) = false) ∧
    ((cmd 0x41 []).opcode = 0x41 ∧ (cmd 0x70 []).opcode = 0x70 ∧ (cmd 0x71 []).opcode = 0x71 ∧ domOn busMaster 78 = true) ∧
    (domOn (modDomain 78 (fun x => { x with phase := .hold }) busMaster) 78 = false) ∧
    ((plbImage (plbStoreRead busMaster)).length ≤ 64 ∧ (cnsImage busMaster).length ≤ 64) := by
  repeat' (with_reducible apply And.intro)
  all_goals (first | exact rises_ok (by decide +kernel) | decide +kernel)

/-- Lane 255 of partner 63 has left ACTIVE in this core cycle for a cause. -/
def leftActive (rank : Nat) : State :=
  modLane 255 (fun x => { x with left := some ⟨nowStamp full, rank, 0, 2, true, false⟩, lostCause := 3 }) (setCell .bedLaneCfg 255 0 3 (setCell .bedGrpCfg 31 0 5 (boundTo 63 255 .train full)))

/-- A loss of signal that ranks before the cause for which the lane left ACTIVE, and one that ranks after; a host's write. -/
theorem witness_LaneLoss_left :
    (isUp (leftActive 35) = true) ∧
    (TablesRise (leftActive 35)) ∧
    (NamesInRange (leftActive 35)) ∧
    (leftNow (leftActive 35) 255 = some ⟨nowStamp full, 35, 0, 2, true, false⟩ ∧ leftNow full 255 = none) ∧
    (lossRank (leftActive 35) 255 1 = 33 ∧ 33 < 35 ∧ lossRank (leftActive 5) 255 1 = 33 ∧ 5 ≤ 33 ∧ (lane (leftActive 5) 255).phase ≠ .active ∧ (2 : Nat) < 256) ∧
    (leavesFor (leftActive 35) 255 33 = true ∧ leavesFor (leftActive 5) 255 33 = false ∧ (4 : Nat) < 35 ∧ (4 : Nat) ≤ 4) ∧
    (HostMay 0 .bedLaneCfg 255 0 0 (leftActive 35)) := by
  repeat' (with_reducible apply And.intro)
  all_goals (first | exact rises_ok (by decide +kernel) | exact names_ok (by decide +kernel) | exact may_ok (by decide +kernel) | decide +kernel)

/-- The first frame of a downlink and one at a multiple of 320 BT carry SYNC. -/
theorem witness_ExchangeAndDownlinks_sync :
    (isUp (sending (fun x => { x with fresh := true })) = true) ∧
    (TablesRise (sending (fun x => { x with fresh := true }))) ∧
    (syncDue (sending (fun x => { x with fresh := true })) 63 (nextMark (sending (fun x => { x with fresh := true })) 63) = true) ∧
    (Rises (sending (fun x => { x with fresh := true })).quo.clocks) ∧
    (dlSending (modDl 63 (fun x => { x with fresh := true, squelched := true }) (sending id)) 63 = false ∨ (downlink full 63).fresh = true) := by
  repeat' (with_reducible apply And.intro)
  all_goals (first | exact rises_ok (by decide +kernel) | decide +kernel)

/-- Mailbox 7 measures partners 62 and 63; that of 62 has ended, the last echo of 63 is missing. -/
def lastEcho (a : Nat) : State :=
  runs 7 (cmd 0x13 [0, 0xC0000000]) (.measure [62, 63]) (quo (fun q => { q with measured := [(62, a)] }) (echoes (List.replicate 63 461786) 0))

/-- The last of two measurements ends with a spread out of bounds, the other with a result and with a reason. -/
theorem witness_EchoesMeasureDelay_last :
    (isUp (lastEcho 0) = true) ∧
    (TablesRise (lastEcho 0)) ∧
    (NamesInRange (lastEcho 0)) ∧
    (Rises (lastEcho 0).quo.rounds ∧ Rises (lastEcho 0).quo.measured) ∧
    ((lane (lastEcho 0) 255).partner = some 63 ∧ smFind (lastEcho 0).quo.rounds 63 = some (List.replicate 63 461786) ∧ (lane (lastEcho 0) 255).phase = .active ∧
      laneIndex (lastEcho 0) 255 = 0 ∧ (List.replicate 63 461786 : List Nat).length = 63) ∧
    (spreadBad (List.replicate 63 461786 ++ [0]) = true) ∧
    ((mailbox (lastEcho 0) 7).run = some ⟨cmd 0x13 [0, 0xC0000000], ⟨99, 0⟩, .measure [62, 63], false⟩) ∧
    (63 ∈ [62, 63] ∧ ∀ q ∈ [62, 63], q ≠ 63 → measureEnded (lastEcho 0) q = true ∧ measureEnded (lastEcho 3) q = true) ∧
    ([62, 63].filter (fun q => measureReason (finishMeasure 63 (List.replicate 63 461786 ++ [0]) (lastEcho 0)) q != 0) = [63]) ∧
    ([62, 63].filter (fun q => measureReason (finishMeasure 63 (List.replicate 63 461786 ++ [0]) (lastEcho 3)) q != 0) = [62, 63]) := by
  repeat' (with_reducible apply And.intro)
  all_goals (first | exact rises_ok (by decide +kernel) | exact names_ok (by decide +kernel) | decide +kernel)

/-- No other mailbox measures. -/
theorem witness_EchoesMeasureDelay_others : ∀ (k : Nat) (y : LdgRun) (other : List Nat), k ≠ 7 → (mailbox (lastEcho 0) k).run = some y → y.wait ≠ .measure other := by
  intro k y other hk h
  have : ∀ n, n ≠ 7 → (mailbox (lastEcho 0) n).run = none :=
    smGet_all (P := fun n (b : Mailbox) => n ≠ 7 → b.run = none) (fun _ _ => rfl) _ (by decide +kernel)
  rw [this k hk] at h; cases h

/-- A waveform group of sixteen equal samples: no pulse. -/
def flat : HitItem := { hit3 with wave := some (3, 10, List.replicate 16 10) }

/-- A hit in a course that is late by the next tick. -/
def late (x : HitItem) : State := let s := threeHits x; { s with btr := { s.btr with course := .of 9000514 } }

/-- Slot 1 is in migration from its engine, hits go to both. -/
def bothEngines (boundary : Nat) (x : HitItem) : State :=
  let s := threeHits x
  { s with ash := { s.ash with migrations := [⟨1, 1, 8, boundary, true, true, 0⟩] } }

/-- The bucket of a hit holds so many entries of 2,048 each. -/
def capped (n : Nat) (x : HitItem) : State :=
  let s := threeHits x
  { s with ring := { s.ring with buckets := [(9000512 * 2048 + 5 * 64 + 20, ⟨List.replicate n ⟨0, List.replicate 2047 0⟩, []⟩)] } }

/-- Samples without a pulse, kept and not; copies for and against the boundary; a record that is late, one at the cap of its course, and one stored with its samples. -/
theorem witness_HitsAreCorrected_waves :
    (isUp (threeHits flat) = true) ∧
    (TablesRise (threeHits flat)) ∧
    (NamesInRange (threeHits flat)) ∧
    ((rawHit (cell (threeHits flat) .ashWaveCfg) flat).noPulse = true ∧ bit (cell (threeHits flat) .ashWaveCfg) 13 = false) ∧
    ((rawHit (cell (setCell .ashWaveCfg 0 0 0x2000 (threeHits flat)) .ashWaveCfg) flat).noPulse = true ∧
      bit (cell (setCell .ashWaveCfg 0 0 0x2000 (threeHits flat)) .ashWaveCfg) 13 = true) ∧
    (({ hit1 with boundary := some 9000513 } : HitItem).boundary = some 9000513 ∧
      (corrected hit1 (rawHit 0 hit1) (hitTerms hit1 92 (threeHits hit1)).1).course < 9000513) ∧
    (hit1.boundary = none ∧ ({ hit1 with single := false } : HitItem).single = false ∧
      slotMigration (bothEngines 9000512 { hit1 with single := false }) (hit1.group / 4) = some ⟨1, 1, 8, 9000512, true, true, 0⟩ ∧
      9000512 ≤ (corrected hit1 (rawHit 0 hit1) (hitTerms hit1 92 (bothEngines 9000512 hit1)).1).course) ∧
    (TablesRise (bothEngines 9000512 { hit1 with single := false })) ∧
    (NamesInRange (bothEngines 9000512 { hit1 with single := false })) ∧
    (TablesRise (threeHits { hit1 with boundary := some 9000513 })) ∧
    (NamesInRange (threeHits { hit1 with boundary := some 9000513 })) ∧
    (ringTakes (threeHits hit1) 1 9000512 hit1 = true ∧ ringTakes (bothEngines 9000513 { hit1 with single := false }) 1 9000512 { hit1 with single := false } = true) ∧
    ((quarter (late hit1) 0).inService = true ∧ (quarter (late hit1) 0).since ≤ 9000512 ∧ 9000512 + 1 < nowCourse (late hit1) ∧ nowCourse (threeHits hit1) ≤ 9000512 + 1) ∧
    (TablesRise (late hit1)) ∧
    (NamesInRange (late hit1)) ∧
    (24576 < courseEntries (capped 12 hit1) 0 9000512 + 1 ∧ courseEntries (capped 12 hit1) 0 9000512 = 24576 ∧ smGet 0 (quarter (capped 12 hit1) 0).drops 9000512 = 0) ∧
    (TablesRise (capped 12 hit1)) ∧
    (AsWritten 5 1 (capped 12 hit1)) ∧
    ((rawHit (cell (threeHits hit3) .ashWaveCfg) hit3).noPulse = false) ∧
    (TablesRise (threeHits hit3)) := by
  repeat' (with_reducible apply And.intro)
  all_goals (first | exact rises_ok (by decide +kernel) | exact names_ok (by decide +kernel) | exact asWritten_ok (by decide +kernel) | decide +kernel)

/-- The samples of the worked case have a pulse and fit. -/
theorem witness_HitsAreCorrected_samples :
    (∀ phase baseline l, hit3.wave = some (phase, baseline, l) → minAmp (cell (threeHits hit3) .ashWaveCfg) ≤ (waveTiming (cell (threeHits hit3) .ashWaveCfg) baseline l).amplitude) ∧
    (let y := corrected hit3 (rawHit (cell (threeHits hit3) .ashWaveCfg) hit3) (hitTerms hit3 (rawHit (cell (threeHits hit3) .ashWaveCfg) hit3).charge (threeHits hit3)).1; y.course = 9000512 ∧ bucketPages ((bucketAt (threeHits hit3) 9000512 5 12).entries ++ [y.entry]) ≤ (bucketAt (threeHits hit3) 9000512 5 12).pages.length + freePages (threeHits hit3) 0 ∧
        recTime y.entry.record / 16384 = 12) := by
  refine ⟨?_, by decide +kernel⟩
  intro phase baseline l h
  cases h; decide +kernel

/-- A quarry whose oldest course has passed and whose second begins in the stone to be written. -/
def overtaking : State := { stored [1] false with qry := { (stored [1] false).qry with published := [1, 2], newest := some 2, passed := [2] } }

/-- A full stone that ends course H, one passed before it too; an entry published into an empty history and beside others. -/
theorem witness_StonesAndIndex_history :
    (isUp overtaking = true) ∧
    (TablesRise overtaking) ∧
    (MemoryWf overtaking) ∧
    (AsWritten 7 0 overtaking) ∧
    (overtaking.qry.published.Nodup ∧ overtaking.qry.newest = some 2 ∧ overtaking.qry.full = (0, List.replicate 512 0) :: [(4, List.replicate 512 0)]) ∧
    ((1 : Nat) ∉ (stored [1] false).qry.passed ∧ (stored [1] false).qry.full.tail = (4, List.replicate 512 0) :: []) ∧
    ((publishReady { publishable with qry := { publishable.qry with published := [] } }) = some (⟨2, []⟩, ⟨2, [(63, 31)], [], true⟩) ∧
      publishable.qry.published = [1]) := by
  repeat' (with_reducible apply And.intro)
  all_goals (first | exact rises_ok (by decide +kernel) | exact wf_ok (by decide +kernel) | exact asWritten_ok (by decide +kernel) | decide +kernel)

/-- A quarry in a halt with the requests of another state. -/
def halted (s : State) : State := { s with qry := { s.qry with phase := .halted } }

/-- The same course with its descriptor marked damaged. -/
def marked : State :=
  { stored [1] false with hbm := { (stored [1] false).hbm with bytes := smInsert (smInsert (smInsert (smInsert (smInsert storedBytes
      (entryQa 1 + 303) 0xA0) (entryQa 1 + 508) 0x02) (entryQa 1 + 509) 0x7D) (entryQa 1 + 510) 0x13) (entryQa 1 + 511) 0xE6 } }

/-- Its CRC holds. -/
theorem marked_read : readIndex marked 1 = some (hbmWords marked (entryQa 1) 64) := by
  have h : dfld ((hbmWords marked (entryQa 1) 64).getD 63 0) 31 0 = entryCrc (hbmWords marked (entryQa 1) 64) ∧
      dfld ((hbmWords marked (entryQa 1) 64).getD 0 0) 63 8 = 1 := by
    constructor
    · simp only [entryCrc, crc32c_run]; decide +kernel
    · decide +kernel
  unfold readIndex; exact if_pos h

/-- Requests in a halt; a request that waits for pins; an entry that is no stub, its block held and marked damaged, and one whose slot meets a burst. -/
theorem witness_QuarryIsRead_entries :
    (isUp (halted (stored [1] false)) = true ∧ (halted (stored [1] false)).qry.phase ≠ .running) ∧
    (TablesRise (halted (stored [1] false))) ∧
    (((entryById (halted (stored [1] false)) 0).bind (fun e => e.gather 0)).map (·.parts) = some []) ∧
    (crowded.qry.phase = .running ∧ crowded.qry.reads.map (·.broken) = [false, false]) ∧
    (isStub (entryMet (stored [1] false) [stoneCount + 1] 1) = true) ∧
    (TablesRise marked) ∧
    (MemoryWf marked) := by
  repeat' (with_reducible apply And.intro)
  all_goals (first | exact rises_ok (by decide +kernel) | exact wf_ok (by decide +kernel) | decide +kernel)

theorem witness_QuarryIsRead_marked : (isStub (entryMet (stored [1] false) [] 1) = false) ∧ isStub (entryMet marked [] 1) = false ∧
    dfld ((entryMet marked [] 1).getD (6 + 31) 0) 7 7 = 1 ∧ dfld ((entryMet marked [] 1).getD (6 + 31) 0) 5 5 = 1 := by
  have h : entryMet (stored [1] false) [] 1 = entry1 := by unfold entryMet; rw [entryOf, entry1_read]; rfl
  have h' : entryMet marked [] 1 = hbmWords marked (entryQa 1) 64 := by unfold entryMet; rw [entryOf, marked_read]; rfl
  rw [h, h']; decide +kernel

/-- A block of the Plumb's store that a read has found damaged. -/
def damagedRecord : State := setEcc 9 0 0 ⟨.damaged, 0⟩ holdingSram

/-- Table blocks that are EMPTY and DAMAGED; blocks of the other memories that nothing has written and that are DAMAGED. -/
theorem witness_MemoryErrorsAreCaught_bad :
    (isUp (block .damaged 0) = true ∧ (tblock (block .damaged 0) 31 0).phase = .damaged ∧ (tblock full 31 0).phase = .empty) ∧
    (NamesInRange (block .damaged 0)) ∧
    (0 < memBlocks 4 ∧ gatedMemory 4 = false ∧ sramHeld full 4 0 0 = false ∧ eccWritten full 4 0 0 = false ∧ 0 < memCount 4) ∧
    (sramHeld damagedRecord 9 0 0 = true ∧ (eccBlock damagedRecord 9 0 0).phase = .damaged ∧ 0 < memBlocks 9) ∧
    (TablesRise damagedRecord) ∧
    (MemoryWf damagedRecord) ∧
    (NamesInRange damagedRecord) := by
  repeat' (with_reducible apply And.intro)
  all_goals (first | exact rises_ok (by decide +kernel) | exact wf_ok (by decide +kernel) | exact names_ok (by decide +kernel) | decide +kernel)

/-- What unit 3 gathered of course 95. -/
def gather95 : Gather := { gather94 with parts := [⟨95, 31, .ring [⟨record63, []⟩]⟩] }

/-- One record of the entry, alone in its unit: its streams differ, and it is the only one in build. -/
theorem witness_FragmentsTakeCells_need :
    (((tabled .accept 6080 gather95 (recOn (.waiting 96) .zero)).recs.map (·.stream)).Nodup) ∧
    (∀ y ∈ (tabled .accept 6080 gather95 (recOn (.waiting 96) .zero)).recs, y.unit = 3 → y.inBuild = true → y = recOn (.waiting 96) .zero) ∧
    (((tabled .accept 6272 ⟨3, false, false, [], [], [], [], []⟩ (recOn .building .zero)).recs.map (·.stream)).Nodup) ∧
    (min 16 ((8 * gatheredWords (tabled .accept 6080 gather95 (recOn (.waiting 96) .zero)) gather95 0x8000000000000000 + 255) / 256) = 1) ∧
    (gathered (noCells full) (tabled .accept 6080 gather95 (recOn (.waiting 96) .zero)) gather95 = false ∧ freeCells (noCells full) = 0) ∧
    (TablesRise (noCells (withEntry (tabled .accept 6080 gather95 (recOn (.waiting 96) .zero)) full))) := by
  repeat' (with_reducible apply And.intro)
  all_goals (first | exact rises_ok (by decide +kernel) | decide +kernel)

/-- A stream without a block, whose next record starts one, and one with a block. -/
theorem witness_RecordsAreReleased_blocks :
    ((stream (ready47 .complete [0] 1) 47).block = none ∧ ((stream (after (.recordRelease 47 0) (ready47 .complete [0] 1)) 47).block).isSome = true) ∧
    ((stream (onLinks [47]) 47).block ≠ none) ∧
    ((stream (after (.recordRelease 47 0) (modUplink 47 (fun x => { x with phase := .idle }) (ready47 .complete [0] 1))) 47).block = none ∨
      releaseCovered (modUplink 47 (fun x => { x with phase := .idle }) (ready47 .complete [0] 1)) 47 (recOn .complete [0]) = false) := by
  repeat' (with_reducible apply And.intro)
  all_goals decide +kernel

/-- A record released beside the block of stream 47, and an INIT that waits for its end. -/
def onLinksNext (init : Option (BitVec 32)) : State :=
  modUplink 47 (fun x => { x with initWait := init, consumed := 7 }) (modStream 47 (fun x => { x with out := [⟨1, 1, [1, 2, 3], 2, .zero, false, 0, [], false, false⟩] }) (onLinks [47]))

/-- INIT without a block; a block that ends with a record to follow, and with an INIT that waits; no other stream's block is on the uplink. -/
theorem witness_UplinksFollow_consumed :
    (blockOn (credited .active 10) 47 = none ∧ (uplink (credited .active 10) 47).phase ≠ .down) ∧
    (isUp (onLinksNext none) = true) ∧
    (TablesRise (onLinksNext (some 5))) ∧
    (blockOn (onLinksNext none) 47 = some 47 ∧ (uplink (onLinksNext none) 47).consumed = 7 ∧ (uplink (onLinksNext (some 5)) 47).initWait = some 5) ∧
    (∀ m < 4, AsWritten 3 m (onLinksNext none)) := by
  repeat' (with_reducible apply And.intro)
  all_goals (first | exact rises_ok (by decide +kernel) | exact asWritten_all (by decide +kernel) | decide +kernel)

theorem witness_UplinksFollow_alone : ∀ (k' : Nat) (b' : TxBlock), k' ≠ 47 → (stream (onLinksNext none) k').block = some b' → 47 ∉ b'.carriers := by
  intro k b hk h
  have : ∀ n, n ≠ 47 → (stream (onLinksNext none) n).block = none :=
    smGet_all (P := fun n (x : Stream) => n ≠ 47 → x.block = none) (fun _ _ => rfl) _ (by decide +kernel)
  rw [this k hk] at h; cases h

/-- Channel 17 measures its bridge against the excitation of channel 16, in conversion. -/
def bridge (opened : Bool) : State :=
  modConv 16 (fun x => { x with run := x.run.map fun r => { r with cfg := mkFld 2 0 4 ||| mkFld 17 16 2, wasOpen := opened } }) (fourWire false 0)

/-- Sources of channels 16 and 15 that have still to change; channel 16 belongs to the converter of the sensing channel 17. -/
def changingSources : State :=
  modChan 15 (fun x => { x with excPending := true, settleLeft := 2 }) (modChan 16 (fun x => { x with excPending := true, settleLeft := 2 })
    (setCell .gauChCfg 16 0 (mkFld 2 0 5 ||| mkFld 11 8 2) (idleConv (some 17) false)))

/-- A ratio to an excitation of 5 V, one to none, one to the reference; a change that takes effect with the start of its own converter and one that does not. -/
theorem witness_GaugeConverts_references :
    (TablesRise (bridge false)) ∧
    ((gauConv (bridge false) 16).run.map (fun x => (x.channel, cfgMode x.cfg, x.wasOpen)) = some (17, 4, false)) ∧
    ((⟨0, 5 * 2 ^ 48, 2000000, none⟩ : GauReading).excitation ≠ 0 ∧ (⟨0, 0, 2000000, none⟩ : GauReading).excitation = 0 ∧ 5 * 2 ^ 47 ≠ 0) ∧
    (isUp changingSources = true ∧ startChan changingSources 16 = some 17 ∧ (gauConv changingSources 16).fresh = false) ∧
    (TablesRise changingSources) ∧
    ((gauChan changingSources 16).excPending = true ∧ 16 ∈ convChans 16 ∧ (gauChan changingSources 17).excPending = false) ∧
    ((gauChan changingSources 15).excPending = true ∧ 15 ∉ convChans 16 ∧ 15 % 2 = 1) ∧
    (16 % 2 = 0 ∧ 16 + 1 ∈ convChans 16 ∧ isSense (cfgMode (chCfg changingSources (16 + 1))) = true) := by
  repeat' (with_reducible apply And.intro)
  all_goals (first | exact rises_ok (by decide +kernel) | decide +kernel)

/-- A change of channel 16, whose sensing partner is in conversion, and one of channel 17. -/
theorem witness_GaugeSources_moved :
    (HostMay 0 .gauChCfg 16 0 1 { fourWire false 0 with port0 := { HostPort.reset with l0 := true } }) ∧
    (TablesRise { fourWire false 0 with port0 := { HostPort.reset with l0 := true } }) ∧
    (lockSet (fourWire false 0) .gauChCfg 16 = false ∧ (decide (16 < 64) && (cfgMode (cell (fourWire false 0) .gauChCfg 16) != cfgMode 1 ||
      cfgExc (cell (fourWire false 0) .gauChCfg 16) != cfgExc 1)) = true) ∧
    (16 % 2 = 0 ∧ isSense (cfgMode (chCfg (fourWire false 0) (16 + 1))) = true ∧ ((gauConv (fourWire false 0) (chanConv 17)).run).isSome = true) ∧
    (17 % 2 ≠ 0 ∧ isSense (cfgMode (chCfg (fourWire false 0) (17 + 1))) = false) := by
  repeat' (with_reducible apply And.intro)
  all_goals (first | exact rises_ok (by decide +kernel) | exact may_ok (by decide +kernel) | decide +kernel)

/-- Output 3 follows its result, 30.2%. -/
def driven302 : State := after (.gauOutputPeriod 3 reads302) (after (.conversionEnd 16 fourWireReading) (fourWire false 0))

/-- Output 3 driven at 30.2% reads back good at the limit, bad past it, and bad without an edge. -/
theorem witness_InterlockOutputs_bad :
    (∀ r ∈ [(⟨302, 1000, 2⟩ : GauReadback), ⟨312, 1000, 2⟩, ⟨292, 1000, 2⟩], (!(gauOut driven302 3).highZ &&
      (decide (r.edges < 2) || decide (10 * r.period < ((1000 * r.high : Nat) - ((gauOut driven302 3).duty * r.period : Nat) : Int).natAbs))) = false) ∧
    (∀ r ∈ [(⟨302, 1000, 1⟩ : GauReadback), ⟨313, 1000, 2⟩, ⟨291, 1000, 2⟩], (!(gauOut driven302 3).highZ &&
      (decide (r.edges < 2) || decide (10 * r.period < ((1000 * r.high : Nat) - ((gauOut driven302 3).duty * r.period : Nat) : Int).natAbs))) = true) ∧
    ((gauOut (fourWire false 0) 3).highZ = true) := by
  decide +kernel

/-- A valid input, an excursion; rails at 5% and past it, the negative rail too; sensors at and below their limits. -/
theorem witness_PowerIsMeasured_limits :
    (isUp { full with pwr := { full.pwr with input := true } } = true) ∧
    (TablesRise { full with pwr := { full.pwr with input := true } }) ∧
    (20 * ((840 : Int) - 800).natAbs ≤ (800 : Int).natAbs ∧ ¬ 20 * ((841 : Int) - 800).natAbs ≤ (800 : Int).natAbs) ∧
    (20 * ((-6300 : Int) + 6000).natAbs ≤ 6000 ∧ ¬ 20 * ((-6301 : Int) + 6000).natAbs ≤ 6000 ∧ 20 * ((6300 : Int) - 6000).natAbs ≤ (6000 : Int).natAbs) ∧
    ((920 : Int) ≤ (920#16 : BitVec 16).toInt ∧ ¬ (920 : Int) ≤ (919#16 : BitVec 16).toInt ∧ (1000 : Int) ≤ (1000#16 : BitVec 16).toInt) ∧
    ((List.range 16).any (fun n => decide (920 ≤ ((List.replicate 17 (919 : BitVec 16)).getD n 0).toInt)) = false) ∧
    ((List.range 16).any (fun n => decide (920 ≤ ((List.replicate 16 (0 : BitVec 16) ++ [1000]).getD n 0).toInt)) = false) := by
  repeat' (with_reducible apply And.intro)
  all_goals (first | exact rises_ok (by decide +kernel) | decide +kernel)

/-- The falling lockout lies in what it may be, so an input below the range need not trip. -/
theorem witness_PowerIsMeasured_lockout : lockoutFalling ≤ (35999#17).toNat ∧ (0#17).toNat < lockoutFalling := by
  have h2 := Config.lockoutFalling.isLt
  simp only [lockoutFalling]
  refine ⟨?_, ?_⟩
  · have : (35999#17).toNat = 35999 := by decide
    omega
  · have : (0#17).toNat = 0 := by decide
    omega

/-- A tripped machine with its input gone, and one whose input stays; FOUND_RST_N and the power stage's sensor. -/
def trippedAs (cause : TripCause) (input low : Bool) (stage : BitVec 16) : State :=
  { State.reset with pwr := { Power.reset with trip := some cause, input := input, resetPin := low, stage := stage } }

/-- Each condition of a trip met and not; an input that rises, a trip that the pin may clear and ones that it may not; TRST_N low and high. -/
theorem witness_TripsAndResets_conditions :
    ((List.range 16).any (fun n => decide (920 ≤ ((List.replicate 16 (920 : BitVec 16)).getD n 0).toInt)) = true ∧ (1000 : Int) ≤ ((List.replicate 17 (1000 : BitVec 16)).getD 16 0).toInt) ∧
    ((List.range 16).any (fun n => decide (920 ≤ ((List.replicate 17 (0 : BitVec 16)).getD n 0).toInt)) = false ∧ ¬ (1000 : Int) ≤ ((List.replicate 17 (999 : BitVec 16)).getD 16 0).toInt) ∧
    ((trippedAs .underVoltage false false 0).pwr.input = false ∧ (trippedAs .dieTemperature true true 679).pwr.input = true ∧ (trippedAs .dieTemperature true true 679).pwr.resetPin = true ∧
      (trippedAs .dieTemperature true true 679).pwr.stage.toInt < 680 ∧ ¬ (trippedAs .stageTemperature true true 680).pwr.stage.toInt < 680 ∧
      (trippedAs .stageTemperature true false 0).pwr.resetPin = false) ∧
    ((trippedAs .dieTemperature true true 679).pwr.trip = some .dieTemperature ∧ isUp (trippedAs .stageTemperature true true 680) = false ∧
      (trippedAs .underVoltage false false 0).pwr.trip ≠ some .dieTemperature ∧ (trippedAs .underVoltage true true 0).pwr.input = true) ∧
    ((7#3).getLsbD 0 = true ∧ (7#3).getLsbD 2 = true ∧ (4#3).getLsbD 0 = false ∧ (4#3).getLsbD 2 = true) ∧
    (∀ j < 3, (7#3).getLsbD j = true → ([inReset.cns.control0, inReset.cns.control1, inReset.cns.control2].getD j inReset.cns.control0).next ≤ inReset.cns.control0.next ∧
      (j < 0 → ([inReset.cns.control0, inReset.cns.control1, inReset.cns.control2].getD j inReset.cns.control0).next < inReset.cns.control0.next)) ∧
    (full.jtag.trst = false ∧ (after (.jtagInstruction (.trst true)) full).jtag.trst = true) := by
  repeat' (with_reducible apply And.intro)
  all_goals decide +kernel

/-- A Plumb in a phase, with a fire met in this core cycle that no arm has taken yet, or with one of an earlier core cycle. -/
def waitingFire (ph : PlbPhase) (origin : Nat) (now : Bool) : State :=
  plumb ph (fun x => { x with waiting := some ⟨⟨100, 163⟩, origin, if now then timeTag (plumb .idle id) else 0, 0⟩, read := true })

/-- An arm with a fire of its core cycle and with an older one; a fire that takes the place of a waiting one and one that does not; a HELD store that has been
read; the records of a store that are not after this core cycle. -/
theorem witness_PlumbArmsAndFires_waiting :
    (TablesRise (waitingFire .idle 3 true)) ∧
    (HostMay 0 .plbCtl 0 0 1 (waitingFire .held 3 true)) ∧
    (HostMay 1 .plbCtl 0 0 4 (waitingFire .idle 3 true)) ∧
    ((waitingFire .idle 3 true).plb.waiting = some ⟨⟨100, 163⟩, 3, timeTag (waitingFire .idle 3 true), 0⟩ ∧ (0 : Nat) < 3 ∧ plbAlive (waitingFire .idle 3 true) = true) ∧
    ((waitingFire .idle 0 true).plb.waiting.map (·.origin) = some 0 ∧ (0 : Nat) ≤ 0 ∧ (waitingFire .idle 0 false).plb.waiting.map (·.tag) ≠ some (timeTag (waitingFire .idle 0 false))) ∧
    ((waitingFire .held 3 true).plb.phase = .held ∧ (waitingFire .held 3 true).plb.read = true ∧ (waitingFire .held 3 true).plb.fire = none) ∧
    (TablesRise (waitingFire .held 3 true)) ∧
    (∀ y ∈ (plbDrainAll (plumb .armed id)).plb.store, y.tag ≤ timeTag (plumb .armed id)) ∧
    ((plumb .triggered (fun x => { x with fire := some ⟨⟨99, 0⟩, 0, 0, 0⟩ })).plb.fire.map (·.tag) ≠ some (timeTag (plumb .triggered id))) := by
  repeat' (with_reducible apply And.intro)
  all_goals (first | exact rises_ok (by decide +kernel) | exact may_ok (by decide +kernel) | decide +kernel)

/-- A threshold that crosses with nothing of the queue and of the store after its sample. -/
theorem witness_PlumbRecordsChanges_tag :
    (rising.plb.lossDue = 0 ∧ rising.plb.queue.length < 256 ∧ (∀ y ∈ rising.plb.queue, y.kind ≤ 2) ∧ ∀ y ∈ rising.plb.store, 2 < y.kind → y.tag ≤ sampleTag rising 63) ∧
    (rising.plb.phase = .armed ∧ rising.plb.fill = false ∧ rising.plb.fire = none) := by
  repeat' (with_reducible apply And.intro)
  all_goals decide +kernel

/-- A stone without the first block of course H is the next to be written. -/
def laterStone : State := { stored [1] false with qry := { (stored [1] false).qry with full := [(4, List.replicate 512 0)] } }

/-- The close of course 1 is known. -/
def rewritable : State := { stored [1] false with ring := { full.ring with closes := [⟨1, [(63, 31)], [], true⟩] } }

/-- A course whose entry waits for a free pin, published into an empty history. -/
def firstEntry : State := { publishable with qry := { publishable.qry with published := [] } }

theorem witness_StonesAndIndex_states :
    (TablesRise laterStone ∧ laterStone.qry.full = (4, List.replicate 512 0) :: []) ∧
    (MemoryWf laterStone) ∧
    (TablesRise rewritable ∧ closeRec rewritable 1 = some ⟨1, [(63, 31)], [], true⟩) ∧
    (MemoryWf rewritable) ∧
    (TablesRise firstEntry ∧ firstEntry.qry.published = []) ∧
    (MemoryWf firstEntry) := by
  repeat' (with_reducible apply And.intro)
  all_goals (first | exact rises_ok (by decide +kernel) | exact wf_ok (by decide +kernel) | decide +kernel)

/-- The last echo of each result. -/
theorem witness_EchoesMeasureDelay_ends :
    (TablesRise (echoes (List.replicate 63 461786) 0)) ∧
    (NamesInRange (echoes (List.replicate 63 461786) 0)) ∧
    (TablesRise (echoes (List.replicate 63 0) 0)) ∧
    (TablesRise (setCell .quoDlPhase 63 0 0x100000 (echoes (List.replicate 63 461786) 1040000))) ∧
    (smFind (echoes (List.replicate 63 461786) 0).quo.rounds 63 = some (List.replicate 63 461786)) := by
  repeat' (with_reducible apply And.intro)
  all_goals (first | exact rises_ok (by decide +kernel) | exact names_ok (by decide +kernel) | decide +kernel)

/-- Domain `d` LOCKED beside a free servo, and a selection of a domain. -/
def lockedFree (d : Fin 2) : State := domIs d .locked full

/-- A selection of domain 1 at a tick, forced or not. -/
def selecting (force : Bool) : TickDue := ⟨some (1, force), [], []⟩

/-- The missing parts of the criteria to lock, one at a time. -/
def lacking (n : Nat) : State :=
  modDom 1 (fun x => match n with
    | 0 => { x with phaseRun := 62 }
    | 1 => { x with goodSyncs := 3 }
    | 2 => { x with exchangeDone := false }
    | 3 => { x with announced := false }
    | _ => { x with lastCount := some (7, 0) }) ticking

/-- What a tick observes of a good oscillator out of phase in domain 1. -/
def outOfPhase : TickObs := { goodObs with phaseOkB := false }

/-- Servos that become ACQUIRE on each domain; selections that are followed and that are not; criteria that are missed. -/
theorem witness_CourseTickAdvances_servo :
    (TablesRise (lockedFree 0) ∧ (lockedFree 0).quo.servo = .free ∧ (qdom (lockedFree 0) 0).phase = .locked) ∧
    (TablesRise (lockedFree 1) ∧ (qdom (lockedFree 1) 0).phase ≠ .locked ∧ (qdom (lockedFree 1) 1).phase = .locked) ∧
    ((selecting true).selection = some (1, true) ∧ (selecting false).selection = some (1, false)) ∧
    (TablesRise (lacking 0) ∧ (qdom (lacking 0) 1).phaseRun < 63) ∧
    (TablesRise (lacking 1) ∧ (qdom (lacking 1) 1).goodSyncs < 4) ∧
    (TablesRise (lacking 2) ∧ (qdom (lacking 2) 1).exchangeDone = false) ∧
    (TablesRise (lacking 3) ∧ (qdom (lacking 3) 1).announced = false) ∧
    (TablesRise (lacking 4) ∧ (qdom (lacking 4) 1).lastCount = some (7, 0) ∧ 4096 < nowGbt (lacking 4) - 0) ∧
    (outOfPhase.phaseOkB = false ∧ goodObs.xoPresent = true ∧ goodObs.xoWithin100ppm = true ∧ goodObs.xoWithin5pct = true) ∧
    ((btrVote (courseRest ticking)).1.quo = ticking.quo) := by
  repeat' (with_reducible apply And.intro)
  all_goals (first | exact rises_ok (by decide +kernel) | decide +kernel)

/-- A reading that saturates. -/
def saturatedReading : GauReading := ⟨0, 0, 2000000, some true⟩

/-- Channel 18 in the scan beside channel 17. -/
def twoInScan (c : Option Nat) : State := setCell .gauChCfg 18 0 0x80001 (idleConv c false)

/-- Converter 16 about to begin on channel 17, with a cause to settle. -/
def settling (n : Nat) : State :=
  let s := idleConv (some 17) false
  match n with
  | 0 => modConv 16 (fun x => { x with settleAll := true }) s
  | 1 => modConv 16 (fun x => { x with lastPeriod := some (1, true) }) s
  | 2 => modChan 17 (fun x => { x with excPending := true }) s
  | 3 => modChan 17 (fun x => { x with lastGain := some (7, true) }) s
  | _ => modChan 17 (fun x => { x with burnout := true, sinceCheck := 1 }) s

/-- Saturation; steps over two channels from each of them; the causes to settle; an input that is open no more; a converter that does not wait for the second. -/
theorem witness_GaugeConverts_settle :
    (saturatedReading.saturated = some true) ∧
    (TablesRise (twoInScan (some 17)) ∧ inScan (twoInScan (some 17)) 18 = true ∧ inScan (twoInScan (some 17)) 17 = true) ∧
    (TablesRise (twoInScan (some 18))) ∧
    (TablesRise (modConv 16 (fun x => { x with visit := 9 }) (twoInScan (some 17))) ∧ stepDue (modConv 16 (fun x => { x with visit := 9 }) (twoInScan (some 17))) 16 = true) ∧
    (TablesRise (modConv 16 (fun x => { x with visit := 9 }) (twoInScan (some 18)))) ∧
    (TablesRise (settling 0) ∧ (gauConv (settling 0) 16).settleAll = true) ∧
    (TablesRise (settling 1) ∧ (gauConv (settling 1) 16).lastPeriod = some (1, true)) ∧
    (TablesRise (settling 2) ∧ (gauChan (settling 2) 17).excPending = true) ∧
    (TablesRise (settling 3) ∧ (gauChan (settling 3) 17).lastGain = some (7, true)) ∧
    (TablesRise (settling 4) ∧ (gauChan (settling 4) 17).burnout = true) ∧
    (TablesRise (setCell .gauCtl 0 0 9 (idleConv (some 17) false)) ∧ (gauConv (setCell .gauCtl 0 0 9 (idleConv (some 17) false)) 16).fresh = false) := by
  repeat' (with_reducible apply And.intro)
  all_goals (first | exact rises_ok (by decide +kernel) | decide +kernel)

/-- The Plumb's domain is OFF. -/
def plumbOff (ph : PlbPhase) : State := modDomain 78 (fun x => { x with phase := .off }) (plumb ph (fun x => { x with fire := some ⟨⟨99, 0⟩, 0, 0, 0⟩ }))

/-- An idle Plumb with a slot in use and a fire met in this core cycle. -/
def waitingSlot : State := slotted (fun x => { x with phase := .idle, waiting := some ⟨nowStamp full, 3, timeTag full, 0⟩ })

theorem witness_PlumbArmsAndFires_off :
    (TablesRise (plumbOff .triggered) ∧ plbAlive (plumbOff .triggered) = false ∧ (plumbOff .triggered).plb.phase = .triggered) ∧
    (TablesRise (plumbOff .idle)) ∧
    (TablesRise waitingSlot ∧ waitingSlot.plb.waiting.map (·.tag) = some (timeTag full)) := by
  repeat' (with_reducible apply And.intro)
  all_goals (first | exact rises_ok (by decide +kernel) | decide +kernel)

/-- A slot whose value has been recorded, and a Plumb that records nothing. -/
def recorded : State := plain (fun x => { x with slots := [(63, ⟨(slotSample (slotted id) 63).map (·.data), some (0xB42148, 0)⟩)] })

theorem witness_PlumbRecordsChanges_same :
    (TablesRise recorded ∧ plbRecording recorded = true ∧ (slotSample recorded 63).map (plbDiffers recorded 63) = some false) ∧
    (TablesRise (plain (fun x => { x with phase := .idle })) ∧ plbRecording (plain (fun x => { x with phase := .idle })) = false) := by
  repeat' (with_reducible apply And.intro)
  all_goals (first | exact rises_ok (by decide +kernel) | decide +kernel)

/-! ### Every step -/

/-- A machine whose power has gone, with nothing volatile left. -/
def dark : State := volatileLost tripped.pwr tripped

/-- A state that meets every invariant, and steps on: the machine right after reset and a machine off. -/
theorem witness_every_step : MemoryWf full ∧ TablesRise full ∧ Capacities full ∧ NamesInRange full ∧ OffIsLost dark ∧ isUp dark = false ∧
    (∃ t, step full = .next t) ∧ ∃ t, step dark = .next t :=
  ⟨wf_ok (by decide +kernel), rises_ok (by decide +kernel), caps_ok (by decide +kernel), names_ok (by decide +kernel),
    fun _ => by decide +kernel, by decide +kernel, ⟨_, rfl⟩, ⟨_, rfl⟩⟩

/-- A write that changes a KEEP bit is refused. -/
theorem witness_OnlyKeepStops :
    exec (.registerWrite 0 (BitVec.ofNat 24 (regOff .hstCb)) 0xFFFFFFFF) full = .refused .keepFieldChanged := by rfl

/-- Commands that change no KEEP bit: one that is no host write, and one that is. -/
theorem witness_OnlyKeepStops_leaves : LeavesKeep .orbitStart ∧ LeavesKeep (.fire 1) := by
  constructor
  · intro _ _ _ _ _ h; cases h
  · intro off w r i j h ha
    have h' : regAt (regOff .plbCtl) = some (.plbCtl, 0, 0) := by decide +kernel
    cases h; rw [h'] at ha; cases ha; decide +kernel

/-- A command that answers. -/
theorem witness_CommandFrames : answers .orbitStart full = true := by
  decide +kernel

end Sys2Proof.Tests
end

section
/-!
SUPPORT. The fault collector's acknowledgement, recovery and restart (R308, R314, R317 to R319): what each of its operations does to the log and to the
sources, what the rows that reach it answer, and the statements of the family settled.
-/
namespace Sys2Proof.Machine

/-! ### The state of a source -/

theorem srcState_of_srcs {s t : State} (h : t.flt.srcs = s.flt.srcs) (n : Nat) : srcState t n = srcState s n := by
  unfold srcState
  rw [h]

@[simp] theorem modSrc_log (n : Nat) (f : SrcState → SrcState) (s : State) : (modSrc n f s).flt.log = s.flt.log := rfl
@[simp] theorem modSrc_fullWaiting (n : Nat) (f : SrcState → SrcState) (s : State) : (modSrc n f s).flt.fullWaiting = s.flt.fullWaiting := rfl
@[simp] theorem modSrc_regs (n : Nat) (f : SrcState → SrcState) (s : State) : (modSrc n f s).regs = s.regs := rfl

theorem srcState_modSrc {s : State} (hs : TablesRise s) (n : Nat) (f : SrcState → SrcState) : srcState (modSrc n f s) n = f (srcState s n) :=
  smGet_upd_rises hs.srcs ..

theorem srcState_modSrc_other {s : State} (hs : TablesRise s) {n k : Nat} (h : k ≠ n) (f : SrcState → SrcState) :
    srcState (modSrc n f s) k = srcState s k :=
  smGet_upd_other hs.srcs _ _ _ _ _ h

/-! ### A source settles (R318, R319) -/

/-- The log holds no primary entry of source `n` that is not acknowledged. -/
def NoneOpen (n : Nat) (s : State) : Prop := ∀ e ∈ s.flt.log, e.report.source = n → e.consequential = true ∨ e.acked = true

theorem noneOpen_iff (n : Nat) (s : State) :
    NoneOpen n s ↔ s.flt.log.any (fun e => e.report.source == n && !e.consequential && !e.acked) = false := by
  unfold NoneOpen
  rw [List.any_eq_false]
  refine forall₂_congr fun e _ => ?_
  cases e.consequential <;> cases e.acked <;> simp

/-- A source settles in one of two ways: it is IDLE with its capture re-armed, where it was not IDLE and has no open entry; else nothing happens. -/
theorem settleSource_cases (n : Nat) (s : State) :
    ((srcState s n).phase ≠ .idle ∧ NoneOpen n s ∧ settleSource n s = modSrc n (fun x => { x with phase := .idle, firstHeld := none }) s) ∨
    (((srcState s n).phase = .idle ∨ ¬ NoneOpen n s) ∧ settleSource n s = s) := by
  unfold settleSource
  split
  · next h => exact .inl ⟨h.1, (noneOpen_iff n s).2 (by simpa using h.2), rfl⟩
  · next h =>
    refine .inr ⟨?_, rfl⟩
    rw [noneOpen_iff]
    by_cases hp : (srcState s n).phase = .idle
    · exact .inl hp
    · exact .inr fun hf => h ⟨hp, by rw [hf]; rfl⟩

@[simp] theorem settleSource_log (n : Nat) (s : State) : (settleSource n s).flt.log = s.flt.log := by
  obtain ⟨-, -, h⟩ | ⟨-, h⟩ := settleSource_cases n s
  · rw [h, modSrc_log]
  · rw [h]

@[simp] theorem settleSource_fullWaiting (n : Nat) (s : State) : (settleSource n s).flt.fullWaiting = s.flt.fullWaiting := by
  obtain ⟨-, -, h⟩ | ⟨-, h⟩ := settleSource_cases n s
  · rw [h, modSrc_fullWaiting]
  · rw [h]

theorem settleSource_tables {s : State} (hs : TablesRise s) (n : Nat) : TablesRise (settleSource n s) := (settleSource_does n s).tables hs

theorem settleSource_other {s : State} (hs : TablesRise s) {n k : Nat} (hk : k ≠ n) : srcState (settleSource n s) k = srcState s k := by
  obtain ⟨-, -, h⟩ | ⟨-, h⟩ := settleSource_cases n s
  · rw [h, srcState_modSrc_other hs hk]
  · rw [h]

theorem settleSource_idle {s : State} (hs : TablesRise s) {n : Nat} (ho : NoneOpen n s) : (srcState (settleSource n s) n).phase = .idle := by
  obtain ⟨-, -, h⟩ | ⟨hp, h⟩ := settleSource_cases n s
  · rw [h, srcState_modSrc hs]
  · rw [h]
    exact hp.resolve_right (not_not_intro ho)

theorem settleSource_keeps_idle {s : State} (hs : TablesRise s) (n : Nat) {k : Nat} (h : (srcState s k).phase = .idle) :
    (srcState (settleSource n s) k).phase = .idle := by
  by_cases hk : k = n
  · subst hk
    obtain ⟨hp, -, -⟩ | ⟨-, e⟩ := settleSource_cases k s
    · exact absurd h hp
    · rw [e, h]
  · rw [settleSource_other hs hk, h]

/-! ### A list of sources settles -/

@[simp] theorem forL_nil {σ α : Type} (f : α → σ → σ) (s : σ) : forL [] f s = s := rfl
@[simp] theorem forL_cons {σ α : Type} (a : α) (l : List α) (f : α → σ → σ) (s : σ) : forL (a :: l) f s = forL l f (f a s) := rfl

@[simp] theorem settleAll_log (l : List Nat) (s : State) : (forL l settleSource s).flt.log = s.flt.log := by
  induction l generalizing s with
  | nil => rfl
  | cons n l ih => rw [forL_cons, ih, settleSource_log]

@[simp] theorem settleAll_fullWaiting (l : List Nat) (s : State) : (forL l settleSource s).flt.fullWaiting = s.flt.fullWaiting := by
  induction l generalizing s with
  | nil => rfl
  | cons n l ih => rw [forL_cons, ih, settleSource_fullWaiting]

theorem settleAll_other {l : List Nat} {s : State} (hs : TablesRise s) {k : Nat} (hk : k ∉ l) : srcState (forL l settleSource s) k = srcState s k := by
  induction l generalizing s with
  | nil => rfl
  | cons n l ih =>
    obtain ⟨hn, hl⟩ := List.ne_and_not_mem_of_not_mem_cons hk
    rw [forL_cons, ih (settleSource_tables hs n) hl, settleSource_other hs hn]

theorem settleAll_keeps_idle (l : List Nat) {s : State} (hs : TablesRise s) {k : Nat} (h : (srcState s k).phase = .idle) :
    (srcState (forL l settleSource s) k).phase = .idle := by
  induction l generalizing s with
  | nil => exact h
  | cons n l ih => exact ih (settleSource_tables hs n) (settleSource_keeps_idle hs n h)

theorem settleAll_idle {l : List Nat} {s : State} (hs : TablesRise s) {k : Nat} (hk : k ∈ l) (ho : NoneOpen k s) :
    (srcState (forL l settleSource s) k).phase = .idle := by
  induction l generalizing s with
  | nil => cases hk
  | cons n l ih =>
    obtain rfl | hl := List.mem_cons.1 hk
    · exact settleAll_keeps_idle l (settleSource_tables hs k) (settleSource_idle hs ho)
    · exact ih (settleSource_tables hs n) hl (by unfold NoneOpen; rw [settleSource_log]; exact ho)

/-! ### Acknowledgement (R319) -/

theorem logWaiting_none {s : State} (h : s.flt.fullWaiting = none) : logWaiting s = s := by
  unfold logWaiting
  rw [h]

/-- The log with the entries of a test acknowledged, and the mark beside the newest level-4 number: what `ackWhere` does before sources settle. -/
def ackMark (p : LogEntry → Bool) (s : State) : State :=
  s.modFlt fun f => { f with
    log := f.log.map (fun e => if p e then { e with acked := true } else e)
    newestL4 := f.newestL4.map (fun x => (x.1, x.2 || (s.flt.log.filter p).any (fun e => e.seq == x.1))) }

/-- The sources of the primary entries that satisfy a test. -/
def ackSources (p : LogEntry → Bool) (s : State) : List Nat := ((s.flt.log.filter p).filter (fun e => !e.consequential)).map (fun e => e.report.source)

theorem mem_ackSources {p : LogEntry → Bool} {s : State} {n : Nat} :
    n ∈ ackSources p s ↔ ∃ e ∈ s.flt.log, p e = true ∧ e.consequential = false ∧ e.report.source = n := by
  simp [ackSources, and_assoc, and_left_comm]

theorem ackMark_tables {s : State} (hs : TablesRise s) (p : LogEntry → Bool) : TablesRise (ackMark p s) := by
  unfold ackMark
  refine (State.modFlt_does _ s (fun y h => ?_) (fun y h => ?_)).tables hs
  · rw [List.length_map]
    exact h
  · exact h

/-- With no FLT_LOG_FULL waiting, acknowledgement marks the entries and settles their sources, and that is all. -/
theorem ackWhere_eq {s : State} (hw : s.flt.fullWaiting = none) (p : LogEntry → Bool) :
    ackWhere p s = forL (ackSources p s) settleSource (ackMark p s) :=
  logWaiting_none ((settleAll_fullWaiting ..).trans hw)

theorem ackWhere_ackedBy {s : State} (hs : TablesRise s) (hw : s.flt.fullWaiting = none) (p : LogEntry → Bool) : AckedBy p s (ackWhere p s) := by
  have hm := ackMark_tables hs p
  rw [ackWhere_eq hw]
  refine ⟨settleAll_log .., fun hc => ?_, fun e he hp hc hd => ?_, fun n hn => ?_⟩
  · have hnil : ackSources p s = [] := List.eq_nil_iff_forall_not_mem.2 fun n h => by
      obtain ⟨e, he, hp, hf, -⟩ := mem_ackSources.1 h
      rw [hc e he hp] at hf
      cases hf
    rw [hnil]
    rfl
  · rw [settleAll_log] at hd
    exact settleAll_idle hm (mem_ackSources.2 ⟨e, he, hp, hc, rfl⟩) hd
  · refine settleAll_other hm fun h => ?_
    obtain ⟨e, he, hp, hc, hsrc⟩ := mem_ackSources.1 h
    exact hn e he hp hc hsrc

/-- An acknowledgement is seen in the log and the sources alone. -/
theorem AckedBy.of_same {p : LogEntry → Bool} {s s' t t' : State} (h : AckedBy p s t) (hl : s'.flt.log = s.flt.log) (hr : s'.flt.srcs = s.flt.srcs)
    (kl : t'.flt.log = t.flt.log) (kr : t'.flt.srcs = t.flt.srcs) : AckedBy p s' t' := by
  unfold AckedBy srcState at *
  rw [hl, hr, kl, kr]
  exact h

theorem fltAckUptoWrite_issued {w : Word} {s : State} (h : seqIssued s w.toNat = true) : fltAckUptoWrite w s =
    ackWhere (fun e => e.report.source == fld (cell s .fltAckSrc) 11 0 && notAfter 32 e.seq w.toNat) s := if_pos h

theorem fltAckUptoWrite_notIssued {w : Word} {s : State} (h : seqIssued s w.toNat = false) : fltAckUptoWrite w s = s :=
  if_neg (Bool.eq_false_iff.1 h)

/-! ### The rows -/

/-- A host write of a register that has only its fields and an effect of its own: the RW fields take the written bits, then the effect follows. -/
theorem hostRow_plain {p : Nat} {r : Reg} {i j : Nat} {w : Word} {s : State} (h : HostMay p r i j w s) (ha : RegIsAt r i j)
    (hm : regMask r .sqc = 0 ∧ regMask r .once = 0 ∧ regMask r .cb = 0 ∧ regMask r .lk = 0) (ho : ownHome r = false) (hf : r ≠ .fltCtl) :
    hostRow p (regOff r i j) w s =
      .next (writeEffect p r i j (cell s r i j) w (setCell r i j (mergeMask (storeMask r) (cell s r i j) w) s)) := by
  rw [hostRow_may h ha, writeReg_plain hm ho hf]

/-- Storing the bits of a write keeps the tables in order. -/
theorem setCell_tables {s : State} (hs : TablesRise s) (r : Reg) (i j : Nat) (w : Word) : TablesRise (setCell r i j w s) :=
  (setCell_does r i j w s).tables hs

theorem exec_fltAck {p : Fin 2} {w : Word} {s : State} (h : HostMay p .fltAck 0 0 w s) :
    ∃ v, exec (.fltAck p w) s = .next (fltAckWrite w (setCell .fltAck 0 0 v s)) :=
  ⟨_, hostRow_plain h at_fltAck (by decide) rfl (by decide)⟩

theorem exec_fltAckUpto {p : Fin 2} {w : Word} {s : State} (h : HostMay p .fltAckUpto 0 0 w s) :
    ∃ v, exec (.fltAckUpto p w) s = .next (fltAckUptoWrite w (setCell .fltAckUpto 0 0 v s)) :=
  ⟨_, hostRow_plain h at_fltAckUpto (by decide) rfl (by decide)⟩

theorem exec_fltDpCtl {p : Fin 2} {w : Word} {s : State} (h : HostMay p .fltDpCtl 0 0 w s) :
    ∃ v, exec (.fltDpCtl p w) s = .next (fltDpCtlWrite w (setCell .fltDpCtl 0 0 v s)) :=
  ⟨_, hostRow_plain h at_fltDpCtl (by decide) rfl (by decide)⟩

/-- A command row of a command that is ready starts it. -/
theorem lodgeRow_ready {m op : Nat} {x : LdgCmd} {s : State} (h : Ready m op x s) (start : LdgCmd → State → State) (goOn : LdgRun → State → State) :
    lodgeRow op m start goOn s = start x s := by
  unfold lodgeRow
  rw [h.run, h.start]
  exact if_pos h.opcode

/-- The checks of R372 pass for a command that is ready, has no bad value and needs no domain that is not ON. -/
theorem ldgChecks_ready {m op : Nat} {x : LdgCmd} {s : State} (h : Ready m op x s) (own : State → State) :
    ldgChecks m x false false own s = own s := by
  unfold ldgChecks
  rw [h.unused, h.opcode, h.owner]
  rfl

theorem exec_faultAckBulk {m : Fin 8} {x : LdgCmd} {s : State} (h : Ready m 0x80 x s) : exec (.faultAckBulk m) s =
    .next (if bit (x.w 1) 31 && !seqIssued s (x.w 3).toNat then ldgAtOnce m x 5 1 [] s
      else ldgAtOnce m x 0 0 [w32 (s.flt.log.filter (fun e => ackNames x e && !e.acked)).length] (ackWhere (ackNames x) s)) := by
  calc exec (.faultAckBulk m) s
      = .next (lodgeRow 0x80 m (faultAckBulkStart m) (fun _ t => t) s) := upNext_up h.up
    _ = .next (faultAckBulkStart m x s) := by rw [lodgeRow_ready h]
    _ = _ := by rw [faultAckBulkStart, ldgChecks_ready h]

/-- A command that ends raises a report at most: nothing else of the collector changes. -/
theorem ldgAtOnce_flt (m : Nat) (x : LdgCmd) (status detail : Nat) (res : List Word) (s : State) :
    ∃ fl rp, (ldgAtOnce m x status detail res s).flt = { s.flt with flying := fl, reported := rp } := by
  unfold ldgAtOnce ldgFinish
  dsimp only
  split
  · exact ⟨_, _, rfl⟩
  · rw [raise, State.modFlt_flt, event_flt]
    exact ⟨_, _, rfl⟩

theorem ldgAtOnce_log (m : Nat) (x : LdgCmd) (status detail : Nat) (res : List Word) (s : State) :
    (ldgAtOnce m x status detail res s).flt.log = s.flt.log := by
  obtain ⟨fl, rp, h⟩ := ldgAtOnce_flt m x status detail res s
  rw [h]

theorem ldgAtOnce_srcs (m : Nat) (x : LdgCmd) (status detail : Nat) (res : List Word) (s : State) :
    (ldgAtOnce m x status detail res s).flt.srcs = s.flt.srcs := by
  obtain ⟨fl, rp, h⟩ := ldgAtOnce_flt m x status detail res s
  rw [h]

/-! ### Recovery and restart (R308, R314, R317) -/

/-- A shadow is due: its closing course has come. -/
def Shadow.due (s : State) (h : Shadow) : Bool := match h.closeAt with | some c => decide (c ≤ nowCourse s) | none => false

theorem Shadow.due_eq_false {s : State} {h : Shadow} : h.due s = false ↔ ∀ c, h.closeAt = some c → nowCourse s < c := by
  unfold Shadow.due
  cases h.closeAt <;> simp

theorem shadowClose_shadows (s : State) : (shadowClose s).flt.shadows = s.flt.shadows.filter (fun h => !h.due s) := rfl

theorem mem_shadowClose_shadows {s : State} {h : Shadow} :
    h ∈ (shadowClose s).flt.shadows ↔ h ∈ s.flt.shadows ∧ ∀ c, h.closeAt = some c → nowCourse s < c := by
  rw [shadowClose_shadows, List.mem_filter, Bool.not_eq_true', Shadow.due_eq_false]

/-- R317: what quiet recovery makes of a source: IDLE, one recovery more, its first-error capture as it was. -/
def SrcState.recover (y : SrcState) : SrcState := { y with phase := .idle, recovered := satTo 16 (y.recovered + 1) }

/-- R317: a source returns to IDLE by quiet recovery. -/
def RecoversNow (s : State) (n : Nat) : Prop :=
  (srcState s n).phase ≠ .idle ∧ fld (cell s .fltSrcCfg n) 12 8 ≠ 0 ∧
    (srcState s n).lastPrimary + 2 ^ min 24 (fld (cell s .fltSrcCfg n) 12 8) ≤ nowCourse s ∧ heldInstances s n = []

theorem quietRecovery_taken {s : State} {n : Nat} (h : RecoversNow s n) : quietRecovery n s = event .fltEvt 0 17 (modSrc n SrcState.recover s) := by
  obtain ⟨hp, hq, ht, hi⟩ := h
  exact if_pos ⟨hp, hq, ht, List.isEmpty_iff.2 hi⟩

theorem quietRecovery_none {s : State} {n : Nat} (h : ¬ RecoversNow s n) : quietRecovery n s = s :=
  if_neg fun ⟨hp, hq, ht, hi⟩ => h ⟨hp, hq, ht, List.isEmpty_iff.1 hi⟩

theorem quietRecovery_srcs {s : State} {n : Nat} (h : RecoversNow s n) :
    (quietRecovery n s).flt.srcs = (modSrc n SrcState.recover s).flt.srcs := by
  rw [quietRecovery_taken h, event_flt]

theorem srcState_quietRecovery {s : State} (hs : TablesRise s) {n : Nat} (h : RecoversNow s n) :
    srcState (quietRecovery n s) n = (srcState s n).recover := by
  rw [srcState_of_srcs (quietRecovery_srcs h), srcState_modSrc hs]

theorem srcState_quietRecovery_other {s : State} (hs : TablesRise s) {n k : Nat} (h : RecoversNow s n) (hk : k ≠ n) :
    srcState (quietRecovery n s) k = srcState s k := by
  rw [srcState_of_srcs (quietRecovery_srcs h), srcState_modSrc_other hs hk]

theorem quietRecovery_log {s : State} {n : Nat} (h : RecoversNow s n) : (quietRecovery n s).flt.log = s.flt.log := by
  rw [quietRecovery_taken h, event_flt, modSrc_log]

theorem quietRecovery_evented {s : State} (hs : TablesRise s) {n : Nat} (h : RecoversNow s n) : Evented .fltEvt 0 17 s (quietRecovery n s) := by
  rw [quietRecovery_taken h]
  exact evented_of (evented_event (s := modSrc n SrcState.recover s) hs.regs ..) (cell_regs (modSrc_regs ..) ..)

/-- R308: a restart with a number is taken: the data plane is stopped, the number is that of the newest level-4 entry and acknowledged, and no source of
a level-4 entry is RAISED or ESCALATED. -/
def RestartGood (w : Word) (s : State) : Prop :=
  dpStopped s = true ∧ s.flt.newestL4 = some (w.toNat, true) ∧
    ∀ e ∈ s.flt.log, e.level = 4 → e.consequential = false → (srcState s e.report.source).phase = .idle

theorem levelFour_busy_iff (s : State) :
    s.flt.log.any (fun e => e.level == 4 && !e.consequential && (srcState s e.report.source).phase != .idle) = false ↔
      ∀ e ∈ s.flt.log, e.level = 4 → e.consequential = false → (srcState s e.report.source).phase = .idle := by
  rw [List.any_eq_false]
  refine forall₂_congr fun e _ => ?_
  cases e.consequential <;> simp

/-- A write of FLT_DP_CTL leaves a restart pending where it is good, and an event where it is not. -/
theorem fltDpCtlWrite_cases (w : Word) (s : State) :
    (RestartGood w s ∧ fltDpCtlWrite w s = s.modFlt fun f => { f with restartPending := true, restartSeq := w.toNat }) ∨
    (¬ RestartGood w s ∧ fltDpCtlWrite w s = event .fltEvt 0 21 s) := by
  unfold RestartGood fltDpCtlWrite
  rw [← levelFour_busy_iff]
  cases s.flt.newestL4 with
  | none => exact .inr ⟨fun ⟨_, hn, _⟩ => (nomatch hn), if_neg (by simp)⟩
  | some x =>
    obtain ⟨k, a⟩ := x
    dsimp only
    split
    · next h => exact .inl ⟨by simpa [and_comm, and_assoc, and_left_comm] using h, rfl⟩
    · next h => exact .inr ⟨fun hg => h (by simpa [and_comm, and_assoc, and_left_comm] using hg), rfl⟩

/-! ### The statements -/

/-- Settles O26: marking and settling is all that an acknowledgement does while no FLT_LOG_FULL waits. -/
theorem faultsAreAcknowledged : Obligations.FaultsAreAcknowledged := by
  intro p w s hs hw
  refine ⟨fun h => ?_, fun h => ?_, fun m x h => ?_⟩
  · obtain ⟨v, hx⟩ := exec_fltAck h
    refine ⟨_, hx, (execFltAck_does hx).only.widen (by decide), ?_⟩
    exact (ackWhere_ackedBy (setCell_tables hs ..) hw _).of_same rfl rfl rfl rfl
  · obtain ⟨v, hx⟩ := exec_fltAckUpto h
    refine ⟨_, hx, (execFltAckUpto_does hx).only.widen (by decide), fun hi => ?_, fun hi => ?_⟩
    · have hsrc : cell (setCell .fltAckUpto 0 0 v s) .fltAckSrc = cell s .fltAckSrc := cell_setCell_other hs.regs _ (by decide)
      rw [fltAckUptoWrite_issued (s := setCell .fltAckUpto 0 0 v s) hi, hsrc]
      exact (ackWhere_ackedBy (setCell_tables hs ..) hw _).of_same rfl rfl rfl rfl
    · rw [fltAckUptoWrite_notIssued (s := setCell .fltAckUpto 0 0 v s) hi, setCell_flt]
  · refine ⟨_, exec_faultAckBulk h, fun hn => ?_, fun h31 hi => ?_⟩
    · rw [if_neg (by obtain h31 | hi := hn <;> simp [*])]
      exact (ackWhere_ackedBy hs hw _).of_same rfl rfl (ldgAtOnce_log ..) (ldgAtOnce_srcs ..)
    · rw [if_pos (by rw [h31, hi]; rfl)]
      exact ⟨ldgAtOnce_log .., ldgAtOnce_srcs ..⟩

/-- Settles O27: a shadow that is due goes and no other, quiet recovery changes one source, and a restart is taken or refused by R308's test. -/
theorem recoveryAndRestart : Obligations.RecoveryAndRestart := by
  intro s hup hs
  refine ⟨⟨_, upNext_up hup, (shadowClose_does s).only.widen (by decide), fun h hm => (mem_shadowClose_shadows.1 hm).2,
    fun h hm hc => mem_shadowClose_shadows.2 ⟨hm, hc⟩⟩, fun n hp hq ht hi => ?_, fun n hn => ?_, fun p w h => ?_⟩
  · refine ⟨_, upNext_up hup, (quietRecovery_does ..).only.widen (by decide), ?_⟩
    have hr : RecoversNow s n.toNat := ⟨hp, hq, ht, hi⟩
    have hsrc := srcState_quietRecovery hs hr
    exact ⟨congrArg SrcState.phase hsrc, congrArg SrcState.recovered hsrc, quietRecovery_evented hs hr, quietRecovery_log hr,
      by rw [hsrc, SrcState.recover], fun k hk => srcState_quietRecovery_other hs hr hk⟩
  · have hr : ¬ RecoversNow s n.toNat := by
      rintro ⟨hp, hq, ht, hi⟩
      obtain h | h | h | h := hn
      · exact hp h
      · exact hq h
      · exact absurd ht (Nat.not_le.2 h)
      · exact h hi
    exact (upNext_up hup).trans (congrArg _ (quietRecovery_none hr))
  · obtain ⟨v, hx⟩ := exec_fltDpCtl h
    refine ⟨_, hx, (execFltDpCtl_does hx).only.widen (by decide), ?_⟩
    obtain ⟨⟨hd, hn, hi⟩, heq⟩ | ⟨hg, heq⟩ := fltDpCtlWrite_cases w (setCell .fltDpCtl 0 0 v s)
    · rw [heq]
      refine ⟨fun _ _ _ => rfl, ?_⟩
      rintro (h | h | ⟨e, he, h4, hc, hne⟩)
      · exact absurd (hd.symm.trans h) (by decide)
      · exact absurd hn h
      · exact absurd (hi e he h4 hc) hne
    · rw [heq]
      refine ⟨fun hd hn hi => absurd ⟨hd, hn, hi⟩ hg, fun _ => ⟨event_flt .., ?_⟩⟩
      exact evented_of (evented_event (setCell_tables hs ..).regs ..) (cell_setCell_other hs.regs _ (by decide))

end Sys2Proof.Machine
end

section
/-!
SUPPORT. Who may write the registers (R347, R348): what a refused write leaves behind, what a write of HST_OWNER can do, and the statement of the
family settled.
-/
namespace Sys2Proof.Machine

/-! ### Fields -/

/-- The field of a word that holds nothing else. -/
theorem fld_mkFld {hi lo : Nat} (h : lo ≤ hi) (hb : hi < 32) (v : Nat) : fld (mkFld hi lo v) hi lo = v % 2 ^ (hi + 1 - lo) := by
  have hlt : v % 2 ^ (hi + 1 - lo) * 2 ^ lo < 2 ^ 32 := calc
    _ < 2 ^ (hi + 1 - lo) * 2 ^ lo := Nat.mul_lt_mul_of_pos_right (Nat.mod_lt _ (Nat.two_pow_pos _)) (Nat.two_pow_pos _)
    _ = 2 ^ (hi + 1) := by rw [← Nat.pow_add, Nat.sub_add_cancel (by omega)]
    _ ≤ 2 ^ 32 := Nat.pow_le_pow_right (by decide) hb
  rw [fld, mkFld, BitVec.toNat_ofNat, Nat.mod_eq_of_lt hlt, Nat.mul_div_cancel _ (Nat.two_pow_pos _), Nat.mod_mod]

theorem fld_lt (w : Word) (hi lo : Nat) : fld w hi lo < 2 ^ (hi + 1 - lo) := Nat.mod_lt _ (Nat.two_pow_pos _)

/-! ### A refused write (R347) -/

theorem writeRefused_evented {s : State} (hs : TablesRise s) : Evented .hstEvt 0 20 s (writeRefused s) :=
  evented_of (evented_event (rises_count hs.regs ..) ..) (cell_count_other hs.regs _ _ _ _ _ (by decide))

theorem cell_writeRefused_refused {s : State} (hs : TablesRise s) :
    cell (writeRefused s) .hstRefused = incSat (cell s .hstRefused) 31 16 1 :=
  (cell_event_other (rises_count hs.regs ..) _ _ _ (by decide)).trans (cell_count hs.regs ..)

theorem cell_writeRefused_other {s : State} (hs : TablesRise s) {r : Reg} {i j : Nat} (he : regOff r i j ≠ regOff .hstEvt)
    (hr : regOff r i j ≠ regOff .hstRefused) : cell (writeRefused s) r i j = cell s r i j :=
  (cell_event_other (rises_count hs.regs ..) _ _ _ he).trans (cell_count_other hs.regs _ _ _ _ _ hr)

/-- Ownership is checked before every other rule of a write. -/
theorem hostRow_refused {p off : Nat} {w : Word} {s : State} (hup : isUp s = true) (hl : linked p s = true) (hm : mayWrite s p off = false) :
    hostRow p off w s = .next (writeRefused s) := by
  rw [hostRow, if_pos (by rw [hup, hl]; rfl), hostWrite, if_pos (by rw [hm]; rfl)]

/-! ### A write of HST_OWNER (R348) -/

/-- R348: port `p` may write HST_OWNER: it is free, names `p`, or names an absent port. -/
def OwnerOpen (p : Nat) (s : State) : Prop := owner s = 0 ∨ owner s = p + 1 ∨ portAbsent s (owner s - 1) = true

/-- The state in which the owner has become `n`. -/
def takeOwner (n : Nat) (s : State) : State := event .hstEvt 0 23 (setCell .hstOwner 0 0 (mkFld 1 0 n) s)

theorem ownerWrite_taken {p : Nat} {w : Word} {s : State} (ho : OwnerOpen p s) (h3 : fld w 1 0 ≠ 3) (hn : fld w 1 0 ≠ owner s) :
    ownerWrite p w s = takeOwner (fld w 1 0) s :=
  (if_pos ho).trans (if_neg (not_or.2 ⟨h3, hn⟩))

theorem ownerWrite_ignored {p : Nat} {w : Word} {s : State} (ho : OwnerOpen p s) (h : fld w 1 0 = 3 ∨ fld w 1 0 = owner s) : ownerWrite p w s = s :=
  (if_pos ho).trans (if_pos h)

theorem ownerWrite_refused {p : Nat} {w : Word} {s : State} (ho : ¬ OwnerOpen p s) : ownerWrite p w s = writeRefused s := if_neg ho

theorem owner_takeOwner {s : State} (hs : TablesRise s) {n : Nat} (hn : n < 4) : owner (takeOwner n s) = n := by
  have hc : cell (takeOwner n s) .hstOwner = mkFld 1 0 n :=
    (cell_event_other (rises_setCell hs.regs ..) _ _ _ (by decide)).trans (cell_setCell hs.regs ..)
  rw [owner, hc, fld_mkFld (by decide) (by decide)]
  exact Nat.mod_eq_of_lt hn

theorem takeOwner_evented {s : State} (hs : TablesRise s) (n : Nat) : Evented .hstEvt 0 23 s (takeOwner n s) :=
  evented_of (evented_event (rises_setCell hs.regs ..) ..) (cell_setCell_other hs.regs _ (by decide))

theorem owner_writeRefused {s : State} (hs : TablesRise s) : owner (writeRefused s) = owner s := by
  rw [owner, owner, cell_writeRefused_other hs (by decide) (by decide)]

theorem exec_hstOwnerWrite {p : Fin 2} {w : Word} {s : State} (h : HostMay p .hstOwner 0 0 w s) :
    exec (.hstOwnerWrite p w) s = .next (ownerWrite p w s) :=
  (hostRow_may h at_hstOwner).trans (congrArg _ (writeReg_owner ..))

/-! ### The statement -/

/-- Settles O13: a write outside the open set is refused before any other rule, and HST_OWNER is taken, left or refused by R348's test. -/
theorem registerOwnership : Obligations.RegisterOwnership := by
  refine ⟨fun p off w s hup hl hm hs => ?_, fun p w s h hs => ?_⟩
  · exact ⟨_, hostRow_refused hup hl hm, writeRefused_evented hs, cell_writeRefused_refused hs,
      fun _ _ _ he hr => cell_writeRefused_other hs he hr, (writeRefused_does s).only⟩
  · refine ⟨_, exec_hstOwnerWrite h, (ownerWrite_does ..).only, fun ho => ⟨fun h3 hn => ?_, ownerWrite_ignored ho⟩, fun ho => ?_⟩
    · rw [ownerWrite_taken ho h3 hn]
      exact ⟨owner_takeOwner hs (fld_lt w 1 0), takeOwner_evented hs _⟩
    · rw [ownerWrite_refused ho]
      exact ⟨owner_writeRefused hs, writeRefused_evented hs, cell_writeRefused_refused hs⟩

end Sys2Proof.Machine
end

section
/-!
SUPPORT. What holds of every command (R426, R344): each is a row that acts on a block that is up, a host's write, or an event of the pins and of the
power; each does no more than its zones. The statements about the machine as a whole that follow from this alone are settled here.
-/
namespace Sys2Proof.Machine

/-! ### The three shapes of a command -/

/-- What a command is: a row that acts only while the block is up, a host's write of one register, or an event that needs no power. -/
inductive Shape (c : Instr) : Prop where
  | row (f : State → State) (h : ∀ s, exec c s = upNext f s)
  | write (p off : Nat) (w : Word) (hw : hostWriteOf c = some (off, w)) (h : ∀ s, exec c s = hostRow p off w s)
  | pin (f : State → State) (ha : actsWithoutPower c = true) (h : ∀ s, exec c s = .next (f s))

theorem exec_shape : ∀ c : Instr, Shape c
  | .courseTick .. | .orbitStart | .orbitStartRx .. | .quoSignalDetect .. | .quoAlignCountDone .. | .quoLossOfSignal ..
  | .quoFramingLoss .. | .syncTimeout .. | .announceTimeout .. | .timeFreqRange .. | .domainBtCountTimeout .. | .ieee1588Sync ..
  | .ieee1588FollowUp .. | .ieee1588DelayResp .. | .ieee1588Announce .. | .domainBtCount .. | .timeMsgBad .. | .delayReqSend ..
  | .acquireComplete | .timeHoldExpired | .slewComplete | .quoTxDone .. | .dlAdvanceSlewDone .. | .downlinkFrame .. | .restartRequestDue ..
  | .dlPllUnlock .. | .dlPllRelock .. | .laneSignalDetect .. | .laneTrainDone .. | .laneTrainTimeout .. | .laneExchangeTimeout ..
  | .laneSyncAcquired .. | .exchangeBlockRx .. | .laneLossOfSignal .. | .laneCdrUnlock .. | .laneSyncLoss .. | .retrainCountReset
  | .laneCodeError .. | .echoReceived .. | .burirDataFrame .. | .spanTimeout .. | .configResponseFrame .. | .partnerCfgTimeout ..
  | .ashlarHit .. | .engineSyncDone .. | .migrationDrainEnd .. | .prevBusyEnd .. | .molusCourseStart .. | .molusBlockDone ..
  | .molusDeadline .. | .stoneWriteDone | .stoneClose | .indexPublish | .indexRewrite .. | .quarryRead .. | .pinSpaceFreed
  | .hostWindowRead .. | .hostWindowWrite .. | .qryFindDone .. | .hbmScrubGranule .. | .sramScrubBlock .. | .tableRestore ..
  | .sramReadError .. | .hbmReadError .. | .accept .. | .recallMessage .. | .recallPieceSubmit .. | .extractionDone ..
  | .fragmentComplete .. | .recordRelease .. | .cellWait .. | .headWaitExpiry .. | .mrtCellUncorr .. | .mrtUnitOut ..
  | .lintelGroupClose .. | .lintelFrameSend | .credit .. | .init .. | .uplCreditBad .. | .rlSyncLost .. | .rlSyncGained ..
  | .initRequestSend .. | .recordBlockSent .. | .uplPllUnlock .. | .uplRefHold .. | .faultReport .. | .faultLog | .shadowClose
  | .quietRecovery .. | .snapshotCapture .. | .badAccess .. | .bitAliasWrite .. | .msixMessage .. | .irqHoldoffExpiry .. | .hstFlr ..
  | .hstLinkDown .. | .hstLinkUp .. | .hstAerUncorr .. | .aerCorr .. | .responsePlaced .. | .ldgOvertime .. | .unknownOpcode ..
  | .powerSet .. | .powerQuery .. | .partnerBind .. | .partnerConfig .. | .laneTrain .. | .delayMeasure .. | .calLoad .. | .walkLoad ..
  | .calSwap .. | .timeDomainSelect .. | .engineMigrate .. | .streamMove .. | .quarryExport .. | .recallHost .. | .decompressCheck ..
  | .retireAdd .. | .retireList .. | .scrubSet .. | .gaugeSelfcal .. | .plbRead .. | .cnsRead .. | .cnsClear .. | .faultAckBulk ..
  | .diagLoop .. | .conversionEnd .. | .multiplexerStep .. | .burnoutCheck .. | .gauAlignStart | .gauOpen .. | .gauOpenClear ..
  | .gauExcFault .. | .excRetry .. | .gauOutputPeriod .. | .domainChangeDone .. | .pwrDomainFail .. | .pwrInputRange .. | .pwrTempHigh ..
  | .pwrRailFault .. | .plbChange .. | .plbArmEdge | .plbFireEdge | .plbFireRelease | .plbPostDone | .cnsEventWrite .. | .uplPllLock ..
  | .pcieConfigWrite .. | .integrationStart .. | .rlCodeError .. => .row _ fun _ => rfl
  | .quoTxSend .. | .quoTxqPop .. | .bedDlFcSend .. | .laneEnableWrite .. | .qryFind .. | .memInjectArm .. | .btrInjectArm .. | .flush ..
  | .resync .. | .uplLinkEnableWrite .. | .streamMapWrite .. | .fltAck .. | .fltAckUpto .. | .fltDpCtl .. | .fltSnapSeq .. | .fltSnapSrc ..
  | .snapshotSelect .. | .sqcClearWrite .. | .cntClr .. | .registerWrite .. | .hstOwnerWrite .. | .onceWrite .. | .ldgMbSubmit ..
  | .ldgMbAck .. | .gauChannelConfigWrite .. | .arm .. | .disarm .. | .fire .. => .write _ _ _ rfl fun _ => rfl
  | .perstAssert .. | .perstRelease .. | .blankEdge .. | .pwrMeasureUpdate .. | .protectiveTrip .. | .tripLatchClear | .inputValid
  | .foundRstAssert | .foundationResetDone .. | .jtagInstruction .. => .pin _ rfl fun _ => rfl

theorem upNext_off {f : State → State} {s : State} (h : isUp s = false) : upNext f s = .next s := by
  rw [upNext, whenUp, if_neg (by simp [h])]

theorem hostRow_off {p off : Nat} {w : Word} {s : State} (h : isUp s = false) : hostRow p off w s = .next s := by
  rw [hostRow, h]
  rfl

/-- A host's write completes, or it is refused because it would change a KEEP bit. -/
theorem hostRow_cases (p off : Nat) (w : Word) (s : State) :
    (∃ t, hostRow p off w s = .next t) ∨
    (hostRow p off w s = .refused .keepFieldChanged ∧ ∃ r i j, regAt off = some (r, i, j) ∧ keepChanged r i w = true) := by
  unfold hostRow hostWrite
  split
  · split
    · exact .inl ⟨_, rfl⟩
    · split
      · exact .inl ⟨_, rfl⟩
      · cases hr : regAt off with
        | none => exact .inl ⟨_, rfl⟩
        | some x =>
          obtain ⟨r, i, j⟩ := x
          cases hk : keepChanged r i w with
          | false => exact .inl ⟨_, if_neg (by simp [hk])⟩
          | true => exact .inr ⟨if_pos hk, r, i, j, rfl, hk⟩
  · exact .inl ⟨_, rfl⟩

/-! ### What a command and a step can change -/

/-- What is done within some parts is done within more. -/
theorem Does.widen {L M : List Zone} {s t : State} (k : Does M s t) (hs : (M.all fun z => L.contains z) = true) : Does L s t :=
  k.step hs (Does.refl _ _)

/-- Every command does no more than its zones, and keeps memory's form, the tables' order and the capacities. -/
theorem exec_does : ∀ {c : Instr} {s t : State}, exec c s = .next t → Does (touches c) s t
  | .courseTick .., _, _, h => (execCourseTick_does h).widen rfl
  | .orbitStart, _, _, h => (execOrbitStart_does h).widen rfl
  | .orbitStartRx .., _, _, h => (execOrbitStartRx_does h).widen rfl
  | .quoSignalDetect .., _, _, h => (execQuoSignalDetect_does h).widen rfl
  | .quoAlignCountDone .., _, _, h => (execQuoAlignCountDone_does h).widen rfl
  | .quoLossOfSignal .., _, _, h => (execQuoLossOfSignal_does h).widen rfl
  | .quoFramingLoss .., _, _, h => (execQuoFramingLoss_does h).widen rfl
  | .syncTimeout .., _, _, h => (execSyncTimeout_does h).widen rfl
  | .announceTimeout .., _, _, h => (execAnnounceTimeout_does h).widen rfl
  | .timeFreqRange .., _, _, h => (execTimeFreqRange_does h).widen rfl
  | .domainBtCountTimeout .., _, _, h => (execDomainBtCountTimeout_does h).widen rfl
  | .ieee1588Sync .., _, _, h => (execIeee1588Sync_does h).widen rfl
  | .ieee1588FollowUp .., _, _, h => (execIeee1588FollowUp_does h).widen rfl
  | .ieee1588DelayResp .., _, _, h => (execIeee1588DelayResp_does h).widen rfl
  | .ieee1588Announce .., _, _, h => (execIeee1588Announce_does h).widen rfl
  | .domainBtCount .., _, _, h => (execDomainBtCount_does h).widen rfl
  | .timeMsgBad .., _, _, h => (execTimeMsgBad_does h).widen rfl
  | .delayReqSend .., _, _, h => (execDelayReqSend_does h).widen rfl
  | .acquireComplete, _, _, h => (execAcquireComplete_does h).widen rfl
  | .timeHoldExpired, _, _, h => (execTimeHoldExpired_does h).widen rfl
  | .slewComplete, _, _, h => (execSlewComplete_does h).widen rfl
  | .quoTxSend .., _, _, h => (execQuoTxSend_does h).widen rfl
  | .quoTxDone .., _, _, h => (execQuoTxDone_does h).widen rfl
  | .quoTxqPop .., _, _, h => (execQuoTxqPop_does h).widen rfl
  | .dlAdvanceSlewDone .., _, _, h => (execDlAdvanceSlewDone_does h).widen rfl
  | .downlinkFrame .., _, _, h => (execDownlinkFrame_does h).widen rfl
  | .restartRequestDue .., _, _, h => (execRestartRequestDue_does h).widen rfl
  | .bedDlFcSend .., _, _, h => (execBedDlFcSend_does h).widen rfl
  | .dlPllUnlock .., _, _, h => (execDlPllUnlock_does h).widen rfl
  | .dlPllRelock .., _, _, h => (execDlPllRelock_does h).widen rfl
  | .laneEnableWrite .., _, _, h => (execLaneEnableWrite_does h).widen rfl
  | .laneSignalDetect .., _, _, h => (execLaneSignalDetect_does h).widen rfl
  | .laneTrainDone .., _, _, h => (execLaneTrainDone_does h).widen rfl
  | .laneTrainTimeout .., _, _, h => (execLaneTrainTimeout_does h).widen rfl
  | .laneExchangeTimeout .., _, _, h => (execLaneExchangeTimeout_does h).widen rfl
  | .laneSyncAcquired .., _, _, h => (execLaneSyncAcquired_does h).widen rfl
  | .exchangeBlockRx .., _, _, h => (execExchangeBlockRx_does h).widen rfl
  | .laneLossOfSignal .., _, _, h => (execLaneLossOfSignal_does h).widen rfl
  | .laneCdrUnlock .., _, _, h => (execLaneCdrUnlock_does h).widen rfl
  | .laneSyncLoss .., _, _, h => (execLaneSyncLoss_does h).widen rfl
  | .retrainCountReset, _, _, h => (execRetrainCountReset_does h).widen rfl
  | .laneCodeError .., _, _, h => (execLaneCodeError_does h).widen rfl
  | .echoReceived .., _, _, h => (execEchoReceived_does h).widen rfl
  | .burirDataFrame .., _, _, h => (execBurirDataFrame_does h).widen rfl
  | .spanTimeout .., _, _, h => (execSpanTimeout_does h).widen rfl
  | .configResponseFrame .., _, _, h => (execConfigResponseFrame_does h).widen rfl
  | .partnerCfgTimeout .., _, _, h => (execPartnerCfgTimeout_does h).widen rfl
  | .ashlarHit .., _, _, h => (execAshlarHit_does h).widen rfl
  | .engineSyncDone .., _, _, h => (execEngineSyncDone_does h).widen rfl
  | .migrationDrainEnd .., _, _, h => (execMigrationDrainEnd_does h).widen rfl
  | .prevBusyEnd .., _, _, h => (execPrevBusyEnd_does h).widen rfl
  | .molusCourseStart .., _, _, h => (execMolusCourseStart_does h).widen rfl
  | .molusBlockDone .., _, _, h => (execMolusBlockDone_does h).widen rfl
  | .molusDeadline .., _, _, h => (execMolusDeadline_does h).widen rfl
  | .stoneWriteDone, _, _, h => (execStoneWriteDone_does h).widen rfl
  | .stoneClose, _, _, h => (execStoneClose_does h).widen rfl
  | .indexPublish, _, _, h => (execIndexPublish_does h).widen rfl
  | .indexRewrite .., _, _, h => (execIndexRewrite_does h).widen rfl
  | .quarryRead .., _, _, h => (execQuarryRead_does h).widen rfl
  | .pinSpaceFreed, _, _, h => (execPinSpaceFreed_does h).widen rfl
  | .hostWindowRead .., _, _, h => (execHostWindowRead_does h).widen rfl
  | .hostWindowWrite .., _, _, h => (execHostWindowWrite_does h).widen rfl
  | .qryFind .., _, _, h => (execQryFind_does h).widen rfl
  | .qryFindDone .., _, _, h => (execQryFindDone_does h).widen rfl
  | .hbmScrubGranule .., _, _, h => (execHbmScrubGranule_does h).widen rfl
  | .sramScrubBlock .., _, _, h => (execSramScrubBlock_does h).widen rfl
  | .tableRestore .., _, _, h => (execTableRestore_does h).widen rfl
  | .sramReadError .., _, _, h => (execSramReadError_does h).widen rfl
  | .hbmReadError .., _, _, h => (execHbmReadError_does h).widen rfl
  | .memInjectArm .., _, _, h => (execMemInjectArm_does h).widen rfl
  | .btrInjectArm .., _, _, h => (execBtrInjectArm_does h).widen rfl
  | .accept .., _, _, h => (execAccept_does h).widen rfl
  | .recallMessage .., _, _, h => (execRecallMessage_does h).widen rfl
  | .recallPieceSubmit .., _, _, h => (execRecallPieceSubmit_does h).widen rfl
  | .extractionDone .., _, _, h => (execExtractionDone_does h).widen rfl
  | .fragmentComplete .., _, _, h => (execFragmentComplete_does h).widen rfl
  | .recordRelease .., _, _, h => (execRecordRelease_does h).widen rfl
  | .cellWait .., _, _, h => (execCellWait_does h).widen rfl
  | .headWaitExpiry .., _, _, h => (execHeadWaitExpiry_does h).widen rfl
  | .mrtCellUncorr .., _, _, h => (execMrtCellUncorr_does h).widen rfl
  | .flush .., _, _, h => (execFlush_does h).widen rfl
  | .resync .., _, _, h => (execResync_does h).widen rfl
  | .mrtUnitOut .., _, _, h => (execMrtUnitOut_does h).widen rfl
  | .lintelGroupClose .., _, _, h => (execLintelGroupClose_does h).widen rfl
  | .lintelFrameSend, _, _, h => (execLintelFrameSend_does h).widen rfl
  | .credit .., _, _, h => (execCredit_does h).widen rfl
  | .init .., _, _, h => (execInit_does h).widen rfl
  | .uplCreditBad .., _, _, h => (execUplCreditBad_does h).widen rfl
  | .rlSyncLost .., _, _, h => (execRlSyncLost_does h).widen rfl
  | .rlSyncGained .., _, _, h => (execRlSyncGained_does h).widen rfl
  | .initRequestSend .., _, _, h => (execInitRequestSend_does h).widen rfl
  | .recordBlockSent .., _, _, h => (execRecordBlockSent_does h).widen rfl
  | .uplPllUnlock .., _, _, h => (execUplPllUnlock_does h).widen rfl
  | .uplRefHold .., _, _, h => (execUplRefHold_does h).widen rfl
  | .uplLinkEnableWrite .., _, _, h => (execUplLinkEnableWrite_does h).widen rfl
  | .streamMapWrite .., _, _, h => (execStreamMapWrite_does h).widen rfl
  | .faultReport .., _, _, h => (execFaultReport_does h).widen rfl
  | .faultLog, _, _, h => (execFaultLog_does h).widen rfl
  | .shadowClose, _, _, h => (execShadowClose_does h).widen rfl
  | .quietRecovery .., _, _, h => (execQuietRecovery_does h).widen rfl
  | .fltAck .., _, _, h => (execFltAck_does h).widen rfl
  | .fltAckUpto .., _, _, h => (execFltAckUpto_does h).widen rfl
  | .fltDpCtl .., _, _, h => (execFltDpCtl_does h).widen rfl
  | .fltSnapSeq .., _, _, h => (execFltSnapSeq_does h).widen rfl
  | .fltSnapSrc .., _, _, h => (execFltSnapSrc_does h).widen rfl
  | .snapshotSelect .., _, _, h => (execSnapshotSelect_does h).widen rfl
  | .snapshotCapture .., _, _, h => (execSnapshotCapture_does h).widen rfl
  | .sqcClearWrite .., _, _, h => (execSqcClearWrite_does h).widen rfl
  | .cntClr .., _, _, h => (execCntClr_does h).widen rfl
  | .registerWrite .., _, _, h => (execRegisterWrite_does h).widen rfl
  | .badAccess .., _, _, h => (execBadAccess_does h).widen rfl
  | .hstOwnerWrite .., _, _, h => (execHstOwnerWrite_does h).widen rfl
  | .onceWrite .., _, _, h => (execOnceWrite_does h).widen rfl
  | .bitAliasWrite .., _, _, h => (execBitAliasWrite_does h).widen rfl
  | .msixMessage .., _, _, h => (execMsixMessage_does h).widen rfl
  | .irqHoldoffExpiry .., _, _, h => (execIrqHoldoffExpiry_does h).widen rfl
  | .perstAssert .., _, _, h => (execPerstAssert_does h).widen rfl
  | .perstRelease .., _, _, h => (execPerstRelease_does h).widen rfl
  | .hstFlr .., _, _, h => (execHstFlr_does h).widen rfl
  | .hstLinkDown .., _, _, h => (execHstLinkDown_does h).widen rfl
  | .hstLinkUp .., _, _, h => (execHstLinkUp_does h).widen rfl
  | .hstAerUncorr .., _, _, h => (execHstAerUncorr_does h).widen rfl
  | .aerCorr .., _, _, h => (execAerCorr_does h).widen rfl
  | .ldgMbSubmit .., _, _, h => (execLdgMbSubmit_does h).widen rfl
  | .ldgMbAck .., _, _, h => (execLdgMbAck_does h).widen rfl
  | .responsePlaced .., _, _, h => (execResponsePlaced_does h).widen rfl
  | .ldgOvertime .., _, _, h => (execLdgOvertime_does h).widen rfl
  | .unknownOpcode .., _, _, h => (execUnknownOpcode_does h).widen rfl
  | .powerSet .., _, _, h => (execPowerSet_does h).widen rfl
  | .powerQuery .., _, _, h => (execPowerQuery_does h).widen rfl
  | .partnerBind .., _, _, h => (execPartnerBind_does h).widen rfl
  | .partnerConfig .., _, _, h => (execPartnerConfig_does h).widen rfl
  | .laneTrain .., _, _, h => (execLaneTrain_does h).widen rfl
  | .delayMeasure .., _, _, h => (execDelayMeasure_does h).widen rfl
  | .calLoad .., _, _, h => (execCalLoad_does h).widen rfl
  | .walkLoad .., _, _, h => (execWalkLoad_does h).widen rfl
  | .calSwap .., _, _, h => (execCalSwap_does h).widen rfl
  | .timeDomainSelect .., _, _, h => (execTimeDomainSelect_does h).widen rfl
  | .engineMigrate .., _, _, h => (execEngineMigrate_does h).widen rfl
  | .streamMove .., _, _, h => (execStreamMove_does h).widen rfl
  | .quarryExport .., _, _, h => (execQuarryExport_does h).widen rfl
  | .recallHost .., _, _, h => (execRecallHost_does h).widen rfl
  | .decompressCheck .., _, _, h => (execDecompressCheck_does h).widen rfl
  | .retireAdd .., _, _, h => (execRetireAdd_does h).widen rfl
  | .retireList .., _, _, h => (execRetireList_does h).widen rfl
  | .scrubSet .., _, _, h => (execScrubSet_does h).widen rfl
  | .gaugeSelfcal .., _, _, h => (execGaugeSelfcal_does h).widen rfl
  | .plbRead .., _, _, h => (execPlbRead_does h).widen rfl
  | .cnsRead .., _, _, h => (execCnsRead_does h).widen rfl
  | .cnsClear .., _, _, h => (execCnsClear_does h).widen rfl
  | .faultAckBulk .., _, _, h => (execFaultAckBulk_does h).widen rfl
  | .diagLoop .., _, _, h => (execDiagLoop_does h).widen rfl
  | .conversionEnd .., _, _, h => (execConversionEnd_does h).widen rfl
  | .multiplexerStep .., _, _, h => (execMultiplexerStep_does h).widen rfl
  | .burnoutCheck .., _, _, h => (execBurnoutCheck_does h).widen rfl
  | .gauAlignStart, _, _, h => (execGauAlignStart_does h).widen rfl
  | .gauOpen .., _, _, h => (execGauOpen_does h).widen rfl
  | .gauOpenClear .., _, _, h => (execGauOpenClear_does h).widen rfl
  | .gauExcFault .., _, _, h => (execGauExcFault_does h).widen rfl
  | .excRetry .., _, _, h => (execExcRetry_does h).widen rfl
  | .blankEdge .., _, _, h => (execBlankEdge_does h).widen rfl
  | .gauOutputPeriod .., _, _, h => (execGauOutputPeriod_does h).widen rfl
  | .gauChannelConfigWrite .., _, _, h => (execGauChannelConfigWrite_does h).widen rfl
  | .domainChangeDone .., _, _, h => (execDomainChangeDone_does h).widen rfl
  | .pwrDomainFail .., _, _, h => (execPwrDomainFail_does h).widen rfl
  | .pwrInputRange .., _, _, h => (execPwrInputRange_does h).widen rfl
  | .pwrTempHigh .., _, _, h => (execPwrTempHigh_does h).widen rfl
  | .pwrRailFault .., _, _, h => (execPwrRailFault_does h).widen rfl
  | .pwrMeasureUpdate .., _, _, h => (execPwrMeasureUpdate_does h).widen rfl
  | .protectiveTrip .., _, _, h => (execProtectiveTrip_does h).widen rfl
  | .tripLatchClear, _, _, h => (execTripLatchClear_does h).widen rfl
  | .inputValid, _, _, h => (execInputValid_does h).widen rfl
  | .foundRstAssert, _, _, h => (execFoundRstAssert_does h).widen rfl
  | .foundationResetDone .., _, _, h => (execFoundationResetDone_does h).widen rfl
  | .plbChange .., _, _, h => (execPlbChange_does h).widen rfl
  | .arm .., _, _, h => (execArm_does h).widen rfl
  | .disarm .., _, _, h => (execDisarm_does h).widen rfl
  | .fire .., _, _, h => (execFire_does h).widen rfl
  | .plbArmEdge, _, _, h => (execPlbArmEdge_does h).widen rfl
  | .plbFireEdge, _, _, h => (execPlbFireEdge_does h).widen rfl
  | .plbFireRelease, _, _, h => (execPlbFireRelease_does h).widen rfl
  | .plbPostDone, _, _, h => (execPlbPostDone_does h).widen rfl
  | .cnsEventWrite .., _, _, h => (execCnsEventWrite_does h).widen rfl
  | .jtagInstruction .., _, _, h => (execJtagInstruction_does h).widen rfl
  | .uplPllLock .., _, _, h => (execUplPllLock_does h).widen rfl
  | .pcieConfigWrite .., _, _, h => (execPcieConfigWrite_does h).widen rfl
  | .integrationStart .., _, _, h => (execIntegrationStart_does h).widen rfl
  | .rlCodeError .., _, _, h => (execRlCodeError_does h).widen rfl

/-- A step keeps memory's form, the tables' order and the capacities: it runs the front command on the queue's rest, or lets one core cycle pass. -/
theorem step_keeps {s t : State} (h : step s = .next t) :
    (MemoryWf s → MemoryWf t) ∧ (Capacities s → Capacities t) ∧ (TablesRise s → TablesRise t) := by
  unfold step at h
  split at h
  · next rest _ =>
    have hq : Does [.pending] s { s with pending := rest } := Does.put_pending (by decide) (Does.refl _ _)
    have hx := exec_does h
    exact ⟨fun m => hx.mem (hq.mem m), fun c => hx.caps (hq.caps c), fun r => hx.tables (hq.tables r)⟩
  · cases h
    unfold whenUp
    split
    · exact ⟨(idleCycle_does s).mem, (idleCycle_does s).caps, (idleCycle_does s).tables⟩
    · exact ⟨id, id, id⟩

/-! ### The statements -/

/-- Settles O4: every operation keeps the canonical form, so every command does, and a core cycle in which none waits. -/
theorem storesStayCanonical : Obligations.StoresStayCanonical :=
  fun _ _ hm hr h => ⟨(step_keeps h).1 hm, (step_keeps h).2.2 hr⟩

/-- Settles O5: every operation that adds to a store of a fixed size keeps within it. -/
theorem capacitiesHold : Obligations.CapacitiesHold :=
  fun _ _ hc h => (step_keeps h).2.1 hc

/-- Settles O8, by what each command's row does. -/
theorem commandFrames : Obligations.CommandFrames := fun _ _ _ h => (exec_does h).only

/-- Settles O9: rows and host writes act only on a block that is up. -/
theorem offMachineIsInert : Obligations.OffMachineIsInert := by
  intro c s hup hact
  cases exec_shape c with
  | row f h => rw [h, upNext_off hup]
  | write p off w _ h => rw [h, hostRow_off hup]
  | pin f ha _ => rw [ha] at hact; cases hact

/-- Settles O10: of the three shapes of a command only a host's write can stop, and it stops only on a KEEP bit. -/
theorem onlyKeepStops : Obligations.OnlyKeepStops := by
  refine ⟨fun c s hk => ?_, fun c s => ?_⟩
  · cases exec_shape c with
    | row f h => exact ⟨_, h s⟩
    | pin f _ h => exact ⟨_, h s⟩
    | write p off w hw h =>
      rw [h]
      refine (hostRow_cases p off w s).resolve_right fun ⟨_, r, i, j, hr, hc⟩ => ?_
      rw [hk off w r i j hw hr] at hc
      cases hc
  · cases exec_shape c with
    | row f h => rw [h]; exact ⟨nofun, nofun⟩
    | pin f _ h => rw [h]; exact ⟨nofun, nofun⟩
    | write p off w _ h =>
      rw [h]
      rcases hostRow_cases p off w s with ⟨t, ht⟩ | ⟨ht, r, i, j, hr, hc⟩
      · rw [ht]; exact ⟨nofun, nofun⟩
      · refine ⟨fun f => by rw [ht]; exact nofun, fun x hx => ?_⟩
        rw [ht] at hx
        cases hx
        exact ⟨rfl, p, off, w, r, i, j, hr, rfl, hc⟩

end Sys2Proof.Machine
end

section
/-!
SUPPORT. A machine without power (R424 to R428): what it holds, that the commands which reach it give nothing back, and that a command which may end
the power leaves such a machine. The step itself, and the state right after reset.
-/
namespace Sys2Proof.Machine

/-! ### A machine that holds nothing volatile -/

/-- Nothing is left to lose. -/
abbrev Lost (s : State) : Prop := volatileLost s.pwr s = s

theorem lost_volatileLost (p : Power) (s : State) : Lost (volatileLost p s) := rfl

/-- What has lost everything is what a loss leaves. -/
theorem Lost.of {P : State → Prop} {s : State} (h : Lost s) (hp : P (volatileLost s.pwr s)) : P s := h ▸ hp

theorem offIsLost_of_up {s : State} (h : isUp s = true) : OffIsLost s := fun k => by rw [h] at k; cases k

theorem offIsLost_of_lost {s : State} (h : Lost s) : OffIsLost s := fun _ => h

/-- The queue of the waiting commands is no part of what is lost. -/
theorem Lost.withPending {s : State} (h : Lost s) (q : List Instr) : Lost { s with pending := q } :=
  congrArg (fun x : State => { x with pending := q }) h

theorem isUp_life {s t : State} (h : Zone.life.same s t) : isUp t = isUp s := by
  unfold isUp
  rw [h.1, h.2]

theorem Does.isUp {L : List Zone} {s t : State} (h : Does L s t) (hl : L.contains .life = false) : isUp t = isUp s :=
  isUp_life (h.only.same .life (by simpa using hl))

/-- Only events of the power itself bring the block up or down. -/
theorem life_of_row (c : Instr) (h : actsWithoutPower c = false) : (touches c).contains .life = false := by
  cases c <;> first | rfl | cases h

/-! ### Pins of a machine without power -/

theorem smUpd_nil {α : Type} [DecidableEq α] {d : α} {f : α → α} (hf : f d = d) (k : Nat) : smUpd d [] k f = [] := by
  rw [smUpd, show smGet d [] k = d from rfl, hf, smPut, if_pos rfl, smErase]

/-- Where no conversion runs, blanking is seen by none. -/
theorem blankSeen_idle {s : State} (h : s.gau.convs = []) : blankSeen s = s := by
  have hrun : ∀ (k : Nat) (f : GauRun → GauRun) (t : State), t.gau.convs = [] → modRun k f t = t := by
    intro k f t ht
    unfold modRun modConv State.modGau
    dsimp only
    rw [ht, smUpd_nil (by rfl), ← ht]
  unfold blankSeen forN
  induction List.range 21 with
  | nil => rfl
  | cons k l ih => exact (congrArg (List.foldl _ · l) (hrun k _ s h)).trans ih

theorem lost_blankEdge (p : Nat) (b : Bool) {s : State} (h : Lost s) : Lost (blankEdge p b s) := by
  refine h.of (P := fun s => Lost (blankEdge p b s)) ?_
  unfold blankEdge
  rw [blankSeen_idle (by simp only [State.modGau]; split <;> rfl)]
  simp only [State.modGau]
  split <;> rfl

theorem lost_perstAssert (p : Nat) {s : State} (h : Lost s) : Lost (perstAssert p s) := by
  refine h.of (P := fun s => Lost (perstAssert p s)) ?_
  unfold perstAssert configDefaults linkOff State.modPort
  split <;> rfl

theorem lost_perstRelease (p : Nat) {s : State} (h : Lost s) : Lost (perstRelease p s) := by
  refine h.of (P := fun s => Lost (perstRelease p s)) ?_
  unfold perstRelease State.modPort
  split <;> rfl

theorem lost_hotReset (p : Nat) {s : State} (h : Lost s) : Lost (hotReset p s) := by
  have hl : (hostPort s p).l0 = false := h.of (P := fun s => (hostPort s p).l0 = false) (by unfold hostPort; split <;> rfl)
  rw [hotReset, hl, if_neg (by decide)]
  exact h

theorem lost_jtagInstruction (op : JtagOp) {s : State} (h : Lost s) : Lost (jtagInstruction op s) := by
  have hj : ∀ j : Jtag, Lost { s with jtag := j } := fun j => congrArg (fun x : State => { x with jtag := j }) h
  unfold jtagInstruction
  cases op with
  | trst low => exact hj _
  | tapReset => dsimp only; split <;> first | exact h | exact hj _
  | shift on => dsimp only; split <;> first | exact h | exact hj _
  | load i data => dsimp only; split <;> [exact h; split <;> exact hj _]

/-! ### The power's own events -/

/-- The readings that the power stage keeps, its pins and its latches are no part of what is lost. -/
theorem Lost.withPins {s : State} (h : Lost s) (p : Power)
    (hp : { p with trip := s.pwr.trip, lastTrip := s.pwr.lastTrip, inReset := s.pwr.inReset, resetByPin := s.pwr.resetByPin,
                   input := s.pwr.input, resetPin := s.pwr.resetPin, stage := s.pwr.stage } = s.pwr) : Lost { s with pwr := p } := by
  have key : ∀ u : State, Lost { volatileLost s.pwr u with pwr :=
      { (volatileLost s.pwr u).pwr with trip := p.trip, lastTrip := p.lastTrip, inReset := p.inReset, resetByPin := p.resetByPin,
                                        input := p.input, resetPin := p.resetPin, stage := p.stage } } := fun _ => rfl
  have hs := key s
  rw [h] at hs
  rwa [← hp] at hs

theorem lost_stageRead (x : BitVec 16) {s : State} (h : Lost s) : Lost (stageRead x s) := h.withPins _ rfl

theorem offIsLost_protectiveTrip (cause : TripCause) (mv : Nat) (temps : List (BitVec 16)) {s : State} (h : OffIsLost s) :
    OffIsLost (protectiveTrip cause mv temps s) := by
  unfold protectiveTrip
  split
  · exact h
  · split
    · next ht =>
      have hoff : isUp s = false := by
        cases k : s.pwr.trip with
        | none => rw [k] at ht; cases ht
        | some x => rw [isUp, k]; rfl
      exact offIsLost_of_lost (Lost.withPins (h hoff) _ rfl)
    · exact offIsLost_of_lost rfl

theorem offIsLost_inputValid {s : State} (h : OffIsLost s) : OffIsLost (inputValid s) := by
  unfold inputValid
  split
  · exact h
  · exact offIsLost_of_lost rfl

theorem offIsLost_tripLatchClear {s : State} (h : OffIsLost s) : OffIsLost (tripLatchClear s) := by
  unfold tripLatchClear
  split
  · exact h
  · next ht =>
    have hoff : isUp s = false := by cases k : s.pwr.trip with
      | none => rw [k] at ht; exact absurd rfl ht
      | some x => rw [isUp, k]; rfl
    split
    · exact offIsLost_inputValid h
    · split
      · exact offIsLost_of_lost (Lost.withPins (h hoff) _ rfl)
      · exact h

theorem offIsLost_foundRstAssert {s : State} (h : OffIsLost s) : OffIsLost (foundRstAssert s) := by
  unfold foundRstAssert
  dsimp only
  split
  · exact offIsLost_of_lost rfl
  · next hup =>
    exact offIsLost_of_lost (Lost.withPins (h (Bool.not_eq_true _ ▸ hup)) _ rfl)

/-- A completed reset leaves the block up. -/
theorem offIsLost_foundationResetDone (low : Bool) (good : BitVec 3) {s : State} (h : OffIsLost s) : OffIsLost (foundationResetDone low good s) := by
  unfold foundationResetDone
  split
  · next hr =>
    split
    · exact offIsLost_of_lost (Lost.withPins (h (by rw [isUp, hr]; simp)) _ rfl)
    · exact offIsLost_of_up (((cnsStart_does ..).isUp (by decide)).trans rfl)
  · exact h

theorem offIsLost_measureUpdate (mv ma dw : Nat) (temps rails : List (BitVec 16)) {s : State} (h : isUp s = true) :
    OffIsLost (measureUpdate mv ma dw temps rails s) := by
  have hm : OffIsLost (measuresTaken mv ma dw temps rails s) :=
    offIsLost_of_up (((measuresTaken_does ..).isUp (by decide)).trans h)
  unfold measureUpdate
  dsimp only
  split
  · exact offIsLost_protectiveTrip _ _ _ hm
  · split
    · exact offIsLost_protectiveTrip _ _ _ hm
    · exact hm

/-! ### Commands and steps -/

/-- A command that is no event of the power leaves an up block up; to one that is off it gives nothing back. -/
theorem offIsLost_of_quiet {c : Instr} {f : State → State} {s : State} (hx : exec c s = .next (f s)) (hl : (touches c).contains .life = false)
    (hf : Lost s → Lost (f s)) (h : OffIsLost s) : OffIsLost (f s) := by
  intro ht
  rw [(exec_does hx).isUp hl] at ht
  exact hf (h ht)

theorem exec_offIsLost {c : Instr} {s t : State} (h : OffIsLost s) (hx : exec c s = .next t) : OffIsLost t := by
  cases hact : actsWithoutPower c with
  | false =>
    cases hup : isUp s with
    | true => exact offIsLost_of_up (((exec_does hx).isUp (life_of_row c hact)).trans hup)
    | false =>
      have hs := offMachineIsInert c s hup hact
      rw [hs] at hx
      cases hx
      exact h
  | true =>
    cases c with
    | perstAssert x =>
      cases hx
      refine offIsLost_of_quiet (c := .perstAssert x) (f := fun s => if x.hot then hotReset x.port s else perstAssert x.port s) rfl rfl (fun k => ?_) h
      split
      · exact lost_hotReset _ k
      · exact lost_perstAssert _ k
    | perstRelease p => cases hx; exact offIsLost_of_quiet (c := .perstRelease p) rfl rfl (lost_perstRelease _) h
    | blankEdge p b => cases hx; exact offIsLost_of_quiet (c := .blankEdge p b) rfl rfl (lost_blankEdge _ _) h
    | jtagInstruction op => cases hx; exact offIsLost_of_quiet (c := .jtagInstruction op) rfl rfl (lost_jtagInstruction _) h
    | pwrMeasureUpdate mv ma dw temps rails =>
      cases hx
      split
      · next hup => exact offIsLost_measureUpdate _ _ _ _ _ hup
      · next hup => exact offIsLost_of_lost (lost_stageRead _ (h (Bool.not_eq_true _ ▸ hup)))
    | protectiveTrip cause mv dies stage => cases hx; exact offIsLost_protectiveTrip _ _ _ h
    | tripLatchClear => cases hx; exact offIsLost_tripLatchClear h
    | inputValid => cases hx; exact offIsLost_inputValid h
    | foundRstAssert => cases hx; exact offIsLost_foundRstAssert h
    | foundationResetDone r => cases hx; exact offIsLost_foundationResetDone _ _ h
    | _ => cases hact

/-- Settles O6: every command keeps it, and a core cycle passes only on a block that is up. -/
theorem offMachineIsLost : Obligations.OffMachineIsLost := by
  intro s t h hx
  unfold step at hx
  split at hx
  · next rest _ =>
    have hq : OffIsLost { s with pending := rest } := fun k => Lost.withPending (h k) rest
    exact exec_offIsLost hq hx
  · cases hx
    unfold whenUp
    split
    · next hup => exact offIsLost_of_up (((idleCycle_does s).isUp (by decide)).trans hup)
    · exact h

/-! ### The step and the state after reset -/

/-- Settles O1. -/
theorem stepRunsFront : Obligations.StepRunsFront := fun c rest s h => by rw [step, h]

/-- Settles O3: every table is empty but that of the power domains, no name is held, and the block is up. -/
theorem resetIsSound : Obligations.ResetIsSound := by
  refine ⟨⟨rfl, rfl, rfl⟩, ?_, ?_, offIsLost_of_up rfl, ?_⟩
  · constructor <;> decide +kernel
  · constructor <;> decide +kernel
  · refine ⟨nofun, nofun, nofun, by decide +kernel, nofun, nofun, fun k => ⟨nofun, nofun⟩⟩

/-- A Plumb that works, armed, with one change waiting for the store. -/
def plbWaiting : State :=
  { State.reset with
    pwr := { Power.reset with domains := [(78, ⟨.on, none, false⟩)] }
    plb := { Plumb.reset with phase := .armed, queue := [⟨0, 0, false⟩] } }

/-- Refutes O2: the core cycle lets a waiting change of the Plumb pass into the store (R436), whose blocks of memory 9 are written (R325): the memory
protection changes, which the frame leaves out. -/
theorem not_emptyQueueIdles : ¬ Obligations.EmptyQueueIdles := by
  intro h
  obtain ⟨t, ht, -, -, hf⟩ := (h plbWaiting rfl).2 (by decide +kernel) (by decide +kernel) (by decide +kernel)
  have hm : t.mem = plbWaiting.mem := hf.same .mem (by decide)
  cases ht
  exact absurd (congrArg MemProt.written hm) (by decide +kernel)

end Sys2Proof.Machine
end

section
/-!
SUPPORT. The register map (R475, chapter 21): a place can be read off an offset, the places of one 64 KiB block lie apart, so the map answers every
entry at its own offset.
-/
namespace Sys2Proof.Machine

/-! ### Places -/

/-- The last byte offset of a register's entries within their block, from the first. -/
def Place.span (p : Place) : Nat := (p.per - 1) * p.stride + (p.count2 - 1) * p.stride2

/-- Offset of an entry at a place (R475). -/
def Place.off (p : Place) (i j : Nat) : Nat := p.base + i / p.per * p.blk + i % p.per * p.stride + j * p.stride2

/-- A place whose entries can be told apart by their offsets: rows do not overlap, and neither do blocks, which are whole multiples of 64 KiB. -/
structure Place.Regular (p : Place) : Prop where
  per : 0 < p.per
  one : p.blk = 0 → p.count ≤ p.per
  blk : p.blk ≠ 0 → p.span < p.blk
  rows : p.stride = 0 → p.per ≤ 1
  row : p.stride ≠ 0 → (p.count2 - 1) * p.stride2 < p.stride
  cols : p.stride2 = 0 → p.count2 ≤ 1
  whole : p.blk % 0x10000 = 0
  fits : p.base % 0x10000 + p.span < 0x10000

/-- The same as a test. -/
def Place.regular (p : Place) : Bool :=
  decide (0 < p.per ∧ (p.blk = 0 → p.count ≤ p.per) ∧ (p.blk ≠ 0 → p.span < p.blk) ∧ (p.stride = 0 → p.per ≤ 1) ∧
    (p.stride ≠ 0 → (p.count2 - 1) * p.stride2 < p.stride) ∧ (p.stride2 = 0 → p.count2 ≤ 1) ∧ p.blk % 0x10000 = 0 ∧
    p.base % 0x10000 + p.span < 0x10000)

theorem Place.regular_iff (p : Place) : p.regular = true ↔ p.Regular := by
  unfold Place.regular
  rw [decide_eq_true_eq]
  exact ⟨fun ⟨a, b, c, d, e, f, g, h⟩ => ⟨a, b, c, d, e, f, g, h⟩, fun ⟨a, b, c, d, e, f, g, h⟩ => ⟨a, b, c, d, e, f, g, h⟩⟩

theorem mul_le_last {i n : Nat} (h : i < n) (k : Nat) : i * k ≤ (n - 1) * k := Nat.mul_le_mul_right _ (by omega)

/-- Within its block an entry lies within the span. -/
theorem Place.Regular.within {p : Place} (h : p.Regular) (i : Nat) {j : Nat} (hj : j < p.count2) : i % p.per * p.stride + j * p.stride2 ≤ p.span :=
  Nat.add_le_add (mul_le_last (Nat.mod_lt _ h.per) _) (mul_le_last hj _)

/-- Where an entry lies within its 64 KiB. -/
theorem Place.Regular.off_mod {p : Place} (h : p.Regular) (i : Nat) {j : Nat} (hj : j < p.count2) :
    p.off i j % 0x10000 = p.base % 0x10000 + i % p.per * p.stride + j * p.stride2 := by
  have hw := h.within i hj
  have hf := h.fits
  obtain ⟨k, hk⟩ := Nat.dvd_of_mod_eq_zero h.whole
  have hb : i / p.per * p.blk = 0x10000 * (i / p.per * k) := by rw [hk]; ring
  unfold Place.off
  rw [hb]
  omega

/-- The 64 KiB block of an entry. -/
theorem Place.Regular.off_div {p : Place} (h : p.Regular) (i : Nat) {j : Nat} (hj : j < p.count2) :
    p.off i j / 0x10000 = p.base / 0x10000 + i / p.per * (p.blk / 0x10000) := by
  have hw := h.within i hj
  have hf := h.fits
  obtain ⟨k, hk⟩ := Nat.dvd_of_mod_eq_zero h.whole
  have hb : i / p.per * p.blk = 0x10000 * (i / p.per * k) := by rw [hk]; ring
  have hd : p.blk / 0x10000 = k := by rw [hk]; exact Nat.mul_div_cancel_left _ (by decide)
  unfold Place.off
  rw [hb, hd]
  omega

theorem add_mul_div {q m n : Nat} (h : m < n) : (q * n + m) / n = q := by
  rw [Nat.add_comm, Nat.add_mul_div_right _ _ (by omega), Nat.div_eq_of_lt h, Nat.zero_add]

/-- The entry that an offset of a register names is the one that lies there. -/
theorem regGuess_regOff {r : Reg} (h : r.place.Regular) {i j : Nat} (hi : i < r.place.count) (hj : j < r.place.count2) :
    regGuess r (regOff r i j) = (i, j) := by
  have hw := h.within i hj
  have hd : regOff r i j - r.place.base = i / r.place.per * r.place.blk + (i % r.place.per * r.place.stride + j * r.place.stride2) := by
    unfold regOff
    dsimp only
    omega
  have hq : (if r.place.blk = 0 then 0 else (regOff r i j - r.place.base) / r.place.blk) = i / r.place.per := by
    split
    · next hb => exact (Nat.div_eq_of_lt (Nat.lt_of_lt_of_le hi (h.one hb))).symm
    · next hb => rw [hd]; exact add_mul_div (Nat.lt_of_le_of_lt hw (h.blk hb))
  have hr : (if r.place.stride = 0 then 0 else (i % r.place.per * r.place.stride + j * r.place.stride2) / r.place.stride) = i % r.place.per := by
    have hp := Nat.mod_lt i h.per
    split
    · next hs => have := h.rows hs; omega
    · next hs => exact add_mul_div (Nat.lt_of_le_of_lt (mul_le_last hj _) (h.row hs))
  have hc : (if r.place.stride2 = 0 then 0 else j * r.place.stride2 / r.place.stride2) = j := by
    split
    · next hs => have := h.cols hs; omega
    · next hs => exact Nat.mul_div_cancel _ (Nat.pos_of_ne_zero hs)
  unfold regGuess
  dsimp only
  rw [hq, hd, Nat.add_sub_cancel_left, hr, Nat.add_sub_cancel_left, hc, Nat.mul_comm, Nat.div_add_mod]

/-! ### Places that lie apart -/

/-- How far a place's columns reach modulo `m`. -/
def Place.tail (p : Place) (m : Nat) : Nat := if p.stride2 % m = 0 then 0 else (p.count2 - 1) * p.stride2

/-- In each 64 KiB the one place ends before the other begins, or modulo `m` the columns of the one end before those of the other. -/
def Place.before (m : Nat) (p q : Place) : Bool :=
  decide (p.base % 0x10000 + p.span < q.base % 0x10000) ||
  decide (m ≠ 0 ∧ 0x10000 % m = 0 ∧ p.stride % m = 0 ∧ q.stride % m = 0 ∧ p.base % m + p.tail m < q.base % m ∧ q.base % m + q.tail m < m)

/-- Entries of two places have different offsets: 8 is the row of the two words of a calibration (R398). -/
def Place.apart (p q : Place) : Bool := p.before p.stride q || q.before p.stride p || p.before 8 q || q.before 8 p

/-- What remains of an entry's offset modulo a divisor of its row. -/
theorem Place.off_mod_row {p : Place} {m : Nat} (hb : p.blk % m = 0) (hs : p.stride % m = 0) (ht : p.base % m + p.tail m < m) (i : Nat) {j : Nat}
    (hj : j < p.count2) : p.base % m ≤ p.off i j % m ∧ p.off i j % m ≤ p.base % m + p.tail m := by
  have key : p.off i j % m = (p.base + j * p.stride2) % m := by
    obtain ⟨x, hx⟩ := Nat.dvd_of_mod_eq_zero hb
    obtain ⟨y, hy⟩ := Nat.dvd_of_mod_eq_zero hs
    have e : p.off i j = p.base + j * p.stride2 + m * (i / p.per * x + i % p.per * y) := by unfold Place.off; rw [hx, hy]; ring
    rw [e, Nat.add_mul_mod_self_left]
  rw [key]
  unfold Place.tail at *
  split at ht
  · next h2 =>
    obtain ⟨y, hy⟩ := Nat.dvd_of_mod_eq_zero h2
    rw [if_pos h2, hy, show p.base + j * (m * y) = p.base + m * (j * y) by ring, Nat.add_mul_mod_self_left]
    exact ⟨Nat.le_refl _, Nat.le_refl _⟩
  · next h2 =>
    have hl := mul_le_last hj p.stride2
    have hj : j * p.stride2 % m = j * p.stride2 := Nat.mod_eq_of_lt (by omega)
    rw [if_neg h2, Nat.add_mod_of_add_mod_lt (by omega), hj]
    omega

theorem Place.ne_of_before {m : Nat} {p q : Place} (hp : p.Regular) (hq : q.Regular) (h : p.before m q = true) (i i' : Nat) {j j' : Nat}
    (hj : j < p.count2) (hj' : j' < q.count2) : p.off i j ≠ q.off i' j' := by
  intro e
  have h' := h
  simp only [Place.before, Bool.or_eq_true, decide_eq_true_eq] at h'
  rcases h' with h' | ⟨hm, hd, hs, hs', hl, hl'⟩
  · have a := hp.off_mod i hj
    have b := hq.off_mod i' hj'
    have := hp.within i hj
    omega
  · have hblk : ∀ x : Place, x.Regular → x.blk % m = 0 := fun x hx =>
      Nat.mod_eq_zero_of_dvd ((Nat.dvd_of_mod_eq_zero hd).trans (Nat.dvd_of_mod_eq_zero hx.whole))
    have a := Place.off_mod_row (hblk p hp) hs (by omega) i hj
    have b := Place.off_mod_row (hblk q hq) hs' hl' i' hj'
    rw [e] at a
    omega

theorem Place.ne_of_apart {p q : Place} (hp : p.Regular) (hq : q.Regular) (h : p.apart q = true) (i i' : Nat) {j j' : Nat}
    (hj : j < p.count2) (hj' : j' < q.count2) : p.off i j ≠ q.off i' j' := by
  simp only [Place.apart, Bool.or_eq_true] at h
  rcases h with ((h | h) | h) | h
  · exact Place.ne_of_before hp hq h i i' hj hj'
  · exact (Place.ne_of_before hq hp h i' i hj' hj).symm
  · exact Place.ne_of_before hp hq h i i' hj hj'
  · exact (Place.ne_of_before hq hp h i' i hj' hj).symm

/-! ### The map -/

/-- Two registers of one block are the same, or lie apart. -/
def blockApart (l : List Reg) : Bool := l.all fun r => l.all fun q => decide (r = q) || r.place.apart q.place

theorem blockApart_ite {c : Prop} [Decidable c] {l m : List Reg} (hl : blockApart l = true) (hm : blockApart m = true) :
    blockApart (if c then l else m) = true := by
  split <;> assumption

theorem blockApart_all (b : Nat) : blockApart (blockRegs b) = true := by
  unfold blockRegs
  repeat' apply blockApart_ite
  all_goals decide +kernel

/-- A register's place is regular, and each block that it reaches lists it. -/
def isPlaced (r : Reg) : Bool :=
  r.place.regular &&
    (List.range ((r.place.count - 1) / r.place.per + 1)).all fun k => (blockRegs (r.place.base / 0x10000 + k * (r.place.blk / 0x10000))).contains r

set_option maxRecDepth 20000 in
theorem isPlaced_all (r : Reg) : isPlaced r = true := by
  cases r <;> decide +kernel

theorem regular_place (r : Reg) : r.place.Regular := (Place.regular_iff _).1 (Bool.and_eq_true _ _ ▸ isPlaced_all r).1

theorem mem_blockRegs {r : Reg} {i j : Nat} (hi : i < r.place.count) (hj : j < r.place.count2) : r ∈ blockRegs (regOff r i j / 0x10000) := by
  have h := List.all_eq_true.1 (Bool.and_eq_true _ _ ▸ isPlaced_all r).2 (i / r.place.per)
    (List.mem_range.2 (Nat.lt_succ_of_le (Nat.div_le_div_right (by omega))))
  have hd : regOff r i j / 0x10000 = _ := (regular_place r).off_div i hj
  rw [hd]
  simpa using h

theorem regExists_lt {r : Reg} {i j : Nat} (h : regExists r i j = true) : i < r.place.count ∧ j < r.place.count2 := by
  simp only [regExists, Bool.and_eq_true, decide_eq_true_eq] at h
  exact h.1

/-- In a block no other register has an entry at the same offset. -/
theorem reg_eq_of_regOff {b : Nat} {r q : Reg} (hr : r ∈ blockRegs b) (hq : q ∈ blockRegs b) {i j i' j' : Nat} (h : regExists r i j = true)
    (h' : regExists q i' j' = true) (e : regOff q i' j' = regOff r i j) : q = r := by
  have ha := List.all_eq_true.1 (List.all_eq_true.1 (blockApart_all b) q hq) r hr
  rw [Bool.or_eq_true, decide_eq_true_eq] at ha
  exact ha.resolve_right fun k => Place.ne_of_apart (regular_place q) (regular_place r) k i' i (regExists_lt h').2 (regExists_lt h).2 e

/-- A search answers what the one element that answers gives. -/
theorem findSome?_of_unique {α β : Type} {f : α → Option β} {l : List α} {a : α} {b : β} (ha : a ∈ l) (hf : f a = some b)
    (hn : ∀ x ∈ l, x ≠ a → f x = none) : l.findSome? f = some b := by
  induction l with
  | nil => cases ha
  | cons x t ih =>
    by_cases hx : x = a
    · rw [List.findSome?_cons, hx, hf]
    · rw [List.findSome?_cons, hn x List.mem_cons_self hx]
      exact ih ((List.mem_cons.1 ha).resolve_left (Ne.symm hx)) fun y hy => hn y (List.mem_cons_of_mem _ hy)

/-- Settles O11: a block's list holds the register, whose entry is read off the offset, and no other register of the list has an entry there. -/
theorem registerMapExact : Obligations.RegisterMapExact := by
  intro r i j h
  obtain ⟨hi, hj⟩ := regExists_lt h
  have hm := mem_blockRegs hi hj
  have hg := regGuess_regOff (regular_place r) hi hj
  have hb : r.place.base ≤ regOff r i j := by unfold regOff; dsimp only; omega
  refine findSome?_of_unique hm ?_ fun q hq hne => ?_
  · rw [hg]
    simp [hb, h]
  · dsimp only
    split
    · next hc =>
      simp only [Bool.and_eq_true, decide_eq_true_eq] at hc
      exact absurd (reg_eq_of_regOff hm hq h hc.2 hc.1.2) hne
    · rfl

end Sys2Proof.Machine
end

section
/-!
SUPPORT. Bits and fields of a register word, voted items that move, and what the shared operations leave of a state that a row reads on: the facts that
the families below are assembled from.
-/
namespace Sys2Proof.Machine

/-! ### Bits of a field -/

theorem bit_mkFld (hi lo v b : Nat) :
    (mkFld hi lo v).getLsbD b = (decide (b < 32) && (decide (lo ≤ b ∧ b ≤ hi) && v.testBit (b - lo))) := by
  rw [mkFld, BitVec.getLsbD_ofNat, Nat.testBit_mul_two_pow, Nat.testBit_mod_two_pow]
  by_cases h1 : lo ≤ b
  · by_cases h2 : b ≤ hi
    · simp [h1, h2, show b - lo < hi + 1 - lo by omega]
    · simp [h1, h2, show ¬ b - lo < hi + 1 - lo by omega]
  · simp [h1]

theorem bit_fldMask (hi lo b : Nat) : (fldMask hi lo).getLsbD b = decide (b < 32 ∧ lo ≤ b ∧ b ≤ hi) := by
  rw [fldMask, bit_mkFld, Nat.testBit_two_pow_sub_one]
  by_cases h : b < 32
  · simp [h, show b - lo < 32 by omega]
  · simp [h]

/-- The bits of a word whose field has been replaced. -/
theorem bit_setFld (w : Word) (hi lo v b : Nat) :
    (setFld w hi lo v).getLsbD b = (decide (b < 32) && if lo ≤ b ∧ b ≤ hi then v.testBit (b - lo) else w.getLsbD b) := by
  rw [setFld, BitVec.getLsbD_or, BitVec.getLsbD_and, BitVec.getLsbD_not, bit_fldMask, bit_mkFld]
  by_cases h : b < 32 <;> by_cases h2 : lo ≤ b ∧ b ≤ hi <;> simp [h, h2]

theorem testBit_fld (w : Word) (hi lo k : Nat) : (fld w hi lo).testBit k = (decide (k < hi + 1 - lo) && w.getLsbD (lo + k)) := by
  rw [fld, Nat.testBit_mod_two_pow, Nat.testBit_div_two_pow, BitVec.getLsbD, Nat.add_comm k lo]

theorem fld_setFld_same {hi lo : Nat} (h : hi < 32) (w : Word) (v : Nat) : fld (setFld w hi lo v) hi lo = v % 2 ^ (hi + 1 - lo) := by
  refine Nat.eq_of_testBit_eq fun k => ?_
  rw [testBit_fld, bit_setFld, Nat.testBit_mod_two_pow]
  by_cases hk : k < hi + 1 - lo
  · simp [hk, show lo + k < 32 by omega, show lo + k ≤ hi by omega]
  · simp [hk]

/-- A field is left alone by what is put into one that shares no bit with it. -/
theorem fld_setFld_other {hi lo hi' lo' : Nat} (h : hi < 32) (hd : hi < lo' ∨ hi' < lo) (w : Word) (v : Nat) :
    fld (setFld w hi' lo' v) hi lo = fld w hi lo := by
  refine Nat.eq_of_testBit_eq fun k => ?_
  rw [testBit_fld, testBit_fld, bit_setFld]
  by_cases hk : k < hi + 1 - lo
  · rw [if_neg (by omega)]
    simp [show lo + k < 32 by omega]
  · simp [hk]

theorem bit_setBit (w : Word) (b : Nat) (x : Bool) (k : Nat) : (setBit w b x).getLsbD k = (decide (k < 32) && if k = b then x else w.getLsbD k) := by
  rw [setBit, bit_setFld]
  by_cases h : k = b
  · subst h
    cases x <;> simp
  · rw [if_neg (by omega), if_neg h]

/-! ### Voted items -/

/-- An item that has moved is the value that it moved to. -/
theorem Tri.val_move {n : Nat} (v : BitVec n) (t : Tri n) : (t.move v).val = v := by
  have hb : ∀ v x y z : Bool, (((v ^^ (x ^^ (x && y || x && z || y && z))) && (v ^^ (y ^^ (x && y || x && z || y && z)))) ||
      ((v ^^ (x ^^ (x && y || x && z || y && z))) && (v ^^ (z ^^ (x && y || x && z || y && z)))) ||
      ((v ^^ (y ^^ (x && y || x && z || y && z))) && (v ^^ (z ^^ (x && y || x && z || y && z))))) = v := by decide
  obtain ⟨x, y, z⟩ := t
  ext k hk
  simp only [Tri.val, Tri.move, Tri.map, BitVec.getElem_or, BitVec.getElem_and, BitVec.getElem_xor]
  exact hb ..

/-! ### Entries of the register map -/

theorem regExists_of_regAt {off : Nat} {r : Reg} {i j : Nat} (h : regAt off = some (r, i, j)) : regOff r i j = off ∧ regExists r i j = true := by
  unfold regAt at h
  obtain ⟨q, -, hq⟩ := List.exists_of_findSome?_eq_some h
  dsimp only at hq
  split at hq
  · next hc =>
    cases hq
    simp only [Bool.and_eq_true, decide_eq_true_eq] at hc
    exact ⟨hc.1.2, hc.2⟩
  · cases hq

/-- Two entries that exist lie at one offset only where they are the same. -/
theorem regOff_inj {r q : Reg} {i j i' j' : Nat} (h : regExists r i j = true) (h' : regExists q i' j' = true) (e : regOff r i j = regOff q i' j') :
    (r, i, j) = (q, i', j') := by
  have a := registerMapExact r i j h
  rw [e, registerMapExact q i' j' h'] at a
  exact (Option.some.inj a).symm

theorem regOff_ne {r q : Reg} {i j i' j' : Nat} (h : regExists r i j = true) (h' : regExists q i' j' = true) (n : (r, i, j) ≠ (q, i', j')) :
    regOff r i j ≠ regOff q i' j' := fun e => n (regOff_inj h h' e)

/-! ### Host writes -/

/-- Where a register of the map is written with effect, its row is the write of the register. -/
theorem hostRow_reg {p off : Nat} {r : Reg} {i j : Nat} {w : Word} {s : State} (ho : off = regOff r i j) (ha : RegIsAt r i j)
    (h : HostMay p r i j w s) : hostRow p off w s = .next (writeReg p r i j w s) := ho ▸ hostRow_may h ha

end Sys2Proof.Machine
end

section
/-!
SUPPORT. Host writes of one register (R352 to R361): what a write of each kind stores, the window for single bits, and the statements on them settled.
-/
namespace Sys2Proof.Machine

/-! ### Plain registers -/

/-- The masks of a plain register hold RW bits alone. -/
theorem plainReg_masks {r : Reg} (h : plainReg r = true) :
    (regMask r .sqc = 0 ∧ regMask r .once = 0 ∧ regMask r .cb = 0 ∧ regMask r .lk = 0) ∧ hasEffect r = false := by
  simpa [plainReg, and_assoc] using h

/-- A plain register only takes the written bits. -/
theorem writeReg_of_plainReg {p : Nat} {r : Reg} {i j : Nat} {w : Word} {s : State} (h : plainReg r = true) :
    writeReg p r i j w s = setCell r i j (mergeMask (storeMask r) (cell s r i j) w) s := by
  obtain ⟨hm, he⟩ := plainReg_masks h
  have hf : r ≠ .fltCtl := by rintro rfl; cases he
  rw [writeReg_plain hm (ownHome_of he) hf, writeEffect_of he]

/-- Settles O12. -/
theorem plainRegisterWrite : Obligations.PlainRegisterWrite := by
  intro p off w r i j s ho ha hx h hp
  refine ⟨_, hostRow_reg ho ⟨ha, hx⟩ h, writeReg_of_plainReg hp, ?_⟩
  rw [writeReg_of_plainReg hp]
  exact ⟨fun hs => cell_setCell hs.regs .., fun hs _ _ _ hn => cell_setCell_other hs.regs _ hn, (setCell_does ..).only⟩

/-! ### Course-buffered registers (R353, R268) -/

theorem cbWrite_map {i : Nat} {s : State} (h : mapWritable s i = false) (w : Word) : cbWrite .uplStreamMap i w s = event .uplEvt 0 19 s :=
  if_pos ⟨rfl, by rw [h]; rfl⟩

theorem cbWrite_taken {r : Reg} {i : Nat} {s : State} (h : r = .uplStreamMap → mapWritable s i = true) (w : Word) :
    cbWrite r i w s = setCb r i ((cbReg s r i).write (w &&& regMask r .cb)) s :=
  if_neg fun ⟨e, k⟩ => by rw [h e] at k; cases k

/-- What a write that is taken leaves: it waits, and the value in force stays. -/
theorem cbReg_setCb_write {s : State} (hs : TablesRise s) (r : Reg) (i : Nat) (v : Word) :
    (cbReg (setCb r i ((cbReg s r i).write v) s) r i).waiting = true ∧ (cbReg (setCb r i ((cbReg s r i).write v) s) r i).pend = v ∧
      inForce (setCb r i ((cbReg s r i).write v) s) r i = inForce s r i := by
  unfold inForce
  rw [cbReg_setCb hs.cb]
  exact ⟨rfl, CbReg.pend_write .., CbReg.force_write ..⟩

/-- Settles O14. -/
theorem courseBufferedWrite : Obligations.CourseBufferedWrite := by
  refine ⟨fun p off w r i j s ho ha hx h hs hq hn hc hm => ?_, fun p x w s h hs => ?_⟩
  · obtain ⟨h1, h2, h3⟩ := cbReg_setCb_write hs r i (w &&& regMask r .cb)
    refine ⟨_, hostRow_reg ho ⟨ha, hx⟩ h, ?_⟩
    rw [writeReg_cb ⟨hq, hn⟩ hc, cbWrite_taken fun e => absurd e hm]
    exact ⟨h1, h2, h3, fun _ _ k => cbReg_setCb_other hs.cb _ _ _ k, (setCb_does ..).only⟩
  · refine ⟨_, hostRow_may h (at_uplStreamMap x), ?_⟩
    rw [writeReg_cb (by decide) (by decide)]
    cases k : mapWritable s x with
    | true =>
      obtain ⟨h1, h2, h3⟩ := cbReg_setCb_write hs .uplStreamMap x (w &&& regMask .uplStreamMap .cb)
      rw [cbWrite_taken fun _ => k]
      exact ⟨h3, fun _ => ⟨h1, h2, (setCb_does ..).only⟩, nofun⟩
    | false =>
      rw [cbWrite_map k]
      exact ⟨by unfold inForce cbReg; rw [event_btr], nofun, fun _ => ⟨evented_event hs.regs .., (event_does ..).only⟩⟩

/-! ### Write-once registers (R359, R360) -/

/-- The identity that a ONCE register's first write locks. -/
def lockIdent (r : Reg) (b : Buttress) : Buttress :=
  if r = .hstDeviceId then { b with devIdWritten := b.devIdWritten.move 1 } else { b with posWritten := b.posWritten.move 1 }

/-- The register of the two that has been written is locked. -/
def identLocked (s : State) (r : Reg) : Bool := if r = .hstDeviceId then s.btr.devIdWritten.val == 1 else s.btr.posWritten.val == 1

theorem onceWrite_first {p : Nat} {r : Reg} {w : Word} {s : State} (h : identLocked s r = false) :
    onceWrite p r w s = identWritten ((setCell r 0 0 w s).modBtr (lockIdent r)) := if_neg (by unfold identLocked at h; rw [h]; decide)

theorem onceWrite_later {p : Nat} {r : Reg} {w : Word} {s : State} (h : identLocked s r = true) : onceWrite p r w s = lockWrite p (regOff r) w s :=
  if_pos h

/-- R360: the first write of a ONCE register. -/
theorem onceWrite_first_takes {p : Nat} {r : Reg} {w : Word} {s : State} (hs : TablesRise s) (h : identLocked s r = false) :
    cell (onceWrite p r w s) r = w ∧ identLocked (onceWrite p r w s) r = true ∧
      (∃ d : CnsDue, (onceWrite p r w s).cns.due = s.cns.due ++ [d] ∧ d.type = 2) ∧ Only [.regs, .btr, .cns] s (onceWrite p r w s) := by
  rw [onceWrite_first h]
  refine ⟨cell_setCell hs.regs .., ?_, ⟨_, rfl, rfl⟩, ⟨fun z hz => ?_⟩⟩
  · unfold identLocked lockIdent identWritten cnsPost State.modCns State.modBtr
    split
    · exact beq_iff_eq.2 (Tri.val_move ..)
    · exact beq_iff_eq.2 (Tri.val_move ..)
  · cases z <;> first | rfl | exact ⟨rfl, rfl⟩ | exact absurd (by decide) hz

/-- R359: a later one leaves it and is an event with its report. -/
theorem lockWrite_keeps {p off : Nat} {w : Word} {s : State} (hs : TablesRise s) :
    (∀ (r : Reg) (i j : Nat), regOff r i j ≠ regOff .hstEvt → cell (lockWrite p off w s) r i j = cell s r i j) ∧
      Reported Src.lockWrite p [w32 off, w32 p, w] s (lockWrite p off w s) ∧ Evented .hstEvt 0 22 s (lockWrite p off w s) ∧
      Only [.regs, .flt, .port0, .port1] s (lockWrite p off w s) :=
  ⟨fun _ _ _ h => (cell_regs (raise_regs ..) ..).trans (cell_event_other hs.regs _ _ _ h), reported_raise (event_btr ..),
    (evented_event hs.regs ..).keep (raise_regs ..), ((lockWrite_does ..).widen rfl).only⟩

/-! ### The window for single bits (R361) -/

theorem bit_foldl_mask (a : Acc) (b : Nat) (l : List Field) (m : Word)
    (h : m.getLsbD b = true ∨ ∃ f ∈ l, f.acc = a ∧ b < 32 ∧ f.lo ≤ b ∧ b ≤ f.hi) :
    (l.foldl (fun m f => if f.acc = a then m ||| fldMask f.hi f.lo else m) m).getLsbD b = true := by
  induction l generalizing m with
  | nil => exact h.resolve_right (by simp)
  | cons f t ih =>
    refine ih _ ?_
    dsimp only
    rcases h with h | ⟨g, hg, hk⟩
    · left
      split
      · rw [BitVec.getLsbD_or, h]; rfl
      · exact h
    · rcases List.mem_cons.1 hg with rfl | hg
      · left
        rw [if_pos hk.1, BitVec.getLsbD_or, bit_fldMask, decide_eq_true hk.2, Bool.or_true]
      · exact .inr ⟨g, hg, hk⟩

/-- A bit of an RW field is one that a write stores. -/
theorem storeMask_of_rw {r : Reg} {b : Nat} (hb : b < 32) (h : bitAccess r b = .rw) : (storeMask r).getLsbD b = true := by
  unfold bitAccess at h
  cases hf : r.fields.find? (fun f => decide (f.lo ≤ b) && decide (b ≤ f.hi)) with
  | none => rw [hf] at h; cases h
  | some f =>
    rw [hf] at h
    have hp := List.find?_some hf
    simp only [Bool.and_eq_true, decide_eq_true_eq] at hp
    rw [storeMask, BitVec.getLsbD_or, regMask, bit_foldl_mask .rw b _ _ (.inr ⟨f, List.mem_of_find?_eq_some hf, h, hb, hp⟩), Bool.true_or]

/-- A write of the bits that stand, but for one that is stored, changes that one alone. -/
theorem mergeMask_setBit {m c : Word} {b : Nat} (h : m.getLsbD b = true) (x : Bool) : mergeMask m c (setBit (c &&& m) b x) = setBit c b x := by
  refine BitVec.eq_of_getLsbD_eq fun k hk => ?_
  rw [mergeMask, BitVec.getLsbD_or, BitVec.getLsbD_and, BitVec.getLsbD_and, BitVec.getLsbD_not, bit_setBit, bit_setBit, BitVec.getLsbD_and]
  by_cases e : k = b
  · subst e; rw [h]; simp [hk]
  · cases m.getLsbD k <;> simp [e, hk]

theorem writableBits_of_plainReg {r : Reg} (h : plainReg r = true) (s : State) (i j : Nat) : writableBits s r i j = cell s r i j &&& storeMask r := by
  obtain ⟨-, he⟩ := plainReg_masks h
  unfold writableBits
  split <;> first | rfl | cases he

/-- A write through the window of an RW bit of a plain register sets that bit alone. -/
theorem aliasWrite_plain {p a : Nat} {w : Word} {r : Reg} {i j : Nat} {s : State} (ho : accessOff true a = regOff r i j) (ha : RegIsAt r i j)
    (hm : mayWrite s p (regOff r i j) = true) (hp : plainReg r = true) (hb : bitAccess r (a % 128 / 4) = .rw) :
    aliasWrite p a w s = setCell r i j (setBit (cell s r i j) (a % 128 / 4) (bit w 0)) s := by
  unfold aliasWrite
  dsimp only
  rw [ho, if_neg (by rw [ha.2]; decide), if_neg (by rw [hm]; decide), ha.1]
  dsimp only
  rw [hb]
  dsimp only
  rw [writeReg_of_plainReg hp, writableBits_of_plainReg hp, mergeMask_setBit (storeMask_of_rw (by omega) hb)]

/-- Settles O16. -/
theorem writeOnceAndAlias : Obligations.WriteOnceAndAlias := by
  refine ⟨fun p position w s h hs => ?_, fun p off w r i j s ho ha hx hup hl hm hs hp hb => ?_⟩
  · have key : ∀ r : Reg, r = .hstInstallPos ∨ r = .hstDeviceId → HostMay p r 0 0 w s → RegIsAt r 0 0 → regMask r .sqc = 0 → regMask r .once ≠ 0 →
        ∃ t : State, hostRow p (regOff r) w s = .next t ∧
          (identLocked s r = false → cell t r = w ∧ identLocked t r = true ∧ (∃ d : CnsDue, t.cns.due = s.cns.due ++ [d] ∧ d.type = 2) ∧
            Only [.regs, .btr, .cns] s t) ∧
          (identLocked s r = true → cell t r = cell s r ∧ Reported Src.lockWrite p [w32 (regOff r), w32 p, w] s t ∧ Evented .hstEvt 0 22 s t ∧
            Only [.regs, .flt, .port0, .port1] s t) := by
      intro r hr hmay hat hsq ho
      refine ⟨_, hostRow_may hmay hat, ?_⟩
      rw [writeReg_once hsq ho]
      refine ⟨fun k => onceWrite_first_takes hs k, fun k => ?_⟩
      rw [onceWrite_later k]
      obtain ⟨h1, h2⟩ := lockWrite_keeps (p := p) (off := regOff r) (w := w) hs
      exact ⟨h1 r 0 0 (by rcases hr with rfl | rfl <;> decide), h2⟩
    cases position with
    | true =>
      obtain ⟨t, ht, h0, h1⟩ := key .hstInstallPos (.inl rfl) h at_hstInstallPos (by decide) (by decide)
      refine ⟨t, ht, fun k => ?_, fun k => h1 (beq_iff_eq.2 k)⟩
      obtain ⟨a, b, c⟩ := h0 (beq_eq_false_iff_ne.2 (by rw [show s.btr.posWritten.val = 0 from k]; decide))
      exact ⟨a, beq_iff_eq.1 b, c⟩
    | false =>
      obtain ⟨t, ht, h0, h1⟩ := key .hstDeviceId (.inr rfl) h at_hstDeviceId (by decide) (by decide)
      refine ⟨t, ht, fun k => ?_, fun k => h1 (beq_iff_eq.2 k)⟩
      obtain ⟨a, b, c⟩ := h0 (beq_eq_false_iff_ne.2 (by rw [show s.btr.devIdWritten.val = 0 from k]; decide))
      exact ⟨a, beq_iff_eq.1 b, c⟩
  · refine ⟨_, (upNext_up hup).trans (by rw [hl, if_pos rfl]), ?_⟩
    rw [aliasWrite_plain ho ⟨ha, hx⟩ hm hp hb]
    exact ⟨cell_setCell hs.regs .., fun _ _ _ k => cell_setCell_other hs.regs _ k, (setCell_does ..).only⟩

/-! ### Snapshots (R357) -/

/-- A machine with a damaged block of the fault log's memory, whose entry port 0's collector bank is about to capture. -/
def damagedLogCapture : State :=
  { State.reset with
    mem := { MemProt.reset with ecc := [(eccKey 10 0 0, ⟨.damaged, 0⟩)] }
    port0 := { HostPort.reset with banks := [(6, { SnapBank.reset with waiting := some ⟨0, 0, none⟩ })] } }

/-- Refutes O17: a capture of the fault log reads the log's memory (R327), and a read of a DAMAGED block is recorded in MEM_LAST_READ (R326), outside the
two ports. -/
theorem not_snapshotBanks : ¬ Obligations.SnapshotBanks := by
  intro h
  have hr : TablesRise damagedLogCapture := by constructor <;> decide +kernel
  obtain ⟨t, ht, hf, -⟩ := h.2.2.1 0 .flt ⟨0, 0, none⟩ damagedLogCapture (by decide +kernel) hr (by decide +kernel) (by decide)
  have hk : t.regs = damagedLogCapture.regs := hf.same .regs (by decide)
  cases ht
  exact absurd hk (by decide +kernel)

end Sys2Proof.Machine
end

section
/-!
SUPPORT. The Quoin's domains and servo (R35 to R49): how a domain is lost and what the servo makes of it, orbit starts, and the statements on them settled.
-/
namespace Sys2Proof.Machine

/-! ### Domains and reports -/

theorem qdom_quo {s t : State} (h : t.quo = s.quo) (d : Fin 2) : qdom t d = qdom s d := by unfold qdom; rw [h]

theorem qdom_modDom (d : Fin 2) (f : QDomain → QDomain) (s : State) : qdom (modDom d f s) d = f (qdom s d) := by
  fin_cases d <;> rfl

theorem qdom_modDom_other (d : Fin 2) (f : QDomain → QDomain) (s : State) : qdom (modDom d f s) (otherDom d) = qdom s (otherDom d) := by
  fin_cases d <;> rfl

theorem modDom_servo (d : Fin 2) (f : QDomain → QDomain) (s : State) :
    (modDom d f s).quo.servo = s.quo.servo ∧ (modDom d f s).quo.active = s.quo.active ∧ (modDom d f s).quo.xoOk = s.quo.xoOk := by
  fin_cases d <;> exact ⟨rfl, rfl, rfl⟩

/-- A report under way stays so while the collector only takes new ones. -/
theorem Reported.mono {src idx : Nat} {cap : List Word} {s u t : State} (h : Reported src idx cap s u) (k : ∀ r ∈ u.flt.flying, r ∈ t.flt.flying) :
    Reported src idx cap s t := by
  obtain ⟨r, hr, e⟩ := h
  exact ⟨r, k r hr, e⟩

theorem Reported.from {src idx : Nat} {cap : List Word} {s u t : State} (h : Reported src idx cap u t) (k : u.btr = s.btr) : Reported src idx cap s t := by
  obtain ⟨r, hr, h1, h2, h3, h4⟩ := h
  exact ⟨r, hr, h1, h2, h3, h4.trans (nowStamp_btr k)⟩

theorem raise_flying_mono (src idx : Nat) (cap : List Word) (s : State) (tgt : Target) (m a : Nat) :
    ∀ r ∈ s.flt.flying, r ∈ (raise src idx cap s tgt m a).flt.flying := fun r h => by
  rw [raise_flying]
  exact List.mem_append_left _ h

/-- An event and nothing else in the register file, whatever else changes. -/
theorem regsKept_event {s t : State} (hs : Rises s.regs) {r : Reg} {i b : Nat} (h : t.regs = (event r i b s).regs) : RegsKept [(r, i, 0)] s t := by
  intro r' i' j' hn
  rw [cell_regs h]
  exact cell_event_other hs _ _ _ (hn _ (List.mem_singleton.2 rfl))

/-! ### The servo at a loss (R37, R38, R43, R45) -/

/-- A move of the servo: the domains, the active one and the oscillator stand, as do the register file and the moment; reports may set out. -/
structure ServoMove (s t : State) : Prop where
  regs : t.regs = s.regs
  btr : t.btr = s.btr
  doms : t.quo.domA = s.quo.domA ∧ t.quo.domB = s.quo.domB
  active : t.quo.active = s.quo.active
  xoOk : t.quo.xoOk = s.quo.xoOk
  flying : ∀ r ∈ s.flt.flying, r ∈ t.flt.flying

namespace ServoMove

theorem refl (s : State) : ServoMove s s := ⟨rfl, rfl, ⟨rfl, rfl⟩, rfl, rfl, fun _ h => h⟩

theorem trans {s t u : State} (h : ServoMove s t) (k : ServoMove t u) : ServoMove s u :=
  ⟨k.regs.trans h.regs, k.btr.trans h.btr, ⟨k.doms.1.trans h.doms.1, k.doms.2.trans h.doms.2⟩, k.active.trans h.active, k.xoOk.trans h.xoOk,
    fun r m => k.flying r (h.flying r m)⟩

theorem qdom_eq {s t : State} (h : ServoMove s t) (d : Fin 2) : qdom t d = qdom s d := by
  unfold qdom
  rw [h.doms.1, h.doms.2]

end ServoMove

theorem servoMove_setServo (v : Servo) (s : State) : ServoMove s (setServo v s) := ⟨rfl, rfl, ⟨rfl, rfl⟩, rfl, rfl, fun _ h => h⟩

theorem servoMove_enterHoldover (s : State) : ServoMove s (enterHoldover s) :=
  ⟨rfl, rfl, ⟨rfl, rfl⟩, rfl, rfl, fun _ h => List.mem_append_left _ h⟩

theorem servoMove_onActiveLoss (s : State) : ServoMove s (servoOnActiveLoss s) := by
  unfold servoOnActiveLoss
  split
  · exact servoMove_setServo ..
  · split
    · exact servoMove_setServo ..
    · exact servoMove_enterHoldover s
  · exact .refl s

theorem servoMove_holdoverLost (s : State) : ServoMove s (holdoverLost s) := by
  unfold holdoverLost
  split
  · exact servoMove_setServo ..
  · exact .refl s

/-- What the servo does once domain `d` is marked lost. -/
def lossServo (d : Fin 2) (s : State) : State := holdoverLost (if d = s.quo.active then servoOnActiveLoss s else s)

theorem servoMove_lossServo (d : Fin 2) (s : State) : ServoMove s (lossServo d s) := by
  refine .trans ?_ (servoMove_holdoverLost _)
  split
  · exact servoMove_onActiveLoss s
  · exact .refl s

/-- A domain that is not LOCKED leaves the other one to decide whether a holdover goes on. -/
theorem holdoverLost_servo {d : Fin 2} {s : State} (hd : (qdom s d).phase ≠ .locked) (h : s.quo.servo = .holdover) :
    (holdoverLost s).quo.servo = if s.quo.xoOk = true ∨ (qdom s (otherDom d)).phase = .locked then .holdover else .free := by
  have hb : (!((qdom s 0).phase == .locked) && !((qdom s 1).phase == .locked)) = !((qdom s (otherDom d)).phase == .locked) := by
    fin_cases d
    · exact (congrArg (!· && _) (beq_eq_false_iff_ne.2 hd)).trans (Bool.true_and _)
    · exact (congrArg (_ && !·) (beq_eq_false_iff_ne.2 hd)).trans (Bool.and_true _)
  unfold holdoverLost
  rw [Bool.and_assoc, hb, h]
  cases s.quo.xoOk <;> by_cases ho : (qdom s (otherDom d)).phase = .locked <;> simp [ho, h, setServo]

theorem holdoverLost_keeps {s : State} (h : s.quo.servo ≠ .holdover) : holdoverLost s = s := by
  unfold holdoverLost
  rw [if_neg (by simp [h])]

/-- R37, R38, R43, R45: the servo after the loss of domain `d`, by the state that it had. -/
theorem lossServo_servo {d : Fin 2} {s : State} (hd : (qdom s d).phase ≠ .locked) :
    (s.quo.servo = .free ∨ (s.quo.servo ≠ .holdover ∧ s.quo.active ≠ d) → (lossServo d s).quo.servo = s.quo.servo) ∧
      (s.quo.servo = .holdover →
        (lossServo d s).quo.servo = if s.quo.xoOk = true ∨ (qdom s (otherDom d)).phase = .locked then .holdover else .free) ∧
      (s.quo.active = d → s.quo.servo = .acquire → (lossServo d s).quo.servo = .free) ∧
      (s.quo.active = d → s.quo.servo = .locked →
        (s.quo.xoOk = true ∨ (qdom s (otherDom d)).phase = .locked →
          (lossServo d s).quo.servo = .holdover ∧ Reported Src.timeHoldover 0 [] s (lossServo d s)) ∧
        (s.quo.xoOk = false → (qdom s (otherDom d)).phase ≠ .locked → (lossServo d s).quo.servo = .free)) := by
  have stays (h : s.quo.servo = .free ∨ s.quo.servo = .holdover) : servoOnActiveLoss s = s := by
    unfold servoOnActiveLoss
    rcases h with h | h <;> rw [h]
  refine ⟨fun h => ?_, fun h => ?_, fun ha h => ?_, fun ha h => ⟨fun ho => ?_, fun hx ho => ?_⟩⟩
  · have : (if d = s.quo.active then servoOnActiveLoss s else s) = s := by
      rcases h with h | ⟨-, h⟩
      · rw [stays (.inl h), ite_self]
      · exact if_neg (Ne.symm h)
    rw [lossServo, this, holdoverLost_keeps]
    rcases h with h | ⟨h, -⟩
    · rw [h]; decide
    · exact h
  · rw [lossServo, stays (.inr h), ite_self]
    exact holdoverLost_servo hd h
  · have : servoOnActiveLoss s = setServo .free s := by unfold servoOnActiveLoss; rw [h]
    rw [lossServo, if_pos ha.symm, this, holdoverLost_keeps] <;> simp [setServo]
  · have he : servoOnActiveLoss s = enterHoldover s := by
      unfold servoOnActiveLoss
      rw [h]
      exact if_neg (by rw [ha]; rcases ho with ho | ho <;> simp [ho])
    have hm := servoMove_enterHoldover s
    have hr : Reported Src.timeHoldover 0 [] s (enterHoldover s) := reported_raise rfl
    have hv : (enterHoldover s).quo.servo = .holdover := rfl
    have hk := holdoverLost_servo (d := d) (by rw [hm.qdom_eq]; exact hd) hv
    rw [hm.qdom_eq, hm.xoOk, if_pos ho] at hk
    rw [lossServo, if_pos ha.symm, he]
    exact ⟨hk, hr.mono (servoMove_holdoverLost _).flying⟩
  · have : servoOnActiveLoss s = setServo .free s := by
      unfold servoOnActiveLoss
      rw [h]
      exact if_pos (by rw [ha]; simp [hx, ho])
    rw [lossServo, if_pos ha.symm, this, holdoverLost_keeps] <;> simp [setServo]

/-! ### A domain is lost (R37) -/

/-- What a loss makes of a domain. -/
def QDomain.lostWith (cause c : Nat) (q : QDomain) : QDomain := { q with phase := .lost, lostCause := cause, lostCourse := c, phaseRun := 0 }

/-- A lost domain with its event and reports, before the servo follows. -/
def lossMarks (d : Fin 2) (cause : Nat) (s : State) : State :=
  let u := raise Src.timeDomainLost d.val [w32 d.val, w32 cause] (event .quoEvt 0 (18 + d.val) (modDom d (.lostWith cause (nowCourse s)) s))
  let u := if cause = 6 then raise Src.timeFreqRange 0 [] u else u
  let o := qdom u (otherDom d)
  if o.lostCause ≠ 0 ∧ o.lostCourse = nowCourse s then u.modQuo fun q => { q with bothLost := true } else u

theorem loseDomain_tracked {d : Fin 2} {s : State} (h : domTracked s d = true) (cause : Nat) : loseDomain d cause s = lossServo d (lossMarks d cause s) :=
  if_pos h

theorem loseDomain_untracked {d : Fin 2} {s : State} (h : domTracked s d = false) (cause : Nat) : loseDomain d cause s = s :=
  if_neg (by rw [h]; decide)

/-- What the marks of a loss leave in each part that the servo and the claims look at. -/
structure LossMarked (d : Fin 2) (cause : Nat) (s t : State) : Prop where
  regs : t.regs = (event .quoEvt 0 (18 + d.val) s).regs
  btr : t.btr = s.btr
  own : qdom t d = (qdom s d).lostWith cause (nowCourse s)
  other : qdom t (otherDom d) = qdom s (otherDom d)
  servo : t.quo.servo = s.quo.servo
  active : t.quo.active = s.quo.active
  xoOk : t.quo.xoOk = s.quo.xoOk
  told : Reported Src.timeDomainLost d [w32 d, w32 cause] s t

theorem event_regs_congr {s t : State} (h : t.regs = s.regs) (r : Reg) (i b : Nat) : (event r i b t).regs = (event r i b s).regs := by
  rw [event_regs, event_regs]
  unfold modCell setCell
  rw [cell_regs h, h]

theorem lossMarks_marked (d : Fin 2) (cause : Nat) (s : State) : LossMarked d cause s (lossMarks d cause s) := by
  have first : LossMarked d cause s
      (raise Src.timeDomainLost d.val [w32 d.val, w32 cause] (event .quoEvt 0 (18 + d.val) (modDom d (.lostWith cause (nowCourse s)) s))) := by
    have hq := event_quo .quoEvt 0 (18 + d.val) (modDom d (.lostWith cause (nowCourse s)) s)
    obtain ⟨q1, q2, q3⟩ := modDom_servo d (.lostWith cause (nowCourse s)) s
    exact ⟨(raise_regs ..).trans (event_regs_congr (s := s) (t := modDom d _ s) rfl ..), event_btr .., (qdom_quo hq d).trans (qdom_modDom ..),
      (qdom_quo hq _).trans (qdom_modDom_other ..), (congrArg Quoin.servo hq).trans q1, (congrArg Quoin.active hq).trans q2,
      (congrArg Quoin.xoOk hq).trans q3, reported_raise (event_btr ..)⟩
  have second {u : State} (h : LossMarked d cause s u) : LossMarked d cause s (if cause = 6 then raise Src.timeFreqRange 0 [] u else u) := by
    split
    · exact ⟨h.regs, h.btr, h.own, h.other, h.servo, h.active, h.xoOk, h.told.raise ..⟩
    · exact h
  have third {u : State} {c : Prop} [Decidable c] (h : LossMarked d cause s u) :
      LossMarked d cause s (if c then u.modQuo fun q => { q with bothLost := true } else u) := by
    split
    · exact ⟨h.regs, h.btr, h.own, h.other, h.servo, h.active, h.xoOk, h.told⟩
    · exact h
  exact third (second first)

/-- R37: cause 6 is reported on its own too. -/
theorem lossMarks_freq (d : Fin 2) (s : State) : Reported Src.timeFreqRange 0 [] s (lossMarks d 6 s) := by
  have keep {u : State} {c : Prop} [Decidable c] (h : Reported Src.timeFreqRange 0 [] s u) :
      Reported Src.timeFreqRange 0 [] s (if c then u.modQuo fun q => { q with bothLost := true } else u) := by
    split <;> exact h
  exact keep (reported_raise (u := raise _ _ _ _) (event_btr ..))

/-- R37: what a loss does. -/
theorem loseDomain_lostBy {d : Fin 2} {s : State} (hs : Rises s.regs) (h : domTracked s d = true) (cause : Nat) :
    LostBy d cause s (loseDomain d cause s) ∧ qdom (loseDomain d cause s) d = (qdom s d).lostWith cause (nowCourse s) := by
  rw [loseDomain_tracked h]
  have hm := lossMarks_marked d cause s
  have hv := servoMove_lossServo d (lossMarks d cause s)
  have hown : qdom (lossServo d (lossMarks d cause s)) d = (qdom s d).lostWith cause (nowCourse s) := (hv.qdom_eq d).trans hm.own
  obtain ⟨h1, h2, h3, h4⟩ := lossServo_servo (d := d) (s := lossMarks d cause s) (by rw [hm.own]; exact nofun)
  rw [hm.servo, hm.active] at h1
  rw [hm.servo, hm.xoOk, hm.other] at h2
  rw [hm.servo, hm.active] at h3
  rw [hm.servo, hm.active, hm.xoOk, hm.other] at h4
  refine ⟨⟨by rw [hown]; rfl, by rw [hown]; rfl, by rw [hown]; rfl, (hv.qdom_eq _).trans hm.other, ?_, ?_, hm.told.mono hv.flying, h1, h2, h3, ?_⟩, hown⟩
  · exact (evented_event hs ..).keep (hv.regs.trans hm.regs)
  · exact regsKept_event hs (hv.regs.trans hm.regs)
  · intro ha hl
    obtain ⟨k1, k2⟩ := h4 ha hl
    exact ⟨fun ho => ⟨(k1 ho).1, (k1 ho).2.from hm.btr⟩, k2⟩

/-- A loss seen from before a change of the domain, or followed by one, that leaves what the claim is about. -/
theorem LostBy.of_modDom {d : Fin 2} {cause : Nat} {s t : State} {f : QDomain → QDomain} (h : LostBy d cause (modDom d f s) t) : LostBy d cause s t := by
  have ho := qdom_modDom_other d f s
  obtain ⟨q1, q2, q3⟩ := modDom_servo d f s
  unfold LostBy at h
  rw [q1, q2, q3, ho] at h
  exact h

theorem LostBy.modDom {d : Fin 2} {cause : Nat} {s t : State} {f : QDomain → QDomain} (h : LostBy d cause s t)
    (hf : ∀ q : QDomain, (f q).phase = q.phase ∧ (f q).lostCause = q.lostCause ∧ (f q).lostCourse = q.lostCourse) : LostBy d cause s (modDom d f t) := by
  obtain ⟨k1, k2, k3⟩ := hf (qdom t d)
  obtain ⟨hq, -⟩ := modDom_servo d f t
  unfold LostBy at *
  rw [qdom_modDom, qdom_modDom_other, k1, k2, k3, hq]
  exact h

/-- Settles O22. -/
theorem domainsTrack : Obligations.DomainsTrack := by
  intro d s hu hs
  refine ⟨fun hon hp => ?_, fun hr hp => ?_, fun ht => ?_, fun ht => ?_⟩
  · refine ⟨_, upNext_up hu, (signalDetect_does d s).only, ?_⟩
    unfold signalDetect
    rw [if_pos hon]
    rcases hp with hp | hp <;> rw [hp] <;> dsimp only [enterAligning] <;> rw [qdom_modDom, qdom_modDom_other]
    · exact ⟨rfl, rfl, (Bool.and_false _).symm, rfl⟩
    · exact ⟨hp, rfl, (Bool.and_true _).symm, rfl⟩
  · refine ⟨_, upNext_up hu, (alignCountDone_does d s).only, ?_⟩
    have : (linkReceives s d && (qdom s d).phase == .aligning) = true := by rw [hr, hp]; rfl
    unfold alignCountDone
    rw [if_pos this, qdom_modDom, qdom_modDom_other]
    exact ⟨rfl, rfl⟩
  · have lost (cause : Nat) := (loseDomain_lostBy hs.regs ht cause).1
    have unaligned {cause : Nat} : LostBy d cause s (modDom d (fun q => { q with aligned := false }) (loseDomain d cause s)) :=
      (lost cause).modDom fun _ => ⟨rfl, rfl, rfl⟩
    refine ⟨⟨_, upNext_up hu, unaligned, by unfold lossOfSignal; rw [qdom_modDom]⟩, ⟨_, upNext_up hu, unaligned, by unfold framingLoss; rw [qdom_modDom]⟩,
      ⟨_, upNext_up hu, lost 3⟩, fun ha => ⟨_, upNext_up hu, ?_⟩, ⟨_, upNext_up hu, lost 6, ?_⟩, fun c g hc hg => ⟨_, upNext_up hu, ?_⟩,
      fun n edges c g hr hc hn => ⟨_, upNext_up hu, ?_⟩⟩
    · unfold announceTimeout
      rw [if_pos ha]
      exact lost 4
    · rw [freqRange, loseDomain_tracked ht]
      exact (lossMarks_freq d s).mono (servoMove_lossServo d _).flying
    · unfold btCountTimeout
      rw [hc]
      dsimp only
      rw [if_pos hg]
      exact lost 8
    · unfold domainBtCount
      rw [if_pos hr]
      dsimp only
      rw [hc]
      dsimp only
      rw [if_neg (by rw [Nat.mod_eq_of_lt n.isLt, beq_eq_false_iff_ne.2 hn]; exact nofun)]
      refine LostBy.of_modDom (loseDomain_lostBy (s := modDom d _ s) hs.regs ?_ 7).1
      unfold domTracked
      rw [qdom_modDom]
      exact ht
  · have same (cause : Nat) := loseDomain_untracked ht cause
    have stays {f : State → State} (h : f s = s) : upNext f s = .next s := (upNext_up hu).trans (congrArg _ h)
    refine ⟨stays (same 3), stays ?_, stays (same 6), stays ?_⟩
    · unfold announceTimeout
      split
      · exact same 4
      · rfl
    · unfold btCountTimeout
      split
      · split
        · exact same 8
        · rfl
      · rfl

/-! ### Orbit starts (R26, R48) -/

/-- R26: the orbit that begins. -/
theorem beginOrbit_zero (s : State) :
    nowOrbit (beginOrbit 0 s) = (nowOrbit s + 1) % 2 ^ 48 ∧ nowBtInOrbit (beginOrbit 0 s) = 0 ∧
      (beginOrbit 0 s).quo = { s.quo with orbitLen := fld (cell s .quoOrbit) 15 0 } ∧
      (beginOrbit 0 s).btr = { s.btr with orbit := (beginOrbit 0 s).btr.orbit } := by
  have hv : (beginOrbit 0 s).btr.orbit.val.toNat = (nowOrbit s + 1) % 2 ^ 48 * 65536 := by
    show (Tri.move _ _).val.toNat = _
    rw [Tri.val_move, BitVec.toNat_ofNat]
    omega
  refine ⟨?_, ?_, rfl, rfl⟩
  · rw [nowOrbit, hv]; omega
  · rw [nowBtInOrbit, hv]; omega

/-- Settles O21. -/
theorem orbitStarts : Obligations.OrbitStarts := by
  intro s hu hs
  refine ⟨fun h => ⟨_, upNext_up hu, (orbitStart_does s).only, ?_⟩, fun h => (upNext_up hu).trans (congrArg _ (if_neg (by omega))), fun d hc ha hp hl => ?_⟩
  · have : orbitStart s = beginOrbit 0 s := by
      unfold orbitStart
      rw [if_pos h.ge, h, Nat.sub_self]
    rw [this]
    exact beginOrbit_zero s
  · refine ⟨_, upNext_up hu, ?_⟩
    have hg : (bit (cell s .quoCtl) 2 && decide (d = s.quo.active) && (qdom s d).phase == .locked && linkReceives s d) = true := by
      rw [hc, hl, hp, ha, decide_eq_true rfl]; rfl
    unfold orbitStartRx
    rw [if_pos hg]
    refine ⟨fun h => ?_, fun h hn => ?_, fun h hn => ?_⟩
    · rw [if_neg (by rw [h]; decide)]
      obtain ⟨h1, h2, h3, -⟩ := beginOrbit_zero (modDom d (fun q => { q with orbitSeen := true }) s)
      refine ⟨h1, h2, ?_, ((beginOrbit_does ..).step rfl ((modDom_does ..).widen rfl)).only⟩
      have : qdom (beginOrbit 0 (modDom d (fun q => { q with orbitSeen := true }) s)) d = qdom (modDom d (fun q => { q with orbitSeen := true }) s) d := by
        unfold qdom; rw [h3]
      rw [this, qdom_modDom]
    · rw [if_pos h, if_neg (by rw [hn]; decide)]
      exact ⟨reported_raise (event_btr ..), (evented_event hs.regs ..).keep (raise_regs ..), regsKept_event hs.regs (raise_regs ..),
        ((raise_does ..).step rfl ((event_does ..).widen rfl)).only⟩
    · rw [if_pos h, if_pos hn]

/-- Settles O24. -/
theorem servoMoves : Obligations.ServoMoves := by
  intro s hu hs
  refine ⟨fun hv hp => ⟨_, upNext_up hu, (acquireComplete_does s).only, ?_⟩, fun hv he hc => ⟨_, upNext_up hu, (holdExpired_does s).only.widen rfl, ?_⟩,
    ⟨_, upNext_up hu, (slewComplete_does s).only, rfl⟩, fun p hp hr => ⟨_, upNext_up hu, (dlSlewDone_does p s).only, ?_⟩⟩
  · unfold acquireComplete
    rw [if_pos (by rw [hv, hp]; rfl)]
    rfl
  · unfold holdExpired
    rw [if_pos (by rw [hv, he, decide_eq_true hc]; rfl)]
    have hr := event_regs_congr (s := s) (t := s.modQuo fun q => { q with holdExpired := true, worst := max q.worst 2 }) rfl .quoEvt 0 22
    exact ⟨(raise_quo ..).trans (event_quo ..), (evented_event hs.regs ..).keep ((raise_regs ..).trans hr),
      regsKept_event hs.regs ((raise_regs ..).trans hr), reported_raise (event_btr ..)⟩
  · unfold dlSlewDone partnerClock modClock
    refine (smGet_upd_rises hr ..).trans (if_pos hp)

end Sys2Proof.Machine
end

section
/-!
SUPPORT. IEEE 1588 messages and transmit stamps (R32 to R34, R36, R37, R46, R53 to R55), and the statement on them settled.
-/
namespace Sys2Proof.Machine

/-! ### A completed Sync (R36, R37) -/

/-- The Sync that has been judged, and its runs. -/
def QDomain.judged (r : SyncRec) (good bad : Bool) (q : QDomain) : QDomain :=
  { q with lastSync := some r, twoStepWait := none, goodSyncs := if good then q.goodSyncs + 1 else 0, badSyncs := if bad then q.badSyncs + 1 else 0 }

/-- R36: the Sync lies within 1 ns. -/
def syncGood (d : Fin 2) (r : SyncRec) (s : State) : Bool := (qdom s d).exchangeDone && decide ((syncOffset s d r).natAbs ≤ 65536)

/-- R37: the Sync lies outside the switch limit. -/
def syncBad (d : Fin 2) (r : SyncRec) (s : State) : Bool :=
  (qdom s d).exchangeDone && decide ((syncOffset s d r).natAbs > (cell s .quoSwitchMax).toNat * 100)

/-- The state with the Sync judged, before a third bad one in a row takes the domain. -/
def syncJudged (d : Fin 2) (r : SyncRec) (s : State) : State := modDom d (.judged r (syncGood d r s) (syncBad d r s)) s

theorem takeSync_eq (d : Fin 2) (r : SyncRec) (s : State) :
    takeSync d r s = if (qdom (syncJudged d r s) d).badSyncs ≥ 3 then loseDomain d 5 (syncJudged d r s) else syncJudged d r s := rfl

theorem domTracked_modDom {d : Fin 2} {f : QDomain → QDomain} (hf : ∀ q, (f q).phase = q.phase) (s : State) :
    domTracked (modDom d f s) d = domTracked s d := by
  unfold domTracked
  rw [qdom_modDom, hf]

/-- A judged Sync stands in the domain, lost or not. -/
theorem qdom_takeSync {d : Fin 2} {r : SyncRec} {s : State} (hs : Rises s.regs) :
    (qdom (takeSync d r s) d).lastSync = some r ∧ (qdom (takeSync d r s) d).twoStepWait = none ∧
      (qdom (takeSync d r s) d).goodSyncs = (if syncGood d r s then (qdom s d).goodSyncs + 1 else 0) ∧
      (qdom (takeSync d r s) d).badSyncs = (if syncBad d r s then (qdom s d).badSyncs + 1 else 0) := by
  have hj : qdom (syncJudged d r s) d = (qdom s d).judged r (syncGood d r s) (syncBad d r s) := qdom_modDom ..
  have here : (qdom (syncJudged d r s) d).lastSync = some r ∧ (qdom (syncJudged d r s) d).twoStepWait = none ∧
      (qdom (syncJudged d r s) d).goodSyncs = (if syncGood d r s then (qdom s d).goodSyncs + 1 else 0) ∧
      (qdom (syncJudged d r s) d).badSyncs = (if syncBad d r s then (qdom s d).badSyncs + 1 else 0) := by
    rw [hj]
    exact ⟨rfl, rfl, rfl, rfl⟩
  rw [takeSync_eq]
  split
  · cases ht : domTracked (syncJudged d r s) d with
    | true => rw [(loseDomain_lostBy (s := syncJudged d r s) hs ht 5).2]; exact here
    | false => rw [loseDomain_untracked ht]; exact here
  · exact here

theorem takeSync_few {d : Fin 2} {r : SyncRec} {s : State} (hs : Rises s.regs) (h : (qdom (takeSync d r s) d).badSyncs < 3) :
    takeSync d r s = syncJudged d r s := by
  rw [(qdom_takeSync hs).2.2.2] at h
  rw [takeSync_eq, syncJudged, qdom_modDom]
  exact if_neg (by unfold QDomain.judged; dsimp only; omega)

theorem takeSync_third {d : Fin 2} {r : SyncRec} {s : State} (hs : Rises s.regs) (h : (qdom (takeSync d r s) d).badSyncs ≥ 3)
    (ht : domTracked s d = true) : LostBy d 5 s (takeSync d r s) := by
  rw [(qdom_takeSync hs).2.2.2] at h
  have hb : (qdom (syncJudged d r s) d).badSyncs ≥ 3 := by rw [syncJudged, qdom_modDom]; exact h
  rw [takeSync_eq, if_pos hb]
  exact (loseDomain_lostBy (s := syncJudged d r s) hs ((domTracked_modDom (f := .judged r _ _) (fun _ => rfl) s).trans ht) 5).1.of_modDom

/-! ### Transmit stamps (R53, R54) -/

theorem pushStamp_room {t : TxStamp} {s : State} (h : s.quo.txq.length < 16) : (pushStamp t s).quo.txq = s.quo.txq ++ [t] ∧
    (pushStamp t s).quo.tx = s.quo.tx ∧ (∀ d, qdom (pushStamp t s) d = qdom s d) ∧ Only [.quo] s (pushStamp t s) := by
  unfold pushStamp
  rw [if_pos h]
  refine ⟨rfl, rfl, fun _ => rfl, ⟨fun z hz => ?_⟩⟩
  cases z <;> first | rfl | exact ⟨rfl, rfl⟩ | exact absurd (by decide) hz

/-- R54: a stamp that finds the queue full is lost. -/
theorem pushStamp_full {t : TxStamp} {s : State} (hs : Rises s.regs) (h : ¬ s.quo.txq.length < 16) :
    (pushStamp t s).quo.txq = s.quo.txq ∧ (pushStamp t s).quo.tx = s.quo.tx ∧ (∀ d, qdom (pushStamp t s) d = qdom s d) ∧
      cell (pushStamp t s) .quoTxqOvf = incSat (cell s .quoTxqOvf) 31 0 1 ∧ Evented .quoEvt 0 23 s (pushStamp t s) ∧
      RegsKept [(.quoEvt, 0, 0), (.quoTxqOvf, 0, 0)] s (pushStamp t s) ∧
      (s.quo.txqLosing = false → Reported Src.timeTxqOverflow 0 [] s (pushStamp t s)) := by
  have hc : Rises (count .quoTxqOvf 0 31 0 1 s).regs := rises_count hs ..
  have hr : (pushStamp t s).regs = (event .quoEvt 0 23 (count .quoTxqOvf 0 31 0 1 s)).regs := by
    unfold pushStamp
    rw [if_neg h]
    dsimp only
    split <;> rfl
  have hq : (event .quoEvt 0 23 (count .quoTxqOvf 0 31 0 1 s)).quo = s.quo := event_quo ..
  have hv : (pushStamp t s).quo.txq = s.quo.txq ∧ (pushStamp t s).quo.tx = s.quo.tx ∧ (pushStamp t s).quo.domA = s.quo.domA ∧
      (pushStamp t s).quo.domB = s.quo.domB := by
    unfold pushStamp
    rw [if_neg h]
    dsimp only
    split
    · rw [hq]; exact ⟨rfl, rfl, rfl, rfl⟩
    · rw [raise_quo, State.modQuo_quo, hq]; exact ⟨rfl, rfl, rfl, rfl⟩
  obtain ⟨h1, h2, h3, h4⟩ := hv
  refine ⟨h1, h2, fun d => by unfold qdom; rw [h3, h4], ?_, ?_, fun r i j hn => ?_, fun hl => ?_⟩
  · rw [cell_regs hr, cell_event_other hc _ _ _ (by decide +kernel), cell_count hs]
  · exact (evented_of (evented_event hc ..) (cell_count_other hs _ _ _ _ _ (by decide +kernel))).keep hr
  · rw [cell_regs hr, cell_event_other hc _ _ _ (hn (.quoEvt, 0, 0) (.head _)),
      cell_count_other hs _ _ _ _ _ (hn (.quoTxqOvf, 0, 0) (.tail _ (.head _)))]
  · unfold pushStamp
    rw [if_neg h]
    dsimp only
    rw [if_neg (by rw [hl]; decide)]
    exact reported_raise (event_btr ..)

/-! ### The rows of the messages (R33, R34, R46) -/

/-- R34: a Sync of one step for this domain is judged at once. -/
theorem syncMessage {d : Fin 2} {s : State} (hu : isUp s = true) (hs : TablesRise s) {m : PtpSync} (hp : ptpForUs s d m.domainNumber = true)
    (h2 : m.twoStep = false) (he : (qdom s d).exchangeDone = true) :
    ∃ (t : State) (off : Int), exec (.ieee1588Sync d m) s = .next t ∧
      off = timeUnits m.received - timeUnits m.origin - m.correction.toInt - (qdom s d).pathDelay - domAsym s d ∧
      (qdom t d).lastSync = some ⟨m.sequenceId.toNat, timeUnits m.received, timeUnits m.origin, m.correction.toInt⟩ ∧
      (qdom t d).goodSyncs = (if off.natAbs ≤ 65536 then (qdom s d).goodSyncs + 1 else 0) ∧
      (qdom t d).badSyncs = (if off.natAbs > (cell s .quoSwitchMax).toNat * 100 then (qdom s d).badSyncs + 1 else 0) ∧
      ((qdom t d).badSyncs < 3 → Only [.quo] s t ∧ (qdom t d).phase = (qdom s d).phase) ∧
      ((qdom t d).badSyncs ≥ 3 → domTracked s d = true → LostBy d 5 s t) := by
  let f : QDomain → QDomain := fun q => { q with syncCount := (q.syncCount + 1) % 65536, twoStep := m.twoStep }
  let r : SyncRec := ⟨m.sequenceId.toNat, timeUnits m.received, timeUnits m.origin, m.correction.toInt⟩
  have hf : qdom (modDom d f s) d = f (qdom s d) := qdom_modDom ..
  have hoff : syncOffset (modDom d f s) d r =
      timeUnits m.received - timeUnits m.origin - m.correction.toInt - (qdom s d).pathDelay - domAsym s d := by
    unfold syncOffset
    rw [hf]
    rfl
  have hg : syncGood d r (modDom d f s) = decide ((syncOffset (modDom d f s) d r).natAbs ≤ 65536) := by
    unfold syncGood
    rw [hf]
    exact (congrArg (· && _) he).trans (Bool.true_and _)
  have hb : syncBad d r (modDom d f s) = decide ((syncOffset (modDom d f s) d r).natAbs > (cell s .quoSwitchMax).toNat * 100) := by
    unfold syncBad
    rw [hf]
    exact (congrArg (· && _) he).trans (Bool.true_and _)
  have ht : ptpSync d m s = takeSync d r (modDom d f s) := by
    unfold ptpSync
    rw [if_pos hp]
    exact if_neg (by rw [h2]; decide)
  obtain ⟨k1, -, k3, k4⟩ := qdom_takeSync (d := d) (r := r) (s := modDom d f s) hs.regs
  simp only [hg, hb, hoff, decide_eq_true_eq] at k3 k4
  rw [hf] at k3 k4
  refine ⟨_, _, upNext_up hu, rfl, ?_⟩
  rw [ht]
  refine ⟨k1, k3, k4, fun h => ?_, fun h hd => ?_⟩
  · rw [takeSync_few (s := modDom d f s) hs.regs h, syncJudged]
    refine ⟨((modDom_does ..).step rfl (modDom_does ..)).only, ?_⟩
    rw [qdom_modDom, hf]
    rfl
  · exact (takeSync_third (s := modDom d f s) hs.regs h ((domTracked_modDom (f := f) (fun _ => rfl) s).trans hd)).of_modDom

/-- R34: a Delay_Req that is sent, with the stamp that it leaves. -/
theorem delayReqSend_sent {d : Fin 2} {s : State} (hs : TablesRise s) (hl : linkReceives s d = true) (sent : AbsTime) :
    (qdom (delayReqSend d sent s) d).dreqSent = some ((qdom s d).dreqNext, timeUnits sent) ∧
      (qdom (delayReqSend d sent s) d).dreqNext = ((qdom s d).dreqNext + 1) % 65536 ∧
      (bit (cell s .quoCtl) 3 = true → s.quo.txq.length < 16 →
        (delayReqSend d sent s).quo.txq = s.quo.txq ++ [⟨d, 1, (qdom s d).dreqNext, sent⟩]) ∧
      (bit (cell s .quoCtl) 3 = false → (delayReqSend d sent s).quo.txq = s.quo.txq) := by
  let f : QDomain → QDomain := fun q => { q with dreqNext := ((qdom s d).dreqNext + 1) % 65536, dreqSent := some ((qdom s d).dreqNext, timeUnits sent) }
  let x : TxStamp := ⟨d, 1, (qdom s d).dreqNext, sent⟩
  have hf : qdom (modDom d f s) d = f (qdom s d) := qdom_modDom ..
  have hq : (modDom d f s).quo.txq = s.quo.txq := by fin_cases d <;> rfl
  have hd : delayReqSend d sent s = if bit (cell s .quoCtl) 3 then pushStamp x (modDom d f s) else modDom d f s := if_pos hl
  have hk : qdom (pushStamp x (modDom d f s)) d = f (qdom s d) := by
    by_cases h : (modDom d f s).quo.txq.length < 16
    · rw [(pushStamp_room h).2.2.1, hf]
    · rw [(pushStamp_full (s := modDom d f s) hs.regs h).2.2.1, hf]
  rw [hd]
  cases bit (cell s .quoCtl) 3 with
  | true =>
    rw [if_pos rfl, hk]
    exact ⟨rfl, rfl, fun _ h => by rw [(pushStamp_room (by rw [hq]; exact h)).1, hq], nofun⟩
  | false =>
    rw [if_neg (by decide), hf]
    exact ⟨rfl, rfl, nofun, fun _ => hq⟩

/-- Messages of a receiving link (R32 to R34, R36, R37, R46). -/
theorem messagesTaken (d : Fin 2) (s : State) (hu : isUp s = true) (hs : TablesRise s) :
    (∀ m : PtpSync, ptpForUs s d m.domainNumber = true → m.twoStep = true →
      ∃ t : State, exec (.ieee1588Sync d m) s = .next t ∧ Only [.quo] s t ∧ (qdom t d).goodSyncs = (qdom s d).goodSyncs ∧
        (qdom t d).twoStepWait = some ⟨m.sequenceId.toNat, timeUnits m.received, timeUnits m.origin, m.correction.toInt⟩) ∧
    (∀ (m : PtpFollowUp) (r : SyncRec), ptpForUs s d m.domainNumber = true → (qdom s d).twoStepWait = some r → r.sequenceId = m.sequenceId.toNat →
      ∃ t : State, exec (.ieee1588FollowUp d m) s = .next t ∧ (qdom t d).twoStepWait = none ∧
        (qdom t d).lastSync = some { r with origin := timeUnits m.origin, correction := r.correction + m.correction.toInt }) ∧
    (∀ (m : PtpDelayResp) (t3 : Int) (r : SyncRec), ptpForUs s d m.domainNumber = true → m.ours = true →
      (qdom s d).dreqSent = some (m.sequenceId.toNat, t3) → (qdom s d).lastSync = some r →
      ∃ t : State, exec (.ieee1588DelayResp d m) s = .next t ∧ Only [.quo] s t ∧ (qdom t d).exchangeDone = true ∧ (qdom t d).dreqSent = none ∧
        (qdom t d).pathDelay = ((r.received - t3) + (timeUnits m.received - r.origin) - (r.correction + domAsym s d) - m.correction.toInt) / 2) ∧
    (∀ m : PtpAnnounce, ptpForUs s d m.domainNumber = true → m.ptpTimescale = true ∨ bit (cell s .quoDomCfg d) 17 = true →
      ∃ t : State, exec (.ieee1588Announce d m) s = .next t ∧ Only [.quo] s t ∧ (qdom t d).announced = true ∧
        (qdom t d).announceLog = m.logInterval.toInt) := by
  refine ⟨fun m hp h2 => ⟨_, upNext_up hu, ?_⟩, fun m r hp hw hq => ⟨_, upNext_up hu, ?_⟩, fun m t3 r hp ho hd hr => ⟨_, upNext_up hu, ?_⟩,
    fun m hp ha => ⟨_, upNext_up hu, ?_⟩⟩
  · unfold ptpSync
    rw [if_pos hp]
    dsimp only
    rw [if_pos h2, qdom_modDom, qdom_modDom]
    exact ⟨((modDom_does ..).step rfl (modDom_does ..)).only, rfl, rfl⟩
  · unfold ptpFollowUp
    rw [if_pos hp, hw]
    dsimp only
    rw [if_pos hq]
    obtain ⟨h1, h2, -⟩ := qdom_takeSync (d := d) (s := s) hs.regs
    exact ⟨h2, h1⟩
  · unfold ptpDelayResp
    rw [if_pos (by rw [hp, ho]; rfl), hd]
    dsimp only
    rw [if_pos rfl, qdom_modDom, hr]
    exact ⟨(modDom_does ..).only, rfl, rfl, rfl⟩
  · have : (ptpForUs s d m.domainNumber && (m.ptpTimescale || bit (cell s .quoDomCfg d) 17)) = true := by
      rw [hp]
      rcases ha with ha | ha <;> simp [ha]
    unfold ptpAnnounce
    rw [if_pos this, qdom_modDom]
    exact ⟨(modDom_does ..).only, rfl, rfl⟩

/-- Messages of another domain number, BT counts that agree, bad messages (R32, R34, R46). -/
theorem messagesLeft (d : Fin 2) (s : State) (hu : isUp s = true) (hl : linkReceives s d = true) :
    (∀ (m : PtpSync) (f : PtpFollowUp) (r : PtpDelayResp) (a : PtpAnnounce), ptpForUs s d m.domainNumber = false →
      ptpForUs s d f.domainNumber = false → ptpForUs s d r.domainNumber = false → ptpForUs s d a.domainNumber = false →
      exec (.ieee1588Sync d m) s = .next s ∧ exec (.ieee1588FollowUp d f) s = .next s ∧ exec (.ieee1588DelayResp d r) s = .next s ∧
        exec (.ieee1588Announce d a) s = .next s) ∧
    (∀ (n : BitVec 64) (edges : Nat), (∀ c g : Nat, (qdom s d).lastCount = some (c, g) → (c + edges) % 2 ^ 64 = n.toNat) →
      ((qdom s d).phase = .locked → (qdom s d).offsetValid = true → n - BitVec.ofNat 64 (nowGbt s) = (qdom s d).offset) →
      ∃ t : State, exec (.domainBtCount d n edges) s = .next t ∧ Only [.quo] s t ∧ qdom t d = { qdom s d with lastCount := some (n.toNat, nowGbt s) }) ∧
    (∃ t : State, exec (.timeMsgBad d) s = .next t ∧ Only [.flt, .quo] s t ∧ (qdom t d).badMsg = min 15 ((qdom s d).badMsg + 1) ∧
      Reported Src.timeMsgBad 0 [] s t) := by
  have stays {f : State → State} (h : f s = s) : upNext f s = .next s := (upNext_up hu).trans (congrArg _ h)
  refine ⟨fun m f r a hm hf hr ha => ⟨stays (if_neg (by rw [hm]; decide)), stays (if_neg (by rw [hf]; decide)), stays (if_neg (by rw [hr]; exact nofun)),
    stays (if_neg (by rw [ha]; exact nofun))⟩, fun n edges hc ho => ⟨_, upNext_up hu, ?_⟩, ⟨_, upNext_up hu, ?_⟩⟩
  · have he : (match (qdom s d).lastCount with
        | some (c, _) => (c + edges) % 2 ^ 64 == n.toNat % 2 ^ 64
        | none => true) = true := by
      cases h : (qdom s d).lastCount with
      | none => rfl
      | some x => exact beq_iff_eq.2 ((hc x.1 x.2 h).trans (Nat.mod_eq_of_lt n.isLt).symm)
    have hk : (!((qdom s d).phase == .locked && (qdom s d).offsetValid) || BitVec.ofNat 64 n.toNat - BitVec.ofNat 64 (nowGbt s) == (qdom s d).offset) =
        true := by
      rw [BitVec.ofNat_toNat, BitVec.setWidth_eq]
      by_cases hp : (qdom s d).phase = .locked ∧ (qdom s d).offsetValid = true
      · rw [ho hp.1 hp.2, beq_self_eq_true, Bool.or_true]
      · rw [Bool.or_eq_true]
        left
        rw [Bool.not_eq_true', Bool.and_eq_false_iff, beq_eq_false_iff_ne, ← Bool.not_eq_true]
        exact not_and_or.1 hp
    have hb : domainBtCount d n.toNat edges s = modDom d (fun q => { q with lastCount := some (n.toNat % 2 ^ 64, nowGbt s) }) s := by
      unfold domainBtCount
      rw [if_pos hl]
      dsimp only
      exact if_pos (by rw [Bool.and_eq_true]; exact ⟨he, hk⟩)
    rw [hb, qdom_modDom, Nat.mod_eq_of_lt n.isLt]
    exact ⟨(modDom_does ..).only, rfl⟩
  · unfold msgBad
    rw [if_pos hl]
    refine ⟨((raise_does ..).step rfl ((modDom_does ..).widen rfl)).only, ?_, reported_raise rfl⟩
    rw [qdom_quo (raise_quo ..), qdom_modDom]

/-! ### Host messages and their stamps (R53 to R55) -/

/-- R55: the end of a host message. -/
theorem txDone_done {s : State} (hs : TablesRise s) {j : TxJob} (h : s.quo.tx = some j) (sent : AbsTime) :
    (txDone sent s).quo.tx = none ∧ (j.stamp = false → (txDone sent s).quo.txq = s.quo.txq ∧ Only [.quo] s (txDone sent s)) ∧
      (j.stamp = true → s.quo.txq.length < 16 → Only [.quo] s (txDone sent s) ∧
        (txDone sent s).quo.txq = s.quo.txq ++ [⟨j.domain, (j.bytes.getD 0 0).toNat % 16, beNat ((j.bytes.drop 30).take 2), sent⟩]) ∧
      (j.stamp = true → ¬ s.quo.txq.length < 16 → (txDone sent s).quo.txq = s.quo.txq ∧
        cell (txDone sent s) .quoTxqOvf = incSat (cell s .quoTxqOvf) 31 0 1 ∧ Evented .quoEvt 0 23 s (txDone sent s) ∧
        RegsKept [(.quoEvt, 0, 0), (.quoTxqOvf, 0, 0)] s (txDone sent s) ∧
        (s.quo.txqLosing = false → Reported Src.timeTxqOverflow 0 [] s (txDone sent s))) := by
  let u : State := s.modQuo fun q => { q with tx := none }
  let x : TxStamp := ⟨j.domain, (j.bytes.getD 0 0).toNat % 16, beNat ((j.bytes.drop 30).take 2), sent⟩
  have hu : Only [.quo] s u := ⟨fun z hz => by cases z <;> first | rfl | exact ⟨rfl, rfl⟩ | exact absurd (by decide) hz⟩
  have ht : txDone sent s = if j.stamp then pushStamp x u else u := by
    unfold txDone
    rw [h]
  rw [ht]
  cases j.stamp with
  | false => exact ⟨rfl, fun _ => ⟨rfl, hu⟩, nofun, nofun⟩
  | true =>
    rw [if_pos rfl]
    by_cases hl : s.quo.txq.length < 16
    · obtain ⟨h1, h2, -, h4⟩ := pushStamp_room (t := x) (s := u) hl
      exact ⟨h2, nofun, fun _ _ => ⟨hu.trans h4, h1⟩, fun _ hn => absurd hl hn⟩
    · obtain ⟨h1, h2, -, h4, h5, h6, h7⟩ := pushStamp_full (t := x) (s := u) hs.regs hl
      exact ⟨h2, nofun, fun _ hk => absurd hk hl, fun _ _ => ⟨h1, h4, h5, h6, h7⟩⟩

/-- The bytes to send are read from QUO_TX_BUF, which a write of QUO_TX_CTL leaves. -/
theorem txBufBytes_setCell {s : State} (hs : Rises s.regs) (w : Word) : txBufBytes (setCell .quoTxCtl 0 0 w s) = txBufBytes s := by
  unfold txBufBytes
  refine List.flatMap_congr fun i hi => ?_
  have : ∀ i < 16, regOff .quoTxBuf i 0 ≠ regOff .quoTxCtl 0 0 := by decide +kernel
  rw [cell_setCell_other hs _ (this i (List.mem_range.1 hi))]

theorem snapBank_snapBegin {s : State} (h : TablesRise s) (p : Fin 2) (b : Nat) (w : SnapWait) :
    snapBank (snapBegin p b w s) p b = { snapBank s p b with valid := false, waiting := some w } := snapBank_modBank h ..

/-- R53: the oldest stamp leaves the queue for the bank of the port that asks. -/
theorem txqPop_taken {s : State} (hs : TablesRise s) (p : Fin 2) :
    (txqPop p s).quo = { s.quo with txq := s.quo.txq.tail } ∧
      snapBank (txqPop p s) p 0 = { snapBank s p 0 with valid := false, waiting := some ⟨6, 0, some (stampCapture s.quo.txq.head?)⟩ } := by
  have hd : Does [.quo] s (s.modQuo fun q => { q with txq := q.txq.tail }) :=
    Does.put_quo rfl (fun h => (List.length_tail ▸ (Nat.sub_le ..).trans h)) (Does.refl _ s)
  exact ⟨(modBank_does ..).only.same .quo (by decide), snapBank_snapBegin (hd.tables hs) ..⟩

/-- Settles O23. -/
theorem timeMessages : Obligations.TimeMessages := by
  refine ⟨fun d s hu hs hl => ?_, fun s hu hs => ⟨fun p w h hb h1 h2 => ?_, fun sent j h => ⟨_, upNext_up hu, txDone_done hs h sent⟩, fun p w h hb => ?_⟩⟩
  · obtain ⟨k1, k2, k3, k4⟩ := messagesTaken d s hu hs
    obtain ⟨k5, k6, k7⟩ := messagesLeft d s hu hl
    exact ⟨k1, fun m hp h2 he => syncMessage hu hs hp h2 he, k2, k3, k4, k5, k6, k7, fun sent => ⟨_, upNext_up hu, delayReqSend_sent hs hl sent⟩⟩
  · refine ⟨_, hostRow_may h at_quoTxCtl, ?_⟩
    rw [writeReg_plain (by decide) (by decide) (by decide)]
    dsimp only [writeEffect]
    unfold quoTxCtlWrite
    dsimp only
    rw [txBufBytes_setCell hs.regs]
    have hq : (setCell .quoTxCtl 0 0 (mergeMask (storeMask .quoTxCtl) (cell s .quoTxCtl) w) s).quo = s.quo := rfl
    rw [hq, hb, decide_eq_true h1, decide_eq_true h2, Bool.and_true, Bool.and_true, Bool.true_and]
    split
    · rw [State.modQuo_quo, hq]
    · rw [hq]
  · refine ⟨_, hostRow_may h at_quoTxqPop, ?_⟩
    rw [writeReg_plain (by decide) (by decide) (by decide)]
    dsimp only [writeEffect]
    rw [if_pos hb]
    obtain ⟨hq, hk⟩ := txqPop_taken ((setCell_does .quoTxqPop 0 0 (mergeMask (storeMask .quoTxqPop) (cell s .quoTxqPop) w) s).tables hs) p
    rw [hk]
    exact ⟨hq, rfl, rfl⟩

end Sys2Proof.Machine
end

section
/-!
SUPPORT. Elements read after a change of one of them: lanes, downlinks, partners, table groups, engines; and sorted lists of numbers.
-/
namespace Sys2Proof.Machine

/-! ### Access by number after a change -/

theorem lane_modLane {s : State} (hs : Rises s.lanes) (k : Nat) (f : Lane → Lane) : lane (modLane k f s) k = f (lane s k) := smGet_upd_rises hs ..

theorem lane_modLane_other {s : State} (hs : Rises s.lanes) {k q : Nat} (h : q ≠ k) (f : Lane → Lane) : lane (modLane k f s) q = lane s q :=
  smGet_upd_other hs _ _ _ _ _ h

theorem lane_of {s t : State} (h : t.lanes = s.lanes) (k : Nat) : lane t k = lane s k := by unfold lane; rw [h]

theorem rises_modLane {s : State} (hs : Rises s.lanes) (k : Nat) (f : Lane → Lane) : Rises (modLane k f s).lanes := rises_upd hs

theorem downlink_modDl {s : State} (hs : Rises s.downlinks) (k : Nat) (f : Downlink → Downlink) : downlink (modDl k f s) k = f (downlink s k) := smGet_upd_rises hs ..

theorem downlink_modDl_other {s : State} (hs : Rises s.downlinks) {k q : Nat} (h : q ≠ k) (f : Downlink → Downlink) : downlink (modDl k f s) q = downlink s q :=
  smGet_upd_other hs _ _ _ _ _ h

theorem downlink_of {s t : State} (h : t.downlinks = s.downlinks) (k : Nat) : downlink t k = downlink s k := by unfold downlink; rw [h]

theorem rises_modDl {s : State} (hs : Rises s.downlinks) (k : Nat) (f : Downlink → Downlink) : Rises (modDl k f s).downlinks := rises_upd hs

theorem partner_modPartner {s : State} (hs : Rises s.partners) (k : Nat) (f : Partner → Partner) : partner (modPartner k f s) k = f (partner s k) := smGet_upd_rises hs ..

theorem partner_modPartner_other {s : State} (hs : Rises s.partners) {k q : Nat} (h : q ≠ k) (f : Partner → Partner) : partner (modPartner k f s) q = partner s q :=
  smGet_upd_other hs _ _ _ _ _ h

theorem partner_of {s t : State} (h : t.partners = s.partners) (k : Nat) : partner t k = partner s k := by unfold partner; rw [h]

theorem rises_modPartner {s : State} (hs : Rises s.partners) (k : Nat) (f : Partner → Partner) : Rises (modPartner k f s).partners := rises_upd hs

theorem tgroup_modGroup {s : State} (hs : Rises s.groups) (k : Nat) (f : TableGroup → TableGroup) : tgroup (modGroup k f s) k = f (tgroup s k) := smGet_upd_rises hs ..

theorem tgroup_modGroup_other {s : State} (hs : Rises s.groups) {k q : Nat} (h : q ≠ k) (f : TableGroup → TableGroup) : tgroup (modGroup k f s) q = tgroup s q :=
  smGet_upd_other hs _ _ _ _ _ h

theorem tgroup_of {s t : State} (h : t.groups = s.groups) (k : Nat) : tgroup t k = tgroup s k := by unfold tgroup; rw [h]

theorem rises_modGroup {s : State} (hs : Rises s.groups) (k : Nat) (f : TableGroup → TableGroup) : Rises (modGroup k f s).groups := rises_upd hs

theorem engine_modEngine {s : State} (hs : Rises s.ash.engines) (e : Nat) (f : Engine → Engine) : engine (modEngine e f s) e = f (engine s e) :=
  smGet_upd_rises hs ..

theorem engine_modEngine_other {s : State} (hs : Rises s.ash.engines) {e q : Nat} (h : q ≠ e) (f : Engine → Engine) :
    engine (modEngine e f s) q = engine s q := smGet_upd_other hs _ _ _ _ _ h

theorem engine_of {s t : State} (h : t.ash = s.ash) (k : Nat) : engine t k = engine s k := by unfold engine; rw [h]

/-- What a binding and a lane's own word for its partner fix: the lane's index. -/
theorem laneIndex_of {s t : State} {l : Nat} (h : (lane t l).partner = (lane s l).partner) (hp : t.partners = s.partners) :
    laneIndex t l = laneIndex s l := by
  unfold laneIndex partner
  rw [h, hp]

/-! ### Ordered lists of numbers -/

theorem mem_insertBy {α : Type} {le : α → α → Bool} {a x : α} {l : List α} : x ∈ insertBy le a l ↔ x = a ∨ x ∈ l := by
  induction l with
  | nil => simp [insertBy]
  | cons b t ih =>
    unfold insertBy
    split
    · simp
    · simp [ih, or_left_comm]

theorem mem_sortBy {α : Type} {le : α → α → Bool} {x : α} {l : List α} : x ∈ sortBy le l ↔ x ∈ l := by
  unfold sortBy
  induction l with
  | nil => rfl
  | cons b t ih => rw [List.foldr_cons, mem_insertBy, ih, List.mem_cons]

theorem mem_sortNat {x : Nat} {l : List Nat} : x ∈ sortNat l ↔ x ∈ l := mem_sortBy

/-! ### Counters and events together -/

/-- A count in a register entry that an event leaves. -/
theorem cell_count_event {s : State} (hs : Rises s.regs) {r q : Reg} {i k b hi lo n : Nat} (h : regOff q k ≠ regOff r i) :
    cell (count q k hi lo n (event r i b s)) q k = incSat (cell s q k) hi lo n := by
  rw [cell_count (rises_event hs ..), cell_event_other hs _ _ _ h]

end Sys2Proof.Machine
end

section
/-!
SUPPORT. Bed lanes (R67, R75 to R82, R84): what each change of a lane's state leaves of it and of every other lane, and the statement on bring-up settled.
-/
namespace Sys2Proof.Machine

/-! ### The lane in TRAIN, DETECT and DOWN -/

def Lane.trained (x : Lane) : Lane :=
  { x with phase := .train, warm := x.tapsHeld, cdr := false, sync := false, waitBind := false, run := 0, adapting := true }
def Lane.detecting (x : Lane) : Lane := { x with phase := .detect, cdr := false, sync := false, waitBind := false, run := 0 }
def Lane.downed (x : Lane) : Lane :=
  { x with phase := .down, signal := false, cdr := false, sync := false, waitBind := false, run := 0, adapting := false }

def Lane.synced (x : Lane) : Lane := { x with phase := .exchange, sync := true, run := 0, lastRecord := none, mismatchRaised := false }

/-- Lane `l` becomes `x`, and no other lane changes. -/
def LaneTo (l : Nat) (x : Lane) (s t : State) : Prop := lane t l = x ∧ ∀ k : Nat, k ≠ l → lane t k = lane s k

theorem LaneTo.refl (l : Nat) (s : State) : LaneTo l (lane s l) s s := ⟨rfl, fun _ _ => rfl⟩

theorem LaneTo.trans {l : Nat} {x y : Lane} {s t u : State} (h : LaneTo l x s t) (k : LaneTo l y t u) : LaneTo l y s u :=
  ⟨k.1, fun q hq => (k.2 q hq).trans (h.2 q hq)⟩

theorem LaneTo.keep {l : Nat} {x : Lane} {s t u : State} (h : LaneTo l x s t) (k : u.lanes = t.lanes) : LaneTo l x s u :=
  ⟨(lane_of k l).trans h.1, fun q hq => (lane_of k q).trans (h.2 q hq)⟩

theorem laneTo_modLane {s : State} (hs : Rises s.lanes) (l : Nat) (f : Lane → Lane) : LaneTo l (f (lane s l)) s (modLane l f s) :=
  ⟨lane_modLane hs .., fun _ hq => lane_modLane_other hs hq _⟩

theorem restartDue_lanes (l : Nat) (s : State) : (restartDue l s).lanes = s.lanes := (restartDue_does l s).only.same .lanes (by decide)

theorem laneTo_enterTrain {s : State} (hs : Rises s.lanes) (l : Nat) : LaneTo l (lane s l).trained s (enterTrain l s) :=
  (laneTo_modLane hs l Lane.trained).keep (restartDue_lanes ..)

theorem laneTo_enterDetect {s : State} (hs : Rises s.lanes) (l : Nat) : LaneTo l (lane s l).detecting s (enterDetect l s) := laneTo_modLane hs l _

theorem laneTo_enterDown {s : State} (hs : Rises s.lanes) (l : Nat) : LaneTo l (lane s l).downed s (enterDown l s) := laneTo_modLane hs l _

/-- R77, R107: the lane's restart request is due on its partner's downlink. -/
theorem restartDue_due {s : State} (hd : Rises s.downlinks) {l p : Nat} (h : (lane s l).partner = some p) :
    laneIndex s l ∈ (downlink (restartDue l s) p).restarts := by
  unfold restartDue
  rw [h]
  dsimp only
  rw [downlink_modDl hd]
  exact mem_sortNat.2 (List.mem_cons_self ..)

/-! ### Bring-up (R75 to R77) -/

/-- R75, R76: signal in DETECT. -/
theorem laneSignalDetect_detect {s : State} (hs : TablesRise s) {l : Nat} (h : (lane s l).phase = .detect) :
    LaneTo l { (lane s l).trained with signal := true } s (laneSignalDetect l s) ∧
      ∀ p : Nat, (lane s l).partner = some p → laneIndex s l ∈ (downlink (laneSignalDetect l s) p).restarts := by
  let u := modLane l (fun x => { x with signal := true }) s
  have h1 : LaneTo l { lane s l with signal := true } s u := laneTo_modLane hs.lanes ..
  have h2 := laneTo_modLane (rises_modLane hs.lanes l fun x => { x with signal := true }) l Lane.trained
  have he : laneSignalDetect l s = enterTrain l u := by
    unfold laneSignalDetect
    rw [h]
  rw [he]
  refine ⟨?_, fun p hp => ?_⟩
  · have := h1.trans (laneTo_enterTrain (rises_modLane hs.lanes ..) l)
    rw [h1.1] at this
    exact this
  · have hk : (lane (modLane l Lane.trained u) l).partner = (lane s l).partner := by rw [h2.1, h1.1]; rfl
    rw [← laneIndex_of hk rfl]
    exact restartDue_due (s := modLane l Lane.trained u) hs.downlinks (hk.trans hp)

theorem laneSignalDetect_lane {s : State} (hs : TablesRise s) (l : Nat) :
    (∀ k : Nat, k ≠ l → lane (laneSignalDetect l s) k = lane s k) ∧
      ((lane s l).phase = .detect → (lane (laneSignalDetect l s) l).phase = .train ∧ (lane (laneSignalDetect l s) l).signal = true ∧
        (lane (laneSignalDetect l s) l).warm = (lane s l).tapsHeld ∧
        ∀ p : Nat, (lane s l).partner = some p → laneIndex s l ∈ (downlink (laneSignalDetect l s) p).restarts) ∧
      ((lane s l).phase = .down → laneSignalDetect l s = s) ∧
      ((lane s l).phase ≠ .detect → (lane s l).phase ≠ .down →
        lane (laneSignalDetect l s) l = { lane s l with signal := true } ∧ (laneSignalDetect l s).downlinks = s.downlinks) := by
  by_cases hd : (lane s l).phase = .detect
  · obtain ⟨⟨h1, h2⟩, h3⟩ := laneSignalDetect_detect hs hd
    refine ⟨h2, fun _ => ?_, fun h => (nomatch hd.symm.trans h), fun h => absurd hd h⟩
    rw [h1]
    exact ⟨rfl, rfl, rfl, h3⟩
  · by_cases hn : (lane s l).phase = .down
    · have he : laneSignalDetect l s = s := by unfold laneSignalDetect; rw [hn]
      rw [he]
      exact ⟨fun _ _ => rfl, fun h => absurd h hd, fun _ => rfl, fun _ h => absurd hn h⟩
    · have he : laneSignalDetect l s = modLane l (fun x => { x with signal := true }) s := by
        unfold laneSignalDetect
        split <;> first | rfl | contradiction
      obtain ⟨h1, h2⟩ := laneTo_modLane hs.lanes l fun x => { x with signal := true }
      rw [he]
      exact ⟨h2, fun h => absurd h hd, fun h => absurd h hn, fun _ _ => ⟨h1, rfl⟩⟩

/-- R75: a training attempt that fails. -/
theorem trainFail_fails {s : State} (hs : TablesRise s) (l : Fin 256) (code : Nat) :
    LaneTo l { (lane s l).detecting with failArmed := false } s (trainFail l code s) ∧ Evented .bedLaneEvt l 18 s (trainFail l code s) ∧
      cell (trainFail l code s) .bedLaneCnt l = incSat (cell s .bedLaneCnt l) 23 16 1 ∧
      RegsKept [(.bedLaneEvt, l, 0), (.bedLaneCnt, l, 0)] s (trainFail l code s) ∧
      ((lane s l).failArmed = true → Reported Src.bedTrainFail l [w32 l, w32 code] s (trainFail l code s)) ∧
      ((lane s l).failArmed = false → (trainFail l code s).flt = s.flt) := by
  let u := count .bedLaneCnt l 23 16 1 (event .bedLaneEvt l 18 s)
  let v := if (lane s l).failArmed then raise Src.bedTrainFail l [w32 l, w32 code] u else u
  have hne : ∀ l : Fin 256, regOff .bedLaneCnt l ≠ regOff .bedLaneEvt l := by decide +kernel
  have hr : (trainFail l code s).regs = u.regs := by
    show v.regs = u.regs
    unfold v
    split <;> rfl
  have hv : v.lanes = s.lanes := by
    unfold v
    split <;> exact event_lanes ..
  have he : Rises (event .bedLaneEvt l 18 s).regs := rises_event hs.regs ..
  have h1 : LaneTo l { lane s l with failArmed := false } s (modLane l (fun x => { x with failArmed := false }) v) := by
    have := ((LaneTo.refl l s).keep hv).trans (laneTo_modLane (hv ▸ hs.lanes) l fun x => { x with failArmed := false })
    rw [lane_of hv] at this
    exact this
  have h2 := h1.trans (laneTo_enterDetect (rises_modLane (hv ▸ hs.lanes) ..) l)
  rw [h1.1] at h2
  refine ⟨h2, ?_, ?_, fun r i j hn => ?_, fun h => ?_, fun h => ?_⟩
  · refine Evented.keep (u := u) ?_ hr
    unfold Evented
    rw [cell_count_other he _ _ _ _ _ (hne l).symm]
    exact cell_event hs.regs ..
  · rw [cell_regs hr]
    exact cell_count_event hs.regs (hne l)
  · rw [cell_regs hr, cell_count_other he _ _ _ _ _ (hn (.bedLaneCnt, l, 0) (.tail _ (.head _))),
      cell_event_other hs.regs _ _ _ (hn (.bedLaneEvt, l, 0) (.head _))]
  · have : Reported Src.bedTrainFail l [w32 l, w32 code] s v := by
      unfold v
      rw [if_pos h]
      exact reported_raise (event_btr ..)
    exact this
  · show v.flt = s.flt
    unfold v
    rw [if_neg (by rw [h]; decide)]
    exact event_flt ..

/-- Settles O33. -/
theorem laneBringUp : Obligations.LaneBringUp := by
  intro l s hu hs
  refine ⟨⟨_, upNext_up hu, (laneSignalDetect_does l s).only, laneSignalDetect_lane hs l⟩, ⟨_, upNext_up hu, (laneTrainDone_does l s).only, ?_⟩,
    ⟨_, upNext_up hu, (laneSyncAcquired_does l s).only, ?_⟩, fun row code h => ?_, fun he hw => ?_⟩
  · unfold laneTrainDone
    by_cases h : (lane s l).phase = .train
    · obtain ⟨h1, h2⟩ := laneTo_modLane hs.lanes l fun x => { x with phase := .lock, cdr := true, tapsHeld := true }
      rw [if_pos (beq_iff_eq.2 h)]
      exact ⟨h2, fun _ => h1, fun k => absurd h k⟩
    · rw [if_neg (fun k => h (beq_iff_eq.1 k))]
      exact ⟨fun _ _ => rfl, fun k => absurd k h, fun _ => rfl⟩
  · unfold laneSyncAcquired
    by_cases h : (lane s l).phase = .lock
    · obtain ⟨h1, h2⟩ := (laneTo_modLane hs.lanes l Lane.synced).keep (u := count .bedLaneErr l 15 8 1 (modLane l Lane.synced s)) rfl
      have hr : Rises (modLane l Lane.synced s).regs := hs.regs
      rw [if_pos (beq_iff_eq.2 h)]
      refine ⟨h2, fun _ => ?_, fun k => absurd h k⟩
      exact ⟨congrArg Lane.phase h1, congrArg Lane.sync h1, congrArg Lane.run h1, cell_count hr .., fun r i j hn => cell_count_other hr _ _ _ _ _ (hn _ (.head _))⟩
    · rw [if_neg (fun k => h (beq_iff_eq.1 k))]
      exact ⟨fun _ _ => rfl, fun k => absurd k h, fun _ => rfl⟩
  · have hx : exec row s = .next (trainFail l code s) := by
      rcases h with ⟨rfl, h⟩ | ⟨rfl, h, hw, rfl⟩
      · refine (upNext_up hu).trans (congrArg _ ?_)
        unfold laneTrainTimeout
        rcases h with ⟨h, rfl⟩ | ⟨h, rfl⟩ <;> rw [h]
      · exact (upNext_up hu).trans (congrArg _ (if_pos (by rw [h, hw]; rfl)))
    obtain ⟨⟨h1, h2⟩, h3, h4, h5, h6, h7⟩ := trainFail_fails hs l code
    exact ⟨_, hx, (trainFail_does ..).only, h2, by rw [h1]; rfl, by rw [h1], h3, h4, h5, h6, h7⟩
  · exact (upNext_up hu).trans (congrArg _ (if_neg (by rw [he, hw]; decide)))

end Sys2Proof.Machine
end

section
/-!
SUPPORT. How a bed lane leaves ACTIVE (R80 to R82, R84, R88): the account, the reports and the register entries of a loss, several causes of one core cycle,
and the statement on lane losses settled.
-/
namespace Sys2Proof.Machine

/-! ### Register entries kept -/

theorem RegsKept.refl (xs : List (Reg × Nat × Nat)) (s : State) : RegsKept xs s s := fun _ _ _ _ => rfl

theorem RegsKept.of_regs {xs : List (Reg × Nat × Nat)} {s t : State} (h : t.regs = s.regs) : RegsKept xs s t := fun _ _ _ _ => cell_regs h ..

theorem RegsKept.trans {xs : List (Reg × Nat × Nat)} {s t u : State} (h : RegsKept xs s t) (k : RegsKept xs t u) : RegsKept xs s u :=
  fun r i j hn => (k r i j hn).trans (h r i j hn)

theorem RegsKept.widen {xs ys : List (Reg × Nat × Nat)} {s t : State} (h : RegsKept xs s t) (hs : xs ⊆ ys) : RegsKept ys s t :=
  fun r i j hn => h r i j fun x hx => hn x (hs hx)

theorem regsKept_setCell {s : State} (hs : Rises s.regs) (r : Reg) (i j : Nat) (w : Word) : RegsKept [(r, i, j)] s (setCell r i j w s) :=
  fun _ _ _ hn => cell_setCell_other hs _ (hn _ (.head _))

theorem regsKept_ev {s : State} (hs : Rises s.regs) (r : Reg) (i b : Nat) : RegsKept [(r, i, 0)] s (event r i b s) := regsKept_event hs rfl

theorem at_lane : ∀ l : Fin 256, regExists .bedLaneEvt l 0 = true ∧ regExists .bedLaneCnt l 0 = true ∧ regExists .bedLaneCfg l 0 = true ∧
    regExists .bedLaneErr l 0 = true := by decide +kernel

theorem at_acct : ∀ g : Fin 32, regExists .bedAcctStat g 0 = true := by decide +kernel

/-- Entries of a lane and the account counts lie apart. -/
theorem acct_ne {r : Reg} {i : Nat} (h : regExists r i 0 = true) (hr : r ≠ .bedAcctStat) : ∀ x ∈ acctCells, regOff r i 0 ≠ regOff x.1 x.2.1 x.2.2 := by
  intro x hx
  obtain ⟨g, hg, rfl⟩ := List.mem_map.1 hx
  exact regOff_ne h (at_acct ⟨g, List.mem_range.1 hg⟩) fun e => hr (congrArg Prod.fst e)

/-! ### The account of a loss (R84, R117) -/

/-- Reports of a lane's loss or quarantine under way are those there were before, or say the cause given, if one is. -/
def LaneReports (l : Nat) (c : Option Nat) (s t : State) : Prop :=
  ∀ r ∈ t.flt.flying, r.source = Src.bedLaneLost ∨ r.source = Src.bedQuarantine → r.index = l →
    r ∈ s.flt.flying ∨ ∃ k, c = some k ∧ r.capture.getD 2 0 = w32 k

theorem LaneReports.of_flt {l : Nat} {c : Option Nat} {s t : State} (h : t.flt = s.flt) : LaneReports l c s t := fun _ hr _ _ => .inl (h ▸ hr)

theorem LaneReports.trans {l : Nat} {c : Option Nat} {s t u : State} (h : LaneReports l c s t) (k : LaneReports l c t u) : LaneReports l c s u :=
  fun r hr hs hi => (k r hr hs hi).elim (fun m => h r m hs hi) .inr

theorem LaneReports.some {l c : Nat} {s t : State} (h : LaneReports l none s t) : LaneReports l (some c) s t :=
  fun r hr hs hi => (h r hr hs hi).elim .inl fun ⟨_, k, _⟩ => nomatch k

theorem LaneReports.raise {l src idx : Nat} {c : Option Nat} {cap : List Word} {s t : State} (h : LaneReports l c s t)
    (k : (src ≠ Src.bedLaneLost ∧ src ≠ Src.bedQuarantine) ∨ ∃ k, c = Option.some k ∧ cap.getD 2 0 = w32 k) :
    LaneReports l c s (raise src idx cap t) := by
  intro r hr hs hi
  rw [raise_flying] at hr
  rcases List.mem_append.1 hr with hr | hr
  · exact h r hr hs hi
  · rw [List.mem_singleton.1 hr] at hs ⊢
    exact .inr (k.resolve_left fun n => hs.elim n.1 n.2)

/-- What an account that a loss opens can change: its group's count, and reports that are none of the lane's. -/
structure Accounted (l : Nat) (s t : State) : Prop where
  regs : RegsKept acctCells s t
  told : ∀ r ∈ s.flt.flying, r ∈ t.flt.flying
  reports : LaneReports l none s t
  only : Only [.regs, .flt, .groups] s t

theorem addAccount_accounted {s : State} (hs : TablesRise s) {g : Nat} (hg : g < 32) (x : Account) (l : Nat) :
    Accounted l s (addAccount g x s) := by
  have hin : [(Reg.bedAcctStat, g, 0)] ⊆ acctCells := List.cons_subset.2 ⟨List.mem_map.2 ⟨g, List.mem_range.2 hg, rfl⟩, List.nil_subset _⟩
  suffices h : RegsKept acctCells s (addAccount g x s) ∧ (∀ r ∈ s.flt.flying, r ∈ (addAccount g x s).flt.flying) ∧
      LaneReports l none s (addAccount g x s) from ⟨h.1, h.2.1, h.2.2, (addAccount_does g x s).only⟩
  have same {t : State} (h : t.regs = s.regs) (k : t.flt = s.flt) :
      RegsKept acctCells s t ∧ (∀ r ∈ s.flt.flying, r ∈ t.flt.flying) ∧ LaneReports l none s t :=
    ⟨.of_regs h, fun _ hr => k ▸ hr, .of_flt k⟩
  unfold addAccount
  dsimp only
  split
  · exact same rfl rfl
  · split
    · exact same rfl rfl
    · split
      · exact ⟨(regsKept_setCell (s := modGroup g _ s) hs.regs _ _ _ _).widen hin, fun _ hr => hr, .of_flt rfl⟩
      · split
        · exact same rfl rfl
        · exact ⟨(regsKept_setCell (s := modGroup g _ s) hs.regs _ _ _ _).widen hin, fun _ hr => List.mem_append_left _ hr,
            LaneReports.raise (.of_flt rfl) (.inl (by decide))⟩

/-- R110: a bound partner's table group is one of the 32. -/
theorem partnerGroup_lt {s : State} (h : NamesInRange s) {p g : Nat} (hg : partnerGroup s p = some g) : g < 32 := by
  unfold partnerGroup at hg
  cases hb : (partner s p).binding with
  | none => rw [hb] at hg; cases hg
  | some b =>
    rw [hb] at hg
    have := (h.bound p b hb).2
    have : b.firstLane / 8 = g := Option.some.inj hg
    omega

theorem Accounted.refl (l : Nat) (s : State) : Accounted l s s := ⟨.refl _ s, fun _ h => h, .of_flt rfl, ⟨fun z _ => z.same_refl s⟩⟩

/-- R84: the account that a lane's leaving ACTIVE opens. -/
theorem openLossAccount_accounted {s : State} (hs : TablesRise s) (hg : ∀ p g, partnerGroup s p = some g → g < 32) (l c : Nat) :
    Accounted l s (openLossAccount l c s) := by
  unfold openLossAccount
  cases (lane s l).partner with
  | none => exact .refl ..
  | some p =>
    dsimp only
    cases h : partnerGroup s p with
    | none => exact .refl ..
    | some g =>
      dsimp only
      split
      · exact ⟨.of_regs rfl, fun _ h => h, .of_flt rfl, ((modGroup_does ..).widen rfl).only⟩
      · exact addAccount_accounted hs (hg p g h) ..

/-! ### Leaving ACTIVE -/

/-- The causes that are reported as BED_LANE_LOST (R88). -/
abbrev isLossCause (c : Nat) : Prop := c = 1 ∨ c = 2 ∨ c = 3 ∨ c = 5

/-- A lane that has left ACTIVE for a cause, before the state it goes to follows. -/
def Lane.leftFor (c : Nat) (x : Lane) : Lane :=
  { x with lostCause := c, noData := false, checkFrom := none, lostReported := if isLossCause c then true else x.lostReported }

/-- The entries of a lane and the account counts that a lane's leaving ACTIVE can change. -/
abbrev leaveCells (l : Nat) : List (Reg × Nat × Nat) := (Reg.bedLaneEvt, l, 0) :: acctCells

/-- The capture of BED_LANE_LOST (R88). -/
def lostCapture (s : State) (l c : Nat) : List Word := w32 l :: capPartner s l :: w32 c :: cap64 (nowGbt s)

/-- What a lane's leaving ACTIVE for a cause leaves. -/
structure Leaves (l : Fin 256) (c : Nat) (s t : State) : Prop where
  lane : LaneTo l ((Machine.lane s l).leftFor c) s t
  evented : Evented .bedLaneEvt l 17 s t
  regs : RegsKept (leaveCells l) s t
  btr : t.btr = s.btr
  partners : t.partners = s.partners
  lost : isLossCause c → Reported Src.bedLaneLost l (lostCapture s l c) s t
  reports : LaneReports l (if isLossCause c then some c else none) s t
  told : ∀ r ∈ s.flt.flying, r ∈ t.flt.flying

theorem delayMeasureLost_same (l : Nat) (s : State) : Only [.quo, .downlinks] s (delayMeasureLost l s) := (delayMeasureLost_does l s).only

theorem leaveActive_leaves {s : State} (hs : TablesRise s) (hg : ∀ p g, partnerGroup s p = some g → g < 32) (l : Fin 256) (c : Nat) :
    Leaves l c s (leaveActive l c s) := by
  let f : Lane → Lane := fun x => { x with lostCause := c, noData := false, checkFrom := none }
  let s1 := delayMeasureLost l s
  let s2 := modLane l f s1
  let s3 := event .bedLaneEvt l 17 s2
  let s4 := openLossAccount l c s3
  have d1 := delayMeasureLost_does l s
  have o1 := d1.only
  have t1 := d1.tables hs
  have t2 := (modLane_does l f s1).tables t1
  have t3 := (event_does .bedLaneEvt l 17 s2).tables t2
  have hp3 : s3.partners = s.partners := (event_partners ..).trans (o1.same .partners (by decide))
  have hr2 : s2.regs = s.regs := o1.same .regs (by decide)
  have hf2 : s2.flt = s.flt := o1.same .flt (by decide)
  have hb2 : s2.btr = s.btr := o1.same .btr (by decide)
  have hl1 : s1.lanes = s.lanes := o1.same .lanes (by decide)
  have ha : Accounted l s3 s4 := openLossAccount_accounted t3 (fun p g h => hg p g (by
    unfold partnerGroup at h ⊢
    rwa [partner_of hp3] at h)) l c
  have hb4 : s4.btr = s.btr := (ha.only.same .btr (by decide)).trans ((event_btr ..).trans hb2)
  have hl4 : s4.lanes = s2.lanes := (ha.only.same .lanes (by decide)).trans (event_lanes ..)
  have l2 : LaneTo l (f (lane s l)) s s2 := by
    have := ((LaneTo.refl l s).keep hl1).trans (laneTo_modLane t1.lanes l f)
    rwa [lane_of hl1] at this
  have l4 := l2.keep hl4
  have e4 : Evented .bedLaneEvt l 17 s s4 := by
    have : Evented .bedLaneEvt l 17 s s3 := evented_of (evented_event t2.regs ..) (cell_regs hr2 ..)
    unfold Evented at this ⊢
    rw [← this]
    exact ha.regs _ _ _ (acct_ne (at_lane l).1 (by decide))
  have r4 : RegsKept (leaveCells l) s s4 :=
    (((RegsKept.of_regs hr2).trans (regsKept_ev t2.regs .bedLaneEvt l 17)).widen (List.cons_subset.2 ⟨.head _, List.nil_subset _⟩)).trans
      (ha.regs.widen (List.subset_cons_self ..))
  have n4 : LaneReports l none s s4 := (LaneReports.of_flt ((event_flt ..).trans hf2)).trans ha.reports
  have m4 : ∀ r ∈ s.flt.flying, r ∈ s4.flt.flying := fun r h => ha.told r (((event_flt ..).trans hf2).symm ▸ h)
  have hp4 : s4.partners = s.partners := (ha.only.same .partners (by decide)).trans hp3
  by_cases hc : isLossCause c
  · let g : Lane → Lane := fun x => { x with lostReported := true }
    have l5 := l4.trans (laneTo_modLane (hl4 ▸ t2.lanes) l g)
    rw [l4.1] at l5
    have he : leaveActive l c s = raise Src.bedLaneLost l (w32 l :: capPartner s4 l :: w32 c :: cap64 (nowGbt s4)) (modLane l g s4) := if_pos hc
    have hcap : w32 l :: capPartner s4 l :: w32 c :: cap64 (nowGbt s4) = lostCapture s l c := by
      unfold lostCapture capPartner
      rw [l4.1]
      unfold nowGbt nowCourse nowBt
      rw [hb4]
    have hlane : (lane s l).leftFor c = g (f (lane s l)) := by
      unfold Lane.leftFor
      rw [if_pos hc]
    rw [he, hcap]
    exact ⟨hlane ▸ l5.keep rfl, e4.keep rfl, r4.trans (.of_regs rfl), hb4, hp4, fun _ => reported_raise hb4,
      by rw [if_pos hc]; exact (n4.some.trans (u := modLane l g s4) (.of_flt rfl)).raise (.inr ⟨c, rfl, rfl⟩),
      fun r h => List.mem_append_left _ (m4 r h)⟩
  · have he : leaveActive l c s = s4 := if_neg hc
    have hlane : (lane s l).leftFor c = f (lane s l) := by
      unfold Lane.leftFor
      rw [if_neg hc]
    rw [he]
    exact ⟨hlane ▸ l4, e4, r4, hb4, hp4, fun h => absurd h hc, by rw [if_neg hc]; exact n4, m4⟩

/-! ### Several causes of one core cycle (R82) -/

/-- The lane's entries that a loss can change. -/
abbrev lossCells (l : Nat) : List (Reg × Nat × Nat) := [(Reg.bedLaneEvt, l, 0), (Reg.bedLaneCnt, l, 0), (Reg.bedLaneCfg, l, 0)] ++ acctCells

theorem leaveCells_sub (l : Nat) : leaveCells l ⊆ lossCells l := by
  intro x hx
  rcases List.mem_cons.1 hx with rfl | hx
  · exact .head _
  · exact List.mem_append_right _ hx

theorem stamp_of_leftNow {s : State} {l : Nat} {m : LaneLeft} (h : leftNow s l = some m) : m.stamp = nowStamp s := by
  unfold leftNow at h
  split at h
  · split at h
    · cases h; assumption
    · cases h
  · cases h

/-- The lane's register entries with what the outranked cause did taken back. -/
def unleaveRegs (l : Nat) (m : LaneLeft) (host : Bool) (s : State) : State :=
  let s := setCell .bedLaneEvt l 0 m.evt (modCell .bedLaneCnt l 0 (fun w => setFld w 31 24 m.retrains) s)
  if host then s else modCell .bedLaneCfg l 0 (fun w => setBit w 0 m.enable) s

/-- The lane's restart request taken back. -/
def unleaveDue (l : Nat) (m : LaneLeft) (s : State) : State :=
  match (lane s l).partner with
  | some p => if m.due then s else modDl p (fun d => { d with restarts := d.restarts.filter (· != laneIndex s l) }) s
  | none => s

/-- A report of the lane's loss or quarantine in this core cycle. -/
def unleaveMine (l : Nat) (m : LaneLeft) (r : Report) : Bool :=
  (r.source == Src.bedLaneLost || r.source == Src.bedQuarantine) && r.index == l && r.stamp == m.stamp

/-- The collector without the reports taken back. -/
def unleaveReports (l : Nat) (m : LaneLeft) (f : Faults) : Faults := { f with flying := f.flying.filter (fun r => !unleaveMine l m r) }

def Lane.unleft (x : Lane) : Lane := { x with phase := .active, lostReported := false }

theorem unleave_eq (l : Nat) (m : LaneLeft) (host : Bool) (s : State) :
    unleave l m host s = modLane l Lane.unleft ((unleaveDue l m (unleaveRegs l m host s)).modFlt (unleaveReports l m)) := rfl

theorem unleaveDue_regs (l : Nat) (m : LaneLeft) (s : State) : (unleaveDue l m s).regs = s.regs := by
  unfold unleaveDue
  cases (lane s l).partner with
  | none => rfl
  | some p => dsimp only; split <;> rfl

theorem unleaveDue_lanes (l : Nat) (m : LaneLeft) (s : State) : (unleaveDue l m s).lanes = s.lanes := by
  unfold unleaveDue
  cases (lane s l).partner with
  | none => rfl
  | some p => dsimp only; split <;> rfl

theorem unleaveRegs_lanes (l : Nat) (m : LaneLeft) (host : Bool) (s : State) : (unleaveRegs l m host s).lanes = s.lanes := by
  unfold unleaveRegs
  cases host <;> rfl

/-- R82: the register entries as they were before the first cause of the core cycle. -/
theorem unleaveRegs_cells {s : State} (hs : Rises s.regs) (l : Fin 256) (m : LaneLeft) (host : Bool) :
    RegsKept (lossCells l) s (unleaveRegs l m host s) ∧
      (cell (unleaveRegs l m host s) .bedLaneCfg l = if host then cell s .bedLaneCfg l else setBit (cell s .bedLaneCfg l) 0 m.enable) ∧
      cell (unleaveRegs l m host s) .bedLaneCnt l = setFld (cell s .bedLaneCnt l) 31 24 m.retrains := by
  obtain ⟨he, hc, hf, -⟩ := at_lane l
  let s1 := modCell .bedLaneCnt l 0 (fun w => setFld w 31 24 m.retrains) s
  let s2 := setCell .bedLaneEvt l 0 m.evt s1
  have r1 : Rises s1.regs := rises_setCell hs ..
  have r2 : Rises s2.regs := rises_setCell r1 ..
  have k2 : RegsKept (lossCells l) s s2 :=
    ((regsKept_setCell hs _ _ _ _).widen (List.cons_subset.2 ⟨.tail _ (.head _), List.nil_subset _⟩)).trans
      ((regsKept_setCell r1 _ _ _ _).widen (List.cons_subset.2 ⟨.head _, List.nil_subset _⟩))
  have f2 : cell s2 .bedLaneCfg l = cell s .bedLaneCfg l := by
    rw [cell_setCell_other r1 _ (regOff_ne hf he nofun)]
    exact cell_setCell_other hs _ (regOff_ne hf hc nofun)
  have c2 : cell s2 .bedLaneCnt l = setFld (cell s .bedLaneCnt l) 31 24 m.retrains := by
    rw [cell_setCell_other r1 _ (regOff_ne hc he nofun)]
    exact cell_setCell hs ..
  cases host with
  | true => exact ⟨k2, f2, c2⟩
  | false =>
    refine ⟨k2.trans ((regsKept_setCell r2 _ _ _ _).widen (List.cons_subset.2 ⟨.tail _ (.tail _ (.head _)), List.nil_subset _⟩)), ?_, ?_⟩
    · exact (cell_setCell r2 ..).trans (congrArg (setBit · 0 m.enable) f2)
    · exact (cell_setCell_other r2 _ (regOff_ne hc hf nofun)).trans c2

/-- The note of a cause, as it is kept. -/
def Lane.noted (m : LaneLeft) (x : Lane) : Lane := { x with left := some m }

theorem beforeLeave_first {l rank : Nat} {host : Bool} {s : State} (h : leftNow s l = none) : beforeLeave l rank host s =
    modLane l (.noted ⟨nowStamp s, rank, cell s .bedLaneEvt l, fld (cell s .bedLaneCnt l) 31 24, bit (cell s .bedLaneCfg l) 0, restartIsDue s l⟩) s := by
  unfold beforeLeave
  rw [h]
  rfl

theorem beforeLeave_later {l rank : Nat} {host : Bool} {s : State} {m : LaneLeft} (h : leftNow s l = some m) : beforeLeave l rank host s =
    modLane l (.noted { m with rank := rank }) (unleave l m host s) := by
  unfold beforeLeave
  rw [h]
  rfl

/-- The lane as it stands once it is about to leave ACTIVE for a cause of a rank. -/
structure Poised (l : Fin 256) (host : Bool) (s t : State) : Prop where
  others : ∀ k : Nat, k ≠ l.val → lane t k = lane s k
  partner : (lane t l).partner = (lane s l).partner
  link : (lane t l).sync = (lane s l).sync ∧ (lane t l).signal = (lane s l).signal ∧ (lane t l).cdr = (lane s l).cdr
  btr : t.btr = s.btr
  partners : t.partners = s.partners
  regs : RegsKept (lossCells l) s t
  cfg : ∃ b : Bool, cell t .bedLaneCfg l = if host then cell s .bedLaneCfg l else setBit (cell s .bedLaneCfg l) 0 b
  record : (lane t l).record = (lane s l).record
  keeps : ∀ r ∈ s.flt.flying, (r.source ≠ Src.bedLaneLost ∧ r.source ≠ Src.bedQuarantine) ∨ r.index ≠ l → r ∈ t.flt.flying
  first : leftNow s l = none → t.regs = s.regs ∧ t.flt = s.flt
  later : ∀ m : LaneLeft, leftNow s l = some m → cell t .bedLaneCnt l = setFld (cell s .bedLaneCnt l) 31 24 m.retrains ∧
    (∀ r ∈ t.flt.flying, r.source = Src.bedLaneLost ∨ r.source = Src.bedQuarantine → r.index = l → r.stamp ≠ nowStamp s)

theorem setBit_self (w : Word) (b : Nat) : setBit w b (bit w b) = w := by
  refine BitVec.eq_of_getLsbD_eq fun k hk => ?_
  rw [bit_setBit, decide_eq_true hk, Bool.true_and]
  split
  · next e => rw [e]; rfl
  · rfl

theorem beforeLeave_poised {s : State} (hs : TablesRise s) (l : Fin 256) (rank : Nat) (host : Bool) : Poised l host s (beforeLeave l rank host s) := by
  have ho := (beforeLeave_does l rank host s).only
  have hb := ho.same .btr (by decide)
  have hp := ho.same .partners (by decide)
  cases h : leftNow s l with
  | none =>
    rw [beforeLeave_first h] at hb hp ⊢
    obtain ⟨h1, h2⟩ := laneTo_modLane hs.lanes l
      (.noted ⟨nowStamp s, rank, cell s .bedLaneEvt l, fld (cell s .bedLaneCnt l) 31 24, bit (cell s .bedLaneCfg l) 0, restartIsDue s l⟩)
    refine ⟨h2, by rw [h1]; rfl, by rw [h1]; exact ⟨rfl, rfl, rfl⟩, hb, hp, .of_regs rfl, ⟨bit (cell s .bedLaneCfg l) 0, ?_⟩,
      by rw [h1]; rfl, fun _ hr _ => hr,
      fun _ => ⟨rfl, rfl⟩, fun m e => (nomatch h.symm.trans e)⟩
    rw [setBit_self, ite_self]
    rfl
  | some m =>
    have hl : ((unleaveDue l m (unleaveRegs l m host s)).modFlt (unleaveReports l m)).lanes = s.lanes :=
      (unleaveDue_lanes ..).trans (unleaveRegs_lanes ..)
    have l1 := ((LaneTo.refl l s).keep hl).trans (laneTo_modLane (hl ▸ hs.lanes) l Lane.unleft)
    rw [lane_of hl] at l1
    have l2 := l1.trans (laneTo_modLane (rises_modLane (hl ▸ hs.lanes) ..) l (.noted { m with rank := rank }))
    rw [l1.1] at l2
    obtain ⟨h1, h2⟩ := l2
    obtain ⟨c1, c2, c3⟩ := unleaveRegs_cells hs.regs l m host
    have hr : (beforeLeave l rank host s).regs = (unleaveRegs l m host s).regs := by
      rw [beforeLeave_later h, unleave_eq]
      exact unleaveDue_regs ..
    have hf : (beforeLeave l rank host s).flt = unleaveReports l m s.flt := by
      have : (unleaveDue l m (unleaveRegs l m host s)).flt = s.flt := by
        unfold unleaveDue unleaveRegs
        cases host <;> dsimp only [] <;> split <;> first | rfl | (split <;> rfl)
      rw [beforeLeave_later h, unleave_eq]
      exact congrArg (unleaveReports l m) this
    rw [← unleave_eq, ← beforeLeave_later h] at h1 h2
    refine ⟨h2, by rw [h1]; rfl, by rw [h1]; exact ⟨rfl, rfl, rfl⟩, hb, hp, c1.trans (.of_regs hr), ⟨m.enable, (cell_regs hr ..).trans c2⟩,
      by rw [h1]; rfl, fun r hm hk => ?_,
      fun e => (nomatch h.symm.trans e), fun m' e => ?_⟩
    · rw [hf]
      refine List.mem_filter.2 ⟨hm, ?_⟩
      unfold unleaveMine
      rcases hk with ⟨h1, h2⟩ | h1
      · rw [beq_false_of_ne h1, beq_false_of_ne h2]; rfl
      · rw [beq_false_of_ne h1, Bool.and_false]; rfl
    cases h.symm.trans e
    refine ⟨(cell_regs hr ..).trans c3, fun r hm hk hi hn => ?_⟩
    rw [hf] at hm
    have := (List.mem_filter.1 hm).2
    unfold unleaveMine at this
    rw [hi, stamp_of_leftNow h, hn] at this
    rcases hk with hk | hk <;> rw [hk] at this <;> simp at this

/-! ### A loss of signal, clock or synchronisation (R80, R81) -/

/-- What the loss of an ACTIVE lane leaves, `u` the state about to leave ACTIVE: the cause in force, the state it goes to, the entries and the reports. -/
structure LossDone (l : Fin 256) (cause : Nat) (phase : LanePhase) (u t : State) : Prop where
  others : ∀ k : Nat, k ≠ l.val → lane t k = lane u k
  lostCause : (lane t l).lostCause = cause
  phase : (lane t l).phase = phase
  link : ((lane u l).sync = false → (lane t l).sync = false) ∧ ((lane u l).signal = false → (lane t l).signal = false) ∧
    ((lane u l).cdr = false → (lane t l).cdr = false)
  reports : LaneReports l (some cause) u t
  regs : RegsKept (lossCells l) u t
  lost : isLossCause cause → Evented .bedLaneEvt l 17 u t ∧ Reported Src.bedLaneLost l (lostCapture u l cause) u t

/-- The state that a lane goes to on leaving ACTIVE: its link is not up better than before. -/
structure LaneEnd (l : Nat) (phase : LanePhase) (s t : State) : Prop where
  others : ∀ k : Nat, k ≠ l → lane t k = lane s k
  lostCause : (lane t l).lostCause = (lane s l).lostCause
  phase : (lane t l).phase = phase
  link : ((lane s l).sync = false → (lane t l).sync = false) ∧ ((lane s l).signal = false → (lane t l).signal = false) ∧
    ((lane s l).cdr = false → (lane t l).cdr = false)
  regs : t.regs = s.regs
  flt : t.flt = s.flt

theorem laneEnd_enterDetect {s : State} (hs : Rises s.lanes) (l : Nat) : LaneEnd l .detect s (enterDetect l s) := by
  obtain ⟨h1, h2⟩ := laneTo_enterDetect hs l
  exact ⟨h2, by rw [h1]; rfl, by rw [h1]; rfl, by rw [h1]; exact ⟨fun _ => rfl, id, fun _ => rfl⟩, rfl, rfl⟩

theorem laneEnd_enterTrain {s : State} (hs : Rises s.lanes) (l : Nat) : LaneEnd l .train s (enterTrain l s) := by
  obtain ⟨h1, h2⟩ := laneTo_enterTrain hs l
  have ho := (enterTrain_does l s).only
  exact ⟨h2, by rw [h1]; rfl, by rw [h1]; rfl, by rw [h1]; exact ⟨fun _ => rfl, id, fun _ => rfl⟩, ho.same .regs (by decide), ho.same .flt (by decide)⟩

theorem laneEnd_enterDown {s : State} (hs : Rises s.lanes) (l : Nat) : LaneEnd l .down s (enterDown l s) := by
  obtain ⟨h1, h2⟩ := laneTo_enterDown hs l
  exact ⟨h2, by rw [h1]; rfl, by rw [h1]; rfl, by rw [h1]; exact ⟨fun _ => rfl, fun _ => rfl, fun _ => rfl⟩, rfl, rfl⟩

/-- A lane that leaves ACTIVE, once its count or its ENABLE is as the rules have it, and goes to its next state. -/
theorem lossDone_of {l : Fin 256} {c : Nat} {phase : LanePhase} {u v w t : State} (hl : v.lanes = u.lanes) (hf : v.flt = u.flt) (hb : v.btr = u.btr)
    (hr : RegsKept [(.bedLaneCnt, l, 0), (.bedLaneCfg, l, 0)] u v) (hw : Leaves l c v w) (ht : LaneEnd l phase w t) : LossDone l c phase u t := by
  obtain ⟨he, hc, hg, -⟩ := at_lane l
  have hlane : ∀ k, lane v k = lane u k := lane_of hl
  have hev : cell v .bedLaneEvt l = cell u .bedLaneEvt l := hr _ _ _ fun x hx => by
    rcases List.mem_cons.1 hx with rfl | hx
    · exact regOff_ne he hc nofun
    · rw [List.mem_singleton.1 hx]
      exact regOff_ne he hg nofun
  have hcap : lostCapture v l c = lostCapture u l c := by
    unfold lostCapture capPartner nowGbt nowCourse nowBt
    rw [hlane, hb]
  have h1 : (lane w l).lostCause = c ∧ (lane w l).sync = (lane u l).sync ∧ (lane w l).signal = (lane u l).signal ∧ (lane w l).cdr = (lane u l).cdr := by
    rw [hw.lane.1, hlane]
    exact ⟨rfl, rfl, rfl, rfl⟩
  obtain ⟨hcause, hsync, hsignal, hcdr⟩ := h1
  refine ⟨fun k hk => (ht.others k hk).trans ((hw.lane.2 k hk).trans (hlane k)), ht.lostCause.trans hcause, ht.phase, ?_, ?_, ?_, fun hc => ⟨?_, ?_⟩⟩
  · rw [← hsync, ← hsignal, ← hcdr]
    exact ht.link
  · have : LaneReports l (some c) v w := by
      have := hw.reports
      split at this
      · exact this
      · exact this.some
    exact ((LaneReports.of_flt hf).trans this).trans (.of_flt ht.flt)
  · refine ((hr.widen fun x hx => ?_).trans (hw.regs.widen (leaveCells_sub l))).trans (.of_regs ht.regs)
    exact List.mem_append_left _ (List.mem_cons_of_mem _ hx)
  · exact (evented_of hw.evented hev).keep ht.regs
  · have := (hw.lost hc).from hb
    rw [hcap] at this
    exact this.keep ht.flt

/-- The state of a lane's loss: QUARANTINE past the limit, DETECT or TRAIN with AUTO_RETRAIN, else DOWN. -/
def lossPhase (s : State) (l c : Nat) : LanePhase :=
  if retrainExceeds s l then .quarantine else if bit (cell s .bedLaneCfg l) 1 then (if c = 1 then .detect else .train) else .down

/-- What the loss of a lane does to its entries and its reports, `u` the state about to leave ACTIVE. -/
structure LossEntries (l : Fin 256) (c : Nat) (s u t : State) : Prop where
  exceeds : retrainExceeds s l = true → cell t .bedLaneCnt l = cell u .bedLaneCnt l ∧ Reported Src.bedQuarantine l [w32 l, capPartner u l, w32 9] u t
  retrains : retrainExceeds s l = false → bit (cell s .bedLaneCfg l) 1 = true → cell t .bedLaneCnt l = incSat (cell u .bedLaneCnt l) 31 24 1
  down : bit (cell s .bedLaneCfg l) 1 = false → cell t .bedLaneCnt l = cell u .bedLaneCnt l ∧ cell t .bedLaneCfg l = setFld (cell u .bedLaneCfg l) 0 0 0

/-- R80: a lane that has left ACTIVE for QUARANTINE: its event and its report follow. -/
theorem LossDone.quarantined {l : Fin 256} {c : Nat} {u w : State} (h : LossDone l c .quarantine u w) (hs : Rises w.regs) (hc : ¬ isLossCause c)
    (cap : List Word) (hcap : cap.getD 2 0 = w32 c) :
    LossDone l c .quarantine u (raise Src.bedQuarantine l cap (event .bedLaneEvt l 20 w)) := by
  have hl : (raise Src.bedQuarantine l cap (event .bedLaneEvt l 20 w)).lanes = w.lanes := event_lanes ..
  refine ⟨fun k hk => (lane_of hl k).trans (h.others k hk), by rw [lane_of hl]; exact h.lostCause, by rw [lane_of hl]; exact h.phase,
    by rw [lane_of hl]; exact h.link, (h.reports.trans (.of_flt (event_flt ..))).raise (.inr ⟨c, rfl, hcap⟩), ?_, fun k => absurd k hc⟩
  exact (h.regs.trans (RegsKept.widen (regsKept_ev hs .bedLaneEvt l 20) (List.cons_subset.2 ⟨.head _, List.nil_subset _⟩))).trans (.of_regs (raise_regs ..))

def Lane.quarantined (c : Nat) (x : Lane) : Lane := { x with phase := .quarantine, lostCause := c, waitBind := false }

theorem laneEnd_quarantined {s : State} (hs : Rises s.lanes) (l c : Nat) (hc : (lane s l).lostCause = c) :
    LaneEnd l .quarantine s (modLane l (.quarantined c) s) := by
  obtain ⟨h1, h2⟩ := laneTo_modLane hs l (.quarantined c)
  exact ⟨h2, by rw [h1, hc]; rfl, by rw [h1]; rfl, by rw [h1]; exact ⟨id, id, id⟩, rfl, rfl⟩

theorem capPartner_of {s t : State} {l : Nat} (h : (lane t l).partner = (lane s l).partner) : capPartner t l = capPartner s l := by
  unfold capPartner
  rw [h]

/-- A lane that leaves ACTIVE for QUARANTINE. -/
theorem enterQuarantine_done {s : State} (hs : TablesRise s) (hg : ∀ p g, partnerGroup s p = some g → g < 32) (l : Fin 256) {c : Nat}
    (hc : ¬ isLossCause c) (hl : leavesFor s l (causeRank c false) = true) :
    LossDone l c .quarantine (beforeLeave l (causeRank c false) false s) (enterQuarantine l c s) ∧
      cell (enterQuarantine l c s) .bedLaneCnt l = cell (beforeLeave l (causeRank c false) false s) .bedLaneCnt l ∧
      Reported Src.bedQuarantine l [w32 l, capPartner s l, w32 c] (beforeLeave l (causeRank c false) false s) (enterQuarantine l c s) := by
  let u := beforeLeave l (causeRank c false) false s
  let w := leaveActive l c u
  let q := modLane l (.quarantined c) w
  have hu := beforeLeave_poised hs l (causeRank c false) false
  have tu : TablesRise u := (beforeLeave_does ..).tables hs
  have tw : TablesRise w := (leaveActive_does ..).tables tu
  have he : enterQuarantine l c s = raise Src.bedQuarantine l [w32 l, capPartner q l, w32 c] (event .bedLaneEvt l 20 q) := by
    unfold enterQuarantine
    rw [if_pos hl]
    rfl
  have hw : Leaves l c u w := leaveActive_leaves tu (fun p g h => hg p g (by
    unfold partnerGroup at h ⊢
    rwa [partner_of hu.partners] at h)) l c
  have hq1 := laneTo_modLane tw.lanes l (.quarantined c)
  have hcap : capPartner q l = capPartner s l := capPartner_of (by
    rw [hq1.1]
    exact (congrArg Lane.partner hw.lane.1).trans hu.partner)
  have hq : LaneEnd l .quarantine w q := laneEnd_quarantined tw.lanes l c (by rw [hw.lane.1]; rfl)
  have hd : LossDone l c .quarantine u q := lossDone_of rfl rfl rfl (.refl _ _) hw hq
  rw [he, hcap]
  refine ⟨hd.quarantined tw.regs hc _ rfl, ?_, reported_raise ((event_btr ..).trans hw.btr)⟩
  have hne : regOff .bedLaneCnt l ≠ regOff .bedLaneEvt l := regOff_ne (at_lane l).2.1 (at_lane l).1 nofun
  rw [cell_regs (raise_regs ..), cell_event_other (s := q) tw.regs _ _ _ hne]
  refine hw.regs _ _ _ fun x hx => ?_
  rcases List.mem_cons.1 hx with rfl | hx
  · exact hne
  · exact acct_ne (at_lane l).2.1 (by decide) x hx

theorem retrainExceeds_auto {s : State} {l : Nat} (h : retrainExceeds s l = true) : bit (cell s .bedLaneCfg l) 1 = true := by
  unfold retrainExceeds at h
  cases hb : bit (cell s .bedLaneCfg l) 1 with
  | true => rfl
  | false => rw [hb] at h; cases h

theorem bit_setBit_other (w : Word) {b k : Nat} (x : Bool) (h : k ≠ b) (hk : k < 32) : bit (setBit w b x) k = bit w k := by
  show (setBit w b x).getLsbD k = w.getLsbD k
  rw [bit_setBit, decide_eq_true hk, if_neg h, Bool.true_and]

/-- R80, R81: the loss of a lane that leaves ACTIVE. -/
theorem autoLoss_done {s : State} (hs : TablesRise s) (hg : ∀ p g, partnerGroup s p = some g → g < 32) (l : Fin 256) {c : Nat}
    (hl : leavesFor s l (lossRank s l c) = true) :
    LossDone l (if retrainExceeds s l then 9 else c) (lossPhase s l c) (beforeLeave l (lossRank s l c) false s) (autoLoss l c s) ∧
      LossEntries l c s (beforeLeave l (lossRank s l c) false s) (autoLoss l c s) := by
  obtain ⟨hex, hcx, hfx, -⟩ := at_lane l
  cases hx : retrainExceeds s l with
  | true =>
    have hrank : lossRank s l c = causeRank 9 false := if_pos hx
    have ha : autoLoss l c s = enterQuarantine l 9 s := if_pos hx
    rw [hrank] at hl ⊢
    obtain ⟨h1, h2, h3⟩ := enterQuarantine_done hs hg l (by decide) hl
    have hp : lossPhase s l c = .quarantine := if_pos hx
    rw [ha, if_pos rfl, hp]
    refine ⟨h1, fun _ => ⟨h2, ?_⟩, fun k => (nomatch hx.symm.trans k), fun k => (nomatch (retrainExceeds_auto hx).symm.trans k)⟩
    rw [capPartner_of (beforeLeave_poised hs l _ false).partner]
    exact h3
  | false =>
    have hrank : lossRank s l c = causeRank c false := if_neg (by rw [hx]; decide)
    rw [hrank, if_neg (by decide)]
    let u := beforeLeave l (causeRank c false) false s
    have hu : Poised l false s u := beforeLeave_poised hs l (causeRank c false) false
    have tu : TablesRise u := (beforeLeave_does ..).tables hs
    have hgu {v : State} (h : v.partners = u.partners) : ∀ p g, partnerGroup v p = some g → g < 32 := fun p g k => hg p g (by
      unfold partnerGroup at k ⊢
      rwa [partner_of (h.trans hu.partners)] at k)
    have hb : bit (cell u .bedLaneCfg l) 1 = bit (cell s .bedLaneCfg l) 1 := by
      obtain ⟨b, h⟩ := hu.cfg
      rw [h, if_neg (by decide), bit_setBit_other _ _ (by decide) (by decide)]
    have ha : autoLoss l c s = if bit (cell u .bedLaneCfg l) 1 then
        (if c = 1 then enterDetect l (leaveActive l c (count .bedLaneCnt l 31 24 1 u)) else enterTrain l (leaveActive l c (count .bedLaneCnt l 31 24 1 u)))
        else enterDown l (leaveActive l c (clearFld .bedLaneCfg l 0 0 u)) := if_neg (by rw [hx]; decide)
    have cnt_ne : ∀ x ∈ leaveCells l, regOff .bedLaneCnt l ≠ regOff x.1 x.2.1 x.2.2 := fun x hx => by
      rcases List.mem_cons.1 hx with rfl | hx
      · exact regOff_ne hcx hex nofun
      · exact acct_ne hcx (by decide) x hx
    have cfg_ne : ∀ x ∈ leaveCells l, regOff .bedLaneCfg l ≠ regOff x.1 x.2.1 x.2.2 := fun x hx => by
      rcases List.mem_cons.1 hx with rfl | hx
      · exact regOff_ne hfx hex nofun
      · exact acct_ne hfx (by decide) x hx
    cases h1 : bit (cell s .bedLaneCfg l) 1 with
    | true =>
      let v := count .bedLaneCnt l 31 24 1 u
      let w := leaveActive l c v
      have tv : TablesRise v := (count_does ..).tables tu
      have tw : TablesRise w := (leaveActive_does ..).tables tv
      have hw : Leaves l c v w := leaveActive_leaves tv (hgu rfl) l c
      have hr : RegsKept [(.bedLaneCnt, l, 0), (.bedLaneCfg, l, 0)] u v :=
        (regsKept_setCell tu.regs _ _ _ _).widen (List.cons_subset.2 ⟨.head _, List.nil_subset _⟩)
      have hcnt : cell w .bedLaneCnt l = incSat (cell u .bedLaneCnt l) 31 24 1 := (hw.regs _ _ _ cnt_ne).trans (cell_count tu.regs ..)
      have hp : lossPhase s l c = if c = 1 then .detect else .train := by
        unfold lossPhase
        rw [hx, h1]
        rfl
      rw [hb, h1, if_pos rfl] at ha
      rw [ha, hp]
      have fin {t : State} {phase : LanePhase} (ht : LaneEnd l phase w t) : LossDone l c phase u t ∧ LossEntries l c s u t :=
        ⟨lossDone_of (v := v) rfl rfl rfl hr hw ht, fun k => (nomatch hx.symm.trans k), fun _ _ => (cell_regs ht.regs ..).trans hcnt,
          fun k => (nomatch h1.symm.trans k)⟩
      split
      · exact fin (laneEnd_enterDetect tw.lanes l)
      · exact fin (laneEnd_enterTrain tw.lanes l)
    | false =>
      let v := clearFld .bedLaneCfg l 0 0 u
      let w := leaveActive l c v
      have tv : TablesRise v := (clearFld_does ..).tables tu
      have tw : TablesRise w := (leaveActive_does ..).tables tv
      have hw : Leaves l c v w := leaveActive_leaves tv (hgu rfl) l c
      have hr : RegsKept [(.bedLaneCnt, l, 0), (.bedLaneCfg, l, 0)] u v :=
        (regsKept_setCell tu.regs _ _ _ _).widen (List.cons_subset.2 ⟨.tail _ (.head _), List.nil_subset _⟩)
      have ht := laneEnd_enterDown tw.lanes l
      have hp : lossPhase s l c = .down := by
        unfold lossPhase
        rw [hx, h1]
        rfl
      rw [hb, h1, if_neg (by decide)] at ha
      rw [ha, hp]
      refine ⟨lossDone_of (v := v) rfl rfl rfl hr hw ht, fun k => (nomatch hx.symm.trans k), fun _ k => (nomatch h1.symm.trans k), fun _ => ⟨?_, ?_⟩⟩
      · rw [cell_regs ht.regs, hw.regs _ _ _ cnt_ne]
        exact cell_setCell_other tu.regs _ (regOff_ne hcx hfx nofun)
      · rw [cell_regs ht.regs, hw.regs _ _ _ cfg_ne]
        exact cell_setCell tu.regs ..

end Sys2Proof.Machine
end

section
/-!
SUPPORT. The rows on lane losses, code errors, retrain counts and ENABLE (R67, R75, R80 to R82, R88), and the statement on them settled.
-/
namespace Sys2Proof.Machine

/-! ### Loops over register entries -/

theorem forN_zero {σ : Type} (f : Nat → σ → σ) (s : σ) : forN 0 f s = s := rfl

theorem forN_succ {σ : Type} (n : Nat) (f : Nat → σ → σ) (s : σ) : forN (n + 1) f s = f n (forN n f s) := by
  unfold forN
  rw [List.range_succ, List.foldl_append]
  rfl

/-- A change of each of the first entries of a register, and of nothing else. -/
theorem forN_modCell {r : Reg} {f : Nat → Word → Word} {s : State} (hs : Rises s.regs) (n : Nat) (he : ∀ i < n, regExists r i 0 = true) :
    Rises (forN n (fun i => modCell r i 0 (f i)) s).regs ∧
      (∀ k < n, cell (forN n (fun i => modCell r i 0 (f i)) s) r k = f k (cell s r k)) ∧
      ∀ (r' : Reg) (i' j' : Nat), (∀ i < n, regOff r' i' j' ≠ regOff r i) → cell (forN n (fun i => modCell r i 0 (f i)) s) r' i' j' = cell s r' i' j' := by
  induction n with
  | zero => exact ⟨hs, fun k hk => absurd hk (Nat.not_lt_zero k), fun _ _ _ _ => rfl⟩
  | succ n ih =>
    obtain ⟨h1, h2, h3⟩ := ih fun i hi => he i (Nat.lt_succ_of_lt hi)
    rw [forN_succ]
    refine ⟨rises_setCell h1 .., fun k hk => ?_, fun r' i' j' hn => ?_⟩
    · by_cases e : k = n
      · subst e
        refine (cell_setCell h1 ..).trans (congrArg (f k) (h3 _ _ _ fun i hi => ?_))
        exact regOff_ne (he k hk) (he i (by omega)) fun e => by injection e with _ e; injection e with e; omega
      · refine (cell_setCell_other h1 _ ?_).trans (h2 k (by omega))
        exact regOff_ne (he k hk) (he n (by omega)) fun e' => by injection e' with _ e'; injection e' with e'; omega
    · exact (cell_setCell_other h1 _ (hn n (Nat.lt_succ_self n))).trans (h3 _ _ _ fun i hi => hn i (Nat.lt_succ_of_lt hi))

/-! ### The loss rows as one -/

/-- What loss `c` takes from the lane's link. -/
def Lane.unlinked (c : Nat) (x : Lane) : Lane :=
  { x with signal := if c = 1 then false else x.signal, cdr := if c = 1 ∨ c = 2 then false else x.cdr, sync := false }

/-- R75: what a loss does to a lane that is not ACTIVE: one on its way up returns to DETECT. -/
def lossBelow (c l : Nat) (s : State) : State :=
  if ((lane s l).phase = .train ∧ c = 1) ∨ (((lane s l).phase = .lock ∨ (lane s l).phase = .exchange) ∧ c ≠ 3) then enterDetect l s else s

/-- A loss of signal, clock or synchronisation. -/
def lossRow (c l : Nat) (s : State) : State :=
  let s := modLane l (.unlinked c) s
  if leavesFor s l (lossRank s l c) then autoLoss l c s else lossBelow c l s

theorem laneLossOfSignal_eq (l : Nat) (s : State) : laneLossOfSignal l s = lossRow 1 l s := by
  let u := modLane l (.unlinked 1) s
  have h : laneLossOfSignal l s = if leavesFor u l (lossRank u l 1) then autoLoss l 1 u else
      match (lane u l).phase with | .train | .lock | .exchange => enterDetect l u | _ => u := rfl
  rw [h]
  refine if_congr .rfl rfl ?_
  unfold lossBelow
  change _ = if ((lane u l).phase = _ ∧ _) ∨ _ then enterDetect l u else u
  cases (lane u l).phase <;> rfl

theorem laneCdrUnlock_eq (l : Nat) (s : State) : laneCdrUnlock l s = lossRow 2 l s := by
  let u := modLane l (.unlinked 2) s
  have h : laneCdrUnlock l s = if leavesFor u l (lossRank u l 2) then autoLoss l 2 u else
      match (lane u l).phase with | .lock | .exchange => enterDetect l u | _ => u := rfl
  rw [h]
  refine if_congr .rfl rfl ?_
  unfold lossBelow
  change _ = if ((lane u l).phase = _ ∧ _) ∨ _ then enterDetect l u else u
  cases (lane u l).phase <;> rfl

theorem laneSyncLoss_eq (l : Nat) (s : State) : laneSyncLoss l s = lossRow 3 l s := by
  let u := modLane l (.unlinked 3) s
  refine if_congr .rfl rfl ?_
  unfold lossBelow
  change u = if ((lane u l).phase = _ ∧ _) ∨ _ then enterDetect l u else u
  exact (if_neg (by simp)).symm

/-- What loss `c` reads of a lane, its link's bits leave as it was. -/
structure Unlinked (c : Nat) (l : Fin 256) (s u : State) : Prop where
  lane : LaneTo l ((Machine.lane s l).unlinked c) s u
  only : Only [.lanes] s u
  leaves : ∀ rank : Nat, leavesFor u l rank = leavesFor s l rank
  exceeds : retrainExceeds u l = retrainExceeds s l
  left : leftNow u l = leftNow s l
  tables : TablesRise u

theorem unlinked_of {s : State} (hs : TablesRise s) (c : Nat) (l : Fin 256) : Unlinked c l s (modLane l (.unlinked c) s) := by
  have hl := laneTo_modLane hs.lanes l (.unlinked c)
  have hleft : leftNow (modLane l (.unlinked c) s) l = leftNow s l := by
    unfold leftNow
    rw [hl.1]
    rfl
  refine ⟨hl, (modLane_does ..).only, fun rank => ?_, ?_, hleft, (modLane_does ..).tables hs⟩
  · unfold leavesFor
    rw [hleft, hl.1]
    rfl
  · unfold retrainExceeds
    rw [hleft]
    rfl

/-- A lane that does not leave: only its phase and its link change. -/
theorem lossRow_below {s : State} (hs : TablesRise s) {c : Nat} (l : Fin 256)
    (hl : leavesFor s l (lossRank s l c) = false) :
    ∃ x : Lane, LaneTo l x s (lossRow c l s) ∧ Only [.lanes] s (lossRow c l s) ∧ x.sync = false ∧ (c = 1 → x.signal = false) ∧
      (c = 1 ∨ c = 2 → x.cdr = false) ∧ x.lostCause = (lane s l).lostCause ∧
      ((lane s l).phase = .lock ∨ (lane s l).phase = .exchange → x.phase = (if c = 3 then (lane s l).phase else .detect)) ∧
      ((lane s l).phase = .train → x.phase = (if c = 1 then .detect else .train)) ∧
      ((lane s l).phase = .down ∨ (lane s l).phase = .detect ∨ (lane s l).phase = .quarantine → x.phase = (lane s l).phase) := by
  let u := modLane l (.unlinked c) s
  have hu : Unlinked c l s u := unlinked_of hs c l
  have hrow : lossRow c l s = lossBelow c l u := if_neg (by
    rw [hu.leaves, show lossRank u l c = lossRank s l c by unfold lossRank; rw [hu.exceeds], hl]; decide)
  rw [hrow]
  unfold lossBelow
  rw [hu.lane.1]
  split
  · next h =>
    refine ⟨((lane s l).unlinked c).detecting, hu.lane.1 ▸ hu.lane.trans (laneTo_enterDetect hu.tables.lanes l), hu.only.trans (enterDetect_does ..).only,
      rfl, fun k => if_pos k, fun _ => rfl, rfl, ?_⟩
    rcases h with ⟨h, rfl⟩ | ⟨h, k⟩
    · have h : (lane s l).phase = .train := h
      exact ⟨fun _ => rfl, fun _ => rfl, fun k => by rw [h] at k; simp at k⟩
    · have h : (lane s l).phase = .lock ∨ (lane s l).phase = .exchange := h
      exact ⟨fun _ => (if_neg k).symm, fun k => by rw [k] at h; simp at h, fun k => by rcases h with h | h <;> rw [h] at k <;> simp at k⟩
  · next h =>
    refine ⟨(lane s l).unlinked c, hu.lane, hu.only, rfl, fun k => if_pos k, fun k => if_pos k, rfl, fun k => ?_, fun k => ?_, fun _ => rfl⟩
    · have : c = 3 := by
        by_contra h3
        exact h (.inr ⟨k, h3⟩)
      exact (if_pos this).symm
    · have : c ≠ 1 := fun h1 => h (.inl ⟨k, h1⟩)
      rw [if_neg this]
      exact k

theorem lossCapture_of {s u : State} {l c : Nat} (h : (lane u l).partner = (lane s l).partner) (hb : u.btr = s.btr) :
    lostCapture u l c = lostCapture s l c := by
  unfold lostCapture nowGbt nowCourse nowBt
  rw [capPartner_of h, hb]

/-- A lane that leaves: as `autoLoss_done` says, from the state about to leave. -/
theorem lossRow_leaves {s : State} (hs : TablesRise s) (hn : NamesInRange s) {c : Nat} (l : Fin 256)
    (hl : leavesFor s l (lossRank s l c) = true) :
    ∃ u : State, Poised l false (modLane l (.unlinked c) s) u ∧
      LossDone l (if retrainExceeds s l then 9 else c) (lossPhase s l c) u (lossRow c l s) ∧ LossEntries l c s u (lossRow c l s) := by
  let v := modLane l (.unlinked c) s
  have hv : Unlinked c l s v := unlinked_of hs c l
  have hrank : lossRank v l c = lossRank s l c := by unfold lossRank; rw [hv.exceeds]
  have hlv : leavesFor v l (lossRank v l c) = true := by rw [hv.leaves, hrank, hl]
  have hrow : lossRow c l s = autoLoss l c v := if_pos hlv
  have hphase : lossPhase v l c = lossPhase s l c := by unfold lossPhase; rw [hv.exceeds]; rfl
  obtain ⟨h1, h2⟩ := autoLoss_done hv.tables (fun p g h => partnerGroup_lt (s := s) hn h) l hlv
  rw [hv.exceeds, hphase] at h1
  refine ⟨_, beforeLeave_poised hv.tables l _ false, hrow ▸ h1, hrow ▸ ⟨fun k => h2.exceeds (hv.exceeds.trans k), fun k => h2.retrains (hv.exceeds.trans k),
    h2.down⟩⟩

theorem fld_incSat {hi lo : Nat} (h : hi < 32) (w : Word) (n : Nat) :
    fld (incSat w hi lo n) hi lo = satTo (hi + 1 - lo) (fld w hi lo + n) % 2 ^ (hi + 1 - lo) := fld_setFld_same h ..

/-- R80 to R82: the clauses on a lane that leaves, by what stood before. -/
theorem lossRow_cases {s : State} (hs : TablesRise s) (hn : NamesInRange s) {c : Nat} (hc : c = 1 ∨ c = 2 ∨ c = 3) (l : Fin 256)
    (hl : leavesFor s l (lossRank s l c) = true) :
    (∀ k : Nat, k ≠ l.val → lane (lossRow c l s) k = lane s k) ∧ RegsKept (lossCells l) s (lossRow c l s) ∧
      (lane (lossRow c l s) l).sync = false ∧ (c = 1 → (lane (lossRow c l s) l).signal = false) ∧
      (c = 1 ∨ c = 2 → (lane (lossRow c l s) l).cdr = false) ∧
      (∀ m : LaneLeft, leftNow s l = some m → m.retrains < 256 →
        (lane (lossRow c l s) l).lostCause = (if retrainExceeds s l then 9 else c) ∧
        fld (cell (lossRow c l s) .bedLaneCnt l) 31 24 =
          (if retrainExceeds s l = true ∨ bit (cell s .bedLaneCfg l) 1 = false then m.retrains else min 255 (m.retrains + 1)) ∧
        ∀ r ∈ (lossRow c l s).flt.flying, r.source = Src.bedLaneLost ∨ r.source = Src.bedQuarantine → r.index = l → r.stamp = nowStamp s →
          r.capture.getD 2 0 = w32 (lane (lossRow c l s) l).lostCause) ∧
      (leftNow s l = none →
        (bit (cell s .bedLaneCfg l) 1 = false → (lane (lossRow c l s) l).phase = .down ∧ (lane (lossRow c l s) l).lostCause = c ∧
          Evented .bedLaneEvt l 17 s (lossRow c l s) ∧ cell (lossRow c l s) .bedLaneCfg l = setFld (cell s .bedLaneCfg l) 0 0 0 ∧
          Reported Src.bedLaneLost l (lostCapture s l c) s (lossRow c l s)) ∧
        (bit (cell s .bedLaneCfg l) 1 = true → retrainExceeds s l = false →
          (lane (lossRow c l s) l).phase = (if c = 1 then .detect else .train) ∧ (lane (lossRow c l s) l).lostCause = c ∧
          Evented .bedLaneEvt l 17 s (lossRow c l s) ∧ cell (lossRow c l s) .bedLaneCnt l = incSat (cell s .bedLaneCnt l) 31 24 1 ∧
          Reported Src.bedLaneLost l (lostCapture s l c) s (lossRow c l s)) ∧
        (retrainExceeds s l = true → (lane (lossRow c l s) l).phase = .quarantine ∧ (lane (lossRow c l s) l).lostCause = 9 ∧
          Reported Src.bedQuarantine l [w32 l, capPartner s l, w32 9] s (lossRow c l s) ∧
          cell (lossRow c l s) .bedLaneCnt l = cell s .bedLaneCnt l)) := by
  let v := modLane l (.unlinked c) s
  have hv : Unlinked c l s v := unlinked_of hs c l
  obtain ⟨u, hu, hd, he⟩ := lossRow_leaves hs hn l hl
  obtain ⟨hsync, hsignal, hcdr⟩ := hu.link
  rw [hv.lane.1] at hsync hsignal hcdr
  obtain ⟨k1, k2, k3⟩ := hd.link
  have hbu : u.btr = s.btr := hu.btr
  have hpart : (lane u l).partner = (lane s l).partner := by rw [hu.partner, hv.lane.1]; rfl
  have hisc : isLossCause c := by
    rcases hc with h | h | h
    · exact .inl h
    · exact .inr (.inl h)
    · exact .inr (.inr (.inl h))
  have exceeds_auto (h : bit (cell s .bedLaneCfg l) 1 = false) : retrainExceeds s l = false := by
    cases hx : retrainExceeds s l with
    | false => rfl
    | true => exact (nomatch h.symm.trans (retrainExceeds_auto hx))
  refine ⟨fun k hk => (hd.others k hk).trans ((hu.others k hk).trans (hv.lane.2 k hk)),
    ((RegsKept.of_regs rfl).trans hu.regs).trans hd.regs, k1 hsync, fun h => k2 (hsignal.trans (if_pos h)), fun h => k3 (hcdr.trans (if_pos h)),
    fun m hm hr => ⟨hd.lostCause, ?_, fun r hr hk hi hn => ?_⟩, fun hm => ?_⟩
  · obtain ⟨hcnt, -⟩ := hu.later m (hv.left.trans hm)
    have hfu : fld (cell u .bedLaneCnt l) 31 24 = m.retrains := by
      rw [hcnt, fld_setFld_same (by decide)]
      exact Nat.mod_eq_of_lt hr
    cases hx : retrainExceeds s l with
    | true => rw [(he.exceeds hx).1, hfu]; rfl
    | false =>
      cases hb : bit (cell s .bedLaneCfg l) 1 with
      | false => rw [(he.down hb).1, hfu]; rfl
      | true =>
        rw [he.retrains hx hb, fld_incSat (by decide), hfu]
        change (if m.retrains + 1 < 256 then m.retrains + 1 else 255) % 256 = min 255 (m.retrains + 1)
        split <;> omega
  · rcases hd.reports r hr hk hi with h | ⟨k, e, h⟩
    · exact absurd (hn.trans (nowStamp_btr (s := s) (t := v) rfl).symm) ((hu.later m (hv.left.trans hm)).2 r h hk hi)
    · rw [hd.lostCause, Option.some.inj e]
      exact h
  · obtain ⟨hregs, -⟩ := hu.first (hv.left.trans hm)
    have hcell : ∀ r i j, cell u r i j = cell s r i j := cell_regs hregs
    have lost (hx : retrainExceeds s l = false) : Evented .bedLaneEvt l 17 s (lossRow c l s) ∧
        Reported Src.bedLaneLost l (lostCapture s l c) s (lossRow c l s) := by
      rw [hx, if_neg (by decide)] at hd
      obtain ⟨h1, h2⟩ := hd.lost hisc
      rw [lossCapture_of hpart hbu] at h2
      exact ⟨evented_of h1 (hcell ..), h2.from hbu⟩
    have hcause := hd.lostCause
    have hphase := hd.phase
    unfold lossPhase at hphase
    refine ⟨fun hb => ?_, fun hb hx => ?_, fun hx => ?_⟩
    · have hx := exceeds_auto hb
      obtain ⟨l1, l2⟩ := lost hx
      rw [hx, hb] at hphase
      rw [hx] at hcause
      exact ⟨hphase, hcause, l1, (he.down hb).2.trans (congrArg (setFld · 0 0 0) (hcell ..)), l2⟩
    · obtain ⟨l1, l2⟩ := lost hx
      rw [hx, hb] at hphase
      rw [hx] at hcause
      exact ⟨hphase, hcause, l1, (he.retrains hx hb).trans (congrArg (incSat · 31 24 1) (hcell ..)), l2⟩
    · obtain ⟨e1, e2⟩ := he.exceeds hx
      rw [hx] at hphase hcause
      rw [capPartner_of hpart] at e2
      exact ⟨hphase, hcause, e2.from hbu, e1.trans (hcell ..)⟩

/-! ### Code errors (R67, R88) -/

theorem at_bedGrpCfg : ∀ g : Fin 32, regExists .bedGrpCfg g 0 = true := by decide +kernel

/-- R67, R88: a code error of a lane that is not DOWN. -/
theorem laneCodeError_counts {s : State} (hs : TablesRise s) (l : Fin 256) (hp : (lane s l).phase ≠ .down) :
    RegsKept [(.bedLaneErr, l, 0), (.bedLaneEvt, l, 0)] s (laneCodeError l s) ∧ (lane (laneCodeError l s) l).codeErrs = (lane s l).codeErrs + 1 ∧
      cell (laneCodeError l s) .bedLaneErr l = incSat (cell s .bedLaneErr l) 31 16 1 ∧
      (fld (cell s .bedGrpCfg (l.val / 8)) 23 8 < (lane s l).codeErrs + 1 → (lane s l).codeRaised = false →
        Reported Src.bedCodeErr l ([w32 l, w32 ((lane s l).codeErrs + 1)] ++ capCourse (nowCourse s)) s (laneCodeError l s) ∧
          Evented .bedLaneEvt l 21 s (laneCodeError l s) ∧ (lane (laneCodeError l s) l).codeRaised = true) ∧
      ((lane s l).codeErrs + 1 ≤ fld (cell s .bedGrpCfg (l.val / 8)) 23 8 ∨ (lane s l).codeRaised = true → (laneCodeError l s).flt = s.flt) := by
  obtain ⟨he, -, -, hr⟩ := at_lane l
  let f : Lane → Lane := fun x => { x with codeErrs := x.codeErrs + 1 }
  let g : Lane → Lane := fun x => { x with codeRaised := true }
  let u := modLane l f (count .bedLaneErr l 31 16 1 s)
  have ru : Rises u.regs := rises_count hs.regs ..
  have hu : lane u l = f (lane s l) := lane_modLane (s := count .bedLaneErr l 31 16 1 s) hs.lanes ..
  have hgrp : cell u .bedGrpCfg (l.val / 8) = cell s .bedGrpCfg (l.val / 8) :=
    cell_count_other hs.regs _ _ _ _ _ (regOff_ne (at_bedGrpCfg ⟨l.val / 8, by omega⟩) hr nofun)
  have herr : cell u .bedLaneErr l = incSat (cell s .bedLaneErr l) 31 16 1 := cell_count hs.regs ..
  have hevt : cell u .bedLaneEvt l = cell s .bedLaneEvt l := cell_count_other hs.regs _ _ _ _ _ (regOff_ne he hr nofun)
  have kept : RegsKept [(.bedLaneErr, l, 0), (.bedLaneEvt, l, 0)] s u := fun r i j hn => cell_count_other hs.regs _ _ _ _ _ (hn _ (.head _))
  have hc : laneCodeError l s = codeErrCheck l u := if_neg (by rw [beq_false_of_ne hp]; decide)
  have hk : codeErrCheck l u = if fld (cell s .bedGrpCfg (l.val / 8)) 23 8 < (lane s l).codeErrs + 1 && !(lane s l).codeRaised then
      raise Src.bedCodeErr l ([w32 l, w32 ((lane s l).codeErrs + 1)] ++ capCourse (nowCourse u)) (event .bedLaneEvt l 21 (modLane l g u)) else u := by
    unfold codeErrCheck
    dsimp only
    rw [hgrp, hu]
  rw [hc, hk]
  by_cases h : fld (cell s .bedGrpCfg (l.val / 8)) 23 8 < (lane s l).codeErrs + 1 ∧ (lane s l).codeRaised = false
  · have hcond : (decide (fld (cell s .bedGrpCfg (l.val / 8)) 23 8 < (lane s l).codeErrs + 1) && !(lane s l).codeRaised) = true := by
      rw [decide_eq_true h.1, h.2]; rfl
    rw [if_pos hcond]
    have hl : lane (raise Src.bedCodeErr l ([w32 l, w32 ((lane s l).codeErrs + 1)] ++ capCourse (nowCourse u))
        (event .bedLaneEvt l 21 (modLane l g u))) l = g (lane u l) :=
      (lane_of (event_lanes ..) l).trans (lane_modLane (rises_modLane hs.lanes l f) l g)
    rw [hl, hu, cell_regs (raise_regs ..), cell_event_other (s := modLane l g u) ru _ _ _ (regOff_ne hr he nofun)]
    refine ⟨(kept.trans (RegsKept.widen (regsKept_ev (s := modLane l g u) ru .bedLaneEvt l 21) (List.subset_cons_self ..))).trans (.of_regs (raise_regs ..)), rfl, herr,
      fun _ _ => ⟨reported_raise (event_btr ..), ?_, rfl⟩, fun k => ?_⟩
    · exact (evented_of (evented_event (s := modLane l g u) ru ..) hevt).keep (raise_regs ..)
    · rcases k with k | k
      · omega
      · exact (nomatch h.2.symm.trans k)
  · have hcond : ¬ (decide (fld (cell s .bedGrpCfg (l.val / 8)) 23 8 < (lane s l).codeErrs + 1) && !(lane s l).codeRaised) = true := by
      rw [Bool.and_eq_true, decide_eq_true_eq, Bool.not_eq_true']
      exact h
    rw [if_neg hcond, hu]
    exact ⟨kept, rfl, herr, fun h1 h2 => absurd ⟨h1, h2⟩ h, fun _ => rfl⟩

/-! ### The count of retrains (R81) -/

theorem retrainCountReset_due {s : State} (hs : TablesRise s) (h : nowCourse s % 65536 = 0 ∧ nowCycle s = 0) (l : Fin 256) :
    RegsKept ((List.range 256).map fun k => (Reg.bedLaneCnt, k, 0)) s (retrainCountReset s) ∧
      cell (retrainCountReset s) .bedLaneCnt l = setFld (cell s .bedLaneCnt l) 31 24 0 := by
  have he : retrainCountReset s = forN 256 (fun i => modCell .bedLaneCnt i 0 (fun w => setFld w 31 24 0)) s := if_pos h
  obtain ⟨-, h2, h3⟩ := forN_modCell (r := .bedLaneCnt) (f := fun _ w => setFld w 31 24 0) hs.regs 256 fun i hi => (at_lane ⟨i, hi⟩).2.1
  rw [he]
  exact ⟨fun r i j hn => h3 r i j fun k hk => hn (.bedLaneCnt, k, 0) (List.mem_map.2 ⟨k, List.mem_range.2 hk, rfl⟩), h2 l l.isLt⟩

/-! ### A write of ENABLE (R75, R80) -/

/-- R80: ENABLE cleared takes the lane to DOWN. -/
theorem forceDown_four {s : State} (hs : TablesRise s) (hg : ∀ p g, partnerGroup s p = some g → g < 32) (l : Fin 256) :
    (∀ k : Nat, k ≠ l.val → lane (forceDown l 4 s) k = lane s k) ∧ (lane (forceDown l 4 s) l).phase = .down ∧
      cell (forceDown l 4 s) .bedLaneCfg l = cell s .bedLaneCfg l ∧
      ((lane s l).phase = .active → leftNow s l = none → (lane (forceDown l 4 s) l).lostCause = 4 ∧ Evented .bedLaneEvt l 17 s (forceDown l 4 s)) ∧
      (∀ m : LaneLeft, leftNow s l = some m → 4 < m.rank → m.retrains < 256 → (lane (forceDown l 4 s) l).lostCause = 4 ∧
        fld (cell (forceDown l 4 s) .bedLaneCnt l) 31 24 = m.retrains ∧
        ∀ r ∈ (forceDown l 4 s).flt.flying, r.source = Src.bedLaneLost ∨ r.source = Src.bedQuarantine → r.index = l → r.stamp ≠ nowStamp s) ∧
      ((lane s l).phase ≠ .active → (∀ m : LaneLeft, leftNow s l = some m → m.rank ≤ 4) →
        (forceDown l 4 s).flt = s.flt ∧ (forceDown l 4 s).groups = s.groups) := by
  obtain ⟨hex, hcx, hfx, -⟩ := at_lane l
  cases hl : leavesFor s l 4 with
  | true =>
    let u := beforeLeave l 4 true s
    let w := leaveActive l 4 u
    have hu : Poised l true s u := beforeLeave_poised hs l 4 true
    have tu : TablesRise u := (beforeLeave_does ..).tables hs
    have tw : TablesRise w := (leaveActive_does ..).tables tu
    have hw : Leaves l 4 u w := leaveActive_leaves tu (fun p g h => hg p g (by
      unfold partnerGroup at h ⊢
      rwa [partner_of hu.partners] at h)) l 4
    have ht := laneEnd_enterDown tw.lanes l
    have he : forceDown l 4 s = enterDown l w := if_pos hl
    have keep {r : Reg} (hr : regExists r l 0 = true) (h1 : r ≠ .bedLaneEvt) (h2 : r ≠ .bedAcctStat) : cell w r l = cell u r l :=
      hw.regs _ _ _ fun x hx => by
        rcases List.mem_cons.1 hx with rfl | hx
        · exact regOff_ne hr hex fun e => h1 (congrArg Prod.fst e)
        · exact acct_ne hr h2 x hx
    have hcause : (lane (enterDown l w) l).lostCause = 4 := ht.lostCause.trans (by rw [hw.lane.1]; rfl)
    rw [he]
    refine ⟨fun k hk => (ht.others k hk).trans ((hw.lane.2 k hk).trans (hu.others k hk)), ht.phase, ?_, fun _ hm => ⟨hcause, ?_⟩,
      fun m hm _ hr => ⟨hcause, ?_, fun r hk hs hi => ?_⟩, fun hp hm => ?_⟩
    · obtain ⟨b, hb⟩ := hu.cfg
      exact (cell_regs ht.regs ..).trans ((keep hfx nofun nofun).trans (hb.trans (if_pos rfl)))
    · exact (evented_of hw.evented (cell_regs (hu.first hm).1 ..)).keep ht.regs
    · rw [cell_regs ht.regs, keep hcx nofun nofun, (hu.later m hm).1, fld_setFld_same (by decide)]
      exact Nat.mod_eq_of_lt hr
    · rw [ht.flt] at hk
      rcases hw.reports r hk hs hi with h | ⟨_, h, -⟩
      · exact (hu.later m hm).2 r h hs hi
      · cases h
    · unfold leavesFor at hl
      rw [beq_false_of_ne hp, Bool.false_or] at hl
      cases h : leftNow s l with
      | none => rw [h] at hl; cases hl
      | some m =>
        rw [h] at hl
        exact absurd (hm m h) (Nat.not_le.2 (of_decide_eq_true hl))
  | false =>
    have he : forceDown l 4 s = if (lane s l).phase == .down then s else enterDown l s := if_neg (by
      rw [show causeRank 4 true = 4 from rfl, hl]; decide)
    have hna : (lane s l).phase ≠ .active := fun h => by
      unfold leavesFor at hl
      rw [h] at hl
      cases hl
    have hnm : ∀ m, leftNow s l = some m → ¬ 4 < m.rank := fun m h => by
      unfold leavesFor at hl
      rw [h, Bool.or_eq_false_iff] at hl
      exact of_decide_eq_false hl.2
    suffices h : (∀ k : Nat, k ≠ l.val → lane (forceDown l 4 s) k = lane s k) ∧ (lane (forceDown l 4 s) l).phase = .down ∧
        (forceDown l 4 s).regs = s.regs ∧ (forceDown l 4 s).flt = s.flt ∧ (forceDown l 4 s).groups = s.groups by
      obtain ⟨h1, h2, h3, h4, h5⟩ := h
      exact ⟨h1, h2, cell_regs h3 .., fun h _ => absurd h hna, fun m h k _ => absurd k (hnm m h), fun _ _ => ⟨h4, h5⟩⟩
    rw [he]
    split
    · next h => exact ⟨fun _ _ => rfl, beq_iff_eq.1 h, rfl, rfl, rfl⟩
    · have ht := laneEnd_enterDown hs.lanes l
      exact ⟨ht.others, ht.phase, ht.regs, ht.flt, rfl⟩

/-- R75: a lane whose ENABLE is set. -/
theorem laneCfg_enabled {s : State} (hs : TablesRise s) (l : Nat) :
    (∀ k : Nat, k ≠ l → lane (tryDetect l (modLane l (fun x => { x with failArmed := true }) s)) k = lane s k) ∧
      (tryDetect l (modLane l (fun x => { x with failArmed := true }) s)).regs = s.regs ∧
      (bit (cell s .bedLaneCfg l) 0 = true → (lane s l).phase = .down →
        (lane (tryDetect l (modLane l (fun x => { x with failArmed := true }) s)) l).phase =
          (if domOn s (l / 8) && !isIsolated s (.bedGroup (l / 8)) then .detect else .down) ∧
        (lane (tryDetect l (modLane l (fun x => { x with failArmed := true }) s)) l).failArmed = true) := by
  let u := modLane l (fun x => { x with failArmed := true }) s
  obtain ⟨h1, h2⟩ := laneTo_modLane hs.lanes l fun x => { x with failArmed := true }
  obtain ⟨d1, d2⟩ := laneTo_enterDetect (s := u) (rises_modLane hs.lanes ..) l
  have hen : laneEnabled u l = (domOn s (l / 8) && !isIsolated s (.bedGroup (l / 8)) && bit (cell s .bedLaneCfg l) 0) := rfl
  change (∀ k : Nat, k ≠ l → lane (tryDetect l u) k = lane s k) ∧ (tryDetect l u).regs = s.regs ∧ (_ → _ → (lane (tryDetect l u) l).phase = _ ∧
    (lane (tryDetect l u) l).failArmed = true)
  unfold tryDetect
  rw [hen, h1]
  split
  · next h =>
    refine ⟨fun k hk => (d2 k hk).trans (h2 k hk), rfl, fun hb hp => ?_⟩
    rw [hb, Bool.and_true] at h
    rw [d1, h1, if_pos (by simp only [Bool.and_eq_true] at h; exact Bool.and_eq_true .. ▸ h.2)]
    exact ⟨rfl, rfl⟩
  · next h =>
    refine ⟨h2, rfl, fun hb hp => ?_⟩
    have hn : ¬ (domOn s (l / 8) && !isIsolated s (.bedGroup (l / 8))) = true := fun k => h (by rw [hb, k, hp]; rfl)
    rw [h1, if_neg hn]
    exact ⟨hp, rfl⟩

theorem bit_mergeMask_in {m c w : Word} {b : Nat} (h : m.getLsbD b = true) : bit (mergeMask m c w) b = bit w b := by
  show (mergeMask m c w).getLsbD b = w.getLsbD b
  rw [mergeMask, BitVec.getLsbD_or, BitVec.getLsbD_and, BitVec.getLsbD_and, BitVec.getLsbD_not, h]
  simp

/-- Settles O34. -/
theorem laneLoss : Obligations.LaneLoss := by
  refine ⟨fun l s hu hs hn => ⟨fun row c hrow => ?_, ⟨_, upNext_up hu, (laneCodeError_does l s).only.widen rfl, ?_⟩, fun h => ?_, fun h1 h2 => ?_⟩,
    fun p l w s hs hn h => ?_⟩
  · have hc : (c = 1 ∨ c = 2 ∨ c = 3) ∧ exec row s = .next (lossRow c l s) ∧
        Only (reportZones ++ [.quo, .lanes, .downlinks, .groups]) s (lossRow c l s) := by
      simp only [List.mem_cons, List.not_mem_nil, or_false, Prod.mk.injEq] at hrow
      rcases hrow with ⟨rfl, rfl⟩ | ⟨rfl, rfl⟩ | ⟨rfl, rfl⟩
      · exact ⟨.inl rfl, (upNext_up hu).trans (congrArg _ (laneLossOfSignal_eq l s)), laneLossOfSignal_eq l s ▸ (laneLossOfSignal_does l s).only.widen rfl⟩
      · exact ⟨.inr (.inl rfl), (upNext_up hu).trans (congrArg _ (laneCdrUnlock_eq l s)), laneCdrUnlock_eq l s ▸ (laneCdrUnlock_does l s).only.widen rfl⟩
      · exact ⟨.inr (.inr rfl), (upNext_up hu).trans (congrArg _ (laneSyncLoss_eq l s)), laneSyncLoss_eq l s ▸ (laneSyncLoss_does l s).only.widen rfl⟩
    obtain ⟨hc, hx, ho⟩ := hc
    have hrank (m : LaneLeft) (hm : leftNow s l = some m) (hp : (lane s l).phase ≠ .active) :
        leavesFor s l (lossRank s l c) = decide (lossRank s l c < m.rank) := by
      unfold leavesFor
      rw [beq_false_of_ne hp, hm]
      rfl
    refine ⟨_, hx, ho, ?_⟩
    cases hl : leavesFor s l (lossRank s l c) with
    | true =>
      obtain ⟨k1, k2, k3, k4, k5, k6, k7⟩ := lossRow_cases hs hn hc l hl
      refine ⟨k1, k2, k3, k4, k5, fun m hm => ⟨fun hr hp => ?_, fun _ hr => k6 m hm hr⟩, fun _ hm limit hlim => ?_, nofun⟩
      · rw [hrank m hm hp] at hl
        exact absurd (of_decide_eq_true hl) (Nat.not_lt.2 hr)
      · obtain ⟨a1, a2, a3⟩ := k7 hm
        have hx : retrainExceeds s l = (bit (cell s .bedLaneCfg l) 1 && limit != 0 && decide (limit < fld (cell s .bedLaneCnt l) 31 24 + 1)) := by
          unfold retrainExceeds
          rw [hm, ← hlim]
        refine ⟨a1, fun hb hle => a2 hb ?_, fun hb h0 hlt => a3 ?_⟩
        · rw [hx]
          rcases hle with h0 | hle
          · rw [h0]; simp
          · rw [decide_eq_false (by omega), Bool.and_false]
        · rw [hx, hb, decide_eq_true hlt, bne_iff_ne.2 h0]
          rfl
    | false =>
      obtain ⟨x, ⟨h1, h2⟩, h3, h4, h5, h6, h7, h8, h9, h10⟩ := lossRow_below hs l hl
      rw [h1]
      have hregs : (lossRow c l s).regs = s.regs := h3.same .regs (by decide)
      refine ⟨h2, .of_regs hregs, h4, h5, h6, fun m hm => ⟨fun _ _ => ⟨h7, h3.same .flt (by decide), cell_regs hregs ..⟩, fun hr _ => ?_⟩,
        fun hp _ => ?_, fun _ => ⟨h8, h9, h10⟩⟩
      · unfold leavesFor at hl
        rw [hm] at hl
        dsimp only at hl
        rw [decide_eq_true hr, Bool.or_true] at hl
        cases hl
      · unfold leavesFor at hl
        rw [hp] at hl
        cases hl
  · by_cases hp : (lane s l).phase = .down
    · have : laneCodeError l s = s := if_pos (by rw [hp]; rfl)
      rw [this]
      exact ⟨.refl _ _, fun _ => rfl, fun k => absurd hp k⟩
    · obtain ⟨h1, h2⟩ := laneCodeError_counts hs l hp
      exact ⟨h1, fun k => absurd k hp, fun _ => h2⟩
  · exact (upNext_up hu).trans (congrArg _ (if_neg h))
  · exact ⟨_, upNext_up hu, (retrainCountReset_does s).only, retrainCountReset_due hs ⟨h1, h2⟩ l⟩
  · let u := setCell .bedLaneCfg l 0 (mergeMask (storeMask .bedLaneCfg) (cell s .bedLaneCfg l) w) s
    have tu : TablesRise u := (setCell_does ..).tables hs
    have hcfg : cell u .bedLaneCfg l = mergeMask (storeMask .bedLaneCfg) (cell s .bedLaneCfg l) w := cell_setCell hs.regs ..
    have hw : exec (.laneEnableWrite p l w) s = .next (laneCfgWritten l (cell s .bedLaneCfg l) u) := by
      refine (hostRow_may h (at_bedLaneCfg l)).trans (congrArg _ ?_)
      rw [writeReg_plain (by decide) (by decide) (by decide)]
      rfl
    have hbit : bit (cell u .bedLaneCfg l) 0 = bit w 0 := by rw [hcfg, bit_mergeMask_in (by decide)]
    have hcnt : cell u .bedLaneCnt l = cell s .bedLaneCnt l := cell_setCell_other hs.regs _ (regOff_ne (at_lane l).2.1 (at_lane l).2.2.1 nofun)
    have hevt : cell u .bedLaneEvt l = cell s .bedLaneEvt l := cell_setCell_other hs.regs _ (regOff_ne (at_lane l).1 (at_lane l).2.2.1 nofun)
    refine ⟨_, hw, ?_⟩
    unfold laneCfgWritten
    rw [hbit]
    dsimp only
    cases hb : bit w 0 with
    | false =>
      obtain ⟨k1, k2, k3, k4, k5, k6⟩ := forceDown_four tu (fun p g h => partnerGroup_lt (s := s) hn h) l
      rw [if_pos (by decide : (!false) = true)]
      exact ⟨k3.trans hcfg, k1, fun _ => ⟨k2, fun hp hm => ⟨(k4 hp hm).1, evented_of (k4 hp hm).2 hevt⟩, k5, k6⟩, nofun, nofun⟩
    | true =>
      rw [if_neg (by decide : ¬ (!true) = true)]
      cases ho : bit (cell s .bedLaneCfg l) 0 with
      | false =>
        obtain ⟨k1, k2, k3⟩ := laneCfg_enabled tu l
        rw [if_pos (by decide : (!false) = true)]
        exact ⟨(cell_regs k2 ..).trans hcfg, k1, nofun, fun _ _ hp => k3 (hbit.trans hb) hp, nofun⟩
      | true =>
        rw [if_neg (by decide : ¬ (!true) = true)]
        exact ⟨hcfg, fun _ _ => rfl, nofun, nofun, fun _ _ => rfl⟩

end Sys2Proof.Machine
end

section
/-!
SUPPORT. Capability records of lanes (R75, R78, R79) and fast commands of downlinks (R68, R77, R87, R104 to R107), and the statement on them settled.
-/
namespace Sys2Proof.Machine

/-! ### A record that is judged good -/

theorem at_bedDl : ∀ d : Fin 64, regExists .bedDlEvt d 0 = true ∧ regExists .bedDlStat d 0 = true ∧ regExists .bedDlFc d 0 = true ∧
    regExists .bedDlFcArg d 0 = true ∧ regExists .bedDlCfg d 0 = true := by decide +kernel

/-- R72, R73: what an exchange settles on the downlink. -/
theorem exchangeSettles_settles {s : State} (hs : TablesRise s) {p : Nat} (hp : p < 64) (r : BitVec 128) :
    (downlink (exchangeSettles p r s) p).eqEnd = bit (cell s .bedDlCfg p) 16 ∧
      (∀ l : Fin 256, cell (exchangeSettles p r s) .bedLaneEvt l = cell s .bedLaneEvt l ∧
        cell (exchangeSettles p r s) .bedLaneCnt l = cell s .bedLaneCnt l) := by
  let e := bit (cell s .bedDlCfg p) 16
  let fb := e && recFld r 17 17 == 0
  let u := modDl p (fun d => { d with eqEnd := e, eqFallback := fb }) s
  have hu : (downlink u p).eqEnd = e := by rw [downlink_modDl hs.downlinks]
  have he : exchangeSettles p r s = if fb then event .bedDlEvt p 17 u else u := rfl
  rw [he]
  split
  · refine ⟨by rw [downlink_of (event_downlinks ..)]; exact hu, fun l => ⟨?_, ?_⟩⟩
    · exact cell_event_other (s := u) hs.regs _ _ _ (regOff_ne (at_lane l).1 (at_bedDl ⟨p, hp⟩).1 nofun)
    · exact cell_event_other (s := u) hs.regs _ _ _ (regOff_ne (at_lane l).2.1 (at_bedDl ⟨p, hp⟩).1 nofun)
  · exact ⟨hu, fun _ => ⟨rfl, rfl⟩⟩

/-- A lane that enters ACTIVE. -/
def Lane.activated (x : Lane) : Lane :=
  { x with phase := .active, waitBind := false, lostReported := false, failArmed := true, noData := true, checkFrom := none }

/-- R75, R77, R84: entry to ACTIVE. -/
theorem enterActive_enters {s : State} (hs : TablesRise s) (l : Fin 256) :
    LaneTo l (lane s l).activated s (enterActive l s) ∧ Evented .bedLaneEvt l 16 s (enterActive l s) ∧
      cell (enterActive l s) .bedLaneCnt l = incWrap (cell s .bedLaneCnt l) 15 0 ∧
      ∀ p : Nat, (lane s l).partner = some p → laneIndex s l ∈ (downlink (enterActive l s) p).actives ∧
        (downlink (enterActive l s) p).eqEnd = (downlink s p).eqEnd := by
  obtain ⟨hev, hcn, -, -⟩ := at_lane l
  let s1 := modLane l Lane.activated s
  let s2 := event .bedLaneEvt l 16 s1
  let s3 := countWrap .bedLaneCnt l 15 0 s2
  let s4 := closeLossAccount l (nowGbt s3) s3
  have ha : enterActive l s = activeDue l s4 := rfl
  have o4 := (closeLossAccount_does l (nowGbt s3) s3).only
  have o5 := (activeDue_does l s4).only
  have h1 := laneTo_modLane hs.lanes l Lane.activated
  have hl4 : s4.lanes = s1.lanes := (o4.same .lanes (by decide)).trans (event_lanes ..)
  have hr : (enterActive l s).regs = s3.regs := (o5.same .regs (by decide)).trans (o4.same .regs (by decide))
  have r2 : Rises s2.regs := rises_event (s := s1) hs.regs ..
  have hd4 : s4.downlinks = s.downlinks := (o4.same .downlinks (by decide)).trans (event_downlinks ..)
  have hp4 : s4.partners = s.partners := (o4.same .partners (by decide)).trans (event_partners ..)
  refine ⟨(h1.keep hl4).keep (o5.same .lanes (by decide)), ?_, ?_, fun p hp => ?_⟩
  · refine Evented.keep (u := s3) ?_ hr
    unfold Evented
    rw [show cell s3 .bedLaneEvt l = cell s2 .bedLaneEvt l from cell_setCell_other r2 _ (regOff_ne hev hcn nofun)]
    exact cell_event (s := s1) hs.regs ..
  · rw [cell_regs hr]
    refine (cell_setCell r2 ..).trans (congrArg (incWrap · 15 0) ?_)
    exact cell_event_other (s := s1) hs.regs _ _ _ (regOff_ne hcn hev nofun)
  · have hpart : (lane s4 l).partner = some p := by rw [lane_of hl4, h1.1]; exact hp
    have hidx : laneIndex s4 l = laneIndex s l := laneIndex_of (hpart.trans hp.symm) hp4
    rw [ha]
    unfold activeDue
    rw [hpart]
    dsimp only
    rw [downlink_modDl (hd4 ▸ hs.downlinks), hidx]
    exact ⟨mem_sortNat.2 (List.mem_cons_self ..), by rw [downlink_of hd4]⟩

/-! ### A record that does not match (R79) -/

/-- What the quarantine of lane `l` leaves of the others, and of reports that are not of its own loss. -/
structure Quarantines (l c : Nat) (s t : State) : Prop where
  phase : (lane t l).phase = .quarantine
  cause : (lane t l).lostCause = c
  record : (lane t l).record = (lane s l).record
  others : ∀ k : Nat, k ≠ l → lane t k = lane s k
  partners : t.partners = s.partners
  btr : t.btr = s.btr
  keeps : ∀ r ∈ s.flt.flying, (r.source ≠ Src.bedLaneLost ∧ r.source ≠ Src.bedQuarantine) ∨ r.index ≠ l → r ∈ t.flt.flying
  told : Reported Src.bedQuarantine l [w32 l, capPartner s l, w32 c] s t

theorem enterQuarantine_quarantines {s : State} (hs : TablesRise s) (hg : ∀ p g, partnerGroup s p = some g → g < 32) (l : Fin 256) (c : Nat) :
    Quarantines l c s (enterQuarantine l c s) := by
  let u := beforeLeave l (causeRank c false) false s
  let w := leaveActive l c u
  let v := if leavesFor s l (causeRank c false) then w else s
  have hu := beforeLeave_poised hs l (causeRank c false) false
  have tu : TablesRise u := (beforeLeave_does ..).tables hs
  have tw : TablesRise w := (leaveActive_does ..).tables tu
  have hw : Leaves l c u w := leaveActive_leaves tu (fun p g h => hg p g (by
    unfold partnerGroup at h ⊢
    rwa [partner_of hu.partners] at h)) l c
  have hv : TablesRise v ∧ (lane v l).partner = (lane s l).partner ∧ (lane v l).record = (lane s l).record ∧
      (∀ k : Nat, k ≠ l → lane v k = lane s k) ∧ v.partners = s.partners ∧ v.btr = s.btr ∧
      ∀ r ∈ s.flt.flying, (r.source ≠ Src.bedLaneLost ∧ r.source ≠ Src.bedQuarantine) ∨ r.index ≠ l → r ∈ v.flt.flying := by
    by_cases h : leavesFor s l (causeRank c false)
    · have he : v = w := if_pos h
      rw [he]
      refine ⟨tw, ?_, ?_, fun k hk => (hw.lane.2 k hk).trans (hu.others k hk), hw.partners.trans hu.partners, hw.btr.trans hu.btr,
        fun r hr hk => hw.told r (hu.keeps r hr hk)⟩
      · rw [hw.lane.1]; exact hu.partner
      · rw [hw.lane.1]; exact hu.record
    · have he : v = s := if_neg h
      rw [he]
      exact ⟨hs, rfl, rfl, fun _ _ => rfl, rfl, rfl, fun _ hr _ => hr⟩
  obtain ⟨v1, v2, v3, v4, v5, v6, v7⟩ := hv
  let q := modLane l (.quarantined c) v
  obtain ⟨q1, q2⟩ := laneTo_modLane v1.lanes l (.quarantined c)
  have hq : (lane q l).partner = (lane s l).partner := by rw [q1]; exact v2
  have he : enterQuarantine l c s = raise Src.bedQuarantine l [w32 l, capPartner q l, w32 c] (event .bedLaneEvt l 20 q) := rfl
  rw [he, capPartner_of hq]
  have hl : (raise Src.bedQuarantine l [w32 l, capPartner s l, w32 c] (event .bedLaneEvt l 20 q)).lanes = q.lanes := event_lanes ..
  refine ⟨by rw [lane_of hl, q1]; rfl, by rw [lane_of hl, q1]; rfl, by rw [lane_of hl, q1]; exact v3,
    fun k hk => (lane_of hl k).trans ((q2 k hk).trans (v4 k hk)), (event_partners ..).trans v5, (event_btr ..).trans v6,
    fun r hr hk => raise_flying_mono _ _ _ _ _ _ _ r ?_, reported_raise ((event_btr ..).trans v6)⟩
  rw [event_flt]
  exact v7 r hr hk

/-- The lanes of the partner that a mismatch takes along (R79). -/
def quarantineOthers (l : Nat) (k : Nat) (t : State) : State :=
  if k ≠ l && ((lane t k).phase == .active || (lane t k).phase == .exchange) then enterQuarantine k 7 t else t

/-- What the quarantine of the partner's other lanes leaves. -/
structure OthersQuarantined (l : Nat) (ks : List Nat) (s t : State) : Prop where
  own : lane t l = lane s l
  outside : ∀ k : Nat, k ∉ ks → lane t k = lane s k
  taken : ∀ k ∈ ks, k ≠ l → (lane s k).phase = .active ∨ (lane s k).phase = .exchange → (lane t k).phase = .quarantine ∧ (lane t k).lostCause = 7
  keeps : ∀ r ∈ s.flt.flying, (r.source ≠ Src.bedLaneLost ∧ r.source ≠ Src.bedQuarantine) ∨ r.index = l → r ∈ t.flt.flying

theorem others_quarantined {s : State} (hs : TablesRise s) (hg : ∀ p g, partnerGroup s p = some g → g < 32) (l : Nat) {ks : List Nat} (hk : ks.Nodup)
    (hb : ∀ k ∈ ks, k < 256) : OthersQuarantined l ks s (forL ks (quarantineOthers l) s) := by
  induction ks generalizing s with
  | nil => exact ⟨rfl, fun _ _ => rfl, nofun, fun _ h _ => h⟩
  | cons k ks ih =>
    obtain ⟨hn, hk⟩ := List.nodup_cons.1 hk
    have hkb : k < 256 := hb k (.head _)
    rw [forL_cons]
    by_cases h : k ≠ l ∧ ((lane s k).phase = .active ∨ (lane s k).phase = .exchange)
    · have he : quarantineOthers l k s = enterQuarantine k 7 s := if_pos (by simpa using h)
      have hq := enterQuarantine_quarantines hs hg ⟨k, hkb⟩ 7
      have ht := (enterQuarantine_does k 7 s).tables hs
      rw [he]
      have hi := ih ht (fun p g hp => hg p g (by
        unfold partnerGroup at hp ⊢
        rwa [partner_of hq.partners] at hp)) hk fun q hq => hb q (.tail _ hq)
      refine ⟨hi.own.trans (hq.others l h.1.symm), fun q hq' => ?_, fun q hq' hql hp => ?_, fun r hr hk' => hi.keeps r (hq.keeps r hr ?_) hk'⟩
      · exact (hi.outside q fun m => hq' (.tail _ m)).trans (hq.others q fun e => hq' (List.mem_cons.2 (.inl e)))
      · rcases List.mem_cons.1 hq' with rfl | hm
        · rw [hi.outside q hn]
          exact ⟨hq.phase, hq.cause⟩
        · refine hi.taken q hm hql ?_
          rw [hq.others q (fun e => hn (by rw [← show q = k from e]; exact hm))]
          exact hp
      · exact hk'.imp id fun e (e' : r.index = k) => h.1 (e'.symm.trans e)
    · have he : quarantineOthers l k s = s := if_neg (by simpa using h)
      rw [he]
      have hi := ih hs hg hk fun q hq => hb q (.tail _ hq)
      refine ⟨hi.own, fun q hq' => hi.outside q fun m => hq' (.tail _ m), fun q hq' hql hp => ?_, hi.keeps⟩
      rcases List.mem_cons.1 hq' with rfl | hm
      · exact absurd ⟨hql, hp⟩ h
      · exact hi.taken q hm hql hp

theorem nodup_partnerLanes (s : State) (p : Nat) : (partnerLanes s p).Nodup := by
  unfold partnerLanes
  split
  · exact List.nodup_range.map fun a b h => by simpa using h
  · exact List.nodup_nil

/-- R110: the lanes of a bound partner are lanes. -/
theorem partnerLanes_lt {s : State} (h : NamesInRange s) {p k : Nat} (hk : k ∈ partnerLanes s p) : k < 256 := by
  unfold partnerLanes at hk
  cases hb : (partner s p).binding with
  | none => rw [hb] at hk; cases hk
  | some b =>
    rw [hb] at hk
    obtain ⟨i, hi, rfl⟩ := List.mem_map.1 hk
    have := (h.bound p b hb).2
    have := List.mem_range.1 hi
    omega

/-- R79: what a mismatch on a bound lane does. -/
theorem bindMismatch_quarantines {s : State} (hs : TablesRise s) (hn : NamesInRange s) (l : Fin 256) {p : Nat} (b : Binding) (r : BitVec 128) :
    (lane (bindMismatch l p b r s) l).phase = .quarantine ∧ (lane (bindMismatch l p b r s) l).lostCause = 7 ∧
      (lane (bindMismatch l p b r s) l).record = (lane s l).record ∧
      Reported Src.bedExchMismatch l [w32 l, w32 (recFld r 127 96), w32 (recFld r 95 64)] s (bindMismatch l p b r s) ∧
      Reported Src.bedQuarantine l [w32 l, capPartner s l, w32 7] s (bindMismatch l p b r s) ∧
      (recPartnerId r ≠ recPartnerId b.record → ∀ k ∈ partnerLanes s p, (lane s k).phase = .active ∨ (lane s k).phase = .exchange →
        (lane (bindMismatch l p b r s) k).phase = .quarantine ∧ (lane (bindMismatch l p b r s) k).lostCause = 7) := by
  let u := raise Src.bedExchMismatch l [w32 l, w32 (recFld r 127 96), w32 (recFld r 95 64)] (event .bedLaneEvt l 19 s)
  let v := enterQuarantine l 7 u
  have tu : TablesRise u := (raise_does ..).tables ((event_does ..).tables hs)
  have hlu : u.lanes = s.lanes := event_lanes ..
  have hpu : u.partners = s.partners := event_partners ..
  have hgu : ∀ p g, partnerGroup u p = some g → g < 32 := fun p g h => partnerGroup_lt hn (by
    unfold partnerGroup at h ⊢
    rwa [partner_of hpu] at h)
  have hq : Quarantines l 7 u v := enterQuarantine_quarantines tu hgu l 7
  have tv : TablesRise v := (enterQuarantine_does ..).tables tu
  have hcap : capPartner u l = capPartner s l := capPartner_of (by rw [lane_of hlu])
  have ru : Reported Src.bedExchMismatch l [w32 l, w32 (recFld r 127 96), w32 (recFld r 95 64)] s u := reported_raise (event_btr ..)
  have rv : Reported Src.bedExchMismatch l [w32 l, w32 (recFld r 127 96), w32 (recFld r 95 64)] s v := by
    obtain ⟨x, h1, h2, h3⟩ := ru
    exact ⟨x, hq.keeps x h1 (.inl (by rw [h2]; decide)), h2, h3⟩
  have qv : Reported Src.bedQuarantine l [w32 l, capPartner s l, w32 7] s v := hcap ▸ hq.told.from (event_btr ..)
  have hrec : (lane v l).record = (lane s l).record := by rw [hq.record, lane_of hlu]
  have hlanes : partnerLanes v p = partnerLanes s p := by
    unfold partnerLanes
    rw [partner_of (hq.partners.trans hpu)]
  have he : bindMismatch l p b r s = if recPartnerId r = recPartnerId b.record then v else forL (partnerLanes v p) (quarantineOthers l) v := rfl
  rw [he]
  split
  · next h => exact ⟨hq.phase, hq.cause, hrec, rv, qv, fun k => absurd h k⟩
  · have ho := others_quarantined tv (fun p g h => hgu p g (by
      unfold partnerGroup at h ⊢
      rwa [partner_of hq.partners] at h)) l (nodup_partnerLanes v p) fun k hk => partnerLanes_lt hn (hlanes ▸ hk)
    rw [ho.own]
    refine ⟨hq.phase, hq.cause, hrec, ?_, ?_, fun _ k hk hp => ?_⟩
    · obtain ⟨x, h1, h2, h3⟩ := rv
      exact ⟨x, ho.keeps x h1 (.inl (by rw [h2]; decide)), h2, h3⟩
    · obtain ⟨x, h1, h2, h3, h4⟩ := qv
      exact ⟨x, ho.keeps x h1 (.inr h3), h2, h3, h4⟩
    · by_cases e : k = l
      · subst e
        rw [ho.own]
        exact ⟨hq.phase, hq.cause⟩
      · refine ho.taken k (hlanes ▸ hk) e ?_
        rw [hq.others k e, lane_of hlu]
        exact hp

/-! ### Records as they come (R78) -/

/-- A record received: the run of equal good ones. -/
def Lane.received (n : Nat) (r : BitVec 128) (x : Lane) : Lane := { x with run := n, lastRecord := some r }

/-- A record whose CRC is bad. -/
def Lane.runBroken (x : Lane) : Lane := { x with run := 0, lastRecord := none }

/-- The record judged good, as the lane keeps it. -/
def Lane.judged (r : BitVec 128) (course : Nat) (unmet : Bool) (x : Lane) : Lane := { x with record := some (r, course), peUnmet := unmet }

/-- R247: what the note of a loss leaves of the rest. -/
theorem noteLoss_lnt (s : State) : ∃ x, noteLoss s = { s with lnt := x } := by
  unfold noteLoss lossSample
  split
  · exact ⟨_, rfl⟩
  · exact ⟨s.lnt, rfl⟩

theorem exchangeBlockRx_bad {s : State} (hs : TablesRise s) {l : Fin 256} {r : BitVec 128} {crc : BitVec 32} (hx : (lane s l).phase = .exchange)
    (hc : crc ≠ crc32c (beBytes 16 r.toNat)) :
    exchangeBlockRx l r crc s = count .bedLaneErr l 31 16 1 (modLane l Lane.runBroken s) ∧
      lane (exchangeBlockRx l r crc s) l = (lane s l).runBroken ∧
      cell (exchangeBlockRx l r crc s) .bedLaneErr l = incSat (cell s .bedLaneErr l) 31 16 1 ∧
      RegsKept [(.bedLaneErr, l, 0)] s (exchangeBlockRx l r crc s) := by
  have he : exchangeBlockRx l r crc s = count .bedLaneErr l 31 16 1 (modLane l Lane.runBroken s) := by
    unfold exchangeBlockRx
    rw [if_pos (by simp [hx]), if_pos hc.symm]
    rfl
  rw [he]
  exact ⟨rfl, lane_modLane hs.lanes l _, cell_setCell hs.regs .., fun q i j => regsKept_setCell (s := modLane l Lane.runBroken s) hs.regs _ _ _ _ q i j⟩

theorem exchangeBlockRx_run {s : State} {l : Fin 256} {r : BitVec 128} (hx : (lane s l).phase = .exchange)
    (h : ¬ ((lane s l).lastRecord = some r ∧ (lane s l).run = 2)) :
    exchangeBlockRx l r (crc32c (beBytes 16 r.toNat)) s = modLane l (.received (if (lane s l).lastRecord = some r then (lane s l).run + 1 else 1) r) s := by
  unfold exchangeBlockRx
  rw [if_pos (by simp [hx]), if_neg (by simp)]
  refine if_pos ?_
  split
  · next hl => exact fun e => h ⟨hl, Nat.succ.inj e⟩
  · decide

theorem exchangeBlockRx_third {s : State} {l : Fin 256} {r : BitVec 128} (hx : (lane s l).phase = .exchange)
    (h : (lane s l).lastRecord = some r) (hr : (lane s l).run = 2) :
    exchangeBlockRx l r (crc32c (beBytes 16 r.toNat)) s =
      if recordGood r then validRecord l r (modLane l (.received 3 r) s)
      else if (lane (modLane l (.received 3 r) s) l).mismatchRaised then modLane l (.received 3 r) s
      else raise Src.bedExchMismatch l [w32 l, w32 (recFld r 127 96), w32 (recFld r 95 64)]
        (event .bedLaneEvt l 19 (modLane l (fun x => { x with mismatchRaised := true }) (modLane l (.received 3 r) s))) := by
  unfold exchangeBlockRx
  rw [if_pos (by simp [hx]), if_neg (by simp), if_pos h, hr]
  rfl

/-- A change of a lane that keeps its partner keeps the names in range. -/
theorem NamesInRange.modLane {s : State} (h : NamesInRange s) (hs : TablesRise s) (l : Nat) (f : Lane → Lane) (hf : ∀ x, (f x).partner = x.partner) :
    NamesInRange (modLane l f s) where
  bound := h.bound
  pending := h.pending
  lanes k p hk := h.lanes k p (by
    by_cases e : k = l
    · subst e
      rwa [lane_modLane hs.lanes, hf] at hk
    · rwa [lane_modLane_other hs.lanes e] at hk)
  slots := h.slots
  migrations := h.migrations
  ids := h.ids
  gauge := h.gauge

/-- R75, R77, R79: what a record judged good does. -/
theorem validRecord_judged {s : State} (hs : TablesRise s) (hn : NamesInRange s) (l : Fin 256) (r : BitVec 128) :
    (lane (validRecord l r s) l).record = some (r, nowCourse s) ∧
      ((lane s l).partner = none → (lane (validRecord l r s) l).phase = (lane s l).phase ∧ (lane (validRecord l r s) l).waitBind = true) ∧
      ∀ (p : Nat) (b : Binding), (lane s l).partner = some p → (partner s p).binding = some b →
        (recordMatches b (laneIndex s l) r = true → (lane (validRecord l r s) l).phase = .active ∧ Evented .bedLaneEvt l 16 s (validRecord l r s) ∧
          cell (validRecord l r s) .bedLaneCnt l = incWrap (cell s .bedLaneCnt l) 15 0 ∧
          laneIndex s l ∈ (downlink (validRecord l r s) p).actives ∧ (downlink (validRecord l r s) p).eqEnd = bit (cell s .bedDlCfg p) 16) ∧
        (recordMatches b (laneIndex s l) r = false → (lane (validRecord l r s) l).phase = .quarantine ∧ (lane (validRecord l r s) l).lostCause = 7 ∧
          Reported Src.bedExchMismatch l [w32 l, w32 (recFld r 127 96), w32 (recFld r 95 64)] s (validRecord l r s) ∧
          Reported Src.bedQuarantine l [w32 l, capPartner s l, w32 7] s (validRecord l r s) ∧
          (recPartnerId r ≠ recPartnerId b.record → ∀ k ∈ partnerLanes s p, (lane s k).phase = .active ∨ (lane s k).phase = .exchange →
            (lane (validRecord l r s) k).phase = .quarantine ∧ (lane (validRecord l r s) k).lostCause = 7)) := by
  let u := modLane l (.judged r (nowCourse s) (decide (fld (cell s .bedLaneCfg l) 15 12 ≠ 0) && recFld r 16 16 == 0)) s
  have tu : TablesRise u := (modLane_does l _ s).tables hs
  obtain ⟨u1, u2⟩ : LaneTo l ((lane s l).judged r (nowCourse s) (decide (fld (cell s .bedLaneCfg l) 15 12 ≠ 0) && recFld r 16 16 == 0)) s u :=
    laneTo_modLane hs.lanes l _
  have hp : (lane u l).partner = (lane s l).partner := by rw [u1]; rfl
  have hi : laneIndex u l = laneIndex s l := laneIndex_of hp rfl
  have hv : validRecord l r s = match (lane u l).partner with
    | none => modLane l (fun x => { x with waitBind := true }) u
    | some p =>
      match (partner u p).binding with
      | none => u
      | some b => if recordMatches b (laneIndex u l) r then enterActive l (exchangeSettles p r u) else bindMismatch l p b r u := rfl
  rw [hv, hp, hi]
  cases hq : (lane s l).partner with
  | none =>
    obtain ⟨w1, -⟩ := laneTo_modLane tu.lanes l (fun x : Lane => { x with waitBind := true })
    refine ⟨?_, fun _ => ⟨?_, ?_⟩, nofun⟩ <;> dsimp only <;> rw [w1, u1] <;> rfl
  | some p =>
    dsimp only
    cases hb : (partner u p).binding with
    | none => exact ⟨by rw [u1]; rfl, nofun, fun q b hq' hb' => nomatch (by cases hq'; exact hb.symm.trans hb' : none = some b)⟩
    | some b =>
      dsimp only
      have hpb : p < 64 := (hn.bound p b hb).1
      split
      · next hm =>
        let x := exchangeSettles p r u
        have tx : TablesRise x := (exchangeSettles_does ..).tables tu
        obtain ⟨x1, x2⟩ := exchangeSettles_settles tu hpb r
        have xl : x.lanes = u.lanes := (exchangeSettles_does p r u).only.same .lanes (by decide)
        have xp : x.partners = u.partners := (exchangeSettles_does p r u).only.same .partners (by decide)
        obtain ⟨⟨y1, -⟩, y2, y3, y4⟩ := enterActive_enters tx l
        refine ⟨by rw [y1, lane_of xl, u1]; rfl, nofun, fun q b' hq' hb' => ?_⟩
        cases hq'
        cases hb.symm.trans hb'
        refine ⟨fun _ => ⟨by rw [y1]; rfl, ?_, ?_, ?_⟩, fun h => nomatch hm.symm.trans h⟩
        · unfold Evented
          rw [← show cell x .bedLaneEvt l = cell s .bedLaneEvt l from (x2 l).1]
          exact y2
        · exact y3.trans (congrArg (incWrap · 15 0) (x2 l).2)
        · have hxi : laneIndex x l = laneIndex s l := (laneIndex_of (by rw [lane_of xl]) xp).trans hi
          obtain ⟨z1, z2⟩ := y4 p (by rw [lane_of xl, hp, hq])
          exact ⟨hxi ▸ z1, z2.trans x1⟩
      · next hm =>
        obtain ⟨m1, m2, m3, m4, m5, m6⟩ := bindMismatch_quarantines tu (hn.modLane hs l _ fun _ => rfl) l (p := p) b r
        refine ⟨by rw [m3, u1]; rfl, nofun, fun q b' hq' hb' => ?_⟩
        cases hq'
        cases hb.symm.trans hb'
        refine ⟨fun h => absurd h hm, fun _ => ⟨m1, m2, m4, capPartner_of hp ▸ m5, fun hd k hk hph => m6 hd k hk ?_⟩⟩
        by_cases e : k = l
        · subst e
          rw [u1]
          exact hph
        · rw [u2 k e]
          exact hph

/-- R78: the third equal good record, judged. -/
theorem validRecord_third {s : State} (hs : TablesRise s) (hn : NamesInRange s) (l : Fin 256) (r : BitVec 128) (hx : (lane s l).phase = .exchange) :
    (lane (validRecord l r (modLane l (.received 3 r) s)) l).record = some (r, nowCourse s) ∧
      ((lane s l).partner = none → (lane (validRecord l r (modLane l (.received 3 r) s)) l).phase = .exchange ∧
        (lane (validRecord l r (modLane l (.received 3 r) s)) l).waitBind = true) ∧
      ∀ (p : Nat) (b : Binding), (lane s l).partner = some p → (partner s p).binding = some b →
        (recordMatches b (laneIndex s l) r = true → (lane (validRecord l r (modLane l (.received 3 r) s)) l).phase = .active ∧
          Evented .bedLaneEvt l 16 s (validRecord l r (modLane l (.received 3 r) s)) ∧
          cell (validRecord l r (modLane l (.received 3 r) s)) .bedLaneCnt l = incWrap (cell s .bedLaneCnt l) 15 0 ∧
          laneIndex s l ∈ (downlink (validRecord l r (modLane l (.received 3 r) s)) p).actives ∧
          (downlink (validRecord l r (modLane l (.received 3 r) s)) p).eqEnd = bit (cell s .bedDlCfg p) 16) ∧
        (recordMatches b (laneIndex s l) r = false → (lane (validRecord l r (modLane l (.received 3 r) s)) l).phase = .quarantine ∧
          (lane (validRecord l r (modLane l (.received 3 r) s)) l).lostCause = 7 ∧
          Reported Src.bedExchMismatch l [w32 l, w32 (recFld r 127 96), w32 (recFld r 95 64)] s (validRecord l r (modLane l (.received 3 r) s)) ∧
          Reported Src.bedQuarantine l [w32 l, capPartner s l, w32 7] s (validRecord l r (modLane l (.received 3 r) s)) ∧
          (recPartnerId r ≠ recPartnerId b.record → ∀ k ∈ partnerLanes s p, (lane s k).phase = .active ∨ (lane s k).phase = .exchange →
            (lane (validRecord l r (modLane l (.received 3 r) s)) k).phase = .quarantine ∧
              (lane (validRecord l r (modLane l (.received 3 r) s)) k).lostCause = 7)) := by
  have hl : ∀ k : Nat, (lane (modLane l (.received 3 r) s) k).partner = (lane s k).partner ∧ (lane (modLane l (.received 3 r) s) k).phase = (lane s k).phase := fun k => by
    by_cases e : k = l
    · subst e
      rw [lane_modLane hs.lanes]
      exact ⟨rfl, rfl⟩
    · rw [lane_modLane_other hs.lanes e]
      exact ⟨rfl, rfl⟩
  have h := validRecord_judged ((modLane_does l (.received 3 r) s).tables hs) (hn.modLane hs l (.received 3 r) fun _ => rfl) l r
  rw [(hl l).1, (hl l).2, hx, laneIndex_of (hl l).1 rfl, capPartner_of (hl l).1] at h
  obtain ⟨j1, j2, j3⟩ := h
  refine ⟨j1, j2, fun p b hp hb => ⟨(j3 p b hp hb).1, fun hm => ?_⟩⟩
  obtain ⟨k1, k2, k3, k4, k5⟩ := (j3 p b hp hb).2 hm
  exact ⟨k1, k2, k3, k4, fun hd k hk hph => k5 hd k hk (by rw [(hl k).2]; exact hph)⟩

theorem exchangeBlockRx_third_bad {s : State} (hs : TablesRise s) {l : Fin 256} {r : BitVec 128} (hx : (lane s l).phase = .exchange)
    (h : (lane s l).lastRecord = some r) (hr : (lane s l).run = 2) (hg : recordGood r = false) :
    Does (reportZones ++ [.lanes]) s (exchangeBlockRx l r (crc32c (beBytes 16 r.toNat)) s) ∧
      (lane (exchangeBlockRx l r (crc32c (beBytes 16 r.toNat)) s) l).phase = .exchange ∧
      (lane (exchangeBlockRx l r (crc32c (beBytes 16 r.toNat)) s) l).mismatchRaised = true ∧
      ((lane s l).mismatchRaised = true → (exchangeBlockRx l r (crc32c (beBytes 16 r.toNat)) s).flt = s.flt) ∧
      ((lane s l).mismatchRaised = false →
        Reported Src.bedExchMismatch l [w32 l, w32 (recFld r 127 96), w32 (recFld r 95 64)] s (exchangeBlockRx l r (crc32c (beBytes 16 r.toNat)) s) ∧
          Evented .bedLaneEvt l 19 s (exchangeBlockRx l r (crc32c (beBytes 16 r.toNat)) s) ∧
          RegsKept [(.bedLaneEvt, l, 0)] s (exchangeBlockRx l r (crc32c (beBytes 16 r.toNat)) s)) := by
  let u := modLane l (.received 3 r) s
  have u1 : lane u l = (lane s l).received 3 r := lane_modLane hs.lanes l _
  have du : Does [.lanes] s u := modLane_does ..
  rw [exchangeBlockRx_third hx h hr, if_neg (by simp [hg])]
  have hm : (lane u l).mismatchRaised = (lane s l).mismatchRaised := by rw [u1]; rfl
  split
  · next hq => exact ⟨.step du rfl (.refl _ _), by rw [u1]; exact hx, hq, fun _ => rfl, fun hf => nomatch (hq.symm.trans hm).trans hf⟩
  · next hq =>
    let v := modLane l (fun x => { x with mismatchRaised := true }) u
    have dv : Does [.lanes] u v := modLane_does ..
    have v1 : lane v l = { lane u l with mismatchRaised := true } := lane_modLane (rises_modLane hs.lanes ..) l _
    have hl : (event .bedLaneEvt l 19 v).lanes = v.lanes := event_lanes ..
    refine ⟨.step (raise_does ..) rfl (.step (event_does ..) rfl (.step dv rfl (.step du rfl (.refl _ _)))), ?_, ?_, fun ht => absurd (hm.trans ht) hq, fun _ => ⟨?_, ?_, ?_⟩⟩
    · rw [lane_of (t := raise _ _ _ (event .bedLaneEvt l 19 v)) hl, v1, u1]; exact hx
    · rw [lane_of (t := raise _ _ _ (event .bedLaneEvt l 19 v)) hl, v1]
    · exact reported_raise (event_btr ..)
    · exact Evented.keep (u := event .bedLaneEvt l 19 v) (evented_event (s := v) hs.regs ..) rfl
    · exact fun q i j => regsKept_ev (s := v) hs.regs .bedLaneEvt l 19 q i j

/-! ### Downlink frames (R68, R71 to R73, R87, R104 to R108) -/

/-- R106, R107: the order of the fast commands, and what stays of a downlink whose frame takes one. -/
theorem takeFast_order (s : State) (d m : Nat) :
    ((takeFast s d m).2.marker = (downlink s d).marker ∧ (takeFast s d m).2.squelched = (downlink s d).squelched) ∧
      (syncDue s d m = true → takeFast s d m = (some (fastBytes 1 (syncArg s d m)), downlink s d)) ∧
      (syncDue s d m = false →
        (∀ i rest, (downlink s d).restarts = i :: rest → takeFast s d m = (some (fastBytes 2 i), { downlink s d with restarts := rest })) ∧
        (∀ i rest, (downlink s d).restarts = [] → (downlink s d).actives = i :: rest →
          takeFast s d m = (some (fastBytes 3 i), { downlink s d with actives := rest })) ∧
        (∀ c a, (downlink s d).restarts = [] → (downlink s d).actives = [] → (downlink s d).host = some (c, a) →
          takeFast s d m = (some (fastBytes c a.toNat), { downlink s d with host := none })) ∧
        ((downlink s d).restarts = [] → (downlink s d).actives = [] → (downlink s d).host = none → (takeFast s d m).1 = none)) := by
  unfold takeFast
  cases syncDue s d m with
  | true => exact ⟨⟨rfl, rfl⟩, fun _ => rfl, nofun⟩
  | false =>
    refine ⟨?_, nofun, fun _ => ⟨fun i rest h => ?_, fun i rest h1 h2 => ?_, fun c a h1 h2 h3 => ?_, fun h1 h2 h3 => ?_⟩⟩
    · rw [if_neg (by decide)]
      constructor <;> split <;> rfl
    · simp [h]
    · simp [h1, h2]
    · simp [h1, h2, h3]
    · simp [h1, h2, h3]

/-- R104, R108: the block field. -/
theorem takeBlock_takes {s : State} (hs : TablesRise s) (d m : Nat) :
    Does [.partners] s (takeBlock d m s).2 ∧
      (blockBusy s d = true → (takeBlock d m s).1 = .exchange (ownExchange s d) ∧ (takeBlock d m s).2 = s) ∧
      (∀ x : CfgTx, blockBusy s d = false → (partner s d).cfg = some x → x.sent = none →
        (takeBlock d m s).1 = .config (cfgBlock x) ∧ (partner (takeBlock d m s).2 d).cfg = some { x with sent := some m }) := by
  unfold takeBlock
  refine ⟨?_, fun h => ?_, fun x hb hx hn => ?_⟩
  · split
    · exact .refl _ _
    · split
      · split
        · exact modPartner_does ..
        · exact .refl _ _
      · exact .refl _ _
  · rw [if_pos h]
    exact ⟨rfl, rfl⟩
  · rw [if_neg (by simp [hb]), hx]
    dsimp only
    rw [if_pos (by simp [hn])]
    exact ⟨rfl, by dsimp only; rw [partner_modPartner hs.partners]⟩

/-- R57: the marker of a frame. -/
theorem takeMarker_takes (k : Downlink) : (takeMarker k).1 = k.marker ∧ (takeMarker k).2.restarts = k.restarts ∧ (takeMarker k).2.actives = k.actives ∧
    (takeMarker k).2.host = k.host ∧ (takeMarker k).2.squelched = k.squelched := by
  unfold takeMarker
  split
  · next h => exact ⟨h.symm, rfl, rfl, rfl, rfl⟩
  · next h => exact ⟨h.symm, rfl, rfl, rfl, rfl⟩

/-- R106: a partner's clock whose count SYNC has loaded. -/
def PartnerClock.loaded (m whole b : Nat) (k : PartnerClock) : PartnerClock :=
  if k.wholes.head?.map (·.2) = some whole then k else { k with wholes := (m + whole, whole) :: keepWholes (b - 256) k.wholes }

/-- R106: what SYNC loads of a partner's clock. -/
theorem syncLoaded_loads {s : State} (hs : Rises s.quo.clocks) (p m whole : Nat) :
    (partnerClock (syncLoaded p m whole s) p).wholes.head?.map (·.2) = some whole ∧
      (partnerClock (syncLoaded p m whole s) p).segs = (partnerClock s p).segs ∧
      (partnerClock (syncLoaded p m whole s) p).delays = (partnerClock s p).delays := by
  have h : partnerClock (syncLoaded p m whole s) p = (partnerClock s p).loaded m whole (nowGbt s) :=
    smGet_upd_rises hs .reset p (PartnerClock.loaded m whole (nowGbt s))
  rw [h]
  unfold PartnerClock.loaded
  split
  · next hq => exact ⟨hq, rfl, rfl⟩
  · exact ⟨rfl, rfl, rfl⟩

/-- What one downlink frame leaves (R68). -/
structure FrameSent (d : Nat) (s t : State) : Prop where
  does : Does [.regs, .port0, .port1, .quo, .downlinks, .partners] s t
  unloaded : syncDue s d (nextMark s d) = false → t.quo = s.quo
  loaded : syncDue s d (nextMark s d) = true → Rises s.quo.clocks → (partnerClock t d).wholes.head?.map (·.2) = some (wholeBt s d) ∧
    (partnerClock t d).segs = (partnerClock s d).segs ∧ (partnerClock t d).delays = (partnerClock s d).delays
  others : ∀ k : Nat, k ≠ d → downlink t k = downlink s k
  own : downlink t d = { (takeMarker (takeFast s d (nextMark s d)).2).2 with
    fresh := false, squelched := false, applied := dlApplied s d,
    last := some ⟨nextMark s d, (takeFast s d (nextMark s d)).1, (takeBlock d (nextMark s d) s).1, (downlink s d).marker⟩ }
  regs : RegsKept [(.bedDlEvt, d, 0)] s t
  evented : (downlink s d).squelched = true → Evented .bedDlEvt d 16 s t
  partners : t.partners = (takeBlock d (nextMark s d) s).2.partners

theorem downlinkFrame_sent {s : State} (hs : TablesRise s) {d : Nat} (h : dlSending s d = true) : FrameSent d s (downlinkFrame d s) := by
  let m := nextMark s d
  let k := takeMarker (takeFast s d m).2
  let s1 := (takeBlock d m s).2
  let s2 := modDl d (fun _ => { k.2 with
    fresh := false, squelched := false, applied := dlApplied s d,
    last := some ⟨m, (takeFast s d m).1, (takeBlock d m s).1, k.1⟩ }) s1
  let s3 := if k.2.squelched then event .bedDlEvt d 16 s2 else s2
  let s4 := if syncDue s d m then syncLoaded d m (wholeBt s d) s3 else s3
  have he : downlinkFrame d s = s4 := if_pos h
  obtain ⟨⟨f1, f2⟩, -, -⟩ := takeFast_order s d m
  obtain ⟨m1, -, -, -, m2⟩ := takeMarker_takes (takeFast s d m).2
  obtain ⟨d1, -, -⟩ := takeBlock_takes hs d m
  have hk : k.1 = (downlink s d).marker := m1.trans f1
  have t1 : TablesRise s1 := d1.tables hs
  have l1 : s1.downlinks = s.downlinks := d1.only.same .downlinks (by decide)
  have r1 : s1.regs = s.regs := d1.only.same .regs (by decide)
  have q1 : s1.quo = s.quo := d1.only.same .quo (by decide)
  have c3 : s3.downlinks = s2.downlinks ∧ s3.quo = s.quo ∧ s3.partners = s1.partners := by
    by_cases hq : k.2.squelched = true
    · rw [show s3 = event .bedDlEvt d 16 s2 from if_pos hq]
      exact ⟨event_downlinks .., (event_quo ..).trans q1, event_partners ..⟩
    · rw [show s3 = s2 from if_neg hq]
      exact ⟨rfl, q1, rfl⟩
  have r3 : RegsKept [(.bedDlEvt, d, 0)] s s3 ∧ (k.2.squelched = true → Evented .bedDlEvt d 16 s s3) := by
    by_cases hq : k.2.squelched = true
    · rw [show s3 = event .bedDlEvt d 16 s2 from if_pos hq]
      refine ⟨fun q i j hn => (regsKept_ev (s := s2) t1.regs .bedDlEvt d 16 q i j hn).trans (cell_regs r1 ..), fun _ => ?_⟩
      exact evented_of (u := s2) (evented_event (s := s2) t1.regs ..) (cell_regs r1 ..)
    · rw [show s3 = s2 from if_neg hq]
      exact ⟨fun q i j _ => cell_regs r1 .., fun x => absurd x hq⟩
  have c4 : s4.downlinks = s3.downlinks ∧ s4.regs = s3.regs ∧ s4.partners = s3.partners := by
    by_cases hq : syncDue s d m = true
    · rw [show s4 = syncLoaded d m (wholeBt s d) s3 from if_pos hq]
      exact ⟨rfl, rfl, rfl⟩
    · rw [show s4 = s3 from if_neg hq]
      exact ⟨rfl, rfl, rfl⟩
  have hd4 : s4.downlinks = s2.downlinks := c4.1.trans c3.1
  refine ⟨downlinkFrame_does d s, ?_, ?_, fun q hq => ?_, ?_, ?_, ?_, ?_⟩ <;> rw [he]
  · intro hq
    rw [show s4 = s3 from if_neg (by simp [m, hq])]
    exact c3.2.1
  · intro hq hr
    rw [show s4 = syncLoaded d m (wholeBt s d) s3 from if_pos hq]
    obtain ⟨z1, z2, z3⟩ := syncLoaded_loads (s := s3) (c3.2.1 ▸ hr) d m (wholeBt s d)
    have hc : partnerClock s3 d = partnerClock s d := by unfold partnerClock; rw [c3.2.1]
    exact ⟨z1, z2.trans (by rw [hc]), z3.trans (by rw [hc])⟩
  · exact (downlink_of hd4 q).trans ((downlink_modDl_other t1.downlinks hq _).trans (downlink_of l1 q))
  · rw [downlink_of hd4, ← hk]
    exact downlink_modDl t1.downlinks d _
  · exact fun q i j hn => (cell_regs c4.2.1 ..).trans (r3.1 q i j hn)
  · exact fun hq => Evented.keep (u := s3) (r3.2 (m2.trans (f2.trans hq))) c4.2.1
  · exact c4.2.2.trans c3.2.2

/-- R104 to R108: what stands in a frame, and what it takes. -/
theorem FrameSent.field {d : Nat} {s t : State} (h : FrameSent d s t) (hs : TablesRise s) :
    ∃ (fast : Option (List Byte)) (blk : DlBlock) (mk : Option Nat), (downlink t d).last = some ⟨nextMark s d, fast, blk, mk⟩ ∧ mk = (downlink s d).marker ∧
      ((downlink s d).fresh = true ∨ nextMark s d % 320 = 0 → fast = some (fastBytes 1 (syncArg s d (nextMark s d))) ∧
        (downlink t d).restarts = (downlink s d).restarts ∧ (downlink t d).host = (downlink s d).host) ∧
      ((downlink s d).fresh = false → nextMark s d % 320 ≠ 0 →
        (∀ (i : Nat) (rest : List Nat), (downlink s d).restarts = i :: rest → fast = some (fastBytes 2 i) ∧ (downlink t d).restarts = rest) ∧
        (∀ (i : Nat) (rest : List Nat), (downlink s d).restarts = [] → (downlink s d).actives = i :: rest → fast = some (fastBytes 3 i) ∧ (downlink t d).actives = rest) ∧
        (∀ (c : Nat) (a : Word), (downlink s d).restarts = [] → (downlink s d).actives = [] → (downlink s d).host = some (c, a) →
          fast = some (fastBytes c a.toNat) ∧ (downlink t d).host = none) ∧
        ((downlink s d).restarts = [] → (downlink s d).actives = [] → (downlink s d).host = none → fast = none)) ∧
      (blockBusy s d = true → blk = .exchange (ownExchange s d) ∧ t.partners = s.partners) ∧
      (∀ x : CfgTx, blockBusy s d = false → (partner s d).cfg = some x → x.sent = none →
        blk = .config (cfgBlock x) ∧ (partner t d).cfg = some { x with sent := some (nextMark s d) }) := by
  obtain ⟨-, o2, o3⟩ := takeFast_order s d (nextMark s d)
  obtain ⟨-, b2, b3⟩ := takeBlock_takes hs d (nextMark s d)
  obtain ⟨-, m2, m3, m4, -⟩ := takeMarker_takes (takeFast s d (nextMark s d)).2
  have r1 : (downlink t d).restarts = (takeFast s d (nextMark s d)).2.restarts := by rw [h.own]; exact m2
  have r2 : (downlink t d).actives = (takeFast s d (nextMark s d)).2.actives := by rw [h.own]; exact m3
  have r3 : (downlink t d).host = (takeFast s d (nextMark s d)).2.host := by rw [h.own]; exact m4
  refine ⟨_, _, _, by rw [h.own], rfl, fun hq => ?_, fun h1 h2 => ?_, fun hb => ?_, fun x hb hx hn => ?_⟩
  · rw [r1, r3, o2 (by simpa [syncDue] using hq)]
    exact ⟨rfl, rfl, rfl⟩
  · obtain ⟨p1, p2, p3, p4⟩ := o3 (by simp [syncDue, h1, h2])
    refine ⟨fun i rest e => ?_, fun i rest e1 e2 => ?_, fun c a e1 e2 e3 => ?_, p4⟩
    · rw [r1, p1 i rest e]
      exact ⟨rfl, rfl⟩
    · rw [r2, p2 i rest e1 e2]
      exact ⟨rfl, rfl⟩
    · rw [r3, p3 c a e1 e2 e3]
      exact ⟨rfl, rfl⟩
  · exact ⟨(b2 hb).1, h.partners.trans (by rw [(b2 hb).2])⟩
  · exact ⟨(b3 x hb hx hn).1, by rw [partner_of h.partners]; exact (b3 x hb hx hn).2⟩

/-! ### Restart requests, the host's command, the PLL -/

/-- A lane on its way up. -/
abbrev Lane.rising (x : Lane) : Prop := x.phase = .train ∨ x.phase = .lock ∨ x.phase = .exchange

theorem restartDue_keeps {s : State} (hd : Rises s.downlinks) (l d : Nat) {i : Nat} (h : i ∈ (downlink s d).restarts) :
    i ∈ (downlink (restartDue l s) d).restarts := by
  unfold restartDue
  split
  · next p _ =>
    by_cases e : d = p
    · subst e
      rw [downlink_modDl hd]
      refine mem_sortNat.2 ?_
      by_cases e : i = laneIndex s l
      · exact e ▸ .head _
      · exact .tail _ (List.mem_filter.2 ⟨h, by simpa using e⟩)
    · rwa [downlink_modDl_other hd e]
  · exact h

/-- R77: the restart request of one lane of a partner. -/
def restartIfRising (l : Nat) (t : State) : State :=
  match (lane t l).phase with
  | .train | .lock | .exchange => restartDue l t
  | _ => t

theorem restartIfRising_eq (l : Nat) (t : State) : restartIfRising l t = if (lane t l).rising then restartDue l t else t := by
  unfold restartIfRising Lane.rising
  cases (lane t l).phase <;> rfl

theorem restartRequests_due {s : State} (hs : TablesRise s) (d : Nat) {ls : List Nat} :
    (∀ i ∈ (downlink s d).restarts, i ∈ (downlink (forL ls restartIfRising s) d).restarts) ∧
      ∀ l ∈ ls, (lane s l).partner = some d → (lane s l).rising → laneIndex s l ∈ (downlink (forL ls restartIfRising s) d).restarts := by
  induction ls generalizing s with
  | nil => exact ⟨fun _ h => h, nofun⟩
  | cons k ls ih =>
    rw [forL_cons, restartIfRising_eq]
    by_cases hr : (lane s k).rising
    · rw [if_pos hr]
      have dd : Does [.downlinks] s (restartDue k s) := restartDue_does ..
      obtain ⟨i1, i2⟩ := ih (dd.tables hs)
      have hl : (restartDue k s).lanes = s.lanes := dd.only.same .lanes (by decide)
      refine ⟨fun i hi => i1 i (restartDue_keeps hs.downlinks k d hi), fun l hm hp hx => ?_⟩
      rcases List.mem_cons.1 hm with rfl | hm
      · exact i1 _ (restartDue_due hs.downlinks hp)
      · have h := i2 l hm (by rw [lane_of hl]; exact hp) (by rw [lane_of hl]; exact hx)
        rwa [laneIndex_of (by rw [lane_of hl]) (dd.only.same .partners (by decide))] at h
    · rw [if_neg hr]
      obtain ⟨i1, i2⟩ := ih hs
      refine ⟨i1, fun l hm hp hx => ?_⟩
      rcases List.mem_cons.1 hm with rfl | hm
      · exact absurd hx hr
      · exact i2 l hm hp hx

theorem dlPllUnlock_unlocks {s : State} (hs : TablesRise s) (d : Fin 64) :
    (domOn s (32 + d.val / 8) = true → (downlink s d).pll = true →
      downlink (dlPllUnlock d s) d = { downlink s d with pll := false, fresh := true, squelched := true } ∧ dlSending (dlPllUnlock d s) d = false ∧
      Reported Src.dlPllUnlock d [w32 d] s (dlPllUnlock d s) ∧ Evented .bedDlEvt d 18 s (dlPllUnlock d s) ∧
      RegsKept [(.bedDlEvt, d, 0), (.bedDlStat, d, 0)] s (dlPllUnlock d s)) ∧
    (domOn s (32 + d.val / 8) = false ∨ (downlink s d).pll = false → dlPllUnlock d s = s) := by
  refine ⟨fun h1 h2 => ?_, fun h => if_neg (by rcases h with h | h <;> simp [dlDomain, h])⟩
  obtain ⟨hev, hst, -⟩ := at_bedDl d
  let u := modDl d (fun k => { k with pll := false, fresh := true, squelched := true }) s
  let v := count .bedDlStat d 15 8 1 u
  have he : dlPllUnlock d s = raise Src.dlPllUnlock d [w32 d] (event .bedDlEvt d 18 v) := if_pos (by simp [dlDomain, h1, h2])
  have hr : Rises v.regs := rises_setCell (s := u) hs.regs ..
  have hd : downlink (dlPllUnlock d s) d = { downlink s d with pll := false, fresh := true, squelched := true } := by
    rw [he, downlink_of (t := raise _ _ _ (event .bedDlEvt d 18 v)) (s := u) (event_downlinks ..)]
    exact downlink_modDl hs.downlinks d _
  refine ⟨hd, ?_, ?_, ?_, fun q i j hn => ?_⟩
  · unfold dlSending
    rw [hd]
    exact Bool.and_false _
  · rw [he]
    exact reported_raise (event_btr ..)
  · rw [he]
    exact Evented.keep (u := event .bedDlEvt d 18 v) (evented_of (evented_event hr ..)
      (cell_setCell_other (s := u) hs.regs _ (regOff_ne hev hst nofun))) rfl
  · rw [he]
    exact (regsKept_ev hr .bedDlEvt d 18 q i j (fun x hx => hn x (List.mem_singleton.1 hx ▸ .head _))).trans
      (cell_setCell_other (s := u) hs.regs _ (hn _ (.tail _ (.head _))))

/-- R107: the host's command after a write of BED_DL_FC. -/
theorem dlFcWrite_host {s : State} (hd : Rises s.downlinks) (d : Nat) (w : Word) {a : Word} (ha : cell s .bedDlFcArg d = a) :
    (downlink (dlFcWrite d w s) d).host = if bit w 31 = true ∧ (downlink s d).host = none ∧ 0x10 ≤ fld w 7 0 ∧ fld w 7 0 ≤ 0x1F then some (fld w 7 0, a)
      else (downlink s d).host := by
  have hc : (bit w 31 && (downlink s d).host.isNone && decide (0x10 ≤ fld w 7 0) && decide (fld w 7 0 ≤ 0x1F)) = true ↔
      bit w 31 = true ∧ (downlink s d).host = none ∧ 0x10 ≤ fld w 7 0 ∧ fld w 7 0 ≤ 0x1F := by simp [and_assoc]
  unfold dlFcWrite
  simp only [hc]
  split
  · rw [downlink_modDl hd, ha]
  · rfl

/-- Settles O35: records by the run of three, frames by what each takes. -/
theorem exchangeAndDownlinks : Obligations.ExchangeAndDownlinks := by
  unfold Obligations.ExchangeAndDownlinks
  refine ⟨fun l r s hu hs hn => ?_, fun d s hu hs => ⟨⟨_, upNext_up hu, fun h => ?_, fun h => ?_⟩, ⟨_, upNext_up hu, ?_, ?_⟩, fun p w h => ?_,
    ⟨_, upNext_up hu, (dlPllUnlock_does ..).only, (dlPllUnlock_unlocks hs d).1, (dlPllUnlock_unlocks hs d).2⟩, ⟨_, upNext_up hu, (dlPllRelock_does ..).only, ?_⟩⟩⟩
  · obtain ⟨x, hx⟩ := noteLoss_lnt s
    have dl : Does [.lnt] s (noteLoss s) := noteLoss_does s
    have hs' := dl.tables hs
    have row : ∀ crc, exec (.exchangeBlockRx l r crc) s = .next (exchangeBlockRx l r crc (noteLoss s)) := fun _ => upNext_up hu
    rw [hx] at dl hs' row
    refine ⟨fun h crc => ⟨_, row crc, ?_⟩, fun h => ⟨fun crc hc => ⟨_, row crc, ?_⟩, fun hr => ⟨_, row _, ?_⟩, fun h1 h2 => ⟨_, row _, fun hg => ?_, fun hg => ?_⟩⟩⟩
    · rw [show exchangeBlockRx l r crc { s with lnt := x } = { s with lnt := x } from if_neg (fun e => h (eq_of_beq e))]
      exact dl.only
    · obtain ⟨h0, h1, h2, h3⟩ := exchangeBlockRx_bad hs' (l := l) (r := r) h hc
      refine ⟨?_, h1, h2, h3⟩
      rw [h0]
      exact (Does.step (L := [.regs, .lanes, .lnt]) (setCell_does ..) rfl (.step (modLane_does ..) rfl (.step dl rfl (.refl _ _)))).only
    · rw [exchangeBlockRx_run (s := { s with lnt := x }) h hr]
      exact ⟨(Does.step (L := [.lanes, .lnt]) (modLane_does ..) rfl (.step dl rfl (.refl _ _))).only, lane_modLane hs'.lanes l _⟩
    · rw [exchangeBlockRx_third (s := { s with lnt := x }) h h1 h2, if_pos hg]
      exact validRecord_third hs' ⟨hn.bound, hn.pending, hn.lanes, hn.slots, hn.migrations, hn.ids, hn.gauge⟩ l r h
    · obtain ⟨g1, g2⟩ := exchangeBlockRx_third_bad hs' (l := l) h h1 h2 hg
      exact ⟨(Does.step (L := reportZones ++ [.lanes, .lnt]) g1 rfl (.step dl rfl (.refl _ _))).only, g2⟩
  · exact if_neg (by simp [h])
  · have f := downlinkFrame_sent hs h
    exact ⟨f.does.only, f.unloaded, f.loaded, f.others, by rw [f.own], by rw [f.own], f.regs, f.evented, f.field hs⟩
  · exact (restartRequests_does ..).only
  · exact (restartRequests_due hs d).2
  · refine ⟨_, hostRow_may h (at_bedDlFc d), ?_⟩
    rw [writeReg_plain (by decide) (by decide) (by decide)]
    have hargs : cell (setCell .bedDlFc d 0 (mergeMask (storeMask .bedDlFc) (cell s .bedDlFc d) w) s) .bedDlFcArg d = cell s .bedDlFcArg d :=
      cell_setCell_other hs.regs _ (regOff_ne (at_bedDl d).2.2.2.1 (at_bedDl d).2.2.1 nofun)
    exact dlFcWrite_host (s := setCell .bedDlFc d 0 _ s) hs.downlinks d w hargs
  · change _ = (domOn s (dlDomain d) || _)
    unfold dlPllRelock
    split
    · next h => rw [h]; exact congrArg Downlink.pll (downlink_modDl hs.downlinks d _)
    · next h => rw [Bool.eq_false_iff.2 h]; rfl

end Sys2Proof.Machine
end

section
/-!
SUPPORT. Mailboxes and what a command leaves in its own (R365 to R374): the rules that every statement on Lodge commands uses.
-/
namespace Sys2Proof.Machine

/-! ### Mailboxes -/

theorem mailbox_modBox {s : State} (hs : Rises s.ldg.boxes) (m : Nat) (f : Mailbox → Mailbox) : mailbox (modBox m f s) m = f (mailbox s m) :=
  smGet_upd_rises hs ..

theorem mailbox_modBox_other {s : State} (hs : Rises s.ldg.boxes) {m k : Nat} (h : k ≠ m) (f : Mailbox → Mailbox) : mailbox (modBox m f s) k = mailbox s k :=
  smGet_upd_other hs _ _ _ _ _ h

theorem mailbox_of {s t : State} (h : t.ldg = s.ldg) (m : Nat) : mailbox t m = mailbox s m := by unfold mailbox; rw [h]

theorem at_ldg : regExists .ldgCnt 0 0 = true ∧ regExists .ldgEvt 0 0 = true ∧ regExists .ldgOvertime 0 0 = true := by decide +kernel

/-- The registers that the end of a command changes (R386). -/
abbrev ldgCells : List (Reg × Nat × Nat) := [(.ldgCnt, 0, 0), (.ldgEvt, 0, 0)]

/-! ### The end of a command (R371, R372, R374) -/

/-- What the end of a command of mailbox `m` leaves: its response in the mailbox, every other mailbox and every register of another block as it was. -/
structure LdgEnds (m : Nat) (x : LdgCmd) (since : Stamp) (status detail : Nat) (res : List Word) (s t : State) : Prop where
  box : mailbox t m = { mailbox s m with
    done := (mailbox s m).done ++ [(x.seq, response x status detail ((cyclesSince since (nowStamp s) + 1023) / 1024) res)] }
  others : ∀ k : Nat, k ≠ m → mailbox t k = mailbox s k
  regs : RegsKept ldgCells s t
  told : status ≠ 0 → Reported Src.ldgCmdError m [w32 m, w32 x.opcode, w32 status] s t
  keeps : ∀ r ∈ s.flt.flying, r ∈ t.flt.flying
  does : Does [.regs, .flt, .port0, .port1, .ldg] s t

theorem ldgFinish_ends {s : State} (hs : TablesRise s) (m : Nat) (x : LdgCmd) (since : Stamp) (status detail : Nat) (res : List Word) :
    LdgEnds m x since status detail res s (ldgFinish m x since status detail res s) := by
  let u := modBox m (fun b => { b with
    done := b.done ++ [(x.seq, response x status detail ((cyclesSince since (nowStamp s) + 1023) / 1024) res)] }) s
  let v := countWrap .ldgCnt 0 31 16 u
  let w := event .ldgEvt 0 18 (count .ldgCnt 0 15 0 1 v)
  have he : ldgFinish m x since status detail res s =
      if status = 0 then v else raise Src.ldgCmdError m [w32 m, w32 x.opcode, w32 status] w := rfl
  have hd := ldgFinish_does m x since status detail res s
  have hb : mailbox u m = { mailbox s m with
      done := (mailbox s m).done ++ [(x.seq, response x status detail ((cyclesSince since (nowStamp s) + 1023) / 1024) res)] } := mailbox_modBox hs.boxes ..
  have rv : RegsKept ldgCells s v := fun q i j hn => cell_setCell_other (s := u) hs.regs _ (hn _ (.head _))
  have hv : Rises v.regs := rises_setCell (s := u) hs.regs ..
  have hv' : Rises (count .ldgCnt 0 15 0 1 v).regs := rises_setCell hv ..
  have rw' : RegsKept ldgCells s w := fun q i j hn =>
    (regsKept_ev hv' .ldgEvt 0 18 q i j fun _ hx => hn _ (List.mem_singleton.1 hx ▸ .tail _ (.head _))).trans
      ((cell_setCell_other hv _ (hn _ (.head _))).trans (rv q i j hn))
  have lw : w.ldg = u.ldg := event_ldg ..
  have fw : w.flt = s.flt := event_flt ..
  by_cases h : status = 0
  · rw [he.trans (if_pos h)] at hd ⊢
    exact ⟨hb, fun k hk => mailbox_modBox_other hs.boxes hk _, rv, fun hn => absurd h hn, fun _ hr => hr, hd⟩
  · rw [he.trans (if_neg h)] at hd ⊢
    refine ⟨(mailbox_of (s := u) lw m).trans hb, fun k hk => (mailbox_of (s := u) lw k).trans (mailbox_modBox_other hs.boxes hk _), rw',
      fun _ => reported_raise (event_btr ..), fun r hr => raise_flying_mono _ _ _ _ _ _ _ r ?_, hd⟩
    rw [fw]
    exact hr

/-- R371: a command that starts and ends in one step. -/
theorem ldgAtOnce_ends {s : State} (hs : TablesRise s) (m : Nat) (x : LdgCmd) (status detail : Nat) (res : List Word) :
    LdgEnds m x (nowStamp s) status detail res (modBox m (fun b => { b with queue := b.queue.tail }) s) (ldgAtOnce m x status detail res s) :=
  ldgFinish_ends ((modBox_does m _ s).tables hs) ..

theorem ldgAtOnce_answered {s : State} (hs : TablesRise s) {m : Nat} (hr : (mailbox s m).run = none) (x : LdgCmd) (status detail : Nat) (res : List Word) :
    Answered m x status detail res s (ldgAtOnce m x status detail res s) := by
  obtain ⟨hb, -, -, ht, -, -⟩ := ldgAtOnce_ends hs m x status detail res
  rw [mailbox_modBox hs.boxes] at hb
  refine ⟨?_, by rw [hb], by rw [hb]; exact hr, ht⟩
  rw [hb]
  have : cyclesSince (nowStamp s) (nowStamp s) = 0 := Nat.sub_self _
  dsimp only
  rw [show nowStamp (modBox m (fun b => { b with queue := b.queue.tail }) s) = nowStamp s from rfl, this]

theorem ldgAtOnce_regs {s : State} (hs : TablesRise s) (m : Nat) (x : LdgCmd) (status detail : Nat) (res : List Word) :
    RegsKept ldgCells s (ldgAtOnce m x status detail res s) := (ldgAtOnce_ends hs m x status detail res).regs

theorem ldgAtOnce_keeps {s : State} (hs : TablesRise s) (m : Nat) (x : LdgCmd) (status detail : Nat) (res : List Word) :
    ∀ r ∈ s.flt.flying, r ∈ (ldgAtOnce m x status detail res s).flt.flying := (ldgAtOnce_ends hs m x status detail res).keeps

/-- R371: a running command that completes. -/
theorem ldgComplete_ends {s : State} (hs : TablesRise s) {m : Nat} {r : LdgRun} (hr : (mailbox s m).run = some r) (status detail : Nat) (res : List Word) :
    LdgEnds m r.cmd r.started status detail res (modBox m (fun b => { b with run := none }) s) (ldgComplete m status detail res s) := by
  have he : ldgComplete m status detail res s = ldgFinish m r.cmd r.started status detail res (modBox m (fun b => { b with run := none }) s) := by
    unfold ldgComplete
    rw [hr]
  rw [he]
  exact ldgFinish_ends ((modBox_does m _ s).tables hs) ..

theorem ldgComplete_completed {s : State} (hs : TablesRise s) {m : Nat} {r : LdgRun} (hr : (mailbox s m).run = some r) (status detail : Nat)
    (res : List Word) : Completed m r status detail res s (ldgComplete m status detail res s) := by
  obtain ⟨hb, -, -, ht, -, -⟩ := ldgComplete_ends hs hr status detail res
  rw [mailbox_modBox hs.boxes] at hb
  exact ⟨by rw [hb]; rfl, by rw [hb], by rw [hb], ht⟩

theorem ldgComplete_regs {s : State} (hs : TablesRise s) (m status detail : Nat) (res : List Word) :
    RegsKept ldgCells s (ldgComplete m status detail res s) := by
  cases hr : (mailbox s m).run with
  | none =>
    unfold ldgComplete
    rw [hr]
    exact RegsKept.refl _ _
  | some r => exact (ldgComplete_ends hs hr status detail res).regs

theorem ldgComplete_others {s : State} (hs : TablesRise s) {m k : Nat} (hk : k ≠ m) (status detail : Nat) (res : List Word) :
    mailbox (ldgComplete m status detail res s) k = mailbox s k := by
  cases hr : (mailbox s m).run with
  | none =>
    unfold ldgComplete
    rw [hr]
  | some r => exact ((ldgComplete_ends hs hr status detail res).others k hk).trans (mailbox_modBox_other hs.boxes hk _)

theorem ldgComplete_keeps {s : State} (hs : TablesRise s) (m status detail : Nat) (res : List Word) :
    ∀ r ∈ s.flt.flying, r ∈ (ldgComplete m status detail res s).flt.flying := by
  cases hr : (mailbox s m).run with
  | none =>
    unfold ldgComplete
    rw [hr]
    exact fun _ h => h
  | some r => exact (ldgComplete_ends hs hr status detail res).keeps

/-! ### The same seen from before a step that leaves mailboxes and clock alone, and after one that does -/

theorem Answered.from {m : Nat} {x : LdgCmd} {status detail : Nat} {res : List Word} {s u t : State} (h : Answered m x status detail res u t)
    (hb : mailbox u m = mailbox s m) (hc : u.btr = s.btr) : Answered m x status detail res s t := by
  obtain ⟨h1, h2, h3, h4⟩ := h
  exact ⟨hb ▸ h1, hb ▸ h2, h3, fun hn => (h4 hn).from hc⟩

theorem Completed.from {m : Nat} {r : LdgRun} {status detail : Nat} {res : List Word} {s u t : State} (h : Completed m r status detail res u t)
    (hb : mailbox u m = mailbox s m) (hc : u.btr = s.btr) : Completed m r status detail res s t := by
  obtain ⟨h1, h2, h3, h4⟩ := h
  exact ⟨by rw [h1, hb, nowStamp_btr hc], h2, hb ▸ h3, fun hn => (h4 hn).from hc⟩

theorem Completed.keep {m : Nat} {r : LdgRun} {status detail : Nat} {res : List Word} {s u t : State} (h : Completed m r status detail res s u)
    (hb : mailbox t m = mailbox u m) (hf : ∀ r ∈ u.flt.flying, r ∈ t.flt.flying) : Completed m r status detail res s t := by
  obtain ⟨h1, h2, h3, h4⟩ := h
  exact ⟨by rw [hb, h1], by rw [hb, h2], by rw [hb, h3], fun hn => (h4 hn).mono hf⟩

/-! ### A command that runs (R374) -/

theorem ldgRun_started {s : State} (hs : Rises s.ldg.boxes) (m : Nat) (x : LdgCmd) (w : LdgWait) : Started m x w s (ldgRun m x w s) := by
  have h : mailbox (ldgRun m x w s) m = { mailbox s m with queue := (mailbox s m).queue.tail, run := some ⟨x, nowStamp s, w, false⟩ } := mailbox_modBox hs ..
  exact ⟨by rw [h], by rw [h], by rw [h]⟩

theorem Started.from {m : Nat} {x : LdgCmd} {w : LdgWait} {s u t : State} (h : Started m x w u t) (hb : mailbox u m = mailbox s m) (hc : u.btr = s.btr) :
    Started m x w s t := by
  obtain ⟨h1, h2, h3⟩ := h
  exact ⟨by rw [h1, nowStamp_btr hc], by rw [h2, hb], by rw [h3, hb]⟩

theorem Started.keep {m : Nat} {x : LdgCmd} {w : LdgWait} {s u t : State} (h : Started m x w s u) (hb : mailbox t m = mailbox u m) : Started m x w s t := by
  obtain ⟨h1, h2, h3⟩ := h
  exact ⟨by rw [hb, h1], by rw [hb, h2], by rw [hb, h3]⟩

theorem mailbox_setWait {s : State} (hs : Rises s.ldg.boxes) (m : Nat) (w : LdgWait) :
    mailbox (setWait m w s) m = { mailbox s m with run := (mailbox s m).run.map (fun r => { r with wait := w }) } := mailbox_modBox hs ..

/-- A command that runs and waits for something else from here on. -/
theorem Started.wait {m : Nat} {x : LdgCmd} {w : LdgWait} {s u : State} (h : Started m x w s u) (hs : Rises u.ldg.boxes) (v : LdgWait) :
    Started m x v s (setWait m v u) := by
  obtain ⟨h1, h2, h3⟩ := h
  have hb := mailbox_setWait hs m v
  exact ⟨by rw [hb]; dsimp only; rw [h1]; rfl, by rw [hb]; exact h2, by rw [hb]; exact h3⟩

/-! ### A command row (R367, R371, R372) -/

theorem lodgeRow_goes {s : State} {m op : Nat} {r : LdgRun} (hr : (mailbox s m).run = some r) (start : LdgCmd → State → State)
    (goOn : LdgRun → State → State) : lodgeRow op m start goOn s = if r.cmd.opcode = op then goOn r s else s := by
  unfold lodgeRow
  rw [hr]

theorem lodgeRow_starts {s : State} {m op : Nat} {x : LdgCmd} (hr : (mailbox s m).run = none) (hx : startable s m = some x)
    (start : LdgCmd → State → State) (goOn : LdgRun → State → State) : lodgeRow op m start goOn s = if x.opcode = op then start x s else s := by
  unfold lodgeRow
  rw [hr, hx]

theorem lodgeRow_idle {s : State} {m op : Nat} (hr : (mailbox s m).run = none) (hx : ∀ x : LdgCmd, startable s m = some x → x.opcode ≠ op)
    (start : LdgCmd → State → State) (goOn : LdgRun → State → State) : lodgeRow op m start goOn s = s := by
  cases h : startable s m with
  | none =>
    unfold lodgeRow
    rw [hr, h]
  | some x => exact (lodgeRow_starts hr h start goOn).trans (if_neg (hx x h))

/-- A command that may start, starts. -/
theorem Ready.row {m op : Nat} {x : LdgCmd} {s : State} (h : Ready m op x s) (start : LdgCmd → State → State) (goOn : LdgRun → State → State) :
    upNext (lodgeRow op m start goOn) s = .next (start x s) := by
  rw [upNext_up h.up, lodgeRow_starts h.run h.start start goOn, if_pos h.opcode]

/-- The common checks that a command passes. -/
theorem Ready.checks {m op : Nat} {x : LdgCmd} {s : State} (h : Ready m op x s) {bad off : Bool} (hb : bad = false) (ho : off = false) (own : State → State) :
    ldgChecks m x bad off own s = own s := by
  unfold ldgChecks
  rw [if_neg (by rw [h.unused, hb]; decide), if_neg (by rw [h.opcode, h.owner]; decide), if_neg (by rw [ho]; decide)]

/-- R372: bits that a command does not use. -/
theorem ldgChecks_unused {m : Nat} {x : LdgCmd} {s : State} (h : unusedZero x = false) (bad off : Bool) (own : State → State) :
    ldgChecks m x bad off own s = ldgAtOnce m x 2 0 [] s := by
  unfold ldgChecks
  rw [if_pos (by rw [h]; rfl)]

end Sys2Proof.Machine
end

section
/-!
SUPPORT. Echoes of delay measurements (R57, R58) and the commands that they end (R378, R379), and the statement on them settled.
-/
namespace Sys2Proof.Machine

theorem at_quoP : ∀ p : Fin 64, regExists .quoPrtt p 0 = true ∧ regExists .quoDlPhase p 0 = true := by decide +kernel

/-! ### Actions over all mailboxes -/

/-- Of actions that are done once for each number below `n`, all but one leave the state. -/
theorem forN_only {σ : Type} {n m : Nat} (hm : m < n) (f : Nat → σ → σ) (s : σ) (h1 : ∀ k, k ≠ m → f k s = s) (h2 : ∀ k, k ≠ m → f k (f m s) = f m s) :
    forN n f s = f m s := by
  have before : ∀ k, k ≤ m → forN k f s = s := fun k => by
    induction k with
    | zero => exact fun _ => forN_zero ..
    | succ k ih => exact fun h => by rw [forN_succ, ih (by omega), h1 k (by omega)]
  have after : ∀ k, forN (m + 1 + k) f s = f m s := fun k => by
    induction k with
    | zero => rw [Nat.add_zero, forN_succ, before m (Nat.le_refl m)]
    | succ k ih => rw [← Nat.add_assoc, forN_succ, ih, h2 _ (by omega)]
  have h := after (n - (m + 1))
  rwa [show m + 1 + (n - (m + 1)) = n by omega] at h

/-- Actions that each leave the state leave it together. -/
theorem forN_id {σ : Type} (n : Nat) (f : Nat → σ → σ) (s : σ) (h : ∀ k, f k s = s) : forN n f s = s := by
  induction n with
  | zero => rfl
  | succ n ih => rw [forN_succ, ih, h]

/-- R378: a DELAY_MEASURE with a measurement under way, and a command of another kind, go on. -/
theorem measureCheck_waits {s : State} {m : Nat}
    (h : ∀ (x : LdgRun) (named : List Nat), (mailbox s m).run = some x → x.wait = .measure named → ∃ q ∈ named, measureEnded s q = false) :
    measureCheck m s = s := by
  unfold measureCheck
  split
  · next named _ hr =>
    obtain ⟨q, hq, hf⟩ := h _ named hr rfl
    refine if_neg fun ht => ?_
    have := List.all_eq_true.1 ht q hq
    rw [hf] at this
    cases this
  · rfl

/-- The status of a DELAY_MEASURE whose partners `named` have all ended, `bad` of them without a result (R379). -/
def measureStatus (named bad : List Nat) : Nat := if bad.isEmpty then 0 else if bad.length = named.length then 5 else 0x0B

/-- R378, R379: a DELAY_MEASURE whose measurements have all ended. -/
theorem measureCheck_ends {s : State} {m : Nat} {r : LdgRun} {named : List Nat} (hr : (mailbox s m).run = some r) (hw : r.wait = .measure named)
    (he : ∀ q ∈ named, measureEnded s q = true) :
    measureCheck m s = ldgComplete m (measureStatus named (named.filter fun q => measureReason s q != 0)) (named.filter fun q => measureReason s q != 0).length
      (measureResults s named) (measureDrop named s) := by
  obtain ⟨c, st, w, o⟩ := r
  cases hw
  unfold measureCheck
  rw [hr]
  exact if_pos (List.all_eq_true.2 he)

theorem measureStatus_eq {named : List Nat} {f : Nat → Bool} {bad : List Nat} (hb : bad = named.filter f) :
    (bad = [] → measureStatus named bad = 0) ∧ (bad ≠ [] → bad = named → measureStatus named bad = 5) ∧
      (bad ≠ [] → bad ≠ named → measureStatus named bad = 0x0B) := by
  unfold measureStatus
  refine ⟨fun h => by rw [h]; rfl, fun h h' => ?_, fun h h' => ?_⟩
  · rw [if_neg (by simpa using h), if_pos (by rw [h'])]
  · rw [if_neg (by simpa using h), if_neg fun hl => h' ?_]
    exact (hb ▸ List.filter_sublist (p := f) (l := named)).eq_of_length hl

/-! ### The end of a measurement (R57, R58) -/

theorem satSigned_20 (d : Int) : satSigned 20 d ≠ d ↔ d < -524288 ∨ 524287 < d := by
  unfold satSigned
  simp only [show (2 ^ (20 - 1) : Nat) = 524288 from rfl]
  split
  · omega
  · split <;> omega

/-- A measurement that is refused. -/
def State.measureRefused (p r : Nat) (s : State) : State :=
  s.modQuo fun q => { q with rounds := smErase q.rounds p, measured := smInsert q.measured p r }

/-- The advance that a measurement of flight `f` holds for: the flight itself while the downlink follows it. -/
def measureAdvance (p : Nat) (f : Int) (s : State) : Int := if !bit (cell s .quoDlPhase p) 20 then f else ((partnerClock s p).target : Int)

/-- The advance of a downlink that follows the flight. -/
def phaseFollows (follows : Bool) (p : Nat) (f : Int) (s : State) : State :=
  if follows then
    setAdvance p f.toNat (modCell .quoDlPhase p 0 (fun w => setFld (setFld w 19 14 (f.toNat / 16384)) 13 0 (f.toNat % 16384)) s)
  else s

/-- The state with a measured mean round trip. -/
def tripShown (p : Nat) (l : List Nat) (s : State) : State := modCell .quoPrtt p 0 (fun w => setFld w 23 0 (divRound (sumL l : Nat) 64).toNat) s

/-- A DELAY that waits for the tick. -/
def delayMeasured (p : Nat) (d : Int) (s : State) : State := modClock p (fun k => { k with pending := some ⟨d, true, k.target⟩ }) s

theorem finishMeasure_eq (p : Nat) (l : List Nat) (s : State) (t : Nat) (f a : Int)
    (ht : t = match (partner s p).binding with | some b => recTTurn b.record | none => 0) (hf : f = flight (sumL l) t (sfld (cell s .quoPasym p) 19 0))
    (ha : a = measureAdvance p f s - f + sfld (cell s .quoPtrim p) 15 0) :
    finishMeasure p l s =
      if spreadBad l then s.measureRefused p 3
      else if f < 0 ∨ f > 63 * 16384 + 16383 then s.measureRefused p 4
      else if satSigned 20 a ≠ a then s.measureRefused p 5
      else delayMeasured p a (phaseFollows (!bit (cell s .quoDlPhase p) 20) p f (tripShown p l (s.measureRefused p 0))) := by
  subst ht hf ha
  rfl

theorem partnerClock_modClock {s : State} (h : Rises s.quo.clocks) (p : Nat) (f : PartnerClock → PartnerClock) :
    partnerClock (modClock p f s) p = f (partnerClock s p) := smGet_upd_rises h ..

theorem rises_modClock {s : State} (h : Rises s.quo.clocks) (p : Nat) (f : PartnerClock → PartnerClock) : Rises (modClock p f s).quo.clocks := rises_upd h

theorem rises_setAdvance {s : State} (h : Rises s.quo.clocks) (p a : Nat) : Rises (setAdvance p a s).quo.clocks := by
  unfold setAdvance
  exact rises_modClock (s := s) h ..

theorem delayMeasured_waits {s : State} (h : Rises s.quo.clocks) (p : Nat) (a : Int) :
    (partnerClock (delayMeasured p a s) p).pending.map (·.delay) = some a := by
  unfold delayMeasured
  rw [partnerClock_modClock h]
  rfl

/-- What a measurement that succeeds leaves. -/
theorem delayMeasured_shows {s : State} (hs : Rises s.regs) (hk : Rises s.quo.clocks) {p : Nat} (hp : p < 64) (l : List Nat) (follows : Bool) {f : Int}
    (a : Int) (h0 : 0 ≤ f) (h1 : f ≤ 63 * 16384 + 16383) :
    (delayMeasured p a (phaseFollows follows p f (tripShown p l s))).ldg = s.ldg ∧
      (delayMeasured p a (phaseFollows follows p f (tripShown p l s))).quo.measured = s.quo.measured ∧
      (delayMeasured p a (phaseFollows follows p f (tripShown p l s))).quo.rounds = s.quo.rounds ∧
      fld (cell (delayMeasured p a (phaseFollows follows p f (tripShown p l s))) .quoPrtt p) 23 0 = (divRound (sumL l : Nat) 64).toNat % 2 ^ 24 ∧
      (partnerClock (delayMeasured p a (phaseFollows follows p f (tripShown p l s))) p).pending.map (·.delay) = some a ∧
      (follows = true → fld (cell (delayMeasured p a (phaseFollows follows p f (tripShown p l s))) .quoDlPhase p) 19 14 = f.toNat / 16384 ∧
        fld (cell (delayMeasured p a (phaseFollows follows p f (tripShown p l s))) .quoDlPhase p) 13 0 = f.toNat % 16384) := by
  obtain ⟨hq1, hq2⟩ := at_quoP ⟨p, hp⟩
  have hr : Rises (tripShown p l s).regs := rises_setCell hs ..
  have hc : cell (tripShown p l s) .quoPrtt p = setFld (cell s .quoPrtt p) 23 0 (divRound (sumL l : Nat) 64).toNat := cell_setCell hs ..
  have hf : fld (cell (tripShown p l s) .quoPrtt p) 23 0 = (divRound (sumL l : Nat) 64).toNat % 2 ^ 24 := by
    rw [hc, fld_setFld_same (by decide)]
  cases follows with
  | false =>
    exact ⟨rfl, rfl, rfl, hf, delayMeasured_waits (s := tripShown p l s) hk p a, nofun⟩
  | true =>
    let u := modCell .quoDlPhase p 0 (fun w => setFld (setFld w 19 14 (f.toNat / 16384)) 13 0 (f.toNat % 16384)) (tripShown p l s)
    have hu : cell u .quoDlPhase p = setFld (setFld (cell (tripShown p l s) .quoDlPhase p) 19 14 (f.toNat / 16384)) 13 0 (f.toNat % 16384) :=
      cell_setCell hr ..
    have hk' : Rises (setAdvance p f.toNat u).quo.clocks := rises_setAdvance (s := u) hk ..
    refine ⟨rfl, rfl, rfl, ?_, delayMeasured_waits (s := setAdvance p f.toNat u) hk' p a, fun _ => ⟨?_, ?_⟩⟩
    · exact (congrArg (fld · 23 0) (cell_setCell_other hr _ (regOff_ne hq1 hq2 nofun))).trans hf
    · refine (congrArg (fld · 19 14) hu).trans ?_
      rw [fld_setFld_other (by decide) (by decide), fld_setFld_same (by decide)]
      exact Nat.mod_eq_of_lt (by omega)
    · refine (congrArg (fld · 13 0) hu).trans ?_
      rw [fld_setFld_same (by decide)]
      exact Nat.mod_eq_of_lt (Nat.mod_lt _ (by decide))

theorem measured_refused {s : State} {p q : Nat} (h : q ≠ p) (r : Nat) : smFind (s.measureRefused p r).quo.measured q = smFind s.quo.measured q :=
  (smFind_insert ..).trans (if_neg h)

theorem measured_refused_same (s : State) (p r : Nat) : smFind (s.measureRefused p r).quo.measured p = some r :=
  (smFind_insert ..).trans (if_pos rfl)

theorem rounds_refused {s : State} (h : Rises s.quo.rounds) (p r : Nat) : smFind (s.measureRefused p r).quo.rounds p = none :=
  (smFind_erase h p p).trans (if_pos rfl)

/-- The measurement has left the table, and no other partner's result has changed. -/
theorem finishMeasure_tables {s : State} (hs : Rises s.regs) (hr : Rises s.quo.rounds) (hk : Rises s.quo.clocks) {p : Nat} (hp : p < 64) (l : List Nat) :
    smFind (finishMeasure p l s).quo.rounds p = none ∧ ∀ q, q ≠ p → smFind (finishMeasure p l s).quo.measured q = smFind s.quo.measured q := by
  obtain ⟨f, hf⟩ : ∃ f, f = flight (sumL l) (match (partner s p).binding with | some b => recTTurn b.record | none => 0) (sfld (cell s .quoPasym p) 19 0) :=
    ⟨_, rfl⟩
  obtain ⟨a, ha⟩ : ∃ a, a = measureAdvance p f s - f + sfld (cell s .quoPtrim p) 15 0 := ⟨_, rfl⟩
  rw [finishMeasure_eq p l s _ f a rfl hf ha]
  split
  · exact ⟨rounds_refused hr .., fun q hq => measured_refused hq 3⟩
  · split
    · exact ⟨rounds_refused hr .., fun q hq => measured_refused hq 4⟩
    · split
      · exact ⟨rounds_refused hr .., fun q hq => measured_refused hq 5⟩
      · obtain ⟨-, h1, h2, -⟩ := delayMeasured_shows (s := s.measureRefused p 0) hs hk hp l (!bit (cell s .quoDlPhase p) 20) a (f := f) (by omega) (by omega)
        exact ⟨by rw [h2]; exact rounds_refused hr .., fun q hq => by rw [h1]; exact measured_refused hq 0⟩

/-! ### An echo (R57) -/

/-- What an echo that is due does. -/
theorem echoReceived_due {s : State} {l n trip p : Nat} {r : List Nat} (hp : (lane s l).partner = some p) (hr : smFind s.quo.rounds p = some r) :
    ((lane s l).phase ≠ .active ∨ laneIndex s l ≠ 0 ∨ r.length ≠ n → echoReceived l n trip s = s) ∧
      ((lane s l).phase = .active → laneIndex s l = 0 → r.length = n → echoReceived l n trip s =
        if n = 63 then finishMeasure p (r ++ [trip]) s else s.modQuo fun q => { q with rounds := smInsert q.rounds p (r ++ [trip]) }) := by
  unfold echoReceived
  rw [hp]
  dsimp only
  rw [hr]
  dsimp only
  refine ⟨fun h => if_neg ?_, fun h1 h2 h3 => ?_⟩
  · rcases h with h | h | h <;> simp [h]
  · rw [if_pos (by simp [h1, h2, h3])]
    have : (r ++ [trip]).length = 64 ↔ n = 63 := by rw [List.length_append, h3]; exact ⟨fun h => Nat.succ.inj h, fun h => by rw [h]; rfl⟩
    simp only [this]

/-- A measurement that waits for an echo keeps every DELAY_MEASURE that names it. -/
theorem measureChecks_wait {s u : State} {p : Nat} (hl : u.ldg = s.ldg) (hm : ∀ q, q ≠ p → smFind u.quo.measured q = smFind s.quo.measured q)
    (hw : ∀ (m : Nat) (x : LdgRun) (named : List Nat), (mailbox s m).run = some x → x.wait = .measure named →
      ∃ q ∈ named, q ≠ p ∧ smFind s.quo.measured q = none) : measureChecks u = u := by
  refine forN_id _ _ _ fun k => measureCheck_waits fun x named hr hx => ?_
  rw [mailbox_of hl] at hr
  obtain ⟨q, hq, hqp, hn⟩ := hw k x named hr hx
  refine ⟨q, hq, ?_⟩
  unfold measureEnded
  rw [hm q hqp, hn]

/-- An echo that meets the measurement of a partner (R57, R58), as its row shows it. -/
theorem echoRow_measures {s : State} (hs : TablesRise s) (hn : NamesInRange s) (hrr : Rises s.quo.rounds) (hk : Rises s.quo.clocks) {l p n : Nat} {r : List Nat}
    (trip : Nat) (hp : (lane s l).partner = some p) (hr : smFind s.quo.rounds p = some r)
    (hw : ∀ (m : Nat) (x : LdgRun) (named : List Nat), (mailbox s m).run = some x → x.wait = .measure named →
      ∃ q ∈ named, q ≠ p ∧ smFind s.quo.measured q = none) :
    ((lane s l).phase ≠ .active ∨ laneIndex s l ≠ 0 ∨ r.length ≠ n → echoRow l n trip s = s) ∧
      ((lane s l).phase = .active → laneIndex s l = 0 → r.length = n → n < 63 →
        echoRow l n trip s = s.modQuo fun q => { q with rounds := smInsert q.rounds p (r ++ [trip]) }) ∧
      ((lane s l).phase = .active → laneIndex s l = 0 → r.length = n → n = 63 → echoRow l n trip s = finishMeasure p (r ++ [trip]) s) := by
  obtain ⟨h1, h2⟩ := echoReceived_due (l := l) (n := n) (trip := trip) hp hr
  refine ⟨fun h => ?_, fun ha hi hl hn' => ?_, fun ha hi hl hn' => ?_⟩
  · rw [echoRow, h1 h]
    exact measureChecks_wait rfl (fun _ _ => rfl) hw
  · rw [echoRow, h2 ha hi hl, if_neg (by omega)]
    exact measureChecks_wait (s := s) rfl (fun _ _ => rfl) hw
  · rw [echoRow, h2 ha hi hl, if_pos hn']
    exact measureChecks_wait (s := s) ((finishMeasure_does ..).only.same .ldg (by decide)) (finishMeasure_tables hs.regs hrr hk (hn.lanes l p hp).2 _).2 hw

/-- Settles O36. -/
theorem echoesMeasureDelay : Obligations.EchoesMeasureDelay := by
  unfold Obligations.EchoesMeasureDelay
  refine ⟨fun l n trip s p r hu hs hn h1 h2 h3 hp hr hw => ⟨_, upNext_up hu, ?_⟩, fun l trip s u p r m x named bad hu hs hn h1 h2 hp hr ha hi hl hb hx hx' hm he ho hu' hbad =>
    ⟨_, upNext_up hu, ?_⟩⟩
  · obtain ⟨g1, g2, g3⟩ := echoRow_measures hs hn h1 h3 (n := n) trip hp hr hw
    refine ⟨g1, fun ha hi hl hn' => ?_, fun ha hi hl hn' => ?_⟩
    · rw [g2 ha hi hl hn']
      exact ⟨(State.modQuo_does (fun q => { q with rounds := smInsert q.rounds p (r ++ [trip]) }) s fun _ h => h).only, (smFind_insert ..).trans (if_pos rfl), rfl⟩
    · rw [g3 ha hi hl hn']
      refine ⟨?_, fun b f a hb hf ha' => ?_⟩
      · exact (finishMeasure_tables hs.regs h1 h3 (hn.lanes l p hp).2 _).1
      · have ho := finishMeasure_eq p (r ++ [trip]) s (recTTurn b.record) f a (by rw [hb]) hf (by
          rw [ha', measureAdvance]
          cases bit (cell s .quoDlPhase p) 20 <;> rfl)
        rw [ho]
        refine ⟨fun h => ?_, fun h h' => ?_, fun h k1 k2 h' => ?_, fun h k1 k2 k3 k4 => ?_⟩
        · rw [if_pos h]
          exact measured_refused_same ..
        · rw [if_neg (by rw [h]; decide), if_pos (h'.imp id id)]
          exact measured_refused_same ..
        · rw [if_neg (by rw [h]; decide), if_neg (by omega), if_pos ((satSigned_20 a).2 h')]
          exact measured_refused_same ..
        · rw [if_neg (by rw [h]; decide), if_neg (by omega), if_neg (by rw [satSigned_20]; omega)]
          obtain ⟨m1, m2, m3, m4, m5, m6⟩ := delayMeasured_shows (s := s.measureRefused p 0) hs.regs h3 (hn.lanes l p hp).2 (r ++ [trip])
            (!bit (cell s .quoDlPhase p) 20) a k1 k2
          refine ⟨?_, m4, m5, fun hq => m6 (by rw [hq]; rfl)⟩
          rw [m2]
          exact measured_refused_same ..
  · obtain ⟨-, hf⟩ := echoReceived_due (l := l) (n := 63) (trip := trip) hp hr
    have hf := hf ha hi hl
    rw [if_pos rfl] at hf
    have hu3 : u = s.measureRefused p 3 := by
      rw [hu', finishMeasure_eq p (r ++ [trip]) s _ _ _ rfl rfl rfl]
      exact if_pos hb
    have hbox : ∀ k, mailbox u k = mailbox s k := fun k => mailbox_of (by rw [hu3]; rfl) k
    have tu : TablesRise u := hu' ▸ (finishMeasure_does ..).tables hs
    have hend : ∀ q ∈ named, measureEnded u q = true := fun q hq => by
      rw [hu3]
      unfold measureEnded
      by_cases e : q = p
      · rw [e, measured_refused_same]
        rfl
      · rw [measured_refused e]
        exact he q hq e
    have hreas : measureReason u p = 3 := by
      rw [hu3, measureReason, measured_refused_same]
      rfl
    have hmem : p ∈ bad := by
      rw [hbad]
      exact List.mem_filter.2 ⟨hm, by rw [hreas]; rfl⟩
    have hc := measureCheck_ends (s := u) (by rw [hbox]; exact hx) hx' hend
    rw [← hbad] at hc
    have td : TablesRise (measureDrop named u) := (measureDrop_does ..).tables tu
    have hrow : echoRow l 63 trip s = measureCheck m u := by
      rw [echoRow, hf, ← hu']
      refine forN_only m.isLt measureCheck u (fun k hk => measureCheck_waits fun y other hy hw => ?_) fun k hk => measureCheck_waits fun y other hy hw => ?_
      · rw [hbox] at hy
        exact absurd hw (ho k y other hk hy)
      · rw [hc, ldgComplete_others td hk] at hy
        exact absurd hw (ho k y other hk ((hbox k) ▸ hy))
    have hcomp : Completed m x (measureStatus named bad) bad.length (measureResults u named) s (measureCheck m u) := by
      rw [hc]
      refine (ldgComplete_completed td (r := x) ?_ ..).from (hbox m) (by rw [hu3]; rfl)
      exact (congrArg Mailbox.run (hbox m)).trans hx
    obtain ⟨-, s5, sB⟩ := measureStatus_eq hbad
    rw [hrow]
    have hne : bad ≠ [] := List.ne_nil_of_mem hmem
    exact ⟨hmem, hreas, fun h => s5 hne h ▸ hcomp, fun h => sB hne h ▸ hcomp⟩

end Sys2Proof.Machine
end

section
/-!
SUPPORT. Configuration transactions with partners (R108, R109), and the statement on them settled.
-/
namespace Sys2Proof.Machine

/-! ### Register files step by step -/

theorem RegsKept.set {xs : List (Reg × Nat × Nat)} {s u : State} (h : RegsKept xs s u) (hs : Rises u.regs) {r : Reg} {i j : Nat} (hin : (r, i, j) ∈ xs)
    (w : Word) : RegsKept xs s (setCell r i j w u) :=
  h.trans ((regsKept_setCell hs r i j w).widen (List.cons_subset.2 ⟨hin, List.nil_subset _⟩))

theorem RegsKept.ev {xs : List (Reg × Nat × Nat)} {s u : State} (h : RegsKept xs s u) (hs : Rises u.regs) {r : Reg} {i : Nat} (hin : (r, i, 0) ∈ xs)
    (b : Nat) : RegsKept xs s (event r i b u) :=
  h.trans ((regsKept_ev hs r i b).widen (List.cons_subset.2 ⟨hin, List.nil_subset _⟩))

theorem RegsKept.keep {xs : List (Reg × Nat × Nat)} {s u t : State} (h : RegsKept xs s u) (k : t.regs = u.regs) : RegsKept xs s t :=
  h.trans (.of_regs k)

/-- An event seen from before a change of other registers. -/
theorem Evented.before {r : Reg} {i b : Nat} {s u t : State} {xs : List (Reg × Nat × Nat)} (h : Evented r i b u t) (k : RegsKept xs s u)
    (hn : ∀ x ∈ xs, regOff r i 0 ≠ regOff x.1 x.2.1 x.2.2) : Evented r i b s t := evented_of h (k r i 0 hn)

/-- An event seen from after a change of other registers. -/
theorem Evented.after {r : Reg} {i b : Nat} {s u t : State} {xs : List (Reg × Nat × Nat)} (h : Evented r i b s u) (k : RegsKept xs u t)
    (hn : ∀ x ∈ xs, regOff r i 0 ≠ regOff x.1 x.2.1 x.2.2) : Evented r i b s t := by
  unfold Evented
  rw [k r i 0 hn]
  exact h

/-- Entries of other registers and those that the end of a command changes lie apart. -/
theorem ldg_ne {r : Reg} {i : Nat} (h : regExists r i 0 = true) (h1 : r ≠ .ldgCnt) (h2 : r ≠ .ldgEvt) :
    ∀ x ∈ ldgCells, regOff r i 0 ≠ regOff x.1 x.2.1 x.2.2 := by
  intro x hx
  rcases List.mem_cons.1 hx with rfl | hx
  · exact regOff_ne h at_ldg.1 fun e => h1 (congrArg Prod.fst e)
  · rw [List.mem_singleton.1 hx]
    exact regOff_ne h at_ldg.2.1 fun e => h2 (congrArg Prod.fst e)

/-! ### Transactions that have ended complete their commands (R109) -/

theorem at_partner : ∀ p : Fin 64, regExists .bedPevt p 0 = true ∧ regExists .bedPcntFrame p 0 = true ∧ regExists .bedPcntSpan p 0 = true := by
  decide +kernel

/-- What a mailbox's PARTNER_CONFIG does once its transaction has ended. -/
def configAnswer (m : Nat) (t : State) : State :=
  match (mailbox t m).run with
  | some ⟨_, _, .config p, _⟩ =>
    let tag := ((partner t p).nextTag + 15) % 16
    let u := modPartner p (fun y => { y with cfgDone := none }) t
    match (partner t p).cfgDone with
    | some (some (status, data)) => ldgComplete m 0 0 [mkFld 7 4 tag ||| mkFld 3 0 status, data] u
    | some none => ldgComplete m 0x0A tag [mkFld 7 4 tag] u
    | none => t
  | _ => t

theorem configAnswered_eq (s : State) : configAnswered s = forN 8 configAnswer s := rfl

/-- A PARTNER_CONFIG whose transaction goes on, and a command of another kind. -/
theorem configAnswer_waits {s : State} {m : Nat} (h : ∀ (r : LdgRun) (p : Nat), (mailbox s m).run = some r → r.wait = .config p → (partner s p).cfgDone = none) :
    configAnswer m s = s := by
  unfold configAnswer
  split
  · next p _ hr =>
    dsimp only
    rw [h _ p hr rfl]
  · rfl

theorem configAnswered_waits {s : State} (h : ∀ q : Nat, (partner s q).cfgDone = none) : configAnswered s = s :=
  forN_id _ _ _ fun _ => configAnswer_waits fun _ p _ _ => h p

/-- The status, detail and results of a PARTNER_CONFIG whose transaction has ended. -/
def configResult (tag : Nat) : Option (Nat × Word) → Nat × Nat × List Word
  | some (status, data) => (0, 0, [mkFld 7 4 tag ||| mkFld 3 0 status, data])
  | none => (0x0A, tag, [mkFld 7 4 tag])

theorem configAnswer_ends {s : State} {m p : Nat} {r : LdgRun} {o : Option (Nat × Word)} (hr : (mailbox s m).run = some r) (hw : r.wait = .config p)
    (hd : (partner s p).cfgDone = some o) :
    configAnswer m s = ldgComplete m (configResult (((partner s p).nextTag + 15) % 16) o).1 (configResult (((partner s p).nextTag + 15) % 16) o).2.1
      (configResult (((partner s p).nextTag + 15) % 16) o).2.2 (modPartner p (fun y => { y with cfgDone := none }) s) := by
  obtain ⟨c, st, w, k⟩ := r
  cases hw
  unfold configAnswer
  rw [hr]
  dsimp only
  rw [hd]
  cases o <;> rfl

/-- R109: one transaction has ended, and the one command that waits for it completes. -/
theorem configAnswered_one {s : State} (hs : TablesRise s) {m p : Nat} (hm : m < 8) {r : LdgRun} {o : Option (Nat × Word)} (hr : (mailbox s m).run = some r)
    (hw : r.wait = .config p) (ho : ∀ (n : Nat) (r' : LdgRun), n ≠ m → (mailbox s n).run = some r' → r'.wait ≠ .config p)
    (hd : (partner s p).cfgDone = some o) (hq : ∀ q, q ≠ p → (partner s q).cfgDone = none) :
    configAnswered s = configAnswer m s ∧ partner (configAnswer m s) p = { partner s p with cfgDone := none } ∧ RegsKept ldgCells s (configAnswer m s) ∧
      (∀ r ∈ s.flt.flying, r ∈ (configAnswer m s).flt.flying) ∧
      Completed m r (configResult (((partner s p).nextTag + 15) % 16) o).1 (configResult (((partner s p).nextTag + 15) % 16) o).2.1
        (configResult (((partner s p).nextTag + 15) % 16) o).2.2 s (configAnswer m s) := by
  let u := modPartner p (fun y => { y with cfgDone := none }) s
  have tu : TablesRise u := (modPartner_does ..).tables hs
  have he := configAnswer_ends hr hw hd
  have hp : ∀ q, partner (configAnswer m s) q = partner u q := fun q => by
    rw [he]
    exact partner_of ((ldgComplete_does ..).only.same .partners (by decide)) q
  refine ⟨?_, ?_, ?_, ?_, ?_⟩
  · rw [configAnswered_eq]
    refine forN_only hm configAnswer s (fun k hk => configAnswer_waits fun r' q hr' hw' => ?_) fun k hk => configAnswer_waits fun r' q hr' hw' => ?_
    · exact hq q fun e => ho k r' hk hr' (e ▸ hw')
    · have hr2 : (mailbox s k).run = some r' := by
        rw [he, ldgComplete_others tu hk] at hr'
        exact hr'
      have hne : q ≠ p := fun e => ho k r' hk hr2 (e ▸ hw')
      rw [hp, partner_modPartner_other hs.partners hne]
      exact hq q hne
  · rw [hp, partner_modPartner hs.partners]
  · rw [he]
    exact fun q i j hn => ldgComplete_regs tu m _ _ _ q i j hn
  · rw [he]
    exact ldgComplete_keeps tu m _ _ _
  · rw [he]
    exact (ldgComplete_completed tu hr ..).from rfl rfl

/-! ### Responses and time-outs -/

/-- R109: a transaction that has timed out. -/
theorem cfgTimeout_ends {s : State} (hs : TablesRise s) {p : Nat} {c : CfgTx} {m : Nat} (hc : (partner s p).cfg = some c) (hm : c.sent = some m)
    (h : m + 4096 < nowGbt s) :
    partner (cfgTimeout p s) p = { partner s p with cfg := none, cfgDone := some none } ∧ (∀ q, q ≠ p → partner (cfgTimeout p s) q = partner s q) ∧
      Evented .bedPevt p 19 s (cfgTimeout p s) ∧ RegsKept [(.bedPevt, p, 0)] s (cfgTimeout p s) ∧
      cell (cfgTimeout p s) .bedPevt p = cell (event .bedPevt p 19 s) .bedPevt p ∧
      Reported Src.partnerCfgTimeout p [w32 p, w32 c.op, w32 c.tag, c.addr] s (cfgTimeout p s) := by
  let u := modPartner p (fun x => { x with cfg := none, cfgDone := some none }) s
  let v := event .bedPevt p 19 u
  have he : cfgTimeout p s = raise Src.partnerCfgTimeout p [w32 p, w32 c.op, w32 c.tag, c.addr] v (partnerTarget v p) := by
    unfold cfgTimeout
    rw [hc]
    dsimp only
    rw [hm]
    exact if_pos h
  have hv : v.partners = u.partners := event_partners ..
  rw [he]
  have hev : Evented .bedPevt p 19 s v := evented_event (s := u) hs.regs ..
  refine ⟨?_, fun q hq => ?_, hev, (RegsKept.refl _ _).ev (u := u) hs.regs (.head _) 19, hev.trans (cell_event hs.regs .bedPevt p 19).symm,
    reported_raise (event_btr ..)⟩
  · exact (partner_of (s := u) hv p).trans (partner_modPartner hs.partners ..)
  · exact (partner_of (s := u) hv q).trans (partner_modPartner_other hs.partners hq _)

theorem cfgTimeout_waits {s : State} {p : Nat} {c : CfgTx} {m : Nat} (hc : (partner s p).cfg = some c) (hm : c.sent = some m) (h : nowGbt s ≤ m + 4096) :
    cfgTimeout p s = s := by
  unfold cfgTimeout
  rw [hc]
  dsimp only
  rw [hm]
  exact if_neg (by omega)

theorem malformedResponse_counts {s : State} (hs : Rises s.regs) (p : Fin 64) :
    Evented .bedPevt p 16 s (malformedResponse p s) ∧ cell (malformedResponse p s) .bedPcntFrame p = incSat (cell s .bedPcntFrame p) 31 16 1 := by
  obtain ⟨h1, h2, -⟩ := at_partner p
  have hr : Rises (count .bedPcntFrame p 31 16 1 s).regs := rises_setCell hs ..
  refine ⟨evented_of (evented_event hr ..) (cell_setCell_other hs _ (regOff_ne h1 h2 nofun)), ?_⟩
  exact (cell_event_other hr _ _ _ (regOff_ne h2 h1 nofun)).trans (cell_setCell hs ..)

/-- R92 to R95: a block whose length, CRC, TYPE and LANE are good. -/
theorem blockRx_good {s : State} {l p k : Nat} {chars : List Byte} (lag : Nat) (hl : (lane s l).phase = .active) (hp : (lane s l).partner = some p)
    (hd : dpStopped s = false) (hn : chars.length = 10 + 6 * k) (hk : k ≤ 66)
    (hc : crc32c (chars.take (6 + 6 * k)) = BitVec.ofNat 32 (beNat (chars.drop (6 + 6 * k))))
    (ht : nfld (beNat (chars.take 6)) 47 44 = 1 ∨ nfld (beNat (chars.take 6)) 47 44 = 2) (hi : nfld (beNat (chars.take 6)) 43 41 = laneIndex s l) :
    blockRx l chars true false lag s =
      if nfld (beNat (chars.take 6)) 47 44 = 2 then responseFrame p (laneIndex s l) k (frameWords k (chars.drop 6)) s
      else dataFrame l p (nowGbt s - lag) (nfld (beNat (chars.take 6)) 31 16) (nfld (beNat (chars.take 6)) 15 8) k (frameWords k (chars.drop 6)) s := by
  have h4 : chars.length - 4 = 6 + 6 * k := by omega
  have h6 : (chars.length - 10) / 6 = k := by omega
  unfold blockRx
  rw [hl]
  dsimp only
  rw [hp]
  dsimp only
  rw [if_neg (by rw [hd]; decide)]
  unfold activeBlock
  dsimp only
  rw [if_neg (by omega), if_neg (by simp; omega), h4, if_neg (fun h => h hc), if_neg (by omega), if_neg (fun h => h hi), h6]

/-- Settles O38. -/
theorem partnerTransactions : Obligations.PartnerTransactions := by
  unfold Obligations.PartnerTransactions
  intro m p r c sent tag s hu hs hd hr hw ho hc hsent htag
  subst htag
  have timed : sent + 4096 < nowGbt s → ∀ v : State, Does [.regs, .port0, .port1] (cfgTimeout p s) v → 
      configAnswered v = configAnswer m v ∧ (partner (configAnswer m v) p).cfg = none ∧ RegsKept ldgCells v (configAnswer m v) ∧
        Reported Src.partnerCfgTimeout p [w32 p, w32 c.op, w32 c.tag, c.addr] s (configAnswer m v) ∧
        Completed m r 0x0A (((partner s p).nextTag + 15) % 16) [mkFld 7 4 (((partner s p).nextTag + 15) % 16)] s (configAnswer m v) := fun h v hv => by
    have tv := hv.tables ((cfgTimeout_does ..).tables hs)
    obtain ⟨t1, t2, -, -, -, t6⟩ := cfgTimeout_ends hs hc hsent h
    have hvp : ∀ q, partner v q = partner (cfgTimeout p s) q := partner_of (hv.only.same .partners (by decide))
    have hvl : v.ldg = s.ldg := (hv.only.same .ldg (by decide)).trans ((cfgTimeout_does p s).only.same .ldg (by decide))
    have hvb : v.btr = s.btr := (hv.only.same .btr (by decide)).trans ((cfgTimeout_does p s).only.same .btr (by decide))
    obtain ⟨a1, a2, a3, a4, a5⟩ := configAnswered_one tv m.isLt (p := p) (r := r) (o := none) (by rw [mailbox_of hvl]; exact hr) hw
      (fun n r' hn hr' => ho n r' hn (by rwa [mailbox_of hvl] at hr')) (by rw [hvp, t1]) (fun q hq => by rw [hvp, t2 q hq]; exact hd q)
    refine ⟨a1, ?_, a3, t6.mono fun x hx => a4 x ?_, ?_⟩
    · rw [a2, hvp, t1]
    · rw [hv.only.same .flt (by decide)]
      exact hx
    · rw [hvp, t1] at a5
      exact a5.from (mailbox_of hvl m) hvb
  have response : ∀ (l : Fin 256) (chars : List Byte) (h w : Nat), (lane s l).phase = .active → (lane s l).partner = some p.val → dpStopped s = false →
      chars.length = 16 → crc32c (chars.take 12) = BitVec.ofNat 32 (beNat (chars.drop 12)) → h = beNat (chars.take 6) → nfld h 47 44 = 2 →
      nfld h 43 41 = laneIndex s l → w = beNat ((chars.drop 6).take 6) →
      blockRx l chars true false 0 s = responseFrame p (laneIndex s l) 1 [w] s := fun l chars h w hl hp hs' hn hcrc hh h2 hi hww => by
    subst hh hww
    rw [blockRx_good (k := 1) 0 hl hp hs' hn (by decide) hcrc (.inr h2) hi, if_pos h2]
    rfl
  refine ⟨fun l chars h w hl hp hs' hn hcrc hh h2 hi hww => ⟨_, upNext_up hu, fun ht => ?_, fun ht h0 hq => ?_, fun ht hq => ?_⟩, fun ht => ?_, fun ht => ⟨_, upNext_up hu, ?_⟩⟩
  · rw [burirFrame, response l chars h w hl hp hs' hn hcrc hh h2 hi hww]
    obtain ⟨t1, -, -, -, t5, -⟩ := cfgTimeout_ends hs hc hsent ht
    have hresp : responseFrame p (laneIndex s l) 1 [w] s = malformedResponse p (cfgTimeout p s) := by
      unfold responseFrame
      dsimp only
      rw [t1]
    rw [hresp]
    obtain ⟨a1, a2, a3, a4, a5⟩ := timed ht _ (malformedResponse_does ..)
    obtain ⟨e1, -⟩ := malformedResponse_counts ((cfgTimeout_does p s).tables hs).regs p
    rw [a1]
    exact ⟨a2, (evented_of e1 t5).after a3 (ldg_ne (at_partner p).1 (by decide) (by decide)), a4, a5⟩
  · rw [burirFrame, response l chars h w hl hp hs' hn hcrc hh h2 hi hww]
    have hresp : responseFrame p (laneIndex s l) 1 [w] s =
        modPartner p (fun x => { x with cfg := none, cfgDone := some (some (nfld w 43 40, w32 (nfld w 31 0))) }) s := by
      unfold responseFrame
      dsimp only
      rw [cfgTimeout_waits hc hsent ht, hc]
      exact if_pos ⟨rfl, h0, by rw [hsent]; rfl, hq⟩
    rw [hresp]
    obtain ⟨a1, a2, -, -, a5⟩ := configAnswered_one (m := m) (p := p) (o := some (nfld w 43 40, w32 (nfld w 31 0)))
      ((modPartner_does p (fun x => { x with cfg := none, cfgDone := some (some (nfld w 43 40, w32 (nfld w 31 0))) }) s).tables hs) m.isLt hr hw ho
      (by rw [partner_modPartner hs.partners]) (fun q hq => by rw [partner_modPartner_other hs.partners hq]; exact hd q)
    rw [a1, a2]
    rw [partner_modPartner hs.partners] at a5 ⊢
    exact ⟨rfl, rfl, a5.from rfl rfl⟩
  · rw [burirFrame, response l chars h w hl hp hs' hn hcrc hh h2 hi hww]
    have hresp : responseFrame p (laneIndex s l) 1 [w] s = malformedResponse p s := by
      unfold responseFrame
      dsimp only
      rw [cfgTimeout_waits hc hsent ht, hc]
      exact if_neg fun hx => hq.elim (fun e => e hx.2.1) fun e => e hx.2.2.2
    have hdoes := malformedResponse_does p s
    have hp' : (malformedResponse p s).partners = s.partners := hdoes.only.same .partners (by decide)
    rw [hresp, configAnswered_waits fun q => by rw [partner_of hp']; exact hd q]
    exact ⟨hp', hdoes.only.same .ldg (by decide), malformedResponse_counts hs.regs p⟩
  · refine (upNext_up hu).trans (congrArg _ ?_)
    rw [partnerCfgTimeout, cfgTimeout_waits hc hsent ht]
    exact configAnswered_waits hd
  · obtain ⟨-, -, t3, t4, -, -⟩ := cfgTimeout_ends hs hc hsent ht
    obtain ⟨a1, a2, a3, a4, a5⟩ := timed ht _ (.refl _ _)
    refine ⟨(partnerCfgTimeout_does ..).only.widen rfl, ?_⟩
    rw [partnerCfgTimeout, a1]
    refine ⟨a2, t3.after a3 (ldg_ne (at_partner p).1 (by decide) (by decide)), RegsKept.trans (t := cfgTimeout p s) ?_ ?_, a4, a5⟩
    · exact RegsKept.widen t4 (List.cons_subset.2 ⟨.head _, List.nil_subset _⟩)
    · exact RegsKept.widen a3 (List.subset_cons_self ..)

end Sys2Proof.Machine
end

section
/-!
SUPPORT. Frames of partners: offences and accounts (R113 to R116), spans (R114), and the way of a hit word to its engine (R28, R136), and the statement on
them settled.
-/
namespace Sys2Proof.Machine

theorem nowCourse_btr {s t : State} (h : t.btr = s.btr) : nowCourse t = nowCourse s := congrArg Stamp.course (nowStamp_btr h)

theorem nowGbt_btr {s t : State} (h : t.btr = s.btr) : nowGbt t = nowGbt s := by
  unfold nowGbt
  rw [nowCourse_btr h]
  unfold nowBt
  rw [h]

/-! ### Accounts and offences -/

/-- R116: what an account leaves of registers and reports. -/
theorem account_kept {s : State} (hs : TablesRise s) (hg : ∀ p g, partnerGroup s p = some g → g < 32) (p cause first last cnt : Nat) :
    RegsKept acctCells s (account p cause first last cnt s) ∧ ∀ r ∈ s.flt.flying, r ∈ (account p cause first last cnt s).flt.flying := by
  unfold account
  cases h : partnerGroup s p with
  | none => exact ⟨RegsKept.refl _ _, fun _ hr => hr⟩
  | some g =>
    have ha := addAccount_accounted hs (hg p g h) ⟨p, cause, 0, 0, first, last, cnt, false, nowCourse s, false⟩ 0
    exact ⟨ha.regs, ha.told⟩

/-- R115: what an offence leaves. -/
structure Offends (p kind : Nat) (s t : State) : Prop where
  does : Does [.flt, .partners] s t
  own : partner t p = { partner s p with offended := true }
  others : ∀ q, q ≠ p → partner t q = partner s q
  told : (partner s p).offended = false → (partner s p).offences = 0 →
    Reported Src.bedPartnerOffence p ([w32 p, w32 kind] ++ capCourse (nowCourse s)) s t

theorem offence_offends {s : State} (hs : TablesRise s) (p kind : Nat) : Offends p kind s (offence p kind s) := by
  have hd := offence_does p kind s
  unfold offence at hd ⊢
  by_cases h : (partner s p).offended = true
  · rw [if_pos h] at hd ⊢
    exact ⟨hd, (congrArg (fun b => { partner s p with offended := b }) h : _), fun _ _ => rfl, fun hf => nomatch h.symm.trans hf⟩
  · rw [if_neg h] at hd ⊢
    have h1 := partner_modPartner hs.partners p (fun x => { x with offended := true })
    have h2 : ∀ q, q ≠ p → partner (modPartner p (fun x => { x with offended := true }) s) q = partner s q := fun q hq =>
      partner_modPartner_other hs.partners hq _
    by_cases h0 : (partner s p).offences = 0
    · dsimp only at hd ⊢
      rw [if_pos h0] at hd ⊢
      exact ⟨hd, h1, h2, fun _ _ => reported_raise rfl⟩
    · dsimp only at hd ⊢
      rw [if_neg h0] at hd ⊢
      exact ⟨hd, h1, h2, fun _ hn => absurd hn h0⟩

/-- An account that an offence has or has not. -/
def accountIf (p : Nat) : Option (Nat × Nat × Nat × Nat) → State → State
  | some (cause, first, last, cnt), s => account p cause first last cnt s
  | none, s => s

theorem accountIf_does (p : Nat) (o : Option (Nat × Nat × Nat × Nat)) (s : State) : Does [.regs, .flt, .groups] s (accountIf p o s) := by
  unfold accountIf
  split
  · exact account_does ..
  · exact .refl _ _

/-- R102, R114: an event of a partner, its count, its account and its offence. -/
structure OffenceCounted (p kind b : Nat) (r : Reg) (w : Word) (s t : State) : Prop where
  does : Does [.regs, .flt, .port0, .port1, .partners, .groups] s t
  evented : Evented .bedPevt p b s t
  counted : cell t r p = w
  regs : RegsKept ([(.bedPevt, p, 0), (r, p, 0)] ++ acctCells) s t
  own : partner t p = { partner s p with offended := true }
  others : ∀ q, q ≠ p → partner t q = partner s q
  told : (partner s p).offended = false → (partner s p).offences = 0 →
    Reported Src.bedPartnerOffence p ([w32 p, w32 kind] ++ capCourse (nowCourse s)) s t

theorem offence_counted {s : State} (hs : TablesRise s) (hg : ∀ p g, partnerGroup s p = some g → g < 32) {p : Nat} (hp : p < 64) (kind b : Nat) {r : Reg}
    (hr : regExists r p 0 = true) (h1 : r ≠ .bedPevt) (h2 : r ≠ .bedAcctStat) (hi lo : Nat) (o : Option (Nat × Nat × Nat × Nat)) :
    OffenceCounted p kind b r (incSat (cell s r p) hi lo 1) s (offence p kind (accountIf p o (event .bedPevt p b (count r p hi lo 1 s)))) := by
  let c := count r p hi lo 1 s
  let e := event .bedPevt p b c
  let a := accountIf p o e
  have hc : Rises c.regs := rises_setCell hs.regs ..
  have de : Does [.regs, .port0, .port1] s e := .step (event_does ..) rfl (.step (setCell_does ..) rfl (.refl _ _))
  have te : TablesRise e := de.tables hs
  have pe : e.partners = s.partners := de.only.same .partners (by decide)
  have da := accountIf_does p o e
  have ra : RegsKept acctCells e a := by
    cases o with
    | none => exact RegsKept.refl _ _
    | some x => exact fun q i j => (account_kept te (fun p g h => hg p g (by
        unfold partnerGroup at h ⊢
        rwa [partner_of pe] at h)) p x.1 x.2.1 x.2.2.1 x.2.2.2).1 q i j
  have pa : a.partners = s.partners := (da.only.same .partners (by decide)).trans pe
  have ba : a.btr = s.btr := (da.only.same .btr (by decide)).trans (de.only.same .btr (by decide))
  have oa := offence_offends (da.tables te) p kind
  have hev : regExists .bedPevt p 0 = true := (at_partner ⟨p, hp⟩).1
  have ne : regOff .bedPevt p 0 ≠ regOff r p 0 := regOff_ne hev hr fun h => h1 (congrArg Prod.fst h).symm
  have rt : RegsKept acctCells e (offence p kind a) := ra.keep (oa.does.only.same .regs (by decide))
  refine ⟨.step oa.does rfl (.step da rfl (.step de rfl (.refl _ _))), ?_, ?_, ?_, ?_, fun q hq => (oa.others q hq).trans (partner_of pa q), fun hf h0 => ?_⟩
  · exact (evented_of (evented_event hc ..) (cell_setCell_other hs.regs _ ne)).after rt (acct_ne hev (by decide))
  · refine (rt r p 0 (acct_ne hr h2)).trans ((cell_event_other hc _ _ _ ne.symm).trans ?_)
    exact cell_setCell hs.regs ..
  · refine RegsKept.trans (t := e) ?_ (RegsKept.widen rt (List.subset_append_right ..))
    exact RegsKept.ev (RegsKept.set (RegsKept.refl _ _) hs.regs (.tail _ (.head _)) _) hc (.head _) b
  · exact oa.own.trans (by rw [partner_of pa])
  · have h := oa.told (by rw [partner_of pa]; exact hf) (by rw [partner_of pa]; exact h0)
    rw [nowCourse_btr ba] at h
    exact h.from ba

theorem malformed_counted {s : State} (hs : TablesRise s) (hg : ∀ p g, partnerGroup s p = some g → g < 32) {p : Nat} (hp : p < 64)
    (o : Option (Nat × Nat × Nat)) :
    OffenceCounted p 1 16 .bedPcntFrame (incSat (cell s .bedPcntFrame p) 31 16 1) s (malformed p o s) := by
  have h := offence_counted hs hg hp 1 16 (at_partner ⟨p, hp⟩).2.1 (by decide) (by decide) 31 16 (o.map fun x => (3, x))
  cases o with
  | none => exact h
  | some x => exact h

/-- R92, R95: a block that is too short, too long, of no whole number of words, or whose CRC is bad. -/
theorem blockRx_malformed {s : State} {l p : Nat} {chars : List Byte} {bad closed : Bool} (lag : Nat) (hl : (lane s l).phase = .active)
    (hp : (lane s l).partner = some p) (hd : dpStopped s = false) (hx : ¬ (closed = true ∧ chars.length = 20))
    (h : closed = false ∨ bad = true ∨ chars.length < 10 ∨ 406 < chars.length ∨ (chars.length - 10) % 6 ≠ 0 ∨
      crc32c (chars.take (chars.length - 4)) ≠ BitVec.ofNat 32 (beNat (chars.drop (chars.length - 4)))) :
    blockRx l chars closed bad lag s = malformed p (some (untrustedRange s cntUnknown)) s := by
  unfold blockRx
  rw [hl]
  dsimp only
  rw [hp]
  dsimp only
  rw [if_neg (by rw [hd]; decide)]
  unfold activeBlock
  dsimp only
  rw [if_neg hx]
  by_cases hf : closed = false ∨ bad = true ∨ chars.length < 10 ∨ chars.length > 406 ∨ (chars.length - 10) % 6 ≠ 0
  · rw [if_pos hf]
  · rw [if_neg hf, if_pos]
    rcases h with h | h | h | h | h | h
    · exact absurd (.inl h) hf
    · exact absurd (.inr (.inl h)) hf
    · exact absurd (.inr (.inr (.inl h))) hf
    · exact absurd (.inr (.inr (.inr (.inl h)))) hf
    · exact absurd (.inr (.inr (.inr (.inr h)))) hf
    · exact h

/-- R74: a block on a lane in QUARANTINE. -/
theorem blockRx_quarantine {s : State} {l : Nat} {chars : List Byte} {bad closed : Bool} {lag : Nat} (h : (lane s l).phase = .quarantine)
    (hx : ¬ (closed = true ∧ chars.length = 20)) : blockRx l chars closed bad lag s = count .bedLaneErr l 7 0 1 s := by
  unfold blockRx
  rw [h]
  exact if_neg hx

/-- R114: a span declared missing. -/
theorem declareMissing_counted {s : State} (hs : TablesRise s) (hg : ∀ p g, partnerGroup s p = some g → g < 32) {p : Nat} (hp : p < 64) (l x : Nat) :
    ∃ u : State, Does [.lanes] s u ∧ x ∈ (lane u l).missing ∧
      OffenceCounted p 4 17 .bedPcntSpan (incSat (cell s .bedPcntSpan p) 31 16 1) u (declareMissing l p x s) := by
  let f : Lane → Lane := fun y => { y with missing := x :: y.missing.filter (fun z => decide (x < z + 32768)) }
  refine ⟨modLane l f s, modLane_does .., ?_, ?_⟩
  · rw [lane_modLane hs.lanes]
    exact .head _
  · exact offence_counted (s := modLane l f s) ((modLane_does ..).tables hs) hg hp 4 17 (at_partner ⟨p, hp⟩).2.2 (by decide) (by decide) 31 16
      (some (6, x, x + 15, cntUnknown))

/-! ### A data frame without errors (R96, R114) -/

/-- A lane that has seen the span from `x` (R114). -/
def Lane.seen (x : Nat) (y : Lane) : Lane :=
  { y with
    noData := false, lastSpan := some x
    checkFrom := match y.checkFrom with
      | some c => some (max c (x + 16))
      | none => some (x + 16) }

/-- R114: no span before `x` is unseen. -/
theorem spanSeen_moves {s : State} {l p x : Nat} (h : ∀ c, (lane s l).checkFrom = some c → x < c + 16) : spanSeen l p x s = modLane l (Lane.seen x) s := by
  unfold spanSeen
  cases hc : (lane s l).checkFrom with
  | none => rfl
  | some c =>
    have : (x - c) / 16 = 0 := Nat.div_eq_of_lt (by have := h c hc; omega)
    dsimp only
    rw [this]
    rfl

/-- R96: a data frame in its span, in order, without losses. -/
theorem dataFrame_good {s : State} {l p now stamp loss k : Nat} (words : List Nat) (hl : loss = 0) (h0 : stamp % 16 = 0) (h1 : -32 ≤ stampDistance now stamp)
    (h2 : stampDistance now stamp ≤ 120) (hm : spanStart now stamp ∉ (lane s l).missing)
    (ho : ∀ y, (lane s l).lastSpan = some y → y ≤ spanStart now stamp) (hc : ∀ c, (lane s l).checkFrom = some c → spanStart now stamp < c + 16) :
    dataFrame l p now stamp loss k words s =
      forL (parseWords words none) (takeItem l p (spanStart now stamp)) (modLane l (Lane.seen (spanStart now stamp)) s) := by
  unfold dataFrame
  dsimp only
  rw [if_neg (by omega), if_neg, spanSeen_moves hc, if_neg (by omega)]
  rw [Bool.or_eq_true]
  rintro (h | h)
  · cases hy : (lane s l).lastSpan with
    | none => rw [hy] at h; cases h
    | some y =>
      rw [hy] at h
      have := ho y hy
      have := of_decide_eq_true h
      omega
  · exact hm (List.contains_iff_mem.1 h)

/-! ### A hit word on its way (R28, R97, R113, R136) -/

/-- R97: one hit word with good parity and a channel that the partner has. -/
theorem takeItem_hit {s : State} {l p x w : Nat} (h : nfld w 47 30 < recChannels (bindingOf s p).record) :
    takeItem l p x (.hit w) s = passHit (mkHit s l p x w none) s := by
  unfold takeItem
  dsimp only
  exact if_pos h

/-- R113: below the hit cap. -/
theorem passHit_below {s : State} {x : HitItem} (h : fld (inForce s .bedPpol x.partner) 27 16 = 0 ∨
      smGet 0 (partner s x.partner).capCounts (x.namedBt / 64) < fld (inForce s .bedPpol x.partner) 27 16) :
    passHit x s = crossbar x (modPartner x.partner (fun y => { y with
      capCounts := smPut 0 y.capCounts (x.namedBt / 64) (smGet 0 (partner s x.partner).capCounts (x.namedBt / 64) + 1) }) s) := by
  unfold passHit
  dsimp only
  exact if_neg (by omega)

theorem crossbar_unserved {s : State} {x : HitItem} (h : groupServes s x.group = false) : crossbar x s = s := by
  unfold crossbar
  dsimp only
  exact if_pos (by rw [h]; rfl)

theorem crossbar_served {s : State} {x : HitItem} (h : groupServes s x.group = true) (ha : (engine s (slotEngine s (x.group / 4))).phase = .active)
    (hm : slotMigration s (x.group / 4) = none) : crossbar x s = toEngine (slotEngine s (x.group / 4)) x s := by
  unfold crossbar
  dsimp only
  rw [if_neg (by rw [h]; decide), if_pos (by rw [ha]; rfl), hm]

/-- R28: an item of one position that finds room. -/
theorem toEngine_room {s : State} (hs : TablesRise s) {e : Nat} {x : HitItem} (hx : x.wave = none) (h : queueFill (engine s e) + 1 ≤ 2048) :
    Does [.ash, .mem] s (toEngine e x s) ∧ (engine (toEngine e x s) e).queue = (engine s e).queue ++ [{ x with slot := nextSlot (engine s e) }] ∧
      ∀ q, q ≠ e → engine (toEngine e x s) q = engine s q := by
  have hw : itemWeight x = 1 := by unfold itemWeight; rw [hx]
  let u := eccWrite 5 e ((nextSlot (engine s e) + 0) % 2048) s
  have du : Does [.mem] s u := eccWrite_does ..
  have he : toEngine e x s = modEngine e (fun y => { y with queue := y.queue ++ [{ x with slot := nextSlot (engine s e) }] }) u := by
    unfold toEngine
    rw [hw, if_pos h]
    rfl
  have ha : u.ash = s.ash := du.only.same .ash (by decide)
  rw [he]
  refine ⟨.step (modEngine_does ..) rfl (.step du rfl (.refl _ _)), ?_, fun q hq => ?_⟩
  · rw [engine_modEngine (ha ▸ hs.engines), engine_of ha]
  · rw [engine_modEngine_other (ha ▸ hs.engines) hq, engine_of ha]

theorem at_inDrop : ∀ e : Fin 9, regExists .ashInDrop e 0 = true := by decide +kernel

/-- R28: an item that finds the queue full. -/
theorem toEngine_full {s : State} (hs : TablesRise s) (hg : ∀ p g, partnerGroup s p = some g → g < 32) {e : Nat} (he : e < 9) {x : HitItem} (hx : x.wave = none)
    (h : 2048 < queueFill (engine s e) + 1) :
    (toEngine e x s).ash = s.ash ∧ cell (toEngine e x s) .ashInDrop e = incSat (cell s .ashInDrop e) 31 0 1 := by
  have hw : itemWeight x = 1 := by unfold itemWeight; rw [hx]
  have hq : toEngine e x s = account x.partner 9 x.namedBt x.namedBt 1 (count .ashInDrop e 31 0 1 s) := by
    unfold toEngine
    rw [hw, if_neg (by omega)]
  rw [hq]
  refine ⟨(account_does ..).only.same .ash (by decide), ?_⟩
  have hc : TablesRise (count .ashInDrop e 31 0 1 s) := (setCell_does ..).tables hs
  exact ((account_kept (s := count .ashInDrop e 31 0 1 s) hc hg ..).1 _ _ _ (acct_ne (at_inDrop ⟨e, he⟩) (by decide))).trans (cell_setCell hs.regs ..)

/-- R113: a partner whose hit of a course has passed its cap's count. -/
def Partner.counted (c n : Nat) (y : Partner) : Partner := { y with capCounts := smPut 0 y.capCounts c n }

/-- R28, R97 to R101, R113, R136: the one hit word of a frame on its way, from its lane on. -/
theorem oneHit_passes {s : State} (hs : TablesRise s) (hn : NamesInRange s) {l p x w e c cap : Nat} {b : Binding} (hb : (partner s p).binding = some b)
    (hpar : parityGood w = true) (h7 : nbit w 7 = false) (hch : nfld w 47 30 < recChannels b.record) (hc : c = (x + nfld w 29 26) / 64)
    (hcap : cap = fld (inForce s .bedPpol p) 27 16) (hlow : cap = 0 ∨ smGet 0 (partner s p).capCounts c < cap)
    (he : e = slotEngine s (b.firstLane / 8 / 4)) (ha : (engine s e).phase = .active) (hm : slotMigration s (b.firstLane / 8 / 4) = none) :
    ∀ t : State, t = forL (parseWords [w] none) (takeItem l p x) (modLane l (Lane.seen x) s) →
      (∀ q, (partner t q).cfgDone = (partner s q).cfgDone) ∧
      (groupServes s (b.firstLane / 8) = false → Only [.lanes, .partners] s t) ∧
      (groupServes s (b.firstLane / 8) = true → queueFill (engine s e) + 1 ≤ 2048 → Only [.lanes, .partners, .ash, .mem] s t ∧
        (engine t e).queue = (engine s e).queue ++ [{ mkHit s l p x w none with slot := nextSlot (engine s e) }] ∧
        ∀ e' : Nat, e' ≠ e → engine t e' = engine s e') ∧
      (groupServes s (b.firstLane / 8) = true → 2048 < queueFill (engine s e) + 1 →
        t.ash = s.ash ∧ cell t .ashInDrop e = incSat (cell s .ashInDrop e) 31 0 1) := by
  subst hc hcap he
  rintro t rfl
  let u := modLane l (Lane.seen x) s
  let v := modPartner p (.counted ((x + nfld w 29 26) / 64) (smGet 0 (partner s p).capCounts ((x + nfld w 29 26) / 64) + 1)) u
  have du : Does [.lanes] s u := modLane_does ..
  have dv : Does [.lanes, .partners] s v := .step (modPartner_does ..) rfl (.step du rfl (.refl _ _))
  have tv : TablesRise v := dv.tables hs
  have hbo : bindingOf s p = b := by unfold bindingOf; rw [hb]; rfl
  have hgrp : (mkHit u l p x w none).group = b.firstLane / 8 := congrArg (fun b : Binding => b.firstLane / 8) hbo
  have hit : forL (parseWords [w] none) (takeItem l p x) u = crossbar (mkHit u l p x w none) v := by
    have hpw : parseWords [w] none = [.hit w] := by
      unfold parseWords
      rw [if_neg (by rw [hpar]; decide), if_neg (by rw [h7]; decide)]
      rfl
    rw [hpw]
    refine (takeItem_hit (s := u) (l := l) (p := p) (x := x) (w := w) ?_).trans (passHit_below (s := u) (x := mkHit u l p x w none) hlow)
    exact (congrArg (fun b : Binding => recChannels b.record) hbo).symm ▸ hch
  have hgv : ∀ q g, partnerGroup v q = some g → g < 32 := fun q g h => partnerGroup_lt hn (p := q) (by
    unfold partnerGroup at h ⊢
    by_cases e : q = p
    · subst e
      rwa [show partner v q = (partner s q).counted _ _ from partner_modPartner (s := u) hs.partners q _] at h
    · rwa [show partner v q = partner s q from partner_modPartner_other (s := u) hs.partners e _] at h)
  have hcfg : ∀ q, (partner v q).cfgDone = (partner s q).cfgDone := fun q => by
    by_cases e : q = p
    · subst e
      rw [show partner v q = (partner s q).counted _ _ from partner_modPartner (s := u) hs.partners q _]
      rfl
    · rw [show partner v q = partner s q from partner_modPartner_other (s := u) hs.partners e _]
  have hslot : slotEngine s (b.firstLane / 8 / 4) < 9 := by
    unfold slotEngine
    rw [List.getD_eq_getElem?_getD]
    cases hx : s.ash.slots[b.firstLane / 8 / 4]? with
    | none => decide
    | some k => exact hn.slots k (List.mem_of_getElem? hx)
  rw [hit]
  have dc : Does [.regs, .flt, .groups, .ash, .mem] v (crossbar (mkHit u l p x w none) v) := crossbar_does ..
  refine ⟨fun q => ?_, fun hg => ?_, fun hg hf => ?_, fun hg hf => ?_⟩
  · rw [partner_of (dc.only.same .partners (by decide))]
    exact hcfg q
  · rw [crossbar_unserved (by rw [hgrp]; exact hg)]
    exact dv.only
  · rw [crossbar_served (by rw [hgrp]; exact hg) (by rw [hgrp]; exact ha) (by rw [hgrp]; exact hm), hgrp]
    obtain ⟨r1, r2, r3⟩ := toEngine_room (s := v) tv (x := mkHit u l p x w none) rfl hf
    exact ⟨(Does.step (L := [.lanes, .partners, .ash, .mem]) r1 rfl (.step dv rfl (.refl _ _))).only, r2, r3⟩
  · rw [crossbar_served (by rw [hgrp]; exact hg) (by rw [hgrp]; exact ha) (by rw [hgrp]; exact hm), hgrp]
    exact toEngine_full (s := v) tv hgv hslot rfl hf

/-- A block whose row completes no transaction. -/
theorem burirFrame_row {s : State} (hu : isUp s = true) {l : Fin 256} {chars : List Byte} {bad closed : Bool} {lag : Nat}
    (h : ∀ q, (partner (blockRx l chars closed bad lag s) q).cfgDone = none) :
    exec (.burirDataFrame l ⟨chars, bad⟩ closed lag) s = .next (blockRx l chars closed bad lag s) :=
  (upNext_up hu).trans (congrArg _ (configAnswered_waits h))

/-- R114: the check of a lane's spans. -/
theorem spanTimeout_declares {s : State} (hs : TablesRise s) (hn : NamesInRange s) {l : Fin 256} {p c : Nat} (hl : (lane s l).phase = .active)
    (hp : (lane s l).partner = some p) (hc : (lane s l).checkFrom = some c) (hd : dpStopped s = false) (h : c + 120 < nowGbt s) :
    Only (reportZones ++ [.lanes, .partners, .groups]) s (spanTimeout l s) ∧ (lane (spanTimeout l s) l).checkFrom = some (c + 16) ∧
      c ∈ (lane (spanTimeout l s) l).missing ∧ Evented .bedPevt p 17 s (spanTimeout l s) ∧
      cell (spanTimeout l s) .bedPcntSpan p = incSat (cell s .bedPcntSpan p) 31 16 1 ∧
      RegsKept ([(Reg.bedPevt, p, 0), (Reg.bedPcntSpan, p, 0)] ++ acctCells) s (spanTimeout l s) ∧ (partner (spanTimeout l s) p).offended = true ∧
      ((partner s p).offended = false → (partner s p).offences = 0 →
        Reported Src.bedPartnerOffence p ([w32 p, w32 4] ++ capCourse (nowCourse s)) s (spanTimeout l s)) := by
  let v := declareMissing l p c s
  have he : spanTimeout l s = modLane l (fun y => { y with checkFrom := some (c + 16) }) v := by
    unfold spanTimeout
    rw [if_pos (by rw [hl, hd]; rfl), hc, hp]
    exact if_pos h
  obtain ⟨u, du, hu, hv⟩ := declareMissing_counted hs (fun _ _ h => partnerGroup_lt hn h) (hn.lanes l p hp).2 l c
  have hvl : v.lanes = u.lanes := hv.does.only.same .lanes (by decide)
  have hup : ∀ q, partner u q = partner s q := partner_of (du.only.same .partners (by decide))
  have hur : u.regs = s.regs := du.only.same .regs (by decide)
  have hub : u.btr = s.btr := du.only.same .btr (by decide)
  have hvr : Rises v.lanes := hvl ▸ (du.tables hs).lanes
  have hlv : lane (modLane l (fun y => { y with checkFrom := some (c + 16) }) v) l = { lane v l with checkFrom := some (c + 16) } := lane_modLane hvr l _
  refine ⟨(spanTimeout_does ..).only.widen rfl, ?_⟩
  rw [he]
  refine ⟨by rw [hlv], ?_, evented_of hv.evented (cell_regs hur ..), ?_, ?_, ?_, fun h1 h2 => ?_⟩
  · rw [hlv, lane_of hvl]
    exact hu
  · exact hv.counted
  · exact fun q i j hq => (hv.regs q i j hq).trans (cell_regs hur ..)
  · exact congrArg Partner.offended hv.own
  · have hr := hv.told (by rw [hup]; exact h1) (by rw [hup]; exact h2)
    rw [nowCourse_btr hub] at hr
    exact hr.from hub

/-- Settles O37. -/
theorem burirFrames : Obligations.BurirFrames := by
  unfold Obligations.BurirFrames
  refine ⟨fun l chars bad closed lag s hu hs hn hd => ⟨fun h1 h2 => ?_, fun hst ha => ?_, fun ha h20 => ?_, fun hq hx => ⟨blockRx l chars closed bad lag s, ?_, ?_⟩,
    fun p ha hp hst hx h => ⟨blockRx l chars closed bad lag s, ?_, ?_⟩⟩, fun l s p b hu hs hn hd ha hp hb => ⟨fun chars lag k h x hst hk hk66 h20 hcrc hh htype hlane hstamp hloss h0 h1 hx hm ho hc => ?_,
    fun c hc hst => ⟨fun h => ⟨_, upNext_up hu, spanTimeout_declares hs hn ha hp hc hst h⟩, fun h => ?_⟩, fun h => ?_⟩⟩
  · have h : blockRx l chars closed bad lag s = s := by
      unfold blockRx
      cases hx : (lane s l).phase <;> first | rfl | exact absurd hx h1 | exact absurd hx h2
    exact (burirFrame_row hu (by rw [h]; exact hd)).trans (congrArg _ h)
  · have h : blockRx l chars closed bad lag s = s := by
      unfold blockRx
      rw [ha]
      dsimp only
      cases (lane s l).partner with
      | none => rfl
      | some p => exact if_pos hst
    exact (burirFrame_row hu (by rw [h]; exact hd)).trans (congrArg _ h)
  · have h : blockRx l chars true bad lag s = s := by
      unfold blockRx
      rw [ha]
      dsimp only
      cases (lane s l).partner with
      | none => rfl
      | some p =>
        dsimp only
        split
        · rfl
        · exact if_pos ⟨rfl, h20⟩
    exact (burirFrame_row hu (by rw [h]; exact hd)).trans (congrArg _ h)
  · exact burirFrame_row hu fun q => by rw [blockRx_quarantine hq hx]; exact hd q
  · rw [blockRx_quarantine hq hx]
    exact ⟨(setCell_does ..).only, cell_setCell hs.regs .., fun q i j hq => regsKept_setCell hs.regs _ _ _ _ q i j hq⟩
  · refine burirFrame_row hu fun q => ?_
    rw [blockRx_malformed lag ha hp hst hx h]
    have hc := malformed_counted hs (fun _ _ h => partnerGroup_lt hn h) (hn.lanes l p hp).2 (some (untrustedRange s cntUnknown))
    by_cases e : q = p
    · rw [e, hc.own]
      exact hd p
    · rw [hc.others q e]
      exact hd q
  · rw [blockRx_malformed lag ha hp hst hx h]
    have hc := malformed_counted hs (fun _ _ h => partnerGroup_lt hn h) (hn.lanes l p hp).2 (some (untrustedRange s cntUnknown))
    exact ⟨hc.does.only.widen rfl, hc.does.only.same .lanes (by decide), hc.evented, hc.counted, hc.regs, by rw [hc.own], hc.others, hc.told⟩
  · subst hh hx
    have hgood := blockRx_good lag ha hp hst hk hk66 hcrc (.inl htype) hlane
    rw [if_neg (by rw [htype]; decide), dataFrame_good _ hloss hstamp h0 h1 hm ho hc] at hgood
    refine ⟨fun hk0 => ⟨_, burirFrame_row hu fun q => ?_, ?_⟩, fun w e c cap hk1 hw hpar h7 hch hcc hcap hlow he hph hmig => ?_⟩
    · subst hk0
      rw [hgood]
      exact hd q
    · subst hk0
      rw [hgood]
      have hlane := lane_modLane hs.lanes l (Lane.seen (spanStart (nowGbt s - lag) (nfld (beNat (chars.take 6)) 31 16)))
      refine ⟨(modLane_does ..).only, congrArg Lane.noData hlane, congrArg Lane.lastSpan hlane, (congrArg Lane.checkFrom hlane).trans ?_⟩
      unfold Lane.seen
      cases (lane s l).checkFrom <;> rfl
    · subst hk1
      rw [show frameWords 1 (chars.drop 6) = [w] by rw [hw]; rfl] at hgood
      obtain ⟨p1, p2, p3, p4⟩ := oneHit_passes hs hn (l := l) hb hpar h7 hch hcc hcap hlow he hph hmig _ hgood
      exact ⟨_, burirFrame_row hu fun q => (p1 q).trans (hd q), p2, p3, p4⟩
  · refine (upNext_up hu).trans (congrArg _ ?_)
    unfold spanTimeout
    rw [if_pos (by rw [ha, hst]; rfl), hc, hp]
    exact if_neg (by omega)
  · refine (upNext_up hu).trans (congrArg _ ?_)
    unfold spanTimeout
    rcases h with h | h
    · rw [h]
      split <;> rfl
    · exact if_neg (by simp [h])

end Sys2Proof.Machine
end

section
/-!
SUPPORT. The states of ashlar engines and the end of migrations (R130, R138, R140, R141), and the statement on them settled.
-/
namespace Sys2Proof.Machine

theorem at_engine : ∀ e : Fin 9, regExists .ashEngEvt e 0 = true ∧ regExists .ashStraggle e 0 = true ∧ regExists .ashCheckErr e 0 = true ∧
    regExists .ashCntWave e 0 = true ∧ regExists .ashCntShift e 0 = true ∧ regExists .ashCntUncal e 0 = true ∧ regExists .ashInDrop e 0 = true := by decide +kernel

/-! ### The end of SYNC (R138) -/

/-- R138: an engine becomes ACTIVE. -/
theorem engineActive_active {s : State} (hs : TablesRise s) (e : Fin 9) {sl : Nat} (h : engineSlot s e = some sl) :
    (engine (engineActive e s) e).phase = .active ∧ (∀ k, k ≠ e.val → engine (engineActive e s) k = engine s k) ∧
      Evented .ashEngEvt e 16 s (engineActive e s) ∧ RegsKept [(.ashEngEvt, e, 0)] s (engineActive e s) ∧ sl ∉ (engineActive e s).ash.orphanRaised := by
  let u := modEngine e (fun y => { y with phase := .active }) s
  let v := event .ashEngEvt e 16 u
  have he : engineActive e s = v.modAsh fun a => { a with orphanRaised := a.orphanRaised.filter (fun x => engineSlot s e != some x) } := rfl
  have hv : v.ash = u.ash := event_ash ..
  have hk : ∀ k, engine (engineActive e s) k = engine u k := fun k => by
    rw [he]
    exact (engine_of (s := u) (t := v) hv k)
  refine ⟨?_, fun k hne => ?_, ?_, ?_, ?_⟩
  · rw [hk, engine_modEngine hs.engines]
  · rw [hk, engine_modEngine_other hs.engines hne]
  · exact Evented.keep (u := v) (evented_event (s := u) hs.regs ..) rfl
  · exact fun q i j hn => regsKept_ev (s := u) hs.regs .ashEngEvt e 16 q i j hn
  · rw [he]
    intro hm
    have := (List.mem_filter.1 hm).2
    rw [h] at this
    simp at this

theorem engineSyncDone_ends {s : State} (hs : TablesRise s) (e : Fin 9) :
    (∀ k : Nat, k ≠ e.val → engine (engineSyncDone e s) k = engine s k) ∧
      ((engine s e).phase = .sync → (engine s e).syncUntil ≤ nowCourse s → engineSlot s e = none →
        (engine (engineSyncDone e s) e).phase = .spare ∧ (engineSyncDone e s).regs = s.regs) ∧
      (∀ sl : Nat, (engine s e).phase = .sync → (engine s e).syncUntil ≤ nowCourse s → engineSlot s e = some sl →
        (engine (engineSyncDone e s) e).phase = .active ∧ Evented .ashEngEvt e 16 s (engineSyncDone e s) ∧
          RegsKept [(.ashEngEvt, e, 0)] s (engineSyncDone e s) ∧ sl ∉ (engineSyncDone e s).ash.orphanRaised) ∧
      ((engine s e).phase ≠ .sync ∨ nowCourse s < (engine s e).syncUntil → (engineSyncDone e s).ash = s.ash) := by
  by_cases h : (engine s e).phase = .sync ∧ (engine s e).syncUntil ≤ nowCourse s
  · obtain ⟨h1, h2⟩ := h
    have hd : engineSyncDone e s = if (engineSlot s e).isSome then engineActive e s else modEngine e (fun y => { y with phase := .spare }) s :=
      if_pos (by simp [h1, h2])
    rw [hd]
    cases hsl : engineSlot s e with
    | none =>
      refine ⟨fun k hk => engine_modEngine_other hs.engines hk _, fun _ _ _ => ⟨?_, rfl⟩, nofun, fun hx => ?_⟩
      · exact congrArg Engine.phase (engine_modEngine hs.engines e _)
      · exact absurd hx (by simp [h1]; omega)
    | some sl =>
      obtain ⟨a1, a2, a3, a4, a5⟩ := engineActive_active hs e hsl
      refine ⟨a2, nofun, fun q _ _ hq => ?_, fun hx => absurd hx (by simp [h1]; omega)⟩
      cases hq
      exact ⟨a1, a3, a4, a5⟩
  · have hd : engineSyncDone e s = s := if_neg (by simpa using h)
    rw [hd]
    exact ⟨fun _ _ => rfl, fun h1 h2 => absurd ⟨h1, h2⟩ h, fun _ h1 h2 => absurd ⟨h1, h2⟩ h, fun _ => rfl⟩

/-! ### The end of a migration (R141) -/

/-- R116: the accounts of several items. -/
theorem accounts_kept {α : Type} {s : State} (hs : TablesRise s) (hg : ∀ p g, partnerGroup s p = some g → g < 32) (l : List α) (p a b n : α → Nat) (c : Nat) :
    Does [.regs, .flt, .groups] s (forL l (fun x t => account (p x) c (a x) (b x) (n x) t) s) ∧
      RegsKept acctCells s (forL l (fun x t => account (p x) c (a x) (b x) (n x) t) s) := by
  induction l generalizing s with
  | nil => exact ⟨.refl _ _, RegsKept.refl _ _⟩
  | cons x l ih =>
    rw [forL_cons]
    have d := account_does (p x) c (a x) (b x) (n x) s
    obtain ⟨i1, i2⟩ := ih (d.tables hs) fun p g h => hg p g (by
      unfold partnerGroup at h ⊢
      rwa [partner_of (d.only.same .partners (by decide))] at h)
    exact ⟨.step i1 rfl d, RegsKept.trans (account_kept hs hg ..).1 i2⟩

/-- The stragglers that a migration's end finds. -/
def stragglers (m : Migration) (s : State) : List HitItem :=
  if (engine s m.former).phase == .draining then (engine s m.former).queue.filter (straggler s m) else []

/-- R141: stragglers are accounted, counted and raised. -/
def stragglersLost (sl : Nat) (m : Migration) (lost : List HitItem) (s : State) : State :=
  let u := forL lost (fun x t => account x.partner 9 x.namedBt x.namedBt 1 t) s
  if lost.isEmpty then u else
    raise Src.ashStraggler sl ([w32 sl, w32 m.former, w32 lost.length] ++ capCourse m.boundary)
      (event .ashEngEvt m.former 19 (count .ashStraggle m.former 31 0 lost.length u)) (.engine m.former)

theorem stragglersLost_leaves {s : State} (hs : TablesRise s) (hn : NamesInRange s) {m : Migration} (hm : m.former < 9) (sl : Nat) (lost : List HitItem) :
    Does [.regs, .flt, .port0, .port1, .groups] s (stragglersLost sl m lost s) ∧
      (lost = [] → (stragglersLost sl m lost s).flt = s.flt) ∧
      (lost ≠ [] → Evented .ashEngEvt m.former 19 s (stragglersLost sl m lost s) ∧
        cell (stragglersLost sl m lost s) .ashStraggle m.former = incSat (cell s .ashStraggle m.former) 31 0 lost.length ∧
        Reported Src.ashStraggler sl ([w32 sl, w32 m.former, w32 lost.length] ++ capCourse m.boundary) s (stragglersLost sl m lost s)) := by
  obtain ⟨h1, h2, -⟩ := at_engine ⟨m.former, hm⟩
  obtain ⟨du, ru⟩ := accounts_kept hs (fun _ _ h => partnerGroup_lt hn h) lost (fun x => x.partner) (fun x => x.namedBt) (fun x => x.namedBt) (fun _ => 1) 9
  cases lost with
  | nil => exact ⟨.step du rfl (.refl _ _), fun _ => rfl, fun h => absurd rfl h⟩
  | cons x rest =>
    let u := forL (x :: rest) (fun x t => account x.partner 9 x.namedBt x.namedBt 1 t) s
    let v := count .ashStraggle m.former 31 0 (x :: rest).length u
    let w := event .ashEngEvt m.former 19 v
    have hu : Rises u.regs := (du.tables hs).regs
    have hv : Rises v.regs := rises_setCell hu ..
    have he : stragglersLost sl m (x :: rest) s =
        raise Src.ashStraggler sl ([w32 sl, w32 m.former, w32 (x :: rest).length] ++ capCourse m.boundary) w (.engine m.former) := rfl
    have ne : regOff .ashEngEvt m.former 0 ≠ regOff .ashStraggle m.former 0 := regOff_ne h1 h2 nofun
    rw [he]
    refine ⟨.step (raise_does ..) rfl (.step (event_does ..) rfl (.step (setCell_does ..) rfl (.step du rfl (.refl _ _)))), nofun, fun _ => ⟨?_, ?_, ?_⟩⟩
    · have h0 : cell u .ashEngEvt m.former = cell s .ashEngEvt m.former := ru _ _ _ (acct_ne h1 (by decide))
      exact Evented.keep (u := w) (evented_of (evented_event hv ..) ((cell_setCell_other hu _ ne).trans h0)) rfl
    · have h0 : cell u .ashStraggle m.former = cell s .ashStraggle m.former := ru _ _ _ (acct_ne h2 (by decide))
      refine (cell_event_other hv _ _ _ ne.symm).trans ((cell_setCell hu ..).trans ?_)
      exact congrArg (incSat · 31 0 (x :: rest).length) h0
    · exact reported_raise ((event_btr ..).trans (du.only.same .btr (by decide)))

/-- The state without the migration of a slot. -/
def State.migrationGone (sl : Nat) (s : State) : State := s.modAsh fun a => { a with migrations := a.migrations.filter (fun y => y.slot != sl) }

theorem migrationDrainEnd_eq {s : State} {sl : Nat} {m : Migration}
    (h : s.ash.migrations.find? (fun y => y.slot == sl && y.taken && decide (y.boundary + 1 ≤ nowCourse s)) = some m) :
    migrationDrainEnd sl s = if (engine s m.former).phase == .draining then engineSync m.former ((stragglersLost sl m (stragglers m s) s).migrationGone sl)
      else (stragglersLost sl m (stragglers m s) s).migrationGone sl := by
  unfold migrationDrainEnd
  rw [h]
  rfl

/-- R130: a former bank is busy until two courses after its change. -/
theorem busyEnds (o : Option Nat) (n : Nat) :
    (match o with | some c => if c + 2 ≤ n then none else some c | none => none) = o.filter (fun c => decide (n < c + 2)) := by
  cases o with
  | none => rfl
  | some c =>
    by_cases h : n < c + 2
    · simp [Option.filter, h]
    · simp [Option.filter, h, Nat.not_lt.1 h]

/-- Settles O40. -/
theorem enginesChangeState : Obligations.EnginesChangeState := by
  unfold Obligations.EnginesChangeState
  refine fun s hu hs hn => ⟨fun e => ⟨_, upNext_up hu, ?_⟩, fun sl m h => ⟨_, upNext_up hu, (migrationDrainEnd_does ..).only.widen rfl, ?_⟩, fun sl h => ?_,
    fun g => ⟨_, upNext_up hu, (prevBusyEnd_does ..).only, ?_⟩⟩
  · have dl : Does [.lnt] s (noteLoss s) := noteLoss_does s
    refine ⟨(Does.step (L := [.regs, .port0, .port1, .ash, .lnt]) (engineSyncDone_does e (noteLoss s)) rfl (.step dl rfl (.refl _ _))).only, ?_⟩
    obtain ⟨x, hx⟩ := noteLoss_lnt s
    have ht := dl.tables hs
    rw [hx] at ht ⊢
    exact engineSyncDone_ends ht e
  · have hmem := List.mem_of_find?_eq_some h
    have hf : m.former < 9 := (hn.migrations m hmem).1
    obtain ⟨d1, d2, d3⟩ := stragglersLost_leaves hs hn hf sl (stragglers m s)
    let u := stragglersLost sl m (stragglers m s) s
    have ua : u.ash = s.ash := d1.only.same .ash (by decide)
    have ue : u.ash.engines = s.ash.engines := by rw [ua]
    have hgone : ∀ y ∈ (u.migrationGone sl).ash.migrations, y.slot ≠ sl.val := fun y hy => by
      simpa using (List.mem_filter.1 hy).2
    rw [migrationDrainEnd_eq h]
    by_cases hd : (engine s m.former).phase = .draining
    · rw [if_pos (by rw [hd]; rfl)]
      have hsync : engine (engineSync m.former (u.migrationGone sl)) m.former =
          { engine u m.former with phase := .sync, queue := [], syncUntil := nowCourse u + 2 } :=
        engine_modEngine (s := u.migrationGone sl) (show Rises u.ash.engines from ue ▸ hs.engines) m.former _
      refine ⟨hgone, fun _ => ?_, fun hx => absurd hd hx, fun lost hl _ => ?_⟩
      · rw [hsync, nowCourse_btr (d1.only.same .btr (by decide))]
        exact ⟨rfl, rfl, rfl⟩
      · have hst : stragglers m s = lost := by
          rw [hl]
          exact if_pos (by rw [hd]; rfl)
        rw [hst] at d2 d3 ⊢
        exact ⟨d3, d2⟩
    · rw [if_neg (by simpa using hd)]
      exact ⟨hgone, fun hx => absurd hx hd, fun _ => ue, fun _ _ hx => absurd hx hd⟩
  · refine (upNext_up hu).trans (congrArg _ ?_)
    unfold migrationDrainEnd
    rw [h]
  · have hg := tgroup_modGroup hs.groups g (fun t : TableGroup => { t with
      ofsPrevBusy := (match t.ofsPrevBusy with | some c => if c + 2 ≤ nowCourse s then none else some c | none => none),
      walkPrevBusy := (match t.walkPrevBusy with | some c => if c + 2 ≤ nowCourse s then none else some c | none => none) })
    refine ⟨(congrArg TableGroup.ofsPrevBusy hg).trans (busyEnds _ _), (congrArg TableGroup.walkPrevBusy hg).trans (busyEnds _ _),
      fun k hk => tgroup_modGroup_other hs.groups hk _⟩

end Sys2Proof.Machine
end

section
/-!
SUPPORT. Protected memories whose blocks are as written (R323 to R327): what their readers and writers meet.
-/
namespace Sys2Proof.Machine

/-! ### Reads of blocks that are as written -/

theorem readOutcome_blank : readOutcome ((EccBlock.blank.flips).setWidth 64) ((EccBlock.blank.flips >>> 64).setWidth 16) = .clean 0 := by decide +kernel

theorem eccRead_blank {s : State} {mem inst b : Nat} (h : eccBlock s mem inst b = .blank) (master access : Nat) : eccRead mem inst b master access s = (true, s) := by
  unfold eccRead
  rw [h]
  dsimp only
  rw [readOutcome_blank]
  rfl

theorem eccDelta_blank {s : State} {mem inst b : Nat} (h : eccBlock s mem inst b = .blank) : eccDelta s mem inst b = 0 := by
  unfold eccDelta
  rw [h]
  dsimp only
  rw [readOutcome_blank]

theorem eccReads_blank {s : State} {mem inst : Nat} (master access : Nat) {l : List Nat} (h : ∀ b ∈ l, eccBlock s mem inst b = .blank) :
    eccReads mem inst master access l s = (true, s) := by
  induction l with
  | nil => rfl
  | cons b l ih =>
    unfold eccReads
    rw [eccRead_blank (h b (.head _))]
    dsimp only
    rw [ih fun q hq => h q (.tail _ hq)]
    rfl

theorem eccVisit_asWritten {s : State} {mem inst : Nat} (h : AsWritten mem inst s) (master access : Nat) (held : Nat → Bool) (act : Nat → State → State) :
    eccVisit mem inst master access held act s = s := by
  unfold eccVisit
  induction eccMarked s mem inst held with
  | nil => rfl
  | cons b l ih =>
    rw [forL_cons, eccRead_blank (h b)]
    exact ih

theorem AsWritten.of_mem {mem inst : Nat} {s t : State} (h : AsWritten mem inst s) (k : t.mem = s.mem) : AsWritten mem inst t := fun b => by
  rw [← h b]
  unfold eccBlock
  rw [k]

/-- Words that no block spoils are delivered as they are. -/
theorem skewWords_zero {delta : Nat → DWord} {i : Nat} {l : List DWord} (h : ∀ k, i ≤ k → k < i + l.length → delta k = 0) : skewWords delta i l = l := by
  induction l generalizing i with
  | nil => rfl
  | cons w l ih =>
    unfold skewWords
    rw [h i (Nat.le_refl i) (by simp), ih fun k h1 h2 => h k (by omega) (by simp at h2 ⊢; omega)]
    exact congrArg (· :: l) (BitVec.xor_zero)

/-! ### Sparse tables filtered -/

/-- What a filtered table holds at a key. -/
theorem smFind_filter {α : Type} {lo : Option Nat} {m : SMap α} (hm : smRisesFrom lo m = true) (p : Nat × α → Bool) (q : Nat) :
    smFind (m.filter p) q = (smFind m q).filter (fun v => p (q, v)) := by
  induction m generalizing lo with
  | nil => rfl
  | cons e t ih =>
    obtain ⟨k, v⟩ := e
    have ht := ((smRisesFrom_cons lo k v t).1 hm).2
    have hi := ih ht
    by_cases hq : q = k
    · subst hq
      have hs : smFind ((q, v) :: t) q = some v := if_pos rfl
      rw [hs]
      by_cases hp : p (q, v) = true
      · rw [List.filter_cons_of_pos hp]
        exact (if_pos rfl).trans (by simp [Option.filter, hp])
      · rw [List.filter_cons_of_neg hp, hi, smFind_below ht (Nat.le_refl _)]
        simp [Option.filter, hp]
    · have hs : smFind ((k, v) :: t) q = smFind t q := if_neg hq
      rw [hs]
      by_cases hp : p (k, v) = true
      · rw [List.filter_cons_of_pos hp]
        exact (if_neg hq).trans hi
      · rw [List.filter_cons_of_neg hp, hi]

/-! ### Blocks written with no injection armed (R325, R339) -/

theorem eccInjected_none {s : State} (h : s.mem.inject = none) (mem inst : Nat) : eccInjected s mem inst = none := by
  unfold eccInjected
  rw [h]

/-- Whole blocks that are written are as written. -/
theorem eccWrites_blank {s : State} (hs : Rises s.mem.ecc) (hi : s.mem.inject = none) (mem inst blk : Nat) {n b : Nat} (h1 : blk ≤ b) (h2 : b < blk + n) :
    eccBlock (eccWrites mem inst blk n s) mem inst b = .blank := by
  have hn : n ≠ 0 := by omega
  unfold eccWrites
  rw [if_neg hn]
  dsimp only
  rw [eccInjected_none hi]
  unfold eccBlock setEcc
  dsimp only
  rw [smGet_put_rises (rises_filter hs) _ _ _ _ fun _ => rfl]
  by_cases e : b = blk
  · rw [e, if_pos rfl]
    rfl
  · rw [if_neg (by unfold eccKey; omega)]
    rw [smGet, smFind_filter hs]
    cases smFind s.mem.ecc (eccKey mem inst b) with
    | none => rfl
    | some x => exact congrArg (Option.getD · _) (if_neg (by unfold eccKey; simp; omega))

end Sys2Proof.Machine
end

section
/-!
SUPPORT. The Molus coders at work (R155, R156, R165 to R167, R176), and the statement on them settled.
-/
namespace Sys2Proof.Machine

theorem at_mol : ∀ m : Fin 4, regExists .molEvt m 0 = true ∧ regExists .molBlocks m 0 = true ∧ regExists .molMismatch m 0 = true ∧
    regExists .molOverrun m 0 = true ∧ regExists .molBigSlot m 0 = true ∧ regExists .molNoshrink m 0 = true ∧ regExists .molRatio m 0 = true ∧
    regExists .molCtl m 0 = true := by decide +kernel

/-! ### Coders -/

theorem coder_modCoder {s : State} (hs : Rises s.ring.coders) (m : Nat) (f : Coder → Coder) : coder (modCoder m f s) m = f (coder s m) := smGet_upd_rises hs ..

theorem coder_of {s t : State} (h : t.ring.coders = s.ring.coders) (m : Nat) : coder t m = coder s m := by unfold coder; rw [h]

/-! ### Reads of a ring that is as written (R150, R155) -/

theorem ringBlockRead_asWritten {s : State} {g : Nat} (h : AsWritten 2 (g / 8) s) (c master blk page i : Nat) :
    ringBlockRead c g master blk page i s = (true, s) := by
  unfold ringBlockRead
  dsimp only
  rw [eccRead_blank (h blk)]
  rfl

theorem entryRead_asWritten {s : State} {g : Nat} (h : AsWritten 2 (g / 8) s) (c master : Nat) (pages : List Nat) (n off : Nat) :
    entryRead c g master pages n off s = (true, s) := by
  induction n generalizing off with
  | zero => rfl
  | succ n ih =>
    unfold entryRead
    dsimp only
    rw [ringBlockRead_asWritten h]
    dsimp only
    rw [ih]
    rfl

theorem deliveredEntry_asWritten {s : State} {m : Nat} (h : AsWritten 2 m s) (pages : List Nat) (off : Nat) (e : RingEntry) :
    deliveredEntry s m pages off e = e := by
  unfold deliveredEntry
  dsimp only
  rw [eccDelta_blank (h _), skewWords_zero fun k _ _ => eccDelta_blank (h _)]
  exact congrArg (RingEntry.mk · e.samples) BitVec.xor_zero

theorem bucketRead_asWritten {s : State} {g : Nat} (h : AsWritten 2 (g / 8) s) (c master : Nat) (pages : List Nat) (off : Nat) (l : List RingEntry) :
    bucketRead c g master pages off l s = (l, false, s) := by
  induction l generalizing off with
  | nil => rfl
  | cons e l ih =>
    unfold bucketRead
    dsimp only
    rw [ringBlockRead_asWritten h, ite_self]
    dsimp only
    rw [entryRead_asWritten h]
    dsimp only
    rw [ih, deliveredEntry_asWritten h]
    rfl

theorem slotsRead_asWritten {s : State} {g : Nat} (h : AsWritten 2 (g / 8) s) (c master : Nat) (bs : List Nat) :
    slotsRead c g master bs s = (bs.map (fun b => bucket s c g b), false, s) := by
  induction bs with
  | nil => rfl
  | cons b bs ih =>
    unfold slotsRead
    dsimp only
    rw [bucketRead_asWritten h]
    dsimp only
    rw [ih]
    rfl

/-! ### The block buffer (R165, R327) -/

theorem entriesSize_sum (l : List RingEntry) : entriesSize l = (l.map entrySize).sum := by
  suffices h : ∀ n, l.foldl (fun n e => n + entrySize e) n = n + (l.map entrySize).sum from (h 0).trans (Nat.zero_add _)
  induction l with
  | nil => exact fun n => rfl
  | cons e l ih => exact fun n => by rw [List.foldl_cons, ih, List.map_cons, List.sum_cons, Nat.add_assoc]

theorem insertBy_perm {α : Type} (le : α → α → Bool) (a : α) (l : List α) : (insertBy le a l).Perm (a :: l) := by
  induction l with
  | nil => exact .refl _
  | cons b l ih =>
    unfold insertBy
    split
    · exact .refl _
    · exact (ih.cons b).trans (.swap a b l)

theorem sortBy_perm {α : Type} (le : α → α → Bool) (l : List α) : (sortBy le l).Perm l := by
  induction l with
  | nil => exact .refl _
  | cons a l ih => exact (insertBy_perm le a _).trans (ih.cons a)

theorem sorted_perm (slots : List (List RingEntry)) : ((slots.map sortSlot).flatten).Perm slots.flatten := by
  induction slots with
  | nil => exact .refl _
  | cons l slots ih => exact (sortBy_perm _ l).append ih

theorem bufferDelivered_asWritten {s : State} {m i : Nat} {l : List RingEntry} (h : ∀ k, i ≤ k → k < i + entriesSize l → eccBlock s 4 m k = .blank) :
    bufferDelivered s m i l = l := by
  induction l generalizing i with
  | nil => rfl
  | cons e l ih =>
    have hl : entriesSize (e :: l) = entrySize e + entriesSize l := by simp [entriesSize_sum]
    have he : entrySize e = 1 + e.samples.length := rfl
    unfold bufferDelivered
    rw [ih fun k h1 h2 => h k (by omega) (by omega), eccDelta_blank (h i (Nat.le_refl i) (by omega)),
      skewWords_zero fun k h1 h2 => eccDelta_blank (h k (by omega) (by omega))]
    exact congrArg (fun r => RingEntry.mk r e.samples :: l) BitVec.xor_zero

/-- R165: the block buffer delivers what was just written to it. -/
theorem bufferPass_delivers {s : State} (hs : Rises s.mem.ecc) (hi : s.mem.inject = none) (m : Nat) {l k : List RingEntry} (hl : k.Perm l) (copied : Bool) :
    ∃ u : State, bufferPass m (entriesSize l) copied s = (true, u) ∧ Does [.mem] s u ∧ (copied = false → bufferDelivered u m 0 k = k) := by
  cases copied with
  | true => exact ⟨s, rfl, .refl _ _, nofun⟩
  | false =>
    have hn : entriesSize k = entriesSize l := by
      rw [entriesSize_sum, entriesSize_sum]
      exact (hl.map entrySize).sum_eq
    have hb : ∀ b, b < entriesSize l → eccBlock (eccWrites 4 m 0 (entriesSize l) s) 4 m b = .blank := fun b h =>
      eccWrites_blank hs hi 4 m 0 (Nat.zero_le b) (by omega)
    refine ⟨eccWrites 4 m 0 (entriesSize l) s, ?_, eccWrites_does .., fun _ => bufferDelivered_asWritten fun b _ h => hb b (by omega)⟩
    exact eccReads_blank 6 1 fun b h => hb b (List.mem_range.1 h)

/-! ### A block in its steps (R165, R166, R176) -/

/-- R166: a slot beyond 1,024 entries is raised. -/
def bigSlotTold (m c g : Nat) (slots : List (List RingEntry)) (s : State) : State :=
  match slots.findIdx? (fun l => decide (1024 < l.length)) with
  | some b => raise Src.molBigSlot m (w32 m :: capCourse c ++ [w32 g, w32 b, w32 (slots.getD b []).length]) (event .molEvt m 19 s)
  | none => s

/-- R165: a verification that failed is raised. -/
def mismatchTold (m c g cause : Nat) (diff : Option Nat) (s : State) : State :=
  if cause = 1 ∧ diff.isSome then raise Src.molVerifyMismatch m (w32 m :: capCourse c ++ [w32 g, w32 (diff.getD 0)]) (event .molEvt m 18 s) else s

/-- R167: the coder goes on with the next group. -/
def Coder.goesOn (c : Nat) (rest : List (Nat × Nat)) (raw stored : Nat) (force : Bool) (k : Coder) : Coder :=
  { k with cur := some (c, rest), sum := (k.sum.1 + raw + 3, k.sum.2 + stored), forced := force }

/-- R167: the coder goes on with the next group, or has coded its course. -/
def coderNext (m c : Nat) (rest : List (Nat × Nat)) (raw stored : Nat) (s : State) : State :=
  let t := modCoder m (.goesOn c rest raw stored (bit (cell s .molCtl m) 1)) s
  if rest.isEmpty then courseCoded m t else t

/-- R165, R166, R176: the block of words `ws` with its cause, told, counted and handed on. -/
def blockHanded (m c g : Nat) (rest : List (Nat × Nat)) (slots : List (List RingEntry)) (diff : Option Nat) (ws : List DWord) (cause : Nat) (s : State) : State :=
  coderNext m c rest (entriesSize slots.flatten) ws.length
    (appendBlock ⟨c, g, cause != 0, slots.flatten.length, ws⟩ (countBlock m cause (mismatchTold m c g cause diff (bigSlotTold m c g slots s))))

/-! ### The cause of a raw block (R157, R165, R166) -/

theorem formBlock_forced (c g settled : Nat) (v : Bool) (slots : List (List RingEntry)) (k : List RingEntry) :
    formBlock c g true settled v slots k = (rawBlock c g 5 false slots.flatten, 5) := by
  unfold formBlock
  dsimp only
  rw [if_pos rfl]

theorem formBlock_big (c g settled : Nat) (v : Bool) {slots : List (List RingEntry)} (k : List RingEntry)
    (h : slots.any (fun l => decide (1024 < l.length)) = true) :
    formBlock c g false settled v slots k = (rawBlock c g 4 false slots.flatten, 4) := by
  unfold formBlock
  dsimp only
  rw [if_neg Bool.false_ne_true, if_pos h]

theorem formBlock_late (c g : Nat) (v : Bool) {slots : List (List RingEntry)} (k : List RingEntry)
    (h : ¬ slots.any (fun l => decide (1024 < l.length)) = true) :
    formBlock c g false 3 v slots k = (rawBlock c g 3 false slots.flatten, 3) := by
  unfold formBlock
  dsimp only
  rw [if_neg Bool.false_ne_true, if_neg h, if_pos rfl]

theorem formBlock_unverified (c g : Nat) {settled : Nat} {v : Bool} {slots : List (List RingEntry)} (k : List RingEntry)
    (h : ¬ slots.any (fun l => decide (1024 < l.length)) = true) (h3 : settled ≠ 3) (h1 : settled = 1 ∨ v = false) :
    (formBlock c g false settled v slots k).2 = 1 := by
  unfold formBlock
  dsimp only
  rw [if_neg Bool.false_ne_true, if_neg h, if_neg h3]
  by_cases e : settled = 1
  · rw [if_pos e]
  · rw [if_neg e, if_pos (by rw [h1.resolve_left e]; rfl)]

/-- A block that is copied raw does not depend on what the block buffer delivers. -/
theorem formBlock_copied {c g settled : Nat} {forced : Bool} {slots : List (List RingEntry)}
    (h : (forced || slots.any (fun l => decide (1024 < l.length)) || settled == 3) = true) :
    ∃ r : List DWord × Nat, r.2 ≠ 1 ∧ ∀ (v : Bool) (k : List RingEntry), formBlock c g forced settled v slots k = r := by
  cases forced with
  | true => exact ⟨_, (by decide : (5 : Nat) ≠ 1), fun v k => formBlock_forced ..⟩
  | false =>
    by_cases hb : slots.any (fun l => decide (1024 < l.length)) = true
    · exact ⟨_, (by decide : (4 : Nat) ≠ 1), fun v k => formBlock_big c g settled v k hb⟩
    · have h3 : settled = 3 := by simpa [hb] using h
      subst h3
      exact ⟨_, (by decide : (3 : Nat) ≠ 1), fun v k => formBlock_late c g v k hb⟩

/-- R155, R165: a block of a ring that is as written, with no upset and no injection armed. -/
theorem blockDone_handed {s : State} (hs : TablesRise s) {m c g settled : Nat} {rest : List (Nat × Nat)} {slots : List (List RingEntry)} {diff : Option Nat}
    {ws : List DWord} {cause : Nat} (hin : (quarter s m).inService = true) (hcur : (coder s m).cur = some (c, (g, settled) :: rest))
    (hi : s.mem.inject = none) (hw : AsWritten 2 (g / 8) s) (hsl : slots = (List.range 64).map (fun b => bucket s c g b))
    (hf : (ws, cause) = formBlock c g (coder s m).forced settled diff.isNone slots (slots.map sortSlot).flatten) :
    ∃ u : State, Does [.mem] s u ∧ blockDone m [] diff s = blockHanded m c g rest slots diff ws cause u := by
  generalize hcop : ((coder s m).forced || slots.any (fun l => decide (1024 < l.length)) || settled == 3) = copied
  obtain ⟨u, hb, du, hk⟩ := bufferPass_delivers hs.mem.2.2 hi m (sorted_perm slots) copied
  have hrd : slotsRead c g 6 (List.range 64) s = (slots, false, s) := (slotsRead_asWritten hw ..).trans (by rw [← hsl])
  refine ⟨u, du, ?_⟩
  unfold blockDone
  rw [hcur]
  dsimp only
  rw [if_pos hin, forL_nil, hrd]
  dsimp only
  rw [if_neg Bool.false_ne_true, hcop, hb]
  dsimp only
  rw [if_pos rfl]
  cases copied with
  | false =>
    rw [hk rfl, if_pos rfl, ← hf]
    unfold blockHanded coderNext mismatchTold bigSlotTold
    rfl
  | true =>
    obtain ⟨r, h1, h2⟩ := formBlock_copied (c := c) (g := g) hcop
    rw [h2] at hf
    rw [h2, ← hf]
    rw [← hf] at h1
    have hc1 : (cause = 1) = False := eq_false h1
    unfold blockHanded coderNext mismatchTold bigSlotTold
    simp only [hc1, false_and, if_false]
    rfl

/-! ### What the steps of a block leave -/

theorem bigSlotTold_leaves {s : State} (hs : Rises s.regs) (m c g : Nat) (slots : List (List RingEntry)) :
    Does [.regs, .flt, .port0, .port1] s (bigSlotTold m c g slots s) ∧ RegsKept [(.molEvt, m, 0)] s (bigSlotTold m c g slots s) := by
  unfold bigSlotTold
  split
  · exact ⟨.step (raise_does ..) rfl (.step (event_does ..) rfl (.refl _ _)), fun q i j hn => regsKept_ev hs .molEvt m 19 q i j hn⟩
  · exact ⟨.refl _ _, RegsKept.refl _ _⟩

theorem mismatchTold_leaves {s : State} (hs : Rises s.regs) (m c g cause : Nat) (diff : Option Nat) :
    Does [.regs, .flt, .port0, .port1] s (mismatchTold m c g cause diff s) ∧ RegsKept [(.molEvt, m, 0)] s (mismatchTold m c g cause diff s) ∧
      ∀ i, cause = 1 → diff = some i →
        Reported Src.molVerifyMismatch m (w32 m :: capCourse c ++ [w32 g, w32 i]) s (mismatchTold m c g cause diff s) := by
  unfold mismatchTold
  split
  · refine ⟨.step (raise_does ..) rfl (.step (event_does ..) rfl (.refl _ _)), fun q i j hn => regsKept_ev hs .molEvt m 18 q i j hn, fun i _ hd => ?_⟩
    rw [hd]
    exact reported_raise (event_btr ..)
  · next h => exact ⟨.refl _ _, RegsKept.refl _ _, fun i hc hd => absurd ⟨hc, by rw [hd]; rfl⟩ h⟩

/-- The counts of a coder's blocks. -/
abbrev molCounts (m : Nat) : List (Reg × Nat × Nat) :=
  [(.molBlocks, m, 0), (.molMismatch, m, 0), (.molNoshrink, m, 0), (.molOverrun, m, 0), (.molBigSlot, m, 0)]

theorem countBlock_counts {s : State} (hs : Rises s.regs) (m : Fin 4) (cause : Nat) :
    Does [.regs] s (countBlock m cause s) ∧ RegsKept (molCounts m) s (countBlock m cause s) ∧
      cell (countBlock m cause s) .molBlocks m = incWrap (cell s .molBlocks m) 31 0 ∧
      (cause = 1 → cell (countBlock m cause s) .molMismatch m = incSat (cell s .molMismatch m) 31 0 1) ∧
      (cause = 3 → cell (countBlock m cause s) .molOverrun m = incSat (cell s .molOverrun m) 31 0 1) ∧
      (cause = 4 → cell (countBlock m cause s) .molBigSlot m = incSat (cell s .molBigSlot m) 31 0 1) := by
  obtain ⟨-, hb, hm, ho, hg, hn, -, -⟩ := at_mol m
  let u := countWrap .molBlocks m 31 0 s
  have du : Does [.regs] s u := setCell_does ..
  have hu : Rises u.regs := rises_setCell hs ..
  have hk : RegsKept (molCounts m) s u := (RegsKept.refl _ _).set hs (.head _) _
  have h0 : cell u .molBlocks m = incWrap (cell s .molBlocks m) 31 0 := cell_setCell hs ..
  have one : ∀ {r : Reg}, regExists r m 0 = true → r ≠ .molBlocks → (r, m.val, 0) ∈ molCounts m →
      Does [.regs] s (count r m 31 0 1 u) ∧ RegsKept (molCounts m) s (count r m 31 0 1 u) ∧
        cell (count r m 31 0 1 u) .molBlocks m = incWrap (cell s .molBlocks m) 31 0 ∧ cell (count r m 31 0 1 u) r m = incSat (cell s r m) 31 0 1 :=
    fun {r} he hne hin => by
      have ne : regOff r m 0 ≠ regOff .molBlocks m 0 := regOff_ne he hb fun e => hne (congrArg Prod.fst e)
      refine ⟨.step (setCell_does ..) rfl du, hk.set hu hin _, (cell_setCell_other hu _ ne.symm).trans h0, (cell_setCell hu ..).trans ?_⟩
      exact congrArg (incSat · 31 0 1) (cell_setCell_other hs _ ne)
  unfold countBlock
  dsimp only
  split
  · obtain ⟨a, b, c, d⟩ := one hm nofun (.tail _ (.head _))
    exact ⟨a, b, c, fun _ => d, nofun, nofun⟩
  · obtain ⟨a, b, c, d⟩ := one hn nofun (.tail _ (.tail _ (.head _)))
    exact ⟨a, b, c, nofun, nofun, nofun⟩
  · obtain ⟨a, b, c, d⟩ := one ho nofun (.tail _ (.tail _ (.tail _ (.head _))))
    exact ⟨a, b, c, nofun, fun _ => d, nofun⟩
  · obtain ⟨a, b, c, d⟩ := one hg nofun (.tail _ (.tail _ (.tail _ (.tail _ (.head _)))))
    exact ⟨a, b, c, nofun, nofun, fun _ => d⟩
  · next h1 h2 h3 h4 => exact ⟨du, hk, h0, fun e => absurd e h1, fun e => absurd e h3, fun e => absurd e h4⟩

theorem coderNext_next {s : State} (hs : TablesRise s) (m : Fin 4) (c : Nat) (rest : List (Nat × Nat)) (raw stored : Nat) :
    Does [.regs, .ring] s (coderNext m c rest raw stored s) ∧ (coderNext m c rest raw stored s).ring.buckets = s.ring.buckets ∧
      RegsKept [(.molRatio, m, 0)] s (coderNext m c rest raw stored s) ∧
      (coder (coderNext m c rest raw stored s) m).cur = (if rest = [] then none else some (c, rest)) ∧
      (rest ≠ [] → (coder (coderNext m c rest raw stored s) m).forced = bit (cell s .molCtl m) 1) := by
  let u := modCoder m (.goesOn c rest raw stored (bit (cell s .molCtl m) 1)) s
  have du : Does [.ring] s u := modCoder_does ..
  have hk : coder u m = (coder s m).goesOn c rest raw stored (bit (cell s .molCtl m) 1) := coder_modCoder hs.ring.2.2 ..
  have hc : Rises u.ring.coders := (du.tables hs).ring.2.2
  cases rest with
  | cons x l =>
    rw [show coderNext m c (x :: l) raw stored s = u from rfl, hk]
    exact ⟨.step du rfl (.refl _ _), rfl, RegsKept.of_regs rfl, rfl, fun _ => rfl⟩
  | nil =>
    rw [show coderNext m c [] raw stored s = courseCoded m u from rfl]
    have dc : Does [.regs, .ring] u (courseCoded m u) := courseCoded_does ..
    refine ⟨.step dc rfl (.step du rfl (.refl _ _)), ?_, ?_, ?_, fun h => absurd rfl h⟩
    · unfold courseCoded
      dsimp only
      split <;> rfl
    · unfold courseCoded
      dsimp only
      split
      · exact RegsKept.of_regs rfl
      · exact fun q i j hn => regsKept_setCell (s := modCoder m _ u) hs.regs _ _ _ _ q i j hn
    · have h := congrArg Coder.cur (coder_modCoder (s := u) hc m fun k => { k with
        cur := none, sizes := ((coder u m).sum :: (coder u m).sizes).take 1024, sum := (0, 0) })
      unfold courseCoded
      dsimp only
      split
      · exact h
      · exact h

/-! ### A block joins those of its course (R176) -/

theorem closeStone_jobs (s : State) : (closeStone s).qry.jobs = s.qry.jobs := by
  unfold closeStone
  split
  · next o _ =>
    have d (w : State) : (eccWrites 7 (s.qry.writer % 4) (stoneBlock s.qry.writer (2 + o.payload.length)) (510 - o.payload.length) w).qry = w.qry :=
      (eccWrites_does ..).only.same .qry (by decide)
    have d' : (eccWrites 7 (s.qry.writer % 4) (stoneBlock s.qry.writer 0) 2 s).qry = s.qry := (eccWrites_does ..).only.same .qry (by decide)
    exact (congrArg Quarry.jobs (d _)).trans (congrArg Quarry.jobs d')
  · rfl

theorem eccWrites_jobs (a b i n : Nat) (s : State) : (eccWrites a b i n s).qry.jobs = s.qry.jobs :=
  congrArg Quarry.jobs ((eccWrites_does a b i n s).only.same .qry (by decide))

theorem appendWords_jobs (n : Nat) (ws : List DWord) (begins : Bool) (b : MolBlock) (s : State) : (appendWords n ws begins b s).qry.jobs = s.qry.jobs := by
  induction n generalizing ws begins s with
  | zero => rfl
  | succ n ih =>
    cases ws with
    | nil => rfl
    | cons w ws =>
      have closed (c : Prop) [Decidable c] (x : State) : (if c then closeStone x else x).qry.jobs = x.qry.jobs := by
        split
        · exact closeStone_jobs x
        · rfl
      unfold appendWords
      dsimp only
      rw [ih, closed, eccWrites_jobs]
      rfl

theorem appendBlock_joins (b : MolBlock) (s : State) :
    (s.qry.phase = .running → ∀ j ∈ s.qry.jobs, j.course = b.course → ∃ j' ∈ (appendBlock b s).qry.jobs, j'.course = b.course ∧
      j'.blocks = j.blocks ++ [⟨b.group, s.qry.writer, (s.qry.openStone.map (·.payload.length)).getD 0, b.words.length, b.raw, b.records⟩]) ∧
      (s.qry.phase ≠ .running ∨ (∀ j ∈ s.qry.jobs, j.course ≠ b.course) → (appendBlock b s).qry = s.qry) := by
  unfold appendBlock
  refine ⟨fun hp j hj hc => ?_, fun h => ?_⟩
  · rw [if_pos (by rw [hp, List.any_eq_true.2 ⟨j, hj, by simp [hc]⟩]; rfl)]
    refine ⟨_, List.mem_map.2 ⟨j, ?_, if_pos hc⟩, hc, rfl⟩
    rw [appendWords_jobs]
    exact hj
  · rw [if_neg]
    rw [Bool.and_eq_true, List.any_eq_true]
    rintro ⟨hp, j, hj, hc⟩
    rcases h with h | h
    · exact h (eq_of_beq hp)
    · exact h j hj (eq_of_beq hc)

/-! ### The coder takes a course (R167) -/

theorem courseCoded_coder {s : State} (hs : Rises s.ring.coders) (m : Nat) :
    (coder (courseCoded m s) m).cur = none ∧ (coder (courseCoded m s) m).next = (coder s m).next := by
  have h := coder_modCoder hs m fun k => { k with cur := none, sizes := ((coder s m).sum :: (coder s m).sizes).take 1024, sum := (0, 0) }
  unfold courseCoded
  dsimp only
  split
  · exact ⟨congrArg Coder.cur h, (congrArg Coder.next h).trans rfl⟩
  · exact ⟨congrArg Coder.cur h, (congrArg Coder.next h).trans rfl⟩

/-- The groups of a course, each with how its block is settled: past the deadline all go raw. -/
def courseGroups (s : State) (m c : Nat) : List (Nat × Nat) := (blockGroups s m c).map (fun g => (g, if c + 4 ≤ nowCourse s then 3 else 0))

/-- R167: the coder takes its next course. -/
def Coder.takes (gs : List (Nat × Nat)) (force : Bool) (k : Coder) : Coder := { k with cur := some (k.next, gs), next := k.next + 1, forced := force }

theorem courseStart_takes {s : State} (hs : TablesRise s) (m : Nat) (hin : (quarter s m).inService = true) (hcur : (coder s m).cur = none)
    (hc : (coder s m).next + 2 ≤ nowCourse s) :
    (coder (courseStart m s) m).next = (coder s m).next + 1 ∧ (blockGroups s m (coder s m).next = [] → (coder (courseStart m s) m).cur = none) ∧
      (blockGroups s m (coder s m).next ≠ [] → (coder (courseStart m s) m).cur = some ((coder s m).next, courseGroups s m (coder s m).next)) := by
  let u := modCoder m (.takes (courseGroups s m (coder s m).next) (bit (cell s .molCtl m) 1)) s
  have hk : coder u m = (coder s m).takes (courseGroups s m (coder s m).next) (bit (cell s .molCtl m) 1) := coder_modCoder hs.ring.2.2 ..
  have he : courseStart m s = if (courseGroups s m (coder s m).next).isEmpty then courseCoded m u else u := by
    unfold courseStart
    dsimp only
    rw [if_pos (by rw [hin, hcur, decide_eq_true hc]; rfl)]
    rfl
  rw [he]
  cases hg : blockGroups s m (coder s m).next with
  | nil =>
    rw [show courseGroups s m (coder s m).next = [] from congrArg (List.map _) hg]
    obtain ⟨h1, h2⟩ := courseCoded_coder (s := u) (((modCoder_does ..).tables hs).ring.2.2) m
    exact ⟨h2.trans (congrArg Coder.next hk), fun _ => h1, fun h => absurd rfl h⟩
  | cons g gs =>
    rw [if_neg (by rw [show courseGroups s m (coder s m).next = _ from congrArg (List.map _) hg]; exact Bool.false_ne_true), hk]
    exact ⟨rfl, nofun, fun _ => rfl⟩

theorem courseStart_idle {s : State} (m : Nat) (h : (quarter s m).inService = false ∨ (coder s m).cur ≠ none ∨ nowCourse s < (coder s m).next + 2) :
    courseStart m s = s := by
  unfold courseStart
  refine if_neg fun e => ?_
  simp only [Bool.and_eq_true, decide_eq_true_eq, Option.isNone_iff_eq_none] at e
  obtain ⟨⟨hin, hcur⟩, hc⟩ := e
  rcases h with h | h | h
  · exact Bool.false_ne_true (h.symm.trans hin)
  · exact h hcur
  · omega

/-- The coder's course and the groups that it still has to code. -/
def Coder.works (x : Nat × List (Nat × Nat)) (k : Coder) : Coder := { k with cur := some x }

/-- R167: at the deadline the blocks that have not started go raw, and STAGE_OVERRUN is raised. -/
theorem courseDeadline_raw {s : State} (hs : TablesRise s) (m : Fin 4) {h : Nat × Nat} {rest : List (Nat × Nat)} (hin : (quarter s m).inService = true)
    (hc : 4 ≤ nowCourse s) (hcur : (coder s m).cur = some (nowCourse s - 4, h :: rest)) (hr : rest ≠ []) :
    (coder (courseDeadline m s) m).cur = some (nowCourse s - 4, h :: rest.map (fun x => (x.1, 3))) ∧
      Reported Src.stageOverrun 0 [] s (courseDeadline m s) ∧ Evented .molEvt m 17 s (courseDeadline m s) ∧
      RegsKept [(.molEvt, m, 0)] s (courseDeadline m s) := by
  unfold courseDeadline
  dsimp only
  rw [hcur, if_neg (by rw [hin, decide_eq_false (by omega)]; exact Bool.false_ne_true)]
  dsimp only
  rw [if_pos ⟨rfl, hr⟩]
  let u := modCoder m (.works (nowCourse s - 4, h :: rest.map (fun x => (x.1, 3)))) s
  have hu : Coder.cur (coder u m) = some (nowCourse s - 4, h :: rest.map (fun x => (x.1, 3))) := congrArg Coder.cur (coder_modCoder hs.ring.2.2 m _)
  refine ⟨?_, reported_raise (event_btr ..), ?_, fun q i j hn => regsKept_ev (s := u) hs.regs .molEvt m 17 q i j hn⟩
  · exact (congrArg Coder.cur (coder_of (s := u) (congrArg Ring.coders ((event_does .molEvt m 17 u).only.same .ring (by decide))) m)).trans hu
  · exact evented_of (u := u) (evented_event (s := u) hs.regs .molEvt m 17) rfl

theorem courseDeadline_idle {s : State} {m : Nat} (h : (quarter s m).inService = false ∨ nowCourse s < 4 ∨
    ((coder s m).cur = none ∧ nowCourse s < (coder s m).next + 4)) : courseDeadline m s = s := by
  unfold courseDeadline
  dsimp only
  split
  · rfl
  · next hn =>
    have h' : (quarter s m).inService = true ∧ 4 ≤ nowCourse s := by simpa using hn
    rcases h with h | h | ⟨hcur, hc⟩
    · exact absurd (h.symm.trans h'.1) Bool.false_ne_true
    · omega
    · rw [hcur]
      exact if_neg fun e => absurd e.1 (by omega)

/-! ### A block is done -/

theorem any_big_iff (slots : List (List RingEntry)) : slots.any (fun l => decide (1024 < l.length)) = true ↔ ∃ l ∈ slots, 1024 < l.length := by
  simp

/-- R165: the block's cause, as it is counted. -/
theorem formBlock_causes {c g settled cause : Nat} {forced v : Bool} {slots : List (List RingEntry)} {k : List RingEntry} {ws : List DWord}
    (hf : (ws, cause) = formBlock c g forced settled v slots k) :
    (forced = true → cause = 5) ∧ (forced = false → (∃ l ∈ slots, 1024 < l.length) → cause = 4) ∧
      (forced = false → (∀ l ∈ slots, l.length ≤ 1024) → (settled = 3 → cause = 3) ∧ (settled ≠ 3 → settled = 1 ∨ v = false → cause = 1)) := by
  have hc : cause = (formBlock c g forced settled v slots k).2 := congrArg Prod.snd hf
  refine ⟨fun h => ?_, fun h hb => ?_, fun h hb => ?_⟩
  · rw [hc, h, formBlock_forced]
  · rw [hc, h, formBlock_big _ _ _ _ _ ((any_big_iff slots).2 hb)]
  · have hn : ¬ slots.any (fun l => decide (1024 < l.length)) = true := fun e => by
      obtain ⟨l, hl, h1⟩ := (any_big_iff slots).1 e
      exact absurd (hb l hl) (by omega)
    refine ⟨fun h3 => ?_, fun h3 h1 => ?_⟩
    · rw [hc, h, h3, formBlock_late _ _ _ _ hn]
    · rw [hc, h]
      exact formBlock_unverified c g k hn h3 h1

/-- R165, R166, R167, R176: what a block leaves that is told, counted and handed on. -/
theorem blockHanded_leaves {s : State} (hs : TablesRise s) (m : Fin 4) (c g : Nat) (rest : List (Nat × Nat)) (slots : List (List RingEntry)) (diff : Option Nat)
    (ws : List DWord) (cause : Nat) {t : State} (ht : t = blockHanded m c g rest slots diff ws cause s) :
    Does [.regs, .flt, .port0, .port1, .ring, .qry, .mem] s t ∧ t.ring.buckets = s.ring.buckets ∧
      cell t .molBlocks m = incWrap (cell s .molBlocks m) 31 0 ∧ (coder t m).cur = (if rest = [] then none else some (c, rest)) ∧
      (rest ≠ [] → (coder t m).forced = bit (cell s .molCtl m) 1) ∧
      (cause = 1 → cell t .molMismatch m = incSat (cell s .molMismatch m) 31 0 1) ∧
      (cause = 3 → cell t .molOverrun m = incSat (cell s .molOverrun m) 31 0 1) ∧
      (cause = 4 → cell t .molBigSlot m = incSat (cell s .molBigSlot m) 31 0 1) ∧
      (∀ i, cause = 1 → diff = some i → Reported Src.molVerifyMismatch m (w32 m :: capCourse c ++ [w32 g, w32 i]) s t) ∧
      (s.qry.phase = .running → ∀ j ∈ s.qry.jobs, j.course = c → ∃ j' ∈ t.qry.jobs, j'.course = c ∧
        j'.blocks = j.blocks ++ [⟨g, s.qry.writer, (s.qry.openStone.map (·.payload.length)).getD 0, ws.length, cause != 0, slots.flatten.length⟩]) ∧
      (s.qry.phase ≠ .running ∨ (∀ j ∈ s.qry.jobs, j.course ≠ c) → t.qry = s.qry) := by
  subst ht
  obtain ⟨he, hb, hm, ho, hg, hn, hr, hct⟩ := at_mol m
  unfold blockHanded
  generalize h1 : bigSlotTold m c g slots s = t1
  generalize h2 : mismatchTold m c g cause diff t1 = t2
  generalize h3 : countBlock m cause t2 = t3
  generalize h4 : appendBlock ⟨c, g, cause != 0, slots.flatten.length, ws⟩ t3 = t4
  obtain ⟨d1, k1⟩ := bigSlotTold_leaves hs.regs m c g slots
  rw [h1] at d1 k1
  have s1 : TablesRise t1 := d1.tables hs
  obtain ⟨d2, k2, r2⟩ := mismatchTold_leaves s1.regs m c g cause diff
  rw [h2] at d2 k2 r2
  have s2 : TablesRise t2 := d2.tables s1
  obtain ⟨d3, k3, n0, n1, n3, n4⟩ := countBlock_counts s2.regs m cause
  rw [h3] at d3 k3 n0 n1 n3 n4
  have s3 : TablesRise t3 := d3.tables s2
  have d4 : Does [.qry, .mem] t3 t4 := h4 ▸ appendBlock_does ..
  have s4 : TablesRise t4 := d4.tables s3
  obtain ⟨d5, b5, k5, c5, f5⟩ := coderNext_next s4 m c rest (entriesSize slots.flatten) ws.length
  generalize coderNext m c rest (entriesSize slots.flatten) ws.length t4 = t5 at *
  have q3 : t3.qry = s.qry := (d3.only.same .qry (by decide)).trans ((d2.only.same .qry (by decide)).trans (d1.only.same .qry (by decide)))
  have q5 : t5.qry = t4.qry := d5.only.same .qry (by decide)
  have told {r : Reg} (h : regExists r m 0 = true) (ne : r ≠ .molEvt) : cell t2 r m = cell s r m :=
    have hn : ∀ x ∈ [(Reg.molEvt, m.val, 0)], regOff r m 0 ≠ regOff x.1 x.2.1 x.2.2 := by
      simpa using regOff_ne h he fun e => ne (congrArg Prod.fst e)
    (k2 r m 0 hn).trans (k1 r m 0 hn)
  have ends {r : Reg} (h : regExists r m 0 = true) (ne : r ≠ .molRatio) : cell t5 r m = cell t3 r m :=
    have hn : ∀ x ∈ [(Reg.molRatio, m.val, 0)], regOff r m 0 ≠ regOff x.1 x.2.1 x.2.2 := by
      simpa using regOff_ne h hr fun e => ne (congrArg Prod.fst e)
    (k5 r m 0 hn).trans (cell_regs (d4.only.same .regs (by decide)) ..)
  obtain ⟨joins, stays⟩ := appendBlock_joins ⟨c, g, cause != 0, slots.flatten.length, ws⟩ t3
  rw [h4, q3] at joins stays
  have hctl : cell t4 .molCtl m = cell s .molCtl m := by
    refine (cell_regs (d4.only.same .regs (by decide)) ..).trans ((k3 .molCtl m 0 ?_).trans (told hct nofun))
    simp only [List.mem_cons, List.not_mem_nil, or_false, forall_eq_or_imp, forall_eq]
    exact ⟨regOff_ne hct hb nofun, regOff_ne hct hm nofun, regOff_ne hct hn nofun, regOff_ne hct ho nofun, regOff_ne hct hg nofun⟩
  have rb : t4.ring = s.ring := (d4.only.same .ring (by decide)).trans ((d3.only.same .ring (by decide)).trans
    ((d2.only.same .ring (by decide)).trans (d1.only.same .ring (by decide))))
  refine ⟨.step d5 rfl (.step d4 rfl (.step d3 rfl (.step d2 rfl (.step d1 rfl (.refl _ _))))), b5.trans (congrArg Ring.buckets rb),
    (ends hb nofun).trans (n0.trans ?_), c5, fun h => (f5 h).trans (by rw [hctl]), fun h => (ends hm nofun).trans ((n1 h).trans ?_),
    fun h => (ends ho nofun).trans ((n3 h).trans ?_), fun h => (ends hg nofun).trans ((n4 h).trans ?_), fun i h1 h2 => ?_, fun hp j hj hc => ?_, fun h => ?_⟩
  · rw [told hb nofun]
  · rw [told hm nofun]
  · rw [told ho nofun]
  · rw [told hg nofun]
  · exact ((r2 i h1 h2).from (d1.only.same .btr (by decide))).keep ((d5.only.same .flt (by decide)).trans
      ((d4.only.same .flt (by decide)).trans (d3.only.same .flt (by decide))))
  · rw [q5]
    exact joins hp j hj hc
  · exact q5.trans (stays h)

/-- Settles O41: a coder takes its courses, and each block that is done is told, counted by its cause and handed to the quarry. -/
theorem codersWork : Obligations.CodersWork := by
  unfold Obligations.CodersWork
  intro m s hu hs
  refine ⟨⟨_, upNext_up hu, (courseStart_does ..).only, courseStart_takes hs m, courseStart_idle m⟩, ⟨_, upNext_up hu, (courseDeadline_does ..).widen rfl |>.only,
    fun h => courseDeadline_idle (h.imp_right .inl), fun h rest hin hc hcur hr => courseDeadline_raw hs m hin hc hcur hr,
    fun h1 h2 => courseDeadline_idle (.inr (.inr ⟨h1, h2⟩))⟩, fun h errs diff => (upNext_up hu).trans (congrArg _ ?_),
    fun diff c g settled rest slots ws cause hin hcur hi hw hsl hf => ?_⟩
  · unfold blockDone
    split
    · next c g settled rest hcur =>
      exact if_neg fun hin => h.elim (fun h => Bool.false_ne_true (h.symm.trans hin)) fun h => by rw [h] at hcur; exact nomatch hcur
    · rfl
  · obtain ⟨u, du, hd⟩ := blockDone_handed hs hin hcur hi hw hsl hf
    have same {z : Zone} (h : z ∉ [Zone.mem]) : Zone.same s u z := du.only.same z h
    have ring : u.ring = s.ring := same (z := .ring) (by decide)
    have qry : u.qry = s.qry := same (z := .qry) (by decide)
    have btr : u.btr = s.btr := same (z := .btr) (by decide)
    have regs (r : Reg) : cell u r m = cell s r m := cell_regs (same (z := .regs) (by decide)) ..
    obtain ⟨d, b, n0, cur, forced, n1, n3, n4, told, joins, stays⟩ := blockHanded_leaves (du.tables hs) m c g rest slots diff ws cause hd
    rw [regs] at n0 forced n1 n3 n4
    rw [qry] at joins stays
    obtain ⟨c5, c4, c31⟩ := formBlock_causes hf
    refine ⟨_, upNext_up hu, (Does.step d rfl (.step du rfl (.refl _ _))).only, b.trans (congrArg Ring.buckets ring), n0, cur, c5, forced,
      fun h1 h2 => ⟨c4 h1 h2, n4 (c4 h1 h2)⟩, fun h1 h2 => ⟨fun h3 => ⟨(c31 h1 h2).1 h3, n3 ((c31 h1 h2).1 h3)⟩, fun h3 h4 => ?_⟩, joins, stays⟩
    have h1 : cause = 1 := (c31 h1 h2).2 h3 (h4.imp_right fun h => Option.isNone_eq_false_iff.2 (Option.isSome_iff_ne_none.2 h))
    exact ⟨h1, n1 h1, fun i hi => (told i h1 hi).from btr⟩

end Sys2Proof.Machine
end

section
/-!
SUPPORT. The host ports' endpoints: what an event does at a port (R351), resets, links, errors and configuration writes (R343 to R345), and the statement
on the events of an endpoint settled.
-/
namespace Sys2Proof.Machine

theorem at_hst : regExists .hstEvt 0 0 = true ∧ regExists .hstRefused 0 0 = true ∧
    ∀ p : Fin 2, regExists .hstIrqEn p 0 = true ∧ regExists .hstPortCnt p 0 = true ∧ regExists .hstIrqHoldoff p 0 = true := by decide +kernel

/-! ### What an event does at a port (R351) -/

/-- R351: an event of a vector with a message due, or pending where the vector is masked. -/
def VecState.told (masked : Bool) (x : VecState) : VecState := if masked then { x with pba := true } else { x with due := true }

/-- R351: a port after an event of vector `v`, which is enabled there or not. -/
def HostPort.told (v : Nat) (enabled : Bool) (h : HostPort) : HostPort :=
  if enabled && h.msixEn then { h with vectors := smUpd .idle h.vectors v (VecState.told (vecMasked h v)) } else h

/-- The port is as another but for its vectors. -/
abbrev HostPort.VecsOnly (h k : HostPort) : Prop := k = { h with vectors := k.vectors }

theorem HostPort.VecsOnly.trans {h k l : HostPort} (a : h.VecsOnly k) (b : k.VecsOnly l) : h.VecsOnly l := by
  rw [HostPort.VecsOnly] at *
  rw [b, a]

theorem HostPort.told_vecsOnly (v : Nat) (enabled : Bool) (h : HostPort) : h.VecsOnly (h.told v enabled) := by
  unfold HostPort.VecsOnly HostPort.told
  split <;> rfl

theorem hostPort_keep {s t : State} (h0 : t.port0 = s.port0) (h1 : t.port1 = s.port1) (q : Nat) : hostPort t q = hostPort s q := by
  unfold hostPort
  rw [h0, h1]

theorem hostPort_only {zs : List Zone} {s t : State} (h : Only zs s t) (h0 : Zone.port0 ∉ zs := by decide) (h1 : Zone.port1 ∉ zs := by decide) (q : Nat) :
    hostPort t q = hostPort s q := hostPort_keep (h.same .port0 h0) (h.same .port1 h1) q

theorem signalPort_same (p : Fin 2) (v : Nat) (s : State) : hostPort (signalPort p v s) p = (hostPort s p).told v (bit (cell s .hstIrqEn p) v) := by
  unfold signalPort HostPort.told
  dsimp only
  split
  · exact hostPort_modPort ..
  · rfl

theorem signalPort_other (p q : Fin 2) (h : q ≠ p) (v : Nat) (s : State) : hostPort (signalPort p v s) q = hostPort s q := by
  unfold signalPort
  dsimp only
  split
  · exact hostPort_modPort_other p q h ..
  · rfl

theorem signal_port (q : Fin 2) (v : Nat) (s : State) : hostPort (signal v s) q = (hostPort s q).told v (bit (cell s .hstIrqEn q) v) := by
  unfold signal
  match q with
  | 0 => exact (signalPort_other 1 0 (by decide) v _).trans (signalPort_same 0 v s)
  | 1 =>
    rw [show signalPort 1 v = signalPort (1 : Fin 2) v from rfl, show signalPort 0 v s = signalPort (0 : Fin 2) v s from rfl, signalPort_same,
      signalPort_other 0 1 (by decide), cell_regs (signalPort_regs ..)]

/-- R350, R351: an event at a port. -/
theorem event_port {s : State} (hs : Rises s.regs) {r : Reg} {i : Nat} (hr : regExists r i 0 = true) (b : Nat) {v : Nat} (hv : vectorOf r = some v) (q : Fin 2) :
    hostPort (event r i b s) q = (hostPort s q).told v (bit (cell s .hstIrqEn q) v) := by
  have hne : regOff .hstIrqEn q 0 ≠ regOff r i 0 := regOff_ne (at_hst.2.2 q).1 hr fun e => by
    have h : Reg.hstIrqEn = r := congrArg Prod.fst e
    rw [← h] at hv
    exact nomatch hv
  unfold event
  dsimp only
  rw [hv]
  dsimp only
  rw [signal_port, show cell (modCell r i 0 _ s) .hstIrqEn q = cell s .hstIrqEn q from cell_setCell_other hs _ hne]
  rfl

theorem event_vecsOnly (r : Reg) (i b : Nat) (q : Fin 2) (s : State) : (hostPort s q).VecsOnly (hostPort (event r i b s) q) := by
  unfold event
  dsimp only
  split
  · rw [signal_port]
    exact HostPort.told_vecsOnly ..
  · rfl

/-! ### Resets and links (R344) -/

theorem smGet_vecs {P : VecState → Prop} (h0 : P .idle) {m : SMap VecState} (h : ∀ e ∈ m, P e.2) (v : Nat) : P (smGet .idle m v) :=
  Tests.smGet_all (P := fun _ x => P x) (fun _ => h0) m h v

/-- R344: a port's configuration space at its defaults. -/
def HostPort.defaults (h : HostPort) : HostPort :=
  { h with
    bme := false, msixEn := false, fnMask := false, dstate := 0, msixTable := [], aerUncorr := 0, aerCorr := 0, aerLog := none
    vectors := (h.vectors.map (fun e => (e.1, e.2.quiet))).filter (fun e => decide (e.2 ≠ .idle)) }

/-- R344: without entries in the MSI-X table every vector is masked. -/
theorem vecMasked_blank {h : HostPort} (hm : h.msixTable = []) (v : Nat) : vecMasked h v = true := by
  unfold vecMasked
  rw [hm]
  show (_ || bit 1 0) = true
  rw [show bit 1 0 = true from rfl, Bool.or_true]

theorem HostPort.defaults_atDefaults (h : HostPort) : h.defaults.AtDefaults := by
  refine ⟨rfl, rfl, rfl, rfl, rfl, rfl, rfl, fun v => vecMasked_blank rfl v, smGet_vecs (P := fun x => x.due = false ∧ x.pba = false) ⟨rfl, rfl⟩ fun e he => ?_⟩
  obtain ⟨x, -, rfl⟩ := List.mem_map.1 (List.mem_of_mem_filter he)
  exact ⟨rfl, rfl⟩

/-- With MSI-X Enable 0 an event leaves a port as it is. -/
theorem HostPort.told_off {h : HostPort} (hm : h.msixEn = false) (v : Nat) (enabled : Bool) : h.told v enabled = h := by
  unfold HostPort.told
  rw [hm, Bool.and_false]
  rfl

/-- The link has left L0. -/
def HostPort.off (h : HostPort) : HostPort := { h with l0 := false, width := 0, speed := 0 }

/-- The other port is as it was. -/
theorem otherPort_modPort (p : Fin 2) (f : HostPort → HostPort) (s : State) : hostPort (s.modPort p f) (1 - p.val) = hostPort s (1 - p.val) :=
  match p with
  | 0 => rfl
  | 1 => rfl

theorem perst_port (p : Fin 2) (s : State) :
    hostPort (perstAssert p s) p = ({ hostPort s p with perst := true } : HostPort).off.defaults ∧
      hostPort (perstAssert p s) (1 - p.val) = hostPort s (1 - p.val) := by
  unfold perstAssert configDefaults linkOff
  constructor
  · rw [hostPort_modPort, hostPort_modPort, hostPort_modPort]
    rfl
  · rw [otherPort_modPort, otherPort_modPort, otherPort_modPort]

theorem hotReset_port {p : Fin 2} {s : State} (h : (hostPort s p).l0 = true) :
    hostPort (hotReset p s) p = (hostPort s p).off.defaults ∧ hostPort (hotReset p s) (1 - p.val) = hostPort s (1 - p.val) := by
  unfold hotReset
  rw [if_pos h]
  unfold configDefaults linkOff
  constructor
  · rw [hostPort_modPort, hostPort_modPort]
    rfl
  · rw [otherPort_modPort, otherPort_modPort]

/-- R344: a function-level reset. -/
theorem functionReset_port {s : State} (hs : Rises s.regs) (p : Fin 2) : hostPort (functionReset p s) p = (hostPort s p).defaults := by
  have he : hostPort (functionReset p s) p = hostPort (event .hstEvt 0 19 (configDefaults p s)) p := rfl
  have hr : (configDefaults p s).regs = s.regs := (configDefaults_does ..).only.same .regs (by decide)
  rw [he, event_port (by rw [hr]; exact hs) at_hst.1 19 (v := 17) rfl]
  unfold configDefaults
  rw [hostPort_modPort]
  exact HostPort.told_off rfl ..

/-- R344, R362: a link in L0 that is lost is counted and raised. -/
theorem linkDown_lost {s : State} (hs : Rises s.regs) {p : Fin 2} (training : Word) (h : (hostPort s p).l0 = true) :
    (hostPort (linkDown p training s) p).l0 = false ∧ Evented .hstEvt 0 18 s (linkDown p training s) ∧
      cell (linkDown p training s) .hstPortCnt p = incSat (cell s .hstPortCnt p) 15 0 1 ∧
      Reported Src.hstLinkDown p [w32 p, training] s (linkDown p training s) := by
  obtain ⟨he, -, hp⟩ := at_hst
  have ne : regOff .hstPortCnt p 0 ≠ regOff .hstEvt 0 0 := regOff_ne (hp p).2.1 he nofun
  unfold linkDown
  rw [if_pos h]
  let u := linkOff p s
  have hu : Rises u.regs := by rw [(linkOff_does p s).only.same .regs (by decide)]; exact hs
  have cu (r : Reg) (i : Nat) : cell u r i = cell s r i := cell_regs ((linkOff_does p s).only.same .regs (by decide)) ..
  have bu : u.btr = s.btr := (linkOff_does p s).only.same .btr (by decide)
  refine ⟨?_, evented_of (u := u) ?_ (cu ..), ?_, reported_raise ((event_btr ..).trans bu)⟩
  · have hv := event_vecsOnly .hstEvt 0 18 p (count .hstPortCnt p 15 0 1 u)
    have hl : (hostPort (count .hstPortCnt p 15 0 1 u) p).l0 = false := by
      rw [show hostPort (count .hstPortCnt p 15 0 1 u) p = hostPort u p from rfl]
      exact congrArg HostPort.l0 (hostPort_modPort ..)
    exact (congrArg HostPort.l0 hv).trans hl
  · exact (evented_of (evented_event (rises_count hu ..) .hstEvt 0 18) (cell_setCell_other hu _ ne.symm)).keep rfl
  · rw [← cu]
    exact (cell_event_other (rises_count hu ..) _ _ _ ne).trans (cell_count hu ..)

theorem linkUp_trains {s : State} {p : Fin 2} (ha : linkAble s p = true) (hl : (hostPort s p).l0 = false) (width speed : Nat) :
    hostPort (linkUp p width speed s) p = { hostPort s p with l0 := true, width := width, speed := speed } ∧
      hostPort (linkUp p width speed s) (1 - p.val) = hostPort s (1 - p.val) := by
  unfold linkUp
  rw [if_pos (by rw [ha, hl]; rfl)]
  exact ⟨hostPort_modPort .., otherPort_modPort ..⟩

/-! ### Errors (R344, R345, R347, R362) -/

/-- A turned-away access: its event and its count. -/
theorem turnedAway {s : State} (hs : Rises s.regs) (hi lo b : Nat) {t : State} (ht : t.regs = (event .hstEvt 0 b (count .hstRefused 0 hi lo 1 s)).regs) :
    Evented .hstEvt 0 b s t ∧ cell t .hstRefused = incSat (cell s .hstRefused) hi lo 1 ∧
      ∀ (r : Reg) (i j : Nat), regOff r i j ≠ regOff .hstEvt → regOff r i j ≠ regOff .hstRefused → cell t r i j = cell s r i j := by
  obtain ⟨he, hr, -⟩ := at_hst
  have ne : regOff .hstRefused ≠ regOff .hstEvt := regOff_ne hr he nofun
  have hc : Rises (count .hstRefused 0 hi lo 1 s).regs := rises_count hs ..
  refine ⟨(evented_of (evented_event hc .hstEvt 0 b) (cell_setCell_other hs _ ne.symm)).keep ht, ?_, fun r i j h1 h2 => ?_⟩
  · rw [cell_regs ht]
    exact (cell_event_other hc _ _ _ ne).trans (cell_count hs ..)
  · rw [cell_regs ht]
    exact (cell_event_other hc _ _ _ h1).trans (cell_setCell_other hs _ h2)

/-- R345, R347: what a bad access leaves. -/
theorem badRequest_leaves {s : State} (hs : Rises s.regs) (x : BarAccess) {t : State} (ht : t = badRequest x s) :
    (x.write = true → mayWrite s x.port (accessOff x.bits x.offset.toNat) = false →
      Evented .hstEvt 0 20 s t ∧ cell t .hstRefused = incSat (cell s .hstRefused) 31 16 1) ∧
    (x.write = false ∨ mayWrite s x.port (accessOff x.bits x.offset.toNat) = true →
      Evented .hstEvt 0 21 s t ∧ cell t .hstRefused = incSat (cell s .hstRefused) 15 0 1) ∧
    (x.write = false → (hostPort t x.port).badData = List.replicate x.dwords.toNat 0xFFFFFFFF) ∧
    ∀ (r : Reg) (i j : Nat), regOff r i j ≠ regOff .hstEvt → regOff r i j ≠ regOff .hstRefused → cell t r i j = cell s r i j := by
  unfold badRequest at ht
  cases hw : x.write with
  | false =>
    rw [hw, if_neg Bool.false_ne_true] at ht
    obtain ⟨h1, h2, h3⟩ := turnedAway hs 15 0 21 (t := t) (by rw [ht]; exact State.modPort_regs ..)
    exact ⟨nofun, fun _ => ⟨h1, h2⟩, fun _ => by rw [ht, hostPort_modPort], h3⟩
  | true =>
    rw [hw, if_pos rfl] at ht
    cases hm : mayWrite s x.port (accessOff x.bits x.offset.toNat) with
    | false =>
      rw [hm, if_neg Bool.false_ne_true] at ht
      obtain ⟨h1, h2, h3⟩ := turnedAway hs 31 16 20 (t := t) (by rw [ht]; rfl)
      exact ⟨fun _ _ => ⟨h1, h2⟩, nofun, nofun, h3⟩
    | true =>
      rw [hm, if_pos rfl] at ht
      obtain ⟨h1, h2, h3⟩ := turnedAway hs 15 0 21 (t := t) (by rw [ht]; rfl)
      exact ⟨nofun, fun _ => ⟨h1, h2⟩, nofun, h3⟩

/-- R344: an uncorrectable error: its status joins those held, its header is kept unless one is. -/
theorem aerUncorr_leaves {s : State} (hs : Rises s.regs) (p : Fin 2) (status : Word) (header : BitVec 128) {t : State} (ht : t = aerUncorr p status header s) :
    Evented .hstEvt 0 17 s t ∧ Reported Src.hstAerUncorr p ([w32 p, status] ++ cap64 (headerAddress header)) s t ∧
      (hostPort t p).aerUncorr = (hostPort s p).aerUncorr ||| status ∧
      (hostPort t p).aerLog = (if (hostPort s p).aerLog = none then some (status, header) else (hostPort s p).aerLog) := by
  unfold aerUncorr at ht
  generalize hw : s.modPort p _ = u at ht
  have ru : u.regs = s.regs := hw ▸ State.modPort_regs ..
  have bu : u.btr = s.btr := by rw [← hw]; unfold State.modPort; split <;> rfl
  have hu : hostPort u p = _ := hw ▸ hostPort_modPort ..
  have hv := event_vecsOnly .hstEvt 0 17 p u
  subst ht
  refine ⟨(evented_of (evented_event (by rw [ru]; exact hs) .hstEvt 0 17) (cell_regs ru ..)).keep rfl, reported_raise ((event_btr ..).trans bu),
    (congrArg HostPort.aerUncorr hv).trans (congrArg HostPort.aerUncorr hu), (congrArg HostPort.aerLog hv).trans ((congrArg HostPort.aerLog hu).trans ?_)⟩
  cases (hostPort s p).aerLog <;> rfl

/-- R362: a correctable error is counted, and its status joins those held. -/
theorem aerCorr_leaves {s : State} (hs : Rises s.regs) (p : Fin 2) (status : Word) {t : State} (ht : t = aerCorr p status s) :
    Evented .hstEvt 0 16 s t ∧ cell t .hstPortCnt p = incSat (cell s .hstPortCnt p) 31 16 1 ∧ (hostPort t p).aerCorr = (hostPort s p).aerCorr ||| status := by
  obtain ⟨he, -, hp⟩ := at_hst
  have ne : regOff .hstPortCnt p 0 ≠ regOff .hstEvt 0 0 := regOff_ne (hp p).2.1 he nofun
  unfold aerCorr at ht
  generalize hw : s.modPort p _ = u at ht
  have ru : u.regs = s.regs := hw ▸ State.modPort_regs ..
  have su : Rises u.regs := by rw [ru]; exact hs
  have hu : hostPort u p = _ := hw ▸ hostPort_modPort ..
  have hv := event_vecsOnly .hstEvt 0 16 p (count .hstPortCnt p 31 16 1 u)
  subst ht
  refine ⟨evented_of (evented_of (evented_event (rises_count su ..) .hstEvt 0 16) (cell_setCell_other su _ ne.symm)) (cell_regs ru ..), ?_,
    (congrArg HostPort.aerCorr hv).trans (congrArg HostPort.aerCorr hu)⟩
  rw [← cell_regs ru]
  exact (cell_event_other (rises_count su ..) _ _ _ ne).trans (cell_count su ..)

/-! ### Configuration writes (R343) -/

theorem smFind_map_val {α β : Type} (f : Nat × α → β) (m : SMap α) (q : Nat) :
    smFind (m.map fun e => (e.1, f e)) q = (smFind m q).map fun x => f (q, x) := by
  induction m with
  | nil => rfl
  | cons e m ih =>
    simp only [List.map_cons, smFind]
    split
    · next h => subst h; rfl
    · exact ih

/-- R351: the vectors of a port follow their masks. -/
theorem settle_vectors (h : HostPort) (v : Nat) : smGet .idle h.settle.vectors v = (smGet .idle h.vectors v).settle (vecMasked h v) := by
  unfold HostPort.settle smGet
  dsimp only
  rw [smFind_map_val (fun e : Nat × VecState => e.2.settle (vecMasked h e.1))]
  cases smFind h.vectors v with
  | some x => rfl
  | none => cases vecMasked h v <;> rfl

/-- R343: what a configuration write sets. -/
def HostPort.configured (bme msix mask d3 : Bool) (h : HostPort) : HostPort :=
  { h with bme := bme, msixEn := msix, fnMask := mask, dstate := if d3 then 3 else 0 }

theorem pcieConfigWrite_port {s : State} {p : Fin 2} (h : (hostPort s p).l0 = true) (bme msix mask d3 : Bool) :
    hostPort (pcieConfigWrite p bme msix mask d3 s) p = ((hostPort s p).configured bme msix mask d3).settle ∧
      hostPort (pcieConfigWrite p bme msix mask d3 s) (1 - p.val) = hostPort s (1 - p.val) := by
  unfold pcieConfigWrite
  rw [if_pos h]
  exact ⟨hostPort_modPort .., otherPort_modPort ..⟩

theorem msixWord_control (h : HostPort) (v : Nat) : msixWord h (16 * v + 12) = smGet 1 h.msixTable (16 * v + 12) := by
  unfold msixWord msixBlank
  rw [if_pos (by omega)]

/-- Settles O18: what each event of an endpoint does. -/
theorem portLinks : Obligations.PortLinks := by
  unfold Obligations.PortLinks
  intro p s hs
  refine ⟨?_, fun hl => ?_, ?_, fun hu hl => ⟨?_, fun training => ?_, fun bar2 write a n => ?_, fun bme enable mask d3 => ?_⟩, fun hu ha hl width speed => ?_,
    fun hu hd => ⟨fun status header address hA => ?_, fun status => ?_⟩⟩
  · obtain ⟨h1, h2⟩ := perst_port p s
    exact ⟨perstAssert p s, rfl, (perstAssert_does ..).only, by rw [h1]; rfl, by rw [h1]; rfl, by rw [h1]; exact HostPort.defaults_atDefaults _, h2⟩
  · obtain ⟨h1, h2⟩ := hotReset_port hl
    exact ⟨hotReset p s, rfl, (hotReset_does ..).only, by rw [h1]; rfl, by rw [h1]; rfl, by rw [h1]; exact HostPort.defaults_atDefaults _, h2⟩
  · exact ⟨_, rfl, (perstRelease_does ..).only, hostPort_modPort .., otherPort_modPort ..⟩
  · have h1 := functionReset_port hs.regs p
    refine ⟨functionReset p s, (upNext_up hu).trans (congrArg _ (if_pos hl)), (functionReset_does ..).only, by rw [h1]; exact HostPort.defaults_atDefaults _,
      by rw [h1]; exact hl, ?_, reported_raise ((event_btr ..).trans ((configDefaults_does ..).only.same .btr (by decide)))⟩
    have hr : (configDefaults p s).regs = s.regs := (configDefaults_does ..).only.same .regs (by decide)
    exact (evented_of (evented_event (by rw [hr]; exact hs.regs) .hstEvt 0 19) (cell_regs hr ..)).keep rfl
  · obtain ⟨h1, h2, h3, h4⟩ := linkDown_lost hs.regs training hl
    exact ⟨_, upNext_up hu, (linkDown_does ..).only, h1, h2, h3, h4⟩
  · exact ⟨badRequest ⟨p, bar2, a, write, n⟩ s, (upNext_up hu).trans (congrArg _ (if_pos hl)), (badRequest_does ..).only,
      badRequest_leaves hs.regs ⟨p, bar2, a, write, n⟩ rfl⟩
  · obtain ⟨h1, h2⟩ := pcieConfigWrite_port hl bme enable mask d3
    refine ⟨_, upNext_up hu, (pcieConfigWrite_does ..).only, by rw [h1]; rfl, fun v => ?_, h2⟩
    rw [h1, settle_vectors, msixWord_control]
    rfl
  · obtain ⟨h1, h2⟩ := linkUp_trains ha hl width speed
    exact ⟨_, upNext_up hu, (linkUp_does ..).only, h1, h2⟩
  · subst hA
    exact ⟨aerUncorr p status header s, (upNext_up hu).trans (congrArg _ (if_pos hd)), (aerUncorr_does ..).only, aerUncorr_leaves hs.regs p status header rfl⟩
  · exact ⟨aerCorr p status s, (upNext_up hu).trans (congrArg _ (if_pos hd)), (aerCorr_does ..).only, aerCorr_leaves hs.regs p status rfl⟩

end Sys2Proof.Machine
end

section
/-!
SUPPORT. Interrupt vectors and their messages (R346, R350, R351): the vector of each register, what an event of a vector does at a port and what leaves
it as it is, and the statement on interrupts settled.
-/
namespace Sys2Proof.Machine

/-! ### The vector of each register (R350) -/

theorem vectorOf_find (r : Reg) : vectorOf r = (vectorTable.find? fun x => x.1 = r).map Prod.snd := by
  cases r <;> rfl

theorem vectorTable_vector : ∀ x ∈ vectorTable, vectorOf x.1 = some x.2 ∧ x.2 ≤ 17 := by decide

theorem vectorOf_iff (r : Reg) (v : Nat) : vectorOf r = some v ↔ (r, v) ∈ vectorTable := by
  refine ⟨fun h => ?_, fun h => (vectorTable_vector _ h).1⟩
  rw [vectorOf_find, Option.map_eq_some_iff] at h
  obtain ⟨⟨q, w⟩, hf, rfl⟩ := h
  have hq : q = r := of_decide_eq_true (List.find?_some (p := fun x : Reg × Nat => x.1 = r) hf)
  exact hq ▸ List.mem_of_find?_eq_some hf

theorem sqc_vector (r : Reg) : (regMask r .sqc == 0 || r == .ldgEvt || (vectorOf r).isSome) = true := by
  cases r <;> decide +kernel

theorem event_reg_vector {r : Reg} (h : regMask r .sqc ≠ 0) (hl : r ≠ .ldgEvt) : ∃ v ≤ 17, vectorOf r = some v := by
  have hs := sqc_vector r
  rw [beq_eq_false_iff_ne.2 h, beq_eq_false_iff_ne.2 hl, Bool.false_or, Bool.false_or] at hs
  obtain ⟨v, hv⟩ := Option.isSome_iff_exists.1 hs
  exact ⟨v, (vectorTable_vector _ ((vectorOf_iff r v).1 hv)).2, hv⟩

/-! ### A vector that is told (R351) -/

theorem told_vec {h : HostPort} (hv : Rises h.vectors) (v : Nat) (en : Bool) : smGet .idle (h.told v en).vectors v =
    if en && h.msixEn then (smGet .idle h.vectors v).told (vecMasked h v) else smGet .idle h.vectors v := by
  unfold HostPort.told
  split
  · exact smGet_upd_rises hv ..
  · rfl

theorem told_vec_other {h : HostPort} (hv : Rises h.vectors) {v w : Nat} (hn : w ≠ v) (en : Bool) :
    smGet .idle (h.told v en).vectors w = smGet .idle h.vectors w := by
  unfold HostPort.told
  split
  · exact smGet_upd_other hv _ _ _ _ _ hn
  · rfl

/-- An event of a vector that is told already changes nothing more of it. -/
theorem VecState.told_told (masked : Bool) (x : VecState) : (x.told masked).told masked = x.told masked := by
  cases masked <;> rfl

/-- Vector `v` of port `q` is as one event of it leaves it. -/
def VecHeard (q : Fin 2) (v : Nat) (s t : State) : Prop :=
  smGet .idle (hostPort t q).vectors v = if bit (cell s .hstIrqEn q) v && (hostPort s q).msixEn then
    (smGet .idle (hostPort s q).vectors v).told (vecMasked (hostPort s q) v) else smGet .idle (hostPort s q).vectors v

theorem VecHeard.vectorTold {q : Fin 2} {v : Nat} {s t : State} (h : VecHeard q v s t) : VectorTold q v s t := by
  unfold VecHeard at h
  refine ⟨fun h1 h2 => ?_, fun hn => h.trans (if_neg fun e => hn (Bool.and_eq_true_iff.1 e))⟩
  rw [h1, h2, Bool.and_self, if_pos rfl] at h
  constructor
  · intro hm
    rw [h, hm]
    rfl
  · intro hm
    rw [h, hm]
    rfl

theorem VecHeard.of_told {q : Fin 2} {v : Nat} {s t : State} (hs : TablesRise s) (h : hostPort t q = (hostPort s q).told v (bit (cell s .hstIrqEn q) v)) :
    VecHeard q v s t := (congrArg (fun x : HostPort => smGet VecState.idle x.vectors v) h).trans (told_vec (rises_vectors hs q) ..)

/-- Told seen from before steps that leave the port and its enables alone. -/
theorem VecHeard.from {q : Fin 2} {v : Nat} {s u t : State} (h : VecHeard q v u t) (hp : hostPort u q = hostPort s q)
    (hc : cell u .hstIrqEn q = cell s .hstIrqEn q) : VecHeard q v s t := by
  unfold VecHeard at *
  rw [h, hp, hc]

theorem told_off_port {h : HostPort} {v : Nat} {en : Bool} (hn : ¬ (en = true ∧ h.msixEn = true)) : h.told v en = h := by
  unfold HostPort.told
  exact if_neg fun e => hn (Bool.and_eq_true_iff.1 e)

/-! ### What leaves a vector as it is -/

/-- A step that leaves vector `v` of both ports as it is, in any state with its tables in order. -/
structure VecQuiet (v : Nat) (s t : State) : Prop where
  tables : TablesRise s → TablesRise t
  vec : TablesRise s → ∀ q : Fin 2, smGet .idle (hostPort t q).vectors v = smGet .idle (hostPort s q).vectors v

theorem VecQuiet.refl (v : Nat) (s : State) : VecQuiet v s s := ⟨fun h => h, fun _ _ => rfl⟩

theorem VecQuiet.trans {v : Nat} {s u t : State} (h : VecQuiet v s u) (k : VecQuiet v u t) : VecQuiet v s t :=
  ⟨fun hs => k.tables (h.tables hs), fun hs q => (k.vec (h.tables hs) q).trans (h.vec hs q)⟩

theorem VecQuiet.of_does {v : Nat} {zs : List Zone} {s t : State} (h : Does zs s t) (h0 : Zone.port0 ∉ zs := by decide) (h1 : Zone.port1 ∉ zs := by decide) :
    VecQuiet v s t := ⟨h.tables, fun _ q => by rw [hostPort_only h.only h0 h1]⟩

theorem VecQuiet.step {v : Nat} {zs : List Zone} {s u t : State} (d : Does zs u t) (h : VecQuiet v s u) (h0 : Zone.port0 ∉ zs := by decide)
    (h1 : Zone.port1 ∉ zs := by decide) : VecQuiet v s t := h.trans (.of_does d h0 h1)

theorem signal_vecQuiet {v w : Nat} (h : w ≠ v) (s : State) : VecQuiet w s (signal v s) :=
  ⟨(signal_does ..).tables, fun hs q => by rw [signal_port, told_vec_other (rises_vectors hs q) h]⟩

theorem event_vecQuiet {r : Reg} {v : Nat} (h : vectorOf r ≠ some v) (i b : Nat) (s : State) : VecQuiet v s (event r i b s) := by
  unfold event
  dsimp only
  split
  · next w hw => exact .trans (.of_does (zs := [.regs]) (modCell_does ..)) (signal_vecQuiet (fun e => h (by rw [hw, e])) _)
  · exact .of_does (zs := [.regs]) (modCell_does ..)

theorem VecHeard.quiet {q : Fin 2} {v : Nat} {s u t : State} (h : VecHeard q v s u) (hu : TablesRise u) (k : VecQuiet v u t) : VecHeard q v s t :=
  (k.vec hu q).trans h

/-! ### What the Plumb does in steps (R436 to R439) -/

/-- A relation of states that the Plumb's steps keep: changes of its own parts, its events, its counts, its reports. -/
structure PlbSteps (R : State → State → Prop) : Prop where
  refl : ∀ s, R s s
  trans : ∀ {s u t}, R s u → R u t → R s t
  does : ∀ {s t}, Does [.mem, .plb] s t → R s t
  event : ∀ b s, R s (event .plbEvt 0 b s)
  count : ∀ s, R s (count .plbMissed 0 31 0 1 s)
  raise : ∀ src cap s, R s (raise src 0 cap s)

section
variable {R : State → State → Prop} (hR : PlbSteps R)
include hR

theorem plbSteps_mod {s u : State} (f : Plumb → Plumb) (hq : ∀ p : Plumb, p.queue.length ≤ 256 → (f p).queue.length ≤ 256)
    (hs : ∀ p : Plumb, Rises p.slots → Rises (f p).slots) (h : R s u) : R s (u.modPlb f) :=
  hR.trans h (hR.does (.step (State.modPlb_does f u hq hs) rfl (.refl _ _)))

theorem plbSteps_event {s u : State} (b : Nat) (h : R s u) : R s (event .plbEvt 0 b u) := hR.trans h (hR.event b u)

theorem plbSteps_raise {s u : State} (src : Nat) (cap : List Word) (h : R s u) : R s (raise src 0 cap u) := hR.trans h (hR.raise src cap u)

theorem plbSteps_store {s u : State} (r : PlbRec) (h : R s u) : R s (plbStore r u) := hR.trans h (hR.does (plbStore_does r u))

theorem plbFull_steps (tag lost : Nat) (s : State) : R s (plbFull tag lost s) := by
  unfold plbFull plbHold
  exact plbSteps_event hR 20 (plbSteps_mod hR _ (fun _ _ => Nat.zero_le _) (fun _ h => h) (plbSteps_raise hR _ _ (plbSteps_event hR 17
    (plbSteps_mod hR _ (fun _ h => h) (fun _ h => h) (plbSteps_store hR _ (hR.refl s))))))

theorem plbPut_steps (r : PlbRec) {s u : State} (h : R s u) : R s (plbPut r u) := by
  refine hR.trans h ?_
  have stored : R u (plbStore r u) := plbSteps_store hR r (hR.refl u)
  unfold plbPut
  dsimp only
  split
  · split
    · split
      · exact plbFull_steps hR ..
      · exact stored
    · exact plbSteps_mod hR _ (fun _ h => h) (fun _ h => h) stored
  · split
    · exact hR.refl u
    · exact plbSteps_mod hR _ (fun _ h => h) (fun _ h => h) stored
  · exact hR.refl u

theorem plbDrainOne_steps (s : State) : R s (plbDrainOne s) := by
  unfold plbDrainOne
  dsimp only
  split
  · exact plbPut_steps hR _ (plbSteps_mod hR _ (fun _ h => h) (fun _ h => h) (hR.refl s))
  · split
    · next hq =>
      refine plbPut_steps hR _ (hR.does (Does.put_plb (x := s) (by decide) (fun k => ?_) (fun h => h) (Does.refl _ _)))
      rw [hq] at k
      exact Nat.le_of_succ_le k
    · exact hR.refl s

theorem plbDrainAll_steps (s : State) : R s (plbDrainAll s) := by
  have run (n : Nat) (u : State) : R u (times plbDrainOne n u) := by
    induction n generalizing u with
    | zero => exact hR.refl u
    | succ n ih => exact hR.trans (plbDrainOne_steps hR u) (ih _)
  unfold plbDrainAll plbDrain
  split
  · exact run _ s
  · exact hR.refl s

theorem plbMiss_steps (tag : Nat) (s : State) : R s (plbMiss tag s) := by
  have missed := hR.trans (plbSteps_event hR 18 (plbSteps_mod hR (fun p => { p with lastMiss := some tag }) (fun _ h => h) (fun _ h => h) (hR.refl s))) (hR.count _)
  unfold plbMiss
  dsimp only
  split
  · exact hR.refl s
  · split
    · exact missed
    · exact plbSteps_raise hR _ _ (plbSteps_mod hR _ (fun _ h => h) (fun _ h => h) missed)

theorem plbTake_steps (origin back tag : Nat) (s : State) : R s (plbTake origin back tag s) := by
  unfold plbTake
  refine hR.trans (plbDrainAll_steps hR s) ?_
  generalize plbDrainAll s = u
  dsimp only
  split
  · exact plbMiss_steps hR ..
  · split
    · exact plbPut_steps hR _ (plbSteps_event hR 19 (plbSteps_mod hR _ (fun _ h => h) (fun _ h => h) (hR.refl u)))
    · exact plbSteps_mod hR _ (fun _ h => h) (fun _ h => h) (plbSteps_store hR _ (plbSteps_event hR 19
        (plbSteps_mod hR _ (fun _ h => h) (fun _ h => h) (hR.refl u))))

theorem plbFire_steps (origin back tag : Nat) (s : State) : R s (plbFire origin back tag s) := by
  have waits : R s (plbWait origin back tag s) := hR.does ((plbWait_does ..).widen rfl)
  unfold plbFire
  split
  · exact hR.refl s
  · split
    · exact waits
    · split
      · split
        · exact hR.does ((plbJoin_does ..).widen rfl)
        · split
          · exact plbTake_steps hR ..
          · split
            · exact waits
            · exact plbMiss_steps hR ..
      · split
        · exact plbTake_steps hR ..
        · split
          · exact waits
          · exact plbMiss_steps hR ..

end

/-- R350: the Plumb signals its own vector alone. -/
theorem plbSteps_vecQuiet {v : Nat} (hv : v ≠ 16) : PlbSteps (VecQuiet v) where
  refl := .refl v
  trans := .trans
  does := fun d => .of_does d
  event := event_vecQuiet (by simpa [vectorOf] using fun e : 16 = v => hv e.symm) 0
  count := fun _ => .of_does (count_does ..)
  raise := fun _ _ _ => .of_does (raise_does ..)

/-! ### What signals the vectors 0, 1 to 4, 17 and 18 (R302, R345, R368, R9) -/

theorem cell_irqEn_event {s : State} (hs : Rises s.regs) (q : Fin 2) {r : Reg} {i : Nat} (hr : regExists r i 0 = true) (hn : r ≠ .hstIrqEn) (b : Nat) :
    cell (event r i b s) .hstIrqEn q = cell s .hstIrqEn q :=
  cell_event_other hs _ _ _ (regOff_ne (at_hst.2.2 q).1 hr fun e => hn (congrArg Prod.fst e).symm)

theorem signal_heard {s : State} (hs : TablesRise s) (q : Fin 2) (v : Nat) : VecHeard q v s (signal v s) := .of_told hs (signal_port q v s)

theorem event_heard {s : State} (hs : TablesRise s) (q : Fin 2) {r : Reg} {i : Nat} (hr : regExists r i 0 = true) (b : Nat) {v : Nat} (hv : vectorOf r = some v) :
    VecHeard q v s (event r i b s) := .of_told hs (event_port hs.regs hr b hv q)

/-- A vector that is told already hears nothing new in another event. -/
theorem VecHeard.again {q : Fin 2} {v : Nat} {s u : State} (h : VecHeard q v s u) (hu : TablesRise u) (hc : cell u .hstIrqEn q = cell s .hstIrqEn q)
    (hp : (hostPort s q).VecsOnly (hostPort u q)) : VecHeard q v s (signal v u) := by
  have hm : (hostPort u q).msixEn = (hostPort s q).msixEn := (congrArg HostPort.msixEn hp :)
  have hk : vecMasked (hostPort u q) v = vecMasked (hostPort s q) v := (congrArg (vecMasked · v) hp :)
  have k := signal_heard hu q v
  unfold VecHeard at *
  rw [k, hc, hm, hk, h]
  split
  · exact VecState.told_told ..
  · rfl

/-- R345, R347: a host access that is turned away. -/
theorem badRequest_heard {s : State} (hs : TablesRise s) (x : BarAccess) (hw : x.write = true) (q : Fin 2) :
    VecHeard q 17 s (badRequest x s) ∧
      (¬ (bit (cell s .hstIrqEn q) 17 = true ∧ (hostPort s q).msixEn = true) → hostPort (badRequest x s) q = hostPort s q) := by
  obtain ⟨he, hr, hp⟩ := at_hst
  have away (hi lo b : Nat) : hostPort (event .hstEvt 0 b (count .hstRefused 0 hi lo 1 s)) q = (hostPort s q).told 17 (bit (cell s .hstIrqEn q) 17) := by
    rw [event_port (rises_count hs.regs ..) he b (v := 17) rfl,
      show cell (count .hstRefused 0 hi lo 1 s) .hstIrqEn q = cell s .hstIrqEn q from cell_setCell_other hs.regs _ (regOff_ne (hp q).1 hr nofun)]
    rfl
  have told : hostPort (badRequest x s) q = (hostPort s q).told 17 (bit (cell s .hstIrqEn q) 17) := by
    unfold badRequest
    rw [if_pos hw]
    split
    · exact away 15 0 21
    · exact away 31 16 20
  exact ⟨.of_told hs told, fun hn => told.trans (told_off_port hn)⟩

/-- The entries of an array of words that are set one after the other. -/
theorem forN_setCells {r : Reg} {m n : Nat} (he : ∀ i < n, regExists r m i = true) (f : Nat → Word) {s : State} (hs : Rises s.regs) :
    Rises (forN n (fun i t => setCell r m i (f i) t) s).regs ∧
      RegsKept ((List.range n).map fun i => (r, m, i)) s (forN n (fun i t => setCell r m i (f i) t) s) ∧
      ∀ i < n, cell (forN n (fun i t => setCell r m i (f i) t) s) r m i = f i := by
  induction n with
  | zero => exact ⟨hs, RegsKept.refl _ _, nofun⟩
  | succ n ih =>
    obtain ⟨h1, h2, h3⟩ := ih fun i hi => he i (by omega)
    rw [forN_succ]
    refine ⟨rises_setCell h1 .., ?_, fun i hi => ?_⟩
    · refine (h2.widen ?_).set h1 (List.mem_map.2 ⟨n, List.mem_range.2 (Nat.lt_succ_self n), rfl⟩) _
      exact List.map_subset _ fun i hi => List.mem_range.2 (Nat.lt_succ_of_lt (List.mem_range.1 hi))
    · by_cases e : i = n
      · rw [e]
        exact cell_setCell h1 ..
      · refine (cell_setCell_other h1 _ (regOff_ne (he i hi) (he n (Nat.lt_succ_self n)) fun k => e ?_)).trans (h3 i (by omega))
        exact congrArg (fun x : Reg × Nat × Nat => x.2.2) k

theorem at_ldgRsp : ∀ m : Fin 8, ∀ i < 16, regExists .ldgRsp m i = true := by decide +kernel

/-- R368: a response that is placed signals at the port of its mailbox alone. -/
theorem responsePlaced_told {s : State} (hs : TablesRise s) {m : Fin 8} {n : Nat} {ws : List Word} {rest : List (Nat × List Word)} (hh : (mailbox s m).held = none)
    (hd : (mailbox s m).done = (n, ws) :: rest) (hp : ¬ (fld (ws.getD 0 0) 31 24 = 1 ∧ domOn s (50 + boxPort m) = false)) {p : Fin 2} (hb : boxPort m = p) :
    VectorTold p (1 + m.val % 4) s (responsePlaced m s) ∧ hostPort (responsePlaced m s) (1 - p.val) = hostPort s (1 - p.val) := by
  let u := modBox m (fun b => { b with done := rest, held := some n }) s
  let w := forN 16 (fun i t => setCell .ldgRsp m i (ws.getD i 0) t) u
  have dw : Does [.regs] u w := Does.forN (fun i t d => .step (setCell_does ..) rfl d) (.refl _ _)
  have du : Does [.ldg] s u := modBox_does ..
  have he : responsePlaced m s = signalPort p (1 + m.val % 4) w := by
    unfold responsePlaced
    dsimp only
    rw [hh, hd]
    dsimp only
    rw [if_neg fun e => hp ⟨e.1, by simpa using e.2⟩, hb]
  have port (q : Nat) : hostPort w q = hostPort s q := (hostPort_only dw.only (q := q)).trans (hostPort_only du.only (q := q))
  have hcell : cell w .hstIrqEn p = cell s .hstIrqEn p := by
    refine ((forN_setCells (at_ldgRsp m) (ws.getD · 0) (s := u) hs.regs).2.1 .hstIrqEn p 0 fun x hx => ?_).trans (cell_regs (du.only.same .regs (by decide)) ..)
    obtain ⟨i, hi, rfl⟩ := List.mem_map.1 hx
    exact regOff_ne (at_hst.2.2 p).1 (at_ldgRsp m i (List.mem_range.1 hi)) nofun
  rw [he]
  constructor
  · have hw : TablesRise w := dw.tables (du.tables hs)
    exact (VecHeard.from (.of_told hw (signalPort_same p _ w)) (port p) hcell).vectorTold
  · refine Eq.trans ?_ (port _)
    unfold signalPort
    dsimp only
    split
    · exact otherPort_modPort ..
    · rfl

/-! ### A primary report that is logged (R302, R313, R350) -/

theorem logPut_room {s : State} (h : s.flt.log.length < 1024) (e : LogEntry) : (logPut e s).2 = true := by
  unfold logPut logRoom
  rw [if_pos h]

/-- R302, R350: a primary report of a level at or above IRQ_LEVEL that is logged signals vector 0. -/
theorem logPrimary_heard {s : State} (hs : TablesRise s) (r : Report) (q : Fin 2) (hlog : s.flt.log.length < 1024)
    (hirq : fld (cell s .fltCtl) 10 8 ≤ (if actedLevel s r.source = 3 ∧ actsAsTwo s r.target then 2 else actedLevel s r.source)) :
    VecHeard q 0 s (logPrimary r s) := by
  have hfe : regExists .fltEvt 0 0 = true ∧ regExists .fltCtl 0 0 = true := by decide +kernel
  unfold logPrimary
  dsimp only
  rw [logPut_room hlog]
  simp only [if_true, Bool.true_and]
  generalize (if actedLevel s r.source = 3 ∧ actsAsTwo s r.target = true then 2 else actedLevel s r.source) = level at *
  generalize decide (severityOf s r.source < actedLevel s r.source) = esc
  generalize hp : logPut _ s = p
  have dp : Does [.flt, .mem] s p.1 := hp ▸ logPut_does ..
  generalize hm : modSrc _ _ (cnsSwitchLogged r p.1) = u
  have du : Does [.flt, .mem, .cns] s u := by
    rw [← hm]
    exact .step (modSrc_does ..) rfl (.step (cnsSwitchLogged_does ..) rfl (dp.widen rfl))
  have su : TablesRise u := du.tables hs
  have pu : hostPort u q = hostPort s q := hostPort_only du.only (q := q)
  have ru (x : Reg) (i : Nat) : cell u x i = cell s x i := cell_regs (du.only.same .regs (by decide)) ..
  generalize hw : (if esc = true then event .fltEvt 0 16 u else u) = w
  have irq : cell w .fltCtl = cell s .fltCtl := by
    rw [← hw, ← ru]
    split
    · exact cell_event_other su.regs _ _ _ (regOff_ne hfe.2 hfe.1 nofun)
    · rfl
  have heard : VecHeard q 0 s (signal 0 w) := by
    rw [← hw]
    split
    · refine VecHeard.again ?_ ((event_does ..).tables su) ((cell_irqEn_event su.regs q hfe.1 nofun 16).trans (ru ..)) ?_
      · exact (event_heard su q hfe.1 16 rfl).from pu (ru ..)
      · rw [← pu]
        exact event_vecsOnly ..
    · exact (signal_heard su q 0).from pu (ru ..)
  have sw : TablesRise (signal 0 w) := by
    rw [← hw]
    split
    · exact (signal_does ..).tables ((event_does ..).tables su)
    · exact (signal_does ..).tables su
  have hsig : (if decide (fld (cell w .fltCtl) 10 8 ≤ level) = true then signal 0 w else w) = signal 0 w :=
    if_pos (decide_eq_true (by rw [irq]; exact hirq))
  rw [hsig]
  generalize hx : (if level = 3 then openShadow r.target r (signal 0 w) else
    if level = 4 then actCritical r (nextSeqNo s.flt.newestSeq) true (signal 0 w) else signal 0 w) = x
  have qx : VecQuiet 0 (signal 0 w) x := by
    rw [← hx]
    split
    · exact .of_does (openShadow_does ..)
    · split
      · exact .of_does (actCritical_does ..)
      · exact .refl ..
  refine heard.quiet sw (qx.trans ?_)
  split
  · exact plbFire_steps (plbSteps_vecQuiet (by decide)) ..
  · exact .refl ..

/-- R301: a report leaves those that the collector holds or that are on their way. -/
def Faults.without (r : Report) (f : Faults) : Faults :=
  if f.held.contains r then { f with held := f.held.erase r } else { f with flying := f.flying.erase r }

theorem Faults.without_eq (r : Report) (f : Faults) : f.without r = { f with held := (f.without r).held, flying := (f.without r).flying } := by
  unfold Faults.without
  split <;> rfl

/-- The state with a report no longer held or on its way. -/
def State.without (r : Report) (s : State) : State := { s with flt := { s.flt with held := (s.flt.without r).held, flying := (s.flt.without r).flying } }

theorem State.modFlt_without (r : Report) (s : State) : s.modFlt (.without r) = s.without r := by
  unfold State.modFlt State.without
  rw [← Faults.without_eq]

/-- R301: the first report is logged, with no FLT_LOG_FULL waiting. -/
theorem faultLog_first {s : State} {r : Report} (hw : s.flt.fullWaiting = none) (hh : s.flt.held ≠ []) (hf : firstReport (s.flt.held ++ s.flt.flying) = some r) :
    faultLog s = logReport r (s.without r) := by
  rw [← State.modFlt_without]
  have hl : logWaiting s = s := by
    unfold logWaiting
    rw [hw]
  unfold faultLog
  dsimp only
  rw [hl, hf]
  cases hd : s.flt.held with
  | nil => exact absurd hd hh
  | cons a l => rfl

theorem faultLog_heard {s : State} (hs : TablesRise s) {r : Report} (q : Fin 2) (hw : s.flt.fullWaiting = none) (hh : s.flt.held ≠ [])
    (hf : firstReport (s.flt.held ++ s.flt.flying) = some r) (hc : isConsequential s r = false) (hlog : s.flt.log.length < 1024)
    (hirq : fld (cell s .fltCtl) 10 8 ≤ (if actedLevel s r.source = 3 ∧ actsAsTwo s r.target then 2 else actedLevel s r.source)) :
    VecHeard q 0 s (faultLog s) := by
  rw [faultLog_first hw hh hf]
  rw [show logReport r (s.without r) = logPrimary r (s.without r) from
    if_neg (by rw [show isConsequential (s.without r) r = isConsequential s r from rfl, hc]; exact Bool.false_ne_true)]
  exact (logPrimary_heard (s := s.without r) { hs with } r q hlog hirq).from rfl rfl

/-! ### The course tick (R9, R337) -/

theorem voteItem_val {n : Nat} (x : Tri n) : (voteItem true x).1.val.toNat = counterVote x := by
  have same (a : BitVec n) : (Tri.of a).val = a := by
    unfold Tri.of Tri.val
    rw [BitVec.and_self, BitVec.or_self, BitVec.or_self]
  obtain ⟨a, b, c⟩ := x
  unfold voteItem counterVote
  dsimp only
  by_cases h1 : a = b
  · subst h1
    rw [if_pos rfl, if_pos (Or.inl rfl)]
    by_cases h2 : a = c
    · subst h2
      rw [if_pos rfl]
      exact congrArg BitVec.toNat (same a)
    · rw [if_neg h2, same]
  · rw [if_neg h1]
    by_cases h2 : a = c
    · rw [if_pos h2, if_pos (Or.inr h2), same]
    · rw [if_neg h2, if_neg (not_or.2 ⟨h1, h2⟩)]
      split
      · rw [same]
      · rw [same, if_pos rfl, BitVec.toNat_ofNat]
        exact Nat.mod_eq_of_lt (max_lt a.isLt (max_lt b.isLt c.isLt))

/-- R22, R337: the course counter that the vote of a tick leaves. -/
theorem vote_course (s : State) : nowCourse (btrVote (courseRest s)).1 = counterVote s.btr.course := by
  have d : Does [.regs, .flt, .port0, .port1, .mem, .plb, .lnt] s
      (lossSample (nowGbt s) (nowCourse s * 64 + 63) (plbDrain (min (2 * (1535 - nowCycle s)) (s.plb.queue.length + 1)) (plbCycleEnd s))) :=
    .step (lossSample_does ..) rfl (.step (plbDrain_does ..) rfl (.step (plbCycleEnd_does ..) rfl (.refl _ _)))
  have hb : (courseRest s).btr.course = s.btr.course := by
    unfold courseRest
    dsimp only
    exact (congrArg Buttress.course (d.only.same .btr (by decide)) :)
  rw [← hb]
  exact voteItem_val _

theorem courseTick_signals (o : TickObs) (s : State) : ∃ u : State, courseTick o s = tickSignal (nowCourse (btrVote (courseRest s)).1 + 1) u := ⟨_, rfl⟩

/-! ### Messages (R346, R351) -/

/-- A message has been sent and the merge time runs, or not. -/
def VecState.sent (hold : Bool) (x : VecState) : VecState := { x with due := false, holdoff := hold }

/-- R351: the message of a vector that is due. -/
theorem msixMessage_sends {s : State} (hs : TablesRise s) {p : Fin 2} {v : Nat} (h : messageDue (hostPort s p) v = true) :
    (hostPort (msixMessage p v s) p).msgs = ⟨(msixWord (hostPort s p) (16 * v + 4)).toNat * 2 ^ 32 + (msixWord (hostPort s p) (16 * v)).toNat,
        [msixWord (hostPort s p) (16 * v + 8)]⟩ :: (hostPort s p).msgs ∧
      smGet .idle (hostPort (msixMessage p v s) p).vectors v =
        (smGet .idle (hostPort s p).vectors v).sent (decide (fld (cell s .hstIrqHoldoff p) 15 0 ≠ 0)) := by
  unfold msixMessage
  rw [if_pos h]
  dsimp only
  rw [hostPort_modPort]
  refine ⟨rfl, ?_⟩
  have hb : (fld (cell s .hstIrqHoldoff p) 15 0 != 0) = decide (fld (cell s .hstIrqHoldoff p) 15 0 ≠ 0) := by simp [bne, beq_eq_decide]
  rw [hb]
  exact smGet_upd_rises (rises_vectors hs p) _ _ (VecState.sent _)

theorem msixMessage_idle {s : State} {p : Fin 2} {v : Nat} (h : messageDue (hostPort s p) v = false) : msixMessage p v s = s := by
  unfold msixMessage
  exact if_neg (ne_true_of_eq_false h)

/-- The merge time of a vector has passed. -/
def VecState.released (x : VecState) : VecState := { x with holdoff := false }

theorem holdoffExpiry_eq {s : State} (hs : TablesRise s) (p : Fin 2) (v : Nat) : ∃ u : State, holdoffExpiry p v s = msixMessage p v u ∧ TablesRise u ∧
    hostPort u p = { hostPort s p with vectors := (hostPort u p).vectors } ∧ cell u .hstIrqHoldoff p = cell s .hstIrqHoldoff p ∧
    smGet .idle (hostPort u p).vectors v = (smGet .idle (hostPort s p).vectors v).released := by
  let u := s.modPort p fun h => { h with vectors := smUpd .idle h.vectors v VecState.released }
  have hu : hostPort u p = { hostPort s p with vectors := smUpd .idle (hostPort s p).vectors v VecState.released } := hostPort_modPort ..
  refine ⟨u, rfl, ?_, by rw [hu], cell_regs (State.modPort_regs ..) .., ?_⟩
  · exact (State.modPort_does p (fun h => { h with vectors := smUpd .idle h.vectors v VecState.released }) s
      fun _ hy => ⟨hy.1, rises_upd hy.2.1, hy.2.2⟩).tables hs
  · rw [hu]
    exact smGet_upd_rises (rises_vectors hs p) ..

/-- R351: the merge time has passed: the events merged in it send one message. -/
theorem holdoffExpiry_sends {s : State} (hs : TablesRise s) (p : Fin 2) (v : Nat) {t : State} (ht : t = holdoffExpiry p v s) :
    let h := hostPort s p
    let x := smGet .idle h.vectors v
    let sends := x.due && h.msixEn && h.bme && h.l0 && !vecMasked h v
    (sends = true → (smGet .idle (hostPort t p).vectors v).due = false ∧
      (smGet .idle (hostPort t p).vectors v).holdoff = decide (fld (cell s .hstIrqHoldoff p) 15 0 ≠ 0) ∧
      (hostPort t p).msgs = ⟨(msixWord h (16 * v + 4)).toNat * 2 ^ 32 + (msixWord h (16 * v)).toNat, [msixWord h (16 * v + 8)]⟩ :: h.msgs) ∧
    (sends = false → smGet .idle (hostPort t p).vectors v = { x with holdoff := false } ∧ (hostPort t p).msgs = h.msgs) := by
  obtain ⟨u, he, su, hu, hc, hv⟩ := holdoffExpiry_eq hs p v
  have hd : messageDue (hostPort u p) v =
      ((smGet .idle (hostPort s p).vectors v).due && (hostPort s p).msixEn && (hostPort s p).bme && (hostPort s p).l0 && !vecMasked (hostPort s p) v) := by
    unfold messageDue
    dsimp only
    rw [hv, hu]
    simp [VecState.released]
    rfl
  dsimp only
  rw [← hd, ht, he]
  refine ⟨fun h => ?_, fun h => ?_⟩
  · obtain ⟨h1, h2⟩ := msixMessage_sends su h
    rw [hc] at h2
    refine ⟨by rw [h2]; rfl, by rw [h2]; rfl, h1.trans ?_⟩
    rw [hu]
    rfl
  · rw [msixMessage_idle h]
    exact ⟨hv, (congrArg HostPort.msgs hu :)⟩

/-- Settles O19: the vector of each register, what tells a vector, and how its messages are sent. -/
theorem interruptMessages : Obligations.InterruptMessages := by
  unfold Obligations.InterruptMessages
  refine ⟨fun r => ⟨vectorOf_iff r, event_reg_vector⟩, fun q v s hs => ⟨(signal_heard hs q v).vectorTold, fun hn => ?_, fun r i b hr hv => ?_⟩,
    fun p q bar2 a n s hu hl hs => ?_, fun m n ws rest s hu hs hh hd hp => ?_, fun r q s hu hs hw hh hf hc hlog hirq => ?_, fun obs s hu => ?_,
    fun p v s hu hs => ⟨fun h => ?_, fun h => ?_, ?_⟩⟩
  · exact (signal_port q v s).trans (told_off_port hn)
  · exact (event_heard hs q hr b hv).vectorTold
  · obtain ⟨h1, h2⟩ := badRequest_heard hs ⟨p, bar2, a, true, n⟩ rfl q
    exact ⟨badRequest ⟨p, bar2, a, true, n⟩ s, (upNext_up hu).trans (congrArg _ (if_pos hl)), h1.vectorTold, h2⟩
  · obtain ⟨p, hb⟩ : ∃ p : Fin 2, boxPort m = p := ⟨⟨m / 4, by omega⟩, rfl⟩
    obtain ⟨h1, h2⟩ := responsePlaced_told hs hh hd hp hb
    rw [hb]
    exact ⟨_, upNext_up hu, h1, h2⟩
  · exact ⟨_, upNext_up hu, (faultLog_heard hs q hw hh hf hc hlog hirq).vectorTold⟩
  · obtain ⟨u, he⟩ := courseTick_signals obs s
    refine ⟨courseTick obs s, u, nowCourse (btrVote (courseRest s)).1 + 1, upNext_up hu, by rw [vote_course], fun h => ?_, fun h => ?_⟩
    · exact he.trans (if_neg (ne_true_of_eq_false h))
    · exact he.trans (if_pos h)
  · exact (upNext_up hu).trans (congrArg _ (msixMessage_idle h))
  · obtain ⟨h1, h2⟩ := msixMessage_sends hs h
    exact ⟨_, upNext_up hu, (msixMessage_does ..).only, h1, by rw [h2]; rfl, by rw [h2]; rfl⟩
  · exact ⟨_, upNext_up hu, (holdoffExpiry_does ..).only, holdoffExpiry_sends hs p v rfl⟩

end Sys2Proof.Machine
end

section
/-!
SUPPORT. Reports as the collector logs them (R301 to R303, R313 to R315): room in the log, an entry that is put, a report that is lost, what a primary report
causes, and the statement on them settled.
-/
namespace Sys2Proof.Machine

theorem at_flt : regExists .fltEvt 0 0 = true ∧ regExists .fltLogLost 0 0 = true ∧ regExists .fltCtl 0 0 = true := by decide +kernel

/-! ### Room in the log (R302) -/

theorem removeFirst_hit {α : Type} {p : α → Bool} {o : α} (ho : p o = true) (post : List α) :
    ∀ pre : List α, (∀ e ∈ pre, p e = false) → removeFirst p (pre ++ o :: post) = some (o, pre ++ post)
  | [], _ => if_pos ho
  | e :: pre, h => by
    rw [List.cons_append, removeFirst, if_neg (ne_true_of_eq_false (h e (.head _))), removeFirst_hit ho post pre fun x hx => h x (.tail _ hx)]
    rfl

theorem removeFirst_miss {α : Type} {p : α → Bool} : ∀ l : List α, (∀ e ∈ l, p e = false) → removeFirst p l = none
  | [], _ => rfl
  | e :: l, h => by
    rw [removeFirst, if_neg (ne_true_of_eq_false (h e (.head _))), removeFirst_miss l fun x hx => h x (.tail _ hx)]
    rfl

theorem logRoom_space {l : List LogEntry} (h : l.length < 1024) : logRoom l = some (none, l) := if_pos h

/-- R302: in a full log the oldest acknowledged entry gives way, or else the oldest of level 0. -/
theorem logRoom_gives {l pre post : List LogEntry} {o : LogEntry} (hn : l.length = 1024) (hl : l = pre ++ o :: post)
    (h : (o.acked = true ∧ ∀ e ∈ pre, e.acked = false) ∨ (o.level = 0 ∧ (∀ e ∈ l, e.acked = false) ∧ ∀ e ∈ pre, e.level ≠ 0)) :
    logRoom l = some (some o, pre ++ post) := by
  unfold logRoom
  rw [if_neg (by omega)]
  rcases h with ⟨ho, hp⟩ | ⟨ho, ha, hp⟩
  · rw [hl, removeFirst_hit ho post pre hp]
  · rw [removeFirst_miss l ha, hl, removeFirst_hit (p := fun e : LogEntry => e.level == 0) (beq_iff_eq.2 ho) post pre fun e he => beq_eq_false_iff_ne.2 (hp e he)]
    rfl

theorem logRoom_full {l : List LogEntry} (hn : l.length = 1024) (h : ∀ e ∈ l, e.acked = false ∧ e.level ≠ 0) : logRoom l = none := by
  unfold logRoom
  rw [if_neg (by omega), removeFirst_miss l fun e he => (h e he).1, removeFirst_miss l fun e he => beq_eq_false_iff_ne.2 (h e he).2]
  rfl

/-! ### An entry that is put, a report that is lost (R302) -/

/-- What an entry that found room leaves of the collector. -/
structure EntryPut (e : LogEntry) (out : Option LogEntry) (l : List LogEntry) (s u : State) : Prop where
  flt : u.flt = { s.flt with log := l ++ [{ e with dropped := s.flt.droppedRun }], newestSeq := e.seq, droppedRun := 0, srcs := u.flt.srcs }
  srcs : out = none → u.flt.srcs = s.flt.srcs

theorem settleSource_flt (n : Nat) (s : State) : (settleSource n s).flt = { s.flt with srcs := (settleSource n s).flt.srcs } := by
  unfold settleSource
  split <;> rfl

theorem logPut_put {s : State} {out : Option LogEntry} {l : List LogEntry} (h : logRoom s.flt.log = some (out, l)) (e : LogEntry) :
    (logPut e s).2 = true ∧ EntryPut e out l s (logPut e s).1 := by
  have hw : (eccWrites 10 0 (logBlock e.seq) 8 s).flt = s.flt := (eccWrites_does ..).only.same .flt (by decide)
  let u := (eccWrites 10 0 (logBlock e.seq) 8 s).modFlt fun f => { f with log := l ++ [{ e with dropped := f.droppedRun }], newestSeq := e.seq, droppedRun := 0 }
  have hu : u.flt = { s.flt with log := l ++ [{ e with dropped := s.flt.droppedRun }], newestSeq := e.seq, droppedRun := 0 } := by
    show Faults.mk .. = _
    rw [hw]
  unfold logPut
  rw [h]
  refine ⟨rfl, ?_⟩
  dsimp only
  cases out with
  | none => exact ⟨by rw [show State.modFlt _ _ = u from rfl, hu], fun _ => (congrArg Faults.srcs hu :)⟩
  | some o =>
    dsimp only
    split
    · exact ⟨by rw [show State.modFlt _ _ = u from rfl, hu], nofun⟩
    · refine ⟨?_, nofun⟩
      rw [show State.modFlt _ _ = u from rfl, settleSource_flt, hu]

theorem logPut_full {s : State} (h : logRoom s.flt.log = none) (e : LogEntry) : logPut e s = (s, false) := by
  unfold logPut
  rw [h]

/-- R302: what a report leaves that is lost. -/
structure ReportLost (s u : State) : Prop where
  flt : u.flt = { s.flt with droppedRun := s.flt.droppedRun + 1, fullWaiting := u.flt.fullWaiting }
  count : cell u .fltLogLost = incSat (cell s .fltLogLost) 31 0 1
  first : s.flt.droppedRun = 0 → bit (cell u .fltEvt) 18 = true ∧ ∃ f : Report, u.flt.fullWaiting = some f ∧ f.source = Src.fltLogFull ∧
    f.capture = w32 1 :: capCourse (nowCourse s) ∧ f.stamp = nowStamp s
  later : s.flt.droppedRun ≠ 0 → u.flt.fullWaiting = s.flt.fullWaiting

theorem bit_evented {r : Reg} {i b : Nat} {s t : State} (h : Evented r i b s t) {k : Nat} (hk : 16 ≤ k) (hk' : k < 32) :
    bit (cell t r i) k = if k = b then true else bit (cell s r i) k := by
  rw [h]
  unfold bit
  rw [bit_setFld, if_neg (by omega), bit_setBit, decide_eq_true hk', Bool.true_and, Bool.true_and]

theorem logLost_lost {s : State} (hs : TablesRise s) : ReportLost s (logLost s) := by
  obtain ⟨he, hl, -⟩ := at_flt
  have ne : regOff .fltLogLost ≠ regOff .fltEvt := regOff_ne hl he nofun
  let u := count .fltLogLost 0 31 0 1 (s.modFlt fun f => { f with droppedRun := f.droppedRun + 1 })
  have hu : Rises u.regs := rises_count hs.regs ..
  have hc : cell u .fltLogLost = incSat (cell s .fltLogLost) 31 0 1 := cell_count hs.regs ..
  unfold logLost
  dsimp only
  split
  · next h0 =>
    let r : Report := ⟨Src.fltLogFull, 0, w32 1 :: capCourse (nowCourse u), 0, 0, nowStamp u, nowTime u, u.quo.worst, .none, false⟩
    let v := u.modFlt fun f => { f with fullWaiting := some r }
    have hv : (event .fltEvt 0 18 v).flt = v.flt := event_flt ..
    refine ⟨by rw [show State.flt _ = _ from hv]; rfl, (cell_event_other (s := v) hu _ _ _ ne).trans hc, fun _ => ⟨?_, r, ?_, rfl, rfl, rfl⟩,
      fun h => absurd (beq_iff_eq.1 h0) h⟩
    · exact (bit_evented (evented_event (s := v) hu .fltEvt 0 18) (by decide) (by decide)).trans (if_pos rfl)
    · exact congrArg Faults.fullWaiting hv
  · next h0 => exact ⟨rfl, hc, fun h => absurd (beq_iff_eq.2 h) h0, fun _ => rfl⟩

/-! ### What a primary report causes (R305, R306, R313, R314) -/

/-- A step that changes nothing of the collector but the reports on their way. -/
def FltTold (s t : State) : Prop := t.flt = { s.flt with flying := t.flt.flying, reported := t.flt.reported }

theorem FltTold.of_flt {s t : State} (h : t.flt = s.flt) : FltTold s t := by
  unfold FltTold
  rw [h]

theorem plbSteps_fltTold : PlbSteps FltTold where
  refl := fun s => rfl
  trans := fun {s u t} h k => by
    unfold FltTold at *
    rw [k, h]
  does := fun d => .of_flt (d.only.same .flt (by decide))
  event := fun b s => .of_flt (event_flt ..)
  count := fun s => rfl
  raise := fun src cap s => rfl

/-- R302, R303, R318: the entry of a primary report. -/
def primaryEntry (r : Report) (level : Nat) (s : State) : LogEntry :=
  ⟨nextSeqNo s.flt.newestSeq, r, level, false, decide (severityOf s r.source < actedLevel s r.source), r.resurfaced, false, (srcState s r.source).firstHeld.isNone, 0, []⟩

/-- R313: a source with a primary report: RAISED from IDLE, else ESCALATED. -/
def SrcState.struck (level course : Nat) (held : Option (List Word)) (x : SrcState) : SrcState :=
  { x with
    phase := if x.phase = .idle then .raised else .escalated, newest := level, lastPrimary := course
    firstHeld := if held.isSome then held else x.firstHeld }

/-- R305, R313, R314, R439: what a primary report causes at a level, logged or not. -/
def primaryActs (r : Report) (level seq : Nat) (esc first logged : Bool) (u : State) : State :=
  let held := if logged && first then (u.flt.log.getLast?).map logWords else none
  let s := modSrc r.source (.struck level r.stamp.course held) u
  let s := if esc then event .fltEvt 0 16 s else s
  let s := if logged && decide (fld (cell s .fltCtl) 10 8 ≤ level) then signal 0 s else s
  let s := if level = 3 then openShadow r.target r s else if level = 4 then actCritical r seq logged s else s
  if logged && decide (fld (cell s .plbCfg) 10 8 ≤ level) then plbFire 2 0 (timeTag s) s else s

/-- R306: the level at which a primary report acts. -/
def primaryLevel (s : State) (r : Report) : Nat := if actedLevel s r.source = 3 ∧ actsAsTwo s r.target then 2 else actedLevel s r.source

theorem logPrimary_eq (r : Report) (s : State) : ∃ esc first : Bool,
    logPrimary r s = primaryActs r (primaryLevel s r) (nextSeqNo s.flt.newestSeq) esc first (logPut (primaryEntry r (primaryLevel s r) s) s).2
      (if (logPut (primaryEntry r (primaryLevel s r) s) s).2 then cnsSwitchLogged r (logPut (primaryEntry r (primaryLevel s r) s) s).1
        else logLost (logPut (primaryEntry r (primaryLevel s r) s) s).1) := ⟨_, _, rfl⟩

/-- What a primary report's reaction leaves of the collector. -/
structure PrimaryActed (r : Report) (level seq : Nat) (logged : Bool) (u t : State) : Prop where
  held : t.flt.held = u.flt.held
  log : t.flt.log = u.flt.log
  newestSeq : t.flt.newestSeq = u.flt.newestSeq
  droppedRun : t.flt.droppedRun = u.flt.droppedRun
  fullWaiting : t.flt.fullWaiting = u.flt.fullWaiting
  src : ∃ held : Option (List Word), srcState t r.source = (srcState u r.source).struck level r.stamp.course held
  iso : t.flt.isoPending = u.flt.isoPending ++ (if level = 3 then [⟨r.target, r.source⟩] else [])
  stop : level ≠ 4 → t.flt.stopPending = u.flt.stopPending
  stop4 : level = 4 → dpStopped u = false → t.flt.stopPending.isSome = true
  newest4 : t.flt.newestL4 = if level = 4 ∧ logged = true then some (seq, false) else u.flt.newestL4

theorem actCritical_flt (r : Report) (seq : Nat) (logged : Bool) (s : State) :
    (actCritical r seq logged s).flt = { s.flt with
      newestL4 := if logged then some (seq, false) else s.flt.newestL4
      shadows := (actCritical r seq logged s).flt.shadows, stopPending := (actCritical r seq logged s).flt.stopPending } ∧
      (dpStopped s = false → (actCritical r seq logged s).flt.stopPending.isSome = true) := by
  have hc : (cnsCritical r seq s).flt = s.flt := (cnsCritical_does ..).only.same .flt (by decide)
  have waits (x : Option Nat) : (if x.isSome then x else some r.source).isSome = true := by
    split
    · assumption
    · rfl
  unfold actCritical dpStopped State.modFlt
  generalize cnsCritical r seq s = c at hc ⊢
  cases logged with
  | true =>
    simp only [if_true, hc]
    split
    · next h => exact ⟨rfl, fun h' => absurd (h'.symm.trans h) Bool.false_ne_true⟩
    · exact ⟨rfl, fun _ => waits _⟩
  | false =>
    simp only [Bool.false_eq_true, if_false, hc]
    split
    · next h => exact ⟨by rw [hc], fun h' => absurd (h'.symm.trans h) Bool.false_ne_true⟩
    · exact ⟨rfl, fun _ => waits _⟩

theorem primaryActs_acted {u : State} (hu : TablesRise u) (r : Report) (level seq : Nat) (esc first logged : Bool) {t : State}
    (ht : t = primaryActs r level seq esc first logged u) : PrimaryActed r level seq logged u t := by
  unfold primaryActs at ht
  dsimp only at ht
  generalize (if (logged && first) = true then (u.flt.log.getLast?).map logWords else none) = held at ht
  generalize h1 : modSrc r.source (.struck level r.stamp.course held) u = u1 at ht
  have s1 : TablesRise u1 := h1 ▸ (modSrc_does ..).tables hu
  have f1 : u1.flt = { u.flt with srcs := u1.flt.srcs } := by rw [← h1]; rfl
  have k1 : srcState u1 r.source = (srcState u r.source).struck level r.stamp.course held := h1 ▸ srcState_modSrc hu ..
  generalize h2 : (if esc = true then event .fltEvt 0 16 u1 else u1) = u2 at ht
  have f2 : u2.flt = u1.flt := by
    rw [← h2]
    split
    · exact event_flt ..
    · rfl
  generalize h3 : (if (logged && decide (fld (cell u2 .fltCtl) 10 8 ≤ level)) = true then signal 0 u2 else u2) = u3 at ht
  have f3 : u3.flt = u2.flt := by
    rw [← h3]
    split
    · exact (signal_does ..).only.same .flt (by decide)
    · rfl
  have d3 : dpStopped u3 = dpStopped u := (congrArg (fun f : Faults => f.stopped.isSome) (f3.trans (f2.trans f1)) :)
  generalize h4 : (if level = 3 then openShadow r.target r u3 else if level = 4 then actCritical r seq logged u3 else u3) = u4 at ht
  have f4 : u4.flt = { u3.flt with
      shadows := u4.flt.shadows, stopPending := u4.flt.stopPending
      isoPending := u3.flt.isoPending ++ (if level = 3 then [⟨r.target, r.source⟩] else [])
      newestL4 := if level = 4 ∧ logged = true then some (seq, false) else u3.flt.newestL4 } ∧
      (level ≠ 4 → u4.flt.stopPending = u3.flt.stopPending) ∧ (level = 4 → dpStopped u3 = false → u4.flt.stopPending.isSome = true) := by
    rw [← h4]
    by_cases e3 : level = 3
    · subst e3
      exact ⟨rfl, fun _ => rfl, nofun⟩
    · by_cases e4 : level = 4
      · subst e4
        obtain ⟨c1, c2⟩ := actCritical_flt r seq logged u3
        rw [if_neg e3, if_pos rfl, if_neg e3, List.append_nil]
        refine ⟨c1.trans ?_, fun h => absurd rfl h, fun _ => c2⟩
        cases logged <;> rfl
      · rw [if_neg e3, if_neg e4, if_neg e3, List.append_nil, if_neg fun h => e4 h.1]
        exact ⟨rfl, fun _ => rfl, fun h => absurd h e4⟩
  have f5 : FltTold u4 t := by
    rw [ht]
    split
    · exact plbFire_steps plbSteps_fltTold ..
    · exact plbSteps_fltTold.refl _
  obtain ⟨f4, stop, stop4⟩ := f4
  unfold FltTold at f5
  have f3' : u3.flt = { u.flt with srcs := u1.flt.srcs } := f3.trans (f2.trans f1)
  have hsrc : t.flt.srcs = u1.flt.srcs := by rw [f5, f4, f3']
  have hstop : t.flt.stopPending = u4.flt.stopPending := by rw [f5]
  have hstop3 : u3.flt.stopPending = u.flt.stopPending := by rw [f3']
  rw [hstop3] at stop
  rw [d3] at stop4
  exact ⟨by rw [f5, f4, f3'], by rw [f5, f4, f3'], by rw [f5, f4, f3'], by rw [f5, f4, f3'], by rw [f5, f4, f3'], ⟨held, (srcState_of_srcs hsrc _).trans k1⟩,
    by rw [f5, f4, f3'], fun h => hstop.trans (stop h), fun h h' => by rw [hstop]; exact stop4 h h', by rw [f5, f4, f3']⟩

/-- R305: a primary report that is not logged has its reaction, and its events touch no other bit. -/
theorem primaryActs_unlogged {u : State} (hu : TablesRise u) (r : Report) (level seq : Nat) (esc first : Bool) {t : State}
    (ht : t = primaryActs r level seq esc first false u) :
    cell t .fltLogLost = cell u .fltLogLost ∧ bit (cell t .fltEvt) 18 = bit (cell u .fltEvt) 18 := by
  obtain ⟨he, hl, -⟩ := at_flt
  unfold primaryActs at ht
  simp only [Bool.false_and, Bool.false_eq_true, if_false] at ht
  generalize h1 : modSrc r.source _ u = u1 at ht
  have s1 : Rises u1.regs := by rw [← h1]; exact hu.regs
  have c1 (x : Reg) : cell u1 x = cell u x := by rw [← h1]; rfl
  generalize h2 : (if esc = true then event .fltEvt 0 16 u1 else u1) = u2 at ht
  have c2 (x : Reg) : cell t x = cell u2 x := by
    refine cell_regs ?_ ..
    rw [ht]
    split
    · exact (openShadow_does ..).only.same .regs (by decide)
    · split
      · exact (actCritical_does ..).only.same .regs (by decide)
      · rfl
  rw [c2, c2, ← c1, ← c1, ← h2]
  split
  · exact ⟨cell_event_other s1 _ _ _ (regOff_ne hl he nofun), (bit_evented (evented_event s1 .fltEvt 0 16) (by decide) (by decide)).trans (if_neg (by decide))⟩
  · exact ⟨rfl, rfl⟩

/-! ### A report that is logged or lost (R302, R313 to R315) -/

theorem EntryPut.keep {e : LogEntry} {out : Option LogEntry} {l : List LogEntry} {s u t : State} (h : EntryPut e out l s u) (k : t.flt = u.flt) :
    EntryPut e out l s t := by
  obtain ⟨h1, h2⟩ := h
  exact ⟨by rw [k]; exact h1, fun ho => by rw [k]; exact h2 ho⟩

/-- R315: the entry of a consequential report. -/
def conseqEntry (r : Report) (s : State) : LogEntry := ⟨nextSeqNo s.flt.newestSeq, r, severityOf s r.source, true, false, false, false, false, 0, []⟩

/-- R315: a source with a consequential report. -/
def SrcState.follows (x : SrcState) : SrcState := { x with conseq := satTo 8 (x.conseq + 1) }

theorem logConsequential_put {s : State} {out : Option LogEntry} {l : List LogEntry} (h : logRoom s.flt.log = some (out, l)) (r : Report) :
    EntryPut (conseqEntry r s) out l (modSrc r.source .follows s) (logConsequential r s) := by
  obtain ⟨h1, h2⟩ := logPut_put (s := modSrc r.source .follows s) h (conseqEntry r s)
  have e : logConsequential r s = cnsSwitchLogged r (logPut (conseqEntry r s) (modSrc r.source .follows s)).1 := if_pos h1
  rw [e]
  exact h2.keep ((cnsSwitchLogged_does ..).only.same .flt (by decide))

theorem logConsequential_lost {s : State} (hs : TablesRise s) (h : logRoom s.flt.log = none) (r : Report) :
    ReportLost (modSrc r.source .follows s) (logConsequential r s) := by
  have h1 := logPut_full (s := modSrc r.source .follows s) h (conseqEntry r s)
  have h2 : ¬ (logPut (conseqEntry r s) (modSrc r.source .follows s)).2 = true := by
    rw [h1]
    exact Bool.false_ne_true
  have e : logConsequential r s = logLost (logPut (conseqEntry r s) (modSrc r.source .follows s)).1 := if_neg h2
  rw [e, h1]
  exact logLost_lost ((modSrc_does ..).tables hs)

theorem logPrimary_put {s : State} (hs : TablesRise s) {out : Option LogEntry} {l : List LogEntry} (h : logRoom s.flt.log = some (out, l)) (r : Report) :
    ∃ u : State, EntryPut (primaryEntry r (primaryLevel s r) s) out l s u ∧
      PrimaryActed r (primaryLevel s r) (nextSeqNo s.flt.newestSeq) true u (logPrimary r s) := by
  obtain ⟨h1, h2⟩ := logPut_put h (primaryEntry r (primaryLevel s r) s)
  obtain ⟨esc, first, e⟩ := logPrimary_eq r s
  rw [h1, if_pos rfl] at e
  exact ⟨_, h2.keep ((cnsSwitchLogged_does ..).only.same .flt (by decide)), primaryActs_acted ((cnsSwitchLogged_does ..).tables ((logPut_does ..).tables hs)) _ _ _ _ _ _ e⟩

theorem logPrimary_lost {s : State} (hs : TablesRise s) (h : logRoom s.flt.log = none) (r : Report) :
    ∃ u : State, ReportLost s u ∧ PrimaryActed r (primaryLevel s r) (nextSeqNo s.flt.newestSeq) false u (logPrimary r s) ∧
      cell (logPrimary r s) .fltLogLost = cell u .fltLogLost ∧ bit (cell (logPrimary r s) .fltEvt) 18 = bit (cell u .fltEvt) 18 := by
  obtain ⟨esc, first, e⟩ := logPrimary_eq r s
  rw [logPut_full h, if_neg Bool.false_ne_true] at e
  have su : TablesRise (logLost s) := (logLost_does ..).tables hs
  exact ⟨_, logLost_lost hs, primaryActs_acted su _ _ _ _ _ _ e, primaryActs_unlogged su _ _ _ _ _ e⟩

/-- R302: what every report that finds room leaves. -/
theorem logReport_put {s : State} (hs : TablesRise s) {out : Option LogEntry} {l : List LogEntry} (h : logRoom s.flt.log = some (out, l)) (r : Report) :
    ∃ e : LogEntry, (logReport r s).flt.log = l ++ [e] ∧ e.seq = nextSeqNo s.flt.newestSeq ∧ e.report = r ∧ e.acked = false ∧
      e.dropped = s.flt.droppedRun ∧ (logReport r s).flt.newestSeq = e.seq ∧ (logReport r s).flt.droppedRun = 0 ∧
      (logReport r s).flt.fullWaiting = s.flt.fullWaiting ∧ (logReport r s).flt.held = s.flt.held := by
  unfold logReport
  split
  · have p := (logConsequential_put h r).flt
    exact ⟨{ conseqEntry r s with dropped := s.flt.droppedRun }, by rw [p]; rfl, rfl, rfl, rfl, rfl, by rw [p], by rw [p], by rw [p]; rfl, by rw [p]; rfl⟩
  · obtain ⟨u, p, a⟩ := logPrimary_put hs h r
    have p := p.flt
    exact ⟨{ primaryEntry r (primaryLevel s r) s with dropped := s.flt.droppedRun }, a.log.trans (by rw [p]), rfl, rfl, rfl, rfl,
      a.newestSeq.trans (by rw [p]), a.droppedRun.trans (by rw [p]), a.fullWaiting.trans (by rw [p]), a.held.trans (by rw [p])⟩

/-- R302: what every report that is lost leaves. -/
theorem logReport_lost {s : State} (hs : TablesRise s) (h : logRoom s.flt.log = none) (r : Report) :
    (logReport r s).flt.log = s.flt.log ∧ (logReport r s).flt.newestSeq = s.flt.newestSeq ∧ (logReport r s).flt.droppedRun = s.flt.droppedRun + 1 ∧
      cell (logReport r s) .fltLogLost = incSat (cell s .fltLogLost) 31 0 1 ∧ (logReport r s).flt.newestL4 = s.flt.newestL4 ∧
      (s.flt.droppedRun = 0 → bit (cell (logReport r s) .fltEvt) 18 = true ∧ ∃ f : Report, (logReport r s).flt.fullWaiting = some f ∧
        f.source = Src.fltLogFull ∧ f.capture = w32 1 :: capCourse (nowCourse s) ∧ f.stamp = nowStamp s) ∧
      (s.flt.droppedRun ≠ 0 → (logReport r s).flt.fullWaiting = s.flt.fullWaiting) ∧ (logReport r s).flt.held = s.flt.held := by
  unfold logReport
  split
  · obtain ⟨p, c, f, k⟩ := logConsequential_lost hs h r
    exact ⟨by rw [p]; rfl, by rw [p]; rfl, by rw [p]; rfl, c, by rw [p]; rfl, f, k, by rw [p]; rfl⟩
  · obtain ⟨u, ⟨p, c, f, k⟩, a, hc, hb⟩ := logPrimary_lost hs h r
    refine ⟨a.log.trans (by rw [p]), a.newestSeq.trans (by rw [p]), a.droppedRun.trans (by rw [p]), hc.trans c,
      a.newest4.trans ((if_neg fun e => Bool.false_ne_true e.2).trans (by rw [p])), fun h0 => ?_, fun h0 => a.fullWaiting.trans (k h0), a.held.trans (by rw [p])⟩
    obtain ⟨f1, x, f2⟩ := f h0
    exact ⟨hb.trans f1, x, by rw [a.fullWaiting]; exact f2⟩

theorem Faults.without_held (r : Report) (f : Faults) : (f.without r).held = if r ∈ f.held then f.held.erase r else f.held := by
  unfold Faults.without
  by_cases h : r ∈ f.held
  · rw [if_pos (List.contains_iff_mem.2 h), if_pos h]
  · rw [if_neg fun e => h (List.contains_iff_mem.1 e), if_neg h]

/-- R313, R315: a consequential report of the newest number changes its source's count alone. -/
theorem logReport_conseq {s : State} (hs : TablesRise s) {r : Report} (hc : isConsequential s r = true) (hn : s.flt.log.length < 1024) :
    (∃ e : LogEntry, (logReport r s).flt.log = s.flt.log ++ [e] ∧ e.seq = nextSeqNo s.flt.newestSeq ∧ e.report = r ∧ e.consequential = true ∧
      e.level = severityOf s r.source ∧ e.acked = false ∧ e.dropped = s.flt.droppedRun) ∧
      srcState (logReport r s) r.source = (srcState s r.source).follows ∧ (logReport r s).flt.isoPending = s.flt.isoPending ∧
      (logReport r s).flt.stopPending = s.flt.stopPending ∧ (logReport r s).flt.shadows = s.flt.shadows := by
  have p := logConsequential_put (logRoom_space hn) r
  rw [show logReport r s = logConsequential r s from if_pos hc]
  have f := p.flt
  exact ⟨⟨{ conseqEntry r s with dropped := s.flt.droppedRun }, by rw [f]; rfl, rfl, rfl, rfl, rfl, rfl, rfl⟩,
    (srcState_of_srcs (p.srcs rfl) _).trans (srcState_modSrc hs ..), by rw [f]; rfl, by rw [f]; rfl, by rw [f]; rfl⟩

/-- R313: a primary report. -/
theorem logReport_primary {s : State} (hs : TablesRise s) {r : Report} (hc : isConsequential s r = false) (hn : s.flt.log.length < 1024) {level : Nat}
    (hl : level = primaryLevel s r) :
    (∃ e : LogEntry, (logReport r s).flt.log = s.flt.log ++ [e] ∧ e.seq = nextSeqNo s.flt.newestSeq ∧ e.report = r ∧ e.consequential = false ∧ e.level = level ∧
      e.escalated = decide (severityOf s r.source < actedLevel s r.source) ∧ e.acked = false ∧ e.dropped = s.flt.droppedRun) ∧
      (srcState (logReport r s) r.source).phase = (if (srcState s r.source).phase = .idle then .raised else .escalated) ∧
      (srcState (logReport r s) r.source).newest = level ∧ (srcState (logReport r s) r.source).lastPrimary = r.stamp.course ∧
      (level < 3 → (logReport r s).flt.isoPending = s.flt.isoPending ∧ (logReport r s).flt.stopPending = s.flt.stopPending) ∧
      (level = 3 → (logReport r s).flt.isoPending = s.flt.isoPending ++ [⟨r.target, r.source⟩] ∧ (logReport r s).flt.stopPending = s.flt.stopPending) ∧
      (level = 4 → (logReport r s).flt.isoPending = s.flt.isoPending ∧ (logReport r s).flt.newestL4 = some (nextSeqNo s.flt.newestSeq, false) ∧
        (dpStopped s = false → (logReport r s).flt.stopPending.isSome = true)) := by
  obtain ⟨u, p, a⟩ := logPrimary_put hs (logRoom_space hn) r
  rw [show logReport r s = logPrimary r s from if_neg (ne_true_of_eq_false hc)]
  rw [← hl] at a p
  have f := p.flt
  obtain ⟨held, k⟩ := a.src
  rw [srcState_of_srcs (p.srcs rfl)] at k
  have iso : (logPrimary r s).flt.isoPending = s.flt.isoPending ++ (if level = 3 then [⟨r.target, r.source⟩] else []) := a.iso.trans (by rw [f])
  have stop (h : level ≠ 4) : (logPrimary r s).flt.stopPending = s.flt.stopPending := (a.stop h).trans (by rw [f])
  refine ⟨⟨{ primaryEntry r level s with dropped := s.flt.droppedRun }, a.log.trans (by rw [f]), rfl, rfl, rfl, rfl, rfl, rfl, rfl⟩, by rw [k]; rfl, by rw [k]; rfl,
    by rw [k]; rfl, fun h => ⟨?_, stop (by omega)⟩, fun h => ⟨?_, stop (by omega)⟩, fun h => ⟨?_, a.newest4.trans (if_pos ⟨h, rfl⟩), fun hd => a.stop4 h ?_⟩⟩
  · rw [iso, if_neg (by omega), List.append_nil]
  · rw [iso, if_pos h]
  · rw [iso, if_neg (by omega), List.append_nil]
  · exact (congrArg (fun f : Faults => f.stopped.isSome) f).trans hd

/-- R305, R313: the reaction of a report that is lost. -/
theorem logReport_lost_reacts {s : State} (hs : TablesRise s) (h : logRoom s.flt.log = none) (r : Report) :
    (isConsequential s r = true → (srcState (logReport r s) r.source).conseq = satTo 8 ((srcState s r.source).conseq + 1)) ∧
      ∀ level : Nat, isConsequential s r = false → level = primaryLevel s r →
        (srcState (logReport r s) r.source).phase = (if (srcState s r.source).phase = .idle then .raised else .escalated) ∧
        (logReport r s).flt.isoPending = s.flt.isoPending ++ (if level = 3 then [⟨r.target, r.source⟩] else []) ∧
        (level ≠ 4 → (logReport r s).flt.stopPending = s.flt.stopPending) ∧
        (level = 4 → dpStopped s = false → (logReport r s).flt.stopPending.isSome = true) := by
  refine ⟨fun hc => ?_, fun level hc hl => ?_⟩
  · have f := (logConsequential_lost hs h r).flt
    rw [show logReport r s = logConsequential r s from if_pos hc]
    exact congrArg SrcState.conseq ((srcState_of_srcs (by rw [f]) _).trans (srcState_modSrc hs r.source .follows))
  · obtain ⟨u, p, a, -⟩ := logPrimary_lost hs h r
    rw [show logReport r s = logPrimary r s from if_neg (ne_true_of_eq_false hc)]
    rw [← hl] at a
    have f := p.flt
    obtain ⟨held, k⟩ := a.src
    rw [srcState_of_srcs (t := u) (s := s) (by rw [f])] at k
    exact ⟨by rw [k]; rfl, a.iso.trans (by rw [f]), fun h => (a.stop h).trans (by rw [f]),
      fun h hd => a.stop4 h ((congrArg (fun f : Faults => f.stopped.isSome) f).trans hd)⟩

/-- Settles O25: how reports are held, logged and lost, and what they cause. -/
theorem faultsAreLogged : Obligations.FaultsAreLogged := by
  unfold Obligations.FaultsAreLogged
  refine ⟨fun i r s hu hr => ⟨_, upNext_up hu, ?_⟩, fun r s hu hs hw hh hf => ?_, fun f s hu hs hw hh hr => ?_⟩
  · unfold faultReport
    rw [hr]
    rfl
  · have he : faultLog s = logReport r (s.without r) := faultLog_first hw hh hf
    have hs' : TablesRise (s.without r) := { hs with }
    refine ⟨faultLog s, upNext_up hu, (faultLog_does s).only, ?_⟩
    rw [he]
    refine ⟨?_, fun hn hc => ?_, fun level hn hc hl => logReport_primary hs' hc hn hl, fun pre post o hn hl ho => ?_, fun hn hfull => ?_⟩
    · rw [← Faults.without_held]
      cases h : logRoom (s.without r).flt.log with
      | none => exact (logReport_lost hs' h r).2.2.2.2.2.2.2
      | some x =>
        obtain ⟨e, -, -, -, -, -, -, -, -, h⟩ := logReport_put hs' h r
        exact h
    · obtain ⟨h1, h2, h3, h4, h5⟩ := logReport_conseq hs' hc hn
      exact ⟨h1, (congrArg SrcState.phase h2 :), (congrArg SrcState.conseq h2 :), h3, h4, h5⟩
    · obtain ⟨e, h1, h2, h3, h4, h5, h6, h7, h8, -⟩ := logReport_put hs' (logRoom_gives hn hl ho) r
      exact ⟨e, h1, h2, h3, h4, h5, h6, h7, h8.trans hw⟩
    · have hroom : logRoom (s.without r).flt.log = none := logRoom_full hn hfull
      obtain ⟨h1, h2, h3, h4, h5, h6, h7, -⟩ := logReport_lost hs' hroom r
      exact ⟨h1, h2, h3, h4, h5, h6, fun h0 => (h7 h0).trans hw, logReport_lost_reacts hs' hroom r⟩
  · obtain ⟨⟨out, l⟩, hl⟩ := Option.isSome_iff_exists.1 hr
    let v := s.modFlt fun x => { x with fullWaiting := none }
    obtain ⟨e, h1, h2, h3, h4, h5, h6, h7, h8, h9⟩ := logReport_put (s := v) { hs with } hl f
    have he : faultLog s = logReport f v := by
      have hw' : logWaiting s = logReport f v := by
        unfold logWaiting
        rw [hw]
        exact if_pos hr
      unfold faultLog
      dsimp only
      rw [hw', h9, show v.flt.held = [] from hh]
    exact ⟨_, e, upNext_up hu, by rw [he]; exact h8, by rw [he, h1]; exact List.getLast?_concat .., h3, h2, h5, by rw [he]; exact h7⟩

end Sys2Proof.Machine
end

section
/-!
SUPPORT. Submission, answer and acknowledgement in a mailbox (R365 to R374), and the statement on them settled.
-/
namespace Sys2Proof.Machine

theorem at_mailbox : ∀ m : Fin 8, regExists .ldgMbSubmit m 0 = true ∧ regExists .ldgMbAck m 0 = true ∧ ∀ i : Fin 16, regExists .ldgCmd m i = true := by
  decide +kernel

theorem inFlight_of {s t : State} {m : Nat} (h : mailbox t m = mailbox s m) : inFlight t m = inFlight s m := by unfold inFlight; rw [h]

/-! ### Submission and acknowledgement (R365 to R367, R369) -/

theorem ldgSubmit_joins {s : State} (hs : TablesRise s) {m : Nat} (h : inFlight s m < 4) {t : State} (ht : t = ldgSubmit m s) :
    (mailbox t m).lastSeq = nextSqc (mailbox s m).lastSeq ∧ t.ldg.rank = nextRank s ∧ t.ldg.rankAt = some (nowStamp s) ∧
      (mailbox t m).queue = (mailbox s m).queue ++ [⟨nextSqc (mailbox s m).lastSeq, 8 * t.ldg.rank + m, (List.range 16).map (fun i => cell s .ldgCmd m i)⟩] ∧
      inFlight t m = inFlight s m + 1 := by
  let b : Mailbox := { mailbox s m with
    lastSeq := nextSqc (mailbox s m).lastSeq
    queue := (mailbox s m).queue ++ [⟨nextSqc (mailbox s m).lastSeq, 8 * nextRank s + m, (List.range 16).map (fun i => cell s .ldgCmd m i)⟩] }
  unfold ldgSubmit at ht
  rw [if_neg (by omega)] at ht
  have hb : mailbox t m = b := by
    subst ht
    exact mailbox_modBox hs.boxes m fun _ => b
  have hr : t.ldg.rank = nextRank s := by rw [ht]; rfl
  refine ⟨by rw [hb], hr, by rw [ht]; rfl, by rw [hb, hr], ?_⟩
  unfold inFlight
  rw [hb]
  dsimp only [b]
  rw [List.length_append, List.length_singleton]
  omega

theorem ldgSubmit_refused {s : State} (hs : Rises s.regs) {m : Nat} (h : 4 ≤ inFlight s m) :
    (ldgSubmit m s).ldg = s.ldg ∧ Evented .ldgEvt 0 16 s (ldgSubmit m s) := by
  unfold ldgSubmit
  rw [if_pos h]
  exact ⟨event_ldg .., evented_event hs ..⟩

theorem ldgAck_releases {s : State} (hs : TablesRise s) {m n : Nat} (h : (mailbox s m).held = some n) :
    mailbox (ldgAck m n s) m = { mailbox s m with held := none } ∧ inFlight (ldgAck m n s) m + 1 = inFlight s m := by
  have hb : mailbox (ldgAck m n s) m = { mailbox s m with held := none } := by
    unfold ldgAck
    rw [if_pos h]
    exact mailbox_modBox hs.boxes ..
  refine ⟨hb, ?_⟩
  unfold inFlight
  rw [hb]
  dsimp only
  rw [h]
  rfl

theorem ldgAck_other {s : State} (hs : Rises s.regs) {m n : Nat} (h : (mailbox s m).held ≠ some n) :
    (ldgAck m n s).ldg = s.ldg ∧ Evented .ldgEvt 0 17 s (ldgAck m n s) := by
  unfold ldgAck
  rw [if_neg h]
  exact ⟨event_ldg .., evented_event hs ..⟩

/-- The write of a register of the mailbox block that stores nothing which the Lodge reads. -/
theorem evented_ldg_setCell {s : State} (hs : Rises s.regs) {r : Reg} {i : Nat} (hr : regExists r i 0 = true) (hn : r ≠ .ldgEvt) (w : Word) {b : Nat} {t : State}
    (h : Evented .ldgEvt 0 b (setCell r i 0 w s) t) : Evented .ldgEvt 0 b s t :=
  evented_of h (cell_setCell_other hs _ (regOff_ne at_ldg.2.1 hr fun e => hn (congrArg Prod.fst e).symm))

/-! ### What LDG_MB_STAT shows (R366, R386) -/

theorem fld_or (v w : Word) (hi lo : Nat) : fld (v ||| w) hi lo = fld v hi lo ||| fld w hi lo := by
  refine Nat.eq_of_testBit_eq fun k => ?_
  rw [Nat.testBit_or, testBit_fld, testBit_fld, testBit_fld, BitVec.getLsbD_or]
  cases decide (k < hi + 1 - lo) <;> simp

theorem fld_mkFld_same {hi lo : Nat} (h : hi < 32) (v : Nat) : fld (mkFld hi lo v) hi lo = v % 2 ^ (hi + 1 - lo) := by
  refine Nat.eq_of_testBit_eq fun k => ?_
  rw [testBit_fld, bit_mkFld, Nat.testBit_mod_two_pow]
  by_cases hk : k < hi + 1 - lo
  · simp [hk, show lo + k < 32 by omega, show lo + k ≤ hi by omega]
  · simp [hk]

theorem fld_mkFld_other {hi lo hi' lo' : Nat} (hd : hi < lo' ∨ hi' < lo) (v : Nat) : fld (mkFld hi' lo' v) hi lo = 0 := by
  refine Nat.eq_of_testBit_eq fun k => ?_
  rw [testBit_fld, bit_mkFld, Nat.zero_testBit]
  by_cases hk : k < hi + 1 - lo
  · simp [show ¬ (lo' ≤ lo + k ∧ lo + k ≤ hi') by omega]
  · simp [hk]

theorem ldgMbStat_inFlight {s : State} {m : Nat} (h : inFlight s m ≤ 4) : fld (ldgMbStatRead s m) 7 5 = inFlight s m := by
  unfold ldgMbStatRead
  dsimp only
  rw [fld_or, fld_or, fld_or, fld_mkFld_other (.inl (by decide)), fld_mkFld_other (.inl (by decide)), fld_mkFld_other (.inl (by decide)),
    fld_mkFld_same (by decide), Nat.zero_or, Nat.zero_or, Nat.zero_or]
  exact Nat.mod_eq_of_lt (by omega)

/-! ### Responses and the maximum time (R368, R374) -/

/-- R368: a completed response enters the free buffer. -/
theorem responsePlaced_enters {s : State} (hs : TablesRise s) {m : Fin 8} {n : Nat} {ws : List Word} {rest : List (Nat × List Word)}
    (hh : (mailbox s m).held = none) (hd : (mailbox s m).done = (n, ws) :: rest)
    (hp : ¬ (fld (ws.getD 0 0) 31 24 = 1 ∧ domOn s (50 + boxPort m) = false)) :
    RegsKept ((List.range 16).map fun i => (Reg.ldgRsp, m.val, i)) s (responsePlaced m s) ∧
      mailbox (responsePlaced m s) m = { mailbox s m with held := some n, done := rest } ∧ ∀ i < 16, cell (responsePlaced m s) .ldgRsp m i = ws.getD i 0 := by
  let u := modBox m (fun b => { b with done := rest, held := some n }) s
  have hu : TablesRise u := (modBox_does ..).tables hs
  let w := forN 16 (fun i t => setCell .ldgRsp m i (ws.getD i 0) t) u
  have dw : Does [.regs] u w := Does.forN (fun i t d => .step (setCell_does ..) rfl d) (.refl _ _)
  obtain ⟨-, kept, cells⟩ := forN_setCells (at_ldgRsp m) (ws.getD · 0) hu.regs
  have he : responsePlaced m s = signalPort (boxPort m) (1 + m.val % 4) w := by
    unfold responsePlaced
    dsimp only
    rw [hh, hd]
    dsimp only
    rw [if_neg fun e => hp ⟨e.1, by simpa using e.2⟩]
  have hl : (signalPort (boxPort m) (1 + m.val % 4) w).ldg = u.ldg :=
    ((signalPort_does ..).only.same .ldg (by decide)).trans (dw.only.same .ldg (by decide))
  rw [he]
  exact ⟨fun q i j hn => (cell_regs (signalPort_regs ..) ..).trans (kept q i j hn), (mailbox_of hl m).trans (mailbox_modBox hs.boxes ..),
    fun i hi => (cell_regs (signalPort_regs ..) ..).trans (cells i hi)⟩

theorem ldgOvertime_within {s : State} {m : Nat} {r : LdgRun} {cycles : Nat} (hr : (mailbox s m).run = some r) (h : cycles ≤ ldgMaximum s r ∨ r.overtime = true) :
    ldgOvertime m cycles s = s := by
  unfold ldgOvertime
  rw [hr]
  exact if_pos (by rcases h with h | h <;> simp [h])

/-- R374: a command past its maximum time is raised. -/
theorem ldgOvertime_past {s : State} (hs : TablesRise s) {m : Nat} {r : LdgRun} {cycles : Nat} (hr : (mailbox s m).run = some r)
    (h : ldgMaximum s r < cycles) (ho : r.overtime = false) :
    (mailbox (ldgOvertime m cycles s) m).run = some { r with overtime := true } ∧
      Reported Src.ldgOvertime m [w32 m, w32 r.cmd.opcode, w32 cycles] s (ldgOvertime m cycles s) ∧ Evented .ldgEvt 0 19 s (ldgOvertime m cycles s) ∧
      cell (ldgOvertime m cycles s) .ldgOvertime = incSat (cell s .ldgOvertime) 31 0 1 ∧
      RegsKept [(.ldgEvt, 0, 0), (.ldgOvertime, 0, 0)] s (ldgOvertime m cycles s) := by
  obtain ⟨-, he, ho'⟩ := at_ldg
  have ne : regOff .ldgOvertime ≠ regOff .ldgEvt := regOff_ne ho' he nofun
  let u := modBox m (fun b => { b with run := some { r with overtime := true } }) s
  let v := count .ldgOvertime 0 31 0 1 u
  have hv : Rises v.regs := rises_count (s := u) hs.regs ..
  have hq : ldgOvertime m cycles s = raise Src.ldgOvertime m [w32 m, w32 r.cmd.opcode, w32 cycles] (event .ldgEvt 0 19 v) := by
    unfold ldgOvertime
    rw [hr]
    exact if_neg (by simp [ho, h])
  rw [hq]
  refine ⟨?_, reported_raise (event_btr ..), (evented_of (evented_event hv .ldgEvt 0 19) (cell_setCell_other (s := u) hs.regs _ ne.symm)).keep rfl,
    (cell_event_other hv _ _ _ ne).trans (cell_count (s := u) hs.regs ..), fun q i j hn => ?_⟩
  · have hl : (event .ldgEvt 0 19 v).ldg = u.ldg := event_ldg ..
    exact congrArg Mailbox.run ((mailbox_of hl m).trans (mailbox_modBox hs.boxes m _))
  · exact (cell_event_other hv _ _ _ (hn _ (.head _))).trans (cell_setCell_other (s := u) hs.regs _ (hn _ (.tail _ (.head _))))

/-! ### Command rows (R367, R371, R372) -/

theorem startable_run {s : State} {m : Nat} {x : LdgCmd} (h : startable s m = some x) : (mailbox s m).run = none := by
  unfold startable at h
  dsimp only at h
  split at h
  · assumption
  · exact nomatch h

theorem unknownOpcode_answered {s : State} (hs : TablesRise s) {m : Nat} {x : LdgCmd} (hx : startable s m = some x) (hn : x.opcode ∉ knownOpcodes) :
    unknownOpcode m s = ldgAtOnce m x 1 0 [] s ∧ Answered m x 1 0 [] s (ldgAtOnce m x 1 0 [] s) := by
  refine ⟨?_, ldgAtOnce_answered hs (startable_run hx) ..⟩
  unfold unknownOpcode
  rw [hx]
  exact if_neg fun h => hn (List.contains_iff_mem.1 h)

/-- What each command row does: the row of its mailbox and opcode, whose start checks the unused bits first. -/
theorem commandRow_row {c : Instr} {m : Fin 8} {op : Nat} (h : commandRow c = some (m, op)) :
    ∃ (start : LdgCmd → State → State) (goOn : LdgRun → State → State), (∀ s, exec c s = upNext (lodgeRow op m start goOn) s) ∧
      ∀ x s, unusedZero x = false → start x s = ldgAtOnce m x 2 0 [] s := by
  unfold commandRow at h
  split at h
  all_goals cases h
  all_goals refine ⟨_, _, fun _ => rfl, fun x s hz => ?_⟩
  all_goals simp only [powerSetStart, powerQueryStart, partnerBindStart, partnerConfigStart, laneTrainStart, delayMeasureStart, loadStart, calSwapStart,
    domainSelectStart, engineMigrateStart, streamMoveStart, jobStart, retireAddStart, retireListStart, scrubSetStart, gaugeSelfcalStart, plbReadStart,
    cnsReadStart, cnsClearStart, faultAckBulkStart, diagLoopStart, ldgChecks_unused hz]

/-- Settles O28: what submissions, responses, acknowledgements and the common checks of command rows do. -/
theorem mailboxProtocol : Obligations.MailboxProtocol := by
  unfold Obligations.MailboxProtocol
  refine ⟨fun m s hu hs => ?_, fun c m op s hc hu => ?_⟩
  · obtain ⟨hsub, hack, hcmd⟩ := at_mailbox m
    refine ⟨fun p w hm hb => ?_, ldgMbStat_inFlight, fun p w hm => ?_, fun n ws rest hh hd hp => ?_, fun r cycles hr hc => ?_, fun r cycles hr hc => ?_,
      fun x hx hn => ?_⟩
    · let u := setCell .ldgMbSubmit m 0 (mergeMask (storeMask .ldgMbSubmit) (cell s .ldgMbSubmit m) w) s
      have hs' : TablesRise u := (setCell_does ..).tables hs
      refine ⟨ldgSubmit m u, (hostRow_may hm (at_ldgMbSubmit m)).trans (congrArg _ ?_), fun hi => ?_, fun hi => ?_⟩
      · rw [writeReg_plain (by decide) (by decide) (by decide)]
        exact if_pos hb
      · have words : (List.range 16).map (fun i => cell u .ldgCmd m i) = (List.range 16).map (fun i => cell s .ldgCmd m i) :=
          List.map_congr_left fun i hi => cell_setCell_other hs.regs _ (regOff_ne (hcmd ⟨i, List.mem_range.1 hi⟩) hsub nofun)
        obtain ⟨h1, h2, h3, h4, h5⟩ := ldgSubmit_joins (s := u) hs' hi rfl
        rw [words] at h4
        exact ⟨h1, h2, h3, h4, h5⟩
      · obtain ⟨h1, h2⟩ := ldgSubmit_refused (s := u) hs'.regs hi
        exact ⟨h1, evented_ldg_setCell hs.regs hsub nofun _ h2⟩
    · let u := setCell .ldgMbAck m 0 (mergeMask (storeMask .ldgMbAck) (cell s .ldgMbAck m) w) s
      have hs' : TablesRise u := (setCell_does ..).tables hs
      refine ⟨ldgAck m (fld w 15 0) u, (hostRow_may hm (at_ldgMbAck m)).trans (congrArg _ ?_), fun hh => ldgAck_releases (s := u) hs' hh, fun hh => ?_⟩
      · rw [writeReg_plain (by decide) (by decide) (by decide)]
        rfl
      · obtain ⟨h1, h2⟩ := ldgAck_other (s := u) hs'.regs hh
        exact ⟨h1, evented_ldg_setCell hs.regs hack nofun _ h2⟩
    · exact ⟨_, upNext_up hu, (responsePlaced_does ..).only, responsePlaced_enters hs hh hd hp⟩
    · exact (upNext_up hu).trans (congrArg _ (ldgOvertime_within hr (.inl hc)))
    · refine ⟨_, upNext_up hu, ?_⟩
      cases ho : r.overtime with
      | true =>
        rw [ldgOvertime_within hr (.inr ho)]
        refine ⟨by rw [hr, ← ho], fun _ => rfl, nofun⟩
      | false =>
        obtain ⟨h1, h2⟩ := ldgOvertime_past hs hr hc ho
        rw [show w32 cycles.toNat = cycles by simp [w32]] at h2
        exact ⟨h1, nofun, fun _ => h2⟩
    · obtain ⟨h1, h2⟩ := unknownOpcode_answered hs hx hn
      refine ⟨_, (upNext_up hu).trans (congrArg _ h1), (ldgAtOnce_does ..).only, ldgAtOnce_regs hs m x 1 0 [], h2⟩
  · obtain ⟨start, goOn, he, hz⟩ := commandRow_row hc
    rw [he, upNext_up hu]
    refine ⟨fun hr hx => ?_, fun r hr hn => ?_, fun x hs hr hx ho hz' => ?_⟩
    · rw [lodgeRow_idle hr hx]
    · rw [lodgeRow_goes hr, if_neg hn]
    · refine ⟨_, rfl, ?_⟩
      rw [lodgeRow_starts hr hx, if_pos ho, hz x s hz']
      exact ⟨ldgAtOnce_answered hs hr .., (ldgAtOnce_does ..).only⟩

end Sys2Proof.Machine
end

section
/-!
SUPPORT. Power, binding, configuration, training and delay commands (R380, R110, R108, R83, R57), and the statement on them settled.
-/
namespace Sys2Proof.Machine

/-! ### A command that starts and completes in one step (R371) -/

theorem Started.answered {m : Nat} {x : LdgCmd} {w : LdgWait} {s u : State} (h : Started m x w s u) (hs : TablesRise u) (status detail : Nat)
    (res : List Word) (hb : u.btr = s.btr) : Answered m x status detail res s (ldgComplete m status detail res u) := by
  obtain ⟨h1, h2, h3⟩ := h
  obtain ⟨g1, g2, g3, g4⟩ := ldgComplete_completed hs h1 status detail res
  have : cyclesSince (nowStamp s) (nowStamp u) = 0 := by
    rw [nowStamp_btr hb]
    exact Nat.sub_self _
  exact ⟨by rw [g1, h3, this], g3.trans h2, g2, fun hn => (g4 hn).from hb⟩

/-! ### POWER_SET (R380) -/

theorem powerDom_of {s t : State} (h : t.pwr = s.pwr) (n : Nat) : powerDom t n = powerDom s n := by
  unfold powerDom
  rw [h]

theorem domStands_of {s t : State} (h : t.pwr = s.pwr) (n : Nat) (p : PowerPhase) : domStands t n p = domStands s n p := by
  unfold domStands powerDom
  rw [h]

theorem powerDom_modDomain {s : State} (hs : Rises s.pwr.domains) (n : Nat) (f : PowerDomain → PowerDomain) :
    powerDom (modDomain n f s) n = f (powerDom s n) := smGet_upd_rises hs ..

/-- R380: domains that stand in the state are passed over. -/
theorem powerNext_skips {s : State} {to_ : PowerPhase} {pre : List Nat} (h : ∀ k ∈ pre, domStands s k to_ = true) (m : Nat) (failed named changed l : List Nat) :
    powerNext m to_ failed named changed (pre ++ l) s = powerNext m to_ failed named changed l s := by
  induction pre with
  | nil => rfl
  | cons k pre ih =>
    have hk := h k (.head _)
    rw [List.cons_append, powerNext, if_pos hk, ih fun j hj => h j (.tail _ hj)]

theorem powerNext_begins {s : State} {to_ : PowerPhase} {n : Nat} (h : domStands s n to_ = false) (m : Nat) (failed named changed l : List Nat) :
    powerNext m to_ failed named changed (n :: l) s = setWait m (.power to_ (n :: l) failed named changed) (domainStart n to_ s) := by
  rw [powerNext, if_neg (by rw [h]; decide)]

theorem domainStart_goal {s : State} (hs : TablesRise s) {to_ : PowerPhase} {n : Nat} (h : domStands s n to_ = false) :
    (powerDom (domainStart n to_ s) n).goal = some to_ := by
  unfold domainStart
  dsimp only
  unfold domStands at h
  rw [if_neg (by rw [h]; decide)]
  rw [powerDom_of ((stacksFollow_does ..).only.same .pwr (by decide))]
  have hg : (powerDom (modDomain n (fun x => { x with goal := some to_ }) s) n).goal = some to_ := by
    rw [powerDom_modDomain hs.domains]
  split
  · rwa [powerDom_of ((domainLeave_does ..).only.same .pwr (by decide))]
  · exact hg

/-- The words that a response carries of a result with zeros after it. -/
theorem response_zeros (x : LdgCmd) (status detail time : Nat) (l : List Nat) :
    response x status detail time (bitWords 3 l ++ bitWords 3 []) = response x status detail time (bitWords 3 l) := rfl

theorem PowerPhase.eq_of_code {p : PowerPhase} {k : Nat} (h : k = p.code) :
    (k == 3) = false ∧ (if k = 0 then PowerPhase.off else if k = 1 then .hold else .on) = p := by
  subst h
  cases p <;> exact ⟨rfl, rfl⟩

/-- R380: a POWER_SET leaves a host port ON. -/
abbrev portStays (s : State) (x : LdgCmd) (to_ : PowerPhase) : Bool := [50, 51].any (fun n => if x.powerNamed.contains n then to_ == .on else domOn s n)

/-- POWER_SET as it runs once it may start. -/
theorem powerSet_runs {m : Fin 8} {x : LdgCmd} {s : State} (h : Ready m 0x01 x s) {to_ : PowerPhase} (hc : fld (x.w 1) 1 0 = to_.code) :
    exec (.powerSet m) s = .next (if !portStays s x to_ then ldgAtOnce m x 5 1 [] s
      else powerNext m to_ [] x.powerNamed (x.powerNamed.filter (fun n => !domStands s n to_)) x.powerNamed
        (ldgRun m x (.power to_ x.powerNamed [] x.powerNamed (x.powerNamed.filter (fun n => !domStands s n to_))) s)) := by
  obtain ⟨hb, hp⟩ := PowerPhase.eq_of_code hc
  refine (h.row _ _).trans ?_
  rw [powerSetStart]
  dsimp only
  rw [hp]
  exact congrArg _ (h.checks hb rfl _)

/-! ### PARTNER_BIND (R110) -/

/-- R110: a binding that is not refused is of a lane that has a record. -/
theorem bindRefusal_record {s : State} {p f n : Nat} (h : bindRefusal s p f n = 0) : (lane s f).record.isSome = true := by
  by_contra hn
  have hw : (!((lane s f).phase == .exchange && (lane s f).waitBind && (lane s f).record.isSome && recLaneIndex (((lane s f).record.map (·.1)).getD 0) == 0)) = true := by
    rw [Bool.eq_false_iff.2 hn]
    simp
  unfold bindRefusal at h
  dsimp only at h
  rw [if_pos hw] at h
  split_ifs at h

/-! ### PARTNER_CONFIG (R108) -/

/-- A partner whose transaction `tx` with TAG `k` waits to be sent. -/
def Partner.asks (tx : CfgTx) (k : Nat) (y : Partner) : Partner := { y with cfg := some tx, cfgDone := none, nextTag := (k + 1) % 16 }

theorem asked_partner {s : State} (h : Rises s.partners) (m : Nat) (x : LdgCmd) (p : Nat) (tx : CfgTx) (k : Nat) :
    partner (ldgRun m x (.config p) (modPartner p (.asks tx k) s)) p = .asks tx k (partner s p) := partner_modPartner h ..

/-! ### LANE_TRAIN (R83) -/

/-- R116: an account entry changes no entry of a lane's events, whatever its group. -/
theorem addAccount_laneEvt {s : State} (hs : TablesRise s) (g : Nat) (x : Account) (l : Nat) :
    cell (addAccount g x s) .bedLaneEvt l = cell s .bedLaneEvt l := by
  have hne : regOff .bedLaneEvt l ≠ regOff .bedAcctStat g := by
    simp only [regOff, Reg.place]
    omega
  unfold addAccount
  dsimp only
  split
  · rfl
  · split
    · rfl
    · split
      · exact cell_setCell_other hs.regs _ hne
      · split
        · rfl
        · exact cell_setCell_other hs.regs _ hne

theorem openLossAccount_laneEvt {s : State} (hs : TablesRise s) (l c : Nat) : cell (openLossAccount l c s) .bedLaneEvt l = cell s .bedLaneEvt l := by
  unfold openLossAccount
  split
  · split
    · dsimp only
      split
      · rfl
      · exact addAccount_laneEvt hs ..
    · rfl
  · rfl

/-- R80, R83: a lane that leaves ACTIVE for LANE_TRAIN, in the order of its effects. -/
theorem leaveActive_trains {s : State} (hs : TablesRise s) (l : Nat) :
    (lane (leaveActive l 4 s) l).lostCause = 4 ∧ Evented .bedLaneEvt l 17 s (leaveActive l 4 s) := by
  let f : Lane → Lane := fun x => { x with lostCause := 4, noData := false, checkFrom := none }
  let u := modLane l f (delayMeasureLost l s)
  have d := delayMeasureLost_does l s
  have tu : TablesRise u := (modLane_does l f _).tables (d.tables hs)
  have hr : u.regs = s.regs := d.only.same .regs (by decide)
  have he : leaveActive l 4 s = openLossAccount l 4 (event .bedLaneEvt l 17 u) := by
    unfold leaveActive
    exact if_neg (by decide)
  rw [he]
  constructor
  · have h1 : (openLossAccount l 4 (event .bedLaneEvt l 17 u)).lanes = u.lanes := ((openLossAccount_does ..).only.same .lanes (by decide)).trans (event_lanes ..)
    rw [lane_of h1, lane_modLane (d.tables hs).lanes]
  · have h1 : Evented .bedLaneEvt l 17 s (event .bedLaneEvt l 17 u) := evented_of (evented_event tu.regs ..) (cell_regs hr ..)
    unfold Evented at h1 ⊢
    rw [← h1]
    exact openLossAccount_laneEvt ((event_does ..).tables tu) ..

theorem enterTrain_trains {s : State} (hs : TablesRise s) (l : Nat) :
    (lane (enterTrain l s) l).phase = .train ∧ (lane (enterTrain l s) l).lostCause = (lane s l).lostCause ∧ (enterTrain l s).regs = s.regs := by
  obtain ⟨f, hf⟩ : ∃ f : Lane → Lane, f = fun x => { x with
    phase := .train, warm := x.tapsHeld, cdr := false, sync := false, waitBind := false, run := 0, adapting := true } := ⟨_, rfl⟩
  have h : (enterTrain l s).lanes = (modLane l f s).lanes := by
    rw [hf]
    exact (restartDue_does ..).only.same .lanes (by decide)
  rw [lane_of h, lane_modLane hs.lanes, hf]
  exact ⟨rfl, rfl, (enterTrain_does ..).only.same .regs (by decide)⟩

/-- LANE_TRAIN of one lane. -/
theorem laneTrain_runs {m : Fin 8} {x : LdgCmd} {s : State} (h : Ready m 0x12 x s) {l : Nat} (hl : x.lanesNamed = [l]) {y : State × Bool}
    (hy : (if bit (x.w 1) 0 then laneRelease l s else laneRetrain l s) = y) :
    exec (.laneTrain m) s = .next (ldgAtOnce m x 0 0 (bitWords 8 (if y.2 then [l] else [])) y.1) := by
  refine (h.row _ _).trans ?_
  rw [laneTrainStart, h.checks rfl rfl]
  have hl' : (List.range 8).flatMap (fun i => wordBits (x.w (2 + i)) (32 * i)) = [l] := hl
  dsimp only
  rw [hl', List.foldl_cons, List.foldl_nil]
  dsimp only
  rw [hy]
  rfl

theorem ldgAtOnce_lane (m : Nat) (x : LdgCmd) (status detail : Nat) (res : List Word) (s : State) (l : Nat) :
    lane (ldgAtOnce m x status detail res s) l = lane s l := lane_of ((ldgAtOnce_does ..).only.same .lanes (by decide)) l

/-- The answer of a command that has changed other parts than mailboxes and clock. -/
theorem ldgAtOnce_answers {zs : List Zone} {s u : State} (hd : Does zs s u) (hl : Zone.ldg ∉ zs) (hb : Zone.btr ∉ zs) (hs : TablesRise s) {m : Nat}
    (hr : (mailbox s m).run = none) (x : LdgCmd) (status detail : Nat) (res : List Word) :
    Answered m x status detail res s (ldgAtOnce m x status detail res u) := by
  have h1 : mailbox u m = mailbox s m := mailbox_of (hd.only.same .ldg hl) m
  exact (ldgAtOnce_answered (hd.tables hs) (h1 ▸ hr) ..).from h1 (hd.only.same .btr hb)

/-! ### DELAY_MEASURE (R57, R378, R379) -/

theorem startMeasure_begins {s : State} (hs : TablesRise s) (hm : Rises s.quo.measured) {p l : Nat} (hl : firstLane s p = some l)
    (ha : (lane s l).phase = .active) :
    smFind (startMeasure p s).quo.rounds p = some [] ∧ (downlink (startMeasure p s) p).marker = some 0 ∧ smFind (startMeasure p s).quo.measured p = none := by
  unfold startMeasure
  rw [hl]
  dsimp only
  rw [ha, if_pos (show (LanePhase.active == .active) = true from rfl)]
  refine ⟨(smFind_insert ..).trans (if_pos rfl), ?_, (smFind_erase hm p p).trans (if_pos rfl)⟩
  rw [downlink_modDl (by exact hs.downlinks)]

theorem abandonMeasure_none {s : State} {p : Nat} (h : smFind s.quo.rounds p = none) : abandonMeasure p s = s := by
  unfold abandonMeasure
  rw [h]
  rfl

theorem forL_id {α σ : Type} {l : List α} {f : α → σ → σ} {s : σ} (h : ∀ a ∈ l, f a s = s) : forL l f s = s := by
  unfold forL
  induction l with
  | nil => rfl
  | cons a l ih => rw [List.foldl_cons, h a (.head _), ih fun b hb => h b (.tail _ hb)]

/-- R378: a DELAY_MEASURE with no measurement under way is only judged. -/
theorem delayMeasureGoes_checks {s : State} (m : Nat) {r : LdgRun} {named : List Nat} (hw : r.wait = .measure named)
    (h : ∀ p ∈ named, smFind s.quo.rounds p = none) : delayMeasureGoes m r s = measureCheck m s := by
  unfold delayMeasureGoes
  rw [hw]
  have h0 : named.any (measureOff s) = false := by
    rw [List.any_eq_false]
    intro p hp
    unfold measureOff
    rw [h p hp]
    exact Bool.false_ne_true
  dsimp only
  rw [if_neg (by rw [h0]; decide), forL_id fun p hp => abandonMeasure_none (h p hp), ite_self]

/-- Settles O29. -/
theorem powerAndBedCommands : Obligations.PowerAndBedCommands := by
  unfold Obligations.PowerAndBedCommands
  refine ⟨⟨fun m x s h => ⟨_, (h.row _ _).trans (congrArg _ (h.checks rfl rfl _)), ldgAtOnce_answered h.tables h.run .., ldgAtOnce_regs h.tables m x 0 0 _,
    (ldgAtOnce_does ..).only⟩, fun m x to_ s h hc => ?_⟩, fun m x s => ⟨fun h p hp => ?_, fun h p op hp hop ho hon => ?_, fun h l hl hb hon hi => ?_,
      fun h l hl hb hon hq => ?_, fun h hon p l hp hl ha hr hm => ?_⟩, fun m r named bad s hu hs hr hw hop he hbad => ?_⟩
  · refine ⟨fun hst => ?_, fun hst => ?_⟩
    · rw [powerSet_runs h hc, if_pos (by rw [portStays, hst]; rfl)]
      exact ⟨_, rfl, ldgAtOnce_answered h.tables h.run .., (ldgAtOnce_does ..).only⟩
    · rw [powerSet_runs h hc, if_neg (by rw [portStays, hst]; decide)]
      generalize hu : ldgRun m x _ s = u
      have su : Started m x (.power to_ x.powerNamed [] x.powerNamed (x.powerNamed.filter (fun n => !domStands s n to_))) s u := hu ▸ ldgRun_started h.tables.boxes ..
      have tu : TablesRise u := hu ▸ (ldgRun_does ..).tables h.tables
      have hp : u.pwr = s.pwr := by rw [← hu]; rfl
      have hb : u.btr = s.btr := by rw [← hu]; rfl
      refine ⟨fun hall => ⟨_, rfl, ?_⟩, fun pre n rest hn hpre hno => ⟨_, rfl, ?_⟩⟩
      · have := powerNext_skips (s := u) (to_ := to_) (pre := x.powerNamed) (fun k hk => (domStands_of hp k to_).trans (hall k hk)) m [] x.powerNamed
          (x.powerNamed.filter (fun n => !domStands s n to_)) []
        rw [List.append_nil] at this
        rw [this, powerNext, List.filter_eq_self.2 fun k hk => (domStands_of hp k to_).trans (hall k hk)]
        obtain ⟨g1, g2⟩ := su.answered tu 0 0 (bitWords 3 x.powerNamed ++ bitWords 3 []) hb
        exact ⟨g1, g2⟩
      · have hno' := (domStands_of hp n to_).trans hno
        obtain ⟨named, hnamed⟩ : ∃ named, named = x.powerNamed := ⟨_, rfl⟩
        rw [← hnamed] at hn su ⊢
        have := powerNext_skips (fun k hk => (domStands_of hp k to_).trans (hpre k hk)) m [] named
          (named.filter (fun n => !domStands s n to_)) (n :: rest)
        rw [← hn, powerNext_begins hno'] at this
        rw [this]
        have dd := domainStart_does n to_ u
        refine ⟨(su.keep (mailbox_of (dd.only.same .ldg (by decide)) m)).wait (dd.tables tu).boxes _, ?_⟩
        exact domainStart_goal tu hno'
  · subst hp
    have row := h.row (partnerBindStart m) (fun _ t => t)
    rw [partnerBindStart, h.checks rfl rfl] at row
    refine ⟨fun hb hr => ?_, fun hb hr => ?_, fun hb r hr hn => ?_, fun hb hr => ?_⟩
    · rw [if_pos hb, if_pos hr] at row
      exact ⟨_, row, ldgAtOnce_answered h.tables h.run ..⟩
    · rw [if_pos hb, if_neg (by rw [hr]; decide)] at row
      exact ⟨_, row, ldgRun_started (by exact h.tables.boxes) .., rfl⟩
    · rw [if_neg (by rw [hb]; decide), hr, if_pos hn] at row
      exact ⟨_, row, ldgAtOnce_answered h.tables h.run ..⟩
    · rw [if_neg (by rw [hb]; decide), hr, if_neg (by decide)] at row
      refine ⟨_, _, row, ldgRun_started (by exact h.tables.boxes) .., rfl, rfl, rfl, ?_⟩
      have hsome : (lane s (fld (x.w 1) 15 8)).record.isSome = true := bindRefusal_record hr
      obtain ⟨y, hy⟩ := Option.isSome_iff_exists.1 hsome
      dsimp only
      rw [hy]
      rfl
  · subst hp hop
    have row := h.row (partnerConfigStart m) (partnerConfigGoes m)
    rw [partnerConfigStart, h.checks (by rcases ho with e | e <;> rw [e] <;> rfl) (by rw [hon]; rfl)] at row
    refine ⟨fun l hl ha => ?_, fun hno => ?_⟩
    · rw [hl] at row
      dsimp only at row
      rw [ha, if_pos (show (LanePhase.active == .active) = true from rfl)] at row
      refine ⟨_, row, ldgRun_started (by exact h.tables.boxes) .., ?_, ?_⟩
      · exact congrArg Partner.nextTag (asked_partner h.tables.partners ..)
      · refine (congrArg Partner.cfg (asked_partner h.tables.partners ..)).trans ?_
        dsimp only [Partner.asks]
        rcases ho with e | e <;> rw [e] <;> rfl
    · refine ⟨_, row, ?_⟩
      split
      · next l hl =>
        rw [if_neg (by simpa using hno l hl)]
        exact ldgAtOnce_answered h.tables h.run ..
      · exact ldgAtOnce_answered h.tables h.run ..
  · have hcond : ¬ ((!domOn s (l / 8) || isIsolated s (.bedGroup (l / 8))) = true) := by rw [hon, hi]; decide
    refine ⟨fun ha hn => ?_, fun hq => ?_⟩
    · let u := beforeLeave l (causeRank 4 false) false s
      let v := leaveActive l 4 u
      have hy : (if bit (x.w 1) 0 then laneRelease l s else laneRetrain l s) = (enterTrain l v, true) := by
        rw [if_neg (by rw [hb]; decide), laneRetrain, if_neg hcond, ha]
      have du := beforeLeave_does l (causeRank 4 false) false s
      have dv := leaveActive_does l 4 u
      have dt : Does [.regs, .flt, .port0, .port1, .quo, .lanes, .downlinks, .groups] s (enterTrain l v) :=
        (enterTrain_does ..).step rfl (.step dv rfl (.step du rfl (.refl _ _)))
      have tu := du.tables h.tables
      obtain ⟨v1, v2⟩ := leaveActive_trains tu l
      obtain ⟨t1, t2, t3⟩ := enterTrain_trains (dv.tables tu) l
      have hru : u.regs = s.regs := (congrArg State.regs (beforeLeave_first hn) :)
      refine ⟨_, laneTrain_runs h hl hy, ldgAtOnce_answers dt (by decide) (by decide) h.tables h.run .., (congrArg Lane.phase (ldgAtOnce_lane ..)).trans t1,
        (congrArg Lane.lostCause (ldgAtOnce_lane ..)).trans (t2.trans v1), ?_⟩
      have he : Evented .bedLaneEvt l 17 s v := evented_of v2 (cell_regs hru ..)
      have hl' : l < 256 := by
        have : l ∈ x.lanesNamed := hl ▸ .head _
        unfold LdgCmd.lanesNamed wordBits at this
        simp only [List.mem_flatMap, List.mem_range, List.mem_map, List.mem_filter] at this
        obtain ⟨i, hi, b, ⟨hb, -⟩, rfl⟩ := this
        omega
      unfold Evented at he ⊢
      rw [← he, ← cell_regs t3 .bedLaneEvt l]
      refine ldgAtOnce_regs (dt.tables h.tables) _ _ _ _ _ .bedLaneEvt l 0 fun z hz => ?_
      have hx := (at_lane ⟨l, hl'⟩).1
      simp only [ldgCells, List.mem_cons, List.not_mem_nil, or_false] at hz
      rcases hz with rfl | rfl
      · exact regOff_ne hx at_ldg.1 nofun
      · exact regOff_ne hx at_ldg.2.1 nofun
    · have hy : (if bit (x.w 1) 0 then laneRelease l s else laneRetrain l s) = (s, false) := by
        rw [if_neg (by rw [hb]; decide), laneRetrain, if_neg hcond]
        rcases hq with e | e <;> rw [e]
      exact ⟨_, laneTrain_runs h hl hy, ldgAtOnce_answered h.tables h.run .., ldgAtOnce_lane ..⟩
  · have hy : (if bit (x.w 1) 0 then laneRelease l s else laneRetrain l s) = (enterTrain l s, true) := by
      rw [if_pos hb, laneRelease, hq, hon]
      rfl
    exact ⟨_, laneTrain_runs h hl hy, ldgAtOnce_answers (enterTrain_does l s) (by decide) (by decide) h.tables h.run ..,
      (congrArg Lane.phase (ldgAtOnce_lane ..)).trans (enterTrain_trains h.tables l).1⟩
  · have row := h.row (delayMeasureStart m) (delayMeasureGoes m)
    have hoff : anyOff s (x.measured.map dlDomain) = false := by
      unfold anyOff
      rw [List.any_eq_false]
      intro n hn
      obtain ⟨q, hq, rfl⟩ := List.mem_map.1 hn
      rw [hon q hq]
      decide
    rw [delayMeasureStart] at row
    rw [h.checks rfl hoff, hp] at row
    let u := ldgRun m x (.measure [p]) s
    have su : Started m x (.measure [p]) s u := ldgRun_started h.tables.boxes ..
    have tu : TablesRise u := (ldgRun_does ..).tables h.tables
    have dv := startMeasure_does p u
    obtain ⟨v1, v2, v3⟩ := startMeasure_begins tu (by exact hm) (p := p) (l := l) hl ha
    have sv := su.keep (mailbox_of (dv.only.same .ldg (by decide)) m)
    have hwait : measureCheck m (startMeasure p u) = startMeasure p u := measureCheck_waits fun y named hy hw => by
      rw [sv.1] at hy
      cases hy
      cases hw
      refine ⟨p, .head _, ?_⟩
      unfold measureEnded
      rw [v3]
    exact ⟨_, row.trans (congrArg _ hwait), sv, v1, v2⟩
  · refine ⟨_, (upNext_up hu).trans (congrArg _ (((lodgeRow_goes hr _ _).trans (if_pos hop)).trans ((delayMeasureGoes_checks m hw fun p hp => (he p hp).2).trans
      (measureCheck_ends hr hw fun p hp => (he p hp).1)))), fun p hp hin => ?_, ?_⟩
    · rw [(ldgComplete_does ..).only.same .quo (by decide)] at hin
      obtain ⟨e, he', rfl⟩ := List.mem_map.1 hin
      have := (List.mem_filter.1 he').2
      rw [List.contains_iff_mem.2 hp] at this
      cases this
    · rw [← hbad]
      have hc : Completed m r (measureStatus named bad) bad.length (measureResults s named) s
          (ldgComplete m (measureStatus named bad) bad.length (measureResults s named) (measureDrop named s)) :=
        (ldgComplete_completed (s := measureDrop named s) ((measureDrop_does ..).tables hs) (m := m) (r := r) hr ..).from rfl rfl
      obtain ⟨s0, s5, sB⟩ := measureStatus_eq hbad
      refine ⟨fun h => ?_, fun h h' => s5 h h' ▸ hc, fun h h' => sB h h' ▸ hc⟩
      rw [s0 h, h] at hc
      rw [h]
      exact hc

end Sys2Proof.Machine
end

section
/-!
SUPPORT. Table blocks under loads (R128, R129, R325), the moves that wait for the tick (R51, R130, R140, R270), and the statement on both settled.
-/
namespace Sys2Proof.Machine

/-! ### Table blocks (R325) -/

theorem MemoryWf.sramRises {s : State} (h : MemoryWf s) : Rises s.sram := ((smWf_iff ..).1 h.sram).1

theorem tblock_of {s t : State} (h : t.sram = s.sram) (g b : Nat) : tblock t g b = tblock s g b := by unfold tblock; rw [h]

theorem tblock_setTblock {s : State} (h : MemoryWf s) (g b : Nat) (x : SramBlock) (c : Nat) :
    tblock (setTblock g b x s) g c = if c = b then x else tblock s g c := by
  refine (smGet_put_rises h.sramRises _ _ _ _ fun _ => rfl).trans ?_
  by_cases e : c = b
  · rw [if_pos e, e, if_pos rfl]
  · rw [if_neg e, if_neg (by omega)]
    rfl

/-- A block in another state. -/
def SramBlock.to_ (ph : BlockPhase) (x : SramBlock) : SramBlock := { x with phase := ph }

/-- A block marked WRITING. -/
def markWriting (g b : Nat) (t : State) : State := setTblock g b ((tblock t g b).to_ .writing) t

theorem markWriting_phase {g : Nat} {bs : List Nat} : ∀ {s : State}, MemoryWf s → ∀ {b : Nat}, b ∈ bs ∨ (tblock s g b).phase = .writing →
    (tblock (forL bs (markWriting g) s) g b).phase = .writing := by
  induction bs with
  | nil => exact fun _ _ h => h.resolve_left List.not_mem_nil
  | cons c bs ih =>
    intro s hm b h
    rw [forL_cons]
    have hp : tblock (markWriting g c s) g b = if b = c then (tblock s g c).to_ .writing else tblock s g b := tblock_setTblock hm ..
    refine ih (show MemoryWf (markWriting g c s) from (setTblock_does ..).mem hm) ?_
    rw [hp]
    by_cases e : b = c
    · exact .inr (by rw [if_pos e]; rfl)
    · rw [if_neg e]
      exact h.imp (fun h => (List.mem_cons.1 h).resolve_left e) id

theorem pieceBegin_piece {l : LoadRun} {k : Nat} {rest : List Nat} (h : l.todo = k :: rest) (s : State) :
    (pieceBegin l s).2 = forL (pieceBlocks k) (markWriting l.group) s ∧ (pieceBegin l s).1.group = l.group ∧ (pieceBegin l s).1.first = l.first ∧
      (pieceBegin l s).1.todo = l.todo ∧ (pieceBegin l s).1.entries = l.entries ∧ (pieceBegin l s).1.granules = l.granules := by
  have he : pieceBegin l s = ({ l with kept := (pieceBlocks k).map (fun b => (b, (tblock s l.group b).phase)) },
      forL (pieceBlocks k) (markWriting l.group) s) := by
    unfold pieceBegin
    rw [h]
    rfl
  refine ⟨?_, ?_, ?_, ?_, ?_, ?_⟩ <;> rw [he]

theorem pieceBegin_writing {l : LoadRun} {k : Nat} {rest : List Nat} (h : l.todo = k :: rest) {s : State} (hm : MemoryWf s) {b : Nat} (hb : b ∈ pieceBlocks k) :
    (tblock (pieceBegin l s).2 l.group b).phase = .writing := by
  rw [(pieceBegin_piece h s).1]
  exact markWriting_phase hm (.inl hb)

/-- What a block is after the blocks of a piece have been given back what they were. -/
theorem pieceKept_phase {g b : Nat} {ph : BlockPhase} (hn : ph ≠ .writing) {kept : List (Nat × BlockPhase)} : ∀ {s : State}, MemoryWf s →
    ph = (if (tblock s g b).phase = .writing then ((kept.find? (fun e => e.1 == b)).map (·.2)).getD .writing else (tblock s g b).phase) →
    (tblock (forL kept (pieceKept g) s) g b).phase = ph := by
  induction kept with
  | nil =>
    intro s _ h
    by_cases hw : (tblock s g b).phase = .writing
    · rw [if_pos hw] at h
      exact absurd h hn
    · rw [if_neg hw] at h
      exact h.symm
  | cons e kept ih =>
    obtain ⟨c, q⟩ := e
    intro s hm h
    rw [forL_cons]
    have hm' : MemoryWf (pieceKept g (c, q) s) := (pieceKept_does ..).mem hm
    refine ih hm' ?_
    have hp : (tblock (pieceKept g (c, q) s) g b).phase = if b = c ∧ (tblock s g b).phase = .writing then q else (tblock s g b).phase := by
      unfold pieceKept
      dsimp only
      by_cases hc : ((tblock s g c).phase == .writing) = true
      · rw [if_pos hc, tblock_setTblock hm]
        by_cases e : b = c
        · subst e
          rw [if_pos rfl, if_pos ⟨rfl, eq_of_beq hc⟩]
        · rw [if_neg e, if_neg fun h => e h.1]
      · rw [if_neg hc, if_neg]
        rintro ⟨rfl, hw⟩
        exact hc (by rw [hw]; rfl)
    by_cases e : b = c
    · subst e
      by_cases hw : (tblock s g b).phase = .writing
      · rw [if_pos hw] at h
        rw [List.find?_cons_of_pos (by simp)] at h
        have hq : ph = q := h
        rw [if_pos ⟨rfl, hw⟩] at hp
        rw [hp, if_neg (hq ▸ hn)]
        exact hq
      · rw [if_neg fun h => hw h.2] at hp
        rw [hp, if_neg hw]
        rwa [if_neg hw] at h
    · rw [if_neg fun h => e h.1] at hp
      rw [hp]
      rwa [List.find?_cons_of_neg (by simpa using Ne.symm e)] at h

/-! ### A block of a load (R128, R331) -/

theorem injectInto_keeps (mem inst : Nat) (x : SramBlock) (s : State) : (injectInto mem inst x s).1.phase = x.phase ∧ (injectInto mem inst x s).2.sram = s.sram := by
  have hflip (n : Nat) (y : SramBlock) : (if n < 64 then { y with data := y.data ^^^ (1 <<< n) } else { y with check := y.check ^^^ (1 <<< (n - 64)) }).phase = y.phase := by
    split <;> rfl
  unfold injectInto
  split
  · split
    · refine ⟨?_, rfl⟩
      dsimp only
      split
      · exact (hflip ..).trans (hflip ..)
      · exact hflip ..
    · exact ⟨rfl, rfl⟩
  · exact ⟨rfl, rfl⟩

theorem writeTblock_tblock {s : State} (h : MemoryWf s) (g b : Nat) (d : DWord) (c : Nat) :
    (c = b → (tblock (writeTblock g b d s) g c).phase = .good) ∧ (c ≠ b → tblock (writeTblock g b d s) g c = tblock s g c) := by
  obtain ⟨h1, h2⟩ := injectInto_keeps (blockMemory b).1 g ⟨.good, d, checkBits d⟩ s
  have hm := (injectInto_does (blockMemory b).1 g ⟨.good, d, checkBits d⟩ s).mem h
  have he := tblock_setTblock hm g b (injectInto (blockMemory b).1 g ⟨.good, d, checkBits d⟩ s).1 c
  unfold writeTblock
  dsimp only
  rw [he]
  exact ⟨fun e => by rw [if_pos e, h1], fun e => (if_neg e).trans (tblock_of h2 ..)⟩

theorem readTblock_other {s : State} (h : MemoryWf s) (g b master access : Nat) {c : Nat} (hc : c ≠ b) :
    tblock (readTblock g b master access s).2 g c = tblock s g c := by
  unfold readTblock
  dsimp only
  split
  · exact tblock_of ((recordBadRead_does ..).only.same .sram (by decide)) ..
  · dsimp only
    split
    · exact tblock_of (((queueRestore_does ..).only.same .sram (by decide)).trans ((recordBadRead_does ..).only.same .sram (by decide))) ..
    · exact tblock_of ((recordBadRead_does ..).only.same .sram (by decide)) ..
  · rfl
  · split
    · rfl
    · exact tblock_of ((sramCorrected_does ..).only.same .sram (by decide)) ..
    · unfold damageTblock
      exact (tblock_of (((queueRestore_does ..).only.same .sram (by decide)).trans ((sramUncorrected_does ..).only.same .sram (by decide))) ..).trans
        ((tblock_setTblock h ..).trans (if_neg hc))

/-- A block that a load writes, with the entries that it keeps. -/
def loadWrite (g i0 : Nat) (es : List (BitVec 16)) (b : Nat) (old : DWord) (t : State) : State :=
  (writeTblock g b (loadedData i0 es b old) t).modMem fun m => { m with restore := m.restore.filter (fun r => !(r == (g, b))) }

theorem loadBlock_eq (g i0 : Nat) (es : List (BitVec 16)) (b : Nat) (s : State) : loadBlock g i0 es b s =
    if loadCovers i0 es b then loadWrite g i0 es b 0 s
    else if (tblock s g b).phase == .good then
      match (readTblock g b 3 3 s).1 with
      | some old => loadWrite g i0 es b old (readTblock g b 3 3 s).2
      | none => (readTblock g b 3 3 s).2
    else s := by
  unfold loadBlock
  rfl

theorem loadWrite_tblock {s : State} (h : MemoryWf s) (g i0 : Nat) (es : List (BitVec 16)) (b : Nat) (old : DWord) (c : Nat) :
    (c = b → (tblock (loadWrite g i0 es b old s) g c).phase = .good) ∧ (c ≠ b → tblock (loadWrite g i0 es b old s) g c = tblock s g c) :=
  writeTblock_tblock h ..

theorem loadBlock_other {s : State} (h : MemoryWf s) (g i0 : Nat) (es : List (BitVec 16)) {b c : Nat} (hc : c ≠ b) :
    tblock (loadBlock g i0 es b s) g c = tblock s g c := by
  have hr := readTblock_other h g b 3 3 hc
  rw [loadBlock_eq]
  split
  · exact (loadWrite_tblock h ..).2 hc
  · split
    · split
      · exact ((loadWrite_tblock ((readTblock_does ..).mem h) ..).2 hc).trans hr
      · exact hr
    · rfl

theorem loadBlock_covered {s : State} (h : MemoryWf s) (g : Nat) {i0 b : Nat} {es : List (BitVec 16)} (hb : loadCovers i0 es b = true) :
    (tblock (loadBlock g i0 es b s) g b).phase = .good := by
  rw [loadBlock_eq, if_pos hb]
  exact (loadWrite_tblock h ..).1 rfl

/-- A block that the load covers is GOOD once its blocks have been written. -/
theorem loadBlocks_covered {g i0 b : Nat} {es : List (BitVec 16)} (hb : loadCovers i0 es b = true) {bs : List Nat} : ∀ {s : State}, MemoryWf s →
    b ∈ bs ∨ (tblock s g b).phase = .good → (tblock (forL bs (loadBlock g i0 es) s) g b).phase = .good := by
  induction bs with
  | nil => exact fun _ h => h.resolve_left List.not_mem_nil
  | cons c bs ih =>
    intro s hm h
    rw [forL_cons]
    refine ih ((loadBlock_does ..).mem hm) ?_
    by_cases e : b = c
    · exact .inr (e ▸ loadBlock_covered hm g (e ▸ hb))
    · rw [loadBlock_other hm g i0 es e]
      exact h.imp (fun h => (List.mem_cons.1 h).resolve_left e) id

/-- A block that the load does not cover stays as it is where it cannot be read. -/
theorem loadBlocks_kept {g i0 b : Nat} {es : List (BitVec 16)} (hb : loadCovers i0 es b = false) {bs : List Nat} : ∀ {s : State}, MemoryWf s →
    (tblock s g b).phase ≠ .good → tblock (forL bs (loadBlock g i0 es) s) g b = tblock s g b := by
  induction bs with
  | nil => exact fun _ _ => rfl
  | cons c bs ih =>
    intro s hm h
    have hc : tblock (loadBlock g i0 es c s) g b = tblock s g b := by
      by_cases e : b = c
      · rw [← e, loadBlock_eq, if_neg (by rw [hb]; decide), if_neg (by simpa using h)]
      · exact loadBlock_other hm g i0 es e
    rw [forL_cons, ih ((loadBlock_does ..).mem hm) (hc ▸ h), hc]

/-! ### Pieces (R129) -/

theorem pieceEnd_piece {l : LoadRun} {k : Nat} {rest : List Nat} (h : l.todo = k :: rest) (s : State) :
    pieceEnd l s = ({ l with todo := rest, kept := [] },
      forL (l.blocks k) (loadBlock l.group l.first l.entries) (forL l.kept (pieceKept l.group) s)) := by
  unfold pieceEnd
  rw [h]

theorem pieceEnd_blocks {l : LoadRun} {k : Nat} {rest : List Nat} (h : l.todo = k :: rest) {s : State} (hm : MemoryWf s) {b : Nat} (hb : b ∈ l.blocks k) :
    (loadCovers l.first l.entries b = true → (tblock (pieceEnd l s).2 l.group b).phase = .good) ∧
      ∀ ph : BlockPhase, loadCovers l.first l.entries b = false →
        ph = (if (tblock s l.group b).phase = .writing then ((l.kept.find? (fun e => e.1 == b)).map (·.2)).getD .writing
          else (tblock s l.group b).phase) → ph ≠ .good → ph ≠ .writing → (tblock (pieceEnd l s).2 l.group b).phase = ph := by
  rw [pieceEnd_piece h]
  dsimp only
  have hk : MemoryWf (forL l.kept (pieceKept l.group) s) := 
    (Does.forL (fun a x hx => (pieceKept_does _ a x).step rfl hx) (Does.refl [.sram] s)).mem hm
  refine ⟨fun hc => loadBlocks_covered hc hk (.inl hb), fun ph hc hp hg hw => ?_⟩
  have := pieceKept_phase hw hm hp
  rw [loadBlocks_kept hc hk (this ▸ hg), this]

end Sys2Proof.Machine
end

section
/-!
SUPPORT. Loads at their start and as they go on (R128, R129, R375), the moves that wait for the tick, and the statement on both settled.
-/
namespace Sys2Proof.Machine

/-! ### A load at its start (R128) -/

theorem length_imageEntries : ∀ {n : Nat} {bs : List Byte}, bs.length = 2 * n → (imageEntries n bs).length = n := by
  intro n
  induction n with
  | zero => exact fun _ => rfl
  | succ n ih =>
    intro bs h
    match bs, h with
    | a :: b :: t, h =>
      rw [imageEntries, List.length_cons, ih (by simp only [List.length_cons] at h; omega)]

theorem length_hbmRead (m : List Host.Cell) (a n : Nat) : (hbmRead m a n).length = n := by simp [hbmRead]

/-- The opcode of a load. -/
abbrev loadOp (walk : Bool) : Nat := if walk then 0x22 else 0x20

theorem load_row {m : Fin 8} {x : LdgCmd} {s : State} {walk : Bool} (h : Ready m (loadOp walk) x s) :
    exec (if walk then .walkLoad m else .calLoad m) s = .next (loadStart m x s) := by
  cases walk
  · exact h.row ..
  · exact h.row ..

theorem load_goesRow {m : Fin 8} {s : State} {r : LdgRun} {walk : Bool} (hu : isUp s = true) (hr : (mailbox s m).run = some r) (ho : r.cmd.opcode = loadOp walk) :
    exec (if walk then .walkLoad m else .calLoad m) s = .next (loadGoes m r s) := by
  cases walk
  · exact (upNext_up hu).trans (congrArg _ ((lodgeRow_goes hr ..).trans (if_pos ho)))
  · exact (upNext_up hu).trans (congrArg _ ((lodgeRow_goes hr ..).trans (if_pos ho)))

/-- R128: a load that nothing refuses: an image whose CRC-32C is wrong ends it, a good one runs it. -/
theorem loadStart_image {m i0 n : Nat} {x : LdgCmd} {s : State} {walk : Bool} (h : Ready m (loadOp walk) x s)
    (hoff : anyOff s (fld (x.w 1) 4 0 :: quarryDomains) = false) (hr : x.loadRange (dualMode s (fld (x.w 1) 4 0)) = (i0, n)) (hn : 0 < n)
    (ha : bit (x.w 1) 31 = false) (hw : walk = true → fld (x.w 2) 13 8 ≤ fld (x.w 2) 5 0)
    (hc : walk = false → n ≤ 524288 ∧ fld (x.w 2) 18 0 + n ≤ (if dualMode s (fld (x.w 1) 4 0) then 262144 else 524288))
    (hi : qaImage ≤ x.imageQa) (hi' : x.imageQa + 2 * n + 4 ≤ qaScratch)
    (hb : walk = true ∨ dualMode s (fld (x.w 1) 4 0) = true → loadBusy s (fld (x.w 1) 4 0) walk (fld (x.w 1) 16 16) = 0) :
    loadStart m x s =
      if leNat (hbmRead s.hbm.bytes (x.imageQa + 2 * n) 4) ≠ (crc32c (hbmRead s.hbm.bytes x.imageQa (2 * n))).toNat then ldgAtOnce m x 7 1 [] s
      else loadRun m x (fld (x.w 1) 4 0) i0 (loadGranules i0 n).length (imageEntries n (hbmRead s.hbm.bytes x.imageQa (2 * n)))
        (loadArchive (fld (x.w 1) 4 0) i0 (imageEntries n (hbmRead s.hbm.bytes x.imageQa (2 * n))) s) := by
  have hwalk : (x.opcode == 0x22) = walk := by
    rw [h.opcode]
    cases walk <;> rfl
  have hn0 : walk = false → fld (x.w 3) 19 0 = n := fun e => by
    unfold LdgCmd.loadRange at hr
    rw [if_neg (by rw [h.opcode, e]; decide)] at hr
    exact congrArg Prod.snd hr
  have hbad : (!walk && (fld (x.w 3) 19 0 == 0 || decide (524288 < fld (x.w 3) 19 0))) = false := by
    cases walk with
    | true => rfl
    | false =>
      obtain ⟨h1, -⟩ := hc rfl
      rw [hn0 rfl]
      simp only [Bool.not_false, Bool.true_and, Bool.or_eq_false_iff, beq_eq_false_iff_ne, decide_eq_false_iff_not]
      omega
  have hpast : (if walk then decide (fld (x.w 2) 5 0 < fld (x.w 2) 13 8)
      else decide ((if dualMode s (fld (x.w 1) 4 0) then 262144 else 524288) < fld (x.w 2) 18 0 + n)) = false := by
    cases walk with
    | true => exact decide_eq_false (Nat.not_lt.2 (hw rfl))
    | false => exact decide_eq_false (Nat.not_lt.2 (hc rfl).2)
  have hbusy : (if (walk || dualMode s (fld (x.w 1) 4 0)) = true then loadBusy s (fld (x.w 1) 4 0) walk (fld (x.w 1) 16 16) else 0) = 0 := by
    split
    · next h => exact hb (by simpa using h)
    · rfl
  unfold loadStart
  dsimp only
  rw [hwalk, h.checks hbad hoff, hr]
  dsimp only
  rw [hpast, hbusy, ha, decide_eq_true hi, decide_eq_true hi', if_neg (by decide), if_neg (by decide), if_neg (by decide)]

theorem loadGranules_cons {i0 n : Nat} (hn : 0 < n) : ∃ rest, loadGranules i0 n = i0 / 2048 :: rest := by
  unfold loadGranules
  have : i0 / 2048 ≤ (i0 + n - 1) / 2048 := Nat.div_le_div_right (by omega)
  obtain ⟨k, hk⟩ : ∃ k, (i0 + n - 1) / 2048 + 1 - i0 / 2048 = k + 1 := ⟨(i0 + n - 1) / 2048 - i0 / 2048, by omega⟩
  rw [hk, List.range_succ_eq_map]
  exact ⟨_, rfl⟩

/-- R374, R128: a load that runs has begun its first piece. -/
theorem loadRun_starts {s : State} (hs : TablesRise s) (m : Nat) (x : LdgCmd) (g i0 granules : Nat) {es : List (BitVec 16)} (hn : es ≠ []) :
    ∃ l : LoadRun, Started m x (.load l) s (loadRun m x g i0 granules es s) ∧ l.group = g ∧ l.first = i0 ∧ l.todo = loadGranules i0 es.length ∧
      l.entries = es ∧ l.granules = granules ∧
      (MemoryWf s → ∀ b ∈ pieceBlocks (i0 / 2048), (tblock (loadRun m x g i0 granules es s) l.group b).phase = .writing) := by
  obtain ⟨rest, ht⟩ := loadGranules_cons (i0 := i0) (List.length_pos_of_ne_nil hn)
  let l : LoadRun := ⟨g, i0, es, loadGranules i0 es.length, [], granules⟩
  let u := ldgRun m x (.load l) s
  have hl : l.todo = i0 / 2048 :: rest := ht
  have su : Started m x (.load l) s u := ldgRun_started hs.boxes ..
  have tu : TablesRise u := (ldgRun_does ..).tables hs
  have dp := pieceBegin_does l u
  obtain ⟨-, e2, e3, e4, e5, e6⟩ := pieceBegin_piece hl u
  have sv : Started m x (.load l) s (pieceBegin l u).2 := su.keep (mailbox_of (dp.only.same .ldg (by decide)) m)
  refine ⟨(pieceBegin l u).1, sv.wait (dp.tables tu).boxes _, e2, e3, e4, e5, e6, fun hm b hb => ?_⟩
  rw [e2]
  exact pieceBegin_writing hl (s := u) ((ldgRun_does ..).mem hm) hb

/-! ### A load that goes on (R128, R129, R375) -/

theorem loadGoes_off {s : State} (m : Nat) {r : LdgRun} {l : LoadRun} (hw : r.wait = .load l) (hd : domOn s l.group = false) :
    loadGoes m r s = ldgComplete m 4 0 [w32 l.written, w32 l.granules] (pieceBreak l s) := by
  unfold loadGoes
  rw [hw]
  dsimp only
  rw [hd]
  rfl

theorem loadGoes_on {s : State} (m : Nat) {r : LdgRun} {l : LoadRun} (hw : r.wait = .load l) (hd : domOn s l.group = true) :
    loadGoes m r s = if (pieceEnd l s).1.todo.isEmpty then ldgComplete m 0 0 [w32 l.entries.length, w32 l.granules] (pieceEnd l s).2
      else setLoad m (pieceBegin (pieceEnd l s).1 (pieceEnd l s).2) := by
  unfold loadGoes
  rw [hw]
  dsimp only
  rw [hd]
  rfl

theorem ldgComplete_after {zs : List Zone} {s u : State} (hd : Does zs s u) (hl : Zone.ldg ∉ zs) (hb : Zone.btr ∉ zs) (hs : TablesRise s) {m : Nat} {r : LdgRun}
    (hr : (mailbox s m).run = some r) (status detail : Nat) (res : List Word) : Completed m r status detail res s (ldgComplete m status detail res u) := by
  have h1 : mailbox u m = mailbox s m := mailbox_of (hd.only.same .ldg hl) m
  exact (ldgComplete_completed (hd.tables hs) (h1 ▸ hr) ..).from h1 (hd.only.same .btr hb)

theorem tblock_ldgComplete (m status detail : Nat) (res : List Word) (s : State) (g b : Nat) :
    tblock (ldgComplete m status detail res s) g b = tblock s g b := tblock_of ((ldgComplete_does ..).only.same .sram (by decide)) ..

/-- The last piece of a load. -/
theorem loadGoes_last {s : State} (hs : TablesRise s) {m : Nat} {r : LdgRun} {l : LoadRun} {k : Nat} (hr : (mailbox s m).run = some r) (hw : r.wait = .load l)
    (hd : domOn s l.group = true) (ht : l.todo = [k]) :
    Completed m r 0 0 [w32 l.entries.length, w32 l.granules] s (loadGoes m r s) ∧
      ∀ b, tblock (loadGoes m r s) l.group b = tblock (pieceEnd l s).2 l.group b := by
  have he : (pieceEnd l s).1.todo.isEmpty = true := by
    rw [pieceEnd_piece ht]
    rfl
  rw [loadGoes_on m hw hd, if_pos he]
  exact ⟨ldgComplete_after (pieceEnd_does l s) (by decide) (by decide) hs hr .., fun b => tblock_ldgComplete ..⟩

/-- A piece of a load that is not its last. -/
theorem loadGoes_next {s : State} (hs : TablesRise s) {m : Nat} {r : LdgRun} {l : LoadRun} {k k' : Nat} {rest : List Nat} (hr : (mailbox s m).run = some r)
    (hw : r.wait = .load l) (hd : domOn s l.group = true) (ht : l.todo = k :: k' :: rest) :
    ∃ l' : LoadRun, (mailbox (loadGoes m r s) m).run = some { r with wait := .load l' } ∧ l'.todo = k' :: rest ∧ l'.entries = l.entries ∧
      (MemoryWf s → ∀ b ∈ pieceBlocks k', (tblock (loadGoes m r s) l.group b).phase = .writing) := by
  have he := congrArg Prod.fst (pieceEnd_piece ht s)
  let y := (pieceEnd l s).1
  let u := (pieceEnd l s).2
  have hy : y.todo = k' :: rest := (congrArg LoadRun.todo he :)
  have hg : y.group = l.group := (congrArg LoadRun.group he :)
  have de := pieceEnd_does l s
  have dp := pieceBegin_does y u
  obtain ⟨-, -, -, e4, e5, -⟩ := pieceBegin_piece hy u
  have hrun : (mailbox (pieceBegin y u).2 m).run = some r := by
    rw [mailbox_of ((dp.only.same .ldg (by decide)).trans (de.only.same .ldg (by decide)))]
    exact hr
  have hrow : loadGoes m r s = setLoad m (pieceBegin y u) := by
    rw [loadGoes_on m hw hd, if_neg]
    exact fun h => by
      have : y.todo.isEmpty = true := h
      rw [hy] at this
      cases this
  rw [hrow]
  refine ⟨(pieceBegin y u).1, ?_, e4.trans hy, e5.trans ((congrArg LoadRun.entries he :)), fun hm b hb => ?_⟩
  · refine (congrArg Mailbox.run (mailbox_setWait (dp.tables (de.tables hs)).boxes _ _)).trans ?_
    dsimp only
    rw [hrun]
    rfl
  · rw [← hg]
    exact pieceBegin_writing hy (s := u) (de.mem hm) hb

/-! ### CAL_SWAP (R130) -/

/-- The selection of one group made pending. -/
def swapPend (w : Word) (g : Nat) (t : State) : State := setCb .ashCalSel g ((cbReg t .ashCalSel g).write (swapWord w (cbReg t .ashCalSel g).pend)) t

theorem at_ashCalSel : ∀ g : Fin 32, regExists .ashCalSel g 0 = true := by decide +kernel

theorem cbReg_swapPend {s : State} (hs : TablesRise s) (w : Word) {g k : Nat} (hg : g < 32) (hk : k < 32) :
    cbReg (swapPend w g s) .ashCalSel k = if k = g then (cbReg s .ashCalSel g).write (swapWord w (cbReg s .ashCalSel g).pend) else cbReg s .ashCalSel k := by
  by_cases e : k = g
  · rw [if_pos e, e]
    exact cbReg_setCb hs.cb ..
  · rw [if_neg e]
    exact cbReg_setCb_other hs.cb _ _ _ (regOff_ne (at_ashCalSel ⟨k, hk⟩) (at_ashCalSel ⟨g, hg⟩) fun h => e (Prod.mk.inj (Prod.mk.inj h).2).1)

theorem swapPend_does (w : Word) (g : Nat) (s : State) : Does [.btr] s (swapPend w g s) := setCb_does ..

theorem forL_swapPend (w : Word) {gs : List Nat} (hn : gs.Nodup) (hlt : ∀ g ∈ gs, g < 32) : ∀ {s : State}, TablesRise s → ∀ k < 32,
    cbReg (forL gs (swapPend w) s) .ashCalSel k =
      if k ∈ gs then (cbReg s .ashCalSel k).write (swapWord w (cbReg s .ashCalSel k).pend) else cbReg s .ashCalSel k := by
  induction gs with
  | nil => exact fun _ _ _ => rfl
  | cons g gs ih =>
    intro s hs k hk
    have hg := hlt g (.head _)
    obtain ⟨hg', hn'⟩ := List.nodup_cons.1 hn
    rw [forL_cons, ih hn' (fun q hq => hlt q (.tail _ hq)) ((swapPend_does ..).tables hs) k hk, cbReg_swapPend hs w hg hk]
    by_cases e : k = g
    · subst e
      rw [if_neg hg', if_pos rfl, if_pos (.head _)]
    · rw [if_neg e]
      simp only [List.mem_cons, e, false_or]

theorem nodup_wordBits (w : Word) : (wordBits w 0).Nodup := by
  unfold wordBits
  exact (List.nodup_range.filter _).map fun a b h => by omega

theorem wordBits_lt {w : Word} {g : Nat} (h : g ∈ wordBits w 0) : g < 32 := by
  unfold wordBits at h
  simp only [List.mem_map, List.mem_filter, List.mem_range] at h
  obtain ⟨b, ⟨hb, -⟩, rfl⟩ := h
  omega

/-- CAL_SWAP as it runs once it may start. -/
theorem calSwap_runs {m : Fin 8} {x : LdgCmd} {s : State} (h : Ready m 0x21 x s) (hn : wordBits (x.w 1) 0 ≠ []) (hb : bit (x.w 2) 8 = true ∨ bit (x.w 2) 9 = true) :
    exec (.calSwap m) s = .next (match if bit (x.w 2) 8 then (wordBits (x.w 1) 0).find? (swapRefused s) else none with
      | some g => ldgAtOnce m x 5 (g + 1) [] s
      | none => ldgRun m x (.calSwap (wordBits (x.w 1) 0)) (forL (wordBits (x.w 1) 0) (swapPend (x.w 2)) s)) := by
  have row := h.row (calSwapStart m) (fun _ t => t)
  rw [calSwapStart, h.checks rfl rfl, if_neg] at row
  · exact row
  · rw [List.isEmpty_eq_false_iff.2 hn]
    rcases hb with e | e <;> rw [e] <;> simp

/-! ### Commands that begin at once (R374) -/

/-- A command that has changed other parts than mailboxes and clock, and runs. -/
theorem ldgRun_after {zs : List Zone} {s u : State} (hd : Does zs s u) (hl : Zone.ldg ∉ zs) (hs : TablesRise s) (hb : nowStamp u = nowStamp s) (m : Nat) (x : LdgCmd)
    (w : LdgWait) : Started m x w s (ldgRun m x w u) := by
  obtain ⟨h1, h2, h3⟩ := ldgRun_started (hd.tables hs).boxes m x w
  have h : mailbox u m = mailbox s m := mailbox_of (hd.only.same .ldg hl) m
  exact ⟨by rw [h1, hb], by rw [h2, h], by rw [h3, h]⟩

/-- A stream whose role is to move. -/
def Stream.moves (p : MovePending) (y : Stream) : Stream := { y with move := some p }

theorem stream_moves {s : State} (hs : Rises s.streams) (m : Nat) (x : LdgCmd) (w : LdgWait) (t : Nat) (p : MovePending) :
    stream (ldgRun m x w (modStream t (.moves p) s)) t = .moves p (stream s t) := smGet_upd_rises hs ..

theorem nowStamp_setCb (r : Reg) (i : Nat) (x : CbReg) (s : State) : nowStamp (setCb r i x s) = nowStamp s := rfl

theorem nowStamp_swapPends (w : Word) (gs : List Nat) : ∀ s : State, nowStamp (forL gs (swapPend w) s) = nowStamp s := by
  induction gs with
  | nil => exact fun _ => rfl
  | cons g gs ih => exact fun s => by rw [forL_cons, ih]; rfl

/-- Settles O30. -/
theorem tableAndMoveCommands : Obligations.TableAndMoveCommands := by
  unfold Obligations.TableAndMoveCommands
  refine fun m x s => ⟨fun op n i0 walk h ho hoff hr hn ha hw hc hi hi' hb => ?_, fun op walk r l k ho hu hs hr hop hw => ⟨fun hd ht => ?_, fun k' rest hd ht => ?_, fun hd => ?_⟩,
    fun h hn hb => ⟨fun g hg h8 => ?_, fun hall => ?_⟩, fun h => ?_, fun h hd => ⟨fun hp hv hm => ?_, fun hp => ?_⟩, fun h ht r hr => ⟨fun hn => ?_, fun hz => ?_⟩⟩
  · subst ho
    rw [load_row h, loadStart_image h hoff hr hn ha hw hc hi hi' hb]
    refine ⟨_, rfl, fun hcrc => ?_, fun hcrc => ?_⟩
    · rw [if_pos hcrc]
      exact ⟨ldgAtOnce_answered h.tables h.run .., (ldgAtOnce_does ..).only⟩
    · rw [if_neg (not_not.2 hcrc)]
      have hlen := length_imageEntries (length_hbmRead s.hbm.bytes x.imageQa (2 * n))
      generalize imageEntries n (hbmRead s.hbm.bytes x.imageQa (2 * n)) = es at hlen ⊢
      have da := loadArchive_does (fld (x.w 1) 4 0) i0 es s
      obtain ⟨l, h1, h2, h3, h4, h5, h6, h7⟩ := loadRun_starts (da.tables h.tables) m x (fld (x.w 1) 4 0) i0 (loadGranules i0 n).length (es := es)
        (List.ne_nil_of_length_pos (by omega))
      rw [hlen] at h4
      exact ⟨l, h1.from (mailbox_of (da.only.same .ldg (by decide)) m) (da.only.same .btr (by decide)), h2, h3, h4, h5, h6, fun hm => h7 (da.mem hm)⟩
  · subst ho
    obtain ⟨h1, h2⟩ := loadGoes_last hs hr hw hd ht
    refine ⟨_, load_goesRow hu hr hop, h1, fun hm b hb => ?_⟩
    rw [h2]
    exact pieceEnd_blocks ht hm hb
  · subst ho
    obtain ⟨l', h1, h2, h3, h4⟩ := loadGoes_next hs hr hw hd ht
    exact ⟨_, l', load_goesRow hu hr hop, h1, h2, h3, h4⟩
  · subst ho
    rw [load_goesRow hu hr hop, loadGoes_off m hw hd]
    exact ⟨_, rfl, ldgComplete_after (pieceBreak_does l s) (by decide) (by decide) hs hr ..⟩
  · rw [calSwap_runs h hn hb, h8, if_pos rfl, hg]
    exact ⟨_, rfl, ldgAtOnce_answered h.tables h.run .., (ldgAtOnce_does ..).only⟩
  · have hf : (if bit (x.w 2) 8 then (wordBits (x.w 1) 0).find? (swapRefused s) else none) = none := by
      split
      · next h8 => exact List.find?_eq_none.2 fun g hg => by rw [hall h8 g hg]; decide
      · rfl
    rw [calSwap_runs h hn hb, hf]
    have hd : Does [.btr] s (forL (wordBits (x.w 1) 0) (swapPend (x.w 2)) s) := Does.forL (fun a t ht => (swapPend_does _ a t).step rfl ht) (Does.refl _ _)
    refine ⟨_, rfl, ldgRun_after hd (by decide) h.tables (nowStamp_swapPends ..) .., fun g => ?_⟩
    have hcb {k : Nat} (hk : k < 32) := forL_swapPend (x.w 2) (nodup_wordBits (x.w 1)) (fun _ hg => wordBits_lt hg) h.tables k hk
    refine ⟨fun hg => ?_, fun hk hg => (hcb hk).trans (if_neg hg)⟩
    have := (hcb (wordBits_lt hg)).trans (if_pos hg)
    refine ⟨congrArg CbReg.waiting this, (congrArg CbReg.pend this).trans (CbReg.pend_write ..), (congrArg CbReg.force this).trans (CbReg.force_write ..)⟩
  · have row := h.row (domainSelectStart m) (fun _ t => t)
    rw [domainSelectStart, h.checks rfl rfl] at row
    obtain ⟨h1, h2, h3⟩ := cbReg_setCb_write h.tables .quoDomainSel 0 (x.w 1)
    exact ⟨_, row, ldgRun_after (setCb_does .quoDomainSel 0 _ s) (by decide) h.tables rfl .., h1, h2, h3⟩
  · have row := h.row (engineMigrateStart m) (fun _ t => t)
    have hacc : migrateAccept m (fld (x.w 1) 2 0) s = (s.modAsh fun a => { a with
        reserved := true
        migrations := a.migrations ++ [⟨fld (x.w 1) 2 0, slotEngine s (fld (x.w 1) 2 0), unmappedEngine s, nowCourse s + 2, false, false, m⟩] }, 0) := by
      unfold migrateAccept
      dsimp only
      rw [hp, hv, if_neg (by decide), if_neg]
      rw [List.any_eq_true]
      rintro ⟨y, hy, he⟩
      exact hm y hy (by simpa using he)
    rw [engineMigrateStart] at row
    dsimp only at row
    rw [h.checks rfl (by simp [anyOff, hd]), hacc] at row
    exact ⟨_, row, ldgRun_started (by exact h.tables.boxes) .., rfl, rfl⟩
  · have row := h.row (engineMigrateStart m) (fun _ t => t)
    have hacc : migrateAccept m (fld (x.w 1) 2 0) s = (s, 1) := by
      unfold migrateAccept
      exact if_pos (by rcases hp with e | e <;> simp [e])
    rw [engineMigrateStart] at row
    dsimp only at row
    rw [h.checks rfl (by simp [anyOff, hd]), hacc] at row
    exact ⟨_, row, ldgAtOnce_answered h.tables h.run ..⟩
  · have row := h.row (streamMoveStart m) (fun _ t => t)
    rw [streamMoveStart] at row
    dsimp only at row
    rw [h.checks (decide_eq_false (Nat.not_le.2 ht)) rfl, hr, if_pos hn] at row
    exact ⟨_, row, ldgAtOnce_answered h.tables h.run ..⟩
  · have row := h.row (streamMoveStart m) (fun _ t => t)
    rw [streamMoveStart] at row
    dsimp only at row
    rw [h.checks (decide_eq_false (Nat.not_le.2 ht)) rfl, hr, if_neg (not_not.2 hz)] at row
    exact ⟨_, row, ldgRun_started (by exact h.tables.boxes) .., congrArg Stream.move (stream_moves h.tables.streams ..)⟩

end Sys2Proof.Machine
end

section
/-!
SUPPORT. Images that commands write to host memory (R375, R376) and the jobs of the quarry (R197, R382, R383), and the statement on the jobs settled.
-/
namespace Sys2Proof.Machine

/-! ### Host memory writes (R343, R376) -/

theorem boxPort_lt (m : Fin 8) : boxPort m < 2 := by unfold boxPort; omega

/-- The host port that receives the responses of a mailbox. -/
def boxPortFin (m : Fin 8) : Fin 2 := ⟨boxPort m, boxPort_lt m⟩

/-- A port that has sent one more memory write. -/
def HostPort.sends (x : HostMsg) (h : HostPort) : HostPort := { h with msgs := x :: h.msgs }

theorem hostStore_port (m : Fin 8) (addr : Nat) {ws : List DWord} (hn : ws ≠ []) (s : State) :
    hostPort (hostStore (boxPort m) addr ws s) (boxPort m) = (hostPort s (boxPort m)).sends ⟨addr, hostWords ws⟩ := by
  unfold hostStore
  rw [if_neg (by simpa using hn)]
  exact hostPort_modPort (boxPortFin m) ..

/-- R371: a command that completes with status 0 sends nothing. -/
theorem ldgComplete_ok (m detail : Nat) (res : List Word) (s : State) : Only [.regs, .ldg] s (ldgComplete m 0 detail res s) := by
  unfold ldgComplete
  split
  · next r _ =>
    have h1 : Only [.regs, .ldg] s (modBox m (fun b => { b with run := none }) s) := (modBox_does m _ s).only.widen rfl
    refine h1.trans ?_
    exact ((modBox_does m _ _).only.widen rfl).trans ((countWrap_does ..).only.widen rfl)
  · exact (Does.refl _ _).only

theorem Completed.of_run {m : Nat} {r : LdgRun} (w : LdgWait) {status detail : Nat} {res : List Word} {s t : State}
    (h : Completed m { r with wait := w } status detail res s t) : Completed m r status detail res s t := h

/-- R375, R376: what the next write of an image leaves, `u` being the state before it, `r` the command and `done` what its end does. -/
structure ImageGone (m : Fin 8) (r : LdgRun) (w : ImageRun) (off : Bool) (done : State → State) (s t : State) : Prop where
  noPort : hostReady s (boxPort m) = false → Completed m r 9 0 (w.head ++ two w.sent) s t
  noDomain : hostReady s (boxPort m) = true → off = true → Completed m r 4 0 (w.head ++ two w.sent) s t
  sends : hostReady s (boxPort m) = true → off = false → w.todo ≠ [] →
    (hostPort t (boxPort m)).msgs = ⟨w.addr, hostWords (w.todo.take 64)⟩ :: (hostPort s (boxPort m)).msgs
  last : hostReady s (boxPort m) = true → off = false → w.todo.length ≤ 64 →
    Completed m r 0 0 (w.head ++ two (w.sent + 8 * w.todo.length) ++ w.after) s t ∧
      Only [.regs, .ldg] (done (hostStore (boxPort m) w.addr (w.todo.take 64) s)) t
  more : hostReady s (boxPort m) = true → off = false → 64 < w.todo.length →
    (mailbox t m).run = some { r with wait := .image { w with addr := w.addr + 512, todo := w.todo.drop 64, sent := w.sent + 512 } } ∧
      Only [.port0, .port1, .ldg] s t

theorem ImageGone.written {m : Fin 8} {r : LdgRun} {w : ImageRun} {off : Bool} {done : State → State} {s t : State} (h : ImageGone m r w off done s t) :
    ImageWritten m r w off s t :=
  ⟨h.noPort, h.noDomain, fun hr ho => ⟨h.sends hr ho, fun hl => (h.last hr ho hl).1, fun hl => (h.more hr ho hl).1⟩⟩

/-- Another clock, mailbox and port than an image's write knew make no difference where they are the same. -/
theorem ImageGone.from {m : Fin 8} {r : LdgRun} {w : ImageRun} {off : Bool} {done : State → State} {s u t : State} (h : ImageGone m r w off done u t)
    (hb : (mailbox u m).done = (mailbox s m).done ∧ (mailbox u m).queue = (mailbox s m).queue) (hc : u.btr = s.btr)
    (hp : hostPort u (boxPort m) = hostPort s (boxPort m)) (hw : u.pwr = s.pwr) : ImageWritten m r w off s t := by
  have hr : hostReady u (boxPort m) = hostReady s (boxPort m) := by
    unfold hostReady domOn
    rw [hp, powerDom_of hw]
  have hcomp {status detail : Nat} {res : List Word} (k : Completed m r status detail res u t) : Completed m r status detail res s t := by
    obtain ⟨k1, k2, k3, k4⟩ := k
    exact ⟨by rw [k1, hb.1, nowStamp_btr hc], k2, by rw [k3, hb.2], fun hn => (k4 hn).from hc⟩
  exact ⟨fun h1 => hcomp (h.noPort (hr.trans h1)), fun h1 h2 => hcomp (h.noDomain (hr.trans h1) h2), fun h1 h2 =>
    ⟨fun hn => by rw [h.sends (hr.trans h1) h2 hn, hp], fun hl => hcomp (h.last (hr.trans h1) h2 hl).1, fun hl => (h.more (hr.trans h1) h2 hl).1⟩⟩

theorem imageGoes_goes {s : State} (hs : TablesRise s) {m : Fin 8} {r : LdgRun} (hr : (mailbox s m).run = some r) (w : ImageRun) (off : Bool) {done : State → State}
    {zs : List Zone} (hd : ∀ u, Does zs u (done u)) (hz : Zone.ldg ∉ zs ∧ Zone.btr ∉ zs ∧ Zone.port0 ∉ zs ∧ Zone.port1 ∉ zs) :
    ImageGone m r w off done s (imageGoes m w off done s) := by
  obtain ⟨z1, z2, z3, z4⟩ := hz
  let t := hostStore (boxPort m) w.addr (w.todo.take 64) s
  have dt : Does [.port0, .port1] s t := hostStore_does ..
  have bt : mailbox t m = mailbox s m := mailbox_of (dt.only.same .ldg (by decide)) m
  have bd : mailbox (done t) m = mailbox s m := (mailbox_of ((hd t).only.same .ldg z1) m).trans bt
  have hcomp {status detail : Nat} {res : List Word} : Completed m r status detail res s (ldgComplete m status detail res s) := ldgComplete_completed hs hr ..
  by_cases h1 : hostReady s (boxPort m) = true
  · cases off with
    | true =>
      have he : imageGoes m w true done s = ldgComplete m 4 0 (w.head ++ two w.sent) s := by
        unfold imageGoes
        rw [h1]
        rfl
      rw [he]
      exact ⟨fun h => absurd (h1.symm.trans h) nofun, fun _ _ => hcomp, fun _ h => (nomatch h), fun _ h => (nomatch h), fun _ h => (nomatch h)⟩
    | false =>
      have he : imageGoes m w false done s = if w.todo.length ≤ 64 then
          ldgComplete m 0 0 (w.head ++ two (w.sent + 8 * (w.todo.take 64).length) ++ w.after) (done t)
        else setWait m (.image { w with addr := w.addr + 8 * (w.todo.take 64).length, todo := w.todo.drop 64, sent := w.sent + 8 * (w.todo.take 64).length }) t := by
        unfold imageGoes
        rw [h1]
        rfl
      have hport (hn : w.todo ≠ []) : (hostPort t (boxPort m)).msgs = ⟨w.addr, hostWords (w.todo.take 64)⟩ :: (hostPort s (boxPort m)).msgs :=
        congrArg HostPort.msgs (hostStore_port m w.addr (fun h => hn ((List.take_eq_nil_iff.1 h).resolve_left (by decide))) s)
      rw [he]
      by_cases hl : w.todo.length ≤ 64
      · rw [if_pos hl, List.length_take, Nat.min_eq_right hl]
        refine ⟨fun h => absurd (h1.symm.trans h) nofun, fun _ h => (nomatch h), fun _ _ hn => ?_, fun _ _ _ => ⟨?_, ldgComplete_ok ..⟩, fun _ _ h => absurd hl (by omega)⟩
        · refine (congrArg HostPort.msgs (hostPort_only (ldgComplete_ok ..) (by decide) (by decide) _)).trans ?_
          exact (congrArg HostPort.msgs (hostPort_only (hd t).only z3 z4 _)).trans (hport hn)
        · exact (ldgComplete_completed ((hd t).tables (dt.tables hs)) (bd ▸ hr) ..).from bd (((hd t).only.same .btr z2).trans (dt.only.same .btr (by decide)))
      · rw [if_neg hl, List.length_take_of_le (by omega)]
        refine ⟨fun h => absurd (h1.symm.trans h) nofun, fun _ h => (nomatch h), fun _ _ hn => ?_, fun _ _ h => absurd h hl, fun _ _ _ => ⟨?_, ?_⟩⟩
        · exact (congrArg HostPort.msgs (hostPort_only (setWait_does ..).only (by decide) (by decide) _)).trans (hport hn)
        · refine (congrArg Mailbox.run (mailbox_setWait (dt.tables hs).boxes ..)).trans ?_
          dsimp only
          rw [bt, hr]
          rfl
        · exact (dt.only.widen rfl).trans ((setWait_does ..).only.widen rfl)
  · have h0 : hostReady s (boxPort m) = false := by simpa using h1
    have he : imageGoes m w off done s = ldgComplete m 9 0 (w.head ++ two w.sent) s := by
      unfold imageGoes
      rw [h0]
      rfl
    rw [he]
    exact ⟨fun _ => hcomp, fun h => absurd h h1, fun h => absurd h h1, fun h => absurd h h1, fun h => absurd h h1⟩

end Sys2Proof.Machine
end

section
/-!
SUPPORT. Jobs of the quarry at their start and at their end (R197, R376, R382, R383), and the statement on them settled.
-/
namespace Sys2Proof.Machine

/-- The row of a job's opcode. -/
theorem job_row {m : Fin 8} {x : LdgCmd} {burst : List Nat} {s : State} (h : Ready m x.opcode x s) (ho : x.opcode ∈ [0x40, 0x41, 0x42]) :
    exec (if x.opcode = 0x40 then Instr.quarryExport m burst else if x.opcode = 0x41 then .recallHost m burst else .decompressCheck m burst) s =
      .next (jobStart m x s) := by
  have h := h
  simp only [List.mem_cons, List.not_mem_nil, or_false] at ho
  rcases ho with e | e | e <;> rw [e] at h ⊢ <;> exact h.row ..

/-- R375, R376: a job that nothing refuses sizes itself, unless its port cannot write. -/
theorem jobStart_sizes {m : Fin 8} {x : LdgCmd} {s : State} (h : Ready m x.opcode x s) (hb : x.jobBad = false) (ho : anyOff s quarryDomains = false)
    (hc : x.jobRange.2 ≤ nowCourse s + 64) :
    jobStart m x s = if x.opcode != 0x42 && !hostReady s (boxPort m) then ldgAtOnce m x 9 0 [] s else jobSize m x (ldgRun m x (.job none) s) := by
  unfold jobStart
  rw [h.checks hb ho]
  exact if_neg (Nat.not_lt.2 hc)

/-- A job as the sizing pass leaves it (R197). -/
def sizedJob (s : State) (x : LdgCmd) : LdgJob :=
  ⟨jobNeed s x, historyStart s, [], x.jobCourses, 0, stoneEnds s x.jobCourses, 0, 0, 0, none, Gather.blank, 0⟩

theorem jobSize_settled {s : State} {x : LdgCmd} (h : courseSettled s x.jobRange.2 = true) (m : Nat) :
    jobSize m x s = if x.opcode != 0x42 && decide (x.bufLen < jobNeed s x) then
        ldgComplete m 8 0 (if x.opcode = 0x40 then two (jobNeed s x) ++ [0, 0, 0] ++ courseCapture (historyStart s) else two (jobNeed s x)) s
      else jobAsk m x (sizedJob s x) s := by
  unfold jobSize
  rw [h]
  rfl

/-- R186: a job that asks for its pin runs on, with the courses that the piece leaves. -/
theorem jobAsk_runs {s u : State} (hu : TablesRise u) {m : Nat} {x : LdgCmd} {w : LdgWait} (h : Started m x w s u) (j : LdgJob) :
    Started m x (.job (some { j with todo := (jobPiece u none j.todo).2 })) s (jobAsk m x j u) := by
  let v := if (jobPiece u none j.todo).1.isEmpty then u
    else enqueueRead ⟨m, true, 0, x.jobPartners, (jobPiece u none j.todo).1, [], none, false⟩ u
  have dv : Does [.qry] u v := (Does.refl _ _).ite ((enqueueRead_does ..).widen rfl)
  exact (h.keep (mailbox_of (dv.only.same .ldg (by decide)) m)).wait (dv.tables hu).boxes _

/-! ### Jobs at their end (R382, R383) -/

theorem jobStep_ends {s : State} {m : Nat} {x : LdgCmd} {j : LdgJob} (burst : List Nat) (hq : quarryDomainsOn s = true) (ht : j.todo = [])
    (hf : s.qry.reads.find? (isJobOf m) = none) (hp : x.opcode = 0x42 ∨ hostReady s (boxPort m) = true) :
    jobStep m x (some j) burst s = jobDone m x j s := by
  unfold jobStep
  dsimp only
  rw [if_neg (by rw [hq]; decide), if_neg (by rcases hp with e | e <;> simp [e]), hf, ht]
  rfl

theorem job_goesRow {m : Fin 8} {s : State} {r : LdgRun} {j : Option LdgJob} {burst : List Nat} (hr : (mailbox s m).run = some r) (hw : r.wait = .job j)
    {op : Nat} (ho : r.cmd.opcode = op) (start : LdgCmd → State → State) :
    lodgeRow op m start (jobGoes burst m) s = jobStep m r.cmd j burst s := by
  rw [lodgeRow_goes hr, if_pos ho, jobGoes, hw]

theorem jobDone_export {x : LdgCmd} (h : x.opcode = 0x40) (m : Nat) (j : LdgJob) (s : State) :
    jobDone m x j s = jobEnd m 0 (jobResults x j (8 * (j.out.length + 3)) 0) (hostStore (boxPort m) (x.bufAddr + 8 * j.out.length) (endItem j.out) s) := by
  unfold jobDone
  rw [h]
  rfl

theorem jobDone_check {x : LdgCmd} (h : x.opcode = 0x42) (m : Nat) (j : LdgJob) (s : State) : jobDone m x j s = jobEnd m 0 (jobResults x j 0 0) s := by
  unfold jobDone
  rw [h]
  rfl

theorem jobDone_recall {x : LdgCmd} (h : x.opcode = 0x41) (m : Nat) (j : LdgJob) (s : State) : jobDone m x j s =
    imageGoes m ⟨x.bufAddr, (recallRecord s x j.hist j.gather).1, 0, two j.need, [w32 (recallRecord s x j.hist j.gather).2], 0⟩ false id
      (setWait m (.image ⟨x.bufAddr, (recallRecord s x j.hist j.gather).1, 0, two j.need, [w32 (recallRecord s x j.hist j.gather).2], 0⟩)
        (replaceRead (isJobOf m) none s)) := by
  unfold jobDone
  rw [h]
  rfl

theorem jobEnd_completed {zs : List Zone} {s u : State} (hd : Does zs s u) (hl : Zone.ldg ∉ zs) (hb : Zone.btr ∉ zs) (hs : TablesRise s) {m : Nat} {r : LdgRun}
    (hr : (mailbox s m).run = some r) (status : Nat) (res : List Word) : Completed m r status 0 res s (jobEnd m status res u) := by
  have dq := replaceRead_does (isJobOf m) none u
  have h1 : mailbox (replaceRead (isJobOf m) none u) m = mailbox s m :=
    mailbox_of ((dq.only.same .ldg (by decide)).trans (hd.only.same .ldg hl)) m
  exact (ldgComplete_completed (dq.tables (hd.tables hs)) (h1 ▸ hr) ..).from h1 ((dq.only.same .btr (by decide)).trans (hd.only.same .btr hb))

theorem wholeRecord_ne (s : State) (t kind seq : Nat) (body : List DWord) : wholeRecord s t kind seq body ≠ [] := by
  unfold wholeRecord withTrailer
  exact List.append_ne_nil_of_left_ne_nil (List.cons_ne_nil _ _) _

theorem recallRecord_ne (s : State) (x : LdgCmd) (hist : Nat) (g : Gather) : (recallRecord s x hist g).1 ≠ [] := wholeRecord_ne _ _ _ _ _

theorem id_does (s : State) : Does [] s (id s) := Does.refl _ _

/-- R383: a RECALL_HOST that has gathered its courses writes its record. -/
theorem recall_gone {s : State} (hs : TablesRise s) {m : Fin 8} {r : LdgRun} (hr : (mailbox s m).run = some r) (w : ImageRun) :
    ImageWritten m r w false s (imageGoes m w false id (setWait m (.image w) (replaceRead (isJobOf m) none s))) := by
  have dq := replaceRead_does (isJobOf m) none s
  have hq : mailbox (replaceRead (isJobOf m) none s) m = mailbox s m := mailbox_of (dq.only.same .ldg (by decide)) m
  have dw := setWait_does m (.image w) (replaceRead (isJobOf m) none s)
  have hb := mailbox_setWait (dq.tables hs).boxes m (.image w)
  rw [hq] at hb
  have hrun : (mailbox (setWait m (.image w) (replaceRead (isJobOf m) none s)) m).run = some { r with wait := .image w } := by
    rw [hb, hr]
    rfl
  have hg := imageGoes_goes (dw.tables (dq.tables hs)) hrun w false id_does (by decide)
  have hone (t : State → State) := hg.from (s := s) (by rw [hb]; exact ⟨rfl, rfl⟩) ((dw.only.same .btr (by decide)).trans (dq.only.same .btr (by decide)))
    ((hostPort_only dw.only (by decide) (by decide) _).trans (hostPort_only dq.only (by decide) (by decide) _))
    ((dw.only.same .pwr (by decide)).trans (dq.only.same .pwr (by decide)))
  exact hone id

/-- Settles O31. -/
theorem jobCommands : Obligations.JobCommands := by
  unfold Obligations.JobCommands
  refine fun m x burst s => ⟨fun h ho hb hoff hc hset row hrow => ?_, fun r j hu hs hr hw hx ht hq hf => ⟨fun hop => ?_, fun hop hp => ?_, fun hop hp => ?_⟩,
    fun r w hu hs hr hw hop => ?_⟩
  · have hrow' : exec row s = .next (jobStart m x s) := hrow ▸ job_row h ho
    rw [hrow', jobStart_sizes h hb hoff hc]
    refine ⟨fun hn hp => ?_, fun u hu => ⟨fun hop hp hl => ?_, fun hor => ?_⟩⟩
    · rw [if_pos (by simp [hn, hp])]
      exact ⟨_, rfl, ldgAtOnce_answered h.tables h.run ..⟩
    · have tu : TablesRise u := hu ▸ (ldgRun_does ..).tables h.tables
      have su : Started m x (.job none) s u := hu ▸ ldgRun_started h.tables.boxes ..
      rw [if_neg (by simp [hp]), ← hu, jobSize_settled (by rw [hu]; exact hset), if_pos (by simp [hop, hl]), if_neg (by rw [hop]; decide)]
      exact ⟨_, rfl, su.answered tu _ _ _ (by rw [hu]; rfl)⟩
    · have tu : TablesRise u := hu ▸ (ldgRun_does ..).tables h.tables
      have su : Started m x (.job none) s u := hu ▸ ldgRun_started h.tables.boxes ..
      rw [if_neg (by rcases hor with e | ⟨e, -⟩ <;> simp [e]), ← hu, jobSize_settled (by rw [hu]; exact hset),
        if_neg (by rcases hor with e | ⟨-, e⟩ <;> simp [e])]
      exact ⟨_, _, rfl, jobAsk_runs tu su (sizedJob u x), rfl, by rw [hu]; rfl, rfl, rfl, rfl⟩
  · subst hx
    refine ⟨_, (upNext_up hu).trans (congrArg _ ((job_goesRow hr hw hop _).trans ((jobStep_ends burst hq ht hf (.inl hop)).trans (jobDone_check hop ..)))), ?_⟩
    exact jobEnd_completed (Does.refl [] s) (by decide) (by decide) hs hr ..
  · subst hx
    obtain ⟨rec_, hrec⟩ : ∃ rec_, rec_ = recallRecord s r.cmd j.hist j.gather := ⟨_, rfl⟩
    have hd := jobDone_recall hop m j s
    rw [← hrec] at hd
    have hg := recall_gone hs hr ⟨r.cmd.bufAddr, rec_.1, 0, two j.need, [w32 rec_.2], 0⟩
    rw [← hd] at hg
    refine ⟨_, rec_, (upNext_up hu).trans (congrArg _ ((job_goesRow hr hw hop _).trans (jobStep_ends burst hq ht hf (.inr hp)))), hrec, hg, fun hl => ?_⟩
    obtain ⟨-, -, g3⟩ := hg
    obtain ⟨g4, g5, -⟩ := g3 hp rfl
    have hne : rec_.1 ≠ [] := by rw [hrec]; exact recallRecord_ne _ _ _ _
    refine ⟨?_, ?_⟩
    · have := g5 hl
      unfold jobResults
      rw [hop]
      dsimp only at this
      rwa [Nat.zero_add] at this
    · have := g4 hne
      dsimp only at this
      rwa [List.take_of_length_le hl] at this
  · subst hx
    have dh := hostStore_does (boxPort m) (r.cmd.bufAddr + 8 * j.out.length) (endItem j.out) s
    refine ⟨_, (upNext_up hu).trans (congrArg _ ((job_goesRow hr hw hop _).trans ((jobStep_ends burst hq ht hf (.inr hp)).trans (jobDone_export hop ..)))),
      jobEnd_completed dh (by decide) (by decide) hs hr .., ?_⟩
    refine (congrArg HostPort.msgs (hostPort_only (ldgComplete_ok ..) (by decide) (by decide) _)).trans ?_
    refine (congrArg HostPort.msgs (hostPort_only (replaceRead_does ..).only (by decide) (by decide) _)).trans ?_
    exact congrArg HostPort.msgs (hostStore_port m _ (by unfold endItem; simp) s)
  · refine ⟨_, (upNext_up hu).trans (congrArg _ ((lodgeRow_goes hr _ _).trans (if_pos hop))), ?_⟩
    unfold jobGoes
    rw [hw]
    exact (imageGoes_goes hs hr w false id_does (by decide)).written

end Sys2Proof.Machine
end

section
/-!
SUPPORT. Commands over maps, scrub, calibration, recorders, log and the host's own loop (R194, R340, R378, R384, R385, R402, R444, R450), and the statement
on them settled.
-/
namespace Sys2Proof.Machine

/-! ### RETIRE_ADD (R194, R195, R334) -/

theorem at_memQry : regExists .memEvt 0 0 = true ∧ regExists .qryEvt 0 0 = true := by decide +kernel

/-- The retirement map with one more row. -/
def State.retires (row : Word) (s : State) : State := { s with hbm := { s.hbm with retired := s.hbm.retired ++ [row] } }

/-- What a row that joins the retirement map leaves. -/
theorem retireRow_retires {s : State} (hs : TablesRise s) (row : Word) (hr : s.hbm.retired.length < 4096) :
    (retireRow row s).hbm = { s.hbm with retired := s.hbm.retired ++ [row] } ∧ Evented .memEvt 0 16 s (retireRow row s) ∧
      Does [.regs, .flt, .port0, .port1, .hbm, .cns] s (retireRow row s) := by
  let u := s.retires row
  let v := cnsPost (cnsDueNow u 7 row.toNat u.hbm.retired.length) u
  let w := event .memEvt 0 16 v
  let x := raise Src.memRowRetired (fld row 31 31) ((rowCapture row 0).take 4 ++ [w32 u.hbm.retired.length]) w
  have hregs : v.regs = s.regs := (cnsPost_does _ u).only.same .regs (by decide)
  have hv : Rises v.regs := hregs ▸ hs.regs
  have hw : w.hbm = u.hbm := (event_hbm ..).trans ((cnsPost_does ..).only.same .hbm (by decide))
  have hx : Evented .memEvt 0 16 s x := (evented_of (evented_event hv ..) (cell_regs hregs ..)).keep rfl
  have he : retireRow row s = if u.hbm.retired.length = 4032 then raise Src.qryRetireNearFull 0 [w32 u.hbm.retired.length] (event .qryEvt 0 21 x) else x := rfl
  refine ⟨?_, ?_, retireRow_does row s hr⟩
  · rw [he]
    have : x.hbm = { s.hbm with retired := s.hbm.retired ++ [row] } := hw
    split
    · exact (event_hbm ..).trans this
    · exact this
  · rw [he]
    split
    · unfold Evented at hx ⊢
      exact (cell_event_other (s := x) (rises_event hv ..) _ _ _ (regOff_ne at_memQry.1 at_memQry.2 nofun)).trans hx
    · exact hx

/-! ### GAUGE_SELFCAL (R402) -/

theorem gauConv_modConv {s : State} (h : Rises s.gau.convs) (k : Nat) (f : GauConv → GauConv) (q : Nat) :
    gauConv (modConv k f s) q = if q = k then f (gauConv s q) else gauConv s q := by
  by_cases e : q = k
  · rw [if_pos e, e]
    exact smGet_upd_rises h ..
  · rw [if_neg e]
    exact smGet_upd_other h _ _ _ _ _ e

/-- A converter whose self-calibration begins. -/
def GauConv.calibrates (v : GauConv) : GauConv := { v with selfcal := true, run := none, connected := none, visit := 0 }

theorem selfcalBegin_calibrates {s : State} (hs : TablesRise s) (mask : Nat) {k : Nat} (hk : k < 21) :
    (gauConv (selfcalBegin mask s) k).selfcal = ((gauConv s k).selfcal || mask.testBit k) := by
  have step (n : Nat) : ∀ q : Nat, TablesRise (forN n (fun k t => if mask.testBit k then modConv k .calibrates t else t) s) ∧
      (gauConv (forN n (fun k t => if mask.testBit k then modConv k .calibrates t else t) s) q).selfcal =
        ((gauConv s q).selfcal || (decide (q < n) && mask.testBit q)) := by
    induction n with
    | zero => exact fun q => ⟨hs, by simp [forN_zero]⟩
    | succ n ih =>
      intro q
      obtain ⟨ht, hq⟩ := ih q
      rw [forN_succ]
      by_cases hb : mask.testBit n = true
      · rw [if_pos hb]
        refine ⟨(modConv_does ..).tables ht, ?_⟩
        rw [gauConv_modConv ht.gau.1]
        by_cases e : q = n
        · rw [if_pos e, e, hb]
          simp [GauConv.calibrates]
        · rw [if_neg e, hq]
          have : decide (q < n + 1) = decide (q < n) := by simp only [decide_eq_decide]; omega
          rw [this]
      · rw [if_neg hb]
        refine ⟨ht, hq.trans ?_⟩
        by_cases e : q = n
        · rw [e, Bool.eq_false_iff.2 hb, Bool.and_false, Bool.and_false]
        · have : decide (q < n + 1) = decide (q < n) := by simp only [decide_eq_decide]; omega
          rw [this]
  have h := (step 21 k).2
  rw [decide_eq_true hk, Bool.true_and] at h
  exact h

/-! ### PLB_READ and CNS_READ (R384, R444, R450) -/

/-- Nothing of the ports changes but the state of their vectors. -/
structure PortsVecs (s t : State) : Prop where
  at_ : ∀ q : Fin 2, (hostPort s q).VecsOnly (hostPort t q)

theorem PortsVecs.trans {s t u : State} (h : PortsVecs s t) (k : PortsVecs t u) : PortsVecs s u :=
  ⟨fun q => (h.at_ q).trans (k.at_ q)⟩

theorem PortsVecs.of_port {s t : State} (h : ∀ q : Fin 2, hostPort t q = hostPort s q) : PortsVecs s t := ⟨fun q => by
  rw [HostPort.VecsOnly, h q]⟩

theorem PortsVecs.of_only {zs : List Zone} {s t : State} (h : Only zs s t) (h0 : Zone.port0 ∉ zs := by decide) (h1 : Zone.port1 ∉ zs := by decide) : PortsVecs s t :=
  .of_port fun q => hostPort_only h h0 h1 q

theorem PortsVecs.event (r : Reg) (i b : Nat) (s : State) : PortsVecs s (event r i b s) := ⟨fun q => event_vecsOnly r i b q s⟩

theorem recordBadRead_portsVecs (b mem inst blk : Nat) (s : State) : PortsVecs s (recordBadRead b mem inst blk s) := by
  unfold recordBadRead
  exact (PortsVecs.of_port (s := s) (t := setCell .memLastAddr 0 0 (w32 blk) (modCell .memLastRead 0 0 (fun w => setFld (setFld w 29 24 mem) 23 16 inst) s)) fun _ => rfl).trans
    (.event ..)

theorem sramCorrected_portsVecs (mem inst blk syn master access : Nat) (s : State) : PortsVecs s (sramCorrected mem inst blk syn master access s) := by
  unfold sramCorrected
  dsimp only
  split
  · exact .of_port fun _ => rfl
  · exact .of_port fun _ => rfl

theorem sramUncorrected_portsVecs (mem inst blk master access : Nat) (s : State) : PortsVecs s (sramUncorrected mem inst blk master access s) := by
  unfold sramUncorrected
  dsimp only
  split
  · exact .of_port fun _ => rfl
  · have h : PortsVecs s (count .memCntUncorr mem 31 0 1 s) := .of_port fun _ => rfl
    exact (h.trans (.event .memEvt 0 17 _)).trans (.of_port fun _ => rfl)

theorem eccRead_portsVecs (mem inst b master access : Nat) (s : State) : PortsVecs s (eccRead mem inst b master access s).2 := by
  unfold eccRead
  dsimp only
  split
  · exact recordBadRead_portsVecs ..
  · exact recordBadRead_portsVecs ..
  · exact .of_port fun _ => rfl
  · split
    · exact .of_port fun _ => rfl
    · exact sramCorrected_portsVecs ..
    · exact (PortsVecs.of_only (eccDamage_does ..).only).trans (sramUncorrected_portsVecs ..)

/-- The reader of a memory leaves the ports as they are but for their vectors, where what it does with a bad block does. -/
theorem eccVisit_portsVecs (mem inst master access : Nat) (held : Nat → Bool) {act : Nat → State → State} (ha : ∀ b t, PortsVecs t (act b t)) (s : State) :
    PortsVecs s (eccVisit mem inst master access held act s) := by
  unfold eccVisit
  have : ∀ (l : List Nat) (t : State), PortsVecs s t → PortsVecs s (forL l (fun b t =>
      if (eccRead mem inst b master access t).1 then (eccRead mem inst b master access t).2 else act b (eccRead mem inst b master access t).2) t) := by
    intro l
    induction l with
    | nil => exact fun _ h => h
    | cons b l ih =>
      intro t h
      rw [forL_cons]
      refine ih _ ?_
      have h1 := h.trans (eccRead_portsVecs mem inst b master access t)
      split
      · exact h1
      · exact h1.trans (ha ..)
  exact this _ _ (.of_port fun _ => rfl)

theorem plbStoreRead_portsVecs (s : State) : PortsVecs s (plbStoreRead s) :=
  eccVisit_portsVecs _ _ _ _ _ (fun _ _ => .of_only (plbStoreError_does ..).only) s

theorem hostReady_of {s t : State} (h : PortsVecs s t) (hp : t.pwr = s.pwr) (m : Fin 8) : hostReady t (boxPort m) = hostReady s (boxPort m) := by
  have := h.at_ (boxPortFin m)
  unfold HostPort.VecsOnly at this
  have hp' : hostPort t (boxPort m) = { hostPort s (boxPort m) with vectors := (hostPort t (boxPort m)).vectors } := this
  unfold hostReady domOn
  rw [hp', powerDom_of hp]

/-- The image of a command that begins its writing (R384). -/
def imageRun (x : LdgCmd) (image : List DWord) (after : List Word) (s : State) : ImageRun := ⟨x.bufAddr, image, 0, two (8 * image.length), after, s.cns.next⟩

theorem imageToHost_runs {s : State} {m : Fin 8} {x : LdgCmd} {image : List DWord} (after : List Word) (done : State → State)
    (hp : hostReady s (boxPort m) = true) (hd : domOn s 78 = true) (hl : 8 * image.length ≤ x.bufLen) :
    imageToHost m x image after done s = imageGoes m (imageRun x image after s) false done (ldgRun m x (.image (imageRun x image after s)) s) := by
  unfold imageToHost
  dsimp only
  rw [if_neg (by rw [hp]; decide), if_neg (by omega), hd]
  rfl

theorem imageOn_goes {m : Nat} {r : LdgRun} {w : ImageRun} (h : r.wait = .image w) (done : ImageRun → State → State) (s : State) :
    imageOn m done r s = imageGoes m w (!domOn s 78) (done w) s := by
  unfold imageOn
  rw [h]

theorem plbReadDone_read (s : State) : (plbReadDone s).plb.read = (s.plb.read || decide (s.plb.phase = .held)) := rfl

theorem plbImage_ne (s : State) : plbImage s ≠ [] := by
  unfold plbImage
  exact List.append_ne_nil_of_right_ne_nil _ (List.cons_ne_nil _ _)

/-- The answer of a command that has begun its image with its last write. -/
theorem Started.imageAnswered {m : Nat} {x : LdgCmd} {w : LdgWait} {s u t : State} (h : Started m x w s u) (hb : u.btr = s.btr) {res : List Word}
    (hc : Completed m ⟨x, nowStamp s, w, false⟩ 0 0 res u t) : Answered m x 0 0 res s t := by
  obtain ⟨h1, h2, h3⟩ := h
  obtain ⟨c1, c2, c3, -⟩ := hc
  have : cyclesSince (nowStamp s) (nowStamp u) = 0 := by
    rw [nowStamp_btr hb]
    exact Nat.sub_self _
  exact ⟨by rw [c1, h3, this], c3.trans h2, c2, fun h => absurd rfl h⟩

/-! ### DIAG_LOOP (R378) -/

theorem length_leBytes : ∀ n v : Nat, (leBytes n v).length = n
  | 0, _ => rfl
  | n + 1, v => congrArg Nat.succ (length_leBytes n (v / 256))

theorem length_patternGranule (w : Word) : (patternGranule w).length = 4096 := by
  unfold patternGranule
  simp only [List.length_flatMap, length_leBytes, List.map_const', List.length_range, List.sum_replicate]
  rfl

theorem hbmByte_hbmStore {s : State} (hm : MemoryWf s) {qa : Nat} {bs : List Byte} (hn : bs ≠ []) (q : Nat) :
    hbmByte (s.hbmStore qa bs).hbm.bytes q = if qa ≤ q ∧ q < qa + bs.length then bs.getD (q - qa) 0 else hbmByte s.hbm.bytes q := by
  unfold State.hbmStore
  rw [if_neg (by simpa using hn)]
  exact hbmByte_write qa bs hm.bytes q

end Sys2Proof.Machine
end

section
/-!
SUPPORT. The statement on the commands over maps, scrub, calibration, recorders, log and the host's own loop settled.
-/
namespace Sys2Proof.Machine

/-! ### The rows of PLB_READ and CNS_READ (R384) -/

theorem at_memScrubCfg : regExists .memScrubCfg 0 0 = true := by decide +kernel

/-- PLB_READ as it begins. -/
theorem plbRead_begins {m : Fin 8} {x : LdgCmd} {s : State} (h : Ready m 0x70 x s) (hb : bufferGood x = true) (hd : domOn s 78 = true)
    (hp : hostReady s (boxPort m) = true) (hl : 8 * (plbImage (plbStoreRead s)).length ≤ x.bufLen) :
    exec (.plbRead m) s = .next (imageGoes m (imageRun x (plbImage (plbStoreRead s)) [] (plbStoreRead s)) false plbReadDone
      (ldgRun m x (.image (imageRun x (plbImage (plbStoreRead s)) [] (plbStoreRead s))) (plbStoreRead s))) := by
  have hw : (plbStoreRead s).pwr = s.pwr := (plbStoreRead_does s).only.same .pwr (by decide)
  have row := h.row (plbReadStart m) (plbReadGoes m)
  rw [plbReadStart, h.checks (by rw [hb]; rfl) (by rw [hd]; rfl), imageToHost_runs _ _ ((hostReady_of (plbStoreRead_portsVecs s) hw m).trans hp)
    (by unfold domOn; rw [powerDom_of hw]; exact hd) hl] at row
  exact row

theorem cnsRead_begins {m : Fin 8} {x : LdgCmd} {s : State} (h : Ready m 0x71 x s) (hb : bufferGood x = true) (hd : domOn s 78 = true)
    (hp : hostReady s (boxPort m) = true) (hl : 8 * (cnsImage s).length ≤ x.bufLen) :
    exec (.cnsRead m) s = .next (imageGoes m (imageRun x (cnsImage s) [imageCode (cnsImage s)] s) false (cnsReadDone (imageCode (cnsImage s)) s.cns.next)
      (ldgRun m x (.image (imageRun x (cnsImage s) [imageCode (cnsImage s)] s)) s)) := by
  have row := h.row (cnsReadStart m) (cnsReadGoes m)
  rw [cnsReadStart, h.checks (by rw [hb]; rfl) (by rw [hd]; rfl), imageToHost_runs _ _ hp hd hl] at row
  exact row

/-- The beginning of an image on the state `u` that a command has reached from `s`. -/
theorem image_begins {zs : List Zone} {s u : State} (hu : Does zs s u) (hl : Zone.ldg ∉ zs) (hb : Zone.btr ∉ zs) (hs : TablesRise s) (m : Fin 8) (x : LdgCmd)
    (w : ImageRun) {done : State → State} {ys : List Zone} (hd : ∀ u, Does ys u (done u)) (hz : Zone.ldg ∉ ys ∧ Zone.btr ∉ ys ∧ Zone.port0 ∉ ys ∧ Zone.port1 ∉ ys) :
    Started m x (.image w) s (ldgRun m x (.image w) u) ∧
      ImageGone m ⟨x, nowStamp s, .image w, false⟩ w false done (ldgRun m x (.image w) u) (imageGoes m w false done (ldgRun m x (.image w) u)) := by
  have su : Started m x (.image w) s (ldgRun m x (.image w) u) :=
    (ldgRun_started (hu.tables hs).boxes m x (.image w)).from (mailbox_of (hu.only.same .ldg hl) m) (hu.only.same .btr hb)
  exact ⟨su, imageGoes_goes ((ldgRun_does ..).tables (hu.tables hs)) su.1 w false hd hz⟩

theorem decide_beq_not {n k : Nat} : (n != k) = decide (n ≠ k) := by
  by_cases h : n = k <;> simp [h]

/-- Settles O32. -/
theorem listCommands : Obligations.ListCommands := by
  unfold Obligations.ListCommands
  refine fun m x s => ⟨fun h ho hn => ⟨fun hin => ?_, fun hin => ?_⟩, fun h => ?_, fun h hd h1 h2 h3 h4 h5 => ?_, fun readings h hx hg => ?_, fun h hb hd hp hl => ?_,
    fun h hb hd hp hl => ?_, fun r w hu hs hr hw => ⟨fun hop => ?_, fun hop => ?_⟩, fun h => ⟨fun hc hm => ?_, fun hno => ?_⟩, fun h hf => ⟨fun hb hq => ?_, fun hor => ?_⟩,
    fun wrong h => ⟨fun hz => ?_, fun qa h1 hqa ha hlo hhi hoff hm => ?_⟩⟩
  · have row := h.row (retireAddStart m) (fun _ t => t)
    rw [retireAddStart, h.checks rfl ho, if_neg (by omega), if_pos (List.contains_iff_mem.2 hin)] at row
    exact ⟨_, row, ldgAtOnce_answered h.tables h.run .., (ldgAtOnce_does ..).only.same .hbm (by decide)⟩
  · have row := h.row (retireAddStart m) (fun _ t => t)
    rw [retireAddStart, h.checks rfl ho, if_neg (by omega), if_neg (by simpa using hin)] at row
    obtain ⟨g1, g2, g3⟩ := retireRow_retires h.tables (x.w 1) hn
    refine ⟨_, row, ldgAtOnce_answers g3 (by decide) (by decide) h.tables h.run .., ((ldgAtOnce_does ..).only.same .hbm (by decide)).trans g1, ?_⟩
    unfold Evented at g2 ⊢
    rw [← g2]
    refine ldgAtOnce_regs (g3.tables h.tables) _ _ _ _ _ .memEvt 0 0 fun z hz => ?_
    simp only [ldgCells, List.mem_cons, List.not_mem_nil, or_false] at hz
    rcases hz with rfl | rfl
    · exact regOff_ne at_memQry.1 at_ldg.1 nofun
    · exact regOff_ne at_memQry.1 at_ldg.2.1 nofun
  · have row := h.row (retireListStart m) (fun _ t => t)
    rw [retireListStart, h.checks rfl rfl] at row
    exact ⟨_, _, row, rfl, ldgAtOnce_answered h.tables h.run ..⟩
  · have row := h.row (scrubSetStart m) (fun _ t => t)
    rw [scrubSetStart] at row
    rw [h.checks (by simp [h1, h2, h3, h4, h5]) (by rw [hd]; rfl)] at row
    have ds := setCell_does .memScrubCfg 0 0 (x.w 1) s
    refine ⟨_, row, ldgAtOnce_answers ds (by decide) (by decide) h.tables h.run .., ?_⟩
    refine Eq.trans (ldgAtOnce_regs (ds.tables h.tables) _ _ _ _ _ .memScrubCfg 0 0 fun z hz => ?_) (cell_setCell h.tables.regs ..)
    simp only [ldgCells, List.mem_cons, List.not_mem_nil, or_false] at hz
    rcases hz with rfl | rfl
    · exact regOff_ne at_memScrubCfg at_ldg.1 nofun
    · exact regOff_ne at_memScrubCfg at_ldg.2.1 nofun
  · have row := h.row (gaugeSelfcalStart m) (gaugeSelfcalGoes readings m)
    rw [gaugeSelfcalStart, h.checks (decide_eq_false (by omega)) (by rw [hg]; rfl)] at row
    have db := selfcalBegin_does (x.w 1).toNat s
    refine ⟨_, row, ldgRun_after db (by decide) h.tables (nowStamp_btr (db.only.same .btr (by decide))) .., fun k hk => ?_⟩
    exact selfcalBegin_calibrates h.tables _ hk
  · have du := plbStoreRead_does s
    obtain ⟨u, hu⟩ : ∃ u, u = plbStoreRead s := ⟨_, rfl⟩
    have row := plbRead_begins h hb hd hp hl
    rw [← hu] at row du
    obtain ⟨su, hg⟩ := image_begins du (by decide) (by decide) h.tables m x (imageRun x (plbImage u) [] u) plbReadDone_does (by decide)
    have hready : hostReady (ldgRun m x (.image (imageRun x (plbImage u) [] u)) u) (boxPort m) = true := by
      rw [← hp, hu]
      exact hostReady_of (plbStoreRead_portsVecs s) ((plbStoreRead_does s).only.same .pwr (by decide)) m
    refine ⟨_, u, _, row, hu, rfl, hg.written, fun hlen => ?_⟩
    obtain ⟨g1, g2⟩ := hg.last hready rfl hlen
    have hstore := (hostStore_does (boxPort m) x.bufAddr ((plbImage u).take 64) (ldgRun m x (.image (imageRun x (plbImage u) [] u)) u)).only.same .plb (by decide)
    have hans := su.imageAnswered (du.only.same .btr (by decide)) g1
    have hsend := hg.sends hready rfl (plbImage_ne u)
    rw [show (imageRun x (plbImage u) [] u).todo.take 64 = plbImage u from List.take_of_length_le hlen] at hsend
    refine ⟨by simpa [imageRun] using hans, (congrArg Plumb.read (g2.same .plb (by decide))).trans ?_, _, hsend⟩
    rw [plbReadDone_read]
    exact congrArg (fun p : Plumb => (p.read || decide (p.phase = .held))) hstore
  · have row := cnsRead_begins h hb hd hp hl
    obtain ⟨w, hw⟩ : ∃ w, w = imageRun x (cnsImage s) [imageCode (cnsImage s)] s := ⟨_, rfl⟩
    have hw' : w.todo = cnsImage s ∧ w.sent = 0 := by rw [hw]; exact ⟨rfl, rfl⟩
    obtain ⟨htodo, -⟩ := hw'
    rw [← hw] at row
    obtain ⟨su, hg⟩ := image_begins (Does.refl [] s) (by decide) (by decide) h.tables m x w (cnsReadDone_does (imageCode (cnsImage s)) s.cns.next) (by decide)
    refine ⟨_, w, row, hw, hg.written, fun hlen => ?_, fun hlen => ?_⟩
    · obtain ⟨g1, g2⟩ := hg.last hp rfl (by rw [htodo]; exact hlen)
      have hc := g2.same .cns (by decide)
      have hstore := (hostStore_does (boxPort m) w.addr (w.todo.take 64) (ldgRun m x (.image w) s)).only.same .cns (by decide)
      have hcode : (imageGoes m w false (cnsReadDone (imageCode (cnsImage s)) s.cns.next) (ldgRun m x (.image w) s)).cns.clearCode = imageCode (cnsImage s) :=
        congrArg Cornerstone.clearCode hc
      refine ⟨hcode, ?_, ?_⟩
      · refine (congrArg Cornerstone.moved hc).trans ?_
        show ((hostStore (boxPort m) w.addr (w.todo.take 64) (ldgRun m x (.image w) s)).cns.next != s.cns.next) = false
        rw [hstore]
        exact bne_self_eq_false _
      · have := su.imageAnswered rfl g1
        rw [hcode]
        rw [hw] at this ⊢
        simpa [imageRun] using this
    · exact (hg.more hp rfl (by rw [htodo]; exact hlen)).2.same .cns (by decide)
  · have hg := imageGoes_goes hs hr w (!domOn s 78) plbReadDone_does (by decide)
    have row : exec (.plbRead m) s = .next (imageGoes m w (!domOn s 78) plbReadDone s) :=
      (upNext_up hu).trans (congrArg _ (((lodgeRow_goes hr _ _).trans (if_pos hop)).trans (imageOn_goes hw (fun _ => plbReadDone) s)))
    refine ⟨_, row, hg.written, fun hp hd hlen => ?_⟩
    obtain ⟨-, g2⟩ := hg.last hp (by rw [hd]; rfl) hlen
    have hstore := (hostStore_does (boxPort m) w.addr (w.todo.take 64) s).only.same .plb (by decide)
    refine (congrArg Plumb.read (g2.same .plb (by decide))).trans ?_
    rw [plbReadDone_read, hstore]
  · have hg := imageGoes_goes hs hr w (!domOn s 78) (cnsReadDone_does (w.after.headD 0) w.next) (by decide)
    have row : exec (.cnsRead m) s = .next (imageGoes m w (!domOn s 78) (cnsReadDone (w.after.headD 0) w.next) s) :=
      (upNext_up hu).trans (congrArg _ (((lodgeRow_goes hr _ _).trans (if_pos hop)).trans (imageOn_goes hw (fun w => cnsReadDone (w.after.headD 0) w.next) s)))
    refine ⟨_, row, hg.written, fun hp hd hlen => ?_⟩
    obtain ⟨-, g2⟩ := hg.last hp (by rw [hd]; rfl) hlen
    have hc := g2.same .cns (by decide)
    have hstore := (hostStore_does (boxPort m) w.addr (w.todo.take 64) s).only.same .cns (by decide)
    refine ⟨congrArg Cornerstone.clearCode hc, (congrArg Cornerstone.moved hc).trans ?_⟩
    show ((hostStore (boxPort m) w.addr (w.todo.take 64) s).cns.next != w.next) = _
    rw [hstore]
    exact decide_beq_not
  · have row := h.row (cnsClearStart m) (fun _ t => t)
    rw [cnsClearStart, h.checks rfl rfl, if_pos (by unfold clearGood; rw [hc, hm]; simp)] at row
    have hk := (ldgAtOnce_does m x 0 0 [w32 s.cns.events.length] (cnsClear s)).only.same .cns (by decide)
    exact ⟨_, row, ldgAtOnce_answers (cnsClear_does s) (by decide) (by decide) h.tables h.run .., congrArg Cornerstone.events hk, congrArg Cornerstone.sealed hk,
      congrArg Cornerstone.lost hk, congrArg Cornerstone.clearCode hk⟩
  · have row := h.row (cnsClearStart m) (fun _ t => t)
    rw [cnsClearStart, h.checks rfl rfl, if_neg (by unfold clearGood; simpa using hno)] at row
    exact ⟨_, row, ldgAtOnce_answered h.tables h.run .., (ldgAtOnce_does ..).only.same .cns (by decide)⟩
  · have row := h.row (faultAckBulkStart m) (fun _ t => t)
    rw [faultAckBulkStart, h.checks rfl rfl, if_pos (by rw [hb, hq]; rfl)] at row
    exact ⟨_, row, ldgAtOnce_answered h.tables h.run ..⟩
  · have row := h.row (faultAckBulkStart m) (fun _ t => t)
    rw [faultAckBulkStart, h.checks rfl rfl, if_neg (by rcases hor with e | e <;> simp [e])] at row
    have da := ackWhere_does (ackNames x) s
    refine ⟨_, row, ?_, ldgAtOnce_answers da (by decide) (by decide) h.tables h.run ..⟩
    obtain ⟨hlog, -⟩ := ackWhere_ackedBy h.tables hf (ackNames x)
    exact (ldgAtOnce_log ..).trans hlog
  · have row := h.row (diagLoopStart wrong m) (fun _ t => t)
    rw [diagLoopStart] at row
    rw [hz, h.checks (by simp) (by simp)] at row
    exact ⟨_, row, ldgAtOnce_answered h.tables h.run .., (ldgAtOnce_does ..).only⟩
  · have row := h.row (diagLoopStart wrong m) (fun _ t => t)
    rw [diagLoopStart] at row
    rw [h1, ← hqa, h.checks (by simp [ha, hlo, hhi]) (by rw [hoff]; rfl)] at row
    replace row : exec (.diagLoop m wrong) s = .next (ldgAtOnce m x 0 0 [w32 wrong] (s.hbmStore qa (patternGranule (x.w 4)))) := row
    have hne : patternGranule (x.w 4) ≠ [] := List.ne_nil_of_length_pos (by rw [length_patternGranule]; decide)
    have hbytes (q : Nat) := hbmByte_hbmStore hm hne (qa := qa) q
    rw [length_patternGranule] at hbytes
    have hk : (ldgAtOnce m x 0 0 [w32 wrong] (s.hbmStore qa (patternGranule (x.w 4)))).hbm = (s.hbmStore qa (patternGranule (x.w 4))).hbm :=
      (ldgAtOnce_does ..).only.same .hbm (by decide)
    refine ⟨_, row, ldgAtOnce_answers (State.hbmStore_does ..) (by decide) (by decide) h.tables h.run .., fun i hi => ?_, fun a ha => ?_⟩
    · rw [hk, hbytes, if_pos (by omega), Nat.add_sub_cancel_left]
    · rw [hk, hbytes, if_neg (by omega)]

end Sys2Proof.Machine
end

section
/-!
SUPPORT. The Gauge's tables (R388), the periods of its interlock outputs (R406 to R408), and the statement on the outputs settled.
-/
namespace Sys2Proof.Machine

/-! ### The Gauge's tables -/

theorem gauChan_modChan {s : State} (h : Rises s.gau.chans) (c : Nat) (f : GauChan → GauChan) (q : Nat) :
    gauChan (modChan c f s) q = if q = c then f (gauChan s q) else gauChan s q := by
  by_cases e : q = c
  · rw [if_pos e, e]
    exact smGet_upd_rises h ..
  · rw [if_neg e]
    exact smGet_upd_other h _ _ _ _ _ e

theorem gauOut_modOut {s : State} (h : Rises s.gau.outs) (o : Nat) (f : GauOut → GauOut) (q : Nat) :
    gauOut (modOut o f s) q = if q = o then f (gauOut s q) else gauOut s q := by
  by_cases e : q = o
  · rw [if_pos e, e]
    exact smGet_upd_rises h ..
  · rw [if_neg e]
    exact smGet_upd_other h _ _ _ _ _ e

theorem gauChan_of {s t : State} (h : t.gau.chans = s.gau.chans) (c : Nat) : gauChan t c = gauChan s c := by unfold gauChan; rw [h]

theorem gauConv_of {s t : State} (h : t.gau.convs = s.gau.convs) (k : Nat) : gauConv t k = gauConv s k := by unfold gauConv; rw [h]

theorem gauOut_of {s t : State} (h : t.gau.outs = s.gau.outs) (o : Nat) : gauOut t o = gauOut s o := by unfold gauOut; rw [h]

theorem at_gau : regExists .gauEvt 0 0 = true ∧ regExists .gauCtl 0 0 = true ∧ regExists .gauBlank 0 0 = true ∧
    (∀ o : Fin 16, regExists .gauOutCfg o 0 = true ∧ regExists .gauOutHi o 0 = true ∧ regExists .gauOutLo o 0 = true ∧ regExists .gauOutAux o 0 = true ∧
      regExists .gauOutFreq o 0 = true) ∧
    (∀ c : Fin 72, regExists .gauRes c 0 = true ∧ regExists .gauChCfg c 0 = true) ∧
    ∀ k : Fin 21, regExists .gauConvCfg k 0 = true ∧ ∀ g : Fin 4, regExists .gauCalOfs k g = true ∧ regExists .gauCalGain k g = true := by decide +kernel

theorem nowTime_of {s t : State} (h : t.btr = s.btr) (k : t.quo = s.quo) : nowTime t = nowTime s := by
  unfold nowTime nowCycle nowBt
  rw [h, k]

/-! ### What an output's drive depends on (R406, R407) -/

/-- The registers but for GAU_EVT, the channels, the clocks and what keeps the Gauge running are the same. -/
structure GauSeen (s u : State) : Prop where
  regs : RegsKept [(.gauEvt, 0, 0)] s u
  chans : u.gau.chans = s.gau.chans
  pwr : u.pwr = s.pwr
  isolated : u.flt.isolated = s.flt.isolated
  btr : u.btr = s.btr
  quo : u.quo = s.quo

theorem GauSeen.refl (s : State) : GauSeen s s := ⟨.refl _ s, rfl, rfl, rfl, rfl, rfl⟩

/-- The source of an output that no cause stops is a channel. -/
theorem outCause_zero {t : State} {o : Nat} (hz : Machine.outCause t o = 0) : fld (Machine.cell t .gauOutCfg o) 22 16 < 72 := by
  unfold Machine.outCause at hz
  dsimp only at hz
  split at hz
  · cases hz
  · split at hz
    · cases hz
    · next hn =>
      by_contra hc
      exact hn (by rw [decide_eq_true (Nat.not_lt.1 hc)]; rfl)

section
variable {s u : State} (h : GauSeen s u)
include h

theorem GauSeen.cell {r : Reg} {i : Nat} (hr : regExists r i 0 = true) (hn : r ≠ .gauEvt) : cell u r i = cell s r i :=
  h.regs _ _ _ fun _ hx => by
    rw [List.mem_singleton.1 hx]
    exact regOff_ne hr at_gau.1 fun e => hn (congrArg Prod.fst e)

theorem GauSeen.running : gaugeRunning u = gaugeRunning s := by
  unfold gaugeRunning domOn isIsolated
  rw [powerDom_of h.pwr, powerDom_of h.pwr, h.isolated]

theorem GauSeen.chCfg {c : Nat} (hc : c < 72) : chCfg u c = chCfg s c := h.cell (at_gau.2.2.2.2.1 ⟨c, hc⟩).2 nofun

theorem GauSeen.inScan {c : Nat} (hc : c < 72) : inScan u c = inScan s c := by
  unfold Machine.inScan convertible misconfigured
  rw [h.chCfg hc, h.chCfg (show c - 1 < 72 by omega)]

theorem GauSeen.stale (c ms : Nat) : staleTime u c ms = staleTime s c ms := by
  unfold staleTime
  rw [gauChan_of h.chans, nowTime_of h.btr h.quo]

theorem GauSeen.outCause {o : Nat} (ho : o < 16) : outCause u o = outCause s o := by
  obtain ⟨h1, h2, h3, h4, h5⟩ := at_gau.2.2.2.1 ⟨o, ho⟩
  unfold Machine.outCause
  dsimp only
  rw [h.cell h1 nofun, h.cell h2 nofun, h.cell h3 nofun, h.cell h4 nofun, h.running, h.cell at_gau.2.1 nofun]
  generalize fld (Machine.cell s .gauOutCfg o) 22 16 = c
  by_cases hc : c < 72
  · rw [h.inScan hc, h.cell (at_gau.2.2.2.2.1 ⟨c, hc⟩).1 nofun, h.stale]
  · rw [decide_eq_true (Nat.not_lt.1 hc)]
    simp only [Bool.true_or, if_true]

theorem GauSeen.outDrive {o : Nat} (ho : o < 16) (hz : Machine.outCause s o = 0) : outDrive u o 0 = outDrive s o 0 := by
  obtain ⟨h1, h2, h3, h4, h5⟩ := at_gau.2.2.2.1 ⟨o, ho⟩
  have hc := outCause_zero hz
  unfold Machine.outDrive
  dsimp only
  rw [h.cell h1 nofun, h.cell h2 nofun, h.cell h3 nofun, h.cell h5 nofun, h.chCfg hc, gauChan_of h.chans]

end

/-! ### The read-back of an output (R408) -/

/-- An output with a generator that does not follow its command: on its standby, or failed. -/
def GauOut.mismatched (x : GauOut) : GauOut := if x.standby then { x with failed := true } else { x with standby := true }

/-- What a read-back that does not agree leaves. -/
structure OutSwitched (o : Nat) (s u : State) : Prop where
  seen : GauSeen s u
  out : gauOut u o = (gauOut s o).mismatched
  others : ∀ q : Nat, q ≠ o → gauOut u q = gauOut s q
  evented : Evented .gauEvt 0 21 s u
  told : Reported Src.gauOutSwitch o [w32 o, w32 (1 + (gauOut s o).standby.toNat)] s u
  does : Does [.regs, .flt, .port0, .port1, .gau] s u

theorem outMismatch_switches {s : State} (hs : TablesRise s) {o : Nat} (h : (gauOut s o).highZ = false) : OutSwitched o s (outMismatch o s) := by
  let u := modOut o .mismatched s
  have he : outMismatch o s = raise Src.gauOutSwitch o [w32 o, w32 (1 + (gauOut s o).standby.toNat)] (event .gauEvt 0 21 u) := by
    have hu : u = if (gauOut s o).standby then modOut o (fun y => { y with failed := true }) s else modOut o (fun y => { y with standby := true }) s := by
      show s.modGau (fun g => { g with outs := smPut .reset g.outs o (GauOut.mismatched (gauOut s o)) }) = _
      unfold GauOut.mismatched
      split <;> rfl
    rw [hu]
    unfold outMismatch
    dsimp only
    rw [h]
    rfl
  have d := outMismatch_does o s
  rw [he] at d ⊢
  have hu : Rises u.regs := hs.regs
  refine ⟨⟨(regsKept_ev hu .gauEvt 0 21).trans (.of_regs rfl), ?_, d.only.same .pwr (by decide), ?_, d.only.same .btr (by decide), d.only.same .quo (by decide)⟩,
    ?_, fun q hq => ?_, (evented_event hu ..).keep rfl, reported_raise (event_btr ..), d⟩
  · exact (congrArg Gauge.chans (event_gau .gauEvt 0 21 u) :)
  · exact (congrArg Faults.isolated (event_flt .gauEvt 0 21 u) :)
  · exact (gauOut_of (congrArg Gauge.outs (event_gau ..)) o).trans ((gauOut_modOut hs.gau.2.2 ..).trans (if_pos rfl))
  · exact (gauOut_of (congrArg Gauge.outs (event_gau ..)) q).trans ((gauOut_modOut hs.gau.2.2 ..).trans (if_neg hq))

/-! ### A period of an output (R406 to R408) -/

/-- An output that is high impedance. -/
def GauOut.released (x : GauOut) : GauOut := { x with highZ := true, fault := false, cause := 0, duty := 0, freq := 0 }

/-- An output that is driven. -/
def GauOut.driven (k : Nat) (d : Nat × Nat) (x : GauOut) : GauOut := { x with highZ := false, fault := decide (k ≠ 0), cause := k, duty := d.1, freq := d.2 }

/-- The output after its period has begun on the state `u`. -/
def periodOut (o : Nat) (u : State) : State :=
  if !bit (cell u .gauOutCfg o) 31 || (gauOut u o).failed || !domOn u 77 then modOut o .released u
  else modOut o (.driven (outCause u o) (outDrive u o (outCause u o))) u

theorem outputPeriod_eq (o : Nat) (r : GauReadback) (s : State) : outputPeriod o r s = periodOut o (if readsBack (gauOut s o) r then s else outMismatch o s) := rfl

theorem readsBack_bad (x : GauOut) (r : GauReadback) : (decide (r.edges < 2) ||
    decide (10 * r.period < ((1000 * r.high : Nat) - (x.duty * r.period : Nat) : Int).natAbs)) = !readsBack x r := by
  unfold readsBack
  rw [Bool.not_and, ← decide_not, ← decide_not, decide_eq_decide.2 Nat.not_le, decide_eq_decide.2 Nat.not_le]

/-- What a period leaves of an output whose read-back has been dealt with. -/
theorem periodOut_drives {s u : State} (hu : Rises u.gau.outs) {o : Nat} (ho : o < 16) (h : GauSeen s u) :
    (gauOut (periodOut o u) o).standby = (gauOut u o).standby ∧ (gauOut (periodOut o u) o).failed = (gauOut u o).failed ∧
      (bit (cell s .gauOutCfg o) 31 = false ∨ (gauOut (periodOut o u) o).failed = true ∨ domOn s 77 = false →
        (gauOut (periodOut o u) o) = (gauOut u o).released) ∧
      (bit (cell s .gauOutCfg o) 31 = true → (gauOut (periodOut o u) o).failed = false → domOn s 77 = true →
        (gauOut (periodOut o u) o) = (gauOut u o).driven (outCause s o) (outDrive s o (outCause s o))) ∧
      ∀ q : Nat, q ≠ o → gauOut (periodOut o u) q = gauOut u q := by
  have hw : cell u .gauOutCfg o = cell s .gauOutCfg o := h.cell (at_gau.2.2.2.1 ⟨o, ho⟩).1 nofun
  have hd : domOn u 77 = domOn s 77 := by unfold domOn; rw [powerDom_of h.pwr]
  have hk := h.outCause ho
  have hdrive : outDrive u o (outCause s o) = outDrive s o (outCause s o) := by
    by_cases hz : outCause s o = 0
    · rw [hz]
      exact h.outDrive ho hz
    · unfold outDrive
      dsimp only
      rw [if_pos hz, if_pos hz, hw, h.cell (at_gau.2.2.2.1 ⟨o, ho⟩).2.2.2.2 nofun]
  unfold periodOut
  rw [hw, hd, hk, hdrive]
  by_cases hc : (!bit (cell s .gauOutCfg o) 31 || (gauOut u o).failed || !domOn s 77) = true
  · rw [if_pos hc, gauOut_modOut hu, if_pos rfl]
    refine ⟨rfl, rfl, fun _ => rfl, fun h1 h2 h3 => ?_, fun q hq => (gauOut_modOut hu ..).trans (if_neg hq)⟩
    have h2' : (gauOut u o).failed = false := h2
    rw [h1, h2', h3] at hc
    cases hc
  · rw [if_neg hc, gauOut_modOut hu, if_pos rfl]
    refine ⟨rfl, rfl, fun hor => ?_, fun _ _ _ => rfl, fun q hq => (gauOut_modOut hu ..).trans (if_neg hq)⟩
    refine absurd ?_ hc
    rcases hor with e | e | e
    · rw [e]; rfl
    · have e' : (gauOut u o).failed = true := e
      rw [e']
      simp
    · rw [e]; simp

/-- Settles O54. -/
theorem interlockOutputs : Obligations.InterlockOutputs := by
  unfold Obligations.InterlockOutputs
  intro o r bad w s hu hs hw hbad
  subst hw
  refine ⟨_, upNext_up hu, (outputPeriod_does ..).only, ?_⟩
  rw [readsBack_bad] at hbad
  obtain ⟨u, hu⟩ : ∃ u, u = if readsBack (gauOut s o) r then s else outMismatch o s := ⟨_, rfl⟩
  have hcase : (bad = false ∧ u = s) ∨ (bad = true ∧ OutSwitched o s u) := by
    rw [hbad, hu]
    by_cases hr : readsBack (gauOut s o) r = true
    · exact .inl ⟨by rw [hr]; simp, if_pos hr⟩
    · rw [if_neg hr, Bool.eq_false_iff.2 hr]
      cases hz : (gauOut s o).highZ with
      | true =>
        refine .inl ⟨rfl, ?_⟩
        unfold outMismatch
        dsimp only
        rw [if_pos hz]
      | false => exact .inr ⟨rfl, outMismatch_switches hs hz⟩
  have hseen : GauSeen s u := hcase.elim (fun h => h.2 ▸ .refl s) fun h => h.2.seen
  have hrise : Rises u.gau.outs := hcase.elim (fun h => h.2 ▸ hs.gau.2.2) fun h => (h.2.does.tables hs).gau.2.2
  obtain ⟨p1, p2, p3, p4, p5⟩ := periodOut_drives hrise o.isLt hseen
  have hsame : (periodOut o u).regs = u.regs ∧ (periodOut o u).flt = u.flt := by
    unfold periodOut
    split <;> exact ⟨rfl, rfl⟩
  rw [outputPeriod_eq, ← hu]
  refine ⟨hseen.regs.trans (.of_regs hsame.1), fun h => ?_, fun h => ?_, fun h => ?_, fun h1 h2 h3 => ?_, fun q hq => (p5 q hq).trans ?_⟩
  · rcases hcase with ⟨-, rfl⟩ | ⟨hb, -⟩
    · exact ⟨hsame.2, hsame.1, p1, p2⟩
    · rw [h] at hb
      cases hb
  · rcases hcase with ⟨hb, -⟩ | ⟨-, hsw⟩
    · rw [h] at hb
      cases hb
    · obtain ⟨-, hout, -, hev, htold, -⟩ := hsw
      refine ⟨hev.keep hsame.1, fun hst => ?_, fun hst => ?_⟩
      · rw [p1, p2, hout]
        unfold GauOut.mismatched
        rw [hst] at htold ⊢
        exact ⟨rfl, rfl, htold.keep hsame.2⟩
      · rw [p1, p2, hout]
        unfold GauOut.mismatched
        rw [hst] at htold ⊢
        exact ⟨if_pos rfl ▸ rfl, rfl, htold.keep hsame.2⟩
  · rw [p3 h]
    exact ⟨rfl, rfl, rfl, rfl, rfl⟩
  · rw [p4 h1 h2 h3]
    refine ⟨rfl, rfl, rfl, fun hn => ?_, fun hn => ?_, fun hz => ?_⟩
    · show (outDrive s o (outCause s o)).1 = _
      unfold outDrive
      dsimp only
      rw [if_pos hn]
    · show (outDrive s o (outCause s o)).2 = _
      unfold outDrive
      dsimp only
      rw [if_pos hn]
    · show (outDrive s o (outCause s o)) = _
      rw [hz]
  · rcases hcase with ⟨-, rfl⟩ | ⟨-, hsw⟩
    · rfl
    · exact hsw.others q hq

end Sys2Proof.Machine
end

section
/-!
SUPPORT. The statement on the Gauge's sources refuted: what it says of a BLANK_N pin leaves out that the Gauge's tables are in order.
-/
namespace Sys2Proof.Machine

/-- A Gauge whose table of converters lists converter 0 twice, the first time at its reset value. -/
def convTwice : State :=
  { State.reset with gau := { Gauge.reset with convs := [(0, .reset), (0, { GauConv.reset with visit := 1 })] } }

/-- A store of the reset value takes the first entry of converter 0 out, and the second one shows. -/
theorem convTwice_visit : (gauConv convTwice 0).visit = 0 ∧ (gauConv (blankEdge 0 false convTwice) 0).visit = 1 := by decide +kernel

/-- Refutes O53: its clause on the pins has no premise that the tables rise, and in a table that lists a converter twice an edge of BLANK_N changes more
than the conversion in progress. -/
theorem not_gaugeSources : ¬ Obligations.GaugeSources := by
  intro h
  obtain ⟨t, ht, -, -, -, -, hc⟩ := h.2.1 0 false convTwice
  cases ht
  have hv := congrArg GauConv.visit (hc 0 (by decide))
  exact absurd (convTwice_visit.2.symm.trans (hv.trans convTwice_visit.1)) (by decide)

end Sys2Proof.Machine
end

section
/-!
SUPPORT. Conversions of the Gauge at their end (R392, R395, R396, R399, R401) and the burnout check (R400).
-/
namespace Sys2Proof.Machine

/-! ### The word of a result (R396) -/

theorem bit_or (v w : Word) (b : Nat) : bit (v ||| w) b = (bit v b || bit w b) := BitVec.getLsbD_or

theorem bit_flag (a b : Nat) (x : Bool) : bit (mkFld a a x.toNat) b = (decide (b < 32) && decide (b = a) && x) := by
  have he : decide (a ≤ b ∧ b ≤ a) = decide (b = a) := decide_eq_decide.2 (by omega)
  rw [bit, bit_mkFld, he]
  by_cases h : b = a
  · subst h
    cases x <;> simp
  · simp [h]

theorem bit_code (n b : Nat) (h : b < 8) : bit (mkFld 31 8 n) b = false := by
  rw [bit, bit_mkFld, decide_eq_false (show ¬ (8 ≤ b ∧ b ≤ 31) by omega)]
  simp

section
variable (code : Nat) (settle ovr open_ blanked uncal free nodata timebase : Bool)

/-- The eight flags of a result. -/
theorem resultWord_flags : let w := resultWord code settle ovr open_ blanked uncal free nodata timebase
    bit w 7 = settle ∧ bit w 6 = ovr ∧ bit w 5 = open_ ∧ bit w 4 = blanked ∧ bit w 3 = uncal ∧ bit w 2 = free ∧ bit w 1 = nodata ∧ bit w 0 = timebase := by
  dsimp only
  unfold resultWord
  simp [bit_or, bit_flag, bit_code]

theorem resultWord_code (h : code < 2 ^ 24) : fld (resultWord code settle ovr open_ blanked uncal free nodata timebase) 31 8 = code := by
  unfold resultWord
  simp only [fld_or]
  rw [fld_mkFld_same (by decide), fld_mkFld_other (by decide), fld_mkFld_other (by decide), fld_mkFld_other (by decide), fld_mkFld_other (by decide),
    fld_mkFld_other (by decide), fld_mkFld_other (by decide), fld_mkFld_other (by decide), fld_mkFld_other (by decide)]
  simpa using Nat.mod_eq_of_lt h

end

/-! ### The code of a conversion (R395, R401) -/

theorem openCode_lt (sg : Bool) : openCode sg < 2 ^ 24 := by cases sg <;> decide

theorem unsigned_24 (x : Int) : unsigned 24 x < 2 ^ 24 := by
  unfold unsigned
  have h := Int.emod_lt_of_pos x (show (0 : Int) < (2 ^ 24 : Nat) by decide)
  have h0 := Int.emod_nonneg x (show ((2 ^ 24 : Nat) : Int) ≠ 0 by decide)
  omega

theorem codeOf_lt (sg : Bool) (v : Int) (sat : Option Bool) : (codeOf sg v sat).1 < 2 ^ 24 := by
  unfold codeOf
  split
  · dsimp only
    split
    · decide
    · split
      · decide
      · exact unsigned_24 _
  · split
    · decide
    · dsimp only
      omega

/-- What a conversion gives: its full period and the part of it that counts. -/
def GauRun.full (x : GauRun) : Nat := periodCycles x.nplc x.mains
def GauRun.unblanked (x : GauRun) (r : GauReading) : Nat :=
  if x.blankEn && x.wasBlank then (if x.wasClear then min x.full r.unblanked else 0) else x.full

theorem periodCycles_pos (n : Nat) (m : Bool) : 0 < periodCycles n m := by
  unfold periodCycles
  refine Nat.mul_pos ?_ (by split <;> decide)
  split <;> decide

theorem unblanked_le (x : GauRun) (r : GauReading) : x.unblanked r ≤ x.full := by
  unfold GauRun.unblanked
  split
  · split
    · exact Nat.min_le_left ..
    · exact Nat.zero_le _
  · exact Nat.le_refl _

/-- R395, R396, R401, R405: a conversion case by case. -/
theorem convert_cases (s : State) (x : GauRun) (r : GauReading) :
    ((x.wasOpen || resultOpen s x.channel) = true →
      convert s x r = (openCode (chSigned x.channel x.cfg), false, true, decide (x.full < 10 * (x.full - x.unblanked r)), false)) ∧
    ((x.wasOpen || resultOpen s x.channel) = false → 10 * x.unblanked r < x.full → convert s x r = (0, false, false, true, true)) ∧
    ((x.wasOpen || resultOpen s x.channel) = false → x.full ≤ 10 * x.unblanked r → ∀ k : Nat × Bool,
      k = codeOf (chSigned x.channel x.cfg) (calibrated (rawValue (chGain x.channel x.cfg) x.mode r x.full (x.unblanked r)) x.offset x.gain) r.saturated →
      convert s x r = (k.1, k.2, false, decide (x.full < 10 * (x.full - x.unblanked r)), false)) := by
  unfold convert
  dsimp only
  refine ⟨fun h => by rw [if_pos h]; rfl, fun h hn => ?_, fun h hn k hk => ?_⟩
  · rw [if_neg (by rw [h]; decide)]
    exact if_pos (decide_eq_true hn)
  · rw [if_neg (by rw [h]; decide), hk]
    exact if_neg (fun hc => absurd (of_decide_eq_true hc) (Nat.not_lt.2 hn))

theorem convert_lt (s : State) (x : GauRun) (r : GauReading) : (convert s x r).1 < 2 ^ 24 := by
  obtain ⟨h1, h2, h3⟩ := convert_cases s x r
  cases ho : x.wasOpen || resultOpen s x.channel with
  | true =>
    rw [h1 ho]
    exact openCode_lt _
  | false =>
    by_cases hn : 10 * x.unblanked r < x.full
    · rw [h2 ho hn]
      decide
    · rw [h3 ho (Nat.not_lt.1 hn) _ rfl]
      exact codeOf_lt ..

/-- BLANKED as R401 has it, whatever the conversion gives. -/
theorem convert_blanked (s : State) (x : GauRun) (r : GauReading) : (convert s x r).2.2.2.1 = decide (x.full < 10 * (x.full - x.unblanked r)) := by
  obtain ⟨h1, h2, h3⟩ := convert_cases s x r
  cases ho : x.wasOpen || resultOpen s x.channel with
  | true => rw [h1 ho]
  | false =>
    by_cases hn : 10 * x.unblanked r < x.full
    · rw [h2 ho hn]
      have := unblanked_le x r
      exact (decide_eq_true (by omega)).symm
    · rw [h3 ho (Nat.not_lt.1 hn) _ rfl]

/-! ### A result is published (R396) -/

/-- A channel with a new result. -/
def GauChan.published (w : Word) (settle ovr : Bool) (s : State) (x : GauChan) : GauChan :=
  { x with
    count := (x.count + 1) % 256, time := nowTime s, tag := timeTag s, course := nowCourse s, settleLeft := x.settleLeft - 1
    clean := if settle then x.clean else some (w, nowTime s), lastOvr := ovr, sinceCheck := x.sinceCheck + 1 }

/-- A channel whose last result is overranged or not. -/
def GauChan.noted (ovr : Bool) (y : GauChan) : GauChan := { y with lastOvr := ovr, sinceCheck := y.sinceCheck + 1 }

/-- A converter that has ended a conversion. -/
def GauConv.ended (long : Bool) (v : GauConv) : GauConv := { v with run := none, visit := v.visit + 1, longStep := long }

/-- The word that a conversion publishes. -/
def resultOf (s : State) (x : GauRun) (r : GauReading) : Word :=
  let res := convert s x r
  resultWord res.1 (decide (0 < (gauChan s x.channel).settleLeft)) res.2.1 res.2.2.1 res.2.2.2.1 (!x.valid) (s.quo.worst == 2) res.2.2.2.2 (!s.quo.xoOk)

/-- The state with a result published, before its overrange is raised. -/
structure ResultShown (k : Nat) (x : GauRun) (r : GauReading) (s u : State) : Prop where
  word : cell u .gauRes x.channel = resultOf s x r
  regs : RegsKept [(.gauRes, x.channel, 0)] s u
  chans : ∀ c, gauChan u c = if c = x.channel then (gauChan s c).published (resultOf s x r) (decide (0 < (gauChan s x.channel).settleLeft)) (convert s x r).2.1 s
    else gauChan s c
  convs : ∀ q, gauConv u q = if q = k then (gauConv s q).ended ((convert s x r).2.1 || (convert s x r).2.2.1) else gauConv s q
  flt : u.flt = s.flt
  btr : u.btr = s.btr

theorem conversionEnd_shows {s : State} (hs : TablesRise s) {k : Nat} {x : GauRun} (hr : (gauConv s k).run = some x) (r : GauReading) :
    ∃ u : State, ResultShown k x r s u ∧ Rises u.regs ∧ conversionEnd k r s =
      if (convert s x r).2.1 && !(gauChan s x.channel).lastOvr then raise Src.gauOverrange x.channel [w32 x.channel, w32 (convert s x r).1] (event .gauEvt 0 16 u) else u := by
  let c := x.channel
  let w := resultOf s x r
  let settle := decide (0 < (gauChan s c).settleLeft)
  let ovr := (convert s x r).2.1
  let v := publishResult c w settle s
  let u := modConv k (.ended (ovr || (convert s x r).2.2.1)) (modChan c (.noted ovr) v)
  have hv : Rises v.gau.chans := ((modChan_does c _ (setCell .gauRes c 0 w s)).tables ((setCell_does .gauRes c 0 w s).tables hs)).gau.2.1
  have hu : (modChan c (.noted ovr) v).gau.convs = s.gau.convs := rfl
  refine ⟨u, ⟨cell_setCell hs.regs .gauRes c 0 w, regsKept_setCell hs.regs .gauRes c 0 w, fun q => ?_, fun q => ?_, rfl, rfl⟩, rises_setCell hs.regs .gauRes c 0 w, ?_⟩
  · refine Eq.trans (b := if q = c then (gauChan v q).noted ovr else gauChan v q) (gauChan_modChan hv c (.noted ovr) q) ?_
    have hp : gauChan v q = if q = c then _ else gauChan s q := gauChan_modChan (s := setCell .gauRes c 0 w s) hs.gau.2.1 c _ q
    rw [hp]
    by_cases e : q = c
    · rw [if_pos e, if_pos e, if_pos e]
      rfl
    · rw [if_neg e, if_neg e, if_neg e]
  · exact gauConv_modConv (s := modChan c (.noted ovr) v) hs.gau.1 k _ q
  · unfold conversionEnd
    rw [hr]
    rfl

/-! ### The burnout check (R400) -/

/-- A channel whose input has been checked. -/
def GauChan.checked (isOpen : Bool) (y : GauChan) : GauChan := { y with sinceCheck := 0, burnout := isOpen }

/-- R400: the burnout check of a converter's channel is due. -/
def checkDue (s : State) (k c : Nat) : Bool :=
  conversionsOn s k && (gauConv s k).run.isNone && decide (c < 64) && [1, 3, 4].contains (actMode s c) && !blanking s &&
    (decide (16 ≤ (gauChan s c).sinceCheck) || ((gauChan s c).burnout && decide (1 ≤ (gauChan s c).sinceCheck)))

theorem burnoutCheck_eq {s : State} {k c : Nat} (h : (gauConv s k).connected = some c) (isOpen : Bool) : burnoutCheck k isOpen s =
    if checkDue s k c then
      if isOpen && !(gauChan s c).burnout then openRaised c (modChan c (.checked isOpen) s)
      else if !isOpen && (gauChan s c).burnout then settleTwo c (modChan c (.checked isOpen) s)
      else modChan c (.checked isOpen) s
    else s := by
  have hm : [1, 3, 4].contains (actMode s c) = (actMode s c == 1 || actMode s c == 3 || actMode s c == 4) := by
    simp only [List.contains_cons, List.contains_nil, Bool.or_false, Bool.or_assoc]
  unfold burnoutCheck
  rw [h]
  unfold checkDue
  rw [hm]
  rfl

end Sys2Proof.Machine
end

section
/-!
SUPPORT. The multiplexer's step (R394) and the start of an integration (R392, R393, R397, R403).
-/
namespace Sys2Proof.Machine

/-! ### The scan (R394) -/

theorem convChans_sorted (k : Nat) : (convChans k).Pairwise (· < ·) := by
  unfold convChans
  split
  · exact List.pairwise_singleton ..
  · split
    · exact List.pairwise_map.2 (List.pairwise_lt_range.imp fun h => by omega)
    · exact List.pairwise_map.2 (List.pairwise_lt_range.imp fun h => by omega)

theorem find_gt_first {l : List Nat} (hl : l.Pairwise (· < ·)) {a c : Nat} (h : l.find? (fun x => decide (a < x)) = some c) :
    ∀ d ∈ l, d < c → d ≤ a := by
  induction l with
  | nil => cases h
  | cons e l ih =>
    obtain ⟨he, hl'⟩ := List.pairwise_cons.1 hl
    intro d hd hlt
    by_cases hc : a < e
    · rw [List.find?_cons_of_pos (by simpa using hc)] at h
      cases h
      rcases List.mem_cons.1 hd with rfl | hd
      · exact absurd hlt (Nat.lt_irrefl _)
      · exact absurd (he d hd) (by omega)
    · rw [List.find?_cons_of_neg (by simpa using hc)] at h
      rcases List.mem_cons.1 hd with rfl | hd
      · omega
      · exact ih hl' h d hd hlt

theorem head_least {l : List Nat} (hl : l.Pairwise (· < ·)) {c : Nat} (h : l.head? = some c) : ∀ d ∈ l, c ≤ d := by
  cases l with
  | nil => cases h
  | cons e l =>
    cases h
    intro d hd
    rcases List.mem_cons.1 hd with rfl | hd
    · exact Nat.le_refl _
    · exact Nat.le_of_lt ((List.pairwise_cons.1 hl).1 d hd)

/-- R394: the channel after one in the scan list, in rising order and around. -/
theorem nextChan_next (s : State) (k : Nat) (after : Option Nat) :
    (nextChan s k after = none → ∀ d ∈ convChans k, inScan s d = false) ∧
      ∀ c : Nat, nextChan s k after = some c → c ∈ convChans k ∧ inScan s c = true ∧
        ∀ d ∈ convChans k, inScan s d = true → (d < c → ∃ a : Nat, after = some a ∧ d ≤ a ∧ a < c) ∧ ∀ a : Nat, after = some a → c ≤ a → d ≤ a := by
  let l := (convChans k).filter (inScan s)
  have hl : l.Pairwise (· < ·) := (convChans_sorted k).sublist List.filter_sublist
  have hmem {d : Nat} : d ∈ l ↔ d ∈ convChans k ∧ inScan s d = true := List.mem_filter
  have hnone (h : l.head? = none) : ∀ d ∈ convChans k, inScan s d = false := fun d hd => by
    have : l = [] := List.head?_eq_none_iff.1 h
    exact Bool.eq_false_iff.2 fun hs => by
      have := hmem.2 ⟨hd, hs⟩
      rw [‹l = []›] at this
      cases this
  have hhead {c : Nat} (h : l.head? = some c) (ha : ∀ a : Nat, after = some a → ∀ d ∈ l, d ≤ a) : c ∈ convChans k ∧ inScan s c = true ∧
      ∀ d ∈ convChans k, inScan s d = true → (d < c → ∃ a : Nat, after = some a ∧ d ≤ a ∧ a < c) ∧ ∀ a : Nat, after = some a → c ≤ a → d ≤ a := by
    obtain ⟨h1, h2⟩ := hmem.1 (List.mem_of_mem_head? h)
    exact ⟨h1, h2, fun d hd hs => ⟨fun hlt => absurd (head_least hl h d (hmem.2 ⟨hd, hs⟩)) (by omega), fun a hn _ => ha a hn d (hmem.2 ⟨hd, hs⟩)⟩⟩
  unfold nextChan
  dsimp only
  cases after with
  | none => exact ⟨hnone, fun c h => hhead h nofun⟩
  | some a =>
    dsimp only
    cases hf : l.find? (fun x => decide (a < x)) with
    | some x =>
      refine ⟨nofun, fun c h => ?_⟩
      cases h
      obtain ⟨h1, h2⟩ := hmem.1 (List.mem_of_find?_eq_some hf)
      have hx : a < x := by simpa using List.find?_some hf
      exact ⟨h1, h2, fun d hd hs => ⟨fun hlt => ⟨a, rfl, find_gt_first hl hf d (hmem.2 ⟨hd, hs⟩) hlt, hx⟩, fun b hb hc => by cases hb; omega⟩⟩
    | none =>
      refine ⟨hnone, fun c h => hhead h fun b hb d hd => ?_⟩
      cases hb
      simpa using List.find?_eq_none.1 hf d hd

/-- A converter that has connected a channel. -/
def GauConv.stepped (n : Option Nat) (v : GauConv) : GauConv := { v with connected := n, visit := 0, longStep := false }

/-- A channel that has just been connected. -/
def GauChan.connects (x : GauChan) : GauChan := { x with settleLeft := max 1 x.settleLeft }

/-- R394: a converter's step is due and can be made. -/
def muxReady (s : State) (k : Nat) : Bool := decide (16 ≤ k) && conversionsOn s k && (gauConv s k).run.isNone && stepDue s k

theorem muxStep_eq (k : Nat) (s : State) : muxStep k s = if muxReady s k then
    (match nextChan s k (gauConv s k).connected with
    | some c => modChan c .connects (modConv k (.stepped (nextChan s k (gauConv s k).connected)) s)
    | none => modConv k (.stepped (nextChan s k (gauConv s k).connected)) s) else s := rfl

theorem muxStep_steps {s : State} (hs : TablesRise s) {k : Nat} (h : muxReady s k = true) :
    (∀ q, gauConv (muxStep k s) q = if q = k then (gauConv s q).stepped (nextChan s k (gauConv s k).connected) else gauConv s q) ∧
      (nextChan s k (gauConv s k).connected = none → ∀ c, gauChan (muxStep k s) c = gauChan s c) ∧
      ∀ c, nextChan s k (gauConv s k).connected = some c → ∀ q, gauChan (muxStep k s) q = if q = c then (gauChan s q).connects else gauChan s q := by
  rw [muxStep_eq, if_pos h]
  cases nextChan s k (gauConv s k).connected with
  | none => exact ⟨fun q => gauConv_modConv hs.gau.1 .., fun _ _ => rfl, nofun⟩
  | some c =>
    refine ⟨fun q => (gauConv_modConv hs.gau.1 k (.stepped (some c)) q :), nofun, fun d hd q => ?_⟩
    cases hd
    exact gauChan_modChan (s := modConv k (.stepped (some c)) s) hs.gau.2.1 ..

/-! ### What takes effect at the start of an integration (R397) -/

/-- A channel whose waiting change has come into force. -/
def GauChan.settled (w : Word) (x : GauChan) : GauChan := if x.excPending then x.apply w else x

/-- The same, of a channel of the converter: with SETTLE for two results where the converter's period or factors have changed. -/
def GauChan.begun (b : Bool) (w : Word) (x : GauChan) : GauChan := if b then { x.settled w with settleLeft := 2 } else x.settled w

theorem GauChan.settled_pending (w : Word) (x : GauChan) : (x.settled w).excPending = false := by
  unfold settled
  split
  · rfl
  · next h => simpa using h

theorem GauChan.begun_pending (b : Bool) (w : Word) (x : GauChan) : (x.begun b w).excPending = false := by
  unfold begun
  split
  · exact settled_pending w x
  · exact settled_pending w x

theorem GauChan.settled_none {x : GauChan} (h : x.excPending = false) (w : Word) : x.settled w = x := if_neg (by rw [h]; decide)

theorem GauChan.begun_of_settled (b : Bool) (w : Word) (x : GauChan) : (x.settled w).begun b w = x.begun b w := by
  unfold begun
  rw [settled_none (settled_pending w x)]

theorem GauChan.settled_of_begun (b : Bool) (w : Word) (x : GauChan) : (x.begun b w).settled w = x.begun b w := settled_none (begun_pending b w x) w

theorem GauChan.begun_of_begun (b : Bool) (w : Word) (x : GauChan) : (x.begun b w).begun b w = x.begun b w := by
  cases b with
  | true =>
    show { (x.begun true w).settled w with settleLeft := 2 } = _
    rw [settled_of_begun]
    rfl
  | false => exact settled_of_begun false w x

/-- The state but for the Gauge's channels. -/
structure ChansOnly (s u : State) : Prop where
  eq : u = { s with gau := { s.gau with chans := u.gau.chans } }

theorem ChansOnly.refl (s : State) : ChansOnly s s := ⟨rfl⟩

theorem ChansOnly.trans {s t u : State} (h : ChansOnly s t) (k : ChansOnly t u) : ChansOnly s u := ⟨by rw [k.eq, h.eq]⟩

theorem ChansOnly.modChan (c : Nat) (f : GauChan → GauChan) (s : State) : ChansOnly s (modChan c f s) := ⟨rfl⟩

theorem ChansOnly.chCfg {s u : State} (h : ChansOnly s u) (c : Nat) : chCfg u c = chCfg s c := by rw [h.eq]; rfl

theorem excApply_settles {s : State} (hs : Rises s.gau.chans) (c q : Nat) :
    gauChan (excApply c s) q = if q = c then (gauChan s q).settled (chCfg s q) else gauChan s q := by
  unfold excApply GauChan.settled
  by_cases hp : (gauChan s c).excPending = true
  · rw [if_pos hp, gauChan_modChan hs]
    by_cases e : q = c
    · subst e
      rw [if_pos rfl, if_pos rfl, if_pos hp]
    · rw [if_neg e, if_neg e]
  · rw [if_neg hp]
    by_cases e : q = c
    · subst e
      rw [if_pos rfl, if_neg hp]
    · rw [if_neg e]

theorem excApply_only (c : Nat) (s : State) : ChansOnly s (excApply c s) := by
  unfold excApply
  split
  · exact .modChan ..
  · exact .refl _

theorem rises_excApply {s : State} (hs : Rises s.gau.chans) (c : Nat) : Rises (excApply c s).gau.chans := by
  unfold excApply
  split
  · exact rises_upd hs
  · exact hs

/-- A channel whose source a channel senses by its configuration. -/
def sensed (s : State) (c q : Nat) : Bool := decide (c % 2 = 1) && isSense (cfgMode (chCfg s c)) && decide (q = c - 1)

theorem excApplies_settles {s : State} (hs : Rises s.gau.chans) (c q : Nat) :
    gauChan (excApplies c s) q = if q = c ∨ sensed s c q = true then (gauChan s q).settled (chCfg s q) else gauChan s q := by
  unfold excApplies sensed
  by_cases hc : c % 2 = 1 ∧ isSense (cfgMode (chCfg s c)) = true
  · rw [if_pos hc, excApply_settles (rises_excApply hs _), (excApply_only ..).chCfg, excApply_settles hs, decide_eq_true hc.1, hc.2]
    have hne : c ≠ c - 1 := by omega
    by_cases e : q = c
    · subst e
      rw [if_pos rfl, if_neg hne, if_pos (.inl rfl)]
    · by_cases e' : q = c - 1
      · rw [if_neg e, if_pos e', if_pos (.inr (by simp [e']))]
      · rw [if_neg e, if_neg e', if_neg (by simp [e, e'])]
  · have hb : (decide (c % 2 = 1) && isSense (cfgMode (chCfg s c))) = false := by
      simp only [Bool.and_eq_false_iff, decide_eq_false_iff_not]
      by_cases h : c % 2 = 1
      · exact .inr (Bool.eq_false_iff.2 fun k => hc ⟨h, k⟩)
      · exact .inl h
    rw [if_neg hc, excApply_settles hs, hb, Bool.false_and]
    simp

theorem excApplies_only (c : Nat) (s : State) : ChansOnly s (excApplies c s) := by
  unfold excApplies
  refine ChansOnly.trans ?_ (excApply_only ..)
  split
  · exact excApply_only ..
  · exact .refl _

/-- One channel of a converter at the start of an integration. -/
def startChannel (b : Bool) (d : Nat) (t : State) : State := if b then settleTwo d (excApplies d t) else excApplies d t

theorem startChannel_only (b : Bool) (d : Nat) (s : State) : ChansOnly s (startChannel b d s) := by
  unfold startChannel
  split
  · exact (excApplies_only d s).trans (.modChan ..)
  · exact excApplies_only d s

theorem startChannel_tables {s : State} (hs : TablesRise s) (b : Bool) (d : Nat) : TablesRise (startChannel b d s) := by
  unfold startChannel
  split
  · exact (settleTwo_does ..).tables ((excApplies_does ..).tables hs)
  · exact (excApplies_does ..).tables hs

theorem startChannel_begins {s : State} (hs : TablesRise s) (b : Bool) (d q : Nat) : gauChan (startChannel b d s) q =
    if q = d then (gauChan s q).begun b (chCfg s q) else if sensed s d q = true then (gauChan s q).settled (chCfg s q) else gauChan s q := by
  have h := excApplies_settles hs.gau.2.1 d q
  have hsplit : (if q = d ∨ sensed s d q = true then (gauChan s q).settled (chCfg s q) else gauChan s q) =
      if q = d then (gauChan s q).settled (chCfg s q) else if sensed s d q = true then (gauChan s q).settled (chCfg s q) else gauChan s q := by
    by_cases e : q = d
    · rw [if_pos (.inl e), if_pos e]
    · rw [if_neg e]
      simp only [e, false_or]
  rw [hsplit] at h
  unfold startChannel GauChan.begun
  cases b with
  | false => exact h
  | true =>
    show gauChan (settleTwo d (excApplies d s)) q = _
    unfold settleTwo
    rw [gauChan_modChan ((excApplies_does ..).tables hs).gau.2.1, h]
    by_cases e : q = d
    · simp only [if_pos e]
      rfl
    · simp only [if_neg e]

/-- A channel whose source one of the channels of a list senses. -/
def sensedBy (s : State) (l : List Nat) (q : Nat) : Bool := l.any (fun d => sensed s d q)

/-- The channels of a converter at the start of an integration. -/
theorem startChannels_begin (b : Bool) (l : List Nat) : ∀ {s : State}, TablesRise s → ChansOnly s (forL l (startChannel b) s) ∧
    TablesRise (forL l (startChannel b) s) ∧ ∀ q, gauChan (forL l (startChannel b) s) q =
      if q ∈ l then (gauChan s q).begun b (chCfg s q) else if sensedBy s l q = true then (gauChan s q).settled (chCfg s q) else gauChan s q := by
  induction l with
  | nil => exact fun hs => ⟨.refl _, hs, fun _ => rfl⟩
  | cons d l ih =>
    intro s hs
    have h1 := startChannel_only b d s
    obtain ⟨i1, i2, i3⟩ := ih (startChannel_tables hs b d)
    refine ⟨h1.trans i1, i2, fun q => ?_⟩
    rw [forL_cons, i3, h1.chCfg, startChannel_begins hs]
    have hsens : sensedBy (startChannel b d s) l q = sensedBy s l q := by
      unfold sensedBy sensed
      simp only [h1.chCfg]
    have hcons : sensedBy s (d :: l) q = (sensed s d q || sensedBy s l q) := rfl
    rw [hsens, hcons]
    by_cases e : q = d
    · rw [if_pos e, if_pos (List.mem_cons.2 (.inl e))]
      split
      · exact GauChan.begun_of_begun ..
      · split
        · exact GauChan.settled_of_begun ..
        · rfl
    · rw [if_neg e]
      by_cases hm : q ∈ l
      · rw [if_pos hm, if_pos (List.mem_cons.2 (.inr hm))]
        split
        · exact GauChan.begun_of_settled ..
        · rfl
      · rw [if_neg hm, if_neg (fun h => (List.mem_cons.1 h).elim e hm)]
        cases hd : sensed s d q with
        | false => simp
        | true =>
          simp only [if_true, Bool.true_or]
          split
          · exact GauChan.settled_none (GauChan.settled_pending ..) _
          · rfl

end Sys2Proof.Machine
end

section
/-!
SUPPORT. Integrations of the Gauge as they begin (R392, R393, R397, R403), and the statement on its conversions settled.
-/
namespace Sys2Proof.Machine

/-! ### The start of an integration (R397, R403) -/

/-- NPLC and MAINS of a converter's next integration. -/
def startPeriod (s : State) (k : Nat) : Nat × Bool := (fld (cell s .gauConvCfg k) 1 0, bit (cell s .gauCtl) 2)

/-- The converter's period has changed, or every channel is to settle. -/
def allSettle (v : GauConv) (per : Nat × Bool) : Bool := v.settleAll || (match v.lastPeriod with | some p => p != per | none => false)

/-- The factors of the channel's next conversion are others than those of its last one. -/
def gainMoved (x : Option (Nat × Bool)) (g : Nat) (ok : Bool) : Bool := match x with | some (g0, ok0) => decide (g0 ≠ g) || (!ok0 && ok) | none => false

/-- A channel with the factors of its next conversion. -/
def GauChan.factored (g : Nat) (ok : Bool) (x : GauChan) : GauChan := { x with lastGain := some (g, ok) }

/-- A channel whose next two results carry SETTLE, where they are to. -/
def GauChan.settles (b : Bool) (x : GauChan) : GauChan := if b then { x with settleLeft := 2 } else x

/-- A converter that has begun an integration of period `per`. -/
def GauConv.timed (per : Nat × Bool) (y : GauConv) : GauConv := { y with lastPeriod := some per, settleAll := false, fresh := false }

/-- A converter with a conversion in progress. -/
def GauConv.takes (c : Nat) (x : GauRun) (v : GauConv) : GauConv := { v with connected := some c, run := some x }

/-- The conversion that begins. -/
def startRun (s : State) (k c : Nat) : GauRun :=
  { channel := c, cfg := chCfg s c, nplc := (startPeriod s k).1, mains := (startPeriod s k).2, blankEn := bit (cell s .gauConvCfg k) 8
    offset := (calFactors s k (chGain c (chCfg s c))).1, gain := (calFactors s k (chGain c (chCfg s c))).2
    valid := (gauConv s k).calValid.getLsbD (chGain c (chCfg s c)), wasOpen := false, wasBlank := blanking s, wasClear := !blanking s }

/-- The channels of a converter as they are when its next integration begins. -/
def startedChannels (k : Nat) (s : State) : State := forL (convChans k) (startChannel (allSettle (gauConv s k) (startPeriod s k))) s

theorem settleAtStart_eq (k c : Nat) (s : State) : settleAtStart k c s =
    modChan c (.factored (chGain c (chCfg (startedChannels k s) c)) ((gauConv s k).calValid.getLsbD (chGain c (chCfg (startedChannels k s) c))))
      (modConv k (.timed (startPeriod s k))
        (if gainMoved (gauChan (startedChannels k s) c).lastGain (chGain c (chCfg (startedChannels k s) c))
            ((gauConv s k).calValid.getLsbD (chGain c (chCfg (startedChannels k s) c))) then settleTwo c (startedChannels k s) else startedChannels k s)) := by
  have hgain (u : State) (g : Nat) (ok : Bool) : (match (gauChan u c).lastGain with
      | some (g0, ok0) => if g0 ≠ g ∨ (!ok0 && ok) then settleTwo c u else u
      | none => u) = if gainMoved (gauChan u c).lastGain g ok then settleTwo c u else u := by
    unfold gainMoved
    cases (gauChan u c).lastGain with
    | none => rfl
    | some y => simp only [Bool.or_eq_true, decide_eq_true_eq]
  unfold settleAtStart
  dsimp only
  rw [← hgain]
  rfl

/-- What the start of an integration leaves of a converter and its channels. -/
structure Integrates (k c : Nat) (s t : State) : Prop where
  conv : gauConv t k = ((gauConv s k).timed (startPeriod s k)).takes c (startRun s k c)
  convs : ∀ q, q ≠ k → gauConv t q = gauConv s q
  chan : c ∈ convChans k → gauChan t c = (((gauChan s c).begun (allSettle (gauConv s k) (startPeriod s k)) (chCfg s c)).settles
    (gainMoved (gauChan s c).lastGain (chGain c (chCfg s c)) (startRun s k c).valid)).factored (chGain c (chCfg s c)) (startRun s k c).valid
  chans : ∀ q, q ≠ c → gauChan t q = if q ∈ convChans k then (gauChan s q).begun (allSettle (gauConv s k) (startPeriod s k)) (chCfg s q)
    else if sensedBy s (convChans k) q = true then (gauChan s q).settled (chCfg s q) else gauChan s q

theorem settled_lastGain (w : Word) (x : GauChan) : (x.settled w).lastGain = x.lastGain := by
  unfold GauChan.settled
  split <;> rfl

theorem begun_lastGain (b : Bool) (w : Word) (x : GauChan) : (x.begun b w).lastGain = x.lastGain := by
  unfold GauChan.begun
  split <;> exact settled_lastGain w x

theorem beginRun_integrates {s : State} (hs : TablesRise s) (k c : Nat) : Integrates k c s (beginRun k c s) := by
  obtain ⟨h1, h2, h3⟩ := startChannels_begin (allSettle (gauConv s k) (startPeriod s k)) (convChans k) hs
  obtain ⟨u, hu⟩ : ∃ u, u = startedChannels k s := ⟨_, rfl⟩
  have hu' : forL (convChans k) (startChannel (allSettle (gauConv s k) (startPeriod s k))) s = u := hu.symm
  rw [hu'] at h1 h2 h3
  have hcfg : chCfg u c = chCfg s c := h1.chCfg c
  have hgain : (gauChan u c).lastGain = (gauChan s c).lastGain := by
    rw [h3]
    split
    · exact begun_lastGain ..
    · split
      · exact settled_lastGain ..
      · rfl
  have he := settleAtStart_eq k c s
  rw [← hu, hcfg, hgain] at he
  let b := gainMoved (gauChan s c).lastGain (chGain c (chCfg s c)) ((gauConv s k).calValid.getLsbD (chGain c (chCfg s c)))
  let v := if b then settleTwo c u else u
  have hv : TablesRise v := by
    show TablesRise (if b then settleTwo c u else u)
    split
    · exact (settleTwo_does ..).tables h2
    · exact h2
  have hvo : ChansOnly s v := by
    show ChansOnly s (if b then settleTwo c u else u)
    split
    · exact h1.trans (.modChan ..)
    · exact h1
  have hchan (q : Nat) : gauChan v q = if q = c then (gauChan u q).settles b else gauChan u q := by
    show gauChan (if b then settleTwo c u else u) q = _
    unfold GauChan.settles
    cases b with
    | true => exact gauChan_modChan h2.gau.2.1 ..
    | false => exact (ite_self _).symm
  let y := modConv k (.timed (startPeriod s k)) v
  have hy : TablesRise y := (modConv_does ..).tables hv
  have he' : settleAtStart k c s = modChan c (.factored (chGain c (chCfg s c)) (startRun s k c).valid) y := he
  have hconvs (q : Nat) : gauConv (settleAtStart k c s) q = if q = k then (gauConv s q).timed (startPeriod s k) else gauConv s q := by
    have hq : gauConv v q = gauConv s q := gauConv_of (by rw [hvo.eq]) q
    rw [he', ← hq]
    exact gauConv_modConv hv.gau.1 ..
  have hrun : beginRun k c s = modConv k (.takes c (startRun s k c)) (settleAtStart k c s) := by
    have hcell (r : Reg) (i j : Nat) : cell (settleAtStart k c s) r i j = cell s r i j := cell_regs ((settleAtStart_does ..).only.same .regs (by decide)) ..
    have hb : blanking (settleAtStart k c s) = blanking s := by
      unfold blanking
      rw [hcell, he']
      show (bit (cell s .gauBlank) 0 && v.gau.blank0 || bit (cell s .gauBlank) 1 && v.gau.blank1) = _
      rw [hvo.eq]
    have hval : (gauConv (settleAtStart k c s) k).calValid = (gauConv s k).calValid := by
      rw [hconvs, if_pos rfl]
      rfl
    unfold beginRun
    have hf : startRun s k c = { channel := c, cfg := chCfg (settleAtStart k c s) c, nplc := fld (cell (settleAtStart k c s) .gauConvCfg k) 1 0
                                 mains := bit (cell (settleAtStart k c s) .gauCtl) 2, blankEn := bit (cell (settleAtStart k c s) .gauConvCfg k) 8
                                 offset := (calFactors (settleAtStart k c s) k (chGain c (chCfg (settleAtStart k c s) c))).1
                                 gain := (calFactors (settleAtStart k c s) k (chGain c (chCfg (settleAtStart k c s) c))).2
                                 valid := (gauConv (settleAtStart k c s) k).calValid.getLsbD (chGain c (chCfg (settleAtStart k c s) c))
                                 wasOpen := false, wasBlank := blanking (settleAtStart k c s), wasClear := !blanking (settleAtStart k c s) } := by
      rw [hb, hval]
      unfold startRun calFactors chCfg startPeriod
      simp only [hcell]
    rw [hf]
    rfl
  have hchans (q : Nat) : gauChan (beginRun k c s) q = if q = c then (gauChan v q).factored (chGain c (chCfg s c)) (startRun s k c).valid else gauChan v q := by
    rw [hrun, he']
    exact gauChan_modChan (s := y) hv.gau.2.1 ..
  have hrise : Rises (settleAtStart k c s).gau.convs := ((settleAtStart_does ..).tables hs).gau.1
  refine ⟨?_, fun q hq => ?_, fun hc => ?_, fun q hq => ?_⟩
  · rw [hrun, gauConv_modConv hrise, if_pos rfl, hconvs, if_pos rfl]
  · rw [hrun, gauConv_modConv hrise, if_neg hq, hconvs, if_neg hq]
  · rw [hchans, if_pos rfl, hchan, if_pos rfl, h3, if_pos hc]
    rfl
  · rw [hchans, if_neg hq, hchan, if_neg hq, h3]

end Sys2Proof.Machine
end

section
/-!
SUPPORT. Integrations that wait for the whole second (R393), and the statement on the Gauge's conversions settled.
-/
namespace Sys2Proof.Machine

/-! ### What the start of an integration depends on -/

theorem inScan_of {s u : State} (h : u.regs = s.regs) (c : Nat) : inScan u c = inScan s c := by
  unfold inScan convertible misconfigured chCfg
  simp only [cell_regs h]

theorem convertible_of {s u : State} (h : u.regs = s.regs) (c : Nat) : convertible u c = convertible s c := by
  unfold convertible misconfigured chCfg
  simp only [cell_regs h]

theorem nextChan_of {s u : State} (h : u.regs = s.regs) (k : Nat) (a : Option Nat) : nextChan u k a = nextChan s k a := by
  unfold nextChan
  rw [show inScan u = inScan s from funext (inScan_of h)]

section
variable {s u : State} (h : Does [.gau] s u)
include h

theorem Does.gauRunning : gaugeRunning u = gaugeRunning s := by
  unfold gaugeRunning domOn isIsolated
  rw [powerDom_of (h.only.same .pwr (by decide)), powerDom_of (h.only.same .pwr (by decide)), h.only.same .flt (by decide)]

theorem Does.gauRegs : u.regs = s.regs := h.only.same .regs (by decide)

theorem Does.conversionsOn {k : Nat} (hk : (gauConv u k).selfcal = (gauConv s k).selfcal) : conversionsOn u k = conversionsOn s k := by
  unfold Machine.conversionsOn
  rw [h.gauRunning, cell_regs h.gauRegs, hk]

variable {k : Nat} (hk : gauConv u k = gauConv s k)
include hk

theorem Does.stepDue : stepDue u k = stepDue s k := by
  unfold Machine.stepDue chDwell chCfg
  rw [hk]
  cases (gauConv s k).connected with
  | none => rfl
  | some c => simp only [cell_regs h.gauRegs, convertible_of h.gauRegs]

theorem Does.startChan : startChan u k = startChan s k := by
  unfold Machine.startChan
  rw [h.conversionsOn (congrArg _ hk), h.stepDue hk, hk, inScan_of h.gauRegs]

theorem Does.muxReady : muxReady u k = muxReady s k := by
  unfold Machine.muxReady
  rw [h.conversionsOn (congrArg _ hk), h.stepDue hk, hk]

end

/-- A channel that has just been connected is the one that the next integration takes. -/
theorem startChan_stepped {s : State} (hs : TablesRise s) {k c : Nat} (h : muxReady s k = true) (hn : nextChan s k (gauConv s k).connected = some c) :
    startChan (muxStep k s) k = some c := by
  have hd := muxStep_does k s
  have hv : gauConv (muxStep k s) k = (gauConv s k).stepped (some c) := by
    rw [(muxStep_steps hs h).1, if_pos rfl, hn]
  unfold muxReady at h
  simp only [Bool.and_eq_true, decide_eq_true_eq] at h
  obtain ⟨⟨⟨h16, hon⟩, hrun⟩, hstep⟩ := h
  have hstep' : stepDue (muxStep k s) k = false := by
    have hscan := ((nextChan_next s k _).2 c hn).2.1
    unfold stepDue
    rw [hv]
    show (decide (chDwell (muxStep k s) c ≤ 0) || !convertible (muxStep k s) c) = false
    rw [convertible_of hd.gauRegs, ((Bool.and_eq_true ..).mp hscan).2, decide_eq_false (show ¬ chDwell (muxStep k s) c ≤ 0 from fun hc => absurd (Nat.le_trans (Nat.le_max_left 2 _) hc) (by decide))]
    rfl
  unfold startChan
  have hon' : conversionsOn (muxStep k s) k = true := (hd.conversionsOn (by rw [hv]; rfl)).trans hon
  have hrun' : (gauConv (muxStep k s) k).run.isNone = true := by rw [hv]; exact hrun
  rw [hon', hrun', hstep', if_pos (show (true && true) = true from rfl), if_neg (Nat.not_lt.2 h16), if_neg (by decide), hv]
  rfl

/-! ### The whole second (R393) -/

/-- A converter that takes the channel of its first integration. -/
def alignMux (k : Nat) (t : State) : State := if 16 ≤ k then muxStep k t else t

/-- A converter at the whole second. -/
def alignConv (k : Nat) (t : State) : State :=
  if (gauConv t k).fresh then
    match startChan (alignMux k t) k with
    | some c => beginRun k c (alignMux k t)
    | none => alignMux k t
  else t

theorem alignStart_eq (s : State) : alignStart s = if bit (cell s .gauCtl) 3 then forN 21 alignConv s else s := rfl

theorem alignMux_does (k : Nat) (s : State) : Does [.gau] s (alignMux k s) := by
  unfold alignMux
  split
  · exact muxStep_does ..
  · exact .refl _ _

theorem alignMux_other {s : State} (hs : TablesRise s) {k q : Nat} (hq : q ≠ k) : gauConv (alignMux k s) q = gauConv s q := by
  unfold alignMux
  split
  · by_cases h : muxReady s k = true
    · rw [(muxStep_steps hs h).1, if_neg hq]
    · rw [muxStep_eq, if_neg h]
  · rfl

theorem alignConv_does (k : Nat) (s : State) : Does [.gau] s (alignConv k s) := by
  unfold alignConv
  split
  · split
    · exact (beginRun_does ..).step rfl (alignMux_does ..)
    · exact alignMux_does ..
  · exact .refl _ _

theorem alignConv_other {s : State} (hs : TablesRise s) {k q : Nat} (hq : q ≠ k) : gauConv (alignConv k s) q = gauConv s q := by
  have h := alignMux_other hs hq
  unfold alignConv
  split
  · split
    · exact ((beginRun_integrates ((alignMux_does ..).tables hs) ..).convs q hq).trans h
    · exact h
  · rfl

/-- Each converter comes to its turn as it was. -/
theorem forN_alignConv {s : State} (hs : TablesRise s) (n : Nat) : Does [.gau] s (forN n alignConv s) ∧
    ∀ q, (n ≤ q → gauConv (forN n alignConv s) q = gauConv s q) ∧
      (q < n → ∃ u, Does [.gau] s u ∧ gauConv u q = gauConv s q ∧ gauConv (forN n alignConv s) q = gauConv (alignConv q u) q) := by
  induction n with
  | zero => exact ⟨.refl _ _, fun q => ⟨fun _ => rfl, nofun⟩⟩
  | succ n ih =>
    obtain ⟨hd, hq⟩ := ih
    rw [forN_succ]
    refine ⟨(alignConv_does ..).step rfl hd, fun q => ⟨fun h => ?_, fun h => ?_⟩⟩
    · rw [alignConv_other (hd.tables hs) (by omega)]
      exact (hq q).1 (by omega)
    · by_cases e : q = n
      · subst e
        exact ⟨_, hd, (hq q).1 (Nat.le_refl _), rfl⟩
      · obtain ⟨u, h1, h2, h3⟩ := (hq q).2 (by omega)
        exact ⟨u, h1, h2, (alignConv_other (hd.tables hs) e).trans h3⟩

/-- What a converter that begins its first integration shows. -/
theorem alignConv_begins {u : State} (hs : TablesRise u) {k c : Nat} (hf : (gauConv u k).fresh = true) (hc : startChan (alignMux k u) k = some c) :
    (gauConv (alignConv k u) k).connected = some c ∧ (gauConv (alignConv k u) k).run.map (·.channel) = some c ∧ (gauConv (alignConv k u) k).fresh = false := by
  have he : alignConv k u = beginRun k c (alignMux k u) := by
    unfold alignConv
    rw [if_pos hf, hc]
  rw [he, (beginRun_integrates ((alignMux_does ..).tables hs) ..).conv]
  exact ⟨rfl, rfl, rfl⟩

/-- R393: the whole second, for one converter. -/
theorem alignStart_begins {s : State} (hs : TablesRise s) (hb : bit (cell s .gauCtl) 3 = true) {k : Nat} (hk : k < 21) :
    ((gauConv s k).fresh = false → gauConv (alignStart s) k = gauConv s k) ∧
      ∀ c, (gauConv s k).fresh = true → (k < 16 ∧ startChan s k = some c ∨ muxReady s k = true ∧ nextChan s k (gauConv s k).connected = some c) →
        (gauConv (alignStart s) k).connected = some c ∧ (gauConv (alignStart s) k).run.map (·.channel) = some c ∧ (gauConv (alignStart s) k).fresh = false := by
  obtain ⟨u, hd, hu, he⟩ := ((forN_alignConv hs 21).2 k).2 hk
  rw [alignStart_eq, if_pos hb, he]
  refine ⟨fun hf => ?_, fun c hf hc => alignConv_begins (hd.tables hs) (by rw [hu, hf]) ?_⟩
  · unfold alignConv
    rw [if_neg (by rw [hu, hf]; decide), hu]
  · unfold alignMux
    rcases hc with ⟨h16, hc⟩ | ⟨hr, hn⟩
    · rw [if_neg (Nat.not_le.2 h16), hd.startChan hu, hc]
    · have h16 : 16 ≤ k := by
        unfold muxReady at hr
        simp only [Bool.and_eq_true, decide_eq_true_eq] at hr
        exact hr.1.1.1
      rw [if_pos h16]
      exact startChan_stepped (hd.tables hs) ((hd.muxReady hu).trans hr) (by rw [hu, nextChan_of hd.gauRegs, hn])

end Sys2Proof.Machine
end

section
/-!
SUPPORT. The parts of the statement on the Gauge's conversions, and the statement settled.
-/
namespace Sys2Proof.Machine

theorem convChans_lt {k c : Nat} (hk : k < 21) (h : c ∈ convChans k) : c < 72 := by
  unfold convChans at h
  split at h
  · rw [List.mem_singleton.1 h]
    omega
  · split at h
    · obtain ⟨i, hi, rfl⟩ := List.mem_map.1 h
      have := List.mem_range.1 hi
      omega
    · obtain ⟨i, hi, rfl⟩ := List.mem_map.1 h
      have := List.mem_range.1 hi
      omega

theorem calibrated_raw {g mode : Nat} {r : GauReading} {full un : Nat} (h : vRef mode r ≠ 0) :
    rawValue g mode r full un = divRound (2 ^ 24 * r.input * (gainOf g : Nat) * (full : Nat)) (vRef mode r * un) := if_neg h

/-- R395: V_REF of a conversion. -/
theorem vRef_run (x : GauRun) (r : GauReading) : vRef x.mode r = if x.channel < 64 ∧ cfgMode x.cfg = 4 then r.excitation else 5 * 2 ^ 47 := by
  unfold vRef GauRun.mode
  by_cases h : 64 ≤ x.channel
  · rw [if_pos h, if_neg (by decide), if_neg (fun k => absurd k.1 (Nat.not_lt.2 h))]
  · rw [if_neg h]
    have h' := Nat.not_le.1 h
    simp only [h', true_and]

theorem unblanked_eq (x : GauRun) (r : GauReading) : x.unblanked r =
    if x.blankEn = true ∧ x.wasBlank = true then (if x.wasClear = true then min (periodCycles x.nplc x.mains) r.unblanked else 0)
    else periodCycles x.nplc x.mains := by
  unfold GauRun.unblanked GauRun.full
  simp only [Bool.and_eq_true]

/-- The state after a conversion has ended, with the overrange raised where it is the first. -/
theorem conversionEnd_ends {s : State} (hs : TablesRise s) {k : Nat} {x : GauRun} (hr : (gauConv s k).run = some x) (hc : x.channel < 72) (r : GauReading) :
    ∃ u : State, ResultShown k x r s u ∧ (conversionEnd k r s).gau = u.gau ∧
      RegsKept [(.gauRes, x.channel, 0), (.gauEvt, 0, 0)] s (conversionEnd k r s) ∧ cell (conversionEnd k r s) .gauRes x.channel = resultOf s x r ∧
      ((convert s x r).2.1 = true → (gauChan s x.channel).lastOvr = false →
        Reported Src.gauOverrange x.channel [w32 x.channel, w32 (convert s x r).1] s (conversionEnd k r s) ∧ Evented .gauEvt 0 16 s (conversionEnd k r s)) ∧
      ((convert s x r).2.1 = false ∨ (gauChan s x.channel).lastOvr = true →
        (conversionEnd k r s).flt = s.flt ∧ cell (conversionEnd k r s) .gauEvt = cell s .gauEvt) := by
  obtain ⟨u, hu, hrise, he⟩ := conversionEnd_shows hs hr r
  have hne : regOff .gauEvt 0 0 ≠ regOff .gauRes x.channel 0 := regOff_ne at_gau.1 (at_gau.2.2.2.2.1 ⟨_, hc⟩).1 nofun
  have hevt : cell u .gauEvt = cell s .gauEvt := hu.regs _ _ _ fun y hy => by
    rw [List.mem_singleton.1 hy]
    exact hne
  have hkept : RegsKept [(.gauRes, x.channel, 0), (.gauEvt, 0, 0)] s u := hu.regs.widen (List.cons_subset.2 ⟨.head _, List.nil_subset _⟩)
  refine ⟨u, hu, ?_⟩
  by_cases hc : ((convert s x r).2.1 && !(gauChan s x.channel).lastOvr) = true
  · rw [he, if_pos hc]
    have hb : (event .gauEvt 0 16 u).btr = s.btr := (event_btr ..).trans hu.btr
    refine ⟨event_gau .gauEvt 0 16 u, hkept.ev hrise (.tail _ (.head _)) 16, ?_, fun _ _ => ⟨reported_raise hb, evented_of (evented_event hrise .gauEvt 0 16) hevt⟩, fun h => ?_⟩
    · exact (cell_event_other hrise _ _ _ hne.symm).trans hu.word
    · rcases h with h | h
      · rw [h] at hc
        cases hc
      · rw [h, Bool.and_comm] at hc
        cases hc
  · rw [he, if_neg hc]
    exact ⟨rfl, hkept, hu.word, fun h1 h2 => absurd (by rw [h1, h2]; rfl) hc, fun _ => ⟨hu.flt, hevt⟩⟩

/-! ### The burnout check (R400) -/

/-- What a burnout check that is due leaves. -/
structure BurnoutSeen (c : Nat) (isOpen : Bool) (s t : State) : Prop where
  kept : RegsKept [(.gauEvt, 0, 0)] s t
  burnout : (gauChan t c).burnout = isOpen
  since : (gauChan t c).sinceCheck = 0
  opens : isOpen = true → (gauChan s c).burnout = false →
    Reported Src.gauOpen c [w32 c, w32 (openCode (chSigned c (chCfg s c)))] s t ∧ Evented .gauEvt 0 17 s t
  ends : isOpen = false → (gauChan s c).burnout = true → (gauChan t c).settleLeft = 2 ∧ t.flt = s.flt ∧ t.regs = s.regs
  stays : isOpen = (gauChan s c).burnout → (gauChan t c).settleLeft = (gauChan s c).settleLeft ∧ t.flt = s.flt ∧ t.regs = s.regs

theorem burnoutCheck_checks {s : State} (hs : TablesRise s) {k c : Nat} (hc : (gauConv s k).connected = some c) (hd : checkDue s k c = true) (isOpen : Bool) :
    BurnoutSeen c isOpen s (burnoutCheck k isOpen s) := by
  have hown : gauChan (modChan c (.checked isOpen) s) c = (gauChan s c).checked isOpen := (gauChan_modChan hs.gau.2.1 ..).trans (if_pos rfl)
  rw [burnoutCheck_eq hc, if_pos hd]
  cases isOpen <;> cases hb : (gauChan s c).burnout
  · exact ⟨.of_regs rfl, congrArg GauChan.burnout hown, congrArg GauChan.sinceCheck hown, nofun, (fun _ h => nomatch hb.symm.trans h),
      fun _ => ⟨(congrArg GauChan.settleLeft hown :), rfl, rfl⟩⟩
  · have h2 : gauChan (settleTwo c (modChan c (.checked false) s)) c = { (gauChan s c).checked false with settleLeft := 2 } := by
      refine ((gauChan_modChan (rises_upd hs.gau.2.1) ..).trans (if_pos rfl)).trans ?_
      rw [hown]
    exact ⟨.of_regs rfl, congrArg GauChan.burnout h2, congrArg GauChan.sinceCheck h2, nofun, fun _ _ => ⟨congrArg GauChan.settleLeft h2, rfl, rfl⟩,
      (fun h => nomatch h.trans hb)⟩
  · have hg : (openRaised c (modChan c (.checked true) s)).gau = (modChan c (.checked true) s).gau := event_gau .gauEvt 0 17 _
    have h2 : gauChan (openRaised c (modChan c (.checked true) s)) c = (gauChan s c).checked true := (gauChan_of (congrArg Gauge.chans hg) c).trans hown
    show BurnoutSeen c true s (openRaised c (modChan c (.checked true) s))
    exact ⟨regsKept_ev (s := modChan c (.checked true) s) hs.regs .gauEvt 0 17, congrArg GauChan.burnout h2, congrArg GauChan.sinceCheck h2,
      fun _ _ => ⟨reported_raise (event_btr ..), evented_event (s := modChan c (.checked true) s) hs.regs .gauEvt 0 17⟩, nofun, (fun h => nomatch h.trans hb)⟩
  · exact ⟨.of_regs rfl, congrArg GauChan.burnout hown, congrArg GauChan.sinceCheck hown, (fun _ h => nomatch hb.symm.trans h), nofun,
      fun _ => ⟨(congrArg GauChan.settleLeft hown :), rfl, rfl⟩⟩

/-! ### The channels of a converter that begins an integration -/

theorem sensedBy_iff (s : State) (l : List Nat) (q : Nat) : sensedBy s l q = true ↔ q % 2 = 0 ∧ q + 1 ∈ l ∧ isSense (cfgMode (chCfg s (q + 1))) = true := by
  unfold sensedBy sensed
  simp only [List.any_eq_true, Bool.and_eq_true, decide_eq_true_eq]
  constructor
  · rintro ⟨d, hd, ⟨h1, h2⟩, rfl⟩
    have e : d - 1 + 1 = d := by omega
    exact ⟨by omega, by rwa [e], by rwa [e]⟩
  · rintro ⟨h1, h2, h3⟩
    exact ⟨q + 1, h2, ⟨by omega, h3⟩, rfl⟩

theorem allSettle_iff (v : GauConv) (per : Nat × Bool) :
    allSettle v per = true ↔ v.settleAll = true ∨ ∃ old, v.lastPeriod = some old ∧ old ≠ per := by
  unfold allSettle
  rw [Bool.or_eq_true]
  cases v.lastPeriod with
  | none => simp
  | some p => simp

theorem gainMoved_iff (x : Option (Nat × Bool)) (g : Nat) (ok : Bool) :
    gainMoved x g ok = true ↔ ∃ g0 ok0, x = some (g0, ok0) ∧ (g0 ≠ g ∨ ok0 = false ∧ ok = true) := by
  unfold gainMoved
  cases x with
  | none => simp
  | some y =>
    obtain ⟨g1, ok1⟩ := y
    simp only [Bool.or_eq_true, decide_eq_true_eq, Bool.and_eq_true, Bool.not_eq_true', Option.some.injEq, Prod.mk.injEq]
    exact ⟨fun h => ⟨g1, ok1, ⟨rfl, rfl⟩, h⟩, fun ⟨_, _, ⟨e1, e2⟩, h⟩ => by rwa [← e1, ← e2] at h⟩

theorem settled_act (w : Word) (x : GauChan) : (x.settled w).act = if x.excPending = true then w else x.act := by
  unfold GauChan.settled
  split <;> rfl

theorem begun_act (b : Bool) (w : Word) (x : GauChan) : (x.begun b w).act = if x.excPending = true then w else x.act := by
  unfold GauChan.begun
  split <;> exact settled_act w x

theorem begun_settleLeft {b : Bool} {x : GauChan} (h : b = true ∨ x.excPending = true) (w : Word) : (x.begun b w).settleLeft = 2 := by
  unfold GauChan.begun
  split
  · rfl
  · next hb =>
    unfold GauChan.settled
    rw [if_pos (h.resolve_left hb)]
    rfl

theorem settles_settleLeft (b : Bool) (x : GauChan) : (x.settles b).settleLeft = if b then 2 else x.settleLeft := by
  unfold GauChan.settles
  split <;> rfl

theorem settles_rest (b : Bool) (x : GauChan) : (x.settles b).excPending = x.excPending ∧ (x.settles b).act = x.act := by
  unfold GauChan.settles
  split <;> exact ⟨rfl, rfl⟩

section
variable {k c : Nat} {s t : State} (h : Integrates k c s t)
include h

/-- The channel of the integration that begins. -/
theorem Integrates.own (hc : c ∈ convChans k) : (gauChan t c).excPending = false ∧ (gauChan t c).lastGain = some (chGain c (chCfg s c), (startRun s k c).valid) ∧
    (gauChan t c).act = (if (gauChan s c).excPending = true then chCfg s c else (gauChan s c).act) ∧
    (allSettle (gauConv s k) (startPeriod s k) = true ∨ (gauChan s c).excPending = true ∨
      gainMoved (gauChan s c).lastGain (chGain c (chCfg s c)) (startRun s k c).valid = true → (gauChan t c).settleLeft = 2) ∧
    (allSettle (gauConv s k) (startPeriod s k) = false → (gauChan s c).excPending = false →
      gainMoved (gauChan s c).lastGain (chGain c (chCfg s c)) (startRun s k c).valid = false → (gauChan t c).settleLeft = (gauChan s c).settleLeft) := by
  rw [h.chan hc]
  refine ⟨(settles_rest ..).1.trans (GauChan.begun_pending ..), rfl, (settles_rest ..).2.trans (begun_act ..), fun hor => ?_, fun h1 h2 h3 => ?_⟩
  · refine (settles_settleLeft ..).trans ?_
    split
    · rfl
    · next hn => exact begun_settleLeft (hor.elim .inl fun hx => hx.elim .inr fun hg => absurd hg hn) _
  · refine (settles_settleLeft ..).trans ?_
    rw [h3, h1, if_neg (by decide)]
    show ((gauChan s c).settled _).settleLeft = _
    rw [GauChan.settled_none h2]

/-- The channels whose waiting changes come into force with an integration. -/
theorem Integrates.applies (hc : c ∈ convChans k) {d : Nat} (hd : d ∈ convChans k ∨ sensedBy s (convChans k) d = true) :
    (gauChan t d).excPending = false ∧ (gauChan t d).act = if (gauChan s d).excPending = true then chCfg s d else (gauChan s d).act := by
  by_cases e : d = c
  · subst e
    exact ⟨(h.own hc).1, (h.own hc).2.2.1⟩
  · rw [h.chans d e]
    by_cases hm : d ∈ convChans k
    · rw [if_pos hm]
      exact ⟨GauChan.begun_pending .., begun_act ..⟩
    · rw [if_neg hm, if_pos (hd.resolve_left hm)]
      exact ⟨GauChan.settled_pending .., settled_act ..⟩

/-- The channels that an integration of another converter leaves alone. -/
theorem Integrates.leaves (hc : c ∈ convChans k) {d : Nat} (hd : d ∉ convChans k) (hn : sensedBy s (convChans k) d = false ∨ (gauChan s d).excPending = false) :
    gauChan t d = gauChan s d := by
  rw [h.chans d fun e => hd (e ▸ hc), if_neg hd]
  split
  · next hs => exact GauChan.settled_none (hn.resolve_left (by rw [hs]; decide)) _
  · rfl

end

/-! ### The statement on the conversions -/

theorem muxReady_not {s : State} {k : Nat} (h : k < 16 ∨ conversionsOn s k = false ∨ (gauConv s k).run ≠ none ∨ stepDue s k = false) : muxReady s k ≠ true := by
  unfold muxReady
  simp only [Bool.and_eq_true, decide_eq_true_eq, Option.isNone_iff_eq_none, Ne]
  rintro ⟨⟨⟨h1, h2⟩, h3⟩, h4⟩
  rcases h with e | e | e | e
  · omega
  · rw [h2] at e; cases e
  · exact e h3
  · rw [h4] at e; cases e

theorem muxReady_of {s : State} {k : Nat} (h1 : 16 ≤ k) (h2 : conversionsOn s k = true) (h3 : (gauConv s k).run = none) (h4 : stepDue s k = true) :
    muxReady s k = true := by
  unfold muxReady
  rw [decide_eq_true h1, h2, h3, h4]
  rfl

/-- Settles O52. -/
theorem gaugeConverts : Obligations.GaugeConverts := by
  unfold Obligations.GaugeConverts
  intro k s hu hs
  refine ⟨fun rd => ⟨fun hr => ?_, ?_⟩, fun h => ?_, fun h1 h2 h3 h4 => ?_, fun h => ?_, ?_, fun h => ?_, fun h => ?_, fun isOpen => ⟨fun h => ?_, ?_⟩⟩
  · refine (upNext_up hu).trans (congrArg _ ?_)
    unfold conversionEnd
    rw [hr]
  · rintro x full un sg hr hc rfl hun rfl opened v rfl rfl
    rw [← unblanked_eq x rd] at hun
    subst hun
    have hc72 := convChans_lt k.isLt hc
    obtain ⟨u, hshow, hgau, hkept, hword, htold, hquiet⟩ := conversionEnd_ends hs hr hc72 rd
    obtain ⟨c1, c2, c3⟩ := convert_cases s x rd
    obtain ⟨f7, f6, f5, f4, f3, f2, f1, f0⟩ := resultWord_flags (convert s x rd).1 (decide (0 < (gauChan s x.channel).settleLeft)) (convert s x rd).2.1
      (convert s x rd).2.2.1 (convert s x rd).2.2.2.1 (!x.valid) (s.quo.worst == 2) (convert s x rd).2.2.2.2 (!s.quo.xoOk)
    have hcode : fld (resultOf s x rd) 31 8 = (convert s x rd).1 := resultWord_code _ _ _ _ _ _ _ _ _ (convert_lt s x rd)
    have hchan (q : Nat) := (gauChan_of (congrArg Gauge.chans hgau) q).trans (hshow.chans q)
    have hconv (q : Nat) := (gauConv_of (congrArg Gauge.convs hgau) q).trans (hshow.convs q)
    have hown := (hchan x.channel).trans (if_pos rfl)
    have hbit7 : bit (resultOf s x rd) 7 = decide (0 < (gauChan s x.channel).settleLeft) := f7
    have hbit6 : bit (resultOf s x rd) 6 = (convert s x rd).2.1 := f6
    have hbit5 : bit (resultOf s x rd) 5 = (convert s x rd).2.2.1 := f5
    have hbit4 : bit (resultOf s x rd) 4 = (convert s x rd).2.2.2.1 := f4
    have hbit1 : bit (resultOf s x rd) 1 = (convert s x rd).2.2.2.2 := f1
    refine ⟨_, _, upNext_up hu, (conversionEnd_does ..).only, hword.symm, fun ho => ?_, fun ho => ?_, fun ho hn => ?_, fun ho hn => ?_, hbit7,
      hbit4.trans (convert_blanked ..), f3, f2, f0, ?_, ?_, ?_, ?_, ?_, ?_, fun h6 hl => ?_, fun h => ?_, fun r i j hn hne => ?_, fun c hne => ?_, fun q hne => ?_⟩
    · rw [hcode, hbit6, hbit5, c1 ho]
      exact ⟨rfl, rfl, rfl⟩
    · rw [hbit5]
      by_cases hn : 10 * x.unblanked rd < x.full
      · rw [c2 ho hn]
      · rw [c3 ho (Nat.not_lt.1 hn) _ rfl]
    · rw [hcode, hbit6, hbit4, hbit1, c2 ho hn]
      exact ⟨rfl, rfl, rfl, rfl⟩
    · rw [hcode, hbit6, hbit1, c3 ho hn _ rfl]
      refine ⟨rfl, _, fun hv => ?_, rfl⟩
      rw [← vRef_run] at hv ⊢
      exact calibrated_raw hv
    · rw [hown]; rfl
    · rw [hown]; rfl
    · rw [hown]; rfl
    · rw [hown]; rfl
    · rw [hown, hbit7]; rfl
    · rw [hconv, if_pos rfl, hbit6, hbit5]; rfl
    · rw [hcode]
      exact htold (hbit6.symm.trans h6) hl
    · exact hquiet (h.imp_left hbit6.symm.trans)
    · refine hkept r i j fun y hy => ?_
      rcases List.mem_cons.1 hy with rfl | hy
      · exact hn
      · rw [List.mem_singleton.1 hy]
        exact hne
    · rw [hchan, if_neg hne]
    · rw [hconv, if_neg hne]
  · exact (upNext_up hu).trans (congrArg _ ((muxStep_eq ..).trans (if_neg (muxReady_not h))))
  · have hready := muxReady_of h1 h2 h3 h4
    obtain ⟨m1, m2, m3⟩ := muxStep_steps hs hready
    obtain ⟨n1, n2⟩ := nextChan_next s k (gauConv s k).connected
    refine ⟨_, _, upNext_up hu, (muxStep_does ..).only, (m1 k).trans (if_pos rfl), fun hn => ⟨n1 hn, m2 hn⟩, fun c hn => ?_, fun q hq => (m1 q).trans (if_neg hq)⟩
    obtain ⟨i1, i2, i3⟩ := n2 c hn
    exact ⟨i1, i2, i3, (m3 c hn c).trans (if_pos rfl), fun q hq => (m3 c hn q).trans (if_neg hq)⟩
  · refine (upNext_up hu).trans (congrArg _ ?_)
    unfold integrationStart
    rcases h with ⟨h1, h2⟩ | h
    · exact if_pos (by rw [h1, h2]; rfl)
    · rw [h]
      exact ite_self _
  · rintro c g per hor hst hc rfl rfl
    have he : integrationStart k s = beginRun k c s := by
      unfold integrationStart
      rw [hst]
      refine if_neg fun hb => ?_
      rw [Bool.and_eq_true] at hb
      rcases hor with e | e
      · rw [e] at hb; cases hb.1
      · rw [e] at hb; cases hb.2
    have hi := beginRun_integrates hs k c
    obtain ⟨o1, o2, o3, o4, o5⟩ := hi.own hc
    rw [← he] at hi o1 o2 o3 o4 o5
    have hv := hi.conv
    refine ⟨_, _, upNext_up hu, (integrationStart_does ..).only, (congrArg GauConv.connected hv :), (congrArg GauConv.run hv :), (congrArg GauConv.fresh hv :),
      (congrArg GauConv.settleAll hv :), (congrArg GauConv.lastPeriod hv :), rfl, o1, o2, fun h => o4 ?_, fun h1 h2 h3 h4 => o5 ?_ h3 ?_, fun d hd => ?_,
      fun d hd hn => ?_, hi.convs⟩
    · rcases h with h | h | h | h
      · exact .inl ((allSettle_iff ..).2 (.inl h))
      · exact .inl ((allSettle_iff ..).2 (.inr h))
      · exact .inr (.inl h)
      · exact .inr (.inr ((gainMoved_iff ..).2 h))
    · refine Bool.eq_false_iff.2 fun hb => ?_
      rcases (allSettle_iff ..).1 hb with e | ⟨old, e, hne⟩
      · rw [h1] at e; cases e
      · rcases h2 with h2 | h2
        · rw [h2] at e; cases e
        · rw [h2] at e; cases e; exact hne rfl
    · refine Bool.eq_false_iff.2 fun hb => ?_
      obtain ⟨g0, ok0, e, hne⟩ := (gainMoved_iff ..).1 hb
      rcases h4 with h4 | h4
      · rw [h4] at e; cases e
      · rw [h4] at e
        cases e
        exact hne.elim (fun q => q rfl) fun q => absurd (q.1.symm.trans q.2) (by decide)
    · exact hi.applies hc (hd.imp_right (sensedBy_iff ..).2)
    · refine hi.leaves hc hd ?_
      by_cases hp : (gauChan s d).excPending = false
      · exact .inr hp
      · refine .inl (Bool.eq_false_iff.2 fun hb => ?_)
        obtain ⟨h1, h2, h3⟩ := (sensedBy_iff ..).1 hb
        rcases hn with e | e | e | e
        · omega
        · exact e h2
        · rw [h3] at e; cases e
        · exact hp e
  · exact (upNext_up hu).trans (congrArg _ ((alignStart_eq ..).trans (if_neg (by rw [h]; decide))))
  · obtain ⟨a1, a2⟩ := alignStart_begins hs h k.isLt
    exact ⟨_, upNext_up hu, (alignStart_does ..).only, a1, fun c hf h16 hc => a2 c hf (.inl ⟨h16, hc⟩),
      fun c hf h16 hon hrun hstep hn => a2 c hf (.inr ⟨muxReady_of h16 hon hrun hstep, hn⟩)⟩
  · refine (upNext_up hu).trans (congrArg _ ?_)
    unfold burnoutCheck
    rw [h]
  · rintro c due hc hdue
    have hdue' : due = checkDue s k c := hdue
    refine ⟨fun hd => ?_, fun hd => ?_⟩
    · exact (upNext_up hu).trans (congrArg _ ((burnoutCheck_eq hc isOpen).trans (if_neg (by rw [← hdue', hd]; decide))))
    · obtain ⟨b1, b2, b3, b4, b5, b6⟩ := burnoutCheck_checks hs hc (hdue'.symm.trans hd) isOpen
      exact ⟨_, upNext_up hu, (burnoutCheck_does ..).only, b1, b2, b3, b4, b5, b6⟩

end Sys2Proof.Machine
end

section
/-!
SUPPORT. Reports of the power controller (R415, R416, R422, R430) and its update of every millisecond (R431), and the statement on both settled.
-/
namespace Sys2Proof.Machine

theorem at_pwr : regExists .pwrEvt 0 0 = true ∧ regExists .pwrCnt 0 0 = true ∧ regExists .pwrVin 0 0 = true ∧ regExists .pwrIin 0 0 = true ∧
    regExists .pwrPin 0 0 = true ∧ regExists .pwrTempMax 0 0 = true ∧ regExists .pwrTempCfg 0 0 = true ∧
    ∀ n : Fin 17, regExists .pwrTemp n 0 = true := by decide +kernel

/-! ### Words -/

theorem mkFld_low {n : Nat} (v : BitVec (n + 1)) : mkFld n 0 v.toNat = v.setWidth 32 := by
  refine BitVec.eq_of_toNat_eq ?_
  rw [mkFld, BitVec.toNat_ofNat, BitVec.toNat_setWidth, Nat.sub_zero, Nat.mod_eq_of_lt v.isLt, Nat.pow_zero, Nat.mul_one]

theorem fld_setWidth (v : BitVec 16) : fld (v.setWidth 32) 15 0 = v.toNat := by
  have h := v.isLt
  rw [fld, BitVec.toNat_setWidth, Nat.mod_eq_of_lt (show v.toNat < 2 ^ 32 by omega), Nat.pow_zero, Nat.div_one]
  exact Nat.mod_eq_of_lt h

theorem sfld_setWidth (v : BitVec 16) : sfld (v.setWidth 32) 15 0 = v.toInt := by
  unfold sfld
  dsimp only
  rw [fld_setWidth, BitVec.toInt_eq_toNat_cond]
  refine ite_congr (propext ?_) (fun _ => rfl) fun _ => rfl
  omega

theorem toNat_testBit_maskBits (l : List Nat) (n : Nat) : (maskBits l).testBit n = decide (n ∈ l) := by
  have h (l : List Nat) : ∀ m : Nat, (l.foldl (fun m p => m ||| 2 ^ p) m).testBit n = (m.testBit n || decide (n ∈ l)) := by
    induction l with
    | nil => intro m; simp
    | cons a l ih =>
      intro m
      rw [List.foldl_cons, ih, Nat.testBit_or, Nat.testBit_two_pow, Bool.or_assoc]
      simp only [List.mem_cons, Bool.decide_or, eq_comm (a := a)]
  have := h l 0
  rwa [Nat.zero_testBit, Bool.false_or] at this

theorem w32_maskBits {l : List Nat} {n : Nat} (h : n < 32) : (w32 (maskBits l)).getLsbD n = decide (n ∈ l) := by
  rw [w32, BitVec.getLsbD_ofNat, toNat_testBit_maskBits, decide_eq_true h, Bool.true_and]

/-! ### The hottest sensor (R431) -/

theorem hottest_foldl (temp : Nat → Int) (k : Nat) :
    ∀ m, m = (List.range k).foldl (fun m n => if temp m < temp n then n else m) 0 → (m < k ∨ m = 0) ∧
      ∀ n < k, temp n ≤ temp m ∧ (n < m → temp n < temp m) := by
  induction k with
  | zero => exact fun m hm => ⟨.inr hm, nofun⟩
  | succ k ih =>
    intro m hm
    rw [List.range_succ, List.foldl_append] at hm
    obtain ⟨h1, h2⟩ := ih _ rfl
    generalize (List.range k).foldl (fun m n => if temp m < temp n then n else m) 0 = q at h1 h2 hm
    have hm' : m = if temp q < temp k then k else q := hm
    rw [hm']
    by_cases hc : temp q < temp k
    · rw [if_pos hc]
      refine ⟨.inl (Nat.lt_succ_self k), fun n hn => ?_⟩
      by_cases e : n = k
      · subst e
        exact ⟨Int.le_refl _, fun h => absurd h (Nat.lt_irrefl _)⟩
      · have := (h2 n (by omega)).1
        exact ⟨by omega, fun _ => by omega⟩
    · rw [if_neg hc]
      refine ⟨by omega, fun n hn => ?_⟩
      by_cases e : n = k
      · subst e
        exact ⟨by omega, fun h => by omega⟩
      · exact h2 n (by omega)

/-- Of 17 sensors the one that reads highest is the first of those that do. -/
theorem hottestOf_highest (temp : Nat → Int) : hottestOf temp < 17 ∧
    ∀ n < 17, temp n ≤ temp (hottestOf temp) ∧ (n < hottestOf temp → temp n < temp (hottestOf temp)) := by
  obtain ⟨h1, h2⟩ := hottest_foldl temp 17 _ rfl
  exact ⟨h1.elim id fun h => by rw [hottestOf, h]; decide, h2⟩

/-! ### The update of every millisecond (R431) -/

/-- The registers of an update. -/
def measureRegs : List (Reg × Nat × Nat) :=
  [(Reg.pwrVin, 0, 0), (Reg.pwrIin, 0, 0), (Reg.pwrPin, 0, 0), (Reg.pwrTempMax, 0, 0)] ++ (List.range 17).map fun n => (Reg.pwrTemp, n, 0)

/-- The temperatures of an update stored. -/
def tempsStored (temps : List (BitVec 16)) : State → State := forN 17 (fun n => modCell .pwrTemp n 0 fun _ => (reading temps n).setWidth 32)

theorem tempsStored_stores {s : State} (hs : Rises s.regs) (temps : List (BitVec 16)) : Rises (tempsStored temps s).regs ∧
    (∀ n < 17, cell (tempsStored temps s) .pwrTemp n = (reading temps n).setWidth 32) ∧
    (∀ (r : Reg) (i j : Nat), (∀ n < 17, regOff r i j ≠ regOff .pwrTemp n) → cell (tempsStored temps s) r i j = cell s r i j) ∧
    (tempsStored temps s).pwr = s.pwr := by
  obtain ⟨h1, h2, h3⟩ := forN_modCell (r := .pwrTemp) (f := fun n _ => (reading temps n).setWidth 32) hs 17 fun i hi => at_pwr.2.2.2.2.2.2.2 ⟨i, hi⟩
  exact ⟨h1, h2, h3, (Does.forN (L := [.regs]) (fun i t ht => (modCell_does ..).step rfl ht) (.refl _ s)).only.same .pwr (by decide)⟩

/-- The state with input and temperatures stored. -/
def sensorsStored (mv ma dw : Nat) (temps : List (BitVec 16)) (s : State) : State :=
  tempsStored temps
    (setCell .pwrPin 0 0 (mkFld 11 0 dw) (setCell .pwrIin 0 0 (mkFld 13 0 ma) (setCell .pwrVin 0 0 (mkFld 16 0 mv) s)))

/-- The word of PWR_TEMP_MAX. -/
def tempMaxWord (u : State) : Word := mkFld 20 16 (hottest u) ||| mkFld 15 0 (cell u .pwrTemp (hottest u)).toNat

/-- The power controller after an update, from the state with the registers of the update. -/
def Power.measured (mv : Nat) (temps rails : List (BitVec 16)) (u : State) (p : Power) : Power :=
  { p with
    railsOk := w32 (maskBits ((List.range 11).filter (fun n => railInReg rails n || !railRequired u n)))
    faulty := p.faulty.filter (fun n => !railInReg rails n && railRequired u n)
    tempArmed := p.tempArmed || (List.range 17).all (fun n => decide (sensorTemp u n < ((tempWarn u : Int) - (fld (cell u .pwrTempCfg) 15 8 : Nat)) * 8))
    inRange := decide (36000 ≤ mv) && decide (mv ≤ 75000)
    excursion := p.excursion && !(decide (36500 ≤ mv) && decide (mv ≤ 74500))
    stage := reading temps 16 }

theorem measuresTaken_eq (mv ma dw : Nat) (temps rails : List (BitVec 16)) (s : State) : measuresTaken mv ma dw temps rails s =
    (setCell .pwrTempMax 0 0 (tempMaxWord (sensorsStored mv ma dw temps s)) (sensorsStored mv ma dw temps s)).modPwr
      (.measured mv temps rails (setCell .pwrTempMax 0 0 (tempMaxWord (sensorsStored mv ma dw temps s)) (sensorsStored mv ma dw temps s))) := rfl

/-- What the registers hold after an update. -/
structure Measured (mv ma dw : Nat) (temps : List (BitVec 16)) (s u : State) : Prop where
  kept : RegsKept measureRegs s u
  rise : Rises u.regs
  vin : cell u .pwrVin = mkFld 16 0 mv
  iin : cell u .pwrIin = mkFld 13 0 ma
  pin : cell u .pwrPin = mkFld 11 0 dw
  temp : ∀ n < 17, cell u .pwrTemp n = (reading temps n).setWidth 32
  pwr : u.pwr = s.pwr

theorem inputStored_stores {s : State} (hs : Rises s.regs) (v i p : Word) :
    ∃ u, u = setCell .pwrPin 0 0 p (setCell .pwrIin 0 0 i (setCell .pwrVin 0 0 v s)) ∧ Rises u.regs ∧ cell u .pwrVin = v ∧ cell u .pwrIin = i ∧
      cell u .pwrPin = p ∧ RegsKept [(Reg.pwrVin, 0, 0), (Reg.pwrIin, 0, 0), (Reg.pwrPin, 0, 0)] s u ∧ u.pwr = s.pwr := by
  obtain ⟨-, -, e3, e4, e5, -⟩ := at_pwr
  have r1 : Rises (setCell .pwrVin 0 0 v s).regs := rises_setCell hs ..
  have r2 : Rises (setCell .pwrIin 0 0 i (setCell .pwrVin 0 0 v s)).regs := rises_setCell r1 ..
  refine ⟨_, rfl, rises_setCell r2 .., ?_, ?_, cell_setCell r2 .., ?_, rfl⟩
  · rw [cell_setCell_other r2 _ (regOff_ne e3 e5 nofun), cell_setCell_other r1 _ (regOff_ne e3 e4 nofun), cell_setCell hs]
  · rw [cell_setCell_other r2 _ (regOff_ne e4 e5 nofun), cell_setCell r1]
  · exact (((RegsKept.refl _ _).set hs (.head _) v).set r1 (.tail _ (.head _)) i).set r2 (.tail _ (.tail _ (.head _))) p

theorem sensorsStored_measured {s : State} (hs : Rises s.regs) (mv ma dw : Nat) (temps : List (BitVec 16)) :
    Measured mv ma dw temps s (sensorsStored mv ma dw temps s) := by
  obtain ⟨-, -, e3, e4, e5, -, -, e8⟩ := at_pwr
  obtain ⟨u, hu, r, c1, c2, c3, hk, hp⟩ := inputStored_stores hs (mkFld 16 0 mv) (mkFld 13 0 ma) (mkFld 11 0 dw)
  unfold sensorsStored
  rw [← hu]
  obtain ⟨h1, h2, h3, h4⟩ := tempsStored_stores r temps
  have hother {r : Reg} (hr : regExists r 0 0 = true) (hne : r ≠ .pwrTemp) : ∀ i < 17, regOff r 0 0 ≠ regOff .pwrTemp i :=
    fun i hi => regOff_ne hr (e8 ⟨i, hi⟩) fun e => hne (congrArg Prod.fst e)
  have hin : [(Reg.pwrVin, 0, 0), (Reg.pwrIin, 0, 0), (Reg.pwrPin, 0, 0)] ⊆ measureRegs :=
    List.subset_append_of_subset_left _ (by simp only [List.cons_subset, List.mem_cons, List.nil_subset, true_or, or_true, and_true])
  have hkept : RegsKept measureRegs s (tempsStored temps u) := by
    refine (hk.widen hin).trans fun r i j hn => h3 r i j fun q hq => hn (.pwrTemp, q, 0) ?_
    unfold measureRegs
    exact List.mem_append_right _ (List.mem_map.2 ⟨q, List.mem_range.2 hq, rfl⟩)
  exact ⟨hkept, h1, (h3 _ _ _ (hother e3 nofun)).trans c1, (h3 _ _ _ (hother e4 nofun)).trans c2, (h3 _ _ _ (hother e5 nofun)).trans c3, h2, h4.trans hp⟩

/-- What an update leaves. -/
theorem measuresTaken_takes {s : State} (hs : Rises s.regs) (mv ma dw : Nat) (temps rails : List (BitVec 16)) :
    ∃ h u, h < 17 ∧ Measured mv ma dw temps s u ∧ measuresTaken mv ma dw temps rails s = u.modPwr (.measured mv temps rails u) ∧
      cell u .pwrTempMax = (mkFld 20 16 h ||| mkFld 15 0 ((reading temps h).setWidth 32).toNat) ∧
      ∀ n < 17, (reading temps n).toInt ≤ (reading temps h).toInt ∧ (n < h → (reading temps n).toInt < (reading temps h).toInt) := by
  obtain ⟨v, hv⟩ : ∃ v, v = sensorsStored mv ma dw temps s := ⟨_, rfl⟩
  have hm := sensorsStored_measured hs mv ma dw temps
  have he := measuresTaken_eq mv ma dw temps rails s
  rw [← hv] at hm he
  obtain ⟨e1, e2, e3, e4, e5, e6, e7, e8⟩ := at_pwr
  have hne {r : Reg} {i : Nat} (hr : regExists r i 0 = true) (hn : r ≠ .pwrTempMax) (w : Word) : cell (setCell .pwrTempMax 0 0 w v) r i = cell v r i :=
    cell_setCell_other hm.rise _ (regOff_ne hr e6 fun e => hn (congrArg Prod.fst e))
  have hin : (Reg.pwrTempMax, 0, 0) ∈ measureRegs := List.mem_append_left _ (.tail _ (.tail _ (.tail _ (.head _))))
  obtain ⟨h1, h2⟩ := hottestOf_highest (sensorTemp v)
  have htemp (n : Nat) (hn : n < 17) : sensorTemp v n = (reading temps n).toInt := by
    unfold sensorTemp
    rw [hm.temp n hn, sfld_setWidth]
  refine ⟨hottest v, _, h1, ⟨hm.kept.set hm.rise hin _, rises_setCell hm.rise .., (hne e3 nofun _).trans hm.vin, (hne e4 nofun _).trans hm.iin,
    (hne e5 nofun _).trans hm.pin, fun n hn => (hne (e8 ⟨n, hn⟩) nofun _).trans (hm.temp n hn), hm.pwr⟩, he, ?_, fun n hn => ?_⟩
  · rw [cell_setCell hm.rise, tempMaxWord, hm.temp (hottest v) h1]
  · have h := h2 n hn
    rw [htemp n hn, htemp _ h1] at h
    exact h

theorem tempMax_flds {h : Nat} (hh : h < 17) (v : BitVec 16) : fld (mkFld 20 16 h ||| mkFld 15 0 (v.setWidth 32).toNat) 20 16 = h ∧
    fld (mkFld 20 16 h ||| mkFld 15 0 (v.setWidth 32).toNat) 15 0 = v.toNat := by
  have hv := v.isLt
  constructor
  · rw [fld_or, fld_mkFld_same (by decide), fld_mkFld_other (by decide), Nat.or_zero]
    exact Nat.mod_eq_of_lt (by omega)
  · rw [fld_or, fld_mkFld_same (by decide), fld_mkFld_other (by decide), Nat.zero_or, BitVec.toNat_setWidth]
    omega

/-- Which rails are required does not rest on an update. -/
theorem railRequired_of {s u : State} (h : u.pwr = s.pwr) (n : Nat) : railRequired u n = railRequired s n := by
  unfold railRequired
  simp only [powerDom_of h]

theorem protectiveTrip_trips {s : State} {cause : TripCause} {mv : Nat} {temps : List (BitVec 16)} (hm : tripMet cause mv temps = true) (ht : s.pwr.trip = none) :
    (protectiveTrip cause mv temps s).pwr.trip = some cause := by
  unfold protectiveTrip
  rw [hm, ht]
  rfl

theorem not_isUp_of_trip {s : State} {c : TripCause} (h : s.pwr.trip = some c) : isUp s = false := by
  unfold isUp
  rw [h]
  rfl

/-- The temperatures of R423. -/
theorem tripMet_temps (mv : Nat) (temps : List (BitVec 16)) {hot : Nat → Bool} (hh : hot = fun n => decide ((if n < 16 then 920 else 1000) ≤ (temps.getD n 0).toInt)) :
    (List.range 17).any hot = (tripMet .dieTemperature mv temps || tripMet .stageTemperature mv temps) := by
  rw [List.range_succ, List.any_append, hh]
  refine congrArg₂ (· || ·) (Bool.eq_iff_iff.2 ?_) (Bool.or_false _)
  rw [tripMet, List.any_eq_true, List.any_eq_true]
  refine exists_congr fun n => and_congr_right fun hn => ?_
  rw [if_pos (List.mem_range.1 hn)]
  rfl

/-- The thresholds of the warning are not among the registers of an update. -/
theorem Measured.cfg {mv ma dw : Nat} {temps : List (BitVec 16)} {s u : State} (h : Measured mv ma dw temps s u) : cell u .pwrTempCfg = cell s .pwrTempCfg := by
  obtain ⟨e1, e2, e3, e4, e5, e6, e7, e8⟩ := at_pwr
  refine h.kept .pwrTempCfg 0 0 fun x hx => ?_
  rcases List.mem_append.1 hx with hx | hx
  · have hall : ∀ x ∈ [(Reg.pwrVin, 0, 0), (Reg.pwrIin, 0, 0), (Reg.pwrPin, 0, 0), (Reg.pwrTempMax, 0, 0)],
        regExists x.1 x.2.1 x.2.2 = true ∧ (Reg.pwrTempCfg, 0, 0) ≠ x := by decide +kernel
    exact regOff_ne e7 (hall x hx).1 (hall x hx).2
  · obtain ⟨n, hn, rfl⟩ := List.mem_map.1 hx
    exact regOff_ne e7 (e8 ⟨n, List.mem_range.1 hn⟩) nofun

/-- What an update shows of the power controller. -/
theorem measured_shows {s u : State} {mv ma dw : Nat} {temps : List (BitVec 16)} (hm : Measured mv ma dw temps s u) (rails : List (BitVec 16)) :
    (∀ n < 11, (u.pwr.measured mv temps rails u).railsOk.getLsbD n = (railInReg rails n || !railRequired s n)) ∧
    (∀ n < 11, n ∈ (u.pwr.measured mv temps rails u).faulty ↔ n ∈ s.pwr.faulty ∧ railInReg rails n = false ∧ railRequired s n = true) ∧
    (u.pwr.measured mv temps rails u).inRange = decide (36000 ≤ mv ∧ mv ≤ 75000) ∧
    (u.pwr.measured mv temps rails u).excursion = (s.pwr.excursion && !decide (36500 ≤ mv ∧ mv ≤ 74500)) ∧
    (u.pwr.measured mv temps rails u).tempArmed = (s.pwr.tempArmed ||
      decide (∀ n ∈ List.range 17, (temps.getD n 0).toInt < ((tempWarn s : Int) - (fld (cell s .pwrTempCfg) 15 8 : Nat)) * 8)) ∧
    (u.pwr.measured mv temps rails u).domains = s.pwr.domains ∧ (u.pwr.measured mv temps rails u).trip = s.pwr.trip := by
  have hreq : railRequired u = railRequired s := funext (railRequired_of hm.pwr)
  refine ⟨fun n hn => ?_, fun n hn => ?_, ?_, ?_, ?_, (congrArg Power.domains hm.pwr :), (congrArg Power.trip hm.pwr :)⟩
  · show (w32 (maskBits _)).getLsbD n = _
    rw [w32_maskBits (by omega), hreq]
    simp only [List.mem_filter, List.mem_range, hn, true_and, Bool.decide_eq_true]
  · show n ∈ u.pwr.faulty.filter _ ↔ _
    rw [List.mem_filter, hm.pwr, hreq]
    simp only [Bool.and_eq_true, Bool.not_eq_true']
  · exact (Bool.decide_and ..).symm
  · show (u.pwr.excursion && _) = _
    rw [hm.pwr, Bool.decide_and]
  · show (u.pwr.tempArmed || _) = _
    unfold tempWarn
    rw [hm.pwr, hm.cfg]
    congr 1
    rw [List.all_eq]
    refine decide_eq_decide.2 (forall_congr' fun n => forall_congr' fun hn => ?_)
    unfold sensorTemp
    rw [hm.temp n (List.mem_range.1 hn), sfld_setWidth, decide_eq_true_eq]
    rfl

theorem railNominal_eq : ∀ n : Fin 11, railNominal n = [800, 750, 850, 900, 1200, 1100, 1800, 1800, 6000, 8000, 3300].getD n 0 := by decide

/-- Of 12 voltages, those of a rail are in regulation (R416). -/
theorem railInReg_eq (rails : List (BitVec 16)) {n : Nat} (hn : n < 11) : railInReg rails n =
    (decide (20 * ((rails.getD n 0).toInt - [800, 750, 850, 900, 1200, 1100, 1800, 1800, 6000, 8000, 3300].getD n 0).natAbs ≤
      ([800, 750, 850, 900, 1200, 1100, 1800, 1800, 6000, 8000, 3300].getD n 0 : Int).natAbs) &&
      (decide (n ≠ 8) || decide (20 * ((rails.getD 11 0).toInt + 6000).natAbs ≤ 6000))) := by
  have hnom : railNominal n = [800, 750, 850, 900, 1200, 1100, 1800, 1800, 6000, 8000, 3300].getD n 0 := railNominal_eq ⟨n, hn⟩
  unfold railInReg nearNominal
  rw [hnom, Nat.mul_comm, Nat.mul_comm _ 20]
  congr 2
  simp [bne, Bool.beq_eq_decide_eq]

/-- What an event that is raised leaves, from before steps that keep the registers. -/
theorem event_raised {s u : State} (hs : Rises s.regs) (h : u.regs = s.regs) (hb : u.btr = s.btr) (r : Reg) (i b src idx : Nat) (cap : List Word) :
    Evented r i b s (raise src idx cap (event r i b u)) ∧ RegsKept [(r, i, 0)] s (raise src idx cap (event r i b u)) ∧
      Reported src idx cap s (raise src idx cap (event r i b u)) ∧ (raise src idx cap (event r i b u)).pwr = u.pwr :=
  ⟨(evented_of (evented_event (h ▸ hs) r i b) (cell_regs h ..)).keep (raise_regs ..), ((RegsKept.of_regs h).trans (regsKept_ev (h ▸ hs) r i b)).keep (raise_regs ..),
    reported_raise ((event_btr ..).trans hb), (event_pwr ..)⟩

/-- Settles O56. -/
theorem powerIsMeasured : Obligations.PowerIsMeasured := by
  unfold Obligations.PowerIsMeasured
  rintro nominal s rfl hu hs
  obtain ⟨e1, e2, -⟩ := at_pwr
  refine ⟨fun mv => ⟨fun h => ?_, fun h1 h2 h3 h4 => ?_⟩, fun n v => ⟨fun h => ?_, fun h1 h2 => ?_⟩, fun rail m fine hf => ?_,
    fun mv ma dw temps rails hot reg hh hr => ⟨fun h => ?_, fun h => ?_⟩⟩
  · refine (upNext_up hu).trans (congrArg _ (if_neg fun hc => ?_))
    simp only [Bool.and_eq_true, Bool.or_eq_true, decide_eq_true_eq, Bool.not_eq_true'] at hc
    obtain ⟨⟨⟨c1, c2⟩, c3⟩, c4⟩ := hc
    rcases h with h | h | h | h
    · rw [c1] at h; cases h
    · omega
    · rw [c2] at h; cases h
    · omega
  · have he : inputRange mv.toNat s = _ := if_pos (by
      simp only [Bool.and_eq_true, Bool.or_eq_true, decide_eq_true_eq, Bool.not_eq_true']
      exact ⟨⟨⟨h1, h3⟩, h2⟩, h4⟩)
    refine ⟨_, upNext_up hu, (inputRange_does ..).only, ?_⟩
    rw [he]
    obtain ⟨k1, k2, k3, k4⟩ := event_raised (u := s.modPwr _) hs.regs rfl rfl ..
    exact ⟨k4, k1, k2, k3⟩
  · refine (upNext_up hu).trans (congrArg _ (if_neg fun hc => ?_))
    simp only [Bool.and_eq_true, decide_eq_true_eq] at hc
    rcases h with h | h
    · rw [hc.1] at h; cases h
    · omega
  · have he : tempHigh n v s = _ := if_pos (by rw [h1, decide_eq_true h2]; rfl)
    refine ⟨_, upNext_up hu, (tempHigh_does ..).only, ?_⟩
    rw [he]
    obtain ⟨k1, k2, k3, k4⟩ := event_raised (u := s.modPwr _) hs.regs rfl rfl ..
    exact ⟨k4, k1, k2, k3⟩
  · have hfine : fine = (nearNominal rail m.toInt || (rail.val == 8 && nearNominal 11 m.toInt)) := by
      rw [hf]
      unfold nearNominal
      rw [railNominal_eq, Nat.mul_comm _ 20, Nat.mul_comm _ 20, beq_eq_decide]
      rfl
    have he : railFails rail m s = if railRequired s rail && !fine && !s.pwr.faulty.contains rail.val then
        railFault rail m.toNat (s.modPwr fun p => { p with faulty := p.faulty ++ [rail.val] }) else s := by rw [hfine]; rfl
    refine ⟨fun h => ?_, fun h1 h2 h3 => ?_⟩
    · refine (upNext_up hu).trans (congrArg _ (he.trans (if_neg fun hc => ?_)))
      simp only [Bool.and_eq_true, Bool.not_eq_true', List.contains_eq_mem, decide_eq_false_iff_not] at hc
      rcases h with h | h | h
      · rw [h] at hc; cases hc.1.2
      · rw [h] at hc; cases hc.1.1
      · exact hc.2 h
    · rw [if_pos (by rw [h1, h2, List.contains_eq_mem, decide_eq_false h3]; rfl)] at he
      have hne : regOff .pwrEvt 0 0 ≠ regOff .pwrCnt 0 0 := regOff_ne e1 e2 nofun
      have hc : Rises (count .pwrCnt 0 31 16 1 (s.modPwr fun p => { p with faulty := p.faulty ++ [rail.val] })).regs := rises_count hs.regs ..
      refine ⟨_, upNext_up hu, (railFails_does ..).only, ?_⟩
      rw [he]
      refine ⟨event_pwr .., (evented_of (evented_event hc ..) (cell_setCell_other (s := s.modPwr _) hs.regs _ hne)).keep rfl, ?_, ?_, ?_⟩
      · exact (cell_event_other hc _ _ _ hne.symm).trans (cell_setCell (s := s.modPwr _) hs.regs ..)
      · exact (((RegsKept.of_regs rfl).set (u := s.modPwr _) hs.regs (.tail _ (.head _)) _).ev hc (.head _) 20).keep rfl
      · have hm : w32 m.toNat = m := (BitVec.ofNat_toNat ..).trans (BitVec.setWidth_eq m)
        rw [railFault, hm]
        exact reported_raise (event_btr ..)
  · refine ⟨_, congrArg Host.Outcome.next (if_pos hu), ?_⟩
    rw [tripMet_temps mv.toNat temps hh, Bool.or_eq_true] at h
    have ht : (measuresTaken mv.toNat ma.toNat dw.toNat temps rails s).pwr.trip = none := by
      obtain ⟨_, u, -, hm, he, -⟩ := measuresTaken_takes hs.regs mv.toNat ma.toNat dw.toNat temps rails
      rw [he]
      exact (congrArg Power.trip hm.pwr).trans (Option.isNone_iff_eq_none.1 ((Bool.and_eq_true ..).mp hu).1)
    unfold measureUpdate
    dsimp only
    by_cases hd : tripMet .dieTemperature mv.toNat temps = true
    · rw [if_pos hd]
      have hp := protectiveTrip_trips hd ht
      exact ⟨not_isUp_of_trip hp, hp.trans (congrArg some (if_pos hd).symm)⟩
    · rw [if_neg hd, if_pos (h.resolve_left hd)]
      have hp := protectiveTrip_trips (h.resolve_left hd) ht
      exact ⟨not_isUp_of_trip hp, hp.trans (congrArg some (if_neg hd).symm)⟩
  · rw [tripMet_temps mv.toNat temps hh, Bool.or_eq_false_iff] at h
    have he : measureUpdate mv.toNat ma.toNat dw.toNat temps rails s = measuresTaken mv.toNat ma.toNat dw.toNat temps rails s := by
      unfold measureUpdate
      dsimp only
      rw [h.1, h.2]
      rfl
    obtain ⟨k, u, hk, hm, ht, hmax, hhot⟩ := measuresTaken_takes hs.regs mv.toNat ma.toNat dw.toNat temps rails
    have hreg (n : Nat) (hn : n < 11) : reg n = railInReg rails n := by rw [hr, railInReg_eq rails hn]
    obtain ⟨p1, p2, p3, p4, p5, p6, p7⟩ := measured_shows hm rails
    refine ⟨_, k, congrArg Host.Outcome.next ((if_pos hu).trans he), (measuresTaken_does ..).only, ?_⟩
    rw [ht]
    refine ⟨hm.kept, hm.vin.trans (mkFld_low mv), hm.iin.trans (mkFld_low ma), hm.pin.trans (mkFld_low dw), hm.temp, hk, ?_, ?_, hhot, fun n hn => ?_, fun n hn => ?_,
      rfl, p3, p4, p5, p6, p7⟩
    · exact (congrArg (fld · 20 16) hmax).trans (tempMax_flds hk _).1
    · exact (congrArg (fld · 15 0) hmax).trans (tempMax_flds hk _).2
    · rw [hreg n hn]
      exact p1 n hn
    · rw [hreg n hn]
      exact p2 n hn

end Sys2Proof.Machine
end

section
/-!
SUPPORT. The statement on the changes of power domains refuted: it says of a domain without HBM that it is never bare.
-/
namespace Sys2Proof.Machine

/-- Domain 0, a bed group without HBM, on its way from OFF to HOLD. -/
def holdComing : State := { State.reset with pwr := { Power.reset with domains := [(0, ⟨.off, some .hold, false⟩)] } }

theorem holdComing_tables : TablesRise holdComing := { resetIsSound.2.1 with domains := by decide +kernel }

/-- The change completes, and the domain is marked bare. -/
theorem holdComing_bare : (powerDom (domainChangeDone 0 holdComing) 0).bare = true := by decide +kernel

/-- Refutes O55: a domain that reaches HOLD from OFF is marked bare whichever it is, and the statement says so of domains 69 and 70 alone. -/
theorem not_domainsChange : ¬ Obligations.DomainsChange := by
  intro h
  obtain ⟨-, hd⟩ := h 0 holdComing rfl holdComing_tables
  obtain ⟨t, ht, hp, -⟩ := (hd .hold rfl nofun).1
  cases ht
  have hb : (powerDom (domainChangeDone 0 holdComing) 0).bare = false := congrArg PowerDomain.bare hp
  rw [holdComing_bare] at hb
  cases hb

end Sys2Proof.Machine
end

section
/-!
SUPPORT. Events of the Cornerstone as they are written (R445 to R449), and the statement on them settled.
-/
namespace Sys2Proof.Machine

/-! ### The journal's words (R445, R446) -/

theorem dfld_ofNat {hi lo : Nat} (h : hi < 64) (hl : lo ≤ hi) (n : Nat) : dfld (BitVec.ofNat 64 n) hi lo = n / 2 ^ lo % 2 ^ (hi + 1 - lo) := by
  rw [dfld, BitVec.toNat_ofNat]
  refine Nat.eq_of_testBit_eq fun k => ?_
  rw [Nat.testBit_mod_two_pow, Nat.testBit_mod_two_pow, Nat.testBit_div_two_pow, Nat.testBit_div_two_pow, Nat.testBit_mod_two_pow]
  by_cases hk : k < hi + 1 - lo
  · have h2 : k + lo < 64 := by omega
    simp only [h2, decide_true, Bool.true_and]
  · simp only [hk, decide_false, Bool.false_and]

/-- Word 0 of an event: its type and its number. -/
theorem eventWord_type {ty : Nat} (h : ty < 256) (n : Nat) : dfld (BitVec.ofNat 64 (ty * 2 ^ 56 + n % 2 ^ 48)) 63 56 = ty := by
  rw [dfld_ofNat (by decide) (by decide)]
  omega

theorem eventWord_number (ty n : Nat) : dfld (BitVec.ofNat 64 (ty * 2 ^ 56 + n % 2 ^ 48)) 47 0 = n % 2 ^ 48 := by
  rw [dfld_ofNat (by decide) (by decide)]
  omega

theorem eventWord_start {dev : Nat} (h : dev < 2 ^ 16) (n : Nat) : dfld (BitVec.ofNat 64 (n * 2 ^ 32 + dev * 65536)) 63 32 = n % 2 ^ 32 := by
  rw [dfld_ofNat (by decide) (by decide)]
  omega

/-- The words of an event. -/
structure EventWords (c : Cornerstone) (d : CnsDue) (ws : List DWord) : Prop where
  length : ws.length = 8
  type : d.type < 256 → dfld (ws.getD 0 0) 63 56 = d.type
  number : dfld (ws.getD 0 0) 47 0 = c.next % 2 ^ 48
  start : d.deviceId < 2 ^ 16 → dfld (ws.getD 1 0) 63 32 = c.startCount % 2 ^ 32
  tag : ws.getD 2 0 = BitVec.ofNat 64 d.tag
  sec : ws.getD 3 0 = d.time.sec
  data5 : ws.getD 5 0 = d.data5
  data6 : ws.getD 6 0 = if d.type = 6 then BitVec.ofNat 64 c.events.length else d.data6
  crc : ws.getD 7 0 = (crc32c ((ws.take 7).flatMap (fun x => beBytes 8 x.toNat) ++ beBytes 4 0)).setWidth 64

theorem cnsWords_words (c : Cornerstone) (d : CnsDue) : EventWords c d (cnsWords c d) :=
  ⟨rfl, fun h => eventWord_type h _, eventWord_number .., fun h => eventWord_start h _, rfl, rfl, rfl, rfl, BitVec.ofNat_toNat ..⟩

/-! ### The control area (R447) -/

/-- The copies of the control area show the journal as it is. -/
def ControlShown (c : Cornerstone) : Prop :=
  ∀ r ∈ [c.control0, c.control1, c.control2], r = ⟨c.next, c.startCount, (c.events.head?.map (·.slot)).getD 0, c.events.length, c.sealed, c.lost, c.failed, c.clearing⟩

theorem control_eq (c : Cornerstone) : c.control =
    ⟨c.next, c.startCount, (c.events.head?.map (·.slot)).getD 0, c.events.length, c.sealed, c.lost, c.failed, c.clearing⟩ := by
  unfold Cornerstone.control
  cases c.events with
  | nil => rfl
  | cons e l => rfl

theorem controlShown_update (c : Cornerstone) : ControlShown c.update := by
  intro r hr
  have h : r = c.control := by
    rcases List.mem_cons.1 hr with rfl | hr
    · rfl
    · rcases List.mem_cons.1 hr with rfl | hr
      · rfl
      · rw [List.mem_singleton.1 hr]
        rfl
  rw [h, control_eq]
  rfl

/-! ### The next event (R445, R448, R449, R451) -/

/-- The journal is full and sealed: the event is lost. -/
def Cornerstone.loses (c : Cornerstone) : Bool := c.sealed && decide (c.capacity ≤ c.events.length)

/-- The events that stay with the next one. -/
def Cornerstone.kept (c : Cornerstone) : List CnsEvent := if c.capacity ≤ c.events.length then c.events.drop 1 else c.events

/-- The journal without the event that was due, which is lost. -/
def Cornerstone.lostOne (rest : List CnsDue) (c : Cornerstone) : Cornerstone := { c with due := rest, lost := satTo 32 (c.lost + 1) }

/-- The journal with the event that was due. -/
def Cornerstone.wrote (d : CnsDue) (rest : List CnsDue) (k : Cornerstone) (c : Cornerstone) : Cornerstone :=
  { c with due := rest, events := k.kept ++ [⟨k.nextSlot, cnsWords { c with events := k.kept } d⟩], next := (c.next + 1) % 2 ^ 48, moved := true }

/-- The journal whose next slot has failed verification. -/
def Cornerstone.slotFailed (k : Cornerstone) (c : Cornerstone) : Cornerstone :=
  { c with events := k.kept, failed := if c.failed.length < 64 then c.failed ++ [k.nextSlot] else c.failed }

section
variable {s : State} {d : CnsDue} {rest : List CnsDue} (hd : s.cns.due = d :: rest)
include hd

theorem cnsEventWrite_eq (good : Bool) : cnsEventWrite good s = (cnsWriteNext good s).modCns Cornerstone.update := by
  unfold cnsEventWrite
  rw [hd]
  rfl

theorem cnsWriteNext_loses (h : s.cns.loses = true) (good : Bool) : cnsWriteNext good s = event .cnsEvt 0 17 (s.modCns (.lostOne rest)) := by
  unfold cnsWriteNext
  rw [hd]
  exact if_pos h

theorem cnsWriteNext_writes (h : s.cns.loses = false) : cnsWriteNext true s = cnsWritten d (s.modCns (.wrote d rest s.cns)) := by
  unfold cnsWriteNext
  rw [hd]
  exact if_neg (Bool.eq_false_iff.1 h)

theorem cnsWriteNext_fails (h : s.cns.loses = false) : cnsWriteNext false s =
    raise Src.cnsMemFail 0 [w32 (64 * s.cns.nextSlot)] (event .cnsEvt 0 19 (s.modCns (.slotFailed s.cns))) (master := 13) (access := 2) := by
  unfold cnsWriteNext
  rw [hd]
  exact if_neg (Bool.eq_false_iff.1 h)

end

/-- What an event changes once it has been written. -/
theorem cnsWritten_cns (d : CnsDue) (s : State) : (cnsWritten d s).cns =
    if d.type = 6 then { s.cns with sealed := true } else if d.type = 10 then { s.cns with clearing := false } else s.cns := by
  unfold cnsWritten
  split
  · exact event_cns ..
  · split
    · exact event_cns ..
    · rfl

theorem loses_of {c : Cornerstone} (h : c.sealed = false ∨ c.events.length < c.capacity) : c.loses = false := by
  unfold Cornerstone.loses
  rcases h with h | h
  · rw [h, Bool.false_and]
  · rw [decide_eq_false (Nat.not_le.2 h), Bool.and_false]

/-- R445, R449: an event that is written. -/
theorem cnsEventWrite_writes {s : State} {d : CnsDue} {rest : List CnsDue} (hd : s.cns.due = d :: rest) (h : s.cns.loses = false) :
    (cnsEventWrite true s).cns = ((if d.type = 6 then { s.cns.wrote d rest s.cns with sealed := true }
      else if d.type = 10 then { s.cns.wrote d rest s.cns with clearing := false } else s.cns.wrote d rest s.cns) : Cornerstone).update := by
  rw [cnsEventWrite_eq hd, cnsWriteNext_writes hd h]
  exact congrArg Cornerstone.update (cnsWritten_cns ..)

/-- R445, R449: the journal after an event that is written. -/
structure EventWritten (d : CnsDue) (rest : List CnsDue) (c k : Cornerstone) : Prop where
  events : ∃ e : CnsEvent, k.events = c.kept ++ [e] ∧ e.slot = c.nextSlot ∧ e.words = cnsWords { c with events := c.kept } d
  due : k.due = rest
  next : k.next = (c.next + 1) % 2 ^ 48
  failed : k.failed = c.failed
  sealed : k.sealed = (c.sealed || decide (d.type = 6))
  clearing : k.clearing = (c.clearing && decide (d.type ≠ 10))

theorem wrote_next (d : CnsDue) (rest : List CnsDue) (c : Cornerstone) : (c.wrote d rest c).next = (c.next + 1) % 2 ^ 48 := rfl

theorem wrote_events (d : CnsDue) (rest : List CnsDue) (c : Cornerstone) :
    (c.wrote d rest c).events = c.kept ++ [⟨c.nextSlot, cnsWords { c with events := c.kept } d⟩] := rfl

theorem slot_mk (q : Nat) (ws : List DWord) : (CnsEvent.mk q ws).slot = q := rfl

theorem EventWritten.of_wrote {d : CnsDue} {rest : List CnsDue} {c k x : Cornerstone} (hx : x = c.wrote d rest c) {a b : Bool}
    (h : k = { x with sealed := a, clearing := b, control0 := k.control0, control1 := k.control1, control2 := k.control2 })
    (ha : a = (c.sealed || decide (d.type = 6))) (hb : b = (c.clearing && decide (d.type ≠ 10))) : EventWritten d rest c k := by
  have h1 : k.events = x.events := (congrArg Cornerstone.events h :)
  have h2 : k.due = x.due := (congrArg Cornerstone.due h :)
  have h3 : k.next = x.next := (congrArg Cornerstone.next h :)
  have h4 : k.failed = x.failed := (congrArg Cornerstone.failed h :)
  have h5 : k.sealed = a := congrArg Cornerstone.sealed h
  have h6 : k.clearing = b := congrArg Cornerstone.clearing h
  rw [hx] at h1 h2 h3 h4
  exact ⟨⟨⟨c.nextSlot, cnsWords { c with events := c.kept } d⟩, h1.trans (wrote_events ..), slot_mk .., rfl⟩, h2, h3.trans (wrote_next ..), h4, h5.trans ha, h6.trans hb⟩

theorem cnsEventWrite_written {s : State} {d : CnsDue} {rest : List CnsDue} (hd : s.cns.due = d :: rest) (h : s.cns.loses = false) :
    EventWritten d rest s.cns (cnsEventWrite true s).cns := by
  rw [cnsEventWrite_writes hd h]
  by_cases h6 : d.type = 6
  · rw [if_pos h6]
    exact .of_wrote rfl rfl (by rw [decide_eq_true h6, Bool.or_true]) (by rw [decide_eq_true (show d.type ≠ 10 by omega), Bool.and_true]; rfl)
  · rw [if_neg h6]
    by_cases h10 : d.type = 10
    · rw [if_pos h10]
      exact .of_wrote rfl rfl (by rw [decide_eq_false h6, Bool.or_false]; rfl) (by rw [decide_eq_false (not_not_intro h10), Bool.and_false])
    · rw [if_neg h10]
      exact .of_wrote rfl rfl (by rw [decide_eq_false h6, Bool.or_false]; rfl) (by rw [decide_eq_true h10, Bool.and_true]; rfl)

/-- What an event that has been written raises. -/
theorem cnsWritten_raises {s u : State} (hs : TablesRise s) (hr : u.regs = s.regs) (hb : u.btr = s.btr) (hf : u.flt = s.flt) (d : CnsDue) :
    RegsKept [(.cnsEvt, 0, 0)] s (cnsWritten d u) ∧
      (d.type = 6 → Evented .cnsEvt 0 16 s (cnsWritten d u) ∧ ∃ l : Word, Reported Src.cnsSealed 0 [w32 d.data5.toNat, l] s (cnsWritten d u)) ∧
      (d.type = 10 → Evented .cnsEvt 0 18 s (cnsWritten d u)) ∧
      (d.type ≠ 6 → d.type ≠ 10 → (cnsWritten d u).regs = s.regs ∧ (cnsWritten d u).flt = s.flt) := by
  unfold cnsWritten
  by_cases h6 : d.type = 6
  · rw [if_pos h6]
    obtain ⟨k1, k2, k3, -⟩ := event_raised (u := u.modCns fun c => { c with sealed := true }) hs.regs hr hb .cnsEvt 0 16 Src.cnsSealed 0
      [w32 d.data5.toNat, w32 u.cns.events.length]
    exact ⟨k2, fun _ => ⟨k1, _, k3⟩, fun h => absurd (h6.symm.trans h) (by decide), fun h => absurd h6 h⟩
  · rw [if_neg h6]
    by_cases h10 : d.type = 10
    · rw [if_pos h10]
      have hr' : (u.modCns fun c => { c with clearing := false }).regs = s.regs := hr
      exact ⟨(RegsKept.of_regs hr').trans (regsKept_ev (hr' ▸ hs.regs) .cnsEvt 0 18), fun h => absurd h h6, fun _ => evented_of (evented_event (hr' ▸ hs.regs) ..) (cell_regs hr' ..),
        fun _ h => absurd h10 h⟩
    · rw [if_neg h10]
      exact ⟨.of_regs hr, fun h => absurd h h6, fun h => absurd h h10, fun _ _ => ⟨hr, hf⟩⟩

/-- Settles O60. -/
theorem cornerstoneWrites : Obligations.CornerstoneWrites := by
  unfold Obligations.CornerstoneWrites
  intro good s hu hs
  refine ⟨fun h => ?_, ?_⟩
  · refine (upNext_up hu).trans (congrArg _ ?_)
    unfold cnsEventWrite
    rw [h]
    rfl
  · rintro d rest kept hd rfl
    have hk : (if s.cns.capacity ≤ s.cns.events.length then s.cns.events.tail else s.cns.events) = s.cns.kept := by
      unfold Cornerstone.kept
      rw [List.drop_one]
    rw [hk]
    refine ⟨_, upNext_up hu, (cnsEventWrite_does ..).only, ?_, ?_, fun h1 h2 => ?_, fun h => ⟨fun hg => ?_, fun hg => ?_⟩⟩
    · rw [cnsEventWrite_eq hd]
      cases hl : s.cns.loses with
      | true =>
        rw [cnsWriteNext_loses hd hl]
        exact (RegsKept.of_regs (t := s.modCns (.lostOne rest)) rfl).trans ((regsKept_ev (s := s.modCns (.lostOne rest)) hs.regs .cnsEvt 0 17).keep rfl)
      | false =>
        cases good with
        | true =>
          rw [cnsWriteNext_writes hd hl]
          exact (cnsWritten_raises (u := s.modCns (.wrote d rest s.cns)) hs rfl rfl rfl d).1.keep rfl
        | false =>
          rw [cnsWriteNext_fails hd hl]
          exact (RegsKept.of_regs (t := s.modCns (.slotFailed s.cns)) rfl).trans ((regsKept_ev (s := s.modCns (.slotFailed s.cns)) hs.regs .cnsEvt 0 19).keep rfl)
    · rw [cnsEventWrite_eq hd]
      exact controlShown_update _
    · have hl : s.cns.loses = true := by
        unfold Cornerstone.loses
        rw [h1, decide_eq_true h2]
        rfl
      rw [cnsEventWrite_eq hd, cnsWriteNext_loses hd hl]
      have hc : ((event .cnsEvt 0 17 (s.modCns (.lostOne rest))).modCns Cornerstone.update).cns = (s.cns.lostOne rest).update :=
        congrArg Cornerstone.update (event_cns ..)
      refine ⟨?_, (evented_event (s := s.modCns (.lostOne rest)) hs.regs .cnsEvt 0 17).keep rfl, event_flt ..⟩
      rw [hc]
      rfl
    · subst hg
      have hl := loses_of h
      obtain ⟨⟨e, w2, w3, w4⟩, w5, w6, w7, w8, w9⟩ := cnsEventWrite_written hd hl
      obtain ⟨e1, e2, e3, e4, e5, e6, e7, e8, e9⟩ := w4 ▸ cnsWords_words { s.cns with events := s.cns.kept } d
      have hr : (cnsEventWrite true s).regs = (cnsWritten d (s.modCns (.wrote d rest s.cns))).regs ∧ (cnsEventWrite true s).flt = (cnsWritten d (s.modCns (.wrote d rest s.cns))).flt := by
        rw [cnsEventWrite_eq hd, cnsWriteNext_writes hd hl]
        exact ⟨rfl, rfl⟩
      obtain ⟨-, r1, r2, r3⟩ := cnsWritten_raises (u := s.modCns (.wrote d rest s.cns)) hs rfl rfl rfl d
      refine ⟨e, w2, w3, e1, w5, w6, w7, e2, e3, e4, e5, e6, e7, e8, e9, fun h6 => ?_, fun h10 => ?_, fun h6 h10 => ?_⟩
      · obtain ⟨k1, l, k2⟩ := r1 h6
        exact ⟨by rw [w8, decide_eq_true h6, Bool.or_true], k1.keep hr.1, l, k2.keep hr.2⟩
      · exact ⟨by rw [w9, decide_eq_false (not_not_intro h10), Bool.and_false], by rw [w8, decide_eq_false (show ¬ d.type = 6 by omega), Bool.or_false], (r2 h10).keep hr.1⟩
      · exact ⟨by rw [w8, decide_eq_false h6, Bool.or_false], by rw [w9, decide_eq_true h10, Bool.and_true], hr.1.trans (r3 h6 h10).1, hr.2.trans (r3 h6 h10).2⟩
    · subst hg
      rw [cnsEventWrite_eq hd, cnsWriteNext_fails hd (loses_of h)]
      have hc : ((raise Src.cnsMemFail 0 [w32 (64 * s.cns.nextSlot)] (event .cnsEvt 0 19 (s.modCns (.slotFailed s.cns))) (master := 13) (access := 2)).modCns
          Cornerstone.update).cns = (s.cns.slotFailed s.cns).update := congrArg Cornerstone.update (event_cns ..)
      refine ⟨?_, (evented_event (s := s.modCns (.slotFailed s.cns)) hs.regs .cnsEvt 0 19).keep rfl, ?_⟩
      · rw [hc]
        rfl
      · exact (reported_raise (u := event .cnsEvt 0 19 (s.modCns (.slotFailed s.cns))) ((event_btr ..).trans rfl)).keep rfl

end Sys2Proof.Machine
end

section
/-!
SUPPORT. Trips and resets (R423 to R428, R446, R447), the JTAG port (R464, R465), and the statement on them settled.
-/
namespace Sys2Proof.Machine

/-! ### What the Cornerstone writes at once (R424, R446) -/

theorem kept_append_one {c : Cornerstone} {l : List CnsEvent} {e : CnsEvent} (he : c.events = l ++ [e]) (hc : 2 ≤ c.capacity) :
    ∃ l', c.kept = l' ++ [e] := by
  unfold Cornerstone.kept
  rw [he]
  split
  · next h =>
    cases l with
    | nil => exact absurd h (by simp; omega)
    | cons a l => exact ⟨l, rfl⟩
  · exact ⟨l, rfl⟩

/-- The one event that is due, written at once. -/
theorem cnsFlush_one {s : State} {d : CnsDue} (hd : s.cns.due = [d]) (hs : s.cns.sealed = false) : EventWritten d [] s.cns (cnsFlush s).cns := by
  have h := cnsEventWrite_written hd (loses_of (.inl hs))
  unfold cnsFlush
  rw [hd]
  exact h

/-- Two events that are due, written at once, the first one no SEAL. -/
theorem cnsFlush_two {s : State} {d e : CnsDue} (hd : s.cns.due = [d, e]) (hs : s.cns.sealed = false) (h6 : d.type ≠ 6) :
    ∃ k : Cornerstone, EventWritten d [e] s.cns k ∧ EventWritten e [] k (cnsFlush s).cns := by
  have h := cnsEventWrite_written hd (loses_of (.inl hs))
  have hs2 : (cnsEventWrite true s).cns.sealed = false := by rw [h.sealed, hs, decide_eq_false h6]; rfl
  refine ⟨_, h, ?_⟩
  have h2 := cnsEventWrite_written h.due (loses_of (.inl hs2))
  unfold cnsFlush
  rw [hd]
  exact h2

theorem EventWritten.capacity {d : CnsDue} {rest : List CnsDue} {c k : Cornerstone} (h : EventWritten d rest c k) : k.capacity = c.capacity := by
  unfold Cornerstone.capacity
  rw [h.failed]

/-- R446: what a trip journals. -/
structure TripJournalled (cause mv temp sensor : Nat) (k : Cornerstone) : Prop where
  sealed : k.sealed = true
  events : ∃ (l : List CnsEvent) (a b : CnsEvent), k.events = l ++ [a, b] ∧ dfld (a.words.getD 0 0) 63 56 = 5 ∧ dfld (b.words.getD 0 0) 63 56 = 6 ∧
    a.words.getD 5 0 = BitVec.ofNat 64 (cause * 2 ^ 32 + mv) ∧ a.words.getD 6 0 = BitVec.ofNat 64 (temp * 2 ^ 32 + sensor) ∧ b.words.getD 5 0 = 1

theorem tripEvent_type (s : State) (ty d5 d6 : Nat) : (tripEvent s ty d5 d6).type = ty ∧ (tripEvent s ty d5 d6).data5 = BitVec.ofNat 64 d5 ∧
    (tripEvent s ty d5 d6).data6 = BitVec.ofNat 64 d6 := by
  unfold tripEvent
  dsimp only
  generalize (match s.cns.events.getLast? with | some e => _ | none => _) = last
  split <;> exact ⟨rfl, rfl, rfl⟩

theorem cnsTrip_journals {s : State} (hs : s.cns.sealed = false) (hd : s.cns.due = []) (hc : 2 ≤ s.cns.capacity) (cause mv temp sensor : Nat) :
    TripJournalled cause mv temp sensor (cnsTrip cause mv temp sensor s).cns := by
  obtain ⟨a1, a2, a3⟩ := tripEvent_type s 5 (cause * 2 ^ 32 + mv) (temp * 2 ^ 32 + sensor)
  obtain ⟨b1, b2, -⟩ := tripEvent_type s 6 1 0
  unfold cnsTrip
  dsimp only
  generalize tripEvent s 5 (cause * 2 ^ 32 + mv) (temp * 2 ^ 32 + sensor) = trip at a1 a2 a3
  generalize tripEvent s 6 1 0 = last at b1 b2
  have hdue : (if s.cns.due.any (fun d => d.type == 6) then beforeSeal s trip s.cns.due else s.cns.due ++ [trip, last]) = [trip, last] := by rw [hd]; rfl
  let u := s.modCns fun c => { c with due := if c.due.any (fun d => d.type == 6) then beforeSeal s trip c.due else c.due ++ [trip, last] }
  have hu : u.cns.due = [trip, last] := hdue
  obtain ⟨k, h1, h2⟩ := cnsFlush_two hu hs (by rw [a1]; decide)
  obtain ⟨a, e1, -, w1⟩ := h1.events
  obtain ⟨b, e2, -, w2⟩ := h2.events
  obtain ⟨l, hl⟩ := kept_append_one e1 (h1.capacity ▸ hc)
  have x1 := cnsWords_words { u.cns with events := u.cns.kept } trip
  have x2 := cnsWords_words { k with events := k.kept } last
  rw [← w1] at x1
  rw [← w2] at x2
  refine ⟨by rw [h2.sealed, b1]; simp, l, a, b, ?_, (x1.type (by rw [a1]; decide)).trans a1, (x2.type (by rw [b1]; decide)).trans b1, x1.data5.trans a2, ?_, x2.data5.trans b2⟩
  · rw [e2, hl, List.append_assoc]
    rfl
  · rw [x1.data6, a1, if_neg (by decide), a3]

/-! ### A trip (R423, R424) -/

theorem tripCode_lt (c : TripCause) : tripCode c < 2 ^ 32 := by cases c <;> exact Nat.mod_lt _ (by decide)

theorem tripWord (c : TripCause) (mv : BitVec 17) : dfld (BitVec.ofNat 64 (tripCode c * 2 ^ 32 + mv.toNat)) 63 32 = tripCode c ∧
    dfld (BitVec.ofNat 64 (tripCode c * 2 ^ 32 + mv.toNat)) 31 0 = mv.toNat := by
  have h1 := tripCode_lt c
  have h2 := mv.isLt
  rw [dfld_ofNat (by decide) (by decide), dfld_ofNat (by decide) (by decide)]
  omega

/-- R423: the condition of a trip. -/
theorem tripMet_eq (cause : TripCause) (mv : Nat) (temps : List (BitVec 16)) : tripMet cause mv temps =
    match cause with
    | .underVoltage => decide (mv < lockoutFalling)
    | .dieTemperature => (List.range 16).any (fun n => decide (920 ≤ (temps.getD n 0).toInt))
    | .stageTemperature => decide (1000 ≤ (temps.getD 16 0).toInt) := by
  cases cause <;> rfl

theorem notVoltage (c : TripCause) : (c != .underVoltage) = decide (c ≠ .underVoltage) := by cases c <;> rfl

/-- The module as a trip leaves it: the Cornerstone has journalled, then all power is lost. -/
def tripped (cause : TripCause) (mv : Nat) (temps : List (BitVec 16)) (s : State) : State :=
  let h := hottestOf (fun n => (reading temps n).toInt)
  cnsTrip (tripCode cause) mv (reading temps h).toNat h s

theorem protectiveTrip_eq {cause : TripCause} {mv : Nat} {temps : List (BitVec 16)} {s : State} (hm : tripMet cause mv temps = true) (ht : s.pwr.trip = none) :
    protectiveTrip cause mv temps s =
      { volatileLost (tripPower cause (reading temps 16) s.pwr) (tripped cause mv temps s) with jtag := { Jtag.reset with trst := s.jtag.trst } } := by
  have hp : (tripped cause mv temps s).pwr = s.pwr := (cnsTrip_does ..).only.same .pwr (by decide)
  have hj : (tripped cause mv temps s).jtag = s.jtag := (cnsTrip_does ..).only.same .jtag (by decide)
  unfold protectiveTrip
  rw [hm, ht]
  show ({ volatileLost (tripPower cause (reading temps 16) (tripped cause mv temps s).pwr) (tripped cause mv temps s) with
    jtag := { Jtag.reset with trst := (tripped cause mv temps s).jtag.trst } } : State) = _
  rw [hp, hj]

/-- What a machine that has lost everything, with its port reset, is. -/
theorem lost_withJtag (p : Power) (s : State) (j : Jtag) : Lost { volatileLost p s with jtag := j } := rfl

/-! ### The copy of the control area that a start takes (R447) -/

/-- The newer of a copy and what was found before it. -/
def newer (m : Option CnsControl) (x : CnsControl) : Option CnsControl := match m with | some y => if y.next < x.next then some x else m | none => some x

theorem newest_eq (c : Cornerstone) (good : BitVec 3) : c.newest good =
    ((if good.getLsbD 0 then [c.control0] else []) ++ (if good.getLsbD 1 then [c.control1] else []) ++ (if good.getLsbD 2 then [c.control2] else [])).foldl newer none := rfl

theorem newest_none (c : Cornerstone) : c.newest 0 = none := rfl

theorem foldl_newer_keeps {x : CnsControl} {l : List CnsControl} (h : ∀ y ∈ l, y.next ≤ x.next) : l.foldl newer (some x) = some x := by
  induction l with
  | nil => rfl
  | cons y l ih =>
    have hy : newer (some x) y = some x := if_neg (Nat.not_lt.2 (h y (.head _)))
    rw [List.foldl_cons, hy]
    exact ih fun z hz => h z (.tail _ hz)

theorem foldl_newer {x : CnsControl} {a b : List CnsControl} (hb : ∀ y ∈ b, y.next ≤ x.next) : ∀ {m : Option CnsControl}, (∀ y, m = some y → y.next < x.next) →
    (∀ y ∈ a, y.next < x.next) → (a ++ x :: b).foldl newer m = some x := by
  induction a with
  | nil =>
    intro m hm _
    have hx : newer m x = some x := by
      cases m with
      | none => rfl
      | some y => exact if_pos (hm y rfl)
    rw [List.nil_append, List.foldl_cons, hx]
    exact foldl_newer_keeps hb
  | cons y a ih =>
    intro m hm ha
    rw [List.cons_append, List.foldl_cons]
    refine ih (fun z hz => ?_) fun z hz => ha z (.tail _ hz)
    unfold newer at hz
    cases m with
    | none =>
      cases hz
      exact ha _ (.head _)
    | some q =>
      dsimp only at hz
      split at hz
      · cases hz
        exact ha _ (.head _)
      · cases hz
        exact hm _ rfl

theorem mem_ite {α : Type} {b : Bool} {x y : α} (h : y ∈ (if b then [x] else [])) : b = true ∧ y = x := by
  cases b with
  | true => exact ⟨rfl, List.mem_singleton.1 h⟩
  | false => cases h

/-- Of the good copies the one with the highest number, the first of equal ones. -/
theorem newest_is {c : Cornerstone} {good : BitVec 3} {copies : Nat → CnsControl}
    (hc : copies = fun j => [c.control0, c.control1, c.control2].getD j c.control0) {i : Nat} (hi : i < 3) (hg : good.getLsbD i = true)
    (h : ∀ j < 3, good.getLsbD j = true → (copies j).next ≤ (copies i).next ∧ (j < i → (copies j).next < (copies i).next)) :
    c.newest good = some (copies i) := by
  have c0 : copies 0 = c.control0 := by rw [hc]; rfl
  have c1 : copies 1 = c.control1 := by rw [hc]; rfl
  have c2 : copies 2 = c.control2 := by rw [hc]; rfl
  have before {j : Nat} (hj : j < i) {y : CnsControl} (hy : y ∈ (if good.getLsbD j then [copies j] else [])) : y.next < (copies i).next := by
    obtain ⟨hb, rfl⟩ := mem_ite hy
    exact (h j (by omega) hb).2 hj
  have after {j : Nat} (hj : j < 3) {y : CnsControl} (hy : y ∈ (if good.getLsbD j then [copies j] else [])) : y.next ≤ (copies i).next := by
    obtain ⟨hb, rfl⟩ := mem_ite hy
    exact (h j hj hb).1
  rw [newest_eq, ← c0, ← c1, ← c2]
  have hcases : i = 0 ∨ i = 1 ∨ i = 2 := by omega
  rcases hcases with rfl | rfl | rfl
  · rw [if_pos hg, List.append_assoc]
    exact foldl_newer (a := []) (fun y hy => (List.mem_append.1 hy).elim (after (by decide)) (after (by decide))) nofun nofun
  · rw [if_pos (c := good.getLsbD 1 = true) hg, List.append_assoc]
    exact foldl_newer (fun y => after (by decide)) nofun fun y => before (by decide)
  · rw [if_pos (c := good.getLsbD 2 = true) hg]
    exact foldl_newer (b := []) (fun y hy => nomatch hy) nofun fun y hy => (List.mem_append.1 hy).elim (before (by decide)) (before (by decide))

/-! ### Resets (R425 to R428) -/

theorem foundationResetDone_eq {s : State} (h : s.pwr.inReset = true) (control : BitVec 3) : foundationResetDone false control s =
    cnsStart control { volatileLost s.pwr s with pwr := { Power.reset with resetCause := resetCauseOf s.pwr } } := by
  unfold foundationResetDone
  rw [if_pos h]
  rfl

/-- What FOUND_RST_N leaves of a machine that is up. -/
theorem foundRstAssert_eq {s : State} (h : isUp s = true) : foundRstAssert s =
    volatileLost { s.pwr with resetPin := true, inReset := true, resetByPin := true }
      (cnsFlush (cnsPost (cnsDueNow (s.modPwr fun p => { p with resetPin := true }) 3 0 0) (s.modPwr fun p => { p with resetPin := true }))) := by
  let u := s.modPwr fun p => { p with resetPin := true }
  have hp : (cnsFlush (cnsPost (cnsDueNow u 3 0 0) u)).pwr = u.pwr := (cnsFlush_does ..).only.same .pwr (by decide)
  have hu : isUp u = true := h
  show (if isUp u then volatileLost { (cnsFlush (cnsPost (cnsDueNow u 3 0 0) u)).pwr with inReset := true, resetByPin := true }
    (cnsFlush (cnsPost (cnsDueNow u 3 0 0) u)) else u) = _
  rw [if_pos hu, hp]
  rfl

/-- R446: START is due. -/
def startPosted (s : State) : State :=
  let s := s.modCns fun c => { c with startCount := (c.startCount + 1) % 2 ^ 32 }
  s.modCns fun c => { c with due := cnsDueNow s 1 s.pwr.resetCause (cell s .hstId).toNat :: c.due }

theorem cnsStart_takes {s : State} {good : BitVec 3} {x : CnsControl} (h : s.cns.newest good = some x) : cnsStart good s = startPosted (s.modCns fun c => c.take x) := by
  unfold cnsStart
  rw [h]
  rfl

theorem cnsStart_rebuilds {s : State} {good : BitVec 3} (h : s.cns.newest good = none) : cnsStart good s = startPosted ((cnsRebuild s).modCns Cornerstone.update) := by
  unfold cnsStart
  rw [h]
  rfl

/-- R447: a rebuild keeps the events that the journal holds. -/
theorem cnsRebuild_raises (s : State) : (cnsRebuild s).pwr = s.pwr ∧ (cnsRebuild s).cns.events = s.cns.events ∧ (cnsRebuild s).cns.lost = 0xFFFFFFFF ∧
    ∃ r ∈ (cnsRebuild s).flt.flying, r.source = Src.cnsMemFail := by
  have hc (f : Cornerstone → Cornerstone) : (event .cnsEvt 0 19 (s.modCns f)).cns = f s.cns := event_cns ..
  unfold cnsRebuild
  dsimp only
  refine ⟨event_pwr .., (congrArg Cornerstone.events (hc _) :), (congrArg Cornerstone.lost (hc _) :), ?_⟩
  rw [raise_flying]
  exact ⟨_, List.mem_append_right _ (List.mem_singleton.2 rfl), rfl⟩

/-- R428: the power domains right after reset. -/
theorem powerDom_reset {s : State} (h : s.pwr.domains = Power.reset.domains) (k : Nat) :
    powerDom s k = ⟨if k = 50 ∨ k = 51 then .on else .off, none, false⟩ := by
  unfold powerDom
  rw [h]
  by_cases h50 : k = 50
  · subst h50
    rfl
  · by_cases h51 : k = 51
    · subst h51
      rfl
    · rw [if_neg (by omega)]
      show smGet _ [(50, _), (51, _)] k = _
      simp only [smGet, smFind, h50, h51, if_false]
      rfl

/-- R446: FOUND_RST_N is journalled. -/
theorem pinReset_journals {s : State} (hs : s.cns.sealed = false) (hd : s.cns.due = []) (d5 d6 : Nat) :
    ∃ (l : List CnsEvent) (a : CnsEvent), (cnsFlush (cnsPost (cnsDueNow s 3 d5 d6) s)).cns.events = l ++ [a] ∧ dfld (a.words.getD 0 0) 63 56 = 3 := by
  let u := cnsPost (cnsDueNow s 3 d5 d6) s
  have hu : u.cns.due = [cnsDueNow s 3 d5 d6] := congrArg (· ++ [cnsDueNow s 3 d5 d6]) hd
  obtain ⟨a, e, -, w⟩ := (cnsFlush_one hu hs).events
  refine ⟨_, a, e, ?_⟩
  have x := cnsWords_words { u.cns with events := u.cns.kept } (cnsDueNow s 3 d5 d6)
  rw [← w] at x
  exact x.type (show 3 < 256 by decide)

/-- Settles O57. -/
theorem tripsAndResets : Obligations.TripsAndResets := by
  unfold Obligations.TripsAndResets
  refine ⟨?_, fun s => ⟨fun h => ?_, ⟨fun h1 h2 => ?_, fun h => ?_, fun h => ?_⟩, ?_, fun mv ma dw temps rails h => ?_, fun h => ?_, fun h => ?_, fun low control h => ?_,
    fun control h => ?_, ?_, fun h => ?_, fun low => ?_, fun i data on h => ?_, fun i data on h1 h2 => ?_⟩⟩
  · rintro cause mv dies temps stage met s rfl hmet
    have hm : met = tripMet cause mv.toNat (allSensors dies stage) := hmet.trans (tripMet_eq ..).symm
    refine ⟨fun h => ?_, fun h1 h2 => ?_, fun h1 h2 => ?_⟩
    · refine congrArg Host.Outcome.next ?_
      unfold protectiveTrip
      rw [← hm, h]
      rfl
    · refine congrArg Host.Outcome.next ?_
      unfold protectiveTrip
      rw [← hm, h1, h2, notVoltage]
      rfl
    · have he := protectiveTrip_eq (s := s) (hm.symm.trans h1) h2
      obtain ⟨g1, g2⟩ := hottestOf_highest fun n => (reading (allSensors dies stage) n).toInt
      refine ⟨_, _, congrArg Host.Outcome.next he, rfl, rfl, congrArg (s.pwr.input && ·) (notVoltage cause), rfl, rfl, rfl, ?_, rfl, rfl, rfl, rfl, g1, fun n hn => (g2 n hn).1, fun k1 k2 k3 => ?_⟩
      · exact (cnsTrip_does ..).only.same .pending (by decide)
      · obtain ⟨q1, l, a, b, q2, q3, q4, q5, q6, q7⟩ := cnsTrip_journals k1 k2 k3 (tripCode cause) mv.toNat
          (reading (allSensors dies stage) (hottestOf fun n => (reading (allSensors dies stage) n).toInt)).toNat (hottestOf fun n => (reading (allSensors dies stage) n).toInt)
        exact ⟨q1, l, a, b, q2, q3, q4, by rw [q5]; exact (tripWord cause mv).1, by rw [q5]; exact (tripWord cause mv).2, q6, q7⟩
  · refine congrArg Host.Outcome.next ?_
    unfold tripLatchClear
    rw [h]
    rfl
  · refine congrArg Host.Outcome.next ?_
    unfold tripLatchClear
    rw [h2, if_neg (by rw [Option.isNone_eq_false_iff.2 h1]; decide)]
    rfl
  · refine congrArg Host.Outcome.next ?_
    unfold inputValid
    rw [if_pos h]
  · refine ⟨_, congrArg Host.Outcome.next (if_neg (by rw [h]; decide)), ?_⟩
    exact ⟨rfl, rfl, rfl, rfl, rfl, rfl, rfl, rfl, rfl, rfl, rfl, rfl⟩
  · rintro clears hc hi
    have he : tripLatchClear s = if clears then s.modPwr (fun p => { p with trip := none, inReset := true, resetByPin := false }) else s := by
      unfold tripLatchClear
      rw [hc, hi]
      cases s.pwr.trip with
      | none => rfl
      | some c => cases c <;> rfl
    exact ⟨fun h => congrArg Host.Outcome.next (he.trans (by rw [h]; rfl)), fun h => congrArg Host.Outcome.next (he.trans (by rw [h]; rfl))⟩
  · exact congrArg Host.Outcome.next (if_neg (by rw [h]; decide))
  · refine congrArg Host.Outcome.next ?_
    have h' : isUp (s.modPwr fun p => { p with resetPin := true }) = false := h
    unfold foundRstAssert
    dsimp only
    rw [h']
    rfl
  · have ht : s.pwr.trip = none := Option.isNone_iff_eq_none.1 ((Bool.and_eq_true ..).mp h).1
    have he := foundRstAssert_eq h
    refine ⟨_, congrArg Host.Outcome.next he, rfl.trans (Bool.and_false _), ht, rfl, rfl, rfl, rfl, ?_, ?_, fun k1 k2 => ?_⟩
    · exact (cnsFlush_does ..).only.same .pending (by decide)
    · exact (cnsFlush_does ..).only.same .jtag (by decide)
    · exact pinReset_journals (s := s.modPwr fun p => { p with resetPin := true }) k1 k2 0 0
  · exact congrArg Host.Outcome.next (if_neg (by rw [h]; decide))
  · exact congrArg Host.Outcome.next (if_pos h)
  · rintro control copies i h hc hi hg hbest
    have hn := newest_is hc hi hg hbest
    have he := (foundationResetDone_eq h control).trans (cnsStart_takes (s := { volatileLost s.pwr s with pwr := { Power.reset with resetCause := resetCauseOf s.pwr } }) hn)
    exact ⟨_, _, congrArg Host.Outcome.next he, rfl, rfl, powerDom_reset rfl, rfl, rfl, rfl, rfl, rfl, rfl, rfl, rfl, rfl, rfl⟩
  · have he := (foundationResetDone_eq h 0).trans (cnsStart_rebuilds (s := { volatileLost s.pwr s with pwr := { Power.reset with resetCause := resetCauseOf s.pwr } }) (newest_none _))
    obtain ⟨b1, b2, b3, r, b4, b5⟩ := cnsRebuild_raises { volatileLost s.pwr s with pwr := { Power.reset with resetCause := resetCauseOf s.pwr } }
    refine ⟨_, r, congrArg Host.Outcome.next he, ?_, ?_, ?_, b4, b5⟩
    · exact (congrArg (fun p : Power => p.trip.isNone && !p.inReset) b1).trans rfl
    · exact b2
    · exact b3
  · rfl
  · have hoff : (s.pwr.trip.isSome || s.jtag.trst) = true := by rw [Bool.or_eq_true]; exact h
    exact ⟨congrArg Host.Outcome.next (if_pos hoff), congrArg Host.Outcome.next (if_pos hoff), congrArg Host.Outcome.next (if_pos hoff)⟩
  · have hoff : ¬ (s.pwr.trip.isSome || s.jtag.trst) = true := by rw [h1, h2]; decide
    refine ⟨congrArg Host.Outcome.next (if_neg hoff), congrArg Host.Outcome.next (if_neg hoff), congrArg Host.Outcome.next ((if_neg hoff).trans ?_)⟩
    cases i <;> rfl

end Sys2Proof.Machine
end

section
/-!
SUPPORT. The statement on the Plumb's arms and fires refuted: the origin of a fire that waits for an arm is of any size in it.
-/
namespace Sys2Proof.Machine

/-- A Plumb that is IDLE, set to MODE 1 and to the arm pin, with one slot enabled and a fire of this core cycle that waits: its origin is so large that the
word of its record has kind 0. -/
def wideOrigin : State :=
  { State.reset with
    regs := [(regOff .plbCfg, 5), (regOff .plbSig 1, 0x80000100)]
    pwr := { Power.reset with domains := [(78, ⟨.on, none, false⟩)] }
    plb := { Plumb.reset with waiting := some ⟨nowStamp State.reset, 0xFD00, 0, 0⟩ } }

theorem wideOrigin_tables : TablesRise wideOrigin := { resetIsSound.2.1 with domains := by decide +kernel, regs := by decide +kernel }

/-- The fire's record has a word of zeros, and stands before the slot's. -/
theorem wideOrigin_record (drove : Bool) : (fireRecord 0 0xFD00 0 drove).kind = 0 := by cases drove <;> decide +kernel

theorem wideOrigin_store : ((plbArmEdge wideOrigin).plb.store.getLast?.map (·.kind)) = some 1 := by decide +kernel

/-- Refutes O58: the record of a fire that an arm takes need not be the last of the store, where its origin is no code of R439. -/
theorem not_plumbArmsAndFires : ¬ Obligations.PlumbArmsAndFires := by
  intro h
  obtain ⟨t, ht, -, -, -, -, -, -, hf, -⟩ := h.1 .plbArmEdge wideOrigin wideOrigin_tables (.inr ⟨rfl, rfl, by decide +kernel, by decide +kernel⟩)
  obtain ⟨-, -, -, -, -, -, l, hl, -⟩ := hf (by decide +kernel) (.inl rfl) _ rfl (by decide +kernel)
  have he : t = plbArmEdge wideOrigin := (Host.Outcome.next.inj (ht.symm.trans (upNext_up rfl)) :)
  have hk := wideOrigin_store
  rw [← he, hl, List.getLast?_concat, Option.map_some] at hk
  exact absurd ((wideOrigin_record _).symm.trans (Option.some.inj hk)) (by decide)

end Sys2Proof.Machine
end

section
/-!
SUPPORT. Samples of the Plumb's slots: what is recorded (R434 to R436), what crosses a threshold (R440), the fire that follows (R438, R439), and the
statement on the changes settled.
-/
namespace Sys2Proof.Machine

theorem at_plb : regExists .plbEvt 0 0 = true ∧ regExists .plbLost 0 0 = true ∧ regExists .plbMissed 0 0 = true ∧ regExists .plbCfg 0 0 = true ∧
    (∀ n : Fin 64, regExists .plbSig n 0 = true) ∧ ∀ k : Fin 8, regExists .plbThr k 0 = true ∧ regExists .plbThrLevel k 0 = true := by decide +kernel

theorem at_plbCfgs : ∀ i : Fin 256, regOff .gauChCfg i ≠ regOff .plbEvt ∧ regOff .gauChCfg i ≠ regOff .plbLost ∧ regOff .gauChCfg i ≠ regOff .plbMissed := by
  decide +kernel

/-- The registers that the Plumb's samples can change. -/
def plbRegs : List (Reg × Nat × Nat) := [(.plbEvt, 0, 0), (.plbLost, 0, 0), (.plbMissed, 0, 0)]

/-! ### Records in their order (R433) -/

theorem mem_plbInsert {r y : PlbRec} {l : List PlbRec} (h : y ∈ plbInsert r l) : y = plbTagged r l ∨ y ∈ l := by
  unfold plbInsert at h
  dsimp only at h
  rcases List.mem_append.1 h with h | h
  · exact .inr (List.mem_of_mem_take h)
  · rcases List.mem_cons.1 h with h | h
    · exact .inl h
    · refine .inr ?_
      unfold plbPassed at h
      exact List.mem_reverse.1 ((List.takeWhile_sublist _).subset (List.mem_reverse.1 h))

theorem plbTagged_kind (r : PlbRec) (l : List PlbRec) : (plbTagged r l).kind = r.kind := rfl

theorem plbTagged_tag_le (r : PlbRec) (l : List PlbRec) : r.tag ≤ (plbTagged r l).tag := Nat.le_max_left ..

/-- A record that no FIRE and no MARK of a later tag precedes keeps its tag. -/
theorem plbTagged_tag {r : PlbRec} {l : List PlbRec} (h5 : r.kind ≠ 5) (h : ∀ y ∈ l, 2 < y.kind → y.tag ≤ r.tag) : (plbTagged r l).tag = r.tag := by
  refine Nat.max_eq_left ?_
  cases hl : (l.filter (fun y => r.kind == 5 || decide (2 < y.kind))).getLast? with
  | none => exact Nat.zero_le _
  | some y =>
    obtain ⟨hy, hk⟩ := List.mem_filter.1 (List.mem_of_getLast? hl)
    rw [beq_eq_false_iff_ne.2 h5, Bool.false_or, decide_eq_true_eq] at hk
    exact h y hy hk

theorem plbWord_kind {kind slot info : Nat} (hk : kind < 256) (hs : slot < 256) (hi : info < 256) (data tag : Nat) (b : Bool) :
    PlbRec.kind ⟨tag, plbWord kind slot info data, b⟩ = kind := by
  have hd := Nat.mod_lt data (show 2 ^ 40 > 0 by decide)
  show (plbWord kind slot info data).toNat / 2 ^ 56 = kind
  rw [plbWord, BitVec.toNat_ofNat]
  omega

/-! ### What the Plumb's slots keep -/

theorem plbStore_plb (r : PlbRec) (s : State) : (plbStore r s).plb = { s.plb with store := plbInsert r s.plb.store, written := s.plb.written + 1 } := by
  have h : (eccWrites 9 0 (2 * ((s.plb.written + (131072 - (plbPassed (plbTagged r s.plb.store) s.plb.store).length)) % 131072))
      (2 * (plbPassed (plbTagged r s.plb.store) s.plb.store).length + 2) s).plb = s.plb := (eccWrites_does ..).only.same .plb (by decide)
  unfold plbStore State.modPlb
  dsimp only
  rw [h]

theorem event_slots (r : Reg) (i b : Nat) (s : State) : (event r i b s).plb.slots = s.plb.slots := congrArg Plumb.slots (event_plb r i b s)

theorem plbStore_slots (r : PlbRec) (s : State) : (plbStore r s).plb.slots = s.plb.slots := (congrArg Plumb.slots (plbStore_plb r s) :)

theorem plbHold_slots (s : State) : (plbHold s).plb.slots = s.plb.slots := event_slots ..

theorem plbFull_slots (tag lost : Nat) (s : State) : (plbFull tag lost s).plb.slots = s.plb.slots := by
  unfold plbFull
  exact (plbHold_slots _).trans ((event_slots ..).trans (plbStore_slots ..))

theorem plbPut_slots (r : PlbRec) (s : State) : (plbPut r s).plb.slots = s.plb.slots := by
  have stored := plbStore_slots r s
  unfold plbPut
  dsimp only
  split
  · split
    · split
      · exact plbFull_slots ..
      · exact stored
    · exact stored
  · split
    · rfl
    · exact stored
  · rfl

theorem plbDrainOne_slots (s : State) : (plbDrainOne s).plb.slots = s.plb.slots := by
  unfold plbDrainOne
  dsimp only
  split
  · exact plbPut_slots ..
  · split
    · exact plbPut_slots ..
    · rfl

theorem plbDrainAll_slots (s : State) : (plbDrainAll s).plb.slots = s.plb.slots := by
  have run (n : Nat) (u : State) : (times plbDrainOne n u).plb.slots = u.plb.slots := by
    induction n generalizing u with
    | zero => rfl
    | succ n ih => exact (ih _).trans (plbDrainOne_slots u)
  unfold plbDrainAll plbDrain
  split
  · exact run _ s
  · rfl

theorem plbMiss_slots (tag : Nat) (s : State) : (plbMiss tag s).plb.slots = s.plb.slots := by
  have h : (count .plbMissed 0 31 0 1 (event .plbEvt 0 18 (s.modPlb fun p => { p with lastMiss := some tag }))).plb.slots = s.plb.slots :=
    (congrArg Plumb.slots ((count_does ..).only.same .plb (by decide)) :).trans (event_slots ..)
  unfold plbMiss
  dsimp only
  split
  · rfl
  · split
    · exact h
    · exact h

theorem plbTake_slots (origin back tag : Nat) (s : State) : (plbTake origin back tag s).plb.slots = s.plb.slots := by
  unfold plbTake
  refine Eq.trans ?_ (plbDrainAll_slots s)
  generalize plbDrainAll s = u
  dsimp only
  split
  · exact plbMiss_slots ..
  · split
    · exact (plbPut_slots ..).trans (event_slots ..)
    · exact (plbStore_slots ..).trans (event_slots ..)

theorem plbJoin_slots (f : PlbFire) (origin back : Nat) (s : State) : (plbJoin f origin back s).plb.slots = s.plb.slots := by
  unfold plbJoin
  split <;> rfl

theorem plbFire_slots (origin back tag : Nat) (s : State) : (plbFire origin back tag s).plb.slots = s.plb.slots := by
  unfold plbFire
  split
  · rfl
  · split
    · rfl
    · split
      · split
        · exact plbJoin_slots ..
        · split
          · exact plbTake_slots ..
          · split
            · rfl
            · exact plbMiss_slots ..
      · split
        · exact plbTake_slots ..
        · split
          · rfl
          · exact plbMiss_slots ..

/-! ### A fire that is taken (R438, R439) -/

/-- The Plumb is armed in MODE 0: nothing that waits for the store ends its capture. -/
structure ArmedOpen (s : State) : Prop where
  phase : s.plb.phase = .armed
  fill : s.plb.fill = false

/-- What waits for the store are changes, and no FIRE or MARK in the store has a tag later than `T`. -/
structure ChangesWait (T : Nat) (s : State) : Prop where
  loss : s.plb.lossDue = 0
  queue : ∀ y ∈ s.plb.queue, y.kind ≤ 2
  store : ∀ y ∈ s.plb.store, 2 < y.kind → y.tag ≤ T

/-- A record put into the store of an armed capture in MODE 0. -/
theorem plbPut_armed {s : State} (h : ArmedOpen s) (r : PlbRec) : plbPut r s = (plbStore r s).modPlb fun p => { p with store := p.store.drop (p.store.length - s.plb.pre) } := by
  unfold plbPut
  dsimp only
  rw [h.phase]
  dsimp only
  rw [h.fill]
  rfl

theorem plbPut_stays {s : State} (h : ArmedOpen s) (r : PlbRec) : ArmedOpen (plbPut r s) := by
  rw [plbPut_armed h]
  exact ⟨(congrArg Plumb.phase (plbStore_plb r s) :).trans h.phase, (congrArg Plumb.fill (plbStore_plb r s) :).trans h.fill⟩

theorem mem_plbPut {s : State} (h : ArmedOpen s) {r y : PlbRec} (hy : y ∈ (plbPut r s).plb.store) : y = plbTagged r s.plb.store ∨ y ∈ s.plb.store := by
  rw [plbPut_armed h] at hy
  have hy' := List.mem_of_mem_drop hy
  rw [plbStore_plb] at hy'
  exact mem_plbInsert hy'

theorem plbPut_queue {s : State} (h : ArmedOpen s) (r : PlbRec) : (plbPut r s).plb.queue = s.plb.queue ∧ (plbPut r s).plb.lossDue = s.plb.lossDue := by
  rw [plbPut_armed h]
  exact ⟨(congrArg Plumb.queue (plbStore_plb r s) :), (congrArg Plumb.lossDue (plbStore_plb r s) :)⟩

theorem plbDrainOne_stays {s : State} (h : ArmedOpen s) : ArmedOpen (plbDrainOne s) := by
  unfold plbDrainOne
  dsimp only
  split
  · have hu : ArmedOpen (s.modPlb fun p => { p with lossDue := 0 }) := ⟨h.phase, h.fill⟩
    exact plbPut_stays hu _
  · split
    · next r l hq =>
      have hu : ArmedOpen (s.modPlb fun p => { p with queue := l }) := ⟨h.phase, h.fill⟩
      exact plbPut_stays hu _
    · exact h

theorem plbDrainOne_waits {s : State} (h : ArmedOpen s) {T : Nat} (w : ChangesWait T s) : ChangesWait T (plbDrainOne s) := by
  unfold plbDrainOne
  dsimp only
  rw [if_neg (not_not_intro w.loss)]
  split
  · next r l hq =>
    have hu : ArmedOpen (s.modPlb fun p => { p with queue := l }) := ⟨h.phase, h.fill⟩
    obtain ⟨q1, q2⟩ := plbPut_queue hu r
    refine ⟨q2.trans w.loss, fun y hy => w.queue y ?_, fun y hy hk => ?_⟩
    · rw [q1] at hy
      rw [hq]
      exact .tail _ hy
    · rcases mem_plbPut hu hy with rfl | hy
      · have := w.queue r (by rw [hq]; exact .head _)
        rw [plbTagged_kind] at hk
        omega
      · exact w.store y hy hk
  · exact w

theorem plbDrainAll_stays {s : State} (h : ArmedOpen s) : ArmedOpen (plbDrainAll s) ∧ ∀ T, ChangesWait T s → ChangesWait T (plbDrainAll s) := by
  have run (n : Nat) : ∀ {u : State}, ArmedOpen u → ArmedOpen (times plbDrainOne n u) ∧ ∀ T, ChangesWait T u → ChangesWait T (times plbDrainOne n u) := by
    induction n with
    | zero => exact fun hu => ⟨hu, fun _ w => w⟩
    | succ n ih => exact fun hu => ⟨(ih (plbDrainOne_stays hu)).1, fun T w => (ih (plbDrainOne_stays hu)).2 T (plbDrainOne_waits hu w)⟩
  unfold plbDrainAll plbDrain
  split
  · exact run _ h
  · exact ⟨h, fun _ w => w⟩

/-- A fire that an armed capture in MODE 0 takes. -/
theorem plbTake_takes {s : State} (h : ArmedOpen s) {origin : Nat} (ho : origin < 256) (back tag : Nat) :
    (plbTake origin back tag s).plb.phase = .triggered ∧ ∃ T, (plbTake origin back tag s).plb.fire = some ⟨nowStamp s, origin, T, back⟩ ∧ tag ≤ T ∧
      (ChangesWait tag s → T = tag) := by
  obtain ⟨hd, hw⟩ := plbDrainAll_stays h
  have hb : nowStamp (plbDrainAll s) = nowStamp s := nowStamp_btr ((plbDrainAll_does s).only.same .btr (by decide))
  unfold plbTake
  dsimp only
  generalize plbDrainAll s = u at hd hw hb
  rw [if_neg (not_not_intro hd.phase)]
  let r := plbTagged (fireRecord tag origin back (fireDrives u origin)) u.plb.store
  let v := event .plbEvt 0 19 (u.modPlb fun p => { p with fire := some ⟨nowStamp u, origin, r.tag, back⟩, driving := p.driving || fireDrives u origin })
  have hv : v.plb = { u.plb with fire := some ⟨nowStamp u, origin, r.tag, back⟩, driving := u.plb.driving || fireDrives u origin } := event_plb ..
  have hfill : v.plb.fill = false := (congrArg Plumb.fill hv :).trans hd.fill
  have hfire : (plbStore r v).plb.fire = some ⟨nowStamp u, origin, r.tag, back⟩ := (congrArg Plumb.fire (plbStore_plb r v) :).trans (congrArg Plumb.fire hv :)
  rw [if_neg (Bool.eq_false_iff.1 hfill)]
  refine ⟨rfl, r.tag, hfire.trans (by rw [hb]), plbTagged_tag_le (fireRecord tag origin back (fireDrives u origin)) u.plb.store, fun w => ?_⟩
  have hk : (fireRecord tag origin back (fireDrives u origin)).kind = 3 := plbWord_kind (by decide) ho (by cases fireDrives u origin <;> decide) ..
  exact plbTagged_tag (by rw [hk]; decide) (hw tag w).store

/-- R439: a fire of a core cycle of its own that finds the Plumb armed is taken. -/
theorem plbFire_armed {s : State} (ha : plbAlive s = true) (hp : s.plb.phase = .armed) (origin back : Nat) {tag : Nat}
    (hf : ∀ f : PlbFire, s.plb.fire = some f → f.tag ≠ tag) : plbFire origin back tag s = plbTake origin back tag s := by
  unfold plbFire
  rw [ha, if_neg (by decide), hp, if_neg (by decide)]
  cases h : s.plb.fire with
  | none => exact if_pos rfl
  | some f => exact (if_neg (hf f h)).trans (if_pos rfl)

/-! ### A sample is recorded (R434 to R436) -/

/-- A slot whose value has been recorded. -/
def PlbSlot.recorded (d : Nat) (y : PlbSlot) : PlbSlot := { y with last := some d }

/-- A slot whose value has been seen. -/
def PlbSlot.saw (v : Int) (t : Nat) (y : PlbSlot) : PlbSlot := { y with seen := some (v, t) }

theorem plbSlot_modSlot {s : State} (h : Rises s.plb.slots) (n : Nat) (f : PlbSlot → PlbSlot) (q : Nat) :
    plbSlot (modSlot n f s) q = if q = n then f (plbSlot s q) else plbSlot s q := by
  by_cases e : q = n
  · rw [if_pos e, e]
    exact smGet_upd_rises h ..
  · rw [if_neg e]
    exact smGet_upd_other h _ _ _ _ _ e

theorem plbSlot_of {s t : State} (h : t.plb.slots = s.plb.slots) (n : Nat) : plbSlot t n = plbSlot s n := by unfold plbSlot; rw [h]

/-- The state after a sample has been recorded where it is to be, before its thresholds. -/
def plbSampled (n : Nat) (x : PlbSample) (u : State) : State := if plbRecording u && plbDiffers u n x then plbRecord n x false u else u

/-- What recording a sample leaves. -/
structure SampleTaken (n : Nat) (x : PlbSample) (u t : State) : Prop where
  does : Does [.regs, .port0, .port1, .plb] u t
  regs : RegsKept plbRegs u t
  plb : t.plb = { u.plb with queue := t.plb.queue, lossDue := t.plb.lossDue, slots := t.plb.slots }
  others : ∀ q, q ≠ n → plbSlot t q = plbSlot u q
  seen : (plbSlot t n).seen = (plbSlot u n).seen
  quiet : plbRecording u = false ∨ plbDiffers u n x = false → t = u
  joins : plbRecording u = true → plbDiffers u n x = true → u.plb.queue.length < 256 → (plbSlot t n).last = some x.data ∧
    t.plb.queue = plbInsert (slotRecord u n x false) u.plb.queue ∧ t.plb.lossDue = u.plb.lossDue ∧ t.regs = u.regs
  lost : plbRecording u = true → plbDiffers u n x = true → 256 ≤ u.plb.queue.length → (plbSlot t n).last = (plbSlot u n).last ∧ t.plb.queue = u.plb.queue ∧
    t.plb.lossDue = u.plb.lossDue + 1 ∧ Evented .plbEvt 0 16 u t ∧ cell t .plbLost = incSat (cell u .plbLost) 31 0 1

theorem plbSampled_takes {u : State} (hs : TablesRise u) (n : Nat) (x : PlbSample) : SampleTaken n x u (plbSampled n x u) := by
  unfold plbSampled
  by_cases hc : (plbRecording u && plbDiffers u n x) = true
  · rw [if_pos hc]
    obtain ⟨hrec, hdif⟩ := (Bool.and_eq_true ..).mp hc
    have hno : ¬ (plbRecording u = false ∨ plbDiffers u n x = false) := by rw [hrec, hdif]; decide
    have hd := plbRecord_does n x false u
    by_cases hq : u.plb.queue.length < 256
    · let v := modSlot n (.recorded x.data) u
      have hv : plbRecording v = true := hrec
      have he : plbRecord n x false u = v.modPlb fun p => { p with queue := plbInsert (slotRecord u n x false) p.queue } := by
        unfold plbRecord plbEnqueue
        rw [hrec, decide_eq_true hq]
        show (if plbRecording v then if v.plb.queue.length < 256 then v.modPlb _ else _ else v) = _
        rw [if_pos hv]
        exact if_pos hq
      have hslot (q : Nat) : plbSlot (plbRecord n x false u) q = if q = n then (plbSlot u q).recorded x.data else plbSlot u q := by
        rw [he]
        exact (plbSlot_of (s := v) rfl q).trans (plbSlot_modSlot hs.slots ..)
      refine ⟨hd, .of_regs (by rw [he]; rfl), by rw [he]; rfl, fun q hqn => (hslot q).trans (if_neg hqn), ?_, fun h => absurd h hno, fun _ _ _ => ⟨?_, ?_, ?_, ?_⟩,
        fun _ _ h => absurd hq (Nat.not_lt.2 h)⟩
      · rw [hslot, if_pos rfl]; rfl
      · rw [hslot, if_pos rfl]; rfl
      · rw [he]; rfl
      · rw [he]; rfl
      · rw [he]; rfl
    · let v := event .plbEvt 0 16 (u.modPlb fun p => { p with lossDue := p.lossDue + 1 })
      have he : plbRecord n x false u = count .plbLost 0 31 0 1 v := by
        unfold plbRecord plbEnqueue
        rw [hrec, decide_eq_false hq]
        show (if plbRecording u then if u.plb.queue.length < 256 then _ else _ else u) = _
        rw [if_pos hrec, if_neg hq]
        rfl
      have hv : Rises v.regs := ((event_does ..).tables ((State.modPlb_does (fun p => { p with lossDue := p.lossDue + 1 }) u (fun _ h => h) fun _ h => h).tables hs)).regs
      have hne : regOff .plbLost 0 0 ≠ regOff .plbEvt 0 0 := regOff_ne at_plb.2.1 at_plb.1 nofun
      have hp : (plbRecord n x false u).plb = { u.plb with lossDue := u.plb.lossDue + 1 } := by
        rw [he]
        exact ((count_does ..).only.same .plb (by decide)).trans (event_plb ..)
      have hslot (q : Nat) : plbSlot (plbRecord n x false u) q = plbSlot u q := plbSlot_of (congrArg Plumb.slots hp :) q
      refine ⟨hd, ?_, by rw [hp], fun q _ => hslot q, by rw [hslot], fun h => absurd h hno, fun _ _ h => absurd h hq, fun _ _ _ => ⟨by rw [hslot], ?_, ?_, ?_, ?_⟩⟩
      · rw [he]
        exact ((RegsKept.of_regs (xs := plbRegs) (t := u.modPlb fun p => { p with lossDue := p.lossDue + 1 }) rfl).ev hs.regs (.head _) 16).set hv (.tail _ (.head _)) _
      · rw [hp]
      · rw [hp]
      · rw [he]
        exact (cell_setCell_other hv _ hne.symm).trans (cell_event (s := u.modPlb fun p => { p with lossDue := p.lossDue + 1 }) hs.regs ..)
      · rw [he]
        refine (cell_count hv ..).trans ?_
        rw [cell_event_other (s := u.modPlb fun p => { p with lossDue := p.lossDue + 1 }) hs.regs _ _ _ hne]
        rfl
  · rw [if_neg hc]
    refine ⟨.refl _ _, .refl _ _, rfl, fun _ _ => rfl, rfl, fun _ => rfl, fun h1 h2 => absurd (by rw [h1, h2]; rfl) hc, fun h1 h2 => absurd (by rw [h1, h2]; rfl) hc⟩

/-! ### The thresholds of a sample (R440) -/

/-- What the thresholds of a slot rest on is the same. -/
structure PlbView (n : Nat) (s u : State) : Prop where
  sig : cell u .plbSig n = cell s .plbSig n
  thr : ∀ k : Fin 8, cell u .plbThr k = cell s .plbThr k ∧ cell u .plbThrLevel k = cell s .plbThrLevel k
  cfg : ∀ i : Fin 256, cell u .gauChCfg i = cell s .gauChCfg i
  gau : u.gau = s.gau
  btr : u.btr = s.btr

theorem plbView_of {s u : State} (h : RegsKept plbRegs s u) (hg : u.gau = s.gau) (hb : u.btr = s.btr) {n : Nat} (hn : n < 64) : PlbView n s u := by
  obtain ⟨e1, e2, e3, -, e5, e6⟩ := at_plb
  have hall : ∀ x ∈ plbRegs, regExists x.1 x.2.1 x.2.2 = true ∧ x.1 ≠ .plbSig ∧ x.1 ≠ .plbThr ∧ x.1 ≠ .plbThrLevel := by decide +kernel
  have hreg {r : Reg} {i : Nat} (hr : regExists r i 0 = true) (hne : r = .plbSig ∨ r = .plbThr ∨ r = .plbThrLevel) : cell u r i = cell s r i := by
    refine h r i 0 fun x hx => ?_
    obtain ⟨a1, a2, a3, a4⟩ := hall x hx
    refine regOff_ne hr a1 fun e => ?_
    have e' : r = x.1 := congrArg Prod.fst e
    rcases hne with h | h | h
    · exact a2 (e'.symm.trans h)
    · exact a3 (e'.symm.trans h)
    · exact a4 (e'.symm.trans h)
  refine ⟨hreg (e5 ⟨n, hn⟩) (.inl rfl), fun k => ⟨hreg (e6 k).1 (.inr (.inl rfl)), hreg (e6 k).2 (.inr (.inr rfl))⟩, fun i => h _ _ _ fun x hx => ?_, hg, hb⟩
  obtain ⟨c1, c2, c3⟩ := at_plbCfgs i
  rcases List.mem_cons.1 hx with rfl | hx
  · exact c1
  · rcases List.mem_cons.1 hx with rfl | hx
    · exact c2
    · rw [List.mem_singleton.1 hx]
      exact c3

theorem timeTag_of {s u : State} (h : u.btr = s.btr) : timeTag u = timeTag s := by
  unfold timeTag nowGbt nowCourse nowBt
  rw [h]

section
variable {n : Nat} {s u : State} (h : PlbView n s u)
include h

theorem PlbView.tag : sampleTag u n = sampleTag s n := by
  unfold sampleTag gauChan
  dsimp only
  rw [h.sig, h.gau, timeTag_of h.btr]

theorem PlbView.level (k : Fin 8) : thrLevel u n k = thrLevel s n k := by
  have hlt : fld (cell s .plbSig n) 7 0 < 256 := Nat.mod_lt _ (by decide)
  have hcfg := h.cfg ⟨_, hlt⟩
  unfold thrLevel chCfg
  dsimp only at hcfg ⊢
  rw [h.sig, (h.thr k).2, hcfg]

/-- A threshold of the slot that a value crosses. -/
def crossing (s : State) (n : Nat) (v0 v1 : Int) (k : Nat) : Bool :=
  bit (cell s .plbThr k) 31 && fld (cell s .plbThr k) 5 0 == n && crosses (fld (cell s .plbThr k) 30 29) v0 v1 (thrLevel s n k)

theorem PlbView.crossing (v0 v1 : Int) (k : Fin 8) : crossing u n v0 v1 k = crossing s n v0 v1 k := by
  unfold Machine.crossing
  rw [(h.thr k).1, h.level k]

end

/-- The lowest threshold that is crossed. -/
theorem crossed_lowest {s : State} {n : Nat} {v0 v1 : Int} {k : Fin 8}
    (h : ∀ k' : Fin 8, k' ≤ k → (crossing s n v0 v1 k' = true ↔ k' = k)) : (List.range 8).find? (crossing s n v0 v1) = some k.val := by
  refine List.find?_range_eq_some.2 ⟨(h k (Fin.le_refl k)).2 rfl, List.mem_range.2 k.isLt, fun a ha => ?_⟩
  have hc := h ⟨a, Nat.lt_trans ha k.isLt⟩ (Nat.le_of_lt ha)
  have hne : crossing s n v0 v1 a ≠ true := fun e => absurd (congrArg Fin.val (hc.1 e)) (Nat.ne_of_lt ha)
  simpa using hne

/-- A sample that a threshold may use. -/
theorem plbThresholds_eq {x : PlbSample} (hv : x.value = true) (hu : x.usable = true) (n : Nat) (s : State) : plbThresholds n x s =
    match (plbSlot s n).seen with
    | some (v0, t0) =>
      match (List.range 8).find? (crossing (modSlot n (.saw x.number (sampleTag s n)) s) n v0 x.number) with
      | some k => plbFire (0x10 + k) (backOf t0 (sampleTag s n) v0 x.number (thrLevel (modSlot n (.saw x.number (sampleTag s n)) s) n k)) (sampleTag s n)
          (modSlot n (.saw x.number (sampleTag s n)) s)
      | none => modSlot n (.saw x.number (sampleTag s n)) s
    | none => modSlot n (.saw x.number (sampleTag s n)) s := by
  unfold plbThresholds
  rw [hv, hu]
  rfl

theorem plbThresholds_unused {x : PlbSample} (h : ¬ (x.value = true ∧ x.usable = true)) (n : Nat) (s : State) : plbThresholds n x s = s := by
  unfold plbThresholds
  exact if_neg fun k => h ((Bool.and_eq_true ..).mp k)

/-- The slots after the thresholds of a sample. -/
theorem plbThresholds_slots {s : State} (hs : Rises s.plb.slots) (n : Nat) (x : PlbSample) :
    (∀ q, q ≠ n → plbSlot (plbThresholds n x s) q = plbSlot s q) ∧ (plbSlot (plbThresholds n x s) n).last = (plbSlot s n).last ∧
      (x.value = true → x.usable = true → (plbSlot (plbThresholds n x s) n).seen = some (x.number, sampleTag s n)) := by
  by_cases h : x.value = true ∧ x.usable = true
  · obtain ⟨hv, hu⟩ := h
    have hm (q : Nat) := plbSlot_modSlot hs n (.saw x.number (sampleTag s n)) q
    have hslot (q : Nat) : plbSlot (plbThresholds n x s) q = if q = n then (plbSlot s q).saw x.number (sampleTag s n) else plbSlot s q := by
      rw [plbThresholds_eq hv hu, ← hm]
      cases (plbSlot s n).seen with
      | none => rfl
      | some y =>
        dsimp only
        split
        · exact plbSlot_of (plbFire_slots ..) q
        · rfl
    exact ⟨fun q hq => (hslot q).trans (if_neg hq), by rw [hslot, if_pos rfl]; rfl, fun _ _ => by rw [hslot, if_pos rfl]; rfl⟩
  · rw [plbThresholds_unused h]
    exact ⟨fun _ _ => rfl, rfl, fun h1 h2 => absurd ⟨h1, h2⟩ h⟩

/-- Where no threshold is the slot's, a sample is seen and no more. -/
theorem plbThresholds_quiet {n : Nat} {s : State} (h : ∀ (v0 v1 : Int) (k : Fin 8) (u : State), PlbView n s u → crossing u n v0 v1 k = false) (hn : n < 64) (x : PlbSample) :
    plbThresholds n x s = s ∨ plbThresholds n x s = modSlot n (.saw x.number (sampleTag s n)) s := by
  by_cases hx : x.value = true ∧ x.usable = true
  · right
    rw [plbThresholds_eq hx.1 hx.2]
    cases (plbSlot s n).seen with
    | none => rfl
    | some y =>
      have hnone : (List.range 8).find? (crossing (modSlot n (.saw x.number (sampleTag s n)) s) n y.1 x.number) = none :=
        List.find?_eq_none.2 fun k hk => Bool.eq_false_iff.1 (h y.1 x.number ⟨k, List.mem_range.1 hk⟩ _
          (plbView_of (s := s) (u := modSlot n (.saw x.number (sampleTag s n)) s) (.of_regs rfl) rfl rfl hn))
      dsimp only
      rw [hnone]
  · exact .inl (plbThresholds_unused hx ..)

/-- What the Plumb's steps leave of the registers. -/
theorem plbSteps_regs : PlbSteps fun s t => TablesRise s → TablesRise t ∧ RegsKept plbRegs s t where
  refl := fun s hs => ⟨hs, .refl _ s⟩
  trans := fun h k hs => ⟨(k (h hs).1).1, (h hs).2.trans (k (h hs).1).2⟩
  does := fun d hs => ⟨d.tables hs, .of_regs (d.only.same .regs (by decide))⟩
  event := fun b s hs => ⟨(event_does ..).tables hs, (RegsKept.refl plbRegs s).ev hs.regs (.head _) b⟩
  count := fun s hs => ⟨(count_does ..).tables hs, (RegsKept.refl plbRegs s).set hs.regs (.tail _ (.tail _ (.head _))) _⟩
  raise := fun src cap s hs => ⟨(raise_does ..).tables hs, .of_regs (raise_regs ..)⟩

theorem plbThresholds_regs {s : State} (hs : TablesRise s) (n : Nat) (x : PlbSample) : RegsKept plbRegs s (plbThresholds n x s) := by
  have hm : TablesRise (modSlot n (.saw x.number (sampleTag s n)) s) := (modSlot_does ..).tables hs
  have hk : RegsKept plbRegs s (modSlot n (.saw x.number (sampleTag s n)) s) := .of_regs rfl
  by_cases hx : x.value = true ∧ x.usable = true
  · rw [plbThresholds_eq hx.1 hx.2]
    cases (plbSlot s n).seen with
    | none => exact hk
    | some y =>
      dsimp only
      split
      · exact hk.trans (plbFire_steps plbSteps_regs _ _ _ _ hm).2
      · exact hk
  · rw [plbThresholds_unused hx]
    exact .refl _ _

/-- The state with what a pin of class 1 is sampled at. -/
def pinSampled (w : Word) (level : Bool) (s : State) : State :=
  if fld w 11 8 = 1 ∧ fld w 7 0 = 5 then { s with plb := { s.plb with armPin := level } }
  else if fld w 11 8 = 1 ∧ fld w 7 0 = 6 then { s with plb := { s.plb with firePin := level } } else s

/-- A pin that is sampled is all that changes. -/
theorem pinSampled_only (w : Word) (level : Bool) (s : State) : ∃ a b, pinSampled w level s = { s with plb := { s.plb with armPin := a, firePin := b } } := by
  unfold pinSampled
  split
  · exact ⟨_, _, rfl⟩
  · split
    · exact ⟨_, _, rfl⟩
    · exact ⟨_, _, rfl⟩

theorem plbChange_eq (n : Nat) (level : Bool) (s : State) : plbChange n level s =
    if !plbAlive (pinSampled (cell s .plbSig n) level s) then pinSampled (cell s .plbSig n) level s
    else match slotSample (pinSampled (cell s .plbSig n) level s) n with
      | some x => plbThresholds n x (plbSampled n x (pinSampled (cell s .plbSig n) level s))
      | none => pinSampled (cell s .plbSig n) level s := rfl

/-- The record of a slot's sample is a change. -/
theorem slotRecord_kind (s : State) {n : Nat} (hn : n < 64) (x : PlbSample) : (slotRecord s n x false).kind ≤ 2 := by
  unfold slotRecord
  have hk : (if x.value then 2 else 1) < 256 := by split <;> decide
  exact (plbWord_kind hk (show n < 256 by omega) (by decide) ..).trans_le (by split <;> decide)

/-- What waits for the store after a sample is a change too. -/
theorem SampleTaken.waits {n : Nat} {x : PlbSample} {u t : State} (h : SampleTaken n x u t) (hn : n < 64) (hl : u.plb.lossDue = 0) (hq : u.plb.queue.length < 256)
    (hk : ∀ y ∈ u.plb.queue, y.kind ≤ 2) {T : Nat} (hst : ∀ y ∈ u.plb.store, 2 < y.kind → y.tag ≤ T) : ChangesWait T t := by
  have hstore : t.plb.store = u.plb.store := (congrArg Plumb.store h.plb :)
  by_cases hc : plbRecording u = true ∧ plbDiffers u n x = true
  · obtain ⟨-, j2, j3, -⟩ := h.joins hc.1 hc.2 hq
    refine ⟨j3.trans hl, fun y hy => ?_, by rw [hstore]; exact hst⟩
    rw [j2] at hy
    rcases mem_plbInsert hy with rfl | hy
    · exact slotRecord_kind u hn x
    · exact hk y hy
  · have hc' : plbRecording u = false ∨ plbDiffers u n x = false := by
      by_cases hr : plbRecording u = true
      · exact .inr (Bool.eq_false_iff.2 fun hd => hc ⟨hr, hd⟩)
      · exact .inl (Bool.eq_false_iff.2 hr)
    rw [h.quiet hc']
    exact ⟨hl, hk, hst⟩

/-- A threshold that is crossed fires, and an armed capture in MODE 0 takes it. -/
theorem plbThresholds_fires {s : State} {n : Nat} {x : PlbSample} (hv : x.value = true) (hu : x.usable = true) {v0 : Int} {t0 : Nat}
    (hseen : (plbSlot s n).seen = some (v0, t0)) {k : Fin 8} (hn : n < 64) (hk : ∀ k' : Fin 8, k' ≤ k → (crossing s n v0 x.number k' = true ↔ k' = k))
    (ha : plbAlive s = true) (h : ArmedOpen s) (hf : ∀ f : PlbFire, s.plb.fire = some f → f.tag ≠ sampleTag s n) :
    (plbThresholds n x s).plb.phase = .triggered ∧ ∃ T, (plbThresholds n x s).plb.fire =
      some ⟨nowStamp s, 0x10 + k, T, backOf t0 (sampleTag s n) v0 x.number (thrLevel s n k)⟩ ∧ sampleTag s n ≤ T ∧ (ChangesWait (sampleTag s n) s → T = sampleTag s n) := by
  let m := modSlot n (.saw x.number (sampleTag s n)) s
  have hm : PlbView n s m := plbView_of (s := s) (u := m) (.of_regs rfl) rfl rfl hn
  have hfind : (List.range 8).find? (crossing m n v0 x.number) = some k.val := crossed_lowest fun k' hk' => (by rw [hm.crossing]; exact hk k' hk')
  have he : plbThresholds n x s = plbTake (0x10 + k) (backOf t0 (sampleTag s n) v0 x.number (thrLevel s n k)) (sampleTag s n) m := by
    rw [plbThresholds_eq hv hu, hseen]
    dsimp only
    rw [hfind]
    dsimp only
    rw [hm.level]
    exact plbFire_armed (s := m) ha h.phase _ _ hf
  rw [he]
  obtain ⟨t1, T, t2, t3, t4⟩ := plbTake_takes (s := m) ⟨h.phase, h.fill⟩ (show 0x10 + k.val < 256 by omega) (backOf t0 (sampleTag s n) v0 x.number (thrLevel s n k)) (sampleTag s n)
  exact ⟨t1, T, t2, t3, fun w => t4 ⟨w.loss, w.queue, w.store⟩⟩

/-- Settles O59. -/
theorem plumbRecordsChanges : Obligations.PlumbRecordsChanges := by
  unfold Obligations.PlumbRecordsChanges
  rintro n level w s u hu hs rfl hw
  have hu' : u = pinSampled (cell s .plbSig n) level s := hw
  have he := plbChange_eq n level s
  obtain ⟨a, b, hab⟩ := pinSampled_only (cell s .plbSig n) level s
  rw [← hu'] at he hab
  subst hab
  have halive : plbAlive { s with plb := { s.plb with armPin := a, firePin := b } } = plbAlive s := rfl
  rw [halive] at he
  refine ⟨fun h => ?_, fun x ha hx => ?_⟩
  · refine (upNext_up hu).trans (congrArg _ (he.trans ?_))
    rcases h with h | h
    · rw [h]
      rfl
    · rw [h]
      exact ite_self _
  · rw [ha, hx] at he
    obtain ⟨v, hv⟩ : ∃ v, v = plbSampled n x { s with plb := { s.plb with armPin := a, firePin := b } } := ⟨_, rfl⟩
    have hs0 : TablesRise { s with plb := { s.plb with armPin := a, firePin := b } } := (State.modPlb_does (fun p => { p with armPin := a, firePin := b }) s (fun _ h => h) fun _ h => h).tables hs
    have hsamp := plbSampled_takes hs0 n x
    rw [← hv] at hsamp
    replace he : plbChange n level s = plbThresholds n x v := by rw [he, hv]; rfl
    have hkeep := hsamp
    obtain ⟨hd, hregs, hplb, hothers, hseen, hquiet, hjoins, hlost⟩ := hsamp
    have hvt : TablesRise v := hd.tables hs0
    have hregs' : RegsKept plbRegs s v := hregs
    have hview : PlbView n s v := plbView_of hregs' (hd.only.same .gau (by decide)) (hd.only.same .btr (by decide)) n.isLt
    obtain ⟨s1, s2, s3⟩ := plbThresholds_slots hvt.slots n x
    rw [← he] at s1 s2 s3
    refine ⟨_, upNext_up hu, (plbChange_does ..).only, ?_, fun h1 h2 => (s3 h1 h2).trans (by rw [hview.tag]), fun q hq => (s1 q hq).trans (hothers q hq), fun hthr => ?_,
      fun k v0 t0 h1 h2 hsn hk hphase hfill hfire => ?_⟩
    · rw [he]
      exact hregs'.trans (plbThresholds_regs hvt n x)
    · have hcross (v0 v1 : Int) (k : Fin 8) (u : State) (hvu : PlbView n v u) : crossing u n v0 v1 k = false := by
        rw [hvu.crossing, hview.crossing]
        unfold crossing
        rcases hthr k with h | h
        · rw [h, Bool.false_and, Bool.false_and]
        · rw [beq_eq_false_iff_ne.2 h, Bool.and_false, Bool.false_and]
      have hplb' : (plbChange n level s).plb = { v.plb with slots := (plbChange n level s).plb.slots } ∧ (plbChange n level s).regs = v.regs ∧
          (plbChange n level s).flt = v.flt := by
        rw [he]
        rcases plbThresholds_quiet hcross n.isLt x with e | e
        · rw [e]
          exact ⟨rfl, rfl, rfl⟩
        · rw [e]
          exact ⟨rfl, rfl, rfl⟩
      obtain ⟨p1, p2, p3⟩ := hplb'
      have q1 : (plbChange n level s).plb.store = v.plb.store ∧ (plbChange n level s).plb.phase = v.plb.phase ∧ (plbChange n level s).plb.queue = v.plb.queue ∧
          (plbChange n level s).plb.lossDue = v.plb.lossDue :=
        ⟨(congrArg Plumb.store p1 :), (congrArg Plumb.phase p1 :), (congrArg Plumb.queue p1 :), (congrArg Plumb.lossDue p1 :)⟩
      refine ⟨q1.1.trans (congrArg Plumb.store hplb :), q1.2.1.trans (congrArg Plumb.phase hplb :), p3.trans (hd.only.same .flt (by decide)), fun h => ?_, fun h1 h2 => ⟨fun hq => ?_, fun hq => ?_⟩⟩
      · have hq := hquiet h
        exact ⟨q1.2.2.1.trans (congrArg (fun t : State => t.plb.queue) hq :), p2.trans (congrArg State.regs hq :)⟩
      · obtain ⟨j1, j2, -, j4⟩ := hjoins h1 h2 hq
        exact ⟨s2.trans j1, q1.2.2.1.trans j2, p2.trans j4⟩
      · obtain ⟨j1, j2, j3, j4, j5⟩ := hlost h1 h2 hq
        exact ⟨s2.trans j1, q1.2.2.1.trans j2, q1.2.2.2.trans j3, j4.keep p2, (cell_regs p2 ..).trans j5⟩
    · have hv0 : ArmedOpen v := ⟨(congrArg Plumb.phase hplb :).trans hphase, (congrArg Plumb.fill hplb :).trans hfill⟩
      have hva : plbAlive v = true := by
        unfold plbAlive domOn isIsolated
        rw [powerDom_of (hd.only.same .pwr (by decide)), hd.only.same .flt (by decide)]
        exact ha
      have hcr : ∀ k' : Fin 8, k' ≤ k → (crossing v n v0 x.number k' = true ↔ k' = k) := fun k' hk' => by
        rw [hview.crossing, ← hk k' hk']
        unfold crossing
        rw [Bool.and_eq_true, Bool.and_eq_true, beq_iff_eq, and_assoc]
      have hfire' : ∀ f : PlbFire, v.plb.fire = some f → f.tag ≠ sampleTag v n := fun f hf => by
        rw [hview.tag]
        exact hfire f ((congrArg Plumb.fire hplb :).symm.trans hf)
      obtain ⟨f1, T, f2, f3, f4⟩ := plbThresholds_fires h1 h2 (hseen.trans hsn) n.isLt hcr hva hv0 hfire'
      rw [← he, hview.tag] at f2
      rw [hview.tag] at f3 f4
      rw [← he] at f1
      refine ⟨f1, T, f2.trans ?_, f3, fun l1 l2 l3 l4 => f4 ?_⟩
      · rw [hview.level, nowStamp_btr hview.btr]
      · exact hkeep.waits n.isLt l1 l2 l3 l4

end Sys2Proof.Machine
end

section
/-!
SUPPORT. Record blocks of streams on their uplinks: how one starts (R222, R264, R266, R269), what an uplink has consumed then, and what the throttle
(R226) leaves; credit messages and return lanes (R259, R261 to R263), and the statement on them settled.
-/
namespace Sys2Proof.Machine

/-! ### The tables of streams and uplinks -/

theorem stream_modStream {s : State} (hs : Rises s.streams) (t : Nat) (f : Stream → Stream) : stream (modStream t f s) t = f (stream s t) :=
  smGet_upd_rises hs ..

theorem stream_modStream_other {s : State} (hs : Rises s.streams) {t k : Nat} (h : k ≠ t) (f : Stream → Stream) : stream (modStream t f s) k = stream s k :=
  smGet_upd_other hs _ _ _ _ _ h

theorem uplink_modUplink {s : State} (hs : Rises s.uplinks) (u : Nat) (f : Uplink → Uplink) : uplink (modUplink u f s) u = f (uplink s u) :=
  smGet_upd_rises hs ..

theorem uplink_modUplink_other {s : State} (hs : Rises s.uplinks) {u w : Nat} (h : w ≠ u) (f : Uplink → Uplink) : uplink (modUplink u f s) w = uplink s w :=
  smGet_upd_other hs _ _ _ _ _ h

theorem stream_of {s t : State} (h : t.streams = s.streams) (k : Nat) : stream t k = stream s k := by unfold stream; rw [h]

theorem uplink_of {s t : State} (h : t.uplinks = s.uplinks) (u : Nat) : uplink t u = uplink s u := by unfold uplink; rw [h]

/-! ### Credits consumed (R264) -/

/-- An uplink consumes credits. -/
def Uplink.consumes (n : Nat) (x : Uplink) : Uplink := { x with consumed := x.consumed + BitVec.ofNat 32 n }

theorem Uplink.consumes_zero (x : Uplink) : x.consumes 0 = x := congrArg (fun c => { x with consumed := c }) (BitVec.add_zero _)

theorem Uplink.consumes_add (m n : Nat) (x : Uplink) : (x.consumes m).consumes n = x.consumes (m + n) :=
  congrArg (fun c => { x with consumed := c }) (by simp only [consumes, BitVec.ofNat_add, BitVec.add_assoc])

/-- Each carrier consumes a block's credits, once for each time it is named. -/
theorem uplink_carriersConsume (n : Nat) (cs : List Nat) {s : State} (hs : Rises s.uplinks) (w : Nat) :
    uplink (forL cs (fun u => modUplink u (.consumes n)) s) w = (uplink s w).consumes (cs.count w * n) := by
  induction cs generalizing s with
  | nil => simp only [List.count_nil, Nat.zero_mul, Uplink.consumes_zero]; rfl
  | cons u cs ih =>
    refine (ih (s := modUplink u (.consumes n) s) (rises_upd hs)).trans ?_
    by_cases h : w = u
    · subst h
      rw [uplink_modUplink hs, Uplink.consumes_add, List.count_cons_self, Nat.succ_mul, Nat.add_comm]
    · rw [uplink_modUplink_other hs h, List.count_cons_of_ne (Ne.symm h)]

/-! ### A block starts (R264, R266, R269, R282) -/

/-- The block of a stream stands on an uplink. -/
def BlockCarries (s : State) (w k : Nat) : Prop := ∃ b, (stream s k).block = some b ∧ w ∈ b.carriers

theorem blockCarries_iff (s : State) (w k : Nat) :
    (match (stream s k).block with | some b => b.carriers.contains w | none => false) = true ↔ BlockCarries s w k := by
  unfold BlockCarries
  cases (stream s k).block with
  | none => exact ⟨nofun, nofun⟩
  | some b => simp only [List.contains_eq_mem, decide_eq_true_eq, Option.some.injEq, exists_eq_left']

theorem blockOn_none {s : State} {w : Nat} : blockOn s w = none ↔ ∀ k < 48, ¬ BlockCarries s w k := by
  unfold blockOn
  rw [List.find?_eq_none]
  refine ⟨fun h k hk hc => h k (List.mem_range.2 hk) ((blockCarries_iff ..).2 hc), fun h k hk hc => h k (List.mem_range.1 hk) ((blockCarries_iff ..).1 hc)⟩

theorem blockOn_some {s : State} {w k : Nat} (h : blockOn s w = some k) : k < 48 ∧ BlockCarries s w k := by
  unfold blockOn at h
  exact ⟨List.mem_range.1 (List.mem_of_find?_eq_some h), (blockCarries_iff ..).1 (List.find?_some h :)⟩

/-- Stream `t` has started block `o` on the carriers `cs`. -/
structure BlockStarted (t : Nat) (o : OutRec) (cs : List Nat) (s u : State) : Prop where
  idle : (stream s t).block = none
  free : ∀ w ∈ cs, blockOn s w = none
  filled : ¬ ((stream s t).out = [] ∧ (stream s t).summary = none ∧ (stream s t).beacon = none)
  own : ∃ out sm bc, stream u t = { stream s t with block := some ⟨o, cs, false⟩, out := out, summary := sm, beacon := bc } ∧
    ∀ x, (stream s t).out.getLast? = some x → x.resend = false → out.getLast?.or (some o) = some x
  others : ∀ k, k ≠ t → stream u k = stream s k
  uplinks : ∀ w, uplink u w = (uplink s w).consumes (cs.count w * o.credits)
  regs : RegsKept [(.uplEvt, 0, 0), (.uplStreamCnt, t, 0)] s u

/-- What stays for a stream to send after its next block has been taken from what it holds. -/
def Stream.left (out : List OutRec) (sm bc : Option OutRec) (x : Stream) : Stream := { x with out := out, summary := sm, beacon := bc }

theorem putBlock_started {s v : State} (hv : TablesRise v) {t : Nat} {o : OutRec} {cs : List Nat} (hb : (stream s t).block = none)
    (hc : ∀ w ∈ cs, blockOn s w = none) {out : List OutRec} {sm bc : Option OutRec} (h0 : stream v t = (stream s t).left out sm bc)
    (h1 : ∀ k, k ≠ t → stream v k = stream s k) (hu : v.uplinks = s.uplinks) (hr : RegsKept [(.uplEvt, 0, 0), (.uplStreamCnt, t, 0)] s v)
    (hf : ¬ ((stream s t).out = [] ∧ (stream s t).summary = none ∧ (stream s t).beacon = none))
    (hl : ∀ x, (stream s t).out.getLast? = some x → x.resend = false → out.getLast?.or (some o) = some x) : BlockStarted t o cs s (putBlock t o cs v) := by
  have k : (putBlock t o cs v).streams = (modStream t (fun x => { x with block := some ⟨o, cs, false⟩ }) v).streams :=
    (Does.forL (L := [.uplinks]) (fun _ t h => .step (modUplink_does ..) rfl h) (.refl _ _)).only.same .streams (by decide)
  have kr : (putBlock t o cs v).regs = v.regs := (putBlock_does ..).only.same .regs (by decide)
  refine ⟨hb, hc, hf, ⟨out, sm, bc, ?_, hl⟩, fun q hq => ?_, fun w => ?_, hr.trans (.of_regs kr)⟩
  · exact (stream_of k t).trans ((stream_modStream hv.streams ..).trans (by rw [h0]; rfl))
  · exact (stream_of k q).trans ((stream_modStream_other hv.streams hq _).trans (h1 q hq))
  · exact (uplink_carriersConsume o.credits cs (s := modStream t _ v) hv.uplinks w).trans (by rw [uplink_of (s := s) (show (modStream t _ v).uplinks = _ from hu)])

theorem getLast?_or_cons {x o : OutRec} {l : List OutRec} (h : (o :: l).getLast? = some x) : l.getLast?.or (some o) = some x := by
  cases l with
  | nil => exact h
  | cons y l => rw [List.getLast?_cons_cons] at h; rw [h]; rfl

/-- A stream has started one of the blocks that it holds, or nothing. -/
def MayStart (t : Nat) (s u : State) : Prop := u = s ∨ ∃ o cs, BlockStarted t o cs s u

theorem MayStart.ite {c : Prop} [Decidable c] {t : Nat} {s u : State} (h : MayStart t s u) : MayStart t s (if c then u else s) := by
  split
  · exact h
  · exact .inl rfl

theorem MayStart.unless {c : Prop} [Decidable c] {t : Nat} {s u : State} (h : MayStart t s u) : MayStart t s (if c then s else u) := by
  split
  · exact .inl rfl
  · exact h

theorem startBlock_cases {s : State} (hs : TablesRise s) (t : Nat) : MayStart t s (startBlock t s) := by
  cases hh : (stream s t).block.isSome || (carriers s t).isEmpty || dpStopped s || (carriers s t).any (fun u => (blockOn s u).isSome) with
  | true => exact .inl (if_pos hh)
  | false =>
    simp only [Bool.or_eq_false_iff, Option.isSome_eq_false_iff, Option.isNone_iff_eq_none, List.any_eq_false] at hh
    obtain ⟨⟨⟨hb, h1⟩, h2⟩, hc⟩ := hh
    replace hc : ∀ w ∈ carriers s t, blockOn s w = none := fun w hw => by simpa using hc w hw
    have start : ∀ {o : OutRec} {out : List OutRec} {sm bc : Option OutRec} (f : Stream → Stream), f (stream s t) = (stream s t).left out sm bc →
        ¬ ((stream s t).out = [] ∧ (stream s t).summary = none ∧ (stream s t).beacon = none) →
        (∀ x, (stream s t).out.getLast? = some x → x.resend = false → out.getLast?.or (some o) = some x) →
        MayStart t s (putBlock t o (carriers s t) (modStream t f s)) := fun f hf h0 hl =>
      .inr ⟨_, _, putBlock_started ((modStream_does t f s).tables hs) hb hc ((stream_modStream hs.streams ..).trans hf)
        (fun k hk => stream_modStream_other hs.streams hk f) rfl (.of_regs rfl) h0 hl⟩
    have keep : ∀ {o : OutRec} (x : OutRec), (stream s t).out.getLast? = some x → x.resend = false → (stream s t).out.getLast?.or (some o) = some x :=
      fun _ hx _ => by rw [hx]; rfl
    unfold startBlock
    dsimp only
    rw [if_neg (by simpa [hb, h1, h2] using hc)]
    split
    next o rest ho =>
      have hne : ¬ ((stream s t).out = [] ∧ (stream s t).summary = none ∧ (stream s t).beacon = none) := fun h => by rw [h.1] at ho; cases ho
      split
      next hr =>
        generalize hf : (fun y : Stream => { y with out := rest }) = f
        have rs : Rises (count .uplStreamCnt t 31 16 1 (modStream t f s)).regs := rises_count hs.regs ..
        have hd : Does [.regs, .streams, .port0, .port1] s (event .uplEvt 0 16 (count .uplStreamCnt t 31 16 1 (modStream t f s))) :=
          .step (event_does ..) rfl (.step (count_does ..) rfl ((modStream_does t f s).widen rfl))
        have hk : (event .uplEvt 0 16 (count .uplStreamCnt t 31 16 1 (modStream t f s))).streams = (modStream t f s).streams :=
          (event_does ..).only.same .streams (by decide)
        refine MayStart.unless (.inr ⟨_, _, putBlock_started (hd.tables hs) hb (fun w hw => hc w (List.mem_filter.1 hw).1) (out := rest) (sm := (stream s t).summary)
          (bc := (stream s t).beacon) ((stream_of hk t).trans ((stream_modStream hs.streams ..).trans (by rw [← hf]; rfl)))
          (fun k h => (stream_of hk k).trans (stream_modStream_other hs.streams h f)) (hd.only.same .uplinks (by decide)) ?_ hne fun x hx hn => ?_⟩)
        · exact RegsKept.ev (RegsKept.set (u := modStream t f s) (.of_regs rfl) hs.regs (.tail _ (.head _)) _) rs (.head _) 16
        · rw [ho] at hx
          cases rest with
          | nil => cases hx; exact nomatch hr.symm.trans hn
          | cons y l => rw [List.getLast?_cons_cons] at hx; rw [hx]; rfl
      next hr =>
        split
        · exact MayStart.ite (start _ rfl hne keep)
        · exact MayStart.ite (start _ rfl hne keep)
        · exact MayStart.ite (start _ rfl hne fun x hx _ => getLast?_or_cons (ho ▸ hx))
    next m ho hm => exact MayStart.ite (start _ rfl (fun h => nomatch hm.symm.trans h.2.1) keep)
    next b ho hm hb' => exact MayStart.ite (start _ rfl (fun h => nomatch hb'.symm.trans h.2.2) keep)
    next => exact .inl rfl

/-! ### What an uplink has consumed (R263, R264) -/

/-- The credits that uplink `w` has consumed, from `base` on: those of the block on it, once for each time the block names it, and no others. -/
def ConsumedFrom (w : Nat) (base : BitVec 32) (s : State) : Prop :=
  (blockOn s w = none → (uplink s w).consumed = base) ∧
    ∀ (k : Nat) (b : TxBlock), blockOn s w = some k → (stream s k).block = some b →
      (uplink s w).consumed = base + BitVec.ofNat 32 (b.carriers.count w * b.out.credits)

theorem consumedFrom_of_none {s : State} {w : Nat} (h : blockOn s w = none) : ConsumedFrom w (uplink s w).consumed s :=
  ⟨fun _ => rfl, fun _ _ hk => nomatch h.symm.trans hk⟩

/-- The registers that starting blocks can change. -/
def startRegs : List (Reg × Nat × Nat) := (.uplEvt, 0, 0) :: (List.range 48).map fun t => (.uplStreamCnt, t, 0)

/-- Blocks have started: an uplink changes in nothing but what it has consumed. -/
structure BlocksRun (s u : State) : Prop where
  tables : TablesRise u
  uplinks : ∀ w, ∃ n, uplink u w = (uplink s w).consumes n
  consumed : ∀ w base, ConsumedFrom w base s → ConsumedFrom w base u
  regs : RegsKept startRegs s u
  only : Only [.regs, .port0, .port1, .streams, .uplinks] s u
  sent : ∀ k, (stream u k).sent = (stream s k).sent
  kept : ∀ k, (stream s k).block ≠ none ∨ ((stream s k).out = [] ∧ (stream s k).summary = none ∧ (stream s k).beacon = none) → stream u k = stream s k

theorem BlocksRun.refl {s : State} (hs : TablesRise s) : BlocksRun s s :=
  ⟨hs, fun _ => ⟨0, (Uplink.consumes_zero _).symm⟩, fun _ _ h => h, .refl _ _, (Does.refl _ _).only, fun _ => rfl, fun _ _ => rfl⟩

theorem BlocksRun.trans {s u t : State} (h : BlocksRun s u) (k : BlocksRun u t) : BlocksRun s t := by
  refine ⟨k.tables, fun w => ?_, fun w b hw => k.consumed w b (h.consumed w b hw), RegsKept.trans h.regs k.regs, h.only.trans k.only,
    fun q => (k.sent q).trans (h.sent q), fun q hq => ?_⟩
  · obtain ⟨m, hm⟩ := h.uplinks w
    obtain ⟨n, hn⟩ := k.uplinks w
    exact ⟨m + n, by rw [hn, hm, Uplink.consumes_add]⟩
  · exact (k.kept q (by rw [h.kept q hq]; exact hq)).trans (h.kept q hq)

theorem BlockStarted.consumed {t : Nat} {o : OutRec} {cs : List Nat} {s u : State} (h : BlockStarted t o cs s u) (ht : t < 48) {w : Nat} {base : BitVec 32}
    (hw : ConsumedFrom w base s) : ConsumedFrom w base u := by
  obtain ⟨out, sm, bc, hown, -⟩ := h.own
  have hb : (stream u t).block = some ⟨o, cs, false⟩ := congrArg Stream.block hown
  have hc : ∀ k, BlockCarries u w k ↔ (k = t ∧ w ∈ cs) ∨ BlockCarries s w k := fun k => by
    by_cases hk : k = t
    · subst hk
      simp only [BlockCarries, hb, h.idle, Option.some.injEq, exists_eq_left', true_and, reduceCtorEq, false_and, exists_false, or_false]
    · simp only [BlockCarries, h.others k hk, hk, false_and, false_or]
  by_cases hin : w ∈ cs
  · have hfree := h.free w hin
    refine ⟨fun hn => absurd ((hc t).2 (.inl ⟨rfl, hin⟩)) (blockOn_none.1 hn t ht), fun k b hk hkb => ?_⟩
    obtain ⟨k1, k2⟩ := blockOn_some hk
    rcases (hc k).1 k2 with ⟨rfl, -⟩ | k3
    · rw [hb] at hkb
      cases hkb
      rw [h.uplinks, Uplink.consumes, hw.1 hfree]
    · exact absurd k3 (blockOn_none.1 hfree k k1)
  · have hu : uplink u w = uplink s w := by rw [h.uplinks, List.count_eq_zero.2 hin, Nat.zero_mul, Uplink.consumes_zero]
    have hon : blockOn u w = blockOn s w := by
      unfold blockOn
      refine congrArg (List.find? · _) (funext fun k => Bool.eq_iff_iff.2 ?_)
      exact (blockCarries_iff u w k).trans ((hc k).trans (Iff.trans (by simp only [hin, and_false, false_or]) (blockCarries_iff s w k).symm))
    refine ⟨fun hn => by rw [hu]; exact hw.1 (hon ▸ hn), fun k b hk hkb => ?_⟩
    have hk' := hon ▸ hk
    obtain ⟨-, b', k2, -⟩ := blockOn_some hk'
    by_cases hkt : k = t
    · subst hkt; rw [h.idle] at k2; cases k2
    · rw [hu]
      exact hw.2 k b hk' ((h.others k hkt) ▸ hkb)

theorem startBlock_run {s : State} (hs : TablesRise s) {t : Nat} (ht : t < 48) : BlocksRun s (startBlock t s) := by
  rcases startBlock_cases hs t with h | ⟨o, cs, h⟩
  · rw [h]; exact .refl hs
  · refine ⟨(startBlock_does ..).tables hs, fun w => ⟨_, h.uplinks w⟩, fun w b => h.consumed ht, h.regs.widen ?_, (startBlock_does ..).only, fun k => ?_, fun k hk => ?_⟩
    rotate_left
    · by_cases he : k = t
      · obtain ⟨out, sm, bc, hown, -⟩ := h.own
        subst he; rw [hown]
      · rw [h.others k he]
    · refine h.others k fun he => ?_
      subst he
      exact hk.elim (fun hb => hb h.idle) h.filled
    exact List.cons_subset.2 ⟨.head _, List.cons_subset.2 ⟨List.mem_cons_of_mem _ (List.mem_map_of_mem (f := fun k => (Reg.uplStreamCnt, k, 0)) (List.mem_range.2 ht)),
      List.nil_subset _⟩⟩

theorem startBlocks_run {s : State} (hs : TablesRise s) : BlocksRun s (startBlocks s) := by
  suffices h : ∀ n ≤ 48, BlocksRun s (forN n startBlock s) from h 48 (Nat.le_refl _)
  intro n hn
  induction n with
  | zero => exact .refl hs
  | succ n ih =>
    rw [forN_succ]
    exact (ih (by omega)).trans (startBlock_run (ih (by omega)).tables (by omega))

/-! ### Credit messages (R261 to R263) -/

theorem at_upl : (∀ u : Fin 64, regExists .uplLinkEvt u 0 = true ∧ regExists .uplLinkCnt u 0 = true ∧ regExists .uplLinkCfg u 0 = true) ∧
    (∀ r : Fin 16, regExists .uplRlEvt r 0 = true ∧ regExists .uplRlErr r 0 = true) ∧ regExists .uplEvt 0 0 = true ∧
    ∀ k : Fin 48, regExists .uplStreamCnt k 0 = true := by decide +kernel

theorem startRegs_ne {r : Reg} {i : Nat} (h : regExists r i 0 = true) (h1 : r ≠ .uplEvt) (h2 : r ≠ .uplStreamCnt) :
    ∀ x ∈ startRegs, regOff r i 0 ≠ regOff x.1 x.2.1 x.2.2 := by
  intro x hx
  rcases List.mem_cons.1 hx with rfl | hx
  · exact regOff_ne h at_upl.2.2.1 fun e => h1 (congrArg Prod.fst e)
  · obtain ⟨k, hk, rfl⟩ := List.mem_map.1 hx
    exact regOff_ne h (at_upl.2.2.2 ⟨k, List.mem_range.1 hk⟩) fun e => h2 (congrArg Prod.fst e)

theorem BlocksRun.cell {s u : State} (h : BlocksRun s u) {r : Reg} {i : Nat} (hr : regExists r i 0 = true) (h1 : r ≠ .uplEvt) (h2 : r ≠ .uplStreamCnt) :
    cell u r i = cell s r i := h.regs r i 0 (startRegs_ne hr h1 h2)

/-- An uplink's state and grants after blocks have started: those before. -/
theorem BlocksRun.uplink {s u : State} (h : BlocksRun s u) (w : Nat) : (uplink u w).phase = (uplink s w).phase ∧ (uplink u w).granted = (uplink s w).granted ∧
    (uplink u w).initWait = (uplink s w).initWait := by
  obtain ⟨n, hn⟩ := h.uplinks w
  rw [hn]
  exact ⟨rfl, rfl, rfl⟩

theorem creditMessage_deaf {r : Nat} {s : State} (h : retAble s r = false ∨ (retLane s r).sync = false) (m : BitVec 64) : creditMessage r m s = s :=
  if_pos (by rcases h with h | h <;> simp [h])

theorem creditMessage_good {r : Nat} {s : State} {m : BitVec 64} (h1 : retAble s r = true) (h2 : (retLane s r).sync = true) (h3 : creditGood m = true) :
    creditMessage r m s = if dfld m 63 60 = 2 then initFor (4 * r + dfld m 57 56) (BitVec.ofNat 32 (dfld m 55 24)) s
      else creditFor r (4 * r + dfld m 57 56) (BitVec.ofNat 32 (dfld m 55 24)) s :=
  (if_neg (by simp [h1, h2])).trans (if_neg (by simp [h3]))

/-- R263: a CREDIT moves the grant, or is refused as one that lies behind. -/
theorem creditFor_active {s : State} (hs : TablesRise s) (r : Fin 16) {u : Nat} (g : BitVec 32) (hp : (uplink s u).phase = .active)
    (hl : uplLintelLane s u = none) : (uplink (creditFor r u g s) u).phase = .active ∧
      (behind 32 g.toNat (uplink s u).granted.toNat = false → behind 32 g.toNat (uplink s u).consumed.toNat = false → (uplink (creditFor r u g s) u).granted = g) ∧
      (behind 32 g.toNat (uplink s u).granted.toNat = true ∨ behind 32 g.toNat (uplink s u).consumed.toNat = true →
        (creditFor r u g s).uplinks = s.uplinks ∧ Evented .uplRlEvt r 18 s (creditFor r u g s) ∧
          cell (creditFor r u g s) .uplRlErr r = incSat (cell s .uplRlErr r) 7 0 1) := by
  have he : creditFor r u g s = if behind 32 g.toNat (uplink s u).granted.toNat || behind 32 g.toNat (uplink s u).consumed.toNat then
      event .uplRlEvt r 18 (count .uplRlErr r 7 0 1 s) else startBlocks (modUplink u (fun x => { x with granted := g }) s) := by
    unfold creditFor
    dsimp only
    rw [if_neg (by simp [hp, hl])]
  cases hb : behind 32 g.toNat (uplink s u).granted.toNat || behind 32 g.toNat (uplink s u).consumed.toNat with
  | true =>
    rw [he, hb, if_pos rfl]
    have hne : regOff .uplRlEvt r 0 ≠ regOff .uplRlErr r 0 := regOff_ne (at_upl.2.1 r).1 (at_upl.2.1 r).2 nofun
    have hc : Rises (count .uplRlErr r 7 0 1 s).regs := rises_count hs.regs ..
    have hu : (event .uplRlEvt r 18 (count .uplRlErr r 7 0 1 s)).uplinks = s.uplinks := (event_does ..).only.same .uplinks (by decide)
    refine ⟨by rw [uplink_of hu, hp], fun h1 h2 => ?_, fun _ => ⟨hu, ?_, ?_⟩⟩
    · rw [h1, h2] at hb; cases hb
    · exact evented_of (evented_event hc ..) (cell_setCell_other hs.regs _ hne)
    · exact (cell_event_other hc _ _ _ hne.symm).trans (cell_count hs.regs ..)
  | false =>
    rw [he, hb, if_neg nofun]
    have hr := startBlocks_run (s := modUplink u (fun x => { x with granted := g }) s) ((modUplink_does ..).tables hs)
    have hu := uplink_modUplink hs.uplinks u fun x => { x with granted := g }
    obtain ⟨k1, k2, -⟩ := hr.uplink u
    refine ⟨k1.trans (by rw [hu, hp]), fun _ _ => k2.trans (by rw [hu]), fun h => ?_⟩
    rcases h with h | h <;> rw [h] at hb
    · cases hb
    · rw [Bool.or_true] at hb; cases hb

/-- An uplink becomes ACTIVE with a grant. -/
def Uplink.actived (g : BitVec 32) (x : Uplink) : Uplink := { x with phase := .active, granted := g, consumed := 0, initWait := none, lostReported := false }

/-- R263: an INIT for an uplink that takes one. -/
theorem initFor_taken {s : State} (hs : TablesRise s) (u : Fin 64) (g : BitVec 32) (hp : (uplink s u).phase ≠ .down) (hl : uplLintelLane s u = none) :
    (uplink (initFor u g s) u).phase = .active ∧ cell (initFor u g s) .uplLinkCnt u = incSat (cell s .uplLinkCnt u) 31 16 1 ∧
      ((uplink s u).phase = .idle → (uplink (initFor u g s) u).granted = g ∧ Evented .uplLinkEvt u 16 s (initFor u g s)) ∧
      ((uplink s u).phase = .active → (blockOn s u).isSome = true →
        (uplink (initFor u g s) u).initWait = some g ∧ (uplink (initFor u g s) u).granted = (uplink s u).granted) ∧
      ((uplink s u).phase = .active → blockOn s u = none → (uplink (initFor u g s) u).granted = g) ∧
      (blockOn s u = none → ConsumedFrom u 0 (initFor u g s)) := by
  obtain ⟨e1, e2, -⟩ := at_upl.1 u
  have hne : regOff .uplLinkCnt u 0 ≠ regOff .uplLinkEvt u 0 := regOff_ne e2 e1 nofun
  have hon : ∀ {t : State}, t.streams = s.streams → blockOn t u = blockOn s u := fun ht => by unfold blockOn stream; rw [ht]
  have start : ∀ (v : State) (x : Uplink), TablesRise v → v.streams = s.streams → uplink v u = x → x.phase = .active → x.consumed = 0 →
      cell v .uplLinkCnt u = incSat (cell s .uplLinkCnt u) 31 16 1 → (uplink (startBlocks v) u).phase = .active ∧ (uplink (startBlocks v) u).granted = x.granted ∧
        cell (startBlocks v) .uplLinkCnt u = incSat (cell s .uplLinkCnt u) 31 16 1 ∧ cell (startBlocks v) .uplLinkEvt u = cell v .uplLinkEvt u ∧
        (blockOn s u = none → ConsumedFrom u 0 (startBlocks v)) := fun v x hv h0 h1 h2 h3 h4 => by
    have hr := startBlocks_run hv
    obtain ⟨k1, k2, -⟩ := hr.uplink u
    refine ⟨k1.trans (h1 ▸ h2), k2.trans (h1 ▸ rfl), (hr.cell e2 nofun nofun).trans h4, hr.cell e1 nofun nofun, fun hb => hr.consumed u 0 ?_⟩
    have := consumedFrom_of_none ((hon h0).trans hb)
    rwa [h1, h3] at this
  have hl' : ¬(uplLintelLane s u).isSome = true := by simp [hl]
  cases hph : (uplink s u).phase with
  | down => exact absurd hph hp
  | idle =>
    have hi : initFor u g s = startBlocks (count .uplLinkCnt u 31 16 1 (uplinkActive u g s)) := by
      unfold initFor
      rw [if_neg hl', hph]
    rw [hi]
    have ha : TablesRise (uplinkActive u g s) := (uplinkActive_does ..).tables hs
    have hst : (uplinkActive u g s).streams = s.streams := (uplinkActive_does ..).only.same .streams (by decide)
    have hau : uplink (uplinkActive u g s) u = (uplink s u).actived g :=
      (uplink_of ((event_does ..).only.same .uplinks (by decide)) u).trans (uplink_modUplink hs.uplinks u (.actived g))
    have hac : cell (uplinkActive u g s) .uplLinkCnt u = cell s .uplLinkCnt u := cell_event_other (s := modUplink u (.actived g) s) hs.regs _ _ _ hne
    obtain ⟨k1, k2, k3, k4, k5⟩ := start (count .uplLinkCnt u 31 16 1 (uplinkActive u g s)) _ ((count_does ..).tables ha) hst hau rfl rfl
      ((cell_count ha.regs ..).trans (by rw [hac]))
    refine ⟨k1, k3, fun _ => ⟨k2, ?_⟩, nofun, nofun, k5⟩
    exact (k4.trans (cell_setCell_other ha.regs _ hne.symm)).trans (evented_event (s := modUplink u (.actived g) s) hs.regs ..)
  | active =>
    have hb0 := hon (t := count .uplLinkCnt u 31 16 1 s) rfl
    have hi : initFor u g s =
        if (blockOn (count .uplLinkCnt u 31 16 1 s) u).isSome then modUplink u (fun x => { x with initWait := some g }) (count .uplLinkCnt u 31 16 1 s)
        else startBlocks (modUplink u (fun x => { x with granted := g, consumed := 0, initWait := none }) (count .uplLinkCnt u 31 16 1 s)) := by
      unfold initFor
      rw [if_neg hl', hph]
    rw [hi, hb0]
    cases hb : (blockOn s u).isSome with
    | true =>
      rw [if_pos rfl]
      have hu := uplink_modUplink (s := count .uplLinkCnt u 31 16 1 s) hs.uplinks u fun x => { x with initWait := some g }
      refine ⟨by rw [hu]; exact hph, cell_count hs.regs .., nofun, fun _ _ => ⟨by rw [hu], by rw [hu]; rfl⟩, fun _ h => ?_, fun h => ?_⟩ <;>
        (rw [h] at hb; cases hb)
    | false =>
      rw [if_neg nofun]
      have hu := uplink_modUplink (s := count .uplLinkCnt u 31 16 1 s) hs.uplinks u fun x => { x with granted := g, consumed := 0, initWait := none }
      obtain ⟨k1, k2, k3, -, k5⟩ := start _ _ ((modUplink_does ..).tables ((count_does ..).tables hs)) rfl hu hph rfl (cell_count hs.regs ..)
      exact ⟨k1, k3, nofun, nofun, fun _ _ => k2, k5⟩

/-! ### Return lanes (R259, R261, R262) -/

theorem retLane_modRetLane {s : State} (hs : Rises s.retLanes) (r : Nat) (f : RetLane → RetLane) : retLane (modRetLane r f s) r = f (retLane s r) :=
  smGet_upd_rises hs ..

theorem retLane_of {s t : State} (h : t.retLanes = s.retLanes) (r : Nat) : retLane t r = retLane s r := by unfold retLane; rw [h]

/-- R262: a bad message is counted, and raised where it is the first of its course. -/
theorem creditBad_counts {s : State} (hs : TablesRise s) (r : Fin 16) (m : BitVec 64) :
    RegsKept [(.uplRlErr, r, 0), (.uplRlEvt, r, 0)] s (creditBad r m s) ∧ Evented .uplRlEvt r 18 s (creditBad r m s) ∧
      cell (creditBad r m s) .uplRlErr r = incSat (cell s .uplRlErr r) 15 8 1 ∧ (retLane (creditBad r m s) r).badRaised = true ∧
      ((retLane s r).badRaised = false →
        Reported Src.uplCreditBad r (w32 r :: cap64 m.toNat ++ capCourse (nowCourse s)) s (creditBad r m s)) ∧
      ((retLane s r).badRaised = true → (creditBad r m s).flt = s.flt) := by
  obtain ⟨e1, e2⟩ := at_upl.2.1 r
  have hne : regOff .uplRlEvt r 0 ≠ regOff .uplRlErr r 0 := regOff_ne e1 e2 nofun
  have hc : Rises (count .uplRlErr r 15 8 1 s).regs := rises_count hs.regs ..
  let v : State := event .uplRlEvt r 18 (count .uplRlErr r 15 8 1 s)
  have d : Does [.regs, .port0, .port1] s v := .step (event_does ..) rfl ((count_does ..).widen rfl)
  have k1 : RegsKept [(.uplRlErr, r.val, 0), (.uplRlEvt, r.val, 0)] s v :=
    RegsKept.ev (RegsKept.set (RegsKept.refl _ _) hs.regs (.head _) _) hc (.tail _ (.head _)) 18
  have k2 : Evented .uplRlEvt r 18 s v := evented_of (evented_event hc ..) (cell_setCell_other hs.regs _ hne)
  have k3 : cell v .uplRlErr r = incSat (cell s .uplRlErr r) 15 8 1 := (cell_event_other hc _ _ _ hne.symm).trans (cell_count hs.regs ..)
  have hl : retLane v r = retLane s r := retLane_of (d.only.same .retLanes (by decide)) r
  have he : creditBad r m s = if (retLane v r).badRaised then v
    else raise Src.uplCreditBad r (w32 r :: cap64 m.toNat ++ capCourse (nowCourse v)) (modRetLane r (fun x => { x with badRaised := true }) v) := rfl
  cases hb : (retLane s r).badRaised with
  | true =>
    rw [he, if_pos (hl ▸ hb)]
    exact ⟨k1, k2, k3, by rw [hl, hb], nofun, fun _ => d.only.same .flt (by decide)⟩
  | false =>
    rw [he, if_neg (by rw [hl, hb]; nofun), nowCourse_btr (d.only.same .btr (by decide))]
    refine ⟨k1.keep (raise_regs ..), k2.keep (raise_regs ..), (cell_regs (raise_regs ..) ..).trans k3, ?_, fun _ => ?_, nofun⟩
    · exact congrArg RetLane.badRaised ((retLane_of ((raise_does ..).only.same .retLanes (by decide)) r).trans
        (retLane_modRetLane (d.tables hs).retLanes r _))
    · exact reported_raise (d.only.same .btr (by decide))

/-- Settles O50. -/
theorem creditsMoveGrants : Obligations.CreditsMoveGrants := by
  unfold Obligations.CreditsMoveGrants
  intro r s hu hs
  refine ⟨fun m h => ⟨?_, ?_, ?_⟩, fun m u g h1 h2 h3 hU hG => ⟨fun hd => ⟨fun h => ?_, fun hp hl => ?_⟩, fun hd => ⟨fun h => ?_, fun hp hl => ?_⟩⟩,
    fun m h1 h2 => ?_, ⟨_, upNext_up hu, (rlSyncGained_does ..).only, ?_⟩, ⟨_, upNext_up hu, (rlSyncLost_does ..).only, ?_⟩,
    ⟨_, upNext_up hu, (rlCodeError_does ..).only, ?_⟩, fun u => ⟨_, upNext_up hu, (initRequestSend_does ..).only, ?_⟩⟩
  · exact (upNext_up hu).trans (congrArg _ (creditMessage_deaf h m))
  · exact (upNext_up hu).trans (congrArg _ (creditMessage_deaf h m))
  · exact (upNext_up hu).trans (congrArg _ (if_neg (by rcases h with h | h <;> simp [h])))
  · refine (upNext_up hu).trans (congrArg _ ((creditMessage_good h1 h2 h3).trans ?_))
    rw [hd, if_neg (by decide), ← hU]
    exact if_pos (by rcases h with h | h <;> simp [h])
  · refine ⟨_, upNext_up hu, ?_⟩
    rw [creditMessage_good h1 h2 h3, hd, if_neg (by decide), ← hU, ← hG]
    exact creditFor_active hs r g hp hl
  · refine (upNext_up hu).trans (congrArg _ ((creditMessage_good h1 h2 h3).trans ?_))
    rw [hd, if_pos rfl, ← hU]
    unfold initFor
    split
    · rfl
    · rw [h.resolve_right ‹_›]
  · refine ⟨_, upNext_up hu, ?_⟩
    rw [creditMessage_good h1 h2 h3, hd, if_pos rfl, ← hU, ← hG]
    have hlt : u < 64 := by
      have : dfld m 57 56 < 4 := Nat.mod_lt _ (by decide)
      omega
    obtain ⟨k1, k2, k3, k4, k5, k6⟩ := initFor_taken hs ⟨u, hlt⟩ g hp hl
    refine ⟨k1, k2, k3, k4, k5, fun h => ⟨(k6 h).1, fun k b hk hb => ?_⟩⟩
    exact ((k6 h).2 k b hk hb).trans (BitVec.zero_add _)
  · refine ⟨_, upNext_up hu, ?_⟩
    rw [if_pos (by rw [h1, h2]; rfl)]
    exact ⟨(creditBad_does ..).only, creditBad_counts hs r m⟩
  · have he : rlSyncGained r s = if retAble s r && !(retLane s r).sync then
      event .uplRlEvt r 16 (modRetLane r (fun x => { x with sync := true, lostReported := false }) s) else s := rfl
    cases hc : retAble s r && !(retLane s r).sync with
    | true =>
      rw [he, hc, if_pos rfl]
      refine ⟨regsKept_ev (s := modRetLane r _ s) hs.regs .uplRlEvt r 16, fun _ _ => ⟨?_, evented_event (s := modRetLane r _ s) hs.regs ..⟩, fun h => ?_⟩
      · exact (congrArg RetLane.sync (retLane_of ((event_does ..).only.same .retLanes (by decide)) r)).trans
          (congrArg RetLane.sync (retLane_modRetLane hs.retLanes r _))
      · rcases h with h | h <;> simp [h] at hc
    | false =>
      rw [he, hc, if_neg nofun]
      exact ⟨.refl _ _, fun h1 h2 => by simp [h1, h2] at hc, fun _ => rfl⟩
  · refine ⟨?_, fun h => if_neg (by rw [h]; nofun), fun h => ?_⟩
    · unfold rlSyncLost
      split
      · exact RegsKept.keep (regsKept_ev (s := modRetLane r _ s) hs.regs .uplRlEvt r 17) (raise_regs ..)
      · exact .refl _ _
    · have he : rlSyncLost r s = _ := if_pos h
      rw [he]
      obtain ⟨k1, -, k3, -⟩ := event_raised (u := modRetLane r (fun x => { x with sync := false, lostReported := true }) s) hs.regs rfl rfl ..
      refine ⟨?_, k1, k3⟩
      exact (congrArg RetLane.sync (retLane_of (((Does.step (raise_does ..) (by decide) ((event_does ..).widen rfl) : Does [.regs, .flt, .port0, .port1] _ _)).only.same .retLanes (by decide)) r)).trans
        (congrArg RetLane.sync (retLane_modRetLane hs.retLanes r _))
  · unfold rlCodeError
    split
    next h => exact ⟨regsKept_setCell hs.regs _ _ _ _, cell_count hs.regs ..⟩
    next h => exact ⟨.refl _ _, rfl⟩
  · unfold initRequestSend
    cases hp : (uplink s u).phase == .idle && !dpStopped s with
    | true =>
      simp only [Bool.and_eq_true, beq_iff_eq, Bool.not_eq_true'] at hp
      rw [if_pos rfl, if_pos hp, uplink_modUplink hs.uplinks]
    | false =>
      rw [if_neg nofun, if_neg fun h => by simp [h.1, h.2] at hp]

end Sys2Proof.Machine
end

section
/-!
SUPPORT. What the throttle (R226) leaves of the mortar, the streams, the collector and the registers.
-/
namespace Sys2Proof.Machine

/-- The collector after a step that only reports: what was under way still is, and neither an isolation nor the stop has changed. -/
structure Tells (s t : State) : Prop where
  told : ∀ r ∈ s.flt.flying, r ∈ t.flt.flying
  isolated : t.flt.isolated = s.flt.isolated
  stopped : t.flt.stopped = s.flt.stopped

theorem Tells.refl (s : State) : Tells s s := ⟨fun _ h => h, rfl, rfl⟩

theorem Tells.of_flt {s t : State} (h : t.flt = s.flt) : Tells s t := ⟨fun _ k => h.symm ▸ k, by rw [h], by rw [h]⟩

theorem Tells.trans {s t u : State} (h : Tells s t) (k : Tells t u) : Tells s u :=
  ⟨fun r hr => k.told r (h.told r hr), k.isolated.trans h.isolated, k.stopped.trans h.stopped⟩

theorem tells_raise (src idx : Nat) (cap : List Word) (s : State) (tgt : Target) (m a : Nat) : Tells s (raise src idx cap s tgt m a) :=
  ⟨raise_flying_mono src idx cap s tgt m a, rfl, rfl⟩

theorem Reported.tells {src idx : Nat} {cap : List Word} {s u t : State} (h : Reported src idx cap s u) (k : Tells u t) : Reported src idx cap s t := h.mono k.told

theorem Tells.dpStopped {s t : State} (h : Tells s t) : dpStopped t = dpStopped s := congrArg Option.isSome h.stopped

theorem Tells.isIsolated {s t : State} (h : Tells s t) (x : Target) : isIsolated t x = isIsolated s x := by unfold Machine.isIsolated; rw [h.isolated]

/-- The registers that the throttle can change. -/
abbrev throttleRegs : List (Reg × Nat × Nat) := [(.mrtPoolStat, 0, 0), (.mrtAccEvt, 0, 0)]

/-- The throttle has looked: only its own marks have changed. -/
structure Throttled (s t : State) : Prop where
  does : Does [.regs, .flt, .port0, .port1, .mrt, .streams] s t
  mrt : ∃ p q a, t.mrt = { s.mrt with poolAbove := p, tableAbove := q, asserted := a }
  streams : ∀ k, ∃ a, stream t k = { stream s k with above := a }
  tells : Tells s t
  regs : RegsKept throttleRegs s t

theorem Throttled.refl (s : State) : Throttled s s := ⟨.refl _ _, ⟨_, _, _, rfl⟩, fun _ => ⟨_, rfl⟩, .refl _, .refl _ _⟩

theorem Throttled.trans {s t u : State} (h : Throttled s t) (k : Throttled t u) : Throttled s u := by
  refine ⟨.step k.does rfl h.does, ?_, fun q => ?_, h.tells.trans k.tells, h.regs.trans k.regs⟩
  · obtain ⟨p, q, a, e⟩ := h.mrt
    obtain ⟨p', q', a', e'⟩ := k.mrt
    exact ⟨p', q', a', by rw [e', e]⟩
  · obtain ⟨a, e⟩ := h.streams q
    obtain ⟨a', e'⟩ := k.streams q
    exact ⟨a', by rw [e', e]⟩

theorem throttled_poolMoved {s : State} (hs : TablesRise s) : Throttled s (poolMoved s) :=
  ⟨(poolMoved_does s).widen rfl, ⟨_, _, _, rfl⟩, fun _ => ⟨_, rfl⟩, .of_flt rfl, (RegsKept.refl _ _).set hs.regs (.head _) _⟩

/-- A stream's watermark. -/
def watermark (t : Nat) (x : State) : State :=
  let w := cell x .mrtStreamWm t
  let a := aboveNow (stream x t).above (streamCells x t) (fld w 31 16) (fld w 15 0)
  if a = (stream x t).above then x else modStream t (fun y => { y with above := a }) x

theorem throttled_watermark {s : State} (hs : TablesRise s) (t : Nat) : Throttled s (watermark t s) := by
  unfold watermark
  dsimp only
  split
  · exact .refl _
  · refine ⟨(modStream_does ..).widen rfl, ⟨_, _, _, rfl⟩, fun k => ?_, .of_flt rfl, .of_regs rfl⟩
    by_cases h : k = t
    · subst h; exact ⟨_, stream_modStream hs.streams ..⟩
    · exact ⟨_, stream_modStream_other hs.streams h _⟩

theorem throttled_watermarks {s : State} (hs : TablesRise s) (n : Nat) : Throttled s (forN n watermark s) := by
  induction n with
  | zero => exact .refl _
  | succ n ih => rw [forN_succ]; exact ih.trans (throttled_watermark (ih.does.tables hs) n)

theorem throttled_modMrt {f : Mortar → Mortar} (u : State) (h : ∃ p q a, f u.mrt = { u.mrt with poolAbove := p, tableAbove := q, asserted := a }) :
    Throttled u (u.modMrt f) :=
  ⟨(State.modMrt_does f u).widen rfl, h, fun _ => ⟨_, rfl⟩, .of_flt rfl, .of_regs rfl⟩

/-- The marks of the pool and of the table against their watermarks. -/
def throttleAbove (s : State) : State :=
  s.modMrt fun m => { m with
    poolAbove := aboveNow m.poolAbove (usedCells s) (fld (cell s .mrtThrotPool) 31 16) (fld (cell s .mrtThrotPool) 15 0)
    tableAbove := aboveNow m.tableAbove m.table.length (fld (cell s .mrtThrotTable) 28 16) (fld (cell s .mrtThrotTable) 12 0) }

/-- THROT_N follows what asserts it, and a first assertion is told. -/
def throttleTold (s : State) : State :=
  let c := throttleCause s
  let u := s.modMrt fun m => { m with asserted := decide (c ≠ 0) }
  if decide (c ≠ 0) && !s.mrt.asserted then raise Src.mrtThrottle 0 (w32 c :: capCourse (nowCourse u)) (event .mrtAccEvt 0 16 u) else u

theorem throttle_eq (s : State) : throttle s = throttleTold (throttleAbove (forN 48 watermark (poolMoved s))) := by
  delta throttle throttleTold throttleAbove watermark
  dsimp only

theorem throttled_told {s : State} (hs : TablesRise s) : Throttled s (throttleTold s) := by
  let u := s.modMrt fun m => { m with asserted := decide (throttleCause s ≠ 0) }
  have h : Throttled s u := throttled_modMrt s ⟨_, _, _, rfl⟩
  have hu := h.does.tables hs
  unfold throttleTold
  dsimp only
  split
  · refine h.trans (u := raise Src.mrtThrottle 0 _ (event .mrtAccEvt 0 16 u)) ?_
    have d : Does [.regs, .port0, .port1] u (event .mrtAccEvt 0 16 u) := event_does ..
    exact ⟨.step (raise_does ..) rfl (d.widen rfl), ⟨_, _, _, d.only.same .mrt (by decide)⟩, fun k => ⟨_, stream_of (d.only.same .streams (by decide)) k⟩,
      (Tells.of_flt (d.only.same .flt (by decide))).trans (tells_raise ..), ((RegsKept.refl _ _).ev hu.regs (.tail _ (.head _)) 16).keep rfl⟩
  · exact h

theorem throttled_throttle {s : State} (hs : TablesRise s) : Throttled s (throttle s) := by
  have h1 := throttled_poolMoved hs
  have h2 := h1.trans (throttled_watermarks (h1.does.tables hs) 48)
  have h3 : Throttled s (throttleAbove (forN 48 watermark (poolMoved s))) := h2.trans (throttled_modMrt _ ⟨_, _, _, rfl⟩)
  rw [throttle_eq]
  exact h3.trans (throttled_told (h3.does.tables hs))

end Sys2Proof.Machine
end

section
/-!
SUPPORT. Uplinks and the blocks that leave on them (R221, R223, R257, R264 to R266, R278, R285): what a cut, a state change and a sent block leave, and
the statement on them settled.
-/
namespace Sys2Proof.Machine

/-! ### Steps on uplinks -/

/-- A step on the uplinks `us`: no other uplink changes its state, no event bit is taken back, nothing is enabled or disabled. -/
structure LinkStep (us : List Nat) (s t : State) : Prop where
  does : Does [.regs, .flt, .port0, .port1, .mrt, .streams, .uplinks] s t
  phases : ∀ w, w ∉ us → (uplink t w).phase = (uplink s w).phase
  tells : Tells s t
  cfg : ∀ w : Fin 64, cell t .uplLinkCfg w = cell s .uplLinkCfg w
  events : ∀ (w : Fin 64) (b : Nat), 16 ≤ b → bit (cell s .uplLinkEvt w) b = true → bit (cell t .uplLinkEvt w) b = true

theorem LinkStep.refl (us : List Nat) (s : State) : LinkStep us s s := ⟨.refl _ _, fun _ _ => rfl, .refl _, fun _ => rfl, fun _ _ _ h => h⟩

theorem LinkStep.trans {us vs : List Nat} {s t u : State} (h : LinkStep us s t) (k : LinkStep vs t u) : LinkStep (us ++ vs) s u :=
  ⟨.step k.does rfl h.does, fun w hw => (k.phases w fun hv => hw (List.mem_append_right _ hv)).trans (h.phases w fun hv => hw (List.mem_append_left _ hv)),
    h.tells.trans k.tells, fun w => (k.cfg w).trans (h.cfg w), fun w b hb hw => k.events w b hb (h.events w b hb hw)⟩

theorem LinkStep.widen {us vs : List Nat} {s t : State} (h : LinkStep us s t) (hs : us ⊆ vs) : LinkStep vs s t :=
  ⟨h.does, fun w hw => h.phases w fun hv => hw (hs hv), h.tells, h.cfg, h.events⟩

/-- A step that changes no register of the uplinks. -/
theorem LinkStep.of_kept {us : List Nat} {s t : State} (h : Does [.regs, .flt, .port0, .port1, .mrt, .streams, .uplinks] s t) (hp : ∀ w, w ∉ us → (uplink t w).phase = (uplink s w).phase)
    (ht : Tells s t) {xs : List (Reg × Nat × Nat)} (hr : RegsKept xs s t)
    (hx : ∀ x ∈ xs, ∀ w : Fin 64, regOff .uplLinkCfg w ≠ regOff x.1 x.2.1 x.2.2 ∧ regOff .uplLinkEvt w ≠ regOff x.1 x.2.1 x.2.2) : LinkStep us s t :=
  ⟨h, hp, ht, fun w => hr _ _ _ fun x hm => (hx x hm w).1, fun w b _ k => by rw [hr _ _ _ fun x hm => (hx x hm w).2]; exact k⟩

theorem linkStep_regs {us : List Nat} {s t : State} (h : Does [.regs, .flt, .port0, .port1, .mrt, .streams, .uplinks] s t) (hp : ∀ w, w ∉ us → (uplink t w).phase = (uplink s w).phase)
    (ht : Tells s t) (hr : t.regs = s.regs) : LinkStep us s t := .of_kept h hp ht (xs := []) (.of_regs hr) nofun

theorem linkStep_event {s : State} (hs : TablesRise s) (u : Fin 64) (b : Nat) : LinkStep [] s (event .uplLinkEvt u b s) := by
  have d : Does [.regs, .port0, .port1] s (event .uplLinkEvt u b s) := event_does ..
  refine ⟨d.widen rfl, fun w _ => by rw [uplink_of (d.only.same .uplinks (by decide))], .of_flt (d.only.same .flt (by decide)),
    fun w => cell_event_other hs.regs _ _ _ (regOff_ne (at_upl.1 w).2.2 (at_upl.1 u).1 nofun), fun w c hc hw => ?_⟩
  by_cases he : w = u
  · subst he
    rw [cell_event hs.regs]
    have hc32 : c < 32 := Nat.lt_of_not_le fun h => by rw [bit, BitVec.getLsbD_of_ge _ _ h] at hw; cases hw
    unfold bit at hw ⊢
    rw [bit_setFld, bit_setBit, hw]
    simp [hc32]
    omega
  · rw [cell_event_other hs.regs _ _ _ (regOff_ne (at_upl.1 w).1 (at_upl.1 u).1 fun e => he (Fin.ext (congrArg (fun x => x.2.1) e)))]
    exact hw

theorem linkStep_count {s : State} (hs : TablesRise s) (u : Fin 64) (hi lo n : Nat) : LinkStep [] s (count .uplLinkCnt u hi lo n s) :=
  .of_kept ((count_does ..).widen rfl) (fun _ _ => rfl) (.of_flt rfl) (regsKept_setCell hs.regs .uplLinkCnt u 0 _) fun x hx w => by
    cases List.mem_singleton.1 hx
    exact ⟨regOff_ne (at_upl.1 w).2.2 (at_upl.1 u).2.1 nofun, regOff_ne (at_upl.1 w).1 (at_upl.1 u).2.1 nofun⟩

theorem linkStep_raise (src idx : Nat) (cap : List Word) (s : State) (tgt : Target) (m a : Nat) : LinkStep [] s (raise src idx cap s tgt m a) :=
  linkStep_regs ((raise_does ..).widen rfl) (fun _ _ => rfl) (tells_raise ..) rfl

theorem linkStep_modStream (t : Nat) (f : Stream → Stream) (s : State) : LinkStep [] s (modStream t f s) :=
  linkStep_regs ((modStream_does ..).widen rfl) (fun _ _ => rfl) (.of_flt rfl) rfl

theorem linkStep_modUplink {s : State} (hs : TablesRise s) (u : Nat) (f : Uplink → Uplink) : LinkStep [u] s (modUplink u f s) :=
  linkStep_regs ((modUplink_does ..).widen rfl) (fun w hw => by rw [uplink_modUplink_other hs.uplinks fun e : w = u => hw (e ▸ List.mem_singleton_self _)]) (.of_flt rfl) rfl

/-- A change of an uplink that leaves its state. -/
theorem linkStep_grants {s : State} (hs : TablesRise s) (u : Nat) {f : Uplink → Uplink} (hf : ∀ x, (f x).phase = x.phase) : LinkStep [] s (modUplink u f s) :=
  linkStep_regs ((modUplink_does ..).widen rfl) (fun w _ => by
    by_cases he : w = u
    · subst he; rw [uplink_modUplink hs.uplinks, hf]
    · rw [uplink_modUplink_other hs.uplinks he]) (.of_flt rfl) rfl

theorem Throttled.link {s t : State} (h : Throttled s t) : LinkStep [] s t :=
  .of_kept (h.does.widen rfl) (fun w _ => by rw [uplink_of (h.does.only.same .uplinks (by decide))]) h.tells h.regs fun x hx w => by
    have e : ∀ w : Fin 64, (∀ x ∈ throttleRegs, regOff .uplLinkCfg w ≠ regOff x.1 x.2.1 x.2.2 ∧ regOff .uplLinkEvt w ≠ regOff x.1 x.2.1 x.2.2) := by decide +kernel
    exact e w x hx

theorem BlocksRun.link {s t : State} (h : BlocksRun s t) (hd : Does [.regs, .port0, .port1, .streams, .uplinks] s t) : LinkStep [] s t :=
  .of_kept (hd.widen rfl) (fun w _ => (h.uplink w).1) (.of_flt (h.only.same .flt (by decide))) h.regs fun x hx w =>
    ⟨startRegs_ne (at_upl.1 w).2.2 nofun nofun x hx, startRegs_ne (at_upl.1 w).1 nofun nofun x hx⟩

/-! ### Cuts (R263, R266) -/

theorem linkStep_initBoundary {s : State} (hs : TablesRise s) (u : Nat) : LinkStep [] s (initBoundary u s) := by
  unfold initBoundary
  split
  · exact linkStep_grants hs u fun _ => rfl
  · exact .refl _ _

theorem linkStep_cutBlock {s : State} (hs : TablesRise s) (u : Fin 64) (t : Nat) : LinkStep [] s (cutBlock u t s) := by
  unfold cutBlock
  split
  next b hb =>
    split
    · dsimp only
      have h1 := linkStep_count hs u 15 0 1
      have h2 := h1.trans (linkStep_event (h1.does.tables hs) u 18)
      have h3 := h2.trans (linkStep_raise Src.uplRecordCut u ([w32 u, w32 t] ++ cap64 b.out.seq ++
        [w32 (min b.out.words.length (Config.wordsSent u (nowCourse s) (nowCycle s)))]) _ (targetOf Src.uplRecordCut u) 0 0)
      have h4 := h3.trans (linkStep_initBoundary (h3.does.tables hs) u)
      split
      · exact h4.trans (linkStep_modStream ..)
      · split
        · have h5 := h4.trans (linkStep_modStream t (fun x => { x with block := none }) _)
          exact h5.trans (throttled_throttle (h5.does.tables hs)).link
        · exact h4.trans (linkStep_modStream ..)
    · exact .refl _ _
  · exact .refl _ _

theorem linkStep_cutUplink {s : State} (hs : TablesRise s) (u : Fin 64) : LinkStep [] s (cutUplink u s) := by
  unfold cutUplink
  split
  · exact linkStep_cutBlock hs u _
  · exact .refl _ _

/-! ### States that follow conditions (R265) -/

theorem LinkStep.lane {us : List Nat} {s t : State} (h : LinkStep us s t) (u : Nat) : uplLintelLane t u = uplLintelLane s u := by
  have hb : t.btr = s.btr := h.does.only.same .btr (by decide)
  have hl : t.lnt = s.lnt := h.does.only.same .lnt (by decide)
  unfold uplLintelLane lntLaneUplink inForce cbReg
  rw [hb, hl]

theorem LinkStep.cause {us : List Nat} {s t : State} (h : LinkStep us s t) (u : Fin 64) : downCause t u = downCause s u := by
  have hg : t.uplGroups = s.uplGroups := h.does.only.same .uplGroups (by decide)
  unfold downCause uplGroup domOn
  rw [h.cfg u, h.tells.isIsolated, hg, powerDom_of (h.does.only.same .pwr (by decide))]

theorem linkRole_of {s t : State} (hb : t.btr = s.btr) (hm : t.streams = s.streams) (hl : t.lnt = s.lnt) (u : Nat) : linkRole t u = linkRole s u := by
  unfold linkRole uplRole uplLintelLane lntLaneUplink streamMap inForce cbReg stream
  rw [hb, hm, hl]

/-- An uplink that is DOWN. -/
def Uplink.downed (x : Uplink) : Uplink := { x with phase := .down, granted := 0, consumed := 0, initWait := none }

/-- R265: an uplink goes DOWN, and UPL_LINK_DOWN is raised where it carried a role. -/
theorem uplinkDown_downs {s : State} (hs : TablesRise s) (u : Fin 64) (cause : Nat) : LinkStep [u] s (uplinkDown u cause s) ∧
    (uplink (uplinkDown u cause s) u).phase = .down ∧ ((uplink s u).phase = .active → (linkRole s u).1 ≠ 0 →
      Reported Src.uplLinkDown u [w32 u, w32 (linkRole s u).2, w32 (linkRole s u).1, w32 cause] s (uplinkDown u cause s)) := by
  unfold uplinkDown
  dsimp only
  cases hp : (uplink s u).phase == .down with
  | true =>
    rw [if_pos rfl]
    refine ⟨.refl _ _, eq_of_beq hp, fun h => ?_⟩
    rw [h] at hp; cases hp
  | false =>
    rw [if_neg nofun]
    have h1 := linkStep_cutUplink hs u
    have h2 := h1.trans (linkStep_modUplink (h1.does.tables hs) u .downed)
    have p2 : (uplink (modUplink u .downed (cutUplink u s)) u).phase = .down := by rw [uplink_modUplink (h1.does.tables hs).uplinks]; rfl
    generalize hv : (if (uplink s u).phase == .active then event .uplLinkEvt u 17 (modUplink u .downed (cutUplink u s)) else
        modUplink u .downed (cutUplink u s)) = v
    have h3 : LinkStep [u.val] s v ∧ (uplink v u).phase = .down := by
      rw [← hv]
      split
      · refine ⟨h2.trans (linkStep_event (h2.does.tables hs) u 17), ?_⟩
        rw [uplink_of (s := modUplink u .downed (cutUplink u s)) ((event_does ..).only.same .uplinks (by decide)), p2]
      · exact ⟨h2, p2⟩
    have hv' : (if ((uplink s u).phase == .active) = true then event .uplLinkEvt u 17 (modUplink u (fun y => { y with phase := .down, granted := 0, consumed := 0, initWait := none }) (cutUplink u s)) else
        modUplink u (fun y => { y with phase := .down, granted := 0, consumed := 0, initWait := none }) (cutUplink u s)) = v := hv
    rw [hv']
    have tv := h3.1.does.tables hs
    split
    next hr =>
      have h4 := (h3.1.trans (linkStep_grants tv u (f := fun y => { y with lostReported := true }) fun _ => rfl)).trans
        (linkStep_raise Src.uplLinkDown u [w32 u, w32 (linkRole s u).2, w32 (linkRole s u).1, w32 cause] _ (targetOf Src.uplLinkDown u) 0 0)
      exact ⟨h4, ((linkStep_grants tv u (f := fun y => { y with lostReported := true }) fun _ => rfl).phases u nofun).trans h3.2,
        fun _ _ => reported_raise (h3.1.does.only.same .btr (by decide))⟩
    next hr =>
      refine ⟨h3.1, h3.2, fun ha hn => absurd ?_ hr⟩
      simp [ha, hn]

/-- R265: an uplink follows its conditions: DOWN with one that forbids it, else out of DOWN. -/
theorem uplCheck_checks {s : State} (hs : TablesRise s) (u : Fin 64) : LinkStep [u] s (uplCheck u s) ∧
    (downCause s u ≠ 0 → (uplink (uplCheck u s) u).phase = .down ∧ ((uplink s u).phase = .active → (linkRole s u).1 ≠ 0 →
      Reported Src.uplLinkDown u [w32 u, w32 (linkRole s u).2, w32 (linkRole s u).1, w32 (downCause s u)] s (uplCheck u s))) ∧
    (downCause s u = 0 → ((uplink s u).phase = .down → (uplink (uplCheck u s) u).phase = (if (uplLintelLane s u).isSome then .active else .idle)) ∧
      ((uplink s u).phase = .active → (uplink (uplCheck u s) u).phase = .active)) := by
  have active : LinkStep [u.val] s (uplinkActive u 0 s) ∧ (uplink (uplinkActive u 0 s) u).phase = .active := by
    have h1 := linkStep_modUplink hs u (.actived 0)
    refine ⟨h1.trans (linkStep_event (h1.does.tables hs) u 16), ?_⟩
    exact congrArg Uplink.phase ((uplink_of ((event_does ..).only.same .uplinks (by decide)) u).trans (uplink_modUplink hs.uplinks u (.actived 0)))
  unfold uplCheck
  dsimp only
  by_cases hc : downCause s u = 0
  · rw [if_neg (not_not.2 hc)]
    split
    next hp =>
      split
      next hl => exact ⟨active.1, fun h => absurd hc h, fun _ => ⟨fun _ => active.2, fun h => (nomatch hp.symm.trans h)⟩⟩
      next hl =>
        refine ⟨linkStep_modUplink hs u _, fun h => absurd hc h, fun _ => ⟨fun _ => ?_, fun h => (nomatch hp.symm.trans h)⟩⟩
        rw [uplink_modUplink hs.uplinks]
    next hp =>
      split
      · exact ⟨active.1, fun h => absurd hc h, fun _ => ⟨fun h => (nomatch hp.symm.trans h), fun h => (nomatch hp.symm.trans h)⟩⟩
      · exact ⟨.refl _ _, fun h => absurd hc h, fun _ => ⟨fun h => (nomatch hp.symm.trans h), fun h => (nomatch hp.symm.trans h)⟩⟩
    next hp => exact ⟨.refl _ _, fun h => absurd hc h, fun _ => ⟨fun h => (nomatch hp.symm.trans h), fun _ => hp⟩⟩
  · rw [if_pos hc]
    obtain ⟨k1, k2, k3⟩ := uplinkDown_downs hs u (downCause s u)
    exact ⟨k1, fun _ => ⟨k2, k3⟩, fun h => absurd h hc⟩

/-- The uplinks of a group that have been checked, and those that have not. -/
theorem uplChecks_run {s : State} (hs : TablesRise s) (h : Fin 8) {n : Nat} (hn : n ≤ 8) :
    LinkStep ((List.range n).map fun k => 8 * h.val + k) s (forN n (fun k => uplCheck (8 * h + k)) s) ∧
      ∀ k < n, ∃ v, LinkStep ((List.range k).map fun j => 8 * h.val + j) s v ∧
        (uplink (forN n (fun k => uplCheck (8 * h + k)) s) (8 * h + k)).phase = (uplink (uplCheck (8 * h + k) v) (8 * h + k)).phase := by
  induction n with
  | zero => exact ⟨.refl _ _, nofun⟩
  | succ n ih =>
    obtain ⟨h1, h2⟩ := ih (by omega)
    have h3 := (uplCheck_checks (h1.does.tables hs) ⟨8 * h + n, by omega⟩).1
    rw [forN_succ]
    refine ⟨(h1.trans h3).widen ?_, fun k hk => ?_⟩
    · rw [List.range_succ, List.map_append]; exact List.Subset.refl _
    · by_cases he : k = n
      · subst he; exact ⟨_, h1, rfl⟩
      · obtain ⟨v, k1, k2⟩ := h2 k (by omega)
        exact ⟨v, k1, (h3.phases _ (by simp; omega)).trans k2⟩

/-- R265: the eight uplinks of a group have followed their conditions. -/
theorem uplGroupCheck_checks {s : State} (hs : TablesRise s) (h : Fin 8) :
    LinkStep ((List.range 8).map fun k => 8 * h.val + k) s (uplGroupCheck h s) ∧ ∀ (u : Fin 64), u.val / 8 = h →
      (downCause s u ≠ 0 → (uplink (uplGroupCheck h s) u).phase = .down) ∧
      (downCause s u = 0 → (uplink s u).phase = .down →
        (uplink (uplGroupCheck h s) u).phase = (if (uplLintelLane s u).isSome then .active else .idle)) := by
  obtain ⟨h1, h2⟩ := uplChecks_run hs h (Nat.le_refl 8)
  have hb := (startBlocks_run (h1.does.tables hs)).link (startBlocks_does ..)
  refine ⟨(h1.trans hb).widen (by rw [List.append_nil]; exact List.Subset.refl _), fun u hu => ?_⟩
  obtain ⟨v, v1, v2⟩ := h2 (u.val % 8) (Nat.mod_lt _ (by decide))
  have he : 8 * h.val + u.val % 8 = u.val := by rw [← hu]; exact Nat.div_add_mod ..
  rw [he] at v2
  obtain ⟨-, c1, c2⟩ := uplCheck_checks (v1.does.tables hs) u
  rw [v1.cause] at c1 c2
  have hp : (uplink (uplGroupCheck h s) u).phase = (uplink (uplCheck u v) u).phase := (hb.phases u nofun).trans v2
  refine ⟨fun hc => hp.trans (c1 hc).1, fun hc hd => hp.trans ?_⟩
  have hk : (uplink v u).phase = (uplink s u).phase := v1.phases u (by simp; omega)
  rw [(c2 hc).1 (hk.trans hd), v1.lane]

/-- The blocks of a memory’s first part number those of the others too. -/
theorem eccBlock_beyond {s : State} {mem : Nat} (h : AsWritten mem 0 s) (inst blk : Nat) : eccBlock s mem inst blk = .blank := by
  have := h (inst * 1048576 + blk)
  unfold eccBlock eccKey at this ⊢
  rwa [show (mem * 64 + 0) * 1048576 + (inst * 1048576 + blk) = (mem * 64 + inst) * 1048576 + blk by ring] at this

/-! ### Blocks that leave (R221, R223, R278) -/

theorem cellsRead_asWritten {s : State} (h : AsWritten 3 0 s) (c : CellUse) (n i : Nat) : cellsRead c n i s = (none, s) := by
  induction n generalizing i with
  | zero => rfl
  | succ n ih =>
    unfold cellsRead
    split
    · rw [eccRead_blank (eccBlock_beyond h ..)]
      exact ih _
    · rfl

theorem cellsDelivered_asWritten {s : State} (h : AsWritten 3 0 s) (c : CellUse) (ws : List DWord) : cellsDelivered s c ws = ws :=
  skewWords_zero fun k _ _ => by
    split
    · exact eccDelta_blank (eccBlock_beyond h ..)
    · rfl

/-- What a stream shows of a block that has left on an uplink. -/
def Stream.leaves (u : Nat) (b : TxBlock) (words : List DWord) (x : Stream) : Stream :=
  { x with
    block := if (b.carriers.filter (fun v => !(v == u))).isEmpty then none else some { b with carriers := b.carriers.filter (fun v => !(v == u)), whole := true }
    sent := some (words, (if b.whole then ((x.sent.map (·.2)).getD []) else []) ++ [u]) }

/-- The next blocks start on an uplink that a block has left: that of its stream, and that of the stream whose role it carries. -/
def nextStarts (u k : Nat) (s : State) : State :=
  match uplRole (startBlock k s) u with
  | some (k', _) => if k' = k then startBlock k s else startBlock k' (startBlock k s)
  | none => startBlock k s

theorem nextStarts_run {s : State} (hs : TablesRise s) (u : Nat) {k : Nat} (hk : k < 48) : BlocksRun s (nextStarts u k s) := by
  have h1 := startBlock_run hs hk
  unfold nextStarts
  split
  next k' m hr =>
    split
    · exact h1
    · obtain ⟨j, hj, hf⟩ := List.exists_of_findSome?_eq_some hr
      have hjk : j = k' := by
        dsimp only at hf
        split at hf
        · exact congrArg Prod.fst (Option.some.inj hf)
        · split at hf
          · exact congrArg Prod.fst (Option.some.inj hf)
          · cases hf
      exact h1.trans (startBlock_run h1.tables (hjk ▸ List.mem_range.1 hj))
  · exact h1

theorem recordBlockSent_eq {s : State} (hw : AsWritten 3 0 s) {u k : Nat} {b : TxBlock} (hk : blockOn s u = some k) (hb : (stream s k).block = some b) :
    recordBlockSent u s = nextStarts u k (initBoundary u (if (b.carriers.filter (fun v => !(v == u))).isEmpty then
      throttle (modStream k (.leaves u b (if b.out.badCrc then invertCrc b.out.words else b.out.words)) s) else
      modStream k (.leaves u b (if b.out.badCrc then invertCrc b.out.words else b.out.words)) s)) := by
  have hr : readOut k b.out s = (b.out, s) := by
    unfold readOut
    dsimp only
    rw [cellsRead_asWritten hw]
  unfold recordBlockSent
  rw [hk]
  dsimp only
  rw [hb]
  dsimp only
  rw [hr, cellsDelivered_asWritten hw]
  rfl

theorem initBoundary_uplink {s : State} (hs : Rises s.uplinks) (u : Nat) :
    (∀ g, (uplink s u).initWait = some g → (uplink (initBoundary u s) u).granted = g ∧ (uplink (initBoundary u s) u).initWait = none) ∧
      (uplink (initBoundary u s) u).consumed = (if (uplink s u).initWait.isSome then 0 else (uplink s u).consumed) := by
  unfold initBoundary
  cases hi : (uplink s u).initWait with
  | none => exact ⟨nofun, by rw [if_neg nofun]⟩
  | some g =>
    dsimp only
    rw [uplink_modUplink hs]
    exact ⟨fun g' h => ⟨Option.some.inj h, rfl⟩, rfl⟩

/-- A block has left on an uplink. -/
theorem recordBlockSent_leaves {s : State} (hs : TablesRise s) (hw : AsWritten 3 0 s) {u k : Nat} {b : TxBlock} {left : List Nat} (hk : blockOn s u = some k)
    (hb : (stream s k).block = some b) (hl : left = b.carriers.filter (fun v => !(v == u))) :
    (stream (recordBlockSent u s) k).sent.map (·.1) = some (if b.out.badCrc then invertCrc b.out.words else b.out.words) ∧
      (left ≠ [] → (stream (recordBlockSent u s) k).block = some { b with carriers := left, whole := true } ∧ (stream (recordBlockSent u s) k).out = (stream s k).out) ∧
      (left = [] → (stream s k).out = [] → (stream s k).summary = none → (stream s k).beacon = none → (stream (recordBlockSent u s) k).block = none) ∧
      (∀ g, (uplink s u).initWait = some g → (uplink (recordBlockSent u s) u).granted = g ∧ (uplink (recordBlockSent u s) u).initWait = none) ∧
      ((∀ (k' : Nat) (b' : TxBlock), k' ≠ k → (stream s k').block = some b' → u ∉ b'.carriers) →
        ConsumedFrom u (if (uplink s u).initWait.isSome then 0 else (uplink s u).consumed) (recordBlockSent u s)) := by
  have he := recordBlockSent_eq hw hk hb
  rw [← hl] at he
  generalize hws : (if b.out.badCrc then invertCrc b.out.words else b.out.words) = ws at he ⊢
  let v1 := modStream k (.leaves u b ws) s
  have t1 : TablesRise v1 := (modStream_does ..).tables hs
  obtain ⟨v2, e2, h2⟩ : ∃ v2, v2 = (if left.isEmpty then throttle v1 else v1) ∧ Throttled v1 v2 := ⟨_, rfl, by
    split
    · exact throttled_throttle t1
    · exact .refl _⟩
  have t2 := h2.does.tables t1
  have u2 : v2.uplinks = s.uplinks := h2.does.only.same .uplinks (by decide)
  have he' : recordBlockSent u s = nextStarts u k (initBoundary u v2) := by rw [he, e2]
  have d3 : Does [.uplinks] v2 (initBoundary u v2) := initBoundary_does ..
  have s3 : ∀ q, stream (initBoundary u v2) q = stream v2 q := stream_of (d3.only.same .streams (by decide))
  have hr := nextStarts_run (d3.tables t2) u (blockOn_some hk).1
  obtain ⟨i1, i2⟩ := initBoundary_uplink t2.uplinks u
  rw [uplink_of u2] at i1 i2
  obtain ⟨-, -, hg⟩ := hr.uplink u
  have hg2 := (hr.uplink u).2.1
  obtain ⟨a, ha⟩ := h2.streams k
  have hown : stream (initBoundary u v2) k = { (stream s k).leaves u b ws with above := a } := by
    rw [s3, ha, stream_modStream hs.streams]
  have hblk : (stream (initBoundary u v2) k).block = if left.isEmpty then none else some { b with carriers := left, whole := true } := by
    rw [hown, hl]; rfl
  rw [he']
  refine ⟨?_, fun hne => ?_, fun hn ho hsm hbc => ?_, fun g h => ⟨hg2.trans (i1 g h).1, hg.trans (i1 g h).2⟩, fun hother => hr.consumed u _ ?_⟩
  · rw [hr.sent, hown]; rfl
  · have hb' : (stream (initBoundary u v2) k).block = some { b with carriers := left, whole := true } := by
      rw [hblk, if_neg (by simpa using hne)]
    rw [hr.kept k (.inl (by rw [hb']; nofun)), hb', hown]
    exact ⟨rfl, rfl⟩
  · rw [hr.kept k (.inr (by rw [hown]; exact ⟨ho, hsm, hbc⟩)), hblk, hn]
    rfl
  · rw [← i2]
    refine consumedFrom_of_none (blockOn_none.2 fun q _ hq => ?_)
    obtain ⟨b', hb', hin⟩ := hq
    by_cases hqk : q = k
    · subst hqk
      rw [hblk] at hb'
      split at hb'
      · cases hb'
      · cases hb'
        rw [hl] at hin
        simp at hin
    · obtain ⟨a', ha'⟩ := h2.streams q
      rw [s3, ha', stream_modStream_other hs.streams hqk] at hb'
      exact hother q b' hqk hb' hin

/-! ### A group's PLL and its reference (R257, R265) -/

theorem uplGroup_modUplGroup {s : State} (hs : Rises s.uplGroups) (h : Nat) (f : UplGroup → UplGroup) : uplGroup (modUplGroup h f s) h = f (uplGroup s h) :=
  smGet_upd_rises hs ..

theorem uplGroup_of {s t : State} (e : t.uplGroups = s.uplGroups) (h : Nat) : uplGroup t h = uplGroup s h := by unfold uplGroup; rw [e]

theorem groupEvents_ne (h : Fin 8) {k j : Nat} (hk : k < 8) (hj : j < 8) (hn : k ≠ j) :
    regOff .uplLinkEvt (8 * h + k) 0 ≠ regOff .uplLinkEvt (8 * h + j) 0 :=
  regOff_ne (at_upl.1 ⟨8 * h + k, by omega⟩).1 (at_upl.1 ⟨8 * h + j, by omega⟩).1 fun e => hn (by
    have := congrArg (fun x => x.2.1) e
    dsimp only at this
    omega)

/-- The same event on each uplink of a group. -/
theorem groupEvents {s : State} (hs : TablesRise s) (h : Fin 8) (b : Nat) {n : Nat} (hn : n ≤ 8) :
    LinkStep [] s (forN n (fun k => event .uplLinkEvt (8 * h + k) b) s) ∧ Does [.regs, .port0, .port1] s (forN n (fun k => event .uplLinkEvt (8 * h + k) b) s) ∧
      RegsKept ((List.range n).map fun k => (Reg.uplLinkEvt, 8 * h.val + k, 0)) s (forN n (fun k => event .uplLinkEvt (8 * h + k) b) s) ∧
      ∀ k < n, Evented .uplLinkEvt (8 * h + k) b s (forN n (fun k => event .uplLinkEvt (8 * h + k) b) s) := by
  induction n with
  | zero => exact ⟨.refl _ _, .refl _ _, .refl _ _, nofun⟩
  | succ n ih =>
    obtain ⟨h1, h2, h3, h4⟩ := ih (by omega)
    have hr := (h2.tables hs).regs
    rw [forN_succ]
    have hk := regsKept_ev hr .uplLinkEvt (8 * h + n) b
    refine ⟨h1.trans (linkStep_event (h2.tables hs) ⟨8 * h + n, by omega⟩ b), .step (event_does ..) rfl h2, ?_, fun k hlt => ?_⟩
    · rw [List.range_succ, List.map_append]
      exact (RegsKept.widen h3 (List.subset_append_left ..)).trans (RegsKept.widen hk (List.subset_append_right ..))
    · by_cases he : k = n
      · subst he
        refine evented_of (evented_event hr ..) (h3 _ _ _ fun x hx => ?_)
        obtain ⟨j, hj, rfl⟩ := List.mem_map.1 hx
        have := List.mem_range.1 hj
        exact groupEvents_ne h (by omega) (by omega) (by omega)
      · exact (h4 k (by omega)).after hk fun x hx => by
          cases List.mem_singleton.1 hx
          exact groupEvents_ne h (by omega) (by omega) he

theorem bit_of_evented {r : Reg} {i b : Nat} {s t : State} (h : Evented r i b s t) (h1 : 16 ≤ b) (h2 : b < 32) : bit (cell t r i) b = true := by
  unfold bit
  rw [h, bit_setFld, bit_setBit]
  simp [h2]
  omega

/-- R265: a group's PLL unlocks. -/
theorem uplPllUnlock_unlocks {s : State} (hs : TablesRise s) (h : Fin 8) (hp : (uplGroup s h).pll = true) : (uplGroup (uplPllUnlock h s) h).pll = false ∧
    Reported Src.uplPllUnlock h [w32 h] s (uplPllUnlock h s) ∧ ∀ k < 8, (uplink (uplPllUnlock h s) (8 * h.val + k)).phase = .down ∧
      bit (cell (uplPllUnlock h s) .uplLinkEvt (8 * h.val + k)) 19 = true := by
  let f : UplGroup → UplGroup := fun x => { x with pll := false }
  have t0 : TablesRise (modUplGroup h f s) := (modUplGroup_does ..).tables hs
  obtain ⟨l1, d1, -, e1⟩ := groupEvents t0 h 19 (Nat.le_refl 8)
  have he : uplPllUnlock h s = uplGroupCheck h (raise Src.uplPllUnlock h [w32 h] (forN 8 (fun k => event .uplLinkEvt (8 * h + k) 19) (modUplGroup h f s))) := if_pos hp
  generalize hv : raise Src.uplPllUnlock h [w32 h] (forN 8 (fun k => event .uplLinkEvt (8 * h + k) 19) (modUplGroup h f s)) = v at he
  have tv : TablesRise v := hv ▸ (raise_does ..).tables (d1.tables t0)
  obtain ⟨c1, c2⟩ := uplGroupCheck_checks tv h
  have hg : uplGroup v h = f (uplGroup s h) := by
    rw [← hv]
    exact (uplGroup_of (d1.only.same .uplGroups (by decide)) h).trans (uplGroup_modUplGroup hs.uplGroups ..)
  have hr : Reported Src.uplPllUnlock h [w32 h] s v := hv ▸ reported_raise (d1.only.same .btr (by decide))
  rw [he]
  refine ⟨?_, hr.tells c1.tells, fun k hk => ⟨(c2 ⟨8 * h + k, by omega⟩ (by simp; omega)).1 ?_, c1.events ⟨8 * h + k, by omega⟩ 19 (by decide) ?_⟩⟩
  · rw [uplGroup_of (c1.does.only.same .uplGroups (by decide)), hg]
  · have hpll : (uplGroup v ((8 * h.val + k) / 8)).pll = false := by
      rw [show (8 * h.val + k) / 8 = h.val by omega, hg]
    simp only [downCause, hpll, Bool.not_false, if_true]
    split_ifs <;> decide
  · have := bit_of_evented (e1 k hk) (by decide) (by decide)
    rw [← hv]
    exact this

/-- R257, R265: a group's PLL locks. -/
theorem uplPllLock_locks {s : State} (hs : TablesRise s) (h : Fin 8) (hd : domOn s (40 + h.val) = true) (hx : s.quo.xoGone = false)
    (hi : isIsolated s (.uplinkGroup h) = false) : (uplGroup (uplPllLock h s) h).pll = true ∧ ∀ k < 8, bit (cell s .uplLinkCfg (8 * h.val + k)) 0 = true →
      (uplink s (8 * h.val + k)).phase = .down →
      (uplink (uplPllLock h s) (8 * h.val + k)).phase = (if (uplLintelLane s (8 * h.val + k)).isSome then .active else .idle) := by
  let f : UplGroup → UplGroup := fun x => { x with pll := true }
  have he : uplPllLock h s = uplGroupCheck h (modUplGroup h f s) := if_pos (by rw [hd, hx]; rfl)
  have t0 : TablesRise (modUplGroup h f s) := (modUplGroup_does ..).tables hs
  obtain ⟨c1, c2⟩ := uplGroupCheck_checks t0 h
  have hg : uplGroup (modUplGroup h f s) h = f (uplGroup s h) := uplGroup_modUplGroup hs.uplGroups ..
  rw [he]
  refine ⟨by rw [uplGroup_of (c1.does.only.same .uplGroups (by decide)), hg], fun k hk hb hp => (c2 ⟨8 * h + k, by omega⟩ (by simp; omega)).2 ?_ hp⟩
  show downCause (modUplGroup h f s) (8 * h.val + k) = 0
  have hd' : domOn (modUplGroup h f s) (40 + h.val) = true := hd
  have hi' : isIsolated (modUplGroup h f s) (.uplinkGroup h) = false := hi
  have hb' : bit (cell (modUplGroup h f s) .uplLinkCfg (8 * h.val + k)) 0 = true := hb
  unfold downCause
  rw [show (8 * h.val + k) / 8 = h.val by omega, hd', hi', hb', hg]
  rfl

/-- R257: a group's reference has gone. -/
theorem uplRefHold_holds {s : State} (hs : TablesRise s) (h : Fin 8) : (uplRefHold h s).quo = { s.quo with xoGone := true } ∧
    RegsKept ((List.range 8).map fun k => (Reg.uplLinkEvt, 8 * h.val + k, 0)) s (uplRefHold h s) ∧
    (domOn s (40 + h.val) = true → (uplGroup s h).pll = true → (uplGroup s h).refHold = false →
      (uplGroup (uplRefHold h s) h).refHold = true ∧ Reported Src.uplRefHold h [w32 h] s (uplRefHold h s) ∧
        ∀ k < 8, Evented .uplLinkEvt (8 * h.val + k) 20 s (uplRefHold h s)) ∧
    (domOn s (40 + h.val) = false ∨ (uplGroup s h).pll = false ∨ (uplGroup s h).refHold = true →
      (uplRefHold h s).uplGroups = s.uplGroups ∧ (uplRefHold h s).flt = s.flt ∧ (uplRefHold h s).regs = s.regs) := by
  let v := s.modQuo fun q => { q with xoGone := true }
  let f : UplGroup → UplGroup := fun x => { x with refHold := true }
  have he : uplRefHold h s = if domOn s (40 + h) && (uplGroup s h).pll && !(uplGroup s h).refHold then
      raise Src.uplRefHold h [w32 h] (forN 8 (fun k => event .uplLinkEvt (8 * h + k) 20) (modUplGroup h f v)) else v := rfl
  cases hc : domOn s (40 + h) && (uplGroup s h).pll && !(uplGroup s h).refHold with
  | true =>
    have tv : TablesRise (modUplGroup h f v) := (modUplGroup_does h f v).tables ((State.modQuo_does (fun q => { q with xoGone := true }) s fun _ h => h).tables hs)
    obtain ⟨-, d1, k1, e1⟩ := groupEvents tv h 20 (Nat.le_refl 8)
    rw [he, hc, if_pos rfl]
    refine ⟨d1.only.same .quo (by decide), ?_, fun _ _ _ => ⟨?_, reported_raise (d1.only.same .btr (by decide)), fun k hk => ?_⟩, fun hn => ?_⟩
    · exact RegsKept.keep (RegsKept.trans (t := modUplGroup h f v) (.of_regs rfl) k1) (raise_regs ..)
    · exact congrArg UplGroup.refHold ((uplGroup_of (d1.only.same .uplGroups (by decide)) h).trans (uplGroup_modUplGroup (s := v) hs.uplGroups ..))
    · exact e1 k hk
    · rcases hn with hn | hn | hn <;> simp [hn] at hc
  | false =>
    rw [he, hc, if_neg nofun]
    exact ⟨rfl, .of_regs rfl, fun h1 h2 h3 => by simp [h1, h2, h3] at hc, fun _ => ⟨rfl, rfl, rfl⟩⟩

/-- R285: a DOWN uplink shows no role and no stream. -/
theorem uplLinkStatRead_down {s : State} {u : Nat} (hp : (uplink s u).phase = .down) :
    fld (uplLinkStatRead s u) 17 16 = 0 ∧ fld (uplLinkStatRead s u) 23 18 = 0 ∧ fld (uplLinkStatRead s u) 1 0 = 0 := by
  unfold uplLinkStatRead
  rw [hp]
  refine ⟨?_, ?_, ?_⟩ <;> simp [fld_or, fld_mkFld_other, fld_mkFld]

/-- A write of UPL_LINK_CFG keeps ENABLE as written, whatever it corrects. -/
def cfgTaken (u : Nat) (w : Word) (s : State) : State :=
  if fld w 6 4 + fld w 11 8 > 16 then modCell .uplLinkCfg u 0 (fun x => setFld x 11 8 (16 - fld w 6 4)) s else s

theorem cfgTaken_enable {s : State} (hs : TablesRise s) (u : Nat) (w : Word) : Does [.regs] s (cfgTaken u w s) ∧
    bit (cell (cfgTaken u w s) .uplLinkCfg u) 0 = bit (cell s .uplLinkCfg u) 0 := by
  unfold cfgTaken
  split
  · refine ⟨modCell_does .., ?_⟩
    unfold bit modCell
    rw [cell_setCell hs.regs, bit_setFld]
    simp
  · exact ⟨.refl _ _, rfl⟩

/-- R265: a write of an uplink's ENABLE. -/
theorem uplLinkEnable_follows {s : State} (hs : TablesRise s) (u : Fin 64) {v : State} (hv : Does [.regs] s v) {on : Bool}
    (hb : bit (cell v .uplLinkCfg u) 0 = on) :
    (on = false → (uplink (startBlocks (uplCheck u v)) u).phase = .down ∧
      ((uplink s u).phase = .active → (linkRole s u).1 ≠ 0 → domOn s (40 + u.val / 8) = true →
        Reported Src.uplLinkDown u [w32 u, w32 (linkRole s u).2, w32 (linkRole s u).1, w32 2] s (startBlocks (uplCheck u v)))) ∧
    (on = true → domOn s (40 + u.val / 8) = true → isIsolated s (.uplinkGroup (u.val / 8)) = false → (uplGroup s (u.val / 8)).pll = true →
      ((uplink s u).phase = .down → (uplink (startBlocks (uplCheck u v)) u).phase = (if (uplLintelLane s u).isSome then .active else .idle)) ∧
      ((uplink s u).phase = .active → (uplink (startBlocks (uplCheck u v)) u).phase = .active)) := by
  have tv := hv.tables hs
  have same : ∀ z, z ≠ Zone.regs → z.same s v := fun z hz => hv.only.same z (by simpa using hz)
  have hbtr : v.btr = s.btr := same .btr nofun
  have hup : ∀ q, uplink v q = uplink s q := uplink_of (same .uplinks nofun)
  have hrole := linkRole_of hbtr (same .streams nofun) (same .lnt nofun) u
  have hdom : domOn v (40 + u.val / 8) = domOn s (40 + u.val / 8) := by unfold domOn; rw [powerDom_of (same .pwr nofun)]
  have hiso : ∀ x, isIsolated v x = isIsolated s x := (Tells.of_flt (same .flt nofun)).isIsolated
  have hgrp := uplGroup_of (same .uplGroups nofun) (u.val / 8)
  have hlane : uplLintelLane v u = uplLintelLane s u := by
    unfold uplLintelLane lntLaneUplink inForce cbReg
    rw [hbtr, show v.lnt = s.lnt from same .lnt nofun]
  obtain ⟨c1, c2, c3⟩ := uplCheck_checks tv u
  have hl := (startBlocks_run (c1.does.tables tv)).link (startBlocks_does ..)
  have hp := hl.phases u nofun
  rw [hup, hrole] at c2
  rw [hup, hlane] at c3
  have hcause : downCause v u = if !domOn s (40 + u.val / 8) then 1 else if !on then 2 else if isIsolated s (.uplinkGroup (u.val / 8)) then 3
      else if !(uplGroup s (u.val / 8)).pll then 4 else 0 := by
    unfold downCause
    rw [hdom, hb, hiso, hgrp]
  refine ⟨fun h => ?_, fun h hd hi hg => ?_⟩
  · have hne : downCause v u ≠ 0 := by
      rw [hcause, h, Bool.not_false, if_pos rfl]
      split_ifs <;> decide
    obtain ⟨k1, k2⟩ := c2 hne
    refine ⟨hp.trans k1, fun ha hr hd => ((?_ : Reported ..).tells hl.tells).from hbtr⟩
    have := k2 ha hr
    rwa [show downCause v u = 2 by rw [hcause, h, hd]; rfl] at this
  · have h0 : downCause v u = 0 := by rw [hcause, h, hd, hi, hg]; rfl
    obtain ⟨k1, k2⟩ := c3 h0
    exact ⟨fun x => hp.trans (k1 x), fun x => hp.trans (k2 x)⟩

/-- Settles O51. -/
theorem uplinksFollow : Obligations.UplinksFollow := by
  unfold Obligations.UplinksFollow
  intro s hu hs
  refine ⟨fun u => ⟨fun h => ?_, fun k b left hk hb hl hw => ⟨_, upNext_up hu, ?_⟩⟩, fun h => ⟨fun hp => ?_, fun hp => ⟨_, upNext_up hu, ?_⟩, fun hc => ?_,
    fun hd hx hi => ⟨_, upNext_up hu, ?_⟩, ⟨_, upNext_up hu, (uplRefHold_does ..).only, ?_⟩⟩, fun u hp => ?_, fun p u w hm => ?_⟩
  · refine (upNext_up hu).trans (congrArg _ ?_)
    unfold recordBlockSent
    rw [h]
  · obtain ⟨k1, k2, k3, k4, k5⟩ := recordBlockSent_leaves hs (hw 0 (by decide)) hk hb hl
    exact ⟨k1, k2, k3, k4, fun base hbase ho => hbase ▸ k5 ho⟩
  · exact (upNext_up hu).trans (congrArg _ (if_neg (by rw [hp]; nofun)))
  · exact uplPllUnlock_unlocks hs h hp
  · exact (upNext_up hu).trans (congrArg _ (if_neg (by rcases hc with hc | hc <;> simp [hc])))
  · exact uplPllLock_locks hs h hd hx hi
  · exact uplRefHold_holds hs h
  · exact uplLinkStatRead_down hp
  · let v := setCell .uplLinkCfg u 0 (mergeMask (storeMask .uplLinkCfg) (cell s .uplLinkCfg u) w) s
    have hw : exec (.uplLinkEnableWrite p u w) s = .next (startBlocks (uplCheck u (cfgTaken u w v))) := by
      refine (hostRow_may hm (at_uplLinkCfg u)).trans (congrArg _ ?_)
      rw [writeReg_plain (by decide) (by decide) (by decide)]
      rfl
    have dv : Does [.regs] s v := setCell_does ..
    obtain ⟨k1, k2⟩ := cfgTaken_enable (dv.tables hs) u w
    refine ⟨_, hw, uplLinkEnable_follows hs u (.step k1 rfl dv) (k2.trans ?_)⟩
    show bit (cell v .uplLinkCfg u) 0 = bit w 0
    rw [cell_setCell hs.regs, bit_mergeMask_in (by decide)]

end Sys2Proof.Machine
end

section
/-!
SUPPORT. Records that are released (R204, R217, R218, R222, R224), flushed (R227), and lost with their unit (R228), and the statement on them settled.
-/
namespace Sys2Proof.Machine

/-! ### The accept table -/

theorem Throttled.table {s t : State} (h : Throttled s t) : t.mrt.table = s.mrt.table := by
  obtain ⟨p, q, a, e⟩ := h.mrt
  rw [e]

theorem mem_modEntry_table {id : Nat} {f : AccEntry → AccEntry} {s : State} {e : AccEntry} :
    e ∈ (modEntry id f s).mrt.table ↔ ∃ x ∈ s.mrt.table, (if x.id = id then f x else x) = e := List.mem_map

/-! ### A release (R217, R218, R224) -/

theorem releaseRead_asWritten {s : State} (h : AsWritten 6 0 s) (k : Nat) : releaseRead k s = s := by
  unfold releaseRead tableRead
  split
  · exact eccVisit_asWritten h ..
  · rfl

/-- What a stream holds once record `o` has been released on it. -/
def Stream.releases (o : OutRec) (n : Nat) (x : Stream) : Stream := { x with nextSeq := n + 1, lastLate := o.late, out := x.out ++ [o] }

/-- The lateness is counted, and raised where the record before was not late. -/
def latenessTold (k n late : Nat) (unit : Nat) (o : OutRec) (was : Bool) (s : State) : State :=
  let s := if o.late then count .mrtStreamLate k 15 0 1 s else s
  if o.late && !was then raise Src.mrtLate k (w32 k :: cap64 n ++ [w32 late]) s (.mortar unit) else s

theorem latenessTold_does (k n late unit : Nat) (o : OutRec) (was : Bool) (s : State) : Does [.regs, .flt] s (latenessTold k n late unit o was s) := by
  unfold latenessTold
  dsimp only
  split
  · refine .step (raise_does ..) rfl ?_
    split
    · exact (count_does ..).widen rfl
    · exact .refl _ _
  · split
    · exact (count_does ..).widen rfl
    · exact .refl _ _

/-- The lateness of the record that is released, in courses. -/
def releaseLate (khz : Nat) (e : AccEntry) (r : StreamRec) (s : State) : Nat :=
  satTo 16 (lateness e.arrival (nowStamp s) (recordBound e r) r.credits khz)

theorem recordRelease_takes {s : State} (h : AsWritten 6 0 s) {k khz : Nat} {e : AccEntry} {r : StreamRec} (hn : nextRelease s k = some (e, r)) {o : OutRec}
    (ho : o = releasedRecord s k (stream s k).nextSeq (releaseLate khz e r s) e r) :
    recordRelease k khz s = if dpStopped s || !releaseCovered s k r then s else
      startBlock k (throttle (dropRec e.id k (modStream k (.releases o (stream s k).nextSeq)
        (latenessTold k (stream s k).nextSeq (releaseLate khz e r s) r.unit o (stream s k).lastLate s)))) := by
  unfold recordRelease
  rw [releaseRead_asWritten h]
  dsimp only
  rw [hn, ho]
  rfl

theorem releasedRecord_made (s : State) (k n late : Nat) (e : AccEntry) (r : StreamRec) :
    (releasedRecord s k n late e r).seq = n ∧ (releasedRecord s k n late e r).resend = false ∧
      (r.phase = .complete → (releasedRecord s k n late e r).kind = (if e.kind = .recall then 2 else 1) ∧ (releasedRecord s k n late e r).credits = r.credits ∧
        (releasedRecord s k n late e r).cells = r.cells) ∧
      (∀ reason : Nat, r.phase = .gap reason → (releasedRecord s k n late e r).kind = 3 ∧ (releasedRecord s k n late e r).credits = 1) ∧
      (r.phase = .flushed → (releasedRecord s k n late e r).kind = 4 ∧ (releasedRecord s k n late e r).credits = 1) := by
  unfold releasedRecord
  cases hp : r.phase <;> refine ⟨rfl, rfl, ?_, ?_, ?_⟩ <;> simp

/-- R205, R217: a released record has left its entry, and the entry the table with its last one. -/
theorem dropRec_table {s : State} (id k : Nat) (h : s.mrt.refusal = none) :
    ∀ e ∈ (dropRec id k s).mrt.table, e.id = id → ∀ r ∈ e.recs, r.stream ≠ k := by
  have hd : ∀ e ∈ (modEntry id (fun e => { e with recs := e.recs.filter (fun r => !(r.stream == k)) }) s).mrt.table, e.id = id → ∀ r ∈ e.recs, r.stream ≠ k := by
    intro e he hid r hr
    obtain ⟨x, -, rfl⟩ := mem_modEntry_table.1 he
    split at hid
    next hx =>
      rw [if_pos hx] at hr
      simpa using (List.mem_filter.1 hr).2
    next hx => exact absurd hid hx
  intro e he
  unfold dropRec at he
  dsimp only at he
  split at he
  · refine hd e ?_
    have hr : refusalCloses ((modEntry id (fun e => { e with recs := e.recs.filter (fun r => !(r.stream == k)) }) s).modMrt fun m =>
        { m with table := m.table.filter (fun e => !(e.id == id)) }) = (modEntry id (fun e => { e with recs := e.recs.filter (fun r => !(r.stream == k)) }) s).modMrt
        fun m => { m with table := m.table.filter (fun e => !(e.id == id)) } := by
      unfold refusalCloses
      rw [show ((modEntry id (fun e => { e with recs := e.recs.filter (fun r => !(r.stream == k)) }) s).modMrt fun m =>
        { m with table := m.table.filter (fun e => !(e.id == id)) }).mrt.refusal = none from h]
    rw [hr] at he
    exact (List.mem_filter.1 he).1
  · exact hd e he

/-- What the block of a stream consumes when it starts at once, and what the stream has released last. -/
theorem startBlock_released {v : State} (hv : TablesRise v) (k : Nat) :
    (stream (startBlock k v) k).nextSeq = (stream v k).nextSeq ∧
    ((stream v k).block ≠ none ∨ (stream (startBlock k v) k).block = none → (startBlock k v).uplinks = v.uplinks) ∧
    (∀ b : TxBlock, (stream v k).block = none → (stream (startBlock k v) k).block = some b → ∀ u : Nat,
      (uplink (startBlock k v) u).consumed = (uplink v u).consumed + BitVec.ofNat 32 (b.carriers.count u * b.out.credits)) ∧
    ∀ o, (stream v k).out.getLast? = some o → o.resend = false →
      (stream (startBlock k v) k).out.getLast?.or ((stream (startBlock k v) k).block.map (·.out)) = some o := by
  rcases startBlock_cases hv k with h | ⟨o', cs, h⟩
  · rw [h]
    exact ⟨rfl, fun _ => rfl, fun b hn hb => (nomatch hn.symm.trans hb), fun o ho _ => by rw [ho]; rfl⟩
  · obtain ⟨out, sm, bc, hown, hl⟩ := h.own
    rw [hown]
    refine ⟨rfl, fun hn => ?_, fun b _ hb u => ?_, hl⟩
    · rcases hn with hn | hn
      · exact absurd h.idle hn
      · cases hn
    · cases hb
      rw [h.uplinks]
      rfl

/-! ### Records that are closed (R227, R228) -/

/-- A record that is picked and still open changes its phase and loses its content. -/
def StreamRec.closeIf (which : StreamRec → Bool) (p : RecPhase) (r : StreamRec) : StreamRec := if which r && r.isOpen then r.empty p else r

/-- The table's entries with other gathers, and their records changed each by the same function. -/
def RecsMapped (f : StreamRec → StreamRec) (l m : List AccEntry) : Prop := ∃ g : AccEntry → AccEntry, m = l.map g ∧ ∀ e, (g e).id = e.id ∧ (g e).recs = e.recs.map f

/-- The records closed and what serves nothing more withdrawn, before the throttle looks. -/
def closedMarks (which : StreamRec → Bool) (p : RecPhase) (s : State) : State :=
  withdraw (s.modMrt fun m => { m with table := m.table.map (fun e => { e with recs := e.recs.map (.closeIf which p) }) })

theorem closeRecs_eq (which : StreamRec → Bool) (p : RecPhase) (s : State) : closeRecs which p s = throttle (closedMarks which p s) := rfl

theorem closedMarks_does (which : StreamRec → Bool) (p : RecPhase) (s : State) : Does [.qry, .mrt] s (closedMarks which p s) :=
  .step (withdraw_does ..) rfl ((State.modMrt_does _ s).widen rfl)

theorem closeRecs_throttled {s : State} (hs : TablesRise s) (which : StreamRec → Bool) (p : RecPhase) :
    Throttled (closedMarks which p s) (closeRecs which p s) :=
  closeRecs_eq which p s ▸ throttled_throttle ((closedMarks_does ..).tables hs)

theorem closeRecs_table {s : State} (hs : TablesRise s) (which : StreamRec → Bool) (p : RecPhase) :
    RecsMapped (.closeIf which p) s.mrt.table (closeRecs which p s).mrt.table := by
  rw [(closeRecs_throttled hs which p).table]
  refine ⟨fun e => { e with
    gathers := e.gathers.map (fun g => if !(e.recs.map (StreamRec.closeIf which p)).any (fun r => r.unit == g.unit && r.inBuild) then { g with extracted := true, toSubmit := [] } else g)
    recs := e.recs.map (.closeIf which p) }, List.map_map, fun e => ⟨rfl, rfl⟩⟩

theorem closeRecs_units {s : State} (hs : TablesRise s) (which : StreamRec → Bool) (p : RecPhase) : (closeRecs which p s).mrt.unitsIn = s.mrt.unitsIn := by
  obtain ⟨a, b, c, e⟩ := (closeRecs_throttled hs which p).mrt
  rw [e]
  rfl

theorem closeRecs_tells {s : State} (hs : TablesRise s) (which : StreamRec → Bool) (p : RecPhase) : Tells s (closeRecs which p s) :=
  (Tells.of_flt ((closedMarks_does ..).only.same .flt (by decide))).trans (closeRecs_throttled hs which p).tells

theorem RecsMapped.closed {which : StreamRec → Bool} {p : RecPhase} {l m : List AccEntry} (h : RecsMapped (.closeIf which p) l m)
    (hp : ∀ r : StreamRec, (r.empty p).isOpen = false) :
    (∀ e ∈ m, ∀ r ∈ e.recs, which r = true → r.isOpen = false) ∧
      ∀ e ∈ l, ∀ r ∈ e.recs, which r = true → r.isOpen = true → ∃ e' ∈ m, e'.id = e.id ∧ r.empty p ∈ e'.recs := by
  obtain ⟨g, rfl, hg⟩ := h
  refine ⟨fun e he r hr hwr => ?_, fun e he r hr hwr ho => ⟨g e, List.mem_map_of_mem he, (hg e).1, ?_⟩⟩
  · obtain ⟨x, -, rfl⟩ := List.mem_map.1 he
    rw [(hg x).2] at hr
    obtain ⟨y, -, rfl⟩ := List.mem_map.1 hr
    unfold StreamRec.closeIf at hwr ⊢
    split at hwr
    next hc => rw [if_pos hc]; exact hp y
    next hc =>
      rw [if_neg hc]
      cases ho : y.isOpen with
      | false => rfl
      | true => exact absurd (by rw [hwr, ho]; rfl) hc
  · rw [(hg e).2]
    refine List.mem_map.2 ⟨r, hr, ?_⟩
    unfold StreamRec.closeIf
    rw [hwr, ho]
    rfl

/-- R227: a flush has closed the stream's records. -/
theorem flushStream_table {s : State} (hs : TablesRise s) (k : Nat) :
    RecsMapped (.closeIf (fun r => r.stream == k) .flushed) s.mrt.table (flushStream k s).mrt.table := by
  unfold flushStream
  dsimp only
  rw [(startBlock_does ..).only.same .mrt (by decide)]
  exact closeRecs_table ((modStream_does ..).tables ((count_does ..).tables hs)) ..

/-- R204: after a resynchronisation no number is expected. -/
theorem accResync_expects (s : State) : expectedNumber (accResync s) = none := by
  have h : (accResync s).btr.expected.val.toNat = (s.btr.expected.val &&& ~~~ 1).toNat := congrArg BitVec.toNat (Tri.val_move _ _)
  unfold expectedNumber
  dsimp only
  rw [h, if_neg]
  intro hm
  have : (s.btr.expected.val &&& ~~~ 1).getLsbD 0 = true := by rw [BitVec.getLsbD, Nat.testBit_zero, hm]; rfl
  rw [BitVec.getLsbD_and] at this
  simp at this

theorem expectedNumber_of {s t : State} (h : t.btr = s.btr) : expectedNumber t = expectedNumber s := by unfold expectedNumber; rw [h]

theorem causeWord_tells {s t : State} (h : Tells s t) (hp : t.pwr = s.pwr) (ds : List Nat) (ts : List Target) : causeWord t ds ts = causeWord s ds ts := by
  have hd : powerDom t = powerDom s := funext fun n => powerDom_of hp n
  unfold causeWord domCode domOn
  rw [h.isolated, h.stopped, hd]

/-- R228: a unit has gone out of service. -/
theorem unitCheck_out {s : State} (hs : TablesRise s) (u : Nat) (hi : unitIn s u = false) (hw : u ∈ s.mrt.unitsIn) :
    u ∉ (unitCheck u s).mrt.unitsIn ∧ RecsMapped (.closeIf (fun r => r.unit == u) (.gap 5)) s.mrt.table (unitCheck u s).mrt.table ∧
      Reported Src.mrtUnitOut u ([w32 u, causeWord s [71 + u] [.mortar u]] ++ capCourse (nowCourse s)) s (unitCheck u s) := by
  let v := s.modMrt fun m => { m with unitsIn := m.unitsIn.filter (fun x => !(x == u)) }
  have tv : TablesRise v := (State.modMrt_does (fun m => { m with unitsIn := m.unitsIn.filter (fun x => !(x == u)) }) s).tables hs
  have he : unitCheck u s = raise Src.mrtUnitOut u ([w32 u, causeWord (closeRecs (fun r => r.unit == u) (.gap 5) v) [71 + u] [.mortar u]] ++
      capCourse (nowCourse (closeRecs (fun r => r.unit == u) (.gap 5) v))) (event .mrtUnitEvt u 16 (closeRecs (fun r => r.unit == u) (.gap 5) v)) := by
    unfold unitCheck
    rw [hi, List.contains_eq_mem, decide_eq_true hw]
    rfl
  have hc := closeRecs_table tv (fun r => r.unit == u) (.gap 5)
  generalize hx : closeRecs (fun r => r.unit == u) (.gap 5) v = x at he hc
  have dx : Does [.regs, .flt, .port0, .port1, .qry, .mrt, .streams] v x := hx ▸ closeRecs_does ..
  have tells : Tells v x := hx ▸ closeRecs_tells tv ..
  have units : x.mrt.unitsIn = s.mrt.unitsIn.filter (fun x => !(x == u)) := hx ▸ closeRecs_units tv ..
  have hb : x.btr = s.btr := dx.only.same .btr (by decide)
  have hm : (event .mrtUnitEvt u 16 x).mrt = x.mrt := (event_does ..).only.same .mrt (by decide)
  rw [causeWord_tells (s := v) tells (dx.only.same .pwr (by decide)), nowCourse_btr hb] at he
  rw [he]
  refine ⟨?_, ?_, reported_raise ((event_btr ..).trans hb)⟩
  · show u ∉ (event .mrtUnitEvt u 16 x).mrt.unitsIn
    rw [hm, units]
    simp
  · show RecsMapped _ _ (event .mrtUnitEvt u 16 x).mrt.table
    rw [hm]
    exact hc

theorem writeEffect_flush (p i : Nat) (old : Word) {w : Word} (h : bit w 0 = true) (s : State) :
    writeEffect p .mrtStreamCtl i 0 old w s = throttle (flushStream i s) := if_pos h

/-- Settles O48. -/
theorem recordsAreReleased : Obligations.RecordsAreReleased := by
  unfold Obligations.RecordsAreReleased
  intro s hu hs
  refine ⟨fun k khz => ⟨fun hn => ?_, fun e r hn hw => ⟨fun h => ?_, fun h1 h2 => ?_⟩⟩, fun p k hm => ?_, fun p w hm => ?_, fun u => ⟨_, upNext_up hu, ?_⟩⟩
  · refine (upNext_up hu).trans (congrArg _ ?_)
    have hr : releaseRead k s = s := by unfold releaseRead; rw [hn]
    unfold recordRelease
    rw [hr]
    dsimp only
    rw [hn]
  · refine (upNext_up hu).trans (congrArg _ ((recordRelease_takes hw hn rfl).trans (if_pos ?_)))
    rcases h with h | h <;> simp [h]
  · generalize ho : releasedRecord s k (stream s k).nextSeq (releaseLate khz.toNat e r s) e r = o
    have he := recordRelease_takes hw hn ho.symm
    rw [h1, h2, if_neg (by decide)] at he
    obtain ⟨m1, m2, m3, m4, m5⟩ := ho ▸ releasedRecord_made s k (stream s k).nextSeq (releaseLate khz.toNat e r s) e r
    generalize hx : latenessTold k (stream s k).nextSeq (releaseLate khz.toNat e r s) r.unit o (stream s k).lastLate s = x at he
    have d1 : Does [.regs, .flt] s x := hx ▸ latenessTold_does ..
    let y := modStream k (.releases o (stream s k).nextSeq) x
    have d2 : Does [.regs, .flt, .streams] s y := .step (modStream_does ..) rfl (d1.widen rfl)
    have d3 : Does [.mem, .mrt] y (dropRec e.id k y) := dropRec_does ..
    have t3 := d3.tables (d2.tables hs)
    have h4 := throttled_throttle t3
    have hstr : stream (dropRec e.id k y) k = (stream s k).releases o (stream s k).nextSeq := by
      rw [stream_of (d3.only.same .streams (by decide)), stream_modStream (d1.tables hs).streams, stream_of (d1.only.same .streams (by decide))]
    obtain ⟨a, ha⟩ := h4.streams k
    rw [hstr] at ha
    have hup : (throttle (dropRec e.id k y)).uplinks = s.uplinks :=
      (h4.does.only.same .uplinks (by decide)).trans ((d3.only.same .uplinks (by decide)).trans (d2.only.same .uplinks (by decide)))
    obtain ⟨b1, b2, b3, b4⟩ := startBlock_released (h4.does.tables t3) k
    rw [ha] at b1 b2 b3 b4
    refine ⟨_, o, (upNext_up hu).trans (congrArg _ he), b1, m1, fun h => (b2 h).trans hup, fun b hb hb' u => ?_, m3, m4, m5,
      b4 o List.getLast?_concat m2, fun hr e' he' => ?_⟩
    · rw [b3 b hb hb' u, uplink_of hup]
    · rw [(startBlock_does ..).only.same .mrt (by decide), h4.table] at he'
      refine dropRec_table (s := y) e.id k ?_ e' he'
      rw [d2.only.same .mrt (by decide), hr]
  · let v := setCell .mrtStreamCtl k 0 (mergeMask (storeMask .mrtStreamCtl) (cell s .mrtStreamCtl k) 1) s
    have tv : TablesRise v := (setCell_does ..).tables hs
    have hw : exec (.flush p k) s = .next (throttle (flushStream k v)) := by
      refine (hostRow_may hm (at_mrtStreamCtl k)).trans (congrArg _ ?_)
      rw [writeReg_plain (by decide) (by decide) (by decide)]
      exact writeEffect_flush p k _ (by decide) _
    refine ⟨_, hw, ?_⟩
    rw [(throttled_throttle ((flushStream_does ..).tables tv)).table]
    obtain ⟨h1, h2⟩ := (flushStream_table tv k).closed fun _ => rfl
    exact ⟨fun e he r hr hk => h1 e he r hr (beq_iff_eq.2 hk), fun e he r hr hk => h2 e he r hr (beq_iff_eq.2 hk)⟩
  · let v := accResync (setCell .mrtAccCtl 0 0 (mergeMask (storeMask .mrtAccCtl) (cell s .mrtAccCtl) (w ||| 8)) s)
    have tv : TablesRise v := (accResync_does ..).tables ((setCell_does ..).tables hs)
    have hw : exec (.resync p w) s = .next (throttle (if bit (w ||| 8) 2 then mrtClear v else v)) := by
      refine (hostRow_may hm at_mrtAccCtl).trans (congrArg _ ?_)
      rw [writeReg_plain (by decide) (by decide) (by decide)]
      have h3 : bit (w ||| 8) 3 = true := by unfold bit; rw [BitVec.getLsbD_or]; simp
      refine congrArg (fun x => throttle (if bit (w ||| 8) 2 then mrtClear x else x)) (if_pos ?_)
      rw [h3]
      rfl
    have d : Does [.regs] v (if bit (w ||| 8) 2 then mrtClear v else v) := by
      split
      · exact mrtClear_does ..
      · exact .refl _ _
    have ht := throttled_throttle (d.tables tv)
    refine ⟨_, hw, ?_, ?_⟩
    · rw [expectedNumber_of ((ht.does.only.same .btr (by decide)).trans (d.only.same .btr (by decide))), accResync_expects]
    · rw [ht.table, d.only.same .mrt (by decide)]
      rfl
  · have ht := throttled_throttle ((unitCheck_does u s).tables hs)
    obtain ⟨a1, a2, a3, hmrt⟩ := ht.mrt
    refine ⟨fun hi => ?_, fun hi hn => ?_, fun hi hin => ?_⟩
    · rw [hmrt]
      unfold unitCheck
      rw [hi, if_pos rfl]
      dsimp only
      cases hc : s.mrt.unitsIn.contains u.val with
      | true => exact ⟨by simpa using hc, rfl⟩
      | false => exact ⟨List.mem_append_right _ (List.mem_singleton_self _), rfl⟩
    · rw [ht.table]
      unfold unitCheck
      rw [hi, List.contains_eq_mem, decide_eq_false hn]
      rfl
    · obtain ⟨k1, k2, k3⟩ := unitCheck_out hs u.val hi hin
      obtain ⟨h1, h2⟩ := k2.closed fun _ => rfl
      rw [ht.table]
      refine ⟨?_, fun e he r hr hk => h1 e he r hr (beq_iff_eq.2 hk), fun e he r hr hk => h2 e he r hr (beq_iff_eq.2 hk), k3.tells ht.tells⟩
      rw [hmrt]
      exact k1

end Sys2Proof.Machine
end

section
/-!
SUPPORT. Fragments that take cells, wait for them, or are cut (R217, R219 to R221), and the statement on them settled.
-/
namespace Sys2Proof.Machine

/-! ### Entries and records by number -/

theorem entryById_mapped {s t : State} {g : AccEntry → AccEntry} (h : t.mrt.table = s.mrt.table.map g) (hg : ∀ e, (g e).id = e.id) (id : Nat) :
    entryById t id = (entryById s id).map g := by
  unfold entryById
  rw [h, List.find?_map]
  exact congrArg (Option.map g) (congrArg (List.find? · s.mrt.table) (funext fun e => by rw [Function.comp_apply, hg]))

theorem entryById_of {s t : State} (h : t.mrt.table = s.mrt.table) (id : Nat) : entryById t id = entryById s id := by unfold entryById; rw [h]

theorem entryById_id {s : State} {id : Nat} {e : AccEntry} (h : entryById s id = some e) : e.id = id := by
  unfold entryById at h
  exact eq_of_beq (List.find?_some (p := fun e : AccEntry => e.id == id) h)

theorem entryById_modEntry {s : State} {id : Nat} {e : AccEntry} (h : entryById s id = some e) {f : AccEntry → AccEntry} (hf : ∀ e, (f e).id = e.id) :
    entryById (modEntry id f s) id = some (f e) := by
  rw [entryById_mapped (g := fun e => if e.id = id then f e else e) rfl (fun e => by split; exacts [hf e, rfl]), h, Option.map_some,
    if_pos (entryById_id h)]

/-- The entry of number `id` has record `r`. -/
def HasRec (s : State) (id : Nat) (r : StreamRec) : Prop := ∃ e, entryById s id = some e ∧ r ∈ e.recs

theorem HasRec.of_table {s t : State} {id : Nat} {r : StreamRec} (h : HasRec s id r) (k : t.mrt.table = s.mrt.table) : HasRec t id r := by
  obtain ⟨e, he, hr⟩ := h
  exact ⟨e, (entryById_of k id).trans he, hr⟩

theorem HasRec.modRec {s : State} {id : Nat} {r : StreamRec} (h : HasRec s id r) (k : Nat) (f : StreamRec → StreamRec) :
    HasRec (modRec id k f s) id (if r.stream = k then f r else r) := by
  obtain ⟨e, he, hr⟩ := h
  exact ⟨_, entryById_modEntry he (f := fun e => { e with recs := e.recs.map (fun r => if r.stream = k then f r else r) }) fun _ => rfl,
    List.mem_map.2 ⟨r, hr, rfl⟩⟩

/-! ### A fragment is complete (R217, R219) -/

/-- A record that is complete with a body and cells. -/
def StreamRec.completed (body : List DWord) (use : CellUse) (r : StreamRec) : StreamRec := { r with phase := .complete, body := body, cells := use }

theorem fragComplete_completes {s : State} (hs : TablesRise s) {e : AccEntry} {r : StreamRec} (h : HasRec s e.id r) (body : List DWord) (use : CellUse) :
    HasRec (fragComplete e r body use s) e.id (r.completed body use) ∧ Tells s (fragComplete e r body use s) ∧ (fragComplete e r body use s).btr = s.btr := by
  have d1 : Does [.mem] s (cellsWrite use (body.length + 3) s) := cellsWrite_does ..
  have h1 := h.of_table (t := cellsWrite use (body.length + 3) s) (by rw [d1.only.same .mrt (by decide)])
  have h2 := h1.modRec r.stream (.completed body use)
  rw [if_pos rfl] at h2
  let v := modRec e.id r.stream (.completed body use) (cellsWrite use (body.length + 3) s)
  have d2 : Does [.mem, .mrt] s v := .step (modRec_does ..) rfl (d1.widen rfl)
  let w := countWrap .mrtUnitCnt r.unit 31 0 v
  have d3 : Does [.regs] v w := countWrap_does ..
  let late : Bool := match e.gather r.unit with | some g => fragLatePath e g r.mask | none => false
  have he : fragComplete e r body use s = throttle (if late then count .mrtUnitLatepath r.unit 31 0 1 w else w) := rfl
  have d4 : Does [.regs] w (if late then count .mrtUnitLatepath r.unit 31 0 1 w else w) := by
    split
    · exact count_does ..
    · exact .refl _ _
  have ht := throttled_throttle (d4.tables (d3.tables (d2.tables hs)))
  have d5 : Does [.regs, .mem, .mrt] s (if late then count .mrtUnitLatepath r.unit 31 0 1 w else w) := .step d4 rfl (.step d3 rfl (d2.widen rfl))
  rw [he]
  refine ⟨h2.of_table ?_, (Tells.of_flt (d5.only.same .flt (by decide))).trans ht.tells, (ht.does.only.same .btr (by decide)).trans (d5.only.same .btr (by decide))⟩
  rw [ht.table, d4.only.same .mrt (by decide), d3.only.same .mrt (by decide)]

theorem freeCells_flt {s t : State} (h1 : t.mrt = s.mrt) (h2 : t.streams = s.streams) (h3 : t.pwr = s.pwr) : freeCells t = freeCells s ∧
    nextCells t = nextCells s := by
  have hd : powerDom t = powerDom s := funext fun n => powerDom_of h3 n
  have ha : allCells t = allCells s := by unfold allCells; rw [h1, h2]
  constructor
  · unfold freeCells bankFree bankUsed domOn
    rw [ha, hd]
  · funext n
    unfold nextCells domOn
    rw [ha, hd]

/-- R219, R220: a fragment that is all gathered takes what it lacks and is complete, or takes what is free and waits. -/
theorem fragTry_tries {s : State} (hs : TablesRise s) {e : AccEntry} {r : StreamRec} (h : HasRec s e.id r) (g : Gather) (since : Nat)
    {f : List DWord × Option Nat} (hf : f = formFragment s e g r.mask r.maxCells) {n : Nat} (hn : n = cellsOf (f.1.length + 3)) :
    (n ≤ r.cells.length + freeCells s →
      HasRec (fragTry e r g since s) e.id (r.completed f.1 (r.cells.take n ++ nextCells s (n - r.cells.length))) ∧
        ∀ b : Nat, f.2 = some b →
          Reported Src.mrtTrunc r.stream (w32 r.stream :: cap64 (e.number % 2 ^ 48) ++ [w32 1] ++ cap64 b) s (fragTry e r g since s)) ∧
    (r.cells.length + freeCells s < n →
      HasRec (fragTry e r g since s) e.id { r with phase := .waiting since, cells := r.cells ++ nextCells s (freeCells s) }) := by
  subst hf hn
  generalize hf : formFragment s e g r.mask r.maxCells = f
  have he : fragTry e r g since s = match takeCells s r.cells (cellsOf (f.1.length + 3)) with
    | some use => fragComplete e r f.1 use (match f.2 with | some b => truncReport e r 1 b (count .mrtUnitTrunc r.unit 15 0 1 s) | none => s)
    | none => throttle (modRec e.id r.stream (fun x => { x with phase := .waiting since, cells := growCells s x.cells (cellsOf (f.1.length + 3)) }) s) := by
    rw [← hf]; rfl
  constructor
  · intro hle
    rw [he, takeCells, if_pos hle]
    dsimp only
    generalize hv : (match f.2 with | some b => truncReport e r 1 b (count .mrtUnitTrunc r.unit 15 0 1 s) | none => s) = v
    have dv : Does [.regs, .flt, .port0, .port1] s v := by
      rw [← hv]
      split
      · exact .step (truncReport_does ..) rfl ((count_does ..).widen rfl)
      · exact .refl _ _
    obtain ⟨k1, k2, -⟩ := fragComplete_completes (dv.tables hs) (h.of_table (by rw [dv.only.same .mrt (by decide)])) f.1
      (r.cells.take (cellsOf (f.1.length + 3)) ++ nextCells s (cellsOf (f.1.length + 3) - r.cells.length))
    refine ⟨k1, fun b hb => Reported.tells ?_ k2⟩
    rw [← hv, hb]
    exact reported_raise (event_btr ..)
  · intro hlt
    rw [he, takeCells, if_neg (by omega)]
    dsimp only
    have h1 := h.modRec r.stream fun x => { x with phase := .waiting since, cells := growCells s x.cells (cellsOf (f.1.length + 3)) }
    rw [if_pos rfl] at h1
    have h2 := h1.of_table (throttled_throttle ((modRec_does ..).tables hs)).table
    have hg : growCells s r.cells (cellsOf (f.1.length + 3)) = r.cells ++ nextCells s (freeCells s) := by
      rw [growCells, Nat.min_eq_right (by omega)]
    rwa [hg] at h2

/-! ### The ring reader's cells (R219, R220) -/

/-- One record in build takes cells for what has been gathered. -/
def growRec (id : Nat) (e : AccEntry) (g : Gather) (r : StreamRec) (t : State) : State :=
  let n := min r.maxCells ((8 * gatheredWords e g r.mask + 255) / 256)
  modRec id r.stream (fun x => x.holding (growCells t x.cells n) n (nowCourse t)) t

theorem growRec_does (id : Nat) (e : AccEntry) (g : Gather) (r : StreamRec) (t : State) : Does [.mrt] t (growRec id e g r t) := modRec_does ..

theorem growRecs_does (id : Nat) (e : AccEntry) (g : Gather) (l : List StreamRec) (s : State) : Does [.mrt] s (forL l (growRec id e g) s) :=
  Does.forL (fun _ _ h => .step (growRec_does ..) rfl h) (.refl _ _)

/-- A record of another stream keeps its place. -/
theorem growRecs_others {s : State} {id : Nat} {x : StreamRec} (h : HasRec s id x) (e : AccEntry) (g : Gather) {l : List StreamRec}
    (hl : ∀ y ∈ l, y.stream ≠ x.stream) : HasRec (forL l (growRec id e g) s) id x := by
  induction l generalizing s with
  | nil => exact h
  | cons y l ih =>
    refine ih (s := growRec id e g y s) ?_ fun z hz => hl z (.tail _ hz)
    have := h.modRec y.stream fun x => x.holding (growCells s x.cells (min y.maxCells ((8 * gatheredWords e g y.mask + 255) / 256)))
      (min y.maxCells ((8 * gatheredWords e g y.mask + 255) / 256)) (nowCourse s)
    rwa [if_neg (hl y (.head _)).symm] at this

theorem growRecs_own {s : State} {id : Nat} {r : StreamRec} (h : HasRec s id r) (e : AccEntry) (g : Gather) {l : List StreamRec} (hr : r ∈ l)
    (hl : (l.map (·.stream)).Nodup) : ∃ t, Does [.mrt] s t ∧ (l = [r] → t = s) ∧
      HasRec (forL l (growRec id e g) s) id (r.holding (growCells t r.cells (min r.maxCells ((8 * gatheredWords e g r.mask + 255) / 256)))
        (min r.maxCells ((8 * gatheredWords e g r.mask + 255) / 256)) (nowCourse t)) := by
  obtain ⟨a, b, rfl⟩ := List.append_of_mem hr
  rw [List.map_append, List.map_cons] at hl
  obtain ⟨-, h2, h3⟩ := List.nodup_append'.1 hl
  obtain ⟨h4, -⟩ := List.nodup_cons.1 h2
  have ha : ∀ y ∈ a, y.stream ≠ r.stream := fun y hy he => h3 (List.mem_map_of_mem hy) (he ▸ .head _)
  have hb : ∀ y ∈ b, y.stream ≠ r.stream := fun y hy he => h4 (List.mem_map.2 ⟨y, hy, he⟩)
  have h1 := growRecs_others h e g ha
  have h5 := h1.modRec r.stream fun x => x.holding (growCells (forL a (growRec id e g) s) x.cells (min r.maxCells ((8 * gatheredWords e g r.mask + 255) / 256)))
    (min r.maxCells ((8 * gatheredWords e g r.mask + 255) / 256)) (nowCourse (forL a (growRec id e g) s))
  rw [if_pos rfl] at h5
  refine ⟨forL a (growRec id e g) s, growRecs_does .., fun hx => ?_, ?_⟩
  · cases a with
    | nil => rfl
    | cons y a => simp at hx
  · have happ : forL (a ++ r :: b) (growRec id e g) s = forL b (growRec id e g) (growRec id e g r (forL a (growRec id e g) s)) := by
      unfold forL
      rw [List.foldl_append]
      rfl
    rw [happ]
    exact growRecs_others h5 e g hb

/-- Growing leaves a record of a stream on that stream. -/
theorem growRecs_stream {s : State} {id k : Nat} (h : ∃ y, HasRec s id y ∧ y.stream = k) (e : AccEntry) (g : Gather) (l : List StreamRec) :
    ∃ y, HasRec (forL l (growRec id e g) s) id y ∧ y.stream = k := by
  induction l generalizing s with
  | nil => exact h
  | cons x l ih =>
    refine ih (s := growRec id e g x s) ?_
    obtain ⟨y, hy, hk⟩ := h
    refine ⟨_, hy.modRec x.stream _, ?_⟩
    split
    · exact hk
    · exact hk

theorem buildGrows_eq {s : State} {id u : Nat} {e : AccEntry} {g : Gather} (he : entryById s id = some e) (hg : e.gather u = some g) :
    buildGrows id u s = throttle (forL (e.recs.filter (fun r => r.unit == u && r.inBuild)) (growRec id e g) s) := by
  unfold buildGrows
  rw [he]
  dsimp only
  rw [hg]
  rfl

theorem mem_find_rec {e : AccEntry} {k : Nat} {p : StreamRec → Bool} {r : StreamRec} (h : e.recs.find? (fun x => x.stream == k && p x) = some r) :
    r ∈ e.recs ∧ r.stream = k ∧ p r = true := by
  have := List.find?_some (p := fun x : StreamRec => x.stream == k && p x) h
  simp only [Bool.and_eq_true, beq_iff_eq] at this
  exact ⟨List.mem_of_find?_eq_some h, this⟩

theorem mem_onStream {e : AccEntry} {k : Nat} {r : StreamRec} (h : e.onStream k = some r) : r ∈ e.recs ∧ r.stream = k :=
  ⟨List.mem_of_find?_eq_some h, eq_of_beq (List.find?_some (p := fun x : StreamRec => x.stream == k) h)⟩

theorem waiting_of {r : StreamRec} (h : r.isWaiting = true) : ∃ c, r.waitsSince = some c ∧ r.phase = .waiting c ∧ r.inBuild = true := by
  unfold StreamRec.isWaiting at h
  unfold StreamRec.waitsSince StreamRec.inBuild at *
  cases hp : r.phase <;> rw [hp] at h
  case waiting c => exact ⟨c, rfl, rfl, rfl⟩
  all_goals cases h

/-- R220: a waiting record takes cells for what has been gathered, and is in build again once they suffice. -/
theorem buildGrows_waiting {s : State} (hs : TablesRise s) {id : Nat} {e : AccEntry} {r : StreamRec} {g : Gather} (he : entryById s id = some e) (hr : r ∈ e.recs)
    (hg : e.gather r.unit = some g) (hw : r.isWaiting = true) (hnd : (e.recs.map (·.stream)).Nodup) {need : Nat}
    (hn : need = min r.maxCells ((8 * gatheredWords e g r.mask + 255) / 256)) :
    ∃ use, r.cells <+: use ∧ HasRec (buildGrows id r.unit s) id { r with cells := use, phase := if need ≤ use.length then .building else r.phase } ∧
      ((∀ y ∈ e.recs, y.unit = r.unit → y.inBuild = true → y = r) → use = growCells s r.cells need) := by
  obtain ⟨c, hc, hp, hb⟩ := waiting_of hw
  let l := e.recs.filter (fun x => x.unit == r.unit && x.inBuild)
  have hl : r ∈ l := List.mem_filter.2 ⟨hr, by rw [hb, beq_self_eq_true]; rfl⟩
  have hln : (l.map (·.stream)).Nodup := hnd.sublist (List.filter_sublist.map _)
  obtain ⟨t, dt, h1, h2⟩ := growRecs_own (s := s) ⟨e, he, hr⟩ e g hl hln
  rw [← hn] at h2
  refine ⟨growCells t r.cells need, List.prefix_append .., ?_, fun ho => ?_⟩
  · rw [buildGrows_eq he hg]
    have h3 := h2.of_table (throttled_throttle ((growRecs_does ..).tables hs)).table
    unfold StreamRec.holding at h3
    rwa [hc, Option.getD_some, ← hp] at h3
  · rw [h1]
    have all : ∀ y ∈ l, y = r := fun y hy => by
      obtain ⟨y1, y2⟩ := List.mem_filter.1 hy
      simp only [Bool.and_eq_true, beq_iff_eq] at y2
      exact ho y y1 y2.1 y2.2
    match hx : l, hl, hln, all with
    | [y], _, _, all => rw [all y (.head _)]
    | y :: z :: q, _, hln, all =>
      rw [all y (.head _), all z (.tail _ (.head _))] at hln
      simp at hln

/-! ### Cells with errors (R221) -/

theorem HasRec.withdraw {s : State} {id : Nat} {r : StreamRec} (h : HasRec s id r) : HasRec (withdraw s) id r := by
  obtain ⟨e, he, hr⟩ := h
  refine ⟨_, (entryById_mapped (s := s) (t := Machine.withdraw s) (g := fun e => { e with gathers := e.gathers.map (fun g =>
    if !e.recs.any (fun r => r.unit == g.unit && r.inBuild) then { g with extracted := true, toSubmit := [] } else g) }) rfl (fun _ => rfl) id).trans
    (congrArg _ he), hr⟩

theorem at_cells : (∀ u : Fin 4, regExists .mrtUnitCellerr u 0 = true ∧ regExists .mrtUnitEvt u 0 = true) ∧ regExists .memCntUncorr 3 0 = true ∧
    regExists .mrtPoolStat 0 0 = true ∧ regExists .mrtAccEvt 0 0 = true := by decide +kernel

/-- R221: the count and the report of a cell that could not be read. -/
theorem cellError_tells {s : State} (hs : TablesRise s) (u : Fin 4) (c k : Nat) (released : Bool) :
    Evented .mrtUnitEvt u 19 s (cellError u c k released s) ∧ RegsKept [(.mrtUnitCellerr, u, 0), (.mrtUnitEvt, u, 0)] s (cellError u c k released s) ∧
      Reported Src.mrtCellUncorr u [w32 u, w32 c, w32 k, w32 released.toNat] s (cellError u c k released s) := by
  obtain ⟨e1, e2⟩ := at_cells.1 u
  have hc : Rises (count .mrtUnitCellerr u 31 0 1 s).regs := rises_count hs.regs ..
  refine ⟨(evented_of (evented_event hc ..) (cell_setCell_other hs.regs _ (regOff_ne e2 e1 nofun))).keep (raise_regs ..), ?_, reported_raise (event_btr ..)⟩
  exact RegsKept.keep (RegsKept.ev (RegsKept.set (RegsKept.refl _ _) hs.regs (.head _) _) hc (.tail _ (.head _)) 19) (raise_regs ..)

/-- R221: a record of the table with a cell that could not be read. -/
theorem cellUncorrRow_table {s : State} (hs : TablesRise s) (u : Fin 4) {c k id : Nat} {e : AccEntry} {r : StreamRec} (he : entryById s id = some e)
    (hr : e.onStream k = some r) (ho : r.isOpen = true) (hc : c ∈ r.cells) :
    HasRec (cellUncorrRow u c k id false s) id (r.empty (.gap 9)) ∧
      cell (cellUncorrRow u c k id false s) .memCntUncorr 3 = incSat (cell s .memCntUncorr 3) 31 0 1 ∧
      Reported Src.mrtCellUncorr u [w32 u, w32 c, w32 k, 0] s (cellUncorrRow u c k id false s) := by
  let v := count .memCntUncorr 3 31 0 1 s
  have tv : TablesRise v := (count_does ..).tables hs
  have hh : (r.isOpen && r.cells.contains c) = true := by rw [ho, List.contains_eq_mem, decide_eq_true hc]; rfl
  have hf : (entryById s id).bind (fun e => e.onStream k) = some r := by rw [he]; exact hr
  have hf' : (entryById v id).bind (fun e => e.onStream k) = some r := hf
  have hrow : cellUncorrRow u c k id false s = cellGap u c k id v := by
    unfold cellUncorrRow
    dsimp only
    rw [hf, if_neg Bool.false_ne_true, if_pos hh]
    unfold cellUncorr
    rw [if_neg Bool.false_ne_true, hf']
    exact if_pos hh
  obtain ⟨k1, k2⟩ := mem_onStream hr
  have dc : Does [.regs, .flt, .port0, .port1] v (cellError u c k false v) := cellError_does ..
  have h1 : HasRec (cellError u c k false v) id r := HasRec.of_table (s := s) ⟨e, he, k1⟩ (by rw [dc.only.same .mrt (by decide)]; rfl)
  have h2 := (h1.modRec k fun x => x.empty (.gap 9))
  rw [if_pos k2] at h2
  let w := Machine.withdraw (modRec id k (fun x => x.empty (.gap 9)) (cellError u c k false v))
  have dw : Does [.qry, .mrt] (cellError u c k false v) w := .step (withdraw_does ..) rfl ((modRec_does ..).widen rfl)
  have ht := throttled_throttle (dw.tables (dc.tables tv))
  have hk : ∀ x ∈ throttleRegs, regOff .memCntUncorr 3 0 ≠ regOff x.1 x.2.1 x.2.2 := by decide +kernel
  obtain ⟨-, c2, c3⟩ := cellError_tells tv u c k false
  rw [hrow]
  refine ⟨h2.withdraw.of_table ht.table, ?_, ?_⟩
  · refine (ht.regs _ _ _ hk).trans ((cell_regs (dw.only.same .regs (by decide)) ..).trans ((c2 _ _ _ fun x hx => ?_).trans (cell_count hs.regs ..)))
    simp only [List.mem_cons, List.not_mem_nil, or_false] at hx
    rcases hx with rfl | rfl
    · exact regOff_ne at_cells.2.1 (at_cells.1 u).1 nofun
    · exact regOff_ne at_cells.2.1 (at_cells.1 u).2 nofun
  · exact ((c3.tells (Tells.of_flt (dw.only.same .flt (by decide)))).tells ht.tells).from rfl

theorem any_of_mem {α : Type} {p : α → Bool} {l : List α} {x : α} (h : x ∈ l) (hp : p x = true) : l.any p = true := List.any_eq_true.2 ⟨x, h, hp⟩

/-- The records of a stream that a test picks are spoilt. -/
def Stream.spoils (p : OutRec → Bool) (y : Stream) : Stream :=
  { y with out := y.out.map (fun q => if p q then spoil q else q), block := y.block.map (fun b => if p b.out then { b with out := spoil b.out } else b) }

/-- R221: a released record with a cell that could not be read. -/
theorem cellUncorrRow_released {s : State} (hs : TablesRise s) (u : Fin 4) {c k : Nat} {o : OutRec} (h : o ∈ (stream s k).out) (hc : c ∈ o.cells) :
    (∀ q ∈ (stream (cellUncorrRow u c k o.seq true s) k).out, q.seq = o.seq → c ∈ q.cells → q.badCrc = true) ∧
      { o with badCrc := true } ∈ (stream (cellUncorrRow u c k o.seq true s) k).out ∧
      Reported Src.mrtCellUncorr u [w32 u, w32 c, w32 k, 1] s (cellUncorrRow u c k o.seq true s) ∧
      Evented .mrtUnitEvt u 19 s (cellUncorrRow u c k o.seq true s) := by
  let v := count .memCntUncorr 3 31 0 1 s
  have tv : TablesRise v := (count_does ..).tables hs
  generalize hp : (fun (q : OutRec) => q.seq == o.seq && q.cells.contains c) = p
  have hpo : p o = true := by rw [← hp]; simp [hc]
  have hrow : cellUncorrRow u c k o.seq true s = cellError u c k true (modStream k (.spoils p) v) := by
    unfold cellUncorrRow
    rw [if_pos rfl, hp]
    dsimp only
    rw [if_pos (any_of_mem (List.mem_append_left _ h) hpo)]
    unfold cellUncorr
    rw [if_pos rfl, hp]
    dsimp only
    rw [if_pos (by rw [any_of_mem (show o ∈ (stream (count .memCntUncorr 3 31 0 1 s) k).out from h) hpo]; rfl)]
    rfl
  have tw : TablesRise (modStream k (.spoils p) v) := (modStream_does ..).tables tv
  obtain ⟨c1, -, c3⟩ := cellError_tells tw u c k true
  have hst : (stream (cellError u c k true (modStream k (.spoils p) v)) k).out = (stream s k).out.map (fun q => if p q then spoil q else q) := by
    rw [stream_of ((cellError_does ..).only.same .streams (by decide)), stream_modStream tv.streams]
    rfl
  rw [hrow, hst]
  refine ⟨fun q hq hs' hc' => ?_, List.mem_map.2 ⟨o, h, by rw [if_pos hpo]; rfl⟩, c3.from rfl, evented_of c1 ?_⟩
  · obtain ⟨x, -, rfl⟩ := List.mem_map.1 hq
    split at hs'
    next hx => rw [if_pos hx]; rfl
    next hx =>
      rw [if_neg hx] at hc'
      exact absurd (by rw [← hp]; simp [hs', hc']) hx
  · exact cell_setCell_other hs.regs _ (regOff_ne (at_cells.1 u).2 at_cells.2.1 nofun)

/-- R219, R287: a fragment that is cut carries every condition of its partners. -/
theorem formFragment_cut {s : State} {e : AccEntry} {g : Gather} {mask : BitVec 64} {limit b : Nat} (h : (formFragment s e g mask limit).2 = some b) :
    (formFragment s e g mask limit).1 =
      cutBody s e g mask ((maskPartners mask).map (fun p => (p, partnerConds s e g p))) (openFrom s e g).isSome (fragRecords e g mask) b := by
  unfold formFragment at h ⊢
  dsimp only at h ⊢
  split at h
  · cases h
  next hc =>
    rw [if_neg hc]
    rw [← Option.some.inj h]

theorem fragmentComplete_eq {s : State} {k id : Nat} {e : AccEntry} {r : StreamRec} {g : Gather} (he : entryById s id = some e)
    (hr : e.recs.find? (fun x => x.stream == k && x.phase == .building) = some r) (hg : e.gather r.unit = some g) :
    fragmentComplete k id s = if gathered s e g then fragTry e r g (nowCourse s) s else s := by
  unfold fragmentComplete
  rw [he]
  dsimp only
  rw [hr]
  dsimp only
  rw [hg]

theorem cellWait_eq {s : State} {k id : Nat} {e : AccEntry} {r : StreamRec} {g : Gather} (he : entryById s id = some e)
    (hr : e.recs.find? (fun x => x.stream == k && x.isWaiting) = some r) (hg : e.gather r.unit = some g) :
    cellWait k id s = if gathered s e g then fragTry e r g ((r.waitsSince).getD 0) s else if freeCells s = 0 then s else buildGrows id r.unit s := by
  unfold cellWait
  rw [he]
  dsimp only
  rw [hr]
  dsimp only
  rw [hg]

/-- A list head that has waited is a record of its entry, on that stream. -/
theorem waitedHead_onStream {s : State} {k : Nat} {e : AccEntry} {r : StreamRec} (h : waitedHead s k = some (e, r)) : e.onStream k = some r := by
  unfold waitedHead at h
  obtain ⟨b, -, hb⟩ := List.exists_of_findSome?_eq_some h
  split at hb
  next e' _ =>
    obtain ⟨r', h1, h2⟩ := Option.bind_eq_some_iff.1 hb
    split at h2
    · split at h2
      · cases h2; exact h1
      · cases h2
    · cases h2
  · cases hb

/-- What a fragment that is ended tells, where it is cut. -/
def endTold (e : AccEntry) (r : StreamRec) (cut : Option Nat) (s : State) : State :=
  match cut with
  | some b => truncReport e r 2 b (count .mrtUnitTrunc r.unit 31 16 1 s)
  | none => s

/-- R220: a list head that has waited is ended. -/
theorem headWaitExpiry_ends {s : State} (hs : TablesRise s) {k : Nat} {e : AccEntry} {r : StreamRec} {g : Gather} (hw : waitedHead s k = some (e, r))
    (he : HasRec s e.id r) (hg : e.gather r.unit = some g) {f : List DWord × Option Nat}
    (hf : f = formFragment s e g r.mask (min r.maxCells (r.cells.length + freeCells s))) {n : Nat} (hn : n = cellsOf (f.1.length + 3)) :
    HasRec (headWaitExpiry k s) e.id (r.completed f.1 (r.cells.take n ++ nextCells s (min (n - r.cells.length) (freeCells s)))) ∧
      ∀ b : Nat, f.2 = some b →
        Reported Src.mrtTrunc r.stream (w32 r.stream :: cap64 (e.number % 2 ^ 48) ++ [w32 2] ++ cap64 b) s (headWaitExpiry k s) := by
  subst hf hn
  generalize hf : formFragment s e g r.mask (min r.maxCells (r.cells.length + freeCells s)) = f
  let use := r.cells.take (cellsOf (f.1.length + 3)) ++ nextCells s (min (cellsOf (f.1.length + 3) - r.cells.length) (freeCells s))
  have heq : headWaitExpiry k s = endTold e r f.2 (fragComplete e r f.1 use s) := by
    unfold headWaitExpiry
    rw [hw]
    dsimp only
    rw [hg]
    dsimp only
    rw [hf]
    rfl
  obtain ⟨k1, -, k3⟩ := fragComplete_completes hs he f.1 use
  rw [heq]
  cases hb : f.2 with
  | none => exact ⟨k1, nofun⟩
  | some b =>
    have d : Does [.regs, .flt, .port0, .port1] (fragComplete e r f.1 use s)
        (truncReport e r 2 b (count .mrtUnitTrunc r.unit 31 16 1 (fragComplete e r f.1 use s))) := .step (truncReport_does ..) rfl ((count_does ..).widen rfl)
    refine ⟨k1.of_table (congrArg Mortar.table (d.only.same .mrt (by decide))), fun b' hb' => ?_⟩
    cases hb'
    exact reported_raise ((event_btr ..).trans k3)

/-- Settles O47. -/
theorem fragmentsTakeCells : Obligations.FragmentsTakeCells := by
  unfold Obligations.FragmentsTakeCells
  intro k id s e r hu hs he
  have hid := entryById_id he
  refine ⟨fun g f n hr hg hf hn => ⟨fun hG => ?_, fun hG => ?_⟩, fun g f n hr hg hf hn => ⟨fun hG h0 => ?_, fun hG => ?_⟩, fun g limit b hb => formFragment_cut hb,
    fun hw => ?_, fun g f n hw _ hg hf hn => ?_, fun u c => ⟨fun hr ho hc => ?_, fun o ho hc => ⟨_, upNext_up hu, cellUncorrRow_released hs u ho hc⟩⟩⟩
  · exact (upNext_up hu).trans (congrArg _ ((fragmentComplete_eq he hr hg).trans (if_neg (by rw [hG]; nofun))))
  · obtain ⟨m1, m2, -⟩ := mem_find_rec hr
    obtain ⟨k1, k2⟩ := fragTry_tries hs (e := e) (r := r) ⟨e, hid ▸ he, m1⟩ g (nowCourse s) hf hn
    have heq : fragmentComplete k id s = fragTry e r g (nowCourse s) s := (fragmentComplete_eq he hr hg).trans (if_pos hG)
    rw [hid] at k1 k2
    by_cases hle : n ≤ r.cells.length + freeCells s
    · obtain ⟨⟨e', h1, h2⟩, h3⟩ := k1 hle
      exact ⟨_, e', _, (upNext_up hu).trans (congrArg _ heq), h1, h2, m2, fun _ => ⟨rfl, rfl, rfl, m2 ▸ h3⟩, fun h => absurd hle (by omega)⟩
    · obtain ⟨e', h1, h2⟩ := k2 (by omega)
      exact ⟨_, e', _, (upNext_up hu).trans (congrArg _ heq), h1, h2, m2, fun h => absurd h hle, fun _ => ⟨rfl, rfl⟩⟩
  · exact (upNext_up hu).trans (congrArg _ ((cellWait_eq he hr hg).trans ((if_neg (by rw [hG]; nofun)).trans (if_pos h0))))
  · obtain ⟨m1, m2, m3⟩ := mem_find_rec hr
    obtain ⟨c, hc, hp, -⟩ := waiting_of m3
    have heq := cellWait_eq he hr hg
    cases hgt : gathered s e g with
    | true =>
      rw [hgt, if_pos rfl, hc, Option.getD_some] at heq
      obtain ⟨k1, k2⟩ := fragTry_tries hs (e := e) (r := r) ⟨e, hid ▸ he, m1⟩ g c hf hn
      rw [hid] at k1 k2
      by_cases hle : n ≤ r.cells.length + freeCells s
      · obtain ⟨⟨e', h1, h2⟩, -⟩ := k1 hle
        exact ⟨_, e', _, (upNext_up hu).trans (congrArg _ heq), h1, h2, m2, fun _ h => (nomatch h), fun _ _ => ⟨rfl, rfl, rfl⟩, fun _ h => absurd hle (by omega)⟩
      · obtain ⟨e', h1, h2⟩ := k2 (by omega)
        exact ⟨_, e', _, (upNext_up hu).trans (congrArg _ heq), h1, h2, m2, fun _ h => (nomatch h), fun _ h => absurd h hle, fun _ _ => ⟨hp.symm, rfl⟩⟩
    | false =>
      have h0 : freeCells s ≠ 0 := Nat.pos_iff_ne_zero.1 (hG.resolve_left (by rw [hgt]; nofun))
      rw [hgt, if_neg nofun, if_neg h0] at heq
      by_cases hnd : (e.recs.map (·.stream)).Nodup
      · obtain ⟨use, u1, ⟨e', h1, h2⟩, u3⟩ := buildGrows_waiting hs he m1 hg m3 hnd rfl
        refine ⟨_, e', _, (upNext_up hu).trans (congrArg _ heq), h1, h2, m2, fun need _ _ hneed => ?_, fun h => (nomatch h), fun h => (nomatch h)⟩
        subst hneed
        exact ⟨u1, rfl, u3⟩
      · have : ∃ y, HasRec (buildGrows id r.unit s) id y ∧ y.stream = k := by
          rw [buildGrows_eq he hg]
          obtain ⟨y, h1, h2⟩ := growRecs_stream ⟨r, ⟨e, he, m1⟩, m2⟩ e g _
          exact ⟨y, h1.of_table (throttled_throttle ((growRecs_does ..).tables hs)).table, h2⟩
        obtain ⟨y, ⟨e', h1, h2⟩, h3⟩ := this
        exact ⟨_, e', y, (upNext_up hu).trans (congrArg _ heq), h1, h2, h3, fun _ _ h => absurd h hnd, fun h => (nomatch h), fun h => (nomatch h)⟩
  · refine (upNext_up hu).trans (congrArg _ ?_)
    unfold headWaitExpiry
    rw [hw]
  · obtain ⟨m1, m2⟩ := mem_onStream (waitedHead_onStream hw)
    obtain ⟨⟨e', h1, h2⟩, h3⟩ := headWaitExpiry_ends hs hw ⟨e, hid ▸ he, m1⟩ hg hf hn
    rw [hid] at h1
    exact ⟨_, e', _, upNext_up hu, h1, h2, m2, rfl, rfl, rfl, h3⟩
  · obtain ⟨⟨e', h1, h2⟩, h3, h4⟩ := cellUncorrRow_table hs u he hr ho hc
    exact ⟨_, e', _, upNext_up hu, h1, h2, (mem_onStream hr).2, rfl, rfl, h3, h4⟩

end Sys2Proof.Machine
end

section
/-!
SUPPORT. Accepts and recalls that arrive (R203 to R207): what the checks make of a message, what its entry is, and what of the mortar it leaves.
-/
namespace Sys2Proof.Machine

theorem at_mrtCnt : ∀ r ∈ [Reg.mrtCntAccept, .mrtCntRecall, .mrtCntGap, .mrtCntDisc, .mrtCntRefused, .mrtCntLost, .mrtCntIgnored, .mrtPoolStat, .mrtAccEvt],
    regExists r 0 0 = true := by decide +kernel

/-- A step of the decoder: what was under way still is, and the numbers last found missing stay. -/
structure DecoderKeeps (s t : State) : Prop where
  tells : Tells s t
  missing : t.mrt.lastMissing = s.mrt.lastMissing

theorem DecoderKeeps.trans {s t u : State} (h : DecoderKeeps s t) (k : DecoderKeeps t u) : DecoderKeeps s u :=
  ⟨h.tells.trans k.tells, k.missing.trans h.missing⟩

theorem DecoderKeeps.refl (s : State) : DecoderKeeps s s := ⟨.refl _, rfl⟩

theorem DecoderKeeps.of_flt {s t : State} (h : t.flt = s.flt) (k : t.mrt.lastMissing = s.mrt.lastMissing) : DecoderKeeps s t := ⟨.of_flt h, k⟩

theorem decoderKeeps_event (r : Reg) (i b : Nat) (s : State) : DecoderKeeps s (event r i b s) :=
  .of_flt ((event_does ..).only.same .flt (by decide)) (by rw [(event_does ..).only.same .mrt (by decide)])

theorem decoderKeeps_raise (src idx : Nat) (cap : List Word) (s : State) : DecoderKeeps s (raise src idx cap s) := ⟨tells_raise .., rfl⟩

theorem putEntry_mrt (e : AccEntry) (s : State) : (putEntry e s).mrt =
    { s.mrt with nextId := s.mrt.nextId + 1, table := if e.recs.isEmpty then s.mrt.table else s.mrt.table ++ [e] } := by
  have h : (if e.recs.isEmpty then s else eccWrite 6 0 (entrySlot e.id) s).mrt = s.mrt := by
    split
    · rfl
    · exact (eccWrite_does ..).only.same .mrt (by decide)
  unfold putEntry State.modMrt
  dsimp only
  rw [h]

theorem decoderKeeps_putEntry (e : AccEntry) (s : State) : DecoderKeeps s (putEntry e s) :=
  .of_flt ((putEntry_does ..).only.same .flt (by decide)) (by rw [putEntry_mrt])

/-- A refusal run opens. -/
def Mortar.refuses (numbers : Option (Nat × Nat)) (n : Nat) (now : Stamp) (y : Mortar) : Mortar := { y with refusal := some ⟨numbers, n, now⟩ }

theorem refuse_opens {ns : Option (Nat × Nat)} {b : Bool} {n : Nat} {s : State} (h : s.mrt.refusal = none) :
    refuse ns b n s =
      raise Src.mrtAccTableFull 0 (cap64 n ++ [w32 s.mrt.asserted.toNat] ++ capCourse (nowCourse (count .mrtCntRefused 0 31 0 1 s))) (event .mrtAccEvt 0 20
        ((count .mrtCntRefused 0 31 0 1 s).modMrt (.refuses ns b.toNat (nowStamp (count .mrtCntRefused 0 31 0 1 s))))) := by
  have h' : (count .mrtCntRefused 0 31 0 1 s).mrt.refusal = none := h
  unfold refuse
  dsimp only
  rw [h']
  rfl

theorem decoderKeeps_refuse (ns : Option (Nat × Nat)) (b : Bool) (n : Nat) (s : State) : DecoderKeeps s (refuse ns b n s) := by
  cases h : s.mrt.refusal with
  | some r =>
    have h' : (count .mrtCntRefused 0 31 0 1 s).mrt.refusal = some r := h
    unfold refuse
    dsimp only
    rw [h']
    exact .of_flt rfl rfl
  | none =>
    rw [refuse_opens h]
    have h0 : DecoderKeeps s ((count .mrtCntRefused 0 31 0 1 s).modMrt (.refuses ns b.toNat (nowStamp (count .mrtCntRefused 0 31 0 1 s)))) := .of_flt rfl rfl
    exact h0.trans ((decoderKeeps_event ..).trans (decoderKeeps_raise ..))

theorem decoderKeeps_gapReport (m : AccMsg) (reason : Nat) (s : State) : DecoderKeeps s (gapReport m reason s) := by
  have h0 : DecoderKeeps s (count .mrtCntGap 0 31 0 1 s) := .of_flt rfl rfl
  unfold gapReport
  dsimp only
  split
  · exact h0.trans ((decoderKeeps_event ..).trans (decoderKeeps_raise ..))
  · exact h0.trans ((decoderKeeps_event ..).trans (decoderKeeps_raise ..))
  · exact h0.trans ((decoderKeeps_event ..).trans (decoderKeeps_raise ..))
  · exact h0

theorem enqueueRead_mrt (r : QReq) (s : State) : (enqueueRead r s).mrt = s.mrt := (enqueueRead_does ..).only.same .mrt (by decide)

/-! ### A message with a place in the table (R204, R205) -/

/-- The mark of a message, before its entry is put: its count, or its gap reason's. -/
def messageMarked (m : AccMsg) (reason : Nat) (s : State) : State :=
  if reason ≠ 0 then gapReport m reason s else countWrap (if m.isRecall then .mrtCntRecall else .mrtCntAccept) 0 31 0 s

/-- What the decoder remembers of the last trigger. -/
def Mortar.triggered (m : AccMsg) (reason : Nat) (y : Mortar) : Mortar :=
  { y with
    lastTrigger := if !m.isRecall && (reason == 0 || reason == 2) then some m.domainBt else y.lastTrigger
    lastEntered := if reason == 0 && !m.isRecall then some m.number else y.lastEntered }

/-- What an entry asks of the quarry at once. -/
def entryAsks (m : AccMsg) (e : AccEntry) (g : Gather) (t : State) : State :=
  if m.isRecall then submitPiece e.id g.unit t
  else if e.late then enqueueRead ⟨e.id, false, g.unit, unitNeed e.recs g.unit, e.courses, [], none, false⟩ t else t

theorem enterMessage_room {m : AccMsg} {s : State} (h : tableFull s = false) {off : Int} (ho : off = (m.domainBt - activeOffset s).toInt) {reason : Nat}
    (hr : reason = gapReason s m off) :
    enterMessage m s = forL (messageEntry s m off reason).gathers (entryAsks m (messageEntry s m off reason))
      (putEntry (messageEntry s m off reason) ((messageMarked m reason s).modMrt (.triggered m reason))) := by
  subst ho hr
  unfold enterMessage
  rw [if_neg (by rw [h]; nofun)]
  rfl

theorem enterMessage_full {m : AccMsg} {s : State} (h : tableFull s = true) :
    enterMessage m s = refuse (if m.isRecall then none else some (m.number, m.number)) m.isRecall m.number s := by
  unfold enterMessage
  rw [if_pos h]

theorem messageMarked_does (m : AccMsg) (reason : Nat) (s : State) : Does [.regs, .flt, .port0, .port1] s (messageMarked m reason s) := by
  unfold messageMarked
  split
  · exact gapReport_does ..
  · exact (countWrap_does ..).widen rfl

theorem entryAsks_does (m : AccMsg) (e : AccEntry) (g : Gather) (t : State) : Does [.qry, .mrt] t (entryAsks m e g t) := by
  unfold entryAsks
  split
  · exact submitPiece_does ..
  · split
    · exact (enqueueRead_does ..).widen rfl
    · exact .refl _ _

theorem submitPiece_missing (id u : Nat) (s : State) : (submitPiece id u s).mrt.lastMissing = s.mrt.lastMissing ∧
    (submitPiece id u s).mrt.lastTrigger = s.mrt.lastTrigger := by
  unfold submitPiece
  split
  · split
    · split
      · exact ⟨rfl, rfl⟩
      · dsimp only; rw [enqueueRead_mrt]; exact ⟨rfl, rfl⟩
    · exact ⟨rfl, rfl⟩
  · exact ⟨rfl, rfl⟩

theorem entryAsks_missing (m : AccMsg) (e : AccEntry) (g : Gather) (t : State) : (entryAsks m e g t).mrt.lastMissing = t.mrt.lastMissing ∧
    (entryAsks m e g t).mrt.lastTrigger = t.mrt.lastTrigger := by
  unfold entryAsks
  split
  · exact submitPiece_missing ..
  · split
    · rw [enqueueRead_mrt]; exact ⟨rfl, rfl⟩
    · exact ⟨rfl, rfl⟩

theorem entriesAsk_does (m : AccMsg) (e : AccEntry) (l : List Gather) (t : State) : Does [.qry, .mrt] t (forL l (entryAsks m e) t) :=
  Does.forL (fun _ _ h => .step (entryAsks_does ..) rfl h) (.refl _ _)

theorem entriesAsk_missing (m : AccMsg) (e : AccEntry) (l : List Gather) (t : State) :
    (forL l (entryAsks m e) t).mrt.lastMissing = t.mrt.lastMissing ∧ (forL l (entryAsks m e) t).mrt.lastTrigger = t.mrt.lastTrigger := by
  induction l generalizing t with
  | nil => exact ⟨rfl, rfl⟩
  | cons g l ih =>
    obtain ⟨h1, h2⟩ := entryAsks_missing m e g t
    obtain ⟨k1, k2⟩ := ih (entryAsks m e g t)
    exact ⟨k1.trans h1, k2.trans h2⟩

theorem decoderKeeps_enterMessage (m : AccMsg) (s : State) : DecoderKeeps s (enterMessage m s) := by
  cases h : tableFull s with
  | true => rw [enterMessage_full h]; exact decoderKeeps_refuse ..
  | false =>
    rw [enterMessage_room h rfl rfl]
    have h1 : DecoderKeeps s (messageMarked m (gapReason s m (m.domainBt - activeOffset s).toInt) s) := by
      unfold messageMarked
      split
      · exact decoderKeeps_gapReport ..
      · exact .of_flt rfl rfl
    have h2 : DecoderKeeps s ((messageMarked m (gapReason s m (m.domainBt - activeOffset s).toInt) s).modMrt
        (.triggered m (gapReason s m (m.domainBt - activeOffset s).toInt))) := h1.trans (.of_flt rfl rfl)
    exact h2.trans ((decoderKeeps_putEntry ..).trans (.of_flt ((entriesAsk_does ..).only.same .flt (by decide)) (entriesAsk_missing ..).1))

end Sys2Proof.Machine
end

section
/-!
SUPPORT. What the decoder answers to an accept and to a recall (R203 to R207).
-/
namespace Sys2Proof.Machine

/-! ### The number expected (R204) -/

theorem expectedNumber_setExpected (n : Nat) (s : State) : expectedNumber (setExpected n s) = some (n % 2 ^ 48) := by
  have h : (setExpected n s).btr.expected.val.toNat = n % 2 ^ 48 * 2 + 1 := by
    have h1 : (setExpected n s).btr.expected.val = BitVec.ofNat 49 (n % 2 ^ 48 * 2 + 1) := Tri.val_move _ _
    rw [h1, BitVec.toNat_ofNat, Nat.mod_eq_of_lt]
    omega
  unfold expectedNumber
  dsimp only
  rw [h, if_pos (by omega)]
  exact congrArg some (by omega)

theorem expectedNumber_enterMessage (m : AccMsg) (s : State) : expectedNumber (enterMessage m s) = expectedNumber s :=
  expectedNumber_of ((enterMessage_does m s).only.same .btr (by decide))

/-! ### A refusal (R207) -/

theorem refuse_refused {s : State} (hs : TablesRise s) (ns : Option (Nat × Nat)) (b : Bool) (n : Nat) :
    (refuse ns b n s).mrt.table = s.mrt.table ∧ (refuse ns b n s).mrt.refusal.isSome = true ∧
      cell (refuse ns b n s) .mrtCntRefused 0 = incSat (cell s .mrtCntRefused) 31 0 1 := by
  cases h : s.mrt.refusal with
  | some r =>
    have h' : (count .mrtCntRefused 0 31 0 1 s).mrt.refusal = some r := h
    unfold refuse
    dsimp only
    rw [h']
    exact ⟨rfl, rfl, cell_count hs.regs ..⟩
  | none =>
    rw [refuse_opens h]
    let v := (count .mrtCntRefused 0 31 0 1 s).modMrt (.refuses ns b.toNat (nowStamp (count .mrtCntRefused 0 31 0 1 s)))
    have hm : (event .mrtAccEvt 0 20 v).mrt = v.mrt := (event_does ..).only.same .mrt (by decide)
    have tv : TablesRise v := (State.modMrt_does _ _).tables ((count_does ..).tables hs)
    have h1 : (event .mrtAccEvt 0 20 v).mrt.table = v.mrt.table := by rw [hm]
    have h2 : (event .mrtAccEvt 0 20 v).mrt.refusal = v.mrt.refusal := by rw [hm]
    refine ⟨h1, congrArg Option.isSome h2, ?_⟩
    exact (cell_event_other tv.regs .mrtAccEvt 0 20 (regOff_ne (at_mrtCnt _ (by decide)) (at_mrtCnt _ (by decide)) (by decide))).trans (cell_count hs.regs ..)

/-! ### An accept that has a place (R205) -/

theorem cell_gapReport {s : State} (hs : TablesRise s) (m : AccMsg) (reason : Nat) :
    cell (gapReport m reason s) .mrtCntGap 0 = incSat (cell s .mrtCntGap) 31 0 1 := by
  have t1 : Rises (count .mrtCntGap 0 31 0 1 s).regs := ((count_does ..).tables hs).regs
  have h (b : Nat) : cell (event .mrtAccEvt 0 b (count .mrtCntGap 0 31 0 1 s)) .mrtCntGap 0 = incSat (cell s .mrtCntGap) 31 0 1 :=
    (cell_event_other t1 .mrtAccEvt 0 b (regOff_ne (at_mrtCnt _ (by decide)) (at_mrtCnt _ (by decide)) (by decide))).trans (cell_count hs.regs ..)
  unfold gapReport
  dsimp only
  split
  · exact h 21
  · exact h 22
  · exact h 23
  · exact cell_count hs.regs ..

theorem messageEntry_recs_isEmpty (s : State) (m : AccMsg) (off : Int) (reason : Nat) :
    (messageEntry s m off reason).recs.isEmpty = (classStreams s m.cls).isEmpty := by
  show ((classStreams s m.cls).map _).isEmpty = _
  rw [List.isEmpty_map]

theorem messageEntry_gap {s : State} {m : AccMsg} {off : Int} {reason : Nat} (h : reason ≠ 0) : ∀ r ∈ (messageEntry s m off reason).recs, r.phase = .gap reason := by
  intro r hr
  obtain ⟨t, -, rfl⟩ := List.mem_map.1 (show r ∈ (classStreams s m.cls).map (newRec s m.mask reason) from hr)
  exact if_pos h

/-- The table after an entry's place is taken. -/
theorem placed_table (s : State) (m : AccMsg) (off : Int) (reason : Nat) :
    (putEntry (messageEntry s m off reason) ((messageMarked m reason s).modMrt (.triggered m reason))).mrt.table =
      s.mrt.table ++ (if classStreams s m.cls = [] then [] else [messageEntry s m off reason]) := by
  have h1 : (messageMarked m reason s).mrt = s.mrt := (messageMarked_does ..).only.same .mrt (by decide)
  rw [putEntry_mrt, messageEntry_recs_isEmpty]
  show (if _ then (messageMarked m reason s).mrt.table else (messageMarked m reason s).mrt.table ++ _) = _
  rw [h1]
  cases classStreams s m.cls with
  | nil => exact (List.append_nil _).symm
  | cons a l => rfl

theorem asksNothing_mrt {m : AccMsg} (hm : m.isRecall = false) (e : AccEntry) (l : List Gather) (t : State) : (forL l (entryAsks m e) t).mrt = t.mrt := by
  induction l generalizing t with
  | nil => rfl
  | cons g l ih =>
    refine (ih (entryAsks m e g t)).trans ?_
    unfold entryAsks
    rw [if_neg (by rw [hm]; nofun)]
    split
    · exact enqueueRead_mrt ..
    · rfl

/-- The registers once the entry is put are those of its mark. -/
theorem enterMessage_regs {m : AccMsg} {s : State} (h : tableFull s = false) {off : Int} (ho : off = (m.domainBt - activeOffset s).toInt) :
    (enterMessage m s).regs = (messageMarked m (gapReason s m off) s).regs := by
  rw [enterMessage_room h ho rfl, (entriesAsk_does ..).only.same .regs (by decide), (putEntry_does ..).only.same .regs (by decide)]
  rfl

theorem acceptEnters_room {m : AccMsg} (hm : m.isRecall = false) {s : State} (hs : TablesRise s) (h : tableFull s = false) {off : Int}
    (ho : off = (m.domainBt - activeOffset s).toInt) :
    (enterMessage m s).mrt.table = s.mrt.table ++ (if classStreams s m.cls = [] then [] else [messageEntry s m off (gapReason s m off)]) ∧
      (gapReason s m off = 0 → cell (enterMessage m s) .mrtCntAccept 0 = incWrap (cell s .mrtCntAccept) 31 0 ∧
        (enterMessage m s).mrt.lastTrigger = some m.domainBt) ∧
      (gapReason s m off ≠ 0 → cell (enterMessage m s) .mrtCntGap 0 = incSat (cell s .mrtCntGap) 31 0 1) := by
  have hr := enterMessage_regs h ho
  have hx := enterMessage_room h ho rfl
  refine ⟨?_, fun h0 => ⟨?_, ?_⟩, fun h0 => ?_⟩
  · rw [hx, asksNothing_mrt hm, placed_table]
  · rw [cell_regs hr, messageMarked, if_neg (fun k => k h0), hm]
    exact cell_setCell hs.regs ..
  · rw [hx, asksNothing_mrt hm, putEntry_mrt, h0]
    show (if !m.isRecall && _ then _ else _) = _
    rw [hm]
    rfl
  · rw [cell_regs hr, messageMarked, if_pos h0]
    exact cell_gapReport hs ..

/-! ### A recall that has a place (R205, R213) -/

/-- One entry has other gathers, and nothing else in the table has changed. -/
def GathersOf (id : Nat) (s t : State) : Prop :=
  ∃ f : AccEntry → List Gather, t.mrt.table = s.mrt.table.map (fun x => if x.id = id then { x with gathers := f x } else x)

theorem GathersOf.refl (id : Nat) (s : State) : GathersOf id s s :=
  ⟨fun x => x.gathers, (List.map_id'' (fun x => ite_self x) _).symm⟩

theorem GathersOf.trans {id : Nat} {s t u : State} (h : GathersOf id s t) (k : GathersOf id t u) : GathersOf id s u := by
  obtain ⟨f, hf⟩ := h
  obtain ⟨g, hg⟩ := k
  refine ⟨fun x => g { x with gathers := f x }, ?_⟩
  rw [hg, hf, List.map_map]
  refine List.map_congr_left fun x _ => ?_
  by_cases hx : x.id = id
  · simp only [Function.comp_apply, if_pos hx]
  · simp only [Function.comp_apply, if_neg hx]

theorem submitPiece_gathers (id u : Nat) (s : State) : GathersOf id s (submitPiece id u s) := by
  unfold submitPiece
  split
  · split
    · split
      · exact .refl _ _
      · exact ⟨fun x => x.gathers.map (fun y => if y.unit = u then { y with toSubmit := y.toSubmit.drop 16 } else y), by dsimp only; rw [enqueueRead_mrt]; rfl⟩
    · exact .refl _ _
  · exact .refl _ _

theorem entriesAsk_gathers {m : AccMsg} (hm : m.isRecall = true) (e : AccEntry) (l : List Gather) (t : State) : GathersOf e.id t (forL l (entryAsks m e) t) := by
  induction l generalizing t with
  | nil => exact .refl _ _
  | cons g l ih =>
    refine GathersOf.trans ?_ (ih (entryAsks m e g t))
    unfold entryAsks
    rw [if_pos hm]
    exact submitPiece_gathers ..

theorem recallEnters_room {m : AccMsg} (hm : m.isRecall = true) {s : State} (hs : TablesRise s) (hn : NamesInRange s) (h : tableFull s = false) {off : Int}
    (ho : off = (m.domainBt - activeOffset s).toInt) :
    (classStreams s m.cls ≠ [] → ∃ e : AccEntry, (enterMessage m s).mrt.table = s.mrt.table ++ [e] ∧ e.kind = .recall ∧ e.number = m.number ∧ e.bt = off ∧
        e.length = m.length ∧ e.recs.map (·.stream) = classStreams s m.cls) ∧
      (gapReason s m off = 0 → cell (enterMessage m s) .mrtCntRecall 0 = incWrap (cell s .mrtCntRecall) 31 0) := by
  refine ⟨fun hc => ?_, fun h0 => ?_⟩
  · let e := messageEntry s m off (gapReason s m off)
    rw [enterMessage_room h ho rfl]
    obtain ⟨f, hf⟩ := entriesAsk_gathers hm e e.gathers (putEntry e ((messageMarked m (gapReason s m off) s).modMrt (.triggered m (gapReason s m off))))
    have hp : (putEntry e ((messageMarked m (gapReason s m off) s).modMrt (.triggered m (gapReason s m off)))).mrt.table = s.mrt.table ++ [e] := by
      rw [placed_table, if_neg hc]
    have hold : s.mrt.table.map (fun x => if x.id = e.id then { x with gathers := f x } else x) = s.mrt.table := by
      conv_rhs => rw [← List.map_id s.mrt.table]
      exact List.map_congr_left fun x hx => if_neg (Nat.ne_of_lt (hn.ids x hx))
    refine ⟨{ e with gathers := f e }, ?_, ?_, rfl, rfl, ?_, ?_⟩
    · rw [hf, hp, List.map_append, hold]
      exact congrArg (s.mrt.table ++ [·]) (if_pos rfl)
    · exact if_pos hm
    · show ((if m.isRecall then off + m.length - 1 else _) - (if m.isRecall then off else _) + 1).toNat = m.length
      rw [if_pos hm, if_pos hm]
      omega
    · exact List.map_map.trans (List.map_id'' (fun _ => rfl) _)
  · rw [cell_regs (enterMessage_regs h ho), messageMarked, if_neg (fun k => k h0), hm]
    exact cell_setCell hs.regs ..

/-! ### The checks before (R203, R204) -/

theorem parseAccept_isRecall {b : Bool} {body : List Byte} {x : AccMsg} (h : parseAccept b body = some x) : x.isRecall = b := by
  unfold parseAccept at h
  dsimp only at h
  split at h
  · cases h
  · split at h
    · rename_i hb
      split at h
      · cases h
      · cases h; exact hb.symm
    · rename_i hb
      split at h
      · cases h
      · cases h; exact (Bool.eq_false_iff.2 hb).symm

theorem messageRx_ignored {b : Bool} {d : Fin 2} {body : List Byte} {s : State} (hl : linkReceives s d = true)
    (h : s.quo.active ≠ d ∨ bit (cell s .mrtAccCtl) (if b then 1 else 0) = false) : messageRx b d body s = count .mrtCntIgnored 0 31 0 1 s := by
  unfold messageRx
  rw [hl, if_neg (by decide)]
  split
  · rfl
  · rename_i hd
    rw [h.resolve_left hd]
    rfl

theorem messageRx_malformed {b : Bool} {d : Fin 2} {body : List Byte} {s : State} (hl : linkReceives s d = true) (ha : s.quo.active = d)
    (hb : bit (cell s .mrtAccCtl) (if b then 1 else 0) = true) (hp : parseAccept b body = none) : messageRx b d body s =
      throttle (raise Src.mrtAccMalformed 0 ([if b then 0x11 else 0x10, w32 body.length] ++ cap64 (bodyNat body 0 8 * 256 ^ (8 - min 8 body.length)))
        (event .mrtAccEvt 0 17 (count .mrtCntDisc 0 15 0 1 s))) := by
  unfold messageRx
  rw [hl, if_neg (by decide), if_neg (fun h => h ha), hb, if_neg (by decide), hp]

theorem messageRx_good {b : Bool} {d : Fin 2} {body : List Byte} {s : State} {x : AccMsg} (hl : linkReceives s d = true) (ha : s.quo.active = d)
    (hb : bit (cell s .mrtAccCtl) (if b then 1 else 0) = true) (hp : parseAccept b body = some x) : messageRx b d body s =
      throttle (if b then enterMessage x s else checkNumber x s) := by
  unfold messageRx
  rw [hl, if_neg (by decide), if_neg (fun h => h ha), hb, if_neg (by decide), hp]

theorem checkNumber_enters {m : AccMsg} {s : State} (h : expectedNumber s = none ∨ (expectedNumber s = some m.number ∧ behind 48 m.number m.number = false)) :
    checkNumber m s = enterMessage m (setExpected ((m.number + 1) % 2 ^ 48) s) := by
  unfold checkNumber
  dsimp only
  rcases h with h | ⟨h, hb⟩
  · rw [h]
  · rw [h]
    dsimp only
    rw [if_neg (by rw [hb]; nofun), if_pos rfl]

theorem checkNumber_ahead {m : AccMsg} {s : State} {e : Nat} (h : expectedNumber s = some e) (hb : behind 48 m.number e = false) (hn : m.number ≠ e) :
    checkNumber m s = enterMessage m (setExpected ((m.number + 1) % 2 ^ 48) (lossSummary e ((m.number + 2 ^ 48 - 1) % 2 ^ 48) s)) := by
  unfold checkNumber
  dsimp only
  rw [h]
  dsimp only
  rw [if_neg (by rw [hb]; nofun), if_neg hn]

theorem checkNumber_behind {m : AccMsg} {s : State} {e : Nat} (h : expectedNumber s = some e) (hb : behind 48 m.number e = true) :
    checkNumber m s = raise Src.mrtAccDup 0 (cap64 m.number ++ cap64 e) (event .mrtAccEvt 0 18 (count .mrtCntDisc 0 31 16 1 s)) := by
  unfold checkNumber
  dsimp only
  rw [h]
  exact if_pos hb

/-- What a loss summary tells of the numbers missing. -/
theorem lossSummary_tells (a b : Nat) (s : State) : (lossSummary a b s).mrt.lastMissing = some (a, b) ∧
    Reported Src.mrtAccLost 0 (cap64 a ++ cap64 b) s (lossSummary a b s) := by
  let v := raise Src.mrtAccLost 0 (cap64 a ++ cap64 b) (event .mrtAccEvt 0 19 (count .mrtCntLost 0 31 0 ((b + 2 ^ 48 - a) % 2 ^ 48 + 1)
    (s.modMrt fun m => { m with lastMissing := some (a, b) })))
  have hv : v.mrt.lastMissing = some (a, b) := congrArg Mortar.lastMissing (show v.mrt = { s.mrt with lastMissing := some (a, b) } from
    (event_does .mrtAccEvt 0 19 (count .mrtCntLost 0 31 0 ((b + 2 ^ 48 - a) % 2 ^ 48 + 1)
      (s.modMrt fun m => { m with lastMissing := some (a, b) }))).only.same .mrt (by decide))
  have hr : Reported Src.mrtAccLost 0 (cap64 a ++ cap64 b) s v := reported_raise (event_btr ..)
  have hk : DecoderKeeps v (lossSummary a b s) := by
    unfold lossSummary
    dsimp only
    split
    · exact decoderKeeps_refuse ..
    · exact decoderKeeps_putEntry ..
  exact ⟨hk.missing.trans hv, hr.tells hk.tells⟩

/-- The registers of the decoder's counts are none of the throttle's. -/
theorem throttled_count {s t : State} (h : Throttled s t) {r : Reg}
    (hr : r ∈ [Reg.mrtCntAccept, .mrtCntRecall, .mrtCntGap, .mrtCntDisc, .mrtCntRefused, .mrtCntLost, .mrtCntIgnored]) : cell t r 0 = cell s r 0 := by
  have e : ∀ r ∈ [Reg.mrtCntAccept, .mrtCntRecall, .mrtCntGap, .mrtCntDisc, .mrtCntRefused, .mrtCntLost, .mrtCntIgnored],
      ∀ x ∈ throttleRegs, regOff r 0 0 ≠ regOff x.1 x.2.1 x.2.2 := by decide +kernel
  exact h.regs r 0 0 (e r hr)

theorem Throttled.lastTrigger {s t : State} (h : Throttled s t) : t.mrt.lastTrigger = s.mrt.lastTrigger ∧ t.mrt.lastMissing = s.mrt.lastMissing ∧
    t.mrt.refusal = s.mrt.refusal := by
  obtain ⟨p, q, a, e⟩ := h.mrt
  rw [e]
  exact ⟨rfl, rfl, rfl⟩

/-- A message that is ignored or malformed. -/
theorem messageTurnedAway {s : State} (hs : TablesRise s) (b : Bool) (d : Fin 2) (body : List Byte) (hl : linkReceives s d = true) :
    (s.quo.active ≠ d ∨ bit (cell s .mrtAccCtl) (if b then 1 else 0) = false → Only [.regs] s (messageRx b d body s) ∧
        cell (messageRx b d body s) .mrtCntIgnored = incSat (cell s .mrtCntIgnored) 31 0 1) ∧
      (s.quo.active = d → bit (cell s .mrtAccCtl) (if b then 1 else 0) = true → parseAccept b body = none →
        (messageRx b d body s).mrt.table = s.mrt.table ∧ cell (messageRx b d body s) .mrtCntDisc = incSat (cell s .mrtCntDisc) 15 0 1 ∧
          Reported Src.mrtAccMalformed 0 ([if b then 0x11 else 0x10, w32 body.length] ++ cap64 (bodyNat body 0 8 * 256 ^ (8 - min 8 body.length))) s
            (messageRx b d body s)) := by
  refine ⟨fun h => ?_, fun ha hb hp => ?_⟩
  · rw [messageRx_ignored hl h]
    exact ⟨(count_does ..).only, cell_count hs.regs ..⟩
  · let v := raise Src.mrtAccMalformed 0 ([if b then 0x11 else 0x10, w32 body.length] ++ cap64 (bodyNat body 0 8 * 256 ^ (8 - min 8 body.length)))
      (event .mrtAccEvt 0 17 (count .mrtCntDisc 0 15 0 1 s))
    have hx : messageRx b d body s = throttle v := messageRx_malformed hl ha hb hp
    have t1 : TablesRise (count .mrtCntDisc 0 15 0 1 s) := (count_does ..).tables hs
    have tv : TablesRise v := (raise_does ..).tables ((event_does ..).tables t1)
    have ht := throttled_throttle tv
    rw [hx]
    have hv : Reported Src.mrtAccMalformed 0 ([if b then 0x11 else 0x10, w32 body.length] ++ cap64 (bodyNat body 0 8 * 256 ^ (8 - min 8 body.length))) s v :=
      reported_raise (event_btr ..)
    have hm : v.mrt = s.mrt := (event_does .mrtAccEvt 0 17 (count .mrtCntDisc 0 15 0 1 s)).only.same .mrt (by decide)
    refine ⟨ht.table.trans (congrArg Mortar.table hm), ?_, hv.tells ht.tells⟩
    · rw [throttled_count ht (by decide)]
      exact (cell_event_other t1.regs .mrtAccEvt 0 17 (regOff_ne (at_mrtCnt _ (by decide)) (at_mrtCnt _ (by decide)) (by decide))).trans (cell_count hs.regs ..)

/-- A good accept. -/
theorem acceptTaken {s : State} (hs : TablesRise s) (d : Fin 2) (body : List Byte) (x : AccMsg) (off : Int) (reason : Nat) (hl : linkReceives s d = true)
    (ha : s.quo.active = d) (ho : off = (x.domainBt - activeOffset s).toInt) (hr : reason = gapReason s x off) (hb : bit (cell s .mrtAccCtl) 0 = true)
    (hp : parseAccept false body = some x) :
    (∀ e : Nat, expectedNumber s = some e → behind 48 x.number e = true → (messageRx false d body s).mrt.table = s.mrt.table ∧
      (messageRx false d body s).btr = s.btr ∧ Reported Src.mrtAccDup 0 (cap64 x.number ++ cap64 e) s (messageRx false d body s)) ∧
    (∀ e : Nat, expectedNumber s = some e → behind 48 x.number e = false → x.number ≠ e →
      expectedNumber (messageRx false d body s) = some ((x.number + 1) % 2 ^ 48) ∧
      (messageRx false d body s).mrt.lastMissing = some (e, (x.number + 2 ^ 48 - 1) % 2 ^ 48) ∧
      Reported Src.mrtAccLost 0 (cap64 e ++ cap64 ((x.number + 2 ^ 48 - 1) % 2 ^ 48)) s (messageRx false d body s)) ∧
    ((expectedNumber s = none ∨ (expectedNumber s = some x.number ∧ behind 48 x.number x.number = false)) → ∀ t : State, t = messageRx false d body s →
      expectedNumber t = some ((x.number + 1) % 2 ^ 48) ∧
      (tableFull s = true → t.mrt.table = s.mrt.table ∧ t.mrt.refusal.isSome = true ∧ cell t .mrtCntRefused = incSat (cell s .mrtCntRefused) 31 0 1) ∧
      (tableFull s = false → t.mrt.table = s.mrt.table ++ (if classStreams s x.cls = [] then [] else [messageEntry s x off reason]) ∧
        (reason = 0 → cell t .mrtCntAccept = incWrap (cell s .mrtCntAccept) 31 0 ∧ t.mrt.lastTrigger = some x.domainBt) ∧
        (reason ≠ 0 → cell t .mrtCntGap = incSat (cell s .mrtCntGap) 31 0 1 ∧ ∀ r ∈ (messageEntry s x off reason).recs, r.phase = .gap reason))) := by
  have hm : x.isRecall = false := parseAccept_isRecall hp
  have hx : messageRx false d body s = throttle (checkNumber x s) := messageRx_good (b := false) hl ha hb hp
  have ht := throttled_throttle ((checkNumber_does x s).tables hs)
  rw [← hx] at ht
  have hbt : (messageRx false d body s).btr = (checkNumber x s).btr := ht.does.only.same .btr (by decide)
  refine ⟨fun e he hbe => ?_, fun e he hbe hne => ?_, fun he t htx => ?_⟩
  · have hc := checkNumber_behind he hbe
    have hmrt : (checkNumber x s).mrt.table = s.mrt.table := by
      rw [hc]
      exact congrArg Mortar.table ((event_does .mrtAccEvt 0 18 (count .mrtCntDisc 0 31 16 1 s)).only.same .mrt (by decide))
    have hbtr : (checkNumber x s).btr = s.btr := by
      rw [hc]
      exact event_btr .mrtAccEvt 0 18 (count .mrtCntDisc 0 31 16 1 s)
    have hrep : Reported Src.mrtAccDup 0 (cap64 x.number ++ cap64 e) s (checkNumber x s) := by
      rw [hc]
      exact reported_raise (event_btr ..)
    exact ⟨ht.table.trans hmrt, hbt.trans hbtr, hrep.tells ht.tells⟩
  · have hc := checkNumber_ahead he hbe hne
    obtain ⟨l1, l2⟩ := lossSummary_tells e ((x.number + 2 ^ 48 - 1) % 2 ^ 48) s
    let v := setExpected ((x.number + 1) % 2 ^ 48) (lossSummary e ((x.number + 2 ^ 48 - 1) % 2 ^ 48) s)
    have hk : DecoderKeeps v (checkNumber x s) := hc ▸ decoderKeeps_enterMessage x v
    have hlm : v.mrt.lastMissing = some (e, (x.number + 2 ^ 48 - 1) % 2 ^ 48) := l1
    have hv : Reported Src.mrtAccLost 0 (cap64 e ++ cap64 ((x.number + 2 ^ 48 - 1) % 2 ^ 48)) s v := l2
    refine ⟨?_, ht.lastTrigger.2.1.trans (hk.missing.trans hlm), (hv.tells hk.tells).tells ht.tells⟩
    rw [expectedNumber_of hbt, hc, expectedNumber_enterMessage, expectedNumber_setExpected, Nat.mod_mod]
  · subst htx hr
    have hc := checkNumber_enters he
    let v := setExpected ((x.number + 1) % 2 ^ 48) s
    have tv : TablesRise v := (setExpected_does ..).tables hs
    refine ⟨?_, fun hf => ?_, fun hf => ?_⟩
    · rw [expectedNumber_of hbt, hc, expectedNumber_enterMessage, expectedNumber_setExpected, Nat.mod_mod]
    · have hc' : checkNumber x s = refuse (some (x.number, x.number)) false x.number v := by
        rw [hc, enterMessage_full (s := v) hf, hm]
        rfl
      obtain ⟨k1, k2, k3⟩ := refuse_refused tv (some (x.number, x.number)) false x.number
      rw [← hc'] at k1 k2 k3
      exact ⟨ht.table.trans k1, (congrArg Option.isSome ht.lastTrigger.2.2).trans k2, (throttled_count ht (by decide)).trans k3⟩
    · obtain ⟨k1, k2, k3⟩ := acceptEnters_room hm tv (show tableFull v = false from hf) (show off = (x.domainBt - activeOffset v).toInt from ho)
      rw [← hc] at k1 k2 k3
      refine ⟨ht.table.trans k1, fun h0 => ?_, fun h0 => ⟨(throttled_count ht (by decide)).trans (k3 h0), messageEntry_gap h0⟩⟩
      obtain ⟨k4, k5⟩ := k2 h0
      exact ⟨(throttled_count ht (by decide)).trans k4, ht.lastTrigger.1.trans k5⟩

/-- A good recall that finds a place. -/
theorem recallTaken {s : State} (hs : TablesRise s) (hn : NamesInRange s) (d : Fin 2) (body : List Byte) (x : AccMsg) (off : Int) (hl : linkReceives s d = true)
    (ha : s.quo.active = d) (ho : off = (x.domainBt - activeOffset s).toInt) (hb : bit (cell s .mrtAccCtl) 1 = true)
    (hp : parseAccept true body = some x) (hf : tableFull s = false) :
    (classStreams s x.cls ≠ [] → ∃ e : AccEntry, (messageRx true d body s).mrt.table = s.mrt.table ++ [e] ∧ e.kind = .recall ∧ e.number = x.number ∧ e.bt = off ∧
        e.length = x.length ∧ e.recs.map (·.stream) = classStreams s x.cls) ∧
      (gapReason s x off = 0 → cell (messageRx true d body s) .mrtCntRecall = incWrap (cell s .mrtCntRecall) 31 0) := by
  have hx : messageRx true d body s = throttle (enterMessage x s) := messageRx_good (b := true) hl ha hb hp
  have ht := throttled_throttle ((enterMessage_does x s).tables hs)
  obtain ⟨k1, k2⟩ := recallEnters_room (parseAccept_isRecall hp) hs hn hf ho
  rw [hx, ht.table]
  exact ⟨k1, fun h0 => (throttled_count ht (by decide)).trans (k2 h0)⟩

end Sys2Proof.Machine
end

section
/-!
SUPPORT. The ring reader that serves an entry, and the pieces of a recall (R211 to R213, R219, R220), and the statement on accepts and recalls settled.
-/
namespace Sys2Proof.Machine

/-! ### Gathers of an entry -/

/-- What one unit gathers for an entry is changed. -/
def AccEntry.withGather (u : Nat) (f : Gather → Gather) (e : AccEntry) : AccEntry := { e with gathers := e.gathers.map (fun g => if g.unit = u then f g else g) }

theorem withGather_gather {e : AccEntry} {u : Nat} {g : Gather} (h : e.gather u = some g) {f : Gather → Gather} (hf : ∀ g, (f g).unit = g.unit) :
    (e.withGather u f).gather u = some (f g) := by
  have hu : g.unit = u := eq_of_beq (List.find?_some (p := fun g : Gather => g.unit == u) h)
  unfold AccEntry.gather AccEntry.withGather at *
  rw [List.find?_map]
  have hp : ((fun g : Gather => g.unit == u) ∘ fun g => if g.unit = u then f g else g) = fun g => g.unit == u :=
    funext fun x => by rw [Function.comp_apply]; split <;> [rw [hf]; rfl]
  rw [hp, h, Option.map_some, if_pos hu]

/-! ### Records in build grow (R219, R220) -/

/-- A record holds the cells that what has been gathered needs. -/
def Suffices (e : AccEntry) (g : Gather) (r : StreamRec) : Prop := min r.maxCells ((8 * gatheredWords e g r.mask + 255) / 256) ≤ r.cells.length

/-- Each record in build on unit `u` has cells enough, or its stream is still to come in `l`. -/
def GrownBut (l : List StreamRec) (u : Nat) (e : AccEntry) (g : Gather) (recs : List StreamRec) : Prop :=
  ∀ x ∈ recs, (∀ r ∈ l, x.stream = r.stream → x.maxCells = r.maxCells ∧ x.mask = r.mask) ∧
    (x.unit = u → x.phase = .building → Suffices e g x ∨ ∃ r ∈ l, x.stream = r.stream)

/-- One record takes its cells among the others. -/
theorem GrownBut.step {r : StreamRec} {l : List StreamRec} {u : Nat} {e : AccEntry} {g : Gather} {recs : List StreamRec} (h : GrownBut (r :: l) u e g recs)
    (use : StreamRec → CellUse) (now : Nat) :
    GrownBut l u e g (recs.map (fun x => if x.stream = r.stream then x.holding (use x) (min r.maxCells ((8 * gatheredWords e g r.mask + 255) / 256)) now else x)) := by
  intro y hy
  obtain ⟨x, hx, rfl⟩ := List.mem_map.1 hy
  obtain ⟨h1, h2⟩ := h x hx
  by_cases hs : x.stream = r.stream
  · rw [if_pos hs]
    refine ⟨fun q hq => h1 q (.tail _ hq), fun _ hp => .inl ?_⟩
    obtain ⟨m1, m2⟩ := h1 r (.head _) hs
    unfold Suffices
    show min x.maxCells ((8 * gatheredWords e g x.mask + 255) / 256) ≤ (use x).length
    rw [m1, m2]
    refine Decidable.byContradiction fun hn => ?_
    have hp' : (if min r.maxCells ((8 * gatheredWords e g r.mask + 255) / 256) ≤ (use x).length then RecPhase.building else .waiting (x.waitsSince.getD now)) = .building := hp
    rw [if_neg hn] at hp'
    cases hp'
  · rw [if_neg hs]
    refine ⟨fun q hq => h1 q (.tail _ hq), fun hu hp => (h2 hu hp).imp id ?_⟩
    rintro ⟨q, hq, hqs⟩
    cases hq with
    | head => exact absurd hqs hs
    | tail _ hq => exact ⟨q, hq, hqs⟩

theorem growRecs_entry {s : State} {id : Nat} {E : AccEntry} (h : entryById s id = some E) (u : Nat) (e : AccEntry) (g : Gather) (l : List StreamRec) :
    ∃ recs, entryById (forL l (growRec id e g) s) id = some { E with recs := recs } ∧ (GrownBut l u e g E.recs → GrownBut [] u e g recs) := by
  induction l generalizing s E with
  | nil => exact ⟨E.recs, h, fun k => k⟩
  | cons r l ih =>
    let use : StreamRec → CellUse := fun x => growCells s x.cells (min r.maxCells ((8 * gatheredWords e g r.mask + 255) / 256))
    let E1 : AccEntry := { E with recs := E.recs.map (fun x => if x.stream = r.stream then
      x.holding (use x) (min r.maxCells ((8 * gatheredWords e g r.mask + 255) / 256)) (nowCourse s) else x) }
    obtain ⟨recs, k1, k2⟩ := ih (s := growRec id e g r s) (E := E1) (entryById_modEntry h (f := fun E => { E with recs := E.recs.map (fun x =>
      if x.stream = r.stream then x.holding (use x) (min r.maxCells ((8 * gatheredWords e g r.mask + 255) / 256)) (nowCourse s) else x) }) fun _ => rfl)
    exact ⟨recs, k1, fun hb => k2 (hb.step use _)⟩

theorem eq_of_nodup_stream {l : List StreamRec} (h : (l.map (·.stream)).Nodup) {x y : StreamRec} (hx : x ∈ l) (hy : y ∈ l) (he : x.stream = y.stream) : x = y :=
  List.inj_on_of_nodup_map h hx hy he

/-- At the start each record in build on the unit is to come. -/
theorem grownBut_start {e E : AccEntry} {g : Gather} {u : Nat} (h : (E.recs.map (·.stream)).Nodup) :
    GrownBut (E.recs.filter (fun r => r.unit == u && r.inBuild)) u e g E.recs := by
  refine fun x hx => ⟨fun r hr he => ?_, fun hu hp => .inr ⟨x, List.mem_filter.2 ⟨hx, ?_⟩, rfl⟩⟩
  · rw [eq_of_nodup_stream h hx (List.mem_filter.1 hr).1 he]
    exact ⟨rfl, rfl⟩
  · rw [hu, beq_self_eq_true, StreamRec.inBuild, hp]
    rfl

/-- The entry, after its records have grown. -/
theorem buildGrows_entry {s : State} (hs : TablesRise s) {id u : Nat} {e : AccEntry} {g : Gather} (he : entryById s id = some e) (hg : e.gather u = some g) :
    ∃ recs, entryById (buildGrows id u s) id = some { e with recs := recs } ∧
      ((e.recs.map (·.stream)).Nodup → ∀ r ∈ recs, r.unit = u → r.phase = .building → Suffices e g r) := by
  obtain ⟨recs, h1, h2⟩ := growRecs_entry he u e g (e.recs.filter (fun r => r.unit == u && r.inBuild))
  refine ⟨recs, ?_, fun hn r hr hu hp => ?_⟩
  · rw [buildGrows_eq he hg, entryById_of (throttled_throttle ((growRecs_does ..).tables hs)).table, h1]
  · obtain hx | ⟨q, hq, -⟩ := (h2 (grownBut_start hn) r hr).2 hu hp
    · exact hx
    · cases hq

theorem buildGrows_throttled {s : State} (hs : TablesRise s) {id u : Nat} {e : AccEntry} {g : Gather} (he : entryById s id = some e) (hg : e.gather u = some g) :
    RegsKept throttleRegs s (buildGrows id u s) := by
  rw [buildGrows_eq he hg]
  exact (RegsKept.of_regs ((growRecs_does id e g _ s).only.same .regs (by decide))).trans (throttled_throttle ((growRecs_does ..).tables hs)).regs

/-! ### The ring reader (R211, R212) -/

/-- A part that the ring reader has taken: the window's buckets of a pair. -/
def ringPart (e : AccEntry) (s : State) (x : Nat × Nat) : Part :=
  ⟨x.1, x.2, .ring ((List.range ((e.bucketSpan x.1).2 + 1 - (e.bucketSpan x.1).1)).flatMap (fun b => bucket s x.1 x.2 ((e.bucketSpan x.1).1 + b)))⟩

theorem ringParts_asWritten {s : State} (h : ∀ m < 4, AsWritten 2 m s) (e : AccEntry) {l : List (Nat × Nat)} (hl : ∀ x ∈ l, x.2 < 32) :
    ringParts e l s = (l.map (ringPart e s), [], s) := by
  induction l with
  | nil => rfl
  | cons x l ih =>
    obtain ⟨c, g⟩ := x
    have hg : g / 8 < 4 := Nat.div_lt_of_lt_mul (hl _ (.head _))
    unfold ringParts
    dsimp only
    rw [slotsRead_asWritten (h _ hg)]
    dsimp only
    rw [ih fun x hx => hl x (.tail _ hx), if_neg Bool.false_ne_true, List.map_map, ← List.flatMap_def]
    rfl

/-- The pairs that an extraction takes: the courses' partners' groups. -/
def extractPairs (s : State) (e : AccEntry) (u : Nat) : List (Nat × Nat) :=
  (e.courses.filterMap (fun c => closeRec s c)).flatMap (fun cr => (pairGroups cr (unitNeed e.recs u)).map (fun g => (cr.course, g)))

theorem mem_extractPairs {s : State} {e : AccEntry} {u : Nat} {x : Nat × Nat} (h : x ∈ extractPairs s e u) : x.1 ∈ e.courses ∧ x.2 < 32 := by
  obtain ⟨cr, hcr, hx⟩ := List.mem_flatMap.1 h
  obtain ⟨c, hc, hcl⟩ := List.mem_filterMap.1 hcr
  obtain ⟨g, hg, rfl⟩ := List.mem_map.1 hx
  have : cr.course = c := eq_of_beq (List.find?_some (p := fun r : CloseRec => r.course == c) hcl)
  exact ⟨this ▸ hc, List.mem_range.1 (List.mem_filter.1 hg).1⟩

/-- The pairs that the ring does not hold. -/
def extractMissed (s : State) (e : AccEntry) (u : Nat) : List (Nat × Nat) := (extractPairs s e u).filter (fun x => !ringHolds s x.1 x.2)

/-- The courses that are asked of the quarry. -/
def extractCourses (s : State) (e : AccEntry) (u : Nat) : List Nat := e.courses.filter (fun c => (extractMissed s e u).any (fun x => x.1 == c))

theorem extractCourses_isEmpty {s : State} {e : AccEntry} {u : Nat} (h : ∀ x ∈ extractPairs s e u, ringHolds s x.1 x.2 = true) :
    (extractCourses s e u).isEmpty = true := by
  have hm : extractMissed s e u = [] := List.filter_eq_nil_iff.2 fun x hx => by rw [h x hx]; nofun
  unfold extractCourses
  rw [hm]
  simp

theorem mem_extractCourses {s : State} {e : AccEntry} {u : Nat} {x : Nat × Nat} (hx : x ∈ extractPairs s e u) (h : ringHolds s x.1 x.2 = false) :
    x.1 ∈ extractCourses s e u :=
  List.mem_filter.2 ⟨(mem_extractPairs hx).1, List.any_eq_true.2 ⟨x, List.mem_filter.2 ⟨hx, by rw [h]; rfl⟩, beq_self_eq_true _⟩⟩

/-- What a unit has gathered once its ring reader is through. -/
def Gather.served (s : State) (e : AccEntry) (u : Nat) (g : Gather) : Gather :=
  { g with
    extracted := true
    parts := ((extractPairs s e u).filter (fun x => ringHolds s x.1 x.2)).map (ringPart e s)
    latePath := !(extractCourses s e u).isEmpty
    fromQuarry := extractMissed s e u
    bounds := (e.courses.filterMap (fun c => closeRec s c)).map (fun cr => (cr.course, cr.partners)) }

/-- The entry with what the ring reader has gathered, its records grown. -/
def ringServed (id u : Nat) (e : AccEntry) (s : State) : State := buildGrows id u (modGather id u (.served s e u) s)

/-- What is asked of the quarry. -/
def extractAsk (id u : Nat) (e : AccEntry) (s : State) : QReq :=
  ⟨id, false, u, unitNeed e.recs u, extractCourses s e u, ((extractMissed s e u).map (·.2)).eraseDups, none, false⟩

theorem extractionDone_serves {s : State} {u id : Nat} {e : AccEntry} (he : entryById s id = some e) (hx : extractable s e u = true)
    (hf : 0 < freeCells s ∨ unitNeed e.recs u = 0) (hc : ∀ c ∈ e.courses, (closeRec s c).isSome = true) (hw : ∀ m < 4, AsWritten 2 m s) :
    extractionDone u id [] s = if (extractCourses s e u).isEmpty then ringServed id u e s
      else enqueueRead (extractAsk id u e s) (event .mrtUnitEvt u 17 (ringServed id u e s)) := by
  have hold : e.courses.filter (fun c => (closeRec s c).isNone && unitNeed e.recs u != 0) = [] :=
    List.filter_eq_nil_iff.2 fun c hm => by
      obtain ⟨r, hr⟩ := Option.isSome_iff_exists.1 (hc c hm)
      rw [hr]; nofun
  have hrd : ringParts e ((extractPairs s e u).filter (fun x => ringHolds s x.1 x.2)) s =
      (((extractPairs s e u).filter (fun x => ringHolds s x.1 x.2)).map (ringPart e s), [], s) :=
    ringParts_asWritten hw e fun x hm => (mem_extractPairs (List.mem_filter.1 hm).1).2
  unfold extractPairs at hrd
  unfold extractionDone
  rw [he]
  dsimp only
  rw [hx, if_neg (by decide), if_neg (by rintro ⟨h0, h1⟩; rcases hf with h | h; exacts [absurd h0 (Nat.ne_of_gt h), h1 h]), forL_nil, hrd]
  dsimp only
  rw [hold]
  simp only [List.contains_nil, Bool.or_false, Bool.false_or, List.map_nil, List.append_nil, List.isEmpty_nil, if_true]
  rfl

theorem modify_length {α : Type} (l : List α) (a : α) (f : α → α) : (l ++ [a]).modify l.length f = l ++ [f a] := by
  induction l with
  | nil => rfl
  | cons b l ih => exact congrArg (b :: ·) ih

theorem enqueueRead_reads (r : QReq) (s : State) : ∃ p, (enqueueRead r s).qry.reads = s.qry.reads ++ [{ r with pin := p }] := by
  have h (v : State) (i : Nat) : ∃ p, pinRequest v i r = { r with pin := p } := by
    unfold pinRequest
    split
    · split
      · exact ⟨_, rfl⟩
      · exact ⟨_, rfl⟩
    · exact ⟨_, rfl⟩
  obtain ⟨p, hp⟩ := h (s.modQry fun q => { q with reads := q.reads ++ [r] }) s.qry.reads.length
  refine ⟨p, ?_⟩
  show (s.qry.reads ++ [r]).modify s.qry.reads.length _ = _
  rw [modify_length, hp]

theorem enqueueRead_regs (r : QReq) (s : State) : (enqueueRead r s).regs = s.regs := (enqueueRead_does ..).only.same .regs (by decide)

theorem at_unitEvt : ∀ u : Fin 4, ∀ x ∈ throttleRegs, regOff .mrtUnitEvt u 0 ≠ regOff x.1 x.2.1 x.2.2 := by decide +kernel

/-- R211, R212, R219: the entry once its ring reader is through, and what is asked of the quarry. -/
theorem extractionDone_served {s : State} (hs : TablesRise s) {id : Nat} (u : Fin 4) {e : AccEntry} (he : entryById s id = some e) (hx : extractable s e u = true)
    (hf : 0 < freeCells s ∨ unitNeed e.recs u = 0) (hc : ∀ c ∈ e.courses, (closeRec s c).isSome = true) (hw : ∀ m < 4, AsWritten 2 m s) :
    ∃ (e' : AccEntry) (g : Gather), entryById (extractionDone u id [] s) id = some e' ∧ e'.gather u = some (g.served s e u) ∧
      ((e.recs.map (·.stream)).Nodup → ∀ r ∈ e'.recs, r.unit = u.val → r.phase = .building → Suffices e' (g.served s e u) r) ∧
      ((extractCourses s e u).isEmpty = true → (extractionDone u id [] s).qry = s.qry) ∧
      ((extractCourses s e u).isEmpty = false → Evented .mrtUnitEvt u 17 s (extractionDone u id [] s) ∧
        ∃ p, (extractionDone u id [] s).qry.reads = s.qry.reads ++ [{ extractAsk id u e s with pin := p }]) := by
  obtain ⟨g, hg⟩ : ∃ g, e.gather u = some g := by
    unfold extractable at hx
    cases hg : e.gather u with
    | some g => exact ⟨g, rfl⟩
    | none => rw [hg] at hx; cases hx
  have h1 : entryById (modGather id u (.served s e u) s) id = some (e.withGather u (.served s e u)) :=
    entryById_modEntry he (f := .withGather u (.served s e u)) fun _ => rfl
  have hg1 := withGather_gather hg (f := .served s e u) fun _ => rfl
  have d1 : Does [.mrt] s (modGather id u (.served s e u) s) := modGather_does ..
  obtain ⟨recs, h2, h3⟩ := buildGrows_entry (d1.tables hs) h1 hg1
  have hregs : RegsKept throttleRegs s (ringServed id u e s) := (RegsKept.of_regs (d1.only.same .regs (by decide))).trans (buildGrows_throttled (d1.tables hs) h1 hg1)
  have hqry : (ringServed id u e s).qry = s.qry := ((buildGrows_does ..).only.same .qry (by decide)).trans (d1.only.same .qry (by decide))
  have tr : TablesRise (ringServed id u e s) := (buildGrows_does ..).tables (d1.tables hs)
  rw [extractionDone_serves he hx hf hc hw]
  refine ⟨{ e.withGather u (.served s e u) with recs := recs }, g, ?_, hg1, fun hn r hr hu hp => h3 hn r hr hu hp, fun hempty => ?_, fun hne => ?_⟩
  · have hm : (enqueueRead (extractAsk id u e s) (event .mrtUnitEvt u 17 (ringServed id u e s))).mrt = (ringServed id u e s).mrt :=
      (enqueueRead_mrt ..).trans ((event_does ..).only.same .mrt (by decide))
    split
    · exact h2
    · exact (entryById_of (congrArg Mortar.table hm) id).trans h2
  · rw [if_pos hempty]
    exact hqry
  · rw [if_neg (by rw [hne]; nofun)]
    obtain ⟨p, hp⟩ := enqueueRead_reads (extractAsk id u e s) (event .mrtUnitEvt u 17 (ringServed id u e s))
    refine ⟨?_, p, by rw [hp, (event_does ..).only.same .qry (by decide), hqry]⟩
    have hev : Evented .mrtUnitEvt u 17 s (event .mrtUnitEvt u 17 (ringServed id u e s)) := (evented_event tr.regs ..).before hregs (at_unitEvt u)
    exact hev.after (xs := []) (.of_regs (enqueueRead_regs ..)) nofun

/-- R220: while no cell is free, no record of the unit is in build. -/
theorem buildWaits_waits (id u : Nat) (s : State) : ∀ e ∈ (buildWaits id u s).mrt.table, e.id = id → ∀ r ∈ e.recs, r.unit = u → r.phase ≠ .building := by
  intro e he hi r hr hu
  obtain ⟨x, -, rfl⟩ := mem_modEntry_table.1 he
  by_cases hx : x.id = id
  · rw [if_pos hx] at hr
    obtain ⟨y, -, rfl⟩ := List.mem_map.1 hr
    by_cases hy : y.unit = u ∧ y.phase = .building
    · rw [if_pos hy]; nofun
    · rw [if_neg hy] at hu ⊢
      exact fun hp => hy ⟨hu, hp⟩
  · rw [if_neg hx] at hi
    exact absurd hi hx

/-! ### The pieces of a recall (R213) -/

/-- A recall of the unit whose last piece is done and that has more to submit. -/
def recallsNext (s : State) (u : Nat) (e : AccEntry) : Bool :=
  e.kind == .recall && (match e.gather u with | some g => !g.toSubmit.isEmpty | none => false) && !s.qry.reads.any (fun r => !r.job && r.owner == e.id && r.unit == u)

theorem recallPiece_next {s : State} {u : Nat} {e : AccEntry} (h : s.mrt.table.find? (recallsNext s u) = some e) : recallPiece u s = submitPiece e.id u s := by
  unfold recallPiece
  split
  next x hx => rw [Option.some.inj (hx.symm.trans h)]
  next hx => exact nomatch hx.symm.trans h

theorem recallPiece_none {s : State} {u : Nat} (h : s.mrt.table.find? (recallsNext s u) = none) : recallPiece u s = s := by
  unfold recallPiece
  split
  next x hx => exact nomatch hx.symm.trans h
  next hx => rfl

/-- What a unit still has to submit of a recall. -/
def Gather.submitted (g : Gather) : Gather := { g with toSubmit := g.toSubmit.drop 16 }

theorem submitPiece_submits {s : State} {u : Nat} {e : AccEntry} {g : Gather} (he : entryById s e.id = some e) (hg : e.gather u = some g)
    (hn : recallsNext s u e = true) : submitPiece e.id u s =
      enqueueRead ⟨e.id, false, u, unitNeed e.recs u, g.toSubmit.take 16, [], none, false⟩ (modGather e.id u .submitted s) := by
  unfold recallsNext at hn
  rw [hg] at hn
  dsimp only at hn
  simp only [Bool.and_eq_true, Bool.not_eq_true'] at hn
  obtain ⟨⟨-, h1⟩, h2⟩ := hn
  unfold entryById at he
  unfold AccEntry.gather at hg
  unfold submitPiece
  rw [he]
  dsimp only
  rw [hg]
  dsimp only
  rw [h1, h2, if_neg (by decide)]
  rfl

/-- Settles O46. -/
theorem acceptsEnterTheTable : Obligations.AcceptsEnterTheTable := by
  unfold Obligations.AcceptsEnterTheTable
  refine ⟨fun d body s hu hs hn => ⟨fun hl => ?_, fun row b hrow hl => ?_, fun x off reason hl ha ho hr => ⟨fun hb hp => ?_, fun hb hp hf => ?_⟩⟩,
    fun u s hu hs => ⟨fun id e he => ⟨fun errs hx => ?_, fun errs hx h0 h1 => ?_, fun hx hf hc hw pairs hpairs => ?_⟩, fun due hdue => ⟨fun h => ?_, fun e g h he hg => ?_⟩⟩⟩
  · have h (b : Bool) : messageRx b d body s = s := if_pos (by rw [hl]; rfl)
    exact ⟨(upNext_up hu).trans (congrArg _ (h false)), (upNext_up hu).trans (congrArg _ (h true))⟩
  · obtain ⟨a1, a2⟩ := messageTurnedAway hs false d body hl
    obtain ⟨b1, b2⟩ := messageTurnedAway hs true d body hl
    simp only [List.mem_cons, Prod.mk.injEq, List.not_mem_nil, or_false] at hrow
    obtain ⟨rfl, rfl⟩ | ⟨rfl, rfl⟩ := hrow
    · exact ⟨fun h => ⟨_, upNext_up hu, a1 h⟩, fun ha hb hp => ⟨_, upNext_up hu, a2 ha hb hp⟩⟩
    · exact ⟨fun h => ⟨_, upNext_up hu, b1 h⟩, fun ha hb hp => ⟨_, upNext_up hu, b2 ha hb hp⟩⟩
  · obtain ⟨k1, k2, k3⟩ := acceptTaken hs d body x off reason hl ha ho hr hb hp
    exact ⟨fun e he h => ⟨_, upNext_up hu, k1 e he h⟩, fun e he h hne => ⟨_, upNext_up hu, k2 e he h hne⟩, fun h => ⟨_, upNext_up hu, k3 h _ rfl⟩⟩
  · obtain ⟨k1, k2⟩ := recallTaken hs hn d body x off hl ha ho hb hp hf
    exact ⟨_, upNext_up hu, k1, fun h0 => k2 (hr ▸ h0)⟩
  · refine (upNext_up hu).trans (congrArg _ ?_)
    unfold extractionDone
    rw [he]
    dsimp only
    rw [hx]
    rfl
  · have hd : extractionDone u id errs s = buildWaits id u s := by
      unfold extractionDone
      rw [he]
      dsimp only
      rw [hx, if_neg (by decide), if_pos ⟨h0, h1⟩]
    exact ⟨_, (upNext_up hu).trans (congrArg _ hd), (buildWaits_does ..).only, buildWaits_waits id u s⟩
  · obtain ⟨e', g, k1, k2, k3, k4, k5⟩ := extractionDone_served hs u he hx hf hc hw
    subst hpairs
    refine ⟨_, e', _, upNext_up hu, k1, k2, rfl, rfl, rfl, k3, fun h => ?_, fun x hm h => ?_⟩
    · have hempty := extractCourses_isEmpty h
      exact ⟨by show (!(extractCourses s e u).isEmpty) = false; rw [hempty]; rfl, k4 hempty⟩
    · have hin := mem_extractCourses hm h
      have hne : (extractCourses s e u).isEmpty = false := by
        cases hl : extractCourses s e u with
        | nil => rw [hl] at hin; cases hin
        | cons a l => rfl
      obtain ⟨h1, p, h2⟩ := k5 hne
      exact ⟨by show (!(extractCourses s e u).isEmpty) = true; rw [hne]; rfl, h1, _, h2, rfl, rfl, hin⟩
  · exact (upNext_up hu).trans (congrArg _ (recallPiece_none (hdue.symm.trans h)))
  · have hfind : s.mrt.table.find? (recallsNext s u) = some e := hdue.symm.trans h
    have hx : recallPiece u s = _ := (recallPiece_next hfind).trans (submitPiece_submits he hg (List.find?_some hfind))
    have h1 : entryById (modGather e.id u .submitted s) e.id = some (e.withGather u .submitted) := entryById_modEntry he (f := .withGather u .submitted) fun _ => rfl
    obtain ⟨p, hp⟩ := enqueueRead_reads ⟨e.id, false, u, unitNeed e.recs u, g.toSubmit.take 16, [], none, false⟩ (modGather e.id u .submitted s)
    exact ⟨_, _, _, _, (upNext_up hu).trans (congrArg _ hx), hx ▸ (recallPiece_does ..).only, hp, rfl, rfl, rfl, rfl,
      (entryById_of (by rw [enqueueRead_mrt]) _).trans h1, withGather_gather hg fun _ => rfl, rfl⟩

end Sys2Proof.Machine
end

section
/-!
SUPPORT. The scrub and the restore of the tables (R324 to R328, R330, R331), and the statement on both settled.
-/
namespace Sys2Proof.Machine

/-! ### Steps on the blocks of the tables -/

theorem at_mem : (∀ m < 11, regExists .memCntCorr m 0 = true ∧ regExists .memCntUncorr m 0 = true) ∧
    ∀ r ∈ [Reg.memEvt, .memLastRead, .memLastAddr, .memScrubStat, .memScrubPos, .memRestoreCnt, .memHbmCnt], regExists r 0 0 = true := by decide +kernel

/-- The registers that a read of block `b` of a group's tables can change. -/
abbrev tableRegs (m : Nat) : List (Reg × Nat × Nat) := [(.memCntCorr, m, 0), (.memCntUncorr, m, 0), (.memEvt, 0, 0), (.memLastRead, 0, 0), (.memLastAddr, 0, 0)]

/-- A step on block `b` of group `g` by a reader that may rewrite it. -/
structure BlockStep (g b : Nat) (s t : State) : Prop where
  does : Does [.regs, .flt, .port0, .port1, .sram, .mem] s t
  regs : RegsKept (tableRegs (blockMemory b).1) s t
  blocks : ∀ h k : Nat, h * groupBlocks + k ≠ g * groupBlocks + b → tblock t h k = tblock s h k
  tells : Tells s t

theorem BlockStep.refl (g b : Nat) (s : State) : BlockStep g b s s := ⟨.refl _ _, .refl _ _, fun _ _ _ => rfl, .refl _⟩

theorem BlockStep.trans {g b : Nat} {s t u : State} (h : BlockStep g b s t) (k : BlockStep g b t u) : BlockStep g b s u :=
  ⟨.step k.does rfl h.does, h.regs.trans k.regs, fun x y n => (k.blocks x y n).trans (h.blocks x y n), h.tells.trans k.tells⟩

theorem blockStep_mem {g b : Nat} {s t : State} (d : Does [.mem] s t) : BlockStep g b s t :=
  ⟨d.widen rfl, .of_regs (d.only.same .regs (by decide)), fun _ _ _ => tblock_of (d.only.same .sram (by decide)) .., .of_flt (d.only.same .flt (by decide))⟩

theorem tblock_setTblock_key {s : State} (h : MemoryWf s) (g b : Nat) (x : SramBlock) (p q : Nat) :
    tblock (setTblock g b x s) p q = if p * groupBlocks + q = g * groupBlocks + b then x else tblock s p q :=
  smGet_put_rises h.sramRises _ _ _ _ fun _ => rfl

theorem blockStep_setTblock {s : State} (h : MemoryWf s) (g b : Nat) (x : SramBlock) : BlockStep g b s (setTblock g b x s) :=
  ⟨(setTblock_does ..).widen rfl, .of_regs rfl, fun _ _ n => (tblock_setTblock_key h ..).trans (if_neg n), .of_flt rfl⟩

theorem blockStep_writeTblock {s : State} (h : MemoryWf s) (g b : Nat) (d : DWord) : BlockStep g b s (writeTblock g b d s) :=
  (blockStep_mem (injectInto_does ..)).trans (blockStep_setTblock ((injectInto_does ..).mem h) ..)

theorem writeTblock_uninjected {s : State} (h : s.mem.inject = none) (g b : Nat) (d : DWord) : writeTblock g b d s = setTblock g b ⟨.good, d, checkBits d⟩ s := by
  unfold writeTblock injectInto
  rw [h]

theorem recordBadRead_does_only (b mem inst blk : Nat) {s : State} (hs : TablesRise s) :
    RegsKept [(.memLastRead, 0, 0), (.memLastAddr, 0, 0)] s (recordBadRead b mem inst blk s) := by
  have t1 := (modCell_does .memLastRead 0 0 (fun w => setFld (setFld w 29 24 mem) 23 16 inst) s).tables hs
  have t2 := (setCell_does .memLastAddr 0 0 (w32 blk) (modCell .memLastRead 0 0 (fun w => setFld (setFld w 29 24 mem) 23 16 inst) s)).tables t1
  exact (((RegsKept.refl _ s).set hs.regs (.head _) _).set t1.regs (.tail _ (.head _)) _).ev t2.regs (.head _) _

theorem blockStep_recordBadRead {s : State} (hs : TablesRise s) (g b k mem inst blk : Nat) : BlockStep g b s (recordBadRead k mem inst blk s) :=
  have d : Does [.regs, .port0, .port1] s (recordBadRead k mem inst blk s) := recordBadRead_does ..
  ⟨d.widen rfl, (recordBadRead_does_only k mem inst blk hs).widen fun _ hx => .tail _ (.tail _ (.tail _ hx)),
    fun _ _ _ => tblock_of (d.only.same .sram (by decide)) .., .of_flt (d.only.same .flt (by decide))⟩

theorem tells_raise_of {src idx : Nat} {cap : List Word} {s u : State} {tgt : Target} {m a : Nat} (h : u.flt = s.flt) : Tells s (raise src idx cap u tgt m a) :=
  (Tells.of_flt h).trans (tells_raise ..)

/-- R327: a correction is counted, and raised where it is the first of its memory and number in the course. -/
theorem sramCorrected_tells {s : State} (hs : TablesRise s) (mem inst blk syn master access : Nat) :
    RegsKept [(.memCntCorr, mem, 0)] s (sramCorrected mem inst blk syn master access s) ∧ Tells s (sramCorrected mem inst blk syn master access s) ∧
      cell (sramCorrected mem inst blk syn master access s) .memCntCorr mem = incSat (cell s .memCntCorr mem) 31 0 1 ∧
      ((mem, inst) ∉ s.mem.corrRaised → Reported Src.memSramCorr inst [w32 mem, w32 inst, w32 blk, w32 syn] s (sramCorrected mem inst blk syn master access s) ∧
        (mem, inst) ∈ (sramCorrected mem inst blk syn master access s).mem.corrRaised) ∧
      ((mem, inst) ∈ s.mem.corrRaised → (sramCorrected mem inst blk syn master access s).flt = s.flt) := by
  have hk : RegsKept [(.memCntCorr, mem, 0)] s (count .memCntCorr mem 31 0 1 s) := regsKept_setCell hs.regs _ _ _ _
  have hc : cell (count .memCntCorr mem 31 0 1 s) .memCntCorr mem = incSat (cell s .memCntCorr mem) 31 0 1 := cell_count hs.regs ..
  have hr : (count .memCntCorr mem 31 0 1 s).mem.corrRaised = s.mem.corrRaised := rfl
  unfold sramCorrected
  dsimp only
  rw [hr]
  by_cases hm : (mem, inst) ∈ s.mem.corrRaised
  · rw [List.contains_eq_mem, decide_eq_true hm, if_pos rfl]
    exact ⟨hk, .of_flt rfl, hc, fun h => absurd hm h, fun _ => rfl⟩
  · rw [List.contains_eq_mem, decide_eq_false hm, if_neg nofun]
    exact ⟨hk.keep rfl, tells_raise_of rfl, hc, fun _ => ⟨reported_raise rfl, .head _⟩, fun h => absurd h hm⟩

theorem blockStep_sramCorrected {s : State} (hs : TablesRise s) (g b blk syn master access : Nat) :
    BlockStep g b s (sramCorrected (blockMemory b).1 g blk syn master access s) :=
  have d : Does [.regs, .flt, .mem] s (sramCorrected (blockMemory b).1 g blk syn master access s) := sramCorrected_does ..
  have h := sramCorrected_tells hs (blockMemory b).1 g blk syn master access
  ⟨d.widen rfl, h.1.widen (List.cons_subset.2 ⟨.head _, List.nil_subset _⟩),
    fun _ _ _ => tblock_of (d.only.same .sram (by decide)) .., h.2.1⟩

/-- R327: an uncorrectable block is counted, and raised but in the memories with a source of their own. -/
theorem sramUncorrected_tells {s : State} (hs : TablesRise s) {mem : Nat} (hmem : mem < 11) (inst blk master access : Nat) :
    RegsKept [(.memCntUncorr, mem, 0), (.memEvt, 0, 0)] s (sramUncorrected mem inst blk master access s) ∧ Tells s (sramUncorrected mem inst blk master access s) ∧
      cell (sramUncorrected mem inst blk master access s) .memCntUncorr mem = incSat (cell s .memCntUncorr mem) 31 0 1 ∧
      (mem ≠ 2 → mem ≠ 3 → mem ≠ 8 → Reported Src.memSramUncorr inst [w32 mem, w32 inst, w32 blk] s (sramUncorrected mem inst blk master access s)) := by
  have t1 : TablesRise (count .memCntUncorr mem 31 0 1 s) := (count_does ..).tables hs
  have hk : RegsKept [(.memCntUncorr, mem, 0), (.memEvt, 0, 0)] s (count .memCntUncorr mem 31 0 1 s) := (RegsKept.refl _ s).set hs.regs (.head _) _
  have hc : cell (count .memCntUncorr mem 31 0 1 s) .memCntUncorr mem = incSat (cell s .memCntUncorr mem) 31 0 1 := cell_count hs.regs ..
  unfold sramUncorrected
  dsimp only
  by_cases hm : mem = 2 ∨ mem = 3 ∨ mem = 8
  · rw [if_pos hm]
    refine ⟨hk, .of_flt rfl, hc, fun h2 h3 h8 => ?_⟩
    rcases hm with h | h | h
    exacts [absurd h h2, absurd h h3, absurd h h8]
  · rw [if_neg hm]
    refine ⟨hk.ev t1.regs (.tail _ (.head _)) 17, tells_raise_of (event_flt .memEvt 0 17 (count .memCntUncorr mem 31 0 1 s)), ?_,
      fun _ _ _ => reported_raise (event_btr .memEvt 0 17 (count .memCntUncorr mem 31 0 1 s))⟩
    exact (cell_event_other t1.regs .memEvt 0 17 (regOff_ne (at_mem.1 mem hmem).2 (at_mem.2 _ (by decide)) nofun)).trans hc

theorem blockMemory_lt (b : Nat) : (blockMemory b).1 < 2 := by
  unfold blockMemory
  split
  · exact Nat.zero_lt_two
  · exact Nat.one_lt_two

theorem blockStep_sramUncorrected {s : State} (hs : TablesRise s) (g b blk master access : Nat) :
    BlockStep g b s (sramUncorrected (blockMemory b).1 g blk master access s) :=
  have d : Does [.regs, .flt, .port0, .port1] s (sramUncorrected (blockMemory b).1 g blk master access s) := sramUncorrected_does ..
  have h := sramUncorrected_tells hs (mem := (blockMemory b).1) (by have := blockMemory_lt b; omega) g blk master access
  ⟨d.widen rfl, h.1.widen (List.cons_subset.2 ⟨.tail _ (.head _), List.cons_subset.2 ⟨.tail _ (.tail _ (.head _)), List.nil_subset _⟩⟩),
    fun _ _ _ => tblock_of (d.only.same .sram (by decide)) .., h.2.1⟩

/-- R330: a block that joins the restore queue stands in it. -/
theorem mem_queueRestore {g b : Nat} {s : State} (hl : s.mem.restore.length < 128) (hf : smGet false s.mem.restoreFailed (g * groupBlocks + b) = false) :
    (g, b) ∈ (queueRestore g b s).mem.restore := by
  unfold queueRestore
  rw [hf, decide_eq_false (by omega), Bool.or_false, Bool.or_false]
  split
  next h => simpa using h
  next h => exact List.mem_append_right _ (.head _)

/-- A block that is found uncorrectable. -/
def blockDamaged (g b : Nat) (s : State) : State := setTblock g b { tblock s g b with phase := .damaged } s

theorem damageTblock_eq (g b master access : Nat) (s : State) : damageTblock g b master access s =
    queueRestore g b (sramUncorrected (blockMemory b).1 g (blockMemory b).2 master access (blockDamaged g b s)) := rfl

/-- R325, R327, R330. -/
theorem damageTblock_damages {s : State} (hs : TablesRise s) (hm : MemoryWf s) (g b master access : Nat) :
    BlockStep g b s (damageTblock g b master access s) ∧ (tblock (damageTblock g b master access s) g b).phase = .damaged ∧
      cell (damageTblock g b master access s) .memCntUncorr (blockMemory b).1 = incSat (cell s .memCntUncorr (blockMemory b).1) 31 0 1 ∧
      Reported Src.memSramUncorr g [w32 (blockMemory b).1, w32 g, w32 (blockMemory b).2] s (damageTblock g b master access s) ∧
      (s.mem.restore.length < 128 → smGet false s.mem.restoreFailed (g * groupBlocks + b) = false → (g, b) ∈ (damageTblock g b master access s).mem.restore) := by
  have hb := blockMemory_lt b
  have t1 : TablesRise (blockDamaged g b s) := (setTblock_does ..).tables hs
  have h1 : BlockStep g b s (blockDamaged g b s) := blockStep_setTblock hm ..
  have h2 := blockStep_sramUncorrected t1 g b (blockMemory b).2 master access
  obtain ⟨-, -, h3, h4⟩ := sramUncorrected_tells t1 (mem := (blockMemory b).1) (by omega) g (blockMemory b).2 master access
  have d2 : Does [.regs, .flt, .port0, .port1] (blockDamaged g b s) (sramUncorrected (blockMemory b).1 g (blockMemory b).2 master access (blockDamaged g b s)) := sramUncorrected_does ..
  rw [damageTblock_eq]
  have d3 : Does [.mem] _ (queueRestore g b (sramUncorrected (blockMemory b).1 g (blockMemory b).2 master access (blockDamaged g b s))) := queueRestore_does ..
  refine ⟨h1.trans (h2.trans (blockStep_mem d3)), ?_, ?_, ?_, fun hl hf => mem_queueRestore ?_ ?_⟩
  · rw [tblock_of (d3.only.same .sram (by decide)), tblock_of (d2.only.same .sram (by decide)), blockDamaged, tblock_setTblock hm, if_pos rfl]
  · exact (cell_regs (d3.only.same .regs (by decide)) ..).trans h3
  · exact ((h4 (by omega) (by omega) (by omega)).from rfl).tells (.of_flt (d3.only.same .flt (by decide)))
  · rw [d2.only.same .mem (by decide)]; exact hl
  · rw [d2.only.same .mem (by decide)]; exact hf

/-! ### The scrub of the tables (R328) -/

/-- What the scrub makes of the block that it reads. -/
def scrubRead (g b : Nat) (s : State) : State :=
  match (tblock s g b).phase, readOutcome (tblock s g b).data (tblock s g b).check, (readTblock g b 4 4 s).1 with
  | .good, .corrected _ _, some d => writeTblock g b d (readTblock g b 4 4 s).2
  | _, _, _ => (readTblock g b 4 4 s).2

/-- The block that the scrub reads next. -/
def TableGroup.scrubbed (next : Nat) (t : TableGroup) : TableGroup := { t with scrubPos := next }

theorem scrubTable_runs {g : Nat} {s : State} (hr : repointerRuns s = true) (hd : domOn s g = true) {b next : Nat} (hb : b = (tgroup s g).scrubPos)
    (hn : next = if b + 1 = groupBlocks then 0 else b + 1) : scrubTable g s =
      if next = 0 ∧ firstGroupOn (modGroup g (.scrubbed next) (scrubRead g b s)) = some g then
        countWrap .memScrubStat 0 15 0 (modGroup g (.scrubbed next) (scrubRead g b s))
      else modGroup g (.scrubbed next) (scrubRead g b s) := by
  subst hb hn
  unfold scrubTable
  rw [hr, hd]
  rfl

theorem readTblock_clean {s : State} {g b master access : Nat} {d : DWord} (hg : (tblock s g b).phase = .good)
    (ho : readOutcome (tblock s g b).data (tblock s g b).check = .clean d) : readTblock g b master access s = (some d, s) := by
  unfold readTblock
  dsimp only
  rw [hg]
  dsimp only
  rw [ho]

theorem readTblock_corrected {s : State} {g b master access : Nat} {d : DWord} {syn : Nat} (hg : (tblock s g b).phase = .good)
    (ho : readOutcome (tblock s g b).data (tblock s g b).check = .corrected d syn) :
    readTblock g b master access s = (some d, sramCorrected (blockMemory b).1 g (blockMemory b).2 syn master access s) := by
  unfold readTblock
  dsimp only
  rw [hg]
  dsimp only
  rw [ho]

theorem readTblock_uncorrectable {s : State} {g b master access : Nat} (hg : (tblock s g b).phase = .good)
    (ho : readOutcome (tblock s g b).data (tblock s g b).check = .uncorrectable) : readTblock g b master access s = (none, damageTblock g b master access s) := by
  unfold readTblock
  dsimp only
  rw [hg]
  dsimp only
  rw [ho]

theorem readTblock_damaged {s : State} {g b access : Nat} (hg : (tblock s g b).phase = .damaged) :
    readTblock g b 4 access s = (none, queueRestore g b (recordBadRead 30 (blockMemory b).1 g (blockMemory b).2 s)) := by
  unfold readTblock
  dsimp only
  rw [hg]
  rfl

theorem scrubRead_clean {s : State} {g b : Nat} {d : DWord} (hg : (tblock s g b).phase = .good)
    (ho : readOutcome (tblock s g b).data (tblock s g b).check = .clean d) : scrubRead g b s = s := by
  unfold scrubRead
  rw [readTblock_clean hg ho, hg, ho]

theorem scrubRead_corrected {s : State} {g b : Nat} {d : DWord} {syn : Nat} (hg : (tblock s g b).phase = .good)
    (ho : readOutcome (tblock s g b).data (tblock s g b).check = .corrected d syn) :
    scrubRead g b s = writeTblock g b d (sramCorrected (blockMemory b).1 g (blockMemory b).2 syn 4 4 s) := by
  unfold scrubRead
  rw [readTblock_corrected hg ho, hg, ho]

theorem scrubRead_uncorrectable {s : State} {g b : Nat} (hg : (tblock s g b).phase = .good)
    (ho : readOutcome (tblock s g b).data (tblock s g b).check = .uncorrectable) : scrubRead g b s = damageTblock g b 4 4 s := by
  unfold scrubRead
  rw [readTblock_uncorrectable hg ho, hg, ho]

theorem scrubRead_damaged {s : State} {g b : Nat} (hg : (tblock s g b).phase = .damaged) :
    scrubRead g b s = queueRestore g b (recordBadRead 30 (blockMemory b).1 g (blockMemory b).2 s) := by
  unfold scrubRead
  rw [readTblock_damaged hg, hg]

theorem blockStep_scrubRead {s : State} (hs : TablesRise s) (hm : MemoryWf s) (g b : Nat) : BlockStep g b s (scrubRead g b s) := by
  cases hg : (tblock s g b).phase with
  | good =>
    cases ho : readOutcome (tblock s g b).data (tblock s g b).check with
    | clean d => rw [scrubRead_clean hg ho]; exact .refl ..
    | corrected d syn =>
      rw [scrubRead_corrected hg ho]
      exact (blockStep_sramCorrected hs ..).trans (blockStep_writeTblock ((sramCorrected_does ..).mem hm) ..)
    | uncorrectable => rw [scrubRead_uncorrectable hg ho]; exact (damageTblock_damages hs hm g b 4 4).1
  | damaged => rw [scrubRead_damaged hg]; exact (blockStep_recordBadRead hs ..).trans (blockStep_mem (queueRestore_does ..))
  | empty =>
    have h : scrubRead g b s = recordBadRead 31 (blockMemory b).1 g (blockMemory b).2 s := by
      unfold scrubRead readTblock
      dsimp only
      rw [hg]
    rw [h]
    exact blockStep_recordBadRead hs ..
  | writing =>
    have h : scrubRead g b s = s := by
      unfold scrubRead readTblock
      dsimp only
      rw [hg]
    rw [h]
    exact .refl ..

/-- What a step of the scrub leaves besides the block. -/
theorem scrubTable_step {s : State} (hs : TablesRise s) (hm : MemoryWf s) {g : Nat} (hr : repointerRuns s = true) (hd : domOn s g = true) {b : Nat}
    (hb : b = (tgroup s g).scrubPos) :
    (tgroup (scrubTable g s) g).scrubPos = (if b + 1 = groupBlocks then 0 else b + 1) ∧ (scrubTable g s).sram = (scrubRead g b s).sram ∧
      (scrubTable g s).flt = (scrubRead g b s).flt ∧ (scrubTable g s).mem = (scrubRead g b s).mem ∧ RegsKept [(.memScrubStat, 0, 0)] (scrubRead g b s) (scrubTable g s) := by
  have h1 := blockStep_scrubRead hs hm g b
  have t1 := h1.does.tables hs
  generalize hn : (if b + 1 = groupBlocks then 0 else b + 1) = next
  have hg : (tgroup (modGroup g (.scrubbed next) (scrubRead g b s)) g).scrubPos = next := by
    rw [tgroup_modGroup t1.groups]
    rfl
  rw [scrubTable_runs hr hd hb hn.symm]
  split
  · exact ⟨hg, rfl, rfl, rfl, RegsKept.set (.of_regs rfl) (u := modGroup g (.scrubbed next) (scrubRead g b s)) t1.regs (.head _) _⟩
  · exact ⟨hg, rfl, rfl, rfl, .of_regs rfl⟩

/-! ### A restore (R330, R331) -/

theorem restorable_of {s t : State} (h1 : t.groups = s.groups) (h2 : t.hbm = s.hbm) (h3 : t.pwr = s.pwr) (h4 : Tells s t) (g b : Nat) :
    restorable t g b = restorable s g b := by
  have hp : powerDom t = powerDom s := funext (powerDom_of h3)
  unfold restorable qaReachable stackKeeps domKeeps ctlServes domOn archiveCrcHolds archiveGranule
  rw [tgroup_of h1, h2, hp, h4.isIsolated]

/-- R332: a read of HBM is counted by its severity. -/
theorem hbmSeen_step {s : State} (hs : TablesRise s) (qa : Nat) (sev : HbmSeverity) (loc : HbmLoc) (master access : Nat) :
    RegsKept [(.memHbmCnt, 0, 0)] s (hbmSeen qa sev loc master access s) ∧ Tells s (hbmSeen qa sev loc master access s) ∧
      (hbmSeen qa sev loc master access s).mem = { s.mem with hbmCorr := (hbmSeen qa sev loc master access s).mem.hbmCorr } := by
  cases sev with
  | none => exact ⟨.refl _ _, .refl _, rfl⟩
  | uncorrectable => exact ⟨regsKept_setCell hs.regs _ _ _ _, .of_flt rfl, rfl⟩
  | corrected c =>
    have h1 : RegsKept [(.memHbmCnt, 0, 0)] s (count .memHbmCnt 0 15 0 1 s) := regsKept_setCell hs.regs _ _ _ _
    unfold hbmSeen hbmCorrected
    dsimp only
    split
    · exact ⟨h1, .of_flt rfl, rfl⟩
    · exact ⟨h1.keep rfl, tells_raise_of rfl, rfl⟩

theorem hbmSeen_counts {s : State} (hs : TablesRise s) (qa : Nat) (code : BitVec 2) (loc : HbmLoc) (master access : Nat) :
    cell (hbmSeen qa (.corrected code) loc master access s) .memHbmCnt = incSat (cell s .memHbmCnt) 15 0 1 := by
  have hc : cell (count .memHbmCnt 0 15 0 1 s) .memHbmCnt = incSat (cell s .memHbmCnt) 15 0 1 := cell_count hs.regs ..
  unfold hbmSeen hbmCorrected
  dsimp only
  split
  · exact hc
  · exact hc

/-- The restore queue without its head. -/
def MemProt.dequeued (rest : List (Nat × Nat)) (m : MemProt) : MemProt := { m with restore := rest }

/-- The read of the archive for a restore. -/
def restoreSeen (g b : Nat) (sev : HbmSeverity) (loc : HbmLoc) (rest : List (Nat × Nat)) (s : State) : State :=
  if qaReachable (s.modMem (.dequeued rest)) (archiveQa g + 8 * b) then hbmSeen (archiveQa g + 8 * b) sev loc 4 1 (s.modMem (.dequeued rest)) else s.modMem (.dequeued rest)

/-- What is restored from the archive. -/
def archiveData (g b : Nat) (s : State) : DWord := BitVec.ofNat 64 (leNat (hbmRead s.hbm.bytes (archiveQa g + 8 * b) 8))

/-- A restore's end is marked. -/
def restoreTold (src bit_ hi lo g b : Nat) (tgt : Target) (s : State) : State :=
  raise src g (blockCapture g b) (event .memEvt 0 bit_ (count .memRestoreCnt 0 hi lo 1 s)) tgt 4 5

/-- A restore has failed. -/
def MemProt.failed (k : Nat) (m : MemProt) : MemProt := { m with restoreFailed := smPut false m.restoreFailed k true }

theorem tableRestore_passes {sev : HbmSeverity} {loc : HbmLoc} {g b : Nat} {rest : List (Nat × Nat)} {s : State} (hq : s.mem.restore = (g, b) :: rest)
    (hr : repointerRuns s = true) (h : (tblock s g b).phase ≠ .damaged ∨ domOn s g = false) : tableRestore sev loc s = s.modMem (.dequeued rest) := by
  unfold tableRestore
  rw [hq]
  dsimp only
  rw [hr, if_neg (by decide)]
  refine if_pos ?_
  show (!((tblock s g b).phase == .damaged && domOn s g)) = true
  rcases h with h | h
  · rw [beq_false_of_ne h]; rfl
  · rw [h, Bool.and_false]; rfl

theorem tableRestore_reads {sev : HbmSeverity} {loc : HbmLoc} {g b : Nat} {rest : List (Nat × Nat)} {s : State} (hq : s.mem.restore = (g, b) :: rest)
    (hr : repointerRuns s = true) (hp : (tblock s g b).phase = .damaged) (hd : domOn s g = true) : tableRestore sev loc s =
      if sev != .uncorrectable && restorable (restoreSeen g b sev loc rest s) g b then
        restoreTold Src.memTableRestored 19 31 16 g b .none (writeTblock g b (archiveData g b (restoreSeen g b sev loc rest s)) (restoreSeen g b sev loc rest s))
      else restoreTold Src.memRestoreFail 20 15 0 g b .repointer ((restoreSeen g b sev loc rest s).modMem (.failed (g * groupBlocks + b))) := by
  have h : ((tblock (s.modMem (.dequeued rest)) g b).phase == .damaged && domOn (s.modMem (.dequeued rest)) g) = true := by
    show ((tblock s g b).phase == .damaged && domOn s g) = true
    rw [hp, hd]; rfl
  unfold tableRestore
  rw [hq]
  dsimp only
  rw [hr, if_neg (by decide)]
  refine (if_neg ?_).trans rfl
  show ¬(!((tblock (s.modMem (.dequeued rest)) g b).phase == .damaged && domOn (s.modMem (.dequeued rest)) g)) = true
  rw [h]
  decide

theorem dequeued_rises {s : State} (hs : TablesRise s) (rest : List (Nat × Nat)) : TablesRise (s.modMem (.dequeued rest)) :=
  { hs with mem := { hs.mem with } }

/-- What the read of the archive leaves. -/
theorem restoreSeen_step {s : State} (hs : TablesRise s) (g b : Nat) (sev : HbmSeverity) (loc : HbmLoc) (rest : List (Nat × Nat)) :
    Does [.regs, .flt, .mem] (s.modMem (.dequeued rest)) (restoreSeen g b sev loc rest s) ∧ RegsKept [(.memHbmCnt, 0, 0)] s (restoreSeen g b sev loc rest s) ∧
      Tells s (restoreSeen g b sev loc rest s) ∧ (restoreSeen g b sev loc rest s).mem = { s.mem with restore := rest, hbmCorr := (restoreSeen g b sev loc rest s).mem.hbmCorr } := by
  unfold restoreSeen
  split
  · obtain ⟨h1, h2, h3⟩ := hbmSeen_step (dequeued_rises hs rest) (archiveQa g + 8 * b) sev loc 4 1
    exact ⟨hbmSeen_does .., (RegsKept.of_regs rfl).trans h1, (Tells.of_flt (s := s) (t := s.modMem (.dequeued rest)) rfl).trans h2, h3⟩
  · exact ⟨.refl _ _, .of_regs rfl, .of_flt rfl, rfl⟩

/-- What the mark of a restore's end leaves. -/
theorem restoreTold_tells {s : State} (hs : TablesRise s) (src k hi lo g b : Nat) (tgt : Target) :
    RegsKept [(.memRestoreCnt, 0, 0), (.memEvt, 0, 0)] s (restoreTold src k hi lo g b tgt s) ∧ Tells s (restoreTold src k hi lo g b tgt s) ∧
      cell (restoreTold src k hi lo g b tgt s) .memRestoreCnt = incSat (cell s .memRestoreCnt) hi lo 1 ∧ Evented .memEvt 0 k s (restoreTold src k hi lo g b tgt s) ∧
      Reported src g (blockCapture g b) s (restoreTold src k hi lo g b tgt s) ∧
      (restoreTold src k hi lo g b tgt s).mem = s.mem ∧ (restoreTold src k hi lo g b tgt s).sram = s.sram := by
  have t1 : TablesRise (count .memRestoreCnt 0 hi lo 1 s) := (count_does ..).tables hs
  have hk : RegsKept [(.memRestoreCnt, 0, 0)] s (count .memRestoreCnt 0 hi lo 1 s) := regsKept_setCell hs.regs _ _ _ _
  have hne : regOff .memEvt 0 0 ≠ regOff .memRestoreCnt 0 0 := regOff_ne (at_mem.2 _ (by decide)) (at_mem.2 _ (by decide)) nofun
  have d : Does [.regs, .port0, .port1] (count .memRestoreCnt 0 hi lo 1 s) (event .memEvt 0 k (count .memRestoreCnt 0 hi lo 1 s)) := event_does ..
  have he : Evented .memEvt 0 k s (event .memEvt 0 k (count .memRestoreCnt 0 hi lo 1 s)) :=
    (evented_event t1.regs ..).before hk fun x hx => by cases List.mem_singleton.1 hx; exact hne
  exact ⟨((RegsKept.refl _ s).set hs.regs (.head _) _).ev t1.regs (.tail _ (.head _)) k, tells_raise_of (event_flt .memEvt 0 k (count .memRestoreCnt 0 hi lo 1 s)),
    (cell_event_other t1.regs .memEvt 0 k hne.symm).trans (cell_count hs.regs ..), he, reported_raise (event_btr .memEvt 0 k (count .memRestoreCnt 0 hi lo 1 s)),
    d.only.same .mem (by decide), d.only.same .sram (by decide)⟩

/-- Settles O44. -/
theorem tablesAreScrubbedAndRestored : Obligations.TablesAreScrubbedAndRestored := by
  unfold Obligations.TablesAreScrubbedAndRestored
  intro g s hu hs hm
  refine ⟨fun h => ?_, fun b x hr hd hb _ hx => ?_, fun read h => ?_, fun sev loc b rest hq hr hb => ?_⟩
  · refine (upNext_up hu).trans (congrArg _ (if_neg ?_))
    rcases h with h | h <;> simp [h]
  · subst hx
    have h1 := blockStep_scrubRead hs hm g b
    obtain ⟨k1, k2, k3, k4, k5⟩ := scrubTable_step hs hm hr hd hb
    have kc : ∀ m < 11, cell (scrubTable g s) .memCntCorr m = cell (scrubRead g b s) .memCntCorr m ∧
        cell (scrubTable g s) .memCntUncorr m = cell (scrubRead g b s) .memCntUncorr m := fun m hm =>
      have ne (r : Reg) (hx : regExists r m 0 = true) (hn : r ≠ .memScrubStat) : ∀ x ∈ [(Reg.memScrubStat, 0, 0)], regOff r m 0 ≠ regOff x.1 x.2.1 x.2.2 := fun x hm => by
        cases List.mem_singleton.1 hm
        exact regOff_ne hx (at_mem.2 _ (by decide)) fun e => hn (congrArg Prod.fst e)
      ⟨k5 _ _ _ (ne _ (at_mem.1 m hm).1 nofun), k5 _ _ _ (ne _ (at_mem.1 m hm).2 nofun)⟩
    have hb2 := blockMemory_lt b
    obtain ⟨c1, c2⟩ := kc (blockMemory b).1 (by omega)
    have told {src idx : Nat} {cap : List Word} (h : Reported src idx cap s (scrubRead g b s)) : Reported src idx cap s (scrubTable g s) := h.tells (.of_flt k3)
    refine ⟨_, upNext_up hu, (scrubTable_does ..).only, (h1.regs.widen ?_).trans (k5.widen ?_), k1, fun p q n => ?_, fun d hg ho => ?_, fun d syn hg ho hi => ?_, fun hg ho => ?_,
      fun hg hl hf => ?_⟩
    · exact List.subset_append_left _ [(Reg.memScrubStat, 0, 0)]
    · exact List.subset_append_right (tableRegs (blockMemory b).1) _
    · exact (tblock_of k2 ..).trans (h1.blocks p q n)
    · rw [k2, k3, scrubRead_clean hg ho]
      exact ⟨rfl, rfl⟩
    · have hw := scrubRead_corrected hg ho
      obtain ⟨-, -, j3, j4, -⟩ := sramCorrected_tells hs (blockMemory b).1 g (blockMemory b).2 syn 4 4
      have hi' : (sramCorrected (blockMemory b).1 g (blockMemory b).2 syn 4 4 s).mem.inject = none := by
        unfold sramCorrected
        dsimp only
        split
        · exact hi
        · exact hi
      rw [writeTblock_uninjected hi'] at hw
      refine ⟨?_, ?_, fun hn => told ?_⟩
      · rw [tblock_of k2, hw, tblock_setTblock ((sramCorrected_does ..).mem hm), if_pos rfl]
      · rw [c1, hw]; exact j3
      · rw [hw]; exact (j4 hn).1
    · obtain ⟨-, j2, j3, j4, j5⟩ := damageTblock_damages hs hm g b 4 4
      have hw := scrubRead_uncorrectable hg ho
      rw [← hw] at j2 j3 j4 j5
      exact ⟨by rw [tblock_of k2]; exact j2, c2.trans j3, told j4, fun hl hf => k4 ▸ j5 hl hf⟩
    · have d : Does [.regs, .port0, .port1] s (recordBadRead 30 (blockMemory b).1 g (blockMemory b).2 s) := recordBadRead_does ..
      rw [k4, scrubRead_damaged hg]
      refine mem_queueRestore ?_ ?_
      · rw [d.only.same .mem (by decide)]; exact hl
      · rw [d.only.same .mem (by decide)]; exact hf
  · refine (upNext_up hu).trans (congrArg _ ?_)
    unfold tableRestore
    rcases h with h | h
    · rw [h]
    · split
      · rw [h]; rfl
      · rfl
  · obtain ⟨d1, k1, k2, k3⟩ := restoreSeen_step hs g b sev loc rest
    have tv := d1.tables (dequeued_rises hs rest)
    let v := restoreSeen g b sev loc rest s
    let w := writeTblock g b (archiveData g b v) v
    let f := v.modMem (.failed (g * groupBlocks + b))
    have dw : Does [.sram, .mem] v w := writeTblock_does ..
    have hrf : Rises (smPut false v.mem.restoreFailed (g * groupBlocks + b) true) := rises_put tv.mem.1 ..
    have tf : TablesRise f := { tv with mem := ⟨hrf, tv.mem.2⟩ }
    have hwd := restoreTold_tells (dw.tables tv) Src.memTableRestored 19 31 16 g b .none
    have hfd := restoreTold_tells tf Src.memRestoreFail 20 15 0 g b .repointer
    generalize hwt : restoreTold Src.memTableRestored 19 31 16 g b .none w = wt at hwd
    generalize hft : restoreTold Src.memRestoreFail 20 15 0 g b .repointer f = ft at hfd
    obtain ⟨w1, w2, w3, w4, w5, w6, w7⟩ := hwd
    obtain ⟨f1, f2, f3, f4, f5, f6, f7⟩ := hfd
    have hbtr : v.btr = s.btr := d1.only.same .btr (by decide)
    have kw : RegsKept [(.memHbmCnt, 0, 0)] s w := k1.keep (dw.only.same .regs (by decide))
    have kf : RegsKept [(.memHbmCnt, 0, 0)] s f := k1.keep rfl
    have ne : ∀ x ∈ [(Reg.memHbmCnt, 0, 0)], regOff .memEvt 0 ≠ regOff x.1 x.2.1 x.2.2 ∧ regOff .memRestoreCnt 0 ≠ regOff x.1 x.2.1 x.2.2 := by decide +kernel
    have hh : ∀ x ∈ [(Reg.memRestoreCnt, 0, 0), (.memEvt, 0, 0)], regOff .memHbmCnt 0 ≠ regOff x.1 x.2.1 x.2.2 := by decide +kernel
    have hv : v.mem = { s.mem with restore := rest, hbmCorr := v.mem.hbmCorr } := k3
    have sub (x : Reg) : [(x, 0, 0)] ⊆ [(Reg.memEvt, 0, 0), (.memRestoreCnt, 0, 0), (.memHbmCnt, 0, 0)] ↔ (x, 0, 0) ∈ [(Reg.memEvt, 0, 0), (.memRestoreCnt, 0, 0), (.memHbmCnt, 0, 0)] :=
      ⟨fun h => h (.head _), fun h => List.cons_subset.2 ⟨h, List.nil_subset _⟩⟩
    have sub2 : [(Reg.memRestoreCnt, 0, 0), (.memEvt, 0, 0)] ⊆ [(Reg.memEvt, 0, 0), (.memRestoreCnt, 0, 0), (.memHbmCnt, 0, 0)] :=
      List.cons_subset.2 ⟨.tail _ (.head _), List.cons_subset.2 ⟨.head _, List.nil_subset _⟩⟩
    have wrest : w.mem.restore = rest := by
      have : w.mem.restore = v.mem.restore := by
        show (injectInto (blockMemory b).1 g _ v).2.mem.restore = _
        unfold injectInto
        split
        · split <;> rfl
        · rfl
      rw [this, hv]
    have frest : f.mem.restore = rest := by
      show v.mem.restore = rest
      rw [hv]
    by_cases hact : (tblock s g b).phase = .damaged ∧ domOn s g = true
    · obtain ⟨hp, hd⟩ := hact
      have heq := tableRestore_reads (sev := sev) (loc := loc) hq hr hp hd
      rw [show restoreTold Src.memTableRestored 19 31 16 g b .none _ = wt from hwt, show restoreTold Src.memRestoreFail 20 15 0 g b .repointer _ = ft from hft,
        restorable_of (t := restoreSeen g b sev loc rest s) (d1.only.same .groups (by decide)) (d1.only.same .hbm (by decide)) (d1.only.same .pwr (by decide))
          ((Tells.of_flt (s := s.modMem (.dequeued rest)) (t := s) rfl).trans k2),
        restorable_of (s := s) (t := s.modMem (.dequeued rest)) rfl rfl rfl (.of_flt rfl)] at heq
      refine ⟨_, (upNext_up hu).trans (congrArg _ rfl), (tableRestore_does ..).only, ?_, ?_, fun code _ _ hq' hs' => ?_, fun h => ?_, fun _ _ hs' hr' hi => ?_, fun _ _ h => ?_⟩
      · rw [heq]
        split
        · exact (kw.widen ((sub _).2 (by decide))).trans (w1.widen sub2)
        · exact (kf.widen ((sub _).2 (by decide))).trans (f1.widen sub2)
      · rw [heq]
        split
        · rw [w6, wrest]
        · rw [f6, frest]
      · subst hs'
        have hc : cell v .memHbmCnt = incSat (cell s .memHbmCnt) 15 0 1 := by
          show cell (restoreSeen g b _ loc rest s) .memHbmCnt 0 = _
          unfold restoreSeen
          rw [show qaReachable (s.modMem (.dequeued rest)) (archiveQa g + 8 * b) = true from hq', if_pos rfl]
          exact hbmSeen_counts (dequeued_rises hs rest) ..
        rw [heq]
        split
        · exact (w1 _ _ _ hh).trans ((cell_regs (dw.only.same .regs (by decide)) ..).trans hc)
        · exact (f1 _ _ _ hh).trans hc
      · rcases h with h | h
        · exact absurd hp h
        · rw [hd] at h; cases h
      · have hgo : tableRestore sev loc s = wt := heq.trans (if_pos (by rw [hr', bne_iff_ne.2 hs']; rfl))
        have hvi : v.mem.inject = none := by rw [hv]; exact hi
        have hwv : w = setTblock g b ⟨.good, archiveData g b v, checkBits (archiveData g b v)⟩ v := writeTblock_uninjected hvi ..
        have hbl : tblock wt g b = ⟨.good, archiveData g b v, checkBits (archiveData g b v)⟩ := by
          rw [tblock_of w7, hwv, tblock_setTblock (d1.mem (show MemoryWf (s.modMem (.dequeued rest)) from { hm with })), if_pos rfl]
        have hdata : archiveData g b v = archiveData g b s := by unfold archiveData; rw [show v.hbm = s.hbm from d1.only.same .hbm (by decide)]
        show (tblock (tableRestore sev loc s) g b).phase = _ ∧ _
        rw [hgo, hbl, hdata]
        exact ⟨rfl, rfl, w5.from ((dw.only.same .btr (by decide)).trans hbtr), w4.before kw fun x hx => (ne x hx).1, w3.trans (by rw [kw _ _ _ fun x hx => (ne x hx).2])⟩
      · have hgo : tableRestore sev loc s = ft := heq.trans (if_neg (by rcases h with h | h <;> simp [h]))
        have hfl : smGet false (smPut false v.mem.restoreFailed (g * groupBlocks + b) true) (g * groupBlocks + b) = true :=
          (smGet_put_rises tv.mem.1 _ _ _ _ fun _ => rfl).trans (if_pos rfl)
        show (tableRestore sev loc s).sram = _ ∧ _
        rw [hgo, f6, f7]
        exact ⟨d1.only.same .sram (by decide), hfl, f5.from hbtr, f4.before kf fun x hx => (ne x hx).1,
          f3.trans (by rw [kf _ _ _ fun x hx => (ne x hx).2])⟩
    · have hact' : (tblock s g b).phase ≠ .damaged ∨ domOn s g = false := by
        rcases not_and_or.1 hact with h | h
        · exact .inl h
        · exact .inr (by simpa using h)
      have heq := tableRestore_passes (sev := sev) (loc := loc) hq hr hact'
      exact ⟨_, (upNext_up hu).trans (congrArg _ heq), heq ▸ (tableRestore_does ..).only, .of_regs rfl, rfl, fun _ h1 h2 => absurd ⟨h1, h2⟩ hact, fun _ => ⟨rfl, rfl⟩,
        fun h1 h2 => absurd ⟨h1, h2⟩ hact, fun h1 h2 => absurd ⟨h1, h2⟩ hact⟩

end Sys2Proof.Machine
end

section
/-!
SUPPORT. Words in HBM (R173), index entries that are stored and read (R179, R190), and pads of memory errors.
-/
namespace Sys2Proof.Machine

/-! ### Bytes and words -/

theorem length_beBytes : ∀ n v : Nat, (beBytes n v).length = n
  | 0, _ => rfl
  | n + 1, v => congrArg Nat.succ (length_beBytes n v)

theorem foldl_bytes (bs : List Byte) (a : Nat) : bs.foldl (fun a b => a * 256 + b.toNat) a = a * 256 ^ bs.length + beNat bs := by
  induction bs generalizing a with
  | nil => show a = a * 1 + 0; omega
  | cons b bs ih =>
    rw [List.foldl_cons, ih]
    show _ = a * 256 ^ (bs.length + 1) + (b :: bs).foldl _ 0
    rw [List.foldl_cons, ih (0 * 256 + b.toNat), Nat.pow_succ]
    ring

theorem beNat_beBytes : ∀ n v : Nat, beNat (beBytes n v) = v % 256 ^ n
  | 0, v => by rw [Nat.pow_zero, Nat.mod_one]; rfl
  | n + 1, v => by
    show (beBytes n v).foldl _ (0 * 256 + (BitVec.ofNat 8 (v / 256 ^ n)).toNat) = _
    have h : v % 256 ^ (n + 1) = v % 256 ^ n + 256 ^ n * (v / 256 ^ n % 256) := by rw [Nat.pow_succ, Nat.mod_mul]
    rw [foldl_bytes, length_beBytes, beNat_beBytes n v, BitVec.toNat_ofNat, h]
    ring

theorem length_wordBytes (ws : List DWord) : (wordBytes ws).length = 8 * ws.length := by
  induction ws with
  | nil => rfl
  | cons w ws ih =>
    show (beBytes 8 w.toNat ++ wordBytes ws).length = _
    rw [List.length_append, length_beBytes, ih, List.length_cons]
    omega

theorem toWords_wordBytes (ws : List DWord) : toWords ws.length (wordBytes ws) = ws := by
  induction ws with
  | nil => rfl
  | cons w ws ih =>
    have h8 : (beBytes 8 w.toNat).length = 8 := length_beBytes ..
    show BitVec.ofNat 64 (beNat ((beBytes 8 w.toNat ++ wordBytes ws).take 8)) :: toWords ws.length ((beBytes 8 w.toNat ++ wordBytes ws).drop 8) = _
    rw [List.take_left' h8, List.drop_left' h8, ih, beNat_beBytes, Nat.mod_eq_of_lt (show w.toNat < 256 ^ 8 from w.isLt), BitVec.ofNat_toNat, BitVec.setWidth_eq]

/-! ### Stores (R173) -/

theorem hbmRead_hbmStore {s : State} (hm : MemoryWf s) {qa : Nat} {bs : List Byte} (hn : bs ≠ []) : hbmRead (s.hbmStore qa bs).hbm.bytes qa bs.length = bs := by
  refine List.ext_getElem (by rw [length_hbmRead]) fun i h1 h2 => ?_
  have hg : (hbmRead (s.hbmStore qa bs).hbm.bytes qa bs.length)[i] = hbmByte (s.hbmStore qa bs).hbm.bytes (qa + i) := by simp [hbmRead]
  rw [hg, hbmByte_hbmStore hm hn, if_pos ⟨Nat.le_add_right .., by omega⟩, Nat.add_sub_cancel_left, List.getD_eq_getElem _ _ h2]

theorem hbmRead_hbmStore_apart {s : State} (hm : MemoryWf s) {qa : Nat} {bs : List Byte} (hn : bs ≠ []) {a n : Nat} (h : a + n ≤ qa ∨ qa + bs.length ≤ a) :
    hbmRead (s.hbmStore qa bs).hbm.bytes a n = hbmRead s.hbm.bytes a n := by
  refine List.map_congr_left fun i hi => ?_
  have := List.mem_range.1 hi
  rw [hbmByte_hbmStore hm hn, if_neg (by omega)]

theorem wordBytes_ne {ws : List DWord} (h : ws ≠ []) : wordBytes ws ≠ [] := fun e => by
  have := length_wordBytes ws
  rw [e] at this
  exact h (List.length_eq_zero_iff.1 (by simpa using this))

theorem hbmWords_hbmStore {s : State} (hm : MemoryWf s) {qa : Nat} {ws : List DWord} (hn : ws ≠ []) {n : Nat} (hl : ws.length = n) :
    hbmWords (s.hbmStore qa (wordBytes ws)) qa n = ws := by
  subst hl
  unfold hbmWords
  rw [← length_wordBytes, hbmRead_hbmStore hm (wordBytes_ne hn), toWords_wordBytes]

theorem hbmWords_hbmStore_apart {s : State} (hm : MemoryWf s) {qa : Nat} {ws : List DWord} (hn : ws ≠ []) {a n : Nat} (h : a + 8 * n ≤ qa ∨ qa + 8 * ws.length ≤ a) :
    hbmWords (s.hbmStore qa (wordBytes ws)) a n = hbmWords s a n := by
  unfold hbmWords
  rw [hbmRead_hbmStore_apart hm (wordBytes_ne hn) (by rwa [length_wordBytes])]

/-! ### Index entries (R179, R190) -/

theorem length_sealEntry {ws : List DWord} (h : 63 ≤ ws.length) : (sealEntry ws).length = 64 := by
  unfold sealEntry
  rw [List.length_append, List.length_take, Nat.min_eq_left h]
  rfl

theorem take_sealEntry (ws : List DWord) (h : 63 ≤ ws.length) : (sealEntry ws).take 63 = ws.take 63 := by
  unfold sealEntry
  exact List.take_left' (by rw [List.length_take, Nat.min_eq_left h])

theorem entryCrc_sealEntry {ws : List DWord} (h : 63 ≤ ws.length) : entryCrc (sealEntry ws) = entryCrc ws := by
  unfold entryCrc
  rw [take_sealEntry ws h]

theorem getD_sealEntry {ws : List DWord} (h : 63 ≤ ws.length) {i : Nat} (hi : i < 63) : (sealEntry ws).getD i 0 = ws.getD i 0 := by
  have h1 : ((sealEntry ws).take 63).getD i 0 = (ws.take 63).getD i 0 := by rw [take_sealEntry ws h]
  simpa [List.getD, List.getElem?_take, hi] using h1

theorem getD_sealEntry_crc {ws : List DWord} (h : 63 ≤ ws.length) : (sealEntry ws).getD 63 0 = BitVec.ofNat 64 (entryCrc ws) := by
  unfold sealEntry
  have hl : (ws.take 63).length = 63 := by rw [List.length_take, Nat.min_eq_left h]
  simp [List.getD, hl]

theorem entryCrc_lt (ws : List DWord) : entryCrc ws < 2 ^ 32 := by
  unfold entryCrc
  split
  · exact BitVec.isLt _
  · decide

theorem hbmWords_storeEntry {s : State} (hm : MemoryWf s) {ws : List DWord} (h : 63 ≤ ws.length) (c : Nat) :
    hbmWords (storeEntry c ws s) (entryQa c) 64 = sealEntry ws :=
  hbmWords_hbmStore hm (fun e => by have := length_sealEntry h; rw [e] at this; cases this) (length_sealEntry h)

/-- A reader finds the entry that was stored, where its course is the one asked for. -/
theorem readIndex_storeEntry {s : State} (hm : MemoryWf s) {ws : List DWord} (h : 63 ≤ ws.length) {c d : Nat} (hq : entryQa d = entryQa c) :
    readIndex (storeEntry c ws s) d = if dfld (ws.getD 0 0) 63 8 = d then some (sealEntry ws) else none := by
  have hc := entryCrc_lt ws
  have hf : dfld (BitVec.ofNat 64 (entryCrc ws)) 31 0 = entryCrc ws := by
    rw [dfld_ofNat (by decide) (by decide)]
    omega
  unfold readIndex
  rw [hq, hbmWords_storeEntry hm h]
  dsimp only
  rw [getD_sealEntry_crc h, getD_sealEntry h (by decide), entryCrc_sealEntry h, hf]
  simp only [true_and]

theorem readIndex_storeEntry_other {s : State} (hm : MemoryWf s) {ws : List DWord} (h : 63 ≤ ws.length) {c d : Nat} (hq : d % 2097152 ≠ c % 2097152) :
    readIndex (storeEntry c ws s) d = readIndex s d := by
  unfold readIndex
  have hl := length_sealEntry h
  rw [show hbmWords (storeEntry c ws s) (entryQa d) 64 = hbmWords s (entryQa d) 64 from
    hbmWords_hbmStore_apart hm (fun e => by rw [e] at hl; cases hl) (by rw [hl]; unfold entryQa; omega)]

theorem readIndex_of {s t : State} (h : t.hbm = s.hbm) (c : Nat) : readIndex t c = readIndex s c := by unfold readIndex hbmWords; rw [h]

end Sys2Proof.Machine
end

section
/-!
SUPPORT. Errors that readers of SRAM meet (R324 to R327).
-/
namespace Sys2Proof.Machine

/-! ### A read that is only recorded (R326) -/

theorem recordBadRead_records {s : State} (hs : TablesRise s) {b mem : Nat} (hb : 29 < b) (hb' : b < 32) (hm : mem < 64) (n blk : Nat) :
    Only [.regs, .port0, .port1] s (recordBadRead b mem n blk s) ∧ RegsKept [(.memLastRead, 0, 0), (.memLastAddr, 0, 0)] s (recordBadRead b mem n blk s) ∧
      cell (recordBadRead b mem n blk s) .memLastAddr = w32 blk ∧ bit (cell (recordBadRead b mem n blk s) .memLastRead) b = true ∧
      fld (cell (recordBadRead b mem n blk s) .memLastRead) 29 24 = mem ∧ fld (cell (recordBadRead b mem n blk s) .memLastRead) 23 16 = n % 256 ∧
      fld (cell (recordBadRead b mem n blk s) .memLastRead) 15 0 = nextSqc (fld (cell s .memLastRead) 15 0) := by
  have hne : regOff .memLastAddr 0 0 ≠ regOff .memLastRead 0 0 := regOff_ne (at_mem.2 _ (by decide)) (at_mem.2 _ (by decide)) nofun
  let v := modCell .memLastRead 0 0 (fun w => setFld (setFld w 29 24 mem) 23 16 n) s
  have tv : TablesRise v := (modCell_does ..).tables hs
  have hv : cell v .memLastRead = setFld (setFld (cell s .memLastRead) 29 24 mem) 23 16 n := cell_setCell hs.regs ..
  let u := setCell .memLastAddr 0 0 (w32 blk) v
  have tu : TablesRise u := (setCell_does ..).tables tv
  have hu : cell u .memLastRead = cell v .memLastRead := cell_setCell_other tv.regs _ hne.symm
  have ha : cell u .memLastAddr = w32 blk := cell_setCell tv.regs ..
  have he : Evented .memLastRead 0 b u (event .memLastRead 0 b u) := evented_event tu.regs ..
  have hc : cell (recordBadRead b mem n blk s) .memLastRead = _ := he
  have field {hi lo : Nat} (h : hi < 30) (hl : 16 ≤ lo) : fld (cell (recordBadRead b mem n blk s) .memLastRead) hi lo = fld (cell v .memLastRead) hi lo := by
    rw [hc, hu, fld_setFld_other (by omega) (by omega), setBit, fld_setFld_other (by omega) (by omega)]
  refine ⟨(recordBadRead_does ..).only, recordBadRead_does_only b mem n blk hs, (cell_event_other tu.regs .memLastRead 0 b hne).trans ha,
    bit_of_evented he (by omega) hb', ?_, ?_, ?_⟩
  · rw [field (by decide) (by decide), hv, fld_setFld_other (by decide) (by decide), fld_setFld_same (by decide)]
    exact Nat.mod_eq_of_lt hm
  · rw [field (by decide) (by decide), hv, fld_setFld_same (by decide)]
    rfl
  · have hq := fld_lt (cell s .memLastRead) 15 0
    rw [hc, hu, fld_setFld_same (by decide), hv, fld_setFld_other (by decide) (by decide), fld_setFld_other (by decide) (by decide)]
    refine Nat.mod_eq_of_lt ?_
    unfold nextSqc
    split <;> omega

/-! ### What an uncorrectable block does in its memory (R327) -/

/-- A step that leaves the counts of uncorrectable blocks, and only adds reports. -/
structure UncorrKept (s t : State) : Prop where
  counts : ∀ m < 11, cell t .memCntUncorr m = cell s .memCntUncorr m
  told : ∀ r ∈ s.flt.flying, r ∈ t.flt.flying

theorem UncorrKept.refl (s : State) : UncorrKept s s := ⟨fun _ _ => rfl, fun _ h => h⟩

theorem UncorrKept.trans {s t u : State} (h : UncorrKept s t) (k : UncorrKept t u) : UncorrKept s u :=
  ⟨fun m hm => (k.counts m hm).trans (h.counts m hm), fun r hr => k.told r (h.told r hr)⟩

theorem UncorrKept.of_same {s t : State} (h : t.regs = s.regs) (k : t.flt = s.flt) : UncorrKept s t :=
  ⟨fun _ _ => cell_regs h .., fun _ hr => k.symm ▸ hr⟩

theorem UncorrKept.of_kept {s t : State} {xs : List (Reg × Nat × Nat)} (h : RegsKept xs s t) (hx : ∀ x ∈ xs, ∀ m < 11, regOff .memCntUncorr m ≠ regOff x.1 x.2.1 x.2.2)
    (k : ∀ r ∈ s.flt.flying, r ∈ t.flt.flying) : UncorrKept s t := ⟨fun m hm => h _ _ _ fun x hxs => hx x hxs m hm, k⟩

theorem base_le_regOff (r : Reg) (i j : Nat) : r.place.base ≤ regOff r i j := by
  unfold regOff
  exact Nat.le_trans (Nat.le_add_right _ _) (Nat.le_trans (Nat.le_add_right _ _) (Nat.le_add_right _ _))

/-- The registers of the counts end before those of the mortar. -/
theorem memCntUncorr_lt : ∀ m < 11, regOff .memCntUncorr m < 0x600000 := by decide +kernel

theorem memCntUncorr_ne {r : Reg} (h : 0x600000 ≤ r.place.base) (i j : Nat) : ∀ m < 11, regOff .memCntUncorr m ≠ regOff r i j := fun m hm =>
  Nat.ne_of_lt (Nat.lt_of_lt_of_le (memCntUncorr_lt m hm) (Nat.le_trans h (base_le_regOff r i j)))

theorem uncorrKept_throttle {s : State} (hs : TablesRise s) : UncorrKept s (throttle s) :=
  have h := throttled_throttle hs
  .of_kept h.regs (by decide +kernel) h.tells.told

theorem uncorrKept_cellError {s : State} (hs : TablesRise s) (u c t : Nat) (released : Bool) : UncorrKept s (cellError u c t released s) := by
  have h1 : RegsKept [(.mrtUnitCellerr, u, 0), (.mrtUnitEvt, u, 0)] s (cellError u c t released s) :=
    ((RegsKept.set (.refl _ s) hs.regs (.head _) _).ev (rises_count hs.regs ..) (.tail _ (.head _)) 19).keep (raise_regs ..)
  refine .of_kept h1 (fun x hx => ?_) fun r hr => raise_flying_mono _ _ _ _ _ _ _ r (by rw [event_flt]; exact hr)
  rcases List.mem_cons.1 hx with rfl | hx
  · exact memCntUncorr_ne (r := .mrtUnitCellerr) (by decide) _ _
  · cases List.mem_singleton.1 hx
    exact memCntUncorr_ne (r := .mrtUnitEvt) (by decide) _ _

theorem uncorrKept_ite {c : Prop} [Decidable c] {s t u : State} (h : UncorrKept s t) (k : UncorrKept s u) : UncorrKept s (if c then t else u) := by
  split
  · exact h
  · exact k

theorem uncorrKept_cellUncorr {s : State} (hs : TablesRise s) (u c t key : Nat) (released : Bool) : UncorrKept s (cellUncorr u c t key released s) := by
  unfold cellUncorr
  by_cases hr : released = true
  · rw [if_pos hr]
    refine uncorrKept_ite (UncorrKept.trans ?_ (uncorrKept_cellError ?_ ..)) (.refl _)
    · exact .of_same rfl rfl
    · exact (modStream_does ..).tables hs
  · rw [if_neg hr]
    split
    · split
      · have d1 : Does [.regs, .flt, .port0, .port1] s (cellError u c t false s) := cellError_does ..
        have d2 : Does [.mrt, .qry] (cellError u c t false s) (withdraw (modRec key t (fun x => x.empty (.gap 9)) (cellError u c t false s))) :=
          .step (withdraw_does ..) rfl ((modRec_does ..).widen rfl)
        exact (uncorrKept_cellError hs ..).trans ((UncorrKept.of_same (d2.only.same .regs (by decide)) (d2.only.same .flt (by decide))).trans
          (uncorrKept_throttle (d2.tables (d1.tables hs))))
      · exact .refl _
    · exact .refl _

theorem uncorrKept_forL {α : Type} {f : α → State → State} (h : ∀ x s, TablesRise s → UncorrKept s (f x s) ∧ TablesRise (f x s)) (l : List α) {s : State} (hs : TablesRise s) :
    UncorrKept s (forL l f s) ∧ TablesRise (forL l f s) := by
  induction l generalizing s with
  | nil => exact ⟨.refl _, hs⟩
  | cons x l ih =>
    obtain ⟨h1, h2⟩ := h x s hs
    obtain ⟨h3, h4⟩ := ih h2
    exact ⟨h1.trans h3, h4⟩

theorem uncorrKept_cellsLost {s : State} (hs : TablesRise s) (bad : Nat → Bool) : UncorrKept s (cellsLost bad s) := by
  obtain ⟨h1, h2⟩ := uncorrKept_forL (f := fun (x : Nat × Nat × Nat × Nat) => cellUncorr x.1 x.2.1 x.2.2.1 x.2.2.2 false)
    (fun x s hs => ⟨uncorrKept_cellUncorr hs .., (cellUncorr_does ..).tables hs⟩) (cellRecs s bad) hs
  obtain ⟨h3, -⟩ := uncorrKept_forL (f := fun (x : Nat × Nat × Nat) (t : State) => cellUncorr (fld (streamCfg t x.2.1) 29 28) x.1 x.2.1 x.2.2 true t)
    (fun x s hs => ⟨uncorrKept_cellUncorr hs .., (cellUncorr_does ..).tables hs⟩) (cellOuts s bad) h2
  exact h1.trans h3

theorem uncorrKept_tableEntryError {s : State} (hs : TablesRise s) (b : Nat) : UncorrKept s (tableEntryError b s) := by
  let v := withdraw (s.modMrt fun m => { m with table := m.table.map (fun e =>
    if entrySlot e.id = b then { e with recs := e.recs.map (fun r => if r.isOpen then r.empty (.gap 9) else r) } else e) })
  have d : Does [.mrt, .qry] s v := .step (withdraw_does ..) rfl ((State.modMrt_does _ _).widen rfl)
  exact (UncorrKept.of_same (s := s) (t := v) rfl rfl).trans (uncorrKept_throttle (d.tables hs))

theorem uncorrKept_engineQueueError {s : State} (hs : TablesRise s) (hg : ∀ p g, partnerGroup s p = some g → g < 32) {e : Nat} (he : e < 9) (b : Nat) :
    UncorrKept s (engineQueueError e b s) := by
  unfold engineQueueError
  split
  next x _ =>
    let v := count .ashInDrop e 31 0 1 (modEngine e (fun y => { y with queue := y.queue.erase x }) s)
    have hm : TablesRise (modEngine e (fun y => { y with queue := y.queue.erase x }) s) := (modEngine_does ..).tables hs
    have h1 : RegsKept [(.ashInDrop, e, 0)] s v := (RegsKept.of_regs rfl).set hm.regs (.head _) _
    have ne : ∀ e < 9, ∀ m < 11, regOff .memCntUncorr m ≠ regOff .ashInDrop e 0 := by decide +kernel
    have na : ∀ x ∈ acctCells, ∀ m < 11, regOff .memCntUncorr m ≠ regOff x.1 x.2.1 x.2.2 := by decide +kernel
    obtain ⟨h2, h3⟩ := account_kept (s := v) ((count_does ..).tables hm) hg x.partner 9 x.namedBt x.namedBt 1
    exact (UncorrKept.of_kept h1 (fun x hx => by cases List.mem_singleton.1 hx; exact ne e he) fun _ h => h).trans (.of_kept h2 na h3)
  next => exact .refl _

theorem uncorrKept_ringBlockError {s : State} (hs : TablesRise s) {m : Nat} (hm : m < 4) (b master : Nat) : UncorrKept s (ringBlockError m b master s) := by
  unfold ringBlockError
  split
  next c g page i _ =>
    have ne : ∀ m < 4, ∀ x ∈ [(Reg.crsMemErr, m, 0), (.crsEvt, 0, 0)], ∀ k < 11, regOff .memCntUncorr k ≠ regOff x.1 x.2.1 x.2.2 := by decide +kernel
    have h1 : RegsKept [(.crsMemErr, m, 0), (.crsEvt, 0, 0)] s (event .crsEvt 0 20 (count .crsMemErr m 31 0 1 s)) :=
      (RegsKept.set (.refl _ s) hs.regs (.head _) _).ev (rises_count hs.regs ..) (.tail _ (.head _)) 20
    exact .of_kept (h1.keep (raise_regs ..)) (ne m hm) fun r hr => raise_flying_mono _ _ _ _ _ _ _ r (by rw [event_flt]; exact hr)
  next => exact .refl _

theorem uncorrKept_lintelError {s : State} (hs : TablesRise s) (a : Nat) (stage : Word) (master access : Nat) : UncorrKept s (lintelError a stage master access s) := by
  have h1 : RegsKept [(.lntEvt, 0, 0)] s (event .lntEvt 0 21 s) := regsKept_ev hs.regs _ _ _
  exact .of_kept (h1.keep (raise_regs ..)) (by decide +kernel) fun r hr => raise_flying_mono _ _ _ _ _ _ _ r (by rw [event_flt]; exact hr)

theorem uncorrKept_sramAction {s : State} (hs : TablesRise s) (hg : ∀ p g, partnerGroup s p = some g → g < 32) {mem inst : Nat} (hm : mem < 11) (hi : inst < memCount mem)
    (b master : Nat) : UncorrKept s (sramAction mem inst b master s) := by
  unfold sramAction
  split
  · exact uncorrKept_ringBlockError hs hi ..
  · exact uncorrKept_cellsLost hs _
  · exact .of_same rfl rfl
  · exact uncorrKept_engineQueueError hs hg hi _
  · exact uncorrKept_tableEntryError hs _
  · exact .of_same rfl rfl
  · exact uncorrKept_lintelError hs ..
  · unfold plbStoreError
    split
    · exact .of_same rfl rfl
    · exact .refl _
  · exact ⟨fun _ _ => rfl, fun _ h => h⟩
  · exact .refl _

/-! ### A read that finds an error (R324 to R327) -/

/-- What a read of a table block that finds an error does. -/
def tableErrorRead (mem n blk : Nat) (e : SramError) (master : Nat) (s : State) : State :=
  match e with
  | .stateParity => tableReadError mem n blk master true s
  | .corrected syn => badReadOr (tblock s n (if mem = 0 then blk else ofsBlocks + blk)).phase mem n blk (sramCorrected mem n blk syn.toNat master 1) s
  | .uncorrectable => badReadOr (tblock s n (if mem = 0 then blk else ofsBlocks + blk)).phase mem n blk (tableReadError mem n blk master false) s

theorem sramReadError_reads {s : State} {mem n blk : Nat} (hn : n < memCount mem) (hd : ∀ d : Nat, memDomain mem n = some d → domOn s d = true) (hb : blk < memBlocks mem)
    (e : SramError) (master : Nat) : sramReadError mem n blk e master s =
      if mem = 0 ∨ mem = 1 then tableErrorRead mem n blk e master s
      else if gatedMemory mem && !sramHeld s mem n blk then s else memoryRead mem n blk e master s := by
  unfold sramReadError
  refine (if_neg ?_).trans ?_
  · intro hx
    have h1 : ¬ memCount mem ≤ n := by omega
    have h2 : ¬ memBlocks mem ≤ blk := by omega
    cases hm : memDomain mem n with
    | none => rw [hm] at hx; simp [h1, h2] at hx
    | some d => rw [hm] at hx; simp [h1, h2, hd d hm] at hx
  · cases e <;> rfl

theorem memoryRead_held {s : State} {mem n blk : Nat} (hh : sramHeld s mem n blk = true) (hg : (eccBlock s mem n blk).phase = .good) (master : Nat) :
    (∀ syn : BitVec 16, memoryRead mem n blk (.corrected syn) master s = sramCorrected mem n blk syn.toNat master 1 s) ∧
      memoryRead mem n blk .uncorrectable master s = memoryReadError mem n blk master false s := by
  constructor
  · intro syn
    unfold memoryRead
    rw [hh, Bool.true_or, if_pos rfl, hg]
    rfl
  · unfold memoryRead
    rw [hh, Bool.true_or, if_pos rfl, hg]
    rfl

theorem eccBlock_eccDamage {s : State} (hs : TablesRise s) (mem n blk : Nat) : eccBlock (eccDamage mem n blk s) mem n blk = ⟨.damaged, 0⟩ := by
  have h : smGet .blank (smPut .blank s.mem.ecc (eccKey mem n blk) ⟨.damaged, 0⟩) (eccKey mem n blk) = ⟨.damaged, 0⟩ :=
    (smGet_put_rises hs.mem.2.2 _ _ _ _ fun _ => rfl).trans (if_pos rfl)
  exact h

theorem partnerGroup_of {s t : State} (h : t.partners = s.partners) (p : Nat) : partnerGroup t p = partnerGroup s p := by
  unfold partnerGroup partner
  rw [h]

theorem ringBlockAt_of {s t : State} (h : t.ring = s.ring) (m b : Nat) : ringBlockAt t m b = ringBlockAt s m b := by unfold ringBlockAt; rw [h]

/-- R327: an uncorrectable block of memories 2 to 10. -/
theorem memoryReadError_loses {s : State} (hs : TablesRise s) (hn : NamesInRange s) {mem n : Nat} (hm : mem < 11) (hi : n < memCount mem) (blk master : Nat) :
    cell (memoryReadError mem n blk master false s) .memCntUncorr mem = incSat (cell s .memCntUncorr mem) 31 0 1 ∧
      (mem ≠ 2 → mem ≠ 3 → mem ≠ 8 → Reported Src.memSramUncorr n [w32 mem, w32 n, w32 blk] s (memoryReadError mem n blk master false s)) ∧
      (eccBlock (memoryReadError mem n blk master false s) mem n blk).phase = .damaged ∧
      (mem = 2 → ∀ c g page i : Nat, ringBlockAt s n blk = some (c, g, page, i) →
        Reported Src.crsMemUncorr n ([w32 n, w32 page, w32 i] ++ capCourse c ++ [w32 g]) s (memoryReadError mem n blk master false s)) ∧
      (mem = 5 → ∀ h : HitItem, (engine s n).queue.find? (fun y => y.covers blk) = some h →
        (engine (memoryReadError mem n blk master false s) n).queue = (engine s n).queue.erase h) ∧
      (mem = 9 → ∀ i : Nat, plbPlace s.plb blk = some i →
        (memoryReadError mem n blk master false s).plb.store = s.plb.store.modify i (fun r => { r with damaged := true })) := by
  let w := eccDamage mem n blk s
  let u := sramUncorrected mem n blk master 1 w
  have d1 : Does [.mem] s w := eccDamage_does ..
  have tw : TablesRise w := d1.tables hs
  have d2 : Does [.regs, .flt, .port0, .port1] w u := sramUncorrected_does ..
  have tu : TablesRise u := d2.tables tw
  have same {α : Type} {z : Zone} {p : State → α} (h1 : z.same s w → p w = p s) (h2 : z.same w u → p u = p w) (k1 : z.same s w) (k2 : z.same w u) : p u = p s := (h2 k2).trans (h1 k1)
  have hpart : u.partners = s.partners := (d2.only.same .partners (by decide)).trans (d1.only.same .partners (by decide))
  have hring : u.ring = s.ring := (d2.only.same .ring (by decide)).trans (d1.only.same .ring (by decide))
  have hash : u.ash = s.ash := (d2.only.same .ash (by decide)).trans (d1.only.same .ash (by decide))
  have hplb : u.plb = s.plb := (d2.only.same .plb (by decide)).trans (d1.only.same .plb (by decide))
  have hbtr : u.btr = s.btr := (d2.only.same .btr (by decide)).trans (d1.only.same .btr (by decide))
  have he : memoryReadError mem n blk master false s = sramAction mem n blk master u := rfl
  have hg : ∀ p g, partnerGroup u p = some g → g < 32 := fun p g h => partnerGroup_lt hn ((partnerGroup_of hpart p).symm.trans h)
  have hk := uncorrKept_sramAction tu hg hm hi blk master
  have d3 : Does [.regs, .flt, .port0, .port1, .groups, .ash, .ring, .qry, .mrt, .streams, .plb] u (sramAction mem n blk master u) := sramAction_does ..
  obtain ⟨-, -, k3, k4⟩ := sramUncorrected_tells tw hm n blk master 1
  rw [he]
  refine ⟨(hk.counts mem hm).trans (k3.trans (by rw [cell_regs (d1.only.same .regs (by decide))])), fun h2 h3 h8 => Reported.mono ((k4 h2 h3 h8).from (d1.only.same .btr (by decide))) hk.told, ?_,
    fun h2 c g page i hr => ?_, fun h5 x hx => ?_, fun h9 i hi => ?_⟩
  · have hmem : (sramAction mem n blk master u).mem = w.mem := (d3.only.same .mem (by decide)).trans (d2.only.same .mem (by decide))
    show (smGet .blank (sramAction mem n blk master u).mem.ecc _).phase = .damaged
    rw [hmem]
    exact congrArg EccBlock.phase (eccBlock_eccDamage hs mem n blk)
  · have hx : sramAction mem n blk master u = raise Src.crsMemUncorr n ([w32 n, w32 page, w32 i] ++ capCourse c ++ [w32 g]) (event .crsEvt 0 20 (count .crsMemErr n 31 0 1 u))
        (.quarter n) master 1 := by
      rw [h2]
      show ringBlockError n blk master u = _
      unfold ringBlockError
      rw [ringBlockAt_of hring, hr]
    rw [hx]
    exact reported_raise ((event_btr ..).trans hbtr)
  · have hx' : (engine u n).queue.find? (fun y => y.covers blk) = some x := by rw [engine_of hash]; exact hx
    have hact : sramAction mem n blk master u =
        account x.partner 9 x.namedBt x.namedBt 1 (count .ashInDrop n 31 0 1 (modEngine n (fun y => { y with queue := y.queue.erase x }) u)) := by
      rw [h5]
      show engineQueueError n blk u = _
      unfold engineQueueError
      rw [hx']
    rw [hact, engine_of ((account_does ..).only.same .ash (by decide)), engine_of ((count_does ..).only.same .ash (by decide)), engine_modEngine tu.engines, engine_of hash]
  · have hact : sramAction mem n blk master u = u.modPlb fun p => { p with store := p.store.modify i (fun r => { r with damaged := true }) } := by
      rw [h9]
      show plbStoreError blk u = _
      unfold plbStoreError
      rw [hplb, hi]
    rw [hact]
    show u.plb.store.modify i _ = _
    rw [hplb]

/-! ### The blocks of the tables (R325) -/

theorem blockMemory_of {mem blk : Nat} (h : mem = 0 ∨ mem = 1) (h0 : mem = 0 → blk < ofsBlocks) : blockMemory (if mem = 0 then blk else ofsBlocks + blk) = (mem, blk) := by
  unfold blockMemory
  rcases h with rfl | rfl
  · rw [if_pos rfl, if_pos (h0 rfl)]
  · rw [if_neg Nat.one_ne_zero, if_neg (by omega), Nat.add_sub_cancel_left]

theorem tblock_stateParity {s : State} (hm : MemoryWf s) (g b : Nat) {i : Nat} (hi : i < 32) : (tblock (stateParity g b s) g (b / 32 * 32 + i)).phase = .damaged := by
  have key (n : Nat) (hn : n ≤ 32) : ∀ j < n, (tblock (forN n (fun i t => setTblock g (b / 32 * 32 + i) { tblock t g (b / 32 * 32 + i) with phase := .damaged } t) s) g
      (b / 32 * 32 + j)).phase = .damaged ∧ MemoryWf (forN n (fun i t => setTblock g (b / 32 * 32 + i) { tblock t g (b / 32 * 32 + i) with phase := .damaged } t) s) := by
    induction n with
    | zero => exact fun j hj => absurd hj (Nat.not_lt_zero _)
    | succ n ih =>
      intro j hj
      rw [forN_succ]
      have wf : MemoryWf (forN n (fun i t => setTblock g (b / 32 * 32 + i) { tblock t g (b / 32 * 32 + i) with phase := .damaged } t) s) := by
        cases n with
        | zero => exact hm
        | succ n => exact (ih (by omega) 0 (Nat.succ_pos _)).2
      refine ⟨?_, (setTblock_does ..).mem wf⟩
      rw [tblock_setTblock wf]
      split
      · rfl
      next hne => exact (ih (by omega) j (by omega)).1
  exact (key 32 (Nat.le_refl _) i hi).1

end Sys2Proof.Machine
end

section
/-!
SUPPORT. Errors of HBM and the HBM scrub (R332 to R335), armed injections (R339), and the statement on memory errors settled.
-/
namespace Sys2Proof.Machine

/-! ### Errors of HBM (R332) -/

theorem hbmCorrected_tells {s : State} (hs : TablesRise s) (qa : Nat) (code : BitVec 2) (loc : HbmLoc) (master access : Nat) :
    RegsKept [(.memHbmCnt, 0, 0)] s (hbmSeen qa (.corrected code) loc master access s) ∧
      smGet false (hbmSeen qa (.corrected code) loc master access s).mem.hbmCorr (qa / 4096) = true ∧
      (smGet false s.mem.hbmCorr (qa / 4096) = false →
        Reported Src.memHbmCorr (qaStack qa) (locCapture qa loc ++ [w32 code.toNat]) s (hbmSeen qa (.corrected code) loc master access s)) ∧
      (smGet false s.mem.hbmCorr (qa / 4096) = true → (hbmSeen qa (.corrected code) loc master access s).flt = s.flt) := by
  refine ⟨(hbmSeen_step hs ..).1, ?_⟩
  have hm : (count .memHbmCnt 0 15 0 1 s).mem = s.mem := rfl
  unfold hbmSeen hbmCorrected
  dsimp only
  rw [hm]
  cases hc : smGet false s.mem.hbmCorr (qa / 4096) with
  | true => exact ⟨hc, nofun, fun _ => rfl⟩
  | false =>
    have hput : smGet false (smPut false s.mem.hbmCorr (qa / 4096) true) (qa / 4096) = true := (smGet_put_rises hs.mem.2.1 _ _ _ _ fun _ => rfl).trans (if_pos rfl)
    rw [if_neg Bool.false_ne_true]
    exact ⟨hput, fun _ => reported_raise rfl, nofun⟩

theorem hbmUncorrectable_tells {s : State} (hs : TablesRise s) (qa : Nat) (loc : HbmLoc) (master access : Nat) :
    RegsKept [(.memEvt, 0, 0)] s (hbmUncorrectable qa loc master access s) ∧ Evented .memEvt 0 18 s (hbmUncorrectable qa loc master access s) ∧
      Reported Src.memHbmUncorr (qaStack qa) (locCapture qa loc ++ cap64 qa) s (hbmUncorrectable qa loc master access s) ∧ Tells s (hbmUncorrectable qa loc master access s) := by
  have hk : RegsKept [(.memEvt, 0, 0)] s (event .memEvt 0 18 s) := regsKept_ev hs.regs _ _ _
  exact ⟨hk.keep (raise_regs ..), (evented_event hs.regs ..).keep (raise_regs ..), reported_raise (event_btr ..), tells_raise_of (event_flt ..)⟩

/-! ### The HBM scrub (R333) -/

theorem nextGranule_of {s t : State} (h : t.hbm.written = s.hbm.written) (hp : t.pwr = s.pwr) (n : Nat) : nextGranule t n = nextGranule s n := by
  have hd : powerDom t = powerDom s := funext (powerDom_of hp)
  unfold nextGranule scrubbable domOn
  rw [h, hd]

theorem passEnd_ends {s : State} (hs : TablesRise s) (khz : Nat) : cell (passEnd khz s) .memScrubPos = 0 ∧
    RegsKept [(.memScrubPos, 0, 0), (.memScrubStat, 0, 0), (.memEvt, 0, 0)] s (passEnd khz s) ∧ (passEnd khz s).mem.hbmCorr = [] ∧
      (passEnd khz s).mem.passStart = nowStamp s ∧ cell (passEnd khz s) .memScrubStat = incWrap (cell s .memScrubStat) 31 16 ∧ Tells s (passEnd khz s) := by
  let v := countWrap .memScrubStat 0 31 16 (s.modMem fun m => { m with hbmCorr := [], passStart := nowStamp s })
  let u := setCell .memScrubPos 0 0 0 v
  have ne {a b : Reg} (ha : regExists a 0 0 = true) (hb : regExists b 0 0 = true) (h : a ≠ b) : regOff a 0 0 ≠ regOff b 0 0 := regOff_ne ha hb fun e => h (congrArg Prod.fst e)
  have tv : Rises v.regs := rises_setCell hs.regs ..
  have tu : Rises u.regs := rises_setCell tv ..
  have hv : RegsKept [(.memScrubPos, 0, 0), (.memScrubStat, 0, 0), (.memEvt, 0, 0)] s u := (RegsKept.set (.of_regs rfl) hs.regs (.tail _ (.head _)) _).set tv (.head _) 0
  have hp : cell u .memScrubPos = 0 := cell_setCell tv ..
  have hst : cell u .memScrubStat = incWrap (cell s .memScrubStat) 31 16 :=
    (cell_setCell_other tv _ (ne (a := .memScrubStat) (b := .memScrubPos) (at_mem.2 _ (by decide)) (at_mem.2 _ (by decide)) nofun)).trans (cell_setCell hs.regs ..)
  have he : passEnd khz s = if decide (fld (cell s .memScrubCfg) 23 16 * (24000 * khz) < cyclesSince s.mem.passStart (nowStamp s)) then
      raise Src.memScrubSlow 0 (w32 (cyclesSince s.mem.passStart (nowStamp s) / (24000 * khz)) :: capCourse (nowCourse u)) (event .memEvt 0 21 u) else u := rfl
  rw [he]
  split
  · have hm : (event .memEvt 0 21 u).mem = u.mem := (event_does ..).only.same .mem (by decide)
    have c (r : Reg) (hr : regExists r 0 0 = true) (h : r ≠ .memEvt) : cell (event .memEvt 0 21 u) r = cell u r :=
      cell_event_other tu .memEvt 0 21 (ne hr (at_mem.2 _ (by decide)) h)
    refine ⟨(c .memScrubPos (at_mem.2 _ (by decide)) nofun).trans hp, (hv.ev tu (.tail _ (.tail _ (.head _))) 21).keep (raise_regs ..), ?_, ?_, (c .memScrubStat (at_mem.2 _ (by decide)) nofun).trans hst,
      tells_raise_of (event_flt .memEvt 0 21 u)⟩
    · show (event .memEvt 0 21 u).mem.hbmCorr = []
      rw [hm]
      rfl
    · show (event .memEvt 0 21 u).mem.passStart = _
      rw [hm]
      rfl
  · exact ⟨hp, hv, rfl, rfl, hst, .of_flt rfl⟩

theorem hbmScrub_moves {s : State} {sev : HbmSeverity} {burst : Nat} {loc : HbmLoc} {khz n n' : Nat} (hr : repointerRuns s = true)
    (h1 : nextGranule s (fld (cell s .memScrubPos) 23 0) = some n) (h2 : nextGranule (scrubGranule n sev burst loc s) (n + 1) = some n') :
    hbmScrub sev burst loc khz s = setCell .memScrubPos 0 0 (mkFld 23 0 (n + 1)) (scrubGranule n sev burst loc s) := by
  unfold hbmScrub
  rw [hr, if_neg (by decide), h1]
  dsimp only
  rw [h2]

/-- Whatever follows, the granule has been checked. -/
theorem hbmScrub_checks {s : State} (hs : TablesRise s) {sev : HbmSeverity} {burst : Nat} {loc : HbmLoc} {khz n : Nat} (hr : repointerRuns s = true)
    (h1 : nextGranule s (fld (cell s .memScrubPos) 23 0) = some n) :
    Tells (scrubGranule n sev burst loc s) (hbmScrub sev burst loc khz s) ∧ (hbmScrub sev burst loc khz s).hbm = (scrubGranule n sev burst loc s).hbm := by
  unfold hbmScrub
  rw [hr, if_neg (by decide), h1]
  dsimp only
  split
  · exact ⟨(passEnd_ends ((scrubGranule_does ..).tables hs) khz).2.2.2.2.2, (passEnd_does ..).only.same .hbm (by decide)⟩
  · exact ⟨.of_flt rfl, rfl⟩

/-! ### Failing index entries (R190) -/

theorem length_hbmWords (s : State) (a n : Nat) : (hbmWords s a n).length = n := by
  have h (n : Nat) : ∀ bs : List Byte, (toWords n bs).length = n := by
    induction n with
    | zero => exact fun _ => rfl
    | succ n ih => exact fun bs => congrArg Nat.succ (ih _)
  exact h ..

theorem length_stubWords (s : State) (c : Nat) : (stubWords s c).length = 63 := by
  have h : (((hbmWords s (entryQa c) 64).drop 6).take 32).length = 32 := by rw [List.length_take, List.length_drop, length_hbmWords]; rfl
  unfold stubWords
  simp only [List.length_append, List.length_map, List.length_replicate, h]
  rfl

theorem stubWords_course (s : State) {c : Nat} (hc : c < 2 ^ 56) : dfld ((stubWords s c).getD 0 0) 63 8 = c := by
  have h : (stubWords s c).getD 0 0 = BitVec.ofNat 64 (c * 256 + (if s.qry.left.contains c then 128 else 0) + 64 + 2) := rfl
  rw [h, dfld_ofNat (by decide) (by decide)]
  split <;> omega

/-- A stub takes no failing entry of another course back. -/
theorem readIndex_indexStub {s : State} (hm : MemoryWf s) {c d : Nat} (hc : c < 2 ^ 56) (hd : c ≠ d) (h : readIndex s d = none) : readIndex (indexStub c s) d = none := by
  have hh : (indexStub c s).hbm = (storeEntry c (stubWords s c) s).hbm := (event_does .qryEvt 0 19 (storeEntry c (stubWords s c) s)).only.same .hbm (by decide)
  have hl : 63 ≤ (stubWords s c).length := Nat.le_of_eq (length_stubWords s c).symm
  rw [readIndex_of hh]
  by_cases hq : d % 2097152 = c % 2097152
  · rw [readIndex_storeEntry hm hl (show entryQa d = entryQa c by unfold entryQa; rw [hq]), stubWords_course s hc, if_neg hd]
  · rw [readIndex_storeEntry_other hm hl hq, h]

/-- One slot of an index granule that no burst spoils is checked. -/
def slotChecked (c : Nat) (t : State) : State := if (readIndex t c).isNone then indexStub c t else t

theorem indexScrub_eq (slot : Nat) (s : State) : indexScrub slot none s =
    forL ((s.qry.left ++ s.qry.published).filter (fun c => decide (slot ≤ c % 2097152) && decide (c % 2097152 < slot + 8))) slotChecked s := by
  unfold indexScrub
  refine congrArg (fun f => forL _ f s) (funext fun c => funext fun t => ?_)
  show (if (false || (readIndex t c).isNone) = true then _ else _) = _
  rw [Bool.false_or]
  rfl

theorem slotChecked_does (c : Nat) (t : State) : Does [.regs, .flt, .port0, .port1, .hbm] t (slotChecked c t) := by
  unfold slotChecked
  split
  · exact indexStub_does ..
  · exact .refl _ _

theorem slotChecked_tells (c : Nat) (t : State) : ∀ r ∈ t.flt.flying, r ∈ (slotChecked c t).flt.flying := by
  unfold slotChecked
  split
  · have h : (event .qryEvt 0 19 (storeEntry c (stubWords t c) t)).flt = t.flt := (event_flt ..).trans ((storeEntry_does ..).only.same .flt (by decide))
    exact fun r hr => raise_flying_mono _ _ _ _ _ _ _ r (by rw [show (count .qryDamaged 0 31 0 1 (event .qryEvt 0 19 (storeEntry c (stubWords t c) t))).flt = t.flt from h]; exact hr)
  · exact fun _ h => h

theorem slotsChecked_told (l : List Nat) (t : State) : ∀ r ∈ t.flt.flying, r ∈ (forL l slotChecked t).flt.flying := by
  induction l generalizing t with
  | nil => exact fun _ h => h
  | cons c l ih => exact fun r hr => ih _ r (slotChecked_tells c t r hr)

/-- Every failing entry is raised. -/
theorem slotsChecked_reports {l : List Nat} (hl : ∀ c ∈ l, c < 2 ^ 56) {t : State} (hm : MemoryWf t) {c : Nat} (hc : c ∈ l) (h : readIndex t c = none) :
    Reported Src.qryIndexUncorr 0 (w32 (c % 2097152) :: capCourse c) t (forL l slotChecked t) := by
  induction l generalizing t with
  | nil => cases hc
  | cons d l ih =>
    have hb : (slotChecked d t).btr = t.btr := (slotChecked_does d t).only.same .btr (by decide)
    by_cases hd : c = d
    · subst hd
      have hs : slotChecked c t = indexStub c t := if_pos (by rw [h]; rfl)
      have hbt : (event .qryEvt 0 19 (storeEntry c (stubWords t c) t)).btr = t.btr := (event_btr ..).trans ((storeEntry_does ..).only.same .btr (by decide))
      have hr : Reported Src.qryIndexUncorr 0 (w32 (c % 2097152) :: capCourse c) t (slotChecked c t) := by
        rw [hs]
        exact reported_raise hbt
      exact hr.mono (slotsChecked_told l _)
    · have hin : c ∈ l := (List.mem_cons.1 hc).resolve_left hd
      have hn : readIndex (slotChecked d t) c = none := by
        unfold slotChecked
        split
        · exact readIndex_indexStub hm (hl d (.head _)) (Ne.symm hd) h
        · exact h
      exact (ih (fun c hc => hl c (.tail _ hc)) ((slotChecked_does d t).mem hm) hin hn).from hb

theorem slotsChecked_good {l : List Nat} {t : State} (h : ∀ c ∈ l, (readIndex t c).isSome = true) : forL l slotChecked t = t := by
  induction l with
  | nil => rfl
  | cons c l ih =>
    have hs : slotChecked c t = t := if_neg (by
      have := h c (.head _)
      cases hr : readIndex t c with
      | none => rw [hr] at this; cases this
      | some x => nofun)
    rw [forL_cons, hs]
    exact ih fun c hc => h c (.tail _ hc)

/-! ### The statement -/

theorem archiveCrcHolds_of {s t : State} (h : t.hbm = s.hbm) (g k : Nat) : archiveCrcHolds t g k = archiveCrcHolds s g k := by
  unfold archiveCrcHolds archiveGranule
  rw [h]

theorem granuleKind_stone {n k : Nat} (h : granuleKind n = .stone k) : k = n := by
  unfold granuleKind at h
  dsimp only at h
  split at h
  · exact (GranuleKind.stone.inj h).symm
  · split at h
    · cases h
    · split at h
      · split at h <;> cases h
      · cases h

/-- What the read of the granule that the scrub checks leaves. -/
def granuleSeen (n : Nat) (sev : HbmSeverity) (burst : Nat) (loc : HbmLoc) (s : State) : State := hbmSeen (4096 * n + 32 * burst) sev loc 4 4 s

theorem scrubGranule_other {n : Nat} (h : granuleKind n = .other) (sev : HbmSeverity) (burst : Nat) (loc : HbmLoc) (s : State) : scrubGranule n sev burst loc s =
    if sev == .uncorrectable then hbmUncorrectable (4096 * n + 32 * burst) loc 4 4 (granuleSeen n sev burst loc s) else granuleSeen n sev burst loc s := by
  unfold scrubGranule
  dsimp only
  rw [h]
  rfl

/-- A granule's archive is marked bad. -/
def archiveMarked (g k : Nat) (s : State) : State := { s with hbm := { s.hbm with badMarks := smPut false s.hbm.badMarks (g * 272 + k) true } }

theorem scrubGranule_archive {n g k : Nat} (h : granuleKind n = .archive g k) (sev : HbmSeverity) (burst : Nat) (loc : HbmLoc) (s : State) : scrubGranule n sev burst loc s =
    if sev == .uncorrectable || !archiveCrcHolds s g k then hbmUncorrectable (4096 * n + 32 * burst) loc 4 4 (archiveMarked g k (granuleSeen n sev burst loc s))
    else granuleSeen n sev burst loc s := by
  have hc : archiveCrcHolds (granuleSeen n sev burst loc s) g k = archiveCrcHolds s g k := archiveCrcHolds_of ((hbmSeen_does ..).only.same .hbm (by decide)) g k
  rw [← hc]
  unfold scrubGranule
  dsimp only
  rw [h]
  rfl

theorem scrubGranule_stone {n k : Nat} (h : granuleKind n = .stone k) (sev : HbmSeverity) (burst : Nat) (loc : HbmLoc) (s : State) : scrubGranule n sev burst loc s =
    if sev == .uncorrectable then stoneDamaged k (some burst) loc (granuleSeen n sev burst loc s)
    else if stoneGood s k then granuleSeen n sev burst loc s else stoneDamaged k none loc (granuleSeen n sev burst loc s) := by
  have hc : stoneGood (granuleSeen n sev burst loc s) k = stoneGood s k := by
    unfold stoneGood
    rw [show (granuleSeen n sev burst loc s).hbm = s.hbm from (hbmSeen_does ..).only.same .hbm (by decide)]
  rw [← hc]
  unfold scrubGranule
  dsimp only
  rw [h]
  rfl

theorem stoneDamaged_reports {s u : State} (hb : u.btr = s.btr) (n : Nat) (burst : Option Nat) (loc : HbmLoc) {qa : Nat} (hq : qa = 4096 * n + 32 * burst.getD 0) :
    Reported Src.qryStoneUncorr (qaStack qa) (locCapture qa loc ++ [w32 n]) s (stoneDamaged n burst loc u) := by
  subst hq
  let v := raise Src.qryStoneUncorr (qaStack (4096 * n + 32 * burst.getD 0)) (locCapture (4096 * n + 32 * burst.getD 0) loc ++ [w32 n]) u (.quarryCtl (n % 4)) 4 4
  have hv : Reported Src.qryStoneUncorr (qaStack (4096 * n + 32 * burst.getD 0)) (locCapture (4096 * n + 32 * burst.getD 0) loc ++ [w32 n]) s v := reported_raise hb
  have d : Does [.regs, .port0, .port1, .hbm] v (forL (overlapping v n) (fun x t => markDamaged x.1 x.2 t) v) :=
    Does.forL (fun _ _ h => .step (markDamaged_does ..) rfl h) (.refl _ _)
  have ht : ∀ padding : Bool, Reported Src.qryStoneUncorr (qaStack (4096 * n + 32 * burst.getD 0)) (locCapture (4096 * n + 32 * burst.getD 0) loc ++ [w32 n]) s
      (if padding then v else forL (overlapping v n) (fun x t => markDamaged x.1 x.2 t) v) := by
    rintro (_ | _)
    · exact hv.tells (.of_flt (d.only.same .flt (by decide)))
    · exact hv
  exact ht _

theorem at_inject : regExists .memInject 0 0 = true ∧ regExists .memCtl 0 0 = true ∧ regExists .btrInject 0 0 = true ∧ regExists .btrCtl 0 0 = true := by decide +kernel

theorem memBlocks_of {mem blk : Nat} (h0 : mem = 0 → blk < ofsBlocks) (h1 : mem = 1 → blk < 8192) (h2 : 2 ≤ mem → blk < memBlocks mem) : blk < memBlocks mem := by
  by_cases h : mem = 0 ∨ mem = 1
  · rcases h with h | h
    · rw [h]; exact h0 h
    · rw [h]; exact h1 h
  · exact h2 (by omega)

/-- R324, R327: a read of a block that is GOOD finds an error. -/
theorem readsCaught {s : State} (master : Fin 14) (mem : Fin 11) (n blk : Nat) (hn : n < memCount mem)
    (hd : ∀ d : Nat, memDomain mem n = some d → domOn s d = true) (h0 : mem.val = 0 → blk < ofsBlocks) (h1 : mem.val = 1 → blk < 8192)
    (ht : mem.val = 0 ∨ mem.val = 1 → (tblock s n (if mem.val = 0 then blk else ofsBlocks + blk)).phase = .good)
    (hb2 : 2 ≤ mem.val → blk < memBlocks mem ∧ sramHeld s mem n blk = true ∧ (eccBlock s mem n blk).phase = .good) :
    (∀ syn : BitVec 16, sramReadError mem n blk (.corrected syn) master s = sramCorrected mem n blk syn.toNat master 1 s) ∧
      sramReadError mem n blk .uncorrectable master s = if mem.val = 0 ∨ mem.val = 1 then damageTblock n (if mem.val = 0 then blk else ofsBlocks + blk) master 1 s
        else memoryReadError mem n blk master false s := by
  have hblk := memBlocks_of h0 h1 fun h => (hb2 h).1
  have good {ph : BlockPhase} (hp : ph = .good) (f : State → State) : badReadOr ph mem n blk f s = f s := by subst hp; rfl
  by_cases h : mem.val = 0 ∨ mem.val = 1
  · refine ⟨fun syn => ?_, ?_⟩
    · rw [sramReadError_reads hn hd hblk, if_pos h]
      exact good (ht h) _
    · rw [sramReadError_reads hn hd hblk, if_pos h, if_pos h]
      exact good (ht h) _
  · obtain ⟨-, hh, hg⟩ := hb2 (by omega)
    have hgate : ¬ (gatedMemory mem && !sramHeld s mem n blk) = true := by rw [hh, Bool.not_true, Bool.and_false]; nofun
    obtain ⟨k1, k2⟩ := memoryRead_held hh hg master
    refine ⟨fun syn => ?_, ?_⟩
    · rw [sramReadError_reads hn hd hblk, if_neg h, if_neg hgate, k1]
    · rw [sramReadError_reads hn hd hblk, if_neg h, if_neg h, if_neg hgate, k2]

theorem readsMissed {s : State} (hu : isUp s = true) (master : Fin 14) (mem : Fin 11) (n blk : Nat) (hn : n < memCount mem)
    (hd : ∀ d : Nat, memDomain mem n = some d → domOn s d = true) (h0 : mem.val = 0 → blk < ofsBlocks) (h1 : mem.val = 1 → blk < 8192)
    (e : SramError) (b : Nat) (he : e ≠ .stateParity)
    (ht : mem.val = 0 ∨ mem.val = 1 → (tblock s n (if mem.val = 0 then blk else ofsBlocks + blk)).phase = (if b = 31 then .empty else .damaged))
    (hb2 : 2 ≤ mem.val → blk < memBlocks mem ∧ (gatedMemory mem = true → sramHeld s mem n blk = true))
    (h31 : 2 ≤ mem.val → b = 31 → sramHeld s mem n blk = false ∧ eccWritten s mem n blk = false)
    (h30 : 2 ≤ mem.val → b = 30 → sramHeld s mem n blk = true ∧ (eccBlock s mem n blk).phase = .damaged) (hb : b = 30 ∨ b = 31) :
    exec (.sramReadError mem n blk e master) s = .next (recordBadRead b mem n blk s) := by
  have hblk := memBlocks_of h0 h1 fun h => (hb2 h).1
  refine (upNext_up hu).trans (congrArg _ ?_)
  rw [sramReadError_reads hn hd hblk]
  have bad {ph : BlockPhase} (hp : ph = if b = 31 then .empty else .damaged) (good : State → State) : badReadOr ph mem n blk good s = recordBadRead b mem n blk s := by
    subst hp
    rcases hb with rfl | rfl
    · rfl
    · rfl
  split
  next h =>
    cases e with
    | stateParity => exact absurd rfl he
    | corrected syn => exact bad (ht h) _
    | uncorrectable => exact bad (ht h) _
  next h =>
    have h2 : 2 ≤ mem.val := by omega
    have hg : ¬ (gatedMemory mem && !sramHeld s mem n blk) = true := by
      cases hgm : gatedMemory mem with
      | false => nofun
      | true => rw [(hb2 h2).2 hgm]; nofun
    rw [if_neg hg]
    have hp : (if sramHeld s mem n blk || eccWritten s mem n blk then (eccBlock s mem n blk).phase else BlockPhase.empty) = if b = 31 then .empty else .damaged := by
      rcases hb with rfl | rfl
      · rw [(h30 h2 rfl).1, (h30 h2 rfl).2]; rfl
      · rw [(h31 h2 rfl).1, (h31 h2 rfl).2]; rfl
    cases e with
    | stateParity => exact absurd rfl he
    | corrected syn => exact bad hp _
    | uncorrectable => exact bad hp _

/-- Settles O45. -/
theorem memoryErrorsAreCaught : Obligations.MemoryErrorsAreCaught := by
  unfold Obligations.MemoryErrorsAreCaught
  refine ⟨fun s master hu hs hm hnm => ⟨fun mem n blk hn hd h0 h1 => ⟨fun ht hb2 => ⟨fun syn => ?_, ?_⟩, fun e b he ht hb2 h31 h30 hb => ?_, fun hm0 => ?_⟩, fun qa loc => ⟨?_, fun code => ?_, ?_⟩,
    fun sev burst loc khz => ⟨fun hr => ?_, fun hr hn => ?_, fun n n' hr hn hn' hk => ?_, fun n n' g k hr hn hn' hk => ?_, fun n n' k hr hn hn' hk => ?_,
      fun n n' slot hr hn hn' hk hsev hlt => ?_⟩⟩, fun p w s hs => ⟨fun hm => ?_, fun hm => ?_⟩⟩
  · have hx := (readsCaught master mem n blk hn hd h0 h1 ht hb2).1 syn
    obtain ⟨k1, -, k3, k4, k5⟩ := sramCorrected_tells hs mem n blk syn.toNat master 1
    exact ⟨_, (upNext_up hu).trans (congrArg _ hx), ((sramCorrected_does ..).widen rfl).only, k1, k3, k4, k5⟩
  · have hx := (readsCaught master mem n blk hn hd h0 h1 ht hb2).2
    refine ⟨_, (upNext_up hu).trans (congrArg _ hx), ?_⟩
    by_cases h : mem.val = 0 ∨ mem.val = 1
    · have hbm := blockMemory_of h h0
      obtain ⟨-, k2, k3, k4, -⟩ := damageTblock_damages hs hm n (if mem.val = 0 then blk else ofsBlocks + blk) master 1
      rw [hbm] at k3 k4
      rw [if_pos h]
      exact ⟨k3, fun _ _ _ => k4, fun _ => k2, fun h => by omega, fun h => by omega, fun h => by omega, fun h => by omega⟩
    · rw [if_neg h]
      obtain ⟨k1, k2, k3, k4, k5, k6⟩ := memoryReadError_loses hs hnm mem.isLt hn blk master
      exact ⟨k1, k2, fun hh => absurd hh h, fun _ => k3, k4, k5, k6⟩
  · obtain ⟨k1, k2, k3, k4, k5, k6, k7⟩ := recordBadRead_records hs (b := b) (mem := mem.val) (by omega) (by omega) (by omega) n blk
    exact ⟨_, readsMissed hu master mem n blk hn hd h0 h1 e b he ht hb2 h31 h30 hb, k1, k2, k3, k4, k5, k6, k7⟩
  · have hblk := memBlocks_of h0 h1 fun h => by omega
    have hx : sramReadError mem n blk .stateParity master s =
        forN 32 (fun i t => queueRestore n (blk / 32 * 32 + i) t) (damageTblock n blk master 1 (stateParity n blk s)) := by
      rw [sramReadError_reads hn hd hblk, if_pos (.inl hm0), hm0]
      rfl
    refine ⟨_, (upNext_up hu).trans (congrArg _ hx), fun i hi => ?_⟩
    have d1 : Does [.sram] s (stateParity n blk s) := stateParity_does ..
    have t1 := d1.tables hs
    have d2 : Does [.mem] (damageTblock n blk master 1 (stateParity n blk s)) (forN 32 (fun i t => queueRestore n (blk / 32 * 32 + i) t)
        (damageTblock n blk master 1 (stateParity n blk s))) := Does.forN (fun _ _ h => .step (queueRestore_does ..) rfl h) (.refl _ _)
    obtain ⟨k1, k2, -⟩ := damageTblock_damages t1 (d1.mem hm) n blk master 1
    rw [tblock_of (d2.only.same .sram (by decide))]
    by_cases hb : blk / 32 * 32 + i = blk
    · rw [hb]; exact k2
    · rw [k1.blocks n (blk / 32 * 32 + i) (by omega)]
      exact tblock_stateParity hm n blk hi
  · exact upNext_up hu
  · obtain ⟨k1, k2, k3, k4⟩ := hbmCorrected_tells hs qa.toNat code loc master 1
    exact ⟨_, upNext_up hu, (hbmReadError_does ..).only, k1, hbmSeen_counts hs .., k2, k3, k4⟩
  · let v := count .memHbmCnt 0 31 16 1 s
    have hv : RegsKept [(.memHbmCnt, 0, 0)] s v := regsKept_setCell hs.regs _ _ _ _
    have tv : TablesRise v := (count_does ..).tables hs
    have hne : regOff .memHbmCnt 0 0 ≠ regOff .memEvt 0 0 := regOff_ne (at_mem.2 _ (by decide)) (at_mem.2 _ (by decide)) nofun
    have hc : cell v .memHbmCnt = incSat (cell s .memHbmCnt) 31 16 1 := cell_count hs.regs ..
    cases hq : (granuleKind (qa.toNat / 4096)).isQuarry with
    | true =>
      have hx : hbmReadError qa.toNat .uncorrectable loc master s = v := if_neg (by rw [hq]; nofun)
      exact ⟨_, (upNext_up hu).trans (congrArg _ hx), ((count_does ..).widen rfl).only, hv.widen (List.cons_subset.2 ⟨.head _, List.nil_subset _⟩), hc, fun _ => rfl, nofun⟩
    | false =>
      have hx : hbmReadError qa.toNat .uncorrectable loc master s = hbmUncorrectable qa.toNat loc master 1 v := if_pos (by rw [hq]; rfl)
      obtain ⟨k1, k2, k3, -⟩ := hbmUncorrectable_tells tv qa.toNat loc master 1
      have hd : Does reportZones s (hbmUncorrectable qa.toNat loc master 1 v) := .step (hbmUncorrectable_does ..) rfl ((count_does ..).widen rfl)
      exact ⟨_, (upNext_up hu).trans (congrArg _ hx), hd.only, (hv.widen (List.cons_subset.2 ⟨.head _, List.nil_subset _⟩)).trans
          (k1.widen (List.cons_subset.2 ⟨.tail _ (.head _), List.nil_subset _⟩)),
        (k1 _ _ _ fun x hx => by cases List.mem_singleton.1 hx; exact hne).trans hc, nofun,
        fun _ => ⟨k3.from rfl, k2.before hv fun x hx => by cases List.mem_singleton.1 hx; exact hne.symm⟩⟩
  · refine (upNext_up hu).trans (congrArg _ (if_pos ?_))
    rw [hr]; rfl
  · have hx : hbmScrub sev burst loc khz.toNat s = passEnd khz.toNat s := by
      unfold hbmScrub
      rw [hr, if_neg (by decide), hn]
    obtain ⟨k1, k2, k3, k4, k5, -⟩ := passEnd_ends hs khz.toNat
    exact ⟨_, (upNext_up hu).trans (congrArg _ hx), (passEnd_does ..).only, k1, k2, k3, k4, k5⟩
  · let v := granuleSeen n sev burst loc s
    have dv : Does [.regs, .flt, .mem] s v := hbmSeen_does ..
    obtain ⟨h1, h2, -⟩ := hbmSeen_step hs (4096 * n + 32 * burst) sev loc 4 4
    obtain ⟨k1, -, k3, k4⟩ := hbmUncorrectable_tells (dv.tables hs) (4096 * n + 32 * burst) loc 4 4
    have dw : Does [.regs, .flt, .port0, .port1, .mem] s (scrubGranule n sev burst loc s) := by
      rw [scrubGranule_other hk]
      split
      · exact .step (hbmUncorrectable_does ..) rfl (dv.widen rfl)
      · exact dv.widen rfl
    have hw : RegsKept [(.memScrubPos, 0, 0), (.memHbmCnt, 0, 0), (.memEvt, 0, 0)] s (scrubGranule n sev burst loc s) := by
      have h1' : RegsKept [(.memScrubPos, 0, 0), (.memHbmCnt, 0, 0), (.memEvt, 0, 0)] s v := h1.widen (List.cons_subset.2 ⟨.tail _ (.head _), List.nil_subset _⟩)
      rw [scrubGranule_other hk]
      split
      · exact h1'.trans (k1.widen (List.cons_subset.2 ⟨.tail _ (.tail _ (.head _)), List.nil_subset _⟩))
      · exact h1'
    have hx : hbmScrub sev burst loc khz.toNat s = setCell .memScrubPos 0 0 (mkFld 23 0 (n + 1)) (scrubGranule n sev burst loc s) := hbmScrub_moves hr hn (n' := n') (by
      rw [nextGranule_of (by rw [dw.only.same .hbm (by decide)]) (dw.only.same .pwr (by decide))]
      exact hn')
    refine ⟨_, (upNext_up hu).trans (congrArg _ hx), (Does.step (setCell_does ..) rfl dw).only, cell_setCell (dw.tables hs).regs .., hw.set (dw.tables hs).regs (.head _) _,
      fun h => ?_, fun qa hq h => ?_⟩
    · subst h
      show (scrubGranule n .none burst loc s).flt = s.flt
      rw [scrubGranule_other hk]
      rfl
    · subst hq h
      have hs' : scrubGranule n .uncorrectable burst loc s = hbmUncorrectable (4096 * n + 32 * burst) loc 4 4 v := (scrubGranule_other hk ..).trans (if_pos rfl)
      have hc : cell v .memHbmCnt = incSat (cell s .memHbmCnt) 31 16 1 := cell_count hs.regs ..
      have ne1 : regOff .memHbmCnt 0 0 ≠ regOff .memEvt 0 0 := regOff_ne (at_mem.2 _ (by decide)) (at_mem.2 _ (by decide)) nofun
      have ne2 : regOff .memHbmCnt 0 0 ≠ regOff .memScrubPos 0 0 := regOff_ne (at_mem.2 _ (by decide)) (at_mem.2 _ (by decide)) nofun
      refine ⟨?_, ?_⟩
      · rw [cell_setCell_other (dw.tables hs).regs _ ne2, hs', k1 _ _ _ fun x hx => by cases List.mem_singleton.1 hx; exact ne1]
        exact hc
      · have hrep := k3.from (dv.only.same .btr (by decide))
        rw [← hs'] at hrep
        exact hrep
  · let v := granuleSeen n sev burst loc s
    have dv : Does [.regs, .flt, .mem] s v := hbmSeen_does ..
    obtain ⟨c1, c2⟩ := hbmScrub_checks hs (sev := sev) (burst := burst) (loc := loc) (khz := khz.toNat) hr hn
    have hg := scrubGranule_archive hk sev burst loc s
    refine ⟨_, upNext_up hu, fun hsev hcrc => ?_, fun qa hq h => ?_⟩
    · subst hsev
      have he : scrubGranule n .none burst loc s = s := hg.trans (if_neg (by rw [hcrc]; nofun))
      have hx := hbmScrub_moves (khz := khz.toNat) hr hn (n' := n') (sev := .none) (burst := burst) (loc := loc) (by rw [he]; exact hn')
      rw [hx, he]
      exact ⟨rfl, rfl⟩
    · subst hq
      have hput : Rises (smPut false v.hbm.badMarks (g * 272 + k) true) := rises_put (dv.tables hs).badMarks ..
      have ta : TablesRise (archiveMarked g k v) := { dv.tables hs with badMarks := hput }
      have he : scrubGranule n sev burst loc s = hbmUncorrectable (4096 * n + 32 * burst) loc 4 4 (archiveMarked g k v) := hg.trans (if_pos (by rcases h with h | h <;> simp [h]))
      obtain ⟨-, -, k3, -⟩ := hbmUncorrectable_tells ta (4096 * n + 32 * burst) loc 4 4
      have hmark : smGet false (smPut false v.hbm.badMarks (g * 272 + k) true) (g * 272 + k) = true :=
        (smGet_put_rises (dv.tables hs).badMarks _ _ _ _ fun _ => rfl).trans (if_pos rfl)
      have hhbm : (hbmScrub sev burst loc khz.toNat s).hbm = (archiveMarked g k v).hbm := c2.trans (by rw [he]; exact (hbmUncorrectable_does ..).only.same .hbm (by decide))
      refine ⟨?_, ?_⟩
      · rw [hhbm]; exact hmark
      · rw [← he] at k3
        exact (k3.from (s := s) (dv.only.same .btr (by decide))).tells c1
  · let v := granuleSeen n sev burst loc s
    have dv : Does [.regs, .flt, .mem] s v := hbmSeen_does ..
    have hbv : v.btr = s.btr := dv.only.same .btr (by decide)
    obtain ⟨c1, -⟩ := hbmScrub_checks hs (sev := sev) (burst := burst) (loc := loc) (khz := khz.toNat) hr hn
    have hg := scrubGranule_stone hk sev burst loc s
    refine ⟨_, upNext_up hu, fun hsev hgood => ?_, fun qa hq h => Reported.tells ?_ c1⟩
    · subst hsev
      have he : scrubGranule n .none burst loc s = s := by
        rw [hg, if_neg (by decide), hgood]
        rfl
      have hx := hbmScrub_moves (khz := khz.toNat) hr hn (n' := n') (sev := .none) (burst := burst) (loc := loc) (by rw [he]; exact hn')
      rw [hx, he]
      exact ⟨rfl, rfl⟩
    · rw [hg]
      by_cases hsev : sev = .uncorrectable
      · rw [if_pos hsev] at hq
        rw [if_pos (by rw [hsev]; rfl)]
        exact stoneDamaged_reports hbv k (some burst.val) loc hq
      · rw [if_neg hsev] at hq
        rw [if_neg (by simpa using hsev), h.resolve_left hsev, if_neg Bool.false_ne_true]
        exact stoneDamaged_reports hbv k none loc hq
  · subst hsev
    obtain ⟨c1, -⟩ := hbmScrub_checks hs (sev := .none) (burst := burst) (loc := loc) (khz := khz.toNat) hr hn
    have he : scrubGranule n .none burst loc s =
        forL ((s.qry.left ++ s.qry.published).filter (fun c => decide (slot ≤ c % 2097152) && decide (c % 2097152 < slot + 8))) slotChecked s := by
      rw [← indexScrub_eq]
      unfold scrubGranule
      dsimp only
      rw [hk]
      rfl
    refine ⟨_, upNext_up hu, fun hgood => ?_, fun c hc hlo hhi hnone => Reported.tells ?_ c1⟩
    · have he' : scrubGranule n .none burst loc s = s := he.trans (slotsChecked_good fun c hc => by
        obtain ⟨h1, h2⟩ := List.mem_filter.1 hc
        simp only [Bool.and_eq_true, decide_eq_true_eq] at h2
        exact hgood c h1 h2.1 h2.2)
      have hx := hbmScrub_moves (khz := khz.toNat) hr hn (n' := n') (sev := .none) (burst := burst) (loc := loc) (by rw [he']; exact hn')
      rw [hx, he']
      exact ⟨rfl, rfl⟩
    · rw [he]
      exact slotsChecked_reports (fun c hc => hlt c (List.mem_filter.1 hc).1) hm
        (List.mem_filter.2 ⟨hc, by rw [decide_eq_true hlo, decide_eq_true hhi]; rfl⟩) hnone
  · let v := setCell .memInject 0 0 (mergeMask (storeMask .memInject) (cell s .memInject) w) s
    have hc : cell v .memCtl = cell s .memCtl := cell_setCell_other hs.regs _ (regOff_ne at_inject.2.1 at_inject.1 nofun)
    have hw : exec (.memInjectArm p w) s = .next (memInjectWrite w v) := by
      refine (hostRow_may hm at_memInject).trans (congrArg _ ?_)
      rw [writeReg_plain (by decide) (by decide) (by decide)]
      rfl
    refine ⟨_, hw, (Does.step (memInjectWrite_does ..) rfl ((setCell_does ..).widen rfl)).only, fun h1 h2 => ?_, fun h => ?_⟩
    · unfold memInjectWrite
      rw [hc, h1, h2]
      rfl
    · have hx : memInjectWrite w v = v := if_neg (by rw [hc]; rcases h with h | h <;> simp [h])
      rw [hx]
      rfl
  · let v := setCell .btrInject 0 0 (mergeMask (storeMask .btrInject) (cell s .btrInject) w) s
    have hc : cell v .btrCtl = cell s .btrCtl := cell_setCell_other hs.regs _ (regOff_ne at_inject.2.2.2 at_inject.2.2.1 nofun)
    have hw : exec (.btrInjectArm p w) s = .next (btrInjectWrite w v) := by
      refine (hostRow_may hm at_btrInject).trans (congrArg _ ?_)
      rw [writeReg_plain (by decide) (by decide) (by decide)]
      rfl
    refine ⟨_, hw, (Does.step (btrInjectWrite_does ..) rfl ((setCell_does ..).widen rfl)).only, fun h1 h2 h3 => ?_, fun h => ?_⟩
    · unfold btrInjectWrite
      rw [hc, h1, h2, decide_eq_true h3]
      rfl
    · have hx : btrInjectWrite w v = v := if_neg (by
        rw [hc]
        rcases h with h | h | h
        · simp [h]
        · simp [h]
        · rw [decide_eq_false (by omega)]; simp)
      rw [hx]
      rfl

end Sys2Proof.Machine
end

section
/-!
SUPPORT. Stones that are written and courses that leave the history or join it (R176, R177, R181, R182, R186, R187), and the statement on both settled.
-/
namespace Sys2Proof.Machine

/-! ### The depth registers (R183, R199) -/

abbrev depthRegs : List (Reg × Nat × Nat) := [(.qryDepth, 0, 0), (.qryDepthMin, 0, 0), (.qryEvt, 0, 0)]

/-- What follows a move of P or H: the depth is shown, and whether the floor has been reached is remembered. -/
structure DepthStep (s t : State) : Prop where
  does : Does [.regs, .flt, .port0, .port1, .qry] s t
  regs : RegsKept depthRegs s t
  tells : Tells s t
  qry : ∃ f, t.qry = { s.qry with floorReached := f }

theorem DepthStep.trans {s t u : State} (h : DepthStep s t) (k : DepthStep t u) : DepthStep s u := by
  obtain ⟨f, hf⟩ := h.qry
  obtain ⟨g, hg⟩ := k.qry
  exact ⟨.step k.does rfl h.does, h.regs.trans k.regs, h.tells.trans k.tells, g, by rw [hg, hf]⟩

theorem DepthStep.refl (s : State) : DepthStep s s := ⟨.refl _ _, .refl _ _, .refl _, _, rfl⟩

theorem depthStep_modCell {s : State} (hs : TablesRise s) {r : Reg} (hr : (r, 0, 0) ∈ depthRegs) (f : Word → Word) : DepthStep s (modCell r 0 0 f s) :=
  ⟨(modCell_does ..).widen rfl, RegsKept.set (.refl _ _) hs.regs hr _, .of_flt rfl, _, rfl⟩

theorem depthStep_floor (s : State) : DepthStep s (s.modQry fun q => { q with floorReached := true }) :=
  ⟨(State.modQry_does (fun q => { q with floorReached := true }) s fun _ h => h).widen rfl, .of_regs rfl, .of_flt rfl, _, rfl⟩

/-- The least depth since it was cleared is kept. -/
def depthLeast (d : Nat) (s : State) : State :=
  if s.qry.floorReached || s.qry.minCleared then modCell .qryDepthMin 0 0 (fun w => setFld w 21 0 (min d (fld w 21 0))) s else s

/-- The floor is reached, or broken. -/
def depthFloor (d : Nat) (wasOk : Bool) (s : State) : State :=
  if d ≥ 80000 then
    if s.qry.floorReached then s else modCell .qryDepthMin 0 0 (fun w => setFld w 21 0 d) (s.modQry fun q => { q with floorReached := true })
  else if s.qry.floorReached && wasOk then
    raise Src.qryFloorBreach 0 (w32 d :: capCourse (nowCourse s)) (event .qryEvt 0 17 s)
  else s

theorem depthMoved_eq (s : State) : depthMoved s = depthFloor (qryDepth s) (decide (fld (cell s .qryDepth) 21 0 ≥ 80000))
    (depthLeast (qryDepth s) (modCell .qryDepth 0 0 (fun w => setFld w 21 0 (qryDepth s)) s)) := rfl

theorem depthMoved_step {s : State} (hs : TablesRise s) : DepthStep s (depthMoved s) := by
  have h1 := depthStep_modCell hs (r := .qryDepth) (.head _) (fun w => setFld w 21 0 (qryDepth s))
  have h2 : DepthStep s (depthLeast (qryDepth s) (modCell .qryDepth 0 0 (fun w => setFld w 21 0 (qryDepth s)) s)) := by
    unfold depthLeast
    split
    · exact h1.trans (depthStep_modCell (h1.does.tables hs) (.tail _ (.head _)) _)
    · exact h1
  rw [depthMoved_eq]
  generalize depthLeast (qryDepth s) (modCell .qryDepth 0 0 (fun w => setFld w 21 0 (qryDepth s)) s) = v at h2
  have tv := h2.does.tables hs
  unfold depthFloor
  split
  · split
    · exact h2
    · have h3 := h2.trans (depthStep_floor v)
      exact h3.trans (depthStep_modCell (h3.does.tables hs) (.tail _ (.head _)) _)
  · split
    · have d : Does [.regs, .port0, .port1] v (event .qryEvt 0 17 v) := event_does ..
      refine h2.trans ⟨.step (raise_does ..) rfl (d.widen rfl), ((RegsKept.refl _ v).ev tv.regs (.tail _ (.tail _ (.head _))) 17).keep (raise_regs ..), tells_raise_of (event_flt ..), v.qry.floorReached, ?_⟩
      show (event .qryEvt 0 17 v).qry = _
      rw [d.only.same .qry (by decide)]
    · exact h2

/-! ### Pins that break (R187) -/

/-- The pin of a request holds stone `n`. -/
def pinHolds (n : Nat) (r : QReq) : Bool :=
  match r.pin with
  | some (a, b) => !r.broken && decide (stoneSpan a n ≤ stoneSpan a b)
  | none => false

/-- A request whose pin breaks. -/
def QReq.breaks (n : Nat) (r : QReq) : QReq := if pinHolds n r then { r with broken := true, pin := none } else r

/-- A broken pin is told. -/
def pinTold (n : Nat) (r : QReq) (t : State) : State :=
  raise Src.qryPinBreak (fld (requesterWord r) 15 8) (requesterWord r :: capCourse (r.courses.headD 0) ++ [w32 n] ++ capCourse (nowCourse t))
    (count .qryPinBreaks 0 31 0 1 (event .qryEvt 0 18 t))

theorem breakPins_eq (n : Nat) (s : State) : breakPins n s =
    forL (s.qry.reads.filter (pinHolds n)) (pinTold n) (s.modQry fun q => { q with reads := q.reads.map (.breaks n) }) := rfl

theorem pinTold_does (n : Nat) (r : QReq) (t : State) : Does [.regs, .flt, .port0, .port1] t (pinTold n r t) :=
  .step (raise_does ..) rfl (.step (count_does ..) rfl ((event_does ..).widen rfl))

theorem pinTold_tells (n : Nat) (r : QReq) (t : State) : Tells t (pinTold n r t) := tells_raise_of (event_flt .qryEvt 0 18 t)

theorem pinsTold_does (n : Nat) (l : List QReq) (t : State) : Does [.regs, .flt, .port0, .port1] t (forL l (pinTold n) t) :=
  Does.forL (fun _ _ h => .step (pinTold_does ..) rfl h) (.refl _ _)

theorem pinsTold_tells (n : Nat) (l : List QReq) {t : State} (ht : TablesRise t) : Tells t (forL l (pinTold n) t) ∧
    RegsKept [(.qryEvt, 0, 0), (.qryPinBreaks, 0, 0)] t (forL l (pinTold n) t) ∧
    ∀ r ∈ l, Reported Src.qryPinBreak (fld (requesterWord r) 15 8) (requesterWord r :: capCourse (r.courses.headD 0) ++ [w32 n] ++ capCourse (nowCourse t)) t (forL l (pinTold n) t) := by
  induction l generalizing t with
  | nil => exact ⟨.refl _, .refl _ _, nofun⟩
  | cons r l ih =>
    have hb : (event .qryEvt 0 18 t).btr = t.btr := event_btr ..
    have he : Rises (event .qryEvt 0 18 t).regs := rises_event ht.regs ..
    have hbt : (pinTold n r t).btr = t.btr := (pinTold_does n r t).only.same .btr (by decide)
    have hk : RegsKept [(.qryEvt, 0, 0), (.qryPinBreaks, 0, 0)] t (pinTold n r t) :=
      (((RegsKept.refl _ t).ev ht.regs (.head _) 18).set he (.tail _ (.head _)) _).keep (raise_regs ..)
    obtain ⟨h1, h2, h3⟩ := ih ((pinTold_does n r t).tables ht)
    refine ⟨(pinTold_tells n r t).trans h1, hk.trans h2, fun q hq => ?_⟩
    rcases List.mem_cons.1 hq with rfl | hq
    · have hr : Reported Src.qryPinBreak (fld (requesterWord q) 15 8) (requesterWord q :: capCourse (q.courses.headD 0) ++ [w32 n] ++ capCourse (nowCourse t)) t
          (pinTold n q t) := reported_raise hb
      exact hr.tells h1
    · have := (h3 q hq).from hbt
      rwa [nowCourse_btr hbt] at this

/-! ### Courses that leave the history (R182) -/

/-- The oldest course of the history has left it. -/
def Quarry.oldestGone (h : Nat) (l : List Nat) (q : Quarry) : Quarry :=
  { q with published := l, left := q.left ++ [h], passed := q.passed.filter (fun c => c != h), hist := l.headD ((q.newest.getD h) + 1) }

/-- The entry of a course that leaves the history shows it. -/
def historyLeft (h : Nat) (l : List Nat) (s : State) : State :=
  (s.hbmStore (entryQa h) (wordBytes ((entryOf s h).set 0 ((entryOf s h).getD 0 0 ||| 128)))).modQry (.oldestGone h l)

theorem historyLeft_qry (h : Nat) (l : List Nat) (s : State) : (historyLeft h l s).qry = s.qry.oldestGone h l :=
  congrArg (Quarry.oldestGone h l) ((State.hbmStore_does ..).only.same .qry (by decide))

theorem leaveHistory_leaves {h : Nat} {l : List Nat} {s : State} (hp : s.qry.published = h :: l) (hh : s.qry.passed.contains h = true) (k : Nat) :
    leaveHistory (k + 1) s = leaveHistory k (historyLeft h l s) := by
  rw [leaveHistory, hp]
  dsimp only
  rw [if_pos hh]
  rfl

theorem leaveHistory_stays {s : State} (h : ∀ c l, s.qry.published = c :: l → s.qry.passed.contains c = false) (k : Nat) : leaveHistory k s = s := by
  cases k with
  | zero => rfl
  | succ k =>
    rw [leaveHistory]
    cases hp : s.qry.published with
    | nil => rfl
    | cons c l => exact if_neg (by rw [h c l hp]; nofun)

theorem historyLeft_does (h : Nat) (l : List Nat) (s : State) : Does [.qry, .hbm] s (historyLeft h l s) :=
  .step (State.modQry_does _ _ fun _ h => h) rfl ((State.hbmStore_does ..).widen rfl)

/-- What courses that leave the history keep of the quarry. -/
theorem leaveHistory_keeps (k : Nat) (s : State) : (leaveHistory k s).qry.full = s.qry.full ∧ (leaveHistory k s).qry.reads = s.qry.reads ∧
    ∃ left, s.qry.published = left ++ (leaveHistory k s).qry.published := by
  induction k generalizing s with
  | zero => exact ⟨rfl, rfl, [], rfl⟩
  | succ k ih =>
    by_cases h : ∃ c l, s.qry.published = c :: l ∧ s.qry.passed.contains c = true
    · obtain ⟨c, l, hp, hc⟩ := h
      rw [leaveHistory_leaves hp hc]
      obtain ⟨h1, h2, left, h3⟩ := ih (historyLeft c l s)
      rw [historyLeft_qry] at h1 h2 h3
      exact ⟨h1, h2, c :: left, by rw [hp]; exact congrArg (c :: ·) h3⟩
    · have hst := leaveHistory_stays (s := s) (fun c l hp => by
        cases hc : s.qry.passed.contains c with
        | false => rfl
        | true => exact absurd ⟨c, l, hp, hc⟩ h) (k + 1)
      rw [hst]
      exact ⟨rfl, rfl, [], rfl⟩

/-- The courses that leave are those at the front that the writer has passed. -/
theorem leaveHistory_passes {gone : Nat → Bool} : ∀ (k : Nat) (s : State), s.qry.published.length ≤ k → s.qry.published.Nodup →
    (∀ c ∈ s.qry.published, s.qry.passed.contains c = gone c) →
    (leaveHistory k s).qry.published = s.qry.published.dropWhile gone ∧
      ((leaveHistory k s).qry.published ≠ s.qry.published → ∀ p : Nat, s.qry.newest = some p → (leaveHistory k s).qry.hist = (leaveHistory k s).qry.published.headD (p + 1)) := by
  intro k
  induction k with
  | zero =>
    intro s hk hn hg
    have hp : s.qry.published = [] := List.length_eq_zero_iff.1 (Nat.le_zero.1 hk)
    exact ⟨show s.qry.published = _ by rw [hp]; rfl, fun h => absurd rfl h⟩
  | succ k ih =>
    intro s hk hn hg
    cases hp : s.qry.published with
    | nil =>
      rw [leaveHistory_stays (fun c l h => nomatch hp.symm.trans h), hp]
      exact ⟨rfl, fun h => absurd rfl h⟩
    | cons c l =>
      rw [hp] at hk hn hg
      cases hc : gone c with
      | false =>
        rw [leaveHistory_stays (fun d m h => by cases hp.symm.trans h; rw [hg _ (.head _), hc]), List.dropWhile_cons_of_neg (by rw [hc]; nofun)]
        exact ⟨hp, fun h => absurd hp h⟩
      | true =>
        have hcp : s.qry.passed.contains c = true := (hg c (.head _)).trans hc
        obtain ⟨hcl, hnl⟩ := List.nodup_cons.1 hn
        have hq := historyLeft_qry c l s
        have hpub : (historyLeft c l s).qry.published = l := by rw [hq]; rfl
        have hkeep : ∀ d ∈ l, (s.qry.passed.filter (fun x => x != c)).contains d = gone d := fun d hd => by
          rw [← hg d (.tail _ hd), List.contains_eq_mem, List.contains_eq_mem]
          refine decide_eq_decide.2 ⟨fun h => (List.mem_filter.1 h).1, fun h => List.mem_filter.2 ⟨h, ?_⟩⟩
          exact bne_iff_ne.2 fun e => hcl (e ▸ hd)
        obtain ⟨h1, h2⟩ := ih (historyLeft c l s) (by rw [hpub]; exact Nat.le_of_succ_le_succ hk) (by rw [hpub]; exact hnl) (by
          rw [hpub]
          intro d hd
          rw [hq]
          exact hkeep d hd)
        rw [hpub] at h1
        rw [leaveHistory_leaves hp hcp, List.dropWhile_cons_of_pos hc]
        refine ⟨h1, fun _ p hpn => ?_⟩
        by_cases hl : (leaveHistory k (historyLeft c l s)).qry.published = (historyLeft c l s).qry.published
        · have hst : leaveHistory k (historyLeft c l s) = historyLeft c l s := by
            refine leaveHistory_stays (fun d m h => ?_) k
            rw [hpub] at h
            rw [hpub, h1, h] at hl
            have hd : gone d = false := by
              cases hgd : gone d with
              | false => rfl
              | true =>
                rw [List.dropWhile_cons_of_pos hgd] at hl
                have h3 := congrArg List.length hl
                have h4 := (List.dropWhile_sublist gone (l := m)).length_le
                rw [List.length_cons] at h3
                omega
            rw [hq]
            exact (hkeep d (h ▸ .head _)).trans hd
          rw [hst, hq]
          show l.headD ((s.qry.newest.getD c) + 1) = l.headD (p + 1)
          rw [hpn]
          rfl
        · exact h2 hl p (by rw [hq]; exact hpn)

/-- A course that the writer has passed leaves. -/
theorem leaveHistory_shortens {s : State} {c : Nat} {l : List Nat} (hp : s.qry.published = c :: l) (hc : s.qry.passed.contains c = true) :
    (leaveHistory s.qry.published.length s).qry.published.length < s.qry.published.length := by
  have hk : s.qry.published.length = l.length + 1 := by rw [hp]; rfl
  obtain ⟨-, -, left, h⟩ := leaveHistory_keeps l.length (historyLeft c l s)
  have hpub : (historyLeft c l s).qry.published = l := by rw [historyLeft_qry]; rfl
  rw [hk, leaveHistory_leaves hp hc]
  have := congrArg List.length (hpub.symm.trans h)
  rw [List.length_append] at this
  omega

/-! ### A stone is written (R176, R182, R187) -/

theorem indexReadable_of {s t : State} (hp : t.pwr = s.pwr) (ht : t.flt.isolated = s.flt.isolated) : indexReadable t = indexReadable s := by
  have hd : powerDom t = powerDom s := funext (powerDom_of hp)
  unfold indexReadable qryAbsent ctlServes domOn isIsolated
  rw [hd, ht]

/-- What an entry is read as depends on HBM, the history and what serves. -/
theorem entryOf_of {s t : State} (h : t.hbm = s.hbm) (hl : t.qry.left = s.qry.left) (hp : t.qry.published = s.qry.published) (hw : t.pwr = s.pwr)
    (ht : t.flt.isolated = s.flt.isolated) (c : Nat) : entryOf t c = entryOf s c := by
  have hr : readIndex t = readIndex s := funext (readIndex_of h)
  have hws : hbmWords t = hbmWords s := by unfold hbmWords; rw [h]
  have hi : interpTime t c = interpTime s c := by
    unfold interpTime
    rw [hp, hr, indexReadable_of hw ht]
  unfold entryOf stubWords
  rw [hr, hws, hl, hi]

/-- The courses whose first stone is about to be written have been passed. -/
def Quarry.passes (first : Nat → Bool) (q : Quarry) : Quarry := { q with passed := q.passed ++ q.published.filter (fun c => !q.passed.contains c && first c) }

/-- The state in which courses leave the history, before a stone is written. -/
def stonePassing (n : Nat) (s : State) : State := stonePassed n (breakPins n s)

theorem stonePassing_does (n : Nat) (s : State) : Does [.regs, .flt, .port0, .port1, .qry] s (stonePassing n s) :=
  .step (stonePassed_does ..) rfl (breakPins_does ..)

theorem stonePassing_step {s : State} (hs : TablesRise s) (n : Nat) : Tells s (stonePassing n s) ∧ RegsKept [(.qryEvt, 0, 0), (.qryPinBreaks, 0, 0)] s (stonePassing n s) ∧
    (∀ r ∈ s.qry.reads, pinHolds n r = true →
      Reported Src.qryPinBreak (fld (requesterWord r) 15 8) (requesterWord r :: capCourse (r.courses.headD 0) ++ [w32 n] ++ capCourse (nowCourse s)) s (stonePassing n s)) ∧
    (stonePassing n s).qry = Quarry.passes (fun c => firstStone (entryOf s c) == n) { s.qry with reads := s.qry.reads.map (.breaks n) } := by
  let v := s.modQry fun q => { q with reads := q.reads.map (.breaks n) }
  have tv : TablesRise v := (State.modQry_does (fun q => { q with reads := q.reads.map (.breaks n) }) s fun _ h => h).tables hs
  obtain ⟨h1, h2, h3⟩ := pinsTold_tells n (s.qry.reads.filter (pinHolds n)) tv
  rw [show forL (s.qry.reads.filter (pinHolds n)) (pinTold n) v = breakPins n s from rfl] at h1 h2 h3
  have d : Does [.regs, .flt, .port0, .port1] v (breakPins n s) := pinsTold_does ..
  have hq : (breakPins n s).qry = v.qry := d.only.same .qry (by decide)
  have ht : Tells s (breakPins n s) := (Tells.of_flt (s := s) (t := v) rfl).trans h1
  refine ⟨ht.trans (.of_flt rfl), ((RegsKept.of_regs (s := s) (t := v) rfl).trans h2).keep rfl, fun r hr hh => ?_, ?_⟩
  · exact Reported.tells ((h3 r (List.mem_filter.2 ⟨hr, hh⟩)).from (s := s) rfl) (.of_flt rfl)
  · have he : (fun c => firstStone (entryOf (breakPins n s) c) == n) = fun c => firstStone (entryOf s c) == n := funext fun c => by
      rw [entryOf_of (s := s) ((breakPins_does ..).only.same .hbm (by decide)) (by rw [hq]; rfl) (by rw [hq]; rfl) ((breakPins_does ..).only.same .pwr (by decide)) ht.isolated]
    show Quarry.passes (fun c => firstStone (entryOf (breakPins n s) c) == n) (breakPins n s).qry = _
    rw [he, hq]
    rfl

/-- What is left in the history when stone `n` is written. -/
def stoneLeft (n : Nat) (s : State) : State := leaveHistory s.qry.published.length (stonePassing n s)

/-- The stone that waited first has been written. -/
def Quarry.written (rest : List (Nat × List DWord)) (q : Quarry) : Quarry := { q with full := rest }

theorem stoneWriteDone_writes {s : State} (hs : TablesRise s) (hr : s.qry.phase = .running) {n : Nat} {ws : List DWord} {rest : List (Nat × List DWord)} (hf : s.qry.full = (n, ws) :: rest)
    (hw : AsWritten 7 (n % 4) s) : stoneWriteDone s = depthMoved (((stoneLeft n s).modQry (.written rest)).hbmStore (4096 * n) (wordBytes ws)) := by
  have hread : stoneRead s = s := by
    unfold stoneRead
    rw [hf]
    exact eccVisit_asWritten hw ..
  have dl : Does [.regs, .flt, .port0, .port1, .qry, .hbm] s (stoneLeft n s) := .step (leaveHistory_does ..) rfl ((stonePassing_does ..).widen rfl)
  have hsk : skewWords (fun i => eccDelta (stoneLeft n s) 7 (n % 4) (stoneBlock n i)) 0 ws = ws :=
    skewWords_zero fun i _ _ => eccDelta_blank ((hw.of_mem (dl.only.same .mem (by decide))) _)
  have hpub : (stonePassing n s).qry.published = s.qry.published := by rw [(stonePassing_step hs n).2.2.2]; rfl
  unfold stoneWriteDone
  rw [hr, if_pos (by decide), hread, hf]
  show depthMoved (((stoneLeft n s).modQry (.written rest)).hbmStore (4096 * n) (wordBytes (skewWords (fun i => eccDelta (stoneLeft n s) 7 (n % 4) (stoneBlock n i)) 0 ws))) = _
  rw [hsk]


theorem hbm_eq_of_depth {s t : State} (h : Does [.regs, .flt, .port0, .port1, .qry] s t) : t.hbm = s.hbm := h.only.same .hbm (by decide)

theorem hbm_bytes_depthMoved (s : State) : (depthMoved s).hbm = s.hbm := hbm_eq_of_depth (depthMoved_does s)

/-- The courses that leave are those that the writer has passed, the stone written last included. -/
theorem stonePassing_passed {s : State} (hs : TablesRise s) (n c : Nat) : (stonePassing n s).qry.passed.contains c =
    (s.qry.passed ++ s.qry.published.filter (fun c => firstStone (entryOf s c) == n)).contains c := by
  rw [(stonePassing_step hs n).2.2.2]
  show (s.qry.passed ++ s.qry.published.filter (fun c => !s.qry.passed.contains c && firstStone (entryOf s c) == n)).contains c = _
  rw [Bool.eq_iff_iff]
  simp only [List.contains_eq_mem, decide_eq_true_eq, List.mem_append, List.mem_filter, Bool.and_eq_true, Bool.not_eq_true', decide_eq_false_iff_not]
  tauto

theorem QReq.breaks_of {n a b : Nat} {r : QReq} (hp : r.pin = some (a, b)) (hb : r.broken = false) (h : stoneSpan a n ≤ stoneSpan a b) :
    pinHolds n r = true ∧ r.breaks n = { r with broken := true, pin := none } := by
  have hh : pinHolds n r = true := by simp [pinHolds, hp, hb, h]
  exact ⟨hh, if_pos hh⟩

theorem requesterByte (r : QReq) : fld (requesterWord r) 15 8 = if r.job then r.owner % 256 else r.unit % 256 := by
  have h (x k : Nat) (hk : k < 256) : fld (w32 (x * 256 + k)) 15 8 = x % 256 := by
    unfold fld w32
    rw [BitVec.toNat_ofNat]
    omega
  unfold requesterWord
  split
  · exact h _ _ (by decide)
  · exact h _ _ (by decide)

/-- The oldest full stone is written to its granule. -/
theorem stoneWrite_does_all {s : State} (hu : isUp s = true) (hs : TablesRise s) (hm : MemoryWf s) {n : Nat} {ws : List DWord} {rest : List (Nat × List DWord)}
    (hr : s.qry.phase = .running) (hf : s.qry.full = (n, ws) :: rest) (hl : ws.length = 512) (hw : AsWritten 7 (n % 4) s) :
    ∃ t : State, exec .stoneWriteDone s = .next t ∧ Only (reportZones ++ [.qry, .hbm]) s t ∧
      RegsKept [(.qryDepth, 0, 0), (.qryDepthMin, 0, 0), (.qryEvt, 0, 0), (.qryPinBreaks, 0, 0)] s t ∧ t.qry.full = rest ∧
      (∀ i < 4096, hbmByte t.hbm.bytes (4096 * n + i) = (wordBytes ws).getD i 0) ∧
      (∃ left : List Nat, s.qry.published = left ++ t.qry.published) ∧
      (∀ (h : Nat) (l : List Nat), s.qry.published = h :: l → firstStone (entryOf s h) ≠ n → h ∉ s.qry.passed → t.qry.published = s.qry.published ∧
        t.qry.hist = s.qry.hist ∧ ∀ a : Nat, (a < 4096 * n ∨ 4096 * n + 4096 ≤ a) → hbmByte t.hbm.bytes a = hbmByte s.hbm.bytes a) ∧
      (∀ (h : Nat) (l : List Nat), s.qry.published = h :: l → firstStone (entryOf s h) = n → t.qry.published.length < s.qry.published.length) ∧
      (∀ gone : List Nat, gone = s.qry.passed ++ s.qry.published.filter (fun c => firstStone (entryOf s c) == n) → s.qry.published.Nodup →
        t.qry.published = s.qry.published.dropWhile (fun c => gone.contains c) ∧
        (t.qry.published ≠ s.qry.published → ∀ p : Nat, s.qry.newest = some p → t.qry.hist = t.qry.published.headD (p + 1))) ∧
      ∀ r ∈ s.qry.reads, ∀ a b : Nat, r.pin = some (a, b) → r.broken = false → stoneSpan a n ≤ stoneSpan a b →
        { r with broken := true, pin := none } ∈ t.qry.reads ∧
        Reported Src.qryPinBreak (if r.job then r.owner % 256 else r.unit % 256) (requesterWord r :: capCourse (r.courses.headD 0) ++ [w32 n] ++ capCourse (nowCourse s)) s t := by
  let p := stonePassing n s
  let v := stoneLeft n s
  let w := (v.modQry (.written rest)).hbmStore (4096 * n) (wordBytes ws)
  obtain ⟨ht, hk, hrep, hq⟩ := stonePassing_step hs n
  have hpub : p.qry.published = s.qry.published := by rw [hq]; rfl
  have dp : Does [.regs, .flt, .port0, .port1, .qry] s p := stonePassing_does ..
  have dv : Does [.qry, .hbm] p v := leaveHistory_does ..
  have dw : Does [.qry, .hbm] v w := .step (State.hbmStore_does ..) rfl ((State.modQry_does (.written rest) v fun _ h => h).widen rfl)
  have dpw : Does [.qry, .hbm] p w := .step dw rfl dv
  have dall : Does [.regs, .flt, .port0, .port1, .qry, .hbm] s w := .step dpw rfl (dp.widen rfl)
  have hd := depthMoved_step (dall.tables hs)
  have hrun := (upNext_up (f := stoneWriteDone) hu).trans (congrArg _ (stoneWriteDone_writes hs hr hf hw))
  obtain ⟨fl, hqt⟩ := hd.qry
  have hwq : w.qry = { v.qry with full := rest } := (State.hbmStore_does ..).only.same .qry (by decide)
  have htp : (depthMoved w).qry.published = v.qry.published := by rw [hqt, hwq]
  have hth : (depthMoved w).qry.hist = v.qry.hist := by rw [hqt, hwq]
  have hv : v = leaveHistory s.qry.published.length p := rfl
  obtain ⟨-, hvr, left, hvl⟩ := leaveHistory_keeps s.qry.published.length p
  have hne : wordBytes ws ≠ [] := wordBytes_ne fun e => by rw [e] at hl; cases hl
  have hlen : (wordBytes ws).length = 4096 := by rw [length_wordBytes, hl]
  have hmv : MemoryWf (v.modQry (.written rest)) := ((State.modQry_does (.written rest) v fun _ h => h).mem (dv.mem (dp.mem hm)))
  have hby (q : Nat) : hbmByte (depthMoved w).hbm.bytes q = if 4096 * n ≤ q ∧ q < 4096 * n + 4096 then (wordBytes ws).getD (q - 4096 * n) 0 else hbmByte v.hbm.bytes q := by
    rw [hbm_bytes_depthMoved]
    exact (hbmByte_hbmStore hmv hne q).trans (by rw [hlen]; rfl)
  have hgone := stonePassing_passed hs n
  refine ⟨depthMoved w, hrun, (Does.step hd.does rfl dall).only.widen rfl, ?_, ?_, fun i hi => ?_, ⟨left, ?_⟩, fun h l hhl hfs hnp => ?_, fun h l hhl hfs => ?_, ?_, fun r hr' a b hp hb hab => ?_⟩
  · have hk1 : RegsKept [(.qryEvt, 0, 0), (.qryPinBreaks, 0, 0)] s w := hk.keep (dpw.only.same .regs (by decide))
    exact RegsKept.trans (hk1.widen (List.cons_subset.2 ⟨by decide, List.cons_subset.2 ⟨by decide, List.nil_subset _⟩⟩))
      (hd.regs.widen (List.cons_subset.2 ⟨by decide, List.cons_subset.2 ⟨by decide, List.cons_subset.2 ⟨by decide, List.nil_subset _⟩⟩⟩))
  · rw [hqt, hwq]
  · rw [hby, if_pos ⟨Nat.le_add_right .., by omega⟩, Nat.add_sub_cancel_left]
  · rw [htp, ← hpub]
    exact hvl
  · have hst : v = p := leaveHistory_stays (s := p) (fun c m hcm => by
      obtain ⟨rfl, -⟩ := List.cons.inj (hhl.symm.trans (hpub.symm.trans hcm))
      rw [hgone, List.contains_eq_mem, decide_eq_false_iff_not]
      intro hmem
      rcases List.mem_append.1 hmem with hm1 | hm1
      · exact hnp hm1
      · exact hfs (by simpa using (List.mem_filter.1 hm1).2)) _
    refine ⟨by rw [htp, hst, hpub], by rw [hth, hst, hq]; rfl, fun a ha => ?_⟩
    rw [hby, if_neg (by omega), hst, dp.only.same .hbm (by decide)]
  · have hc : p.qry.passed.contains h = true := by
      rw [hgone, List.contains_eq_mem, decide_eq_true_eq]
      exact List.mem_append_right _ (List.mem_filter.2 ⟨by rw [hhl]; exact .head _, by simpa using hfs⟩)
    have := leaveHistory_shortens (s := p) (hpub.trans hhl) hc
    rw [hpub] at this
    rw [htp]
    exact this
  · rintro gone rfl hn
    obtain ⟨h1, h2⟩ := leaveHistory_passes (gone := fun c => (s.qry.passed ++ s.qry.published.filter (fun c => firstStone (entryOf s c) == n)).contains c)
      s.qry.published.length p (by rw [hpub]) (by rw [hpub]; exact hn) (fun c _ => hgone c)
    rw [hpub] at h1 h2
    rw [htp, hth]
    exact ⟨h1, fun h p' hp' => h2 h p' (by rw [hq]; exact hp')⟩
  · obtain ⟨hh, he⟩ := QReq.breaks_of hp hb hab
    refine ⟨?_, ?_⟩
    · rw [hqt, hwq]
      show _ ∈ v.qry.reads
      rw [hv, hvr, hq]
      exact he ▸ List.mem_map_of_mem hr'
    · rw [← requesterByte]
      exact ((hrep r hr' hh).tells (.of_flt (dpw.only.same .flt (by decide)))).tells hd.tells

theorem stoneWriteDone_waits {s : State} (h : s.qry.phase ≠ .running ∨ s.qry.full = []) : stoneWriteDone s = s := by
  unfold stoneWriteDone
  split
  case isTrue hr =>
    have hf : s.qry.full = [] := h.resolve_left fun h => h (beq_iff_eq.1 hr)
    have hread : stoneRead s = s := by unfold stoneRead; rw [hf]
    rw [hread, hf]
  case isFalse => rfl

/-! ### A stone is closed (R177) -/

theorem closeStone_closes {s : State} {o : OpenStone} (h : s.qry.openStone = some o) : (closeStone s).qry = { s.qry with
    full := s.qry.full ++ [(s.qry.writer, stoneWords s.qry.writer o)], writer := (s.qry.writer + 1) % stoneCount, openStone := none } := by
  have hq (m i b k : Nat) (v : State) : (eccWrites m i b k v).qry = v.qry := (eccWrites_does ..).only.same .qry (by decide)
  unfold closeStone
  rw [h]
  dsimp only [State.modQry]
  rw [hq, hq]

theorem stoneClose_closes {s : State} (hu : isUp s = true) :
    ∃ t : State, exec .stoneClose s = .next t ∧ Only [.qry, .mem] s t ∧ (s.qry.phase ≠ .running ∨ closeDue s = false → t = s) ∧
      ∀ o : OpenStone, s.qry.phase = .running → closeDue s = true → s.qry.openStone = some o → t.qry = { s.qry with
        full := s.qry.full ++ [(s.qry.writer, stoneWords s.qry.writer o)], writer := (s.qry.writer + 1) % stoneCount, openStone := none } := by
  refine ⟨stoneClose s, upNext_up hu, (stoneClose_does ..).only.widen rfl, fun h => ?_, fun o hr hc ho => ?_⟩
  · refine if_neg fun hc => ?_
    rw [Bool.and_eq_true, beq_iff_eq] at hc
    exact h.elim (fun h => h hc.1) fun h => by rw [h] at hc; cases hc.2
  · have : stoneClose s = closeStone s := if_pos (by rw [hr, hc]; decide)
    rw [this, closeStone_closes ho]

/-! ### The entry of a course is published (R181) -/

/-- A course has joined the history. -/
def Quarry.publishes (c : Nat) (q : Quarry) : Quarry := { q with
  jobs := q.jobs.tail
  published := (q.published ++ [c]).filter (fun k => decide (c < k + 2097152))
  left := q.left.filter (fun k => decide (c < k + 2097152))
  passed := q.passed.filter (fun k => decide (c < k + 2097152))
  hist := if q.published.isEmpty then c else max q.hist (c - 2097151)
  newest := some c }

/-- A state whose quarry differs in the requests alone. -/
def ReadsStep (s t : State) : Prop := ∃ l, t.qry = { s.qry with reads := l }

theorem pinAll_reads (s : State) : ReadsStep s (pinAll s) := by
  unfold pinAll
  induction s.qry.reads.length with
  | zero => exact ⟨s.qry.reads, rfl⟩
  | succ n ih =>
    obtain ⟨l, hl⟩ := ih
    rw [forN_succ]
    exact ⟨_, congrArg (fun q : Quarry => { q with reads := q.reads.modify n (pinRequest (forN n pinAt s) n) }) hl⟩

theorem publish_quarry {s : State} (hs : TablesRise s) (j : IndexJob) (cr : CloseRec) :
    ∃ f l, (publish j cr s).qry = { s.qry.publishes j.course with floorReached := f, reads := l } := by
  let v := storeEntry j.course (entryWords s cr j.blocks) s
  have dv : Does [.hbm] s v := storeEntry_does ..
  have dw : Does [.qry] v (v.modQry (.publishes j.course)) := State.modQry_does _ _ fun _ h => h
  obtain ⟨f, hf⟩ := (depthMoved_step (dw.tables (dv.tables hs))).qry
  obtain ⟨l, hl⟩ := pinAll_reads (depthMoved (v.modQry (.publishes j.course)))
  refine ⟨f, l, hl.trans ?_⟩
  rw [hf]
  show { v.qry.publishes j.course with floorReached := f, reads := l } = _
  rw [dv.only.same .qry (by decide)]

theorem publish_hbm (j : IndexJob) (cr : CloseRec) (s : State) : (publish j cr s).hbm = (storeEntry j.course (entryWords s cr j.blocks) s).hbm :=
  ((pinAll_does ..).only.same .hbm (by decide)).trans (hbm_bytes_depthMoved _)

theorem length_accountArea (c : Nat) (l : List Account) : (accountArea c l).length = 18 := by
  have h (m : List Account) : (m.flatMap (accountWords c)).length = 2 * m.length := by
    induction m with
    | nil => rfl
    | cons a m ih => rw [List.flatMap_cons, List.length_append, ih, List.length_cons]; show 2 + _ = _; omega
  have h9 : (l.take 9).length ≤ 9 := by rw [List.length_take]; omega
  unfold accountArea
  dsimp only
  rw [List.length_append, List.length_replicate, h]
  omega

theorem length_entryWords (s : State) (cr : CloseRec) (b : List BlockLoc) : (entryWords s cr b).length = 63 := by
  unfold entryWords
  simp [length_accountArea, timeWords, tgroupWords]

theorem entryWords_course {s : State} {cr : CloseRec} (hc : cr.course < 2 ^ 56) (hq : (courseTime s cr.course).quality ≤ 2) (b : List BlockLoc) :
    dfld ((entryWords s cr b).getD 0 0) 63 8 = cr.course := by
  have h : ∃ k, k < 256 ∧ (entryWords s cr b).getD 0 0 = BitVec.ofNat 64 (cr.course * 256 + k) := by
    refine ⟨(if (markingAccounts s cr.course).length > 9 then 32 else 0) +
      (((List.range 32).map (groupDesc cr s.ring.heldLost b)).any (fun d => dfld d 7 7 == 0 && dfld d 3 0 != 0)).toNat * 16 + (courseTime s cr.course).quality, ?_, ?_⟩
    · have := Bool.toNat_le (((List.range 32).map (groupDesc cr s.ring.heldLost b)).any (fun d => dfld d 7 7 == 0 && dfld d 3 0 != 0))
      split <;> omega
    · rw [← Nat.add_assoc, ← Nat.add_assoc]
      rfl
  obtain ⟨k, hk, he⟩ := h
  rw [he, dfld_ofNat (by decide) (by decide)]
  omega

theorem indexPublish_publishes {s : State} (hu : isUp s = true) (hs : TablesRise s) (hm : MemoryWf s) {j : IndexJob} {cr : CloseRec} (h : publishReady s = some (j, cr)) :
    ∃ t : State, exec .indexPublish s = .next t ∧ Only (reportZones ++ [.ring, .qry, .hbm, .streams, .uplinks]) s t ∧ t.qry.jobs = s.qry.jobs.tail ∧
      t.qry.newest = some j.course ∧ t.qry.published = (s.qry.published ++ [j.course]).filter (fun k => decide (j.course < k + 2097152)) ∧
      t.qry.hist = (if s.qry.published = [] then j.course else max s.qry.hist (j.course - 2097151)) ∧
      (j.course < 2 ^ 56 → cr.course = j.course → (courseTime s j.course).quality ≤ 2 →
        readIndex t j.course = some (sealEntry (entryWords s cr j.blocks))) := by
  have he : indexPublish s = releaseShort (courseSummaries j.course (j.blocks.foldl (fun n b => n + b.records) 0) (publish j cr s)) := by
    unfold indexPublish
    rw [h]
  have dt : Does [.regs, .flt, .port0, .port1, .ring, .streams, .uplinks] (publish j cr s) (indexPublish s) := by
    rw [he]
    exact .step (releaseShort_does ..) rfl ((courseSummaries_does ..).widen rfl)
  obtain ⟨f, l, hq⟩ := publish_quarry hs j cr
  have hqt : (indexPublish s).qry = _ := (dt.only.same .qry (by decide)).trans hq
  have hh : (indexPublish s).hbm = _ := (dt.only.same .hbm (by decide)).trans (publish_hbm j cr s)
  refine ⟨indexPublish s, upNext_up hu, (indexPublish_does ..).only.widen rfl, ?_, ?_, ?_, ?_, fun hc hcr hqual => ?_⟩
  · rw [hqt]; rfl
  · rw [hqt]; rfl
  · rw [hqt]; rfl
  · rw [hqt]
    show (if s.qry.published.isEmpty = true then j.course else _) = _
    exact if_congr List.isEmpty_iff rfl rfl
  · rw [readIndex_of hh, readIndex_storeEntry hm (Nat.le_of_eq (length_entryWords ..).symm) rfl, if_pos]
    rw [← hcr] at hqual hc ⊢
    exact entryWords_course hc hqual _

/-! ### Accounts are merged into an entry (R181) -/

/-- The words 0 to 43 that an index rewrite stores stand at the front of this. -/
def mergedHead (s : State) (cr : CloseRec) (c : Nat) (ws : List DWord) : List DWord :=
  (ws.set 0 ((ws.getD 0 0 &&& ~~~ (BitVec.ofNat 64 32)) ||| BitVec.ofNat 64 (if (markingAccounts s c).length > 9 then 32 else 0))).set 3
    (ws.getD 3 0 ||| BitVec.ofNat 64 (incompleteMask s cr))

/-- The entry that an index rewrite stores. -/
def mergedEntry (s : State) (cr : CloseRec) (c : Nat) (ws : List DWord) : List DWord :=
  (mergedHead s cr c ws).take 44 ++ accountArea c (markingAccounts s c) ++
    [(((mergedHead s cr c ws).getD 62 0) &&& 0x00FFFFFFFFFFFFFF) ||| BitVec.ofNat 64 (min 9 (markingAccounts s c).length * 2 ^ 56)]

theorem length_mergedEntry {s : State} {cr : CloseRec} {c : Nat} {ws : List DWord} (h : ws.length = 64) : (mergedEntry s cr c ws).length = 63 := by
  unfold mergedEntry mergedHead
  simp only [List.length_append, List.length_take, List.length_set, length_accountArea, h]
  rfl

/-- Bits 63 to 8 of an entry's first word stay in a merge. -/
theorem dfld_merged (w x : DWord) (hx : x >>> 8 = 0) : dfld ((w &&& ~~~ (BitVec.ofNat 64 32)) ||| x) 63 8 = dfld w 63 8 := by
  have h : ((w &&& ~~~ (BitVec.ofNat 64 32)) ||| x) >>> 8 = w >>> 8 := by
    rw [BitVec.ushiftRight_or_distrib, hx, show (0 : DWord) = 0#64 from rfl, BitVec.or_zero, BitVec.ushiftRight_and_distrib,
      show (~~~ (BitVec.ofNat 64 32)) >>> 8 = (BitVec.allOnes 64) >>> 8 by decide, ← BitVec.ushiftRight_and_distrib, BitVec.and_allOnes]
  have hn := congrArg BitVec.toNat h
  rw [BitVec.toNat_ushiftRight, BitVec.toNat_ushiftRight, Nat.shiftRight_eq_div_pow, Nat.shiftRight_eq_div_pow] at hn
  unfold dfld
  rw [hn]

theorem mergedEntry_course {s : State} {cr : CloseRec} {c : Nat} {ws : List DWord} (h : ws.length = 64) :
    dfld ((mergedEntry s cr c ws).getD 0 0) 63 8 = dfld (ws.getD 0 0) 63 8 := by
  cases ws with
  | nil => cases h
  | cons w ws => exact dfld_merged w _ (by split <;> decide)

theorem readIndex_some {s : State} {c : Nat} {ws : List DWord} (h : readIndex s c = some ws) : ws.length = 64 ∧ dfld (ws.getD 0 0) 63 8 = c := by
  unfold readIndex at h
  dsimp only at h
  split at h
  case isTrue hc => cases h; exact ⟨length_hbmWords .., hc.2⟩
  case isFalse => cases h

/-- A course's entry has been rewritten at this course. -/
def Quarry.rewrote (c n : Nat) (q : Quarry) : Quarry := { q with rewritten := smPut 0 (q.rewritten.filter (fun e => decide (c ≤ e.1 + 64))) c n }

theorem indexRewrite_skips {c : Nat} {s : State} (h : s.qry.phase ≠ .running ∨ c ∉ s.qry.published ∨ smGet 0 s.qry.rewritten c = nowCourse s + 1) : indexRewrite c s = s := by
  refine if_neg fun hc => ?_
  rw [Bool.and_eq_true, Bool.and_eq_true, beq_iff_eq, List.contains_eq_mem, decide_eq_true_eq, bne_iff_ne] at hc
  obtain ⟨⟨h1, h2⟩, h3⟩ := hc
  exact h.elim (· h1) fun h => h.elim (· h2) h3

theorem indexRewrite_merges {c : Nat} {s : State} {cr : CloseRec} {ws : List DWord} (hr : s.qry.phase = .running) (hp : c ∈ s.qry.published)
    (hn : smGet 0 s.qry.rewritten c ≠ nowCourse s + 1) (hc : closeRec s c = some cr) (hw : readIndex s c = some ws) :
    indexRewrite c s = (storeEntry c (mergedEntry s cr c ws) s).modQry (.rewrote c (nowCourse s + 1)) := by
  unfold indexRewrite
  rw [if_pos (by simp [hr, hp, hn]), hc, hw]
  rfl

/-- A rewrite stores into the entry's own slot alone. -/
theorem indexRewrite_apart {s : State} (hm : MemoryWf s) (c : Nat) : (indexRewrite c s).qry.published = s.qry.published ∧
    ∀ a : Nat, (a < entryQa c ∨ entryQa c + 512 ≤ a) → hbmByte (indexRewrite c s).hbm.bytes a = hbmByte s.hbm.bytes a := by
  by_cases h : s.qry.phase ≠ .running ∨ c ∉ s.qry.published ∨ smGet 0 s.qry.rewritten c = nowCourse s + 1
  · rw [indexRewrite_skips h]
    exact ⟨rfl, fun _ _ => rfl⟩
  · simp only [not_or, Decidable.not_not] at h
    obtain ⟨hr, hp, hn⟩ := h
    cases hc : closeRec s c with
    | none =>
      have : indexRewrite c s = s := by unfold indexRewrite; rw [hc]; exact ite_self _
      rw [this]
      exact ⟨rfl, fun _ _ => rfl⟩
    | some cr =>
      cases hw : readIndex s c with
      | none =>
        have : indexRewrite c s = s := by unfold indexRewrite; rw [hc, hw]; exact ite_self _
        rw [this]
        exact ⟨rfl, fun _ _ => rfl⟩
      | some ws =>
        have hl := length_sealEntry (Nat.le_of_eq (length_mergedEntry (s := s) (cr := cr) (c := c) (readIndex_some hw).1).symm)
        rw [indexRewrite_merges hr hp hn hc hw]
        have hq : (storeEntry c (mergedEntry s cr c ws) s).qry = s.qry := (storeEntry_does ..).only.same .qry (by decide)
        refine ⟨show (storeEntry c (mergedEntry s cr c ws) s).qry.published = _ by rw [hq], fun a ha => ?_⟩
        refine (hbmByte_hbmStore hm (wordBytes_ne fun e => by rw [e] at hl; cases hl) a).trans (if_neg ?_)
        rw [length_wordBytes, hl]
        omega

theorem indexRewrite_rewrites {s : State} (hu : isUp s = true) (hs : TablesRise s) (hm : MemoryWf s) (c : BitVec 56) :
    ∃ t : State, exec (.indexRewrite c) s = .next t ∧ Only [.qry, .hbm] s t ∧ t.qry.published = s.qry.published ∧
      (∀ a : Nat, (a < entryQa c.toNat ∨ entryQa c.toNat + 512 ≤ a) → hbmByte t.hbm.bytes a = hbmByte s.hbm.bytes a) ∧
      (s.qry.phase ≠ .running ∨ c.toNat ∉ s.qry.published ∨ smGet 0 s.qry.rewritten c.toNat = nowCourse s + 1 → t = s) ∧
      (∀ (cr : CloseRec) (ws : List DWord), s.qry.phase = .running → c.toNat ∈ s.qry.published → smGet 0 s.qry.rewritten c.toNat ≠ nowCourse s + 1 →
        closeRec s c.toNat = some cr → readIndex s c.toNat = some ws →
        smGet 0 t.qry.rewritten c.toNat = nowCourse s + 1 ∧ (readIndex t c.toNat).isSome = true) := by
  obtain ⟨hpub, hby⟩ := indexRewrite_apart hm c.toNat
  refine ⟨indexRewrite c.toNat s, upNext_up hu, (indexRewrite_does ..).only.widen rfl, hpub, hby, indexRewrite_skips, fun cr ws hr hp hn hc hw => ?_⟩
  obtain ⟨hl, hwc⟩ := readIndex_some hw
  rw [indexRewrite_merges hr hp hn hc hw]
  have hq : (storeEntry c.toNat (mergedEntry s cr c.toNat ws) s).qry = s.qry := (storeEntry_does ..).only.same .qry (by decide)
  have hput : smGet 0 (smPut 0 (s.qry.rewritten.filter (fun e => decide (c.toNat ≤ e.1 + 64))) c.toNat (nowCourse s + 1)) c.toNat = nowCourse s + 1 :=
    (smGet_put_rises (rises_filter hs.rewritten) _ _ _ _ fun _ => rfl).trans (if_pos rfl)
  refine ⟨?_, ?_⟩
  · show smGet 0 ((storeEntry c.toNat (mergedEntry s cr c.toNat ws) s).qry.rewrote c.toNat (nowCourse s + 1)).rewritten c.toNat = _
    rw [hq]
    exact hput
  · have hri := readIndex_storeEntry (s := s) hm (Nat.le_of_eq (length_mergedEntry (s := s) (cr := cr) (c := c.toNat) hl).symm) (c := c.toNat) rfl
    rw [mergedEntry_course hl, if_pos hwc] at hri
    have : readIndex ((storeEntry c.toNat (mergedEntry s cr c.toNat ws) s).modQry (.rewrote c.toNat (nowCourse s + 1))) c.toNat = _ := (readIndex_of rfl _).trans hri
    rw [this]
    rfl

/-- Settles O42. -/
theorem stonesAndIndex : Obligations.StonesAndIndex := by
  unfold Obligations.StonesAndIndex
  intro s hu hs hm
  refine ⟨stoneClose_closes hu, fun h => (upNext_up (f := stoneWriteDone) hu).trans (congrArg _ (stoneWriteDone_waits h)),
    fun n ws rest hr hf hl hw => stoneWrite_does_all hu hs hm hr hf hl hw,
    fun h => (upNext_up (f := indexPublish) hu).trans (congrArg _ (by unfold indexPublish; rw [h])),
    fun j cr h => indexPublish_publishes hu hs hm h, fun c => indexRewrite_rewrites hu hs hm c⟩

end Sys2Proof.Machine
end

section
/-!
SUPPORT. Reads of protected memories (R324 to R327); the words of a primitive frame (R243).
-/
namespace Sys2Proof.Machine

/-! ### Reads of a protected memory -/

/-- A step of a reader of memory `mem`; a block that is DAMAGED stays so. -/
structure EccStep (mem : Nat) (s t : State) : Prop where
  does : Does [.regs, .flt, .port0, .port1, .mem] s t
  regs : RegsKept (tableRegs mem) s t
  tells : Tells s t
  damaged : ∀ m n b : Nat, (eccBlock s m n b).phase = .damaged → (eccBlock t m n b).phase = .damaged

theorem EccStep.refl (mem : Nat) (s : State) : EccStep mem s s := ⟨.refl _ _, .refl _ _, .refl _, fun _ _ _ h => h⟩

theorem EccStep.trans {mem : Nat} {s t u : State} (h : EccStep mem s t) (k : EccStep mem t u) : EccStep mem s u :=
  ⟨.step k.does rfl h.does, h.regs.trans k.regs, h.tells.trans k.tells, fun m n b hb => k.damaged m n b (h.damaged m n b hb)⟩

theorem eccBlock_of {s t : State} (h : t.mem.ecc = s.mem.ecc) (m n b : Nat) : eccBlock t m n b = eccBlock s m n b := by
  unfold eccBlock
  rw [h]

theorem eccStep_eccDamage {s : State} (hs : TablesRise s) (mem m n b : Nat) : EccStep mem s (eccDamage m n b s) :=
  have d : Does [.mem] s (eccDamage m n b s) := eccDamage_does ..
  ⟨d.widen rfl, .of_regs (d.only.same .regs (by decide)), .of_flt (d.only.same .flt (by decide)), fun p q k h => by
    have hp : smGet .blank (smPut .blank s.mem.ecc (eccKey m n b) ⟨.damaged, 0⟩) (eccKey p q k) =
        if eccKey p q k = eccKey m n b then ⟨.damaged, 0⟩ else eccBlock s p q k := smGet_put_rises hs.mem.2.2 _ _ _ _ fun _ => rfl
    have he : eccBlock (eccDamage m n b s) p q k = if eccKey p q k = eccKey m n b then ⟨.damaged, 0⟩ else eccBlock s p q k := hp
    rw [he]
    split
    · rfl
    · exact h⟩

theorem ecc_sramCorrected (mem n b syn master access : Nat) (s : State) : (sramCorrected mem n b syn master access s).mem.ecc = s.mem.ecc := by
  unfold sramCorrected
  dsimp only
  split
  · rfl
  · rfl

theorem eccStep_eccRead {s : State} (hs : TablesRise s) {mem : Nat} (hm : mem < 11) (n b master access : Nat) : EccStep mem s (eccRead mem n b master access s).2 := by
  have bad (k : Nat) : EccStep mem s (recordBadRead k mem n b s) :=
    have d : Does [.regs, .port0, .port1] s (recordBadRead k mem n b s) := recordBadRead_does ..
    ⟨d.widen rfl, (recordBadRead_does_only k mem n b hs).widen fun _ hx => .tail _ (.tail _ (.tail _ hx)), .of_flt (d.only.same .flt (by decide)),
      fun m i j h => (congrArg EccBlock.phase (eccBlock_of (show _ = _ by rw [d.only.same .mem (by decide)]) m i j)).trans h⟩
  unfold eccRead
  dsimp only
  split
  · exact bad 31
  · exact bad 30
  · exact .refl _ _
  · split
    · exact .refl _ _
    · have h := sramCorrected_tells hs mem n b ‹_› master access
      exact ⟨(sramCorrected_does ..).widen rfl, h.1.widen (List.cons_subset.2 ⟨.head _, List.nil_subset _⟩), h.2.1,
        fun m i j k => (congrArg EccBlock.phase (eccBlock_of (ecc_sramCorrected ..) m i j)).trans k⟩
    · have h1 := eccStep_eccDamage hs mem mem n b
      have h := sramUncorrected_tells (h1.does.tables hs) hm n b master access
      have d : Does [.regs, .flt, .port0, .port1] (eccDamage mem n b s) (sramUncorrected mem n b master access (eccDamage mem n b s)) := sramUncorrected_does ..
      exact h1.trans ⟨d.widen rfl, h.1.widen (List.cons_subset.2 ⟨.tail _ (.head _), List.cons_subset.2 ⟨.tail _ (.tail _ (.head _)), List.nil_subset _⟩⟩), h.2.1,
        fun m i j k => (congrArg EccBlock.phase (eccBlock_of (show _ = _ by rw [d.only.same .mem (by decide)]) m i j)).trans k⟩

theorem eccStep_eccReads {s : State} (hs : TablesRise s) {mem : Nat} (hm : mem < 11) (n master access : Nat) (l : List Nat) : EccStep mem s (eccReads mem n master access l s).2 := by
  induction l generalizing s with
  | nil => exact .refl _ _
  | cons b l ih =>
    have h := eccStep_eccRead hs hm n b master access
    exact h.trans (ih (h.does.tables hs))

/-- A reader that takes a DAMAGED block does not get all that it asks for. -/
theorem eccReads_damaged {s : State} (hs : TablesRise s) {mem : Nat} (hm : mem < 11) {n b : Nat} {l : List Nat} (hb : b ∈ l)
    (hd : (eccBlock s mem n b).phase = .damaged) (master access : Nat) : (eccReads mem n master access l s).1 = false := by
  induction l generalizing s with
  | nil => cases hb
  | cons c l ih =>
    have h := eccStep_eccRead hs hm n c master access
    show ((eccRead mem n c master access s).1 && (eccReads mem n master access l (eccRead mem n c master access s).2).1) = false
    rcases List.mem_cons.1 hb with rfl | hb
    · have : (eccRead mem n b master access s).1 = false := by
        unfold eccRead
        dsimp only
        rw [hd]
      rw [this, Bool.false_and]
    · rw [ih (h.does.tables hs) hb (h.damaged _ _ _ hd), Bool.and_false]

theorem smFind_mem {α : Type} {m : SMap α} {k : Nat} {x : α} (h : smFind m k = some x) : (k, x) ∈ m := by
  induction m with
  | nil => cases h
  | cons e m ih =>
    unfold smFind at h
    split at h
    next he =>
      cases h
      obtain ⟨k', x'⟩ := e
      cases (show k = k' from he)
      exact .head _
    next => exact .tail _ (ih h)

/-- A block that is not as written stands among those that a reader meets. -/
theorem mem_eccMarked {s : State} {mem inst b : Nat} {held : Nat → Bool} (hb : b < 1048576) (hh : held b = true) (hn : (eccBlock s mem inst b).phase = .damaged) :
    b ∈ eccMarked s mem inst held := by
  cases hf : smFind s.mem.ecc (eccKey mem inst b) with
  | none =>
    have : eccBlock s mem inst b = .blank := by unfold eccBlock smGet; rw [hf]; rfl
    rw [this] at hn
    cases hn
  | some x =>
    have h1 : eccKey mem inst b / 1048576 = mem * 64 + inst := by unfold eccKey; omega
    have h2 : eccKey mem inst b % 1048576 = b := by unfold eccKey; omega
    have hk := smFind_mem hf
    unfold eccMarked
    refine List.mem_map.2 ⟨(eccKey mem inst b, x), List.mem_filter.2 ⟨hk, ?_⟩, h2⟩
    show (decide (eccKey mem inst b / 1048576 = mem * 64 + inst) && held (eccKey mem inst b % 1048576)) = true
    rw [h1, h2, hh]
    simp

/-! ### Words made of fields -/

theorem getLsbD_ofNat_iff {k : Nat} (hk : k < 64) (n : Nat) : (BitVec.ofNat 64 n).getLsbD k = decide (n / 2 ^ k % 2 = 1) := by
  rw [BitVec.getLsbD_ofNat, decide_eq_true hk, Bool.true_and, Nat.testBit_eq_decide_div_mod_eq]

/-- Bits 0 to n − 1 as a number. -/
def bitSum (f : Nat → Bool) (n : Nat) : Nat := (List.range n).foldl (fun m k => if f k then m + 2 ^ k else m) 0

theorem bitSum_succ (f : Nat → Bool) (n : Nat) : bitSum f (n + 1) = bitSum f n + (f n).toNat * 2 ^ n := by
  unfold bitSum
  rw [List.range_succ, List.foldl_concat]
  cases f n
  · simp
  · simp

theorem bitSum_lt (f : Nat → Bool) (n : Nat) : bitSum f n < 2 ^ n := by
  induction n with
  | zero => exact Nat.one_pos
  | succ n ih =>
    rw [bitSum_succ, Nat.pow_succ]
    cases f n
    · show _ + 0 * _ < _; omega
    · show _ + 1 * _ < _; omega

theorem testBit_bitSum (f : Nat → Bool) (n k : Nat) : (bitSum f n).testBit k = (decide (k < n) && f k) := by
  induction n with
  | zero => simp [bitSum]
  | succ n ih =>
    have hl := bitSum_lt f n
    rw [bitSum_succ, Nat.add_comm, Nat.mul_comm, Nat.testBit_two_pow_mul_add _ hl]
    by_cases hk : k < n
    · rw [if_pos hk, ih, decide_eq_true hk, decide_eq_true (Nat.lt_succ_of_lt hk)]
    · rw [if_neg hk]
      by_cases he : k = n
      · subst he
        cases f k <;> simp
      · have h0 : 0 < k - n := by omega
        rw [decide_eq_false (by omega), Bool.false_and]
        refine Nat.testBit_eq_false_of_lt (Nat.lt_of_lt_of_le (Nat.lt_of_le_of_lt (Bool.toNat_le _) (by decide : 1 < 2 ^ 1)) (Nat.pow_le_pow_right (by decide) h0))

/-- A number from its bytes, the first the most significant. -/
def byteSum (l : List Nat) : Nat := l.foldl (fun n x => n * 256 + x) 0

theorem byteSum_byte {v : Nat → Nat} (hv : ∀ j, v j < 256) {j : Nat} (hj : j < 8) :
    dfld (BitVec.ofNat 64 (byteSum ((List.range 8).map v))) (63 - 8 * j) (56 - 8 * j) = v j := by
  rw [dfld_ofNat (by omega) (by omega)]
  have h0 := hv 0
  have h1 := hv 1
  have h2 := hv 2
  have h3 := hv 3
  have h4 := hv 4
  have h5 := hv 5
  have h6 := hv 6
  have h7 := hv 7
  have he : byteSum ((List.range 8).map v) =
    ((((((v 0 * 256 + v 1) * 256 + v 2) * 256 + v 3) * 256 + v 4) * 256 + v 5) * 256 + v 6) * 256 + v 7 := by simp [byteSum, List.range, List.range.loop]
  rw [he]
  interval_cases j <;> norm_num <;> omega

end Sys2Proof.Machine
end

section
/-!
SUPPORT. The close of an arrival group and the frames of the Lintel (R236, R240 to R244, R249 to R253), and the statement on both settled.
-/
namespace Sys2Proof.Machine

/-! ### The words of a frame (R243) -/

/-- What a frame says of the history, the tables and the loss condition besides its groups' own records. -/
def frameLoss (s : State) (a : Nat) : BitVec 64 := ((s.lnt.losses.find? (fun e => e.1 == a)).map (·.2)).getD 0

/-- R248: the frame is the first of its tables. -/
def frameNew (s : State) (a : Nat) : Bool := s.lnt.tablesNew && (match s.lnt.former with | some (b, _) => decide (b ≤ a) | none => true)

theorem frameWord_zero (s : State) (a : Nat) (t : LntTables) (g : LntGroup) (past : List LntRec) : (frameWords4 s a t g past).getD 0 0 =
    BitVec.ofNat 64 (deviceId s * 2 ^ 48 + (!anyOffset s).toNat * 2 ^ 41 + (decide (a < s.lnt.startUntil)).toNat * 2 ^ 40 + s.quo.worst % 4 * 2 ^ 38 +
      (g.recs.any (·.uncal)).toNat * 2 ^ 37 + (decide (0 < g.dropped)).toNat * 2 ^ 36 + g.sat.toNat * 2 ^ 35 + s.lnt.lateTap.toNat * 2 ^ 34 +
      (frameLoss s a != 0).toNat * 2 ^ 33 + (frameNew s a).toNat * 2 ^ 32 + (toDomainBt s a).toNat % 2 ^ 32) := rfl

/-- The flags of a frame's first word, and its arrival BT. -/
theorem frameWord_flags (s : State) (a : Nat) (t : LntTables) (g : LntGroup) (past : List LntRec) :
    dfld ((frameWords4 s a t g past).getD 0 0) 31 0 = (toDomainBt s a).toNat % 2 ^ 32 ∧
      ((frameWords4 s a t g past).getD 0 0).getLsbD 37 = g.recs.any (·.uncal) ∧ ((frameWords4 s a t g past).getD 0 0).getLsbD 36 = decide (0 < g.dropped) ∧
      ((frameWords4 s a t g past).getD 0 0).getLsbD 35 = g.sat ∧ ((frameWords4 s a t g past).getD 0 0).getLsbD 34 = s.lnt.lateTap ∧
      ((frameWords4 s a t g past).getD 0 0).getLsbD 40 = decide (a < s.lnt.startUntil) ∧
      ((frameWords4 s a t g past).getD 0 0).getLsbD 33 = (frameLoss s a != 0) := by
  rw [frameWord_zero]
  have flag (b : Bool) (n k : Nat) (hk : k < 64) (h : n / 2 ^ k % 2 = b.toNat) : (BitVec.ofNat 64 n).getLsbD k = b := by
    rw [getLsbD_ofNat_iff hk, h]
    cases b <;> rfl
  have h1 := Bool.toNat_le (!anyOffset s)
  have h2 := Bool.toNat_le (decide (a < s.lnt.startUntil))
  have h3 := Bool.toNat_le (g.recs.any (·.uncal))
  have h4 := Bool.toNat_le (decide (0 < g.dropped))
  have h5 := Bool.toNat_le g.sat
  have h6 := Bool.toNat_le s.lnt.lateTap
  have h7 := Bool.toNat_le (frameLoss s a != 0)
  have h8 := Bool.toNat_le (frameNew s a)
  generalize (!anyOffset s).toNat = x1 at *
  generalize (frameNew s a).toNat = x8 at *
  generalize (toDomainBt s a).toNat = x9 at *
  generalize deviceId s = x0 at *
  generalize s.quo.worst = xq at *
  refine ⟨?_, flag _ _ _ (by decide) ?_, flag _ _ _ (by decide) ?_, flag _ _ _ (by decide) ?_, flag _ _ _ (by decide) ?_, flag _ _ _ (by decide) ?_,
    flag _ _ _ (by decide) ?_⟩
  · rw [dfld_ofNat (by decide) (by decide)]
    omega
  all_goals omega

theorem satTo_lt (n v : Nat) : satTo n v < 2 ^ n := by
  have := Nat.two_pow_pos n
  unfold satTo
  split
  · assumption
  · omega

/-- The pairs that fire, in a frame's second word. -/
theorem frameWord_fires (s : State) (a : Nat) (t : LntTables) (g : LntGroup) (past : List LntRec) {k : Nat} (hk : k < 32) :
    ((frameWords4 s a t g past).getD 1 0).getLsbD (32 + k) = pairFires t k (pairCount t k past g.recs) := by
  let fires := fun k => pairFires t k (((List.range 32).map (fun k => pairCount t k past g.recs)).getD k 0)
  let total := satTo 16 (sumL ((List.range 32).map (fun k => pairCount t k past g.recs)))
  have he : (frameWords4 s a t g past).getD 1 0 = BitVec.ofNat 64 (bitSum fires 32 * 2 ^ 32 + total * 2 ^ 16 + satTo 16 g.recs.length) := rfl
  have h1 : total < 2 ^ 16 := satTo_lt ..
  have h2 := satTo_lt 16 g.recs.length
  have hx : total * 2 ^ 16 + satTo 16 g.recs.length < 2 ^ 32 := by omega
  have hf : fires k = pairFires t k (pairCount t k past g.recs) := by
    have hg : ((List.range 32).map (fun k => pairCount t k past g.recs)).getD k 0 = pairCount t k past g.recs := by simp [List.getD, hk]
    exact congrArg (pairFires t k) hg
  rw [he, BitVec.getLsbD_ofNat, decide_eq_true (by omega), Bool.true_and, Nat.add_assoc, Nat.mul_comm, Nat.testBit_two_pow_mul_add _ hx, if_neg (by omega),
    Nat.add_sub_cancel_left, testBit_bitSum, decide_eq_true hk, Bool.true_and, hf]

theorem groupCount_lt (t : LntTables) (j : Nat) (now : List LntRec) : groupCount t j now < 256 := by
  unfold groupCount
  exact Nat.lt_succ_of_le (Nat.min_le_left ..)

/-- The counts of groups 0 to 7, in a frame's third word. -/
theorem frameWord_counts (s : State) (a : Nat) (t : LntTables) (g : LntGroup) (past : List LntRec) {j : Nat} (hj : j < 8) :
    dfld ((frameWords4 s a t g past).getD 2 0) (63 - 8 * j) (56 - 8 * j) = groupCount t j g.recs := by
  have he : (frameWords4 s a t g past).getD 2 0 = BitVec.ofNat 64 (byteSum ((List.range 8).map (fun j => groupCount t j g.recs))) := rfl
  rw [he]
  exact byteSum_byte (v := fun j => groupCount t j g.recs) (fun j => groupCount_lt t j g.recs) hj

/-! ### A group closes (R236, R247, R252) -/

/-- A residue error that the pipeline meets is raised. -/
def pipelineErr : Option Nat → Nat → State → State
  | some st, a, s => lintelError a (w32 st) 0 0 s
  | none, _, s => s

/-- The records of the seven groups before. -/
def pastRecs (s : State) (a : Nat) : List LntRec := (s.lnt.groups.filter (fun e => decide (e.1 < a) && decide (a ≤ e.1 + 7))).flatMap (fun e => e.2.recs)

/-- The loss condition of the group's BT is shown. -/
def lossShown (a : Nat) (s : State) : State :=
  setCell .lntPlossHi 0 0 ((frameLoss s a).extractLsb' 32 32) (setCell .lntPlossLo 0 0 ((frameLoss s a).setWidth 32) s)

/-- A Lintel whose oldest open group has closed. -/
def Lintel.closed (f : LntFrame) (x : Lintel) : Lintel := { x with
  nextClose := f.bt + 1
  groups := x.groups.filter (fun e => decide (f.bt ≤ e.1 + 7))
  tapBase := x.tapBase.filter (fun e => decide (f.bt ≤ e.1 + 7))
  lateTap := false, lastLate := x.lateTap
  tablesNew := x.tablesNew && !(match x.former with | some (b, _) => decide (b ≤ f.bt) | none => true)
  formed := x.formed ++ [f] }

/-- The frame of a group. -/
def groupFrame (s : State) (a : Nat) : LntFrame := ⟨a, frameWords4 s a (tablesFor s a) (smGet .blank s.lnt.groups a) (pastRecs s a), []⟩

theorem lintelGroupClose_waits {s : State} (h : s.lnt.phase ≠ .running ∨ nowAbs s < closeMoment s s.lnt.nextClose) (err : Option Nat) : lintelGroupClose err s = s := by
  refine if_neg fun hc => ?_
  rw [Bool.and_eq_true, beq_iff_eq, decide_eq_true_eq] at hc
  obtain ⟨hr, hm⟩ := hc
  exact h.elim (· hr) fun h => Nat.not_lt_of_le hm h

theorem lintelGroupClose_closes {s : State} (hr : s.lnt.phase = .running) (hc : closeMoment s s.lnt.nextClose ≤ nowAbs s) (err : Option Nat) :
    lintelGroupClose err s = (fun u => (countWrap .lntCntFrames 0 31 0 (lossShown s.lnt.nextClose u)).modLnt (.closed (groupFrame u s.lnt.nextClose)))
      (historyRead s.lnt.nextClose (pipelineErr err s.lnt.nextClose s)) := by
  unfold lintelGroupClose
  rw [if_pos (by rw [hr, decide_eq_true hc]; rfl)]
  cases err <;> rfl

theorem lintelError_tells {s : State} (hs : TablesRise s) (a : Nat) (stage : Word) (master access : Nat) :
    RegsKept [(.lntEvt, 0, 0)] s (lintelError a stage master access s) ∧ Tells s (lintelError a stage master access s) ∧
      Evented .lntEvt 0 21 s (lintelError a stage master access s) ∧ Reported Src.lntPipeErr 0 (stage :: cap64 a) s (lintelError a stage master access s) := by
  have hk : RegsKept [(.lntEvt, 0, 0)] s (event .lntEvt 0 21 s) := regsKept_ev hs.regs _ _ _
  exact ⟨hk.keep (raise_regs ..), tells_raise_of (event_flt ..), (evented_event hs.regs ..).keep (raise_regs ..), reported_raise (event_btr ..)⟩

/-- What reading the history does: a step of the reader, and a report where a block is not delivered. -/
theorem historyRead_tells {s : State} (hs : TablesRise s) (a : Nat) : Does [.regs, .flt, .port0, .port1, .mem] s (historyRead a s) ∧
    RegsKept ((.lntEvt, 0, 0) :: tableRegs 8) s (historyRead a s) ∧ Tells s (historyRead a s) ∧
    (bit (cell s .lntEvt) 21 = true → bit (cell (historyRead a s) .lntEvt) 21 = true) ∧
    (AsWritten 8 0 s → historyRead a s = s) ∧
    (∀ b < 65536, historyHolds s a b = true → (eccBlock s 8 0 b).phase = .damaged →
      Reported Src.lntPipeErr 0 (Config.historyStage :: cap64 a) s (historyRead a s) ∧ bit (cell (historyRead a s) .lntEvt) 21 = true) := by
  have h := eccStep_eccReads hs (mem := 8) (by decide) 0 10 1 (eccMarked s 8 0 (historyHolds s a))
  generalize hr : eccReads 8 0 10 1 (eccMarked s 8 0 (historyHolds s a)) s = r at h
  have th := h.does.tables hs
  have hlnt : cell r.2 .lntEvt = cell s .lntEvt := h.regs _ _ _ (by decide +kernel)
  have hw : RegsKept ((.lntEvt, 0, 0) :: tableRegs 8) s r.2 := h.regs.widen fun _ hx => .tail _ hx
  have he : historyRead a s = if r.1 then r.2 else lintelError a Config.historyStage 10 1 r.2 := by
    unfold historyRead
    rw [hr]
  have hblank : AsWritten 8 0 s → r = (true, s) := fun k => by rw [← hr, eccReads_blank 10 1 fun b _ => k b]
  have hbad : ∀ b < 65536, historyHolds s a b = true → (eccBlock s 8 0 b).phase = .damaged → r.1 = false := fun b hb hh hd => by
    rw [← hr]
    exact eccReads_damaged hs (by decide) (mem_eccMarked (by omega) hh hd) hd 10 1
  rw [he]
  cases hok : r.1 with
  | true =>
    rw [if_pos rfl]
    exact ⟨h.does, hw, h.tells, fun hb => by rwa [hlnt], fun k => by rw [hblank k], fun b hb hh hd => absurd ((hbad b hb hh hd).symm.trans hok) nofun⟩
  | false =>
    rw [if_neg nofun]
    obtain ⟨k1, k2, k3, k4⟩ := lintelError_tells th a Config.historyStage 10 1
    have hb : bit (cell (lintelError a Config.historyStage 10 1 r.2) .lntEvt) 21 = true := bit_of_evented k3 (by decide) (by decide)
    refine ⟨.step (lintelError_does ..) rfl h.does, hw.trans (k1.widen (List.cons_subset.2 ⟨.head _, List.nil_subset _⟩)), h.tells.trans k2, fun _ => hb, fun k => ?_,
      fun _ _ _ _ => ⟨k4.from (h.does.only.same .btr (by decide)), hb⟩⟩
    rw [hblank k] at hok
    cases hok

theorem pipelineErr_tells {s : State} (hs : TablesRise s) (err : Option Nat) (a : Nat) : Does [.regs, .flt, .port0, .port1] s (pipelineErr err a s) ∧
    RegsKept [(.lntEvt, 0, 0)] s (pipelineErr err a s) ∧ Tells s (pipelineErr err a s) ∧ (err = none → pipelineErr err a s = s) ∧
    ∀ st : Nat, err = some st → Evented .lntEvt 0 21 s (pipelineErr err a s) ∧ Reported Src.lntPipeErr 0 (w32 st :: cap64 a) s (pipelineErr err a s) := by
  cases err with
  | none => exact ⟨.refl _ _, .refl _ _, .refl _, fun _ => rfl, nofun⟩
  | some st =>
    obtain ⟨k1, k2, k3, k4⟩ := lintelError_tells hs a (w32 st) 0 0
    exact ⟨lintelError_does .., k1, k2, nofun, fun x hx => by cases hx; exact ⟨k3, k4⟩⟩

/-- The registers that a group's close shows. -/
abbrev closeRegs : List (Reg × Nat × Nat) := [(.lntCntFrames, 0, 0), (.lntEvt, 0, 0), (.lntPlossHi, 0, 0), (.lntPlossLo, 0, 0)]

theorem lossShown_kept {s : State} (hs : TablesRise s) (a : Nat) : RegsKept [(.lntPlossHi, 0, 0), (.lntPlossLo, 0, 0)] s (lossShown a s) :=
  RegsKept.set (RegsKept.set (.refl _ s) hs.regs (.tail _ (.head _)) _) ((setCell_does .lntPlossLo 0 0 ((frameLoss s a).setWidth 32) s).tables hs).regs (.head _) _

/-- What a close shows and keeps in the registers, after its reads. -/
theorem closeShown {u : State} (tu : TablesRise u) (a : Nat) (f : LntFrame) :
    let t := (countWrap .lntCntFrames 0 31 0 (lossShown a u)).modLnt (.closed f)
    Does [.regs, .lnt] u t ∧ RegsKept closeRegs u t ∧ cell t .lntEvt = cell u .lntEvt ∧ cell t .lntCntFrames = incWrap (cell u .lntCntFrames) 31 0 ∧
      t.lnt = Lintel.closed f u.lnt := by
  intro t
  have d1 : Does [.regs] u (lossShown a u) := .step (setCell_does ..) rfl (setCell_does ..)
  have t1 := d1.tables tu
  have k1 := lossShown_kept tu a
  have k2 : RegsKept closeRegs u (countWrap .lntCntFrames 0 31 0 (lossShown a u)) :=
    RegsKept.set (k1.widen (List.cons_subset.2 ⟨by decide, List.cons_subset.2 ⟨by decide, List.nil_subset _⟩⟩)) t1.regs (.head _) _
  have hc : cell (countWrap .lntCntFrames 0 31 0 (lossShown a u)) .lntCntFrames = incWrap (cell (lossShown a u) .lntCntFrames) 31 0 := cell_setCell t1.regs ..
  have he : cell (countWrap .lntCntFrames 0 31 0 (lossShown a u)) .lntEvt = cell (lossShown a u) .lntEvt := cell_setCell_other t1.regs _ (by decide +kernel)
  rw [k1 _ _ _ (by decide +kernel)] at hc he
  have d2 : Does [.regs] (lossShown a u) (countWrap .lntCntFrames 0 31 0 (lossShown a u)) := countWrap_does ..
  exact ⟨.step (State.modLnt_does (.closed f) _ (fun _ h => ⟨rises_filter h.1, rises_filter h.2⟩)) rfl (.step d2 rfl (d1.widen rfl)), k2.keep rfl, he, hc, rfl⟩

theorem tablesFor_of {s t : State} (hl : t.lnt = s.lnt) (hb : t.btr = s.btr) (a : Nat) : tablesFor t a = tablesFor s a := by
  have hf (r : Reg) (i : Nat) : inForce t r i = inForce s r i := by unfold inForce cbReg; rw [hb]
  have ht : lntTables t = lntTables s := by
    unfold lntTables
    simp only [hf, hl]
  unfold tablesFor
  rw [hl, ht]

theorem lintelGroupClose_frames {s : State} (hu : isUp s = true) (hs : TablesRise s) (err : Option Nat) {a : Nat} (ha : a = s.lnt.nextClose)
    (hr : s.lnt.phase = .running) (hc : closeMoment s a ≤ nowAbs s) {tb : LntTables} {g : LntGroup} {past : List LntRec} (htb : tb = tablesFor s a)
    (hg : g = smGet .blank s.lnt.groups a) (hp : past = pastRecs s a) :
    ∃ (t : State) (f : LntFrame), exec (.lintelGroupClose err) s = .next t ∧ Only (reportZones ++ [.mem, .lnt]) s t ∧
      (AsWritten 8 0 s → t.mem = s.mem ∧ RegsKept closeRegs s t ∧ (err = none → t.flt = s.flt)) ∧
      (∀ b < 65536, historyHolds s a b = true → (eccBlock s 8 0 b).phase = .damaged →
        Reported Src.lntPipeErr 0 (Config.historyStage :: cap64 a) s t ∧ bit (cell t .lntEvt) 21 = true) ∧ t.lnt.nextClose = a + 1 ∧
      t.lnt.formed = s.lnt.formed ++ [f] ∧ f.bt = a ∧ f.words.length = 4 ∧ cell t .lntCntFrames = incWrap (cell s .lntCntFrames) 31 0 ∧
      (∀ k < 32, (f.words.getD 1 0).getLsbD (32 + k) = pairFires tb k (pairCount tb k past g.recs)) ∧
      dfld (f.words.getD 0 0) 31 0 = (toDomainBt s a).toNat % 2 ^ 32 ∧
      (∀ j < 8, dfld (f.words.getD 2 0) (63 - 8 * j) (56 - 8 * j) = groupCount tb j g.recs) ∧
      (f.words.getD 0 0).getLsbD 37 = g.recs.any (·.uncal) ∧ (f.words.getD 0 0).getLsbD 36 = decide (0 < g.dropped) ∧
      (f.words.getD 0 0).getLsbD 35 = g.sat ∧ (f.words.getD 0 0).getLsbD 34 = s.lnt.lateTap ∧
      (f.words.getD 0 0).getLsbD 40 = decide (a < s.lnt.startUntil) ∧ (f.words.getD 0 0).getLsbD 33 = (frameLoss s a != 0) ∧
      (∀ st : Nat, err = some st → Reported Src.lntPipeErr 0 (w32 st :: cap64 a) s t ∧ bit (cell t .lntEvt) 21 = true ∧
        (AsWritten 8 0 s → Evented .lntEvt 0 21 s t)) := by
  subst htb hg hp ha
  generalize haa : s.lnt.nextClose = a at hc ⊢
  let v := pipelineErr err a s
  let u := historyRead a v
  let f := groupFrame u a
  let t := (countWrap .lntCntFrames 0 31 0 (lossShown a u)).modLnt (.closed f)
  have hrun : exec (.lintelGroupClose err) s = .next t := (upNext_up hu).trans (congrArg _ ((lintelGroupClose_closes hr (by rw [haa]; exact hc) err).trans (by rw [haa])))
  obtain ⟨dv, kv, fv, hnone, hsome⟩ := pipelineErr_tells hs err a
  have tv : TablesRise v := dv.tables hs
  obtain ⟨du, ku, fu, bu, wu, badu⟩ := historyRead_tells tv a
  have tu : TablesRise u := du.tables tv
  obtain ⟨dt, kt, et, ct, lt⟩ := closeShown tu a f
  have hvm : v.mem = s.mem := dv.only.same .mem (by decide)
  have hul : u.lnt = s.lnt := (du.only.same .lnt (by decide)).trans (dv.only.same .lnt (by decide))
  have hub : u.btr = s.btr := (du.only.same .btr (by decide)).trans (dv.only.same .btr (by decide))
  have huq : u.quo = s.quo := (du.only.same .quo (by decide)).trans (dv.only.same .quo (by decide))
  have tt : Tells u t := .of_flt (dt.only.same .flt (by decide))
  have hwv (h : AsWritten 8 0 s) : u = v := wu (h.of_mem hvm)
  have hgu : smGet .blank u.lnt.groups a = smGet .blank s.lnt.groups a := by rw [hul]
  have hpu : pastRecs u a = pastRecs s a := by unfold pastRecs; rw [hul]
  have htab := tablesFor_of hul hub a
  have hword : f.words = frameWords4 u a (tablesFor s a) (smGet .blank s.lnt.groups a) (pastRecs s a) := by rw [← htab, ← hgu, ← hpu]; rfl
  obtain ⟨w1, w2, w3, w4, w5, w6, w7⟩ := frameWord_flags u a (tablesFor s a) (smGet .blank s.lnt.groups a) (pastRecs s a)
  have hdb : toDomainBt u a = toDomainBt s a := by unfold toDomainBt activeOffset; rw [huq]
  have hloss : frameLoss u a = frameLoss s a := by unfold frameLoss; rw [hul]
  rw [hul] at w5 w6
  rw [hdb] at w1
  rw [hloss] at w7
  rw [← hword] at w1 w2 w3 w4 w5 w6 w7
  have hfr : cell v .lntCntFrames = cell s .lntCntFrames := kv _ _ _ (by decide +kernel)
  have hfu : cell u .lntCntFrames = cell v .lntCntFrames := ku _ _ _ (by decide +kernel)
  have dv' : Does [.regs, .flt, .port0, .port1, .mem, .lnt] s v := dv.widen rfl
  refine ⟨t, f, hrun, (Does.step dt rfl (.step du rfl dv')).only.widen rfl, fun h => ?_, fun b hb hh hd => ?_, by rw [lt]; rfl, by rw [lt, hul]; rfl, rfl,
    rfl, by rw [ct, hfu, hfr], fun k hk => ?_, w1, fun j hj => ?_, w2, w3, w4, w5, w6, w7, fun st hst => ?_⟩
  · refine ⟨(dt.only.same .mem (by decide)).trans (by rw [hwv h, hvm]), ?_, fun he => (dt.only.same .flt (by decide)).trans (by rw [hwv h, show v = s from hnone he])⟩
    have kvu : RegsKept [(.lntEvt, 0, 0)] s u := by rw [hwv h]; exact kv
    exact (kvu.widen (List.cons_subset.2 ⟨by decide, List.nil_subset _⟩)).trans kt
  · have hh' : historyHolds v a b = true := by
      rw [← hh]
      unfold historyHolds
      rw [dv.only.same .lnt (by decide)]
    obtain ⟨h1, h2⟩ := badu b hb hh' (by rw [eccBlock_of (congrArg (·.ecc) hvm)]; exact hd)
    exact ⟨(h1.from (dv.only.same .btr (by decide))).tells tt, by rw [et]; exact h2⟩
  · rw [hword]
    exact frameWord_fires _ _ _ _ _ hk
  · rw [hword]
    exact frameWord_counts _ _ _ _ _ hj
  · obtain ⟨h1, h2⟩ := hsome st hst
    refine ⟨(h2.tells fu).tells tt, by rw [et]; exact bu (bit_of_evented h1 (by decide) (by decide)), fun h => ?_⟩
    have huv := hwv h
    have : cell t .lntEvt = cell v .lntEvt := by rw [et, huv]
    exact this.trans h1

/-! ### A frame leaves or is skipped (R249, R251, R253) -/

/-- The oldest formed frame has been taken. -/
def Lintel.took (rest : List LntFrame) (x : Lintel) : Lintel := { x with formed := rest }

/-- A frame of the former tables that the new ones have overtaken (R249). -/
def fallsAway (s : State) (a : Nat) : Bool := match s.lnt.fallSkip with | some (x, y) => decide (x ≤ a) && decide (a ≤ y) | none => false

/-- The run of skips includes a frame. -/
def Lintel.skips (a : Nat) (stop : Bool) (x : Lintel) : Lintel :=
  { x with skipRun := match x.skipRun with | some (f, _, c) => some (f, a, c) | none => some (a, a, stop) }

theorem lintelFrameSend_skips {s : State} {f : LntFrame} {rest : List LntFrame} (hf : s.lnt.formed = f :: rest) (h : (dpStopped s || fallsAway s f.bt) = true) :
    lintelFrameSend s = skipFrame f.bt (dpStopped s) (s.modLnt (.took rest)) := by
  unfold lintelFrameSend
  rw [hf]
  cases hd : dpStopped s with
  | true => exact if_pos hd
  | false =>
    rw [hd, Bool.false_or] at h
    exact (if_neg (by rw [show dpStopped (s.modLnt fun x => { x with formed := rest }) = dpStopped s from rfl, hd]; nofun)).trans (if_pos h)

theorem lintelFrameSend_sends {s : State} {f : LntFrame} {rest : List LntFrame} (hf : s.lnt.formed = f :: rest) (h : (dpStopped s || fallsAway s f.bt) = false) :
    lintelFrameSend s = (fun u => if lintelSends u then u.modLnt fun x => { x with sent := some { f with lanes := sendingLanes u } } else u)
      (skipRunEnds (s.modLnt (.took rest))) := by
  rw [Bool.or_eq_false_iff] at h
  obtain ⟨hd, ha⟩ := h
  unfold lintelFrameSend
  rw [hf]
  refine (if_neg ?_).trans (if_neg ?_)
  · rw [show dpStopped (s.modLnt fun x => { x with formed := rest }) = dpStopped s from rfl, hd]
    nofun
  · exact fun hb => absurd (ha.symm.trans hb) nofun

theorem skipRunEnds_keeps (s : State) : (skipRunEnds s).regs = s.regs ∧ (skipRunEnds s).btr = s.btr ∧ Tells s (skipRunEnds s) ∧ (skipRunEnds s).lnt = { s.lnt with skipRun := (skipRunEnds s).lnt.skipRun } ∧
    ∀ (a b : Nat) (stop : Bool), s.lnt.skipRun = some (a, b, stop) → (skipRunEnds s).lnt.skipRun = none ∧
      Reported Src.lntFrameSkip 0 (cap64 a ++ cap64 b ++ [Config.skipCause stop.toNat]) s (skipRunEnds s) := by
  unfold skipRunEnds
  split
  next x y c h =>
    refine ⟨raise_regs .., rfl, tells_raise_of rfl, rfl, fun a b stop hk => ?_⟩
    cases h.symm.trans hk
    exact ⟨rfl, reported_raise rfl⟩
  next h => exact ⟨rfl, rfl, .refl _, rfl, fun a b stop hk => absurd (h.symm.trans hk) nofun⟩

theorem sendingLanes_of {s t : State} (hb : t.btr = s.btr) (hc : t.lnt.conflicts = s.lnt.conflicts) (hup : t.uplinks = s.uplinks) : sendingLanes t = sendingLanes s := by
  have h1 (u : Nat) : uplink t u = uplink s u := by unfold uplink; rw [hup]
  have h2 (i : Nat) : lntLaneUplink t i = lntLaneUplink s i := by unfold lntLaneUplink inForce cbReg; rw [hb]
  unfold sendingLanes
  simp only [h1, h2, hc]

theorem skipFrame_counts {s : State} (hs : TablesRise s) (a : Nat) (stop : Bool) : (skipFrame a stop s).lnt.formed = s.lnt.formed ∧ (skipFrame a stop s).lnt.sent = s.lnt.sent ∧
    cell (skipFrame a stop s) .lntCntSkip = incSat (cell s .lntCntSkip) 31 0 1 ∧ Evented .lntEvt 0 19 s (skipFrame a stop s) ∧
    RegsKept [(.lntCntSkip, 0, 0), (.lntEvt, 0, 0)] s (skipFrame a stop s) := by
  have main (v : State) (hv : Rises v.regs) (hl : v.lnt = { s.lnt with skipRun := v.lnt.skipRun }) (hr : v.regs = s.regs) :
      let t := count .lntCntSkip 0 31 0 1 (event .lntEvt 0 19 (v.modLnt (.skips a stop)))
      t.lnt.formed = s.lnt.formed ∧ t.lnt.sent = s.lnt.sent ∧ cell t .lntCntSkip = incSat (cell s .lntCntSkip) 31 0 1 ∧ Evented .lntEvt 0 19 s t ∧
        RegsKept [(.lntCntSkip, 0, 0), (.lntEvt, 0, 0)] s t := by
    intro t
    have he : Rises (event .lntEvt 0 19 (v.modLnt (.skips a stop))).regs := rises_event (s := v.modLnt (.skips a stop)) hv ..
    have hev : Evented .lntEvt 0 19 (v.modLnt (.skips a stop)) (event .lntEvt 0 19 (v.modLnt (.skips a stop))) := evented_event (s := v.modLnt (.skips a stop)) hv ..
    have hlt : t.lnt = v.lnt.skips a stop := (event_does .lntEvt 0 19 (v.modLnt (.skips a stop))).only.same .lnt (by decide)
    have hc : cell t .lntCntSkip = incSat (cell (event .lntEvt 0 19 (v.modLnt (.skips a stop))) .lntCntSkip) 31 0 1 := cell_count he ..
    have ho : cell (event .lntEvt 0 19 (v.modLnt (.skips a stop))) .lntCntSkip = cell (v.modLnt (.skips a stop)) .lntCntSkip :=
      cell_event_other (s := v.modLnt (.skips a stop)) hv .lntEvt 0 19 (by decide +kernel)
    have hs' (r : Reg) (i j : Nat) : cell (v.modLnt (.skips a stop)) r i j = cell s r i j := cell_regs hr ..
    have hk : RegsKept [(.lntCntSkip, 0, 0), (.lntEvt, 0, 0)] (v.modLnt (.skips a stop)) t :=
      RegsKept.set (RegsKept.ev (.refl _ _) (show Rises (v.modLnt (.skips a stop)).regs from hv) (.tail _ (.head _)) 19) he (.head _) _
    refine ⟨by rw [hlt, hl]; rfl, by rw [hlt, hl]; rfl, by rw [hc, ho, hs'], ?_, (RegsKept.of_regs hr).trans hk⟩
    have h1 : Evented .lntEvt 0 19 (v.modLnt (.skips a stop)) t := by
      have : cell t .lntEvt = cell (event .lntEvt 0 19 (v.modLnt (.skips a stop))) .lntEvt := cell_count_other he .lntCntSkip 0 31 0 1 (by decide +kernel)
      exact this.trans hev
    unfold Evented at h1 ⊢
    rwa [hs'] at h1
  have hk := skipRunEnds_keeps s
  unfold skipFrame
  split
  · split
    · exact main s hs.regs rfl rfl
    · exact main _ (hk.1.symm ▸ hs.regs) hk.2.2.2.1 hk.1
  · exact main s hs.regs rfl rfl

theorem lintelFrameSend_takes {s : State} (hu : isUp s = true) (hs : TablesRise s) {f : LntFrame} {rest : List LntFrame} {skip : Bool} (hf : s.lnt.formed = f :: rest)
    (hsk : skip = (dpStopped s || fallsAway s f.bt)) :
    ∃ t : State, exec .lintelFrameSend s = .next t ∧ Only (reportZones ++ [.lnt]) s t ∧ t.lnt.formed = rest ∧
      (skip = true → t.lnt.sent = s.lnt.sent ∧ cell t .lntCntSkip = incSat (cell s .lntCntSkip) 31 0 1 ∧ Evented .lntEvt 0 19 s t ∧
        RegsKept [(.lntCntSkip, 0, 0), (.lntEvt, 0, 0)] s t) ∧
      (skip = false → t.regs = s.regs ∧
        (s.lnt.phase = .running → bit (cell s .lntCtl) 0 = true → t.lnt.sent = some { f with lanes := sendingLanes s }) ∧
        (s.lnt.phase ≠ .running ∨ bit (cell s .lntCtl) 0 = false → t.lnt.sent = s.lnt.sent) ∧
        ∀ (a b : Nat) (stop : Bool), s.lnt.skipRun = some (a, b, stop) → t.lnt.skipRun = none ∧
          Reported Src.lntFrameSkip 0 (cap64 a ++ cap64 b ++ [Config.skipCause stop.toNat]) s t) := by
  have donly : Only (reportZones ++ [.lnt]) s (lintelFrameSend s) := (lintelFrameSend_does s).only.widen rfl
  let v := s.modLnt (.took rest)
  have tv : TablesRise v := (State.modLnt_does (.took rest) s fun _ h => h).tables hs
  cases hb : skip with
  | true =>
    rw [hb] at hsk
    obtain ⟨h1, h2, h3, h4, h5⟩ := skipFrame_counts tv f.bt (dpStopped s)
    rw [← lintelFrameSend_skips hf hsk.symm] at h1 h2 h3 h4 h5
    exact ⟨lintelFrameSend s, upNext_up hu, donly, h1, fun _ => ⟨h2, h3, h4, h5⟩, nofun⟩
  | false =>
    rw [hb] at hsk
    have hd : dpStopped s = false := (Bool.or_eq_false_iff.1 hsk.symm).1
    obtain ⟨hr, hbt, ht, hl, hrun⟩ := skipRunEnds_keeps v
    have he := lintelFrameSend_sends hf hsk.symm
    generalize hw : skipRunEnds v = w at hr hbt ht hl hrun
    have hsends : lintelSends w = (s.lnt.phase == .running && bit (cell s .lntCtl) 0) := by
      unfold lintelSends
      rw [ht.dpStopped, show dpStopped v = dpStopped s from rfl, hd, cell_regs hr, hl, Bool.not_false, Bool.and_true]
      rfl
    have hlanes : sendingLanes w = sendingLanes s := sendingLanes_of hbt (by rw [hl]; rfl) (by rw [← hw]; exact (skipRunEnds_does v).only.same .uplinks (by decide))
    have he' : lintelFrameSend s = if lintelSends w then w.modLnt fun x => { x with sent := some { f with lanes := sendingLanes w } } else w := by
      rw [he]
      exact congrArg (fun u => if lintelSends u then u.modLnt fun x => { x with sent := some { f with lanes := sendingLanes u } } else u) hw
    have hrun' : ∀ (a b : Nat) (stop : Bool), s.lnt.skipRun = some (a, b, stop) → w.lnt.skipRun = none ∧
        Reported Src.lntFrameSkip 0 (cap64 a ++ cap64 b ++ [Config.skipCause stop.toNat]) s w := fun a b stop h =>
      ⟨(hrun a b stop h).1, (hrun a b stop h).2.from rfl⟩
    refine ⟨lintelFrameSend s, upNext_up hu, donly, ?_, nofun, fun _ => ?_⟩
    · rw [he']
      split
      · show w.lnt.formed = rest
        rw [hl]
        rfl
      · rw [hl]
        rfl
    · rw [he', hsends, hlanes]
      by_cases hp : s.lnt.phase = .running ∧ bit (cell s .lntCtl) 0 = true
      · obtain ⟨hp1, hp2⟩ := hp
        rw [hp1, hp2, if_pos (by decide)]
        refine ⟨hr, fun _ _ => rfl, fun h => ?_, hrun'⟩
        exact absurd h (by simp)
      · rw [if_neg (by simpa [beq_iff_eq] using hp)]
        refine ⟨hr, fun h1 h2 => absurd ⟨h1, h2⟩ hp, fun _ => ?_, hrun'⟩
        rw [hl]
        rfl

/-- Settles O49. -/
theorem lintelFrames : Obligations.LintelFrames := by
  unfold Obligations.LintelFrames
  intro s hu hs
  refine ⟨fun err a ha => ⟨fun h => ?_, fun hr hc tb g past htb hg hp => lintelGroupClose_frames hu hs err ha hr hc htb hg hp⟩, fun h => ?_,
    fun f rest skip hf hsk => lintelFrameSend_takes hu hs hf hsk⟩
  · subst ha
    exact (upNext_up hu).trans (congrArg _ (lintelGroupClose_waits h err))
  · refine (upNext_up hu).trans (congrArg _ ?_)
    unfold lintelFrameSend
    rw [h]

end Sys2Proof.Machine
end

section
/-!
SUPPORT. The correction of a hit (R121 to R131): what the lookups of its terms and the tap do.
-/
namespace Sys2Proof.Machine

/-! ### Lookups in the tables (R126, R127, R131) -/

/-- The registers that lookups in a group's tables can change. -/
abbrev termRegs : List (Reg × Nat × Nat) := tableRegs 0 ++ tableRegs 1

/-- A step of a reader of the tables. -/
structure TermStep (s t : State) : Prop where
  does : Does [.regs, .flt, .port0, .port1, .sram, .mem] s t
  regs : RegsKept termRegs s t
  tells : Tells s t

theorem TermStep.refl (s : State) : TermStep s s := ⟨.refl _ _, .refl _ _, .refl _⟩

theorem TermStep.trans {s t u : State} (h : TermStep s t) (k : TermStep t u) : TermStep s u := ⟨.step k.does rfl h.does, h.regs.trans k.regs, h.tells.trans k.tells⟩

theorem tableRegs_sub (b : Nat) : tableRegs (blockMemory b).1 ⊆ termRegs := by
  have h := blockMemory_lt b
  rcases (show (blockMemory b).1 = 0 ∨ (blockMemory b).1 = 1 by omega) with h | h
  · rw [h]; exact List.subset_append_left ..
  · rw [h]; exact List.subset_append_right ..

theorem TermStep.of_block {g b : Nat} {s t : State} (h : BlockStep g b s t) : TermStep s t := ⟨h.does, h.regs.widen (tableRegs_sub b), h.tells⟩

theorem termStep_of_mem {s t : State} (d : Does [.mem] s t) : TermStep s t := .of_block (g := 0) (b := 0) (blockStep_mem d)

theorem termStep_setTblock (g b : Nat) (x : SramBlock) (s : State) : TermStep s (setTblock g b x s) := ⟨(setTblock_does ..).widen rfl, .of_regs rfl, .of_flt rfl⟩

theorem termStep_damageTblock {s : State} (hs : TablesRise s) (g b master access : Nat) : TermStep s (damageTblock g b master access s) := by
  have t1 : TablesRise (blockDamaged g b s) := (setTblock_does ..).tables hs
  have h1 : TermStep s (blockDamaged g b s) := termStep_setTblock ..
  rw [damageTblock_eq]
  exact (h1.trans (.of_block (blockStep_sramUncorrected t1 g b (blockMemory b).2 master access))).trans (termStep_of_mem (queueRestore_does ..))

theorem termStep_readTblock {s : State} (hs : TablesRise s) (g b master access : Nat) : TermStep s (readTblock g b master access s).2 := by
  have bad (k : Nat) : TermStep s (recordBadRead k (blockMemory b).1 g (blockMemory b).2 s) := .of_block (blockStep_recordBadRead hs g b k _ _ _)
  unfold readTblock
  dsimp only
  split
  · exact bad 31
  · dsimp only
    split
    · exact (bad 30).trans (termStep_of_mem (queueRestore_does ..))
    · exact bad 30
  · exact .refl _
  · split
    · exact .refl _
    · exact .of_block (blockStep_sramCorrected hs g b _ _ _ _)
    · exact termStep_damageTblock hs ..

theorem termStep_readEntry {s : State} (hs : TablesRise s) (g base i : Nat) : TermStep s (readEntry g base i s).2 := termStep_readTblock hs ..

/-- What a read of a block delivers. -/
def SramBlock.delivers (x : SramBlock) : Option DWord :=
  if x.phase = .good then match readOutcome x.data x.check with | .clean d => some d | .corrected d _ => some d | .uncorrectable => none else none

/-- A read finds the block uncorrectable. -/
def SramBlock.spoils (x : SramBlock) : Bool :=
  decide (x.phase = .good) && match readOutcome x.data x.check with | .uncorrectable => true | _ => false

theorem readTblock_delivers (g b master access : Nat) (s : State) : (readTblock g b master access s).1 = (tblock s g b).delivers := by
  unfold readTblock SramBlock.delivers
  dsimp only
  cases hp : (tblock s g b).phase
  case good =>
    dsimp only
    cases readOutcome (tblock s g b).data (tblock s g b).check <;> rfl
  all_goals rfl

/-- The tables after a read depend on the tables. -/
theorem readTblock_sram (g b master access : Nat) (s : State) : (readTblock g b master access s).2.sram =
    if (tblock s g b).spoils then (setTblock g b { tblock s g b with phase := .damaged } s).sram else s.sram := by
  have hr (k : Nat) : (recordBadRead k (blockMemory b).1 g (blockMemory b).2 s).sram = s.sram := (recordBadRead_does ..).only.same .sram (by decide)
  unfold readTblock SramBlock.spoils
  dsimp only
  cases hp : (tblock s g b).phase
  case good =>
    dsimp only
    cases readOutcome (tblock s g b).data (tblock s g b).check with
    | clean d => rfl
    | corrected d syn => exact (sramCorrected_does ..).only.same .sram (by decide)
    | uncorrectable =>
      have h1 : (damageTblock g b master access s).sram = (blockDamaged g b s).sram := by
        rw [damageTblock_eq, (queueRestore_does ..).only.same .sram (by decide), (sramUncorrected_does ..).only.same .sram (by decide)]
      exact h1
  case damaged =>
    dsimp only
    split
    · exact ((queueRestore_does ..).only.same .sram (by decide)).trans (hr 30)
    · exact hr 30
  case empty => exact hr 31
  case writing => rfl

theorem readEntry_same {s t : State} (h : t.sram = s.sram) (g base i : Nat) : (readEntry g base i t).1 = (readEntry g base i s).1 ∧
    (readEntry g base i t).2.sram = (readEntry g base i s).2.sram := by
  have hb : tblock t g (base + i / 4) = tblock s g (base + i / 4) := tblock_of h ..
  refine ⟨?_, ?_⟩
  · show ((readTblock g (base + i / 4) 5 1 t).1).map _ = ((readTblock g (base + i / 4) 5 1 s).1).map _
    rw [readTblock_delivers, readTblock_delivers, hb]
  · show (readTblock g (base + i / 4) 5 1 t).2.sram = (readTblock g (base + i / 4) 5 1 s).2.sram
    rw [readTblock_sram, readTblock_sram, hb, h]
    unfold setTblock
    dsimp only
    rw [h]

/-! ### The terms of a hit (R123, R131) -/

/-- The table index of a hit's channel. -/
def hitIndex (x : HitItem) (s : State) : Nat := ((partner s x.partner).binding.map (·.base)).getD 0 + x.channel

/-- The lookup of a hit's offset. -/
def offsetTerm (x : HitItem) (s : State) : Option Int × State :=
  match ofsAddress s x.group (x.namedBt / 64) (hitIndex x s) with
  | some a => if domOn s x.group then readEntry x.group 0 a s else (none, s)
  | none => (some 0, s)

/-- The lookup of a hit's walk, in the state `u` after the offset's. -/
def walkTerm (x : HitItem) (q : Nat) (s u : State) : Option Int × State :=
  if domOn s x.group then readEntry x.group ofsBlocks (walkAddress u x.group (x.namedBt / 64) (walkRegion s x.partner x.channel) q) u else (none, u)

/-- A hit's delay. -/
def delayOf (x : HitItem) (s : State) : Int × Bool := if (partner s x.partner).delayCal then delayTerm s x.partner x.namedBt else (0, true)

/-- The terms of the three lookups. -/
def termsOf (o w : Option Int) (d : Int × Bool) (noEntry : Bool) : Terms :=
  ⟨o.getD 0 + w.getD 0 + d.1, if o.isNone then 1 else if w.isNone then 2 else if noEntry then 3 else if d.2 then 4 else 0⟩

theorem hitTerms_eq (x : HitItem) (q : Nat) (s : State) : hitTerms x q s = (termsOf (offsetTerm x s).1 (walkTerm x q s (offsetTerm x s).2).1 (delayOf x s)
    (ofsAddress s x.group (x.namedBt / 64) (hitIndex x s)).isNone, (walkTerm x q s (offsetTerm x s).2).2) := rfl

theorem termStep_offsetTerm {s : State} (hs : TablesRise s) (x : HitItem) : TermStep s (offsetTerm x s).2 := by
  unfold offsetTerm
  split
  · split
    · exact termStep_readEntry hs ..
    · exact .refl _
  · exact .refl _

theorem termStep_hitTerms {s : State} (hs : TablesRise s) (x : HitItem) (q : Nat) : TermStep s (hitTerms x q s).2 := by
  have h := termStep_offsetTerm hs x
  rw [hitTerms_eq]
  refine h.trans ?_
  unfold walkTerm
  dsimp only
  split
  · exact termStep_readEntry (h.does.tables hs) ..
  · exact .refl _

/-- What the terms of a hit depend on. -/
structure SameTables (x : HitItem) (s t : State) : Prop where
  sram : t.sram = s.sram
  groups : t.groups = s.groups
  partners : t.partners = s.partners
  pwr : t.pwr = s.pwr
  btr : t.btr = s.btr
  quo : t.quo = s.quo
  region : cell t .ashPregion x.partner = cell s .ashPregion x.partner

theorem inForce_of {s t : State} (h : t.btr = s.btr) (r : Reg) (i : Nat) : inForce t r i = inForce s r i := by
  unfold inForce cbReg
  rw [h]

theorem banksAt_of {s t : State} (h : t.groups = s.groups) (g c : Nat) : banksAt t g c = banksAt s g c := by
  unfold banksAt tgroup
  rw [h]

theorem ofsAddress_of {s t : State} (hg : t.groups = s.groups) (hb : t.btr = s.btr) (g c i : Nat) : ofsAddress t g c i = ofsAddress s g c i := by
  unfold ofsAddress dualMode
  rw [inForce_of hb, banksAt_of hg]

theorem delayTerm_of {s t : State} (h : t.quo = s.quo) (p b : Nat) : delayTerm t p b = delayTerm s p b := by
  unfold delayTerm partnerClock
  rw [h]

theorem domOn_of {s t : State} (h : t.pwr = s.pwr) (n : Nat) : domOn t n = domOn s n := by
  unfold domOn
  rw [powerDom_of h]

theorem SameTables.index {x : HitItem} {s t : State} (h : SameTables x s t) : hitIndex x t = hitIndex x s := by
  unfold hitIndex
  rw [partner_of h.partners]

theorem SameTables.offset {x : HitItem} {s t : State} (h : SameTables x s t) : (offsetTerm x t).1 = (offsetTerm x s).1 ∧
    (offsetTerm x t).2.sram = (offsetTerm x s).2.sram := by
  unfold offsetTerm
  rw [ofsAddress_of h.groups h.btr, h.index, domOn_of h.pwr]
  split
  · split
    · exact readEntry_same h.sram ..
    · exact ⟨rfl, h.sram⟩
  · exact ⟨rfl, h.sram⟩

/-- The lookups of a hit's terms deliver what its tables hold. -/
theorem SameTables.terms {x : HitItem} {s t : State} (h : SameTables x s t) (q : Nat) : (hitTerms x q t).1 = (hitTerms x q s).1 := by
  obtain ⟨h1, h2⟩ := h.offset
  have hgroups (v : State) : (offsetTerm x v).2.groups = v.groups := by
    unfold offsetTerm
    split
    · split
      · exact (readTblock_does ..).only.same .groups (by decide)
      · rfl
    · rfl
  have hw : (walkTerm x q t (offsetTerm x t).2).1 = (walkTerm x q s (offsetTerm x s).2).1 := by
    have hreg : walkRegion t x.partner x.channel = walkRegion s x.partner x.channel := by unfold walkRegion; rw [h.region]
    have hadr : walkAddress (offsetTerm x t).2 x.group (x.namedBt / 64) (walkRegion s x.partner x.channel) q =
        walkAddress (offsetTerm x s).2 x.group (x.namedBt / 64) (walkRegion s x.partner x.channel) q := by
      unfold walkAddress
      rw [banksAt_of ((hgroups t).trans (h.groups.trans (hgroups s).symm))]
    unfold walkTerm
    rw [domOn_of h.pwr, hreg, hadr]
    split
    · exact (readEntry_same h2 ..).1
    · rfl
  have hd : delayOf x t = delayOf x s := by
    unfold delayOf
    rw [partner_of h.partners, delayTerm_of h.quo]
  rw [hitTerms_eq, hitTerms_eq, h1, hw, hd, ofsAddress_of h.groups h.btr, h.index]

/-! ### The tap (R236, R237, R239) -/

/-- The registers that the tap counts in. -/
abbrev tapRegs : List (Reg × Nat × Nat) := [(.lntEvt, 0, 0), (.lntCntLateTap, 0, 0), (.lntCntOver, 0, 0), (.lntCntSat, 0, 0), (.lntCntAdmit, 0, 0)]

/-- A step of the tap. -/
structure TapStep (s t : State) : Prop where
  rises : Rises t.regs
  regs : RegsKept tapRegs s t
  tells : Tells s t

theorem TapStep.trans {s t u : State} (h : TapStep s t) (k : TapStep t u) : TapStep s u := ⟨k.rises, h.regs.trans k.regs, h.tells.trans k.tells⟩

theorem TapStep.of {s t : State} (hs : Rises s.regs) (hr : t.regs = s.regs) (hf : t.flt = s.flt) : TapStep s t := ⟨hr.symm ▸ hs, .of_regs hr, .of_flt hf⟩

theorem tapStep_modCell {s : State} (hs : Rises s.regs) {r : Reg} (hr : (r, 0, 0) ∈ tapRegs) (f : Word → Word) : TapStep s (modCell r 0 0 f s) :=
  ⟨rises_setCell hs .., (RegsKept.refl _ s).set hs hr _, .of_flt rfl⟩

theorem TapStep.raised {s t : State} (h : TapStep s t) (src idx : Nat) (cap : List Word) : TapStep s (raise src idx cap t) :=
  ⟨h.rises, h.regs.keep (raise_regs ..), h.tells.trans (tells_raise ..)⟩

theorem TapStep.counts {s t : State} (h : TapStep s t) (b : Nat) {r : Reg} (hr : (r, 0, 0) ∈ tapRegs) (hi lo n : Nat) :
    TapStep s (count r 0 hi lo n (event .lntEvt 0 b t)) :=
  have h1 : TapStep t (event .lntEvt 0 b t) := ⟨rises_event h.rises .., (RegsKept.refl _ t).ev h.rises (.head _) b, .of_flt (event_flt ..)⟩
  h.trans (h1.trans (tapStep_modCell h1.rises hr fun w => incSat w hi lo n))

theorem tapStep_lateAtTap {s : State} (hs : Rises s.regs) (p l a late : Nat) : TapStep s (lateAtTap p l a late s) := by
  have h0 : TapStep s (s.modLnt fun x => { x with lateTap := true }) := .of hs rfl rfl
  have h1 := h0.counts 18 (r := .lntCntLateTap) (.tail _ (.head _)) 31 0 1
  unfold lateAtTap
  dsimp only
  split
  · exact h1.raised ..
  · exact h1

theorem tapStep_tapOverflow {s : State} (hs : Rises s.regs) (a : Nat) : TapStep s (tapOverflow a s) := by
  have h0 : TapStep s (modLntGroup a (fun g => { g with dropped := g.dropped + 1 })
      (s.modLnt fun x => { x with tapBase := smUpd .blank x.tapBase a fun g => { g with dropped := g.dropped + 1 } })) := .of hs rfl rfl
  have h1 := h0.counts 17 (r := .lntCntOver) (.tail _ (.tail _ (.head _))) 31 0 1
  unfold tapOverflow
  dsimp only
  split
  · exact h1.raised ..
  · exact h1

theorem tapStep_tapAdmit {s : State} (hs : Rises s.regs) (x : TapRec) : TapStep s (tapAdmit x s) := by
  unfold tapAdmit
  extract_lets same base all gs more g u v w
  have hu : u.regs = s.regs ∧ u.flt = s.flt := by
    unfold u
    split
    · exact ⟨(historyWrite_does ..).only.same .regs (by decide), (historyWrite_does ..).only.same .flt (by decide)⟩
    · exact ⟨rfl, rfl⟩
  have hv : TapStep s v := .of hs hu.1 hu.2
  have hw : TapStep s w := by
    unfold w
    split
    · exact hv
    · exact hv.counts 16 (.tail _ (.tail _ (.tail _ (.head _)))) 31 0 more
  split
  · exact hw.trans (tapStep_tapOverflow hw.rises _)
  · exact hw.trans (tapStep_modCell hw.rises (.tail _ (.tail _ (.tail _ (.tail _ (.head _))))) _)

theorem tapStep_lintelTap {s : State} (hs : Rises s.regs) (m c : Nat) (w : DWord) (l : Nat) (arr : Stamp) : TapStep s (lintelTap m c w l arr s) := by
  unfold lintelTap
  dsimp only
  split
  · exact .of hs rfl rfl
  · split
    · exact tapStep_lateAtTap hs ..
    · exact tapStep_tapAdmit hs _

end Sys2Proof.Machine
end

section
/-!
SUPPORT. The course ring (R23, R146 to R149, R152, R153): records that are late, dropped at the cap, and appended.
-/
namespace Sys2Proof.Machine

/-! ### Pages that come back (R149, R153) -/

theorem smGet_filter_kept {α : Type} {d : α} {m : SMap α} (hm : Rises m) {f : Nat → Bool} {k : Nat} (h : f k = true) :
    smGet d (m.filter fun e => f e.1) k = smGet d m k := by
  unfold smGet
  rw [smFind_filter hm]
  cases smFind m k with
  | none => rfl
  | some x => rw [Option.filter, if_pos h]

theorem quartersFreed_buckets (l : List (Nat × Bucket)) (s : State) :
    (forL l (fun e t => modQuarter (keyQuarter e.1) (fun q => { q with freed := q.freed ++ e.2.pages }) t) s).ring.buckets = s.ring.buckets := by
  induction l generalizing s with
  | nil => rfl
  | cons e l ih => exact ih _

theorem releaseBefore_buckets (c : Nat) (s : State) : (releaseBefore c s).ring.buckets = s.ring.buckets.filter (fun e => decide (c * 2048 ≤ e.1)) := by
  have hf (u : State) : (forN 4 freeMoved u).ring = u.ring := (Does.forN (fun _ _ h => .step (freeMoved_does ..) rfl h) (Does.refl [.regs] u)).only.same .ring (by decide)
  unfold releaseBefore
  dsimp only
  rw [hf]
  exact congrArg (List.filter _) (quartersFreed_buckets ..)

/-- The key of a bucket of the courses that early release spares. -/
theorem key_behind {c n key : Nat} (hc : c + 2 ≤ n) (hk : n * 2048 ≤ key + 2048) : (c + 1) * 2048 ≤ key := by linarith

/-- What the ring holds of the courses from the one before the course under way on stays. -/
theorem earlyRelease_keeps (m k : Nat) {s : State} (hs : Rises s.ring.buckets) {key : Nat} (hk : nowCourse s * 2048 ≤ key + 2048) :
    smGet .blank (earlyRelease m k s).ring.buckets key = smGet .blank s.ring.buckets key := by
  induction k generalizing s with
  | zero => rfl
  | succ k ih =>
    unfold earlyRelease
    dsimp only
    split
    · split
      next c _ =>
        split
        next hc =>
          rw [Bool.and_eq_true, decide_eq_true_eq] at hc
          obtain ⟨hc, -⟩ := hc
          have hkey : (c + 1) * 2048 ≤ key := key_behind hc hk
          let v := s.modRing fun r => { r with releasedTo := some c, lastEarly := some (c, nowCourse s) }
          let u := raise Src.crsEarlyRelease m (capCourse c ++ [w32 m, w32 (freePages s m)]) (count .crsEarlyRel 0 31 0 1 (event .crsEvt 0 17 v))
          have du : Does [.regs, .flt, .port0, .port1] v u := .step (raise_does ..) rfl (.step (count_does ..) rfl ((event_does ..).widen rfl))
          have hu : u.ring.buckets = s.ring.buckets := by rw [du.only.same .ring (by decide)]; rfl
          have hb : (releaseBefore (c + 1) u).ring.buckets = s.ring.buckets.filter (fun e => decide ((c + 1) * 2048 ≤ e.1)) := by rw [releaseBefore_buckets, hu]
          have hn : nowCourse (releaseBefore (c + 1) u) = nowCourse s :=
            nowCourse_btr (((releaseBefore_does ..).only.same .btr (by decide)).trans (du.only.same .btr (by decide)))
          have hkeep : smGet .blank (releaseBefore (c + 1) u).ring.buckets key = smGet .blank s.ring.buckets key := by
            rw [hb]
            exact smGet_filter_kept hs (f := fun j => decide ((c + 1) * 2048 ≤ j)) (decide_eq_true hkey)
          exact (ih (hb ▸ rises_filter hs) (by rw [hn]; exact hk)).trans hkeep
        next => rfl
      next => rfl
    · rfl

/-! ### A record is appended (R147, R148) -/

/-- The state of the ring with a record in its bucket. -/
theorem appendEntry_bucket {s : State} (hs : Rises s.ring.buckets) (m key k : Nat) (old : Bucket) (e : RingEntry) :
    Rises (appendEntry m key k old e s).ring.buckets ∧ (smGet .blank (appendEntry m key k old e s).ring.buckets key).entries = old.entries ++ [e] := by
  have hw (pages : List Nat) (a b c : Nat) (u : State) : (writeEntries m pages a b c u).ring = u.ring := (writeEntries_does ..).only.same .ring (by decide)
  unfold appendEntry
  dsimp only
  rw [hw]
  have hg : smGet .blank (smPut .blank s.ring.buckets key ⟨old.entries ++ [e], old.pages ++ ((quarter s m).take k).1⟩) key =
      ⟨old.entries ++ [e], old.pages ++ ((quarter s m).take k).1⟩ := (smGet_put_rises hs _ _ _ _ fun _ => rfl).trans (if_pos rfl)
  exact ⟨rises_put hs, congrArg Bucket.entries hg⟩

theorem ringWrite_appends {s : State} (hs : TablesRise s) {c g : Nat} (hq : (quarter s (g / 8)).inService = true) (hc : (quarter s (g / 8)).since ≤ c)
    (hn : nowCourse s ≤ c + 1) (p namedBt : Nat) {e : RingEntry} (hcap : courseEntries s (g / 8) c + entrySize e ≤ 24576)
    (hp : bucketPages ((bucketAt s c g (recTime e.record / 16384)).entries ++ [e]) ≤ (bucketAt s c g (recTime e.record / 16384)).pages.length + freePages s (g / 8)) :
    bucket (ringWrite c g p namedBt e s) c g (recTime e.record / 16384) = (bucketAt s c g (recTime e.record / 16384)).entries ++ [e] := by
  let k := bucketPages ((bucketAt s c g (recTime e.record / 16384)).entries ++ [e]) - (bucketAt s c g (recTime e.record / 16384)).pages.length
  have hk : ¬ freePages s (g / 8) < k := by omega
  let v := appendEntry (g / 8) (bucketKey c g (recTime e.record / 16384)) k (bucketAt s c g (recTime e.record / 16384)) e s
  have hw : ringWrite c g p namedBt e s = earlyRelease (g / 8) 24 (freeMoved (g / 8) v) := by
    unfold ringWrite
    dsimp only
    rw [if_neg (by rw [hq, decide_eq_false (by omega)]; nofun), if_neg (by omega), if_neg (by omega), if_neg hk, if_neg hk]
  obtain ⟨h1, h2⟩ := appendEntry_bucket hs.ring.1 (g / 8) (bucketKey c g (recTime e.record / 16384)) k (bucketAt s c g (recTime e.record / 16384)) e
  have hf : (freeMoved (g / 8) v).ring = v.ring := rfl
  have hb : nowCourse (freeMoved (g / 8) v) = nowCourse s := nowCourse_btr ((appendEntry_does ..).only.same .btr (by decide))
  have hkey : nowCourse (freeMoved (g / 8) v) * 2048 ≤ bucketKey c g (recTime e.record / 16384) + 2048 := by
    rw [hb]
    unfold bucketKey
    omega
  rw [hw]
  unfold bucket bucketAt
  rw [earlyRelease_keeps _ _ (by rw [hf]; exact h1) hkey, hf]
  exact h2

/-! ### A record that is late, or beyond the cap (R23, R152) -/

theorem regOff_crsLateRec (g : Nat) : regOff .crsLateRec g = regOff .crsLateRec (g % 32) := by
  simp [regOff, Reg.place]

theorem regOff_crsCapDrop (m : Nat) : regOff .crsCapDrop m = regOff .crsCapDrop (m % 4) := by
  simp [regOff, Reg.place]

theorem at_ring : ∀ r ∈ [Reg.crsEvt, .crsLateRec, .crsCapDrop], regExists r 0 0 = true := by decide +kernel

theorem crsLateRec_ne (g : Nat) : regOff .crsLateRec g ≠ regOff .crsEvt ∧ ∀ x ∈ acctCells, regOff .crsLateRec g ≠ regOff x.1 x.2.1 x.2.2 := by
  have h : ∀ i < 32, regOff .crsLateRec i ≠ regOff .crsEvt ∧ ∀ x ∈ acctCells, regOff .crsLateRec i ≠ regOff x.1 x.2.1 x.2.2 := by decide +kernel
  rw [regOff_crsLateRec]
  exact h _ (Nat.mod_lt _ (by decide))

theorem crsCapDrop_ne (m : Nat) : regOff .crsCapDrop m ≠ regOff .crsEvt ∧ ∀ x ∈ acctCells, regOff .crsCapDrop m ≠ regOff x.1 x.2.1 x.2.2 := by
  have h : ∀ i < 4, regOff .crsCapDrop i ≠ regOff .crsEvt ∧ ∀ x ∈ acctCells, regOff .crsCapDrop i ≠ regOff x.1 x.2.1 x.2.2 := by decide +kernel
  rw [regOff_crsCapDrop]
  exact h _ (Nat.mod_lt _ (by decide))

theorem crsEvt_ne : ∀ x ∈ acctCells, regOff .crsEvt ≠ regOff x.1 x.2.1 x.2.2 := by decide +kernel

/-- A late record. -/
theorem ringWrite_late {s : State} (hs : TablesRise s) (hgr : ∀ p g, partnerGroup s p = some g → g < 32) {c g : Nat} (hq : (quarter s (g / 8)).inService = true)
    (hc : (quarter s (g / 8)).since ≤ c) (hn : c + 1 < nowCourse s) (p namedBt : Nat) (e : RingEntry) :
    (ringWrite c g p namedBt e s).ring = s.ring ∧ Evented .crsEvt 0 16 s (ringWrite c g p namedBt e s) ∧
      cell (ringWrite c g p namedBt e s) .crsLateRec g = incSat (cell s .crsLateRec g) 31 0 1 ∧ Reported Src.courseLateRec 0 [] s (ringWrite c g p namedBt e s) := by
  obtain ⟨h1, h2⟩ := crsLateRec_ne g
  let b := c * 64 + recTime e.record / 16384
  let u := count .crsLateRec g 31 0 1 s
  let v := event .crsEvt 0 16 u
  let w := account p 8 b b 1 v
  have hw : ringWrite c g p namedBt e s = raise Src.courseLateRec 0 [] w (.quarter (g / 8)) := by
    unfold ringWrite
    dsimp only
    rw [if_neg (by rw [hq, decide_eq_false (by omega)]; nofun), if_pos hn]
  have du : Does [.regs] s u := count_does ..
  have dv : Does [.regs, .port0, .port1] u v := event_does ..
  have dw : Does [.regs, .flt, .groups] v w := account_does ..
  have tu : TablesRise u := du.tables hs
  have tv : TablesRise v := dv.tables tu
  have hpart : v.partners = s.partners := (dv.only.same .partners (by decide)).trans (du.only.same .partners (by decide))
  obtain ⟨ka, -⟩ := account_kept tv (fun p g h => hgr p g (by rwa [partnerGroup_of hpart] at h)) p 8 b b 1
  have hev : Evented .crsEvt 0 16 u v := evented_event tu.regs ..
  have hue : cell u .crsEvt = cell s .crsEvt := cell_count_other hs.regs .crsLateRec g 31 0 1 h1.symm
  have hcu : cell u .crsLateRec g = incSat (cell s .crsLateRec g) 31 0 1 := cell_count hs.regs ..
  have hcv : cell v .crsLateRec g = cell u .crsLateRec g := cell_event_other tu.regs .crsEvt 0 16 h1
  have hbt : w.btr = s.btr := (dw.only.same .btr (by decide)).trans ((dv.only.same .btr (by decide)).trans (du.only.same .btr (by decide)))
  have hsw : Evented .crsEvt 0 16 s w := by
    have h3 : cell w .crsEvt = cell v .crsEvt := ka _ _ _ crsEvt_ne
    unfold Evented at hev ⊢
    rw [h3, hev, hue]
  rw [hw]
  exact ⟨(dw.only.same .ring (by decide)).trans ((dv.only.same .ring (by decide)).trans (du.only.same .ring (by decide))), hsw.keep (raise_regs ..),
    (cell_regs (raise_regs ..) ..).trans ((ka _ _ _ h2).trans (hcv.trans hcu)), reported_raise (tgt := .quarter (g / 8)) hbt⟩

/-- A record beyond the ring's cap. -/
theorem ringWrite_dropped {s : State} (hs : TablesRise s) (hgr : ∀ p g, partnerGroup s p = some g → g < 32) {c g : Nat} (hq : (quarter s (g / 8)).inService = true)
    (hc : (quarter s (g / 8)).since ≤ c) (hn : nowCourse s ≤ c + 1) (p namedBt : Nat) {e : RingEntry} (hcap : 24576 < courseEntries s (g / 8) c + entrySize e) :
    (ringWrite c g p namedBt e s).ring.buckets = s.ring.buckets ∧
      cell (ringWrite c g p namedBt e s) .crsCapDrop (g / 8) = incSat (cell s .crsCapDrop (g / 8)) 31 0 (entrySize e) ∧
      (smGet 0 (quarter s (g / 8)).drops c = 0 →
        Reported Src.crsCapDrop (g / 8) (w32 (g / 8) :: capCourse c ++ [w32 (entrySize e)]) s (ringWrite c g p namedBt e s) ∧
          Evented .crsEvt 0 18 s (ringWrite c g p namedBt e s)) := by
  generalize hm : g / 8 = m at hq hc hcap ⊢
  obtain ⟨h1, h2⟩ := crsCapDrop_ne m
  let d := smGet 0 (quarter s m).drops c + entrySize e
  let u := count .crsCapDrop m 31 0 (entrySize e) s
  let v := modQuarter m (fun q => { q with drops := smPut 0 q.drops c d }) u
  let w := account p 9 namedBt namedBt 1 v
  have hw : ringWrite c g p namedBt e s = if d == entrySize e then raise Src.crsCapDrop m (w32 m :: capCourse c ++ [w32 d]) (event .crsEvt 0 18 w) else w := by
    unfold ringWrite
    dsimp only
    rw [hm, if_neg (by rw [hq, decide_eq_false (by omega)]; nofun), if_neg (by omega), if_pos hcap]
    rfl
  have du : Does [.regs] s u := count_does ..
  have dv : Does [.ring] u v := modQuarter_does ..
  have dw : Does [.regs, .flt, .groups] v w := account_does ..
  have tv : TablesRise v := dv.tables (du.tables hs)
  have tw : TablesRise w := dw.tables tv
  have hpart : v.partners = s.partners := (dv.only.same .partners (by decide)).trans (du.only.same .partners (by decide))
  obtain ⟨ka, -⟩ := account_kept tv (fun p g h => hgr p g (by rwa [partnerGroup_of hpart] at h)) p 9 namedBt namedBt 1
  have hvr : v.regs = u.regs := rfl
  have hwe : cell w .crsEvt = cell s .crsEvt := (ka _ _ _ crsEvt_ne).trans ((cell_regs hvr ..).trans (cell_count_other hs.regs .crsCapDrop m 31 0 (entrySize e) h1.symm))
  have hwc : cell w .crsCapDrop m = incSat (cell s .crsCapDrop m) 31 0 (entrySize e) := (ka _ _ _ h2).trans ((cell_regs hvr ..).trans (cell_count hs.regs ..))
  have hring : w.ring.buckets = s.ring.buckets := by rw [dw.only.same .ring (by decide)]; rfl
  have hbt : w.btr = s.btr := (dw.only.same .btr (by decide)).trans rfl
  rw [hw]
  by_cases hd : d == entrySize e
  · rw [if_pos hd]
    have de : Does [.regs, .port0, .port1] w (event .crsEvt 0 18 w) := event_does ..
    have hev : Evented .crsEvt 0 18 s (event .crsEvt 0 18 w) := by
      have := evented_event tw.regs .crsEvt 0 18
      unfold Evented at this ⊢
      rw [this, hwe]
    refine ⟨(congrArg Ring.buckets (de.only.same .ring (by decide))).trans hring, ?_, fun _ => ⟨?_, hev.keep (raise_regs ..)⟩⟩
    · exact (cell_regs (raise_regs ..) ..).trans ((cell_event_other tw.regs .crsEvt 0 18 h1).trans hwc)
    · rw [beq_iff_eq] at hd
      rw [hd]
      exact reported_raise ((event_btr ..).trans hbt)
  · rw [if_neg hd]
    exact ⟨hring, hwc, fun h0 => absurd (beq_iff_eq.2 (show smGet 0 (quarter s m).drops c + entrySize e = entrySize e by rw [h0, Nat.zero_add])) hd⟩

end Sys2Proof.Machine
end

section
/-!
SUPPORT. The record of a hit (R121 to R124, R132 to R135), and what an engine makes of the item at the head of its queue (R139, R140), and the statement on
hits settled.
-/
namespace Sys2Proof.Machine

/-! ### Fields of a record (R121) -/

theorem mkRecord_fields (ch t q f l : Nat) : recChannel (mkRecord ch t q f l) = ch % 2 ^ 24 ∧ recTime (mkRecord ch t q f l) = t % 2 ^ 20 ∧
    recCharge (mkRecord ch t q f l) = q % 256 ∧ recFlags (mkRecord ch t q f l) = f % 16 ∧ recLane (mkRecord ch t q f l) = l % 256 := by
  have h1 := Nat.mod_lt ch (show 0 < 2 ^ 24 by decide)
  have h2 := Nat.mod_lt t (show 0 < 2 ^ 20 by decide)
  have h3 := Nat.mod_lt q (show 0 < 256 by decide)
  have h4 := Nat.mod_lt f (show 0 < 16 by decide)
  have h5 := Nat.mod_lt l (show 0 < 256 by decide)
  unfold recChannel recTime recCharge recFlags recLane mkRecord
  generalize ch % 2 ^ 24 = c at *
  generalize t % 2 ^ 20 = u at *
  generalize q % 256 = p at *
  generalize f % 16 = g at *
  generalize l % 256 = m at *
  rw [dfld_ofNat (by decide) (by decide), dfld_ofNat (by decide) (by decide), dfld_ofNat (by decide) (by decide), dfld_ofNat (by decide) (by decide),
    dfld_ofNat (by decide) (by decide)]
  norm_num at *
  omega

theorem recWave_iff (w : DWord) : recWave w = decide (recFlags w / 4 % 2 = 1) := by
  have h : w = BitVec.ofNat 64 w.toNat := by rw [BitVec.ofNat_toNat, BitVec.setWidth_eq]
  have hw := w.isLt
  unfold recWave recFlags dfld
  conv_lhs => rw [h]
  rw [getLsbD_ofNat_iff (by decide)]
  refine decide_eq_decide.2 ?_
  norm_num
  omega

/-! ### Terms in range (R123, R59) -/

theorem signed_range (v : Nat) : -(2 ^ 15) ≤ signed 16 v ∧ signed 16 v < 2 ^ 15 := by
  have hv := Nat.mod_lt v (Nat.two_pow_pos 16)
  unfold signed
  norm_num at *
  split <;> omega

theorem satSigned_range (x : Int) : -(2 ^ 19) ≤ satSigned 20 x ∧ satSigned 20 x < 2 ^ 19 := by
  unfold satSigned
  norm_num
  split
  · omega
  · split <;> omega

theorem readEntry_range (g base i : Nat) (s : State) {v : Int} (h : (readEntry g base i s).1 = some v) : -(2 ^ 15) ≤ v ∧ v < 2 ^ 15 := by
  have h' : ((readTblock g (base + i / 4) 5 1 s).1).map (fun (d : DWord) => signed 16 (d.toNat / 2 ^ (16 * (i % 4)))) = some v := h
  obtain ⟨d, -, rfl⟩ := Option.map_eq_some_iff.1 h'
  exact signed_range _

/-- The three terms together are less than a course. -/
theorem hitTerms_range (x : HitItem) (q : Nat) (s : State) : -(2 ^ 20) ≤ (hitTerms x q s).1.sum ∧ (hitTerms x q s).1.sum ≤ 2 ^ 20 := by
  have ho : -(2 ^ 15) ≤ (offsetTerm x s).1.getD 0 ∧ (offsetTerm x s).1.getD 0 < 2 ^ 15 := by
    unfold offsetTerm
    split
    · split
      · cases h : (readEntry x.group 0 _ s).1 with
        | none => decide
        | some v => exact readEntry_range _ _ _ _ h
      · exact ⟨by norm_num, by norm_num⟩
    · exact ⟨by norm_num, by norm_num⟩
  have hw : -(2 ^ 15) ≤ (walkTerm x q s (offsetTerm x s).2).1.getD 0 ∧ (walkTerm x q s (offsetTerm x s).2).1.getD 0 < 2 ^ 15 := by
    unfold walkTerm
    split
    · cases h : (readEntry x.group ofsBlocks (walkAddress (offsetTerm x s).2 x.group (x.namedBt / 64) (walkRegion s x.partner x.channel) q) (offsetTerm x s).2).1 with
      | none => decide
      | some v => exact readEntry_range _ _ _ _ h
    · exact ⟨by norm_num, by norm_num⟩
  have hd : -(2 ^ 19) ≤ (delayOf x s).1 ∧ (delayOf x s).1 < 2 ^ 19 := by
    unfold delayOf
    split
    · exact satSigned_range _
    · decide
  have hs : (hitTerms x q s).1.sum = (offsetTerm x s).1.getD 0 + (walkTerm x q s (offsetTerm x s).2).1.getD 0 + (delayOf x s).1 := by
    rw [hitTerms_eq]
    rfl
  rw [hs]
  norm_num at *
  omega

/-! ### The record of an item (R123, R124) -/

/-- Flags of the record of an item. -/
def recordFlags (x : HitItem) (r : RawHit) (k : Terms) : Nat := (decide (k.cause ≠ 0)).toNat * 8 + x.wave.isSome.toNat * 4 + x.sat.toNat * 2 + r.pileup.toNat

/-- An item's record: its course and its time, which wraps at the course's bounds. -/
theorem corrected_record (x : HitItem) (r : RawHit) {k : Terms} (h : (r.raw : Int) - k.sum ≥ -(2 ^ 20)) :
    (corrected x r k).entry.samples = r.samples ∧ (recTime (corrected x r k).entry.record : Int) = ((r.raw : Int) - k.sum) % 2 ^ 20 ∧
    recChannel (corrected x r k).entry.record = (x.partner * 2 ^ 18 + x.channel) % 2 ^ 24 ∧ recCharge (corrected x r k).entry.record = r.charge % 256 ∧
    recFlags (corrected x r k).entry.record = recordFlags x r k % 16 ∧ recLane (corrected x r k).entry.record = x.lane % 256 ∧
    (((r.raw : Int) - k.sum < 0 → (corrected x r k).course = x.namedBt / 64 - 1) ∧
      (0 ≤ (r.raw : Int) - k.sum → (r.raw : Int) - k.sum < 2 ^ 20 → (corrected x r k).course = x.namedBt / 64) ∧
      ((2 : Int) ^ 20 ≤ (r.raw : Int) - k.sum → (corrected x r k).course = x.namedBt / 64 + 1)) := by
  unfold corrected
  dsimp only
  generalize (r.raw : Int) - k.sum = t at *
  have fields (u : Nat) := mkRecord_fields (x.partner * 2 ^ 18 + x.channel) u r.charge (recordFlags x r k) x.lane
  have time {u : Nat} (hu : ((u % 2 ^ 20 : Nat) : Int) = t % 2 ^ 20) :
      (recTime (mkRecord (x.partner * 2 ^ 18 + x.channel) u r.charge (recordFlags x r k) x.lane) : Int) = t % 2 ^ 20 := by rw [(fields u).2.1, hu]
  split
  · refine ⟨rfl, time ?_, (fields _).1, (fields _).2.2.1, (fields _).2.2.2.1, (fields _).2.2.2.2, fun _ => rfl, fun h0 => ?_, fun h0 => ?_⟩
    · norm_num at *; omega
    · omega
    · norm_num at *; omega
  · split
    · refine ⟨rfl, time ?_, (fields _).1, (fields _).2.2.1, (fields _).2.2.2.1, (fields _).2.2.2.2, fun h0 => ?_, fun _ h0 => ?_, fun _ => rfl⟩
      · norm_num at *; omega
      · omega
      · omega
    · refine ⟨rfl, time ?_, (fields _).1, (fields _).2.2.1, (fields _).2.2.2.1, (fields _).2.2.2.2, fun h0 => ?_, fun _ _ => rfl, fun h0 => ?_⟩
      · norm_num at *; omega
      · omega
      · omega

/-! ### An item is corrected (R124, R131 to R134, R142) -/

/-- The registers that a correction counts in. -/
abbrev hitRegs (e : Nat) : List (Reg × Nat × Nat) := [(.ashCntWave, e, 0), (.ashCntShift, e, 0), (.ashCntUncal, e, 0)] ++ termRegs

/-- A step of an engine that corrects an item. -/
structure HitStep (e : Nat) (s t : State) : Prop where
  does : Does [.regs, .flt, .port0, .port1, .groups, .sram, .mem] s t
  regs : RegsKept (hitRegs e) s t
  tells : Tells s t

theorem HitStep.refl (e : Nat) (s : State) : HitStep e s s := ⟨.refl _ _, .refl _ _, .refl _⟩

theorem HitStep.trans {e : Nat} {s t u : State} (h : HitStep e s t) (k : HitStep e t u) : HitStep e s u :=
  ⟨.step k.does rfl h.does, h.regs.trans k.regs, h.tells.trans k.tells⟩

theorem hitStep_count {s : State} (hs : TablesRise s) {e : Nat} {r : Reg} (hr : (r, e, 0) ∈ hitRegs e) (hi lo n : Nat) : HitStep e s (count r e hi lo n s) :=
  ⟨(count_does ..).widen rfl, (RegsKept.refl _ s).set hs.regs hr _, .of_flt rfl⟩

theorem HitStep.of_term {e : Nat} {s t : State} (h : TermStep s t) : HitStep e s t :=
  ⟨h.does.widen rfl, h.regs.widen (List.subset_append_right ..), h.tells⟩

/-- A step that counts waveforms. -/
structure WaveStep (e : Nat) (s t : State) : Prop where
  does : Does [.regs] s t
  regs : RegsKept [(.ashCntWave, e, 0)] s t

theorem WaveStep.trans {e : Nat} {s t u : State} (h : WaveStep e s t) (k : WaveStep e t u) : WaveStep e s u := ⟨.step k.does rfl h.does, h.regs.trans k.regs⟩

theorem waveStep_count {s : State} (hs : TablesRise s) (e hi lo n : Nat) (b : Bool) : WaveStep e s (if b then count .ashCntWave e hi lo n s else s) := by
  cases b with
  | false => exact ⟨.refl _ _, .refl _ _⟩
  | true => exact ⟨count_does .., (RegsKept.refl _ s).set hs.regs (.head _) _⟩

/-- Waveforms without a pulse, and missed leading edges, are counted. -/
def pulseCounted (e : Nat) (r : RawHit) (s : State) : State :=
  let s := if r.noPulse then count .ashCntWave e 31 16 1 s else s
  if r.missed then count .ashCntWave e 15 0 1 s else s

theorem waveStep_pulseCounted {s : State} (hs : TablesRise s) (e : Nat) (r : RawHit) : WaveStep e s (pulseCounted e r s) := by
  have h1 := waveStep_count hs e 31 16 1 r.noPulse
  exact h1.trans (waveStep_count (h1.does.tables hs) e 15 0 1 r.missed)

theorem hitStep_pulseCounted {s : State} (hs : TablesRise s) (e : Nat) (r : RawHit) : HitStep e s (pulseCounted e r s) :=
  have h := waveStep_pulseCounted hs e r
  ⟨h.does.widen rfl, h.regs.widen (List.cons_subset.2 ⟨.head _, List.nil_subset _⟩), .of_flt (h.does.only.same .flt (by decide))⟩

theorem sameTables_pulseCounted {s : State} (hs : TablesRise s) (x : HitItem) {e : Nat} (he : e < 9) (r : RawHit) : SameTables x s (pulseCounted e r s) := by
  obtain ⟨d, k⟩ := waveStep_pulseCounted hs e r
  refine ⟨d.only.same .sram (by decide), d.only.same .groups (by decide), d.only.same .partners (by decide), d.only.same .pwr (by decide), d.only.same .btr (by decide),
    d.only.same .quo (by decide), k _ _ _ fun z hz => ?_⟩
  have hp : regOff .ashPregion x.partner = regOff .ashPregion (x.partner % 64) := by simp [regOff, Reg.place]
  have ne : ∀ i < 64, ∀ j < 9, regOff .ashPregion i ≠ regOff .ashCntWave j := by decide +kernel
  cases List.mem_singleton.1 hz
  rw [hp]
  exact ne _ (Nat.mod_lt _ (by decide)) _ he

/-- Records that move to another course, and those that lack a term, are counted. -/
def shiftCounted (e : Nat) (x : HitItem) (k : Terms) (y : Corrected) (s : State) : State :=
  let s := if y.earlier then count .ashCntShift e 31 16 1 s else if y.later then count .ashCntShift e 15 0 1 s else s
  if k.cause ≠ 0 then uncalRecord e x.group k.cause s else s

theorem hitStep_uncalRecord {s : State} (hs : TablesRise s) (e g cause : Nat) : HitStep e s (uncalRecord e g cause s) := by
  have h1 : HitStep e s (count .ashCntUncal e 31 0 1 s) := hitStep_count hs (.tail _ (.tail _ (.head _))) ..
  have h2 : HitStep e s (modGroup g (fun t => { t with uncalCourse := some (nowCourse (count .ashCntUncal e 31 0 1 s)) }) (count .ashCntUncal e 31 0 1 s)) :=
    h1.trans ⟨(modGroup_does ..).widen rfl, .of_regs rfl, .of_flt rfl⟩
  have h3 (b : Bool) : HitStep e s (if b then raise Src.ashTableUncal g ([w32 g, w32 cause] ++ capCourse (nowCourse (count .ashCntUncal e 31 0 1 s)))
      (modGroup g (fun t => { t with uncalCourse := some (nowCourse (count .ashCntUncal e 31 0 1 s)) }) (count .ashCntUncal e 31 0 1 s))
      else modGroup g (fun t => { t with uncalCourse := some (nowCourse (count .ashCntUncal e 31 0 1 s)) }) (count .ashCntUncal e 31 0 1 s)) := by
    cases b with
    | false => exact h2
    | true => exact h2.trans ⟨(raise_does ..).widen rfl, .of_regs (raise_regs ..), tells_raise ..⟩
  exact h3 _

theorem hitStep_shiftCounted {s : State} (hs : TablesRise s) (e : Nat) (x : HitItem) (k : Terms) (y : Corrected) : HitStep e s (shiftCounted e x k y s) := by
  have h1 : HitStep e s (if y.earlier then count .ashCntShift e 31 16 1 s else if y.later then count .ashCntShift e 15 0 1 s else s) := by
    split
    · exact hitStep_count hs (.tail _ (.head _)) ..
    · split
      · exact hitStep_count hs (.tail _ (.head _)) ..
      · exact .refl _ _
  unfold shiftCounted
  dsimp only
  split
  · exact h1.trans (hitStep_uncalRecord (h1.does.tables hs) ..)
  · exact h1

theorem refineServed_none {e : Nat} {x : HitItem} {s : State} (hn : (rawHit (cell s .ashWaveCfg) x).noPulse = true) (hc : bit (cell s .ashWaveCfg) 13 = false) :
    refineServed e x s = pulseCounted e (rawHit (cell s .ashWaveCfg) x) s := by
  unfold refineServed
  dsimp only
  rw [if_pos (by rw [hn, hc]; rfl)]
  rfl

/-- The record of an item is formed, and the ring takes it or not. -/
theorem refineServed_forms {e : Nat} (he : e < 9) {x : HitItem} {s : State} (hs : TablesRise s) {r : RawHit} (hr : r = rawHit (cell s .ashWaveCfg) x)
    (hn : r.noPulse = false ∨ bit (cell s .ashWaveCfg) 13 = true) {y : Corrected} (hy : y = corrected x r (hitTerms x r.charge s).1) :
    ∃ u : State, HitStep e s u ∧ refineServed e x s = if ringTakes s e y.course x then
      ringWrite y.course x.group x.partner x.namedBt y.entry (lintelTap (x.group / 8) y.course y.entry.record x.lane x.arrived u) else u := by
  subst hr
  have h1 := hitStep_pulseCounted hs e (rawHit (cell s .ashWaveCfg) x)
  have hk := (sameTables_pulseCounted hs x he (rawHit (cell s .ashWaveCfg) x)).terms (rawHit (cell s .ashWaveCfg) x).charge
  let v := (hitTerms x (rawHit (cell s .ashWaveCfg) x).charge (pulseCounted e (rawHit (cell s .ashWaveCfg) x) s)).2
  have h2 : HitStep e s v := h1.trans (.of_term (termStep_hitTerms (h1.does.tables hs) ..))
  have h3 := h2.trans (hitStep_shiftCounted (h2.does.tables hs) e x (hitTerms x (rawHit (cell s .ashWaveCfg) x).charge s).1 y)
  refine ⟨_, h3, ?_⟩
  have ht : ringTakes (shiftCounted e x (hitTerms x (rawHit (cell s .ashWaveCfg) x).charge s).1 y v) e y.course x = ringTakes s e y.course x := by
    unfold ringTakes slotMigration
    rw [h3.does.only.same .ash (by decide)]
  rw [← ht, ← hk, hy, ← hk]
  unfold refineServed
  dsimp only
  rw [if_neg (by rcases hn with h | h <;> rw [h] <;> simp)]
  rfl

/-! ### The item at the head of an engine's queue -/

/-- The engine has taken the item at the head of its queue. -/
def hitTaken (e : Nat) (rest : List HitItem) (s : State) : State := modEngine e (fun y => { y with queue := rest }) s

theorem ashlarHit_reads {e : Nat} {s : State} {x : HitItem} {rest : List HitItem} (hq : (engine s e).queue = x :: rest) (hr : engineRuns s e = true)
    (hw : AsWritten 5 e s) (good : Bool) : ashlarHit e good s = if good then refineHit e x (hitTaken e rest s) else residueFailed e x (hitTaken e rest s) := by
  unfold ashlarHit
  rw [hq]
  dsimp only
  rw [if_pos hr, eccVisit_asWritten hw, if_pos hq]
  rfl

theorem ashlarHit_waits {e : Nat} {s : State} (h : (engine s e).queue = [] ∨ engineRuns s e = false) (good : Bool) : ashlarHit e good s = s := by
  unfold ashlarHit
  split
  next hq =>
    rcases h with h | h
    · exact absurd (h.symm.trans hq) nofun
    · rw [if_neg (by rw [h]; nofun)]
  next => rfl

theorem refineHit_served {e : Nat} {x : HitItem} {s : State} (hd : dpStopped s = false) (hg : groupServes s x.group = true) : refineHit e x s = refineServed e x s :=
  if_neg (by rw [hd, hg]; nofun)

theorem refineHit_unserved {e : Nat} {x : HitItem} {s : State} (h : dpStopped s = true ∨ groupServes s x.group = false) : refineHit e x s = s :=
  if_pos (by rcases h with h | h <;> rw [h] <;> simp)

theorem residueFailed_fails {s : State} (hs : TablesRise s) (hn : NamesInRange s) {e : Nat} (he : e < 9) (x : HitItem) :
    Evented .ashEngEvt e 18 s (residueFailed e x s) ∧ (residueFailed e x s).ring = s.ring ∧ (residueFailed e x s).ash = s.ash ∧
      RegsKept ([(Reg.ashEngEvt, e, 0), (Reg.ashCheckErr, e, 0)] ++ acctCells) s (residueFailed e x s) ∧
      cell (residueFailed e x s) .ashCheckErr e = incSat (cell s .ashCheckErr e) 31 0 1 ∧
      Reported Src.ashEngineErr e ([w32 e, w32 (x.group / 4), w32 x.partner] ++ cap64 x.namedBt) s (residueFailed e x s) := by
  have ne1 : ∀ j < 9, regOff .ashEngEvt j ≠ regOff .ashCheckErr j := by decide +kernel
  have ne2 : ∀ j < 9, ∀ z ∈ acctCells, regOff .ashEngEvt j ≠ regOff z.1 z.2.1 z.2.2 ∧ regOff .ashCheckErr j ≠ regOff z.1 z.2.1 z.2.2 := by decide +kernel
  let u := count .ashCheckErr e 31 0 1 s
  let v := event .ashEngEvt e 18 u
  let w := account x.partner 9 x.namedBt x.namedBt 1 v
  have hw : residueFailed e x s = raise Src.ashEngineErr e ([w32 e, w32 (x.group / 4), w32 x.partner] ++ cap64 x.namedBt) w := rfl
  have du : Does [.regs] s u := count_does ..
  have dv : Does [.regs, .port0, .port1] u v := event_does ..
  have dw : Does [.regs, .flt, .groups] v w := account_does ..
  have tu := du.tables hs
  have tv := dv.tables tu
  have hpart : v.partners = s.partners := (dv.only.same .partners (by decide)).trans (du.only.same .partners (by decide))
  obtain ⟨ka, -⟩ := account_kept tv (fun p g h => partnerGroup_lt hn (by rwa [partnerGroup_of hpart] at h)) x.partner 9 x.namedBt x.namedBt 1
  have hev : Evented .ashEngEvt e 18 s w := by
    have h0 : Evented .ashEngEvt e 18 u v := evented_event tu.regs ..
    have h1 : cell w .ashEngEvt e = cell v .ashEngEvt e := ka _ _ _ fun z hz => (ne2 e he z hz).1
    have h2 : cell u .ashEngEvt e = cell s .ashEngEvt e := cell_count_other hs.regs .ashCheckErr e 31 0 1 (ne1 e he)
    unfold Evented at h0 ⊢
    rw [h1, h0, h2]
  have hcnt : cell w .ashCheckErr e = incSat (cell s .ashCheckErr e) 31 0 1 :=
    (ka _ _ _ fun z hz => (ne2 e he z hz).2).trans ((cell_event_other tu.regs .ashEngEvt e 18 (ne1 e he).symm).trans (cell_count hs.regs ..))
  have same {z : Zone} (h1 : z ∉ [Zone.regs, .flt, .groups]) (h2 : z ∉ [Zone.regs, .port0, .port1]) (h3 : z ∉ [Zone.regs]) :
      z.same v w ∧ z.same u v ∧ z.same s u := ⟨dw.only.same z h1, dv.only.same z h2, du.only.same z h3⟩
  have hkept : RegsKept ([(Reg.ashEngEvt, e, 0), (Reg.ashCheckErr, e, 0)] ++ acctCells) s w := by
    have k1 : RegsKept ([(Reg.ashEngEvt, e, 0), (Reg.ashCheckErr, e, 0)] ++ acctCells) s v :=
      RegsKept.ev (RegsKept.set (.refl _ s) hs.regs (.tail _ (.head _)) _) tu.regs (.head _) 18
    exact k1.trans (ka.widen (List.subset_append_right ..))
  obtain ⟨r1, r2, r3⟩ := same (z := .ring) (by decide) (by decide) (by decide)
  obtain ⟨a1, a2, a3⟩ := same (z := .ash) (by decide) (by decide) (by decide)
  obtain ⟨b1, b2, b3⟩ := same (z := .btr) (by decide) (by decide) (by decide)
  rw [hw]
  exact ⟨hev.keep (raise_regs ..), r1.trans (r2.trans r3), a1.trans (a2.trans a3), hkept.keep (raise_regs ..), (cell_regs (raise_regs ..) ..).trans hcnt,
    reported_raise (b1.trans (b2.trans b3))⟩

end Sys2Proof.Machine
end

section
/-!
SUPPORT. The statement on hits that engines correct, settled.
-/
namespace Sys2Proof.Machine

/-- The registers that a hit's way to the ring can change. -/
abbrev wayRegs (e : Nat) : List (Reg × Nat × Nat) := hitRegs e ++ tapRegs

theorem ringRegs_apart {e : Nat} (he : e < 9) : (∀ z ∈ wayRegs e, regOff .crsEvt ≠ regOff z.1 z.2.1 z.2.2) ∧
    (∀ g : Nat, ∀ z ∈ wayRegs e, regOff .crsLateRec g ≠ regOff z.1 z.2.1 z.2.2) ∧ ∀ m : Nat, ∀ z ∈ wayRegs e, regOff .crsCapDrop m ≠ regOff z.1 z.2.1 z.2.2 := by
  have h : ∀ j < 9, (∀ z ∈ wayRegs j, regOff .crsEvt ≠ regOff z.1 z.2.1 z.2.2) ∧
      (∀ g < 32, ∀ z ∈ wayRegs j, regOff .crsLateRec g ≠ regOff z.1 z.2.1 z.2.2) ∧ ∀ m < 4, ∀ z ∈ wayRegs j, regOff .crsCapDrop m ≠ regOff z.1 z.2.1 z.2.2 := by decide +kernel
  obtain ⟨h1, h2, h3⟩ := h e he
  refine ⟨h1, fun g z hz => ?_, fun m z hz => ?_⟩
  · rw [regOff_crsLateRec]; exact h2 _ (Nat.mod_lt _ (by decide)) z hz
  · rw [regOff_crsCapDrop]; exact h3 _ (Nat.mod_lt _ (by decide)) z hz

/-- A state that a record reaches the ring in: what the ring's write reads is that of the state before. -/
structure AtRing (e : Nat) (s w : State) : Prop where
  tables : TablesRise w
  ring : w.ring = s.ring
  btr : w.btr = s.btr
  partners : w.partners = s.partners
  regs : RegsKept (wayRegs e) s w

theorem AtRing.quarter {e : Nat} {s w : State} (h : AtRing e s w) (m : Nat) : quarter w m = quarter s m := by unfold Machine.quarter; rw [h.ring]
theorem AtRing.bucketAt {e : Nat} {s w : State} (h : AtRing e s w) (c g b : Nat) : bucketAt w c g b = bucketAt s c g b := by unfold Machine.bucketAt; rw [h.ring]
theorem AtRing.courseEntries {e : Nat} {s w : State} (h : AtRing e s w) (m c : Nat) : courseEntries w m c = courseEntries s m c := by unfold Machine.courseEntries; rw [h.ring]
theorem AtRing.freePages {e : Nat} {s w : State} (h : AtRing e s w) (m : Nat) : freePages w m = freePages s m := by unfold Machine.freePages; rw [h.quarter]
theorem AtRing.nowCourse {e : Nat} {s w : State} (h : AtRing e s w) : nowCourse w = nowCourse s := nowCourse_btr h.btr

theorem AtRing.groups {e : Nat} {s w : State} (h : AtRing e s w) (hn : NamesInRange s) : ∀ p g, partnerGroup w p = some g → g < 32 := fun p g hg =>
  partnerGroup_lt hn (by rwa [partnerGroup_of h.partners] at hg)

theorem sameTables_hitTaken (x : HitItem) (e : Nat) (rest : List HitItem) (s : State) : SameTables x s (hitTaken e rest s) := ⟨rfl, rfl, rfl, rfl, rfl, rfl, rfl⟩

theorem ringTakes_hitTaken (s : State) (f : Nat) (rest : List HitItem) (e c : Nat) (x : HitItem) : ringTakes (hitTaken f rest s) e c x = ringTakes s e c x := rfl

/-- An item that its engine corrects: the ring takes its record, or not. -/
theorem refined_forms {e : Nat} (he : e < 9) {s : State} (hs : TablesRise s) (x : HitItem) (rest : List HitItem) {r : RawHit} (hr : r = rawHit (cell s .ashWaveCfg) x)
    {y : Corrected} (hy : y = corrected x r (hitTerms x r.charge s).1) (hn : r.noPulse = false ∨ bit (cell s .ashWaveCfg) 13 = true) :
    (ringTakes s e y.course x = true → ∃ w : State, AtRing e s w ∧
      refineServed e x (hitTaken e rest s) = ringWrite y.course x.group x.partner x.namedBt y.entry w) ∧
    (ringTakes s e y.course x = false → (refineServed e x (hitTaken e rest s)).ring = s.ring ∧ (refineServed e x (hitTaken e rest s)).lnt = s.lnt) := by
  have d0 : Does [.ash] s (hitTaken e rest s) := modEngine_does ..
  obtain ⟨u, hu, hf⟩ := refineServed_forms he (d0.tables hs) (s := hitTaken e rest s) (r := r) hr hn (y := y)
    (by rw [hy, (sameTables_hitTaken x e rest s).terms])
  rw [ringTakes_hitTaken] at hf
  refine ⟨fun h => ?_, fun h => ?_⟩
  · rw [h, if_pos rfl] at hf
    have tu := hu.does.tables (d0.tables hs)
    have dt : Does [.regs, .flt, .port0, .port1, .mem, .lnt] u (lintelTap (x.group / 8) y.course y.entry.record x.lane x.arrived u) := lintelTap_does ..
    have ht := tapStep_lintelTap tu.regs (x.group / 8) y.course y.entry.record x.lane x.arrived
    exact ⟨_, ⟨dt.tables tu, (dt.only.same .ring (by decide)).trans (hu.does.only.same .ring (by decide)), (dt.only.same .btr (by decide)).trans (hu.does.only.same .btr (by decide)),
      (dt.only.same .partners (by decide)).trans (hu.does.only.same .partners (by decide)),
      RegsKept.trans (hu.regs.widen (List.subset_append_left ..)) (ht.regs.widen (List.subset_append_right ..))⟩, hf⟩
  · rw [h, if_neg nofun] at hf
    rw [hf]
    exact ⟨hu.does.only.same .ring (by decide), hu.does.only.same .lnt (by decide)⟩

theorem hitTaken_queue {e : Nat} {s t : State} (hs : TablesRise s) {rest : List HitItem} (h : t.ash = (hitTaken e rest s).ash) : (engine t e).queue = rest := by
  rw [engine_of h]
  exact congrArg Engine.queue (engine_modEngine hs.engines e _)

/-- An item that its engine corrects has left its queue. -/
theorem ashlarHit_served {e : Fin 9} {s : State} (hu : isUp s = true) (hs : TablesRise s) {x : HitItem} {rest : List HitItem} (hq : (engine s e).queue = x :: rest)
    (hr : engineRuns s e = true) (hw : AsWritten 5 e s) (hd : dpStopped s = false) (hg : groupServes s x.group = true) :
    exec (.ashlarHit e true) s = .next (refineServed e x (hitTaken e rest s)) ∧ (engine (refineServed e x (hitTaken e rest s)) e).queue = rest := by
  refine ⟨(upNext_up hu).trans (congrArg _ ?_), hitTaken_queue hs ((refineServed_does ..).only.same .ash (by decide))⟩
  rw [ashlarHit_reads hq hr hw, if_pos rfl]
  exact refineHit_served hd hg

theorem rawHit_plain {cfg : Word} {x : HitItem} (h : x.wave = none) :
    rawHit cfg x = ⟨x.namedBt % 64 * 16384 + x.fine * 16, if x.sat then 255 else min 254 x.charge, x.pileup, [], false, false⟩ := by
  unfold rawHit
  rw [h]

theorem rawHit_wave {cfg : Word} {x : HitItem} {phase baseline : Nat} {l : List Nat} (h : x.wave = some (phase, baseline, l))
    (ha : minAmp cfg ≤ (waveTiming cfg baseline l).amplitude) : (rawHit cfg x).raw = x.namedBt % 64 * 16384 + phase * 1024 + (waveTiming cfg baseline l).crossing ∧
      (rawHit cfg x).charge = (if x.sat then 255 else min 254 (waveTiming cfg baseline l).amplitude.toNat) ∧
      (rawHit cfg x).samples = if bit cfg 13 then sampleWords 4 l else [] := by
  unfold rawHit
  rw [h]
  dsimp only
  rw [if_neg (by omega)]
  exact ⟨rfl, rfl, rfl⟩

theorem rawHit_noPulse {cfg : Word} {x : HitItem} (h : (rawHit cfg x).noPulse = true) : (rawHit cfg x).missed = false := by
  unfold rawHit at h ⊢
  split
  · rfl
  next p b l hw =>
    rw [hw] at h
    dsimp only at h ⊢
    split
    · rfl
    next hn => rw [if_neg hn] at h; cases h

/-- An item's time is no more than a course before its own. -/
theorem rawTime_range (x : HitItem) (r : RawHit) (q : Nat) (s : State) : (r.raw : Int) - (hitTerms x q s).1.sum ≥ -(2 ^ 20) := by
  have := (hitTerms_range x q s).2
  omega

theorem bucketPages_append (l : List RingEntry) {e : RingEntry} (h : e.samples = []) : bucketPages (l ++ [e]) = (entriesSize l + 8) / 8 := by
  have hs : entrySize e = 1 := by unfold entrySize; rw [h]; rfl
  unfold bucketPages
  rw [entriesSize_sum, entriesSize_sum, List.map_append, List.sum_append]
  simp only [List.map_cons, List.map_nil, List.sum_cons, List.sum_nil, hs, Nat.add_zero, Nat.add_assoc, Nat.reduceAdd]

/-- R121 to R124: the record of a hit word enters its bucket. -/
theorem ashlarHit_records {e : Fin 9} {s : State} (hu : isUp s = true) (hs : TablesRise s) {x : HitItem} {rest : List HitItem} (hq : (engine s e).queue = x :: rest)
    (hr : engineRuns s e = true) (hwv : x.wave = none) (hw : AsWritten 5 e s) {q : Nat} {terms : Terms} {tm : Int} {c : Nat} (hd : dpStopped s = false)
    (hg : groupServes s x.group = true) (hm : slotMigration s (x.group / 4) = none) (hb : ∀ k : Nat, x.boundary = some k → k ≤ c)
    (hqq : q = (if x.sat then 255 else min 254 x.charge)) (ht : terms = (hitTerms x q s).1)
    (htm : tm = ((x.namedBt % 64 * 16384 + x.fine * 16 : Nat) : Int) - terms.sum)
    (hc : tm < 0 ∧ c + 1 = x.namedBt / 64 ∨ 0 ≤ tm ∧ tm < 2 ^ 20 ∧ c = x.namedBt / 64 ∨ (2 : Int) ^ 20 ≤ tm ∧ c = x.namedBt / 64 + 1)
    (hin : (quarter s (x.group / 8)).inService = true) (hsi : (quarter s (x.group / 8)).since ≤ c) (hnow : nowCourse s ≤ c + 1)
    (hcap : courseEntries s (x.group / 8) c + 1 ≤ 24576)
    (hpg : (entriesSize (bucket s c x.group ((tm % 2 ^ 20).toNat / 16384)) + 8) / 8 ≤
      (bucketAt s c x.group ((tm % 2 ^ 20).toNat / 16384)).pages.length + freePages s (x.group / 8)) :
    ∃ (t : State) (rec_ : DWord), exec (.ashlarHit e true) s = .next t ∧ (engine t e).queue = rest ∧
      bucket t c x.group ((tm % 2 ^ 20).toNat / 16384) = bucket s c x.group ((tm % 2 ^ 20).toNat / 16384) ++ [⟨rec_, []⟩] ∧
      recTime rec_ = (tm % 2 ^ 20).toNat ∧ recChannel rec_ = (x.partner * 2 ^ 18 + x.channel) % 2 ^ 24 ∧ recCharge rec_ = q % 256 ∧
      recLane rec_ = x.lane % 256 ∧ recFlags rec_ = (decide (terms.cause ≠ 0)).toNat * 8 + x.sat.toNat * 2 + x.pileup.toNat := by
  have hraw := rawHit_plain (cfg := cell s .ashWaveCfg) hwv
  generalize hrr : rawHit (cell s .ashWaveCfg) x = r at hraw
  have hrch : r.charge = q := by rw [hraw, hqq]
  have hrraw : (r.raw : Int) - terms.sum = tm := by rw [hraw, htm]
  let y := corrected x r (hitTerms x r.charge s).1
  have hk : (hitTerms x r.charge s).1 = terms := by rw [hrch, ht]
  have hy : y = corrected x r terms := by rw [← hk]
  have hrange : (r.raw : Int) - terms.sum ≥ -(2 ^ 20) := by rw [← hk]; exact rawTime_range ..
  obtain ⟨f1, f2, f3, f4, f5, f6, f7, f8, f9⟩ := corrected_record x r hrange
  rw [← hy] at f1 f2 f3 f4 f5 f6 f7 f8 f9
  rw [hrraw] at f2 f7 f8 f9
  have hyc : y.course = c := by
    rcases hc with ⟨h1, h2⟩ | ⟨h1, h2, h3⟩ | ⟨h1, h2⟩
    · rw [f7 h1]; omega
    · rw [f8 h1 h2, h3]
    · rw [f9 h1, h2]
  have hsam : y.entry.samples = [] := by rw [f1, hraw]
  have hsize : entrySize y.entry = 1 := by unfold entrySize; rw [hsam]; rfl
  have htime : recTime y.entry.record = (tm % 2 ^ 20).toNat := by rw [← f2]; rfl
  have htakes : ringTakes s e y.course x = true := by
    unfold ringTakes
    rw [hm, hyc]
    cases hbd : x.boundary with
    | some k => exact decide_eq_true (hb k hbd)
    | none => rfl
  obtain ⟨w, aw, hf⟩ := (refined_forms e.isLt hs x rest hrr.symm (y := y) rfl (.inl (by rw [hraw]))).1 htakes
  obtain ⟨h1, h2⟩ := ashlarHit_served hu hs hq hr hw hd hg
  have hap := ringWrite_appends aw.tables (c := c) (g := x.group) (by rw [aw.quarter]; exact hin) (by rw [aw.quarter]; exact hsi) (by rw [aw.nowCourse]; exact hnow)
    x.partner x.namedBt (e := y.entry) (by rw [aw.courseEntries, hsize]; exact hcap) (by
      rw [aw.bucketAt, aw.freePages, bucketPages_append _ hsam, htime]
      exact hpg)
  rw [aw.bucketAt, htime] at hap
  refine ⟨_, y.entry.record, h1, h2, ?_, htime, f3, by rw [f4, hrch], f6, ?_⟩
  · rw [hf, hyc, hap]
    exact congrArg (_ ++ [·]) (show y.entry = ⟨y.entry.record, []⟩ by rw [← hsam])
  · rw [f5]
    unfold recordFlags
    rw [hwv, hraw]
    have h1 := Bool.toNat_le (decide (terms.cause ≠ 0))
    have h2 := Bool.toNat_le x.sat
    have h3 := Bool.toNat_le x.pileup
    show ((decide (terms.cause ≠ 0)).toNat * 8 + 0 * 4 + x.sat.toNat * 2 + x.pileup.toNat) % 16 = _
    omega

/-- R23, R132 to R135, R140, R152: what an engine and the ring make of an item. -/
theorem ashlarHit_forms {e : Fin 9} {s : State} (hu : isUp s = true) (hs : TablesRise s) (hn : NamesInRange s) {x : HitItem} {rest : List HitItem} {k : Nat} {r : RawHit}
    {y : Corrected} (hq : (engine s e).queue = x :: rest) (hr : engineRuns s e = true) (hw : AsWritten 5 e s) (hd : dpStopped s = false)
    (hg : groupServes s x.group = true) (hk : k = x.group / 8) (hraw : r = rawHit (cell s .ashWaveCfg) x) (hy : y = corrected x r (hitTerms x r.charge s).1) :
    ∃ t : State, exec (.ashlarHit e true) s = .next t ∧ (engine t e).queue = rest ∧
      (r.noPulse = true → bit (cell s .ashWaveCfg) 13 = false →
        t.ring = s.ring ∧ t.lnt = s.lnt ∧ cell t .ashCntWave e = incSat (cell s .ashCntWave e) 31 16 1) ∧
      (∀ b : Nat, x.boundary = some b → y.course < b → t.ring = s.ring ∧ t.lnt = s.lnt) ∧
      (∀ mg : Migration, x.boundary = none → slotMigration s (x.group / 4) = some mg → mg.doubled = true → mg.former = e.val → x.single = false →
        mg.boundary ≤ y.course → t.ring = s.ring ∧ t.lnt = s.lnt) ∧
      (r.noPulse = false ∨ bit (cell s .ashWaveCfg) 13 = true → ringTakes s e y.course x = true → (quarter s k).inService = true →
        (quarter s k).since ≤ y.course →
        (y.course + 1 < nowCourse s → t.ring = s.ring ∧ Evented .crsEvt 0 16 s t ∧ cell t .crsLateRec x.group = incSat (cell s .crsLateRec x.group) 31 0 1 ∧
          Reported Src.courseLateRec 0 [] s t) ∧
        (nowCourse s ≤ y.course + 1 → 24576 < courseEntries s k y.course + entrySize y.entry → t.ring.buckets = s.ring.buckets ∧
          cell t .crsCapDrop k = incSat (cell s .crsCapDrop k) 31 0 (entrySize y.entry) ∧
          (smGet 0 (quarter s k).drops y.course = 0 →
            Reported Src.crsCapDrop k (w32 k :: capCourse y.course ++ [w32 (entrySize y.entry)]) s t ∧ Evented .crsEvt 0 18 s t)) ∧
        (∀ old : Bucket, nowCourse s ≤ y.course + 1 → courseEntries s k y.course + entrySize y.entry ≤ 24576 →
          old = bucketAt s y.course x.group (recTime y.entry.record / 16384) →
          bucketPages (old.entries ++ [y.entry]) ≤ old.pages.length + freePages s k →
          bucket t y.course x.group (recTime y.entry.record / 16384) = old.entries ++ [y.entry] ∧
          ∀ (phase baseline : Nat) (l : List Nat) (w : WaveTiming), x.wave = some (phase, baseline, l) →
            w = waveTiming (cell s .ashWaveCfg) baseline l → minAmp (cell s .ashWaveCfg) ≤ w.amplitude →
            recWave y.entry.record = true ∧ recCharge y.entry.record = (if x.sat then 255 else min 254 w.amplitude.toNat) ∧
            y.entry.samples = (if bit (cell s .ashWaveCfg) 13 then sampleWords 4 l else []) ∧
            (recTime y.entry.record : Int) =
              (((x.namedBt % 64 * 16384 + phase * 1024 + w.crossing : Nat) : Int) - (hitTerms x r.charge s).1.sum) % 2 ^ 20)) := by
  subst hk
  obtain ⟨h1, h2⟩ := ashlarHit_served hu hs hq hr hw hd hg
  have d0 : Does [.ash] s (hitTaken e rest s) := modEngine_does ..
  have t0 := d0.tables hs
  have hnone (hp : r.noPulse = true) (hb : bit (cell s .ashWaveCfg) 13 = false) :
      refineServed e x (hitTaken e rest s) = pulseCounted e r (hitTaken e rest s) := by
    rw [hraw] at hp ⊢
    exact refineServed_none (s := hitTaken e rest s) hp hb
  have hwave := waveStep_pulseCounted t0 e r
  have apart (h : ringTakes s e y.course x = false) : (refineServed e x (hitTaken e rest s)).ring = s.ring ∧ (refineServed e x (hitTaken e rest s)).lnt = s.lnt := by
    by_cases hp : r.noPulse = false ∨ bit (cell s .ashWaveCfg) 13 = true
    · exact (refined_forms e.isLt hs x rest hraw hy hp).2 h
    · simp only [not_or, Bool.not_eq_false, Bool.not_eq_true] at hp
      rw [hnone hp.1 hp.2]
      exact ⟨hwave.does.only.same .ring (by decide), hwave.does.only.same .lnt (by decide)⟩
  have hregs := ringRegs_apart e.isLt
  refine ⟨_, h1, h2, fun hp hb => ?_, fun b hb hlt => apart ?_, fun mg hb hm hdb hf hsg hle => apart ?_, fun hp htk hin hsi => ?_⟩
  · rw [hnone hp hb]
    refine ⟨hwave.does.only.same .ring (by decide), hwave.does.only.same .lnt (by decide), ?_⟩
    have hmiss : r.missed = false := by rw [hraw] at hp ⊢; exact rawHit_noPulse hp
    unfold pulseCounted
    rw [hp, hmiss]
    exact cell_count t0.regs ..
  · unfold ringTakes
    rw [hb]
    exact decide_eq_false (by omega)
  · unfold ringTakes
    rw [hb, hm]
    dsimp only
    rw [hdb, hf, hsg, decide_eq_false (by omega)]
    simp
  · obtain ⟨w, aw, hf⟩ := (refined_forms e.isLt hs x rest hraw hy hp).1 htk
    rw [← aw.quarter] at hin hsi
    have hev {b : Nat} {t : State} (h : Evented .crsEvt 0 b w t) : Evented .crsEvt 0 b s t := h.before aw.regs hregs.1
    rw [hf, ← aw.nowCourse]
    refine ⟨fun hl => ?_, fun hle hcap => ?_, fun old hle hcap ho hpg => ⟨?_, fun phase baseline l wt hwv hwt hamp => ?_⟩⟩
    · obtain ⟨r1, r2, r3, r4⟩ := ringWrite_late aw.tables (aw.groups hn) hin hsi hl x.partner x.namedBt y.entry
      exact ⟨r1.trans aw.ring, hev r2, by rw [r3, aw.regs _ _ _ (hregs.2.1 _)], r4.from aw.btr⟩
    · rw [← aw.courseEntries] at hcap
      obtain ⟨r1, r2, r3⟩ := ringWrite_dropped aw.tables (aw.groups hn) hin hsi hle x.partner x.namedBt hcap
      refine ⟨r1.trans (congrArg Ring.buckets aw.ring), by rw [r2, aw.regs _ _ _ (hregs.2.2 _)], fun h0 => ?_⟩
      rw [← aw.quarter] at h0
      exact ⟨(r3 h0).1.from aw.btr, hev (r3 h0).2⟩
    · rw [← aw.courseEntries] at hcap
      rw [← aw.bucketAt] at ho
      rw [← aw.freePages] at hpg
      rw [ho] at hpg ⊢
      exact ringWrite_appends aw.tables hin hsi hle x.partner x.namedBt hcap hpg
    · obtain ⟨w1, w2, w3⟩ := rawHit_wave (cfg := cell s .ashWaveCfg) hwv (by rw [← hwt]; exact hamp)
      rw [← hraw, ← hwt] at w1 w2
      rw [← hraw] at w3
      obtain ⟨f1, f2, -, f4, f5, -⟩ := corrected_record x r (rawTime_range x r r.charge s)
      rw [← hy] at f1 f2 f4 f5
      refine ⟨?_, ?_, f1.trans w3, ?_⟩
      · rw [recWave_iff, f5]
        unfold recordFlags
        rw [hwv]
        have b1 := Bool.toNat_le (decide ((hitTerms x r.charge s).1.cause ≠ 0))
        have b2 := Bool.toNat_le x.sat
        have b3 := Bool.toNat_le r.pileup
        refine decide_eq_true ?_
        show ((decide ((hitTerms x r.charge s).1.cause ≠ 0)).toNat * 8 + 1 * 4 + x.sat.toNat * 2 + r.pileup.toNat) % 16 / 4 % 2 = 1
        omega
      · rw [f4, w2]
        split <;> omega
      · rw [f2, w1]

/-- Settles O39. -/
theorem hitsAreCorrected : Obligations.HitsAreCorrected := by
  unfold Obligations.HitsAreCorrected
  intro e s hu hs hn
  refine ⟨fun h good => (upNext_up hu).trans (congrArg _ (ashlarHit_waits h good)), fun x rest hq hr hwv hw => ⟨fun h => ?_, ?_, ?_⟩, ?_⟩
  · have ht : ashlarHit e true s = hitTaken e rest s := by
      rw [ashlarHit_reads hq hr hw, if_pos rfl]
      exact refineHit_unserved h
    exact ⟨hitTaken e rest s, (upNext_up hu).trans (congrArg _ ht), (modEngine_does ..).only, hitTaken_queue hs rfl⟩
  · have d0 : Does [.ash] s (hitTaken e rest s) := modEngine_does ..
    have hn0 : NamesInRange (hitTaken e rest s) := { hn with }
    obtain ⟨h1, h2, h3, h4, h5, h6⟩ := residueFailed_fails (d0.tables hs) hn0 e.isLt x
    have ht : ashlarHit e false s = residueFailed e x (hitTaken e rest s) := by
      rw [ashlarHit_reads hq hr hw, if_neg nofun]
    exact ⟨_, (upNext_up hu).trans (congrArg _ ht), hitTaken_queue hs h3, h1, h2, h4, h5, h6.from rfl⟩
  · intro q terms tm c hd hg hm hb hqq ht htm hc hin hsi hnow hcap hpg
    exact ashlarHit_records hu hs hq hr hwv hw hd hg hm hb hqq ht htm hc hin hsi hnow hcap hpg
  · intro x rest k r y hq hr hw hd hg hk hraw hy
    exact ashlarHit_forms hu hs hn hq hr hw hd hg hk hraw hy

end Sys2Proof.Machine
end

section
/-!
SUPPORT. Reads of the quarry: what a request delivers to its entry, and what its read leaves (R184 to R188, R213).
-/
namespace Sys2Proof.Machine

/-! ### Parts that join an entry (R213) -/

/-- What a unit has gathered once parts and index entries have joined it. -/
def Gather.joined (parts : List Part) (words : List (Nat × List DWord)) (g : Gather) : Gather :=
  { g with
    parts := g.parts ++ parts.filter (fun p => !g.parts.any (fun q => q.course == p.course && q.group == p.group))
    entries := g.entries ++ words }

theorem mem_joined {g : Gather} {parts : List Part} (words : List (Nat × List DWord)) {p : Part} (hp : p ∈ parts)
    (hn : ∀ y ∈ g.parts, ¬ (y.course = p.course ∧ y.group = p.group)) : p ∈ (g.joined parts words).parts := by
  refine List.mem_append.2 (.inr (List.mem_filter.2 ⟨hp, ?_⟩))
  rw [Bool.not_eq_true', List.any_eq_false]
  intro y hy hc
  rw [Bool.and_eq_true, beq_iff_eq, beq_iff_eq] at hc
  exact hn y hy hc

theorem joined_has {g : Gather} {parts : List Part} (words : List (Nat × List DWord)) {p : Part} (hp : p ∈ parts) :
    ∃ y ∈ (g.joined parts words).parts, y.course = p.course ∧ y.group = p.group := by
  by_cases hn : ∃ y ∈ g.parts, y.course = p.course ∧ y.group = p.group
  · obtain ⟨y, hy, h⟩ := hn
    exact ⟨y, List.mem_append.2 (.inl hy), h⟩
  · exact ⟨p, mem_joined words hp fun y hy h => hn ⟨y, hy, h⟩, rfl, rfl⟩

theorem buildGrows_tells {s : State} (hs : TablesRise s) {id u : Nat} {e : AccEntry} {g : Gather} (he : entryById s id = some e) (hg : e.gather u = some g) :
    Tells s (buildGrows id u s) := by
  rw [buildGrows_eq he hg]
  exact (Tells.of_flt ((growRecs_does id e g _ s).only.same .flt (by decide))).trans (throttled_throttle ((growRecs_does ..).tables hs)).tells

/-- An entry's unit has gathered `x`. -/
def Gathers (s : State) (id u : Nat) (e : AccEntry) (x : Gather) : Prop := entryById s id = some e ∧ e.gather u = some x

theorem Gathers.of_table {s t : State} {id u : Nat} {e : AccEntry} {x : Gather} (h : Gathers s id u e x) (k : t.mrt = s.mrt) : Gathers t id u e x :=
  ⟨(entryById_of (congrArg Mortar.table k) id).trans h.1, h.2⟩

/-- Parts of a request join what its unit gathers; nothing else but the throttle's marks moves. -/
theorem deliverParts_joins {s : State} (hs : TablesRise s) {r : QReq} {e : AccEntry} {x : Gather} (h : Gathers s r.owner r.unit e x) (parts : List Part)
    (words : List (Nat × List DWord)) : ∃ (e' : AccEntry) (x' : Gather), Gathers (deliverParts r parts words s) r.owner r.unit e' x' ∧
      x'.parts = (x.joined parts words).parts ∧ RegsKept throttleRegs s (deliverParts r parts words s) ∧ Tells s (deliverParts r parts words s) := by
  have he : entryById (modGather r.owner r.unit (Gather.joined parts words) s) r.owner = some (e.withGather r.unit (Gather.joined parts words)) :=
    entryById_modEntry h.1 fun _ => rfl
  have hg := withGather_gather h.2 (f := Gather.joined parts words) fun _ => rfl
  have d : Does [.mrt] s (modGather r.owner r.unit (Gather.joined parts words) s) := modGather_does ..
  obtain ⟨recs, hr, -⟩ := buildGrows_entry (d.tables hs) he hg
  exact ⟨_, x.joined parts words, ⟨hr, hg⟩, rfl, (RegsKept.of_regs (d.only.same .regs (by decide))).trans (buildGrows_throttled (d.tables hs) he hg),
    (Tells.of_flt (d.only.same .flt (by decide))).trans (buildGrows_tells (d.tables hs) he hg)⟩

/-! ### Requests and their pins (R186) -/

theorem pinRequest_pins (s : State) (i : Nat) (r : QReq) : ∃ p, pinRequest s i r = { r with pin := p } := by
  unfold pinRequest
  split
  · split
    · exact ⟨_, rfl⟩
    · exact ⟨r.pin, rfl⟩
  · exact ⟨r.pin, rfl⟩

/-- A request of a mortar unit. -/
def isUnitReq (r : QReq) : Bool := !r.job

theorem quarryRead_empty {s : State} (h : ∀ r ∈ s.qry.reads, r.job = true) (burst : List Nat) : quarryRead burst s = s := by
  unfold quarryRead
  dsimp only
  rw [List.find?_eq_none.2 fun r hr => by rw [h r hr]; nofun]

theorem quarryRead_broken {s : State} {r : QReq} {e : AccEntry} (h : s.qry.reads.find? isUnitReq = some r) (he : entryById s r.owner = some e)
    (hb : r.broken = true) (burst : List Nat) : quarryRead burst s = replaceRead isUnitReq none
      (deliverParts r (r.courses.map (brokenPart e.hist)) (heldEntries s [] (r.courses.filter (fun c => decide (e.hist ≤ c)))) s) := by
  unfold quarryRead
  dsimp only
  rw [show s.qry.reads.find? (fun r => !r.job) = some r from h]
  dsimp only
  rw [if_pos hb, he]
  rfl

/-- A request that is not broken, and that does not wait for its pin, reads one course. -/
theorem quarryRead_course {s : State} {r : QReq} {e : AccEntry} {c : Nat} {rest : List Nat} (h : s.qry.reads.find? isUnitReq = some r)
    (he : entryById s r.owner = some e) (hb : r.broken = false) (hc : r.courses = c :: rest) (burst : List Nat) :
    let r' := pinRequest s (s.qry.reads.findIdx isUnitReq) r
    quarryRead burst s = if s.qry.phase == .running && pinWaits s r' then s else
      match readCourse c r.partners r.groups (decide (e.hist ≤ c)) burst (requesterWord r) s with
      | some (parts, t) => replaceRead isUnitReq (restOf (deliverParts r' parts (if e.hist ≤ c then heldEntries t burst [c] else []) t) r' rest)
          (deliverParts r' parts (if e.hist ≤ c then heldEntries t burst [c] else []) t)
      | none => s := by
  intro r'
  obtain ⟨p, hp⟩ := pinRequest_pins s (s.qry.reads.findIdx isUnitReq) r
  have hp' : pinRequest s (s.qry.reads.findIdx (fun r => !r.job)) r = { r with pin := p } := hp
  unfold quarryRead
  dsimp only
  rw [show s.qry.reads.find? (fun r => !r.job) = some r from h]
  dsimp only
  rw [if_neg (by rw [hb]; nofun), he, show r' = { r with pin := p } from hp, hp']
  dsimp only
  rw [hc]
  rfl

/-- A course that can be given is delivered. -/
theorem quarryRead_delivers {s : State} (hs : TablesRise s) {r : QReq} {e : AccEntry} {x : Gather} {c : Nat} {rest : List Nat}
    (h : s.qry.reads.find? isUnitReq = some r) (hx : Gathers s r.owner r.unit e x) (hb : r.broken = false) (hc : r.courses = c :: rest) {burst : List Nat}
    (hw : s.qry.phase ≠ .running ∨ pinWaits s (pinRequest s (s.qry.reads.findIdx isUnitReq) r) = false) {parts : List Part} {t : State}
    (hr : readCourse c r.partners r.groups (decide (e.hist ≤ c)) burst (requesterWord r) s = some (parts, t)) :
    ∃ (e' : AccEntry) (x' : Gather), Gathers (quarryRead burst s) r.owner r.unit e' x' ∧
      (∀ p ∈ parts, (∀ y ∈ x.parts, ¬ (y.course = p.course ∧ y.group = p.group)) → p ∈ x'.parts) ∧
      RegsKept throttleRegs t (quarryRead burst s) ∧ Tells t (quarryRead burst s) := by
  have hq := quarryRead_course h hx.1 hb hc burst
  dsimp only at hq
  rw [hr, if_neg] at hq
  swap
  · rw [Bool.and_eq_true, beq_iff_eq]
    rintro ⟨h1, h2⟩
    rcases hw with hw | hw
    · exact hw h1
    · exact Bool.noConfusion (hw.symm.trans h2)
  obtain ⟨p, hp⟩ := pinRequest_pins s (s.qry.reads.findIdx isUnitReq) r
  rw [hp] at hq
  have dt := readCourse_does hr
  obtain ⟨e', x', k1, k2, k3, k4⟩ := deliverParts_joins (dt.tables hs) (r := { r with pin := p }) (hx.of_table (dt.only.same .mrt (by decide))) parts
    (if e.hist ≤ c then heldEntries t burst [c] else [])
  rw [hq]
  refine ⟨e', x', k1.of_table rfl, fun q hm hn => ?_, k3.trans (.of_regs rfl), k4.trans (.of_flt rfl)⟩
  rw [k2]
  exact mem_joined _ hm hn

end Sys2Proof.Machine
end

section
/-!
SUPPORT. Blocks that are read, requests that break, and pins (R184 to R188).
-/
namespace Sys2Proof.Machine

/-! ### Blocks that fail (R188, R189) -/

/-- The registers that the marking of blocks can change. -/
abbrev markRegs : List (Reg × Nat × Nat) := [(.qryDamaged, 0, 0), (.qryEvt, 0, 0)]

theorem regsKept_markDamaged {s : State} (hs : TablesRise s) (c g : Nat) : RegsKept markRegs s (markDamaged c g s) := by
  unfold markDamaged
  dsimp only
  split
  · exact .refl _ _
  · have hr (ws : List DWord) : Rises (storeEntry c ws s).regs := ((storeEntry_does ..).tables hs).regs
    exact RegsKept.set (RegsKept.ev (.of_regs ((storeEntry_does ..).only.same .regs (by decide))) (hr _) (.tail _ (.head _)) 19) (rises_event (hr _) _ _ _) (.head _) _

theorem regsKept_marks {s : State} (hs : TablesRise s) (l : List (Nat × Nat)) : RegsKept markRegs s (forL l (fun x t => markDamaged x.1 x.2 t) s) := by
  induction l generalizing s with
  | nil => exact .refl _ _
  | cons x l ih => exact (regsKept_markDamaged hs x.1 x.2).trans (ih ((markDamaged_does ..).tables hs))

theorem at_qryReadCrc : regOff .qryReadCrc ≠ regOff .qryEvt ∧ (∀ x ∈ markRegs, regOff .qryReadCrc ≠ regOff x.1 x.2.1 x.2.2) ∧
    ∀ x ∈ throttleRegs, regOff .qryReadCrc ≠ regOff x.1 x.2.1 x.2.2 := by decide +kernel

/-- A failed read is counted and raised. -/
theorem readFailed_fails {s : State} (hs : TablesRise s) (marks : List (Nat × Nat)) (c g n : Nat) (who : Word) :
    cell (readFailed marks c g n who s) .qryReadCrc = incSat (cell s .qryReadCrc) 31 0 1 ∧
      Reported Src.qryReadCrc g (w32 n :: capCourse c ++ [w32 g, who]) s (readFailed marks c g n who s) := by
  let v := raise Src.qryReadCrc g (w32 n :: capCourse c ++ [w32 g, who]) (count .qryReadCrc 0 31 0 1 (event .qryEvt 0 20 s)) (.quarryCtl (n % 4)) (who.toNat % 256) 1
  have dv : Does [.regs, .flt, .port0, .port1] s v := .step (raise_does ..) rfl (.step (count_does ..) rfl ((event_does ..).widen rfl))
  have d : Does [.regs, .port0, .port1, .hbm] v (readFailed marks c g n who s) := Does.forL (fun _ _ h => .step (markDamaged_does ..) rfl h) (.refl _ v)
  refine ⟨?_, Reported.tells (u := v) (reported_raise (event_btr ..)) (.of_flt (d.only.same .flt (by decide)))⟩
  have h := regsKept_marks (dv.tables hs) marks .qryReadCrc 0 0 at_qryReadCrc.2.1
  refine h.trans ((cell_regs (raise_regs ..) ..).trans ?_)
  exact cell_count_event hs.regs at_qryReadCrc.1

/-! ### The part of a group (R184, R185) -/

/-- The part of a group, by its descriptor. -/
theorem readBlock_part {s : State} (hs : TablesRise s) (c g : Nat) {ws : List DWord} (burst : List Nat) (who : Word) {d : DWord} (hd : d = ws.getD (6 + g) 0) :
    (dfld d 7 7 = 0 → (readBlock c g ws burst who s).1 = (if dfld d 3 0 = 0 then .quarry [] else .absent 1)) ∧
      (dfld d 7 7 = 1 → dfld d 5 5 = 1 → (readBlock c g ws burst who s).1 = .damaged) ∧
      (dfld d 7 7 = 1 → dfld d 5 5 = 0 → ∀ n : Nat, badStone s d burst = some n → (readBlock c g ws burst who s).1 = .damaged ∧
        cell (readBlock c g ws burst who s).2 .qryReadCrc = incSat (cell s .qryReadCrc) 31 0 1 ∧
        Reported Src.qryReadCrc g (w32 n :: capCourse c ++ [w32 g, who]) s (readBlock c g ws burst who s).2) ∧
      (dfld d 7 7 = 1 → dfld d 5 5 = 0 → badStone s d burst = none → ∀ l : List RingEntry, decodeBlock (blockWords s d) = some l →
        (readBlock c g ws burst who s).1 = .quarry l) := by
  subst hd
  unfold readBlock
  dsimp only
  refine ⟨fun h => ?_, fun h1 h2 => ?_, fun h1 h2 n hn => ?_, fun h1 h2 hn l hl => ?_⟩
  · rw [if_pos h]
  · rw [if_neg (by rw [h1]; decide), if_pos h2]
  · rw [if_neg (by rw [h1]; decide), if_neg (by rw [h2]; decide), hn]
    exact ⟨rfl, readFailed_fails hs _ c g n who⟩
  · rw [if_neg (by rw [h1]; decide), if_neg (by rw [h2]; decide), hn, hl]

/-- A stored course is read. -/
theorem readCourse_stored {s : State} {c p : Nat} (hr : s.qry.phase = .running) (hh : historyStart s ≤ c) (hn : s.qry.newest = some p) (hp : c ≤ p)
    (hm : c ∈ s.qry.published) (partners : BitVec 64) (held : Bool) (burst : List Nat) (who : Word) :
    (isStub (entryMet s burst c) = true → ∀ groups, readCourse c partners groups held burst who s = some ([⟨c, 32, .damaged⟩], s)) ∧
      (isStub (entryMet s burst c) = false → ∀ g, readCourse c partners [g] held burst who s =
        some ([⟨c, g, (readBlock c g (entryMet s burst c) burst who s).1⟩], (readBlock c g (entryMet s burst c) burst who s).2)) := by
  have hl : s.qry.published.contains c = true := List.contains_iff_mem.2 hm
  refine ⟨fun hst groups => ?_, fun hst g => ?_⟩
  all_goals
    unfold readCourse
    rw [hr, if_neg (by decide), if_neg (Nat.not_lt.2 hh), hn]
    dsimp only
    rw [if_neg (Nat.not_lt.2 hp), if_pos hl, hst]
    rfl

/-! ### Requests that leave the list (R187) -/

theorem replaceRead_erase {s : State} {p : QReq → Bool} {r : QReq} (h : s.qry.reads.find? p = some r) : (replaceRead p none s).qry.reads = s.qry.reads.erase r := by
  obtain ⟨hp, as, bs, he, ha⟩ := List.find?_eq_some_iff_append.1 h
  have hna : r ∉ as := fun hm => by have := ha r hm; rw [hp] at this; exact nomatch this
  have hi : s.qry.reads.findIdx? p = some as.length := by
    rw [he, List.findIdx?_append, List.findIdx?_eq_none_iff.2 (fun x hx => by simpa using ha x hx), List.findIdx?_cons, hp]
    simp
  unfold replaceRead State.modQry
  dsimp only
  rw [hi]
  dsimp only
  rw [he, List.erase_append_right _ hna, List.erase_cons_head]
  simp

/-- A broken request gives up its courses. -/
theorem quarryRead_gives {s : State} (hs : TablesRise s) {r : QReq} {e : AccEntry} {x : Gather} (h : s.qry.reads.find? isUnitReq = some r)
    (hx : Gathers s r.owner r.unit e x) (hb : r.broken = true) (burst : List Nat) :
    (quarryRead burst s).qry.reads = s.qry.reads.erase r ∧ Only (reportZones ++ [.qry, .mrt, .streams]) s (quarryRead burst s) ∧
      ∃ (e' : AccEntry) (x' : Gather), Gathers (quarryRead burst s) r.owner r.unit e' x' ∧
        ∀ c ∈ r.courses, (∃ p ∈ x'.parts, p.course = c ∧ p.group = 32) ∧
          ((∀ y ∈ x.parts, ¬ (y.course = c ∧ y.group = 32)) → ⟨c, 32, if e.hist ≤ c then .overwritten else .beforeHistory⟩ ∈ x'.parts) := by
  rw [quarryRead_broken h hx.1 hb]
  let parts := r.courses.map (brokenPart e.hist)
  let words := heldEntries s [] (r.courses.filter (fun c => decide (e.hist ≤ c)))
  let u := deliverParts r parts words s
  have du : Does [.regs, .flt, .port0, .port1, .mrt, .streams] s u := deliverParts_does ..
  have hq : u.qry = s.qry := du.only.same .qry (by decide)
  obtain ⟨e', x', k1, k2, -, -⟩ := deliverParts_joins hs hx parts words
  refine ⟨(replaceRead_erase (s := u) (by rw [hq]; exact h)).trans (by rw [hq]), ?_, e', x', k1.of_table rfl, fun c hc => ?_⟩
  · have d : Does (reportZones ++ [.qry, .mrt, .streams]) s (replaceRead isUnitReq none u) := .step (replaceRead_does ..) rfl (du.widen rfl)
    exact d.only
  · have hm : brokenPart e.hist c ∈ parts := List.mem_map_of_mem hc
    rw [k2]
    exact ⟨joined_has words hm, fun hn => mem_joined words hm hn⟩

/-! ### Pins (R186) -/

/-- Stones that a list of requests pins. -/
def pinnedSum (l : List QReq) : Nat := (l.map (·.pinned)).sum

theorem pinnedStones_eq (s : State) : pinnedStones s = pinnedSum s.qry.reads := by
  have key : ∀ (l : List QReq) (n : Nat), l.foldl (fun n r => n + r.pinned) n = n + pinnedSum l := by
    intro l
    induction l with
    | nil => exact fun n => rfl
    | cons r l ih =>
      intro n
      rw [List.foldl_cons, ih, pinnedSum, pinnedSum, List.map_cons, List.sum_cons, Nat.add_assoc]
  rw [pinnedStones, key, Nat.zero_add]

/-- A request that pins stays within the limit. -/
theorem pinRequest_limit (s : State) (i : Nat) (r : QReq) : pinRequest s i r = r ∨ pinnedStones s - r.pinned + (pinRequest s i r).pinned ≤ 1048576 := by
  unfold pinRequest
  split
  · split
    next h =>
      rw [Bool.and_eq_true, decide_eq_true_eq] at h
      exact .inr h.2
    · exact .inl rfl
  · exact .inl rfl

theorem pinAt_limit {s : State} {i : Nat} (h : pinnedStones s ≤ 1048576) : pinnedStones (pinAt i s) ≤ 1048576 := by
  rw [pinnedStones_eq, show (pinAt i s).qry.reads = s.qry.reads.modify i (pinRequest s i) from rfl]
  by_cases hi : i < s.qry.reads.length
  · have hsplit := List.take_append_drop i s.qry.reads
    have hd := List.drop_eq_getElem_cons hi
    have hm : s.qry.reads.modify i (pinRequest s i) = s.qry.reads.take i ++ pinRequest s i s.qry.reads[i] :: s.qry.reads.drop (i + 1) := List.modify_eq_take_cons_drop hi
    have hsum (x : QReq) : pinnedSum (s.qry.reads.take i ++ x :: s.qry.reads.drop (i + 1)) = pinnedSum (s.qry.reads.take i) + (x.pinned + pinnedSum (s.qry.reads.drop (i + 1))) := by
      simp [pinnedSum]
    have hold := hsum s.qry.reads[i]
    rw [← hd, hsplit, ← pinnedStones_eq] at hold
    rw [hm, hsum]
    rcases pinRequest_limit s i s.qry.reads[i] with hk | hk
    · rw [hk]; omega
    · omega
  · rw [List.modify_eq_self (Nat.le_of_not_lt hi), ← pinnedStones_eq]
    exact h

/-- The first request that waits for pin space pins where the limit allows. -/
theorem pinSpaceFreed_pins (s : State) : (∀ i : Nat, s.qry.reads.findIdx? (pinWaits s) = some i → (pinSpaceFreed s).qry.reads = s.qry.reads.modify i (pinRequest s i)) ∧
    (s.qry.reads.findIdx? (pinWaits s) = none → pinSpaceFreed s = s) ∧ (pinnedStones s ≤ 1048576 → pinnedStones (pinSpaceFreed s) ≤ 1048576) := by
  unfold pinSpaceFreed
  refine ⟨fun i h => by rw [h]; rfl, fun h => by rw [h], fun h => ?_⟩
  split
  · exact pinAt_limit h
  · exact h

end Sys2Proof.Machine
end

section
/-!
SUPPORT. The host's window onto HBM (R196, R334).
-/
namespace Sys2Proof.Machine

/-! ### Reads -/

/-- The registers that a read of the window can change by what it meets. -/
abbrev seenRegs : List (Reg × Nat × Nat) := [(.qryHwinAddr, 0, 0), (.qryHwinStat, 0, 0)]

theorem regsKept_windowSeen {s : State} (hs : TablesRise s) (g : Nat) : RegsKept seenRegs s (windowSeen g s) := by
  unfold windowSeen
  dsimp only
  split
  · exact (RegsKept.refl _ s).ev hs.regs (.tail _ (.head _)) 18
  · split
    · exact .refl _ s
    · split
      · exact (RegsKept.refl _ s).ev hs.regs (.tail _ (.head _)) 16
      · exact ((RegsKept.refl _ s).set hs.regs (.head _) _).ev ((setCell_does ..).tables hs).regs (.tail _ (.head _)) 16

theorem regsKept_windowSeens {s : State} (hs : TablesRise s) (l : List Nat) : RegsKept seenRegs s (forL l windowSeen s) := by
  induction l generalizing s with
  | nil => exact .refl _ s
  | cons g l ih => exact (regsKept_windowSeen hs g).trans (ih ((windowSeen_does ..).tables hs))

/-- A read of the window meets an uncorrectable burst: it is counted and raised. -/
def windowErr (p : Nat) (e : Nat × HbmLoc) (t : State) : State := hbmUncorrectable (32 * e.1) e.2 (1 + p) 1 (count .memHbmCnt 0 31 16 1 t)

theorem windowErr_does (p : Nat) (e : Nat × HbmLoc) (s : State) : Does [.regs, .flt, .port0, .port1] s (windowErr p e s) :=
  .step (hbmUncorrectable_does ..) rfl ((count_does ..).widen rfl)

/-- The registers that uncorrectable bursts change. -/
abbrev burstRegs : List (Reg × Nat × Nat) := [(.memEvt, 0, 0), (.memHbmCnt, 0, 0)]

theorem windowErr_tells {s : State} (hs : TablesRise s) (p : Nat) (e : Nat × HbmLoc) : RegsKept burstRegs s (windowErr p e s) ∧ Tells s (windowErr p e s) ∧
    Reported Src.memHbmUncorr (qaStack (32 * e.1)) (locCapture (32 * e.1) e.2 ++ cap64 (32 * e.1)) s (windowErr p e s) := by
  have hc := (count_does .memHbmCnt 0 31 16 1 s).tables hs
  obtain ⟨h1, -, h3, h4⟩ := hbmUncorrectable_tells hc (32 * e.1) e.2 (1 + p) 1
  exact ⟨((RegsKept.refl _ s).set hs.regs (.tail _ (.head _)) _).trans (h1.widen (List.cons_subset.2 ⟨.head _, List.nil_subset _⟩)),
    (Tells.of_flt ((count_does ..).only.same .flt (by decide))).trans (u := windowErr p e s) h4, h3.from rfl⟩

theorem windowErrs_tell {s u : State} (hs : TablesRise u) (hb : u.btr = s.btr) (p : Nat) (l : List (Nat × HbmLoc)) : RegsKept burstRegs u (forL l (windowErr p) u) ∧
    Tells u (forL l (windowErr p) u) ∧
      ∀ e ∈ l, Reported Src.memHbmUncorr (qaStack (32 * e.1)) (locCapture (32 * e.1) e.2 ++ cap64 (32 * e.1)) s (forL l (windowErr p) u) := by
  induction l generalizing u with
  | nil => exact ⟨.refl _ _, .refl _, nofun⟩
  | cons e l ih =>
    obtain ⟨h1, h2, h3⟩ := windowErr_tells hs p e
    have d := windowErr_does p e u
    obtain ⟨k1, k2, k3⟩ := ih (d.tables hs) ((d.only.same .btr (by decide)).trans hb)
    refine ⟨h1.trans k1, h2.trans k2, fun x hx => ?_⟩
    cases hx with
    | head => exact (h3.from hb).tells k2
    | tail _ hx => exact k3 x hx

/-- The uncorrectable bursts that a read of the window meets. -/
def windowHits (s : State) (a n : Nat) (errs : List (Nat × HbmLoc)) : List (Nat × HbmLoc) :=
  errs.filter (fun e => decide (a / 32 ≤ e.1) && decide (e.1 < (a + n + 31) / 32) && qaReachable s (32 * e.1) && smGet false s.hbm.written (e.1 / 128))

theorem mem_windowHits {s : State} {a n i : Nat} {errs : List (Nat × HbmLoc)} {e : Nat × HbmLoc} (he : e ∈ errs) (hi : i < n) (h : e.1 = (a + i) / 32)
    (hr : qaReachable s (32 * e.1) = true) (hw : smGet false s.hbm.written ((a + i) / 4096) = true) : e ∈ windowHits s a n errs := by
  have h128 : e.1 / 128 = (a + i) / 4096 := by rw [h, Nat.div_div_eq_div_mul]
  refine List.mem_filter.2 ⟨he, ?_⟩
  rw [Bool.and_eq_true, Bool.and_eq_true, Bool.and_eq_true, decide_eq_true_eq, decide_eq_true_eq, h128]
  exact ⟨⟨⟨by omega, by omega⟩, hr⟩, hw⟩

/-- The bytes that a read of the window returns. -/
def windowBytes (s : State) (a n : Nat) (errs : List (Nat × HbmLoc)) : List Byte :=
  (List.range n).map (fun i => if (windowHits s a n errs).any (fun e => e.1 == (a + i) / 32) then 0xFF else windowByte s (a + i))

theorem windowBytes_getD {s : State} {a n i : Nat} (hi : i < n) (errs : List (Nat × HbmLoc)) :
    (windowBytes s a n errs).getD i 0 = if (windowHits s a n errs).any (fun e => e.1 == (a + i) / 32) then 0xFF else windowByte s (a + i) := by
  unfold windowBytes
  rw [List.getD_eq_getElem?_getD, List.getElem?_map, List.getElem?_range hi]
  rfl

theorem windowBytes_clean {s : State} {a n i : Nat} (hi : i < n) {errs : List (Nat × HbmLoc)} (h : ∀ e ∈ errs, e.1 ≠ (a + i) / 32) :
    (windowBytes s a n errs).getD i 0 = windowByte s (a + i) := by
  rw [windowBytes_getD hi, if_neg]
  rw [List.any_eq_true]
  rintro ⟨e, he, hc⟩
  exact h e (List.mem_filter.1 he).1 (eq_of_beq hc)

theorem windowBytes_burst {s : State} {a n i : Nat} (hi : i < n) {errs : List (Nat × HbmLoc)} {e : Nat × HbmLoc} (he : e ∈ windowHits s a n errs)
    (h : e.1 = (a + i) / 32) : (windowBytes s a n errs).getD i 0 = 0xFF := by
  have ha : (windowHits s a n errs).any (fun e => e.1 == (a + i) / 32) = true := List.any_eq_true.2 ⟨e, he, beq_iff_eq.2 h⟩
  rw [windowBytes_getD hi, if_pos ha]

theorem windowRead_eq (p o n : Nat) (errs : List (Nat × HbmLoc)) (s : State) : windowRead p o n errs s =
    (forL (windowHits s (windowQa s p o) n errs) (windowErr p) (forL (granulesOf (windowQa s p o) n) windowSeen s)).modPort p
      fun h => { h with windowData := windowBytes s (windowQa s p o) n errs } := rfl

/-- A read of the window: its zones, its registers, its bytes and its reports. -/
theorem windowRead_reads {s : State} (hs : TablesRise s) (p : Fin 2) (o n : Nat) (errs : List (Nat × HbmLoc)) : Only reportZones s (windowRead p o n errs s) ∧
    RegsKept [(.qryHwinAddr, 0, 0), (.qryHwinStat, 0, 0), (.memEvt, 0, 0), (.memHbmCnt, 0, 0)] s (windowRead p o n errs s) ∧
    (hostPort (windowRead p o n errs s) p).windowData = windowBytes s (windowQa s p o) n errs ∧
    ∀ e ∈ windowHits s (windowQa s p o) n errs,
      Reported Src.memHbmUncorr (qaStack (32 * e.1)) (locCapture (32 * e.1) e.2 ++ cap64 (32 * e.1)) s (windowRead p o n errs s) := by
  let u := forL (granulesOf (windowQa s p o) n) windowSeen s
  let v := forL (windowHits s (windowQa s p o) n errs) (windowErr p) u
  have du : Does [.regs, .port0, .port1] s u := Does.forL (fun _ _ h => .step (windowSeen_does ..) rfl h) (.refl _ _)
  have dv : Does [.regs, .flt, .port0, .port1] u v := Does.forL (fun _ _ h => .step (windowErr_does ..) rfl h) (.refl _ _)
  have dm := State.modPort_does p (fun h => { h with windowData := windowBytes s (windowQa s p o) n errs }) v fun _ h => h
  have d : Does reportZones s (windowRead p o n errs s) :=
    .step (L := reportZones) dm (by decide) (.step (L := reportZones) dv (by decide) (du.widen (by decide)))
  obtain ⟨h1, -, h3⟩ := windowErrs_tell (s := s) (du.tables hs) (du.only.same .btr (by decide)) p (windowHits s (windowQa s p o) n errs)
  refine ⟨d.only, ?_, ?_, fun e he => (h3 e he).keep ?_⟩
  · have k1 : RegsKept [(.qryHwinAddr, 0, 0), (.qryHwinStat, 0, 0), (.memEvt, 0, 0), (.memHbmCnt, 0, 0)] s u := (regsKept_windowSeens hs _).widen (by simp)
    have k2 : RegsKept [(.qryHwinAddr, 0, 0), (.qryHwinStat, 0, 0), (.memEvt, 0, 0), (.memHbmCnt, 0, 0)] u v := h1.widen (by simp)
    exact (k1.trans k2).keep (dm.only.same .regs (by decide))
  · exact congrArg HostPort.windowData (hostPort_modPort p _ v)
  · exact dm.only.same .flt (by decide)

/-! ### Writes -/

theorem mem_enabledBytes {l : List (Option Byte)} {a : Nat} {e : Nat × Byte} (h : e ∈ enabledBytes a l) : a ≤ e.1 ∧ e.1 < a + l.length := by
  induction l generalizing a with
  | nil => cases h
  | cons x l ih =>
    rw [List.length_cons]
    cases x with
    | none =>
      obtain ⟨h1, h2⟩ := ih h
      omega
    | some b =>
      cases h with
      | head => exact ⟨Nat.le_refl _, by omega⟩
      | tail _ h =>
        obtain ⟨h1, h2⟩ := ih h
        omega

/-- One byte of a window write is stored. -/
def byteStored (e : Nat × Byte) (t : State) : State := t.hbmStore e.1 [e.2]

theorem hbmByte_byteStored {s : State} (hm : MemoryWf s) (e : Nat × Byte) (q : Nat) :
    hbmByte (byteStored e s).hbm.bytes q = if q = e.1 then e.2 else hbmByte s.hbm.bytes q := by
  unfold byteStored
  rw [hbmByte_hbmStore hm (List.cons_ne_nil e.2 [])]
  by_cases h : q = e.1
  · rw [if_pos h, if_pos ⟨by omega, by rw [List.length_singleton]; omega⟩, h, Nat.sub_self]
    rfl
  · rw [if_neg h, if_neg (by rw [List.length_singleton]; omega)]

theorem byteStored_does (e : Nat × Byte) (s : State) : Does [.hbm] s (byteStored e s) := State.hbmStore_does ..

/-- The bytes that the enables let through are stored, and no others. -/
theorem bytesStored (l : List (Option Byte)) {s : State} (hm : MemoryWf s) (a : Nat) :
    (∀ (i : Nat) (b : Byte), l[i]? = some (some b) → hbmByte (forL (enabledBytes a l) byteStored s).hbm.bytes (a + i) = b) ∧
      ∀ x : Nat, (∀ (i : Nat) (b : Byte), l[i]? = some (some b) → x ≠ a + i) →
        hbmByte (forL (enabledBytes a l) byteStored s).hbm.bytes x = hbmByte s.hbm.bytes x := by
  induction l generalizing s a with
  | nil => exact ⟨nofun, fun _ _ => rfl⟩
  | cons y l ih =>
    have hlater (u : State) (x : Nat) (h : ∀ (i : Nat) (b : Byte), (y :: l)[i]? = some (some b) → x ≠ a + i) (i : Nat) (b : Byte)
        (hb : l[i]? = some (some b)) : x ≠ a + 1 + i := by
      have := h (i + 1) b hb
      omega
    cases y with
    | none =>
      obtain ⟨h1, h2⟩ := ih hm (a + 1)
      refine ⟨fun i b hb => ?_, fun x hx => h2 x (hlater s x hx)⟩
      cases i with
      | zero => cases hb
      | succ i => rw [show a + (i + 1) = a + 1 + i by omega]; exact h1 i b hb
    | some c =>
      have h0 := hbmByte_byteStored hm (a, c)
      obtain ⟨h1, h2⟩ := ih ((byteStored_does (a, c) s).mem hm) (a + 1)
      refine ⟨fun i b hb => ?_, fun x hx => ?_⟩
      · cases i with
        | zero =>
          cases hb
          exact (h2 a fun i b _ => by omega).trans ((h0 a).trans (if_pos rfl))
        | succ i => rw [show a + (i + 1) = a + 1 + i by omega]; exact h1 i b hb
      · have hx0 : x ≠ a := by
          have := hx 0 c rfl
          omega
        exact (h2 x (hlater s x hx)).trans ((h0 x).trans (if_neg hx0))

theorem div_of_span {a n x : Nat} (h : a / 4096 = (a + n - 1) / 4096) (hx : a ≤ x ∧ x < a + n) : x / 4096 = a / 4096 := by omega

/-- A write within one granule has one part. -/
theorem windowWrite_eq {s : State} {p o : Nat} {data : List (Option Byte)} {a : Nat} (ha : a = windowQa s p o)
    (hg : a / 4096 = (a + data.length - 1) / 4096) :
    windowWrite p o data s = windowWritePart p (a / 4096) (enabledBytes a data) (max a (4096 * (a / 4096))) s := by
  have hf : (enabledBytes a data).filter (fun e => e.1 / 4096 == a / 4096) = enabledBytes a data :=
    List.filter_eq_self.2 fun e he => beq_iff_eq.2 (div_of_span hg (mem_enabledBytes he))
  have h1 : granulesOf a data.length = [a / 4096] := by
    unfold granulesOf
    rw [← hg, Nat.add_sub_cancel_left]
    rfl
  unfold windowWrite
  dsimp only
  rw [← ha, h1, forL_cons, hf]
  rfl

/-- The part of a window write in a granule, by where the granule lies. -/
theorem windowWritePart_writes {s : State} (hs : TablesRise s) (p g a : Nat) (data : List (Option Byte)) (first : Nat) :
    (qaReachable s (4096 * g) = false → windowWritePart p g (enabledBytes a data) first s = event .qryHwinStat 0 18 s) ∧
    (qaReachable s (4096 * g) = true → windowWritable (4096 * g) = true → windowWritePart p g (enabledBytes a data) first s =
      (forL (enabledBytes a data) byteStored s).modQry fun q => { q with refusedRun := q.refusedRun.filter (· ≠ p) }) ∧
    (qaReachable s (4096 * g) = true → windowWritable (4096 * g) = false →
      RegsKept [(.qryHwinStat, 0, 0)] s (windowWritePart p g (enabledBytes a data) first s) ∧
      (windowWritePart p g (enabledBytes a data) first s).hbm = s.hbm ∧ Evented .qryHwinStat 0 17 s (windowWritePart p g (enabledBytes a data) first s) ∧
      p ∈ (windowWritePart p g (enabledBytes a data) first s).qry.refusedRun ∧
      (p ∉ s.qry.refusedRun → Reported Src.qryHwinRefused p (w32 p :: cap64 first) s (windowWritePart p g (enabledBytes a data) first s))) := by
  refine ⟨fun h => ?_, fun h1 h2 => ?_, fun h1 h2 => ?_⟩
  · unfold windowWritePart
    rw [h]
    rfl
  · unfold windowWritePart
    rw [h1, h2]
    rfl
  · unfold windowWritePart
    rw [h1, h2]
    dsimp only
    rw [if_neg nofun, if_neg nofun]
    have hk : RegsKept [(.qryHwinStat, 0, 0)] s (event .qryHwinStat 0 17 s) := regsKept_ev hs.regs _ _ _
    have he := evented_event hs.regs .qryHwinStat 0 17
    have hq : (event .qryHwinStat 0 17 s).qry = s.qry := (event_does ..).only.same .qry (by decide)
    have hb : (event .qryHwinStat 0 17 s).hbm = s.hbm := (event_does ..).only.same .hbm (by decide)
    by_cases hc : p ∈ s.qry.refusedRun
    · have hc' : (event .qryHwinStat 0 17 s).qry.refusedRun.contains p = true := by rw [hq]; exact List.contains_iff_mem.2 hc
      rw [if_pos hc']
      exact ⟨hk, hb, he, by rw [hq]; exact hc, fun h => absurd hc h⟩
    · have hc' : ¬ (event .qryHwinStat 0 17 s).qry.refusedRun.contains p = true := by rw [hq]; exact fun h => hc (List.contains_iff_mem.1 h)
      rw [if_neg hc']
      exact ⟨hk.keep (raise_regs ..), hb, he.keep (raise_regs ..), .head _, fun _ => reported_raise (event_btr ..)⟩

end Sys2Proof.Machine
end

section
/-!
SUPPORT. The statement on reads of the quarry and of the host window, settled.
-/
namespace Sys2Proof.Machine

/-- A course that a running quarry can give, of a request that does not wait. -/
theorem quarryRead_running {s : State} (hu : isUp s = true) (hs : TablesRise s) {r : QReq} {e : AccEntry} {x : Gather} {c : Nat} {rest : List Nat}
    (h : s.qry.reads.find? isUnitReq = some r) (hx : Gathers s r.owner r.unit e x) (hb : r.broken = false) (hc : r.courses = c :: rest) {burst : List Nat}
    (hw : s.qry.phase ≠ .running ∨ pinWaits s (pinRequest s (s.qry.reads.findIdx isUnitReq) r) = false) {p : Part} {t : State} (hp : p.course = c)
    (hr : readCourse c r.partners r.groups (decide (e.hist ≤ c)) burst (requesterWord r) s = some ([p], t))
    (hn : ∀ y ∈ x.parts, ¬ (y.course = c ∧ y.group = p.group)) :
    ∃ (e' : AccEntry) (x' : Gather), exec (.quarryRead burst) s = .next (quarryRead burst s) ∧ entryById (quarryRead burst s) r.owner = some e' ∧
      e'.gather r.unit = some x' ∧ p ∈ x'.parts ∧ RegsKept throttleRegs t (quarryRead burst s) ∧ Tells t (quarryRead burst s) := by
  obtain ⟨e', x', ⟨k1, k2⟩, k3, k4, k5⟩ := quarryRead_delivers hs h hx hb hc hw hr
  exact ⟨e', x', upNext_up hu, k1, k2, k3 p (.head _) (by rw [hp]; exact hn), k4, k5⟩

/-- A course that is asked of a quarry out of service, or that lies before the history. -/
theorem readCourse_unheld {s : State} (c : Nat) (partners : BitVec 64) (groups : List Nat) (held : Bool) (burst : List Nat) (who : Word) :
    (s.qry.phase ≠ .running → readCourse c partners groups held burst who s = some ([⟨c, 32, .absent 2⟩], s)) ∧
      (s.qry.phase = .running → c < historyStart s →
        readCourse c partners groups held burst who s = some ([⟨c, 32, if held then .overwritten else .beforeHistory⟩], s)) ∧
      (s.qry.phase = .running → historyStart s ≤ c → ∀ p, s.qry.newest = some p → p < c → readCourse c partners groups held burst who s = none) := by
  unfold readCourse
  refine ⟨fun h => ?_, fun h hc => ?_, fun h hc p hn hp => ?_⟩
  · rw [if_pos (by simpa using h)]
  · rw [h, if_neg (by decide), if_pos hc]
  · rw [h, if_neg (by decide), if_neg (Nat.not_lt.2 hc), hn]
    exact if_pos hp

/-- Settles O43. -/
theorem quarryIsRead : Obligations.QuarryIsRead := by
  unfold Obligations.QuarryIsRead
  refine ⟨fun burst s hu hs => ⟨fun h => ?_, fun r e x hf he hg => ?_, ?_⟩, fun p off s hu hs hm hl => ⟨fun n errs a hn ha => ?_, fun data a hn ha hg => ?_⟩⟩
  · exact (upNext_up hu).trans (congrArg _ (quarryRead_empty h burst))
  · have hx : Gathers s r.owner r.unit e x := ⟨he, hg⟩
    refine ⟨fun hb => ?_, fun c rest hb hc hr hw => ?_, fun c rest hb hc hr hn => ?_, fun c rest hb hw hc hr => ⟨fun p hh hp hlt => ?_, fun hh hn => ?_,
      fun p g d hh hp hle hm hgr hn hd hst => ?_, fun p hh hp hle hm hn hst => ?_⟩⟩
    · obtain ⟨h1, h2, e', x', ⟨h3, h4⟩, h5⟩ := quarryRead_gives hs hf hx hb burst
      exact ⟨_, upNext_up hu, h2, h1, e', x', h3, h4, h5⟩
    · refine (upNext_up hu).trans (congrArg _ ((quarryRead_course hf he hb hc burst).trans (if_pos ?_)))
      rw [Bool.and_eq_true, beq_iff_eq]
      exact ⟨hr, hw⟩
    · obtain ⟨e', x', k1, k2, k3, k4, -⟩ := quarryRead_running hu hs hf hx hb hc (burst := burst) (.inl hr) rfl
        ((readCourse_unheld c _ _ _ burst _).1 hr) hn
      exact ⟨_, e', x', k1, k2, k3, k4⟩
    · have hq := quarryRead_course hf he hb hc burst
      dsimp only at hq
      rw [(readCourse_unheld c _ _ _ burst _).2.2 hr hh p hp hlt] at hq
      exact (upNext_up hu).trans (congrArg _ (hq.trans (ite_self _)))
    · obtain ⟨e', x', k1, k2, k3, k4, -⟩ := quarryRead_running hu hs hf hx hb hc (burst := burst) (.inr hw) rfl
        ((readCourse_unheld c _ _ _ burst _).2.1 hr hh) hn
      simp only [decide_eq_true_eq] at k4
      exact ⟨_, k1, e', x', k2, k3, k4⟩
    · obtain ⟨-, hst'⟩ := readCourse_stored hr hh hp hle hm r.partners (decide (e.hist ≤ c)) burst (requesterWord r)
      obtain ⟨e', x', k1, k2, k3, k4, k5, k6⟩ := quarryRead_running hu hs hf hx hb hc (burst := burst) (.inr hw) rfl
        (by rw [hgr]; exact hst' hst g) hn
      obtain ⟨p1, p2, p3, p4⟩ := readBlock_part hs c g burst (requesterWord r) hd
      refine ⟨_, e', x', _, k1, k2, k3, k4, p1, p2, fun h1 h2 n hbad => ?_, p4⟩
      obtain ⟨q1, q2, q3⟩ := p3 h1 h2 n hbad
      exact ⟨q1, (k5 .qryReadCrc 0 0 at_qryReadCrc.2.2).trans q2, q3.tells k6⟩
    · obtain ⟨hst', -⟩ := readCourse_stored hr hh hp hle hm r.partners (decide (e.hist ≤ c)) burst (requesterWord r)
      obtain ⟨e', x', k1, k2, k3, k4, -⟩ := quarryRead_running hu hs hf hx hb hc (burst := burst) (.inr hw) rfl (hst' hst r.groups) hn
      exact ⟨_, e', x', k1, k2, k3, k4⟩
  · exact ⟨_, upNext_up hu, (pinSpaceFreed_does s).only, pinSpaceFreed_pins s⟩
  · subst ha
    have hx : exec (.hostWindowRead p off n errs) s = .next (windowRead p off.toNat n errs s) := (upNext_up hu).trans (congrArg _ (if_pos hl))
    obtain ⟨h1, h2, h3, h4⟩ := windowRead_reads hs p off.toNat n errs
    refine ⟨_, hx, h1, h2, ?_, fun i hi => ?_⟩
    · rw [h3, windowBytes, List.length_map, List.length_range]
    rw [h3]
    generalize windowQa s p off.toNat = a at *
    refine ⟨fun hr => ?_, fun hr hw he => ?_, fun hr hlt hw => ⟨fun he => ?_, fun e he hea hre => ?_⟩⟩
    · rw [windowBytes_getD hi, windowByte, hr]
      split <;> rfl
    · rw [windowBytes_clean hi he, windowByte, hr, if_neg (by decide), if_pos (hw.imp id fun h => by rw [h]; rfl)]
    · rw [windowBytes_clean hi he, windowByte, hr, if_neg (by decide), if_neg]
      rintro (h | h)
      · exact Nat.not_lt.2 h hlt
      · rw [hw] at h; exact nomatch h
    · have hin := mem_windowHits he hi hea hre hw
      exact ⟨windowBytes_burst hi hin hea, h4 e hin⟩
  · have hx : exec (.hostWindowWrite p off data) s = .next (windowWrite p off.toNat data s) := (upNext_up hu).trans (congrArg _ (if_pos hl))
    have hw := windowWrite_eq (data := data) ha hg
    obtain ⟨h1, h2, h3⟩ := windowWritePart_writes hs p (a / 4096) a data (max a (4096 * (a / 4096)))
    have d := windowWritePart_does p (a / 4096) (enabledBytes a data) (max a (4096 * (a / 4096))) s
    have d' : Does (reportZones ++ [.qry, .hbm]) s (windowWritePart p (a / 4096) (enabledBytes a data) (max a (4096 * (a / 4096))) s) := d.widen rfl
    rw [hw] at hx
    refine ⟨_, hx, d'.only, ?_, fun hr hv => ?_, fun hr => ?_, fun hr hv => ?_⟩
    · cases hr : qaReachable s (4096 * (a / 4096)) with
      | false => rw [h1 hr]; exact regsKept_ev hs.regs _ _ _
      | true =>
        cases hv : windowWritable (4096 * (a / 4096)) with
        | false => exact (h3 hr hv).1
        | true =>
          rw [h2 hr hv]
          have ds : Does [.hbm] s (forL (enabledBytes a data) byteStored s) := Does.forL (fun _ _ h => .step (byteStored_does ..) rfl h) (.refl _ _)
          exact .of_regs (ds.only.same .regs (by decide))
    · rw [h2 hr hv]
      obtain ⟨k1, k2⟩ := bytesStored data hm a
      refine ⟨k1, k2, fun h => ?_⟩
      exact of_decide_eq_true (List.mem_filter.1 h).2 rfl
    · rw [h1 hr]
      exact ⟨(event_does ..).only.same .hbm (by decide), (event_does ..).only.same .qry (by decide), evented_event hs.regs ..⟩
    · obtain ⟨-, k2, k3, k4, k5⟩ := h3 hr hv
      exact ⟨k2, k3, k4, k5⟩

end Sys2Proof.Machine
end

section
/-!
SUPPORT. Counters that a clear bit sets to 0 (R89, R119, R143, R170, R199, R231, R254, R320, R340).
-/
namespace Sys2Proof.Machine

/-- Register entries set to 0, one after the other. -/
def clearAll (l : List (Reg × Nat)) (s : State) : State := forL l (fun x => setCell x.1 x.2 0 0) s

theorem clearAll_append (l m : List (Reg × Nat)) (s : State) : clearAll (l ++ m) s = clearAll m (clearAll l s) := List.foldl_append ..

theorem clearRegs_eq (r : Reg) (n : Nat) (s : State) : clearRegs r n s = clearAll ((List.range n).map fun i => (r, i)) s :=
  (List.foldl_map (f := fun i => (r, i)) (g := fun (t : State) (x : Reg × Nat) => setCell x.1 x.2 0 0 t)).symm

theorem clears_eq (l : List Reg) (i : Nat) (s : State) : forL l (fun r => setCell r i 0 0) s = clearAll (l.map fun r => (r, i)) s :=
  (List.foldl_map (f := fun r => (r, i)) (g := fun (t : State) (x : Reg × Nat) => setCell x.1 x.2 0 0 t)).symm

/-- Entries that the register map has. -/
def AllExist (l : List (Reg × Nat)) : Prop := ∀ x ∈ l, regExists x.1 x.2 0 = true

/-- After a clear its entries are 0 and all others as they were. -/
theorem clearAll_clears {l : List (Reg × Nat)} (he : AllExist l) {s : State} (hs : Rises s.regs) : Rises (clearAll l s).regs ∧ (∀ x ∈ l, cell (clearAll l s) x.1 x.2 = 0) ∧
    ∀ (r : Reg) (i j : Nat), (∀ x ∈ l, regOff r i j ≠ regOff x.1 x.2) → cell (clearAll l s) r i j = cell s r i j := by
  induction l generalizing s with
  | nil => exact ⟨hs, nofun, fun _ _ _ _ => rfl⟩
  | cons x l ih =>
    have he' : AllExist l := fun y hy => he y (.tail _ hy)
    obtain ⟨h1, h2, h3⟩ := ih he' (s := setCell x.1 x.2 0 0 s) (rises_setCell hs ..)
    refine ⟨h1, fun y hy => ?_, fun r i j hn => ?_⟩
    · by_cases hm : y ∈ l
      · exact h2 y hm
      obtain rfl : y = x := (List.mem_cons.1 hy).resolve_right hm
      refine (h3 _ _ _ fun z hz => regOff_ne (he y (.head _)) (he' z hz) ?_).trans (cell_setCell hs ..)
      intro e
      injection e with e1 e2
      injection e2 with e2 _
      exact hm ((Prod.ext e1 e2 : y = z) ▸ hz)
    · exact (h3 r i j fun z hz => hn z (.tail _ hz)).trans (cell_setCell_other hs _ (hn x (.head _)))

theorem clearAll_regs_only (l : List (Reg × Nat)) (s : State) : Does [.regs] s (clearAll l s) := Does.forL (fun _ _ h => .step (setCell_does ..) rfl h) (.refl _ _)

/-- A clear of entries of which those of `m` are some. -/
theorem clearAll_sub {l m : List (Reg × Nat)} (he : AllExist l) (hm : ∀ x ∈ m, x ∈ l) {s : State} (hs : Rises s.regs) : ∀ x ∈ m, cell (clearAll l s) x.1 x.2 = 0 :=
  fun x hx => (clearAll_clears he hs).2.1 x (hm x hx)

/-! ### Clears of the blocks as lists -/

/-- The first `n` entries of a register. -/
abbrev entriesOf (r : Reg) (n : Nat) : List (Reg × Nat) := (List.range n).map fun i => (r, i)

/-- What `memClear` sets to 0. -/
abbrev memZeros : List (Reg × Nat) := entriesOf .memCntCorr 11 ++ entriesOf .memCntUncorr 11 ++ [Reg.memRestoreCnt, .memHbmCnt, .memScrubStat].map fun r => (r, 0)

theorem memClear_eq (s : State) : memClear s = clearAll memZeros s := by
  unfold memClear
  dsimp only
  rw [clearRegs_eq, clearRegs_eq, clears_eq, clearAll_append, clearAll_append]

/-- What `grpClear` sets to 0. -/
abbrev grpZeros (g : Nat) : List (Reg × Nat) := (List.range 8).flatMap fun j => [(.bedLaneErr, 8 * g + j), (.bedLaneCnt, 8 * g + j)]

theorem grpClear_eq (g : Nat) (s : State) : grpClear g s = clearAll (grpZeros g) s := by
  unfold grpClear clearAll forL forN
  rw [List.foldl_flatMap]
  rfl

/-- What `crsClear` sets to 0. -/
abbrev crsZeros : List (Reg × Nat) := entriesOf .crsCapDrop 4 ++ entriesOf .crsOosDrop 4 ++ entriesOf .crsMemErr 4 ++ entriesOf .crsLateRec 32 ++ [(.crsEarlyRel, 0)]

theorem crsClear_eq (s : State) : crsClear s = forN 4 (fun m => modCell .crsFree m 0 (fun w => setFld w 31 16 (fld w 15 0))) (clearAll crsZeros s) := by
  unfold crsClear crsZeros
  rw [clearRegs_eq, clearRegs_eq, clearRegs_eq, clearRegs_eq, clearAll_append, clearAll_append, clearAll_append, clearAll_append]
  generalize clearAll _ (clearAll _ (clearAll _ (clearAll _ s))) = u
  rfl

/-- What `mrtClear` sets to 0. -/
abbrev mrtZeros : List (Reg × Nat) :=
  [Reg.mrtCntAccept, .mrtCntRecall, .mrtCntLost, .mrtCntRefused, .mrtCntGap, .mrtCntDisc, .mrtCntIgnored].map (fun r => (r, 0)) ++
    entriesOf .mrtUnitCnt 4 ++ entriesOf .mrtUnitTrunc 4 ++ entriesOf .mrtUnitLatepath 4 ++ entriesOf .mrtUnitCellerr 4 ++ entriesOf .mrtStreamLate 48

theorem mrtClear_eq (s : State) : mrtClear s = setCell .mrtPoolStat 0 0 (mkFld 31 16 (freeCells (clearAll mrtZeros s))) (clearAll mrtZeros s) := by
  have h (u : State) : forL [Reg.mrtUnitCnt, .mrtUnitTrunc, .mrtUnitLatepath, .mrtUnitCellerr] (fun r => clearRegs r 4) u =
      clearAll (entriesOf .mrtUnitCellerr 4) (clearAll (entriesOf .mrtUnitLatepath 4) (clearAll (entriesOf .mrtUnitTrunc 4) (clearAll (entriesOf .mrtUnitCnt 4) u))) := by
    rw [← clearRegs_eq, ← clearRegs_eq, ← clearRegs_eq, ← clearRegs_eq]
    rfl
  unfold mrtClear mrtZeros
  dsimp only
  rw [clears_eq, h, clearRegs_eq, clearAll_append, clearAll_append, clearAll_append, clearAll_append, clearAll_append]

/-- What `qryClear` sets to 0. -/
abbrev qryZeros : List (Reg × Nat) := [Reg.qryPinBreaks, .qryDamaged, .qryReadCrc].map fun r => (r, 0)

theorem zeros_exist : AllExist crsZeros ∧ AllExist mrtZeros ∧ AllExist (entriesOf .btrOutvotes 3) ∧ AllExist memZeros ∧
    AllExist ([Reg.lntCntAdmit, .lntCntOver, .lntCntLateTap, .lntCntSat, .lntCntSkip, .lntCntFrames].map fun r => (r, 0)) ∧ AllExist qryZeros := by
  unfold AllExist
  decide +kernel

theorem zeros_exist_at : (∀ g : Fin 32, AllExist (grpZeros g)) ∧
    (∀ e : Fin 9, AllExist ([Reg.ashInDrop, .ashCntUncal, .ashCntShift, .ashStraggle, .ashCntWave, .ashCheckErr].map fun r => (r, e.val))) ∧
    (∀ m : Fin 4, AllExist ([Reg.molOverrun, .molMismatch, .molNoshrink, .molBigSlot, .molBlocks].map fun r => (r, m.val))) ∧
    ∀ p : Fin 64, AllExist ([Reg.bedPcntFrame, .bedPcntCap, .bedPcntSpan].map fun r => (r, p.val)) := by
  unfold AllExist
  decide +kernel

/-! ### The ring, the quarry, the collector (R170, R199, R320) -/

theorem crsClear_clears {s : State} (hs : Rises s.regs) : (∀ x ∈ crsZeros, cell (crsClear s) x.1 x.2 = 0) ∧
    ∀ k < 4, cell (crsClear s) .crsFree k = setFld (cell s .crsFree k) 31 16 (fld (cell s .crsFree k) 15 0) := by
  have ne : (∀ k < 4, ∀ x ∈ crsZeros, regOff .crsFree k ≠ regOff x.1 x.2) ∧ ∀ k < 4, regExists .crsFree k 0 = true := by decide +kernel
  obtain ⟨h1, h2, h3⟩ := clearAll_clears zeros_exist.1 hs
  obtain ⟨-, k2, k3⟩ := forN_modCell (r := .crsFree) (f := fun _ w => setFld w 31 16 (fld w 15 0)) h1 4 ne.2
  rw [crsClear_eq]
  refine ⟨fun x hx => (k3 _ _ _ fun i hi => (ne.1 i hi x hx).symm).trans (h2 x hx), fun k hk => (k2 k hk).trans ?_⟩
  rw [h3 .crsFree k 0 (ne.1 k hk)]

theorem qryClear_clears {s : State} (hs : Rises s.regs) : (∀ x ∈ qryZeros, cell (qryClear s) x.1 x.2 = 0) ∧
    cell (qryClear s) .qryDepthMin = w32 (qryDepth s) ∧ (qryClear s).qry.minCleared = true := by
  have ne : ∀ x ∈ qryZeros, regOff x.1 x.2 ≠ regOff .qryDepthMin := by decide +kernel
  obtain ⟨h1, h2, -⟩ := clearAll_clears zeros_exist.2.2.2.2.2 hs
  let u := clearAll qryZeros s
  have hr : (qryClear s).regs = (setCell .qryDepthMin 0 0 (w32 (qryDepth u)) u).regs := rfl
  have hd : qryDepth u = qryDepth s := by
    unfold qryDepth historyStart
    rw [show u.qry = s.qry from (clearAll_regs_only ..).only.same .qry (by decide)]
  refine ⟨fun x hx => ?_, ?_, rfl⟩
  · exact (cell_regs hr ..).trans ((cell_setCell_other h1 _ (ne x hx)).trans (h2 x hx))
  · rw [cell_regs hr, cell_setCell h1, hd]

/-- What a clear leaves of a source. -/
def SrcState.cleared (x : SrcState) : SrcState := { x with recovered := 0, conseq := 0 }

theorem fltClear_clears {s : State} (hs : TablesRise s) : cell (fltClear s) .fltLogLost = 0 ∧ (∀ n, srcState (fltClear s) n = (srcState s n).cleared) := by
  refine ⟨(cell_regs (s := setCell .fltLogLost 0 0 0 s) rfl ..).trans (cell_setCell hs.regs ..), fun n => ?_⟩
  have hm : Rises (s.flt.srcs.map fun e => (e.1, e.2.cleared)) := rises_map (fun _ => rfl) hs.srcs
  have h : (fltClear s).flt.srcs = (s.flt.srcs.map fun e => (e.1, e.2.cleared)).filter (fun e => decide (e.2 ≠ .reset)) := rfl
  unfold srcState smGet
  have hf : smFind (s.flt.srcs.map fun e => (e.1, e.2.cleared)) n = (smFind s.flt.srcs n).map SrcState.cleared := smFind_map_val (fun e : Nat × SrcState => e.2.cleared) s.flt.srcs n
  rw [h, smFind_filter hm, hf]
  cases smFind s.flt.srcs n with
  | none => rfl
  | some x =>
    show ((some x.cleared).filter fun v => decide (v ≠ .reset)).getD .reset = x.cleared
    by_cases hx : x.cleared = .reset
    · rw [hx]; rfl
    · rw [Option.filter_some, if_pos (decide_eq_true hx)]; rfl

/-! ### Partners (R119, R120) -/

/-- The counters of a partner are cleared. -/
def partnerClear (p : Nat) (t : State) : State :=
  modPartner p (fun x => { x with history := 0, offences := 0 })
    (clearFld .bedPevt p 20 16 (forL [Reg.bedPcntFrame, .bedPcntCap, .bedPcntSpan] (fun r => setCell r p 0 0) t))

theorem partnersClear_eq (g : Nat) (s : State) : partnersClear g s = forN 8 (fun k => partnerClear (8 * g + k)) s := rfl

theorem partnerClear_does (p : Nat) (s : State) : Does [.regs, .partners] s (partnerClear p s) :=
  .step (modPartner_does ..) rfl (.step (modCell_does ..) rfl (by rw [clears_eq]; exact (clearAll_regs_only ..).widen rfl))

/-- The counters of a partner. -/
abbrev partnerZeros (p : Nat) : List (Reg × Nat) := [Reg.bedPcntFrame, .bedPcntCap, .bedPcntSpan].map fun r => (r, p)

theorem partnerClear_clears {s : State} (hs : TablesRise s) (p : Fin 64) :
    (∀ x ∈ partnerZeros p, cell (partnerClear p s) x.1 x.2 = 0) ∧ cell (partnerClear p s) .bedPevt p = setFld (cell s .bedPevt p) 20 16 0 ∧
      partner (partnerClear p s) p = { partner s p with history := 0, offences := 0 } ∧ (∀ q, q ≠ p.val → partner (partnerClear p s) q = partner s q) ∧
      RegsKept ((.bedPevt, p.val, 0) :: (partnerZeros p).map fun x => (x.1, x.2, 0)) s (partnerClear p s) := by
  have ne : ∀ p : Fin 64, ∀ x ∈ partnerZeros p, regOff x.1 x.2 ≠ regOff .bedPevt p := by decide +kernel
  let u := clearAll (partnerZeros p) s
  have du : Does [.regs] s u := clearAll_regs_only ..
  obtain ⟨h1, h2, h3⟩ := clearAll_clears (zeros_exist_at.2.2.2 p) hs.regs
  have hr : (partnerClear p s).regs = (clearFld .bedPevt p 20 16 u).regs := by unfold partnerClear; rw [clears_eq]; rfl
  have hp : (partnerClear p s).partners = (modPartner p (fun x => { x with history := 0, offences := 0 }) s).partners := by
    have hv : (clearFld .bedPevt p 20 16 u).partners = s.partners := du.only.same .partners (by decide)
    unfold partnerClear
    rw [clears_eq]
    exact congrArg (smUpd .reset · p.val fun x => { x with history := 0, offences := 0 }) hv
  refine ⟨fun x hx => ?_, ?_, ?_, fun q hq => ?_, fun r i j hn => ?_⟩
  · exact (cell_regs hr ..).trans ((cell_setCell_other h1 _ (ne p x hx)).trans (h2 x hx))
  · rw [cell_regs hr, clearFld, modCell, cell_setCell h1, h3 _ _ _ fun x hx => (ne p x hx).symm]
  · exact (partner_of hp p).trans (partner_modPartner hs.partners ..)
  · exact (partner_of hp q).trans (partner_modPartner_other hs.partners hq _)
  · refine (cell_regs hr ..).trans ((cell_setCell_other h1 _ (hn _ (.head _))).trans (h3 r i j fun x hx => ?_))
    exact hn (x.1, x.2, 0) (.tail _ (List.mem_map.2 ⟨x, hx, rfl⟩))

/-- Of the partners from `8 g` on, the first `n` have been cleared. -/
structure FirstCleared (g n : Nat) (s t : State) : Prop where
  does : Does [.regs, .partners] s t
  done : ∀ k < n, (∀ x ∈ partnerZeros (8 * g + k), cell t x.1 x.2 = 0) ∧ cell t .bedPevt (8 * g + k) = setFld (cell s .bedPevt (8 * g + k)) 20 16 0 ∧
    partner t (8 * g + k) = { partner s (8 * g + k) with history := 0, offences := 0 }
  todo : ∀ k, n ≤ k → k < 8 → cell t .bedPevt (8 * g + k) = cell s .bedPevt (8 * g + k) ∧ partner t (8 * g + k) = partner s (8 * g + k)

theorem partnerRegs_apart : ∀ p q : Fin 64, p ≠ q → (∀ x ∈ (.bedPevt, p.val) :: partnerZeros p, ∀ y ∈ (.bedPevt, q.val) :: partnerZeros q, regOff x.1 x.2 ≠ regOff y.1 y.2) := by
  have he : ∀ p : Fin 64, ∀ x ∈ (.bedPevt, p.val) :: partnerZeros p, regExists x.1 x.2 0 = true ∧ x.2 = p.val := by decide +kernel
  intro p q hn x hx y hy
  obtain ⟨h1, h2⟩ := he p x hx
  obtain ⟨k1, k2⟩ := he q y hy
  refine regOff_ne h1 k1 fun e => hn (Fin.ext ?_)
  injection e with _ e
  injection e with e _
  exact h2.symm.trans (e.trans k2)

theorem FirstCleared.next {g n : Nat} (hg : g < 8) (hn : n < 8) {s t : State} (hs : TablesRise s) (h : FirstCleared g n s t) :
    FirstCleared g (n + 1) s (partnerClear (8 * g + n) t) := by
  let p : Fin 64 := ⟨8 * g + n, by omega⟩
  obtain ⟨k1, k2, k3, k4, k5⟩ := partnerClear_clears (h.does.tables hs) p
  have apart (k : Nat) (hk : k < 8) (hkn : k ≠ n) : ∀ x ∈ (Reg.bedPevt, 8 * g + k) :: partnerZeros (8 * g + k), cell (partnerClear (8 * g + n) t) x.1 x.2 = cell t x.1 x.2 := by
    intro x hx
    have hne := partnerRegs_apart ⟨8 * g + k, by omega⟩ p (fun e => hkn (by have := congrArg Fin.val e; dsimp only [p] at this; omega)) x hx
    refine k5 x.1 x.2 0 fun y hy => ?_
    cases hy with
    | head => exact hne _ (.head _)
    | tail _ hy =>
      obtain ⟨z, hz, rfl⟩ := List.mem_map.1 hy
      exact hne z (.tail _ hz)
  refine ⟨.step (partnerClear_does ..) rfl h.does, fun k hk => ?_, fun k hk hk8 => ?_⟩
  · by_cases e : k = n
    · subst e
      obtain ⟨t1, t2⟩ := h.todo k (Nat.le_refl _) hn
      exact ⟨k1, k2.trans (by rw [t1]), k3.trans (by rw [t2])⟩
    · obtain ⟨d1, d2, d3⟩ := h.done k (by omega)
      have ha := apart k (by omega) e
      exact ⟨fun x hx => (ha x (.tail _ hx)).trans (d1 x hx), (ha _ (.head _)).trans d2, (k4 _ (by dsimp only [p]; omega)).trans d3⟩
  · obtain ⟨t1, t2⟩ := h.todo k (by omega) hk8
    exact ⟨(apart k hk8 (by omega) _ (.head _)).trans t1, (k4 _ (by dsimp only [p]; omega)).trans t2⟩

theorem partnersClear_clears {g : Nat} (hg : g < 8) {s : State} (hs : TablesRise s) : FirstCleared g 8 s (partnersClear g s) := by
  have key : ∀ n ≤ 8, FirstCleared g n s (forN n (fun k => partnerClear (8 * g + k)) s) := by
    intro n
    induction n with
    | zero => exact fun _ => ⟨.refl _ _, fun _ h => absurd h (Nat.not_lt_zero _), fun _ _ _ => ⟨rfl, rfl⟩⟩
    | succ n ih =>
      intro h
      rw [forN_succ]
      exact (ih (by omega)).next hg (by omega) hs
  exact key 8 (Nat.le_refl _)

end Sys2Proof.Machine
end

section
/-!
SUPPORT. The statement on sequence-number clears and counter clears, settled.
-/
namespace Sys2Proof.Machine

/-- What a clear bit of a register leaves: the counters of its block are 0. -/
def ClearsBlock (r : Reg) (i : Nat) (s t : State) : Prop :=
  (∀ x ∈ clearedBy r i, cell t x.1 x.2 = 0) ∧
    (r = .bedPclr → ∀ k : Nat, 8 * i ≤ k → k < 8 * i + 8 → cell t .bedPevt k = setFld (cell s .bedPevt k) 20 16 0 ∧
      partner t k = { partner s k with history := 0, offences := 0 }) ∧
    (r = .fltCtl → ∀ n : Nat, srcState t n = { srcState s n with recovered := 0, conseq := 0 }) ∧
    (r = .crsCtl → ∀ k < 4, cell t .crsFree k = setFld (cell s .crsFree k) 31 16 (fld (cell s .crsFree k) 15 0)) ∧
    (r = .qryCtl → cell t .qryDepthMin = w32 (qryDepth s) ∧ t.qry.minCleared = true) ∧
    (r = .mrtAccCtl → fld (cell t .mrtPoolStat) 31 16 = freeCells s % 65536)

/-- A block whose clear sets entries to 0 and does nothing else of note. -/
theorem clearsBlock_of_zeros {r : Reg} {i : Nat} {s t : State} (h : ∀ x ∈ clearedBy r i, cell t x.1 x.2 = 0)
    (hr : r ≠ .bedPclr ∧ r ≠ .fltCtl ∧ r ≠ .crsCtl ∧ r ≠ .qryCtl ∧ r ≠ .mrtAccCtl) : ClearsBlock r i s t :=
  ⟨h, fun e => absurd e hr.1, fun e => absurd e hr.2.1, fun e => absurd e hr.2.2.1, fun e => absurd e hr.2.2.2.1, fun e => absurd e hr.2.2.2.2⟩

/-- The registers that have a clear bit. -/
abbrev clearRegisters : List (Reg × Nat) :=
  [(.btrCtl, 31), (.crsCtl, 31), (.qryCtl, 31), (.memCtl, 31), (.lntCtl, 31), (.fltCtl, 31), (.bedGrpCtl, 0), (.bedPclr, 0), (.ashEngCtl, 0), (.molCtl, 0), (.mrtAccCtl, 2)]

set_option maxRecDepth 20000 in
theorem mem_clearRegisters {r : Reg} {b : Nat} (h : clearBit r = some b) : (r, b) ∈ clearRegisters := by
  revert h
  cases r <;> intro h <;> cases h <;> decide

theorem clearRegisters_plain : ∀ x ∈ clearRegisters, regMask x.1 .sqc = 0 ∧ regMask x.1 .once = 0 ∧ regMask x.1 .cb = 0 ∧ regMask x.1 .lk = 0 ∧ ownHome x.1 = false := by
  decide +kernel

/-- A register under whose clear bit the fields are stored and the clear done. -/
theorem writeReg_clears {r : Reg} {b : Nat} (h : (r, b) ∈ clearRegisters) (hf : r ≠ .fltCtl) (p i : Nat) (w : Word) (s : State) :
    ∃ v, writeReg p r i 0 w s = writeEffect p r i 0 (cell s r i) w (setCell r i 0 v s) := by
  obtain ⟨h1, h2, h3, h4, h5⟩ := clearRegisters_plain _ h
  exact ⟨_, writeReg_plain ⟨h1, h2, h3, h4⟩ h5 hf⟩

/-! ### The blocks -/

section
variable {p i : Nat} {w : Word} {s : State} (hs : TablesRise s)
include hs

theorem btrCtl_clears (hw : bit w 31 = true) : ClearsBlock .btrCtl i s (writeReg p .btrCtl i 0 w s) := by
  obtain ⟨v, h⟩ := writeReg_clears (b := 31) (r := .btrCtl) (by decide) nofun p i w s
  have he : writeReg p .btrCtl i 0 w s = clearAll (entriesOf .btrOutvotes 3) (setCell .btrCtl i 0 v s) := h.trans ((if_pos hw).trans (clearRegs_eq ..))
  rw [he]
  exact clearsBlock_of_zeros (clearAll_clears zeros_exist.2.2.1 (rises_setCell hs.regs ..)).2.1 (by decide)

theorem memCtl_clears (hw : bit w 31 = true) : ClearsBlock .memCtl i s (writeReg p .memCtl i 0 w s) := by
  obtain ⟨v, h⟩ := writeReg_clears (b := 31) (r := .memCtl) (by decide) nofun p i w s
  have he : writeReg p .memCtl i 0 w s = clearAll memZeros (setCell .memCtl i 0 v s) := h.trans ((if_pos hw).trans (memClear_eq ..))
  have hm : ∀ x ∈ clearedBy .memCtl 0, x ∈ memZeros := by decide
  rw [he]
  exact clearsBlock_of_zeros (clearAll_sub zeros_exist.2.2.2.1 hm (rises_setCell hs.regs ..)) (by decide)

theorem lntCtl_clears (hw : bit w 31 = true) : ClearsBlock .lntCtl i s (writeReg p .lntCtl i 0 w s) := by
  obtain ⟨v, h⟩ := writeReg_clears (b := 31) (r := .lntCtl) (by decide) nofun p i w s
  have he : writeReg p .lntCtl i 0 w s = lntClear (setCell .lntCtl i 0 v s) := h.trans (if_pos hw)
  rw [he, lntClear, clears_eq]
  exact clearsBlock_of_zeros (clearAll_clears zeros_exist.2.2.2.2.1 (rises_setCell hs.regs ..)).2.1 (by decide)

theorem bedGrpCtl_clears (hi : i < 32) (hw : bit w 0 = true) : ClearsBlock .bedGrpCtl i s (writeReg p .bedGrpCtl i 0 w s) := by
  obtain ⟨v, h⟩ := writeReg_clears (b := 0) (r := .bedGrpCtl) (by decide) nofun p i w s
  have he : writeReg p .bedGrpCtl i 0 w s = clearAll (grpZeros i) (setCell .bedGrpCtl i 0 v s) := h.trans ((if_pos hw).trans (grpClear_eq ..))
  rw [he]
  exact clearsBlock_of_zeros (clearAll_clears (zeros_exist_at.1 ⟨i, hi⟩) (rises_setCell hs.regs ..)).2.1 (by decide)

theorem ashEngCtl_clears (hi : i < 9) (hw : bit w 0 = true) : ClearsBlock .ashEngCtl i s (writeReg p .ashEngCtl i 0 w s) := by
  obtain ⟨v, h⟩ := writeReg_clears (b := 0) (r := .ashEngCtl) (by decide) nofun p i w s
  have he : writeReg p .ashEngCtl i 0 w s = engClear i (setCell .ashEngCtl i 0 v s) := h.trans (if_pos hw)
  rw [he, engClear, clears_eq]
  exact clearsBlock_of_zeros (clearAll_clears (zeros_exist_at.2.1 ⟨i, hi⟩) (rises_setCell hs.regs ..)).2.1 (by decide)

theorem molCtl_clears (hi : i < 4) (hw : bit w 0 = true) : ClearsBlock .molCtl i s (writeReg p .molCtl i 0 w s) := by
  obtain ⟨v, h⟩ := writeReg_clears (b := 0) (r := .molCtl) (by decide) nofun p i w s
  have he : writeReg p .molCtl i 0 w s = molClear i (setCell .molCtl i 0 v s) := h.trans (if_pos hw)
  rw [he, molClear, clears_eq]
  exact clearsBlock_of_zeros (clearAll_clears (zeros_exist_at.2.2.1 ⟨i, hi⟩) (rises_setCell hs.regs ..)).2.1 (by decide)

theorem crsCtl_clears (hw : bit w 31 = true) : ClearsBlock .crsCtl 0 s (writeReg p .crsCtl 0 0 w s) := by
  have ne : ∀ k < 4, regOff .crsFree k ≠ regOff .crsCtl := by decide +kernel
  have hm : ∀ x ∈ clearedBy .crsCtl 0, x ∈ crsZeros := by decide
  obtain ⟨v, h⟩ := writeReg_clears (b := 31) (r := .crsCtl) (by decide) nofun p 0 w s
  have he : writeReg p .crsCtl 0 0 w s = crsClear (setCell .crsCtl 0 0 v s) := h.trans (if_pos hw)
  obtain ⟨k1, k2⟩ := crsClear_clears (s := setCell .crsCtl 0 0 v s) (rises_setCell hs.regs ..)
  rw [he]
  refine ⟨fun x hx => k1 x (hm x hx), nofun, nofun, fun _ k hk => (k2 k hk).trans ?_, nofun, nofun⟩
  rw [cell_setCell_other hs.regs _ (ne k hk)]

theorem qryCtl_clears (hw : bit w 31 = true) : ClearsBlock .qryCtl 0 s (writeReg p .qryCtl 0 0 w s) := by
  obtain ⟨v, h⟩ := writeReg_clears (b := 31) (r := .qryCtl) (by decide) nofun p 0 w s
  have he : writeReg p .qryCtl 0 0 w s = qryClear (setCell .qryCtl 0 0 v s) := h.trans (if_pos hw)
  obtain ⟨k1, k2, k3⟩ := qryClear_clears (s := setCell .qryCtl 0 0 v s) (rises_setCell hs.regs ..)
  rw [he]
  exact ⟨k1, nofun, nofun, nofun, fun _ => ⟨k2, k3⟩, nofun⟩

theorem bedPclr_clears (hi : i < 8) (hw : bit w 0 = true) : ClearsBlock .bedPclr i s (writeReg p .bedPclr i 0 w s) := by
  have ne : ∀ g : Fin 8, ∀ k : Fin 64, regOff .bedPevt k ≠ regOff .bedPclr g := by decide +kernel
  obtain ⟨v, h⟩ := writeReg_clears (b := 0) (r := .bedPclr) (by decide) nofun p i w s
  have he : writeReg p .bedPclr i 0 w s = partnersClear i (setCell .bedPclr i 0 v s) := h.trans (if_pos hw)
  have hc := partnersClear_clears hi ((setCell_does .bedPclr i 0 v s).tables hs)
  rw [he]
  refine ⟨fun x hx => ?_, fun _ k h1 h2 => ?_, nofun, nofun, nofun, nofun⟩
  · obtain ⟨k, hk, hx⟩ := List.mem_flatMap.1 hx
    exact (hc.done k (List.mem_range.1 hk)).1 x hx
  · obtain ⟨-, d2, d3⟩ := hc.done (k - 8 * i) (by omega)
    rw [Nat.add_sub_cancel' h1] at d2 d3
    refine ⟨d2.trans ?_, d3⟩
    rw [cell_setCell_other hs.regs _ (ne ⟨i, hi⟩ ⟨k, by omega⟩)]

end

/-! ### The collector and the mortar -/

theorem writeReg_fltCtl (p i : Nat) (w : Word) (s : State) : ∃ v, writeReg p .fltCtl i 0 w s = writeEffect p .fltCtl i 0 (cell s .fltCtl i) w (setCell .fltCtl i 0 v s) := by
  unfold writeReg
  rw [if_neg (by decide), if_neg (by decide), if_neg (by decide), if_neg (by decide)]
  have h : ¬ (regMask .fltCtl .lk ≠ 0 ∧ lockSet s .fltCtl i = true) := fun h => absurd h.1 (by decide)
  dsimp only
  rw [if_neg h, if_neg h, if_neg h, if_pos rfl, if_neg (by decide)]
  exact ⟨_, rfl⟩

theorem lockBitWrite_keeps {s : State} (hs : TablesRise s) (p off : Nat) (w : Word) (b : Bool) :
    let t := lockBitWrite p off 24 w b (fun t => t.modBtr fun b => { b with cfgLock := b.cfgLock.move 1 }) s
    RegsKept [(.hstEvt, 0, 0)] s t ∧ t.flt.srcs = s.flt.srcs := by
  unfold lockBitWrite
  dsimp only
  split
  · exact ⟨.of_regs rfl, rfl⟩
  · split
    · exact ⟨RegsKept.keep (u := event .hstEvt 0 22 s) (regsKept_ev hs.regs _ _ _) (raise_regs ..),
        congrArg (fun x => x.srcs) (event_flt .hstEvt 0 22 s)⟩
    · exact ⟨.refl _ _, rfl⟩

theorem fltCtl_clears {p : Nat} {w : Word} {s : State} (hs : TablesRise s) (hw : bit w 31 = true) : ClearsBlock .fltCtl 0 s (writeReg p .fltCtl 0 0 w s) := by
  have ne : regOff .fltLogLost ≠ regOff .hstEvt := by decide +kernel
  obtain ⟨v, h⟩ := writeReg_fltCtl p 0 w s
  let u := setCell .fltCtl 0 0 v s
  have hu : TablesRise u := (setCell_does ..).tables hs
  obtain ⟨k1, k2⟩ := fltClear_clears hu
  obtain ⟨k3, k4⟩ := lockBitWrite_keeps ((fltClear_does u).tables hu) p (regOff .fltCtl) w ((fltClear u).btr.cfgLock.val == 1)
  have he : writeReg p .fltCtl 0 0 w s = lockBitWrite p (regOff .fltCtl) 24 w ((fltClear u).btr.cfgLock.val == 1)
      (fun t => t.modBtr fun b => { b with cfgLock := b.cfgLock.move 1 }) (fltClear u) := by
    rw [h]
    unfold writeEffect
    dsimp only
    rw [if_pos hw]
  rw [he]
  refine ⟨fun x hx => ?_, nofun, fun _ n => (srcState_of_srcs k4 n).trans (k2 n), nofun, nofun, nofun⟩
  obtain rfl := List.mem_singleton.1 hx
  exact (k3 _ _ _ fun y hy => by obtain rfl := List.mem_singleton.1 hy; exact ne).trans k1

/-! ### The mortar (R231) -/

theorem at_pool : (∀ x ∈ mrtZeros, regOff x.1 x.2 ≠ regOff .mrtPoolStat) ∧ (∀ x ∈ mrtZeros, ∀ y ∈ throttleRegs, regOff x.1 x.2 ≠ regOff y.1 y.2.1 y.2.2) ∧
    regOff .mrtPoolStat ≠ regOff .mrtAccEvt := by decide +kernel

theorem watermark_zones (k : Nat) (s : State) : Does [.streams] s (watermark k s) := by
  unfold watermark
  dsimp only
  split
  · exact .refl _ _
  · exact modStream_does ..

theorem watermarks_zones (n : Nat) (s : State) : Does [.streams] s (forN n watermark s) := by
  induction n with
  | zero => exact .refl _ _
  | succ n ih => rw [forN_succ]; exact .step (watermark_zones ..) rfl ih

theorem throttleAbove_regs (s : State) : (throttleAbove s).regs = s.regs := rfl

theorem throttleTold_pool {v : State} (hr : Rises v.regs) : cell (throttleTold v) .mrtPoolStat = cell v .mrtPoolStat := by
  unfold throttleTold
  dsimp only
  split
  · refine (cell_regs (raise_regs ..) ..).trans ?_
    exact cell_event_other (s := v.modMrt fun m => { m with asserted := decide (throttleCause v ≠ 0) }) hr .mrtAccEvt 0 16 at_pool.2.2
  · rfl

/-- The throttle moves the pool's smallest count and leaves the rest of its register. -/
theorem throttle_pool {s : State} (hs : TablesRise s) :
    cell (throttle s) .mrtPoolStat = setFld (cell s .mrtPoolStat) 31 16 (min (fld (cell s .mrtPoolStat) 31 16) (freeCells s)) := by
  have d1 : Does [.streams] (poolMoved s) (forN 48 watermark (poolMoved s)) := watermarks_zones 48 _
  have h1 := throttled_poolMoved hs
  let v := throttleAbove (forN 48 watermark (poolMoved s))
  have hv : v.regs = (poolMoved s).regs := (throttleAbove_regs _).trans (d1.only.same .regs (by decide))
  have hr : Rises v.regs := by rw [hv]; exact (h1.does.tables hs).regs
  rw [throttle_eq, throttleTold_pool hr, cell_regs hv]
  exact cell_setCell hs.regs ..

theorem mrtAccCtl_clears {p : Nat} {w : Word} {s : State} (hs : TablesRise s) (hw : bit w 2 = true) : ClearsBlock .mrtAccCtl 0 s (writeReg p .mrtAccCtl 0 0 w s) := by
  have hm : ∀ x ∈ clearedBy .mrtAccCtl 0, x ∈ mrtZeros := by decide
  obtain ⟨v, h⟩ := writeReg_clears (b := 2) (r := .mrtAccCtl) (by decide) nofun p 0 w s
  let u1 := setCell .mrtAccCtl 0 0 v s
  let u := if bit w 3 || (bit w 0 && !bit (cell s .mrtAccCtl) 0) then accResync u1 else u1
  have du : Does [.regs, .btr] s u := .ite (.step (accResync_does ..) rfl ((setCell_does ..).widen rfl)) ((setCell_does ..).widen rfl)
  have hu := du.tables hs
  let z := clearAll mrtZeros u
  have dz : Does [.regs] u z := clearAll_regs_only ..
  obtain ⟨k1, k2, -⟩ := clearAll_clears zeros_exist.2.1 hu.regs
  have d : Does [.regs, .btr] s (mrtClear u) := .step (mrtClear_does ..) rfl du
  have ht := throttled_throttle (d.tables hs)
  have hfree {t : State} (d : Does [.regs, .btr] s t) : freeCells t = freeCells s :=
    (freeCells_flt (d.only.same .mrt (by decide)) (d.only.same .streams (by decide)) (d.only.same .pwr (by decide))).1
  have hpool : cell (mrtClear u) .mrtPoolStat = mkFld 31 16 (freeCells s) := by
    rw [mrtClear_eq, cell_setCell k1, hfree (.step dz rfl du)]
  have he : writeReg p .mrtAccCtl 0 0 w s = throttle (mrtClear u) := by
    rw [h]
    unfold writeEffect
    dsimp only
    rw [if_pos hw]
  rw [he]
  refine ⟨fun x hx => ?_, nofun, nofun, nofun, nofun, fun _ => ?_⟩
  · have hz := hm x hx
    refine (ht.regs x.1 x.2 0 (at_pool.2.1 x hz)).trans ?_
    rw [mrtClear_eq]
    exact (cell_setCell_other k1 _ (at_pool.1 x hz)).trans (k2 x hz)
  · rw [throttle_pool (d.tables hs), hpool, fld_setFld_same (by decide), fld_mkFld_same (by decide), hfree d]
    show min (freeCells s % 65536) (freeCells s) % 65536 = freeCells s % 65536
    rw [Nat.min_eq_left (Nat.mod_le ..), Nat.mod_mod]

/-! ### The Plumb's counters -/

/-- Where the register at the place of PLB_CTL can lie: all resets there are 0. -/
def resetAtPlbCtl (r : Reg) : Bool :=
  let p := r.place
  decide (regOff .plbCtl < p.base) || (p.blk == 0 && p.stride2 == 0 && decide (0 < p.per) && decide (p.base + (p.per - 1) * p.stride < regOff .plbCtl)) ||
    (regResetStatic r == 0 && !([Reg.mrtStreamCfg, .lntLane, .uplStreamMap, .fltSrcCfg].contains r))

set_option maxRecDepth 20000 in
theorem resetAtPlbCtl_all (r : Reg) : resetAtPlbCtl r = true := by
  cases r <;> decide +kernel

theorem regReset_at_plbCtl {r : Reg} {i j : Nat} (h : regOff r i j = regOff .plbCtl) : regReset r i = 0 := by
  have hr := resetAtPlbCtl_all r
  have hb : r.place.base ≤ regOff .plbCtl := by
    rw [← h]
    unfold regOff
    dsimp only
    omega
  unfold resetAtPlbCtl at hr
  dsimp only at hr
  simp only [Bool.or_eq_true, Bool.and_eq_true, decide_eq_true_eq, beq_iff_eq, Bool.not_eq_true'] at hr
  rcases hr with (hr | ⟨⟨⟨h1, h2⟩, h3⟩, h4⟩) | ⟨h1, h2⟩
  · omega
  · exfalso
    have hm : i % r.place.per * r.place.stride ≤ (r.place.per - 1) * r.place.stride :=
      Nat.mul_le_mul_right _ (Nat.le_sub_one_of_lt (Nat.mod_lt _ h3))
    have ho : regOff r i j = r.place.base + i % r.place.per * r.place.stride := by
      unfold regOff
      dsimp only
      rw [h1, h2, Nat.mul_zero, Nat.mul_zero, Nat.add_zero, Nat.add_zero]
    omega
  · unfold regReset
    rw [h1]
    split
    · cases h2
    · cases h2
    · cases h2
    · cases h2
    · rfl

/-- A store of the word that PLB_CTL holds changes no entry. -/
theorem setCell_plbCtl_same {s : State} (hs : TablesRise s) : RegsKept [] s (setCell .plbCtl 0 0 (cell s .plbCtl) s) := by
  intro r i j _
  by_cases h : regOff r i j = regOff .plbCtl
  · have h0 : regReset .plbCtl 0 = 0 := by decide
    have hr := regReset_at_plbCtl h
    unfold cell
    rw [smGet_setCell hs.regs .plbCtl 0 0 _ _ _ fun _ => hr.trans h0.symm, if_pos h, hr, h0, h]
  · exact cell_setCell_other hs.regs _ h

/-- Settles O15. -/
theorem clearingWrites : Obligations.ClearingWrites := by
  refine ⟨fun p off w r i s ho ha hx h hs hq => ?_, fun p off w r i b s ho ha hx h hs hb hw => ?_, fun p s h hs => ?_⟩
  · refine ⟨_, hostRow_reg ho ⟨ha, hx⟩ h, ?_⟩
    rw [writeReg_sqc hq]
    exact ⟨(modCell_does ..).only, cell_setCell hs.regs .., fun _ _ _ hn => cell_setCell_other hs.regs _ hn⟩
  · refine ⟨_, hostRow_reg ho ⟨ha, hx⟩ h, ?_⟩
    have hi := (regExists_lt (regExists_of_regAt ha).2).1
    show ClearsBlock r i s (writeReg p r i 0 w s)
    have hm := mem_clearRegisters hb
    clear hb h ho ha hx
    simp only [List.mem_cons, Prod.mk.injEq, List.not_mem_nil, or_false] at hm
    have one {n : Nat} (h : n < 1) : n = 0 := by omega
    rcases hm with ⟨rfl, rfl⟩ | ⟨rfl, rfl⟩ | ⟨rfl, rfl⟩ | ⟨rfl, rfl⟩ | ⟨rfl, rfl⟩ | ⟨rfl, rfl⟩ | ⟨rfl, rfl⟩ | ⟨rfl, rfl⟩ | ⟨rfl, rfl⟩ | ⟨rfl, rfl⟩ | ⟨rfl, rfl⟩
    · exact btrCtl_clears hs hw
    · rw [one hi]; exact crsCtl_clears hs hw
    · rw [one hi]; exact qryCtl_clears hs hw
    · exact memCtl_clears hs hw
    · exact lntCtl_clears hs hw
    · rw [one hi]; exact fltCtl_clears hs hw
    · exact bedGrpCtl_clears hs hi hw
    · exact bedPclr_clears hs hi hw
    · exact ashEngCtl_clears hs hi hw
    · exact molCtl_clears hs hi hw
    · rw [one hi]; exact mrtAccCtl_clears hs hw
  · let u := setCell .plbCtl 0 0 (cell s .plbCtl) s
    have hx : writeReg p .plbCtl 0 0 0x80000000 s = setCell .plbLost 0 0 0 (setCell .plbMissed 0 0 0 u) := by
      have hv : mergeMask (storeMask .plbCtl) (cell s .plbCtl) 0x80000000 = cell s .plbCtl := by
        rw [show storeMask .plbCtl = 0 by decide]
        show cell s .plbCtl &&& BitVec.allOnes 32 ||| 0x80000000 &&& 0#32 = _
        rw [BitVec.and_allOnes, BitVec.and_zero, BitVec.or_zero]
      rw [writeReg_plain (by decide) (by decide) (by decide), hv]
      rfl
    have ne : regOff .plbMissed ≠ regOff .plbLost := by decide +kernel
    have du : Does [.regs] s u := setCell_does ..
    have dm : Does [.regs] u (setCell .plbMissed 0 0 0 u) := setCell_does ..
    have hu := du.tables hs
    have hm := dm.tables hu
    refine ⟨_, (hostRow_reg (by decide) at_plbCtl h).trans (congrArg _ hx), ?_, cell_setCell hm.regs .., ?_, ?_⟩
    · exact (cell_setCell_other hm.regs _ ne).trans (cell_setCell hu.regs ..)
    · exact RegsKept.set (RegsKept.set ((setCell_plbCtl_same hs).widen (List.nil_subset _)) hu.regs (.head _) _) hm.regs (.tail _ (.head _)) _
    · have d : Does [.regs] s (setCell .plbLost 0 0 0 (setCell .plbMissed 0 0 0 u)) := .step (setCell_does ..) rfl (.step dm rfl du)
      exact d.only

end Sys2Proof.Machine
end

section
/-!
SUPPORT. Names that stay in range: what every operation keeps (R110, R136, R140, R205, R388).
-/
namespace Sys2Proof.Machine

/-- The parts that hold names of partners, lanes, engines, entries and channels. -/
def holdsNames : Zone → Bool
  | .partners | .bindPending | .lanes | .ash | .mrt | .gau => true
  | _ => false

/-- Going from `s` to `t`, ordered tables and names in range stay so. -/
structure Names (s t : State) : Prop where
  keeps : TablesRise s → NamesInRange s → TablesRise t ∧ NamesInRange t

theorem Names.refl (s : State) : Names s s := ⟨fun h k => ⟨h, k⟩⟩

theorem Names.step {s x u : State} (k : Names x u) (h : Names s x) : Names s u :=
  ⟨fun hs hn => k.keeps (h.keeps hs hn).1 (h.keeps hs hn).2⟩

/-- What comes next may rest on names in range. -/
theorem Names.next {s x u : State} (k : TablesRise x → NamesInRange x → Names x u) (h : Names s x) : Names s u :=
  ⟨fun hs hn => have hx := h.keeps hs hn; (k hx.1 hx.2).keeps hx.1 hx.2⟩

theorem Names.of {s u : State} (k : TablesRise s → NamesInRange s → Names s u) : Names s u := .next k (.refl s)

theorem Names.ite {c : Prop} {_ : Decidable c} {s a b : State} (ha : Names s a) (hb : Names s b) : Names s (if c then a else b) := by
  split <;> assumption

theorem Names.forL {α : Type} {s x : State} {l : List α} {f : α → State → State} (hf : ∀ i t, Names s t → Names s (f i t)) (h : Names s x) : Names s (Machine.forL l f x) := by
  induction l generalizing x with
  | nil => exact h
  | cons a l ih => exact ih (hf a x h)

theorem Names.forN {s x : State} {n : Nat} {f : Nat → State → State} (hf : ∀ i t, Names s t → Names s (f i t)) (h : Names s x) : Names s (Machine.forN n f x) := by
  induction n with
  | zero => exact h
  | succ n ih => rw [forN_succ]; exact hf n _ ih

theorem Names.forL_mem {α : Type} {x : State} {l : List α} {f : α → State → State} (hf : ∀ i ∈ l, ∀ t, Names t (f i t)) : Names x (Machine.forL l f x) := by
  induction l generalizing x with
  | nil => exact .refl _
  | cons a l ih => exact .step (ih fun i hi => hf i (.tail _ hi)) (hf a (.head _) x)

theorem Names.foldl {α : Type} {s x : State} {l : List α} {f : State → α → State} (hf : ∀ t i, Names s t → Names s (f t i)) (h : Names s x) : Names s (l.foldl f x) := by
  induction l generalizing x with
  | nil => exact h
  | cons a t ih => exact ih (hf _ _ h)

theorem Names.foldl1 {α β : Type} {s : State} {x : State × β} {l : List α} {f : State × β → α → State × β} (hf : ∀ a i, Names s a.1 → Names s (f a i).1)
    (h : Names s x.1) : Names s (l.foldl f x).1 := by
  induction l generalizing x with
  | nil => exact h
  | cons a t ih => exact ih (hf _ _ h)

theorem NamesInRange.keep {s t : State} (h : NamesInRange s) (h1 : t.partners = s.partners) (h2 : t.bindPending = s.bindPending) (h3 : t.lanes = s.lanes)
    (h4 : t.ash = s.ash) (h5 : t.mrt = s.mrt) (h6 : t.gau = s.gau) : NamesInRange t where
  bound p b hb := h.bound p b (by rwa [partner_of h1] at hb)
  pending := by rw [h2]; exact h.pending
  lanes l p hl := h.lanes l p (by rwa [lane_of h3] at hl)
  slots := by rw [h4]; exact h.slots
  migrations := by rw [h4]; exact h.migrations
  ids := by rw [h5]; exact h.ids
  gauge k := by
    rw [show gauConv t k = gauConv s k by unfold gauConv; rw [h6]]
    exact h.gauge k

/-- What leaves the parts that hold names alone keeps them. -/
theorem Names.does {L : List Zone} {s x u : State} (k : Does L x u) (hL : L.all (fun z => !holdsNames z) = true) (h : Names s x) : Names s u := by
  refine ⟨fun hs hn => ?_⟩
  have apart {z : Zone} (hz : holdsNames z = true) : z ∉ L := fun hm => by
    have := List.all_eq_true.1 hL z hm
    rw [hz] at this
    cases this
  exact ⟨k.tables (h.keeps hs hn).1, (h.keeps hs hn).2.keep (k.only.same _ (apart (z := .partners) rfl)) (k.only.same _ (apart (z := .bindPending) rfl))
    (k.only.same _ (apart (z := .lanes) rfl)) (k.only.same _ (apart (z := .ash) rfl)) (k.only.same _ (apart (z := .mrt) rfl)) (k.only.same _ (apart (z := .gau) rfl))⟩

theorem Names.eccVisit {mem inst master access : Nat} {held : Nat → Bool} {act : Nat → State → State} {s x : State} (ha : ∀ b t, Names s t → Names s (act b t))
    (h : Names s x) : Names s (eccVisit mem inst master access held act x) := by
  unfold Machine.eccVisit
  apply Names.forL
  · intro b t ht
    dsimp only
    split
    · exact .does (eccRead_does ..) rfl ht
    · exact ha _ _ (.does (eccRead_does ..) rfl ht)
  · exact h

theorem Names.badReadOr {ph : BlockPhase} {mem inst blk : Nat} {good : State → State} {s x : State} (hg : Names s (good x)) (h : Names s x) :
    Names s (badReadOr ph mem inst blk good x) := by
  unfold Machine.badReadOr
  split
  · exact .does (recordBadRead_does ..) rfl h
  · exact .does (recordBadRead_does ..) rfl h
  · exact h
  · exact hg

theorem Names.lockBitWrite {p off b : Nat} {w : Word} {isSet : Bool} {set : State → State} {s x : State} (hf : ∀ t, Names s t → Names s (set t)) (h : Names s x) :
    Names s (lockBitWrite p off b w isSet set x) := by
  unfold Machine.lockBitWrite
  split
  · exact hf _ h
  · split
    · exact .does (lockWrite_does ..) rfl h
    · exact h

theorem Names.ldgChecks {m : Nat} {c : LdgCmd} {bad off : Bool} {own : State → State} {s x : State} (ho : ∀ t, Names s t → Names s (own t)) (h : Names s x) :
    Names s (ldgChecks m c bad off own x) := by
  unfold Machine.ldgChecks
  split
  · exact .does (ldgAtOnce_does ..) rfl h
  · split
    · exact .does (ldgAtOnce_does ..) rfl h
    · split
      · exact .does (ldgAtOnce_does ..) rfl h
      · exact ho _ h

/-! ### The parts -/

theorem modLane_names (l : Nat) (f : Lane → Lane) (s : State) (hf : ∀ y q, (f y).partner = some q → y.partner = some q) : Names s (modLane l f s) := by
  refine ⟨fun hs hn => ⟨(modLane_does ..).tables hs, { hn with lanes := fun q p hp => ?_ }⟩⟩
  by_cases h : q = l
  · subst h
    rw [lane_modLane hs.lanes] at hp
    exact hn.lanes _ _ (hf _ _ hp)
  · rw [lane_modLane_other hs.lanes h] at hp
    exact hn.lanes _ _ hp

/-- A lane is bound to a partner. -/
theorem modLane_binds {l p : Nat} (hl : l < 256) (hp : p < 64) (s : State) : Names s (modLane l (fun x => { x with partner := some p }) s) := by
  refine ⟨fun hs hn => ⟨(modLane_does ..).tables hs, { hn with lanes := fun q r hr => ?_ }⟩⟩
  by_cases h : q = l
  · subst h
    rw [lane_modLane hs.lanes] at hr
    exact ⟨hl, Option.some.inj hr ▸ hp⟩
  · rw [lane_modLane_other hs.lanes h] at hr
    exact hn.lanes _ _ hr

/-- The table of lanes is put anew, and no lane's partner with it. -/
theorem putLanes_names {s : State} {m : SMap Lane} (hr : Rises s.lanes → Rises m)
    (hm : Rises s.lanes → ∀ k x q, smFind m k = some x → x.partner = some q → (lane s k).partner = some q) : Names s { s with lanes := m } := by
  refine ⟨fun hs hn => ⟨(Does.put_lanes (L := [.lanes]) (by decide) hr (.refl _ s)).tables hs, { hn with lanes := fun k q hq => ?_ }⟩⟩
  unfold lane smGet at hq
  dsimp only at hq
  cases hf : smFind m k with
  | none => rw [hf] at hq; cases hq
  | some x => rw [hf] at hq; exact hn.lanes _ _ (hm hs.lanes k x q hf hq)

theorem lane_partner_of_find {s : State} {k : Nat} {y : Lane} (h : smFind s.lanes k = some y) : lane s k = y := by
  unfold lane smGet
  rw [h]
  rfl

theorem modPartner_names (p : Nat) (f : Partner → Partner) (s : State) (hf : ∀ y b, (f y).binding = some b → y.binding = some b) : Names s (modPartner p f s) := by
  refine ⟨fun hs hn => ⟨(modPartner_does ..).tables hs, { hn with bound := fun q b hb => ?_ }⟩⟩
  by_cases h : q = p
  · subst h
    rw [partner_modPartner hs.partners] at hb
    exact hn.bound _ _ (hf _ _ hb)
  · rw [partner_modPartner_other hs.partners h] at hb
    exact hn.bound _ _ hb

/-- A partner is bound. -/
theorem modPartner_binds {p : Nat} {b : Binding} (hp : p < 64) (hb : b.firstLane + b.lanesM1 < 256) (s : State) :
    Names s (modPartner p (fun x => { x with binding := some b }) s) := by
  refine ⟨fun hs hn => ⟨(modPartner_does ..).tables hs, { hn with bound := fun q c hc => ?_ }⟩⟩
  by_cases h : q = p
  · subst h
    rw [partner_modPartner hs.partners] at hc
    exact ⟨hp, Option.some.inj hc ▸ hb⟩
  · rw [partner_modPartner_other hs.partners h] at hc
    exact hn.bound _ _ hc

/-- The bindings that wait are put anew. -/
theorem putPending_names {s : State} {l : List BindPending} (h : ∀ x ∈ l, x ∈ s.bindPending ∨ x.partner < 64 ∧ ∀ b, x.entry = some b → b.firstLane + b.lanesM1 < 256) :
    Names s { s with bindPending := l } :=
  ⟨fun hs hn => ⟨(Does.put_bindPending (L := [.bindPending]) (by decide) (.refl _ s)).tables hs, { hn with pending := fun x hx => (h x hx).elim (hn.pending x) id }⟩⟩

/-- The names that the Ashlar holds. -/
def Ashlar.InRange (a : Ashlar) : Prop := (∀ e ∈ a.slots, e < 9) ∧ ∀ m ∈ a.migrations, m.former < 9 ∧ m.to_ < 9

theorem NamesInRange.ash {s : State} (h : NamesInRange s) : s.ash.InRange := ⟨h.slots, h.migrations⟩

theorem Ashlar.InRange.map {a : Ashlar} (h : a.InRange) {f : Migration → Migration} (hf : ∀ m, (f m).former = m.former ∧ (f m).to_ = m.to_) :
    ({ a with migrations := a.migrations.map f } : Ashlar).InRange := by
  refine ⟨h.1, fun m hm => ?_⟩
  obtain ⟨x, hx, rfl⟩ := List.mem_map.1 hm
  rw [(hf x).1, (hf x).2]
  exact h.2 x hx

theorem Ashlar.InRange.filter {a : Ashlar} (h : a.InRange) (p : Migration → Bool) : ({ a with migrations := a.migrations.filter p } : Ashlar).InRange :=
  ⟨h.1, fun m hm => h.2 m (List.mem_filter.1 hm).1⟩

theorem Ashlar.InRange.set {a : Ashlar} (h : a.InRange) (sl : Nat) {e : Nat} (he : e < 9) : ({ a with slots := a.slots.set sl e } : Ashlar).InRange :=
  ⟨fun x hx => (List.mem_or_eq_of_mem_set hx).elim (h.1 x) fun k => k ▸ he, h.2⟩

theorem State.modAsh_names (f : Ashlar → Ashlar) (s : State) (hr : ∀ y, Rises y.engines → Rises (f y).engines) (hf : ∀ y, y.InRange → (f y).InRange) :
    Names s (s.modAsh f) :=
  ⟨fun hs hn => ⟨(State.modAsh_does f s hr).tables hs, { hn with slots := (hf _ hn.ash).1, migrations := (hf _ hn.ash).2 }⟩⟩

theorem modEngine_names (e : Nat) (f : Engine → Engine) (s : State) : Names s (modEngine e f s) :=
  ⟨fun hs hn => ⟨(modEngine_does e f s).tables hs, { hn with }⟩⟩

/-- The identifiers that the accept table holds have been given out. -/
def Mortar.InRange (m : Mortar) : Prop := ∀ e ∈ m.table, e.id < m.nextId

theorem Mortar.InRange.put {m : Mortar} (h : m.InRange) {e : AccEntry} (he : e.id ≤ m.nextId) (p : Bool) :
    ({ m with nextId := m.nextId + 1, table := if p then m.table else m.table ++ [e] } : Mortar).InRange := by
  intro x hx
  have hin : x ∈ m.table ∨ x = e := by
    cases p with
    | true => exact .inl hx
    | false => exact (List.mem_append.1 hx).imp id List.mem_singleton.1
  rcases hin with hx | rfl
  · exact Nat.lt_succ_of_lt (h x hx)
  · exact Nat.lt_succ_of_le he

theorem State.modMrt_ids (f : Mortar → Mortar) (s : State) (hf : s.mrt.InRange → (f s.mrt).InRange) : Names s (s.modMrt f) :=
  ⟨fun hs hn => ⟨(State.modMrt_does f s).tables hs, { hn with ids := hf hn.ids }⟩⟩

theorem State.modMrt_names (f : Mortar → Mortar) (s : State) (hf : ∀ y, y.InRange → (f y).InRange) : Names s (s.modMrt f) := s.modMrt_ids f (hf _)

theorem Mortar.InRange.map {m : Mortar} (h : m.InRange) {f : AccEntry → AccEntry} (hf : ∀ e, (f e).id = e.id) : ({ m with table := m.table.map f } : Mortar).InRange := by
  intro e he
  obtain ⟨x, hx, rfl⟩ := List.mem_map.1 he
  rw [hf]
  exact h x hx

theorem Mortar.InRange.filter {m : Mortar} (h : m.InRange) (p : AccEntry → Bool) : ({ m with table := m.table.filter p } : Mortar).InRange :=
  fun e he => h e (List.mem_filter.1 he).1

theorem modEntry_names (id : Nat) (f : AccEntry → AccEntry) (s : State) (hf : ∀ e, (f e).id = e.id) : Names s (modEntry id f s) :=
  State.modMrt_names _ _ fun _ h => h.map fun e => by split; exacts [hf e, rfl]

theorem modGather_names (id u : Nat) (f : Gather → Gather) (s : State) : Names s (modGather id u f s) := modEntry_names _ _ _ fun _ => rfl

theorem modRec_names (id t : Nat) (f : StreamRec → StreamRec) (s : State) : Names s (modRec id t f s) := modEntry_names _ _ _ fun _ => rfl

/-- A converter is connected to a channel of its own and converts one. -/
def GauConv.InRange (k : Nat) (v : GauConv) : Prop := (∀ c, v.connected = some c → c ∈ convChans k) ∧ ∀ x, v.run = some x → x.channel ∈ convChans k

theorem modConv_names (k : Nat) (f : GauConv → GauConv) (s : State) (hf : ∀ v, v.InRange k → (f v).InRange k) : Names s (modConv k f s) := by
  refine ⟨fun hs hn => ⟨(modConv_does ..).tables hs, { hn with gauge := fun q => ?_ }⟩⟩
  rw [gauConv_modConv hs.gau.1]
  split
  next h => subst h; exact hf _ (hn.gauge q)
  · exact hn.gauge q

/-- The Gauge changes, its converters' names not. -/
theorem State.modGau_names (f : Gauge → Gauge) (s : State) (hr : ∀ y, y.TablesRise → (f y).TablesRise) (hf : ∀ y, (f y).convs = y.convs) : Names s (s.modGau f) := by
  refine ⟨fun hs hn => ⟨(State.modGau_does f s hr).tables hs, { hn with gauge := fun k => ?_ }⟩⟩
  rw [gauConv_of (t := s.modGau f) (hf s.gau)]
  exact hn.gauge k

end Sys2Proof.Machine
end

section
/-!
SUPPORT. Lanes, downlinks, frames and bindings, and the Ashlar: the names they hold stay in range.
-/
namespace Sys2Proof.Machine

theorem enterTrain_names (l : Nat) (s : State) : Names s (enterTrain l s) := by
  unfold enterTrain
  repeat' (first
    | with_reducible (first
        | exact Names.refl _ | assumption | apply Names.ite | apply Names.step (modLane_names ..)
        | apply Names.does (restartDue_does ..) rfl)
    | exact fun _ _ h => h)

theorem enterDetect_names (l : Nat) (s : State) : Names s (enterDetect l s) := by
  unfold enterDetect
  repeat' (first
    | with_reducible (first | exact Names.refl _ | apply Names.step (modLane_names ..))
    | exact fun _ _ h => h)

theorem enterDown_names (l : Nat) (s : State) : Names s (enterDown l s) := by
  unfold enterDown
  repeat' (first
    | with_reducible (first | exact Names.refl _ | apply Names.step (modLane_names ..))
    | exact fun _ _ h => h)

theorem enterActive_names (l : Nat) (s : State) : Names s (enterActive l s) := by
  unfold enterActive
  repeat' (first
    | with_reducible (first
        | exact Names.refl _ | apply Names.does (activeDue_does ..) rfl | apply Names.does (closeLossAccount_does ..) rfl
        | apply Names.does (countWrap_does ..) rfl | apply Names.does (event_does ..) rfl | apply Names.step (modLane_names ..))
    | exact fun _ _ h => h)

theorem leaveActive_names (l cause : Nat) (s : State) : Names s (leaveActive l cause s) := by
  unfold leaveActive
  repeat' (first
    | with_reducible (first
        | exact Names.refl _ | apply Names.ite | apply Names.does (delayMeasureLost_does ..) rfl | apply Names.does (event_does ..) rfl
        | apply Names.step (modLane_names ..) | apply Names.does (openLossAccount_does ..) rfl | apply Names.does (raise_does ..) rfl)
    | exact fun _ _ h => h)

theorem unleave_names (l : Nat) (m : LaneLeft) (host : Bool) (s : State) : Names s (unleave l m host s) := by
  unfold unleave
  repeat' (first
    | with_reducible (first
        | exact Names.refl _ | assumption | apply Names.ite | apply Names.does (setCell_does ..) rfl
        | apply Names.does (modCell_does ..) rfl | apply Names.does (modDl_does ..) rfl | apply Names.step (modLane_names ..)
        | apply Names.does (State.modFlt_does ..) rfl)
    | exact fun _ _ h => h | exact fun _ h => h | exact fun h => h | exact fun _ => rfl | decide | intro _ _ _ | intro _ _ | split)

theorem beforeLeave_names (l rank : Nat) (host : Bool) (s : State) : Names s (beforeLeave l rank host s) := by
  unfold beforeLeave
  repeat' (first
    | with_reducible (first | exact Names.refl _ | assumption | apply Names.step (modLane_names ..) | apply Names.step (unleave_names ..))
    | intro _ _ _ | split)

theorem enterQuarantine_names (l cause : Nat) (s : State) : Names s (enterQuarantine l cause s) := by
  unfold enterQuarantine
  repeat' (first
    | with_reducible (first
        | exact Names.refl _ | assumption | apply Names.ite | apply Names.step (leaveActive_names ..)
        | apply Names.step (beforeLeave_names ..) | apply Names.step (modLane_names ..) | apply Names.does (raise_does ..) rfl
        | apply Names.does (event_does ..) rfl)
    | exact fun _ _ h => h)

theorem forceDown_names (l cause : Nat) (s : State) : Names s (forceDown l cause s) := by
  unfold forceDown
  repeat' (first
    | with_reducible (first
        | exact Names.refl _ | assumption | apply Names.ite | apply Names.step (enterDown_names ..)
        | apply Names.step (leaveActive_names ..) | apply Names.step (beforeLeave_names ..) | apply Names.step (modLane_names ..))
    | exact fun _ _ h => h)

theorem tryDetect_names (l : Nat) (s : State) : Names s (tryDetect l s) := by
  unfold tryDetect
  repeat' with_reducible (first | exact Names.refl _ | apply Names.ite | apply Names.step (enterDetect_names ..))

theorem trainFail_names (l : Nat) (code : Nat) (s : State) : Names s (trainFail l code s) := by
  unfold trainFail
  repeat' (first
    | with_reducible (first
        | exact Names.refl _ | assumption | apply Names.ite | apply Names.does (count_does ..) rfl | apply Names.step (enterDetect_names ..)
        | apply Names.does (event_does ..) rfl | apply Names.step (modLane_names ..) | apply Names.does (raise_does ..) rfl)
    | exact fun _ _ h => h)

theorem autoLoss_names (l cause : Nat) (s : State) : Names s (autoLoss l cause s) := by
  unfold autoLoss
  repeat' with_reducible (first
    | exact Names.refl _ | apply Names.ite | apply Names.step (enterQuarantine_names ..) | apply Names.step (beforeLeave_names ..)
    | apply Names.step (leaveActive_names ..) | apply Names.does (count_does ..) rfl | apply Names.step (enterDetect_names ..)
    | apply Names.step (enterTrain_names ..) | apply Names.step (enterDown_names ..) | apply Names.does (clearFld_does ..) rfl)

theorem laneSignalDetect_names (l : Nat) (s : State) : Names s (laneSignalDetect l s) := by
  unfold laneSignalDetect
  repeat' (first
    | with_reducible (first | exact Names.refl _ | assumption | apply Names.step (enterTrain_names ..) | apply Names.step (modLane_names ..))
    | intro _ _ _ | split)

theorem laneTrainDone_names (l : Nat) (s : State) : Names s (laneTrainDone l s) := by
  unfold laneTrainDone
  repeat' (first
    | with_reducible (first | exact Names.refl _ | apply Names.ite | apply Names.step (modLane_names ..))
    | exact fun _ _ h => h)

theorem laneTrainTimeout_names (l : Nat) (s : State) : Names s (laneTrainTimeout l s) := by
  unfold laneTrainTimeout
  repeat' (first
    | with_reducible (first | exact Names.refl _ | apply Names.step (trainFail_names ..))
    | split)

theorem laneExchangeTimeout_names (l : Nat) (s : State) : Names s (laneExchangeTimeout l s) := by
  unfold laneExchangeTimeout
  repeat' with_reducible (first | exact Names.refl _ | apply Names.ite | apply Names.step (trainFail_names ..))

theorem laneSyncAcquired_names (l : Nat) (s : State) : Names s (laneSyncAcquired l s) := by
  unfold laneSyncAcquired
  repeat' (first
    | with_reducible (first | exact Names.refl _ | apply Names.ite | apply Names.does (count_does ..) rfl | apply Names.step (modLane_names ..))
    | exact fun _ _ h => h)

theorem laneLossOfSignal_names (l : Nat) (s : State) : Names s (laneLossOfSignal l s) := by
  unfold laneLossOfSignal
  repeat' (first
    | with_reducible (first
        | exact Names.refl _ | assumption | apply Names.ite | apply Names.step (modLane_names ..) | apply Names.does (signal_does ..) rfl
        | apply Names.step (autoLoss_names ..) | apply Names.step (enterDetect_names ..))
    | intro _ _ _ | split)

theorem laneCdrUnlock_names (l : Nat) (s : State) : Names s (laneCdrUnlock l s) := by
  unfold laneCdrUnlock
  repeat' (first
    | with_reducible (first
        | exact Names.refl _ | assumption | apply Names.ite | apply Names.step (modLane_names ..) | apply Names.step (autoLoss_names ..)
        | apply Names.step (enterDetect_names ..))
    | exact fun _ _ h => h | exact fun _ h => h | exact fun h => h | exact fun _ => rfl | decide | intro _ _ _ | intro _ _ | split)

theorem laneSyncLoss_names (l : Nat) (s : State) : Names s (laneSyncLoss l s) := by
  unfold laneSyncLoss
  repeat' (first
    | with_reducible (first | exact Names.refl _ | apply Names.ite | apply Names.step (modLane_names ..) | apply Names.step (autoLoss_names ..))
    | exact fun _ _ h => h)

theorem codeErrCheck_names (l : Nat) (s : State) : Names s (codeErrCheck l s) := by
  unfold codeErrCheck
  repeat' (first
    | with_reducible (first
        | exact Names.refl _ | assumption | apply Names.ite | apply Names.does (event_does ..) rfl | apply Names.step (modLane_names ..)
        | apply Names.does (raise_does ..) rfl)
    | exact fun _ _ h => h)

theorem laneCodeError_names (l : Nat) (s : State) : Names s (laneCodeError l s) := by
  unfold laneCodeError
  repeat' (first
    | with_reducible (first
        | exact Names.refl _ | assumption | apply Names.ite | apply Names.step (codeErrCheck_names ..)
        | apply Names.does (count_does ..) rfl | apply Names.step (modLane_names ..))
    | exact fun _ _ h => h)

theorem grpCfgWritten_names (g : Nat) (s : State) : Names s (grpCfgWritten g s) := by
  unfold grpCfgWritten
  repeat' (first
    | with_reducible (first | exact Names.refl _ | assumption | apply Names.forN | apply Names.step (codeErrCheck_names ..))
    | intro _ _ _)

theorem bindMismatch_names (l p : Nat) (b : Binding) (r : BitVec 128) (s : State) : Names s (bindMismatch l p b r s) := by
  unfold bindMismatch
  repeat' (first
    | with_reducible (first
        | exact Names.refl _ | assumption | apply Names.ite | apply Names.forL | apply Names.step (enterQuarantine_names ..)
        | apply Names.does (event_does ..) rfl | apply Names.does (raise_does ..) rfl)
    | exact fun _ _ h => h | exact fun _ h => h | exact fun h => h | exact fun _ => rfl | decide | intro _ _ _)

theorem validRecord_names (l : Nat) (r : BitVec 128) (s : State) : Names s (validRecord l r s) := by
  unfold validRecord
  repeat' (first
    | with_reducible (first
        | exact Names.refl _ | assumption | apply Names.ite | apply Names.step (bindMismatch_names ..)
        | apply Names.step (enterActive_names ..) | apply Names.does (exchangeSettles_does ..) rfl | apply Names.step (modLane_names ..))
    | exact fun _ _ h => h | exact fun _ h => h | exact fun h => h | exact fun _ => rfl | decide | intro _ _ _ | intro _ _ | split
    | dsimp only)

theorem exchangeBlockRx_names (l : Nat) (r : BitVec 128) (crc : BitVec 32) (s : State) : Names s (exchangeBlockRx l r crc s) := by
  unfold exchangeBlockRx
  repeat' (first
    | with_reducible (first
        | exact Names.refl _ | apply Names.ite | apply Names.does (count_does ..) rfl | apply Names.does (event_does ..) rfl
        | apply Names.step (modLane_names ..) | apply Names.does (raise_does ..) rfl | apply Names.step (validRecord_names ..))
    | exact fun _ _ h => h)

theorem laneCfgWritten_names (l : Nat) (old : Word) (s : State) : Names s (laneCfgWritten l old s) := by
  unfold laneCfgWritten
  repeat' (first
    | with_reducible (first
        | exact Names.refl _ | assumption | apply Names.ite | apply Names.step (forceDown_names ..) | apply Names.step (modLane_names ..)
        | apply Names.step (tryDetect_names ..))
    | exact fun _ _ h => h)

theorem laneRetrain_names (l : Nat) (s : State) : Names s (laneRetrain l s).1 := by
  unfold laneRetrain
  repeat' (first
    | with_reducible (first
        | exact Names.refl _ | assumption | apply Names.ite | apply Names.step (enterTrain_names ..)
        | apply Names.step (leaveActive_names ..) | apply Names.step (beforeLeave_names ..) | apply Names.step (tryDetect_names ..)
        | apply Names.step (modLane_names ..) | apply Names.does (modCell_does ..) rfl)
    | exact fun _ _ h => h | exact fun _ h => h | exact fun h => h | exact fun _ => rfl | decide | intro _ _ _ | intro _ _ | split)

theorem laneRelease_names (l : Nat) (s : State) : Names s (laneRelease l s).1 := by
  unfold laneRelease
  repeat' (first
    | with_reducible (first | exact Names.refl _ | apply Names.step (enterTrain_names ..))
    | split)

theorem groupDown_names (g cause : Nat) (s : State) : Names s (groupDown g cause s) := by
  unfold groupDown
  repeat' (first
    | with_reducible (first | exact Names.refl _ | assumption | apply Names.forN | apply Names.step (forceDown_names ..))
    | intro _ _ _)

theorem groupTapsLost_names (g : Nat) (s : State) : Names s (groupTapsLost g s) := by
  unfold groupTapsLost
  repeat' (first
    | with_reducible (first | exact Names.refl _ | assumption | apply Names.forN | apply Names.step (modLane_names ..))
    | intro _ _ _)

theorem groupUp_names (g : Nat) (fromHold : Bool) (s : State) : Names s (groupUp g fromHold s) := by
  unfold groupUp
  repeat' (first
    | with_reducible (first
        | exact Names.refl _ | assumption | apply Names.ite | apply Names.forN | apply Names.step (modLane_names ..)
        | apply Names.step (tryDetect_names ..))
    | exact fun _ _ h => h | exact fun _ h => h | exact fun h => h | exact fun _ => rfl | decide | intro _ _ _)

theorem takeBlock_names (d m : Nat) (s : State) : Names s (takeBlock d m s).2 := by
  unfold takeBlock
  repeat' (first
    | with_reducible (first | exact Names.refl _ | assumption | apply Names.step (modPartner_names ..))
    | intro _ _ _ | split)

theorem downlinkFrame_names (d : Nat) (s : State) : Names s (downlinkFrame d s) := by
  unfold downlinkFrame
  repeat' with_reducible (first
    | exact Names.refl _ | apply Names.ite | apply Names.step (takeBlock_names ..) | apply Names.does (modDl_does ..) rfl
    | apply Names.does (event_does ..) rfl | apply Names.does (syncLoaded_does ..) rfl)

theorem offence_names (p kind : Nat) (s : State) : Names s (offence p kind s) := by
  unfold offence
  repeat' (first
    | with_reducible (first
        | exact Names.refl _ | apply Names.ite | apply Names.does (State.modFlt_does ..) rfl | apply Names.step (modPartner_names ..)
        | apply Names.does (raise_does ..) rfl)
    | exact fun _ _ h => h | exact fun _ h => h)

theorem wordError_names (p first last n : Nat) (s : State) : Names s (wordError p first last n s) := by
  unfold wordError
  repeat' with_reducible (first
    | exact Names.refl _ | apply Names.does (account_does ..) rfl | apply Names.does (count_does ..) rfl | apply Names.step (offence_names ..))

theorem malformed_names (p : Nat) (acct : Option (Nat × Nat × Nat)) (s : State) : Names s (malformed p acct s) := by
  unfold malformed
  repeat' (first
    | with_reducible (first
        | exact Names.refl _ | apply Names.does (account_does ..) rfl | apply Names.does (count_does ..) rfl | apply Names.does (event_does ..) rfl
        | apply Names.step (offence_names ..))
    | split)

theorem declareMissing_names (l p x : Nat) (s : State) : Names s (declareMissing l p x s) := by
  unfold declareMissing
  repeat' (first
    | with_reducible (first
        | exact Names.refl _ | apply Names.does (account_does ..) rfl | apply Names.does (count_does ..) rfl | apply Names.does (event_does ..) rfl
        | apply Names.step (modLane_names ..) | apply Names.step (offence_names ..))
    | exact fun _ _ h => h)

theorem spanSeen_names (l p x : Nat) (s : State) : Names s (spanSeen l p x s) := by
  unfold spanSeen
  repeat' (first
    | with_reducible (first
        | exact Names.refl _ | assumption | apply Names.ite | apply Names.forN | apply Names.step (declareMissing_names ..)
        | apply Names.step (modLane_names ..))
    | exact fun _ _ h => h | exact fun _ h => h | exact fun h => h | exact fun _ => rfl | decide | intro _ _ _ | intro _ _ | split)

theorem spanTimeout_names (l : Nat) (s : State) : Names s (spanTimeout l s) := by
  unfold spanTimeout
  repeat' (first
    | with_reducible (first
        | exact Names.refl _ | assumption | apply Names.ite | apply Names.step (declareMissing_names ..)
        | apply Names.step (modLane_names ..))
    | exact fun _ _ h => h | exact fun _ h => h | exact fun h => h | exact fun _ => rfl | decide | intro _ _ _ | intro _ _ | split)

theorem toEngine_names (e : Nat) (x : HitItem) (s : State) : Names s (toEngine e x s) := by
  unfold toEngine
  repeat' (first
    | with_reducible (first
        | exact Names.refl _ | assumption | apply Names.ite | apply Names.forN | apply Names.does (account_does ..) rfl
        | apply Names.does (count_does ..) rfl | apply Names.does (eccWrite_does ..) rfl | apply Names.step (modEngine_names ..))
    | intro _ _ _)

theorem orphan_names (sl : Nat) (x : HitItem) (s : State) : Names s (orphan sl x s) := by
  unfold orphan
  repeat' (first
    | with_reducible (first
        | exact Names.refl _ | assumption | apply Names.ite | apply Names.step (State.modAsh_names ..)
        | apply Names.does (account_does ..) rfl | apply Names.does (count_does ..) rfl | apply Names.does (raise_does ..) rfl)
    | exact fun _ _ h => h | exact fun _ h => h)

theorem crossbar_names (x : HitItem) (s : State) : Names s (crossbar x s) := by
  unfold crossbar
  repeat' (first
    | with_reducible (first | exact Names.refl _ | apply Names.ite | apply Names.step (orphan_names ..) | apply Names.step (toEngine_names ..))
    | split)

theorem passHit_names (x : HitItem) (s : State) : Names s (passHit x s) := by
  unfold passHit
  repeat' (first
    | with_reducible (first
        | exact Names.refl _ | assumption | apply Names.ite | apply Names.does (account_does ..) rfl | apply Names.does (count_does ..) rfl
        | apply Names.step (crossbar_names ..) | apply Names.does (event_does ..) rfl | apply Names.step (modPartner_names ..)
        | apply Names.step (offence_names ..))
    | exact fun _ _ h => h)

theorem takeItem_names (l p x : Nat) (i : WordItem) (s : State) : Names s (takeItem l p x i s) := by
  unfold takeItem
  repeat' (first
    | with_reducible (first | exact Names.refl _ | apply Names.ite | apply Names.step (passHit_names ..) | apply Names.step (wordError_names ..))
    | split)

theorem dataFrame_names (l p now stamp loss k : Nat) (words : List Nat) (s : State) : Names s (dataFrame l p now stamp loss k words s) := by
  unfold dataFrame
  repeat' (first
    | with_reducible (first
        | exact Names.refl _ | assumption | apply Names.ite | apply Names.forL | apply Names.does (account_does ..) rfl
        | apply Names.does (count_does ..) rfl | apply Names.step (malformed_names ..) | apply Names.step (spanSeen_names ..)
        | apply Names.step (takeItem_names ..))
    | exact fun _ _ h => h | exact fun _ h => h | exact fun h => h | exact fun _ => rfl | decide | intro _ _ _)

theorem cfgTimeout_names (p : Nat) (s : State) : Names s (cfgTimeout p s) := by
  unfold cfgTimeout
  repeat' (first
    | with_reducible (first
        | exact Names.refl _ | assumption | apply Names.ite | apply Names.does (event_does ..) rfl | apply Names.step (modPartner_names ..)
        | apply Names.does (raise_does ..) rfl)
    | exact fun _ _ h => h | exact fun _ h => h | exact fun h => h | exact fun _ => rfl | decide | intro _ _ _ | intro _ _ | split)

theorem responseFrame_names (p idx k : Nat) (words : List Nat) (s : State) : Names s (responseFrame p idx k words s) := by
  unfold responseFrame
  repeat' (first
    | with_reducible (first
        | exact Names.refl _ | assumption | apply Names.ite | apply Names.step (cfgTimeout_names ..)
        | apply Names.does (malformedResponse_does ..) rfl | apply Names.step (modPartner_names ..))
    | exact fun _ _ h => h | exact fun _ h => h | exact fun h => h | exact fun _ => rfl | decide | intro _ _ _ | intro _ _ | split
    | dsimp only)

theorem activeBlock_names (l p : Nat) (chars : List Byte) (closed codeError : Bool) (lag : Nat) (s : State) : Names s (activeBlock l p chars closed codeError lag s) := by
  unfold activeBlock
  repeat' with_reducible (first
    | exact Names.refl _ | apply Names.ite | apply Names.step (dataFrame_names ..) | apply Names.step (malformed_names ..)
    | apply Names.step (responseFrame_names ..))

theorem blockRx_names (l : Nat) (chars : List Byte) (closed codeError : Bool) (lag : Nat) (s : State) : Names s (blockRx l chars closed codeError lag s) := by
  unfold blockRx
  repeat' (first
    | with_reducible (first | exact Names.refl _ | apply Names.step (activeBlock_names ..) | apply Names.does (count_does ..) rfl)
    | split)

theorem offenceTick_names (p : Nat) (s : State) : Names s (offenceTick p s) := by
  unfold offenceTick
  repeat' (first
    | with_reducible (first
        | exact Names.refl _ | assumption | apply Names.ite | apply Names.forL | apply Names.step (modPartner_names ..)
        | apply Names.does (event_does ..) rfl | apply Names.step (enterQuarantine_names ..))
    | exact fun _ _ h => h | exact fun _ h => h | exact fun h => h | exact fun _ => rfl | decide | intro _ _ _)

theorem bindPartner_names {p : Nat} {b : Binding} (hp : p < 64) (hb : b.firstLane + b.lanesM1 < 256) (s : State) : Names s (bindPartner p b s) := by
  unfold bindPartner
  dsimp only
  refine .next (fun _ hn => Names.forL_mem fun l hl t => ?_)
    (.ite (modPartner_binds hp (by exact hb) s) (.does (raise_does ..) rfl (modPartner_binds hp (by exact hb) s)))
  have bound := modLane_binds (partnerLanes_lt hn hl) hp t
  split
  · split
    · refine .step (enterActive_names ..) ?_
      split
      · exact .does (exchangeSettles_does ..) rfl bound
      · exact bound
    · exact .does (restartDue_does ..) rfl bound
  · exact .does (restartDue_does ..) rfl bound
  · exact .does (restartDue_does ..) rfl bound
  · exact bound

theorem unbindPartner_names (p : Nat) (s : State) : Names s (unbindPartner p s) := by
  unfold unbindPartner
  exact .does (modDl_does ..) rfl (.step (modPartner_names _ _ _ fun _ _ h => nomatch h) (.forL (fun _ _ h => .step (modLane_names _ _ _ fun _ _ h => nomatch h) h) (.refl s)))

theorem bindTick_names (s : State) : Names s (bindTick s) := by
  unfold bindTick
  dsimp only
  refine .of fun _ hn => .step (Names.forL_mem fun x hx t => ?_) (putPending_names (s := s) (l := []) fun _ h => nomatch h)
  obtain ⟨hp, hb⟩ := hn.pending x hx
  split
  next b he => exact bindPartner_names hp (hb b he) t
  next => exact unbindPartner_names _ t

theorem tapsMoved_partner (s : State) (l c : Nat) (x : Lane) : (tapsMoved s l c x).partner = x.partner := by
  unfold tapsMoved
  split <;> rfl

/-- What a course tick leaves of a lane. -/
def laneAtTick (s : State) (e : Nat × Lane) : Lane := { tapsMoved s e.1 (nowCourse s) e.2 with codeErrs := 0, codeRaised := false }

theorem laneAtTick_partner (s : State) (e : Nat × Lane) : (laneAtTick s e).partner = e.2.partner := tapsMoved_partner ..

theorem codeErrTick_names (s : State) : Names s (codeErrTick s) := by
  refine putLanes_names (fun h => rises_filter (rises_map (fun _ => rfl) h)) fun h k x q hx hq => ?_
  have hr : Rises (s.lanes.map fun e => (e.1, laneAtTick s e)) := rises_map (fun _ => rfl) h
  have hk : smFind ((s.lanes.map fun e => (e.1, laneAtTick s e)).filter fun e => decide (e.2 ≠ Lane.reset)) k = some x := hx
  rw [smFind_filter hr, smFind_map_val (laneAtTick s)] at hk
  obtain ⟨hk, -⟩ := Option.filter_eq_some_iff.1 hk
  obtain ⟨y, hy, rfl⟩ := Option.map_eq_some_iff.1 hk
  rw [lane_partner_of_find hy]
  exact (laneAtTick_partner s (k, y)).symm.trans hq

theorem spanRestart_names (s : State) : Names s (spanRestart s) := by
  unfold spanRestart
  refine putLanes_names (fun h => rises_map (fun e => by split <;> rfl) h) fun _ k x q hx hq => ?_
  rw [show (s.lanes.map fun e => if e.2.phase == .active then (e.1, { e.2 with noData := true, checkFrom := none }) else e) =
      s.lanes.map fun e => (e.1, (fun e : Nat × Lane => if e.2.phase == .active then { e.2 with noData := true, checkFrom := none } else e.2) e) from
    List.map_congr_left fun e _ => by dsimp only; split <;> rfl, smFind_map_val] at hx
  obtain ⟨y, hy, rfl⟩ := Option.map_eq_some_iff.1 hx
  rw [lane_partner_of_find hy]
  dsimp only at hq
  split at hq <;> exact hq

theorem ownsAll_names (e : Nat) (s : State) : Names s (ownsAll e s) := by
  unfold ownsAll
  exact .forL (fun _ _ h => .step (modEngine_names ..) h) (State.modAsh_names _ s (fun _ h => h) fun _ h => h.map fun m => by split <;> exact ⟨rfl, rfl⟩)

theorem engineQueueError_names (e b : Nat) (s : State) : Names s (engineQueueError e b s) := by
  unfold engineQueueError
  repeat' (first
    | with_reducible (first
        | exact Names.refl _ | apply Names.does (account_does ..) rfl | apply Names.does (count_does ..) rfl | apply Names.step (modEngine_names ..))
    | split)

theorem ashlarHit_names (e : Nat) (residueGood : Bool) (s : State) : Names s (ashlarHit e residueGood s) := by
  unfold ashlarHit
  repeat' (first
    | with_reducible (first
        | exact Names.refl _ | assumption | apply Names.ite | apply Names.eccVisit | apply Names.step (engineQueueError_names ..)
        | apply Names.step (modEngine_names ..) | apply Names.does (refineHit_does ..) | apply Names.does (residueFailed_does ..))
    | decide | intro _ _ _ | intro _ _ | split)

theorem engineStop_names (e : Nat) (s : State) : Names s (engineStop e s) := by
  unfold engineStop
  repeat' (first
    | with_reducible (first
        | exact Names.refl _ | assumption | apply Names.forN | apply Names.forL | apply Names.does (account_does ..) rfl
        | apply Names.does (event_does ..) rfl | apply Names.step (modEngine_names ..) | apply Names.step (ownsAll_names ..))
    | intro _ _ _ | split)

theorem engineOff_names (e : Nat) (hold : Bool) (s : State) : Names s (engineOff e hold s) := by
  unfold engineOff
  repeat' with_reducible (first | exact Names.refl _ | apply Names.step (engineStop_names ..) | apply Names.step (modEngine_names ..))

theorem engineSync_names (e : Nat) (s : State) : Names s (engineSync e s) := by
  unfold engineSync
  repeat' with_reducible (first | exact Names.refl _ | apply Names.step (modEngine_names ..))

theorem engineIsolate_names (e : Nat) (s : State) : Names s (engineIsolate e s) := by
  unfold engineIsolate
  repeat' with_reducible (first | exact Names.refl _ | apply Names.step (engineStop_names ..) | apply Names.step (modEngine_names ..))

theorem engineActive_names (e : Nat) (s : State) : Names s (engineActive e s) := by
  unfold engineActive
  repeat' (first
    | with_reducible (first
        | exact Names.refl _ | assumption | apply Names.ite | apply Names.step (State.modAsh_names ..)
        | apply Names.does (event_does ..) rfl | apply Names.step (modEngine_names ..))
    | exact fun _ _ h => h | exact fun _ h => h)

theorem engineSyncDone_names (e : Nat) (s : State) : Names s (engineSyncDone e s) := by
  unfold engineSyncDone
  repeat' with_reducible (first
    | exact Names.refl _ | apply Names.ite | apply Names.step (engineActive_names ..) | apply Names.step (modEngine_names ..))

theorem migrationTake_names {m : Migration} (hm : m.to_ < 9) (s : State) : Names s (migrationTake m s) := by
  unfold migrationTake
  have free := State.modAsh_names (fun a => { a with reserved := false }) s (fun _ h => h) fun _ h => h
  dsimp only
  split
  · refine .does (ldgComplete_does ..) rfl (.does (raise_does ..) rfl (.step (engineActive_names ..) ?_))
    have taken (d : Bool) (y : Migration) : (if y.slot = m.slot then { y with taken := true, doubled := d } else y).former = y.former ∧
        (if y.slot = m.slot then { y with taken := true, doubled := d } else y).to_ = y.to_ := by split <;> exact ⟨rfl, rfl⟩
    refine .ite (.does (event_does ..) rfl (.step (modEngine_names ..) ?_)) ?_ <;>
      exact .step (State.modAsh_names _ _ (fun _ h => h) fun _ h => (h.set m.slot hm).map (taken _)) free
  · have done := Names.step (State.modAsh_names (fun a => { a with migrations := a.migrations.filter fun y => y.slot != m.slot }) _ (fun _ h => h) fun _ h => h.filter _) free
    exact .ite (.does (ldgComplete_does ..) rfl done) (.does (ldgComplete_does ..) rfl done)

theorem migrationTick_names (c : Nat) (s : State) : Names s (migrationTick c s) := by
  unfold migrationTick
  exact .of fun _ hn => Names.forL_mem fun m hm t => migrationTake_names (hn.migrations m (List.mem_filter.1 hm).1).2 t

theorem migrationDrainEnd_names (sl : Nat) (s : State) : Names s (migrationDrainEnd sl s) := by
  unfold migrationDrainEnd
  repeat' (first
    | with_reducible (first
        | exact Names.refl _ | assumption | apply Names.ite | apply Names.forL | apply Names.step (State.modAsh_names ..)
        | apply Names.does (account_does ..) | apply Names.does (count_does ..) | apply Names.step (engineSync_names ..)
        | apply Names.does (event_does ..) | apply Names.does (raise_does ..))
    | exact fun _ h => h | exact fun _ h => h.filter _ | decide | intro _ _ _ | split)

theorem slotEngine_lt {s : State} (h : NamesInRange s) (sl : Nat) : slotEngine s sl < 9 := by
  unfold slotEngine
  rw [List.getD_eq_getElem?_getD]
  cases hx : s.ash.slots[sl]? with
  | none => exact (by decide : 8 < 9)
  | some e => exact h.slots e (List.mem_of_getElem? hx)

theorem unmappedEngine_lt (s : State) : unmappedEngine s < 9 := by
  unfold unmappedEngine
  cases hx : (List.range 9).find? fun e => (engineSlot s e).isNone with
  | none => exact (by decide : 8 < 9)
  | some e => exact List.mem_range.1 (List.mem_of_find?_eq_some hx)

theorem migrateAccept_names (m sl : Nat) (s : State) : Names s (migrateAccept m sl s).1 := by
  unfold migrateAccept
  dsimp only
  refine .of fun _ hn => ?_
  split
  · exact .refl s
  · split
    · exact .refl s
    · refine State.modAsh_names (fun a => { a with reserved := true, migrations := a.migrations ++ [_] }) s (fun _ h => h) fun a h => ⟨h.1, fun x hx => ?_⟩
      rcases List.mem_append.1 hx with hx | hx
      · exact h.2 x hx
      · rw [List.mem_singleton.1 hx]
        exact ⟨slotEngine_lt hn sl, unmappedEngine_lt s⟩

end Sys2Proof.Machine
end

section
/-!
SUPPORT. The Gauge's converters keep to their own channels.
-/
namespace Sys2Proof.Machine

theorem modChan_names (c : Nat) (f : GauChan → GauChan) (s : State) : Names s (modChan c f s) :=
  State.modGau_names _ s (fun _ h => ⟨h.1, rises_upd h.2.1, h.2.2⟩) fun _ => rfl

theorem modOut_names (o : Nat) (f : GauOut → GauOut) (s : State) : Names s (modOut o f s) :=
  State.modGau_names _ s (fun _ h => ⟨h.1, h.2.1, rises_upd h.2.2⟩) fun _ => rfl

theorem settleTwo_names (c : Nat) (s : State) : Names s (settleTwo c s) := by
  unfold settleTwo
  repeat' with_reducible (first | exact Names.refl _ | apply Names.step (modChan_names ..))

/-- A converter's conversion ends. -/
theorem GauConv.InRange.ends {v : GauConv} {k : Nat} (h : v.InRange k) {x : GauConv} (hc : ∀ c, x.connected = some c → v.connected = some c) (hr : x.run = none) :
    x.InRange k := ⟨fun c hx => h.1 c (hc c hx), fun r hx => by rw [hr] at hx; cases hx⟩

theorem muxStep_names (k : Nat) (s : State) : Names s (muxStep k s) := by
  unfold muxStep
  have next := modConv_names k (fun v => { v with connected := nextChan s k (gauConv s k).connected, visit := 0, longStep := false }) s
    fun _ h => ⟨fun c hc => ((nextChan_next s k _).2 c hc).1, h.2⟩
  dsimp only
  split
  · split
    · exact .step (modChan_names ..) next
    · exact next
  · exact .refl s

theorem excApply_names (c : Nat) (s : State) : Names s (excApply c s) := by
  unfold excApply
  repeat' with_reducible (first | exact Names.refl _ | apply Names.ite | apply Names.step (modChan_names ..))

theorem excApplies_names (c : Nat) (s : State) : Names s (excApplies c s) := by
  unfold excApplies
  repeat' with_reducible (first | exact Names.refl _ | apply Names.ite | apply Names.step (excApply_names ..))

theorem settleAtStart_names (k c : Nat) (s : State) : Names s (settleAtStart k c s) := by
  unfold settleAtStart
  repeat' (first
    | with_reducible (first
        | exact Names.refl _ | assumption | apply Names.ite | apply Names.forL | apply Names.step (excApplies_names ..)
        | apply Names.step (settleTwo_names ..) | apply Names.step (modChan_names ..) | apply Names.step (modConv_names ..))
    | exact fun _ _ h => h | exact fun _ h => h | exact fun h => h | exact fun _ => rfl | decide | intro _ _ _ | intro _ _ | split)

theorem beginRun_names {k c : Nat} (hc : c ∈ convChans k) (s : State) : Names s (beginRun k c s) := by
  unfold beginRun
  exact .step (modConv_names _ _ _ fun _ _ => ⟨fun _ h => Option.some.inj h ▸ hc, fun _ h => Option.some.inj h ▸ hc⟩) (settleAtStart_names ..)

theorem modRun_names (k : Nat) {f : GauRun → GauRun} (hf : ∀ x, (f x).channel = x.channel) (s : State) : Names s (modRun k f s) :=
  modConv_names _ _ _ fun _ h => ⟨h.1, fun x hx => by
    obtain ⟨y, hy, rfl⟩ := Option.map_eq_some_iff.1 hx
    rw [hf]
    exact h.2 y hy⟩

theorem blankSeen_names (s : State) : Names s (blankSeen s) := by
  unfold blankSeen
  repeat' (first
    | with_reducible (first | exact Names.refl _ | assumption | apply Names.forN | apply Names.step (modRun_names ..))
    | exact fun _ => rfl | intro _ _ _)

theorem openSeen_names (c : Nat) (s : State) : Names s (openSeen c s) := by
  unfold openSeen
  repeat' (first
    | with_reducible (first | exact Names.refl _ | apply Names.step (modRun_names ..))
    | exact fun _ => rfl)

theorem startChan_mem {s : State} (h : NamesInRange s) {k c : Nat} (hc : startChan s k = some c) : c ∈ convChans k := by
  unfold startChan at hc
  split at hc
  · split at hc
    next hk =>
      split at hc
      · cases hc
        unfold convChans
        rw [if_pos hk]
        exact List.mem_singleton.2 rfl
      · cases hc
    · split at hc
      · cases hc
      · exact (h.gauge k).1 c hc
  · cases hc

/-- The channel whose integration is to begin begins it. -/
theorem startChan_begins (k : Nat) (s : State) : Names s (match startChan s k with | some c => beginRun k c s | none => s) := by
  refine .of fun _ hn => ?_
  split
  next c hc => exact beginRun_names (startChan_mem hn hc) s
  · exact .refl s

theorem integrationStart_names (k : Nat) (s : State) : Names s (integrationStart k s) := by
  unfold integrationStart
  exact .ite (.refl s) (startChan_begins k s)

theorem alignStart_names (s : State) : Names s (alignStart s) := by
  unfold alignStart
  refine .ite (.forN (fun k t h => .ite ?_ h) (.refl s)) (.refl s)
  exact .step (startChan_begins k _) (.ite (.step (muxStep_names k t) h) h)

theorem publishResult_names (c : Nat) (w : Word) (settle : Bool) (s : State) : Names s (publishResult c w settle s) := by
  unfold publishResult
  repeat' with_reducible (first | exact Names.refl _ | apply Names.step (modChan_names ..) | apply Names.does (setCell_does ..) rfl)

theorem conversionEnd_names (k : Nat) (r : GauReading) (s : State) : Names s (conversionEnd k r s) := by
  unfold conversionEnd
  dsimp only
  split
  next x _ =>
    have ended (b : Bool) {t : State} (ht : Names s t) : Names s (modConv k (fun v => { v with run := none, visit := v.visit + 1, longStep := b }) t) :=
      .step (modConv_names _ _ _ fun _ h => h.ends (fun _ h => h) rfl) ht
    have shown (f : GauChan → GauChan) (w : Word) (b : Bool) : Names s (modChan x.channel f (publishResult x.channel w b s)) :=
      .step (modChan_names ..) (publishResult_names ..)
    exact .ite (.does (raise_does ..) rfl (.does (event_does ..) rfl (ended _ (shown ..)))) (ended _ (shown ..))
  · exact .refl s

theorem gauOpenSet_names (c : Nat) (s : State) : Names s (gauOpenSet c s) := by
  unfold gauOpenSet
  repeat' with_reducible (first
    | exact Names.refl _ | apply Names.ite | apply Names.step (modChan_names ..) | apply Names.does (openRaised_does ..) rfl
    | apply Names.step (openSeen_names ..))

theorem gauOpenClear_names (c : Nat) (s : State) : Names s (gauOpenClear c s) := by
  unfold gauOpenClear
  repeat' with_reducible (first | exact Names.refl _ | apply Names.ite | apply Names.step (modChan_names ..) | apply Names.step (settleTwo_names ..))

theorem gauExcFault_names (c : Nat) (s : State) : Names s (gauExcFault c s) := by
  unfold gauExcFault
  repeat' with_reducible (first
    | exact Names.refl _ | apply Names.ite | apply Names.does (event_does ..) rfl | apply Names.step (modChan_names ..)
    | apply Names.step (openSeen_names ..) | apply Names.does (raise_does ..) rfl)

theorem excRetry_names (c : Nat) (within : Bool) (s : State) : Names s (excRetry c within s) := by
  unfold excRetry
  repeat' with_reducible (first | exact Names.refl _ | apply Names.ite | apply Names.step (modChan_names ..))

theorem burnoutCheck_names (k : Nat) (isOpen : Bool) (s : State) : Names s (burnoutCheck k isOpen s) := by
  unfold burnoutCheck
  repeat' (first
    | with_reducible (first
        | exact Names.refl _ | assumption | apply Names.ite | apply Names.step (modChan_names ..)
        | apply Names.does (openRaised_does ..) rfl | apply Names.step (settleTwo_names ..))
    | exact fun _ _ h => h | exact fun _ h => h | exact fun h => h | exact fun _ => rfl | decide | intro _ _ _ | intro _ _ | split)

theorem blankEdge_names (p : Nat) (asserted : Bool) (s : State) : Names s (blankEdge p asserted s) := by
  unfold blankEdge
  repeat' (first
    | with_reducible (first
        | exact Names.refl _ | assumption | apply Names.ite | apply Names.step (State.modGau_names ..)
        | apply Names.step (blankSeen_names ..))
    | exact fun _ _ h => h | exact fun _ h => h | exact fun h => h | exact fun _ => rfl | decide | intro _ _ _ | intro _ _ | split)

theorem excChanged_names (c : Nat) (s : State) : Names s (excChanged c s) := by
  unfold excChanged
  dsimp only
  have waits := modChan_names c (fun x => { x with excPending := true }) s
  split
  · exact .ite (.step (modConv_names _ _ _ fun _ h => h.ends (fun _ h => h) rfl) waits) waits
  · exact waits

theorem chCfgWritten_names (c : Nat) (old : Word) (s : State) : Names s (chCfgWritten c old s) := by
  unfold chCfgWritten
  repeat' with_reducible (first | exact Names.refl _ | apply Names.ite | apply Names.step (excChanged_names ..))

theorem gaugeStop_names (s : State) : Names s (gaugeStop s) := by
  unfold gaugeStop
  dsimp only
  have stopped : Names s (forN 21 (fun k => modConv k fun v => { v with run := none, connected := none, visit := 0, longStep := false, selfcal := false }) s) :=
    .forN (fun _ _ h => .step (modConv_names _ _ _ fun _ h => h.ends (fun _ h => nomatch h) rfl) h) (.refl s)
  exact .ite stopped (.forN (fun _ _ h => .step (modChan_names ..) h) stopped)

theorem gaugeAnalogueOn_names (s : State) : Names s (gaugeAnalogueOn s) := by
  unfold gaugeAnalogueOn
  repeat' (first
    | with_reducible (first | exact Names.refl _ | assumption | apply Names.forN | apply Names.step (modConv_names ..))
    | exact fun _ h => h | intro _ _ _)

theorem gaugeOutputsOff_names (s : State) : Names s (gaugeOutputsOff s) := by
  unfold gaugeOutputsOff
  repeat' (first
    | with_reducible (first | exact Names.refl _ | assumption | apply Names.forN | apply Names.step (modOut_names ..))
    | intro _ _ _)

theorem gaugeOutputsOn_names (s : State) : Names s (gaugeOutputsOn s) := by
  unfold gaugeOutputsOn
  repeat' (first
    | with_reducible (first | exact Names.refl _ | assumption | apply Names.forN | apply Names.step (modOut_names ..))
    | intro _ _ _)

theorem gauCtlWritten_names (old : Word) (s : State) : Names s (gauCtlWritten old s) := by
  unfold gauCtlWritten
  refine .ite (.refl s) (.forN (fun _ _ h => .step (modConv_names _ _ _ fun _ h => h.ends (fun c hc => ?_) rfl) h) (.refl s))
  dsimp only at hc
  split at hc
  · exact hc
  · cases hc

theorem gauGainWritten_names (k g : Nat) (s : State) : Names s (gauGainWritten k g s) := by
  unfold gauGainWritten
  repeat' (first
    | with_reducible (first | exact Names.refl _ | apply Names.step (modConv_names ..))
    | exact fun _ h => h)

theorem selfcalBegin_names (mask : Nat) (s : State) : Names s (selfcalBegin mask s) := by
  unfold selfcalBegin
  exact .forN (fun _ _ h => .ite (.step (modConv_names _ _ _ fun _ h => h.ends (fun _ h => nomatch h) rfl) h) h) (.refl s)

theorem selfcalConv_names (k : Nat) (rs : List GauCalReading) (s : State) : Names s (selfcalConv k rs s).1 := by
  unfold selfcalConv
  repeat' (first
    | with_reducible (first
        | exact Names.refl _ | assumption | apply Names.forN | apply Names.does (event_does ..) rfl | apply Names.step (modConv_names ..)
        | apply Names.does (raise_does ..) rfl | apply Names.does (setCell_does ..) rfl)
    | exact fun _ h => h | intro _ _ _ | split | dsimp only)

theorem selfcalEnd_names (mask : Nat) (rs : Nat → List GauCalReading) (s : State) : Names s (selfcalEnd mask rs s).1 := by
  unfold selfcalEnd
  dsimp only
  refine .does (event_does ..) rfl (.foldl1 (x := (s, 0, 0)) (fun a k h => ?_) (.refl s))
  split
  · exact .step (selfcalConv_names ..) h
  · exact h

theorem outMismatch_names (o : Nat) (s : State) : Names s (outMismatch o s) := by
  unfold outMismatch
  repeat' with_reducible (first
    | exact Names.refl _ | apply Names.ite | apply Names.does (event_does ..) rfl | apply Names.step (modOut_names ..)
    | apply Names.does (raise_does ..) rfl)

theorem outputPeriod_names (o : Nat) (r : GauReadback) (s : State) : Names s (outputPeriod o r s) := by
  unfold outputPeriod
  repeat' with_reducible (first | exact Names.refl _ | apply Names.ite | apply Names.step (outMismatch_names ..) | apply Names.step (modOut_names ..))

theorem outCfgWritten_names (o : Nat) (s : State) : Names s (outCfgWritten o s) := by
  unfold outCfgWritten
  repeat' with_reducible (first | exact Names.refl _ | apply Names.ite | apply Names.step (modOut_names ..))

end Sys2Proof.Machine
end

section
/-!
SUPPORT. The accept table holds identifiers given out; records, cells and uplinks give it none.
-/
namespace Sys2Proof.Machine

theorem throttle_names (s : State) : Names s (throttle s) := by
  unfold throttle
  repeat' (first
    | with_reducible (first
        | exact Names.refl _ | assumption | apply Names.ite | apply Names.forN | apply Names.step (State.modMrt_names ..)
        | apply Names.does (event_does ..) rfl | apply Names.does (modStream_does ..) rfl | apply Names.does (poolMoved_does ..) rfl
        | apply Names.does (raise_does ..) rfl)
    | exact fun _ _ h => h | exact fun _ h => h | exact fun h => h | exact fun _ => rfl | decide | intro _ _ _)

theorem submitPiece_names (id u : Nat) (s : State) : Names s (submitPiece id u s) := by
  unfold submitPiece
  repeat' (first
    | with_reducible (first | exact Names.refl _ | apply Names.ite | apply Names.does (enqueueRead_does ..) rfl | apply Names.step (State.modMrt_names ..))
    | exact fun _ h => h.map fun _ => by split <;> rfl
    | split)

theorem putEntry_names {e : AccEntry} {s : State} (he : e.id = s.mrt.nextId) : Names s (putEntry e s) := by
  unfold putEntry
  have put {x : State} (p : Bool) (hx : x.mrt = s.mrt) := State.modMrt_ids
    (fun m => { m with nextId := m.nextId + 1, table := if p then m.table else m.table ++ [e] }) x fun h => h.put (Nat.le_of_eq (he.trans (by rw [hx]))) _
  cases e.recs.isEmpty with
  | true => exact put true rfl
  | false =>
    have kept := eccWrite_does 6 0 (entrySlot e.id) s
    exact .step (put false (kept.only.same .mrt (by decide))) (.does kept rfl (.refl s))

theorem refuse_names (numbers : Option (Nat × Nat)) (isRecall : Bool) (number : Nat) (s : State) : Names s (refuse numbers isRecall number s) := by
  unfold refuse
  repeat' (first
    | with_reducible (first
        | exact Names.refl _ | assumption | apply Names.ite | apply Names.step (State.modMrt_names ..)
        | apply Names.does (count_does ..) rfl | apply Names.does (event_does ..) rfl | apply Names.does (raise_does ..) rfl)
    | exact fun _ _ h => h | exact fun _ h => h | exact fun h => h | exact fun _ => rfl | decide | intro _ _ _ | intro _ _ | split
    | dsimp only)

theorem refusalCloses_names (s : State) : Names s (refusalCloses s) := by
  unfold refusalCloses
  split
  · exact .ite (.refl s) (.step (putEntry_names rfl) (State.modMrt_names _ s fun _ h => h))
  · exact .refl s

theorem lossSummary_names (a b : Nat) (s : State) : Names s (lossSummary a b s) := by
  unfold lossSummary
  have lost : Names s (raise Src.mrtAccLost 0 (cap64 a ++ cap64 b) (event .mrtAccEvt 0 19 (count .mrtCntLost 0 31 0 ((b + 2 ^ 48 - a) % 2 ^ 48 + 1)
      (s.modMrt fun m => { m with lastMissing := some (a, b) })))) :=
    .does (raise_does ..) rfl (.does (event_does ..) rfl (.does (count_does ..) rfl (State.modMrt_names _ s fun _ h => h)))
  exact .ite (.step (refuse_names ..) lost) (.step (putEntry_names rfl) lost)

theorem enterMessage_names (m : AccMsg) (s : State) : Names s (enterMessage m s) := by
  unfold enterMessage
  refine .ite (refuse_names ..) ?_
  dsimp only
  have read {r : Nat} : Does [.regs, .flt, .port0, .port1] s (if r ≠ 0 then gapReport m r s else countWrap (if m.isRecall then .mrtCntRecall else .mrtCntAccept) 0 31 0 s) := by
    split
    · exact (gapReport_does ..).widen rfl
    · exact (countWrap_does ..).widen rfl
  refine .forL (fun g t h => .ite (.step (submitPiece_names ..) h) (.ite (.does (enqueueRead_does ..) rfl h) h)) (.step (putEntry_names ?_)
    (.step (State.modMrt_names _ _ fun _ h => h) (.does read rfl (.refl s))))
  exact (congrArg Mortar.nextId (read.only.same .mrt (by decide))).symm

theorem checkNumber_names (m : AccMsg) (s : State) : Names s (checkNumber m s) := by
  unfold checkNumber
  repeat' (first
    | with_reducible (first
        | exact Names.refl _ | assumption | apply Names.ite | apply Names.does (count_does ..) rfl
        | apply Names.step (enterMessage_names ..) | apply Names.does (event_does ..) rfl | apply Names.step (lossSummary_names ..)
        | apply Names.does (raise_does ..) rfl | apply Names.does (setExpected_does ..) rfl)
    | exact fun _ _ h => h | exact fun _ h => h | exact fun h => h | exact fun _ => rfl | decide | intro _ _ _ | intro _ _ | split)

theorem messageRx_names (isRecall : Bool) (d : Fin 2) (body : List Byte) (s : State) : Names s (messageRx isRecall d body s) := by
  unfold messageRx
  repeat' (first
    | with_reducible (first
        | exact Names.refl _ | apply Names.step (checkNumber_names ..) | apply Names.does (count_does ..) rfl
        | apply Names.step (enterMessage_names ..) | apply Names.does (event_does ..) rfl | apply Names.does (raise_does ..) rfl
        | apply Names.step (throttle_names ..))
    | split)

theorem buildGrows_names (id u : Nat) (s : State) : Names s (buildGrows id u s) := by
  unfold buildGrows
  repeat' (first
    | with_reducible (first
        | exact Names.refl _ | assumption | apply Names.ite | apply Names.forL | apply Names.step (throttle_names ..)
        | apply Names.step (modRec_names ..))
    | exact fun _ _ h => h | exact fun _ h => h | exact fun h => h | exact fun _ => rfl | decide | intro _ _ _ | intro _ _ | split)

theorem buildWaits_names (id u : Nat) (s : State) : Names s (buildWaits id u s) := by
  unfold buildWaits
  repeat' (first
    | with_reducible (first | exact Names.refl _ | apply Names.step (modEntry_names ..))
    | exact fun _ => rfl)

theorem extractionDone_names (u id : Nat) (faults : List ExtractFault) (s : State) : Names s (extractionDone u id faults s) := by
  unfold extractionDone
  repeat' (first
    | with_reducible (first
        | exact Names.refl _ | assumption | apply Names.ite | apply Names.forL | apply Names.step (buildWaits_names ..)
        | apply Names.does (ringUpset_does ..) rfl | apply Names.does (ringParts_does ..) rfl | apply Names.step (buildGrows_names ..)
        | apply Names.step (modGather_names ..) | apply Names.does (enqueueRead_does ..) rfl | apply Names.does (event_does ..) rfl)
    | exact fun _ _ h => h | exact fun _ h => h | exact fun h => h | exact fun _ => rfl | decide | intro _ _ _ | intro _ _ | split)

theorem deliverParts_names (r : QReq) (parts : List Part) (words : List (Nat × List DWord)) (s : State) : Names s (deliverParts r parts words s) := by
  unfold deliverParts
  repeat' with_reducible (first | exact Names.refl _ | apply Names.step (buildGrows_names ..) | apply Names.step (modGather_names ..))

theorem quarryRead_names (burst : List Nat) (s : State) : Names s (quarryRead burst s) := by
  unfold quarryRead
  repeat' (first
    | with_reducible (first
        | exact Names.refl _ | apply Names.does (replaceRead_does ..) rfl | apply Names.step (deliverParts_names ..)
        | apply Names.does (readCourse_does (by assumption)) rfl)
    | split | dsimp only)

theorem recallPiece_names (u : Nat) (s : State) : Names s (recallPiece u s) := by
  unfold recallPiece
  repeat' (first
    | with_reducible (first | exact Names.refl _ | apply Names.step (submitPiece_names ..))
    | split)

theorem fragComplete_names (e : AccEntry) (r : StreamRec) (body : List DWord) (use : CellUse) (s : State) : Names s (fragComplete e r body use s) := by
  unfold fragComplete
  repeat' with_reducible (first
    | exact Names.refl _ | apply Names.ite | apply Names.does (cellsWrite_does ..) rfl | apply Names.step (modRec_names ..)
    | apply Names.does (countWrap_does ..) rfl | apply Names.step (throttle_names ..) | apply Names.does (count_does ..) rfl)

theorem fragTry_names (e : AccEntry) (r : StreamRec) (g : Gather) (since : Nat) (s : State) : Names s (fragTry e r g since s) := by
  unfold fragTry
  repeat' (first
    | with_reducible (first
        | exact Names.refl _ | assumption | apply Names.ite | apply Names.does (count_does ..) rfl
        | apply Names.step (fragComplete_names ..) | apply Names.step (modRec_names ..) | apply Names.step (throttle_names ..)
        | apply Names.does (truncReport_does ..) rfl)
    | exact fun _ _ h => h | exact fun _ h => h | exact fun h => h | exact fun _ => rfl | decide | intro _ _ _ | intro _ _ | split
    | dsimp only)

theorem fragmentComplete_names (t id : Nat) (s : State) : Names s (fragmentComplete t id s) := by
  unfold fragmentComplete
  repeat' (first
    | with_reducible (first | exact Names.refl _ | apply Names.step (fragTry_names ..))
    | split)

theorem cellWait_names (t id : Nat) (s : State) : Names s (cellWait t id s) := by
  unfold cellWait
  repeat' (first
    | with_reducible (first | exact Names.refl _ | apply Names.step (fragTry_names ..) | apply Names.step (buildGrows_names ..))
    | split)

theorem headWaitExpiry_names (t : Nat) (s : State) : Names s (headWaitExpiry t s) := by
  unfold headWaitExpiry
  repeat' (first
    | with_reducible (first
        | exact Names.refl _ | apply Names.does (count_does ..) rfl | apply Names.step (fragComplete_names ..)
        | apply Names.does (truncReport_does ..) rfl)
    | split | dsimp only)

theorem cutBlock_names (u t : Nat) (s : State) : Names s (cutBlock u t s) := by
  unfold cutBlock
  repeat' (first
    | with_reducible (first
        | exact Names.refl _ | apply Names.ite | apply Names.does (count_does ..) rfl | apply Names.does (event_does ..) rfl
        | apply Names.does (initBoundary_does ..) rfl | apply Names.does (modStream_does ..) rfl | apply Names.does (raise_does ..) rfl
        | apply Names.does (requeue_does ..) rfl | apply Names.step (throttle_names ..))
    | split)

theorem cutUplink_names (u : Nat) (s : State) : Names s (cutUplink u s) := by
  unfold cutUplink
  repeat' (first
    | with_reducible (first | exact Names.refl _ | apply Names.step (cutBlock_names ..))
    | split)

theorem recordBlockSent_names (u : Nat) (s : State) : Names s (recordBlockSent u s) := by
  unfold recordBlockSent
  repeat' (first
    | with_reducible (first
        | exact Names.refl _ | apply Names.does (readOut_does ..) rfl | apply Names.does (modStream_does ..) rfl
        | apply Names.does (startBlock_does ..) rfl | apply Names.does (initBoundary_does ..) rfl | apply Names.step (throttle_names ..))
    | split | dsimp only)

theorem uplinkDown_names (u cause : Nat) (s : State) : Names s (uplinkDown u cause s) := by
  unfold uplinkDown
  repeat' with_reducible (first
    | exact Names.refl _ | apply Names.ite | apply Names.step (cutUplink_names ..) | apply Names.does (event_does ..) rfl
    | apply Names.does (modUplink_does ..) rfl | apply Names.does (raise_does ..) rfl)

theorem uplCheck_names (u : Nat) (s : State) : Names s (uplCheck u s) := by
  unfold uplCheck
  repeat' (first
    | with_reducible (first
        | exact Names.refl _ | apply Names.ite | apply Names.does (modUplink_does ..) rfl | apply Names.does (uplinkActive_does ..) rfl
        | apply Names.step (uplinkDown_names ..))
    | split)

theorem uplGroupCheck_names (h : Nat) (s : State) : Names s (uplGroupCheck h s) := by
  unfold uplGroupCheck
  repeat' (first
    | with_reducible (first
        | exact Names.refl _ | assumption | apply Names.forN | apply Names.does (startBlocks_does ..) rfl | apply Names.step (uplCheck_names ..))
    | intro _ _ _)

theorem uplCheckAll_names (s : State) : Names s (uplCheckAll s) := by
  unfold uplCheckAll
  repeat' (first
    | with_reducible (first
        | exact Names.refl _ | assumption | apply Names.forN | apply Names.does (startBlocks_does ..) rfl | apply Names.step (uplCheck_names ..))
    | intro _ _ _)

theorem uplPllLock_names (h : Nat) (s : State) : Names s (uplPllLock h s) := by
  unfold uplPllLock
  repeat' with_reducible (first
    | exact Names.refl _ | apply Names.ite | apply Names.does (modUplGroup_does ..) rfl | apply Names.step (uplGroupCheck_names ..))

theorem uplPllUnlock_names (h : Nat) (s : State) : Names s (uplPllUnlock h s) := by
  unfold uplPllUnlock
  repeat' (first
    | with_reducible (first
        | exact Names.refl _ | assumption | apply Names.ite | apply Names.forN | apply Names.does (event_does ..) rfl
        | apply Names.does (modUplGroup_does ..) rfl | apply Names.does (raise_does ..) rfl | apply Names.step (uplGroupCheck_names ..))
    | intro _ _ _)

theorem uplStop_names (s : State) : Names s (uplStop s) := by
  unfold uplStop
  repeat' (first
    | with_reducible (first | exact Names.refl _ | assumption | apply Names.forN | apply Names.step (cutUplink_names ..))
    | intro _ _ _)

theorem dropRec_names (id t : Nat) (s : State) : Names s (dropRec id t s) := by
  unfold dropRec
  have less := modEntry_names id (fun e => { e with recs := e.recs.filter fun r => !(r.stream == t) }) s fun _ => rfl
  exact .ite (.step (refusalCloses_names _) (.step (State.modMrt_names _ _ fun _ h => h.filter _) less)) less

theorem withdraw_names (s : State) : Names s (withdraw s) := by
  unfold withdraw
  exact .does (State.modQry_does _ _ fun _ h => h) rfl (State.modMrt_names _ s fun _ h => h.map fun _ => rfl)

theorem closeRecs_names (which : StreamRec → Bool) (p : RecPhase) (s : State) : Names s (closeRecs which p s) := by
  unfold closeRecs
  exact .step (throttle_names _) (.step (withdraw_names _) (State.modMrt_names _ s fun _ h => h.map fun _ => rfl))

theorem tableEntryError_names (b : Nat) (s : State) : Names s (tableEntryError b s) := by
  unfold tableEntryError
  exact .step (throttle_names _) (.step (withdraw_names _) (State.modMrt_names _ s fun _ h => h.map fun _ => by split <;> rfl))

theorem tableRead_names (id : Nat) (s : State) : Names s (tableRead id s) := by
  unfold tableRead
  exact .eccVisit (fun b _ h => .step (tableEntryError_names b _) h) (.refl s)

theorem releaseRead_names (t : Nat) (s : State) : Names s (releaseRead t s) := by
  unfold releaseRead
  repeat' (first
    | with_reducible (first | exact Names.refl _ | apply Names.step (tableRead_names ..))
    | split)

theorem recordRelease_names (t khz : Nat) (s : State) : Names s (recordRelease t khz s) := by
  unfold recordRelease
  repeat' (first
    | with_reducible (first
        | exact Names.refl _ | apply Names.step (releaseRead_names ..) | apply Names.does (count_does ..) rfl | apply Names.does (raise_does ..) rfl
        | apply Names.does (modStream_does ..) rfl | apply Names.does (startBlock_does ..) rfl | apply Names.step (throttle_names ..)
        | apply Names.step (dropRec_names ..))
    | split | dsimp only)

theorem flushStream_names (t : Nat) (s : State) : Names s (flushStream t s) := by
  unfold flushStream
  repeat' with_reducible (first
    | exact Names.refl _ | apply Names.step (closeRecs_names ..) | apply Names.does (count_does ..) rfl | apply Names.does (modStream_does ..) rfl
    | apply Names.does (startBlock_does ..) rfl)

theorem cellGap_names (u cell t id : Nat) (s : State) : Names s (cellGap u cell t id s) := by
  unfold cellGap
  repeat' with_reducible (first
    | exact Names.refl _ | apply Names.does (cellError_does ..) rfl | apply Names.step (modRec_names ..) | apply Names.step (throttle_names ..)
    | apply Names.step (withdraw_names ..))

theorem cellUncorr_names (u cell t key : Nat) (released : Bool) (s : State) : Names s (cellUncorr u cell t key released s) := by
  unfold cellUncorr
  repeat' (first
    | with_reducible (first
        | exact Names.refl _ | assumption | apply Names.ite | apply Names.does (cellError_does ..) rfl | apply Names.step (cellGap_names ..)
        | apply Names.does (modStream_does ..) rfl)
    | exact fun _ _ h => h | exact fun _ h => h | exact fun h => h | exact fun _ => rfl | decide | intro _ _ _ | intro _ _ | split)

theorem cellUncorrRow_names (u cell t key : Nat) (released : Bool) (s : State) : Names s (cellUncorrRow u cell t key released s) := by
  unfold cellUncorrRow
  repeat' with_reducible (first
    | exact Names.refl _ | apply Names.ite | apply Names.step (cellUncorr_names ..) | apply Names.does (count_does ..) rfl)

theorem cellsLost_names (bad : Nat → Bool) (s : State) : Names s (cellsLost bad s) := by
  unfold cellsLost
  repeat' (first
    | with_reducible (first | exact Names.refl _ | assumption | apply Names.forL | apply Names.step (cellUncorr_names ..))
    | intro _ _ _)

theorem bankLost_names (b : Nat) (s : State) : Names s (bankLost b s) := by
  unfold bankLost
  repeat' with_reducible (first | exact Names.refl _ | apply Names.step (cellsLost_names ..) | apply Names.does (poolMoved_does ..) rfl)

theorem unitCheck_names (u : Nat) (s : State) : Names s (unitCheck u s) := by
  unfold unitCheck
  repeat' (first
    | with_reducible (first
        | exact Names.refl _ | assumption | apply Names.ite | apply Names.step (State.modMrt_names ..)
        | apply Names.step (closeRecs_names ..) | apply Names.does (event_does ..) rfl | apply Names.does (poolMoved_does ..) rfl
        | apply Names.does (raise_does ..) rfl)
    | exact fun _ _ h => h | exact fun _ h => h)

theorem mortarStop_names (s : State) : Names s (mortarStop s) := by
  unfold mortarStop
  repeat' with_reducible (first | exact Names.refl _ | apply Names.step (closeRecs_names ..))

end Sys2Proof.Machine
end

section
/-!
SUPPORT. Read errors, register writes, power domains, trips and resets keep the names in range.
-/
namespace Sys2Proof.Machine

theorem sramAction_names (mem inst b master : Nat) (s : State) : Names s (sramAction mem inst b master s) := by
  unfold sramAction
  repeat' (first
    | with_reducible (first
        | exact Names.refl _ | assumption | apply Names.ite | apply Names.step (cellsLost_names ..)
        | apply Names.does (coderBuffer_does ..) rfl | apply Names.step (engineQueueError_names ..)
        | apply Names.does (lintelError_does ..) rfl | apply Names.does (logError_does ..) rfl
        | apply Names.does (openStoneError_does ..) rfl | apply Names.does (plbStoreError_does ..) rfl
        | apply Names.does (ringBlockError_does ..) rfl | apply Names.step (tableEntryError_names ..))
    | exact fun _ _ h => h | exact fun _ h => h | exact fun h => h | exact fun _ => rfl | decide | intro _ _ _ | intro _ _ | split)

theorem memoryReadError_names (mem inst b master : Nat) (parity : Bool) (s : State) : Names s (memoryReadError mem inst b master parity s) := by
  unfold memoryReadError
  repeat' with_reducible (first
    | exact Names.refl _ | apply Names.ite | apply Names.does (eccParity_does ..) rfl | apply Names.does (eccDamage_does ..) rfl
    | apply Names.step (sramAction_names ..) | apply Names.does (sramUncorrected_does ..) rfl)

theorem memoryRead_names (mem inst b : Nat) (e : SramError) (master : Nat) (s : State) : Names s (memoryRead mem inst b e master s) := by
  unfold memoryRead
  repeat' (first
    | with_reducible (first
        | exact Names.refl _ | apply Names.badReadOr | apply Names.does (stateParity_does ..) rfl | apply Names.step (memoryReadError_names ..)
        | apply Names.does (sramCorrected_does ..) rfl)
    | split)

theorem sramReadError_names (mem inst blk : Nat) (e : SramError) (master : Nat) (s : State) : Names s (sramReadError mem inst blk e master s) := by
  unfold sramReadError
  repeat' (first
    | with_reducible (first
        | exact Names.refl _ | apply Names.ite | apply Names.badReadOr | apply Names.does (stateParity_does ..) rfl
        | apply Names.does (tableReadError_does ..) rfl | apply Names.does (sramCorrected_does ..) rfl | apply Names.step (memoryRead_names ..))
    | split)

theorem partnersClear_names (g : Nat) (s : State) : Names s (partnersClear g s) := by
  unfold partnersClear
  repeat' (first
    | with_reducible (first
        | exact Names.refl _ | assumption | apply Names.forN | apply Names.forL | apply Names.does (clearFld_does ..) rfl
        | apply Names.step (modPartner_names ..) | apply Names.does (setCell_does ..) rfl)
    | intro _ _ _)

theorem writeEffect_names (p : Nat) (r : Reg) (i j : Nat) (old w : Word) (s : State) : Names s (writeEffect p r i j old w s) := by
  have gauge {t : State} (h : Names s t) : Names s (t.modBtr fun b => { b with gaugeOut := b.gaugeOut.move 1 }) := .does (State.modBtr_does _ _ fun _ h => h) rfl h
  have flt {t : State} (h : Names s t) : Names s (t.modBtr fun b => { b with cfgLock := b.cfgLock.move 1 }) := .does (State.modBtr_does _ _ fun _ h => h) rfl h
  unfold writeEffect
  repeat' (first
    | with_reducible (first
        | exact Names.refl _ | assumption | apply Names.ite | apply Names.does (State.modBtr_does ..) rfl
        | apply Names.does (State.modPort_does ..) rfl | apply Names.does (State.modQuo_does ..) rfl
        | apply Names.does (accResync_does ..) rfl | apply Names.step (blankSeen_names ..) | apply Names.does (btrInjectWrite_does ..) rfl
        | apply Names.step (chCfgWritten_names ..) | apply Names.does (clearRegs_does ..) rfl | apply Names.does (crsClear_does ..) rfl
        | apply Names.does (dlCfgWritten_does ..) rfl | apply Names.does (dlFcWrite_does ..) rfl | apply Names.does (engClear_does ..) rfl
        | apply Names.does (findBegin_does ..) rfl | apply Names.does (fltAckUptoWrite_does ..) rfl
        | apply Names.does (fltAckWrite_does ..) rfl | apply Names.does (fltClear_does ..) rfl
        | apply Names.does (fltDpCtlWrite_does ..) rfl | apply Names.step (flushStream_names ..) | apply Names.step (gauCtlWritten_names ..)
        | apply Names.step (gauGainWritten_names ..) | apply Names.step (grpCfgWritten_names ..) | apply Names.does (grpClear_does ..) rfl
        | apply Names.step (laneCfgWritten_names ..) | apply Names.does (ldgAck_does ..) rfl | apply Names.does (ldgSubmit_does ..) rfl
        | apply Names.does (lntClear_does ..) rfl | apply Names.lockBitWrite (fun _ h => flt h)
        | apply Names.lockBitWrite (fun _ h => gauge h) | apply Names.does (memClear_does ..) rfl
        | apply Names.does (memInjectWrite_does ..) rfl | apply Names.does (modCell_does ..) rfl | apply Names.does (molClear_does ..) rfl
        | apply Names.does (mrtClear_does ..) rfl | apply Names.step (outCfgWritten_names ..) | apply Names.step (partnersClear_names ..)
        | apply Names.does (pdelayWrite_does ..) rfl | apply Names.does (plbCtlWrite_does ..) rfl
        | apply Names.does (plbSigWritten_does ..) rfl | apply Names.does (qryClear_does ..) rfl
        | apply Names.does (quoTxCtlWrite_does ..) rfl | apply Names.does (retCheck_does ..) rfl | apply Names.does (setAdvance_does ..) rfl
        | apply Names.does (setCell_does ..) rfl | apply Names.does (snapBegin_does ..) rfl | apply Names.does (snapSelect_does ..) rfl
        | apply Names.does (startBlocks_does ..) rfl | apply Names.step (throttle_names ..) | apply Names.does (txqPop_does ..) rfl
        | apply Names.step (uplCheck_names ..))
    | exact fun _ h => h | exact fun _ => ⟨rfl, rfl⟩ | decide | split)

theorem writeReg_names (p : Nat) (r : Reg) (i j : Nat) (w : Word) (s : State) : Names s (writeReg p r i j w s) := by
  unfold writeReg
  repeat' with_reducible (first
    | exact Names.refl _ | apply Names.ite | apply Names.does (cbWrite_does ..) rfl | apply Names.does (lockWrite_does ..) rfl
    | apply Names.does (onceWrite_does ..) rfl | apply Names.does (ownerWrite_does ..) rfl | apply Names.does (setCell_does ..) rfl
    | apply Names.does (sqcWrite_does ..) rfl | apply Names.step (writeEffect_names ..))

theorem aliasWrite_names (p a : Nat) (w : Word) (s : State) : Names s (aliasWrite p a w s) := by
  unfold aliasWrite
  repeat' (first
    | with_reducible (first
        | exact Names.refl _ | apply Names.ite | apply Names.does (writeRefused_does ..) rfl | apply Names.step (writeReg_names ..)
        | apply Names.does (badAccess_does ..) rfl)
    | split)

theorem domainLeave_names (n : Nat) (hold : Bool) (s : State) : Names s (domainLeave n hold s) := by
  unfold domainLeave
  repeat' with_reducible (first
    | exact Names.refl _ | apply Names.ite | apply Names.step (bankLost_names ..) | apply Names.does (dlGroupDown_does ..) rfl
    | apply Names.step (engineOff_names ..) | apply Names.step (gaugeOutputsOff_names ..) | apply Names.step (gaugeStop_names ..)
    | apply Names.does (groupAvail_does ..) rfl | apply Names.step (groupDown_names ..) | apply Names.does (lintelOff_does ..) rfl
    | apply Names.does (modUplGroup_does ..) rfl | apply Names.does (portOff_does ..) rfl | apply Names.does (quarterCheck_does ..) rfl
    | apply Names.does (quoLinkLeaving_does ..) rfl | apply Names.does (retCheck_does ..) rfl | apply Names.step (throttle_names ..)
    | apply Names.step (unitCheck_names ..) | apply Names.step (uplGroupCheck_names ..))

theorem domainStart_names (n : Nat) (to_ : PowerPhase) (s : State) : Names s (domainStart n to_ s) := by
  unfold domainStart
  repeat' with_reducible (first
    | exact Names.refl _ | apply Names.ite | apply Names.step (domainLeave_names ..) | apply Names.does (modDomain_does ..) rfl
    | apply Names.does (stacksFollow_does ..) rfl)

theorem domainDown_names (n : Nat) (hold : Bool) (s : State) : Names s (domainDown n hold s) := by
  unfold domainDown
  repeat' with_reducible (first
    | exact Names.refl _ | apply Names.ite | apply Names.does (configDefaults_does ..) rfl | apply Names.step (engineOff_names ..)
    | apply Names.does (groupEmptied_does ..) rfl | apply Names.step (groupTapsLost_names ..) | apply Names.does (isolationEnds_does ..) rfl
    | apply Names.does (lintelOff_does ..) rfl | apply Names.does (plbOff_does ..) rfl | apply Names.does (quoLinkOff_does ..) rfl
    | apply Names.does (sramEmptied_does ..) rfl)

theorem domainUp_names (n : Nat) (fromHold : Bool) (s : State) : Names s (domainUp n fromHold s) := by
  unfold domainUp
  repeat' with_reducible (first
    | exact Names.refl _ | apply Names.ite | apply Names.does (dlGroupUp_does ..) rfl | apply Names.step (engineSync_names ..)
    | apply Names.step (gaugeAnalogueOn_names ..) | apply Names.step (gaugeOutputsOn_names ..) | apply Names.does (groupAvail_does ..) rfl
    | apply Names.step (groupUp_names ..) | apply Names.does (plbReturn_does ..) rfl | apply Names.does (poolMoved_does ..) rfl
    | apply Names.does (quarryCheck_does ..) rfl | apply Names.does (quoLinkOn_does ..) rfl | apply Names.does (repointerStart_does ..) rfl
    | apply Names.step (throttle_names ..) | apply Names.step (unitCheck_names ..) | apply Names.step (uplGroupCheck_names ..))

theorem domainSettled_names (n : Nat) (s : State) : Names s (domainSettled n s) := by
  unfold domainSettled
  repeat' (first
    | with_reducible (first
        | exact Names.refl _ | apply Names.does (domFailBit_does ..) rfl | apply Names.step (domainDown_names ..)
        | apply Names.step (domainUp_names ..) | apply Names.does (event_does ..) rfl | apply Names.does (modDomain_does ..) rfl
        | apply Names.does (stacksFollow_does ..) rfl)
    | split | dsimp only)

theorem domainFails_names (n : Nat) (opened : Bool) (rail measured : Nat) (s : State) : Names s (domainFails n opened rail measured s) := by
  unfold domainFails
  repeat' (first
    | with_reducible (first
        | exact Names.refl _ | apply Names.does (count_does ..) rfl | apply Names.does (domFailBit_does ..) rfl
        | apply Names.step (domainDown_names ..) | apply Names.does (event_does ..) rfl | apply Names.does (modDomain_does ..) rfl
        | apply Names.does (railFault_does ..) rfl | apply Names.does (raise_does ..) rfl | apply Names.does (stacksFollow_does ..) rfl)
    | split)

theorem volatileLost_names (p : Power) (s : State) : Names s (volatileLost p s) := by
  obtain ⟨-, -, -, -, named⟩ := resetIsSound
  exact ⟨fun hs _ => ⟨(volatileLost_does p s).tables hs, { named with }⟩⟩

/-- The power stage changes, its domains not. -/
theorem putPwr_names {s : State} {p : Power} (h : Rises s.pwr.domains → Rises p.domains) : Names s { s with pwr := p } :=
  ⟨fun hs hn => ⟨{ hs with domains := h hs.domains }, { hn with }⟩⟩

theorem protectiveTrip_names (cause : TripCause) (mv : Nat) (temps : List (BitVec 16)) (s : State) : Names s (protectiveTrip cause mv temps s) := by
  unfold protectiveTrip
  refine .ite (.refl s) (.ite (putPwr_names fun h => h) (.does (Does.put_jtag (L := [.jtag]) rfl (.refl _ _)) rfl (.step (volatileLost_names ..) (.does (cnsTrip_does ..) rfl (.refl s)))))

theorem measureUpdate_names (mv ma dw : Nat) (temps rails : List (BitVec 16)) (s : State) : Names s (measureUpdate mv ma dw temps rails s) := by
  unfold measureUpdate
  repeat' with_reducible (first
    | exact Names.refl _ | apply Names.ite | apply Names.does (measuresTaken_does ..) rfl | apply Names.step (protectiveTrip_names ..))

theorem inputValid_names (s : State) : Names s (inputValid s) := by
  unfold inputValid
  exact .ite (.refl s) (.does (Does.put_jtag (L := [.jtag]) rfl (.refl _ _)) rfl (volatileLost_names ..))

theorem tripLatchClear_names (s : State) : Names s (tripLatchClear s) := by
  unfold tripLatchClear
  exact .ite (.refl s) (.ite (inputValid_names s) (.ite (putPwr_names fun h => h) (.refl s)))

theorem foundRstAssert_names (s : State) : Names s (foundRstAssert s) := by
  unfold foundRstAssert
  have pinned : Names s (s.modPwr fun p => { p with resetPin := true }) := putPwr_names fun h => h
  exact .ite (.step (volatileLost_names ..) (.does (cnsFlush_does ..) rfl (.does (cnsPost_does ..) rfl pinned))) pinned

theorem foundationResetDone_names (low : Bool) (control : BitVec 3) (s : State) : Names s (foundationResetDone low control s) := by
  unfold foundationResetDone
  obtain ⟨-, rises, -⟩ := resetIsSound
  exact .ite (.ite (putPwr_names fun h => h) (.does (cnsStart_does ..) rfl (.step (putPwr_names fun _ => rises.domains) (volatileLost_names s.pwr s)))) (.refl s)

end Sys2Proof.Machine
end

section
/-!
SUPPORT. Lodge commands keep the names in range.
-/
namespace Sys2Proof.Machine

theorem powerNext_names (m : Nat) (to_ : PowerPhase) (failed named changed l : List Nat) (s : State) : Names s (powerNext m to_ failed named changed l s) := by
  induction l with
  | nil => exact .does (ldgComplete_does ..) rfl (.refl s)
  | cons a t ih => exact .ite ih (.does (setWait_does ..) rfl (domainStart_names ..))

theorem powerGoesOn_names (n : Nat) (fails : Bool) (s : State) : Names s (powerGoesOn n fails s) := by
  unfold powerGoesOn
  repeat' (first
    | with_reducible (first
        | exact Names.refl _ | assumption | apply Names.foldl | apply Names.foldl2 | apply Names.foldl22 | apply Names.step (powerNext_names ..))
    | intro _ _ _ | split)

theorem powerSetStart_names (m : Nat) (x : LdgCmd) (s : State) : Names s (powerSetStart m x s) := by
  unfold powerSetStart
  repeat' (first
    | with_reducible (first
        | exact Names.refl _ | assumption | apply Names.ite | apply Names.does (ldgAtOnce_does ..) rfl | apply Names.ldgChecks
        | apply Names.does (ldgRun_does ..) rfl | apply Names.step (powerNext_names ..))
    | intro _ _)

theorem domainChangeDone_names (n : Nat) (s : State) : Names s (domainChangeDone n s) := by
  unfold domainChangeDone
  repeat' with_reducible (first
    | exact Names.refl _ | apply Names.ite | apply Names.step (domainSettled_names ..) | apply Names.step (powerGoesOn_names ..))

theorem pwrDomainFail_names (n : Nat) (opened : Bool) (rail measured : Nat) (s : State) : Names s (pwrDomainFail n opened rail measured s) := by
  unfold pwrDomainFail
  repeat' with_reducible (first
    | exact Names.refl _ | apply Names.ite | apply Names.step (domainFails_names ..) | apply Names.step (powerGoesOn_names ..))

theorem bindRefusal_last {s : State} {p f n : Nat} (h : bindRefusal s p f n = 0) : f + n < 256 := by
  by_contra hn
  unfold bindRefusal at h
  dsimp only at h
  rw [if_pos (show 255 < f + n from Nat.lt_of_not_le fun k => hn (Nat.lt_succ_of_le k))] at h
  split at h
  · cases h
  · split at h <;> cases h

/-- A binding of a partner that exists waits for the course tick. -/
theorem bindWaits_names {p m : Nat} {e : Option Binding} (hp : p < 64) (he : ∀ b, e = some b → b.firstLane + b.lanesM1 < 256) (s : State) :
    Names s { s with bindPending := s.bindPending ++ [⟨p, m, e⟩] } :=
  putPending_names fun x hx => (List.mem_append.1 hx).imp id fun h => by
    rw [List.mem_singleton.1 h]
    exact ⟨hp, he⟩

theorem partnerBindStart_names (m : Nat) (x : LdgCmd) (s : State) : Names s (partnerBindStart m x s) := by
  unfold partnerBindStart
  have hp : fld (x.w 1) 21 16 < 64 := fld_lt (x.w 1) 21 16
  refine .ldgChecks (fun t h => .step ?_ h) (.refl s)
  dsimp only
  refine .ite (.ite (.does (ldgAtOnce_does ..) rfl (.refl t)) (.does (ldgRun_does ..) rfl (bindWaits_names hp (fun _ h => by cases h) t))) ?_
  by_cases hr : bindRefusal t (fld (x.w 1) 21 16) (fld (x.w 1) 15 8) (fld (x.w 1) 2 0) = 0
  · rw [if_neg (by rw [hr]; decide)]
    exact .does (ldgRun_does ..) rfl (bindWaits_names hp (fun b h => Option.some.inj h ▸ bindRefusal_last hr) t)
  · rw [if_pos hr]
    exact .does (ldgAtOnce_does ..) rfl (.refl t)

theorem partnerConfigStart_names (m : Nat) (x : LdgCmd) (s : State) : Names s (partnerConfigStart m x s) := by
  unfold partnerConfigStart
  repeat' (first
    | with_reducible (first
        | exact Names.refl _ | assumption | apply Names.does (ldgAtOnce_does ..) rfl | apply Names.ldgChecks | apply Names.does (ldgRun_does ..) rfl
        | apply Names.step (modPartner_names ..))
    | intro _ _ _ | intro _ _ | split)

theorem partnerConfigGoes_names (m : Nat) (r : LdgRun) (s : State) : Names s (partnerConfigGoes m r s) := by
  unfold partnerConfigGoes
  repeat' (first
    | with_reducible (first | exact Names.refl _ | assumption | apply Names.does (ldgComplete_does ..) rfl | apply Names.step (modPartner_names ..))
    | intro _ _ _ | split)

theorem configAnswered_names (s : State) : Names s (configAnswered s) := by
  unfold configAnswered
  repeat' (first
    | with_reducible (first
        | exact Names.refl _ | assumption | apply Names.foldl | apply Names.foldl2 | apply Names.foldl22 | apply Names.does (ldgComplete_does ..) rfl
        | apply Names.step (modPartner_names ..))
    | intro _ _ _ | split)

theorem burirFrame_names (l : Nat) (chars : List Byte) (closed codeError : Bool) (lag : Nat) (s : State) : Names s (burirFrame l chars closed codeError lag s) := by
  unfold burirFrame
  repeat' with_reducible (first | exact Names.refl _ | apply Names.step (blockRx_names ..) | apply Names.step (configAnswered_names ..))

theorem partnerCfgTimeout_names (p : Nat) (s : State) : Names s (partnerCfgTimeout p s) := by
  unfold partnerCfgTimeout
  repeat' with_reducible (first | exact Names.refl _ | apply Names.step (cfgTimeout_names ..) | apply Names.step (configAnswered_names ..))

theorem laneTrainStart_names (m : Nat) (x : LdgCmd) (s : State) : Names s (laneTrainStart m x s) := by
  unfold laneTrainStart
  repeat' (first
    | with_reducible (first
        | exact Names.refl _ | assumption | apply Names.ite | apply Names.foldl | apply Names.foldl1 | apply Names.foldl2
        | apply Names.foldl22 | apply Names.step (laneRelease_names ..) | apply Names.step (laneRetrain_names ..)
        | apply Names.does (ldgAtOnce_does ..) rfl | apply Names.ldgChecks)
    | exact fun _ _ h => h | exact fun _ h => h | exact fun h => h | exact fun _ => rfl | decide | intro _ _ _ | intro _ _ | split)

theorem engineMigrateStart_names (m : Nat) (x : LdgCmd) (s : State) : Names s (engineMigrateStart m x s) := by
  unfold engineMigrateStart
  repeat' (first
    | with_reducible (first
        | exact Names.refl _ | assumption | apply Names.ite | apply Names.does (ldgAtOnce_does ..) rfl | apply Names.ldgChecks
        | apply Names.does (ldgRun_does ..) rfl | apply Names.step (migrateAccept_names ..))
    | intro _ _)

theorem gaugeSelfcalStart_names (m : Nat) (x : LdgCmd) (s : State) : Names s (gaugeSelfcalStart m x s) := by
  unfold gaugeSelfcalStart
  repeat' (first
    | with_reducible (first
        | exact Names.refl _ | assumption | apply Names.ldgChecks | apply Names.does (ldgRun_does ..) rfl | apply Names.step (selfcalBegin_names ..))
    | intro _ _)

theorem gaugeSelfcalGoes_names (readings : List (List GauCalReading)) (m : Nat) (r : LdgRun) (s : State) : Names s (gaugeSelfcalGoes readings m r s) := by
  unfold gaugeSelfcalGoes
  repeat' (first
    | with_reducible (first
        | exact Names.refl _ | assumption | apply Names.forN | apply Names.does (ldgComplete_does ..) rfl | apply Names.step (modConv_names ..)
        | apply Names.step (selfcalEnd_names ..))
    | exact fun _ h => h | intro _ _ _ | split)

end Sys2Proof.Machine
end

section
/-!
SUPPORT. A course tick keeps the names in range.
-/
namespace Sys2Proof.Machine

theorem perCourse_names (s : State) : Names s (perCourse s) :=
  have reset := Names.does (retrainCountReset_does _) rfl (codeErrTick_names s)
  ⟨fun hs hn => ⟨(perCourse_does s).tables hs, (reset.keeps hs hn).2.keep rfl rfl rfl rfl rfl rfl⟩⟩

theorem bindingsTick_names (c : Nat) (s : State) : Names s (bindingsTick c s) := by
  unfold bindingsTick
  repeat' (first
    | with_reducible (first
        | exact Names.refl _ | assumption | apply Names.forL | apply Names.does (bindComplete_does ..) rfl | apply Names.step (bindTick_names ..))
    | intro _ _ _)

theorem stepThree_names (c : Nat) (s : State) : Names s (stepThree c s) := by
  unfold stepThree
  repeat' with_reducible (first
    | exact Names.refl _ | apply Names.ite | apply Names.does (applyTick_does ..) rfl | apply Names.step (bindingsTick_names ..)
    | apply Names.does (swapsTick_does ..) rfl)

theorem quoinTick_names (c : Nat) (o : TickObs) (startFree : Bool) (req : Option (Fin 2 × Bool)) (s : State) : Names s (quoinTick c o startFree req s) := by
  unfold quoinTick
  repeat' (first
    | with_reducible (first
        | exact Names.refl _ | assumption | apply Names.ite | apply Names.forL | apply Names.does (State.modQuo_does ..) rfl
        | apply Names.does (measureChecks_does ..) rfl | apply Names.step (modPartner_names ..)
        | apply Names.does (quoTickDelay_does ..) rfl | apply Names.does (quoTickLock_does ..) rfl
        | apply Names.does (quoTickNominal_does ..) rfl | apply Names.does (quoTickSwitch_does ..) rfl
        | apply Names.does (quoTickXo_does ..) rfl | apply Names.does (selectsTick_does ..) rfl
        | apply Names.does (servoFreeAcquire_does ..) rfl | apply Names.does (uplRefBack_does ..) rfl)
    | exact fun _ _ h => h | exact fun _ h => h | exact fun h => h | exact fun _ => rfl | decide | intro _ _ _)

theorem isolate_names (x : IsoPending) (s : State) : Names s (isolate x s) := by
  unfold isolate
  repeat' (first
    | with_reducible (first
        | exact Names.refl _ | assumption | apply Names.ite | apply Names.does (State.modFlt_does ..) rfl
        | apply Names.step (engineIsolate_names ..) | apply Names.does (event_does ..) rfl | apply Names.step (gaugeStop_names ..)
        | apply Names.does (groupAvail_does ..) rfl | apply Names.step (groupDown_names ..) | apply Names.does (lintelIsolate_does ..) rfl
        | apply Names.does (plbIsolated_does ..) rfl | apply Names.does (portOff_does ..) rfl | apply Names.does (quarryCheck_does ..) rfl
        | apply Names.does (quarterCheck_does ..) rfl | apply Names.does (retCheck_does ..) rfl | apply Names.step (throttle_names ..)
        | apply Names.step (unitCheck_names ..) | apply Names.step (uplGroupCheck_names ..))
    | exact fun _ _ h => h | exact fun _ h => h | exact fun h => h | exact fun _ => rfl | decide | intro _ _ _ | intro _ _ | split)

theorem enginesDiscard_names (s : State) : Names s (enginesDiscard s) := by
  unfold enginesDiscard
  repeat' (first
    | with_reducible (first | exact Names.refl _ | assumption | apply Names.ite | apply Names.forN | apply Names.step (modEngine_names ..))
    | intro _ _ _)

theorem dataPlaneStop_names (source : Nat) (s : State) : Names s (dataPlaneStop source s) := by
  unfold dataPlaneStop
  repeat' (first
    | with_reducible (first
        | exact Names.refl _ | assumption | apply Names.ite | apply Names.forN | apply Names.step (enginesDiscard_names ..)
        | apply Names.does (event_does ..) rfl | apply Names.does (State.modFlt_does ..) rfl | apply Names.does (quarryCheck_does ..) rfl
        | apply Names.does (quarterCheck_does ..) rfl | apply Names.step (throttle_names ..) | apply Names.does (lintelStop_does ..) rfl
        | apply Names.step (uplStop_names ..) | apply Names.step (mortarStop_names ..) | apply Names.does (plbFire_does ..) rfl)
    | exact fun _ _ h => h | exact fun _ h => h | exact fun h => h | exact fun _ => rfl | decide | intro _ _ _)

theorem dataPlaneRestart_names (c : Nat) (s : State) : Names s (dataPlaneRestart c s) := by
  unfold dataPlaneRestart
  repeat' (first
    | with_reducible (first
        | exact Names.refl _ | assumption | apply Names.ite | apply Names.does (State.modFlt_does ..) rfl
        | apply Names.does (cnsPost_does ..) rfl | apply Names.does (event_does ..) rfl | apply Names.step (throttle_names ..)
        | apply Names.does (startBlocks_does ..) rfl | apply Names.does (lintelRestart_does ..) rfl
        | apply Names.step (spanRestart_names ..) | apply Names.does (quarryCheck_does ..) rfl)
    | exact fun _ _ h => h | exact fun _ h => h)

theorem stepFive_names (c : Nat) (s : State) : Names s (stepFive c s) := by
  unfold stepFive
  repeat' (first
    | with_reducible (first
        | exact Names.refl _ | assumption | apply Names.ite | apply Names.forL | apply Names.does (State.modFlt_does ..) rfl
        | apply Names.step (dataPlaneRestart_names ..) | apply Names.step (dataPlaneStop_names ..) | apply Names.step (isolate_names ..)
        | apply Names.step (mortarStop_names ..))
    | exact fun _ _ h => h | exact fun _ h => h | exact fun h => h | exact fun _ => rfl | decide | intro _ _ _ | intro _ _ | split
    | dsimp only)

theorem stepTwo_names (c : Nat) (o : TickObs) (s : State) (v : State × List (Nat × Option Nat)) (h : Names s v.1) : Names s (stepTwo c o v) := by
  unfold stepTwo
  repeat' with_reducible (first
    | assumption | apply Names.does (quoTickLatch_does ..) rfl | apply Names.does (countersTick_does ..) rfl
    | apply Names.does (btrInject_does ..) rfl | apply Names.step (perCourse_names ..) | apply Names.does (btrReports_does ..) rfl
    | apply Names.does (ringRelease_does ..) rfl | apply Names.does (closeCourse_does ..) rfl)

theorem stepFour_names (c : Nat) (o : TickObs) (startFree : Bool) (d : TickDue) (s : State) : Names s (stepFour c o startFree d s) := by
  unfold stepFour
  repeat' with_reducible (first
    | exact Names.refl _ | apply Names.ite | apply Names.does (resolveMaps_does ..) rfl | apply Names.does (movesTick_does ..) rfl
    | apply Names.step (migrationTick_names ..) | apply Names.step (quoinTick_names ..) | apply Names.step (uplCheckAll_names ..)
    | apply Names.does (lintelConflicts_does ..) rfl)

theorem stepLast_names (c : Nat) (s : State) : Names s (stepLast c s) := by
  unfold stepLast
  repeat' (first
    | with_reducible (first
        | exact Names.refl _ | assumption | apply Names.ite | apply Names.forN | apply Names.step (offenceTick_names ..)
        | apply Names.does (statusBeacons_does ..) rfl | apply Names.does (quoTickWorst_does ..) rfl
        | apply Names.does (serviceTick_does ..) rfl)
    | exact fun _ _ h => h | exact fun _ h => h | exact fun h => h | exact fun _ => rfl | decide | intro _ _ _)

theorem courseTick_names (o : TickObs) (s : State) : Names s (courseTick o s) := by
  unfold courseTick
  repeat' with_reducible (first
    | exact Names.refl _ | apply stepTwo_names | apply Names.does (btrVote_does ..) rfl | apply Names.does (courseRest_does ..) rfl
    | apply Names.does (tickSignal_does ..) rfl | apply Names.step (stepLast_names ..) | apply Names.step (stepFive_names ..)
    | apply Names.does (quarryTick_does ..) rfl | apply Names.step (stepFour_names ..) | apply Names.step (stepThree_names ..))

end Sys2Proof.Machine
end

section
/-!
SUPPORT. What every row keeps of the names in range; O7.
-/
namespace Sys2Proof.Machine

theorem next_names {s t u : State} (hf : Names s u) (h : (.next u : Host.Outcome State Fault Refusal) = .next t) : Names s t := by
  cases h
  exact hf

theorem upNext_names {f : State → State} {s t : State} (hf : Names s (f s)) (h : upNext f s = .next t) : Names s t :=
  next_names (.ite hf (.refl s)) h

theorem hostRow_names {p off : Nat} {w : Word} {s t : State} (h : hostRow p off w s = .next t) : Names s t := by
  unfold hostRow hostWrite at h
  split at h
  · split at h
    · exact next_names (.does (writeRefused_does ..) rfl (.refl s)) h
    · split at h
      · exact next_names (.ite (.does (msixTableWrite_does ..) rfl (.refl s)) (.refl s)) h
      · split at h
        · exact next_names (.refl s) h
        · split at h
          · cases h
          · exact next_names (writeReg_names ..) h
  · exact next_names (.refl s) h

theorem Names.lodgeRow {op m : Nat} {start : LdgCmd → State → State} {goOn : LdgRun → State → State} {s : State} (hs : ∀ x t, Names t (start x t))
    (hg : ∀ r t, Names t (goOn r t)) : Names s (lodgeRow op m start goOn s) := by
  unfold Machine.lodgeRow
  split
  · exact .ite (hg ..) (.refl s)
  · split
    · exact .ite (hs ..) (.refl s)
    · exact .refl s

/-- Every command keeps ordered tables and names in range: one that touches a part that holds names, by its row. -/
theorem exec_names {c : Instr} {s t : State} (h : exec c s = .next t) : Names s t := by
  cases c
  case courseTick => exact upNext_names (courseTick_names ..) h
  case downlinkFrame => exact upNext_names (downlinkFrame_names ..) h
  case laneEnableWrite => exact hostRow_names h
  case flush => exact hostRow_names h
  case resync => exact hostRow_names h
  case uplLinkEnableWrite => exact hostRow_names h
  case snapshotSelect => exact hostRow_names h
  case sqcClearWrite => exact hostRow_names h
  case cntClr => exact hostRow_names h
  case registerWrite => exact hostRow_names h
  case onceWrite => exact hostRow_names h
  case gauChannelConfigWrite => exact hostRow_names h
  case laneSignalDetect => exact upNext_names (laneSignalDetect_names ..) h
  case laneTrainDone => exact upNext_names (laneTrainDone_names ..) h
  case laneTrainTimeout => exact upNext_names (laneTrainTimeout_names ..) h
  case laneExchangeTimeout => exact upNext_names (laneExchangeTimeout_names ..) h
  case laneSyncAcquired => exact upNext_names (laneSyncAcquired_names ..) h
  case exchangeBlockRx => exact upNext_names (f := fun t => exchangeBlockRx _ _ _ (noteLoss t)) (.step (exchangeBlockRx_names ..) (.does (noteLoss_does s) rfl (.refl s))) h
  case laneLossOfSignal => exact upNext_names (laneLossOfSignal_names ..) h
  case laneCdrUnlock => exact upNext_names (laneCdrUnlock_names ..) h
  case laneSyncLoss => exact upNext_names (laneSyncLoss_names ..) h
  case laneCodeError => exact upNext_names (laneCodeError_names ..) h
  case burirDataFrame => exact upNext_names (burirFrame_names ..) h
  case configResponseFrame => exact upNext_names (burirFrame_names ..) h
  case spanTimeout => exact upNext_names (spanTimeout_names ..) h
  case partnerCfgTimeout => exact upNext_names (partnerCfgTimeout_names ..) h
  case ashlarHit => exact upNext_names (ashlarHit_names ..) h
  case engineSyncDone => exact upNext_names (f := fun t => engineSyncDone _ (noteLoss t)) (.step (engineSyncDone_names ..) (.does (noteLoss_does s) rfl (.refl s))) h
  case migrationDrainEnd => exact upNext_names (migrationDrainEnd_names ..) h
  case quarryRead => exact upNext_names (quarryRead_names ..) h
  case sramReadError => exact upNext_names (sramReadError_names ..) h
  case accept => exact upNext_names (messageRx_names ..) h
  case recallMessage => exact upNext_names (messageRx_names ..) h
  case recallPieceSubmit => exact upNext_names (recallPiece_names ..) h
  case extractionDone => exact upNext_names (extractionDone_names ..) h
  case fragmentComplete => exact upNext_names (fragmentComplete_names ..) h
  case recordRelease => exact upNext_names (recordRelease_names ..) h
  case cellWait => exact upNext_names (cellWait_names ..) h
  case headWaitExpiry => exact upNext_names (headWaitExpiry_names ..) h
  case mrtCellUncorr => exact upNext_names (cellUncorrRow_names ..) h
  case mrtUnitOut => exact upNext_names (f := fun t => throttle (unitCheck _ t)) (.step (throttle_names _) (unitCheck_names ..)) h
  case recordBlockSent => exact upNext_names (recordBlockSent_names ..) h
  case uplPllUnlock => exact upNext_names (uplPllUnlock_names ..) h
  case uplPllLock => exact upNext_names (uplPllLock_names ..) h
  case bitAliasWrite => exact upNext_names (.ite (aliasWrite_names ..) (.refl s)) h
  case powerSet => exact upNext_names (.lodgeRow (powerSetStart_names _) fun _ t => .refl t) h
  case partnerBind => exact upNext_names (.lodgeRow (partnerBindStart_names _) fun _ t => .refl t) h
  case partnerConfig => exact upNext_names (.lodgeRow (partnerConfigStart_names _) (partnerConfigGoes_names _)) h
  case laneTrain => exact upNext_names (.lodgeRow (laneTrainStart_names _) fun _ t => .refl t) h
  case engineMigrate => exact upNext_names (.lodgeRow (engineMigrateStart_names _) fun _ t => .refl t) h
  case gaugeSelfcal => exact upNext_names (.lodgeRow (gaugeSelfcalStart_names _) (gaugeSelfcalGoes_names _ _)) h
  case conversionEnd => exact upNext_names (conversionEnd_names ..) h
  case multiplexerStep => exact upNext_names (muxStep_names ..) h
  case burnoutCheck => exact upNext_names (burnoutCheck_names ..) h
  case gauAlignStart => exact upNext_names (alignStart_names ..) h
  case gauOpen => exact upNext_names (gauOpenSet_names ..) h
  case gauOpenClear => exact upNext_names (gauOpenClear_names ..) h
  case gauExcFault => exact upNext_names (gauExcFault_names ..) h
  case excRetry => exact upNext_names (excRetry_names ..) h
  case blankEdge => exact next_names (blankEdge_names ..) h
  case gauOutputPeriod => exact upNext_names (outputPeriod_names ..) h
  case integrationStart => exact upNext_names (integrationStart_names ..) h
  case domainChangeDone => exact upNext_names (domainChangeDone_names ..) h
  case pwrDomainFail => exact upNext_names (pwrDomainFail_names ..) h
  case pwrMeasureUpdate => exact next_names (.ite (measureUpdate_names ..) (.does (stageRead_does ..) rfl (.refl s))) h
  case protectiveTrip => exact next_names (protectiveTrip_names ..) h
  case tripLatchClear => exact next_names (tripLatchClear_names ..) h
  case inputValid => exact next_names (inputValid_names ..) h
  case foundRstAssert => exact next_names (foundRstAssert_names ..) h
  case foundationResetDone => exact next_names (foundationResetDone_names ..) h
  all_goals exact .does (exec_does h) rfl (.refl s)

/-- Settles O7: every operation on a part that holds names gives it no name out of range, and what touches no such part keeps them. -/
theorem namesStayInRange : Obligations.NamesStayInRange := by
  intro s t hs hn h
  unfold step at h
  split at h
  next c rest _ =>
    have front : TablesRise { s with pending := rest } := (Does.put_pending (L := [.pending]) rfl (.refl _ _)).tables hs
    exact ((exec_names h).keeps front (hn.keep rfl rfl rfl rfl rfl rfl)).2
  next =>
    cases h
    exact ((Names.ite (.does (idleCycle_does s) rfl (.refl s)) (.refl s) : Names s (whenUp idleCycle s)).keeps hs hn).2

end Sys2Proof.Machine
end

section
/-!
SUPPORT. What the operations of a course tick leave: event bits once set, the time latched, the moves of the streams, and what steers the fault plane.
-/
namespace Sys2Proof.Machine

/-- The parts that hold event bits, the fault plane's steering, the time latched and the streams. -/
def holdsSteady : Zone → Bool
  | .regs | .flt | .quo | .streams => true
  | _ => false

/-- What steers steps of the course tick: isolations, a stop and a restart that wait, and the stop in force. -/
def Faults.steers (f : Faults) : List IsoPending × Option Nat × Option Nat × Bool × Nat := (f.isoPending, f.stopPending, f.stopped, f.restartPending, f.restartSeq)

/-- Event bits of FLT_EVT and QUO_EVT stay set, targets stay isolated, and HST_CB, QUO_SWITCH_MAX, the latched time, the moves and the steering stay as
they are; with `k`, no report on its way is taken back. -/
structure SteadyAt (k : Bool) (s t : State) : Prop where
  fltEvt : ∀ b : Nat, 16 ≤ b → bit (cell s .fltEvt) b = true → bit (cell t .fltEvt) b = true
  quoEvt : ∀ b : Nat, 16 ≤ b → bit (cell s .quoEvt) b = true → bit (cell t .quoEvt) b = true
  hold : cell t .hstCb = cell s .hstCb
  limit : cell t .quoSwitchMax = cell s .quoSwitchMax
  time : t.quo.tickTime = s.quo.tickTime
  moves : ∀ q : Nat, (stream t q).move = (stream s q).move
  steers : t.flt.steers = s.flt.steers
  isolated : ∀ x ∈ s.flt.isolated, x ∈ t.flt.isolated
  told : k = true → ∀ r ∈ s.flt.flying, r ∈ t.flt.flying

theorem SteadyAt.refl (k : Bool) (s : State) : SteadyAt k s s :=
  ⟨fun _ _ h => h, fun _ _ h => h, rfl, rfl, rfl, fun _ => rfl, rfl, fun _ h => h, fun _ _ h => h⟩

theorem SteadyAt.trans {k : Bool} {s t u : State} (h : SteadyAt k s t) (g : SteadyAt k t u) : SteadyAt k s u where
  fltEvt b hb x := g.fltEvt b hb (h.fltEvt b hb x)
  quoEvt b hb x := g.quoEvt b hb (h.quoEvt b hb x)
  hold := g.hold.trans h.hold
  limit := g.limit.trans h.limit
  time := g.time.trans h.time
  moves q := (g.moves q).trans (h.moves q)
  steers := g.steers.trans h.steers
  isolated x hx := g.isolated x (h.isolated x hx)
  told hk x hx := g.told hk x (h.told hk x hx)

/-- What the four parts leave. -/
theorem SteadyAt.keep {k : Bool} {s t : State} (h1 : t.regs = s.regs) (h2 : t.flt = s.flt) (h3 : t.quo = s.quo) (h4 : t.streams = s.streams) : SteadyAt k s t where
  fltEvt _ _ h := by rwa [cell_regs h1]
  quoEvt _ _ h := by rwa [cell_regs h1]
  hold := cell_regs h1 ..
  limit := cell_regs h1 ..
  time := by rw [h3]
  moves q := by rw [stream_of h4]
  steers := by rw [h2]
  isolated _ h := by rwa [h2]
  told _ _ h := by rwa [h2]

/-- Going from `s` to `t`, ordered tables stay so and the tick's concerns stay steady. -/
structure Steady (k : Bool) (s t : State) : Prop where
  keeps : TablesRise s → TablesRise t ∧ SteadyAt k s t

theorem Steady.refl {k : Bool} (s : State) : Steady k s s := ⟨fun h => ⟨h, .refl k s⟩⟩

theorem Steady.step {k : Bool} {s x u : State} (g : Steady k x u) (h : Steady k s x) : Steady k s u :=
  ⟨fun hs => have hx := h.keeps hs; have hu := g.keeps hx.1; ⟨hu.1, hx.2.trans hu.2⟩⟩

theorem Steady.ite {k : Bool} {c : Prop} {_ : Decidable c} {s a b : State} (ha : Steady k s a) (hb : Steady k s b) : Steady k s (if c then a else b) := by
  split <;> assumption

theorem Steady.forL {k : Bool} {α : Type} {s x : State} {l : List α} {f : α → State → State} (hf : ∀ i t, Steady k s t → Steady k s (f i t)) (h : Steady k s x) :
    Steady k s (Machine.forL l f x) := by
  induction l generalizing x with
  | nil => exact h
  | cons a l ih => exact ih (hf a x h)

theorem Steady.forN {k : Bool} {s x : State} {n : Nat} {f : Nat → State → State} (hf : ∀ i t, Steady k s t → Steady k s (f i t)) (h : Steady k s x) : Steady k s (Machine.forN n f x) := by
  induction n with
  | zero => exact h
  | succ n ih => rw [forN_succ]; exact hf n _ ih

theorem Steady.times {k : Bool} {s x : State} {n : Nat} {f : State → State} (hf : ∀ t, Steady k s t → Steady k s (f t)) (h : Steady k s x) : Steady k s (Machine.times f n x) := by
  induction n generalizing x with
  | zero => exact h
  | succ n ih => exact ih (hf _ h)

/-- What leaves the four parts alone is steady. -/
theorem Steady.does {k : Bool} {L : List Zone} {s x u : State} (g : Does L x u) (hL : L.all (fun z => !holdsSteady z) = true) (h : Steady k s x) : Steady k s u := by
  refine .step ⟨fun hs => ⟨g.tables hs, ?_⟩⟩ h
  have apart {z : Zone} (hz : holdsSteady z = true) : z ∉ L := fun hm => by
    have := List.all_eq_true.1 hL z hm
    rw [hz] at this
    cases this
  exact .keep (g.only.same _ (apart (z := .regs) rfl)) (g.only.same _ (apart (z := .flt) rfl)) (g.only.same _ (apart (z := .quo) rfl))
    (g.only.same _ (apart (z := .streams) rfl))

/-! ### Registers -/

/-- The registers that steadiness watches. -/
def watched : List Reg := [.fltEvt, .quoEvt, .hstCb, .quoSwitchMax]

/-- No entry of the register lies at one that is watched: it lies behind all, or its one block lies between two. -/
def sparesWatched (r : Reg) : Bool :=
  let p := r.place
  let top := p.base + (p.per - 1) * p.stride
  decide (0x50014 < p.base) || (p.blk == 0 && decide (0 < p.per) && (decide (0x18 < p.base) && decide (top < 0x20008) || (decide (0x20008 < p.base) && decide (top < 0x50010))))

theorem regOff_ge (r : Reg) (i j : Nat) : r.place.base ≤ regOff r i j := by
  unfold regOff
  dsimp only
  rw [Nat.add_assoc, Nat.add_assoc]
  exact Nat.le_add_right _ _

theorem regOff_le {r : Reg} (hb : r.place.blk = 0) (hp : 0 < r.place.per) (i : Nat) : regOff r i ≤ r.place.base + (r.place.per - 1) * r.place.stride := by
  unfold regOff
  dsimp only
  rw [hb, Nat.mul_zero, Nat.zero_mul, Nat.add_zero, Nat.add_zero]
  exact Nat.add_le_add_left (Nat.mul_le_mul_right _ (Nat.le_sub_one_of_lt (Nat.mod_lt _ hp))) _

theorem watched_off {r : Reg} (h : r ∈ watched) : regOff r = 0x20008 ∨ regOff r = 0x50010 ∨ regOff r = 0x18 ∨ regOff r = 0x50014 := by
  simp only [watched, List.mem_cons, List.not_mem_nil, or_false] at h
  rcases h with rfl | rfl | rfl | rfl
  · exact .inl rfl
  · exact .inr (.inl rfl)
  · exact .inr (.inr (.inl rfl))
  · exact .inr (.inr (.inr rfl))

theorem sparesWatched_off {r : Reg} (h : sparesWatched r = true) (i : Nat) {x : Reg} (hx : x ∈ watched) : regOff x ≠ regOff r i := by
  have off := watched_off hx
  have ge := regOff_ge r i 0
  unfold sparesWatched at h
  rcases Bool.or_eq_true_iff.1 h with h | h
  · have := of_decide_eq_true h
    omega
  · obtain ⟨h, hr⟩ := Bool.and_eq_true_iff.1 h
    obtain ⟨hb, hp⟩ := Bool.and_eq_true_iff.1 h
    have le := regOff_le (eq_of_beq hb) (of_decide_eq_true hp) i
    rcases Bool.or_eq_true_iff.1 hr with hr | hr <;>
    · obtain ⟨h1, h2⟩ := Bool.and_eq_true_iff.1 hr
      have := of_decide_eq_true h1
      have := of_decide_eq_true h2
      omega

/-- The watched registers stay, and nothing but registers changes. -/
theorem SteadyAt.of_cells {k : Bool} {s t : State} (h : ∀ x ∈ watched, cell t x = cell s x) (hf : t.flt = s.flt) (hq : t.quo = s.quo) (hs : t.streams = s.streams) :
    SteadyAt k s t :=
  have same {x : Reg} (hx : x ∈ watched) : cell t x = cell s x := h x hx
  { SteadyAt.keep (k := k) (s := s) (t := { t with regs := s.regs }) rfl hf hq hs with
    fltEvt := fun b _ hb => by rwa [same (by decide)]
    quoEvt := fun b _ hb => by rwa [same (by decide)]
    hold := same (by decide)
    limit := same (by decide) }

theorem setCell_steady {k : Bool} {r : Reg} (hr : sparesWatched r = true) (i : Nat) (w : Word) (s : State) : Steady k s (setCell r i 0 w s) :=
  ⟨fun hs => ⟨(setCell_does ..).tables hs, .of_cells (fun _ hx => cell_setCell_other hs.regs _ (sparesWatched_off hr i hx)) rfl rfl rfl⟩⟩

theorem modCell_steady {k : Bool} {r : Reg} (hr : sparesWatched r = true) (i : Nat) (f : Word → Word) (s : State) : Steady k s (modCell r i 0 f s) := setCell_steady hr i _ s

theorem count_steady {k : Bool} {r : Reg} (hr : sparesWatched r = true) (i hi lo n : Nat) (s : State) : Steady k s (count r i hi lo n s) := setCell_steady hr i _ s

theorem countWrap_steady {k : Bool} {r : Reg} (hr : sparesWatched r = true) (i hi lo : Nat) (s : State) : Steady k s (countWrap r i hi lo s) := setCell_steady hr i _ s

/-- An event leaves the four parts, its register apart. -/
theorem event_others (r : Reg) (i b : Nat) (s : State) : (event r i b s).quo = s.quo ∧ (event r i b s).flt = s.flt ∧ (event r i b s).streams = s.streams :=
  have k := (event_does r i b s).only
  ⟨k.same .quo (by decide), k.same .flt (by decide), k.same .streams (by decide)⟩

theorem event_steady {k : Bool} {r : Reg} (hr : sparesWatched r = true) (i b : Nat) (s : State) : Steady k s (event r i b s) := by
  obtain ⟨hq, hf, hst⟩ := event_others r i b s
  exact ⟨fun hs => ⟨(event_does ..).tables hs, .of_cells (fun _ hx => cell_event_other hs.regs _ _ _ (sparesWatched_off hr i hx)) hf hq hst⟩⟩

/-- An event sets its bit and clears none. -/
theorem bit_event_set {s : State} (hs : TablesRise s) (r : Reg) {i b c : Nat} (hc : 16 ≤ c) (h : c = b ∧ c < 32 ∨ bit (cell s r i) c = true) :
    bit (cell (event r i b s) r i) c = true := by
  have hc32 : c < 32 := h.elim And.right fun h => Nat.lt_of_not_le fun hn => by rw [bit, BitVec.getLsbD_of_ge _ _ hn] at h; cases h
  rw [cell_event hs.regs]
  unfold bit at h ⊢
  rw [bit_setFld, if_neg (by omega), bit_setBit, decide_eq_true hc32, Bool.true_and]
  split
  · rfl
  next hn => exact h.elim (fun k => absurd k.1 hn) id

theorem watched_apart : ∀ r ∈ watched, ∀ x ∈ watched, x ≠ r → regOff x ≠ regOff r := by decide

/-- An event of a watched register leaves the other ones. -/
theorem cell_event_watched {s : State} (hs : TablesRise s) {r x : Reg} (hr : r ∈ watched) (hx : x ∈ watched) (h : x ≠ r) (b : Nat) : cell (event r 0 b s) x = cell s x :=
  cell_event_other hs.regs _ _ _ (watched_apart r hr x hx h)

theorem event_steady_fltEvt {k : Bool} (b : Nat) (s : State) : Steady k s (event .fltEvt 0 b s) := by
  obtain ⟨hq, hf, hst⟩ := event_others .fltEvt 0 b s
  refine ⟨fun hs => ⟨(event_does ..).tables hs, ?_⟩⟩
  have other {x : Reg} (hx : x ∈ watched) (hn : x ≠ .fltEvt) := cell_event_watched hs (r := .fltEvt) (by decide) hx hn b
  exact { SteadyAt.keep (k := k) (s := s) (t := { event .fltEvt 0 b s with regs := s.regs }) rfl hf hq hst with
    fltEvt := fun c hc h => bit_event_set hs _ hc (.inr h)
    quoEvt := fun c _ h => by rwa [other (by decide) (by decide)]
    hold := other (by decide) (by decide)
    limit := other (by decide) (by decide) }

theorem event_steady_quoEvt {k : Bool} (b : Nat) (s : State) : Steady k s (event .quoEvt 0 b s) := by
  obtain ⟨hq, hf, hst⟩ := event_others .quoEvt 0 b s
  refine ⟨fun hs => ⟨(event_does ..).tables hs, ?_⟩⟩
  have other {x : Reg} (hx : x ∈ watched) (hn : x ≠ .quoEvt) := cell_event_watched hs (r := .quoEvt) (by decide) hx hn b
  exact { SteadyAt.keep (k := k) (s := s) (t := { event .quoEvt 0 b s with regs := s.regs }) rfl hf hq hst with
    fltEvt := fun c _ h => by rwa [other (by decide) (by decide)]
    quoEvt := fun c hc h => bit_event_set hs _ hc (.inr h)
    hold := other (by decide) (by decide)
    limit := other (by decide) (by decide) }

/-! ### The other parts -/

/-- No register changes, no move and nothing of the time: the fault plane may. -/
theorem SteadyAt.of_flt {k : Bool} {s t : State} (h : SteadyAt k s { t with flt := s.flt }) (hs : t.flt.steers = s.flt.steers)
    (hi : ∀ x ∈ s.flt.isolated, x ∈ t.flt.isolated) (ht : k = true → ∀ r ∈ s.flt.flying, r ∈ t.flt.flying) : SteadyAt k s t :=
  { h with steers := hs, isolated := hi, told := ht }

theorem State.modFlt_steady {k : Bool} (f : Faults → Faults) (s : State) (hr : ∀ y, Rises y.srcs → Rises (f y).srcs) (hf : ∀ y, (f y).steers = y.steers)
    (hi : ∀ y, ∀ x ∈ y.isolated, x ∈ (f y).isolated) (ht : k = true → ∀ y, ∀ x ∈ y.flying, x ∈ (f y).flying) : Steady k s (s.modFlt f) :=
  ⟨fun hs => ⟨{ hs with srcs := hr _ hs.srcs }, .of_flt (.refl k s) (hf _) (hi _) fun hk => ht hk _⟩⟩

theorem raise_steady {k : Bool} (src idx : Nat) (cap : List Word) (s : State) (tgt : Target) (m a : Nat) : Steady k s (raise src idx cap s tgt m a) :=
  ⟨fun hs => ⟨(raise_does ..).tables hs, .of_flt (.refl k s) rfl (fun _ h => h) fun _ => (tells_raise src idx cap s tgt m a).told⟩⟩

theorem State.modQuo_steady {k : Bool} (f : Quoin → Quoin) (s : State) (hf : ∀ y, (f y).tickTime = y.tickTime) : Steady k s (s.modQuo f) :=
  ⟨fun hs => ⟨{ hs with }, { SteadyAt.refl k s with time := hf _ }⟩⟩

theorem modStream_steady {k : Bool} (t : Nat) (f : Stream → Stream) (s : State) (hf : ∀ y, (f y).move = y.move) : Steady k s (modStream t f s) := by
  refine ⟨fun hs => ⟨(modStream_does ..).tables hs, { SteadyAt.refl k s with moves := fun q => ?_ }⟩⟩
  by_cases h : q = t
  · subst h
    rw [stream_modStream hs.streams, hf]
  · rw [stream_modStream_other hs.streams h]

end Sys2Proof.Machine
end

section
/-!
SUPPORT. The operations of steps 4 and 5 of a course tick are steady.
-/
namespace Sys2Proof.Machine

theorem addAccount_steady {k : Bool} (g : Nat) (x : Account) (s : State) : Steady k s (addAccount g x s) := by
  unfold addAccount
  repeat' (first
    | with_reducible (first
        | exact Steady.refl _ | assumption | apply Steady.ite | apply Steady.step (count_steady ..) | apply Steady.step (modCell_steady ..)
        | apply Steady.does (modGroup_does ..) rfl | apply Steady.step (raise_steady ..))
    | exact fun _ _ h => h | exact fun _ h => h | exact fun h => h | exact fun _ => rfl | rfl | intro _ _ _ | intro _ _ | split | dsimp only)

theorem account_steady {k : Bool} (p cause first last cnt : Nat) (s : State) : Steady k s (account p cause first last cnt s) := by
  unfold account
  repeat' (first
    | with_reducible (first | exact Steady.refl _ | apply Steady.step (addAccount_steady ..))
    | split)

theorem openLossAccount_steady {k : Bool} (l lossCause : Nat) (s : State) : Steady k s (openLossAccount l lossCause s) := by
  unfold openLossAccount
  repeat' (first
    | with_reducible (first | exact Steady.refl _ | apply Steady.does (modGroup_does ..) rfl | apply Steady.step (addAccount_steady ..))
    | split)

theorem delayMeasureLost_steady {k : Bool} (l : Nat) (s : State) : Steady k s (delayMeasureLost l s) := by
  unfold delayMeasureLost
  repeat' (first
    | with_reducible (first
        | exact Steady.refl _ | assumption | apply Steady.ite | apply Steady.step (State.modQuo_steady ..)
        | apply Steady.does (modDl_does ..) rfl)
    | exact fun _ _ h => h | exact fun _ h => h | exact fun h => h | exact fun _ => rfl | rfl | intro _ _ _ | intro _ _ | split)

theorem leaveActive_steady {k : Bool} (l cause : Nat) (s : State) : Steady k s (leaveActive l cause s) := by
  unfold leaveActive
  repeat' (first
    | with_reducible (first
        | exact Steady.refl _ | assumption | apply Steady.ite | apply Steady.step (delayMeasureLost_steady ..)
        | apply Steady.step (event_steady_quoEvt ..) | apply Steady.step (event_steady_fltEvt ..) | apply Steady.step (event_steady ..)
        | apply Steady.does (modLane_does ..) rfl | apply Steady.step (openLossAccount_steady ..) | apply Steady.step (raise_steady ..))
    | exact fun _ _ h => h | exact fun _ h => h | exact fun h => h | exact fun _ => rfl | rfl)

theorem unleave_steady (l : Nat) (m : LaneLeft) (host : Bool) (s : State) : Steady false s (unleave l m host s) := by
  unfold unleave
  repeat' (first
    | with_reducible (first
        | exact Steady.refl _ | assumption | apply Steady.ite | apply Steady.step (setCell_steady ..)
        | apply Steady.step (modCell_steady ..) | apply Steady.does (modDl_does ..) rfl | apply Steady.does (modLane_does ..) rfl
        | apply Steady.step (State.modFlt_steady ..))
    | exact fun h => absurd h Bool.false_ne_true | exact fun _ _ h => h | exact fun _ h => h | exact fun h => h | exact fun _ => rfl | rfl
    | intro _ _ _ | intro _ _ | split)

theorem beforeLeave_steady (l rank : Nat) (host : Bool) (s : State) : Steady false s (beforeLeave l rank host s) := by
  unfold beforeLeave
  repeat' (first
    | with_reducible (first | exact Steady.refl _ | apply Steady.does (modLane_does ..) rfl | apply Steady.step (unleave_steady ..))
    | split)

theorem enterQuarantine_steady (l cause : Nat) (s : State) : Steady false s (enterQuarantine l cause s) := by
  unfold enterQuarantine
  repeat' (first
    | with_reducible (first
        | exact Steady.refl _ | assumption | apply Steady.ite | apply Steady.step (leaveActive_steady ..)
        | apply Steady.step (beforeLeave_steady ..) | apply Steady.does (modLane_does ..) rfl | apply Steady.step (raise_steady ..)
        | apply Steady.step (event_steady_quoEvt ..) | apply Steady.step (event_steady_fltEvt ..) | apply Steady.step (event_steady ..))
    | exact fun _ _ h => h | exact fun _ h => h | exact fun h => h | exact fun _ => rfl | rfl)

theorem forceDown_steady (l cause : Nat) (s : State) : Steady false s (forceDown l cause s) := by
  unfold forceDown
  repeat' with_reducible (first
    | exact Steady.refl _ | apply Steady.ite | apply Steady.does (enterDown_does ..) rfl | apply Steady.step (leaveActive_steady ..)
    | apply Steady.step (beforeLeave_steady ..) | apply Steady.does (modLane_does ..) rfl)

theorem groupDown_steady (g cause : Nat) (s : State) : Steady false s (groupDown g cause s) := by
  unfold groupDown
  repeat' (first
    | with_reducible (first | exact Steady.refl _ | assumption | apply Steady.forN | apply Steady.step (forceDown_steady ..))
    | intro _ _ _)

theorem modDom_steady {k : Bool} (d : Fin 2) (f : QDomain → QDomain) (s : State) : Steady k s (modDom d f s) := by
  unfold modDom
  repeat' (first
    | with_reducible (first | exact Steady.refl _ | apply Steady.step (State.modQuo_steady ..))
    | exact fun _ => rfl | split)

theorem setServo_steady {k : Bool} (v : Servo) (s : State) : Steady k s (setServo v s) := by
  unfold setServo
  repeat' (first
    | with_reducible (first | exact Steady.refl _ | apply Steady.step (State.modQuo_steady ..))
    | exact fun _ => rfl)

theorem modClock_steady {k : Bool} (p : Nat) (f : PartnerClock → PartnerClock) (s : State) : Steady k s (modClock p f s) := by
  unfold modClock
  repeat' (first
    | with_reducible (first | exact Steady.refl _ | apply Steady.step (State.modQuo_steady ..))
    | exact fun _ => rfl)

theorem quoTickLock_steady {k : Bool} (d : Fin 2) (phaseOk : Bool) (s : State) : Steady k s (quoTickLock d phaseOk s) := by
  unfold quoTickLock
  repeat' with_reducible (first
    | exact Steady.refl _ | apply Steady.ite | apply Steady.step (event_steady_quoEvt ..) | apply Steady.step (modDom_steady ..)
    | apply Steady.step (raise_steady ..))

theorem quoTickXo_steady {k : Bool} (o : TickObs) (s : State) : Steady k s (quoTickXo o s) := by
  unfold quoTickXo
  repeat' (first
    | with_reducible (first
        | exact Steady.refl _ | assumption | apply Steady.ite | apply Steady.step (State.modQuo_steady ..)
        | apply Steady.step (raise_steady ..) | apply Steady.step (setServo_steady ..))
    | exact fun _ _ h => h | exact fun _ h => h | exact fun h => h | exact fun _ => rfl)

theorem quoTickNominal_steady {k : Bool} (startFree : Bool) (s : State) : Steady k s (quoTickNominal startFree s) := by
  unfold quoTickNominal
  repeat' (first
    | with_reducible (first | exact Steady.refl _ | apply Steady.step (State.modQuo_steady ..))
    | exact fun _ => rfl | split)

theorem switchTo_steady {k : Bool} (d : Fin 2) (auto : Bool) (s : State) : Steady k s (switchTo d auto s) := by
  unfold switchTo
  repeat' (first
    | with_reducible (first
        | exact Steady.refl _ | assumption | apply Steady.ite | apply Steady.step (State.modQuo_steady ..)
        | apply Steady.step (event_steady_quoEvt ..) | apply Steady.step (event_steady_fltEvt ..) | apply Steady.step (event_steady ..)
        | apply Steady.step (raise_steady ..) | apply Steady.step (setServo_steady ..))
    | exact fun _ _ h => h | exact fun _ h => h | exact fun h => h | exact fun _ => rfl | rfl | intro _ _ _ | intro _ _ | split | dsimp only)

theorem holdoverReturn_steady {k : Bool} (s : State) : Steady k s (holdoverReturn s) := by
  unfold holdoverReturn
  repeat' (first
    | with_reducible (first
        | exact Steady.refl _ | assumption | apply Steady.ite | apply Steady.step (State.modQuo_steady ..)
        | apply Steady.step (raise_steady ..) | apply Steady.step (setServo_steady ..))
    | exact fun _ _ h => h | exact fun _ h => h | exact fun h => h | exact fun _ => rfl)

theorem servoFreeAcquire_steady {k : Bool} (s : State) : Steady k s (servoFreeAcquire s) := by
  unfold servoFreeAcquire
  repeat' (first
    | with_reducible (first
        | exact Steady.refl _ | assumption | apply Steady.ite | apply Steady.step (State.modQuo_steady ..)
        | apply Steady.step (event_steady_quoEvt ..) | apply Steady.step (event_steady_fltEvt ..) | apply Steady.step (event_steady ..)
        | apply Steady.step (setServo_steady ..))
    | exact fun _ _ h => h | exact fun _ h => h | exact fun h => h | exact fun _ => rfl)

theorem servoAutomatic_steady {k : Bool} (c : Nat) (o : TickObs) (s : State) : Steady k s (servoAutomatic c o s) := by
  unfold servoAutomatic
  repeat' with_reducible (first
    | exact Steady.refl _ | apply Steady.ite | apply Steady.step (holdoverReturn_steady ..) | apply Steady.step (switchTo_steady ..))

theorem domainRequest_steady {k : Bool} (c : Nat) (o : TickObs) (d : Fin 2) (force : Bool) (s : State) : Steady k s (domainRequest c o d force s).1 := by
  unfold domainRequest
  repeat' (first
    | with_reducible (first
        | exact Steady.refl _ | assumption | apply Steady.ite | apply Steady.step (event_steady_quoEvt ..)
        | apply Steady.step (event_steady_fltEvt ..) | apply Steady.step (event_steady ..) | apply Steady.step (holdoverReturn_steady ..)
        | apply Steady.step (switchTo_steady ..))
    | exact fun _ _ h => h | exact fun _ h => h | exact fun h => h | exact fun _ => rfl | rfl | intro _ _ _ | intro _ _ | split | dsimp only)

theorem quoTickSwitch_steady {k : Bool} (c : Nat) (o : TickObs) (req : Option (Fin 2 × Bool)) (s : State) : Steady k s (quoTickSwitch c o req s) := by
  unfold quoTickSwitch
  repeat' (first
    | with_reducible (first
        | exact Steady.refl _ | assumption | apply Steady.ite | apply Steady.step (domainRequest_steady ..)
        | apply Steady.step (event_steady_quoEvt ..) | apply Steady.step (event_steady_fltEvt ..) | apply Steady.step (event_steady ..)
        | apply Steady.step (servoAutomatic_steady ..) | apply Steady.step (servoFreeAcquire_steady ..))
    | exact fun _ _ h => h | exact fun _ h => h | exact fun h => h | exact fun _ => rfl | rfl | intro _ _ _ | intro _ _ | split)

theorem quoTickDelay_steady {k : Bool} (p : Nat) (s : State) : Steady k s (quoTickDelay p s) := by
  unfold quoTickDelay
  repeat' (first
    | with_reducible (first
        | exact Steady.refl _ | assumption | apply Steady.ite | apply Steady.step (modCell_steady ..)
        | apply Steady.step (modClock_steady ..))
    | exact fun _ _ h => h | exact fun _ h => h | exact fun h => h | exact fun _ => rfl | rfl | intro _ _ _ | intro _ _ | split)

theorem quoTickWorst_steady {k : Bool} (s : State) : Steady k s (quoTickWorst s) := by
  unfold quoTickWorst
  repeat' (first
    | with_reducible (first | exact Steady.refl _ | apply Steady.step (State.modQuo_steady ..))
    | exact fun _ => rfl)

theorem offenceTick_steady (p : Nat) (s : State) : Steady false s (offenceTick p s) := by
  unfold offenceTick
  repeat' (first
    | with_reducible (first
        | exact Steady.refl _ | assumption | apply Steady.ite | apply Steady.forL | apply Steady.does (modPartner_does ..) rfl
        | apply Steady.step (event_steady_quoEvt ..) | apply Steady.step (event_steady_fltEvt ..) | apply Steady.step (event_steady ..)
        | apply Steady.step (enterQuarantine_steady ..))
    | exact fun _ _ h => h | exact fun _ h => h | exact fun h => h | exact fun _ => rfl | rfl | intro _ _ _)

theorem skipRunEnds_steady {k : Bool} (s : State) : Steady k s (skipRunEnds s) := by
  unfold skipRunEnds
  repeat' (first
    | with_reducible (first | exact Steady.refl _ | assumption | apply Steady.does (State.modLnt_does ..) rfl | apply Steady.step (raise_steady ..))
    | intro _ _ | split)

theorem lintelConflict_steady {k : Bool} (due : List Nat) (i : Nat) (s : State) : Steady k s (lintelConflict due i s) := by
  unfold lintelConflict
  repeat' (first
    | with_reducible (first
        | exact Steady.refl _ | assumption | apply Steady.ite | apply Steady.does (State.modLnt_does ..) rfl
        | apply Steady.step (event_steady_quoEvt ..) | apply Steady.step (event_steady_fltEvt ..) | apply Steady.step (event_steady ..)
        | apply Steady.step (raise_steady ..))
    | exact fun _ _ h => h | exact fun _ h => h | exact fun h => h | exact fun _ => rfl | rfl | intro _ _ _ | intro _ _ | split)

theorem lintelConflicts_steady {k : Bool} (due : List Nat) (s : State) : Steady k s (lintelConflicts due s) := by
  unfold lintelConflicts
  repeat' (first
    | with_reducible (first | exact Steady.refl _ | assumption | apply Steady.forN | apply Steady.step (lintelConflict_steady ..))
    | intro _ _ _)

theorem lintelIsolate_steady {k : Bool} (s : State) : Steady k s (lintelIsolate s) := by
  unfold lintelIsolate
  exact .step (skipRunEnds_steady ..) (.does (State.modLnt_does _ _ fun _ h => ⟨rfl, h.2⟩) rfl (.refl s))

theorem lintelRestart_steady {k : Bool} (s : State) : Steady k s (lintelRestart s) := by
  unfold lintelRestart
  repeat' (first
    | with_reducible (first | exact Steady.refl _ | apply Steady.does (State.modLnt_does ..) rfl | apply Steady.step (skipRunEnds_steady ..))
    | exact fun _ h => h)

theorem ldgFinish_steady {k : Bool} (m : Nat) (x : LdgCmd) (t : Stamp) (status detail : Nat) (res : List Word) (s : State) : Steady k s (ldgFinish m x t status detail res s) := by
  unfold ldgFinish
  repeat' (first
    | with_reducible (first
        | exact Steady.refl _ | assumption | apply Steady.ite | apply Steady.step (count_steady ..)
        | apply Steady.step (countWrap_steady ..) | apply Steady.step (event_steady_quoEvt ..) | apply Steady.step (event_steady_fltEvt ..)
        | apply Steady.step (event_steady ..) | apply Steady.does (modBox_does ..) rfl | apply Steady.step (raise_steady ..))
    | exact fun _ _ h => h | exact fun _ h => h | exact fun h => h | exact fun _ => rfl | rfl)

theorem ldgComplete_steady {k : Bool} (m : Nat) (status detail : Nat) (res : List Word) (s : State) : Steady k s (ldgComplete m status detail res s) := by
  unfold ldgComplete
  repeat' (first
    | with_reducible (first
        | exact Steady.refl _ | assumption | apply Steady.ite | apply Steady.step (ldgFinish_steady ..)
        | apply Steady.does (modBox_does ..) rfl)
    | exact fun _ _ h => h | exact fun _ h => h | exact fun h => h | exact fun _ => rfl | rfl | intro _ _ _ | intro _ _ | split)

theorem depthMoved_steady {k : Bool} (s : State) : Steady k s (depthMoved s) := by
  unfold depthMoved
  repeat' (first
    | with_reducible (first
        | exact Steady.refl _ | assumption | apply Steady.ite | apply Steady.does (State.modQry_does ..) rfl
        | apply Steady.step (event_steady_quoEvt ..) | apply Steady.step (event_steady_fltEvt ..) | apply Steady.step (event_steady ..)
        | apply Steady.step (modCell_steady ..) | apply Steady.step (raise_steady ..))
    | exact fun _ _ h => h | exact fun _ h => h | exact fun h => h | exact fun _ => rfl | rfl)

theorem quarryLeaves_steady {k : Bool} (p : QryPhase) (s : State) : Steady k s (quarryLeaves p s) := by
  unfold quarryLeaves
  repeat' (first
    | with_reducible (first
        | exact Steady.refl _ | assumption | apply Steady.ite | apply Steady.foldl | apply Steady.foldl1
        | apply Steady.does (State.modQry_does ..) rfl | apply Steady.step (event_steady_quoEvt ..)
        | apply Steady.step (event_steady_fltEvt ..) | apply Steady.step (event_steady ..) | apply Steady.step (raise_steady ..))
    | exact fun _ _ h => h | exact fun _ h => h | exact fun h => h | exact fun _ => rfl | rfl)

theorem quarryForgets_steady {k : Bool} (s : State) : Steady k s (quarryForgets s) := by
  unfold quarryForgets
  repeat' (first
    | with_reducible (first
        | exact Steady.refl _ | assumption | apply Steady.ite | apply Steady.step (depthMoved_steady ..)
        | apply Steady.does (State.modQry_does ..) rfl)
    | exact fun _ _ h => h | exact fun _ h => h | exact fun h => h | exact fun _ => rfl | rfl | intro _ _ _ | intro _ _)

theorem quarryCheck_steady {k : Bool} (s : State) : Steady k s (quarryCheck s) := by
  unfold quarryCheck
  repeat' (first
    | with_reducible (first
        | exact Steady.refl _ | assumption | apply Steady.ite | apply Steady.does (State.modQry_does ..) rfl
        | apply Steady.step (quarryForgets_steady ..) | apply Steady.step (quarryLeaves_steady ..))
    | intro _ _ | split)

theorem freeMoved_steady {k : Bool} (m : Nat) (s : State) : Steady k s (freeMoved m s) := by
  unfold freeMoved
  repeat' (first
    | with_reducible (first | exact Steady.refl _ | apply Steady.step (modCell_steady ..))
    | rfl)

theorem quarterCheck_steady {k : Bool} (m : Nat) (s : State) : Steady k s (quarterCheck m s) := by
  unfold quarterCheck
  dsimp only
  refine .ite (.step (raise_steady ..) (.step (event_steady rfl ..) (.step (freeMoved_steady ..)
    (.does (State.modRing_does _ _ fun _ h => ⟨rises_filter h.1, h.2⟩) rfl ?_)))) (.refl s)
  exact .does (modCoder_does ..) rfl (.does (modQuarter_does ..) rfl (.refl s))

theorem engineStop_steady {k : Bool} (e : Nat) (s : State) : Steady k s (engineStop e s) := by
  unfold engineStop
  repeat' (first
    | with_reducible (first
        | exact Steady.refl _ | assumption | apply Steady.ite | apply Steady.forN | apply Steady.forL
        | apply Steady.step (account_steady ..) | apply Steady.step (event_steady_quoEvt ..) | apply Steady.step (event_steady_fltEvt ..)
        | apply Steady.step (event_steady ..) | apply Steady.does (modEngine_does ..) rfl | apply Steady.does (ownsAll_does ..) rfl)
    | exact fun _ _ h => h | exact fun _ h => h | exact fun h => h | exact fun _ => rfl | rfl | intro _ _ _ | intro _ _ | split)

theorem engineIsolate_steady {k : Bool} (e : Nat) (s : State) : Steady k s (engineIsolate e s) := by
  unfold engineIsolate
  repeat' with_reducible (first | exact Steady.refl _ | apply Steady.step (engineStop_steady ..) | apply Steady.does (modEngine_does ..) rfl)

theorem poolMoved_steady {k : Bool} (s : State) : Steady k s (poolMoved s) := by
  unfold poolMoved
  repeat' (first
    | with_reducible (first | exact Steady.refl _ | apply Steady.step (modCell_steady ..))
    | rfl)

theorem throttle_steady {k : Bool} (s : State) : Steady k s (throttle s) := by
  unfold throttle
  repeat' (first
    | with_reducible (first
        | exact Steady.refl _ | assumption | apply Steady.ite | apply Steady.forN | apply Steady.does (State.modMrt_does ..) rfl
        | apply Steady.step (event_steady_quoEvt ..) | apply Steady.step (event_steady_fltEvt ..) | apply Steady.step (event_steady ..)
        | apply Steady.step (modStream_steady ..) | apply Steady.step (poolMoved_steady ..) | apply Steady.step (raise_steady ..))
    | exact fun _ _ h => h | exact fun _ h => h | exact fun h => h | exact fun _ => rfl | rfl | intro _ _ _)

theorem requeue_steady {k : Bool} (t : Nat) (o : OutRec) (s : State) : Steady k s (requeue t o s) := by
  unfold requeue
  repeat' (first
    | with_reducible (first | exact Steady.refl _ | apply Steady.step (modStream_steady ..))
    | exact fun _ => rfl)

theorem cutBlock_steady {k : Bool} (u t : Nat) (s : State) : Steady k s (cutBlock u t s) := by
  unfold cutBlock
  repeat' (first
    | with_reducible (first
        | exact Steady.refl _ | assumption | apply Steady.ite | apply Steady.step (count_steady ..)
        | apply Steady.step (event_steady_quoEvt ..) | apply Steady.step (event_steady_fltEvt ..) | apply Steady.step (event_steady ..)
        | apply Steady.does (initBoundary_does ..) rfl | apply Steady.step (modStream_steady ..) | apply Steady.step (raise_steady ..)
        | apply Steady.step (requeue_steady ..) | apply Steady.step (throttle_steady ..))
    | exact fun _ _ h => h | exact fun _ h => h | exact fun h => h | exact fun _ => rfl | rfl | intro _ _ _ | intro _ _ | split)

theorem cutUplink_steady {k : Bool} (u : Nat) (s : State) : Steady k s (cutUplink u s) := by
  unfold cutUplink
  repeat' (first
    | with_reducible (first | exact Steady.refl _ | apply Steady.step (cutBlock_steady ..))
    | split)

theorem putBlock_steady {k : Bool} (t : Nat) (o : OutRec) (cs : List Nat) (s : State) : Steady k s (putBlock t o cs s) := by
  unfold putBlock
  repeat' (first
    | with_reducible (first
        | exact Steady.refl _ | assumption | apply Steady.ite | apply Steady.forL | apply Steady.step (modStream_steady ..)
        | apply Steady.does (modUplink_does ..) rfl)
    | exact fun _ _ h => h | exact fun _ h => h | exact fun h => h | exact fun _ => rfl | rfl | intro _ _ _)

theorem startBlock_steady {k : Bool} (t : Nat) (s : State) : Steady k s (startBlock t s) := by
  unfold startBlock
  repeat' (first
    | with_reducible (first
        | exact Steady.refl _ | assumption | apply Steady.ite | apply Steady.step (count_steady ..)
        | apply Steady.step (event_steady_quoEvt ..) | apply Steady.step (event_steady_fltEvt ..) | apply Steady.step (event_steady ..)
        | apply Steady.step (modStream_steady ..) | apply Steady.step (putBlock_steady ..))
    | exact fun _ _ h => h | exact fun _ h => h | exact fun h => h | exact fun _ => rfl | rfl | intro _ _ _ | intro _ _ | split)

theorem startBlocks_steady {k : Bool} (s : State) : Steady k s (startBlocks s) := by
  unfold startBlocks
  repeat' (first
    | with_reducible (first | exact Steady.refl _ | assumption | apply Steady.forN | apply Steady.step (startBlock_steady ..))
    | intro _ _ _)

theorem uplinkDown_steady {k : Bool} (u cause : Nat) (s : State) : Steady k s (uplinkDown u cause s) := by
  unfold uplinkDown
  repeat' (first
    | with_reducible (first
        | exact Steady.refl _ | assumption | apply Steady.ite | apply Steady.step (cutUplink_steady ..)
        | apply Steady.step (event_steady_quoEvt ..) | apply Steady.step (event_steady_fltEvt ..) | apply Steady.step (event_steady ..)
        | apply Steady.does (modUplink_does ..) rfl | apply Steady.step (raise_steady ..))
    | exact fun _ _ h => h | exact fun _ h => h | exact fun h => h | exact fun _ => rfl | rfl)

theorem uplinkActive_steady {k : Bool} (u : Nat) (granted : BitVec 32) (s : State) : Steady k s (uplinkActive u granted s) := by
  unfold uplinkActive
  repeat' (first
    | with_reducible (first
        | exact Steady.refl _ | assumption | apply Steady.ite | apply Steady.step (event_steady_quoEvt ..)
        | apply Steady.step (event_steady_fltEvt ..) | apply Steady.step (event_steady ..) | apply Steady.does (modUplink_does ..) rfl)
    | exact fun _ _ h => h | exact fun _ h => h | exact fun h => h | exact fun _ => rfl | rfl)

theorem uplCheck_steady {k : Bool} (u : Nat) (s : State) : Steady k s (uplCheck u s) := by
  unfold uplCheck
  repeat' (first
    | with_reducible (first
        | exact Steady.refl _ | apply Steady.ite | apply Steady.does (modUplink_does ..) rfl | apply Steady.step (uplinkActive_steady ..)
        | apply Steady.step (uplinkDown_steady ..))
    | split)

theorem uplGroupCheck_steady {k : Bool} (h : Nat) (s : State) : Steady k s (uplGroupCheck h s) := by
  unfold uplGroupCheck
  repeat' (first
    | with_reducible (first
        | exact Steady.refl _ | assumption | apply Steady.ite | apply Steady.forN | apply Steady.step (startBlocks_steady ..)
        | apply Steady.step (uplCheck_steady ..))
    | exact fun _ _ h => h | exact fun _ h => h | exact fun h => h | exact fun _ => rfl | rfl | intro _ _ _)

theorem uplCheckAll_steady {k : Bool} (s : State) : Steady k s (uplCheckAll s) := by
  unfold uplCheckAll
  repeat' (first
    | with_reducible (first
        | exact Steady.refl _ | assumption | apply Steady.ite | apply Steady.forN | apply Steady.step (startBlocks_steady ..)
        | apply Steady.step (uplCheck_steady ..))
    | exact fun _ _ h => h | exact fun _ h => h | exact fun h => h | exact fun _ => rfl | rfl | intro _ _ _)

theorem uplRefBack_steady {k : Bool} (s : State) : Steady k s (uplRefBack s) := by
  unfold uplRefBack
  repeat' (first
    | with_reducible (first
        | exact Steady.refl _ | assumption | apply Steady.ite | apply Steady.forN | apply Steady.step (State.modQuo_steady ..)
        | apply Steady.does (modUplGroup_does ..) rfl)
    | exact fun _ _ h => h | exact fun _ h => h | exact fun h => h | exact fun _ => rfl | rfl | intro _ _ _)

theorem mapConflict_steady {k : Bool} (t role u : Nat) (s : State) : Steady k s (mapConflict t role u s) := by
  unfold mapConflict
  repeat' (first
    | with_reducible (first
        | exact Steady.refl _ | assumption | apply Steady.ite | apply Steady.step (event_steady_quoEvt ..)
        | apply Steady.step (event_steady_fltEvt ..) | apply Steady.step (event_steady ..) | apply Steady.step (raise_steady ..))
    | exact fun _ _ h => h | exact fun _ h => h | exact fun h => h | exact fun _ => rfl | rfl)

theorem resolveMap_steady {k : Bool} (applied : List Nat) (t : Nat) (s : State) : Steady k s (resolveMap applied t s) := by
  unfold resolveMap
  repeat' (first
    | with_reducible (first
        | exact Steady.refl _ | assumption | apply Steady.ite | apply Steady.step (mapConflict_steady ..)
        | apply Steady.step (modStream_steady ..))
    | exact fun _ _ h => h | exact fun _ h => h | exact fun h => h | exact fun _ => rfl)

theorem resolveMaps_steady {k : Bool} (applied : List Nat) (s : State) : Steady k s (resolveMaps applied s) := by
  unfold resolveMaps
  repeat' (first
    | with_reducible (first | exact Steady.refl _ | assumption | apply Steady.forN | apply Steady.step (resolveMap_steady ..))
    | intro _ _ _)

theorem dueBeacon_steady {k : Bool} (t : Nat) (o : OutRec) (s : State) : Steady k s (dueBeacon t o s) := by
  unfold dueBeacon
  repeat' (first
    | with_reducible (first
        | exact Steady.refl _ | assumption | apply Steady.ite | apply Steady.step (count_steady ..)
        | apply Steady.step (modStream_steady ..) | apply Steady.step (startBlock_steady ..))
    | exact fun _ _ h => h | exact fun _ h => h | exact fun h => h | exact fun _ => rfl | rfl)

theorem statusBeacons_steady {k : Bool} (c : Nat) (s : State) : Steady k s (statusBeacons c s) := by
  unfold statusBeacons
  repeat' (first
    | with_reducible (first | exact Steady.refl _ | assumption | apply Steady.ite | apply Steady.forN | apply Steady.step (dueBeacon_steady ..))
    | intro _ _ _)

theorem uplStop_steady {k : Bool} (s : State) : Steady k s (uplStop s) := by
  unfold uplStop
  repeat' (first
    | with_reducible (first | exact Steady.refl _ | assumption | apply Steady.forN | apply Steady.step (cutUplink_steady ..))
    | intro _ _ _)

/-- The Plumb's phase, queue and marks move. -/
theorem State.modPlb_steady {k : Bool} (f : Plumb → Plumb) (s : State) (hr : ∀ y, Rises y.slots → Rises (f y).slots) : Steady k s (s.modPlb f) :=
  ⟨fun hs => ⟨{ hs with slots := hr _ hs.slots }, .keep rfl rfl rfl rfl⟩⟩

theorem plbHold_steady {k : Bool} (s : State) : Steady k s (plbHold s) := by
  unfold plbHold
  exact .step (event_steady rfl ..) (State.modPlb_steady _ s fun _ h => h)

theorem plbFull_steady {k : Bool} (tag lost : Nat) (s : State) : Steady k s (plbFull tag lost s) := by
  unfold plbFull
  repeat' (first
    | with_reducible (first
        | exact Steady.refl _ | assumption | apply Steady.ite | apply Steady.does (plbStore_does ..) rfl
        | apply Steady.step (plbHold_steady ..) | apply Steady.step (raise_steady ..) | apply Steady.step (event_steady_quoEvt ..)
        | apply Steady.step (event_steady_fltEvt ..) | apply Steady.step (event_steady ..) | apply Steady.does (State.modPlb_does ..) rfl)
    | exact fun _ _ h => h | exact fun _ h => h | exact fun h => h | exact fun _ => rfl | rfl)

theorem plbPut_steady {k : Bool} (r : PlbRec) (s : State) : Steady k s (plbPut r s) := by
  unfold plbPut
  repeat' (first
    | with_reducible (first
        | exact Steady.refl _ | assumption | apply Steady.ite | apply Steady.step (plbFull_steady ..)
        | apply Steady.does (plbStore_does ..) rfl | apply Steady.does (State.modPlb_does ..) rfl)
    | exact fun _ _ h => h | exact fun _ h => h | exact fun h => h | exact fun _ => rfl | rfl | intro _ _ _ | intro _ _ | split | dsimp only)

theorem plbDrainOne_steady {k : Bool} (s : State) : Steady k s (plbDrainOne s) := by
  unfold plbDrainOne
  dsimp only
  split
  · exact .step (plbPut_steady ..) (State.modPlb_steady _ s fun _ h => h)
  · split
    · exact .step (plbPut_steady ..) (State.modPlb_steady _ s fun _ h => h)
    · exact .refl s

theorem plbDrain_steady {k : Bool} (n : Nat) (s : State) : Steady k s (plbDrain n s) := by
  unfold plbDrain
  exact .ite (.times (fun _ h => .step (plbDrainOne_steady _) h) (.refl s)) (.refl s)

theorem plbDrainAll_steady {k : Bool} (s : State) : Steady k s (plbDrainAll s) := by
  unfold plbDrainAll
  repeat' with_reducible (first | exact Steady.refl _ | apply Steady.step (plbDrain_steady ..))

theorem plbMiss_steady {k : Bool} (tag : Nat) (s : State) : Steady k s (plbMiss tag s) := by
  unfold plbMiss
  repeat' (first
    | with_reducible (first
        | exact Steady.refl _ | assumption | apply Steady.ite | apply Steady.step (count_steady ..)
        | apply Steady.step (event_steady_quoEvt ..) | apply Steady.step (event_steady_fltEvt ..) | apply Steady.step (event_steady ..)
        | apply Steady.does (State.modPlb_does ..) rfl | apply Steady.step (raise_steady ..))
    | exact fun _ _ h => h | exact fun _ h => h | exact fun h => h | exact fun _ => rfl | rfl)

theorem plbTake_steady {k : Bool} (origin back tag : Nat) (s : State) : Steady k s (plbTake origin back tag s) := by
  unfold plbTake
  repeat' (first
    | with_reducible (first
        | exact Steady.refl _ | assumption | apply Steady.ite | apply Steady.step (plbDrainAll_steady ..)
        | apply Steady.step (plbMiss_steady ..) | apply Steady.step (event_steady_quoEvt ..) | apply Steady.step (event_steady_fltEvt ..)
        | apply Steady.step (event_steady ..) | apply Steady.does (State.modPlb_does ..) rfl | apply Steady.step (plbPut_steady ..)
        | apply Steady.does (plbStore_does ..) rfl)
    | exact fun _ _ h => h | exact fun _ h => h | exact fun h => h | exact fun _ => rfl | rfl)

theorem plbFire_steady {k : Bool} (origin back tag : Nat) (s : State) : Steady k s (plbFire origin back tag s) := by
  unfold plbFire
  repeat' (first
    | with_reducible (first
        | exact Steady.refl _ | apply Steady.does (plbWait_does ..) rfl | apply Steady.does (plbJoin_does ..) rfl
        | apply Steady.step (plbTake_steady ..) | apply Steady.step (plbMiss_steady ..))
    | split)

theorem closeRecs_steady {k : Bool} (which : StreamRec → Bool) (p : RecPhase) (s : State) : Steady k s (closeRecs which p s) := by
  unfold closeRecs
  repeat' with_reducible (first
    | exact Steady.refl _ | apply Steady.does (State.modMrt_does ..) rfl | apply Steady.step (throttle_steady ..)
    | apply Steady.does (withdraw_does ..) rfl)

theorem unitCheck_steady {k : Bool} (u : Nat) (s : State) : Steady k s (unitCheck u s) := by
  unfold unitCheck
  repeat' (first
    | with_reducible (first
        | exact Steady.refl _ | assumption | apply Steady.ite | apply Steady.does (State.modMrt_does ..) rfl
        | apply Steady.step (closeRecs_steady ..) | apply Steady.step (event_steady_quoEvt ..) | apply Steady.step (event_steady_fltEvt ..)
        | apply Steady.step (event_steady ..) | apply Steady.step (poolMoved_steady ..) | apply Steady.step (raise_steady ..))
    | exact fun _ _ h => h | exact fun _ h => h | exact fun h => h | exact fun _ => rfl | rfl)

theorem mortarStop_steady {k : Bool} (s : State) : Steady k s (mortarStop s) := by
  unfold mortarStop
  repeat' with_reducible (first | exact Steady.refl _ | apply Steady.step (closeRecs_steady ..))

theorem linkDown_steady {k : Bool} (p : Nat) (training : Word) (s : State) : Steady k s (linkDown p training s) := by
  unfold linkDown
  repeat' (first
    | with_reducible (first
        | exact Steady.refl _ | assumption | apply Steady.ite | apply Steady.step (count_steady ..)
        | apply Steady.step (event_steady_quoEvt ..) | apply Steady.step (event_steady_fltEvt ..) | apply Steady.step (event_steady ..)
        | apply Steady.does (linkOff_does ..) rfl | apply Steady.step (raise_steady ..))
    | exact fun _ _ h => h | exact fun _ h => h | exact fun h => h | exact fun _ => rfl | rfl)

theorem portOff_steady {k : Bool} (p : Nat) (s : State) : Steady k s (portOff p s) := by
  unfold portOff
  repeat' with_reducible (first | exact Steady.refl _ | apply Steady.step (linkDown_steady ..))

theorem measureDrop_steady {k : Bool} (named : List Nat) (s : State) : Steady k s (measureDrop named s) := by
  unfold measureDrop
  repeat' (first
    | with_reducible (first | exact Steady.refl _ | apply Steady.step (State.modQuo_steady ..))
    | exact fun _ => rfl)

theorem measureCheck_steady {k : Bool} (m : Nat) (s : State) : Steady k s (measureCheck m s) := by
  unfold measureCheck
  repeat' (first
    | with_reducible (first
        | exact Steady.refl _ | assumption | apply Steady.ite | apply Steady.step (ldgComplete_steady ..)
        | apply Steady.step (measureDrop_steady ..))
    | exact fun _ _ h => h | exact fun _ h => h | exact fun h => h | exact fun _ => rfl | rfl | intro _ _ _ | intro _ _ | split)

theorem measureChecks_steady {k : Bool} (s : State) : Steady k s (measureChecks s) := by
  unfold measureChecks
  repeat' (first
    | with_reducible (first | exact Steady.refl _ | assumption | apply Steady.forN | apply Steady.step (measureCheck_steady ..))
    | intro _ _ _)

theorem selectsTick_steady {k : Bool} (c reason : Nat) (s : State) : Steady k s (selectsTick c reason s) := by
  unfold selectsTick
  repeat' (first
    | with_reducible (first | exact Steady.refl _ | assumption | apply Steady.forN | apply Steady.step (ldgComplete_steady ..))
    | intro _ _ _ | split)

/-- An isolation that takes effect is noted first (R306). -/
theorem isolate_takes {x : IsoPending} {s : State}
    (h : (isIsolated s x.target || (targetDomains x.target).any (fun d => (powerDom s d).phase != .on && (powerDom s d).goal.isNone)) = false) :
    Steady false (s.modFlt fun f => { f with isolated := f.isolated ++ [x] }) (isolate x s) := by
  unfold isolate
  rw [if_neg (by rw [h]; exact Bool.false_ne_true)]
  repeat' (first
    | with_reducible (first
        | exact Steady.refl _ | apply Steady.step (engineIsolate_steady ..) | apply Steady.step (event_steady ..)
        | apply Steady.does (gaugeStop_does ..) rfl | apply Steady.does (groupAvail_does ..) rfl | apply Steady.step (groupDown_steady ..)
        | apply Steady.step (lintelIsolate_steady ..) | apply Steady.does (plbIsolated_does ..) rfl | apply Steady.step (portOff_steady ..)
        | apply Steady.step (quarryCheck_steady ..) | apply Steady.step (quarterCheck_steady ..) | apply Steady.does (retCheck_does ..) rfl
        | apply Steady.step (throttle_steady ..) | apply Steady.step (unitCheck_steady ..) | apply Steady.step (uplGroupCheck_steady ..))
    | rfl | split)

theorem isolate_leaves {x : IsoPending} {s : State}
    (h : (isIsolated s x.target || (targetDomains x.target).any (fun d => (powerDom s d).phase != .on && (powerDom s d).goal.isNone)) = true) : isolate x s = s := by
  unfold isolate
  rw [if_pos h]

theorem isolate_steady (x : IsoPending) (s : State) : Steady false s (isolate x s) := by
  cases h : isIsolated s x.target || (targetDomains x.target).any (fun d => (powerDom s d).phase != .on && (powerDom s d).goal.isNone) with
  | true => rw [isolate_leaves h]; exact .refl s
  | false => exact .step (isolate_takes h) (State.modFlt_steady _ s (fun _ h => h) (fun _ => rfl) (fun _ _ h => List.mem_append.2 (.inl h)) fun h => nomatch h)

end Sys2Proof.Machine
end

section
/-!
O20: steps 2 and 3 of a course tick: courses close (R162), bindings take effect (R110, R112).
-/
namespace Sys2Proof.Machine

/-! ### Step 2 -/

theorem releaseBefore_closes (c : Nat) (s : State) : (releaseBefore c s).ring.closes = s.ring.closes := by
  have hf (u : State) : (forN 4 freeMoved u).ring = u.ring := (Does.forN (fun _ _ h => .step (freeMoved_does ..) rfl h) (Does.refl [.regs] u)).only.same .ring (by decide)
  have hq (l : List (Nat × Bucket)) : ∀ u : State, (forL l (fun e t => modQuarter (keyQuarter e.1) (fun q => { q with freed := q.freed ++ e.2.pages }) t) u).ring.closes = u.ring.closes := by
    induction l with
    | nil => exact fun _ => rfl
    | cons e l ih => exact fun u => ih _
  unfold releaseBefore
  dsimp only
  rw [hf]
  exact hq _ s

/-- R162: course `c - 2` closes, with the partners bound and the quarters in service. -/
theorem closeCourse_closes {c : Nat} (hc : 2 ≤ c) (s : State) :
    (closeCourse c s).ring.closes = (⟨c - 2, (List.range 64).filterMap (fun p => (partnerGroup s p).map (fun g => (p, g))), quartersIn s,
      s.qry.phase == .running && !(quartersIn s).isEmpty⟩ :: s.ring.closes).take 64 ∧
    (closeCourse c s).qry.jobs = s.qry.jobs ++ (if s.qry.phase == .running && !(quartersIn s).isEmpty then [⟨c - 2, []⟩] else []) := by
  unfold closeCourse
  rw [if_neg (Nat.not_lt.2 hc)]
  dsimp only
  cases s.qry.phase == .running && !(quartersIn s).isEmpty with
  | true => exact ⟨rfl, rfl⟩
  | false => exact ⟨rfl, (List.append_nil _).symm⟩

theorem quartersIn_isEmpty (s : State) : (quartersIn s).isEmpty = !(List.range 4).any (fun m => (quarter s m).inService) := by
  rw [Bool.eq_iff_iff, List.isEmpty_iff, quartersIn, List.filter_eq_nil_iff, Bool.not_eq_true', List.any_eq_false]

theorem courseTick_stepTwo (c : Nat) (obs : TickObs) (v : State × List (Nat × Option Nat)) (run : Bool) (hc : 2 ≤ c)
    (hr : run = (decide (v.1.qry.phase = .running) && (List.range 4).any (fun m => (quarter v.1 m).inService))) :
    (stepTwo c obs v).ring.closes = (⟨c - 2, (List.range 64).filterMap (fun p => (partnerGroup v.1 p).map (fun g => (p, g))),
      (List.range 4).filter (fun m => (quarter v.1 m).inService), run⟩ :: v.1.ring.closes).take 64 ∧
    (stepTwo c obs v).qry.jobs = v.1.qry.jobs ++ (if run then [⟨c - 2, []⟩] else []) := by
  let x := perCourse (btrReports c v.2 (quoTickLatch c obs (countersTick c (btrInject v.1))))
  have did : Does [.btr, .quo, .regs, .flt, .port0, .port1, .lanes, .groups, .mem, .retLanes] v.1 x :=
    .step (perCourse_does _) rfl (.step (btrReports_does ..) rfl (.step (quoTickLatch_does ..) rfl (.step (countersTick_does ..) rfl (.step (btrInject_does _) rfl (.refl _ _)))))
  have hring : x.ring = v.1.ring := did.only.same .ring (by decide)
  have hqry : x.qry = v.1.qry := did.only.same .qry (by decide)
  have hgroup (p : Nat) : partnerGroup x p = partnerGroup v.1 p := by
    unfold partnerGroup
    rw [partner_of (did.only.same .partners (by decide))]
  have hquarter (m : Nat) : quarter x m = quarter v.1 m := by unfold quarter; rw [hring]
  have hin : quartersIn x = (List.range 4).filter (fun m => (quarter v.1 m).inService) := by
    unfold quartersIn
    simp only [hquarter]
  have hrun : (x.qry.phase == .running && !(quartersIn x).isEmpty) = run := by
    rw [quartersIn_isEmpty, Bool.not_not, hr, hqry]
    simp only [hquarter]
    rfl
  obtain ⟨h1, h2⟩ := closeCourse_closes hc x
  rw [hrun, hin, hring] at h1
  rw [hrun, hqry] at h2
  simp only [hgroup] at h1
  have hrel : stepTwo c obs v = ringRelease c (closeCourse c x) := rfl
  rw [hrel, show (ringRelease c (closeCourse c x)).qry = (closeCourse c x).qry from (ringRelease_does ..).only.same .qry (by decide)]
  refine ⟨?_, h2⟩
  unfold ringRelease
  dsimp only
  rw [releaseBefore_closes]
  exact h1

/-! ### Step 3 -/

/-- What a binding that waits asks for: no binding, or one with its record and lanes (R110, R112). -/
def BindPending.Fits (x : BindPending) (o : Option Binding) : Prop :=
  (x.entry = none → o = none) ∧
    ∀ b : Binding, x.entry = some b → ∃ b' : Binding, o = some b' ∧ b'.record = b.record ∧ b'.firstLane = b.firstLane ∧ b'.lanesM1 = b.lanesM1

theorem bindPartner_partner {s : State} (hs : TablesRise s) (p : Nat) (b : Binding) :
    (∃ b' : Binding, (partner (bindPartner p b s) p).binding = some b' ∧ b'.record = b.record ∧ b'.firstLane = b.firstLane ∧ b'.lanesM1 = b.lanesM1) ∧
    ∀ q : Nat, q ≠ p → partner (bindPartner p b s) q = partner s q := by
  let base := lowestFree (groupRanges s (b.firstLane / 8) p) (recChannels b.record)
  let fit := decide (base + recChannels b.record ≤ 524288)
  let x := modPartner p (fun y => { y with binding := some { b with base := base, fit := fit } }) s
  have did : Does [.regs, .flt, .port0, .port1, .lanes, .downlinks, .groups] x (bindPartner p b s) := by
    unfold bindPartner
    dsimp only
    refine .forL (fun l t h => ?_) (.ite (.refl _ _) (.step (raise_does ..) rfl (.refl _ _)))
    have bound := Does.step (modLane_does l (fun x => { x with partner := some p }) t) rfl h
    split
    · split
      · refine .step (enterActive_does ..) rfl ?_
        split
        · exact .step (exchangeSettles_does ..) rfl bound
        · exact bound
      · exact .step (restartDue_does ..) rfl bound
    · exact .step (restartDue_does ..) rfl bound
    · exact .step (restartDue_does ..) rfl bound
    · exact bound
  have hp (q : Nat) : partner (bindPartner p b s) q = partner x q := partner_of (did.only.same .partners (by decide)) q
  refine ⟨⟨{ b with base := base, fit := fit }, ?_, rfl, rfl, rfl⟩, fun q hq => ?_⟩
  · rw [hp, partner_modPartner hs.partners]
  · rw [hp, partner_modPartner_other hs.partners hq]

theorem unbindPartner_partner {s : State} (hs : TablesRise s) (p : Nat) :
    (partner (unbindPartner p s) p).binding = none ∧ ∀ q : Nat, q ≠ p → partner (unbindPartner p s) q = partner s q := by
  let y := forL (partnerLanes s p) (fun l t => modLane l (fun x => { x with partner := none }) t) s
  let x := modPartner p (fun x => { x with binding := none }) y
  have freed : Does [.lanes] s y := .forL (fun _ _ h => .step (modLane_does ..) rfl h) (.refl _ _)
  have hy := (freed.tables hs).partners
  have hp (q : Nat) : partner (unbindPartner p s) q = partner x q := partner_of ((modDl_does ..).only.same .partners (by decide)) q
  refine ⟨by rw [hp, partner_modPartner hy], fun q hq => ?_⟩
  rw [hp, partner_modPartner_other hy hq, partner_of (freed.only.same .partners (by decide))]

/-- A binding that waits takes effect. -/
def bindTakes (x : BindPending) (t : State) : State :=
  match x.entry with
  | some b => bindPartner x.partner b t
  | none => unbindPartner x.partner t

theorem bindTakes_does (x : BindPending) (s : State) : Does [.regs, .flt, .port0, .port1, .lanes, .downlinks, .partners, .groups] s (bindTakes x s) := by
  unfold bindTakes
  split
  · exact (bindPartner_does ..).widen rfl
  · exact (unbindPartner_does ..).widen rfl

theorem bindTakes_partner {s : State} (hs : TablesRise s) (x : BindPending) :
    x.Fits (partner (bindTakes x s) x.partner).binding ∧ ∀ q : Nat, q ≠ x.partner → partner (bindTakes x s) q = partner s q := by
  unfold bindTakes BindPending.Fits
  split
  next b he =>
    rw [he]
    obtain ⟨h1, h2⟩ := bindPartner_partner hs x.partner b
    exact ⟨⟨fun h => (by cases h), fun c hc => Option.some.inj hc ▸ h1⟩, h2⟩
  next he =>
    rw [he]
    obtain ⟨h1, h2⟩ := unbindPartner_partner hs x.partner
    exact ⟨⟨fun _ => h1, fun _ hc => (by cases hc)⟩, h2⟩

/-- Of the bindings that take effect, the one that alone names its partner fits it after them. -/
theorem bindsTake_partner {l : List BindPending} {s : State} (hs : TablesRise s) {x : BindPending} (hu : ∀ y ∈ l, y.partner = x.partner → y = x)
    (h : x ∈ l ∨ x.Fits (partner s x.partner).binding) : x.Fits (partner (forL l bindTakes s) x.partner).binding := by
  induction l generalizing s with
  | nil => exact h.elim (fun hn => by cases hn) id
  | cons y l ih =>
    obtain ⟨fits, others⟩ := bindTakes_partner hs y
    refine ih ((bindTakes_does y s).tables hs) (fun z hz => hu z (.tail _ hz)) ?_
    by_cases hp : y.partner = x.partner
    · rw [hu y (.head _) hp] at fits ⊢
      exact .inr fits
    · refine h.imp (fun hm => (List.mem_cons.1 hm).resolve_left fun e => hp (e ▸ rfl)) fun hf => ?_
      rwa [others _ (Ne.symm hp)]

theorem courseTick_stepThree (c : Nat) (s : State) (hs : TablesRise s) :
    (bit (cell s .hstCb) 0 = true → stepThree c s = s) ∧
    (bit (cell s .hstCb) 0 = false → (stepThree c s).bindPending = [] ∧
      ∀ x ∈ s.bindPending, (∀ y ∈ s.bindPending, y.partner = x.partner → y = x) →
        (x.entry = none → (partner (stepThree c s) x.partner).binding = none) ∧
        (∀ b : Binding, x.entry = some b → ∃ b' : Binding, (partner (stepThree c s) x.partner).binding = some b' ∧ b'.record = b.record ∧
          b'.firstLane = b.firstLane ∧ b'.lanesM1 = b.lanesM1)) := by
  refine ⟨fun h => if_pos h, fun h => ?_⟩
  have did := applyTick_does c s
  let a := applyTick c s
  have hpend : a.bindPending = s.bindPending := did.only.same .bindPending (by decide)
  let b := forL a.bindPending bindTakes { a with bindPending := [] }
  have none : TablesRise { a with bindPending := [] } := (Does.put_bindPending (L := [.bindPending]) rfl (.refl _ a)).tables (did.tables hs)
  have kept : Does [.regs, .flt, .port0, .port1, .ldg] b (stepThree c s) := by
    rw [show stepThree c s = swapsTick c (forL a.bindPending (fun x t => bindComplete c x.mailbox x.partner t) b) from if_neg (by rw [h]; exact Bool.false_ne_true)]
    exact .step (swapsTick_does ..) rfl (.forL (fun _ _ h => .step (bindComplete_does ..) rfl h) (.refl _ _))
  have empty : b.bindPending = [] :=
    (Does.forL (L := [.regs, .flt, .port0, .port1, .lanes, .downlinks, .partners, .groups]) (fun x _ h => .step (bindTakes_does x _) rfl h) (.refl _ _)).only.same .bindPending (by decide)
  refine ⟨(kept.only.same .bindPending (by decide)).trans empty, fun x hx hu => ?_⟩
  have fits : x.Fits (partner b x.partner).binding := bindsTake_partner none (by rw [hpend]; exact hu) (.inl (by rw [hpend]; exact hx))
  rwa [← partner_of (kept.only.same .partners (by decide))] at fits

end Sys2Proof.Machine
end

section
/-!
O20: step 5 of a course tick (R306 to R308): a restart, the isolations, a stop.
-/
namespace Sys2Proof.Machine

theorem isIsolated_mono {s t : State} (h : ∀ x ∈ s.flt.isolated, x ∈ t.flt.isolated) {g : Target} (hg : isIsolated s g = true) : isIsolated t g = true := by
  obtain ⟨x, hx, he⟩ := List.any_eq_true.1 hg
  exact List.any_eq_true.2 ⟨x, h x hx, he⟩

theorem powerDom_of_pwr {s t : State} (h : t.pwr = s.pwr) (n : Nat) : powerDom t n = powerDom s n := by unfold powerDom; rw [h]

/-- R306: an isolation of a target whose domains are all ON, or changing, takes effect. -/
theorem isolate_isolates {x : IsoPending} {s : State} (hs : TablesRise s) (h : ∀ n ∈ targetDomains x.target, (powerDom s n).phase = .on ∨ (powerDom s n).goal ≠ none) :
    isIsolated (isolate x s) x.target = true := by
  cases hi : isIsolated s x.target with
  | true => rw [isolate_leaves (by rw [hi, Bool.true_or])]; exact hi
  | false =>
    have hd : (targetDomains x.target).any (fun d => (powerDom s d).phase != .on && (powerDom s d).goal.isNone) = false := by
      refine List.any_eq_false.2 fun n hn => ?_
      rcases h n hn with hp | hg
      · rw [hp]; exact Bool.false_ne_true
      · rw [Option.isNone_eq_false_iff.2 (Option.isSome_iff_ne_none.2 hg), Bool.and_false]; exact Bool.false_ne_true
    have kept := ((isolate_takes (x := x) (s := s) (by rw [hi, hd]; rfl)).keeps { hs with }).2.isolated
    exact List.any_eq_true.2 ⟨x, kept x (List.mem_append.2 (.inr (List.mem_singleton.2 rfl))), BEq.rfl⟩

theorem isolates_steady (l : List IsoPending) (s : State) : Steady false s (forL l isolate s) := .forL (fun x _ h => .step (isolate_steady x _) h) (.refl s)

theorem isolates_isolate {l : List IsoPending} {s : State} (hs : TablesRise s) {x : IsoPending} (hx : x ∈ l)
    (h : ∀ n ∈ targetDomains x.target, (powerDom s n).phase = .on ∨ (powerDom s n).goal ≠ none) : isIsolated (forL l isolate s) x.target = true := by
  induction l generalizing s with
  | nil => cases hx
  | cons y l ih =>
    have did := isolate_does y s
    rcases List.mem_cons.1 hx with rfl | hx
    · exact isIsolated_mono ((isolates_steady l _).keeps (did.tables hs)).2.isolated (isolate_isolates hs h)
    · exact ih (did.tables hs) hx fun n hn => by rw [powerDom_of_pwr (did.only.same .pwr (by decide))]; exact h n hn

/-- The fault plane as a restart leaves it (R308). -/
def Faults.restarts (c : Nat) (f : Faults) : Faults := { f with
  stopped := none, restartPending := false, restartSeq := 0
  shadows := f.shadows.map (fun x => if x.kind = .dataPlane ∧ x.closeAt.isNone then { x with closeAt := some (c + 4) } else x) }

/-- A restart takes effect: it is marked and is due in the journal, and the rest of it is steady. -/
theorem dataPlaneRestart_steady (c : Nat) (s : State) : Steady false (event .fltEvt 0 20 (s.modFlt (·.restarts c))) (dataPlaneRestart c s) := by
  have posted := Steady.does (k := false) (cnsPost_does (cnsDueNow (s.modFlt (·.restarts c)) 9 s.flt.restartSeq 0) _) rfl (.refl (event .fltEvt 0 20 (s.modFlt (·.restarts c))))
  exact .step (throttle_steady _) (.step (startBlocks_steady _) (.step (lintelRestart_steady _) (.does (spanRestart_does _) rfl (.step (quarryCheck_steady _) posted))))

theorem dataPlaneRestart_due (c : Nat) (s : State) : ∃ x ∈ (dataPlaneRestart c s).cns.due, x.type = 9 ∧ x.data5 = BitVec.ofNat 64 s.flt.restartSeq := by
  let d := cnsDueNow (s.modFlt (·.restarts c)) 9 s.flt.restartSeq 0
  let p := cnsPost d (event .fltEvt 0 20 (s.modFlt (·.restarts c)))
  have rest : Does [.regs, .flt, .port0, .port1, .lanes, .qry, .mrt, .streams, .uplinks, .lnt] p (dataPlaneRestart c s) :=
    .step (throttle_does _) rfl (.step (startBlocks_does _) rfl (.step (lintelRestart_does _) rfl (.step (spanRestart_does _) rfl (.step (quarryCheck_does _) rfl (.refl _ _)))))
  rw [show (dataPlaneRestart c s).cns = p.cns from rest.only.same .cns (by decide)]
  exact ⟨d, List.mem_append.2 (.inr (List.mem_singleton.2 rfl)), rfl, rfl⟩

theorem enginesDiscard_empty {s : State} (hs : TablesRise s) {e : Nat} (he : e < 9) : (engine (enginesDiscard s) e).queue = [] := by
  have go : ∀ n : Nat, TablesRise (forN n (fun e t => if (engine t e).queue.isEmpty then t else modEngine e (fun y => { y with queue := [] }) t) s) ∧
      ∀ e < n, (engine (forN n (fun e t => if (engine t e).queue.isEmpty then t else modEngine e (fun y => { y with queue := [] }) t) s) e).queue = [] := by
    intro n
    induction n with
    | zero => exact ⟨hs, fun e he => absurd he (Nat.not_lt_zero _)⟩
    | succ n ih =>
      rw [forN_succ]
      obtain ⟨hu, hq⟩ := ih
      generalize forN n _ s = u at hu hq ⊢
      split
      next hz => exact ⟨hu, fun e he => (Nat.lt_succ_iff_lt_or_eq.1 he).elim (hq e) fun h => h ▸ List.isEmpty_iff.1 hz⟩
      · refine ⟨(modEngine_does ..).tables hu, fun e he => ?_⟩
        by_cases h : e = n
        · subst h
          rw [engine_modEngine hu.engines]
        · rw [engine_modEngine_other hu.engines h]
          exact hq e (Nat.lt_of_le_of_ne (Nat.le_of_lt_succ he) h)
  exact (go 9).2 e he

/-- The fault plane as a stop leaves it (R307). -/
def Faults.stops (source : Nat) (f : Faults) : Faults := { f with stopped := some source, stopPending := none }

/-- A stop empties every engine's queue; what follows leaves them, and is steady. -/
theorem dataPlaneStop_steady (n : Nat) (s : State) : Steady false (event .fltEvt 0 19 (s.modFlt (·.stops n))) (dataPlaneStop n s) ∧
    (TablesRise s → ∀ e < 9, (engine (dataPlaneStop n s) e).queue = []) := by
  let y := event .fltEvt 0 19 (s.modFlt (·.stops n))
  let z := throttle (lintelStop (uplStop (mortarStop (quarryCheck (forN 4 quarterCheck (enginesDiscard y))))))
  have hz : Steady false y z := .step (throttle_steady _) (.does (lintelStop_does _) rfl (.step (uplStop_steady _) (.step (mortarStop_steady _) (.step (quarryCheck_steady _)
    (.forN (fun m _ h => .step (quarterCheck_steady m _) h) (.does (enginesDiscard_does _) rfl (.refl y)))))))
  have hash : z.ash = (enginesDiscard y).ash := by
    have did : Does [.regs, .flt, .port0, .port1, .ring, .qry, .mem, .mrt, .streams, .uplinks, .lnt] (enginesDiscard y) z :=
      .step (throttle_does _) rfl (.step (lintelStop_does _) rfl (.step (uplStop_does _) rfl (.step (mortarStop_does _) rfl (.step (quarryCheck_does _) rfl
        (.forN (fun m _ h => .step (quarterCheck_does m _) rfl h) (.refl _ _))))))
    exact did.only.same .ash (by decide)
  have hd : dataPlaneStop n s = if bit (cell z .plbCfg) 5 then plbFire 3 0 (timeTag z) z else z := rfl
  rw [hd]
  refine ⟨.ite (.step (plbFire_steady ..) hz) hz, fun hs e he => ?_⟩
  have empty := enginesDiscard_empty ((event_does .fltEvt 0 19 _).tables (show TablesRise (s.modFlt (·.stops n)) from { hs with })) he
  split
  · rw [engine_of ((plbFire_does ..).only.same .ash (by decide)), engine_of hash]
    exact empty
  · rw [engine_of hash]
    exact empty

/-! ### Step 5 as a whole -/

/-- A restart that is due (R308). -/
def tickRestart (c : Nat) (s : State) : State := if s.flt.restartPending && dpStopped s then dataPlaneRestart c s else s

/-- A stop that is due closes the records in build (R307). -/
def tickCloses (s : State) : State := if s.flt.stopPending.isSome then mortarStop s else s

/-- The isolations that are due (R306). -/
def tickIsolates (s : State) : State := forL s.flt.isoPending isolate (s.modFlt fun f => { f with isoPending := [] })

/-- A stop that is due (R307). -/
def tickStop (s : State) : State := match s.flt.stopPending with | some n => dataPlaneStop n s | none => s

theorem stepFive_eq (c : Nat) (s : State) : stepFive c s = tickStop (tickIsolates (tickCloses (tickRestart c s))) := rfl

theorem tickCloses_steady (s : State) : Steady false s (tickCloses s) := .ite (mortarStop_steady s) (.refl s)

theorem tickIsolates_steady (s : State) : Steady false (s.modFlt fun f => { f with isoPending := [] }) (tickIsolates s) := isolates_steady _ _

/-- The steering after a restart that is due, or not. -/
theorem tickRestart_keeps {c : Nat} {s : State} (hs : TablesRise s) : TablesRise (tickRestart c s) ∧
    (tickRestart c s).pwr = s.pwr ∧ (tickRestart c s).flt.isoPending = s.flt.isoPending ∧ (tickRestart c s).flt.stopPending = s.flt.stopPending ∧
    (∀ x ∈ s.flt.isolated, x ∈ (tickRestart c s).flt.isolated) ∧
    (¬ (s.flt.restartPending = true ∧ dpStopped s = true) → (tickRestart c s).flt.stopped = s.flt.stopped) ∧
    (s.flt.restartPending = true → dpStopped s = true → (tickRestart c s).flt.stopped = none ∧ (tickRestart c s).flt.restartPending = false ∧
      bit (cell (tickRestart c s) .fltEvt) 20 = true ∧ ∃ x ∈ (tickRestart c s).cns.due, x.type = 9 ∧ x.data5 = BitVec.ofNat 64 s.flt.restartSeq) := by
  unfold tickRestart
  split
  next h =>
    obtain ⟨hr, hd⟩ := Bool.and_eq_true_iff.1 h
    have hs1 : TablesRise (s.modFlt (·.restarts c)) := { hs with }
    have hs2 := (event_does .fltEvt 0 20 _).tables hs1
    obtain ⟨-, hf, -⟩ := event_others .fltEvt 0 20 (s.modFlt (·.restarts c))
    obtain ⟨ht, k⟩ := (dataPlaneRestart_steady c s).keeps hs2
    have st := k.steers
    rw [hf] at st
    have iso := k.isolated
    rw [hf] at iso
    simp only [Faults.steers, Prod.mk.injEq] at st
    obtain ⟨h1, h2, h3, h4, -⟩ := st
    exact ⟨ht, (dataPlaneRestart_does ..).only.same .pwr (by decide), h1, h2, iso, fun hn => absurd ⟨hr, hd⟩ hn,
      fun _ _ => ⟨h3, h4, k.fltEvt 20 (by decide) (bit_event_set hs1 _ (by decide) (.inl ⟨rfl, by decide⟩)), dataPlaneRestart_due c s⟩⟩
  next h => exact ⟨hs, rfl, rfl, rfl, fun _ h => h, fun _ => rfl, fun hr hd => absurd (Bool.and_eq_true_iff.2 ⟨hr, hd⟩) h⟩

/-- The steering after the stop that is due, or none. -/
theorem tickStop_keeps {s : State} (hs : TablesRise s) : TablesRise (tickStop s) ∧ (tickStop s).flt.isoPending = s.flt.isoPending ∧ (tickStop s).flt.stopPending = none ∧
    (tickStop s).flt.restartPending = s.flt.restartPending ∧ (∀ x ∈ s.flt.isolated, x ∈ (tickStop s).flt.isolated) ∧
    (∀ n : Nat, s.flt.stopPending = some n → (tickStop s).flt.stopped = some n ∧ bit (cell (tickStop s) .fltEvt) 19 = true ∧ ∀ e < 9, (engine (tickStop s) e).queue = []) ∧
    (s.flt.stopPending = none → tickStop s = s) := by
  unfold tickStop
  cases hp : s.flt.stopPending with
  | none => exact ⟨hs, rfl, hp, rfl, fun _ h => h, (fun _ h => by cases h), fun _ => rfl⟩
  | some n =>
    have hs1 : TablesRise (s.modFlt (·.stops n)) := { hs with }
    obtain ⟨-, hf, -⟩ := event_others .fltEvt 0 19 (s.modFlt (·.stops n))
    obtain ⟨steady, empty⟩ := dataPlaneStop_steady n s
    obtain ⟨ht, k⟩ := steady.keeps ((event_does .fltEvt 0 19 _).tables hs1)
    have st := k.steers
    rw [hf] at st
    have iso := k.isolated
    rw [hf] at iso
    simp only [Faults.steers, Prod.mk.injEq] at st
    obtain ⟨h1, h2, h3, h4, -⟩ := st
    exact ⟨ht, h1, h2, h4, iso, fun m hm => Option.some.inj hm ▸ ⟨h3, k.fltEvt 19 (by decide) (bit_event_set hs1 _ (by decide) (.inl ⟨rfl, by decide⟩)), empty hs⟩,
      fun h => nomatch h⟩

theorem courseTick_stepFive (c : Nat) (s u : State) (hs : TablesRise s) (hu : u = stepFive c s) :
    u.flt.stopPending = none ∧ u.flt.isoPending = [] ∧ (∀ x ∈ s.flt.isolated, x ∈ u.flt.isolated) ∧
    (∀ x ∈ s.flt.isoPending, (∀ n ∈ targetDomains x.target, (powerDom s n).phase = .on ∨ (powerDom s n).goal ≠ none) → isIsolated u x.target = true) ∧
    (∀ n : Nat, s.flt.stopPending = some n → u.flt.stopped = some n ∧ bit (cell u .fltEvt) 19 = true ∧ ∀ e < 9, (engine u e).queue = []) ∧
    (s.flt.stopPending = none → ¬ (s.flt.restartPending = true ∧ dpStopped s = true) → u.flt.stopped = s.flt.stopped) ∧
    (s.flt.stopPending = none → s.flt.restartPending = true → dpStopped s = true → dpStopped u = false ∧ u.flt.restartPending = false ∧
      bit (cell u .fltEvt) 20 = true ∧ ∃ x ∈ u.cns.due, x.type = 9 ∧ x.data5 = BitVec.ofNat 64 s.flt.restartSeq) := by
  subst hu
  rw [stepFive_eq]
  obtain ⟨h1, hpwr, hiso, hstop, hin, hnot, hdo⟩ := tickRestart_keeps (c := c) hs
  obtain ⟨h2, k2⟩ := (tickCloses_steady (tickRestart c s)).keeps h1
  have s2 := k2.steers
  simp only [Faults.steers, Prod.mk.injEq] at s2
  obtain ⟨hiso2, hstop2, hstopped2, hrest2, -⟩ := s2
  have hpwr2 : (tickCloses (tickRestart c s)).pwr = s.pwr := by
    rw [← hpwr]
    unfold tickCloses
    split
    · exact (mortarStop_does _).only.same .pwr (by decide)
    · rfl
  have hcns2 : (tickCloses (tickRestart c s)).cns = (tickRestart c s).cns := by
    unfold tickCloses
    split
    · exact (mortarStop_does _).only.same .cns (by decide)
    · rfl
  generalize hx : tickCloses (tickRestart c s) = x at *
  have hx1 : TablesRise (x.modFlt fun f => { f with isoPending := [] }) := { h2 with }
  obtain ⟨h3, k3⟩ := (tickIsolates_steady x).keeps hx1
  have s3 := k3.steers
  simp only [Faults.steers, State.modFlt_flt, Prod.mk.injEq] at s3
  obtain ⟨hiso3, hstop3, hstopped3, hrest3, -⟩ := s3
  have hcns3 : (tickIsolates x).cns = x.cns :=
    (Does.forL (L := [.regs, .flt, .port0, .port1, .quo, .lanes, .downlinks, .groups, .ash, .ring, .qry, .mrt, .streams, .uplinks, .retLanes, .lnt, .gau, .plb])
      (fun y _ h => .step (isolate_does y _) rfl h) (.refl _ _)).only.same .cns (by decide)
  have hall {y : IsoPending} (hy : y ∈ s.flt.isoPending) (hd : ∀ n ∈ targetDomains y.target, (powerDom s n).phase = .on ∨ (powerDom s n).goal ≠ none) :
      isIsolated (tickIsolates x) y.target = true :=
    isolates_isolate hx1 (by rw [hiso2, hiso]; exact hy) fun n hn => by rw [powerDom_of_pwr (t := x.modFlt _) hpwr2]; exact hd n hn
  have isolated3 : ∀ y ∈ s.flt.isolated, y ∈ (tickIsolates x).flt.isolated := fun y hy => k3.isolated y (k2.isolated y (hin y hy))
  obtain ⟨-, hiso4, hstop4, hrest4, hin4, hsome4, hnone4⟩ := tickStop_keeps h3
  have stopped3 : (tickIsolates x).flt.stopPending = s.flt.stopPending := hstop3.trans (hstop2.trans hstop)
  refine ⟨hstop4, hiso4.trans hiso3, fun y hy => hin4 y (isolated3 y hy), fun y hy hd => isIsolated_mono hin4 (hall hy hd),
    fun n hn => hsome4 n (stopped3.trans hn), fun hn hr => ?_, fun hn hr hd => ?_⟩
  · rw [hnone4 (stopped3.trans hn), hstopped3, hstopped2, hnot hr]
  · rw [hnone4 (stopped3.trans hn)]
    obtain ⟨r1, r2, r3, r4⟩ := hdo hr hd
    refine ⟨?_, hrest3.trans (hrest2.trans r2), k3.fltEvt 20 (by decide) (k2.fltEvt 20 (by decide) r3), ?_⟩
    · rw [dpStopped, hstopped3, hstopped2, r1]
      rfl
    · rw [hcns3, hcns2]
      exact r4

end Sys2Proof.Machine
end

section
/-!
O20: the time at step 4 of a course tick: domains lock, the servo acquires, a selection is taken (R36, R38, R51).
-/
namespace Sys2Proof.Machine

/-! ### Domains lock (R36) -/

/-- The domain as a course tick counts its run of good phase. -/
def QDomain.ran (ok : Bool) (q : QDomain) : QDomain := { q with phaseRun := if ok then q.phaseRun + 1 else 0 }

/-- The criteria of LOCKED, of a domain as such, at a moment. -/
def QDomain.ready (g : Nat) (q : QDomain) : Bool :=
  q.phase == .tracking && decide (q.phaseRun ≥ 64) && decide (q.goodSyncs ≥ 4) && q.exchangeDone && q.announced &&
    (match q.lastCount with
      | some (_, h) => decide (g - h ≤ 4096)
      | none => false)

theorem lockReady_eq (s : State) (d : Fin 2) : lockReady s d = (qdom s d).ready (nowGbt s) := rfl

/-- The BT offset of a domain's last count. -/
def QDomain.counted (q : QDomain) : BitVec 64 := match q.lastCount with | some (n, g) => BitVec.ofNat 64 n - BitVec.ofNat 64 g | none => 0

/-- The domain as it locks. -/
def QDomain.locks (c : Nat) (off : BitVec 64) (q : QDomain) : QDomain := { q with phase := .locked, lockCourse := c, offset := off, offsetValid := true, orbitSeen := false }

/-- The run of good phase is counted. -/
def tickRuns (d : Fin 2) (ok : Bool) (s : State) : State := if domTracked s d then modDom d (.ran ok) s else s

theorem tickRuns_own (d : Fin 2) (ok : Bool) (s : State) : qdom (tickRuns d ok s) d = if domTracked s d then (qdom s d).ran ok else qdom s d := by
  unfold tickRuns
  split
  · exact qdom_modDom ..
  · rfl

theorem tickRuns_other (d : Fin 2) (ok : Bool) (s : State) : qdom (tickRuns d ok s) (otherDom d) = qdom s (otherDom d) := by
  unfold tickRuns
  split
  · exact qdom_modDom_other ..
  · rfl

theorem tickRuns_keeps (d : Fin 2) (ok : Bool) (s : State) :
    (tickRuns d ok s).quo.servo = s.quo.servo ∧ (tickRuns d ok s).quo.active = s.quo.active ∧ (tickRuns d ok s).btr = s.btr ∧ (tickRuns d ok s).regs = s.regs := by
  unfold tickRuns
  split
  · exact ⟨(modDom_servo d _ s).1, (modDom_servo d _ s).2.1, rfl, rfl⟩
  · exact ⟨rfl, rfl, rfl, rfl⟩

/-- A domain that meets the criteria locks, with its event. -/
def tickLocks (d : Fin 2) (s : State) : State := event .quoEvt 0 (16 + d.val) (modDom d (.locks (nowCourse s) (qdom s d).counted) s)

/-- Whether a domain that locks is held against the other one and disagrees. -/
def disagrees (d : Fin 2) (off : BitVec 64) (s : State) : Bool :=
  let o := qdom s (otherDom d)
  (o.phase == .locked || (s.quo.servo != .free && decide (s.quo.active = otherDom d) && o.offsetValid)) && o.offset != off

theorem quoTickLock_eq (d : Fin 2) (ok : Bool) (s : State) : quoTickLock d ok s =
    if lockReady (tickRuns d ok s) d then
      (if disagrees d (qdom (tickRuns d ok s) d).counted (tickLocks d (tickRuns d ok s)) then raise Src.timeDomainDisagree 0 [] (tickLocks d (tickRuns d ok s))
        else tickLocks d (tickRuns d ok s))
    else tickRuns d ok s := rfl

/-- A domain that locks does so with its event; what else is raised leaves the time. -/
theorem quoTickLock_cases (d : Fin 2) (ok : Bool) (s : State) : (lockReady (tickRuns d ok s) d = false → quoTickLock d ok s = tickRuns d ok s) ∧
    (lockReady (tickRuns d ok s) d = true → quoTickLock d ok s = tickLocks d (tickRuns d ok s) ∨
      quoTickLock d ok s = raise Src.timeDomainDisagree 0 [] (tickLocks d (tickRuns d ok s))) := by
  rw [quoTickLock_eq]
  refine ⟨fun h => if_neg (by rw [h]; exact Bool.false_ne_true), fun h => ?_⟩
  rw [if_pos h]
  split
  · exact .inr rfl
  · exact .inl rfl

/-- What a lock leaves in time: its own domain as it locks or runs, the other one as it stands, and the servo. -/
theorem quoTickLock_doms {s : State} (hs : TablesRise s) (d : Fin 2) (ok : Bool) :
    qdom (quoTickLock d ok s) d = (if lockReady (tickRuns d ok s) d then (qdom (tickRuns d ok s) d).locks (nowCourse s) (qdom (tickRuns d ok s) d).counted
      else qdom (tickRuns d ok s) d) ∧ qdom (quoTickLock d ok s) (otherDom d) = qdom s (otherDom d) ∧ (quoTickLock d ok s).btr = s.btr ∧
    (quoTickLock d ok s).quo.servo = s.quo.servo ∧ (quoTickLock d ok s).quo.active = s.quo.active ∧
    (lockReady (tickRuns d ok s) d = true → bit (cell (quoTickLock d ok s) .quoEvt) (16 + d.val) = true) := by
  obtain ⟨k1, k2, k3, k4⟩ := tickRuns_keeps d ok s
  obtain ⟨h1, h2⟩ := quoTickLock_cases d ok s
  cases h : lockReady (tickRuns d ok s) d with
  | false =>
    rw [h1 h]
    exact ⟨rfl, tickRuns_other .., k3, k1, k2, fun h => nomatch h⟩
  | true =>
    have hq (b : Nat) (u : State) : (event .quoEvt 0 b u).quo = u.quo := (event_others .quoEvt 0 b u).1
    have goal (v : State) (hv : v.quo = (tickLocks d (tickRuns d ok s)).quo) (hb : v.btr = (tickLocks d (tickRuns d ok s)).btr)
        (hr : v.regs = (tickLocks d (tickRuns d ok s)).regs) :
        qdom v d = (qdom (tickRuns d ok s) d).locks (nowCourse s) (qdom (tickRuns d ok s) d).counted ∧ qdom v (otherDom d) = qdom s (otherDom d) ∧ v.btr = s.btr ∧
          v.quo.servo = s.quo.servo ∧ v.quo.active = s.quo.active ∧ bit (cell v .quoEvt) (16 + d.val) = true := by
      have hv := hv.trans (hq _ _)
      refine ⟨?_, ?_, ?_, ?_, ?_, ?_⟩
      · rw [qdom_quo hv, qdom_modDom, nowCourse, k3]; rfl
      · rw [qdom_quo hv, qdom_modDom_other, tickRuns_other]
      · rw [hb, ← k3]; exact (event_does ..).only.same .btr (by decide)
      · rw [hv, (modDom_servo ..).1, k1]
      · rw [hv, (modDom_servo ..).2.1, k2]
      · rw [cell_regs hr]
        have ht : TablesRise (tickRuns d ok s) := by unfold tickRuns; split; exacts [(modDom_does ..).tables hs, hs]
        exact bit_event_set ((modDom_does ..).tables ht) _ (by omega) (.inl ⟨rfl, by omega⟩)
    rcases h2 h with e | e <;> rw [e]
    · obtain ⟨g1, g2, g3, g4, g5, g6⟩ := goal _ rfl rfl rfl
      exact ⟨g1, g2, g3, g4, g5, fun _ => g6⟩
    · obtain ⟨g1, g2, g3, g4, g5, g6⟩ := goal (raise Src.timeDomainDisagree 0 [] (tickLocks d (tickRuns d ok s))) rfl rfl rfl
      exact ⟨g1, g2, g3, g4, g5, fun _ => g6⟩

/-- R36: a domain that does not track keeps its phase and offset. -/
theorem quoTickLock_untracked {s : State} (hs : TablesRise s) {d : Fin 2} (ok : Bool) (h : (qdom s d).phase ≠ .tracking) :
    (qdom (quoTickLock d ok s) d).phase = (qdom s d).phase ∧ (qdom (quoTickLock d ok s) d).offset = (qdom s d).offset := by
  have same : (qdom (tickRuns d ok s) d).phase = (qdom s d).phase ∧ (qdom (tickRuns d ok s) d).offset = (qdom s d).offset := by
    rw [tickRuns_own]
    split <;> exact ⟨rfl, rfl⟩
  have no : lockReady (tickRuns d ok s) d = false := by
    rw [lockReady_eq, QDomain.ready, same.1, beq_false_of_ne h]
    simp only [Bool.false_and]
  rw [(quoTickLock_doms hs d ok).1, no]
  exact same

/-- R36: a domain that tracks meets the criteria at a tick. -/
theorem lockReady_iff {s : State} {d : Fin 2} (ok : Bool) (h : (qdom s d).phase = .tracking) : lockReady (tickRuns d ok s) d = true ↔
    ok = true ∧ 63 ≤ (qdom s d).phaseRun ∧ 4 ≤ (qdom s d).goodSyncs ∧ (qdom s d).exchangeDone = true ∧ (qdom s d).announced = true ∧
      ∃ n g : Nat, (qdom s d).lastCount = some (n, g) ∧ nowGbt s - g ≤ 4096 := by
  have tracked : domTracked s d = true := by unfold domTracked; rw [h]; rfl
  obtain ⟨-, -, k3, -⟩ := tickRuns_keeps d ok s
  have hg : nowGbt (tickRuns d ok s) = nowGbt s := by unfold nowGbt nowCourse nowBt; rw [k3]
  rw [lockReady_eq, tickRuns_own, if_pos tracked, hg]
  unfold QDomain.ready QDomain.ran
  dsimp only
  rw [h]
  simp only [Bool.and_eq_true, decide_eq_true_eq, beq_self_eq_true, true_and]
  constructor
  · rintro ⟨⟨⟨⟨hrun, hsync⟩, hex⟩, han⟩, hc⟩
    cases ok with
    | false => exact absurd (show 64 ≤ 0 from hrun) (by decide)
    | true =>
      cases hl : (qdom s d).lastCount with
      | none => rw [hl] at hc; cases hc
      | some x =>
        rw [hl] at hc
        exact ⟨rfl, Nat.le_of_succ_le_succ hrun, hsync, hex, han, x.1, x.2, rfl, of_decide_eq_true hc⟩
  · rintro ⟨rfl, hrun, hsync, hex, han, n, g, hl, hg⟩
    rw [hl]
    exact ⟨⟨⟨⟨Nat.succ_le_succ hrun, hsync⟩, hex⟩, han⟩, decide_eq_true hg⟩

end Sys2Proof.Machine
end

section
/-!
O20: the slot map at step 4 of a course tick: a migration that is due (R140).
-/
namespace Sys2Proof.Machine

/-- What step 4 does before the time: the conflicts of the maps that took effect. -/
def tickResolves (maps : List Nat) (s : State) : State := if maps.isEmpty then s else resolveMaps maps s

theorem tickResolves_does (maps : List Nat) (s : State) : Does [.regs, .flt, .port0, .port1, .streams] s (tickResolves maps s) :=
  .ite (.refl _ _) (resolveMaps_does ..)

/-- Step 4 as its parts. -/
theorem stepFour_eq (c : Nat) (o : TickObs) (free : Bool) (d : TickDue) (s : State) : stepFour c o free d s =
    uplCheckAll (lintelConflicts d.lanes (quoinTick c o free d.selection (movesTick c (migrationTick c (tickResolves d.maps s))))) := rfl

theorem stepFour_ash (c : Nat) (o : TickObs) (free : Bool) (d : TickDue) (s : State) :
    (stepFour c o free d s).ash = (migrationTick c (tickResolves d.maps s)).ash := by
  rw [stepFour_eq]
  exact ((uplCheckAll_does _).only.same .ash (by decide)).trans <| ((lintelConflicts_does ..).only.same .ash (by decide)).trans <|
    ((quoinTick_does ..).only.same .ash (by decide)).trans ((movesTick_does ..).only.same .ash (by decide))

/-! ### A migration that is taken -/

/-- The slot map as a migration is taken: the slot is the new engine's. -/
def Ashlar.takes (m : Migration) (doubled : Bool) (a : Ashlar) : Ashlar := { a with
  reserved := false
  slots := a.slots.set m.slot m.to_
  migrations := a.migrations.map (fun y => if y.slot = m.slot then { y with taken := true, doubled := doubled } else y) }

/-- A former engine drains what it holds. -/
def Engine.drains (y : Engine) : Engine := { y with phase := .draining, queue := y.queue.map (fun x => { x with single := true }) }

/-- The former engine drains where it was ACTIVE. -/
def formerDrains (m : Migration) (doubled : Bool) (s : State) : State := if doubled then event .ashEngEvt m.former 17 (modEngine m.former (·.drains) s) else s

theorem modAsh_engine {f : Ashlar → Ashlar} {s : State} (h : (f s.ash).engines = s.ash.engines) (e : Nat) : engine (s.modAsh f) e = engine s e := by
  unfold engine State.modAsh
  rw [h]

/-- What a migration leaves that finds its engine SPARE. -/
theorem migrationTake_spare {m : Migration} {s : State} (h : (engine s m.to_).phase = .spare) : ∃ f : Ashlar → Ashlar,
    (∀ a, (f a).slots = a.slots ∧ (f a).engines = a.engines ∧ (f a).reserved = a.reserved) ∧
    (migrationTake m s).ash = f (modEngine m.to_ (fun y => { y with phase := .active })
      (formerDrains m ((engine s m.former).phase == .active) (s.modAsh (·.takes m ((engine s m.former).phase == .active))))).ash := by
  have hto (e : Nat) : engine (s.modAsh fun a => { a with reserved := false }) e = engine s e := modAsh_engine rfl e
  refine ⟨fun a => { a with orphanRaised := a.orphanRaised.filter (fun x => engineSlot (formerDrains m ((engine s m.former).phase == .active)
    (s.modAsh (·.takes m ((engine s m.former).phase == .active)))) m.to_ != some x) }, fun a => ⟨rfl, rfl, rfl⟩, ?_⟩
  unfold migrationTake
  dsimp only
  rw [hto, hto, h, if_pos (show (EnginePhase.spare == EnginePhase.spare) = true from rfl)]
  refine ((ldgComplete_does ..).only.same .ash (by decide)).trans (((raise_does ..).only.same .ash (by decide)).trans ?_)
  unfold engineActive
  dsimp only [State.modAsh]
  rw [event_ash]
  rfl

theorem formerDrains_ash (m : Migration) (doubled : Bool) (s : State) :
    (formerDrains m doubled s).ash.slots = s.ash.slots ∧ (formerDrains m doubled s).ash.reserved = s.ash.reserved := by
  unfold formerDrains
  split
  · rw [event_ash]; exact ⟨rfl, rfl⟩
  · exact ⟨rfl, rfl⟩

theorem formerDrains_engine {s : State} (hs : Rises s.ash.engines) (m : Migration) : (engine (formerDrains m true s) m.former).phase = .draining := by
  rw [show formerDrains m true s = event .ashEngEvt m.former 17 (modEngine m.former (·.drains) s) from rfl, engine_of (event_ash ..), engine_modEngine hs]
  rfl

theorem formerDrains_does (m : Migration) (doubled : Bool) (s : State) : Does [.regs, .port0, .port1, .ash] s (formerDrains m doubled s) := by
  unfold formerDrains
  exact .ite (.step (event_does ..) rfl (.step (modEngine_does ..) rfl (.refl _ _))) (.refl _ _)

theorem migrationTake_takes {m : Migration} {s : State} (hs : TablesRise s) (hm : m.slot < s.ash.slots.length) (h : (engine s m.to_).phase = .spare) :
    (migrationTake m s).ash.reserved = false ∧ slotEngine (migrationTake m s) m.slot = m.to_ ∧ (engine (migrationTake m s) m.to_).phase = .active ∧
    ((engine s m.former).phase = .active → (engine (migrationTake m s) m.former).phase = .draining) := by
  obtain ⟨f, hf, e⟩ := migrationTake_spare h
  let x := s.modAsh (·.takes m ((engine s m.former).phase == .active))
  have hx : TablesRise x := { hs with engines := hs.engines }
  let y := formerDrains m ((engine s m.former).phase == .active) x
  have hy : Rises y.ash.engines := ((formerDrains_does ..).tables hx).engines
  have hengine (k : Nat) : engine (migrationTake m s) k = engine (modEngine m.to_ (fun y => { y with phase := .active }) y) k := by
    unfold engine
    rw [e, (hf _).2.1]
  obtain ⟨hslots, hreserved⟩ := formerDrains_ash m ((engine s m.former).phase == .active) x
  refine ⟨?_, ?_, ?_, fun hformer => ?_⟩
  · rw [e, (hf _).2.2]
    exact hreserved
  · unfold slotEngine
    rw [e, (hf _).1]
    refine (congrArg (·.getD m.slot 8) hslots).trans ?_
    rw [show x.ash.slots = s.ash.slots.set m.slot m.to_ from rfl, List.getD_eq_getElem?_getD, List.getElem?_set_self hm]
    rfl
  · rw [hengine, engine_modEngine hy]
  · have other : m.former ≠ m.to_ := fun e => by rw [e, h] at hformer; cases hformer
    rw [hengine, engine_modEngine_other hy other]
    have ha : ((engine s m.former).phase == EnginePhase.active) = true := by rw [hformer]; rfl
    exact (congrArg (fun b => (engine (formerDrains m b x) m.former).phase) ha).trans (formerDrains_engine hx.engines m)

/-- A migration that finds its engine not SPARE ends. -/
theorem migrationTake_ends {m : Migration} {s : State} (h : (engine s m.to_).phase ≠ .spare) :
    (migrationTake m s).ash = { s.ash with reserved := false, migrations := s.ash.migrations.filter (fun y => y.slot != m.slot) } := by
  have hto (e : Nat) : engine (s.modAsh fun a => { a with reserved := false }) e = engine s e := modAsh_engine rfl e
  unfold migrationTake
  dsimp only
  rw [hto, if_neg (by rw [beq_false_of_ne h]; exact Bool.false_ne_true)]
  split <;> exact (ldgComplete_does ..).only.same .ash (by decide)

/-! ### The tick -/

theorem courseTick_slots (c : Nat) (obs : TickObs) (free : Bool) (d : TickDue) (s u : State) (hs : TablesRise s) (hu : u = stepFour c obs free d s) :
    (s.ash.migrations.filter (fun y => !y.taken && decide (y.boundary = c + 1)) = [] → u.ash.slots = s.ash.slots) ∧
    (∀ m : Migration, s.ash.migrations.filter (fun y => !y.taken && decide (y.boundary = c + 1)) = [m] → m.slot < s.ash.slots.length →
      u.ash.reserved = false ∧
      ((engine s m.to_).phase = .spare → slotEngine u m.slot = m.to_ ∧ (engine u m.to_).phase = .active ∧
        ((engine s m.former).phase = .active → (engine u m.former).phase = .draining)) ∧
      ((engine s m.to_).phase ≠ .spare → u.ash.slots = s.ash.slots ∧ ∀ y ∈ u.ash.migrations, y.slot ≠ m.slot)) := by
  have did := tickResolves_does d.maps s
  let x := tickResolves d.maps s
  have hx : TablesRise x := did.tables hs
  have hxash : x.ash = s.ash := did.only.same .ash (by decide)
  have hua : u.ash = (forL (s.ash.migrations.filter (fun y => !y.taken && decide (y.boundary = c + 1))) migrationTake x).ash := by
    rw [hu, stepFour_ash, ← hxash]
    rfl
  refine ⟨fun h => by rw [hua, h]; exact congrArg _ hxash, fun m h hm => ?_⟩
  rw [h] at hua
  have hua : u.ash = (migrationTake m x).ash := hua
  have he (k : Nat) : engine x k = engine s k := engine_of hxash k
  by_cases hp : (engine s m.to_).phase = .spare
  · obtain ⟨h1, h2, h3, h4⟩ := migrationTake_takes hx (by rw [hxash]; exact hm) (by rwa [he])
    rw [he] at h4
    refine ⟨by rw [hua, h1], fun _ => ⟨?_, by rw [engine_of hua, h3], fun hf => by rw [engine_of hua, h4 hf]⟩, fun hn => absurd hp hn⟩
    unfold slotEngine at h2 ⊢
    rw [hua, h2]
  · have ends := hua.trans (migrationTake_ends (m := m) (s := x) (by rwa [he]))
    rw [hxash] at ends
    exact ⟨by rw [ends], fun hn => absurd hn hp, fun _ => ⟨by rw [ends], fun y hy => by
      rw [ends] at hy
      exact bne_iff_ne.1 (List.mem_filter.1 hy).2⟩⟩

end Sys2Proof.Machine
end

section
/-!
O20: the servo and the selection at step 4 of a course tick (R38, R39, R45, R49 to R52).
-/
namespace Sys2Proof.Machine

/-! ### What leaves the domains and the servo -/

/-- The domains, the servo, the active domain and its slew stand. -/
structure Led (s t : State) : Prop where
  doms : ∀ i : Fin 2, qdom t i = qdom s i
  servo : t.quo.servo = s.quo.servo
  active : t.quo.active = s.quo.active
  slewing : t.quo.slewing = s.quo.slewing

theorem Led.refl (s : State) : Led s s := ⟨fun _ => rfl, rfl, rfl, rfl⟩

theorem Led.trans {s t u : State} (h : Led s t) (g : Led t u) : Led s u :=
  ⟨fun i => (g.doms i).trans (h.doms i), g.servo.trans h.servo, g.active.trans h.active, g.slewing.trans h.slewing⟩

theorem Led.quo {s t : State} (h : t.quo = s.quo) : Led s t := ⟨fun i => qdom_quo h i, by rw [h], by rw [h], by rw [h]⟩

theorem Led.forL {α : Type} {f : α → State → State} (h : ∀ a t, Led t (f a t)) (l : List α) (s : State) : Led s (Machine.forL l f s) := by
  induction l generalizing s with
  | nil => exact .refl s
  | cons a l ih => exact (h a s).trans (ih _)

theorem Led.forN {f : Nat → State → State} (h : ∀ a t, Led t (f a t)) (n : Nat) (s : State) : Led s (Machine.forN n f s) := by
  induction n with
  | zero => exact .refl s
  | succ n ih => rw [forN_succ]; exact ih.trans (h n _)

theorem quoTickNominal_led (free : Bool) (s : State) : Led s (quoTickNominal free s) := by
  unfold quoTickNominal
  split
  · exact ⟨fun _ => rfl, rfl, rfl, rfl⟩
  · exact .refl s

theorem uplRefBack_led (s : State) : Led s (uplRefBack s) :=
  have h : (Machine.forN 8 (fun h => modUplGroup h (fun x => { x with refHold := false })) s).quo = s.quo :=
    (Does.forN (fun _ _ h => .step (modUplGroup_does ..) rfl h) (Does.refl [.uplGroups] s)).only.same .quo (by decide)
  (Led.quo h).trans ⟨fun _ => rfl, rfl, rfl, rfl⟩

theorem modClock_led (p : Nat) (f : PartnerClock → PartnerClock) (s : State) : Led s (modClock p f s) := ⟨fun _ => rfl, rfl, rfl, rfl⟩

theorem quoTickDelay_led (p : Nat) (s : State) : Led s (quoTickDelay p s) := by
  unfold quoTickDelay
  split
  · exact (modClock_led ..).trans (.quo rfl)
  · exact .refl s

theorem measureCheck_led (m : Nat) (s : State) : Led s (measureCheck m s) := by
  unfold measureCheck
  split
  · split
    · exact Led.trans (t := measureDrop _ s) ⟨fun _ => rfl, rfl, rfl, rfl⟩ (.quo ((ldgComplete_does ..).only.same .quo (by decide)))
    · exact .refl s
  · exact .refl s

/-- The oscillator as a tick finds it. -/
def xoGood (o : TickObs) (s : State) : Bool :=
  o.xoPresent && (if (qdom s 0).phase == .locked || (qdom s 1).phase == .locked then o.xoWithin100ppm else o.xoWithin5pct)

/-- The oscillator is noted. -/
def xoNoted (o : TickObs) (s : State) : State := s.modQuo fun q => { q with xoOk := xoGood o s, xoChecked := true }

/-- The oscillator fails. -/
def xoFails (s : State) : State := if s.quo.servo == .holdover then setServo .free (raise Src.timeXoFail 0 [] s) else raise Src.timeXoFail 0 [] s

theorem quoTickXo_cases (o : TickObs) (s : State) : quoTickXo o s = xoNoted o s ∨ (xoGood o s = false ∧ quoTickXo o s = xoFails (xoNoted o s)) := by
  have e : quoTickXo o s = (let fails := !xoGood o s && (s.quo.xoOk || !s.quo.xoChecked)
    let t := if fails then raise Src.timeXoFail 0 [] (xoNoted o s) else xoNoted o s
    if fails && t.quo.servo == .holdover then setServo .free t else t) := rfl
  rw [e]
  dsimp only
  cases hf : !xoGood o s && (s.quo.xoOk || !s.quo.xoChecked) with
  | false => exact .inl rfl
  | true => exact .inr ⟨by simpa using (Bool.and_eq_true_iff.1 hf).1, rfl⟩

theorem xoFails_leads (s : State) : (∀ i, qdom (xoFails s) i = qdom s i) ∧ (xoFails s).quo.active = s.quo.active ∧ (s.quo.servo = .free → (xoFails s).quo.servo = .free) := by
  unfold xoFails
  split
  · exact ⟨fun _ => rfl, rfl, fun _ => rfl⟩
  · exact ⟨fun _ => rfl, rfl, fun h => h⟩

/-- R45: the check of the oscillator leaves the domains and the active one, a servo that is FREE, and every servo where the oscillator is good. -/
theorem quoTickXo_leads (o : TickObs) (s : State) : (∀ i, qdom (quoTickXo o s) i = qdom s i) ∧ (quoTickXo o s).quo.active = s.quo.active ∧
    (s.quo.servo = .free → (quoTickXo o s).quo.servo = .free) ∧
    (o.xoPresent = true → o.xoWithin100ppm = true → o.xoWithin5pct = true → (quoTickXo o s).quo.servo = s.quo.servo) := by
  rcases quoTickXo_cases o s with e | ⟨hb, e⟩ <;> rw [e]
  · exact ⟨fun _ => rfl, rfl, fun h => h, fun _ _ _ => rfl⟩
  · obtain ⟨h1, h2, h3⟩ := xoFails_leads (xoNoted o s)
    refine ⟨h1, h2, h3, fun g1 g2 g3 => ?_⟩
    rw [xoGood, g1, g2, g3, ite_self] at hb
    cases hb

/-! ### The switch -/

theorem switchTo_doms (d : Fin 2) (auto : Bool) (s : State) (i : Fin 2) : qdom (switchTo d auto s) i = qdom s i := by
  have hq : (event .quoEvt 0 20 (s.modQuo fun q => { q with active := d, former := if auto then some s.quo.active else none, bothLost := false, slewing := true })).quo =
      (s.modQuo fun q => { q with active := d, former := if auto then some s.quo.active else none, bothLost := false, slewing := true }).quo := (event_others ..).1
  have h (u : State) (e : u.quo = (s.modQuo fun q => { q with active := d, former := if auto then some s.quo.active else none, bothLost := false, slewing := true }).quo) :
      qdom u i = qdom s i := (qdom_quo e i).trans rfl
  unfold switchTo
  dsimp only
  split
  · exact ((servoMove_setServo ..).qdom_eq i).trans (h _ hq)
  · exact ((servoMove_setServo ..).qdom_eq i).trans (h _ hq)
  · exact h _ hq

theorem holdoverReturn_doms (s : State) (i : Fin 2) : qdom (holdoverReturn s) i = qdom s i := rfl

theorem servoAutomatic_doms (c : Nat) (o : TickObs) (s : State) (i : Fin 2) : qdom (servoAutomatic c o s) i = qdom s i := by
  unfold servoAutomatic
  dsimp only
  repeat' (with_reducible split)
  · exact switchTo_doms ..
  · exact switchTo_doms ..
  · exact switchTo_doms ..
  · exact holdoverReturn_doms ..
  · rfl

theorem domainRequest_doms (c : Nat) (o : TickObs) (d : Fin 2) (force : Bool) (s : State) (i : Fin 2) : qdom (domainRequest c o d force s).1 i = qdom s i := by
  unfold domainRequest
  dsimp only
  repeat' (with_reducible split)
  · exact qdom_quo (event_others ..).1 i
  · exact switchTo_doms ..
  · exact holdoverReturn_doms ..
  · rfl

/-- The servo takes the domain as the one that is active. -/
def servoTakes (d : Fin 2) (s : State) : State :=
  let s1 := if d = s.quo.active then s else event .quoEvt 0 20 s
  setServo .acquire (s1.modQuo fun q => { q with active := d, former := none, bothLost := false })

theorem servoTakes_leads (d : Fin 2) (s : State) : (∀ i, qdom (servoTakes d s) i = qdom s i) ∧ (servoTakes d s).quo.active = d ∧ (servoTakes d s).quo.servo = .acquire := by
  refine ⟨fun i => ?_, rfl, rfl⟩
  refine ((servoMove_setServo ..).qdom_eq i).trans ?_
  split
  · rfl
  · exact qdom_quo (event_others ..).1 i

theorem servoFreeAcquire_eq (s : State) : servoFreeAcquire s =
    if (qdom s 0).phase == .locked then servoTakes 0 s else if (qdom s 1).phase == .locked then servoTakes 1 s else s := rfl

/-- What R38 asks of a servo that is FREE. -/
def Acquires (s t : State) : Prop :=
  (∀ i, qdom t i = qdom s i) ∧ ((qdom s 0).phase = .locked → t.quo.active = 0 ∧ t.quo.servo = .acquire) ∧
    ((qdom s 0).phase ≠ .locked → (qdom s 1).phase = .locked → t.quo.active = 1 ∧ t.quo.servo = .acquire) ∧
    ((qdom s 0).phase ≠ .locked → (qdom s 1).phase ≠ .locked → t.quo.active = s.quo.active ∧ t.quo.servo = s.quo.servo)

theorem servoFreeAcquire_acquires (s : State) : Acquires s (servoFreeAcquire s) := by
  rw [servoFreeAcquire_eq]
  by_cases h0 : (qdom s 0).phase = .locked
  · rw [h0, if_pos (show (DomPhase.locked == DomPhase.locked) = true from rfl)]
    obtain ⟨h1, h2, h3⟩ := servoTakes_leads 0 s
    exact ⟨h1, fun _ => ⟨h2, h3⟩, fun h => absurd h0 h, fun h => absurd h0 h⟩
  · rw [beq_false_of_ne h0, if_neg Bool.false_ne_true]
    by_cases h1 : (qdom s 1).phase = .locked
    · rw [h1, if_pos (show (DomPhase.locked == DomPhase.locked) = true from rfl)]
      obtain ⟨g1, g2, g3⟩ := servoTakes_leads 1 s
      exact ⟨g1, fun h => absurd h h0, fun _ _ => ⟨g2, g3⟩, fun _ h => absurd h1 h⟩
    · rw [beq_false_of_ne h1, if_neg Bool.false_ne_true]
      exact ⟨fun _ => rfl, fun h => absurd h h0, fun _ h => absurd h h1, fun _ _ => ⟨rfl, rfl⟩⟩

theorem Acquires.led {s t u : State} (h : Acquires s t) (g : Led t u) : Acquires s u := by
  obtain ⟨h1, h2, h3, h4⟩ := h
  unfold Acquires
  rw [g.active, g.servo]
  exact ⟨fun i => (g.doms i).trans (h1 i), h2, h3, h4⟩

/-- R38: a servo that is FREE, whatever is selected. -/
theorem quoTickSwitch_free (c : Nat) (o : TickObs) (req : Option (Fin 2 × Bool)) {s : State} (h : s.quo.servo = .free) : Acquires s (quoTickSwitch c o req s) := by
  unfold quoTickSwitch
  rw [h, if_pos (show (Servo.free == Servo.free) = true from rfl)]
  dsimp only
  split
  · split
    · exact servoFreeAcquire_acquires s
    · exact (servoFreeAcquire_acquires s).led (.quo (event_others ..).1)
  · exact servoFreeAcquire_acquires s

theorem quoTickSwitch_doms (c : Nat) (o : TickObs) (req : Option (Fin 2 × Bool)) (s : State) (i : Fin 2) : qdom (quoTickSwitch c o req s) i = qdom s i := by
  by_cases h : s.quo.servo = .free
  · exact (quoTickSwitch_free c o req h).1 i
  · unfold quoTickSwitch
    rw [beq_false_of_ne h, if_neg Bool.false_ne_true]
    split
    · dsimp only
      split
      · exact domainRequest_doms ..
      · exact (servoAutomatic_doms ..).trans (domainRequest_doms ..)
    · exact servoAutomatic_doms ..

/-- R51: the selection of a domain that is not LOCKED is refused. -/
theorem quoTickSwitch_refuses (c : Nat) (o : TickObs) (i : Fin 2) (force : Bool) {s : State} (hs : TablesRise s) (h : (qdom s i).phase ≠ .locked) :
    bit (cell (quoTickSwitch c o (some (i, force)) s) .quoEvt) 21 = true := by
  have set {v : State} (hv : TablesRise v) : bit (cell (event .quoEvt 0 21 v) .quoEvt) 21 = true := bit_event_set hv _ (by decide) (.inl ⟨rfl, by decide⟩)
  by_cases hf : s.quo.servo = .free
  · have hl : ((qdom (servoFreeAcquire s) i).phase == DomPhase.locked) = false := beq_false_of_ne (by rw [(servoFreeAcquire_acquires s).1 i]; exact h)
    unfold quoTickSwitch
    rw [hf, if_pos (show (Servo.free == Servo.free) = true from rfl)]
    dsimp only
    rw [hl, if_neg (by rw [Bool.false_and]; exact Bool.false_ne_true)]
    exact set (((servoFreeAcquire_steady (k := true) s).keeps hs).1)
  · have hr : domainRequest c o i force s = (event .quoEvt 0 21 s, false) := by
      unfold domainRequest
      rw [beq_false_of_ne h]
      exact if_pos rfl
    unfold quoTickSwitch
    rw [beq_false_of_ne hf, if_neg Bool.false_ne_true]
    dsimp only
    rw [hr, if_neg Bool.false_ne_true]
    exact ((servoAutomatic_steady (k := true) ..).keeps ((event_does ..).tables hs)).2.quoEvt 21 (by decide) (set hs)

theorem switchTo_switches (d : Fin 2) (auto : Bool) {s : State} (hs : TablesRise s) : (switchTo d auto s).quo.active = d ∧ (switchTo d auto s).quo.slewing = true ∧
    bit (cell (switchTo d auto s) .quoEvt) 20 = true ∧ Reported Src.timeSwitch 0 [] s (switchTo d auto s) := by
  let x := s.modQuo fun q => { q with active := d, former := if auto then some s.quo.active else none, bothLost := false, slewing := true }
  have hx : TablesRise x := { hs with }
  let y := raise Src.timeSwitch 0 [] (event .quoEvt 0 20 x)
  have hq : y.quo = x.quo := (event_others ..).1
  have hb : (event .quoEvt 0 20 x).btr = s.btr := (event_does ..).only.same .btr (by decide)
  have hbit : bit (cell y .quoEvt) 20 = true := bit_event_set hx _ (by decide) (.inl ⟨rfl, by decide⟩)
  have hrep : Reported Src.timeSwitch 0 [] s y := reported_raise hb
  have goal (v : State) (ha : v.quo.active = y.quo.active) (hsl : v.quo.slewing = y.quo.slewing) (hr : v.regs = y.regs) (hf : v.flt = y.flt) :
      v.quo.active = d ∧ v.quo.slewing = true ∧ bit (cell v .quoEvt) 20 = true ∧ Reported Src.timeSwitch 0 [] s v :=
    ⟨ha.trans (congrArg (·.active) hq), hsl.trans (congrArg (·.slewing) hq), by rw [cell_regs hr]; exact hbit, hrep.keep hf⟩
  have led (w : Servo) := goal (setServo w y) rfl rfl rfl rfl
  rw [show switchTo d auto s = (match y.quo.servo with | .locked | .holdover => setServo .locked y | _ => y) from rfl]
  split
  · exact led _
  · exact led _
  · exact goal y rfl rfl rfl rfl

/-- R51: the selection of an eligible domain, or one forced, switches to it. -/
theorem quoTickSwitch_switches (c : Nat) (o : TickObs) {i : Fin 2} {force : Bool} {s : State} (hf : s.quo.servo ≠ .free) (hi : i ≠ s.quo.active)
    (hl : (qdom s i).phase = .locked) (he : force = true ∨ switchEligible o s i = true) : quoTickSwitch c o (some (i, force)) s = switchTo i false s := by
  have hr : domainRequest c o i force s = (switchTo i false s, true) := by
    unfold domainRequest
    have hok : ((qdom s i).phase == .locked && (force || i == s.quo.active || switchEligible o s i)) = true := by
      rw [hl]
      rcases he with rfl | he
      · rfl
      · rw [he, Bool.or_true]
        rfl
    rw [hok]
    exact if_pos hi
  unfold quoTickSwitch
  rw [beq_false_of_ne hf, if_neg Bool.false_ne_true]
  dsimp only
  rw [hr, if_pos rfl]

end Sys2Proof.Machine
end

section
/-!
O20: what step 4 of a course tick leaves of a domain, of the servo and of a selection (R36, R38, R51).
-/
namespace Sys2Proof.Machine

/-! ### Before the time -/

/-- The time, the moment and QUO_SWITCH_MAX stand. -/
structure Waits (s t : State) : Prop where
  tables : TablesRise t
  quo : t.quo = s.quo
  pos : t.btr.pos = s.btr.pos
  course : t.btr.course = s.btr.course
  limit : cell t .quoSwitchMax = cell s .quoSwitchMax

theorem Waits.trans {s t u : State} (h : Waits s t) (g : Waits t u) : Waits s u :=
  ⟨g.tables, g.quo.trans h.quo, g.pos.trans h.pos, g.course.trans h.course, g.limit.trans h.limit⟩

theorem Waits.of_steady {s t : State} (hs : TablesRise s) (h : Steady true s t) (hq : t.quo = s.quo) (hb : t.btr = s.btr) : Waits s t :=
  ⟨(h.keeps hs).1, hq, by rw [hb], by rw [hb], (h.keeps hs).2.limit⟩

theorem Waits.forL {α : Type} {f : α → State → State} (h : ∀ a t, TablesRise t → Waits t (f a t)) (l : List α) {s : State} (hs : TablesRise s) :
    Waits s (Machine.forL l f s) := by
  induction l generalizing s with
  | nil => exact ⟨hs, rfl, rfl, rfl, rfl⟩
  | cons a l ih => exact (h a s hs).trans (ih (h a s hs).tables)

/-- A change of the slot map leaves what is watched. -/
theorem modAsh_steady {k : Bool} {f : Ashlar → Ashlar} (hf : ∀ y, (f y).engines = y.engines) (s : State) : Steady k s (s.modAsh f) :=
  .does (State.modAsh_does f s fun y hy => by rw [hf]; exact hy) rfl (.refl s)

theorem engineActive_steady {k : Bool} (e : Nat) (s : State) : Steady k s (engineActive e s) := by
  unfold engineActive
  refine .step (modAsh_steady ?_ _) (.step (event_steady (r := .ashEngEvt) rfl e 16 _) (.does (modEngine_does ..) rfl (.refl s)))
  exact fun _ => rfl

theorem migrationTake_steady {k : Bool} (m : Migration) (s : State) : Steady k s (migrationTake m s) := by
  unfold migrationTake
  dsimp only
  have freed : Steady k s (s.modAsh fun a => { a with reserved := false }) := modAsh_steady (f := fun a => { a with reserved := false }) (fun _ => rfl) s
  have ended := Steady.step (modAsh_steady (f := fun a => { a with migrations := a.migrations.filter (fun y => y.slot != m.slot) }) (fun _ => rfl) _) freed
  split
  · refine .step (ldgComplete_steady ..) (.step (raise_steady ..) (.step (engineActive_steady ..) ?_))
    have mapped (f : Ashlar → Ashlar) (hf : ∀ y, (f y).engines = y.engines) := Steady.step (modAsh_steady (k := k) hf _) freed
    split
    · exact .step (event_steady (r := .ashEngEvt) rfl m.former 17 _) (.does (modEngine_does ..) rfl (mapped _ fun _ => rfl))
    · exact mapped _ fun _ => rfl
  · split
    · exact .step (ldgComplete_steady ..) ended
    · exact .step (ldgComplete_steady ..) ended

theorem migrationTick_steady {k : Bool} (c : Nat) (s : State) : Steady k s (migrationTick c s) := .forL (fun m _ h => .step (migrationTake_steady m _) h) (.refl s)

theorem tickResolves_steady {k : Bool} (maps : List Nat) (s : State) : Steady k s (tickResolves maps s) := .ite (.refl s) (resolveMaps_steady ..)

theorem passRole_waits (t : Nat) (m : MovePending) {s : State} (hs : TablesRise s) : Waits s (passRole t m s) := by
  have hn : regOff .quoSwitchMax ≠ regOff .uplEvt := by decide
  unfold passRole
  dsimp only
  refine ⟨((raise_does ..).tables ((event_does ..).tables ((modStream_does ..).tables ((setCb_does ..).tables hs)))), ?_, ?_, ?_, ?_⟩
  · exact (event_others ..).1.trans rfl
  · rw [raise_btr, event_btr]; rfl
  · rw [raise_btr, event_btr]; rfl
  · exact (cell_event_other (((modStream_does ..).tables ((setCb_does ..).tables hs)).regs) _ _ _ hn).trans rfl

theorem ldgComplete_waits (m status detail : Nat) (res : List Word) {s : State} (hs : TablesRise s) : Waits s (ldgComplete m status detail res s) :=
  .of_steady hs (ldgComplete_steady ..) ((ldgComplete_does ..).only.same .quo (by decide)) ((ldgComplete_does ..).only.same .btr (by decide))

theorem movesTick_waits (c : Nat) {s : State} (hs : TablesRise s) : Waits s (movesTick c s) := by
  have moved : Waits s (moveStreams c s) := .forL (fun x t ht => by
    split
    · exact passRole_waits _ _ ht
    · exact ⟨ht, rfl, rfl, rfl, rfl⟩) _ hs
  exact moved.trans (.forL (fun _ _ ht => ldgComplete_waits _ _ _ _ ht) _ moved.tables)

/-- What step 4 does before the time. -/
def beforeQuoin (c : Nat) (maps : List Nat) (s : State) : State := movesTick c (migrationTick c (tickResolves maps s))

theorem beforeQuoin_waits (c : Nat) (maps : List Nat) {s : State} (hs : TablesRise s) : Waits s (beforeQuoin c maps s) := by
  have h1 : Waits s (tickResolves maps s) := .of_steady hs (tickResolves_steady ..) ((tickResolves_does ..).only.same .quo (by decide)) ((tickResolves_does ..).only.same .btr (by decide))
  have h2 : Waits (tickResolves maps s) (migrationTick c (tickResolves maps s)) :=
    .of_steady h1.tables (migrationTick_steady ..) ((migrationTick_does ..).only.same .quo (by decide)) ((migrationTick_does ..).only.same .btr (by decide))
  exact (h1.trans h2).trans (movesTick_waits c (h1.trans h2).tables)

end Sys2Proof.Machine
end

section
/-!
O20: what step 4 of a course tick leaves of a domain, of the servo and of a selection (R36, R38, R51).
-/
namespace Sys2Proof.Machine

/-! ### Both domains -/

/-- Both domains at a tick. -/
def tickLocksBoth (o : TickObs) (s : State) : State := quoTickLock 1 o.phaseOkB (quoTickLock 0 o.phaseOkA s)

/-- R36: what a tick of course `c`, at BT `g`, makes of a domain. -/
def QDomain.Ticks (ok : Bool) (c g : Nat) (q r : QDomain) : Prop :=
  (q.phase ≠ .tracking → r.phase = q.phase ∧ r.offset = q.offset) ∧
  (q.phase = .tracking →
    (∀ n h : Nat, ok = true → 63 ≤ q.phaseRun → 4 ≤ q.goodSyncs → q.exchangeDone = true → q.announced = true → q.lastCount = some (n, h) → g - h ≤ 4096 →
      r.phase = .locked ∧ r.lockCourse = c ∧ r.offset = BitVec.ofNat 64 n - BitVec.ofNat 64 h) ∧
    (ok = false ∨ q.phaseRun < 63 ∨ q.goodSyncs < 4 ∨ q.exchangeDone = false ∨ q.announced = false ∨ (∀ n h : Nat, q.lastCount = some (n, h) → 4096 < g - h) →
      r.phase = .tracking))

theorem quoTickLock_ticks {s : State} (hs : TablesRise s) (d : Fin 2) (ok : Bool) :
    (qdom s d).Ticks ok (nowCourse s) (nowGbt s) (qdom (quoTickLock d ok s) d) := by
  refine ⟨quoTickLock_untracked hs ok, fun htr => ⟨?_, ?_⟩⟩
  · intro n h hok hrun hsync hex han hl hg
    have ready : lockReady (tickRuns d ok s) d = true := (lockReady_iff ok htr).2 ⟨hok, hrun, hsync, hex, han, n, h, hl, hg⟩
    have hcount : (qdom (tickRuns d ok s) d).lastCount = some (n, h) := by
      rw [tickRuns_own]
      split <;> exact hl
    rw [(quoTickLock_doms hs d ok).1, ready, if_pos rfl]
    refine ⟨rfl, rfl, ?_⟩
    unfold QDomain.locks QDomain.counted
    dsimp only
    rw [hcount]
  · intro hno
    have notReady : lockReady (tickRuns d ok s) d = false := Bool.eq_false_iff.2 fun hr => by
      obtain ⟨h1, h2, h3, h4, h5, n, h, h6, h7⟩ := (lockReady_iff ok htr).1 hr
      rcases hno with g | g | g | g | g | g
      · rw [g] at h1; cases h1
      · omega
      · omega
      · rw [g] at h4; cases h4
      · rw [g] at h5; cases h5
      · exact absurd h7 (Nat.not_le.2 (g n h h6))
    rw [(quoTickLock_doms hs d ok).1, notReady, if_neg Bool.false_ne_true, tickRuns_own]
    split <;> exact htr

/-- R36: a domain that tracked and is LOCKED has had its event. -/
theorem quoTickLock_event {s : State} (hs : TablesRise s) (d : Fin 2) (ok : Bool) (h : (qdom s d).phase = .tracking)
    (hl : (qdom (quoTickLock d ok s) d).phase = .locked) : bit (cell (quoTickLock d ok s) .quoEvt) (16 + d.val) = true := by
  obtain ⟨h1, -, -, -, -, h6⟩ := quoTickLock_doms hs d ok
  refine h6 (Bool.not_eq_false _ ▸ fun hn => ?_)
  rw [h1, hn, if_neg Bool.false_ne_true, tickRuns_own] at hl
  have : (qdom s d).phase = .locked := by split at hl <;> exact hl
  rw [h] at this
  cases this

/-- The judgement of the phase that a tick takes for a domain. -/
def tickPhaseOk (o : TickObs) (i : Fin 2) : Bool := if i = 0 then o.phaseOkA else o.phaseOkB

/-- The two domains tick apart; the servo stands, and what follows from the events of both. -/
theorem tickLocksBoth_doms {s : State} (hs : TablesRise s) (o : TickObs) :
    (∀ i : Fin 2, (qdom s i).Ticks (tickPhaseOk o i) (nowCourse s) (nowGbt s) (qdom (tickLocksBoth o s) i) ∧
      ((qdom s i).phase = .tracking → (qdom (tickLocksBoth o s) i).phase = .locked → bit (cell (tickLocksBoth o s) .quoEvt) (16 + i.val) = true)) ∧
    (tickLocksBoth o s).btr = s.btr ∧ (tickLocksBoth o s).quo.servo = s.quo.servo ∧ (tickLocksBoth o s).quo.active = s.quo.active := by
  let x := quoTickLock 0 o.phaseOkA s
  have hx : TablesRise x := (quoTickLock_does ..).tables hs
  obtain ⟨-, a2, a3, a4, a5, -⟩ := quoTickLock_doms hs 0 o.phaseOkA
  obtain ⟨-, b2, b3, b4, b5, -⟩ := quoTickLock_doms hx 1 o.phaseOkB
  have h0 : qdom (tickLocksBoth o s) 0 = qdom x 0 := b2
  have h1 : qdom x 1 = qdom s 1 := a2
  have hc : nowCourse x = nowCourse s := by unfold nowCourse; rw [a3]
  have hg : nowGbt x = nowGbt s := by unfold nowGbt nowCourse nowBt; rw [a3]
  refine ⟨fun i => ?_, b3.trans a3, b4.trans a4, b5.trans a5⟩
  match i with
  | 0 =>
    rw [h0]
    exact ⟨quoTickLock_ticks hs 0 o.phaseOkA, fun htr hl =>
      ((quoTickLock_steady (k := true) 1 o.phaseOkB x).keeps hx).2.quoEvt 16 (by decide) (quoTickLock_event hs 0 o.phaseOkA htr hl)⟩
  | 1 =>
    have ticks := quoTickLock_ticks hx 1 o.phaseOkB
    rw [h1, hc, hg] at ticks
    exact ⟨ticks, fun htr hl => quoTickLock_event hx 1 o.phaseOkB (by rw [h1, htr]) hl⟩

/-! ### To the switch and from it -/

/-- The oscillator, QUO_NOMINAL and the reference, before the switch. -/
def beforeSwitch (o : TickObs) (free : Bool) (s : State) : State :=
  let s := quoTickNominal free (quoTickXo o s)
  if o.xoPresent then uplRefBack s else s.modQuo fun q => { q with xoGone := true }

theorem beforeSwitch_leads (o : TickObs) (free : Bool) (s : State) : (∀ i, qdom (beforeSwitch o free s) i = qdom s i) ∧
    (beforeSwitch o free s).quo.active = s.quo.active ∧ (s.quo.servo = .free → (beforeSwitch o free s).quo.servo = .free) ∧
    (o.xoPresent = true → o.xoWithin100ppm = true → o.xoWithin5pct = true → (beforeSwitch o free s).quo.servo = s.quo.servo) := by
  have led : Led (quoTickXo o s) (beforeSwitch o free s) := by
    refine (quoTickNominal_led free _).trans ?_
    unfold beforeSwitch
    dsimp only
    split
    · exact uplRefBack_led _
    · exact ⟨fun _ => rfl, rfl, rfl, rfl⟩
  obtain ⟨h1, h2, h3, h4⟩ := quoTickXo_leads o s
  exact ⟨fun i => (led.doms i).trans (h1 i), led.active.trans h2, fun h => led.servo.trans (h3 h), fun g1 g2 g3 => led.servo.trans (h4 g1 g2 g3)⟩

theorem beforeSwitch_steady (o : TickObs) (free : Bool) (s : State) : Steady true s (beforeSwitch o free s) := by
  have h : Steady true s (quoTickNominal free (quoTickXo o s)) := .step (quoTickNominal_steady ..) (quoTickXo_steady o s)
  exact .ite (.step (uplRefBack_steady _) h) (.step (State.modQuo_steady _ _ fun _ => rfl) h)

theorem beforeSwitch_btr (o : TickObs) (free : Bool) (s : State) : (beforeSwitch o free s).btr = s.btr := by
  have h : (quoTickNominal free (quoTickXo o s)).btr = s.btr := ((quoTickNominal_does ..).only.same .btr (by decide)).trans ((quoTickXo_does ..).only.same .btr (by decide))
  unfold beforeSwitch
  dsimp only
  split
  · exact ((uplRefBack_does _).only.same .btr (by decide)).trans h
  · exact h

/-- A DELAY that waited takes effect, and is calibrated. -/
def delayTakes (p : Nat) (t : State) : State := quoTickDelay p (modPartner p (fun x => { x with delayCal := true }) t)

theorem delayTakes_led (p : Nat) (s : State) : Led s (delayTakes p s) :=
  Led.trans (t := modPartner p (fun x => { x with delayCal := true }) s) (.quo rfl) (quoTickDelay_led ..)

theorem measureChecks_led (s : State) : Led s (measureChecks s) := .forN measureCheck_led 8 s

theorem lintelConflicts_led (lanes : List Nat) (s : State) : Led s (lintelConflicts lanes s) := .quo ((lintelConflicts_does ..).only.same .quo (by decide))

theorem uplCheckAll_led (s : State) : Led s (uplCheckAll s) := .quo ((uplCheckAll_does _).only.same .quo (by decide))

/-- What follows the switch. -/
def afterSwitch (c reason : Nat) (req : Option (Fin 2 × Bool)) (lanes : List Nat) (s : State) : State :=
  let s := if req.isSome then selectsTick c reason s else s
  uplCheckAll (lintelConflicts lanes (measureChecks (forL (delayDue s) delayTakes s)))

theorem stepFour_split (c : Nat) (o : TickObs) (free : Bool) (d : TickDue) (s : State) : ∃ reason : Nat, stepFour c o free d s =
    afterSwitch c reason d.selection d.lanes (quoTickSwitch c o d.selection (beforeSwitch o free (tickLocksBoth o (beforeQuoin c d.maps s)))) :=
  ⟨_, rfl⟩

theorem afterSwitch_led (c reason : Nat) (req : Option (Fin 2 × Bool)) (lanes : List Nat) (s : State) : Led s (afterSwitch c reason req lanes s) := by
  unfold afterSwitch
  dsimp only
  have h1 : Led s (if req.isSome then selectsTick c reason s else s) := by
    split
    · exact .quo ((selectsTick_does ..).only.same .quo (by decide))
    · exact .refl s
  exact (h1.trans (.forL delayTakes_led _ _)).trans ((measureChecks_led _).trans ((lintelConflicts_led ..).trans (uplCheckAll_led _)))

theorem afterSwitch_steady (c reason : Nat) (req : Option (Fin 2 × Bool)) (lanes : List Nat) (s : State) : Steady true s (afterSwitch c reason req lanes s) := by
  unfold afterSwitch
  refine .step (uplCheckAll_steady _) (.step (lintelConflicts_steady ..) (.step (measureChecks_steady _) (.forL (fun p _ h => ?_) ?_)))
  · exact .step (quoTickDelay_steady ..) (.does (modPartner_does ..) rfl h)
  · exact .ite (selectsTick_steady ..) (.refl s)

end Sys2Proof.Machine
end

section
/-!
O20: step 4 of a course tick (R36, R38, R51, R140).
-/
namespace Sys2Proof.Machine

/-- The moment stands, whatever else of the counters changes. -/
theorem Waits.stamp {s t : State} (h : Waits s t) : nowStamp t = nowStamp s ∧ nowCourse t = nowCourse s ∧ nowGbt t = nowGbt s := by
  obtain ⟨-, -, hp, hc, -⟩ := h
  refine ⟨?_, ?_, ?_⟩
  · unfold nowStamp nowCycle nowCourse nowBt; rw [hp, hc]
  · unfold nowCourse; rw [hc]
  · unfold nowGbt nowCourse nowBt; rw [hp, hc]

/-- What step 4 does up to the switch. -/
def toSwitch (c : Nat) (o : TickObs) (free : Bool) (maps : List Nat) (s : State) : State := beforeSwitch o free (tickLocksBoth o (beforeQuoin c maps s))

/-- Up to the switch: the domains have ticked, and the servo stands where it was FREE or the oscillator is good. -/
theorem toSwitch_leads {c : Nat} {o : TickObs} {free : Bool} {maps : List Nat} {s : State} (hs : TablesRise s) :
    TablesRise (toSwitch c o free maps s) ∧
    (∀ i : Fin 2, (qdom s i).Ticks (tickPhaseOk o i) (nowCourse s) (nowGbt s) (qdom (toSwitch c o free maps s) i) ∧
      ((qdom s i).phase = .tracking → (qdom (toSwitch c o free maps s) i).phase = .locked → bit (cell (toSwitch c o free maps s) .quoEvt) (16 + i.val) = true)) ∧
    (toSwitch c o free maps s).quo.active = s.quo.active ∧ (s.quo.servo = .free → (toSwitch c o free maps s).quo.servo = .free) ∧
    (o.xoPresent = true → o.xoWithin100ppm = true → o.xoWithin5pct = true → (toSwitch c o free maps s).quo.servo = s.quo.servo) ∧
    nowStamp (toSwitch c o free maps s) = nowStamp s ∧ cell (toSwitch c o free maps s) .quoSwitchMax = cell s .quoSwitchMax := by
  have waits := beforeQuoin_waits c maps hs
  obtain ⟨hstamp, hcourse, hgbt⟩ := waits.stamp
  unfold toSwitch
  generalize beforeQuoin c maps s = x at waits hstamp hcourse hgbt ⊢
  obtain ⟨doms, hbtr, hservo, hactive⟩ := tickLocksBoth_doms waits.tables o
  have sy : Steady true x (tickLocksBoth o x) := .step (quoTickLock_steady ..) (quoTickLock_steady ..)
  generalize tickLocksBoth o x = y at doms hbtr hservo hactive sy ⊢
  obtain ⟨ty, ky⟩ := sy.keeps waits.tables
  obtain ⟨tv, kv⟩ := (beforeSwitch_steady o free y).keeps ty
  obtain ⟨h1, h2, h3, h4⟩ := beforeSwitch_leads o free y
  refine ⟨tv, fun i => ?_, ?_, fun hf => h3 (hservo.trans ((congrArg (·.servo) waits.quo).trans hf)), fun g1 g2 g3 => (h4 g1 g2 g3).trans (hservo.trans (congrArg (·.servo) waits.quo)), ?_, ?_⟩
  · obtain ⟨ticks, ev⟩ := doms i
    rw [qdom_quo waits.quo, hcourse, hgbt] at ticks
    rw [qdom_quo waits.quo] at ev
    rw [h1 i]
    exact ⟨ticks, fun htr hl => kv.quoEvt _ (Nat.le_add_right _ _) (ev htr hl)⟩
  · exact h2.trans (hactive.trans (congrArg (·.active) waits.quo))
  · exact (nowStamp_btr ((beforeSwitch_btr o free y).trans hbtr)).trans hstamp
  · exact kv.limit.trans (ky.limit.trans waits.limit)

/-- R51: what makes a selection eligible at the start of step 4 makes it so at the switch. -/
theorem toSwitch_eligible {c : Nat} {o : TickObs} {free : Bool} {maps : List Nat} {s : State} (hs : TablesRise s) {i : Fin 2}
    (hl : (qdom s i).phase = .locked) (ha : (qdom s s.quo.active).phase = .locked) (ho : (qdom s i).offset = (qdom s s.quo.active).offset)
    (hd : (obsDiff o i).natAbs ≤ (cell s .quoSwitchMax).toNat) : switchEligible o (toSwitch c o free maps s) i = true := by
  obtain ⟨-, doms, hactive, -, -, -, hlimit⟩ := toSwitch_leads (c := c) (o := o) (free := free) (maps := maps) hs
  have still {k : Fin 2} (hk : (qdom s k).phase = .locked) := (doms k).1.1 (by rw [hk]; decide)
  unfold switchEligible offsetAgrees
  rw [hactive, hlimit, (still hl).1, (still hl).2, (still ha).2, hl, ho, decide_eq_true hd, beq_self_eq_true, beq_self_eq_true]
  rfl

theorem Reported.stamped {src idx : Nat} {cap : List Word} {s u t : State} (h : Reported src idx cap u t) (k : nowStamp u = nowStamp s) : Reported src idx cap s t := by
  obtain ⟨r, hr, h1, h2, h3, h4⟩ := h
  exact ⟨r, hr, h1, h2, h3, h4.trans k⟩

theorem courseTick_stepFour (c : Nat) (obs : TickObs) (free : Bool) (d : TickDue) (s u : State) (hs : TablesRise s) (hu : u = stepFour c obs free d s) :
    (∀ (i : Fin 2) (ok : Bool), ok = (if i = 0 then obs.phaseOkA else obs.phaseOkB) →
      ((qdom s i).phase ≠ .tracking → (qdom u i).phase = (qdom s i).phase) ∧
      ((qdom s i).phase = .tracking →
        (∀ n g : Nat, ok = true → 63 ≤ (qdom s i).phaseRun → 4 ≤ (qdom s i).goodSyncs → (qdom s i).exchangeDone = true → (qdom s i).announced = true →
          (qdom s i).lastCount = some (n, g) → nowGbt s - g ≤ 4096 →
          (qdom u i).phase = .locked ∧ (qdom u i).lockCourse = nowCourse s ∧ (qdom u i).offset = BitVec.ofNat 64 n - BitVec.ofNat 64 g ∧
            bit (cell u .quoEvt) (16 + i) = true) ∧
        (ok = false ∨ (qdom s i).phaseRun < 63 ∨ (qdom s i).goodSyncs < 4 ∨ (qdom s i).exchangeDone = false ∨ (qdom s i).announced = false ∨
          (∀ n g : Nat, (qdom s i).lastCount = some (n, g) → 4096 < nowGbt s - g) → (qdom u i).phase = .tracking))) ∧
    (s.quo.servo = .free →
      ((qdom u 0).phase = .locked → u.quo.active = 0 ∧ u.quo.servo = .acquire) ∧
      ((qdom u 0).phase ≠ .locked → (qdom u 1).phase = .locked → u.quo.active = 1 ∧ u.quo.servo = .acquire) ∧
      ((qdom u 0).phase ≠ .locked → (qdom u 1).phase ≠ .locked → u.quo.active = s.quo.active ∧ u.quo.servo = .free)) ∧
    (∀ (i : Fin 2) (force : Bool), d.selection = some (i, force) →
      ((qdom u i).phase ≠ .locked → bit (cell u .quoEvt) 21 = true) ∧
      (s.quo.servo ≠ .free → obs.xoPresent = true → obs.xoWithin100ppm = true → obs.xoWithin5pct = true → i ≠ s.quo.active → (qdom s i).phase = .locked →
        force = true ∨ ((qdom s s.quo.active).phase = .locked ∧ (qdom s i).offset = (qdom s s.quo.active).offset ∧
          (obsDiff obs i).natAbs ≤ (cell s .quoSwitchMax).toNat) →
        u.quo.active = i ∧ u.quo.slewing = true ∧ bit (cell u .quoEvt) 20 = true ∧ Reported Src.timeSwitch 0 [] s u)) := by
  obtain ⟨reason, hsplit⟩ := stepFour_split c obs free d s
  let v := toSwitch c obs free d.maps s
  let w := quoTickSwitch c obs d.selection v
  have huw : u = afterSwitch c reason d.selection d.lanes w := hu.trans hsplit
  obtain ⟨tv, doms, hactive, hfree, hgood, hstamp, -⟩ := toSwitch_leads (c := c) (o := obs) (free := free) (maps := d.maps) hs
  have led : Led w u := huw ▸ afterSwitch_led ..
  have sw := (quoTickSwitch_steady (k := true) c obs d.selection v).keeps tv
  have su : SteadyAt true w u := ((huw ▸ afterSwitch_steady c reason d.selection d.lanes w : Steady true w u).keeps sw.1).2
  have hdom (i : Fin 2) : qdom u i = qdom v i := (led.doms i).trans (quoTickSwitch_doms ..)
  refine ⟨fun i ok hok => ?_, fun hf => ?_, fun i force hsel => ⟨fun hn => ?_, fun hf g1 g2 g3 hi hl he => ?_⟩⟩
  · obtain ⟨⟨t1, t2⟩, ev⟩ := doms i
    rw [hdom i]
    refine ⟨fun h => (t1 h).1, fun htr => ?_⟩
    obtain ⟨t3, t4⟩ := t2 htr
    rw [show tickPhaseOk obs i = ok from hok.symm] at t3 t4
    refine ⟨fun n g a1 a2 a3 a4 a5 a6 a7 => ?_, t4⟩
    obtain ⟨b1, b2, b3⟩ := t3 n g a1 a2 a3 a4 a5 a6 a7
    exact ⟨b1, b2, b3, su.quoEvt _ (Nat.le_add_right _ _) (sw.2.quoEvt _ (Nat.le_add_right _ _) (ev htr b1))⟩
  · obtain ⟨-, a1, a2, a3⟩ := quoTickSwitch_free c obs d.selection (s := v) (hfree hf)
    rw [hdom, hdom, led.active, led.servo]
    refine ⟨a1, a2, fun h0 h1 => ?_⟩
    obtain ⟨b1, b2⟩ := a3 h0 h1
    exact ⟨b1.trans hactive, b2.trans (hfree hf)⟩
  · rw [hdom] at hn
    refine su.quoEvt _ (by decide) ?_
    change bit (cell (quoTickSwitch c obs d.selection v) .quoEvt) 21 = true
    rw [hsel]
    exact quoTickSwitch_refuses c obs i force tv hn
  · have hlv : (qdom v i).phase = .locked := ((doms i).1.1 (by rw [hl]; decide)).1.trans hl
    have hw : w = switchTo i false v := by
      change quoTickSwitch c obs d.selection v = _
      rw [hsel]
      exact quoTickSwitch_switches c obs (by rw [hgood g1 g2 g3]; exact hf) (by rw [hactive]; exact hi) hlv
        (he.imp id fun ⟨e1, e2, e3⟩ => toSwitch_eligible hs hl e1 e2 e3)
    obtain ⟨s1, s2, s3, s4⟩ := switchTo_switches i false tv
    rw [← hw] at s1 s2 s3 s4
    exact ⟨led.active.trans s1, led.slewing.trans s2, su.quoEvt _ (by decide) s3, (s4.mono (su.told rfl)).stamped hstamp⟩

end Sys2Proof.Machine
end

section
/-!
O20: course-buffered registers at a course tick: the vote, an injection, and the pending values that take effect (R337, R339, R353).
-/
namespace Sys2Proof.Machine

/-! ### Voted items -/

theorem Tri.val_of {n : Nat} (v : BitVec n) : (Tri.of v).val = v := by
  unfold Tri.of Tri.val
  rw [BitVec.and_self, BitVec.or_self, BitVec.or_self]

/-- Of three copies two of which are equal these two decide. -/
theorem majority (a b : Bool) : (a && a || a && b || a && b) = a ∧ (a && b || a && a || b && a) = a ∧ (b && a || b && a || a && a) = a := by
  cases a <;> cases b <;> decide

/-- R337: where the largest is not asked for, a vote leaves three copies of what the item said. -/
theorem voteItem_of {n : Nat} (t : Tri n) : (voteItem false t).1 = .of t.val := by
  obtain ⟨a, b, c⟩ := t
  have hab (a c : BitVec n) : (⟨a, a, c⟩ : Tri n).val = a := by
    ext k hk
    simp only [Tri.val, BitVec.getElem_or, BitVec.getElem_and]
    exact (majority ..).1
  have hac (a b : BitVec n) : (⟨a, b, a⟩ : Tri n).val = a := by
    ext k hk
    simp only [Tri.val, BitVec.getElem_or, BitVec.getElem_and]
    exact (majority ..).2.1
  have hbc (a b : BitVec n) : (⟨a, b, b⟩ : Tri n).val = b := by
    ext k hk
    simp only [Tri.val, BitVec.getElem_or, BitVec.getElem_and]
    exact (majority ..).2.2
  unfold voteItem
  dsimp only
  split
  next h =>
    subst h
    rw [hab]
    split
    next h2 => subst h2; rfl
    · rfl
  · split
    next h => subst h; rw [hac]
    · split
      next h => subst h; rw [hbc]
      · rfl

/-- R339: a bit inverted in one of three equal copies is outvoted. -/
theorem flipCopy_val {n : Nat} (copy b : Nat) (v : BitVec n) : (flipCopy copy b (.of v)).val = v := by
  unfold flipCopy Tri.of
  split
  · ext k hk
    simp only [Tri.val, BitVec.getElem_or, BitVec.getElem_and]
    exact (majority ..).2.2
  · split
    · ext k hk
      simp only [Tri.val, BitVec.getElem_or, BitVec.getElem_and]
      exact (majority ..).2.1
    · ext k hk
      simp only [Tri.val, BitVec.getElem_or, BitVec.getElem_and]
      exact (majority ..).1

/-! ### What a course-buffered register says -/

/-- The two say the same: their voted items are equal, and both wait or neither. -/
def CbReg.Says (x y : CbReg) : Prop := x.copies.val = y.copies.val ∧ x.waiting = y.waiting

theorem CbReg.Says.words {x y : CbReg} (h : x.Says y) : x.force = y.force ∧ x.pend = y.pend := by
  unfold CbReg.force CbReg.pend
  rw [h.1]
  exact ⟨rfl, rfl⟩

theorem CbReg.Says.trans {x y z : CbReg} (h : x.Says y) (g : y.Says z) : x.Says z := ⟨h.1.trans g.1, h.2.trans g.2⟩

/-- The value in force and the pending value of an item. -/
theorem CbReg.words_of (p f : Word) (w : Bool) : (⟨.of (p ++ f), w⟩ : CbReg).force = f ∧ (⟨.of (p ++ f), w⟩ : CbReg).pend = p := by
  constructor
  · unfold CbReg.force
    dsimp only
    rw [Tri.val_of]
    exact BitVec.setWidth_append_eq_right
  · unfold CbReg.pend
    dsimp only
    rw [Tri.val_of]
    ext k hk
    rw [BitVec.getElem_setWidth, BitVec.getLsbD_ushiftRight, BitVec.getLsbD_append, if_neg (by omega)]
    rw [BitVec.getLsbD_eq_getElem (by omega)]
    congr 1
    omega

/-- R353: a pending value that waits becomes the value in force, and waits no more. -/
theorem CbReg.apply_waiting (x : CbReg) : x.apply.waiting = false ∧ x.apply.force = (if x.waiting then x.pend else x.force) := by
  unfold CbReg.apply
  cases h : x.waiting with
  | false => exact ⟨h, rfl⟩
  | true =>
    refine ⟨rfl, ?_⟩
    rw [if_pos rfl, if_pos rfl]
    unfold CbReg.force CbReg.pend
    ext k hk
    simp only [Tri.val, Tri.map, BitVec.getElem_setWidth, BitVec.getLsbD_or, BitVec.getLsbD_and, BitVec.getLsbD_append, BitVec.getLsbD_setWidth,
      BitVec.getLsbD_ushiftRight, decide_eq_true hk, if_pos hk, Bool.true_and]

theorem CbReg.apply_still {x : CbReg} (h : x.waiting = false) : x.apply = x := if_neg (by rw [h]; exact Bool.false_ne_true)

/-! ### The vote and an injection -/

/-- A course-buffered register after the vote. -/
def CbReg.voted (x : CbReg) : CbReg := ⟨(voteItem false x.copies).1, x.waiting⟩

/-- R337: what the vote leaves of a course-buffered register. -/
theorem cbReg_btrVote (s : State) (r : Reg) (i : Nat) : cbReg (btrVote s).1 r i = ⟨.of (cbReg s r i).copies.val, (cbReg s r i).waiting⟩ := by
  have hcb : (btrVote s).1.btr.cb = s.btr.cb.map fun e => (e.1, e.2.voted) := List.map_map ..
  have voted (x : CbReg) : x.voted = ⟨.of x.copies.val, x.waiting⟩ := by rw [CbReg.voted, voteItem_of]
  unfold cbReg smGet
  rw [hcb, smFind_map_val (fun e : Nat × CbReg => e.2.voted)]
  cases smFind s.btr.cb (regOff r i) with
  | none => exact congrArg (CbReg.mk · false) (congrArg Tri.of (Tri.val_of _).symm)
  | some x => exact voted x

theorem cbOrder_exist : ∀ x ∈ cbOrder, regExists x.1 x.2 0 = true := by decide +kernel

theorem cbOrder_apart {x y : Reg × Nat} (hx : x ∈ cbOrder) (hy : y ∈ cbOrder) (h : x ≠ y) : regOff x.1 x.2 ≠ regOff y.1 y.2 :=
  regOff_ne (cbOrder_exist x hx) (cbOrder_exist y hy) fun e => h (by
    obtain ⟨h1, h2⟩ := Prod.mk.inj e
    exact Prod.ext h1 (Prod.mk.inj h2).1)

/-- R339: of items in three equal copies an injection changes none that is voted. -/
theorem cbReg_btrInject {s : State} (hs : TablesRise s) (heq : ∀ x ∈ cbOrder, ∃ v, (cbReg s x.1 x.2).copies = .of v) {x : Reg × Nat} (hx : x ∈ cbOrder) :
    (cbReg (btrInject s) x.1 x.2).Says (cbReg s x.1 x.2) := by
  have same {t : State} (h : t.btr.cb = s.btr.cb) : (cbReg t x.1 x.2).Says (cbReg s x.1 x.2) := by
    unfold cbReg
    rw [h]
    exact ⟨rfl, rfl⟩
  unfold btrInject
  split
  · exact ⟨rfl, rfl⟩
  next j _ =>
    split
    · exact ⟨rfl, rfl⟩
    · split
      · exact same rfl
      · exact same rfl
      · exact same rfl
      · exact same rfl
      · exact same rfl
      · exact same rfl
      · exact same rfl
      · exact same rfl
      · split
        next y hy =>
          split
          · exact same rfl
          · have hc : Rises (s.modBtr fun b => { b with inject := none }).btr.cb := hs.cb
            by_cases e : x = y
            · subst e
              rw [cbReg_setCb hc]
              obtain ⟨v, hv⟩ := heq x hx
              refine ⟨?_, rfl⟩
              show (flipCopy _ _ (cbReg s x.1 x.2).copies).val = _
              rw [hv, flipCopy_val, Tri.val_of]
            · rw [cbReg_setCb_other hc _ _ _ (cbOrder_apart hx (List.mem_of_getElem? hy) e)]
              exact same rfl
        · exact same rfl

/-! ### Pending values take effect -/

/-- R353: of the registers that are applied each has been, and the others stand. -/
theorem cbReg_applies {l : List (Reg × Nat)} {s : State} (hs : TablesRise s) (hl : ∀ x ∈ l, x ∈ cbOrder) {x : Reg × Nat} (hx : x ∈ cbOrder) :
    cbReg (forL l (fun x t => setCb x.1 x.2 (cbReg t x.1 x.2).apply t) s) x.1 x.2 = if x ∈ l then (cbReg s x.1 x.2).apply else cbReg s x.1 x.2 := by
  induction l generalizing s with
  | nil => rw [if_neg List.not_mem_nil]; rfl
  | cons y l ih =>
    have step := ih ((setCb_does y.1 y.2 (cbReg s y.1 y.2).apply s).tables hs) fun z hz => hl z (.tail _ hz)
    refine step.trans ?_
    by_cases e : x = y
    · subst e
      rw [cbReg_setCb hs.cb, if_pos (List.mem_cons_self ..), CbReg.apply_still (CbReg.apply_waiting _).1, ite_self]
    · rw [cbReg_setCb_other hs.cb _ _ _ (cbOrder_apart hx (hl y (.head _)) e)]
      simp only [List.mem_cons, e, false_or]

theorem cbReg_cbApply {s : State} (hs : TablesRise s) {x : Reg × Nat} (hx : x ∈ cbOrder) : cbReg (cbApply s) x.1 x.2 = (cbReg s x.1 x.2).apply := by
  unfold cbApply
  rw [cbReg_applies hs (fun y hy => (List.mem_filter.1 hy).1) hx]
  split
  · rfl
  next h =>
    have hw : (cbReg s x.1 x.2).waiting = false := Bool.eq_false_iff.2 fun hw => h (List.mem_filter.2 ⟨hx, hw⟩)
    rw [CbReg.apply_still hw]

end Sys2Proof.Machine
end

section
/-!
O20: course-buffered registers at step 3, and the roles that pass at step 4 of a course tick (R9, R126, R130, R270, R353).
-/
namespace Sys2Proof.Machine

/-! ### Banks -/

/-- R126: the change of mode that sets OFS_BANK to 0. -/
def bankResets (dual now : Bool) (ofs : Nat) : Bool := (!dual && now) || (dual && !now && decide (ofs = 1))

theorem bankResets_same (dual : Bool) (ofs : Nat) : bankResets dual dual ofs = false := by cases dual <;> rfl

/-- OFS_BANK is 0, in force and pending. -/
def CbReg.bankZero (x : CbReg) : CbReg := x.setBoth (setFld x.force 0 0 0)

theorem cbReg_of {s t : State} (h : t.btr = s.btr) (r : Reg) (i : Nat) : cbReg t r i = cbReg s r i := by unfold cbReg; rw [h]

theorem cbOrder_banks : ∀ g : Fin 32, (Reg.ashCalSel, g.val) ∈ cbOrder ∧ (Reg.ashTgCfg, g.val) ∈ cbOrder := by decide +kernel

/-- The blocks that a change of mode empties. -/
def modeEmpties (g : Nat) (dual now : Bool) (ofs : Nat) (s : State) : State :=
  if !dual && now then emptyOffsets g (ofsBlocks / 2) s
  else if dual && !now then emptyOffsets g (if ofs = 0 then ofsBlocks / 2 else 0) s
  else s

theorem modeEmpties_does (g : Nat) (dual now : Bool) (ofs : Nat) (s : State) : Does [.sram, .mem] s (modeEmpties g dual now ofs s) :=
  .ite (emptyOffsets_does ..) (.ite (emptyOffsets_does ..) (.refl _ _))

/-- The bank that a change of mode sets. -/
def bankSets (g : Nat) (dual now : Bool) (ofs : Nat) (s : State) : State :=
  if bankResets dual now ofs then setCb .ashCalSel g (cbReg s .ashCalSel g).bankZero s else s

/-- The banks in force from course `c` on are noted (R130). -/
def bankNotes (g c : Nat) (now : Bool) (s : State) : State :=
  let w := inForce s .ashCalSel g
  let new : BankSel := ⟨c, if now then fld w 0 0 else 0, fld w 1 1⟩
  let old := banksAt s g c
  if old.ofsBank = new.ofsBank ∧ old.walkBank = new.walkBank then s
  else modGroup g (fun t =>
    { t with
      sels := (new :: t.sels).take 8
      ofsPrevBusy := if old.ofsBank = new.ofsBank then t.ofsPrevBusy else some c
      walkPrevBusy := if old.walkBank = new.walkBank then t.walkPrevBusy else some c }) s

theorem bankTick_eq (g c : Nat) (dual : Bool) (ofs : Nat) (s : State) : bankTick g c dual ofs s =
    bankNotes g c (dualMode s g) (bankSets g dual (dualMode s g) ofs (modeEmpties g dual (dualMode s g) ofs s)) := rfl

theorem bankNotes_btr (g c : Nat) (now : Bool) (s : State) : (bankNotes g c now s).btr = s.btr :=
  have did : Does [.groups] s (bankNotes g c now s) := .ite (.refl _ _) (modGroup_does ..)
  did.only.same .btr (by decide)

theorem bankTick_btr (g c : Nat) (dual : Bool) (ofs : Nat) (s : State) : (bankTick g c dual ofs s).btr = (bankSets g dual (dualMode s g) ofs s).btr := by
  have hx : (modeEmpties g dual (dualMode s g) ofs s).btr = s.btr := (modeEmpties_does ..).only.same .btr (by decide)
  rw [bankTick_eq, bankNotes_btr]
  unfold bankSets
  rw [cbReg_of hx]
  split
  · unfold setCb State.modBtr
    rw [hx]
  · exact hx

/-- R126: what the tick leaves of a course-buffered register at a group's banks. -/
theorem cbReg_bankTick {s : State} (hs : TablesRise s) (g : Fin 32) (c : Nat) (dual : Bool) (ofs : Nat) {x : Reg × Nat} (hx : x ∈ cbOrder) :
    cbReg (bankTick g c dual ofs s) x.1 x.2 =
      if x = (.ashCalSel, g.val) ∧ bankResets dual (dualMode s g) ofs = true then (cbReg s x.1 x.2).bankZero else cbReg s x.1 x.2 := by
  rw [cbReg_of (bankTick_btr ..), bankSets]
  cases hb : bankResets dual (dualMode s g) ofs with
  | false => rw [if_neg Bool.false_ne_true, if_neg fun h => Bool.false_ne_true h.2]
  | true =>
    rw [if_pos rfl]
    by_cases e : x = (.ashCalSel, g.val)
    · subst e
      rw [cbReg_setCb hs.cb, if_pos ⟨rfl, rfl⟩]
    · rw [cbReg_setCb_other hs.cb _ _ _ (cbOrder_apart hx (cbOrder_banks g).1 e), if_neg fun h => e h.1]

theorem dualMode_bankTick {s : State} (hs : TablesRise s) (g k : Fin 32) (c : Nat) (dual : Bool) (ofs : Nat) : dualMode (bankTick g c dual ofs s) k = dualMode s k := by
  unfold dualMode inForce
  rw [cbReg_bankTick hs g c dual ofs (cbOrder_banks k).2, if_neg fun h => by cases (Prod.mk.inj h.1).1]

/-- The banks of the groups of `l`, each with its mode and bank before. -/
theorem cbReg_banksTick {l : List Nat} {s : State} (hs : TablesRise s) (hl : ∀ g ∈ l, g < 32) (hd : l.Nodup) (c : Nat) (f : Nat → Bool × Nat) {x : Reg × Nat} (hx : x ∈ cbOrder) :
    cbReg (forL (l.map fun g => (g, f g)) (fun y t => bankTick y.1 c y.2.1 y.2.2 t) s) x.1 x.2 =
      if x.1 = .ashCalSel ∧ x.2 ∈ l ∧ bankResets (f x.2).1 (dualMode s x.2) (f x.2).2 = true then (cbReg s x.1 x.2).bankZero else cbReg s x.1 x.2 := by
  induction l generalizing s with
  | nil => rw [if_neg fun h => List.not_mem_nil h.2.1]; rfl
  | cons g l ih =>
    obtain ⟨hg, hd⟩ := List.nodup_cons.1 hd
    have hlt : g < 32 := hl g (.head _)
    have step := ih ((bankTick_does g c (f g).1 (f g).2 s).tables hs) (fun k hk => hl k (.tail _ hk)) hd
    have one := cbReg_bankTick hs ⟨g, hlt⟩ c (f g).1 (f g).2 hx
    refine step.trans ?_
    by_cases e : x.1 = .ashCalSel
    · by_cases hxg : x.2 = g
      · subst hxg
        rw [if_neg fun h => hg h.2.1, one]
        exact if_congr ⟨fun h => ⟨e, .head _, h.2⟩, fun h => ⟨Prod.ext e rfl, h.2.2⟩⟩ rfl rfl
      · rw [one.trans (if_neg fun h => hxg (congrArg Prod.snd h.1))]
        refine if_congr (and_congr_right fun _ => ?_) rfl rfl
        rw [List.mem_cons, or_iff_right hxg]
        exact and_congr_right fun hm => by rw [dualMode_bankTick hs ⟨g, hlt⟩ ⟨x.2, hl _ (.tail _ hm)⟩]
    · rw [one.trans (if_neg fun h => e (congrArg Prod.fst h.1)), if_neg fun h => e h.1, if_neg fun h => e h.1]

/-! ### Step 3 -/

/-- What step 3 makes of a course-buffered register, unless HST_CB.HOLD is 1. -/
def tickApplies (s : State) (x : Reg × Nat) : CbReg :=
  if x.1 = .ashCalSel ∧ bankResets (dualMode s x.2) (bit (cbReg s .ashTgCfg x.2).apply.force 0) (fld (inForce s .ashCalSel x.2) 0 0) = true then
    (cbReg s x.1 x.2).apply.bankZero
  else (cbReg s x.1 x.2).apply

theorem cbOrder_group : ∀ x ∈ cbOrder, x.1 = .ashCalSel → x.2 < 32 := by decide +kernel

/-- A group none of whose registers waits keeps its mode. -/
theorem tickApplies_still {s : State} {x : Reg × Nat} (h : (cbReg s .ashTgCfg x.2).waiting = false) : tickApplies s x = (cbReg s x.1 x.2).apply := by
  unfold tickApplies
  rw [CbReg.apply_still h, show bit (cbReg s .ashTgCfg x.2).force 0 = dualMode s x.2 from rfl, bankResets_same, if_neg fun h => Bool.false_ne_true h.2]

theorem cbReg_applyTick {s : State} (hs : TablesRise s) (c : Nat) {x : Reg × Nat} (hx : x ∈ cbOrder) : cbReg (applyTick c s) x.1 x.2 = tickApplies s x := by
  unfold applyTick
  split
  · dsimp only
    rw [cbReg_of ((lintelTablesTick_does ..).only.same .btr (by decide))]
    have hs1 := (cbApply_does s).tables hs
    have hnodup := (List.nodup_range (n := 32)).filter fun g => (cbReg s .ashTgCfg g).waiting || (cbReg s .ashCalSel g).waiting
    refine (cbReg_banksTick hs1 (fun g hg => List.mem_range.1 (List.mem_filter.1 hg).1) hnodup c (fun g => (dualMode s g, fld (inForce s .ashCalSel g) 0 0)) hx).trans ?_
    rw [cbReg_cbApply hs hx]
    by_cases e : x.1 = .ashCalSel
    · have hlt := cbOrder_group x hx e
      have hnow : dualMode (cbApply s) x.2 = bit (cbReg s .ashTgCfg x.2).apply.force 0 := by
        unfold dualMode inForce
        rw [cbReg_cbApply hs (cbOrder_banks ⟨x.2, hlt⟩).2]
      rw [hnow]
      by_cases hw : (cbReg s .ashTgCfg x.2).waiting = true
      · unfold tickApplies
        refine if_congr (and_congr_right fun _ => and_iff_right ?_) rfl rfl
        exact List.mem_filter.2 ⟨List.mem_range.2 hlt, by rw [hw]; rfl⟩
      · have hw := Bool.eq_false_iff.2 hw
        rw [tickApplies_still hw, CbReg.apply_still hw, show bit (cbReg s .ashTgCfg x.2).force 0 = dualMode s x.2 from rfl]
        exact if_neg fun h => by
          have := h.2.2
          rw [bankResets_same] at this
          cases this
    · unfold tickApplies
      rw [if_neg fun h => e h.1, if_neg fun h => e h.1]
  next h =>
    have hw (r : Reg) (i : Nat) : (cbReg s r i).waiting = false := by
      unfold cbReg smGet
      cases hf : smFind s.btr.cb (regOff r i) with
      | none => rfl
      | some y =>
        exact Bool.eq_false_iff.2 fun hy => h (List.any_eq_true.2 ⟨_, smFind_mem hf, hy⟩)
    rw [tickApplies_still (hw ..), CbReg.apply_still (hw ..)]

/-- R9, R353: the course-buffered registers after step 3. -/
theorem cbReg_stepThree {s : State} (hs : TablesRise s) (c : Nat) {x : Reg × Nat} (hx : x ∈ cbOrder) :
    cbReg (stepThree c s) x.1 x.2 = if bit (cell s .hstCb) 0 = true then cbReg s x.1 x.2 else tickApplies s x := by
  unfold stepThree
  split
  · rfl
  · rw [cbReg_of (((swapsTick_does ..).only.same .btr (by decide)).trans ((bindingsTick_does ..).only.same .btr (by decide))), cbReg_applyTick hs c hx]

/-! ### Roles that pass -/

/-- A stream's map and its move. -/
def roleOf (s : State) (k : Nat) : CbReg × Option MovePending := (cbReg s .uplStreamMap k, (stream s k).move)

/-- R270: a map with the role at the target of the move. -/
def MovePending.puts (m : MovePending) (w : Word) : Word := if m.mirror then setFld w 13 8 m.target else setFld w 5 0 m.target

/-- R270: the move of a stream takes place where it has one. -/
def rolePasses (x : CbReg × Option MovePending) : CbReg × Option MovePending :=
  match x.2 with
  | some m => (⟨.of ((if x.1.waiting then x.1.pend else m.puts x.1.pend) ++ m.puts x.1.force), x.1.waiting⟩, none)
  | none => x

theorem rolePasses_twice (x : CbReg × Option MovePending) : rolePasses (rolePasses x) = rolePasses x := by
  obtain ⟨x, m | m⟩ := x <;> rfl

theorem cbOrder_map : ∀ k : Fin 48, (Reg.uplStreamMap, k.val) ∈ cbOrder := by decide +kernel

theorem cbReg_passRole {s : State} (hs : TablesRise s) {t : Nat} (ht : t < 48) (m : MovePending) {x : Reg × Nat} (hx : x ∈ cbOrder) (hn : x ≠ (.uplStreamMap, t)) :
    cbReg (passRole t m s) x.1 x.2 = cbReg s x.1 x.2 := by
  unfold passRole
  dsimp only
  rw [cbReg_of (raise_btr ..), cbReg_of (event_btr ..)]
  exact cbReg_setCb_other hs.cb _ _ _ (cbOrder_apart hx (cbOrder_map ⟨t, ht⟩) hn)

/-- R270: what passing a role leaves of the streams' maps and moves. -/
theorem roleOf_passRole {s : State} (hs : TablesRise s) {t : Nat} (ht : t < 48) {m : MovePending} (hm : (stream s t).move = some m) {k : Nat} (hk : k < 48) :
    roleOf (passRole t m s) k = if k = t then rolePasses (roleOf s k) else roleOf s k := by
  have hst : stream (passRole t m s) k =
      stream (modStream t (fun y => if m.mirror then { y with move := none, mirConflict := false } else { y with move := none, primConflict := false })
        (setCb .uplStreamMap t (rolePasses (roleOf s t)).1 s)) k := by
    unfold rolePasses roleOf
    dsimp only
    rw [hm]
    exact stream_of (event_others ..).2.2 k
  have hrise : Rises (setCb .uplStreamMap t (rolePasses (roleOf s t)).1 s).streams := hs.streams
  by_cases e : k = t
  · subst e
    rw [if_pos rfl]
    unfold roleOf
    refine Prod.ext ?_ ?_
    · dsimp only
      unfold passRole
      dsimp only
      rw [cbReg_of (raise_btr ..), cbReg_of (event_btr ..)]
      refine (cbReg_setCb hs.cb ..).trans ?_
      unfold rolePasses
      dsimp only
      rw [hm]
      rfl
    · dsimp only
      rw [hst, stream_modStream hrise]
      unfold rolePasses
      dsimp only
      rw [hm]
      split <;> rfl
  · rw [if_neg e]
    unfold roleOf
    rw [cbReg_passRole hs ht m (cbOrder_map ⟨k, hk⟩) fun h => e (Prod.mk.inj h).2, hst, stream_modStream_other hrise e]
    rfl

end Sys2Proof.Machine
end

section
/-!
O20: the moves that are due at step 4, and what the rest of a course tick leaves of the registers, the time and the streams (R270).
-/
namespace Sys2Proof.Machine

/-! ### The moves that are due -/

/-- One of the moves that are due takes place where its stream still has it. -/
def moveTakes (x : Nat × Nat) (t : State) : State := match (stream t x.1).move with | some m => passRole x.1 m t | none => t

theorem moveTakes_does (x : Nat × Nat) (s : State) : Does [.btr, .regs, .flt, .port0, .port1, .streams] s (moveTakes x s) := by
  unfold moveTakes
  split
  · exact passRole_does ..
  · exact .refl _ _

theorem moveTakes_keeps {s : State} (hs : TablesRise s) {x : Nat × Nat} (hx : x.1 < 48) :
    (∀ y ∈ cbOrder, y.1 ≠ .uplStreamMap → cbReg (moveTakes x s) y.1 y.2 = cbReg s y.1 y.2) ∧
    (∀ k < 48, roleOf (moveTakes x s) k = if k = x.1 then rolePasses (roleOf s k) else roleOf s k) := by
  unfold moveTakes
  split
  next m hm => exact ⟨fun y hy hn => cbReg_passRole hs hx m hy fun e => hn (congrArg Prod.fst e), fun k hk => roleOf_passRole hs hx hm hk⟩
  next hm =>
    refine ⟨fun _ _ _ => rfl, fun k _ => ?_⟩
    split
    next e =>
      subst e
      unfold rolePasses roleOf
      dsimp only
      rw [hm]
    · rfl

theorem movesTake_keeps {l : List (Nat × Nat)} {s : State} (hs : TablesRise s) (hl : ∀ x ∈ l, x.1 < 48) :
    (∀ y ∈ cbOrder, y.1 ≠ .uplStreamMap → cbReg (forL l moveTakes s) y.1 y.2 = cbReg s y.1 y.2) ∧
    (∀ k < 48, roleOf (forL l moveTakes s) k = if k ∈ l.map Prod.fst then rolePasses (roleOf s k) else roleOf s k) := by
  induction l generalizing s with
  | nil => exact ⟨fun _ _ _ => rfl, fun _ _ => rfl⟩
  | cons x l ih =>
    obtain ⟨a1, a2⟩ := moveTakes_keeps hs (hl x (.head _))
    obtain ⟨b1, b2⟩ := ih ((moveTakes_does x s).tables hs) fun y hy => hl y (.tail _ hy)
    refine ⟨fun y hy hn => (b1 y hy hn).trans (a1 y hy hn), fun k hk => (b2 k hk).trans ?_⟩
    rw [a2 k hk]
    by_cases e : k = x.1
    · rw [if_pos e, rolePasses_twice, ite_self, if_pos (by rw [e]; exact .head _)]
    · rw [if_neg e]
      refine if_congr ?_ rfl rfl
      rw [List.map_cons, List.mem_cons, or_iff_right e]

theorem movesDue_iff {s : State} {c k : Nat} : k ∈ (movesDue s c).map Prod.fst ↔ k < 48 ∧ ∃ m, (stream s k).move = some m ∧ m.boundary = c := by
  have mem (x : Nat × Nat) : x ∈ movesDue s c ↔ x.1 < 48 ∧ ∃ m, (stream s x.1).move = some m ∧ m.boundary = c ∧ x.2 = m.mailbox := by
    unfold movesDue
    rw [List.mem_filterMap]
    constructor
    · rintro ⟨t, ht, h⟩
      split at h
      next m hm =>
        split at h
        next hb =>
          obtain rfl := Option.some.inj h
          exact ⟨List.mem_range.1 ht, m, hm, hb, rfl⟩
        · cases h
      · cases h
    · rintro ⟨ht, m, hm, hb, hx⟩
      refine ⟨x.1, List.mem_range.2 ht, ?_⟩
      rw [hm]
      dsimp only
      rw [if_pos hb, ← hx]
  rw [List.mem_map]
  constructor
  · rintro ⟨x, hx, rfl⟩
    obtain ⟨ht, m, hm, hb, -⟩ := (mem x).1 hx
    exact ⟨ht, m, hm, hb⟩
  · rintro ⟨hk, m, hm, hb⟩
    exact ⟨(k, m.mailbox), (mem _).2 ⟨hk, m, hm, hb, rfl⟩, rfl⟩

/-- R270: the course-buffered registers and the moves after the moves that are due. -/
theorem movesTick_keeps {s : State} (hs : TablesRise s) (c : Nat) :
    (∀ y ∈ cbOrder, y.1 ≠ .uplStreamMap → cbReg (movesTick c s) y.1 y.2 = cbReg s y.1 y.2) ∧
    (∀ k < 48, (∀ m, (stream s k).move = some m → m.boundary ≠ c) → roleOf (movesTick c s) k = roleOf s k) ∧
    (∀ k < 48, ∀ m, (stream s k).move = some m → m.boundary = c → roleOf (movesTick c s) k = rolePasses (roleOf s k)) := by
  let x := forL (movesDue s c) moveTakes s
  have done : Does [.regs, .flt, .port0, .port1, .ldg] x (movesTick c s) := .forL (fun _ _ h => .step (ldgComplete_does ..) rfl h) (.refl _ _)
  have hb := done.only.same .btr (by decide)
  have hst := done.only.same .streams (by decide)
  obtain ⟨h1, h2⟩ := movesTake_keeps (l := movesDue s c) hs fun y hy => (movesDue_iff.1 (List.mem_map.2 ⟨y, hy, rfl⟩)).1
  have role (k : Nat) : roleOf (movesTick c s) k = roleOf x k := Prod.ext (cbReg_of hb ..) (congrArg Stream.move (stream_of hst k))
  refine ⟨fun y hy hn => (cbReg_of hb ..).trans (h1 y hy hn), fun k hk hn => ?_, fun k hk m hm hbd => ?_⟩
  · rw [role, h2 k hk, if_neg fun h => ?_]
    obtain ⟨-, m, hm, hbd⟩ := movesDue_iff.1 h
    exact hn m hm hbd
  · rw [role, h2 k hk, if_pos (movesDue_iff.2 ⟨hk, m, hm, hbd⟩)]

/-! ### After the moves -/

/-- The time that was latched and the moves stand, as do the counters and the course-buffered registers. -/
structure Settled (s t : State) : Prop where
  tables : TablesRise t
  btr : t.btr = s.btr
  time : t.quo.tickTime = s.quo.tickTime
  moves : ∀ k : Nat, (stream t k).move = (stream s k).move

theorem Settled.trans {s t u : State} (h : Settled s t) (g : Settled t u) : Settled s u :=
  ⟨g.tables, g.btr.trans h.btr, g.time.trans h.time, fun k => (g.moves k).trans (h.moves k)⟩

theorem Settled.of_steady {k : Bool} {s t : State} (hs : TablesRise s) (h : Steady k s t) (hb : t.btr = s.btr) : Settled s t :=
  have ⟨ht, g⟩ := h.keeps hs
  ⟨ht, hb, g.time, g.moves⟩

theorem Settled.of_does {L : List Zone} {s t : State} (hs : TablesRise s) (h : Does L s t)
    (hL : Zone.btr ∉ L ∧ Zone.quo ∉ L ∧ Zone.streams ∉ L := by decide) : Settled s t where
  tables := h.tables hs
  btr := h.only.same .btr hL.1
  time := congrArg Quoin.tickTime (h.only.same .quo hL.2.1)
  moves k := congrArg Stream.move (stream_of (h.only.same .streams hL.2.2) k)

theorem Settled.refl {s : State} (hs : TablesRise s) : Settled s s := ⟨hs, rfl, rfl, fun _ => rfl⟩

/-- A change of the fault plane alone settles. -/
theorem modFlt_settled {f : Faults → Faults} {s : State} (hs : TablesRise s) (hf : (f s.flt).srcs = s.flt.srcs) : Settled s (s.modFlt f) :=
  ⟨{ hs with srcs := by rw [State.modFlt_flt, hf]; exact hs.srcs }, rfl, rfl, fun _ => rfl⟩

theorem event_settled (r : Reg) (i b : Nat) {s : State} (hs : TablesRise s) : Settled s (event r i b s) := .of_does hs (event_does ..)

theorem afterSwitch_btr (c reason : Nat) (req : Option (Fin 2 × Bool)) (lanes : List Nat) (s : State) : (afterSwitch c reason req lanes s).btr = s.btr := by
  have did : Does [.regs, .flt, .port0, .port1, .quo, .partners, .mrt, .streams, .uplinks, .lnt, .ldg] s (afterSwitch c reason req lanes s) := by
    unfold afterSwitch
    refine .step (uplCheckAll_does _) rfl (.step (lintelConflicts_does ..) rfl (.step (measureChecks_does _) rfl (.forL (fun p _ h => ?_) ?_)))
    · exact .step (quoTickDelay_does ..) rfl (.step (modPartner_does ..) rfl h)
    · exact .ite (.step (selectsTick_does ..) rfl (.refl _ _)) (.refl _ _)
  exact did.only.same .btr (by decide)

/-- Step 4 after the moves. -/
theorem stepFour_settles (c : Nat) (o : TickObs) (free : Bool) (d : TickDue) {s : State} (hs : TablesRise s) :
    Settled (beforeQuoin c d.maps s) (stepFour c o free d s) := by
  obtain ⟨reason, h⟩ := stepFour_split c o free d s
  have hx := (beforeQuoin_waits c d.maps hs).tables
  generalize beforeQuoin c d.maps s = x at h hx ⊢
  have h1 : Settled x (tickLocksBoth o x) :=
    .of_steady hx (.step (quoTickLock_steady (k := true) ..) (quoTickLock_steady ..)) (tickLocksBoth_doms hx o).2.1
  have h2 : Settled (tickLocksBoth o x) (beforeSwitch o free (tickLocksBoth o x)) := .of_steady h1.tables (beforeSwitch_steady ..) (beforeSwitch_btr ..)
  generalize beforeSwitch o free (tickLocksBoth o x) = y at h h2
  have h3 : Settled y (quoTickSwitch c o d.selection y) := .of_steady (k := true) h2.tables (quoTickSwitch_steady ..) ((quoTickSwitch_does ..).only.same .btr (by decide))
  rw [h]
  exact (h1.trans (h2.trans h3)).trans (.of_steady h3.tables (afterSwitch_steady ..) (afterSwitch_btr ..))

theorem tickRestart_settles (c : Nat) {s : State} (hs : TablesRise s) : Settled s (tickRestart c s) := by
  unfold tickRestart
  split
  · have h1 : Settled s (s.modFlt (·.restarts c)) := modFlt_settled hs rfl
    have h2 := event_settled .fltEvt 0 20 h1.tables
    have hb : (dataPlaneRestart c s).btr = (event .fltEvt 0 20 (s.modFlt (·.restarts c))).btr :=
      ((dataPlaneRestart_does ..).only.same .btr (by decide)).trans (h1.trans h2).btr.symm
    exact (h1.trans h2).trans (.of_steady h2.tables (dataPlaneRestart_steady c s) hb)
  · exact .refl hs

theorem tickStop_settles {s : State} (hs : TablesRise s) : Settled s (tickStop s) := by
  unfold tickStop
  split
  next n _ =>
    have h1 : Settled s (s.modFlt (·.stops n)) := modFlt_settled hs rfl
    have h2 := event_settled .fltEvt 0 19 h1.tables
    have hb : (dataPlaneStop n s).btr = (event .fltEvt 0 19 (s.modFlt (·.stops n))).btr :=
      ((dataPlaneStop_does ..).only.same .btr (by decide)).trans (h1.trans h2).btr.symm
    exact (h1.trans h2).trans (.of_steady h2.tables (dataPlaneStop_steady n s).1 hb)
  · exact .refl hs

theorem tickIsolates_settles {s : State} (hs : TablesRise s) : Settled s (tickIsolates s) := by
  have h1 : Settled s (s.modFlt fun f => { f with isoPending := [] }) := modFlt_settled hs rfl
  have hb : (tickIsolates s).btr = (s.modFlt fun f => { f with isoPending := [] }).btr :=
    (Does.forL (L := [.regs, .flt, .port0, .port1, .quo, .lanes, .downlinks, .groups, .ash, .ring, .qry, .mrt, .streams, .uplinks, .retLanes, .lnt, .gau, .plb])
      (fun y _ h => .step (isolate_does y _) rfl h) (.refl _ _)).only.same .btr (by decide)
  exact h1.trans (.of_steady h1.tables (tickIsolates_steady s) hb)

theorem tickCloses_settles {s : State} (hs : TablesRise s) : Settled s (tickCloses s) := by
  unfold tickCloses
  split
  · exact .of_steady (k := false) hs (mortarStop_steady s) ((mortarStop_does s).only.same .btr (by decide))
  · exact .refl hs

theorem stepFive_settles (c : Nat) {s : State} (hs : TablesRise s) : Settled s (stepFive c s) := by
  rw [stepFive_eq]
  have h1 := tickRestart_settles c hs
  have h2 := h1.trans (tickCloses_settles h1.tables)
  have h3 := h2.trans (tickIsolates_settles h2.tables)
  exact h3.trans (tickStop_settles h3.tables)

theorem stepLast_settles (c : Nat) {s : State} (hs : TablesRise s) : Settled s (stepLast c s) := by
  have h1 : Settled s (forN 64 offenceTick s) :=
    .of_steady hs (.forN (fun p _ h => .step (offenceTick_steady p _) h) (.refl s))
      ((Does.forN (L := [.regs, .flt, .port0, .port1, .quo, .lanes, .downlinks, .partners, .groups]) (fun p _ h => .step (offenceTick_does p _) rfl h) (.refl _ _)).only.same .btr (by decide))
  have h2 := h1.trans (.of_does h1.tables (serviceTick_does c _))
  have h3 := h2.trans (.of_steady (k := false) h2.tables (quoTickWorst_steady _) ((quoTickWorst_does _).only.same .btr (by decide)))
  exact h3.trans (.of_steady (k := false) h3.tables (statusBeacons_steady c _) ((statusBeacons_does c _).only.same .btr (by decide)))

/-- The tick after step 3. -/
def afterThree (c : Nat) (o : TickObs) (free : Bool) (d : TickDue) (s : State) : State :=
  tickSignal c (stepLast c (stepFive c (quarryTick c (stepFour c o free d s))))

theorem afterThree_settles (c : Nat) (o : TickObs) (free : Bool) (d : TickDue) {s : State} (hs : TablesRise s) :
    Settled (beforeQuoin c d.maps s) (afterThree c o free d s) := by
  have h1 := stepFour_settles c o free d hs
  have h2 := h1.trans (.of_does h1.tables (quarryTick_does c _))
  have h3 := h2.trans (stepFive_settles c h2.tables)
  have h4 := h3.trans (stepLast_settles c h3.tables)
  exact h4.trans (.of_does h4.tables (tickSignal_does c _))

end Sys2Proof.Machine
end

section
/-!
O20: steps 1 and 2 of a course tick, and the whole tick (R9, R22, R337, R353).
-/
namespace Sys2Proof.Machine

/-! ### Steps 1 and 2 are steady -/

theorem plbCycleEnd_steady {k : Bool} (s : State) : Steady k s (plbCycleEnd s) := by
  unfold plbCycleEnd
  split
  · have h : Steady k s (s.modPlb fun p => { p with waiting := none }) := State.modPlb_steady _ s fun _ h => h
    exact .ite (.step (plbMiss_steady ..) h) h
  · exact .refl s

/-- A change of the Buttress alone. -/
theorem modBtr_steady {k : Bool} {f : Buttress → Buttress} {s : State} (hf : Rises s.btr.cb → Rises (f s.btr).cb) : Steady k s (s.modBtr f) :=
  ⟨fun hs => ⟨{ hs with cb := hf hs.cb }, .keep rfl rfl rfl rfl⟩⟩

theorem courseRest_steady {k : Bool} (s : State) : Steady k s (courseRest s) := by
  unfold courseRest
  exact .step (modBtr_steady fun h => h) (.does (lossSample_does ..) rfl (.step (plbDrain_steady ..) (plbCycleEnd_steady s)))

theorem courseRest_cb (s : State) : (courseRest s).btr.cb = s.btr.cb := by
  have did : Does [.regs, .flt, .port0, .port1, .mem, .plb, .lnt] s
      (lossSample (nowGbt s) (nowCourse s * 64 + 63) (plbDrain (min (2 * (1535 - nowCycle s)) (s.plb.queue.length + 1)) (plbCycleEnd s))) :=
    .step (lossSample_does ..) rfl (.step (plbDrain_does ..) rfl (.step (plbCycleEnd_does ..) rfl (.refl _ _)))
  unfold courseRest
  dsimp only
  exact (congrArg Buttress.cb (did.only.same .btr (by decide)) :)

/-- What changes only the Buttress is steady. -/
theorem Steady.of_btr {k : Bool} {s t : State} (h : Does [.btr] s t) : Steady k s t := .does h rfl (.refl s)

theorem voteResult_steady {k : Bool} (item c : Nat) (r : Option Nat) {s : State} {a : State × Bool} (h : Steady k s a.1) : Steady k s (voteResult item c r a).1 := by
  unfold voteResult
  split
  · exact h
  next n =>
    have noted : Steady k s (setCell .btrLastCourse 0 0 (w32 c) (setCell .btrLast 0 0 (mkFld 31 16 item ||| mkFld 1 0 n) a.1)) :=
      .step (setCell_steady rfl ..) (.step (setCell_steady rfl ..) h)
    have counted := Steady.step (count_steady (r := .btrOutvotes) rfl n 31 0 1 _) noted
    dsimp only
    split
    · exact .step (raise_steady ..) (.step (event_steady (r := .btrEvt) rfl ..) noted)
    · split
      · exact counted
      · exact .step (raise_steady ..) (.step (event_steady (r := .btrEvt) rfl ..) counted)

theorem btrReports_steady {k : Bool} (c : Nat) (results : List (Nat × Option Nat)) (s : State) : Steady k s (btrReports c results s) := by
  have all (l : List (Nat × Option Nat)) : ∀ a : State × Bool, Steady k s a.1 → Steady k s (l.foldl (fun a x => voteResult x.1 c x.2 a) a).1 := by
    induction l with
    | nil => exact fun _ h => h
    | cons x l ih => exact fun a h => ih _ (voteResult_steady _ _ _ h)
  exact all results _ (.refl s)

theorem retrainCountReset_steady {k : Bool} (s : State) : Steady k s (retrainCountReset s) := by
  unfold retrainCountReset
  exact .ite (.forN (fun l _ h => .step (modCell_steady rfl l _ _) h) (.refl s)) (.refl s)

theorem perCourse_steady {k : Bool} (s : State) : Steady k s (perCourse s) := by
  have h : Steady k s (retrainCountReset (codeErrTick s)) := .step (retrainCountReset_steady _) (.does (codeErrTick_does s) rfl (.refl s))
  exact ⟨fun hs => ⟨(perCourse_does s).tables hs, (h.keeps hs).2.trans (.keep rfl rfl rfl rfl)⟩⟩

theorem releaseBefore_steady {k : Bool} (c : Nat) (s : State) : Steady k s (releaseBefore c s) := by
  unfold releaseBefore
  refine .forN (fun m _ h => .step (freeMoved_steady m _) h) (.does (State.modRing_does _ _ fun y hy => ⟨rises_filter hy.1, hy.2⟩) rfl ?_)
  exact .forL (fun _ _ h => .does (modQuarter_does ..) rfl h) (.refl s)

theorem ringRelease_steady {k : Bool} (c : Nat) (s : State) : Steady k s (ringRelease c s) := by
  unfold ringRelease
  exact .step (releaseBefore_steady ..) (.does (State.modRing_does _ _ fun y hy => ⟨hy.1, rises_map (fun _ => rfl) hy.2.1, hy.2.2⟩) rfl (.refl s))

/-! ### What steps 1 and 2 leave -/

/-- Steps 1 and 2 after the vote, up to the counters and the time. -/
def tickCounts (c : Nat) (o : TickObs) (s : State) : State := quoTickLatch c o (countersTick c (btrInject s))

theorem stepTwo_eq (c : Nat) (o : TickObs) (v : State × List (Nat × Option Nat)) :
    stepTwo c o v = ringRelease c (closeCourse c (perCourse (btrReports c v.2 (tickCounts c o v.1)))) := rfl

/-- Steps 1 and 2 after the counters leave them, and what is watched. -/
theorem afterCounts_steady (c : Nat) (l : List (Nat × Option Nat)) (s : State) : Steady true s (ringRelease c (closeCourse c (perCourse (btrReports c l s)))) :=
  .step (ringRelease_steady ..) (.does (closeCourse_does ..) rfl (.step (perCourse_steady _) (btrReports_steady ..)))

theorem afterCounts_btr (c : Nat) (l : List (Nat × Option Nat)) (s : State) : (ringRelease c (closeCourse c (perCourse (btrReports c l s)))).btr = s.btr :=
  ((ringRelease_does ..).only.same .btr (by decide)).trans <| ((closeCourse_does ..).only.same .btr (by decide)).trans <|
    ((perCourse_does _).only.same .btr (by decide)).trans ((btrReports_does ..).only.same .btr (by decide))

/-- R22: the counters at the tick, and the time that it latches. -/
theorem tickCounts_counts (c : Nat) (o : TickObs) (s : State) : nowCourse (tickCounts c o s) = c % 2 ^ 56 ∧ nowCycle (tickCounts c o s) = 0 ∧
    (tickCounts c o s).quo.tickTime = o.time ∧ (tickCounts c o s).btr.cb = (btrInject s).btr.cb := by
  have hcourse : (tickCounts c o s).btr.course.val = BitVec.ofNat 56 c := Tri.val_move ..
  have hpos : (tickCounts c o s).btr.pos.val = 0 := Tri.val_move ..
  refine ⟨?_, ?_, rfl, rfl⟩
  · rw [nowCourse, hcourse, BitVec.toNat_ofNat]
  · rw [nowCycle, nowBt, hpos]
    rfl

theorem quoTickLatch_keeps (c : Nat) (o : TickObs) (s : State) : cell (quoTickLatch c o s) .hstCb = cell s .hstCb ∧
    ∀ k : Nat, (stream (quoTickLatch c o s) k).move = (stream s k).move := ⟨rfl, fun _ => rfl⟩

/-- R9, R22, R337: what steps 1 and 2 leave of the counters, the time, the course-buffered registers and the moves. -/
theorem stepTwo_leaves {s : State} (hs : TablesRise s) (c : Nat) (o : TickObs) {u : State} (hu : u = stepTwo c o (btrVote (courseRest s))) :
    TablesRise u ∧ nowCourse u = c % 2 ^ 56 ∧ nowCycle u = 0 ∧ u.quo.tickTime = o.time ∧ cell u .hstCb = cell s .hstCb ∧
    (∀ k : Nat, (stream u k).move = (stream s k).move) ∧ ∀ x ∈ cbOrder, (cbReg u x.1 x.2).Says (cbReg s x.1 x.2) := by
  obtain ⟨ta, ka⟩ := (courseRest_steady (k := true) s).keeps hs
  obtain ⟨tv, kv⟩ := (Steady.of_btr (k := true) (btrVote_does (courseRest s))).keeps ta
  have cbv (x : Reg × Nat) : cbReg (btrVote (courseRest s)).1 x.1 x.2 = ⟨.of (cbReg s x.1 x.2).copies.val, (cbReg s x.1 x.2).waiting⟩ := by
    have h : cbReg (courseRest s) x.1 x.2 = cbReg s x.1 x.2 := by unfold cbReg; rw [courseRest_cb]
    rw [cbReg_btrVote, h]
  rw [stepTwo_eq] at hu
  generalize (btrVote (courseRest s)).1 = v at hu tv kv cbv
  have counted : Does [.btr] v (countersTick c (btrInject v)) := .step (countersTick_does ..) rfl (btrInject_does v)
  obtain ⟨tw, kw⟩ := (Steady.of_btr (k := true) counted).keeps tv
  have latched := quoTickLatch_keeps c o (countersTick c (btrInject v))
  have tz : TablesRise (tickCounts c o v) := (quoTickLatch_does ..).tables tw
  obtain ⟨hcourse, hcycle, htime, hcb⟩ := tickCounts_counts c o v
  have ⟨tu, ku⟩ := (afterCounts_steady c (btrVote (courseRest s)).2 (tickCounts c o v)).keeps tz
  have hb := afterCounts_btr c (btrVote (courseRest s)).2 (tickCounts c o v)
  rw [← hu] at tu ku hb
  refine ⟨tu, ?_, ?_, ku.time.trans htime, ?_, fun k => ?_, fun x hx => ?_⟩
  · rw [← hcourse, nowCourse, nowCourse, hb]
  · rw [← hcycle, nowCycle, nowCycle, nowBt, nowBt, hb]
  · exact ku.hold.trans (latched.1.trans (kw.hold.trans (kv.hold.trans ka.hold)))
  · exact (ku.moves k).trans ((latched.2 k).trans ((kw.moves k).trans ((kv.moves k).trans (ka.moves k))))
  · have hz : cbReg u x.1 x.2 = cbReg (btrInject v) x.1 x.2 := by
      rw [cbReg_of hb]
      unfold cbReg
      rw [hcb]
    rw [hz]
    refine (cbReg_btrInject tv (fun y _ => ⟨_, by rw [cbv]⟩) hx).trans ?_
    rw [cbv]
    exact ⟨Tri.val_of _, rfl⟩

end Sys2Proof.Machine
end

section
/-!
O20: the whole course tick (R9, R22, R126, R270, R353).
-/
namespace Sys2Proof.Machine

/-! ### Step 3 and the moment -/

/-- The BT and the course stand, whatever else of the counters changes. -/
def SameMoment (s t : State) : Prop := t.btr.pos = s.btr.pos ∧ t.btr.course = s.btr.course

theorem SameMoment.forL {α : Type} {f : α → State → State} (h : ∀ a t, SameMoment t (f a t)) (l : List α) (s : State) : SameMoment s (Machine.forL l f s) := by
  induction l generalizing s with
  | nil => exact ⟨rfl, rfl⟩
  | cons a l ih =>
    obtain ⟨h1, h2⟩ := h a s
    obtain ⟨g1, g2⟩ := ih (f a s)
    exact ⟨g1.trans h1, g2.trans h2⟩

theorem bankTick_moment (g c : Nat) (dual : Bool) (ofs : Nat) (s : State) : SameMoment s (bankTick g c dual ofs s) := by
  unfold SameMoment
  rw [bankTick_btr, bankSets]
  split <;> exact ⟨rfl, rfl⟩

theorem applyTick_moment (c : Nat) (s : State) : SameMoment s (applyTick c s) := by
  unfold applyTick
  split
  · dsimp only
    unfold SameMoment
    rw [(lintelTablesTick_does ..).only.same .btr (by decide)]
    obtain ⟨h1, h2⟩ := SameMoment.forL (f := fun x t => setCb x.1 x.2 (cbReg t x.1 x.2).apply t) (fun _ _ => ⟨rfl, rfl⟩)
      (cbOrder.filter (fun x => (cbReg s x.1 x.2).waiting)) s
    obtain ⟨g1, g2⟩ := SameMoment.forL (f := fun (x : Nat × Bool × Nat) t => bankTick x.1 c x.2.1 x.2.2 t) (fun _ _ => bankTick_moment ..)
      (((List.range 32).filter (fun g => (cbReg s .ashTgCfg g).waiting || (cbReg s .ashCalSel g).waiting)).map
        (fun g => (g, dualMode s g, fld (inForce s .ashCalSel g) 0 0))) (cbApply s)
    exact ⟨g1.trans h1, g2.trans h2⟩
  · exact ⟨rfl, rfl⟩

theorem stepThree_moment (c : Nat) (s : State) : SameMoment s (stepThree c s) := by
  unfold stepThree
  split
  · exact ⟨rfl, rfl⟩
  · unfold SameMoment
    rw [(swapsTick_does ..).only.same .btr (by decide), (bindingsTick_does ..).only.same .btr (by decide)]
    exact applyTick_moment c s

/-! ### The words that are said -/

/-- R353: the value that a tick puts in force. -/
def tickWord (hold : Bool) (x : CbReg) : Word := if hold = false ∧ x.waiting = true then x.pend else x.force

/-- What a tick leaves of a course-buffered register that nothing else changes. -/
def CbReg.Ticked (hold : Bool) (x y : CbReg) : Prop :=
  y.waiting = (hold && x.waiting) ∧ y.force = tickWord hold x ∧ (hold = true → y.pend = x.pend)

theorem CbReg.Says.ticked_apply {x y : CbReg} (h : x.Says y) : CbReg.Ticked false y x.apply := by
  obtain ⟨hf, hp⟩ := h.words
  obtain ⟨h1, h2⟩ := CbReg.apply_waiting x
  refine ⟨h1, h2.trans ?_, fun h => by cases h⟩
  rw [hf, hp, h.2, tickWord]
  exact if_congr (by simp) rfl rfl

theorem CbReg.Says.ticked_hold {x y : CbReg} (h : x.Says y) : CbReg.Ticked true y x := by
  obtain ⟨hf, hp⟩ := h.words
  refine ⟨h.2, hf.trans (if_neg ?_).symm, fun _ => hp⟩
  rintro ⟨h, -⟩
  cases h

/-- R353: course-buffered registers after step 3, but for the groups' banks. -/
theorem stepThree_ticked {s u : State} (hu : TablesRise u) (hold : cell u .hstCb = cell s .hstCb) {x : Reg × Nat} (hx : x ∈ cbOrder)
    (said : (cbReg u x.1 x.2).Says (cbReg s x.1 x.2)) (hn : x.1 ≠ .ashCalSel) (c : Nat) :
    CbReg.Ticked (bit (cell s .hstCb) 0) (cbReg s x.1 x.2) (cbReg (stepThree c u) x.1 x.2) := by
  rw [cbReg_stepThree hu c hx, hold]
  cases bit (cell s .hstCb) 0 with
  | true => exact said.ticked_hold
  | false =>
    rw [if_neg Bool.false_ne_true, tickApplies, if_neg fun h => hn h.1]
    exact said.ticked_apply

theorem CbReg.bankZero_words (x : CbReg) : x.bankZero.force = setFld x.force 0 0 0 ∧ x.bankZero.waiting = x.waiting := ⟨(CbReg.words_of ..).1, rfl⟩

theorem bankResets_iff (dual now : Bool) (ofs : Nat) : bankResets dual now ofs = true ↔ (dual = false ∧ now = true) ∨ (dual = true ∧ now = false ∧ ofs = 1) := by
  cases dual <;> cases now <;> simp [bankResets]

/-- R126, R353: a group's banks after step 3. -/
theorem stepThree_banks {s u : State} (hu : TablesRise u) (hold : cell u .hstCb = cell s .hstCb)
    (said : ∀ x ∈ cbOrder, (cbReg u x.1 x.2).Says (cbReg s x.1 x.2)) (g : Fin 32) (c : Nat) :
    (cbReg (stepThree c u) .ashCalSel g).waiting = (bit (cell s .hstCb) 0 && (cbReg s .ashCalSel g).waiting) ∧
    inForce (stepThree c u) .ashCalSel g = (if (dualMode s g = false ∧ dualMode (stepThree c u) g = true) ∨
        (dualMode s g = true ∧ dualMode (stepThree c u) g = false ∧ fld (inForce s .ashCalSel g) 0 0 = 1)
      then setFld (tickWord (bit (cell s .hstCb) 0) (cbReg s .ashCalSel g)) 0 0 0 else tickWord (bit (cell s .hstCb) 0) (cbReg s .ashCalSel g)) := by
  obtain ⟨hsel, hcfg⟩ := cbOrder_banks g
  have sel := said _ hsel
  have hdual : dualMode u g = dualMode s g := congrArg (bit · 0) (said _ hcfg).words.1
  have hofs : inForce u .ashCalSel g = inForce s .ashCalSel g := sel.words.1
  have e := cbReg_stepThree hu c hsel
  have k := cbReg_stepThree hu c hcfg
  rw [hold] at e k
  dsimp only at e k sel
  unfold inForce at hofs ⊢
  cases hh : bit (cell s .hstCb) 0 with
  | true =>
    rw [hh, if_pos rfl] at e k
    have hnow : dualMode (stepThree c u) g = dualMode s g := by rw [← hdual, dualMode, inForce, k]; rfl
    obtain ⟨h1, h2, -⟩ := sel.ticked_hold
    rw [hnow, e, h1, h2, if_neg]
    · exact ⟨rfl, rfl⟩
    · rintro (⟨a, b⟩ | ⟨a, b, -⟩) <;> rw [a] at b <;> cases b
  | false =>
    rw [hh, if_neg Bool.false_ne_true] at e k
    have hk : tickApplies u (.ashTgCfg, g.val) = (cbReg u .ashTgCfg g).apply := if_neg fun h => by cases h.1
    have hnow : bit (cbReg u .ashTgCfg g).apply.force 0 = dualMode (stepThree c u) g := by rw [dualMode, inForce, k, hk]
    obtain ⟨h1, h2, -⟩ := sel.ticked_apply
    have e' : tickApplies u (.ashCalSel, g.val) = if (dualMode s g = false ∧ dualMode (stepThree c u) g = true) ∨
        (dualMode s g = true ∧ dualMode (stepThree c u) g = false ∧ fld (cbReg s .ashCalSel g).force 0 0 = 1)
        then (cbReg u .ashCalSel g).apply.bankZero else (cbReg u .ashCalSel g).apply := by
      unfold tickApplies inForce
      dsimp only
      rw [hnow, hdual, hofs]
      exact if_congr ((and_iff_right rfl).trans (bankResets_iff ..)) rfl rfl
    rw [e, e']
    split
    · exact ⟨h1, by rw [(CbReg.bankZero_words _).1, h2]⟩
    · exact ⟨h1, h2⟩

/-! ### The tick -/

theorem courseTick_eq (o : TickObs) (s : State) : ∃ u : State, u = stepTwo (counterVote s.btr.course + 1) o (btrVote (courseRest s)) ∧
    courseTick o s = afterThree (counterVote s.btr.course + 1) o (decide (s.quo.servo = .free)) (tickDue u) (stepThree (counterVote s.btr.course + 1) u) := by
  refine ⟨_, rfl, ?_⟩
  rw [← vote_course]
  rfl

/-- What the tick leaves after step 3. -/
theorem afterThree_keeps {s : State} (hs : TablesRise s) (c : Nat) (o : TickObs) (free : Bool) (d : TickDue) :
    SameMoment s (afterThree c o free d s) ∧ (afterThree c o free d s).quo.tickTime = s.quo.tickTime ∧
    (∀ y ∈ cbOrder, y.1 ≠ .uplStreamMap → cbReg (afterThree c o free d s) y.1 y.2 = cbReg s y.1 y.2) ∧
    (∀ k < 48, (∀ m, (stream s k).move = some m → m.boundary ≠ c) → roleOf (afterThree c o free d s) k = roleOf s k) ∧
    (∀ k < 48, ∀ m, (stream s k).move = some m → m.boundary = c → roleOf (afterThree c o free d s) k = rolePasses (roleOf s k)) := by
  have waits := beforeQuoin_waits c d.maps hs
  have settled := afterThree_settles c o free d hs
  have h1 : Settled s (tickResolves d.maps s) := .of_steady (k := true) hs (tickResolves_steady ..) ((tickResolves_does ..).only.same .btr (by decide))
  have h2 := h1.trans (.of_steady (k := true) h1.tables (migrationTick_steady c _) ((migrationTick_does ..).only.same .btr (by decide)))
  obtain ⟨m1, m2, m3⟩ := movesTick_keeps h2.tables c
  have role (k : Nat) : roleOf (migrationTick c (tickResolves d.maps s)) k = roleOf s k := Prod.ext (cbReg_of h2.btr ..) (h2.moves k)
  have after (k : Nat) : roleOf (afterThree c o free d s) k = roleOf (beforeQuoin c d.maps s) k := Prod.ext (cbReg_of settled.btr ..) (settled.moves k)
  refine ⟨⟨?_, ?_⟩, ?_, fun y hy hn => ?_, fun k hk hn => ?_, fun k hk m hm hb => ?_⟩
  · rw [settled.btr, waits.pos]
  · rw [settled.btr, waits.course]
  · rw [settled.time, waits.quo]
  · exact (cbReg_of settled.btr ..).trans ((m1 y hy hn).trans (cbReg_of h2.btr ..))
  · exact (after k).trans ((m2 k hk fun m hm => hn m ((h2.moves k).symm.trans hm)).trans (role k))
  · exact (after k).trans ((m3 k hk m ((h2.moves k).trans hm) hb).trans (congrArg rolePasses (role k)))

theorem rolePasses_words {x : CbReg × Option MovePending} {m : MovePending} (h : x.2 = some m) :
    (rolePasses x).1.force = m.puts x.1.force ∧ (rolePasses x).1.waiting = x.1.waiting ∧ (rolePasses x).2 = none := by
  unfold rolePasses
  rw [h]
  exact ⟨(CbReg.words_of ..).1, rfl, rfl⟩

theorem courseTick_leaves (obs : TickObs) (s : State) (hs : TablesRise s) {t : State} (ht : t = courseTick obs s) :
    nowCourse t = (counterVote s.btr.course + 1) % 2 ^ 56 ∧ nowCycle t = 0 ∧ t.quo.tickTime = obs.time ∧
    (∀ x ∈ cbOrder, x.1 ≠ .ashCalSel → x.1 ≠ .uplStreamMap → CbReg.Ticked (bit (cell s .hstCb) 0) (cbReg s x.1 x.2) (cbReg t x.1 x.2)) ∧
    (∀ g < 32, (cbReg t .ashCalSel g).waiting = (bit (cell s .hstCb) 0 && (cbReg s .ashCalSel g).waiting) ∧
      inForce t .ashCalSel g = (if (dualMode s g = false ∧ dualMode t g = true) ∨
          (dualMode s g = true ∧ dualMode t g = false ∧ fld (inForce s .ashCalSel g) 0 0 = 1)
        then setFld (tickWord (bit (cell s .hstCb) 0) (cbReg s .ashCalSel g)) 0 0 0 else tickWord (bit (cell s .hstCb) 0) (cbReg s .ashCalSel g))) ∧
    (∀ k < 48, (cbReg t .uplStreamMap k).waiting = (bit (cell s .hstCb) 0 && (cbReg s .uplStreamMap k).waiting) ∧
      ((∀ m : MovePending, (stream s k).move = some m → m.boundary ≠ counterVote s.btr.course + 1) →
        inForce t .uplStreamMap k = tickWord (bit (cell s .hstCb) 0) (cbReg s .uplStreamMap k) ∧ (stream t k).move = (stream s k).move) ∧
      ∀ m : MovePending, (stream s k).move = some m → m.boundary = counterVote s.btr.course + 1 →
        inForce t .uplStreamMap k = m.puts (tickWord (bit (cell s .hstCb) 0) (cbReg s .uplStreamMap k)) ∧ (stream t k).move = none) := by
  obtain ⟨u, hu, htick⟩ := courseTick_eq obs s
  obtain ⟨tu, ucourse, ucycle, utime, uhold, umoves, said⟩ := stepTwo_leaves hs _ obs hu
  generalize counterVote s.btr.course + 1 = c at *
  have three := stepThree_does c u
  have tthree := three.tables tu
  obtain ⟨m1, m2⟩ := stepThree_moment c u
  have moves (k : Nat) : (stream (stepThree c u) k).move = (stream s k).move :=
    (congrArg Stream.move (stream_of (three.only.same .streams (by decide)) k)).trans (umoves k)
  have time : (stepThree c u).quo.tickTime = obs.time := (congrArg Quoin.tickTime (three.only.same .quo (by decide))).trans utime
  obtain ⟨⟨a1, a2⟩, a3, a4, a5, a6⟩ := afterThree_keeps tthree c obs (decide (s.quo.servo = .free)) (tickDue u)
  rw [← htick, ← ht] at a1 a2 a3 a4 a5 a6
  have banks (g : Fin 32) := stepThree_banks tu uhold said g c
  refine ⟨?_, ?_, a3.trans time, fun x hx h1 h2 => ?_, fun g hg => ?_, fun k hk => ?_⟩
  · rw [← ucourse, nowCourse, nowCourse, a2, m2]
  · rw [← ucycle, nowCycle, nowCycle, nowBt, nowBt, a1, m1]
  · rw [a4 x hx h2]
    exact stepThree_ticked tu uhold hx (said x hx) h1 c
  · obtain ⟨hsel, hcfg⟩ := cbOrder_banks ⟨g, hg⟩
    have e1 : cbReg t .ashCalSel g = cbReg (stepThree c u) .ashCalSel g := a4 (.ashCalSel, g) hsel (show Reg.ashCalSel ≠ .uplStreamMap by decide)
    have e2 : dualMode t g = dualMode (stepThree c u) g := by
      have := a4 (.ashTgCfg, g) hcfg (show Reg.ashTgCfg ≠ .uplStreamMap by decide)
      unfold dualMode inForce
      exact congrArg (bit ·.force 0) this
    rw [inForce, e1, e2]
    exact banks ⟨g, hg⟩
  · obtain ⟨h1, h2, -⟩ := stepThree_ticked tu uhold (cbOrder_map ⟨k, hk⟩) (said _ (cbOrder_map ⟨k, hk⟩)) (show Reg.uplStreamMap ≠ .ashCalSel by decide) c
    have still (hn : ∀ m : MovePending, (stream s k).move = some m → m.boundary ≠ c) := a5 k hk fun m hm => hn m ((moves k).symm.trans hm)
    have passes (m : MovePending) (hm : (stream s k).move = some m) (hb : m.boundary = c) := a6 k hk m ((moves k).trans hm) hb
    have words {m : MovePending} (hm : (stream s k).move = some m) := rolePasses_words (x := roleOf (stepThree c u) k) ((moves k).trans hm)
    refine ⟨?_, fun hn => ?_, fun m hm hb => ?_⟩
    · by_cases hd : ∃ m, (stream s k).move = some m ∧ m.boundary = c
      · obtain ⟨m, hm, hb⟩ := hd
        exact (congrArg (fun x => x.1.waiting) (passes m hm hb)).trans ((words hm).2.1.trans h1)
      · exact (congrArg (fun x => x.1.waiting) (still fun m hm hb => hd ⟨m, hm, hb⟩)).trans h1
    · exact ⟨(congrArg (fun x => x.1.force) (still hn)).trans h2, (congrArg Prod.snd (still hn)).trans (moves k)⟩
    · exact ⟨(congrArg (fun x => x.1.force) (passes m hm hb)).trans ((words hm).1.trans (congrArg m.puts h2)),
        (congrArg Prod.snd (passes m hm hb)).trans (words hm).2.2⟩

/-- Settles O20: the six clauses are a lemma each; the values that wait are followed through the vote, an injection, step 3, the banks and the moves. -/
theorem courseTickAdvances : Obligations.CourseTickAdvances := by
  unfold Obligations.CourseTickAdvances
  refine ⟨fun obs s hup hs => ?_, fun obs s hup => ?_, courseTick_stepTwo, fun c s hs _ => courseTick_stepThree c s hs, fun c obs free d s u hs _ hu => ?_,
    courseTick_stepFive⟩
  · obtain ⟨h1, h2, h3, h4, h5, h6⟩ := courseTick_leaves obs s hs rfl
    refine ⟨_, upNext_up hup, h1, h2, h3, fun x hx n1 n2 => ?_, fun g w hg hw => ?_, fun k w hk hw => ?_⟩
    · obtain ⟨a1, a2, a3⟩ := h4 x hx n1 n2
      refine ⟨fun hh => ?_, fun hh => ?_⟩
      · rw [hh] at a1 a2
        refine ⟨a2.trans (if_congr (and_iff_right rfl) rfl rfl), a1⟩
      · rw [hh] at a1 a2
        exact ⟨a2.trans (if_neg fun h => by cases h.1), a1, a3 hh⟩
    · rw [hw]
      exact h5 g hg
    · rw [hw]
      exact h6 k hk
  · obtain ⟨u, hu, h⟩ := courseTick_eq obs s
    exact ⟨_, _, u, rfl, rfl, hu, (upNext_up hup).trans (congrArg _ h)⟩
  · obtain ⟨h1, h2⟩ := courseTick_slots c obs free d s u hs hu
    exact ⟨h1, h2, courseTick_stepFour c obs free d s u hs hu⟩

end Sys2Proof.Machine
end
